-- ==== Sys2Proof/Machine/Cells.lean ====
section
/-! DEFINITION. Sparse storage in one canonical form: a list of (key, value) pairs, keys strictly rising, no entry equal to
what an unlisted key reads as. Every memory, register file and table of the model is one of these. -/

namespace Sys2Proof.Machine

/-- Sparse cells: `(key, value)` pairs. What an unlisted key reads as is given at each use. -/
abbrev Cells (α : Type) := List (Nat × α)

/-- The value at key `k`; `d` is what an unlisted key reads as. -/
def Cells.get {α : Type} (d : α) : Cells α → Nat → α
  | [], _ => d
  | (k', v) :: rest, k => if k' = k then v else Cells.get d rest k

/-- Places a pair in the sorted list, replacing the one with its key. -/
def Cells.insert {α : Type} : Cells α → Nat → α → Cells α
  | [], k, v => [(k, v)]
  | (k', v') :: rest, k, v =>
    if k' = k then (k, v) :: rest
    else if k < k' then (k, v) :: (k', v') :: rest
    else (k', v') :: Cells.insert rest k v

/-- Removes key `k`. -/
def Cells.erase {α : Type} : Cells α → Nat → Cells α
  | [], _ => []
  | (k', v') :: rest, k =>
    if k' = k then Cells.erase rest k else (k', v') :: Cells.erase rest k

/-- Writes key `k`; writing what an unlisted key reads as removes the entry. -/
def Cells.set {α : Type} [DecidableEq α] (d : α) (c : Cells α) (k : Nat) (v : α) : Cells α :=
  if v = d then c.erase k else c.insert k v

/-- Changes the value at key `k` by `f`. -/
def Cells.modify {α : Type} [DecidableEq α] (d : α) (c : Cells α) (k : Nat) (f : α → α) : Cells α :=
  c.set d k (f (c.get d k))

/-- All keys of a list lie above `k`. -/
def Cells.above {α : Type} (k : Nat) : Cells α → Bool
  | [] => true
  | (k', _) :: rest => k < k' && Cells.above k rest

/-- Keys strictly rising. -/
def Cells.sorted {α : Type} : Cells α → Bool
  | [] => true
  | (k, _) :: rest => Cells.above k rest && Cells.sorted rest

/-- The canonical form: keys strictly rising, no entry equal to the value `d` an unlisted key reads as. -/
def Cells.wf {α : Type} [DecidableEq α] (d : α) (c : Cells α) : Bool :=
  c.sorted && c.all (fun p => p.2 ≠ d)

/-- The listed keys. -/
def Cells.keys {α : Type} (c : Cells α) : List Nat := c.map Prod.fst

end Sys2Proof.Machine
end

