-- ==== Sys2Proof/Word.lean ====
section
/-! DEFINITION. Word types of the Ledric: the widths the spec names. -/

namespace Sys2Proof

/-- One byte. -/
abbrev Byte := BitVec 8
/-- A 32-bit register or instruction word (R14, R121). -/
abbrev Word := BitVec 32
/-- An audio sample or a vector lane, 18-bit two's complement (table "Arithmetic formats"). -/
abbrev Sample := BitVec 18
/-- An accumulator, 48-bit two's complement, Q13.34. -/
abbrev Acc := BitVec 48

end Sys2Proof
end

