-- ==== Sys2Proof/Machine/Hist.lean ====
section
/-! DEFINITION. Values by block: what was in force for each recent block, newest first. The stages of one block run
up to two blocks after its boundary (R16), so a stage reads the value of its own block. -/

namespace Sys2Proof.Machine

/-- `(first block, value)` pairs, newest first. -/
abbrev Hist (α : Type) := List (Nat × α)

/-- The value in force for block `n`: the newest entry that begins at or before it, else `d`. -/
def Hist.at {α : Type} (d : α) : Hist α → Nat → α
  | [], _ => d
  | (b, v) :: rest, n => if b ≤ n then v else Hist.at d rest n

/-- A new value from block `n` on; an entry for the same block is replaced. Six older entries are kept. -/
def Hist.push {α : Type} (h : Hist α) (n : Nat) (v : α) : Hist α := (n, v) :: (h.filter (fun p => p.1 ≠ n)).take 6

/-- The newest value. -/
def Hist.last {α : Type} (d : α) : Hist α → α
  | [] => d
  | (_, v) :: _ => v

end Sys2Proof.Machine
end

