-- ==== Sys2Proof/Syntax.lean ====
section
/-! DEFINITION. The commands of the block: operand types, then `Instr`, one constructor per row of spec/opcode_table.json.
An operand that carries the instant of an event is `t`, the value of the raw time counter RAW (R250) at that event. -/

namespace Sys2Proof

/-! ### Objects and tables (02_objects_and_pastures.md) -/

/-- A position in mm, three signed 24-bit values (table "Arithmetic formats"). -/
structure Pos where
  x : BitVec 24
  y : BitVec 24
  z : BitVec 24
  deriving DecidableEq, Repr

/-- The object record of R25. -/
structure ObjRec where
  enable    : Bool
  mode      : BitVec 2
  source    : BitVec 16
  homeZone  : BitVec 7
  pasture   : BitVec 8
  zoneMask  : BitVec 128
  k         : BitVec 8
  norm      : BitVec 2
  priority  : BitVec 8
  doff      : BitVec 25
  directOut : BitVec 10
  pos       : Pos
  deriving DecidableEq, Repr

/-- One waypoint of OBJ_PATH: a position and an arrival time on C (R30). -/
structure Waypoint where
  pos  : Pos
  time : Nat
  deriving DecidableEq, Repr

/-- A spectral record that has been damaged in DRAM (R78): output, tail or middle, coefficient record or input record, and the partition that reads it in the frame of the block in
which stage C begins. -/
structure SpecItem where
  output : Nat
  tail   : Bool
  coef   : Bool
  part   : Nat
  deriving DecidableEq, Repr

/-- A middle or tail output frame that is not complete when stage C begins (R78). -/
structure SpecLate where
  output : Nat
  tail   : Bool
  deriving DecidableEq, Repr

/-! ### Identification (04_room_correction.md) -/

/-- What an analysis frame measured for one slot (R87): RMS of the reference in 0.01 dB full scale, mean coherence with each
output of the hearing set in the units of XT, and whether a tile of the microphone carried SILENCE or NON_AUDIO. -/
structure IdentFrame where
  slot   : Fin 64
  refDb  : Int
  coh    : List (Nat × Nat)
  silent : Bool
  deriving DecidableEq, Repr

/-! ### Drover instruction fields (R122) -/

/-- Format M. -/
structure FmtM where
  bank : Bool
  va   : BitVec 6
  vb   : BitVec 6
  kb   : Bool
  bc   : Bool
  lane : BitVec 3
  n    : Bool
  z    : Bool
  ps   : BitVec 2
  u    : Bool
  deriving DecidableEq, Repr

/-- Format A. -/
structure FmtA where
  bank : Bool
  v    : BitVec 6
  sh   : BitVec 5
  add  : Bool
  deriving DecidableEq, Repr

/-- Format V. -/
structure FmtV where
  vd   : BitVec 6
  va   : BitVec 6
  vb   : BitVec 6
  kb   : Bool
  kd   : Bool
  imm4 : BitVec 4
  deriving DecidableEq, Repr

/-- Format T. -/
structure FmtT where
  vd : BitVec 6
  xd : BitVec 4
  g  : BitVec 2
  j  : Bool
  deriving DecidableEq, Repr

/-- Format XV. -/
structure FmtXV where
  v    : BitVec 6
  k    : Bool
  lane : BitVec 3
  x    : BitVec 4
  deriving DecidableEq, Repr

/-- Format L. -/
structure FmtL where
  reg  : BitVec 6
  k    : Bool
  ag   : BitVec 3
  upd  : Bool
  vec  : Bool
  lane : BitVec 3
  deriving DecidableEq, Repr

/-- Format W. -/
structure FmtW where
  xd  : BitVec 4
  xa  : BitVec 4
  imm : BitVec 18
  deriving DecidableEq, Repr

/-- Format X. -/
structure FmtX where
  xd  : BitVec 4
  xa  : BitVec 4
  xb  : BitVec 4
  pos : BitVec 5
  wm1 : BitVec 5
  deriving DecidableEq, Repr

/-- Format AX. -/
structure FmtAX where
  xd  : BitVec 4
  acc : BitVec 4
  h   : Bool
  deriving DecidableEq, Repr

/-- Format S. -/
structure FmtS where
  x   : BitVec 4
  sel : BitVec 8
  ag  : BitVec 3
  fld : BitVec 3
  scl : BitVec 2
  deriving DecidableEq, Repr

/-- Format B. -/
structure FmtB where
  cond   : BitVec 4
  xa     : BitVec 4
  target : BitVec 12
  deriving DecidableEq, Repr

/-- Format LP; `cnt` is COUNT, or XA in its top four bits. -/
structure FmtLP where
  lvl : Bool
  rot : Bool
  xc  : Bool
  cnt : BitVec 11
  le  : BitVec 12
  deriving DecidableEq, Repr

/-- Format P without FN. -/
structure FmtP where
  bank : Bool
  xa   : BitVec 4
  xb   : BitVec 4
  deriving DecidableEq, Repr

/-- Where a bundle issues: the core, whether the instruction stands in slot 1, and the word of the other slot (R121). -/
structure Issue where
  core    : Fin 32
  slot1   : Bool
  partner : BitVec 32
  deriving DecidableEq, Repr

/-- What a slot of a bundle holds (R121–R124); `undef` is an undefined encoding. -/
inductive DrvOp where
  | nop | undef
  | mac (f : FmtM) | cmr (f : FmtM) | cmi (f : FmtM)
  | accw (f : FmtA) | mova (f : FmtA) | amovx (f : FmtAX)
  | lcoef (f : FmtV) | vadd (f : FmtV) | vsub (f : FmtV) | vmax (f : FmtV) | vmin (f : FmtV) | vabs (f : FmtV) | vshr (f : FmtV)
  | vshl (f : FmtV) | vswp (f : FmtV) | vbc (f : FmtV) | vmov (f : FmtV)
  | movxv (f : FmtXV) | movvx (f : FmtXV) | tapph (f : FmtT) | tapgn (f : FmtT)
  | ldv (f : FmtL) | stv (f : FmtL) | sta (f : FmtL) | stas (f : FmtL)
  | ldw (f : FmtW) | stw (f : FmtW) | ldwf (f : FmtW) | stwf (f : FmtW)
  | add (f : FmtX) | sub (f : FmtX) | and_ (f : FmtX) | or_ (f : FmtX) | xor (f : FmtX) | shl (f : FmtX) | shr (f : FmtX) | sra (f : FmtX)
  | cmp (f : FmtX) | mulx (f : FmtX) | extu (f : FmtX) | exts (f : FmtX)
  | addi (f : FmtW) | movi (f : FmtW) | movhi (f : FmtW)
  | agset (f : FmtS) | agget (f : FmtS) | mts (f : FmtS) | mfs (f : FmtS) | scstep (f : FmtS)
  | br (f : FmtB) | brx (f : FmtB) | call (f : FmtB) | loop (f : FmtLP) | reti (f : FmtB)
  | take (f : FmtP) | give (f : FmtP) | done (f : FmtP) | tapset (f : FmtP) | taprd (f : FmtP) | accadd (f : FmtP) | accrc (f : FmtP)
  deriving DecidableEq, Repr

/-! ### Audio ports (09_audio_ports.md) -/

/-- One subframe of a received AES3 frame: whether its preamble was there, whether the rest held a biphase violation or a parity
error, the 24-bit audio word (time slots 4–27), the validity and channel-status bits. -/
structure Subframe where
  preamble : Bool
  biphase  : Bool
  parity   : Bool
  word     : BitVec 24
  v        : Bool
  c        : Bool
  deriving DecidableEq, Repr

/-! ### Sense converters (10_power_stage.md, 11_tally.md) -/

/-- What a correlation at 25 kHz sums of a channel's sense codes (R203, R219): real and imaginary part of the voltage and of the
current sum, in codes. -/
structure SenseSum where
  vRe : Int
  vIm : Int
  iRe : Int
  iIm : Int
  deriving DecidableEq, Repr

/-! ### Tally (11_tally.md) -/

/-- What a baseline correlation measured of a channel: its sums at 25 kHz. -/
structure LineMeas where
  ch   : Fin 24
  sums : SenseSum
  deriving DecidableEq, Repr

/-! ### Ethernet ports (12_ethernet.md) -/

/-- What the receiver found of a frame beside its bytes (R236): alignment error, PHY error. -/
structure RxErrors where
  align : Bool
  phy   : Bool
  deriving DecidableEq, Repr

/-- What a link is after a change (R234): block lock or synchronisation held, hi_ber, negotiation complete, link level of MACM, MACM speed. -/
structure LinkState where
  lock  : Bool
  hiBer : Bool
  anOk  : Bool
  pin   : Bool
  speed : BitVec 2
  deriving DecidableEq, Repr

/-! ### Host packets (14_verica_protocol.md) -/

/-- What step 1 of R277 finds of a packet: sound, marker or length wrong, CRC wrong. -/
inductive Framing where
  | good | badFrame | badCrc
  deriving DecidableEq, Repr

/-- A received packet without its opcode and its own payload fields (R274, R275, R297). `rsvFlags`, `rsvHdr` and `rsvPay` say
whether a reserved flag, header byte or payload byte or bit is not zero; `tagOk` is the outcome of the GCM tag (R276); `len`
is the payload length, prefixes included; `time` and `rampMs` are the prefixes of TIMED and RAMP; `t` is RAW when reception
completes. -/
structure Hdr where
  port     : Fin 6
  sess     : Nat
  major    : Nat
  minor    : Nat
  timed    : Bool
  ramp     : Bool
  event    : Bool
  more     : Bool
  prot     : Bool
  rsvFlags : Bool
  rsvHdr   : Bool
  rsvPay   : Bool
  seq      : BitVec 32
  framing  : Framing
  tagOk    : Bool
  len      : Nat
  time     : Nat
  rampMs   : Nat
  t        : Nat
  deriving DecidableEq, Repr

/-- The fields of a SESSION_OPEN request beside its header (R278): offered range, class, PLAIN, TAKEOVER, keepalive timeout in s, host key index, and whether the host
signature verifies under that key (R280). -/
structure OpenReq where
  minMajor : Nat
  minMinor : Nat
  maxMajor : Nat
  maxMinor : Nat
  cls      : Nat
  plain    : Bool
  takeover : Bool
  timeout  : Nat
  key      : Nat
  sigOk    : Bool
  deriving DecidableEq, Repr

/-! ### Commands of a session (15_commands.md)

A payload is held as its fields; reserved bytes are `rsvPay` of the header, and a count is the length of its list. -/

/-- An input of a ROUTE_SET (R312): kind byte, SOURCE or object, gain code. -/
structure BusIn where
  kind : BitVec 8
  src  : BitVec 16
  code : BitVec 16
  deriving DecidableEq, Repr

/-- The coefficients of a biquad section as a payload carries them, 3 bytes each (R312). -/
structure BqWords where
  b0 : BitVec 24
  b1 : BitVec 24
  b2 : BitVec 24
  a1 : BitVec 24
  a2 : BitVec 24
  deriving DecidableEq, Repr

/-- An entry of FIR_INSTALL (R312): output, PROPOSAL, the CRC-32 of the staging set or the proposal identifier. -/
structure InstallReq where
  output   : BitVec 16
  proposal : Bool
  word     : BitVec 32
  deriving DecidableEq, Repr

/-- The fields of IDENT_CONTROL (R312). `hearing` holds all 16 places, of which the first `n` count. -/
structure IdentReq where
  slot    : BitVec 8
  en      : Bool
  reset   : Bool
  avg     : BitVec 8
  xt      : BitVec 8
  output  : BitVec 16
  mic     : BitVec 16
  bulk    : BitVec 32
  n       : BitVec 8
  hearing : List (BitVec 16)
  target  : List (BitVec 16)
  deriving DecidableEq, Repr

/-- The fields of STREAM_RX_SET (R312). `formats` holds all four places (encoding, packet time), of which the first `n` count. -/
structure RxSet where
  ctx     : BitVec 8
  en      : Bool
  mac     : Bool
  pairEn  : Bool
  srcEn   : Bool
  ssrcEn  : Bool
  pair    : BitVec 8
  chans   : BitVec 8
  pt      : BitVec 8
  n       : BitVec 8
  dst     : BitVec 32
  src     : BitVec 32
  dport   : BitVec 16
  ssrc    : BitVec 32
  tsOfs   : BitVec 32
  formats : List (BitVec 8 × BitVec 8)
  deriving DecidableEq, Repr

/-- The fields of STREAM_TX_SET (R312): the channels are the length of `outs`. -/
structure TxSet where
  ctx     : BitVec 8
  en      : Bool
  mac0    : Bool
  mac1    : Bool
  csum    : Bool
  insTag  : Bool
  alarm   : Bool
  pt      : BitVec 8
  n       : BitVec 8
  ttl     : BitVec 8
  dscp    : BitVec 8
  dst     : BitVec 32
  sport   : BitVec 16
  dport   : BitVec 16
  ssrc    : BitVec 32
  tsOfs   : BitVec 32
  tci     : BitVec 16
  dmac    : BitVec 48
  formats : List (BitVec 8 × BitVec 8)
  outs    : List (BitVec 16)
  deriving DecidableEq, Repr

/-- The register words of PS_CONFIG in payload order (R312). -/
structure PsWords where
  cfg   : BitVec 32
  fsw   : BitVec 32
  time  : BitVec 32
  vfs   : BitVec 32
  sag   : BitVec 32
  cal   : BitVec 32
  probe : BitVec 32
  loop  : BitVec 32
  deriving DecidableEq, Repr

/-- The fields of TALLY_SCHEDULE (R312). -/
structure TallyReq where
  ctrl     : BitVec 8
  start    : BitVec 32
  len      : BitVec 16
  ofs      : BitVec 16
  sel      : BitVec 32
  cfg      : BitVec 32
  interval : BitVec 8
  tol      : BitVec 8
  deriving DecidableEq, Repr

/-- The fields of TIME_CONFIG (R312); `lat` holds the added TX and RX latency of MAC0, MAC1, MACM. -/
structure TimeReq where
  profile : BitVec 8
  domain  : BitVec 8
  master  : Bool
  layer2  : Bool
  qualOne : Bool
  pps     : Bool
  primary : BitVec 8
  backup  : BitVec 8
  linkOfs : BitVec 32
  kp      : BitVec 32
  ki      : BitVec 32
  rateMax : BitVec 16
  holdTo  : BitVec 16
  lockThr : BitVec 32
  stepThr : BitVec 32
  lat     : List (BitVec 16 × BitVec 16)
  deriving DecidableEq, Repr

/-- An entry of KEY_ROTATE (R308); `onCurve`: the key is a point of P-256. -/
structure KeyEntry where
  index   : BitVec 8
  set     : BitVec 8
  cls     : BitVec 8
  ports   : BitVec 8
  key     : BitVec 512
  onCurve : Bool
  deriving DecidableEq, Repr

/-- The fields of MSG_STORE before its samples (R312). -/
structure StoreReq where
  msg    : BitVec 8
  first  : Bool
  evac   : Bool
  offset : BitVec 32
  total  : BitVec 32
  crc    : BitVec 32
  deriving DecidableEq, Repr

/-! ### Supervisor and mirror (16_supervisor_and_mirror.md)

The Fold link carries parts of the state of one unit to the other, so the types of those parts stand here, in the namespace of the state. -/

namespace Machine

/-- A running trajectory (R30): start position and time, then the waypoints (axis values in mm, times on C). -/
structure Path where
  p0  : Int × Int × Int
  t0  : Nat
  wps : List ((Int × Int × Int) × Nat)
  deriving DecidableEq, Repr

/-- An object: the last accepted record, the record in force by block, the position and trajectory in force, and a route
change that waits for its block (R161, R162). -/
structure ObjSt where
  acc   : ObjRec
  hist  : Hist ObjRec
  pos   : Int × Int × Int
  path  : Option Path
  route : Option (Nat × ObjRec)
  deriving DecidableEq, Repr

/-- How the code of a gain path runs from its first sample on (R155, R417). -/
inductive GMode where
  | const (code : Int)
  | muted
  | ramp (a b : Int) (len : Nat) (toMute : Bool)
  deriving DecidableEq, Repr

/-- A piece of a gain path: first input sample, and what the code does from there. -/
structure GSeg where
  start : Nat
  mode  : GMode
  deriving DecidableEq, Repr

/-- A gain path (R417): held code as written, requested mute, and its pieces, newest first. -/
structure GainPath where
  held : Int
  mute : Bool
  segs : List GSeg
  deriving DecidableEq, Repr

/-- A change accepted and not yet in force. -/
inductive Act where
  /-- An RWS field takes its value: register address, bits, value. -/
  | fld (addr hi lo val : Nat)
  /-- RWS bits written by a register write: address, the bits written, the word. -/
  | shadow (addr mask val : Nat)
  /-- A gain path takes a code at an input sample, over a ramp of that many samples (0: a step). -/
  | gain (path : Nat) (code : Int) (start len : Nat)
  /-- A gain path is muted or unmuted. -/
  | mute (path : Nat) (on : Bool) (start len : Nat)
  /-- An object takes the fields of a record that are no route fields. -/
  | objFields (o : Nat) (r : ObjRec)
  | objMove (o : Nat) (p : Pos)
  | objPath (o : Nat) (w : List Waypoint)
  /-- A bus takes a route: EN, HOME_ZONE, ZONE_MASK, inputs (EN, KIND, SRC, code). -/
  | busRoute (b : Nat) (en : Bool) (home mask : Nat) (inputs : List (Bool × Bool × Nat × Int))
  /-- The microphone gate of an object opens or closes (R22). -/
  | gate (o : Nat) (isOpen : Bool)
  /-- An object is bound to the gate of a microphone (its number + 1), or to none (R22). -/
  | bind (o m : Nat)
  /-- A device parameter or a microphone gain takes its value: session, parameter, value. -/
  | param (sess p val : Nat)
  /-- A register of type RW whose configuration applies from this boundary: address, word. -/
  | reg (addr val : Nat)
  /-- The switching frequency code of a power channel. -/
  | psFreq (ch code : Nat)
  /-- A power channel is started or stopped by PS_ENABLE (R200). -/
  | psRun (ch : Nat) (start : Bool)
  /-- A message stops at this boundary (R307). -/
  | msgStop (m : Nat) (atEnd : Bool)
  /-- A safe-load set transfers at this boundary (R164, R169). -/
  | slCommit
  /-- The reply to an untimed SAFE_COMMIT leaves after its boundary (R164): session, opcode, sequence. -/
  | slReply (sess op seq : Nat)
  deriving DecidableEq, Repr

/-- A change and the block in which it takes effect. -/
structure Sched where
  blk : Nat
  act : Act
  deriving DecidableEq, Repr

/-- A coefficient set (R80, R420): length, taps (sparse), partitions whose record failed (R78). -/
structure FirSet where
  len    : Nat
  taps   : Cells Int
  failed : List (Bool × Nat)
  deriving DecidableEq, Repr

/-- How far a message is: being stored, valid, or left invalid by a failed CRC. -/
inductive MsgState where
  | storing | valid | bad
  deriving DecidableEq, Repr

/-- A library message: the session that stores it, EVAC, total length in bytes, CRC-32, the bytes received. -/
structure Msg where
  state : MsgState
  sess  : Option Nat
  evac  : Bool
  total : Nat
  crc   : Nat
  data  : List Byte
  deriving DecidableEq, Repr

/-- A play: message, first input sample, first sample past its stop, LOOP, plays, GAP in voice samples. -/
structure Play where
  msg     : Nat
  start   : Nat
  stop    : Option Nat
  loop    : Bool
  repeats : Nat
  gap     : Nat
  deriving DecidableEq, Repr

/-- An entry of the host enrolment table (R280, R308): highest permitted class, port mask, public key. -/
structure Enrol where
  cls   : Nat
  ports : Nat
  key   : BitVec 512
  deriving DecidableEq, Repr

/-- A task descriptor (R133). -/
structure Desc where
  flow  : Nat
  queue : Nat
  block : Nat
  seq   : Nat
  index : Nat
  entry : Nat
  arg   : Nat
  deriving DecidableEq, Repr

/-- A record of the state copy (R322). -/
inductive CopyItem where
  | obj (o : Nat) (x : ObjSt)
  | gain (path : Nat) (g : GainPath)
  /-- A mirrored register: address, value last written, value in force, as differences from its reset word. -/
  | reg (addr val live : Nat)
  | scheds (xs : List Sched)
  | plays (xs : List Play)
  /-- An output's limiter envelope g and FIR_SET. -/
  | chain (output g set : Nat)
  | blockCount (n : Nat)
  /-- Every record whose number has remainder `r` of 64, those at reset left out: objects, gain paths, mirrored registers (value last written, value in force). -/
  | objClass (r : Nat) (xs : List (Nat × ObjSt))
  | gainClass (r : Nat) (xs : List (Nat × GainPath))
  | regClass (r : Nat) (xs : List (Nat × Nat × Nat))
  deriving DecidableEq, Repr

/-- What a BULK transfer delivers (R322): committed fields outside the per-block set, words of the staged definitions and of a bank, a FIR staging set, an active coefficient set,
a library message, an entry of the enrolment table, a Tally baseline. -/
inductive BulkItem where
  | reg (addr val : Nat)
  | staged (word val : Nat)
  | bank (bank word val : Nat)
  | staging (output : Nat) (f : FirSet)
  | fir (output set : Nat) (f : FirSet)
  | msg (m : Nat) (x : Msg)
  | enrol (i : Nat) (e : Option Enrol)
  deriving DecidableEq, Repr

end Machine

/-- The header of a Fold frame as received (R319), and the identifier that HELLO and HEARTBEAT carry; `took` is the sender's takeover BLOCK_COUNT (R326). -/
structure FoldFrame where
  major    : Nat
  minor    : Nat
  role     : BitVec 2
  stop     : Bool
  degraded : Bool
  final    : Bool
  switch   : Bool
  prefer   : Bool
  last     : Bool
  seq      : Nat
  block    : Nat
  id       : Nat
  took     : Nat
  deriving DecidableEq, Repr

/-- A whole copy as received (R321, R322): its number, BACKLOG, whether every tile passes R52 with SOURCE 2,047 and SEQ k, and its records. -/
structure CopyIn where
  k       : Nat
  backlog : Bool
  good    : Bool
  items   : List Machine.CopyItem
  deriving DecidableEq, Repr

/-! ### Memory system (17_memory_system.md) -/

/-- A request presented to the Cellar in one cycle (R340, R341): matrix master (R332), DRAM byte address, requester class, real-time class or ordinary,
write, page hint OPEN, and the bank and row the controller places the channel address in (the spec gives no mapping; log entry 17). -/
structure DramArr where
  master : Nat
  addr   : Nat
  cls    : Fin 8
  rt     : Bool
  write  : Bool
  hint   : Bool
  bank   : Nat
  row    : Nat
  deriving DecidableEq, Repr

/-! ### Clocks (18_clocks_modes.md) -/

/-- A clock source with a monitor, in the bit order of CLK_STAT.FAIL (R352, R366). -/
inductive ClkSrc where
  | xo | pllA | pllB | cellarPll | audioPll | serdes
  deriving DecidableEq, Repr

/-- What wakes the device (R363): a press on a microphone, a GPIO edge, CS_N of an SPI port. -/
inductive WakeBy where
  | press (mic : Fin 4)
  | gpio (n : Fin 32) (falling : Bool)
  | hif (n : Fin 2)
  deriving DecidableEq, Repr

/-! ### Start-up (20_boot_identity.md) -/

/-- What the boot ROM finds of one image slot (R384–R386): whether the header passes the first and third check of R386 beside the key and rollback checks, VERSION, ROLLBACK,
KEY, REVOKE, FOLD_MAJOR, FOLD_MINOR of the firmware, DRAM, whether every section's hash passes, the measurement. -/
structure SlotCheck where
  header   : Bool
  version  : BitVec 32
  rollback : Nat
  key      : BitVec 2
  revoke   : BitVec 4
  major    : BitVec 8
  minor    : BitVec 8
  dram     : BitVec 32
  sections : Bool
  meas     : BitVec 256
  deriving DecidableEq, Repr

namespace Machine

/-- Straps, sampled at reset (R381): plaintext sessions, XO start delay code, firmware slot, mirror role, 96 kHz render
rate, reserved straps. -/
structure Straps where
  secPlain : Bool
  xo       : BitVec 2
  slot     : Bool
  role     : Bool
  rate96   : Bool
  rsv      : BitVec 3
  deriving DecidableEq, Repr

end Machine

/-- The commands (spec/opcode_table.json). -/
inductive Instr where
  /-- BLOCK_BOUNDARY (R48). The time unit signals the start of block k at t(k); BLOCK_COUNT advances and everything bound to that boundary takes effect. -/
  | blockBoundary (bus : Option Int) (t : Nat)
  /-- TAP_LIST_COMPLETE (R41). The Pasture engine finishes writing the tap list of a block for the Drover cores. -/
  | tapListComplete (blk : Nat)
  /-- LANDING_DEADLINE (R19). The landing deadline of a block passes; this is tick point 1, where late tiles and tap lists are judged and the next window opens. -/
  | landingDeadline (specFail : List SpecItem) (specLate : List SpecLate) (t : Nat)
  /-- RELEASE_DEADLINE (R20). The release deadline of a block passes; output blocks not released are presented as silence and counted. -/
  | releaseDeadline (lateOuts : List Nat) (t : Nat)
  /-- SOUND_RATE_UPDATE (R37). With speed tracking on, the firmware writes a new PST_SOUND_RATE from the temperature at most every 10 s. -/
  | soundRateUpdate (code : BitVec 14) (t : Nat)
  /-- TILE_PRESENT (R54). A producer presents a tile to the history store, which lands it or discards it as late or early. -/
  | tilePresent (source : BitVec 16) (seq : BitVec 16) (payload : BitVec 576) (nonAudio : Bool) (t : Nat)
  /-- LONG_RING_COPY (R63). The Cellar-side DMA completes the copy of a landed tile into its source's long ring. -/
  | longRingCopy (ring : Fin 1024) (blk : Nat)
  /-- LONG_COPY_OVERDUE (R342). A long-ring copy not complete 6 blocks after its landing deadline asserts real-time panic. -/
  | longCopyOverdue (ring : Fin 1024) (blk : Nat)
  /-- PANIC_START (R64). At t(n+1) + 625 µs with long reads outstanding, the render asserts real-time panic to the Cellar. -/
  | panicStart (got : List (Nat × Nat)) (t : Nat)
  /-- LONG_READ_AGE (R64). A long read older than HST_PANIC.AGE asserts real-time panic. -/
  | longReadAge (got : List (Nat × Nat)) (t : Nat)
  /-- LONG_TILE_DEADLINE (R64). A long tile not delivered by t(n+1) + 725 µs is treated as failed and counted. -/
  | longTileDeadline (got : List (Nat × Nat)) (t : Nat)
  /-- SCRUB_READ (R66). Every INTERVAL blocks the history store reads and checks the next ring slot. -/
  | scrubRead (t : Nat)
  /-- ODLY_TILE_DEADLINE (R70). An output delay-ring tile not delivered by t(n+1) + 1,000 µs fails and is counted. -/
  | odlyTileDeadline (output : Nat) (blk : Nat)
  /-- INSTALL_SPECTRA_DONE (R81). The transform of FIR staging sets into partition spectra completes, fixing block F of the install. -/
  | installSpectraDone (output : Nat) (t : Nat)
  /-- IDENT_FRAME (R87). An identification analysis frame completes and is accepted or rejected for each slot. -/
  | identFrame (frames : List IdentFrame)
  /-- DISPATCH (R136). The Ostler delivers an eligible descriptor to a waiting core in rotation, completing its TAKE. -/
  | dispatch (waited : Nat) (blocked : Nat)
  /-- GIVE_ACCEPT (R109). A GIVE waiting on a full queue completes when the Ostler accepts the whole descriptor. -/
  | giveAccept (core : Fin 32) (waited : Nat) (full : Nat)
  /-- DONE_COMPLETE (R109). A DONE completes once every earlier ACCADD and outside store has been performed. -/
  | doneComplete (core : Fin 32)
  /-- WINDOW_RELEASE (R141). A reorder-window release waiting for a full target queue proceeds when room appears. -/
  | windowRelease (flow : Fin 4096)
  /-- SLICE_OVERRUN (R148). An idle task that has not completed DONE within SLICE cycles is counted and its flow blocked. -/
  | sliceOverrun (core : Fin 32) (t : Nat)
  /-- SUPERVISOR_POST (R146). A write to OST_POST3 posts the descriptor in OST_POST0–3, or is refused when the queue is full. -/
  | supervisorPost (word : BitVec 32)
  /-- PORT_READ_ARRIVAL (R112). Data of an outstanding port read arrive and release any bundle stalled on them. -/
  | portReadArrival (core : Fin 32) (index : Fin 8)
  /-- NOP (R124). Does nothing. -/
  | drvNop (at_ : Issue)
  /-- MAC (R125). Multiply-accumulates eight lanes into an accumulator bank. -/
  | drvMac (at_ : Issue) (f : FmtM)
  /-- CMR (R125). Accumulates the complex partial product with the real part of B. -/
  | drvCmr (at_ : Issue) (f : FmtM)
  /-- CMI (R125). Accumulates the complex partial product with the imaginary part of B. -/
  | drvCmi (at_ : Issue) (f : FmtM)
  /-- ACCW (R126). Widens V lanes shifted by SH into a bank, optionally adding. -/
  | drvAccw (at_ : Issue) (f : FmtA)
  /-- MOVA (R103). Moves accumulator lanes to a V register with rounding and saturation. -/
  | drvMova (at_ : Issue) (f : FmtA)
  /-- AMOVX (R124). Moves one half of an accumulator to an X register. -/
  | drvAmovx (at_ : Issue) (f : FmtAX)
  /-- LCOEF (R59). Writes the Lagrange coefficient c_k of each lane's phase. -/
  | drvLcoef (at_ : Issue) (f : FmtV)
  /-- VADD (R124). Adds vectors with saturation. -/
  | drvVadd (at_ : Issue) (f : FmtV)
  /-- VSUB (R124). Subtracts vectors with saturation. -/
  | drvVsub (at_ : Issue) (f : FmtV)
  /-- VMAX (R124). Takes the lane-wise maximum. -/
  | drvVmax (at_ : Issue) (f : FmtV)
  /-- VMIN (R124). Takes the lane-wise minimum. -/
  | drvVmin (at_ : Issue) (f : FmtV)
  /-- VABS (R124). Takes the saturated absolute value of each lane. -/
  | drvVabs (at_ : Issue) (f : FmtV)
  /-- VSHR (R124). Shifts lanes right with round half to even. -/
  | drvVshr (at_ : Issue) (f : FmtV)
  /-- VSHL (R124). Shifts lanes left with saturation. -/
  | drvVshl (at_ : Issue) (f : FmtV)
  /-- VSWP (R124). Swaps adjacent lane pairs. -/
  | drvVswp (at_ : Issue) (f : FmtV)
  /-- VBC (R124). Broadcasts one lane to every lane. -/
  | drvVbc (at_ : Issue) (f : FmtV)
  /-- VMOV (R124). Copies a V or K register, the only way to write K from V. -/
  | drvVmov (at_ : Issue) (f : FmtV)
  /-- MOVXV (R124). Writes one V lane from an X register. -/
  | drvMovxv (at_ : Issue) (f : FmtXV)
  /-- MOVVX (R124). Writes an X register from one V lane, sign-extended. -/
  | drvMovvx (at_ : Issue) (f : FmtXV)
  /-- TAPPH (R127). Computes the per-sample delay phases and integer delay of a tap group. -/
  | drvTapph (at_ : Issue) (f : FmtT)
  /-- TAPGN (R127). Computes the per-sample gains of a tap group. -/
  | drvTapgn (at_ : Issue) (f : FmtT)
  /-- LDV (R128). Loads elements through an address generator. -/
  | drvLdv (at_ : Issue) (f : FmtL)
  /-- STV (R128). Stores V or K lanes through an address generator. -/
  | drvStv (at_ : Issue) (f : FmtL)
  /-- STA (R128). Stores accumulator lanes narrowed with saturation. -/
  | drvSta (at_ : Issue) (f : FmtL)
  /-- STAS (R104). Stores accumulator lanes under a scale register, raising its shift if needed. -/
  | drvStas (at_ : Issue) (f : FmtL)
  /-- LDW (R124). Loads a local memory word into an X register. -/
  | drvLdw (at_ : Issue) (f : FmtW)
  /-- STW (R124). Stores an X register to a local memory word. -/
  | drvStw (at_ : Issue) (f : FmtW)
  /-- LDWF (R112). Issues a port read of a word over the fast matrix. -/
  | drvLdwf (at_ : Issue) (f : FmtW)
  /-- STWF (R124). Stores a word over the fast matrix. -/
  | drvStwf (at_ : Issue) (f : FmtW)
  /-- ADD (R124). Adds X registers and sets flags. -/
  | drvAdd (at_ : Issue) (f : FmtX)
  /-- SUB (R124). Subtracts X registers and sets flags. -/
  | drvSub (at_ : Issue) (f : FmtX)
  /-- AND (R124). Bitwise AND of X registers. -/
  | drvAnd (at_ : Issue) (f : FmtX)
  /-- OR (R124). Bitwise OR of X registers. -/
  | drvOr (at_ : Issue) (f : FmtX)
  /-- XOR (R124). Bitwise XOR of X registers. -/
  | drvXor (at_ : Issue) (f : FmtX)
  /-- SHL (R124). Shifts an X register left. -/
  | drvShl (at_ : Issue) (f : FmtX)
  /-- SHR (R124). Shifts an X register right logically. -/
  | drvShr (at_ : Issue) (f : FmtX)
  /-- SRA (R124). Shifts an X register right arithmetically. -/
  | drvSra (at_ : Issue) (f : FmtX)
  /-- CMP (R124). Compares X registers and sets flags only. -/
  | drvCmp (at_ : Issue) (f : FmtX)
  /-- MULX (R124). Multiplies X registers, keeping the low 32 bits. -/
  | drvMulx (at_ : Issue) (f : FmtX)
  /-- EXTU (R124). Extracts an unsigned bit field. -/
  | drvExtu (at_ : Issue) (f : FmtX)
  /-- EXTS (R124). Extracts a signed bit field. -/
  | drvExts (at_ : Issue) (f : FmtX)
  /-- ADDI (R124). Adds a sign-extended immediate. -/
  | drvAddi (at_ : Issue) (f : FmtW)
  /-- MOVI (R124). Loads a sign-extended immediate. -/
  | drvMovi (at_ : Issue) (f : FmtW)
  /-- MOVHI (R124). Loads the upper bits of an X register. -/
  | drvMovhi (at_ : Issue) (f : FmtW)
  /-- AGSET (R130). Writes one field of an address generator. -/
  | drvAgset (at_ : Issue) (f : FmtS)
  /-- AGGET (R130). Reads one field of an address generator. -/
  | drvAgget (at_ : Issue) (f : FmtS)
  /-- MTS (R130). Writes a special register such as SR, a loop register, RRB or SCLn. -/
  | drvMts (at_ : Issue) (f : FmtS)
  /-- MFS (R130). Reads a special register. -/
  | drvMfs (at_ : Issue) (f : FmtS)
  /-- SCSTEP (R105). Sets the next pass's shift of a scale register from its recorded peak. -/
  | drvScstep (at_ : Issue) (f : FmtS)
  /-- BR (R129). Branches on a condition after two delay bundles. -/
  | drvBr (at_ : Issue) (f : FmtB)
  /-- BRX (R129). Branches to an address held in an X register. -/
  | drvBrx (at_ : Issue) (f : FmtB)
  /-- CALL (R129). Branches and writes the return address to X15. -/
  | drvCall (at_ : Issue) (f : FmtB)
  /-- LOOP (R107). Starts a hardware loop at a level with a count, body end and rotation. -/
  | drvLoop (at_ : Issue) (f : FmtLP)
  /-- RETI (R114). Restores SR from ISR and returns to IPC. -/
  | drvReti (at_ : Issue) (f : FmtB)
  /-- TAKE (R109). Waits for the Ostler to deliver a task descriptor into X0–X3. -/
  | drvTake (at_ : Issue) (f : FmtP)
  /-- GIVE (R109). Offers the descriptor in X4–X7 to a queue, held or handed on as flow rules state. -/
  | drvGive (at_ : Issue) (f : FmtP)
  /-- DONE (R109). Ends the current task. -/
  | drvDone (at_ : Issue) (f : FmtP)
  /-- TAPSET (R110). Names the tap list block and entry range for the tap port. -/
  | drvTapset (at_ : Issue) (f : FmtP)
  /-- TAPRD (R110). Reads the next tap-list entry and its previous delay into X8–X12. -/
  | drvTaprd (at_ : Issue) (f : FmtP)
  /-- ACCADD (R111). Adds eight accumulator lanes indivisibly into an output accumulator set. -/
  | drvAccadd (at_ : Issue) (f : FmtP)
  /-- ACCRC (R111). Reads eight accumulator words into a bank and clears them indivisibly. -/
  | drvAccrc (at_ : Issue) (f : FmtP)
  /-- DRV_CORE_RESET (R120). A write of DRV_CTRL.RESET resets a core's state, keeping RUN and ROT. -/
  | drvCoreReset (core : Fin 32)
  /-- CORE_RUN (R119). Setting DRV_CTRL.RUN lets a reset core issue from bundle 0. -/
  | coreRun (core : Fin 32)
  /-- HALT_REQ (R117). A write of DRV_CTRL.HALT_REQ requests a debug halt, accepted or refused with HREF. -/
  | haltReq (core : Fin 32)
  /-- DRV_STEP (R117). A write of DRV_CTRL.STEP issues one bundle of a halted core and drains it. -/
  | drvStep (core : Fin 32)
  /-- DRV_RESUME (R117). A write of DRV_CTRL.RESUME continues a halted core. -/
  | drvResume (core : Fin 32)
  /-- SWAP_REQ (R43). A write of PST_CTRL.SWAP_REQ starts the CRC verification of the staged bank. -/
  | swapReq
  /-- VERIFY_COMPLETE (R43). Bank verification completes; a mismatch reports CHECK, a match arms the swap for its boundary. -/
  | verifyComplete (t : Nat)
  /-- SL_HOLD (R169). A write of MIX_SL_CTRL.HOLD holds or releases every RWS shadow at block boundaries. -/
  | slHold (hold : Bool)
  /-- SL_ARM (R169). A write of MIX_SL_CTRL.ARM transfers held shadows at the next boundary and clears HOLD. -/
  | slArm
  /-- TDM_FRAME (R174). A TDM frame completes: slots are captured and driven, frame length checked, lock and masks applied. -/
  | tdmFrame (port : Fin 16) (len : Nat) (bits : List (Bool × Bool)) (fsRise : Nat) (fsFall : Nat) (t : Nat)
  /-- AES3_FRAME (R181). An AES3 input frame is decoded: lock, parity, biphase and sample replacement. -/
  | aes3Frame (input : Fin 4) (z : Bool) (a : Subframe) (b : Subframe) (fs : Nat) (t : Nat)
  /-- ASRC_WINDOW (R186). A 1,024-frame window ends; the tracker updates its ratio and lock state. -/
  | asrcWindow (aes : Bool) (port : Fin 16)
  /-- ASRC_FS_TIMEOUT (R187). 1.00 ms without an FS or preamble makes a tracker lose lock. -/
  | asrcFsTimeout (aes : Bool) (port : Fin 16) (t : Nat)
  /-- MIC_ZERO_CROSSING (R189). A pending microphone gain is applied at a zero crossing of the voice signal. -/
  | micZeroCrossing (mic : Fin 4) (before : BitVec 18) (after : BitVec 18)
  /-- ZC_TIMEOUT (R189). A pending gain without a zero crossing within ZC_TO is applied and counted. -/
  | zcTimeout (mic : Fin 4) (t : Nat)
  /-- MIC_DETECTION_SAMPLE (R190). A detection sample is formed from four conversions and placed in a band. -/
  | micDetectionSample (mic : Fin 4) (c0 : BitVec 12) (c1 : BitVec 12) (c2 : BitVec 12) (c3 : BitVec 12) (t : Nat)
  /-- IDLE_BAND_HOLD (R191). An idle band held 200 ms sets CLASS or clears a fault. -/
  | idleBandHold (mic : Fin 4) (t : Nat)
  /-- FAULT_BAND_HOLD (R191). A fault or unplug band held 100 ms declares the fault or clears the class. -/
  | faultBandHold (mic : Fin 4) (t : Nat)
  /-- PRESS_DEBOUNCE (R192). The press debounce ends, PTT sets and a press event is sent. -/
  | pressDebounce (mic : Fin 4) (t : Nat)
  /-- RELEASE_DEBOUNCE (R192). The release debounce ends, PTT clears and a release event is sent. -/
  | releaseDebounce (mic : Fin 4) (t : Nat)
  /-- SWITCHING_PERIOD (R196). A switching period begins; the channel forms its modulation index and places its edges. -/
  | switchingPeriod (ch : Fin 24) (bus : BitVec 14) (oc : Bool) (t : Nat)
  /-- TRIP (R202). PSn_OC_N low for 10 ns forces all gates low for the rest of the period and counts a trip. -/
  | trip (ch : Fin 24) (t : Nat)
  /-- PROBE_START (R203). 500 ms after a stop the channel starts a silent 25 kHz impedance probe. -/
  | probeStart (ch : Fin 24) (t : Nat)
  /-- PROBE_END (R203). The probe ends; a sound line restarts the channel, otherwise the failure is counted. -/
  | probeEnd (ch : Fin 24) (sums : SenseSum) (t : Nat)
  /-- RESTART_RAMP_END (R203). The 200 ms restart ramp completes and the channel is RUNNING. -/
  | restartRampEnd (ch : Fin 24) (t : Nat)
  /-- PRINCIPAL_TRIP_FREE (R206). A principal that runs 500 ms without a trip, never stopped, stops its fallback. -/
  | principalTripFree (ch : Fin 24) (t : Nat)
  /-- DC_CHECK (R205). Every 10 ms the 100 ms output mean is formed and a mean above 2.0 V stops the channel. -/
  | dcCheck (ch : Fin 24) (sum : Int) (t : Nat)
  /-- LOOP_WINDOW (R208). A 2.00 ms B-end window ends and is judged as qualifying or loss. -/
  | loopWindow (ch : Fin 24) (codes : List (BitVec 14)) (t : Nat)
  /-- START_COMPLETE (R200). A channel's start completes and program modulation begins with its fade-in. -/
  | startComplete (ch : Fin 24) (t : Nat)
  /-- STOP_COMPLETE (R200). A channel's stop sequence ends with all gates low. -/
  | stopComplete (ch : Fin 24) (t : Nat)
  /-- CLEAR_FAULT_SHORT (R204). Clearing PWS_FAULT.SHORT of a LATCHED channel starts it under R200. -/
  | clearFaultShort (ch : Fin 24) (t : Nat)
  /-- CLEAR_FAULT_DC (R205). Clearing PWS_FAULT.DC starts the stopped channel under R200. -/
  | clearFaultDc (ch : Fin 24) (t : Nat)
  /-- CLEAR_FAULT_OPEN (R209). Clearing PWS_FAULT.OPEN on a B-end stops it and returns it to STANDBY. -/
  | clearFaultOpen (ch : Fin 24) (t : Nat)
  /-- TEST_WINDOW_OPEN (R214). The daily test window opens and line tests begin in channel order. -/
  | testWindowOpen (t : Nat)
  /-- TEST_WINDOW_CLOSE (R220). The test window closes; untested channels are logged with their last result. -/
  | testWindowClose (t : Nat)
  /-- LINE_TEST_SLOT (R218). A line test slot begins: the channel starts if OFF and the pilot ramps up, or it is SKIPPED. -/
  | lineTestSlot (t : Nat)
  /-- CORRELATION_START (R218). Settling completes 110 ms into the slot and correlation begins. -/
  | correlationStart (t : Nat)
  /-- CORRELATION_END (R219). Correlation ends; |Z| and arg Z are judged and logged, and the pilot ramps down. -/
  | correlationEnd (sums : SenseSum) (farRe : Int) (farIm : Int) (t : Nat)
  /-- PILOT_REMOVED (R218). The pilot is removed and a channel started for the test stops. -/
  | pilotRemoved (t : Nat)
  /-- PROGRAM_LIMIT_EXCEEDED (R220). Program above −PROG_MAX over 100 ms during correlation defers the test and ramps the pilot out. -/
  | programLimitExceeded (ch : Fin 24) (t : Nat)
  /-- LINE_TEST_RETRY (R220). A deferred or aborted test is retried 60 s later within the window. -/
  | lineTestRetry (t : Nat)
  /-- BASELINE_CAPTURE_END (R222). The 24 s baseline correlation ends; baselines are stored and the final reply sent. -/
  | baselineCaptureEnd (meas : List LineMeas) (t : Nat)
  /-- SELF_TEST_START (R225). Every INTERVAL seconds Tally clears ROT on the next core. -/
  | selfTestStart (t : Nat)
  /-- SELF_TEST_HALT (R225). Once the core idles in TAKE, Tally halts it, sets its PC to the self-test entry and resumes it. -/
  | selfTestHalt (t : Nat)
  /-- SELF_TEST_BREAKPOINT (R225). The core halts at the routine's last bundle and Tally reads and judges the signature. -/
  | selfTestBreakpoint (t : Nat)
  /-- SELF_TEST_TIMEOUT (R225). No signature within 50 ms of resume is TIMEOUT; rotation is held. -/
  | selfTestTimeout (t : Nat)
  /-- DRAM_SCRUB_SLICE (R224). A DRAM scrub slice checks long-ring, delay-ring and spectral records and flash messages. -/
  | dramScrubSlice (n : Nat) (t : Nat)
  /-- DRAM_SCRUB_TIMEOUT (R224). A scrub pass not complete within 24 h is logged TIMEOUT and restarted. -/
  | dramScrubTimeout (t : Nat)
  /-- FOLD_PATTERN_CHECK (R226). Every 10 min the Fold link sends 2^20 bits of PRBS-31 pattern. -/
  | foldPatternCheck (t : Nat)
  /-- FOLD_PATTERN_RESULT (R226). The partner's returned bit-error count is stored and logged. -/
  | foldPatternResult (errors : BitVec 32)
  /-- SENSE_REFERENCE_CHECK (R227). Hourly each sense channel samples the ±0.750 V references and is judged. -/
  | senseReferenceCheck (ch : Fin 50) (plus : Vector (BitVec 14) 4) (minus : Vector (BitVec 14) 4) (t : Nat)
  /-- RX_FRAME (R240). A received frame passes the address filter, steering filters and its ring, and is counted. -/
  | rxFrame (mac : Fin 3) (bytes : List Byte) (err : RxErrors) (cap : Nat) (t : Nat)
  /-- PAUSE_EXPIRY (R235). The pause quanta run out and transmission resumes. -/
  | pauseExpiry (mac : Fin 3) (t : Nat)
  /-- TX_FRAME_START (R246). At a frame boundary the port starts the oldest ready frame of the highest queue. -/
  | txFrameStart (mac : Fin 3) (cap : Nat) (t : Nat)
  /-- TX_FRAME_END (R247). A frame ends; its descriptors return, a TS_REQ entry is queued, errors are counted. -/
  | txFrameEnd (mac : Fin 3) (underrun : Bool)
  /-- LINK_CHANGE (R234). A port's link goes up or down, setting LINK_CHG and counting losses. -/
  | linkChange (mac : Fin 3) (link : LinkState)
  /-- MDIO_TRANSFER (R249). A write of MAC_MDIO with BUSY clear starts an MDIO transfer. -/
  | mdioTransfer (word : BitVec 32)
  /-- MDIO_COMPLETE (R249). The MDIO transfer completes and BUSY clears. -/
  | mdioComplete (data : BitVec 16)
  /-- SERVO_STEP (R257). A write of TSU_SERVO_IN runs the servo: step or rate update and lock judgement. -/
  | servoStep (theta : BitVec 32) (t : Nat)
  /-- HOLDOVER_TIMEOUT (R258). No offset for HOLD_TO ms clears LOCKED and enters HOLDOVER. -/
  | holdoverTimeout (t : Nat)
  /-- CONVERSION (R252). A write of TSU_CONV_IN_LO converts a raw value to corrected time. -/
  | conversion (lo : BitVec 32)
  /-- TXQ_READ (R255). A read of TSU_TXQ_TS_LO returns and removes the oldest transmit time-stamp entry. -/
  | txqRead (mac : Fin 3)
  /-- ANNOUNCE_TIMEOUT (R256). The primary time port's announce receipt times out and PTP moves to the backup port. -/
  | announceTimeout (t : Nat)
  /-- PPS_INPUT (R260). A rise on the 1PPS input is time-stamped on C. -/
  | ppsInput (t : Nat)
  /-- PPS_OUTPUT (R260). At each whole PTP second the 1PPS output rises for 100 ms. -/
  | ppsOutput (t : Nat)
  /-- STREAM_PACKET (R263). The stream engine takes a packet from its ring, matches and checks it, and fills tile positions. -/
  | streamPacket (mac : Fin 2) (ring : Fin 16) (t : Nat)
  /-- LEG_DOWN (R266). A leg without a valid packet for 10 ms sets LEG_DOWN. -/
  | legDown (ctx : Fin 128) (t : Nat)
  /-- SPI_WRITE (R272). An SPI WRITE transaction delivers one inbound packet, or is discarded. -/
  | spiWrite (port : Fin 2) (whole : Bool) (t : Nat)
  /-- SPI_READ (R272). An SPI READ transaction shifts out the oldest outbound packet. -/
  | spiRead (port : Fin 2) (t : Nat)
  /-- SPI_STATUS (R272). An SPI STATUS transaction shifts out the port status byte. -/
  | spiStatus (port : Fin 2) (t : Nat)
  /-- HALF_OPEN_TIMEOUT (R281). A session still half-open 2.00 s after its reply is closed. -/
  | halfOpenTimeout (sess : Fin 8) (t : Nat)
  /-- KEEPALIVE_TIMEOUT (R283). A session with no valid packet within its keepalive timeout is closed. -/
  | keepaliveTimeout (sess : Fin 8) (t : Nat)
  /-- RESET_DELAY (R290). 10 ms after RESET is answered the device resets. -/
  | resetDelay (straps : Machine.Straps) (t : Nat)
  /-- SCHEDULED_ACTION (R312). At the presentation time of SCHEDULE_EVENT a GPIO changes or a TIME event is sent. -/
  | scheduledAction (index : Nat) (t : Nat)
  /-- SESSION_OPEN (R278). Opens a session, negotiating version, class and keys. -/
  | sessionOpen (h : Hdr) (r : OpenReq)
  /-- SESSION_CLOSE (R283). Closes the session and releases what it owns. -/
  | sessionClose (h : Hdr)
  /-- KEEPALIVE (R312). Refreshes the timeout and returns stage, role and BLOCK_COUNT. -/
  | keepalive (h : Hdr)
  /-- CLAIM (R285). Claims zones, power channels and stream contexts whole or not at all. -/
  | claim (h : Hdr) (refs : List (BitVec 16))
  /-- RELEASE (R287). Releases resources, returning pre-empted ones to their former owner. -/
  | release (h : Hdr) (refs : List (BitVec 16))
  /-- PREEMPT (R286). Takes resources from lower-class owners where R3 permits. -/
  | preempt (h : Hdr) (refs : List (BitVec 16))
  /-- OBJ_DEFINE (R25). Sets an object's whole record. -/
  | objDefine (h : Hdr) (o : BitVec 16) (r : ObjRec)
  /-- OBJ_MOVE (R29). Sets object positions and ends running paths. -/
  | objMove (h : Hdr) (ms : List (BitVec 16 × Pos))
  /-- OBJ_PATH (R30). Gives an object a trajectory of waypoints. -/
  | objPath (h : Hdr) (o : BitVec 16) (w : List Waypoint)
  /-- OBJ_GAIN (R154). Changes object gain codes as steps or ramps. -/
  | objGain (h : Hdr) (es : List (BitVec 16 × BitVec 16))
  /-- OBJ_MUTE (R417). Mutes or unmutes objects as steps or ramps. -/
  | objMute (h : Hdr) (es : List (BitVec 16 × Bool))
  /-- OBJ_QUERY (R312). Returns object records and state. -/
  | objQuery (h : Hdr) (first : BitVec 16) (n : BitVec 16)
  /-- SPK_LAYOUT_LOAD (R34). Writes layout records into the staged bank. -/
  | spkLayoutLoad (h : Hdr) (first : BitVec 16) (rs : List (BitVec 256))
  /-- PASTURE_BUILD (R43). Starts a background build of the staged bank from pasture definitions. -/
  | pastureBuild (h : Hdr) (ds : List (BitVec 1664))
  /-- ZONE_DEFINE (R34). Stages a zone's outputs and ALARM flag. -/
  | zoneDefine (h : Hdr) (zone : BitVec 8) (alarm : Bool) (outs : List (BitVec 16))
  /-- ROUTE_SET (R150). Sets a bus's enable, mute, zones, inputs and gains. -/
  | routeSet (h : Hdr) (bus : BitVec 8) (en mute : Bool) (home : BitVec 8) (code : BitVec 16) (mask : BitVec 128) (ins : List BusIn)
  /-- ROUTE_QUERY (R311). Returns bus, object tap, build or zone information by selector. -/
  | routeQuery (h : Hdr) (sel : BitVec 8) (index : BitVec 16)
  /-- EQ_SET (R73). Sets an output's biquad sections and HEADROOM. -/
  | eqSet (h : Hdr) (output : BitVec 16) (headroom : BitVec 8) (cs : List BqWords)
  /-- FIR_LOAD (R305). Writes taps into an output's FIR staging set. -/
  | firLoad (h : Hdr) (output : BitVec 16) (lm1 : BitVec 16) (first : BitVec 16) (taps : List (BitVec 24))
  /-- FIR_INSTALL (R81). Installs staged FIR sets or proposals on up to 64 outputs. -/
  | firInstall (h : Hdr) (es : List InstallReq)
  /-- LIMITER_SET (R85). Sets an output's limiter enable, look-ahead, threshold and release. -/
  | limiterSet (h : Hdr) (output : BitVec 16) (en : Bool) (look : BitVec 8) (thresh : BitVec 16) (rel : BitVec 32)
  /-- OUT_DELAY (R71). Sets output delays with a crossfade. -/
  | outDelay (h : Hdr) (es : List (BitVec 16 × BitVec 16))
  /-- IDENT_CONTROL (R87). Configures, resets or frees an identification slot. -/
  | identControl (h : Hdr) (r : IdentReq)
  /-- IDENT_EXPORT (R90). Returns an identification record, optionally with a new proposal. -/
  | identExport (h : Hdr) (slot : BitVec 8) (propose : Bool)
  /-- STREAM_RX_SET (R263). Configures a receive stream context. -/
  | streamRxSet (h : Hdr) (r : RxSet)
  /-- STREAM_TX_SET (R267). Configures a transmit stream context. -/
  | streamTxSet (h : Hdr) (r : TxSet)
  /-- PORT_TDM_SET (R172). Configures a TDM port, its masks and channel map. -/
  | portTdmSet (h : Hdr) (port : BitVec 8) (cfg : BitVec 32) (tol : BitVec 16) (maskIn : BitVec 32) (maskOut : BitVec 32) (map : List (BitVec 16))
  /-- PORT_AES_SET (R184). Configures an AES3 input or output. -/
  | portAesSet (h : Hdr) (dir : BitVec 8) (index : BitVec 8) (cfg : BitVec 32) (map : BitVec 32) (template : BitVec 192)
  /-- MIC_SET (R189). Configures a microphone input and its detection. -/
  | micSet (h : Hdr) (input : BitVec 8) (cfg : BitVec 32) (det : BitVec 32)
  /-- ASRC_SET (R185). Configures an ASRC channel. -/
  | asrcSet (h : Hdr) (ch : BitVec 8) (bw : BitVec 8) (cfg : BitVec 32)
  /-- PS_CONFIG (R206). Configures a power channel and runs its frequency search. -/
  | psConfig (h : Hdr) (ch : BitVec 8) (w : PsWords)
  /-- PS_ENABLE (R200). Starts or stops power channels. -/
  | psEnable (h : Hdr) (es : List (BitVec 8 × BitVec 8))
  /-- PS_LOOP_PAIR (R207). Forms or dissolves a loop pair. -/
  | psLoopPair (h : Hdr) (ch : BitVec 8) (pair : Bool)
  /-- PS_BAND_PROTECT (R198). Sets protected broadcast frequencies and reports codes chosen. -/
  | psBandProtect (h : Hdr) (freqs : List (BitVec 16))
  /-- PS_STATUS (R312). Returns power channel status, faults, measurements and test results. -/
  | psStatus (h : Hdr) (first : BitVec 8) (n : BitVec 8)
  /-- PS_FAULT_CLEAR (R312). Clears power channel fault bits as writing PWS_FAULT does. -/
  | psFaultClear (h : Hdr) (es : List (BitVec 8 × BitVec 8))
  /-- TALLY_SCHEDULE (R214). Sets the Tally enables, window and test settings. -/
  | tallySchedule (h : Hdr) (r : TallyReq)
  /-- TALLY_RUN_NOW (R312). Runs one Tally test at once. -/
  | tallyRunNow (h : Hdr) (test : BitVec 8) (subject : BitVec 16)
  /-- TALLY_LOG_READ (R231). Returns Tally log entries from an index. -/
  | tallyLogRead (h : Hdr) (index : BitVec 16) (n : BitVec 16)
  /-- BASELINE_CAPTURE (R222). Starts a baseline impedance capture on up to 8 channels. -/
  | baselineCapture (h : Hdr) (chs : List (BitVec 8))
  /-- TIME_CONFIG (R256). Sets the PTP profile, ports, servo and link offset. -/
  | timeConfig (h : Hdr) (r : TimeReq)
  /-- TIME_STATUS (R312). Returns time unit and PTP status. -/
  | timeStatus (h : Hdr)
  /-- SCHEDULE_EVENT (R312). Schedules a GPIO change or TIME event at a presentation time. -/
  | scheduleEvent (h : Hdr) (action : BitVec 8) (gpio : BitVec 8) (tag : BitVec 32)
  /-- MIRROR_CONFIG (R318). Enables mirroring and sets PREFER_ACTIVE. -/
  | mirrorConfig (h : Hdr) (en : Bool) (prefer : Bool)
  /-- MIRROR_STATUS (R312). Returns mirror role, partner and path state. -/
  | mirrorStatus (h : Hdr)
  /-- MIRROR_SWITCHOVER (R325). Requests a planned handover at boundary s. -/
  | mirrorSwitchover (h : Hdr)
  /-- ATTEST (R310). Returns a signed attestation of versions, measurement and counter. -/
  | attest (h : Hdr) (nonce : BitVec 128)
  /-- CERT_READ (R392). Returns the device or intermediate CA certificate. -/
  | certRead (h : Hdr) (which : BitVec 8)
  /-- FW_BEGIN (R306). Opens a firmware transfer into the non-booted slot. -/
  | fwBegin (h : Hdr) (length : BitVec 32) (sha : BitVec 256)
  /-- FW_CHUNK (R306). Writes a contiguous chunk of the firmware image. -/
  | fwChunk (h : Hdr) (off : BitVec 32) (data : List Byte)
  /-- FW_COMMIT (R306). Checks the transferred image and marks its slot for the next boot. -/
  | fwCommit (h : Hdr)
  /-- KEY_ROTATE (R308). Writes entries of the host enrolment table. -/
  | keyRotate (h : Hdr) (es : List KeyEntry)
  /-- PARAM_READ (R401). Returns parameter values by PID. -/
  | paramRead (h : Hdr) (pids : List (BitVec 16))
  /-- PARAM_WRITE (R401). Writes parameters by PID. -/
  | paramWrite (h : Hdr) (es : List (BitVec 16 × BitVec 32))
  /-- SAFE_STAGE (R163). Adds entries to the session's safe-load staging set. -/
  | safeStage (h : Hdr) (es : List (BitVec 16 × BitVec 32))
  /-- SAFE_COMMIT (R164). Commits or discards the session's safe-load set. -/
  | safeCommit (h : Hdr) (action : BitVec 8)
  /-- COUNTERS_READ (R309). Returns 64-bit counter totals by counter ID. -/
  | countersRead (h : Hdr) (ids : List (BitVec 16))
  /-- MSG_STORE (R307). Stores a library message chunk by chunk. -/
  | msgStore (h : Hdr) (r : StoreReq) (data : List Byte)
  /-- MSG_PLAY (R307). Starts or restarts play of a library message. -/
  | msgPlay (h : Hdr) (m : BitVec 8) (loop : Bool) (repeats : BitVec 16) (gap : BitVec 16)
  /-- MSG_STOP (R307). Stops a message play now or at the end of the current play. -/
  | msgStop (h : Hdr) (m : BitVec 8) (atEnd : Bool)
  /-- SHED_CONFIG (R370). Sets the shedding thresholds, hysteresis and dwell. -/
  | shedConfig (h : Hdr) (s2 : BitVec 16) (s3 : BitVec 16) (s4 : BitVec 16) (hyst : BitVec 16) (dwell : BitVec 16)
  /-- SUPPLY_STATUS (R312). Returns shedding stage, mains, bus and temperature. -/
  | supplyStatus (h : Hdr)
  /-- MAINT_ENTER (R395). Enters or leaves maintenance mode. -/
  | maintEnter (h : Hdr) (enter : BitVec 8)
  /-- RAW_READ (R395). Reads raw register words in maintenance mode. -/
  | rawRead (h : Hdr) (addr : BitVec 32) (n : BitVec 16)
  /-- RAW_WRITE (R395). Writes raw register words in maintenance mode, bypassing commit checks. -/
  | rawWrite (h : Hdr) (addr : BitVec 32) (words : List (BitVec 32))
  /-- RESET (R290). Resets the whole device after its reply. -/
  | reset (h : Hdr)
  /-- DISAGREEMENT (R314). A Bellwether core differs from the majority in a cycle and is outvoted. -/
  | disagreement (core : Fin 3) (kind : BitVec 2) (addr : BitVec 27) (t : Nat)
  /-- HEARTBEAT_PERIOD (R320). At each 1 ms period a unit sends a HEARTBEAT, or HELLO while arbitrating, and toggles FLD_HBO. -/
  | heartbeatPeriod (t : Nat)
  /-- HELLO (R318). A HELLO frame from the partner is received and used in role arbitration. -/
  | hello (f : FoldFrame) (t : Nat)
  /-- HEARTBEAT (R320). A HEARTBEAT frame is received, refreshing the Fold path and partner flags. -/
  | heartbeat (f : FoldFrame) (t : Nat)
  /-- HB_PIN_EDGE (R320). An edge on FLD_HBI is a heartbeat on the pin path. -/
  | hbPinEdge (t : Nat)
  /-- HEARTBEAT_MISS (R320). A path misses a period; three on one path mark it down. -/
  | heartbeatMiss (fold : Bool) (t : Nat)
  /-- ACTI_CHANGE (R318). The level of FLD_ACTI changes, read by role arbitration. -/
  | actiChange (high : Bool) (t : Nat)
  /-- ARBITRATION_TIMEOUT (R318). No partner frame within 300 ms, or 100 ms more, settles the role alone. -/
  | arbitrationTimeout (t : Nat)
  /-- COPY_FIX (R321). At t(k+1) − 125 µs the active unit fixes copy k and starts sending it. -/
  | copyFix (room : Nat) (t : Nat)
  /-- COPY (R322). A COPY frame is received; with LAST the standby commits or discards the copy. -/
  | copy (f : FoldFrame) (c : CopyIn) (t : Nat)
  /-- BULK (R322). A BULK frame delivers configuration, tables, FIR sets, messages, keys or baselines. -/
  | bulk (f : FoldFrame) (items : List Machine.BulkItem) (outstanding : Bool) (t : Nat)
  /-- PATTERN (R226). A PATTERN frame is received and its bit errors counted. -/
  | pattern (errors : BitVec 32) (t : Nat)
  /-- HANDOVER_CHANNEL_START (R325). At t(s) + 1,333.33 µs the new active unit starts its channels silently and the leaving unit fades out. -/
  | handoverChannelStart (t : Nat)
  /-- HANDOVER_END (R325). At t(s) + 2,000 µs the leaving unit becomes STANDBY and the new unit raises FLD_ACTO and presents. -/
  | handoverEnd (t : Nat)
  /-- DRAM_REQUEST (R341). The Cellar queues and serves a DRAM request by bank, class and row. -/
  | dramRequest (arrivals : List DramArr) (grants : Nat) (serve : Nat) (t : Nat)
  /-- ROW_IDLE_CLOSE (R340). An open row without a hit for 256 controller cycles is closed. -/
  | rowIdleClose (ch : Fin 2) (bank : Nat) (t : Nat)
  /-- REFRESH (R342). A refresh falls due and is issued or postponed under panic. -/
  | refresh (ch : Fin 2) (t : Nat)
  /-- DQS_OSCILLATOR_READ (R338). Every 100 ms the DQS oscillator is read and delays updated on drift. -/
  | dqsOscillatorRead (drift0 : Bool) (drift1 : Bool) (t : Nat)
  /-- TRAIN_REQ (R338). A write of CEL_CTRL.TRAIN_REQ starts a full retraining. -/
  | trainReq (t : Nat)
  /-- RETRAIN_STEP (R338). One retraining step of at most 4 µs runs on one channel. -/
  | retrainStep (ch : Fin 2) (last : Bool) (t : Nat)
  /-- RETRAIN_TIMEOUT (R338). A retraining not complete at 60 ms is abandoned with FAULT. -/
  | retrainTimeout (t : Nat)
  /-- TRAINING_COMPLETE (R337). Boot training ends; failed channels leave service. -/
  | trainingComplete (ok0 : Bool) (ok1 : Bool) (t : Nat)
  /-- POWER_DOWN_IDLE (R343). In SLEEP a channel idle for PD_IDLE cycles enters power-down. -/
  | powerDownIdle (ch : Fin 2) (t : Nat)
  /-- FAB_ERRINFO_READ (R330). A read of FAB_ERRINFO returns and clears the error log. -/
  | fabErrinfoRead
  /-- SYS_REMAP_SWAP (R334). A write of SYS_REMAP.SWAP exchanges boot ROM and supervisor SRAM. -/
  | sysRemapSwap (word : BitVec 32)
  /-- POWER_ON_RESET (R380). Power-on reset release starts RC, enables the XO and begins the boot ROM. -/
  | powerOnReset (straps : Machine.Straps) (t : Nat)
  /-- EXTERNAL_RESET (R380). RST_N low for 1 µs resets the whole device. -/
  | externalReset (straps : Machine.Straps) (t : Nat)
  /-- RAIL_FAIL (R410). A rail below its threshold for 2 µs resets the device. -/
  | railFail (straps : Machine.Straps) (t : Nat)
  /-- RC_READY (R350). 20 µs after release or a large trim change RC_READY sets and held domains receive clock. -/
  | rcReady (t : Nat)
  /-- TRIM_WRITE (R350). A write of CLK_RC_TRIM by more than 16 steps clears RC_READY. -/
  | trimWrite (word : BitVec 16) (t : Nat)
  /-- RC_TRIM_INTERVAL (R351). A trim reference interval ends and TRIM moves one step. -/
  | rcTrimInterval (count : Option Nat)
  /-- XO_START_DELAY (R349). The XO start delay ends and its monitor is armed. -/
  | xoStartDelay (t : Nat)
  /-- XO_START_TIMEOUT (R349). An XO that has not passed within four start delays sets XO_FAIL. -/
  | xoStartTimeout (t : Nat)
  /-- MONITOR_WINDOW (R352). A 256-cycle monitor window ends and is judged. -/
  | monitorWindow (src : ClkSrc) (count : Nat) (expected : Nat) (t : Nat)
  /-- MONITOR_NO_EDGE (R352). No edge of a monitored clock within 1.28 µs fails it. -/
  | monitorNoEdge (src : ClkSrc) (t : Nat)
  /-- PLL_UNLOCK (R352). A PLL's lock indicator falls and its monitor fails. -/
  | pllUnlock (src : ClkSrc) (t : Nat)
  /-- RESTORE (R355). A write of CLK_MODE.RESTORE returns domains from RC at the next boundary. -/
  | restore
  /-- GATE_RUN_WRITE (R358). A write of CLK_GATE_RUN or CLK_CORE_GATE starts a gate step. -/
  | gateRunWrite (cores : Bool) (word : BitVec 32) (t : Nat)
  /-- GATES_CLOSE (R358). Every block of a gate step reports bus-idle and their gates close together. -/
  | gatesClose (t : Nat)
  /-- QUIESCENCE_TIMEOUT (R359). 256 cycles without bus-idle refuse the step, or force it in DEEP SLEEP entry. -/
  | quiescenceTimeout (notIdle : BitVec 23) (t : Nat)
  /-- WAKE (R363). A wake source leaves SLEEP or DEEP SLEEP. -/
  | wake (cause : WakeBy) (t : Nat)
  /-- DEEP_SLEEP_CLOSE (R364). 10 ms after the reply, sessions close, state is saved and DEEP SLEEP gates close. -/
  | deepSleepClose (notIdle : BitVec 23) (t : Nat)
  /-- MAINS_DEBOUNCE (R369). MAINS_OK steady for 50 ms declares mains lost or present. -/
  | mainsDebounce (high : Bool) (t : Nat)
  /-- BROWNOUT (R372). VCORE below WARN for 2 µs enters S5 at once. -/
  | brownout (t : Nat)
  /-- BROWNOUT_RECOVERY (R372). VCORE back above WARN + 20 mV for the dwell resets the device. -/
  | brownoutRecovery (straps : Machine.Straps) (t : Nat)
  /-- SUPERVISOR_RELEASE (R385). A write of SYS_BOOT.RELEASE restarts the supervisor cores at 0x0000_0000. -/
  | supervisorRelease (a : SlotCheck) (b : SlotCheck) (cfgOk : Bool) (t : Nat)
  /-- EVACUATION_TRIGGER (R390). A trigger level held 20 ms starts its EVAC message looping. -/
  | evacuationTrigger (n : Fin 4) (t : Nat)
  /-- SET_FIELD (R394). A write of SEC_CTRL.SET_FIELD sets the FIELD life cycle. -/
  | setField (t : Nat)
  /-- FAULT_INJECTION (R327). A write of BWT_CTRL.INJ_EN corrupts the next voted write of a core. -/
  | faultInjection (core : BitVec 2) (t : Nat)
  /-- REGISTER_WRITE (R14). A write to a register with no row of its own acts as its access type states. -/
  | registerWrite (master : Fin 12) (core : Fin 32) (addr : BitVec 32) (word : BitVec 32) (lanes : BitVec 4) (t : Nat)
  /-- IDENT_EXPORT_COMPLETE (R90). The long IDENT_EXPORT operation ends, with any proposal designed, and its final reply is queued, ending the port's busy state. -/
  | identExportComplete (port : Fin 6) (t : Nat)
  /-- FW_COMMIT_COMPLETE (R306). The slot read-back and signature check of FW_COMMIT end, the boot record is written and the final reply queued, ending device-wide busy. -/
  | fwCommitComplete (shaOk : Bool) (header : SlotCheck) (t : Nat)
  /-- KEY_ROTATE_COMPLETE (R308). KEY_ROTATE ends; at its final reply the sessions opened under removed or changed entries are closed and device-wide busy ends. -/
  | keyRotateComplete (t : Nat)
  /-- PRIMARY_TIME_PORT_RETURN (R256). After a master has been qualified for 10 s on the primary time port, PTP moves back from the backup port to the primary. -/
  | primaryTimePortReturn (t : Nat)
  /-- FOLD_BLOCK_LOCK_LOSS (R319). The Fold lane's 10GBASE-R PCS loses or regains block lock, counted in FLD_CNT_LINK_DOWN. -/
  | foldBlockLockLoss (lost : Bool) (t : Nat)
  deriving DecidableEq, Repr

end Sys2Proof
end

