-- ==== Sys2Proof/Decode.lean ====
section
/-! DEFINITION. Words of the opcode table. The rows of spec/opcode_table.json are commands and events of a block; none of them
has bits, so no word spells one (log entry 7). Drover instruction words (R121, R122) are decoded by the cores themselves,
in Machine/DroverWord.lean. -/

namespace Sys2Proof

/-- The command a word spells by the bits of the table: none. -/
def decodeTableWord (_nbits _w : Nat) : Option Instr := none

end Sys2Proof
end

