-- ==== Sys2Proof/Config.lean ====
section
/-! DEFINITION. What the spec leaves open: constants with no body. Nothing can be proved of their values, so every claim
holds whatever they are. -/

namespace Sys2Proof

/-- The difference between the device's convolution and the exact sum (R76), by free-value number, in units of 2^−34. -/
opaque Config.firError : Nat → Int

/-- The mantissas of a bin of a spectral record (imaginary part in the high half) and its exponent E (R75, R78), by free-value number: the spec binds what the
convolution yields (R76), not the bits of a spectrum. -/
opaque Config.specBin : Nat → Nat → BitVec 36
opaque Config.specExp : Nat → BitVec 5

/-- The worst-case cycles a firmware image, by its free number, declares for the task function at a bundle address (R147), in full service and
at S3. -/
opaque Config.taskCost : Nat → Bool → Nat → Nat

/-- The tasks that tasks of tick-driven flows give in one block, as a firmware image declares them (R147): flow, queue, stage (0 A, 1 B, 2 C), bundle address, number. -/
opaque Config.givenTasks : Nat → Bool → List (Nat × Nat × Nat × Nat × Nat)

/-- The share of one block in the middle and tail convolution work (R147), in cycles. -/
opaque Config.convolutionShare : Nat → Bool → Nat

/-- The magnitude code and coherence of an identification estimate by band (R88), and its taps, by the number of the estimate: the spec gives what is estimated, not the numbers an analysis yields. -/
opaque Config.identMag : Nat → Nat → BitVec 16
opaque Config.identCoh : Nat → Nat → BitVec 8
opaque Config.identTap : Nat → Nat → BitVec 18

/-- The estimate that a frame makes of the one before (R87): from the averaging exponent A, the number of the old estimate (+ 1; 0 for none) and the free number of the frame's
spectra. -/
opaque Config.identUpdate : Nat → Nat → Nat → Nat

/-- The SNR figure of a band whose coherence is kept as 0 (R88), by free-value number: the rule gives no finite number there. -/
opaque Config.identSnrZero : Nat → Nat → BitVec 8

/-- The taps of a proposal by the gain of each band in 0.02 dB (R89): the spec gives the steps, not how a minimum-phase filter is rounded. -/
opaque Config.proposalTap : List Int → Nat → BitVec 18

/-- The ROM taps of the bridges (R168), which the spec does not print: at 96 kHz or not; 0 the voice bridge, 1 and 2 the stages of the modulator bridge; the tap. -/
opaque Config.bridgeTap : Bool → Nat → Nat → BitVec 18

/-- How far a master's FS or an output's preamble lies from its instant (R173), in units of 2 ns, by port and frame; the rule bounds it. -/
opaque Config.fsSkew : Nat → Nat → Int

/-- A converter's interpolation (R185, R188), from the place between two input frames (2^−32) and the input samples around it: the spec gives its figures, not its filter. -/
opaque Config.asrcInterp : Nat → List Int → BitVec 18

/-- The coefficients of a microphone's high-pass filter (R189) by HPF code, in units of 2^−30: b0, b1, b2, a1, a2; the spec gives a Butterworth section's cut-off. -/
opaque Config.micHpf : Nat → Nat → BitVec 32

/-- The rounding of the sag gain after one modulator sample (R199), in units of 2^−30, from gain and target: the spec gives a real exponential. -/
opaque Config.sagRound : Nat → Nat → Int

/-- The 25 kHz pilot (R203, R218) in Q0.23 by phase, in 1/768 of a cycle; the rule bounds its peak. -/
opaque Config.pilotSine : Nat → Int

/-- A raised cosine over 10 ms (R218), over 131,072, by the time since its start in units of 2 ns. -/
opaque Config.raisedCosine : Nat → Nat

/-- The argument of a complex number in 0.1° (R219): the spec gives no rounding. -/
opaque Config.argOf : Int → Int → BitVec 12

/-- |Z| in 10 mΩ where neither voltage nor current was sensed: no rule gives zero over zero. -/
opaque Config.senseNone : Nat

/-- A voltage code behind the 100 Hz high-pass of a B-end (R208), from the codes of the window and its place: the spec gives no order or coefficients. -/
opaque Config.loopHighPass : List (BitVec 14) → Nat → Int

/-- The delay of the sense path (R208) in units of 2 ns: fixed, and not stated. -/
opaque Config.senseDelay : Nat

/-- The firmware image's self-test (R225): bundle address of its entry and of its last bundle, byte offset of the last word of the
scratch area in local memory, expected signature. -/
opaque Config.selfTestEntry : BitVec 12
opaque Config.selfTestLast : BitVec 12
opaque Config.selfTestWord : BitVec 16
opaque Config.selfTestSig : BitVec 32

/-- A word of the descriptor that the firmware image posts for a slice of the DRAM scrub (R215); its queue is an idle one. -/
opaque Config.sliceWord : Nat → BitVec 32

/-- Which of several banks of one class the Cellar serves next (R341), by free-value number. -/
opaque Config.cellarPick : Nat → Nat

/-- A byte of the nonce, ephemeral key or signature in the reply to a protected SESSION_OPEN (R278), by free-value number. -/
opaque Config.openByte : Nat → Nat → BitVec 8

/-- Is the press-to-talk gate of an object bound to the microphone that is its source (R22; log entry 9)? No command of the spec makes the binding. -/
opaque Config.gateBound : Nat → Nat → Bool

/-- What the firmware's PTP finds, by free-value number: the protocol's state and the grandmaster's clockIdentity (R312); no rule gives its packets. -/
opaque Config.ptpState : Nat → Nat
opaque Config.gmId : Nat → Nat

/-- Is a GPIO assigned as an output by the words of the pin window (R312), whose layout the spec does not give? -/
opaque Config.gpioOutput : List (Nat × Nat) → Nat → Bool

/-- A number of bytes per second, as numerator and denominator, in MB/s (R313): the rounding is not stated. -/
opaque Config.mbRound : Nat → Nat → Nat

/-- The DER certificates in the one-time memory (R392) and bytes the device key signs (R310), by free-value number. -/
opaque Config.cert : Bool → List (BitVec 8)
opaque Config.signByte : Nat → Nat → BitVec 8

/-- A byte of the boot ROM (R328, R383): the spec gives what it does, not its contents. -/
opaque Config.romByte : Nat → BitVec 8

/-- The transmit queue that a commit assigns the stream engine on a MAC (R241, R267); no command names it. -/
opaque Config.strQueue : Nat → Nat

/-- The status byte of a reply (R277, R300): the spec names the statuses and does not number them. -/
opaque Config.statusByte : Nat → BitVec 8

/-- The device's salt of a key agreement and byte `i` of what AES-128-GCM gives for key agreement, nonce, header and payload (R276, R280). -/
opaque Config.sessionSalt : Nat → BitVec 32
opaque Config.gcmByte : Nat → List (BitVec 8) → List (BitVec 8) → List (BitVec 8) → Nat → BitVec 8

/-- A random word that SEC_TRNG returns (R397), by free-value number. -/
opaque Config.trngWord : Nat → BitVec 32

/-- The source IPv4 address of the device on a MAC, and the identification field of a packet it builds (R267): no rule gives them. -/
opaque Config.streamIp : Nat → BitVec 32
opaque Config.ipId : Nat → BitVec 16

end Sys2Proof
end

