-- ==== Sys2Proof/Machine/Arith.lean ====
section
/-! DEFINITION. Exact arithmetic shared by all chapters: `rhe` (R35), saturation (R7), square roots (R36, R40), the
crossfade window (R61), the gain law (R153), and the check codes (R51, R43). -/

namespace Sys2Proof.Machine

open Sys2Proof

/-- `rhe(a / b)` of R35: the integer nearest to the exact quotient, the even one at a tie (`b > 0`). -/
def rheDiv (a : Int) (b : Nat) : Int :=
  let q := a / (b : Int)
  let r := a - q * (b : Int)
  if 2 * r < (b : Int) then q
  else if (b : Int) < 2 * r then q + 1
  else if q % 2 = 0 then q else q + 1

/-- `rhe(a / b)` for a divisor of either sign; a zero divisor gives 0. -/
def rheDivI (a b : Int) : Int :=
  if b < 0 then rheDiv (-a) b.natAbs else rheDiv a b.natAbs

/-- `rhe(a / b)` on naturals. -/
def rheDivNat (a b : Nat) : Nat := (rheDiv (a : Int) b).toNat

/-- Limits a value to `[lo, hi]`. -/
def clampI (lo hi v : Int) : Int := if v < lo then lo else if hi < v then hi else v

/-- Limits a natural to `[lo, hi]`. -/
def clampN (lo hi v : Nat) : Nat := if v < lo then lo else if hi < v then hi else v

/-- `sat` to the two's complement range of `w` bits (R7, R175). -/
def satBits (w : Nat) (v : Int) : Int := clampI (-(2 ^ (w - 1) : Nat)) ((2 ^ (w - 1) : Nat) - 1) v

/-- `sat17` of R58: the 18-bit sample range. -/
def sat17 (v : Int) : Int := satBits 18 v

/-- `sat23` of R168. -/
def sat23 (v : Int) : Int := satBits 24 v

/-- The accumulator limit ±(2^47 − 1) of R102 and R65. -/
def satAcc (v : Int) : Int := clampI (-140737488355327) 140737488355327 v

/-- Does `sat17` change the value (SR.SSAT, R103)? -/
def sat17Hit (v : Int) : Bool := v < -131072 || 131071 < v

/-- One step of the bitwise square root: keep bit `b` of the root when its square still fits. -/
def isqrtBit (n b acc : Nat) : Nat :=
  let c := acc + 2 ^ b
  if c * c ≤ n then c else acc

/-- The integer square root by bits `b - 1 … 0`. -/
def isqrtFrom (n : Nat) : Nat → Nat → Nat
  | 0, acc => acc
  | b + 1, acc => isqrtFrom n b (isqrtBit n b acc)

/-- `floor(sqrt n)`. -/
def isqrt (n : Nat) : Nat := isqrtFrom n (n.log2 / 2 + 1) 0

/-- `rhe(sqrt n)`: a tie cannot occur, since `(s + 1/2)^2` is never an integer. -/
def rheSqrt (n : Nat) : Nat :=
  let s := isqrt n
  if s < n - s * s then s + 1 else s

/-- `rhe(131,072 × sqrt(t / e))` of R40, with `e > 0`. -/
def rheSqrtRatio (t e : Nat) : Nat :=
  let s := isqrt (17179869184 * t / e)
  let lhs := (2 * s + 1) * (2 * s + 1) * e
  let rhs := 4 * 17179869184 * t
  if lhs < rhs then s + 1
  else if lhs = rhs then (if s % 2 = 0 then s else s + 1)
  else s

/-- The crossfade window W of R61, unsigned Q1.17: `rhe(65,536 × (1 − cos(π(j + 1) / 32)))`. -/
def windowTable : List Nat :=
  [316, 1259, 2822, 4989, 7738, 11045, 14876, 19195, 23960, 29126, 34643, 40456, 46512, 52751, 59112, 65536,
    71960, 78321, 84560, 90616, 96429, 101946, 107112, 111877, 116196, 120027, 123334, 126083, 128250, 129813, 130756, 131072]

/-- `W[j]` of R61. -/
def window (j : Nat) : Nat := windowTable.getD j 0

/-- The crossfade expression of R71, R81: `rhe(((131,072 − W[j]) × a + W[j] × b) / 131,072)`. -/
def crossfade (j : Nat) (a b : Int) : Int :=
  rheDiv ((131072 - (window j : Int)) * a + (window j : Int) * b) 131072

/-- `rhe(x × W[j] / 131,072)`, the fade-in of R55 and R177. -/
def fadeIn (j : Nat) (x : Int) : Int := rheDiv (x * (window j : Int)) 131072

/-- `rhe(x × (131,072 − W[j]) / 131,072)`, the fade-out of R55. -/
def fadeOut (j : Nat) (x : Int) : Int := rheDiv (x * (131072 - (window j : Int))) 131072

/-- Is `2n − 1 ≤ 2^18 × 10^(g / 1000)`, that is, does rounding `131,072 × 10^(g / 1000)` give at least `n`?
Compared exactly by taking the 1000th power of both sides. -/
def gainAtLeast (g : Int) (n : Nat) : Bool :=
  if g < 0 then (2 * n - 1) ^ 1000 * 10 ^ g.natAbs ≤ 262144 ^ 1000
  else (2 * n - 1) ^ 1000 ≤ 262144 ^ 1000 * 10 ^ g.natAbs

/-- The largest `n` built from bits `b - 1 … 0` above `acc` that `gainAtLeast` still admits. -/
def gainSearch (g : Int) : Nat → Nat → Nat
  | 0, acc => acc
  | b + 1, acc => gainSearch g b (if gainAtLeast g (acc + 2 ^ b) then acc + 2 ^ b else acc)

/-- The clamp of R9: −6,000 … 1,200. -/
def clampCode (g : Int) : Int := clampI (-6000) 1200 g

/-- `A(g) = rhe(131,072 × 10^(g / 1,000))` of R153, after the clamp of R9; code 0x8000 (−32,768) gives 0.
The value is never a tie: `10^(g/1000)` is irrational unless 1,000 divides `g`. -/
def gainLin (code : Int) : Nat :=
  if code = -32768 then 0
  else if code = 0 then 131072
  else gainSearch (clampCode code) 22 0

/-- The limiter threshold `T17` of R84. -/
def limThreshold (c : Int) : Nat := min 131071 (if c = 0 then 131072 else gainSearch c 22 0)

/-- One bit of the CRC-16 of R51. -/
def crc16Bit (crc : BitVec 16) : BitVec 16 :=
  if crc.msb then (crc <<< 1) ^^^ 0x8BB7#16 else crc <<< 1

/-- One byte of the CRC-16 of R51. -/
def crc16Byte (crc : BitVec 16) (b : Byte) : BitVec 16 :=
  let c := crc ^^^ ((b.zeroExtend 16) <<< 8)
  crc16Bit (crc16Bit (crc16Bit (crc16Bit (crc16Bit (crc16Bit (crc16Bit (crc16Bit c)))))))

/-- The CRC-16 of R51 over a byte list, initial value 0xFFFF. -/
def crc16 (bs : List Byte) : BitVec 16 := bs.foldl crc16Byte 0xFFFF#16

/-- One bit of the reflected CRC-32 of IEEE 802.3 (R43, R274). -/
def crc32Bit (crc : BitVec 32) : BitVec 32 :=
  if crc.getLsbD 0 then (crc >>> 1) ^^^ 0xEDB88320#32 else crc >>> 1

/-- One byte of the CRC-32. -/
def crc32Byte (crc : BitVec 32) (b : Byte) : BitVec 32 :=
  let c := crc ^^^ (b.zeroExtend 32)
  crc32Bit (crc32Bit (crc32Bit (crc32Bit (crc32Bit (crc32Bit (crc32Bit (crc32Bit c)))))))

/-- The CRC-32 of IEEE 802.3: reflected, initial value 0xFFFF_FFFF, final inversion (R274). -/
def crc32 (bs : List Byte) : BitVec 32 := ~~~ (bs.foldl crc32Byte 0xFFFFFFFF#32)

/-- Is `a` later than `b` for a counter of `n` bits (R12)? -/
def laterThan (n : Nat) (a b : Nat) : Bool :=
  let d := (a + 2 ^ n - b % 2 ^ n) % 2 ^ n
  0 < d && d < 2 ^ (n - 1)

/-- The little-endian bytes of a number, `k` of them. -/
def leBytes : Nat → Nat → List Byte
  | 0, _ => []
  | k + 1, v => BitVec.ofNat 8 v :: leBytes k (v / 256)

/-- The number a little-endian byte list spells. -/
def ofLeBytes : List Byte → Nat
  | [] => 0
  | b :: bs => b.toNat + 256 * ofLeBytes bs

/-- The big-endian bytes of a number, `k` of them. -/
def beBytes (k v : Nat) : List Byte := (leBytes k v).reverse

/-- The number a big-endian byte list spells. -/
def ofBeBytes (bs : List Byte) : Nat := ofLeBytes bs.reverse

/-- Two's complement reading of the low `w` bits of a number. -/
def signedOf (w v : Nat) : Int := (BitVec.ofNat w v).toInt

/-- The low `w` bits of an integer in two's complement. -/
def unsignedOf (w : Nat) (v : Int) : Nat := (BitVec.ofInt w v).toNat

/-- `floor(log2 n)` with 0 for 0 (R100). -/
def floorLog2 (n : Nat) : Nat := n.log2

/-- Reverses the low `n` bits of `v` (R100). -/
def bitRev : Nat → Nat → Nat
  | 0, _ => 0
  | n + 1, v => (v % 2) * 2 ^ n + bitRev n (v / 2)

/-- The ceiling of `a / b`. -/
def ceilDiv (a b : Nat) : Nat := (a + b - 1) / b

end Sys2Proof.Machine
end

