-- ==== Sys2Proof/Machine/RegMap.lean ====
section
/-! DEFINITION. The register map: one `Fld` for every field of every register table of the spec (R47 … R397, counted by
R398), named as the spec names it, and the access rows (R14) of every register. A register of the table with several
fields also has its whole word, named with the suffix `_w`. Arrays take their indexes as arguments. -/

namespace Sys2Proof.Machine

/-- A register field: byte address of its register, bits `[hi:lo]`, and the whole register's reset word at 48 kHz and
at 96 kHz (R398). -/
structure Fld where
  addr : Nat
  hi   : Nat
  lo   : Nat
  rst  : Nat
  rst96 : Nat
  deriving DecidableEq, Repr

/-- The access row of a register or register array: base, dimensions (count, stride), reset words at 48 kHz and 96 kHz,
and the bits of each access type of R14. Bits of no type are RO or reserved. -/
structure RegRow where
  base : Nat
  dims : List (Nat × Nat)
  rst  : Nat
  rst96 : Nat
  rw   : Nat
  w1c  : Nat
  rc   : Nat
  wo   : Nat
  rws  : Nat
  rwl  : Nat
  deriving DecidableEq, Repr

namespace R

/-! ### PST: 02_objects_and_pastures.md R47 -/

def PST_CTRL_SWAP_REQ : Fld := ⟨0x40000000, 1, 1, 0x0, 0x0⟩
def PST_CTRL_ENABLE : Fld := ⟨0x40000000, 0, 0, 0x0, 0x0⟩
def PST_CTRL_w : Fld := ⟨0x40000000, 31, 0, 0x0, 0x0⟩
def PST_STATUS_BUDGET : Fld := ⟨0x40000004, 5, 5, 0x0, 0x0⟩
def PST_STATUS_LATE : Fld := ⟨0x40000004, 4, 4, 0x0, 0x0⟩
def PST_STATUS_BUILD_ERR : Fld := ⟨0x40000004, 3, 3, 0x0, 0x0⟩
def PST_STATUS_VERIFY_BUSY : Fld := ⟨0x40000004, 2, 2, 0x0, 0x0⟩
def PST_STATUS_SWAP_PEND : Fld := ⟨0x40000004, 1, 1, 0x0, 0x0⟩
def PST_STATUS_ACTIVE_BANK : Fld := ⟨0x40000004, 0, 0, 0x0, 0x0⟩
def PST_STATUS_w : Fld := ⟨0x40000004, 31, 0, 0x0, 0x0⟩
def PST_SOUND_RATE_RATE : Fld := ⟨0x40000008, 31, 0, 0x23D337FA, 0x47A66FF4⟩
def PST_TAP_BUDGET_BUDGET : Fld := ⟨0x4000000C, 16, 0, 0x10000, 0x8000⟩
def PST_TAP_BUDGET_w : Fld := ⟨0x4000000C, 31, 0, 0x10000, 0x8000⟩
def PST_TAP_COUNT_OBJECTS : Fld := ⟨0x40000010, 26, 16, 0x0, 0x0⟩
def PST_TAP_COUNT_ENTRIES_M1 : Fld := ⟨0x40000010, 15, 0, 0x0, 0x0⟩
def PST_TAP_COUNT_w : Fld := ⟨0x40000010, 31, 0, 0x0, 0x0⟩
def PST_MEM_ADDR_BANK : Fld := ⟨0x40000080, 31, 31, 0x0, 0x0⟩
def PST_MEM_ADDR_WORD : Fld := ⟨0x40000080, 19, 0, 0x0, 0x0⟩
def PST_MEM_ADDR_w : Fld := ⟨0x40000080, 31, 0, 0x0, 0x0⟩
def PST_MEM_DATA_DATA : Fld := ⟨0x40000084, 31, 0, 0x0, 0x0⟩
def PST_CNT_LATE_VALUE : Fld := ⟨0x40000020, 31, 0, 0x0, 0x0⟩
def PST_CNT_DEFER_VALUE : Fld := ⟨0x40000024, 31, 0, 0x0, 0x0⟩
def PST_CNT_RANGE_VALUE : Fld := ⟨0x40000028, 31, 0, 0x0, 0x0⟩
def PST_CNT_JUMP_VALUE : Fld := ⟨0x4000002C, 31, 0, 0x0, 0x0⟩
def PST_CNT_CHECK_VALUE : Fld := ⟨0x40000030, 31, 0, 0x0, 0x0⟩
def PST_BANK_EXP_VALUE : Fld := ⟨0x40000040, 31, 0, 0x0, 0x0⟩
def PST_BANK_CRC_VALUE : Fld := ⟨0x40000044, 31, 0, 0x0, 0x0⟩

/-! ### HST: 03_render_cycle.md R67 -/

def HST_CTRL_CLAMP : Fld := ⟨0x20800000, 2, 2, 0x0, 0x0⟩
def HST_CTRL_LONG_EN : Fld := ⟨0x20800000, 1, 1, 0x0, 0x0⟩
def HST_CTRL_ENABLE : Fld := ⟨0x20800000, 0, 0, 0x0, 0x0⟩
def HST_CTRL_w : Fld := ⟨0x20800000, 31, 0, 0x0, 0x0⟩
def HST_STATUS_SCRUB_ERR : Fld := ⟨0x20800004, 6, 6, 0x0, 0x0⟩
def HST_STATUS_ACC_ERR : Fld := ⟨0x20800004, 5, 5, 0x0, 0x0⟩
def HST_STATUS_LONG_LATE : Fld := ⟨0x20800004, 4, 4, 0x0, 0x0⟩
def HST_STATUS_VERIFY : Fld := ⟨0x20800004, 3, 3, 0x0, 0x0⟩
def HST_STATUS_LATE_DROP : Fld := ⟨0x20800004, 2, 2, 0x0, 0x0⟩
def HST_STATUS_UNDERRUN : Fld := ⟨0x20800004, 1, 1, 0x0, 0x0⟩
def HST_STATUS_WAIT : Fld := ⟨0x20800004, 0, 0, 0x0, 0x0⟩
def HST_STATUS_w : Fld := ⟨0x20800004, 31, 0, 0x0, 0x0⟩
def HST_LATE_WARN_MARGIN : Fld := ⟨0x20800008, 2, 0, 0x1, 0x1⟩
def HST_LATE_WARN_w : Fld := ⟨0x20800008, 31, 0, 0x1, 0x1⟩
def HST_PANIC_AGE : Fld := ⟨0x2080000C, 7, 0, 0x14, 0x14⟩
def HST_PANIC_w : Fld := ⟨0x2080000C, 31, 0, 0x14, 0x14⟩
def HST_FAIL_LOG_VALID : Fld := ⟨0x20800050, 31, 31, 0x0, 0x0⟩
def HST_FAIL_LOG_CAUSE : Fld := ⟨0x20800050, 30, 28, 0x0, 0x0⟩
def HST_FAIL_LOG_RING : Fld := ⟨0x20800050, 25, 16, 0x0, 0x0⟩
def HST_FAIL_LOG_SLOT : Fld := ⟨0x20800050, 12, 0, 0x0, 0x0⟩
def HST_FAIL_LOG_w : Fld := ⟨0x20800050, 31, 0, 0x0, 0x0⟩
def HST_SCRUB_CTRL_ENABLE : Fld := ⟨0x20800060, 31, 31, 0xD, 0xD⟩
def HST_SCRUB_CTRL_INTERVAL : Fld := ⟨0x20800060, 15, 0, 0xD, 0xD⟩
def HST_SCRUB_CTRL_w : Fld := ⟨0x20800060, 31, 0, 0xD, 0xD⟩
def HST_SCRUB_PTR_PASSES : Fld := ⟨0x20800064, 31, 16, 0x0, 0x0⟩
def HST_SCRUB_PTR_SLOT : Fld := ⟨0x20800064, 15, 0, 0x0, 0x0⟩
def HST_SCRUB_PTR_w : Fld := ⟨0x20800064, 31, 0, 0x0, 0x0⟩
def HST_CNT_UNDERRUN_VALUE : Fld := ⟨0x20800020, 31, 0, 0x0, 0x0⟩
def HST_CNT_LATE_DROP_VALUE : Fld := ⟨0x20800024, 31, 0, 0x0, 0x0⟩
def HST_CNT_EARLY_VALUE : Fld := ⟨0x20800028, 31, 0, 0x0, 0x0⟩
def HST_CNT_LATE_WARN_VALUE : Fld := ⟨0x2080002C, 31, 0, 0x0, 0x0⟩
def HST_CNT_CRC_VALUE : Fld := ⟨0x20800030, 31, 0, 0x0, 0x0⟩
def HST_CNT_SEQ_VALUE : Fld := ⟨0x20800034, 31, 0, 0x0, 0x0⟩
def HST_CNT_LONG_LATE_VALUE : Fld := ⟨0x20800038, 31, 0, 0x0, 0x0⟩
def HST_CNT_CLAMP_VALUE : Fld := ⟨0x2080003C, 31, 0, 0x0, 0x0⟩
def HST_CNT_ACC_VALUE : Fld := ⟨0x20800040, 31, 0, 0x0, 0x0⟩
def HST_CNT_SCRUB_VALUE : Fld := ⟨0x20800044, 31, 0, 0x0, 0x0⟩
def HST_LONG_MAP_LONG (i : Nat) : Fld := ⟨0x20800100 + 4 * i, 31, 0, 0x0, 0x0⟩

/-! ### DRV: 05_drover_cores.md R120 -/

def DRV_CTRL_RESET (i : Nat) : Fld := ⟨0x30800000 + 65536 * i, 6, 6, 0x0, 0x0⟩
def DRV_CTRL_DBGINT (i : Nat) : Fld := ⟨0x30800000 + 65536 * i, 5, 5, 0x0, 0x0⟩
def DRV_CTRL_STEP (i : Nat) : Fld := ⟨0x30800000 + 65536 * i, 4, 4, 0x0, 0x0⟩
def DRV_CTRL_RESUME (i : Nat) : Fld := ⟨0x30800000 + 65536 * i, 3, 3, 0x0, 0x0⟩
def DRV_CTRL_HALT_REQ (i : Nat) : Fld := ⟨0x30800000 + 65536 * i, 2, 2, 0x0, 0x0⟩
def DRV_CTRL_ROT (i : Nat) : Fld := ⟨0x30800000 + 65536 * i, 1, 1, 0x0, 0x0⟩
def DRV_CTRL_RUN (i : Nat) : Fld := ⟨0x30800000 + 65536 * i, 0, 0, 0x0, 0x0⟩
def DRV_CTRL_w (i : Nat) : Fld := ⟨0x30800000 + 65536 * i, 31, 0, 0x0, 0x0⟩
def DRV_STATUS_HREF (i : Nat) : Fld := ⟨0x30800004 + 65536 * i, 12, 12, 0x0, 0x0⟩
def DRV_STATUS_DOUBLE (i : Nat) : Fld := ⟨0x30800004 + 65536 * i, 11, 11, 0x0, 0x0⟩
def DRV_STATUS_TASK (i : Nat) : Fld := ⟨0x30800004 + 65536 * i, 10, 10, 0x0, 0x0⟩
def DRV_STATUS_ILLEGAL (i : Nat) : Fld := ⟨0x30800004 + 65536 * i, 9, 9, 0x0, 0x0⟩
def DRV_STATUS_ACCESS (i : Nat) : Fld := ⟨0x30800004 + 65536 * i, 8, 8, 0x0, 0x0⟩
def DRV_STATUS_ASAT (i : Nat) : Fld := ⟨0x30800004 + 65536 * i, 7, 7, 0x0, 0x0⟩
def DRV_STATUS_SSAT (i : Nat) : Fld := ⟨0x30800004 + 65536 * i, 6, 6, 0x0, 0x0⟩
def DRV_STATUS_STATE (i : Nat) : Fld := ⟨0x30800004 + 65536 * i, 2, 0, 0x0, 0x0⟩
def DRV_STATUS_w (i : Nat) : Fld := ⟨0x30800004 + 65536 * i, 31, 0, 0x0, 0x0⟩
def DRV_FAULT_PC_PC (i : Nat) : Fld := ⟨0x30800008 + 65536 * i, 11, 0, 0x0, 0x0⟩
def DRV_FAULT_PC_w (i : Nat) : Fld := ⟨0x30800008 + 65536 * i, 31, 0, 0x0, 0x0⟩
def DRV_FAULT_ADDR_WORD (i : Nat) : Fld := ⟨0x3080000C + 65536 * i, 31, 31, 0x0, 0x0⟩
def DRV_FAULT_ADDR_ADDR (i : Nat) : Fld := ⟨0x3080000C + 65536 * i, 17, 0, 0x0, 0x0⟩
def DRV_FAULT_ADDR_w (i : Nat) : Fld := ⟨0x3080000C + 65536 * i, 31, 0, 0x0, 0x0⟩
def DRV_DBG_SEL_LANE (i : Nat) : Fld := ⟨0x30800020 + 65536 * i, 10, 8, 0x0, 0x0⟩
def DRV_DBG_SEL_SEL (i : Nat) : Fld := ⟨0x30800020 + 65536 * i, 7, 0, 0x0, 0x0⟩
def DRV_DBG_SEL_w (i : Nat) : Fld := ⟨0x30800020 + 65536 * i, 31, 0, 0x0, 0x0⟩
def DRV_DBG_DATA_DATA (i : Nat) : Fld := ⟨0x30800024 + 65536 * i, 31, 0, 0x0, 0x0⟩
def DRV_CL_CTRL_LOCK : Fld := ⟨0x30A00000, 0, 0, 0x0, 0x0⟩
def DRV_CL_CTRL_w : Fld := ⟨0x30A00000, 31, 0, 0x0, 0x0⟩
def DRV_CL_ROT_ROT : Fld := ⟨0x30A00004, 31, 0, 0x0, 0x0⟩
def DRV_BKPT_EN (i j : Nat) : Fld := ⟨0x30800010 + 65536 * i + 4 * j, 31, 31, 0x0, 0x0⟩
def DRV_BKPT_ADDR (i j : Nat) : Fld := ⟨0x30800010 + 65536 * i + 4 * j, 11, 0, 0x0, 0x0⟩
def DRV_BKPT_w (i j : Nat) : Fld := ⟨0x30800010 + 65536 * i + 4 * j, 31, 0, 0x0, 0x0⟩
def DRV_CNT_BUNDLE_VALUE (i : Nat) : Fld := ⟨0x30800040 + 65536 * i, 31, 0, 0x0, 0x0⟩
def DRV_CNT_WAIT_VALUE (i : Nat) : Fld := ⟨0x30800044 + 65536 * i, 31, 0, 0x0, 0x0⟩
def DRV_CNT_STEAL_VALUE (i : Nat) : Fld := ⟨0x30800048 + 65536 * i, 31, 0, 0x0, 0x0⟩
def DRV_CNT_TASK_VALUE (i : Nat) : Fld := ⟨0x3080004C + 65536 * i, 31, 0, 0x0, 0x0⟩
def DRV_CNT_FAULT_VALUE (i : Nat) : Fld := ⟨0x30800050 + 65536 * i, 31, 0, 0x0, 0x0⟩

/-! ### OST: 07_ostler.md R149 -/

def OST_CTRL_ENABLE : Fld := ⟨0x40100000, 0, 0, 0x0, 0x0⟩
def OST_CTRL_w : Fld := ⟨0x40100000, 31, 0, 0x0, 0x0⟩
def OST_STATUS_IDLE_CORES : Fld := ⟨0x40100004, 12, 8, 0x0, 0x0⟩
def OST_STATUS_ABANDON : Fld := ⟨0x40100004, 3, 3, 0x0, 0x0⟩
def OST_STATUS_SLICE : Fld := ⟨0x40100004, 2, 2, 0x0, 0x0⟩
def OST_STATUS_EXPIRE : Fld := ⟨0x40100004, 1, 1, 0x0, 0x0⟩
def OST_STATUS_TICK_DROP : Fld := ⟨0x40100004, 0, 0, 0x0, 0x0⟩
def OST_STATUS_w : Fld := ⟨0x40100004, 31, 0, 0x0, 0x0⟩
def OST_IDLE_CTRL_EN : Fld := ⟨0x40100008, 31, 31, 0x8004E20, 0x8004E20⟩
def OST_IDLE_CTRL_MAXCORES : Fld := ⟨0x40100008, 28, 24, 0x8004E20, 0x8004E20⟩
def OST_IDLE_CTRL_SLICE : Fld := ⟨0x40100008, 19, 0, 0x8004E20, 0x8004E20⟩
def OST_IDLE_CTRL_w : Fld := ⟨0x40100008, 31, 0, 0x8004E20, 0x8004E20⟩
def OST_POST_STATUS_FULL : Fld := ⟨0x40100050, 0, 0, 0x0, 0x0⟩
def OST_POST_STATUS_w : Fld := ⟨0x40100050, 31, 0, 0x0, 0x0⟩
def OST_POST_WORD (i : Nat) : Fld := ⟨0x40100040 + 4 * i, 31, 0, 0x0, 0x0⟩
def OST_QCFG_EN (i : Nat) : Fld := ⟨0x40100100 + 4 * i, 31, 31, 0x0, 0x0⟩
def OST_QCFG_IDLE (i : Nat) : Fld := ⟨0x40100100 + 4 * i, 30, 30, 0x0, 0x0⟩
def OST_QCFG_EXPIRE (i : Nat) : Fld := ⟨0x40100100 + 4 * i, 29, 29, 0x0, 0x0⟩
def OST_QCFG_PRIO (i : Nat) : Fld := ⟨0x40100100 + 4 * i, 28, 26, 0x0, 0x0⟩
def OST_QCFG_DEPTH (i : Nat) : Fld := ⟨0x40100100 + 4 * i, 14, 0, 0x0, 0x0⟩
def OST_QCFG_w (i : Nat) : Fld := ⟨0x40100100 + 4 * i, 31, 0, 0x0, 0x0⟩
def OST_QLEVEL_HIGH (i : Nat) : Fld := ⟨0x40100200 + 4 * i, 31, 16, 0x0, 0x0⟩
def OST_QLEVEL_LEVEL (i : Nat) : Fld := ⟨0x40100200 + 4 * i, 15, 0, 0x0, 0x0⟩
def OST_QLEVEL_w (i : Nat) : Fld := ⟨0x40100200 + 4 * i, 31, 0, 0x0, 0x0⟩
def OST_TICK_W0_EN (i : Nat) : Fld := ⟨0x40100400 + 16 * i, 31, 31, 0x0, 0x0⟩
def OST_TICK_W0_POINT (i : Nat) : Fld := ⟨0x40100400 + 16 * i, 30, 29, 0x0, 0x0⟩
def OST_TICK_W0_LAG (i : Nat) : Fld := ⟨0x40100400 + 16 * i, 28, 24, 0x0, 0x0⟩
def OST_TICK_W0_COUNT_M1 (i : Nat) : Fld := ⟨0x40100400 + 16 * i, 23, 12, 0x0, 0x0⟩
def OST_TICK_W0_ENTRY (i : Nat) : Fld := ⟨0x40100400 + 16 * i, 11, 0, 0x0, 0x0⟩
def OST_TICK_W0_w (i : Nat) : Fld := ⟨0x40100400 + 16 * i, 31, 0, 0x0, 0x0⟩
def OST_TICK_W1_FLOW (i : Nat) : Fld := ⟨0x40100404 + 16 * i, 31, 20, 0x0, 0x0⟩
def OST_TICK_W1_QUEUE (i : Nat) : Fld := ⟨0x40100404 + 16 * i, 19, 14, 0x0, 0x0⟩
def OST_TICK_W1_w (i : Nat) : Fld := ⟨0x40100404 + 16 * i, 31, 0, 0x0, 0x0⟩
def OST_TICK_W2_ARG (i : Nat) : Fld := ⟨0x40100408 + 16 * i, 31, 0, 0x0, 0x0⟩
def OST_FLOW_SEL_FLOW : Fld := ⟨0x40100600, 11, 0, 0x0, 0x0⟩
def OST_FLOW_SEL_w : Fld := ⟨0x40100600, 31, 0, 0x0, 0x0⟩
def OST_FLOW_DATA_ORDERED : Fld := ⟨0x40100604, 31, 31, 0x0, 0x0⟩
def OST_FLOW_DATA_BLOCKED : Fld := ⟨0x40100604, 30, 30, 0x0, 0x0⟩
def OST_FLOW_DATA_INFLIGHT : Fld := ⟨0x40100604, 21, 16, 0x0, 0x0⟩
def OST_FLOW_DATA_NEXT_SEQ : Fld := ⟨0x40100604, 15, 0, 0x0, 0x0⟩
def OST_FLOW_DATA_w : Fld := ⟨0x40100604, 31, 0, 0x0, 0x0⟩
def OST_CORE_QMASK_MASK (i j : Nat) : Fld := ⟨0x40100800 + 8 * i + 4 * j, 31, 0, 0xFFFFFFFF, 0xFFFFFFFF⟩
def OST_CNT_DISPATCH_VALUE : Fld := ⟨0x40100080, 31, 0, 0x0, 0x0⟩
def OST_CNT_TICK_DROP_VALUE : Fld := ⟨0x40100084, 31, 0, 0x0, 0x0⟩
def OST_CNT_EXPIRE_VALUE : Fld := ⟨0x40100088, 31, 0, 0x0, 0x0⟩
def OST_CNT_STALL_VALUE : Fld := ⟨0x4010008C, 31, 0, 0x0, 0x0⟩
def OST_CNT_WINDOW_VALUE : Fld := ⟨0x40100090, 31, 0, 0x0, 0x0⟩
def OST_CNT_ABANDON_VALUE : Fld := ⟨0x40100094, 31, 0, 0x0, 0x0⟩
def OST_CNT_IDLE_GRANT_VALUE : Fld := ⟨0x40100098, 31, 0, 0x0, 0x0⟩
def OST_CNT_SLICE_VALUE : Fld := ⟨0x4010009C, 31, 0, 0x0, 0x0⟩
def OST_CNT_POST_FULL_VALUE : Fld := ⟨0x401000A0, 31, 0, 0x0, 0x0⟩
def OST_CNT_BADQ_VALUE : Fld := ⟨0x401000A4, 31, 0, 0x0, 0x0⟩

/-! ### MIX: 08_mixing.md R169 -/

def MIX_CTRL_ENABLE : Fld := ⟨0x40200000, 0, 0, 0x0, 0x0⟩
def MIX_CTRL_w : Fld := ⟨0x40200000, 31, 0, 0x0, 0x0⟩
def MIX_SL_CTRL_ARM : Fld := ⟨0x40200008, 1, 1, 0x0, 0x0⟩
def MIX_SL_CTRL_HOLD : Fld := ⟨0x40200008, 0, 0, 0x0, 0x0⟩
def MIX_SL_CTRL_w : Fld := ⟨0x40200008, 31, 0, 0x0, 0x0⟩
def MIX_SL_STATUS_ARMED : Fld := ⟨0x4020000C, 16, 16, 0x0, 0x0⟩
def MIX_SL_STATUS_BLOCK : Fld := ⟨0x4020000C, 15, 0, 0x0, 0x0⟩
def MIX_SL_STATUS_w : Fld := ⟨0x4020000C, 31, 0, 0x0, 0x0⟩
def MIX_BUS_CFG_EN (i : Nat) : Fld := ⟨0x40220000 + 1024 * i, 31, 31, 0x0, 0x0⟩
def MIX_BUS_CFG_MUTE (i : Nat) : Fld := ⟨0x40220000 + 1024 * i, 30, 30, 0x0, 0x0⟩
def MIX_BUS_CFG_HOME_ZONE (i : Nat) : Fld := ⟨0x40220000 + 1024 * i, 29, 23, 0x0, 0x0⟩
def MIX_BUS_CFG_RAMPING (i : Nat) : Fld := ⟨0x40220000 + 1024 * i, 16, 16, 0x0, 0x0⟩
def MIX_BUS_CFG_CODE (i : Nat) : Fld := ⟨0x40220000 + 1024 * i, 15, 0, 0x0, 0x0⟩
def MIX_BUS_CFG_w (i : Nat) : Fld := ⟨0x40220000 + 1024 * i, 31, 0, 0x0, 0x0⟩
def MIX_OUT_CFG_EQ_N (i : Nat) : Fld := ⟨0x40260000 + 1024 * i, 25, 20, 0x20000, 0x20000⟩
def MIX_OUT_CFG_FIR_EN (i : Nat) : Fld := ⟨0x40260000 + 1024 * i, 19, 19, 0x20000, 0x20000⟩
def MIX_OUT_CFG_HEADROOM (i : Nat) : Fld := ⟨0x40260000 + 1024 * i, 18, 16, 0x20000, 0x20000⟩
def MIX_OUT_CFG_DELAY (i : Nat) : Fld := ⟨0x40260000 + 1024 * i, 15, 0, 0x20000, 0x20000⟩
def MIX_OUT_CFG_w (i : Nat) : Fld := ⟨0x40260000 + 1024 * i, 31, 0, 0x20000, 0x20000⟩
def MIX_OUT_FIR_FIR_SET (i : Nat) : Fld := ⟨0x40260004 + 1024 * i, 30, 30, 0x0, 0x0⟩
def MIX_OUT_FIR_FIR_LEN_M1 (i : Nat) : Fld := ⟨0x40260004 + 1024 * i, 29, 16, 0x0, 0x0⟩
def MIX_OUT_FIR_FIR_GEN (i : Nat) : Fld := ⟨0x40260004 + 1024 * i, 15, 0, 0x0, 0x0⟩
def MIX_OUT_FIR_w (i : Nat) : Fld := ⟨0x40260004 + 1024 * i, 31, 0, 0x0, 0x0⟩
def MIX_OUT_LIM_LIM_EN (i : Nat) : Fld := ⟨0x40260008 + 1024 * i, 22, 22, 0x50FFE7, 0x50FFE7⟩
def MIX_OUT_LIM_LIM_LOOK (i : Nat) : Fld := ⟨0x40260008 + 1024 * i, 21, 16, 0x50FFE7, 0x50FFE7⟩
def MIX_OUT_LIM_LIM_THRESH (i : Nat) : Fld := ⟨0x40260008 + 1024 * i, 15, 0, 0x50FFE7, 0x50FFE7⟩
def MIX_OUT_LIM_w (i : Nat) : Fld := ⟨0x40260008 + 1024 * i, 31, 0, 0x50FFE7, 0x50FFE7⟩
def MIX_OUT_LIM_REL_LIM_REL (i : Nat) : Fld := ⟨0x4026000C + 1024 * i, 23, 0, 0xDA7, 0x6D4⟩
def MIX_OUT_LIM_REL_w (i : Nat) : Fld := ⟨0x4026000C + 1024 * i, 31, 0, 0xDA7, 0x6D4⟩
def MIX_OUT_STATUS_FIR_ERR (i : Nat) : Fld := ⟨0x40260010 + 1024 * i, 1, 1, 0x0, 0x0⟩
def MIX_OUT_STATUS_LIMITING (i : Nat) : Fld := ⟨0x40260010 + 1024 * i, 0, 0, 0x0, 0x0⟩
def MIX_OUT_STATUS_w (i : Nat) : Fld := ⟨0x40260010 + 1024 * i, 31, 0, 0x0, 0x0⟩
def MIX_CNT_ODLY_FAIL_VALUE : Fld := ⟨0x40200020, 31, 0, 0x0, 0x0⟩
def MIX_CNT_SPEC_FAIL_VALUE : Fld := ⟨0x40200024, 31, 0, 0x0, 0x0⟩
def MIX_CNT_SPEC_LATE_VALUE : Fld := ⟨0x40200028, 31, 0, 0x0, 0x0⟩
def MIX_CNT_ROUTE_DEFER_VALUE : Fld := ⟨0x4020002C, 31, 0, 0x0, 0x0⟩
def MIX_CNT_ROUTE_REPL_VALUE : Fld := ⟨0x40200030, 31, 0, 0x0, 0x0⟩
def MIX_CNT_SL_COMMIT_VALUE : Fld := ⟨0x40200034, 31, 0, 0x0, 0x0⟩
def MIX_CNT_BUS_SAT_VALUE : Fld := ⟨0x40200038, 31, 0, 0x0, 0x0⟩
def MIX_CNT_BRG_SAT_VALUE : Fld := ⟨0x4020003C, 31, 0, 0x0, 0x0⟩
def MIX_BRG_SEL_FILTER : Fld := ⟨0x40200040, 9, 8, 0x0, 0x0⟩
def MIX_BRG_SEL_TAP : Fld := ⟨0x40200040, 7, 0, 0x0, 0x0⟩
def MIX_BRG_SEL_w : Fld := ⟨0x40200040, 31, 0, 0x0, 0x0⟩
def MIX_BRG_DATA_COEF : Fld := ⟨0x40200044, 17, 0, 0x0, 0x0⟩
def MIX_BRG_DATA_w : Fld := ⟨0x40200044, 31, 0, 0x0, 0x0⟩
def MIX_OBJ_GAIN_RAMPING (i : Nat) : Fld := ⟨0x40201000 + 4 * i, 17, 17, 0x0, 0x0⟩
def MIX_OBJ_GAIN_MUTE (i : Nat) : Fld := ⟨0x40201000 + 4 * i, 16, 16, 0x0, 0x0⟩
def MIX_OBJ_GAIN_CODE (i : Nat) : Fld := ⟨0x40201000 + 4 * i, 15, 0, 0x0, 0x0⟩
def MIX_OBJ_GAIN_w (i : Nat) : Fld := ⟨0x40201000 + 4 * i, 31, 0, 0x0, 0x0⟩
def MIX_BUS_MASK_ZONES (i j : Nat) : Fld := ⟨0x40220010 + 1024 * i + 4 * j, 31, 0, 0x0, 0x0⟩
def MIX_BUS_IN_W0_EN (i j : Nat) : Fld := ⟨0x40220200 + 1024 * i + 8 * j, 31, 31, 0x0, 0x0⟩
def MIX_BUS_IN_W0_KIND (i j : Nat) : Fld := ⟨0x40220200 + 1024 * i + 8 * j, 30, 30, 0x0, 0x0⟩
def MIX_BUS_IN_W0_SRC (i j : Nat) : Fld := ⟨0x40220200 + 1024 * i + 8 * j, 15, 0, 0x0, 0x0⟩
def MIX_BUS_IN_W0_w (i j : Nat) : Fld := ⟨0x40220200 + 1024 * i + 8 * j, 31, 0, 0x0, 0x0⟩
def MIX_BUS_IN_W1_CODE (i j : Nat) : Fld := ⟨0x40220204 + 1024 * i + 8 * j, 15, 0, 0x0, 0x0⟩
def MIX_BUS_IN_W1_w (i j : Nat) : Fld := ⟨0x40220204 + 1024 * i + 8 * j, 31, 0, 0x0, 0x0⟩
def MIX_OUT_BQ_B0_COEF (i j : Nat) : Fld := ⟨0x40260100 + 1024 * i + 20 * j, 17, 0, 0x8000, 0x8000⟩
def MIX_OUT_BQ_B0_w (i j : Nat) : Fld := ⟨0x40260100 + 1024 * i + 20 * j, 31, 0, 0x8000, 0x8000⟩
def MIX_OUT_BQ_C_COEF (i j k : Nat) : Fld := ⟨0x40260104 + 1024 * i + 20 * j + 4 * k, 17, 0, 0x0, 0x0⟩
def MIX_OUT_BQ_C_w (i j k : Nat) : Fld := ⟨0x40260104 + 1024 * i + 20 * j + 4 * k, 31, 0, 0x0, 0x0⟩

/-! ### TDM: 09_audio_ports.md R193 -/

def TDM_CFG_EN (i : Nat) : Fld := ⟨0x50000000 + 1024 * i, 31, 31, 0x44000FF, 0x44000FF⟩
def TDM_CFG_MASTER (i : Nat) : Fld := ⟨0x50000000 + 1024 * i, 30, 30, 0x44000FF, 0x44000FF⟩
def TDM_CFG_ASYNC (i : Nat) : Fld := ⟨0x50000000 + 1024 * i, 29, 29, 0x44000FF, 0x44000FF⟩
def TDM_CFG_FSW (i : Nat) : Fld := ⟨0x50000000 + 1024 * i, 28, 28, 0x44000FF, 0x44000FF⟩
def TDM_CFG_FSPOL (i : Nat) : Fld := ⟨0x50000000 + 1024 * i, 27, 27, 0x44000FF, 0x44000FF⟩
def TDM_CFG_DELAY (i : Nat) : Fld := ⟨0x50000000 + 1024 * i, 26, 26, 0x44000FF, 0x44000FF⟩
def TDM_CFG_EDGE (i : Nat) : Fld := ⟨0x50000000 + 1024 * i, 25, 25, 0x44000FF, 0x44000FF⟩
def TDM_CFG_TRI (i : Nat) : Fld := ⟨0x50000000 + 1024 * i, 24, 24, 0x44000FF, 0x44000FF⟩
def TDM_CFG_DIV (i : Nat) : Fld := ⟨0x50000000 + 1024 * i, 23, 21, 0x44000FF, 0x44000FF⟩
def TDM_CFG_SLOTS_M1 (i : Nat) : Fld := ⟨0x50000000 + 1024 * i, 9, 5, 0x44000FF, 0x44000FF⟩
def TDM_CFG_WIDTH_M1 (i : Nat) : Fld := ⟨0x50000000 + 1024 * i, 4, 0, 0x44000FF, 0x44000FF⟩
def TDM_CFG_w (i : Nat) : Fld := ⟨0x50000000 + 1024 * i, 31, 0, 0x44000FF, 0x44000FF⟩
def TDM_ALIGN_TOL (i : Nat) : Fld := ⟨0x5000000C + 1024 * i, 14, 0, 0x3E8, 0x3E8⟩
def TDM_ALIGN_w (i : Nat) : Fld := ⟨0x5000000C + 1024 * i, 31, 0, 0x3E8, 0x3E8⟩
def TDM_STATUS_MASK_PEND (i : Nat) : Fld := ⟨0x50000010 + 1024 * i, 4, 4, 0x0, 0x0⟩
def TDM_STATUS_FS_ERR (i : Nat) : Fld := ⟨0x50000010 + 1024 * i, 3, 3, 0x0, 0x0⟩
def TDM_STATUS_SLIP (i : Nat) : Fld := ⟨0x50000010 + 1024 * i, 2, 2, 0x0, 0x0⟩
def TDM_STATUS_ALIGNED (i : Nat) : Fld := ⟨0x50000010 + 1024 * i, 1, 1, 0x0, 0x0⟩
def TDM_STATUS_LOCKED (i : Nat) : Fld := ⟨0x50000010 + 1024 * i, 0, 0, 0x0, 0x0⟩
def TDM_STATUS_w (i : Nat) : Fld := ⟨0x50000010 + 1024 * i, 31, 0, 0x0, 0x0⟩

/-! ### AES: 09_audio_ports.md R193 -/

def AES_ICFG_EN (i : Nat) : Fld := ⟨0x50010000 + 256 * i, 31, 31, 0xC002000, 0xC002000⟩
def AES_ICFG_ASYNC (i : Nat) : Fld := ⟨0x50010000 + 256 * i, 30, 30, 0xC002000, 0xC002000⟩
def AES_ICFG_VMODE (i : Nat) : Fld := ⟨0x50010000 + 256 * i, 29, 28, 0xC002000, 0xC002000⟩
def AES_ICFG_CS_NA_EN (i : Nat) : Fld := ⟨0x50010000 + 256 * i, 27, 27, 0xC002000, 0xC002000⟩
def AES_ICFG_BURST_EN (i : Nat) : Fld := ⟨0x50010000 + 256 * i, 26, 26, 0xC002000, 0xC002000⟩
def AES_ICFG_NA_HOLD (i : Nat) : Fld := ⟨0x50010000 + 256 * i, 15, 0, 0xC002000, 0xC002000⟩
def AES_ICFG_w (i : Nat) : Fld := ⟨0x50010000 + 256 * i, 31, 0, 0xC002000, 0xC002000⟩
def AES_ISTAT_CS_ERR (i : Nat) : Fld := ⟨0x50010004 + 256 * i, 7, 7, 0x0, 0x0⟩
def AES_ISTAT_PARITY (i : Nat) : Fld := ⟨0x50010004 + 256 * i, 6, 6, 0x0, 0x0⟩
def AES_ISTAT_BIPHASE (i : Nat) : Fld := ⟨0x50010004 + 256 * i, 5, 5, 0x0, 0x0⟩
def AES_ISTAT_NON_AUDIO (i : Nat) : Fld := ⟨0x50010004 + 256 * i, 4, 4, 0x0, 0x0⟩
def AES_ISTAT_PRO (i : Nat) : Fld := ⟨0x50010004 + 256 * i, 3, 3, 0x0, 0x0⟩
def AES_ISTAT_SLIP (i : Nat) : Fld := ⟨0x50010004 + 256 * i, 2, 2, 0x0, 0x0⟩
def AES_ISTAT_ALIGNED (i : Nat) : Fld := ⟨0x50010004 + 256 * i, 1, 1, 0x0, 0x0⟩
def AES_ISTAT_LOCKED (i : Nat) : Fld := ⟨0x50010004 + 256 * i, 0, 0, 0x0, 0x0⟩
def AES_ISTAT_w (i : Nat) : Fld := ⟨0x50010004 + 256 * i, 31, 0, 0x0, 0x0⟩

/-! ### ASC: 09_audio_ports.md R193 -/

def ASC_CFG_EN (i : Nat) : Fld := ⟨0x50020000 + 64 * i, 31, 31, 0x0, 0x0⟩
def ASC_CFG_OUT_VOICE (i : Nat) : Fld := ⟨0x50020000 + 64 * i, 30, 30, 0x0, 0x0⟩
def ASC_CFG_KIND (i : Nat) : Fld := ⟨0x50020000 + 64 * i, 29, 28, 0x0, 0x0⟩
def ASC_CFG_PORT (i : Nat) : Fld := ⟨0x50020000 + 64 * i, 8, 5, 0x0, 0x0⟩
def ASC_CFG_CHANNEL (i : Nat) : Fld := ⟨0x50020000 + 64 * i, 4, 0, 0x0, 0x0⟩
def ASC_CFG_w (i : Nat) : Fld := ⟨0x50020000 + 64 * i, 31, 0, 0x0, 0x0⟩

/-! ### MIC: 09_audio_ports.md R193 -/

def MIC_CFG_EN (i : Nat) : Fld := ⟨0x50030000 + 256 * i, 31, 31, 0x0, 0x0⟩
def MIC_CFG_BIAS_EN (i : Nat) : Fld := ⟨0x50030000 + 256 * i, 30, 30, 0x0, 0x0⟩
def MIC_CFG_DET_EN (i : Nat) : Fld := ⟨0x50030000 + 256 * i, 29, 29, 0x0, 0x0⟩
def MIC_CFG_PLUGGABLE (i : Nat) : Fld := ⟨0x50030000 + 256 * i, 28, 28, 0x0, 0x0⟩
def MIC_CFG_HPF (i : Nat) : Fld := ⟨0x50030000 + 256 * i, 27, 26, 0x0, 0x0⟩
def MIC_CFG_GAIN (i : Nat) : Fld := ⟨0x50030000 + 256 * i, 3, 0, 0x0, 0x0⟩
def MIC_CFG_w (i : Nat) : Fld := ⟨0x50030000 + 256 * i, 31, 0, 0x0, 0x0⟩
def MIC_DET_CFG_ZC_TO (i : Nat) : Fld := ⟨0x50030004 + 256 * i, 31, 24, 0x10006414, 0x10006414⟩
def MIC_DET_CFG_REL_DB (i : Nat) : Fld := ⟨0x50030004 + 256 * i, 15, 8, 0x10006414, 0x10006414⟩
def MIC_DET_CFG_PTT_DB (i : Nat) : Fld := ⟨0x50030004 + 256 * i, 7, 0, 0x10006414, 0x10006414⟩
def MIC_DET_CFG_w (i : Nat) : Fld := ⟨0x50030004 + 256 * i, 31, 0, 0x10006414, 0x10006414⟩
def MIC_STATUS_GAIN_NOW (i : Nat) : Fld := ⟨0x50030008 + 256 * i, 15, 12, 0x500, 0x500⟩
def MIC_STATUS_GAIN_PEND (i : Nat) : Fld := ⟨0x50030008 + 256 * i, 11, 11, 0x500, 0x500⟩
def MIC_STATUS_BAND (i : Nat) : Fld := ⟨0x50030008 + 256 * i, 10, 8, 0x500, 0x500⟩
def MIC_STATUS_FAULT (i : Nat) : Fld := ⟨0x50030008 + 256 * i, 7, 7, 0x500, 0x500⟩
def MIC_STATUS_CLASS (i : Nat) : Fld := ⟨0x50030008 + 256 * i, 6, 5, 0x500, 0x500⟩
def MIC_STATUS_CAUSE (i : Nat) : Fld := ⟨0x50030008 + 256 * i, 4, 3, 0x500, 0x500⟩
def MIC_STATUS_PTT (i : Nat) : Fld := ⟨0x50030008 + 256 * i, 2, 2, 0x500, 0x500⟩
def MIC_STATUS_FAULT_EVT (i : Nat) : Fld := ⟨0x50030008 + 256 * i, 1, 1, 0x500, 0x500⟩
def MIC_STATUS_EVT (i : Nat) : Fld := ⟨0x50030008 + 256 * i, 0, 0, 0x500, 0x500⟩
def MIC_STATUS_w (i : Nat) : Fld := ⟨0x50030008 + 256 * i, 31, 0, 0x500, 0x500⟩

/-! ### TDM: 09_audio_ports.md R193 -/

def TDM_MASK_IN_SLOTS (i : Nat) : Fld := ⟨0x50000004 + 1024 * i, 31, 0, 0x0, 0x0⟩
def TDM_MASK_OUT_SLOTS (i : Nat) : Fld := ⟨0x50000008 + 1024 * i, 31, 0, 0x0, 0x0⟩
def TDM_BTS_LO_C (i : Nat) : Fld := ⟨0x50000020 + 1024 * i, 31, 0, 0x0, 0x0⟩
def TDM_BTS_HI_C (i : Nat) : Fld := ⟨0x50000024 + 1024 * i, 31, 0, 0x0, 0x0⟩
def TDM_BTS_BLK_PHASE (i : Nat) : Fld := ⟨0x50000028 + 1024 * i, 31, 16, 0x0, 0x0⟩
def TDM_BTS_BLK_BLOCK (i : Nat) : Fld := ⟨0x50000028 + 1024 * i, 15, 0, 0x0, 0x0⟩
def TDM_BTS_BLK_w (i : Nat) : Fld := ⟨0x50000028 + 1024 * i, 31, 0, 0x0, 0x0⟩

/-! ### AES: 09_audio_ports.md R193 -/

def AES_IBTS_LO_C (i : Nat) : Fld := ⟨0x50010030 + 256 * i, 31, 0, 0x0, 0x0⟩
def AES_IBTS_HI_C (i : Nat) : Fld := ⟨0x50010034 + 256 * i, 31, 0, 0x0, 0x0⟩
def AES_IBTS_BLK_PHASE (i : Nat) : Fld := ⟨0x50010038 + 256 * i, 31, 16, 0x0, 0x0⟩
def AES_IBTS_BLK_BLOCK (i : Nat) : Fld := ⟨0x50010038 + 256 * i, 15, 0, 0x0, 0x0⟩
def AES_IBTS_BLK_w (i : Nat) : Fld := ⟨0x50010038 + 256 * i, 31, 0, 0x0, 0x0⟩

/-! ### TDM: 09_audio_ports.md R193 -/

def TDM_CHMAP_EN (i j : Nat) : Fld := ⟨0x50000100 + 1024 * i + 4 * j, 31, 31, 0x0, 0x0⟩
def TDM_CHMAP_OUTPUT (i j : Nat) : Fld := ⟨0x50000100 + 1024 * i + 4 * j, 9, 0, 0x0, 0x0⟩
def TDM_CHMAP_w (i j : Nat) : Fld := ⟨0x50000100 + 1024 * i + 4 * j, 31, 0, 0x0, 0x0⟩

/-! ### AES: 09_audio_ports.md R193 -/

def AES_IRATE_RATE (i : Nat) : Fld := ⟨0x50010008 + 256 * i, 17, 0, 0x0, 0x0⟩
def AES_IRATE_w (i : Nat) : Fld := ⟨0x50010008 + 256 * i, 31, 0, 0x0, 0x0⟩
def AES_ICS_CS (i j : Nat) : Fld := ⟨0x50010010 + 256 * i + 4 * j, 31, 0, 0x0, 0x0⟩
def AES_OCFG_EN (i : Nat) : Fld := ⟨0x50010800 + 256 * i, 31, 31, 0x0, 0x0⟩
def AES_OCFG_V (i : Nat) : Fld := ⟨0x50010800 + 256 * i, 30, 30, 0x0, 0x0⟩
def AES_OCFG_w (i : Nat) : Fld := ⟨0x50010800 + 256 * i, 31, 0, 0x0, 0x0⟩
def AES_OMAP_EN_B (i : Nat) : Fld := ⟨0x50010804 + 256 * i, 31, 31, 0x0, 0x0⟩
def AES_OMAP_OUT_B (i : Nat) : Fld := ⟨0x50010804 + 256 * i, 25, 16, 0x0, 0x0⟩
def AES_OMAP_EN_A (i : Nat) : Fld := ⟨0x50010804 + 256 * i, 15, 15, 0x0, 0x0⟩
def AES_OMAP_OUT_A (i : Nat) : Fld := ⟨0x50010804 + 256 * i, 9, 0, 0x0, 0x0⟩
def AES_OMAP_w (i : Nat) : Fld := ⟨0x50010804 + 256 * i, 31, 0, 0x0, 0x0⟩
def AES_OCS0_CS (i : Nat) : Fld := ⟨0x50010810 + 256 * i, 31, 0, 0x1, 0x1⟩
def AES_OCS_CS (i j : Nat) : Fld := ⟨0x50010814 + 256 * i + 4 * j, 31, 0, 0x0, 0x0⟩

/-! ### ASC: 09_audio_ports.md R193 -/

def ASC_LOOP_BW (i : Nat) : Fld := ⟨0x50020004 + 64 * i, 3, 0, 0x4, 0x4⟩
def ASC_LOOP_w (i : Nat) : Fld := ⟨0x50020004 + 64 * i, 31, 0, 0x4, 0x4⟩
def ASC_STATUS_UNLOCK (i : Nat) : Fld := ⟨0x50020008 + 64 * i, 2, 2, 0x0, 0x0⟩
def ASC_STATUS_LOCKED (i : Nat) : Fld := ⟨0x50020008 + 64 * i, 1, 1, 0x0, 0x0⟩
def ASC_STATUS_ACQ (i : Nat) : Fld := ⟨0x50020008 + 64 * i, 0, 0, 0x0, 0x0⟩
def ASC_STATUS_w (i : Nat) : Fld := ⟨0x50020008 + 64 * i, 31, 0, 0x0, 0x0⟩
def ASC_RATIO_LO_FRAC (i : Nat) : Fld := ⟨0x5002000C + 64 * i, 31, 0, 0x0, 0x0⟩
def ASC_RATIO_HI_INT (i : Nat) : Fld := ⟨0x50020010 + 64 * i, 3, 0, 0x0, 0x0⟩
def ASC_RATIO_HI_w (i : Nat) : Fld := ⟨0x50020010 + 64 * i, 31, 0, 0x0, 0x0⟩
def ASC_FIN_FIN (i : Nat) : Fld := ⟨0x50020014 + 64 * i, 17, 0, 0x0, 0x0⟩
def ASC_FIN_w (i : Nat) : Fld := ⟨0x50020014 + 64 * i, 31, 0, 0x0, 0x0⟩

/-! ### TDM: 09_audio_ports.md R193 -/

def TDM_CNT_FS_ERR_VALUE (i : Nat) : Fld := ⟨0x50000040 + 1024 * i, 31, 0, 0x0, 0x0⟩
def TDM_CNT_SLIP_VALUE (i : Nat) : Fld := ⟨0x50000044 + 1024 * i, 31, 0, 0x0, 0x0⟩
def TDM_CNT_SAT_VALUE (i : Nat) : Fld := ⟨0x50000048 + 1024 * i, 31, 0, 0x0, 0x0⟩

/-! ### AES: 09_audio_ports.md R193 -/

def AES_CNT_PARITY_VALUE (i : Nat) : Fld := ⟨0x50010040 + 256 * i, 31, 0, 0x0, 0x0⟩
def AES_CNT_BIPHASE_VALUE (i : Nat) : Fld := ⟨0x50010044 + 256 * i, 31, 0, 0x0, 0x0⟩
def AES_CNT_CS_ERR_VALUE (i : Nat) : Fld := ⟨0x50010048 + 256 * i, 31, 0, 0x0, 0x0⟩
def AES_CNT_BURST_VALUE (i : Nat) : Fld := ⟨0x5001004C + 256 * i, 31, 0, 0x0, 0x0⟩
def AES_CNT_SLIP_VALUE (i : Nat) : Fld := ⟨0x50010050 + 256 * i, 31, 0, 0x0, 0x0⟩

/-! ### ASC: 09_audio_ports.md R193 -/

def ASC_CNT_UNLOCK_VALUE (i : Nat) : Fld := ⟨0x50020020 + 64 * i, 31, 0, 0x0, 0x0⟩

/-! ### MIC: 09_audio_ports.md R193 -/

def MIC_DET_VALUE (i : Nat) : Fld := ⟨0x5003000C + 256 * i, 11, 0, 0x0, 0x0⟩
def MIC_DET_w (i : Nat) : Fld := ⟨0x5003000C + 256 * i, 31, 0, 0x0, 0x0⟩
def MIC_CNT_PTT_VALUE (i : Nat) : Fld := ⟨0x50030020 + 256 * i, 31, 0, 0x0, 0x0⟩
def MIC_CNT_FAULT_VALUE (i : Nat) : Fld := ⟨0x50030024 + 256 * i, 31, 0, 0x0, 0x0⟩
def MIC_CNT_ZC_TO_VALUE (i : Nat) : Fld := ⟨0x50030028 + 256 * i, 31, 0, 0x0, 0x0⟩

/-! ### PWS: 10_power_stage.md R213 -/

def PWS_CTRL_SAG_FULL : Fld := ⟨0x50040000, 1, 1, 0x0, 0x0⟩
def PWS_CTRL_ENABLE : Fld := ⟨0x50040000, 0, 0, 0x0, 0x0⟩
def PWS_CTRL_w : Fld := ⟨0x50040000, 31, 0, 0x0, 0x0⟩
def PWS_FAULT_SUM_CHAN : Fld := ⟨0x50040004, 23, 0, 0x0, 0x0⟩
def PWS_FAULT_SUM_w : Fld := ⟨0x50040004, 31, 0, 0x0, 0x0⟩
def PWS_CFG_EN (i : Nat) : Fld := ⟨0x50041000 + 256 * i, 31, 31, 0x0, 0x0⟩
def PWS_CFG_PROG (i : Nat) : Fld := ⟨0x50041000 + 256 * i, 30, 30, 0x0, 0x0⟩
def PWS_CFG_ROLE (i : Nat) : Fld := ⟨0x50041000 + 256 * i, 29, 28, 0x0, 0x0⟩
def PWS_CFG_START (i : Nat) : Fld := ⟨0x50041000 + 256 * i, 27, 27, 0x0, 0x0⟩
def PWS_CFG_FB_EN (i : Nat) : Fld := ⟨0x50041000 + 256 * i, 26, 26, 0x0, 0x0⟩
def PWS_CFG_FB (i : Nat) : Fld := ⟨0x50041000 + 256 * i, 25, 21, 0x0, 0x0⟩
def PWS_CFG_OUTPUT (i : Nat) : Fld := ⟨0x50041000 + 256 * i, 9, 0, 0x0, 0x0⟩
def PWS_CFG_w (i : Nat) : Fld := ⟨0x50041000 + 256 * i, 31, 0, 0x0, 0x0⟩
def PWS_FSW_F_MAX (i : Nat) : Fld := ⟨0x50041004 + 256 * i, 29, 20, 0x32000190, 0x32000190⟩
def PWS_FSW_F_MIN (i : Nat) : Fld := ⟨0x50041004 + 256 * i, 19, 10, 0x32000190, 0x32000190⟩
def PWS_FSW_F_NOM (i : Nat) : Fld := ⟨0x50041004 + 256 * i, 9, 0, 0x32000190, 0x32000190⟩
def PWS_FSW_w (i : Nat) : Fld := ⟨0x50041004 + 256 * i, 31, 0, 0x32000190, 0x32000190⟩
def PWS_TIME_RAMP_MS (i : Nat) : Fld := ⟨0x50041008 + 256 * i, 22, 16, 0x140010, 0x140010⟩
def PWS_TIME_DT (i : Nat) : Fld := ⟨0x50041008 + 256 * i, 6, 0, 0x140010, 0x140010⟩
def PWS_TIME_w (i : Nat) : Fld := ⟨0x50041008 + 256 * i, 31, 0, 0x140010, 0x140010⟩
def PWS_VFS_VFS (i : Nat) : Fld := ⟨0x5004100C + 256 * i, 15, 0, 0xFA0, 0xFA0⟩
def PWS_VFS_w (i : Nat) : Fld := ⟨0x5004100C + 256 * i, 31, 0, 0xFA0, 0xFA0⟩
def PWS_SAG_AUTH (i : Nat) : Fld := ⟨0x50041010 + 256 * i, 5, 0, 0x6, 0x6⟩
def PWS_SAG_w (i : Nat) : Fld := ⟨0x50041010 + 256 * i, 31, 0, 0x6, 0x6⟩
def PWS_CAL_I_CAL (i : Nat) : Fld := ⟨0x50041014 + 256 * i, 31, 16, 0xFA0753, 0xFA0753⟩
def PWS_CAL_V_CAL (i : Nat) : Fld := ⟨0x50041014 + 256 * i, 15, 0, 0xFA0753, 0xFA0753⟩
def PWS_CAL_w (i : Nat) : Fld := ⟨0x50041014 + 256 * i, 31, 0, 0xFA0753, 0xFA0753⟩
def PWS_PROBE_ZMIN (i : Nat) : Fld := ⟨0x50041018 + 256 * i, 15, 0, 0x0, 0x0⟩
def PWS_PROBE_w (i : Nat) : Fld := ⟨0x50041018 + 256 * i, 31, 0, 0x0, 0x0⟩
def PWS_LOOP_VMIN (i : Nat) : Fld := ⟨0x5004101C + 256 * i, 15, 0, 0xFA, 0xFA⟩
def PWS_LOOP_w (i : Nat) : Fld := ⟨0x5004101C + 256 * i, 31, 0, 0xFA, 0xFA⟩
def PWS_STATUS_F_NOW (i : Nat) : Fld := ⟨0x50041020 + 256 * i, 28, 19, 0x0, 0x0⟩
def PWS_STATUS_STATE (i : Nat) : Fld := ⟨0x50041020 + 256 * i, 18, 15, 0x0, 0x0⟩
def PWS_STATUS_ATTEMPTS (i : Nat) : Fld := ⟨0x50041020 + 256 * i, 14, 13, 0x0, 0x0⟩
def PWS_STATUS_LOOP_DRIVE (i : Nat) : Fld := ⟨0x50041020 + 256 * i, 4, 4, 0x0, 0x0⟩
def PWS_STATUS_FB_ACTIVE (i : Nat) : Fld := ⟨0x50041020 + 256 * i, 3, 3, 0x0, 0x0⟩
def PWS_STATUS_LIMITING (i : Nat) : Fld := ⟨0x50041020 + 256 * i, 2, 2, 0x0, 0x0⟩
def PWS_STATUS_TRIP (i : Nat) : Fld := ⟨0x50041020 + 256 * i, 1, 1, 0x0, 0x0⟩
def PWS_STATUS_SWITCHING (i : Nat) : Fld := ⟨0x50041020 + 256 * i, 0, 0, 0x0, 0x0⟩
def PWS_STATUS_w (i : Nat) : Fld := ⟨0x50041020 + 256 * i, 31, 0, 0x0, 0x0⟩
def PWS_FAULT_CLIP (i : Nat) : Fld := ⟨0x50041024 + 256 * i, 5, 5, 0x0, 0x0⟩
def PWS_FAULT_BAND_FAIL (i : Nat) : Fld := ⟨0x50041024 + 256 * i, 4, 4, 0x0, 0x0⟩
def PWS_FAULT_OPEN (i : Nat) : Fld := ⟨0x50041024 + 256 * i, 3, 3, 0x0, 0x0⟩
def PWS_FAULT_DC (i : Nat) : Fld := ⟨0x50041024 + 256 * i, 2, 2, 0x0, 0x0⟩
def PWS_FAULT_LATCH (i : Nat) : Fld := ⟨0x50041024 + 256 * i, 1, 1, 0x0, 0x0⟩
def PWS_FAULT_SHORT (i : Nat) : Fld := ⟨0x50041024 + 256 * i, 0, 0, 0x0, 0x0⟩
def PWS_FAULT_w (i : Nat) : Fld := ⟨0x50041024 + 256 * i, 31, 0, 0x0, 0x0⟩
def PWS_MEAS_Z (i : Nat) : Fld := ⟨0x50041028 + 256 * i, 31, 16, 0x0, 0x0⟩
def PWS_MEAS_VMEAN (i : Nat) : Fld := ⟨0x50041028 + 256 * i, 15, 0, 0x0, 0x0⟩
def PWS_MEAS_w (i : Nat) : Fld := ⟨0x50041028 + 256 * i, 31, 0, 0x0, 0x0⟩
def PWS_PROT_EN (i : Nat) : Fld := ⟨0x50040010 + 4 * i, 31, 31, 0x0, 0x0⟩
def PWS_PROT_FREQ (i : Nat) : Fld := ⟨0x50040010 + 4 * i, 14, 0, 0x0, 0x0⟩
def PWS_PROT_w (i : Nat) : Fld := ⟨0x50040010 + 4 * i, 31, 0, 0x0, 0x0⟩
def PWS_CNT_TRIP_VALUE (i : Nat) : Fld := ⟨0x50041040 + 256 * i, 31, 0, 0x0, 0x0⟩
def PWS_CNT_STOP_VALUE (i : Nat) : Fld := ⟨0x50041044 + 256 * i, 31, 0, 0x0, 0x0⟩
def PWS_CNT_PROBE_FAIL_VALUE (i : Nat) : Fld := ⟨0x50041048 + 256 * i, 31, 0, 0x0, 0x0⟩
def PWS_CNT_DC_VALUE (i : Nat) : Fld := ⟨0x5004104C + 256 * i, 31, 0, 0x0, 0x0⟩
def PWS_CNT_CLIP_VALUE (i : Nat) : Fld := ⟨0x50041050 + 256 * i, 31, 0, 0x0, 0x0⟩
def PWS_CNT_OPEN_VALUE (i : Nat) : Fld := ⟨0x50041054 + 256 * i, 31, 0, 0x0, 0x0⟩
def PWS_CNT_BAND_VALUE (i : Nat) : Fld := ⟨0x50041058 + 256 * i, 31, 0, 0x0, 0x0⟩

/-! ### TLY: 11_tally.md R232 -/

def TLY_CTRL_SUSPEND : Fld := ⟨0x50070000, 8, 8, 0x0, 0x0⟩
def TLY_CTRL_SNS_EN : Fld := ⟨0x50070000, 5, 5, 0x0, 0x0⟩
def TLY_CTRL_FOLD_EN : Fld := ⟨0x50070000, 4, 4, 0x0, 0x0⟩
def TLY_CTRL_DRV_EN : Fld := ⟨0x50070000, 3, 3, 0x0, 0x0⟩
def TLY_CTRL_DRAM_EN : Fld := ⟨0x50070000, 2, 2, 0x0, 0x0⟩
def TLY_CTRL_LINE_EN : Fld := ⟨0x50070000, 1, 1, 0x0, 0x0⟩
def TLY_CTRL_ENABLE : Fld := ⟨0x50070000, 0, 0, 0x0, 0x0⟩
def TLY_CTRL_w : Fld := ⟨0x50070000, 31, 0, 0x0, 0x0⟩
def TLY_STATUS_IN_WINDOW : Fld := ⟨0x50070004, 9, 9, 0x0, 0x0⟩
def TLY_STATUS_LINE_BUSY : Fld := ⟨0x50070004, 8, 8, 0x0, 0x0⟩
def TLY_STATUS_CHANNEL : Fld := ⟨0x50070004, 4, 0, 0x0, 0x0⟩
def TLY_STATUS_w : Fld := ⟨0x50070004, 31, 0, 0x0, 0x0⟩
def TLY_WIN_LEN : Fld := ⟨0x50070008, 27, 17, 0x781518, 0x781518⟩
def TLY_WIN_START : Fld := ⟨0x50070008, 16, 0, 0x781518, 0x781518⟩
def TLY_WIN_w : Fld := ⟨0x50070008, 31, 0, 0x781518, 0x781518⟩
def TLY_LINE_CFG_FAR_MIN : Fld := ⟨0x50070010, 31, 24, 0x32281414, 0x32281414⟩
def TLY_LINE_CFG_PROG_MAX : Fld := ⟨0x50070010, 23, 16, 0x32281414, 0x32281414⟩
def TLY_LINE_CFG_TOL_HI : Fld := ⟨0x50070010, 15, 8, 0x32281414, 0x32281414⟩
def TLY_LINE_CFG_TOL_LO : Fld := ⟨0x50070010, 7, 0, 0x32281414, 0x32281414⟩
def TLY_LINE_CFG_w : Fld := ⟨0x50070010, 31, 0, 0x32281414, 0x32281414⟩
def TLY_DRV_FAIL : Fld := ⟨0x50070100, 21, 21, 0x3C00, 0x3C00⟩
def TLY_DRV_FAILED : Fld := ⟨0x50070100, 20, 16, 0x3C00, 0x3C00⟩
def TLY_DRV_INTERVAL : Fld := ⟨0x50070100, 15, 8, 0x3C00, 0x3C00⟩
def TLY_DRV_NEXT : Fld := ⟨0x50070100, 4, 0, 0x3C00, 0x3C00⟩
def TLY_DRV_w : Fld := ⟨0x50070100, 31, 0, 0x3C00, 0x3C00⟩
def TLY_BASE_VALID (i : Nat) : Fld := ⟨0x50070040 + 4 * i, 31, 31, 0x0, 0x0⟩
def TLY_BASE_PHASE (i : Nat) : Fld := ⟨0x50070040 + 4 * i, 27, 16, 0x0, 0x0⟩
def TLY_BASE_Z (i : Nat) : Fld := ⟨0x50070040 + 4 * i, 15, 0, 0x0, 0x0⟩
def TLY_BASE_w (i : Nat) : Fld := ⟨0x50070040 + 4 * i, 31, 0, 0x0, 0x0⟩
def TLY_RES_RESULT (i : Nat) : Fld := ⟨0x500700A0 + 4 * i, 31, 28, 0x0, 0x0⟩
def TLY_RES_PHASE (i : Nat) : Fld := ⟨0x500700A0 + 4 * i, 27, 16, 0x0, 0x0⟩
def TLY_RES_Z (i : Nat) : Fld := ⟨0x500700A0 + 4 * i, 15, 0, 0x0, 0x0⟩
def TLY_RES_w (i : Nat) : Fld := ⟨0x500700A0 + 4 * i, 31, 0, 0x0, 0x0⟩
def TLY_WIN_OFS_VALUE : Fld := ⟨0x5007000C, 11, 0, 0x0, 0x0⟩
def TLY_WIN_OFS_w : Fld := ⟨0x5007000C, 31, 0, 0x0, 0x0⟩
def TLY_LINE_SEL_VALUE : Fld := ⟨0x50070014, 23, 0, 0x0, 0x0⟩
def TLY_LINE_SEL_w : Fld := ⟨0x50070014, 31, 0, 0x0, 0x0⟩
def TLY_LINE_FAULT_VALUE : Fld := ⟨0x50070018, 23, 0, 0x0, 0x0⟩
def TLY_LINE_FAULT_w : Fld := ⟨0x50070018, 31, 0, 0x0, 0x0⟩
def TLY_SNS_FAULT_VALUE : Fld := ⟨0x5007001C, 31, 0, 0x0, 0x0⟩
def TLY_SNS_FAULT2_VALUE : Fld := ⟨0x50070020, 17, 0, 0x0, 0x0⟩
def TLY_SNS_FAULT2_w : Fld := ⟨0x50070020, 31, 0, 0x0, 0x0⟩
def TLY_SNS_TOL : Fld := ⟨0x50070024, 7, 0, 0x1F, 0x1F⟩
def TLY_SNS_w : Fld := ⟨0x50070024, 31, 0, 0x1F, 0x1F⟩
def TLY_DRV_SIG_VALUE : Fld := ⟨0x50070104, 31, 0, 0x0, 0x0⟩
def TLY_FOLD_VALUE : Fld := ⟨0x5007010C, 31, 0, 0x0, 0x0⟩
def TLY_DRAM_PTR_VALUE : Fld := ⟨0x50070110, 31, 0, 0x0, 0x0⟩
def TLY_LOG_HEAD_COUNT : Fld := ⟨0x50070120, 28, 16, 0x0, 0x0⟩
def TLY_LOG_HEAD_NEXT : Fld := ⟨0x50070120, 15, 0, 0x0, 0x0⟩
def TLY_LOG_HEAD_w : Fld := ⟨0x50070120, 31, 0, 0x0, 0x0⟩
def TLY_LOG_SEL_VALUE : Fld := ⟨0x50070124, 15, 0, 0x0, 0x0⟩
def TLY_LOG_SEL_w : Fld := ⟨0x50070124, 31, 0, 0x0, 0x0⟩
def TLY_LOG_DATA_DATA (i : Nat) : Fld := ⟨0x50070128 + 4 * i, 31, 0, 0x0, 0x0⟩
def TLY_CNT_LINE_FAIL_VALUE : Fld := ⟨0x50070140, 31, 0, 0x0, 0x0⟩
def TLY_CNT_DEFER_VALUE : Fld := ⟨0x50070144, 31, 0, 0x0, 0x0⟩
def TLY_CNT_ABORT_VALUE : Fld := ⟨0x50070148, 31, 0, 0x0, 0x0⟩
def TLY_CNT_DRV_FAIL_VALUE : Fld := ⟨0x5007014C, 31, 0, 0x0, 0x0⟩
def TLY_CNT_DRAM_FAIL_VALUE : Fld := ⟨0x50070150, 31, 0, 0x0, 0x0⟩
def TLY_CNT_FOLD_ERR_VALUE : Fld := ⟨0x50070154, 31, 0, 0x0, 0x0⟩
def TLY_CNT_SNS_FAIL_VALUE : Fld := ⟨0x50070158, 31, 0, 0x0, 0x0⟩
def TLY_CNT_LOG_LOST_VALUE : Fld := ⟨0x5007015C, 31, 0, 0x0, 0x0⟩

/-! ### MAC: 12_ethernet.md R249 -/

def MAC_CTRL_STRIP_FCS (i : Nat) : Fld := ⟨0x40400000 + 65536 * i, 5, 5, 0x20, 0x20⟩
def MAC_CTRL_PROMISC (i : Nat) : Fld := ⟨0x40400000 + 65536 * i, 4, 4, 0x20, 0x20⟩
def MAC_CTRL_MC_ALL (i : Nat) : Fld := ⟨0x40400000 + 65536 * i, 3, 3, 0x20, 0x20⟩
def MAC_CTRL_RX_PAUSE (i : Nat) : Fld := ⟨0x40400000 + 65536 * i, 2, 2, 0x20, 0x20⟩
def MAC_CTRL_TX_EN (i : Nat) : Fld := ⟨0x40400000 + 65536 * i, 1, 1, 0x20, 0x20⟩
def MAC_CTRL_RX_EN (i : Nat) : Fld := ⟨0x40400000 + 65536 * i, 0, 0, 0x20, 0x20⟩
def MAC_CTRL_w (i : Nat) : Fld := ⟨0x40400000 + 65536 * i, 31, 0, 0x20, 0x20⟩
def MAC_MODE_INBAND (i : Nat) : Fld := ⟨0x40400004 + 65536 * i, 3, 3, 0x7, 0x7⟩
def MAC_MODE_AN_EN (i : Nat) : Fld := ⟨0x40400004 + 65536 * i, 2, 2, 0x7, 0x7⟩
def MAC_MODE_MODE (i : Nat) : Fld := ⟨0x40400004 + 65536 * i, 1, 0, 0x7, 0x7⟩
def MAC_MODE_w (i : Nat) : Fld := ⟨0x40400004 + 65536 * i, 31, 0, 0x7, 0x7⟩
def MAC_STATUS_SPEED (i : Nat) : Fld := ⟨0x40400008 + 65536 * i, 5, 4, 0x0, 0x0⟩
def MAC_STATUS_HI_BER (i : Nat) : Fld := ⟨0x40400008 + 65536 * i, 3, 3, 0x0, 0x0⟩
def MAC_STATUS_LINK_CHG (i : Nat) : Fld := ⟨0x40400008 + 65536 * i, 2, 2, 0x0, 0x0⟩
def MAC_STATUS_AN_DONE (i : Nat) : Fld := ⟨0x40400008 + 65536 * i, 1, 1, 0x0, 0x0⟩
def MAC_STATUS_LINK (i : Nat) : Fld := ⟨0x40400008 + 65536 * i, 0, 0, 0x0, 0x0⟩
def MAC_STATUS_w (i : Nat) : Fld := ⟨0x40400008 + 65536 * i, 31, 0, 0x0, 0x0⟩
def MAC_ADDR_LO_ADDR (i : Nat) : Fld := ⟨0x4040000C + 65536 * i, 31, 0, 0x0, 0x0⟩
def MAC_ADDR_HI_ADDR (i : Nat) : Fld := ⟨0x40400010 + 65536 * i, 15, 0, 0x0, 0x0⟩
def MAC_ADDR_HI_w (i : Nat) : Fld := ⟨0x40400010 + 65536 * i, 31, 0, 0x0, 0x0⟩
def MAC_MAXLEN_MAXLEN (i : Nat) : Fld := ⟨0x40400014 + 65536 * i, 13, 0, 0x5F2, 0x5F2⟩
def MAC_MAXLEN_w (i : Nat) : Fld := ⟨0x40400014 + 65536 * i, 31, 0, 0x5F2, 0x5F2⟩
def MAC_RX_DEFAULT_DROP (i : Nat) : Fld := ⟨0x40400018 + 65536 * i, 4, 4, 0x10, 0x10⟩
def MAC_RX_DEFAULT_RING (i : Nat) : Fld := ⟨0x40400018 + 65536 * i, 3, 0, 0x10, 0x10⟩
def MAC_RX_DEFAULT_w (i : Nat) : Fld := ⟨0x40400018 + 65536 * i, 31, 0, 0x10, 0x10⟩
def MAC_MDIO_BUSY (i : Nat) : Fld := ⟨0x4040001C + 65536 * i, 31, 31, 0x0, 0x0⟩
def MAC_MDIO_C45 (i : Nat) : Fld := ⟨0x4040001C + 65536 * i, 30, 30, 0x0, 0x0⟩
def MAC_MDIO_OP (i : Nat) : Fld := ⟨0x4040001C + 65536 * i, 29, 28, 0x0, 0x0⟩
def MAC_MDIO_PHYAD (i : Nat) : Fld := ⟨0x4040001C + 65536 * i, 27, 23, 0x0, 0x0⟩
def MAC_MDIO_REG (i : Nat) : Fld := ⟨0x4040001C + 65536 * i, 22, 18, 0x0, 0x0⟩
def MAC_MDIO_DATA (i : Nat) : Fld := ⟨0x4040001C + 65536 * i, 15, 0, 0x0, 0x0⟩
def MAC_MDIO_w (i : Nat) : Fld := ⟨0x4040001C + 65536 * i, 31, 0, 0x0, 0x0⟩
def MAC_MC_W0_ADDR_LO (i j : Nat) : Fld := ⟨0x40400400 + 65536 * i + 8 * j, 31, 0, 0x0, 0x0⟩
def MAC_MC_W1_EN (i j : Nat) : Fld := ⟨0x40400404 + 65536 * i + 8 * j, 31, 31, 0x0, 0x0⟩
def MAC_MC_W1_ADDR_HI (i j : Nat) : Fld := ⟨0x40400404 + 65536 * i + 8 * j, 15, 0, 0x0, 0x0⟩
def MAC_MC_W1_w (i j : Nat) : Fld := ⟨0x40400404 + 65536 * i + 8 * j, 31, 0, 0x0, 0x0⟩
def MAC_FLT_W0_EN (i j : Nat) : Fld := ⟨0x40400800 + 65536 * i + 16 * j, 31, 31, 0x0, 0x0⟩
def MAC_FLT_W0_DROP (i j : Nat) : Fld := ⟨0x40400800 + 65536 * i + 16 * j, 30, 30, 0x0, 0x0⟩
def MAC_FLT_W0_TAG (i j : Nat) : Fld := ⟨0x40400800 + 65536 * i + 16 * j, 29, 28, 0x0, 0x0⟩
def MAC_FLT_W0_VID (i j : Nat) : Fld := ⟨0x40400800 + 65536 * i + 16 * j, 27, 16, 0x0, 0x0⟩
def MAC_FLT_W0_ETYPE (i j : Nat) : Fld := ⟨0x40400800 + 65536 * i + 16 * j, 15, 0, 0x0, 0x0⟩
def MAC_FLT_W0_w (i j : Nat) : Fld := ⟨0x40400800 + 65536 * i + 16 * j, 31, 0, 0x0, 0x0⟩
def MAC_FLT_W1_ETYPE_EN (i j : Nat) : Fld := ⟨0x40400804 + 65536 * i + 16 * j, 31, 31, 0x0, 0x0⟩
def MAC_FLT_W1_UDP_EN (i j : Nat) : Fld := ⟨0x40400804 + 65536 * i + 16 * j, 30, 30, 0x0, 0x0⟩
def MAC_FLT_W1_DPORT (i j : Nat) : Fld := ⟨0x40400804 + 65536 * i + 16 * j, 15, 0, 0x0, 0x0⟩
def MAC_FLT_W1_w (i j : Nat) : Fld := ⟨0x40400804 + 65536 * i + 16 * j, 31, 0, 0x0, 0x0⟩
def MAC_FLT_W2_RING (i j : Nat) : Fld := ⟨0x40400808 + 65536 * i + 16 * j, 3, 0, 0x0, 0x0⟩
def MAC_FLT_W2_w (i j : Nat) : Fld := ⟨0x40400808 + 65536 * i + 16 * j, 31, 0, 0x0, 0x0⟩
def MAC_RING_W0_BASE (i j : Nat) : Fld := ⟨0x40401000 + 65536 * i + 32 * j, 31, 0, 0x0, 0x0⟩
def MAC_RING_W1_EN (i j : Nat) : Fld := ⟨0x40401004 + 65536 * i + 32 * j, 31, 31, 0x0, 0x0⟩
def MAC_RING_W1_STRIP_VLAN (i j : Nat) : Fld := ⟨0x40401004 + 65536 * i + 32 * j, 30, 30, 0x0, 0x0⟩
def MAC_RING_W1_ERR_DELIVER (i j : Nat) : Fld := ⟨0x40401004 + 65536 * i + 32 * j, 29, 29, 0x0, 0x0⟩
def MAC_RING_W1_OWNER (i j : Nat) : Fld := ⟨0x40401004 + 65536 * i + 32 * j, 28, 28, 0x0, 0x0⟩
def MAC_RING_W1_SIZE (i j : Nat) : Fld := ⟨0x40401004 + 65536 * i + 32 * j, 12, 0, 0x0, 0x0⟩
def MAC_RING_W1_w (i j : Nat) : Fld := ⟨0x40401004 + 65536 * i + 32 * j, 31, 0, 0x0, 0x0⟩
def MAC_RING_W2_BUF_SIZE (i j : Nat) : Fld := ⟨0x40401008 + 65536 * i + 32 * j, 7, 0, 0x20, 0x20⟩
def MAC_RING_W2_w (i j : Nat) : Fld := ⟨0x40401008 + 65536 * i + 32 * j, 31, 0, 0x20, 0x20⟩
def MAC_RING_W3_HEAD (i j : Nat) : Fld := ⟨0x4040100C + 65536 * i + 32 * j, 11, 0, 0x0, 0x0⟩
def MAC_RING_W3_w (i j : Nat) : Fld := ⟨0x4040100C + 65536 * i + 32 * j, 31, 0, 0x0, 0x0⟩
def MAC_RING_W4_FRAMES (i j : Nat) : Fld := ⟨0x40401010 + 65536 * i + 32 * j, 31, 0, 0x0, 0x0⟩
def MAC_RING_W5_NOBUF (i j : Nat) : Fld := ⟨0x40401014 + 65536 * i + 32 * j, 31, 0, 0x0, 0x0⟩
def MAC_TXQ_W0_BASE (i j : Nat) : Fld := ⟨0x40401400 + 65536 * i + 32 * j, 31, 0, 0x0, 0x0⟩
def MAC_TXQ_W1_EN (i j : Nat) : Fld := ⟨0x40401404 + 65536 * i + 32 * j, 31, 31, 0x0, 0x0⟩
def MAC_TXQ_W1_FLUSH_DOWN (i j : Nat) : Fld := ⟨0x40401404 + 65536 * i + 32 * j, 30, 30, 0x0, 0x0⟩
def MAC_TXQ_W1_OWNER (i j : Nat) : Fld := ⟨0x40401404 + 65536 * i + 32 * j, 29, 29, 0x0, 0x0⟩
def MAC_TXQ_W1_SIZE (i j : Nat) : Fld := ⟨0x40401404 + 65536 * i + 32 * j, 12, 0, 0x0, 0x0⟩
def MAC_TXQ_W1_w (i j : Nat) : Fld := ⟨0x40401404 + 65536 * i + 32 * j, 31, 0, 0x0, 0x0⟩
def MAC_TXQ_W2_TAIL (i j : Nat) : Fld := ⟨0x40401408 + 65536 * i + 32 * j, 11, 0, 0x0, 0x0⟩
def MAC_TXQ_W2_w (i j : Nat) : Fld := ⟨0x40401408 + 65536 * i + 32 * j, 31, 0, 0x0, 0x0⟩
def MAC_TXQ_W3_HEAD (i j : Nat) : Fld := ⟨0x4040140C + 65536 * i + 32 * j, 11, 0, 0x0, 0x0⟩
def MAC_TXQ_W3_w (i j : Nat) : Fld := ⟨0x4040140C + 65536 * i + 32 * j, 31, 0, 0x0, 0x0⟩
def MAC_CNT_RX_ALL_VALUE (i : Nat) : Fld := ⟨0x40400200 + 65536 * i, 31, 0, 0x0, 0x0⟩
def MAC_CNT_RX_OK_VALUE (i : Nat) : Fld := ⟨0x40400204 + 65536 * i, 31, 0, 0x0, 0x0⟩
def MAC_CNT_RX_OCT_LO_VALUE (i : Nat) : Fld := ⟨0x40400208 + 65536 * i, 31, 0, 0x0, 0x0⟩
def MAC_CNT_RX_OCT_HI_VALUE (i : Nat) : Fld := ⟨0x4040020C + 65536 * i, 31, 0, 0x0, 0x0⟩
def MAC_CNT_RX_ERR_DELIVERED_VALUE (i : Nat) : Fld := ⟨0x40400210 + 65536 * i, 31, 0, 0x0, 0x0⟩
def MAC_CNT_RX_ERR_DROP_VALUE (i : Nat) : Fld := ⟨0x40400214 + 65536 * i, 31, 0, 0x0, 0x0⟩
def MAC_CNT_RX_ADDR_DROP_VALUE (i : Nat) : Fld := ⟨0x40400218 + 65536 * i, 31, 0, 0x0, 0x0⟩
def MAC_CNT_RX_FILT_DROP_VALUE (i : Nat) : Fld := ⟨0x4040021C + 65536 * i, 31, 0, 0x0, 0x0⟩
def MAC_CNT_RX_NOBUF_VALUE (i : Nat) : Fld := ⟨0x40400220 + 65536 * i, 31, 0, 0x0, 0x0⟩
def MAC_CNT_RX_DISCARD_DESC_VALUE (i : Nat) : Fld := ⟨0x40400224 + 65536 * i, 31, 0, 0x0, 0x0⟩
def MAC_CNT_RX_PAUSE_VALUE (i : Nat) : Fld := ⟨0x40400228 + 65536 * i, 31, 0, 0x0, 0x0⟩
def MAC_CNT_RX_MCAST_VALUE (i : Nat) : Fld := ⟨0x4040022C + 65536 * i, 31, 0, 0x0, 0x0⟩
def MAC_CNT_RX_FCS_VALUE (i : Nat) : Fld := ⟨0x40400230 + 65536 * i, 31, 0, 0x0, 0x0⟩
def MAC_CNT_RX_RUNT_VALUE (i : Nat) : Fld := ⟨0x40400234 + 65536 * i, 31, 0, 0x0, 0x0⟩
def MAC_CNT_RX_ALIGN_VALUE (i : Nat) : Fld := ⟨0x40400238 + 65536 * i, 31, 0, 0x0, 0x0⟩
def MAC_CNT_RX_PHYERR_VALUE (i : Nat) : Fld := ⟨0x4040023C + 65536 * i, 31, 0, 0x0, 0x0⟩
def MAC_CNT_RX_OVERSIZE_VALUE (i : Nat) : Fld := ⟨0x40400240 + 65536 * i, 31, 0, 0x0, 0x0⟩
def MAC_CNT_RX_TRUNC_VALUE (i : Nat) : Fld := ⟨0x40400244 + 65536 * i, 31, 0, 0x0, 0x0⟩
def MAC_CNT_TX_OK_VALUE (i : Nat) : Fld := ⟨0x40400260 + 65536 * i, 31, 0, 0x0, 0x0⟩
def MAC_CNT_TX_OCT_LO_VALUE (i : Nat) : Fld := ⟨0x40400264 + 65536 * i, 31, 0, 0x0, 0x0⟩
def MAC_CNT_TX_OCT_HI_VALUE (i : Nat) : Fld := ⟨0x40400268 + 65536 * i, 31, 0, 0x0, 0x0⟩
def MAC_CNT_TX_UNDERRUN_VALUE (i : Nat) : Fld := ⟨0x4040026C + 65536 * i, 31, 0, 0x0, 0x0⟩
def MAC_CNT_TX_BADDESC_VALUE (i : Nat) : Fld := ⟨0x40400270 + 65536 * i, 31, 0, 0x0, 0x0⟩
def MAC_CNT_TX_DOWN_DROP_VALUE (i : Nat) : Fld := ⟨0x40400274 + 65536 * i, 31, 0, 0x0, 0x0⟩
def MAC_CNT_TX_PAUSED_VALUE (i : Nat) : Fld := ⟨0x40400278 + 65536 * i, 31, 0, 0x0, 0x0⟩
def MAC_CNT_LINK_DOWN_VALUE (i : Nat) : Fld := ⟨0x40400280 + 65536 * i, 31, 0, 0x0, 0x0⟩
def MAC_CNT_BLOCK_LOCK_VALUE (i : Nat) : Fld := ⟨0x40400284 + 65536 * i, 31, 0, 0x0, 0x0⟩
def MAC_CNT_HI_BER_VALUE (i : Nat) : Fld := ⟨0x40400288 + 65536 * i, 31, 0, 0x0, 0x0⟩

/-! ### TSU: 13_time_and_streams.md R269 -/

def TSU_CTRL_QUAL_ONE : Fld := ⟨0x40300000, 4, 4, 0x0, 0x0⟩
def TSU_CTRL_LOCK : Fld := ⟨0x40300000, 3, 3, 0x0, 0x0⟩
def TSU_CTRL_PPS_OUT_EN : Fld := ⟨0x40300000, 2, 2, 0x0, 0x0⟩
def TSU_CTRL_BLOCK_EN : Fld := ⟨0x40300000, 1, 1, 0x0, 0x0⟩
def TSU_CTRL_ENABLE : Fld := ⟨0x40300000, 0, 0, 0x0, 0x0⟩
def TSU_CTRL_w : Fld := ⟨0x40300000, 31, 0, 0x0, 0x0⟩
def TSU_STATUS_TXQ_OVF : Fld := ⟨0x40300004, 5, 5, 0x0, 0x0⟩
def TSU_STATUS_TIMELINE : Fld := ⟨0x40300004, 4, 4, 0x0, 0x0⟩
def TSU_STATUS_STEPPED : Fld := ⟨0x40300004, 3, 3, 0x0, 0x0⟩
def TSU_STATUS_HOLDOVER : Fld := ⟨0x40300004, 2, 2, 0x0, 0x0⟩
def TSU_STATUS_LOCKED : Fld := ⟨0x40300004, 1, 1, 0x0, 0x0⟩
def TSU_STATUS_FIRST : Fld := ⟨0x40300004, 0, 0, 0x0, 0x0⟩
def TSU_STATUS_w : Fld := ⟨0x40300004, 31, 0, 0x0, 0x0⟩

/-! ### STR: 13_time_and_streams.md R270 -/

def STR_CTRL_ENABLE : Fld := ⟨0x40480000, 0, 0, 0x0, 0x0⟩
def STR_CTRL_w : Fld := ⟨0x40480000, 31, 0, 0x0, 0x0⟩

/-! ### TSU: 13_time_and_streams.md R269 -/

def TSU_RAW_LO_VALUE : Fld := ⟨0x40300010, 31, 0, 0x0, 0x0⟩
def TSU_RAW_HI_VALUE : Fld := ⟨0x40300014, 31, 0, 0x0, 0x0⟩
def TSU_NOW_LO_VALUE : Fld := ⟨0x40300018, 31, 0, 0x0, 0x0⟩
def TSU_NOW_HI_VALUE : Fld := ⟨0x4030001C, 31, 0, 0x0, 0x0⟩
def TSU_CONV_IN_LO_VALUE : Fld := ⟨0x40300020, 31, 0, 0x0, 0x0⟩
def TSU_CONV_IN_HI_VALUE : Fld := ⟨0x40300024, 31, 0, 0x0, 0x0⟩
def TSU_CONV_OUT_LO_VALUE : Fld := ⟨0x40300028, 31, 0, 0x0, 0x0⟩
def TSU_CONV_OUT_HI_VALUE : Fld := ⟨0x4030002C, 31, 0, 0x0, 0x0⟩
def TSU_OFS_LO_VALUE : Fld := ⟨0x40300030, 31, 0, 0x0, 0x0⟩
def TSU_OFS_HI_VALUE : Fld := ⟨0x40300034, 31, 0, 0x0, 0x0⟩
def TSU_ANC_LO_VALUE : Fld := ⟨0x40300038, 31, 0, 0x0, 0x0⟩
def TSU_ANC_HI_VALUE : Fld := ⟨0x4030003C, 31, 0, 0x0, 0x0⟩
def TSU_RATE_VALUE : Fld := ⟨0x40300040, 31, 0, 0x0, 0x0⟩
def TSU_SERVO_I_VALUE : Fld := ⟨0x40300044, 31, 0, 0x0, 0x0⟩
def TSU_SERVO_IN_VALUE : Fld := ⟨0x40300050, 31, 0, 0x0, 0x0⟩
def TSU_SERVO_KP_VALUE : Fld := ⟨0x40300054, 31, 0, 0x112E0000, 0x112E0000⟩
def TSU_SERVO_KI_VALUE : Fld := ⟨0x40300058, 31, 0, 0x2260000, 0x2260000⟩
def TSU_SERVO_THR_VALUE : Fld := ⟨0x40300060, 31, 0, 0x3E8, 0x3E8⟩
def TSU_STEP_THR_VALUE : Fld := ⟨0x40300064, 31, 0, 0x186A0, 0x186A0⟩
def TSU_LINK_OFS_VALUE : Fld := ⟨0x40300070, 31, 0, 0x7A120, 0x7A120⟩
def TSU_PPS_CAP_LO_VALUE : Fld := ⟨0x40300180, 31, 0, 0x0, 0x0⟩
def TSU_PPS_CAP_HI_VALUE : Fld := ⟨0x40300184, 31, 0, 0x0, 0x0⟩
def TSU_AREF_IN_VALUE : Fld := ⟨0x40300188, 31, 0, 0x0, 0x0⟩
def TSU_SERVO_LIM_RATE_MAX : Fld := ⟨0x4030005C, 25, 16, 0xC80BB8, 0xC80BB8⟩
def TSU_SERVO_LIM_HOLD_TO : Fld := ⟨0x4030005C, 15, 0, 0xC80BB8, 0xC80BB8⟩
def TSU_SERVO_LIM_w : Fld := ⟨0x4030005C, 31, 0, 0xC80BB8, 0xC80BB8⟩
def TSU_LAT_TX_L_TX (i : Nat) : Fld := ⟨0x40300080 + 8 * i, 15, 0, 0x0, 0x0⟩
def TSU_LAT_TX_w (i : Nat) : Fld := ⟨0x40300080 + 8 * i, 31, 0, 0x0, 0x0⟩
def TSU_LAT_RX_L_RX (i : Nat) : Fld := ⟨0x40300084 + 8 * i, 15, 0, 0x0, 0x0⟩
def TSU_LAT_RX_w (i : Nat) : Fld := ⟨0x40300084 + 8 * i, 31, 0, 0x0, 0x0⟩
def TSU_TXQ_TS_LO_TS (i : Nat) : Fld := ⟨0x40300100 + 32 * i, 31, 0, 0x0, 0x0⟩
def TSU_TXQ_TS_HI_TS (i : Nat) : Fld := ⟨0x40300104 + 32 * i, 31, 0, 0x0, 0x0⟩
def TSU_TXQ_INFO_VALID (i : Nat) : Fld := ⟨0x40300108 + 32 * i, 31, 31, 0x0, 0x0⟩
def TSU_TXQ_INFO_QUEUE (i : Nat) : Fld := ⟨0x40300108 + 32 * i, 26, 24, 0x0, 0x0⟩
def TSU_TXQ_INFO_TS_TAG (i : Nat) : Fld := ⟨0x40300108 + 32 * i, 23, 16, 0x0, 0x0⟩
def TSU_TXQ_INFO_LEVEL (i : Nat) : Fld := ⟨0x40300108 + 32 * i, 6, 0, 0x0, 0x0⟩
def TSU_TXQ_INFO_w (i : Nat) : Fld := ⟨0x40300108 + 32 * i, 31, 0, 0x0, 0x0⟩
def TSU_TXQ_LOST_COUNT (i : Nat) : Fld := ⟨0x403000C0 + 4 * i, 31, 0, 0x0, 0x0⟩
def TSU_CNT_STEP_COUNT : Fld := ⟨0x403000D0, 31, 0, 0x0, 0x0⟩
def TSU_CNT_UNLOCK_COUNT : Fld := ⟨0x403000D4, 31, 0, 0x0, 0x0⟩
def TSU_CNT_1STEP_BAD_COUNT : Fld := ⟨0x403000D8, 31, 0, 0x0, 0x0⟩

/-! ### STR: 13_time_and_streams.md R270 -/

def STR_RX_W0_EN (i : Nat) : Fld := ⟨0x40481000 + 128 * i, 31, 31, 0x0, 0x0⟩
def STR_RX_W0_MAC (i : Nat) : Fld := ⟨0x40481000 + 128 * i, 30, 30, 0x0, 0x0⟩
def STR_RX_W0_PAIR_EN (i : Nat) : Fld := ⟨0x40481000 + 128 * i, 29, 29, 0x0, 0x0⟩
def STR_RX_W0_SRC_EN (i : Nat) : Fld := ⟨0x40481000 + 128 * i, 28, 28, 0x0, 0x0⟩
def STR_RX_W0_SSRC_EN (i : Nat) : Fld := ⟨0x40481000 + 128 * i, 27, 27, 0x0, 0x0⟩
def STR_RX_W0_FMT (i : Nat) : Fld := ⟨0x40481000 + 128 * i, 26, 26, 0x0, 0x0⟩
def STR_RX_W0_PTIME (i : Nat) : Fld := ⟨0x40481000 + 128 * i, 25, 25, 0x0, 0x0⟩
def STR_RX_W0_PAIR (i : Nat) : Fld := ⟨0x40481000 + 128 * i, 20, 14, 0x0, 0x0⟩
def STR_RX_W0_CH_M1 (i : Nat) : Fld := ⟨0x40481000 + 128 * i, 13, 8, 0x0, 0x0⟩
def STR_RX_W0_PT (i : Nat) : Fld := ⟨0x40481000 + 128 * i, 6, 0, 0x0, 0x0⟩
def STR_RX_W0_w (i : Nat) : Fld := ⟨0x40481000 + 128 * i, 31, 0, 0x0, 0x0⟩
def STR_RX_W1_DST (i : Nat) : Fld := ⟨0x40481004 + 128 * i, 31, 0, 0x0, 0x0⟩
def STR_RX_W2_SRC (i : Nat) : Fld := ⟨0x40481008 + 128 * i, 31, 0, 0x0, 0x0⟩
def STR_RX_W3_DPORT (i : Nat) : Fld := ⟨0x4048100C + 128 * i, 15, 0, 0x0, 0x0⟩
def STR_RX_W3_w (i : Nat) : Fld := ⟨0x4048100C + 128 * i, 31, 0, 0x0, 0x0⟩
def STR_RX_W4_SSRC (i : Nat) : Fld := ⟨0x40481010 + 128 * i, 31, 0, 0x0, 0x0⟩
def STR_RX_W5_TS_OFS (i : Nat) : Fld := ⟨0x40481014 + 128 * i, 31, 0, 0x0, 0x0⟩
def STR_RX_STATUS_LEG_DOWN (i : Nat) : Fld := ⟨0x40481020 + 128 * i, 2, 2, 0x0, 0x0⟩
def STR_RX_STATUS_RECV (i : Nat) : Fld := ⟨0x40481020 + 128 * i, 1, 1, 0x0, 0x0⟩
def STR_RX_STATUS_ERR (i : Nat) : Fld := ⟨0x40481020 + 128 * i, 0, 0, 0x0, 0x0⟩
def STR_RX_STATUS_w (i : Nat) : Fld := ⟨0x40481020 + 128 * i, 31, 0, 0x0, 0x0⟩
def STR_RX_CNT_COUNT (i j : Nat) : Fld := ⟨0x40481040 + 128 * i + 4 * j, 31, 0, 0x0, 0x0⟩
def STR_TX_W0_EN (i : Nat) : Fld := ⟨0x40485000 + 128 * i, 31, 31, 0x0, 0x0⟩
def STR_TX_W0_PORTS (i : Nat) : Fld := ⟨0x40485000 + 128 * i, 30, 29, 0x0, 0x0⟩
def STR_TX_W0_CSUM (i : Nat) : Fld := ⟨0x40485000 + 128 * i, 28, 28, 0x0, 0x0⟩
def STR_TX_W0_INS_TAG (i : Nat) : Fld := ⟨0x40485000 + 128 * i, 27, 27, 0x0, 0x0⟩
def STR_TX_W0_FMT (i : Nat) : Fld := ⟨0x40485000 + 128 * i, 26, 26, 0x0, 0x0⟩
def STR_TX_W0_PTIME (i : Nat) : Fld := ⟨0x40485000 + 128 * i, 25, 25, 0x0, 0x0⟩
def STR_TX_W0_ALARM (i : Nat) : Fld := ⟨0x40485000 + 128 * i, 24, 24, 0x0, 0x0⟩
def STR_TX_W0_CH_M1 (i : Nat) : Fld := ⟨0x40485000 + 128 * i, 13, 8, 0x0, 0x0⟩
def STR_TX_W0_PT (i : Nat) : Fld := ⟨0x40485000 + 128 * i, 6, 0, 0x0, 0x0⟩
def STR_TX_W0_w (i : Nat) : Fld := ⟨0x40485000 + 128 * i, 31, 0, 0x0, 0x0⟩
def STR_TX_W1_DST (i : Nat) : Fld := ⟨0x40485004 + 128 * i, 31, 0, 0x0, 0x0⟩
def STR_TX_W2_PORTS_UDP (i : Nat) : Fld := ⟨0x40485008 + 128 * i, 31, 0, 0x0, 0x0⟩
def STR_TX_W3_SSRC (i : Nat) : Fld := ⟨0x4048500C + 128 * i, 31, 0, 0x0, 0x0⟩
def STR_TX_W4_TS_OFS (i : Nat) : Fld := ⟨0x40485010 + 128 * i, 31, 0, 0x0, 0x0⟩
def STR_TX_W5_TCI (i : Nat) : Fld := ⟨0x40485014 + 128 * i, 31, 16, 0x4088, 0x4088⟩
def STR_TX_W5_TTL (i : Nat) : Fld := ⟨0x40485014 + 128 * i, 15, 8, 0x4088, 0x4088⟩
def STR_TX_W5_DSCP (i : Nat) : Fld := ⟨0x40485014 + 128 * i, 7, 2, 0x4088, 0x4088⟩
def STR_TX_W5_w (i : Nat) : Fld := ⟨0x40485014 + 128 * i, 31, 0, 0x4088, 0x4088⟩
def STR_TX_W6_DMAC (i : Nat) : Fld := ⟨0x40485018 + 128 * i, 31, 0, 0x0, 0x0⟩
def STR_TX_W7_DMAC (i : Nat) : Fld := ⟨0x4048501C + 128 * i, 15, 0, 0x0, 0x0⟩
def STR_TX_W7_w (i : Nat) : Fld := ⟨0x4048501C + 128 * i, 31, 0, 0x0, 0x0⟩
def STR_TX_STATUS_NEXT_SEQ (i : Nat) : Fld := ⟨0x40485020 + 128 * i, 15, 0, 0x0, 0x0⟩
def STR_TX_STATUS_w (i : Nat) : Fld := ⟨0x40485020 + 128 * i, 31, 0, 0x0, 0x0⟩
def STR_TX_SENT_COUNT (i j : Nat) : Fld := ⟨0x40485040 + 128 * i + 4 * j, 31, 0, 0x0, 0x0⟩
def STR_TXMAP_EN (i j : Nat) : Fld := ⟨0x40488000 + 256 * i + 4 * j, 31, 31, 0x0, 0x0⟩
def STR_TXMAP_OUTPUT (i j : Nat) : Fld := ⟨0x40488000 + 256 * i + 4 * j, 9, 0, 0x0, 0x0⟩
def STR_TXMAP_w (i j : Nat) : Fld := ⟨0x40488000 + 256 * i + 4 * j, 31, 0, 0x0, 0x0⟩
def STR_CNT_NOCTX_COUNT : Fld := ⟨0x40480040, 31, 0, 0x0, 0x0⟩
def STR_CNT_SAT_COUNT : Fld := ⟨0x40480044, 31, 0, 0x0, 0x0⟩

/-! ### HIF: 14_verica_protocol.md R295 -/

def HIF_CTRL_ENABLE : Fld := ⟨0x500A0000, 0, 0, 0x0, 0x0⟩
def HIF_CTRL_w : Fld := ⟨0x500A0000, 31, 0, 0x0, 0x0⟩
def HIF_STATUS_OPEN : Fld := ⟨0x500A0004, 23, 16, 0x0, 0x0⟩
def HIF_STATUS_PLAIN_STRAP : Fld := ⟨0x500A0004, 9, 9, 0x0, 0x0⟩
def HIF_STATUS_DEV_BUSY : Fld := ⟨0x500A0004, 8, 8, 0x0, 0x0⟩
def HIF_STATUS_PORT_BUSY : Fld := ⟨0x500A0004, 5, 0, 0x0, 0x0⟩
def HIF_STATUS_w : Fld := ⟨0x500A0004, 31, 0, 0x0, 0x0⟩
def HIF_NET_W0_EN (i : Nat) : Fld := ⟨0x500A0010 + 8 * i, 31, 31, 0x0, 0x0⟩
def HIF_NET_W0_MAC (i : Nat) : Fld := ⟨0x500A0010 + 8 * i, 30, 29, 0x0, 0x0⟩
def HIF_NET_W0_TAGGED (i : Nat) : Fld := ⟨0x500A0010 + 8 * i, 28, 28, 0x0, 0x0⟩
def HIF_NET_W0_VID (i : Nat) : Fld := ⟨0x500A0010 + 8 * i, 11, 0, 0x0, 0x0⟩
def HIF_NET_W0_w (i : Nat) : Fld := ⟨0x500A0010 + 8 * i, 31, 0, 0x0, 0x0⟩
def HIF_NET_W1_IPV4 (i : Nat) : Fld := ⟨0x500A0014 + 8 * i, 31, 0, 0x0, 0x0⟩
def HIF_CNT_RX_VALUE (i : Nat) : Fld := ⟨0x500A0100 + 64 * i, 31, 0, 0x0, 0x0⟩
def HIF_CNT_FRAME_VALUE (i : Nat) : Fld := ⟨0x500A0104 + 64 * i, 31, 0, 0x0, 0x0⟩
def HIF_CNT_CRC_VALUE (i : Nat) : Fld := ⟨0x500A0108 + 64 * i, 31, 0, 0x0, 0x0⟩
def HIF_CNT_NOSESS_VALUE (i : Nat) : Fld := ⟨0x500A010C + 64 * i, 31, 0, 0x0, 0x0⟩
def HIF_CNT_AUTH_VALUE (i : Nat) : Fld := ⟨0x500A0110 + 64 * i, 31, 0, 0x0, 0x0⟩
def HIF_CNT_BUSY_VALUE (i : Nat) : Fld := ⟨0x500A0114 + 64 * i, 31, 0, 0x0, 0x0⟩
def HIF_CNT_STALE_VALUE (i : Nat) : Fld := ⟨0x500A0118 + 64 * i, 31, 0, 0x0, 0x0⟩
def HIF_CNT_OVF_VALUE (i : Nat) : Fld := ⟨0x500A011C + 64 * i, 31, 0, 0x0, 0x0⟩
def HIF_CNT_EVT_LOST_VALUE (i : Nat) : Fld := ⟨0x500A0120 + 64 * i, 31, 0, 0x0, 0x0⟩

/-! ### BWT: 16_supervisor_and_mirror.md R327 -/

def BWT_CTRL_INJ_EN : Fld := ⟨0x40700800, 2, 2, 0x0, 0x0⟩
def BWT_CTRL_INJ : Fld := ⟨0x40700800, 1, 0, 0x0, 0x0⟩
def BWT_CTRL_w : Fld := ⟨0x40700800, 31, 0, 0x0, 0x0⟩
def BWT_STATUS_RESYNC_PEND : Fld := ⟨0x40700804, 7, 7, 0x78, 0x78⟩
def BWT_STATUS_LAST : Fld := ⟨0x40700804, 6, 5, 0x78, 0x78⟩
def BWT_STATUS_REMOVED : Fld := ⟨0x40700804, 4, 3, 0x78, 0x78⟩
def BWT_STATUS_MODE : Fld := ⟨0x40700804, 1, 0, 0x78, 0x78⟩
def BWT_STATUS_w : Fld := ⟨0x40700804, 31, 0, 0x78, 0x78⟩

/-! ### FLD: 16_supervisor_and_mirror.md R327 -/

def FLD_CTRL_STRAP : Fld := ⟨0x40600000, 2, 2, 0x0, 0x0⟩
def FLD_CTRL_PREFER_ACTIVE : Fld := ⟨0x40600000, 1, 1, 0x0, 0x0⟩
def FLD_CTRL_EN : Fld := ⟨0x40600000, 0, 0, 0x0, 0x0⟩
def FLD_CTRL_w : Fld := ⟨0x40600000, 31, 0, 0x0, 0x0⟩
def FLD_STATUS_PATH_CHG : Fld := ⟨0x40600004, 12, 12, 0x0, 0x0⟩
def FLD_STATUS_PARTNER_DEG : Fld := ⟨0x40600004, 11, 11, 0x0, 0x0⟩
def FLD_STATUS_PARTNER_STOP : Fld := ⟨0x40600004, 10, 10, 0x0, 0x0⟩
def FLD_STATUS_VER_ERR : Fld := ⟨0x40600004, 9, 9, 0x0, 0x0⟩
def FLD_STATUS_ACTI : Fld := ⟨0x40600004, 8, 8, 0x0, 0x0⟩
def FLD_STATUS_ACTO : Fld := ⟨0x40600004, 7, 7, 0x0, 0x0⟩
def FLD_STATUS_HB_UP : Fld := ⟨0x40600004, 6, 6, 0x0, 0x0⟩
def FLD_STATUS_FOLD_UP : Fld := ⟨0x40600004, 5, 5, 0x0, 0x0⟩
def FLD_STATUS_PARTNER : Fld := ⟨0x40600004, 4, 3, 0x0, 0x0⟩
def FLD_STATUS_ROLE : Fld := ⟨0x40600004, 2, 0, 0x0, 0x0⟩
def FLD_STATUS_w : Fld := ⟨0x40600004, 31, 0, 0x0, 0x0⟩

/-! ### BWT: 16_supervisor_and_mirror.md R327 -/

def BWT_LOG_VALID : Fld := ⟨0x40700808, 31, 31, 0x0, 0x0⟩
def BWT_LOG_CORE : Fld := ⟨0x40700808, 30, 29, 0x0, 0x0⟩
def BWT_LOG_KIND : Fld := ⟨0x40700808, 28, 27, 0x0, 0x0⟩
def BWT_LOG_ADDR : Fld := ⟨0x40700808, 26, 0, 0x0, 0x0⟩
def BWT_LOG_w : Fld := ⟨0x40700808, 31, 0, 0x0, 0x0⟩
def BWT_LOG_BLK_BLOCK : Fld := ⟨0x4070080C, 31, 0, 0x0, 0x0⟩
def BWT_CNT_DIS_COUNT (i : Nat) : Fld := ⟨0x40700820 + 4 * i, 31, 0, 0x0, 0x0⟩
def BWT_CNT_RESYNC_COUNT : Fld := ⟨0x4070082C, 31, 0, 0x0, 0x0⟩

/-! ### FLD: 16_supervisor_and_mirror.md R327 -/

def FLD_PARTNER_MAJOR : Fld := ⟨0x40600008, 31, 24, 0x0, 0x0⟩
def FLD_PARTNER_MINOR : Fld := ⟨0x40600008, 23, 16, 0x0, 0x0⟩
def FLD_PARTNER_FLAGS : Fld := ⟨0x40600008, 7, 0, 0x0, 0x0⟩
def FLD_PARTNER_w : Fld := ⟨0x40600008, 31, 0, 0x0, 0x0⟩
def FLD_TAKEOVER_LO_BLOCK : Fld := ⟨0x40600010, 31, 0, 0x0, 0x0⟩
def FLD_TAKEOVER_HI_BLOCK : Fld := ⟨0x40600014, 31, 0, 0x0, 0x0⟩
def FLD_CNT_COPY_FAIL_COUNT : Fld := ⟨0x40600040, 31, 0, 0x0, 0x0⟩
def FLD_CNT_COPY_GAP_COUNT : Fld := ⟨0x40600044, 31, 0, 0x0, 0x0⟩
def FLD_CNT_MISS_FOLD_COUNT : Fld := ⟨0x40600048, 31, 0, 0x0, 0x0⟩
def FLD_CNT_MISS_HB_COUNT : Fld := ⟨0x4060004C, 31, 0, 0x0, 0x0⟩
def FLD_CNT_TAKEOVER_COUNT : Fld := ⟨0x40600050, 31, 0, 0x0, 0x0⟩
def FLD_CNT_LINK_DOWN_COUNT : Fld := ⟨0x40600054, 31, 0, 0x0, 0x0⟩

/-! ### SYS: 17_memory_system.md R347 -/

def SYS_REMAP_LOCK : Fld := ⟨0x40700000, 1, 1, 0x0, 0x0⟩
def SYS_REMAP_SWAP : Fld := ⟨0x40700000, 0, 0, 0x0, 0x0⟩
def SYS_REMAP_w : Fld := ⟨0x40700000, 31, 0, 0x0, 0x0⟩

/-! ### FAB: 17_memory_system.md R347 -/

def FAB_ERRLOG_ADDR : Fld := ⟨0x40700100, 31, 0, 0x0, 0x0⟩
def FAB_ERRINFO_VALID : Fld := ⟨0x40700104, 31, 31, 0x0, 0x0⟩
def FAB_ERRINFO_KIND : Fld := ⟨0x40700104, 30, 28, 0x0, 0x0⟩
def FAB_ERRINFO_WRITE : Fld := ⟨0x40700104, 27, 27, 0x0, 0x0⟩
def FAB_ERRINFO_MASTER : Fld := ⟨0x40700104, 26, 23, 0x0, 0x0⟩
def FAB_ERRINFO_CORE : Fld := ⟨0x40700104, 22, 18, 0x0, 0x0⟩
def FAB_ERRINFO_w : Fld := ⟨0x40700104, 31, 0, 0x0, 0x0⟩

/-! ### CEL: 17_memory_system.md R347 -/

def CEL_CTRL_LOCK : Fld := ⟨0x40500000, 2, 2, 0x0, 0x0⟩
def CEL_CTRL_TRAIN_REQ : Fld := ⟨0x40500000, 1, 1, 0x0, 0x0⟩
def CEL_CTRL_ENABLE : Fld := ⟨0x40500000, 0, 0, 0x0, 0x0⟩
def CEL_CTRL_w : Fld := ⟨0x40500000, 31, 0, 0x0, 0x0⟩
def CEL_CFG_RATE : Fld := ⟨0x40500004, 15, 14, 0x1403, 0x1403⟩
def CEL_CFG_GRAIN : Fld := ⟨0x40500004, 13, 12, 0x1403, 0x1403⟩
def CEL_CFG_RANKS : Fld := ⟨0x40500004, 11, 11, 0x1403, 0x1403⟩
def CEL_CFG_DENSITY : Fld := ⟨0x40500004, 10, 9, 0x1403, 0x1403⟩
def CEL_CFG_CH_EN : Fld := ⟨0x40500004, 1, 0, 0x1403, 0x1403⟩
def CEL_CFG_w : Fld := ⟨0x40500004, 31, 0, 0x1403, 0x1403⟩
def CEL_STATUS_OVERBUDGET : Fld := ⟨0x40500008, 8, 8, 0x0, 0x0⟩
def CEL_STATUS_SR : Fld := ⟨0x40500008, 7, 7, 0x0, 0x0⟩
def CEL_STATUS_RETRAIN_BUSY : Fld := ⟨0x40500008, 6, 6, 0x0, 0x0⟩
def CEL_STATUS_PANIC : Fld := ⟨0x40500008, 5, 5, 0x0, 0x0⟩
def CEL_STATUS_FAIL : Fld := ⟨0x40500008, 3, 2, 0x0, 0x0⟩
def CEL_STATUS_TRAINED : Fld := ⟨0x40500008, 1, 0, 0x0, 0x0⟩
def CEL_STATUS_w : Fld := ⟨0x40500008, 31, 0, 0x0, 0x0⟩
def CEL_APERTURE_BASE : Fld := ⟨0x4050000C, 3, 0, 0x0, 0x0⟩
def CEL_APERTURE_w : Fld := ⟨0x4050000C, 31, 0, 0x0, 0x0⟩
def CEL_SCHED_AGE_CAP : Fld := ⟨0x40500010, 15, 8, 0x1040, 0x1040⟩
def CEL_SCHED_PD_IDLE : Fld := ⟨0x40500010, 7, 0, 0x1040, 0x1040⟩
def CEL_SCHED_w : Fld := ⟨0x40500010, 31, 0, 0x1040, 0x1040⟩
def CEL_HINT_CLASSk : Fld := ⟨0x40500014, 15, 0, 0x0, 0x0⟩
def CEL_HINT_w : Fld := ⟨0x40500014, 31, 0, 0x0, 0x0⟩

/-! ### FAB: 17_memory_system.md R347 -/

def FAB_CNT_ERR_VALUE : Fld := ⟨0x40700108, 31, 0, 0x0, 0x0⟩
def FAB_PRIO_VALUE : Fld := ⟨0x40700110, 11, 0, 0x7BF, 0x7BF⟩
def FAB_PRIO_w : Fld := ⟨0x40700110, 31, 0, 0x7BF, 0x7BF⟩
def FAB_CNT_PROMOTE_VALUE : Fld := ⟨0x40700114, 31, 0, 0x0, 0x0⟩

/-! ### CEL: 17_memory_system.md R347 -/

def CEL_CNT_RD_VALUE : Fld := ⟨0x40500040, 31, 0, 0x0, 0x0⟩
def CEL_CNT_WR_VALUE : Fld := ⟨0x40500044, 31, 0, 0x0, 0x0⟩
def CEL_CNT_ROWHIT_VALUE : Fld := ⟨0x40500048, 31, 0, 0x0, 0x0⟩
def CEL_CNT_ROWMISS_VALUE : Fld := ⟨0x4050004C, 31, 0, 0x0, 0x0⟩
def CEL_CNT_PANIC_VALUE : Fld := ⟨0x40500050, 31, 0, 0x0, 0x0⟩
def CEL_CNT_REF_POST_VALUE : Fld := ⟨0x40500054, 31, 0, 0x0, 0x0⟩
def CEL_CNT_RETRAIN_VALUE : Fld := ⟨0x40500058, 31, 0, 0x0, 0x0⟩
def CEL_CNT_RT_LATE_VALUE : Fld := ⟨0x4050005C, 31, 0, 0x0, 0x0⟩

/-! ### CLK: 18_clocks_modes.md R366 -/

def CLK_MODE_CUR : Fld := ⟨0x50050000, 17, 16, 0x0, 0x0⟩
def CLK_MODE_REQ : Fld := ⟨0x50050000, 9, 8, 0x0, 0x0⟩
def CLK_MODE_RESTORE : Fld := ⟨0x50050000, 1, 1, 0x0, 0x0⟩
def CLK_MODE_ABORTED : Fld := ⟨0x50050000, 0, 0, 0x0, 0x0⟩
def CLK_MODE_w : Fld := ⟨0x50050000, 31, 0, 0x0, 0x0⟩
def CLK_STAT_HOLD_WAIT : Fld := ⟨0x50050004, 15, 15, 0x0, 0x0⟩
def CLK_STAT_ON_RC : Fld := ⟨0x50050004, 14, 14, 0x0, 0x0⟩
def CLK_STAT_RC_READY : Fld := ⟨0x50050004, 13, 13, 0x0, 0x0⟩
def CLK_STAT_XO_DELAY : Fld := ⟨0x50050004, 11, 10, 0x0, 0x0⟩
def CLK_STAT_FAIL : Fld := ⟨0x50050004, 5, 0, 0x0, 0x0⟩
def CLK_STAT_w : Fld := ⟨0x50050004, 31, 0, 0x0, 0x0⟩
def CLK_MON_GOOD : Fld := ⟨0x50050008, 5, 0, 0x0, 0x0⟩
def CLK_MON_w : Fld := ⟨0x50050008, 31, 0, 0x0, 0x0⟩
def CLK_RC_TRIM_SRC : Fld := ⟨0x50050010, 15, 14, 0x200, 0x200⟩
def CLK_RC_TRIM_PORT : Fld := ⟨0x50050010, 13, 10, 0x200, 0x200⟩
def CLK_RC_TRIM_TRIM : Fld := ⟨0x50050010, 9, 0, 0x200, 0x200⟩
def CLK_RC_TRIM_w : Fld := ⟨0x50050010, 31, 0, 0x200, 0x200⟩
def CLK_RC_MEAS_VALUE : Fld := ⟨0x50050014, 15, 0, 0x0, 0x0⟩
def CLK_RC_MEAS_w : Fld := ⟨0x50050014, 31, 0, 0x0, 0x0⟩
def CLK_GATE_RUN_VALUE : Fld := ⟨0x50050020, 22, 0, 0x7FFFFF, 0x7FFFFF⟩
def CLK_GATE_RUN_w : Fld := ⟨0x50050020, 31, 0, 0x7FFFFF, 0x7FFFFF⟩
def CLK_GATE_SLEEP_VALUE : Fld := ⟨0x50050024, 22, 0, 0x74F210, 0x74F210⟩
def CLK_GATE_SLEEP_w : Fld := ⟨0x50050024, 31, 0, 0x74F210, 0x74F210⟩
def CLK_GATE_DEEP_VALUE : Fld := ⟨0x50050028, 22, 0, 0x0, 0x0⟩
def CLK_GATE_DEEP_w : Fld := ⟨0x50050028, 31, 0, 0x0, 0x0⟩
def CLK_CORE_GATE_VALUE : Fld := ⟨0x5005002C, 31, 0, 0x0, 0x0⟩
def CLK_GATE_REFUSED_VALUE : Fld := ⟨0x50050030, 22, 0, 0x0, 0x0⟩
def CLK_GATE_REFUSED_w : Fld := ⟨0x50050030, 31, 0, 0x0, 0x0⟩
def CLK_GATE_FORCED_VALUE : Fld := ⟨0x50050034, 22, 0, 0x0, 0x0⟩
def CLK_GATE_FORCED_w : Fld := ⟨0x50050034, 31, 0, 0x0, 0x0⟩
def CLK_GATE_NOW_VALUE : Fld := ⟨0x50050038, 22, 0, 0x0, 0x0⟩
def CLK_GATE_NOW_w : Fld := ⟨0x50050038, 31, 0, 0x0, 0x0⟩
def CLK_WAKE_CFG_HIF : Fld := ⟨0x50050040, 5, 4, 0x0, 0x0⟩
def CLK_WAKE_CFG_PTT : Fld := ⟨0x50050040, 3, 0, 0x0, 0x0⟩
def CLK_WAKE_CFG_w : Fld := ⟨0x50050040, 31, 0, 0x0, 0x0⟩
def CLK_WAKE_GPIO_VALUE : Fld := ⟨0x50050044, 31, 0, 0x0, 0x0⟩
def CLK_WAKE_POL_VALUE : Fld := ⟨0x50050048, 31, 0, 0x0, 0x0⟩
def CLK_WAKE_STAT_GPIO : Fld := ⟨0x5005004C, 6, 6, 0x0, 0x0⟩
def CLK_WAKE_STAT_HIF : Fld := ⟨0x5005004C, 5, 4, 0x0, 0x0⟩
def CLK_WAKE_STAT_PTT : Fld := ⟨0x5005004C, 3, 0, 0x0, 0x0⟩
def CLK_WAKE_STAT_w : Fld := ⟨0x5005004C, 31, 0, 0x0, 0x0⟩
def CLK_CNT_MON_FAIL_VALUE : Fld := ⟨0x50050060, 31, 0, 0x0, 0x0⟩
def CLK_CNT_REFUSE_VALUE : Fld := ⟨0x50050064, 31, 0, 0x0, 0x0⟩
def CLK_CNT_FORCE_VALUE : Fld := ⟨0x50050068, 31, 0, 0x0, 0x0⟩
def CLK_CNT_WAKE_VALUE : Fld := ⟨0x5005006C, 31, 0, 0x0, 0x0⟩

/-! ### SUP: 19_supply_shedding.md R379 -/

def SUP_CTRL_MAINS_POL : Fld := ⟨0x50060000, 1, 1, 0x0, 0x0⟩
def SUP_CTRL_ENABLE : Fld := ⟨0x50060000, 0, 0, 0x0, 0x0⟩
def SUP_CTRL_w : Fld := ⟨0x50060000, 31, 0, 0x0, 0x0⟩
def SUP_STATUS_BROWNOUT : Fld := ⟨0x50060004, 10, 10, 0x0, 0x0⟩
def SUP_STATUS_DWELL : Fld := ⟨0x50060004, 9, 9, 0x0, 0x0⟩
def SUP_STATUS_MAINS : Fld := ⟨0x50060004, 8, 8, 0x0, 0x0⟩
def SUP_STATUS_STAGE : Fld := ⟨0x50060004, 2, 0, 0x0, 0x0⟩
def SUP_STATUS_w : Fld := ⟨0x50060004, 31, 0, 0x0, 0x0⟩
def SUP_THR_S2_VALUE : Fld := ⟨0x50060008, 15, 0, 0x1194, 0x1194⟩
def SUP_THR_S2_w : Fld := ⟨0x50060008, 31, 0, 0x1194, 0x1194⟩
def SUP_THR_S3_VALUE : Fld := ⟨0x5006000C, 15, 0, 0x10CC, 0x10CC⟩
def SUP_THR_S3_w : Fld := ⟨0x5006000C, 31, 0, 0x10CC, 0x10CC⟩
def SUP_THR_S4_VALUE : Fld := ⟨0x50060010, 15, 0, 0x1004, 0x1004⟩
def SUP_THR_S4_w : Fld := ⟨0x50060010, 31, 0, 0x1004, 0x1004⟩
def SUP_HYST_VALUE : Fld := ⟨0x50060014, 15, 0, 0x64, 0x64⟩
def SUP_HYST_w : Fld := ⟨0x50060014, 31, 0, 0x64, 0x64⟩
def SUP_DWELL_VALUE : Fld := ⟨0x50060018, 15, 0, 0x7D0, 0x7D0⟩
def SUP_DWELL_w : Fld := ⟨0x50060018, 31, 0, 0x7D0, 0x7D0⟩
def SUP_BUS_CAL_VALUE : Fld := ⟨0x5006001C, 15, 0, 0x7D0, 0x7D0⟩
def SUP_BUS_CAL_w : Fld := ⟨0x5006001C, 31, 0, 0x7D0, 0x7D0⟩
def SUP_BUS_VALUE : Fld := ⟨0x50060020, 15, 0, 0x0, 0x0⟩
def SUP_BUS_w : Fld := ⟨0x50060020, 31, 0, 0x0, 0x0⟩
def SUP_TEMP_VALUE : Fld := ⟨0x50060024, 15, 0, 0x0, 0x0⟩
def SUP_TEMP_w : Fld := ⟨0x50060024, 31, 0, 0x0, 0x0⟩
def SUP_EVAC_PRIO : Fld := ⟨0x50060028, 7, 0, 0xC0, 0xC0⟩
def SUP_EVAC_w : Fld := ⟨0x50060028, 31, 0, 0xC0, 0xC0⟩
def SUP_VCORE_WARN : Fld := ⟨0x5006002C, 9, 0, 0x2F8, 0x2F8⟩
def SUP_VCORE_w : Fld := ⟨0x5006002C, 31, 0, 0x2F8, 0x2F8⟩
def SUP_STAGE_BLK_LO_VALUE : Fld := ⟨0x50060030, 31, 0, 0x0, 0x0⟩
def SUP_STAGE_BLK_HI_VALUE : Fld := ⟨0x50060034, 31, 0, 0x0, 0x0⟩
def SUP_CNT_ENTER_VALUE : Fld := ⟨0x50060040, 31, 0, 0x0, 0x0⟩
def SUP_CNT_MAINS_LOST_VALUE : Fld := ⟨0x50060044, 31, 0, 0x0, 0x0⟩
def SUP_CNT_BROWNOUT_VALUE : Fld := ⟨0x50060048, 31, 0, 0x0, 0x0⟩

/-! ### SYS: 20_boot_identity.md R397 -/

def SYS_STRAP_RSV : Fld := ⟨0x40700004, 7, 5, 0x0, 0x0⟩
def SYS_STRAP_RATE : Fld := ⟨0x40700004, 4, 4, 0x0, 0x0⟩
def SYS_STRAP_ROLE : Fld := ⟨0x40700004, 3, 3, 0x0, 0x0⟩
def SYS_STRAP_SLOT : Fld := ⟨0x40700004, 2, 2, 0x0, 0x0⟩
def SYS_STRAP_XO : Fld := ⟨0x40700004, 1, 0, 0x0, 0x0⟩
def SYS_STRAP_w : Fld := ⟨0x40700004, 31, 0, 0x0, 0x0⟩
def SYS_BOOT_CAUSE : Fld := ⟨0x40700008, 5, 4, 0x0, 0x0⟩
def SYS_BOOT_STATE : Fld := ⟨0x40700008, 3, 2, 0x0, 0x0⟩
def SYS_BOOT_RELEASE : Fld := ⟨0x40700008, 0, 0, 0x0, 0x0⟩
def SYS_BOOT_w : Fld := ⟨0x40700008, 31, 0, 0x0, 0x0⟩

/-! ### SEC: 20_boot_identity.md R397 -/

def SEC_STATUS_FIELD : Fld := ⟨0x50080004, 5, 5, 0x0, 0x0⟩
def SEC_STATUS_CFG_DEFAULT : Fld := ⟨0x50080004, 4, 4, 0x0, 0x0⟩
def SEC_STATUS_RC_BOOT : Fld := ⟨0x50080004, 3, 3, 0x0, 0x0⟩
def SEC_STATUS_FALLBACK : Fld := ⟨0x50080004, 2, 2, 0x0, 0x0⟩
def SEC_STATUS_SLOT : Fld := ⟨0x50080004, 1, 1, 0x0, 0x0⟩
def SEC_STATUS_MAINT : Fld := ⟨0x50080004, 0, 0, 0x0, 0x0⟩
def SEC_STATUS_w : Fld := ⟨0x50080004, 31, 0, 0x0, 0x0⟩
def SEC_CTRL_SET_FIELD : Fld := ⟨0x50080000, 0, 0, 0x0, 0x0⟩
def SEC_CTRL_w : Fld := ⟨0x50080000, 31, 0, 0x0, 0x0⟩
def SEC_DEVID_LO_ID : Fld := ⟨0x50080010, 31, 0, 0x0, 0x0⟩
def SEC_DEVID_HI_ID : Fld := ⟨0x50080014, 31, 0, 0x0, 0x0⟩
def SEC_ROLLBACK_VALUE : Fld := ⟨0x50080018, 6, 0, 0x0, 0x0⟩
def SEC_ROLLBACK_w : Fld := ⟨0x50080018, 31, 0, 0x0, 0x0⟩
def SEC_FWKEY_USED : Fld := ⟨0x5008001C, 5, 4, 0x0, 0x0⟩
def SEC_FWKEY_REVOKED : Fld := ⟨0x5008001C, 3, 0, 0x0, 0x0⟩
def SEC_FWKEY_w : Fld := ⟨0x5008001C, 31, 0, 0x0, 0x0⟩
def SEC_FW_VERSION_VALUE : Fld := ⟨0x50080020, 31, 0, 0x0, 0x0⟩
def SEC_MEAS_MEAS (i : Nat) : Fld := ⟨0x50080040 + 4 * i, 31, 0, 0x0, 0x0⟩
def SEC_TRNG_VALUE : Fld := ⟨0x50080080, 31, 0, 0x0, 0x0⟩
def SEC_CNT_BOOT_FAIL_VALUE : Fld := ⟨0x50080100, 31, 0, 0x0, 0x0⟩
def SEC_CNT_TRNG_FAIL_VALUE : Fld := ⟨0x50080104, 31, 0, 0x0, 0x0⟩

end R

/-- Access rows, part 0. -/
def regRows0 : List RegRow := [
  ⟨0x40000000, [], 0x0, 0x0, 0x1, 0x0, 0x0, 0x2, 0x0, 0x0⟩,
  ⟨0x40000004, [], 0x0, 0x0, 0x0, 0x38, 0x0, 0x0, 0x0, 0x0⟩,
  ⟨0x40000008, [], 0x23D337FA, 0x47A66FF4, 0x0, 0x0, 0x0, 0x0, 0xFFFFFFFF, 0x0⟩,
  ⟨0x4000000C, [], 0x10000, 0x8000, 0x0, 0x0, 0x0, 0x0, 0x1FFFF, 0x0⟩,
  ⟨0x40000010, [], 0x0, 0x0, 0x0, 0x0, 0x0, 0x0, 0x0, 0x0⟩,
  ⟨0x40000080, [], 0x0, 0x0, 0x800FFFFF, 0x0, 0x0, 0x0, 0x0, 0x0⟩,
  ⟨0x40000084, [], 0x0, 0x0, 0xFFFFFFFF, 0x0, 0x0, 0x0, 0x0, 0x0⟩,
  ⟨0x40000020, [], 0x0, 0x0, 0x0, 0x0, 0xFFFFFFFF, 0x0, 0x0, 0x0⟩,
  ⟨0x40000024, [], 0x0, 0x0, 0x0, 0x0, 0xFFFFFFFF, 0x0, 0x0, 0x0⟩,
  ⟨0x40000028, [], 0x0, 0x0, 0x0, 0x0, 0xFFFFFFFF, 0x0, 0x0, 0x0⟩,
  ⟨0x4000002C, [], 0x0, 0x0, 0x0, 0x0, 0xFFFFFFFF, 0x0, 0x0, 0x0⟩,
  ⟨0x40000030, [], 0x0, 0x0, 0x0, 0x0, 0xFFFFFFFF, 0x0, 0x0, 0x0⟩,
  ⟨0x40000040, [], 0x0, 0x0, 0xFFFFFFFF, 0x0, 0x0, 0x0, 0x0, 0x0⟩,
  ⟨0x40000044, [], 0x0, 0x0, 0x0, 0x0, 0x0, 0x0, 0x0, 0x0⟩,
  ⟨0x20800000, [], 0x0, 0x0, 0x1, 0x0, 0x0, 0x0, 0x6, 0x0⟩,
  ⟨0x20800004, [], 0x0, 0x0, 0x0, 0x7E, 0x0, 0x0, 0x0, 0x0⟩,
  ⟨0x20800008, [], 0x1, 0x1, 0x0, 0x0, 0x0, 0x0, 0x7, 0x0⟩,
  ⟨0x2080000C, [], 0x14, 0x14, 0xFF, 0x0, 0x0, 0x0, 0x0, 0x0⟩,
  ⟨0x20800050, [], 0x0, 0x0, 0x0, 0x0, 0xF3FF1FFF, 0x0, 0x0, 0x0⟩,
  ⟨0x20800060, [], 0xD, 0xD, 0x8000FFFF, 0x0, 0x0, 0x0, 0x0, 0x0⟩,
  ⟨0x20800064, [], 0x0, 0x0, 0x0, 0x0, 0x0, 0x0, 0x0, 0x0⟩,
  ⟨0x20800020, [], 0x0, 0x0, 0x0, 0x0, 0xFFFFFFFF, 0x0, 0x0, 0x0⟩,
  ⟨0x20800024, [], 0x0, 0x0, 0x0, 0x0, 0xFFFFFFFF, 0x0, 0x0, 0x0⟩,
  ⟨0x20800028, [], 0x0, 0x0, 0x0, 0x0, 0xFFFFFFFF, 0x0, 0x0, 0x0⟩,
  ⟨0x2080002C, [], 0x0, 0x0, 0x0, 0x0, 0xFFFFFFFF, 0x0, 0x0, 0x0⟩,
  ⟨0x20800030, [], 0x0, 0x0, 0x0, 0x0, 0xFFFFFFFF, 0x0, 0x0, 0x0⟩,
  ⟨0x20800034, [], 0x0, 0x0, 0x0, 0x0, 0xFFFFFFFF, 0x0, 0x0, 0x0⟩,
  ⟨0x20800038, [], 0x0, 0x0, 0x0, 0x0, 0xFFFFFFFF, 0x0, 0x0, 0x0⟩,
  ⟨0x2080003C, [], 0x0, 0x0, 0x0, 0x0, 0xFFFFFFFF, 0x0, 0x0, 0x0⟩,
  ⟨0x20800040, [], 0x0, 0x0, 0x0, 0x0, 0xFFFFFFFF, 0x0, 0x0, 0x0⟩,
  ⟨0x20800044, [], 0x0, 0x0, 0x0, 0x0, 0xFFFFFFFF, 0x0, 0x0, 0x0⟩,
  ⟨0x20800100, [(32, 4)], 0x0, 0x0, 0x0, 0x0, 0x0, 0x0, 0xFFFFFFFF, 0x0⟩,
  ⟨0x30800000, [(32, 65536)], 0x0, 0x0, 0x23, 0x0, 0x0, 0x5C, 0x0, 0x0⟩,
  ⟨0x30800004, [(32, 65536)], 0x0, 0x0, 0x0, 0x1F00, 0x0, 0x0, 0x0, 0x0⟩,
  ⟨0x30800008, [(32, 65536)], 0x0, 0x0, 0x0, 0x0, 0x0, 0x0, 0x0, 0x0⟩,
  ⟨0x3080000C, [(32, 65536)], 0x0, 0x0, 0x0, 0x0, 0x0, 0x0, 0x0, 0x0⟩,
  ⟨0x30800020, [(32, 65536)], 0x0, 0x0, 0x7FF, 0x0, 0x0, 0x0, 0x0, 0x0⟩,
  ⟨0x30800024, [(32, 65536)], 0x0, 0x0, 0xFFFFFFFF, 0x0, 0x0, 0x0, 0x0, 0x0⟩,
  ⟨0x30A00000, [], 0x0, 0x0, 0x0, 0x0, 0x0, 0x0, 0x0, 0x1⟩,
  ⟨0x30A00004, [], 0x0, 0x0, 0x0, 0x0, 0x0, 0x0, 0x0, 0x0⟩]

/-- Access rows, part 1. -/
def regRows1 : List RegRow := [
  ⟨0x30800010, [(32, 65536), (4, 4)], 0x0, 0x0, 0x80000FFF, 0x0, 0x0, 0x0, 0x0, 0x0⟩,
  ⟨0x30800040, [(32, 65536)], 0x0, 0x0, 0x0, 0x0, 0xFFFFFFFF, 0x0, 0x0, 0x0⟩,
  ⟨0x30800044, [(32, 65536)], 0x0, 0x0, 0x0, 0x0, 0xFFFFFFFF, 0x0, 0x0, 0x0⟩,
  ⟨0x30800048, [(32, 65536)], 0x0, 0x0, 0x0, 0x0, 0xFFFFFFFF, 0x0, 0x0, 0x0⟩,
  ⟨0x3080004C, [(32, 65536)], 0x0, 0x0, 0x0, 0x0, 0xFFFFFFFF, 0x0, 0x0, 0x0⟩,
  ⟨0x30800050, [(32, 65536)], 0x0, 0x0, 0x0, 0x0, 0xFFFFFFFF, 0x0, 0x0, 0x0⟩,
  ⟨0x40100000, [], 0x0, 0x0, 0x1, 0x0, 0x0, 0x0, 0x0, 0x0⟩,
  ⟨0x40100004, [], 0x0, 0x0, 0x0, 0xF, 0x0, 0x0, 0x0, 0x0⟩,
  ⟨0x40100008, [], 0x8004E20, 0x8004E20, 0x9F0FFFFF, 0x0, 0x0, 0x0, 0x0, 0x0⟩,
  ⟨0x40100050, [], 0x0, 0x0, 0x0, 0x0, 0x1, 0x0, 0x0, 0x0⟩,
  ⟨0x40100040, [(4, 4)], 0x0, 0x0, 0x0, 0x0, 0x0, 0xFFFFFFFF, 0x0, 0x0⟩,
  ⟨0x40100100, [(64, 4)], 0x0, 0x0, 0xFC007FFF, 0x0, 0x0, 0x0, 0x0, 0x0⟩,
  ⟨0x40100200, [(64, 4)], 0x0, 0x0, 0x0, 0x0, 0xFFFF0000, 0x0, 0x0, 0x0⟩,
  ⟨0x40100400, [(32, 16)], 0x0, 0x0, 0xFFFFFFFF, 0x0, 0x0, 0x0, 0x0, 0x0⟩,
  ⟨0x40100404, [(32, 16)], 0x0, 0x0, 0xFFFFC000, 0x0, 0x0, 0x0, 0x0, 0x0⟩,
  ⟨0x40100408, [(32, 16)], 0x0, 0x0, 0xFFFFFFFF, 0x0, 0x0, 0x0, 0x0, 0x0⟩,
  ⟨0x40100600, [], 0x0, 0x0, 0xFFF, 0x0, 0x0, 0x0, 0x0, 0x0⟩,
  ⟨0x40100604, [], 0x0, 0x0, 0x80000000, 0x40000000, 0x0, 0x0, 0x0, 0x0⟩,
  ⟨0x40100800, [(32, 8), (2, 4)], 0xFFFFFFFF, 0xFFFFFFFF, 0xFFFFFFFF, 0x0, 0x0, 0x0, 0x0, 0x0⟩,
  ⟨0x40100080, [], 0x0, 0x0, 0x0, 0x0, 0xFFFFFFFF, 0x0, 0x0, 0x0⟩,
  ⟨0x40100084, [], 0x0, 0x0, 0x0, 0x0, 0xFFFFFFFF, 0x0, 0x0, 0x0⟩,
  ⟨0x40100088, [], 0x0, 0x0, 0x0, 0x0, 0xFFFFFFFF, 0x0, 0x0, 0x0⟩,
  ⟨0x4010008C, [], 0x0, 0x0, 0x0, 0x0, 0xFFFFFFFF, 0x0, 0x0, 0x0⟩,
  ⟨0x40100090, [], 0x0, 0x0, 0x0, 0x0, 0xFFFFFFFF, 0x0, 0x0, 0x0⟩,
  ⟨0x40100094, [], 0x0, 0x0, 0x0, 0x0, 0xFFFFFFFF, 0x0, 0x0, 0x0⟩,
  ⟨0x40100098, [], 0x0, 0x0, 0x0, 0x0, 0xFFFFFFFF, 0x0, 0x0, 0x0⟩,
  ⟨0x4010009C, [], 0x0, 0x0, 0x0, 0x0, 0xFFFFFFFF, 0x0, 0x0, 0x0⟩,
  ⟨0x401000A0, [], 0x0, 0x0, 0x0, 0x0, 0xFFFFFFFF, 0x0, 0x0, 0x0⟩,
  ⟨0x401000A4, [], 0x0, 0x0, 0x0, 0x0, 0xFFFFFFFF, 0x0, 0x0, 0x0⟩,
  ⟨0x40200000, [], 0x0, 0x0, 0x1, 0x0, 0x0, 0x0, 0x0, 0x0⟩,
  ⟨0x40200008, [], 0x0, 0x0, 0x1, 0x0, 0x0, 0x2, 0x0, 0x0⟩,
  ⟨0x4020000C, [], 0x0, 0x0, 0x0, 0x0, 0x0, 0x0, 0x0, 0x0⟩,
  ⟨0x40220000, [(256, 1024)], 0x0, 0x0, 0x0, 0x0, 0x0, 0x0, 0xFF80FFFF, 0x0⟩,
  ⟨0x40260000, [(640, 1024)], 0x20000, 0x20000, 0x0, 0x0, 0x0, 0x0, 0x3FFFFFF, 0x0⟩,
  ⟨0x40260004, [(640, 1024)], 0x0, 0x0, 0x0, 0x0, 0x0, 0x0, 0x0, 0x0⟩,
  ⟨0x40260008, [(640, 1024)], 0x50FFE7, 0x50FFE7, 0x0, 0x0, 0x0, 0x0, 0x7FFFFF, 0x0⟩,
  ⟨0x4026000C, [(640, 1024)], 0xDA7, 0x6D4, 0x0, 0x0, 0x0, 0x0, 0xFFFFFF, 0x0⟩,
  ⟨0x40260010, [(640, 1024)], 0x0, 0x0, 0x0, 0x2, 0x0, 0x0, 0x0, 0x0⟩,
  ⟨0x40200020, [], 0x0, 0x0, 0x0, 0x0, 0xFFFFFFFF, 0x0, 0x0, 0x0⟩,
  ⟨0x40200024, [], 0x0, 0x0, 0x0, 0x0, 0xFFFFFFFF, 0x0, 0x0, 0x0⟩]

/-- Access rows, part 2. -/
def regRows2 : List RegRow := [
  ⟨0x40200028, [], 0x0, 0x0, 0x0, 0x0, 0xFFFFFFFF, 0x0, 0x0, 0x0⟩,
  ⟨0x4020002C, [], 0x0, 0x0, 0x0, 0x0, 0xFFFFFFFF, 0x0, 0x0, 0x0⟩,
  ⟨0x40200030, [], 0x0, 0x0, 0x0, 0x0, 0xFFFFFFFF, 0x0, 0x0, 0x0⟩,
  ⟨0x40200034, [], 0x0, 0x0, 0x0, 0x0, 0xFFFFFFFF, 0x0, 0x0, 0x0⟩,
  ⟨0x40200038, [], 0x0, 0x0, 0x0, 0x0, 0xFFFFFFFF, 0x0, 0x0, 0x0⟩,
  ⟨0x4020003C, [], 0x0, 0x0, 0x0, 0x0, 0xFFFFFFFF, 0x0, 0x0, 0x0⟩,
  ⟨0x40200040, [], 0x0, 0x0, 0x3FF, 0x0, 0x0, 0x0, 0x0, 0x0⟩,
  ⟨0x40200044, [], 0x0, 0x0, 0x0, 0x0, 0x0, 0x0, 0x0, 0x0⟩,
  ⟨0x40201000, [(1024, 4)], 0x0, 0x0, 0x0, 0x0, 0x0, 0x0, 0x1FFFF, 0x0⟩,
  ⟨0x40220010, [(256, 1024), (4, 4)], 0x0, 0x0, 0x0, 0x0, 0x0, 0x0, 0xFFFFFFFF, 0x0⟩,
  ⟨0x40220200, [(256, 1024), (64, 8)], 0x0, 0x0, 0x0, 0x0, 0x0, 0x0, 0xC000FFFF, 0x0⟩,
  ⟨0x40220204, [(256, 1024), (64, 8)], 0x0, 0x0, 0x0, 0x0, 0x0, 0x0, 0xFFFF, 0x0⟩,
  ⟨0x40260100, [(640, 1024), (32, 20)], 0x8000, 0x8000, 0x0, 0x0, 0x0, 0x0, 0x3FFFF, 0x0⟩,
  ⟨0x40260104, [(640, 1024), (32, 20), (4, 4)], 0x0, 0x0, 0x0, 0x0, 0x0, 0x0, 0x3FFFF, 0x0⟩,
  ⟨0x50000000, [(16, 1024)], 0x44000FF, 0x44000FF, 0xFFE003FF, 0x0, 0x0, 0x0, 0x0, 0x0⟩,
  ⟨0x5000000C, [(16, 1024)], 0x3E8, 0x3E8, 0x7FFF, 0x0, 0x0, 0x0, 0x0, 0x0⟩,
  ⟨0x50000010, [(16, 1024)], 0x0, 0x0, 0x0, 0xC, 0x0, 0x0, 0x0, 0x0⟩,
  ⟨0x50010000, [(4, 256)], 0xC002000, 0xC002000, 0xFC00FFFF, 0x0, 0x0, 0x0, 0x0, 0x0⟩,
  ⟨0x50010004, [(4, 256)], 0x0, 0x0, 0x0, 0xE4, 0x0, 0x0, 0x0, 0x0⟩,
  ⟨0x50020000, [(32, 64)], 0x0, 0x0, 0xF00001FF, 0x0, 0x0, 0x0, 0x0, 0x0⟩,
  ⟨0x50030000, [(4, 256)], 0x0, 0x0, 0xFC00000F, 0x0, 0x0, 0x0, 0x0, 0x0⟩,
  ⟨0x50030004, [(4, 256)], 0x10006414, 0x10006414, 0xFF00FFFF, 0x0, 0x0, 0x0, 0x0, 0x0⟩,
  ⟨0x50030008, [(4, 256)], 0x500, 0x500, 0x0, 0x3, 0x0, 0x0, 0x0, 0x0⟩,
  ⟨0x50000004, [(16, 1024)], 0x0, 0x0, 0x0, 0x0, 0x0, 0x0, 0xFFFFFFFF, 0x0⟩,
  ⟨0x50000008, [(16, 1024)], 0x0, 0x0, 0x0, 0x0, 0x0, 0x0, 0xFFFFFFFF, 0x0⟩,
  ⟨0x50000020, [(16, 1024)], 0x0, 0x0, 0x0, 0x0, 0x0, 0x0, 0x0, 0x0⟩,
  ⟨0x50000024, [(16, 1024)], 0x0, 0x0, 0x0, 0x0, 0x0, 0x0, 0x0, 0x0⟩,
  ⟨0x50000028, [(16, 1024)], 0x0, 0x0, 0x0, 0x0, 0x0, 0x0, 0x0, 0x0⟩,
  ⟨0x50010030, [(4, 256)], 0x0, 0x0, 0x0, 0x0, 0x0, 0x0, 0x0, 0x0⟩,
  ⟨0x50010034, [(4, 256)], 0x0, 0x0, 0x0, 0x0, 0x0, 0x0, 0x0, 0x0⟩,
  ⟨0x50010038, [(4, 256)], 0x0, 0x0, 0x0, 0x0, 0x0, 0x0, 0x0, 0x0⟩,
  ⟨0x50000100, [(16, 1024), (32, 4)], 0x0, 0x0, 0x0, 0x0, 0x0, 0x0, 0x800003FF, 0x0⟩,
  ⟨0x50010008, [(4, 256)], 0x0, 0x0, 0x0, 0x0, 0x0, 0x0, 0x0, 0x0⟩,
  ⟨0x50010010, [(4, 256), (6, 4)], 0x0, 0x0, 0x0, 0x0, 0x0, 0x0, 0x0, 0x0⟩,
  ⟨0x50010800, [(4, 256)], 0x0, 0x0, 0xC0000000, 0x0, 0x0, 0x0, 0x0, 0x0⟩,
  ⟨0x50010804, [(4, 256)], 0x0, 0x0, 0x0, 0x0, 0x0, 0x0, 0x83FF83FF, 0x0⟩,
  ⟨0x50010810, [(4, 256)], 0x1, 0x1, 0xFFFFFFFF, 0x0, 0x0, 0x0, 0x0, 0x0⟩,
  ⟨0x50010814, [(4, 256), (5, 4)], 0x0, 0x0, 0xFFFFFFFF, 0x0, 0x0, 0x0, 0x0, 0x0⟩,
  ⟨0x50020004, [(32, 64)], 0x4, 0x4, 0xF, 0x0, 0x0, 0x0, 0x0, 0x0⟩,
  ⟨0x50020008, [(32, 64)], 0x0, 0x0, 0x0, 0x4, 0x0, 0x0, 0x0, 0x0⟩]

/-- Access rows, part 3. -/
def regRows3 : List RegRow := [
  ⟨0x5002000C, [(32, 64)], 0x0, 0x0, 0x0, 0x0, 0x0, 0x0, 0x0, 0x0⟩,
  ⟨0x50020010, [(32, 64)], 0x0, 0x0, 0x0, 0x0, 0x0, 0x0, 0x0, 0x0⟩,
  ⟨0x50020014, [(32, 64)], 0x0, 0x0, 0x0, 0x0, 0x0, 0x0, 0x0, 0x0⟩,
  ⟨0x50000040, [(16, 1024)], 0x0, 0x0, 0x0, 0x0, 0xFFFFFFFF, 0x0, 0x0, 0x0⟩,
  ⟨0x50000044, [(16, 1024)], 0x0, 0x0, 0x0, 0x0, 0xFFFFFFFF, 0x0, 0x0, 0x0⟩,
  ⟨0x50000048, [(16, 1024)], 0x0, 0x0, 0x0, 0x0, 0xFFFFFFFF, 0x0, 0x0, 0x0⟩,
  ⟨0x50010040, [(4, 256)], 0x0, 0x0, 0x0, 0x0, 0xFFFFFFFF, 0x0, 0x0, 0x0⟩,
  ⟨0x50010044, [(4, 256)], 0x0, 0x0, 0x0, 0x0, 0xFFFFFFFF, 0x0, 0x0, 0x0⟩,
  ⟨0x50010048, [(4, 256)], 0x0, 0x0, 0x0, 0x0, 0xFFFFFFFF, 0x0, 0x0, 0x0⟩,
  ⟨0x5001004C, [(4, 256)], 0x0, 0x0, 0x0, 0x0, 0xFFFFFFFF, 0x0, 0x0, 0x0⟩,
  ⟨0x50010050, [(4, 256)], 0x0, 0x0, 0x0, 0x0, 0xFFFFFFFF, 0x0, 0x0, 0x0⟩,
  ⟨0x50020020, [(32, 64)], 0x0, 0x0, 0x0, 0x0, 0xFFFFFFFF, 0x0, 0x0, 0x0⟩,
  ⟨0x5003000C, [(4, 256)], 0x0, 0x0, 0x0, 0x0, 0x0, 0x0, 0x0, 0x0⟩,
  ⟨0x50030020, [(4, 256)], 0x0, 0x0, 0x0, 0x0, 0xFFFFFFFF, 0x0, 0x0, 0x0⟩,
  ⟨0x50030024, [(4, 256)], 0x0, 0x0, 0x0, 0x0, 0xFFFFFFFF, 0x0, 0x0, 0x0⟩,
  ⟨0x50030028, [(4, 256)], 0x0, 0x0, 0x0, 0x0, 0xFFFFFFFF, 0x0, 0x0, 0x0⟩,
  ⟨0x50040000, [], 0x0, 0x0, 0x3, 0x0, 0x0, 0x0, 0x0, 0x0⟩,
  ⟨0x50040004, [], 0x0, 0x0, 0x0, 0x0, 0x0, 0x0, 0x0, 0x0⟩,
  ⟨0x50041000, [(24, 256)], 0x0, 0x0, 0xFFE003FF, 0x0, 0x0, 0x0, 0x0, 0x0⟩,
  ⟨0x50041004, [(24, 256)], 0x32000190, 0x32000190, 0x3FFFFFFF, 0x0, 0x0, 0x0, 0x0, 0x0⟩,
  ⟨0x50041008, [(24, 256)], 0x140010, 0x140010, 0x7F007F, 0x0, 0x0, 0x0, 0x0, 0x0⟩,
  ⟨0x5004100C, [(24, 256)], 0xFA0, 0xFA0, 0x0, 0x0, 0x0, 0x0, 0xFFFF, 0x0⟩,
  ⟨0x50041010, [(24, 256)], 0x6, 0x6, 0x3F, 0x0, 0x0, 0x0, 0x0, 0x0⟩,
  ⟨0x50041014, [(24, 256)], 0xFA0753, 0xFA0753, 0xFFFFFFFF, 0x0, 0x0, 0x0, 0x0, 0x0⟩,
  ⟨0x50041018, [(24, 256)], 0x0, 0x0, 0xFFFF, 0x0, 0x0, 0x0, 0x0, 0x0⟩,
  ⟨0x5004101C, [(24, 256)], 0xFA, 0xFA, 0xFFFF, 0x0, 0x0, 0x0, 0x0, 0x0⟩,
  ⟨0x50041020, [(24, 256)], 0x0, 0x0, 0x0, 0x0, 0x0, 0x0, 0x0, 0x0⟩,
  ⟨0x50041024, [(24, 256)], 0x0, 0x0, 0x0, 0x3D, 0x0, 0x0, 0x0, 0x0⟩,
  ⟨0x50041028, [(24, 256)], 0x0, 0x0, 0x0, 0x0, 0x0, 0x0, 0x0, 0x0⟩,
  ⟨0x50040010, [(8, 4)], 0x0, 0x0, 0x80007FFF, 0x0, 0x0, 0x0, 0x0, 0x0⟩,
  ⟨0x50041040, [(24, 256)], 0x0, 0x0, 0x0, 0x0, 0xFFFFFFFF, 0x0, 0x0, 0x0⟩,
  ⟨0x50041044, [(24, 256)], 0x0, 0x0, 0x0, 0x0, 0xFFFFFFFF, 0x0, 0x0, 0x0⟩,
  ⟨0x50041048, [(24, 256)], 0x0, 0x0, 0x0, 0x0, 0xFFFFFFFF, 0x0, 0x0, 0x0⟩,
  ⟨0x5004104C, [(24, 256)], 0x0, 0x0, 0x0, 0x0, 0xFFFFFFFF, 0x0, 0x0, 0x0⟩,
  ⟨0x50041050, [(24, 256)], 0x0, 0x0, 0x0, 0x0, 0xFFFFFFFF, 0x0, 0x0, 0x0⟩,
  ⟨0x50041054, [(24, 256)], 0x0, 0x0, 0x0, 0x0, 0xFFFFFFFF, 0x0, 0x0, 0x0⟩,
  ⟨0x50041058, [(24, 256)], 0x0, 0x0, 0x0, 0x0, 0xFFFFFFFF, 0x0, 0x0, 0x0⟩,
  ⟨0x50070000, [], 0x0, 0x0, 0x13F, 0x0, 0x0, 0x0, 0x0, 0x0⟩,
  ⟨0x50070004, [], 0x0, 0x0, 0x0, 0x0, 0x0, 0x0, 0x0, 0x0⟩,
  ⟨0x50070008, [], 0x781518, 0x781518, 0xFFFFFFF, 0x0, 0x0, 0x0, 0x0, 0x0⟩]

/-- Access rows, part 4. -/
def regRows4 : List RegRow := [
  ⟨0x50070010, [], 0x32281414, 0x32281414, 0xFFFFFFFF, 0x0, 0x0, 0x0, 0x0, 0x0⟩,
  ⟨0x50070100, [], 0x3C00, 0x3C00, 0xFF00, 0x200000, 0x0, 0x0, 0x0, 0x0⟩,
  ⟨0x50070040, [(24, 4)], 0x0, 0x0, 0x8FFFFFFF, 0x0, 0x0, 0x0, 0x0, 0x0⟩,
  ⟨0x500700A0, [(24, 4)], 0x0, 0x0, 0x0, 0x0, 0x0, 0x0, 0x0, 0x0⟩,
  ⟨0x5007000C, [], 0x0, 0x0, 0xFFF, 0x0, 0x0, 0x0, 0x0, 0x0⟩,
  ⟨0x50070014, [], 0x0, 0x0, 0xFFFFFF, 0x0, 0x0, 0x0, 0x0, 0x0⟩,
  ⟨0x50070018, [], 0x0, 0x0, 0x0, 0x0, 0x0, 0x0, 0x0, 0x0⟩,
  ⟨0x5007001C, [], 0x0, 0x0, 0x0, 0x0, 0x0, 0x0, 0x0, 0x0⟩,
  ⟨0x50070020, [], 0x0, 0x0, 0x0, 0x0, 0x0, 0x0, 0x0, 0x0⟩,
  ⟨0x50070024, [], 0x1F, 0x1F, 0xFF, 0x0, 0x0, 0x0, 0x0, 0x0⟩,
  ⟨0x50070104, [], 0x0, 0x0, 0xFFFFFFFF, 0x0, 0x0, 0x0, 0x0, 0x0⟩,
  ⟨0x5007010C, [], 0x0, 0x0, 0x0, 0x0, 0x0, 0x0, 0x0, 0x0⟩,
  ⟨0x50070110, [], 0x0, 0x0, 0x0, 0x0, 0x0, 0x0, 0x0, 0x0⟩,
  ⟨0x50070120, [], 0x0, 0x0, 0x0, 0x0, 0x0, 0x0, 0x0, 0x0⟩,
  ⟨0x50070124, [], 0x0, 0x0, 0xFFFF, 0x0, 0x0, 0x0, 0x0, 0x0⟩,
  ⟨0x50070128, [(4, 4)], 0x0, 0x0, 0x0, 0x0, 0x0, 0x0, 0x0, 0x0⟩,
  ⟨0x50070140, [], 0x0, 0x0, 0x0, 0x0, 0xFFFFFFFF, 0x0, 0x0, 0x0⟩,
  ⟨0x50070144, [], 0x0, 0x0, 0x0, 0x0, 0xFFFFFFFF, 0x0, 0x0, 0x0⟩,
  ⟨0x50070148, [], 0x0, 0x0, 0x0, 0x0, 0xFFFFFFFF, 0x0, 0x0, 0x0⟩,
  ⟨0x5007014C, [], 0x0, 0x0, 0x0, 0x0, 0xFFFFFFFF, 0x0, 0x0, 0x0⟩,
  ⟨0x50070150, [], 0x0, 0x0, 0x0, 0x0, 0xFFFFFFFF, 0x0, 0x0, 0x0⟩,
  ⟨0x50070154, [], 0x0, 0x0, 0x0, 0x0, 0xFFFFFFFF, 0x0, 0x0, 0x0⟩,
  ⟨0x50070158, [], 0x0, 0x0, 0x0, 0x0, 0xFFFFFFFF, 0x0, 0x0, 0x0⟩,
  ⟨0x5007015C, [], 0x0, 0x0, 0x0, 0x0, 0xFFFFFFFF, 0x0, 0x0, 0x0⟩,
  ⟨0x40400000, [(3, 65536)], 0x20, 0x20, 0x3F, 0x0, 0x0, 0x0, 0x0, 0x0⟩,
  ⟨0x40400004, [(3, 65536)], 0x7, 0x7, 0xF, 0x0, 0x0, 0x0, 0x0, 0x0⟩,
  ⟨0x40400008, [(3, 65536)], 0x0, 0x0, 0x0, 0x4, 0x0, 0x0, 0x0, 0x0⟩,
  ⟨0x4040000C, [(3, 65536)], 0x0, 0x0, 0xFFFFFFFF, 0x0, 0x0, 0x0, 0x0, 0x0⟩,
  ⟨0x40400010, [(3, 65536)], 0x0, 0x0, 0xFFFF, 0x0, 0x0, 0x0, 0x0, 0x0⟩,
  ⟨0x40400014, [(3, 65536)], 0x5F2, 0x5F2, 0x3FFF, 0x0, 0x0, 0x0, 0x0, 0x0⟩,
  ⟨0x40400018, [(3, 65536)], 0x10, 0x10, 0x1F, 0x0, 0x0, 0x0, 0x0, 0x0⟩,
  ⟨0x4040001C, [(3, 65536)], 0x0, 0x0, 0x7FFCFFFF, 0x0, 0x0, 0x0, 0x0, 0x0⟩,
  ⟨0x40400400, [(3, 65536), (128, 8)], 0x0, 0x0, 0xFFFFFFFF, 0x0, 0x0, 0x0, 0x0, 0x0⟩,
  ⟨0x40400404, [(3, 65536), (128, 8)], 0x0, 0x0, 0x8000FFFF, 0x0, 0x0, 0x0, 0x0, 0x0⟩,
  ⟨0x40400800, [(3, 65536), (32, 16)], 0x0, 0x0, 0xFFFFFFFF, 0x0, 0x0, 0x0, 0x0, 0x0⟩,
  ⟨0x40400804, [(3, 65536), (32, 16)], 0x0, 0x0, 0xC000FFFF, 0x0, 0x0, 0x0, 0x0, 0x0⟩,
  ⟨0x40400808, [(3, 65536), (32, 16)], 0x0, 0x0, 0xF, 0x0, 0x0, 0x0, 0x0, 0x0⟩,
  ⟨0x40401000, [(3, 65536), (16, 32)], 0x0, 0x0, 0xFFFFFFFF, 0x0, 0x0, 0x0, 0x0, 0x0⟩,
  ⟨0x40401004, [(3, 65536), (16, 32)], 0x0, 0x0, 0xF0001FFF, 0x0, 0x0, 0x0, 0x0, 0x0⟩,
  ⟨0x40401008, [(3, 65536), (16, 32)], 0x20, 0x20, 0xFF, 0x0, 0x0, 0x0, 0x0, 0x0⟩]

/-- Access rows, part 5. -/
def regRows5 : List RegRow := [
  ⟨0x4040100C, [(3, 65536), (16, 32)], 0x0, 0x0, 0x0, 0x0, 0x0, 0x0, 0x0, 0x0⟩,
  ⟨0x40401010, [(3, 65536), (16, 32)], 0x0, 0x0, 0x0, 0x0, 0xFFFFFFFF, 0x0, 0x0, 0x0⟩,
  ⟨0x40401014, [(3, 65536), (16, 32)], 0x0, 0x0, 0x0, 0x0, 0xFFFFFFFF, 0x0, 0x0, 0x0⟩,
  ⟨0x40401400, [(3, 65536), (8, 32)], 0x0, 0x0, 0xFFFFFFFF, 0x0, 0x0, 0x0, 0x0, 0x0⟩,
  ⟨0x40401404, [(3, 65536), (8, 32)], 0x0, 0x0, 0xE0001FFF, 0x0, 0x0, 0x0, 0x0, 0x0⟩,
  ⟨0x40401408, [(3, 65536), (8, 32)], 0x0, 0x0, 0xFFF, 0x0, 0x0, 0x0, 0x0, 0x0⟩,
  ⟨0x4040140C, [(3, 65536), (8, 32)], 0x0, 0x0, 0x0, 0x0, 0x0, 0x0, 0x0, 0x0⟩,
  ⟨0x40400200, [(3, 65536)], 0x0, 0x0, 0x0, 0x0, 0xFFFFFFFF, 0x0, 0x0, 0x0⟩,
  ⟨0x40400204, [(3, 65536)], 0x0, 0x0, 0x0, 0x0, 0xFFFFFFFF, 0x0, 0x0, 0x0⟩,
  ⟨0x40400208, [(3, 65536)], 0x0, 0x0, 0x0, 0x0, 0xFFFFFFFF, 0x0, 0x0, 0x0⟩,
  ⟨0x4040020C, [(3, 65536)], 0x0, 0x0, 0x0, 0x0, 0xFFFFFFFF, 0x0, 0x0, 0x0⟩,
  ⟨0x40400210, [(3, 65536)], 0x0, 0x0, 0x0, 0x0, 0xFFFFFFFF, 0x0, 0x0, 0x0⟩,
  ⟨0x40400214, [(3, 65536)], 0x0, 0x0, 0x0, 0x0, 0xFFFFFFFF, 0x0, 0x0, 0x0⟩,
  ⟨0x40400218, [(3, 65536)], 0x0, 0x0, 0x0, 0x0, 0xFFFFFFFF, 0x0, 0x0, 0x0⟩,
  ⟨0x4040021C, [(3, 65536)], 0x0, 0x0, 0x0, 0x0, 0xFFFFFFFF, 0x0, 0x0, 0x0⟩,
  ⟨0x40400220, [(3, 65536)], 0x0, 0x0, 0x0, 0x0, 0xFFFFFFFF, 0x0, 0x0, 0x0⟩,
  ⟨0x40400224, [(3, 65536)], 0x0, 0x0, 0x0, 0x0, 0xFFFFFFFF, 0x0, 0x0, 0x0⟩,
  ⟨0x40400228, [(3, 65536)], 0x0, 0x0, 0x0, 0x0, 0xFFFFFFFF, 0x0, 0x0, 0x0⟩,
  ⟨0x4040022C, [(3, 65536)], 0x0, 0x0, 0x0, 0x0, 0xFFFFFFFF, 0x0, 0x0, 0x0⟩,
  ⟨0x40400230, [(3, 65536)], 0x0, 0x0, 0x0, 0x0, 0xFFFFFFFF, 0x0, 0x0, 0x0⟩,
  ⟨0x40400234, [(3, 65536)], 0x0, 0x0, 0x0, 0x0, 0xFFFFFFFF, 0x0, 0x0, 0x0⟩,
  ⟨0x40400238, [(3, 65536)], 0x0, 0x0, 0x0, 0x0, 0xFFFFFFFF, 0x0, 0x0, 0x0⟩,
  ⟨0x4040023C, [(3, 65536)], 0x0, 0x0, 0x0, 0x0, 0xFFFFFFFF, 0x0, 0x0, 0x0⟩,
  ⟨0x40400240, [(3, 65536)], 0x0, 0x0, 0x0, 0x0, 0xFFFFFFFF, 0x0, 0x0, 0x0⟩,
  ⟨0x40400244, [(3, 65536)], 0x0, 0x0, 0x0, 0x0, 0xFFFFFFFF, 0x0, 0x0, 0x0⟩,
  ⟨0x40400260, [(3, 65536)], 0x0, 0x0, 0x0, 0x0, 0xFFFFFFFF, 0x0, 0x0, 0x0⟩,
  ⟨0x40400264, [(3, 65536)], 0x0, 0x0, 0x0, 0x0, 0xFFFFFFFF, 0x0, 0x0, 0x0⟩,
  ⟨0x40400268, [(3, 65536)], 0x0, 0x0, 0x0, 0x0, 0xFFFFFFFF, 0x0, 0x0, 0x0⟩,
  ⟨0x4040026C, [(3, 65536)], 0x0, 0x0, 0x0, 0x0, 0xFFFFFFFF, 0x0, 0x0, 0x0⟩,
  ⟨0x40400270, [(3, 65536)], 0x0, 0x0, 0x0, 0x0, 0xFFFFFFFF, 0x0, 0x0, 0x0⟩,
  ⟨0x40400274, [(3, 65536)], 0x0, 0x0, 0x0, 0x0, 0xFFFFFFFF, 0x0, 0x0, 0x0⟩,
  ⟨0x40400278, [(3, 65536)], 0x0, 0x0, 0x0, 0x0, 0xFFFFFFFF, 0x0, 0x0, 0x0⟩,
  ⟨0x40400280, [(3, 65536)], 0x0, 0x0, 0x0, 0x0, 0xFFFFFFFF, 0x0, 0x0, 0x0⟩,
  ⟨0x40400284, [(3, 65536)], 0x0, 0x0, 0x0, 0x0, 0xFFFFFFFF, 0x0, 0x0, 0x0⟩,
  ⟨0x40400288, [(3, 65536)], 0x0, 0x0, 0x0, 0x0, 0xFFFFFFFF, 0x0, 0x0, 0x0⟩,
  ⟨0x40300000, [], 0x0, 0x0, 0x17, 0x0, 0x0, 0x0, 0x0, 0x0⟩,
  ⟨0x40300004, [], 0x0, 0x0, 0x0, 0x38, 0x0, 0x0, 0x0, 0x0⟩,
  ⟨0x40480000, [], 0x0, 0x0, 0x1, 0x0, 0x0, 0x0, 0x0, 0x0⟩,
  ⟨0x40300010, [], 0x0, 0x0, 0x0, 0x0, 0x0, 0x0, 0x0, 0x0⟩,
  ⟨0x40300014, [], 0x0, 0x0, 0x0, 0x0, 0x0, 0x0, 0x0, 0x0⟩]

/-- Access rows, part 6. -/
def regRows6 : List RegRow := [
  ⟨0x40300018, [], 0x0, 0x0, 0x0, 0x0, 0x0, 0x0, 0x0, 0x0⟩,
  ⟨0x4030001C, [], 0x0, 0x0, 0x0, 0x0, 0x0, 0x0, 0x0, 0x0⟩,
  ⟨0x40300020, [], 0x0, 0x0, 0xFFFFFFFF, 0x0, 0x0, 0x0, 0x0, 0x0⟩,
  ⟨0x40300024, [], 0x0, 0x0, 0xFFFFFFFF, 0x0, 0x0, 0x0, 0x0, 0x0⟩,
  ⟨0x40300028, [], 0x0, 0x0, 0x0, 0x0, 0x0, 0x0, 0x0, 0x0⟩,
  ⟨0x4030002C, [], 0x0, 0x0, 0x0, 0x0, 0x0, 0x0, 0x0, 0x0⟩,
  ⟨0x40300030, [], 0x0, 0x0, 0x0, 0x0, 0x0, 0x0, 0x0, 0x0⟩,
  ⟨0x40300034, [], 0x0, 0x0, 0x0, 0x0, 0x0, 0x0, 0x0, 0x0⟩,
  ⟨0x40300038, [], 0x0, 0x0, 0x0, 0x0, 0x0, 0x0, 0x0, 0x0⟩,
  ⟨0x4030003C, [], 0x0, 0x0, 0x0, 0x0, 0x0, 0x0, 0x0, 0x0⟩,
  ⟨0x40300040, [], 0x0, 0x0, 0x0, 0x0, 0x0, 0x0, 0x0, 0x0⟩,
  ⟨0x40300044, [], 0x0, 0x0, 0x0, 0x0, 0x0, 0x0, 0x0, 0x0⟩,
  ⟨0x40300050, [], 0x0, 0x0, 0x0, 0x0, 0x0, 0xFFFFFFFF, 0x0, 0x0⟩,
  ⟨0x40300054, [], 0x112E0000, 0x112E0000, 0xFFFFFFFF, 0x0, 0x0, 0x0, 0x0, 0x0⟩,
  ⟨0x40300058, [], 0x2260000, 0x2260000, 0xFFFFFFFF, 0x0, 0x0, 0x0, 0x0, 0x0⟩,
  ⟨0x40300060, [], 0x3E8, 0x3E8, 0xFFFFFFFF, 0x0, 0x0, 0x0, 0x0, 0x0⟩,
  ⟨0x40300064, [], 0x186A0, 0x186A0, 0xFFFFFFFF, 0x0, 0x0, 0x0, 0x0, 0x0⟩,
  ⟨0x40300070, [], 0x7A120, 0x7A120, 0x0, 0x0, 0x0, 0x0, 0x0, 0xFFFFFFFF⟩,
  ⟨0x40300180, [], 0x0, 0x0, 0x0, 0x0, 0x0, 0x0, 0x0, 0x0⟩,
  ⟨0x40300184, [], 0x0, 0x0, 0x0, 0x0, 0x0, 0x0, 0x0, 0x0⟩,
  ⟨0x40300188, [], 0x0, 0x0, 0x0, 0x0, 0x0, 0x0, 0x0, 0x0⟩,
  ⟨0x4030005C, [], 0xC80BB8, 0xC80BB8, 0x3FFFFFF, 0x0, 0x0, 0x0, 0x0, 0x0⟩,
  ⟨0x40300080, [(3, 8)], 0x0, 0x0, 0xFFFF, 0x0, 0x0, 0x0, 0x0, 0x0⟩,
  ⟨0x40300084, [(3, 8)], 0x0, 0x0, 0xFFFF, 0x0, 0x0, 0x0, 0x0, 0x0⟩,
  ⟨0x40300100, [(3, 32)], 0x0, 0x0, 0x0, 0x0, 0x0, 0x0, 0x0, 0x0⟩,
  ⟨0x40300104, [(3, 32)], 0x0, 0x0, 0x0, 0x0, 0x0, 0x0, 0x0, 0x0⟩,
  ⟨0x40300108, [(3, 32)], 0x0, 0x0, 0x0, 0x0, 0x0, 0x0, 0x0, 0x0⟩,
  ⟨0x403000C0, [(3, 4)], 0x0, 0x0, 0x0, 0x0, 0xFFFFFFFF, 0x0, 0x0, 0x0⟩,
  ⟨0x403000D0, [], 0x0, 0x0, 0x0, 0x0, 0xFFFFFFFF, 0x0, 0x0, 0x0⟩,
  ⟨0x403000D4, [], 0x0, 0x0, 0x0, 0x0, 0xFFFFFFFF, 0x0, 0x0, 0x0⟩,
  ⟨0x403000D8, [], 0x0, 0x0, 0x0, 0x0, 0xFFFFFFFF, 0x0, 0x0, 0x0⟩,
  ⟨0x40481000, [(128, 128)], 0x0, 0x0, 0xFE1FFF7F, 0x0, 0x0, 0x0, 0x0, 0x0⟩,
  ⟨0x40481004, [(128, 128)], 0x0, 0x0, 0xFFFFFFFF, 0x0, 0x0, 0x0, 0x0, 0x0⟩,
  ⟨0x40481008, [(128, 128)], 0x0, 0x0, 0xFFFFFFFF, 0x0, 0x0, 0x0, 0x0, 0x0⟩,
  ⟨0x4048100C, [(128, 128)], 0x0, 0x0, 0xFFFF, 0x0, 0x0, 0x0, 0x0, 0x0⟩,
  ⟨0x40481010, [(128, 128)], 0x0, 0x0, 0xFFFFFFFF, 0x0, 0x0, 0x0, 0x0, 0x0⟩,
  ⟨0x40481014, [(128, 128)], 0x0, 0x0, 0xFFFFFFFF, 0x0, 0x0, 0x0, 0x0, 0x0⟩,
  ⟨0x40481020, [(128, 128)], 0x0, 0x0, 0x0, 0x1, 0x0, 0x0, 0x0, 0x0⟩,
  ⟨0x40481040, [(128, 128), (8, 4)], 0x0, 0x0, 0x0, 0x0, 0xFFFFFFFF, 0x0, 0x0, 0x0⟩,
  ⟨0x40485000, [(64, 128)], 0x0, 0x0, 0xFF003F7F, 0x0, 0x0, 0x0, 0x0, 0x0⟩]

/-- Access rows, part 7. -/
def regRows7 : List RegRow := [
  ⟨0x40485004, [(64, 128)], 0x0, 0x0, 0xFFFFFFFF, 0x0, 0x0, 0x0, 0x0, 0x0⟩,
  ⟨0x40485008, [(64, 128)], 0x0, 0x0, 0xFFFFFFFF, 0x0, 0x0, 0x0, 0x0, 0x0⟩,
  ⟨0x4048500C, [(64, 128)], 0x0, 0x0, 0xFFFFFFFF, 0x0, 0x0, 0x0, 0x0, 0x0⟩,
  ⟨0x40485010, [(64, 128)], 0x0, 0x0, 0xFFFFFFFF, 0x0, 0x0, 0x0, 0x0, 0x0⟩,
  ⟨0x40485014, [(64, 128)], 0x4088, 0x4088, 0xFFFFFFFC, 0x0, 0x0, 0x0, 0x0, 0x0⟩,
  ⟨0x40485018, [(64, 128)], 0x0, 0x0, 0xFFFFFFFF, 0x0, 0x0, 0x0, 0x0, 0x0⟩,
  ⟨0x4048501C, [(64, 128)], 0x0, 0x0, 0xFFFF, 0x0, 0x0, 0x0, 0x0, 0x0⟩,
  ⟨0x40485020, [(64, 128)], 0x0, 0x0, 0x0, 0x0, 0x0, 0x0, 0x0, 0x0⟩,
  ⟨0x40485040, [(64, 128), (2, 4)], 0x0, 0x0, 0x0, 0x0, 0xFFFFFFFF, 0x0, 0x0, 0x0⟩,
  ⟨0x40488000, [(64, 256), (64, 4)], 0x0, 0x0, 0x0, 0x0, 0x0, 0x0, 0x800003FF, 0x0⟩,
  ⟨0x40480040, [], 0x0, 0x0, 0x0, 0x0, 0xFFFFFFFF, 0x0, 0x0, 0x0⟩,
  ⟨0x40480044, [], 0x0, 0x0, 0x0, 0x0, 0xFFFFFFFF, 0x0, 0x0, 0x0⟩,
  ⟨0x500A0000, [], 0x0, 0x0, 0x1, 0x0, 0x0, 0x0, 0x0, 0x0⟩,
  ⟨0x500A0004, [], 0x0, 0x0, 0x0, 0x0, 0x0, 0x0, 0x0, 0x0⟩,
  ⟨0x500A0010, [(4, 8)], 0x0, 0x0, 0xF0000FFF, 0x0, 0x0, 0x0, 0x0, 0x0⟩,
  ⟨0x500A0014, [(4, 8)], 0x0, 0x0, 0xFFFFFFFF, 0x0, 0x0, 0x0, 0x0, 0x0⟩,
  ⟨0x500A0100, [(6, 64)], 0x0, 0x0, 0x0, 0x0, 0xFFFFFFFF, 0x0, 0x0, 0x0⟩,
  ⟨0x500A0104, [(6, 64)], 0x0, 0x0, 0x0, 0x0, 0xFFFFFFFF, 0x0, 0x0, 0x0⟩,
  ⟨0x500A0108, [(6, 64)], 0x0, 0x0, 0x0, 0x0, 0xFFFFFFFF, 0x0, 0x0, 0x0⟩,
  ⟨0x500A010C, [(6, 64)], 0x0, 0x0, 0x0, 0x0, 0xFFFFFFFF, 0x0, 0x0, 0x0⟩,
  ⟨0x500A0110, [(6, 64)], 0x0, 0x0, 0x0, 0x0, 0xFFFFFFFF, 0x0, 0x0, 0x0⟩,
  ⟨0x500A0114, [(6, 64)], 0x0, 0x0, 0x0, 0x0, 0xFFFFFFFF, 0x0, 0x0, 0x0⟩,
  ⟨0x500A0118, [(6, 64)], 0x0, 0x0, 0x0, 0x0, 0xFFFFFFFF, 0x0, 0x0, 0x0⟩,
  ⟨0x500A011C, [(6, 64)], 0x0, 0x0, 0x0, 0x0, 0xFFFFFFFF, 0x0, 0x0, 0x0⟩,
  ⟨0x500A0120, [(6, 64)], 0x0, 0x0, 0x0, 0x0, 0xFFFFFFFF, 0x0, 0x0, 0x0⟩,
  ⟨0x40700800, [], 0x0, 0x0, 0x0, 0x0, 0x0, 0x7, 0x0, 0x0⟩,
  ⟨0x40700804, [], 0x78, 0x78, 0x0, 0x0, 0x0, 0x0, 0x0, 0x0⟩,
  ⟨0x40600000, [], 0x0, 0x0, 0x3, 0x0, 0x0, 0x0, 0x0, 0x0⟩,
  ⟨0x40600004, [], 0x0, 0x0, 0x0, 0x1000, 0x0, 0x0, 0x0, 0x0⟩,
  ⟨0x40700808, [], 0x0, 0x0, 0x0, 0x0, 0xFFFFFFFF, 0x0, 0x0, 0x0⟩,
  ⟨0x4070080C, [], 0x0, 0x0, 0x0, 0x0, 0xFFFFFFFF, 0x0, 0x0, 0x0⟩,
  ⟨0x40700820, [(3, 4)], 0x0, 0x0, 0x0, 0x0, 0xFFFFFFFF, 0x0, 0x0, 0x0⟩,
  ⟨0x4070082C, [], 0x0, 0x0, 0x0, 0x0, 0xFFFFFFFF, 0x0, 0x0, 0x0⟩,
  ⟨0x40600008, [], 0x0, 0x0, 0x0, 0x0, 0x0, 0x0, 0x0, 0x0⟩,
  ⟨0x40600010, [], 0x0, 0x0, 0x0, 0x0, 0x0, 0x0, 0x0, 0x0⟩,
  ⟨0x40600014, [], 0x0, 0x0, 0x0, 0x0, 0x0, 0x0, 0x0, 0x0⟩,
  ⟨0x40600040, [], 0x0, 0x0, 0x0, 0x0, 0xFFFFFFFF, 0x0, 0x0, 0x0⟩,
  ⟨0x40600044, [], 0x0, 0x0, 0x0, 0x0, 0xFFFFFFFF, 0x0, 0x0, 0x0⟩,
  ⟨0x40600048, [], 0x0, 0x0, 0x0, 0x0, 0xFFFFFFFF, 0x0, 0x0, 0x0⟩,
  ⟨0x4060004C, [], 0x0, 0x0, 0x0, 0x0, 0xFFFFFFFF, 0x0, 0x0, 0x0⟩]

/-- Access rows, part 8. -/
def regRows8 : List RegRow := [
  ⟨0x40600050, [], 0x0, 0x0, 0x0, 0x0, 0xFFFFFFFF, 0x0, 0x0, 0x0⟩,
  ⟨0x40600054, [], 0x0, 0x0, 0x0, 0x0, 0xFFFFFFFF, 0x0, 0x0, 0x0⟩,
  ⟨0x40700000, [], 0x0, 0x0, 0x2, 0x0, 0x0, 0x0, 0x0, 0x1⟩,
  ⟨0x40700100, [], 0x0, 0x0, 0x0, 0x0, 0x0, 0x0, 0x0, 0x0⟩,
  ⟨0x40700104, [], 0x0, 0x0, 0x0, 0x0, 0xFFFC0000, 0x0, 0x0, 0x0⟩,
  ⟨0x40500000, [], 0x0, 0x0, 0x5, 0x0, 0x0, 0x2, 0x0, 0x0⟩,
  ⟨0x40500004, [], 0x1403, 0x1403, 0x0, 0x0, 0x0, 0x0, 0x0, 0xFE03⟩,
  ⟨0x40500008, [], 0x0, 0x0, 0x0, 0x0, 0x0, 0x0, 0x0, 0x0⟩,
  ⟨0x4050000C, [], 0x0, 0x0, 0xF, 0x0, 0x0, 0x0, 0x0, 0x0⟩,
  ⟨0x40500010, [], 0x1040, 0x1040, 0xFFFF, 0x0, 0x0, 0x0, 0x0, 0x0⟩,
  ⟨0x40500014, [], 0x0, 0x0, 0xFFFF, 0x0, 0x0, 0x0, 0x0, 0x0⟩,
  ⟨0x40700108, [], 0x0, 0x0, 0x0, 0x0, 0xFFFFFFFF, 0x0, 0x0, 0x0⟩,
  ⟨0x40700110, [], 0x7BF, 0x7BF, 0xFFF, 0x0, 0x0, 0x0, 0x0, 0x0⟩,
  ⟨0x40700114, [], 0x0, 0x0, 0x0, 0x0, 0xFFFFFFFF, 0x0, 0x0, 0x0⟩,
  ⟨0x40500040, [], 0x0, 0x0, 0x0, 0x0, 0xFFFFFFFF, 0x0, 0x0, 0x0⟩,
  ⟨0x40500044, [], 0x0, 0x0, 0x0, 0x0, 0xFFFFFFFF, 0x0, 0x0, 0x0⟩,
  ⟨0x40500048, [], 0x0, 0x0, 0x0, 0x0, 0xFFFFFFFF, 0x0, 0x0, 0x0⟩,
  ⟨0x4050004C, [], 0x0, 0x0, 0x0, 0x0, 0xFFFFFFFF, 0x0, 0x0, 0x0⟩,
  ⟨0x40500050, [], 0x0, 0x0, 0x0, 0x0, 0xFFFFFFFF, 0x0, 0x0, 0x0⟩,
  ⟨0x40500054, [], 0x0, 0x0, 0x0, 0x0, 0xFFFFFFFF, 0x0, 0x0, 0x0⟩,
  ⟨0x40500058, [], 0x0, 0x0, 0x0, 0x0, 0xFFFFFFFF, 0x0, 0x0, 0x0⟩,
  ⟨0x4050005C, [], 0x0, 0x0, 0x0, 0x0, 0xFFFFFFFF, 0x0, 0x0, 0x0⟩,
  ⟨0x50050000, [], 0x0, 0x0, 0x300, 0x1, 0x0, 0x2, 0x0, 0x0⟩,
  ⟨0x50050004, [], 0x0, 0x0, 0x0, 0x803F, 0x0, 0x0, 0x0, 0x0⟩,
  ⟨0x50050008, [], 0x0, 0x0, 0x0, 0x0, 0x0, 0x0, 0x0, 0x0⟩,
  ⟨0x50050010, [], 0x200, 0x200, 0xFFFF, 0x0, 0x0, 0x0, 0x0, 0x0⟩,
  ⟨0x50050014, [], 0x0, 0x0, 0x0, 0x0, 0x0, 0x0, 0x0, 0x0⟩,
  ⟨0x50050020, [], 0x7FFFFF, 0x7FFFFF, 0x7FFFFF, 0x0, 0x0, 0x0, 0x0, 0x0⟩,
  ⟨0x50050024, [], 0x74F210, 0x74F210, 0x7FFFFF, 0x0, 0x0, 0x0, 0x0, 0x0⟩,
  ⟨0x50050028, [], 0x0, 0x0, 0x7FFFFF, 0x0, 0x0, 0x0, 0x0, 0x0⟩,
  ⟨0x5005002C, [], 0x0, 0x0, 0xFFFFFFFF, 0x0, 0x0, 0x0, 0x0, 0x0⟩,
  ⟨0x50050030, [], 0x0, 0x0, 0x0, 0x7FFFFF, 0x0, 0x0, 0x0, 0x0⟩,
  ⟨0x50050034, [], 0x0, 0x0, 0x0, 0x7FFFFF, 0x0, 0x0, 0x0, 0x0⟩,
  ⟨0x50050038, [], 0x0, 0x0, 0x0, 0x0, 0x0, 0x0, 0x0, 0x0⟩,
  ⟨0x50050040, [], 0x0, 0x0, 0x3F, 0x0, 0x0, 0x0, 0x0, 0x0⟩,
  ⟨0x50050044, [], 0x0, 0x0, 0xFFFFFFFF, 0x0, 0x0, 0x0, 0x0, 0x0⟩,
  ⟨0x50050048, [], 0x0, 0x0, 0xFFFFFFFF, 0x0, 0x0, 0x0, 0x0, 0x0⟩,
  ⟨0x5005004C, [], 0x0, 0x0, 0x0, 0x7F, 0x0, 0x0, 0x0, 0x0⟩,
  ⟨0x50050060, [], 0x0, 0x0, 0x0, 0x0, 0xFFFFFFFF, 0x0, 0x0, 0x0⟩,
  ⟨0x50050064, [], 0x0, 0x0, 0x0, 0x0, 0xFFFFFFFF, 0x0, 0x0, 0x0⟩]

/-- Access rows, part 9. -/
def regRows9 : List RegRow := [
  ⟨0x50050068, [], 0x0, 0x0, 0x0, 0x0, 0xFFFFFFFF, 0x0, 0x0, 0x0⟩,
  ⟨0x5005006C, [], 0x0, 0x0, 0x0, 0x0, 0xFFFFFFFF, 0x0, 0x0, 0x0⟩,
  ⟨0x50060000, [], 0x0, 0x0, 0x3, 0x0, 0x0, 0x0, 0x0, 0x0⟩,
  ⟨0x50060004, [], 0x0, 0x0, 0x0, 0x400, 0x0, 0x0, 0x0, 0x0⟩,
  ⟨0x50060008, [], 0x1194, 0x1194, 0xFFFF, 0x0, 0x0, 0x0, 0x0, 0x0⟩,
  ⟨0x5006000C, [], 0x10CC, 0x10CC, 0xFFFF, 0x0, 0x0, 0x0, 0x0, 0x0⟩,
  ⟨0x50060010, [], 0x1004, 0x1004, 0xFFFF, 0x0, 0x0, 0x0, 0x0, 0x0⟩,
  ⟨0x50060014, [], 0x64, 0x64, 0xFFFF, 0x0, 0x0, 0x0, 0x0, 0x0⟩,
  ⟨0x50060018, [], 0x7D0, 0x7D0, 0xFFFF, 0x0, 0x0, 0x0, 0x0, 0x0⟩,
  ⟨0x5006001C, [], 0x7D0, 0x7D0, 0xFFFF, 0x0, 0x0, 0x0, 0x0, 0x0⟩,
  ⟨0x50060020, [], 0x0, 0x0, 0x0, 0x0, 0x0, 0x0, 0x0, 0x0⟩,
  ⟨0x50060024, [], 0x0, 0x0, 0x0, 0x0, 0x0, 0x0, 0x0, 0x0⟩,
  ⟨0x50060028, [], 0xC0, 0xC0, 0xFF, 0x0, 0x0, 0x0, 0x0, 0x0⟩,
  ⟨0x5006002C, [], 0x2F8, 0x2F8, 0x3FF, 0x0, 0x0, 0x0, 0x0, 0x0⟩,
  ⟨0x50060030, [], 0x0, 0x0, 0x0, 0x0, 0x0, 0x0, 0x0, 0x0⟩,
  ⟨0x50060034, [], 0x0, 0x0, 0x0, 0x0, 0x0, 0x0, 0x0, 0x0⟩,
  ⟨0x50060040, [], 0x0, 0x0, 0x0, 0x0, 0xFFFFFFFF, 0x0, 0x0, 0x0⟩,
  ⟨0x50060044, [], 0x0, 0x0, 0x0, 0x0, 0xFFFFFFFF, 0x0, 0x0, 0x0⟩,
  ⟨0x50060048, [], 0x0, 0x0, 0x0, 0x0, 0xFFFFFFFF, 0x0, 0x0, 0x0⟩,
  ⟨0x40700004, [], 0x0, 0x0, 0x0, 0x0, 0x0, 0x0, 0x0, 0x0⟩,
  ⟨0x40700008, [], 0x0, 0x0, 0x0, 0x0, 0x0, 0x1, 0x0, 0x0⟩,
  ⟨0x50080004, [], 0x0, 0x0, 0x0, 0x0, 0x0, 0x0, 0x0, 0x0⟩,
  ⟨0x50080000, [], 0x0, 0x0, 0x0, 0x0, 0x0, 0x1, 0x0, 0x0⟩,
  ⟨0x50080010, [], 0x0, 0x0, 0x0, 0x0, 0x0, 0x0, 0x0, 0x0⟩,
  ⟨0x50080014, [], 0x0, 0x0, 0x0, 0x0, 0x0, 0x0, 0x0, 0x0⟩,
  ⟨0x50080018, [], 0x0, 0x0, 0x0, 0x0, 0x0, 0x0, 0x0, 0x0⟩,
  ⟨0x5008001C, [], 0x0, 0x0, 0x0, 0x0, 0x0, 0x0, 0x0, 0x0⟩,
  ⟨0x50080020, [], 0x0, 0x0, 0x0, 0x0, 0x0, 0x0, 0x0, 0x0⟩,
  ⟨0x50080040, [(8, 4)], 0x0, 0x0, 0x0, 0x0, 0x0, 0x0, 0x0, 0xFFFFFFFF⟩,
  ⟨0x50080080, [], 0x0, 0x0, 0x0, 0x0, 0x0, 0x0, 0x0, 0x0⟩,
  ⟨0x50080100, [], 0x0, 0x0, 0x0, 0x0, 0xFFFFFFFF, 0x0, 0x0, 0x0⟩,
  ⟨0x50080104, [], 0x0, 0x0, 0x0, 0x0, 0xFFFFFFFF, 0x0, 0x0, 0x0⟩]

/-- Every access row. -/
def regRows : List RegRow := regRows0 ++ regRows1 ++ regRows2 ++ regRows3 ++ regRows4 ++ regRows5 ++ regRows6 ++ regRows7 ++ regRows8 ++ regRows9

/-- Is an offset one of an array with the given dimensions, outermost first? -/
def dimsCover : List (Nat × Nat) → Nat → Bool
  | [], off => off = 0
  | (n, st) :: rest, off => off / st < n && dimsCover rest (off % st)

/-- Is an address one of a row's registers? -/
def RegRow.covers (r : RegRow) (a : Nat) : Bool := r.base ≤ a && dimsCover r.dims (a - r.base)

/-- The access row of an address. -/
def rowOf (a : Nat) : Option RegRow := regRows.find? (fun r => r.covers a)

end Sys2Proof.Machine
end

