-- ==== Sys2Proof/Machine/State.lean ====
section
/-! DEFINITION. The state of the block as plain data, and the state after reset. Registers are two sparse files (`regs`, the
value last written; `live`, the value in force for RWS fields), each cell holding the difference (exclusive or) between
the register and its reset word, so that reset is the empty file. Everything else is named state. -/

namespace Sys2Proof.Machine

open Sys2Proof

/-! ### Time (13_time_and_streams.md) -/

/-- One entry of a transmit time-stamp queue (R255). -/
structure TxStamp where
  raw   : Nat
  tag   : Nat
  queue : Nat
  deriving DecidableEq, Repr

/-- The time unit: RAW, OFS, ANC, RATE, I (R250, R251, R257), the block pacing (R48, R261) and the 1PPS output. -/
structure Tm where
  /-- RAW, 64 bits, 2 ns (R250). -/
  raw : Nat
  /-- OFS, 64 bits (R251). -/
  ofs : Nat
  /-- ANC, 64 bits (R251). -/
  anc : Nat
  /-- RATE, signed, units of 2^-40 (R251). -/
  rate : Int
  /-- The integrator I of the servo (R257). -/
  servoI : Int
  /-- Good offsets in a row (R257). -/
  servoGood : Nat
  /-- The last offset written to TSU_SERVO_IN, and its instant on RAW. -/
  lastTheta : Int
  lastOffsetRaw : Nat
  /-- BLOCK_COUNT (R49). -/
  blockCount : Nat
  /-- Has a boundary been signalled since reset (R261)? -/
  started : Bool
  /-- C at the last boundary. -/
  blockStart : Nat
  /-- The block that first lock begins, until it has begun (R261). -/
  lockBlock : Option Nat
  /-- The first block after lock, or 0 (R261, R416). -/
  firstLocked : Nat
  /-- Level of the 1PPS output (R260). -/
  ppsHigh : Bool
  /-- The three transmit time-stamp queues (R255), oldest first. -/
  txq : List (List TxStamp)
  deriving DecidableEq, Repr

/-! ### Objects, tables and tap lists (02_objects_and_pastures.md) -/

/-- One tap-list entry (R41). `prevDelay` is the previous DELAY the tap port delivers with it (R57). -/
structure Tap where
  output    : Nat
  enter     : Bool
  leave     : Bool
  jump      : Bool
  xfade     : Bool
  object    : Nat
  delay     : Nat
  delayInc  : Int
  gain      : Nat
  gainInc   : Int
  prevDelay : Nat
  deriving DecidableEq, Repr

/-- A route change granted in a tap list (R161): the object, its record before, the change as it waited. -/
structure Grant where
  object  : Nat
  old     : ObjRec
  pending : Nat × ObjRec
  deriving DecidableEq, Repr

/-- The tap list of one block, and what its making counted and granted (R38, R39, R42, R161). -/
structure TapList where
  blk      : Nat
  taps     : List Tap
  complete : Bool
  deferred : Nat
  ranges   : Nat
  jumps    : Nat
  budget   : Bool
  grants   : List Grant
  deriving DecidableEq, Repr

/-- State of the last build of the staged bank (R43, R45, R304), as ROUTE_QUERY reports it. -/
inductive BuildState where
  | none | running | verified | swapped | check | abandoned | limit
  deriving DecidableEq, Repr

/-- The build record (R43, R45): state, cells staged, block of the last swap, and the boundary a verified bank waits for. -/
structure Build where
  state    : BuildState
  cells    : Nat
  swapBlk  : Nat
  swapAt   : Option Nat
  deriving DecidableEq, Repr

/-- The Pasture engine: objects, the two banks and the staged definitions (keys: bank × 2^20 + word of R400; staged
definitions as words in the same order), and the tap lists. -/
structure Geo where
  objs    : Cells ObjSt
  banks   : Cells Nat
  staged  : Cells Nat
  build   : Build
  forming : Option TapList
  late    : Option TapList
  cur     : TapList
  speedAt : Nat
  speed   : Nat
  track   : Bool
  deriving DecidableEq, Repr

/-! ### The history store (03_render_cycle.md) -/

/-- A tile (R50): payload and header word. -/
structure Tile where
  payload : BitVec 576
  hdr     : BitVec 64
  deriving DecidableEq, Repr

/-- What the tile of a block in a ring is. -/
inductive Landed where
  | data | substitute
  deriving DecidableEq, Repr

/-- A history ring given to a source (R53): SOURCE code, first block landed since the latest event of R416, last block
landed and whether it was source data, a non-audio mark for the block being landed (R55), first block copied to the long
ring (R63). -/
structure RingSt where
  source    : Nat
  first     : Option Nat
  last      : Option (Nat × Landed)
  nonAudio  : Option Nat
  longFirst : Option Nat
  deriving DecidableEq, Repr

/-- The history store: the block whose landing window is open (R54) or, before the first window, the one it will be for; the first block whose tiles land since
the exit from SLEEP (R363), the first block rendered since then or since a takeover (R324), the block in stage B, rings, long rings (key ring × 4,104 + slot), copies
still to be made (ring, block), long reads outstanding (ring, block) and RAW at their issue, long tiles that failed for lateness, panic
sources of the render side and of the copies (R64, R342), and the block of the last scrub read (R66; block + 1). -/
structure Hst where
  win        : Nat
  winOpen    : Bool
  landFrom   : Nat
  renderFrom : Nat
  rendering  : Option Nat
  rings      : Cells RingSt
  longTiles  : Cells Tile
  copies     : List (Nat × Nat)
  longReads  : List (Nat × Nat)
  longAt     : Nat
  lateTiles  : List (Nat × Nat)
  renderPanic : Bool
  agePanic   : Bool
  copyPanic  : List (Nat × Nat)
  scrubAt    : Nat
  deriving DecidableEq, Repr

/-! ### Gains, buses and chains (08_mixing.md, 04_room_correction.md) -/

/-- On and off by block: press-to-talk gates (R158) and shed mutes (R373), newest first. -/
abbrev Gate := List (Nat × Bool)

/-- A biquad section (R72): x1, x2, y1, y2 and the residue. -/
structure BqSt where
  x1 : Int
  x2 : Int
  y1 : Int
  y2 : Int
  r  : Int
  deriving DecidableEq, Repr

/-- An output chain: the last blocks of u (R69), the HEADROOM each block was narrowed with (R419; block, H, newest
first), biquad states, the FIR input q newest first (R74), the limiter gain (R84), the last samples of v newest first, and
whether the next block released must fade in (R20), and the differences of the last samples of z from the exact convolution, newest first, in units of
2^−34 (R76). -/
structure ChainSt where
  us     : List (Nat × List Int)
  hs     : List (Nat × Nat)
  bq     : List BqSt
  q      : List Int
  g      : Nat
  v      : List Int
  fadeIn : Bool
  errs   : List Int
  deriving DecidableEq, Repr

/-- A FIR install (R81): output, the port whose reply it belongs to, the block F once the spectra are done, and whether it is complete: stage C of block s still reads it. -/
structure Install where
  output : Nat
  op     : Nat
  f      : Option Nat
  done   : Bool
  deriving DecidableEq, Repr

/-- A spectral record in DRAM (R78): the number of its free mantissas (log entry 8) and its trailer word. -/
structure SpecRec where
  est     : Nat
  trailer : BitVec 64
  deriving DecidableEq, Repr

/-- A term that the output frame of a block omits (R78): output, tail or middle, partition, frame. -/
structure Omit where
  output : Nat
  tail   : Bool
  part   : Nat
  frame  : Nat
  deriving DecidableEq, Repr

/-- The record of one identification slot (R87, R88): configuration, accepted frames, block of the last one, and the number
of the free estimate it stands at (log entry 8). -/
structure Ident where
  output   : Nat
  mic      : Nat
  bulk     : Nat
  hearing  : List Nat
  avg      : Nat
  xt       : Nat
  target   : List Int
  n        : Nat
  lastBlk  : Nat
  est      : Option Nat
  deriving DecidableEq, Repr

/-- A filter proposal (R89): identifier, output, and the gain of each band in 0.02 dB, from which its taps follow (log entry 8). -/
structure Proposal where
  id     : Nat
  output : Nat
  bands  : List Int
  deriving DecidableEq, Repr

/-- The mix fabric: gain paths (object o: o; bus b: 1,024 + b; input u of bus b: 2,048 + 64 b + u), gates, shed mutes (same keys), chains, delay rings (key output × 2,056 + slot) with the first block of
each (R70; block + 1), failed ring tiles, coefficient sets (key output × 2 + set) and staging sets, installs, released blocks (key
output × 4 + block mod 4), spectral records (key of `specKey`) and the terms omitted for one that failed, late frames, from which block the FIR runs its head alone (R83), the
blocks whose release is due, output blocks not released in time (R20; the spec names no register), blocks that every output fades in (true) or out (R23, R261), identification. -/
structure MixSt where
  gains     : Cells GainPath
  gates     : Cells Gate
  sheds     : Cells Gate
  chains    : Cells ChainSt
  odly      : Cells Tile
  odlyFirst : Cells Nat
  odlyFail  : List (Nat × Nat)
  firs      : Cells FirSet
  staging   : Cells FirSet
  installs  : List Install
  specs     : Cells SpecRec
  omits     : List Omit
  specLate  : List SpecLate
  released  : Cells (List Int)
  headOnly  : List (Nat × Bool)
  relQ      : List Nat
  relLate   : Nat
  fades     : List (Nat × Bool)
  idents    : Cells Ident
  proposals : List Proposal
  propNext  : Nat
  deriving DecidableEq, Repr

/-! ### Changes that wait for their block (R21, R154, R159, R164) -/

/-! ### The Ostler (07_ostler.md) -/

/-- A place of an ordered flow (R138–R143), from the entry of its descriptor to its retirement. -/
structure Place where
  seq        : Nat
  dispatched : Bool
  done       : Bool
  held       : List Desc
  deriving DecidableEq, Repr

/-- A flow: next SEQ, whether it is ordered, whether idle grants are withheld (R148), its places, oldest first. -/
structure Flow where
  nextSeq : Nat
  ordered : Bool
  blocked : Bool
  places  : List Place
  deriving DecidableEq, Repr

/-- The Ostler: ready queues (oldest first), flows, the queue last served at each priority (as queue + 1). -/
structure Ost where
  queues : Cells (List Desc)
  flows  : Cells Flow
  served : Cells Nat
  deriving DecidableEq, Repr

/-! ### The Drover cores (05_drover_cores.md) -/

/-- An address generator (R100): BASE 17, PTR 18 signed, INC 18 signed, LEN 17, MODE 2. -/
structure AddrGen where
  base : Nat
  ptr  : Int
  inc  : Int
  len  : Nat
  mode : Nat
  deriving DecidableEq, Repr

/-- A scale register (R104): E, S, M and the status bits RAISE and EOVF. -/
structure Scale where
  e : Nat
  s : Nat
  m : Nat
  raised : Bool
  eovf  : Bool
  deriving DecidableEq, Repr

/-- A result in flight (R93): what it writes when it lands. V lanes by physical register × 8 + lane (R106). -/
inductive Wr where
  | v (r : Nat) (x : Int)
  | k (r : Nat) (x : Int)
  | x (r : Nat) (w : Nat)
  | acc (r : Nat) (a : Int)
  | agBase (n w : Nat)
  | agPtr (n : Nat) (p : Int)
  | agInc (n : Nat) (p : Int)
  | agLen (n w : Nat)
  | agMode (n w : Nat)
  | scl (n : Nat) (v : Scale)
  | sclMove (n s m : Nat)
  | sclStep (n e s : Nat)
  | loopReg (i w : Nat)
  | loopView (i w : Nat)
  | flags (mask val : Nat)
  | sr (w : Nat)
  | ipc (w : Nat)
  | isr (w : Nat)
  deriving DecidableEq, Repr

/-- A result in flight and the cycle from which bundles read it. -/
structure Landing where
  due : Nat
  wr  : Wr
  deriving DecidableEq, Repr

/-- A hardware loop level as the sequencer uses it (R107). A level is active while its count is not 0. -/
structure LoopLvl where
  start  : Nat
  stop   : Nat
  count  : Nat
  rot    : Bool
  deriving DecidableEq, Repr

/-- Why a fault was raised (R113). -/
inductive Cause where
  | access | illegal | task
  deriving DecidableEq, Repr

/-- What a core waits for: a task, room for its GIVE, the completion of its DONE. -/
inductive Wait where
  | take | give | done
  deriving DecidableEq, Repr

/-- The task a core runs: flow, SEQ, whether its place has been handed on (R142), whether it came from an IDLE queue, RAW at
its dispatch. -/
structure Task where
  flow   : Nat
  seq    : Nat
  handed : Bool
  idle   : Bool
  since  : Nat
  deriving DecidableEq, Repr

/-- An outstanding port read (R112): the registers it writes, with their values. -/
structure PortRead where
  wrs : List Wr
  deriving DecidableEq, Repr

/-- The tap port of a core (R110): list named, next entry, entries left. -/
structure TapPort where
  blk  : Nat
  next : Nat
  left : Nat
  deriving DecidableEq, Repr

/-- A fault that waits for its two further bundles (R114): bundles still to issue, address of the faulting bundle,
cause, whether the handler was running (R116). -/
structure Trap where
  left  : Nat
  pc    : Nat
  cause : Cause
  nested : Bool
  deriving DecidableEq, Repr

/-- One Drover core (R92) and what its pipeline holds. `accNow` is an accumulator as a further MAC reads it (R93); `cycle`
counts bundles issued; `delay` is the branch whose delay bundles are being issued: how many are left, and the target if
taken; `stalled` holds the two slots of a bundle that waits for a port read; `stepping`: the bundle of a STEP that waits in
TAKE, GIVE or DONE, after which the core halts again; `heldState` is the STATE that its gate hides. -/
structure CoreSt where
  v       : Cells Int
  k       : Cells Int
  x       : Cells Nat
  acc     : Cells Int
  accNow  : Cells Int
  ags     : Cells AddrGen
  scls    : Cells Scale
  lview   : Cells Nat
  lvl0    : LoopLvl
  lvl1    : LoopLvl
  rrb     : Nat
  sr      : Nat
  pc      : Nat
  ipc     : Nat
  isr     : Nat
  cycle   : Nat
  flight  : List Landing
  delay   : Option (Nat × Option Nat)
  trap    : Option Trap
  dbgPend : Bool
  reads   : List PortRead
  stalled : Option (DrvOp × DrvOp)
  waiting : Option Wait
  task    : Option Task
  lastFlow : Option Nat
  tap     : Option TapPort
  stepReq : Bool
  stepping : Bool
  heldState : Nat
  deriving DecidableEq, Repr

/-! ### Audio ports (09_audio_ports.md) -/

/-- What a port tracks of alignment (R178, R179): consecutive checks within TOL, whether it slipped, the first block whose tiles it
delivers, frames since sample 0 of the last block (`none` before the first such frame; on an ASYNC port, since enable), the
number of the last frame's sample, C of the last capture, captures of an ASYNC port, and the time-stamp that waits while
TDM_BTS_HI and TDM_BTS_BLK are latched. -/
structure AlignSt where
  inTol   : Nat
  slipped : Bool
  deliver : Nat
  frames  : Option Nat
  idx     : Option Nat
  last    : Option Nat
  caps    : Nat
  latched : Option (Nat × Nat)
  deriving DecidableEq, Repr

/-- What an ASYNC port gives its ASRC channels (R185, R186): C at the start of the window in progress, frames since, windows that
ended and wait for their trackers, C of the last FS or preamble, and the last 1,024 frames, newest first, with their
non-audio marks. -/
structure FeedSt where
  start   : Option Nat
  count   : Nat
  windows : List (Nat × Nat)
  seen    : Option Nat
  frames  : List (List Int × Bool)
  deriving DecidableEq, Repr

/-- A TDM port (R173–R179): length of the last frame, equal frames in a row, malformed frames in a row, previous sample of each
channel, the block being captured with its frames, what SD_OUT carried from bit clock DELAY on in the last frame (`none`: high
impedance), the level a master gave FS in each bit clock, alignment, and what it feeds to ASRC channels. -/
structure TdmSt where
  len    : Nat
  run    : Nat
  bad    : Nat
  prev   : List Int
  cap    : Option (Nat × List (List Int))
  driven : List (Option Bool)
  fsOut  : List Bool
  align  : AlignSt
  feed   : FeedSt
  deriving DecidableEq, Repr

/-- An AES3 input (R180–R183): good frames in a row, missing preambles in a row, frames since the last Z, previous good samples,
the block being captured (sample pairs and non-audio marks), channel-status bits of the block so far, the last consumer
block, frames without a non-audio condition, alignment, and what it feeds to ASRC channels. -/
structure AesSt where
  good  : Nat
  miss  : Nat
  zAge  : Option Nat
  prevA : Int
  prevB : Int
  cap   : Option (Nat × List (Int × Int × Bool))
  bits  : List Bool
  cons  : Option (List Bool)
  clean : Nat
  align : AlignSt
  feed  : FeedSt
  deriving DecidableEq, Repr

/-- A frame of an AES3 output (R184): whether a Z preamble opens it, and time slots 4–31 of subframes A and B (bit 0: slot 4). -/
structure AesFrame where
  z : Bool
  a : Nat
  b : Nat
  deriving DecidableEq, Repr

/-- An ASRC channel's tracker (R186, R187): ρ in units of 2^−32 once a window ended, windows within the lock limit, the first block
whose tile it delivers. -/
structure AscSt where
  rho   : Option Nat
  good  : Nat
  since : Nat
  deriving DecidableEq, Repr

/-- The voice-domain signal of a source before its bridge (R168): the number of the next voice sample and the last 16, newest first. -/
structure VoxSt where
  next : Nat
  xs   : List Int
  deriving DecidableEq, Repr

/-- A microphone input (R189–R192): RAW of the first gain write that waits, of the first sample in the present band, and of
the first sample outside the pressed band since it was last in it, and the high-pass filter's last two inputs and outputs. -/
structure MicSt where
  gainAt   : Nat
  bandAt   : Option Nat
  outAt    : Option Nat
  hpf      : Int × Int × Int × Int
  deriving DecidableEq, Repr

/-! ### Power channels (10_power_stage.md) -/

/-- The gate commands of one leg over the present switching period (R194): the intervals from the period's start, in 1.25 ns, in which
its high and its low switch are driven, and the switch it holds at the period's end (`true` high; `none`: both low). -/
structure Leg where
  high : List (Nat × Nat)
  low  : List (Nat × Nat)
  last : Option Bool
  deriving DecidableEq, Repr

/-- A power channel beside its registers (R194–R209): tripped periods in a row, whether the present period is tripped, RAW of the
last trip, of the last start and completed start, of the stop the next probe counts from, of the end of the last restart
ramp; failed attempts; whether it stopped since its fallback began; whether a probe tripped; whether it has ever run; the
principal it serves; loss windows in a row; start or stop mode in use (HALF_DUTY); sag gain in units of 2^−30, whether it
limited in this block, the last modulator sample it followed; quantisation errors of the legs (newest first, 2^−32 of 1.25 ns);
the legs; whether the program enters with the one-block fade; stopped by a shedding stage; started for a line test; the ramp-up
and ramp-down of a pilot (RAW); a B-end disarmed by a stop (R207); RAW × 2^32 at the start of the present period and of the
next; whether no period has begun since the start; RAW at a stop, the fade (of 3,072) and the duty ramp it began from; whether
it starts again once stopped; RAW and commanded voltage (mV × 256) of recent periods of an A-end, newest first; RAW at the start
of a B-end's window and at the last DC mean. -/
structure PsSt where
  consec    : Nat
  tripped   : Bool
  tripAt    : Option Nat
  startAt   : Nat
  doneAt    : Nat
  stopAt    : Nat
  rampAt    : Option Nat
  fails     : List Nat
  stopped   : Bool
  probeTrip : Bool
  everRan   : Bool
  serves    : Option Nat
  losses    : Nat
  half      : Bool
  sag       : Nat
  limited   : Bool
  lastQ     : Nat
  errA      : Int × Int
  errB      : Int × Int
  legA      : Leg
  legB      : Leg
  mirrorIn  : Bool
  shed      : Bool
  forTest   : Bool
  pilot     : Option (Nat × Option Nat)
  disarmed  : Bool
  began     : Nat
  next      : Option Nat
  fresh     : Bool
  haltAt    : Nat
  haltFade  : Nat
  haltRamp  : Nat
  again     : Bool
  volts     : List (Nat × Int)
  winAt     : Nat
  dcAt      : Nat
  deriving DecidableEq, Repr

/-! ### Tally (11_tally.md) -/

/-- An entry of the Tally log (R230), and whether it has been read. -/
structure LogEntry where
  index   : Nat
  test    : Nat
  result  : Nat
  subject : Nat
  block   : Nat
  value   : Nat
  read    : Bool
  deriving DecidableEq, Repr

/-- A line test that runs (R218): channel, RAW at the start of its slot, whether its correlation runs, RAW at its end, from which its pilot ramps
out, whether it was run by TALLY_RUN_NOW. -/
structure LineTest where
  ch     : Nat
  slotAt : Nat
  corr   : Bool
  ended  : Option Nat
  once   : Bool
  deriving DecidableEq, Repr

/-- A baseline capture that runs (R222): channels, those deferred, the port that waits for its reply, RAW at its start and at its end, from which its
pilots ramp out. -/
structure Capture where
  chs      : List Nat
  deferred : List Nat
  port     : Nat
  startAt  : Nat
  ended    : Option Nat
  deriving DecidableEq, Repr

/-- A self-test that runs (R225): core, RAW at the resume once it is resumed. -/
structure SelfTest where
  core : Nat
  runAt : Option Nat
  deriving DecidableEq, Repr

/-- Tally: log (oldest first), next INDEX, line test and capture that run, channels still to test in the window, channels asked
for by TALLY_RUN_NOW, retries with RAW when due, self-test, failures of the history scrub and DRAM passes so far, DRAM
scrub's start on RAW and the place it has reached, whether a slice of it is posted, whether a Fold pattern is out, tests asked for by
TALLY_RUN_NOW and still to run (TEST, subject), RAW from which the next line slot may begin, RAW of the last self-test and pattern
check, of the last reference check by channel, and the power of the released blocks of each channel under test, newest first
(R220). -/
structure TlySt where
  log      : List LogEntry
  next     : Nat
  line     : Option LineTest
  capture  : Option Capture
  todo     : List Nat
  onceTodo : List Nat
  retries  : List (Nat × Nat)
  self     : Option SelfTest
  scrubFails : Nat
  dramFails  : Nat
  dramAt     : Nat
  foldOut    : Bool
  asked      : List (Nat × Nat)
  dramCur    : Nat
  posted     : Bool
  slotFree   : Nat
  selfAt     : Nat
  foldAt     : Nat
  sensAt     : Cells Nat
  power      : Cells (List Nat)
  deriving DecidableEq, Repr

/-! ### Ethernet ports (12_ethernet.md) -/

/-- A frame on its way out (R246, R254): its queue (`none`: the stream engine's), first descriptor and their number, the bytes as they leave without
FCS, whether it is complete in itself (`bad`: refused under R238 or R247), TS_REQ, TS_TAG, and its transmit time-stamp. -/
structure TxFrame where
  queue : Option Nat
  first : Nat
  descs : Nat
  bytes : List Byte
  tsReq : Bool
  tag   : Nat
  raw   : Nat
  lost  : Bool
  deriving DecidableEq, Repr

/-- A MAC beside its registers: number of frames received (R242 SEQ), the RAW at which a pause ends (R235), the frame that leaves, stream packets
that wait for it (R267), and the next descriptor of each ring the stream engine takes (R263), the 64-bit counts of bytes received and sent (R249), the lane as it was last seen (R234), and the last frame that left, its FCS with it (R238, R247). -/
structure MacSt where
  seq    : Nat
  paused : Nat
  tx     : Option TxFrame
  strq   : List (List Byte)
  taken  : Cells Nat
  rxOct  : Nat
  txOct  : Nat
  lane   : LinkState
  wire   : List Byte
  deriving DecidableEq, Repr

/-! ### PTP and streams (13_time_and_streams.md) -/

/-- PTP as TIME_CONFIG sets it (R256): profile, domain, master-capable, Layer 2, primary and backup port (0xFF none), the port in use, and the latencies that the integrator adds to the three ports in TX and RX (R253). -/
structure Ptp where
  profile : Nat
  domain  : Nat
  master  : Bool
  layer2  : Bool
  primary : Nat
  backup  : Nat
  inUse   : Nat
  lat     : List (Nat × Nat)
  deriving DecidableEq, Repr

/-- A receive context (R263–R266): RTP sequence of the last packet, RAW of the last valid packet, and the samples of every media index filled
(one per channel; the pair's are held by the context with PAIR_EN). -/
structure StrRx where
  lastSeq : Option Nat
  validAt : Option Nat
  pos     : Cells (List Int)
  deriving DecidableEq, Repr

/-- A transmit context: is it stopped by S2, and the first media index it may send (R268). -/
structure StrTx where
  held  : Bool
  start : Nat
  deriving DecidableEq, Repr

/-- An action of SCHEDULE_EVENT (R312): session, presentation time, action, GPIO, tag. -/
structure TimedAct where
  sess   : Nat
  time   : Nat
  action : Nat
  gpio   : Nat
  tag    : Nat
  deriving DecidableEq, Repr

/-! ### Sessions and ports (14_verica_protocol.md) -/

/-- The status of a reply (R277). The spec numbers OK only, so the model keeps the names. -/
inductive Status where
  | ok | busy | version | stale | unknownOpcode | badLength | badParam | notOwner | shed | limit | conflict | check
  | fault | auth
  deriving DecidableEq, Repr

/-- A packet the device queues: a reply or an event (R274, R275). `op` is the command's opcode for a reply (the packet
carries it with bit 15 set), the event's own for an event; `major`, `minor` the version its header carries; `key` the key agreement of a protected
session (R276, R280). -/
structure Packet where
  sess   : Nat
  major  : Nat
  minor  : Nat
  key    : Nat
  op     : Nat
  seq    : Nat
  event  : Bool
  more   : Bool
  chunk  : Nat
  prot   : Bool
  status : Status
  data   : List Byte
  deriving DecidableEq, Repr

/-- Is a session slot in use (R281)? -/
inductive SessPhase where
  | closed | halfOpen | opened
  deriving DecidableEq, Repr

/-- A session (R278–R293). `lastRx` and `openedAt` are on RAW; `timed` holds, for every accepted timed
command, the instant of C at which it has applied (R293); `rampMs` is the protocol 1 ramp time (R156); `keys` numbers its key agreement (R280), and
`spans` holds the sequences of accepted commands whose replies spanned packets, the last 16 (R284). -/
structure Session where
  phase   : SessPhase
  port    : Nat
  major   : Nat
  minor   : Nat
  cls     : Nat
  key     : Option Nat
  prot    : Bool
  timeout : Nat
  pmax    : Nat
  lastSeq : Nat
  cache   : List (Nat × Packet)
  evSeq   : Nat
  events  : List (Nat × Nat × List Byte)
  lost    : Nat
  staging : List (Nat × Nat)
  timed   : List Nat
  rampMs  : Nat
  keys    : Nat
  spans   : List Nat
  lastRx  : Nat
  openedAt : Nat
  deriving DecidableEq, Repr

/-- A long operation that runs (R289–R291): its opcode, the session and sequence it answers, RAW at reception, its maximum
in ms, and what its completion needs: slot + 256 × PROPOSE of IDENT_EXPORT, the entries that KEY_ROTATE changed. -/
structure LongOp where
  op    : Nat
  sess  : Nat
  seq   : Nat
  since : Nat
  maxMs : Nat
  arg   : Nat
  deriving DecidableEq, Repr

/-- An interface port: outbound packets, replies that wait for room, inbound packets held by an SPI port, the long operation
it runs, inbound places an SPI port has in use, and what it shifted out last (the STATUS byte, the packet of a READ). On a network port `out` holds the last packets sent (log entry 16). -/
structure Port where
  out   : List Packet
  wait  : List Packet
  busy  : Option LongOp
  inb   : Nat
  stat  : Option Nat
  sent  : Option Packet
  shifted : List Byte
  deriving DecidableEq, Repr

/-! ### Library messages (15_commands.md R307) -/

/-- A firmware transfer (R306): its session, length, SHA-256, slot, and the bytes received. -/
structure FwXfer where
  sess : Nat
  len  : Nat
  sha  : BitVec 256
  slot : Bool
  got  : List Byte
  deriving DecidableEq, Repr

/-- A boot record (R382): slot and generation. -/
structure BootRec where
  slot : Bool
  gen  : Nat
  deriving DecidableEq, Repr

/-- An evacuation trigger of the configuration (R390): GPIO, active level, message. -/
structure Trigger where
  gpio  : Nat
  level : Bool
  msg   : Nat
  deriving DecidableEq, Repr

/-- A configuration copy (R383; log entry 20): registers by address, objects, gain paths, the active bank and the staged definitions, coefficient sets by
output × 2 + set, PTP configuration, press-to-talk bindings, sound speed and tracking, enrolment table, evacuation triggers, ordered flows. -/
structure CfgCopy where
  regs     : Cells Nat
  objs     : Cells ObjSt
  gains    : Cells GainPath
  bank     : Cells Nat
  staged   : Cells Nat
  firs     : Cells FirSet
  ptp      : Ptp
  bound    : Cells Nat
  speed    : Nat
  track    : Bool
  enrol    : Cells (Option Enrol)
  triggers : List Trigger
  ordered  : List Nat
  deriving DecidableEq, Repr

/-- What the flash holds beside messages: the two image slots (R382; a slot whose last transfer failed holds none), the two boot records, the valid configuration
copy with the later generation. -/
structure Flash where
  slotA : Option (List Byte)
  slotB : Option (List Byte)
  rec0  : Option BootRec
  rec1  : Option BootRec
  cfg   : Option CfgCopy
  deriving DecidableEq, Repr

/-- The one-time memory (R384, R386, R392, R394): device identifier, rollback counter, revoked key indexes, FIELD. -/
structure Otp where
  devId    : Nat
  rollback : Nat
  revoked  : Nat
  inField  : Bool
  deriving DecidableEq, Repr


/-- Where the player reads messages (R389): the openings in the pre-lock buffer (message, first sample, samples), and the messages in the DRAM library cache, in the
order they were loaded. -/
structure Library where
  opening : List (Nat × Nat × Nat)
  cached  : List Nat
  deriving DecidableEq, Repr

/-! ### Supervisor and mirror (16_supervisor_and_mirror.md) -/

/-- The Bellwether (R314–R317): RAW of the first disagreement of each core (+ 1), the cores that wait for resynchronisation, the core whose next write
is corrupted. -/
structure Bwt where
  firstAt : Cells Nat
  pend    : List Nat
  inject  : Option Nat
  deriving DecidableEq, Repr

/-- A copy as the active unit sends it (R321): number, SWITCH, FINAL, BACKLOG, records. -/
structure CopyOut where
  k       : Nat
  switch  : Bool
  final   : Bool
  backlog : Bool
  items   : List CopyItem
  deriving DecidableEq, Repr

/-- The mirrored state as of the last copy, from which the next copy takes what changed. -/
structure CopyBase where
  objs  : Cells ObjSt
  gains : Cells GainPath
  regs  : Cells Nat
  sched : List Sched
  plays : List Play
  deriving DecidableEq, Repr

/-- A Fold frame sent (R319): TYPE, FLAGS, SEQ, BLOCK. -/
structure FoldOut where
  kind  : Nat
  flags : Nat
  seq   : Nat
  block : Nat
  deriving DecidableEq, Repr

/-- What is known of the partner: role, flags and identifier of its last frame, its takeover BLOCK_COUNT. -/
structure Partner where
  role   : Nat
  stop   : Bool
  prefer : Bool
  id     : Nat
  took   : Nat
  deriving DecidableEq, Repr

/-- A handover or takeover under way: boundary, whether this unit leaves, whether it is a handover (R325) or a takeover on loss (R324). -/
structure Handover where
  s        : Nat
  leaving  : Bool
  byHandover : Bool
  deriving DecidableEq, Repr

/-- The Fold link and the mirror role (R318–R326): RAW at release and whether the 100 ms wait runs; C of the last heartbeat on each path, heartbeats in a
row on each path while it is down, whether a path was ever heard; the partner; copies committed in a row, the last copy number, records left for later copies, what the last
copy held; the copy sent last; whether the FINAL copy of S5 has gone; the role change under way; bulk still to send and to come; level of FLD_HBO and the heartbeat period served last; the next SEQ of
each frame type; the last 16 frames sent (log entry 16), newest first; the Fold version of the firmware that booted; bit errors counted of the partner's pattern. -/
structure Mir where
  releaseAt : Nat
  waits     : Bool
  foldAt    : Option Nat
  pinAt     : Option Nat
  foldRun   : Nat
  pinRun    : Nat
  partner   : Option Partner
  inRow     : Nat
  lastCopy  : Option Nat
  backlog   : List CopyItem
  base      : CopyBase
  sent      : Option CopyOut
  change    : Option Handover
  bulkOut   : List Nat
  bulkIn    : Bool
  hbo       : Bool
  beat      : Option Nat
  seqs      : Cells Nat
  finalSent : Bool
  frames    : List FoldOut
  major     : Nat
  minor     : Nat
  patErr    : Nat
  deriving DecidableEq, Repr

/-! ### The Cellar (17_memory_system.md) -/

/-- A DRAM request (R340, R341): arrival number and RAW, channel, bank, row, 64-byte unit, class, real-time or ordinary, write, page hint OPEN. -/
structure DramReq where
  num   : Nat
  at_   : Nat
  ch    : Nat
  bank  : Nat
  row   : Nat
  unit  : Nat
  cls   : Nat
  rt    : Bool
  write : Bool
  hint  : Bool
  deriving DecidableEq, Repr

/-- A full retraining that runs (R338): RAW at its start, channel in training, RAW of the last step of each channel, and the port whose PARAM_WRITE waits for it. -/
structure Retrain where
  since : Nat
  ch    : Nat
  last  : Cells Nat
  port  : Option Nat
  deriving DecidableEq, Repr

/-- The Cellar beside its registers: requests that wait, oldest first; times the oldest of a bank was bypassed; open row of each bank (row + 1) and RAW of its last
hit; requests numbered so far; refreshes postponed per channel; retraining; channels in power-down; RAW when the last request of a channel was served; installed
capacity in bytes; the last 64 requests served, newest first; delay updates of each channel since training; RAW up to which panic cycles are counted. -/
structure Cel where
  queue   : List DramReq
  passed  : Cells Nat
  rows    : Cells Nat
  rowAt   : Cells Nat
  next    : Nat
  postponed : Cells Nat
  retrain : Option Retrain
  asleep  : Cells Nat
  idleAt  : Cells Nat
  capacity : Nat
  served  : List DramReq
  delays  : Cells Nat
  panicAt : Nat
  deriving DecidableEq, Repr

/-! ### The fast matrix (17_memory_system.md R332) -/

/-- A burst that waits at a target port: its master, the consecutive grants that passed it over, and the DRAM request it carries, if it is one. -/
structure FabReq where
  master : Nat
  passed : Nat
  dram   : Option DramArr
  deriving DecidableEq, Repr

/-- A target port: the master it granted last, on which it stays parked; the bursts that wait, in order of arrival; whether its last grant was that of a parked master's
lone request, one FAB_CLK cycle early. -/
structure FabPort where
  last    : Option Nat
  waiting : List FabReq
  early   : Bool
  deriving DecidableEq, Repr

/-! ### Clocks and modes (18_clocks_modes.md) -/

/-- A gate step that runs (R358): blocks and cores it closes, whether it is a mode entry (SLEEP or DEEP SLEEP) or a write in RUN, RAW at its start. -/
structure GateStep where
  blocks : Nat
  cores  : Nat
  mode   : Nat
  since  : Nat
  deriving DecidableEq, Repr

/-- A mode change under way or in force (R362–R365): deep, first block not rendered, whether channels have been stopped, RAW of the reply, whether sessions were closed,
and the block at which rendering resumes. -/
structure Sleep where
  deep    : Bool
  stopBlk : Nat
  stopped : Bool
  replyAt : Nat
  closed  : Bool
  wakeBlk : Option Nat
  deriving DecidableEq, Repr

/-- The clock unit beside its registers: RAW at the last XO enable, XO monitor armed, RAW when RC becomes ready, good monitor windows in a row by source, reference intervals
without a reference, RESTORE waits for a boundary, domains in clock hold, sources lost (bits of CLK_STAT.FAIL), gate step, mode change, presses that woke the device. -/
structure Clk where
  xoAt     : Nat
  xoArmed  : Bool
  rcAt     : Nat
  good     : Cells Nat
  absent   : Nat
  restore  : Bool
  held     : Bool
  lost     : List Nat
  step     : Option GateStep
  sleep    : Option Sleep
  wokeBy   : List Nat
  deriving DecidableEq, Repr

/-! ### Supply (19_supply_shedding.md) -/

/-- The supply monitor beside its registers: boundary at which the present stage came into force, first boundary of the present run in which the clear condition held, dwell that runs in blocks, the stage that comes into force at the next
boundary, whether mains is declared lost (R369), the highest stage whose actions are in force, the cores that S3 took out of rotation. -/
structure Sup where
  stageAt : Nat
  clearAt : Option Nat
  dwell   : Nat
  coming  : Option Nat
  lost    : Bool
  applied : Nat
  cut     : Nat
  deriving DecidableEq, Repr

/-- Why the block stops with a fault. No rule of the spec stops the block; the one constructor is for the host's form. -/
inductive Fault where
  /-- Raised by nothing in this model: every error the spec describes is a status, a counter, a log or an interrupt, which
  are next states. Safe. -/
  | none
  deriving DecidableEq, Repr

/-- Why a command has no meaning. -/
inductive Refusal where
  /-- Raised by the dispatch for a command that is not modelled. Safe: it stops where the hardware goes on. -/
  | notModelled (mnemonic : String)
  deriving DecidableEq, Repr

/-- The state of the block. -/
structure State where
  /-- Registers: byte address ↦ value last written, as its difference from the reset word (R14, R398). -/
  regs : Cells Nat
  /-- The copy in force of RWS fields (R14), in the same form. -/
  live : Cells Nat
  /-- `live` as it stood from each recent block on (R16: stages run after their block). -/
  liveHist : Hist (Cells Nat)
  /-- The time unit. -/
  tm : Tm
  /-- Memory bytes by matrix address (R328); an unlisted byte reads 0 (log entry 6). -/
  mem : List Host.Cell
  /-- The model's own counter of free values (log entry 1). -/
  free : Nat
  /-- High words that a read of their low words has latched, by address, + 1 (R269, R324, R370, R397). -/
  latches : Cells Nat
  /-- The straps (R381); all low in the model's reset (log entry 4). -/
  straps : Straps
  /-- Objects, table banks, tap lists. -/
  geo : Geo
  /-- The history store beside its memory. -/
  hst : Hst
  /-- Gains, buses, chains. -/
  mix : MixSt
  /-- Accepted changes that wait for their block, in order of acceptance (R4, R21). -/
  sched : List Sched
  /-- The Ostler. -/
  ost : Ost
  /-- The 32 Drover cores; an unlisted one is as R119 leaves it. -/
  cores : Cells CoreSt
  /-- The TDM ports. -/
  tdm : Cells TdmSt
  /-- The AES3 inputs. -/
  aes : Cells AesSt
  /-- The frames an AES3 output sends in the block in progress (R184). -/
  aesOut : Cells (List AesFrame)
  /-- Voice-domain signals by source: ASRC channels 0–31, microphones 32–35 (R168). -/
  vox : Cells VoxSt
  /-- The ASRC trackers. -/
  asc : Cells AscSt
  /-- The microphone inputs. -/
  mics : Cells MicSt
  /-- Press-to-talk bindings: object ↦ microphone + 1 (log entry 9). -/
  bound : Cells Nat
  /-- The power channels. -/
  ps : Cells PsSt
  /-- Tally. -/
  tly : TlySt
  /-- The three MACs beside their registers. -/
  macs : Cells MacSt
  /-- PTP configuration and the time port in use (R256). -/
  ptp : Ptp
  /-- Receive stream contexts. -/
  srx : Cells StrRx
  /-- Transmit stream contexts. -/
  stx : Cells StrTx
  /-- Actions of SCHEDULE_EVENT that wait for their time. -/
  acts : List TimedAct
  /-- Levels the device drives on GPIO outputs, bit by bit. -/
  gpio : Nat
  /-- Words written to the pin multiplexing, GPIO and I2C window, by offset (its layout is not given). -/
  pins : Cells Nat
  /-- The eight host sessions (R278); an unlisted one is closed. -/
  sessions : Cells Session
  /-- Owner of each resource, by its reference (R296), as session + 1; 0 is unowned. -/
  owner : Cells Nat
  /-- The former owners recorded by PREEMPT (R286): the one the owner recorded first, then the one that session had recorded, and so on. -/
  former : Cells (List Nat)
  /-- The six interface ports (R271, R272, R289). -/
  ports : Cells Port
  /-- A device-wide operation that runs (R290). -/
  devBusy : Option LongOp
  /-- The host enrolment table of 16 entries (R280); empty (log entry 4). -/
  enrol : Cells (Option Enrol)
  /-- Library messages 0–255 (R307); an unlisted one is erased. -/
  msgs : Cells (Option Msg)
  /-- Plays accepted and not over, in order of acceptance. -/
  plays : List Play
  /-- The firmware transfer that is open (R306). -/
  fw : Option FwXfer
  /-- Image slots and boot records (log entry 4). -/
  flash : Flash
  /-- The one-time memory; blank (log entry 4). -/
  otp : Otp
  /-- The session that holds maintenance mode (R395). -/
  maint : Option Nat
  /-- Evacuation triggers of the configuration (R390); none. -/
  triggers : List Trigger
  /-- Evacuation triggers are armed and host ports open (R388). -/
  armed : Bool
  /-- 64-bit counter totals by counter ID (R309). -/
  totals : Cells Nat
  /-- RAW of the last second at which counters were added (R309). -/
  totalsAt : Nat
  /-- The pre-lock buffer and the DRAM library cache. -/
  lib : Library
  /-- The Bellwether. -/
  bwt : Bwt
  /-- The mirror role and the Fold link. -/
  mir : Mir
  /-- The Cellar beside its registers; 4 GB installed (log entry 4). -/
  cel : Cel
  /-- The target ports of the fast matrix (R332). -/
  fab : Cells FabPort
  /-- The clock unit beside its registers. -/
  clk : Clk
  /-- The supply monitor beside its registers. -/
  sup : Sup
  /-- Which firmware image runs, by a free number: what it declares for R147 stands in Config under that number. None: no firmware has started. -/
  image : Option Nat
  /-- The commands waiting, first in first out (the block's queue). -/
  pending : List Instr
  deriving DecidableEq, Repr

/-- The state right after reset: every register at its reset word (R398), every memory as log entry 6 says, everything else
as the entry named in INVENTORY.md says. -/
def State.reset : State := {
  regs := [],
  live := [],
  liveHist := [],
  tm := { raw := 0, ofs := 0, anc := 0, rate := 0, servoI := 0, servoGood := 0, lastTheta := 0, lastOffsetRaw := 0, blockCount := 0, started := false, blockStart := 0, lockBlock := none, firstLocked := 0, ppsHigh := false, txq := [[], [], []] },
  mem := [],
  free := 0,
  latches := [],
  straps := { secPlain := false, xo := 0, slot := false, role := false, rate96 := false, rsv := 0 },
  geo := { objs := [], banks := [], staged := [], build := { state := .none, cells := 0, swapBlk := 0, swapAt := none }, forming := none, late := none, cur := { blk := 0, taps := [], complete := true, deferred := 0, ranges := 0, jumps := 0, budget := false, grants := [] }, speedAt := 0, speed := 3430, track := false },
  hst := { win := 0, winOpen := false, landFrom := 0, renderFrom := 0, rendering := none, rings := [], longTiles := [], copies := [], longReads := [], longAt := 0, lateTiles := [], renderPanic := false, agePanic := false, copyPanic := [], scrubAt := 0 },
  mix := { gains := [], gates := [], sheds := [], chains := [], odly := [], odlyFirst := [], odlyFail := [], firs := [], staging := [], installs := [], specs := [], omits := [], specLate := [], released := [], headOnly := [], relQ := [], relLate := 0, fades := [], idents := [], proposals := [], propNext := 1 },
  sched := [],
  ost := { queues := [], flows := [], served := [] },
  cores := [],
  tdm := [],
  aes := [],
  aesOut := [],
  vox := [],
  asc := [],
  mics := [],
  bound := [],
  ps := [],
  tly := { log := [], next := 0, line := none, capture := none, todo := [], onceTodo := [], retries := [], self := none, scrubFails := 0, dramFails := 0, dramAt := 0, foldOut := false, asked := [], dramCur := 0, posted := false, slotFree := 0, selfAt := 0, foldAt := 0, sensAt := [], power := [] },
  macs := [],
  ptp := { profile := 0, domain := 0, master := false, layer2 := false, primary := 0, backup := 255, inUse := 0, lat := [] },
  srx := [],
  stx := [],
  acts := [],
  gpio := 0,
  pins := [],
  sessions := [],
  owner := [],
  former := [],
  ports := [],
  devBusy := none,
  enrol := [],
  msgs := [],
  plays := [],
  fw := none,
  flash := { slotA := none, slotB := none, rec0 := none, rec1 := none, cfg := none },
  otp := { devId := 0, rollback := 0, revoked := 0, inField := false },
  maint := none,
  triggers := [],
  armed := false,
  totals := [],
  totalsAt := 0,
  lib := { opening := [], cached := [] },
  bwt := { firstAt := [], pend := [], inject := none },
  mir := { releaseAt := 0, waits := false, foldAt := none, pinAt := none, foldRun := 0, pinRun := 0, partner := none, inRow := 0, lastCopy := none, backlog := [], base := { objs := [], gains := [], regs := [], sched := [], plays := [] }, sent := none, change := none, bulkOut := [], bulkIn := false, hbo := false, beat := none, seqs := [], finalSent := false, frames := [], major := 0, minor := 0, patErr := 0 },
  cel := { queue := [], passed := [], rows := [], rowAt := [], next := 0, postponed := [], retrain := none, asleep := [], idleAt := [], capacity := 4294967296, served := [], delays := [], panicAt := 0 },
  fab := [],
  clk := { xoAt := 0, xoArmed := false, rcAt := 0, good := [], absent := 0, restore := false, held := false, lost := [], step := none, sleep := none, wokeBy := [] },
  sup := { stageAt := 0, clearAt := none, dwell := 0, coming := none, lost := false, applied := 0, cut := 0 },
  image := none,
  pending := [] }

end Sys2Proof.Machine
end

