-- ==== Sys2Proof/Machine/Ops.lean ====
section
/-! DEFINITION. The named operations over registers, memory and time that every command uses. -/

namespace Sys2Proof.Machine

open Sys2Proof

/-! ### Bits of a number -/

/-- Bits `[hi:lo]` of a word. -/
def bitsOf (w hi lo : Nat) : Nat := (w >>> lo) % 2 ^ (hi - lo + 1)

/-- The word with bits `[hi:lo]` replaced. -/
def setBits (w hi lo v : Nat) : Nat :=
  w % 2 ^ lo + (v % 2 ^ (hi - lo + 1)) * 2 ^ lo + (w >>> (hi + 1)) * 2 ^ (hi + 1)

/-- One bit as a truth value. -/
def bitOf (w i : Nat) : Bool := (w >>> i) % 2 = 1

/-- A truth value as a bit. -/
def b2n (b : Bool) : Nat := if b then 1 else 0

/-! ### Registers -/

/-- The reset word of the register a field lies in, at the render rate of the straps (R6, R398). -/
def State.rstOf (s : State) (f : Fld) : Nat := if s.straps.rate96 then f.rst96 else f.rst

/-- The whole register of a field, last value written. -/
def State.word (s : State) (f : Fld) : Nat := s.regs.get 0 f.addr ^^^ s.rstOf f

/-- A field, last value written (R14). -/
def State.rd (s : State) (f : Fld) : Nat := bitsOf (s.word f) f.hi f.lo

/-- A field that is one bit. -/
def State.on (s : State) (f : Fld) : Bool := s.rd f = 1

/-- A signed field. -/
def State.rdI (s : State) (f : Fld) : Int := signedOf (f.hi - f.lo + 1) (s.rd f)

/-- Writes a field. -/
def State.wr (s : State) (f : Fld) (v : Nat) : State :=
  { s with regs := s.regs.set 0 f.addr (setBits (s.word f) f.hi f.lo v ^^^ s.rstOf f) }

/-- The whole register of an RWS field, value in force. -/
def State.liveWord (s : State) (f : Fld) : Nat := s.live.get 0 f.addr ^^^ s.rstOf f

/-- An RWS field, value in force (R14). -/
def State.rdLive (s : State) (f : Fld) : Nat := bitsOf (s.liveWord f) f.hi f.lo

/-- An RWS field, value in force for block `n`. -/
def State.rdAt (s : State) (n : Nat) (f : Fld) : Nat :=
  bitsOf (Cells.get 0 (s.liveHist.at [] n) f.addr ^^^ s.rstOf f) f.hi f.lo

/-- A signed RWS field, value in force for block `n`. -/
def State.rdAtI (s : State) (n : Nat) (f : Fld) : Int := signedOf (f.hi - f.lo + 1) (s.rdAt n f)

/-- An RWS field takes its value. -/
def State.wrLive (s : State) (f : Fld) (v : Nat) : State :=
  { s with live := s.live.set 0 f.addr (setBits (s.liveWord f) f.hi f.lo v ^^^ s.rstOf f) }

/-- A counter of type RC counts `n` more and saturates at 0xFFFF_FFFF. -/
def State.count (s : State) (f : Fld) (n : Nat) : State := if n = 0 then s else s.wr f (min 0xFFFFFFFF (s.rd f + n))

/-- A counter counts one. -/
def State.bump (s : State) (f : Fld) : State := s.count f 1

/-- A status bit is set (DEDUCED, log entry 14). -/
def State.flag (s : State) (f : Fld) : State := s.wr f 1

/-- Does something when a condition holds. -/
def State.when (s : State) (c : Bool) (f : State → State) : State := if c then f s else s

/-! ### Memory -/

/-- The canonical form of the byte memory. -/
def Memory.wf (m : List Host.Cell) : Bool := Cells.wf (α := Byte) 0#8 m

/-- Reads one byte; an unlisted byte reads 0 (DESIGN CHOICE, log entry 6). -/
def State.byte (s : State) (a : Nat) : Byte := Cells.get (α := Byte) 0#8 s.mem a

/-- Writes one byte (DESIGN CHOICE, log entry 6). -/
def State.setByte (s : State) (a : Nat) (v : Byte) : State := { s with mem := Cells.set (α := Byte) 0#8 s.mem a v }

/-- Reads `n` bytes from address `a` up. -/
def State.bytes (s : State) (a : Nat) : Nat → List Byte
  | 0 => []
  | n + 1 => s.byte a :: State.bytes s (a + 1) n

/-- Writes bytes from address `a` up. -/
def State.setBytes (s : State) (a : Nat) : List Byte → State
  | [] => s
  | v :: vs => State.setBytes (s.setByte a v) (a + 1) vs

/-- Reads an `n`-byte little-endian number. -/
def State.load (s : State) (a n : Nat) : Nat := ofLeBytes (s.bytes a n)

/-- Writes an `n`-byte little-endian number. -/
def State.store (s : State) (a n v : Nat) : State := s.setBytes a (leBytes n v)

/-! ### Time -/

/-- The corrected counter C at raw value `r` (R251), 64 bits. -/
def Tm.corrected (m : Tm) (r : Nat) : Nat :=
  let d : Int := (r : Int) - m.anc
  (((m.ofs : Int) + d + rheDiv (d * m.rate) (2 ^ 40)) % (2 ^ 64 : Nat)).toNat

/-- C now. -/
def State.now (s : State) : Nat := s.tm.corrected s.tm.raw

/-- RAW reaches the instant of an event. It never runs back (DEDUCED, log entry 15). -/
def State.atRaw (s : State) (t : Nat) : State := { s with tm := { s.tm with raw := max s.tm.raw t } }

/-- One unit of RAW passes (R250) (DESIGN CHOICE, log entry 2) (DEDUCED, log entry 15). -/
def State.tick (s : State) : State := { s with tm := { s.tm with raw := s.tm.raw + 1 } }

/-- The render rate in hertz (R6). -/
def State.fs (s : State) : Nat := if s.straps.rate96 then 96000 else 48000

/-- Three times the block length in units of 2 ns: 32 samples are 666.67 µs or 333.33 µs. -/
def State.blockLen3 (s : State) : Nat := if s.straps.rate96 then 500000 else 1000000

/-- The link offset O, in units of 2 ns (R260). -/
def State.linkOfs (s : State) : Nat := min 10000000 (s.rd R.TSU_LINK_OFS_VALUE)

/-- The signalled start t(k) of block k (R48): the first value of C at or after k × 32 / fs + O. -/
def State.tBlock (s : State) (k : Nat) : Nat := ceilDiv (k * s.blockLen3) 3 + s.linkOfs

/-- Has the time unit locked since reset (R261)? -/
def State.locked (s : State) : Bool := s.on R.TSU_STATUS_FIRST

/-- Does network time pace the block in progress: locked, and the block that first lock begins has begun (R48, R261)? -/
def State.paced (s : State) : Bool := s.locked && s.tm.lockBlock.isNone

/-- The instant on C of an input sample or of the same distance in samples from it: after lock as R48 has it, before it from the boundary last signalled on. -/
def State.instant (s : State) (i : Nat) : Nat :=
  if s.paced then ceilDiv (i * (s.blockLen3 / 32)) 3 + s.linkOfs
  else ((s.tm.blockStart : Int) + -((-(((i : Int) - 32 * s.tm.blockCount) * (s.blockLen3 / 32 : Nat))) / 3)).toNat

/-- The number of the next block: 0 before the first boundary since reset (R261), the one first lock begins while that is to come. -/
def State.nextBlock (s : State) : Nat :=
  match s.tm.lockBlock with
  | some k => k
  | none => if s.tm.started then s.tm.blockCount + 1 else 0

/-- The next block boundary on C: t(k) after lock, one block after the last boundary before it. -/
def State.nextBoundary (s : State) : Nat :=
  if s.locked then s.tBlock s.nextBlock else s.tm.blockStart + ceilDiv s.blockLen3 3

/-- The block that holds an instant of C (R11). -/
def State.blockOf (s : State) (c : Nat) : Nat := (c - s.linkOfs) * 3 / s.blockLen3

/-- The first block that begins at or after an instant of C. -/
def State.blockFrom (s : State) (c : Nat) : Nat := ceilDiv ((c - s.linkOfs) * 3) s.blockLen3

/-- The first input sample at or after an instant of C (R154). -/
def State.sampleAt (s : State) (c : Nat) : Nat := ceilDiv ((c - s.linkOfs) * 3) (s.blockLen3 / 32)

/-- 125.00 µs in units of 2 ns (R21) (DEDUCED, log entry 32) (DEDUCED, log entry 33). -/
def cut : Nat := 62500

/-- The block from which an untimed command received now takes effect (R21) (DEDUCED, log entry 32). -/
def State.effectBlock (s : State) : Nat :=
  if !s.tm.started || s.now + cut < s.nextBoundary then s.nextBlock else s.nextBlock + 1

/-- Index of an address in an array: the array's base, its stride and length. -/
def arrayIx (base stride n a : Nat) : Option Nat :=
  if base ≤ a && (a - base) % stride = 0 && (a - base) / stride < n then some ((a - base) / stride) else none

/-- Milliseconds in units of 2 ns. -/
def ms (n : Nat) : Nat := n * 500000

/-- Microseconds in units of 2 ns. -/
def us (n : Nat) : Nat := n * 500

/-- Does the supervisor run its firmware: not in safe stop (R317)? -/
def State.fwRuns (s : State) : Bool := s.rd R.BWT_STATUS_MODE ≠ 2

/-- Is block `k` rendered, as far as SLEEP goes (R362, R363)? -/
def State.awakeFor (s : State) (k : Nat) : Bool :=
  match s.clk.sleep with
  | none => true
  | some z => k < z.stopBlk

/-- The input sample of the present instant: before the first lock, of the block that the local media clock paces (R261). -/
def State.sampleNow (s : State) : Nat :=
  if s.locked && s.tm.lockBlock.isNone then s.sampleAt s.now
  else 32 * s.tm.blockCount + (s.now - s.tm.blockStart) * 3 / (s.blockLen3 / 32)

/-- Is the gate of block `b` of the gate map closed (R357), or its domain in clock hold, which all but the Cellar's are (R354)? (DEDUCED, log entries 82
and 125) -/
def State.gated (s : State) (b : Nat) : Bool := bitOf (s.rd R.CLK_GATE_NOW_VALUE) b || (s.clk.held && decide (b ≠ 4))

/-- Is a clock source lost: failed, and not back since (R353)? Bits as in CLK_STAT.FAIL (DEDUCED, log entry 124). -/
def State.clkLost (s : State) (b : Nat) : Bool := s.clk.lost.contains b

/-- Cellar channels in service (R337). -/
def State.celChannels (s : State) : Nat := b2n (bitOf (s.rd R.CEL_STATUS_TRAINED) 0) + b2n (bitOf (s.rd R.CEL_STATUS_TRAINED) 1)

/-- Is the DRAM out of reach: the Cellar's PLL lost, its gate closed, or no channel in service (R353)? (DEDUCED, log entry 76) -/
def State.cellarDown (s : State) : Bool := s.clkLost 3 || s.gated 4 || s.celChannels = 0

/-! ### Changes that wait -/

/-- A change is put behind those already waiting. -/
def State.later (s : State) (blk : Nat) (a : Act) : State := { s with sched := s.sched ++ [⟨blk, a⟩] }

/-- Drops the waiting changes a test picks. -/
def State.unsched (s : State) (p : Sched → Bool) : State := { s with sched := s.sched.filter (fun x => !p x) }

/-- The bits `[hi:lo]` as a mask. -/
def maskOf (hi lo : Nat) : Nat := 2 ^ (hi + 1) - 2 ^ lo

/-- The changes of an output chain of which at most one is pending: its delays D and Le (R71), its EQ with HEADROOM (R73, R419), FIR_EN (R420). -/
inductive ChainChange where
  | delay | eq | firEn
  deriving DecidableEq, Repr

/-- The bits that such a change writes in the register at an offset of the chain window. -/
def ChainChange.bits (g : ChainChange) (off : Nat) : Nat :=
  match g with
  | .delay => if off = 0 then maskOf 15 0 else if off = 8 then maskOf 22 16 else 0
  | .eq => if off = 0 then maskOf 18 16 + maskOf 25 20 else if 256 ≤ off then maskOf 17 0 else 0
  | .firEn => if off = 0 then maskOf 19 19 else 0

/-- The bits of register `a` that belong to a change of the chain that register `b` belongs to. -/
def chainBits (g : ChainChange) (b a : Nat) : Nat :=
  if 0x40260000 ≤ b && b < 0x40300000 && b / 1024 = a / 1024 then g.bits (a % 1024) else 0

/-- A waiting change without the bits that a test names; none when nothing is left of it. -/
def Sched.without (bits : Nat → Nat) (x : Sched) : Option Sched :=
  match x.act with
  | .fld a hi lo _ => if maskOf hi lo &&& bits a = 0 then some x else none
  | .shadow a m v =>
    let rest := m &&& (0xFFFFFFFF ^^^ bits a)
    if rest = 0 then none else some { x with act := .shadow a rest v }
  | _ => some x

/-- A change of bits `m` of register `a`, for block `blk`, is received: it replaces a pending change of its kind that waits for another block; changes that apply
at one boundary stand together, in the order received (R71, R73, R165, R420) (DEDUCED, log entry 31). -/
def State.replaceChange (s : State) (blk a m : Nat) : State :=
  [ChainChange.delay, .eq, .firEn].foldl (fun s g =>
    if m &&& chainBits g a a = 0 then s
    else { s with sched := s.sched.filterMap (fun x => if x.blk = blk then some x else x.without (chainBits g a)) }) s

/-- An RWS field is written by a command: it reads back at once (R14) and takes effect from block `blk` (DEDUCED, log entry 31). -/
def State.wrAt (s : State) (blk : Nat) (f : Fld) (v : Nat) : State :=
  ((s.replaceChange blk f.addr (maskOf f.hi f.lo)).wr f v).later blk (.fld f.addr f.hi f.lo (v % 2 ^ (f.hi - f.lo + 1)))

/-- The same for a field that the firmware sets from the whole configuration: what it set before and still waits is replaced. -/
def State.wrNewest (s : State) (blk : Nat) (f : Fld) (v : Nat) : State :=
  (s.unsched (fun x => match x.act with
    | .fld a hi lo _ => a = f.addr && hi = f.hi && lo = f.lo
    | _ => false)).wrAt blk f v

/-- A 64-bit value is shown in a pair of registers. -/
def State.wr64 (s : State) (lo hi : Fld) (v : Nat) : State := (s.wr lo (v % 2 ^ 32)).wr hi (v / 2 ^ 32 % 2 ^ 32)

/-- A 64-bit value held in a pair of registers. -/
def State.rd64 (s : State) (lo hi : Fld) : Nat := s.rd lo + 2 ^ 32 * s.rd hi

/-- The next free value: the model's own counter advances (DESIGN CHOICE, log entry 1). -/
def State.fresh (s : State) : State := { s with free := s.free + 1 }

/-! ### Sessions and owners (R1, R2, R278) -/

/-- A closed session slot. -/
def sessReset : Session :=
  { phase := .closed, port := 0, major := 0, minor := 0, cls := 3, key := none, prot := false, timeout := 10, pmax := 0,
    lastSeq := 0, cache := [], evSeq := 0, events := [], lost := 0, staging := [], timed := [], rampMs := 20, keys := 0,
    spans := [], lastRx := 0, openedAt := 0 }

def State.session (s : State) (i : Nat) : Session := s.sessions.get sessReset i

def State.setSession (s : State) (i : Nat) (x : Session) : State := { s with sessions := s.sessions.set sessReset i x }

/-- The ramp time of a session's gain changes that take effect in block `blk` (R156, R402): the newest one written for that block or one before it. -/
def State.rampFor (s : State) (i blk : Nat) : Nat :=
  s.sched.foldl (fun m x => match x.act with
    | .param j 8 v => if j = i && x.blk ≤ blk then v else m
    | _ => m) (s.session i).rampMs

/-- Is a session open or half-open? -/
def State.isOpen (s : State) (i : Nat) : Bool := (s.session i).phase ≠ .closed

/-- References of resources (R296): zone, power channel, stream context. -/
def refZone (z : Nat) : Nat := z
def refPs (c : Nat) : Nat := 4096 + c
def refSc (c : Nat) : Nat := 8192 + c

/-- The owner of a resource, if it has one. -/
def State.ownerOf (s : State) (ref : Nat) : Option Nat :=
  match s.owner.get 0 ref with
  | 0 => none
  | i + 1 => some i

/-- Does a session own a resource (R2)? -/
def State.owns (s : State) (i ref : Nat) : Bool := s.ownerOf ref = some i

/-- The class of the session that owns a zone; 4 for an unowned one. -/
def State.zoneClass (s : State) (z : Nat) : Nat :=
  match s.ownerOf (refZone z) with
  | none => 4
  | some i => (s.session i).cls

end Sys2Proof.Machine
end

