-- ==== Sys2Proof/Machine/Gain.lean ====
section
/-! DEFINITION. Gain paths: the gain law applied at the source side, steps, ramps, mutes and gates (R153–R158, R373, R417,
R418). -/

namespace Sys2Proof.Machine

open Sys2Proof

/-- A gain path nothing has written: code 0, unmuted (R169). -/
def gainReset : GainPath := { held := 0, mute := false, segs := [] }

/-- Path keys: an object, a bus, an input of a bus (R417). -/
def pathObj (o : Nat) : Nat := o
def pathBus (b : Nat) : Nat := 1024 + b
def pathIn (b u : Nat) : Nat := 2048 + 64 * b + u

def State.gainPath (s : State) (p : Nat) : GainPath := s.mix.gains.get gainReset p

def State.setGainPath (s : State) (p : Nat) (g : GainPath) : State :=
  { s with mix := { s.mix with gains := s.mix.gains.set gainReset p g } }

/-- A code after the clamp of R9; 0x8000 counts as −6,000 for a ramp (R155). -/
def rampCode (c : Int) : Int := if c = -32768 then -6000 else clampCode c

/-- The code a piece of a path gives at its `n`-th sample (R155); `none` while muted. -/
def GMode.code : GMode → Nat → Option Int
  | .const c, _ => some c
  | .muted, _ => none
  | .ramp a b len toMute, n =>
    if n + 1 < len ∨ (n + 1 = len ∧ !toMute) then some (a + rheDiv ((b - a) * (n + 1)) len)
    else if toMute then none else some b

/-- The code in force at input sample `i`; `none` while muted. -/
def GainPath.code (g : GainPath) (i : Nat) : Option Int :=
  match g.segs.find? (fun x => x.start ≤ i) with
  | some x => x.mode.code (i - x.start)
  | none => some 0

/-- The linear gain in force at input sample `i` (R153): mute gives 0. -/
def GainPath.lin (g : GainPath) (i : Nat) : Nat :=
  match g.code i with
  | some c => gainLin c
  | none => 0

/-- The code a ramp starts from: the one in force just before `p0`, −6,000 while muted (R155, R157). -/
def GainPath.before (g : GainPath) (p0 : Nat) : Int :=
  match g.segs.find? (fun x => x.start < p0) with
  | some x =>
    match x.mode.code (p0 - 1 - x.start) with
    | some c => rampCode c
    | none => -6000
  | none => 0

/-- Does a ramp run at sample `i` (RAMPING)? -/
def GainPath.ramping (g : GainPath) (i : Nat) : Bool :=
  match g.segs.find? (fun x => x.start ≤ i) with
  | some ⟨st, .ramp _ _ len _⟩ => i < st + len
  | _ => false

/-- Is a ramped mute still running at sample `i` (MUTING, R417)? -/
def GainPath.muting (g : GainPath) (i : Nat) : Bool :=
  match g.segs.find? (fun x => x.start ≤ i) with
  | some ⟨st, .ramp _ _ len true⟩ => i < st + len
  | _ => false

/-- A new piece from sample `p0` on. -/
def GainPath.put (g : GainPath) (p0 : Nat) (m : GMode) : GainPath :=
  { g with segs := ⟨p0, m⟩ :: g.segs.filter (fun x => x.start < p0) }

/-- A gain change (R417): while muted or being muted it sets the held code only; a write of what is held is no change
(R418). `len = 0` is a step. -/
def GainPath.change (g : GainPath) (code : Int) (p0 len : Nat) : GainPath :=
  if code = g.held then g
  else if g.mute then { g with held := code }
  else
    let m := if len = 0 then .const code else .ramp (g.before p0) (rampCode code) len false
    { g.put p0 m with held := code }

/-- A mute change (R417, R418). A ramped mute of a path already asked to mute is no change; a step mute of a path that
is still MUTING sets MUTED from its sample. -/
def GainPath.setMute (g : GainPath) (on : Bool) (p0 len : Nat) : GainPath :=
  if on then
    if g.mute ∧ ¬ (len = 0 ∧ g.muting p0) then g
    else
      let m := if len = 0 then .muted else .ramp (g.before p0) (-6000) len true
      { g.put p0 m with mute := true }
  else if !g.mute then g
  else
    let m := if len = 0 then .const g.held else .ramp (g.before p0) (rampCode g.held) len false
    { g.put p0 m with mute := false }

/-- Pieces older than the longest tap delay and the FIR can still reach are dropped (R60). -/
def GainPath.trim (g : GainPath) (i : Nat) : GainPath :=
  let keep := g.segs.takeWhile (fun x => i < x.start + 140000)
  { g with segs := keep ++ (g.segs.drop keep.length).take 1 }

/-- A ramp time in ms as samples (R155). -/
def State.rampLen (s : State) (t : Nat) : Nat := rheDivNat (t * s.fs) 1000

/-- Is a gate open at block `n`? The default is what an object without a binding has. -/
def Gate.openAt (d : Bool) (g : Gate) (n : Nat) : Bool := Hist.at d g n

/-- A gate is open or closed from block `k` on; `d` is what it was before its first entry. -/
def Gate.put (d : Bool) (g : Gate) (k : Nat) (v : Bool) : Gate :=
  if Gate.openAt d g k = v then g else (k, v) :: g.filter (fun x => x.1 < k)

/-- Entries older than the longest tap delay can still reach are dropped (R60). -/
def Gate.trim (g : Gate) (k : Nat) : Gate :=
  let keep := g.takeWhile (fun x => k < x.1 + 4375)
  keep ++ (g.drop keep.length).take 1

/-- The press-to-talk gate of an object opens or closes at the boundary of block `k` (R22, R158). -/
def State.setGate (s : State) (k o : Nat) (isOpen : Bool) : State :=
  { s with mix := { s.mix with gates := s.mix.gates.modify [] o (fun g => Gate.put true g k isOpen) } }

/-- The microphone whose gate an object of a source is bound to, as its number + 1; 0 is none (DESIGN CHOICE, log entry 9). -/
def gateOf (o src : Nat) : Nat := if 0x8000 ≤ src && src < 0x8004 && Config.gateBound o (src - 0x8000) then src - 0x8000 + 1 else 0

/-- The gate of an object follows its binding (R22): a bound gate is open while PTT stands; an object that is bound no more has none (DESIGN
CHOICE, log entry 9). -/
def State.bindObj (s : State) (k o m : Nat) : State :=
  if s.bound.get 0 o = m then s
  else ({ s with bound := s.bound.set 0 o m } : State).setGate k o (m = 0 || s.on (R.MIC_STATUS_PTT (m - 1)))

/-- The factor of a shed mute at sample `j` of block `n`, over 131,072 (R373): fades over its first block. -/
def Gate.factor (g : Gate) (n j : Nat) : Nat :=
  match g.find? (fun x => x.1 ≤ n) with
  | some (b, true) => if b = n then 131072 - window j else 0
  | some (b, false) => if b = n then window j else 131072
  | none => 131072

/-- The linear gain a[i] of object `o` at input sample `i` (R60), times 131,072: its gain path, its press-to-talk gate
(R158) and the factor of its shed mute (R373), which round once together where they meet a sample. -/
def State.objGain (s : State) (o i : Nat) : Nat :=
  let n := i / 32
  if Gate.openAt true (s.mix.gates.get [] o) n then
    (s.gainPath (pathObj o)).lin i * Gate.factor (s.mix.sheds.get [] (pathObj o)) n (i % 32)
  else 0

/-- A gain a[i] (times 131,072) meets a sample (R153). -/
def gainMeets (x : Int) (a : Nat) : Int := sat17 (rheDiv (x * a) 17179869184)

end Sys2Proof.Machine
end

