-- ==== Sys2Proof/Machine/Pasture.lean ====
section
/-! DEFINITION. The Pasture engine (02_objects_and_pastures.md): table banks, geometry, selection, budget, normalisation and
the tap list. -/

namespace Sys2Proof.Machine

open Sys2Proof

/-! ### Objects -/

/-- A position record as signed millimetres. -/
def Pos.mm (p : Pos) : Int × Int × Int := (p.x.toInt, p.y.toInt, p.z.toInt)

/-- Signed millimetres as a position record. -/
def Pos.ofMm (p : Int × Int × Int) : Pos := ⟨BitVec.ofInt 24 p.1, BitVec.ofInt 24 p.2.1, BitVec.ofInt 24 p.2.2⟩

/-- The record of an object nothing has defined: all fields zero, disabled (DESIGN CHOICE, log entry 5). -/
def objRecReset : ObjRec :=
  { enable := false, mode := 0, source := 0, homeZone := 0, pasture := 0, zoneMask := 0, k := 0, norm := 0,
    priority := 0, doff := 0, directOut := 0, pos := ⟨0, 0, 0⟩ }

/-- An object nothing has defined (DESIGN CHOICE, log entry 5). -/
def objReset : ObjSt := { acc := objRecReset, hist := [], pos := (0, 0, 0), path := none, route := none }

def State.obj (s : State) (o : Nat) : ObjSt := s.geo.objs.get objReset o

def State.setObj (s : State) (o : Nat) (x : ObjSt) : State :=
  { s with geo := { s.geo with objs := s.geo.objs.set objReset o x } }

/-- The record of an object in force for block `n`. -/
def State.objRec (s : State) (o n : Nat) : ObjRec := (s.obj o).hist.at objRecReset n

/-- Do two records differ in a route field: MODE, PASTURE, HOME_ZONE or ZONE_MASK (R25)? -/
def ObjRec.routeDiffers (a b : ObjRec) : Bool :=
  a.mode ≠ b.mode || a.pasture ≠ b.pasture || a.homeZone ≠ b.homeZone || a.zoneMask ≠ b.zoneMask

/-- A record with the route fields of another. -/
def ObjRec.withRoute (a r : ObjRec) : ObjRec :=
  { a with mode := r.mode, pasture := r.pasture, homeZone := r.homeZone, zoneMask := r.zoneMask }

/-! ### Positions (R29, R30) -/

/-- One axis between two times (R30). -/
def lerp (a b : Int) (ta tb t : Nat) : Int := a + rheDiv ((b - a) * ((t : Int) - ta)) (tb - ta)

/-- The position on a segment list that starts at `p` at time `t0`; after the last arrival the last waypoint holds. -/
def pathPos (p : Int × Int × Int) (t0 : Nat) : List ((Int × Int × Int) × Nat) → Nat → Int × Int × Int
  | [], _ => p
  | (q, t1) :: rest, t =>
    if t < t1 then (lerp p.1 q.1 t0 t1 t, lerp p.2.1 q.2.1 t0 t1 t, lerp p.2.2 q.2.2 t0 t1 t)
    else pathPos q t1 rest t

/-- The position used for block `k`: the one at t(k + 1) (R29). -/
def State.objPos (s : State) (x : ObjSt) (k : Nat) : Int × Int × Int :=
  match x.path with
  | none => x.pos
  | some p => pathPos p.p0 p.t0 p.wps (s.tBlock (k + 1))

/-! ### Table banks (R31–R33, R400) -/

/-- A word of a bank. -/
def State.bankWord (s : State) (bank w : Nat) : Nat := s.geo.banks.get 0 (bank * 1048576 + w)

/-- `n` words from word `w` as one number. -/
def State.bankBits (s : State) (bank w : Nat) : Nat → Nat
  | 0 => 0
  | n + 1 => s.bankWord bank w + 2 ^ 32 * State.bankBits s bank (w + 1) n

/-- The bank stage A uses (PST_STATUS.ACTIVE_BANK). -/
def State.activeBank (s : State) : Nat := s.rd R.PST_STATUS_ACTIVE_BANK

/-- A layout record (R31, R302), decoded. -/
structure Layout where
  present : Bool
  dir  : Bool
  zone : Nat
  prec : Int
  pos  : Int × Int × Int
  axis : Int × Int × Int
  cin  : Int
  cout : Int
  deriving DecidableEq, Repr

/-- Three signed values of `w` bits each from bit `lo` up. -/
def triple (v lo w : Nat) : Int × Int × Int :=
  (signedOf w (v >>> lo), signedOf w (v >>> (lo + w)), signedOf w (v >>> (lo + 2 * w)))

/-- The 32 bytes of R302 as a layout record. -/
def layoutOf (v : Nat) : Layout :=
  { present := bitOf v 0, dir := bitOf v 1, zone := bitsOf v 14 8, prec := signedOf 16 (v >>> 16),
    pos := triple v 32 24, axis := triple v 104 16, cin := signedOf 16 (v >>> 152), cout := signedOf 16 (v >>> 168) }

/-- The layout record of an output in a bank. -/
def State.layout (s : State) (bank o : Nat) : Layout := layoutOf (s.bankBits bank (8 * o) 8)

/-- A pasture header (R32, R303), decoded. -/
structure PastureHdr where
  origin : Int × Int × Int
  edge : Nat
  nx : Nat
  ny : Nat
  nz : Nat
  cb : Nat
  step : Nat
  gains : Nat
  deriving DecidableEq, Repr

/-- The header of a pasture in a bank; the gain table is kept as its bits. -/
def State.pasture (s : State) (bank p : Nat) : PastureHdr :=
  let w := 0x1480 + 64 * p
  let v := s.bankBits bank w 32
  { origin := triple v 32 24, edge := bitsOf v 127 112, nx := bitsOf v 143 128, ny := bitsOf v 159 144,
    nz := bitsOf v 175 160, cb := s.bankWord bank (w + 52) % 65536, step := bitsOf v 15 8, gains := v >>> 224 }

/-- T[i] of a header (R32). -/
def PastureHdr.t (h : PastureHdr) (i : Nat) : Nat := bitsOf h.gains (24 * i + 17) (24 * i)

/-- Does a pasture exist in a bank (R28)? A header of zeros has E = 0 and names none. -/
def PastureHdr.present (h : PastureHdr) : Bool := h.edge ≠ 0

/-- The cell an object uses (R32). -/
def PastureHdr.cell (h : PastureHdr) (p : Int × Int × Int) : Nat :=
  let ix (x o : Int) (n : Nat) : Nat := (clampI 0 ((n : Int) - 1) ((x - o) / (h.edge : Int))).toNat
  h.cb + ix p.1 h.origin.1 h.nx + h.nx * (ix p.2.1 h.origin.2.1 h.ny + h.ny * ix p.2.2 h.origin.2.2 h.nz)

/-- Pool entries `i … i + n − 1`. -/
def State.poolRun (s : State) (bank i : Nat) : Nat → List Nat
  | 0 => []
  | n + 1 => (if i % 2 = 0 then bitsOf (s.bankWord bank (0x15480 + i / 2)) 9 0
              else bitsOf (s.bankWord bank (0x15480 + i / 2)) 25 16) :: State.poolRun s bank (i + 1) n

/-- The candidates of a cell (R33). -/
def State.cellCandidates (s : State) (bank c : Nat) : List Nat :=
  let e := s.bankWord bank (0x5480 + c)
  s.poolRun bank (bitsOf e 17 0) (bitsOf e 24 18)

/-! ### The geometry arithmetic (R35, R36) -/

/-- A surviving candidate. -/
structure Cand where
  output : Nat
  graw : Nat
  d8 : Nat
  dly : Nat
  deriving DecidableEq, Repr

/-- The last lines of R36: a delay below 0 is 0, one beyond 33,554,431 rejects and is counted (R26). -/
def delayLimit (d : Int) : Option Nat := if d < 0 then some 0 else if 33554431 < d then none else some d.toNat

/-- The directivity gain of R36; `none` rejects. -/
def directivity (l : Layout) (dx dy dz : Int) (n d8 : Nat) : Option Int :=
  if !l.dir then some 131072
  else
    let dot := l.axis.1 * dx + l.axis.2.1 * dy + l.axis.2.2 * dz
    let cq : Int := if n = 0 then 16384 else clampI (-16384) 16384 (rheDiv (256 * dot) d8)
    if cq ≤ l.cout then none
    else if l.cin ≤ cq then some 131072
    else some (rheDivI (131072 * (cq - l.cout)) (l.cin - l.cout))

/-- The distance gain of R36. -/
def distanceGain (h : PastureHdr) (d8 : Nat) : Int :=
  let i := d8 >>> (h.step + 8)
  if 32 ≤ i then h.t 32
  else
    let f := (d8 >>> (h.step - 8)) % 65536
    h.t i + rheDiv (((h.t (i + 1) : Int) - h.t i) * f) 65536

/-- One candidate of a POINT or PANNED object (R36): the candidate, or `none`; and whether it was rejected for range. -/
def evalCand (rate : Nat) (h : PastureHdr) (r : ObjRec) (p : Int × Int × Int) (o : Nat) (l : Layout) : Option Cand × Bool :=
  if !l.present || !r.zoneMask.getLsbD l.zone then (none, false)
  else
    let dx := p.1 - l.pos.1
    let dy := p.2.1 - l.pos.2.1
    let dz := p.2.2 - l.pos.2.2
    let n := (dx * dx + dy * dy + dz * dz).toNat
    let d8 := rheSqrt (65536 * n)
    match directivity l dx dy dz n d8 with
    | none => (none, false)
    | some gdir =>
      let graw := (rheDiv (distanceGain h d8 * gdir) 131072).toNat
      if graw = 0 then (none, false)
      else
        let tau : Int := if r.mode = 0 then rheDiv (d8 * rate) (2 ^ 32) else 0
        match delayLimit (tau + l.prec + r.doff.toNat) with
        | none => (none, true)
        | some d => (some ⟨o, graw, d8, d⟩, false)

/-- Inserts into a list kept in an order. -/
def insertBy {α : Type} (lt : α → α → Bool) (x : α) : List α → List α
  | [] => [x]
  | y :: ys => if lt x y then x :: y :: ys else y :: insertBy lt x ys

/-- Sorts by an order; equal elements keep their places. -/
def sortBy {α : Type} (lt : α → α → Bool) (xs : List α) : List α :=
  xs.foldr (fun x acc => insertBy (fun a b => !lt b a) x acc) []

/-- The rank order of R38: graw descending, d8 ascending, output ascending. -/
def candLt (a b : Cand) : Bool :=
  if a.graw ≠ b.graw then b.graw < a.graw else if a.d8 ≠ b.d8 then a.d8 < b.d8 else a.output < b.output

/-- Does an output belong to a ZONE object (R26, R27)? -/
def zoneOutput (r : ObjRec) (l : Layout) : Bool := l.present && r.zoneMask.getLsbD l.zone

/-- The outputs of R27: PRESENT in the active bank, zone set in the mask, ascending. -/
def State.zoneOutputs (s : State) (r : ObjRec) : List Nat :=
  (List.range 640).filter (fun o => zoneOutput r (s.layout s.activeBank o))

/-- The ideal set I of an object with record `r` at position `p` (R26, R27, R38), and how many candidates were rejected for
range. A zone object is cut to its K lowest-numbered outputs first, and range rejects among those (DEDUCED, log entry 92). -/
def State.idealSet (s : State) (k : Nat) (r : ObjRec) (p : Int × Int × Int) : List Cand × Nat :=
  let bank := s.activeBank
  if r.mode = 3 then
    let o := r.directOut.toNat
    if o < 640 && (s.layout bank o).present then ([⟨o, 131072, 0, r.doff.toNat⟩], 0) else ([], 0)
  else if r.mode = 2 then
    let es := ((s.zoneOutputs r).take r.k.toNat).map
      (fun o => (o, delayLimit ((s.layout bank o).prec + r.doff.toNat)))
    (es.filterMap (fun e => e.2.map (fun d => ⟨e.1, 131072, 0, d⟩)), (es.filter (fun e => e.2.isNone)).length)
  else
    let h := s.pasture bank r.pasture.toNat
    if !h.present then ([], 0)
    else
      let es := (s.cellCandidates bank (h.cell p)).map
        (fun o => evalCand (s.rdAt k R.PST_SOUND_RATE_RATE) h r p o (s.layout bank o))
      ((sortBy candLt (es.filterMap Prod.fst)).take r.k.toNat, (es.filter Prod.snd).length)

/-! ### Selection and budget (R38, R39, R161) -/

/-- What one object asks of a block: ideal set, the taps that sounded (F'), the new set of a pending route change. -/
structure Work where
  object : Nat
  rec_   : ObjRec
  ideal  : List Cand
  prev   : List Tap
  newRec : Option ObjRec
  newSet : List Cand
  ranges : Nat
  newRanges : Nat
  deriving DecidableEq, Repr

/-- Is an output among taps, among candidates? -/
def inTaps (ts : List Tap) (o : Nat) : Bool := ts.any (fun t => t.output = o)
def inCands (cs : List Cand) (o : Nat) : Bool := cs.any (fun c => c.output = o)

/-- Continuing taps C (R38), in rank order. -/
def Work.cont (w : Work) : List Cand := w.ideal.filter (fun c => inTaps w.prev c.output)

/-- Leaving taps L (R38). -/
def Work.leave (w : Work) : List Tap := w.prev.filter (fun t => !inCands w.ideal t.output)

/-- Entering taps E (R38), in rank order, before the limit. -/
def Work.enterAll (w : Work) : List Cand := w.ideal.filter (fun c => !inTaps w.prev c.output)

/-- Entering taps after the limit K − |C| − |L|. -/
def Work.enter (w : Work) : List Cand := w.enterAll.take (w.rec_.k.toNat - w.cont.length - w.leave.length)

/-- What the budget decided for one object: final set, leaving taps, whether the route crossfades, taps deferred, route
deferred. -/
structure Decided where
  object : Nat
  rec_   : ObjRec
  final  : List Cand
  leave  : List Tap
  prev   : List Tap
  xfade  : Bool
  deferred : Nat
  routeDeferred : Bool
  ranges : Nat
  deriving DecidableEq, Repr

/-- The ordinary decision with `n` entering taps granted and `m` continuing taps (the lowest-ranked) converted (R38, R39). What range rejects is counted of the
set that the decision renders: in a block that does not grant a route change, of the old one (DEDUCED, log entry 93). -/
def Work.ordinary (w : Work) (n m : Nat) : Decided :=
  let kept := w.cont.take (w.cont.length - m)
  let gone := w.cont.drop (w.cont.length - m)
  let granted := w.enter.take n
  { object := w.object, rec_ := w.rec_,
    final := w.ideal.filter (fun c => inCands kept c.output || inCands granted c.output),
    leave := w.leave ++ w.prev.filter (fun t => inCands gone t.output),
    prev := w.prev, xfade := false, deferred := w.enterAll.length - granted.length,
    routeDeferred := w.newRec.isSome, ranges := w.ranges }

/-- The crossfade of a granted route change (R161). -/
def Work.crossed (w : Work) (r : ObjRec) : Decided :=
  { object := w.object, rec_ := r, final := w.newSet, leave := w.prev, prev := w.prev, xfade := true,
    deferred := 0, routeDeferred := false, ranges := w.newRanges }

/-- Grants in budget order (R39): `room` entries are left. -/
def grant : List Work → Nat → List Decided
  | [], _ => []
  | w :: ws, room =>
    match w.newRec with
    | some r =>
      if w.newSet.length ≤ room then w.crossed r :: grant ws (room - w.newSet.length)
      else w.ordinary room 0 :: grant ws (room - min room w.enter.length)
    | none => w.ordinary room 0 :: grant ws (room - min room w.enter.length)

/-- Conversion of continuing taps (R39), from the last object in budget order: `ws` reversed, `excess` to convert. -/
def convert : List Work → Nat → List Decided
  | [], _ => []
  | w :: ws, excess =>
    let m := min excess w.cont.length
    w.ordinary 0 m :: convert ws (excess - m)

/-- The budget order of R39: owner class, then PRIORITY descending, then object number. -/
def State.budgetLt (s : State) (a b : Nat × ObjRec) : Bool :=
  let ca := s.zoneClass a.2.homeZone.toNat
  let cb := s.zoneClass b.2.homeZone.toNat
  if ca ≠ cb then ca < cb
  else if a.2.priority ≠ b.2.priority then b.2.priority.toNat < a.2.priority.toNat
  else a.1 < b.1

/-- The tap budget of block `k` (R39): values above the reset value act as the reset value. -/
def State.tapBudget (s : State) (k : Nat) : Nat :=
  min (s.rdAt k R.PST_TAP_BUDGET_BUDGET) (if s.straps.rate96 then 0x8000 else 0x10000)

/-- Is an object rendered in block `k`? Enabled, and in S3 among the first 256 enabled ones in budget order (R375). -/
def State.renderedObjs (s : State) (k : Nat) : List Nat :=
  let en := (s.geo.objs.keys.map (fun o => (o, s.objRec o k))).filter (fun p => p.2.enable)
  let en := sortBy s.budgetLt en
  (if 3 ≤ s.rd R.SUP_STATUS_STAGE then en.take 256 else en).map Prod.fst

/-- The work of one object for block `k`, over the list of block k − 1. -/
def State.workOf (s : State) (k : Nat) (rendered : List Nat) (prev : List Tap) (o : Nat) : Work :=
  let x := s.obj o
  let r := s.objRec o k
  let p := s.objPos x k
  let i := if rendered.contains o then s.idealSet k r p else ([], 0)
  let nr := match x.route with
    | some (b, r') => if b ≤ k then some (ObjRec.withRoute r r') else none
    | none => none
  let n := match nr with
    | some r' => if rendered.contains o then s.idealSet k r' p else ([], 0)
    | none => ([], 0)
  { object := o, rec_ := r, ideal := i.1, prev := prev.filter (fun t => t.object = o && !t.leave), newRec := nr,
    newSet := n.1, ranges := i.2, newRanges := n.2 }

/-! ### Normalisation and the list (R40–R42) -/

/-- The final gain of each tap of F (R40). -/
def finalGains (r : ObjRec) (f : List Cand) : List Nat :=
  if r.mode = 2 || r.mode = 3 || r.norm = 0 then f.map (fun c => c.graw)
  else
    let e := (f.map (fun c => c.graw * c.graw)).sum
    let top := f.foldl (fun m c => max m c.graw) 0
    let t := if r.norm = 1 then 2 ^ 34 else top * top
    let m := min 262143 (rheSqrtRatio t e)
    f.map (fun c => min 262143 (rheDivNat (c.graw * m) 131072))

/-- A leaving entry (R42): τ1 = τ0, g1 = 0. -/
def leaveTap (xfade : Bool) (t : Tap) : Tap :=
  { t with enter := false, leave := true, jump := false, xfade := xfade, delayInc := 0, gain := 0,
           gainInc := -(t.gain : Int), prevDelay := t.delay }

/-- An entering entry (R42): τ0 = τ1, g0 = 0. -/
def enterTap (xfade : Bool) (o : Nat) (c : Cand) (g : Nat) : Tap :=
  { output := c.output, enter := true, leave := false, jump := false, xfade := xfade, object := o, delay := c.dly,
    delayInc := 0, gain := g, gainInc := g, prevDelay := c.dly }

/-- A continuing entry (R42): ramps exact; JUMP when the delay moves by more than 81. -/
def contTap (o : Nat) (c : Cand) (g : Nat) (p : Tap) : Tap :=
  let dd : Int := (c.dly : Int) - p.delay
  let jump : Bool := 81 < dd.natAbs
  { output := c.output, enter := false, leave := false, jump := jump, xfade := false, object := o, delay := c.dly,
    delayInc := if jump then 0 else dd, gain := g, gainInc := (g : Int) - p.gain, prevDelay := p.delay }

/-- The entries of one object: leaving taps in ascending output number, then F in rank order (R41). -/
def Decided.entries (d : Decided) : List Tap :=
  let gs := finalGains d.rec_ d.final
  sortBy (fun a b => a.output < b.output) (d.leave.map (leaveTap d.xfade)) ++
    (d.final.zip gs).map (fun cg =>
      match (if d.xfade then none else d.prev.find? (fun t => t.output = cg.1.output)) with
      | some p => contTap d.object cg.1 cg.2 p
      | none => enterTap d.xfade d.object cg.1 cg.2)

/-- The tap list of block `k` after the list `prev` of block k − 1; also the objects whose route change was granted, and how
many were deferred (R38–R42, R161). -/
def State.tapBuild (s : State) (k : Nat) (prev : List Tap) : TapList × List Nat × Nat :=
  let rendered := s.renderedObjs k
  let os := (s.geo.objs.keys).filter (fun o => rendered.contains o || prev.any (fun t => t.object = o) ||
    (match (s.obj o).route with | some (b, _) => b ≤ k | none => false))
  let ws := (sortBy s.budgetLt (os.map (fun o => (o, s.objRec o k)))).map (fun p => s.workOf k rendered prev p.1)
  let budget := s.tapBudget k
  let conts := (ws.map (fun w => w.cont.length)).sum
  let base := (ws.map (fun w => w.prev.length)).sum
  let ds := if budget < conts then (convert ws.reverse (conts - budget)).reverse else grant ws (budget - base)
  let ds := sortBy (fun a b => a.object < b.object) ds
  let taps := (ds.map Decided.entries).flatten
  let deferred := (ds.map (fun d => d.deferred)).sum
  ({ blk := k, taps := taps, complete := false, deferred := deferred, ranges := (ds.map (fun d => d.ranges)).sum,
     jumps := (taps.filter (fun t => t.jump)).length, budget := 0 < deferred || budget < conts, grants := [] },
   (ds.filter (fun d => d.xfade)).map (fun d => d.object), (ds.filter (fun d => d.routeDeferred)).length)

/-- A granted route change is in force from block `k`. -/
def State.grantRoute (s : State) (k o : Nat) : State :=
  let x := s.obj o
  match x.route with
  | some (_, r) => s.setObj o { x with hist := Hist.push x.hist k (ObjRec.withRoute (x.hist.last objRecReset) r), route := none }
  | none => s

/-- A grant of a list that is not rendered is undone: the route of before is in force again from block `k`, and the change waits unless a newer one does (R20, R161). -/
def State.ungrant (s : State) (k : Nat) (g : Grant) : State :=
  let x := s.obj g.object
  s.setObj g.object { x with hist := x.hist.map (fun p => if k ≤ p.1 then (p.1, ObjRec.withRoute p.2 g.old) else p),
                             route := match x.route with | some r => some r | none => some g.pending }

/-- A list and its grants are undone. -/
def State.unform (s : State) : Option TapList → State
  | some l => l.grants.foldl (fun s g => s.ungrant l.blk g) s
  | none => s

/-- The list of block `k` is made after the list `prev`, and takes the route changes it grants (R38–R42, R161); also how many are deferred. -/
def State.formList (s : State) (k : Nat) (prev : List Tap) : State × Nat :=
  let (l, granted, deferred) := s.tapBuild k prev
  let gs := granted.filterMap (fun o => (s.obj o).route.map (fun p => (⟨o, (s.obj o).hist.last objRecReset, p⟩ : Grant)))
  let s := granted.foldl (fun s o => s.grantRoute k o) s
  ({ s with geo := { s.geo with forming := some { l with grants := gs } } }, deferred)

/-- The list being formed is made again, after the list `prev`. -/
def State.reformList (s : State) (prev : List Tap) : State :=
  match s.geo.forming with
  | none => s
  | some f =>
    let s := ((s.unform (some f)).formList f.blk prev).1
    { s with geo := { s.geo with forming := s.geo.forming.map (fun x => { x with complete := f.complete }) } }

/-- The 128-bit form of an entry (R41). -/
def Tap.word (t : Tap) : Nat :=
  t.output * 2 ^ 118 + b2n t.enter * 2 ^ 117 + b2n t.leave * 2 ^ 116 + b2n t.jump * 2 ^ 115 + b2n t.xfade * 2 ^ 114 +
    t.object * 2 ^ 104 + t.delay * 2 ^ 71 + unsignedOf 8 t.delayInc * 2 ^ 63 + t.gain * 2 ^ 45 +
    unsignedOf 19 t.gainInc * 2 ^ 26

/-- The list that replaces one not ready: the one before with zero ramps (R20, R46). -/
def Tap.still (t : Tap) : Tap := { t with jump := false, delayInc := 0, gainInc := 0, prevDelay := t.delay }

end Sys2Proof.Machine
end

