-- ==== Sys2Proof/Machine/History.lean ====
section
/-! DEFINITION. The history store and the rendering of taps and buses (03_render_cycle.md R50–R66, 08_mixing.md R151, R160). -/

namespace Sys2Proof.Machine

open Sys2Proof

/-! ### Tiles (R50, R51) -/

/-- Sample `j` of a payload. -/
def sampleOf (p : BitVec 576) (j : Nat) : Int := (p.extractLsb' (18 * j) 18).toInt

/-- The 32 samples of a payload. -/
def samplesOf (p : BitVec 576) : List Int := (List.range 32).map (sampleOf p)

/-- Samples packed, the first in the low bits. -/
def packSamples : List Int → Nat
  | [] => 0
  | x :: xs => unsignedOf 18 x + 262144 * packSamples xs

/-- A payload of 32 samples. -/
def payloadOf (xs : List Int) : BitVec 576 := BitVec.ofNat 576 (packSamples xs)

/-- The flags of a tile header. -/
structure TileFlags where
  fade     : Bool
  nonAudio : Bool
  late     : Bool
  silence  : Bool
  deriving DecidableEq, Repr

/-- Header bits [47:0] (R50). -/
def tileHead (source seq : Nat) (f : TileFlags) : Nat :=
  source % 2048 + (seq % 65536) * 2 ^ 11 + b2n f.silence * 2 ^ 31 + b2n f.late * 2 ^ 32 + b2n f.nonAudio * 2 ^ 33 +
    b2n f.fade * 2 ^ 34

/-- The CRC of a payload and header bits [47:0] (R51). -/
def tileCrc (p : BitVec 576) (head : Nat) : Nat := (crc16 (leBytes 72 p.toNat ++ leBytes 6 head)).toNat

/-- A tile with its CRC. -/
def tileMake (p : BitVec 576) (source seq : Nat) (f : TileFlags) : Tile :=
  let h := tileHead source seq f
  { payload := p, hdr := BitVec.ofNat 64 (h + tileCrc p h * 2 ^ 48) }

/-- The header fields of a tile. -/
def Tile.source (t : Tile) : Nat := bitsOf t.hdr.toNat 10 0
def Tile.seq (t : Tile) : Nat := bitsOf t.hdr.toNat 26 11
def Tile.silence (t : Tile) : Bool := bitOf t.hdr.toNat 31
def Tile.nonAudio (t : Tile) : Bool := bitOf t.hdr.toNat 33
def Tile.crc (t : Tile) : Nat := bitsOf t.hdr.toNat 63 48

/-- Does the CRC of a tile hold (R51)? -/
def Tile.crcOk (t : Tile) : Bool := tileCrc t.payload (bitsOf t.hdr.toNat 47 0) = t.crc

/-- The 80 bytes of a tile (R50). -/
def Tile.bytes (t : Tile) : List Byte := leBytes 72 t.payload.toNat ++ leBytes 8 t.hdr.toNat

/-- The tile that 80 bytes spell. -/
def tileOf (bs : List Byte) : Tile :=
  { payload := BitVec.ofNat 576 (ofLeBytes (bs.take 72)), hdr := BitVec.ofNat 64 (ofLeBytes (bs.drop 72)) }

/-! ### Rings (R53, R63) -/

/-- A ring given to nothing. SOURCE 0xFFFF names no source. -/
def ringReset : RingSt := { source := 0xFFFF, first := none, last := none, nonAudio := none, longFirst := none }

/-- The byte address of a slot of a ring (R53). -/
def slotAddr (r q : Nat) : Nat := 0x20000000 + r * 5120 + q * 80

def State.ring (s : State) (r : Nat) : RingSt := s.hst.rings.get ringReset r

def State.setRing (s : State) (r : Nat) (x : RingSt) : State :=
  { s with hst := { s.hst with rings := s.hst.rings.set ringReset r x } }

/-- The ring a source has (R53). -/
def State.ringOf (s : State) (src : Nat) : Option Nat :=
  (s.hst.rings.find? (fun p => p.2.source = src)).map Prod.fst

/-- The tile a slot of a ring holds. -/
def State.slot (s : State) (r q : Nat) : Tile := tileOf (s.bytes (slotAddr r q) 80)

def State.setSlot (s : State) (r q : Nat) (t : Tile) : State := s.setBytes (slotAddr r q) t.bytes

/-- A tile that is all zero bits. -/
def tileZero : Tile := { payload := 0, hdr := 0 }

/-- Where a read looks for tiles: a ring on chip, its long ring, or an output delay ring (R52, R62, R70). -/
inductive Store where
  | ring (r : Nat) | long (r : Nat) | odly (o : Nat)
  deriving DecidableEq, Repr

/-- The first block whose tile landed in a store since the latest event of R416. -/
def State.firstOf (s : State) : Store → Option Nat
  | .ring r => (s.ring r).first
  | .long r => (s.ring r).longFirst
  | .odly o => match s.mix.odlyFirst.get 0 o with | 0 => none | n + 1 => some n

/-- The tile a store holds where block `k` belongs, and the SOURCE it must carry. -/
def State.held (s : State) (st : Store) (k : Nat) : Tile × Nat :=
  match st with
  | .ring r => (s.slot r (k % 64), r)
  | .long r => (s.hst.longTiles.get tileZero (r * 4104 + k % 4104), r)
  | .odly o => (s.mix.odly.get tileZero (o * 2056 + k % 2056), 1024 + o)

/-- Was the tile delivered too late to be used (R64, R70)? -/
def State.deliveredLate (s : State) : Store → Nat → Bool
  | .ring _, _ => false
  | .long r, k => s.hst.lateTiles.contains (r, k)
  | .odly o, k => s.mix.odlyFail.contains (o, k)

/-- What a use of a tile finds (R52, R416). -/
inductive Found where
  | unwritten
  | good (xs : List Int)
  | bad (seqErr : Bool) (cause : Nat)
  | late
  deriving DecidableEq, Repr

/-- The check of R52 on the tile of block `k`. CAUSE is that of HST_FAIL_LOG. A DRAM slot that nothing has been copied to yet holds no tile of that SEQ (R63). -/
def State.useTile (s : State) (st : Store) (k : Int) : Found :=
  match s.firstOf st with
  | none => .unwritten
  | some f =>
    if k < f then .unwritten
    else
      let n := k.toNat
      let (t, src) := s.held st n
      if s.deliveredLate st n then .late
      else if (match st with | .ring _ => false | _ => decide (t = tileZero)) then .bad true 2
      else if !t.crcOk then .bad false 0
      else if t.source ≠ src then .bad true 1
      else if t.seq ≠ n % 65536 then .bad true 2
      else .good (samplesOf t.payload)

/-- A neighbour's sample for a bridge: 0 unless the tile is good. -/
def Found.edge (f : Found) (j : Nat) : Int :=
  match f with
  | .good xs => xs.getD j 0
  | _ => 0

/-- The 32 samples a use of block `k` gives while block `n` is rendered: the tile, zeros, or the bridge of R52. -/
def State.useSamples (s : State) (st : Store) (n : Nat) (k : Int) : List Int :=
  match s.useTile st k with
  | .unwritten => List.replicate 32 0
  | .good xs => xs
  | _ =>
    let h := (s.useTile st (k - 1)).edge 31
    let e := if (n : Int) < k + 1 then 0 else (s.useTile st (k + 1)).edge 0
    (List.range 32).map (fun j =>
      rheDiv (h * (131072 - (window j : Int)) + e * (131072 - (window (31 - j) : Int))) 131072)

/-- HST_FAIL_LOG takes a failure when it is empty (R67). -/
def State.failLog (s : State) (cause ring slot : Nat) : State :=
  if s.on R.HST_FAIL_LOG_VALID then s
  else ((((s.flag R.HST_FAIL_LOG_VALID).wr R.HST_FAIL_LOG_CAUSE cause).wr R.HST_FAIL_LOG_RING ring).wr R.HST_FAIL_LOG_SLOT slot)

/-- Counts one use that fails (R415), of a tile of a history ring on chip or long. -/
def State.countUse (s : State) (st : Store) (k : Int) : State :=
  let (r, slot) := match st with
    | .ring r => (r, k.toNat % 64)
    | .long r => (r, k.toNat % 4104)
    | .odly o => (o, k.toNat % 2056)
  match s.useTile st k with
  | .bad seqErr cause =>
    let s := s.flag R.HST_STATUS_VERIFY
    let s := if seqErr then s.bump R.HST_CNT_SEQ_VALUE else s.bump R.HST_CNT_CRC_VALUE
    match st with
    | .odly _ => s
    | _ => s.failLog cause r slot
  | _ => s

/-- Drops repeats. -/
def dedup {α : Type} [DecidableEq α] : List α → List α
  | [] => []
  | x :: xs => if xs.contains x then dedup xs else x :: dedup xs

/-! ### Interpolation (R58, R59) -/

/-- The coefficients c_−1, c_0, c_1, c_2 at phase `p` (R59). -/
def lagrange (p : Nat) : Int × Int × Int × Int :=
  let u : Int := p
  let cm := rheDiv (-(65536 * u * (u - 256) * (u - 512))) 100663296
  let c1 := rheDiv (-(65536 * (u + 256) * u * (u - 512))) 33554432
  let c2 := rheDiv (65536 * (u + 256) * u * (u - 256)) 100663296
  (cm, 65536 - cm - c1 - c2, c1, c2)

/-- `interp` of R58 over a node function, at render index `t` and delay `d` in 1/256 sample. -/
def interp (x : Int → Int) (t : Int) (d : Nat) : Int :=
  let m : Int := d / 256
  let c := lagrange (d % 256)
  sat17 (rheDiv (c.1 * x (t - m + 1) + c.2.1 * x (t - m) + c.2.2.1 * x (t - m - 1) + c.2.2.2 * x (t - m - 2)) 65536)

/-- The tiles of the blocks named, each with its samples. -/
def State.tileRun (s : State) (st : Store) (n : Nat) (ks : List Int) : List (Int × List Int) := ks.map (fun k => (k, s.useSamples st n k))

/-- The blocks of the nodes read over block `n` (R58): from the oldest node, at delay `d0` of sample 0, to the newest, at delay `d31` of sample 31. -/
def blocksRead (n d0 d31 : Nat) : List Int :=
  let lo : Int := (32 * (n : Int) - ((d0 / 256 : Nat) : Int) - 2) / 32
  let hi : Int := min n ((32 * (n : Int) + 32 - ((d31 / 256 : Nat) : Int)) / 32)
  (List.range (hi - lo + 1).toNat).map (fun (i : Nat) => lo + (i : Int))

/-- x[i] from a run of tiles; a node later than the newest sample of block `n` reads that one (R58). -/
def nodeOf (run : List (Int × List Int)) (n : Nat) (i : Int) : Int :=
  let i := if 32 * (n : Int) + 31 < i then 32 * (n : Int) + 31 else i
  match run.find? (fun p => p.1 = i / 32) with
  | some p => p.2.getD (i % 32).toNat 0
  | none => 0

/-! ### One tap (R57, R60, R160) -/

/-- The delays, gains and store of an entry as block `n` renders it. -/
structure TapUse where
  tap   : Tap
  tau0  : Nat
  tau1  : Nat
  g0    : Nat
  jump  : Bool
  clamped : Bool
  store : Option Store
  deriving DecidableEq, Repr

/-- The clamp of R57 and the choice between the ring and the long ring (R62). With LONG_EN clear no source has a long ring (DESIGN CHOICE, log entry 95). -/
def State.tapUse (s : State) (n : Nat) (e : Tap) : TapUse :=
  let t0 := if e.jump then e.prevDelay else ((e.delay : Int) - e.delayInc).toNat
  let t1 := e.delay
  let g0 := ((e.gain : Int) - e.gainInc).toNat
  let r := s.ringOf (s.objRec e.object n).source.toNat
  let long : Bool := match r with
    | some r => s.rdAt n R.HST_CTRL_LONG_EN = 1 && bitOf (s.rdAt n (R.HST_LONG_MAP_LONG (r / 32))) (r % 32)
    | none => false
  let beyond : Bool := 507647 < t0 || 507647 < t1
  let clamp := beyond && (s.rdAt n R.HST_CTRL_CLAMP = 1 || !long)
  let a := if clamp then min t0 507647 else t0
  let b := if clamp then min t1 507647 else t1
  { tap := e, tau0 := a, tau1 := b, g0 := g0, jump := e.jump || 81 < ((b : Int) - a).natAbs, clamped := clamp,
    store := r.map (fun r => if beyond && !clamp then .long r else .ring r) }

/-- The delay of an entry that glides, at sample `j`, in 1/256 sample (R57). -/
def TapUse.delayAt (u : TapUse) (j : Nat) : Nat :=
  (rheDiv (32 * (u.tau0 : Int) + ((j : Int) + 1) * ((u.tau1 : Int) - u.tau0)) 32).toNat

/-- The blocks whose tiles an entry reads: a jump reads at both delays. -/
def TapUse.blocks (u : TapUse) (n : Nat) : List Int :=
  if u.jump then dedup (blocksRead n u.tau0 u.tau0 ++ blocksRead n u.tau1 u.tau1) else blocksRead n (u.delayAt 0) (u.delayAt 31)

/-- The tap gain at sample `j` (R57; R160 for XFADE). -/
def TapUse.gainAt (u : TapUse) (j : Nat) : Int :=
  if u.tap.xfade then
    if u.tap.leave then fadeOut j u.g0 else fadeIn j u.tap.gain
  else rheDiv (32 * (u.g0 : Int) + ((j : Int) + 1) * ((u.tap.gain : Int) - u.g0)) 32

/-- What an entry adds to sample `j` of its output, in units of 2^−34 (R57). -/
def State.tapSample (s : State) (n : Nat) (u : TapUse) (run : List (Int × List Int)) (j : Nat) : Int :=
  let t : Int := 32 * (n : Int) + j
  let x := nodeOf run n
  let (v, i) :=
    if u.jump then (crossfade j (interp x t u.tau0) (interp x t u.tau1), t - ((u.tau1 / 256 : Nat) : Int))
    else
      let d := u.delayAt j
      (interp x t d, t - ((d / 256 : Nat) : Int))
  gainMeets v (if i < 0 then 0 else s.objGain u.tap.object i.toNat) * u.gainAt j

/-! ### The output accumulators (R65) -/

/-- The address of an accumulator word. -/
def accAddr (q o j : Nat) : Nat := 0x20500000 + q * 0x28000 + o * 256 + j * 8

/-- Reads an accumulator word: the value, or `none` when it is not sign-extended from bit 47. -/
def State.accRead (s : State) (q o j : Nat) : Option Int :=
  let v := signedOf 64 (s.load (accAddr q o j) 8)
  if -(2 ^ 47 : Int) ≤ v ∧ v < 2 ^ 47 then some v else none

/-- An accumulator word is taken as zero (R65). -/
def State.accBad (s : State) (n : Nat) : State := (s.count R.HST_CNT_ACC_VALUE n).when (0 < n) (·.flag R.HST_STATUS_ACC_ERR)

/-- Adds to an accumulator word, saturating at ±(2^47 − 1); a word that is not sign-extended counts as zero. -/
def State.accAdd (s : State) (q o j : Nat) (v : Int) : State :=
  if v = 0 then s
  else match s.accRead q o j with
    | some a => s.store (accAddr q o j) 8 (unsignedOf 64 (satAcc (a + v)))
    | none => (s.accBad 1).store (accAddr q o j) 8 (unsignedOf 64 (satAcc v))

/-- Adds a block of values, sample 0 first. -/
def State.accAddAll (s : State) (q o : Nat) : List Int → Nat → State
  | [], _ => s
  | v :: vs, j => State.accAddAll (s.accAdd q o j v) q o vs (j + 1)

/-- Renders one entry of block `n` (R57). -/
def State.renderTap (s : State) (n : Nat) (e : Tap) : State :=
  let u := s.tapUse n e
  let s := s.when u.clamped (·.bump R.HST_CNT_CLAMP_VALUE)
  match u.store with
  | none => s
  | some st =>
    let run := s.tileRun st n (u.blocks n)
    s.accAddAll (n % 2) e.output ((List.range 32).map (s.tapSample n u run)) 0

/-- The tiles an entry uses, for the count of R415. -/
def State.tapTiles (s : State) (n : Nat) (e : Tap) : List (Store × Int) :=
  let u := s.tapUse n e
  match u.store with
  | none => []
  | some st => (u.blocks n).map (fun k => (st, k))

/-! ### Buses (R151, R160) -/

/-- A bus's route in force for block `n`, read from its fields. -/
structure BusRoute where
  en   : Bool
  home : Nat
  mask : Nat
  ins  : List (Nat × Bool × Nat)
  deriving DecidableEq, Repr

/-- The enabled inputs of a bus in block `n`: position, KIND, SRC. -/
def State.busInputs (s : State) (n b : Nat) : List (Nat × Bool × Nat) :=
  ((List.range 64).filter (fun u => s.rdAt n (R.MIX_BUS_IN_W0_EN b u) = 1)).map
    (fun u => (u, s.rdAt n (R.MIX_BUS_IN_W0_KIND b u) = 1, s.rdAt n (R.MIX_BUS_IN_W0_SRC b u)))

def State.busRoute (s : State) (n b : Nat) : BusRoute :=
  { en := s.rdAt n (R.MIX_BUS_CFG_EN b) = 1, home := s.rdAt n (R.MIX_BUS_CFG_HOME_ZONE b),
    mask := (List.range 4).foldr (fun w acc => s.rdAt n (R.MIX_BUS_MASK_ZONES b w) + 2 ^ 32 * acc) 0,
    ins := if s.rdAt n (R.MIX_BUS_CFG_EN b) = 1 then s.busInputs n b else [] }

/-- The outputs of a bus (R150). -/
def State.busOutputs (s : State) (r : BusRoute) : List Nat :=
  if r.mask = 0 then []
  else (List.range 640).filter (fun o => let l := s.layout s.activeBank o; l.present && bitOf r.mask l.zone)

/-- The source ring an input of a bus reads, and the object whose gain it meets. -/
def State.busSource (s : State) (n : Nat) (kind : Bool) (src : Nat) : Option (Nat × Option Nat) :=
  if kind then
    let o := src % 1024
    let r := s.objRec o n
    if r.enable then (s.ringOf r.source.toNat).map (fun g => (g, some o)) else none
  else (s.ringOf src).map (fun g => (g, none))

/-- Does position `u` of bus `b` hold another input in block `n` than in the block before? -/
def State.inputChanged (s : State) (n b u : Nat) : Bool :=
  s.rdAt n (R.MIX_BUS_IN_W0_EN b u) ≠ s.rdAt (n - 1) (R.MIX_BUS_IN_W0_EN b u) || s.rdAt n (R.MIX_BUS_IN_W0_KIND b u) ≠ s.rdAt (n - 1) (R.MIX_BUS_IN_W0_KIND b u) ||
    s.rdAt n (R.MIX_BUS_IN_W0_SRC b u) ≠ s.rdAt (n - 1) (R.MIX_BUS_IN_W0_SRC b u)

/-- The gain path of input `u` of bus `b` in block `n`. For the old route of a crossfade block (`old`), a position that holds a new input keeps the codes in force
before the block (R160). -/
def State.busInPath (s : State) (old : Bool) (n b u : Nat) : GainPath :=
  let g := s.gainPath (pathIn b u)
  if old && s.inputChanged n b u then { g with segs := g.segs.filter (fun x => x.start < 32 * n) } else g

/-- The samples of a bus over block `n` (R151) before it is routed, and whether one saturated. -/
def State.busSamples (s : State) (n b : Nat) (old : Bool) (r : BusRoute) : List Int × Bool :=
  let ins := r.ins.filterMap (fun i => (s.busSource n i.2.1 i.2.2).map (fun g => (i.1, g.1, g.2)))
  let runs := ins.map (fun i => (i, s.useSamples (.ring i.2.1) n n))
  let ys := (List.range 32).map (fun j =>
    let t := 32 * n + j
    let sum : Int := (runs.map (fun p =>
      let x := p.2.getD j 0
      let x := match p.1.2.2 with | some o => gainMeets x (s.objGain o t) | none => x
      x * ((s.busInPath old n b p.1.1).lin t : Int))).sum
    rheDiv (sum * (s.gainPath (pathBus b)).lin t * Gate.factor (s.mix.sheds.get [] (pathBus b)) n j) (2 ^ 51))
  (ys.map sat17, ys.any sat17Hit)

/-- Adds bus samples into every output of a route. -/
def State.busAdd (s : State) (n : Nat) (ys : List Int) (outs : List Nat) : State :=
  outs.foldl (fun s o => s.accAddAll (n % 2) o (ys.map (fun y => y * 131072)) 0) s

/-- Is a bus muted over the whole of block `n` or disabled? Then it contributes nothing (R151). -/
def State.renderBus (s : State) (n b : Nat) : State :=
  let rNew := s.busRoute n b
  let rOld := if n = 0 then rNew else s.busRoute (n - 1) b
  if rNew = rOld then
    if !rNew.en then s
    else
      let (ys, sat) := s.busSamples n b false rNew
      (s.busAdd n ys (s.busOutputs rNew)).when sat (·.bump R.MIX_CNT_BUS_SAT_VALUE)
  else
    let (yo, so) := s.busSamples n b true rOld
    let (yn, sn) := s.busSamples n b false rNew
    let s' := s.busAdd n ((List.range 32).map (fun j => fadeOut j (yo.getD j 0))) (if rOld.en then s.busOutputs rOld else [])
    let s' := s'.busAdd n ((List.range 32).map (fun j => fadeIn j (yn.getD j 0))) (if rNew.en then s.busOutputs rNew else [])
    s'.when ((so && rOld.en) || (sn && rNew.en)) (·.bump R.MIX_CNT_BUS_SAT_VALUE)

/-- The tiles a bus uses in block `n`. -/
def State.busTiles (s : State) (n b : Nat) : List (Store × Int) :=
  ((s.busRoute n b).ins.filterMap (fun i => s.busSource n i.2.1 i.2.2)).map (fun g => (.ring g.1, (n : Int)))

/-- Buses that any of the recent blocks enables, from the listed registers. -/
def State.activeBuses (s : State) : List Nat :=
  let regs := s.live ++ (s.liveHist.map Prod.snd).flatten
  (List.range 256).filter (fun b => regs.any (fun p => p.1 = (R.MIX_BUS_CFG_EN b).addr))

/-- Stage B of block `n`: every entry of its tap list and every bus adds into set n mod 2 (R57, R151); failing tiles are
counted once each (R415). -/
def State.renderBlock (s : State) (n : Nat) (taps : List Tap) : State :=
  let buses := if s.on R.MIX_CTRL_ENABLE then s.activeBuses else []
  let used := dedup ((taps.map (s.tapTiles n)).flatten ++ (buses.map (s.busTiles n)).flatten)
  let s := used.foldl (fun s u => s.countUse u.1 u.2) s
  let s := taps.foldl (fun s e => s.renderTap n e) s
  buses.foldl (fun s b => s.renderBus n b) s

/-! ### Landing (R54–R56) -/

/-- The landing deadline of block `k` on C (R19, R54): 6 samples after the boundary that follows it (DEDUCED, log entry 33). -/
def State.landDeadline (s : State) (k : Nat) : Nat := s.instant (32 * (k + 1) + 6)

/-- M samples in units of 2 ns; 7 acts as 6 (R56, R67). -/
def State.warnMargin (s : State) : Nat := ceilDiv (min 6 (s.rdLive R.HST_LATE_WARN_MARGIN) * (s.blockLen3 / 32)) 3

/-- Was block `k − 1` of the ring source data (so that data need no fade-in, R55)? -/
def RingSt.dataBefore (r : RingSt) (k : Nat) : Bool :=
  match r.last with
  | some (b, .data) => b + 1 = k
  | _ => false

/-- A tile of source data lands in ring `r` for block `k` (R54–R56); `newSlot` asks for the fade-in of R177. -/
def State.land (s : State) (r k : Nat) (xs : List Int) (lateWarn newSlot : Bool) : State :=
  let g := s.ring r
  let fade := !g.dataBefore k || newSlot
  let ys := if fade then (List.range 32).map (fun j => fadeIn j (xs.getD j 0)) else xs
  let t := tileMake (payloadOf ys) r k { fade := fade, nonAudio := false, late := lateWarn, silence := false }
  let s := (s.setSlot r (k % 64) t).setRing r
    { g with first := some (g.first.getD k), last := some (k, .data), nonAudio := none }
  s.when lateWarn (·.bump R.HST_CNT_LATE_WARN_VALUE)

/-- The substitute of block `k` in ring `r` (R55). The sample it fades from is read under R52 (R10). -/
def State.substitute (s : State) (k r : Nat) : State :=
  let g := s.ring r
  let na : Bool := g.nonAudio = some k
  let last := (k : Int) - 1
  let (xs, fade) :=
    if g.dataBefore k then
      let h := (s.useTile (.ring r) last).edge 31
      ((List.range 32).map (fun j => fadeOut j h), true)
    else (List.replicate 32 0, false)
  let s := if g.dataBefore k then s.countUse (.ring r) last else s
  let t := tileMake (payloadOf xs) r k { fade := fade, nonAudio := na, late := false, silence := true }
  ((((s.setSlot r (k % 64) t).setRing r
    { g with first := some (g.first.getD k), last := some (k, .substitute), nonAudio := none }).bump
      R.HST_CNT_UNDERRUN_VALUE).flag R.HST_STATUS_UNDERRUN)

/-- Has the tile of block `k` landed in a ring? -/
def RingSt.has (g : RingSt) (k : Nat) : Bool :=
  match g.last with
  | some (b, _) => b = k
  | none => false

/-- Every ring whose block `k` tile has not landed gets its substitute. All are written at the instant of the deadline, so that WAIT is never seen set (DESIGN CHOICE, log entry 94). -/
def State.substituteAll (s : State) (k : Nat) : State :=
  (s.hst.rings.filter (fun p => !p.2.has k)).foldl (fun s p => s.substitute k p.1) s

/-- The rings that have a long ring copy still to make for block `k` (R63). -/
def State.queueCopies (s : State) (k : Nat) : State :=
  if s.rdLive R.HST_CTRL_LONG_EN = 1 then
    let rs := (s.hst.rings.keys).filter (fun r => bitOf (s.rdLive (R.HST_LONG_MAP_LONG (r / 32))) (r % 32))
    { s with hst := { s.hst with copies := s.hst.copies ++ rs.map (fun r => (r, k)) } }
  else s

/-! ### Ring assignment at commit (R53, R63, R416) -/

/-- The source inputs of a bus that is enabled, read by one reading of its fields. -/
def busSources (rd : Fld → Nat) (b : Nat) : List Nat :=
  if rd (R.MIX_BUS_CFG_EN b) = 1 then
    ((List.range 64).filter (fun u => rd (R.MIX_BUS_IN_W0_EN b u) = 1 && rd (R.MIX_BUS_IN_W0_KIND b u) = 0)).map (fun u => rd (R.MIX_BUS_IN_W0_SRC b u))
  else []

/-- The sources that feed an enabled object or an enabled source input of an enabled bus: as in force, as waiting for their block, and as last accepted. -/
def State.sourcesUsed (s : State) : List Nat :=
  let recs := (s.geo.objs.map (fun p => [p.2.acc, p.2.hist.last objRecReset])).flatten ++
    s.sched.filterMap (fun x => match x.act with | .objFields _ r => some r | _ => none)
  let buses := (List.range 256).filter (fun b => (s.regs ++ s.live).any (fun p => p.1 = (R.MIX_BUS_CFG_EN b).addr))
  dedup ((recs.filter (fun r => r.enable)).map (fun r => r.source.toNat) ++ (buses.flatMap (busSources s.rd)) ++ (buses.flatMap (busSources s.rdLive)) ++
    (s.sched.map (fun x => match x.act with
      | .busRoute _ true _ _ ins => (ins.filter (fun i => i.1 && !i.2.1)).map (fun i => i.2.2.1)
      | _ => [])).flatten)

/-- The lowest ring given to nothing, among the first `n`. -/
def State.freeRing (s : State) (n : Nat) : Option Nat :=
  (List.range n).find? (fun r => !(s.hst.rings.any (fun p => p.1 = r)))

/-- Gives rings to the sources in use and takes them from the others (R53); copies of a ring taken away are made no more. -/
def State.assignRings (s : State) : State :=
  let used := s.sourcesUsed
  let keep := s.hst.rings.filter (fun p => used.contains p.2.source)
  let held (x : Nat × Nat) : Bool := keep.any (fun p => p.1 = x.1)
  let s := { s with hst := { s.hst with rings := keep, copies := s.hst.copies.filter held, copyPanic := s.hst.copyPanic.filter held } }
  used.foldl (fun s src =>
    if (s.ringOf src).isSome then s
    else match s.freeRing (if s.straps.rate96 then 512 else 1024) with
      | some r => s.setRing r { ringReset with source := src }
      | none => s) s

/-- Rings that have just been granted a long ring, the bits `old` of word `w` of HST_LONG_MAP becoming `new`, begin it unwritten (R416). -/
def State.grantLong (s : State) (w old new : Nat) : State :=
  let fresh (r : Nat) : Bool := r / 32 = w && bitOf new (r % 32) && !bitOf old (r % 32)
  { s with hst := { s.hst with
      rings := s.hst.rings.map (fun p => if fresh p.1 then (p.1, { p.2 with longFirst := none }) else p),
      copies := s.hst.copies.filter (fun x => !fresh x.1), copyPanic := s.hst.copyPanic.filter (fun x => !fresh x.1) } }

/-- Every slot becomes unwritten (R416: reset, first lock, takeover, exit from SLEEP or DEEP SLEEP) (DEDUCED, log entry 35). -/
def State.unwriteSlots (s : State) : State :=
  { s with
    hst := { s.hst with rings := s.hst.rings.map (fun p => (p.1, { p.2 with first := none, last := none, longFirst := none })) },
    mix := { s.mix with odlyFirst := [] } }

end Sys2Proof.Machine
end

