-- ==== Sys2Proof/Machine/Chain.lean ====
section
/-! DEFINITION. The output chains (04_room_correction.md R68–R85, R419, R420): narrowing, delay, biquads, FIR, limiter. -/

namespace Sys2Proof.Machine

open Sys2Proof

def bqReset : BqSt := { x1 := 0, x2 := 0, y1 := 0, y2 := 0, r := 0 }

/-- A chain after reset: states zero, g = 131,072 (R84). -/
def chainReset : ChainSt :=
  { us := [], hs := [], bq := [], q := [], g := 131072, v := [], fadeIn := false, errs := [] }

/-- The active set before the first install: L = 1 and h[0] = 65,536 (R420). -/
def firReset : FirSet := { len := 1, taps := [(0, 65536)], failed := [] }

/-- A staging set nothing was loaded into (log entry 5). -/
def stagingReset : FirSet := { len := 1, taps := [], failed := [] }

def State.chain (s : State) (o : Nat) : ChainSt := s.mix.chains.get chainReset o

def State.setChain (s : State) (o : Nat) (c : ChainSt) : State :=
  { s with mix := { s.mix with chains := s.mix.chains.set chainReset o c } }

/-- H of a chain in block `n`: 7 acts as 6 (R68). -/
def State.headroom (s : State) (o n : Nat) : Nat := min 6 (s.rdAt n (R.MIX_OUT_CFG_HEADROOM o))

/-- Le of a chain in block `n` (R70); LIM_LOOK above 32 acts as 32. -/
def State.lookAhead (s : State) (o n : Nat) : Nat :=
  if s.rdAt n (R.MIX_OUT_LIM_LIM_EN o) = 1 then
    min (min 32 (s.rdAt n (R.MIX_OUT_LIM_LIM_LOOK o))) (s.rdAt n (R.MIX_OUT_CFG_DELAY o))
  else 0

/-- D − Le, the delay of the delay stage in block `n` (R70). -/
def State.stageDelay (s : State) (o n : Nat) : Nat := s.rdAt n (R.MIX_OUT_CFG_DELAY o) - s.lookAhead o n

/-- A sample narrowed with `h1` taken as if narrowed with `h2` (R419) (DEDUCED, log entry 85). -/
def rescale (h1 h2 : Nat) (x : Int) : Int :=
  if h2 ≤ h1 then sat17 (x * 2 ^ (h1 - h2)) else sat17 (rheDiv x (2 ^ (h2 - h1)))

/-! ### Input narrowing (R65, R69) -/

/-- The words of a set that are not sign-extended from bit 47: each is taken as zero and counted (R65). -/
def State.badWords (s : State) (q : Nat) : Nat :=
  let words := dedup ((s.mem.filter (fun p => accAddr q 0 0 ≤ p.1 && p.1 < accAddr q 640 0)).map (fun p => (p.1 - accAddr q 0 0) / 8))
  (words.filter (fun w => (s.accRead q (w / 32) (w % 32)).isNone)).length

/-- Clears an accumulator set: the read-and-clear of stage C (R65). -/
def State.accClear (s : State) (q : Nat) : State :=
  { s with mem := s.mem.filter (fun p => p.1 < accAddr q 0 0 || accAddr q 640 0 ≤ p.1) }

/-! ### Output delay (R70, R71) -/

/-- The HEADROOM block `k` was narrowed with. -/
def ChainSt.hAt (c : ChainSt) (k : Nat) : Nat := Hist.at 2 c.hs k

/-- The tiles of the delay ring that a delay of `d` reads in block `n` (R70). -/
def odlyBlocks (n d : Nat) : List Int :=
  if d < 32 then [] else dedup [(32 * (n : Int) - d) / 32, (32 * (n : Int) - d + 31) / 32]

/-- The block of u delayed by `d` samples, as if narrowed with `h`. -/
def State.delayed (s : State) (o n : Nat) (c : ChainSt) (d h : Nat) : List Int :=
  let run := s.tileRun (.odly o) n (odlyBlocks n d)
  (List.range 32).map (fun (j : Nat) =>
    let i : Int := 32 * (n : Int) + j - d
    if i < 0 then 0
    else
      let k := (i / 32).toNat
      let x := if d < 32 then
          match c.us.find? (fun p => p.1 = k) with
          | some p => p.2.getD (i % 32).toNat 0
          | none => 0
        else nodeOf run n i
      rescale (c.hAt k) h x)

/-! ### Biquads (R72, R73, R419) -/

/-- One section of one sample (R72). -/
def bqStep (b0 b1 b2 a1 a2 : Int) (st : BqSt) (x : Int) : Int × BqSt :=
  let acc := 4 * (b0 * x + b1 * st.x1 + b2 * st.x2 - a1 * st.y1 - a2 * st.y2) + st.r
  let w := rheDiv acc 131072
  let y := sat17 w
  (y, { x1 := x, x2 := st.x1, y1 := y, y2 := st.y1, r := if sat17Hit w then 0 else acc - y * 131072 })

/-- A section over a block. -/
def bqBlock (co : Int × Int × Int × Int × Int) : BqSt → List Int → List Int × BqSt
  | st, [] => ([], st)
  | st, x :: xs =>
    let (y, st') := bqStep co.1 co.2.1 co.2.2.1 co.2.2.2.1 co.2.2.2.2 st x
    let (ys, st'') := bqBlock co st' xs
    (y :: ys, st'')

/-- The cascade over a block: sections in ascending order. The states of sections not computed are not kept (DESIGN CHOICE, log entry 97). -/
def cascade : List (Int × Int × Int × Int × Int) → List BqSt → List Int → List Int × List BqSt
  | [], sts, xs => (xs, sts)
  | co :: cos, sts, xs =>
    let (ys, st) := bqBlock co (sts.headD bqReset) xs
    let (zs, rest) := cascade cos sts.tail ys
    (zs, st :: rest)

/-- The coefficients of section `i` in force for block `n`. -/
def State.bqCoef (s : State) (o n i : Nat) : Int × Int × Int × Int × Int :=
  (s.rdAtI n (R.MIX_OUT_BQ_B0_COEF o i), s.rdAtI n (R.MIX_OUT_BQ_C_COEF o i 0), s.rdAtI n (R.MIX_OUT_BQ_C_COEF o i 1),
    s.rdAtI n (R.MIX_OUT_BQ_C_COEF o i 2), s.rdAtI n (R.MIX_OUT_BQ_C_COEF o i 3))

/-- The cascade in force for block `n`; EQ_N above 32 acts as 32 (R68). -/
def State.bqCascade (s : State) (o n : Nat) : List (Int × Int × Int × Int × Int) :=
  (List.range (min 32 (s.rdAt n (R.MIX_OUT_CFG_EQ_N o)))).map (s.bqCoef o n)

/-- DEDUCED, log entry 85. -/
def BqSt.rescaled (h1 h2 : Nat) (b : BqSt) : BqSt :=
  { x1 := rescale h1 h2 b.x1, x2 := rescale h1 h2 b.x2, y1 := rescale h1 h2 b.y1, y2 := rescale h1 h2 b.y2,
    r := rescale h1 h2 b.r }

/-! ### The correction FIR (R74–R78, R81, R83, R420) -/

/-- The partition a tap lies in (R74): `none` for the head, else tail or middle and its index. -/
def partOf (k : Nat) : Option (Bool × Nat) :=
  if k < 1024 then none else if k < 4096 then some (false, (k - 1024) / 256) else some (true, (k - 4096) / 1024)

/-- The taps of a set that a block uses: head alone in S3 (R83), and without what is omitted (R78). -/
def FirSet.used (f : FirSet) (headOnly : Bool) (omit_ : Bool → Nat → Bool) : List (Nat × Int) :=
  f.taps.filter (fun p => p.1 < f.len && (match partOf p.1 with
    | none => true
    | some (tail, i) => !headOnly && !f.failed.contains (tail, i) && !omit_ tail i))

/-- The exact convolution of R74 at sample `j` of the newest block, in units of 2^−34. -/
def firExact (taps : List (Nat × Int)) (q : List Int) (j : Nat) : Int :=
  2 * (taps.map (fun p => p.2 * q.getD (31 - j + p.1) 0)).sum

/-- Does the accuracy bound of R76 apply: Σ h² ≤ 1.0? (DESIGN CHOICE, log entry 8) -/
def firBound (taps : List (Nat × Int)) : Bool := (taps.map (fun p => p.2 * p.2)).sum ≤ (2 : Int) ^ 32

/-- The error that the next sample may have (R76): the squares of any 1,024 in a row sum to at most 1,024 × (2^−15)^2, that is 2^48 in units of 2^−34. -/
def errRoom (errs : List Int) : Nat := isqrt (2 ^ 48 - ((errs.take 1023).map (fun e => (e * e).toNat)).sum)

/-- z of a set at sample `j`, and its difference from the exact sum: free within R76 where the bound applies, else free. -/
def firOut (taps : List (Nat × Int)) (q : List Int) (free j : Nat) (errs : List Int) : Int × Int :=
  let e := Config.firError (64 * free + j)
  if firBound taps then
    let e := clampI (-(errRoom errs : Int)) (errRoom errs) e
    (satAcc (firExact taps q j + e), e)
  else (satAcc (firExact taps q j + e), 0)

/-- The coefficient set of an output. -/
def State.firSet (s : State) (o set : Nat) : FirSet := s.mix.firs.get firReset (2 * o + set)

/-- Does the FIR run its head alone in block `n` (R83)? -/
def State.headAlone (s : State) (n : Nat) : Bool := Hist.at false s.mix.headOnly n

/-- The install of an output whose crossfade block is `n` (R81). -/
def State.installAt (s : State) (o n : Nat) : Bool :=
  s.mix.installs.any (fun x => x.output = o && (match x.f with | some f => f + 32 = n | none => false))

/-! ### Spectral records (R75, R77, R78) -/

/-- Middle and tail partitions that a FIR of `l` taps uses (R77). -/
def partsMid (l : Nat) : Nat := ceilDiv (min 3072 (l - 1024)) 256
def partsTail (l : Nat) : Nat := ceilDiv (l - 4096) 1024
def partsOf (tail : Bool) (l : Nat) : Nat := if tail then partsTail l else partsMid l

/-- Bins of a spectrum, blocks of a frame (R74). -/
def specBins (tail : Bool) : Nat := if tail then 1024 else 256
def frameLen (tail : Bool) : Nat := if tail then 32 else 8

/-- The frame that a block lies in. -/
def frameOf (tail : Bool) (n : Nat) : Nat := n / frameLen tail

/-- KIND of a record (R78). -/
def specKind (tail coef : Bool) : Nat := b2n tail + (if coef then 0 else 2)

/-- The place of a record: output, coefficient set (0 for input), KIND, partition or frame modulo 12. -/
def specKey (o set kind i : Nat) : Nat := ((o * 2 + set) * 4 + kind) * 12 + i

/-- The mantissas of a record, 36 bits a bin, bin 0 in the low bits (R75, R78). -/
def specPayload (est : Nat) (n : Nat) : Nat := (List.range n).foldr (fun b acc => (Config.specBin est b).toNat + 2 ^ 36 * acc) 0

/-- The bytes of a record before its CRC (R78). -/
def SpecRec.bytes (r : SpecRec) (tail : Bool) : List Byte :=
  leBytes (specBins tail * 9 / 2) (specPayload r.est (specBins tail)) ++ leBytes 6 (bitsOf r.trailer.toNat 47 0)

/-- A record as the device writes it. -/
def specMake (est : Nat) (tail coef : Bool) (part o seq : Nat) : SpecRec :=
  let head := seq % 65536 + o * 2 ^ 16 + specKind tail coef * 2 ^ 26 + part * 2 ^ 28 + (Config.specExp est).toNat * 2 ^ 32
  let r : SpecRec := ⟨est, BitVec.ofNat 64 head⟩
  { r with trailer := BitVec.ofNat 64 (head + (crc16 (r.bytes tail)).toNat * 2 ^ 48) }

/-- Does a record pass at a use (R10, R78): its CRC, and the fields of the record expected there? -/
def SpecRec.ok (r : SpecRec) (tail coef : Bool) (part o seq : Nat) : Bool :=
  let w := r.trailer.toNat
  (crc16 (r.bytes tail)).toNat = bitsOf w 63 48 && bitsOf w 15 0 = seq % 65536 && bitsOf w 25 16 = o && bitsOf w 27 26 = specKind tail coef && bitsOf w 31 28 = part

/-- A record damaged in DRAM. -/
def SpecRec.damaged (r : SpecRec) : SpecRec := { r with trailer := r.trailer ^^^ 0x0001000000000000#64 }

def State.setSpec (s : State) (key : Nat) (r : SpecRec) : State := { s with mix := { s.mix with specs := s.mix.specs.set ⟨0, 0⟩ key r } }

/-- A record that stands at a key, if one was written. -/
def State.specAt (s : State) (key : Nat) : Option SpecRec := (s.mix.specs.find? (fun p => p.1 = key)).map Prod.snd

/-- Chains go on as if the input had been silent: delay lines, biquad states and input spectra are zero (R82, R363); `g` gives the limiter gain of each output. -/
def State.silentChains (s : State) (g : Nat → Nat) : State :=
  { s with mix := { s.mix with
      chains := s.mix.chains.keys.foldl (fun c o => c.set chainReset o { chainReset with g := g o }) [],
      specs := s.mix.specs.filter (fun p => p.1 / 12 % 4 < 2), omits := [], specLate := [] } }

/-- Is an output in an install (R80, R81)? -/
def State.inInstall (s : State) (o : Nat) : Bool := s.mix.installs.any (fun x => x.output = o && !x.done)

/-- Taps of an output's FIR: the active set, or a longer one that an install brings. -/
def State.firTaps (s : State) (o : Nat) : Nat :=
  max (s.firSet o (s.rd (R.MIX_OUT_FIR_FIR_SET o))).len (if s.inInstall o then (s.mix.staging.get stagingReset o).len else 0)

/-- The coefficient records of a set are written (R81 step 1): every partition it uses, with its generation in SEQ. -/
def State.writeCoefs (s : State) (o set gen : Nat) : State :=
  [false, true].foldl (fun s tail =>
    (List.range (partsOf tail (s.firSet o set).len)).foldl (fun s p =>
      (s.setSpec (specKey o set (specKind tail true) p) (specMake s.free tail true p o gen)).fresh) s) s

/-- Are input records of block `n` written: outside S3, and after it from the tail frame boundary that precedes the full filter by 512 blocks (R78, R83)? -/
def State.inputsOn (s : State) (n : Nat) : Bool := !Hist.at false s.mix.headOnly (n + 512)

/-- The input record of a frame is written when its last block has gone through the chain, whatever FIR_EN says (R78, R420). -/
def State.writeInputs (s : State) (o n : Nat) : State :=
  if !s.inputsOn n then s
  else [false, true].foldl (fun s tail =>
    if (n + 1) % frameLen tail = 0 && 0 < partsOf tail (s.firTaps o) then
      let f := frameOf tail n
      (s.setSpec (specKey o 0 (specKind tail false) (f % 12)) (specMake s.free tail false 0 o f)).fresh
    else s) s

/-- A record named as damaged is damaged where it stands. -/
def State.damageSpec (s : State) (n : Nat) (x : SpecItem) : State :=
  let g := frameOf x.tail n
  let set := s.rdAt n (R.MIX_OUT_FIR_FIR_SET x.output)
  if x.coef then
    let key := specKey x.output set (specKind x.tail true) x.part
    s.setSpec key ((s.specAt key).getD (specMake 0 x.tail true x.part x.output (s.rdAt n (R.MIX_OUT_FIR_FIR_GEN x.output)))).damaged
  else if g < 4 + x.part then s
  else
    let f := g - 4 - x.part
    let key := specKey x.output 0 (specKind x.tail false) (f % 12)
    s.setSpec key ((s.specAt key).getD (specMake 0 x.tail false 0 x.output f)).damaged

/-- A coefficient record fails: its partition is omitted until the set is installed again (R78). -/
def State.coefFails (s : State) (o set : Nat) (tail : Bool) (p : Nat) : State :=
  let f := s.firSet o set
  ((s.bump R.MIX_CNT_SPEC_FAIL_VALUE).flag (R.MIX_OUT_STATUS_FIR_ERR o)) |> fun s =>
    { s with mix := { s.mix with firs := s.mix.firs.set firReset (2 * o + set) { f with failed := f.failed ++ [(tail, p)] } } }

/-- An input record fails: the output frame omits its term (R78). -/
def State.inputFails (s : State) (o : Nat) (tail : Bool) (p g : Nat) : State :=
  let s := s.bump R.MIX_CNT_SPEC_FAIL_VALUE
  { s with mix := { s.mix with omits := s.mix.omits ++ [⟨o, tail, p, g⟩] } }

/-- One partition of an output frame of block `n`, which reads a coefficient record and an input record (R74, R78). -/
def State.usePart (s : State) (o n set : Nat) (tail : Bool) (p : Nat) : State :=
  let g := frameOf tail n
  if (s.firSet o set).failed.contains (tail, p) then s
  else
    let gen := s.rdAt n (R.MIX_OUT_FIR_FIR_GEN o) + (if set = s.rdAt n (R.MIX_OUT_FIR_FIR_SET o) then 0 else 1)
    let s := match s.specAt (specKey o set (specKind tail true) p) with
      | some r => if r.ok tail true p o gen then s else s.coefFails o set tail p
      | none => s
    if g < 4 + p || s.mix.omits.contains ⟨o, tail, p, g⟩ then s
    else match s.specAt (specKey o 0 (specKind tail false) ((g - 4 - p) % 12)) with
      | some r => if r.ok tail false 0 o (g - 4 - p) then s else s.inputFails o tail p g
      | none => s

/-- The coefficient sets that an output's frames are computed with in block `n`: the active one, and from block F on that of an install (R81). -/
def State.setsUsed (s : State) (o n : Nat) : List Nat :=
  let a := s.rdAt n (R.MIX_OUT_FIR_FIR_SET o)
  (if s.rdAt n (R.MIX_OUT_CFG_FIR_EN o) = 1 || s.rdAt (n - 1) (R.MIX_OUT_CFG_FIR_EN o) = 1 then [a] else []) ++
    (if s.mix.installs.any (fun x => x.output = o && (match x.f with | some f => decide (f ≤ n ∧ n ≤ f + 32) | none => false)) then [1 - a] else [])

/-- The records that the frames beginning with block `n` use are verified; a filter that runs its head alone uses none (R78, R83). -/
def State.useSpecs (s : State) (n : Nat) (outs : List Nat) : State :=
  let s := { s with mix := { s.mix with omits := s.mix.omits.filter (fun x => x.frame = frameOf x.tail n) } }
  if s.headAlone n then s
  else [false, true].foldl (fun s tail =>
    if n % frameLen tail ≠ 0 then s
    else outs.foldl (fun s o => (s.setsUsed o n).foldl (fun s set =>
      (List.range (partsOf tail (s.firSet o set).len)).foldl (fun s p => s.usePart o n set tail p) s) s) s) s

/-! ### z (R74, R76, R81, R83, R420) -/

/-- What a chain forms z with: FIR in use, coefficient set, head alone. -/
structure ZConf where
  en   : Bool
  set  : Nat
  head : Bool
  deriving DecidableEq, Repr

/-- z at one sample of block `n` for a configuration, and its difference from the exact convolution. -/
def State.zWith (s : State) (o n : Nat) (q : List Int) (free j : Nat) (errs : List Int) (x : ZConf) : Int × Int :=
  if x.en then
    let bad (tail : Bool) (p : Nat) : Bool :=
      s.mix.specLate.any (fun y => y.output = o && y.tail = tail) || s.mix.omits.contains ⟨o, tail, p, frameOf tail n⟩
    firOut ((s.firSet o x.set).used x.head bad) q free j errs
  else (q.getD (31 - j) 0 * 131072, 0)

/-- The configurations of block `n`, before and after its boundary: they differ where an install, FIR_EN or S3 crossfades (R81, R83, R420). -/
def State.zConfs (s : State) (o n : Nat) : ZConf × ZConf :=
  let m := n - 1
  let en := s.rdAt n (R.MIX_OUT_CFG_FIR_EN o) = 1
  let set := s.rdAt n (R.MIX_OUT_FIR_FIR_SET o)
  let inst := s.installAt o n
  let old : ZConf := ⟨s.rdAt m (R.MIX_OUT_CFG_FIR_EN o) = 1 || (0 < n && s.installAt o m), set, s.headAlone m⟩
  (old, ⟨en || inst, if inst then 1 - set else set, s.headAlone n⟩)

/-- z of block `n` at sample `j`, with its crossfade, and the larger of the two differences. -/
def State.zAt (s : State) (o n : Nat) (q : List Int) (j : Nat) (errs : List Int) : Int × Int :=
  let c := s.zConfs o n
  let z := s.zWith o n q (2 * s.free) j errs c.2
  if c.1 = c.2 then z
  else
    let y := s.zWith o n q (2 * s.free + 1) j errs c.1
    (crossfade j y.1 z.1, if z.2.natAbs < y.2.natAbs then y.2 else z.2)

/-- z over a block, and the differences kept. -/
def State.zBlock (s : State) (o n : Nat) (q errs : List Int) : List Int × List Int :=
  (List.range 32).foldl (fun acc j =>
    let r := s.zAt o n q j acc.2
    (acc.1 ++ [r.1], (r.2 :: acc.2).take 1023)) ([], errs)

/-! ### The limiter (R84) -/

/-- r(k): the gain that holds one sample to the threshold. -/
def limNeed (t17 : Nat) (v : Int) : Nat :=
  if v.natAbs ≤ t17 * 131072 then 131072 else 131072 * (t17 * 131072) / v.natAbs

/-- The gain asked for over the look-ahead: the minimum over k = 0 … Le (`vs` starts at v[t]). -/
def limAsk (t17 le : Nat) : List Int → Nat → Nat → Nat
  | [], _, m => m
  | v :: vs, k, m =>
    let r := limNeed t17 v
    limAsk t17 le vs (k + 1) (min m (r + (131072 - r) * k / (le + 1)))

/-- The next gain (R84). -/
def limGain (g a rel : Nat) : Nat :=
  if a ≤ g then a else min a (g + max 1 (rheDivNat ((131072 - g) * rel) 16777216))

/-- The limiter over a block: `vs` holds the Le samples before the block and the block, oldest first. -/
def limRun (t17 le rel : Nat) : Nat → List Int → Nat → List Int × Nat × Bool
  | 0, _, g => ([], g, false)
  | c + 1, vs, g =>
    let a := limAsk t17 le (vs.take (le + 1)) 0 131072
    let g' := limGain g a rel
    let y := sat17 (rheDiv (vs.headD 0 * g') (2 ^ 34))
    let (ys, g'', l) := limRun t17 le rel c vs.tail g'
    (y :: ys, g'', l || g' < 131072)

/-! ### A chain over a block -/

/-- Stage C of block `n` for one output whose layout record is PRESENT: narrowing, delay with its crossfade (R71), biquads with
theirs (R73, R419), FIR, makeup (R69), limiter (R84, R85). Gives the block and the new chain. Where HEADROOM changes, the old cascade takes the block as if narrowed with
H_old (DESIGN CHOICE, log entry 98). With the limiter off its gain stays as it is (DESIGN CHOICE, log entry 99). -/
def State.chainBlock (s : State) (o n : Nat) (u : List Int) : List Int × ChainSt × Bool :=
  let c := s.chain o
  let h := s.headroom o n
  let h0 := if n = 0 then h else s.headroom o (n - 1)
  let hs := if c.hs.headD (0, 8) = (n, h) then c.hs else (n, h) :: c.hs.take 2100
  let c := { c with us := (n, u) :: c.us.take 2, hs := hs }
  let d := s.stageDelay o n
  let d0 := if n = 0 then d else s.stageDelay o (n - 1)
  let stage (hh : Nat) : List Int :=
    let new := s.delayed o n c d hh
    if d = d0 then new
    else
      let old := s.delayed o n c d0 hh
      (List.range 32).map (fun j => crossfade j (old.getD j 0) (new.getD j 0))
  let x := stage h
  let cNew := s.bqCascade o n
  let cOld := if n = 0 then cNew else s.bqCascade o (n - 1)
  let stNew := if h = h0 then c.bq else c.bq.map (BqSt.rescaled h0 h)
  let (yNew, bq) := cascade cNew stNew x
  let ys :=
    if cNew = cOld ∧ h = h0 then yNew
    else
      let yOld := ((cascade cOld c.bq (stage h0)).1).map (rescale h0 h)
      (List.range 32).map (fun j => crossfade j (yOld.getD j 0) (yNew.getD j 0))
  let past := if h = h0 then c.q else c.q.map (rescale h0 h)
  let q := (ys.reverse ++ past).take 16416
  let (zs, errs) := s.zBlock o n q c.errs
  let c := { c with errs := errs }
  let v := zs.map (fun z => satAcc (z * 2 ^ h))
  let le := s.lookAhead o n
  if s.rdAt n (R.MIX_OUT_LIM_LIM_EN o) = 1 then
    let t17 := limThreshold (s.rdAtI n (R.MIX_OUT_LIM_LIM_THRESH o))
    let past := ((c.v ++ List.replicate 32 0).take le).reverse
    let (y, g, l) := limRun t17 le (s.rdAt n (R.MIX_OUT_LIM_REL_LIM_REL o)) 32 (past ++ v) c.g
    (y, { c with bq := bq, q := q, g := g, v := v.reverse }, l)
  else
    (v.map (fun w => sat17 (rheDiv w 131072)), { c with bq := bq, q := q, v := v.reverse }, false)

/-- The tile of an output's delay ring (R70) (DESIGN CHOICE, log entry 58). -/
def State.writeOdly (s : State) (o n : Nat) (u : List Int) : State :=
  let t := tileMake (payloadOf u) (1024 + o) n { fade := false, nonAudio := false, late := false, silence := false }
  { s with mix := { s.mix with
      odly := s.mix.odly.set tileZero (o * 2056 + n % 2056) t,
      odlyFirst := if s.mix.odlyFirst.get 0 o = 0 then s.mix.odlyFirst.set 0 o (n + 1) else s.mix.odlyFirst } }

/-- A released block of an output (R20): silence when the chain was not ready, counted, and a fade-in after that (DEDUCED, log entry 34). -/
def State.release (s : State) (o n : Nat) (late : Bool) (y : List Int) : State :=
  let c := s.chain o
  let ys := if late then List.replicate 32 0
    else if c.fadeIn || s.mix.fades.contains (n, true) then (List.range 32).map (fun j => fadeIn j (y.getD j 0))
    else if s.mix.fades.contains (n, false) then (List.range 32).map (fun j => fadeOut j (y.getD j 0))
    else y
  let s := s.setChain o { c with fadeIn := late }
  { s with mix := { s.mix with released := s.mix.released.set [] (4 * o + n % 4) ys, relLate := s.mix.relLate + b2n late } }

/-- Stage C of block `n` of one output, and its release. -/
def State.runChain (s : State) (n : Nat) (late : List Nat) (o : Nat) : State :=
  let h := s.headroom o n
  let u := (List.range 32).map (fun j => sat17 (rheDiv ((s.accRead (n % 2) o j).getD 0) (2 ^ (17 + h))))
  let s := s.writeOdly o n u
  let d := s.stageDelay o n
  let s := (dedup (odlyBlocks n d ++ odlyBlocks n (if n = 0 then d else s.stageDelay o (n - 1)))).foldl (fun s k => s.countUse (.odly o) k) s
  let (y, c, l) := s.chainBlock o n u
  ((((s.setChain o c).wr (R.MIX_OUT_STATUS_LIMITING o) (b2n l)).release o n (late.contains o) y).writeInputs o n)

/-- The outputs whose layout record is PRESENT in the active bank (R31) (DEDUCED, log entry 34). -/
def State.presentOutputs (s : State) : List Nat :=
  (List.range 640).filter (fun o => bitOf (s.bankWord s.activeBank (8 * o)) 0)

/-- Stage C of block `n`: damaged words are counted, every chain runs, then the accumulator set is clear (R65). The free-value counter advances. -/
def State.stageC (s : State) (n : Nat) (late : List Nat) : State :=
  let s := s.accBad (s.badWords (n % 2))
  if s.on R.MIX_CTRL_ENABLE then
    let s := s.presentOutputs.foldl (fun s o => (s.runChain n late o).fresh) s
    let s := s.accClear (n % 2)
    { s with mix := { s.mix with specLate := [], odlyFail := [] } }
  else s.accClear (n % 2)

/-- The released block of an output, sample 0 first; silence where none was released. -/
def State.releasedBlock (s : State) (o n : Nat) : List Int :=
  match s.mix.released.get [] (4 * o + n % 4) with
  | [] => List.replicate 32 0
  | xs => xs

end Sys2Proof.Machine
end

