-- ==== Sys2Proof/Machine/Session.lean ====
section
/-! DEFINITION. Host sessions: queues, events, ownership, and the one reception check every opcode goes through
(14_verica_protocol.md R271–R294). -/

namespace Sys2Proof.Machine

open Sys2Proof

/-! ### Ports and queues (R272, R292) -/

def portReset : Port := { out := [], wait := [], busy := none, inb := 0, stat := none, sent := none, shifted := [] }

def State.port (s : State) (p : Nat) : Port := s.ports.get portReset p

def State.setPort (s : State) (p : Nat) (x : Port) : State := { s with ports := s.ports.set portReset p x }

/-- Is a port a network port (R271)? -/
def isNet (p : Nat) : Bool := 2 ≤ p

/-- A packet is queued (R272): an SPI port holds 16 outbound packets, and a reply waits for room. A network port sends at
once; its queue shows the last 16 packets sent (DESIGN CHOICE, log entry 16). -/
def State.enqueue (s : State) (p : Nat) (k : Packet) : State :=
  let x := s.port p
  if isNet p then s.setPort p { x with out := (x.out ++ [k]).drop (x.out.length + 1 - 16) }
  else if x.out.length < 16 then s.setPort p { x with out := x.out ++ [k] }
  else s.setPort p { x with wait := x.wait ++ [k] }

/-- The event packet of a session. -/
def eventPacket (i : Nat) (x : Session) (e : Nat × Nat × List Byte) : Packet :=
  { sess := i, major := x.major, minor := x.minor, key := x.keys, op := e.2.1, seq := e.1, event := true, more := false, chunk := 0, prot := x.prot, status := .ok, data := e.2.2 }

/-- One event leaves a session's queue for its port; when room returns, dropped events are reported by one LOST event. -/
def State.moveEvent (s : State) (i : Nat) : State :=
  let x := s.session i
  match x.events with
  | [] => s
  | e :: es =>
    let x' := if x.lost = 0 then { x with events := es }
      else { x with events := es ++ [(x.evSeq, 0x0E08, leBytes 8 s.tm.blockCount ++ leBytes 4 x.lost)], evSeq := x.evSeq + 1,
                    lost := 0 }
    (s.setSession i x').enqueue x.port (eventPacket i x e)

/-- Is there room for an event on a port? -/
def State.roomOn (s : State) (p : Nat) : Bool := isNet p || ((s.port p).out.length < 16 && (s.port p).wait = [])

/-- Moves events to ports while there is room: `n` rounds over the eight sessions. -/
def State.pump (s : State) : Nat → State
  | 0 => s
  | n + 1 =>
    State.pump ((List.range 8).foldl (fun s i =>
      if (s.session i).events ≠ [] && s.roomOn (s.session i).port then s.moveEvent i else s) s) n

/-- An event for one session (R292). Protocol 1 sessions get none (R294) (DEDUCED, log entry 84). -/
def State.eventTo (s : State) (i op : Nat) (fields : List Byte) : State :=
  let x := s.session i
  if x.phase = .closed ∨ x.major = 1 then s
  else if x.events.length < 64 then
    (s.setSession i { x with events := x.events ++ [(x.evSeq, op, leBytes 8 s.tm.blockCount ++ fields)],
                             evSeq := x.evSeq + 1 }).pump 2
  else
    (s.setSession i { x with evSeq := x.evSeq + 1, lost := x.lost + 1 }).bump (R.HIF_CNT_EVT_LOST_VALUE x.port)

/-- An event for every session. -/
def State.eventAll (s : State) (op : Nat) (fields : List Byte) : State :=
  (List.range 8).foldl (fun s i => s.eventTo i op fields) s

/-- An event for every session of class 0 or 1. -/
def State.eventOps (s : State) (op : Nat) (fields : List Byte) : State :=
  (List.range 8).foldl (fun s i => if (s.session i).cls ≤ 1 then s.eventTo i op fields else s) s

/-- An event for the owner of a resource, if it has one. -/
def State.eventOwner (s : State) (ref op : Nat) (fields : List Byte) : State :=
  match s.ownerOf ref with
  | some i => s.eventTo i op fields
  | none => s

/-- The events of R313, by group. -/
def State.evPower (s : State) (ch kind state attempts : Nat) : State :=
  s.eventOwner (refPs ch) 0x0E02 (leBytes 1 ch ++ leBytes 1 kind ++ leBytes 1 state ++ leBytes 1 attempts)
def State.evLine (s : State) (ch result r z arg : Nat) : State :=
  s.eventOwner (refPs ch) 0x0E03 (leBytes 1 ch ++ leBytes 1 result ++ leBytes 1 r ++ leBytes 1 0 ++ leBytes 2 z ++ leBytes 2 arg)
def State.evOwner (s : State) (i kind other : Nat) (refs : List Nat) : State :=
  s.eventTo i 0x0E04 (leBytes 1 kind ++ leBytes 1 other ++ leBytes 2 refs.length ++ (refs.map (leBytes 2)).flatten)
def State.evSupply (s : State) (stage left mv : Nat) : State :=
  s.eventAll 0x0E05 (leBytes 1 stage ++ leBytes 1 left ++ leBytes 2 0 ++ leBytes 4 mv)
def State.evMirror (s : State) (kind : Nat) : State := s.eventAll 0x0E06 (leBytes 1 kind ++ leBytes 3 0)
def State.evTime (s : State) (kind tag : Nat) : State := s.eventAll 0x0E07 (leBytes 1 kind ++ leBytes 3 0 ++ leBytes 4 tag)

/-! ### Replies (R274, R284, R300) -/

/-- Status as a protocol 1 session reports it (R294). -/
def Status.forMajor (major : Nat) (st : Status) : Status :=
  if major = 1 then (match st with | .check | .stale | .limit => .badParam | x => x) else st

/-- Data cut into chunks of at most `n` bytes, with `fuel` chunks at most. -/
def chunks (n : Nat) : Nat → List Byte → List (List Byte)
  | 0, _ => []
  | fuel + 1, bs => if bs.length ≤ n then [bs] else bs.take n :: chunks n fuel (bs.drop n)

/-- The packets of a reply (R300): one, or consecutive ones with MORE set on all but the last. -/
def replyPackets (i : Nat) (x : Session) (op seq : Nat) (st : Status) (data : List Byte) : List Packet :=
  let cs := chunks (x.pmax - 1) (data.length + 1) data
  (List.range cs.length).map (fun n =>
    { sess := i, major := x.major, minor := x.minor, key := x.keys, op := op, seq := seq, event := false, more := n + 1 < cs.length, chunk := n, prot := x.prot,
      status := Status.forMajor x.major st, data := cs.getD n [] })

/-! ### Packets as bytes (R274–R276) -/

/-- The status byte of a reply; the codes are not given (DESIGN CHOICE, log entry 116). -/
def Status.byte (st : Status) : Byte := match st with
  | .ok => Config.statusByte 0
  | .busy => Config.statusByte 1 | .version => Config.statusByte 2 | .stale => Config.statusByte 3 | .unknownOpcode => Config.statusByte 4
  | .badLength => Config.statusByte 5 | .badParam => Config.statusByte 6 | .notOwner => Config.statusByte 7 | .shed => Config.statusByte 8
  | .limit => Config.statusByte 9 | .conflict => Config.statusByte 10 | .check => Config.statusByte 11 | .fault => Config.statusByte 12
  | .auth => Config.statusByte 13

/-- The payload: a reply begins with its status byte, an event with its BLOCK_COUNT (R274, R292). -/
def Packet.payload (k : Packet) : List Byte := if k.event then k.data else Status.byte k.status :: k.data

/-- The header of 16 bytes: marker, version, session, flags, opcode with bit 15 in a reply, sequence, payload length (R274, R275). -/
def Packet.head (k : Packet) : List Byte :=
  [0x5A#8, 0x56#8] ++ leBytes 1 k.major ++ leBytes 1 k.minor ++ leBytes 1 k.sess ++ leBytes 1 (4 * b2n k.event + 8 * b2n k.more + 16 * b2n k.prot) ++
    leBytes 2 (if k.event then k.op else k.op % 32768 + 32768) ++ leBytes 4 k.seq ++ leBytes 2 (Packet.payload k).length ++ leBytes 2 0

/-- The nonce of a packet from the device: salt, sequence, 1 for an event, chunk index (R276). -/
def Packet.nonce (k : Packet) : List Byte := leBytes 4 (Config.sessionSalt k.key).toNat ++ leBytes 4 k.seq ++ leBytes 1 (b2n k.event) ++ leBytes 3 k.chunk

/-- The payload as it travels: on a protected session encrypted under the session's key, with its tag of 16 bytes (R276; DESIGN CHOICE, log entry 12). -/
def Packet.body (k : Packet) : List Byte :=
  if k.prot then
    (List.range ((Packet.payload k).length + 16)).map (Config.gcmByte k.key (Packet.nonce k) (Packet.head k) (Packet.payload k))
  else Packet.payload k

/-- A packet's bytes, with the CRC-32 over all of them before it (R274). -/
def Packet.bytes (k : Packet) : List Byte :=
  let bs := Packet.head k ++ Packet.body k
  bs ++ leBytes 4 (crc32 bs).toNat

/-- Is HIFn_ATTN_N of an SPI port driven low: an outbound packet is pending (R272)? -/
def State.attnLow (s : State) (p : Nat) : Bool := (s.port p).out ≠ []

/-- A reply to an accepted command is remembered: one packet is cached, 16 of them; of more, the sequence alone (R284) (DEDUCED, log entry 117). -/
def State.remember (s : State) (i seq : Nat) (ps : List Packet) : State :=
  let x := s.session i
  match ps with
  | [k] => s.setSession i { x with cache := ((seq, k) :: x.cache).take 16 }
  | _ => s.setSession i { x with spans := seq :: (x.spans.filter (fun q => q ≠ seq)).take 15 }

/-- Sends a reply on a session. -/
def State.reply (s : State) (i op seq : Nat) (st : Status) (data : List Byte) (accepted : Bool) : State :=
  let x := s.session i
  let ps := replyPackets i x op seq st data
  let s := if accepted then s.remember i seq ps else s
  ps.foldl (fun s k => s.enqueue x.port k) s

/-! ### Ownership (R285–R287) -/

/-- An owner, and the former owners recorded behind it. -/
def State.setOwner (s : State) (ref : Nat) (o : Option Nat) (f : List Nat) : State :=
  let code (x : Option Nat) : Nat := match x with | some i => i + 1 | none => 0
  { s with owner := s.owner.set 0 ref (code o), former := s.former.set [] ref f }

/-- The recorded former owners of a resource. -/
def State.formers (s : State) (ref : Nat) : List Nat := s.former.get [] ref

/-- Releases resources of session `i` (R287): each goes back to its recorded former owner, with one OWNER event per former
owner, or becomes unowned. The records of sessions that have closed are gone (`closeSession`). -/
def State.releaseRefs (s : State) (i : Nat) (refs : List Nat) : State :=
  let mine := refs.filter (fun r => s.owns i r)
  let back := mine.map (fun r => (r, (s.formers r).head?, (s.formers r).tail))
  let s := back.foldl (fun s p => s.setOwner p.1 p.2.1 p.2.2) s
  (List.range 8).foldl (fun s j =>
    let rs := (back.filter (fun p => p.2.1 = some j)).map Prod.fst
    if rs = [] then s else s.evOwner j 1 i rs) s

/-- Every resource a session owns. -/
def State.ownedBy (s : State) (i : Nat) : List Nat := (s.owner.filter (fun p => p.2 = i + 1)).map Prod.fst

/-- The word of open sessions (HIF_STATUS.OPEN, R295). -/
def State.showOpen (s : State) : State :=
  s.wr R.HIF_STATUS_OPEN ((List.range 8).foldr (fun i acc => b2n (s.isOpen i) + 2 * acc) 0)

/-- Maintenance mode ends (R395). -/
def State.endMaint (s : State) : State := { s with maint := none }.wr R.SEC_STATUS_MAINT 0

/-- What a session holds beside resources ends with it: its maintenance mode (R395), its open firmware transfer unless FW_COMMIT runs (R306), its part in
a message that is being stored (R307). -/
def State.dropHeld (s : State) (i : Nat) : State :=
  let s := if s.maint = some i then s.endMaint else s
  let s := match s.fw with
    | some x => if x.sess = i && s.devBusy.isNone then { s with fw := none } else s
    | none => s
  { s with msgs := s.msgs.map (fun p => (p.1, p.2.map (fun (m : Msg) => if m.sess = some i then { m with sess := none } else m))) }

/-- Closes a session under R287: its resources, staging set, timed places and events go; changes it had accepted stand. -/
def State.closeSession (s : State) (i : Nat) : State :=
  let s := (s.releaseRefs i (s.ownedBy i)).dropHeld i
  let s := { s with former := (s.former.map (fun (p : Nat × List Nat) => (p.1, p.2.takeWhile (fun j => j ≠ i)))).filter (fun p => p.2 ≠ []) }
  (s.setSession i sessReset).showOpen

/-! ### Long operations (R289–R291) -/

/-- The busy bits of HIF_STATUS (R295). -/
def State.showBusy (s : State) : State :=
  (s.wr R.HIF_STATUS_PORT_BUSY ((List.range 6).foldr (fun p acc =>
    b2n (s.devBusy.isSome || (s.port p).busy.isSome) + 2 * acc) 0)).wr R.HIF_STATUS_DEV_BUSY (b2n s.devBusy.isSome)

/-- A long operation of a port begins (R289). -/
def State.beginLong (s : State) (p i op seq maxMs : Nat) : State :=
  (s.setPort p { s.port p with busy := some ⟨op, i, seq, s.tm.raw, maxMs, 0⟩ }).showBusy

/-- What the completion of a port's operation needs. -/
def State.longArg (s : State) (p a : Nat) : State :=
  s.setPort p { s.port p with busy := (s.port p).busy.map (fun l => { l with arg := a }) }

/-- A device-wide operation begins (R290). -/
def State.beginDevice (s : State) (i op seq maxMs : Nat) : State :=
  { s with devBusy := some ⟨op, i, seq, s.tm.raw, maxMs, 0⟩ }.showBusy

/-- The port whose long operation has an opcode. -/
def State.portRunning (s : State) (op : Nat) : Option Nat :=
  (List.range 6).find? (fun p => match (s.port p).busy with | some l => l.op = op | none => false)

/-- The final reply of the long operation of port `p`: queued when its session is still open (R287), and the port is free. -/
def State.endLong (s : State) (p : Nat) (st : Status) (data : List Byte) : State :=
  match (s.port p).busy with
  | none => s
  | some l =>
    let s := (s.setPort p { s.port p with busy := none }).showBusy
    if s.isOpen l.sess && (s.session l.sess).port = p then s.reply l.sess l.op l.seq st data true else s

/-- The final reply of the device-wide operation. -/
def State.endDevice (s : State) (st : Status) (data : List Byte) : State :=
  match s.devBusy with
  | none => s
  | some l =>
    let s := { s with devBusy := none }.showBusy
    if s.isOpen l.sess then s.reply l.sess l.op l.seq st data true else s

/-- The operation a packet on port `p` finds running (R289, R290). -/
def State.running (s : State) (p : Nat) : Option LongOp :=
  match s.devBusy with
  | some l => some l
  | none => (s.port p).busy

/-- Is an opcode device-wide (R290): FW_COMMIT, KEY_ROTATE, RESET? -/
def deviceWide (code : Nat) : Bool := code = 0x0A05 || code = 0x0A06 || code = 0x0F04

/-- What a command finds running (R289); a device-wide one is stopped by the operation of any port (R290). -/
def State.runningFor (s : State) (p code : Nat) : Option LongOp :=
  if deviceWide code then (s.running p).orElse (fun _ => (List.range 6).findSome? (fun q => (s.port q).busy)) else s.running p

/-- The BUSY payload: running opcode and remaining maximum in ms (R289). -/
def State.busyData (s : State) (l : LongOp) : List Byte :=
  leBytes 2 l.op ++ leBytes 4 (l.maxMs - (s.tm.raw - l.since) / 500000)

/-! ### Reception (R277) -/

/-- How the deadline of a timed command follows from its presentation time (R21): it takes none, all its fields apply
within the block that holds the time, all take effect from the first block that begins at or after it, or some do the one and some the other. -/
inductive TimedKind where
  | no | within | nextBlock | both
  deriving DecidableEq, Repr

/-- Which units execute an opcode: queries and the mirror group; the opening and closing of sessions; the rest of the session group; anything else
(R288, R325, R387). -/
inductive Allow where
  | query | session | claims | other
  deriving DecidableEq, Repr

/-- What the tables of R312 say of an opcode: code, version that introduced it, TIMED, RAMP, and which units execute it. -/
structure OpInfo where
  code    : Nat
  since   : Nat × Nat
  timed   : TimedKind
  ramp    : Bool
  allow   : Allow
  deriving DecidableEq, Repr

/-- An opcode that takes neither TIMED nor RAMP. -/
def op (code major minor : Nat) (allow : Allow) : OpInfo := ⟨code, (major, minor), .no, false, allow⟩

/-- Bytes of the TIMED and RAMP prefixes (R297). -/
def hdrPrefix (h : Hdr) : Nat := (if h.timed then 8 else 0) + (if h.ramp then 2 else 0)

/-- The earliest block a command takes effect from or in (R21). -/
def State.hdrBlock (s : State) (h : Hdr) (k : TimedKind) : Nat :=
  if !h.timed then s.effectBlock
  else match k with
    | .within | .both => s.blockOf h.time
    | _ => s.blockFrom h.time

/-- The block from which the fields of a command that apply at a boundary take effect (R21) (DEDUCED, log entry 51). -/
def State.hdrNext (s : State) (h : Hdr) : Nat := if h.timed then s.blockFrom h.time else s.effectBlock

/-- The instant of C at which a timed command has applied. -/
def State.hdrDone (s : State) (h : Hdr) (k : TimedKind) : Nat :=
  match k with
  | .within => h.time
  | _ => s.tBlock (s.blockFrom h.time)

/-- The input sample a gain change of a command applies from (R154). -/
def State.hdrSample (s : State) (h : Hdr) : Nat := if h.timed then s.sampleAt h.time else 32 * s.effectBlock

/-- The flags check of step 9 (R275, R293, R294, R297); before the first lock every timed command is stale (R388). -/
def State.flagCheck (s : State) (h : Hdr) (d : OpInfo) (x : Session) : Status :=
  if h.rsvFlags ∨ h.event ∨ h.more ∨ h.rsvHdr then .badParam
  else if h.timed ∧ (d.timed = .no ∨ x.major = 1) then .badParam
  else if h.ramp ∧ (!d.ramp ∨ x.major = 1) then .badParam
  else if h.ramp ∧ (h.rampMs = 0 ∨ 10000 < h.rampMs) then .badParam
  else if !h.timed then .ok
  else if s.now + 43200000000000 < h.time then .badParam
  else if !s.locked || s.tBlock (s.hdrBlock h d.timed) ≤ s.now + cut then .stale
  else if 64 ≤ (x.timed.filter (fun c => s.now < c)).length then .limit
  else .ok

/-- Is this unit a standby (R288)? -/
def State.standsBy (s : State) : Bool := s.rd R.FLD_STATUS_ROLE = 2

/-- Is this unit leaving its role: LEAVING, or from 125.00 µs before its handover boundary on (R325)? -/
def State.leavesRole (s : State) : Bool :=
  s.rd R.FLD_STATUS_ROLE = 3 || (match s.mir.change with
    | some x => x.leaving && decide (s.tBlock x.s ≤ s.now + cut)
    | none => false)

/-- Does this unit answer FAULT to a command that reaches execution: in S5 to any (R372); a leaving unit to all but queries and the mirror group (R325); a standby to
what R288 does not name; a unit booted on RC to all but the session group, queries and the mirror group (R387)? -/
def State.execBarred (s : State) (a : Allow) : Bool :=
  s.rd R.SUP_STATUS_STAGE = 5 || (a ≠ .query && s.leavesRole) || (a ≠ .query && a ≠ .session && s.standsBy) ||
    (a = .other && s.on R.SEC_STATUS_RC_BOOT)

/-- What an opcode adds to the reception check: valid payload length (without prefixes), ownership, shedding, values. -/
structure OpCheck where
  len  : Bool
  own  : Bool
  shed : Bool
  val  : Status
  deriving DecidableEq, Repr

/-- Steps 7 to 13 up to execution: the first check that fails decides. -/
def State.opCheck (s : State) (h : Hdr) (d : OpInfo) (x : Session) (c : OpCheck) : Status :=
  if x.major < d.since.1 ∨ (x.major = d.since.1 ∧ x.minor < d.since.2) then .unknownOpcode
  else if !c.len ∨ (if x.major = 1 then 1008 else x.pmax) < h.len then .badLength
  else
    match s.flagCheck h d x with
    | .ok =>
      if !c.own then .notOwner
      else if c.shed then .shed
      else if h.rsvPay then .badParam
      else match c.val with
        | .ok => if s.execBarred d.allow then .fault else .ok
        | st => st
    | st => st

/-- An accepted command's sequence becomes a_last (R284). -/
def State.accept (s : State) (i : Nat) (h : Hdr) : State :=
  let x := s.session i
  s.setSession i { x with lastSeq := h.seq.toNat }

def State.takePlace (s : State) (i done : Nat) (timed : Bool) : State :=
  let x := s.session i
  if timed then s.setSession i { x with timed := done :: x.timed.filter (fun c => s.now < c) } else s

/-- The counter of inbound packets of an SPI port goes down when one is taken (R272). -/
def State.takeInbound (s : State) (p : Nat) : State :=
  let x := s.port p
  if isNet p then s else s.setPort p { x with inb := x.inb - 1 }

/-- Are the interface ports, and this one, enabled (R295)? In safe stop no host packet is answered (R317). -/
def State.portEnabled (s : State) (p : Nat) : Bool :=
  s.fwRuns && !s.gated 20 && s.on R.HIF_CTRL_ENABLE && (!isNet p || (s.on (R.HIF_NET_W0_EN (p - 2)) && s.rd (R.HIF_NET_W0_MAC (p - 2)) ≠ 3))

/-- Step 3: the tag of a protected session, and PROT equal to the session's (R275, R276) (DESIGN CHOICE, log entry 12). -/
def tagPasses (h : Hdr) (x : Session) : Bool := h.prot = x.prot && (!x.prot || h.tagOk)

/-- The session passes step 3: its timeout restarts (R283) and a half-open session opens (R281). -/
def State.heard (s : State) (i : Nat) : State :=
  let x := s.session i
  s.setSession i { x with lastRx := s.tm.raw, phase := .opened }

/-- The outcome of steps 1 to 6 of R277: an accepted command of a session, or the state the packet leaves. -/
inductive Heard where
  | accepted (i : Nat) (s : State)
  | done (s : State)
  deriving DecidableEq, Repr

/-- Steps 1 to 6 of R277 for a packet that is not a SESSION_OPEN (DESIGN CHOICE, log entry 12). A retransmission whose reply spanned packets is executed
again (R284). -/
def State.hear (s0 : State) (h : Hdr) (d : OpInfo) : Heard :=
  let p := h.port.val
  let s := s0.atRaw h.t
  if !s.portEnabled p then .done s
  else
    let s := (s.takeInbound p).bump (R.HIF_CNT_RX_VALUE p)
    let i := h.sess
    let x := s.session i
    if h.framing = .badFrame then .done (s.bump (R.HIF_CNT_FRAME_VALUE p))
    else if h.framing = .badCrc then .done (s.bump (R.HIF_CNT_CRC_VALUE p))
    else if 8 ≤ i ∨ x.phase = .closed ∨ x.port ≠ p then .done (s.bump (R.HIF_CNT_NOSESS_VALUE p))
    else if !tagPasses h x then .done (s.bump (R.HIF_CNT_AUTH_VALUE p))
    else
      let s := s.heard i
      match s.runningFor p d.code with
      | some l => .done ((s.bump (R.HIF_CNT_BUSY_VALUE p)).reply i d.code h.seq.toNat .busy (s.busyData l) false)
      | none =>
        if h.major ≠ x.major ∨ h.minor ≠ x.minor then .done (s.reply i d.code h.seq.toNat .version [] false)
        else
          match x.cache.find? (fun c => c.1 = h.seq.toNat) with
          | some c => .done (s.enqueue p c.2)
          | none =>
            if laterThan 32 h.seq.toNat x.lastSeq then .accepted i (s.accept i h)
            else if x.spans.contains h.seq.toNat then .accepted i s
            else .done ((s.bump (R.HIF_CNT_STALE_VALUE p)).reply i d.code h.seq.toNat .stale [] false)

/-- A whole reception (R277). `chk` says what the opcode checks, `run` is its execution: the next state, and the reply
unless the command is a long operation that answers later (DEDUCED, log entry 14). -/
def State.receive (s : State) (h : Hdr) (d : OpInfo) (chk : State → Nat → OpCheck)
    (run : State → Nat → State × Option (Status × List Byte)) : State :=
  match s.hear h d with
  | .done s => s
  | .accepted i s =>
    match s.opCheck h d (s.session i) (chk s i) with
    | .ok =>
      let (s, r) := run (s.takePlace i (s.hdrDone h d.timed) h.timed) i
      match r with
      | some (st, data) => s.reply i d.code h.seq.toNat st data true
      | none => s
    | st => s.reply i d.code h.seq.toNat st [] true

/-- Does the payload hold exactly `n` bytes after its prefixes (R296)? -/
def lenIs (h : Hdr) (n : Nat) : Bool := h.len = n + hdrPrefix h

/-- The first status of a list that is not OK (R298). -/
def firstBad : List Status → Status
  | [] => .ok
  | .ok :: ss => firstBad ss
  | st :: _ => st

/-- BAD_PARAM unless a condition holds. -/
def badUnless (c : Bool) : Status := if c then .ok else .badParam

/-- The class of a session is at most `c` (R299). -/
def State.classAtMost (s : State) (i c : Nat) : Bool := (s.session i).cls ≤ c

/-! ### Bulk transfers to the mirror partner (R322) -/

/-- What a BULK transfer carries, by number: committed configuration, tables, enrolment table, baselines, a message, a FIR staging set. -/
def bulkConfig : Nat := 0
def bulkTables : Nat := 1
def bulkEnrol : Nat := 2
def bulkBase : Nat := 3
def bulkMsg (m : Nat) : Nat := 256 + m
def bulkStaging (o : Nat) : Nat := 1024 + o

/-- A change waits for its BULK frames while this unit is ACTIVE (DESIGN CHOICE, log entry 26). -/
def State.queueBulk (s : State) (k : Nat) : State :=
  if s.on R.FLD_CTRL_EN && s.rd R.FLD_STATUS_ROLE = 1 && !s.mir.bulkOut.contains k then
    { s with mir := { s.mir with bulkOut := s.mir.bulkOut ++ [k] } } else s

end Sys2Proof.Machine
end

