-- ==== Sys2Proof/Machine/TallyLog.lean ====
section
/-! DEFINITION. The Tally log (11_tally.md R228, R230). -/

namespace Sys2Proof.Machine

open Sys2Proof

/-- TEST codes of R230. -/
def tLine : Nat := 1
def tBaseline : Nat := 2
def tScrub : Nat := 3
def tDram : Nat := 4
def tMessage : Nat := 5
def tSelf : Nat := 6
def tFold : Nat := 7
def tSense : Nat := 8
def tMic : Nat := 9
def tPower : Nat := 10

/-- RESULT codes of R230. -/
def rPass : Nat := 0
def rLow : Nat := 1
def rHigh : Nat := 2
def rFarLow : Nat := 3
def rDeferred : Nat := 4
def rAborted : Nat := 5
def rSkipped : Nat := 6
def rFail : Nat := 7
def rTimeout : Nat := 8
def rNoBaseline : Nat := 9
def rEvent : Nat := 10

/-- TLY_LOG_HEAD follows the log. -/
def State.showLog (s : State) : State :=
  (s.wr R.TLY_LOG_HEAD_COUNT s.tly.log.length).wr R.TLY_LOG_HEAD_NEXT s.tly.next

/-- A result or event is logged (R230); an unread entry that is overwritten is counted. -/
def State.tallyLog (s : State) (test result subject value : Nat) : State :=
  if !s.on R.TLY_CTRL_ENABLE then s
  else
    let e : LogEntry := { index := s.tly.next, test := test, result := result, subject := subject,
                          block := s.tm.blockCount % 2 ^ 48, value := value % 2 ^ 32, read := false }
    let all := s.tly.log ++ [e]
    let lost := if 4096 < all.length then (match all.head? with | some x => b2n (!x.read) | none => 0) else 0
    let s := { s with tly := { s.tly with log := all.drop (all.length - 4096), next := (s.tly.next + 1) % 65536 } }
    (s.count R.TLY_CNT_LOG_LOST_VALUE lost).showLog

/-- The 16 bytes of an entry (R230). -/
def LogEntry.bytes (e : LogEntry) : List Byte :=
  leBytes 2 e.index ++ leBytes 1 e.test ++ leBytes 1 e.result ++ leBytes 2 e.subject ++ leBytes 6 e.block ++ leBytes 4 e.value

/-- Word `w` of the entry TLY_LOG_SEL names; zero if it is not held (R232). -/
def State.logWord (s : State) (w : Nat) : Nat :=
  match s.tly.log.find? (fun e => e.index = s.rd R.TLY_LOG_SEL_VALUE) with
  | some e => ofLeBytes ((e.bytes.drop (4 * w)).take 4)
  | none => 0

end Sys2Proof.Machine
end

