-- ==== Sys2Proof/Machine/HistoryRows.lean ====
section
/-! DEFINITION. The commands of the history store, the Pasture engine's rate, delay rings, installs and identification frames
(R37, R54, R63–R66, R70, R81, R87, R342). -/

namespace Sys2Proof.Machine

open Sys2Proof

/-! ### Tiles (R54–R56) -/

/-- Do tiles of block `l` land: the history store is enabled and clocked, and the block is neither past the last one before SLEEP nor before the first one after it
(R362, R363)? -/
def State.lands (s : State) (l : Nat) : Bool := s.on R.HST_CTRL_ENABLE && !s.gated 3 && s.awakeFor l && decide (s.hst.landFrom ≤ l)

/-- A producer presents a tile of source `src` with sequence `seq` (R54–R56). A tile marked non-audio is treated as missing and
marks its substitute (R55); a source without a ring presents to nothing. -/
def State.present (s : State) (src seq : Nat) (xs : List Int) (nonAudio newSlot : Bool) : State :=
  if !s.lands s.hst.win then s
  else match s.ringOf src with
    | none => s
    | some r =>
      let l := s.hst.win
      let g := s.ring r
      if !s.hst.winOpen && !laterThan 16 seq ((l + 65535) % 65536) then (s.bump R.HST_CNT_LATE_DROP_VALUE).flag R.HST_STATUS_LATE_DROP
      else if !s.hst.winOpen then s.bump R.HST_CNT_EARLY_VALUE
      else if seq = l % 65536 then
        if g.has l then (s.bump R.HST_CNT_LATE_DROP_VALUE).flag R.HST_STATUS_LATE_DROP
        else if nonAudio then s.setRing r { g with nonAudio := some l }
        else s.land r l xs (decide (s.landDeadline l ≤ s.now + s.warnMargin)) newSlot
      else if laterThan 16 seq (l % 65536) then s.bump R.HST_CNT_EARLY_VALUE
      else (s.bump R.HST_CNT_LATE_DROP_VALUE).flag R.HST_STATUS_LATE_DROP

/-! ### The rate of sound (R37, R368) -/

/-- rhe(fs × 2^32 / c) for a speed in units of 0.1 mm/s. -/
def State.soundRate (s : State) (c : Nat) : Nat := rheDivNat (s.fs * 4294967296 * 10) c

/-- The temperature in 0.1 °C of a conversion (R368). -/
def tempOf (code : BitVec 14) : Int := rheDiv (code.toInt * 1000) 8191 - 500

/-- SOUND_RATE_UPDATE (R37): with tracking on, the firmware writes the rate for c = 331.3 + 0.606 × T m/s, at most once every
10 s. `code` is the conversion of the temperature channel. -/
def execSoundRateUpdate (code : BitVec 14) (t : Nat) (s : State) : Host.Outcome State Fault Refusal :=
  let s := s.atRaw t
  let temp := tempOf code
  let s := s.wr R.SUP_TEMP_VALUE (unsignedOf 16 temp)
  if !s.geo.track || (s.geo.speedAt ≠ 0 && s.tm.raw < s.geo.speedAt + ms 10000) then .next s
  else
    let c := (3313000 + 606 * temp).toNat
    .next ({ s with geo := { s.geo with speedAt := s.tm.raw } }.wrAt s.nextBlock R.PST_SOUND_RATE_RATE
      (s.soundRate c))

/-! ### Long rings and panic (R63, R64, R342) -/

/-- Is real-time panic asserted to the Cellar (R342)? -/
def State.panic (s : State) : Bool := s.hst.renderPanic || s.hst.agePanic || s.hst.copyPanic ≠ []

/-- Controller cycles (533 MHz) of an instant on RAW (DEDUCED, log entry 89). -/
def celCycles (raw : Nat) : Nat := raw * 533 / 500

/-- CEL_CNT_PANIC counts the cycles with panic asserted up to now (R342). It is brought up to date before panic changes, at a refresh and at its
read (DEDUCED, log entry 89). -/
def State.countPanic (s : State) : State :=
  let s := s.count R.CEL_CNT_PANIC_VALUE (if s.panic then celCycles s.tm.raw - celCycles s.cel.panicAt else 0)
  { s with cel := { s.cel with panicAt := s.tm.raw } }

/-- LONG_RING_COPY (R63). -/
def execLongRingCopy (ring : Fin 1024) (blk : Nat) (s : State) : Host.Outcome State Fault Refusal :=
  if s.gated 4 then .next s else
  if s.hst.copies.contains (ring.val, blk) then
    let s := s.countPanic
    let g := s.ring ring.val
    let s := s.setRing ring.val { g with longFirst := some (g.longFirst.getD blk) }
    .next { s with hst := { s.hst with
      longTiles := s.hst.longTiles.set tileZero (ring.val * 4104 + blk % 4104) (s.slot ring.val (blk % 64)),
      copies := s.hst.copies.filter (fun x => x ≠ (ring.val, blk)),
      copyPanic := s.hst.copyPanic.filter (fun x => x ≠ (ring.val, blk)) } }
  else .next s

/-- LONG_COPY_OVERDUE (R342): the copy asserts real-time panic until it is complete. -/
def execLongCopyOverdue (ring : Fin 1024) (blk : Nat) (s : State) : Host.Outcome State Fault Refusal :=
  if s.hst.copies.contains (ring.val, blk) && !s.hst.copyPanic.contains (ring.val, blk) then
    let s := s.countPanic
    .next { s with hst := { s.hst with copyPanic := s.hst.copyPanic ++ [(ring.val, blk)] } }
  else .next s

/-- Long tiles have been delivered: their reads are outstanding no more, and panic that stood for them falls (R64). -/
def State.longGot (s : State) (got : List (Nat × Nat)) : State :=
  let left := s.hst.longReads.filter (fun x => !got.contains x)
  let s := s.countPanic
  { s with hst := { s.hst with longReads := left, renderPanic := s.hst.renderPanic && left ≠ [], agePanic := s.hst.agePanic && left ≠ [] } }

/-- Has C reached an instant after the boundary that follows the block in stage B, given in µs at 48 kHz (half of it at 96 kHz; R64)? -/
def State.pastB0 (s : State) (t : Nat) : Bool :=
  match s.hst.rendering with
  | some n => decide (s.instant (32 * (n + 1)) + (if s.straps.rate96 then us t / 2 else us t) ≤ s.now)
  | none => false

/-- PANIC_START (R64): from t(n + 1) + 625 µs on long reads for the block in stage B are outstanding. `got`: the tiles (ring, block) delivered by then. -/
def execPanicStart (got : List (Nat × Nat)) (t : Nat) (s : State) : Host.Outcome State Fault Refusal :=
  let s := (s.atRaw t).longGot got
  .next (if s.hst.longReads = [] || !s.pastB0 625 then s else { s with hst := { s.hst with renderPanic := true } })

/-- LONG_READ_AGE (R64): a long read is older than AGE µs; 0 disables the case. `got`: the tiles delivered by then. -/
def execLongReadAge (got : List (Nat × Nat)) (t : Nat) (s : State) : Host.Outcome State Fault Refusal :=
  let s := (s.atRaw t).longGot got
  let age := s.rd R.HST_PANIC_AGE
  .next (if age ≠ 0 && s.hst.longReads ≠ [] && s.hst.longAt + us age < s.tm.raw then { s with hst := { s.hst with agePanic := true } } else s)

/-- One long tile not delivered in time (R64). -/
def State.longLate (s : State) (x : Nat × Nat) : State :=
  let s := (s.bump R.HST_CNT_LONG_LATE_VALUE).flag R.HST_STATUS_LONG_LATE
  let s := s.failLog 3 x.1 (x.2 % 4104)
  { s with hst := { s.hst with lateTiles := s.hst.lateTiles ++ [x] } }

/-- LONG_TILE_DEADLINE (R64): every long tile not delivered by t(n + 1) + 725 µs is treated as failed; its read stays outstanding until stage B ends. `got`: the tiles
delivered by then. -/
def execLongTileDeadline (got : List (Nat × Nat)) (t : Nat) (s : State) : Host.Outcome State Fault Refusal :=
  let s := (s.atRaw t).longGot got
  .next (if s.pastB0 725 then (s.hst.longReads.filter (fun x => !s.hst.lateTiles.contains x)).foldl State.longLate s else s)

/-! ### The scrub (R66) -/

/-- The assigned rings, ascending. -/
def State.assigned (s : State) : List Nat := s.hst.rings.keys

/-- The first slot of an assigned ring at or after slot `p`, in ascending order. -/
def State.scrubFrom (s : State) (p : Nat) : Option Nat := (s.assigned.find? (fun r => p < (r + 1) * 64)).map (fun r => max p (r * 64))

/-- The scrub's check of a slot: CRC, and SEQ mod 64 equal to the slot index; an unwritten slot holds no tile to check (DESIGN CHOICE, log entry 96). -/
def State.scrubSlot (s : State) (r q : Nat) : State :=
  let t := s.slot r q
  let written : Bool := match (s.ring r).first with
    | some f => match (s.ring r).last with
      | some (l, _) => decide (64 ≤ l + 1 - f) || (List.range (l + 1 - f)).any (fun i => (f + i) % 64 = q)
      | none => false
    | none => false
  let failed (cause : Nat) : State :=
    let s := { s with tly := { s.tly with scrubFails := s.tly.scrubFails + 1 } }
    ((s.bump R.HST_CNT_SCRUB_VALUE).flag R.HST_STATUS_SCRUB_ERR).failLog cause r q
  if !written then s
  else if !t.crcOk then failed 4
  else if t.seq % 64 ≠ q then failed 5
  else s

/-- A pass of the scrub is complete: PASSES counts it and Tally logs it with its failures (R223). -/
def State.scrubPass (s : State) : State :=
  let s := s.wr R.HST_SCRUB_PTR_PASSES (s.rd R.HST_SCRUB_PTR_PASSES + 1)
  let n := s.tly.scrubFails
  { s with tly := { s.tly with scrubFails := 0 } }.tallyLog tScrub (if n = 0 then rPass else rFail) 0 n

/-- The scrub reads a slot and moves to the next one; a pass is complete after the last slot of the last assigned ring. -/
def State.scrubRead (s : State) (p : Nat) : State :=
  let s := s.scrubSlot (p / 64) (p % 64)
  match s.scrubFrom (p + 1) with
  | some q => s.wr R.HST_SCRUB_PTR_SLOT q
  | none => s.scrubPass.wr R.HST_SCRUB_PTR_SLOT ((s.scrubFrom 0).getD 0)

/-- SCRUB_READ (R66): one slot every INTERVAL blocks; 0 acts as 1. -/
def execScrubRead (t : Nat) (s : State) : Host.Outcome State Fault Refusal :=
  let s := s.atRaw t
  .next (if s.gated 3 || !s.on R.HST_SCRUB_CTRL_ENABLE || (s.hst.scrubAt ≠ 0 && s.tm.blockCount + 1 < s.hst.scrubAt + max 1 (s.rd R.HST_SCRUB_CTRL_INTERVAL)) then s
    else
      let s := { s with hst := { s.hst with scrubAt := s.tm.blockCount + 1 } }
      match s.scrubFrom (s.rd R.HST_SCRUB_PTR_SLOT) with
      | some p => s.scrubRead p
      | none => match s.scrubFrom 0 with
        | some p => s.scrubPass.scrubRead p
        | none => s)

/-! ### Delay rings (R70) and installs (R81) -/

/-- ODLY_TILE_DEADLINE (R70): a delay-ring tile of an output fails for lateness. -/
def execOdlyTileDeadline (output : Nat) (blk : Nat) (s : State) : Host.Outcome State Fault Refusal :=
  if s.gated 5 then .next s else
  if s.mix.odlyFail.contains (output, blk) then .next s
  else
    let s := s.bump R.MIX_CNT_ODLY_FAIL_VALUE
    .next { s with mix := { s.mix with odlyFail := s.mix.odlyFail ++ [(output, blk)] } }

/-- The first block after now whose BLOCK_COUNT is a multiple of 32. -/
def State.installBlock (s : State) : Nat := ceilDiv s.nextBlock 32 * 32

/-- The inactive set of an output. -/
def State.inactiveSet (s : State) (o : Nat) : Nat := 1 - s.rd (R.MIX_OUT_FIR_FIR_SET o)

/-- Writes a coefficient set. -/
def State.setFir (s : State) (o set : Nat) (f : FirSet) : State :=
  { s with mix := { s.mix with firs := s.mix.firs.set firReset (2 * o + set) f } }

/-- INSTALL_SPECTRA_DONE (R81 steps 1 and 2): the staging sets of the install that an output belongs to become the inactive
sets of its outputs, and F is fixed. -/
def execInstallSpectraDone (output : Nat) (t : Nat) (s : State) : Host.Outcome State Fault Refusal :=
  if s.gated 5 then .next (s.atRaw t) else
  let s := s.atRaw t
  match s.mix.installs.find? (fun x => x.output = output && x.f.isNone) with
  | none => .next s
  | some i =>
    let f := s.installBlock
    let mine := s.mix.installs.filter (fun x => x.op = i.op && x.f.isNone)
    let s := mine.foldl (fun s x =>
      let set := s.inactiveSet x.output
      (s.setFir x.output set (s.mix.staging.get stagingReset x.output)).writeCoefs x.output set (s.rd (R.MIX_OUT_FIR_FIR_GEN x.output) + 1)) s
    .next { s with mix := { s.mix with installs := s.mix.installs.map (fun x =>
      if x.op = i.op && x.f.isNone then { x with f := some f } else x) } }

/-! ### Identification (R86–R88) -/

/-- Is a frame accepted for a slot (R87)? `coh` gives the mean coherence with each output of the hearing set, in 1/256. -/
def Ident.accepts (d : Ident) (f : IdentFrame) : Bool :=
  decide (-5000 ≤ f.refDb) && d.hearing.all (fun o => f.coh.any (fun c => c.1 = o && c.2 ≤ d.xt)) && !f.silent

/-- One slot takes a frame: an accepted one updates its spectra with weight 2^−A, and the estimate follows (DESIGN CHOICE, log entry 8). -/
def State.identTake (s : State) (f : IdentFrame) : State :=
  match s.mix.idents.find? (fun p => p.1 = f.slot.val) with
  | none => s
  | some (_, d) =>
    if d.accepts f then
      let old := match d.est with | some e => e + 1 | none => 0
      let d' := { d with n := min 4294967295 (d.n + 1), lastBlk := s.tm.blockCount, est := some (Config.identUpdate d.avg old s.free) }
      { s with mix := { s.mix with idents := s.mix.idents.insert f.slot.val d' } }.fresh
    else s

/-- IDENT_FRAME (R87). Identification stops at S1 (R86). -/
def execIdentFrame (frames : List IdentFrame) (s : State) : Host.Outcome State Fault Refusal :=
  .next (if s.rd R.SUP_STATUS_STAGE = 0 then frames.foldl State.identTake s else s)

end Sys2Proof.Machine
end

