-- ==== Sys2Proof/Machine/Cellar.lean ====
section
/-! DEFINITION. The Cellar, the fast matrix, fabric errors and the remap (17_memory_system.md R330, R332, R334–R346). -/

namespace Sys2Proof.Machine

open Sys2Proof

/-! ### Fabric errors (R330) -/

/-- An erroneous access is counted, and logged unless one is logged already. -/
def State.busError (s : State) (master core addr : Nat) (write : Bool) (kind : Nat) : State :=
  let s := s.bump R.FAB_CNT_ERR_VALUE
  if s.on R.FAB_ERRINFO_VALID then s
  else
    let s := s.wr R.FAB_ERRLOG_ADDR addr
    ((((s.flag R.FAB_ERRINFO_VALID).wr R.FAB_ERRINFO_KIND kind).wr R.FAB_ERRINFO_WRITE (b2n write)).wr R.FAB_ERRINFO_MASTER master).wr
      R.FAB_ERRINFO_CORE (if master < 4 then core else 0)

/-- A read of FAB_ERRINFO clears it and FAB_ERRLOG. -/
def State.clearErrors (s : State) : State := (s.wr R.FAB_ERRINFO_w 0).wr R.FAB_ERRLOG_ADDR 0

/-- FAB_ERRINFO_READ (R330). -/
def execFabErrinfoRead (s : State) : Host.Outcome State Fault Refusal := .next s.clearErrors

/-! ### Remap (R334, R347) -/

/-- A write of SYS_REMAP: SWAP unless LOCK is set; LOCK is set once. -/
def State.writeRemap (s : State) (w : Nat) : State :=
  let s := if s.on R.SYS_REMAP_LOCK then s else s.wr R.SYS_REMAP_SWAP w
  s.when (bitOf w 1) (·.flag R.SYS_REMAP_LOCK)

/-- SYS_REMAP_SWAP (R334). -/
def execSysRemapSwap (word : BitVec 32) (s : State) : Host.Outcome State Fault Refusal := .next (s.writeRemap word.toNat)

/-! ### Channels and capacity (R335–R339) -/

/-- DRAM bytes in service (R335, R337): half the installed capacity with CH0 alone. -/
def State.dramSize (s : State) : Nat := s.cel.capacity / 2 * s.celChannels

/-- The interleave grain (R339). -/
def State.grain (s : State) : Nat := match s.rd R.CEL_CFG_GRAIN with | 0 => 256 | 1 => 1024 | _ => 4096

/-- Channel and channel address of a DRAM address (R339). -/
def State.dramPlace (s : State) (a : Nat) : Nat × Nat :=
  let g := s.grain
  if s.celChannels = 2 then (a / g % 2, a / (2 * g) * g + a % g) else (0, a)

/-! ### Requests (R340, R341) -/

/-- The key of a bank: channel × 256 + bank. -/
def bankKey (ch bank : Nat) : Nat := ch * 256 + bank

/-- The hint of a request (R340): delay rings and long-ring copies close the row; the window, the scrub and the Fold leave it open; a long-tile read or a spectral
record as the request says, all but its last open. CEL_HINT may override it. -/
def State.dramHint (s : State) (x : DramArr) : Bool :=
  match bitsOf (s.rd R.CEL_HINT_CLASSk) (2 * x.cls.val + 1) (2 * x.cls.val) with
  | 1 => true
  | 2 => false
  | _ => if x.cls.val < 2 then x.hint else decide (4 ≤ x.cls.val)

/-- One request joins the queue; outside the capacity in service, or in self-refresh or without its clocks, it ends in error (R335, R337, R344, R353) (DESIGN CHOICE, log
entry 17). -/
def State.dramArrive (s : State) (x : DramArr) : State :=
  if s.on R.CEL_STATUS_SR || s.clkLost 3 then s.busError x.master 0 (x.addr % 2 ^ 32) x.write 2
  else if s.dramSize ≤ x.addr then s.busError x.master 0 (x.addr % 2 ^ 32) x.write 0
  else
    let p := s.dramPlace x.addr
    let r : DramReq := ⟨s.cel.next, s.tm.raw, p.1, x.bank, x.row, p.2 / 64, x.cls.val, x.rt, x.write, s.dramHint x⟩
    { s with cel := { s.cel with queue := s.cel.queue ++ [r], next := s.cel.next + 1, asleep := s.cel.asleep.set 0 p.1 0 } }

/-- The requests of one bank, oldest first. -/
def Cel.ofBank (c : Cel) (k : Nat) : List DramReq := c.queue.filter (fun r => bankKey r.ch r.bank = k)

/-- Requests to one 64-byte unit keep arrival order: the oldest to the unit of `r` goes in its place. -/
def Cel.firstOfUnit (c : Cel) (r : DramReq) : DramReq :=
  ((c.ofBank (bankKey r.ch r.bank)).find? (fun x => x.unit = r.unit)).getD r

/-- AGE_CAP; 0 acts as 1. -/
def State.ageCap (s : State) : Nat := max 1 (s.rd R.CEL_SCHED_AGE_CAP)

/-- The request a bank serves next (R341). -/
def State.bankNext (s : State) (k : Nat) : Option DramReq :=
  let q := s.cel.ofBank k
  match (if s.panic then q.find? (fun r => r.rt) else none) with
  | some r => some (s.cel.firstOfUnit r)
  | none =>
    match q.find? (fun r => s.cel.rows.get 0 k = r.row + 1) with
    | some r => if s.cel.passed.get 0 k < s.ageCap then some (s.cel.firstOfUnit r) else q.head?
    | none => q.head?

/-- Banks with requests, in order of their oldest. -/
def Cel.banks (c : Cel) : List Nat := dedup (c.queue.map (fun r => bankKey r.ch r.bank))

/-- The request served next: real-time before ordinary, which panic defers (R342); among several banks the spec leaves the choice
open, which is free (DESIGN CHOICE, log entry 17). -/
def State.dramNext (s : State) : Option DramReq :=
  let cs := s.cel.banks.filterMap s.bankNext
  let rts := cs.filter (fun r => r.rt)
  match (if rts ≠ [] then rts else if s.panic then [] else cs) with
  | [] => none
  | [r] => some r
  | r :: rs => (r :: rs)[Config.cellarPick s.free % (rs.length + 1)]?

/-- One request is served. -/
def State.dramServe (s : State) : State :=
  match s.dramNext with
  | none => s
  | some r =>
    let k := bankKey r.ch r.bank
    let oldest : Bool := (s.cel.ofBank k).head? = some r
    let hit : Bool := s.cel.rows.get 0 k = r.row + 1
    let s := s.bump (if hit then R.CEL_CNT_ROWHIT_VALUE else R.CEL_CNT_ROWMISS_VALUE)
    let s := s.bump (if r.write then R.CEL_CNT_WR_VALUE else R.CEL_CNT_RD_VALUE)
    let s := s.when (r.rt && !r.write && decide (r.at_ + us 40 < s.tm.raw)) (·.bump R.CEL_CNT_RT_LATE_VALUE)
    { s with cel := { s.cel with
        queue := s.cel.queue.filter (fun x => x.num ≠ r.num),
        passed := s.cel.passed.set 0 k (if oldest then 0 else s.cel.passed.get 0 k + 1),
        rows := s.cel.rows.set 0 k (if r.hint then r.row + 1 else 0),
        rowAt := s.cel.rowAt.set 0 k s.tm.raw, idleAt := s.cel.idleAt.set 0 r.ch s.tm.raw,
        served := (r :: s.cel.served).take 64 } }.fresh

/-- Serves up to `n` requests. -/
def State.dramServeN (s : State) : Nat → State
  | 0 => s
  | n + 1 => State.dramServeN s.dramServe n

/-! ### The fast matrix (R332) -/

/-- The target port of an address, by the rows of R328 that the matrix leads to; the two bridges are one port each (DEDUCED, log entry 121). -/
def fabPort (a : Nat) : Option Nat :=
  if a < 0x10000000 then some 0 else if a < 0x20000000 then some 1
  else if a < 0x20800000 then some 2 else if a < 0x30000000 then some 3
  else if a < 0x30800000 then some 4 else if a < 0x30A00000 then some 5 else if a < 0x40000000 then some 6
  else if a < 0x40100000 then some 7 else if a < 0x40200000 then some 8 else if a < 0x40300000 then some 9 else if a < 0x40400000 then some 10
  else if a < 0x40480000 then some (11 + (a - 0x40400000) / 0x10000) else if a < 0x40500000 then some 15
  else if a < 0x40600000 then some 16 else if a < 0x40700000 then some 17 else if a < 0x40700800 then some 18 else if a < 0x50000000 then some 19
  else if a < 0x50050000 then some 20 else if a < 0x80000000 then some 21
  else some 22

/-- The port of the DRAM window. -/
def fabDram : Nat := 22

/-- A port that has granted nothing. -/
def fabReset : FabPort := { last := none, waiting := [], early := false }

def State.fabAt (s : State) (p : Nat) : FabPort := s.fab.get fabReset p
def State.setFab (s : State) (p : Nat) (x : FabPort) : State := { s with fab := s.fab.set fabReset p x }

/-- Is a waiting burst of the real-time class: by FAB_PRIO, or for 64 consecutive grants that passed it over (DEDUCED, log entry 121)? -/
def State.fabUrgent (s : State) (r : FabReq) : Bool := bitOf (s.rd R.FAB_PRIO_w) r.master || 64 ≤ r.passed

/-- How far a master stands from the one granted last, in round-robin order. -/
def fabTurn (last : Option Nat) (m : Nat) : Nat :=
  match last with
  | some l => (m + 23 - l) % 12
  | none => m % 12

/-- The burst a port grants next: the real-time class before the ordinary one, masters of one class in turn, a master's own in issue order (R332, R333). -/
def State.fabPick (s : State) (x : FabPort) : Option FabReq :=
  let rts := x.waiting.filter s.fabUrgent
  let cs := if rts = [] then x.waiting else rts
  cs.foldl (fun (best : Option FabReq) r =>
    match best with
    | none => some r
    | some b => if fabTurn x.last r.master < fabTurn x.last b.master then some r else some b) none

/-- Is a burst one of the ordinary class that a 64th grant passes over now? -/
def State.fabPromoted (s : State) (r : FabReq) : Bool := !bitOf (s.rd R.FAB_PRIO_w) r.master && r.passed = 64

/-- One grant of a port: those that wait on are passed over; FAB_CNT_PROMOTE counts (R332). -/
def State.fabGrant (s : State) (p : Nat) : Option FabReq × State :=
  let x := s.fabAt p
  match s.fabPick x with
  | none => (none, s)
  | some r =>
    let rest := (x.waiting.erase r).map (fun (q : FabReq) => { q with passed := q.passed + 1 })
    (some r, (s.setFab p ⟨some r.master, rest, x.last = some r.master && rest = []⟩).count R.FAB_CNT_PROMOTE_VALUE (rest.filter s.fabPromoted).length)

/-- A grant of the DRAM window's port takes its request to the Cellar. -/
def State.fabServe (s : State) (p : Nat) : Option FabReq × State :=
  let g := s.fabGrant p
  match g.1 with
  | some ⟨_, _, some x⟩ => (g.1, g.2.dramArrive x)
  | _ => g

/-- `n` grants of a port. -/
def State.fabServeN (s : State) (p : Nat) : Nat → State
  | 0 => s
  | n + 1 => State.fabServeN (s.fabServe p).2 p n

/-- A burst of a master joins those that wait at a port. -/
def State.fabAsk (s : State) (p : Nat) (r : FabReq) : State := s.setFab p { s.fabAt p with waiting := (s.fabAt p).waiting ++ [r] }

/-- Grants of a port until the access that is being made has its own. -/
def State.fabUntil (s : State) (p : Nat) : Nat → State
  | 0 => s
  | n + 1 =>
    let g := s.fabServe p
    match g.1 with
    | some ⟨_, _, some _⟩ => State.fabUntil g.2 p n
    | _ => g.2

/-- An access of a master at an address takes its grant; what the port grants before it goes first (R332). -/
def State.fabUse (s : State) (m a : Nat) : State :=
  match fabPort a with
  | none => s
  | some p => (s.fabAsk p ⟨m, 0, none⟩).fabUntil p ((s.fabAt p).waiting.length + 1)

/-- Requests that arrive at the Cellar in one cycle, lowest class first (R341). -/
def State.dramArriveAll (s : State) (xs : List DramArr) : State :=
  (sortBy (fun (a b : DramArr) => a.cls.val < b.cls.val) xs).foldl State.dramArrive s

/-- DRAM_REQUEST (R332, R341): requests that arrive in one cycle. Those of the window wait at its port, which makes `grants` grants; the others reach the Cellar
directly, lowest class first; then `serve` requests are served. The bytes a request moves are those of the memory itself: a read always returns every earlier
write to its unit. -/
def execDramRequest (arrivals : List DramArr) (grants : Nat) (serve : Nat) (t : Nat) (s : State) : Host.Outcome State Fault Refusal :=
  if s.gated 4 then .next (s.atRaw t) else
  let s := s.atRaw t
  let s := (arrivals.filter (fun x => x.cls = 4)).foldl (fun (s : State) x => s.fabAsk fabDram ⟨x.master, 0, some x⟩) s
  let s := s.dramArriveAll (arrivals.filter (fun x => x.cls.val < 4))
  let s := s.fabServeN fabDram grants
  .next ((s.dramArriveAll (arrivals.filter (fun x => 4 < x.cls.val))).dramServeN serve)

/-- ROW_IDLE_CLOSE (R340): 256 controller cycles (533 MHz) without a hit close an open row. -/
def execRowIdleClose (ch : Fin 2) (bank : Nat) (t : Nat) (s : State) : Host.Outcome State Fault Refusal :=
  if s.gated 4 then .next (s.atRaw t) else
  let s := s.atRaw t
  let k := bankKey ch.val bank
  .next (if 256 * 500 ≤ (s.tm.raw - s.cel.rowAt.get 0 k) * 533 then { s with cel := { s.cel with rows := s.cel.rows.set 0 k 0 } } else s)

/-- REFRESH (R342): postponed under panic up to 8, else issued, and those postponed with it. -/
def execRefresh (ch : Fin 2) (t : Nat) (s : State) : Host.Outcome State Fault Refusal :=
  if s.gated 4 then .next (s.atRaw t) else
  let s := (s.atRaw t).countPanic
  let n := s.cel.postponed.get 0 ch.val
  .next (if s.on R.CEL_STATUS_SR then s
    else if s.panic then
      (if n < 8 then { s with cel := { s.cel with postponed := s.cel.postponed.set 0 ch.val (n + 1) } }.bump R.CEL_CNT_REF_POST_VALUE else s)
    else { s with cel := { s.cel with postponed := s.cel.postponed.set 0 ch.val 0 } })

/-! ### Training (R337, R338, R343) -/

/-- A channel's delays take one step. -/
def State.delayStep (s : State) (ch : Nat) : State := { s with cel := { s.cel with delays := s.cel.delays.modify 0 ch (fun n => n + 1) } }

/-- Is a channel in service? -/
def State.celUp (s : State) (ch : Nat) : Bool := bitOf (s.rd R.CEL_STATUS_TRAINED) ch

/-- DQS_OSCILLATOR_READ (R338): `drift0`, `drift1`: the drift exceeds a sixteenth of a unit interval. -/
def execDqsOscillatorRead (drift0 : Bool) (drift1 : Bool) (t : Nat) (s : State) : Host.Outcome State Fault Refusal :=
  if s.gated 4 then .next (s.atRaw t) else
  let s := s.atRaw t
  let s := s.when (drift0 && s.celUp 0) (·.delayStep 0)
  .next (s.when (drift1 && s.celUp 1) (·.delayStep 1))

/-- A full retraining starts (R338); `port` is that of the PARAM_WRITE that waits for it (DEDUCED, log entry 50). -/
def State.retrainStart (s : State) (port : Option Nat) : State :=
  if s.cel.retrain.isSome || s.celChannels = 0 then s
  else { s with cel := { s.cel with retrain := some ⟨s.tm.raw, if s.celUp 0 then 0 else 1, [], port⟩ } }.flag R.CEL_STATUS_RETRAIN_BUSY

/-- TRAIN_REQ (R338). -/
def execTrainReq (t : Nat) (s : State) : Host.Outcome State Fault Refusal :=
  if s.gated 4 then .next (s.atRaw t) else
  .next ((s.atRaw t).retrainStart none)

/-- A retraining ends, completed or abandoned. -/
def State.retrainEnd (s : State) (x : Retrain) (st : Status) : State :=
  let s := ({ s with cel := { s.cel with retrain := none } }.wr R.CEL_STATUS_RETRAIN_BUSY 0).bump R.CEL_CNT_RETRAIN_VALUE
  match x.port with
  | some p => s.endLong p st []
  | none => s

/-- RETRAIN_STEP (R338): at most one step of a channel per 100 µs, none under panic; `last` ends the channel's training. -/
def execRetrainStep (ch : Fin 2) (last : Bool) (t : Nat) (s : State) : Host.Outcome State Fault Refusal :=
  if s.gated 4 then .next (s.atRaw t) else
  let s := s.atRaw t
  .next (match s.cel.retrain with
    | none => s
    | some x =>
      let prev := x.last.get 0 ch.val
      if x.ch ≠ ch.val || s.panic || (prev ≠ 0 && s.tm.raw < prev - 1 + us 100) then s
      else
        let s := s.delayStep ch.val
        if !last then { s with cel := { s.cel with retrain := some { x with last := x.last.set 0 ch.val (s.tm.raw + 1) } } }
        else if ch.val = 0 && s.celUp 1 then { s with cel := { s.cel with retrain := some { x with ch := 1 } } }
        else s.retrainEnd x .ok)

/-- RETRAIN_TIMEOUT (R338): abandoned at 60 ms. -/
def execRetrainTimeout (t : Nat) (s : State) : Host.Outcome State Fault Refusal :=
  if s.gated 4 then .next (s.atRaw t) else
  let s := s.atRaw t
  .next (match s.cel.retrain with
    | some x => if x.since + ms 60 ≤ s.tm.raw then s.retrainEnd x .fault else s
    | none => s)

/-- Does CEL_CFG name a configuration the Cellar supports (R336, R347)? -/
def State.celCfgOk (s : State) : Bool := s.rd R.CEL_CFG_DENSITY ≠ 3 && !(s.rd R.CEL_CFG_DENSITY = 2 && s.on R.CEL_CFG_RANKS)

/-- TRAINING_COMPLETE (R337): boot training ends; a channel that fails leaves service. CH_EN 3 trains both channels, any other value CH0. CH1 alone is not supported
(R336), so CH1 leaves service with CH0 (DEDUCED, log entry 131). -/
def execTrainingComplete (ok0 : Bool) (ok1 : Bool) (t : Nat) (s : State) : Host.Outcome State Fault Refusal :=
  if s.gated 4 then .next (s.atRaw t) else
  let s := s.atRaw t
  .next (if s.rd R.CEL_STATUS_TRAINED ≠ 0 || s.rd R.CEL_STATUS_FAIL ≠ 0 then s
    else
      let both : Bool := s.rd R.CEL_CFG_CH_EN = 3
      let up0 := ok0 && s.celCfgOk
      let up1 := both && ok1 && s.celCfgOk
      (s.wr R.CEL_STATUS_TRAINED (b2n up0 + 2 * b2n (up0 && up1))).wr R.CEL_STATUS_FAIL (b2n (!up0) + 2 * b2n (both && !up1)))

/-- POWER_DOWN_IDLE (R343): in SLEEP, PD_IDLE controller cycles with no request. -/
def execPowerDownIdle (ch : Fin 2) (t : Nat) (s : State) : Host.Outcome State Fault Refusal :=
  if s.gated 4 then .next (s.atRaw t) else
  let s := s.atRaw t
  let idle := (s.tm.raw - s.cel.idleAt.get 0 ch.val) * 533
  .next (if s.rd R.CLK_MODE_CUR = 1 && decide (max 1 (s.rd R.CEL_SCHED_PD_IDLE) * 500 ≤ idle) && !s.cel.queue.any (fun r => r.ch = ch.val) then
    { s with cel := { s.cel with asleep := s.cel.asleep.set 0 ch.val 1 } } else s)

/-! ### The bandwidth rule (R79, R345, R346) -/

/-- The usable bandwidth, times 4,266: 24.0 GB/s × (R / 4,266) × (C / 2). -/
def State.useBw (s : State) : Nat :=
  let r := match s.rd R.CEL_CFG_RATE with | 0 => 4266 | 1 => 3733 | _ => 3200
  12000000000 * r * s.celChannels

end Sys2Proof.Machine
end

