-- ==== Sys2Proof/Machine/Build.lean ====
section
/-! DEFINITION. Building and swapping table banks (R43–R45, R303, R304), and the safe-load registers (R169). -/

namespace Sys2Proof.Machine

open Sys2Proof

/-- A word of the staged definitions, in the word order of R400. -/
def State.stagedWord (s : State) (w : Nat) : Nat := s.geo.staged.get 0 w

def State.setStaged (s : State) (w v : Nat) : State := { s with geo := { s.geo with staged := s.geo.staged.set 0 w v } }

/-- `n` staged words as one number. -/
def State.stagedBits (s : State) (w : Nat) : Nat → Nat
  | 0 => 0
  | n + 1 => s.stagedWord w + 2 ^ 32 * State.stagedBits s (w + 1) n

/-- Bytes are written over staged words. -/
def State.stageBytes (s : State) (w : Nat) : List Byte → Nat → State
  | _, 0 => s
  | bs, n + 1 => State.stageBytes (s.setStaged w (ofLeBytes (bs.take 4))) (w + 1) (bs.drop 4) n

/-- The staged layout record of an output. -/
def State.stagedLayout (s : State) (o : Nat) : Layout := layoutOf (s.stagedBits (8 * o) 8)

/-- A write of a bank word; the active bank keeps its words (R47). -/
def State.setBank (s : State) (bank w v : Nat) : State :=
  { s with geo := { s.geo with banks := s.geo.banks.set 0 (bank * 1048576 + w) v } }

/-- The staged bank. -/
def State.stagedBank (s : State) : Nat := 1 - s.activeBank

/-! ### R304 -/

/-- A staged pasture definition (R303). -/
structure PastureDef where
  hdr   : PastureHdr
  rmax  : Nat
  outs  : List Nat
  deriving DecidableEq, Repr

/-- The staged definition of a pasture. -/
def State.pastureDef (s : State) (p : Nat) : PastureDef :=
  let v := s.stagedBits (0x1480 + 64 * p) 52
  { hdr := { origin := triple v 32 24, edge := bitsOf v 127 112, nx := bitsOf v 143 128, ny := bitsOf v 159 144,
             nz := bitsOf v 175 160, cb := 0, step := bitsOf v 15 8, gains := v >>> 224 },
    rmax := bitsOf v 207 176, outs := (List.range 640).filter (fun o => bitOf v (1024 + o)) }

/-- d8 of R36 between two points. -/
def dist8 (a b : Int × Int × Int) : Nat :=
  let dx := a.1 - b.1; let dy := a.2.1 - b.2.1; let dz := a.2.2 - b.2.2
  rheSqrt (65536 * (dx * dx + dy * dy + dz * dz)).toNat

/-- The centre of a cell on one axis (R304). -/
def cellCentre (o : Int) (i e : Nat) : Int := o + ((2 * i + 1) * e / 2 : Nat)

/-- The candidate set of a cell (R304): present outputs within RMAX, nearest first, at most 64. -/
def cellSet (ls : List (Nat × Layout)) (d : PastureDef) (ix iy iz : Nat) : List Nat :=
  let c := (cellCentre d.hdr.origin.1 ix d.hdr.edge, cellCentre d.hdr.origin.2.1 iy d.hdr.edge,
            cellCentre d.hdr.origin.2.2 iz d.hdr.edge)
  let near := (ls.map (fun p => (dist8 c p.2.pos, p.1))).filter (fun q => q.1 ≤ d.rmax * 256)
  ((sortBy (fun (a b : Nat × Nat) => a.1 < b.1 || (a.1 = b.1 && a.2 < b.2)) near).take 64).map Prod.snd

/-- What has been laid out: cell entries, pool entries, runs already in the pool, next cell, next pool entry. -/
structure Laid where
  cells : List Nat
  pool  : List Nat
  runs  : List (List Nat × Nat)
  next  : Nat
  deriving DecidableEq, Repr

/-- One cell: a run already in the pool is shared (R33; placement is the firmware's, log entry 10). -/
def Laid.put (l : Laid) (cand : List Nat) : Laid :=
  match l.runs.find? (fun r => r.1 = cand) with
  | some r => { l with cells := l.cells ++ [r.2 + cand.length * 2 ^ 18] }
  | none => { cells := l.cells ++ [l.next + cand.length * 2 ^ 18], pool := l.pool ++ cand, runs := (cand, l.next) :: l.runs,
              next := l.next + cand.length }

/-- The cells of one pasture, in the order of R32. -/
def Laid.pasture (ls : List (Nat × Layout)) (l : Laid) (d : PastureDef) : Laid :=
  let mine := ls.filter (fun p => d.outs.contains p.1)
  (List.range d.hdr.nz).foldl (fun l iz => (List.range d.hdr.ny).foldl (fun l iy =>
    (List.range d.hdr.nx).foldl (fun l ix => l.put (cellSet mine d ix iy iz)) l) l) l

/-- Pastures that are defined. -/
def State.stagedPastures (s : State) : List Nat := (List.range 256).filter (fun p => (s.pastureDef p).hdr.edge ≠ 0)

/-- Cells of a definition. -/
def PastureDef.count (d : PastureDef) : Nat := d.hdr.nx * d.hdr.ny * d.hdr.nz

/-- Cells of all definitions. -/
def State.stagedCells (s : State) : Nat := (s.stagedPastures.map (fun p => (s.pastureDef p).count)).sum

/-- Pool entries as words, two to a word. -/
def poolWords : List Nat → List Nat
  | [] => []
  | [a] => [a]
  | a :: b :: rest => (a + b * 65536) :: poolWords rest

/-- Writes words from word `w` of a bank up. -/
def State.setBankWords (s : State) (bank w : Nat) : List Nat → State
  | [] => s
  | v :: vs => State.setBankWords (s.setBank bank w v) bank (w + 1) vs

/-- The words of a bank are all zero. -/
def State.clearBank (s : State) (bank : Nat) : State :=
  { s with geo := { s.geo with banks := s.geo.banks.filter (fun p => p.1 / 1048576 ≠ bank) } }

/-- Cells and pool of the staged definitions (R304) (DESIGN CHOICE, log entry 10). -/
def State.layOut (s : State) : Laid :=
  let ls := ((List.range 640).map (fun o => (o, s.stagedLayout o))).filter (fun p => p.2.present)
  s.stagedPastures.foldl (fun l p => Laid.pasture ls l (s.pastureDef p)) ⟨[], [], [], 0⟩

/-- The firmware completes the staged bank (R43 step 1): layout, zone map, headers with CB, cells and pool (DESIGN CHOICE, log entry 10). -/
def State.fillBank (s : State) (laid : Laid) : State :=
  let b := s.stagedBank
  let ps := s.stagedPastures
  let t := (s.geo.staged.filter (fun p => p.1 < 0x1480)).foldl (fun (t : State) p => t.setBank b p.1 p.2) (s.clearBank b)
  let t := (ps.foldl (fun (acc : State × Nat) p =>
    let w := 0x1480 + 64 * p
    (((List.range 52).foldl (fun (t : State) i => t.setBank b (w + i) (s.stagedWord (w + i))) acc.1).setBank b (w + 52) acc.2,
      acc.2 + (s.pastureDef p).count)) (t, 0)).1
  (t.setBankWords b 0x5480 laid.cells).setBankWords b 0x15480 (poolWords laid.pool)

/-! ### Verification and swap (R43, R45) -/

def State.setBuild (s : State) (b : Build) : State := { s with geo := { s.geo with build := b } }

/-- PASTURE_BUILD starts, or starts again, a build (R43, R45). -/
def State.startBuild (s : State) : State :=
  (s.setBuild { s.geo.build with state := .running, cells := 0 }).wr R.PST_STATUS_VERIFY_BUSY 0

/-- A staging command while a build runs abandons it (R45). -/
def State.abandonBuild (s : State) : State :=
  if s.geo.build.state = .running then
    (s.setBuild { s.geo.build with state := .abandoned }).wr R.PST_STATUS_VERIFY_BUSY 0
  else s

/-- A write of PST_CTRL.SWAP_REQ starts the verification of the staged bank. -/
def State.swapReq (s : State) : State :=
  if s.on R.PST_STATUS_SWAP_PEND then s else s.flag R.PST_STATUS_VERIFY_BUSY

/-- The CRC-32 over a whole bank: its words in the order of R400, each little-endian. -/
def State.bankCrc (s : State) (bank : Nat) : Nat :=
  (crc32 ((List.range 218240).flatMap (fun w => leBytes 4 (s.bankWord bank w)))).toNat

/-- SWAP_REQ (R43 steps 1 and 2): the firmware completes the bank of a build that runs, writes its CRC-32 to PST_BANK_EXP and requests the swap; a build of more than 65,536
cells ends in LIMIT (R304), and so does one whose candidates do not fit the pool of R33 (log entry 10). A verified bank that waits for its boundary is left alone until it has
swapped (R45). Where no build runs it is a write of PST_CTRL.SWAP_REQ alone. -/
def execSwapReq (s : State) : Host.Outcome State Fault Refusal :=
  if s.gated 1 || s.on R.PST_STATUS_SWAP_PEND then .next s else
  .next (if s.geo.build.state = .running && !s.on R.PST_STATUS_VERIFY_BUSY then
    let n := s.stagedCells
    if 65536 < n then s.setBuild { s.geo.build with state := .limit, cells := n }
    else
      let laid := s.layOut
      if 262144 < laid.pool.length then s.setBuild { s.geo.build with state := .limit, cells := n }
      else
        let s := (s.fillBank laid).setBuild { s.geo.build with cells := n }
        (s.wr R.PST_BANK_EXP_VALUE (s.bankCrc s.stagedBank)).swapReq
  else s.swapReq)

/-- The build's state after a verification that passed or failed; a verification without a build leaves it. -/
def State.verified (s : State) (ok : Bool) (blk : Nat) : State :=
  if s.geo.build.state = .running then
    s.setBuild { s.geo.build with state := if ok then .verified else .check, swapAt := if ok then some blk else none }
  else if ok then s.setBuild { s.geo.build with swapAt := some blk } else s

/-- VERIFY_COMPLETE (R43 steps 3 to 5): the engine has the CRC-32 of the whole staged bank. -/
def execVerifyComplete (t : Nat) (s : State) : Host.Outcome State Fault Refusal :=
  if s.gated 1 then .next (s.atRaw t) else
  let s := s.atRaw t
  .next (if !s.on R.PST_STATUS_VERIFY_BUSY then s
    else
      let crc := s.bankCrc s.stagedBank
      let s := (s.wr R.PST_STATUS_VERIFY_BUSY 0).wr R.PST_BANK_CRC_VALUE crc
      if crc = s.rd R.PST_BANK_EXP_VALUE then (s.flag R.PST_STATUS_SWAP_PEND).verified true s.effectBlock
      else ((s.flag R.PST_STATUS_BUILD_ERR).bump R.PST_CNT_CHECK_VALUE).verified false 0)

/-- The swap at its boundary: the staged bank becomes active, and its content is copied into the former one (R43). -/
def State.swapBanks (s : State) (k : Nat) : State :=
  match s.geo.build.swapAt with
  | none => s
  | some m =>
    if k < m then s
    else
      let b := s.stagedBank
      let mine := s.geo.banks.filter (fun p => p.1 / 1048576 = b)
      let s := (s.wr R.PST_STATUS_ACTIVE_BANK b).wr R.PST_STATUS_SWAP_PEND 0
      let s := mine.foldl (fun (t : State) p => t.setBank (1 - b) (p.1 % 1048576) p.2) (s.clearBank (1 - b))
      s.setBuild { s.geo.build with
        state := if s.geo.build.state = .verified then .swapped else s.geo.build.state, swapAt := none, swapBlk := k }

/-- PST_MEM_DATA (R47): reads and writes the word PST_MEM_ADDR names, which then advances by one. Only in maintenance mode. -/
def State.memAddrNext (s : State) : State := s.wr R.PST_MEM_ADDR_WORD (s.rd R.PST_MEM_ADDR_WORD + 1)

/-- DEDUCED, log entry 56. -/
def State.memData (s : State) : Nat :=
  let w := s.rd R.PST_MEM_ADDR_WORD
  if s.on R.SEC_STATUS_MAINT && w < 218240 then s.bankWord (s.rd R.PST_MEM_ADDR_BANK) w else 0

def State.setMemData (s : State) (v : Nat) : State :=
  let b := s.rd R.PST_MEM_ADDR_BANK
  let w := s.rd R.PST_MEM_ADDR_WORD
  if s.on R.SEC_STATUS_MAINT && b ≠ s.activeBank && w < 218240 then s.setBank b w v else s

/-! ### Safe-load registers (R169) -/

/-- SL_HOLD (R169): a write of MIX_SL_CTRL.HOLD. -/
def execSlHold (hold : Bool) (s : State) : Host.Outcome State Fault Refusal :=
  if s.gated 5 then .next s else
  .next (s.wr R.MIX_SL_CTRL_HOLD (b2n hold))

/-- SL_ARM (R169): held shadows transfer at the next boundary, and HOLD clears there. -/
def execSlArm (s : State) : Host.Outcome State Fault Refusal :=
  if s.gated 5 then .next s else
  .next (s.flag R.MIX_SL_STATUS_ARMED)

end Sys2Proof.Machine
end

