-- ==== Sys2Proof/Machine/Ether.lean ====
section
/-! DEFINITION. The Ethernet ports beside their rings: link state, pause, MDIO, ring enables (12_ethernet.md R233–R235, R244, R249). -/

namespace Sys2Proof.Machine

open Sys2Proof

def macReset : MacSt := { seq := 0, paused := 0, tx := none, strq := [], taken := [], rxOct := 0, txOct := 0,
                          lane := ⟨false, false, false, false, 0#2⟩, wire := [] }

def State.mac (s : State) (p : Nat) : MacSt := s.macs.get macReset p

def State.setMac (s : State) (p : Nat) (x : MacSt) : State := { s with macs := s.macs.set macReset p x }

/-- Is a link up (R234)? MODE 3 is off. -/
def State.linkUp (s : State) (p : Nat) (l : LinkState) : Bool :=
  let mode := s.rd (R.MAC_MODE_MODE p)
  if mode = 3 then false
  else if p = 2 then (if s.on (R.MAC_MODE_INBAND p) then l.lock else l.pin)
  else if mode = 0 then l.lock && !l.hiBer
  else if mode = 2 && s.on (R.MAC_MODE_AN_EN p) then l.lock && l.anOk
  else l.lock

/-- The symmetric and the asymmetric pause ability that a port advertises in 1000BASE-X negotiation (R235). -/
def State.advertised (s : State) (p : Nat) : Bool × Bool := (s.on (R.MAC_CTRL_RX_PAUSE p), false)

/-- The latencies of a port's mode in TX and RX, 1/16 ns (R253); none for a port that is off. -/
def State.modeLat (s : State) (p : Nat) : Nat × Nat :=
  match p, s.rd (R.MAC_MODE_MODE p) with
  | _, 3 => (0, 0)
  | 2, _ => (0x40, 0x40)
  | _, 0 => (0x250, 0x390)
  | _, 1 => (0x300, 0x480)
  | _, _ => (0x700, 0xB00)

/-- The firmware loads a port's latency constants for the mode in force, with what the integrator adds (R253) (DEDUCED, log entry 113). -/
def State.loadLat (s : State) (p : Nat) : State :=
  let x := s.modeLat p
  let add := s.ptp.lat.getD p (0, 0)
  (s.wr (R.TSU_LAT_TX_L_TX p) ((x.1 + add.1) % 65536)).wr (R.TSU_LAT_RX_L_RX p) ((x.2 + add.2) % 65536)

/-- A link goes down: LINK_CHG, the count, and the frame in progress is lost (R234, R248). -/
def State.linkFalls (s : State) (p : Nat) : State :=
  let s := ((s.wr (R.MAC_STATUS_LINK p) 0).flag (R.MAC_STATUS_LINK_CHG p)).bump (R.MAC_CNT_LINK_DOWN_VALUE p)
  s.setMac p { s.mac p with tx := (s.mac p).tx.map (fun f => { f with lost := true }) }

/-- The lane or the pins of a port change; a loss of 10GBASE-R block lock is counted (R249). -/
def State.setLane (s : State) (p : Nat) (l : LinkState) : State :=
  let lost : Bool := p < 2 && s.rd (R.MAC_MODE_MODE p) = 0 && (s.mac p).lane.lock && !l.lock
  (s.setMac p { s.mac p with lane := l }).when lost (·.bump (R.MAC_CNT_BLOCK_LOCK_VALUE p))

/-- LINK follows the lane and the mode; a change sets LINK_CHG, a loss is counted; entries of hi_ber of 10GBASE-R are counted (R234). -/
def State.relink (s : State) (p : Nat) : State :=
  let l := (s.mac p).lane
  let tenG := p < 2 && s.rd (R.MAC_MODE_MODE p) = 0
  let up := s.linkUp p l
  let was := s.on (R.MAC_STATUS_LINK p)
  let s := s.when (tenG && l.hiBer && !s.on (R.MAC_STATUS_HI_BER p)) (·.bump (R.MAC_CNT_HI_BER_VALUE p))
  let s := (s.wr (R.MAC_STATUS_HI_BER p) (b2n (tenG && l.hiBer))).wr (R.MAC_STATUS_AN_DONE p) (b2n (p < 2 && l.anOk))
  let s := if p = 2 then s.wr (R.MAC_STATUS_SPEED p) l.speed.toNat else s
  if up = was then s
  else if was then s.linkFalls p
  else (s.wr (R.MAC_STATUS_LINK p) 1).flag (R.MAC_STATUS_LINK_CHG p)

/-- A write of MAC_MODE: the link is judged in the new mode, and its latency constants are loaded (R233, R234, R253). -/
def State.modeWritten (s : State) (p : Nat) : State := (s.relink p).loadLat p

/-- The lane of a service port is gone: its link goes down (R234, R353). -/
def State.linkLost (s : State) (p : Nat) : State :=
  let s := s.setLane p { (s.mac p).lane with lock := false }
  if s.on (R.MAC_STATUS_LINK p) then s.linkFalls p else s

/-- The MAC address of an IPv4 group (RFC 1112), byte 0 lowest. -/
def groupMac (ip : Nat) : Nat :=
  ofLeBytes ([0x01#8, 0x00#8, 0x5E#8] ++ beBytes 3 (ip % 2 ^ 23))

/-- The PTP group address of a profile: that of R256 for IEEE 802.1AS; those of IEEE 1588 for the others (PRESUMED, log entry 128). -/
def ptpGroup (profile : Nat) (layer2 : Bool) : Nat :=
  if profile = 3 then ofLeBytes [0x01#8, 0x80#8, 0xC2#8, 0x00#8, 0x00#8, 0x0E#8]
  else if profile = 0 && layer2 then ofLeBytes [0x01#8, 0x1B#8, 0x19#8, 0x00#8, 0x00#8, 0x00#8]
  else groupMac 0xE0000181

/-- The firmware enters a group address of a port in its lowest free MAC_MC entry, unless it stands there (R239) (DEDUCED, log entry 115). -/
def State.enterGroup (s : State) (p d : Nat) : State :=
  let held := (List.range 128).any (fun i => s.on (R.MAC_MC_W1_EN p i) && d = s.rd (R.MAC_MC_W0_ADDR_LO p i) + 2 ^ 32 * s.rd (R.MAC_MC_W1_ADDR_HI p i))
  if held then s
  else match (List.range 128).find? (fun i => !s.on (R.MAC_MC_W1_EN p i)) with
    | some i => ((s.wr (R.MAC_MC_W0_ADDR_LO p i) (d % 2 ^ 32)).wr (R.MAC_MC_W1_ADDR_HI p i) (d / 2 ^ 32)).wr (R.MAC_MC_W1_EN p i) 1
    | none => s

/-- 512 bit times of a port in units of 0.2 ns (R235). -/
def State.quantum (s : State) (p : Nat) : Nat :=
  let m := if p = 2 then s.rd (R.MAC_STATUS_SPEED p) + 2 else s.rd (R.MAC_MODE_MODE p)
  match m with
  | 0 => 256
  | 1 => 1024
  | 2 => 2560
  | 3 => 25600
  | _ => 256000

/-- Does a pause hold the port's transmission now (R235)? -/
def State.isPaused (s : State) (p : Nat) : Bool := decide (s.tm.raw < (s.mac p).paused)

/-- PAUSE_EXPIRY (R235): the quanta have run out. -/
def execPauseExpiry (mac : Fin 3) (t : Nat) (s : State) : Host.Outcome State Fault Refusal :=
  let s := s.atRaw t
  .next (if s.gated (12 + mac.val) || s.isPaused mac.val then s else s.setMac mac.val { s.mac mac.val with paused := 0 })

/-- A write of MAC_MDIO of MACM with BUSY clear starts a transfer (R249). -/
def State.mdio (s : State) (w : Nat) : State :=
  if s.on (R.MAC_MDIO_BUSY 2) then s
  else (s.wr (R.MAC_MDIO_w 2) (w % 0x80000000 / 0x40000 * 0x40000 + w % 65536)).flag (R.MAC_MDIO_BUSY 2)

/-- MDIO_TRANSFER (R249). -/
def execMdioTransfer (word : BitVec 32) (s : State) : Host.Outcome State Fault Refusal :=
  if s.gated 14 then .next s else
  .next (s.mdio word.toNat)

/-- MDIO_COMPLETE (R249): BUSY clears; a read (OP 2 or 3) leaves its data. -/
def execMdioComplete (data : BitVec 16) (s : State) : Host.Outcome State Fault Refusal :=
  if s.gated 14 then .next s else
  .next (if !s.on (R.MAC_MDIO_BUSY 2) then s
    else
      let s := s.wr (R.MAC_MDIO_BUSY 2) 0
      if 2 ≤ s.rd (R.MAC_MDIO_OP 2) then s.wr (R.MAC_MDIO_DATA 2) data.toNat else s)

/-- A write of word W1 of a receive ring: setting EN sets HEAD to 0; SIZE stays while EN is set (R244). -/
def State.ringEnable (s : State) (p r w : Nat) : State :=
  let was := s.on (R.MAC_RING_W1_EN p r)
  let size := if was then s.rd (R.MAC_RING_W1_SIZE p r) else w
  let s := (s.wr (R.MAC_RING_W1_w p r) (w / 2 ^ 28 * 2 ^ 28)).wr (R.MAC_RING_W1_SIZE p r) size
  if s.on (R.MAC_RING_W1_EN p r) && !was then
    (s.wr (R.MAC_RING_W3_HEAD p r) 0).setMac p { s.mac p with taken := (s.mac p).taken.set 0 r 0 }
  else s

end Sys2Proof.Machine
end

