-- ==== Sys2Proof/Machine/Ports.lean ====
section
/-! DEFINITION. Audio ports, sample-rate converters and microphones (09_audio_ports.md R170–R193). -/

namespace Sys2Proof.Machine

open Sys2Proof

def alignReset : AlignSt :=
  { inTol := 0, slipped := false, deliver := 0, frames := none, idx := none, last := none, caps := 0, latched := none }
def feedReset : FeedSt := { start := none, count := 0, windows := [], seen := none, frames := [] }
/-- DESIGN CHOICE, log entry 3. -/
def tdmReset : TdmSt :=
  { len := 0, run := 0, bad := 0, prev := [], cap := none, driven := [], fsOut := [], align := alignReset, feed := feedReset }
/-- DESIGN CHOICE, log entry 3. -/
def aesReset : AesSt :=
  { good := 0, miss := 0, zAge := none, prevA := 0, prevB := 0, cap := none, bits := [], cons := none, clean := 0,
    align := alignReset, feed := feedReset }
def ascReset : AscSt := { rho := none, good := 0, since := 0 }
def micReset : MicSt := { gainAt := 0, bandAt := none, outAt := none, hpf := (0, 0, 0, 0) }

def State.tdmSt (s : State) (p : Nat) : TdmSt := s.tdm.get tdmReset p
def State.setTdm (s : State) (p : Nat) (x : TdmSt) : State := { s with tdm := s.tdm.set tdmReset p x }
def State.aesSt (s : State) (i : Nat) : AesSt := s.aes.get aesReset i
def State.setAes (s : State) (i : Nat) (x : AesSt) : State := { s with aes := s.aes.set aesReset i x }
def State.ascSt (s : State) (c : Nat) : AscSt := s.asc.get ascReset c
def State.setAsc (s : State) (c : Nat) (x : AscSt) : State := { s with asc := s.asc.set ascReset c x }
def State.micSt (s : State) (n : Nat) : MicSt := s.mics.get micReset n
def State.setMic (s : State) (n : Nat) (x : MicSt) : State := { s with mics := s.mics.set micReset n x }

/-- SOURCE codes (R170). -/
def srcTdm (p c : Nat) : Nat := 0x2000 + 32 * p + c
def srcAes (i b : Nat) : Nat := 0x4000 + 2 * i + b
def srcAsc (c : Nat) : Nat := 0x6000 + c
def srcMic (n : Nat) : Nat := 0x8000 + n
def srcMsg (m : Nat) : Nat := 0xA000 + m

/-- Is a SOURCE code one of R170? -/
def sourceOk (c : Nat) : Bool :=
  match c / 8192 with
  | 0 => true
  | 1 => c % 8192 < 512
  | 2 => c % 8192 < 8
  | 3 => c % 8192 < 32
  | 4 => c % 8192 < 4
  | 5 => c % 8192 < 256
  | _ => false

/-- Is a source one that must enter through its ASRC channel, or an ASRC channel of a synchronous port (R171)? -/
def State.sourceBarred (s : State) (c : Nat) : Bool :=
  match c / 8192 with
  | 1 => s.on (R.TDM_CFG_ASYNC (c / 32 % 16))
  | 2 => s.on (R.AES_ICFG_ASYNC (c / 2 % 4))
  | 3 =>
    let k := c % 32
    s.on (R.ASC_CFG_EN k) &&
      (match s.rd (R.ASC_CFG_KIND k) with
        | 0 => !s.on (R.TDM_CFG_ASYNC (s.rd (R.ASC_CFG_PORT k)))
        | 1 => !s.on (R.AES_ICFG_ASYNC (s.rd (R.ASC_CFG_PORT k) % 4))
        | _ => false)
  | _ => false

/-! ### Slots (R172, R175, R176) -/

def State.slotWidth (s : State) (p : Nat) : Nat := max 7 (s.rd (R.TDM_CFG_WIDTH_M1 p)) + 1
def State.slotCount (s : State) (p : Nat) : Nat := s.rd (R.TDM_CFG_SLOTS_M1 p) + 1

/-- The slots of a mask, ascending. -/
def slotsOf (mask : Nat) : List Nat := (List.range 32).filter (fun i => bitOf mask i)

/-- A slot of `w` bits as a sample (R175); the slot's bits stand in the low bits of the word. -/
def slotSample (w v : Nat) : Int :=
  if 18 ≤ w then signedOf 18 ((v % 2 ^ w) >>> (w - 18)) else signedOf w v * 2 ^ (18 - w)

/-- A sample as a slot of `w` bits, and whether it saturated (R175). -/
def sampleSlot (w : Nat) (x : Int) : Nat × Bool :=
  if 18 ≤ w then (unsignedOf 18 x * 2 ^ (w - 18), false)
  else
    let y := rheDiv x (2 ^ (18 - w))
    (unsignedOf w (satBits w y), satBits w y ≠ y)

/-- The input slots of a port in block `k`. -/
def State.inSlots (s : State) (p k : Nat) : List Nat := slotsOf (s.rdAt k (R.TDM_MASK_IN_SLOTS p))

/-- Output slot, map EN and output of each output channel of a port in block `k`. -/
def State.outSlots (s : State) (p k : Nat) : List (Nat × Bool × Nat) :=
  let sl := slotsOf (s.rdAt k (R.TDM_MASK_OUT_SLOTS p))
  (List.range sl.length).map (fun c =>
    (sl.getD c 0, s.rdAt k (R.TDM_CHMAP_EN p c) = 1, s.rdAt k (R.TDM_CHMAP_OUTPUT p c)))

/-- Is a mask or map write of a port waiting for its frame (MASK_PEND, R177)? -/
def State.maskPend (s : State) (p : Nat) : Bool :=
  s.word (R.TDM_MASK_IN_SLOTS p) ≠ s.liveWord (R.TDM_MASK_IN_SLOTS p) ||
  s.word (R.TDM_MASK_OUT_SLOTS p) ≠ s.liveWord (R.TDM_MASK_OUT_SLOTS p) ||
  (List.range 32).any (fun c => s.word (R.TDM_CHMAP_w p c) ≠ s.liveWord (R.TDM_CHMAP_w p c))

/-- Slot `i` of a frame (R172): its bits, most significant first, from bit clock DELAY + i × w after the FS active edge. A bit clock
gives SD_IN at its rising and at its falling edge; EDGE picks the one that captures. -/
def State.slotBits (s : State) (p : Nat) (bits : List (Bool × Bool)) (i : Nat) : Nat :=
  let w := s.slotWidth p
  let at0 := s.rd (R.TDM_CFG_DELAY p) + i * w
  (List.range w).foldl (fun v j =>
    let b := bits.getD (at0 + j) (false, false)
    2 * v + b2n (if s.on (R.TDM_CFG_EDGE p) then b.2 else b.1)) 0

/-- Bit clocks of a master's frame (R173). -/
def State.masterLen (s : State) (p : Nat) : Nat := 49152000 / (s.fs * 2 ^ min 5 (s.rd (R.TDM_CFG_DIV p)))

/-- FS of a master over the bit clocks of a frame (R172): a pulse of one bit clock or half the frame, active high or low. -/
def State.fsLevels (s : State) (p : Nat) : List Bool :=
  let n := s.masterLen p
  (List.range n).map (fun j =>
    (if s.on (R.TDM_CFG_FSW p) then decide (2 * j < n) else decide (j = 0)) != s.on (R.TDM_CFG_FSPOL p))

/-! ### Frames and blocks (R178, R179) -/

/-- C at the start of block `k` as the ports see it: t(k) after lock, the paced boundary before it. -/
def State.blockInstant (s : State) (k : Nat) : Int :=
  if s.locked then s.tBlock k
  else (s.tm.blockStart : Int) + rheDiv (((k : Int) - s.tm.blockCount) * s.blockLen3) 3

/-- The number of the sample (32 × block + sample) whose frame begins at an instant of C. -/
def State.frameIndex (s : State) (c : Nat) : Nat :=
  ((32 * s.tm.blockCount : Nat) + rheDiv (3 * ((c : Int) - s.blockInstant s.tm.blockCount)) (s.blockLen3 / 32)).toNat

/-- The frame that a port's FS or preamble begins (R178): the one after the last while the port is aligned, the nearest by C else. -/
def State.trackIndex (s : State) (a : AlignSt) (aligned : Bool) (c : Nat) : Nat :=
  match a.idx with
  | some i => if aligned then i + 1 else s.frameIndex c
  | none => s.frameIndex c

/-- C at a master's FS active edge or an output's preamble of sample `idx` (R173): the sample's instant within ±20 ns. -/
def State.masterInstant (s : State) (p idx : Nat) : Nat :=
  ((s.blockInstant (idx / 32) : Int) + rheDiv ((idx % 32 : Nat) * (s.blockLen3 : Int)) 96 + clampI (-10) 10 (Config.fsSkew p idx)).toNat

/-- A frame of sample `idx` has been counted (R178). -/
def AlignSt.counted (a : AlignSt) (idx : Nat) : AlignSt :=
  { a with idx := some idx
           frames := if idx % 32 = 0 then some 1 else a.frames.map (· + 1) }

/-- Did the block that ended hold 32 frames, as the render rate gives it (R178)? -/
def AlignSt.rateOk (a : AlignSt) : Bool := match a.frames with | some n => n = 32 | none => true

/-- The check of R178 on a frame that carries sample 0 of block `k`, with phase error `e`: new tracking, whether aligned, whether
alignment was lost. -/
def AlignSt.check (a : AlignSt) (aligned : Bool) (tol : Nat) (k : Nat) (e : Int) (rateOk : Bool) : AlignSt × Bool × Bool :=
  if decide (e.natAbs ≤ tol) && rateOk then
    if aligned then (a, true, false)
    else if !a.slipped then ({ a with deliver := k }, true, false)
    else if a.inTol + 1 = 4 then ({ a with inTol := 0, slipped := false, deliver := k + 1 }, true, false)
    else ({ a with inTol := a.inTol + 1 }, false, false)
  else ({ a with inTol := 0, slipped := true }, false, aligned)

/-- TOL of a TDM port; an AES3 input takes the reset value. -/
def tolOf (v : Nat) : Nat := min 25000 (max 1 v)

/-- A time-stamp reaches its registers; HI and BLK wait while they are latched (R179). -/
def State.stamp (s : State) (lo hi phase blk : Fld) (a : AlignSt) (c : Nat) (e : Int) (k : Nat) : State × AlignSt :=
  let c := c % 2 ^ 64
  let ph := unsignedOf 16 (clampI (-32767) 32767 e)
  let s := s.wr lo (c % 2 ^ 32)
  match a.latched with
  | some _ => (s, { a with latched := some (c / 2 ^ 32, ph * 65536 + k % 65536) })
  | none => (((s.wr hi (c / 2 ^ 32)).wr phase ph).wr blk (k % 65536), a)

/-! ### What ASYNC ports feed (R185, R186) -/

/-- A frame whose FS or preamble stood at C `c`; windows of 1,024 frames abut. -/
def FeedSt.push (f : FeedSt) (c : Nat) (xs : List Int) (mark : Bool) : FeedSt :=
  let f := { f with seen := some c
                    frames := ((xs, mark) :: f.frames).take 1024 }
  match f.start with
  | none => { f with start := some c
                     count := 0 }
  | some a =>
    if f.count + 1 = 1024 then { f with start := some c
                                        count := 0
                                        windows := f.windows ++ [(a, c)] }
    else { f with count := f.count + 1 }

/-- What a port feeds; AES3 inputs answer to PORT mod 4. -/
def State.feed (s : State) (aes : Bool) (p : Nat) : FeedSt := if aes then (s.aesSt (p % 4)).feed else (s.tdmSt p).feed

def State.setFeed (s : State) (aes : Bool) (p : Nat) (f : FeedSt) : State :=
  if aes then s.setAes (p % 4) { s.aesSt (p % 4) with feed := f } else s.setTdm p { s.tdmSt p with feed := f }

/-! ### TDM frames (R174–R179) -/

/-- Lock of a slave port by frame length (R174). -/
def State.tdmLock (s : State) (p len : Nat) : State × Bool :=
  let x := s.tdmSt p
  let need := s.slotCount p * s.slotWidth p
  if s.on (R.TDM_CFG_MASTER p) then (s.flag (R.TDM_STATUS_LOCKED p), false)
  else if !s.on (R.TDM_STATUS_LOCKED p) then
    let run := if len < need then 0 else if len = x.len then x.run + 1 else 1
    let s := s.setTdm p { x with len := len, run := run, bad := 0, cap := none }
    (if 8 ≤ run then s.wr (R.TDM_STATUS_LOCKED p) 1 else s, false)
  else if len = x.len then (s.setTdm p { x with bad := 0 }, false)
  else
    let s := (s.flag (R.TDM_STATUS_FS_ERR p)).bump (R.TDM_CNT_FS_ERR_VALUE p)
    if x.bad + 1 = 4 then
      ((s.setTdm p { x with bad := 0, run := 0, cap := none, align := { x.align with slipped := false, inTol := 0 } }).wr
        (R.TDM_STATUS_LOCKED p) 0 |>.wr (R.TDM_STATUS_ALIGNED p) 0, true)
    else (s.setTdm p { x with bad := x.bad + 1 }, true)

/-- Alignment and time-stamp of a synchronous port at the frame that carries sample 0 of block `k` (R178, R179). -/
def State.tdmAlign (s : State) (p k c : Nat) : State :=
  let x := s.tdmSt p
  let e : Int := (c : Int) - s.blockInstant k
  let (a, ok, lost) := if s.on (R.TDM_CFG_MASTER p) then (x.align, true, false)
    else x.align.check (s.on (R.TDM_STATUS_ALIGNED p)) (tolOf (s.rd (R.TDM_ALIGN_TOL p))) k e x.align.rateOk
  let s := (s.wr (R.TDM_STATUS_ALIGNED p) (b2n ok)).when lost
    (fun s => (s.flag (R.TDM_STATUS_SLIP p)).bump (R.TDM_CNT_SLIP_VALUE p))
  let (s, a) := s.stamp (R.TDM_BTS_LO_C p) (R.TDM_BTS_HI_C p) (R.TDM_BTS_BLK_PHASE p) (R.TDM_BTS_BLK_BLOCK p) a c e k
  s.setTdm p { x with align := a }

/-- The time-stamp of an ASYNC port: every 32nd FS counted from enable (R179). -/
def State.tdmAsync (s : State) (p c : Nat) : State :=
  let x := s.tdmSt p
  let n := x.align.frames.getD 0 + 1
  if n % 32 = 0 then
    let (s, a) := s.stamp (R.TDM_BTS_LO_C p) (R.TDM_BTS_HI_C p) (R.TDM_BTS_BLK_PHASE p) (R.TDM_BTS_BLK_BLOCK p)
      x.align c 0 x.align.caps
    s.setTdm p { x with align := { a with frames := some n, caps := a.caps + 1 } }
  else s.setTdm p { x with align := { x.align with frames := some n } }

/-- The tiles of a captured block go to the history store (R177, R178). -/
def State.tdmDeliver (s : State) (p k : Nat) (frames : List (List Int)) : State :=
  let new := s.inSlots p k
  let old := if k = 0 then new else s.inSlots p (k - 1)
  (List.range new.length).foldl (fun s c =>
    s.present (srcTdm p c) (k % 65536) (frames.map (fun f => f.getD c 0)) false (new[c]? ≠ old[c]?)) s

/-- A block's capture joined by the frame of sample `j` of block `k`: a block starts at its sample 0 and takes no gap. -/
def capturing {α : Type} (cap : Option (Nat × List α)) (k j : Nat) (x : α) : Option (Nat × List α) :=
  match cap with
  | some (b, fs) => if b = k && fs.length = j then some (k, fs ++ [x]) else if j = 0 then some (k, [x]) else none
  | none => if j = 0 then some (k, [x]) else none

/-- Capture of a frame's channels (R174–R178). -/
def State.tdmCapture (s : State) (p idx : Nat) (ys : List Int) : State :=
  let x := s.tdmSt p
  let k := idx / 32
  match capturing x.cap k (idx % 32) ys with
  | some (_, fs) =>
    if fs.length = 32 then
      let s := s.setTdm p { x with cap := none, prev := ys }
      if s.on (R.TDM_STATUS_ALIGNED p) && x.align.deliver ≤ k then s.tdmDeliver p k fs else s
    else s.setTdm p { x with cap := some (k, fs), prev := ys }
  | none => s.setTdm p { x with cap := none, prev := ys }

/-- What SD_OUT carries in the frame of sample `idx` (R175–R178): each slot, and how many saturated. -/
def State.tdmDrive (s : State) (p idx : Nat) : List (Option Nat) × Nat :=
  let k := idx / 32
  let j := idx % 32
  let w := s.slotWidth p
  let run := s.on (R.TDM_STATUS_LOCKED p) && s.on (R.TDM_STATUS_ALIGNED p) && !s.on (R.TDM_CFG_ASYNC p)
  let new := s.outSlots p k
  let old := if k = 0 then new else s.outSlots p (k - 1)
  let word (i : Nat) : Option (Nat × Bool) :=
    if s.on (R.TDM_CFG_ASYNC p) then some (0, false)
    else match (List.range new.length).find? (fun c => (new.getD c (0, false, 0)).1 = i) with
      | none => if s.on (R.TDM_CFG_TRI p) then none else some (0, false)
      | some c =>
        let m := new.getD c (0, false, 0)
        if run && m.2.1 && 3 ≤ k then
          let x := (s.releasedBlock m.2.2 (k - 3)).getD j 0
          some (sampleSlot w (if old[c]? = new[c]? then x else fadeIn j x))
        else some (0, false)
  let ws := (List.range (s.slotCount p)).map word
  (ws.map (fun o => o.map Prod.fst), (ws.filter (fun o => match o with | some (_, b) => b | none => false)).length)

/-- The bits of a slot on SD_OUT, most significant first. -/
def slotLine (w : Nat) (v : Option Nat) : List (Option Bool) :=
  (List.range w).map (fun j => v.map (fun x => bitOf x (w - 1 - j)))

/-- SD_OUT over a frame of `len` bit clocks from DELAY on (R172): the slots, then low. -/
def State.tdmLine (s : State) (p len : Nat) (ws : List (Option Nat)) : List (Option Bool) :=
  let bs := ws.flatMap (slotLine (s.slotWidth p))
  bs ++ List.replicate (len - bs.length) (some false)

/-- The pins of a port over the frame of sample `idx` (R172–R178). -/
def State.tdmPins (s : State) (p len idx : Nat) : State :=
  let (ws, n) := s.tdmDrive p idx
  (s.setTdm p { s.tdmSt p with
    driven := s.tdmLine p len ws
    fsOut := if s.on (R.TDM_CFG_MASTER p) then s.fsLevels p else [] }).count (R.TDM_CNT_SAT_VALUE p) n

/-- TDM_FRAME (R172–R178): a frame of `len` bit clocks is complete at `t`; its FS rose and fell at RAW `fsRise` and `fsFall`, and
`bits` are SD_IN at the rising and falling edges of its bit clocks, from the one at which the active edge is sampled. A master drives
its own frame length and FS instant (R173); without the audio PLL it drives none (R353). -/
def execTdmFrame (port : Fin 16) (len : Nat) (bits : List (Bool × Bool)) (fsRise : Nat) (fsFall : Nat) (t : Nat) (s : State) :
    Host.Outcome State Fault Refusal :=
  if s.gated 6 then .next (s.atRaw t) else
  let p := port.val
  let s := s.atRaw t
  if !s.on (R.TDM_CFG_EN p) then .next s
  else if s.on (R.TDM_CFG_MASTER p) && s.clkLost 4 then .next (s.setTdm p { s.tdmSt p with driven := [], fsOut := [] })
  else
    let master := s.on (R.TDM_CFG_MASTER p)
    let len := if master then s.masterLen p else len
    let (s, bad) := s.tdmLock p len
    let c0 := s.tm.corrected (if s.on (R.TDM_CFG_FSPOL p) then fsFall else fsRise)
    let idx := s.trackIndex (s.tdmSt p).align (s.on (R.TDM_STATUS_ALIGNED p) && !master) c0
    let c := if master then s.masterInstant p idx else c0
    let ys := if bad then (s.tdmSt p).prev else (s.inSlots p (idx / 32)).map (fun i => slotSample (s.slotWidth p) (s.slotBits p bits i))
    if s.on (R.TDM_CFG_ASYNC p) then
      let s := (s.tdmAsync p c).setFeed false p ((s.feed false p).push c ys false)
      .next ((s.setTdm p { s.tdmSt p with prev := ys }).tdmPins p len idx)
    else
      let s := if idx % 32 = 0 && s.on (R.TDM_STATUS_LOCKED p) then s.tdmAlign p (idx / 32) c else s
      let s := s.setTdm p { s.tdmSt p with align := (s.tdmSt p).align.counted idx }
      let s := if s.on (R.TDM_STATUS_LOCKED p) then s.tdmCapture p idx ys else s
      .next (s.tdmPins p len idx)

/-- TDM_CFG takes a word (R174, R179): a port whose enable, role, rate domain or frame format changes starts afresh, and an enabled
master is locked and aligned at once (DEDUCED, log entry 105). -/
def State.tdmConfig (s : State) (p v : Nat) : State :=
  let old := s.rd (R.TDM_CFG_w p)
  let s := s.wr (R.TDM_CFG_w p) v
  if (old ^^^ v) &&& 0xFEFFFFFF = 0 then s
  else
    let lead := bitOf v 31 && bitOf v 30
    ((s.setTdm p { tdmReset with align := { alignReset with latched := (s.tdmSt p).align.latched } }).wr
      (R.TDM_STATUS_LOCKED p) (b2n lead)).wr (R.TDM_STATUS_ALIGNED p) (b2n (lead && !bitOf v 29))

/-! ### AES3 frames (R180–R183) -/

/-- The sample of a 24-bit audio word (R8). -/
def wordSample (w : BitVec 24) : Int := signedOf 18 (w.toNat / 64)

/-- The AES3 CRCC of the first 184 channel-status bits: generator x^8 + x^4 + x^3 + x^2 + 1, all ones at the start, bit 0 first,
as AES3 defines it. -/
def crcc : List Bool → BitVec 8 → BitVec 8
  | [], c => c
  | b :: bs, c =>
    let f := c.getLsbD 0 != b
    let c := c >>> 1
    crcc bs (if f then c ^^^ 0xB8#8 else c)

/-- Bits, first in the low bit, as a number. -/
def bitsNat : List Bool → Nat
  | [] => 0
  | b :: bs => b2n b + 2 * bitsNat bs

/-- A good channel-status block reaches AES_ICS0–5, PRO and the non-audio condition (R182, R183). -/
def State.csGood (s : State) (i : Nat) (bits : List Bool) : State :=
  let s := (List.range 6).foldl (fun s w => s.wr (R.AES_ICS_CS i w) (bitsNat ((bits.drop (32 * w)).take 32))) s
  s.wr (R.AES_ISTAT_PRO i) (b2n (bits.getD 0 false))

/-- A whole channel-status block of subframe A (R182): whether it is good. -/
def State.csBlock (s : State) (i : Nat) (bits : List Bool) : State × Bool :=
  let x := s.aesSt i
  if bits.getD 0 false then
    if (crcc (bits.take 184) 0xFF#8).toNat = bitsNat (bits.drop 184) then ((s.setAes i { x with cons := none }).csGood i bits, true)
    else ((((s.setAes i { x with cons := none }).bump (R.AES_CNT_CS_ERR_VALUE i)).flag (R.AES_ISTAT_CS_ERR i)), false)
  else if x.cons = some bits then (s.csGood i bits, true)
  else (s.setAes i { x with cons := some bits }, false)

/-- Lock of an AES3 input (R181). -/
def State.aesLock (s : State) (i : Nat) (z : Bool) (a b : Subframe) : State :=
  let x := s.aesSt i
  let whole := a.preamble && b.preamble
  let zOk := match x.zAge with
    | some n => if z then n = 192 else n < 192
    | none => true
  let zAge := if z && a.preamble then some 1 else x.zAge.map (· + 1)
  let good := if whole && !a.biphase && !b.biphase && zOk then x.good + 1 else 0
  let miss := if b.preamble then 0 else if a.preamble then 1 else x.miss + 2
  let lost := s.on (R.AES_ISTAT_LOCKED i) && (4 ≤ miss || (!a.preamble && 4 ≤ x.miss + 1))
  let s := s.setAes i { x with good := if lost then 0 else good, miss := if lost then 0 else miss,
                               zAge := if lost then none else zAge, bits := if lost then [] else x.bits,
                               cons := if lost then none else x.cons, cap := if lost then none else x.cap }
  if lost then (s.wr (R.AES_ISTAT_LOCKED i) 0).wr (R.AES_ISTAT_ALIGNED i) 0
  else if 64 ≤ good then s.wr (R.AES_ISTAT_LOCKED i) 1
  else s

/-- One subframe's sample: an errored one repeats the previous good one and is counted (R181). -/
def State.aesSample (s : State) (i : Nat) (f : Subframe) (prev : Int) : State × Int :=
  let s := (s.when f.parity (fun s => (s.flag (R.AES_ISTAT_PARITY i)).bump (R.AES_CNT_PARITY_VALUE i))).when f.biphase
    (fun s => (s.flag (R.AES_ISTAT_BIPHASE i)).bump (R.AES_CNT_BIPHASE_VALUE i))
  (s, if f.parity || f.biphase || !f.preamble then prev else wordSample f.word)

/-- The channel-status bit of a frame (R182); gives whether a good block ended that says non-audio. -/
def State.aesStatus (s : State) (i : Nat) (z : Bool) (c : Bool) : State × Bool :=
  let x := s.aesSt i
  let bits := if z then [c] else if x.bits.length < 192 then x.bits ++ [c] else x.bits
  let s := s.setAes i { x with bits := bits }
  if bits.length = 192 && !z && x.bits.length < 192 then
    let (s, good) := s.csBlock i bits
    (s, good && bits.getD 1 false)
  else (s, false)

/-- The non-audio state (R183): entered on a condition, left after NA_HOLD frames without one, from the next tile on. -/
def State.aesNonAudio (s : State) (i : Nat) (cond : Bool) : State :=
  let x := s.aesSt i
  if cond then
    let s := s.setAes i { x with clean := 0 }
    if s.on (R.AES_ISTAT_NON_AUDIO i) then s
    else (s.wr (R.AES_ISTAT_NON_AUDIO i) 1).bump (R.AES_CNT_BURST_VALUE i)
  else
    let n := x.clean + 1
    (s.setAes i { x with clean := n }).when (max 1024 (s.rd (R.AES_ICFG_NA_HOLD i)) ≤ n)
      (·.wr (R.AES_ISTAT_NON_AUDIO i) 0)

/-- AES_IRATE over the 32 frames since the last time-stamp. -/
def State.aesRate (s : State) (i c : Nat) : State :=
  match (s.aesSt i).align.last with
  | some b => if c ≤ b then s else s.wr (R.AES_IRATE_RATE i) (min 262143 (rheDivNat 16000000000 (c - b)))
  | none => s

/-- Alignment and time-stamp at the frame that carries sample 0 (R178–R180). -/
def State.aesAlign (s : State) (i k c : Nat) : State :=
  let s := if (s.aesSt i).align.frames = some 32 then s.aesRate i c else s
  let x := s.aesSt i
  let e : Int := (c : Int) - s.blockInstant k
  let (a, ok, lost) := x.align.check (s.on (R.AES_ISTAT_ALIGNED i)) 1000 k e x.align.rateOk
  let s := (s.wr (R.AES_ISTAT_ALIGNED i) (b2n ok)).when lost
    (fun s => (s.flag (R.AES_ISTAT_SLIP i)).bump (R.AES_CNT_SLIP_VALUE i))
  let (s, a) := s.stamp (R.AES_IBTS_LO_C i) (R.AES_IBTS_HI_C i) (R.AES_IBTS_BLK_PHASE i) (R.AES_IBTS_BLK_BLOCK i) a c e k
  s.setAes i { x with align := { a with last := some c } }

/-- The time-stamp of an ASYNC input: every 32nd frame counted from enable (R179). -/
def State.aesAsync (s : State) (i c : Nat) : State :=
  let x := s.aesSt i
  let n := x.align.frames.getD 0 + 1
  if n % 32 = 0 then
    let (s, a) := (s.aesRate i c).stamp (R.AES_IBTS_LO_C i) (R.AES_IBTS_HI_C i) (R.AES_IBTS_BLK_PHASE i) (R.AES_IBTS_BLK_BLOCK i)
      x.align c 0 x.align.caps
    s.setAes i { x with align := { a with frames := some n, last := some c, caps := a.caps + 1 } }
  else s.setAes i { x with align := { x.align with frames := some n } }

/-- Capture of a frame (R180, R183). -/
def State.aesCapture (s : State) (i idx : Nat) (p : Int × Int × Bool) : State :=
  let x := s.aesSt i
  let k := idx / 32
  match capturing x.cap k (idx % 32) p with
  | some (_, fs) =>
    if fs.length = 32 then
      let s := s.setAes i { x with cap := none }
      if s.on (R.AES_ISTAT_ALIGNED i) && x.align.deliver ≤ k then
        let na := fs.any (fun f => f.2.2)
        (s.present (srcAes i 0) (k % 65536) (fs.map (fun f => f.1)) na false).present (srcAes i 1) (k % 65536)
          (fs.map (fun f => f.2.1)) na false
      else s
    else s.setAes i { x with cap := some (k, fs) }
  | none => s.setAes i { x with cap := none }

/-- AES_ICFG takes a word: an input whose EN or ASYNC changes starts afresh (R179–R183) (DEDUCED, log entry 105). -/
def State.aesConfig (s : State) (i v : Nat) : State :=
  let old := s.rd (R.AES_ICFG_w i)
  let s := s.wr (R.AES_ICFG_w i) v
  if (old ^^^ v) &&& 0xC0000000 = 0 then s
  else (((s.setAes i { aesReset with align := { alignReset with latched := (s.aesSt i).align.latched } }).wr
    (R.AES_ISTAT_LOCKED i) 0).wr (R.AES_ISTAT_ALIGNED i) 0).wr (R.AES_ISTAT_NON_AUDIO i) 0

/-- AES3_FRAME (R181): the frame whose X or Z preamble stood at RAW `fs` is complete at `t`. -/
def execAes3Frame (input : Fin 4) (z : Bool) (a : Subframe) (b : Subframe) (fs : Nat) (t : Nat) (s : State) :
    Host.Outcome State Fault Refusal :=
  if s.gated 7 then .next (s.atRaw t) else
  let i := input.val
  let s := s.atRaw t
  if !s.on (R.AES_ICFG_EN i) then .next s
  else
    let s := s.aesLock i z a b
    let ra := s.aesSample i a (s.aesSt i).prevA
    let rb := ra.1.aesSample i b (ra.1.aesSt i).prevB
    let s := rb.1.setAes i { rb.1.aesSt i with prevA := ra.2, prevB := rb.2 }
    let rc := s.aesStatus i z a.c
    let s := rc.1
    let burst := s.on (R.AES_ICFG_BURST_EN i) && a.word.toNat / 256 = 0xF872 && b.word.toNat / 256 = 0x4E1F
    let cond := (s.on (R.AES_ICFG_CS_NA_EN i) && rc.2) || burst || (s.rd (R.AES_ICFG_VMODE i) = 1 && (a.v || b.v))
    let was := s.on (R.AES_ISTAT_NON_AUDIO i)
    let s := s.aesNonAudio i cond
    let mark := was || s.on (R.AES_ISTAT_NON_AUDIO i)
    let c := s.tm.corrected fs
    if s.on (R.AES_ICFG_ASYNC i) then
      .next (if a.preamble then (s.aesAsync i c).setFeed true i ((s.feed true i).push c [ra.2, rb.2] mark) else s)
    else
      let idx := s.trackIndex (s.aesSt i).align (s.on (R.AES_ISTAT_ALIGNED i)) c
      let s := if idx % 32 = 0 && s.on (R.AES_ISTAT_LOCKED i) then s.aesAlign i (idx / 32) c else s
      let s := s.setAes i { s.aesSt i with align := (s.aesSt i).align.counted idx }
      .next (if s.on (R.AES_ISTAT_LOCKED i) then s.aesCapture i idx (ra.2, rb.2, mark) else s)

/-! ### AES3 outputs (R184) -/

/-- The 192 channel-status bits an output sends: the template with byte 23 replaced by the CRCC. -/
def State.aesOutStatus (s : State) (o : Nat) : List Bool :=
  let w (i : Nat) : Nat := if i = 0 then s.rd (R.AES_OCS0_CS o) else s.rd (R.AES_OCS_CS o (i - 1))
  let bits := (List.range 184).map (fun i => bitOf (w (i / 32)) (i % 32))
  bits ++ (List.range 8).map (fun i => (crcc bits 0xFF#8).getLsbD i)

/-- The audio word of a subframe of an output in the frame of sample `idx` (R8, R184): the 18-bit sample in the top bits of 24,
faded in where the map changed at the block. -/
def State.aesOutWord (s : State) (o : Nat) (subB : Bool) (idx : Nat) : Nat :=
  let k := idx / 32
  let en (n : Nat) : Nat := s.rdAt n (if subB then R.AES_OMAP_EN_B o else R.AES_OMAP_EN_A o)
  let out (n : Nat) : Nat := s.rdAt n (if subB then R.AES_OMAP_OUT_B o else R.AES_OMAP_OUT_A o)
  if s.on (R.AES_OCFG_EN o) && en k = 1 && 3 ≤ k then
    let x := (s.releasedBlock (out k) (k - 3)).getD (idx % 32) 0
    unsignedOf 18 (if en (k - 1) = 1 && out (k - 1) = out k then x else fadeIn (idx % 32) x) * 64
  else 0

/-- Does the frame of sample `idx` open with a Z preamble (R184)? -/
def aesOutZ (idx : Nat) : Bool := idx % 192 = 0

/-- Time slots 4–31 of a subframe (R184), slot 4 in bit 0: the audio word, V, the user bit 0, the channel-status bit, and the parity
that makes the slots even. -/
def subframeBits (word : Nat) (v c : Bool) : Nat :=
  let x := word % 2 ^ 24 + 2 ^ 24 * b2n v + 2 ^ 26 * b2n c
  x + 2 ^ 27 * (((List.range 27).countP (fun j => bitOf x j)) % 2)

/-- The frame of an output that carries sample `idx`; its X or Z preamble stands at `masterInstant`. -/
def State.aesOutFrame (s : State) (o idx : Nat) : AesFrame :=
  let c := (s.aesOutStatus o).getD (idx % 192) false
  ⟨aesOutZ idx, subframeBits (s.aesOutWord o false idx) (s.on (R.AES_OCFG_V o)) c,
   subframeBits (s.aesOutWord o true idx) (s.on (R.AES_OCFG_V o)) c⟩

/-- The AES3 outputs send the frames of block `k` (R184); they stop without the audio PLL (R353). -/
def State.sendAes (s : State) (k : Nat) : State :=
  (List.range 4).foldl (fun s o =>
    let fs := if s.on (R.AES_OCFG_EN o) && !s.clkLost 4 then (List.range 32).map (fun j => s.aesOutFrame o (32 * k + j)) else []
    { s with aesOut := s.aesOut.set [] o fs }) s

/-! ### Sample-rate converters (R185–R188) -/

/-- Is an ASRC channel fed by a port? -/
def State.ascFed (s : State) (c : Nat) (aes : Bool) (port : Nat) : Bool :=
  s.on (R.ASC_CFG_EN c) &&
    (if aes then s.rd (R.ASC_CFG_KIND c) = 1 && s.rd (R.ASC_CFG_PORT c) % 4 = port % 4
     else s.rd (R.ASC_CFG_KIND c) = 0 && s.rd (R.ASC_CFG_PORT c) = port)

/-- A channel loses lock (R187) and acquires again from its next window. -/
def State.ascLose (s : State) (c : Nat) : State :=
  let s := s.setAsc c ascReset
  if s.on (R.ASC_STATUS_LOCKED c) then
    (((s.wr (R.ASC_STATUS_LOCKED c) 0).wr (R.ASC_STATUS_ACQ c) 1).flag (R.ASC_STATUS_UNLOCK c)).bump (R.ASC_CNT_UNLOCK_VALUE c)
  else s

/-- ρ reaches ASC_RATIO_LO; ASC_RATIO_HI follows when LO is read, which latches it (R193). -/
def State.showRho (s : State) (c rho : Nat) : State := s.wr (R.ASC_RATIO_LO_FRAC c) (rho % 2 ^ 32)

/-- A read of ASC_RATIO_LO latches ASC_RATIO_HI. -/
def State.latchRho (s : State) (c : Nat) : State :=
  match (s.ascSt c).rho with
  | some rho => s.wr (R.ASC_RATIO_HI_INT c) (rho / 2 ^ 32 % 16)
  | none => s

/-- A window of one channel (R186, R187); `d` is its length in units of 2 ns. -/
def State.ascWindow (s : State) (c d : Nat) : State :=
  let x := s.ascSt c
  let fout := if s.on (R.ASC_CFG_OUT_VOICE c) then 16000 else s.fs
  let s := s.wr (R.ASC_FIN_FIN c) (rheDivNat 512000000000 d)
  if 512000000000 < 7800 * d ∨ 196000 * d < 512000000000 then s.ascLose c
  else
    let num : Nat := 512000000000 * 2 ^ 32
    let den : Nat := d * fout
    match x.rho with
    | none =>
      let rho := rheDivNat num den
      ((s.setAsc c { x with rho := some rho, good := 0 }).wr (R.ASC_STATUS_ACQ c) (b2n (!s.on (R.ASC_STATUS_LOCKED c)))).showRho c rho
    | some rho =>
      let diff : Int := (num : Int) - rho * den
      let bw := clampN 2 8 (s.rd (R.ASC_LOOP_BW c))
      let next := ((rho : Int) + rheDiv diff (den * 2 ^ bw)).toNat
      if 1000 * rho * den < diff.natAbs * 1000000 then s.ascLose c
      else
        let good := if diff.natAbs * 1000000 ≤ 20 * rho * den then x.good + 1 else 0
        let s := (s.setAsc c { x with rho := some next, good := good }).showRho c next
        if 4 ≤ good && !s.on (R.ASC_STATUS_LOCKED c) then
          ((s.wr (R.ASC_STATUS_LOCKED c) 1).wr (R.ASC_STATUS_ACQ c) 0).setAsc c ⟨some next, good, s.nextBlock⟩
        else s

/-- ASRC_WINDOW (R186): the oldest window of 1,024 frames that ended on a TDM port or an AES3 input reaches the trackers of the channels it feeds
(DEDUCED, log entry 106). -/
def execAsrcWindow (aes : Bool) (port : Fin 16) (s : State) : Host.Outcome State Fault Refusal :=
  if s.gated 8 then .next s else
  let f := s.feed aes port.val
  match f.windows with
  | [] => .next s
  | (a, b) :: ws =>
    let s := s.setFeed aes port.val { f with windows := ws }
    .next ((List.range 32).foldl (fun s c => if s.ascFed c aes port.val && a < b then s.ascWindow c (b - a) else s) s)

/-- ASRC_FS_TIMEOUT (R187): 1.00 ms has passed at `t` since the port's last FS or preamble. -/
def execAsrcFsTimeout (aes : Bool) (port : Fin 16) (t : Nat) (s : State) : Host.Outcome State Fault Refusal :=
  if s.gated 8 then .next (s.atRaw t) else
  let s := s.atRaw t
  let f := s.feed aes port.val
  let quiet : Bool := match f.seen with | some c => decide (c + us 1000 ≤ s.now) | none => true
  if !quiet then .next s
  else
    let s := s.setFeed aes port.val { f with start := none, count := 0, windows := [] }
    .next ((List.range 32).foldl (fun s c => if s.ascFed c aes port.val then s.ascLose c else s) s)

/-- ASC_CFG takes a word: a channel that changes acquires afresh (DEDUCED, log entry 105). -/
def State.ascConfig (s : State) (c v : Nat) : State :=
  if s.rd (R.ASC_CFG_w c) = v then s
  else (((s.wr (R.ASC_CFG_w c) v).setAsc c ascReset).wr (R.ASC_STATUS_LOCKED c) 0).wr (R.ASC_STATUS_ACQ c) 0

/-- D_ASRC in units of 2 ns (R188): 1 ms for inputs at 32 kHz and above, 4 ms below. -/
def ascDelay (rho fout : Nat) : Nat := if 32000 * 2 ^ 32 ≤ rho * fout then ms 1 else ms 4

/-- The place of an instant of C on the line through a port's time-stamps, in 2^−32 of an input frame after the start of its window (R186). -/
def FeedSt.place (f : FeedSt) (rho fout : Nat) (c : Int) : Int := (c - f.start.getD 0) * rho * fout / 500000000

/-- Channel `ch` of the frame `m` places after the start of the window. -/
def FeedSt.sample (f : FeedSt) (ch : Nat) (m : Int) : Int :=
  if (f.count : Int) < m then 0 else (f.frames.getD (f.count - m).toNat ([], false)).1.getD ch 0

/-- Is that frame marked non-audio? -/
def FeedSt.marked (f : FeedSt) (m : Int) : Bool :=
  if (f.count : Int) < m then false else (f.frames.getD (f.count - m).toNat ([], false)).2

/-- A converter's output at an instant of C (R185): the input interpolated D_ASRC earlier, from the input samples that lie within D_ASRC of there. -/
def FeedSt.output (f : FeedSt) (rho fout ch : Nat) (c : Int) : Int :=
  let d := ascDelay rho fout
  let p := f.place rho fout (c - d)
  let m := p / 2 ^ 32
  let r := ceilDiv (d * rho * fout) (500000000 * 2 ^ 32)
  (Config.asrcInterp (p % 2 ^ 32).toNat ((List.range (2 * r + 1)).map (fun (i : Nat) => f.sample ch (m + i - r)))).toInt

/-- Does the input span of the outputs at instants from `c0` to `c1` hold a non-audio frame (R183) (DEDUCED, log entry 107)? -/
def FeedSt.spoilt (f : FeedSt) (rho fout : Nat) (c0 c1 : Int) : Bool :=
  let d := ascDelay rho fout
  let a := f.place rho fout (c0 - d) / 2 ^ 32
  let b := f.place rho fout (c1 - d) / 2 ^ 32
  (List.range ((b - a).toNat + 1)).any (fun (i : Nat) => f.marked (a + i))

/-- The feed of a channel and the channel of it that it takes. -/
def State.ascFeed (s : State) (c : Nat) : FeedSt := s.feed (s.rd (R.ASC_CFG_KIND c) = 1) (s.rd (R.ASC_CFG_PORT c))
def State.ascChan (s : State) (c : Nat) : Nat := if s.rd (R.ASC_CFG_KIND c) = 1 then s.rd (R.ASC_CFG_CHANNEL c) % 2 else s.rd (R.ASC_CFG_CHANNEL c)

/-- Does a channel deliver the tile of block `k` (R187): enabled, of a kind, its input channel there, and locked since before the block? -/
def State.ascDelivers (s : State) (c k : Nat) : Bool :=
  s.on (R.ASC_CFG_EN c) && decide (s.rd (R.ASC_CFG_KIND c) ≤ 1) && s.on (R.ASC_STATUS_LOCKED c) && decide ((s.ascSt c).since ≤ k) &&
    (s.rd (R.ASC_CFG_KIND c) = 1 || decide (s.rd (R.ASC_CFG_CHANNEL c) < (s.inSlots (s.rd (R.ASC_CFG_PORT c)) k).length))

/-! ### The voice bridge (R167, R168) -/

/-- Render samples per voice sample. -/
def State.voiceUp (s : State) : Nat := if s.straps.rate96 then 6 else 3

/-- The exact sum of the voice bridge for output sample `q` of a stream of voice samples `x` (R168). -/
def State.voiceSum (s : State) (x : Int → Int) (q : Nat) : Int :=
  let l := s.voiceUp
  ((List.range 16).map (fun k => (Config.bridgeTap s.straps.rate96 0 (l * k + q % l)).toInt * x ((q / l : Nat) - (k : Int)))).sum

/-- Voice sample `i` of a source; one it has not given is zero (DESIGN CHOICE, log entry 108). -/
def VoxSt.sample (v : VoxSt) (i : Int) : Int := if i < 0 || (v.next : Int) ≤ i then 0 else v.xs.getD ((v.next : Int) - 1 - i).toNat 0

/-- The next voice samples join, oldest first, numbered from `first`; earlier ones stay if they abut. -/
def VoxSt.push (v : VoxSt) (first : Nat) (xs : List Int) : VoxSt :=
  ⟨first + xs.length, (xs.reverse ++ (if v.next = first then v.xs else [])).take 28⟩

/-- The voice samples that block `k` adds: from the first past those of block k − 1 to the last its bridged samples need, two render samples
ahead (R167). -/
def State.voxFirst (s : State) (k : Nat) : Nat := if k = 0 then 0 else (32 * (k - 1) + 33) / s.voiceUp + 1
def State.voxCount (s : State) (k : Nat) : Nat := (32 * k + 33) / s.voiceUp + 1 - s.voxFirst k

/-- The bridged tile of block `k` of a source in the voice domain whose new samples are `xs`; saturations are counted. -/
def State.voiceTile (s : State) (key k : Nat) (xs : List Int) : State × List Int :=
  let v := (s.vox.get ⟨0, []⟩ key).push (s.voxFirst k) xs
  let ys := (List.range 32).map (fun j => rheDiv (s.voiceSum v.sample (32 * k + j + 2)) 32768)
  (({ s with vox := s.vox.set ⟨0, []⟩ key v }.count R.MIX_CNT_BRG_SAT_VALUE (ys.countP sat17Hit)), ys.map sat17)

/-- The tile of an ASRC channel for block `k`, and whether it is marked non-audio (R183, R185). -/
def State.ascTile (s : State) (c k : Nat) : State × List Int × Bool :=
  let f := s.ascFeed c
  let rho := (s.ascSt c).rho.getD 0
  if s.on (R.ASC_CFG_OUT_VOICE c) then
    let at_ (i : Nat) : Int := s.instant (s.voiceUp * (s.voxFirst k + i))
    let n := s.voxCount k
    let (s', ys) := s.voiceTile c k ((List.range n).map (fun i => f.output rho 16000 (s.ascChan c) (at_ i)))
    (s', ys, f.spoilt rho 16000 (at_ 0) (at_ (n - 1)))
  else
    let at_ (j : Nat) : Int := s.instant (32 * k + j)
    (s, (List.range 32).map (fun j => f.output rho s.fs (s.ascChan c) (at_ j)), f.spoilt rho s.fs (at_ 0) (at_ 31))

/-! ### Microphones (R189–R192) -/

/-- The objects bound to a microphone's gate (DESIGN CHOICE, log entry 9). -/
def State.boundTo (s : State) (n : Nat) : List Nat := (s.bound.filter (fun p => p.2 = n + 1)).map Prod.fst

/-- A microphone event (R313): to the owners of the bound objects' home zones, or to all sessions of class 0 and 1; Tally
logs faults, clears, plugs and unplugs (R228). -/
def State.micEvent (s : State) (n kind : Nat) : State :=
  let data := leBytes 1 n ++ leBytes 1 kind ++ leBytes 1 (s.rd (R.MIC_STATUS_CAUSE n)) ++ leBytes 1 (s.rd (R.MIC_STATUS_CLASS n))
  let s := s.when (decide (2 ≤ kind)) (·.tallyLog tMic rEvent n (s.rd (R.MIC_STATUS_CAUSE n)))
  match s.boundTo n with
  | [] => s.eventOps 0x0E01 data
  | os => (dedup (os.filterMap (fun o => s.ownerOf (refZone (s.obj o).acc.homeZone.toNat)))).foldl
      (fun s i => s.eventTo i 0x0E01 data) s

/-- The gates bound to a microphone open or close at the next boundary (R22). -/
def State.micGates (s : State) (n : Nat) (isOpen : Bool) : State :=
  (s.boundTo n).foldl (fun s o => s.later s.nextBlock (.gate o isOpen)) s

/-- PTT sets or clears (R192), with its event and gates. -/
def State.setPtt (s : State) (n : Nat) (on : Bool) : State :=
  let s := (s.wr (R.MIC_STATUS_PTT n) (b2n on)).flag (R.MIC_STATUS_EVT n)
  (s.micGates n on).micEvent n (if on then 0 else 1)

/-- PTT clears if it is set. -/
def State.dropPtt (s : State) (n : Nat) : State := if s.on (R.MIC_STATUS_PTT n) then s.setPtt n false else s

/-- A fault present clears and is reported (R191). -/
def State.micClear (s : State) (n : Nat) : State :=
  if s.on (R.MIC_STATUS_FAULT n) then
    ((((s.wr (R.MIC_STATUS_FAULT n) 0).wr (R.MIC_STATUS_CAUSE n) 0).flag (R.MIC_STATUS_FAULT_EVT n))).micEvent n 5
  else s

/-- An unplug (R191): PTT, CLASS and a fault clear. -/
def State.micUnplug (s : State) (n : Nat) : State :=
  let had := s.rd (R.MIC_STATUS_CLASS n) ≠ 0
  let s := (s.dropPtt n).wr (R.MIC_STATUS_CLASS n) 0
  let s := s.when had (fun s => (s.flag (R.MIC_STATUS_EVT n)).micEvent n 3)
  s.micClear n

/-- Does detection run? -/
def State.detects (s : State) (n : Nat) : Bool := s.on (R.MIC_CFG_DET_EN n) && s.on (R.MIC_CFG_BIAS_EN n)

/-- Detection stops (R190, R191): at once as an unplug. -/
def State.micStop (s : State) (n : Nat) : State :=
  ((((s.micUnplug n).wr (R.MIC_STATUS_BAND n) 5).wr (R.MIC_DET_VALUE n) 0).setMic n
    { (s.micUnplug n).micSt n with bandAt := none, outAt := none })

/-- A gain is written (R189): it waits for a crossing; the timeout runs from the first write. -/
def State.micGain (s : State) (n g : Nat) : State :=
  let s := s.wr (R.MIC_CFG_GAIN n) g
  if s.on (R.MIC_STATUS_GAIN_PEND n) then s
  else if s.rd (R.MIC_STATUS_GAIN_NOW n) = g % 16 then s
  else (s.wr (R.MIC_STATUS_GAIN_PEND n) 1).setMic n { s.micSt n with gainAt := s.tm.raw }

/-- A pending gain is applied. -/
def State.micApply (s : State) (n : Nat) : State :=
  (s.wr (R.MIC_STATUS_GAIN_NOW n) (s.rd (R.MIC_CFG_GAIN n))).wr (R.MIC_STATUS_GAIN_PEND n) 0

/-- The firmware's configuration of a microphone reaches its boundary; clearing DET_EN or BIAS_EN stops detection. -/
def State.micConfig (s : State) (n w : Nat) : State :=
  let was := s.detects n
  let s := s.wr (R.MIC_CFG_w n) (setBits w 3 0 (s.rd (R.MIC_CFG_GAIN n)))
  if was && !s.detects n then s.micStop n else s

/-- A zero crossing of two consecutive samples (R189). -/
def crosses (a b : Int) : Bool := (decide (a < 0) && decide (0 ≤ b)) || (decide (0 ≤ a) && decide (b < 0))

/-- MIC_ZERO_CROSSING (R189): two consecutive samples of the voice-domain signal of an input. -/
def execMicZeroCrossing (mic : Fin 4) (before : BitVec 18) (after : BitVec 18) (s : State) : Host.Outcome State Fault Refusal :=
  if s.gated 9 then .next s else
  .next (if s.on (R.MIC_STATUS_GAIN_PEND mic.val) && crosses before.toInt after.toInt then s.micApply mic.val else s)

/-- The high-pass filter of an input on one sample (R189): a second-order section whose coefficients the spec gives by their kind and cut-off
only; HPF 3 acts as 2. -/
def hpfStep (mode : Nat) (z : Int × Int × Int × Int) (x : Int) : Int × (Int × Int × Int × Int) :=
  let h (i : Nat) : Int := (Config.micHpf (min 2 mode) i).toInt
  let y := rheDiv (h 0 * x + h 1 * z.1 + h 2 * z.2.1 - h 3 * z.2.2.1 - h 4 * z.2.2.2) (2 ^ 30)
  (y, (x, z.1, y, z.2.2.1))

/-- The voice-domain samples of an input behind its filter. -/
def State.micFilter (s : State) (n : Nat) (xs : List Int) : State × List Int :=
  let mode := s.rd (R.MIC_CFG_HPF n)
  if mode = 0 then (s.setMic n { s.micSt n with hpf := (0, 0, 0, 0) }, xs)
  else
    let r := xs.foldl (fun (a : List Int × (Int × Int × Int × Int)) x => (a.1 ++ [sat17 (hpfStep mode a.2 x).1], (hpfStep mode a.2 x).2))
      ([], (s.micSt n).hpf)
    (s.setMic n { s.micSt n with hpf := r.2 }, r.1)

/-- ZC_TO of a microphone in ms: 0 acts as 1, above 64 as 64. -/
def State.zcTo (s : State) (n : Nat) : Nat := min 64 (max 1 (s.rd (R.MIC_DET_CFG_ZC_TO n)))

/-- ZC_TIMEOUT (R189). -/
def execZcTimeout (mic : Fin 4) (t : Nat) (s : State) : Host.Outcome State Fault Refusal :=
  if s.gated 9 then .next (s.atRaw t) else
  let s := s.atRaw t
  let n := mic.val
  .next (if s.on (R.MIC_STATUS_GAIN_PEND n) && (s.micSt n).gainAt + ms (s.zcTo n) ≤ s.tm.raw
    then (s.micApply n).bump (R.MIC_CNT_ZC_TO_VALUE n) else s)

/-- The band of a detection code (R190). -/
def bandOf (c : Nat) : Nat :=
  if 3900 ≤ c then 5 else if 3000 ≤ c then 4 else if 1400 ≤ c then 3 else if 700 ≤ c then 2 else if 250 ≤ c then 1 else 0

/-- The idle and pressed bands of a class. -/
def idleBand (cls : Nat) : Nat := if cls = 1 then 4 else 2
def pressBand (cls : Nat) : Nat := if cls = 1 then 3 else 1

/-- MIC_DETECTION_SAMPLE (R190). -/
def execMicDetectionSample (mic : Fin 4) (c0 : BitVec 12) (c1 : BitVec 12) (c2 : BitVec 12) (c3 : BitVec 12) (t : Nat)
    (s : State) : Host.Outcome State Fault Refusal :=
  if s.gated 9 then .next (s.atRaw t) else
  let s := s.atRaw t
  let n := mic.val
  if !s.detects n then .next s
  else
    let code := rheDivNat (c0.toNat + c1.toNat + c2.toNat + c3.toNat) 4
    let b := bandOf code
    let x := s.micSt n
    let bandAt := match x.bandAt with
      | some r => if s.rd (R.MIC_STATUS_BAND n) = b then some r else some s.tm.raw
      | none => some s.tm.raw
    let cls := s.rd (R.MIC_STATUS_CLASS n)
    let outAt := if cls ≠ 0 && b = pressBand cls then none else some (x.outAt.getD s.tm.raw)
    .next (((s.wr (R.MIC_STATUS_BAND n) b).wr (R.MIC_DET_VALUE n) code).setMic n { x with bandAt := bandAt, outAt := outAt })

/-- Has the present band held for a time in ms? -/
def State.bandHeld (s : State) (n hold : Nat) : Bool :=
  match (s.micSt n).bandAt with
  | some r => r + ms hold ≤ s.tm.raw
  | none => false

/-- IDLE_BAND_HOLD (R191): with CLASS 0 the idle band sets its class; otherwise it clears a fault. -/
def execIdleBandHold (mic : Fin 4) (t : Nat) (s : State) : Host.Outcome State Fault Refusal :=
  if s.gated 9 then .next (s.atRaw t) else
  let s := s.atRaw t
  let n := mic.val
  let b := s.rd (R.MIC_STATUS_BAND n)
  let cls := s.rd (R.MIC_STATUS_CLASS n)
  .next (if !s.detects n || !s.bandHeld n 200 then s
    else if cls = 0 then
      (if b = 4 || b = 2 then
        ((s.wr (R.MIC_STATUS_CLASS n) (if b = 4 then 1 else 2)).flag (R.MIC_STATUS_EVT n)).micEvent n 2
       else s)
    else if b = idleBand cls then s.micClear n else s)

/-- The fault a band means for a class: 1 open, 2 short, 3 foreign band, 0 none. -/
def bandCause (cls b : Nat) : Nat :=
  if b = 5 then 1 else if b = 0 then 2 else if b = idleBand cls || b = pressBand cls then 0 else 3

/-- FAULT_BAND_HOLD (R191, R192). -/
def execFaultBandHold (mic : Fin 4) (t : Nat) (s : State) : Host.Outcome State Fault Refusal :=
  if s.gated 9 then .next (s.atRaw t) else
  let s := s.atRaw t
  let n := mic.val
  let b := s.rd (R.MIC_STATUS_BAND n)
  let cls := s.rd (R.MIC_STATUS_CLASS n)
  let cause := bandCause cls b
  .next (if !s.detects n || !s.bandHeld n 100 || cls = 0 || cause = 0 then s
    else if b = 5 && s.on (R.MIC_CFG_PLUGGABLE n) then s.micUnplug n
    else if s.on (R.MIC_STATUS_FAULT n) && s.rd (R.MIC_STATUS_CAUSE n) = cause then s
    else
      ((((((s.wr (R.MIC_STATUS_FAULT n) 1).wr (R.MIC_STATUS_CAUSE n) cause).flag (R.MIC_STATUS_FAULT_EVT n)).bump
        (R.MIC_CNT_FAULT_VALUE n)).dropPtt n).micEvent n 4))

/-- PRESS_DEBOUNCE (R192). -/
def execPressDebounce (mic : Fin 4) (t : Nat) (s : State) : Host.Outcome State Fault Refusal :=
  if s.gated 9 then .next (s.atRaw t) else
  let s := s.atRaw t
  let n := mic.val
  let cls := s.rd (R.MIC_STATUS_CLASS n)
  .next (if s.detects n && cls ≠ 0 && s.rd (R.MIC_STATUS_BAND n) = pressBand cls && !s.on (R.MIC_STATUS_PTT n) &&
      s.bandHeld n (max 1 (s.rd (R.MIC_DET_CFG_PTT_DB n)))
    then (s.setPtt n true).bump (R.MIC_CNT_PTT_VALUE n) else s)

/-- RELEASE_DEBOUNCE (R192). -/
def execReleaseDebounce (mic : Fin 4) (t : Nat) (s : State) : Host.Outcome State Fault Refusal :=
  if s.gated 9 then .next (s.atRaw t) else
  let s := s.atRaw t
  let n := mic.val
  let held : Bool := match (s.micSt n).outAt with
    | some r => r + ms (max 1 (s.rd (R.MIC_DET_CFG_REL_DB n))) ≤ s.tm.raw
    | none => false
  .next (if s.on (R.MIC_STATUS_PTT n) && held then s.setPtt n false else s)

/-- A configuration loaded whole (R388): masters lock at once, and a gain that differs from the one in force waits for its crossing (R189). -/
def State.portsLoaded (s : State) : State :=
  let s := (List.range 16).foldl (fun s p =>
    let lead := s.on (R.TDM_CFG_EN p) && s.on (R.TDM_CFG_MASTER p)
    if lead then (s.wr (R.TDM_STATUS_LOCKED p) 1).wr (R.TDM_STATUS_ALIGNED p) (b2n (!s.on (R.TDM_CFG_ASYNC p))) else s) s
  (List.range 4).foldl (fun s n => (s.micConfig n (s.rd (R.MIC_CFG_w n))).micGain n (s.rd (R.MIC_CFG_GAIN n))) s

/-! ### Tiles of the producers (R54) -/

/-- The block a 16-bit sequence number names, nearest the landing window's. -/
def State.seqBlock (s : State) (seq : Nat) : Nat :=
  ((s.hst.win : Int) + signedOf 16 ((seq + 65536 - s.hst.win % 65536) % 65536)).toNat

/-- TILE_PRESENT (R54). An ASRC channel presents what it converts (R185), a microphone what its filter and bridge make of the voice-domain
samples at the head of `payload` (R168, R189), with the bridges enabled (R169); any other producer presents `payload`. -/
def execTilePresent (source : BitVec 16) (seq : BitVec 16) (payload : BitVec 576) (nonAudio : Bool) (t : Nat) (s : State) :
    Host.Outcome State Fault Refusal :=
  let s := s.atRaw t
  let src := source.toNat
  let k := s.seqBlock seq.toNat
  if 0x6000 ≤ src && src < 0x6020 then
    let c := src - 0x6000
    if s.gated 8 || !s.ascDelivers c k || (s.on (R.ASC_CFG_OUT_VOICE c) && !s.on R.MIX_CTRL_ENABLE) then .next s
    else
      let r := s.ascTile c k
      .next (r.1.present src seq.toNat r.2.1 (nonAudio || r.2.2) false)
  else if 0x8000 ≤ src && src < 0x8004 then
    let n := src - 0x8000
    if s.gated 9 || !s.on (R.MIC_CFG_EN n) || !s.on R.MIX_CTRL_ENABLE then .next s
    else
      let f := s.micFilter n ((samplesOf payload).take (s.voxCount k))
      let v := f.1.voiceTile (32 + n) k f.2
      .next (v.1.present src seq.toNat v.2 nonAudio false)
  else .next (s.present src seq.toNat (samplesOf payload) nonAudio false)

end Sys2Proof.Machine
end

