-- ==== Sys2Proof/Machine/Messages.lean ====
section
/-! DEFINITION. The message library and its player (R307, R167, R168, R389, R390). -/

namespace Sys2Proof.Machine

open Sys2Proof

def State.msg (s : State) (m : Nat) : Option Msg := s.msgs.get none m

/-- A message changes in the library: what the pre-lock buffer and the DRAM cache hold of it is no longer read; the cache takes a message that is complete again (R389;
DEDUCED, log entry 127). -/
def State.setMsg (s : State) (m : Nat) (x : Option Msg) : State :=
  let gone := s.lib.cached.filter (· ≠ m)
  { s with msgs := s.msgs.set none m x,
           lib := { s.lib with opening := s.lib.opening.filter (fun p => p.1 ≠ m),
                               cached := if x.any (fun y => y.state = .valid) then gone ++ [m] else gone } }

/-- Is a message complete and valid? -/
def State.msgValid (s : State) (m : Nat) : Bool :=
  match s.msg m with
  | some x => x.state = .valid
  | none => false

/-- Is it a valid message stored with EVAC? -/
def State.msgEvac (s : State) (m : Nat) : Bool :=
  match s.msg m with
  | some x => x.state = .valid && x.evac
  | none => false

/-- Samples of a message: one per 3 bytes. -/
def Msg.len (x : Msg) : Nat := x.data.length / 3

/-- Sample `i` of a message, sign-extended from bit 17 (R296). -/
def Msg.sample (x : Msg) (i : Nat) : Int := signedOf 18 (ofLeBytes ((x.data.drop (3 * i)).take 3))

/-- Bytes of the library that are not taken by messages other than `m` (R382: 64 MB). -/
def State.libFree (s : State) (m : Nat) : Nat :=
  67108864 - ((s.msgs.filter (fun p => p.1 ≠ m)).map (fun p => match p.2 with | some x => x.total | none => 0)).sum

/-- Length of the message of a play, in voice samples. -/
def State.playLen (s : State) (p : Play) : Nat := match s.msg p.msg with | some x => x.len | none => 0

/-- The first render sample past a play (R307); `none` without end. -/
def State.playEnd (s : State) (p : Play) : Option Nat :=
  let per := s.playLen p + p.gap
  if p.loop && per ≠ 0 then p.stop
  else
    let n := p.start + s.voiceUp * (p.repeats * per - p.gap)
    some (match p.stop with | some e => min e n | none => n)

/-- Is a play not over at a render sample? -/
def State.playLasts (s : State) (p : Play) (i : Nat) : Bool :=
  match s.playEnd p with
  | some e => decide (i < e)
  | none => true

/-- Does a message play (R307): accepted, timed or not, and not over? -/
def State.msgPlays (s : State) (m : Nat) : Bool := s.plays.any (fun p => p.msg = m && s.playLasts p s.sampleNow)

/-! ### The pre-lock buffer and the DRAM cache (R389) -/

/-- Where the pre-lock buffer begins: the firmware region of the history store (R53). -/
def openingBase : Nat := 0x20550000

/-- Voice samples the pre-lock buffer holds: 12 s at 16 kHz. -/
def openingLen : Nat := 192000

/-- Valid messages of the library with EVAC set as given, in ascending number. -/
def State.msgsWith (s : State) (evac : Bool) : List Nat := s.msgs.keys.filter (fun m => s.msgValid m && decide (s.msgEvac m = evac))

/-- The opening of one message goes into the buffer, 3 bytes a sample as in the library, as far as there is room (DEDUCED, log entry 127). -/
def State.fillOpening (s : State) (m : Nat) : State :=
  let used := (s.lib.opening.map (fun p => p.2.2)).sum
  match s.msg m with
  | none => s
  | some x =>
    let n := min x.len (openingLen - used)
    if n = 0 then s
    else { s.setBytes (openingBase + 3 * used) (x.data.take (3 * n)) with lib := { s.lib with opening := s.lib.opening ++ [(m, used, n)] } }

/-- The firmware fills the pre-lock buffer with the openings of the EVAC messages in ascending number, then the DRAM cache, EVAC messages first (R389). The cache is
loaded in one step (DESIGN CHOICE, log entry 129). -/
def State.loadLibrary (s : State) : State :=
  let s := { s with lib := { s.lib with opening := [] } }
  let s := (s.msgsWith true).foldl State.fillOpening s
  { s with lib := { s.lib with cached := s.msgsWith true ++ s.msgsWith false } }

/-- Sample `i` of a message as the player reads it: from the buffer where that holds it, else from the cache, which without DRAM in reach reads zero (R389, R330). -/
def State.librarySample (s : State) (m : Nat) (x : Msg) (i : Nat) : Int :=
  match s.lib.opening.find? (fun p => p.1 = m && i < p.2.2) with
  | some p => signedOf 18 (s.load (openingBase + 3 * (p.2.1 + i)) 3)
  | none => if s.cellarDown || !s.lib.cached.contains m then 0 else x.sample i

/-- Voice sample `v` of a play: message, gap, message … (R307). -/
def State.playVoice (s : State) (p : Play) (v : Int) : Int :=
  match s.msg p.msg with
  | none => 0
  | some x =>
    let per := x.len + p.gap
    if v < 0 || per = 0 then 0
    else
      let n := v.toNat
      if !p.loop && p.repeats * per - p.gap ≤ n then 0
      else if n % per < x.len then s.librarySample p.msg x (n % per) else 0

/-- The sum for render sample `r` of a play, taken two render samples ahead (R167). -/
def State.playSum (s : State) (p : Play) (r : Nat) : Int := s.voiceSum (s.playVoice p) (r - p.start + 2)

/-- Does a play give sample `r`? -/
def State.playGives (s : State) (p : Play) (r : Nat) : Bool := p.start ≤ r && s.playLasts p r

/-- The sample of a message at render sample `r`, and whether the bridge saturated. -/
def State.msgSample (s : State) (ps : List Play) (r : Nat) : Int × Bool :=
  match ps.find? (fun p => s.playGives p r) with
  | some p =>
    let y := rheDiv (s.playSum p r) 32768
    (sat17 y, sat17Hit y)
  | none => (0, false)

/-- The tile of one message for block `k`, when a play gives any of its samples and the bridges are enabled (R169). -/
def State.presentMsg (s : State) (k m : Nat) : State :=
  let ps := s.plays.filter (fun p => p.msg = m && p.start < 32 * k + 32 && s.playLasts p (32 * k))
  if ps = [] || !s.on R.MIX_CTRL_ENABLE then s
  else
    let ys := (List.range 32).map (fun j => s.msgSample ps (32 * k + j))
    (s.count R.MIX_CNT_BRG_SAT_VALUE (ys.countP Prod.snd)).present (srcMsg m) (k % 65536) (ys.map Prod.fst) false false

/-- The player presents the tiles of block `k`; plays that are over are dropped (R307). -/
def State.presentMsgs (s : State) (k : Nat) : State :=
  let s := (dedup (s.plays.map Play.msg)).foldl (fun s m => s.presentMsg k m) s
  { s with plays := s.plays.filter (fun p => s.playLasts p (32 * k + 32)) }

/-- Plays of a message that have begun end at a render sample, and later ones go. -/
def State.cutPlays (s : State) (m r : Nat) : List Play :=
  (s.plays.filter (fun p => p.msg ≠ m || p.start < r)).map (fun p =>
    if p.msg = m then { p with stop := some (match p.stop with | some e => min e r | none => r) } else p)

/-- MSG_PLAY takes effect: a play starts at a render sample; one that plays restarts there (R307). -/
def State.startPlay (s : State) (m start : Nat) (loop : Bool) (repeats gapMs : Nat) : State :=
  { s with plays := s.cutPlays m start ++ [⟨m, start, none, loop, max 1 repeats, 16 * gapMs⟩] }

/-- Where a play that is in progress at render sample `r` ends under MSG_STOP: at once, or with AT_END after the play in
progress; in a gap at once (R307). -/
def State.stopAt (s : State) (p : Play) (r : Nat) (atEnd : Bool) : Nat :=
  let len := s.playLen p
  let per := s.voiceUp * (len + p.gap)
  if !atEnd || per = 0 then r
  else max r (p.start + (r - p.start) / per * per + s.voiceUp * len)

/-- MSG_STOP applies at the boundary of block `k`: plays that began before it end; a play that starts later stands (R307). -/
def State.stopMsg (s : State) (k m : Nat) (atEnd : Bool) : State :=
  { s with plays := s.plays.map (fun p =>
      if p.msg = m && p.start < 32 * k && s.playLasts p (32 * k) then
        let e := s.stopAt p (32 * k) atEnd
        { p with stop := some (match p.stop with | some e' => min e' e | none => e) }
      else p) }

/-- S4: plays of messages stored without EVAC stop at a boundary, those to come included (R307, R374). -/
def State.shedMsgs (s : State) (k : Nat) : State :=
  ((dedup (s.plays.map Play.msg)).filter (fun m => !s.msgEvac m)).foldl (fun s m => { s with plays := s.cutPlays m (32 * k) }) s

/-- EVACUATION_TRIGGER (R390): a trigger of the configuration, armed and held 20 ms, starts its EVAC message in a loop at the first
boundary at or after that instant. -/
def execEvacuationTrigger (n : Fin 4) (t : Nat) (s : State) : Host.Outcome State Fault Refusal :=
  if s.gated 21 then .next (s.atRaw t) else
  let s := s.atRaw t
  match s.triggers[n.val]? with
  | none => .next s
  | some g =>
    if !s.fwRuns || !s.armed || !s.msgEvac g.msg then .next s
    else .next (s.startPlay g.msg (32 * s.nextBlock) true 1 0)

end Sys2Proof.Machine
end

