-- ==== Sys2Proof/Machine/Ostler.lean ====
section
/-! DEFINITION. The Ostler (07_ostler.md R133–R149): ready queues, flows, places, ticks, posts and the reserved-capacity
check. What concerns a core that waits is in DroverCore.lean. -/

namespace Sys2Proof.Machine

open Sys2Proof

/-! ### Descriptors (R133) -/

/-- The descriptor four words spell; SEQ is the Ostler's to give. -/
def descOf (w0 w1 w2 w3 : Nat) : Desc :=
  { flow := bitsOf w0 31 20, queue := bitsOf w0 19 14, block := bitsOf w1 31 16, seq := bitsOf w1 15 0,
    index := bitsOf w2 31 20, entry := bitsOf w2 11 0, arg := w3 % 2 ^ 32 }

/-- The four words of a descriptor. -/
def Desc.words (d : Desc) : List Nat :=
  [d.flow * 2 ^ 20 + d.queue * 2 ^ 14, d.block * 2 ^ 16 + d.seq, d.index * 2 ^ 20 + d.entry, d.arg]

/-! ### Queues and flows -/

def flowReset : Flow := { nextSeq := 0, ordered := false, blocked := false, places := [] }

def State.flow (s : State) (f : Nat) : Flow := s.ost.flows.get flowReset f

def State.setFlow (s : State) (f : Nat) (x : Flow) : State :=
  { s with ost := { s.ost with flows := s.ost.flows.set flowReset f x } }

def State.queue (s : State) (q : Nat) : List Desc := s.ost.queues.get [] q

/-- Writes a queue; OST_QLEVEL follows (R149). -/
def State.setQueue (s : State) (q : Nat) (ds : List Desc) : State :=
  let s := { s with ost := { s.ost with queues := s.ost.queues.set [] q ds } }
  let s := s.wr (R.OST_QLEVEL_LEVEL q) ds.length
  s.wr (R.OST_QLEVEL_HIGH q) (max ds.length (s.rd (R.OST_QLEVEL_HIGH q)))

/-- DEPTH of a queue; values above 16,384 act as 16,384. -/
def State.depth (s : State) (q : Nat) : Nat := min 16384 (s.rd (R.OST_QCFG_DEPTH q))

/-- Is there room in a queue? A disabled queue accepts and discards (R134). -/
def State.roomIn (s : State) (q : Nat) : Bool := !s.on (R.OST_QCFG_EN q) || (s.queue q).length < s.depth q

/-- A descriptor enters its queue and receives the next SEQ of its flow, which is a place of it (R138); one for a disabled
queue is counted and discarded (R134). The caller has looked for room. -/
def State.enter (s : State) (d : Desc) : State :=
  if !s.on (R.OST_QCFG_EN d.queue) then s.bump R.OST_CNT_BADQ_VALUE
  else
    let f := s.flow d.flow
    let d := { d with seq := f.nextSeq }
    let f := { f with nextSeq := (f.nextSeq + 1) % 65536,
                      places := if f.ordered then f.places ++ [⟨d.seq, false, false, []⟩] else f.places }
    (s.setFlow d.flow f).setQueue d.queue (s.queue d.queue ++ [d])

/-- A descriptor that keeps the SEQ of the place handed to it enters its queue (R142). -/
def State.enterHanded (s : State) (d : Desc) (seq : Nat) : State :=
  if !s.on (R.OST_QCFG_EN d.queue) then s.bump R.OST_CNT_BADQ_VALUE
  else s.setQueue d.queue (s.queue d.queue ++ [{ d with seq := seq }])

/-! ### Places (R139–R143) -/

/-- Places in the window: dispatched and not retired. -/
def Flow.inflight (f : Flow) : Nat := (f.places.filter (fun p => p.dispatched)).length

def Flow.place (f : Flow) (seq : Nat) : Option Place := f.places.find? (fun p => p.seq = seq)

def Flow.mapPlace (f : Flow) (seq : Nat) (g : Place → Place) : Flow :=
  { f with places := f.places.map (fun p => if p.seq = seq then g p else p) }

/-- Is a place the oldest in the window? -/
def Flow.oldest (f : Flow) (seq : Nat) : Bool :=
  match f.places.find? (fun p => p.dispatched) with
  | some p => p.seq = seq
  | none => false

/-- Retires places from the oldest on (R141): held descriptors enter their queues in the order given; a full target queue
holds the release back. `fuel` bounds the places and held descriptors. -/
def State.retire (s : State) (f : Nat) : Nat → State
  | 0 => s
  | fuel + 1 =>
    let x := s.flow f
    match x.places with
    | [] => s
    | p :: ps =>
      if !p.done then s
      else match p.held with
        | [] => State.retire (s.setFlow f { x with places := ps }) f fuel
        | d :: ds =>
          if s.roomIn d.queue then
            State.retire ((s.setFlow f { x with places := { p with held := ds } :: ps }).enter d) f fuel
          else s

/-- Retires as far as it goes. -/
def State.retireFlow (s : State) (f : Nat) : State :=
  s.retire f (6 * (s.flow f).places.length + 1)

/-- A place is marked abandoned (R143, R145): its held descriptors are discarded, and it retires with nothing to release. -/
def State.markAbandoned (s : State) (f seq : Nat) : State :=
  let s := (s.bump R.OST_CNT_ABANDON_VALUE).flag R.OST_STATUS_ABANDON
  s.setFlow f ((s.flow f).mapPlace seq (fun p => { p with done := true, held := [] }))

/-- A place is abandoned and retires when it may. -/
def State.abandon (s : State) (f seq : Nat) : State := (s.markAbandoned f seq).retireFlow f

/-- Every release that may go on does, in flow number order (R137). -/
def State.retireAll (s : State) : State := s.ost.flows.keys.foldl State.retireFlow s

/-- A task ends with DONE without having handed its place on: the place is done and retires when it may (R141). -/
def State.placeDone (s : State) (f seq : Nat) : State :=
  (s.setFlow f ((s.flow f).mapPlace seq (fun p => { p with done := true }))).retireFlow f

/-! ### Ticks (R144, R145) -/

/-- The enabled entries of a tick point, ascending. -/
def State.tickEntries (s : State) (point : Nat) : List Nat :=
  (List.range 32).filter (fun e => s.on (R.OST_TICK_W0_EN e) && s.rd (R.OST_TICK_W0_POINT e) = point)

/-- BLOCK of the descriptors of an entry. -/
def State.tickBlock (s : State) (e : Nat) : Nat :=
  (s.tm.blockCount + 65536 - s.rd (R.OST_TICK_W0_LAG e)) % 65536

/-- The descriptors of an entry in INDEX order. -/
def State.tickDescs (s : State) (e : Nat) : List Desc :=
  (List.range (s.rd (R.OST_TICK_W0_COUNT_M1 e) + 1)).map (fun i =>
    { flow := s.rd (R.OST_TICK_W1_FLOW e), queue := s.rd (R.OST_TICK_W1_QUEUE e), block := s.tickBlock e, seq := 0,
      index := i, entry := s.rd (R.OST_TICK_W0_ENTRY e), arg := s.rd (R.OST_TICK_W2_ARG e) })

/-- A tick descriptor is posted; one that meets a full queue is discarded and counted (R145). -/
def State.tickPost (s : State) (d : Desc) : State :=
  if s.roomIn d.queue then s.enter d
  else (s.bump R.OST_CNT_TICK_DROP_VALUE).flag R.OST_STATUS_TICK_DROP

/-- Is a queued descriptor stale at a tick point: not later than the BLOCK of an entry this point posts into its queue? -/
def State.stale (s : State) (es : List Nat) (d : Desc) : Bool :=
  es.any (fun e => s.rd (R.OST_TICK_W1_QUEUE e) = d.queue && !laterThan 16 d.block (s.tickBlock e))

/-- Expiry of one queue (R145). -/
def State.expireQueue (s : State) (es : List Nat) (q : Nat) : State :=
  if !s.on (R.OST_QCFG_EXPIRE q) then s
  else
    let gone := (s.queue q).filter (s.stale es)
    if gone = [] then s
    else
      let s := s.setQueue q ((s.queue q).filter (fun d => !s.stale es d))
      gone.foldl (fun s d => ((s.bump R.OST_CNT_EXPIRE_VALUE).flag R.OST_STATUS_EXPIRE).markAbandoned d.flow d.seq) s

/-- A tick point (R144, R145): expiry, then every enabled entry of the point in ascending order, then what the windows release (R137). -/
def State.tickPoint (s : State) (point : Nat) : State :=
  if !s.on R.OST_CTRL_ENABLE || s.gated 2 then s
  else
    let es := (s.tickEntries point).filter (fun e => s.hst.landFrom + s.rd (R.OST_TICK_W0_LAG e) ≤ s.tm.blockCount || s.hst.landFrom = 0)
    let s := s.ost.queues.keys.foldl (fun s q => s.expireQueue es q) s
    (es.foldl (fun s e => (s.tickDescs e).foldl (fun s d => s.tickPost d) s) s).retireAll

/-! ### The reserved-capacity check (R147) -/

/-- The stage a tick entry starts (R144): LAG 0 at point 0 starts stage A; at point 1, LAG 1 stage B and LAG 2 stage C. -/
def State.entryStage (s : State) (e : Nat) : Option Nat :=
  match s.rd (R.OST_TICK_W0_POINT e), s.rd (R.OST_TICK_W0_LAG e) with
  | 0, 0 => some 0
  | 1, 1 => some 1
  | 1, 2 => some 2
  | _, _ => none

/-- Tasks that serve one block (R147): flow, queue, stage, cost with its 8 cycles of dispatch, number. -/
structure Load where
  flow  : Nat
  queue : Nat
  stage : Option Nat
  cost  : Nat
  num   : Nat
  deriving DecidableEq, Repr

/-- The worst-case cost that the running image declares for a task function, dispatch included. -/
def State.costOf (s : State) (s3 : Bool) (entry : Nat) : Nat := (s.image.map (fun i => Config.taskCost i s3 entry)).getD 0 + 8

/-- The tasks that the tick entries start, and those that tick-driven flows give. -/
def State.loads (s : State) (s3 : Bool) : List Load :=
  (s.tickEntries 0 ++ s.tickEntries 1).map (fun e =>
    ⟨s.rd (R.OST_TICK_W1_FLOW e), s.rd (R.OST_TICK_W1_QUEUE e), s.entryStage e, s.costOf s3 (s.rd (R.OST_TICK_W0_ENTRY e)), s.rd (R.OST_TICK_W0_COUNT_M1 e) + 1⟩) ++
    ((s.image.map (fun i => Config.givenTasks i s3)).getD []).map (fun g => ⟨g.1, g.2.1, some g.2.2.1, s.costOf s3 g.2.2.2.1, g.2.2.2.2⟩)

/-- At most `n` tasks, in the order given: the tap lists of 256 objects make 256 tasks of 64 entries (R147). -/
def capLoads (n : Nat) : List Load → List Load
  | [] => []
  | x :: xs => { x with num := min n x.num } :: capLoads (n - x.num) xs

/-- The loads of one stage; at S3 stage B renders 256 objects. -/
def stageLoads (s3 : Bool) (stage : Nat) (ls : List Load) : List Load :=
  let xs := ls.filter (fun x => x.stage = some stage)
  if s3 && stage = 1 then capLoads 256 xs else xs

/-- The cycles of a stage. -/
def State.stageCost (s : State) (s3 : Bool) (stage : Nat) (ls : List Load) : Nat :=
  ((stageLoads s3 stage ls).map (fun x => x.num * x.cost)).sum +
    (if stage = 2 then (s.image.map (fun i => Config.convolutionShare i s3)).getD 0 else 0)

/-- Condition 3 of R147 for a flow: its tasks of one block and the largest of their costs. -/
def flowFits (t tc : Nat) (ls : List Load) (f : Nat) : Bool :=
  let xs := ls.filter (fun x => x.flow = f)
  let n := (xs.map (fun x => x.num)).sum
  let l := (xs.map (fun x => x.cost)).foldl max 0
  decide (100 * (ceilDiv n 32 * l) ≤ 85 * (if xs.any (fun x => x.stage = some 2) then tc else t))

/-- One of the two checks of R147, with `n` cores (DESIGN CHOICE, log entry 81). -/
def State.capacityAt (s : State) (s3 : Bool) (n : Nat) : Bool :=
  let ls := s.loads s3
  let nr := n - 1
  let t := if s.straps.rate96 then 200000 else 400000
  let tc := if s.straps.rate96 then 143750 else 287500
  let lmax := (ls.map (fun x => x.cost)).foldl max (s.rd R.OST_IDLE_CTRL_SLICE)
  let wc := s.stageCost s3 2 ls
  decide (100 * (wc + nr * lmax) ≤ 85 * nr * tc) && decide (100 * (s.stageCost s3 0 ls + s.stageCost s3 1 ls + wc + nr * lmax) ≤ 85 * nr * t) &&
    (s.ost.flows.filter (fun p => p.2.ordered)).all (fun p => flowFits t tc ls p.1) &&
    (List.range 64).all (fun q => decide (((ls.filter (fun x => x.queue = q)).map (fun x => x.num)).sum ≤ s.depth q))

/-- The checks of a configuration commit on the Ostler (R135, R147): the depths of the 64 queues within the pool of 16,384 entries, and capacity with 32 cores and,
as at S3, with 16 (DESIGN CHOICE, log entry 81). -/
def State.capacityOk (s : State) : Bool :=
  decide (((List.range 64).map s.depth).sum ≤ 16384) && s.capacityAt false 32 && s.capacityAt true 16

/-! ### Commands -/

/-- WINDOW_RELEASE (R141): a release of the flow that waited for room goes on; those of lower-numbered flows that wait too go before it (R137). -/
def execWindowRelease (flow : Fin 4096) (s : State) : Host.Outcome State Fault Refusal :=
  if s.gated 2 then .next s else
  .next ((s.ost.flows.keys.filter (fun f => f ≤ flow.val)).foldl State.retireFlow s)

end Sys2Proof.Machine
end

