-- ==== Sys2Proof/Machine/DroverCore.lean ====
section
/-! DEFINITION. The Drover cores as machines (05_drover_cores.md): registers, results in flight, sequencing, traps, debug,
taking work. What each instruction computes is in DroverOps.lean and Drover.lean. -/

namespace Sys2Proof.Machine

open Sys2Proof

/-! ### Registers (R92, R106, R119) -/

def agReset : AddrGen := { base := 0, ptr := 0, inc := 0, len := 0, mode := 0 }
def sclReset : Scale := { e := 0, s := 0, m := 0, raised := false, eovf := false }
def lvlReset : LoopLvl := { start := 0, stop := 0, count := 0, rot := false }

/-- A core after reset (R119). -/
def coreReset : CoreSt :=
  { v := [], k := [], x := [], acc := [], accNow := [], ags := [], scls := [], lview := [], lvl0 := lvlReset,
    lvl1 := lvlReset, rrb := 0, sr := 0, pc := 0, ipc := 0, isr := 0, cycle := 0, flight := [], delay := none,
    trap := none, dbgPend := false, reads := [], stalled := none, waiting := none, task := none, lastFlow := none,
    tap := none, stepReq := false, stepping := false, heldState := 0 }

def State.core (s : State) (c : Nat) : CoreSt := s.cores.get coreReset c

def State.setCore (s : State) (c : Nat) (x : CoreSt) : State := { s with cores := s.cores.set coreReset c x }

/-- The physical register of Vk (R106). -/
def CoreSt.phys (c : CoreSt) (k : Nat) : Nat := (k + c.rrb) % 64

/-- Lane `i` of Vk. -/
def CoreSt.vLane (c : CoreSt) (k i : Nat) : Int := c.v.get 0 (c.phys k * 8 + i)
def CoreSt.kLane (c : CoreSt) (k i : Nat) : Int := c.k.get 0 (k % 16 * 8 + i)
def CoreSt.xr (c : CoreSt) (n : Nat) : Nat := c.x.get 0 n
def CoreSt.setX (c : CoreSt) (n w : Nat) : CoreSt := { c with x := c.x.set 0 n (w % 2 ^ 32) }
def CoreSt.accv (c : CoreSt) (n : Nat) : Int := c.acc.get 0 n
def CoreSt.accChain (c : CoreSt) (n : Nat) : Int := c.accNow.get 0 n
def CoreSt.ag (c : CoreSt) (n : Nat) : AddrGen := c.ags.get agReset n
def CoreSt.scl (c : CoreSt) (n : Nat) : Scale := c.scls.get sclReset n

/-- Bits of SR (R92). -/
def CoreSt.srBit (c : CoreSt) (i : Nat) : Bool := bitOf c.sr i

/-- The SR bits that exist. -/
def srMask : Nat := 0xC30F

/-- A loop register as MFS reads it: LS0, LE0, LC0, LS1, LE1, LC1, RRB. -/
def CoreSt.loopReg (c : CoreSt) (i : Nat) : Nat := c.lview.get 0 i

/-- A loop register as the sequencer uses it. -/
def CoreSt.setLoop (c : CoreSt) (i w : Nat) : CoreSt :=
  match i with
  | 0 => { c with lvl0 := { c.lvl0 with start := w % 4096 } }
  | 1 => { c with lvl0 := { c.lvl0 with stop := w % 4096 } }
  | 2 => { c with lvl0 := { c.lvl0 with count := w % 65536 } }
  | 3 => { c with lvl1 := { c.lvl1 with start := w % 4096 } }
  | 4 => { c with lvl1 := { c.lvl1 with stop := w % 4096 } }
  | 5 => { c with lvl1 := { c.lvl1 with count := w % 65536 } }
  | _ => { c with rrb := w % 64 }

/-- The width of a loop register. -/
def loopMask (i : Nat) : Nat := if i = 6 then 64 else if i = 2 ∨ i = 5 then 65536 else 4096

/-- A scaling move lands (R104): its results follow from the fields that stand in that cycle (`old`), and each is written to its own field (DESIGN CHOICE, log entry 103). -/
def Scale.moved (old x : Scale) (s m : Nat) : Scale :=
  let x := { x with m := max old.m m }
  if old.s < s then
    let e := old.e + (s - old.s)
    { x with e := min 31 e, s := s, raised := true, eovf := x.eovf || 31 < e }
  else x

/-- A scale register as its word (R104, selector table of R120). -/
def Scale.word (x : Scale) : Nat := x.e + x.s * 2 ^ 5 + x.m * 2 ^ 9 + b2n x.raised * 2 ^ 27 + b2n x.eovf * 2 ^ 28

/-- The scale register a word spells; M holds at most 131,072. -/
def scaleOf (w : Nat) : Scale :=
  { e := bitsOf w 4 0, s := bitsOf w 8 5, m := bitsOf w 26 9, raised := bitOf w 27, eovf := bitOf w 28 }

/-! ### Results in flight (R93, R94) -/

/-- A result lands in a cycle that begins with the scale registers `old`. -/
def CoreSt.applyOn (old : Cells Scale) (c : CoreSt) : Wr → CoreSt
  | .v r x => { c with v := c.v.set 0 r x }
  | .k r x => { c with k := c.k.set 0 r x }
  | .x r w => c.setX r w
  | .acc r a => { c with acc := c.acc.set 0 r a }
  | .agBase n w => { c with ags := c.ags.modify agReset n (fun g => { g with base := w % 131072 }) }
  | .agPtr n p => { c with ags := c.ags.modify agReset n (fun g => { g with ptr := p }) }
  | .agInc n p => { c with ags := c.ags.modify agReset n (fun g => { g with inc := p }) }
  | .agLen n w => { c with ags := c.ags.modify agReset n (fun g => { g with len := w % 131072 }) }
  | .agMode n w => { c with ags := c.ags.modify agReset n (fun g => { g with mode := w % 4 }) }
  | .scl n v => { c with scls := c.scls.set sclReset n v }
  | .sclMove n s m => { c with scls := c.scls.modify sclReset n (fun x => Scale.moved (old.get sclReset n) x s m) }
  | .sclStep n e s => { c with scls := c.scls.modify sclReset n (fun x => { x with e := e, s := s, m := 0 }) }
  | .loopReg i w => { (c.setLoop i w) with lview := c.lview.set 0 i (w % loopMask i) }
  | .loopView i w => { c with lview := c.lview.set 0 i (w % loopMask i) }
  | .flags m v => { c with sr := (c.sr &&& (0xFFFF ^^^ m)) ||| (v &&& m) }
  | .sr w => { c with sr := w &&& srMask }
  | .ipc w => { c with ipc := w % 4096 }
  | .isr w => { c with isr := w &&& srMask }

/-- One result lands alone. -/
def CoreSt.apply (c : CoreSt) (w : Wr) : CoreSt := c.applyOn c.scls w

/-- The results of one cycle land, the later-issued and then slot 1's last (R94). Sticky flags only set; a `flags` landing of ASAT or SSAT has the bit set in both words. -/
def CoreSt.applyAll (c : CoreSt) (ws : List Wr) : CoreSt := ws.foldl (CoreSt.applyOn c.scls) c

/-- One cycle of the core passes: what is due lands, in the order of issue. -/
def CoreSt.nextCycle (c : CoreSt) : CoreSt :=
  let n := c.cycle + 1
  let due := c.flight.filter (fun l => l.due ≤ n)
  { c with cycle := n, flight := c.flight.filter (fun l => n < l.due) }.applyAll (due.map (fun (l : Landing) => l.wr))

/-- Every result in flight lands, the earlier due first (the drain of R114): `n` cycles are enough for latency `n`. -/
def CoreSt.settle (c : CoreSt) : Nat → CoreSt
  | 0 => c
  | n + 1 => if c.flight = [] then c else CoreSt.settle c.nextCycle n

/-- An accumulator word read by a port arrives: both views take it. -/
def CoreSt.arrive (c : CoreSt) (r : PortRead) : CoreSt :=
  r.wrs.foldl (fun c w =>
    match w with
    | .acc n a => { (c.apply w) with accNow := c.accNow.set 0 n a }
    | _ => c.apply w) c

/-- The drain of R114: results land and outstanding port reads arrive. -/
def CoreSt.drain (c : CoreSt) : CoreSt :=
  let c := c.settle 8
  let c := c.reads.foldl CoreSt.arrive c
  { c with reads := [], stalled := none }

/-! ### Stopping and starting -/

/-- STATE of DRV_STATUS. -/
def State.coreState (s : State) (c : Nat) : Nat := s.rd (R.DRV_STATUS_STATE c)

def State.setCoreState (s : State) (c n : Nat) : State := s.wr (R.DRV_STATUS_STATE c) n

/-- The copies of SR in DRV_STATUS and of DRV_CTRL.ROT in DRV_CL_ROT (R120). -/
def State.coreCopies (s : State) (c : Nat) : State :=
  let x := s.core c
  let s := (s.wr (R.DRV_STATUS_ASAT c) (b2n (x.srBit 9))).wr (R.DRV_STATUS_SSAT c) (b2n (x.srBit 8))
  s.wr R.DRV_CL_ROT_ROT (setBits (s.rd R.DRV_CL_ROT_ROT) c c (s.rd (R.DRV_CTRL_ROT c)))

/-- DRV_CTRL.ROT of a core is set or cleared (R118). -/
def State.setRot (s : State) (c : Nat) (on : Bool) : State := (s.wr (R.DRV_CTRL_ROT c) (b2n on)).coreCopies c

/-- Is a core in rotation (R118)? -/
def State.inRot (s : State) (c : Nat) : Bool := s.on (R.DRV_CTRL_ROT c)

/-- Cores that run idle tasks (R148). -/
def State.idleCores (s : State) : Nat :=
  ((List.range 32).filter (fun c => match (s.core c).task with | some t => t.idle | none => false)).length

def State.showIdle (s : State) : State := s.wr R.OST_STATUS_IDLE_CORES s.idleCores

/-- A core's task ends without DONE (R143). A place that was handed on is no longer its own (R142). -/
def State.dropTask (s : State) (c : Nat) : State :=
  let x := s.core c
  match x.task with
  | none => s
  | some t =>
    let s := s.setCore c { x with task := none }
    (if t.handed then s else s.abandon t.flow t.seq).showIdle

/-- The bit of DRV_STATUS a cause sets (R113). -/
def causeFld (c : Nat) : Cause → Fld
  | .access => R.DRV_STATUS_ACCESS c
  | .illegal => R.DRV_STATUS_ILLEGAL c
  | .task => R.DRV_STATUS_TASK c

/-- The fault is taken (R114 steps 2–4), or ends in STATE 4 as a double fault (R116). -/
def State.enterTrap (s : State) (c : Nat) (t : Trap) : State :=
  let x := (s.core c).drain
  let s := ((s.wr (R.DRV_FAULT_PC_PC c) t.pc).flag (causeFld c t.cause)).bump (R.DRV_CNT_FAULT_VALUE c)
  if t.nested then
    let s := s.setCore c { x with trap := none, delay := none }
    ((((s.setCoreState c 4).flag (R.DRV_STATUS_DOUBLE c)).setRot c false).dropTask c).coreCopies c
  else
    (s.setCore c { x with trap := none, ipc := x.pc, isr := x.sr, sr := (x.sr &&& 0x430F) ||| 0x4000, pc := 8 }).coreCopies c

/-- The debug interrupt is taken (R113, R114). -/
def State.enterDebug (s : State) (c : Nat) : State :=
  let x := (s.core c).drain
  (s.setCore c { x with dbgPend := false, ipc := x.pc, isr := x.sr, sr := (x.sr &&& 0x430F) ||| 0x4000, pc := 16 }).coreCopies c

/-- What waits for a bundle boundary is taken: a fault whose further bundles are issued, or a debug interrupt with SR.IE set;
never before a delay bundle. -/
def State.boundary (s : State) (c : Nat) : State :=
  let x := s.core c
  if x.delay.isSome || x.waiting.isSome || x.stalled.isSome then s
  else match x.trap with
    | some t => if t.left = 0 then s.enterTrap c t else s
    | none => if x.dbgPend && x.srBit 15 then s.enterDebug c else s

/-- Is the device in maintenance mode (R395)? -/
def State.inMaint (s : State) : Bool := s.on R.SEC_STATUS_MAINT

/-- The core halts at a bundle boundary and drains (R117); one that waits in TAKE, GIVE or DONE goes on waiting when it resumes. -/
def State.haltNow (s : State) (c : Nat) : State :=
  ((s.setCore c { (s.core c).drain with stepping := false }).setCoreState c 3).coreCopies c

/-- STATE of a core that is neither halted nor gated (R120). -/
def CoreSt.runState (x : CoreSt) : Nat := if x.waiting = some .take || x.waiting = some .give then 2 else 1

/-- A debug halt is asked for by HALT_REQ or a breakpoint (R113, R117). -/
def State.askHalt (s : State) (c : Nat) : State :=
  if s.on (R.DRV_CTRL_DBGINT c) then
    (s.setCore c { s.core c with dbgPend := true }).boundary c
  else if !s.inRot c || s.inMaint then s.haltNow c
  else s.flag (R.DRV_STATUS_HREF c)

/-- A halted core continues (R117). -/
def State.resume (s : State) (c : Nat) : State :=
  if s.coreState c = 3 then s.setCoreState c (s.core c).runState else s

/-- DRV_CTRL.RESET (R120): the core's state is that of R119; RUN and ROT are kept; its task is abandoned (R143). -/
def State.resetCore (s : State) (c : Nat) : State :=
  let s := s.dropTask c
  let st := b2n (s.on (R.DRV_CTRL_RUN c))
  (if s.coreState c = 5 then s.setCore c { coreReset with heldState := st } else (s.setCore c coreReset).setCoreState c st).coreCopies c

/-- DRV_CTRL.RUN (R119): a core in STATE 0 runs from bundle 0; clearing RUN stops its clock. -/
def State.setRun (s : State) (c : Nat) (on : Bool) : State :=
  let s := s.wr (R.DRV_CTRL_RUN c) (b2n on)
  if !on then s
  else if s.coreState c = 0 then s.setCoreState c 1
  else if s.coreState c = 5 && (s.core c).heldState = 0 then s.setCore c { s.core c with heldState := 1 }
  else s

/-! ### The end of a bundle (R95, R107) -/

/-- A loop level whose body ended (R107): the level, whether RRB turns, whether the body runs again. -/
def LoopLvl.turn (l : LoopLvl) : LoopLvl := { l with count := l.count - 1 }

/-- A loop register is written by the sequencer for the next bundle: what earlier bundles had under way to it for that cycle is not kept (R94). -/
def CoreSt.supersede (c : CoreSt) (i : Nat) : CoreSt :=
  { c with flight := c.flight.filter (fun l => !(l.due ≤ c.cycle + 1 && (match l.wr with
      | .loopReg j _ | .loopView j _ => j = i
      | _ => false))) }

/-- The next PC after a bundle that does not name one: the loops (R107), then the next bundle. -/
def CoreSt.advance (c : CoreSt) : CoreSt :=
  let p := c.pc
  let hit0 := 0 < c.lvl0.count && c.lvl0.stop = p
  let hit1 := 0 < c.lvl1.count && c.lvl1.stop = p
  let lvl := if hit0 then c.lvl0 else c.lvl1
  if hit0 || hit1 then
    let rrb := (c.rrb + 63) % 64
    let pc := if 1 < lvl.count then lvl.start else (p + 1) % 4096
    let i := if hit0 then 2 else 5
    let c := if hit0 then { c with lvl0 := c.lvl0.turn } else { c with lvl1 := c.lvl1.turn }
    let c := c.supersede i
    let c := if lvl.rot then c.supersede 6 else c
    let c := if lvl.rot then { c with rrb := rrb, lview := c.lview.set 0 6 rrb } else c
    { c with pc := pc, lview := c.lview.set 0 i (lvl.count - 1) }
  else { c with pc := (p + 1) % 4096 }

/-- A delay bundle has issued: after the second, the branch goes to its target if it is taken. -/
def CoreSt.countDelay (c : CoreSt) : CoreSt :=
  match c.delay with
  | none => c
  | some (n, tgt) =>
    if 1 < n then { c with delay := some (n - 1, tgt) }
    else match tgt with
      | some p => { c with delay := none, pc := p }
      | none => { c with delay := none }

/-- A bundle of the core is complete: a cycle passes, a pending fault counts it. -/
def CoreSt.retireBundle (c : CoreSt) : CoreSt :=
  let c := c.nextCycle
  { c with trap := c.trap.map (fun t => { t with left := t.left - 1 }) }

/-! ### Taking work (R109, R136) -/

/-- Is the head of a queue blocked by its flow's window (R139)? -/
def State.headBlocked (s : State) (d : Desc) : Bool :=
  let f := s.flow d.flow
  f.ordered && 32 ≤ f.inflight

/-- Does a core's mask name a queue (R135)? -/
def State.serves (s : State) (c q : Nat) : Bool := bitOf (s.rd (R.OST_CORE_QMASK_MASK c (q / 32))) (q % 32)

/-- Has a queue a head that may be dispatched, IDLE apart? -/
def State.ready (s : State) (q : Nat) : Bool :=
  match s.queue q with
  | [] => false
  | d :: _ => !s.headBlocked d

def State.isIdleQ (s : State) (q : Nat) : Bool := s.on (R.OST_QCFG_IDLE q)

/-- Queues without IDLE that a core may be given (R136). -/
def State.ownEligible (s : State) (c : Nat) : List Nat :=
  (List.range 64).filter (fun q => s.serves c q && s.ready q && !s.isIdleQ q)

/-- Is a queue eligible for a core (R136, R148)? -/
def State.eligible (s : State) (c q : Nat) : Bool :=
  s.serves c q && s.ready q &&
    (!s.isIdleQ q ||
      (s.ownEligible c = [] && s.idleCores < max 1 (s.rd R.OST_IDLE_CTRL_MAXCORES) && s.on R.OST_IDLE_CTRL_EN &&
        (match s.queue q with | d :: _ => !(s.flow d.flow).blocked | [] => false)))

/-- Cores that wait in TAKE and may be given a task (R136). -/
def State.takers (s : State) : List Nat :=
  (List.range 32).filter (fun c => (s.core c).waiting = some .take && s.inRot c && s.coreState c = 2 && s.on (R.DRV_CTRL_RUN c) && !s.gated 0)

/-- Queues some waiting core may be given. -/
def State.dispatchable (s : State) : List Nat :=
  (List.range 64).filter (fun q => s.takers.any (fun c => s.eligible c q))

/-- The distance of a queue in round-robin order after the one last served at its priority. -/
def State.roundDist (s : State) (q : Nat) : Nat :=
  match s.ost.served.get 0 (s.rd (R.OST_QCFG_PRIO q)) with
  | 0 => q
  | l + 1 => (q + 63 - l) % 64

/-- The queue and core of the next dispatch (R136): highest PRIO, round robin, lowest-numbered core. -/
def State.pick (s : State) : Option (Nat × Nat) :=
  let qs := s.dispatchable
  let top := (qs.map (fun q => s.rd (R.OST_QCFG_PRIO q))).foldl max 0
  let best := qs.filter (fun q => s.rd (R.OST_QCFG_PRIO q) = top)
  let near := best.foldl (fun m q => min m (s.roundDist q)) 64
  match best.find? (fun q => s.roundDist q = near) with
  | none => none
  | some q => (s.takers.find? (fun c => s.eligible c q)).map (fun c => (q, c))

/-- A bundle that is no branch is complete: the next PC, the delay it counts for, the cycle. -/
def CoreSt.finish (c : CoreSt) : CoreSt := c.advance.countDelay.retireBundle

/-- The wait of a core ends: its bundle is complete. The core runs on; after a STEP it drains and halts again (R117); a halted or gated core stays so. -/
def State.wakeCore (s : State) (c : Nat) (x : CoreSt) : State :=
  let y := { x with waiting := none }.finish
  if x.stepping then ((s.setCore c { y.drain with stepping := false }).setCoreState c 3).coreCopies c
  else if s.coreState c = 1 || s.coreState c = 2 then (((s.setCore c y).setCoreState c 1).coreCopies c).boundary c
  else (s.setCore c y).coreCopies c

/-- A descriptor leaves queue `q` for core `c`, whose TAKE completes (R109, R136). -/
def State.deliver (s : State) (q c : Nat) : State :=
  match s.queue q with
  | [] => s
  | d :: ds =>
    let s := (s.setQueue q ds).bump R.OST_CNT_DISPATCH_VALUE
    let s := { s with ost := { s.ost with served := s.ost.served.set 0 (s.rd (R.OST_QCFG_PRIO q)) (q + 1) } }
    let idle := s.isIdleQ q
    let s := s.when idle (·.bump R.OST_CNT_IDLE_GRANT_VALUE)
    let s := s.setFlow d.flow ((s.flow d.flow).mapPlace d.seq (fun p => { p with dispatched := true }))
    let x := s.core c
    let s := s.wakeCore c { x with task := some ⟨d.flow, d.seq, false, idle, s.tm.raw⟩, lastFlow := some d.flow, tap := none }
    let x := s.core c
    (s.setCore c ((List.range 4).foldl (fun x i => x.setX i (d.words.getD i 0)) x)).showIdle

/-- DISPATCH (R136). `waited` and `blocked` are the cycles the core waited and queues stood blocked since the last one (DEDUCED, log entry 83). -/
def execDispatch (waited : Nat) (blocked : Nat) (s : State) : Host.Outcome State Fault Refusal :=
  if s.gated 2 then .next s else
  .next (if !s.on R.OST_CTRL_ENABLE then s
    else
      let s := s.count R.OST_CNT_WINDOW_VALUE blocked
      match s.pick with
      | none => s
      | some (q, c) => (s.count (R.DRV_CNT_WAIT_VALUE c) waited).deliver q c)

/-- The descriptor in X4–X7 of a core. -/
def CoreSt.given (x : CoreSt) : Desc := descOf (x.xr 4) (x.xr 5) (x.xr 6) (x.xr 7)

/-- What becomes of a GIVE (R134, R140–R142): it is taken, it waits, or it faults. -/
inductive Given where
  | done (s : State)
  | wait
  | fault
  deriving DecidableEq, Repr

/-- A GIVE that enters its queue when there is room. -/
def State.giveNow (s : State) (d : Desc) : Given := if s.roomIn d.queue then .done (s.enter d) else .wait

/-- The GIVE of a core. A disabled queue accepts and discards at once (R134). -/
def State.give (s : State) (c : Nat) : Given :=
  let x := s.core c
  let d := x.given
  match x.task with
  | none => if x.lastFlow = some d.flow then .fault else s.giveNow d
  | some t =>
    if !s.on (R.OST_QCFG_EN d.queue) then .done (s.enter d)
    else if d.flow = t.flow then
      if t.handed || !s.roomIn d.queue then s.giveNow d
      else .done ((s.enterHanded d t.seq).setCore c { x with task := some { t with handed := true } })
    else
      let f := s.flow t.flow
      if !f.ordered then s.giveNow d
      else match f.place t.seq with
        | none => s.giveNow d
        | some p =>
          if p.held.length < 4 then .done (s.setFlow t.flow (f.mapPlace t.seq (fun p => { p with held := p.held ++ [d] })))
          else if f.oldest t.seq then s.giveNow d
          else .wait

/-- Does a core wait in GIVE for the queue `q`? -/
def State.givesTo (s : State) (q c : Nat) : Bool :=
  (s.core c).waiting = some .give && s.coreState c = 2 && (s.core c).given.queue = q

/-- Is a GIVE that waits accepted now? -/
def Given.isDone : Given → Bool
  | .done _ => true
  | _ => false

/-- A GIVE that waits for four held descriptors waits for its place, not for room (R140). -/
def State.giveHeld (s : State) (c : Nat) : Bool :=
  match (s.core c).task with
  | some t => (match (s.flow t.flow).place t.seq with | some p => decide ((s.core c).given.flow ≠ t.flow ∧ 4 ≤ p.held.length) | none => false)
  | none => false

/-- GIVE_ACCEPT (R109): a GIVE that waits goes on when it can; releases that wait for room go before it, and of cores that wait for one queue the lowest-numbered goes first
(R137). `waited` is the cycles that core waited, and `full` those of them on a full queue, which OST_CNT_STALL counts (R146). -/
def execGiveAccept (core : Fin 32) (waited : Nat) (full : Nat) (s : State) : Host.Outcome State Fault Refusal :=
  if s.gated 2 || !s.givesTo (s.core core.val).given.queue core.val then .next s else
  let q := (s.core core.val).given.queue
  let s := s.retireAll
  .next (match (List.range 32).find? (fun c => s.givesTo q c && (s.give c).isDone) with
    | none => s
    | some c => match s.give c with
      | .done t =>
        let t := (t.count (R.DRV_CNT_WAIT_VALUE c) waited).count R.OST_CNT_STALL_VALUE (if s.giveHeld c then min full waited else waited)
        t.wakeCore c (t.core c)
      | _ => s)

/-! ### Posts of the supervisor (R146) -/

/-- Descriptors that wait for room in a queue and go before a post (R137): releases of windows, GIVEs of cores. -/
def State.waitsFor (s : State) (q : Nat) : Nat :=
  (s.ost.flows.filter (fun p => match p.2.places with | x :: _ => x.done && (x.held.head?.any (fun d => d.queue = q)) | [] => false)).length +
    ((List.range 32).filter (s.givesTo q)).length

/-- A descriptor posted by the supervisor; FULL tells of the last post. -/
def State.post (s : State) (word : Nat) : State :=
  let s := s.wr (R.OST_POST_WORD 3) word
  let d := descOf (s.rd (R.OST_POST_WORD 0)) (s.rd (R.OST_POST_WORD 1)) (s.rd (R.OST_POST_WORD 2)) word
  if !s.on (R.OST_QCFG_EN d.queue) || (s.queue d.queue).length + s.waitsFor d.queue < s.depth d.queue then (s.wr R.OST_POST_STATUS_FULL 0).enter d
  else (s.flag R.OST_POST_STATUS_FULL).bump R.OST_CNT_POST_FULL_VALUE

/-- SUPERVISOR_POST (R146): a write to OST_POST3. -/
def execSupervisorPost (word : BitVec 32) (s : State) : Host.Outcome State Fault Refusal :=
  if s.gated 2 then .next s else
  .next (s.post word.toNat)

/-- DONE ends the task of a core (R109, R141, R142). -/
def State.endTask (s : State) (c : Nat) : State :=
  let x := s.core c
  match x.task with
  | none => s
  | some t =>
    let s := (s.setCore c { x with task := none, tap := none }).bump (R.DRV_CNT_TASK_VALUE c)
    (if t.handed then s else s.placeDone t.flow t.seq).showIdle

/-- DONE_COMPLETE (R109): everything the core sent before is performed. -/
def execDoneComplete (core : Fin 32) (s : State) : Host.Outcome State Fault Refusal :=
  if s.gated 0 then .next s else
  .next (if (s.core core.val).waiting ≠ some .done then s
    else
      let s := s.endTask core.val
      s.wakeCore core.val (s.core core.val))

/-- SLICE_OVERRUN (R148): SLICE cycles of 600 MHz after the start of an idle task. -/
def execSliceOverrun (core : Fin 32) (t : Nat) (s : State) : Host.Outcome State Fault Refusal :=
  let s := s.atRaw t
  if s.gated 2 then .next s else
  .next (match (s.core core.val).task with
    | some t =>
      if t.idle && t.since + ceilDiv (5 * s.rd R.OST_IDLE_CTRL_SLICE) 6 ≤ s.tm.raw then
        let s := (s.bump R.OST_CNT_SLICE_VALUE).flag R.OST_STATUS_SLICE
        s.setFlow t.flow { s.flow t.flow with blocked := true }
      else s
    | none => s)

/-! ### DRV_CTRL (R117–R120) -/

/-- DRV_CORE_RESET (R120). -/
def execDrvCoreReset (core : Fin 32) (s : State) : Host.Outcome State Fault Refusal :=
  if s.gated 0 then .next s else
  .next (s.resetCore core.val)

/-- HALT_REQ (R117). A core that is not running or waiting has nothing to halt. -/
def execHaltReq (core : Fin 32) (s : State) : Host.Outcome State Fault Refusal :=
  if s.gated 0 then .next s else
  .next (if s.coreState core.val = 1 || s.coreState core.val = 2 then s.askHalt core.val else s)

/-- DRV_RESUME (R117). -/
def execDrvResume (core : Fin 32) (s : State) : Host.Outcome State Fault Refusal :=
  if s.gated 0 then .next s else
  .next (s.resume core.val)

/-! ### The debug window (R117, R120) -/

/-- An 18-bit lane as a debug word. -/
def laneWord (x : Int) : Nat := unsignedOf 32 x

/-- A register as DRV_DBG_DATA reads it. -/
def CoreSt.dbgRead (c : CoreSt) (sel lane : Nat) : Nat :=
  if sel < 0x40 then laneWord (c.v.get 0 (sel * 8 + lane))
  else if sel < 0x50 then laneWord (c.kLane (sel - 0x40) lane)
  else if sel < 0x60 then c.xr (sel - 0x50)
  else if sel < 0x80 then
    let a := unsignedOf 64 (c.accv ((sel - 0x60) / 2))
    if sel % 2 = 0 then a % 2 ^ 32 else a / 2 ^ 32
  else if sel < 0xA0 then
    let g := c.ag ((sel - 0x80) / 4)
    match sel % 4 with
    | 0 => g.base
    | 1 => unsignedOf 18 g.ptr
    | 2 => unsignedOf 18 g.inc
    | _ => g.len + g.mode * 2 ^ 20
  else if sel < 0xA7 then c.loopReg (sel - 0xA0)
  else if sel = 0xA7 then c.sr
  else if sel = 0xA8 then c.pc
  else if sel = 0xA9 then c.ipc
  else if sel = 0xAA then c.isr
  else if 0xB0 ≤ sel && sel < 0xB4 then (c.scl (sel - 0xB0)).word
  else 0

/-- A write of DRV_DBG_DATA. -/
def CoreSt.dbgWrite (c : CoreSt) (sel lane w : Nat) : CoreSt :=
  if sel < 0x40 then c.apply (.v (sel * 8 + lane) (signedOf 18 w))
  else if sel < 0x50 then c.apply (.k ((sel - 0x40) * 8 + lane) (signedOf 18 w))
  else if sel < 0x60 then c.apply (.x (sel - 0x50) w)
  else if sel < 0x80 then
    let n := (sel - 0x60) / 2
    let a := unsignedOf 48 (c.accv n)
    let v := signedOf 48 (if sel % 2 = 0 then setBits a 31 0 w else setBits a 47 32 w)
    { (c.apply (.acc n v)) with accNow := c.accNow.set 0 n v }
  else if sel < 0xA0 then
    let n := (sel - 0x80) / 4
    match sel % 4 with
    | 0 => c.apply (.agBase n w)
    | 1 => c.apply (.agPtr n (signedOf 18 w))
    | 2 => c.apply (.agInc n (signedOf 18 w))
    | _ => (c.apply (.agLen n w)).apply (.agMode n (bitsOf w 21 20))
  else if sel < 0xA7 then c.apply (.loopReg (sel - 0xA0) w)
  else if sel = 0xA7 then c.apply (.sr w)
  else if sel = 0xA8 then { c with pc := w % 4096, delay := none, waiting := none }
  else if sel = 0xA9 then c.apply (.ipc w)
  else if sel = 0xAA then c.apply (.isr w)
  else if 0xB0 ≤ sel && sel < 0xB4 then c.apply (.scl (sel - 0xB0) (scaleOf w))
  else c

/-- DRV_DBG_DATA reads zero and discards writes unless the core is halted (R120). -/
def State.dbgRead (s : State) (c : Nat) : Nat :=
  if s.coreState c = 3 then (s.core c).dbgRead (s.rd (R.DRV_DBG_SEL_SEL c)) (s.rd (R.DRV_DBG_SEL_LANE c)) else 0

def State.dbgWrite (s : State) (c w : Nat) : State :=
  if s.coreState c = 3 then
    (s.setCore c ((s.core c).dbgWrite (s.rd (R.DRV_DBG_SEL_SEL c)) (s.rd (R.DRV_DBG_SEL_LANE c)) w)).coreCopies c
  else s

end Sys2Proof.Machine
end

