-- ==== Sys2Proof/Machine/Power.lean ====
section
/-! DEFINITION. The power-stage modulators (10_power_stage.md R194–R213). -/

namespace Sys2Proof.Machine

open Sys2Proof

/-- All gates of a leg low. -/
def legLow : Leg := ⟨[], [], none⟩

/-- A channel after reset; after any start the sag gain is 1 (R199). -/
def psReset : PsSt :=
  { consec := 0, tripped := false, tripAt := none, startAt := 0, doneAt := 0, stopAt := 0, rampAt := none, fails := [],
    stopped := false, probeTrip := false, everRan := false, serves := none, losses := 0, half := false,
    sag := 1073741824, limited := false, lastQ := 0, errA := (0, 0), errB := (0, 0), legA := legLow, legB := legLow,
    mirrorIn := false, shed := false, forTest := false, pilot := none, disarmed := false, began := 0, next := none, fresh := false,
    haltAt := 0, haltFade := 0, haltRamp := 0, again := false, volts := [], winAt := 0, dcAt := 0 }

def State.psSt (s : State) (n : Nat) : PsSt := s.ps.get psReset n
def State.setPs (s : State) (n : Nat) (x : PsSt) : State := { s with ps := s.ps.set psReset n x }

/-- STATE values of PWS_STATUS (R213). -/
def stOff : Nat := 0
def stStarting : Nat := 1
def stRunning : Nat := 2
def stStopping : Nat := 3
def stWait : Nat := 4
def stProbe : Nat := 5
def stRestart : Nat := 6
def stLatched : Nat := 7
def stStandby : Nat := 8
def stStoppedDc : Nat := 9
def stHeld : Nat := 10

def State.psState (s : State) (n : Nat) : Nat := s.rd (R.PWS_STATUS_STATE n)
def State.setPsState (s : State) (n v : Nat) : State := s.wr (R.PWS_STATUS_STATE n) v

/-- PWS_FAULT_SUM follows PWS_FAULT (R213). -/
def State.showFaults (s : State) : State :=
  s.wr R.PWS_FAULT_SUM_CHAN ((List.range 24).foldr (fun n acc => b2n (s.word (R.PWS_FAULT_w n) ≠ 0) + 2 * acc) 0)

/-- All gates low (R194). -/
def State.gatesLow (s : State) (n : Nat) : State :=
  (s.setPs n { s.psSt n with legA := legLow, legB := legLow }).wr (R.PWS_STATUS_SWITCHING n) 0

/-- Failed attempts within the current 60 s, counted from the first of them (R204): what ATTEMPTS shows. -/
def State.attempts (s : State) (n : Nat) : Nat := min 3 ((s.psSt n).fails.filter (fun t => s.tm.raw < t + ms 60000)).length

/-- PWS_STATUS as it reads. -/
def State.psStatusWord (s : State) (n : Nat) : Nat := setBits (s.word (R.PWS_STATUS_w n)) 14 13 (s.attempts n)

/-- A power event (R313); Tally logs short stops, latches, DC stops and opens (R228). -/
def State.psEvent (s : State) (n kind : Nat) : State :=
  (s.when (kind = 0 || kind = 3 || kind = 4 || kind = 5) (·.tallyLog tPower rEvent n kind)).evPower n kind (s.psState n) (s.attempts n)

/-! ### Line tests that a channel's events end (R220) -/

/-- RESULT, phase and |Z| of TLY_RES. -/
def State.lineResult (s : State) (n result : Nat) : State := s.wr (R.TLY_RES_RESULT n) result

/-- The running line test ends without a judgement: its pilot ramps out, the result is logged, and inside the window the channel is
retried 60 s later (R220). -/
def State.lineEnd (s : State) (l : LineTest) (result : Nat) : State :=
  let x := s.psSt l.ch
  let s := s.setPs l.ch { x with pilot := x.pilot.map (fun p => (p.1, some s.tm.raw)) }
  let s := (s.lineResult l.ch result).tallyLog tLine result l.ch 0
  { s with tly := { s.tly with line := some { l with ended := some s.tm.raw }
                               retries := if s.on R.TLY_STATUS_IN_WINDOW && !l.once then s.tly.retries ++ [(l.ch, s.tm.raw + ms 60000)]
                                 else s.tly.retries } }

/-- A trip, stop, start or command of channel `n` aborts its line test, and that of its fallback (R220). -/
def State.lineAbort (s : State) (n : Nat) : State :=
  match s.tly.line with
  | some l =>
    if l.ended.isNone && (l.ch = n || (s.on (R.PWS_CFG_FB_EN n) && s.rd (R.PWS_CFG_FB n) = l.ch)) then
      (s.lineEnd l rAborted).bump R.TLY_CNT_ABORT_VALUE
    else s
  | none => s

/-! ### Frequency (R197, R198) -/

/-- Is a code acceptable against the protected entries (R197)? -/
def State.codeOk (s : State) (k : Nat) : Bool :=
  (List.range 8).all (fun i =>
    let p := s.rd (R.PWS_PROT_FREQ i) * 1000
    !s.on (R.PWS_PROT_EN i) || p = 0 ||
      [1, 2, 3, 4, 5, 6].all (fun h => decide (20000 ≤ (((h * (300000 + 250 * k) : Nat) : Int) - p).natAbs)))

/-- The codes in search order: F_NOM, F_NOM + 1, F_NOM − 1, … -/
def searchOrder (nom : Nat) : List Int :=
  (nom : Int) :: ((List.range 800).map (fun d => [(nom : Int) + (d + 1 : Nat), (nom : Int) - (d + 1 : Nat)])).flatten

/-- The search of R197 for a channel. -/
def State.searchCode (s : State) (n : Nat) : Option Nat :=
  let lo := s.rd (R.PWS_FSW_F_MIN n)
  let hi := min 800 (s.rd (R.PWS_FSW_F_MAX n))
  ((searchOrder (s.rd (R.PWS_FSW_F_NOM n))).find? (fun (c : Int) =>
    decide ((lo : Int) ≤ c ∧ c ≤ (hi : Int)) && s.codeOk c.toNat)).map (·.toNat)

/-- A channel's search at a commit, over the configuration `k` that it leaves: its frequency applies from the next boundary; without a result it keeps the one it
has, or F_NOM when it has never run, and BAND_FAIL is set (R197). The B-end of a pair is not searched (R198). -/
def State.freqSearchIn (k s : State) (n : Nat) : State :=
  if k.rd (R.PWS_CFG_ROLE n) = 2 then s
  else
    let apply (s : State) (c : Nat) : State :=
      let s := s.later s.nextBlock (.psFreq n c)
      if k.rd (R.PWS_CFG_ROLE n) = 1 then s.later s.nextBlock (.psFreq (n + 1) c) else s
    match k.searchCode n with
    | some c => apply s c
    | none =>
      let s := ((s.flag (R.PWS_FAULT_BAND_FAIL n)).bump (R.PWS_CNT_BAND_VALUE n)).showFaults
      if (s.psSt n).everRan then s else apply s (k.rd (R.PWS_FSW_F_NOM n))

/-- DEDUCED, log entry 42. -/
def State.freqSearch (s : State) (n : Nat) : State := State.freqSearchIn s s n

/-! ### Start and stop (R200, R201) -/

/-- May channels switch at all: enabled, and this unit is no standby (R194, R201)? -/
def State.mayRun (s : State) (n : Nat) : Bool := s.on R.PWS_CTRL_ENABLE && s.on (R.PWS_CFG_EN n) && !s.standsBy

/-- The period of a channel in 2^−32 of 2 ns (R195). -/
def State.periodOf (s : State) (n : Nat) : Nat := rheDivNat (500000000 * 4294967296) (300000 + 250 * s.rd (R.PWS_STATUS_F_NOW n))

/-- RAMP_MS of a channel in units of 2 ns; below 5 acts as 5, above 80 as 80. -/
def State.dutyLen (s : State) (n : Nat) : Nat := ms (clampN 5 80 (s.rd (R.PWS_TIME_RAMP_MS n)))

/-- The state of a channel that does not switch: HELD on a standby, STANDBY for an armed B-end, OFF (R207, R213). -/
def State.psRest (s : State) (n : Nat) : Nat :=
  if s.standsBy && s.on (R.PWS_CFG_EN n) then stHeld
  else if s.rd (R.PWS_CFG_ROLE n) = 2 && s.on (R.PWS_CFG_EN n) && !(s.psSt n).disarmed then stStandby
  else stOff

/-- A channel that does not switch takes that state; a B-end's windows begin (R208). A latched channel and one stopped for DC stay so (R204, R205). -/
def State.psIdle (s : State) (n : Nat) : State :=
  if s.on (R.PWS_FAULT_LATCH n) && !s.standsBy then s.setPsState n stLatched
  else if s.on (R.PWS_FAULT_DC n) && !s.standsBy then s.setPsState n stStoppedDc
  else (s.setPs n { s.psSt n with losses := 0, winAt := s.tm.raw }).setPsState n (s.psRest n)

/-- A channel starts (R200); `half` is HALF_DUTY. In CM_RAMP a leg holds its low switch on at d = 0. A standby's channel is HELD, one latched or
stopped for DC stays so (R204, R205). -/
def State.psStart (s : State) (n : Nat) (half mirror : Bool) : State :=
  if !s.mayRun n || s.on (R.PWS_FAULT_LATCH n) || s.on (R.PWS_FAULT_DC n) then (if s.on (R.PWS_STATUS_SWITCHING n) then s else s.psIdle n)
  else
    let s := s.lineAbort n
    let x := s.psSt n
    let leg : Leg := if half then legLow else ⟨[], [], some false⟩
    let s := s.setPs n { x with consec := 0, tripped := false, startAt := s.tm.raw, half := half, sag := 1073741824,
                                limited := false, errA := (0, 0), errB := (0, 0), legA := leg, legB := leg, everRan := true,
                                mirrorIn := mirror, shed := false, forTest := false, lastQ := 0, next := none, fresh := true,
                                began := (s.psSt (n - 1)).began, again := false, volts := [], dcAt := s.tm.raw }
    (s.setPsState n stStarting).wr (R.PWS_STATUS_SWITCHING n) 1

/-- A channel starts in the mode its START field selects, once its gates are low. -/
def State.psStartOwn (s : State) (n : Nat) : State :=
  if s.psState n = stStopping then s.setPs n { s.psSt n with again := true } else s.psStart n (s.on (R.PWS_CFG_START n)) false

/-- The stop mode of a channel: HALF_DUTY for a B-end and a fallback, else as its START field (R200, R206, R209, R211). -/
def State.ownHalf (s : State) (n : Nat) : Bool :=
  s.on (R.PWS_CFG_START n) || s.rd (R.PWS_CFG_ROLE n) = 2 || (s.psSt n).serves.isSome

/-- The fade of a start at RAW `r` (R200): 3,072 modulator samples, or one block at a takeover or handover (R201), over 3,072. -/
def psFade (x : PsSt) (r : Nat) : Nat :=
  if x.mirrorIn then 3072
  else min 3072 ((r - x.doneAt) * 192 / 125000)

/-- A channel that switches begins its stop sequence from the fade and duty it has reached; one that does not takes its rest (R200, R207). -/
def State.psStop (s : State) (n : Nat) (half : Bool) : State :=
  let s := s.lineAbort n
  let x := s.psSt n
  if !s.on (R.PWS_STATUS_SWITCHING n) then s.psIdle n
  else if s.psState n = stStopping then s.setPs n { x with again := false }
  else
    let starting := s.psState n = stStarting
    (s.setPs n { x with half := half, haltAt := s.tm.raw, again := false,
                        haltFade := if starting || s.psState n = stProbe then 0 else psFade x s.tm.raw,
                        haltRamp := if starting && !x.half then min (s.dutyLen n) (s.tm.raw - x.startAt) else s.dutyLen n }).setPsState n stStopping

/-- A stop's fade-out, if there is a program to fade (R200), in units of 2 ns. -/
def haltFadeLen (x : PsSt) : Nat := if x.haltFade = 0 then 0 else ms 4

/-- RAW at which a stop is complete: the fade, then the ramp down or one period at 50 %. -/
def State.haltEnd (s : State) (n : Nat) : Nat :=
  let x := s.psSt n
  x.haltAt + haltFadeLen x + (if x.half then ceilDiv (s.periodOf n) 4294967296 else x.haltRamp)

/-- A fallback starts and carries the principal's output (R206). -/
def State.fallbackStart (s : State) (n : Nat) : State :=
  if !s.on (R.PWS_CFG_FB_EN n) || s.on (R.PWS_STATUS_FB_ACTIVE n) then s
  else
    let f := s.rd (R.PWS_CFG_FB n)
    let s := s.psStart f true false
    if !s.on (R.PWS_STATUS_SWITCHING f) then s
    else
      let s := s.setPs f { s.psSt f with serves := some n }
      (s.flag (R.PWS_STATUS_FB_ACTIVE n)).setPs n { s.psSt n with stopped := false }

/-- The channel that serves a principal stops under HALF_DUTY (R206). -/
def State.fallbackStop (s : State) (n : Nat) : State :=
  if !s.on (R.PWS_STATUS_FB_ACTIVE n) then s
  else
    let s := s.wr (R.PWS_STATUS_FB_ACTIVE n) 0
    (List.range 24).foldl (fun s f =>
      if (s.psSt f).serves ≠ some n then s
      else if s.on (R.PWS_STATUS_SWITCHING f) then s.psStop f true
      else s.setPs f { s.psSt f with serves := none, shed := false }) s

/-! ### Sense codes (R212) -/

/-- A sensed impedance in 10 mΩ, as the square of a fraction: V_CAL and I_CAL make mV and mA of the codes. -/
def State.zFraction (s : State) (n : Nat) (m : SenseSum) : Nat × Nat :=
  let a := (m.vRe * m.vRe + m.vIm * m.vIm).toNat * (100 * s.rd (R.PWS_CAL_V_CAL n)) ^ 2
  let b := (m.iRe * m.iRe + m.iIm * m.iIm).toNat * s.rd (R.PWS_CAL_I_CAL n) ^ 2
  if a = 0 && b = 0 then ((Config.senseNone % 65536) ^ 2, 1) else (a, b)

/-- |Z| in 10 mΩ, to the nearest; 0xFFFF from there on. -/
def State.zSensed (s : State) (n : Nat) (m : SenseSum) : Nat :=
  let (a, b) := s.zFraction n m
  if b = 0 then 0xFFFF else min 0xFFFF ((isqrt (4 * a / b) + 1) / 2)

/-! ### Trips, probes, restarts (R202–R204) -/

/-- A failed attempt (R204): three within 60 s of the first latch the channel. -/
def State.failedAttempt (s : State) (n : Nat) : State :=
  let x := s.psSt n
  let fs := x.fails.filter (fun t => s.tm.raw < t + ms 60000) ++ [s.tm.raw]
  let s := s.setPs n { x with fails := fs }
  if 3 ≤ fs.length then
    (((s.gatesLow n).setPsState n stLatched).flag (R.PWS_FAULT_LATCH n)).showFaults.psEvent n 3
  else s

/-- A probe that does not read sound (R203 step 4). -/
def State.probeFailed (s : State) (n : Nat) : State :=
  let s := ((s.gatesLow n).setPs n { (s.gatesLow n).psSt n with stopAt := s.tm.raw, consec := 0 }).setPsState n stWait
  ((s.bump (R.PWS_CNT_PROBE_FAIL_VALUE n)).failedAttempt n).psEvent n 1

/-- The stop on short (R203). -/
def State.shortStop (s : State) (n : Nat) : State :=
  if s.psState n = stProbe then s.probeFailed n
  else
    let x := s.psSt n
    let again : Bool := s.psState n = stRestart ||
      (match x.rampAt with | some r => decide (s.tm.raw < r + ms 1000) | none => false)
    let s := (s.gatesLow n).setPs n { (s.gatesLow n).psSt n with consec := 0, stopAt := s.tm.raw, stopped := true }
    let s := (((s.setPsState n stWait).flag (R.PWS_FAULT_SHORT n)).bump (R.PWS_CNT_STOP_VALUE n)).showFaults
    (if again then s.failedAttempt n else s).psEvent n 0

/-- A tripped period (R202): the gates go low, the eighth in a row stops the channel, and a fallback starts (R206). -/
def State.tripOf (s : State) (n : Nat) : State :=
  if !s.on (R.PWS_STATUS_SWITCHING n) || (s.psSt n).tripped then s
  else
    let s := s.lineAbort n
    let x := s.psSt n
    let s := s.setPs n { x with tripped := true, consec := x.consec + 1, tripAt := some s.tm.raw, legA := legLow, legB := legLow,
                                probeTrip := x.probeTrip || s.psState n = stProbe }
    let s := (s.bump (R.PWS_CNT_TRIP_VALUE n)).fallbackStart n
    if 8 ≤ x.consec + 1 then s.shortStop n else s

/-- TRIP (R202). -/
def execTrip (ch : Fin 24) (t : Nat) (s : State) : Host.Outcome State Fault Refusal :=
  if s.gated 10 then .next (s.atRaw t) else
  .next ((s.atRaw t).tripOf ch.val)

/-- PROBE_START (R203 step 1) (DEDUCED, log entry 83). -/
def execProbeStart (ch : Fin 24) (t : Nat) (s : State) : Host.Outcome State Fault Refusal :=
  if s.gated 10 then .next (s.atRaw t) else
  let s := s.atRaw t
  let n := ch.val
  let x := s.psSt n
  .next (if s.psState n = stWait && x.stopAt + ms 500 ≤ s.tm.raw && s.mayRun n then
    ((s.setPs n { x with probeTrip := false, consec := 0, tripped := false, half := true, startAt := s.tm.raw, sag := 1073741824, limited := false,
                         lastQ := 0, next := none, fresh := true, volts := [], dcAt := s.tm.raw,
                         errA := (0, 0), errB := (0, 0) }).setPsState n stProbe).wr (R.PWS_STATUS_SWITCHING n) 1
    else s)

/-- Twice Zmin of a channel in 10 mΩ (R203 step 2): PROBE_ZMIN, else half the baseline, else 2.00 Ω. -/
def State.zMin2 (s : State) (n : Nat) : Nat :=
  if s.rd (R.PWS_PROBE_ZMIN n) ≠ 0 then 2 * s.rd (R.PWS_PROBE_ZMIN n)
  else if s.on (R.TLY_BASE_VALID n) then s.rd (R.TLY_BASE_Z n)
  else 400

/-- Does a sensed impedance reach Zmin? -/
def State.zSound (s : State) (n : Nat) (m : SenseSum) : Bool :=
  let (a, b) := s.zFraction n m
  decide (b * s.zMin2 n ^ 2 ≤ 4 * a)

/-- PROBE_END (R203): 100 ms after the probe began, with the 25 kHz sums of its voltage and current senses. -/
def execProbeEnd (ch : Fin 24) (sums : SenseSum) (t : Nat) (s : State) : Host.Outcome State Fault Refusal :=
  if s.gated 10 then .next (s.atRaw t) else
  let s := s.atRaw t
  let n := ch.val
  if s.psState n ≠ stProbe || decide (s.tm.raw < (s.psSt n).startAt + ms 100) then .next s
  else
    let s := s.wr (R.PWS_MEAS_Z n) (s.zSensed n sums)
    let x := s.psSt n
    .next (if s.zSound n sums && !x.probeTrip then
      ((s.setPs n { x with doneAt := s.tm.raw, mirrorIn := false, sag := 1073741824, lastQ := 0, fresh := true }).setPsState n stRestart).psEvent n 2
    else s.probeFailed n)

/-- RESTART_RAMP_END (R203 step 3): 4.00 ms of fade and 200 ms of ramp after the restart. -/
def execRestartRampEnd (ch : Fin 24) (t : Nat) (s : State) : Host.Outcome State Fault Refusal :=
  if s.gated 10 then .next (s.atRaw t) else
  let s := s.atRaw t
  let n := ch.val
  .next (if s.psState n = stRestart && decide ((s.psSt n).doneAt + ms 204 ≤ s.tm.raw) then
    (((s.setPs n { s.psSt n with rampAt := some s.tm.raw }).setPsState n stRunning).fallbackStop n).psEvent n 6
    else s)

/-- PRINCIPAL_TRIP_FREE (R206). -/
def execPrincipalTripFree (ch : Fin 24) (t : Nat) (s : State) : Host.Outcome State Fault Refusal :=
  if s.gated 10 then .next (s.atRaw t) else
  let s := s.atRaw t
  let n := ch.val
  let x := s.psSt n
  let quiet : Bool := match x.tripAt with | some r => decide (r + ms 500 ≤ s.tm.raw) | none => true
  .next (if s.on (R.PWS_STATUS_FB_ACTIVE n) && s.psState n = stRunning && !x.stopped && quiet then s.fallbackStop n else s)

/-- DC_CHECK (R205): every 10 ms, `sum` is the sum of the 9,600 voltage codes of the last 100 ms. -/
def execDcCheck (ch : Fin 24) (sum : Int) (t : Nat) (s : State) : Host.Outcome State Fault Refusal :=
  if s.gated 10 then .next (s.atRaw t) else
  let s := s.atRaw t
  let n := ch.val
  let x := s.psSt n
  if !s.on (R.PWS_STATUS_SWITCHING n) || decide (s.tm.raw < x.startAt + ms 100) || decide (s.tm.raw < x.dcAt + ms 10) then .next s
  else
    let mv := sum * s.rd (R.PWS_CAL_V_CAL n)
    let s := (s.setPs n { x with dcAt := s.tm.raw }).wr (R.PWS_MEAS_VMEAN n) (unsignedOf 16 (satBits 16 (rheDiv mv 24576000)))
    .next (if 2000 * 256 * 9600 < mv.natAbs then
      let s := s.lineAbort n
      ((((((s.gatesLow n).setPs n { (s.gatesLow n).psSt n with stopped := true }).setPsState n stStoppedDc).flag
        (R.PWS_FAULT_DC n)).bump (R.PWS_CNT_DC_VALUE n)).showFaults.fallbackStart n).psEvent n 4
      else s)

/-! ### Loop lines (R207–R210) -/

/-- Is loss held back: the A-end neither RUNNING nor RESTART, or within 100 ms of its last trip (R208)? -/
def State.lossHeld (s : State) (a : Nat) : Bool :=
  !(s.psState a = stRunning || s.psState a = stRestart) ||
    (match (s.psSt a).tripAt with | some r => decide (s.tm.raw < r + ms 100) | none => false)

/-- An open is declared (R209). -/
def State.openDeclared (s : State) (b : Nat) : State :=
  let s := ((s.setPs b { s.psSt b with losses := 0 }).psStart b true false)
  let s := (((s.flag (R.PWS_FAULT_OPEN b)).flag (R.PWS_FAULT_OPEN (b - 1))).flag (R.PWS_STATUS_LOOP_DRIVE b)).bump (R.PWS_CNT_OPEN_VALUE b)
  (s.showFaults.psEvent (b - 1) 5).psEvent b 5

/-- The A-end's commanded voltages of a window that began at RAW `w`, behind the sense path: the sum of their squares and their number (R208). -/
def windowVolts (x : PsSt) (w : Nat) : Nat × Nat :=
  let d := min 250000 Config.senseDelay
  let vs := (x.volts.filter (fun p => w - d ≤ p.1 && p.1 < w + ms 2 - d)).map Prod.snd
  ((vs.map (fun v => (v * v).toNat)).sum, vs.length)

/-- The sum of the squares of a window's voltage codes behind the 100 Hz high-pass. -/
def windowSense (codes : List (BitVec 14)) : Nat :=
  ((List.range codes.length).map (fun j => ((Config.loopHighPass codes j) ^ 2).toNat)).sum

/-- LOOP_WINDOW (R208): a window of 2.00 ms of the B-end `ch` ends; `codes` are its voltage codes. A window that held a reference check of the
converter does not qualify (R227). -/
def execLoopWindow (ch : Fin 24) (codes : List (BitVec 14)) (t : Nat) (s : State) : Host.Outcome State Fault Refusal :=
  if s.gated 10 then .next (s.atRaw t) else
  let s := s.atRaw t
  let b := ch.val
  let x := s.psSt b
  if s.rd (R.PWS_CFG_ROLE b) ≠ 2 || s.psState b ≠ stStandby || decide (s.tm.raw < x.winAt + ms 2) then .next s
  else
    let w := x.winAt
    let s := s.setPs b { x with winAt := w + ms 2 }
    let (e2, cnt) := windowVolts (s.psSt (b - 1)) w
    let checked : Bool := match s.tly.sensAt.find? (fun p => p.1 = b) with
      | some p => decide (w ≤ p.2 ∧ p.2 < w + ms 2)
      | none => false
    .next (if s.lossHeld (b - 1) then s.setPs b { s.psSt b with losses := 0 }
      else if checked || cnt = 0 || e2 < cnt * (256 * s.rd (R.PWS_LOOP_VMIN b)) ^ 2 then s
      else if e2 * codes.length ≤ 16 * windowSense codes * s.rd (R.PWS_CAL_V_CAL b) ^ 2 * cnt then s.setPs b { s.psSt b with losses := 0 }
      else if x.losses + 1 < 3 then s.setPs b { s.psSt b with losses := x.losses + 1 }
      else s.openDeclared b)

/-! ### Completion of starts and stops (R200) -/

/-- RAW at which a start is complete (R200): RAMP_MS, or one period of HALF_DUTY. -/
def State.startEnd (s : State) (n : Nat) : Nat :=
  (s.psSt n).startAt + (if (s.psSt n).half then ceilDiv (s.periodOf n) 4294967296 else s.dutyLen n)

/-- START_COMPLETE (R200): modulation by the program begins, with its fade-in. -/
def execStartComplete (ch : Fin 24) (t : Nat) (s : State) : Host.Outcome State Fault Refusal :=
  if s.gated 10 then .next (s.atRaw t) else
  let s := s.atRaw t
  let n := ch.val
  .next (if s.psState n = stStarting && decide (s.startEnd n ≤ s.tm.raw) then
    ((s.setPs n { s.psSt n with doneAt := s.tm.raw }).setPsState n stRunning).psEvent n 6 else s)

/-- STOP_COMPLETE (R200): all gates low; an armed B-end returns to STANDBY (R209); a channel told to start again does. A fallback that shedding stopped
still serves (R211). -/
def execStopComplete (ch : Fin 24) (t : Nat) (s : State) : Host.Outcome State Fault Refusal :=
  if s.gated 10 then .next (s.atRaw t) else
  let s := s.atRaw t
  let n := ch.val
  .next (if s.psState n = stStopping && decide (s.haltEnd n ≤ s.tm.raw) then
    let s := s.gatesLow n
    let x := s.psSt n
    let s := (s.setPs n { x with serves := if x.shed then x.serves else none, forTest := false, again := false }).wr (R.PWS_STATUS_LOOP_DRIVE n) 0
    if x.again then (s.setPsState n stOff).psStartOwn n else s.psIdle n
    else s)

/-! ### Clearing faults (R204, R205, R209) -/

/-- SHORT is cleared: a LATCHED channel starts under R200 in its START mode; a fallback stops, unless a DC stop keeps it (R206). -/
def State.clearShort (s : State) (n : Nat) : State :=
  let latched := s.psState n = stLatched
  let s := ((s.wr (R.PWS_FAULT_SHORT n) 0).wr (R.PWS_FAULT_LATCH n) 0).showFaults
  let s := if s.psState n = stStoppedDc then s else s.fallbackStop n
  if latched then ((s.setPs n { s.psSt n with fails := [] }).setPsState n stOff).psStartOwn n else s

/-- DC is cleared: a channel stopped for DC starts under R200. -/
def State.clearDc (s : State) (n : Nat) : State :=
  let s := (s.wr (R.PWS_FAULT_DC n) 0).showFaults.fallbackStop n
  if s.psState n = stStoppedDc then (s.setPsState n stOff).psStartOwn n else s

/-- OPEN is cleared: a B-end that drives stops under HALF_DUTY and returns to STANDBY. -/
def State.clearOpen (s : State) (n : Nat) : State :=
  let s := (s.wr (R.PWS_FAULT_OPEN n) 0).showFaults
  if s.on (R.PWS_STATUS_LOOP_DRIVE n) then s.psStop n true else s

/-- A write of 1s to PWS_FAULT (R213); LATCH is read-only. -/
def State.clearFaults (s : State) (n mask : Nat) : State :=
  let s := s.when (bitOf mask 5) (fun s => s.wr (R.PWS_FAULT_CLIP n) 0)
  let s := s.when (bitOf mask 4) (fun s => s.wr (R.PWS_FAULT_BAND_FAIL n) 0)
  let s := s.when (bitOf mask 3 && s.on (R.PWS_FAULT_OPEN n)) (fun s => s.clearOpen n)
  let s := s.when (bitOf mask 2 && s.on (R.PWS_FAULT_DC n)) (fun s => s.clearDc n)
  (s.when (bitOf mask 0 && s.on (R.PWS_FAULT_SHORT n)) (fun s => s.clearShort n)).showFaults

/-- CLEAR_FAULT_SHORT (R204). -/
def execClearFaultShort (ch : Fin 24) (t : Nat) (s : State) : Host.Outcome State Fault Refusal :=
  if s.gated 10 then .next (s.atRaw t) else
  .next ((s.atRaw t).clearFaults ch.val 1)

/-- CLEAR_FAULT_DC (R205). -/
def execClearFaultDc (ch : Fin 24) (t : Nat) (s : State) : Host.Outcome State Fault Refusal :=
  if s.gated 10 then .next (s.atRaw t) else
  .next ((s.atRaw t).clearFaults ch.val 4)

/-- CLEAR_FAULT_OPEN (R209). -/
def execClearFaultOpen (ch : Fin 24) (t : Nat) (s : State) : Host.Outcome State Fault Refusal :=
  if s.gated 10 then .next (s.atRaw t) else
  .next ((s.atRaw t).clearFaults ch.val 8)

/-! ### The modulator signal (R167, R168) -/

/-- Modulator samples per render sample. -/
def State.modRatio (s : State) : Nat := if s.straps.rate96 then 8 else 16

/-- Sample `i` (32 × block + sample) of an output as released. -/
def State.outSample (s : State) (o : Nat) (i : Int) : Int :=
  if i < 0 then 0 else (s.releasedBlock o (i.toNat / 32)).getD (i.toNat % 32) 0

/-- The sum of R168 over `n` taps of a stage of ratio `l` and phase `p`. -/
def bridgeSum (rate : Bool) (stage l p : Nat) (x : Nat → Int) : Nat → Int
  | 0 => 0
  | n + 1 => bridgeSum rate stage l p x n + (Config.bridgeTap rate stage (l * n + p)).toInt * x n

/-- The first stage of the modulator bridge at sample `r` (two per render sample), before `sat23`. -/
def State.modFirst (s : State) (o : Nat) (r : Int) : Int :=
  rheDiv (bridgeSum s.straps.rate96 1 2 (r % 2).toNat (fun k => s.outSample o (r / 2 - k)) 32) 512

/-- The second stage at modulator sample `q`, before `sat23`. -/
def State.modSecond (s : State) (o : Nat) (q : Int) : Int :=
  let l := s.modRatio / 2
  rheDiv (bridgeSum s.straps.rate96 2 l (q % (l : Int)).toNat (fun k => sat23 (s.modFirst o (q / (l : Int) - k))) 16) 32768

/-- The modulator sample `q` of an output. -/
def State.modSample (s : State) (o : Nat) (q : Int) : Int := sat23 (s.modSecond o q)

/-- Saturations of both stages over block `n` of an output (MIX_CNT_BRG_SAT). -/
def State.bridgeSats (s : State) (o n : Nat) : Nat :=
  ((List.range 64).filter (fun (j : Nat) => let v := s.modFirst o (64 * (n : Int) + j); sat23 v ≠ v)).length +
  ((List.range (32 * s.modRatio)).filter (fun (j : Nat) =>
    let v := s.modSecond o (32 * s.modRatio * (n : Int) + j); sat23 v ≠ v)).length

/-- The output a channel carries: its own, its principal's, or its A-end's (R206, R209); none in a probe or a test that started it (R203, R218). -/
def State.carries (s : State) (n : Nat) : Option Nat :=
  let x := s.psSt n
  if s.psState n = stProbe || x.forTest then none
  else match x.serves with
    | some p => some (s.rd (R.PWS_CFG_OUTPUT p))
    | none => if s.on (R.PWS_CFG_PROG n) || s.rd (R.PWS_CFG_ROLE n) = 2 then some (s.rd (R.PWS_CFG_OUTPUT n)) else none

/-- The modulator position of an instant of C and 2^−32 parts of its unit: sample, and fraction over 125,000 × 2^32. A block is presented three blocks on
(R17, R18), and the bridge's output is taken its reference delay of two render samples ahead (R167). -/
def State.modPos (s : State) (c : Nat) (part : Nat) : Int × Nat :=
  let k := s.tm.blockCount
  let num : Int := ((((c : Int) - s.blockInstant k) * 4294967296) + part) * 192
  (num / (125000 * 4294967296) + ((k : Int) - 3) * (32 * s.modRatio : Nat) + (2 * s.modRatio : Nat), (num % (125000 * 4294967296)).toNat)

/-- A factor of a pilot's ramps (R218), over 131,072: raised cosine up and down over 10 ms. -/
def rampFactor (e : Nat) : Nat := if ms 10 ≤ e then 131072 else min 131072 (Config.raisedCosine e)

/-- A channel's pilot at modulator sample `q` (R203, R218): 25 kHz, at most −36 dBFS, a peak of 132,952 in Q0.23. -/
def State.pilotAt (s : State) (n : Nat) (q : Int) : Int :=
  let wave := clampI (-132952) 132952 (Config.pilotSine ((25 * q) % 768).toNat)
  if s.psState n = stProbe then wave
  else match (s.psSt n).pilot with
    | none => 0
    | some (up, none) => rheDiv (wave * rampFactor (s.tm.raw - up)) 131072
    | some (up, some down) =>
      rheDiv (wave * (rampFactor (down - up) * (131072 - rampFactor (s.tm.raw - down)) / 131072 : Nat)) 131072

/-- The program of a channel at modulator sample `q`. -/
def State.programAt (s : State) (n : Nat) (q : Int) : Int := match s.carries n with | some o => s.modSample o q | none => 0

/-- The floor of the sag gain in units of 2^−30 (R199). -/
def State.sagFloor (s : State) (n : Nat) : Nat :=
  let auth := if s.on R.PWS_CTRL_SAG_FULL then 40 else min 40 (s.rd (R.PWS_SAG_AUTH n))
  gainLin (-50 * (auth : Int)) * 8192

/-- The target gain of a modulator sample (R199); `vbus` in mV × 256. -/
def State.sagTarget (s : State) (n vbus : Nat) (x : Int) : Nat :=
  let full := x.natAbs * s.rdLive (R.PWS_VFS_VFS n) * 10 * 256
  let t := if full = 0 then 1073741824 else min 1073741824 (92 * vbus * 8388608 * 1073741824 / (100 * full))
  max (s.sagFloor n) t

/-- One step of the sag gain toward its target (R199): 1 − exp(−1 / (768,000 τ)) in units of 2^−48, τ 1 ms or 500 ms; the rounding is free within one
unit (DESIGN CHOICE, log entry 81). -/
def sagNext (g t : Nat) : Nat :=
  let rate : Nat := if t < g then 366265370160 else 733006797
  (clampI (min g t) (max g t) ((g : Int) + rheDiv (((t : Int) - g) * rate) 281474976710656 + clampI (-1) 1 (Config.sagRound g t))).toNat

/-- The sag gain over `cnt` modulator samples from `q` on, and whether it lay below 1. -/
def State.sagRun (s : State) (n vbus : Nat) : Nat → Int → Nat → Bool → Nat × Bool
  | 0, _, g, l => (g, l)
  | cnt + 1, q, g, l =>
    let g' := sagNext g (s.sagTarget n vbus (s.programAt n q + s.pilotAt n q))
    State.sagRun s n vbus cnt (q + 1) g' (l || g' < 1073741824)

/-- The gain of a restart ramp at RAW `r` (R203 step 3), over 131,072: −20 dB over the fade, then linear in dB over 200 ms. -/
def restartGain (x : PsSt) (r : Nat) : Nat :=
  let e := r - x.doneAt
  if e ≤ 2000000 then gainLin (-1000)
  else gainLin (-1000 + ((min 100000000 (e - 2000000)) * 1000 / 100000000 : Nat))

/-- The channel whose sag and restart gain a channel takes: a B-end that drives takes its A-end's while that runs (R209). -/
def State.gainOf (s : State) (n : Nat) : Nat :=
  if s.rd (R.PWS_CFG_ROLE n) = 2 && s.on (R.PWS_STATUS_SWITCHING (n - 1)) then n - 1 else n

/-- The fade of a channel's program now: in after a start, out in a stop (R200). -/
def State.fadeNow (s : State) (n : Nat) : Nat :=
  let x := s.psSt n
  if s.psState n = stStopping then
    let len := haltFadeLen x
    if len = 0 then 0 else x.haltFade * (len - min len (s.tm.raw - x.haltAt)) / len
  else psFade x s.tm.raw

/-- The signal of a channel at modulator sample `q`: the program under its fade and restart gain, over 3,072 × 131,072, and the pilot. -/
def State.signalAt (s : State) (n : Nat) (q : Int) : Int :=
  let g := s.gainOf n
  let rg := if s.psState g = stRestart then restartGain (s.psSt g) s.tm.raw else 131072
  s.programAt n q * s.fadeNow n * rg + s.pilotAt n q * (3072 * 131072)

/-- The commanded voltage of a signal (R195) over `frac`: mV × 256, as a fraction. -/
def State.commanded (s : State) (n : Nat) (x : Int) (frac : Nat) : Int × Nat :=
  (x * (s.psSt n).sag * (s.rdLive (R.PWS_VFS_VFS n) * 10 * 256), frac * 8388608 * 1073741824 * 3072 * 131072)

/-- The on-time of a leg in 1.25 ns, and its new errors (R196): `ideal` in units of 2^−32 of 1.25 ns. -/
def legOn (ideal : Int) (err : Int × Int) : Nat × (Int × Int) :=
  let want := ideal + 2 * err.1 - err.2
  let q := rheDiv want 4294967296
  (q.toNat, (want - q * 4294967296, err.1))

/-- The gate commands of a leg over a period with its high switch's interval of `on` centred (R196): each turn-on edge waits the dead time `dt` after the
other switch's turn-off. A pulse shorter than dead time + 10 ns, DT + 8 units, is not emitted, and the leg holds its state (R194). -/
def Leg.place (x : Leg) (on period dt : Nat) : Leg :=
  if on < dt + 8 || period < on + dt + 8 then
    (match x.last with
      | some true => ⟨[(0, period)], [], some true⟩
      | some false => ⟨[], [(0, period)], some false⟩
      | none => legLow)
  else
    let a := (period - on) / 2
    let b := a + on
    let from0 := if x.last = some true then dt else 0
    ⟨[(a + dt, b)], [(from0, a), (b + dt, period)], some false⟩

/-- DT of a channel: below 4 acts as 4, above 64 as 64. -/
def State.deadTime (s : State) (n : Nat) : Nat := clampN 4 64 (s.rd (R.PWS_TIME_DT n))

/-- Both legs of a channel take their ideal on-times, in 2^−32 of 1.25 ns. -/
def State.driveLegs (s : State) (n : Nat) (idealA idealB : Int) : State :=
  let x := s.psSt n
  let period := rheDivNat 800000000 (300000 + 250 * s.rd (R.PWS_STATUS_F_NOW n))
  let (a, ea) := legOn idealA x.errA
  let (b, eb) := legOn idealB x.errB
  s.setPs n { x with errA := ea, errB := eb, legA := x.legA.place a period (s.deadTime n), legB := x.legB.place b period (s.deadTime n) }

/-- The edges of a period with modulation index num / den (R195, R196). -/
def State.placeEdges (s : State) (n : Nat) (num : Int) (den : Nat) : State :=
  let f := 300000 + 250 * s.rd (R.PWS_STATUS_F_NOW n)
  let clips : Bool := decide (96 * (den : Int) < 100 * num.natAbs) || (den = 0 && num ≠ 0)
  let (mn, md) : Int × Nat := if clips then (if num < 0 then -24 else 24, 25) else if den = 0 then (0, 1) else (num, den)
  let ideal (sg : Int) : Int := rheDiv (400000000 * 4294967296 * ((md : Int) + sg * mn)) (f * md)
  let s := s.driveLegs n (ideal 1) (ideal (-1))
  s.when clips (fun s => ((s.flag (R.PWS_FAULT_CLIP n)).bump (R.PWS_CNT_CLIP_VALUE n)).showFaults)

/-- Vbus of a conversion in mV × 256 (R367). -/
def State.vbusOf (s : State) (code : BitVec 14) : Nat := (code.toInt * s.rd R.SUP_BUS_CAL_VALUE).toNat

/-- Both legs at one duty (R200): 50 %, or `e` of the ramp's length. -/
def State.dutyEdges (s : State) (n : Nat) (half : Bool) (e : Nat) : State :=
  let f := 300000 + 250 * s.rd (R.PWS_STATUS_F_NOW n)
  let d : Int := if half then rheDiv (400000000 * 4294967296) f else rheDiv (400000000 * 4294967296 * (min e (s.dutyLen n) : Nat)) (f * s.dutyLen n)
  s.driveLegs n d d

/-- The program's modulation of a period whose centre lies at a modulator position (R195, R199). -/
def State.modulate (s : State) (n vbus : Nat) (q : Int) (fr : Nat) : State :=
  let x := s.psSt n
  let g := s.gainOf n
  let cnt := if x.lastQ = 0 then 1 else min 1024 (q.toNat - x.lastQ)
  let (gain, l) := if g ≠ n then ((s.psSt g).sag, x.limited || (s.psSt g).sag < 1073741824) else s.sagRun n vbus cnt (q - cnt + 1) x.sag x.limited
  let s := s.setPs n { x with sag := gain, limited := l, lastQ := q.toNat }
  let v := s.signalAt n q * ((125000 * 4294967296 : Int) - fr) + s.signalAt n (q + 1) * fr
  let (num, den) := s.commanded n v (125000 * 4294967296)
  let s := if s.rd (R.PWS_CFG_ROLE n) ≠ 1 then s
    else
      let y := s.psSt n
      s.setPs n { y with volts := (s.tm.raw, rheDiv num den) :: y.volts.filter (fun p => s.tm.raw < p.1 + ms 5) }
  s.placeEdges n num (den * vbus)

/-- The gate commands of a period (R195, R200, R203) whose start is `began`: a start's ramp, the first period of a HALF_DUTY start, a stop's ramp or last period, the program. -/
def State.periodEdges (s : State) (n vbus began : Nat) : State :=
  let x := s.psSt n
  let centre := began + s.periodOf n / 2
  let (q, fr) := s.modPos (s.tm.corrected (centre / 4294967296)) (centre % 4294967296)
  if s.psState n = stStarting then s.dutyEdges n x.half (s.tm.raw - x.startAt)
  else if x.fresh then s.dutyEdges n true 0
  else if s.psState n = stStopping && decide (x.haltAt + haltFadeLen x ≤ s.tm.raw) then
    s.dutyEdges n x.half (x.haltRamp - (s.tm.raw - (x.haltAt + haltFadeLen x)))
  else s.modulate n vbus q fr

/-- The start of the period that begins, in 2^−32 of RAW: on the last period's end; a B-end's on its A-end's period (R198, R209). `none` while a period is in progress. -/
def State.periodStart (s : State) (n : Nat) : Option Nat :=
  let x := s.psSt n
  let now := s.tm.raw * 4294967296
  if s.rd (R.PWS_CFG_ROLE n) = 2 && s.on (R.PWS_STATUS_SWITCHING (n - 1)) then
    let b := (s.psSt (n - 1)).began
    if b ≤ x.began then none else some b
  else match x.next with
    | none => some now
    | some e => if now + 4294967295 < e then none else if e + s.periodOf n ≤ now then some now else some e

/-- SWITCHING_PERIOD (R196): a period begins with the newest bus conversion `bus` and the level of PSn_OC_N (`oc`: low). -/
def execSwitchingPeriod (ch : Fin 24) (bus : BitVec 14) (oc : Bool) (t : Nat) (s : State) : Host.Outcome State Fault Refusal :=
  if s.gated 10 then .next (s.atRaw t) else
  let s := s.atRaw t
  let n := ch.val
  if !s.on (R.PWS_STATUS_SWITCHING n) then .next s
  else match s.periodStart n with
    | none => .next s
    | some b =>
      let x := s.psSt n
      let s := (s.wr (R.PWS_STATUS_TRIP n) (b2n x.tripped)).setPs n
        { x with tripped := false, consec := if x.tripped then x.consec else 0, began := b, next := some (b + s.periodOf n) }
      let s := if oc then s.tripOf n else s.periodEdges n (s.vbusOf bus) b
      .next (s.setPs n { s.psSt n with fresh := (s.psSt n).fresh && s.psState n = stStarting })

/-! ### Configuration at its boundary (R207, R213) -/

/-- A B-end is armed (R207): it stands by, at once or after its stop. -/
def State.armBend (s : State) (n : Nat) : State :=
  let s := s.setPs n { s.psSt n with disarmed := false }
  if s.on (R.PWS_STATUS_SWITCHING n) then s.psStop n true else s.psIdle n

/-- PWS_CFG of a channel applies: a disabled channel stops; an armed B-end stands by; the B-end of a dissolved pair stops under HALF_DUTY (R207). -/
def State.psConfig (s : State) (n w : Nat) : State :=
  let was := s.rd (R.PWS_CFG_ROLE n) = 2 && s.on (R.PWS_CFG_EN n)
  let half := s.ownHalf n
  let s := s.wr (R.PWS_CFG_w n) w
  if !s.on (R.PWS_CFG_EN n) then s.psStop n half
  else if s.rd (R.PWS_CFG_ROLE n) = 2 then (if was then s else s.armBend n)
  else if was then (s.setPs n { s.psSt n with disarmed := false }).psStop n true
  else if s.standsBy then s.psIdle n
  else s.setPs n { s.psSt n with disarmed := false }

/-- PS_ENABLE of a channel applies (R200, R207): a B-end is armed or disarmed and never switches; a start of a channel that is not off changes nothing. -/
def State.psRun (s : State) (n : Nat) (start : Bool) : State :=
  if s.rd (R.PWS_CFG_ROLE n) = 2 then
    (if start then
      (let s := s.setPs n { s.psSt n with disarmed := false }
       if s.psState n = stOff then s.psIdle n else s)
     else (s.setPs n { s.psSt n with disarmed := true }).psStop n true)
  else if start then
    (if s.psState n = stOff || s.psState n = stStopping then s.psStartOwn n else s)
  else (s.setPs n { s.psSt n with shed := false }).psStop n (s.ownHalf n)

/-- The channels that a unit starts on its own under HALF_DUTY (R201); an armed B-end stands by (R207). -/
def State.startAll (s : State) (mirror : Bool) (which : State → Nat → Bool) : State :=
  (List.range 24).foldl (fun s n =>
    if !s.on (R.PWS_CFG_EN n) || !which s n then s
    else if s.rd (R.PWS_CFG_ROLE n) = 2 then s.psIdle n
    else s.psStart n true mirror) s

/-- Every channel that switches stops in its own mode. -/
def State.stopAll (s : State) : State :=
  (List.range 24).foldl (fun s n => if s.on (R.PWS_STATUS_SWITCHING n) then s.psStop n (s.ownHalf n) else s) s

/-- LIMITING shows the last block (R199). -/
def State.showLimiting (s : State) : State :=
  s.ps.keys.foldl (fun s n => (s.wr (R.PWS_STATUS_LIMITING n) (b2n (s.psSt n).limited)).setPs n { s.psSt n with limited := false }) s

end Sys2Proof.Machine
end

