-- ==== Sys2Proof/Machine/Tally.lean ====
section
/-! DEFINITION. The in-service test system Tally (11_tally.md R214–R231). -/

namespace Sys2Proof.Machine

open Sys2Proof

/-- May a test start: Tally enabled, not suspended (R216)? -/
def State.tallyOn (s : State) : Bool := s.fwRuns && s.on R.TLY_CTRL_ENABLE && !s.on R.TLY_CTRL_SUSPEND

/-- Was a test asked for by TALLY_RUN_NOW, and is it still to run? -/
def State.asked (s : State) (test : Nat) : Bool := s.tly.asked.any (fun p => p.1 = test)

/-- A test that was asked for has run. -/
def State.answered (s : State) (test : Nat) : State :=
  { s with tly := { s.tly with asked := s.tly.asked.filter (fun (p : Nat × Nat) => p.1 ≠ test) } }

/-- The second of the day (R214): PTP seconds of C plus the offset in minutes. -/
def State.daySecond (s : State) : Nat :=
  (((s.now / 500000000 : Nat) : Int) + 60 * s.rdI R.TLY_WIN_OFS_VALUE).emod 86400 |>.toNat

/-- Is an instant inside the test window of the day (R214)? -/
def State.inWindow (s : State) : Bool :=
  let w0 := min 86399 (s.rd R.TLY_WIN_START)
  let len := 60 * clampN 1 1440 (s.rd R.TLY_WIN_LEN)
  decide ((s.daySecond + 86400 - w0) % 86400 < len)

/-- The channels of the nightly test, ascending, without B-ends (R218). -/
def State.lineList (s : State) : List Nat :=
  (List.range 24).filter (fun n => bitOf (s.rd R.TLY_LINE_SEL_VALUE) n && s.rd (R.PWS_CFG_ROLE n) ≠ 2)

/-- TEST_WINDOW_OPEN (R214): an instant of the window has come, on the day that PTP gives. Only with line tests enabled has it something to test, and a
standby runs none (R217). -/
def execTestWindowOpen (t : Nat) (s : State) : Host.Outcome State Fault Refusal :=
  if s.gated 19 then .next (s.atRaw t) else
  let s := s.atRaw t
  .next (if s.locked && s.inWindow && !s.on R.TLY_STATUS_IN_WINDOW then
    { s.flag R.TLY_STATUS_IN_WINDOW with tly := { s.tly with todo := if s.tallyOn && s.on R.TLY_CTRL_LINE_EN && !s.standsBy then s.lineList else [], retries := [] } }
    else s)

/-- TEST_WINDOW_CLOSE (R214, R220): W0 + LEN has come; a channel not tested is logged with its last result; a test that runs ends with the window. -/
def execTestWindowClose (t : Nat) (s : State) : Host.Outcome State Fault Refusal :=
  if s.gated 19 then .next (s.atRaw t) else
  let s := s.atRaw t
  if !s.on R.TLY_STATUS_IN_WINDOW || s.inWindow then .next s
  else
    let s := s.wr R.TLY_STATUS_IN_WINDOW 0
    let s := match s.tly.line with
      | some l => if l.once || l.ended.isSome then s else (s.lineEnd l rAborted).bump R.TLY_CNT_ABORT_VALUE
      | none => s
    let left := dedup (s.tly.todo ++ s.tly.retries.map Prod.fst)
    let s := left.foldl (fun s n => s.tallyLog tLine (s.rd (R.TLY_RES_RESULT n)) n (s.rd (R.TLY_RES_Z n))) s
    .next { s with tly := { s.tly with todo := [], retries := [] } }

/-- Is a channel skipped (R218): stopped by a fault, fault flags set, or not enabled? -/
def State.lineSkips (s : State) (n : Nat) : Bool :=
  !s.on (R.PWS_CFG_EN n) || s.word (R.PWS_FAULT_w n) ≠ 0 || [4, 5, 6, 7, 9].contains (s.psState n)

/-- A slot of 4.20 s begins for channel `n` (R218): it is skipped, or its pilot ramps up; a channel that is OFF starts under HALF_DUTY with no
program. -/
def State.lineSlot (s : State) (n : Nat) (once : Bool) : State :=
  if s.lineSkips n then (s.lineResult n rSkipped).tallyLog tLine rSkipped n 0
  else
    let off := s.psState n = stOff
    let s := if off then s.psStart n true false else s
    let s := s.setPs n { s.psSt n with pilot := some (s.tm.raw, none), forTest := off }
    let s := { s with tly := { s.tly with line := some ⟨n, s.tm.raw, false, none, once⟩
                                          slotFree := s.tm.raw + ms 4200
                                          power := s.tly.power.set [] n [] } }
    (s.flag R.TLY_STATUS_LINE_BUSY).wr R.TLY_STATUS_CHANNEL n

/-- Does a line test or a capture run? -/
def State.lineBusy (s : State) : Bool := s.tly.line.isSome || s.tly.capture.isSome

/-- LINE_TEST_SLOT (R218): channels asked for by TALLY_RUN_NOW first, then the window's in ascending order. -/
def execLineTestSlot (t : Nat) (s : State) : Host.Outcome State Fault Refusal :=
  if s.gated 19 then .next (s.atRaw t) else
  let s := s.atRaw t
  if !s.tallyOn || s.lineBusy || s.standsBy || decide (s.tm.raw < s.tly.slotFree) then .next s
  else match s.tly.onceTodo with
    | n :: ns => .next ({ s with tly := { s.tly with onceTodo := ns } }.lineSlot n true)
    | [] =>
      if !s.on R.TLY_STATUS_IN_WINDOW then .next s
      else match s.tly.todo with
        | n :: ns => .next ({ s with tly := { s.tly with todo := ns } }.lineSlot n false)
        | [] => .next s

/-- A retry that is due leaves the list, and is tested now or when the running slot ends (R220). -/
def State.lineRetry (s : State) : State :=
  match s.tly.retries.find? (fun r => r.2 ≤ s.tm.raw) with
  | none => s
  | some r =>
    if !s.tallyOn || !s.on R.TLY_STATUS_IN_WINDOW then s
    else
      let s := { s with tly := { s.tly with retries := s.tly.retries.filter (fun x => x.1 ≠ r.1) } }
      if s.lineBusy || decide (s.tm.raw < s.tly.slotFree) then { s with tly := { s.tly with todo := insertBy (· < ·) r.1 s.tly.todo } } else s.lineSlot r.1 false

/-- LINE_TEST_RETRY (R220). -/
def execLineTestRetry (t : Nat) (s : State) : Host.Outcome State Fault Refusal :=
  .next (if s.gated 19 then s.atRaw t else (s.atRaw t).lineRetry)

/-- CORRELATION_START (R218): 110 ms into the slot. -/
def execCorrelationStart (t : Nat) (s : State) : Host.Outcome State Fault Refusal :=
  if s.gated 19 then .next (s.atRaw t) else
  let s := s.atRaw t
  .next (match s.tly.line with
    | some l => if l.slotAt + ms 110 ≤ s.tm.raw && l.ended.isNone then
        { s with tly := { s.tly with line := some { l with corr := true } } } else s
    | none => s)

/-- The far-end ratio of an A-end in per cent (R221), as the square of a fraction: the pilot sum of the B-end's codes over that of its own. -/
def State.farFraction (s : State) (n : Nat) (m : SenseSum) (re im : Int) : Nat × Nat :=
  ((re * re + im * im).toNat * (100 * s.rd (R.PWS_CAL_V_CAL (n + 1))) ^ 2, (m.vRe * m.vRe + m.vIm * m.vIm).toNat * s.rd (R.PWS_CAL_V_CAL n) ^ 2)

/-- r in per cent, saturating at 255. -/
def ratioPercent (p : Nat × Nat) : Nat := if p.2 = 0 then 255 else min 255 ((isqrt (4 * p.1 / p.2) + 1) / 2)

/-- The result of a line test (R219, R221) from the measured |Z| and, for an A-end, far-end ratio. -/
def State.lineJudge (s : State) (n : Nat) (z far : Nat × Nat) : Nat :=
  let b := s.rd (R.TLY_BASE_Z n)
  let lo := clampN 1 99 (s.rd R.TLY_LINE_CFG_TOL_LO)
  let hi := max 1 (s.rd R.TLY_LINE_CFG_TOL_HI)
  if !s.on (R.TLY_BASE_VALID n) then rNoBaseline
  else if 10000 * z.1 < z.2 * (b * (100 - lo)) ^ 2 then rLow
  else if z.2 * (b * (100 + hi)) ^ 2 < 10000 * z.1 then rHigh
  else if s.rd (R.PWS_CFG_ROLE n) = 1 && far.1 < far.2 * s.rd R.TLY_LINE_CFG_FAR_MIN ^ 2 then rFarLow
  else rPass

/-- arg Z of sums in 0.1°: the argument of V × conj I. -/
def argZ (m : SenseSum) : BitVec 12 := Config.argOf (m.vRe * m.iRe + m.vIm * m.iIm) (m.vIm * m.iRe - m.vRe * m.iIm)

/-- CORRELATION_END (R219): 4,110 ms into the slot, with the channel's sums at 25 kHz and those of its B-end's voltage. -/
def execCorrelationEnd (sums : SenseSum) (farRe : Int) (farIm : Int) (t : Nat) (s : State) : Host.Outcome State Fault Refusal :=
  if s.gated 19 then .next (s.atRaw t) else
  let s := s.atRaw t
  match s.tly.line with
  | none => .next s
  | some l =>
    if !l.corr || l.ended.isSome || decide (s.tm.raw < l.slotAt + ms 4110) then .next s
    else
      let n := l.ch
      let z := s.zSensed n sums
      let far := s.farFraction n sums farRe farIm
      let r := if s.rd (R.PWS_CFG_ROLE n) = 1 then ratioPercent far else 0
      let res := s.lineJudge n (s.zFraction n sums) far
      let s := (((s.lineResult n res).wr (R.TLY_RES_PHASE n) (argZ sums).toNat).wr (R.TLY_RES_Z n) z).tallyLog tLine res n (z + r * 65536)
      let bad := res = rLow || res = rHigh
      let s := if bad || res = rPass then
          s.wr R.TLY_LINE_FAULT_VALUE (setBits (s.rd R.TLY_LINE_FAULT_VALUE) n n (b2n bad)) else s
      let s := s.when (bad || res = rFarLow) (fun s =>
        (s.bump R.TLY_CNT_LINE_FAIL_VALUE).evLine n res r z (unsignedOf 16 (argZ sums).toInt))
      let x := s.psSt n
      let s := s.setPs n { x with pilot := x.pilot.map (fun p => (p.1, some s.tm.raw)) }
      .next { s with tly := { s.tly with line := some { l with ended := some s.tm.raw } } }

/-- A channel's pilot is gone; one started for the test stops under HALF_DUTY (R218). -/
def State.pilotGone (s : State) (n : Nat) : State :=
  let x := s.psSt n
  let s := s.setPs n { x with pilot := none }
  if x.forTest && s.on (R.PWS_STATUS_SWITCHING n) then s.psStop n true else s.setPs n { s.psSt n with forTest := false }

/-- PILOT_REMOVED (R218): 10 ms after the end of a test or a capture. -/
def execPilotRemoved (t : Nat) (s : State) : Host.Outcome State Fault Refusal :=
  if s.gated 19 then .next (s.atRaw t) else
  let s := s.atRaw t
  let past (e : Option Nat) : Bool := match e with | some r => decide (r + ms 10 ≤ s.tm.raw) | none => false
  .next (match s.tly.line, s.tly.capture with
    | some l, _ =>
      if !past l.ended then s
      else ({ s with tly := { s.tly with line := none } }.wr R.TLY_STATUS_LINE_BUSY 0).pilotGone l.ch
    | none, some c =>
      if !past c.ended then s
      else c.chs.foldl State.pilotGone ({ s with tly := { s.tly with capture := none } }.wr R.TLY_STATUS_LINE_BUSY 0)
    | none, none => s)

/-- The channels whose program is watched now: in the correlation of a line test or of a capture (R220, R222). -/
def State.watched (s : State) : List Nat :=
  (match s.tly.line with | some l => if l.corr && l.ended.isNone then [l.ch] else [] | none => []) ++
    (match s.tly.capture with
      | some c => if c.ended.isNone && c.startAt + ms 110 ≤ s.tm.raw then c.chs else []
      | none => [])

/-- Block `n` has been released: the power of the outputs of channels under test is kept for 100 ms (R220) (DEDUCED, log entry 110). -/
def State.tallyPower (s : State) (n : Nat) : State :=
  s.watched.foldl (fun s ch =>
    match s.carries ch with
    | none => s
    | some o =>
      let p := ((s.releasedBlock o n).map (fun (x : Int) => (x * x).toNat)).sum
      { s with tly := { s.tly with power := s.tly.power.set [] ch ((p :: s.tly.power.get [] ch).take (s.fs / 320)) } }) s

/-- Did a channel's released output exceed −PROG_MAX dBFS RMS over the last 100 ms? -/
def State.tooLoud (s : State) (ch : Nat) : Bool :=
  let ps := s.tly.power.get [] ch
  decide (ps.length = s.fs / 320) && decide ((s.fs / 10) * gainLin (-50 * (s.rd R.TLY_LINE_CFG_PROG_MAX : Int)) ^ 2 < ps.sum)

/-- PROGRAM_LIMIT_EXCEEDED (R220, R222). -/
def execProgramLimitExceeded (ch : Fin 24) (t : Nat) (s : State) : Host.Outcome State Fault Refusal :=
  if s.gated 19 then .next (s.atRaw t) else
  let s := s.atRaw t
  if !s.watched.contains ch.val || !s.tooLoud ch.val then .next s
  else match s.tly.line, s.tly.capture with
    | some l, _ => .next ((s.lineEnd l rDeferred).bump R.TLY_CNT_DEFER_VALUE)
    | none, some c => .next (if c.deferred.contains ch.val then s
        else { s with tly := { s.tly with capture := some { c with deferred := c.deferred ++ [ch.val] } } })
    | none, none => .next s

/-- The RESULT, |Z| and arg Z of one channel of a capture in its final reply. -/
def State.captureEntry (s : State) (c : Capture) (meas : List LineMeas) (n : Nat) : List Byte :=
  match (if c.deferred.contains n then none else meas.find? (fun m => m.ch.val = n)) with
  | some m => leBytes 1 n ++ leBytes 1 rPass ++ leBytes 2 0 ++ leBytes 2 (s.zSensed n m.sums) ++ leBytes 2 (unsignedOf 16 (argZ m.sums).toInt)
  | none => leBytes 1 n ++ leBytes 1 rDeferred ++ leBytes 6 0

/-- One measured channel of a capture takes its baseline (R222). -/
def State.takeBaseline (s : State) (n z : Nat) (arg : BitVec 12) : State :=
  ((s.wr (R.TLY_BASE_VALID n) 1).wr (R.TLY_BASE_PHASE n) arg.toNat).wr (R.TLY_BASE_Z n) z

/-- The pilots of a capture ramp out (R218, R222). -/
def State.captureStop (s : State) (c : Capture) : State :=
  let s := { s with tly := { s.tly with capture := some { c with ended := some s.tm.raw } } }
  c.chs.foldl (fun s n => s.setPs n { s.psSt n with pilot := (s.psSt n).pilot.map (fun p => (p.1, some s.tm.raw)) }) s

/-- BASELINE_CAPTURE_END (R222): 24 s of correlation after 110 ms. -/
def execBaselineCaptureEnd (meas : List LineMeas) (t : Nat) (s : State) : Host.Outcome State Fault Refusal :=
  if s.gated 19 then .next (s.atRaw t) else
  let s := s.atRaw t
  match s.tly.capture with
  | none => .next s
  | some c =>
    if c.ended.isSome || decide (s.tm.raw < c.startAt + ms 24110) then .next s
    else
      let reply := (c.chs.map (s.captureEntry c meas)).flatten
      let ok (n : Nat) : Option LineMeas := if c.deferred.contains n then none else meas.find? (fun m => m.ch.val = n)
      let s := c.chs.foldl (fun s n => match ok n with
        | some m => (s.takeBaseline n (s.zSensed n m.sums) (argZ m.sums)).tallyLog tBaseline rPass n 0
        | none => s.tallyLog tBaseline rDeferred n 0) s
      .next (((s.captureStop c).queueBulk bulkBase).endLong c.port .ok reply)

/-- BASELINE_CAPTURE begins: the channels run the pilot together (R222). -/
def State.captureStart (s : State) (chs : List Nat) (port : Nat) : State :=
  let s := chs.foldl (fun s n =>
    let off := s.psState n = stOff
    let s := if off then s.psStart n true false else s
    let s := s.setPs n { s.psSt n with pilot := some (s.tm.raw, none), forTest := off }
    { s with tly := { s.tly with power := s.tly.power.set [] n [] } }) s
  { s with tly := { s.tly with capture := some ⟨chs, [], port, s.tm.raw, none⟩ } }.flag R.TLY_STATUS_LINE_BUSY

/-! ### Drover self-test (R225) -/

/-- The cores in service: those that run. -/
def State.inService (s : State) (c : Nat) : Bool := s.on (R.DRV_CTRL_RUN c) && s.coreState c ≠ 4 && s.coreState c ≠ 5

/-- The first core in service at or after a number, around the end. -/
def State.nextCore (s : State) (c : Nat) : Option Nat :=
  ((List.range 32).map (fun i => (c + i) % 32)).find? s.inService

/-- The self-test of a core begins: ROT is cleared. -/
def State.selfStart (s : State) (c : Nat) : State :=
  let s := s.setRot c false
  { s with tly := { s.tly with self := some ⟨c, none⟩, selfAt := s.tm.raw } }.wr R.TLY_DRV_NEXT ((s.nextCore ((c + 1) % 32)).getD c)

/-- A self-test that was asked for starts: it leaves the list of what is asked. -/
def State.selfAsked (s : State) (c : Nat) : State :=
  let s := { s with tly := { s.tly with asked := s.tly.asked.erase (tSelf, c) } }
  if s.inService c then s.selfStart c else s

/-- SELF_TEST_START (R225 step 1): a core asked for first, else the next one once INTERVAL has passed. -/
def execSelfTestStart (t : Nat) (s : State) : Host.Outcome State Fault Refusal :=
  if s.gated 19 then .next (s.atRaw t) else
  let s := s.atRaw t
  .next (if s.tallyOn && !s.on R.TLY_DRV_FAIL && s.tly.self.isNone then
    (match s.tly.asked.find? (fun p => p.1 = tSelf) with
      | some p => s.selfAsked p.2
      | none =>
        if !s.on R.TLY_CTRL_DRV_EN || decide (s.tm.raw < s.tly.selfAt + ms (1000 * max 1 (s.rd R.TLY_DRV_INTERVAL))) then s
        else match s.nextCore (s.rd R.TLY_DRV_NEXT) with
          | some c => s.selfStart c
          | none => s)
    else s)

/-- SELF_TEST_HALT (R225 steps 2 and 3): the core idles in TAKE; it halts, its PC and breakpoint are set, it resumes. -/
def execSelfTestHalt (t : Nat) (s : State) : Host.Outcome State Fault Refusal :=
  if s.gated 19 then .next (s.atRaw t) else
  let s := s.atRaw t
  .next (match s.tly.self with
    | some x =>
      if x.runAt.isNone && (s.core x.core).waiting = some .take then
        let s := s.haltNow x.core
        let s := s.setCore x.core { s.core x.core with pc := Config.selfTestEntry.toNat, delay := none, waiting := none }
        let s := (s.wr (R.DRV_BKPT_EN x.core 0) 1).wr (R.DRV_BKPT_ADDR x.core 0) Config.selfTestLast.toNat
        { s.resume x.core with tly := { s.tly with self := some { x with runAt := some s.tm.raw } } }
      else s
    | none => s)

/-- The end of a self-test: passed cores are reset and return to rotation; a failed one stays halted, and rotation is held (DEDUCED, log entry 84). -/
def State.selfEnd (s : State) (c result value : Nat) : State :=
  let s := { s with tly := { s.tly with self := none } }.tallyLog tSelf result c value
  let s := s.wr (R.DRV_BKPT_EN c 0) 0
  if result = rPass || result = rAborted then (s.resetCore c).setRot c true
  else ((((s.haltNow c).flag R.TLY_DRV_FAIL).wr R.TLY_DRV_FAILED c).bump R.TLY_CNT_DRV_FAIL_VALUE)

/-- SELF_TEST_BREAKPOINT (R225 steps 3 to 5): the core has halted at the last bundle; the signature is read and judged. -/
def execSelfTestBreakpoint (t : Nat) (s : State) : Host.Outcome State Fault Refusal :=
  if s.gated 19 then .next (s.atRaw t) else
  let s := s.atRaw t
  .next (match s.tly.self with
    | some x =>
      match x.runAt with
      | some r =>
        if s.coreState x.core ≠ 3 || (s.core x.core).pc ≠ Config.selfTestLast.toNat then s else
        let sig := s.load (0x30000000 + x.core * 0x40000 + Config.selfTestWord.toNat * 4) 4
        let s := s.wr R.TLY_DRV_SIG_VALUE sig
        s.selfEnd x.core (if r + ms 50 < s.tm.raw then rTimeout else if sig = Config.selfTestSig.toNat then rPass else rFail) sig
      | none => s
    | none => s)

/-- SELF_TEST_TIMEOUT (R225 step 5). -/
def execSelfTestTimeout (t : Nat) (s : State) : Host.Outcome State Fault Refusal :=
  if s.gated 19 then .next (s.atRaw t) else
  let s := s.atRaw t
  .next (match s.tly.self with
    | some x =>
      match x.runAt with
      | some r => if r + ms 50 ≤ s.tm.raw then s.selfEnd x.core rTimeout 0 else s
      | none => s
    | none => s)

/-! ### Scrubs, Fold and sense (R224, R226, R227) -/

/-- Is a tile stored for a block of its slot good: check value, and the SEQ of the last block or of one ring length before
(R224)? `first` and `newest` are the first and last block landed; a slot without one is skipped. -/
def tileScrubs (t : Tile) (slot len : Nat) (first newest : Option Nat) : Bool :=
  match first, newest with
  | some f, some n =>
    let b := n - (n + len - slot) % len
    if b < f then true else t.crcOk && (t.seq = b % 65536 || t.seq = (b + 65536 - len) % 65536)
  | _, _ => true

/-- A record that the DRAM scrub checks (R224), by its number in the order of a pass (DESIGN CHOICE, log entry 111): long-ring tiles, tiles of delay rings,
spectral records, library messages. -/
def scrubLong : Nat := 0
def scrubDelay : Nat := 2 ^ 23
def scrubSpec : Nat := 2 ^ 24
def scrubMsg : Nat := 2 ^ 25

/-- Was a slot of a ring of `len` tiles written (R416)? -/
def slotWritten (slot len : Nat) (first newest : Option Nat) : Bool :=
  match first, newest with
  | some f, some n => decide (f ≤ n - (n + len - slot) % len)
  | _, _ => false

/-- The records there are to check. -/
def State.scrubList (s : State) : List Nat :=
  ((s.hst.longTiles.keys.filter (fun i => slotWritten (i % 4104) 4104 (s.ring (i / 4104)).longFirst ((s.ring (i / 4104)).last.map Prod.fst))).map (scrubLong + ·)) ++
    ((s.mix.odly.keys.filter (fun i => slotWritten (i % 2056) 2056 (s.firstOf (.odly (i / 2056))) s.hst.rendering)).map (scrubDelay + ·)) ++
    (s.mix.specs.keys.map (scrubSpec + ·)) ++ ((s.msgs.keys.filter s.msgValid).map (scrubMsg + ·))

/-- Does a spectral record pass (R78, R224): its CRC and fields, and SEQ of the frame or generation its place holds, or the one before? -/
def State.specScrubs (s : State) (key : Nat) (r : SpecRec) : Bool :=
  let i := key % 12
  let kind := key / 12 % 4
  let tail := kind % 2 = 1
  let set := key / 48 % 2
  let o := key / 96
  if kind < 2 then
    let gen := s.rd (R.MIX_OUT_FIR_FIR_GEN o)
    if set = s.rd (R.MIX_OUT_FIR_FIR_SET o) then r.ok tail true i o gen
    else r.ok tail true i o (gen + 1) || r.ok tail true i o (gen + 65535)
  else
    let last := (s.hst.rendering.getD 0 + 1) / frameLen tail - 1
    let f := last - (last + 12 - i) % 12
    r.ok tail false 0 o f || r.ok tail false 0 o (f + 65536 - 12)

/-- Does a record pass the scrub? -/
def State.scrubOk (s : State) (id : Nat) : Bool :=
  if id < scrubDelay then
    tileScrubs (s.hst.longTiles.get tileZero id) (id % 4104) 4104 (s.ring (id / 4104)).longFirst ((s.ring (id / 4104)).last.map Prod.fst)
  else if id < scrubSpec then
    let i := id - scrubDelay
    tileScrubs (s.mix.odly.get tileZero i) (i % 2056) 2056 (s.firstOf (.odly (i / 2056))) s.hst.rendering
  else if id < scrubMsg then
    (match s.specAt (id - scrubSpec) with | some r => s.specScrubs (id - scrubSpec) r | none => true)
  else match s.msg (id - scrubMsg) with
    | some x => (crc32 x.data).toNat = x.crc
    | none => true

/-- One record of a slice. -/
def State.scrubItem (s : State) (id : Nat) : State :=
  let s := { s with tly := { s.tly with dramCur := id + 1 } }.wr R.TLY_DRAM_PTR_VALUE (s.rd R.TLY_DRAM_PTR_VALUE + 1)
  if s.scrubOk id then s
  else if scrubMsg ≤ id then s.tallyLog tMessage rFail (id - scrubMsg) 0
  else { s with tly := { s.tly with dramFails := s.tly.dramFails + 1 } }.bump R.TLY_CNT_DRAM_FAIL_VALUE

/-- A DRAM pass ends with a result and the next begins. -/
def State.dramPass (s : State) (result : Nat) : State :=
  let s := s.tallyLog tDram result 0 s.tly.dramFails
  ({ s with tly := { s.tly with dramFails := 0, dramAt := s.tm.raw, dramCur := 0 } }.answered tDram).wr R.TLY_DRAM_PTR_VALUE 0

/-- The lowest idle queue in use, to which Tally posts (R215) (DEDUCED, log entry 112). -/
def State.idleQueue (s : State) : Option Nat :=
  (List.range 64).find? (fun q => s.on (R.OST_QCFG_EN q) && s.on (R.OST_QCFG_IDLE q))

/-- The descriptor of a slice. -/
def sliceDesc (q : Nat) : Desc :=
  { descOf (Config.sliceWord 0).toNat (Config.sliceWord 1).toNat (Config.sliceWord 2).toNat (Config.sliceWord 3).toNat with queue := q }

/-- Does the DRAM scrub run: enabled, or asked for? -/
def State.dramWanted (s : State) : Bool := s.on R.TLY_CTRL_DRAM_EN || s.asked tDram

/-- A block boundary: Tally posts the next slice of the DRAM scrub when none is out, as the supervisor posts (R215); a refused post is retried at the next boundary. -/
def State.postSlice (s : State) : State :=
  match s.idleQueue with
  | none => s
  | some q =>
    if s.tly.posted || !s.tallyOn || !s.dramWanted || s.gated 19 || s.gated 2 then s
    else
      let w := (sliceDesc q).words
      let s := ((s.wr (R.OST_POST_WORD 0) (w.getD 0 0)).wr (R.OST_POST_WORD 1) (w.getD 1 0)).wr (R.OST_POST_WORD 2) (w.getD 2 0)
      let s := s.post (w.getD 3 0)
      { s with tly := { s.tly with posted := !s.on R.OST_POST_STATUS_FULL } }

/-- DRAM_SCRUB_SLICE (R215, R224): the slice that was posted runs, once it has been dispatched, and checks `n` records. -/
def execDramScrubSlice (n : Nat) (t : Nat) (s : State) : Host.Outcome State Fault Refusal :=
  if s.gated 19 then .next (s.atRaw t) else
  let s := s.atRaw t
  let waits : Bool := match s.idleQueue with
    | some q => (s.queue q).any (fun d => d.flow = (sliceDesc q).flow && d.arg = (sliceDesc q).arg && d.entry = (sliceDesc q).entry)
    | none => false
  if !s.tly.posted || waits then .next s
  else
    let s := { s with tly := { s.tly with posted := false } }
    let left := s.scrubList.filter (fun i => s.tly.dramCur ≤ i)
    let s := (left.take n).foldl State.scrubItem s
    .next (if left.length ≤ n then s.dramPass (if s.tly.dramFails = 0 then rPass else rFail) else s)

/-- DRAM_SCRUB_TIMEOUT (R224): a pass not complete within 24 h. -/
def execDramScrubTimeout (t : Nat) (s : State) : Host.Outcome State Fault Refusal :=
  if s.gated 19 then .next (s.atRaw t) else
  let s := s.atRaw t
  .next (if s.tallyOn && (s.on R.TLY_CTRL_DRAM_EN || s.asked tDram) && s.tly.dramAt + ms 86400000 ≤ s.tm.raw then s.dramPass rTimeout else s)

/-- FOLD_PATTERN_CHECK (R226): every 10 min, with a mirror partner configured the pattern goes out. -/
def execFoldPatternCheck (t : Nat) (s : State) : Host.Outcome State Fault Refusal :=
  if s.gated 19 then .next (s.atRaw t) else
  let s := s.atRaw t
  let due := s.asked tFold || (s.on R.TLY_CTRL_FOLD_EN && decide (s.tly.foldAt + ms 600000 ≤ s.tm.raw))
  .next (if s.tallyOn && due && s.on R.FLD_CTRL_EN
    then { s.answered tFold with tly := { (s.answered tFold).tly with foldOut := true, foldAt := s.tm.raw } } else s)

/-- FOLD_PATTERN_RESULT (R226). -/
def execFoldPatternResult (errors : BitVec 32) (s : State) : Host.Outcome State Fault Refusal :=
  if s.gated 19 then .next s else
  .next (if s.tly.foldOut then
    let s := { s with tly := { s.tly with foldOut := false } }
    ((s.wr R.TLY_FOLD_VALUE errors.toNat).count R.TLY_CNT_FOLD_ERR_VALUE errors.toNat).tallyLog tFold
      (if errors.toNat = 0 then rPass else rFail) 0 errors.toNat
    else s)

/-- SENSE_REFERENCE_CHECK (R227): once an hour, four samples of a sense channel (48: bus, 49: temperature) from each of the two references. -/
def execSenseReferenceCheck (ch : Fin 50) (plus : Vector (BitVec 14) 4) (minus : Vector (BitVec 14) 4) (t : Nat) (s : State) :
    Host.Outcome State Fault Refusal :=
  if s.gated 11 then .next (s.atRaw t) else
  let s := s.atRaw t
  let want : Bool := s.tly.asked.any (fun p => p.1 = tSense && (p.2 = ch.val || p.2 = 0xFFFF))
  let due : Bool := s.on R.TLY_CTRL_SNS_EN && (match s.tly.sensAt.find? (fun p => p.1 = ch.val) with
    | some p => decide (p.2 + ms 3600000 ≤ s.tm.raw)
    | none => true)
  if !s.tallyOn || !(due || want) then .next s
  else
    let s := if want && (ch.val = 49 || s.tly.asked.contains (tSense, ch.val)) then s.answered tSense else s
    let s := { s with tly := { s.tly with sensAt := s.tly.sensAt.set 0 ch.val s.tm.raw } }
    let tol := s.rd R.TLY_SNS_TOL
    let near (e : Int) (c : BitVec 14) : Bool := decide ((c.toInt - e).natAbs ≤ tol)
    .next (if plus.all (near 6143) && minus.all (near (-6143)) then s
      else
        let s := (s.bump R.TLY_CNT_SNS_FAIL_VALUE).tallyLog tSense rFail ch.val 0
        if ch.val < 32 then s.wr R.TLY_SNS_FAULT_VALUE (setBits (s.rd R.TLY_SNS_FAULT_VALUE) ch.val ch.val 1)
        else s.wr R.TLY_SNS_FAULT2_VALUE (setBits (s.rd R.TLY_SNS_FAULT2_VALUE) (ch.val - 32) (ch.val - 32) 1))

/-! ### Suspension (R216) -/

/-- SUSPEND is set on entering S1. -/
def State.tallySuspend (s : State) : State :=
  let s := s.flag R.TLY_CTRL_SUSPEND
  let s := match s.tly.line with
    | some l => if l.ended.isSome then s else (s.lineEnd l rAborted).bump R.TLY_CNT_ABORT_VALUE
    | none => s
  let s := match s.tly.capture with
    | some c => if c.ended.isSome then s else (((s.captureStop c).tallyLog tBaseline rAborted (c.chs.headD 0) 0).bump R.TLY_CNT_ABORT_VALUE).endLong c.port .shed []
    | none => s
  let s := match s.tly.self with
    | some x => s.selfEnd x.core rAborted 0
    | none => s
  s.wr R.HST_SCRUB_CTRL_ENABLE 0

/-- SUSPEND is cleared on leaving S1: each cadence begins its pass anew; the scrub runs again. -/
def State.tallyResume (s : State) : State :=
  let s := (s.wr R.TLY_CTRL_SUSPEND 0).wr R.TLY_DRAM_PTR_VALUE 0
  let s := { s with tly := { s.tly with dramFails := 0, dramAt := s.tm.raw, dramCur := 0, scrubFails := 0, selfAt := s.tm.raw, foldAt := s.tm.raw, sensAt := [] } }
  if s.on R.TLY_CTRL_ENABLE then (s.wr R.HST_SCRUB_CTRL_ENABLE 1).wr R.HST_SCRUB_PTR_SLOT 0 else s

end Sys2Proof.Machine
end

