-- ==== Sys2Proof/Machine/Time.lean ====
section
/-! DEFINITION. The time unit: servo, holdover, conversion, time-stamp queues, PTP port, 1PPS, scheduled actions
(13_time_and_streams.md R250–R261, 15_commands.md R312). -/

namespace Sys2Proof.Machine

open Sys2Proof

/-- OFS, ANC, RATE and I are shown in their registers (R269). -/
def State.showTime (s : State) : State :=
  let s := (s.wr64 R.TSU_OFS_LO_VALUE R.TSU_OFS_HI_VALUE s.tm.ofs).wr64 R.TSU_ANC_LO_VALUE R.TSU_ANC_HI_VALUE s.tm.anc
  (s.wr R.TSU_RATE_VALUE (unsignedOf 32 s.tm.rate)).wr R.TSU_SERVO_I_VALUE (unsignedOf 32 s.tm.servoI)

/-- A new RATE: OFS and ANC are re-anchored first, so that C is continuous (R251). -/
def State.setRate (s : State) (rate : Int) : State :=
  { s with tm := { s.tm with ofs := s.now, anc := s.tm.raw, rate := rate } }

/-- A step adds a signed value in units of 2 ns to OFS (R251). Blocks that the local media clock paces stay where they are (R261). -/
def State.stepOfs (s : State) (d : Int) : State :=
  { s with tm := { s.tm with ofs := (((s.tm.ofs : Int) + d) % (2 ^ 64 : Nat)).toNat,
                             blockStart := if s.paced then s.tm.blockStart else ((s.tm.blockStart : Int) + d).toNat } }.flag R.TSU_STATUS_STEPPED

/-- RMAX of R257: rhe(RATE_MAX × 2^40 / 10^6), RATE_MAX taken in 1–1,000. -/
def State.rateMax (s : State) : Int := rheDiv (clampN 1 1000 (s.rd R.TSU_SERVO_LIM_RATE_MAX) * 2 ^ 40 : Nat) 1000000

/-- The least block k with t(k) at or after an instant that lies `d3` thirds of a unit of 2 ns past C = c (R261). -/
def State.blockAfter (s : State) (c d3 : Nat) : Nat :=
  let m := ceilDiv (3 * c + d3) 3
  if m ≤ s.linkOfs then 0 else 3 * (m - s.linkOfs - 1) / s.blockLen3 + 1

/-- First lock (R261): block k with t(k) at or after τ + 32 / fs is chosen, FIRST and LOCK are set, and TSU_LINK_OFS is fixed. -/
def State.firstLock (s : State) : State :=
  let k := s.blockAfter s.now s.blockLen3
  { (s.flag R.TSU_STATUS_FIRST).flag R.TSU_CTRL_LOCK with tm := { s.tm with lockBlock := some k } }

/-- The device loses lock: HOLDOVER, counted (R257, R258). -/
def State.loseLock (s : State) : State :=
  (((s.wr R.TSU_STATUS_LOCKED 0).flag R.TSU_STATUS_HOLDOVER).bump R.TSU_CNT_UNLOCK_COUNT).evTime 1 0

/-- Four good offsets in a row: LOCKED (R257). -/
def State.gainLock (s : State) : State :=
  let was := s.on R.TSU_STATUS_LOCKED
  let s := (s.flag R.TSU_STATUS_LOCKED).wr R.TSU_STATUS_HOLDOVER 0
  let s := if s.locked then s else s.firstLock
  if was then s else s.evTime 0 0

/-- Does an offset exceed the step threshold (R257)? -/
def State.stepsAt (s : State) (th : Int) : Bool := decide (s.rd R.TSU_STEP_THR_VALUE < th.natAbs)

/-- The one step before the first lock (R257). -/
def State.servoStep (s : State) (th : Int) : State :=
  let s := (s.stepOfs (-(rheDiv th 2))).bump R.TSU_CNT_STEP_COUNT
  { s with tm := { s.tm with servoI := 0, servoGood := 0 } }

/-- The integral part after an offset (R257). -/
def State.servoInt (s : State) (th : Int) : Int :=
  clampI (-s.rateMax) s.rateMax (s.tm.servoI - rheDiv (th * s.rd R.TSU_SERVO_KI_VALUE) 65536)

/-- The rate after an offset, with its integral part (R257). -/
def State.servoRate (s : State) (th i : Int) : Int :=
  clampI (-s.rateMax) s.rateMax (i - rheDiv (th * s.rd R.TSU_SERVO_KP_VALUE) 65536)

/-- The small offsets in a row (R257). -/
def State.servoCount (s : State) (th : Int) : Nat := if th.natAbs ≤ s.rd R.TSU_SERVO_THR_VALUE then s.tm.servoGood + 1 else 0

/-- The servo runs: rate, integral part, gain and loss of lock (R257, R258). -/
def State.servoRun (s : State) (th : Int) : State :=
  let i := s.servoInt th
  let s := s.setRate (s.servoRate th i)
  let good := s.servoCount th
  let s := { s with tm := { s.tm with servoI := i, servoGood := good } }
  let s := if 4 ≤ good then s.gainLock else s
  if s.on R.TSU_STATUS_LOCKED && decide (8 * s.rd R.TSU_SERVO_THR_VALUE < th.natAbs) then s.loseLock else s

/-- The servo on an offset θ in ns (R257). -/
def State.servo (s : State) (th : Int) : State :=
  let s := { s with tm := { s.tm with lastTheta := th, lastOffsetRaw := s.tm.raw } }
  if !s.locked && s.stepsAt th then s.servoStep th
  else if s.locked && s.stepsAt th then ((s.flag R.TSU_STATUS_TIMELINE).evTime 2 0).servoRun th
  else s.servoRun th

/-- A write of TSU_SERVO_IN runs the servo while the time unit is enabled (R257, R269). -/
def State.servoIn (s : State) (w : Nat) : State :=
  if s.on R.TSU_CTRL_ENABLE then (s.servo (signedOf 32 w)).showTime else s

/-- SERVO_STEP (R257). -/
def execServoStep (theta : BitVec 32) (t : Nat) (s : State) : Host.Outcome State Fault Refusal :=
  if s.gated 15 then .next (s.atRaw t) else
  .next ((s.atRaw t).servoIn theta.toNat)

/-- HOLDOVER_TIMEOUT (R258): no offset for HOLD_TO ms (DEDUCED, log entry 36). -/
def execHoldoverTimeout (t : Nat) (s : State) : Host.Outcome State Fault Refusal :=
  if s.gated 15 then .next (s.atRaw t) else
  let s := s.atRaw t
  if s.on R.TSU_CTRL_ENABLE && decide (s.tm.lastOffsetRaw + ms (max 1 (s.rd R.TSU_SERVO_LIM_HOLD_TO)) ≤ s.tm.raw) then
    let s := s.setRate s.tm.servoI
    .next (if s.on R.TSU_STATUS_HOLDOVER then s.showTime else s.loseLock.showTime)
  else .next s

/-- A write of TSU_CONV_IN_LO converts the raw value of the pair (R252). -/
def State.convert (s : State) (lo : Nat) : State :=
  let s := s.wr R.TSU_CONV_IN_LO_VALUE lo
  s.wr64 R.TSU_CONV_OUT_LO_VALUE R.TSU_CONV_OUT_HI_VALUE
    (s.tm.corrected (s.rd64 R.TSU_CONV_IN_LO_VALUE R.TSU_CONV_IN_HI_VALUE))

/-- CONVERSION (R252). -/
def execConversion (lo : BitVec 32) (s : State) : Host.Outcome State Fault Refusal :=
  if s.gated 15 then .next s else
  .next (s.convert lo.toNat)

/-! ### Transmit time-stamp queues (R255) -/

/-- The queue of a MAC. -/
def State.txq (s : State) (p : Nat) : List TxStamp := s.tm.txq.getD p []

def State.setTxq (s : State) (p : Nat) (q : List TxStamp) : State := { s with tm := { s.tm with txq := s.tm.txq.set p q } }

/-- A frame sent with TS_REQ makes an entry, unless the queue is full or time-stamping is off (R269; DEDUCED, log entry 113). -/
def State.pushStamp (s : State) (p : Nat) (e : TxStamp) : State :=
  if !s.on R.TSU_CTRL_ENABLE then s
  else if 64 ≤ (s.txq p).length then (s.bump (R.TSU_TXQ_LOST_COUNT p)).flag R.TSU_STATUS_TXQ_OVF
  else s.setTxq p (s.txq p ++ [e])

/-- A read of TSU_TXQ_TS_LO: the oldest entry is shown, with its high word and INFO, and removed. -/
def State.readTxq (s : State) (p : Nat) : State :=
  match s.txq p with
  | [] => s.wr64 (R.TSU_TXQ_TS_LO_TS p) (R.TSU_TXQ_TS_HI_TS p) 0 |>.wr (R.TSU_TXQ_INFO_w p) 0
  | e :: es =>
    let s := (s.setTxq p es).wr64 (R.TSU_TXQ_TS_LO_TS p) (R.TSU_TXQ_TS_HI_TS p) e.raw
    (((s.wr (R.TSU_TXQ_INFO_VALID p) 1).wr (R.TSU_TXQ_INFO_QUEUE p) e.queue).wr (R.TSU_TXQ_INFO_TS_TAG p) e.tag).wr
      (R.TSU_TXQ_INFO_LEVEL p) es.length

/-- TXQ_READ (R255). -/
def execTxqRead (mac : Fin 3) (s : State) : Host.Outcome State Fault Refusal :=
  if s.gated 15 then .next s else
  .next (s.readTxq mac.val)

/-! ### PTP port, 1PPS (R256, R260) -/

/-- ANNOUNCE_TIMEOUT (R256): the announce receipt of the primary time port times out. -/
def execAnnounceTimeout (t : Nat) (s : State) : Host.Outcome State Fault Refusal :=
  let s := s.atRaw t
  .next (if s.fwRuns && s.ptp.inUse = s.ptp.primary && s.ptp.backup ≠ 255 then
    { s with ptp := { s.ptp with inUse := s.ptp.backup } } else s)

/-- PRIMARY_TIME_PORT_RETURN (R256): a master has been qualified for 10 s on the primary port. -/
def execPrimaryTimePortReturn (t : Nat) (s : State) : Host.Outcome State Fault Refusal :=
  let s := s.atRaw t
  .next (if s.fwRuns then { s with ptp := { s.ptp with inUse := s.ptp.primary } } else s)

/-- PPS_INPUT (R260): the rise is time-stamped on C. -/
def execPpsInput (t : Nat) (s : State) : Host.Outcome State Fault Refusal :=
  if s.gated 15 then .next (s.atRaw t) else
  let s := s.atRaw t
  .next (s.wr64 R.TSU_PPS_CAP_LO_VALUE R.TSU_PPS_CAP_HI_VALUE s.now)

/-- PPS_OUTPUT (R260): the output is high for the first 100 ms of each PTP second, while it is driven. -/
def execPpsOutput (t : Nat) (s : State) : Host.Outcome State Fault Refusal :=
  if s.gated 15 then .next (s.atRaw t) else
  let s := s.atRaw t
  .next { s with tm := { s.tm with ppsHigh := s.on R.TSU_CTRL_PPS_OUT_EN && decide (s.now % 500000000 < 50000000) } }

/-! ### Scheduled actions (R312) -/

/-- SCHEDULED_ACTION (R312): an action whose presentation time has come is done and forgotten. -/
def execScheduledAction (index : Nat) (t : Nat) (s : State) : Host.Outcome State Fault Refusal :=
  let s := s.atRaw t
  match s.acts[index]? with
  | none => .next s
  | some a =>
    if s.now < a.time then .next s
    else
      let s := { s with acts := s.acts.eraseIdx index }
      .next (if a.action = 2 then s.eventTo a.sess 0x0E07 (leBytes 1 3 ++ leBytes 3 0 ++ leBytes 4 a.tag)
        else { s with gpio := setBits s.gpio a.gpio a.gpio (b2n (a.action = 0)) })

end Sys2Proof.Machine
end

