-- ==== Sys2Proof/Machine/Clocks.lean ====
section
/-! DEFINITION. Clocks, gates and power modes (18_clocks_modes.md R348–R366). -/

namespace Sys2Proof.Machine

open Sys2Proof

/-! ### RC and its trim (R350, R351) -/

/-- RC_READY (R350, R354): 20 µs after release or a large trim change; held domains receive their clock. -/
def execRcReady (t : Nat) (s : State) : Host.Outcome State Fault Refusal :=
  let s := s.atRaw t
  .next (if s.clk.rcAt + us 20 ≤ s.tm.raw then
    let s := s.flag R.CLK_STAT_RC_READY
    (if s.clk.held then { s with clk := { s.clk with held := false } }.flag R.CLK_STAT_ON_RC else s)
    else s)

/-- A write of CLK_RC_TRIM: a change of TRIM by more than 16 steps clears RC_READY (R350). A trim that a missing reference stopped begins anew (DESIGN CHOICE,
log entry 123). -/
def State.trim (s : State) (w : Nat) : State :=
  let old := s.rd R.CLK_RC_TRIM_TRIM
  let s := { s with clk := { s.clk with absent := 0 } }.wr R.CLK_RC_TRIM_w (w % 65536)
  if 16 < (((w % 1024 : Nat) : Int) - old).natAbs then
    { s.wr R.CLK_STAT_RC_READY 0 with clk := { s.clk with rcAt := s.tm.raw } }
  else s

/-- TRIM_WRITE (R350). -/
def execTrimWrite (word : BitVec 16) (t : Nat) (s : State) : Host.Outcome State Fault Refusal :=
  .next ((s.atRaw t).trim word.toNat)

/-- Expected RC cycles of one interval of a reference (R351). -/
def trimExpected (src : Nat) : Nat := if src = 1 then 2097152 else if src = 2 then 50000000 else 5000000

/-- RC_TRIM_INTERVAL (R351): `count` is the RC cycles counted, none when the reference was absent; two such intervals in a row stop the trim. -/
def execRcTrimInterval (count : Option Nat) (s : State) : Host.Outcome State Fault Refusal :=
  .next (if s.rd R.CLK_RC_TRIM_SRC = 0 || 2 ≤ s.clk.absent then s
    else match count with
      | none => { s with clk := { s.clk with absent := s.clk.absent + 1 } }
      | some n =>
        let e := trimExpected (s.rd R.CLK_RC_TRIM_SRC)
        let d : Int := (n : Int) - e
        let s := { s with clk := { s.clk with absent := 0 } }.wr R.CLK_RC_MEAS_VALUE (unsignedOf 16 (satBits 16 (rheDiv (d * 10000) e)))
        let trim := s.rd R.CLK_RC_TRIM_TRIM
        if d.natAbs * 4000 ≤ e then s
        else if 0 < d then s.wr R.CLK_RC_TRIM_TRIM (trim - 1)
        else s.wr R.CLK_RC_TRIM_TRIM (min 1023 (trim + 1)))

/-! ### Monitors and fallback (R349, R352–R355) -/

/-- The bit of a source in CLK_STAT.FAIL and CLK_MON. -/
def srcBit : ClkSrc → Nat
  | .xo => 0 | .pllA => 1 | .pllB => 2 | .cellarPll => 3 | .audioPll => 4 | .serdes => 5

/-- The start delay of the XO by its strap (R349). -/
def State.xoDelay (s : State) : Nat := ms (2 * 4 ^ s.straps.xo.toNat)

/-- XO_START_DELAY (R349): the delay ends and the monitor is armed. -/
def execXoStartDelay (t : Nat) (s : State) : Host.Outcome State Fault Refusal :=
  let s := s.atRaw t
  .next (if s.clk.xoAt + s.xoDelay ≤ s.tm.raw then { s with clk := { s.clk with xoArmed := true } } else s)

/-- Does a source pass its monitor? -/
def State.clkGood (s : State) (b : Nat) : Bool := bitOf (s.rd R.CLK_MON_GOOD) b

/-- Does a source stand in CLK_STAT.FAIL? -/
def State.clkFailed (s : State) (b : Nat) : Bool := bitOf (s.rd R.CLK_STAT_FAIL) b

def State.setClkFail (s : State) (b : Nat) : State := s.wr R.CLK_STAT_FAIL (setBits (s.rd R.CLK_STAT_FAIL) b b 1)
def State.setClkGood (s : State) (b : Nat) (on : Bool) : State := s.wr R.CLK_MON_GOOD (setBits (s.rd R.CLK_MON_GOOD) b b (b2n on))

/-- XO_START_TIMEOUT (R349): not passed within four start delays. -/
def execXoStartTimeout (t : Nat) (s : State) : Host.Outcome State Fault Refusal :=
  let s := s.atRaw t
  .next (if s.clk.xoAt + 4 * s.xoDelay ≤ s.tm.raw && !s.clkGood 0 then s.setClkFail 0 else s)

/-- All power channels stop with all gates low at once (R200, R353). -/
def State.psAllStop (s : State) : State :=
  (List.range 24).foldl (fun s n =>
    if s.on (R.PWS_STATUS_SWITCHING n) then ((s.lineAbort n).gatesLow n).setPsState n stOff else s) s

/-- The synchronous ports lose alignment (R178, R353). -/
def State.portsLose (s : State) : State :=
  let s := (List.range 16).foldl (fun s p =>
    (s.setTdm p { s.tdmSt p with cap := none, align := { (s.tdmSt p).align with inTol := 0 } }).wr (R.TDM_STATUS_ALIGNED p) 0) s
  (List.range 4).foldl (fun s i =>
    (s.setAes i { s.aesSt i with cap := none, align := { (s.aesSt i).align with inTol := 0 } }).wr (R.AES_ISTAT_ALIGNED i) 0) s

/-- The domains of both system PLLs move to RC, or are held until it is ready (R353, R354); channels stop; HOLDOVER. -/
def State.toRc (s : State) : State :=
  let s := if s.on R.CLK_STAT_RC_READY then s.flag R.CLK_STAT_ON_RC
    else { s.flag R.CLK_STAT_HOLD_WAIT with clk := { s.clk with held := true } }
  let s := s.psAllStop
  if s.on R.TSU_STATUS_LOCKED then (s.setRate s.tm.servoI).loseLock.showTime else s.flag R.TSU_STATUS_HOLDOVER

/-- A failure of a source (R352), and what the unit does (R353). The Cellar's and the audio PLL's losses are read where their clocks are used (`cellarDown`,
`clkLost`). -/
def State.clkFail (s : State) (src : ClkSrc) : State :=
  let s := ((s.setClkFail (srcBit src)).setClkGood (srcBit src) false).bump R.CLK_CNT_MON_FAIL_VALUE
  let s := { s with clk := { s.clk with good := s.clk.good.set 0 (srcBit src) 0, lost := s.clk.lost.filter (· ≠ srcBit src) ++ [srcBit src] } }
  match src with
  | .xo | .pllA | .pllB => if s.on R.CLK_STAT_ON_RC || s.clk.held then s else s.toRc
  | .cellarPll => s
  | .audioPll => s.portsLose
  | .serdes => (((s.linkLost 0).linkLost 1).bump R.FLD_CNT_LINK_DOWN_COUNT)

/-- Is a monitor armed (R352)? The sources stop in DEEP SLEEP (R364). -/
def State.clkArmed (s : State) (src : ClkSrc) : Bool := (src ≠ .xo || s.clk.xoArmed) && decide (s.rd R.CLK_MODE_CUR ≠ 2)

/-- A window in which a source passes (R352): a Cellar, audio or SerDes clock that was lost is back (DEDUCED, log entry 124); the domains of the system PLLs
return by RESTORE alone (R355). -/
def State.clkPass (s : State) (src : ClkSrc) : State :=
  let s := s.setClkGood (srcBit src) true
  { s with clk := { s.clk with good := s.clk.good.modify 0 (srcBit src) (fun n => n + 1),
                               lost := if srcBit src < 3 then s.clk.lost else s.clk.lost.filter (· ≠ srcBit src) } }

/-- MONITOR_WINDOW (R352): `count` edges where `expected` are; a window within ±3 % passes. -/
def execMonitorWindow (src : ClkSrc) (count : Nat) (expected : Nat) (t : Nat) (s : State) : Host.Outcome State Fault Refusal :=
  let s := s.atRaw t
  .next (if !s.clkArmed src then s
    else if 100 * ((count : Int) - expected).natAbs ≤ 3 * expected then s.clkPass src
    else s.clkFail src)

/-- MONITOR_NO_EDGE (R352). -/
def execMonitorNoEdge (src : ClkSrc) (t : Nat) (s : State) : Host.Outcome State Fault Refusal :=
  let s := s.atRaw t
  .next (if s.clkArmed src then s.clkFail src else s)

/-- PLL_UNLOCK (R352): a PLL's lock indicator falls; XO and the SerDes reference have none. -/
def execPllUnlock (src : ClkSrc) (t : Nat) (s : State) : Host.Outcome State Fault Refusal :=
  let s := s.atRaw t
  .next (match src with
    | .xo | .serdes => s
    | _ => s.clkFail src)

/-- Have the lost sources of the system PLLs' domains each passed 1,024 windows in a row (R355)? -/
def State.restorable (s : State) : Bool := s.clk.lost.all (fun b => 3 ≤ b || 1024 ≤ s.clk.good.get 0 b)

/-- RESTORE (R355): the firmware returns the domains from RC at the next block boundary, once their sources are sound again. -/
def execRestore (s : State) : Host.Outcome State Fault Refusal :=
  .next (if s.restorable then { s with clk := { s.clk with restore := true } } else s)

/-- The switch back at a block boundary (R355). -/
def State.restoreNow (s : State) : State :=
  if s.clk.restore then { s.wr R.CLK_STAT_ON_RC 0 with
    clk := { s.clk with restore := false, held := false, lost := s.clk.lost.filter (3 ≤ ·) } } else s

/-! ### Gates (R357–R360) -/

/-- The mask of the blocks whose gates may be open in a mode: RUN, SLEEP, DEEP SLEEP (R357). -/
def State.modeMask (s : State) (mode : Nat) : Nat :=
  if mode = 1 then s.rd R.CLK_GATE_SLEEP_VALUE
  else if mode = 2 then s.rd R.CLK_GATE_DEEP_VALUE &&& 0x200
  else s.rd R.CLK_GATE_RUN_VALUE

/-- Gates of a mask open at once, but for those of it that a step is to close (R358). -/
def State.openGates (s : State) (mask : Nat) : State :=
  s.wr R.CLK_GATE_NOW_VALUE (s.rd R.CLK_GATE_NOW_VALUE &&& (0x7FFFFF ^^^ mask))

/-- A step of gate closing begins; a step that already runs takes the new blocks with it. -/
def State.gateStep (s : State) (blocks cores mode : Nat) : State :=
  if blocks = 0 && cores = 0 then s
  else
    let x := s.clk.step.getD ⟨0, 0, mode, s.tm.raw⟩
    { s with clk := { s.clk with step := some ⟨x.blocks ||| blocks, x.cores ||| cores, mode, s.tm.raw⟩ } }

/-- Cores that are gated. -/
def State.coreGated (s : State) (c : Nat) : Bool := s.coreState c = 5

/-- Single cores are gated: STATE 5; one whose gate opens runs on (R118, R357). -/
def State.gateCore (s : State) (c : Nat) (shut : Bool) : State :=
  if shut then (if s.coreGated c then s else (s.setCore c { s.core c with heldState := s.coreState c }).setCoreState c 5)
  else if s.coreGated c then s.setCoreState c (s.core c).heldState
  else s

/-- A write of CLK_GATE_RUN. -/
def State.writeGateRun (s : State) (w : Nat) : State :=
  let s := s.wr R.CLK_GATE_RUN_VALUE (w % 2 ^ 23)
  if s.rd R.CLK_MODE_CUR ≠ 0 then s
  else
    let s := s.openGates (w % 2 ^ 23)
    s.gateStep ((0x7FFFFF ^^^ (w % 2 ^ 23)) &&& (0x7FFFFF ^^^ s.rd R.CLK_GATE_NOW_VALUE)) 0 0

/-- A write of CLK_CORE_GATE. -/
def State.writeCoreGate (s : State) (w : Nat) : State :=
  let s := s.wr R.CLK_CORE_GATE_VALUE w
  let s := (List.range 32).foldl (fun s c => if bitOf w c then s else s.gateCore c false) s
  let shut := ((List.range 32).filter (fun c => bitOf w c && !s.coreGated c)).foldl (fun m c => m + 2 ^ c) 0
  s.gateStep 0 shut 0

/-- GATE_RUN_WRITE (R358): a write of CLK_GATE_RUN, or of CLK_CORE_GATE. -/
def execGateRunWrite (cores : Bool) (word : BitVec 32) (t : Nat) (s : State) : Host.Outcome State Fault Refusal :=
  let s := s.atRaw t
  .next (if cores then s.writeCoreGate word.toNat else s.writeGateRun word.toNat)

/-- The gates of a step close. -/
def State.closeStep (s : State) (x : GateStep) : State :=
  let s := s.wr R.CLK_GATE_NOW_VALUE (s.rd R.CLK_GATE_NOW_VALUE ||| x.blocks)
  let s := (List.range 32).foldl (fun s c => if bitOf x.cores c then s.gateCore c true else s) s
  let s := { s with clk := { s.clk with step := none } }
  if x.mode = 1 then s.wr R.CLK_MODE_CUR (if (match s.clk.sleep with | some z => z.deep | none => false) then 3 else 1) else s

/-- GATES_CLOSE (R358): every block of the step is bus-idle. -/
def execGatesClose (t : Nat) (s : State) : Host.Outcome State Fault Refusal :=
  let s := s.atRaw t
  .next (match s.clk.step with
    | none => s
    | some x => s.closeStep x)

/-- Rendering is to resume at the first boundary at least 125.00 µs after the gates have opened, which takes 10 µs (R363). -/
def State.resumeAt (s : State) : State :=
  match s.clk.sleep with
  | none => s
  | some z =>
    let k := if s.locked then s.blockAfter (s.now + cut + us 10) 0
      else if s.now + cut + us 10 ≤ s.nextBoundary then s.nextBlock else s.nextBlock + 1
    { s with clk := { s.clk with sleep := some { z with wakeBlk := some (max k s.nextBlock) } } }

/-- The blocks of a step; a core counts with its cluster, block 0. -/
def GateStep.all (x : GateStep) : Nat := if x.cores = 0 then x.blocks else x.blocks ||| 1

/-- QUIESCENCE_TIMEOUT (R358, R362): 256 cycles of the block clock, 320 ns at the fastest, after a step began, blocks of it that have not reported bus-idle
refuse it; an entry of SLEEP is then abandoned. -/
def execQuiescenceTimeout (notIdle : BitVec 23) (t : Nat) (s : State) : Host.Outcome State Fault Refusal :=
  let s := s.atRaw t
  .next (match s.clk.step with
    | none => s
    | some x =>
      if notIdle.toNat &&& x.all = 0 || s.tm.raw < x.since + 160 then s else
      let s := (s.wr R.CLK_GATE_REFUSED_VALUE (s.rd R.CLK_GATE_REFUSED_VALUE ||| (notIdle.toNat &&& x.all))).bump R.CLK_CNT_REFUSE_VALUE
      let s := { s with clk := { s.clk with step := none } }
      if x.mode = 1 then ((s.wr R.CLK_MODE_CUR 0).flag R.CLK_MODE_ABORTED).resumeAt else s)

/-! ### Power modes (R361–R365) -/

/-- Does anything stand against entering SLEEP or DEEP SLEEP (R361)? -/
def State.sleepBarred (s : State) : Bool :=
  s.on R.FLD_CTRL_EN || s.devBusy.isSome || (List.range 6).any (fun p => (s.port p).busy.isSome) ||
    (List.range 256).any s.msgPlays || s.bound.any (fun p => Gate.openAt false (s.mix.gates.get [] p.1) s.tm.blockCount) ||
    s.rd R.CLK_MODE_CUR = 3 || s.clk.sleep.isSome

/-- SLEEP or DEEP SLEEP is requested and accepted: from block `m` on nothing is rendered (R362). -/
def State.sleepEntry (s : State) (deep : Bool) (m : Nat) : State :=
  let s := (s.wr R.CLK_MODE_REQ (if deep then 2 else 1)).wr R.CLK_MODE_CUR 3
  { s with clk := { s.clk with sleep := some ⟨deep, m, false, s.tm.raw, false, none⟩ },
           mix := { s.mix with fades := s.mix.fades ++ [(m - 1, false)] } }

/-- The block boundary in SLEEP entry (R362): from t(m+3) the channels stop; once all have, the gates close in one step. -/
def State.sleepBoundary (s : State) (k : Nat) : State :=
  match s.clk.sleep with
  | none => s
  | some z =>
    if z.wakeBlk.isSome || s.rd R.CLK_MODE_CUR ≠ 3 || k < z.stopBlk + 3 || s.clk.step.isSome then s
    else if !z.stopped then
      let s := s.stopAll
      { s with clk := { s.clk with sleep := some { z with stopped := true } } }
    else if (List.range 24).any (fun n => s.on (R.PWS_STATUS_SWITCHING n)) then s
    else
      s.gateStep ((0x7FFFFF ^^^ s.modeMask 1) &&& (0x7FFFFF ^^^ s.rd R.CLK_GATE_NOW_VALUE)) 0 1

/-- The exit from SLEEP (R363): gates open, and rendering resumes at its boundary. -/
def State.leaveSleep (s : State) : State :=
  let s := { s with clk := { s.clk with step := none } }
  (((s.openGates (s.rd R.CLK_GATE_RUN_VALUE)).wr R.CLK_MODE_CUR 0).bump R.CLK_CNT_WAKE_VALUE).resumeAt

/-- The bit of CLK_WAKE_STAT of a cause. -/
def wakeBit : WakeBy → Nat
  | .press m => m.val
  | .hif n => 4 + n.val
  | .gpio _ _ => 6

/-- Is a wake source enabled (R363, R366)? -/
def State.wakeEnabled (s : State) : WakeBy → Bool
  | .press m => bitOf (s.rd R.CLK_WAKE_CFG_PTT) m.val
  | .hif n => bitOf (s.rd R.CLK_WAKE_CFG_HIF) n.val
  | .gpio n falling => bitOf (s.rd R.CLK_WAKE_GPIO_VALUE) n.val && decide (bitOf (s.rd R.CLK_WAKE_POL_VALUE) n.val = falling)

/-- Fields that a reset and the reload of the configuration leave: those that are written (R365). -/
def configMask (a : Nat) : Nat :=
  match rowOf a with
  | some r => r.rw ||| r.rws ||| r.rwl
  | none => 0

/-- DEEP_SLEEP_CLOSE (R359, R364): 10 ms after the reply and once the gates of SLEEP are closed, sessions close, the DRAM goes to self-refresh and the remaining gates
close, by force where a block has not reported bus-idle; the PLLs and the XO stop, so no source passes its monitor. -/
def execDeepSleepClose (notIdle : BitVec 23) (t : Nat) (s : State) : Host.Outcome State Fault Refusal :=
  let s := s.atRaw t
  .next (match s.clk.sleep with
    | none => s
    | some z =>
      if !z.deep || z.closed || z.wakeBlk.isSome || s.tm.raw < z.replyAt + ms 10 || !z.stopped || s.clk.step.isSome then s
      else
        let s := (List.range 8).foldl (fun s i => if s.isOpen i then s.closeSession i else s) s
        let s := (s.flag R.CEL_STATUS_SR).wr R.CLK_MON_GOOD 0
        let shut := (0x7FFFFF ^^^ s.modeMask 2) &&& (0x7FFFFF ^^^ s.rd R.CLK_GATE_NOW_VALUE)
        let s := s.wr R.CLK_GATE_FORCED_VALUE (s.rd R.CLK_GATE_FORCED_VALUE ||| (notIdle.toNat &&& shut))
        let s := s.when (notIdle.toNat &&& shut ≠ 0) (·.bump R.CLK_CNT_FORCE_VALUE)
        { (s.wr R.CLK_GATE_NOW_VALUE (s.rd R.CLK_GATE_NOW_VALUE ||| shut)).wr R.CLK_MODE_CUR 2 with
          clk := { s.clk with sleep := some { z with closed := true } } })

end Sys2Proof.Machine
end

