-- ==== Sys2Proof/Machine/Mirror.lean ====
section
/-! DEFINITION. The Bellwether and the mirrored pair (16_supervisor_and_mirror.md R314–R327). -/

namespace Sys2Proof.Machine

open Sys2Proof

/-! ### The Bellwether (R314–R317, R327) -/

/-- A core waits for resynchronisation, or no longer. -/
def State.setPend (s : State) (cs : List Nat) : State :=
  { s with bwt := { s.bwt with pend := cs } }.wr R.BWT_STATUS_RESYNC_PEND (b2n (cs ≠ []))

/-- BWT_LOG takes a disagreement when it holds none; CORE 3 when all three differed (DEDUCED, log entry 18). -/
def State.bwtLog (s : State) (core kind addr : Nat) : State :=
  if s.on R.BWT_LOG_VALID then s
  else ((((s.flag R.BWT_LOG_VALID).wr R.BWT_LOG_CORE core).wr R.BWT_LOG_KIND kind).wr R.BWT_LOG_ADDR addr).wr R.BWT_LOG_BLK_BLOCK
    (s.tm.blockCount % 2 ^ 32)

/-- Safe stop (R317): the cores halt. -/
def State.safeStop (s : State) : State := (s.setPend []).wr R.BWT_STATUS_MODE 2

/-- A second disagreement within 1 s removes a core from the vote (R316). -/
def State.removeCore (s : State) (c : Nat) : State :=
  ((s.setPend (s.bwt.pend.filter (fun x => x ≠ c))).wr R.BWT_STATUS_MODE 1).wr R.BWT_STATUS_REMOVED c

/-- A disagreement by core `c` in triple mode (R314–R316). -/
def State.outvote (s : State) (c kind addr : Nat) : State :=
  if s.bwt.pend.contains c then s
  else
    let s := ((s.bump (R.BWT_CNT_DIS_COUNT c)).wr R.BWT_STATUS_LAST c).bwtLog c kind addr
    let first := s.bwt.firstAt.get 0 c
    if first ≠ 0 && s.tm.raw < first - 1 + ms 1000 then s.removeCore c
    else { s with bwt := { s.bwt with firstAt := s.bwt.firstAt.set 0 c (s.tm.raw + 1) } }.setPend (s.bwt.pend ++ [c])

/-- A cycle in which the cores differ: `kind` 3 when all three do (DEDUCED, log entry 18). -/
def State.disagree (s : State) (c kind addr : Nat) : State :=
  match s.rd R.BWT_STATUS_MODE with
  | 0 => if kind = 3 then (s.bwtLog 3 3 addr).safeStop else s.outvote c kind addr
  | 1 => if s.rd R.BWT_STATUS_REMOVED = c then s else s.safeStop
  | _ => s

/-- DISAGREEMENT (R314). In compare mode a core other than the removed one differs: safe stop (R317). -/
def execDisagreement (core : Fin 3) (kind : BitVec 2) (addr : BitVec 27) (t : Nat) (s : State) : Host.Outcome State Fault Refusal :=
  if s.gated 22 then .next (s.atRaw t) else
  .next ((s.atRaw t).disagree core.val kind.toNat addr.toNat)

/-- Resynchronisation at a block boundary (R315). -/
def State.resync (s : State) : State :=
  if s.bwt.pend = [] then s else (s.count R.BWT_CNT_RESYNC_COUNT s.bwt.pend.length).setPend []

/-- A write of BWT_CTRL: injection in maintenance mode (R327). -/
def State.inject (s : State) (core : Nat) : State :=
  if s.inMaint then { s with bwt := { s.bwt with inject := if core < 3 then some core else none } } else s

/-- FAULT_INJECTION (R327). -/
def execFaultInjection (core : BitVec 2) (t : Nat) (s : State) : Host.Outcome State Fault Refusal :=
  if s.gated 22 then .next (s.atRaw t) else
  .next ((s.atRaw t).inject core.toNat)

/-- A voted write goes out: an injected fault makes its core differ (R327). -/
def State.votedWrite (s : State) (addr : Nat) : State :=
  match s.bwt.inject with
  | none => s
  | some c => { s with bwt := { s.bwt with inject := none } }.disagree c 0 (addr % 2 ^ 27)

/-! ### Frames (R319, R320) -/

/-- ROLE as FLD_STATUS codes it. -/
def roleSingle : Nat := 0
def roleActive : Nat := 1
def roleStandby : Nat := 2
def roleLeaving : Nat := 3
def roleArb : Nat := 4

def State.role (s : State) : Nat := s.rd R.FLD_STATUS_ROLE
def State.setRole (s : State) (r : Nat) : State := s.wr R.FLD_STATUS_ROLE r
def State.setMir (s : State) (m : Mir) : State := { s with mir := m }

/-- Does the firmware ask its partner to take over: in safe stop, and on RC (R317, R353)? -/
def State.stopping (s : State) : Bool := !s.fwRuns || s.on R.CLK_STAT_ON_RC

/-- FLAGS of a frame this unit sends. -/
def State.foldFlags (s : State) (final switch last : Bool) : Nat :=
  s.role % 4 + 4 * b2n s.stopping + 8 * b2n (s.rd R.BWT_STATUS_MODE = 1) + 16 * b2n final + 32 * b2n switch +
    64 * b2n (s.on R.FLD_CTRL_PREFER_ACTIVE) + 128 * b2n last

/-- A frame goes out on the Fold lane (DESIGN CHOICE, log entry 16). -/
def State.sendFold (s : State) (kind : Nat) (final switch last : Bool) : State :=
  let q := s.mir.seqs.get 0 kind
  let f : FoldOut := ⟨kind, s.foldFlags final switch last, q, s.tm.blockCount⟩
  s.setMir { s.mir with frames := (f :: s.mir.frames).take 16, seqs := s.mir.seqs.set 0 kind ((q + 1) % 2 ^ 32) }

/-! ### The partner's state (R322) -/

/-- 64-bit BLOCK_COUNT of the last takeover (R326). -/
def State.tookAt (s : State) : Nat := s.rd64 R.FLD_TAKEOVER_LO_BLOCK R.FLD_TAKEOVER_HI_BLOCK

/-- The partner state of R322 (DEDUCED, log entry 80). -/
def State.partnerState (s : State) : Nat :=
  if s.mir.partner.isNone || s.on R.FLD_STATUS_VER_ERR || !s.locked then 0 else if 64 ≤ s.mir.inRow then 2 else 1

/-- FLD_STATUS.PARTNER follows; reaching 2 on the standby sends the partner resynchronised event. -/
def State.showPartner (s : State) : State :=
  let was := s.rd R.FLD_STATUS_PARTNER
  let n := s.partnerState
  let s := s.wr R.FLD_STATUS_PARTNER n
  if n = 2 && was ≠ 2 && s.standsBy then s.evMirror 5 else s

/-- The run of good copies is broken. -/
def State.breakRun (s : State) : State := (s.setMir { s.mir with inRow := 0 }).showPartner

/-! ### Starting anew (R82, R268, R324) -/

/-- The chains start from zero at a takeover, with the envelopes of the copy (R82, R84). -/
def State.zeroChains (s : State) : State :=
  let s := s.silentChains (fun o => (s.chain o).g)
  { s with mix := { s.mix with installs := [], idents := s.mix.idents.map (fun p => (p.1, { p.2 with n := 0, lastBlk := 0, est := none })), proposals := [] } }

/-- Samples of a packet of a transmit context. -/
def State.txPtime (s : State) (i : Nat) : Nat := if s.on (R.STR_TX_W0_PTIME i) then 48 else 16

/-- Transmit contexts send from the first packet that holds samples of block `k` (R268) (DEDUCED, log entry 71). -/
def State.startContexts (s : State) (k : Nat) : State :=
  { s with stx := (List.range 64).foldl (fun c i =>
      c.modify ⟨false, 0⟩ i (fun x => { x with start := (32 * k + 96) / s.txPtime i * s.txPtime i })) s.stx }

/-- No tap sounded before: the next tap list treats every tap as entering. -/
def State.freshLists (s : State) : State :=
  { s with geo := { s.geo with forming := none, late := none, cur := { s.geo.cur with taps := [] } } }

/-! ### Roles (R318) -/

/-- Does this unit become ACTIVE when both arbitrate (R318 step 2)? -/
def State.winsOver (s : State) (prefer : Bool) (id : Nat) : Bool :=
  if s.on R.FLD_CTRL_PREFER_ACTIVE = prefer then s.otp.devId < id else s.on R.FLD_CTRL_PREFER_ACTIVE

/-- FLD_ACTO rises or falls. -/
def State.setActo (s : State) (on : Bool) : State := s.wr R.FLD_STATUS_ACTO (b2n on)

/-- Channels of a standby hold all gates low (R194). -/
def State.holdChannels (s : State) : State :=
  (List.range 24).foldl (fun s n =>
    if !s.on (R.PWS_CFG_EN n) then s
    else
      let s := (((s.lineAbort n).gatesLow n).wr (R.PWS_STATUS_FB_ACTIVE n) 0).wr (R.PWS_STATUS_LOOP_DRIVE n) 0
      (s.setPs n { s.psSt n with serves := none, forTest := false, pilot := none, again := false, shed := false }).setPsState n stHeld) s

/-- The unit becomes ACTIVE by arbitration: a role change, with its event (R292, R318). -/
def State.arbActive (s : State) : State := ((s.setRole roleActive).setActo true).evMirror 0

/-- The unit becomes STANDBY by arbitration. -/
def State.arbStandby (s : State) : State := ((s.setRole roleStandby).holdChannels).evMirror 1

/-- A unit that was STANDBY renders alone from the next block on, with a one-block fade-in, and starts its channels as after a takeover (DEDUCED, log entry 130). -/
def State.standAlone (s : State) : State :=
  let k := s.nextBlock
  let s := ((s.zeroChains).startContexts k).freshLists
  { s with mix := { s.mix with fades := s.mix.fades ++ [(k, true)] }, hst := { s.hst with renderFrom := k } }.startAll true (fun _ _ => true)

/-- EN is written (R318): a unit that starts mirroring arbitrates, and is STANDBY at once where FLD_ACTI is high; one that ends it is SINGLE (DEDUCED, log entry 130). -/
def State.mirrorEnable (s : State) (on : Bool) : State :=
  let was := s.on R.FLD_CTRL_EN
  let stood := s.standsBy
  let s := s.wr R.FLD_CTRL_EN (b2n on)
  if on = was then s
  else if on then
    let s := (s.setRole roleArb).setMir { s.mir with releaseAt := s.tm.raw, waits := false }
    if s.on R.FLD_STATUS_ACTI then s.arbStandby else s
  else (((s.setRole roleSingle).setActo false).setMir { s.mir with partner := none, change := none }).showPartner.when stood State.standAlone

/-- What a frame says settles an arbitration (DEDUCED, log entry 80). -/
def State.arbitrate (s : State) (f : FoldFrame) : State :=
  if s.role ≠ roleArb then s
  else if f.role = 1 || f.role = 3 then s.arbStandby
  else if f.role = 0 then (if s.winsOver f.prefer f.id then s.arbActive else s.arbStandby)
  else s

/-- ACTI_CHANGE (R318 step 1). -/
def execActiChange (high : Bool) (t : Nat) (s : State) : Host.Outcome State Fault Refusal :=
  if s.gated 17 then .next (s.atRaw t) else
  let s := (s.atRaw t).wr R.FLD_STATUS_ACTI (b2n high)
  .next (if high && s.on R.FLD_CTRL_EN && s.role = roleArb then s.arbStandby else s)

/-- ARBITRATION_TIMEOUT (R318 step 3). -/
def execArbitrationTimeout (t : Nat) (s : State) : Host.Outcome State Fault Refusal :=
  let s := s.atRaw t
  .next (if s.role ≠ roleArb || s.mir.partner.isSome || s.tm.raw < s.mir.releaseAt + ms 300 then s
    else if s.on R.FLD_CTRL_PREFER_ACTIVE then s.arbActive
    else if s.tm.raw < s.mir.releaseAt + ms 400 then s.setMir { s.mir with waits := true }
    else if s.on R.FLD_STATUS_ACTI then s.arbStandby else s.arbActive)

/-! ### Paths (R320) -/

/-- A handover or takeover to boundary `k` is set. -/
def State.setChange (s : State) (k : Nat) (leaving byHandover : Bool) : State :=
  if s.mir.change.isSome then s else s.setMir { s.mir with change := some ⟨k, leaving, byHandover⟩ }

/-- A heartbeat on a path: how many in a row, each within 1.25 ms of the one before; the third brings a down path up. -/
def pathRun (last : Option Nat) (run now : Nat) : Nat :=
  match last with
  | some l => if now ≤ l + us 1250 then run + 1 else 1
  | none => 1

/-- A path that was down is up. -/
def State.pathUp (s : State) (f : Fld) : State := ((s.flag f).flag R.FLD_STATUS_PATH_CHG).evMirror 4

/-- A heartbeat on the Fold lane. -/
def State.foldBeat (s : State) : State :=
  let run := pathRun s.mir.foldAt s.mir.foldRun s.now
  let s := s.setMir { s.mir with foldAt := some s.now, foldRun := min 3 run }
  if 3 ≤ run && !s.on R.FLD_STATUS_FOLD_UP then s.pathUp R.FLD_STATUS_FOLD_UP else s

/-- An edge on FLD_HBI. -/
def State.pinBeat (s : State) : State :=
  let run := pathRun s.mir.pinAt s.mir.pinRun s.now
  let s := s.setMir { s.mir with pinAt := some s.now, pinRun := min 3 run }
  if 3 ≤ run && !s.on R.FLD_STATUS_HB_UP then s.pathUp R.FLD_STATUS_HB_UP else s

/-- HB_PIN_EDGE (R320). -/
def execHbPinEdge (t : Nat) (s : State) : Host.Outcome State Fault Refusal :=
  if s.gated 17 then .next (s.atRaw t) else
  let s := s.atRaw t
  .next (if s.on R.FLD_CTRL_EN then s.pinBeat else s)

/-- Periods missed on a path: i ms + 0.25 ms since its last heartbeat. -/
def State.missed (s : State) (last : Option Nat) : Nat :=
  match last with
  | some l => (s.now - l - us 250) / ms 1
  | none => 0

/-- Has a path missed three periods, or never been heard? -/
def State.pathLost (s : State) (last : Option Nat) : Bool := last.isNone || 3 ≤ s.missed last

/-- Three missed periods mark a path down (R320). -/
def State.pathDown (s : State) (up : Fld) (cnt : Fld) (kind : Nat) : State :=
  if s.on up then (((s.wr up 0).flag R.FLD_STATUS_PATH_CHG).bump cnt).evMirror kind else s

/-- Both paths are lost: they are down, and no path is counted, for neither was lost alone (R320) (DEDUCED, log entry 132). -/
def State.bothDown (s : State) : State :=
  let was := s.on R.FLD_STATUS_FOLD_UP || s.on R.FLD_STATUS_HB_UP
  ((s.wr R.FLD_STATUS_FOLD_UP 0).wr R.FLD_STATUS_HB_UP 0).when was (·.flag R.FLD_STATUS_PATH_CHG)

/-- HEARTBEAT_MISS (R320): three missed periods on one path alone mark it down; without Fold frames the partner is absent (R322). A standby that has missed three
periods on both paths declares loss and takes over at the first boundary at or after that instant (R23). A standby in safe stop does not take over: its cores have
halted (DEDUCED, log entry 120). -/
def execHeartbeatMiss (fold : Bool) (t : Nat) (s : State) : Host.Outcome State Fault Refusal :=
  if s.gated 17 then .next (s.atRaw t) else
  let s := s.atRaw t
  .next (if !s.on R.FLD_CTRL_EN || s.missed (if fold then s.mir.foldAt else s.mir.pinAt) < 3 then s
    else
      let s := (s.setMir (if fold then { s.mir with foldRun := 0, inRow := 0, partner := none } else { s.mir with pinRun := 0 })).showPartner
      if s.pathLost s.mir.foldAt && s.pathLost s.mir.pinAt then
        let s := ((s.setMir { s.mir with partner := none, inRow := 0 }).showPartner).bothDown
        if s.standsBy && s.fwRuns then s.setChange s.nextBlock false false else s
      else if fold then s.pathDown R.FLD_STATUS_FOLD_UP R.FLD_CNT_MISS_FOLD_COUNT 2
      else s.pathDown R.FLD_STATUS_HB_UP R.FLD_CNT_MISS_HB_COUNT 3)

/-- HEARTBEAT_PERIOD (R318, R320): one heartbeat in each period [p ms, (p + 1) ms) of C, and a HELLO while the unit arbitrates. In safe stop the Fold hardware goes on with STOP set, and sets the boundary of its leaving column (R317, R325). -/
def execHeartbeatPeriod (t : Nat) (s : State) : Host.Outcome State Fault Refusal :=
  if s.gated 17 then .next (s.atRaw t) else
  let s := s.atRaw t
  .next (if !s.on R.FLD_CTRL_EN || s.mir.beat = some (s.now / ms 1) then s
    else
      let s := s.setMir { s.mir with hbo := !s.mir.hbo, beat := some (s.now / ms 1) }
      let s := (s.when (s.role = roleArb) (fun s => s.sendFold 1 false false false)).sendFold 2 false false false
      if s.stopping && s.role = roleActive && s.mir.partner.isSome then s.setChange (s.nextBlock + 1) true true else s)

/-! ### Frames received (R318, R319, R325, R326) -/

/-- What any frame tells of the partner. -/
def State.hearFrame (s : State) (f : FoldFrame) : State :=
  let s := s.wr R.FLD_STATUS_VER_ERR (b2n (f.major ≠ s.mir.major))
  let s := s.setMir { s.mir with partner := some ⟨f.role.toNat, f.stop, f.prefer, f.id, f.took⟩ }
  (if f.major ≠ s.mir.major then s.setMir { s.mir with inRow := 0 } else s).showPartner

/-- Both units are ACTIVE (R326): the one with the later takeover hands over, with s the second boundary after the path returns. -/
def State.bothActive (s : State) (f : FoldFrame) : State :=
  if s.role = roleActive && f.role = 1 && (f.took < s.tookAt || (f.took = s.tookAt && !s.winsOver f.prefer f.id)) then
    s.setChange (s.nextBlock + 1) true true
  else s

/-- HELLO (R318). -/
def execHello (f : FoldFrame) (t : Nat) (s : State) : Host.Outcome State Fault Refusal :=
  if s.gated 17 then .next (s.atRaw t) else
  let s := s.atRaw t
  .next (if !s.on R.FLD_CTRL_EN then s else (s.hearFrame f).arbitrate f)

/-- FLAGS of a received frame, as FLD_PARTNER shows them. -/
def FoldFlags (f : FoldFrame) : Nat :=
  f.role.toNat + 4 * b2n f.stop + 8 * b2n f.degraded + 16 * b2n f.final + 32 * b2n f.switch + 64 * b2n f.prefer + 128 * b2n f.last

/-- HEARTBEAT (R320): a standby hands over from a partner that has stopped, with s the second boundary after its first STOP heartbeat (R325). -/
def execHeartbeat (f : FoldFrame) (t : Nat) (s : State) : Host.Outcome State Fault Refusal :=
  if s.gated 17 then .next (s.atRaw t) else
  let s := s.atRaw t
  .next (if !s.on R.FLD_CTRL_EN then s
    else
      let had := s.on R.FLD_STATUS_PARTNER_STOP
      let s := ((s.wr R.FLD_PARTNER_MAJOR f.major).wr R.FLD_PARTNER_MINOR f.minor).wr R.FLD_PARTNER_FLAGS (FoldFlags f)
      let s := (s.wr R.FLD_STATUS_PARTNER_STOP (b2n f.stop)).wr R.FLD_STATUS_PARTNER_DEG (b2n f.degraded)
      let s := ((s.foldBeat.hearFrame f).arbitrate f).bothActive f
      if f.stop && !had && s.standsBy && s.fwRuns then s.setChange (s.nextBlock + 1) false true else s)

/-- FOLD_BLOCK_LOCK_LOSS (R319). -/
def execFoldBlockLockLoss (lost : Bool) (t : Nat) (s : State) : Host.Outcome State Fault Refusal :=
  if s.gated 17 then .next (s.atRaw t) else
  let s := s.atRaw t
  .next (if lost then s.bump R.FLD_CNT_LINK_DOWN_COUNT else s)

/-- PATTERN (R226, R319): bit errors of the partner's pattern are counted, to be returned to it. -/
def execPattern (errors : BitVec 32) (t : Nat) (s : State) : Host.Outcome State Fault Refusal :=
  if s.gated 17 then .next (s.atRaw t) else
  let s := s.atRaw t
  .next (if s.on R.FLD_CTRL_EN then s.setMir { s.mir with patErr := errors.toNat } else s)

/-! ### The state copy (R321, R322, R166) -/

/-- Is a register part of the per-block state copy: routes, gains, EQ, delays, limiters, FIR_SET and FIR_GEN of the mix fabric, and transmit sequence numbers? -/
def mirrored (a : Nat) : Bool :=
  (0x40201000 ≤ a && a < 0x40300000 && !(0x40260000 ≤ a && a % 1024 = 16)) || (0x40485000 ≤ a && a < 0x40487000 && a % 128 = 32)

/-- What changed between two sparse tables: every key of either whose values differ. -/
def changedKeys {α : Type} [DecidableEq α] (d : α) (old new : Cells α) : List Nat :=
  (dedup (old.keys ++ new.keys)).filter (fun k => old.get d k ≠ new.get d k)

/-- The mirrored state as it stands. -/
def State.copyBase (s : State) : CopyBase :=
  { objs := s.geo.objs, gains := s.mix.gains, regs := s.regs.filter (fun p => mirrored p.1), sched := s.sched, plays := s.plays }

/-- The records of an object, a gain path, a register. -/
def State.itemObj (s : State) (o : Nat) : CopyItem := .obj o (s.obj o)
def State.itemGain (s : State) (p : Nat) : CopyItem := .gain p (s.gainPath p)
def State.itemReg (s : State) (a : Nat) : CopyItem := .reg a (s.regs.get 0 a) (s.live.get 0 a)

/-- The records that changed since the last copy. -/
def State.changedItems (s : State) : List CopyItem :=
  let b := s.mir.base
  (changedKeys objReset b.objs s.geo.objs).map s.itemObj ++ (changedKeys gainReset b.gains s.mix.gains).map s.itemGain ++
    (changedKeys 0 b.regs (s.regs.filter (fun p => mirrored p.1))).map s.itemReg ++
    (if b.sched = s.sched then [] else [.scheds s.sched]) ++ (if b.plays = s.plays then [] else [.plays s.plays])

/-- Registers of the state copy by their numbers modulo 64. -/
def regClassOf (a : Nat) : Nat := a / 4 % 64

/-- The mirrored registers of a class that differ from reset, as written or in force. -/
def State.regsOfClass (s : State) (r : Nat) : List Nat :=
  dedup ((s.regs.keys ++ s.live.keys).filter (fun a => mirrored a && regClassOf a = r))

/-- One sixty-fourth of the records, in rotation by their number: every record of the class, those at reset too (R321). -/
def State.rotation (s : State) (k : Nat) : List CopyItem :=
  let r := k % 64
  [.objClass r (s.geo.objs.filter (fun p => p.1 % 64 = r)), .gainClass r (s.mix.gains.filter (fun p => p.1 % 64 = r)),
   .regClass r ((s.regsOfClass r).map (fun a => (a, s.regs.get 0 a, s.live.get 0 a)))] ++
    (if r = 0 then [.scheds s.sched, .plays s.plays] else [])

/-- Envelopes and FIR_SET of every output. -/
def State.itemChains (s : State) : List CopyItem :=
  s.presentOutputs.map (fun o => .chain o (s.chain o).g (s.rd (R.MIX_OUT_FIR_FIR_SET o)))

/-- Does this unit send state copies: ACTIVE, with a partner of its own major, not stopped, and none after the FINAL copy (R317, R319, R325)? -/
def State.sendsCopies (s : State) : Bool :=
  s.on R.FLD_CTRL_EN && s.role = roleActive && s.fwRuns && s.mir.partner.isSome && !s.on R.FLD_STATUS_VER_ERR && !s.mir.finalSent

/-- BULK follows COPY on the lane (R319): with each copy one waiting transfer goes (DESIGN CHOICE, log entry 26). -/
def State.sendBulk (s : State) : State :=
  match s.mir.bulkOut with
  | [] => s
  | _ :: rest => if s.on R.FLD_STATUS_FOLD_UP then (s.setMir { s.mir with bulkOut := rest }).sendFold 4 false false (rest = []) else s

/-- COPY_FIX (R321): the copy of the block in progress, once, from 125.00 µs before its end on. `room` is how many changed records fit; the rest follow later, oldest first, with BACKLOG set. The
copy before a handover carries SWITCH; the last copy of S5 carries FINAL, and this unit then leaves (R325, R372). -/
def execCopyFix (room : Nat) (t : Nat) (s : State) : Host.Outcome State Fault Refusal :=
  if s.gated 17 then .next (s.atRaw t) else
  let s := s.atRaw t
  let k := s.tm.blockCount
  .next (if !s.sendsCopies || decide (s.now + cut < s.nextBoundary) || s.mir.sent.any (fun c => c.k = k) then s
    else
      let due := s.mir.backlog ++ s.changedItems
      let switch : Bool := match s.mir.change with | some x => x.leaving && decide (x.s = k + 1) | none => false
      let final : Bool := s.rd R.SUP_STATUS_STAGE = 5 && !s.mir.finalSent
      let c : CopyOut := ⟨k, switch, final, decide (room < due.length), due.take room ++ s.rotation k ++ s.itemChains ++ [.blockCount k]⟩
      let clean := c.backlog = false && s.mir.bulkOut = [] && s.on R.FLD_STATUS_FOLD_UP
      let s := s.setMir { s.mir with sent := some c, backlog := due.drop room, base := s.copyBase, inRow := if clean then min 64 (s.mir.inRow + 1) else 0,
                                     finalSent := s.mir.finalSent || final }
      let s := ((s.sendFold 3 final switch true).sendBulk).showPartner
      if final then s.setChange (k + 2) true true else s)

/-- A register of a copy takes its words. -/
def State.copyReg (s : State) (a v l : Nat) : State := { s with regs := s.regs.set 0 a v, live := s.live.set 0 a l }

/-- Is a waiting change this unit's own: a microphone gate, or a reply? -/
def Sched.isOwn (x : Sched) : Bool :=
  match x.act with
  | .slReply _ _ _ | .gate _ _ => true
  | .param _ p _ => p = 1 || p = 2 || p = 3 || p = 8
  | _ => false

/-- An object's record of a committed copy. Its gate is bound to this unit's own microphone (R22, R23). -/
def State.copyObj (s : State) (o : Nat) (x : ObjSt) : State :=
  (s.setObj o x).bindObj s.tm.blockCount o (gateOf o (x.hist.last objRecReset).source.toNat)

/-- One record of a committed copy, or a class of them: what the class does not list takes its reset value. -/
def State.copyItem (s : State) : CopyItem → State
  | .obj o x => s.copyObj o x
  | .gain p g => s.setGainPath p g
  | .reg a v l => if mirrored a then s.copyReg a v l else s
  | .scheds xs => { s with sched := xs.filter (fun x => !x.isOwn) ++ s.sched.filter Sched.isOwn }
  | .plays xs => { s with plays := xs }
  | .chain o g set => ((s.setChain o { s.chain o with g := g }).wr (R.MIX_OUT_FIR_FIR_SET o) set).wrLive (R.MIX_OUT_FIR_FIR_SET o) set
  | .blockCount _ => s
  | .objClass r xs =>
    (dedup ((s.geo.objs.keys.filter (fun o => o % 64 = r)) ++ xs.map Prod.fst)).foldl (fun s o => s.copyObj o (Cells.get objReset xs o)) s
  | .gainClass r xs =>
    (dedup ((s.mix.gains.keys.filter (fun p => p % 64 = r)) ++ xs.map Prod.fst)).foldl (fun s p => s.setGainPath p (Cells.get gainReset xs p)) s
  | .regClass r xs =>
    (dedup (s.regsOfClass r ++ (xs.map Prod.fst).filter mirrored)).foldl (fun s a =>
      match xs.find? (fun x => x.1 = a) with
      | some x => s.copyReg a x.2.1 x.2.2
      | none => s.copyReg a 0 0) s

/-- Is a record of a copy left out by the unit that is LEAVING: the state of chains that still present its last block, which every later copy brings again? -/
def CopyItem.waits : CopyItem → Bool
  | .chain _ _ _ => true
  | _ => false

/-- A copy is committed, or discarded whole (R322). -/
def State.takeCopy (s : State) (f : FoldFrame) (c : CopyIn) : State :=
  if !c.good || f.block ≠ s.tm.blockCount then (s.bump R.FLD_CNT_COPY_FAIL_COUNT).breakRun
  else
    let gap := match s.mir.lastCopy with | some j => c.k - j - 1 | none => 0
    let s := s.count R.FLD_CNT_COPY_GAP_COUNT gap
    let s := (if s.role = roleLeaving then c.items.filter (fun x => !CopyItem.waits x) else c.items).foldl State.copyItem s
    let run := if gap = 0 && !c.backlog && !s.mir.bulkIn then min 64 (s.mir.inRow + 1) else 0
    (s.setMir { s.mir with lastCopy := some c.k, inRow := run }).showPartner

/-- Does this unit take copies: STANDBY, LEAVING, which counts copies s onward, or the new active unit that still waits for copy s − 1 (R322, R325)? -/
def State.takesCopies (s : State) (c : CopyIn) : Bool :=
  s.on R.FLD_CTRL_EN && !s.on R.FLD_STATUS_VER_ERR &&
    (s.standsBy || s.role = roleLeaving || (match s.mir.change with | some x => !x.leaving && x.byHandover && decide (x.s = c.k + 1) | none => false))

/-- The tap list of the block in progress is made anew from a copy committed after its boundary (R325: at most 175.00 µs after t(s)). -/
def State.reform (s : State) : State :=
  if s.role ≠ roleActive then s
  else s.reformList (match s.geo.late with | some p => p.taps | none => s.geo.cur.taps)

/-- COPY (R322): a frame of a copy; with LAST set the copy is committed or discarded. SWITCH sets the handover to the next boundary, FINAL the takeover at the first
boundary after the commit (R325). -/
def execCopy (f : FoldFrame) (c : CopyIn) (t : Nat) (s : State) : Host.Outcome State Fault Refusal :=
  if s.gated 17 then .next (s.atRaw t) else
  let s := s.atRaw t
  .next (if !s.takesCopies c then s
    else
      let s := s.hearFrame f
      let s := if f.switch && s.standsBy then s.setChange (c.k + 1) false true else s
      if !f.last then s
      else
        let s := (s.takeCopy f c).reform
        if f.final && s.standsBy && s.mir.lastCopy = some c.k then s.setChange s.nextBlock false true else s)

/-- One item of a BULK transfer (R322). -/
def State.bulkItem (s : State) : BulkItem → State
  | .reg a v => { s with regs := s.regs.set 0 a v }
  | .staged w v => s.setStaged w v
  | .bank b w v => s.setBank b w v
  | .staging o f => { s with mix := { s.mix with staging := s.mix.staging.set stagingReset o f } }
  | .fir o set f => s.setFir o set f
  | .msg m x => s.setMsg m (some x)
  | .enrol i e => { s with enrol := s.enrol.set none i e }

/-- BULK (R322): content that the state copy does not carry; `outstanding` while more is to come. -/
def execBulk (f : FoldFrame) (items : List Machine.BulkItem) (outstanding : Bool) (t : Nat) (s : State) : Host.Outcome State Fault Refusal :=
  if s.gated 17 then .next (s.atRaw t) else
  let s := s.atRaw t
  .next (if !s.on R.FLD_CTRL_EN || !(s.standsBy || s.role = roleLeaving) || f.major ≠ s.mir.major then s
    else
      let s := items.foldl State.bulkItem s
      let s := s.setMir { s.mir with bulkIn := outstanding }
      if outstanding then s.breakRun else s)

/-! ### Takeover and handover (R324, R325, R288) -/

/-- Every resource of the unit becomes unowned and keeps its parameters (R288, R2). -/
def State.unownAll (s : State) : State := { s with owner := [], former := [] }

/-- The takeover boundary `k` of the unit that takes over (R324) or is handed the role (R325) (DEDUCED, log entry 35). -/
def State.takeNow (s : State) (k : Nat) (byHandover : Bool) : State :=
  let s := ((s.setRole roleActive).bump R.FLD_CNT_TAKEOVER_COUNT).wr64 R.FLD_TAKEOVER_LO_BLOCK R.FLD_TAKEOVER_HI_BLOCK k
  let s := ((s.unownAll.zeroChains).unwriteSlots).startContexts k
  let s := s.freshLists
  let s := { s with mix := { s.mix with fades := s.mix.fades ++ [(k, true)] }, hst := { s.hst with renderFrom := k } }
  let s := s.setMir { s.mir with base := s.copyBase, backlog := [], inRow := 0 }
  let s := s.evMirror 0
  if byHandover then s
  else
    let s := (s.setActo true).setMir { s.mir with change := none }
    s.startAll true (fun _ _ => true)

/-- Boundary `k` of the unit that leaves (R325): it renders nothing from block `k` on, fades block k − 1 out, and takes copies from copy k on (R322). -/
def State.leaveNow (s : State) (k : Nat) : State :=
  ({ s.setRole roleLeaving with mix := { s.mix with fades := s.mix.fades ++ [(k - 1, false)] } }.setMir
    { s.mir with inRow := 0, lastCopy := none, bulkIn := false }).showPartner

/-- The role change that a block boundary brings (R23, R325). -/
def State.roleBoundary (s : State) (k : Nat) : State :=
  match s.mir.change with
  | none => s
  | some x =>
    if k < x.s then s
    else if x.leaving then (if s.role = roleActive then s.leaveNow k else s)
    else if s.standsBy then s.takeNow k x.byHandover else s

/-- HANDOVER_CHANNEL_START (R325): from 1,333.33 µs after t(s), two blocks at 48 kHz, on, the new active unit starts its enabled channels under HALF_DUTY,
silent (DEDUCED, log entry 118). -/
def execHandoverChannelStart (t : Nat) (s : State) : Host.Outcome State Fault Refusal :=
  let s := s.atRaw t
  .next (match s.mir.change with
    | some x =>
      if x.leaving || !x.byHandover || s.role ≠ roleActive || decide (s.now < s.tBlock (x.s + 2)) then s
      else s.startAll true (fun _ _ => true)
    | none => s)

/-- The leaving unit becomes STANDBY (R325, R288): gates low, FLD_ACTO low, everything its sessions own released, staging sets gone. -/
def State.becomeStandby (s : State) : State :=
  let s := (((s.setRole roleStandby).holdChannels).setActo false).silentChains (fun _ => 131072)
  let s := (List.range 8).foldl (fun s i => (s.releaseRefs i (s.ownedBy i)).setSession i { s.session i with staging := [] }) s
  let s := s.setMir { s.mir with change := none }
  (if s.fwRuns then s.evMirror 1 else s).showPartner

/-- HANDOVER_END (R325): from 2,000.00 µs after t(s), three blocks at 48 kHz, on (DEDUCED, log entry 118). -/
def execHandoverEnd (t : Nat) (s : State) : Host.Outcome State Fault Refusal :=
  let s := s.atRaw t
  .next (match s.mir.change with
    | some x =>
      if s.now < s.tBlock (x.s + 3) then s
      else if x.leaving then (if s.role = roleLeaving then s.becomeStandby else s)
      else if x.byHandover && s.role = roleActive then (s.setActo true).setMir { s.mir with change := none }
      else s
    | none => s)

end Sys2Proof.Machine
end

