-- ==== Sys2Proof/Machine/Supply.lean ====
section
/-! DEFINITION. Supply monitoring and function shedding (19_supply_shedding.md R367–R379, R83, R148, R211, R216, R268). -/

namespace Sys2Proof.Machine

open Sys2Proof

def State.stage (s : State) : Nat := s.rd R.SUP_STATUS_STAGE

/-! ### What is shed (R373, R374) -/

/-- The class a zone counts as for shedding: an unowned one counts as class 3 (R373). -/
def State.shedClass (s : State) (z : Nat) : Nat := min 3 (s.zoneClass z)

/-- Is a source a library message stored with EVAC? -/
def State.evacSource (s : State) (src : Nat) : Bool := 0xA000 ≤ src && src < 0xA100 && s.msgEvac (src - 0xA000)

/-- Is an object shed in a stage (R374)? (DEDUCED, log entry 19) (DEDUCED, log entry 39) -/
def State.objShed (s : State) (n k o : Nat) : Bool :=
  let r := s.objRec o k
  let c := s.shedClass r.homeZone.toNat
  (1 ≤ n && c = 3) || (2 ≤ n && c ≠ 0 && r.priority.toNat < s.rd R.SUP_EVAC_PRIO) ||
    (4 ≤ n && c ≠ 0 && !s.evacSource r.source.toNat)

/-- Is a bus shed in a stage? A bus has no PRIORITY, so S2 looks at the owner alone (DEDUCED, log entry 19). -/
def State.busShed (s : State) (n b : Nat) : Bool :=
  let c := s.shedClass (s.rdLive (R.MIX_BUS_CFG_HOME_ZONE b))
  (1 ≤ n && c = 3) || (2 ≤ n && c ≠ 0)

/-- A shed mute is set or lifted from block `k` (R373). One that begins on something not enabled in the block before mutes it from its first sample. -/
def State.setShed (s : State) (key k : Nat) (want was : Bool) : State :=
  let g := s.mix.sheds.get [] key
  if Gate.openAt false g k = want then s
  else { s with mix := { s.mix with sheds := s.mix.sheds.set [] key (Gate.put false g (if want && !was then k - 1 else k) want) } }

/-- The shed mutes of stage `n` from block `k`; they follow owners, priorities and sources at every boundary (R377). -/
def State.shedMutes (s : State) (n k : Nat) : State :=
  let s := s.geo.objs.keys.foldl (fun s o =>
    s.setShed (pathObj o) k (s.objShed n k o) (s.sup.stageAt = k || (0 < k && (s.objRec o (k - 1)).enable))) s
  s.activeBuses.foldl (fun s b =>
    s.setShed (pathBus b) k (s.busShed n b) (s.sup.stageAt = k || (0 < k && s.rdAt (k - 1) (R.MIX_BUS_CFG_EN b) = 1))) s

/-! ### Channels at S4 (R211) -/

/-- Does an output lie in an alarm zone of the active bank (R303)? (DEDUCED, log entry 79) -/
def State.alarmOutput (s : State) (o : Nat) : Bool :=
  bitOf (s.bankWord s.activeBank (0x1400 + (s.layout s.activeBank o).zone)) 31

/-- Is a channel spared at S4: an alarm-zone channel, or the fallback of one? A B-end names its A-end's output (DEDUCED, log entry 79). -/
def State.chSpared (s : State) (n : Nat) : Bool :=
  s.alarmOutput (s.rd (R.PWS_CFG_OUTPUT n)) ||
    (List.range 24).any (fun p => s.on (R.PWS_CFG_FB_EN p) && s.rd (R.PWS_CFG_FB p) = n && s.alarmOutput (s.rd (R.PWS_CFG_OUTPUT p)))

/-- Channels that shedding stops: those that run, start, probe or wait for a probe; at S4 but for those spared, at S5 all (R211). -/
def State.chStops (s : State) (n : Nat) : Bool :=
  s.on (R.PWS_CFG_EN n) && [stStarting, stRunning, stWait, stProbe, stRestart].contains (s.psState n) && (s.stage = 5 || !s.chSpared n)

def State.shedChannels (s : State) : State :=
  (List.range 24).foldl (fun s n =>
    if s.chStops n then
      let s := s.psStop n (s.ownHalf n)
      s.setPs n { s.psSt n with shed := true }
    else s) s

/-- The channels that shedding stopped start under their START mode (R211, R378); a B-end only while its open stands (R209). -/
def State.unshedChannels (s : State) : State :=
  (List.range 24).foldl (fun s n =>
    if !(s.psSt n).shed then s
    else if s.rd (R.PWS_CFG_ROLE n) ≠ 2 then s.psStartOwn n
    else
      let s := s.setPs n { s.psSt n with shed := false }
      if s.on (R.PWS_FAULT_OPEN n) then (s.psStart n true false).flag (R.PWS_STATUS_LOOP_DRIVE n) else s.psIdle n) s

/-! ### Entering a stage (R374) -/

/-- A FIR_INSTALL whose block s is not before `k` is abandoned, and its reply is SHED (R82). -/
def State.shedInstalls (s : State) (k : Nat) : State :=
  let isGone (x : Install) : Bool := !x.done && (match x.f with | some f => decide (k < f + 32) | none => true)
  let gone := s.mix.installs.filter isGone
  let s := { s with mix := { s.mix with installs := s.mix.installs.filter (fun x => !isGone x) } }
  (dedup (gone.map (fun (x : Install) => x.op))).foldl (fun s p => s.endLong p .shed []) s

/-- Cores 16 to 31 that are idle in TAKE. -/
def State.idleHigh (s : State) : Nat :=
  ((List.range 32).filter (fun c => 16 ≤ c && bitOf s.sup.cut c && (s.core c).waiting = some .take && !s.coreGated c)).foldl (fun m c => m + 2 ^ c) 0

/-- In S3 the cores out of rotation are gated once they are idle (R118). -/
def State.gateIdleHigh (s : State) : State :=
  if s.idleHigh = 0 then s else s.writeCoreGate (s.rd R.CLK_CORE_GATE_VALUE ||| s.idleHigh)

/-- S1 (R216, R148, R376, R395): an open firmware transfer is abandoned, unless its FW_COMMIT runs. -/
def State.enterS1 (s : State) : State :=
  let s := (s.tallySuspend.wr R.OST_IDLE_CTRL_EN 0).endMaint
  if s.devBusy.isSome then s else { s with fw := none }

/-- S2 (R199, R268). -/
def State.enterS2 (s : State) : State := s.flag R.PWS_CTRL_SAG_FULL

/-- Transmit contexts with ALARM clear stop while S2 or a higher stage is in force (R268). -/
def State.holdContexts (s : State) : State :=
  { s with stx := (List.range 64).foldl (fun c i =>
      if s.on (R.STR_TX_W0_ALARM i) then c else c.modify ⟨false, 0⟩ i (fun x => { x with held := true })) s.stx }

/-- S3 (R118, R62, R83). -/
def State.enterS3 (s : State) (k : Nat) : State :=
  let s := (s.wr R.HST_CTRL_CLAMP 1).wrLive R.HST_CTRL_CLAMP 1
  let cut := ((List.range 32).filter (fun c => 16 ≤ c && s.inRot c)).foldl (fun m c => m + 2 ^ c) 0
  let s := (List.range 32).foldl (fun s c => if bitOf cut c then s.setRot c false else s) { s with sup := { s.sup with cut := cut } }
  let h := s.mix.headOnly.filter (fun p => p.1 ≤ k)
  let s := { s with mix := { s.mix with headOnly := if Hist.at false h k then h else Hist.push h k true } }
  s.shedInstalls k

/-- S4 (R307, R211). -/
def State.enterS4 (s : State) (k : Nat) : State := (s.shedMsgs k).shedChannels

/-- DEDUCED, log entry 78. -/
def State.enterStage (s : State) (k n : Nat) : State :=
  match n with
  | 1 => s.enterS1
  | 2 => s.enterS2
  | 3 => s.enterS3 k
  | 4 => s.enterS4 k
  | _ => s

/-! ### Leaving a stage (R378) -/

def State.leaveStage (s : State) (k n : Nat) : State :=
  match n with
  | 1 => s.tallyResume.flag R.OST_IDLE_CTRL_EN
  | 2 =>
    let s := s.wr R.PWS_CTRL_SAG_FULL 0
    { s with stx := s.stx.map (fun p => (p.1, if p.2.held then { held := false, start := max p.2.start (32 * k) } else p.2)) }
  | 3 =>
    let s := (s.wr R.HST_CTRL_CLAMP 0).wrLive R.HST_CTRL_CLAMP 0
    let s := s.writeCoreGate (s.rd R.CLK_CORE_GATE_VALUE &&& (0xFFFFFFFF ^^^ s.sup.cut))
    let s := (List.range 32).foldl (fun s c => if bitOf s.sup.cut c then s.setRot c true else s) s
    let f0 := ceilDiv k 32 * 32
    { s with mix := { s.mix with headOnly := (f0 + 512, false) :: s.mix.headOnly }, sup := { s.sup with cut := 0 } }
  | 4 => s.unshedChannels
  | _ => s

/-- The actions of the stages between what is applied and stage `n`, upward or downward. Stages entered in SLEEP take effect at its exit (R361). -/
def State.applyStages (s : State) (k : Nat) : State :=
  let n := min 4 s.stage
  let a := s.sup.applied
  let up := (List.range 5).filter (fun i => a < i && i ≤ n)
  let down := ((List.range 5).filter (fun i => n < i && i ≤ a)).reverse
  let s := up.foldl (fun s i => s.enterStage k i) s
  let s := down.foldl (fun s i => s.leaveStage k i) s
  let s := { s with sup := { s.sup with applied := n } }
  let s := s.shedMutes n k
  let s := if 2 ≤ n then s.holdContexts else s
  if 3 ≤ n then s.gateIdleHigh else s

/-! ### Decisions (R367, R370, R371) -/

/-- V_f in mV from the sum of the 1,920 bus codes of the last 20 ms (R367). -/
def State.busMean (s : State) (sum : Int) : Nat := (rheDiv (sum * s.rd R.SUP_BUS_CAL_VALUE) 491520).toNat

/-- The threshold of S2, S3 or S4 in mV. -/
def State.thr (s : State) (n : Nat) : Nat :=
  10 * (if n = 2 then s.rd R.SUP_THR_S2_VALUE else if n = 3 then s.rd R.SUP_THR_S3_VALUE else s.rd R.SUP_THR_S4_VALUE)

/-- Does a stage trigger? Without a V_f nothing is decided on the bus. -/
def State.triggers_ (s : State) (vf : Option Nat) (n : Nat) : Bool :=
  if n = 1 then s.sup.lost
  else match vf with
    | some v => decide (v < s.thr n)
    | none => false

/-- Does the clear condition of a stage hold? -/
def State.clears (s : State) (vf : Option Nat) (n : Nat) : Bool :=
  if n = 1 then s.on R.SUP_STATUS_MAINS
  else match vf with
    | some v => decide (s.thr n + 10 * s.rd R.SUP_HYST_VALUE ≤ v)
    | none => false

/-- The highest stage of S1–S4 that triggers, or 0. -/
def State.topTrigger (s : State) (vf : Option Nat) : Nat := ([4, 3, 2, 1].find? (s.triggers_ vf)).getD 0

def State.setSup (s : State) (x : Sup) : State := { s with sup := x }

/-- Blocks of a dwell in ms. -/
def State.dwellBlocks (s : State) : Nat := ceilDiv (s.rd R.SUP_DWELL_VALUE * s.fs) 32000

/-- The stage that the last evaluation chose comes into force at block `k` (R371). -/
def State.stageForce (s : State) (k : Nat) : State :=
  match s.sup.coming with
  | none => s
  | some n =>
    let was := s.stage
    let s := (s.setSup { s.sup with coming := none, stageAt := k, clearAt := none }).wr R.SUP_STATUS_STAGE n
    let s := s.wr64 R.SUP_STAGE_BLK_LO_VALUE R.SUP_STAGE_BLK_HI_VALUE k
    let mv := s.rd R.SUP_BUS_VALUE
    if was < n then
      ((List.range (n + 1)).filter (fun i => was < i)).foldl (fun s i => (s.bump R.SUP_CNT_ENTER_VALUE).evSupply i 0 mv) s
    else s.evSupply was 1 mv

/-- The dwell that runs is over at the boundary of block `k`: [t_a, t_a + dwell) holds no later boundary (R371). Without a V_f only S1 may be left (R367). -/
def State.dwellOver (s : State) (vf : Option Nat) (k : Nat) : Bool := (s.stage = 1 || vf.isSome) && s.sup.clearAt.any fun a => a + s.sup.dwell ≤ k

/-- The evaluation at the boundary of block `k` (R371). -/
def State.evaluate (s : State) (k : Nat) (vf : Option Nat) : State :=
  let n := s.stage
  let top := s.topTrigger vf
  if n < top then (s.setSup { s.sup with coming := some top, clearAt := none }).wr R.SUP_STATUS_DWELL 0
  else if n = 0 then s.wr R.SUP_STATUS_DWELL 0
  else if !s.dwellOver vf k && !s.clears vf n then (s.setSup { s.sup with clearAt := none }).wr R.SUP_STATUS_DWELL 0
  else
    let s := match s.sup.clearAt with
      | some _ => s
      | none => s.setSup { s.sup with clearAt := some k, dwell := s.dwellBlocks }
    let s := s.flag R.SUP_STATUS_DWELL
    if (s.sup.clearAt.getD k) + s.sup.dwell ≤ k then s.setSup { s.sup with coming := some (n - 1) } else s

/-- The supply monitor at the boundary of block `k`: SUP_BUS, the stage that comes into force, its actions, the evaluation (R367, R371). `bus` is the sum of the
last 1,920 bus codes, none while they have not all been taken. -/
def State.supplyBoundary (s : State) (k : Nat) (bus : Option Int) (awake : Bool) : State :=
  let vf := bus.map s.busMean
  let s := match vf with | some v => s.wr R.SUP_BUS_VALUE (min 65535 v) | none => s
  let s := if s.stage = 5 then s else s.stageForce k
  let s := if awake then s.applyStages k else s
  if s.stage = 5 || !s.on R.SUP_CTRL_ENABLE then s else s.evaluate k vf

/-! ### Commands -/

/-- MAINS_DEBOUNCE (R369): MAINS_OK has kept a level for 50 ms. -/
def execMainsDebounce (high : Bool) (t : Nat) (s : State) : Host.Outcome State Fault Refusal :=
  let s := s.atRaw t
  let present := high != s.on R.SUP_CTRL_MAINS_POL
  .next (if present then (s.setSup { s.sup with lost := false }).flag R.SUP_STATUS_MAINS
    else if s.sup.lost then s
    else ((s.setSup { s.sup with lost := true }).wr R.SUP_STATUS_MAINS 0).bump R.SUP_CNT_MAINS_LOST_VALUE)

/-- BROWNOUT (R372): S5 is in force from this instant; every channel stops under its stop mode, and lower actions follow at the next boundary
(DEDUCED, log entry 78). -/
def execBrownout (t : Nat) (s : State) : Host.Outcome State Fault Refusal :=
  let s := s.atRaw t
  .next (if s.stage = 5 then s
    else
      let k := s.tm.blockCount
      let s := ((s.setSup { s.sup with coming := none, stageAt := k, clearAt := none }).wr R.SUP_STATUS_STAGE 5).wr R.SUP_STATUS_DWELL 0
      let s := ((s.flag R.SUP_STATUS_BROWNOUT).bump R.SUP_CNT_BROWNOUT_VALUE).bump R.SUP_CNT_ENTER_VALUE
      let s := (s.wr64 R.SUP_STAGE_BLK_LO_VALUE R.SUP_STAGE_BLK_HI_VALUE k).evSupply 5 0 (s.rd R.SUP_BUS_VALUE)
      s.shedChannels)

end Sys2Proof.Machine
end

