-- ==== Sys2Proof/Machine/Commit.lean ====
section
/-! DEFINITION. What the firmware does at every configuration commit: the checks that refuse it whole (R79, R147, R152, R241, R345, R346, R337), the rings and long rings
it gives (R53, R63), the receive length it raises (R236). -/

namespace Sys2Proof.Machine

open Sys2Proof

/-- A register takes a word, in the form registers are kept in. -/
def State.setReg (s : State) (a v : Nat) : State :=
  let rst := match rowOf a with
    | some r => if s.straps.rate96 then r.rst96 else r.rst
    | none => 0
  { s with regs := s.regs.set 0 a ((v % 2 ^ 32) ^^^ rst) }

/-- The word of a register, last value written. -/
def State.getReg (s : State) (a : Nat) : Nat :=
  let rst := match rowOf a with
    | some r => if s.straps.rate96 then r.rst96 else r.rst
    | none => 0
  s.regs.get 0 a ^^^ rst

/-- The configuration as committed: changes of RW registers that wait for their boundary are in it. -/
def State.committed (s : State) : State :=
  s.sched.foldl (fun s x => match x.act with
    | .reg a v => if a = R.OST_FLOW_DATA_w.addr then s.setFlow (v / 2) { s.flow (v / 2) with ordered := v % 2 = 1 } else s.setReg a v
    | .bind o m => { s with bound := s.bound.set 0 o m }
    | _ => s) s

/-! ### DRAM demand (R79, R345, R346) -/

/-- Is the delay ring of an output read: D − Le at least 32, as committed? -/
def State.ringRead (s : State) (o : Nat) : Bool :=
  let d := s.rd (R.MIX_OUT_CFG_DELAY o)
  let le := if s.on (R.MIX_OUT_LIM_LIM_EN o) then min (min 32 (s.rd (R.MIX_OUT_LIM_LIM_LOOK o))) d else 0
  32 ≤ d - le

/-- B_chain of R79, times 512. -/
def State.bChain (s : State) : Nat :=
  s.fs * (s.presentOutputs.map (fun o =>
    4640 * partsMid (s.firTaps o) + 4616 * partsTail (s.firTaps o) + 1280 + 1280 * b2n (s.ringRead o))).sum

/-- The ring of a source has a long ring, as committed. -/
def State.hasLong (s : State) (src : Nat) : Bool :=
  match s.ringOf src with
  | some r => bitOf (s.rd (R.HST_LONG_MAP_LONG (r / 32))) (r % 32)
  | none => false

/-- Long rings. -/
def State.longCount (s : State) : Nat := (s.hst.rings.filter (fun p => bitOf (s.rd (R.HST_LONG_MAP_LONG (p.1 / 32))) (p.1 % 32))).length

/-- Enabled objects as committed. -/
def State.enabledObjs (s : State) : List (Nat × ObjRec) := (s.geo.objs.filter (fun p => p.2.acc.enable)).map (fun p => (p.1, p.2.acc))

/-- B_long, B_land and B_fix of R346. -/
def State.bLong (s : State) : Nat := s.fs / 32 * 240 * ((s.enabledObjs.filter (fun p => s.hasLong p.2.source.toNat)).map (fun p => 2 * p.2.k.toNat)).sum
def State.bLand (s : State) : Nat := s.fs / 32 * 80 * s.longCount
def State.bFix (s : State) : Nat := 70000000 + s.fs * 6942

/-- The DRAM that a configuration takes, in bytes (R345). -/
def State.dramUse (s : State) : Nat :=
  328320 * s.longCount + 134217728 +
    (s.presentOutputs.map (fun o => 164480 + 3 * (1160 * partsMid (s.firTaps o) + 4616 * partsTail (s.firTaps o)) +
      (if s.mix.staging.any (fun p => p.1 = o) then 49154 else 0))).sum

/-- Does a configuration need DRAM at all (R337)? -/
def State.needsDram (s : State) : Bool :=
  0 < s.longCount || s.presentOutputs.any (fun o => 1024 < s.firTaps o || s.ringRead o) ||
    s.sourcesUsed.any (fun c => 0xA000 ≤ c && c < 0xA100)

/-- The bandwidth rule (R346): B_dem ≤ 0.70 × B_use. With no channel in service a configuration that needs no DRAM is within it (R337) (DEDUCED,
log entry 28). -/
def State.bandwidthOk (s : State) : Bool :=
  if s.celChannels = 0 then !s.needsDram
  else decide ((s.bChain + 512 * (s.bLong + s.bLand + s.bFix)) * 4266 * 10 ≤ 7 * s.useBw * 512)

/-- May the DRAM in service carry the configuration (R337, R345)? (DEDUCED, log entry 28) -/
def State.dramOk (s : State) : Bool := if s.celChannels = 0 then !s.needsDram else decide (s.dramUse ≤ s.dramSize)

/-- Bytes per second num / den in MB/s; whether it is rounded down or up is free. -/
def mbPerS (num den : Nat) : Nat :=
  let d := den * 1000000
  clampN (num / d) (ceilDiv num d) (Config.mbRound num den)

/-- The DEVICE event of R313: kind, TRAINED, the demand and 0.70 × the usable bandwidth. -/
def State.budgetEvent (s : State) (kind : Nat) : State :=
  s.eventAll 0x0E09 (leBytes 1 kind ++ leBytes 1 (s.rd R.CEL_STATUS_TRAINED) ++ leBytes 2 0 ++
    leBytes 4 (mbPerS (s.bChain + 512 * (s.bLong + s.bLand + s.bFix)) 512) ++ leBytes 4 (mbPerS (7 * s.useBw) 42660))

/-- OVERBUDGET is set, with its DEVICE event, when a channel's loss leaves a demand beyond the rule; a commit within the rule clears it (R346). -/
def State.showBudget (s : State) : State :=
  if s.bandwidthOk then
    (if s.on R.CEL_STATUS_OVERBUDGET then (s.wr R.CEL_STATUS_OVERBUDGET 0).budgetEvent 1 else s)
  else if s.on R.CEL_STATUS_OVERBUDGET then s
  else (s.flag R.CEL_STATUS_OVERBUDGET).budgetEvent 0

/-! ### Long rings (R63) -/

/-- The distance in eighths of R36 from the farthest corner of a pasture to a point (DEDUCED, log entry 22). -/
def farCorner (h : PastureHdr) (p : Int × Int × Int) : Nat :=
  let far (o : Int) (n : Nat) (x : Int) : Nat := max (x - o).natAbs (x - (o + (n * h.edge : Nat))).natAbs
  let dx := far h.origin.1 h.nx p.1
  let dy := far h.origin.2.1 h.ny p.2.1
  let dz := far h.origin.2.2 h.nz p.2.2
  rheSqrt (65536 * (dx * dx + dy * dy + dz * dz))

/-- The outputs that the cells of a pasture name. -/
def State.pastureOutputs (s : State) (h : PastureHdr) : List Nat :=
  dedup ((List.range (h.nx * h.ny * h.nz)).flatMap (fun c => s.cellCandidates s.activeBank (h.cb + c)))

/-- The greatest tap delay an object may reach under the committed pastures and DOFF (DEDUCED, log entry 22): from the farthest corner of its
pasture. -/
def State.reach (s : State) (r : ObjRec) : Nat :=
  let bank := s.activeBank
  let rate := s.rd R.PST_SOUND_RATE_RATE
  let outs : List (Nat × Nat) :=
    if r.mode = 3 then [(r.doff.toNat, 0)]
    else if r.mode = 2 then (s.zoneOutputs r).map (fun o => (((s.layout bank o).prec + (r.doff.toNat : Int)).toNat, 0))
    else
      let h := s.pasture bank r.pasture.toNat
      if !h.present then []
      else (s.pastureOutputs h).map (fun o =>
        let l := s.layout bank o
        ((l.prec + (r.doff.toNat : Int)).toNat, if r.mode = 0 then rheDivNat (farCorner h l.pos * rate) (2 ^ 32) else 0))
  outs.foldl (fun m p => max m (p.1 + p.2)) 0

/-- The sources that need a long ring: one of their objects may reach 1,983 samples. -/
def State.longSources (s : State) : List Nat :=
  dedup ((s.enabledObjs.filter (fun p => 507648 ≤ s.reach p.2)).map (fun p => p.2.source.toNat))

/-- The firmware sets the bits of HST_LONG_MAP and LONG_EN (R63), from block `blk`. -/
def State.setLongMap (s : State) (blk : Nat) : State :=
  let ls := s.longSources
  let word (w : Nat) : Nat := (s.hst.rings.filter (fun p => p.1 / 32 = w && ls.contains p.2.source)).foldl (fun m p => m + 2 ^ (p.1 % 32)) 0
  let s := (List.range 32).foldl (fun s w =>
    if s.rd (R.HST_LONG_MAP_LONG w) = word w then s else s.wrNewest blk (R.HST_LONG_MAP_LONG w) (word w)) s
  if ls = [] || s.on R.HST_CTRL_LONG_EN then s else s.wrNewest blk R.HST_CTRL_LONG_EN 1

/-! ### MAXLEN (R236) -/

/-- A port's MAXLEN is raised, never lowered before reset. -/
def State.raiseMaxlen (s : State) (p n : Nat) : State :=
  if s.rd (R.MAC_MAXLEN_MAXLEN p) < n then s.wr (R.MAC_MAXLEN_MAXLEN p) n else s

/-! ### The commit -/

/-- Enabled buses that reach an output, as committed (R152). -/
def State.busesOf (s : State) (bs : List Nat) (o : Nat) : Nat :=
  let z := (s.layout s.activeBank o).zone
  (bs.filter (fun b => bitOf (s.rd (R.MIX_BUS_MASK_ZONES b (z / 32))) (z % 32))).length

/-- Buses enabled as committed. -/
def State.busesOn (s : State) : List Nat := (List.range 256).filter (fun b => s.on (R.MIX_BUS_CFG_EN b))

/-- No output is reached by more than 32 buses. -/
def State.busLimitOk (s : State) : Bool :=
  let bs := s.busesOn
  bs.length ≤ 32 || s.presentOutputs.all (fun o => s.busesOf bs o ≤ 32)

/-- The quantities of R5 and R6 that a commit can exceed: rings for sources. -/
def State.ringsOk (s : State) : Bool := s.sourcesUsed.length ≤ (if s.straps.rate96 then 512 else 1024)

/-- Rings and long rings for the configuration, from block `blk`. -/
def State.giveRings (s : State) (blk : Nat) : State := s.assignRings.setLongMap blk

/-- Does every filter and default that steers frames name an enabled ring, and has every enabled ring a size of 1–4,096 (R241, R249)? -/
def State.steeringOk (s : State) : Bool :=
  (List.range 3).all (fun p =>
    (List.range 32).all (fun f => !s.on (R.MAC_FLT_W0_EN p f) || s.on (R.MAC_FLT_W0_DROP p f) || s.on (R.MAC_RING_W1_EN p (s.rd (R.MAC_FLT_W2_RING p f)))) &&
    (s.on (R.MAC_RX_DEFAULT_DROP p) || s.on (R.MAC_RING_W1_EN p (s.rd (R.MAC_RX_DEFAULT_RING p)))) &&
    (List.range 16).all (fun r => !s.on (R.MAC_RING_W1_EN p r) || (1 ≤ s.rd (R.MAC_RING_W1_SIZE p r) && s.rd (R.MAC_RING_W1_SIZE p r) ≤ 4096)))

/-- The checks of a configuration commit on the state it would leave (R5, R147, R152, R241, R337, R345, R346) (DEDUCED, log entry 30). -/
def State.commitStatus (s : State) : Status :=
  let c := s.committed
  if !c.steeringOk then .badParam
  else if c.ringsOk && c.busLimitOk && c.capacityOk && c.bandwidthOk && c.dramOk then .ok else .limit

/-- A commit that passed: what the firmware sets, and OVERBUDGET. -/
def State.afterCommit (s : State) : State :=
  if s.committed.bandwidthOk && s.on R.CEL_STATUS_OVERBUDGET then s.showBudget else s

end Sys2Proof.Machine
end

