-- ==== Sys2Proof/Machine/Boot.lean ====
section
/-! DEFINITION. Resets, the boot ROM path, the configuration copy and the start of the firmware (20_boot_identity.md R380–R397). -/

namespace Sys2Proof.Machine

open Sys2Proof

/-! ### The configuration copy (R383) -/

/-- Does an address lie in a register window whose written fields are configuration (log entry 20)? -/
def configAddr (a : Nat) : Bool :=
  (0x20800000 ≤ a && a < 0x20810000) || (0x40000000 ≤ a && a < 0x40010000) || (0x40100000 ≤ a && a < 0x40110000) ||
    (0x40200000 ≤ a && a < 0x40500000) || (0x40600000 ≤ a && a < 0x40610000) || (0x50000000 ≤ a && a < 0x50050000) ||
    (0x50060000 ≤ a && a < 0x50080000) || (0x500A0000 ≤ a && a < 0x500B0000)

/-- A gain path as a copy keeps it: the held code and the mute, with nothing running. -/
def GainPath.settled (g : GainPath) : GainPath :=
  { g with segs := [⟨0, if g.mute then .muted else .const g.held⟩] }

/-- An object as a copy keeps it: the last accepted record, with nothing running. -/
def ObjSt.settled (x : ObjSt) : ObjSt :=
  { acc := x.acc, hist := [(0, x.acc)], pos := Pos.mm x.acc.pos, path := none, route := none }

/-- The words of the active bank, as the words of one bank. -/
def State.activeWords (s : State) : Cells Nat :=
  (s.geo.banks.filter (fun p => p.1 / 1048576 = s.activeBank)).map (fun p => (p.1 % 1048576, p.2))

/-- The coefficient sets in use, each as set 0 of its output. -/
def State.activeFirs (s : State) : Cells FirSet :=
  (s.mix.firs.filter (fun p => p.1 % 2 = s.rd (R.MIX_OUT_FIR_FIR_SET (p.1 / 2)))).map (fun p => (p.1 / 2 * 2, p.2))

/-- The content of the configuration copy that the last commit left (R383; DESIGN CHOICE, log entry 20). -/
def State.cfgCopy (s : State) : CfgCopy :=
  let c := s.committed
  { regs := (c.regs.filter (fun p => configAddr p.1 && p.2 &&& configMask p.1 ≠ 0)).map (fun p => (p.1, p.2 &&& configMask p.1)),
    objs := s.geo.objs.map (fun p => (p.1, p.2.settled)),
    gains := s.mix.gains.map (fun p => (p.1, p.2.settled)),
    bank := s.activeWords, staged := s.geo.staged, firs := s.activeFirs, ptp := s.ptp, bound := c.bound,
    speed := s.geo.speed, track := s.geo.track, enrol := s.enrol, triggers := s.triggers,
    ordered := (s.ost.flows.filter (fun p => p.2.ordered)).map Prod.fst }

/-- Register cells written over others. -/
def cellsOver (new old : Cells Nat) : Cells Nat := new.foldl (fun (r : Cells Nat) (p : Nat × Nat) => r.set 0 p.1 p.2) old

/-- What a stage, a hold or a lock had set, and the enables that the start gives again, stand at reset as the configuration is loaded. -/
def State.quiet (s : State) : State :=
  let s := ((((s.wr R.TLY_CTRL_SUSPEND 0).wr R.PWS_CTRL_SAG_FULL 0).wr R.HST_CTRL_CLAMP 0).wrLive R.HST_CTRL_CLAMP 0).wr R.MIX_SL_CTRL_HOLD 0
  ((s.wr R.TSU_CTRL_LOCK 0).wr R.HIF_CTRL_ENABLE 0).wr R.TSU_CTRL_BLOCK_EN 0

/-- The firmware loads a configuration copy into a machine that has just been reset (R383). Nothing that a stage, a hold or a lock had set comes
back (DESIGN CHOICE, log entry 20). -/
def State.loadConfig (s : State) (c : CfgCopy) : State :=
  let s := { s with regs := cellsOver c.regs s.regs, live := cellsOver c.regs [] }
  let s := s.quiet
  { s with
    geo := { s.geo with objs := c.objs, banks := c.bank ++ (c.bank : List (Nat × Nat)).map (fun (p : Nat × Nat) => (1048576 + p.1, p.2)), staged := c.staged,
                        speed := c.speed, track := c.track },
    mix := { s.mix with gains := c.gains, firs := c.firs, gates := c.bound.map (fun p => (p.1, [(0, false)])) },
    ost := { s.ost with flows := c.ordered.map (fun f => (f, { flowReset with ordered := true })) },
    ptp := c.ptp, bound := c.bound, enrol := c.enrol, triggers := c.triggers }

/-! ### Reset (R380, R381) -/

/-- The flash after a reset: with the firmware running, its configuration copy is that of the last commit. -/
def State.flashKept (s : State) : Flash :=
  if s.rd R.SYS_BOOT_STATE = 1 then { s.flash with cfg := some s.cfgCopy } else s.flash

/-- The registers that show straps and one-time memory (R381, R397). -/
def State.showOtp (s : State) : State :=
  let s := s.wr64 R.SEC_DEVID_LO_ID R.SEC_DEVID_HI_ID s.otp.devId
  ((s.wr R.SEC_ROLLBACK_VALUE s.otp.rollback).wr R.SEC_FWKEY_REVOKED s.otp.revoked).wr R.SEC_STATUS_FIELD (b2n s.otp.inField)

def State.showStraps (s : State) : State :=
  let x := s.straps
  let s := (s.wr R.SYS_STRAP_XO x.xo.toNat).wr R.SYS_STRAP_SLOT (b2n x.slot)
  let s := ((s.wr R.SYS_STRAP_ROLE (b2n x.role)).wr R.SYS_STRAP_RATE (b2n x.rate96)).wr R.SYS_STRAP_RSV x.rsv.toNat
  let s := (s.wr R.CLK_STAT_XO_DELAY x.xo.toNat).wr R.HIF_STATUS_PLAIN_STRAP (b2n x.secPlain)
  (s.wr R.FLD_CTRL_STRAP (b2n x.role)).wr R.FLD_CTRL_PREFER_ACTIVE (b2n x.role)

/-- What a reset leaves: everything at its reset value but what is not volatile (flash, library, one-time memory) and what is outside (R380). -/
def State.resetKept (s : State) (straps : Straps) : State :=
  { State.reset with
    straps := straps, free := s.free, flash := s.flashKept, otp := s.otp, msgs := s.msgs, pending := s.pending,
    cel := { State.reset.cel with capacity := s.cel.capacity } }

/-- The whole device is reset (R380): straps are sampled; what is not volatile stays (flash, library, one-time memory), and with it the levels on the pins. -/
def State.resetDevice (s : State) (straps : Straps) (cause : Nat) : State :=
  let r := s.resetKept straps
  let r := (r.showStraps.showOtp).wr R.SYS_BOOT_CAUSE cause
  (r.wr R.FLD_STATUS_ACTI (s.rd R.FLD_STATUS_ACTI)).wr R.SUP_STATUS_MAINS (s.rd R.SUP_STATUS_MAINS)

/-- POWER_ON_RESET (R380, R349): RAW, RC's settling and the XO's start delay run from release. -/
def execPowerOnReset (straps : Straps) (t : Nat) (s : State) : Host.Outcome State Fault Refusal := .next (((s.atRaw t).resetDevice straps 0))

/-- EXTERNAL_RESET (R380): RST_N low for 1 µs. -/
def execExternalReset (straps : Straps) (t : Nat) (s : State) : Host.Outcome State Fault Refusal := .next ((s.atRaw t).resetDevice straps 1)

/-- RAIL_FAIL (R410): a rail below its threshold for 2 µs resets the device, as at power-on. -/
def execRailFail (straps : Straps) (t : Nat) (s : State) : Host.Outcome State Fault Refusal := .next ((s.atRaw t).resetDevice straps 0)

/-- The opcode of RESET. -/
def opReset : Nat := 0x0F04

/-- RESET_DELAY (R290): 10 ms after the reply. -/
def execResetDelay (straps : Straps) (t : Nat) (s : State) : Host.Outcome State Fault Refusal :=
  let s := s.atRaw t
  .next (match s.devBusy with
    | some l => if l.op = opReset && l.since + ms 10 ≤ s.tm.raw then s.resetDevice straps 2 else s
    | none => s)

/-- BROWNOUT_RECOVERY (R372): VCORE has stood above WARN + 20 mV for the dwell. -/
def execBrownoutRecovery (straps : Straps) (t : Nat) (s : State) : Host.Outcome State Fault Refusal :=
  let s := s.atRaw t
  .next (if s.stage = 5 then s.resetDevice straps 3 else s)

/-! ### The boot ROM (R384–R387) -/

/-- The slot of the newer valid boot record (R382, R12), else the strap's (DEDUCED, log entry 48). -/
def State.firstSlot (s : State) : Bool :=
  match s.flash.rec0, s.flash.rec1 with
  | some a, some b => if laterThan 16 b.gen a.gen then b.slot else a.slot
  | some a, none => a.slot
  | none, some b => b.slot
  | none, none => s.straps.slot

/-- A little-endian 4-byte field of an image. -/
def imageField (bs : List Byte) (at_ : Nat) : Nat := ofLeBytes ((bs.drop at_).take 4)

/-- A byte of an image. -/
def imageByte (bs : List Byte) (at_ : Nat) : Nat := (bs.getD at_ 0#8).toNat

/-- Are MAGIC, FORMAT, HDR_LEN, SECTIONS, LENGTH and the KIND of every section of an image valid (R384, R386)? -/
def imageValid (bs : List Byte) : Bool :=
  imageField bs 0 = 0x464C5854 && imageField bs 4 = 1 + 65536 * 544 && 1 ≤ imageByte bs 14 && imageByte bs 14 ≤ 8 &&
    544 ≤ imageField bs 16 && imageField bs 16 ≤ 16777216 && imageField bs 16 ≤ bs.length &&
    (List.range (imageByte bs 14)).all (fun i => 1 ≤ imageByte bs (96 + 48 * i) && imageByte bs (96 + 48 * i) ≤ 4)

/-- What the ROM finds of a slot: the fields of the image it holds, with the outcomes of the digests and the signature as the command tells them; of a slot whose image
the state does not hold, all as the command tells (R384, R386) (DESIGN CHOICE, log entry 133). -/
def slotSeen (x : SlotCheck) : Option (List Byte) → SlotCheck
  | none => x
  | some bs =>
    { x with header := x.header && imageValid bs, version := BitVec.ofNat 32 (imageField bs 8), rollback := imageByte bs 12,
             key := BitVec.ofNat 2 (imageByte bs 13), revoke := BitVec.ofNat 4 (imageByte bs 13 / 16), major := BitVec.ofNat 8 (imageByte bs 15),
             dram := BitVec.ofNat 32 (imageField bs 20) }

/-- The image of a slot in the flash. -/
def State.slotBytes (s : State) (slot : Bool) : Option (List Byte) := if slot then s.flash.slotB else s.flash.slotA

/-- A header passes (R386). -/
def State.headerOk (s : State) (x : SlotCheck) : Bool :=
  x.header && !bitOf s.otp.revoked x.key.toNat && x.rollback ≤ 64 && s.otp.rollback ≤ x.rollback

/-- The first header that passes sets CEL_CFG and starts training, whose outcome stands in CEL_STATUS already; LOCK is set (R385 step 4, R337). -/
def State.startDram (s : State) (x : SlotCheck) : State :=
  if s.on R.CEL_CTRL_LOCK then s
  else
    let s := ((s.wr R.CEL_CFG_w x.dram.toNat).wr R.CEL_CTRL_ENABLE 1).wr R.CEL_CTRL_LOCK 1
    let keep := if !s.celCfgOk then 0 else if s.rd R.CEL_CFG_CH_EN = 3 then 3 else 1
    s.wr R.CEL_STATUS_TRAINED (s.rd R.CEL_STATUS_TRAINED &&& keep)

/-- A slot is tried (R385 step 4): whether it boots. -/
def State.trySlot (s : State) (x : SlotCheck) : State × Bool :=
  if s.headerOk x then (s.startDram x, x.sections) else (s, false)

/-- A slot that failed a check: FALLBACK and the count (R385). -/
def State.slotFailed (s : State) : State := (s.flag R.SEC_STATUS_FALLBACK).bump R.SEC_CNT_BOOT_FAIL_VALUE

/-- The supervisor code sections of an image are placed in supervisor SRAM, the others in the firmware data area of DRAM from its offset 0 up
(R384; DESIGN CHOICE, log entry 23). -/
def State.placeSections (s : State) (bs : List Byte) : State :=
  let n := imageByte bs 14
  (List.range n).foldl (fun s i =>
    let e := 96 + 48 * i
    let data := (bs.drop (imageField bs (e + 4))).take (imageField bs (e + 8))
    let dst := imageField bs (e + 12)
    if imageByte bs e = 1 then (if 0x80000 < dst + data.length then s else s.setBytes (0x10000000 + dst) data)
    else if s.celChannels = 0 || 0x4000000 < dst + data.length then s
    else s.setBytes (0x100000000 + dst) data) s

/-- Kind, DRAM offset and length of the sections of an image (R384). -/
def imageSections (bs : List Byte) : List (Nat × Nat × Nat) :=
  (List.range (imageByte bs 14)).map (fun i =>
    (imageByte bs (96 + 48 * i), imageField bs (96 + 48 * i + 12), imageField bs (96 + 48 * i + 8)))

/-- The firmware writes the Drover image, as it stands in DRAM, to every instruction memory through the broadcast window (R119). The first section of KIND 2 is
written from bundle 0 up, as far as the memories reach (DESIGN CHOICE, log entry 126). -/
def State.loadDrovers (s : State) : State :=
  match s.slotBytes (s.on R.SEC_STATUS_SLOT) with
  | none => s
  | some bs =>
    match (imageSections bs).find? (fun e => e.1 = 2) with
    | none => s
    | some (_, dst, len) =>
      if s.cellarDown then s
      else
        let code := s.bytes (0x100000000 + dst) (min len 0x8000)
        (List.range 32).foldl (fun s c => s.setBytes (0x30808000 + 0x10000 * c) code) s

/-- One-time bits are set: the rollback counter reaches a value, firmware keys are revoked (R386). -/
def Otp.burn (o : Otp) (rollback gone : Nat) : Otp :=
  { o with rollback := max o.rollback rollback, revoked := o.revoked ||| gone }

/-- The ROM's last steps for the slot that boots (R385 steps 5 and 6, R397). -/
def State.releaseSlot (s : State) (slot : Bool) (x : SlotCheck) : State :=
  let gone := x.revoke.toNat &&& (15 ^^^ 2 ^ x.key.toNat)
  let s := { s with otp := s.otp.burn x.rollback gone }.showOtp
  let s := (List.range 8).foldl (fun s w =>
    s.wr (R.SEC_MEAS_MEAS w) (ofLeBytes ((beBytes 32 x.meas.toNat).drop (4 * w) |>.take 4))) s
  let s := ((s.wr R.SEC_FWKEY_USED x.key.toNat).wr R.SEC_FW_VERSION_VALUE x.version.toNat).wr R.SEC_STATUS_SLOT (b2n slot)
  let s := match s.slotBytes slot with
    | some bs => s.placeSections bs
    | none => s
  let s := (((s.flag R.SYS_REMAP_SWAP).flag R.SYS_REMAP_LOCK).wr R.SYS_BOOT_STATE 1)
  let s := { s with image := some s.free }.fresh
  s.setMir { s.mir with major := x.major.toNat, minor := x.minor.toNat }

/-! ### The firmware starts (R387, R388, R119) -/

/-- The Drover memories, the pre-lock buffer and the library cache are loaded; the render and stream blocks are enabled, the cores run, block pacing begins
(R388; DEDUCED, log entry 21). -/
def State.startBlocks (s : State) : State :=
  let s := s.loadDrovers.loadLibrary
  let s := (s.flag R.TSU_CTRL_ENABLE).flag R.STR_CTRL_ENABLE
  let s := ((s.flag R.PST_CTRL_ENABLE).flag R.HST_CTRL_ENABLE).flag R.HST_SCRUB_CTRL_ENABLE
  let s := ((s.flag R.OST_CTRL_ENABLE).flag R.OST_IDLE_CTRL_EN).flag R.MIX_CTRL_ENABLE
  let s := ((s.flag R.PWS_CTRL_ENABLE).flag R.TLY_CTRL_ENABLE).flag R.DRV_CL_CTRL_LOCK
  let s := (List.range 32).foldl (fun s c => (s.setRun c true).setRot c true) s
  s.flag R.TSU_CTRL_BLOCK_EN

/-- What the loaded configuration brings at the first boundary: microphones, power channels with their search, rings (R53, R189, R197). -/
def State.applyConfig (s : State) : State :=
  let s := s.portsLoaded
  let s := (List.range 24).foldl (fun s n =>
    if s.on (R.PWS_CFG_EN n) then (s.psConfig n (s.rd (R.PWS_CFG_w n))).freqSearch n else s) s
  s.giveRings 0

/-- The supervisor starts (R388): configuration, blocks, the mirror role. On RC it enables no render block and answers at once (R387) (DEDUCED,
log entry 21). -/
def State.startFirmware (s : State) (cfgOk : Bool) : State :=
  let s := match (if cfgOk then s.flash.cfg else none) with
    | some c => s.loadConfig c
    | none => s.flag R.SEC_STATUS_CFG_DEFAULT
  let s := s.flag R.SUP_CTRL_ENABLE
  let rc := s.clkFailed 0
  let s := if rc then ((s.flag R.SEC_STATUS_RC_BOOT).flag R.CLK_STAT_ON_RC).flag R.HIF_CTRL_ENABLE else s.applyConfig.startBlocks
  let s := if s.on R.FLD_CTRL_EN then (s.wr R.FLD_CTRL_EN 0).mirrorEnable true else s
  if rc then s else s.showBudget

/-- The boot ROM path from the choice of the slot on (R385): `a`, `b` are what it finds of the slots. -/
def State.bootRom (s : State) (a b : SlotCheck) (cfgOk : Bool) : State :=
  let slot := s.firstSlot
  let of (x : Bool) : SlotCheck := slotSeen (if x then b else a) (s.slotBytes x)
  let (s, ok) := s.trySlot (of slot)
  if ok then (s.releaseSlot slot (of slot)).startFirmware cfgOk
  else
    let (s, ok2) := s.slotFailed.trySlot (of (!slot))
    if ok2 then (s.releaseSlot (!slot) (of (!slot))).startFirmware cfgOk
    else s.slotFailed.wr R.SYS_BOOT_STATE 3

/-- SUPERVISOR_RELEASE (R385): the ROM's write of SYS_BOOT.RELEASE at the end of its path; discarded once STATE is 1. `cfgOk`: the configuration copy is valid. -/
def execSupervisorRelease (a b : SlotCheck) (cfgOk : Bool) (t : Nat) (s : State) : Host.Outcome State Fault Refusal :=
  let s := s.atRaw t
  .next (if s.rd R.SYS_BOOT_STATE ≠ 0 then s else s.bootRom a b cfgOk)

/-! ### The exit from SLEEP and DEEP SLEEP (R363–R365) -/

/-- Does a register keep its value through DEEP SLEEP (R364): SYS_REMAP, SYS_STRAP, SYS_BOOT, Cellar, clock unit, supply, security, pins? -/
def deepKeeps (a : Nat) : Bool :=
  (0x40700000 ≤ a && a < 0x4070000C) || (0x40500000 ≤ a && a < 0x40600000) || (0x50050000 ≤ a && a < 0x50070000) ||
    (0x50080000 ≤ a && a < 0x500A0000)

/-- Does a register belong to a Drover core or the cluster? No configuration is kept there. -/
def drvAddr (a : Nat) : Bool := 0x30800000 ≤ a && a < 0x30B00000

/-- Registers after the exit from DEEP SLEEP: kept, or their reset values with the configuration loaded again. -/
def deepRegs (rs : Cells Nat) : Cells Nat :=
  rs.foldl (fun c p => if deepKeeps p.1 then c.set 0 p.1 p.2 else if drvAddr p.1 then c else c.set 0 p.1 (p.2 &&& configMask p.1)) []

/-- What the exit from DEEP SLEEP finds (R364, R365): the always-on blocks, the DRAM and the supervisor SRAM are kept; the time unit starts anew; the
Bellwether resumes and loads its configuration again. The stage in force takes effect anew, and an exit dwell begins anew (DEDUCED, log entry 134). -/
def State.deepKept (s : State) : State :=
  let r := State.reset
  let keepMem := s.mem.filter (fun c => (0x10000000 ≤ c.1 && c.1 < 0x10080000) || 0x100000000 ≤ c.1)
  { r with
    regs := deepRegs s.regs, live := deepRegs s.live, straps := s.straps, mem := keepMem, free := s.free,
    geo := { s.geo with cur := r.geo.cur, forming := none, late := none },
    hst := { r.hst with longTiles := s.hst.longTiles, rings := s.hst.rings },
    mix := { r.mix with gains := s.mix.gains, firs := s.mix.firs, staging := s.mix.staging, proposals := s.mix.proposals,
                        propNext := s.mix.propNext, odly := s.mix.odly },
    msgs := s.msgs, flash := s.flash, otp := s.otp, enrol := s.enrol, triggers := s.triggers, ptp := s.ptp,
    pins := s.pins, cel := { r.cel with capacity := s.cel.capacity }, clk := { r.clk with xoAt := 0 },
    sup := { s.sup with clearAt := none, applied := 0, cut := 0 }, bwt := s.bwt, image := s.image,
    tly := { r.tly with log := [] }, pending := s.pending }

/-- The exit from DEEP SLEEP (R364, R365): the Bellwether resumes, fills the pre-lock buffer and the Drover memories again, and starts the blocks. -/
def State.leaveDeep (s : State) : State :=
  let s := s.deepKept
  let s := ((s.wr R.CLK_MODE_CUR 0).bump R.CLK_CNT_WAKE_VALUE).wr R.CLK_GATE_NOW_VALUE 0
  (((s.wr R.CEL_STATUS_SR 0).quiet).unwriteSlots).applyConfig.startBlocks

/-- WAKE (R363, R365): an enabled source leaves SLEEP or DEEP SLEEP; its cause is latched. -/
def execWake (cause : WakeBy) (t : Nat) (s : State) : Host.Outcome State Fault Refusal :=
  let s := s.atRaw t
  .next (match s.clk.sleep with
    | none => s
    | some z =>
      if !s.wakeEnabled cause || z.wakeBlk.isSome || s.rd R.CLK_MODE_CUR = 0 then s
      else
        let s := s.wr R.CLK_WAKE_STAT_w (setBits (s.rd R.CLK_WAKE_STAT_w) (wakeBit cause) (wakeBit cause) 1)
        let s := match cause with
          | .press m => { s with clk := { s.clk with wokeBy := s.clk.wokeBy ++ [m.val] } }
          | _ => s
        if z.deep && z.closed then s.leaveDeep else s.leaveSleep)

/-! ### Life cycle (R394) -/

/-- FIELD is set for good. -/
def State.setInField (s : State) : State := { s with otp := { s.otp with inField := true } }.flag R.SEC_STATUS_FIELD

/-- SET_FIELD (R394). -/
def execSetField (t : Nat) (s : State) : Host.Outcome State Fault Refusal := .next (s.atRaw t).setInField

end Sys2Proof.Machine
end

