-- ==== Sys2Proof/Machine/Params.lean ====
section
/-! DEFINITION. What a command names: identifiers and their limits (R5, R6), owners (R1, R2, R299), and the resource behind a parameter (R401). -/

namespace Sys2Proof.Machine

open Sys2Proof

/-! ### Identifiers (R5, R6) -/

/-- An object number: beyond the identifiers, beyond the limit of the render rate, or good. -/
def State.objId (s : State) (o : Nat) : Status :=
  if 1024 ≤ o then .badParam else if s.straps.rate96 && 512 ≤ o then .limit else .ok

/-- An output number. -/
def State.outId (s : State) (o : Nat) : Status :=
  if 640 ≤ o then .badParam else if s.straps.rate96 && 320 ≤ o then .limit else .ok

/-- A count in its stated range (R296). -/
def countIn (lo hi n : Nat) : Status := if lo ≤ n && n ≤ hi then .ok else .limit

/-! ### Owners (R1, R2, R299). A number beyond the identifiers names nothing here; it is refused at step 12. -/

/-- The zone of an output in a bank. -/
def State.outZone (s : State) (bank o : Nat) : Nat := (s.layout bank o).zone

def State.ownsZone (s : State) (i z : Nat) : Bool := 128 ≤ z || s.owns i (refZone z)
/-- DEDUCED, log entry 39. -/
def State.ownsObj (s : State) (i o : Nat) : Bool := 1024 ≤ o || s.ownsZone i (s.obj o).acc.homeZone.toNat
def State.ownsBus (s : State) (i b : Nat) : Bool := 256 ≤ b || s.ownsZone i (s.rd (R.MIX_BUS_CFG_HOME_ZONE b))
def State.ownsOut (s : State) (i o : Nat) : Bool := 640 ≤ o || s.ownsZone i (s.outZone s.activeBank o)
def State.ownsPs (s : State) (i n : Nat) : Bool := 24 ≤ n || s.owns i (refPs n)
def State.ownsSc (s : State) (i n : Nat) : Bool := 192 ≤ n || s.owns i (refSc n)

/-- A resource reference (R296): kind, reserved bits, index. -/
def refOk (r : Nat) : Bool :=
  let n := r % 1024
  r / 1024 % 4 = 0 && ((r / 4096 = 0 && n < 128) || (r / 4096 = 1 && n < 24) || (r / 4096 = 2 && n < 192))

/-! ### Parameters (R401, R402) -/

/-- What a parameter identifier names. -/
inductive Pid where
  | dev (k : Nat)
  | objCode (o : Nat) | objMute (o : Nat)
  | busCode (b : Nat) | busMute (b : Nat) | busEn (b : Nat)
  | delay (o : Nat) | headroom (o : Nat) | eqN (o : Nat) | limEn (o : Nat) | limLook (o : Nat) | limThr (o : Nat)
  | limRel (o : Nat) | firEn (o : Nat)
  | tdmIn (p : Nat) | tdmOut (p : Nat)
  | micGain (n : Nat)
  | vfs (n : Nat)
  deriving DecidableEq, Repr

/-- A range of the table: base, count, what an index names. -/
def pidRanges : List (Nat × Nat × (Nat → Pid)) :=
  [(0x1000, 1024, .objCode), (0x1400, 1024, .objMute), (0x2000, 256, .busCode), (0x2100, 256, .busMute), (0x2200, 256, .busEn),
   (0x3000, 640, .delay), (0x3400, 640, .headroom), (0x3800, 640, .eqN), (0x3C00, 640, .limEn), (0x4000, 640, .limLook),
   (0x4400, 640, .limThr), (0x4800, 640, .limRel), (0x4C00, 640, .firEn), (0x5000, 16, .tdmIn), (0x5010, 16, .tdmOut),
   (0x5200, 4, .micGain), (0x6000, 24, .vfs)]

def pidOf (p : Nat) : Option Pid :=
  if 1 ≤ p && p ≤ 9 then some (.dev p)
  else (pidRanges.find? (fun r => r.1 ≤ p && p < r.1 + r.2.1)).map (fun r => r.2.2 (p - r.1))

/-- The resource that must be owned to write a parameter; none where a class is asked. -/
def State.pidRef (s : State) (p : Nat) : Option Nat :=
  match pidOf p with
  | some (.objCode o) | some (.objMute o) => some (refZone (s.obj o).acc.homeZone.toNat)
  | some (.busCode b) | some (.busMute b) | some (.busEn b) => some (refZone (s.rd (R.MIX_BUS_CFG_HOME_ZONE b)))
  | some (.delay o) | some (.headroom o) | some (.eqN o) | some (.limEn o) | some (.limLook o) | some (.limThr o)
  | some (.limRel o) | some (.firEn o) => some (refZone (s.outZone s.activeBank o))
  | some (.vfs n) => some (refPs n)
  | _ => none

/-- May a session write a parameter (R299, R401, R402)? -/
def State.pidNeeds (s : State) (i p : Nat) : Bool :=
  match s.pidRef p with
  | some r => s.owns i r
  | none =>
    match pidOf p with
    | some (.dev k) => 8 ≤ k || s.classAtMost i 0
    | some (.tdmIn _) | some (.tdmOut _) | some (.micGain _) => s.classAtMost i 1
    | _ => true

end Sys2Proof.Machine
end

