-- ==== Sys2Proof/Machine/Sessions.lean ====
section
/-! DEFINITION. The SPI ports (R272), session timeouts, and the session group of commands (R278–R288, R312). -/

namespace Sys2Proof.Machine

open Sys2Proof

/-! ### SPI transactions (R272) -/

/-- Places for inbound packets of an SPI port. -/
def spiPlaces : Nat := 2

/-- SPI_WRITE (R272): `whole` is false when CS_N rose before the packet was complete. A packet that takes a place is checked by the command it carries. -/
def execSpiWrite (port : Fin 2) (whole : Bool) (t : Nat) (s : State) : Host.Outcome State Fault Refusal :=
  if s.gated 20 then .next (s.atRaw t) else
  let s := s.atRaw t
  let p := port.val
  let x := s.port p
  .next (if !s.portEnabled p then s
    else if spiPlaces ≤ x.inb then s.bump (R.HIF_CNT_OVF_VALUE p)
    else if !whole then s.bump (R.HIF_CNT_FRAME_VALUE p)
    else s.setPort p { x with inb := x.inb + 1 })

/-- The oldest outbound packet leaves behind its length, or a length of 0; a reply that waits takes its place, or events do. -/
def State.spiPop (s : State) (p : Nat) : State :=
  let x := s.port p
  match x.out with
  | [] => s.setPort p { x with sent := none, shifted := [0#8, 0#8] }
  | k :: ks =>
    let x := { x with sent := some k, shifted := leBytes 2 (Packet.bytes k).length ++ Packet.bytes k }
    match x.wait with
    | [] => (s.setPort p { x with out := ks }).pump 2
    | w :: ws => s.setPort p { x with out := ks ++ [w], wait := ws }

/-- SPI_READ (R272). -/
def execSpiRead (port : Fin 2) (t : Nat) (s : State) : Host.Outcome State Fault Refusal :=
  if s.gated 20 then .next (s.atRaw t) else
  let s := s.atRaw t
  .next (if s.portEnabled port.val then s.spiPop port.val else s)

/-- The STATUS byte of an SPI port: outbound pending, an inbound place free, port busy. -/
def State.spiByte (s : State) (p : Nat) : Nat :=
  let x := s.port p
  b2n (x.out ≠ []) + 2 * b2n (x.inb < spiPlaces) + 4 * b2n (s.running p).isSome

/-- SPI_STATUS (R272). -/
def execSpiStatus (port : Fin 2) (t : Nat) (s : State) : Host.Outcome State Fault Refusal :=
  if s.gated 20 then .next (s.atRaw t) else
  let s := s.atRaw t
  .next (if s.portEnabled port.val then s.setPort port.val { s.port port.val with stat := some (s.spiByte port.val) } else s)

/-! ### Timeouts (R281, R283) -/

/-- HALF_OPEN_TIMEOUT (R281): 2.00 s after the reply. In safe stop no firmware closes sessions. -/
def execHalfOpenTimeout (sess : Fin 8) (t : Nat) (s : State) : Host.Outcome State Fault Refusal :=
  let s := s.atRaw t
  let x := s.session sess.val
  .next (if s.fwRuns && x.phase = .halfOpen && x.openedAt + ms 2000 ≤ s.tm.raw then s.closeSession sess.val else s)

/-- KEEPALIVE_TIMEOUT (R283). In safe stop no firmware closes sessions. -/
def execKeepaliveTimeout (sess : Fin 8) (t : Nat) (s : State) : Host.Outcome State Fault Refusal :=
  let s := s.atRaw t
  let x := s.session sess.val
  .next (if s.fwRuns && x.phase ≠ .closed && x.lastRx + ms (1000 * x.timeout) ≤ s.tm.raw then s.closeSession sess.val else s)

/-! ### SESSION_OPEN (R278–R282) -/

/-- The supported versions, highest first (R279). -/
def versions : List (Nat × Nat) := [(3, 2), (3, 1), (3, 0), (2, 1), (2, 0), (1, 1), (1, 0)]

/-- Version order. -/
def verLe (a b : Nat × Nat) : Bool := a.1 < b.1 || (a.1 = b.1 && a.2 ≤ b.2)

/-- The version chosen (R279). -/
def chooseVersion (r : OpenReq) : Option (Nat × Nat) :=
  versions.find? (fun v => verLe (r.minMajor, r.minMinor) v && verLe v (r.maxMajor, r.maxMinor) && (r.plain || 2 ≤ v.1))

def opOpen : Nat := 0x0101

/-- A reply to a SESSION_OPEN: in plaintext, with session byte 0xFF in its header and the version chosen, or that of the request (DESIGN CHOICE, log
entry 116). -/
def State.replyOpen (s : State) (h : Hdr) (v : Nat × Nat) (st : Status) (data : List Byte) : State :=
  s.enqueue h.port.val { sess := 0xFF, major := v.1, minor := v.2, key := 0, op := opOpen, seq := h.seq.toNat, event := false, more := false, chunk := 0, prot := false,
                         status := st, data := data }

/-- May the request open (R280, R394)? -/
def State.openAllowed (s : State) (p : Nat) (r : OpenReq) : Bool :=
  if r.plain then !isNet p && (s.straps.secPlain || !s.otp.inField)
  else match s.enrol.get none r.key with
    | some e => bitOf e.ports p && e.cls ≤ r.cls && r.sigOk
    | none => false

/-- The open class 0 session. -/
def State.classZero (s : State) : Option Nat := (List.range 8).find? (fun i => s.isOpen i && (s.session i).cls = 0)

/-- The largest payload of a session that opens on a port (R273, R294). -/
def State.pmaxOn (s : State) (p major : Nat) : Nat :=
  let base := if isNet p then min 4080 (s.rd (R.MAC_MAXLEN_MAXLEN (s.rd (R.HIF_NET_W0_MAC (p - 2)))) - 86) else 4080
  if major = 1 then min base 1008 else base

/-- The checks of an open from step 8 on, and the class 0 session that it takes the place of (DEDUCED, log entry 37). -/
def State.openCheck (s : State) (h : Hdr) (r : OpenReq) : Status × Option Nat :=
  let taken := if r.cls = 0 then s.classZero else none
  let kick := match taken with
    | some i => if r.takeover && !r.plain && (s.session i).key = some r.key then some i else none
    | none => none
  let n := ((List.range 8).filter (fun i => s.isOpen i)).length
  if h.len ≠ (if r.plain then 12 else 160) then (.badLength, none)
  else if h.timed ∨ h.ramp ∨ h.event ∨ h.more ∨ h.prot ∨ h.rsvFlags ∨ h.rsvHdr ∨ h.rsvPay ∨ h.sess ≠ 0xFF then (.badParam, none)
  else if 3 < r.cls ∨ 60 < r.timeout then (.badParam, none)
  else if !s.openAllowed h.port.val r then (.auth, none)
  else if taken ≠ none ∧ kick = none then (.conflict, none)
  else if 8 ≤ n ∧ kick = none then (.limit, none)
  else if s.execBarred .session then (.fault, none)
  else (.ok, kick)

/-- The lowest free session number. -/
def State.freeSession (s : State) : Option Nat := (List.range 8).find? (fun i => !s.isOpen i)

/-- The free bytes of a protected reply: nonce, ephemeral key, signature (DESIGN CHOICE, log entry 25). -/
def openBytes (n : Nat) : List Byte := (List.range 148).map (fun i => if 81 ≤ i && i < 84 then 0#8 else Config.openByte n i)

/-- The session opens, and its reply (R278). -/
def State.openSession (s : State) (h : Hdr) (r : OpenReq) (v : Nat × Nat) : State :=
  match s.freeSession with
  | none => s
  | some i =>
    let timeout := if r.timeout = 0 then 10 else r.timeout
    let pmax := s.pmaxOn h.port.val v.1
    let x := { sessReset with
      phase := if r.plain then .opened else .halfOpen, port := h.port.val, major := v.1, minor := v.2, cls := r.cls,
      key := if r.plain then none else some r.key, prot := !r.plain, timeout := timeout, pmax := pmax,
      lastSeq := h.seq.toNat, keys := s.free, lastRx := s.tm.raw, openedAt := s.tm.raw }
    let s := (s.setSession i x).showOpen
    let head := leBytes 1 i ++ leBytes 1 v.1 ++ leBytes 1 v.2 ++ leBytes 2 pmax ++ leBytes 2 timeout
    if r.plain then s.replyOpen h v .ok head else (s.replyOpen h v .ok (head ++ openBytes s.free)).fresh

/-- SESSION_OPEN (R278–R282): a busy port answers BUSY (R289) (DEDUCED, log entry 37). -/
def execSessionOpen (h : Hdr) (r : OpenReq) (s : State) : Host.Outcome State Fault Refusal :=
  let p := h.port.val
  let s := s.atRaw h.t
  .next (if !s.portEnabled p then s
    else
      let s := (s.takeInbound p).bump (R.HIF_CNT_RX_VALUE p)
      if h.framing = .badFrame then s.bump (R.HIF_CNT_FRAME_VALUE p)
      else if h.framing = .badCrc then s.bump (R.HIF_CNT_CRC_VALUE p)
      else match s.running p with
        | some l => (s.bump (R.HIF_CNT_BUSY_VALUE p)).replyOpen h (h.major, h.minor) .busy (s.busyData l)
        | none =>
          match chooseVersion r with
          | none => s.replyOpen h (h.major, h.minor) .version ([0xFF#8, 3#8, 2#8, 1#8, 0#8] ++ leBytes 2 0)
          | some v =>
            match s.openCheck h r with
            | (.ok, kick) =>
              let s := match kick with | some i => s.closeSession i | none => s
              s.openSession h r v
            | (st, _) => (s.when (st = .auth) (·.bump (R.HIF_CNT_AUTH_VALUE p))).replyOpen h (h.major, h.minor) st [])

/-! ### The rest of the group -/

/-- A check with only a length. -/
def lenOnly (h : Hdr) (n : Nat) : OpCheck := ⟨lenIs h n, true, false, .ok⟩

/-- SESSION_CLOSE (R283): the reply, then the close. -/
def execSessionClose (h : Hdr) (s : State) : Host.Outcome State Fault Refusal :=
  .next (s.receive h (op 0x0102 1 0 .session) (fun _ _ => lenOnly h 0)
    (fun s i => ((s.reply i 0x0102 h.seq.toNat .ok [] true).closeSession i, none)))

/-- KEEPALIVE (R312). -/
def execKeepalive (h : Hdr) (s : State) : Host.Outcome State Fault Refusal :=
  .next (s.receive h (op 0x0103 1 0 .query) (fun _ _ => lenOnly h 0)
    (fun s _ => (s, some (.ok, leBytes 1 s.stage ++ leBytes 1 s.role ++ leBytes 8 s.tm.blockCount))))

/-- References as numbers, without repeats. -/
def refNats (refs : List (BitVec 16)) : List Nat := dedup (refs.map BitVec.toNat)

/-- The value check of CLAIM, RELEASE and PREEMPT: the count, then the references. -/
def refsCheck (refs : List (BitVec 16)) : Status :=
  firstBad (countIn 1 64 refs.length :: refs.map (fun r => badUnless (refOk r.toNat)))

/-- May a session of its class take a resource (R3)? -/
def State.mayPreempt (s : State) (i ref : Nat) : Bool :=
  match s.ownerOf ref with
  | none => true
  | some j => j = i || (s.session i).cls = 0 || ((s.session i).cls = 1 && 2 ≤ (s.session j).cls)

/-- One resource passes to a session, which records the former owner (R286). -/
def State.takeRef (s : State) (i ref : Nat) : State :=
  match s.ownerOf ref with
  | none => s.setOwner ref (some i) []
  | some j => if j = i then s else s.setOwner ref (some i) (j :: s.formers ref)

/-- PREEMPT on grant (R286): owners, events, staging sets. -/
def State.preemptRefs (s : State) (i : Nat) (refs : List Nat) : State :=
  let lost (j : Nat) : List Nat := refs.filter (fun r => s.ownerOf r = some j)
  let who := (List.range 8).filter (fun j => j ≠ i && lost j ≠ [])
  let gone := who.map (fun j => (j, lost j, (s.session j).staging.filter (fun e => match s.pidRef e.1 with
    | some r => !(lost j).contains r
    | none => true)))
  let s := refs.foldl (fun s r => s.takeRef i r) s
  gone.foldl (fun s g => (s.evOwner g.1 0 i g.2.1).setSession g.1 { (s.evOwner g.1 0 i g.2.1).session g.1 with staging := g.2.2 }) s

/-- Does CLAIM pre-empt in this session (R294)? -/
def State.claimTakes (s : State) (i : Nat) : Bool := (s.session i).major = 1 && (s.session i).cls ≤ 1

/-- CLAIM (R285, R294). -/
def execClaim (h : Hdr) (refs : List (BitVec 16)) (s : State) : Host.Outcome State Fault Refusal :=
  let rs := refNats refs
  .next (s.receive h (op 0x0104 1 0 .claims)
    (fun s i => ⟨lenIs h (2 + 2 * refs.length), rs.all (fun r => !refOk r || (if s.claimTakes i then s.mayPreempt i r
      else match s.ownerOf r with | none => true | some j => j = i)), false, refsCheck refs⟩)
    (fun s i => (s.preemptRefs i rs, some (.ok, []))))

/-- RELEASE (R287). -/
def execRelease (h : Hdr) (refs : List (BitVec 16)) (s : State) : Host.Outcome State Fault Refusal :=
  let rs := refNats refs
  .next (s.receive h (op 0x0105 1 0 .claims)
    (fun s i => ⟨lenIs h (2 + 2 * refs.length), rs.all (fun r => !refOk r || s.owns i r), false, refsCheck refs⟩)
    (fun s i => (s.releaseRefs i rs, some (.ok, []))))

/-- PREEMPT (R286). -/
def execPreempt (h : Hdr) (refs : List (BitVec 16)) (s : State) : Host.Outcome State Fault Refusal :=
  let rs := refNats refs
  .next (s.receive h (op 0x0106 2 0 .claims)
    (fun s i => ⟨lenIs h (2 + 2 * refs.length), s.classAtMost i 1 && rs.all (fun r => !refOk r || s.mayPreempt i r), false, refsCheck refs⟩)
    (fun s i => (s.preemptRefs i rs, some (.ok, []))))

end Sys2Proof.Machine
end

