-- ==== Sys2Proof/Machine/Objects.lean ====
section
/-! DEFINITION. The object group of commands (R25–R30, R154–R157, R301, R312). -/

namespace Sys2Proof.Machine

open Sys2Proof

/-! ### Sources (R170, R171, R266) -/

/-- Is a receive context the partner of an enabled pair? -/
def State.isPartner (s : State) (c : Nat) : Bool :=
  (List.range 128).any (fun x => s.on (R.STR_RX_W0_EN x) && s.on (R.STR_RX_W0_PAIR_EN x) && s.rd (R.STR_RX_W0_PAIR x) = c)

/-- The check of a SOURCE code at a commit. -/
def State.sourceStatus (s : State) (c : Nat) : Status :=
  let k := s.committed
  badUnless (sourceOk c && !k.sourceBarred c && !(c < 8192 && k.isPartner (c / 64)))

/-! ### Gain changes (R154–R157) -/

/-- The ramp of a gain change in samples: of the session in protocol 1, of the command under RAMP, else none. -/
def State.hdrRamp (s : State) (i : Nat) (h : Hdr) : Nat :=
  let x := s.session i
  if x.major = 1 then s.rampLen (s.rampFor i (s.hdrSample h / 32)) else if h.ramp then s.rampLen h.rampMs else 0

/-- A gain code is accepted for a path from sample `p0`; its register shows it. -/
def State.sendGain (s : State) (f : Fld) (path : Nat) (code : Int) (p0 len : Nat) : State :=
  (s.wr f (unsignedOf 16 code)).later (p0 / 32) (.gain path code p0 len)

/-- A mute is accepted for a path from sample `p0`. -/
def State.sendMute (s : State) (f : Fld) (path : Nat) (on : Bool) (p0 len : Nat) : State :=
  (s.wr f (b2n on)).later (p0 / 32) (.mute path on p0 len)

/-! ### OBJ_DEFINE -/

/-- The values of a record (R5, R25, R27, R170). -/
def State.objCheck (s : State) (o : Nat) (r : ObjRec) : Status :=
  firstBad [s.objId o, badUnless (r.norm ≠ 3 && 1 ≤ r.k.toNat), (if r.k.toNat ≤ 64 then .ok else .limit), s.sourceStatus r.source.toNat,
    s.outId r.directOut.toNat,
    (if r.mode = 2 && r.k.toNat < (s.zoneOutputs r).length then .limit else .ok)]

/-- A pending route change is replaced (R162). -/
def State.replaceRoute (s : State) (pending : Bool) : State := if pending then s.bump R.MIX_CNT_ROUTE_REPL_VALUE else s

/-- A route change of an object is accepted for block `kn` (R159, R162). It is judged against the route in force: one that differs replaces what is pending, and one that
does not ends it; the pending one sent again for its own block is no change (DEDUCED, log entry 91). -/
def State.acceptObjRoute (s : State) (o : Nat) (r : ObjRec) (kn : Nat) : State :=
  let x := s.obj o
  let again : Bool := match x.route with
    | some (b, q) => b = kn && !ObjRec.routeDiffers q r
    | none => false
  if again then s.setObj o { x with acc := r }
  else
    let route := if ObjRec.routeDiffers (x.hist.last objRecReset) r then some (kn, r) else none
    (s.replaceRoute x.route.isSome).setObj o { x with acc := r, route := route }

/-- An accepted definition: its position applies in block `kp`, its other fields, the binding of its gate (R22) and its route from block `kn`. -/
def State.acceptObj (s : State) (o : Nat) (r : ObjRec) (kp kn : Nat) : State :=
  let s := s.acceptObjRoute o r kn
  ((s.later kp (.objMove o r.pos)).later kn (.objFields o r)).later kn (.bind o (gateOf o r.source.toNat))

/-- A commit's status, after the values of the command have passed. -/
def State.thenCommit (s : State) (st : Status) : Status := if st = .ok then s.commitStatus else st

/-- A commit that changes sources: rings and what else the firmware sets. -/
def State.committedAt (s : State) (blk : Nat) : State := (s.giveRings blk).afterCommit

/-- OBJ_DEFINE (R25–R27, R301). -/
def execObjDefine (h : Hdr) (o : BitVec 16) (r : ObjRec) (s : State) : Host.Outcome State Fault Refusal :=
  let d : OpInfo := ⟨0x0201, (1, 0), .both, false, .other⟩
  let n := o.toNat
  let go (s : State) : State := s.acceptObj n r (s.hdrBlock h d.timed) (s.hdrNext h)
  .next (s.receive h d
    (fun s i => ⟨lenIs h 44, s.ownsObj i n && (1024 ≤ n || s.ownsZone i r.homeZone.toNat), false,
      (go s).thenCommit (s.objCheck n r)⟩)
    (fun s _ => ((go s).committedAt (s.hdrNext h), some (.ok, []))))

/-! ### OBJ_MOVE, OBJ_PATH -/

/-- OBJ_MOVE (R29). -/
def execObjMove (h : Hdr) (ms : List (BitVec 16 × Pos)) (s : State) : Host.Outcome State Fault Refusal :=
  let d : OpInfo := ⟨0x0202, (1, 0), .within, false, .other⟩
  .next (s.receive h d
    (fun s i => ⟨lenIs h (2 + 12 * ms.length), ms.all (fun m => s.ownsObj i m.1.toNat), false,
      firstBad (countIn 1 64 ms.length :: ms.map (fun m => s.objId m.1.toNat))⟩)
    (fun s _ => (ms.foldl (fun s m =>
      let x := s.obj m.1.toNat
      (s.setObj m.1.toNat { x with acc := { x.acc with pos := m.2 } }).later (s.hdrBlock h d.timed) (.objMove m.1.toNat m.2)) s,
      some (.ok, []))))

/-- Are times strictly increasing, the first after an instant? -/
def risingFrom : Nat → List Nat → Bool
  | _, [] => true
  | t, x :: xs => t < x && risingFrom x xs

/-- OBJ_PATH (R30). -/
def execObjPath (h : Hdr) (o : BitVec 16) (w : List Waypoint) (s : State) : Host.Outcome State Fault Refusal :=
  let d : OpInfo := ⟨0x0203, (2, 0), .within, false, .other⟩
  .next (s.receive h d
    (fun s i => ⟨lenIs h (4 + 20 * w.length), s.ownsObj i o.toNat, false,
      firstBad [countIn 1 16 w.length, s.objId o.toNat,
        badUnless (risingFrom (s.tBlock (s.hdrBlock h d.timed + 1)) (w.map (fun p => p.time)))]⟩)
    (fun s _ => (s.later (s.hdrBlock h d.timed) (.objPath o.toNat w), some (.ok, []))))

/-! ### OBJ_GAIN, OBJ_MUTE -/

/-- OBJ_GAIN (R154–R157). -/
def execObjGain (h : Hdr) (es : List (BitVec 16 × BitVec 16)) (s : State) : Host.Outcome State Fault Refusal :=
  let d : OpInfo := ⟨0x0204, (1, 0), .within, true, .other⟩
  .next (s.receive h d
    (fun s i => ⟨lenIs h (2 + 4 * es.length), es.all (fun e => s.ownsObj i e.1.toNat), false,
      firstBad (countIn 1 64 es.length :: es.map (fun e => s.objId e.1.toNat))⟩)
    (fun s i => (es.foldl (fun s e =>
      s.sendGain (R.MIX_OBJ_GAIN_CODE e.1.toNat) (pathObj e.1.toNat) e.2.toInt (s.hdrSample h) (s.hdrRamp i h)) s, some (.ok, []))))

/-- OBJ_MUTE (R154–R157, R417). -/
def execObjMute (h : Hdr) (es : List (BitVec 16 × Bool)) (s : State) : Host.Outcome State Fault Refusal :=
  let d : OpInfo := ⟨0x0205, (1, 0), .within, true, .other⟩
  .next (s.receive h d
    (fun s i => ⟨lenIs h (2 + 4 * es.length), es.all (fun e => s.ownsObj i e.1.toNat), false,
      firstBad (countIn 1 64 es.length :: es.map (fun e => s.objId e.1.toNat))⟩)
    (fun s i => (es.foldl (fun s e =>
      s.sendMute (R.MIX_OBJ_GAIN_MUTE e.1.toNat) (pathObj e.1.toNat) e.2 (s.hdrSample h) (s.hdrRamp i h)) s, some (.ok, []))))

/-! ### OBJ_QUERY -/

/-- A 9-byte position. -/
def posBytes (p : Pos) : List Byte := leBytes 3 p.x.toNat ++ leBytes 3 p.y.toNat ++ leBytes 3 p.z.toNat

/-- The last completed tap list. -/
def State.lastList (s : State) : List Tap :=
  let done (l : Option TapList) : Option (List Tap) := l.bind (fun (x : TapList) => if x.complete then some x.taps else none)
  match done s.geo.forming with
  | some t => t
  | none => (done s.geo.late).getD s.geo.cur.taps

/-- Does a path run: is its last arrival still to come? -/
def State.pathRuns (s : State) (x : ObjSt) : Bool :=
  match x.path with
  | some p => p.wps.any (fun w => s.now < w.2)
  | none => false

/-- The position a query shows: of the record, or of the path in force. -/
def State.shownPos (s : State) (x : ObjSt) : Pos :=
  match x.path with
  | some _ => Pos.ofMm (s.objPos x s.tm.blockCount)
  | none => x.acc.pos

/-- The 44 bytes of R301. -/
def objBytes (o : Nat) (r : ObjRec) (p : Pos) : List Byte :=
  leBytes 2 o ++ leBytes 1 (b2n r.enable + 2 * r.mode.toNat + 8 * r.norm.toNat) ++ leBytes 1 r.k.toNat ++
    leBytes 1 r.priority.toNat ++ leBytes 1 r.homeZone.toNat ++ leBytes 1 r.pasture.toNat ++ leBytes 1 0 ++
    leBytes 2 r.source.toNat ++ leBytes 2 r.directOut.toNat ++ leBytes 4 r.doff.toNat ++ posBytes p ++ leBytes 3 0 ++
    leBytes 16 r.zoneMask.toNat

/-- The 48 bytes of one object in OBJ_QUERY. -/
def State.objEntry (s : State) (o : Nat) : List Byte :=
  let x := s.obj o
  objBytes o x.acc (s.shownPos x) ++ leBytes 2 (s.rd (R.MIX_OBJ_GAIN_CODE o)) ++
    leBytes 1 (s.rd (R.MIX_OBJ_GAIN_MUTE o) + 2 * b2n ((s.gainPath (pathObj o)).ramping s.sampleNow) + 4 * b2n (s.pathRuns x) +
      8 * b2n x.route.isSome) ++
    leBytes 1 ((s.lastList.filter (fun t => t.object = o)).length)

/-- OBJ_QUERY (R312). -/
def execObjQuery (h : Hdr) (first : BitVec 16) (n : BitVec 16) (s : State) : Host.Outcome State Fault Refusal :=
  .next (s.receive h (op 0x0206 1 0 .query)
    (fun s _ => ⟨lenIs h 4, true, false, firstBad [countIn 1 1024 n.toNat, s.objId (first.toNat + n.toNat - 1)]⟩)
    (fun s _ => (s, some (.ok, ((List.range n.toNat).map (fun i => s.objEntry (first.toNat + i))).flatten))))

end Sys2Proof.Machine
end

