-- ==== Sys2Proof/Machine/Routes.lean ====
section
/-! DEFINITION. The layout and routing group of commands (R34, R43–R45, R150–R162, R302–R304, R311). -/

namespace Sys2Proof.Machine

open Sys2Proof

/-! ### Staging (R34, R45) -/

/-- Does a session own the zones of an output in both banks (R34)? -/
def State.ownsStaged (s : State) (i o : Nat) : Bool := 640 ≤ o || (s.ownsOut i o && s.ownsZone i (s.stagedLayout o).zone)

/-- A layout record's values (R302). -/
def layoutStatus (v : Nat) : Status :=
  let l := layoutOf v
  badUnless (bitsOf v 15 15 = 0 && bitsOf v 7 2 = 0 && v < 2 ^ 184 && !(l.dir && decide (l.cin ≤ l.cout)))

/-- SPK_LAYOUT_LOAD (R34, R302). -/
def execSpkLayoutLoad (h : Hdr) (first : BitVec 16) (rs : List (BitVec 256)) (s : State) : Host.Outcome State Fault Refusal :=
  let es := (List.range rs.length).map (fun n => (first.toNat + n, (rs.getD n 0).toNat))
  .next (s.receive h (op 0x0301 1 0 .other)
    (fun s i => ⟨lenIs h (4 + 32 * rs.length), es.all (fun e => s.ownsStaged i e.1 && (!bitOf e.2 0 || s.ownsZone i (bitsOf e.2 15 8))), false,
      firstBad (countIn 1 127 rs.length :: es.flatMap (fun e => [s.outId e.1, layoutStatus e.2]))⟩)
    (fun s _ => ((es.foldl (fun s e => s.stageBytes (8 * e.1) (leBytes 32 e.2) 8) s.abandonBuild).queueBulk bulkTables, some (.ok, []))))

/-- ZONE_DEFINE (R34): the staged zone of each output, and ALARM of the zone. -/
def execZoneDefine (h : Hdr) (zone : BitVec 8) (alarm : Bool) (outs : List (BitVec 16)) (s : State) : Host.Outcome State Fault Refusal :=
  let z := zone.toNat
  .next (s.receive h (op 0x0303 1 0 .other)
    (fun s i => ⟨lenIs h (4 + 2 * outs.length), s.ownsZone i z && outs.all (fun o => s.ownsStaged i o.toNat), false,
      firstBad (countIn 0 640 outs.length :: badUnless (z < 128) :: outs.map (fun o => s.outId o.toNat))⟩)
    (fun s _ =>
      let s := (s.abandonBuild.queueBulk bulkTables).setStaged (0x1400 + z) (2 ^ 31 * b2n alarm)
      (outs.foldl (fun s o => s.setStaged (8 * o.toNat) (setBits (s.stagedWord (8 * o.toNat)) 15 8 z)) s, some (.ok, []))))

/-- The values of a pasture definition (R303). -/
def pastureStatus (v : Nat) : Status :=
  if bitOf v 16 then .ok
  else
    let in_ (lo hi x : Nat) : Bool := lo ≤ x && x ≤ hi
    badUnless (in_ 8 16 (bitsOf v 15 8) && in_ 500 32000 (bitsOf v 127 112) && in_ 1 65535 (bitsOf v 143 128) && in_ 1 65535 (bitsOf v 159 144) &&
      in_ 1 65535 (bitsOf v 175 160) && (List.range 33).all (fun i => bitsOf v (24 * i + 247) (24 * i + 242) = 0))

/-- The outputs a definition names; a DELETE names none (DEDUCED, log entry 38). -/
def pastureOuts (v : Nat) : List Nat := if bitOf v 16 then [] else (List.range 640).filter (fun o => bitOf v (1024 + o))

/-- A definition is staged, or its pasture removed. -/
def State.stagePasture (s : State) (v : Nat) : State :=
  s.stageBytes (0x1480 + 64 * (v % 256)) (if bitOf v 16 then leBytes 208 0 else leBytes 208 v) 52

/-- PASTURE_BUILD (R43, R45, R303). -/
def execPastureBuild (h : Hdr) (ds : List (BitVec 1664)) (s : State) : Host.Outcome State Fault Refusal :=
  .next (s.receive h (op 0x0302 1 0 .other)
    (fun s i => ⟨lenIs h (4 + 208 * ds.length), ds.all (fun v => (pastureOuts v.toNat).all (fun o => s.ownsStaged i o)), false,
      firstBad (countIn 0 8 ds.length :: ds.flatMap (fun v => pastureStatus v.toNat :: (pastureOuts v.toNat).map s.outId))⟩)
    (fun s _ => (((ds.foldl (fun s v => s.stagePasture v.toNat) s).startBuild).queueBulk bulkTables, some (.ok, []))))

/-! ### ROUTE_SET (R150–R162) -/

/-- The values of an input (R5, R170). -/
def State.inStatus (s : State) (x : BusIn) : Status :=
  if x.kind = 0 then s.sourceStatus x.src.toNat else if x.kind = 1 then s.objId x.src.toNat else .badParam

/-- The route of a bus as last accepted: EN, HOME_ZONE, mask, inputs (EN, KIND, SRC). -/
def State.accRoute (s : State) (b : Nat) : Bool × Nat × Nat × List (Bool × Nat × Nat) :=
  (s.on (R.MIX_BUS_CFG_EN b), s.rd (R.MIX_BUS_CFG_HOME_ZONE b),
    (List.range 4).foldr (fun w acc => s.rd (R.MIX_BUS_MASK_ZONES b w) + 2 ^ 32 * acc) 0,
    (List.range 64).map (fun u => if s.on (R.MIX_BUS_IN_W0_EN b u) then
      (true, s.rd (R.MIX_BUS_IN_W0_KIND b u), s.rd (R.MIX_BUS_IN_W0_SRC b u)) else (false, 0, 0)))

/-- The input of a position: EN, KIND (an object), SRC, code. -/
abbrev BusPos := Bool × Bool × Nat × Int

/-- The 64 positions of a command's inputs. -/
def busPositions (ins : List BusIn) : List BusPos :=
  (List.range 64).map (fun u => match ins[u]? with
    | some x => (true, x.kind = 1, x.src.toNat, x.code.toInt)
    | none => (false, false, 0, 0))

/-- The input of a position in force. -/
def State.livePos (s : State) (b u : Nat) : BusPos :=
  if s.rdLive (R.MIX_BUS_IN_W0_EN b u) = 1 then
    (true, s.rdLive (R.MIX_BUS_IN_W0_KIND b u) = 1, s.rdLive (R.MIX_BUS_IN_W0_SRC b u), (s.gainPath (pathIn b u)).held)
  else (false, false, 0, 0)

/-- The ZONE_MASK of a bus in force. -/
def State.liveMask (s : State) (b : Nat) : Nat :=
  (List.range 4).foldr (fun w acc => s.rdLive (R.MIX_BUS_MASK_ZONES b w) + 2 ^ 32 * acc) 0

/-- Do two positions hold the same input: EN, KIND and SRC (R160)? -/
def BusPos.sameInput (x y : BusPos) : Bool := x.1 = y.1 && (!x.1 || (x.2.1 = y.2.1 && x.2.2.1 = y.2.2.1))

/-- Do the inputs of two routes agree? -/
def sameInputs (xs ys : List BusPos) : Bool := (xs.zip ys).all (fun p => BusPos.sameInput p.1 p.2)

/-- Does a waiting change concern the route of a bus? -/
def isRouteOf (b : Nat) (x : Sched) : Bool := match x.act with | .busRoute c _ _ _ _ => c = b | _ => false

/-- Is a waiting change this very route for this very block? -/
def isSameRoute (b blk : Nat) (en : Bool) (home mask : Nat) (ins : List BusPos) (x : Sched) : Bool :=
  match x.act with
  | .busRoute c e h m js => c = b && x.blk = blk && e = en && h = home && m = mask && sameInputs ins js
  | _ => false

/-- Is a route the one in force? -/
def State.routeInForce (s : State) (b : Nat) (en : Bool) (home mask : Nat) (ins : List BusPos) : Bool :=
  s.rdLive (R.MIX_BUS_CFG_EN b) = b2n en && s.rdLive (R.MIX_BUS_CFG_HOME_ZONE b) = home && s.liveMask b = mask &&
    sameInputs ins ((List.range 64).map (s.livePos b))

/-- The registers of a bus show an accepted route. -/
def State.showRoute (s : State) (b : Nat) (en : Bool) (home mask : Nat) (ins : List BusPos) : State :=
  let s := (s.wr (R.MIX_BUS_CFG_EN b) (b2n en)).wr (R.MIX_BUS_CFG_HOME_ZONE b) home
  let s := (List.range 4).foldl (fun s w => s.wr (R.MIX_BUS_MASK_ZONES b w) (mask / 2 ^ (32 * w) % 2 ^ 32)) s
  (List.range 64).foldl (fun s u =>
    let x := ins.getD u (false, false, 0, 0)
    let s := ((s.wr (R.MIX_BUS_IN_W0_EN b u) (b2n x.1)).wr (R.MIX_BUS_IN_W0_KIND b u) (b2n x.2.1)).wr (R.MIX_BUS_IN_W0_SRC b u) x.2.2.1
    s.wr (R.MIX_BUS_IN_W1_CODE b u) (unsignedOf 16 x.2.2.2)) s

/-- A route of a bus is accepted for block `blk` (R159, R162). It is judged against the route in force: one that differs replaces what is pending, and one that does not ends
it. The pending route sent again for its own block is no change; only the codes of its new inputs are taken (DEDUCED, log entry 91). -/
def State.acceptRoute (s : State) (b : Nat) (en : Bool) (home mask : Nat) (ins : List BusPos) (blk : Nat) : State :=
  let act : Act := .busRoute b en home mask ins
  let s := if s.sched.any (isSameRoute b blk en home mask ins) then
      { s with sched := s.sched.map (fun x => if isRouteOf b x then { x with act := act } else x) }
    else
      let held := s.routeInForce b en home mask ins
      let s := (s.replaceRoute (s.sched.any (isRouteOf b))).unsched (isRouteOf b)
      if held then s else s.later blk act
  s.showRoute b en home mask ins

/-- Codes of the inputs that stay are gain changes (R160). -/
def State.acceptInputs (s : State) (b : Nat) (ins : List BusPos) (p0 len : Nat) : State :=
  (List.range 64).foldl (fun s u =>
    let x := ins.getD u (false, false, 0, 0)
    if x.1 && BusPos.sameInput x (s.livePos b u) then s.later (p0 / 32) (.gain (pathIn b u) x.2.2.2 p0 len) else s) s

/-- An accepted ROUTE_SET of session `i`. RAMP acts on gain codes only; in protocol 1 a mute ramps too (R156). -/
def State.acceptRouteSet (s : State) (i : Nat) (h : Hdr) (b : Nat) (en mute : Bool) (home : Nat) (code : Int) (mask : Nat) (ins : List BusPos) : State :=
  let p0 := s.hdrSample h
  let len := s.hdrRamp i h
  let s := s.sendGain (R.MIX_BUS_CFG_CODE b) (pathBus b) code p0 len
  let s := s.sendMute (R.MIX_BUS_CFG_MUTE b) (pathBus b) mute p0 (if (s.session i).major = 1 then len else 0)
  (s.acceptInputs b ins p0 len).acceptRoute b en home mask ins (s.hdrNext h)

/-- ROUTE_SET. -/
def execRouteSet (h : Hdr) (bus : BitVec 8) (en mute : Bool) (home : BitVec 8) (code : BitVec 16) (mask : BitVec 128) (ins : List BusIn)
    (s : State) : Host.Outcome State Fault Refusal :=
  let d : OpInfo := ⟨0x0304, (1, 0), .both, true, .other⟩
  let b := bus.toNat
  let go (s : State) (i : Nat) : State := s.acceptRouteSet i h b en mute home.toNat code.toInt mask.toNat (busPositions ins)
  .next (s.receive h d
    (fun s i => ⟨lenIs h (24 + 6 * ins.length), s.ownsBus i b && s.ownsZone i home.toNat, false,
      (go s i).thenCommit (firstBad (countIn 0 64 ins.length :: badUnless (home.toNat < 128) :: ins.map s.inStatus))⟩)
    (fun s i => ((go s i).committedAt (s.hdrNext h), some (.ok, []))))

/-! ### ROUTE_QUERY (R311) -/

/-- The ROUTE_SET payload of a bus: its inputs up to the last enabled one. -/
def State.busPayload (s : State) (b : Nat) : List Byte :=
  let n := (List.range 64).foldl (fun m u => if s.on (R.MIX_BUS_IN_W0_EN b u) then u + 1 else m) 0
  leBytes 1 b ++ leBytes 1 (s.rd (R.MIX_BUS_CFG_EN b) + 2 * s.rd (R.MIX_BUS_CFG_MUTE b)) ++ leBytes 1 (s.rd (R.MIX_BUS_CFG_HOME_ZONE b)) ++
    leBytes 1 n ++ leBytes 2 (s.rd (R.MIX_BUS_CFG_CODE b)) ++ leBytes 2 0 ++ leBytes 16 (s.accRoute b).2.2.1 ++
    ((List.range n).map (fun u => leBytes 1 (s.rd (R.MIX_BUS_IN_W0_KIND b u)) ++ leBytes 1 0 ++ leBytes 2 (s.rd (R.MIX_BUS_IN_W0_SRC b u)) ++
      leBytes 2 (s.rd (R.MIX_BUS_IN_W1_CODE b u)))).flatten

/-- Selector 1: the entries of an object in the last completed tap list. -/
def State.tapPayload (s : State) (o : Nat) : List Byte :=
  let ts := s.lastList.filter (fun t => t.object = o)
  leBytes 1 ts.length ++ leBytes 1 0 ++ (ts.map (fun t => leBytes 2 t.output ++ leBytes 4 t.delay ++ leBytes 3 t.gain ++
    leBytes 1 (b2n t.enter + 2 * b2n t.leave + 4 * b2n t.jump + 8 * b2n t.xfade))).flatten

/-- The state code of selector 2. -/
def State.buildCode (s : State) : Nat :=
  match s.geo.build.state with
  | .none => 0
  | .running => if s.on R.PST_STATUS_VERIFY_BUSY then 2 else 1
  | .verified => 3
  | .swapped => 4
  | .check => 5
  | .abandoned => 6
  | .limit => 7

def State.buildPayload (s : State) : List Byte :=
  leBytes 1 s.buildCode ++ leBytes 1 s.activeBank ++ leBytes 2 0 ++ leBytes 4 s.geo.build.cells ++ leBytes 8 s.geo.build.swapBlk ++
    leBytes 4 (s.rd R.PST_BANK_CRC_VALUE)

/-- Selector 3: the zone's owner, ALARM, and the present outputs in it (DEDUCED, log entry 38). -/
def State.zonePayload (s : State) (z : Nat) : List Byte :=
  let os := s.presentOutputs.filter (fun o => s.outZone s.activeBank o = z)
  leBytes 1 ((s.ownerOf (refZone z)).getD 0xFF) ++ leBytes 1 (b2n (bitOf (s.bankWord s.activeBank (0x1400 + z)) 31)) ++ leBytes 2 os.length ++
    (os.map (leBytes 2)).flatten

/-- ROUTE_QUERY. -/
def execRouteQuery (h : Hdr) (sel : BitVec 8) (index : BitVec 16) (s : State) : Host.Outcome State Fault Refusal :=
  let n := index.toNat
  .next (s.receive h (op 0x0305 1 0 .query)
    (fun s _ => ⟨lenIs h 4, true, false,
      match sel.toNat with
      | 0 => badUnless (n < 256)
      | 1 => s.objId n
      | 2 => .ok
      | 3 => badUnless (n < 128)
      | _ => .badParam⟩)
    (fun s _ => (s, some (.ok, match sel.toNat with
      | 0 => s.busPayload n
      | 1 => s.tapPayload n
      | 2 => s.buildPayload
      | _ => s.zonePayload n))))

end Sys2Proof.Machine
end

