-- ==== Sys2Proof/Machine/Counters.lean ====
section
/-! DEFINITION. Counter identifiers and 64-bit totals (R309, R404). -/

namespace Sys2Proof.Machine

open Sys2Proof

/-- Counters of one kind (R404): first identifier, its step from one instance to the next, instances, address of the first counter, its step, and
how many counters follow each other in each instance. -/
structure CounterFam where
  id    : Nat
  idInc : Nat
  insts : Nat
  addr  : Nat
  inc   : Nat
  n     : Nat
  deriving DecidableEq, Repr

/-- The counters of one MAC: port counters without the byte counts, ring counters. -/
def macCounters (p : Nat) : List CounterFam :=
  let i := 0xC400 + 58 * p
  let a := 0x40400000 + 65536 * p
  [⟨i, 0, 1, a + 0x200, 0, 2⟩, ⟨i + 3, 0, 1, a + 0x210, 0, 14⟩, ⟨i + 17, 0, 1, a + 0x260, 0, 1⟩, ⟨i + 19, 0, 1, a + 0x26C, 0, 4⟩,
   ⟨i + 23, 0, 1, a + 0x280, 0, 3⟩, ⟨i + 26, 2, 16, a + 0x1010, 32, 2⟩]

/-- The counters of R404. -/
def counterFams : List CounterFam :=
  [⟨0xC000, 0, 1, 0x40000020, 0, 5⟩, ⟨0xC008, 0, 1, 0x20800020, 0, 10⟩, ⟨0xC018, 0, 1, 0x40100080, 0, 10⟩, ⟨0xC028, 0, 1, 0x40200020, 0, 8⟩,
   ⟨0xC030, 0, 1, 0x40700108, 0, 1⟩, ⟨0xC031, 0, 1, 0x40700114, 0, 1⟩, ⟨0xC038, 0, 1, 0x40500040, 0, 8⟩, ⟨0xC040, 0, 1, 0x40700820, 0, 4⟩,
   ⟨0xC048, 0, 1, 0x40600040, 0, 6⟩, ⟨0xC050, 0, 1, 0x403000C0, 0, 3⟩, ⟨0xC053, 0, 1, 0x403000D0, 0, 3⟩, ⟨0xC058, 0, 1, 0x50050060, 0, 4⟩,
   ⟨0xC05C, 0, 1, 0x50060040, 0, 3⟩, ⟨0xC060, 0, 1, 0x50080100, 0, 2⟩, ⟨0xC068, 0, 1, 0x50070140, 0, 8⟩, ⟨0xC100, 5, 32, 0x30800040, 65536, 5⟩,
   ⟨0xC200, 3, 16, 0x50000040, 1024, 3⟩, ⟨0xC230, 5, 4, 0x50010040, 256, 5⟩, ⟨0xC250, 1, 32, 0x50020020, 64, 1⟩, ⟨0xC270, 3, 4, 0x50030020, 256, 3⟩,
   ⟨0xC280, 7, 24, 0x50041040, 256, 7⟩] ++ macCounters 0 ++ macCounters 1 ++ macCounters 2 ++
  [⟨0xC500, 9, 6, 0x500A0100, 64, 9⟩, ⟨0xC800, 8, 128, 0x40481040, 128, 8⟩, ⟨0xCC00, 2, 64, 0x40485040, 128, 2⟩, ⟨0xCC80, 0, 1, 0x40480040, 0, 2⟩]

/-- The identifier of the counter of a family at an address. -/
def CounterFam.idAt (f : CounterFam) (a : Nat) : Option Nat :=
  if a < f.addr then none
  else
    let i := if f.inc = 0 then 0 else (a - f.addr) / f.inc
    let k := ((if f.inc = 0 then a - f.addr else (a - f.addr) % f.inc)) / 4
    if i < f.insts && k < f.n then some (f.id + f.idInc * i + k) else none

/-- Does a family hold the counter of an identifier? -/
def CounterFam.holds (f : CounterFam) (id : Nat) : Bool :=
  f.id ≤ id && (if f.idInc = 0 then id - f.id < f.n else (id - f.id) / f.idInc < f.insts && (id - f.id) % f.idInc < f.n)

/-- The identifier of the counter at an address. -/
def counterIdAt (a : Nat) : Option Nat := counterFams.findSome? (fun f => f.idAt a)

/-- The identifiers of the byte counts of MAC `p`, received and sent (R249). -/
def octetIds (p : Nat) : Nat × Nat := (0xC400 + 58 * p + 2, 0xC400 + 58 * p + 18)

/-- Does an identifier name a counter? -/
def isCounter (id : Nat) : Bool :=
  counterFams.any (fun f => f.holds id) || [0, 1, 2].any (fun p => id = (octetIds p).1 || id = (octetIds p).2)

/-- A total grows, in 64 bits. -/
def State.addTotal (s : State) (id n : Nat) : State := { s with totals := s.totals.modify 0 id (fun t => (t + n) % 2 ^ 64) }

/-- The byte counts of a MAC are added and cleared. -/
def State.addOctets (s : State) (p : Nat) : State :=
  match s.macs.find? (fun x => x.1 = p) with
  | some (_, m) =>
    let s := (s.addTotal (octetIds p).1 m.rxOct).addTotal (octetIds p).2 m.txOct
    { s with macs := s.macs.set macReset p { m with rxOct := 0, txOct := 0 } }
  | none => s

/-- Every counter is added to its total and cleared (R309). A counter's reset word is 0, so a register cell is its value (DEDUCED, log entry 53). -/
def State.addTotals (s : State) : State :=
  let s := s.countPanic
  let mine := s.regs.filter (fun p => (counterIdAt p.1).isSome)
  let s := mine.foldl (fun (s : State) (p : Nat × Nat) => s.addTotal ((counterIdAt p.1).getD 0) p.2) s
  let s := { s with regs := s.regs.filter (fun p => (counterIdAt p.1).isNone) }
  let s := { s with totalsAt := s.tm.raw }
  [0, 1, 2].foldl State.addOctets s

/-- The firmware adds once per second (R309) (DEDUCED, log entry 53). -/
def State.secondTotals (s : State) : State := if s.fwRuns && s.totalsAt + ms 1000 ≤ s.tm.raw then s.addTotals else s

end Sys2Proof.Machine
end

