-- ==== Sys2Proof/Machine/PortCmds.lean ====
section
/-! DEFINITION. The port and stream group of commands (R171–R193, R236, R262–R267, R312). -/

namespace Sys2Proof.Machine

open Sys2Proof

/-! ### Register words in payloads (R296) -/

/-- The bits of a register that can be written. -/
def writeMask (a : Nat) : Nat :=
  match rowOf a with
  | some r => r.rw ||| r.w1c ||| r.wo ||| r.rws ||| r.rwl
  | none => 0

/-- Reserved bits of a register word are zero; `also` are bits that the command ignores. -/
def wordStatus (a also v : Nat) : Status := badUnless (v &&& (0xFFFFFFFF ^^^ (writeMask a ||| also)) = 0)

/-- A word of configuration that applies at a boundary; a waiting write of the same register is replaced. -/
def State.regAt (s : State) (blk a v : Nat) : State :=
  (s.unsched (fun x => match x.act with | .reg b _ => b = a | _ => false)).later blk (.reg a v)

/-- An output or none, 0xFFFF, in a channel map (R312). -/
def State.mapStatus (s : State) (o : BitVec 16) : Status := if o.toNat = 0xFFFF then .ok else s.outId o.toNat

/-- A channel map entry: EN and OUTPUT. -/
def State.mapAt (s : State) (blk : Nat) (en out : Fld) (o : BitVec 16) : State :=
  if o.toNat = 0xFFFF then s.wrAt blk en 0 else (s.wrAt blk en 1).wrAt blk out o.toNat

/-- Do the sources in use stay legal under a configuration (R171, R266)? -/
def State.sourcesLegal (s : State) : Bool :=
  let k := s.committed
  k.sourcesUsed.all (fun c => !k.sourceBarred c && !(c < 8192 && k.isPartner (c / 64)))

/-- The checks of a port or stream commit on the state it would leave: legal sources, then those of any commit. -/
def State.portCommit (s : State) (st : Status) : Status :=
  s.thenCommit (firstBad [st, badUnless s.sourcesLegal])

/-! ### Formats (R262) -/

/-- Is a format supported: L24 or L16, packet time 16 or 48? -/
def formatOk (f : BitVec 8 × BitVec 8) : Bool := f.1.toNat ≤ 1 && (f.2.toNat = 16 || f.2.toNat = 48)

/-- The first supported of the `n` formats offered. -/
def chooseFormat (n : Nat) (fs : List (BitVec 8 × BitVec 8)) : Option (BitVec 8 × BitVec 8) := (fs.take n).find? formatOk

/-- FMT and PTIME bits of W0. -/
def formatBits (f : BitVec 8 × BitVec 8) : Nat := 2 ^ 26 * f.1.toNat + 2 ^ 25 * b2n (f.2.toNat = 48)

/-- Payload bytes of a packet. -/
def packetBytes (chans : Nat) (f : BitVec 8 × BitVec 8) : Nat := chans * f.2.toNat * (if f.1.toNat = 0 then 3 else 2)

/-- The reply names the format chosen. -/
def formatReply (f : BitVec 8 × BitVec 8) : List Byte := leBytes 1 f.1.toNat ++ leBytes 1 f.2.toNat

/-- The firmware raises MAXLEN of a MAC for a frame of `n` bytes, to a multiple of 128 (R236). -/
def State.fitMaxlen (s : State) (p n : Nat) : State := s.raiseMaxlen p (ceilDiv n 128 * 128)

/-! ### STREAM_RX_SET (R263, R266) -/

/-- Can two contexts match one packet (R263)? -/
def State.rxClash (s : State) (a b : Nat) : Bool :=
  s.on (R.STR_RX_W0_EN a) && s.on (R.STR_RX_W0_EN b) && s.rd (R.STR_RX_W0_MAC a) = s.rd (R.STR_RX_W0_MAC b) &&
    s.rd (R.STR_RX_W1_DST a) = s.rd (R.STR_RX_W1_DST b) && s.rd (R.STR_RX_W3_DPORT a) = s.rd (R.STR_RX_W3_DPORT b) &&
    (!s.on (R.STR_RX_W0_SRC_EN a) || !s.on (R.STR_RX_W0_SRC_EN b) || s.rd (R.STR_RX_W2_SRC a) = s.rd (R.STR_RX_W2_SRC b))

/-- Is a context an enabled one with PAIR_EN? -/
def State.pairs (s : State) (c : Nat) : Bool := s.on (R.STR_RX_W0_EN c) && s.on (R.STR_RX_W0_PAIR_EN c)

/-- Is the partner that a context names as R266 wants it? -/
def State.pairOk (s : State) (c : Nat) : Bool :=
  let p := s.rd (R.STR_RX_W0_PAIR c)
  s.on (R.STR_RX_W0_EN p) && !s.on (R.STR_RX_W0_PAIR_EN p) && s.rd (R.STR_RX_W0_MAC p) ≠ s.rd (R.STR_RX_W0_MAC c) &&
    s.rd (R.STR_RX_W0_FMT p) = s.rd (R.STR_RX_W0_FMT c) && s.rd (R.STR_RX_W0_CH_M1 p) = s.rd (R.STR_RX_W0_CH_M1 c) &&
    s.rd (R.STR_RX_W0_PTIME p) = s.rd (R.STR_RX_W0_PTIME c) && s.rd (R.STR_RX_W0_PT p) = s.rd (R.STR_RX_W0_PT c) &&
    s.rd (R.STR_RX_W5_TS_OFS p) = s.rd (R.STR_RX_W5_TS_OFS c)

/-- The checks of R263 and R266 over a committed configuration, where context `c` changed. -/
def State.rxCommit (s : State) (c : Nat) : Status :=
  let k := s.committed
  let ps := (List.range 128).filter k.pairs
  firstBad [badUnless (ps.all k.pairOk),
    (if (List.range 128).any (fun x => x ≠ c && k.rxClash c x) then .conflict else .ok),
    (if ps.any (fun a => ps.any (fun b => a ≠ b && k.rd (R.STR_RX_W0_PAIR a) = k.rd (R.STR_RX_W0_PAIR b))) then .conflict else .ok)]

/-- W0 of a receive context. -/
def RxSet.word (r : RxSet) (f : BitVec 8 × BitVec 8) : Nat :=
  2 ^ 31 * b2n r.en + 2 ^ 30 * b2n r.mac + 2 ^ 29 * b2n r.pairEn + 2 ^ 28 * b2n r.srcEn + 2 ^ 27 * b2n r.ssrcEn + formatBits f +
    2 ^ 14 * r.pair.toNat + 2 ^ 8 * (r.chans.toNat - 1) + r.pt.toNat

/-- An accepted receive context. -/
def State.acceptRx (s : State) (r : RxSet) (f : BitVec 8 × BitVec 8) (blk : Nat) : State :=
  let c := r.ctx.toNat
  let s := s.regAt blk (R.STR_RX_W0_w c).addr (RxSet.word r f)
  let s := (s.regAt blk (R.STR_RX_W1_DST c).addr r.dst.toNat).regAt blk (R.STR_RX_W2_SRC c).addr r.src.toNat
  let s := (s.regAt blk (R.STR_RX_W3_w c).addr r.dport.toNat).regAt blk (R.STR_RX_W4_SSRC c).addr r.ssrc.toNat
  let s := s.regAt blk (R.STR_RX_W5_TS_OFS c).addr r.tsOfs.toNat
  let s := if r.en then s.fitMaxlen (b2n r.mac) (packetBytes r.chans.toNat f + 62) else s
  if r.en && r.dst.toNat / 2 ^ 28 = 14 then s.enterGroup (b2n r.mac) (groupMac r.dst.toNat) else s

/-- The values of STREAM_RX_SET. -/
def RxSet.status (r : RxSet) : Status :=
  firstBad [countIn 1 4 r.n.toNat, badUnless (r.ctx.toNat < 128 && 1 ≤ r.chans.toNat && r.chans.toNat ≤ 64 && r.pt.toNat < 128 && r.pair.toNat < 128),
    badUnless (chooseFormat r.n.toNat r.formats).isSome]

/-- The format of a request that passed its checks. -/
def RxSet.format (r : RxSet) : BitVec 8 × BitVec 8 := (chooseFormat r.n.toNat r.formats).getD (0#8, 16#8)

/-- STREAM_RX_SET (R262, R263, R266). -/
def execStreamRxSet (h : Hdr) (r : RxSet) (s : State) : Host.Outcome State Fault Refusal :=
  let go (s : State) : State := s.acceptRx r (RxSet.format r) s.effectBlock
  .next (s.receive h (op 0x0501 2 0 .other)
    (fun s i => ⟨lenIs h 36, s.ownsSc i r.ctx.toNat, false,
      (go s).portCommit (firstBad [RxSet.status r, (go s).rxCommit r.ctx.toNat])⟩)
    (fun s _ => (((go s).afterCommit).queueBulk bulkConfig, some (.ok, formatReply (RxSet.format r)))))

/-! ### STREAM_TX_SET (R267) -/

/-- W0 of a transmit context. -/
def TxSet.word (r : TxSet) (f : BitVec 8 × BitVec 8) : Nat :=
  2 ^ 31 * b2n r.en + 2 ^ 30 * b2n r.mac1 + 2 ^ 29 * b2n r.mac0 + 2 ^ 28 * b2n r.csum + 2 ^ 27 * b2n r.insTag + formatBits f +
    2 ^ 24 * b2n r.alarm + 2 ^ 8 * (r.outs.length - 1) + r.pt.toNat

/-- An accepted transmit context. -/
def State.acceptTx (s : State) (r : TxSet) (f : BitVec 8 × BitVec 8) (blk : Nat) : State :=
  let c := r.ctx.toNat - 128
  let s := s.regAt blk (R.STR_TX_W0_w c).addr (TxSet.word r f)
  let s := (s.regAt blk (R.STR_TX_W1_DST c).addr r.dst.toNat).regAt blk (R.STR_TX_W2_PORTS_UDP c).addr (65536 * r.sport.toNat + r.dport.toNat)
  let s := (s.regAt blk (R.STR_TX_W3_SSRC c).addr r.ssrc.toNat).regAt blk (R.STR_TX_W4_TS_OFS c).addr r.tsOfs.toNat
  let s := s.regAt blk (R.STR_TX_W5_w c).addr (65536 * r.tci.toNat + 256 * r.ttl.toNat + 4 * r.dscp.toNat)
  let s := (s.regAt blk (R.STR_TX_W6_DMAC c).addr (r.dmac.toNat % 2 ^ 32)).regAt blk (R.STR_TX_W7_w c).addr (r.dmac.toNat / 2 ^ 32)
  let s := (List.range r.outs.length).foldl (fun s i =>
    s.mapAt blk (R.STR_TXMAP_EN c i) (R.STR_TXMAP_OUTPUT c i) (r.outs.getD i 0xFFFF#16)) s
  let n := packetBytes r.outs.length f + (if r.insTag then 62 else 58)
  let s := if r.en && r.mac0 then s.fitMaxlen 0 n else s
  if r.en && r.mac1 then s.fitMaxlen 1 n else s

/-- The values of STREAM_TX_SET (DEDUCED, log entry 86). -/
def State.txStatus (s : State) (r : TxSet) : Status :=
  firstBad ([countIn 1 4 r.n.toNat, badUnless (128 ≤ r.ctx.toNat && r.ctx.toNat < 192 && 1 ≤ r.outs.length && r.pt.toNat < 128 &&
    r.dscp.toNat < 64), (if r.outs.length ≤ 64 then .ok else .limit), badUnless (chooseFormat r.n.toNat r.formats).isSome] ++ r.outs.map s.mapStatus)

def TxSet.format (r : TxSet) : BitVec 8 × BitVec 8 := (chooseFormat r.n.toNat r.formats).getD (0#8, 16#8)

/-- STREAM_TX_SET (R262, R267). -/
def execStreamTxSet (h : Hdr) (r : TxSet) (s : State) : Host.Outcome State Fault Refusal :=
  let go (s : State) : State := s.acceptTx r (TxSet.format r) s.effectBlock
  .next (s.receive h (op 0x0502 2 0 .other)
    (fun s i => ⟨lenIs h (44 + 2 * r.outs.length), s.ownsSc i r.ctx.toNat, false, (go s).portCommit (s.txStatus r)⟩)
    (fun s _ => (((go s).afterCommit).queueBulk bulkConfig, some (.ok, formatReply (TxSet.format r)))))

/-! ### PORT_TDM_SET (R171–R177) -/

/-- Do a port's slots fit the frame: a master's FLEN (R173), a synchronous slave's bit clocks at the render rate (R6)? -/
def State.frameFits (s : State) (cfg : Nat) : Bool :=
  let slots := bitsOf cfg 9 5 + 1
  let width := max 7 (bitsOf cfg 4 0) + 1
  let len := if bitOf cfg 30 then 49152000 / (s.fs * 2 ^ (min 5 (bitsOf cfg 23 21))) else 49152000 / s.fs
  (!bitOf cfg 30 && bitOf cfg 29) || slots * width ≤ len

/-- The masks and the map of a TDM port are written; they wait for their frame (R177). -/
def State.acceptTdm (s : State) (n cfg tol mIn mOut : Nat) (map : List (BitVec 16)) (blk : Nat) : State :=
  let s := (s.regAt blk (R.TDM_CFG_w n).addr cfg).regAt blk (R.TDM_ALIGN_w n).addr tol
  let s := (s.wrAt blk (R.TDM_MASK_IN_SLOTS n) mIn).wrAt blk (R.TDM_MASK_OUT_SLOTS n) mOut
  ((List.range 32).foldl (fun s i => s.mapAt blk (R.TDM_CHMAP_EN n i) (R.TDM_CHMAP_OUTPUT n i) (map.getD i 0xFFFF#16)) s)

/-- PORT_TDM_SET (DESIGN CHOICE, log entry 87). -/
def execPortTdmSet (h : Hdr) (port : BitVec 8) (cfg : BitVec 32) (tol : BitVec 16) (maskIn : BitVec 32) (maskOut : BitVec 32)
    (map : List (BitVec 16)) (s : State) : Host.Outcome State Fault Refusal :=
  let n := port.toNat
  let go (s : State) : State := s.acceptTdm n cfg.toNat tol.toNat maskIn.toNat maskOut.toNat map s.effectBlock
  .next (s.receive h (op 0x0503 1 0 .other)
    (fun s i => ⟨lenIs h 84, s.classAtMost i 1, false,
      (go s).portCommit (firstBad ([badUnless (n < 16), wordStatus (R.TDM_CFG_w 0).addr 0 cfg.toNat, badUnless (tol.toNat < 32768),
        badUnless !(bitOf cfg.toNat 30 && bitOf cfg.toNat 29), (if s.frameFits cfg.toNat then .ok else .limit)] ++ map.map s.mapStatus))⟩)
    (fun s _ => (((go s).afterCommit).queueBulk bulkConfig, some (.ok, []))))

/-! ### PORT_AES_SET (R180–R184) -/

/-- An accepted AES3 output: configuration, map and template at a boundary. -/
def State.acceptAesOut (s : State) (n cfg map template blk : Nat) : State :=
  let s := s.regAt blk (R.AES_OCFG_w n).addr cfg
  let s := (s.wrAt blk (R.AES_OMAP_EN_A n) (bitsOf map 15 15)).wrAt blk (R.AES_OMAP_OUT_A n) (bitsOf map 9 0)
  let s := (s.wrAt blk (R.AES_OMAP_EN_B n) (bitsOf map 31 31)).wrAt blk (R.AES_OMAP_OUT_B n) (bitsOf map 25 16)
  let s := s.regAt blk (R.AES_OCS0_CS n).addr (template % 2 ^ 32)
  (List.range 5).foldl (fun s w => s.regAt blk (R.AES_OCS_CS n w).addr (template / 2 ^ (32 * (w + 1)) % 2 ^ 32)) s

/-- The outputs of an AES3 map. -/
def State.aesMapStatus (s : State) (map : Nat) : Status :=
  firstBad [wordStatus (R.AES_OMAP_w 0).addr 0 map, (if bitOf map 15 then s.outId (bitsOf map 9 0) else .ok),
    (if bitOf map 31 then s.outId (bitsOf map 25 16) else .ok)]

/-- PORT_AES_SET: `dir` 0 is an input, 1 an output (DESIGN CHOICE, log entry 87). -/
def execPortAesSet (h : Hdr) (dir : BitVec 8) (index : BitVec 8) (cfg : BitVec 32) (map : BitVec 32) (template : BitVec 192)
    (s : State) : Host.Outcome State Fault Refusal :=
  let n := index.toNat
  let go (s : State) : State :=
    if dir.toNat = 0 then s.regAt s.effectBlock (R.AES_ICFG_w n).addr cfg.toNat
    else s.acceptAesOut n cfg.toNat map.toNat template.toNat s.effectBlock
  .next (s.receive h (op 0x0504 1 0 .other)
    (fun s i => ⟨lenIs h 36, s.classAtMost i 1, false,
      (go s).portCommit (firstBad [badUnless (dir.toNat ≤ 1), badUnless (n < 4),
        wordStatus (if dir.toNat = 0 then (R.AES_ICFG_w 0).addr else (R.AES_OCFG_w 0).addr) 0 cfg.toNat,
        (if dir.toNat = 1 then s.aesMapStatus map.toNat else .ok)])⟩)
    (fun s _ => (((go s).afterCommit).queueBulk bulkConfig, some (.ok, []))))

/-! ### MIC_SET, ASRC_SET (R185–R192) -/

/-- MIC_SET: the gain waits for its crossing; the rest applies at the boundary. -/
def execMicSet (h : Hdr) (input : BitVec 8) (cfg : BitVec 32) (det : BitVec 32) (s : State) : Host.Outcome State Fault Refusal :=
  let n := input.toNat
  .next (s.receive h (op 0x0505 1 0 .other)
    (fun s i => ⟨lenIs h 12, s.classAtMost i 1, false,
      s.thenCommit (firstBad [badUnless (n < 4), wordStatus (R.MIC_CFG_w 0).addr 0 cfg.toNat, wordStatus (R.MIC_DET_CFG_w 0).addr 0 det.toNat])⟩)
    (fun s _ =>
      let s := ((s.micGain n (bitsOf cfg.toNat 3 0)).regAt s.effectBlock (R.MIC_CFG_w n).addr cfg.toNat).regAt s.effectBlock
        (R.MIC_DET_CFG_w n).addr det.toNat
      ((s.afterCommit).queueBulk bulkConfig, some (.ok, []))))

/-- ASRC_SET: an enabled channel needs an input of an ASYNC port (R171). -/
def execAsrcSet (h : Hdr) (ch : BitVec 8) (bw : BitVec 8) (cfg : BitVec 32) (s : State) : Host.Outcome State Fault Refusal :=
  let n := ch.toNat
  let go (s : State) : State := (s.regAt s.effectBlock (R.ASC_CFG_w n).addr cfg.toNat).regAt s.effectBlock (R.ASC_LOOP_w n).addr bw.toNat
  .next (s.receive h (op 0x0506 2 0 .other)
    (fun s i => ⟨lenIs h 8, s.classAtMost i 1, false,
      (go s).portCommit (firstBad [badUnless (n < 32), badUnless (bw.toNat < 16), wordStatus (R.ASC_CFG_w 0).addr 0 cfg.toNat,
        badUnless !((go s).committed.sourceBarred (24576 + n))])⟩)
    (fun s _ => (((go s).afterCommit).queueBulk bulkConfig, some (.ok, []))))

end Sys2Proof.Machine
end

