-- ==== Sys2Proof/Machine/PowerCmds.lean ====
section
/-! DEFINITION. The power-stage group of commands (R194–R209, R213, R312). -/

namespace Sys2Proof.Machine

open Sys2Proof

/-! ### PS_CONFIG (R197–R200, R206, R207) -/

/-- PWS_CFG as PS_CONFIG commits it: ROLE is ignored, so the committed ROLE stays. -/
def State.cfgWord (s : State) (n : Nat) (cfg : BitVec 32) : Nat :=
  setBits cfg.toNat 29 28 (s.committed.rd (R.PWS_CFG_ROLE n))

/-- A channel's configuration waits for its boundary, and its frequency search has run (R198). -/
def State.acceptPs (s : State) (n : Nat) (w : PsWords) (blk : Nat) : State :=
  let s := s.regAt blk (R.PWS_CFG_w n).addr (s.cfgWord n w.cfg)
  let s := (s.regAt blk (R.PWS_FSW_w n).addr w.fsw.toNat).regAt blk (R.PWS_TIME_w n).addr w.time.toNat
  let s := (s.regAt blk (R.PWS_SAG_w n).addr w.sag.toNat).regAt blk (R.PWS_CAL_w n).addr w.cal.toNat
  let s := (s.regAt blk (R.PWS_PROBE_w n).addr w.probe.toNat).regAt blk (R.PWS_LOOP_w n).addr w.loop.toNat
  s.wrAt blk (R.PWS_VFS_VFS n) w.vfs.toNat

/-- Is a channel single: ROLE 0, or 3, which acts as 0? -/
def State.single (s : State) (n : Nat) : Bool := s.rd (R.PWS_CFG_ROLE n) = 0 || s.rd (R.PWS_CFG_ROLE n) = 3

/-- May a channel's fallback be what it names (R206)? -/
def State.fallbackOk (s : State) (c : Nat) : Bool :=
  let f := s.rd (R.PWS_CFG_FB c)
  !s.on (R.PWS_CFG_FB_EN c) || (f < 24 && f ≠ c && s.on (R.PWS_CFG_EN f) && !s.on (R.PWS_CFG_PROG f) && s.single f &&
    (List.range 24).all (fun x => x = c || !(s.on (R.PWS_CFG_FB_EN x) && s.rd (R.PWS_CFG_FB x) = f)))

/-- The fallbacks a commit to channel `n` touches: its own, and its place as another's. -/
def State.fallbacksOk (s : State) (n : Nat) : Bool :=
  (List.range 24).all (fun c => (c ≠ n && s.rd (R.PWS_CFG_FB c) ≠ n) || s.fallbackOk c)

/-- Is the pair of an even channel as R207 wants it: one output, no fallback? -/
def State.pairLegal (s : State) (a : Nat) : Bool :=
  s.rd (R.PWS_CFG_OUTPUT a) = s.rd (R.PWS_CFG_OUTPUT (a + 1)) && !s.on (R.PWS_CFG_FB_EN a) && !s.on (R.PWS_CFG_FB_EN (a + 1))

/-- The words of PS_CONFIG: reserved bits, FB and OUTPUT in range (R213) (DEDUCED, log entry 40). -/
def State.psWordStatus (s : State) (w : PsWords) : Status :=
  firstBad [wordStatus (R.PWS_CFG_w 0).addr 0 w.cfg.toNat, wordStatus (R.PWS_FSW_w 0).addr 0 w.fsw.toNat,
    wordStatus (R.PWS_TIME_w 0).addr 0 w.time.toNat, wordStatus (R.PWS_VFS_w 0).addr 0 w.vfs.toNat,
    wordStatus (R.PWS_SAG_w 0).addr 0 w.sag.toNat, wordStatus (R.PWS_CAL_w 0).addr 0 w.cal.toNat,
    wordStatus (R.PWS_PROBE_w 0).addr 0 w.probe.toNat, wordStatus (R.PWS_LOOP_w 0).addr 0 w.loop.toNat,
    badUnless (bitsOf w.cfg.toNat 25 21 < 24), s.outId (bitsOf w.cfg.toNat 9 0)]

/-- The checks over the configuration that a commit to channel `n` leaves (R206, R207). -/
def State.psCommitStatus (s : State) (n : Nat) : Status :=
  let k := s.committed
  let a := n - n % 2
  firstBad [badUnless (k.rd (R.PWS_CFG_ROLE a) ≠ 1 || k.pairLegal a), (if k.fallbacksOk n then .ok else .conflict)]

/-- PS_CONFIG (DEDUCED, log entry 40). -/
def execPsConfig (h : Hdr) (ch : BitVec 8) (w : PsWords) (s : State) : Host.Outcome State Fault Refusal :=
  let n := ch.toNat
  let go (s : State) : State := s.acceptPs n w s.effectBlock
  .next (s.receive h (op 0x0601 1 0 .other)
    (fun s i => ⟨lenIs h 36, s.ownsPs i n && (!bitOf w.cfg.toNat 26 || s.ownsPs i (bitsOf w.cfg.toNat 25 21)), false,
      (go s).thenCommit (firstBad [badUnless (n < 24), s.psWordStatus w, (go s).psCommitStatus n])⟩)
    (fun s _ =>
      let s := go (s.lineAbort n)
      (((State.freqSearchIn s.committed s n).afterCommit).queueBulk bulkConfig, some (.ok, []))))

/-! ### PS_ENABLE (R200, R204, R205, R211) -/

/-- One entry: FAULT for a channel LATCHED or stopped for DC (DEDUCED, log entry 41). -/
def State.enableStatus (s : State) (e : BitVec 8 × BitVec 8) : Status :=
  if 24 ≤ e.1.toNat || 2 ≤ e.2.toNat then .badParam
  else if s.psState e.1.toNat = stLatched || s.psState e.1.toNat = stStoppedDc then .fault
  else .ok

/-- PS_ENABLE: each channel starts or stops from its boundary. -/
def execPsEnable (h : Hdr) (es : List (BitVec 8 × BitVec 8)) (s : State) : Host.Outcome State Fault Refusal :=
  .next (s.receive h (op 0x0602 1 0 .other)
    (fun s i => ⟨lenIs h (1 + 2 * es.length), es.all (fun e => s.ownsPs i e.1.toNat),
      es.any (fun e => e.2.toNat = 1 && (s.psSt e.1.toNat).shed), firstBad (countIn 1 24 es.length :: es.map s.enableStatus)⟩)
    (fun s _ => (es.foldl (fun (s : State) (e : BitVec 8 × BitVec 8) =>
      (s.lineAbort e.1.toNat).later s.effectBlock (.psRun e.1.toNat (e.2 = 1#8))) s, some (.ok, []))))

/-! ### PS_LOOP_PAIR (R207) -/

/-- A pair is formed or dissolved; the B-end takes its A-end's frequency (R198). -/
def State.acceptPair (s : State) (a : Nat) (pair : Bool) (blk : Nat) : State :=
  let k := s.committed
  let role (n r : Nat) : Nat := setBits (k.word (R.PWS_CFG_w n)) 29 28 r
  let s := (s.regAt blk (R.PWS_CFG_w a).addr (role a (b2n pair))).regAt blk (R.PWS_CFG_w (a + 1)).addr (role (a + 1) (2 * b2n pair))
  if pair then s.later blk (.psFreq (a + 1) (((s.sched.filterMap (fun x => match x.act with
    | .psFreq c f => if c = a then some f else none
    | _ => none)).getLast?).getD (s.rd (R.PWS_STATUS_F_NOW a)))) else s

/-- Does another channel name this one as its fallback? -/
def State.servesAny (s : State) (n : Nat) : Bool :=
  (List.range 24).any (fun c => s.on (R.PWS_CFG_FB_EN c) && s.rd (R.PWS_CFG_FB c) = n)

/-- PS_LOOP_PAIR. -/
def execPsLoopPair (h : Hdr) (ch : BitVec 8) (pair : Bool) (s : State) : Host.Outcome State Fault Refusal :=
  let a := ch.toNat
  let go (s : State) : State := s.acceptPair a pair s.effectBlock
  .next (s.receive h (op 0x0603 2 0 .other)
    (fun s i => ⟨lenIs h 2, s.ownsPs i a && s.ownsPs i (a + 1), false,
      (go s).thenCommit (firstBad [badUnless (a < 24 && a % 2 = 0), badUnless (!pair || s.committed.pairLegal a),
        (if pair && (s.committed.servesAny a || s.committed.servesAny (a + 1)) then .conflict else .ok)])⟩)
    (fun s _ => (((go ((s.lineAbort a).lineAbort (a + 1))).afterCommit).queueBulk bulkConfig, some (.ok, []))))

/-! ### PS_BAND_PROTECT (R197, R198) -/

/-- The protected entries wait for their boundary; the rest are disabled. -/
def State.acceptProt (s : State) (fs : List (BitVec 16)) (blk : Nat) : State :=
  (List.range 8).foldl (fun s i => s.regAt blk (R.PWS_PROT_w i).addr
    (match fs[i]? with | some f => 0x80000000 + f.toNat | none => 0)) s

/-- The code a search chooses for a channel, or the one it stays at. -/
def State.chosenIn (k s : State) (n : Nat) : Nat :=
  let n := if k.rd (R.PWS_CFG_ROLE n) = 2 then n - 1 else n
  (k.searchCode n).getD (if (s.psSt n).everRan then s.rd (R.PWS_STATUS_F_NOW n) else k.rd (R.PWS_FSW_F_NOM n))

/-- PS_BAND_PROTECT (DEDUCED, log entry 42). -/
def execPsBandProtect (h : Hdr) (freqs : List (BitVec 16)) (s : State) : Host.Outcome State Fault Refusal :=
  let go (s : State) : State := s.acceptProt freqs s.effectBlock
  .next (s.receive h (op 0x0604 3 1 .other)
    (fun s i => ⟨lenIs h (4 + 4 * freqs.length), s.classAtMost i 0, false,
      (go s).thenCommit (firstBad (countIn 0 8 freqs.length :: freqs.map (fun f => badUnless (f.toNat < 32768))))⟩)
    (fun s _ =>
      let s := go s
      let k := s.committed
      let s := (List.range 24).foldl (fun s n => State.freqSearchIn k s n) s
      ((s.afterCommit).queueBulk bulkConfig, some (.ok,
        ((List.range 24).map (fun n => leBytes 2 (State.chosenIn k s n))).flatten ++
          leBytes 3 ((List.range 24).foldr (fun n acc => s.rd (R.PWS_FAULT_BAND_FAIL n) + 2 * acc) 0)))))

/-! ### PS_STATUS, PS_FAULT_CLEAR -/

/-- The 16 bytes of one channel. -/
def State.psEntry (s : State) (n : Nat) : List Byte :=
  leBytes 4 (s.psStatusWord n) ++ leBytes 4 (s.word (R.PWS_FAULT_w n)) ++ leBytes 4 (s.word (R.PWS_MEAS_w n)) ++
    leBytes 4 (s.word (R.TLY_RES_w n))

/-- PS_STATUS. -/
def execPsStatus (h : Hdr) (first : BitVec 8) (n : BitVec 8) (s : State) : Host.Outcome State Fault Refusal :=
  .next (s.receive h (op 0x0605 1 1 .query)
    (fun _ _ => ⟨lenIs h 2, true, false, firstBad [countIn 1 24 n.toNat, badUnless (first.toNat + n.toNat ≤ 24)]⟩)
    (fun s _ => (s, some (.ok, ((List.range n.toNat).map (fun i => s.psEntry (first.toNat + i))).flatten))))

/-- PS_FAULT_CLEAR (R204, R205, R209): as a write of 1s to PWS_FAULT. -/
def execPsFaultClear (h : Hdr) (es : List (BitVec 8 × BitVec 8)) (s : State) : Host.Outcome State Fault Refusal :=
  .next (s.receive h (op 0x0606 1 0 .other)
    (fun s i => ⟨lenIs h (1 + 2 * es.length), es.all (fun e => s.ownsPs i e.1.toNat), false,
      firstBad (countIn 1 24 es.length :: es.map (fun e => badUnless (e.1.toNat < 24 && e.2.toNat < 64)))⟩)
    (fun s _ => (es.foldl (fun (s : State) (e : BitVec 8 × BitVec 8) => (s.lineAbort e.1.toNat).clearFaults e.1.toNat e.2.toNat) s,
      some (.ok, []))))

end Sys2Proof.Machine
end

