-- ==== Sys2Proof/Machine/TallyCmds.lean ====
section
/-! DEFINITION. The test group of commands (R214–R231, R312). -/

namespace Sys2Proof.Machine

open Sys2Proof

/-! ### TALLY_SCHEDULE -/

/-- The values of TALLY_SCHEDULE: reserved bits, and fields that fit their registers. -/
def TallyReq.status (r : TallyReq) : Status :=
  firstBad [badUnless (r.ctrl.toNat &&& 0xC1 = 0), badUnless (r.start.toNat < 2 ^ 17 && r.len.toNat < 2 ^ 11),
    badUnless (decide (-2048 ≤ r.ofs.toInt ∧ r.ofs.toInt < 2048)), badUnless (r.sel.toNat < 2 ^ 24)]

/-- The settings are written. A DRAM pass that is enabled begins (R224). -/
def State.acceptTally (s : State) (r : TallyReq) : State :=
  let was := s.on R.TLY_CTRL_DRAM_EN
  let s := s.wr R.TLY_CTRL_w (setBits (s.word R.TLY_CTRL_w) 5 1 (r.ctrl.toNat / 2))
  let s := (s.wr R.TLY_WIN_START r.start.toNat).wr R.TLY_WIN_LEN r.len.toNat
  let s := (s.wr R.TLY_WIN_OFS_VALUE (unsignedOf 12 r.ofs.toInt)).wr R.TLY_LINE_SEL_VALUE r.sel.toNat
  let s := ((s.wr R.TLY_LINE_CFG_w r.cfg.toNat).wr R.TLY_DRV_INTERVAL r.interval.toNat).wr R.TLY_SNS_TOL r.tol.toNat
  if !was && s.on R.TLY_CTRL_DRAM_EN then { s with tly := { s.tly with dramAt := s.tm.raw } } else s

/-- TALLY_SCHEDULE (DEDUCED, log entry 43). -/
def execTallySchedule (h : Hdr) (r : TallyReq) (s : State) : Host.Outcome State Fault Refusal :=
  .next (s.receive h (op 0x0701 2 0 .other)
    (fun s i => ⟨lenIs h 20, s.classAtMost i 0, false, s.thenCommit (TallyReq.status r)⟩)
    (fun s _ => (((s.acceptTally r).afterCommit).queueBulk bulkConfig, some (.ok, []))))

/-! ### TALLY_RUN_NOW -/

/-- The channels a line test or capture names: one, or those of the nightly test. -/
def State.runChannels (s : State) (subject : Nat) : List Nat := if subject = 0xFFFF then s.lineList else [subject]

/-- Subjects by test: channels, messages, cores, sense channels. -/
def subjectLimit (test : Nat) : Nat :=
  if test = tLine || test = tBaseline then 24 else if test = tMessage then 256 else if test = tSelf then 32
  else if test = tSense then 50 else 1

/-- The values of TALLY_RUN_NOW. CONFLICT while a line test or capture runs (DEDUCED, log entry 43). -/
def State.runStatus (s : State) (test subject : Nat) : Status :=
  firstBad [badUnless (1 ≤ test && test ≤ 8), badUnless (subject = 0xFFFF || subject < subjectLimit test),
    (if test ≤ 2 && (s.runChannels subject).any (fun n => s.rd (R.PWS_CFG_ROLE n) = 2) then .badParam else .ok),
    (if test = tBaseline && 8 < (s.runChannels subject).length then .limit else .ok),
    (if s.lineBusy then .conflict else .ok)]

/-- The check of one message's stored CRC (R224), logged. -/
def State.testMessage (s : State) (m : Nat) : State :=
  match s.msg m with
  | some x => if x.state = .valid then s.tallyLog tMessage (if (crc32 x.data).toNat = x.crc then rPass else rFail) m 0 else s
  | none => s

/-- A test is asked for: it runs at the next of its events. -/
def State.ask (s : State) (test : Nat) (subjects : List Nat) : State :=
  { s with tly := { s.tly with asked := s.tly.asked ++ (subjects.map (fun n => (test, n))).filter (fun (p : Nat × Nat) => !s.tly.asked.contains p) } }

/-- A DRAM pass begins anew. -/
def State.dramRestart (s : State) : State :=
  { s with tly := { s.tly with dramFails := 0, dramAt := s.tm.raw, dramCur := 0 } }.wr R.TLY_DRAM_PTR_VALUE 0

/-- A test runs once (R312). -/
def State.runTest (s : State) (test subject : Nat) : State :=
  if test = tLine then
    (match s.runChannels subject with
      | [] => s
      | n :: ns => { s with tly := { s.tly with onceTodo := ns } }.lineSlot n true)
  else if test = tBaseline then s.captureStart (s.runChannels subject) 6
  else if test = tScrub then
    ({ s with tly := { s.tly with scrubFails := 0 } }.wr R.HST_SCRUB_PTR_SLOT 0).flag R.HST_SCRUB_CTRL_ENABLE
  else if test = tDram then s.dramRestart.ask tDram [0]
  else if test = tMessage then (if subject = 0xFFFF then s.msgs.keys else [subject]).foldl State.testMessage s
  else if test = tSelf then s.ask tSelf (if subject = 0xFFFF then (List.range 32).filter s.inService else [subject])
  else s.ask test [subject]

/-- TALLY_RUN_NOW. -/
def execTallyRunNow (h : Hdr) (test : BitVec 8) (subject : BitVec 16) (s : State) : Host.Outcome State Fault Refusal :=
  let t := test.toNat
  .next (s.receive h (op 0x0702 2 0 .other)
    (fun s i => ⟨lenIs h 4, s.classAtMost i 0 && (2 < t || (s.runChannels subject.toNat).all (s.ownsPs i)), 1 ≤ s.stage,
      s.runStatus t subject.toNat⟩)
    (fun s _ => (s.runTest t subject.toNat, some (.ok, []))))

/-! ### TALLY_LOG_READ (R231) -/

/-- The entries from an index on, and how many were skipped (DEDUCED, log entry 90). -/
def State.logFrom (s : State) (x : Nat) : Nat × List LogEntry :=
  match s.tly.log.getLast? with
  | none => (0, [])
  | some newest =>
    if s.tly.log.any (fun e => e.index = x) then (0, s.tly.log.dropWhile (fun e => e.index ≠ x))
    else if laterThan 16 x newest.index then (0, [])
    else (((s.tly.log.head?.map LogEntry.index).getD 0 + 65536 - x) % 65536, s.tly.log)

/-- Entries that were returned have been read (R230). -/
def State.markRead (s : State) (xs : List Nat) : State :=
  { s with tly := { s.tly with log := s.tly.log.map (fun e => if xs.contains e.index then { e with read := true } else e) } }

/-- TALLY_LOG_READ (DEDUCED, log entry 90). -/
def execTallyLogRead (h : Hdr) (index : BitVec 16) (n : BitVec 16) (s : State) : Host.Outcome State Fault Refusal :=
  .next (s.receive h (op 0x0703 1 0 .query)
    (fun _ _ => ⟨lenIs h 4, true, false, countIn 1 256 n.toNat⟩)
    (fun s _ =>
      let p := s.logFrom index.toNat
      let es := p.2.take n.toNat
      (s.markRead (es.map LogEntry.index), some (.ok, leBytes 2 p.1 ++ leBytes 2 es.length ++ (es.map LogEntry.bytes).flatten))))

/-! ### BASELINE_CAPTURE (R222) -/

/-- The channels of a capture. FAULT while another capture runs (R312 gives no status of its own) (DEDUCED, log entry 44). -/
def State.captureStatus (s : State) (chs : List (BitVec 8)) : Status :=
  firstBad (countIn 1 8 chs.length :: chs.map (fun c => badUnless (c.toNat < 24 && s.rd (R.PWS_CFG_ROLE c.toNat) ≠ 2)) ++
    [if s.tly.capture.isSome then .fault else .ok])

def opCapture : Nat := 0x0704

/-- BASELINE_CAPTURE: a line test that runs on a named channel is aborted, as by any command to it (R220) (DEDUCED, log entry 44). -/
def execBaselineCapture (h : Hdr) (chs : List (BitVec 8)) (s : State) : Host.Outcome State Fault Refusal :=
  .next (s.receive h (op opCapture 2 0 .other)
    (fun s i => ⟨lenIs h (1 + chs.length), chs.all (fun c => s.ownsPs i c.toNat), 1 ≤ s.stage, s.captureStatus chs⟩)
    (fun s i =>
      let ns := dedup (chs.map BitVec.toNat)
      let s := ns.foldl State.lineAbort s
      ((s.beginLong h.port.val i opCapture h.seq.toNat 30000).captureStart ns h.port.val, none)))

end Sys2Proof.Machine
end

