-- ==== Sys2Proof/Machine/TimeCmds.lean ====
section
/-! DEFINITION. The time and mirror groups of commands (R256–R261, R312, R318, R325). -/

namespace Sys2Proof.Machine

open Sys2Proof

/-! ### TIME_CONFIG -/

/-- The values of TIME_CONFIG: profiles in the row order of R256; 802.1AS has domain 0; a backup port may be none (DEDUCED, log entry 45). -/
def TimeReq.status (r : TimeReq) : Status :=
  firstBad [badUnless (r.profile.toNat < 4), badUnless (r.domain.toNat < 128 && (r.profile.toNat ≠ 3 || r.domain.toNat = 0)),
    badUnless (r.primary.toNat < 3), badUnless (r.backup.toNat < 3 || r.backup.toNat = 255), badUnless (r.rateMax.toNat < 1024)]

/-- The added latencies of the three ports, and the constants that follow (R253). -/
def State.setLats (s : State) (xs : List (BitVec 16 × BitVec 16)) : State :=
  let s := { s with ptp := { s.ptp with lat := (List.range 3).map (fun p => ((xs.getD p (0#16, 0#16)).1.toNat, (xs.getD p (0#16, 0#16)).2.toNat)) } }
  ((s.loadLat 0).loadLat 1).loadLat 2

/-- The firmware enters the addresses of the PTP profile on both time ports (R239). -/
def State.ptpGroups (s : State) : State :=
  let d := ptpGroup s.ptp.profile s.ptp.layer2
  let s := if s.ptp.primary < 3 then s.enterGroup s.ptp.primary d else s
  if s.ptp.backup < 3 then s.enterGroup s.ptp.backup d else s

/-- The time unit as configured; the link offset is ignored after first lock (R261). -/
def State.acceptTime (s : State) (r : TimeReq) : State :=
  let s := { s with ptp := { profile := r.profile.toNat, domain := r.domain.toNat, master := r.master, layer2 := r.layer2,
                             primary := r.primary.toNat, backup := r.backup.toNat, inUse := r.primary.toNat, lat := s.ptp.lat } }
  let s := (s.wr R.TSU_CTRL_QUAL_ONE (b2n r.qualOne)).wr R.TSU_CTRL_PPS_OUT_EN (b2n r.pps)
  let s := if s.on R.TSU_CTRL_LOCK then s else s.wr R.TSU_LINK_OFS_VALUE r.linkOfs.toNat
  let s := (s.wr R.TSU_SERVO_KP_VALUE r.kp.toNat).wr R.TSU_SERVO_KI_VALUE r.ki.toNat
  let s := (s.wr R.TSU_SERVO_LIM_RATE_MAX r.rateMax.toNat).wr R.TSU_SERVO_LIM_HOLD_TO r.holdTo.toNat
  (((s.wr R.TSU_SERVO_THR_VALUE r.lockThr.toNat).wr R.TSU_STEP_THR_VALUE r.stepThr.toNat).setLats r.lat).ptpGroups

/-- TIME_CONFIG (DEDUCED, log entry 45). -/
def execTimeConfig (h : Hdr) (r : TimeReq) (s : State) : Host.Outcome State Fault Refusal :=
  .next (s.receive h (op 0x0801 2 0 .other)
    (fun s i => ⟨lenIs h 44, s.classAtMost i 0, false, s.thenCommit (TimeReq.status r)⟩)
    (fun s _ => (((s.acceptTime r).afterCommit).queueBulk bulkConfig, some (.ok, []))))

/-! ### TIME_STATUS -/

/-- The 40 bytes of TIME_STATUS; the PTP state and the grandmaster are what the firmware's protocol found, which no rule gives (DESIGN CHOICE,
log entry 46). -/
def State.timeStatus (s : State) : List Byte :=
  leBytes 4 (s.word R.TSU_STATUS_w) ++ leBytes 1 s.ptp.inUse ++ leBytes 1 (min 4 (Config.ptpState s.free)) ++ leBytes 2 0 ++
    leBytes 4 (unsignedOf 32 s.tm.lastTheta) ++ leBytes 4 (unsignedOf 32 s.tm.rate) ++ leBytes 8 s.now ++ leBytes 8 s.tm.blockCount ++
    leBytes 8 (Config.gmId s.free)

/-- TIME_STATUS. -/
def execTimeStatus (h : Hdr) (s : State) : Host.Outcome State Fault Refusal :=
  .next (s.receive h (op 0x0802 2 0 .query) (fun _ _ => ⟨lenIs h 0, true, false, .ok⟩)
    (fun s _ => (s.fresh, some (.ok, s.timeStatus))))

/-! ### SCHEDULE_EVENT -/

/-- Is a GPIO assigned as an output? The layout of the pin window is not given, so what its words assign is free (DESIGN CHOICE, log entry 46). -/
def State.gpioOut (s : State) (n : Nat) : Bool := Config.gpioOutput s.pins n

/-- SCHEDULE_EVENT: the action waits for its presentation time. -/
def execScheduleEvent (h : Hdr) (action : BitVec 8) (gpio : BitVec 8) (tag : BitVec 32) (s : State) : Host.Outcome State Fault Refusal :=
  .next (s.receive h ⟨0x0803, (2, 0), .within, false, .other⟩
    (fun s i => ⟨lenIs h 8, s.classAtMost i 1, false,
      firstBad [badUnless h.timed, badUnless (action.toNat ≤ 2), badUnless (gpio.toNat < 32),
        badUnless (action = 2#8 || s.gpioOut gpio.toNat)]⟩)
    (fun s i => ({ s with acts := s.acts ++ [⟨i, h.time, action.toNat, gpio.toNat, tag.toNat⟩] }, some (.ok, []))))

/-! ### The mirror group (R318, R325) -/

/-- MIRROR_CONFIG. -/
def execMirrorConfig (h : Hdr) (en : Bool) (prefer : Bool) (s : State) : Host.Outcome State Fault Refusal :=
  .next (s.receive h (op 0x0901 2 0 .query)
    (fun s i => ⟨lenIs h 4, s.classAtMost i 0, false, .ok⟩)
    (fun s _ => ((s.wr R.FLD_CTRL_PREFER_ACTIVE (b2n prefer)).mirrorEnable en, some (.ok, []))))

/-- MIRROR_STATUS. -/
def execMirrorStatus (h : Hdr) (s : State) : Host.Outcome State Fault Refusal :=
  .next (s.receive h (op 0x0902 2 0 .query) (fun _ _ => ⟨lenIs h 0, true, false, .ok⟩)
    (fun s _ => (s, some (.ok, leBytes 1 s.role ++ leBytes 1 (s.rd R.FLD_STATUS_PARTNER) ++
      leBytes 1 (s.rd R.FLD_STATUS_FOLD_UP + 2 * s.rd R.FLD_STATUS_HB_UP) ++ leBytes 1 (s.rd R.FLD_PARTNER_MAJOR) ++
      leBytes 8 (s.rd64 R.FLD_TAKEOVER_LO_BLOCK R.FLD_TAKEOVER_HI_BLOCK) ++ leBytes 4 (s.rd R.FLD_CNT_COPY_FAIL_COUNT)))))

/-- May a planned switchover begin: this unit is ACTIVE and the partner in step? (DEDUCED, log entry 47) -/
def State.maySwitch (s : State) : Bool := s.role = roleActive && s.rd R.FLD_STATUS_PARTNER = 2

/-- The switch boundary: of the change under way, else two blocks after the effect block (R325) (DEDUCED, log entry 47). -/
def State.switchBlock (s : State) : Nat :=
  match s.mir.change with
  | some x => x.s
  | none => s.effectBlock + 2

/-- MIRROR_SWITCHOVER. -/
def execMirrorSwitchover (h : Hdr) (s : State) : Host.Outcome State Fault Refusal :=
  .next (s.receive h (op 0x0903 2 0 .query)
    (fun s i => ⟨lenIs h 0, s.classAtMost i 0, false, if s.maySwitch then .ok else .fault⟩)
    (fun s _ => (s.setChange s.switchBlock true true, some (.ok, leBytes 8 s.switchBlock))))

end Sys2Proof.Machine
end

