-- ==== Sys2Proof/Machine/SecCmds.lean ====
section
/-! DEFINITION. The security, firmware and supply groups of commands, and RESET (R290, R306, R308, R310, R370, R392, R394, R395). -/

namespace Sys2Proof.Machine

open Sys2Proof

/-! ### ATTEST, CERT_READ -/

/-- The measurement as the registers hold it, byte 0 first. -/
def State.measBytes (s : State) : List Byte := ((List.range 8).map (fun w => leBytes 4 (s.rd (R.SEC_MEAS_MEAS w)))).flatten

/-- Bytes 0–91 of an attestation (R310) (DESIGN CHOICE, log entry 25). -/
def State.attestBytes (s : State) (nonce : BitVec 128) : List Byte :=
  [1#8, 0#8, 1#8, 1#8, 2#8, 0#8, 2#8, 1#8, 3#8, 0#8, 3#8, 1#8, 3#8, 2#8, 0#8, 16#8, 0#8, 48#8, 1#8, 16#8, 1#8, 48#8, 0#8, 0#8] ++
    leBytes 4 (s.rd R.SEC_FW_VERSION_VALUE) ++ s.measBytes ++ leBytes 8 s.otp.rollback ++ leBytes 8 s.tm.blockCount ++ leBytes 16 nonce.toNat

/-- ATTEST: the signature is the device key's, which nothing reads; its bytes are free. -/
def execAttest (h : Hdr) (nonce : BitVec 128) (s : State) : Host.Outcome State Fault Refusal :=
  .next (s.receive h (op 0x0A01 2 0 .query) (fun _ _ => ⟨lenIs h 16, true, false, .ok⟩)
    (fun s _ => (s.fresh, some (.ok, s.attestBytes nonce ++ (List.range 64).map (Config.signByte s.free)))))

/-- CERT_READ (R392): the certificates are what the one-time memory holds. -/
def execCertRead (h : Hdr) (which : BitVec 8) (s : State) : Host.Outcome State Fault Refusal :=
  .next (s.receive h (op 0x0A02 2 0 .query) (fun _ _ => ⟨lenIs h 1, true, false, badUnless (which.toNat ≤ 1)⟩)
    (fun s _ => (s, some (.ok, Config.cert (which = 1#8)))))

/-! ### Firmware (R306) -/

/-- The slot that did not boot. -/
def State.otherSlot (s : State) : Bool := s.rd R.SEC_STATUS_SLOT = 0

/-- FW_BEGIN: the transfer's slot holds no image until a commit writes it (DEDUCED, log entry 48). -/
def execFwBegin (h : Hdr) (length : BitVec 32) (sha : BitVec 256) (s : State) : Host.Outcome State Fault Refusal :=
  .next (s.receive h (op 0x0A03 2 0 .other)
    (fun s i => ⟨lenIs h 36, s.classAtMost i 0, 1 ≤ s.stage, if length.toNat ≤ 16777216 then .ok else .limit⟩)
    (fun s i => ({ s with fw := some ⟨i, length.toNat, sha, s.otherSlot, []⟩ }, some (.ok, []))))

/-- The status of a chunk. -/
def State.chunkStatus (s : State) (i off n : Nat) : Status :=
  match s.fw with
  | none => .conflict
  | some x => if x.sess ≠ i then .conflict else badUnless (off = x.got.length && x.got.length + n ≤ x.len)

/-- FW_CHUNK. -/
def execFwChunk (h : Hdr) (off : BitVec 32) (data : List Byte) (s : State) : Host.Outcome State Fault Refusal :=
  .next (s.receive h (op 0x0A04 2 0 .other)
    (fun s i => ⟨lenIs h (4 + data.length), s.classAtMost i 0, 1 ≤ s.stage, s.chunkStatus i off.toNat data.length⟩)
    (fun s _ => ({ s with fw := s.fw.map (fun x => { x with got := x.got ++ data }) }, some (.ok, []))))

def opFwCommit : Nat := 0x0A05

/-- Is the transfer of a session whole? -/
def State.fwWhole (s : State) (i : Nat) : Bool :=
  match s.fw with
  | some x => x.sess = i && x.got.length = x.len
  | none => false

/-- FW_COMMIT (R290, R306): a device-wide operation. -/
def execFwCommit (h : Hdr) (s : State) : Host.Outcome State Fault Refusal :=
  .next (s.receive h (op opFwCommit 2 0 .other)
    (fun s i => ⟨lenIs h 0, s.classAtMost i 0, 1 ≤ s.stage, if s.fwWhole i then .ok else .conflict⟩)
    (fun s i => (s.beginDevice i opFwCommit h.seq.toNat 12000, none)))

/-- The boot record that FW_COMMIT writes (R382): the one not written last, with the generation increased by one. -/
def State.writeRecord (s : State) (slot : Bool) : State :=
  match s.flash.rec0, s.flash.rec1 with
  | none, none => { s with flash := { s.flash with rec0 := some ⟨slot, 1⟩ } }
  | some a, none => { s with flash := { s.flash with rec1 := some ⟨slot, (a.gen + 1) % 65536⟩ } }
  | none, some b => { s with flash := { s.flash with rec0 := some ⟨slot, (b.gen + 1) % 65536⟩ } }
  | some a, some b =>
    if laterThan 16 b.gen a.gen then { s with flash := { s.flash with rec0 := some ⟨slot, (b.gen + 1) % 65536⟩ } }
    else { s with flash := { s.flash with rec1 := some ⟨slot, (a.gen + 1) % 65536⟩ } }

/-- A slot takes an image, or none. -/
def State.setImage (s : State) (slot : Bool) (bs : Option (List Byte)) : State :=
  { s with flash := if slot then { s.flash with slotB := bs } else { s.flash with slotA := bs } }

/-- FW_COMMIT_COMPLETE (R306): `shaOk` and `header` are the outcomes of the hash and of the header's checks on the slot as read back. -/
def execFwCommitComplete (shaOk : Bool) (header : SlotCheck) (t : Nat) (s : State) : Host.Outcome State Fault Refusal :=
  let s := s.atRaw t
  .next (match s.devBusy, s.fw with
    | some l, some x =>
      if l.op ≠ opFwCommit then s
      else
        let ok := shaOk && s.headerOk (slotSeen header (some x.got))
        let s := { s with fw := none }
        if ok then ((s.setImage x.slot (some x.got)).writeRecord x.slot).endDevice .ok []
        else (s.setImage x.slot none).endDevice .check []
    | _, _ => s)

/-! ### KEY_ROTATE (R308) -/

/-- The table that entries leave. -/
def enrolWith (t : Cells (Option Enrol)) (es : List KeyEntry) : Cells (Option Enrol) :=
  es.foldl (fun (t : Cells (Option Enrol)) (e : KeyEntry) =>
    t.set none e.index.toNat (if e.set = 1#8 then some ⟨e.cls.toNat, e.ports.toNat, e.key⟩ else none)) t

/-- Values of one entry (DESIGN CHOICE, log entry 24). -/
def KeyEntry.status (e : KeyEntry) : Status :=
  badUnless (e.index.toNat < 16 && e.set.toNat ≤ 1 && (e.set = 0#8 || (e.cls.toNat ≤ 3 && e.ports.toNat < 64 && e.onCurve)))

/-- Does a table permit class 0? -/
def permitsZero (t : Cells (Option Enrol)) : Bool := t.any (fun p => match p.2 with | some e => e.cls = 0 | none => false)

/-- The entries that change, as a mask. -/
def changedEntries (a b : Cells (Option Enrol)) : Nat :=
  (List.range 16).foldr (fun i acc => b2n (a.get none i ≠ b.get none i) + 2 * acc) 0

def opKeyRotate : Nat := 0x0A06

/-- May the session rotate keys: class 0, protected unless the table is empty (R280, R308; log entry 24)? -/
def State.mayRotate (s : State) (i : Nat) : Bool := s.classAtMost i 0 && ((s.session i).prot || s.enrol = [])

/-- KEY_ROTATE: a device-wide operation (DESIGN CHOICE, log entry 24). -/
def execKeyRotate (h : Hdr) (es : List KeyEntry) (s : State) : Host.Outcome State Fault Refusal :=
  .next (s.receive h (op opKeyRotate 2 0 .other)
    (fun s i => ⟨lenIs h (4 + 72 * es.length), s.mayRotate i, false,
      firstBad (countIn 1 16 es.length :: es.map KeyEntry.status ++ [badUnless (permitsZero (enrolWith s.enrol es))])⟩)
    (fun s i =>
      let t := enrolWith s.enrol es
      let m := changedEntries s.enrol t
      let s := ({ s with enrol := t }.beginDevice i opKeyRotate h.seq.toNat 300).queueBulk bulkEnrol
      ({ s with devBusy := s.devBusy.map (fun l => { l with arg := m }) }, none)))

/-- KEY_ROTATE_COMPLETE: after the final reply, the sessions opened under changed entries close. -/
def execKeyRotateComplete (t : Nat) (s : State) : Host.Outcome State Fault Refusal :=
  let s := s.atRaw t
  .next (match s.devBusy with
    | none => s
    | some l =>
      if l.op ≠ opKeyRotate then s
      else
        let s := s.endDevice .ok []
        (List.range 8).foldl (fun (s : State) i => match (s.session i).key with
          | some k => if s.isOpen i && bitOf l.arg k then s.closeSession i else s
          | none => s) s)

/-! ### Supply (R370, R312) -/

/-- SHED_CONFIG: thresholds, hysteresis 0.10–5.00 V, dwell 100–60,000 ms. -/
def execShedConfig (h : Hdr) (s2 : BitVec 16) (s3 : BitVec 16) (s4 : BitVec 16) (hyst : BitVec 16) (dwell : BitVec 16) (s : State) :
    Host.Outcome State Fault Refusal :=
  .next (s.receive h (op 0x0D01 2 0 .other)
    (fun s i => ⟨lenIs h 12, s.classAtMost i 0, false,
      s.thenCommit (firstBad [badUnless (s3.toNat < s2.toNat && s4.toNat < s3.toNat), badUnless (10 ≤ hyst.toNat && hyst.toNat ≤ 500),
        badUnless (100 ≤ dwell.toNat && dwell.toNat ≤ 60000)])⟩)
    (fun s _ =>
      let s := ((s.wr R.SUP_THR_S2_VALUE s2.toNat).wr R.SUP_THR_S3_VALUE s3.toNat).wr R.SUP_THR_S4_VALUE s4.toNat
      let s := (s.wr R.SUP_HYST_VALUE hyst.toNat).wr R.SUP_DWELL_VALUE dwell.toNat
      ((s.afterCommit).queueBulk bulkConfig, some (.ok, []))))

/-- SUPPLY_STATUS. -/
def execSupplyStatus (h : Hdr) (s : State) : Host.Outcome State Fault Refusal :=
  .next (s.receive h (op 0x0D02 1 1 .query) (fun _ _ => ⟨lenIs h 0, true, false, .ok⟩)
    (fun s _ => (s, some (.ok, leBytes 1 s.stage ++ leBytes 1 (s.rd R.SUP_STATUS_MAINS) ++ leBytes 2 0 ++ leBytes 4 (s.rd R.SUP_BUS_VALUE) ++
      leBytes 2 (s.rd R.SUP_TEMP_VALUE) ++ leBytes 2 0 ++ leBytes 8 (s.rd64 R.SUP_STAGE_BLK_LO_VALUE R.SUP_STAGE_BLK_HI_VALUE)))))

/-! ### MAINT_ENTER, RESET -/

/-- MAINT_ENTER (R395). -/
def execMaintEnter (h : Hdr) (enter : BitVec 8) (s : State) : Host.Outcome State Fault Refusal :=
  .next (s.receive h (op 0x0F01 1 0 .other)
    (fun s i => ⟨lenIs h 4, s.classAtMost i 0, 1 ≤ s.stage,
      firstBad [badUnless (enter.toNat ≤ 1), (match s.maint with | some j => if j = i then .ok else .conflict | none => .ok)]⟩)
    (fun s i => (if enter = 1#8 then { s with maint := some i }.flag R.SEC_STATUS_MAINT else s.endMaint, some (.ok, []))))

/-- RESET (R290): the reply is queued at once, and every port is busy until the device resets 10 ms later. -/
def execReset (h : Hdr) (s : State) : Host.Outcome State Fault Refusal :=
  .next (s.receive h (op opReset 1 0 .other)
    (fun s i => ⟨lenIs h 0, s.classAtMost i 0, false, .ok⟩)
    (fun s i => (s.beginDevice i opReset h.seq.toNat 10, some (.ok, []))))

end Sys2Proof.Machine
end

