-- ==== Sys2Proof/Machine/ParamCmds.lean ====
section
/-! DEFINITION. The parameter group of commands: parameters, safe-load sets, counters (R163–R165, R309, R401–R404). -/

namespace Sys2Proof.Machine

open Sys2Proof

/-! ### The field of a parameter (R401) -/

/-- The field, and whether it is signed; device parameters but two have none. -/
def Pid.fld : Pid → Option (Fld × Bool)
  | .dev 6 => some (R.PST_TAP_BUDGET_BUDGET, false)
  | .dev 7 => some (R.HST_LATE_WARN_MARGIN, false)
  | .dev _ => none
  | .objCode o => some (R.MIX_OBJ_GAIN_CODE o, true)
  | .objMute o => some (R.MIX_OBJ_GAIN_MUTE o, false)
  | .busCode b => some (R.MIX_BUS_CFG_CODE b, true)
  | .busMute b => some (R.MIX_BUS_CFG_MUTE b, false)
  | .busEn b => some (R.MIX_BUS_CFG_EN b, false)
  | .delay o => some (R.MIX_OUT_CFG_DELAY o, false)
  | .headroom o => some (R.MIX_OUT_CFG_HEADROOM o, false)
  | .eqN o => some (R.MIX_OUT_CFG_EQ_N o, false)
  | .limEn o => some (R.MIX_OUT_LIM_LIM_EN o, false)
  | .limLook o => some (R.MIX_OUT_LIM_LIM_LOOK o, false)
  | .limThr o => some (R.MIX_OUT_LIM_LIM_THRESH o, true)
  | .limRel o => some (R.MIX_OUT_LIM_REL_LIM_REL o, false)
  | .firEn o => some (R.MIX_OUT_CFG_FIR_EN o, false)
  | .tdmIn p => some (R.TDM_MASK_IN_SLOTS p, false)
  | .tdmOut p => some (R.TDM_MASK_OUT_SLOTS p, false)
  | .micGain n => some (R.MIC_CFG_GAIN n, false)
  | .vfs n => some (R.PWS_VFS_VFS n, false)

/-- The identifier in it (R5, R6). -/
def State.pidIndex (s : State) : Pid → Status
  | .objCode o | .objMute o => s.objId o
  | .delay o | .headroom o | .eqN o | .limEn o | .limLook o | .limThr o | .limRel o | .firEn o => s.outId o
  | _ => .ok

/-- Is a 32-bit value one of a field: zeros above it, or the sign extension of a signed one? -/
def fieldFits (f : Fld) (signed : Bool) (v : Nat) : Bool :=
  let w := f.hi - f.lo + 1
  if signed then unsignedOf 32 (signedOf w v) = v else v < 2 ^ w

/-- The values of the device parameters (R402) (DEDUCED, log entry 50). -/
def State.devStatus (s : State) (k v : Nat) : Status :=
  match k with
  | 1 => firstBad [badUnless (v ≤ 2), if v ≠ 0 && s.sleepBarred then .conflict else .ok]
  | 2 => firstBad [badUnless (v = 1), if permitsZero s.enrol then .ok else .conflict]
  | 3 => firstBad [badUnless (v ≤ 1), if v = 1 && (s.cel.retrain.isSome || s.celChannels = 0) then .fault else .ok]
  | 4 => badUnless (3000 ≤ v && v ≤ 3800)
  | 5 => badUnless (v ≤ 1)
  | 8 => badUnless (1 ≤ v && v ≤ 1000)
  | _ => .badParam

/-- May a parameter take a value (R401–R403)? A limiter threshold stands in its range (R85) (DEDUCED, log entry 49). -/
def State.pidStatus (s : State) (p v : Nat) : Status :=
  match pidOf p with
  | none => .badParam
  | some x =>
    match x.fld with
    | some (f, sg) => firstBad [s.pidIndex x, badUnless (fieldFits f sg v),
        (match x with | .limThr _ => badUnless (decide (-3000 ≤ signedOf 16 v ∧ signedOf 16 v ≤ 0)) | _ => .ok)]
    | none => match x with
      | .dev k => s.devStatus k v
      | _ => .badParam

/-- Is it a gain or mute parameter? -/
def Pid.isGain : Pid → Bool
  | .objCode _ | .objMute _ | .busCode _ | .busMute _ => true
  | _ => false

/-- Is it a device parameter? -/
def Pid.isDev : Pid → Bool
  | .dev _ => true
  | _ => false

/-- Is a parameter safe-loadable (R401, R402)? -/
def safeLoadable (p : Nat) : Bool :=
  match pidOf p with
  | some (.dev k) => k = 6 || k = 7
  | some (.micGain _) => false
  | some _ => true
  | none => false

/-! ### PARAM_READ -/

/-- The value of a device parameter, as session `i` reads it. -/
def State.devRead (s : State) (i k : Nat) : Nat :=
  match k with
  | 1 => s.rd R.CLK_MODE_CUR + 256 * s.rd R.CLK_MODE_ABORTED
  | 2 => s.rd R.SEC_STATUS_FIELD
  | 3 => s.rd R.CEL_STATUS_RETRAIN_BUSY
  | 4 => s.geo.speed
  | 5 => b2n s.geo.track
  | 8 => (s.session i).rampMs
  | _ => s.rd R.CEL_STATUS_TRAINED + 4 * s.rd R.CEL_STATUS_FAIL + 256 * s.rd R.CEL_STATUS_OVERBUDGET

/-- The 32-bit value of a parameter. -/
def State.pidRead (s : State) (i p : Nat) : Nat :=
  match pidOf p with
  | none => 0
  | some x =>
    match x.fld with
    | some (f, sg) => if sg then unsignedOf 32 (s.rdI f) else s.rd f
    | none => match x with
      | .dev k => s.devRead i k
      | _ => 0

/-- A known parameter within the limits of the render rate. -/
def State.pidKnown (s : State) (p : Nat) : Status :=
  match pidOf p with
  | some x => s.pidIndex x
  | none => .badParam

/-- PARAM_READ. -/
def execParamRead (h : Hdr) (pids : List (BitVec 16)) (s : State) : Host.Outcome State Fault Refusal :=
  .next (s.receive h (op 0x0B01 1 0 .query)
    (fun s _ => ⟨lenIs h (2 + 2 * pids.length), true, false, firstBad (countIn 1 256 pids.length :: pids.map (fun p => s.pidKnown p.toNat))⟩)
    (fun s i => (s, some (.ok, (pids.map (fun p => leBytes 4 (s.pidRead i p.toNat))).flatten))))

/-! ### PARAM_WRITE -/

/-- A bus is enabled or disabled by its parameter: a route change (R159). With a route pending for the same block it is part of that one; a route pending for another
block is replaced (R162, R165) (DEDUCED, log entry 91). -/
def State.acceptBusEn (s : State) (b : Nat) (en : Bool) (blk : Nat) : State :=
  match s.sched.find? (fun x => isRouteOf b x && x.blk = blk) with
  | some ⟨_, .busRoute _ _ home mask ins⟩ => ((s.replaceRoute false).unsched (isRouteOf b)).acceptRoute b en home mask ins blk
  | _ => s.acceptRoute b en (s.rdLive (R.MIX_BUS_CFG_HOME_ZONE b)) (s.liveMask b) ((List.range 64).map (s.livePos b)) blk

/-- A device parameter is written by session `i`, for block `blk` where it waits for one. -/
def State.putDev (s : State) (i blk k v : Nat) : State :=
  match k with
  | 1 => if v ≠ 0 then s.sleepEntry (v = 2) blk else s.later blk (.param i k v)
  | 9 => s
  | _ => s.later blk (.param i k v)

/-- The rate for the fixed speed of sound, where no temperature is tracked (R37). -/
def State.fixedRate (s : State) : State :=
  if s.geo.track then s
  else
    let r := s.soundRate (s.geo.speed * 1000)
    (s.wr R.PST_SOUND_RATE_RATE r).wrLive R.PST_SOUND_RATE_RATE r

/-- A device parameter takes its value at its block boundary (R21, R402). -/
def State.takeDev (s : State) (i k v : Nat) : State :=
  match k with
  | 1 => (match s.clk.sleep with
      | some z => if z.wakeBlk.isSome || s.rd R.CLK_MODE_CUR = 0 then s else (s.wr R.CLK_MODE_REQ 0).leaveSleep
      | none => s.wr R.CLK_MODE_REQ 0)
  | 2 => s.setInField
  | 3 => if v = 1 then s.retrainStart (some (s.session i).port) else s
  | 4 => ({ s with geo := { s.geo with speed := v } } : State).fixedRate
  | 5 => ({ s with geo := { s.geo with track := v = 1 } } : State).fixedRate
  | 8 => if s.isOpen i then s.setSession i { s.session i with rampMs := v } else s
  | _ => s

/-- A parameter that waited takes its value. -/
def State.takeParam (s : State) (i p v : Nat) : State :=
  match pidOf p with
  | some (.micGain n) => s.micGain n v
  | some (.dev k) => s.takeDev i k v
  | _ => s

/-- A parameter takes a value: gains from sample `p0` over `len`, other fields from block `blk` (R165) (DEDUCED, log entry 49). -/
def State.putParam (s : State) (i blk p0 len p v : Nat) : State :=
  match pidOf p with
  | none => s
  | some x =>
    match x with
    | .objCode o => s.sendGain (R.MIX_OBJ_GAIN_CODE o) (pathObj o) (signedOf 16 v) p0 len
    | .objMute o => s.sendMute (R.MIX_OBJ_GAIN_MUTE o) (pathObj o) (v = 1) p0 len
    | .busCode b => s.sendGain (R.MIX_BUS_CFG_CODE b) (pathBus b) (signedOf 16 v) p0 len
    | .busMute b => s.sendMute (R.MIX_BUS_CFG_MUTE b) (pathBus b) (v = 1) p0 len
    | .busEn b => s.acceptBusEn b (v = 1) blk
    | .micGain _ => s.later blk (.param i p v)
    | _ => match x.fld with
      | some (f, _) => s.wrAt blk f v
      | none => match x with
        | .dev k => s.putDev i blk k v
        | _ => s

/-- How the deadline of a timed PARAM_WRITE follows (R21): from its parameters. -/
def paramKind (ps : List Nat) : TimedKind :=
  let gain (p : Nat) : Bool := match pidOf p with | some x => x.isGain | none => false
  if ps.all gain then .within else if ps.any gain then .both else .nextBlock

/-- Is a write a configuration commit: does it reach beyond gains and device parameters? (DEDUCED, log entry 30) -/
def paramCommits (ps : List Nat) : Bool :=
  ps.any (fun p => match pidOf p with | some x => !x.isGain && !x.isDev | none => false)

/-- Entries are applied in order. -/
def State.putParams (s : State) (i blk p0 len : Nat) (es : List (Nat × Nat)) : State :=
  es.foldl (fun (s : State) (e : Nat × Nat) => s.putParam i blk p0 len e.1 e.2) s

/-- The checks of a commit, and what follows one, where the entries are of that kind. -/
def State.paramCheck (s : State) (ps : List Nat) (st : Status) : Status := if paramCommits ps then s.thenCommit st else st
def State.paramAfter (s : State) (ps : List Nat) : State := if paramCommits ps then (s.afterCommit).queueBulk bulkConfig else s

def natPairs (es : List (BitVec 16 × BitVec 32)) : List (Nat × Nat) := es.map (fun e => (e.1.toNat, e.2.toNat))

def opParamWrite : Nat := 0x0B02

/-- PARAM_WRITE (R165, R401–R403). With DRAM_RETRAIN it is a long operation (R338). -/
def execParamWrite (h : Hdr) (es : List (BitVec 16 × BitVec 32)) (s : State) : Host.Outcome State Fault Refusal :=
  let xs := natPairs es
  let ps := xs.map Prod.fst
  let go (s : State) (i : Nat) : State := s.putParams i (s.hdrNext h) (s.hdrSample h) (s.hdrRamp i h) xs
  .next (s.receive h ⟨opParamWrite, (1, 0), paramKind ps, true, .other⟩
    (fun s i => ⟨lenIs h (2 + 6 * es.length), ps.all (fun p => s.pidNeeds i p), false,
      (go s i).paramCheck ps (firstBad (countIn 1 64 es.length :: xs.map (fun e => s.pidStatus e.1 e.2)))⟩)
    (fun s i =>
      let s := (go s i).paramAfter ps
      if xs.contains (3, 1) then (s.beginLong h.port.val i opParamWrite h.seq.toNat 60, none)
      else (s, some (.ok, []))))

/-! ### SAFE_STAGE, SAFE_COMMIT (R163, R164) -/

/-- A set with one entry more, or with its value replaced. -/
def stageEntry (xs : List (Nat × Nat)) (e : Nat × Nat) : List (Nat × Nat) :=
  if xs.any (fun x => x.1 = e.1) then xs.map (fun x => if x.1 = e.1 then e else x) else xs ++ [e]

/-- SAFE_STAGE: the first failing entry gives the status (R163, R298). -/
def execSafeStage (h : Hdr) (es : List (BitVec 16 × BitVec 32)) (s : State) : Host.Outcome State Fault Refusal :=
  let xs := natPairs es
  .next (s.receive h (op 0x0B03 2 0 .other)
    (fun s i => ⟨lenIs h (2 + 6 * es.length), xs.all (fun e => s.pidNeeds i e.1), false,
      firstBad (countIn 1 64 es.length :: (List.range xs.length).map (fun n =>
        let e := xs.getD n (0, 0)
        firstBad [s.pidKnown e.1, (if safeLoadable e.1 then .ok else .limit),
          (if ((xs.take (n + 1)).foldl stageEntry (s.session i).staging).length ≤ 512 then .ok else .limit), s.pidStatus e.1 e.2]))⟩)
    (fun s i => (s.setSession i { s.session i with staging := xs.foldl stageEntry (s.session i).staging }, some (.ok, []))))

/-- One entry of a set at its commit. -/
def State.entryStatus (s : State) (i : Nat) (e : Nat × Nat) : Status :=
  if s.pidNeeds i e.1 then s.pidStatus e.1 e.2 else .notOwner

/-- The ramp of a committed gain: of the session's protocol (R165). -/
def State.commitRamp (s : State) (i blk : Nat) : Nat :=
  if (s.session i).major = 1 then s.rampLen (s.rampFor i blk) else 0

/-- A set is applied whole from block `blk` (R164). -/
def State.commitSet (s : State) (i blk : Nat) : State :=
  let xs := (s.session i).staging
  let s := s.setSession i { s.session i with staging := [] }
  ((s.putParams i blk (32 * blk) (s.commitRamp i blk) xs).paramAfter (xs.map Prod.fst)).later blk .slCommit

def opSafeCommit : Nat := 0x0B04

/-- SAFE_COMMIT: `action` 1 discards. The reply to an untimed commit leaves after its boundary (DEDUCED, log entry 51). -/
def execSafeCommit (h : Hdr) (action : BitVec 8) (s : State) : Host.Outcome State Fault Refusal :=
  .next (s.receive h ⟨opSafeCommit, (2, 0), .nextBlock, false, .other⟩
    (fun s i => ⟨lenIs h 4, true, false,
      firstBad [badUnless (action.toNat ≤ 1),
        (if action.toNat = 1 then .ok
         else (s.commitSet i (s.hdrNext h)).paramCheck ((s.session i).staging.map Prod.fst)
           (firstBad ((s.session i).staging.map (s.entryStatus i))))]⟩)
    (fun s i =>
      if action.toNat = 1 then (s.setSession i { s.session i with staging := [] }, some (.ok, leBytes 8 s.tm.blockCount))
      else if h.timed then (s.commitSet i (s.hdrNext h), some (.ok, leBytes 8 (s.hdrNext h)))
      else (((s.commitSet i s.effectBlock).later s.effectBlock (.slReply i opSafeCommit h.seq.toNat)).flag R.MIX_SL_CTRL_HOLD, none)))

/-! ### COUNTERS_READ (R309, R403, R404) -/

/-- COUNTERS_READ. -/
def execCountersRead (h : Hdr) (ids : List (BitVec 16)) (s : State) : Host.Outcome State Fault Refusal :=
  .next (s.receive h (op 0x0B05 1 0 .query)
    (fun _ _ => ⟨lenIs h (2 + 2 * ids.length), true, false, firstBad (countIn 1 128 ids.length :: ids.map (fun n => badUnless (isCounter n.toNat)))⟩)
    (fun s _ =>
      let s := s.secondTotals
      (s, some (.ok, (ids.map (fun n => leBytes 8 (s.totals.get 0 n.toNat))).flatten))))

end Sys2Proof.Machine
end

