-- ==== Sys2Proof/Machine/MsgCmds.lean ====
section
/-! DEFINITION. The message group of commands (R307, R312). -/

namespace Sys2Proof.Machine

open Sys2Proof

/-! ### MSG_STORE -/

/-- The first chunk of a store: offset 0, a whole number of samples that the library has room for. -/
def State.firstChunk (s : State) (r : StoreReq) (n : Nat) : Status :=
  let total := r.total.toNat
  firstBad [badUnless (r.offset = 0#32), (if total % 3 = 0 && total ≤ s.libFree r.msg.toNat then .ok else .limit), badUnless (n ≤ total)]

/-- A further chunk: of the session that stores, contiguous, within the total. -/
def State.nextChunk (s : State) (i : Nat) (r : StoreReq) (n : Nat) : Status :=
  match s.msg r.msg.toNat with
  | none => .conflict
  | some x => if x.state ≠ .storing || x.sess ≠ some i then .conflict
    else badUnless (r.offset.toNat = x.data.length && x.data.length + n ≤ x.total)

/-- The statuses of MSG_STORE before its data are taken (DEDUCED, log entry 52). -/
def State.storeStatus (s : State) (i : Nat) (r : StoreReq) (n : Nat) : Status :=
  if s.msgPlays r.msg.toNat then .conflict
  else if r.first then s.firstChunk r n else s.nextChunk i r n

/-- The message as a chunk finds it: erased by the first one. -/
def State.storeBase (s : State) (i : Nat) (r : StoreReq) : Msg :=
  match (if r.first then none else s.msg r.msg.toNat) with
  | some x => x
  | none => { state := .storing, sess := some i, evac := r.evac, total := r.total.toNat, crc := r.crc.toNat, data := [] }

/-- A chunk is taken; the last byte completes the store, and a CRC that does not match leaves the message invalid. -/
def State.takeChunk (s : State) (i : Nat) (r : StoreReq) (data : List Byte) : State × Status :=
  let m := r.msg.toNat
  let x := s.storeBase i r
  let x := { x with data := x.data ++ data }
  if x.data.length < x.total then (s.setMsg m (some x), .ok)
  else if (crc32 x.data).toNat = x.crc then
    ((s.setMsg m (some { x with state := .valid, sess := none })).queueBulk (bulkMsg m), .ok)
  else (s.setMsg m (some { x with state := .bad, sess := none }), .check)

/-- MSG_STORE (DEDUCED, log entry 52). -/
def execMsgStore (h : Hdr) (r : StoreReq) (data : List Byte) (s : State) : Host.Outcome State Fault Refusal :=
  .next (s.receive h (op 0x0C01 1 0 .other)
    (fun s i => ⟨lenIs h (16 + data.length), s.classAtMost i (if r.evac then 0 else 1), 1 ≤ s.stage, s.storeStatus i r data.length⟩)
    (fun s i =>
      let p := s.takeChunk i r data
      (p.1, some (p.2, []))))

/-! ### MSG_PLAY, MSG_STOP -/

/-- Does a session own the home zone of an enabled object or bus that a message feeds? -/
def State.ownsFeed (s : State) (i m : Nat) : Bool :=
  s.enabledObjs.any (fun p => p.2.source.toNat = 0xA000 + m && s.owns i (refZone p.2.homeZone.toNat)) ||
    (List.range 256).any (fun b => s.on (R.MIX_BUS_CFG_EN b) && s.owns i (refZone (s.rd (R.MIX_BUS_CFG_HOME_ZONE b))) &&
      (List.range 64).any (fun u => s.on (R.MIX_BUS_IN_W0_EN b u) && !s.on (R.MIX_BUS_IN_W0_KIND b u) &&
        s.rd (R.MIX_BUS_IN_W0_SRC b u) = 0xA000 + m))

/-- MSG_PLAY. At S4 only messages stored with EVAC play. -/
def execMsgPlay (h : Hdr) (m : BitVec 8) (loop : Bool) (repeats : BitVec 16) (gap : BitVec 16) (s : State) :
    Host.Outcome State Fault Refusal :=
  let n := m.toNat
  .next (s.receive h ⟨0x0C02, (1, 0), .within, false, .other⟩
    (fun s i => ⟨lenIs h 6, s.ownsFeed i n, 4 ≤ s.stage && !s.msgEvac n, badUnless (s.msgValid n)⟩)
    (fun s _ => (s.startPlay n (s.hdrSample h) loop repeats.toNat gap.toNat, some (.ok, []))))

/-- MSG_STOP: it acts at the boundary of its block. -/
def execMsgStop (h : Hdr) (m : BitVec 8) (atEnd : Bool) (s : State) : Host.Outcome State Fault Refusal :=
  .next (s.receive h ⟨0x0C03, (1, 0), .nextBlock, false, .other⟩
    (fun s i => ⟨lenIs h 2, s.ownsFeed i m.toNat, false, .ok⟩)
    (fun s _ => (s.later (s.hdrNext h) (.msgStop m.toNat atEnd), some (.ok, []))))

end Sys2Proof.Machine
end

