-- ==== Sys2Proof/Machine/Bus.lean ====
section
/-! DEFINITION. The address space as a master sees it (17_memory_system.md R328–R331, R335, R360) and what a read or a write of a register does
(R14, R15, R398, R399 and the register rule of each block). -/

namespace Sys2Proof.Machine

open Sys2Proof

/-! ### Where an address leads (R328, R329, R335) -/

/-- What stands at an address: memory (by its key), boot ROM, every instruction memory at once, a register window, or an error of the given KIND (R330). -/
inductive Spot where
  | mem (key : Nat)
  | rom (off : Nat)
  | cast (off : Nat)
  | reg (a : Nat)
  | bad (kind : Nat)
  deriving DecidableEq, Repr

/-- The Bellwether's master number (R332). -/
def mBellwether : Nat := 6

/-- A spot behind a clock gate (R360). -/
def State.behind (s : State) (gate : Nat) (x : Spot) : Spot := if s.gated gate then .bad 2 else x

/-- A spot of one Drover core: behind the cluster's gate and its own (DEDUCED, log entry 55). -/
def State.behindCore (s : State) (c : Nat) (x : Spot) : Spot := if s.gated 0 || s.coreGated c then .bad 2 else x

/-- A spot that the Bellwether alone reaches (R329). -/
def forBell (master : Nat) (x : Spot) : Spot := if master = mBellwether then x else .bad 1

/-- The DRAM window (R335); without the Cellar's clocks every access ends in error (R353). -/
def State.window (s : State) (a : Nat) : Spot :=
  let d := min 8 (s.rd R.CEL_APERTURE_BASE) * 0x10000000 + (a - 0x80000000)
  if s.dramSize ≤ d then .bad 0
  else if s.gated 4 || s.clkLost 3 || s.on R.CEL_STATUS_SR then .bad 2
  else .mem (0x100000000 + d)

/-- The gate of a peripheral window, by its number from 0x5000_0000; the clock unit and the supply monitor have none (DEDUCED, log entry 55)
(DEDUCED, log entry 82). -/
def perGate (i : Nat) : Option Nat := [some 6, some 7, some 8, some 9, some 10, none, none, some 19, some 18, some 21, some 20].getD i none

/-- The register windows of the matrix from 0x4000_0000 up: the Pasture engine to the Fold link. -/
def State.matrixReg (s : State) (a : Nat) : Spot :=
  if a < 0x40100000 then s.behind 1 (.reg a)
  else if a < 0x40200000 then s.behind 2 (.reg a)
  else if a < 0x40300000 then s.behind 5 (.reg a)
  else if a < 0x40400000 then s.behind 15 (.reg a)
  else if a < 0x40430000 then s.behind (12 + (a - 0x40400000) / 0x10000) (.reg a)
  else if a < 0x40480000 then .bad 0
  else if a < 0x40500000 then s.behind 16 (.reg a)
  else if a < 0x40600000 then s.behind 4 (.reg a)
  else s.behind 17 (.reg a)

/-- The Drover windows from 0x3000_0000 up. -/
def State.droverSpot (s : State) (a : Nat) : Spot :=
  if a < 0x30800000 then s.behindCore ((a - 0x30000000) / 0x40000) (.mem a)
  else if a < 0x30A00000 then
    let c := (a - 0x30800000) / 0x10000
    s.behindCore c (if 0x8000 ≤ a % 0x10000 then .mem a else .reg a)
  else s.behind 0 (if 0x8000 ≤ a % 0x10000 then .cast (a % 0x8000) else .reg a)

/-- What a master finds at an address (DEDUCED, log entry 54); the Bellwether's own registers stand in the fabric control region, for it alone (DEDUCED, log entry
122). -/
def State.locate (s : State) (master a : Nat) : Spot :=
  let swap := s.on R.SYS_REMAP_SWAP
  if a < 0x80000 then
    (if swap then forBell master (.mem (0x10000000 + a)) else if a < 0x10000 then forBell master (.rom a) else .bad 0)
  else if 0x10000000 ≤ a && a < 0x10080000 then
    (if !swap then forBell master (.mem a) else if a < 0x10010000 then forBell master (.rom (a - 0x10000000)) else .bad 0)
  else if 0x20000000 ≤ a && a < 0x20600000 then s.behind 3 (.mem a)
  else if 0x20800000 ≤ a && a < 0x20801000 then s.behind 3 (.reg a)
  else if 0x30000000 ≤ a && a < 0x30A10000 then s.droverSpot a
  else if 0x40000000 ≤ a && a < 0x40700000 then s.matrixReg a
  else if 0x40700000 ≤ a && a < 0x40700800 then forBell master (.reg a)
  else if 0x40700800 ≤ a && a < 0x40701000 then forBell master (s.behind 22 (.reg a))
  else if 0x50000000 ≤ a && a < 0x500B0000 then
    forBell master (match perGate ((a - 0x50000000) / 0x10000) with
      | some g => s.behind g (.reg a)
      | none => .reg a)
  else if 0x80000000 ≤ a && a < 0x100000000 then s.window a
  else .bad 0

/-! ### Plain registers (R14, R15) -/

/-- The word of a register as written last: a configuration write that waits for its boundary reads back. -/
def State.regSeen (s : State) (a : Nat) : Nat :=
  match (s.sched.filter (fun x => match x.act with | .reg b _ => b = a | _ => false)).getLast? with
  | some ⟨_, .reg _ v⟩ => v
  | _ => s.getReg a

/-- Is the lock of a register set (R399)? -/
def State.lockedAt (s : State) (a : Nat) : Bool :=
  if a = R.CEL_CFG_w.addr then s.on R.CEL_CTRL_LOCK
  else if a = R.SYS_REMAP_w.addr || (0x50080040 ≤ a && a < 0x50080060) then s.on R.SYS_REMAP_LOCK
  else if a = R.TSU_LINK_OFS_VALUE.addr then s.on R.TSU_CTRL_LOCK
  else if a = R.DRV_CL_CTRL_LOCK.addr then s.on R.DRV_CL_CTRL_LOCK
  else false

/-- The word a write leaves in the RW, RWS and unlocked RWL bits of a register; `m` is the lanes written (DEDUCED, log entry 57). -/
def State.merged (s : State) (r : RegRow) (a w m : Nat) : Nat :=
  let take := (r.rw ||| r.rws ||| (if s.lockedAt a then 0 else r.rwl)) &&& m
  (s.regSeen a &&& (0xFFFFFFFF ^^^ take)) ||| (w &&& take)

/-- A write as the access types state (R14): RW and RWL at once, ones clear W1C bits, RWS bits wait for the next block boundary or transfer. -/
def State.plainWrite (s : State) (a w m : Nat) : State :=
  match rowOf a with
  | none => s
  | some r =>
    let v := s.merged r a w m
    let s := s.setReg a (v &&& (0xFFFFFFFF ^^^ (r.w1c &&& w &&& m)))
    let take := r.rws &&& m
    if take = 0 then s
    else (s.replaceChange s.nextBlock a take).later s.nextBlock (.shadow a take v)

/-- A configuration register whose write applies from the next block boundary (R213, R270) (DEDUCED, log entry 56). -/
def State.configWrite (s : State) (a w m : Nat) : State :=
  match rowOf a with
  | none => s
  | some r => if (r.rw &&& m) = 0 then s.plainWrite a w m else s.regAt s.nextBlock a (s.merged r a w m)

/-! ### Registers that do more -/

/-- The Pasture engine (R43, R47): SWAP_REQ; PST_MEM_DATA reaches, in maintenance mode, the bank that is not active, and moves WORD on. -/
def State.pstWrite (s : State) (a w m : Nat) : State :=
  if a = R.PST_CTRL_w.addr then (s.plainWrite a w m).when (bitOf (w &&& m) 1) (·.swapReq)
  else if a = R.PST_MEM_DATA_DATA.addr then
    (s.setMemData ((s.memData &&& (0xFFFFFFFF ^^^ m)) ||| (w &&& m))).memAddrNext
  else s.plainWrite a w m

/-- DRV_CTRL of a core (R117–R120). STEP is left for the core's bundle to be issued. -/
def State.drvCtrl (s : State) (c w m : Nat) : State :=
  let v := w &&& m
  let s := s.wr (R.DRV_CTRL_DBGINT c) (if bitOf m 5 then w >>> 5 else s.rd (R.DRV_CTRL_DBGINT c))
  let s := if bitOf m 0 then (s.setRun c (bitOf w 0)).setRot c (bitOf w 1) else s
  let s := s.when (bitOf v 6) (·.resetCore c)
  let s := s.when (bitOf v 2 && (s.coreState c = 1 || s.coreState c = 2)) (·.askHalt c)
  let s := s.when (bitOf v 3) (·.resume c)
  s.when (bitOf v 4) (fun s => s.setCore c { s.core c with stepReq := true })

/-- The Drover cluster. -/
def State.drvWrite (s : State) (a w m : Nat) : State :=
  match arrayIx R.DRV_CL_CTRL_LOCK.addr 4 2 a, arrayIx (R.DRV_CTRL_w 0).addr 0x10000 32 a, arrayIx (R.DRV_DBG_DATA_DATA 0).addr 0x10000 32 a with
  | some _, _, _ => s.plainWrite a w m
  | _, some c, _ => s.drvCtrl c w m
  | _, _, some c => if m = 0xFFFFFFFF then s.dbgWrite c w else s.dbgWrite c ((s.dbgRead c &&& (0xFFFFFFFF ^^^ m)) ||| (w &&& m))
  | _, _, _ => s.plainWrite a w m

/-- The Ostler (R139, R146, R148, R149): its configuration applies from the next block boundary. -/
def State.ostWrite (s : State) (a w m : Nat) : State :=
  if a = (R.OST_POST_WORD 3).addr then s.post (w &&& m)
  else if (arrayIx (R.OST_POST_WORD 0).addr 4 3 a).isSome then s.setReg a ((s.getReg a &&& (0xFFFFFFFF ^^^ m)) ||| (w &&& m))
  else if a = R.OST_FLOW_DATA_w.addr then
    let f := s.rd R.OST_FLOW_SEL_FLOW
    let x := s.flow f
    let s := s.setFlow f { x with blocked := x.blocked && !bitOf (w &&& m) 30 }
    if !bitOf m 31 then s
    else (s.unsched (fun x => match x.act with | .reg b v => b = a && v / 2 = f | _ => false)).later s.nextBlock (.reg a (2 * f + b2n (bitOf w 31)))
  else if 0x40100100 ≤ a && a < 0x40100200 || 0x40100400 ≤ a && a < 0x40100600 || 0x40100800 ≤ a then s.configWrite a w m
  else s.plainWrite a w m

/-- The mix fabric: MIX_SL_CTRL (R164, R169). -/
def State.mixWrite (s : State) (a w m : Nat) : State :=
  if a = R.MIX_SL_CTRL_w.addr then (s.plainWrite a w m).when (bitOf (w &&& m) 1) (·.flag R.MIX_SL_STATUS_ARMED)
  else s.plainWrite a w m

/-- The time unit (R252, R257). -/
def State.tsuWrite (s : State) (a w m : Nat) : State :=
  if a = R.TSU_CONV_IN_LO_VALUE.addr then s.convert ((s.getReg a &&& (0xFFFFFFFF ^^^ m)) ||| (w &&& m))
  else if a = R.TSU_SERVO_IN_VALUE.addr then s.servoIn (w &&& m)
  else s.plainWrite a w m

/-- Has MACM or a MAC such a register (R249)? MDIO is MACM's; MACM has queues 0 and 1. -/
def macHas (p off : Nat) : Bool :=
  if off = 0x1C then p = 2 else !(p = 2 && 0x1440 ≤ off && off < 0x1500)

/-- The bits of MAC_MODE that a port has (R249): AN_EN is of MAC0 and MAC1, INBAND of MACM. -/
def macModeBits (p : Nat) : Nat := if p = 2 then 0xB else 7

/-- A MAC (R244, R249): W0 and W2 of a receive ring, and SIZE, stay while it is enabled. -/
def State.macWrite (s : State) (a w m : Nat) : State :=
  let p := (a - 0x40400000) / 0x10000
  let off := a % 0x10000
  if !macHas p off then s
  else if off = 0x1C then s.mdio ((s.getReg a &&& (0xFFFFFFFF ^^^ m)) ||| (w &&& m))
  else match arrayIx 0x1004 32 16 off with
    | some r => s.ringEnable p r ((s.getReg a &&& (0xFFFFFFFF ^^^ m)) ||| (w &&& m))
    | none =>
      if 0x1000 ≤ off && off < 0x1200 && s.on (R.MAC_RING_W1_EN p ((off - 0x1000) / 32)) then s
      else if off = 4 then (s.plainWrite a w (m &&& macModeBits p)).modeWritten p
      else s.plainWrite a w m

/-- The Cellar (R338, R347): LOCK is set once. -/
def State.celWrite (s : State) (a w m : Nat) : State :=
  if a = R.CEL_CTRL_w.addr then
    let held := s.on R.CEL_CTRL_LOCK
    let s := (s.plainWrite a w m).when held (·.flag R.CEL_CTRL_LOCK)
    s.when (bitOf (w &&& m) 1) (·.retrainStart none)
  else s.plainWrite a w m

/-- Fabric control and the Bellwether's registers (R327, R334, R397). A write of RELEASE by the firmware is discarded, since STATE is then 1. -/
def State.sysWrite (s : State) (a w m : Nat) : State :=
  if a = R.SYS_REMAP_w.addr then s.writeRemap ((s.getReg a &&& (0xFFFFFFFF ^^^ m)) ||| (w &&& m))
  else if a = R.BWT_CTRL_w.addr then (if bitOf (w &&& m) 2 then s.inject (w % 4) else s)
  else s.plainWrite a w m

/-- The power stage (R204, R205, R209, R213). With ENABLE clear no channel runs: each stops in its own mode (DEDUCED, log entry 109). -/
def State.pwsWrite (s : State) (a w m : Nat) : State :=
  match arrayIx (R.PWS_FAULT_w 0).addr 256 24 a with
  | some n => s.clearFaults n (w &&& m)
  | none => if a = R.PWS_CTRL_w.addr then (let s := s.plainWrite a w m; if s.on R.PWS_CTRL_ENABLE then s else s.stopAll) else s.configWrite a w m

/-- The microphone inputs (R189–R193): GAIN waits for its crossing. -/
def State.micWrite (s : State) (a w m : Nat) : State :=
  let t := s.configWrite a w m
  match arrayIx (R.MIC_CFG_w 0).addr 256 4 a with
  | some n => if m % 16 = 0 then t else t.micGain n ((s.rd (R.MIC_CFG_GAIN n) &&& (15 ^^^ (m % 16))) ||| (w &&& m) % 16)
  | none => t

/-- A mode is requested in CLK_MODE.REQ (R361–R363); 3 acts as 0. -/
def State.modeAsk (s : State) (v : Nat) : State :=
  if v = 1 || v = 2 then (if s.clk.sleep.isSome || s.rd R.CLK_MODE_CUR ≠ 0 then s.wr R.CLK_MODE_REQ v else s.sleepEntry (v = 2) s.effectBlock)
  else
    let s := s.wr R.CLK_MODE_REQ v
    match s.clk.sleep with
    | some z => if z.wakeBlk.isSome || s.rd R.CLK_MODE_CUR = 0 then s else s.leaveSleep
    | none => s

/-- The clock unit (R350, R355, R357, R366). -/
def State.clkWrite (s : State) (a w m : Nat) : State :=
  let v := (s.getReg a &&& (0xFFFFFFFF ^^^ m)) ||| (w &&& m)
  if a = R.CLK_MODE_w.addr then
    let s := s.when (bitOf (w &&& m) 0) (fun s => s.wr R.CLK_MODE_ABORTED 0)
    let s := s.when (bitOf (w &&& m) 1) (fun s => { s with clk := { s.clk with restore := true } })
    if bitOf m 8 then s.modeAsk (bitsOf w 9 8) else s
  else if a = R.CLK_RC_TRIM_w.addr then s.trim v
  else if a = R.CLK_GATE_RUN_w.addr then s.writeGateRun v
  else if a = R.CLK_CORE_GATE_VALUE.addr then s.writeCoreGate v
  else s.plainWrite a w m

/-- Security (R394, R397). -/
def State.secWrite (s : State) (a w m : Nat) : State :=
  if a = R.SEC_CTRL_w.addr then s.when (bitOf (w &&& m) 0) (·.setInField) else s.plainWrite a w m

/-- A write of a register, lanes `m` of word `w`. The window of pins, GPIO and I2C keeps its words; its layout is not given. -/
def State.regWrite (s : State) (a w m : Nat) : State :=
  if a < 0x30000000 then s.plainWrite a w m
  else if a < 0x40000000 then s.drvWrite a w m
  else if a < 0x40100000 then s.pstWrite a w m
  else if a < 0x40200000 then s.ostWrite a w m
  else if a < 0x40300000 then s.mixWrite a w m
  else if a < 0x40400000 then s.tsuWrite a w m
  else if a < 0x40480000 then s.macWrite a w m
  else if a < 0x40500000 then (if a < 0x40481000 then s.plainWrite a w m else s.configWrite a w m)
  else if a < 0x40600000 then s.celWrite a w m
  else if a < 0x40700000 then s.plainWrite a w m
  else if a < 0x50000000 then s.sysWrite a w m
  else if a < 0x50030000 then s.configWrite a w m
  else if a < 0x50040000 then s.micWrite a w m
  else if a < 0x50050000 then s.pwsWrite a w m
  else if a < 0x50060000 then s.clkWrite a w m
  else if 0x50080000 ≤ a && a < 0x50090000 then s.secWrite a w m
  else if 0x50090000 ≤ a && a < 0x500A0000 then { s with pins := s.pins.modify 0 (a - 0x50090000) (fun v => (v &&& (0xFFFFFFFF ^^^ m)) ||| (w &&& m)) }
  else s.plainWrite a w m

/-! ### Reads -/

/-- The low words whose reads latch the high words that follow them (R269, R327, R379, R397). -/
def pairLows : List Nat :=
  [R.TSU_RAW_LO_VALUE.addr, R.TSU_NOW_LO_VALUE.addr, R.TSU_CONV_OUT_LO_VALUE.addr, R.TSU_OFS_LO_VALUE.addr, R.TSU_ANC_LO_VALUE.addr,
   R.TSU_PPS_CAP_LO_VALUE.addr, R.FLD_TAKEOVER_LO_BLOCK.addr, R.SUP_STAGE_BLK_LO_VALUE.addr, R.SEC_DEVID_LO_ID.addr]

/-- The 64-bit value of such a pair. -/
def State.pairValue (s : State) (lo : Nat) : Nat :=
  if lo = R.TSU_RAW_LO_VALUE.addr then s.tm.raw
  else if lo = R.TSU_NOW_LO_VALUE.addr then s.now
  else s.getReg lo + 2 ^ 32 * s.getReg (lo + 4)

/-- A latched word. -/
def State.latch (s : State) (a v : Nat) : State := { s with latches := s.latches.set 0 a (v + 1) }

/-- A read of either word of a pair. A high word never latched reads as it stands (DEDUCED, log entry 60). -/
def State.pairRead (s : State) (a : Nat) : Option (Nat × State) :=
  if pairLows.contains a then
    let v := s.pairValue a
    some (v % 2 ^ 32, s.latch (a + 4) (v / 2 ^ 32 % 2 ^ 32))
  else if 4 ≤ a && pairLows.contains (a - 4) then
    some (match s.latches.get 0 a with | 0 => s.pairValue (a - 4) / 2 ^ 32 % 2 ^ 32 | v + 1 => v, s)
  else none

/-- The bits of a register that stand for something else than what was written last. -/
def State.shownBits (s : State) (a : Nat) : Nat :=
  match arrayIx (R.MIX_OBJ_GAIN_w 0).addr 4 1024 a, arrayIx (R.MIX_BUS_CFG_w 0).addr 1024 256 a with
  | some o, _ => b2n ((s.gainPath (pathObj o)).ramping s.sampleNow) * 2 ^ 17
  | _, some b => b2n ((s.gainPath (pathBus b)).ramping s.sampleNow) * 2 ^ 16
  | _, _ =>
    match arrayIx (R.TDM_STATUS_w 0).addr 0x400 16 a, arrayIx (R.PWS_STATUS_w 0).addr 256 24 a with
    | some p, _ => b2n (s.maskPend p) * 2 ^ 4
    | _, some n => s.attempts n * 2 ^ 13
    | _, _ => if a = R.CEL_STATUS_w.addr then b2n s.panic * 2 ^ 5 else 0

/-- A read as the access types state (R14): WO bits read zero, RC bits clear (DEDUCED, log entry 54) (DESIGN CHOICE, log entry 59). -/
def State.plainRead (s : State) (a : Nat) : Nat × State :=
  match rowOf a with
  | none => (0, s)
  | some r =>
    let v := s.regSeen a
    ((v &&& (0xFFFFFFFF ^^^ r.wo)) ||| s.shownBits a, if r.rc = 0 then s else s.setReg a (v &&& (0xFFFFFFFF ^^^ r.rc)))

/-- The words of the Pasture engine. -/
def State.pstRead (s : State) (a : Nat) : Nat × State :=
  if a = R.PST_MEM_DATA_DATA.addr then
    (s.memData, s.memAddrNext)
  else s.plainRead a

/-- The Drover cluster. -/
def State.drvRead (s : State) (a : Nat) : Nat × State :=
  match arrayIx (R.DRV_DBG_DATA_DATA 0).addr 0x10000 32 a with
  | some c => if a < 0x30A00000 then (s.dbgRead c, s) else s.plainRead a
  | none => s.plainRead a

/-- The Ostler. -/
def State.ostRead (s : State) (a : Nat) : Nat × State :=
  if a = R.OST_FLOW_DATA_w.addr then
    let x := s.flow (s.rd R.OST_FLOW_SEL_FLOW)
    (b2n x.ordered * 2 ^ 31 + b2n x.blocked * 2 ^ 30 + x.inflight % 64 * 2 ^ 16 + x.nextSeq % 65536, s)
  else s.plainRead a

/-- The mix fabric: the taps of the bridges. -/
def State.mixRead (s : State) (a : Nat) : Nat × State :=
  if a = R.MIX_BRG_DATA_w.addr then
    (if s.rd R.MIX_BRG_SEL_FILTER = 3 then 0 else (Config.bridgeTap s.straps.rate96 (s.rd R.MIX_BRG_SEL_FILTER) (s.rd R.MIX_BRG_SEL_TAP)).toNat, s)
  else s.plainRead a

/-- The time unit: a transmit time-stamp leaves its queue (R255). -/
def State.tsuRead (s : State) (a : Nat) : Nat × State :=
  match arrayIx (R.TSU_TXQ_TS_LO_TS 0).addr 32 3 a with
  | some p => ((s.readTxq p).rd (R.TSU_TXQ_TS_LO_TS p), s.readTxq p)
  | none => s.plainRead a

/-- The byte counts of a MAC: a read of the low word takes the whole count, whose high word then stands in its register. -/
def State.octRead (s : State) (p off : Nat) : Nat × State :=
  let m := s.mac p
  let a := 0x40400000 + 0x10000 * p + off
  if off = 0x208 then (m.rxOct % 2 ^ 32, (s.setMac p { m with rxOct := 0 }).latch (a + 4) (m.rxOct / 2 ^ 32 % 2 ^ 32))
  else if off = 0x264 then (m.txOct % 2 ^ 32, (s.setMac p { m with txOct := 0 }).latch (a + 4) (m.txOct / 2 ^ 32 % 2 ^ 32))
  else match s.latches.get 0 a with
    | v + 1 => (v, { s with latches := s.latches.set 0 a 0 })
    | 0 =>
      if off = 0x20C then (m.rxOct / 2 ^ 32 % 2 ^ 32, s.setMac p { m with rxOct := m.rxOct % 2 ^ 32 })
      else (m.txOct / 2 ^ 32 % 2 ^ 32, s.setMac p { m with txOct := m.txOct % 2 ^ 32 })

/-- A MAC. -/
def State.macRead (s : State) (a : Nat) : Nat × State :=
  let p := (a - 0x40400000) / 0x10000
  let off := a % 0x10000
  if !macHas p off then (0, s)
  else if off = 0x208 || off = 0x20C || off = 0x264 || off = 0x268 then s.octRead p off
  else if off = 4 then (s.getReg a &&& macModeBits p, s)
  else s.plainRead a

/-- A time-stamp of a port: LO latches HI and BLK until BLK is read, which brings the one that waited (R179). -/
def State.alignRead (s : State) (a lo : Nat) (x : AlignSt) : Nat × State × AlignSt :=
  if a = lo then (s.getReg a, s, { x with latched := some (x.latched.getD (s.getReg (lo + 4), s.getReg (lo + 8))) })
  else if a = lo + 8 then
    (s.getReg a, match x.latched with | some (h, b) => (s.setReg (lo + 4) h).setReg (lo + 8) b | none => s, { x with latched := none })
  else (s.getReg a, s, x)

/-- The audio ports. -/
def State.audioRead (s : State) (a : Nat) : Nat × State :=
  if a < 0x50010000 then
    let p := (a - 0x50000000) / 1024
    if 0x20 ≤ a % 1024 && a % 1024 < 0x2C && p < 16 then
      let r := s.alignRead a (R.TDM_BTS_LO_C p).addr (s.tdmSt p).align
      (r.1, r.2.1.setTdm p { r.2.1.tdmSt p with align := r.2.2 })
    else s.plainRead a
  else if a < 0x50020000 then
    let i := (a - 0x50010000) / 256
    if 0x30 ≤ a % 256 && a % 256 < 0x3C && i < 4 then
      let r := s.alignRead a (R.AES_IBTS_LO_C i).addr (s.aesSt i).align
      (r.1, r.2.1.setAes i { r.2.1.aesSt i with align := r.2.2 })
    else s.plainRead a
  else match arrayIx (R.ASC_RATIO_LO_FRAC 0).addr 64 32 a with
    | some c => (s.getReg a, s.latchRho c)
    | none => s.plainRead a

/-- Tally: the entry that TLY_LOG_SEL names, which is then read (DEDUCED, log entry 60). -/
def State.tlyRead (s : State) (a : Nat) : Nat × State :=
  match arrayIx (R.TLY_LOG_DATA_DATA 0).addr 4 4 a with
  | some w => (s.logWord w, { s with tly := { s.tly with log := s.tly.log.map (fun e => if e.index = s.rd R.TLY_LOG_SEL_VALUE then { e with read := true } else e) } })
  | none => s.plainRead a

/-- A read of a register: its word, and the state after it. -/
def State.regRead (s : State) (a : Nat) : Nat × State :=
  match s.pairRead a with
  | some x => x
  | none =>
    if a < 0x30000000 then s.plainRead a
    else if a < 0x40000000 then s.drvRead a
    else if a < 0x40100000 then s.pstRead a
    else if a < 0x40200000 then s.ostRead a
    else if a < 0x40300000 then s.mixRead a
    else if a < 0x40400000 then s.tsuRead a
    else if a < 0x40480000 then s.macRead a
    else if a < 0x40500000 then s.plainRead a
    else if a < 0x40600000 then s.countPanic.plainRead a
    else if a = R.FAB_ERRINFO_w.addr then (s.getReg a, s.clearErrors)
    else if a < 0x50000000 then s.plainRead a
    else if a < 0x50030000 then s.audioRead a
    else if 0x50070000 ≤ a && a < 0x50080000 then s.tlyRead a
    else if a = R.SEC_TRNG_VALUE.addr then ((Config.trngWord s.free).toNat, s.fresh)
    else if 0x50090000 ≤ a && a < 0x500A0000 then (s.pins.get 0 (a - 0x50090000), s)
    else s.plainRead a

/-! ### Accesses of a master (R53, R119, R330, R331) -/

/-- The lanes of a word that byte strobes name (DEDUCED, log entry 57). -/
def laneMask (lanes : Nat) : Nat :=
  b2n (bitOf lanes 0) * 0xFF + b2n (bitOf lanes 1) * 0xFF00 + b2n (bitOf lanes 2) * 0xFF0000 + b2n (bitOf lanes 3) * 0xFF000000

/-- Bytes of a word at the lanes named are written from a memory key up. -/
def State.putLanes (s : State) (key w lanes : Nat) : State :=
  (List.range 4).foldl (fun s i => if bitOf lanes i then s.setByte (key + i) (BitVec.ofNat 8 (w >>> (8 * i))) else s) s

/-- A write to memory: the ring area takes writes from no bus master (R53), instruction memories none once locked (R120) (DESIGN CHOICE, log
entry 58). -/
def State.memWrite (s : State) (key w lanes : Nat) : State :=
  if 0x20000000 ≤ key && key < 0x20500000 then s
  else if 0x30000000 ≤ key && key < 0x30800000 && key % 0x40000 = 0x3FFFC then s.putLanes key w (lanes % 8)
  else if 0x30800000 ≤ key && key < 0x30A00000 && s.on R.DRV_CL_CTRL_LOCK then s
  else s.putLanes key w lanes

/-- What a write does at a spot. -/
def State.spotWrite (s : State) (master core a : Nat) (x : Spot) (w lanes : Nat) : State :=
  match x with
  | .bad k => s.busError master core a true k
  | .rom _ => s
  | .mem key => s.memWrite key w lanes
  | .cast off => if s.on R.DRV_CL_CTRL_LOCK then s
      else (List.range 32).foldl (fun s c => s.putLanes (0x30808000 + 0x10000 * c + off) w lanes) s
  | .reg r =>
    if 0x50000000 ≤ r && lanes % 16 ≠ 15 then s.busError master core a true 3
    else s.regWrite r (w % 2 ^ 32) (laneMask lanes)

/-- A write of one word by a master, at a multiple of 4, which takes its grant first (R332; DEDUCED, log entry 88). -/
def State.busWrite (s : State) (master core a w lanes : Nat) : State :=
  let s := s.when (master = mBellwether) (·.votedWrite a)
  match s.locate master a with
  | .bad k => s.busError master core a true k
  | spot => (s.fabUse master a).spotWrite master core a spot w lanes

/-- What a read finds at a spot. -/
def State.spotRead (s : State) (master core a : Nat) : Spot → Nat × State
  | .bad k => (0, s.busError master core a false k)
  | .rom off => (ofLeBytes ((List.range 4).map (fun i => Config.romByte (off + i))), s)
  | .mem key => (s.load key 4, s)
  | .cast _ => (0, s)
  | .reg r => s.regRead r

/-- A read of one word by a master, at a multiple of 4, which takes its grant first (R332; DEDUCED, log entry 88). -/
def State.busRead (s : State) (master core a : Nat) : Nat × State :=
  match s.locate master a with
  | .bad k => (0, s.busError master core a false k)
  | spot => (s.fabUse master a).spotRead master core a spot

end Sys2Proof.Machine
end

