-- ==== Sys2Proof/Machine/DroverOps.lean ====
section
/-! DEFINITION. The Drover instruction words (06_drover_instructions.md R121–R123), what each register instruction computes (R102–R105, R124–R130)
and what a bundle names (R112). -/

namespace Sys2Proof.Machine

open Sys2Proof

/-! ### Words (R121–R123) -/

/-- Fields of a word. -/
def wbv (n w hi lo : Nat) : BitVec n := BitVec.ofNat n (bitsOf w hi lo)

def fmtM (w : Nat) : FmtM :=
  ⟨bitOf w 25, wbv 6 w 24 19, wbv 6 w 18 13, bitOf w 12, bitOf w 11, wbv 3 w 10 8, bitOf w 7, bitOf w 6, wbv 2 w 5 4, bitOf w 3⟩
def fmtA (w : Nat) : FmtA := ⟨bitOf w 25, wbv 6 w 24 19, wbv 5 w 17 13, bitOf w 12⟩
def fmtV (w : Nat) : FmtV := ⟨wbv 6 w 25 20, wbv 6 w 19 14, wbv 6 w 13 8, bitOf w 7, bitOf w 6, wbv 4 w 3 0⟩
def fmtT (w : Nat) : FmtT := ⟨wbv 6 w 25 20, wbv 4 w 19 16, wbv 2 w 15 14, bitOf w 13⟩
def fmtXV (w : Nat) : FmtXV := ⟨wbv 6 w 25 20, bitOf w 19, wbv 3 w 18 16, wbv 4 w 15 12⟩
def fmtL (w : Nat) : FmtL := ⟨wbv 6 w 25 20, bitOf w 19, wbv 3 w 18 16, bitOf w 15, bitOf w 14, wbv 3 w 13 11⟩
def fmtW (w : Nat) : FmtW := ⟨wbv 4 w 25 22, wbv 4 w 21 18, wbv 18 w 17 0⟩
def fmtX (w : Nat) : FmtX := ⟨wbv 4 w 25 22, wbv 4 w 21 18, wbv 4 w 17 14, wbv 5 w 13 9, wbv 5 w 8 4⟩
def fmtAX (w : Nat) : FmtAX := ⟨wbv 4 w 25 22, wbv 4 w 21 18, bitOf w 17⟩
def fmtS (w : Nat) : FmtS := ⟨wbv 4 w 25 22, wbv 8 w 21 14, wbv 3 w 13 11, wbv 3 w 10 8, wbv 2 w 7 6⟩
def fmtB (w : Nat) : FmtB := ⟨wbv 4 w 25 22, wbv 4 w 21 18, wbv 12 w 11 0⟩
def fmtLP (w : Nat) : FmtLP := ⟨bitOf w 25, bitOf w 24, bitOf w 23, wbv 11 w 22 12, wbv 12 w 11 0⟩
def fmtP (w : Nat) : FmtP := ⟨bitOf w 21, wbv 4 w 20 17, wbv 4 w 16 13⟩

/-- The operation of a format, unless bits `[hi:lo]` that are reserved are not zero. -/
def opIf (w hi lo : Nat) (o : DrvOp) : DrvOp := if bitsOf w hi lo = 0 then o else .undef

/-- The PORT instruction of a word (R131). -/
def decodePort (w : Nat) : DrvOp :=
  let f := fmtP w
  opIf w 12 0 ([DrvOp.take f, .give f, .done f, .tapset f, .taprd f, .accadd f, .accrc f].getD (bitsOf w 25 22) .undef)

/-- Formats M, A and the vector formats: opcodes 0x00–0x1B. -/
def decodeVec (w op : Nat) : DrvOp :=
  let v := fmtV w
  let l := fmtL w
  match op with
  | 0x00 => opIf w 25 0 .nop
  | 0x01 => opIf w 2 0 (.mac (fmtM w))
  | 0x02 => opIf w 2 0 (.cmr (fmtM w))
  | 0x03 => opIf w 2 0 (.cmi (fmtM w))
  | 0x04 => opIf w 18 18 (opIf w 11 0 (.accw (fmtA w)))
  | 0x05 => opIf w 18 18 (opIf w 11 0 (.mova (fmtA w)))
  | 0x06 => opIf w 16 0 (.amovx (fmtAX w))
  | 0x12 => opIf w 11 0 (.movxv (fmtXV w))
  | 0x13 => opIf w 11 0 (.movvx (fmtXV w))
  | 0x14 => opIf w 12 0 (.tapph (fmtT w))
  | 0x15 => opIf w 12 0 (.tapgn (fmtT w))
  | 0x18 => opIf w 10 0 (.ldv l)
  | 0x19 => opIf w 10 0 (.stv l)
  | 0x1A => opIf w 10 0 (.sta l)
  | 0x1B => opIf w 10 0 (opIf w 24 22 (.stas l))
  | n => opIf w 5 4 ([DrvOp.lcoef v, .vadd v, .vsub v, .vmax v, .vmin v, .vabs v, .vshr v, .vshl v, .vswp v, .vbc v, .vmov v].getD (n - 7) .undef)

/-- The scalar, special-register and control formats: opcodes from 0x1C. -/
def decodeScalar (w op : Nat) : DrvOp :=
  let x := fmtX w
  match op with
  | 0x1C => .ldw (fmtW w)
  | 0x1D => .stw (fmtW w)
  | 0x1E => .ldwf (fmtW w)
  | 0x1F => .stwf (fmtW w)
  | 0x2C => .addi (fmtW w)
  | 0x2D => .movi (fmtW w)
  | 0x2E => .movhi (fmtW w)
  | 0x30 => opIf w 5 0 (.agset (fmtS w))
  | 0x31 => opIf w 5 0 (.agget (fmtS w))
  | 0x32 => opIf w 5 0 (.mts (fmtS w))
  | 0x33 => opIf w 5 0 (.mfs (fmtS w))
  | 0x34 => opIf w 5 0 (.scstep (fmtS w))
  | 0x38 => opIf w 17 12 (.br (fmtB w))
  | 0x39 => opIf w 17 12 (.brx (fmtB w))
  | 0x3A => opIf w 17 12 (.call (fmtB w))
  | 0x3B => if bitOf w 23 then opIf w 18 12 (.loop (fmtLP w)) else .loop (fmtLP w)
  | 0x3C => opIf w 17 12 (.reti (fmtB w))
  | 0x3E => decodePort w
  | n => if n < 0x20 then .undef else
    opIf w 3 0 ([DrvOp.add x, .sub x, .and_ x, .or_ x, .xor x, .shl x, .shr x, .sra x, .cmp x, .mulx x, .extu x, .exts x].getD (n - 0x20) .undef)

/-- The instruction of a word (DESIGN CHOICE, log entry 7) (DEDUCED, log entry 66). -/
def decodeDrv (w : Nat) : DrvOp :=
  let op := bitsOf w 31 26
  if op = 0x16 || op = 0x17 then .undef else if op < 0x1C then decodeVec w op else decodeScalar w op

/-- Sub-fields listed as undefined or reserved, and those that must be zero (R122, R124, R125, R129, R130). -/
def DrvOp.defined : DrvOp → Bool
  | .undef => false
  | .mac f | .cmr f | .cmi f => f.ps ≠ 3#2 && !(f.kb && 16 ≤ f.vb.toNat)
  | .lcoef f => f.imm4.toNat < 4 && !(f.kb && 16 ≤ f.vb.toNat) && !(f.kd && 16 ≤ f.vd.toNat)
  | .vbc f => f.imm4.toNat < 8 && !(f.kb && 16 ≤ f.vb.toNat) && !(f.kd && 16 ≤ f.vd.toNat)
  | .vadd f | .vsub f | .vmax f | .vmin f | .vabs f | .vshr f | .vshl f | .vswp f | .vmov f =>
    !(f.kb && 16 ≤ f.vb.toNat) && !(f.kd && 16 ≤ f.vd.toNat)
  | .movxv f | .movvx f => !(f.k && 16 ≤ f.v.toNat)
  | .tapgn f => f.xd = 0#4
  | .ldv f | .stv f => !(f.k && 16 ≤ f.reg.toNat)
  | .stas f => bitsOf f.reg.toNat 4 2 = 0
  | .cmp f => f.xd = 0#4
  | .movi f => f.xa = 0#4
  | .movhi f => f.xa = 0#4 && f.imm.toNat < 16384
  | .agset f | .agget f => f.fld.toNat < 5
  | .mts f | .mfs f => (0xA0 ≤ f.sel.toNat && f.sel.toNat ≤ 0xAA) || (0xB0 ≤ f.sel.toNat && f.sel.toNat ≤ 0xB3)
  | .br f => f.cond ≠ 15#4
  | .brx f | .call f => f.cond = 0#4
  | .reti f => f.cond = 0#4 && f.xa = 0#4 && f.target = 0#12
  | .loop f => !f.xc || f.cnt.toNat % 128 = 0
  | _ => true

/-- The slots an instruction may stand in (R95, R123, R132). -/
def DrvOp.slotOk (slot1 : Bool) : DrvOp → Bool
  | .mac _ | .cmr _ | .cmi _ => !slot1
  | .ldwf _ | .stwf _ | .br _ | .brx _ | .call _ | .loop _ | .reti _ => slot1
  | .take _ | .give _ | .done _ | .tapset _ | .taprd _ | .accadd _ | .accrc _ => slot1
  | _ => true

def DrvOp.isBranch : DrvOp → Bool
  | .br _ | .brx _ | .call _ | .loop _ | .reti _ => true
  | _ => false

/-- The PORT instructions, which a handler must not issue (R115). -/
def DrvOp.isPort : DrvOp → Bool
  | .take _ | .give _ | .done _ | .tapset _ | .taprd _ | .accadd _ | .accrc _ => true
  | _ => false

/-- TAKE, GIVE and DONE, beside which slot 0 holds NOP (R132). -/
def DrvOp.alone : DrvOp → Bool
  | .take _ | .give _ | .done _ => true
  | _ => false

/-- Port reads (R112). -/
def DrvOp.isRead : DrvOp → Bool
  | .taprd _ | .accrc _ | .ldwf _ => true
  | _ => false

/-! ### What a bundle names of what a port read may write (R112) -/

/-- X0–X15 are 0–15, ACC0–ACC15 are 16–31, SR is 32. -/
def resAcc (bank : Bool) : List Nat := (List.range 8).map (fun i => 16 + 8 * b2n bank + i)
def resSr : Nat := 32

def DrvOp.names : DrvOp → List Nat
  | .mac f | .cmr f | .cmi f => resSr :: resAcc f.bank
  | .accw f | .mova f => resSr :: resAcc f.bank
  | .amovx f => [f.xd.toNat, 16 + f.acc.toNat]
  | .vadd _ | .vsub _ | .vabs _ | .vshl _ => [resSr]
  | .movxv f | .movvx f => [f.x.toNat]
  | .tapph f => [9, 12, f.xd.toNat, resSr]
  | .tapgn _ => [10, 11]
  | .sta f => resSr :: resAcc (bitOf f.reg.toNat 5)
  | .stas f => resAcc (bitOf f.reg.toNat 5)
  | .ldw f | .stw f | .ldwf f | .stwf f => [f.xd.toNat, f.xa.toNat]
  | .add f | .sub f | .and_ f | .or_ f | .xor f | .shl f | .shr f | .sra f | .mulx f => [f.xd.toNat, f.xa.toNat, f.xb.toNat, resSr]
  | .cmp f => [f.xa.toNat, f.xb.toNat, resSr]
  | .extu f | .exts f => [f.xd.toNat, f.xa.toNat, resSr]
  | .addi f => [f.xd.toNat, f.xa.toNat, resSr]
  | .movi f | .movhi f => [f.xd.toNat]
  | .agset f | .agget f => [f.x.toNat]
  | .mts f | .mfs f => if f.sel = 0xA7#8 then [f.x.toNat, resSr] else [f.x.toNat]
  | .br f => if f.cond = 0#4 then [] else [resSr]
  | .brx f => [f.xa.toNat]
  | .call _ => [15]
  | .loop f => if f.xc then [f.cnt.toNat / 128] else []
  | .reti _ => [resSr]
  | .take _ => [0, 1, 2, 3]
  | .give _ => [4, 5, 6, 7]
  | .tapset f => [f.xa.toNat, f.xb.toNat]
  | .taprd _ => [8, 9, 10, 11, 12, resSr]
  | .accadd f | .accrc f => f.xa.toNat :: resAcc f.bank
  | _ => []

/-- What a result writes, numbered so. -/
def Wr.dest : Wr → Option Nat
  | .x r _ => some r
  | .acc r _ => some (16 + r)
  | .flags _ _ => some resSr
  | _ => none

/-- The destinations of the outstanding port reads. -/
def CoreSt.awaited (x : CoreSt) : List Nat := x.reads.flatMap (fun r => r.wrs.filterMap Wr.dest)

/-! ### Vectors and accumulators (R102–R106, R124–R127) -/

/-- A result and its latency (R93). -/
abbrev Res := List (Nat × Wr)

/-- SSAT and ASAT are set by L = 1. -/
def ssat (hit : Bool) : Res := if hit then [(1, .flags 0x100 0x100)] else []
def asat (hit : Bool) : Res := if hit then [(1, .flags 0x200 0x200)] else []

/-- Lane of a V or K register. -/
def CoreSt.lane (x : CoreSt) (k : Bool) (r i : Nat) : Int := if k then x.kLane r i else x.vLane r i

/-- The result that writes a lane of a V or K register; the physical register is chosen at issue (R106). -/
def CoreSt.laneWr (x : CoreSt) (k : Bool) (r i : Nat) (v : Int) : Wr := if k then .k (r % 16 * 8 + i) v else .v (x.phys r * 8 + i) v

/-- Eight lanes written after `l` cycles. -/
def CoreSt.vecWr (x : CoreSt) (l : Nat) (k : Bool) (r : Nat) (f : Nat → Int) : Res :=
  (List.range 8).map (fun i => (l, x.laneWr k r i (f i)))

/-- Lanes saturated to 18 bits, with SSAT. -/
def CoreSt.vecSat (x : CoreSt) (f : FmtV) (g : Nat → Int) : Res :=
  x.vecWr 1 f.kd f.vd.toNat (fun i => sat17 (g i)) ++ ssat ((List.range 8).any (fun i => sat17Hit (g i)))

/-- The first accumulator of a bank. -/
def bankBase (b : Bool) : Nat := 8 * b2n b

/-- Lanes of operand B: of V or K, unsigned with U (R125). -/
def CoreSt.macB (x : CoreSt) (f : FmtM) (i : Nat) : Int :=
  let v := x.lane f.kb f.vb.toNat i
  if f.u then (unsignedOf 18 v : Nat) else v

/-- The pair of B a complex partial uses in lane `k`. -/
def FmtM.pair (f : FmtM) (k : Nat) : Nat := if f.bc then f.lane.toNat / 2 * 2 else k / 2 * 2

/-- The product of a lane before the shift by PS. -/
def CoreSt.macProd (x : CoreSt) (f : FmtM) (k : Nat) : Int :=
  x.vLane f.va.toNat k * x.macB f (if f.bc then f.lane.toNat else k)

def CoreSt.cmrProd (x : CoreSt) (f : FmtM) (k : Nat) : Int := x.vLane f.va.toNat k * x.macB f (FmtM.pair f k)

def CoreSt.cmiProd (x : CoreSt) (f : FmtM) (k : Nat) : Int :=
  if k % 2 = 0 then -(x.vLane f.va.toNat (k + 1) * x.macB f (FmtM.pair f k + 1)) else x.vLane f.va.toNat (k - 1) * x.macB f (FmtM.pair f k + 1)

/-- A multiply-accumulate (R102, R125): lanes, saturation, ASAT. -/
def CoreSt.macRes (x : CoreSt) (f : FmtM) (prod : Nat → Int) : Res :=
  let sum (k : Nat) : Int :=
    let p := prod k * 2 ^ f.ps.toNat
    (if f.z then 0 else x.accChain (bankBase f.bank + k)) + (if f.n then -p else p)
  (List.range 8).map (fun k => (4, Wr.acc (bankBase f.bank + k) (satAcc (sum k)))) ++ asat ((List.range 8).any (fun k => satAcc (sum k) ≠ sum k))

/-- ACCW (R103, R126). -/
def CoreSt.accwRes (x : CoreSt) (f : FmtA) : Res :=
  let sum (k : Nat) : Int := (if f.add then x.accChain (bankBase f.bank + k) else 0) + x.vLane f.v.toNat k * 2 ^ f.sh.toNat
  (List.range 8).map (fun k => (4, Wr.acc (bankBase f.bank + k) (satAcc (sum k)))) ++ asat ((List.range 8).any (fun k => satAcc (sum k) ≠ sum k))

/-- An accumulator narrowed with right shift `k` before saturation (R103). -/
def CoreSt.narrow (x : CoreSt) (bank : Bool) (k i : Nat) : Int := rheDiv (x.accv (bankBase bank + i)) (2 ^ (17 + k))

/-- MOVA (R103). -/
def CoreSt.movaRes (x : CoreSt) (f : FmtA) : Res :=
  x.vecWr 2 false f.v.toNat (fun i => sat17 (x.narrow f.bank f.sh.toNat i)) ++
    ssat ((List.range 8).any (fun i => sat17Hit (x.narrow f.bank f.sh.toNat i)))

/-- AMOVX (R124). -/
def CoreSt.amovxRes (x : CoreSt) (f : FmtAX) : Res :=
  let a := x.accv f.acc.toNat
  [(1, .x f.xd.toNat (if f.h then unsignedOf 32 (a / 2 ^ 32) else unsignedOf 32 a))]

/-- Coefficient k = −1, 0, 1, 2 at the phase of a lane (R59). -/
def coefOf (k : Nat) (v : Int) : Int :=
  let c := lagrange (unsignedOf 8 v)
  match k with
  | 0 => c.1
  | 1 => c.2.1
  | 2 => c.2.2.1
  | _ => c.2.2.2

/-- The delay of lane `i` that TAPPH takes (R127). -/
def CoreSt.tapDelay (x : CoreSt) (f : FmtT) (i : Nat) : Int :=
  let t1 : Int := (bitsOf (x.xr 9) 31 7 : Nat)
  let t0 : Int := (bitsOf (x.xr 12) 24 0 : Nat)
  let j : Int := (8 * f.g.toNat + i : Nat)
  if f.j then t0 else rheDiv (32 * t0 + (j + 1) * (t1 - t0)) 32

/-- TAPPH (R127). -/
def CoreSt.tapphRes (x : CoreSt) (f : FmtT) : Res :=
  let m (i : Nat) : Int := x.tapDelay f i / 256
  x.vecWr 1 false f.vd.toNat (fun i => x.tapDelay f i % 256) ++
    [(1, .x f.xd.toNat (unsignedOf 32 (m 0))), (1, .flags 1 (b2n ((List.range 8).all (fun i => m i = m 0))))]

/-- TAPGN (R127): GAIN_INC is X10 [12:0] followed by X11 [31:26]. -/
def CoreSt.tapgnRes (x : CoreSt) (f : FmtT) : Res :=
  let gain : Int := (bitsOf (x.xr 10) 30 13 : Nat)
  let inc := signedOf 19 (bitsOf (x.xr 10) 12 0 * 64 + bitsOf (x.xr 11) 31 26)
  x.vecWr 1 false f.vd.toNat (fun i => signedOf 18 (unsignedOf 18 (rheDiv (32 * (gain - inc) + ((8 * f.g.toNat + i + 1 : Nat) : Int) * inc) 32)))

/-! ### Scalars (R124) -/

/-- The four flags as a result: Z, N, V, C. -/
def flagsRes (r : Nat) (v c : Bool) : Nat × Wr := (1, .flags 0xF (b2n (r = 0) + 2 * b2n (bitOf r 31) + 4 * b2n v + 8 * b2n c))

/-- XD = a + b with its flags. -/
def addRes (xd a b : Nat) : Res :=
  let r := (a + b) % 2 ^ 32
  [(1, .x xd r), flagsRes r (signedOf 32 a + signedOf 32 b ≠ signedOf 32 r) (2 ^ 32 ≤ a + b)]

/-- The flags of a − b, and the difference. -/
def subFlags (a b : Nat) : Nat × (Nat × Wr) :=
  let r := (a + 2 ^ 32 - b) % 2 ^ 32
  (r, flagsRes r (signedOf 32 a - signedOf 32 b ≠ signedOf 32 r) (b ≤ a))

/-- A logical result: N and Z, with C and V cleared. -/
def logicRes (xd r : Nat) : Res := [(1, .x xd (r % 2 ^ 32)), flagsRes (r % 2 ^ 32) false false]

/-- IMM18 sign-extended. -/
def FmtW.val (f : FmtW) : Nat := unsignedOf 32 f.imm.toInt

/-- EXTU's field. -/
def CoreSt.field (x : CoreSt) (f : FmtX) : Nat := (x.xr f.xa.toNat >>> f.pos.toNat) % 2 ^ (f.wm1.toNat + 1)

/-- A field of an address generator (R130). -/
def AddrGen.fld (g : AddrGen) (n : Nat) : Nat :=
  match n with
  | 0 => g.base
  | 1 => unsignedOf 18 g.ptr
  | 2 => unsignedOf 18 g.inc
  | 3 => g.len
  | _ => g.mode

/-- The result that writes it. -/
def agWr (n fld w : Nat) : Wr :=
  match fld with
  | 0 => .agBase n (w % 131072)
  | 1 => .agPtr n (signedOf 18 w)
  | 2 => .agInc n (signedOf 18 w)
  | 3 => .agLen n (w % 131072)
  | _ => .agMode n (w % 4)

/-- A special register as MFS reads it (R130). -/
def CoreSt.special (x : CoreSt) (sel : Nat) : Nat :=
  if sel < 0xA7 then x.loopReg (sel - 0xA0)
  else if sel = 0xA7 then x.sr
  else if sel = 0xA8 then x.pc
  else if sel = 0xA9 then x.ipc
  else if sel = 0xAA then x.isr
  else (x.scl (sel - 0xB0)).word

/-- MTS (R130): a write of PC is discarded. IPC and ISR take the latency of the ALU class (DESIGN CHOICE, log entry 104). -/
def mtsRes (sel w : Nat) : Res :=
  if sel < 0xA7 then [(2, .loopReg (sel - 0xA0) w)]
  else if sel = 0xA7 then [(1, .sr w)]
  else if sel = 0xA8 then []
  else if sel = 0xA9 then [(1, .ipc w)]
  else if sel = 0xAA then [(1, .isr w)]
  else [(3, .scl (sel - 0xB0) (scaleOf w))]

/-- SCSTEP (R105). -/
def CoreSt.scstepRes (x : CoreSt) (n : Nat) : Res :=
  let z := x.scl n
  let s := if z.m < 32768 then 0 else if z.m < 65536 then 1 else 2
  [(3, .sclStep n (min 31 (z.e + s)) s)]

/-- Does a branch condition hold (R129)? -/
def CoreSt.cond (x : CoreSt) (k : Nat) : Bool :=
  let z := x.srBit 0
  let n := x.srBit 1
  let v := x.srBit 2
  let c := x.srBit 3
  match k with
  | 0 => true
  | 1 => z
  | 2 => !z
  | 3 => n
  | 4 => !n
  | 5 => c
  | 6 => !c
  | 7 => v
  | 8 => !v
  | 9 => n ≠ v
  | 10 => n = v
  | 11 => !z && decide (n = v)
  | 12 => z || decide (n ≠ v)
  | 13 => c && !z
  | 14 => !c || z
  | _ => false

/-- The results of an instruction that touches registers alone. -/
def CoreSt.regRes (x : CoreSt) : DrvOp → Res
  | .mac f => x.macRes f (x.macProd f)
  | .cmr f => x.macRes f (x.cmrProd f)
  | .cmi f => x.macRes f (x.cmiProd f)
  | .accw f => x.accwRes f
  | .mova f => x.movaRes f
  | .amovx f => x.amovxRes f
  | .lcoef f => x.vecWr 3 f.kd f.vd.toNat (fun i => coefOf f.imm4.toNat (x.vLane f.va.toNat i))
  | .vadd f => x.vecSat f (fun i => x.vLane f.va.toNat i + x.lane f.kb f.vb.toNat i)
  | .vsub f => x.vecSat f (fun i => x.vLane f.va.toNat i - x.lane f.kb f.vb.toNat i)
  | .vmax f => x.vecWr 1 f.kd f.vd.toNat (fun i => max (x.vLane f.va.toNat i) (x.lane f.kb f.vb.toNat i))
  | .vmin f => x.vecWr 1 f.kd f.vd.toNat (fun i => min (x.vLane f.va.toNat i) (x.lane f.kb f.vb.toNat i))
  | .vabs f => x.vecSat f (fun i => ((x.vLane f.va.toNat i).natAbs : Int))
  | .vshr f => x.vecWr 1 f.kd f.vd.toNat (fun i => rheDiv (x.vLane f.va.toNat i) (2 ^ f.imm4.toNat))
  | .vshl f => x.vecSat f (fun i => x.vLane f.va.toNat i * 2 ^ f.imm4.toNat)
  | .vswp f => x.vecWr 1 f.kd f.vd.toNat (fun i => x.vLane f.va.toNat (if i % 2 = 0 then i + 1 else i - 1))
  | .vbc f => x.vecWr 1 f.kd f.vd.toNat (fun _ => x.vLane f.va.toNat (f.imm4.toNat % 8))
  | .vmov f => x.vecWr 1 f.kd f.vd.toNat (fun i => x.lane f.kb f.vb.toNat i)
  | .movxv f => [(1, x.laneWr f.k f.v.toNat f.lane.toNat (signedOf 18 (x.xr f.x.toNat)))]
  | .movvx f => [(1, .x f.x.toNat (unsignedOf 32 (x.lane f.k f.v.toNat f.lane.toNat)))]
  | .tapph f => x.tapphRes f
  | .tapgn f => x.tapgnRes f
  | .add f => addRes f.xd.toNat (x.xr f.xa.toNat) (x.xr f.xb.toNat)
  | .sub f => let d := subFlags (x.xr f.xa.toNat) (x.xr f.xb.toNat); [(1, .x f.xd.toNat d.1), d.2]
  | .cmp f => [(subFlags (x.xr f.xa.toNat) (x.xr f.xb.toNat)).2]
  | .and_ f => logicRes f.xd.toNat (x.xr f.xa.toNat &&& x.xr f.xb.toNat)
  | .or_ f => logicRes f.xd.toNat (x.xr f.xa.toNat ||| x.xr f.xb.toNat)
  | .xor f => logicRes f.xd.toNat (x.xr f.xa.toNat ^^^ x.xr f.xb.toNat)
  | .shl f => logicRes f.xd.toNat (x.xr f.xa.toNat * 2 ^ (x.xr f.xb.toNat % 32))
  | .shr f => logicRes f.xd.toNat (x.xr f.xa.toNat >>> (x.xr f.xb.toNat % 32))
  | .sra f => logicRes f.xd.toNat (unsignedOf 32 (signedOf 32 (x.xr f.xa.toNat) / 2 ^ (x.xr f.xb.toNat % 32)))
  | .mulx f => logicRes f.xd.toNat (x.xr f.xa.toNat * x.xr f.xb.toNat)
  | .extu f => logicRes f.xd.toNat (x.field f)
  | .exts f => logicRes f.xd.toNat (unsignedOf 32 (signedOf (f.wm1.toNat + 1) (x.field f)))
  | .addi f => addRes f.xd.toNat (x.xr f.xa.toNat) (FmtW.val f)
  | .movi f => [(1, .x f.xd.toNat (FmtW.val f))]
  | .movhi f => [(1, .x f.xd.toNat (f.imm.toNat % 16384 * 2 ^ 18 + x.xr f.xd.toNat % 2 ^ 18))]
  | .agset f => [(1, agWr f.ag.toNat f.fld.toNat (x.xr f.x.toNat))]
  | .agget f => [(1, .x f.x.toNat ((x.ag f.ag.toNat).fld f.fld.toNat))]
  | .mts f => mtsRes f.sel.toNat (x.xr f.x.toNat)
  | .mfs f => [(1, .x f.x.toNat (x.special f.sel.toNat))]
  | .scstep f => x.scstepRes f.scl.toNat
  | .call _ => [(1, .x 15 (x.pc + 3))]
  | .reti _ => [(1, .sr x.isr)]
  | _ => []

end Sys2Proof.Machine
end

