-- ==== Sys2Proof/Machine/DroverIssue.lean ====
section
/-! DEFINITION. The issue of a Drover bundle (05_drover_cores.md): legality (R95, R108, R115, R123, R132), memory accesses (R97–R101, R128), ports
(R109–R112, R131), branches and loops (R95, R107, R129), faults (R113). -/

namespace Sys2Proof.Machine

open Sys2Proof

/-! ### Local memory (R97–R101) -/

/-- The address of a core's local memory. Its last byte, 0x3FFFF, holds nothing and reads zero (R97). -/
def localBase (c : Nat) : Nat := 0x30000000 + c * 0x40000

/-- Element `e` of core `c`: bits [18e+17:18e]. -/
def State.elem (s : State) (c e : Nat) : Int := signedOf 18 (s.load (localBase c + 18 * e / 8) 3 >>> (18 * e % 8))

/-- Writes an element; the other bits of its bytes stay. -/
def State.setElem (s : State) (c e : Nat) (v : Int) : State :=
  let a := localBase c + 18 * e / 8
  let sh := 18 * e % 8
  s.store a 3 (setBits (s.load a 3) (sh + 17) sh (unsignedOf 18 v))

/-- LEN; 0 acts as 1. -/
def AddrGen.lenOf (g : AddrGen) : Nat := max 1 g.len

/-- The element address of lane `i` from a pointer (R100). -/
def AddrGen.addr (g : AddrGen) (ptr : Int) (i : Nat) : Int :=
  match g.mode with
  | 1 => g.base + (ptr + i) % (g.lenOf : Int)
  | 2 =>
    let n := floorLog2 g.lenOf
    g.base + (bitRev n (ptr % (2 ^ n : Nat)).toNat : Nat)
  | _ => g.base + ptr + i

/-- The pointer after an update (R100). -/
def AddrGen.next (g : AddrGen) (ptr : Int) : Int :=
  match g.mode with
  | 1 => (ptr + g.inc) % (g.lenOf : Int)
  | 2 => (ptr + g.inc) % (2 ^ floorLog2 g.lenOf : Nat)
  | _ => signedOf 18 (unsignedOf 18 (ptr + g.inc))

/-- A fault raised: its cause and, for ACCESS, DRV_FAULT_ADDR. -/
abbrev Raised := Option (Cause × Option (Bool × Nat))

/-- Is an element address outside the memory? -/
def outside (a : Int) : Bool := a < 0 || 116508 ≤ a

/-- The lanes an access of format L moves. -/
def FmtL.lanes (f : FmtL) : List Nat := if f.vec then List.range 8 else [f.lane.toNat]

/-- Lane `i` of an access is at lane offset `i` of a vector, at the pointer itself when single. -/
def FmtL.off (f : FmtL) (i : Nat) : Nat := if f.vec then i else 0

/-- The fault of an access of format L: a vector in bit-reversed mode, or the first failing lane. -/
def FmtL.fault (f : FmtL) (g : AddrGen) (ptr : Int) : Raised :=
  if f.vec && g.mode = 2 then some (.illegal, none)
  else ((FmtL.lanes f).find? (fun i => outside (g.addr ptr (FmtL.off f i)))).map
    (fun i => (Cause.access, some (false, unsignedOf 18 (g.addr ptr (FmtL.off f i)))))

/-- The byte address of a local word access; its two low bits are ignored. -/
def CoreSt.wordAddr (x : CoreSt) (f : FmtW) : Nat := (x.xr f.xa.toNat + FmtW.val f) % 2 ^ 32 / 4 * 4

def wordFault (a : Nat) : Raised := if 0x3FFFC < a then some (.access, some (true, a % 2 ^ 18)) else none

/-- The shift a scaling move takes: the least at or above S for which every lane fits (R104); `n` bounds the search. -/
def CoreSt.scaleShift (x : CoreSt) (bank : Bool) (lanes : List Nat) : Nat → Nat → Nat
  | s, 0 => s
  | s, n + 1 => if lanes.any (fun i => sat17Hit (x.narrow bank s i)) then CoreSt.scaleShift x bank lanes (s + 1) n else s

/-- What one slot does: state, results, and the fault it raises. -/
structure Did where
  s   : State
  res : Res
  err : Raised
  deriving DecidableEq, Repr

/-- Stores lanes of format L. -/
def State.putElems (s : State) (c : Nat) (f : FmtL) (g : AddrGen) (ptr : Int) (v : Nat → Int) : State :=
  (FmtL.lanes f).foldl (fun s i => s.setElem c (g.addr ptr (FmtL.off f i)).toNat (v i)) s

/-- The accesses of format L (R128), from the pointer given; the pointer update comes with its results. -/
def State.doL (s : State) (c : Nat) (x : CoreSt) (ptr : Int) (op : DrvOp) (f : FmtL) : Did :=
  let n := f.ag.toNat
  let g := x.ag n
  let err := FmtL.fault f g ptr
  let upd : Res := if f.upd then [(1, .agPtr n (g.next ptr))] else []
  let bank := bitOf f.reg.toNat 5
  let ls := FmtL.lanes f
  match op with
  | .ldv _ =>
    ⟨s, upd ++ ls.map (fun i => (3, x.laneWr f.k f.reg.toNat i (if err.isSome then 0 else s.elem c (g.addr ptr (FmtL.off f i)).toNat))), err⟩
  | .stv _ => ⟨if err.isSome then s else s.putElems c f g ptr (fun i => x.lane f.k f.reg.toNat i), upd, err⟩
  | .sta _ =>
    let sh := f.reg.toNat % 32
    if err.isSome then ⟨s, upd, err⟩
    else ⟨s.putElems c f g ptr (fun i => sat17 (x.narrow bank sh i)), upd ++ ssat (ls.any (fun i => sat17Hit (x.narrow bank sh i))), none⟩
  | _ =>
    let k := bitsOf f.reg.toNat 1 0
    let sh := x.scaleShift bank ls (x.scl k).s 16
    let big := ls.foldl (fun m i => max m (x.narrow bank sh i).natAbs) 0
    if err.isSome then ⟨s, upd, err⟩
    else ⟨s.putElems c f g ptr (fun i => x.narrow bank sh i), upd ++ [(3, .sclMove k sh big)], none⟩

/-- One local access or matrix store of a slot; a pointer is that of the slot (R132 rule 4). -/
def State.doMem (s : State) (c : Nat) (x : CoreSt) (ptrOf : Nat → Int) (op : DrvOp) : Did :=
  match op with
  | .ldv f | .stv f | .sta f | .stas f => s.doL c x (ptrOf f.ag.toNat) op f
  | .ldw f =>
    let a := x.wordAddr f
    ⟨s, [(3, .x f.xd.toNat (if (wordFault a).isSome then 0 else s.load (localBase c + a) 4))], wordFault a⟩
  | .stw f =>
    let a := x.wordAddr f
    ⟨if (wordFault a).isSome then s else s.store (localBase c + a) (if a = 0x3FFFC then 3 else 4) (x.xr f.xd.toNat), [], wordFault a⟩
  | .stwf f => ⟨s.busWrite (c / 8) c (x.wordAddr f) (x.xr f.xd.toNat) 15, [], none⟩
  | _ => ⟨s, [], none⟩

/-- The pointer of AG `n` that slot 1 uses: after slot 0's update, if slot 0 updates it. -/
def CoreSt.slot1Ptr (x : CoreSt) (op0 : DrvOp) (n : Nat) : Int :=
  match op0 with
  | .ldv f | .stv f | .sta f | .stas f => if f.upd && f.ag.toNat = n then (x.ag n).next (x.ag n).ptr else (x.ag n).ptr
  | _ => (x.ag n).ptr

/-! ### Ports (R110–R112, R131) -/

/-- The tap list a port names by the low 16 bits of its block: the rendered one, or one that is complete and waits (DEDUCED, log entry 67). -/
def State.tapListOf (s : State) (blk : Nat) : List Tap :=
  let ls := s.geo.cur :: (s.geo.late.toList ++ s.geo.forming.toList)
  match ls.find? (fun l => l.blk % 65536 = blk) with
  | some l => l.taps
  | none => []

/-- TAPSET (R110). -/
def CoreSt.tapset (x : CoreSt) (f : FmtP) : CoreSt :=
  let a := x.xr f.xa.toNat
  { x with tap := some ⟨a / 65536, a % 65536, x.xr f.xb.toNat % 131072⟩ }

/-- The five words TAPRD delivers, with Z (R110) (DEDUCED, log entry 67). -/
def State.tapWords (s : State) (t : TapPort) : List Wr :=
  match (if t.left = 0 then none else (s.tapListOf t.blk)[t.next]?) with
  | none => [.x 8 0, .x 9 0, .x 10 0, .x 11 0, .x 12 0x80000000, .flags 1 1]
  | some e =>
    let w := e.word
    [.x 8 (bitsOf w 127 96), .x 9 (bitsOf w 95 64), .x 10 (bitsOf w 63 32), .x 11 (bitsOf w 31 0), .x 12 (e.prevDelay % 2 ^ 25), .flags 1 0]

/-- The operand of ACCADD and ACCRC: set, output, first sample (R131). -/
def accOperand (w : Nat) : Nat × Nat × Nat := (bitsOf w 16 16, bitsOf w 15 6, 8 * bitsOf w 5 4)

/-- ACCADD (R111): an output the sets do not hold takes nothing. -/
def State.accadd (s : State) (c : Nat) (x : CoreSt) (f : FmtP) : State :=
  let o := accOperand (x.xr f.xa.toNat)
  if 640 ≤ o.2.1 then s
  else if s.gated 3 then s.busError (c / 8) c (accAddr o.1 o.2.1 o.2.2) true 2
  else (List.range 8).foldl (fun s i => s.accAdd o.1 o.2.1 (o.2.2 + i) (x.accv (bankBase f.bank + i))) s

/-- ACCRC (R65, R111): eight words are read and cleared; a damaged word is taken as zero and counted. -/
def State.accrc (s : State) (c : Nat) (x : CoreSt) (f : FmtP) : State × List Wr :=
  let o := accOperand (x.xr f.xa.toNat)
  if 640 ≤ o.2.1 then (s, (List.range 8).map (fun i => .acc (bankBase f.bank + i) 0))
  else if s.gated 3 then
    (s.busError (c / 8) c (accAddr o.1 o.2.1 o.2.2) false 2, (List.range 8).map (fun i => .acc (bankBase f.bank + i) 0))
  else
    let got := (List.range 8).map (fun i => s.accRead o.1 o.2.1 (o.2.2 + i))
    let s := (s.store (accAddr o.1 o.2.1 o.2.2) 64 0).accBad (got.filter (fun p => p.isNone)).length
    (s, (List.range 8).map (fun i => Wr.acc (bankBase f.bank + i) ((got.getD i none).getD 0)))

/-- A port read joins those outstanding. -/
def State.addRead (s : State) (c : Nat) (ws : List Wr) : State :=
  let x := s.core c
  s.setCore c { x with reads := x.reads ++ [⟨ws⟩] }

/-! ### The issue -/

/-- The LE bundle of an active loop. -/
def CoreSt.atEnd (x : CoreSt) : Bool := (0 < x.lvl0.count && x.lvl0.stop = x.pc) || (0 < x.lvl1.count && x.lvl1.stop = x.pc)

/-- Is a LOOP's level active? -/
def CoreSt.levelBusy (x : CoreSt) : DrvOp → Bool
  | .loop f => if f.lvl then 0 < x.lvl1.count else 0 < x.lvl0.count
  | _ => false

/-- Is the bundle illegal (R95, R108, R115, R123, R132)? (DEDUCED, log entry 66) -/
def CoreSt.illegal (x : CoreSt) (op0 op1 : DrvOp) : Bool :=
  !(DrvOp.defined op0 && DrvOp.defined op1 && DrvOp.slotOk false op0 && DrvOp.slotOk true op1) ||
    (x.delay.isSome && (DrvOp.isBranch op1 || x.atEnd)) ||
    (0 < x.lvl0.count && 0 < x.lvl1.count && x.lvl0.stop = x.pc && x.lvl1.stop = x.pc) ||
    x.levelBusy op1 || (DrvOp.alone op1 && op0 ≠ .nop) || (x.srBit 14 && DrvOp.isPort op1)

/-- Does the bundle stall on port reads (R112)? -/
def CoreSt.stalls (x : CoreSt) (op0 op1 : DrvOp) : Bool :=
  (DrvOp.names op0 ++ DrvOp.names op1).any x.awaited.contains || (DrvOp.isRead op1 && 8 ≤ x.reads.length)

/-- A fault is raised by the bundle at `pc`: two further bundles issue (R114). One that is already pending stays (DEDUCED, log entry 65). -/
def State.raise (s : State) (c pc : Nat) (e : Raised) : State :=
  let x := s.core c
  match e with
  | none => s
  | some (cause, where_) =>
    if x.trap.isSome then s
    else
      let s := s.setCore c { x with trap := some ⟨3, pc, cause, x.srBit 14⟩ }
      match where_ with
      | some (word, a) => (s.wr (R.DRV_FAULT_ADDR_WORD c) (b2n word)).wr (R.DRV_FAULT_ADDR_ADDR c) a
      | none => s

/-- Results go into flight; accumulators are seen at once by a further multiply-accumulate (R93). -/
def CoreSt.fly (x : CoreSt) (rs : Res) : CoreSt :=
  let acc := rs.foldl (fun c r => match r.2 with | .acc n a => c.set 0 n a | _ => c) x.accNow
  { x with accNow := acc, flight := x.flight ++ rs.map (fun r => ⟨x.cycle + r.1, r.2⟩) }

/-- The branch of a bundle: its target if it is taken. -/
def CoreSt.branch (x : CoreSt) : DrvOp → Option (Option Nat)
  | .br f => some (if x.cond f.cond.toNat then some f.target.toNat else none)
  | .brx f => some (some (x.xr f.xa.toNat % 4096))
  | .call f => some (some f.target.toNat)
  | .reti _ => some (some x.ipc)
  | _ => none

/-- LOOP (R107): a level is set up, or the body is skipped. -/
def CoreSt.startLoop (x : CoreSt) (f : FmtLP) (n : Nat) : CoreSt :=
  if n = 0 then { x with pc := (f.le.toNat + 1) % 4096 }
  else
    let ls := (x.pc + 1) % 4096
    let l : LoopLvl := ⟨ls, f.le.toNat, n, f.rot⟩
    let x := x.advance
    let x := if f.lvl then { x with lvl1 := l } else { x with lvl0 := l }
    let b := if f.lvl then 3 else 0
    x.fly [(2, .loopView b ls), (2, .loopView (b + 1) f.le.toNat), (2, .loopView (b + 2) n)]

/-- The count of a LOOP. -/
def CoreSt.loopCount (x : CoreSt) (f : FmtLP) : Nat := if f.xc then x.xr (f.cnt.toNat / 128) % 65536 else f.cnt.toNat

/-- The bundle is over: a branch opens its delay, a LOOP its level, anything else goes on; `x0` is the core at issue. -/
def CoreSt.over (x x0 : CoreSt) (op1 : DrvOp) : CoreSt :=
  match op1 with
  | .loop f => (x.startLoop f (x0.loopCount f)).retireBundle
  | _ =>
    match x0.branch op1 with
    | some t => ({ x.advance with delay := some (2, t) }).retireBundle
    | none => x.finish

/-- GIVE and DONE, TAPRD and the other ports of slot 1; `x0` is the core at issue. The result says whether the core now waits. -/
def State.doPort (s : State) (c : Nat) (x0 : CoreSt) (op : DrvOp) : State × Option Wait × Raised :=
  match op with
  | .take _ => (s, some .take, none)
  | .give _ => match s.give c with
    | .done t => (t, none, none)
    | .wait => (s, some .give, none)
    | .fault => (s, none, some (.task, none))
  | .done _ => if x0.task.isNone then (s, none, some (.task, none)) else (s, some .done, none)
  | .tapset f => (s.setCore c ((s.core c).tapset f), none, none)
  | .taprd _ => match x0.tap with
    | none => (s, none, some (.task, none))
    | some t =>
      let s := s.addRead c (s.tapWords t)
      (s.setCore c { s.core c with tap := some { t with next := t.next + 1, left := t.left - 1 } }, none, none)
  | .accadd f => (s.accadd c x0 f, none, none)
  | .accrc f =>
    let r := s.accrc c x0 f
    (r.1.addRead c r.2, none, none)
  | .ldwf f =>
    let r := s.busRead (c / 8) c (x0.wordAddr f)
    (r.2.addRead c [.x f.xd.toNat r.1], none, none)
  | _ => (s, none, none)

/-- The core begins to wait; in TAKE or GIVE it shows STATE 2 (R109). -/
def State.startWait (s : State) (c : Nat) (w : Wait) : State :=
  let s := s.setCore c { s.core c with waiting := some w }
  if w = .done then s else s.setCoreState c 2

/-- A legal bundle does what its slots say, slot 0 first (R98) (DEDUCED, log entry 65). -/
def State.runBundle (s : State) (c : Nat) (op0 op1 : DrvOp) : State :=
  let x0 := s.core c
  let d0 := s.doMem c x0 (fun n => (x0.ag n).ptr) op0
  let d1 := d0.s.doMem c x0 (x0.slot1Ptr op0) op1
  let s := d1.s
  let s := s.setCore c ((s.core c).fly (x0.regRes op0 ++ d0.res ++ x0.regRes op1 ++ d1.res))
  let p := s.doPort c x0 op1
  let s := ((p.1.raise c x0.pc d0.err).raise c x0.pc d1.err).raise c x0.pc p.2.2
  match p.2.1 with
  | some w => s.startWait c w
  | none => s.setCore c ((s.core c).over x0 op1)

/-- An armed breakpoint at the bundle (R113, R117). -/
def State.breaksAt (s : State) (c pc : Nat) : Bool :=
  (List.range 4).any (fun i => s.on (R.DRV_BKPT_EN c i) && s.rd (R.DRV_BKPT_ADDR c i) = pc)

/-- A bundle issues, or stalls on port reads. An illegal bundle changes nothing but the sequence (DEDUCED, log entry 64). -/
def State.issue (s : State) (c : Nat) (op0 op1 : DrvOp) : State :=
  let x := s.core c
  let bad := x.illegal op0 op1
  if !bad && x.stalls op0 op1 then s.setCore c { x with stalled := some (op0, op1) }
  else
    let s := (s.setCore c { x with stalled := none }).bump (R.DRV_CNT_BUNDLE_VALUE c)
    let s := if bad then
        (let s := s.raise c x.pc (some (.illegal, none)); s.setCore c (s.core c).finish)
      else s.runBundle c op0 op1
    let s := (s.coreCopies c).boundary c
    if s.breaksAt c x.pc then s.askHalt c else s

/-- May a core issue a bundle: running, clocked, and not waiting? -/
def State.issues (s : State) (c : Nat) : Bool :=
  s.coreState c = 1 && s.on (R.DRV_CTRL_RUN c) && !s.gated 0 && (s.core c).waiting.isNone && (s.core c).stalled.isNone

/-- One bundle of a halted core, with its drain (R117), from its instruction memory at PC. One that waits in TAKE, GIVE or DONE halts the core when it is complete. -/
def State.stepCore (s : State) (c : Nat) : State :=
  if s.coreState c ≠ 3 then s
  else
    let s := s.setCoreState c (s.core c).runState
    if (s.core c).waiting.isSome then s.setCore c { s.core c with stepping := true }
    else
      let a := 0x30808000 + c * 0x10000 + 8 * (s.core c).pc
      let s := s.issue c (decodeDrv (s.load a 4)) (decodeDrv (s.load (a + 4) 4))
      if s.coreState c = 4 then s
      else if (s.core c).waiting.isSome && s.coreState c ≠ 3 then s.setCore c { s.core c with stepping := true }
      else ((s.setCore c (s.core c).drain).setCoreState c 3).coreCopies c

/-- Does a core hold a bundle that waited on port reads and waits on none any more (R112)? -/
def State.unstalls (s : State) (c : Nat) : Bool :=
  let x := s.core c
  match x.stalled with
  | some (a, b) => s.coreState c = 1 && s.on (R.DRV_CTRL_RUN c) && !s.gated 0 && !x.stalls a b
  | none => false

/-- The cores of which a write of DRV_CTRL.STEP asks a bundle issue it, and bundles that waited on port reads issue; at most `n` in turn, since a bundle may itself ask
another. -/
def State.runSteps (s : State) : Nat → State
  | 0 => s
  | n + 1 =>
    match s.cores.find? (fun p => p.2.stepReq) with
    | some (c, x) => State.runSteps ((s.setCore c { x with stepReq := false }).stepCore c) n
    | none =>
      match s.cores.find? (fun p => s.unstalls p.1) with
      | some (c, x) => (match x.stalled with
        | some (a, b) => State.runSteps (s.issue c a b) n
        | none => s)
      | none => s

/-- The instruction of a command issues with the one in the other slot, by core `i.core` (DEDUCED, log entry 64). -/
def State.command (s : State) (i : Issue) (op : DrvOp) : State :=
  let s := s.runSteps 64
  let c := i.core.val
  if !s.issues c then s
  else
    let other := decodeDrv i.partner.toNat
    (if i.slot1 then s.issue c other op else s.issue c op other).runSteps 64

end Sys2Proof.Machine
end

