-- ==== Sys2Proof/Machine/Drover.lean ====
section
/-! DEFINITION. The Drover instructions (06_drover_instructions.md). Each command issues one whole bundle of its core: the instruction it names and the word of the other
slot. What a slot computes is in DroverOps.lean, how a bundle issues in DroverIssue.lean. -/

namespace Sys2Proof.Machine

open Sys2Proof

/-- NOP (R121): nothing but the bundle itself. -/
def execDrvNop (at_ : Issue) (s : State) : Host.Outcome State Fault Refusal := .next (s.command at_ .nop)

/-- MAC (R125). -/
def execDrvMac (at_ : Issue) (f : FmtM) (s : State) : Host.Outcome State Fault Refusal := .next (s.command at_ (.mac f))

/-- CMR (R125). -/
def execDrvCmr (at_ : Issue) (f : FmtM) (s : State) : Host.Outcome State Fault Refusal := .next (s.command at_ (.cmr f))

/-- CMI (R125). -/
def execDrvCmi (at_ : Issue) (f : FmtM) (s : State) : Host.Outcome State Fault Refusal := .next (s.command at_ (.cmi f))

/-- ACCW (R126). -/
def execDrvAccw (at_ : Issue) (f : FmtA) (s : State) : Host.Outcome State Fault Refusal := .next (s.command at_ (.accw f))

/-- MOVA (R103). -/
def execDrvMova (at_ : Issue) (f : FmtA) (s : State) : Host.Outcome State Fault Refusal := .next (s.command at_ (.mova f))

/-- AMOVX (R124). -/
def execDrvAmovx (at_ : Issue) (f : FmtAX) (s : State) : Host.Outcome State Fault Refusal := .next (s.command at_ (.amovx f))

/-- LCOEF (R59). -/
def execDrvLcoef (at_ : Issue) (f : FmtV) (s : State) : Host.Outcome State Fault Refusal := .next (s.command at_ (.lcoef f))

/-- VADD (R124). -/
def execDrvVadd (at_ : Issue) (f : FmtV) (s : State) : Host.Outcome State Fault Refusal := .next (s.command at_ (.vadd f))

/-- VSUB (R124). -/
def execDrvVsub (at_ : Issue) (f : FmtV) (s : State) : Host.Outcome State Fault Refusal := .next (s.command at_ (.vsub f))

/-- VMAX (R124). -/
def execDrvVmax (at_ : Issue) (f : FmtV) (s : State) : Host.Outcome State Fault Refusal := .next (s.command at_ (.vmax f))

/-- VMIN (R124). -/
def execDrvVmin (at_ : Issue) (f : FmtV) (s : State) : Host.Outcome State Fault Refusal := .next (s.command at_ (.vmin f))

/-- VABS (R124). -/
def execDrvVabs (at_ : Issue) (f : FmtV) (s : State) : Host.Outcome State Fault Refusal := .next (s.command at_ (.vabs f))

/-- VSHR (R124). -/
def execDrvVshr (at_ : Issue) (f : FmtV) (s : State) : Host.Outcome State Fault Refusal := .next (s.command at_ (.vshr f))

/-- VSHL (R124). -/
def execDrvVshl (at_ : Issue) (f : FmtV) (s : State) : Host.Outcome State Fault Refusal := .next (s.command at_ (.vshl f))

/-- VSWP (R124). -/
def execDrvVswp (at_ : Issue) (f : FmtV) (s : State) : Host.Outcome State Fault Refusal := .next (s.command at_ (.vswp f))

/-- VBC (R124). -/
def execDrvVbc (at_ : Issue) (f : FmtV) (s : State) : Host.Outcome State Fault Refusal := .next (s.command at_ (.vbc f))

/-- VMOV (R124). -/
def execDrvVmov (at_ : Issue) (f : FmtV) (s : State) : Host.Outcome State Fault Refusal := .next (s.command at_ (.vmov f))

/-- MOVXV (R124). -/
def execDrvMovxv (at_ : Issue) (f : FmtXV) (s : State) : Host.Outcome State Fault Refusal := .next (s.command at_ (.movxv f))

/-- MOVVX (R124). -/
def execDrvMovvx (at_ : Issue) (f : FmtXV) (s : State) : Host.Outcome State Fault Refusal := .next (s.command at_ (.movvx f))

/-- TAPPH (R127). -/
def execDrvTapph (at_ : Issue) (f : FmtT) (s : State) : Host.Outcome State Fault Refusal := .next (s.command at_ (.tapph f))

/-- TAPGN (R127). -/
def execDrvTapgn (at_ : Issue) (f : FmtT) (s : State) : Host.Outcome State Fault Refusal := .next (s.command at_ (.tapgn f))

/-- LDV (R128). -/
def execDrvLdv (at_ : Issue) (f : FmtL) (s : State) : Host.Outcome State Fault Refusal := .next (s.command at_ (.ldv f))

/-- STV (R128). -/
def execDrvStv (at_ : Issue) (f : FmtL) (s : State) : Host.Outcome State Fault Refusal := .next (s.command at_ (.stv f))

/-- STA (R128). -/
def execDrvSta (at_ : Issue) (f : FmtL) (s : State) : Host.Outcome State Fault Refusal := .next (s.command at_ (.sta f))

/-- STAS (R104). -/
def execDrvStas (at_ : Issue) (f : FmtL) (s : State) : Host.Outcome State Fault Refusal := .next (s.command at_ (.stas f))

/-- LDW (R101). -/
def execDrvLdw (at_ : Issue) (f : FmtW) (s : State) : Host.Outcome State Fault Refusal := .next (s.command at_ (.ldw f))

/-- STW (R101). -/
def execDrvStw (at_ : Issue) (f : FmtW) (s : State) : Host.Outcome State Fault Refusal := .next (s.command at_ (.stw f))

/-- LDWF (R112, R330): a port read over the matrix. -/
def execDrvLdwf (at_ : Issue) (f : FmtW) (s : State) : Host.Outcome State Fault Refusal := .next (s.command at_ (.ldwf f))

/-- STWF (R124, R330): a store over the matrix. -/
def execDrvStwf (at_ : Issue) (f : FmtW) (s : State) : Host.Outcome State Fault Refusal := .next (s.command at_ (.stwf f))

/-- ADD (R124). -/
def execDrvAdd (at_ : Issue) (f : FmtX) (s : State) : Host.Outcome State Fault Refusal := .next (s.command at_ (.add f))

/-- SUB (R124). -/
def execDrvSub (at_ : Issue) (f : FmtX) (s : State) : Host.Outcome State Fault Refusal := .next (s.command at_ (.sub f))

/-- AND (R124). -/
def execDrvAnd (at_ : Issue) (f : FmtX) (s : State) : Host.Outcome State Fault Refusal := .next (s.command at_ (.and_ f))

/-- OR (R124). -/
def execDrvOr (at_ : Issue) (f : FmtX) (s : State) : Host.Outcome State Fault Refusal := .next (s.command at_ (.or_ f))

/-- XOR (R124). -/
def execDrvXor (at_ : Issue) (f : FmtX) (s : State) : Host.Outcome State Fault Refusal := .next (s.command at_ (.xor f))

/-- SHL (R124). -/
def execDrvShl (at_ : Issue) (f : FmtX) (s : State) : Host.Outcome State Fault Refusal := .next (s.command at_ (.shl f))

/-- SHR (R124). -/
def execDrvShr (at_ : Issue) (f : FmtX) (s : State) : Host.Outcome State Fault Refusal := .next (s.command at_ (.shr f))

/-- SRA (R124). -/
def execDrvSra (at_ : Issue) (f : FmtX) (s : State) : Host.Outcome State Fault Refusal := .next (s.command at_ (.sra f))

/-- CMP (R124). -/
def execDrvCmp (at_ : Issue) (f : FmtX) (s : State) : Host.Outcome State Fault Refusal := .next (s.command at_ (.cmp f))

/-- MULX (R124). -/
def execDrvMulx (at_ : Issue) (f : FmtX) (s : State) : Host.Outcome State Fault Refusal := .next (s.command at_ (.mulx f))

/-- EXTU (R124). -/
def execDrvExtu (at_ : Issue) (f : FmtX) (s : State) : Host.Outcome State Fault Refusal := .next (s.command at_ (.extu f))

/-- EXTS (R124). -/
def execDrvExts (at_ : Issue) (f : FmtX) (s : State) : Host.Outcome State Fault Refusal := .next (s.command at_ (.exts f))

/-- ADDI (R124). -/
def execDrvAddi (at_ : Issue) (f : FmtW) (s : State) : Host.Outcome State Fault Refusal := .next (s.command at_ (.addi f))

/-- MOVI (R124). -/
def execDrvMovi (at_ : Issue) (f : FmtW) (s : State) : Host.Outcome State Fault Refusal := .next (s.command at_ (.movi f))

/-- MOVHI (R124). -/
def execDrvMovhi (at_ : Issue) (f : FmtW) (s : State) : Host.Outcome State Fault Refusal := .next (s.command at_ (.movhi f))

/-- AGSET (R130). -/
def execDrvAgset (at_ : Issue) (f : FmtS) (s : State) : Host.Outcome State Fault Refusal := .next (s.command at_ (.agset f))

/-- AGGET (R130). -/
def execDrvAgget (at_ : Issue) (f : FmtS) (s : State) : Host.Outcome State Fault Refusal := .next (s.command at_ (.agget f))

/-- MTS (R130). -/
def execDrvMts (at_ : Issue) (f : FmtS) (s : State) : Host.Outcome State Fault Refusal := .next (s.command at_ (.mts f))

/-- MFS (R130). -/
def execDrvMfs (at_ : Issue) (f : FmtS) (s : State) : Host.Outcome State Fault Refusal := .next (s.command at_ (.mfs f))

/-- SCSTEP (R105). -/
def execDrvScstep (at_ : Issue) (f : FmtS) (s : State) : Host.Outcome State Fault Refusal := .next (s.command at_ (.scstep f))

/-- BR (R129). -/
def execDrvBr (at_ : Issue) (f : FmtB) (s : State) : Host.Outcome State Fault Refusal := .next (s.command at_ (.br f))

/-- BRX (R129). -/
def execDrvBrx (at_ : Issue) (f : FmtB) (s : State) : Host.Outcome State Fault Refusal := .next (s.command at_ (.brx f))

/-- CALL (R129). -/
def execDrvCall (at_ : Issue) (f : FmtB) (s : State) : Host.Outcome State Fault Refusal := .next (s.command at_ (.call f))

/-- LOOP (R107). -/
def execDrvLoop (at_ : Issue) (f : FmtLP) (s : State) : Host.Outcome State Fault Refusal := .next (s.command at_ (.loop f))

/-- RETI (R114). -/
def execDrvReti (at_ : Issue) (f : FmtB) (s : State) : Host.Outcome State Fault Refusal := .next (s.command at_ (.reti f))

/-- TAKE (R109). -/
def execDrvTake (at_ : Issue) (f : FmtP) (s : State) : Host.Outcome State Fault Refusal := .next (s.command at_ (.take f))

/-- GIVE (R109, R134, R140). -/
def execDrvGive (at_ : Issue) (f : FmtP) (s : State) : Host.Outcome State Fault Refusal := .next (s.command at_ (.give f))

/-- DONE (R109). -/
def execDrvDone (at_ : Issue) (f : FmtP) (s : State) : Host.Outcome State Fault Refusal := .next (s.command at_ (.done f))

/-- TAPSET (R110). -/
def execDrvTapset (at_ : Issue) (f : FmtP) (s : State) : Host.Outcome State Fault Refusal := .next (s.command at_ (.tapset f))

/-- TAPRD (R110, R112). -/
def execDrvTaprd (at_ : Issue) (f : FmtP) (s : State) : Host.Outcome State Fault Refusal := .next (s.command at_ (.taprd f))

/-- ACCADD (R111). -/
def execDrvAccadd (at_ : Issue) (f : FmtP) (s : State) : Host.Outcome State Fault Refusal := .next (s.command at_ (.accadd f))

/-- ACCRC (R65, R111, R112). -/
def execDrvAccrc (at_ : Issue) (f : FmtP) (s : State) : Host.Outcome State Fault Refusal := .next (s.command at_ (.accrc f))

/-- CORE_RUN (R119). -/
def execCoreRun (core : Fin 32) (s : State) : Host.Outcome State Fault Refusal :=
  if s.gated 0 then .next s else
  .next ((s.setRun core.val true).runSteps 64)

/-- DRV_STEP (R117): a write of DRV_CTRL.STEP. -/
def execDrvStep (core : Fin 32) (s : State) : Host.Outcome State Fault Refusal := .next ((s.stepCore core.val).runSteps 64)

/-- PORT_READ_ARRIVAL (R112): the data of an outstanding read arrive. -/
def execPortReadArrival (core : Fin 32) (index : Fin 8) (s : State) : Host.Outcome State Fault Refusal :=
  if s.gated 0 then .next s else
  let c := core.val
  let x := s.core c
  .next (match x.reads[index.val]? with
    | none => s
    | some r => ((s.setCore c ({ x with reads := x.reads.eraseIdx index.val }.arrive r)).coreCopies c).runSteps 64)

end Sys2Proof.Machine
end

