-- ==== Sys2Proof/Machine/BusCmds.lean ====
section
/-! DEFINITION. REGISTER_WRITE, RAW_READ and RAW_WRITE (R14, R330, R331, R395). -/

namespace Sys2Proof.Machine

open Sys2Proof

/-- Does a master issue its access? None does in clock hold (R354), and the Bellwether none in safe stop (R317). -/
def State.mayAccess (s : State) (master : Nat) : Bool := !s.clk.held && (master ≠ mBellwether || (s.fwRuns && !s.gated 22))

/-- REGISTER_WRITE (R14, R330, R331): a write of the lanes named by a master. -/
def execRegisterWrite (master : Fin 12) (core : Fin 32) (addr word : BitVec 32) (lanes : BitVec 4) (t : Nat) (s : State) :
    Host.Outcome State Fault Refusal :=
  let s := s.atRaw t
  .next (if s.mayAccess master.val then (s.busWrite master.val core.val (addr.toNat / 4 * 4) word.toNat lanes.toNat).runSteps 64 else s)

/-- The words from an address up, as the Bellwether reads them. -/
def State.rawWords (s : State) (a : Nat) : Nat → List Byte × State
  | 0 => ([], s)
  | n + 1 =>
    let r := s.busRead mBellwether 0 (a % 2 ^ 32)
    let rest := State.rawWords r.2 (a + 4) n
    (leBytes 4 r.1 ++ rest.1, rest.2)

/-- Words written from an address up. -/
def State.rawPut (s : State) (a : Nat) : List (BitVec 32) → State
  | [] => s
  | w :: ws => State.rawPut (s.busWrite mBellwether 0 (a % 2 ^ 32) w.toNat 15) (a + 4) ws

/-- The statuses of RAW_READ and RAW_WRITE. -/
def rawStatus (a n : Nat) : Status := firstBad [countIn 1 256 n, badUnless (a % 4 = 0)]

/-- RAW_READ (R395): an RC counter read is cleared, and lost to its total (R309). -/
def execRawRead (h : Hdr) (addr : BitVec 32) (n : BitVec 16) (s : State) : Host.Outcome State Fault Refusal :=
  .next (s.receive h (op 0x0F02 1 0 .query) (fun s i => ⟨lenIs h 8, s.maint = some i, false, rawStatus addr.toNat n.toNat⟩)
    (fun s _ => let r := s.rawWords addr.toNat n.toNat; (r.2, some (.ok, r.1))))

/-- RAW_WRITE (R395): it takes effect as register writes. -/
def execRawWrite (h : Hdr) (addr : BitVec 32) (words : List (BitVec 32)) (s : State) : Host.Outcome State Fault Refusal :=
  .next (s.receive h (op 0x0F03 1 0 .other) (fun s i => ⟨lenIs h (8 + 4 * words.length), s.maint = some i, false, rawStatus addr.toNat words.length⟩)
    (fun s _ => ((s.rawPut addr.toNat words).runSteps 64, some (.ok, []))))

end Sys2Proof.Machine
end

