-- ==== Sys2Proof/Machine/EtherRows.lean ====
section
/-! DEFINITION. Frames received and sent by the Ethernet ports (12_ethernet.md R235–R248) and the time-stamps they take (13_time_and_streams.md
R253–R255). -/

namespace Sys2Proof.Machine

open Sys2Proof

/-! ### The DMA of a port, in beats of 32 bytes -/

/-- The bytes `[a, a + k)` of a beat at a spot. -/
def State.beatFrom (s : State) (m a k : Nat) : Spot → List Byte × State
  | .bad e => (List.replicate k 0#8, s.busError m 0 a false e)
  | .rom off => ((List.range k).map (fun i => Config.romByte (off + i)), s)
  | .mem key => (s.bytes key k, s)
  | .cast _ => (List.replicate k 0#8, s)
  | .reg r =>
    let b := r / 4 * 4
    let got := (List.range ((r + k + 3) / 4 - r / 4)).foldl (fun (p : List Byte × State) i =>
      let x := p.2.regRead (b + 4 * i)
      (p.1 ++ leBytes 4 x.1, x.2)) ([], s)
    ((got.1.drop (r - b)).take k, got.2)

/-- The bytes `[a, a + k)` of a beat as a master reads them, once the port grants it (R332). -/
def State.beatRead (s : State) (m a k : Nat) : List Byte × State :=
  match s.locate m a with
  | .bad e => (List.replicate k 0#8, s.busError m 0 a false e)
  | spot => (s.fabUse m a).beatFrom m a k spot

/-- `n` bytes from an address, in at most `fuel` beats. -/
def State.dmaRead (s : State) (m a n : Nat) : Nat → List Byte × State
  | 0 => ([], s)
  | fuel + 1 =>
    if n = 0 then ([], s)
    else
      let k := min n (32 - a % 32)
      let x := s.beatRead m a k
      let rest := State.dmaRead x.2 m ((a + k) % 2 ^ 32) (n - k) fuel
      (x.1 ++ rest.1, rest.2)

/-- Bytes of a beat written at a spot. -/
def State.beatTo (s : State) (m a : Nat) (bs : List Byte) : Spot → State
  | .bad e => s.busError m 0 a true e
  | .rom _ | .cast _ => s
  | .mem key =>
    if (0x20000000 ≤ key && key < 0x20500000) || (0x30800000 ≤ key && key < 0x30A00000 && s.on R.DRV_CL_CTRL_LOCK) then s
    else s.setBytes key bs
  | .reg r =>
    ((List.range bs.length).zip bs).foldl (fun s p =>
      let x := r + p.1
      s.regWrite (x / 4 * 4) (p.2.toNat * 2 ^ (8 * (x % 4))) (0xFF * 2 ^ (8 * (x % 4)))) s

/-- Bytes of a beat written by a master, once the port grants it (R332). -/
def State.beatWrite (s : State) (m a : Nat) (bs : List Byte) : State :=
  match s.locate m a with
  | .bad e => s.busError m 0 a true e
  | spot => (s.fabUse m a).beatTo m a bs spot

/-- Bytes written from an address up, in at most `fuel` beats. -/
def State.dmaWrite (s : State) (m a : Nat) (bs : List Byte) : Nat → State
  | 0 => s
  | fuel + 1 =>
    if bs = [] then s
    else
      let k := 32 - a % 32
      State.dmaWrite (s.beatWrite m a (bs.take k)) m ((a + k) % 2 ^ 32) (bs.drop k) fuel

def State.dmaWord (s : State) (m a : Nat) : Nat × State :=
  let x := s.dmaRead m a 4 2
  (ofLeBytes x.1, x.2)

def State.dmaPut (s : State) (m a w : Nat) : State := s.dmaWrite m a (leBytes 4 w) 2

/-- The master number of a port's DMA. -/
def macMaster (p : Nat) : Nat := 9 + p

/-! ### Fields of a frame -/

/-- A big-endian field of a frame, if the frame holds it. -/
def fieldAt (bs : List Byte) (off n : Nat) : Option Nat := if off + n ≤ bs.length then some (ofBeBytes ((bs.drop off).take n)) else none

/-- Is a frame tagged, with TPID 0x8100 after the source address (R237)? -/
def tagged (bs : List Byte) : Bool := fieldAt bs 12 2 = some 0x8100 && 16 ≤ bs.length

def tciOf (bs : List Byte) : Nat := if tagged bs then (fieldAt bs 14 2).getD 0 else 0

/-- Where the EtherType stands, after any tag. -/
def typeAt (bs : List Byte) : Nat := if tagged bs then 16 else 12

def etherType (bs : List Byte) : Option Nat := fieldAt bs (typeAt bs) 2

/-- Where the UDP header of an IPv4 frame that is no fragment stands (R240). -/
def udpAt (bs : List Byte) : Option Nat :=
  let ip := typeAt bs + 2
  if etherType bs ≠ some 0x0800 then none
  else match fieldAt bs ip 1, fieldAt bs (ip + 6) 2, fieldAt bs (ip + 9) 1 with
    | some v, some fr, some pr => if v / 16 = 4 && 5 ≤ v % 16 && fr % 0x4000 = 0 && pr = 17 then some (ip + 4 * (v % 16)) else none
    | _, _, _ => none

/-- The UDP destination port. -/
def udpPort (bs : List Byte) : Option Nat := (udpAt bs).bind (fun u => fieldAt bs (u + 2) 2)

/-- A group address: the low bit of the first byte. -/
def isGroup (bs : List Byte) : Bool := (bs.headD 0#8).toNat % 2 = 1

/-! ### Filters (R239, R240) -/

/-- The destination address as MAC_ADDR and MAC_MC hold it, byte 0 lowest. -/
def destOf (bs : List Byte) : Nat := ofLeBytes (bs.take 6)

def State.acceptsAddr (s : State) (p : Nat) (bs : List Byte) : Bool :=
  let d := destOf bs
  let own := s.rd (R.MAC_ADDR_LO_ADDR p) + 2 ^ 32 * s.rd (R.MAC_ADDR_HI_ADDR p)
  decide (6 ≤ bs.length) &&
    (d = own || d = 0xFFFFFFFFFFFF || s.on (R.MAC_CTRL_PROMISC p) || (isGroup bs && s.on (R.MAC_CTRL_MC_ALL p)) ||
      (List.range 128).any (fun i => s.on (R.MAC_MC_W1_EN p i) && d = s.rd (R.MAC_MC_W0_ADDR_LO p i) + 2 ^ 32 * s.rd (R.MAC_MC_W1_ADDR_HI p i)))

/-- Does steering filter `f` match? -/
def State.filterMatch (s : State) (p f : Nat) (bs : List Byte) : Bool :=
  let tag := match s.rd (R.MAC_FLT_W0_TAG p f) with
    | 0 => true
    | 1 => !tagged bs
    | 2 => tagged bs
    | _ => tagged bs && tciOf bs % 4096 = s.rd (R.MAC_FLT_W0_VID p f)
  s.on (R.MAC_FLT_W0_EN p f) && tag &&
    (!s.on (R.MAC_FLT_W1_ETYPE_EN p f) || etherType bs = some (s.rd (R.MAC_FLT_W0_ETYPE p f))) &&
    (!s.on (R.MAC_FLT_W1_UDP_EN p f) || udpPort bs = some (s.rd (R.MAC_FLT_W1_DPORT p f)))

/-- Where a frame goes: dropped, or a ring with the number its descriptors show. -/
def State.steer (s : State) (p : Nat) (bs : List Byte) : Option (Nat × Nat) :=
  match (List.range 32).find? (fun f => s.filterMatch p f bs) with
  | some f => if s.on (R.MAC_FLT_W0_DROP p f) then none else some (s.rd (R.MAC_FLT_W2_RING p f), f)
  | none => if s.on (R.MAC_RX_DEFAULT_DROP p) then none else some (s.rd (R.MAC_RX_DEFAULT_RING p), 31)

/-! ### Receive rings (R241–R245) -/

/-- MAXLEN in force. -/
def State.maxlen (s : State) (p : Nat) : Nat := clampN 64 9600 (s.rd (R.MAC_MAXLEN_MAXLEN p))

/-- The address of descriptor `i` of a receive ring, and of a transmit queue. -/
def State.rxDesc (s : State) (p r i : Nat) : Nat := (s.rd (R.MAC_RING_W0_BASE p r) + 32 * i) % 2 ^ 32
def State.txDesc (s : State) (p q i : Nat) : Nat := (s.rd (R.MAC_TXQ_W0_BASE p q) + 16 * i) % 2 ^ 32

/-- The size of a buffer in bytes; BUF_SIZE below 2 acts as 2. -/
def State.bufBytes (s : State) (p r : Nat) : Nat := 64 * max 2 (s.rd (R.MAC_RING_W2_BUF_SIZE p r))

/-- A descriptor filled: its address, and the bytes its buffer took. -/
abbrev Filled := List (Nat × Nat)

/-- The buffers of a frame are filled in ring order (R242); `none` when a descriptor is not available. -/
def State.fillBufs (s : State) (p r : Nat) (bs : List Byte) (got : Filled) : Nat → State × Filled × Bool
  | 0 => (s, got, false)
  | fuel + 1 =>
    let size := s.rd (R.MAC_RING_W1_SIZE p r)
    let head := s.rd (R.MAC_RING_W3_HEAD p r)
    if size = 0 then (s, got, false)
    else
      let a := s.rxDesc p r head
      let w0 := s.dmaWord (macMaster p) a
      let w1 := w0.2.dmaWord (macMaster p) ((a + 4) % 2 ^ 32)
      let s := w1.2
      if !bitOf w1.1 31 then (s, got, false)
      else
        let n := s.bufBytes p r
        let s := (s.dmaWrite (macMaster p) w0.1 (bs.take n) 600).wr (R.MAC_RING_W3_HEAD p r) ((head + 1) % size)
        let got := got ++ [(a, (bs.take n).length)]
        if bs.length ≤ n then (s, got, true) else State.fillBufs s p r (bs.drop n) got fuel

/-- A descriptor is written back; OWN is cleared last, with the flags of its word 1. -/
def State.giveBack (s : State) (p a w1 w2 seq : Nat) (ts : Option Nat) : State :=
  let m := macMaster p
  let s := (s.dmaPut m ((a + 8) % 2 ^ 32) w2).dmaPut m ((a + 12) % 2 ^ 32) seq
  let s := match ts with
    | some t => s.dmaWrite m ((a + 16) % 2 ^ 32) (leBytes 8 t) 2
    | none => s
  s.dmaPut m ((a + 4) % 2 ^ 32) w1

/-- What the descriptors of a frame say of it: TRUNC, FCS, RUNT, ALIGN, PHYERR, VLAN, MC, FILTER; its TCI, number and time-stamp. -/
structure RxInfo where
  flags : Nat
  tci   : Nat
  seq   : Nat
  ts    : Nat
  deriving DecidableEq, Repr

/-- All descriptors of a delivered frame return, the last first; the time-stamp is taken while the time unit is enabled (DEDUCED, log entry 113). -/
def State.giveFrame (s : State) (p : Nat) (ds : Filled) (len : Nat) (x : RxInfo) : State :=
  let n := ds.length
  ((List.range n).zip ds).reverse.foldl (fun s d =>
    let first := d.1 = 0
    let last := d.1 + 1 = n
    s.giveBack p d.2.1 (b2n first * 2 ^ 30 + b2n last * 2 ^ 29 + x.flags + d.2.2) (x.tci * 65536 + (if last then len else 0)) x.seq
      (if first && s.on R.TSU_CTRL_ENABLE then some x.ts else none)) s

/-- The descriptors of a frame dropped for want of buffers return DISCARDED, in ring order (R243). -/
def State.giveDiscarded (s : State) (p r : Nat) (ds : Filled) (seq : Nat) : State :=
  let s := ds.foldl (fun s d => s.giveBack p d.1 (2 ^ 28) 0 seq none) s
  ((s.count (R.MAC_CNT_RX_DISCARD_DESC_VALUE p) ds.length).bump (R.MAC_CNT_RX_NOBUF_VALUE p)).bump (R.MAC_RING_W5_NOBUF p r)

/-- The raw time of a capture, on receive and on transmit (R253); `cap` is in units of 0.125 ns. -/
def State.rxStamp (s : State) (p cap : Nat) : Nat := (rheDiv ((2 * cap : Nat) - (s.rd (R.TSU_LAT_RX_L_RX p) : Int)) 32 % (2 ^ 64 : Nat)).toNat
def State.txStamp (s : State) (p cap : Nat) : Nat := rheDivNat (2 * cap + s.rd (R.TSU_LAT_TX_L_TX p)) 32 % 2 ^ 64

/-- The FCS of a frame's bytes: the CRC-32 of IEEE 802.3, its low byte first (PRESUMED, log entry 114). -/
def fcsOf (bs : List Byte) : List Byte := leBytes 4 (crc32 bs).toNat

/-- Does the FCS that a frame carries fit its bytes (R236)? -/
def fcsGood (bs : List Byte) : Bool := 4 ≤ bs.length && bs.drop (bs.length - 4) = fcsOf (bs.take (bs.length - 4))

/-- What is wrong with a frame as received: FCS error, runt, alignment error, PHY error (R236). -/
structure RxBad where
  fcs   : Bool
  runt  : Bool
  align : Bool
  phy   : Bool
  deriving DecidableEq, Repr

/-- Is anything wrong with it? -/
def RxBad.any (x : RxBad) : Bool := x.fcs || x.runt || x.align || x.phy

/-- An accepted frame goes to its ring (R236, R237, R242–R245) (DEDUCED, log entry 61). -/
def State.toRing (s : State) (p r f : Nat) (bs : List Byte) (err : RxBad) (long : Bool) (seq ts : Nat) : State :=
  let bad := RxBad.any err
  if bad && !s.on (R.MAC_RING_W1_ERR_DELIVER p r) then s.bump (R.MAC_CNT_RX_ERR_DROP_VALUE p)
  else if !s.on (R.MAC_RING_W1_EN p r) then s.giveDiscarded p r [] seq
  else
    let strip := s.on (R.MAC_RING_W1_STRIP_VLAN p r) && tagged bs
    let cut := bs.take (s.maxlen p)
    let body := if !bad && !long && s.on (R.MAC_CTRL_STRIP_FCS p) then cut.take (cut.length - 4) else cut
    let out := if strip then body.take 12 ++ body.drop 16 else body
    let got := s.fillBufs p r out [] (out.length / 128 + 1)
    if !got.2.2 then got.1.giveDiscarded p r got.2.1 seq
    else
      let flags := b2n long * 2 ^ 27 + b2n err.fcs * 2 ^ 26 + b2n err.runt * 2 ^ 25 + b2n err.align * 2 ^ 24 + b2n err.phy * 2 ^ 23 +
        b2n strip * 2 ^ 22 + b2n (isGroup bs) * 2 ^ 21 + f * 2 ^ 16
      let s := got.1.giveFrame p got.2.1 out.length ⟨flags, if strip then tciOf bs else 0, seq, ts⟩
      let s := (s.bump (R.MAC_RING_W4_FRAMES p r)).when long (·.bump (R.MAC_CNT_RX_TRUNC_VALUE p))
      if bad then s.bump (R.MAC_CNT_RX_ERR_DELIVERED_VALUE p)
      else (s.bump (R.MAC_CNT_RX_OK_VALUE p)).setMac p { s.mac p with rxOct := (s.mac p).rxOct + bs.length }

/-- A MAC control frame is consumed; PAUSE without an error is honoured with RX_PAUSE set (R235) (DEDUCED, log entry 61). -/
def State.controlFrame (s : State) (p : Nat) (bs : List Byte) (bad : Bool) : State :=
  let s := s.bump (R.MAC_CNT_RX_PAUSE_VALUE p)
  match fieldAt bs 14 2, fieldAt bs 16 2 with
  | some 1, some q =>
    if s.on (R.MAC_CTRL_RX_PAUSE p) && !bad then
      (s.count (R.MAC_CNT_TX_PAUSED_VALUE p) q).setMac p { s.mac p with paused := s.tm.raw + ceilDiv (q * s.quantum p) 10 }
    else s
  | _, _ => s

/-- What is wrong with a frame: its FCS is checked over the whole frame; alignment errors exist at 10 and 100 Mb/s of MACM alone (R236). -/
def State.rxFaults (s : State) (p : Nat) (bs : List Byte) (err : RxErrors) : RxBad :=
  ⟨!fcsGood bs, decide (bs.length < 64), err.align && p = 2 && s.rd (R.MAC_STATUS_SPEED p) ≠ 0, err.phy⟩

/-- RX_FRAME (R236–R245): `bytes` run from the destination address to the FCS; `cap` is the instant of the port's capture point in units of 0.125 ns. -/
def execRxFrame (mac : Fin 3) (bytes : List Byte) (err : RxErrors) (cap : Nat) (t : Nat) (s : State) : Host.Outcome State Fault Refusal :=
  let s := s.atRaw t
  let p := mac.val
  .next (if !s.on (R.MAC_CTRL_RX_EN p) || s.gated (12 + p) then s
    else
      let long : Bool := decide (s.maxlen p < bytes.length)
      let x := s.rxFaults p bytes err
      let seq := (s.mac p).seq
      let s := (s.setMac p { s.mac p with seq := (seq + 1) % 2 ^ 32 }).bump (R.MAC_CNT_RX_ALL_VALUE p)
      let s := (s.when x.fcs (·.bump (R.MAC_CNT_RX_FCS_VALUE p))).when x.runt (·.bump (R.MAC_CNT_RX_RUNT_VALUE p))
      let s := (s.when x.align (·.bump (R.MAC_CNT_RX_ALIGN_VALUE p))).when x.phy (·.bump (R.MAC_CNT_RX_PHYERR_VALUE p))
      let s := s.when long (·.bump (R.MAC_CNT_RX_OVERSIZE_VALUE p))
      if fieldAt bytes 12 2 = some 0x8808 then s.controlFrame p bytes (RxBad.any x)
      else if !s.acceptsAddr p bytes then s.bump (R.MAC_CNT_RX_ADDR_DROP_VALUE p)
      else
        let s := s.when (isGroup bytes) (·.bump (R.MAC_CNT_RX_MCAST_VALUE p))
        match s.steer p bytes with
        | none => s.bump (R.MAC_CNT_RX_FILT_DROP_VALUE p)
        | some (r, f) => s.toRing p r f bytes x long seq (s.rxStamp p cap))

/-! ### Transmit (R238, R246–R248) -/

/-- The frame at the head of a queue: not ready, ready with its number of descriptors, or one that is refused. -/
inductive Ready where
  | no
  | frame (n : Nat)
  | bad (n : Nat)
  deriving DecidableEq, Repr

/-- Words 1 of up to 16 descriptors from HEAD that lie before TAIL (DEDUCED, log entry 62). -/
def State.headWords (s : State) (p q i : Nat) : Nat → List Nat × State
  | 0 => ([], s)
  | n + 1 =>
    if (s.rd (R.MAC_TXQ_W3_HEAD p q) + i) % max 1 (s.rd (R.MAC_TXQ_W1_SIZE p q)) = s.rd (R.MAC_TXQ_W2_TAIL p q) then ([], s)
    else
      let w := s.dmaWord (macMaster p) ((s.txDesc p q ((s.rd (R.MAC_TXQ_W3_HEAD p q) + i) % max 1 (s.rd (R.MAC_TXQ_W1_SIZE p q))) + 4) % 2 ^ 32)
      let rest := State.headWords w.2 p q (i + 1) n
      (w.1 :: rest.1, rest.2)

/-- Is the frame at the head ready (R246, R247)? -/
def readyOf (ws : List Nat) : Ready :=
  let n := ws.findIdx (fun w => bitOf w 29) + 1
  if n ≤ ws.length then
    (if (ws.take n).all (fun w => bitOf w 31) then (if ((ws.take n).map (fun w => w % 16384)).sum = 0 then .bad n else .frame n) else .no)
  else if 16 ≤ ws.length && ws.all (fun w => bitOf w 31) then .bad 16
  else .no

/-- Queues of a port. -/
def txQueues (p : Nat) : Nat := if p = 2 then 2 else 8

/-- Does the head of a queue hold anything the port may take? A queue with no descriptors holds nothing. -/
def State.queueReady (s : State) (p q : Nat) : Ready × State :=
  if !s.on (R.MAC_TXQ_W1_EN p q) || s.rd (R.MAC_TXQ_W1_SIZE p q) = 0 then (.no, s)
  else
    let x := s.headWords p q 0 16
    (readyOf x.1, x.2)

/-- HEAD moves past descriptors. -/
def State.passHead (s : State) (p q n : Nat) : State :=
  s.wr (R.MAC_TXQ_W3_HEAD p q) ((s.rd (R.MAC_TXQ_W3_HEAD p q) + n) % max 1 (s.rd (R.MAC_TXQ_W1_SIZE p q)))

/-- Descriptors return in ring order with OWN cleared and a bit of word 1 set, if any (R247, R248). -/
def State.giveTx (s : State) (p q first n set : Nat) : State :=
  (List.range n).foldl (fun s i =>
    let a := (s.txDesc p q ((first + i) % max 1 (s.rd (R.MAC_TXQ_W1_SIZE p q))) + 4) % 2 ^ 32
    let w := s.dmaWord (macMaster p) a
    w.2.dmaPut (macMaster p) a ((w.1 % 2 ^ 31) ||| set)) s

/-- The bytes of a frame's buffers. -/
def State.gather (s : State) (p q : Nat) (i : Nat) : Nat → List Byte × State
  | 0 => ([], s)
  | n + 1 =>
    let m := macMaster p
    let a := s.txDesc p q ((s.rd (R.MAC_TXQ_W3_HEAD p q) + i) % max 1 (s.rd (R.MAC_TXQ_W1_SIZE p q)))
    let w0 := s.dmaWord m a
    let w1 := w0.2.dmaWord m ((a + 4) % 2 ^ 32)
    let b := w1.2.dmaRead m w0.1 (w1.1 % 16384) 600
    let rest := State.gather b.2 p q (i + 1) n
    (b.1 ++ rest.1, rest.2)

/-- A frame padded to 60 bytes, with its tag (R238). -/
def dressed (bs : List Byte) (tci : Option Nat) : List Byte :=
  let b := bs ++ List.replicate (60 - bs.length) 0#8
  match tci with
  | some t => b.take 12 ++ [0x81#8, 0x00#8] ++ beBytes 2 t ++ b.drop 12
  | none => b

/-! ### One-step insertion (R254) -/

/-- Where the PTP message of a frame starts, and its UDP header if it has one. -/
def ptpAt (bs : List Byte) : Option (Nat × Option Nat) :=
  if etherType bs = some 0x88F7 then some (typeAt bs + 2, none)
  else match udpAt bs with
    | some u => if udpPort bs = some 319 then some (u + 8, some u) else none
    | none => none

/-- Bytes of a frame replaced. -/
def splice (bs : List Byte) (off : Nat) (new : List Byte) : List Byte := bs.take off ++ new ++ bs.drop (off + new.length)

/-- One's-complement sum of the 16-bit words of some bytes, taken big-endian. -/
def onesSum : List Byte → Nat
  | [] => 0
  | [a] => a.toNat * 256
  | a :: b :: rest => a.toNat * 256 + b.toNat + onesSum rest

/-- Carries folded in. -/
def fold16 (n : Nat) : Nat :=
  let a := n % 65536 + n / 65536
  let b := a % 65536 + a / 65536
  b % 65536 + b / 65536

/-- The UDP checksum updated for bytes that changed; zero stays zero, and a result of zero is sent as 0xFFFF. -/
def fixChecksum (bs : List Byte) (udp : Option Nat) (old new : List Byte) : List Byte :=
  match udp with
  | none => bs
  | some u =>
    match fieldAt bs (u + 6) 2 with
    | none | some 0 => bs
    | some c =>
      let flip := old.map (fun b => ~~~ b)
      let r := 65535 - fold16 ((65535 - c) + onesSum flip + onesSum new)
      splice bs (u + 6) (beBytes 2 (if r = 0 then 65535 else r))

/-- The frame with its time-stamp inserted; `none` when it is sent unchanged and counted. `c` is C_tx. -/
def oneStep (bs : List Byte) (c : Nat) : Option (List Byte) :=
  match ptpAt bs with
  | none => none
  | some (m, udp) =>
    let put (off : Nat) (new : List Byte) : Option (List Byte) :=
      if bs.length < m + off + new.length then none
      else some (fixChecksum (splice bs (m + off) new) udp ((bs.drop (m + off)).take new.length) new)
    match fieldAt bs m 1 with
    | none => none
    | some t =>
      if t % 16 = 0 then put 34 (beBytes 6 (c / 500000000) ++ beBytes 4 (c % 500000000 * 2))
      else if t % 16 = 3 then match fieldAt bs (m + 8) 8 with
        | some f => put 8 (beBytes 8 ((f + 2 * c * 65536) % 2 ^ 64))
        | none => none
      else none

/-! ### The rows -/

/-- The frame at the head of a queue starts, or is refused (R238, R247, R254). -/
def State.startFrame (s : State) (p q n cap : Nat) : State :=
  let m := macMaster p
  let head := s.rd (R.MAC_TXQ_W3_HEAD p q)
  let a := s.txDesc p q head
  let w1 := s.dmaWord m ((a + 4) % 2 ^ 32)
  let w2 := w1.2.dmaWord m ((a + 8) % 2 ^ 32)
  let body := w2.2.gather p q 0 n
  let s := body.2.passHead p q n
  let frame := dressed body.1 (if bitOf w1.1 28 then some (w2.1 / 65536) else none)
  if s.maxlen p < frame.length + 4 then (s.giveTx p q head n (2 ^ 25)).bump (R.MAC_CNT_TX_BADDESC_VALUE p)
  else
    let raw := s.txStamp p cap
    let one := bitOf w1.1 26
    let sent := if one then oneStep frame (s.tm.corrected raw) else some frame
    let s := s.when sent.isNone (·.bump R.TSU_CNT_1STEP_BAD_COUNT)
    s.setMac p { s.mac p with tx := some ⟨some q, head, n, sent.getD frame, bitOf w1.1 27 && !one, w2.1 % 256, raw, false⟩ }

/-- Queues of a port whose heads hold a frame, highest first. -/
def State.readyQueues (s : State) (p : Nat) : List (Nat × Ready) × State :=
  (List.range (txQueues p)).foldl (fun (acc : List (Nat × Ready) × State) q =>
    let x := acc.2.queueReady p q
    (if x.1 = .no then acc.1 else (q, x.1) :: acc.1, x.2)) ([], s)

/-- With the link down, the ready frame at the head of a queue with FLUSH_DOWN is discarded (R248). -/
def State.flushQueue (s : State) (p q : Nat) : Nat → State
  | 0 => s
  | fuel + 1 =>
    if !s.on (R.MAC_TXQ_W1_FLUSH_DOWN p q) then s
    else
      let x := s.queueReady p q
      match x.1 with
      | .frame n =>
        let head := x.2.rd (R.MAC_TXQ_W3_HEAD p q)
        State.flushQueue (((x.2.passHead p q n).giveTx p q head n (2 ^ 24)).bump (R.MAC_CNT_TX_DOWN_DROP_VALUE p)) p q fuel
      | _ => x.2

/-- The stream engine's packets wait for a port; with the link down they are discarded (R248, R267). -/
def State.flushStreams (s : State) (p : Nat) : State :=
  (s.count (R.MAC_CNT_TX_DOWN_DROP_VALUE p) (s.mac p).strq.length).setMac p { s.mac p with strq := [] }

/-- The head of a queue is taken: its frame starts, or is refused (DEDUCED, log entry 62). -/
def State.startHead (s : State) (p q : Nat) (k : Ready) (cap : Nat) : State :=
  match k with
  | .no => s
  | .bad n => ((s.passHead p q n).giveTx p q (s.rd (R.MAC_TXQ_W3_HEAD p q)) n (2 ^ 25)).bump (R.MAC_CNT_TX_BADDESC_VALUE p)
  | .frame n => s.startFrame p q n cap

/-- A stream packet starts. -/
def State.startStream (s : State) (p : Nat) (b : List Byte) (bs : List (List Byte)) (cap : Nat) : State :=
  s.setMac p { s.mac p with strq := bs, tx := some ⟨none, 0, 0, b, false, 0, s.txStamp p cap, false⟩ }

/-- The next frame of a port with its link up. -/
def State.nextFrame (s : State) (p cap : Nat) : State :=
  let x := s.readyQueues p
  let s := x.2
  let m := s.mac p
  let strNo := Config.strQueue p % txQueues p
  match m.strq with
  | b :: bs =>
    match x.1 with
    | (q, k) :: _ => if strNo < q then s.startHead p q k cap else s.startStream p b bs cap
    | [] => s.startStream p b bs cap
  | [] =>
    match x.1 with
    | (q, k) :: _ => s.startHead p q k cap
    | [] => s

/-- The frame on its way out is over: `set` is the bit its descriptors return with. -/
def State.endFrame (s : State) (p set : Nat) : State :=
  match (s.mac p).tx with
  | none => s
  | some f =>
    let s := s.setMac p { s.mac p with tx := none }
    match f.queue with
    | some q => s.giveTx p q f.first f.descs set
    | none => s

/-- A frame in progress when the link failed is lost (R248). -/
def State.dropLost (s : State) (p : Nat) : State :=
  match (s.mac p).tx with
  | some f => if f.lost then (s.endFrame p (2 ^ 24)).bump (R.MAC_CNT_TX_DOWN_DROP_VALUE p) else s
  | none => s

/-- What a frame puts on the wire: the FCS after its bytes, inverted when its data did not come in time (R238, R247). -/
def onWire (bs : List Byte) (underrun : Bool) : List Byte :=
  bs ++ (if underrun then (fcsOf bs).map (fun b => ~~~ b) else fcsOf bs)

/-- TX_FRAME_START (R246–R248): a frame boundary of the port. `cap` is the capture instant in units of 0.125 ns. -/
def execTxFrameStart (mac : Fin 3) (cap : Nat) (t : Nat) (s : State) : Host.Outcome State Fault Refusal :=
  let s := s.atRaw t
  let p := mac.val
  .next (if s.gated (12 + p) then s
    else
    let s := s.dropLost p
    if (s.mac p).tx.isSome then s
    else if !s.on (R.MAC_STATUS_LINK p) then
      (List.range (txQueues p)).foldl (fun s q => s.flushQueue p q 4096) (s.flushStreams p)
    else if !s.on (R.MAC_CTRL_TX_EN p) || s.isPaused p then s
    else s.nextFrame p cap)

/-- TX_FRAME_END (R247, R255): the frame has left, or ended with an inverted FCS when its data did not come in time. -/
def execTxFrameEnd (mac : Fin 3) (underrun : Bool) (s : State) : Host.Outcome State Fault Refusal :=
  if s.gated (12 + mac.val) then .next s else
  let p := mac.val
  let s := s.dropLost p
  .next (match (s.mac p).tx with
    | none => s
    | some f =>
      let w := onWire f.bytes underrun
      let s := s.endFrame p (if underrun then 2 ^ 25 else 0)
      let s := s.setMac p { s.mac p with wire := w }
      if underrun then s.bump (R.MAC_CNT_TX_UNDERRUN_VALUE p)
      else
        let s := (s.bump (R.MAC_CNT_TX_OK_VALUE p)).setMac p { s.mac p with txOct := (s.mac p).txOct + w.length }
        if f.tsReq then s.pushStamp p ⟨f.raw, f.tag, f.queue.getD 0⟩ else s)

/-- LINK_CHANGE (R234): the lane or the pins changed; LINK follows. -/
def execLinkChange (mac : Fin 3) (link : LinkState) (s : State) : Host.Outcome State Fault Refusal :=
  let p := mac.val
  .next (if s.gated (12 + p) then s else ((s.setLane p link).relink p).dropLost p)

end Sys2Proof.Machine
end

