-- ==== Sys2Proof/Machine/StreamRows.lean ====
section
/-! DEFINITION. The stream engine: packets received, assembled and presented, legs that fall silent, packets built and queued (13_time_and_streams.md
R262–R268). -/

namespace Sys2Proof.Machine

open Sys2Proof

/-! ### Contexts -/

/-- A receive context that has received nothing. -/
def strxReset : StrRx := { lastSeq := none, validAt := none, pos := [] }

def State.strx (s : State) (c : Nat) : StrRx := s.srx.get strxReset c
def State.setStrx (s : State) (c : Nat) (x : StrRx) : State := { s with srx := s.srx.set strxReset c x }

def State.rxChans (s : State) (c : Nat) : Nat := s.rd (R.STR_RX_W0_CH_M1 c) + 1
def State.rxPtime (s : State) (c : Nat) : Nat := if s.on (R.STR_RX_W0_PTIME c) then 48 else 16

/-- The context whose positions a context fills: the one that names it as its partner, else itself (R266). -/
def State.headOf (s : State) (c : Nat) : Nat :=
  ((List.range 128).find? (fun h => s.on (R.STR_RX_W0_EN h) && s.on (R.STR_RX_W0_PAIR_EN h) && s.rd (R.STR_RX_W0_PAIR h) = c)).getD c

/-- The counters of a context, in the order of R270. -/
def rxPkts : Nat := 0
def rxUsed : Nat := 1
def rxLost : Nat := 2
def rxLate : Nat := 3
def rxEarly : Nat := 4
def rxBad : Nat := 5
def rxDup : Nat := 6
def rxIncomplete : Nat := 7

/-- A counter of a context rises; LOST, LATE, EARLY, BAD, DUP and INCOMPLETE set ERR (R270). -/
def State.rxCount (s : State) (c j n : Nat) : State :=
  (s.count (R.STR_RX_CNT_COUNT c j) n).when (n ≠ 0 && 2 ≤ j) (·.flag (R.STR_RX_STATUS_ERR c))

/-! ### Presenting (R265) -/

/-- Are all 32 sample positions of block `l` filled? -/
def StrRx.full (x : StrRx) (l : Nat) : Bool := (List.range 32).all (fun j => x.pos.get [] (32 * l + j) ≠ [])

/-- A context presents the tiles of block `l`, channel by channel. -/
def State.presentStream (s : State) (h l : Nat) : State :=
  let x := s.strx h
  (List.range (s.rxChans h)).foldl (fun s ch =>
    s.present (64 * h + ch) (l % 65536) ((List.range 32).map (fun j => (x.pos.get [] (32 * l + j)).getD ch 0)) false false) s

/-- Does the stream engine work? -/
def State.streamsRun (s : State) : Bool := s.on R.STR_CTRL_ENABLE && !s.gated 16

/-- Receive contexts that assemble: enabled, and no other's partner. -/
def State.rxHeads (s : State) : List Nat := (List.range 128).filter (fun c => s.on (R.STR_RX_W0_EN c) && s.headOf c = c)

/-- The landing window of block `l` opens: what is complete is presented (R265). -/
def State.streamWindow (s : State) (l : Nat) : State :=
  if !s.streamsRun || !s.locked then s
  else s.rxHeads.foldl (fun s h => if (s.strx h).full l then s.presentStream h l else s) s

/-- The landing deadline of block `l`: a context whose positions are not all filled counts INCOMPLETE, and positions up to the block are gone
(DEDUCED, log entry 69). -/
def State.streamDeadline (s : State) (l : Nat) : State :=
  if !s.streamsRun then s
  else
    let s := if s.locked && decide (s.tm.firstLocked ≤ l) then
        s.rxHeads.foldl (fun s h => if (s.strx h).full l then s else s.rxCount h rxIncomplete 1) s
      else s
    { s with srx := s.srx.map (fun p => (p.1, { p.2 with pos := p.2.pos.filter (fun q => 32 * (l + 1) ≤ q.1) })) }

/-! ### A packet (R263, R264) -/

/-- An RTP packet of version 2 with CSRCs, header extension and padding removed. -/
structure RtpPkt where
  pt   : Nat
  seq  : Nat
  ts   : Nat
  ssrc : Nat
  load : List Byte
  deriving DecidableEq, Repr

/-- A field of a packet; 0 where it is too short. -/
def be (bs : List Byte) (off n : Nat) : Nat := (fieldAt bs off n).getD 0

def parseRtp (bs : List Byte) : Option RtpPkt :=
  let b0 := be bs 0 1
  let hdr := 12 + 4 * (b0 % 16)
  let hdr := if bitOf b0 4 then hdr + 4 + 4 * be bs (hdr + 2) 2 else hdr
  let pad := if bitOf b0 5 then (bs.getLastD 0#8).toNat else 0
  if bs.length < hdr + pad || b0 / 64 ≠ 2 || (bitOf b0 5 && pad = 0) then none
  else some ⟨be bs 1 1 % 128, be bs 2 2, be bs 4 4, be bs 8 4, (bs.drop hdr).take (bs.length - hdr - pad)⟩

/-- The context a frame matches (R263): MAC, destination address and port, source address with SRC_EN (DEDUCED, log entry 70). -/
def State.matchCtx (s : State) (p : Nat) (bs : List Byte) (u : Nat) : Option Nat :=
  let ip := typeAt bs + 2
  (List.range 128).find? (fun c => s.on (R.STR_RX_W0_EN c) && s.rd (R.STR_RX_W0_MAC c) = p && fieldAt bs (ip + 16) 4 = some (s.rd (R.STR_RX_W1_DST c)) &&
    fieldAt bs (u + 2) 2 = some (s.rd (R.STR_RX_W3_DPORT c)) && (!s.on (R.STR_RX_W0_SRC_EN c) || fieldAt bs (ip + 12) 4 = some (s.rd (R.STR_RX_W2_SRC c))))

/-- The packet a frame carries to a context, if it passes the checks of R263. -/
def State.rtpFor (s : State) (c : Nat) (bs : List Byte) (u : Nat) : Option RtpPkt :=
  let n := be bs (u + 4) 2
  if n < 8 || bs.length < u + n then none
  else match parseRtp ((bs.drop (u + 8)).take (n - 8)) with
    | none => none
    | some k =>
      if k.pt = s.rd (R.STR_RX_W0_PT c) && (!s.on (R.STR_RX_W0_SSRC_EN c) || k.ssrc = s.rd (R.STR_RX_W4_SSRC c)) &&
          k.load.length = s.rxChans c * s.rxPtime c * (if s.on (R.STR_RX_W0_FMT c) then 2 else 3)
      then some k else none

/-- A sample of a packet (R8, R262). -/
def sampleIn (l16 : Bool) (bs : List Byte) : Int := if l16 then 4 * signedOf 16 (ofBeBytes bs) else signedOf 24 (ofBeBytes bs) / 64

/-- The samples of a packet, one list of channels per sample instant. -/
def instants (l16 : Bool) (chans ptime : Nat) (bs : List Byte) : List (List Int) :=
  let w := if l16 then 2 else 3
  (List.range ptime).map (fun i => (List.range chans).map (fun ch => sampleIn l16 ((bs.drop ((i * chans + ch) * w)).take w)))

/-- r0 of R264. -/
def mediaBase (r ts ofs : Nat) : Int :=
  let d := (((ts : Int) - ofs - r) % (2 ^ 32 : Nat)).toNat
  if d < 2 ^ 31 then (r : Int) + d else (r : Int) + d - (2 ^ 32 : Nat)

/-- The samples of a packet that lie in the 64 blocks from L on, with their media indices. -/
def inAssembly (l : Nat) (r0 : Int) (xs : List (List Int)) : List (Nat × List Int) :=
  (((List.range xs.length).zip xs).map (fun p => (r0 + p.1, p.2))).filterMap (fun (p : Int × List Int) =>
    if 32 * (l : Int) ≤ p.1 && p.1 < 32 * ((l : Int) + 64) then some (p.1.toNat, p.2) else none)

/-- A packet fills positions (R265): counted LATE, EARLY, USED, DUP; a block of the window that becomes complete is presented (DEDUCED, log
entry 69). -/
def State.fillStream (s : State) (c : Nat) (k : RtpPkt) : State :=
  let h := s.headOf c
  let l := s.hst.win
  let xs := instants (s.on (R.STR_RX_W0_FMT c)) (s.rxChans c) (s.rxPtime c) k.load
  let r0 := mediaBase (32 * l) k.ts (s.rd (R.STR_RX_W5_TS_OFS c))
  if r0 + xs.length ≤ 32 * (l : Int) then s.rxCount c rxLate 1
  else if 32 * ((l : Int) + 64) ≤ r0 then s.rxCount c rxEarly 1
  else
    let ins := inAssembly l r0 xs
    let x := s.strx h
    let new := ins.filter (fun p => x.pos.get [] p.1 = [])
    let y := { x with pos := new.foldl (fun m p => m.set [] p.1 p.2) x.pos }
    let s := (s.setStrx h y).rxCount c rxUsed (b2n (new ≠ []))
    let s := s.rxCount c rxDup (b2n (new.length < ins.length))
    if y.full l && !x.full l then s.presentStream h l else s

/-- A packet that matched a context and passed its checks (DEDUCED, log entry 68). -/
def State.validPacket (s : State) (c : Nat) (k : RtpPkt) : State :=
  let x := s.strx c
  let newer : Bool := match x.lastSeq with
    | some q => laterThan 16 k.seq q
    | none => true
  let gap := match x.lastSeq with
    | some q => if newer then (k.seq + 65536 - q) % 65536 - 1 else 0
    | none => 0
  let s := s.setStrx c { x with validAt := some s.tm.raw, lastSeq := if newer then some k.seq else x.lastSeq }
  let s := ((s.wr (R.STR_RX_STATUS_RECV c) 1).wr (R.STR_RX_STATUS_LEG_DOWN c) 0).rxCount c rxLost gap
  if s.locked then s.fillStream c k else s

/-- A frame the stream engine took from a ring (R263) (DEDUCED, log entry 68). -/
def State.streamFrame (s : State) (p : Nat) (bs : List Byte) : State :=
  match udpAt bs with
  | none => s.bump R.STR_CNT_NOCTX_COUNT
  | some u =>
    match s.matchCtx p bs u with
    | none => s.bump R.STR_CNT_NOCTX_COUNT
    | some c =>
      let s := s.rxCount c rxPkts 1
      match s.rtpFor c bs u with
      | none => s.rxCount c rxBad 1
      | some k => s.validPacket c k

/-- The stream engine's bus master (R330). -/
def strMaster : Nat := 5

/-- The engine moves past a descriptor and gives it to the port again. -/
def State.reGive (s : State) (p r i : Nat) : State :=
  let s := s.setMac p { s.mac p with taken := (s.mac p).taken.set 0 r ((i + 1) % max 1 (s.rd (R.MAC_RING_W1_SIZE p r))) }
  s.dmaPut strMaster ((s.rxDesc p r i + 4) % 2 ^ 32) (2 ^ 31)

/-- The buffers of the frame at the engine's place in a ring, up to LAST; each descriptor is given back. -/
def State.takeFrame (s : State) (p r : Nat) : Nat → List Byte × State
  | 0 => ([], s)
  | fuel + 1 =>
    let i := (s.mac p).taken.get 0 r
    let a := s.rxDesc p r i
    let w0 := s.dmaWord strMaster a
    let w1 := w0.2.dmaWord strMaster ((a + 4) % 2 ^ 32)
    if bitOf w1.1 31 then ([], w1.2)
    else
      let b := w1.2.dmaRead strMaster w0.1 (w1.1 % 16384) 600
      let s := b.2.reGive p r i
      if bitOf w1.1 29 then (b.1, s)
      else
        let rest := State.takeFrame s p r fuel
        (b.1 ++ rest.1, rest.2)

/-- STREAM_PACKET (R263–R266): the engine looks at the next descriptor of a ring it owns. One returned DISCARDED is passed; a frame is taken
(DEDUCED, log entry 70). -/
def execStreamPacket (mac : Fin 2) (ring : Fin 16) (t : Nat) (s : State) : Host.Outcome State Fault Refusal :=
  let s := s.atRaw t
  let p := mac.val
  let r := ring.val
  .next (if !s.streamsRun || !s.on (R.MAC_RING_W1_OWNER p r) || !s.on (R.MAC_RING_W1_EN p r) then s
    else
      let i := (s.mac p).taken.get 0 r
      let w := s.dmaWord strMaster ((s.rxDesc p r i + 4) % 2 ^ 32)
      if bitOf w.1 31 then w.2
      else if bitOf w.1 28 then w.2.reGive p r i
      else if !bitOf w.1 30 then w.2
      else
        let f := w.2.takeFrame p r 160
        f.2.streamFrame p f.1)

/-- LEG_DOWN (R266): an enabled context has received no valid packet for 10 ms. -/
def execLegDown (ctx : Fin 128) (t : Nat) (s : State) : Host.Outcome State Fault Refusal :=
  let s := s.atRaw t
  let c := ctx.val
  let quiet : Bool := match (s.strx c).validAt with
    | some v => decide (v + ms 10 ≤ s.tm.raw)
    | none => true
  .next (if s.streamsRun && s.on (R.STR_RX_W0_EN c) && quiet then (s.flag (R.STR_RX_STATUS_LEG_DOWN c)).wr (R.STR_RX_STATUS_RECV c) 0 else s)

/-! ### Transmission (R267, R268) -/

/-- A context of the transmit side; `held` by S2, `start` the first media index it may send. -/
def State.strTx (s : State) (i : Nat) : StrTx := s.stx.get ⟨false, 0⟩ i

/-- The sample of an output with a media index. -/
def State.mediaSample (s : State) (o m : Nat) : Int := if m < 96 then 0 else (s.releasedBlock o ((m - 96) / 32)).getD ((m - 96) % 32) 0

/-- One sample as a packet carries it, and whether an L16 value saturated. -/
def sampleOut (l16 : Bool) (x : Int) : List Byte × Bool :=
  if l16 then
    let v := rheDiv x 4
    (beBytes 2 (unsignedOf 16 (clampI (-32768) 32767 v)), v < -32768 || 32767 < v)
  else (beBytes 3 (unsignedOf 24 (64 * x)), false)

/-- The samples of packet `n` of a context, instant by instant. -/
def State.packetSamples (s : State) (i n : Nat) : List (List Byte × Bool) :=
  let pt := s.txPtime i
  ((List.range pt).map (fun j => (List.range (s.rd (R.STR_TX_W0_CH_M1 i) + 1)).map (fun ch =>
    sampleOut (s.on (R.STR_TX_W0_FMT i)) (if s.rdLive (R.STR_TXMAP_EN i ch) = 1 then s.mediaSample (s.rdLive (R.STR_TXMAP_OUTPUT i ch)) (n * pt + j) else 0)))).flatten

/-- The RTP packet (R267): version 2, P, X, CC and M zero. -/
def State.rtpOut (s : State) (i n : Nat) (load : List Byte) : List Byte :=
  [0x80#8] ++ beBytes 1 (s.rd (R.STR_TX_W0_PT i)) ++ beBytes 2 (s.rd (R.STR_TX_STATUS_NEXT_SEQ i)) ++
    beBytes 4 ((n * s.txPtime i + s.rd (R.STR_TX_W4_TS_OFS i)) % 2 ^ 32) ++ beBytes 4 (s.rd (R.STR_TX_W3_SSRC i)) ++ load

/-- A checksum over bytes. -/
def csumOf (bs : List Byte) : Nat := 65535 - fold16 (onesSum bs)

/-- The UDP datagram, its checksum over the pseudo-header when CSUM is set; a result of zero is sent as 0xFFFF. -/
def State.udpOut (s : State) (i : Nat) (src dst : Nat) (rtp : List Byte) : List Byte :=
  let ports := s.rd (R.STR_TX_W2_PORTS_UDP i)
  let len := rtp.length + 8
  let head (c : Nat) : List Byte := beBytes 4 ports ++ beBytes 2 len ++ beBytes 2 c
  let c := csumOf (beBytes 4 src ++ beBytes 4 dst ++ beBytes 2 17 ++ beBytes 2 len ++ head 0 ++ rtp)
  head (if s.on (R.STR_TX_W0_CSUM i) then (if c = 0 then 65535 else c) else 0) ++ rtp

/-- The IPv4 packet: DSCP, TTL, a zero fragment field, its header checksum (DESIGN CHOICE, log entry 63). -/
def State.ipOut (s : State) (i : Nat) (src dst id : Nat) (udp : List Byte) : List Byte :=
  let head (c : Nat) : List Byte := [0x45#8] ++ beBytes 1 (4 * s.rd (R.STR_TX_W5_DSCP i)) ++ beBytes 2 (udp.length + 20) ++ beBytes 2 id ++ beBytes 2 0 ++
    beBytes 1 (s.rd (R.STR_TX_W5_TTL i)) ++ beBytes 1 17 ++ beBytes 2 c ++ beBytes 4 src ++ beBytes 4 dst
  head (csumOf (head 0)) ++ udp

/-- The Ethernet destination: the group's address under RFC 1112, or DMAC. -/
def State.macOut (s : State) (i dst : Nat) : List Byte :=
  if dst / 2 ^ 28 = 14 then [0x01#8, 0x00#8, 0x5E#8] ++ beBytes 3 (dst % 2 ^ 23)
  else leBytes 4 (s.rd (R.STR_TX_W6_DMAC i)) ++ leBytes 2 (s.rd (R.STR_TX_W7_DMAC i))

/-- The frame of a packet as MAC `p` sends it. -/
def State.frameOut (s : State) (i p : Nat) (rtp : List Byte) : List Byte :=
  let dst := s.rd (R.STR_TX_W1_DST i)
  let src := (Config.streamIp p).toNat
  let own := leBytes 4 (s.rd (R.MAC_ADDR_LO_ADDR p)) ++ leBytes 2 (s.rd (R.MAC_ADDR_HI_ADDR p))
  dressed (s.macOut i dst ++ own ++ beBytes 2 0x0800 ++ s.ipOut i src dst (Config.ipId s.free).toNat (s.udpOut i src dst rtp))
    (if s.on (R.STR_TX_W0_INS_TAG i) then some (s.rd (R.STR_TX_W5_TCI i)) else none)

/-- A packet is queued on one MAC (DESIGN CHOICE, log entry 63). -/
def State.queueOn (s : State) (i p : Nat) (rtp : List Byte) : State :=
  let m := s.mac p
  (s.setMac p { m with strq := m.strq ++ [s.frameOut i p rtp] }).bump (R.STR_TX_SENT_COUNT i p)

/-- Packet `n` of a context is built and queued; both copies have one sequence number, timestamp and payload (R267). -/
def State.sendPacket (s : State) (i n : Nat) : State :=
  let xs := s.packetSamples i n
  let s := s.count R.STR_CNT_SAT_COUNT (xs.filter Prod.snd).length
  let rtp := s.rtpOut i n (xs.map Prod.fst).flatten
  let ports := s.rd (R.STR_TX_W0_PORTS i)
  let s := (s.when (bitOf ports 0) (fun s => s.queueOn i 0 rtp)).when (bitOf ports 1) (fun s => s.queueOn i 1 rtp)
  (s.wr (R.STR_TX_STATUS_NEXT_SEQ i) ((s.rd (R.STR_TX_STATUS_NEXT_SEQ i) + 1) % 65536)).fresh

/-- The packets whose last sample lies in released block `n`: render index r has media index r + 96 (R267) (DEDUCED, log entry 71). -/
def State.packetsOf (s : State) (i n : Nat) : List Nat :=
  let pt := s.txPtime i
  (List.range 3).filterMap (fun j =>
    let q := (32 * n + 96) / pt + 1 + j
    if q * pt ≤ 32 * n + 128 && (s.strTx i).start ≤ (q - 1) * pt then some (q - 1) else none)

/-- STREAM_PACKET_TX at the release deadline of block `n` (R267, R268). -/
def State.sendStreams (s : State) (n : Nat) : State :=
  if !s.streamsRun || !s.locked || s.standsBy || s.role = roleArb then s
  else (List.range 64).foldl (fun s i =>
    if s.on (R.STR_TX_W0_EN i) && !(s.strTx i).held then (s.packetsOf i n).foldl (fun s p => s.sendPacket i p) s else s) s

end Sys2Proof.Machine
end

