-- ==== Sys2Proof/Machine/Block.lean ====
section
/-! DEFINITION. The block pipeline: what a block boundary, a tap list, a landing deadline and a release deadline bring (R16–R23, R38–R49, R54, R81, R144, R159–R164,
R261, R315, R362, R363, R371). -/

namespace Sys2Proof.Machine

open Sys2Proof

/-! ### First lock: BLOCK_COUNT jumps (R49, R261) -/

/-- A block number of the pre-lock count as the count after lock has it: the pre-lock block in progress, `p`, is the one before block `k`
(DESIGN CHOICE, log entry 11). -/
def renumbered (p k n : Nat) : Nat := if n ≤ p + 2 then n + k - (p + 1) else n

/-- The same for a number of an input sample. -/
def resampled (p k i : Nat) : Nat := if i < 32 * (p + 3) then i + 32 * k - 32 * (p + 1) else i

/-- Values by block under the new numbers. -/
def Hist.moved {α : Type} (p k : Nat) (h : Hist α) : Hist α := h.map (fun x => (renumbered p k x.1, x.2))

/-- A waiting change under the new numbers. -/
def Sched.moved (p k : Nat) (x : Sched) : Sched :=
  { blk := renumbered p k x.blk, act := match x.act with
    | .gain q c st len => .gain q c (resampled p k st) len
    | .mute q on st len => .mute q on (resampled p k st) len
    | a => a }

/-- A gain path, a play, a chain, a tap list under the new numbers. -/
def GainPath.moved (p k : Nat) (g : GainPath) : GainPath := { g with segs := g.segs.map (fun x => { x with start := resampled p k x.start }) }
def Play.moved (p k : Nat) (x : Play) : Play := { x with start := resampled p k x.start, stop := x.stop.map (resampled p k) }
def ChainSt.moved (p k : Nat) (c : ChainSt) : ChainSt :=
  { c with us := c.us.map (fun x => (renumbered p k x.1, x.2)), hs := c.hs.map (fun x => (renumbered p k x.1, x.2)) }
def TapList.moved (p k : Nat) (l : TapList) : TapList := { l with blk := renumbered p k l.blk }
def ObjSt.moved (p k : Nat) (x : ObjSt) : ObjSt :=
  { x with hist := Hist.moved p k x.hist, route := x.route.map (fun r => (renumbered p k r.1, r.2)) }

/-- The output accumulators of the two sets change places. -/
def State.swapSets (s : State) : State :=
  let at_ (q : Nat) : List Host.Cell := s.mem.filter (fun c => accAddr q 0 0 ≤ c.1 && c.1 < accAddr q 640 0)
  let a := at_ 0
  let b := at_ 1
  let s := (s.accClear 0).accClear 1
  let s := a.foldl (fun (s : State) (c : Host.Cell) => s.setByte (c.1 + 0x28000) c.2) s
  b.foldl (fun (s : State) (c : Host.Cell) => s.setByte (c.1 - 0x28000) c.2) s

/-- What the machine holds by block or by input sample takes the numbers of the count after lock, so that the blocks in flight, ramps, plays and waiting changes go on
(R49, R261; DESIGN CHOICE, log entry 11). -/
def State.renumber (s : State) (p k : Nat) : State :=
  let f := renumbered p k
  let s := if (f p + p) % 2 = 1 then s.swapSets else s
  { s with
    liveHist := Hist.moved p k s.liveHist,
    sched := s.sched.map (Sched.moved p k),
    plays := s.plays.map (Play.moved p k),
    sup := { s.sup with stageAt := f s.sup.stageAt, clearAt := s.sup.clearAt.map f },
    geo := { s.geo with
      objs := s.geo.objs.map (fun x => (x.1, ObjSt.moved p k x.2)), forming := none, late := s.geo.late.map (TapList.moved p k), cur := TapList.moved p k s.geo.cur,
      build := { s.geo.build with swapAt := s.geo.build.swapAt.map f } },
    hst := { s.hst with win := f s.hst.win, rendering := s.hst.rendering.map f, renderFrom := f s.hst.renderFrom, landFrom := f s.hst.landFrom,
                        copies := [], longReads := [], lateTiles := [] },
    mix := { s.mix with
      gains := s.mix.gains.map (fun x => (x.1, GainPath.moved p k x.2)), gates := s.mix.gates.map (fun x => (x.1, Hist.moved p k x.2)),
      sheds := s.mix.sheds.map (fun x => (x.1, Hist.moved p k x.2)), chains := s.mix.chains.map (fun x => (x.1, ChainSt.moved p k x.2)),
      installs := s.mix.installs.map (fun x => { x with f := x.f.map f }),
      released := s.mix.released.foldl (fun c x => c.set [] (x.1 / 4 * 4 + (x.1 + f p + 4 - p % 4) % 4) x.2) [],
      headOnly := Hist.moved p k s.mix.headOnly, relQ := s.mix.relQ.map f, fades := s.mix.fades.map (fun x => (f x.1, x.2)) } }

/-- Block `k` begins: the block that first lock chose discards the pre-lock block in progress; the last complete one fades out and `k` fades in (R261). -/
def State.setClock (s : State) (k : Nat) : State :=
  let p := s.tm.blockCount
  let first := s.tm.lockBlock.isSome
  let s := if first then
      let s := if s.tm.started then s.renumber p k else s
      let s := s.unwriteSlots
      { s with mix := { s.mix with fades := s.mix.fades ++ (if s.tm.started && 2 ≤ k then [(k - 2, false), (k, true)] else [(k, true)]) } }
    else s
  let s := if s.tm.started then s else { s with hst := { s.hst with win := k, winOpen := false } }
  { s with tm := { s.tm with blockCount := k, started := true, blockStart := s.now, lockBlock := none, firstLocked := if first then k else s.tm.firstLocked } }

/-! ### Is a block rendered? -/

/-- Does this unit render block `n`? A standby renders nothing, a leaving unit nothing from its boundary on (R23, R325); the pre-lock block that first lock discards is
not rendered (R261); nor is one outside what SLEEP leaves (R362, R363), or before a takeover (R324) (DEDUCED, log entry 77). -/
def State.renders (s : State) (n : Nat) : Bool :=
  !s.standsBy && (match s.mir.change with | some x => !(s.role = roleLeaving && x.s ≤ n) | none => true) &&
    !(s.locked && n + 1 = s.tm.firstLocked) && s.awakeFor n && decide (s.hst.renderFrom ≤ n)

/-- Nothing of block `n` is released: every output presents silence (DEDUCED, log entry 76). -/
def State.silence (s : State) (n : Nat) : State :=
  { s with mix := { s.mix with released := s.mix.released.filter (fun p => p.1 % 4 ≠ n % 4) } }

/-! ### The first boundary, and the end of SLEEP -/

/-- Channels that the device starts on its own under HALF_DUTY: enabled, no B-end, off and not held off by shedding (R201, R363) (DEDUCED, log
entry 77). -/
def State.startChannels (s : State) : State :=
  s.startAll false (fun s n => s.psState n = stOff && !(s.psSt n).shed)

/-- The first boundary after reset: host ports open, evacuation triggers arm, channels start (R388). -/
def State.firstBoundary (s : State) : State := ((s.wr R.HIF_CTRL_ENABLE 1).startChannels) |> fun s => { s with armed := true }

/-- Tiles land, and blocks are rendered, from block `k` on. -/
def State.setLanding (s : State) (k : Nat) : State := { s with hst := { s.hst with landFrom := k, renderFrom := k } }

/-- Rendering resumes at block `k` on the exit from SLEEP (R363): slots are unwritten, every tap enters, chains start from zero, channels start, the gate whose
press woke the device opens. -/
def State.wakeBoundary (s : State) (k : Nat) : State :=
  let due : Bool := match s.clk.sleep with
    | some z => (match z.wakeBlk with | some m => decide (m ≤ k) | none => false)
    | none => false
  if !due then s
  else
    let gates := s.clk.wokeBy.flatMap s.boundTo
    let s := { s with clk := { s.clk with sleep := none, wokeBy := [] } }
    let s := (s.freshLists).unwriteSlots
    let s := (s.silentChains (fun _ => 131072)).setLanding k
    let s := gates.foldl (fun s o => s.setGate k o true) s
    (s.startChannels).startContexts k

/-! ### Changes that take effect (R14, R21, R159, R164, R169) -/

/-- The word of a register's copy in force. -/
def State.liveAt (s : State) (a : Nat) : Nat := s.live.get 0 a ^^^ (s.getReg a ^^^ s.regs.get 0 a)

/-- The copy in force of a register takes a word. -/
def State.putWord (s : State) (a v : Nat) : State := { s with live := s.live.set 0 a (v ^^^ (s.getReg a ^^^ s.regs.get 0 a)) }

/-- Bits of a register's copy in force take a value; a ring that gets its bit of HST_LONG_MAP is granted its long ring (R416). -/
def State.putLive (s : State) (a hi lo v : Nat) : State :=
  let new := setBits (s.liveAt a) hi lo v
  match arrayIx (R.HST_LONG_MAP_LONG 0).addr 4 32 a with
  | some w => (s.putWord a new).grantLong w (s.liveAt a) new
  | none => s.putWord a new

/-- A gain path takes a code, or is muted, from an input sample. -/
def State.gainAct (s : State) (p : Nat) (code : Int) (start len : Nat) : State := s.setGainPath p ((s.gainPath p).change code start len)
def State.muteAct (s : State) (p : Nat) (on : Bool) (start len : Nat) : State := s.setGainPath p ((s.gainPath p).setMute on start len)

/-- A gain path starts anew at a code: a position of a bus takes a new input (R160). -/
def State.gainAnew (s : State) (p : Nat) (code : Int) (start : Nat) : State :=
  s.setGainPath p { (s.gainPath p).put start (.const code) with held := code, mute := false }

/-- The gain code in the low half of a word written, if any of its bits is. -/
def State.codeAct (s : State) (k m w p : Nat) : State := if m % 65536 = 0 then s else s.gainAct p (signedOf 16 w) (32 * k) 0

/-- A register write of gain bits steps its path at the boundary (R154) (DEDUCED, log entry 31). -/
def State.shadowGain (s : State) (k a m w : Nat) : State :=
  match arrayIx (R.MIX_OBJ_GAIN_w 0).addr 4 1024 a, arrayIx (R.MIX_BUS_CFG_w 0).addr 1024 256 a with
  | some o, _ => let s := s.codeAct k m w (pathObj o); if bitOf m 16 then s.muteAct (pathObj o) (bitOf w 16) (32 * k) 0 else s
  | _, some b => let s := s.codeAct k m w (pathBus b); if bitOf m 30 then s.muteAct (pathBus b) (bitOf w 30) (32 * k) 0 else s
  | none, none =>
    if 0x40220000 ≤ a && a < 0x40260000 && 512 ≤ a % 1024 then
      let b := (a - 0x40220000) / 1024
      let u := (a % 1024 - 512) / 8
      if a % 8 = 4 then s.codeAct k m w (pathIn b u)
      else if (s.liveAt a ^^^ w) &&& m = 0 then s else s.gainAnew (pathIn b u) (s.gainPath (pathIn b u)).held (32 * k)
    else s

/-- The bits of a register that a mask names take effect. -/
def State.putMasked (s : State) (a m w : Nat) : State :=
  s.putLive a 31 0 ((s.liveAt a &&& (0xFFFFFFFF ^^^ m)) ||| (w &&& m))

/-- The configuration word of a port or converter reaches its boundary. -/
def State.portReg (s : State) (a v : Nat) : State :=
  match arrayIx (R.TDM_CFG_w 0).addr 0x400 16 a, arrayIx (R.AES_ICFG_w 0).addr 0x100 4 a, arrayIx (R.ASC_CFG_w 0).addr 0x40 32 a with
  | some p, _, _ => s.tdmConfig p v
  | _, some i, _ => s.aesConfig i v
  | _, _, some c => s.ascConfig c v
  | _, _, _ => s.setReg a v

/-- A configuration register of type RW applies (R149, R189, R193, R213, R270). -/
def State.applyReg (s : State) (k a v : Nat) : State :=
  if a = R.OST_FLOW_DATA_w.addr then s.setFlow (v / 2) { s.flow (v / 2) with ordered := v % 2 = 1 }
  else match arrayIx (R.PWS_CFG_w 0).addr 256 24 a, arrayIx (R.MIC_CFG_w 0).addr ((R.MIC_CFG_w 1).addr - (R.MIC_CFG_w 0).addr) 4 a,
      arrayIx (R.STR_RX_W0_w 0).addr 128 128 a, arrayIx (R.STR_TX_W0_w 0).addr 128 64 a with
  | some n, _, _, _ => s.psConfig n v
  | _, some n, _, _ => s.micConfig n v
  | _, _, some c, _ => if s.getReg a = v then s else { s.setReg a v with srx := s.srx.set strxReset c strxReset }
  | _, _, _, some i =>
    if bitOf v 31 && !s.on (R.STR_TX_W0_EN i) then
      { s.setReg a v with stx := s.stx.set ⟨false, 0⟩ i ⟨decide (2 ≤ s.stage) && !bitOf v 24, 32 * k⟩ }
    else s.setReg a v
  | _, _, _, _ => s.portReg a v

/-- The non-route fields of a record take effect; its route fields stay as they are in force (R159). -/
def State.objTake (s : State) (k o : Nat) (r : ObjRec) : State :=
  let x := s.obj o
  s.setObj o { x with hist := Hist.push x.hist k (ObjRec.withRoute r (x.hist.last objRecReset)) }

/-- A position ends the path (R30). -/
def State.movePos (s : State) (o : Nat) (p : Pos) : State := s.setObj o { s.obj o with pos := Pos.mm p, path := none }

/-- A path of block `m` begins at t(m), where the object stood for block m − 1 (R30): `x` is the object before any change of that boundary. -/
def State.movePath (s : State) (x : ObjSt) (m o : Nat) (w : List Waypoint) : State :=
  s.setObj o { s.obj o with path := some ⟨s.objPos x (m - 1), s.tBlock m, w.map (fun p => (Pos.mm p.pos, p.time))⟩ }

/-- A position of a bus under a new route: a new input starts at its code; the code of one that stays was a gain change of its own (R160). -/
def State.routeInput (s : State) (k b u : Nat) (x : BusPos) : State :=
  if BusPos.sameInput x (s.livePos b u) then s
  else (((s.wrLive (R.MIX_BUS_IN_W0_EN b u) (b2n x.1)).wrLive (R.MIX_BUS_IN_W0_KIND b u) (b2n x.2.1)).wrLive (R.MIX_BUS_IN_W0_SRC b u)
    x.2.2.1).gainAnew (pathIn b u) x.2.2.2 (32 * k)

/-- A bus takes a route (R159); its crossfade block is `k`. -/
def State.takeRoute (s : State) (k b : Nat) (en : Bool) (home mask : Nat) (ins : List BusPos) : State :=
  let s := (s.wrLive (R.MIX_BUS_CFG_EN b) (b2n en)).wrLive (R.MIX_BUS_CFG_HOME_ZONE b) home
  let s := (List.range 4).foldl (fun s w => s.wrLive (R.MIX_BUS_MASK_ZONES b w) (mask / 2 ^ (32 * w) % 2 ^ 32)) s
  (List.range 64).foldl (fun s u => s.routeInput k b u (ins.getD u (false, false, 0, 0))) s

/-- A safe-load set or the held shadows have transferred (R164, R169) (DEDUCED, log entry 75). -/
def State.slDone (s : State) (k : Nat) : State := (s.wr R.MIX_SL_STATUS_BLOCK (k % 65536)).bump R.MIX_CNT_SL_COMMIT_VALUE

/-- One change at the boundary of block `k`; `s0` is the state before any change of that boundary. -/
def State.applyAct (s0 : State) (k : Nat) (s : State) (x : Sched) : State :=
  match x.act with
  | .fld a hi lo v => s.putLive a hi lo v
  | .shadow a m v => (s.shadowGain k a m v).putMasked a m v
  | .gain p c st len => s.gainAct p c (max st (32 * k)) len
  | .mute p on st len => s.muteAct p on (max st (32 * k)) len
  | .busRoute b en home mask ins => s.takeRoute k b en home mask ins
  | .objFields o r => s.objTake k o r
  | .objMove o p => s.movePos o p
  | .objPath o w => s.movePath (s0.obj o) x.blk o w
  | .bind o m => s.bindObj k o m
  | .gate o isOpen => s.setGate k o isOpen
  | .param i p v => s.takeParam i p v
  | .reg a v => s.applyReg k a v
  | .psFreq n c => s.wr (R.PWS_STATUS_F_NOW n) c
  | .psRun n start => s.psRun n start
  | .msgStop m atEnd => s.stopMsg k m atEnd
  | .slCommit => s.slDone k
  | .slReply i o q => if s.isOpen i then s.reply i o q .ok (leBytes 8 k) true else s

/-- The input sample from which a change acts: changes of one boundary act in the order of these, and where they meet in the order received (R165). -/
def Sched.start (x : Sched) : Nat :=
  match x.act with
  | .gain _ _ st _ | .mute _ _ st _ => st
  | _ => 32 * x.blk

/-- Is a change one of an RWS shadow? -/
def Act.isShadow : Act → Bool
  | .fld _ _ _ _ | .shadow _ _ _ | .gain _ _ _ _ | .mute _ _ _ _ | .busRoute _ _ _ _ _ => true
  | _ => false

/-- Does MIX_SL_CTRL.HOLD keep a change back (R169)? `xfer`: a transfer takes place at this boundary. HOLD keeps every RWS shadow; HOLD that an untimed SAFE_COMMIT set keeps
register writes alone until its transfer, so that commands keep their block (R21) (DEDUCED, log entry 75). -/
def State.heldBack (s : State) (xfer : Bool) (x : Sched) : Bool :=
  s.on R.MIX_SL_CTRL_HOLD && !xfer && x.act.isShadow &&
    (match x.act with
     | .shadow _ _ _ => true
     | _ => !s.sched.any (fun y => match y.act with | .slReply _ _ _ => true | _ => false))

/-- Everything due at the boundary of block `k` takes effect. -/
def State.applyDue (s : State) (k : Nat) : State :=
  let armed := s.on R.MIX_SL_STATUS_ARMED
  let xfer := armed || s.sched.any (fun y => y.blk ≤ k && (match y.act with | .slCommit => true | _ => false))
  let now := s.sched.filter (fun x => x.blk ≤ k && !s.heldBack xfer x)
  let s := { s with sched := s.sched.filter (fun x => !(x.blk ≤ k && !s.heldBack xfer x)) }
  let s := (sortBy (fun a b => a.start < b.start) now).foldl (State.applyAct s k) s
  let s := s.when armed (fun s => (s.slDone k).wr R.MIX_SL_STATUS_ARMED 0)
  s.when xfer (fun s => s.wr R.MIX_SL_CTRL_HOLD 0)

/-! ### Installs (R81, R420) -/

/-- One output of an install from block s + 1 on. -/
def State.installOutput (s : State) (o : Nat) : State :=
  let set := s.inactiveSet o
  let gen := R.MIX_OUT_FIR_FIR_GEN o
  let both (s : State) (f : Fld) (v : Nat) : State := (s.wr f v).wrLive f v
  let s := both s (R.MIX_OUT_FIR_FIR_SET o) set
  let s := both s (R.MIX_OUT_FIR_FIR_LEN_M1 o) ((s.firSet o set).len - 1)
  let s := both s gen ((s.rd gen + 1) % 65536)
  both s (R.MIX_OUT_CFG_FIR_EN o) 1

/-- Installs whose block s lies before `k` are complete: sets flip, and each reply carries s. A complete install is kept until stage C of block s + 1, which crossfades with
what it read in block s. -/
def State.installsDone (s : State) (k : Nat) : State :=
  let past (d : Nat) (x : Install) : Bool := match x.f with | some f => decide (f + d ≤ k) | none => false
  let now := s.mix.installs.filter (fun x => !x.done && past 33 x)
  let kept := (s.mix.installs.filter (fun x => !past 37 x)).map (fun x => if past 33 x then { x with done := true } else x)
  let s := { s with mix := { s.mix with installs := kept } }
  let s := now.foldl (fun s x => s.installOutput x.output) s
  (dedup (now.map (fun (x : Install) => (x.op, x.f.getD 0 + 32)))).foldl (fun s (q : Nat × Nat) => s.endLong q.1 .ok (leBytes 8 q.2)) s

/-! ### Stage A (R38–R42, R161) -/

/-- The tap list of block `k` begins; that of the block before waits for its landing deadline. -/
def State.stageA (s : State) (k : Nat) : State :=
  let late := match s.geo.forming with | some l => some l | none => s.geo.late
  let s := { s with geo := { s.geo with late := late, forming := none } }
  if !s.renders k || !s.on R.PST_CTRL_ENABLE || s.gated 1 then s
  else
    let (s, deferred) := s.formList k (match late with | some p => p.taps | none => s.geo.cur.taps)
    s.count R.MIX_CNT_ROUTE_DEFER_VALUE deferred

/-- A list is complete: PST_TAP_COUNT, counters and BUDGET (R38, R39, R47). -/
def State.listDone (s : State) (l : TapList) : State :=
  let objs := (dedup (l.taps.map (fun t => t.object))).length
  let s := (s.wr R.PST_TAP_COUNT_OBJECTS objs).wr R.PST_TAP_COUNT_ENTRIES_M1 ((l.taps.length + 65535) % 65536)
  let s := ((s.count R.PST_CNT_DEFER_VALUE l.deferred).count R.PST_CNT_RANGE_VALUE l.ranges).count R.PST_CNT_JUMP_VALUE l.jumps
  s.when l.budget (·.flag R.PST_STATUS_BUDGET)

/-- TAP_LIST_COMPLETE (R38): the engine has written the list of a block. On RC no list is ready in time (R353) (DEDUCED, log entry 74). -/
def execTapListComplete (blk : Nat) (s : State) : Host.Outcome State Fault Refusal :=
  let mine (l : TapList) : Bool := l.blk = blk && !l.complete
  .next (if s.on R.CLK_STAT_ON_RC || s.gated 1 then s
    else match s.geo.late, s.geo.forming with
      | some l, f =>
        if mine l then { s.listDone l with geo := { s.geo with late := some { l with complete := true } } }
        else match f with
          | some g => if mine g then { s.listDone g with geo := { s.geo with forming := some { g with complete := true } } } else s
          | none => s
      | none, some g => if mine g then { s.listDone g with geo := { s.geo with forming := some { g with complete := true } } } else s
      | none, none => s)

/-! ### BLOCK_BOUNDARY -/

/-- What is no longer needed of the past. -/
def State.forget (s : State) (k : Nat) : State :=
  { s with mix := { s.mix with
      fades := s.mix.fades.filter (fun x => k < x.1 + 8), gains := s.mix.gains.map (fun p => (p.1, p.2.trim (32 * k))),
      gates := s.mix.gates.map (fun p => (p.1, Gate.trim p.2 k)), sheds := s.mix.sheds.map (fun p => (p.1, Gate.trim p.2 k)) } }

/-- Everything bound to the boundary of block `k`. -/
def State.boundaryOf (s : State) (k : Nat) (bus : Option Int) : State :=
  let starts := !s.tm.started
  let s := s.setClock k
  let s := s.when starts State.firstBoundary
  let s := (s.wakeBoundary k).applyDue k
  let s := s.supplyBoundary k bus s.clk.sleep.isNone
  let s := s.roleBoundary k
  let s := if (match s.geo.build.swapAt with | some m => decide (m ≤ k) | none => false) then (s.swapBanks k).queueBulk bulkTables else s
  let s := s.installsDone k
  let s := { s with liveHist := Hist.push s.liveHist k s.live }
  let s := s.sendAes k
  let s := ((s.stageA k).tickPoint 0).postSlice
  (((((s.resync.restoreNow).sleepBoundary k).showLimiting).secondTotals).forget k)

/-- BLOCK_BOUNDARY (R48): the next block begins, once network time paces blocks not before t(k); before that when the local media clock says so (R261; DESIGN CHOICE,
log entry 119). `bus` is the sum of the last 1,920 codes of the bus channel, none while they have not all been taken (R367). -/
def execBlockBoundary (bus : Option Int) (t : Nat) (s : State) : Host.Outcome State Fault Refusal :=
  let s := s.atRaw t
  .next (if !s.on R.TSU_CTRL_BLOCK_EN || s.gated 15 || (s.locked && s.now < s.nextBoundary) then s else s.boundaryOf s.nextBlock bus)

/-! ### LANDING_DEADLINE -/

/-- Middle and tail frames that stage C omits: those late, and every one with the DRAM out of reach. -/
def State.specOmit (s : State) (specLate : List SpecLate) : List SpecLate :=
  if s.cellarDown then s.presentOutputs.flatMap (fun o => [⟨o, false⟩, ⟨o, true⟩]) else specLate

/-- Stage B of a block has ended and its stage C begins. `specFail`: records damaged in DRAM; `specLate`: output frames not complete, which matter where block `n` is the
first of the frame (R78) (DEDUCED, log entry 73). -/
def State.endStageB (s : State) (specFail : List SpecItem) (specLate : List SpecLate) : State :=
  match s.hst.rendering with
  | none => s
  | some n =>
    let s := if s.gated 0 || s.gated 3 then s else s.renderBlock n s.geo.cur.taps
    let late := dedup (specLate.filter (fun x => n % frameLen x.tail = 0))
    let s := (specFail.foldl (fun s x => s.damageSpec n x) s).count R.MIX_CNT_SPEC_LATE_VALUE late.length
    let s := if s.cellarDown || s.gated 5 then s else s.useSpecs n s.presentOutputs
    { s with mix := { s.mix with relQ := s.mix.relQ ++ [n], specLate := s.specOmit late },
             hst := { s.hst with rendering := none } }

/-- A tap list that is not ready is replaced by the list before it with zero ramps, and counted; the next list starts from that one (R20, R46)
(DEDUCED, log entry 74). -/
def State.replaceList (s : State) (l : Nat) : State :=
  let still := s.geo.cur.taps.map Tap.still
  let s := (s.bump R.PST_CNT_LATE_VALUE).flag R.PST_STATUS_LATE
  let grants := s.geo.forming.map (fun f => f.grants)
  let s := (s.unform s.geo.forming).unform s.geo.late
  let forming := s.geo.forming.map (fun f => { f with grants := [] })
  let s := { s with geo := { s.geo with cur := { s.geo.cur with blk := l, taps := still, grants := [] }, late := none, forming := forming } }
  if grants.isSome then s.reformList still else s

/-- The tap list of block `l` is judged (DEDUCED, log entry 73). -/
def State.judgeList (s : State) (l : Nat) : State :=
  match s.geo.late with
  | some x => if x.blk = l && x.complete && !s.on R.CLK_STAT_ON_RC then { s with geo := { s.geo with cur := x, late := none } } else s.replaceList l
  | none => s.replaceList l

/-- The long tiles that the entries of block `l` read; a slot nothing was copied to is not read (R416). -/
def State.longTilesOf (s : State) (l : Nat) : List (Nat × Nat) :=
  dedup ((s.geo.cur.taps.flatMap (s.tapTiles l)).filterMap (fun x => match x.1 with
    | .long r => (match s.firstOf x.1 with | some f => if (f : Int) ≤ x.2 then some (r, x.2.toNat) else none | none => none)
    | _ => none))

/-- Long reads of block `l` go to the Cellar (R64), all as stage B begins (DESIGN CHOICE, log entry 102); with the Cellar's PLL failed or no DRAM in reach every long tile
fails (R353). -/
def State.issueLong (s : State) (l : Nat) : State :=
  let tiles := s.longTilesOf l
  if s.cellarDown then tiles.foldl State.longLate s
  else { s with hst := { s.hst with longReads := tiles, longAt := s.tm.raw } }

/-- The landing window of block `l` closes. -/
def State.closeWindow (s : State) (l : Nat) (specFail : List SpecItem) (specLate : List SpecLate) : State :=
  let s := s.endStageB specFail specLate
  let s := s.countPanic
  let s := { s with hst := { s.hst with longReads := [], lateTiles := [], renderPanic := false, agePanic := false } }
  let s := s.streamDeadline l
  let s := if s.lands l then (s.substituteAll l).queueCopies l else s
  if s.renders l then
    let s := s.judgeList l
    ({ s with hst := { s.hst with rendering := some l } }).issueLong l
  else { s.silence l with geo := { s.geo with late := none } }

/-- The landing window of block `l` opens: what producers hold is presented (R54, R265, R307) (DEDUCED, log entry 72). -/
def State.openWindow (s : State) (l : Nat) : State :=
  let s := { s with hst := { s.hst with win := l, winOpen := true } }
  if s.lands l then (s.presentMsgs l).streamWindow l else s

/-- LANDING_DEADLINE (R19, R54, R144): tick point 1 of the block in progress. `specFail`, `specLate`: records and frames the FIRs miss in the
stage C that begins (R78) (DEDUCED, log entry 72). -/
def execLandingDeadline (specFail : List SpecItem) (specLate : List SpecLate) (t : Nat) (s : State) : Host.Outcome State Fault Refusal :=
  let s := s.atRaw t
  let l := s.hst.win
  .next (if !s.tm.started then s
    else if !s.hst.winOpen then (if s.now < s.landDeadline (l - 1) then s else (s.tickPoint 1).openWindow l)
    else if s.tm.blockCount ≤ l || s.now < s.landDeadline l then s
    else ((s.closeWindow l specFail specLate).tickPoint 1).openWindow (l + 1))

/-! ### RELEASE_DEADLINE -/

/-- Saturations of the modulator bridges over block `n`, for every channel that carries an output (R168). -/
def State.countBridges (s : State) (n : Nat) : State :=
  (List.range 24).foldl (fun s c =>
    if s.on (R.PWS_STATUS_SWITCHING c) then match s.carries c with
      | some o => s.count R.MIX_CNT_BRG_SAT_VALUE (s.bridgeSats o n)
      | none => s
    else s) s

/-- RELEASE_DEADLINE (R20): stage C of the block that stage B left is released; outputs in `lateOuts`, and on RC every output, were not ready and present silence. -/
def execReleaseDeadline (lateOuts : List Nat) (t : Nat) (s : State) : Host.Outcome State Fault Refusal :=
  let s := s.atRaw t
  .next (match s.mix.relQ with
    | [] => s
    | n :: rest =>
      if s.now < s.instant (32 * n + 93) then s else
      let s := { s with mix := { s.mix with relQ := rest } }
      let late := if s.on R.CLK_STAT_ON_RC || s.gated 5 then List.range 640 else lateOuts
      ((((s.silence n).stageC n late).countBridges n).tallyPower n).sendStreams n)

end Sys2Proof.Machine
end

