-- ==== Sys2Proof/Machine/ChainCmds.lean ====
section
/-! DEFINITION. The output chain group of commands (R68–R73, R80, R81, R84–R91, R305, R312). -/

namespace Sys2Proof.Machine

open Sys2Proof

/-! ### Settings of a chain (R68, R71, R73, R85) -/

/-- A coefficient or tap of 3 bytes, sign-extended from bit 17 (R296), as its 18 bits (DEDUCED, log entry 29). -/
def bits18 (v : BitVec 24) : Nat := v.toNat % 2 ^ 18

/-- The coefficients of section `i` of an output. -/
def State.setSection (s : State) (o i blk : Nat) (c : BqWords) : State :=
  let s := s.wrAt blk (R.MIX_OUT_BQ_B0_COEF o i) (bits18 c.b0)
  let s := (s.wrAt blk (R.MIX_OUT_BQ_C_COEF o i 0) (bits18 c.b1)).wrAt blk (R.MIX_OUT_BQ_C_COEF o i 1) (bits18 c.b2)
  (s.wrAt blk (R.MIX_OUT_BQ_C_COEF o i 2) (bits18 c.a1)).wrAt blk (R.MIX_OUT_BQ_C_COEF o i 3) (bits18 c.a2)

/-- An accepted EQ_SET: EQ and HEADROOM change together (R73). -/
def State.acceptEq (s : State) (o h blk : Nat) (cs : List BqWords) : State :=
  let s := (List.range cs.length).foldl (fun s i => match cs[i]? with | some c => s.setSection o i blk c | none => s) s
  (s.wrAt blk (R.MIX_OUT_CFG_EQ_N o) cs.length).wrAt blk (R.MIX_OUT_CFG_HEADROOM o) h

/-- EQ_SET (R72, R73, R419) (DEDUCED, log entry 29). -/
def execEqSet (h : Hdr) (output : BitVec 16) (headroom : BitVec 8) (cs : List BqWords) (s : State) : Host.Outcome State Fault Refusal :=
  let o := output.toNat
  .next (s.receive h ⟨0x0401, (1, 0), .nextBlock, false, .other⟩
    (fun s i => ⟨lenIs h (4 + 15 * cs.length), s.ownsOut i o, false,
      s.thenCommit (firstBad [countIn 0 32 cs.length, s.outId o, badUnless (headroom.toNat ≤ 6)])⟩)
    (fun s _ => ((s.acceptEq o headroom.toNat (s.hdrNext h) cs).afterCommit, some (.ok, []))))

/-- An accepted LIMITER_SET: all fields at one boundary (R85). -/
def State.acceptLimiter (s : State) (o : Nat) (en : Bool) (look thresh rel blk : Nat) : State :=
  let s := (s.wrAt blk (R.MIX_OUT_LIM_LIM_EN o) (b2n en)).wrAt blk (R.MIX_OUT_LIM_LIM_LOOK o) look
  (s.wrAt blk (R.MIX_OUT_LIM_LIM_THRESH o) thresh).wrAt blk (R.MIX_OUT_LIM_REL_LIM_REL o) rel

/-- A threshold code is −3,000 to 0 (R68, R312). -/
def threshOk (c : Int) : Bool := decide (-3000 ≤ c ∧ c ≤ 0)

/-- LIMITER_SET (R84, R85). -/
def execLimiterSet (h : Hdr) (output : BitVec 16) (en : Bool) (look : BitVec 8) (thresh : BitVec 16) (rel : BitVec 32) (s : State) :
    Host.Outcome State Fault Refusal :=
  let o := output.toNat
  let go (s : State) : State := s.acceptLimiter o en look.toNat thresh.toNat rel.toNat (s.hdrNext h)
  .next (s.receive h ⟨0x0404, (1, 0), .nextBlock, false, .other⟩
    (fun s i => ⟨lenIs h 10, s.ownsOut i o, false,
      (go s).thenCommit (firstBad [s.outId o, badUnless (threshOk thresh.toInt), badUnless (look.toNat < 64), badUnless (rel.toNat < 2 ^ 24)])⟩)
    (fun s _ => ((go s).afterCommit, some (.ok, []))))

/-- Accepted delays: at most one change of each output is pending (R71). -/
def State.acceptDelays (s : State) (es : List (BitVec 16 × BitVec 16)) (blk : Nat) : State :=
  es.foldl (fun s e => s.wrAt blk (R.MIX_OUT_CFG_DELAY e.1.toNat) e.2.toNat) s

/-- OUT_DELAY (R70, R71). -/
def execOutDelay (h : Hdr) (es : List (BitVec 16 × BitVec 16)) (s : State) : Host.Outcome State Fault Refusal :=
  let go (s : State) : State := s.acceptDelays es (s.hdrNext h)
  .next (s.receive h ⟨0x0405, (1, 0), .nextBlock, false, .other⟩
    (fun s i => ⟨lenIs h (2 + 4 * es.length), es.all (fun e => s.ownsOut i e.1.toNat), false,
      (go s).thenCommit (firstBad (countIn 1 64 es.length :: es.map (fun e => s.outId e.1.toNat)))⟩)
    (fun s _ => ((go s).afterCommit, some (.ok, []))))

/-! ### Staging and installing a filter (R80, R81, R91, R305) -/

/-- The staging set of an output. -/
def State.stagingOf (s : State) (o : Nat) : FirSet := s.mix.staging.get stagingReset o

def State.setStagingOf (s : State) (o : Nat) (f : FirSet) : State :=
  { s with mix := { s.mix with staging := s.mix.staging.set stagingReset o f } }

/-- Taps are written into a set from tap `k` up. -/
def FirSet.load (f : FirSet) (k : Nat) : List (BitVec 24) → FirSet
  | [] => f
  | t :: ts => FirSet.load { f with taps := f.taps.set 0 k (signedOf 18 (bits18 t)) } (k + 1) ts

/-- The set at length `l`: taps beyond it are discarded (R305). -/
def FirSet.resize (f : FirSet) (l : Nat) : FirSet := { f with len := l, taps := f.taps.filter (fun (p : Nat × Int) => p.1 < l) }

/-- FIR_LOAD (R305). -/
def execFirLoad (h : Hdr) (output : BitVec 16) (lm1 : BitVec 16) (first : BitVec 16) (taps : List (BitVec 24)) (s : State) :
    Host.Outcome State Fault Refusal :=
  let o := output.toNat
  let l := lm1.toNat + 1
  .next (s.receive h (op 0x0402 2 0 .other)
    (fun s i => ⟨lenIs h (8 + 3 * taps.length), s.ownsOut i o, false,
      firstBad [s.outId o, badUnless (l ≤ 16384), badUnless (first.toNat + taps.length ≤ l), (if s.inInstall o then .conflict else .ok)]⟩)
    (fun s _ => ((s.setStagingOf o (((s.stagingOf o).resize l).load first.toNat taps)).queueBulk (bulkStaging o), some (.ok, []))))

/-- The bytes of a staging set under its CRC-32 (R80): L − 1, then every tap in 3 bytes. -/
def FirSet.bytes (f : FirSet) : List Byte :=
  leBytes 2 (f.len - 1) ++ ((List.range f.len).map (fun k => leBytes 3 (unsignedOf 24 (f.taps.get 0 k)))).flatten

/-- A proposal that is current for an output (R89). -/
def State.proposalFor (s : State) (o id : Nat) : Option Proposal := s.mix.proposals.find? (fun p => p.output = o && p.id = id)

/-- The taps of a proposal as a set of 4,096 (R89, R91). -/
def Proposal.set (p : Proposal) : FirSet :=
  { len := 4096, taps := (List.range 4096).foldl (fun (c : Cells Int) k => c.set 0 k (Config.proposalTap p.bands k).toInt) [], failed := [] }

/-- One entry of FIR_INSTALL: an output in an install or named before, then the CRC or the proposal (R80). -/
def State.installEntry (s : State) (before : List Nat) (e : InstallReq) : Status :=
  let o := e.output.toNat
  if s.outId o ≠ .ok then s.outId o
  else if s.inInstall o || before.contains o then .conflict
  else if e.proposal then (if (s.proposalFor o e.word.toNat).isSome then .ok else .stale)
  else if (crc32 (s.stagingOf o).bytes).toNat = e.word.toNat then .ok else .check

/-- The entries in payload order. -/
def State.installEntries (s : State) : List Nat → List InstallReq → List Status
  | _, [] => []
  | before, e :: es => s.installEntry before e :: State.installEntries s (e.output.toNat :: before) es

/-- The outputs of an accepted install: a proposal is copied into the staging set; any proposal of the output is current no longer (R89). -/
def State.beginInstall (s : State) (p : Nat) (es : List InstallReq) : State :=
  es.foldl (fun s e =>
    let o := e.output.toNat
    let s := match (if e.proposal then s.proposalFor o e.word.toNat else none) with
      | some x => (s.setStagingOf o x.set).queueBulk (bulkStaging o)
      | none => s
    { s with mix := { s.mix with installs := s.mix.installs ++ [⟨o, p, none, false⟩], proposals := s.mix.proposals.filter (fun (x : Proposal) => x.output ≠ o) } }) s

/-- FIR_INSTALL (R80, R81, R91): a long operation of 150 ms. -/
def execFirInstall (h : Hdr) (es : List InstallReq) (s : State) : Host.Outcome State Fault Refusal :=
  let p := h.port.val
  .next (s.receive h (op 0x0403 2 0 .other)
    (fun s i => ⟨lenIs h (4 + 8 * es.length), es.all (fun e => s.ownsOut i e.output.toNat), decide (3 ≤ s.stage),
      (s.beginInstall p es).thenCommit (firstBad (countIn 1 64 es.length :: s.installEntries [] es ++
        [if 64 < (s.mix.installs.filter (fun x => !x.done)).length + es.length then .limit else .ok]))⟩)
    (fun s i => (((s.beginInstall p es).beginLong p i 0x0403 h.seq.toNat 150).afterCommit, none)))

/-! ### Identification (R86–R90) -/

/-- The values of IDENT_CONTROL (DEDUCED, log entry 86). -/
def State.identStatus (s : State) (r : IdentReq) : Status :=
  firstBad ([countIn 0 16 r.n.toNat, badUnless (r.slot.toNat < 64), badUnless (4 ≤ r.avg.toNat && r.avg.toNat ≤ 16), s.outId r.output.toNat,
    s.sourceStatus r.mic.toNat, badUnless (r.bulk.toNat ≤ 131071)] ++ (r.hearing.take r.n.toNat).map (fun o => s.outId o.toNat))

/-- The record of a slot as configured (R87), with the estimate it had unless RESET is set. -/
def IdentReq.record (r : IdentReq) (old : Option Ident) : Ident :=
  let keep := if r.reset then none else old
  { output := r.output.toNat, mic := r.mic.toNat, bulk := r.bulk.toNat, hearing := (r.hearing.take r.n.toNat).map BitVec.toNat,
    avg := r.avg.toNat, xt := if r.xt.toNat = 0 then 128 else r.xt.toNat, target := r.target.map BitVec.toInt,
    n := match keep with | some d => d.n | none => 0,
    lastBlk := match keep with | some d => d.lastBlk | none => 0,
    est := match keep with | some d => d.est | none => none }

/-- The record of a slot in use. -/
def State.identOf (s : State) (n : Nat) : Option Ident := (s.mix.idents.find? (fun p => p.1 = n)).map Prod.snd

/-- IDENT_CONTROL (R87): EN clear frees the slot. -/
def execIdentControl (h : Hdr) (r : IdentReq) (s : State) : Host.Outcome State Fault Refusal :=
  let n := r.slot.toNat
  .next (s.receive h (op 0x0406 3 0 .other)
    (fun s i => ⟨lenIs h 110, s.ownsOut i r.output.toNat, false, s.identStatus r⟩)
    (fun s _ => ({ s with mix := { s.mix with idents :=
        (if r.en then s.mix.idents.insert n (IdentReq.record r (s.identOf n)) else s.mix.idents.erase n) } }, some (.ok, []))))

/-- The coherence of a band as the record gives it; 0 without an estimate. -/
def Ident.coh (d : Ident) (b : Nat) : Nat := match d.est with | some e => (Config.identCoh e b).toNat | none => 0

/-- VALID (R88): N of 64 and γ² of 0.8 in at least 18 of the 21 bands from 100 Hz to 10 kHz, which are bands 7 to 27. -/
def Ident.valid (d : Ident) : Bool :=
  64 ≤ d.n && 18 ≤ ((List.range 21).filter (fun b => 4 * 256 ≤ 5 * d.coh (b + 7))).length

/-- Is the SNR figure of a coherence c / 256 at least `n` − 1/2 steps of 0.5 dB (R88): 10^((2n − 1) / 40) ≤ c / (256 − c)? -/
def snrAtLeast (c : Nat) (n : Int) : Bool :=
  if n ≤ 0 then (256 - c) ^ 40 ≤ c ^ 40 * 10 ^ (2 * n - 1).natAbs else (256 - c) ^ 40 * 10 ^ (2 * n - 1).natAbs ≤ c ^ 40

/-- The SNR figure of a band, 10 log10(γ² / (1 − γ²)) in 0.5 dB, to the nearest (R88) (DEDUCED, log entry 100). -/
def Ident.snr (d : Ident) (e b : Nat) : Nat :=
  let c := d.coh b
  if c = 0 then (Config.identSnrZero e b).toNat
  else unsignedOf 8 (((List.range 100).filter (fun (i : Nat) => snrAtLeast c ((i : Int) - 49))).length - 50)

/-- The lag of the estimate's peak: the first of its taps that is greatest in magnitude, counted from BULK − 512 (R87, R88) (DEDUCED, log entry 100). -/
def Ident.peakLag (d : Ident) : Nat :=
  match d.est with
  | none => 0
  | some e =>
    let mag (k : Nat) : Nat := (Config.identTap e k).toInt.natAbs
    let k := (List.range 4096).foldl (fun m k => if mag m < mag k then k else m) 0
    unsignedOf 32 ((d.bulk : Int) - 512 + k)

/-- The bands of an estimate: magnitude, γ², SNR (R88). -/
def Ident.bands (d : Ident) : List Byte :=
  match d.est with
  | some e => ((List.range 31).map (fun b =>
      leBytes 2 (Config.identMag e b).toNat ++ leBytes 1 (Config.identCoh e b).toNat ++ leBytes 1 (d.snr e b))).flatten
  | none => leBytes 124 0

/-- The estimate, 4,096 taps of 3 bytes (R90). -/
def Ident.taps (d : Ident) : List Byte :=
  match d.est with
  | some e => ((List.range 4096).map (fun k => leBytes 3 (unsignedOf 24 (Config.identTap e k).toInt))).flatten
  | none => leBytes 12288 0

/-- The 24,736 bytes of R90. -/
def Ident.record (d : Ident) (slot : Nat) (p : Option Proposal) : List Byte :=
  let head := leBytes 2 slot ++ leBytes 2 d.output ++ leBytes 2 d.mic ++ leBytes 2 (b2n d.valid + 2 * b2n p.isSome) ++ leBytes 8 d.lastBlk ++
    leBytes 4 d.n ++ leBytes 4 d.bulk ++ leBytes 4 d.peakLag ++
    leBytes 4 (match p with | some x => x.id | none => 0) ++ d.bands ++ d.taps ++
    (match p with
      | some x => ((List.range 4096).map (fun k => leBytes 3 (unsignedOf 24 (Config.proposalTap x.bands k).toInt))).flatten
      | none => leBytes 12288 0)
  head ++ leBytes 4 (crc32 head).toNat

/-- A slot that is free (DESIGN CHOICE, log entry 27). -/
def identNone : Ident := { output := 0, mic := 0, bulk := 0, hearing := [], avg := 4, xt := 128, target := [], n := 0, lastBlk := 0, est := none }

/-- The gain of each band that a proposal asks for (R89 steps 1 to 3), in 0.02 dB: target minus magnitude, the 1 kHz band (number 17) at 0 dB, 0 dB where γ² is below 0.8,
the rest within −12 … +6 dB. -/
def Ident.wanted (d : Ident) (e : Nat) : List Int :=
  let diff (b : Nat) : Int := d.target.getD b 0 - (Config.identMag e b).toInt
  (List.range 31).map (fun b => if 5 * d.coh b < 4 * 256 then 0 else clampI (-600) 300 (diff b - diff 17))

/-- A proposal is designed (R89): the next identifier, never 0; the taps follow from the bands (log entry 8). -/
def State.propose (s : State) (d : Ident) : State × Proposal :=
  let p : Proposal := ⟨s.mix.propNext, d.output, d.wanted (d.est.getD 0)⟩
  let next := if (s.mix.propNext + 1) % 2 ^ 32 = 0 then 1 else (s.mix.propNext + 1) % 2 ^ 32
  ({ s with mix := { s.mix with proposals := s.mix.proposals.filter (fun (x : Proposal) => x.output ≠ d.output) ++ [p], propNext := next } }, p)

/-- The opcode of IDENT_EXPORT. -/
def opIdentExport : Nat := 0x0407

/-- IDENT_EXPORT (R90): a long operation of 2 s. PROPOSE needs the owner of the slot's output. -/
def execIdentExport (h : Hdr) (slot : BitVec 8) (propose : Bool) (s : State) : Host.Outcome State Fault Refusal :=
  let n := slot.toNat
  let p := h.port.val
  .next (s.receive h (op opIdentExport 3 0 .other)
    (fun s i => ⟨lenIs h 2, !propose || (match s.identOf n with | some d => s.ownsOut i d.output | none => true), false, badUnless (n < 64)⟩)
    (fun s i => ((s.beginLong p i opIdentExport h.seq.toNat 2000).longArg p (n + 256 * b2n propose), none)))

/-- IDENT_EXPORT_COMPLETE (R89, R90) (DESIGN CHOICE, log entry 27). Without PROPOSE the record shows no proposal, even where one is current (DESIGN CHOICE, log entry 101). -/
def execIdentExportComplete (port : Fin 6) (t : Nat) (s : State) : Host.Outcome State Fault Refusal :=
  let s := s.atRaw t
  .next (match (s.port port.val).busy with
    | some l =>
      if l.op ≠ opIdentExport then s
      else
        let n := l.arg % 256
        let d := (s.identOf n).getD identNone
        if 256 ≤ l.arg && d.valid then
          let (s, p) := s.propose d
          s.endLong port.val .ok (d.record n (some p))
        else s.endLong port.val .ok (d.record n none)
    | none => s)

end Sys2Proof.Machine
end

