-- ==== Sys2Proof/Machine/Dispatch.lean ====
section
/-! DEFINITION. Dispatch: one arm per constructor of `Instr`, each a direct call of that command's meaning. -/

namespace Sys2Proof.Machine

open Sys2Proof

def exec (i : Instr) (s : State) : Host.Outcome State Fault Refusal :=
  match i with
  | .blockBoundary bus t => Sys2Proof.Machine.execBlockBoundary bus t s
  | .tapListComplete blk => Sys2Proof.Machine.execTapListComplete blk s
  | .landingDeadline specFail specLate t => Sys2Proof.Machine.execLandingDeadline specFail specLate t s
  | .releaseDeadline lateOuts t => Sys2Proof.Machine.execReleaseDeadline lateOuts t s
  | .soundRateUpdate code t => Sys2Proof.Machine.execSoundRateUpdate code t s
  | .tilePresent source seq payload nonAudio t => Sys2Proof.Machine.execTilePresent source seq payload nonAudio t s
  | .longRingCopy ring blk => Sys2Proof.Machine.execLongRingCopy ring blk s
  | .longCopyOverdue ring blk => Sys2Proof.Machine.execLongCopyOverdue ring blk s
  | .panicStart got t => Sys2Proof.Machine.execPanicStart got t s
  | .longReadAge got t => Sys2Proof.Machine.execLongReadAge got t s
  | .longTileDeadline got t => Sys2Proof.Machine.execLongTileDeadline got t s
  | .scrubRead t => Sys2Proof.Machine.execScrubRead t s
  | .odlyTileDeadline output blk => Sys2Proof.Machine.execOdlyTileDeadline output blk s
  | .installSpectraDone output t => Sys2Proof.Machine.execInstallSpectraDone output t s
  | .identFrame frames => Sys2Proof.Machine.execIdentFrame frames s
  | .dispatch waited blocked => Sys2Proof.Machine.execDispatch waited blocked s
  | .giveAccept core waited full => Sys2Proof.Machine.execGiveAccept core waited full s
  | .doneComplete core => Sys2Proof.Machine.execDoneComplete core s
  | .windowRelease flow => Sys2Proof.Machine.execWindowRelease flow s
  | .sliceOverrun core t => Sys2Proof.Machine.execSliceOverrun core t s
  | .supervisorPost word => Sys2Proof.Machine.execSupervisorPost word s
  | .portReadArrival core index => Sys2Proof.Machine.execPortReadArrival core index s
  | .drvNop at_ => Sys2Proof.Machine.execDrvNop at_ s
  | .drvMac at_ f => Sys2Proof.Machine.execDrvMac at_ f s
  | .drvCmr at_ f => Sys2Proof.Machine.execDrvCmr at_ f s
  | .drvCmi at_ f => Sys2Proof.Machine.execDrvCmi at_ f s
  | .drvAccw at_ f => Sys2Proof.Machine.execDrvAccw at_ f s
  | .drvMova at_ f => Sys2Proof.Machine.execDrvMova at_ f s
  | .drvAmovx at_ f => Sys2Proof.Machine.execDrvAmovx at_ f s
  | .drvLcoef at_ f => Sys2Proof.Machine.execDrvLcoef at_ f s
  | .drvVadd at_ f => Sys2Proof.Machine.execDrvVadd at_ f s
  | .drvVsub at_ f => Sys2Proof.Machine.execDrvVsub at_ f s
  | .drvVmax at_ f => Sys2Proof.Machine.execDrvVmax at_ f s
  | .drvVmin at_ f => Sys2Proof.Machine.execDrvVmin at_ f s
  | .drvVabs at_ f => Sys2Proof.Machine.execDrvVabs at_ f s
  | .drvVshr at_ f => Sys2Proof.Machine.execDrvVshr at_ f s
  | .drvVshl at_ f => Sys2Proof.Machine.execDrvVshl at_ f s
  | .drvVswp at_ f => Sys2Proof.Machine.execDrvVswp at_ f s
  | .drvVbc at_ f => Sys2Proof.Machine.execDrvVbc at_ f s
  | .drvVmov at_ f => Sys2Proof.Machine.execDrvVmov at_ f s
  | .drvMovxv at_ f => Sys2Proof.Machine.execDrvMovxv at_ f s
  | .drvMovvx at_ f => Sys2Proof.Machine.execDrvMovvx at_ f s
  | .drvTapph at_ f => Sys2Proof.Machine.execDrvTapph at_ f s
  | .drvTapgn at_ f => Sys2Proof.Machine.execDrvTapgn at_ f s
  | .drvLdv at_ f => Sys2Proof.Machine.execDrvLdv at_ f s
  | .drvStv at_ f => Sys2Proof.Machine.execDrvStv at_ f s
  | .drvSta at_ f => Sys2Proof.Machine.execDrvSta at_ f s
  | .drvStas at_ f => Sys2Proof.Machine.execDrvStas at_ f s
  | .drvLdw at_ f => Sys2Proof.Machine.execDrvLdw at_ f s
  | .drvStw at_ f => Sys2Proof.Machine.execDrvStw at_ f s
  | .drvLdwf at_ f => Sys2Proof.Machine.execDrvLdwf at_ f s
  | .drvStwf at_ f => Sys2Proof.Machine.execDrvStwf at_ f s
  | .drvAdd at_ f => Sys2Proof.Machine.execDrvAdd at_ f s
  | .drvSub at_ f => Sys2Proof.Machine.execDrvSub at_ f s
  | .drvAnd at_ f => Sys2Proof.Machine.execDrvAnd at_ f s
  | .drvOr at_ f => Sys2Proof.Machine.execDrvOr at_ f s
  | .drvXor at_ f => Sys2Proof.Machine.execDrvXor at_ f s
  | .drvShl at_ f => Sys2Proof.Machine.execDrvShl at_ f s
  | .drvShr at_ f => Sys2Proof.Machine.execDrvShr at_ f s
  | .drvSra at_ f => Sys2Proof.Machine.execDrvSra at_ f s
  | .drvCmp at_ f => Sys2Proof.Machine.execDrvCmp at_ f s
  | .drvMulx at_ f => Sys2Proof.Machine.execDrvMulx at_ f s
  | .drvExtu at_ f => Sys2Proof.Machine.execDrvExtu at_ f s
  | .drvExts at_ f => Sys2Proof.Machine.execDrvExts at_ f s
  | .drvAddi at_ f => Sys2Proof.Machine.execDrvAddi at_ f s
  | .drvMovi at_ f => Sys2Proof.Machine.execDrvMovi at_ f s
  | .drvMovhi at_ f => Sys2Proof.Machine.execDrvMovhi at_ f s
  | .drvAgset at_ f => Sys2Proof.Machine.execDrvAgset at_ f s
  | .drvAgget at_ f => Sys2Proof.Machine.execDrvAgget at_ f s
  | .drvMts at_ f => Sys2Proof.Machine.execDrvMts at_ f s
  | .drvMfs at_ f => Sys2Proof.Machine.execDrvMfs at_ f s
  | .drvScstep at_ f => Sys2Proof.Machine.execDrvScstep at_ f s
  | .drvBr at_ f => Sys2Proof.Machine.execDrvBr at_ f s
  | .drvBrx at_ f => Sys2Proof.Machine.execDrvBrx at_ f s
  | .drvCall at_ f => Sys2Proof.Machine.execDrvCall at_ f s
  | .drvLoop at_ f => Sys2Proof.Machine.execDrvLoop at_ f s
  | .drvReti at_ f => Sys2Proof.Machine.execDrvReti at_ f s
  | .drvTake at_ f => Sys2Proof.Machine.execDrvTake at_ f s
  | .drvGive at_ f => Sys2Proof.Machine.execDrvGive at_ f s
  | .drvDone at_ f => Sys2Proof.Machine.execDrvDone at_ f s
  | .drvTapset at_ f => Sys2Proof.Machine.execDrvTapset at_ f s
  | .drvTaprd at_ f => Sys2Proof.Machine.execDrvTaprd at_ f s
  | .drvAccadd at_ f => Sys2Proof.Machine.execDrvAccadd at_ f s
  | .drvAccrc at_ f => Sys2Proof.Machine.execDrvAccrc at_ f s
  | .drvCoreReset core => Sys2Proof.Machine.execDrvCoreReset core s
  | .coreRun core => Sys2Proof.Machine.execCoreRun core s
  | .haltReq core => Sys2Proof.Machine.execHaltReq core s
  | .drvStep core => Sys2Proof.Machine.execDrvStep core s
  | .drvResume core => Sys2Proof.Machine.execDrvResume core s
  | .swapReq => Sys2Proof.Machine.execSwapReq s
  | .verifyComplete t => Sys2Proof.Machine.execVerifyComplete t s
  | .slHold hold => Sys2Proof.Machine.execSlHold hold s
  | .slArm => Sys2Proof.Machine.execSlArm s
  | .tdmFrame port len bits fsRise fsFall t => Sys2Proof.Machine.execTdmFrame port len bits fsRise fsFall t s
  | .aes3Frame input z a b fs t => Sys2Proof.Machine.execAes3Frame input z a b fs t s
  | .asrcWindow aes port => Sys2Proof.Machine.execAsrcWindow aes port s
  | .asrcFsTimeout aes port t => Sys2Proof.Machine.execAsrcFsTimeout aes port t s
  | .micZeroCrossing mic before after => Sys2Proof.Machine.execMicZeroCrossing mic before after s
  | .zcTimeout mic t => Sys2Proof.Machine.execZcTimeout mic t s
  | .micDetectionSample mic c0 c1 c2 c3 t => Sys2Proof.Machine.execMicDetectionSample mic c0 c1 c2 c3 t s
  | .idleBandHold mic t => Sys2Proof.Machine.execIdleBandHold mic t s
  | .faultBandHold mic t => Sys2Proof.Machine.execFaultBandHold mic t s
  | .pressDebounce mic t => Sys2Proof.Machine.execPressDebounce mic t s
  | .releaseDebounce mic t => Sys2Proof.Machine.execReleaseDebounce mic t s
  | .switchingPeriod ch bus oc t => Sys2Proof.Machine.execSwitchingPeriod ch bus oc t s
  | .trip ch t => Sys2Proof.Machine.execTrip ch t s
  | .probeStart ch t => Sys2Proof.Machine.execProbeStart ch t s
  | .probeEnd ch sums t => Sys2Proof.Machine.execProbeEnd ch sums t s
  | .restartRampEnd ch t => Sys2Proof.Machine.execRestartRampEnd ch t s
  | .principalTripFree ch t => Sys2Proof.Machine.execPrincipalTripFree ch t s
  | .dcCheck ch sum t => Sys2Proof.Machine.execDcCheck ch sum t s
  | .loopWindow ch codes t => Sys2Proof.Machine.execLoopWindow ch codes t s
  | .startComplete ch t => Sys2Proof.Machine.execStartComplete ch t s
  | .stopComplete ch t => Sys2Proof.Machine.execStopComplete ch t s
  | .clearFaultShort ch t => Sys2Proof.Machine.execClearFaultShort ch t s
  | .clearFaultDc ch t => Sys2Proof.Machine.execClearFaultDc ch t s
  | .clearFaultOpen ch t => Sys2Proof.Machine.execClearFaultOpen ch t s
  | .testWindowOpen t => Sys2Proof.Machine.execTestWindowOpen t s
  | .testWindowClose t => Sys2Proof.Machine.execTestWindowClose t s
  | .lineTestSlot t => Sys2Proof.Machine.execLineTestSlot t s
  | .correlationStart t => Sys2Proof.Machine.execCorrelationStart t s
  | .correlationEnd sums farRe farIm t => Sys2Proof.Machine.execCorrelationEnd sums farRe farIm t s
  | .pilotRemoved t => Sys2Proof.Machine.execPilotRemoved t s
  | .programLimitExceeded ch t => Sys2Proof.Machine.execProgramLimitExceeded ch t s
  | .lineTestRetry t => Sys2Proof.Machine.execLineTestRetry t s
  | .baselineCaptureEnd meas t => Sys2Proof.Machine.execBaselineCaptureEnd meas t s
  | .selfTestStart t => Sys2Proof.Machine.execSelfTestStart t s
  | .selfTestHalt t => Sys2Proof.Machine.execSelfTestHalt t s
  | .selfTestBreakpoint t => Sys2Proof.Machine.execSelfTestBreakpoint t s
  | .selfTestTimeout t => Sys2Proof.Machine.execSelfTestTimeout t s
  | .dramScrubSlice n t => Sys2Proof.Machine.execDramScrubSlice n t s
  | .dramScrubTimeout t => Sys2Proof.Machine.execDramScrubTimeout t s
  | .foldPatternCheck t => Sys2Proof.Machine.execFoldPatternCheck t s
  | .foldPatternResult errors => Sys2Proof.Machine.execFoldPatternResult errors s
  | .senseReferenceCheck ch plus minus t => Sys2Proof.Machine.execSenseReferenceCheck ch plus minus t s
  | .rxFrame mac bytes err cap t => Sys2Proof.Machine.execRxFrame mac bytes err cap t s
  | .pauseExpiry mac t => Sys2Proof.Machine.execPauseExpiry mac t s
  | .txFrameStart mac cap t => Sys2Proof.Machine.execTxFrameStart mac cap t s
  | .txFrameEnd mac underrun => Sys2Proof.Machine.execTxFrameEnd mac underrun s
  | .linkChange mac link => Sys2Proof.Machine.execLinkChange mac link s
  | .mdioTransfer word => Sys2Proof.Machine.execMdioTransfer word s
  | .mdioComplete data => Sys2Proof.Machine.execMdioComplete data s
  | .servoStep theta t => Sys2Proof.Machine.execServoStep theta t s
  | .holdoverTimeout t => Sys2Proof.Machine.execHoldoverTimeout t s
  | .conversion lo => Sys2Proof.Machine.execConversion lo s
  | .txqRead mac => Sys2Proof.Machine.execTxqRead mac s
  | .announceTimeout t => Sys2Proof.Machine.execAnnounceTimeout t s
  | .ppsInput t => Sys2Proof.Machine.execPpsInput t s
  | .ppsOutput t => Sys2Proof.Machine.execPpsOutput t s
  | .streamPacket mac ring t => Sys2Proof.Machine.execStreamPacket mac ring t s
  | .legDown ctx t => Sys2Proof.Machine.execLegDown ctx t s
  | .spiWrite port whole t => Sys2Proof.Machine.execSpiWrite port whole t s
  | .spiRead port t => Sys2Proof.Machine.execSpiRead port t s
  | .spiStatus port t => Sys2Proof.Machine.execSpiStatus port t s
  | .halfOpenTimeout sess t => Sys2Proof.Machine.execHalfOpenTimeout sess t s
  | .keepaliveTimeout sess t => Sys2Proof.Machine.execKeepaliveTimeout sess t s
  | .resetDelay straps t => Sys2Proof.Machine.execResetDelay straps t s
  | .scheduledAction index t => Sys2Proof.Machine.execScheduledAction index t s
  | .sessionOpen h r => Sys2Proof.Machine.execSessionOpen h r s
  | .sessionClose h => Sys2Proof.Machine.execSessionClose h s
  | .keepalive h => Sys2Proof.Machine.execKeepalive h s
  | .claim h refs => Sys2Proof.Machine.execClaim h refs s
  | .release h refs => Sys2Proof.Machine.execRelease h refs s
  | .preempt h refs => Sys2Proof.Machine.execPreempt h refs s
  | .objDefine h o r => Sys2Proof.Machine.execObjDefine h o r s
  | .objMove h ms => Sys2Proof.Machine.execObjMove h ms s
  | .objPath h o w => Sys2Proof.Machine.execObjPath h o w s
  | .objGain h es => Sys2Proof.Machine.execObjGain h es s
  | .objMute h es => Sys2Proof.Machine.execObjMute h es s
  | .objQuery h first n => Sys2Proof.Machine.execObjQuery h first n s
  | .spkLayoutLoad h first rs => Sys2Proof.Machine.execSpkLayoutLoad h first rs s
  | .pastureBuild h ds => Sys2Proof.Machine.execPastureBuild h ds s
  | .zoneDefine h zone alarm outs => Sys2Proof.Machine.execZoneDefine h zone alarm outs s
  | .routeSet h bus en mute home code mask ins => Sys2Proof.Machine.execRouteSet h bus en mute home code mask ins s
  | .routeQuery h sel index => Sys2Proof.Machine.execRouteQuery h sel index s
  | .eqSet h output headroom cs => Sys2Proof.Machine.execEqSet h output headroom cs s
  | .firLoad h output lm1 first taps => Sys2Proof.Machine.execFirLoad h output lm1 first taps s
  | .firInstall h es => Sys2Proof.Machine.execFirInstall h es s
  | .limiterSet h output en look thresh rel => Sys2Proof.Machine.execLimiterSet h output en look thresh rel s
  | .outDelay h es => Sys2Proof.Machine.execOutDelay h es s
  | .identControl h r => Sys2Proof.Machine.execIdentControl h r s
  | .identExport h slot propose => Sys2Proof.Machine.execIdentExport h slot propose s
  | .streamRxSet h r => Sys2Proof.Machine.execStreamRxSet h r s
  | .streamTxSet h r => Sys2Proof.Machine.execStreamTxSet h r s
  | .portTdmSet h port cfg tol maskIn maskOut map => Sys2Proof.Machine.execPortTdmSet h port cfg tol maskIn maskOut map s
  | .portAesSet h dir index cfg map template => Sys2Proof.Machine.execPortAesSet h dir index cfg map template s
  | .micSet h input cfg det => Sys2Proof.Machine.execMicSet h input cfg det s
  | .asrcSet h ch bw cfg => Sys2Proof.Machine.execAsrcSet h ch bw cfg s
  | .psConfig h ch w => Sys2Proof.Machine.execPsConfig h ch w s
  | .psEnable h es => Sys2Proof.Machine.execPsEnable h es s
  | .psLoopPair h ch pair => Sys2Proof.Machine.execPsLoopPair h ch pair s
  | .psBandProtect h freqs => Sys2Proof.Machine.execPsBandProtect h freqs s
  | .psStatus h first n => Sys2Proof.Machine.execPsStatus h first n s
  | .psFaultClear h es => Sys2Proof.Machine.execPsFaultClear h es s
  | .tallySchedule h r => Sys2Proof.Machine.execTallySchedule h r s
  | .tallyRunNow h test subject => Sys2Proof.Machine.execTallyRunNow h test subject s
  | .tallyLogRead h index n => Sys2Proof.Machine.execTallyLogRead h index n s
  | .baselineCapture h chs => Sys2Proof.Machine.execBaselineCapture h chs s
  | .timeConfig h r => Sys2Proof.Machine.execTimeConfig h r s
  | .timeStatus h => Sys2Proof.Machine.execTimeStatus h s
  | .scheduleEvent h action gpio tag => Sys2Proof.Machine.execScheduleEvent h action gpio tag s
  | .mirrorConfig h en prefer => Sys2Proof.Machine.execMirrorConfig h en prefer s
  | .mirrorStatus h => Sys2Proof.Machine.execMirrorStatus h s
  | .mirrorSwitchover h => Sys2Proof.Machine.execMirrorSwitchover h s
  | .attest h nonce => Sys2Proof.Machine.execAttest h nonce s
  | .certRead h which => Sys2Proof.Machine.execCertRead h which s
  | .fwBegin h length sha => Sys2Proof.Machine.execFwBegin h length sha s
  | .fwChunk h off data => Sys2Proof.Machine.execFwChunk h off data s
  | .fwCommit h => Sys2Proof.Machine.execFwCommit h s
  | .keyRotate h es => Sys2Proof.Machine.execKeyRotate h es s
  | .paramRead h pids => Sys2Proof.Machine.execParamRead h pids s
  | .paramWrite h es => Sys2Proof.Machine.execParamWrite h es s
  | .safeStage h es => Sys2Proof.Machine.execSafeStage h es s
  | .safeCommit h action => Sys2Proof.Machine.execSafeCommit h action s
  | .countersRead h ids => Sys2Proof.Machine.execCountersRead h ids s
  | .msgStore h r data => Sys2Proof.Machine.execMsgStore h r data s
  | .msgPlay h m loop repeats gap => Sys2Proof.Machine.execMsgPlay h m loop repeats gap s
  | .msgStop h m atEnd => Sys2Proof.Machine.execMsgStop h m atEnd s
  | .shedConfig h s2 s3 s4 hyst dwell => Sys2Proof.Machine.execShedConfig h s2 s3 s4 hyst dwell s
  | .supplyStatus h => Sys2Proof.Machine.execSupplyStatus h s
  | .maintEnter h enter => Sys2Proof.Machine.execMaintEnter h enter s
  | .rawRead h addr n => Sys2Proof.Machine.execRawRead h addr n s
  | .rawWrite h addr words => Sys2Proof.Machine.execRawWrite h addr words s
  | .reset h => Sys2Proof.Machine.execReset h s
  | .disagreement core kind addr t => Sys2Proof.Machine.execDisagreement core kind addr t s
  | .heartbeatPeriod t => Sys2Proof.Machine.execHeartbeatPeriod t s
  | .hello f t => Sys2Proof.Machine.execHello f t s
  | .heartbeat f t => Sys2Proof.Machine.execHeartbeat f t s
  | .hbPinEdge t => Sys2Proof.Machine.execHbPinEdge t s
  | .heartbeatMiss fold t => Sys2Proof.Machine.execHeartbeatMiss fold t s
  | .actiChange high t => Sys2Proof.Machine.execActiChange high t s
  | .arbitrationTimeout t => Sys2Proof.Machine.execArbitrationTimeout t s
  | .copyFix room t => Sys2Proof.Machine.execCopyFix room t s
  | .copy f c t => Sys2Proof.Machine.execCopy f c t s
  | .bulk f items outstanding t => Sys2Proof.Machine.execBulk f items outstanding t s
  | .pattern errors t => Sys2Proof.Machine.execPattern errors t s
  | .handoverChannelStart t => Sys2Proof.Machine.execHandoverChannelStart t s
  | .handoverEnd t => Sys2Proof.Machine.execHandoverEnd t s
  | .dramRequest arrivals grants serve t => Sys2Proof.Machine.execDramRequest arrivals grants serve t s
  | .rowIdleClose ch bank t => Sys2Proof.Machine.execRowIdleClose ch bank t s
  | .refresh ch t => Sys2Proof.Machine.execRefresh ch t s
  | .dqsOscillatorRead drift0 drift1 t => Sys2Proof.Machine.execDqsOscillatorRead drift0 drift1 t s
  | .trainReq t => Sys2Proof.Machine.execTrainReq t s
  | .retrainStep ch last t => Sys2Proof.Machine.execRetrainStep ch last t s
  | .retrainTimeout t => Sys2Proof.Machine.execRetrainTimeout t s
  | .trainingComplete ok0 ok1 t => Sys2Proof.Machine.execTrainingComplete ok0 ok1 t s
  | .powerDownIdle ch t => Sys2Proof.Machine.execPowerDownIdle ch t s
  | .fabErrinfoRead => Sys2Proof.Machine.execFabErrinfoRead s
  | .sysRemapSwap word => Sys2Proof.Machine.execSysRemapSwap word s
  | .powerOnReset straps t => Sys2Proof.Machine.execPowerOnReset straps t s
  | .externalReset straps t => Sys2Proof.Machine.execExternalReset straps t s
  | .railFail straps t => Sys2Proof.Machine.execRailFail straps t s
  | .rcReady t => Sys2Proof.Machine.execRcReady t s
  | .trimWrite word t => Sys2Proof.Machine.execTrimWrite word t s
  | .rcTrimInterval count => Sys2Proof.Machine.execRcTrimInterval count s
  | .xoStartDelay t => Sys2Proof.Machine.execXoStartDelay t s
  | .xoStartTimeout t => Sys2Proof.Machine.execXoStartTimeout t s
  | .monitorWindow src count expected t => Sys2Proof.Machine.execMonitorWindow src count expected t s
  | .monitorNoEdge src t => Sys2Proof.Machine.execMonitorNoEdge src t s
  | .pllUnlock src t => Sys2Proof.Machine.execPllUnlock src t s
  | .restore => Sys2Proof.Machine.execRestore s
  | .gateRunWrite cores word t => Sys2Proof.Machine.execGateRunWrite cores word t s
  | .gatesClose t => Sys2Proof.Machine.execGatesClose t s
  | .quiescenceTimeout notIdle t => Sys2Proof.Machine.execQuiescenceTimeout notIdle t s
  | .wake cause t => Sys2Proof.Machine.execWake cause t s
  | .deepSleepClose notIdle t => Sys2Proof.Machine.execDeepSleepClose notIdle t s
  | .mainsDebounce high t => Sys2Proof.Machine.execMainsDebounce high t s
  | .brownout t => Sys2Proof.Machine.execBrownout t s
  | .brownoutRecovery straps t => Sys2Proof.Machine.execBrownoutRecovery straps t s
  | .supervisorRelease a b cfgOk t => Sys2Proof.Machine.execSupervisorRelease a b cfgOk t s
  | .evacuationTrigger n t => Sys2Proof.Machine.execEvacuationTrigger n t s
  | .setField t => Sys2Proof.Machine.execSetField t s
  | .faultInjection core t => Sys2Proof.Machine.execFaultInjection core t s
  | .registerWrite master core addr word lanes t => Sys2Proof.Machine.execRegisterWrite master core addr word lanes t s
  | .identExportComplete port t => Sys2Proof.Machine.execIdentExportComplete port t s
  | .fwCommitComplete shaOk header t => Sys2Proof.Machine.execFwCommitComplete shaOk header t s
  | .keyRotateComplete t => Sys2Proof.Machine.execKeyRotateComplete t s
  | .primaryTimePortReturn t => Sys2Proof.Machine.execPrimaryTimePortReturn t s
  | .foldBlockLockLoss lost t => Sys2Proof.Machine.execFoldBlockLockLoss lost t s

end Sys2Proof.Machine
end

