-- ==== Sys2Proof/Safety.lean ====
section
/-! DEFINITION. What a safe run is, in the terms the statements use: the parts of the state and which of them a command may
change, the canonical form of memory and registers, the one-time memory, and when a host command is accepted (R277). -/

namespace Sys2Proof.Machine

open Sys2Proof

/-- The parts of the state: one for each field of `State`. -/
inductive Part where
  | regs
  | live
  | liveHist
  | tm
  | mem
  | free
  | latches
  | straps
  | geo
  | hst
  | mix
  | sched
  | ost
  | cores
  | tdm
  | aes
  | aesOut
  | vox
  | asc
  | mics
  | bound
  | ps
  | tly
  | macs
  | ptp
  | srx
  | stx
  | acts
  | gpio
  | pins
  | sessions
  | owner
  | former
  | ports
  | devBusy
  | enrol
  | msgs
  | plays
  | fw
  | flash
  | otp
  | maint
  | triggers
  | armed
  | totals
  | totalsAt
  | lib
  | bwt
  | mir
  | cel
  | fab
  | clk
  | sup
  | image
  | pending
  deriving DecidableEq, Repr

/-- A part is the same in two states. -/
def Part.same : Part → State → State → Prop
  | .regs, s, t => t.regs = s.regs
  | .live, s, t => t.live = s.live
  | .liveHist, s, t => t.liveHist = s.liveHist
  | .tm, s, t => t.tm = s.tm
  | .mem, s, t => t.mem = s.mem
  | .free, s, t => t.free = s.free
  | .latches, s, t => t.latches = s.latches
  | .straps, s, t => t.straps = s.straps
  | .geo, s, t => t.geo = s.geo
  | .hst, s, t => t.hst = s.hst
  | .mix, s, t => t.mix = s.mix
  | .sched, s, t => t.sched = s.sched
  | .ost, s, t => t.ost = s.ost
  | .cores, s, t => t.cores = s.cores
  | .tdm, s, t => t.tdm = s.tdm
  | .aes, s, t => t.aes = s.aes
  | .aesOut, s, t => t.aesOut = s.aesOut
  | .vox, s, t => t.vox = s.vox
  | .asc, s, t => t.asc = s.asc
  | .mics, s, t => t.mics = s.mics
  | .bound, s, t => t.bound = s.bound
  | .ps, s, t => t.ps = s.ps
  | .tly, s, t => t.tly = s.tly
  | .macs, s, t => t.macs = s.macs
  | .ptp, s, t => t.ptp = s.ptp
  | .srx, s, t => t.srx = s.srx
  | .stx, s, t => t.stx = s.stx
  | .acts, s, t => t.acts = s.acts
  | .gpio, s, t => t.gpio = s.gpio
  | .pins, s, t => t.pins = s.pins
  | .sessions, s, t => t.sessions = s.sessions
  | .owner, s, t => t.owner = s.owner
  | .former, s, t => t.former = s.former
  | .ports, s, t => t.ports = s.ports
  | .devBusy, s, t => t.devBusy = s.devBusy
  | .enrol, s, t => t.enrol = s.enrol
  | .msgs, s, t => t.msgs = s.msgs
  | .plays, s, t => t.plays = s.plays
  | .fw, s, t => t.fw = s.fw
  | .flash, s, t => t.flash = s.flash
  | .otp, s, t => t.otp = s.otp
  | .maint, s, t => t.maint = s.maint
  | .triggers, s, t => t.triggers = s.triggers
  | .armed, s, t => t.armed = s.armed
  | .totals, s, t => t.totals = s.totals
  | .totalsAt, s, t => t.totalsAt = s.totalsAt
  | .lib, s, t => t.lib = s.lib
  | .bwt, s, t => t.bwt = s.bwt
  | .mir, s, t => t.mir = s.mir
  | .cel, s, t => t.cel = s.cel
  | .fab, s, t => t.fab = s.fab
  | .clk, s, t => t.clk = s.clk
  | .sup, s, t => t.sup = s.sup
  | .image, s, t => t.image = s.image
  | .pending, s, t => t.pending = s.pending

/-- Sparse memory and the two register files are in canonical form: equal contents are equal data. -/
def State.canonical (s : State) : Bool := Memory.wf s.mem && Cells.wf 0 s.regs && Cells.wf 0 s.live

/-- The one-time memory only ever gains bits: the device identifier stays, the rollback counter never decreases (R386), a revoked
key stays revoked (R386), the life cycle leaves FIELD never again (R394). -/
def Otp.le (a b : Otp) : Prop :=
  b.devId = a.devId ∧ a.rollback ≤ b.rollback ∧ (∀ i, a.revoked.testBit i = true → b.revoked.testBit i = true) ∧
    (a.inField = true → b.inField = true)

/-- Everything but the queue. -/
def Part.allButQueue : List Part :=
  [.regs, .live, .liveHist, .tm, .mem, .free, .latches, .straps, .geo, .hst, .mix, .sched, .ost, .cores, .tdm,
   .aes, .aesOut, .vox, .asc, .mics, .bound, .ps, .tly, .macs, .ptp, .srx, .stx, .acts, .gpio, .pins, .sessions,
   .owner, .former, .ports, .devBusy, .enrol, .msgs, .plays, .fw, .flash, .otp, .maint, .triggers, .armed, .totals,
   .totalsAt, .lib, .bwt, .mir, .cel, .fab, .clk, .sup, .image]

/-- The parts of the state a command may change; every other part is as it was. A host command may change the registers (counters),
its port and its session beside what it acts on (R277). A command that reaches registers over the matrix may change whatever the
register it reaches acts on. -/
def changes : Instr → List Part
  | .blockBoundary _ _ => 
    [.regs, .live, .liveHist, .tm, .mem, .geo, .hst, .mix, .sched, .ost, .cores, .tdm, .aes, .aesOut, .asc, .mics,
    .bound, .ps, .tly, .macs, .srx, .stx, .sessions, .owner, .former, .ports, .plays, .fw, .otp, .maint, .armed,
    .totals, .totalsAt, .bwt, .mir, .cel, .clk, .sup]
  | .tapListComplete _ => [.regs, .geo]
  | .landingDeadline _ _ _ => [.regs, .tm, .mem, .geo, .hst, .mix, .ost, .srx, .plays, .cel]
  | .releaseDeadline _ _ => [.regs, .tm, .mem, .free, .mix, .tly, .macs]
  | .soundRateUpdate _ _ => [.regs, .tm, .geo, .sched]
  | .tilePresent _ _ _ _ _ => [.regs, .tm, .mem, .hst, .vox, .mics]
  | .longRingCopy _ _ => [.regs, .hst, .cel]
  | .longCopyOverdue _ _ => [.regs, .hst, .cel]
  | .panicStart _ _ => [.regs, .tm, .hst, .cel]
  | .longReadAge _ _ => [.regs, .tm, .hst, .cel]
  | .longTileDeadline _ _ => [.regs, .tm, .hst, .cel]
  | .scrubRead _ => [.regs, .tm, .hst, .tly]
  | .odlyTileDeadline _ _ => [.regs, .mix]
  | .installSpectraDone _ _ => [.tm, .free, .mix]
  | .identFrame _ => [.free, .mix]
  | .dispatch _ _ => [.regs, .ost, .cores]
  | .giveAccept _ _ _ => [.regs, .ost, .cores]
  | .doneComplete _ => [.regs, .ost, .cores]
  | .windowRelease _ => [.regs, .ost]
  | .sliceOverrun _ _ => [.regs, .tm, .ost]
  | .supervisorPost _ => [.regs, .ost]
  | .portReadArrival _ _ => 
    [.regs, .tm, .mem, .free, .latches, .geo, .mix, .sched, .ost, .cores, .tdm, .aes, .mics, .ps, .tly, .macs, .pins,
    .sessions, .ports, .otp, .bwt, .cel, .fab, .clk]
  | .drvNop _ => 
    [.regs, .tm, .mem, .free, .latches, .geo, .mix, .sched, .ost, .cores, .tdm, .aes, .mics, .ps, .tly, .macs, .pins,
    .sessions, .ports, .otp, .bwt, .cel, .fab, .clk]
  | .drvMac _ _ => 
    [.regs, .tm, .mem, .free, .latches, .geo, .mix, .sched, .ost, .cores, .tdm, .aes, .mics, .ps, .tly, .macs, .pins,
    .sessions, .ports, .otp, .bwt, .cel, .fab, .clk]
  | .drvCmr _ _ => 
    [.regs, .tm, .mem, .free, .latches, .geo, .mix, .sched, .ost, .cores, .tdm, .aes, .mics, .ps, .tly, .macs, .pins,
    .sessions, .ports, .otp, .bwt, .cel, .fab, .clk]
  | .drvCmi _ _ => 
    [.regs, .tm, .mem, .free, .latches, .geo, .mix, .sched, .ost, .cores, .tdm, .aes, .mics, .ps, .tly, .macs, .pins,
    .sessions, .ports, .otp, .bwt, .cel, .fab, .clk]
  | .drvAccw _ _ => 
    [.regs, .tm, .mem, .free, .latches, .geo, .mix, .sched, .ost, .cores, .tdm, .aes, .mics, .ps, .tly, .macs, .pins,
    .sessions, .ports, .otp, .bwt, .cel, .fab, .clk]
  | .drvMova _ _ => 
    [.regs, .tm, .mem, .free, .latches, .geo, .mix, .sched, .ost, .cores, .tdm, .aes, .mics, .ps, .tly, .macs, .pins,
    .sessions, .ports, .otp, .bwt, .cel, .fab, .clk]
  | .drvAmovx _ _ => 
    [.regs, .tm, .mem, .free, .latches, .geo, .mix, .sched, .ost, .cores, .tdm, .aes, .mics, .ps, .tly, .macs, .pins,
    .sessions, .ports, .otp, .bwt, .cel, .fab, .clk]
  | .drvLcoef _ _ => 
    [.regs, .tm, .mem, .free, .latches, .geo, .mix, .sched, .ost, .cores, .tdm, .aes, .mics, .ps, .tly, .macs, .pins,
    .sessions, .ports, .otp, .bwt, .cel, .fab, .clk]
  | .drvVadd _ _ => 
    [.regs, .tm, .mem, .free, .latches, .geo, .mix, .sched, .ost, .cores, .tdm, .aes, .mics, .ps, .tly, .macs, .pins,
    .sessions, .ports, .otp, .bwt, .cel, .fab, .clk]
  | .drvVsub _ _ => 
    [.regs, .tm, .mem, .free, .latches, .geo, .mix, .sched, .ost, .cores, .tdm, .aes, .mics, .ps, .tly, .macs, .pins,
    .sessions, .ports, .otp, .bwt, .cel, .fab, .clk]
  | .drvVmax _ _ => 
    [.regs, .tm, .mem, .free, .latches, .geo, .mix, .sched, .ost, .cores, .tdm, .aes, .mics, .ps, .tly, .macs, .pins,
    .sessions, .ports, .otp, .bwt, .cel, .fab, .clk]
  | .drvVmin _ _ => 
    [.regs, .tm, .mem, .free, .latches, .geo, .mix, .sched, .ost, .cores, .tdm, .aes, .mics, .ps, .tly, .macs, .pins,
    .sessions, .ports, .otp, .bwt, .cel, .fab, .clk]
  | .drvVabs _ _ => 
    [.regs, .tm, .mem, .free, .latches, .geo, .mix, .sched, .ost, .cores, .tdm, .aes, .mics, .ps, .tly, .macs, .pins,
    .sessions, .ports, .otp, .bwt, .cel, .fab, .clk]
  | .drvVshr _ _ => 
    [.regs, .tm, .mem, .free, .latches, .geo, .mix, .sched, .ost, .cores, .tdm, .aes, .mics, .ps, .tly, .macs, .pins,
    .sessions, .ports, .otp, .bwt, .cel, .fab, .clk]
  | .drvVshl _ _ => 
    [.regs, .tm, .mem, .free, .latches, .geo, .mix, .sched, .ost, .cores, .tdm, .aes, .mics, .ps, .tly, .macs, .pins,
    .sessions, .ports, .otp, .bwt, .cel, .fab, .clk]
  | .drvVswp _ _ => 
    [.regs, .tm, .mem, .free, .latches, .geo, .mix, .sched, .ost, .cores, .tdm, .aes, .mics, .ps, .tly, .macs, .pins,
    .sessions, .ports, .otp, .bwt, .cel, .fab, .clk]
  | .drvVbc _ _ => 
    [.regs, .tm, .mem, .free, .latches, .geo, .mix, .sched, .ost, .cores, .tdm, .aes, .mics, .ps, .tly, .macs, .pins,
    .sessions, .ports, .otp, .bwt, .cel, .fab, .clk]
  | .drvVmov _ _ => 
    [.regs, .tm, .mem, .free, .latches, .geo, .mix, .sched, .ost, .cores, .tdm, .aes, .mics, .ps, .tly, .macs, .pins,
    .sessions, .ports, .otp, .bwt, .cel, .fab, .clk]
  | .drvMovxv _ _ => 
    [.regs, .tm, .mem, .free, .latches, .geo, .mix, .sched, .ost, .cores, .tdm, .aes, .mics, .ps, .tly, .macs, .pins,
    .sessions, .ports, .otp, .bwt, .cel, .fab, .clk]
  | .drvMovvx _ _ => 
    [.regs, .tm, .mem, .free, .latches, .geo, .mix, .sched, .ost, .cores, .tdm, .aes, .mics, .ps, .tly, .macs, .pins,
    .sessions, .ports, .otp, .bwt, .cel, .fab, .clk]
  | .drvTapph _ _ => 
    [.regs, .tm, .mem, .free, .latches, .geo, .mix, .sched, .ost, .cores, .tdm, .aes, .mics, .ps, .tly, .macs, .pins,
    .sessions, .ports, .otp, .bwt, .cel, .fab, .clk]
  | .drvTapgn _ _ => 
    [.regs, .tm, .mem, .free, .latches, .geo, .mix, .sched, .ost, .cores, .tdm, .aes, .mics, .ps, .tly, .macs, .pins,
    .sessions, .ports, .otp, .bwt, .cel, .fab, .clk]
  | .drvLdv _ _ => 
    [.regs, .tm, .mem, .free, .latches, .geo, .mix, .sched, .ost, .cores, .tdm, .aes, .mics, .ps, .tly, .macs, .pins,
    .sessions, .ports, .otp, .bwt, .cel, .fab, .clk]
  | .drvStv _ _ => 
    [.regs, .tm, .mem, .free, .latches, .geo, .mix, .sched, .ost, .cores, .tdm, .aes, .mics, .ps, .tly, .macs, .pins,
    .sessions, .ports, .otp, .bwt, .cel, .fab, .clk]
  | .drvSta _ _ => 
    [.regs, .tm, .mem, .free, .latches, .geo, .mix, .sched, .ost, .cores, .tdm, .aes, .mics, .ps, .tly, .macs, .pins,
    .sessions, .ports, .otp, .bwt, .cel, .fab, .clk]
  | .drvStas _ _ => 
    [.regs, .tm, .mem, .free, .latches, .geo, .mix, .sched, .ost, .cores, .tdm, .aes, .mics, .ps, .tly, .macs, .pins,
    .sessions, .ports, .otp, .bwt, .cel, .fab, .clk]
  | .drvLdw _ _ => 
    [.regs, .tm, .mem, .free, .latches, .geo, .mix, .sched, .ost, .cores, .tdm, .aes, .mics, .ps, .tly, .macs, .pins,
    .sessions, .ports, .otp, .bwt, .cel, .fab, .clk]
  | .drvStw _ _ => 
    [.regs, .tm, .mem, .free, .latches, .geo, .mix, .sched, .ost, .cores, .tdm, .aes, .mics, .ps, .tly, .macs, .pins,
    .sessions, .ports, .otp, .bwt, .cel, .fab, .clk]
  | .drvLdwf _ _ => 
    [.regs, .tm, .mem, .free, .latches, .geo, .mix, .sched, .ost, .cores, .tdm, .aes, .mics, .ps, .tly, .macs, .pins,
    .sessions, .ports, .otp, .bwt, .cel, .fab, .clk]
  | .drvStwf _ _ => 
    [.regs, .tm, .mem, .free, .latches, .geo, .mix, .sched, .ost, .cores, .tdm, .aes, .mics, .ps, .tly, .macs, .pins,
    .sessions, .ports, .otp, .bwt, .cel, .fab, .clk]
  | .drvAdd _ _ => 
    [.regs, .tm, .mem, .free, .latches, .geo, .mix, .sched, .ost, .cores, .tdm, .aes, .mics, .ps, .tly, .macs, .pins,
    .sessions, .ports, .otp, .bwt, .cel, .fab, .clk]
  | .drvSub _ _ => 
    [.regs, .tm, .mem, .free, .latches, .geo, .mix, .sched, .ost, .cores, .tdm, .aes, .mics, .ps, .tly, .macs, .pins,
    .sessions, .ports, .otp, .bwt, .cel, .fab, .clk]
  | .drvAnd _ _ => 
    [.regs, .tm, .mem, .free, .latches, .geo, .mix, .sched, .ost, .cores, .tdm, .aes, .mics, .ps, .tly, .macs, .pins,
    .sessions, .ports, .otp, .bwt, .cel, .fab, .clk]
  | .drvOr _ _ => 
    [.regs, .tm, .mem, .free, .latches, .geo, .mix, .sched, .ost, .cores, .tdm, .aes, .mics, .ps, .tly, .macs, .pins,
    .sessions, .ports, .otp, .bwt, .cel, .fab, .clk]
  | .drvXor _ _ => 
    [.regs, .tm, .mem, .free, .latches, .geo, .mix, .sched, .ost, .cores, .tdm, .aes, .mics, .ps, .tly, .macs, .pins,
    .sessions, .ports, .otp, .bwt, .cel, .fab, .clk]
  | .drvShl _ _ => 
    [.regs, .tm, .mem, .free, .latches, .geo, .mix, .sched, .ost, .cores, .tdm, .aes, .mics, .ps, .tly, .macs, .pins,
    .sessions, .ports, .otp, .bwt, .cel, .fab, .clk]
  | .drvShr _ _ => 
    [.regs, .tm, .mem, .free, .latches, .geo, .mix, .sched, .ost, .cores, .tdm, .aes, .mics, .ps, .tly, .macs, .pins,
    .sessions, .ports, .otp, .bwt, .cel, .fab, .clk]
  | .drvSra _ _ => 
    [.regs, .tm, .mem, .free, .latches, .geo, .mix, .sched, .ost, .cores, .tdm, .aes, .mics, .ps, .tly, .macs, .pins,
    .sessions, .ports, .otp, .bwt, .cel, .fab, .clk]
  | .drvCmp _ _ => 
    [.regs, .tm, .mem, .free, .latches, .geo, .mix, .sched, .ost, .cores, .tdm, .aes, .mics, .ps, .tly, .macs, .pins,
    .sessions, .ports, .otp, .bwt, .cel, .fab, .clk]
  | .drvMulx _ _ => 
    [.regs, .tm, .mem, .free, .latches, .geo, .mix, .sched, .ost, .cores, .tdm, .aes, .mics, .ps, .tly, .macs, .pins,
    .sessions, .ports, .otp, .bwt, .cel, .fab, .clk]
  | .drvExtu _ _ => 
    [.regs, .tm, .mem, .free, .latches, .geo, .mix, .sched, .ost, .cores, .tdm, .aes, .mics, .ps, .tly, .macs, .pins,
    .sessions, .ports, .otp, .bwt, .cel, .fab, .clk]
  | .drvExts _ _ => 
    [.regs, .tm, .mem, .free, .latches, .geo, .mix, .sched, .ost, .cores, .tdm, .aes, .mics, .ps, .tly, .macs, .pins,
    .sessions, .ports, .otp, .bwt, .cel, .fab, .clk]
  | .drvAddi _ _ => 
    [.regs, .tm, .mem, .free, .latches, .geo, .mix, .sched, .ost, .cores, .tdm, .aes, .mics, .ps, .tly, .macs, .pins,
    .sessions, .ports, .otp, .bwt, .cel, .fab, .clk]
  | .drvMovi _ _ => 
    [.regs, .tm, .mem, .free, .latches, .geo, .mix, .sched, .ost, .cores, .tdm, .aes, .mics, .ps, .tly, .macs, .pins,
    .sessions, .ports, .otp, .bwt, .cel, .fab, .clk]
  | .drvMovhi _ _ => 
    [.regs, .tm, .mem, .free, .latches, .geo, .mix, .sched, .ost, .cores, .tdm, .aes, .mics, .ps, .tly, .macs, .pins,
    .sessions, .ports, .otp, .bwt, .cel, .fab, .clk]
  | .drvAgset _ _ => 
    [.regs, .tm, .mem, .free, .latches, .geo, .mix, .sched, .ost, .cores, .tdm, .aes, .mics, .ps, .tly, .macs, .pins,
    .sessions, .ports, .otp, .bwt, .cel, .fab, .clk]
  | .drvAgget _ _ => 
    [.regs, .tm, .mem, .free, .latches, .geo, .mix, .sched, .ost, .cores, .tdm, .aes, .mics, .ps, .tly, .macs, .pins,
    .sessions, .ports, .otp, .bwt, .cel, .fab, .clk]
  | .drvMts _ _ => 
    [.regs, .tm, .mem, .free, .latches, .geo, .mix, .sched, .ost, .cores, .tdm, .aes, .mics, .ps, .tly, .macs, .pins,
    .sessions, .ports, .otp, .bwt, .cel, .fab, .clk]
  | .drvMfs _ _ => 
    [.regs, .tm, .mem, .free, .latches, .geo, .mix, .sched, .ost, .cores, .tdm, .aes, .mics, .ps, .tly, .macs, .pins,
    .sessions, .ports, .otp, .bwt, .cel, .fab, .clk]
  | .drvScstep _ _ => 
    [.regs, .tm, .mem, .free, .latches, .geo, .mix, .sched, .ost, .cores, .tdm, .aes, .mics, .ps, .tly, .macs, .pins,
    .sessions, .ports, .otp, .bwt, .cel, .fab, .clk]
  | .drvBr _ _ => 
    [.regs, .tm, .mem, .free, .latches, .geo, .mix, .sched, .ost, .cores, .tdm, .aes, .mics, .ps, .tly, .macs, .pins,
    .sessions, .ports, .otp, .bwt, .cel, .fab, .clk]
  | .drvBrx _ _ => 
    [.regs, .tm, .mem, .free, .latches, .geo, .mix, .sched, .ost, .cores, .tdm, .aes, .mics, .ps, .tly, .macs, .pins,
    .sessions, .ports, .otp, .bwt, .cel, .fab, .clk]
  | .drvCall _ _ => 
    [.regs, .tm, .mem, .free, .latches, .geo, .mix, .sched, .ost, .cores, .tdm, .aes, .mics, .ps, .tly, .macs, .pins,
    .sessions, .ports, .otp, .bwt, .cel, .fab, .clk]
  | .drvLoop _ _ => 
    [.regs, .tm, .mem, .free, .latches, .geo, .mix, .sched, .ost, .cores, .tdm, .aes, .mics, .ps, .tly, .macs, .pins,
    .sessions, .ports, .otp, .bwt, .cel, .fab, .clk]
  | .drvReti _ _ => 
    [.regs, .tm, .mem, .free, .latches, .geo, .mix, .sched, .ost, .cores, .tdm, .aes, .mics, .ps, .tly, .macs, .pins,
    .sessions, .ports, .otp, .bwt, .cel, .fab, .clk]
  | .drvTake _ _ => 
    [.regs, .tm, .mem, .free, .latches, .geo, .mix, .sched, .ost, .cores, .tdm, .aes, .mics, .ps, .tly, .macs, .pins,
    .sessions, .ports, .otp, .bwt, .cel, .fab, .clk]
  | .drvGive _ _ => 
    [.regs, .tm, .mem, .free, .latches, .geo, .mix, .sched, .ost, .cores, .tdm, .aes, .mics, .ps, .tly, .macs, .pins,
    .sessions, .ports, .otp, .bwt, .cel, .fab, .clk]
  | .drvDone _ _ => 
    [.regs, .tm, .mem, .free, .latches, .geo, .mix, .sched, .ost, .cores, .tdm, .aes, .mics, .ps, .tly, .macs, .pins,
    .sessions, .ports, .otp, .bwt, .cel, .fab, .clk]
  | .drvTapset _ _ => 
    [.regs, .tm, .mem, .free, .latches, .geo, .mix, .sched, .ost, .cores, .tdm, .aes, .mics, .ps, .tly, .macs, .pins,
    .sessions, .ports, .otp, .bwt, .cel, .fab, .clk]
  | .drvTaprd _ _ => 
    [.regs, .tm, .mem, .free, .latches, .geo, .mix, .sched, .ost, .cores, .tdm, .aes, .mics, .ps, .tly, .macs, .pins,
    .sessions, .ports, .otp, .bwt, .cel, .fab, .clk]
  | .drvAccadd _ _ => 
    [.regs, .tm, .mem, .free, .latches, .geo, .mix, .sched, .ost, .cores, .tdm, .aes, .mics, .ps, .tly, .macs, .pins,
    .sessions, .ports, .otp, .bwt, .cel, .fab, .clk]
  | .drvAccrc _ _ => 
    [.regs, .tm, .mem, .free, .latches, .geo, .mix, .sched, .ost, .cores, .tdm, .aes, .mics, .ps, .tly, .macs, .pins,
    .sessions, .ports, .otp, .bwt, .cel, .fab, .clk]
  | .drvCoreReset _ => [.regs, .ost, .cores]
  | .coreRun _ => 
    [.regs, .tm, .mem, .free, .latches, .geo, .mix, .sched, .ost, .cores, .tdm, .aes, .mics, .ps, .tly, .macs, .pins,
    .sessions, .ports, .otp, .bwt, .cel, .fab, .clk]
  | .haltReq _ => [.regs, .ost, .cores]
  | .drvStep _ => 
    [.regs, .tm, .mem, .free, .latches, .geo, .mix, .sched, .ost, .cores, .tdm, .aes, .mics, .ps, .tly, .macs, .pins,
    .sessions, .ports, .otp, .bwt, .cel, .fab, .clk]
  | .drvResume _ => [.regs]
  | .swapReq => [.regs, .geo]
  | .verifyComplete _ => [.regs, .tm, .geo]
  | .slHold _ => [.regs]
  | .slArm => [.regs]
  | .tdmFrame _ _ _ _ _ _ => [.regs, .tm, .mem, .hst, .tdm, .aes]
  | .aes3Frame _ _ _ _ _ _ => [.regs, .tm, .mem, .hst, .tdm, .aes]
  | .asrcWindow _ _ => [.regs, .tdm, .aes, .asc]
  | .asrcFsTimeout _ _ _ => [.regs, .tm, .tdm, .aes, .asc]
  | .micZeroCrossing _ _ _ => [.regs]
  | .zcTimeout _ _ => [.regs, .tm]
  | .micDetectionSample _ _ _ _ _ _ => [.regs, .tm, .mics]
  | .idleBandHold _ _ => [.regs, .tm, .tly, .sessions, .ports]
  | .faultBandHold _ _ => [.regs, .tm, .sched, .tly, .sessions, .ports]
  | .pressDebounce _ _ => [.regs, .tm, .sched, .tly, .sessions, .ports]
  | .releaseDebounce _ _ => [.regs, .tm, .sched, .tly, .sessions, .ports]
  | .switchingPeriod _ _ _ _ => [.regs, .tm, .ps, .tly, .sessions, .ports]
  | .trip _ _ => [.regs, .tm, .ps, .tly, .sessions, .ports]
  | .probeStart _ _ => [.regs, .tm, .ps]
  | .probeEnd _ _ _ => [.regs, .tm, .ps, .tly, .sessions, .ports]
  | .restartRampEnd _ _ => [.regs, .tm, .ps, .tly, .sessions, .ports]
  | .principalTripFree _ _ => [.regs, .tm, .ps, .tly]
  | .dcCheck _ _ _ => [.regs, .tm, .ps, .tly, .sessions, .ports]
  | .loopWindow _ _ _ => [.regs, .tm, .ps, .tly, .sessions, .ports]
  | .startComplete _ _ => [.regs, .tm, .ps, .tly, .sessions, .ports]
  | .stopComplete _ _ => [.regs, .tm, .ps, .tly]
  | .clearFaultShort _ _ => [.regs, .tm, .ps, .tly]
  | .clearFaultDc _ _ => [.regs, .tm, .ps, .tly]
  | .clearFaultOpen _ _ => [.regs, .tm, .ps, .tly]
  | .testWindowOpen _ => [.regs, .tm, .tly]
  | .testWindowClose _ => [.regs, .tm, .ps, .tly]
  | .lineTestSlot _ => [.regs, .tm, .ps, .tly]
  | .correlationStart _ => [.tm, .tly]
  | .correlationEnd _ _ _ _ => [.regs, .tm, .ps, .tly, .sessions, .ports]
  | .pilotRemoved _ => [.regs, .tm, .ps, .tly]
  | .programLimitExceeded _ _ => [.regs, .tm, .ps, .tly]
  | .lineTestRetry _ => [.regs, .tm, .ps, .tly]
  | .baselineCaptureEnd _ _ => [.regs, .tm, .ps, .tly, .sessions, .ports, .mir]
  | .selfTestStart _ => [.regs, .tm, .tly]
  | .selfTestHalt _ => [.regs, .tm, .cores, .tly]
  | .selfTestBreakpoint _ => [.regs, .tm, .ost, .cores, .tly]
  | .selfTestTimeout _ => [.regs, .tm, .ost, .cores, .tly]
  | .dramScrubSlice _ _ => [.regs, .tm, .tly]
  | .dramScrubTimeout _ => [.regs, .tm, .tly]
  | .foldPatternCheck _ => [.tm, .tly]
  | .foldPatternResult _ => [.regs, .tly]
  | .senseReferenceCheck _ _ _ _ => [.regs, .tm, .tly]
  | .rxFrame _ _ _ _ _ => 
    [.regs, .tm, .mem, .free, .latches, .geo, .mix, .sched, .ost, .cores, .tdm, .aes, .mics, .ps, .tly, .macs, .pins,
    .sessions, .ports, .otp, .bwt, .cel, .fab, .clk]
  | .pauseExpiry _ _ => [.tm, .macs]
  | .txFrameStart _ _ _ => 
    [.regs, .tm, .mem, .free, .latches, .geo, .mix, .sched, .ost, .cores, .tdm, .aes, .mics, .ps, .tly, .macs, .pins,
    .sessions, .ports, .otp, .bwt, .cel, .fab, .clk]
  | .txFrameEnd _ _ => 
    [.regs, .tm, .mem, .free, .latches, .geo, .mix, .sched, .ost, .cores, .tdm, .aes, .mics, .ps, .tly, .macs, .pins,
    .sessions, .ports, .otp, .bwt, .cel, .fab, .clk]
  | .linkChange _ _ => 
    [.regs, .tm, .mem, .free, .latches, .geo, .mix, .sched, .ost, .cores, .tdm, .aes, .mics, .ps, .tly, .macs, .pins,
    .sessions, .ports, .otp, .bwt, .cel, .fab, .clk]
  | .mdioTransfer _ => [.regs]
  | .mdioComplete _ => [.regs]
  | .servoStep _ _ => [.regs, .tm, .sessions, .ports]
  | .holdoverTimeout _ => [.regs, .tm, .sessions, .ports]
  | .conversion _ => [.regs]
  | .txqRead _ => [.regs, .tm]
  | .announceTimeout _ => [.tm, .ptp]
  | .ppsInput _ => [.regs, .tm]
  | .ppsOutput _ => [.tm]
  | .streamPacket _ _ _ => 
    [.regs, .tm, .mem, .free, .latches, .geo, .hst, .mix, .sched, .ost, .cores, .tdm, .aes, .mics, .ps, .tly, .macs,
    .srx, .pins, .sessions, .ports, .otp, .bwt, .cel, .fab, .clk]
  | .legDown _ _ => [.regs, .tm]
  | .spiWrite _ _ _ => [.regs, .tm, .ports]
  | .spiRead _ _ => [.tm, .sessions, .ports]
  | .spiStatus _ _ => [.tm, .ports]
  | .halfOpenTimeout _ _ => [.regs, .tm, .sessions, .owner, .former, .ports, .msgs, .fw, .maint]
  | .keepaliveTimeout _ _ => [.regs, .tm, .sessions, .owner, .former, .ports, .msgs, .fw, .maint]
  | .resetDelay _ _ => 
    [.regs, .live, .liveHist, .tm, .mem, .latches, .straps, .geo, .hst, .mix, .sched, .ost, .cores, .tdm, .aes,
    .aesOut, .vox, .asc, .mics, .bound, .ps, .tly, .macs, .ptp, .srx, .stx, .acts, .gpio, .pins, .sessions, .owner,
    .former, .ports, .devBusy, .enrol, .plays, .fw, .flash, .maint, .triggers, .armed, .totals, .totalsAt, .lib, .bwt,
    .mir, .cel, .fab, .clk, .sup, .image]
  | .scheduledAction _ _ => [.regs, .tm, .acts, .gpio, .sessions, .ports]
  | .sessionOpen _ _ => [.regs, .tm, .free, .sessions, .owner, .former, .ports, .msgs, .fw, .maint]
  | .sessionClose _ => [.regs, .tm, .sessions, .owner, .former, .ports, .msgs, .fw, .maint]
  | .keepalive _ => [.regs, .tm, .sessions, .ports]
  | .claim _ _ => [.regs, .tm, .sessions, .owner, .former, .ports]
  | .release _ _ => [.regs, .tm, .sessions, .owner, .former, .ports]
  | .preempt _ _ => [.regs, .tm, .sessions, .owner, .former, .ports]
  | .objDefine _ _ _ => [.regs, .tm, .geo, .hst, .sched, .ost, .bound, .sessions, .ports]
  | .objMove _ _ => [.regs, .tm, .geo, .sched, .sessions, .ports]
  | .objPath _ _ _ => [.regs, .tm, .sched, .sessions, .ports]
  | .objGain _ _ => [.regs, .tm, .sched, .sessions, .ports]
  | .objMute _ _ => [.regs, .tm, .sched, .sessions, .ports]
  | .objQuery _ _ _ => [.regs, .tm, .sessions, .ports]
  | .spkLayoutLoad _ _ _ => [.regs, .tm, .geo, .sessions, .ports, .mir]
  | .pastureBuild _ _ => [.regs, .tm, .geo, .sessions, .ports, .mir]
  | .zoneDefine _ _ _ _ => [.regs, .tm, .geo, .sessions, .ports, .mir]
  | .routeSet _ _ _ _ _ _ _ _ => [.regs, .tm, .hst, .sched, .ost, .bound, .sessions, .ports]
  | .routeQuery _ _ _ => [.regs, .tm, .sessions, .ports]
  | .eqSet _ _ _ _ => [.regs, .tm, .sched, .ost, .bound, .sessions, .ports]
  | .firLoad _ _ _ _ _ => [.regs, .tm, .mix, .sessions, .ports, .mir]
  | .firInstall _ _ => [.regs, .tm, .mix, .ost, .bound, .sessions, .ports, .mir]
  | .limiterSet _ _ _ _ _ _ => [.regs, .tm, .sched, .ost, .bound, .sessions, .ports]
  | .outDelay _ _ => [.regs, .tm, .sched, .ost, .bound, .sessions, .ports]
  | .identControl _ _ => [.regs, .tm, .mix, .ost, .bound, .sessions, .ports]
  | .identExport _ _ _ => [.regs, .tm, .sessions, .ports]
  | .streamRxSet _ _ => [.regs, .tm, .sched, .ost, .bound, .sessions, .ports, .mir]
  | .streamTxSet _ _ => [.regs, .tm, .sched, .ost, .bound, .sessions, .ports, .mir]
  | .portTdmSet _ _ _ _ _ _ _ => [.regs, .tm, .sched, .ost, .bound, .sessions, .ports, .mir]
  | .portAesSet _ _ _ _ _ _ => [.regs, .tm, .sched, .ost, .bound, .sessions, .ports, .mir]
  | .micSet _ _ _ _ => [.regs, .tm, .sched, .ost, .mics, .bound, .sessions, .ports, .mir]
  | .asrcSet _ _ _ _ => [.regs, .tm, .sched, .ost, .bound, .sessions, .ports, .mir]
  | .psConfig _ _ _ => [.regs, .tm, .sched, .ost, .bound, .ps, .tly, .sessions, .ports, .mir]
  | .psEnable _ _ => [.regs, .tm, .sched, .ps, .tly, .sessions, .ports]
  | .psLoopPair _ _ _ => [.regs, .tm, .sched, .ost, .bound, .ps, .tly, .sessions, .ports, .mir]
  | .psBandProtect _ _ => [.regs, .tm, .sched, .ost, .bound, .sessions, .ports, .mir]
  | .psStatus _ _ _ => [.regs, .tm, .sessions, .ports]
  | .psFaultClear _ _ => [.regs, .tm, .ps, .tly, .sessions, .ports]
  | .tallySchedule _ _ => [.regs, .tm, .ost, .bound, .tly, .sessions, .ports, .mir]
  | .tallyRunNow _ _ _ => [.regs, .tm, .ps, .tly, .sessions, .ports]
  | .tallyLogRead _ _ _ => [.regs, .tm, .tly, .sessions, .ports]
  | .baselineCapture _ _ => [.regs, .tm, .ps, .tly, .sessions, .ports]
  | .timeConfig _ _ => [.regs, .tm, .ost, .bound, .ptp, .sessions, .ports, .mir]
  | .timeStatus _ => [.regs, .tm, .free, .sessions, .ports]
  | .scheduleEvent _ _ _ _ => [.regs, .tm, .acts, .sessions, .ports]
  | .mirrorConfig _ _ _ => [.regs, .tm, .geo, .hst, .mix, .ps, .tly, .stx, .sessions, .ports, .mir]
  | .mirrorStatus _ => [.regs, .tm, .sessions, .ports]
  | .mirrorSwitchover _ => [.regs, .tm, .sessions, .ports, .mir]
  | .attest _ _ => [.regs, .tm, .free, .sessions, .ports]
  | .certRead _ _ => [.regs, .tm, .sessions, .ports]
  | .fwBegin _ _ _ => [.regs, .tm, .sessions, .ports, .fw]
  | .fwChunk _ _ _ => [.regs, .tm, .sessions, .ports, .fw]
  | .fwCommit _ => [.regs, .tm, .sessions, .ports, .devBusy]
  | .keyRotate _ _ => [.regs, .tm, .sessions, .ports, .devBusy, .enrol, .mir]
  | .paramRead _ _ => [.regs, .tm, .sessions, .ports]
  | .paramWrite _ _ => [.regs, .tm, .mix, .sched, .ost, .bound, .sessions, .ports, .mir, .clk]
  | .safeStage _ _ => [.regs, .tm, .sessions, .ports]
  | .safeCommit _ _ => [.regs, .tm, .mix, .sched, .ost, .bound, .sessions, .ports, .mir, .clk]
  | .countersRead _ _ => [.regs, .tm, .macs, .sessions, .ports, .totals, .totalsAt, .cel]
  | .msgStore _ _ _ => [.regs, .tm, .sessions, .ports, .msgs, .lib, .mir]
  | .msgPlay _ _ _ _ _ => [.regs, .tm, .sessions, .ports, .plays]
  | .msgStop _ _ _ => [.regs, .tm, .sched, .sessions, .ports]
  | .shedConfig _ _ _ _ _ _ => [.regs, .tm, .ost, .bound, .sessions, .ports, .mir]
  | .supplyStatus _ => [.regs, .tm, .sessions, .ports]
  | .maintEnter _ _ => [.regs, .tm, .sessions, .ports, .maint]
  | .rawRead _ _ _ => [.regs, .tm, .free, .latches, .tdm, .aes, .tly, .macs, .sessions, .ports, .cel, .fab]
  | .rawWrite _ _ _ => 
    [.regs, .tm, .mem, .free, .latches, .geo, .mix, .sched, .ost, .cores, .tdm, .aes, .mics, .ps, .tly, .macs, .pins,
    .sessions, .ports, .otp, .bwt, .cel, .fab, .clk]
  | .reset _ => [.regs, .tm, .sessions, .ports, .devBusy]
  | .disagreement _ _ _ _ => [.regs, .tm, .bwt]
  | .heartbeatPeriod _ => [.tm, .mir]
  | .hello _ _ => [.regs, .tm, .ps, .tly, .sessions, .ports, .mir]
  | .heartbeat _ _ => [.regs, .tm, .ps, .tly, .sessions, .ports, .mir]
  | .hbPinEdge _ => [.regs, .tm, .sessions, .ports, .mir]
  | .heartbeatMiss _ _ => [.regs, .tm, .sessions, .ports, .mir]
  | .actiChange _ _ => [.regs, .tm, .ps, .tly, .sessions, .ports]
  | .arbitrationTimeout _ => [.regs, .tm, .ps, .tly, .sessions, .ports, .mir]
  | .copyFix _ _ => [.regs, .tm, .sessions, .ports, .mir]
  | .copy _ _ _ => [.regs, .live, .tm, .geo, .mix, .sched, .bound, .sessions, .ports, .plays, .mir]
  | .bulk _ _ _ _ => [.regs, .tm, .geo, .mix, .sessions, .ports, .enrol, .msgs, .lib, .mir]
  | .pattern _ _ => [.tm, .mir]
  | .handoverChannelStart _ => [.regs, .tm, .ps, .tly]
  | .handoverEnd _ => [.regs, .tm, .mix, .ps, .tly, .sessions, .owner, .former, .ports, .mir]
  | .dramRequest _ _ _ _ => [.regs, .tm, .free, .cel, .fab]
  | .rowIdleClose _ _ _ => [.tm, .cel]
  | .refresh _ _ => [.regs, .tm, .cel]
  | .dqsOscillatorRead _ _ _ => [.tm, .cel]
  | .trainReq _ => [.regs, .tm, .cel]
  | .retrainStep _ _ _ => [.regs, .tm, .sessions, .ports, .cel]
  | .retrainTimeout _ => [.regs, .tm, .sessions, .ports, .cel]
  | .trainingComplete _ _ _ => [.regs, .tm]
  | .powerDownIdle _ _ => [.tm, .cel]
  | .fabErrinfoRead => [.regs]
  | .sysRemapSwap _ => [.regs]
  | .powerOnReset _ _ => 
    [.regs, .live, .liveHist, .tm, .mem, .latches, .straps, .geo, .hst, .mix, .sched, .ost, .cores, .tdm, .aes,
    .aesOut, .vox, .asc, .mics, .bound, .ps, .tly, .macs, .ptp, .srx, .stx, .acts, .gpio, .pins, .sessions, .owner,
    .former, .ports, .devBusy, .enrol, .plays, .fw, .flash, .maint, .triggers, .armed, .totals, .totalsAt, .lib, .bwt,
    .mir, .cel, .fab, .clk, .sup, .image]
  | .externalReset _ _ => 
    [.regs, .live, .liveHist, .tm, .mem, .latches, .straps, .geo, .hst, .mix, .sched, .ost, .cores, .tdm, .aes,
    .aesOut, .vox, .asc, .mics, .bound, .ps, .tly, .macs, .ptp, .srx, .stx, .acts, .gpio, .pins, .sessions, .owner,
    .former, .ports, .devBusy, .enrol, .plays, .fw, .flash, .maint, .triggers, .armed, .totals, .totalsAt, .lib, .bwt,
    .mir, .cel, .fab, .clk, .sup, .image]
  | .railFail _ _ => 
    [.regs, .live, .liveHist, .tm, .mem, .latches, .straps, .geo, .hst, .mix, .sched, .ost, .cores, .tdm, .aes,
    .aesOut, .vox, .asc, .mics, .bound, .ps, .tly, .macs, .ptp, .srx, .stx, .acts, .gpio, .pins, .sessions, .owner,
    .former, .ports, .devBusy, .enrol, .plays, .fw, .flash, .maint, .triggers, .armed, .totals, .totalsAt, .lib, .bwt,
    .mir, .cel, .fab, .clk, .sup, .image]
  | .rcReady _ => [.regs, .tm, .clk]
  | .trimWrite _ _ => [.regs, .tm, .clk]
  | .rcTrimInterval _ => [.regs, .clk]
  | .xoStartDelay _ => [.tm, .clk]
  | .xoStartTimeout _ => [.regs, .tm]
  | .monitorWindow _ _ _ _ => [.regs, .tm, .tdm, .aes, .ps, .tly, .macs, .sessions, .ports, .clk]
  | .monitorNoEdge _ _ => [.regs, .tm, .tdm, .aes, .ps, .tly, .macs, .sessions, .ports, .clk]
  | .pllUnlock _ _ => [.regs, .tm, .tdm, .aes, .ps, .tly, .macs, .sessions, .ports, .clk]
  | .restore => [.clk]
  | .gateRunWrite _ _ _ => [.regs, .tm, .cores, .clk]
  | .gatesClose _ => [.regs, .tm, .cores, .clk]
  | .quiescenceTimeout _ _ => [.regs, .tm, .clk]
  | .wake _ _ => 
    [.regs, .live, .liveHist, .tm, .mem, .latches, .geo, .hst, .mix, .sched, .ost, .cores, .tdm, .aes, .aesOut, .vox,
    .asc, .mics, .bound, .ps, .tly, .macs, .srx, .stx, .acts, .gpio, .sessions, .owner, .former, .ports, .devBusy,
    .plays, .fw, .maint, .armed, .totals, .totalsAt, .lib, .mir, .cel, .fab, .clk, .sup, .image]
  | .deepSleepClose _ _ => [.regs, .tm, .sessions, .owner, .former, .ports, .msgs, .fw, .maint, .clk]
  | .mainsDebounce _ _ => [.regs, .tm, .sup]
  | .brownout _ => [.regs, .tm, .ps, .tly, .sessions, .ports, .sup]
  | .brownoutRecovery _ _ => 
    [.regs, .live, .liveHist, .tm, .mem, .latches, .straps, .geo, .hst, .mix, .sched, .ost, .cores, .tdm, .aes,
    .aesOut, .vox, .asc, .mics, .bound, .ps, .tly, .macs, .ptp, .srx, .stx, .acts, .gpio, .pins, .sessions, .owner,
    .former, .ports, .devBusy, .enrol, .plays, .fw, .flash, .maint, .triggers, .armed, .totals, .totalsAt, .lib, .bwt,
    .mir, .cel, .fab, .clk, .sup, .image]
  | .supervisorRelease _ _ _ _ => 
    [.regs, .live, .tm, .mem, .free, .geo, .hst, .mix, .sched, .ost, .cores, .mics, .bound, .ps, .tly, .ptp, .stx,
    .sessions, .ports, .enrol, .otp, .triggers, .lib, .mir, .image]
  | .evacuationTrigger _ _ => [.tm, .plays]
  | .setField _ => [.regs, .tm, .otp]
  | .faultInjection _ _ => [.tm, .bwt]
  | .registerWrite _ _ _ _ _ _ => 
    [.regs, .tm, .mem, .free, .latches, .geo, .mix, .sched, .ost, .cores, .tdm, .aes, .mics, .ps, .tly, .macs, .pins,
    .sessions, .ports, .otp, .bwt, .cel, .fab, .clk]
  | .identExportComplete _ _ => [.regs, .tm, .mix, .sessions, .ports]
  | .fwCommitComplete _ _ _ => [.regs, .tm, .sessions, .ports, .devBusy, .fw, .flash]
  | .keyRotateComplete _ => [.regs, .tm, .sessions, .owner, .former, .ports, .devBusy, .msgs, .fw, .maint]
  | .primaryTimePortReturn _ => [.tm, .ptp]
  | .foldBlockLockLoss _ _ => [.regs, .tm]

end Sys2Proof.Machine
end

