-- ==== Sys2Proof/Machine/Accept.lean ====
section
/-! DEFINITION. The terms in which the statements say when a command runs and what it leaves: a host packet that passes the checks
of R277, a Drover bundle that issues and ends without event, the results it puts into flight. -/

namespace Sys2Proof.Machine

open Sys2Proof

/-- A packet is accepted as a command of session `i`, `a` being the state after steps 1 to 6 of R277, and passes what steps 7 to 13
ask of any command of its opcode: version, size, flags, reserved fields, the role and stage of the unit. The opcode's own checks
(length, ownership, shedding, values) are not in it. -/
@[reducible] def State.takes (s : State) (h : Hdr) (d : OpInfo) (i : Nat) (a : State) : Prop :=
  s.hear h d = .accepted i a ∧ a.opCheck h d (a.session i) ⟨true, true, false, .ok⟩ = .ok

/-- A packet that steps 1 to 6 of R277 accept, step by step, as a command of session `h.sess` with opcode `code`. -/
@[reducible] def State.sound (s : State) (h : Hdr) (code : Nat) : Prop :=
  let x := (s.atRaw h.t).session h.sess
  (s.atRaw h.t).portEnabled h.port.val = true ∧ h.framing = .good ∧ h.sess < 8 ∧ x.phase ≠ .closed ∧ x.port = h.port.val ∧
    tagPasses h x = true ∧ s.runningFor h.port.val code = none ∧ h.major = x.major ∧ h.minor = x.minor ∧
    x.cache.find? (fun c => c.1 = h.seq.toNat) = none ∧ laterThan 32 h.seq.toNat x.lastSeq = true

/-- The cores are at rest: none has asked for a step, and no bundle that waited on port reads has all it waits for. -/
def State.rests (s : State) : Bool :=
  s.cores.all (fun p => !p.2.stepReq && (p.2.stalled.isNone || (decide (p.1 < 32) && !s.unstalls p.1)))

/-- The bundle of an instruction with NOP in the other slot issues, and nothing happens at its end: the core runs, the bundle is legal
and waits for no port read, no fault or debug interrupt is pending, no breakpoint stands at it, the cores are at rest (R95, R112–R117). -/
@[reducible] def State.issuesAlone (s : State) (a : Issue) (op : DrvOp) : Prop :=
  a.partner = 0#32 ∧ s.issues a.core.val = true ∧ (s.core a.core.val).trap = none ∧ (s.core a.core.val).dbgPend = false ∧
    s.breaksAt a.core.val (s.core a.core.val).pc = false ∧ s.rests = true ∧
    (s.core a.core.val).illegal (if a.slot1 then .nop else op) (if a.slot1 then op else .nop) = false ∧
    (s.core a.core.val).stalls (if a.slot1 then .nop else op) (if a.slot1 then op else .nop) = false

/-- Core `c` becomes `x` at the end of one bundle: every other core is as it was; the core's counter of bundles counts one; the copies of
ASAT and SSAT in its status are those of `x`; of the other registers nothing changes but bits `bs` of its status and its bit of
DRV_CL_ROT, and of the rest of the state nothing but the parts `ps`. -/
def State.coreGoes (s : State) (c : Nat) (x : CoreSt) (bs : List Nat) (ps : List Part) (t : State) : Prop :=
  t.core c = x ∧ (∀ k, k ≠ c → t.core k = s.core k) ∧
    t.rd (R.DRV_CNT_BUNDLE_VALUE c) = min 0xFFFFFFFF (s.rd (R.DRV_CNT_BUNDLE_VALUE c) + 1) ∧
    t.on (R.DRV_STATUS_ASAT c) = x.srBit 9 ∧ t.on (R.DRV_STATUS_SSAT c) = x.srBit 8 ∧
    (∀ (g : Fld) (b : Nat), g.addr ≠ (R.DRV_CNT_BUNDLE_VALUE c).addr → (g.addr = (R.DRV_STATUS_w c).addr → b ∉ [6, 7] ++ bs) →
      (g.addr = R.DRV_CL_ROT_ROT.addr → b ≠ c) → (t.word g).testBit b = (s.word g).testBit b) ∧
    ∀ p : Part, p ∉ [Part.cores, .regs] ++ ps → p.same s t

/-- The command issues its bundle alone: its results go into flight, the bundle ends (R93, R95, R107), nothing else changes. -/
def State.gives (s : State) (a : Issue) (i : Instr) (rs : Res) : Prop :=
  ∃ t : State, exec i s = .next t ∧ s.coreGoes a.core.val (((s.core a.core.val).fly rs).finish) [] [] t

end Sys2Proof.Machine
end

