-- ==== Sys2Proof/WellFormed.lean ====
section
/-! DEFINITION. Well-formed commands: fields that a Lean type leaves wider than the wire or the event does. A header's fields fit
their bytes (R274, R297), a list whose count the payload carries fits that count, a list with a fixed number of places has them
all (R312), and an event carries as many samples as its rule states (R172, R208). -/

namespace Sys2Proof

/-- The fields of a header fit their bytes (R274, R297). -/
def Hdr.wf (h : Hdr) : Bool :=
  h.sess < 256 && h.major < 256 && h.minor < 256 && h.len < 65536 && h.time < 2 ^ 64 && h.rampMs < 65536

/-- The fields of a SESSION_OPEN request fit their bytes (R278). -/
def OpenReq.wf (r : OpenReq) : Bool :=
  r.minMajor < 256 && r.minMinor < 256 && r.maxMajor < 256 && r.maxMinor < 256 && r.cls < 256 && r.timeout < 65536 && r.key < 65536

/-- The header of a host packet; none for an event. -/
def Instr.hdr? : Instr → Option Hdr
  | .sessionOpen h _ => some h
  | .sessionClose h => some h
  | .keepalive h => some h
  | .claim h _ => some h
  | .release h _ => some h
  | .preempt h _ => some h
  | .objDefine h _ _ => some h
  | .objMove h _ => some h
  | .objPath h _ _ => some h
  | .objGain h _ => some h
  | .objMute h _ => some h
  | .objQuery h _ _ => some h
  | .spkLayoutLoad h _ _ => some h
  | .pastureBuild h _ => some h
  | .zoneDefine h _ _ _ => some h
  | .routeSet h _ _ _ _ _ _ _ => some h
  | .routeQuery h _ _ => some h
  | .eqSet h _ _ _ => some h
  | .firLoad h _ _ _ _ => some h
  | .firInstall h _ => some h
  | .limiterSet h _ _ _ _ _ => some h
  | .outDelay h _ => some h
  | .identControl h _ => some h
  | .identExport h _ _ => some h
  | .streamRxSet h _ => some h
  | .streamTxSet h _ => some h
  | .portTdmSet h _ _ _ _ _ _ => some h
  | .portAesSet h _ _ _ _ _ => some h
  | .micSet h _ _ _ => some h
  | .asrcSet h _ _ _ => some h
  | .psConfig h _ _ => some h
  | .psEnable h _ => some h
  | .psLoopPair h _ _ => some h
  | .psBandProtect h _ => some h
  | .psStatus h _ _ => some h
  | .psFaultClear h _ => some h
  | .tallySchedule h _ => some h
  | .tallyRunNow h _ _ => some h
  | .tallyLogRead h _ _ => some h
  | .baselineCapture h _ => some h
  | .timeConfig h _ => some h
  | .timeStatus h => some h
  | .scheduleEvent h _ _ _ => some h
  | .mirrorConfig h _ _ => some h
  | .mirrorStatus h => some h
  | .mirrorSwitchover h => some h
  | .attest h _ => some h
  | .certRead h _ => some h
  | .fwBegin h _ _ => some h
  | .fwChunk h _ _ => some h
  | .fwCommit h => some h
  | .keyRotate h _ => some h
  | .paramRead h _ => some h
  | .paramWrite h _ => some h
  | .safeStage h _ => some h
  | .safeCommit h _ => some h
  | .countersRead h _ => some h
  | .msgStore h _ _ => some h
  | .msgPlay h _ _ _ _ => some h
  | .msgStop h _ _ => some h
  | .shedConfig h _ _ _ _ _ => some h
  | .supplyStatus h => some h
  | .maintEnter h _ => some h
  | .rawRead h _ _ => some h
  | .rawWrite h _ _ => some h
  | .reset h => some h
  | .blockBoundary _ _ | .tapListComplete _ | .landingDeadline _ _ _ | .releaseDeadline _ _ | .soundRateUpdate _ _ | .tilePresent _ _ _ _ _
  | .longRingCopy _ _ | .longCopyOverdue _ _ | .panicStart _ _ | .longReadAge _ _ | .longTileDeadline _ _ | .scrubRead _ | .odlyTileDeadline _ _
  | .installSpectraDone _ _ | .identFrame _ | .dispatch _ _ | .giveAccept _ _ _ | .doneComplete _ | .windowRelease _ | .sliceOverrun _ _
  | .supervisorPost _ | .portReadArrival _ _ | .drvNop _ | .drvMac _ _ | .drvCmr _ _ | .drvCmi _ _ | .drvAccw _ _ | .drvMova _ _ | .drvAmovx _ _
  | .drvLcoef _ _ | .drvVadd _ _ | .drvVsub _ _ | .drvVmax _ _ | .drvVmin _ _ | .drvVabs _ _ | .drvVshr _ _ | .drvVshl _ _ | .drvVswp _ _
  | .drvVbc _ _ | .drvVmov _ _ | .drvMovxv _ _ | .drvMovvx _ _ | .drvTapph _ _ | .drvTapgn _ _ | .drvLdv _ _ | .drvStv _ _ | .drvSta _ _
  | .drvStas _ _ | .drvLdw _ _ | .drvStw _ _ | .drvLdwf _ _ | .drvStwf _ _ | .drvAdd _ _ | .drvSub _ _ | .drvAnd _ _ | .drvOr _ _ | .drvXor _ _
  | .drvShl _ _ | .drvShr _ _ | .drvSra _ _ | .drvCmp _ _ | .drvMulx _ _ | .drvExtu _ _ | .drvExts _ _ | .drvAddi _ _ | .drvMovi _ _ | .drvMovhi _ _
  | .drvAgset _ _ | .drvAgget _ _ | .drvMts _ _ | .drvMfs _ _ | .drvScstep _ _ | .drvBr _ _ | .drvBrx _ _ | .drvCall _ _ | .drvLoop _ _
  | .drvReti _ _ | .drvTake _ _ | .drvGive _ _ | .drvDone _ _ | .drvTapset _ _ | .drvTaprd _ _ | .drvAccadd _ _ | .drvAccrc _ _ | .drvCoreReset _
  | .coreRun _ | .haltReq _ | .drvStep _ | .drvResume _ | .swapReq | .verifyComplete _ | .slHold _ | .slArm | .tdmFrame _ _ _ _ _ _
  | .aes3Frame _ _ _ _ _ _ | .asrcWindow _ _ | .asrcFsTimeout _ _ _ | .micZeroCrossing _ _ _ | .zcTimeout _ _ | .micDetectionSample _ _ _ _ _ _
  | .idleBandHold _ _ | .faultBandHold _ _ | .pressDebounce _ _ | .releaseDebounce _ _ | .switchingPeriod _ _ _ _ | .trip _ _ | .probeStart _ _
  | .probeEnd _ _ _ | .restartRampEnd _ _ | .principalTripFree _ _ | .dcCheck _ _ _ | .loopWindow _ _ _ | .startComplete _ _ | .stopComplete _ _
  | .clearFaultShort _ _ | .clearFaultDc _ _ | .clearFaultOpen _ _ | .testWindowOpen _ | .testWindowClose _ | .lineTestSlot _ | .correlationStart _
  | .correlationEnd _ _ _ _ | .pilotRemoved _ | .programLimitExceeded _ _ | .lineTestRetry _ | .baselineCaptureEnd _ _ | .selfTestStart _
  | .selfTestHalt _ | .selfTestBreakpoint _ | .selfTestTimeout _ | .dramScrubSlice _ _ | .dramScrubTimeout _ | .foldPatternCheck _
  | .foldPatternResult _ | .senseReferenceCheck _ _ _ _ | .rxFrame _ _ _ _ _ | .pauseExpiry _ _ | .txFrameStart _ _ _ | .txFrameEnd _ _
  | .linkChange _ _ | .mdioTransfer _ | .mdioComplete _ | .servoStep _ _ | .holdoverTimeout _ | .conversion _ | .txqRead _ | .announceTimeout _
  | .ppsInput _ | .ppsOutput _ | .streamPacket _ _ _ | .legDown _ _ | .spiWrite _ _ _ | .spiRead _ _ | .spiStatus _ _ | .halfOpenTimeout _ _
  | .keepaliveTimeout _ _ | .resetDelay _ _ | .scheduledAction _ _ | .disagreement _ _ _ _ | .heartbeatPeriod _ | .hello _ _ | .heartbeat _ _
  | .hbPinEdge _ | .heartbeatMiss _ _ | .actiChange _ _ | .arbitrationTimeout _ | .copyFix _ _ | .copy _ _ _ | .bulk _ _ _ _ | .pattern _ _
  | .handoverChannelStart _ | .handoverEnd _ | .dramRequest _ _ _ _ | .rowIdleClose _ _ _ | .refresh _ _ | .dqsOscillatorRead _ _ _ | .trainReq _
  | .retrainStep _ _ _ | .retrainTimeout _ | .trainingComplete _ _ _ | .powerDownIdle _ _ | .fabErrinfoRead | .sysRemapSwap _ | .powerOnReset _ _
  | .externalReset _ _ | .railFail _ _ | .rcReady _ | .trimWrite _ _ | .rcTrimInterval _ | .xoStartDelay _ | .xoStartTimeout _
  | .monitorWindow _ _ _ _ | .monitorNoEdge _ _ | .pllUnlock _ _ | .restore | .gateRunWrite _ _ _ | .gatesClose _ | .quiescenceTimeout _ _
  | .wake _ _ | .deepSleepClose _ _ | .mainsDebounce _ _ | .brownout _ | .brownoutRecovery _ _ | .supervisorRelease _ _ _ _ | .evacuationTrigger _ _
  | .setField _ | .faultInjection _ _ | .registerWrite _ _ _ _ _ _ | .identExportComplete _ _ | .fwCommitComplete _ _ _ | .keyRotateComplete _
  | .primaryTimePortReturn _ | .foldBlockLockLoss _ _ => none

/-- The operands beside the header. -/
def Instr.shape : Instr → Bool
  | .tdmFrame _ len bits _ _ _ => bits.length = len
  | .loopWindow _ codes _ => codes.length = 192
  | .sessionOpen _ r => OpenReq.wf r
  | .claim _ refs => refs.length < 65536
  | .release _ refs => refs.length < 65536
  | .preempt _ refs => refs.length < 65536
  | .objMove _ ms => ms.length < 65536
  | .objPath _ _ w => w.length < 256 && w.all (fun p => p.time < 2 ^ 64)
  | .objGain _ es => es.length < 65536
  | .objMute _ es => es.length < 65536
  | .spkLayoutLoad _ _ rs => rs.length < 65536
  | .pastureBuild _ ds => ds.length < 256
  | .zoneDefine _ _ _ outs => outs.length < 65536
  | .routeSet _ _ _ _ _ _ _ ins => ins.length < 256
  | .eqSet _ _ _ cs => cs.length < 256
  | .firLoad _ _ _ _ taps => taps.length < 65536
  | .firInstall _ es => es.length < 256
  | .outDelay _ es => es.length < 65536
  | .identControl _ r => r.hearing.length = 16 && r.target.length = 31
  | .streamRxSet _ r => r.formats.length = 4
  | .streamTxSet _ r => r.formats.length = 4 && r.outs.length < 256
  | .portTdmSet _ _ _ _ _ _ map => map.length = 32
  | .psEnable _ es => es.length < 256
  | .psBandProtect _ freqs => freqs.length < 256
  | .psFaultClear _ es => es.length < 256
  | .baselineCapture _ chs => chs.length < 256
  | .timeConfig _ r => r.lat.length = 3
  | .fwChunk _ _ data => data.length < 65536
  | .keyRotate _ es => es.length < 256
  | .paramRead _ pids => pids.length < 65536
  | .paramWrite _ es => es.length < 65536
  | .safeStage _ es => es.length < 65536
  | .countersRead _ ids => ids.length < 65536
  | .msgStore _ _ data => data.length < 65536
  | .rawWrite _ _ words => words.length < 65536
  | .blockBoundary _ _ | .tapListComplete _ | .landingDeadline _ _ _ | .releaseDeadline _ _ | .soundRateUpdate _ _ | .tilePresent _ _ _ _ _
  | .longRingCopy _ _ | .longCopyOverdue _ _ | .panicStart _ _ | .longReadAge _ _ | .longTileDeadline _ _ | .scrubRead _ | .odlyTileDeadline _ _
  | .installSpectraDone _ _ | .identFrame _ | .dispatch _ _ | .giveAccept _ _ _ | .doneComplete _ | .windowRelease _ | .sliceOverrun _ _
  | .supervisorPost _ | .portReadArrival _ _ | .drvNop _ | .drvMac _ _ | .drvCmr _ _ | .drvCmi _ _ | .drvAccw _ _ | .drvMova _ _ | .drvAmovx _ _
  | .drvLcoef _ _ | .drvVadd _ _ | .drvVsub _ _ | .drvVmax _ _ | .drvVmin _ _ | .drvVabs _ _ | .drvVshr _ _ | .drvVshl _ _ | .drvVswp _ _
  | .drvVbc _ _ | .drvVmov _ _ | .drvMovxv _ _ | .drvMovvx _ _ | .drvTapph _ _ | .drvTapgn _ _ | .drvLdv _ _ | .drvStv _ _ | .drvSta _ _
  | .drvStas _ _ | .drvLdw _ _ | .drvStw _ _ | .drvLdwf _ _ | .drvStwf _ _ | .drvAdd _ _ | .drvSub _ _ | .drvAnd _ _ | .drvOr _ _ | .drvXor _ _
  | .drvShl _ _ | .drvShr _ _ | .drvSra _ _ | .drvCmp _ _ | .drvMulx _ _ | .drvExtu _ _ | .drvExts _ _ | .drvAddi _ _ | .drvMovi _ _ | .drvMovhi _ _
  | .drvAgset _ _ | .drvAgget _ _ | .drvMts _ _ | .drvMfs _ _ | .drvScstep _ _ | .drvBr _ _ | .drvBrx _ _ | .drvCall _ _ | .drvLoop _ _
  | .drvReti _ _ | .drvTake _ _ | .drvGive _ _ | .drvDone _ _ | .drvTapset _ _ | .drvTaprd _ _ | .drvAccadd _ _ | .drvAccrc _ _ | .drvCoreReset _
  | .coreRun _ | .haltReq _ | .drvStep _ | .drvResume _ | .swapReq | .verifyComplete _ | .slHold _ | .slArm | .aes3Frame _ _ _ _ _ _
  | .asrcWindow _ _ | .asrcFsTimeout _ _ _ | .micZeroCrossing _ _ _ | .zcTimeout _ _ | .micDetectionSample _ _ _ _ _ _ | .idleBandHold _ _
  | .faultBandHold _ _ | .pressDebounce _ _ | .releaseDebounce _ _ | .switchingPeriod _ _ _ _ | .trip _ _ | .probeStart _ _ | .probeEnd _ _ _
  | .restartRampEnd _ _ | .principalTripFree _ _ | .dcCheck _ _ _ | .startComplete _ _ | .stopComplete _ _ | .clearFaultShort _ _
  | .clearFaultDc _ _ | .clearFaultOpen _ _ | .testWindowOpen _ | .testWindowClose _ | .lineTestSlot _ | .correlationStart _
  | .correlationEnd _ _ _ _ | .pilotRemoved _ | .programLimitExceeded _ _ | .lineTestRetry _ | .baselineCaptureEnd _ _ | .selfTestStart _
  | .selfTestHalt _ | .selfTestBreakpoint _ | .selfTestTimeout _ | .dramScrubSlice _ _ | .dramScrubTimeout _ | .foldPatternCheck _
  | .foldPatternResult _ | .senseReferenceCheck _ _ _ _ | .rxFrame _ _ _ _ _ | .pauseExpiry _ _ | .txFrameStart _ _ _ | .txFrameEnd _ _
  | .linkChange _ _ | .mdioTransfer _ | .mdioComplete _ | .servoStep _ _ | .holdoverTimeout _ | .conversion _ | .txqRead _ | .announceTimeout _
  | .ppsInput _ | .ppsOutput _ | .streamPacket _ _ _ | .legDown _ _ | .spiWrite _ _ _ | .spiRead _ _ | .spiStatus _ _ | .halfOpenTimeout _ _
  | .keepaliveTimeout _ _ | .resetDelay _ _ | .scheduledAction _ _ | .sessionClose _ | .keepalive _ | .objDefine _ _ _ | .objQuery _ _ _
  | .routeQuery _ _ _ | .limiterSet _ _ _ _ _ _ | .identExport _ _ _ | .portAesSet _ _ _ _ _ _ | .micSet _ _ _ _ | .asrcSet _ _ _ _
  | .psConfig _ _ _ | .psLoopPair _ _ _ | .psStatus _ _ _ | .tallySchedule _ _ | .tallyRunNow _ _ _ | .tallyLogRead _ _ _ | .timeStatus _
  | .scheduleEvent _ _ _ _ | .mirrorConfig _ _ _ | .mirrorStatus _ | .mirrorSwitchover _ | .attest _ _ | .certRead _ _ | .fwBegin _ _ _
  | .fwCommit _ | .safeCommit _ _ | .msgPlay _ _ _ _ _ | .msgStop _ _ _ | .shedConfig _ _ _ _ _ _ | .supplyStatus _ | .maintEnter _ _
  | .rawRead _ _ _ | .reset _ | .disagreement _ _ _ _ | .heartbeatPeriod _ | .hello _ _ | .heartbeat _ _ | .hbPinEdge _ | .heartbeatMiss _ _
  | .actiChange _ _ | .arbitrationTimeout _ | .copyFix _ _ | .copy _ _ _ | .bulk _ _ _ _ | .pattern _ _ | .handoverChannelStart _ | .handoverEnd _
  | .dramRequest _ _ _ _ | .rowIdleClose _ _ _ | .refresh _ _ | .dqsOscillatorRead _ _ _ | .trainReq _ | .retrainStep _ _ _ | .retrainTimeout _
  | .trainingComplete _ _ _ | .powerDownIdle _ _ | .fabErrinfoRead | .sysRemapSwap _ | .powerOnReset _ _ | .externalReset _ _ | .railFail _ _
  | .rcReady _ | .trimWrite _ _ | .rcTrimInterval _ | .xoStartDelay _ | .xoStartTimeout _ | .monitorWindow _ _ _ _ | .monitorNoEdge _ _
  | .pllUnlock _ _ | .restore | .gateRunWrite _ _ _ | .gatesClose _ | .quiescenceTimeout _ _ | .wake _ _ | .deepSleepClose _ _ | .mainsDebounce _ _
  | .brownout _ | .brownoutRecovery _ _ | .supervisorRelease _ _ _ _ | .evacuationTrigger _ _ | .setField _ | .faultInjection _ _
  | .registerWrite _ _ _ _ _ _ | .identExportComplete _ _ | .fwCommitComplete _ _ _ | .keyRotateComplete _ | .primaryTimePortReturn _
  | .foldBlockLockLoss _ _ => true

/-- A command is well formed. -/
def Instr.wf (i : Instr) : Bool := i.shape && (match i.hdr? with | some h => h.wf | none => true)

end Sys2Proof
end

