-- ==== Sys2Proof/Certificates/Slice0/Obligations.lean ====
section
/-! DEFINITION. The statements for the provers. -/

open Sys2Proof Sys2Proof.Machine

/-- A step takes the command at the front of the queue and carries it out on the state whose queue is the rest; with no command waiting only the raw counter advances (the idle tick is the model's choice, log entry 2). -/
def Obligations.StepRunsTheFront : Prop :=
  (∀ (s : State) (c : Instr) (q : List Instr), s.pending = c :: q → step s = exec c { s with pending := q }) ∧
  (∀ s : State, s.pending = [] → step s = .next { s with tm := { s.tm with raw := s.tm.raw + 1 } })

/-- The machine after reset: an empty queue, memory and registers in canonical form with nothing listed, so that every register reads its reset word (R398), the raw counter at zero (R250) and no session open (that an unlisted byte reads 0 and no resource has an owner is the model's choice, log entries 5 and 6). -/
def Obligations.ResetState : Prop :=
  State.reset.canonical = true ∧ State.reset.pending = [] ∧ State.reset.tm.raw = 0 ∧ State.reset.sessions = [] ∧ (∀ a, State.reset.byte a = 0#8) ∧
    (∀ f : Fld, State.reset.rd f = bitsOf f.rst f.hi f.lo) ∧ (∀ i, State.reset.isOpen i = false) ∧ (∀ r, State.reset.ownerOf r = none) ∧ (∀ c, State.reset.core c = coreReset) ∧
    State.reset.rd R.SYS_BOOT_STATE = 0 ∧ State.reset.rd R.CEL_CFG_GRAIN = 1

/-- Every step keeps memory and both register files in canonical form, from every state that has it. -/
def Obligations.StepKeepsCanonical : Prop :=
  ∀ s t : State, s.canonical = true → step s = .next t → t.canonical = true

/-- No command changes a part of the state outside those `changes` names for it; none touches the queue; the one-time memory only gains bits (R386, R394). -/
def Obligations.CommandFrame : Prop :=
  ∀ (i : Instr) (s t : State), exec i s = .next t → (∀ p, p ∉ changes i → Part.same p s t) ∧ t.pending = s.pending ∧ Otp.le s.otp t.otp

/-- Registers and memory (R14): a field that is written reads back, and nothing else of the state changes, no other field of its register among it; a counter saturates; bytes written read back and no others change; in canonical form equal contents are equal data. -/
def Obligations.RegistersAndMemory : Prop :=
  (∀ (s : State) (f g : Fld) (v : Nat), f.lo ≤ f.hi → g.lo ≤ g.hi →
    (s.wr f v).rd f = v % 2 ^ (f.hi - f.lo + 1) ∧ (g.addr ≠ f.addr → (s.wr f v).rd g = s.rd g) ∧
    (g.addr = f.addr → g.rst = f.rst → g.rst96 = f.rst96 → (g.hi < f.lo ∨ f.hi < g.lo) → (s.wr f v).rd g = s.rd g) ∧ ∀ p, p ≠ Part.regs → Part.same p s (s.wr f v)) ∧
  (∀ (s : State) (f : Fld) (n : Nat), f.lo = 0 → f.hi = 31 → (s.count f n).rd f = min 0xFFFFFFFF (s.rd f + n)) ∧
  (∀ (s : State) (a n v : Nat), (s.store a n v).load a n = v % 2 ^ (8 * n) ∧ (∀ b, (b < a ∨ a + n ≤ b) → (s.store a n v).byte b = s.byte b) ∧
    ∀ p, p ≠ Part.mem → Part.same p s (s.store a n v)) ∧
  (∀ s t : State, s.canonical = true → t.canonical = true → (∀ a, s.byte a = t.byte a) → s.mem = t.mem)

/-- Rounding (R35): for a positive divisor, `rheDiv a b` is the integer nearest to a / b, and the even one where a / b lies halfway between two integers. -/
def Obligations.RoundingToEven : Prop :=
  ∀ (a : Int) (b : Nat), 0 < b →
    (∀ m : Int, (a - rheDiv a b * b).natAbs ≤ (a - m * b).natAbs) ∧
    (∀ m : Int, m ≠ rheDiv a b → (a - m * b).natAbs = (a - rheDiv a b * b).natAbs → rheDiv a b % 2 = 0)

/-- Order of wrapping counters (R12): `laterThan n a b` says that (a − b) mod 2^n lies in (0, 2^(n−1)); equal counters and counters half a turn apart are neither later; of any two others exactly one is later. -/
def Obligations.SequenceOrder : Prop :=
  (∀ (n a b : Nat), 0 < n → laterThan n a b = decide (0 < ((a : Int) - b) % 2 ^ n ∧ ((a : Int) - b) % 2 ^ n < 2 ^ (n - 1))) ∧
  (∀ (n a b : Nat), 0 < n → a < 2 ^ n → b < 2 ^ n →
    (laterThan n a b = true → laterThan n b a = false) ∧ (a = b → laterThan n a b = false) ∧ ((a : Int) - b = 2 ^ (n - 1) ∨ (b : Int) - a = 2 ^ (n - 1) → laterThan n a b = false) ∧
    (a ≠ b → (a : Int) - b ≠ 2 ^ (n - 1) → (b : Int) - a ≠ 2 ^ (n - 1) → laterThan n a b = true ∨ laterThan n b a = true)) ∧
  laterThan 16 0x0003 0xFFFE = true

/-- The gain law (R9, R153): code 0x8000 is silence; any other code outside −6,000 to 1,200 acts as the nearer limit; within it the linear gain n is 131,072 × 10^(g / 1,000) rounded to the nearest integer, both sides compared in 1,000th powers. -/
def Obligations.GainLaw : Prop :=
  gainLin (-32768) = 0 ∧ (∀ g : Int, -32768 < g → g < -6000 → gainLin g = gainLin (-6000)) ∧ (∀ g : Int, 1200 < g → gainLin g = gainLin 1200) ∧
  (∀ g : Nat, g ≤ 1200 → (2 * gainLin g - 1) ^ 1000 ≤ 262144 ^ 1000 * 10 ^ g ∧ 262144 ^ 1000 * 10 ^ g < (2 * gainLin g + 1) ^ 1000) ∧
  (∀ g : Nat, g ≤ 6000 → (2 * gainLin (-(g : Int)) - 1) ^ 1000 * 10 ^ g ≤ 262144 ^ 1000 ∧ 262144 ^ 1000 < (2 * gainLin (-(g : Int)) + 1) ^ 1000 * 10 ^ g)

/-- The interleave (R339): with both channels in service, DRAM address a lies in channel floor(a / G) mod 2 at channel address floor(a / 2G) × G + a mod G, G being 256, 1,024 or 4,096 bytes by CEL_CFG.GRAIN, 1,024 at reset; no two addresses share a place. -/
def Obligations.Interleave : Prop :=
  ∀ s : State, s.celChannels = 2 →
    let g : Nat := if s.rd R.CEL_CFG_GRAIN = 0 then 256 else if s.rd R.CEL_CFG_GRAIN = 1 then 1024 else 4096
    (∀ a, s.dramPlace a = (a / g % 2, a / (2 * g) * g + a % g)) ∧ (∀ a b, s.dramPlace a = s.dramPlace b → a = b) ∧ State.reset.grain = 1024

/-- Reception, steps 1 to 6 (R277, R284, R289), for every opcode: a packet that fails a step has the outcome of that step, is counted, and changes nothing else; what answers without acceptance leaves the last sequence number and the cache as they were; a retransmission whose reply spanned packets is executed again (how many are remembered is log entry 117). -/
def Obligations.ReceptionSteps : Prop :=
  ∀ (s : State) (h : Hdr) (d : OpInfo) (chk : State → Nat → OpCheck) (run : State → Nat → State × Option (Status × List Byte)),
    let p : Nat := h.port.val
    let i : Nat := h.sess
    let x : Session := s.session i
    let t : State := s.receive h d chk run
    let up (f : Fld) : Prop := t.rd f = min 0xFFFFFFFF (s.rd f + 1)
    let only (ps : List Part) : Prop := ∀ q, q ∉ ps → Part.same q s t
    let kept : Prop := up (R.HIF_CNT_RX_VALUE p) ∧ (t.session i).lastSeq = x.lastSeq ∧ (t.session i).cache = x.cache ∧ (t.session i).phase = .opened ∧ (t.session i).lastRx = (s.atRaw h.t).tm.raw ∧
      only [.tm, .regs, .ports, .sessions]
    let mute (f : Fld) : Prop := up (R.HIF_CNT_RX_VALUE p) ∧ up f ∧ (t.port p).out = (s.port p).out ∧ only [.tm, .regs, .ports]
    (s.portEnabled p = false → t = s.atRaw h.t) ∧
    (s.portEnabled p = true →
      (h.framing = .badFrame → mute (R.HIF_CNT_FRAME_VALUE p)) ∧
      (h.framing = .badCrc → mute (R.HIF_CNT_CRC_VALUE p)) ∧
      (h.framing = .good → (8 ≤ i ∨ x.phase = .closed ∨ x.port ≠ p) → mute (R.HIF_CNT_NOSESS_VALUE p)) ∧
      (h.framing = .good → i < 8 → x.phase ≠ .closed → x.port = p →
        (tagPasses h x = false → mute (R.HIF_CNT_AUTH_VALUE p)) ∧
        (tagPasses h x = true →
          ((s.runningFor p d.code).isSome = true → up (R.HIF_CNT_BUSY_VALUE p) ∧ kept) ∧
          (s.runningFor p d.code = none →
            ((h.major ≠ x.major ∨ h.minor ≠ x.minor) → kept) ∧
            (h.major = x.major → h.minor = x.minor →
              (∀ k, x.cache.find? (fun c => c.1 = h.seq.toNat) = some k →
                kept ∧ t = (((((s.atRaw h.t).takeInbound p).bump (R.HIF_CNT_RX_VALUE p)).heard i).enqueue p k.2)) ∧
              (x.cache.find? (fun c => c.1 = h.seq.toNat) = none → laterThan 32 h.seq.toNat x.lastSeq = false → x.spans.contains h.seq.toNat = false → up (R.HIF_CNT_STALE_VALUE p) ∧ kept) ∧
              (x.cache.find? (fun c => c.1 = h.seq.toNat) = none → laterThan 32 h.seq.toNat x.lastSeq = false → x.spans.contains h.seq.toNat = true →
                ∃ a : State, s.hear h d = .accepted i a ∧ (a.session i).lastSeq = x.lastSeq ∧ (a.session i).cache = x.cache ∧ (a.session i).phase = .opened) ∧
              (x.cache.find? (fun c => c.1 = h.seq.toNat) = none → laterThan 32 h.seq.toNat x.lastSeq = true →
                ∃ a : State, s.hear h d = .accepted i a ∧ (a.session i).lastSeq = h.seq.toNat ∧ (a.session i).cache = x.cache ∧ (a.session i).phase = .opened))))))

/-- MAC, CMR, CMI, ACCW and NOP (R93, R102, R103, R121, R125, R126): each lane of the bank takes, after four cycles, the saturated sum of what the chain holds (nothing with Z, or with ADD clear) and the product shifted left
by PS, subtracted with N; CMR multiplies by the real part of B, CMI by the imaginary part with the sign of a complex product; a saturated lane sets ASAT after one cycle. -/
def Obligations.DroverMultiplies : Prop :=
  (∀ (s : State) (a : Issue), s.issuesAlone a .nop → s.gives a (.drvNop a) []) ∧
  (∀ (s : State) (a : Issue) (f : FmtM), s.issuesAlone a (.mac f) →
    let p (k : Nat) : Int := (s.core a.core.val).vLane f.va.toNat k * (s.core a.core.val).macB f (if f.bc then f.lane.toNat else k) * 2 ^ f.ps.toNat
    let sum (k : Nat) : Int := (if f.z then 0 else (s.core a.core.val).accChain (8 * b2n f.bank + k)) + (if f.n then -(p k) else p k)
    s.gives a (.drvMac a f) ((List.range 8).map (fun k => (4, .acc (8 * b2n f.bank + k) (satAcc (sum k)))) ++
      asat ((List.range 8).any (fun k => satAcc (sum k) ≠ sum k)))) ∧
  (∀ (s : State) (a : Issue) (f : FmtM), s.issuesAlone a (.cmr f) →
    let p (k : Nat) : Int := (s.core a.core.val).vLane f.va.toNat k *
      (s.core a.core.val).macB f (if f.bc then f.lane.toNat / 2 * 2 else k / 2 * 2) * 2 ^ f.ps.toNat
    let sum (k : Nat) : Int := (if f.z then 0 else (s.core a.core.val).accChain (8 * b2n f.bank + k)) + (if f.n then -(p k) else p k)
    s.gives a (.drvCmr a f) ((List.range 8).map (fun k => (4, .acc (8 * b2n f.bank + k) (satAcc (sum k)))) ++
      asat ((List.range 8).any (fun k => satAcc (sum k) ≠ sum k)))) ∧
  (∀ (s : State) (a : Issue) (f : FmtM), s.issuesAlone a (.cmi f) →
    let b (k : Nat) : Int := (s.core a.core.val).macB f ((if f.bc then f.lane.toNat / 2 * 2 else k / 2 * 2) + 1)
    let p (k : Nat) : Int := (if k % 2 = 0 then -((s.core a.core.val).vLane f.va.toNat (k + 1) * b k)
      else (s.core a.core.val).vLane f.va.toNat (k - 1) * b k) * 2 ^ f.ps.toNat
    let sum (k : Nat) : Int := (if f.z then 0 else (s.core a.core.val).accChain (8 * b2n f.bank + k)) + (if f.n then -(p k) else p k)
    s.gives a (.drvCmi a f) ((List.range 8).map (fun k => (4, .acc (8 * b2n f.bank + k) (satAcc (sum k)))) ++
      asat ((List.range 8).any (fun k => satAcc (sum k) ≠ sum k)))) ∧
  (∀ (s : State) (a : Issue) (f : FmtA), s.issuesAlone a (.accw f) →
    let sum (k : Nat) : Int := (if f.add then (s.core a.core.val).accChain (8 * b2n f.bank + k) else 0) +
      (s.core a.core.val).vLane f.v.toNat k * 2 ^ f.sh.toNat
    s.gives a (.drvAccw a f) ((List.range 8).map (fun k => (4, .acc (8 * b2n f.bank + k) (satAcc (sum k)))) ++
      asat ((List.range 8).any (fun k => satAcc (sum k) ≠ sum k))))

/-- The lane-wise vector instructions (R59, R93, R103, R124): every lane of the destination, a V or a K register, takes its value after one cycle (a Lagrange coefficient after three); sums, differences, absolute values and left shifts saturate to 18
bits and set SSAT where they do. -/
def Obligations.DroverVectors : Prop :=
  (∀ (s : State) (a : Issue) (f : FmtV), s.issuesAlone a (.lcoef f) → s.gives a (.drvLcoef a f)
    ((List.range 8).map (fun i => (3, (s.core a.core.val).laneWr f.kd f.vd.toNat i
      (coefOf f.imm4.toNat ((s.core a.core.val).vLane f.va.toNat i)))))) ∧
  (∀ (s : State) (a : Issue) (f : FmtV), s.issuesAlone a (.vadd f) →
    let v (i : Nat) : Int := (s.core a.core.val).vLane f.va.toNat i + (s.core a.core.val).lane f.kb f.vb.toNat i
    s.gives a (.drvVadd a f)
    ((List.range 8).map (fun i => (1, (s.core a.core.val).laneWr f.kd f.vd.toNat i (sat17 (v i)))) ++
      ssat ((List.range 8).any (fun i => v i < -131072 || 131071 < v i)))) ∧
  (∀ (s : State) (a : Issue) (f : FmtV), s.issuesAlone a (.vsub f) →
    let v (i : Nat) : Int := (s.core a.core.val).vLane f.va.toNat i - (s.core a.core.val).lane f.kb f.vb.toNat i
    s.gives a (.drvVsub a f)
    ((List.range 8).map (fun i => (1, (s.core a.core.val).laneWr f.kd f.vd.toNat i (sat17 (v i)))) ++
      ssat ((List.range 8).any (fun i => v i < -131072 || 131071 < v i)))) ∧
  (∀ (s : State) (a : Issue) (f : FmtV), s.issuesAlone a (.vabs f) →
    let v (i : Nat) : Int := max ((s.core a.core.val).vLane f.va.toNat i) (-(s.core a.core.val).vLane f.va.toNat i)
    s.gives a (.drvVabs a f)
    ((List.range 8).map (fun i => (1, (s.core a.core.val).laneWr f.kd f.vd.toNat i (sat17 (v i)))) ++
      ssat ((List.range 8).any (fun i => 131071 < v i)))) ∧
  (∀ (s : State) (a : Issue) (f : FmtV), s.issuesAlone a (.vshl f) →
    let v (i : Nat) : Int := (s.core a.core.val).vLane f.va.toNat i * 2 ^ f.imm4.toNat
    s.gives a (.drvVshl a f)
    ((List.range 8).map (fun i => (1, (s.core a.core.val).laneWr f.kd f.vd.toNat i (sat17 (v i)))) ++
      ssat ((List.range 8).any (fun i => v i < -131072 || 131071 < v i)))) ∧
  (∀ (s : State) (a : Issue) (f : FmtV), s.issuesAlone a (.vshr f) → s.gives a (.drvVshr a f)
    ((List.range 8).map (fun i => (1, (s.core a.core.val).laneWr f.kd f.vd.toNat i
      (rheDiv ((s.core a.core.val).vLane f.va.toNat i) (2 ^ f.imm4.toNat)))))) ∧
  (∀ (s : State) (a : Issue) (f : FmtV), s.issuesAlone a (.vmax f) → s.gives a (.drvVmax a f)
    ((List.range 8).map (fun i => (1, (s.core a.core.val).laneWr f.kd f.vd.toNat i
      (max ((s.core a.core.val).vLane f.va.toNat i) ((s.core a.core.val).lane f.kb f.vb.toNat i)))))) ∧
  (∀ (s : State) (a : Issue) (f : FmtV), s.issuesAlone a (.vmin f) → s.gives a (.drvVmin a f)
    ((List.range 8).map (fun i => (1, (s.core a.core.val).laneWr f.kd f.vd.toNat i
      (min ((s.core a.core.val).vLane f.va.toNat i) ((s.core a.core.val).lane f.kb f.vb.toNat i)))))) ∧
  (∀ (s : State) (a : Issue) (f : FmtV), s.issuesAlone a (.vswp f) → s.gives a (.drvVswp a f)
    ([0, 1, 2, 3, 4, 5, 6, 7].map (fun i => (1, (s.core a.core.val).laneWr f.kd f.vd.toNat i
      ((s.core a.core.val).vLane f.va.toNat ([1, 0, 3, 2, 5, 4, 7, 6].getD i 0)))))) ∧
  (∀ (s : State) (a : Issue) (f : FmtV), s.issuesAlone a (.vbc f) → s.gives a (.drvVbc a f)
    ((List.range 8).map (fun i => (1, (s.core a.core.val).laneWr f.kd f.vd.toNat i ((s.core a.core.val).vLane f.va.toNat f.imm4.toNat))))) ∧
  (∀ (s : State) (a : Issue) (f : FmtV), s.issuesAlone a (.vmov f) → s.gives a (.drvVmov a f)
    ((List.range 8).map (fun i => (1, (s.core a.core.val).laneWr f.kd f.vd.toNat i ((s.core a.core.val).lane f.kb f.vb.toNat i)))))

/-- The moves between register files and the tap helpers (R93, R103, R124, R127): MOVA rounds and saturates accumulator lanes into V after two cycles, AMOVX takes the high or low half of an accumulator, MOVXV and MOVVX move one lane, TAPPH gives the phases and
the whole-sample delay of a group of eight samples, TAPGN their gains. -/
def Obligations.DroverMoves : Prop :=
  (∀ (s : State) (a : Issue) (f : FmtA), s.issuesAlone a (.mova f) →
    let v (i : Nat) : Int := rheDiv ((s.core a.core.val).accv (8 * b2n f.bank + i)) (2 ^ (17 + f.sh.toNat))
    s.gives a (.drvMova a f)
    ((List.range 8).map (fun i => (2, .v ((s.core a.core.val).phys f.v.toNat * 8 + i) (sat17 (v i)))) ++
      ssat ((List.range 8).any (fun i => v i < -131072 || 131071 < v i)))) ∧
  (∀ (s : State) (a : Issue) (f : FmtAX), s.issuesAlone a (.amovx f) → s.gives a (.drvAmovx a f)
    [(1, .x f.xd.toNat (unsignedOf 32 (if f.h then (s.core a.core.val).accv f.acc.toNat / 2 ^ 32 else (s.core a.core.val).accv f.acc.toNat)))]) ∧
  (∀ (s : State) (a : Issue) (f : FmtXV), s.issuesAlone a (.movxv f) → s.gives a (.drvMovxv a f)
    [(1, (s.core a.core.val).laneWr f.k f.v.toNat f.lane.toNat (signedOf 18 ((s.core a.core.val).xr f.x.toNat)))]) ∧
  (∀ (s : State) (a : Issue) (f : FmtXV), s.issuesAlone a (.movvx f) → s.gives a (.drvMovvx a f)
    [(1, .x f.x.toNat (unsignedOf 32 ((s.core a.core.val).lane f.k f.v.toNat f.lane.toNat)))]) ∧
  (∀ (s : State) (a : Issue) (f : FmtT), s.issuesAlone a (.tapph f) →
    let t1 : Nat := bitsOf ((s.core a.core.val).xr 9) 31 7
    let t0 : Nat := bitsOf ((s.core a.core.val).xr 12) 24 0
    let d (i : Nat) : Int := if f.j then (t0 : Int) else rheDiv (32 * (t0 : Int) + (8 * f.g.toNat + i + 1 : Nat) * ((t1 : Int) - t0)) 32
    s.gives a (.drvTapph a f)
      ((List.range 8).map (fun i => (1, .v ((s.core a.core.val).phys f.vd.toNat * 8 + i) (d i % 256))) ++
        [(1, .x f.xd.toNat (unsignedOf 32 (d 0 / 256))), (1, .flags 1 (b2n ((List.range 8).all (fun i => d i / 256 = d 0 / 256))))])) ∧
  (∀ (s : State) (a : Issue) (f : FmtT), s.issuesAlone a (.tapgn f) →
    let g : Int := (bitsOf ((s.core a.core.val).xr 10) 30 13 : Nat)
    let inc : Int := signedOf 19 (bitsOf ((s.core a.core.val).xr 10) 12 0 * 64 + bitsOf ((s.core a.core.val).xr 11) 31 26)
    s.gives a (.drvTapgn a f) ((List.range 8).map (fun i => (1, .v ((s.core a.core.val).phys f.vd.toNat * 8 + i)
      (signedOf 18 (unsignedOf 18 (rheDiv (32 * (g - inc) + (8 * f.g.toNat + i + 1 : Nat) * inc) 32)))))))

/-- The scalar instructions (R124): after one cycle the destination X register holds the result modulo 2³², and SR its flags: Z and N of the result, C and V of an addition or subtraction (C set means no borrow), C and V clear after any other; the moves set no flag. -/
def Obligations.DroverScalars : Prop :=
  (∀ (s : State) (a : Issue) (f : FmtX), s.issuesAlone a (.add f) →
    let x : Nat := (s.core a.core.val).xr f.xa.toNat
    let y : Nat := (s.core a.core.val).xr f.xb.toNat
    let r : Nat := (x + y) % 2 ^ 32
    s.gives a (.drvAdd a f)
      [(1, .x f.xd.toNat r), (1, .flags 15 (b2n (r = 0) + 2 * b2n (bitOf r 31) + 4 * b2n (signedOf 32 x + signedOf 32 y ≠ signedOf 32 r) +
        8 * b2n (2 ^ 32 ≤ x + y)))]) ∧
  (∀ (s : State) (a : Issue) (f : FmtW), s.issuesAlone a (.addi f) →
    let x : Nat := (s.core a.core.val).xr f.xa.toNat
    let y : Nat := unsignedOf 32 f.imm.toInt
    let r : Nat := (x + y) % 2 ^ 32
    s.gives a (.drvAddi a f)
      [(1, .x f.xd.toNat r), (1, .flags 15 (b2n (r = 0) + 2 * b2n (bitOf r 31) + 4 * b2n (signedOf 32 x + signedOf 32 y ≠ signedOf 32 r) +
        8 * b2n (2 ^ 32 ≤ x + y)))]) ∧
  (∀ (s : State) (a : Issue) (f : FmtX), s.issuesAlone a (.sub f) →
    let x : Nat := (s.core a.core.val).xr f.xa.toNat
    let y : Nat := (s.core a.core.val).xr f.xb.toNat
    let r : Nat := (x + 2 ^ 32 - y) % 2 ^ 32
    s.gives a (.drvSub a f)
      [(1, .x f.xd.toNat r), (1, .flags 15 (b2n (r = 0) + 2 * b2n (bitOf r 31) + 4 * b2n (signedOf 32 x - signedOf 32 y ≠ signedOf 32 r) +
        8 * b2n (y ≤ x)))]) ∧
  (∀ (s : State) (a : Issue) (f : FmtX), s.issuesAlone a (.cmp f) →
    let x : Nat := (s.core a.core.val).xr f.xa.toNat
    let y : Nat := (s.core a.core.val).xr f.xb.toNat
    let r : Nat := (x + 2 ^ 32 - y) % 2 ^ 32
    s.gives a (.drvCmp a f)
      [(1, .flags 15 (b2n (r = 0) + 2 * b2n (bitOf r 31) + 4 * b2n (signedOf 32 x - signedOf 32 y ≠ signedOf 32 r) + 8 * b2n (y ≤ x)))]) ∧
  (∀ (s : State) (a : Issue) (f : FmtX),
    let x : Nat := (s.core a.core.val).xr f.xa.toNat
    let y : Nat := (s.core a.core.val).xr f.xb.toNat
    let logic (r : Nat) : Res := [(1, .x f.xd.toNat (r % 2 ^ 32)), (1, .flags 15 (b2n (r % 2 ^ 32 = 0) + 2 * b2n (bitOf (r % 2 ^ 32) 31)))]
    (s.issuesAlone a (.and_ f) → s.gives a (.drvAnd a f) (logic (x &&& y))) ∧
    (s.issuesAlone a (.or_ f) → s.gives a (.drvOr a f) (logic (x ||| y))) ∧
    (s.issuesAlone a (.xor f) → s.gives a (.drvXor a f) (logic (x ^^^ y))) ∧
    (s.issuesAlone a (.shl f) → s.gives a (.drvShl a f) (logic (x * 2 ^ (y % 32)))) ∧
    (s.issuesAlone a (.shr f) → s.gives a (.drvShr a f) (logic (x / 2 ^ (y % 32)))) ∧
    (s.issuesAlone a (.sra f) → s.gives a (.drvSra a f) (logic (unsignedOf 32 (signedOf 32 x / 2 ^ (y % 32))))) ∧
    (s.issuesAlone a (.mulx f) → s.gives a (.drvMulx a f) (logic (x * y))) ∧
    (s.issuesAlone a (.extu f) → s.gives a (.drvExtu a f) (logic (x / 2 ^ f.pos.toNat % 2 ^ (f.wm1.toNat + 1)))) ∧
    (s.issuesAlone a (.exts f) → s.gives a (.drvExts a f)
      (logic (unsignedOf 32 (signedOf (f.wm1.toNat + 1) (x / 2 ^ f.pos.toNat % 2 ^ (f.wm1.toNat + 1))))))) ∧
  (∀ (s : State) (a : Issue) (f : FmtW), s.issuesAlone a (.movi f) → s.gives a (.drvMovi a f) [(1, .x f.xd.toNat (unsignedOf 32 f.imm.toInt))]) ∧
  (∀ (s : State) (a : Issue) (f : FmtW), s.issuesAlone a (.movhi f) → s.gives a (.drvMovhi a f)
    [(1, .x f.xd.toNat (f.imm.toNat * 2 ^ 18 + (s.core a.core.val).xr f.xd.toNat % 2 ^ 18))])

/-- AGSET, AGGET, MTS, MFS and SCSTEP (R93, R105, R130): a field of an address generator is written or read after one cycle; MTS writes SR, IPC or ISR after one cycle, a loop register after two, a scale register after three, and
PC not at all (the latency of IPC and ISR is open, R93); MFS reads them; SCSTEP takes the next shift from M, adds it to E and clears M after three cycles. -/
def Obligations.DroverSpecials : Prop :=
  (∀ (s : State) (a : Issue) (f : FmtS), s.issuesAlone a (.agset f) →
    let w : Nat := (s.core a.core.val).xr f.x.toNat
    s.gives a (.drvAgset a f) [(1, [Wr.agBase f.ag.toNat (w % 131072), .agPtr f.ag.toNat (signedOf 18 w), .agInc f.ag.toNat (signedOf 18 w),
      .agLen f.ag.toNat (w % 131072)].getD f.fld.toNat (.agMode f.ag.toNat (w % 4)))]) ∧
  (∀ (s : State) (a : Issue) (f : FmtS), s.issuesAlone a (.agget f) →
    let g : AddrGen := (s.core a.core.val).ag f.ag.toNat
    s.gives a (.drvAgget a f) [(1, .x f.x.toNat ([g.base, unsignedOf 18 g.ptr, unsignedOf 18 g.inc, g.len].getD f.fld.toNat g.mode))]) ∧
  (∀ (s : State) (a : Issue) (f : FmtS), s.issuesAlone a (.mts f) →
    let w : Nat := (s.core a.core.val).xr f.x.toNat
    ∃ l : Nat, s.gives a (.drvMts a f)
      (if f.sel.toNat < 0xA7 then [(2, .loopReg (f.sel.toNat - 0xA0) w)] else if f.sel.toNat = 0xA7 then [(1, .sr w)]
        else if f.sel.toNat = 0xA8 then [] else if f.sel.toNat = 0xA9 then [(l, .ipc w)] else if f.sel.toNat = 0xAA then [(l, .isr w)]
        else [(3, .scl (f.sel.toNat - 0xB0) ⟨bitsOf w 4 0, bitsOf w 8 5, bitsOf w 26 9, bitOf w 27, bitOf w 28⟩)])) ∧
  (∀ (s : State) (a : Issue) (f : FmtS), s.issuesAlone a (.mfs f) →
    let x : CoreSt := s.core a.core.val
    let z : Scale := x.scl (f.sel.toNat - 0xB0)
    s.gives a (.drvMfs a f) [(1, .x f.x.toNat
      (if f.sel.toNat < 0xA7 then x.lview.get 0 (f.sel.toNat - 0xA0) else if f.sel.toNat = 0xA7 then x.sr else if f.sel.toNat = 0xA8 then x.pc
        else if f.sel.toNat = 0xA9 then x.ipc else if f.sel.toNat = 0xAA then x.isr
        else z.e + z.s * 2 ^ 5 + z.m * 2 ^ 9 + b2n z.raised * 2 ^ 27 + b2n z.eovf * 2 ^ 28))]) ∧
  (∀ (s : State) (a : Issue) (f : FmtS), s.issuesAlone a (.scstep f) →
    let z : Scale := (s.core a.core.val).scl f.scl.toNat
    let sh : Nat := if z.m < 2 ^ 15 then 0 else if z.m < 2 ^ 16 then 1 else 2
    s.gives a (.drvScstep a f) [(3, .sclStep f.scl.toNat (min 31 (z.e + sh)) sh)])

/-- LDV, LDW, STV, STA, STAS and STW with every lane inside the memory (R93, R97, R100, R103, R104, R128): a load delivers its elements or its word after three cycles; a store writes the lanes of its register, the rounded and saturated
accumulators, or the accumulators under the least shift that fits, with SSAT or the scale register following; the pointer takes its update after one cycle; of memory only the elements or the word named change, and the last byte of a local memory never. Local memory (R97): an element reads back what was stored to it, every other element of every core is as it was, and of the bytes at most the three it lies in change. -/
def Obligations.DroverAndElementMemory : Prop :=
  (∀ (s : State) (a : Issue) (f : FmtL), s.issuesAlone a (.ldv f) → FmtL.fault f ((s.core a.core.val).ag f.ag.toNat) ((s.core a.core.val).ag f.ag.toNat).ptr = none →
    let x : CoreSt := s.core a.core.val
    let g : AddrGen := x.ag f.ag.toNat
    s.gives a (.drvLdv a f) ((if f.upd then [(1, Wr.agPtr f.ag.toNat (g.next g.ptr))] else []) ++
      (if f.vec then [0, 1, 2, 3, 4, 5, 6, 7] else [f.lane.toNat]).map (fun i =>
        (3, x.laneWr f.k f.reg.toNat i (s.elem a.core.val (g.addr g.ptr (if f.vec then i else 0)).toNat))))) ∧
  (∀ (s : State) (a : Issue) (f : FmtW), s.issuesAlone a (.ldw f) → (s.core a.core.val).wordAddr f ≤ 0x3FFFC →
    s.gives a (.drvLdw a f) [(3, .x f.xd.toNat (s.load (0x30000000 + a.core.val * 0x40000 + (s.core a.core.val).wordAddr f) 4))]) ∧
  (∀ (s : State) (a : Issue) (f : FmtL), s.issuesAlone a (.stv f) → FmtL.fault f ((s.core a.core.val).ag f.ag.toNat) ((s.core a.core.val).ag f.ag.toNat).ptr = none →
    let x : CoreSt := s.core a.core.val
    let g : AddrGen := x.ag f.ag.toNat
    ∃ t : State, exec (.drvStv a f) s = .next t ∧ t.mem = (s.putElems a.core.val f g g.ptr (fun i => x.lane f.k f.reg.toNat i)).mem ∧
      s.coreGoes a.core.val ((x.fly (if f.upd then [(1, Wr.agPtr f.ag.toNat (g.next g.ptr))] else [])).finish) [] [.mem] t) ∧
  (∀ (s : State) (a : Issue) (f : FmtL), s.issuesAlone a (.sta f) → FmtL.fault f ((s.core a.core.val).ag f.ag.toNat) ((s.core a.core.val).ag f.ag.toNat).ptr = none →
    let x : CoreSt := s.core a.core.val
    let g : AddrGen := x.ag f.ag.toNat
    let v (i : Nat) : Int := rheDiv (x.accv (8 * b2n (bitOf f.reg.toNat 5) + i)) (2 ^ (17 + f.reg.toNat % 32))
    ∃ t : State, exec (.drvSta a f) s = .next t ∧ t.mem = (s.putElems a.core.val f g g.ptr (fun i => sat17 (v i))).mem ∧
      s.coreGoes a.core.val ((x.fly ((if f.upd then [(1, Wr.agPtr f.ag.toNat (g.next g.ptr))] else []) ++
        ssat ((if f.vec then [0, 1, 2, 3, 4, 5, 6, 7] else [f.lane.toNat]).any (fun i => v i < -131072 || 131071 < v i)))).finish) [] [.mem] t) ∧
  (∀ (s : State) (a : Issue) (f : FmtL) (sh : Nat), s.issuesAlone a (.stas f) →
    FmtL.fault f ((s.core a.core.val).ag f.ag.toNat) ((s.core a.core.val).ag f.ag.toNat).ptr = none →
    let x : CoreSt := s.core a.core.val
    let g : AddrGen := x.ag f.ag.toNat
    let ls : List Nat := if f.vec then [0, 1, 2, 3, 4, 5, 6, 7] else [f.lane.toNat]
    let v (k i : Nat) : Int := rheDiv (x.accv (8 * b2n (bitOf f.reg.toNat 5) + i)) (2 ^ (17 + k))
    let fits (k : Nat) : Bool := ls.all (fun i => decide (-131072 ≤ v k i) && decide (v k i ≤ 131071))
    (x.scl (f.reg.toNat % 4)).s ≤ sh → sh < (x.scl (f.reg.toNat % 4)).s + 16 → fits sh = true → (∀ k, (x.scl (f.reg.toNat % 4)).s ≤ k → k < sh → fits k = false) →
    ∃ t : State, exec (.drvStas a f) s = .next t ∧ t.mem = (s.putElems a.core.val f g g.ptr (v sh)).mem ∧
      s.coreGoes a.core.val ((x.fly ((if f.upd then [(1, Wr.agPtr f.ag.toNat (g.next g.ptr))] else []) ++
        [(3, .sclMove (f.reg.toNat % 4) sh (ls.foldl (fun m i => max m (v sh i).natAbs) 0))])).finish) [] [.mem] t) ∧
  (∀ (s : State) (a : Issue) (f : FmtW), s.issuesAlone a (.stw f) → (s.core a.core.val).wordAddr f ≤ 0x3FFFC →
    let x : CoreSt := s.core a.core.val
    ∃ t : State, exec (.drvStw a f) s = .next t ∧
      t.mem = (s.store (0x30000000 + a.core.val * 0x40000 + x.wordAddr f) (if x.wordAddr f = 0x3FFFC then 3 else 4) (x.xr f.xd.toNat)).mem ∧
      s.coreGoes a.core.val (x.finish) [] [.mem] t) ∧
  (∀ (s : State) (c e : Nat) (v : Int), e < 116508 → -131072 ≤ v → v ≤ 131071 →
    (s.setElem c e v).elem c e = v ∧
    (∀ d k, k < 116508 → ¬(d = c ∧ k = e) → (s.setElem c e v).elem d k = s.elem d k) ∧
    (∀ a, a < 0x30000000 + 0x40000 * c + 18 * e / 8 ∨ 0x30000000 + 0x40000 * c + 18 * e / 8 + 2 < a → (s.setElem c e v).byte a = s.byte a) ∧
    ∀ p : Part, p ≠ .mem → p.same s (s.setElem c e v))

/-- Accesses that fail (R101, R113): a load or store of format L with a lane outside, and a word access beyond 0x3FFFC, are suppressed: a load writes zero, a store nothing, the pointer still takes its update; the ACCESS fault is pending, two more bundles
issue, and DRV_FAULT_ADDR holds the first failing address. -/
def Obligations.DroverAccessFaults : Prop :=
  (∀ (s : State) (a : Issue) (f : FmtL) (e : Nat), s.issuesAlone a (.ldv f) →
    FmtL.fault f ((s.core a.core.val).ag f.ag.toNat) ((s.core a.core.val).ag f.ag.toNat).ptr = some (.access, some (false, e)) →
    let x : CoreSt := s.core a.core.val
    let g : AddrGen := x.ag f.ag.toNat
    ∃ t : State, exec (.drvLdv a f) s = .next t ∧
      t.core a.core.val = ({ x.fly ((if f.upd then [(1, Wr.agPtr f.ag.toNat (g.next g.ptr))] else []) ++
        (if f.vec then [0, 1, 2, 3, 4, 5, 6, 7] else [f.lane.toNat]).map (fun i => (3, x.laneWr f.k f.reg.toNat i 0))) with
        trap := some ⟨3, x.pc, .access, x.srBit 14⟩ }).finish ∧
      t.on (R.DRV_FAULT_ADDR_WORD a.core.val) = false ∧ t.rd (R.DRV_FAULT_ADDR_ADDR a.core.val) = e % 2 ^ 18 ∧
      ∀ p, p ∉ [Part.cores, .regs] → Part.same p s t) ∧
  (∀ (s : State) (a : Issue) (f : FmtL) (e : Nat), s.issuesAlone a (.stv f) →
    FmtL.fault f ((s.core a.core.val).ag f.ag.toNat) ((s.core a.core.val).ag f.ag.toNat).ptr = some (.access, some (false, e)) →
    let x : CoreSt := s.core a.core.val
    let g : AddrGen := x.ag f.ag.toNat
    ∃ t : State, exec (.drvStv a f) s = .next t ∧
      t.core a.core.val = ({ x.fly (if f.upd then [(1, Wr.agPtr f.ag.toNat (g.next g.ptr))] else []) with
        trap := some ⟨3, x.pc, .access, x.srBit 14⟩ }).finish ∧
      t.on (R.DRV_FAULT_ADDR_WORD a.core.val) = false ∧ t.rd (R.DRV_FAULT_ADDR_ADDR a.core.val) = e % 2 ^ 18 ∧
      ∀ p, p ∉ [Part.cores, .regs] → Part.same p s t) ∧
  (∀ (s : State) (a : Issue) (f : FmtW), s.issuesAlone a (.stw f) → 0x3FFFC < (s.core a.core.val).wordAddr f →
    let x : CoreSt := s.core a.core.val
    ∃ t : State, exec (.drvStw a f) s = .next t ∧ t.core a.core.val = ({ x with trap := some ⟨3, x.pc, .access, x.srBit 14⟩ }).finish ∧
      t.on (R.DRV_FAULT_ADDR_WORD a.core.val) = true ∧ t.rd (R.DRV_FAULT_ADDR_ADDR a.core.val) = x.wordAddr f % 2 ^ 18 ∧
      ∀ p, p ∉ [Part.cores, .regs] → Part.same p s t)

/-- A fault is taken (R114) at the end of the second further bundle, here a NOP: what is in flight lands, IPC takes the next bundle, ISR takes SR, SR.IN_INT is set and SR.IE cleared, the handler runs from bundle 8, and DRV_FAULT_PC, the bit of the cause and
the fault counter follow; when SR.IN_INT was set (R116), the core stops in STATE 4 with DOUBLE set, out of rotation. Illegal bundles and task faults (R95, R109, R110, R113–R115): an illegal bundle does nothing but advance and leaves the ILLEGAL fault pending with two more bundles to issue; DONE and TAPRD without a task or a range, and a GIVE to the flow of the task that has ended, leave TASK pending. -/
def Obligations.DroverFaults : Prop :=
  (∀ (s : State) (a : Issue) (pc : Nat) (k : Cause) (nested : Bool), a.partner = 0#32 → s.issues a.core.val = true →
    (s.core a.core.val).trap = some ⟨1, pc, k, nested⟩ → (s.core a.core.val).delay = none → (s.core a.core.val).task = none →
    (∀ i, i < 4 → s.on (R.DRV_BKPT_EN a.core.val i) = false) → s.rests = true →
    (s.core a.core.val).illegal .nop .nop = false →
    let x : CoreSt := (s.core a.core.val).finish.drain
    ∃ t : State, exec (.drvNop a) s = .next t ∧ t.rd (R.DRV_FAULT_PC_PC a.core.val) = pc % 4096 ∧ t.on (causeFld a.core.val k) = true ∧
      t.rd (R.DRV_CNT_FAULT_VALUE a.core.val) = min 0xFFFFFFFF (s.rd (R.DRV_CNT_FAULT_VALUE a.core.val) + 1) ∧
      (∀ d, d ≠ a.core.val → t.core d = s.core d) ∧ (∀ p, p ∉ [Part.cores, .regs] → Part.same p s t) ∧
      (nested = false → t.core a.core.val = { x with trap := none, ipc := x.pc, isr := x.sr, sr := (x.sr &&& 0x430F) ||| 0x4000, pc := 8 } ∧
        t.coreState a.core.val = 1) ∧
      (nested = true → t.coreState a.core.val = 4 ∧ t.on (R.DRV_STATUS_DOUBLE a.core.val) = true ∧ t.inRot a.core.val = false ∧
        t.core a.core.val = { x with trap := none, delay := none })) ∧
  (∀ (s : State) (a : Issue) (f : FmtP), s.issuesAlone a .nop → a.slot1 = false →
    (s.core a.core.val).srBit 14 = true →
    ∃ t : State, exec (.drvTake { a with slot1 := true } f) s = .next t ∧
      s.coreGoes a.core.val ({ s.core a.core.val with trap := some ⟨3, (s.core a.core.val).pc, .illegal, true⟩ }).finish [] [] t) ∧
  (∀ (s : State) (a : Issue) (f : FmtM), s.issuesAlone a .nop → a.slot1 = true →
    ∃ t : State, exec (.drvMac a f) s = .next t ∧
      s.coreGoes a.core.val ({ s.core a.core.val with trap := some ⟨3, (s.core a.core.val).pc, .illegal, (s.core a.core.val).srBit 14⟩ }).finish [] [] t) ∧
  (∀ (s : State) (a : Issue) (f : FmtP), s.issuesAlone a (.done f) → (s.core a.core.val).task = none →
    ∃ t : State, exec (.drvDone a f) s = .next t ∧
      s.coreGoes a.core.val ({ s.core a.core.val with trap := some ⟨3, (s.core a.core.val).pc, .task, (s.core a.core.val).srBit 14⟩ }).finish [] [] t) ∧
  (∀ (s : State) (a : Issue) (f : FmtP), s.issuesAlone a (.taprd f) → (s.core a.core.val).tap = none →
    ∃ t : State, exec (.drvTaprd a f) s = .next t ∧
      s.coreGoes a.core.val ({ s.core a.core.val with trap := some ⟨3, (s.core a.core.val).pc, .task, (s.core a.core.val).srBit 14⟩ }).finish [] [] t) ∧
  (∀ (s : State) (a : Issue) (f : FmtP), s.issuesAlone a (.give f) → (s.core a.core.val).task = none →
    (s.core a.core.val).lastFlow = some (s.core a.core.val).given.flow →
    ∃ t : State, exec (.drvGive a f) s = .next t ∧
      s.coreGoes a.core.val ({ s.core a.core.val with trap := some ⟨3, (s.core a.core.val).pc, .task, (s.core a.core.val).srBit 14⟩ }).finish [] [] t)

/-- BR, BRX, CALL, RETI and LOOP (R95, R107, R114, R129): a branch opens two delay bundles, after which the core is at its target if the condition on SR at issue holds; CALL leaves in X15 the bundle after its second delay bundle; RETI restores SR from ISR and goes
to IPC; LOOP sets up its level with the bundle after it as the start, or with count 0 goes to LE + 1. -/
def Obligations.DroverBranches : Prop :=
  (∀ (s : State) (a : Issue) (f : FmtB), s.issuesAlone a (.br f) →
    let x : CoreSt := s.core a.core.val
    let z : Bool := x.srBit 0
    let n : Bool := x.srBit 1
    let v : Bool := x.srBit 2
    let c : Bool := x.srBit 3
    let taken : Bool := [true, z, !z, n, !n, c, !c, v, !v, n != v, n == v, !z && n == v, z || n != v, c && !z, !c || z].getD f.cond.toNat false
    ∃ t : State, exec (.drvBr a f) s = .next t ∧
      s.coreGoes a.core.val (({ x.advance with delay := some (2, if taken then some f.target.toNat else none) }).retireBundle) [] [] t) ∧
  (∀ (s : State) (a : Issue) (f : FmtB), s.issuesAlone a (.brx f) →
    let x : CoreSt := s.core a.core.val
    ∃ t : State, exec (.drvBrx a f) s = .next t ∧
      s.coreGoes a.core.val (({ x.advance with delay := some (2, some (x.xr f.xa.toNat % 4096)) }).retireBundle) [] [] t) ∧
  (∀ (s : State) (a : Issue) (f : FmtB), s.issuesAlone a (.call f) →
    let x : CoreSt := s.core a.core.val
    ∃ t : State, exec (.drvCall a f) s = .next t ∧
      s.coreGoes a.core.val (({ (x.fly [(1, .x 15 (x.pc + 3))]).advance with delay := some (2, some f.target.toNat) }).retireBundle) [] [] t) ∧
  (∀ (s : State) (a : Issue) (f : FmtB), s.issuesAlone a (.reti f) →
    let x : CoreSt := s.core a.core.val
    ∃ t : State, exec (.drvReti a f) s = .next t ∧
      s.coreGoes a.core.val (({ (x.fly [(1, .sr x.isr)]).advance with delay := some (2, some x.ipc) }).retireBundle) [] [] t) ∧
  (∀ (s : State) (a : Issue) (f : FmtLP), s.issuesAlone a (.loop f) →
    let x : CoreSt := s.core a.core.val
    let n : Nat := if f.xc then x.xr (f.cnt.toNat / 128) % 65536 else f.cnt.toNat
    let lvl : LoopLvl := ⟨(x.pc + 1) % 4096, f.le.toNat, n, f.rot⟩
    ∃ t : State, exec (.drvLoop a f) s = .next t ∧
      s.coreGoes a.core.val (if n = 0 then ({ x with pc := (f.le.toNat + 1) % 4096 }).retireBundle
        else (({ x.advance with lvl0 := if f.lvl then x.advance.lvl0 else lvl, lvl1 := if f.lvl then lvl else x.advance.lvl1 }).fly
          [(2, .loopView (3 * b2n f.lvl) lvl.start), (2, .loopView (3 * b2n f.lvl + 1) lvl.stop), (2, .loopView (3 * b2n f.lvl + 2) n)]).retireBundle) [] [] t)

/-- The end of a bundle (R93, R95, R107): at the end bundle of an active loop the body runs again or the count reaches 0, RRB turning with ROT; the second delay bundle of a taken branch is followed by its target; a result in flight lands when its latency has passed. -/
def Obligations.DroverSequence : Prop :=
  (∀ x : CoreSt, x.lvl0.count = 0 → x.lvl1.count = 0 → x.delay = none → x.finish.pc = (x.pc + 1) % 4096) ∧
  (∀ x : CoreSt, 0 < x.lvl0.count → x.lvl0.stop = x.pc → x.delay = none → x.flight = [] →
    x.finish.pc = (if 1 < x.lvl0.count then x.lvl0.start else (x.pc + 1) % 4096) ∧ x.finish.lvl0.count = x.lvl0.count - 1 ∧
      x.finish.rrb = (if x.lvl0.rot then (x.rrb + 63) % 64 else x.rrb) ∧ x.finish.lvl1 = x.lvl1) ∧
  (∀ (x : CoreSt) (p : Nat), x.delay = some (1, some p) → x.finish.pc = p ∧ x.finish.delay = none) ∧
  (∀ (x : CoreSt) (n : Nat) (tg : Option Nat), x.delay = some (n + 2, tg) → x.finish.delay = some (n + 1, tg)) ∧
  (∀ (x : CoreSt) (r w l : Nat), x.flight = [] → r < 16 → w < 2 ^ 32 → 0 < l →
    (x.fly [(l, .x r w)]).nextCycle.xr r = (if l = 1 then w else x.xr r) ∧ (∀ k, k ≠ r → (x.fly [(l, .x r w)]).nextCycle.xr k = x.xr k))

/-- TAKE, GIVE, DONE and the tap and accumulate ports (R109–R112, R131, R134, R140–R142): TAKE waits in STATE 2; a GIVE enters its queue, keeps the place its task hands on, is held with the place of an ordered task, or waits in STATE 2 while there is no room; DONE of a task begins to
wait; a GIVE to a disabled queue is discarded and counted; TAPSET names a range of a tap list and TAPRD reads its next entry, or reports exhaustion; ACCADD adds a bank of accumulators to eight words of a set, ACCRC reads and clears eight. -/
def Obligations.DroverPorts : Prop :=
  (∀ (s : State) (a : Issue) (f : FmtP), s.issuesAlone a (.take f) →
    ∃ t : State, exec (.drvTake a f) s = .next t ∧ t.coreState a.core.val = 2 ∧
      s.coreGoes a.core.val { s.core a.core.val with waiting := some .take } [0, 1, 2] [] t) ∧
  (∀ (s : State) (a : Issue) (f : FmtP), s.issuesAlone a (.give f) →
    let x : CoreSt := s.core a.core.val
    let d : Desc := descOf (x.xr 4) (x.xr 5) (x.xr 6) (x.xr 7)
    let room : Bool := !s.on (R.OST_QCFG_EN d.queue) || decide ((s.queue d.queue).length < min 16384 (s.rd (R.OST_QCFG_DEPTH d.queue)))
    (x.task = none → x.lastFlow ≠ some d.flow → room = true →
      ∃ t : State, exec (.drvGive a f) s = .next t ∧ (s.enter d).coreGoes a.core.val x.finish [] [] t) ∧
    (∀ k, x.task = some k → d.flow = k.flow → k.handed = false → s.on (R.OST_QCFG_EN d.queue) = true → room = true →
      ∃ t : State, exec (.drvGive a f) s = .next t ∧
        (s.setQueue d.queue (s.queue d.queue ++ [{ d with seq := k.seq }])).coreGoes a.core.val ({ x with task := some { k with handed := true } }).finish [] [] t) ∧
    (∀ k, x.task = some k → d.flow ≠ k.flow → (s.flow k.flow).ordered = false → room = true →
      ∃ t : State, exec (.drvGive a f) s = .next t ∧ (s.enter d).coreGoes a.core.val x.finish [] [] t) ∧
    (∀ k p, x.task = some k → d.flow ≠ k.flow → s.on (R.OST_QCFG_EN d.queue) = true → (s.flow k.flow).ordered = true →
      (s.flow k.flow).place k.seq = some p → p.held.length < 4 →
      ∃ t : State, exec (.drvGive a f) s = .next t ∧
        (s.setFlow k.flow ((s.flow k.flow).mapPlace k.seq (fun p => { p with held := p.held ++ [d] }))).coreGoes a.core.val x.finish [] [] t) ∧
    (∀ k, x.task = some k → s.on (R.OST_QCFG_EN d.queue) = false →
      ∃ t : State, exec (.drvGive a f) s = .next t ∧ (s.bump R.OST_CNT_BADQ_VALUE).coreGoes a.core.val x.finish [] [] t) ∧
    (x.task = none → x.lastFlow ≠ some d.flow → room = false →
      ∃ t : State, exec (.drvGive a f) s = .next t ∧ t.coreState a.core.val = 2 ∧ s.coreGoes a.core.val { x with waiting := some .give } [0, 1, 2] [] t)) ∧
  (∀ (s : State) (a : Issue) (f : FmtP), s.issuesAlone a (.done f) → (s.core a.core.val).task ≠ none →
    ∃ t : State, exec (.drvDone a f) s = .next t ∧ s.coreGoes a.core.val { s.core a.core.val with waiting := some .done } [] [] t) ∧
  (∀ (s : State) (a : Issue) (f : FmtP), s.issuesAlone a (.tapset f) →
    let x : CoreSt := s.core a.core.val
    ∃ t : State, exec (.drvTapset a f) s = .next t ∧ s.coreGoes a.core.val
      ({ x with tap := some { blk := x.xr f.xa.toNat / 65536, next := x.xr f.xa.toNat % 65536, left := x.xr f.xb.toNat % 131072 } }).finish [] [] t) ∧
  (∀ (s : State) (a : Issue) (f : FmtP) (k : TapPort), s.issuesAlone a (.taprd f) → (s.core a.core.val).tap = some k →
    let x : CoreSt := s.core a.core.val
    (k.left = 0 ∨ (s.tapListOf k.blk).length ≤ k.next →
      ∃ t : State, exec (.drvTaprd a f) s = .next t ∧ s.coreGoes a.core.val
        ({ x with tap := some { k with next := k.next + 1, left := k.left - 1 },
                  reads := x.reads ++ [PortRead.mk [.x 8 0, .x 9 0, .x 10 0, .x 11 0, .x 12 0x80000000, .flags 1 1]] }).finish [] [] t) ∧
    (∀ e, k.left ≠ 0 → (s.tapListOf k.blk)[k.next]? = some e →
      ∃ t : State, exec (.drvTaprd a f) s = .next t ∧ s.coreGoes a.core.val
        ({ x with tap := some { k with next := k.next + 1, left := k.left - 1 },
                  reads := x.reads ++ [PortRead.mk [.x 8 (bitsOf e.word 127 96), .x 9 (bitsOf e.word 95 64), .x 10 (bitsOf e.word 63 32), .x 11 (bitsOf e.word 31 0),
                    .x 12 (e.prevDelay % 2 ^ 25), .flags 1 0]] }).finish [] [] t)) ∧
  (∀ (s : State) (a : Issue) (f : FmtP), s.issuesAlone a (.accadd f) →
    let x : CoreSt := s.core a.core.val
    let w : Nat := x.xr f.xa.toNat
    bitsOf w 15 6 < 640 → s.gated 3 = false →
    ∃ t : State, exec (.drvAccadd a f) s = .next t ∧
      State.coreGoes ([0, 1, 2, 3, 4, 5, 6, 7].foldl (fun (u : State) i => u.accAdd (bitsOf w 16 16) (bitsOf w 15 6) (8 * bitsOf w 5 4 + i)
        (x.accv (8 * b2n f.bank + i))) s) a.core.val x.finish [] [] t) ∧
  (∀ (s : State) (a : Issue) (f : FmtP) (v : Nat → Int), s.issuesAlone a (.accrc f) →
    let x : CoreSt := s.core a.core.val
    let w : Nat := x.xr f.xa.toNat
    bitsOf w 15 6 < 640 → s.gated 3 = false → (∀ i, i < 8 → s.accRead (bitsOf w 16 16) (bitsOf w 15 6) (8 * bitsOf w 5 4 + i) = some (v i)) →
    ∃ t : State, exec (.drvAccrc a f) s = .next t ∧ s.coreGoes a.core.val
        ({ x with reads := x.reads ++ [PortRead.mk ([0, 1, 2, 3, 4, 5, 6, 7].map (fun i => Wr.acc (8 * b2n f.bank + i) (v i)))] }).finish [] [.mem] t ∧
      t.mem = (s.store (accAddr (bitsOf w 16 16) (bitsOf w 15 6) (8 * bitsOf w 5 4)) 64 0).mem)

/-- The controls of a core (R112, R117–R120, R143): reset, run, debug halt, step and resume, and the arrival of a port read. LDWF and STWF to memory (R53, R97, R112, R120, R128, R332): the access takes its grant of the matrix; a word read joins the port reads outstanding and goes to its X register when it arrives; a word write
stores four bytes and nothing else, but three at the end of a local memory, none in the ring area and none in an instruction memory that is locked. -/
def Obligations.DroverControlAndMatrix : Prop :=
  (∀ (s : State) (c : Fin 32), s.gated 0 = false →
    ∃ t : State, exec (.drvCoreReset c) s = .next t ∧ (∀ d, d ≠ c.val → t.core d = s.core d) ∧
      (s.coreState c.val ≠ 5 → t.core c.val = coreReset ∧ t.coreState c.val = b2n (s.on (R.DRV_CTRL_RUN c.val))) ∧
      (s.coreState c.val = 5 → t.core c.val = { coreReset with heldState := b2n (s.on (R.DRV_CTRL_RUN c.val)) } ∧ t.coreState c.val = 5) ∧
      t.on (R.DRV_CTRL_RUN c.val) = s.on (R.DRV_CTRL_RUN c.val) ∧ t.inRot c.val = s.inRot c.val ∧
      ((s.core c.val).task = none → t.ost = s.ost) ∧ ∀ p, p ∉ [Part.cores, .regs, .ost] → Part.same p s t) ∧
  (∀ (s : State) (c : Fin 32), s.gated 0 = false → s.rests = true → (s.core c.val).stalled = none →
    ∃ t : State, exec (.coreRun c) s = .next t ∧ t.on (R.DRV_CTRL_RUN c.val) = true ∧
      t.coreState c.val = (if s.coreState c.val = 0 then 1 else s.coreState c.val) ∧
      t.core c.val = (if s.coreState c.val = 5 ∧ (s.core c.val).heldState = 0 then { s.core c.val with heldState := 1 } else s.core c.val) ∧
      (∀ d, d ≠ c.val → t.core d = s.core d) ∧ ∀ p, p ∉ [Part.cores, .regs] → Part.same p s t) ∧
  (∀ (s : State) (c : Fin 32), s.gated 0 = false → s.coreState c.val = 1 ∨ s.coreState c.val = 2 →
    (s.on (R.DRV_CTRL_DBGINT c.val) = false → s.inRot c.val = false ∨ s.inMaint = true →
      ∃ t : State, exec (.haltReq c) s = .next t ∧ t.coreState c.val = 3 ∧ t.core c.val = { (s.core c.val).drain with stepping := false } ∧
        ∀ d, d ≠ c.val → t.core d = s.core d) ∧
    (s.on (R.DRV_CTRL_DBGINT c.val) = false → s.inRot c.val = true → s.inMaint = false →
      ∃ t : State, exec (.haltReq c) s = .next t ∧ t.on (R.DRV_STATUS_HREF c.val) = true ∧ t.coreState c.val = s.coreState c.val ∧
        ∀ p, p ≠ Part.regs → Part.same p s t) ∧
    (s.on (R.DRV_CTRL_DBGINT c.val) = true → (s.core c.val).trap = none → (s.core c.val).srBit 15 = false →
      ∃ t : State, exec (.haltReq c) s = .next t ∧ t.core c.val = { s.core c.val with dbgPend := true } ∧ ∀ p, p ≠ Part.cores → Part.same p s t)) ∧
  (∀ (s : State) (c : Fin 32), s.coreState c.val = 3 → (s.core c.val).waiting = none → (s.core c.val).trap = none → (s.core c.val).dbgPend = false →
    (∀ i, i < 4 → s.on (R.DRV_BKPT_EN c.val i) = false) → s.rests = true → (s.core c.val).illegal .nop .nop = false →
    s.load (0x30808000 + c.val * 0x10000 + 8 * (s.core c.val).pc) 4 = 0 → s.load (0x30808000 + c.val * 0x10000 + 8 * (s.core c.val).pc + 4) 4 = 0 →
    ∃ t : State, exec (.drvStep c) s = .next t ∧ t.coreState c.val = 3 ∧
      t.core c.val = { s.core c.val with stalled := none }.finish.drain ∧ ∀ d, d ≠ c.val → t.core d = s.core d) ∧
  (∀ (s : State) (c : Fin 32), s.gated 0 = false → s.coreState c.val = 3 →
    ∃ t : State, exec (.drvResume c) s = .next t ∧
      t.coreState c.val = (if (s.core c.val).waiting = some .take ∨ (s.core c.val).waiting = some .give then 2 else 1) ∧ ∀ p, p ≠ Part.regs → Part.same p s t) ∧
  (∀ (s : State) (c : Fin 32) (i : Fin 8) (r : PortRead), s.gated 0 = false → (s.core c.val).reads[i.val]? = some r → s.rests = true →
    let x : CoreSt := { s.core c.val with reads := (s.core c.val).reads.eraseIdx i.val }.arrive r
    (∀ p q, x.stalled = some (p, q) → x.stalls p q = true) →
    ∃ t : State, exec (.portReadArrival c i) s = .next t ∧ t.core c.val = x ∧
      (∀ d, d ≠ c.val → t.core d = s.core d) ∧ ∀ p, p ∉ [Part.cores, .regs] → Part.same p s t) ∧
  (∀ (s : State) (a : Issue) (f : FmtW) (key : Nat), s.issuesAlone a (.ldwf f) →
    s.locate (a.core.val / 8) ((s.core a.core.val).wordAddr f) = .mem key →
    let x : CoreSt := s.core a.core.val
    ∃ t : State, exec (.drvLdwf a f) s = .next t ∧
      (s.fabUse (a.core.val / 8) (x.wordAddr f)).coreGoes a.core.val ({ x with reads := x.reads ++ [PortRead.mk [.x f.xd.toNat (s.load key 4)]] }).finish [] [] t) ∧
  (∀ (s : State) (a : Issue) (f : FmtW) (key : Nat), s.issuesAlone a (.stwf f) →
    s.locate (a.core.val / 8) ((s.core a.core.val).wordAddr f) = .mem key →
    let x : CoreSt := s.core a.core.val
    let barred : Prop := 0x20000000 ≤ key ∧ key < 0x20500000 ∨ 0x30800000 ≤ key ∧ key < 0x30A00000 ∧ s.on R.DRV_CL_CTRL_LOCK = true
    let short : Prop := 0x30000000 ≤ key ∧ key < 0x30800000 ∧ key % 0x40000 = 0x3FFFC
    ∃ t : State, exec (.drvStwf a f) s = .next t ∧ (s.fabUse (a.core.val / 8) (x.wordAddr f)).coreGoes a.core.val x.finish [] [.mem] t ∧
      (barred → t.mem = s.mem) ∧ (¬barred → short → t.mem = (s.store key 3 (x.xr f.xd.toNat)).mem) ∧
      (¬barred → ¬short → t.mem = (s.store key 4 (x.xr f.xd.toNat)).mem))

/-- The Ostler's work with the cores (R109, R136, R137, R141, R142, R146, R148): a dispatch takes the head of the queue chosen, marks its place dispatched and writes its words to X0–X3 of the core, whose TAKE completes; a GIVE that waited enters its queue, the
lowest core of the queue first; DONE ends the task and the place handed on stays; a place whose task is done retires with its held descriptors; a slice that overruns blocks its flow; a post enters its queue or, where there is no room, is refused. -/
def Obligations.OstlerCommands : Prop :=
  (∀ (s : State) (waited blocked q c : Nat) (d : Desc) (ds : List Desc), s.gated 2 = false → s.on R.OST_CTRL_ENABLE = true →
    s.pick = some (q, c) → s.queue q = d :: ds → (s.core c).trap = none → (s.core c).dbgPend = false → (s.core c).stepping = false →
    let x : CoreSt := { s.core c with task := some ⟨d.flow, d.seq, false, s.on (R.OST_QCFG_IDLE q), s.tm.raw⟩, lastFlow := some d.flow, tap := none, waiting := none }
    ∃ t : State, exec (.dispatch waited blocked) s = .next t ∧ t.queue q = ds ∧ t.coreState c = 1 ∧
      t.core c = (((x.finish.setX 0 (d.flow * 2 ^ 20 + d.queue * 2 ^ 14)).setX 1 (d.block * 2 ^ 16 + d.seq)).setX 2 (d.index * 2 ^ 20 + d.entry)).setX 3 d.arg ∧
      (∀ k, k ≠ c → t.core k = s.core k) ∧ (∀ k, k ≠ q → t.queue k = s.queue k) ∧
      t.flow d.flow = (s.flow d.flow).mapPlace d.seq (fun p => { p with dispatched := true }) ∧
      ∀ p, p ∉ [Part.cores, .regs, .ost] → Part.same p s t) ∧
  (∀ (s : State) (c : Fin 32) (waited full : Nat), s.gated 2 = false → (s.core c.val).waiting = some .give → s.coreState c.val = 2 →
    (s.core c.val).task = none → (s.core c.val).lastFlow ≠ some (s.core c.val).given.flow → s.roomIn (s.core c.val).given.queue = true →
    (s.core c.val).trap = none → (s.core c.val).dbgPend = false → (s.core c.val).stepping = false →
    (∀ (f : Nat) (p : Place), (s.flow f).places.head? = some p → p.done = false) → (∀ k, k < c.val → (s.core k).waiting ≠ some .give) →
    ∃ t : State, exec (.giveAccept c waited full) s = .next t ∧ t.ost = (s.enter (s.core c.val).given).ost ∧ t.coreState c.val = 1 ∧
      t.core c.val = ({ s.core c.val with waiting := none }).finish ∧ ∀ k, k ≠ c.val → t.core k = s.core k) ∧
  (∀ (s : State) (c : Fin 32) (k : Task), s.gated 0 = false → (s.core c.val).waiting = some .done → (s.core c.val).task = some k → k.handed = true →
    (s.core c.val).trap = none → (s.core c.val).dbgPend = false → (s.core c.val).stepping = false →
    ∃ t : State, exec (.doneComplete c) s = .next t ∧ t.core c.val = ({ s.core c.val with task := none, tap := none, waiting := none }).finish ∧ t.ost = s.ost ∧
      t.rd (R.DRV_CNT_TASK_VALUE c.val) = min 0xFFFFFFFF (s.rd (R.DRV_CNT_TASK_VALUE c.val) + 1) ∧ ∀ n, n ≠ c.val → t.core n = s.core n) ∧
  (∀ (s : State) (f : Fin 4096) (p : Place) (ps : List Place), s.gated 2 = false → (s.flow f.val).places = p :: ps → p.done = true → p.held = [] →
    ps.all (fun q => !q.done) = true → (∀ (k : Nat) (q : Place), k < f.val → (s.flow k).places.head? = some q → q.done = false) →
    ∃ t : State, exec (.windowRelease f) s = .next t ∧ t.flow f.val = { s.flow f.val with places := ps } ∧ (∀ k, k ≠ f.val → t.flow k = s.flow k) ∧
      (∀ q, t.queue q = s.queue q) ∧ ∀ p, p ≠ Part.ost → Part.same p s t) ∧
  (∀ (s : State) (c : Fin 32) (raw : Nat) (k : Task), (s.atRaw raw).gated 2 = false → (s.core c.val).task = some k → k.idle = true →
    k.since + ceilDiv (5 * s.rd R.OST_IDLE_CTRL_SLICE) 6 ≤ (s.atRaw raw).tm.raw →
    ∃ t : State, exec (.sliceOverrun c raw) s = .next t ∧ (t.flow k.flow).blocked = true ∧ (∀ n, n ≠ k.flow → t.flow n = s.flow n) ∧
      t.on R.OST_STATUS_SLICE = true ∧ t.rd R.OST_CNT_SLICE_VALUE = min 0xFFFFFFFF (s.rd R.OST_CNT_SLICE_VALUE + 1) ∧
      ∀ p, p ∉ [Part.ost, .regs] → Part.same p (s.atRaw raw) t) ∧
  (∀ (s : State) (w : BitVec 32), s.gated 2 = false →
    let d : Desc := descOf (s.rd (R.OST_POST_WORD 0)) (s.rd (R.OST_POST_WORD 1)) (s.rd (R.OST_POST_WORD 2)) w.toNat
    s.on (R.OST_QCFG_EN d.queue) = true →
    ((s.queue d.queue).length + s.waitsFor d.queue < s.depth d.queue →
      ∃ t : State, exec (.supervisorPost w) s = .next t ∧ t.queue d.queue = s.queue d.queue ++ [{ d with seq := (s.flow d.flow).nextSeq }] ∧
        (∀ q, q ≠ d.queue → t.queue q = s.queue q) ∧ (t.flow d.flow).nextSeq = ((s.flow d.flow).nextSeq + 1) % 65536 ∧
        t.on R.OST_POST_STATUS_FULL = false ∧ ∀ p, p ∉ [Part.ost, .regs] → Part.same p s t) ∧
    (s.depth d.queue ≤ (s.queue d.queue).length + s.waitsFor d.queue →
      ∃ t : State, exec (.supervisorPost w) s = .next t ∧ t.on R.OST_POST_STATUS_FULL = true ∧
        t.rd R.OST_CNT_POST_FULL_VALUE = min 0xFFFFFFFF (s.rd R.OST_CNT_POST_FULL_VALUE + 1) ∧ ∀ p, p ≠ Part.regs → Part.same p s t))

/-- SESSION_OPEN (R278–R282): a sound request on an enabled port with no operation running, whose offer meets a supported version and which passes every check, opens
the lowest free session number: half-open when protected, open when plain, with the class, port, version and timeout asked for (0 means 10 s). A TAKEOVER first closes the class 0
session it takes the place of. SESSION_CLOSE (R283, R287): the reply is sent, then the session is closed: its place is as it was before it opened. -/
def Obligations.SessionsOpenAndClose : Prop :=
  (∀ (s : State) (h : Hdr) (r : OpenReq) (v : Nat × Nat) (kick : Option Nat) (j : Nat),
    (s.atRaw h.t).portEnabled h.port.val = true → h.framing = .good → s.running h.port.val = none → chooseVersion r = some v →
    (((s.atRaw h.t).takeInbound h.port.val).bump (R.HIF_CNT_RX_VALUE h.port.val)).openCheck h r = (.ok, kick) →
    ((match kick with
      | some i => (((s.atRaw h.t).takeInbound h.port.val).bump (R.HIF_CNT_RX_VALUE h.port.val)).closeSession i
      | none => ((s.atRaw h.t).takeInbound h.port.val).bump (R.HIF_CNT_RX_VALUE h.port.val)) : State).freeSession = some j →
    ∃ t : State, exec (.sessionOpen h r) s = .next t ∧ (t.session j).phase = (if r.plain then .opened else .halfOpen) ∧
      (t.session j).port = h.port.val ∧ ((t.session j).major, (t.session j).minor) = v ∧ (t.session j).cls = r.cls ∧
      (t.session j).prot = !r.plain ∧ (t.session j).timeout = (if r.timeout = 0 then 10 else r.timeout) ∧
      (t.session j).lastSeq = h.seq.toNat ∧ (t.session j).staging = [] ∧ (t.session j).lastRx = (s.atRaw h.t).tm.raw) ∧
  (∀ (s a : State) (h : Hdr) (i : Nat), s.takes h (op 0x0102 1 0 .session) i a → lenIs h 0 = true →
    exec (.sessionClose h) s = .next ((a.reply i 0x0102 h.seq.toNat .ok [] true).closeSession i) ∧
      ((a.reply i 0x0102 h.seq.toNat .ok [] true).closeSession i).session i = sessReset)

/-- CLAIM, RELEASE, PREEMPT and KEEPALIVE (R285–R287, R312) answer OK. A resource that is claimed or pre-empted belongs to the session, with its former owner recorded in front of those
it had recorded; a released one goes back to the former owner recorded first; no other resource changes hands. -/
def Obligations.OwnershipCommands : Prop :=
  (∀ (s a : State) (h : Hdr) (i : Nat) (refs : List (BitVec 16)), s.takes h (op 0x0104 1 0 .claims) i a →
    lenIs h (2 + 2 * refs.length) = true → 1 ≤ refs.length → refs.length ≤ 64 →
    (∀ x ∈ refs, refOk x.toNat = true ∧ (a.ownerOf x.toNat = none ∨ a.ownerOf x.toNat = some i ∨ (a.claimTakes i = true ∧ a.mayPreempt i x.toNat = true))) →
    ∃ r : State, exec (.claim h refs) s = .next (r.reply i 0x0104 h.seq.toNat .ok [] true) ∧ (∀ x ∈ refs, r.ownerOf x.toNat = some i) ∧
      ∀ n, (∀ x ∈ refs, x.toNat ≠ n) → r.ownerOf n = a.ownerOf n ∧ r.formers n = a.formers n) ∧
  (∀ (s a : State) (h : Hdr) (i : Nat) (refs : List (BitVec 16)), s.takes h (op 0x0106 2 0 .claims) i a →
    lenIs h (2 + 2 * refs.length) = true → 1 ≤ refs.length → refs.length ≤ 64 → (a.session i).cls ≤ 1 →
    (∀ x ∈ refs, refOk x.toNat = true ∧ a.mayPreempt i x.toNat = true) →
    ∃ r : State, exec (.preempt h refs) s = .next (r.reply i 0x0106 h.seq.toNat .ok [] true) ∧
      (∀ x ∈ refs, r.ownerOf x.toNat = some i ∧
        (∀ j, a.ownerOf x.toNat = some j → j ≠ i → r.formers x.toNat = j :: a.formers x.toNat)) ∧
      ∀ n, (∀ x ∈ refs, x.toNat ≠ n) → r.ownerOf n = a.ownerOf n ∧ r.formers n = a.formers n) ∧
  (∀ (s a : State) (h : Hdr) (i : Nat) (refs : List (BitVec 16)), s.takes h (op 0x0105 1 0 .claims) i a →
    lenIs h (2 + 2 * refs.length) = true → 1 ≤ refs.length → refs.length ≤ 64 →
    (∀ x ∈ refs, refOk x.toNat = true ∧ a.owns i x.toNat = true) →
    ∃ r : State, exec (.release h refs) s = .next (r.reply i 0x0105 h.seq.toNat .ok [] true) ∧
      (∀ x ∈ refs, r.ownerOf x.toNat = (a.formers x.toNat).head? ∧ r.formers x.toNat = (a.formers x.toNat).tail) ∧
      ∀ n, (∀ x ∈ refs, x.toNat ≠ n) → r.ownerOf n = a.ownerOf n ∧ r.formers n = a.formers n) ∧
  (∀ (s a : State) (h : Hdr) (i : Nat), s.takes h (op 0x0103 1 0 .query) i a → lenIs h 0 = true →
    exec (.keepalive h) s =
      .next (a.reply i 0x0103 h.seq.toNat .ok (leBytes 1 a.stage ++ leBytes 1 a.role ++ leBytes 8 a.tm.blockCount) true))

/-- OBJ_DEFINE (R25–R27, R162): an accepted definition is the object's record at once; its position waits for the block that holds the command's time, its other fields
for the next one, and its route, where it differs from the route in force, for the crossfade that begins there; that a pending route is judged against the route in force is the model's reading (log entry 91). OBJ_MOVE, OBJ_PATH, OBJ_GAIN, OBJ_MUTE, OBJ_QUERY (R29, R30, R154–R157, R312): a move or a path waits for the block that holds the command's time, a gain or a mute for its input
sample, with the ramp of the command or session; a query answers the entries of the objects named and changes nothing. -/
def Obligations.ObjectsDefinedAndMoved : Prop :=
  (∀ (s a : State) (h : Hdr) (i : Nat) (o : BitVec 16) (new : ObjRec), s.takes h ⟨0x0201, (1, 0), .both, false, .other⟩ i a →
    lenIs h 44 = true → a.ownsObj i o.toNat = true → (1024 ≤ o.toNat ∨ a.ownsZone i new.homeZone.toNat = true) →
    (a.acceptObj o.toNat new (a.hdrBlock h .both) (a.hdrNext h)).thenCommit (a.objCheck o.toNat new) = .ok →
    ∃ r : State, exec (.objDefine h o new) s = .next (r.reply i 0x0201 h.seq.toNat .ok [] true) ∧ (r.obj o.toNat).acc = new ∧
      ⟨a.hdrBlock h .both, .objMove o.toNat new.pos⟩ ∈ r.sched ∧ ⟨a.hdrNext h, .objFields o.toNat new⟩ ∈ r.sched ∧
      (let again : Prop := ∃ q, (a.obj o.toNat).route = some (a.hdrNext h, q) ∧ ObjRec.routeDiffers q new = false;
        (again → (r.obj o.toNat).route = (a.obj o.toNat).route) ∧
        (¬again → ObjRec.routeDiffers ((a.obj o.toNat).hist.last objRecReset) new = true → (r.obj o.toNat).route = some (a.hdrNext h, new)) ∧
        (¬again → ObjRec.routeDiffers ((a.obj o.toNat).hist.last objRecReset) new = false → (r.obj o.toNat).route = none)) ∧
      ∀ n, n ≠ o.toNat → r.obj n = a.obj n) ∧
  (∀ (s a : State) (h : Hdr) (i : Nat) (ms : List (BitVec 16 × Pos)), s.takes h ⟨0x0202, (1, 0), .within, false, .other⟩ i a →
    lenIs h (2 + 12 * ms.length) = true → 1 ≤ ms.length → ms.length ≤ 64 →
    (∀ m ∈ ms, a.objId m.1.toNat = .ok ∧ a.ownsObj i m.1.toNat = true) →
    ∃ r : State, exec (.objMove h ms) s = .next (r.reply i 0x0202 h.seq.toNat .ok [] true) ∧
      r.sched = a.sched ++ ms.map (fun m => ⟨a.hdrBlock h .within, .objMove m.1.toNat m.2⟩) ∧
      (∀ n, (∀ m ∈ ms, m.1.toNat ≠ n) → r.obj n = a.obj n) ∧ ∀ m, ms.getLast? = some m → (r.obj m.1.toNat).acc.pos = m.2) ∧
  (∀ (s a : State) (h : Hdr) (i : Nat) (o : BitVec 16) (w : List Waypoint), s.takes h ⟨0x0203, (2, 0), .within, false, .other⟩ i a →
    lenIs h (4 + 20 * w.length) = true → 1 ≤ w.length → w.length ≤ 16 → a.objId o.toNat = .ok → a.ownsObj i o.toNat = true →
    risingFrom (a.tBlock (a.hdrBlock h .within + 1)) (w.map (fun p => p.time)) = true →
    ∃ r : State, exec (.objPath h o w) s = .next (r.reply i 0x0203 h.seq.toNat .ok [] true) ∧
      r.sched = a.sched ++ [⟨a.hdrBlock h .within, .objPath o.toNat w⟩] ∧ r.regs = a.regs ∧ r.geo = a.geo) ∧
  (∀ (s a : State) (h : Hdr) (i : Nat) (es : List (BitVec 16 × BitVec 16)), s.takes h ⟨0x0204, (1, 0), .within, true, .other⟩ i a →
    lenIs h (2 + 4 * es.length) = true → 1 ≤ es.length → es.length ≤ 64 →
    (∀ e ∈ es, a.objId e.1.toNat = .ok ∧ a.ownsObj i e.1.toNat = true) →
    ∃ r : State, exec (.objGain h es) s = .next (r.reply i 0x0204 h.seq.toNat .ok [] true) ∧
      r.sched = a.sched ++ es.map (fun e => ⟨a.hdrSample h / 32, .gain (pathObj e.1.toNat) e.2.toInt (a.hdrSample h) (a.hdrRamp i h)⟩) ∧
      ∀ e, es.getLast? = some e → r.rd (R.MIX_OBJ_GAIN_CODE e.1.toNat) = e.2.toNat) ∧
  (∀ (s a : State) (h : Hdr) (i : Nat) (es : List (BitVec 16 × Bool)), s.takes h ⟨0x0205, (1, 0), .within, true, .other⟩ i a →
    lenIs h (2 + 4 * es.length) = true → 1 ≤ es.length → es.length ≤ 64 →
    (∀ e ∈ es, a.objId e.1.toNat = .ok ∧ a.ownsObj i e.1.toNat = true) →
    ∃ r : State, exec (.objMute h es) s = .next (r.reply i 0x0205 h.seq.toNat .ok [] true) ∧
      r.sched = a.sched ++ es.map (fun e => ⟨a.hdrSample h / 32, .mute (pathObj e.1.toNat) e.2 (a.hdrSample h) (a.hdrRamp i h)⟩) ∧
      ∀ e, es.getLast? = some e → r.on (R.MIX_OBJ_GAIN_MUTE e.1.toNat) = e.2) ∧
  (∀ (s a : State) (h : Hdr) (i : Nat) (first n : BitVec 16), s.takes h (op 0x0206 1 0 .query) i a → lenIs h 4 = true →
    1 ≤ n.toNat → n.toNat ≤ 1024 → a.objId (first.toNat + n.toNat - 1) = .ok →
    exec (.objQuery h first n) s = .next (a.reply i 0x0206 h.seq.toNat .ok
      ((List.range n.toNat).map (fun k => a.objEntry (first.toNat + k))).flatten true))

/-- The layout commands (R34, R43, R302, R303): SPK_LAYOUT_LOAD and ZONE_DEFINE write the staged table words and abandon a build under way; PASTURE_BUILD stages its definitions and
starts a build; ROUTE_QUERY answers what its selector names and changes nothing. ROUTE_SET (R150–R162): the registers of the bus show the accepted route; a route that is not the one in force waits for its block, replacing a pending one, and one that is ends what is pending (the model's reading, log entry 91); the bus gain and mute go to their input sample. -/
def Obligations.LayoutAndRoutes : Prop :=
  (∀ (s a : State) (h : Hdr) (i : Nat) (first : BitVec 16) (rs : List (BitVec 256)), s.takes h (op 0x0301 1 0 .other) i a →
    lenIs h (4 + 32 * rs.length) = true → 1 ≤ rs.length → rs.length ≤ 127 →
    (∀ n, n < rs.length → a.outId (first.toNat + n) = .ok ∧ a.ownsStaged i (first.toNat + n) = true ∧
      layoutStatus (rs.getD n 0).toNat = .ok ∧
      (bitOf (rs.getD n 0).toNat 0 = true → a.ownsZone i (bitsOf (rs.getD n 0).toNat 15 8) = true)) →
    ∃ r : State, exec (.spkLayoutLoad h first rs) s = .next (r.reply i 0x0301 h.seq.toNat .ok [] true) ∧
      (∀ n w, n < rs.length → w < 8 → r.stagedWord (8 * (first.toNat + n) + w) = (rs.getD n 0).toNat / 2 ^ (32 * w) % 2 ^ 32) ∧
      r.geo.banks = a.geo.banks ∧ r.mem = a.mem ∧ r.sched = a.sched) ∧
  (∀ (s a : State) (h : Hdr) (i : Nat) (zone : BitVec 8) (alarm : Bool) (outs : List (BitVec 16)), s.takes h (op 0x0303 1 0 .other) i a →
    lenIs h (4 + 2 * outs.length) = true → outs.length ≤ 640 → zone.toNat < 128 → a.ownsZone i zone.toNat = true →
    (∀ o ∈ outs, a.outId o.toNat = .ok ∧ a.ownsStaged i o.toNat = true) →
    ∃ r : State, exec (.zoneDefine h zone alarm outs) s = .next (r.reply i 0x0303 h.seq.toNat .ok [] true) ∧
      r.stagedWord (0x1400 + zone.toNat) = 2 ^ 31 * b2n alarm ∧ (∀ o ∈ outs, (r.stagedLayout o.toNat).zone = zone.toNat) ∧
      r.geo.banks = a.geo.banks ∧ r.mem = a.mem ∧ r.sched = a.sched) ∧
  (∀ (s a : State) (h : Hdr) (i : Nat) (ds : List (BitVec 1664)), s.takes h (op 0x0302 1 0 .other) i a →
    lenIs h (4 + 208 * ds.length) = true → ds.length ≤ 8 →
    (∀ v ∈ ds, pastureStatus v.toNat = .ok ∧ ∀ o ∈ pastureOuts v.toNat, a.outId o = .ok ∧ a.ownsStaged i o = true) →
    ∃ r : State, exec (.pastureBuild h ds) s = .next (r.reply i 0x0302 h.seq.toNat .ok [] true) ∧
      r.geo.build.state = .running ∧ r.geo.build.cells = 0 ∧ r.geo.objs = a.geo.objs ∧ r.mem = a.mem ∧ r.sched = a.sched) ∧
  (∀ (s a : State) (h : Hdr) (i : Nat) (sel : BitVec 8) (index : BitVec 16), s.takes h (op 0x0305 1 0 .query) i a → lenIs h 4 = true →
    (sel = 0#8 → index.toNat < 256) → (sel = 1#8 → a.objId index.toNat = .ok) → (sel = 3#8 → index.toNat < 128) → sel.toNat ≤ 3 →
    exec (.routeQuery h sel index) s = .next (a.reply i 0x0305 h.seq.toNat .ok
      (if sel = 0#8 then a.busPayload index.toNat else if sel = 1#8 then a.tapPayload index.toNat
        else if sel = 2#8 then a.buildPayload else a.zonePayload index.toNat) true)) ∧
  (∀ (s a : State) (h : Hdr) (i : Nat) (bus : BitVec 8) (en mute : Bool) (home : BitVec 8) (code : BitVec 16) (mask : BitVec 128)
    (ins : List BusIn), s.takes h ⟨0x0304, (1, 0), .both, true, .other⟩ i a →
    lenIs h (24 + 6 * ins.length) = true → a.ownsBus i bus.toNat = true → a.ownsZone i home.toNat = true →
    (a.acceptRouteSet i h bus.toNat en mute home.toNat code.toInt mask.toNat (busPositions ins)).thenCommit
      (firstBad (countIn 0 64 ins.length :: badUnless (home.toNat < 128) :: ins.map a.inStatus)) = .ok →
    ∃ r : State, exec (.routeSet h bus en mute home code mask ins) s = .next (r.reply i 0x0304 h.seq.toNat .ok [] true) ∧
      r.on (R.MIX_BUS_CFG_EN bus.toNat) = en ∧ r.rd (R.MIX_BUS_CFG_HOME_ZONE bus.toNat) = home.toNat ∧
      r.on (R.MIX_BUS_CFG_MUTE bus.toNat) = mute ∧ r.rd (R.MIX_BUS_CFG_CODE bus.toNat) = code.toNat ∧
      (∀ w, w < 4 → r.rd (R.MIX_BUS_MASK_ZONES bus.toNat w) = mask.toNat / 2 ^ (32 * w) % 2 ^ 32) ∧
      (∀ u, u < 64 → r.on (R.MIX_BUS_IN_W0_EN bus.toNat u) = decide (u < ins.length)) ∧
      ⟨a.hdrSample h / 32, .gain (pathBus bus.toNat) code.toInt (a.hdrSample h) (a.hdrRamp i h)⟩ ∈ r.sched ∧
      (a.routeInForce bus.toNat en home.toNat mask.toNat (busPositions ins) = false →
        ⟨a.hdrNext h, .busRoute bus.toNat en home.toNat mask.toNat (busPositions ins)⟩ ∈ r.sched) ∧
      (a.routeInForce bus.toNat en home.toNat mask.toNat (busPositions ins) = true →
        a.sched.any (isSameRoute bus.toNat (a.hdrNext h) en home.toNat mask.toNat (busPositions ins)) = false → ∀ x ∈ r.sched, isRouteOf bus.toNat x = false))

/-- EQ_SET, LIMITER_SET and OUT_DELAY (R71, R73, R85): the fields of an output read back at once as given, wait together for the command's block, and of a delay no
change is left pending for another block. -/
def Obligations.ChainSettings : Prop :=
  (∀ (s a : State) (h : Hdr) (i : Nat) (output : BitVec 16) (headroom : BitVec 8) (cs : List BqWords),
    s.takes h ⟨0x0401, (1, 0), .nextBlock, false, .other⟩ i a → lenIs h (4 + 15 * cs.length) = true → a.ownsOut i output.toNat = true →
    cs.length ≤ 32 → a.outId output.toNat = .ok → headroom.toNat ≤ 6 → a.commitStatus = .ok →
    ∃ r : State, exec (.eqSet h output headroom cs) s = .next (r.reply i 0x0401 h.seq.toNat .ok [] true) ∧
      r.rd (R.MIX_OUT_CFG_EQ_N output.toNat) = cs.length ∧ r.rd (R.MIX_OUT_CFG_HEADROOM output.toNat) = headroom.toNat ∧
      (∀ k c, cs[k]? = some c → r.rd (R.MIX_OUT_BQ_B0_COEF output.toNat k) = bits18 c.b0 ∧
        r.rd (R.MIX_OUT_BQ_C_COEF output.toNat k 0) = bits18 c.b1 ∧ r.rd (R.MIX_OUT_BQ_C_COEF output.toNat k 1) = bits18 c.b2 ∧
        r.rd (R.MIX_OUT_BQ_C_COEF output.toNat k 2) = bits18 c.a1 ∧ r.rd (R.MIX_OUT_BQ_C_COEF output.toNat k 3) = bits18 c.a2) ∧
      ⟨a.hdrNext h, .fld (R.MIX_OUT_CFG_EQ_N output.toNat).addr (R.MIX_OUT_CFG_EQ_N output.toNat).hi (R.MIX_OUT_CFG_EQ_N output.toNat).lo cs.length⟩ ∈ r.sched ∧ r.live = a.live) ∧
  (∀ (s a : State) (h : Hdr) (i : Nat) (output : BitVec 16) (en : Bool) (look : BitVec 8) (thresh : BitVec 16) (rel : BitVec 32),
    s.takes h ⟨0x0404, (1, 0), .nextBlock, false, .other⟩ i a → lenIs h 10 = true → a.ownsOut i output.toNat = true →
    a.outId output.toNat = .ok → -3000 ≤ thresh.toInt → thresh.toInt ≤ 0 → look.toNat < 64 → rel.toNat < 2 ^ 24 →
    (a.acceptLimiter output.toNat en look.toNat thresh.toNat rel.toNat (a.hdrNext h)).commitStatus = .ok →
    ∃ r : State, exec (.limiterSet h output en look thresh rel) s = .next (r.reply i 0x0404 h.seq.toNat .ok [] true) ∧
      r.on (R.MIX_OUT_LIM_LIM_EN output.toNat) = en ∧ r.rd (R.MIX_OUT_LIM_LIM_LOOK output.toNat) = look.toNat ∧
      r.rd (R.MIX_OUT_LIM_LIM_THRESH output.toNat) = thresh.toNat ∧ r.rd (R.MIX_OUT_LIM_REL_LIM_REL output.toNat) = rel.toNat ∧
      r.live = a.live) ∧
  (∀ (s a : State) (h : Hdr) (i : Nat) (es : List (BitVec 16 × BitVec 16)), s.takes h ⟨0x0405, (1, 0), .nextBlock, false, .other⟩ i a →
    lenIs h (2 + 4 * es.length) = true → 1 ≤ es.length → es.length ≤ 64 →
    (∀ e ∈ es, a.outId e.1.toNat = .ok ∧ a.ownsOut i e.1.toNat = true) → (a.acceptDelays es (a.hdrNext h)).commitStatus = .ok →
    ∃ r : State, exec (.outDelay h es) s = .next (r.reply i 0x0405 h.seq.toNat .ok [] true) ∧ r.live = a.live ∧
      (∀ e ∈ es, ∀ x ∈ r.sched, (match x.act with
          | .fld p hi lo _ => p = (R.MIX_OUT_CFG_DELAY e.1.toNat).addr && hi = (R.MIX_OUT_CFG_DELAY e.1.toNat).hi && lo = (R.MIX_OUT_CFG_DELAY e.1.toNat).lo
          | _ => false) = true → x.blk = a.hdrNext h) ∧
      ∀ e, es.getLast? = some e → r.rd (R.MIX_OUT_CFG_DELAY e.1.toNat) = e.2.toNat ∧
        r.sched.getLast? = some ⟨a.hdrNext h, .fld (R.MIX_OUT_CFG_DELAY e.1.toNat).addr (R.MIX_OUT_CFG_DELAY e.1.toNat).hi (R.MIX_OUT_CFG_DELAY e.1.toNat).lo e.2.toNat⟩)

/-- FIR_LOAD, FIR_INSTALL, IDENT_CONTROL, IDENT_EXPORT (R80, R81, R87, R90, R305): a load writes taps of the staging set at the stated length; an install and an export become the
port's long operation, the install with its outputs in installation; a slot takes its configuration or is freed. -/
def Obligations.FilterCommands : Prop :=
  (∀ (s a : State) (h : Hdr) (i : Nat) (output lm1 first : BitVec 16) (taps : List (BitVec 24)), s.takes h (op 0x0402 2 0 .other) i a →
    lenIs h (8 + 3 * taps.length) = true → a.ownsOut i output.toNat = true → a.outId output.toNat = .ok → lm1.toNat < 16384 →
    first.toNat + taps.length ≤ lm1.toNat + 1 → a.inInstall output.toNat = false →
    ∃ r : State, exec (.firLoad h output lm1 first taps) s = .next (r.reply i 0x0402 h.seq.toNat .ok [] true) ∧
      (r.stagingOf output.toNat).len = lm1.toNat + 1 ∧
      (∀ k v, taps[k]? = some v → (r.stagingOf output.toNat).taps.get 0 (first.toNat + k) = signedOf 18 (bits18 v)) ∧
      (∀ o, o ≠ output.toNat → r.stagingOf o = a.stagingOf o) ∧ r.mix.firs = a.mix.firs ∧ r.sched = a.sched) ∧
  (∀ (s a : State) (h : Hdr) (i : Nat) (es : List InstallReq), s.takes h (op 0x0403 2 0 .other) i a →
    lenIs h (4 + 8 * es.length) = true → 1 ≤ es.length → es.length ≤ 64 → (∀ e ∈ es, a.ownsOut i e.output.toNat = true) → a.stage < 3 →
    a.installEntries [] es = es.map (fun _ => .ok) → (a.mix.installs.filter (fun x => !x.done)).length + es.length ≤ 64 →
    (a.beginInstall h.port.val es).commitStatus = .ok →
    ∃ t : State, exec (.firInstall h es) s = .next t ∧
      t.mix.installs = a.mix.installs ++ es.map (fun e => ⟨e.output.toNat, h.port.val, none, false⟩) ∧
      (t.port h.port.val).busy = some ⟨0x0403, i, h.seq.toNat, a.tm.raw, 150, 0⟩) ∧
  (∀ (s a : State) (h : Hdr) (i : Nat) (q : IdentReq), s.takes h (op 0x0406 3 0 .other) i a → lenIs h 110 = true →
    a.ownsOut i q.output.toNat = true → a.identStatus q = .ok →
    ∃ r : State, exec (.identControl h q) s = .next (r.reply i 0x0406 h.seq.toNat .ok [] true) ∧
      (q.en = true → r.identOf q.slot.toNat = some (IdentReq.record q (a.identOf q.slot.toNat))) ∧
      (q.en = false → r.identOf q.slot.toNat = none) ∧ ∀ n, n ≠ q.slot.toNat → r.identOf n = a.identOf n) ∧
  (∀ (s a : State) (h : Hdr) (i : Nat) (slot : BitVec 8) (propose : Bool), s.takes h (op 0x0407 3 0 .other) i a → lenIs h 2 = true →
    slot.toNat < 64 → (propose = true → (match a.identOf slot.toNat with | some d => a.ownsOut i d.output | none => true) = true) →
    ∃ t : State, exec (.identExport h slot propose) s = .next t ∧
      (t.port h.port.val).busy = some ⟨0x0407, i, h.seq.toNat, a.tm.raw, 2000, slot.toNat + 256 * b2n propose⟩ ∧
      t.mix = a.mix ∧ t.sessions = a.sessions)

/-- STREAM_RX_SET and STREAM_TX_SET (R262, R263, R266, R267): the words of the context wait for the effect block, with the first supported format offered, which the reply names. -/
def Obligations.StreamCommands : Prop :=
  (∀ (s a : State) (h : Hdr) (i : Nat) (q : RxSet), s.takes h (op 0x0501 2 0 .other) i a → lenIs h 36 = true → a.ownsSc i q.ctx.toNat = true →
    (a.acceptRx q (RxSet.format q) a.effectBlock).portCommit
      (firstBad [RxSet.status q, (a.acceptRx q (RxSet.format q) a.effectBlock).rxCommit q.ctx.toNat]) = .ok →
    ∃ r : State, exec (.streamRxSet h q) s = .next (r.reply i 0x0501 h.seq.toNat .ok (formatReply (RxSet.format q)) true) ∧
      ⟨a.effectBlock, .reg (R.STR_RX_W0_w q.ctx.toNat).addr (RxSet.word q (RxSet.format q))⟩ ∈ r.sched ∧
      ⟨a.effectBlock, .reg (R.STR_RX_W1_DST q.ctx.toNat).addr q.dst.toNat⟩ ∈ r.sched ∧
      ⟨a.effectBlock, .reg (R.STR_RX_W2_SRC q.ctx.toNat).addr q.src.toNat⟩ ∈ r.sched ∧
      ⟨a.effectBlock, .reg (R.STR_RX_W3_w q.ctx.toNat).addr q.dport.toNat⟩ ∈ r.sched ∧
      ⟨a.effectBlock, .reg (R.STR_RX_W4_SSRC q.ctx.toNat).addr q.ssrc.toNat⟩ ∈ r.sched ∧
      ⟨a.effectBlock, .reg (R.STR_RX_W5_TS_OFS q.ctx.toNat).addr q.tsOfs.toNat⟩ ∈ r.sched ∧ r.srx = a.srx ∧ r.live = a.live) ∧
  (∀ (s a : State) (h : Hdr) (i : Nat) (q : TxSet), s.takes h (op 0x0502 2 0 .other) i a → lenIs h (44 + 2 * q.outs.length) = true →
    a.ownsSc i q.ctx.toNat = true → (a.acceptTx q (TxSet.format q) a.effectBlock).portCommit (a.txStatus q) = .ok →
    ∃ r : State, exec (.streamTxSet h q) s = .next (r.reply i 0x0502 h.seq.toNat .ok (formatReply (TxSet.format q)) true) ∧
      ⟨a.effectBlock, .reg (R.STR_TX_W0_w (q.ctx.toNat - 128)).addr (TxSet.word q (TxSet.format q))⟩ ∈ r.sched ∧
      ⟨a.effectBlock, .reg (R.STR_TX_W1_DST (q.ctx.toNat - 128)).addr q.dst.toNat⟩ ∈ r.sched ∧
      ⟨a.effectBlock, .reg (R.STR_TX_W2_PORTS_UDP (q.ctx.toNat - 128)).addr (65536 * q.sport.toNat + q.dport.toNat)⟩ ∈ r.sched ∧
      ⟨a.effectBlock, .reg (R.STR_TX_W5_w (q.ctx.toNat - 128)).addr (65536 * q.tci.toNat + 256 * q.ttl.toNat + 4 * q.dscp.toNat)⟩ ∈ r.sched ∧
      (∀ k o, q.outs[k]? = some o → r.on (R.STR_TXMAP_EN (q.ctx.toNat - 128) k) = decide (o.toNat ≠ 0xFFFF) ∧
        (o.toNat ≠ 0xFFFF → r.rd (R.STR_TXMAP_OUTPUT (q.ctx.toNat - 128) k) = o.toNat)) ∧ r.stx = a.stx ∧ r.live = a.live)

/-- PORT_TDM_SET, PORT_AES_SET, MIC_SET and ASRC_SET (R172, R177, R184, R185, R189): the register words given wait for the effect block; channel maps and masks read back at once. -/
def Obligations.PortCommands : Prop :=
  (∀ (s a : State) (h : Hdr) (i : Nat) (port : BitVec 8) (cfg : BitVec 32) (tol : BitVec 16) (mIn mOut : BitVec 32) (map : List (BitVec 16)),
    s.takes h (op 0x0503 1 0 .other) i a → lenIs h 84 = true → (a.session i).cls ≤ 1 →
    (a.acceptTdm port.toNat cfg.toNat tol.toNat mIn.toNat mOut.toNat map a.effectBlock).portCommit
      (firstBad ([badUnless (port.toNat < 16), wordStatus (R.TDM_CFG_w 0).addr 0 cfg.toNat, badUnless (tol.toNat < 32768),
        badUnless !(bitOf cfg.toNat 30 && bitOf cfg.toNat 29), (if a.frameFits cfg.toNat then .ok else .limit)] ++ map.map a.mapStatus)) = .ok →
    ∃ r : State, exec (.portTdmSet h port cfg tol mIn mOut map) s = .next (r.reply i 0x0503 h.seq.toNat .ok [] true) ∧
      ⟨a.effectBlock, .reg (R.TDM_CFG_w port.toNat).addr cfg.toNat⟩ ∈ r.sched ∧
      ⟨a.effectBlock, .reg (R.TDM_ALIGN_w port.toNat).addr tol.toNat⟩ ∈ r.sched ∧
      r.rd (R.TDM_MASK_IN_SLOTS port.toNat) = mIn.toNat ∧ r.rd (R.TDM_MASK_OUT_SLOTS port.toNat) = mOut.toNat ∧
      ∀ k o, k < 32 → map[k]? = some o → r.on (R.TDM_CHMAP_EN port.toNat k) = decide (o.toNat ≠ 0xFFFF)) ∧
  (∀ (s a : State) (h : Hdr) (i : Nat) (dir index : BitVec 8) (cfg map : BitVec 32) (tpl : BitVec 192), s.takes h (op 0x0504 1 0 .other) i a →
    lenIs h 36 = true → (a.session i).cls ≤ 1 → dir.toNat ≤ 1 → index.toNat < 4 →
    ((if dir.toNat = 0 then a.regAt a.effectBlock (R.AES_ICFG_w index.toNat).addr cfg.toNat
      else a.acceptAesOut index.toNat cfg.toNat map.toNat tpl.toNat a.effectBlock) : State).portCommit
      (firstBad [wordStatus (if dir.toNat = 0 then (R.AES_ICFG_w 0).addr else (R.AES_OCFG_w 0).addr) 0 cfg.toNat,
        (if dir.toNat = 1 then a.aesMapStatus map.toNat else .ok)]) = .ok →
    ∃ r : State, exec (.portAesSet h dir index cfg map tpl) s = .next (r.reply i 0x0504 h.seq.toNat .ok [] true) ∧
      (dir = 0#8 → ⟨a.effectBlock, .reg (R.AES_ICFG_w index.toNat).addr cfg.toNat⟩ ∈ r.sched ∧ r.live = a.live) ∧
      (dir = 1#8 → ⟨a.effectBlock, .reg (R.AES_OCFG_w index.toNat).addr cfg.toNat⟩ ∈ r.sched ∧
        r.rd (R.AES_OMAP_OUT_A index.toNat) = bitsOf map.toNat 9 0 ∧ r.rd (R.AES_OMAP_OUT_B index.toNat) = bitsOf map.toNat 25 16)) ∧
  (∀ (s a : State) (h : Hdr) (i : Nat) (input : BitVec 8) (cfg det : BitVec 32), s.takes h (op 0x0505 1 0 .other) i a → lenIs h 12 = true →
    (a.session i).cls ≤ 1 → input.toNat < 4 → wordStatus (R.MIC_CFG_w 0).addr 0 cfg.toNat = .ok →
    wordStatus (R.MIC_DET_CFG_w 0).addr 0 det.toNat = .ok → a.commitStatus = .ok →
    ∃ r : State, exec (.micSet h input cfg det) s = .next (r.reply i 0x0505 h.seq.toNat .ok [] true) ∧
      ⟨a.effectBlock, .reg (R.MIC_CFG_w input.toNat).addr cfg.toNat⟩ ∈ r.sched ∧
      ⟨a.effectBlock, .reg (R.MIC_DET_CFG_w input.toNat).addr det.toNat⟩ ∈ r.sched) ∧
  (∀ (s a : State) (h : Hdr) (i : Nat) (ch bw : BitVec 8) (cfg : BitVec 32), s.takes h (op 0x0506 2 0 .other) i a → lenIs h 8 = true →
    (a.session i).cls ≤ 1 →
    ((a.regAt a.effectBlock (R.ASC_CFG_w ch.toNat).addr cfg.toNat).regAt a.effectBlock (R.ASC_LOOP_w ch.toNat).addr bw.toNat).portCommit
      (firstBad [badUnless (ch.toNat < 32), badUnless (bw.toNat < 16), wordStatus (R.ASC_CFG_w 0).addr 0 cfg.toNat,
        badUnless !(((a.regAt a.effectBlock (R.ASC_CFG_w ch.toNat).addr cfg.toNat).regAt a.effectBlock
          (R.ASC_LOOP_w ch.toNat).addr bw.toNat).committed.sourceBarred (24576 + ch.toNat))]) = .ok →
    ∃ r : State, exec (.asrcSet h ch bw cfg) s = .next (r.reply i 0x0506 h.seq.toNat .ok [] true) ∧
      ⟨a.effectBlock, .reg (R.ASC_CFG_w ch.toNat).addr cfg.toNat⟩ ∈ r.sched ∧
      ⟨a.effectBlock, .reg (R.ASC_LOOP_w ch.toNat).addr bw.toNat⟩ ∈ r.sched ∧ r.live = a.live)

/-- PS_CONFIG, PS_LOOP_PAIR and PS_BAND_PROTECT (R198, R206, R207, R213): the words wait for the effect block; PS_CONFIG keeps the committed ROLE, a pair sets the roles 1 and 2 of its two
channels and a dissolved one 0, and the protected entries beyond those named are disabled. -/
def Obligations.PowerConfiguration : Prop :=
  (∀ (s a : State) (h : Hdr) (i : Nat) (ch : BitVec 8) (w : PsWords), s.takes h (op 0x0601 1 0 .other) i a → lenIs h 36 = true →
    a.ownsPs i ch.toNat = true → (bitOf w.cfg.toNat 26 = true → a.ownsPs i (bitsOf w.cfg.toNat 25 21) = true) → ch.toNat < 24 →
    (a.acceptPs ch.toNat w a.effectBlock).thenCommit
      (firstBad [a.psWordStatus w, (a.acceptPs ch.toNat w a.effectBlock).psCommitStatus ch.toNat]) = .ok →
    ∃ r : State, exec (.psConfig h ch w) s = .next (r.reply i 0x0601 h.seq.toNat .ok [] true) ∧
      ⟨(a.lineAbort ch.toNat).effectBlock, .reg (R.PWS_CFG_w ch.toNat).addr ((a.lineAbort ch.toNat).cfgWord ch.toNat w.cfg)⟩ ∈ r.sched ∧
      ⟨(a.lineAbort ch.toNat).effectBlock, .reg (R.PWS_FSW_w ch.toNat).addr w.fsw.toNat⟩ ∈ r.sched ∧
      ⟨(a.lineAbort ch.toNat).effectBlock, .reg (R.PWS_SAG_w ch.toNat).addr w.sag.toNat⟩ ∈ r.sched ∧
      r.rd (R.PWS_VFS_VFS ch.toNat) = w.vfs.toNat % 2 ^ ((R.PWS_VFS_VFS ch.toNat).hi - (R.PWS_VFS_VFS ch.toNat).lo + 1)) ∧
  (∀ (s a : State) (h : Hdr) (i : Nat) (ch : BitVec 8) (pair : Bool), s.takes h (op 0x0603 2 0 .other) i a → lenIs h 2 = true →
    a.ownsPs i ch.toNat = true → a.ownsPs i (ch.toNat + 1) = true → ch.toNat < 24 → ch.toNat % 2 = 0 →
    (pair = true → a.committed.pairLegal ch.toNat = true ∧ a.committed.servesAny ch.toNat = false ∧ a.committed.servesAny (ch.toNat + 1) = false) →
    (a.acceptPair ch.toNat pair a.effectBlock).commitStatus = .ok →
    ∃ r : State, exec (.psLoopPair h ch pair) s = .next (r.reply i 0x0603 h.seq.toNat .ok [] true) ∧
      (∃ v, ⟨((a.lineAbort ch.toNat).lineAbort (ch.toNat + 1)).effectBlock, .reg (R.PWS_CFG_w ch.toNat).addr v⟩ ∈ r.sched ∧ bitsOf v 29 28 = b2n pair) ∧
      ∃ v, ⟨((a.lineAbort ch.toNat).lineAbort (ch.toNat + 1)).effectBlock, .reg (R.PWS_CFG_w (ch.toNat + 1)).addr v⟩ ∈ r.sched ∧
        bitsOf v 29 28 = 2 * b2n pair) ∧
  (∀ (s a : State) (h : Hdr) (i : Nat) (freqs : List (BitVec 16)), s.takes h (op 0x0604 3 1 .other) i a → lenIs h (4 + 4 * freqs.length) = true →
    (a.session i).cls = 0 → freqs.length ≤ 8 → (∀ f ∈ freqs, f.toNat < 32768) → (a.acceptProt freqs a.effectBlock).commitStatus = .ok →
    ∃ (r : State) (data : List Byte), exec (.psBandProtect h freqs) s = .next (r.reply i 0x0604 h.seq.toNat .ok data true) ∧ data.length = 51 ∧
      ∀ k, k < 8 → ⟨a.effectBlock, .reg (R.PWS_PROT_w k).addr (match freqs[k]? with | some f => 0x80000000 + f.toNat | none => 0)⟩ ∈ r.sched)

/-- PS_ENABLE, PS_STATUS and PS_FAULT_CLEAR (R200, R204, R220, R312): each channel named starts or stops at the effect block and any line test on it is aborted; the status reply holds 16 bytes a
channel and changes nothing; a fault clear acts as the write of ones that PWS_FAULT takes. -/
def Obligations.PowerOperation : Prop :=
  (∀ (s a : State) (h : Hdr) (i : Nat) (es : List (BitVec 8 × BitVec 8)), s.takes h (op 0x0602 1 0 .other) i a →
    lenIs h (1 + 2 * es.length) = true → 1 ≤ es.length → es.length ≤ 24 →
    (∀ e ∈ es, a.ownsPs i e.1.toNat = true ∧ a.enableStatus e = .ok ∧ (e.2.toNat = 1 → (a.psSt e.1.toNat).shed = false)) →
    ∃ r : State, exec (.psEnable h es) s = .next (r.reply i 0x0602 h.seq.toNat .ok [] true) ∧
      ∀ e ∈ es, ∃ b, ⟨b, .psRun e.1.toNat (decide (e.2 = 1#8))⟩ ∈ r.sched) ∧
  (∀ (s a : State) (h : Hdr) (i : Nat) (first n : BitVec 8), s.takes h (op 0x0605 1 1 .query) i a → lenIs h 2 = true → 1 ≤ n.toNat →
    n.toNat ≤ 24 → first.toNat + n.toNat ≤ 24 →
    exec (.psStatus h first n) s = .next (a.reply i 0x0605 h.seq.toNat .ok
      ((List.range n.toNat).map (fun k => leBytes 4 (a.psStatusWord (first.toNat + k)) ++ leBytes 4 (a.word (R.PWS_FAULT_w (first.toNat + k))) ++
        leBytes 4 (a.word (R.PWS_MEAS_w (first.toNat + k))) ++ leBytes 4 (a.word (R.TLY_RES_w (first.toNat + k))))).flatten true)) ∧
  (∀ (s a : State) (h : Hdr) (i : Nat) (e : BitVec 8 × BitVec 8), s.takes h (op 0x0606 1 0 .other) i a → lenIs h 3 = true →
    a.ownsPs i e.1.toNat = true → e.1.toNat < 24 → e.2.toNat < 64 →
    exec (.psFaultClear h [e]) s =
      .next (((a.lineAbort e.1.toNat).clearFaults e.1.toNat e.2.toNat).reply i 0x0606 h.seq.toNat .ok [] true)) ∧
  (∀ (s a : State) (h : Hdr) (i : Nat) (es : List (BitVec 8 × BitVec 8)), s.takes h (op 0x0606 1 0 .other) i a →
    lenIs h (1 + 2 * es.length) = true → 1 ≤ es.length → es.length ≤ 24 →
    (∀ e ∈ es, a.ownsPs i e.1.toNat = true ∧ e.1.toNat < 24 ∧ e.2.toNat < 64) →
    ∃ r : State, exec (.psFaultClear h es) s = .next (r.reply i 0x0606 h.seq.toNat .ok [] true) ∧ r.mem = a.mem ∧ r.geo = a.geo)

/-- TALLY_SCHEDULE, TALLY_RUN_NOW, TALLY_LOG_READ, BASELINE_CAPTURE (R214, R222, R224, R231, R312): the schedule is written; a test asked for runs once, at once or at the next of its events; a
read returns entries from an index, which then count as read; a capture becomes the port's long operation and holds its channels. -/
def Obligations.TallyCommands : Prop :=
  (∀ (s a : State) (h : Hdr) (i : Nat) (q : TallyReq), s.takes h (op 0x0701 2 0 .other) i a → lenIs h 20 = true → (a.session i).cls = 0 →
    TallyReq.status q = .ok → a.commitStatus = .ok →
    ∃ r : State, exec (.tallySchedule h q) s = .next (r.reply i 0x0701 h.seq.toNat .ok [] true) ∧
      r.on R.TLY_CTRL_LINE_EN = bitOf q.ctrl.toNat 1 ∧ r.on R.TLY_CTRL_DRAM_EN = bitOf q.ctrl.toNat 2 ∧
      r.on R.TLY_CTRL_DRV_EN = bitOf q.ctrl.toNat 3 ∧ r.on R.TLY_CTRL_FOLD_EN = bitOf q.ctrl.toNat 4 ∧
      r.on R.TLY_CTRL_SNS_EN = bitOf q.ctrl.toNat 5 ∧ r.on R.TLY_CTRL_ENABLE = a.on R.TLY_CTRL_ENABLE ∧
      r.rd R.TLY_WIN_START = q.start.toNat ∧ r.rd R.TLY_WIN_LEN = q.len.toNat ∧ r.rd R.TLY_LINE_SEL_VALUE = q.sel.toNat ∧
      r.rd R.TLY_LINE_CFG_w = q.cfg.toNat ∧ r.rd R.TLY_DRV_INTERVAL = q.interval.toNat ∧ r.rd R.TLY_SNS_TOL = q.tol.toNat) ∧
  (∀ (s a : State) (h : Hdr) (i : Nat) (test : BitVec 8) (subject : BitVec 16), s.takes h (op 0x0702 2 0 .other) i a → lenIs h 4 = true →
    (a.session i).cls = 0 → a.stage = 0 → (test.toNat ≤ 2 → ∀ n ∈ a.runChannels subject.toNat, a.ownsPs i n = true) →
    a.runStatus test.toNat subject.toNat = .ok →
    ∃ r : State, exec (.tallyRunNow h test subject) s = .next (r.reply i 0x0702 h.seq.toNat .ok [] true) ∧
      (test = 1#8 → ∀ n ns, a.runChannels subject.toNat = n :: ns → a.lineSkips n = false →
        r.tly.line = some ⟨n, a.tm.raw, false, none, true⟩ ∧ r.tly.onceTodo = ns ∧ (r.psSt n).pilot = some (a.tm.raw, none) ∧ r.on R.TLY_STATUS_LINE_BUSY = true) ∧
      (test = 2#8 → r.tly.capture = some ⟨a.runChannels subject.toNat, [], 6, a.tm.raw, none⟩ ∧ r.on R.TLY_STATUS_LINE_BUSY = true) ∧
      (test = 3#8 → r.on R.HST_SCRUB_CTRL_ENABLE = true ∧ r.rd R.HST_SCRUB_PTR_SLOT = 0 ∧ r.tly.scrubFails = 0) ∧
      (test = 4#8 → r.tly.dramAt = a.tm.raw ∧ r.rd R.TLY_DRAM_PTR_VALUE = 0 ∧ (4, 0) ∈ r.tly.asked) ∧
      (6 ≤ test.toNat → subject ≠ 0xFFFF#16 → (test.toNat, subject.toNat) ∈ r.tly.asked)) ∧
  (∀ (s a : State) (h : Hdr) (i : Nat) (index n : BitVec 16), s.takes h (op 0x0703 1 0 .query) i a → lenIs h 4 = true → 1 ≤ n.toNat →
    n.toNat ≤ 256 →
    ∃ r : State, exec (.tallyLogRead h index n) s = .next (r.reply i 0x0703 h.seq.toNat .ok
        (leBytes 2 (a.logFrom index.toNat).1 ++ leBytes 2 ((a.logFrom index.toNat).2.take n.toNat).length ++
          (((a.logFrom index.toNat).2.take n.toNat).map LogEntry.bytes).flatten) true) ∧
      r.tly.log = a.tly.log.map (fun e =>
        if (((a.logFrom index.toNat).2.take n.toNat).map LogEntry.index).contains e.index then { e with read := true } else e) ∧
      r.tly.next = a.tly.next ∧ r.regs = a.regs) ∧
  (∀ (s a : State) (h : Hdr) (i : Nat) (chs : List (BitVec 8)), s.takes h (op 0x0704 2 0 .other) i a → lenIs h (1 + chs.length) = true →
    (∀ c ∈ chs, a.ownsPs i c.toNat = true) → a.stage = 0 → a.captureStatus chs = .ok →
    ∃ t : State, exec (.baselineCapture h chs) s = .next t ∧ t.tly.capture = some ⟨dedup (chs.map BitVec.toNat), [], h.port.val, a.tm.raw, none⟩ ∧
      (t.port h.port.val).busy.map (fun l => (l.op, l.sess, l.seq, l.maxMs)) = some (0x0704, i, h.seq.toNat, 30000) ∧
      t.on R.TLY_STATUS_LINE_BUSY = true)

/-- TIME_CONFIG, TIME_STATUS and SCHEDULE_EVENT (R256, R258, R260, R261, R312): the PTP profile and ports, the servo and the step threshold take the values given, and the link offset too unless the
unit has locked; a status reply changes nothing but the counter of free values; an action waits for its presentation time. -/
def Obligations.TimeCommands : Prop :=
  (∀ (s a : State) (h : Hdr) (i : Nat) (q : TimeReq), s.takes h (op 0x0801 2 0 .other) i a → lenIs h 44 = true → (a.session i).cls = 0 →
    TimeReq.status q = .ok → a.commitStatus = .ok →
    ∃ r : State, exec (.timeConfig h q) s = .next (r.reply i 0x0801 h.seq.toNat .ok [] true) ∧
      r.ptp = { profile := q.profile.toNat, domain := q.domain.toNat, master := q.master, layer2 := q.layer2, primary := q.primary.toNat,
                backup := q.backup.toNat, inUse := q.primary.toNat,
                lat := (List.range 3).map (fun p => ((q.lat.getD p (0#16, 0#16)).1.toNat, (q.lat.getD p (0#16, 0#16)).2.toNat)) } ∧
      r.on R.TSU_CTRL_QUAL_ONE = q.qualOne ∧ r.on R.TSU_CTRL_PPS_OUT_EN = q.pps ∧
      r.rd R.TSU_LINK_OFS_VALUE = (if a.on R.TSU_CTRL_LOCK then a.rd R.TSU_LINK_OFS_VALUE else q.linkOfs.toNat) ∧
      r.rd R.TSU_SERVO_KP_VALUE = q.kp.toNat ∧ r.rd R.TSU_SERVO_KI_VALUE = q.ki.toNat ∧ r.rd R.TSU_SERVO_LIM_RATE_MAX = q.rateMax.toNat ∧
      r.rd R.TSU_SERVO_LIM_HOLD_TO = q.holdTo.toNat ∧ r.rd R.TSU_SERVO_THR_VALUE = q.lockThr.toNat ∧
      r.rd R.TSU_STEP_THR_VALUE = q.stepThr.toNat ∧ r.tm = a.tm) ∧
  (∀ (s a : State) (h : Hdr) (i : Nat), s.takes h (op 0x0802 2 0 .query) i a → lenIs h 0 = true →
    exec (.timeStatus h) s = .next (({ a with free := a.free + 1 } : State).reply i 0x0802 h.seq.toNat .ok a.timeStatus true) ∧
      a.timeStatus.length = 40) ∧
  (∀ (s a : State) (h : Hdr) (i : Nat) (action gpio : BitVec 8) (tag : BitVec 32), s.takes h ⟨0x0803, (2, 0), .within, false, .other⟩ i a →
    lenIs h 8 = true → (a.session i).cls ≤ 1 → h.timed = true → action.toNat ≤ 2 → gpio.toNat < 32 →
    (action ≠ 2#8 → a.gpioOut gpio.toNat = true) →
    ∃ r : State, exec (.scheduleEvent h action gpio tag) s = .next (r.reply i 0x0803 h.seq.toNat .ok [] true) ∧
      r.acts = a.acts ++ [⟨i, h.time, action.toNat, gpio.toNat, tag.toNat⟩] ∧ r.regs = a.regs ∧ r.gpio = a.gpio)

/-- MIRROR_CONFIG, MIRROR_STATUS, MIRROR_SWITCHOVER (R318, R325): enabling the mirror begins arbitration, which a high FLD_ACTI ends at once on STANDBY, disabling it makes the unit SINGLE (log entry 130); a status reply changes nothing; a switchover of an
ACTIVE unit whose partner is in step fixes its boundary. -/
def Obligations.MirrorCommands : Prop :=
  (∀ (s a : State) (h : Hdr) (i : Nat) (en prefer : Bool), s.takes h (op 0x0901 2 0 .query) i a → lenIs h 4 = true → (a.session i).cls = 0 →
    ∃ r : State, exec (.mirrorConfig h en prefer) s = .next (r.reply i 0x0901 h.seq.toNat .ok [] true) ∧
      r.on R.FLD_CTRL_PREFER_ACTIVE = prefer ∧ r.on R.FLD_CTRL_EN = en ∧
      (en = a.on R.FLD_CTRL_EN → r.mir = a.mir ∧ r.role = a.role) ∧
      (en = true → a.on R.FLD_CTRL_EN = false → r.role = (if a.on R.FLD_STATUS_ACTI then roleStandby else roleArb) ∧ r.mir.releaseAt = a.tm.raw) ∧
      (en = false → a.on R.FLD_CTRL_EN = true → r.role = roleSingle ∧ r.mir.partner = none ∧ r.mir.change = none)) ∧
  (∀ (s a : State) (h : Hdr) (i : Nat), s.takes h (op 0x0902 2 0 .query) i a → lenIs h 0 = true →
    exec (.mirrorStatus h) s = .next (a.reply i 0x0902 h.seq.toNat .ok (leBytes 1 a.role ++ leBytes 1 (a.rd R.FLD_STATUS_PARTNER) ++
      leBytes 1 (a.rd R.FLD_STATUS_FOLD_UP + 2 * a.rd R.FLD_STATUS_HB_UP) ++ leBytes 1 (a.rd R.FLD_PARTNER_MAJOR) ++
      leBytes 8 (a.rd64 R.FLD_TAKEOVER_LO_BLOCK R.FLD_TAKEOVER_HI_BLOCK) ++ leBytes 4 (a.rd R.FLD_CNT_COPY_FAIL_COUNT)) true)) ∧
  (∀ (s a : State) (h : Hdr) (i : Nat), s.takes h (op 0x0903 2 0 .query) i a → lenIs h 0 = true → (a.session i).cls = 0 →
    a.role = roleActive → a.rd R.FLD_STATUS_PARTNER = 2 → a.mir.change = none →
    ∃ r : State, exec (.mirrorSwitchover h) s = .next (r.reply i 0x0903 h.seq.toNat .ok (leBytes 8 (a.effectBlock + 2)) true) ∧
      r.mir.change = some ⟨a.effectBlock + 2, true, true⟩ ∧ r.regs = a.regs)

/-- ATTEST, CERT_READ and the firmware transfer (R306, R310, R392): an attestation holds 92 bytes over the nonce and 64 of a signature that is the model's free value; FW_BEGIN opens a transfer into the slot that did not boot, FW_CHUNK
appends to it, FW_COMMIT makes every port busy. -/
def Obligations.FirmwareCommands : Prop :=
  (∀ (s a : State) (h : Hdr) (i : Nat) (nonce : BitVec 128), s.takes h (op 0x0A01 2 0 .query) i a → lenIs h 16 = true →
    ∃ sig : List Byte, sig.length = 64 ∧ exec (.attest h nonce) s = .next (({ a with free := a.free + 1 } : State).reply i 0x0A01 h.seq.toNat .ok
      ([1#8, 0#8, 1#8, 1#8, 2#8, 0#8, 2#8, 1#8, 3#8, 0#8, 3#8, 1#8, 3#8, 2#8, 0#8, 16#8, 0#8, 48#8, 1#8, 16#8, 1#8, 48#8, 0#8, 0#8] ++
        leBytes 4 (a.rd R.SEC_FW_VERSION_VALUE) ++ a.measBytes ++ leBytes 8 a.otp.rollback ++ leBytes 8 a.tm.blockCount ++
        leBytes 16 nonce.toNat ++ sig) true)) ∧
  (∀ (s a : State) (h : Hdr) (i : Nat) (which : BitVec 8), s.takes h (op 0x0A02 2 0 .query) i a → lenIs h 1 = true → which.toNat ≤ 1 →
    exec (.certRead h which) s = .next (a.reply i 0x0A02 h.seq.toNat .ok (Config.cert (decide (which = 1#8))) true)) ∧
  (∀ (s a : State) (h : Hdr) (i : Nat) (length : BitVec 32) (sha : BitVec 256), s.takes h (op 0x0A03 2 0 .other) i a → lenIs h 36 = true →
    (a.session i).cls = 0 → a.stage = 0 → length.toNat ≤ 16777216 →
    ∃ r : State, exec (.fwBegin h length sha) s = .next (r.reply i 0x0A03 h.seq.toNat .ok [] true) ∧
      r.fw = some ⟨i, length.toNat, sha, decide (a.rd R.SEC_STATUS_SLOT = 0), []⟩ ∧ r.flash = a.flash ∧ r.regs = a.regs) ∧
  (∀ (s a : State) (h : Hdr) (i : Nat) (off : BitVec 32) (data : List Byte) (x : FwXfer), s.takes h (op 0x0A04 2 0 .other) i a →
    lenIs h (4 + data.length) = true → (a.session i).cls = 0 → a.stage = 0 → a.fw = some x → x.sess = i → off.toNat = x.got.length →
    x.got.length + data.length ≤ x.len →
    ∃ r : State, exec (.fwChunk h off data) s = .next (r.reply i 0x0A04 h.seq.toNat .ok [] true) ∧
      r.fw = some { x with got := x.got ++ data } ∧ r.flash = a.flash ∧ r.regs = a.regs) ∧
  (∀ (s a : State) (h : Hdr) (i : Nat) (x : FwXfer), s.takes h (op 0x0A05 2 0 .other) i a → lenIs h 0 = true → (a.session i).cls = 0 →
    a.stage = 0 → a.fw = some x → x.sess = i → x.got.length = x.len →
    ∃ t : State, exec (.fwCommit h) s = .next t ∧ t.devBusy = some ⟨0x0A05, i, h.seq.toNat, a.tm.raw, 12000, 0⟩ ∧
      t.on R.HIF_STATUS_DEV_BUSY = true ∧ t.rd R.HIF_STATUS_PORT_BUSY = 63 ∧ t.flash = a.flash)

/-- KEY_ROTATE, SHED_CONFIG, SUPPLY_STATUS, MAINT_ENTER and RESET (R290, R308, R370, R395): the enrolment table takes its entries and the device is busy; the thresholds are written; a status reply changes nothing; maintenance
mode belongs to the session that enters it; a RESET answers and makes every port busy. -/
def Obligations.DeviceCommands : Prop :=
  (∀ (s a : State) (h : Hdr) (i : Nat) (es : List KeyEntry), s.takes h (op 0x0A06 2 0 .other) i a → lenIs h (4 + 72 * es.length) = true →
    a.mayRotate i = true → 1 ≤ es.length → es.length ≤ 16 → (∀ e ∈ es, KeyEntry.status e = .ok) → permitsZero (enrolWith a.enrol es) = true →
    ∃ t : State, exec (.keyRotate h es) s = .next t ∧
      (∀ e, es.getLast? = some e → t.enrol.get none e.index.toNat = (if e.set = 1#8 then some ⟨e.cls.toNat, e.ports.toNat, e.key⟩ else none)) ∧
      (∀ n, (∀ e ∈ es, e.index.toNat ≠ n) → t.enrol.get none n = a.enrol.get none n) ∧
      t.devBusy = some ⟨0x0A06, i, h.seq.toNat, a.tm.raw, 300, changedEntries a.enrol (enrolWith a.enrol es)⟩ ∧
      t.on R.HIF_STATUS_DEV_BUSY = true) ∧
  (∀ (s a : State) (h : Hdr) (i : Nat) (s2 s3 s4 hyst dwell : BitVec 16), s.takes h (op 0x0D01 2 0 .other) i a → lenIs h 12 = true →
    (a.session i).cls = 0 → s4.toNat < s3.toNat → s3.toNat < s2.toNat → 10 ≤ hyst.toNat → hyst.toNat ≤ 500 → 100 ≤ dwell.toNat →
    dwell.toNat ≤ 60000 → a.commitStatus = .ok →
    ∃ r : State, exec (.shedConfig h s2 s3 s4 hyst dwell) s = .next (r.reply i 0x0D01 h.seq.toNat .ok [] true) ∧
      r.rd R.SUP_THR_S2_VALUE = s2.toNat ∧ r.rd R.SUP_THR_S3_VALUE = s3.toNat ∧ r.rd R.SUP_THR_S4_VALUE = s4.toNat ∧
      r.rd R.SUP_HYST_VALUE = hyst.toNat ∧ r.rd R.SUP_DWELL_VALUE = dwell.toNat) ∧
  (∀ (s a : State) (h : Hdr) (i : Nat), s.takes h (op 0x0D02 1 1 .query) i a → lenIs h 0 = true →
    exec (.supplyStatus h) s = .next (a.reply i 0x0D02 h.seq.toNat .ok (leBytes 1 a.stage ++ leBytes 1 (a.rd R.SUP_STATUS_MAINS) ++ leBytes 2 0 ++
      leBytes 4 (a.rd R.SUP_BUS_VALUE) ++ leBytes 2 (a.rd R.SUP_TEMP_VALUE) ++ leBytes 2 0 ++
      leBytes 8 (a.rd64 R.SUP_STAGE_BLK_LO_VALUE R.SUP_STAGE_BLK_HI_VALUE)) true)) ∧
  (∀ (s a : State) (h : Hdr) (i : Nat) (enter : BitVec 8), s.takes h (op 0x0F01 1 0 .other) i a → lenIs h 4 = true →
    (a.session i).cls = 0 → a.stage = 0 → enter.toNat ≤ 1 → (a.maint = none ∨ a.maint = some i) →
    ∃ r : State, exec (.maintEnter h enter) s = .next (r.reply i 0x0F01 h.seq.toNat .ok [] true) ∧
      r.maint = (if enter = 1#8 then some i else none) ∧ r.on R.SEC_STATUS_MAINT = decide (enter = 1#8)) ∧
  (∀ (s a : State) (h : Hdr) (i : Nat), s.takes h (op 0x0F04 1 0 .other) i a → lenIs h 0 = true → (a.session i).cls = 0 →
    ∃ r : State, exec (.reset h) s = .next (r.reply i 0x0F04 h.seq.toNat .ok [] true) ∧
      r.devBusy = some ⟨0x0F04, i, h.seq.toNat, a.tm.raw, 10, 0⟩ ∧ r.on R.HIF_STATUS_DEV_BUSY = true ∧ r.mix = a.mix)

/-- MSG_STORE, MSG_PLAY, MSG_STOP (R307): a chunk is appended to its message, the first one erasing what was there; the last byte makes the message valid when the CRC-32 matches and leaves it invalid with
CHECK when it does not; a play takes its place behind the others from its input sample, cutting an earlier play of the message; a stop waits for its block. -/
def Obligations.MessageCommands : Prop :=
  (∀ (s a : State) (h : Hdr) (i : Nat) (q : StoreReq) (data : List Byte), s.takes h (op 0x0C01 1 0 .other) i a →
    lenIs h (16 + data.length) = true → (a.session i).cls ≤ (if q.evac then 0 else 1) → a.stage = 0 → a.storeStatus i q data.length = .ok →
    ∃ (r : State) (st : Status), exec (.msgStore h q data) s = .next (r.reply i 0x0C01 h.seq.toNat st [] true) ∧
      (∀ x : Msg, a.storeBase i q = x →
        (x.data.length + data.length < x.total → st = .ok ∧ r.msg q.msg.toNat = some { x with data := x.data ++ data }) ∧
        (x.total ≤ x.data.length + data.length → (crc32 (x.data ++ data)).toNat = x.crc →
          st = .ok ∧ r.msg q.msg.toNat = some { x with data := x.data ++ data, state := .valid, sess := none }) ∧
        (x.total ≤ x.data.length + data.length → (crc32 (x.data ++ data)).toNat ≠ x.crc →
          st = .check ∧ r.msg q.msg.toNat = some { x with data := x.data ++ data, state := .bad, sess := none })) ∧
      ∀ n, n ≠ q.msg.toNat → r.msg n = a.msg n) ∧
  (∀ (s a : State) (h : Hdr) (i : Nat) (m : BitVec 8) (loop : Bool) (repeats gap : BitVec 16),
    s.takes h ⟨0x0C02, (1, 0), .within, false, .other⟩ i a → lenIs h 6 = true → a.ownsFeed i m.toNat = true →
    (a.stage < 4 ∨ a.msgEvac m.toNat = true) → a.msgValid m.toNat = true →
    ∃ r : State, exec (.msgPlay h m loop repeats gap) s = .next (r.reply i 0x0C02 h.seq.toNat .ok [] true) ∧
      r.plays = a.cutPlays m.toNat (a.hdrSample h) ++ [⟨m.toNat, a.hdrSample h, none, loop, max 1 repeats.toNat, 16 * gap.toNat⟩] ∧
      r.regs = a.regs ∧ r.sched = a.sched) ∧
  (∀ (s a : State) (h : Hdr) (i : Nat) (m : BitVec 8) (atEnd : Bool), s.takes h ⟨0x0C03, (1, 0), .nextBlock, false, .other⟩ i a →
    lenIs h 2 = true → a.ownsFeed i m.toNat = true →
    ∃ r : State, exec (.msgStop h m atEnd) s = .next (r.reply i 0x0C03 h.seq.toNat .ok [] true) ∧
      r.sched = a.sched ++ [⟨a.hdrNext h, .msgStop m.toNat atEnd⟩] ∧ r.plays = a.plays)

/-- PARAM_READ, COUNTERS_READ, RAW_READ and RAW_WRITE (R14, R309, R395, R401): reads answer a value for each identifier or word named; a raw access, in the session that holds maintenance mode,
is the Bellwether's own access to each word. -/
def Obligations.ReadCommands : Prop :=
  (∀ (s a : State) (h : Hdr) (i : Nat) (pids : List (BitVec 16)), s.takes h (op 0x0B01 1 0 .query) i a → lenIs h (2 + 2 * pids.length) = true →
    1 ≤ pids.length → pids.length ≤ 256 → (∀ p ∈ pids, a.pidKnown p.toNat = .ok) →
    exec (.paramRead h pids) s = .next (a.reply i 0x0B01 h.seq.toNat .ok (pids.map (fun p => leBytes 4 (a.pidRead i p.toNat))).flatten true)) ∧
  (∀ (s a : State) (h : Hdr) (i : Nat) (ids : List (BitVec 16)), s.takes h (op 0x0B05 1 0 .query) i a → lenIs h (2 + 2 * ids.length) = true →
    1 ≤ ids.length → ids.length ≤ 128 → (∀ n ∈ ids, isCounter n.toNat = true) →
    exec (.countersRead h ids) s = .next (a.secondTotals.reply i 0x0B05 h.seq.toNat .ok
      (ids.map (fun n => leBytes 8 (a.secondTotals.totals.get 0 n.toNat))).flatten true)) ∧
  (∀ (s a : State) (h : Hdr) (i : Nat) (addr : BitVec 32) (n : BitVec 16), s.takes h (op 0x0F02 1 0 .query) i a → lenIs h 8 = true →
    a.maint = some i → 1 ≤ n.toNat → n.toNat ≤ 256 → addr.toNat % 4 = 0 →
    exec (.rawRead h addr n) s = .next ((a.rawWords addr.toNat n.toNat).2.reply i 0x0F02 h.seq.toNat .ok (a.rawWords addr.toNat n.toNat).1 true) ∧
      (a.rawWords addr.toNat n.toNat).1.length = 4 * n.toNat) ∧
  (∀ (s a : State) (h : Hdr) (i : Nat) (addr : BitVec 32) (ws : List (BitVec 32)), s.takes h (op 0x0F03 1 0 .other) i a →
    lenIs h (8 + 4 * ws.length) = true → a.maint = some i → 1 ≤ ws.length → ws.length ≤ 256 → addr.toNat % 4 = 0 →
    exec (.rawWrite h addr ws) s = .next (((a.rawPut addr.toNat ws).runSteps 64).reply i 0x0F03 h.seq.toNat .ok [] true))

/-- PARAM_WRITE of one parameter (R165, R401): a gain goes to its path from the command's input sample, a chain field reads back at once and waits for the command's block, and so does a device parameter; one that retrains the DRAM becomes the port's long operation. -/
def Obligations.ParameterWritten : Prop :=
  (∀ (s a : State) (h : Hdr) (i : Nat) (p : BitVec 16) (v : BitVec 32) (o : Nat), s.takes h ⟨0x0B02, (1, 0), paramKind [p.toNat], true, .other⟩ i a →
    lenIs h 8 = true → pidOf p.toNat = some (.objCode o) → a.pidNeeds i p.toNat = true → a.pidStatus p.toNat v.toNat = .ok →
    ∃ r : State, exec (.paramWrite h [(p, v)]) s = .next (r.reply i 0x0B02 h.seq.toNat .ok [] true) ∧
      r.rd (R.MIX_OBJ_GAIN_CODE o) = v.toNat % 2 ^ 16 ∧
      r.sched = a.sched ++ [⟨a.hdrSample h / 32, .gain (pathObj o) (signedOf 16 v.toNat) (a.hdrSample h) (a.hdrRamp i h)⟩]) ∧
  (∀ (s a : State) (h : Hdr) (i : Nat) (p : BitVec 16) (v : BitVec 32) (o : Nat), s.takes h ⟨0x0B02, (1, 0), paramKind [p.toNat], true, .other⟩ i a →
    lenIs h 8 = true → pidOf p.toNat = some (.delay o) → a.pidNeeds i p.toNat = true → a.pidStatus p.toNat v.toNat = .ok →
    (a.putParams i (a.hdrNext h) (a.hdrSample h) (a.hdrRamp i h) [(p.toNat, v.toNat)]).commitStatus = .ok →
    ∃ r : State, exec (.paramWrite h [(p, v)]) s = .next (r.reply i 0x0B02 h.seq.toNat .ok [] true) ∧
      r.rd (R.MIX_OUT_CFG_DELAY o) = v.toNat ∧ r.live = a.live ∧
      ⟨a.hdrNext h, .fld (R.MIX_OUT_CFG_DELAY o).addr (R.MIX_OUT_CFG_DELAY o).hi (R.MIX_OUT_CFG_DELAY o).lo v.toNat⟩ ∈ r.sched) ∧
  (∀ (s a : State) (h : Hdr) (i : Nat) (v : BitVec 32), s.takes h ⟨0x0B02, (1, 0), paramKind [8], true, .other⟩ i a →
    lenIs h 8 = true → 1 ≤ v.toNat → v.toNat ≤ 1000 →
    ∃ r : State, exec (.paramWrite h [(8#16, v)]) s = .next (r.reply i 0x0B02 h.seq.toNat .ok [] true) ∧
      r.sched = a.sched ++ [⟨a.hdrNext h, .param i 8 v.toNat⟩] ∧ r.sessions = a.sessions ∧ r.regs = a.regs) ∧
  (∀ (s a : State) (h : Hdr) (i : Nat), s.takes h ⟨0x0B02, (1, 0), paramKind [3], true, .other⟩ i a → lenIs h 8 = true → (a.session i).cls = 0 →
    a.cel.retrain = none → a.celChannels ≠ 0 →
    ∃ t : State, exec (.paramWrite h [(3#16, 1#32)]) s = .next t ∧ ⟨a.hdrNext h, .param i 3 1⟩ ∈ t.sched ∧ t.cel = a.cel ∧
      (t.port h.port.val).busy = some ⟨0x0B02, i, h.seq.toNat, a.tm.raw, 60, 0⟩)

/-- Safe loads (R163, R164): entries join the session's staging set, a repeated identifier taking the later value; a discard empties it; a timed commit applies it whole at its block and answers that block; an untimed one holds
the block's shadow registers and answers after its boundary. -/
def Obligations.SafeLoads : Prop :=
  (∀ (s a : State) (h : Hdr) (i : Nat) (es : List (BitVec 16 × BitVec 32)), s.takes h (op 0x0B03 2 0 .other) i a →
    lenIs h (2 + 6 * es.length) = true → 1 ≤ es.length → es.length ≤ 64 →
    (∀ e ∈ es, a.pidNeeds i e.1.toNat = true ∧ a.pidKnown e.1.toNat = .ok ∧ safeLoadable e.1.toNat = true ∧ a.pidStatus e.1.toNat e.2.toNat = .ok) →
    ((natPairs es).foldl stageEntry (a.session i).staging).length ≤ 512 →
    ∃ r : State, exec (.safeStage h es) s = .next (r.reply i 0x0B03 h.seq.toNat .ok [] true) ∧
      (r.session i).staging = (natPairs es).foldl stageEntry (a.session i).staging ∧ r.regs = a.regs ∧ r.sched = a.sched) ∧
  (∀ (s a : State) (h : Hdr) (i : Nat), s.takes h ⟨0x0B04, (2, 0), .nextBlock, false, .other⟩ i a → lenIs h 4 = true →
    ∃ r : State, exec (.safeCommit h 1#8) s = .next (r.reply i 0x0B04 h.seq.toNat .ok (leBytes 8 a.tm.blockCount) true) ∧
      (r.session i).staging = [] ∧ r.regs = a.regs ∧ r.sched = a.sched) ∧
  (∀ (s a : State) (h : Hdr) (i : Nat), s.takes h ⟨0x0B04, (2, 0), .nextBlock, false, .other⟩ i a → lenIs h 4 = true →
    (∀ e ∈ (a.session i).staging, a.entryStatus i e = .ok) →
    (a.commitSet i (a.hdrNext h)).paramCheck ((a.session i).staging.map Prod.fst) .ok = .ok →
    (h.timed = true → ∃ r : State, exec (.safeCommit h 0#8) s = .next (r.reply i 0x0B04 h.seq.toNat .ok (leBytes 8 (a.hdrNext h)) true) ∧
      (r.session i).staging = [] ∧ ⟨a.hdrNext h, .slCommit⟩ ∈ r.sched) ∧
    (h.timed = false → ∃ t : State, exec (.safeCommit h 0#8) s = .next t ∧ (t.session i).staging = [] ∧ t.on R.MIX_SL_CTRL_HOLD = true ∧
      ⟨a.effectBlock, .slCommit⟩ ∈ t.sched ∧ ⟨a.effectBlock, .slReply i 0x0B04 h.seq.toNat⟩ ∈ t.sched))

/-- BLOCK_BOUNDARY, TAP_LIST_COMPLETE, LANDING_DEADLINE and RELEASE_DEADLINE (R19, R20, R38, R48, R49, R54, R261): the count takes the next block, or the one first lock chose, and the counter of the clock is the start of the block; a complete list says so with its counts; the landing
window of one block closes and that of the next opens; the oldest block of stage C is released, and every output that was not ready presents silence. -/
def Obligations.BlockPipeline : Prop :=
  (∀ (s : State) (bus : Option Int) (n : Nat), (s.atRaw n).on R.TSU_CTRL_BLOCK_EN = true → (s.atRaw n).gated 15 = false →
    ((s.atRaw n).locked = true → (s.atRaw n).nextBoundary ≤ (s.atRaw n).now) →
    let a : State := s.atRaw n
    let k : Nat := match a.tm.lockBlock with
      | some k => k
      | none => if a.tm.started then a.tm.blockCount + 1 else 0
    ∃ t : State, exec (.blockBoundary bus n) s = .next t ∧ t.tm.blockCount = k ∧ t.tm.started = true ∧ t.tm.lockBlock = none ∧ t.tm.raw = a.tm.raw ∧
      t.tm.blockStart = a.now ∧ t.tm.firstLocked = (if a.tm.lockBlock.isSome then k else a.tm.firstLocked)) ∧
  (∀ (s : State) (bus : Option Int) (n : Nat), (s.atRaw n).on R.TSU_CTRL_BLOCK_EN = false ∨ ((s.atRaw n).locked = true ∧ (s.atRaw n).now < (s.atRaw n).nextBoundary) → exec (.blockBoundary bus n) s = .next (s.atRaw n)) ∧
  (∀ (s : State) (l : TapList), s.on R.CLK_STAT_ON_RC = false → s.gated 1 = false → s.geo.late = none → s.geo.forming = some l → l.complete = false → l.taps ≠ [] →
    l.taps.length ≤ 65536 →
    ∃ t : State, exec (.tapListComplete l.blk) s = .next t ∧ t.geo = { s.geo with forming := some { l with complete := true } } ∧
      t.rd R.PST_TAP_COUNT_ENTRIES_M1 = l.taps.length - 1 ∧ t.rd R.PST_CNT_DEFER_VALUE = min 0xFFFFFFFF (s.rd R.PST_CNT_DEFER_VALUE + l.deferred) ∧
      (l.budget = true → t.on R.PST_STATUS_BUDGET = true)) ∧
  (∀ (s : State) (f : List SpecItem) (q : List SpecLate) (n : Nat), s.tm.started = true → s.hst.winOpen = false → (s.atRaw n).landDeadline (s.hst.win - 1) ≤ (s.atRaw n).now →
    ∃ t : State, exec (.landingDeadline f q n) s = .next t ∧ t.hst.win = s.hst.win ∧ t.hst.winOpen = true) ∧
  (∀ (s : State) (f : List SpecItem) (q : List SpecLate) (n : Nat), s.tm.started = true → s.hst.winOpen = true → s.hst.win < s.tm.blockCount → (s.atRaw n).landDeadline s.hst.win ≤ (s.atRaw n).now →
    ∃ t : State, exec (.landingDeadline f q n) s = .next t ∧ t.hst.win = s.hst.win + 1 ∧ t.hst.winOpen = true ∧
      (t.hst.rendering = none ∨ t.hst.rendering = some s.hst.win)) ∧
  (∀ (s : State) (b : Nat) (rest late : List Nat) (n : Nat), s.mix.relQ = b :: rest → (s.atRaw n).instant (32 * b + 93) ≤ (s.atRaw n).now →
    ∃ t : State, exec (.releaseDeadline late n) s = .next t ∧ t.mix.relQ = rest ∧ ∀ o ∈ late, t.releasedBlock o b = List.replicate 32 0)

/-- SOUND_RATE_UPDATE, TILE_PRESENT, the long rings, the scrub, the delay rings, installs, identification and the builder's banks (R37, R54, R63, R64, R66, R70, R81, R87, R164, R169, R342, R368). -/
def Obligations.HistoryCommands : Prop :=
  (∀ (s : State) (code : BitVec 14) (n : Nat), s.geo.track = true → s.geo.speedAt = 0 →
    let temp : Int := rheDiv (code.toInt * 1000) 8191 - 500
    ∃ t : State, exec (.soundRateUpdate code n) s = .next t ∧ t.rd R.SUP_TEMP_VALUE = unsignedOf 16 temp ∧ t.geo.speedAt = (s.atRaw n).tm.raw ∧
      t.rd R.PST_SOUND_RATE_RATE = rheDivNat (s.fs * 4294967296 * 10) (3313000 + 606 * temp).toNat % 2 ^ 32) ∧
  (∀ (s : State) (src q : BitVec 16) (x : BitVec 576) (na : Bool) (n r : Nat),
    let u : State := s.atRaw n
    u.lands s.hst.win = true → u.ringOf src.toNat = some r → s.hst.winOpen = true →
    (0x6000 ≤ src.toNat → src.toNat < 0x6020 → u.gated 8 = false ∧ u.ascDelivers (src.toNat - 0x6000) (u.seqBlock q.toNat) = true ∧
      (u.on (R.ASC_CFG_OUT_VOICE (src.toNat - 0x6000)) = true → u.on R.MIX_CTRL_ENABLE = true) ∧ (u.ascTile (src.toNat - 0x6000) (u.seqBlock q.toNat)).2.2 = false) →
    (0x8000 ≤ src.toNat → src.toNat < 0x8004 → u.gated 9 = false ∧ u.on (R.MIC_CFG_EN (src.toNat - 0x8000)) = true ∧ u.on R.MIX_CTRL_ENABLE = true) →
    (q.toNat = s.hst.win % 65536 → (s.ring r).has s.hst.win = false → na = false →
      ∃ t : State, exec (.tilePresent src q x na n) s = .next t ∧ (t.ring r).last = some (s.hst.win, .data) ∧ ∀ k, k ≠ r → t.ring k = s.ring k) ∧
    (q.toNat ≠ s.hst.win % 65536 → laterThan 16 q.toNat (s.hst.win % 65536) = true →
      ∃ t : State, exec (.tilePresent src q x na n) s = .next t ∧ t.rd R.HST_CNT_EARLY_VALUE = min 0xFFFFFFFF (s.rd R.HST_CNT_EARLY_VALUE + 1) ∧ t.hst = s.hst ∧ t.mem = s.mem) ∧
    (q.toNat ≠ s.hst.win % 65536 → laterThan 16 q.toNat (s.hst.win % 65536) = false →
      ∃ t : State, exec (.tilePresent src q x na n) s = .next t ∧ t.rd R.HST_CNT_LATE_DROP_VALUE = min 0xFFFFFFFF (s.rd R.HST_CNT_LATE_DROP_VALUE + 1) ∧
        t.on R.HST_STATUS_LATE_DROP = true ∧ t.hst = s.hst ∧ t.mem = s.mem)) ∧
  (∀ (s : State) (r : Fin 1024) (b : Nat), s.gated 4 = false → s.hst.copies.contains (r.val, b) = true →
    ∃ t : State, exec (.longRingCopy r b) s = .next t ∧ t.hst.longTiles.get tileZero (r.val * 4104 + b % 4104) = s.slot r.val (b % 64) ∧
      t.hst.copies = s.hst.copies.filter (fun x => x ≠ (r.val, b)) ∧ (t.ring r.val).longFirst = some ((s.ring r.val).longFirst.getD b)) ∧
  (∀ (s : State) (r : Fin 1024) (b : Nat), s.hst.copies.contains (r.val, b) = true → s.hst.copyPanic.contains (r.val, b) = false →
    ∃ t : State, exec (.longCopyOverdue r b) s = .next t ∧ t.panic = true ∧ t.hst.copyPanic = s.hst.copyPanic ++ [(r.val, b)]) ∧
  (∀ (s : State) (got : List (Nat × Nat)) (n : Nat),
    let u : State := (s.atRaw n).longGot got
    (u.hst.longReads ≠ [] → u.pastB0 625 = true →
      ∃ t : State, exec (.panicStart got n) s = .next t ∧ t.panic = true ∧ t.hst = { u.hst with renderPanic := true } ∧ t.cel.panicAt = (s.atRaw n).tm.raw) ∧
    (s.rd R.HST_PANIC_AGE ≠ 0 → u.hst.longReads ≠ [] → u.hst.longAt + us (s.rd R.HST_PANIC_AGE) < (s.atRaw n).tm.raw →
      ∃ t : State, exec (.longReadAge got n) s = .next t ∧ t.panic = true ∧ t.hst = { u.hst with agePanic := true }) ∧
    (u.pastB0 725 = true →
      let late : List (Nat × Nat) := u.hst.longReads.filter (fun x => !u.hst.lateTiles.contains x)
      ∃ t : State, exec (.longTileDeadline got n) s = .next t ∧ t.hst = { u.hst with lateTiles := u.hst.lateTiles ++ late } ∧
        t.rd R.HST_CNT_LONG_LATE_VALUE = min 0xFFFFFFFF (s.rd R.HST_CNT_LONG_LATE_VALUE + late.length))) ∧
  (∀ (s : State) (n p q : Nat), s.gated 3 = false → s.on R.HST_SCRUB_CTRL_ENABLE = true → s.hst.scrubAt = 0 → s.scrubFrom (s.rd R.HST_SCRUB_PTR_SLOT) = some p → q < 65536 →
    (s.scrubFrom (p + 1) = some q →
      ∃ t : State, exec (.scrubRead n) s = .next t ∧ t.rd R.HST_SCRUB_PTR_SLOT = q ∧ t.rd R.HST_SCRUB_PTR_PASSES = s.rd R.HST_SCRUB_PTR_PASSES ∧ t.mem = s.mem) ∧
    (s.scrubFrom (p + 1) = none → s.scrubFrom 0 = some q →
      ∃ t : State, exec (.scrubRead n) s = .next t ∧ t.rd R.HST_SCRUB_PTR_SLOT = q ∧ t.rd R.HST_SCRUB_PTR_PASSES = (s.rd R.HST_SCRUB_PTR_PASSES + 1) % 65536 ∧ t.mem = s.mem)) ∧
  (∀ (s : State) (o b : Nat), s.gated 5 = false → s.mix.odlyFail.contains (o, b) = false →
    ∃ t : State, exec (.odlyTileDeadline o b) s = .next t ∧ t.mix = { s.mix with odlyFail := s.mix.odlyFail ++ [(o, b)] } ∧
      t.rd R.MIX_CNT_ODLY_FAIL_VALUE = min 0xFFFFFFFF (s.rd R.MIX_CNT_ODLY_FAIL_VALUE + 1)) ∧
  (∀ (s : State) (o n : Nat) (x : Install), s.gated 5 = false → s.mix.installs = [x] → x.output = o → x.f = none →
    ∃ t : State, exec (.installSpectraDone o n) s = .next t ∧ t.mix.installs = [{ x with f := some (ceilDiv (s.atRaw n).nextBlock 32 * 32) }] ∧
      t.firSet o (s.inactiveSet o) = s.mix.staging.get stagingReset o) ∧
  (∀ (s : State) (f : IdentFrame) (d : Ident), s.rd R.SUP_STATUS_STAGE = 0 → s.mix.idents.find? (fun p => p.1 = f.slot.val) = some (f.slot.val, d) → d.accepts f = true →
    ∃ t : State, exec (.identFrame [f]) s = .next t ∧ t.free = s.free + 1 ∧
      t.mix.idents.get d f.slot.val = { d with n := min 4294967295 (d.n + 1), lastBlk := s.tm.blockCount,
                                               est := some (Config.identUpdate d.avg (match d.est with | some e => e + 1 | none => 0) s.free) })

/-- Frames, converters and microphones (R173–R193): over a TDM frame SD_OUT carries every slot of its port, a slave drives no FS and a master its own; an AES3 frame of good subframes gives its samples; a window of an unlocked converter takes the measured ratio, and frame sync lost
for 1 ms unlocks it (the feed it starts afresh is log entry 106); a pending gain applies between two samples of unlike sign, at no others, or at its timeout; the band of a detection code, the class, the fault and press-to-talk of a microphone follow their holds. -/
def Obligations.PortEvents : Prop :=
  (∀ (s : State) (p : Fin 16) (len : Nat) (w : List (Bool × Bool)) (up down n : Nat), s.gated 6 = false → s.on (R.TDM_CFG_EN p.val) = true →
    let line (bits : Nat) : Nat := max bits ((s.rd (R.TDM_CFG_SLOTS_M1 p.val) + 1) * (max 7 (s.rd (R.TDM_CFG_WIDTH_M1 p.val)) + 1))
    (s.on (R.TDM_CFG_MASTER p.val) = false →
      ∃ t : State, exec (.tdmFrame p len w up down n) s = .next t ∧ (t.tdmSt p.val).driven.length = line len ∧ (t.tdmSt p.val).fsOut = []) ∧
    (s.on (R.TDM_CFG_MASTER p.val) = true → s.clkLost 4 = false →
      ∃ t : State, exec (.tdmFrame p len w up down n) s = .next t ∧ (t.tdmSt p.val).driven.length = line (s.masterLen p.val) ∧
        (t.tdmSt p.val).fsOut = s.fsLevels p.val ∧ t.on (R.TDM_STATUS_LOCKED p.val) = true)) ∧
  (∀ (s : State) (i : Fin 4) (z : Bool) (a b : Subframe) (fs n : Nat), s.gated 7 = false → s.on (R.AES_ICFG_EN i.val) = true →
    a.preamble = true → a.biphase = false → a.parity = false → b.preamble = true → b.biphase = false → b.parity = false →
    ∃ t : State, exec (.aes3Frame i z a b fs n) s = .next t ∧ (t.aesSt i.val).prevA = signedOf 18 (a.word.toNat / 64) ∧
      (t.aesSt i.val).prevB = signedOf 18 (b.word.toNat / 64)) ∧
  (∀ (s : State) (aes : Bool) (port : Fin 16) (x y c : Nat) (ws : List (Nat × Nat)), s.gated 8 = false → c < 32 → s.ascFed c aes port.val = true →
    (s.feed aes port.val).windows = (x, y) :: ws → x < y → 7800 * (y - x) ≤ 512000000000 →
    512000000000 ≤ 196000 * (y - x) → (s.ascSt c).rho = none →
    ∃ t : State, exec (.asrcWindow aes port) s = .next t ∧
      t.ascSt c = ⟨some (rheDivNat (512000000000 * 2 ^ 32) ((y - x) * (if s.on (R.ASC_CFG_OUT_VOICE c) then 16000 else s.fs))), 0, (s.ascSt c).since⟩ ∧
      t.rd (R.ASC_FIN_FIN c) = rheDivNat 512000000000 (y - x) ∧ ∀ d, s.ascFed d aes port.val = false → t.ascSt d = s.ascSt d) ∧
  (∀ (s : State) (aes : Bool) (port : Fin 16) (c n : Nat), s.gated 8 = false → c < 32 → s.ascFed c aes port.val = true → s.on (R.ASC_STATUS_LOCKED c) = true →
    (∀ k, (s.feed aes port.val).seen = some k → k + us 1000 ≤ (s.atRaw n).now) →
    ∃ t : State, exec (.asrcFsTimeout aes port n) s = .next t ∧ (t.ascSt c).rho = none ∧ t.on (R.ASC_STATUS_LOCKED c) = false ∧ t.on (R.ASC_STATUS_ACQ c) = true ∧
      t.on (R.ASC_STATUS_UNLOCK c) = true ∧ t.rd (R.ASC_CNT_UNLOCK_VALUE c) = min 0xFFFFFFFF (s.rd (R.ASC_CNT_UNLOCK_VALUE c) + 1)) ∧
  (∀ (s : State) (m : Fin 4) (a b : BitVec 18), s.gated 9 = false → s.on (R.MIC_STATUS_GAIN_PEND m.val) = true →
    ((a.toInt < 0 ∧ 0 ≤ b.toInt) ∨ (0 ≤ a.toInt ∧ b.toInt < 0) →
      ∃ t : State, exec (.micZeroCrossing m a b) s = .next t ∧ t.rd (R.MIC_STATUS_GAIN_NOW m.val) = s.rd (R.MIC_CFG_GAIN m.val) ∧
        t.on (R.MIC_STATUS_GAIN_PEND m.val) = false ∧ ∀ p, p ≠ Part.regs → Part.same p s t) ∧
    ((a.toInt < 0 ↔ b.toInt < 0) → exec (.micZeroCrossing m a b) s = .next s)) ∧
  (∀ (s : State) (m : Fin 4) (n : Nat), s.gated 9 = false → s.on (R.MIC_STATUS_GAIN_PEND m.val) = true →
    (s.micSt m.val).gainAt + ms (min 64 (max 1 (s.rd (R.MIC_DET_CFG_ZC_TO m.val)))) ≤ (s.atRaw n).tm.raw →
    ∃ t : State, exec (.zcTimeout m n) s = .next t ∧ t.rd (R.MIC_STATUS_GAIN_NOW m.val) = s.rd (R.MIC_CFG_GAIN m.val) ∧
      t.on (R.MIC_STATUS_GAIN_PEND m.val) = false ∧ t.rd (R.MIC_CNT_ZC_TO_VALUE m.val) = min 0xFFFFFFFF (s.rd (R.MIC_CNT_ZC_TO_VALUE m.val) + 1)) ∧
  (∀ (s : State) (m : Fin 4) (c0 c1 c2 c3 : BitVec 12) (n : Nat), s.gated 9 = false → s.on (R.MIC_CFG_DET_EN m.val) = true → s.on (R.MIC_CFG_BIAS_EN m.val) = true →
    let code : Nat := rheDivNat (c0.toNat + c1.toNat + c2.toNat + c3.toNat) 4
    ∃ t : State, exec (.micDetectionSample m c0 c1 c2 c3 n) s = .next t ∧ t.rd (R.MIC_DET_VALUE m.val) = code ∧
      t.rd (R.MIC_STATUS_BAND m.val) = (if 3900 ≤ code then 5 else if 3000 ≤ code then 4 else if 1400 ≤ code then 3 else if 700 ≤ code then 2 else if 250 ≤ code then 1 else 0)) ∧
  (∀ (s : State) (m : Fin 4) (n r : Nat), s.gated 9 = false → s.detects m.val = true → (s.micSt m.val).bandAt = some r → r + ms 200 ≤ (s.atRaw n).tm.raw →
    s.rd (R.MIC_STATUS_CLASS m.val) = 0 → (s.rd (R.MIC_STATUS_BAND m.val) = 4 ∨ s.rd (R.MIC_STATUS_BAND m.val) = 2) →
    ∃ t : State, exec (.idleBandHold m n) s = .next t ∧ t.rd (R.MIC_STATUS_CLASS m.val) = (if s.rd (R.MIC_STATUS_BAND m.val) = 4 then 1 else 2) ∧
      t.on (R.MIC_STATUS_EVT m.val) = true) ∧
  (∀ (s : State) (m : Fin 4) (n r : Nat), s.gated 9 = false → s.detects m.val = true → (s.micSt m.val).bandAt = some r → r + ms 100 ≤ (s.atRaw n).tm.raw →
    s.rd (R.MIC_STATUS_CLASS m.val) ≠ 0 → s.rd (R.MIC_STATUS_BAND m.val) = 0 → s.on (R.MIC_STATUS_FAULT m.val) = false →
    ∃ t : State, exec (.faultBandHold m n) s = .next t ∧ t.on (R.MIC_STATUS_FAULT m.val) = true ∧ t.rd (R.MIC_STATUS_CAUSE m.val) = 2 ∧
      t.on (R.MIC_STATUS_PTT m.val) = false) ∧
  (∀ (s : State) (m : Fin 4) (n r : Nat), s.gated 9 = false → s.detects m.val = true → (s.micSt m.val).bandAt = some r →
    r + ms (max 1 (s.rd (R.MIC_DET_CFG_PTT_DB m.val))) ≤ (s.atRaw n).tm.raw → s.rd (R.MIC_STATUS_CLASS m.val) ≠ 0 →
    s.rd (R.MIC_STATUS_BAND m.val) = (if s.rd (R.MIC_STATUS_CLASS m.val) = 1 then 3 else 1) → s.on (R.MIC_STATUS_PTT m.val) = false →
    ∃ t : State, exec (.pressDebounce m n) s = .next t ∧ t.on (R.MIC_STATUS_PTT m.val) = true ∧
      t.rd (R.MIC_CNT_PTT_VALUE m.val) = min 0xFFFFFFFF (s.rd (R.MIC_CNT_PTT_VALUE m.val) + 1) ∧
      ∀ o ∈ s.boundTo m.val, ⟨(s.atRaw n).nextBlock, .gate o true⟩ ∈ t.sched) ∧
  (∀ (s : State) (m : Fin 4) (n r : Nat), s.gated 9 = false → s.on (R.MIC_STATUS_PTT m.val) = true → (s.micSt m.val).outAt = some r →
    r + ms (max 1 (s.rd (R.MIC_DET_CFG_REL_DB m.val))) ≤ (s.atRaw n).tm.raw →
    ∃ t : State, exec (.releaseDebounce m n) s = .next t ∧ t.on (R.MIC_STATUS_PTT m.val) = false ∧
      ∀ o ∈ s.boundTo m.val, ⟨(s.atRaw n).nextBlock, .gate o false⟩ ∈ t.sched)

/-- Power-stage events (R196, R200–R210): a period begins where its channel's last one ended, with no trip of its own; a trip pulls the gates low, counts, starts a fallback, and the eighth in a row stops the channel; a probe that reads sound leads to a restart, whose end runs the channel; a mean above 2 V stops it
for good; three lost windows of a loop line declare it open; starts and stops complete; a fault clears. -/
def Obligations.PowerEvents : Prop :=
  (∀ (s : State) (c : Fin 24) (bus : BitVec 14) (n b : Nat), s.gated 10 = false → s.on (R.PWS_STATUS_SWITCHING c.val) = true → (s.atRaw n).periodStart c.val = some b →
    ∃ t : State, exec (.switchingPeriod c bus false n) s = .next t ∧ (t.psSt c.val).tripped = false ∧ (t.psSt c.val).began = b ∧
      (t.psSt c.val).consec = (if (s.psSt c.val).tripped then (s.psSt c.val).consec else 0) ∧ t.on (R.PWS_STATUS_TRIP c.val) = (s.psSt c.val).tripped) ∧
  (∀ (s : State) (c : Fin 24) (n : Nat), s.gated 10 = false → s.on (R.PWS_STATUS_SWITCHING c.val) = true → (s.psSt c.val).tripped = false →
    s.tly.line = none → s.on (R.PWS_CFG_FB_EN c.val) = false →
    ((s.psSt c.val).consec < 7 →
      ∃ t : State, exec (.trip c n) s = .next t ∧ (t.psSt c.val).consec = (s.psSt c.val).consec + 1 ∧ (t.psSt c.val).tripped = true ∧
        (t.psSt c.val).legA = legLow ∧ (t.psSt c.val).legB = legLow ∧ t.psState c.val = s.psState c.val ∧
        t.rd (R.PWS_CNT_TRIP_VALUE c.val) = min 0xFFFFFFFF (s.rd (R.PWS_CNT_TRIP_VALUE c.val) + 1) ∧ ∀ k, k ≠ c.val → t.psSt k = s.psSt k) ∧
    ((s.psSt c.val).consec = 7 → s.psState c.val = stRunning → (s.psSt c.val).rampAt = none →
      ∃ t : State, exec (.trip c n) s = .next t ∧ t.psState c.val = stWait ∧ t.on (R.PWS_STATUS_SWITCHING c.val) = false ∧ t.on (R.PWS_FAULT_SHORT c.val) = true ∧
        (t.psSt c.val).stopAt = (s.atRaw n).tm.raw ∧ t.rd (R.PWS_CNT_STOP_VALUE c.val) = min 0xFFFFFFFF (s.rd (R.PWS_CNT_STOP_VALUE c.val) + 1))) ∧
  (∀ (s : State) (c : Fin 24) (n : Nat), s.gated 10 = false → s.psState c.val = stWait → (s.psSt c.val).stopAt + ms 500 ≤ (s.atRaw n).tm.raw → s.mayRun c.val = true →
    ∃ t : State, exec (.probeStart c n) s = .next t ∧ t.psState c.val = stProbe ∧ t.on (R.PWS_STATUS_SWITCHING c.val) = true) ∧
  (∀ (s : State) (c : Fin 24) (z : SenseSum) (n : Nat), s.gated 10 = false → s.psState c.val = stProbe → (s.psSt c.val).startAt + ms 100 ≤ (s.atRaw n).tm.raw →
    (s.zSound c.val z = true → (s.psSt c.val).probeTrip = false →
      ∃ t : State, exec (.probeEnd c z n) s = .next t ∧ t.psState c.val = stRestart ∧ t.rd (R.PWS_MEAS_Z c.val) = s.zSensed c.val z) ∧
    (s.zSound c.val z = false → (s.psSt c.val).fails = [] →
      ∃ t : State, exec (.probeEnd c z n) s = .next t ∧ t.psState c.val = stWait ∧ t.on (R.PWS_STATUS_SWITCHING c.val) = false ∧ t.attempts c.val = 1 ∧
        t.rd (R.PWS_CNT_PROBE_FAIL_VALUE c.val) = min 0xFFFFFFFF (s.rd (R.PWS_CNT_PROBE_FAIL_VALUE c.val) + 1))) ∧
  (∀ (s : State) (c : Fin 24) (n : Nat), s.gated 10 = false → s.psState c.val = stRestart → s.on (R.PWS_STATUS_FB_ACTIVE c.val) = false →
    (s.psSt c.val).doneAt + ms 204 ≤ (s.atRaw n).tm.raw →
    ∃ t : State, exec (.restartRampEnd c n) s = .next t ∧ t.psState c.val = stRunning ∧ (t.psSt c.val).rampAt = some (s.atRaw n).tm.raw) ∧
  (∀ (s : State) (c : Fin 24) (n r : Nat), s.gated 10 = false → s.on (R.PWS_STATUS_FB_ACTIVE c.val) = true → s.psState c.val = stRunning → (s.psSt c.val).stopped = false →
    (s.psSt c.val).tripAt = some r → r + ms 500 ≤ (s.atRaw n).tm.raw →
    ∃ t : State, exec (.principalTripFree c n) s = .next t ∧ t.on (R.PWS_STATUS_FB_ACTIVE c.val) = false ∧
      ∀ f, f < 24 → (s.psSt f).serves = some c.val → s.on (R.PWS_STATUS_SWITCHING f) = true → s.psState f ≠ stStopping →
        t.psState f = stStopping ∧ (t.psSt f).half = true) ∧
  (∀ (s : State) (c : Fin 24) (v : Int) (n : Nat), s.gated 10 = false → s.on (R.PWS_STATUS_SWITCHING c.val) = true → (s.psSt c.val).startAt + ms 100 ≤ (s.atRaw n).tm.raw →
    (s.psSt c.val).dcAt + ms 10 ≤ (s.atRaw n).tm.raw →
    let mv : Int := v * s.rd (R.PWS_CAL_V_CAL c.val)
    let mean : Nat := unsignedOf 16 (satBits 16 (rheDiv mv 24576000))
    (2000 * 256 * 9600 < mv.natAbs → s.tly.line = none → s.on (R.PWS_CFG_FB_EN c.val) = false →
      ∃ t : State, exec (.dcCheck c v n) s = .next t ∧ t.psState c.val = stStoppedDc ∧ t.on (R.PWS_STATUS_SWITCHING c.val) = false ∧ t.on (R.PWS_FAULT_DC c.val) = true ∧
        t.rd (R.PWS_MEAS_VMEAN c.val) = mean) ∧
    (mv.natAbs ≤ 2000 * 256 * 9600 →
      ∃ t : State, exec (.dcCheck c v n) s = .next t ∧ t.psState c.val = s.psState c.val ∧ t.rd (R.PWS_MEAS_VMEAN c.val) = mean ∧
        ∀ k, k ≠ c.val → t.psSt k = s.psSt k)) ∧
  (∀ (s : State) (c : Fin 24) (v : List (BitVec 14)) (n : Nat), s.gated 10 = false → s.rd (R.PWS_CFG_ROLE c.val) = 2 → s.psState c.val = stStandby →
    (s.psSt c.val).winAt + ms 2 ≤ (s.atRaw n).tm.raw → (s.atRaw n).lossHeld (c.val - 1) = false → (∀ p ∈ s.tly.sensAt, p.1 ≠ c.val) →
    let e : Nat × Nat := windowVolts (s.psSt (c.val - 1)) (s.psSt c.val).winAt
    let sensed : Nat := 16 * windowSense v * s.rd (R.PWS_CAL_V_CAL c.val) ^ 2 * e.2
    e.2 ≠ 0 → e.2 * (256 * s.rd (R.PWS_LOOP_VMIN c.val)) ^ 2 ≤ e.1 →
    (e.1 * v.length ≤ sensed → ∃ t : State, exec (.loopWindow c v n) s = .next t ∧ (t.psSt c.val).losses = 0 ∧ t.psState c.val = stStandby) ∧
    (sensed < e.1 * v.length → (s.psSt c.val).losses < 2 →
      ∃ t : State, exec (.loopWindow c v n) s = .next t ∧ (t.psSt c.val).losses = (s.psSt c.val).losses + 1 ∧ t.psState c.val = stStandby) ∧
    (sensed < e.1 * v.length → (s.psSt c.val).losses = 2 → s.mayRun c.val = true → s.on (R.PWS_FAULT_LATCH c.val) = false → s.on (R.PWS_FAULT_DC c.val) = false → s.tly.line = none →
      ∃ t : State, exec (.loopWindow c v n) s = .next t ∧ t.on (R.PWS_FAULT_OPEN c.val) = true ∧ t.on (R.PWS_STATUS_LOOP_DRIVE c.val) = true ∧
        t.psState c.val = stStarting ∧ (t.psSt c.val).half = true)) ∧
  (∀ (s : State) (c : Fin 24) (n : Nat), s.gated 10 = false → s.psState c.val = stStarting → s.startEnd c.val ≤ (s.atRaw n).tm.raw →
    ∃ t : State, exec (.startComplete c n) s = .next t ∧ t.psState c.val = stRunning ∧ (t.psSt c.val).doneAt = (s.atRaw n).tm.raw) ∧
  (∀ (s : State) (c : Fin 24) (n : Nat), s.gated 10 = false → s.psState c.val = stStopping → s.standsBy = false → s.rd (R.PWS_CFG_ROLE c.val) ≠ 2 →
    s.haltEnd c.val ≤ (s.atRaw n).tm.raw → (s.psSt c.val).again = false → s.on (R.PWS_FAULT_LATCH c.val) = false → s.on (R.PWS_FAULT_DC c.val) = false →
    ∃ t : State, exec (.stopComplete c n) s = .next t ∧ t.psState c.val = stOff ∧ t.on (R.PWS_STATUS_SWITCHING c.val) = false ∧ (t.psSt c.val).legA = legLow ∧ (t.psSt c.val).legB = legLow) ∧
  (∀ (s : State) (c : Fin 24) (n : Nat), s.gated 10 = false → s.on (R.PWS_FAULT_SHORT c.val) = true → s.psState c.val = stLatched → s.on (R.PWS_STATUS_FB_ACTIVE c.val) = false →
    s.on (R.PWS_FAULT_DC c.val) = false → s.mayRun c.val = true → s.tly.line = none →
    ∃ t : State, exec (.clearFaultShort c n) s = .next t ∧ t.on (R.PWS_FAULT_SHORT c.val) = false ∧ t.on (R.PWS_FAULT_LATCH c.val) = false ∧
      t.attempts c.val = 0 ∧ t.psState c.val = stStarting ∧ (t.psSt c.val).fails = []) ∧
  (∀ (s : State) (c : Fin 24) (n : Nat), s.gated 10 = false → s.on (R.PWS_FAULT_DC c.val) = true → s.psState c.val = stStoppedDc → s.on (R.PWS_STATUS_FB_ACTIVE c.val) = false →
    s.on (R.PWS_FAULT_LATCH c.val) = false → s.mayRun c.val = true → s.tly.line = none →
    ∃ t : State, exec (.clearFaultDc c n) s = .next t ∧ t.on (R.PWS_FAULT_DC c.val) = false ∧ t.psState c.val = stStarting) ∧
  (∀ (s : State) (c : Fin 24) (n : Nat), s.gated 10 = false → s.on (R.PWS_FAULT_OPEN c.val) = true → s.on (R.PWS_STATUS_LOOP_DRIVE c.val) = true →
    s.on (R.PWS_STATUS_SWITCHING c.val) = true → s.psState c.val ≠ stStopping → s.tly.line = none →
    ∃ t : State, exec (.clearFaultOpen c n) s = .next t ∧ t.on (R.PWS_FAULT_OPEN c.val) = false ∧ t.psState c.val = stStopping ∧ (t.psSt c.val).half = true)

/-- The line tests (R214, R218–R222): the window lists the channels without B-ends, and closing it empties the lists; a slot skips a channel in fault and else puts the pilot on; the correlation begins 110 ms in and its end judges |Z| against the
baseline; the pilot is gone 10 ms after the end; a program that is too loud defers; a capture takes its baselines. -/
def Obligations.LineTests : Prop :=
  (∀ (s : State) (n : Nat), s.gated 19 = false → (s.atRaw n).tallyOn = true → s.on R.TLY_CTRL_LINE_EN = true → s.locked = true → (s.atRaw n).inWindow = true →
    s.standsBy = false → s.on R.TLY_STATUS_IN_WINDOW = false →
    ∃ t : State, exec (.testWindowOpen n) s = .next t ∧ t.on R.TLY_STATUS_IN_WINDOW = true ∧ t.tly.retries = [] ∧
      t.tly.todo = (List.range 24).filter (fun c => bitOf (s.rd R.TLY_LINE_SEL_VALUE) c && s.rd (R.PWS_CFG_ROLE c) ≠ 2)) ∧
  (∀ (s : State) (n : Nat), s.gated 19 = false → s.on R.TLY_STATUS_IN_WINDOW = true → (s.atRaw n).inWindow = false →
    (s.tly.line = none →
      ∃ t : State, exec (.testWindowClose n) s = .next t ∧ t.on R.TLY_STATUS_IN_WINDOW = false ∧ t.tly.todo = [] ∧ t.tly.retries = []) ∧
    (∀ l : LineTest, s.tly.line = some l → l.ch < 24 → l.once = false → l.ended = none →
      ∃ t : State, exec (.testWindowClose n) s = .next t ∧ t.on R.TLY_STATUS_IN_WINDOW = false ∧ t.tly.line = some { l with ended := some (s.atRaw n).tm.raw } ∧ t.rd (R.TLY_RES_RESULT l.ch) = 5 ∧
        t.rd R.TLY_CNT_ABORT_VALUE = min 0xFFFFFFFF (s.rd R.TLY_CNT_ABORT_VALUE + 1))) ∧
  (∀ (s : State) (n c : Nat) (rest : List Nat), s.gated 19 = false → s.tallyOn = true → s.lineBusy = false → s.standsBy = false → s.tly.slotFree ≤ (s.atRaw n).tm.raw → s.tly.onceTodo = [] →
    s.on R.TLY_STATUS_IN_WINDOW = true → s.tly.todo = c :: rest → c < 24 →
    (s.lineSkips c = true →
      ∃ t : State, exec (.lineTestSlot n) s = .next t ∧ t.tly.todo = rest ∧ t.tly.line = none ∧ t.rd (R.TLY_RES_RESULT c) = 6) ∧
    (s.lineSkips c = false → (s.psState c = stOff → s.mayRun c = true) →
      ∃ t : State, exec (.lineTestSlot n) s = .next t ∧ t.tly.todo = rest ∧ t.tly.line = some ⟨c, (s.atRaw n).tm.raw, false, none, false⟩ ∧ t.tly.slotFree = (s.atRaw n).tm.raw + ms 4200 ∧
        (t.psSt c).pilot = some ((s.atRaw n).tm.raw, none) ∧ t.on R.TLY_STATUS_LINE_BUSY = true ∧ t.rd R.TLY_STATUS_CHANNEL = c ∧
        (s.psState c = stOff → t.psState c = stStarting ∧ (t.psSt c).half = true ∧ (t.psSt c).forTest = true))) ∧
  (∀ (s : State) (n c r : Nat), s.gated 19 = false → s.tallyOn = true → s.on R.TLY_STATUS_IN_WINDOW = true → s.tly.retries = [(c, r)] → r ≤ (s.atRaw n).tm.raw → c < 24 →
    (s.lineBusy = true → ∃ t : State, exec (.lineTestRetry n) s = .next t ∧ t.tly.retries = [] ∧ c ∈ t.tly.todo ∧ t.tly.line = s.tly.line) ∧
    (s.lineBusy = false → s.tly.slotFree ≤ (s.atRaw n).tm.raw → s.lineSkips c = false → s.psState c ≠ stOff →
      ∃ t : State, exec (.lineTestRetry n) s = .next t ∧ t.tly.retries = [] ∧ t.tly.line = some ⟨c, (s.atRaw n).tm.raw, false, none, false⟩)) ∧
  (∀ (s : State) (n : Nat) (l : LineTest), s.gated 19 = false → s.tly.line = some l → l.ended = none → l.slotAt + ms 110 ≤ (s.atRaw n).tm.raw →
    exec (.correlationStart n) s = .next { s.atRaw n with tly := { s.tly with line := some { l with corr := true } } }) ∧
  (∀ (s : State) (v : SenseSum) (farRe farIm : Int) (n : Nat) (l : LineTest), s.gated 19 = false → s.tly.line = some l → l.corr = true → l.ended = none → l.ch < 24 →
    l.slotAt + ms 4110 ≤ (s.atRaw n).tm.raw → s.rd (R.PWS_CFG_ROLE l.ch) ≠ 1 →
    let z : Nat × Nat := s.zFraction l.ch v
    let b : Nat := s.rd (R.TLY_BASE_Z l.ch)
    let lo : Nat := min 99 (max 1 (s.rd R.TLY_LINE_CFG_TOL_LO))
    let hi : Nat := max 1 (s.rd R.TLY_LINE_CFG_TOL_HI)
    ∃ t : State, exec (.correlationEnd v farRe farIm n) s = .next t ∧ t.tly.line = some { l with ended := some (s.atRaw n).tm.raw } ∧
      t.rd (R.TLY_RES_Z l.ch) = s.zSensed l.ch v ∧ t.rd (R.TLY_RES_PHASE l.ch) = (argZ v).toNat ∧
      t.rd (R.TLY_RES_RESULT l.ch) = (if s.on (R.TLY_BASE_VALID l.ch) = false then 9 else if 10000 * z.1 < z.2 * (b * (100 - lo)) ^ 2 then 1
        else if z.2 * (b * (100 + hi)) ^ 2 < 10000 * z.1 then 2 else 0)) ∧
  (∀ (s : State) (n r : Nat) (l : LineTest), s.gated 19 = false → s.tly.line = some l → l.ended = some r → r + ms 10 ≤ (s.atRaw n).tm.raw → l.ch < 24 →
    ∃ t : State, exec (.pilotRemoved n) s = .next t ∧ t.tly.line = none ∧ t.on R.TLY_STATUS_LINE_BUSY = false ∧ (t.psSt l.ch).pilot = none ∧
      t.psState l.ch = (if (s.psSt l.ch).forTest && s.on (R.PWS_STATUS_SWITCHING l.ch) then stStopping else s.psState l.ch)) ∧
  (∀ (s : State) (ch : Fin 24) (n : Nat) (l : LineTest), s.gated 19 = false → s.tly.capture = none → s.tly.line = some l → l.ch = ch.val → l.corr = true → l.ended = none → s.tooLoud ch.val = true →
    ∃ t : State, exec (.programLimitExceeded ch n) s = .next t ∧ t.tly.line = some { l with ended := some (s.atRaw n).tm.raw } ∧ t.rd (R.TLY_RES_RESULT ch.val) = 4 ∧
      t.rd R.TLY_CNT_DEFER_VALUE = min 0xFFFFFFFF (s.rd R.TLY_CNT_DEFER_VALUE + 1) ∧
      (s.on R.TLY_STATUS_IN_WINDOW = true → l.once = false → t.tly.retries = s.tly.retries ++ [(ch.val, (s.atRaw n).tm.raw + ms 60000)])) ∧
  (∀ (s : State) (meas : List LineMeas) (n : Nat) (c : Capture), s.gated 19 = false → s.tly.capture = some c → s.tly.line = none → (∀ x ∈ c.chs, x < 24) → c.ended = none →
    c.startAt + ms 24110 ≤ (s.atRaw n).tm.raw →
    ∃ t : State, exec (.baselineCaptureEnd meas n) s = .next t ∧ t.tly.capture = some { c with ended := some (s.atRaw n).tm.raw } ∧
      ∀ x ∈ c.chs,
        (∀ m : LineMeas, c.deferred.contains x = false → meas.find? (fun m => m.ch.val = x) = some m →
          t.on (R.TLY_BASE_VALID x) = true ∧ t.rd (R.TLY_BASE_Z x) = s.zSensed x m.sums ∧ t.rd (R.TLY_BASE_PHASE x) = (argZ m.sums).toNat) ∧
        (c.deferred.contains x = true → t.rd (R.TLY_BASE_w x) = s.rd (R.TLY_BASE_w x)))

/-- The other in-service tests (R224–R227): a core under test leaves rotation, halts in TAKE, runs its self-test, and returns or stays halted by its signature and its time; a slice that was dispatched counts its records and their failures, and a pass that it completes or that takes a day ends (the order of a pass is log entry 111); the Fold pattern
goes out every ten minutes and its errors are counted; a sense channel off its references is a fault. -/
def Obligations.SelfTests : Prop :=
  (∀ (s : State) (n c : Nat), s.gated 19 = false → s.tallyOn = true → s.on R.TLY_DRV_FAIL = false → s.tly.self = none → s.tly.asked = [] → s.on R.TLY_CTRL_DRV_EN = true →
    s.tly.selfAt + ms (1000 * max 1 (s.rd R.TLY_DRV_INTERVAL)) ≤ (s.atRaw n).tm.raw → s.nextCore (s.rd R.TLY_DRV_NEXT) = some c →
    ∃ t : State, exec (.selfTestStart n) s = .next t ∧ t.tly.self = some ⟨c, none⟩ ∧ t.inRot c = false ∧ ∀ k, t.core k = s.core k) ∧
  (∀ (s : State) (n c : Nat), s.gated 19 = false → s.tly.self = some ⟨c, none⟩ → c < 32 → (s.core c).waiting = some .take →
    ∃ t : State, exec (.selfTestHalt n) s = .next t ∧ t.tly.self = some ⟨c, some (s.atRaw n).tm.raw⟩ ∧ (t.core c).pc = Config.selfTestEntry.toNat ∧ (t.core c).waiting = none ∧
      t.on (R.DRV_BKPT_EN c 0) = true ∧ t.coreState c = 1 ∧ ∀ k, k ≠ c → t.core k = s.core k) ∧
  (∀ (s : State) (n c r : Nat), s.gated 19 = false → s.tly.self = some ⟨c, some r⟩ → c < 32 → (s.atRaw n).tm.raw ≤ r + ms 50 →
    s.coreState c = 3 → (s.core c).pc = Config.selfTestLast.toNat →
    let sig : Nat := s.load (0x30000000 + c * 0x40000 + Config.selfTestWord.toNat * 4) 4
    (sig = Config.selfTestSig.toNat →
      ∃ t : State, exec (.selfTestBreakpoint n) s = .next t ∧ t.tly.self = none ∧ t.rd R.TLY_DRV_SIG_VALUE = sig ∧ t.core c = coreReset ∧ t.inRot c = true) ∧
    (sig ≠ Config.selfTestSig.toNat →
      ∃ t : State, exec (.selfTestBreakpoint n) s = .next t ∧ t.tly.self = none ∧ t.rd R.TLY_DRV_SIG_VALUE = sig ∧ t.coreState c = 3 ∧ t.on R.TLY_DRV_FAIL = true ∧
        t.rd R.TLY_DRV_FAILED = c ∧ t.rd R.TLY_CNT_DRV_FAIL_VALUE = min 0xFFFFFFFF (s.rd R.TLY_CNT_DRV_FAIL_VALUE + 1))) ∧
  (∀ (s : State) (n c r : Nat), s.gated 19 = false → s.tly.self = some ⟨c, some r⟩ → c < 32 → r + ms 50 ≤ (s.atRaw n).tm.raw →
    ∃ t : State, exec (.selfTestTimeout n) s = .next t ∧ t.tly.self = none ∧ t.coreState c = 3 ∧ t.on R.TLY_DRV_FAIL = true ∧ t.rd R.TLY_DRV_FAILED = c) ∧
  (∀ (s : State) (k n : Nat), s.gated 19 = false → s.tly.posted = true → (∀ q d, s.idleQueue = some q → d ∈ s.queue q → d.entry ≠ (sliceDesc q).entry) →
    let left : List Nat := s.scrubList.filter (fun i => s.tly.dramCur ≤ i)
    (k < left.length →
      ∃ t : State, exec (.dramScrubSlice k n) s = .next t ∧ t.tly.posted = false ∧ t.rd R.TLY_DRAM_PTR_VALUE = (s.rd R.TLY_DRAM_PTR_VALUE + k) % 2 ^ 32 ∧
        t.tly.dramFails = s.tly.dramFails + ((left.take k).filter (fun i => !s.scrubOk i && decide (i < scrubMsg))).length ∧ t.hst = s.hst ∧ t.mix = s.mix) ∧
    (left.length ≤ k →
      ∃ t : State, exec (.dramScrubSlice k n) s = .next t ∧ t.tly.posted = false ∧ t.rd R.TLY_DRAM_PTR_VALUE = 0 ∧ t.tly.dramFails = 0 ∧ t.tly.dramCur = 0 ∧
        t.tly.dramAt = (s.atRaw n).tm.raw ∧ t.hst = s.hst ∧ t.mix = s.mix)) ∧
  (∀ (s : State) (n : Nat), s.gated 19 = false → s.tallyOn = true → s.on R.TLY_CTRL_DRAM_EN = true → s.tly.dramAt + ms 86400000 ≤ (s.atRaw n).tm.raw →
    ∃ t : State, exec (.dramScrubTimeout n) s = .next t ∧ t.rd R.TLY_DRAM_PTR_VALUE = 0 ∧ t.tly.dramFails = 0 ∧ t.tly.dramAt = (s.atRaw n).tm.raw ∧
      ∃ e ∈ t.tly.log, e.index = s.tly.next ∧ e.test = 4 ∧ e.result = 8) ∧
  (∀ (s : State) (n : Nat), s.gated 19 = false → s.tallyOn = true → s.on R.TLY_CTRL_FOLD_EN = true → s.on R.FLD_CTRL_EN = true →
    s.tly.foldAt + ms 600000 ≤ (s.atRaw n).tm.raw →
    ∃ t : State, exec (.foldPatternCheck n) s = .next t ∧ t.tly.foldOut = true ∧ ∀ p, p ∉ [Part.tm, .tly] → Part.same p s t) ∧
  (∀ (s : State) (e : BitVec 32), s.gated 19 = false → s.tly.foldOut = true →
    ∃ t : State, exec (.foldPatternResult e) s = .next t ∧ t.tly.foldOut = false ∧ t.rd R.TLY_FOLD_VALUE = e.toNat ∧
      t.rd R.TLY_CNT_FOLD_ERR_VALUE = min 0xFFFFFFFF (s.rd R.TLY_CNT_FOLD_ERR_VALUE + e.toNat) ∧ ∀ p, p ∉ [Part.regs, .tly] → Part.same p s t) ∧
  (∀ (s : State) (ch : Fin 50) (plus minus : Vector (BitVec 14) 4) (n : Nat), s.gated 11 = false → s.tallyOn = true → s.on R.TLY_CTRL_SNS_EN = true →
    (∀ p ∈ s.tly.sensAt, p.1 = ch.val → p.2 + ms 3600000 ≤ (s.atRaw n).tm.raw) →
    let ok : Bool := plus.all (fun c => decide ((c.toInt - 6143).natAbs ≤ s.rd R.TLY_SNS_TOL)) && minus.all (fun c => decide ((c.toInt + 6143).natAbs ≤ s.rd R.TLY_SNS_TOL))
    (ok = true → ∃ t : State, exec (.senseReferenceCheck ch plus minus n) s = .next t ∧ t.regs = s.regs) ∧
    (ok = false → ∃ t : State, exec (.senseReferenceCheck ch plus minus n) s = .next t ∧
      t.rd R.TLY_CNT_SNS_FAIL_VALUE = min 0xFFFFFFFF (s.rd R.TLY_CNT_SNS_FAIL_VALUE + 1) ∧
      (if ch.val < 32 then bitOf (t.rd R.TLY_SNS_FAULT_VALUE) ch.val else bitOf (t.rd R.TLY_SNS_FAULT2_VALUE) (ch.val - 32)) = true))

/-- Frames received (R235–R237, R239–R243): every frame takes a number and is counted; one for another address and one no filter takes are dropped and counted; PAUSE holds the port for its quanta, which expire; a frame for a disabled ring finds no buffer; a sound frame is
stored byte for byte in the buffer of the ring's next descriptor, which returns with FIRST, LAST, the filter and the length. A frame's FCS is the CRC-32 of IEEE 802.3, and the time-stamp is taken while the time unit is enabled (the model's choices: log entries 114 and 113). -/
def Obligations.FramesReceived : Prop :=
  (∀ (s : State) (m : Fin 3) (bs : List Byte) (e : RxErrors) (cap n : Nat), s.on (R.MAC_CTRL_RX_EN m.val) = true → s.gated (12 + m.val) = false →
    fieldAt bs 12 2 ≠ some 0x8808 →
    (s.acceptsAddr m.val bs = false →
      ∃ t : State, exec (.rxFrame m bs e cap n) s = .next t ∧ (t.mac m.val).seq = ((s.mac m.val).seq + 1) % 2 ^ 32 ∧
        t.rd (R.MAC_CNT_RX_ALL_VALUE m.val) = min 0xFFFFFFFF (s.rd (R.MAC_CNT_RX_ALL_VALUE m.val) + 1) ∧
        t.rd (R.MAC_CNT_RX_ADDR_DROP_VALUE m.val) = min 0xFFFFFFFF (s.rd (R.MAC_CNT_RX_ADDR_DROP_VALUE m.val) + 1) ∧ t.mem = s.mem) ∧
    (s.acceptsAddr m.val bs = true → s.steer m.val bs = none →
      ∃ t : State, exec (.rxFrame m bs e cap n) s = .next t ∧
        t.rd (R.MAC_CNT_RX_FILT_DROP_VALUE m.val) = min 0xFFFFFFFF (s.rd (R.MAC_CNT_RX_FILT_DROP_VALUE m.val) + 1) ∧ t.mem = s.mem)) ∧
  (∀ (s : State) (m : Fin 3) (bs : List Byte) (cap n q : Nat), s.on (R.MAC_CTRL_RX_EN m.val) = true → s.gated (12 + m.val) = false → 64 ≤ bs.length → fcsGood bs = true →
    fieldAt bs 12 2 = some 0x8808 → fieldAt bs 14 2 = some 1 → fieldAt bs 16 2 = some q → s.on (R.MAC_CTRL_RX_PAUSE m.val) = true →
    ∃ t : State, exec (.rxFrame m bs ⟨false, false⟩ cap n) s = .next t ∧ (t.mac m.val).paused = (s.atRaw n).tm.raw + ceilDiv (q * s.quantum m.val) 10 ∧
      t.rd (R.MAC_CNT_RX_PAUSE_VALUE m.val) = min 0xFFFFFFFF (s.rd (R.MAC_CNT_RX_PAUSE_VALUE m.val) + 1) ∧ t.mem = s.mem) ∧
  (∀ (s : State) (m : Fin 3) (bs : List Byte) (cap n r f : Nat), s.on (R.MAC_CTRL_RX_EN m.val) = true → s.gated (12 + m.val) = false → 64 ≤ bs.length → fcsGood bs = true →
    fieldAt bs 12 2 ≠ some 0x8808 → s.acceptsAddr m.val bs = true → s.steer m.val bs = some (r, f) → s.on (R.MAC_RING_W1_EN m.val r) = false →
    ∃ t : State, exec (.rxFrame m bs ⟨false, false⟩ cap n) s = .next t ∧
      t.rd (R.MAC_CNT_RX_NOBUF_VALUE m.val) = min 0xFFFFFFFF (s.rd (R.MAC_CNT_RX_NOBUF_VALUE m.val) + 1) ∧ t.mem = s.mem) ∧
  (∀ (s : State) (m : Fin 3) (bs : List Byte) (cap n r f : Nat), s.on (R.MAC_CTRL_RX_EN m.val) = true → s.gated (12 + m.val) = false → s.gated 3 = false →
    64 ≤ bs.length → fcsGood bs = true → bs.length ≤ s.maxlen m.val → bs.length ≤ s.bufBytes m.val r →
    fieldAt bs 12 2 ≠ some 0x8808 → s.acceptsAddr m.val bs = true → s.steer m.val bs = some (r, f) → s.on (R.MAC_RING_W1_EN m.val r) = true →
    s.on (R.MAC_CTRL_STRIP_FCS m.val) = false → s.on (R.MAC_RING_W1_STRIP_VLAN m.val r) = false →
    s.rd (R.MAC_RING_W3_HEAD m.val r) < s.rd (R.MAC_RING_W1_SIZE m.val r) → s.rd (R.MAC_RING_W1_SIZE m.val r) ≤ 4096 →
    let a : Nat := s.rxDesc m.val r (s.rd (R.MAC_RING_W3_HEAD m.val r))
    let b : Nat := s.load a 4
    0x20500000 ≤ a → a + 32 ≤ 0x20600000 → 0x20500000 ≤ b → b + bs.length ≤ 0x20600000 → (b + bs.length ≤ a ∨ a + 32 ≤ b) → bitOf (s.load (a + 4) 4) 31 = true →
    ∃ t : State, exec (.rxFrame m bs ⟨false, false⟩ cap n) s = .next t ∧ t.bytes b bs.length = bs ∧
      t.load (a + 4) 4 = 2 ^ 30 + 2 ^ 29 + b2n (isGroup bs) * 2 ^ 21 + f * 65536 + bs.length ∧ t.load (a + 8) 4 = bs.length ∧
      (s.on R.TSU_CTRL_ENABLE = true → t.load (a + 16) 8 = s.rxStamp m.val cap) ∧
      t.rd (R.MAC_RING_W3_HEAD m.val r) = (s.rd (R.MAC_RING_W3_HEAD m.val r) + 1) % s.rd (R.MAC_RING_W1_SIZE m.val r) ∧
      t.rd (R.MAC_CNT_RX_OK_VALUE m.val) = min 0xFFFFFFFF (s.rd (R.MAC_CNT_RX_OK_VALUE m.val) + 1) ∧
      ∀ x, (x < a ∨ a + 32 ≤ x) → (x < b ∨ b + bs.length ≤ x) → t.byte x = s.byte x) ∧
  (∀ (s : State) (m : Fin 3) (n : Nat), s.gated (12 + m.val) = false →
    ((s.mac m.val).paused ≤ (s.atRaw n).tm.raw → exec (.pauseExpiry m n) s = .next ((s.atRaw n).setMac m.val { s.mac m.val with paused := 0 })) ∧
    ((s.atRaw n).tm.raw < (s.mac m.val).paused → exec (.pauseExpiry m n) s = .next (s.atRaw n)))

/-- Frames sent, the link and MDIO (R234, R238, R246–R249, R255): a waiting stream packet starts, and so does the frame of an enabled queue's head, with its bytes; a frame that has left is counted, its descriptor returns and its time-stamp is queued, one without its data
is an underrun with its FCS inverted (log entries 113, 114); the link follows the PCS; an MDIO access is busy until it completes. -/
def Obligations.FramesSent : Prop :=
  (∀ (s : State) (m : Fin 3) (cap n : Nat) (b : List Byte) (rest : List (List Byte)), s.gated (12 + m.val) = false → (s.mac m.val).tx = none →
    s.on (R.MAC_STATUS_LINK m.val) = true → s.on (R.MAC_CTRL_TX_EN m.val) = true → (s.mac m.val).paused ≤ (s.atRaw n).tm.raw → (∀ q : Fin 8, s.on (R.MAC_TXQ_W1_EN m.val q.val) = false) →
    (s.mac m.val).strq = b :: rest →
    ∃ t : State, exec (.txFrameStart m cap n) s = .next t ∧ (t.mac m.val).strq = rest ∧
      (t.mac m.val).tx = some ⟨none, 0, 0, b, false, 0, s.txStamp m.val cap, false⟩) ∧
  (∀ (s : State) (m : Fin 3) (cap n : Nat), s.gated (12 + m.val) = false → (s.mac m.val).tx = none → s.on (R.MAC_STATUS_LINK m.val) = false →
    (∀ q : Fin 8, s.on (R.MAC_TXQ_W1_FLUSH_DOWN m.val q.val) = false) →
    ∃ t : State, exec (.txFrameStart m cap n) s = .next t ∧ (t.mac m.val).strq = [] ∧ (t.mac m.val).tx = none ∧
      t.rd (R.MAC_CNT_TX_DOWN_DROP_VALUE m.val) = min 0xFFFFFFFF (s.rd (R.MAC_CNT_TX_DOWN_DROP_VALUE m.val) + (s.mac m.val).strq.length)) ∧
  (∀ (s : State) (m : Fin 3) (q : Fin 8) (cap n : Nat), q.val < txQueues m.val → s.gated (12 + m.val) = false → s.gated 3 = false → (s.mac m.val).tx = none →
    s.on (R.MAC_STATUS_LINK m.val) = true → s.on (R.MAC_CTRL_TX_EN m.val) = true → (s.mac m.val).paused ≤ (s.atRaw n).tm.raw → (s.mac m.val).strq = [] →
    (∀ k : Fin 8, s.on (R.MAC_TXQ_W1_EN m.val k.val) = decide (k = q)) →
    let z : Nat := s.rd (R.MAC_TXQ_W1_SIZE m.val q.val)
    let h : Nat := s.rd (R.MAC_TXQ_W3_HEAD m.val q.val)
    let a : Nat := s.txDesc m.val q.val h
    let w : Nat := s.load (a + 4) 4
    let b : Nat := s.load a 4
    2 ≤ z → z ≤ 4096 → h < z → s.rd (R.MAC_TXQ_W2_TAIL m.val q.val) = (h + 1) % z → 0x20500000 ≤ a → a + 16 ≤ 0x20600000 →
    bitOf w 31 = true → bitOf w 29 = true → bitOf w 28 = false → bitOf w 26 = false → 60 ≤ w % 16384 → w % 16384 + 4 ≤ s.maxlen m.val →
    0x20500000 ≤ b → b + w % 16384 ≤ 0x20600000 →
    ∃ t : State, exec (.txFrameStart m cap n) s = .next t ∧ t.rd (R.MAC_TXQ_W3_HEAD m.val q.val) = (h + 1) % z ∧ t.mem = s.mem ∧
      (t.mac m.val).tx = some ⟨some q.val, h, 1, s.bytes b (w % 16384), bitOf w 27, s.load (a + 8) 4 % 256, s.txStamp m.val cap, false⟩) ∧
  (∀ (s : State) (m : Fin 3) (f : TxFrame), s.gated (12 + m.val) = false → (s.mac m.val).tx = some f → f.queue = none → f.tsReq = false → f.lost = false →
    (∃ t : State, exec (.txFrameEnd m false) s = .next t ∧ (t.mac m.val).tx = none ∧ (t.mac m.val).txOct = (s.mac m.val).txOct + f.bytes.length + 4 ∧
      (t.mac m.val).wire = f.bytes ++ fcsOf f.bytes ∧
      t.rd (R.MAC_CNT_TX_OK_VALUE m.val) = min 0xFFFFFFFF (s.rd (R.MAC_CNT_TX_OK_VALUE m.val) + 1) ∧ t.mem = s.mem) ∧
    (∃ t : State, exec (.txFrameEnd m true) s = .next t ∧ (t.mac m.val).tx = none ∧ (t.mac m.val).wire = f.bytes ++ (fcsOf f.bytes).map (fun b => ~~~ b) ∧
      t.rd (R.MAC_CNT_TX_UNDERRUN_VALUE m.val) = min 0xFFFFFFFF (s.rd (R.MAC_CNT_TX_UNDERRUN_VALUE m.val) + 1))) ∧
  (∀ (s : State) (m : Fin 3) (f : TxFrame) (q : Fin 8), s.gated (12 + m.val) = false → s.gated 3 = false → (s.mac m.val).tx = some f → f.queue = some q.val → f.descs = 1 →
    f.tsReq = true → f.lost = false → s.on R.TSU_CTRL_ENABLE = true → s.tm.txq.length = 3 → (s.txq m.val).length < 64 →
    let a : Nat := (s.txDesc m.val q.val (f.first % max 1 (s.rd (R.MAC_TXQ_W1_SIZE m.val q.val))) + 4) % 2 ^ 32
    0x20500000 ≤ a → a + 4 ≤ 0x20600000 →
    ∃ t : State, exec (.txFrameEnd m false) s = .next t ∧ t.load a 4 = s.load a 4 % 2 ^ 31 ∧ t.txq m.val = s.txq m.val ++ [⟨f.raw, f.tag, q.val⟩]) ∧
  (∀ (s : State) (m : Fin 3) (l : LinkState), s.gated (12 + m.val) = false → (s.mac m.val).tx = none →
    let up : Bool := s.linkUp m.val l
    ∃ t : State, exec (.linkChange m l) s = .next t ∧ t.on (R.MAC_STATUS_LINK m.val) = up ∧
      (s.on (R.MAC_STATUS_LINK m.val) ≠ up → t.on (R.MAC_STATUS_LINK_CHG m.val) = true) ∧
      t.rd (R.MAC_CNT_LINK_DOWN_VALUE m.val) =
        (if s.on (R.MAC_STATUS_LINK m.val) = true ∧ up = false then min 0xFFFFFFFF (s.rd (R.MAC_CNT_LINK_DOWN_VALUE m.val) + 1) else s.rd (R.MAC_CNT_LINK_DOWN_VALUE m.val))) ∧
  (∀ (s : State) (m : Fin 3) (l : LinkState),
    s.linkUp m.val l = (if s.rd (R.MAC_MODE_MODE m.val) = 3 then false else if m.val = 2 then (if s.on (R.MAC_MODE_INBAND 2) then l.lock else l.pin)
      else if s.rd (R.MAC_MODE_MODE m.val) = 0 then l.lock && !l.hiBer
      else if s.rd (R.MAC_MODE_MODE m.val) = 2 ∧ s.on (R.MAC_MODE_AN_EN m.val) = true then l.lock && l.anOk else l.lock)) ∧
  (∀ (s : State) (w : BitVec 32), s.gated 14 = false → s.on (R.MAC_MDIO_BUSY 2) = false →
    ∃ t : State, exec (.mdioTransfer w) s = .next t ∧ t.on (R.MAC_MDIO_BUSY 2) = true ∧ t.rd (R.MAC_MDIO_OP 2) = bitsOf w.toNat 29 28 ∧
      t.rd (R.MAC_MDIO_PHYAD 2) = bitsOf w.toNat 27 23 ∧ t.rd (R.MAC_MDIO_REG 2) = bitsOf w.toNat 22 18 ∧ t.rd (R.MAC_MDIO_DATA 2) = bitsOf w.toNat 15 0) ∧
  (∀ (s : State) (d : BitVec 16), s.gated 14 = false → s.on (R.MAC_MDIO_BUSY 2) = true →
    ∃ t : State, exec (.mdioComplete d) s = .next t ∧ t.on (R.MAC_MDIO_BUSY 2) = false ∧
      t.rd (R.MAC_MDIO_DATA 2) = (if 2 ≤ s.rd (R.MAC_MDIO_OP 2) then d.toNat else s.rd (R.MAC_MDIO_DATA 2)))

/-- The stream engine's receive side (R263, R266): a discarded descriptor goes back to the port; a packet that matches a context and passes its checks is counted and marks the context as receiving; a context that hears nothing for 10 ms is down. -/
def Obligations.StreamsReceived : Prop :=
  (∀ (s : State) (m : Fin 2) (r : Fin 16) (n : Nat), s.streamsRun = true → s.on (R.MAC_RING_W1_OWNER m.val r.val) = true → s.on (R.MAC_RING_W1_EN m.val r.val) = true →
    s.gated 3 = false →
    let i : Nat := (s.mac m.val).taken.get 0 r.val
    let a : Nat := s.rxDesc m.val r.val i
    let w : Nat := s.load (a + 4) 4
    let b : Nat := s.load a 4
    let bs : List Byte := s.bytes b (w % 16384)
    0x20500000 ≤ a → a + 32 ≤ 0x20600000 → bitOf w 31 = false →
    (bitOf w 28 = true →
      ∃ t : State, exec (.streamPacket m r n) s = .next t ∧ t.load (a + 4) 4 = 2 ^ 31 ∧
        (t.mac m.val).taken.get 0 r.val = (i + 1) % max 1 (s.rd (R.MAC_RING_W1_SIZE m.val r.val)) ∧ t.strx = s.strx ∧
        t.rd R.STR_CNT_NOCTX_COUNT = s.rd R.STR_CNT_NOCTX_COUNT) ∧
    (bitOf w 28 = false → bitOf w 30 = true → bitOf w 29 = true → 0x20500000 ≤ b → b + w % 16384 ≤ 0x20600000 →
      (udpAt bs = none →
        ∃ t : State, exec (.streamPacket m r n) s = .next t ∧ t.load (a + 4) 4 = 2 ^ 31 ∧
          t.rd R.STR_CNT_NOCTX_COUNT = min 0xFFFFFFFF (s.rd R.STR_CNT_NOCTX_COUNT + 1)) ∧
      (∀ (u c : Nat) (k : RtpPkt), udpAt bs = some u → s.matchCtx m.val bs u = some c → s.rtpFor c bs u = some k →
        ∃ t : State, exec (.streamPacket m r n) s = .next t ∧ t.on (R.STR_RX_STATUS_RECV c) = true ∧ t.on (R.STR_RX_STATUS_LEG_DOWN c) = false ∧
          (t.strx c).validAt = some (s.atRaw n).tm.raw ∧ t.rd (R.STR_RX_CNT_COUNT c 0) = min 0xFFFFFFFF (s.rd (R.STR_RX_CNT_COUNT c 0) + 1)))) ∧
  (∀ (s : State) (c : Fin 128) (n : Nat), s.streamsRun = true → s.on (R.STR_RX_W0_EN c.val) = true → (∀ v, (s.strx c.val).validAt = some v → v + ms 10 ≤ (s.atRaw n).tm.raw) →
    ∃ t : State, exec (.legDown c n) s = .next t ∧ t.on (R.STR_RX_STATUS_LEG_DOWN c.val) = true ∧ t.on (R.STR_RX_STATUS_RECV c.val) = false ∧
      ∀ p, p ∉ [Part.tm, .regs] → Part.same p s t)

/-- The time unit's events (R251, R252, R255–R260, R312): the servo steps once before the first lock, else moves its integral part and its rate and locks after four good offsets; without offsets it holds over at its integral part; a raw time converts; a transmit time-stamp is read
once; the time port follows its announce messages; 1PPS; a scheduled action is done at its time. -/
def Obligations.TimeEvents : Prop :=
  (∀ (s : State) (th : BitVec 32) (n : Nat), s.gated 15 = false → s.on R.TSU_CTRL_ENABLE = true →
    let a : State := s.atRaw n
    (s.locked = false → s.rd R.TSU_STEP_THR_VALUE < th.toInt.natAbs →
      ∃ t : State, exec (.servoStep th n) s = .next t ∧ t.tm.ofs = (((s.tm.ofs : Int) - rheDiv th.toInt 2) % (2 ^ 64 : Nat)).toNat ∧ t.on R.TSU_STATUS_STEPPED = true ∧
        t.rd R.TSU_CNT_STEP_COUNT = min 0xFFFFFFFF (s.rd R.TSU_CNT_STEP_COUNT + 1) ∧ t.tm.servoI = 0 ∧ t.tm.servoGood = 0 ∧ t.tm.rate = s.tm.rate) ∧
    (th.toInt.natAbs ≤ s.rd R.TSU_STEP_THR_VALUE →
      let m : Int := rheDiv ((min 1000 (max 1 (s.rd R.TSU_SERVO_LIM_RATE_MAX)) : Nat) * 2 ^ 40 : Int) 1000000
      let i : Int := clampI (-m) m (s.tm.servoI - rheDiv (th.toInt * s.rd R.TSU_SERVO_KI_VALUE) 65536)
      ∃ t : State, exec (.servoStep th n) s = .next t ∧ t.tm.servoI = i ∧ t.tm.rate = clampI (-m) m (i - rheDiv (th.toInt * s.rd R.TSU_SERVO_KP_VALUE) 65536) ∧
        t.tm.ofs = a.now ∧ t.tm.anc = a.tm.raw ∧ t.now = a.now ∧
        (th.toInt.natAbs ≤ s.rd R.TSU_SERVO_THR_VALUE → 3 ≤ s.tm.servoGood → t.on R.TSU_STATUS_LOCKED = true ∧ t.locked = true ∧ t.on R.TSU_STATUS_HOLDOVER = false))) ∧
  (∀ (s : State) (n : Nat), s.gated 15 = false → s.on R.TSU_CTRL_ENABLE = true → s.on R.TSU_STATUS_HOLDOVER = false →
    s.tm.lastOffsetRaw + ms (max 1 (s.rd R.TSU_SERVO_LIM_HOLD_TO)) ≤ (s.atRaw n).tm.raw →
    ∃ t : State, exec (.holdoverTimeout n) s = .next t ∧ t.tm.rate = s.tm.servoI ∧ t.on R.TSU_STATUS_HOLDOVER = true ∧ t.on R.TSU_STATUS_LOCKED = false ∧
      t.rd R.TSU_CNT_UNLOCK_COUNT = min 0xFFFFFFFF (s.rd R.TSU_CNT_UNLOCK_COUNT + 1)) ∧
  (∀ (s : State) (lo : BitVec 32), s.gated 15 = false →
    ∃ t : State, exec (.conversion lo) s = .next t ∧
      t.rd64 R.TSU_CONV_OUT_LO_VALUE R.TSU_CONV_OUT_HI_VALUE = s.tm.corrected (lo.toNat + 2 ^ 32 * s.rd R.TSU_CONV_IN_HI_VALUE) ∧ ∀ p, p ≠ Part.regs → Part.same p s t) ∧
  (∀ (s : State) (m : Fin 3) (e : TxStamp) (es : List TxStamp), s.gated 15 = false → s.txq m.val = e :: es →
    ∃ t : State, exec (.txqRead m) s = .next t ∧ t.txq m.val = es ∧ t.rd64 (R.TSU_TXQ_TS_LO_TS m.val) (R.TSU_TXQ_TS_HI_TS m.val) = e.raw % 2 ^ 64 ∧
      t.on (R.TSU_TXQ_INFO_VALID m.val) = true ∧ t.rd (R.TSU_TXQ_INFO_QUEUE m.val) = e.queue % 8 ∧ t.rd (R.TSU_TXQ_INFO_TS_TAG m.val) = e.tag % 256) ∧
  (∀ (s : State) (n : Nat), s.fwRuns = true → s.ptp.inUse = s.ptp.primary → s.ptp.backup ≠ 255 →
    exec (.announceTimeout n) s = .next { s.atRaw n with ptp := { s.ptp with inUse := s.ptp.backup } }) ∧
  (∀ (s : State) (n : Nat), s.fwRuns = true →
    exec (.primaryTimePortReturn n) s = .next { s.atRaw n with ptp := { s.ptp with inUse := s.ptp.primary } }) ∧
  (∀ (s : State) (n : Nat), s.gated 15 = false →
    ∃ t : State, exec (.ppsInput n) s = .next t ∧ t.rd64 R.TSU_PPS_CAP_LO_VALUE R.TSU_PPS_CAP_HI_VALUE = (s.atRaw n).now) ∧
  (∀ (s : State) (n : Nat), s.gated 15 = false →
    ∃ t : State, exec (.ppsOutput n) s = .next t ∧ t.tm.ppsHigh = (s.on R.TSU_CTRL_PPS_OUT_EN && decide ((s.atRaw n).now % 500000000 < 50000000)) ∧
      ∀ p, p ≠ Part.tm → Part.same p s t) ∧
  (∀ (s : State) (i n : Nat) (x : TimedAct), s.acts[i]? = some x → x.time ≤ (s.atRaw n).now →
    (x.action = 2 → ∃ t : State, exec (.scheduledAction i n) s = .next t ∧ t.acts = s.acts.eraseIdx i ∧ t.gpio = s.gpio) ∧
    (x.action ≠ 2 →
      exec (.scheduledAction i n) s = .next { s.atRaw n with acts := s.acts.eraseIdx i, gpio := setBits s.gpio x.gpio x.gpio (if x.action = 0 then 1 else 0) }))

/-- The Bellwether and the mirror's paths (R314–R320, R325–R327): a first disagreement is counted and waits for resynchronisation, a second within 1 s removes the core, one more stops the vote; a heartbeat period turns the pin and sends a HEARTBEAT, after a HELLO in arbitration; frames and pins keep a path up and three misses on it alone take it
down, and with both paths lost the standby takes over; arbitration follows the partner's role, the pin and the timeouts; a handover starts the channels two blocks and ends three blocks after its boundary, with the roles exchanged (at 48 kHz the rule's 1,333.33 µs and 2,000.00 µs: log entry 118). That a standby in safe stop does not take over is log entry 120, that both paths go down uncounted with both lost is log entry 132. -/
def Obligations.MirrorLinks : Prop :=
  (∀ (s : State) (c : Fin 3) (k : BitVec 2) (ad : BitVec 27) (n : Nat), s.gated 22 = false →
    (s.rd R.BWT_STATUS_MODE = 0 → k.toNat ≠ 3 → c.val ∉ s.bwt.pend → s.bwt.firstAt.get 0 c.val = 0 →
      ∃ t : State, exec (.disagreement c k ad n) s = .next t ∧ t.bwt.pend = s.bwt.pend ++ [c.val] ∧ t.on R.BWT_STATUS_RESYNC_PEND = true ∧ t.rd R.BWT_STATUS_LAST = c.val ∧
        t.rd R.BWT_STATUS_MODE = 0 ∧ t.rd (R.BWT_CNT_DIS_COUNT c.val) = min 0xFFFFFFFF (s.rd (R.BWT_CNT_DIS_COUNT c.val) + 1)) ∧
    (∀ r, s.rd R.BWT_STATUS_MODE = 0 → k.toNat ≠ 3 → c.val ∉ s.bwt.pend → s.bwt.firstAt.get 0 c.val = r + 1 → (s.atRaw n).tm.raw < r + ms 1000 →
      ∃ t : State, exec (.disagreement c k ad n) s = .next t ∧ t.rd R.BWT_STATUS_MODE = 1 ∧ t.rd R.BWT_STATUS_REMOVED = c.val) ∧
    (s.rd R.BWT_STATUS_MODE = 0 → k.toNat = 3 → ∃ t : State, exec (.disagreement c k ad n) s = .next t ∧ t.rd R.BWT_STATUS_MODE = 2) ∧
    (s.rd R.BWT_STATUS_MODE = 1 → s.rd R.BWT_STATUS_REMOVED ≠ c.val → ∃ t : State, exec (.disagreement c k ad n) s = .next t ∧ t.rd R.BWT_STATUS_MODE = 2 ∧ t.fwRuns = false)) ∧
  (∀ (s : State) (c : BitVec 2) (n : Nat), s.gated 22 = false → s.on R.SEC_STATUS_MAINT = true →
    exec (.faultInjection c n) s = .next { s.atRaw n with bwt := { s.bwt with inject := if c.toNat < 3 then some c.toNat else none } }) ∧
  (∀ (s : State) (n : Nat), s.gated 17 = false → s.on R.FLD_CTRL_EN = true → s.mir.beat ≠ some ((s.atRaw n).now / ms 1) →
    ∃ (t : State) (f : FoldOut), exec (.heartbeatPeriod n) s = .next t ∧ t.mir.hbo = !s.mir.hbo ∧ t.mir.frames.head? = some f ∧
      f.kind = 2 ∧ f.seq = s.mir.seqs.get 0 2 ∧ t.mir.seqs.get 0 2 = (f.seq + 1) % 2 ^ 32 ∧ t.regs = s.regs ∧
      (s.role = roleArb → ∃ g : FoldOut, t.mir.frames.tail.head? = some g ∧ g.kind = 1 ∧ g.seq = s.mir.seqs.get 0 1 ∧ t.mir.seqs.get 0 1 = (g.seq + 1) % 2 ^ 32) ∧
      (s.role ≠ roleArb → t.mir.frames.tail = s.mir.frames.take 15)) ∧
  (∀ (s : State) (f : FoldFrame) (n : Nat), s.gated 17 = false → s.on R.FLD_CTRL_EN = true → s.role = roleArb →
    ∃ t : State, exec (.hello f n) s = .next t ∧ t.mir.partner = some ⟨f.role.toNat, f.stop, f.prefer, f.id, f.took⟩ ∧
      t.role = (if f.role = 1 ∨ f.role = 3 then roleStandby
        else if f.role = 0 then (if (if s.on R.FLD_CTRL_PREFER_ACTIVE = f.prefer then decide (s.otp.devId < f.id) else s.on R.FLD_CTRL_PREFER_ACTIVE) then roleActive else roleStandby)
        else roleArb)) ∧
  (∀ (s : State) (f : FoldFrame) (n : Nat), s.gated 17 = false → s.on R.FLD_CTRL_EN = true → f.major < 256 → s.role = roleStandby →
    (∃ t : State, exec (.heartbeat f n) s = .next t ∧ t.rd R.FLD_PARTNER_MAJOR = f.major ∧ t.on R.FLD_STATUS_PARTNER_STOP = f.stop ∧ t.on R.FLD_STATUS_PARTNER_DEG = f.degraded ∧
      t.on R.FLD_STATUS_VER_ERR = decide (f.major ≠ s.mir.major) ∧ t.mir.foldAt = some (s.atRaw n).now ∧ t.role = roleStandby) ∧
    (f.stop = true → s.on R.FLD_STATUS_PARTNER_STOP = false → s.fwRuns = true → s.mir.change = none →
      ∃ t : State, exec (.heartbeat f n) s = .next t ∧ t.mir.change = some ⟨s.nextBlock + 1, false, true⟩)) ∧
  (∀ (s : State) (n l : Nat), s.gated 17 = false → s.on R.FLD_CTRL_EN = true → s.mir.pinAt = some l → (s.atRaw n).now ≤ l + us 1250 → s.mir.pinRun = 2 →
    ∃ t : State, exec (.hbPinEdge n) s = .next t ∧ t.mir.pinAt = some (s.atRaw n).now ∧ t.on R.FLD_STATUS_HB_UP = true) ∧
  (∀ (s : State) (n l : Nat), s.gated 17 = false → s.on R.FLD_CTRL_EN = true → s.mir.foldAt = some l → l + us 3250 ≤ (s.atRaw n).now →
    (∀ j, s.mir.pinAt = some j → (s.atRaw n).now < j + us 3250 → s.on R.FLD_STATUS_FOLD_UP = true →
      ∃ t : State, exec (.heartbeatMiss true n) s = .next t ∧ t.mir.partner = none ∧ t.mir.change = s.mir.change ∧ t.on R.FLD_STATUS_FOLD_UP = false ∧ t.on R.FLD_STATUS_PATH_CHG = true ∧
        t.rd R.FLD_CNT_MISS_FOLD_COUNT = min 0xFFFFFFFF (s.rd R.FLD_CNT_MISS_FOLD_COUNT + 1) ∧ t.mir.inRow = 0) ∧
    (∀ j, s.mir.pinAt = some j → j + us 3250 ≤ (s.atRaw n).now → s.role = roleStandby → s.fwRuns = true → s.mir.change = none →
      ∃ t : State, exec (.heartbeatMiss true n) s = .next t ∧ t.mir.partner = none ∧ t.on R.FLD_STATUS_FOLD_UP = false ∧ t.on R.FLD_STATUS_HB_UP = false ∧
        t.mir.change = some ⟨s.nextBlock, false, false⟩)) ∧
  (∀ (s : State) (high : Bool) (n : Nat), s.gated 17 = false →
    ∃ t : State, exec (.actiChange high n) s = .next t ∧ t.on R.FLD_STATUS_ACTI = high ∧
      t.role = (if high = true ∧ s.on R.FLD_CTRL_EN = true ∧ s.role = roleArb then roleStandby else s.role)) ∧
  (∀ (s : State) (n : Nat), s.role = roleArb → s.mir.partner = none → s.mir.releaseAt + ms 400 ≤ (s.atRaw n).tm.raw →
    ∃ t : State, exec (.arbitrationTimeout n) s = .next t ∧
      t.role = (if s.on R.FLD_CTRL_PREFER_ACTIVE = false ∧ s.on R.FLD_STATUS_ACTI = true then roleStandby else roleActive) ∧
      (t.role = roleActive → t.on R.FLD_STATUS_ACTO = true)) ∧
  (∀ (s : State) (n : Nat), s.gated 17 = false →
    ∃ t : State, exec (.foldBlockLockLoss true n) s = .next t ∧ t.rd R.FLD_CNT_LINK_DOWN_COUNT = min 0xFFFFFFFF (s.rd R.FLD_CNT_LINK_DOWN_COUNT + 1)) ∧
  (∀ (s : State) (e : BitVec 32) (n : Nat), s.gated 17 = false → s.on R.FLD_CTRL_EN = true →
    exec (.pattern e n) s = .next { s.atRaw n with mir := { s.mir with patErr := e.toNat } }) ∧
  (∀ (s : State) (n k : Nat), s.mir.change = some ⟨k, false, true⟩ → s.role = roleActive → s.tly.line = none → s.on R.PWS_CTRL_ENABLE = true →
    (s.atRaw n).tBlock (k + 2) ≤ (s.atRaw n).now →
    ∃ t : State, exec (.handoverChannelStart n) s = .next t ∧ ∀ c, c < 24 → s.on (R.PWS_CFG_EN c) = true → s.rd (R.PWS_CFG_ROLE c) ≠ 2 →
      s.on (R.PWS_FAULT_LATCH c) = false → s.on (R.PWS_FAULT_DC c) = false →
      t.psState c = stStarting ∧ (t.psSt c).half = true ∧ (t.psSt c).mirrorIn = true) ∧
  (∀ (s : State) (n k : Nat) (b : Bool), s.mir.change = some ⟨k, true, b⟩ → s.role = roleLeaving → s.tly.line = none → (s.atRaw n).tBlock (k + 3) ≤ (s.atRaw n).now →
    ∃ t : State, exec (.handoverEnd n) s = .next t ∧ t.role = roleStandby ∧ t.on R.FLD_STATUS_ACTO = false ∧ t.mir.change = none ∧
      ∀ c, c < 24 → s.on (R.PWS_CFG_EN c) = true → t.psState c = stHeld) ∧
  (∀ (s : State) (n k : Nat), s.mir.change = some ⟨k, false, true⟩ → s.role = roleActive → (s.atRaw n).tBlock (k + 3) ≤ (s.atRaw n).now →
    ∃ t : State, exec (.handoverEnd n) s = .next t ∧ t.role = roleActive ∧ t.on R.FLD_STATUS_ACTO = true ∧ t.mir.change = none)

/-- The state copies (R321, R322): the active unit fixes the copy of the block in progress, once, from 125 µs before its end on, and keeps what did not fit for later ones; the standby commits a good copy of its block and counts its run, and discards a bad one whole; a bulk transfer delivers its items. -/
def Obligations.MirrorCopies : Prop :=
  (∀ (s : State) (room n : Nat), s.gated 17 = false → s.sendsCopies = true → (s.atRaw n).nextBoundary ≤ (s.atRaw n).now + us 125 →
    (∀ c : CopyOut, s.mir.sent = some c → c.k ≠ s.tm.blockCount) →
    ∃ (t : State) (c : CopyOut), exec (.copyFix room n) s = .next t ∧ t.mir.sent = some c ∧ c.k = s.tm.blockCount ∧
      c.backlog = decide (room < (s.mir.backlog ++ s.changedItems).length) ∧ t.mir.backlog = (s.mir.backlog ++ s.changedItems).drop room ∧ CopyItem.blockCount c.k ∈ c.items ∧
      (∀ x ∈ (s.mir.backlog ++ s.changedItems).take room, x ∈ c.items) ∧ t.geo = s.geo ∧ t.mix = s.mix) ∧
  (∀ (s : State) (f : FoldFrame) (c : CopyIn) (n : Nat), s.gated 17 = false → s.on R.FLD_CTRL_EN = true → s.on R.FLD_STATUS_VER_ERR = false → s.role = roleStandby →
    f.major = s.mir.major → f.last = true → f.switch = false → f.final = false →
    (∀ j, c.good = true → f.block = s.tm.blockCount → s.mir.lastCopy = some j → c.k = j + 1 →
      ∃ t : State, exec (.copy f c n) s = .next t ∧ t.mir.lastCopy = some c.k ∧
        t.mir.inRow = (if c.backlog = false ∧ s.mir.bulkIn = false then min 64 (s.mir.inRow + 1) else 0) ∧ (∀ p g, c.items = [.gain p g] → t.gainPath p = g) ∧
        (∀ o x, c.items = [.obj o x] → t.obj o = x)) ∧
    (c.good = false ∨ f.block ≠ s.tm.blockCount →
      ∃ t : State, exec (.copy f c n) s = .next t ∧ t.mir.inRow = 0 ∧ t.mir.lastCopy = s.mir.lastCopy ∧ t.geo = s.geo ∧ t.mix = s.mix ∧ t.live = s.live ∧
        t.rd R.FLD_CNT_COPY_FAIL_COUNT = min 0xFFFFFFFF (s.rd R.FLD_CNT_COPY_FAIL_COUNT + 1))) ∧
  (∀ (s : State) (f : FoldFrame) (items : List BulkItem) (more : Bool) (n : Nat), s.gated 17 = false → s.on R.FLD_CTRL_EN = true → s.role = roleStandby → f.major = s.mir.major →
    ∃ t : State, exec (.bulk f items more n) s = .next t ∧ t.mir.bulkIn = more ∧ (more = true → t.mir.inRow = 0) ∧
      (∀ i e, items = [.enrol i e] → t.enrol.get none i = e) ∧ (∀ o k x, items = [.fir o k x] → t.mix.firs.get firReset (2 * o + k) = x))

/-- The DRAM controller (R332, R335, R337–R343): a request of a hardware reader in range joins the queue at its place and one out of range is an error; one of the window waits at its port for a grant; a lone request is served and counted, its row stays by its hint; rows close when idle; refreshes are postponed under panic, eight at most; training and
retraining follow their steps and their time limit (that CH1 leaves service with CH0 is log entry 131); an idle channel powers down in SLEEP. -/
def Obligations.DramController : Prop :=
  (∀ (s : State) (x : DramArr) (n : Nat), s.gated 4 = false → s.clkLost 3 = false →
    (x.cls ≠ 4 → s.on R.CEL_STATUS_SR = false → x.addr < s.dramSize →
      ∃ (t : State) (r : DramReq), exec (.dramRequest [x] 0 0 n) s = .next t ∧ t.cel.queue = s.cel.queue ++ [r] ∧ r.at_ = (s.atRaw n).tm.raw ∧
        (r.ch, r.unit) = ((s.dramPlace x.addr).1, (s.dramPlace x.addr).2 / 64) ∧ r.write = x.write ∧ r.rt = x.rt ∧ t.regs = s.regs ∧ t.mem = s.mem) ∧
    (x.cls ≠ 4 → s.on R.CEL_STATUS_SR = false → s.dramSize ≤ x.addr → s.on R.FAB_ERRINFO_VALID = false →
      ∃ t : State, exec (.dramRequest [x] 0 0 n) s = .next t ∧ t.cel.queue = s.cel.queue ∧ t.on R.FAB_ERRINFO_VALID = true ∧ t.rd R.FAB_ERRINFO_KIND = 0 ∧
        t.rd R.FAB_ERRLOG_ADDR = x.addr % 2 ^ 32 ∧ t.rd R.FAB_CNT_ERR_VALUE = min 0xFFFFFFFF (s.rd R.FAB_CNT_ERR_VALUE + 1)) ∧
    (x.cls = 4 →
      (∃ t : State, exec (.dramRequest [x] 0 0 n) s = .next t ∧ t.cel = s.cel ∧ (t.fabAt fabDram).waiting = (s.fabAt fabDram).waiting ++ [⟨x.master, 0, some x⟩] ∧ t.regs = s.regs) ∧
      ((s.fabAt fabDram).waiting = [] → s.on R.CEL_STATUS_SR = false → x.addr < s.dramSize →
        ∃ (t : State) (r : DramReq), exec (.dramRequest [x] 1 0 n) s = .next t ∧ t.cel.queue = s.cel.queue ++ [r] ∧ r.cls = 4 ∧ (t.fabAt fabDram).waiting = [] ∧
          (t.fabAt fabDram).last = some x.master ∧ t.mem = s.mem))) ∧
  (∀ (s : State) (r : DramReq) (n : Nat), s.gated 4 = false → s.cel.queue = [r] → (s.panic = false ∨ r.rt = true) →
    let k : Nat := bankKey r.ch r.bank
    ∃ t : State, exec (.dramRequest [] 0 1 n) s = .next t ∧ t.cel.queue = [] ∧ t.cel.served.head? = some r ∧ t.cel.rows.get 0 k = (if r.hint then r.row + 1 else 0) ∧
      t.rd (if s.cel.rows.get 0 k = r.row + 1 then R.CEL_CNT_ROWHIT_VALUE else R.CEL_CNT_ROWMISS_VALUE) =
        min 0xFFFFFFFF (s.rd (if s.cel.rows.get 0 k = r.row + 1 then R.CEL_CNT_ROWHIT_VALUE else R.CEL_CNT_ROWMISS_VALUE) + 1) ∧
      t.rd (if r.write then R.CEL_CNT_WR_VALUE else R.CEL_CNT_RD_VALUE) = min 0xFFFFFFFF (s.rd (if r.write then R.CEL_CNT_WR_VALUE else R.CEL_CNT_RD_VALUE) + 1) ∧ t.mem = s.mem) ∧
  (∀ (s : State) (c : Fin 2) (b n : Nat), s.gated 4 = false → 256 * 500 ≤ ((s.atRaw n).tm.raw - s.cel.rowAt.get 0 (bankKey c.val b)) * 533 →
    ∃ t : State, exec (.rowIdleClose c b n) s = .next t ∧ t.cel.rows.get 0 (bankKey c.val b) = 0 ∧ t.cel.queue = s.cel.queue ∧ t.regs = s.regs) ∧
  (∀ (s : State) (c : Fin 2) (n : Nat), s.gated 4 = false → s.on R.CEL_STATUS_SR = false →
    ∃ t : State, exec (.refresh c n) s = .next t ∧
      t.cel.postponed.get 0 c.val = (if s.panic then max (s.cel.postponed.get 0 c.val) (min 8 (s.cel.postponed.get 0 c.val + 1)) else 0) ∧
      t.rd R.CEL_CNT_REF_POST_VALUE = (if s.panic = true ∧ s.cel.postponed.get 0 c.val < 8 then min 0xFFFFFFFF (s.rd R.CEL_CNT_REF_POST_VALUE + 1) else s.rd R.CEL_CNT_REF_POST_VALUE)) ∧
  (∀ (s : State) (d0 d1 : Bool) (n : Nat), s.gated 4 = false →
    ∃ t : State, exec (.dqsOscillatorRead d0 d1 n) s = .next t ∧
      t.cel.delays.get 0 0 = s.cel.delays.get 0 0 + (if d0 = true ∧ bitOf (s.rd R.CEL_STATUS_TRAINED) 0 = true then 1 else 0) ∧
      t.cel.delays.get 0 1 = s.cel.delays.get 0 1 + (if d1 = true ∧ bitOf (s.rd R.CEL_STATUS_TRAINED) 1 = true then 1 else 0)) ∧
  (∀ (s : State) (n : Nat), s.gated 4 = false → s.cel.retrain = none → s.celChannels ≠ 0 →
    ∃ t : State, exec (.trainReq n) s = .next t ∧ t.on R.CEL_STATUS_RETRAIN_BUSY = true ∧
      t.cel.retrain = some ⟨(s.atRaw n).tm.raw, if bitOf (s.rd R.CEL_STATUS_TRAINED) 0 then 0 else 1, [], none⟩) ∧
  (∀ (s : State) (c : Fin 2) (n : Nat) (x : Retrain), s.gated 4 = false → s.cel.retrain = some x → x.ch = c.val → s.panic = false → x.last.get 0 c.val = 0 →
    (∃ t : State, exec (.retrainStep c false n) s = .next t ∧ t.cel.delays.get 0 c.val = s.cel.delays.get 0 c.val + 1 ∧
      t.cel.retrain = some { x with last := x.last.set 0 c.val ((s.atRaw n).tm.raw + 1) }) ∧
    (c.val = 0 → bitOf (s.rd R.CEL_STATUS_TRAINED) 1 = true → ∃ t : State, exec (.retrainStep c true n) s = .next t ∧ t.cel.retrain = some { x with ch := 1 }) ∧
    (c.val = 1 → x.port = none → ∃ t : State, exec (.retrainStep c true n) s = .next t ∧ t.cel.retrain = none ∧ t.on R.CEL_STATUS_RETRAIN_BUSY = false ∧
      t.rd R.CEL_CNT_RETRAIN_VALUE = min 0xFFFFFFFF (s.rd R.CEL_CNT_RETRAIN_VALUE + 1))) ∧
  (∀ (s : State) (n : Nat) (x : Retrain), s.gated 4 = false → s.cel.retrain = some x → x.since + ms 60 ≤ (s.atRaw n).tm.raw →
    ∃ t : State, exec (.retrainTimeout n) s = .next t ∧ t.cel.retrain = none ∧ t.on R.CEL_STATUS_RETRAIN_BUSY = false) ∧
  (∀ (s : State) (a b : Bool) (n : Nat), s.gated 4 = false → s.rd R.CEL_STATUS_TRAINED = 0 → s.rd R.CEL_STATUS_FAIL = 0 → s.celCfgOk = true →
    ∃ t : State, exec (.trainingComplete a b n) s = .next t ∧
      t.rd R.CEL_STATUS_TRAINED = (if a then 1 else 0) + (if s.rd R.CEL_CFG_CH_EN = 3 ∧ a = true ∧ b = true then 2 else 0) ∧
      t.rd R.CEL_STATUS_FAIL = (if a then 0 else 1) + (if s.rd R.CEL_CFG_CH_EN = 3 ∧ b = false then 2 else 0)) ∧
  (∀ (s : State) (c : Fin 2) (n : Nat), s.gated 4 = false → s.rd R.CLK_MODE_CUR = 1 → (∀ r ∈ s.cel.queue, r.ch ≠ c.val) →
    max 1 (s.rd R.CEL_SCHED_PD_IDLE) * 500 ≤ ((s.atRaw n).tm.raw - s.cel.idleAt.get 0 c.val) * 533 →
    ∃ t : State, exec (.powerDownIdle c n) s = .next t ∧ t.cel.asleep.get 0 c.val = 1 ∧ t.regs = s.regs)

/-- The matrix (R14, R53, R328–R332, R334): reading the error register clears it; SYS_REMAP swaps until it is locked; a write of a master at a port where none waits reaches the landing memory, is discarded in the ring area, is an error where nothing stands, where the master may not go, or where it is narrow, and else
follows the access types of the register's bits. -/
def Obligations.BusAccesses : Prop :=
  (∀ s : State, ∃ t : State, exec .fabErrinfoRead s = .next t ∧ t.rd R.FAB_ERRINFO_w = 0 ∧ t.rd R.FAB_ERRLOG_ADDR = 0 ∧ ∀ p, p ≠ Part.regs → Part.same p s t) ∧
  (∀ (s : State) (w : BitVec 32),
    ∃ t : State, exec (.sysRemapSwap w) s = .next t ∧ t.on R.SYS_REMAP_SWAP = (if s.on R.SYS_REMAP_LOCK then s.on R.SYS_REMAP_SWAP else w.getLsbD 0) ∧
      t.on R.SYS_REMAP_LOCK = (s.on R.SYS_REMAP_LOCK || w.getLsbD 1) ∧ ∀ p, p ≠ Part.regs → Part.same p s t) ∧
  (∀ (s : State) (m : Fin 12) (c : Fin 32) (a w : BitVec 32) (n : Nat), m.val ≠ 6 → a.toNat % 4 = 0 → s.rests = true → s.clk.held = false →
    (s.gated 3 = false → (s.fabAt 2).waiting = [] → 0x20500000 ≤ a.toNat → a.toNat < 0x20600000 → ∀ l : BitVec 4,
      ∃ t : State, exec (.registerWrite m c a w l n) s = .next t ∧ t.regs = s.regs ∧ (t.fabAt 2).last = some m.val ∧
        (∀ i : Fin 4, t.byte (a.toNat + i.val) = if l.getLsbD i.val then BitVec.ofNat 8 (w.toNat >>> (8 * i.val)) else s.byte (a.toNat + i.val)) ∧
        ∀ x, (x < a.toNat ∨ a.toNat + 4 ≤ x) → t.byte x = s.byte x) ∧
    (s.gated 3 = false → (s.fabAt 2).waiting = [] → 0x20000000 ≤ a.toNat → a.toNat < 0x20500000 → ∀ l : BitVec 4,
      ∃ t : State, exec (.registerWrite m c a w l n) s = .next t ∧ ∀ p, p ∉ [Part.tm, .fab] → Part.same p s t) ∧
    (s.on R.FAB_ERRINFO_VALID = false → 0x50000000 ≤ a.toNat → a.toNat < 0x80000000 → ∀ l : BitVec 4,
      ∃ t : State, exec (.registerWrite m c a w l n) s = .next t ∧ t.on R.FAB_ERRINFO_VALID = true ∧ t.rd R.FAB_ERRINFO_KIND = (if a.toNat < 0x500B0000 then 1 else 0) ∧
        t.on R.FAB_ERRINFO_WRITE = true ∧ t.rd R.FAB_ERRINFO_MASTER = m.val ∧ t.rd R.FAB_ERRINFO_CORE = (if m.val < 4 then c.val else 0) ∧ t.rd R.FAB_ERRLOG_ADDR = a.toNat ∧
        t.rd R.FAB_CNT_ERR_VALUE = min 0xFFFFFFFF (s.rd R.FAB_CNT_ERR_VALUE + 1) ∧ t.mem = s.mem)) ∧
  (∀ (s : State) (c : Fin 32) (a w : BitVec 32) (n : Nat), a.toNat % 4 = 0 → s.rests = true → s.fwRuns = true → s.gated 22 = false →
    s.gated 19 = false → s.bwt.inject = none → (s.fabAt 21).waiting = [] → 0x50070000 ≤ a.toNat → a.toNat < 0x50080000 →
    (∀ l : BitVec 4, l ≠ 15#4 → s.on R.FAB_ERRINFO_VALID = false →
      ∃ t : State, exec (.registerWrite 6 c a w l n) s = .next t ∧ t.rd R.FAB_ERRINFO_KIND = 3 ∧ t.getReg a.toNat = s.getReg a.toNat) ∧
    (∀ r : RegRow, rowOf a.toNat = some r → r.rws = 0 →
      let k : Nat := (r.rw ||| r.rwl) &&& 0xFFFFFFFF
      ∃ t : State, exec (.registerWrite 6 c a w 15#4 n) s = .next t ∧
        t.getReg a.toNat = ((s.regSeen a.toNat &&& (0xFFFFFFFF ^^^ k)) ||| (w.toNat &&& k)) &&& (0xFFFFFFFF ^^^ (r.w1c &&& w.toNat &&& 0xFFFFFFFF)) ∧
        (∀ b, b ≠ a.toNat → t.getReg b = s.getReg b) ∧ ∀ p, p ∉ [Part.tm, .regs, .fab] → Part.same p s t) ∧
    (rowOf a.toNat = none →
      ∃ t : State, exec (.registerWrite 6 c a w 15#4 n) s = .next t ∧ ∀ p, p ∉ [Part.tm, .fab] → Part.same p s t))

/-- Resets, the boot path and the supply (R369, R372, R380, R381, R385–R388, R390, R394, R397, R410): a reset keeps only what is not volatile and records its cause; the release boots the first slot that passes its checks and burns its rollback, or stops with both failed; mains, brownout
and an evacuation trigger. -/
def Obligations.ResetAndSupply : Prop :=
  (∀ (s : State) (st : Straps) (n : Nat),
    let left (o : Host.Outcome State Fault Refusal) (cause : Nat) : Prop :=
      ∃ t : State, o = .next t ∧ t.straps = st ∧ t.rd R.SYS_BOOT_CAUSE = cause ∧ t.rd R.SYS_BOOT_STATE = 0 ∧ t.mem = [] ∧ t.tm = State.reset.tm ∧ t.sessions = [] ∧
        t.otp = s.otp ∧ t.msgs = s.msgs ∧ t.flash.slotA = s.flash.slotA ∧ t.flash.slotB = s.flash.slotB ∧ t.rd R.SEC_ROLLBACK_VALUE = s.otp.rollback % 128 ∧
        t.on R.SEC_STATUS_FIELD = s.otp.inField
    left (exec (.powerOnReset st n) s) 0 ∧ left (exec (.externalReset st n) s) 1 ∧ left (exec (.railFail st n) s) 0 ∧
      (∀ l : LongOp, s.devBusy = some l → l.op = 0x0F04 → l.since + ms 10 ≤ (s.atRaw n).tm.raw → left (exec (.resetDelay st n) s) 2) ∧
      (s.rd R.SUP_STATUS_STAGE = 5 → left (exec (.brownoutRecovery st n) s) 3)) ∧
  (∀ (s : State) (a b : SlotCheck) (n : Nat), s.rd R.SYS_BOOT_STATE = 0 →
    let x : SlotCheck := slotSeen (if s.firstSlot then b else a) (s.slotBytes s.firstSlot)
    (s.headerOk x = true → x.sections = true →
      ∃ t : State, exec (.supervisorRelease a b false n) s = .next t ∧ t.rd R.SYS_BOOT_STATE = 1 ∧ t.on R.SEC_STATUS_SLOT = s.firstSlot ∧ t.on R.SYS_REMAP_SWAP = true ∧
        t.on R.SYS_REMAP_LOCK = true ∧ t.rd R.SEC_FW_VERSION_VALUE = x.version.toNat ∧ t.rd R.SEC_FWKEY_USED = x.key.toNat ∧ t.otp.rollback = max s.otp.rollback x.rollback ∧
        t.on R.SEC_STATUS_CFG_DEFAULT = true) ∧
    ((s.headerOk (slotSeen a s.flash.slotA) && a.sections) = false → (s.headerOk (slotSeen b s.flash.slotB) && b.sections) = false → ∀ c : Bool,
      ∃ t : State, exec (.supervisorRelease a b c n) s = .next t ∧ t.rd R.SYS_BOOT_STATE = 3 ∧ t.on R.SEC_STATUS_FALLBACK = true ∧
        t.rd R.SEC_CNT_BOOT_FAIL_VALUE = min 0xFFFFFFFF (s.rd R.SEC_CNT_BOOT_FAIL_VALUE + 2) ∧ t.otp = s.otp ∧ t.mem = s.mem)) ∧
  (∀ (s : State) (n : Nat), ∃ t : State, exec (.setField n) s = .next t ∧ t.otp = { s.otp with inField := true } ∧ t.on R.SEC_STATUS_FIELD = true) ∧
  (∀ (s : State) (high : Bool) (n : Nat),
    (high ≠ s.on R.SUP_CTRL_MAINS_POL →
      ∃ t : State, exec (.mainsDebounce high n) s = .next t ∧ t.on R.SUP_STATUS_MAINS = true ∧ t.sup = { s.sup with lost := false }) ∧
    (high = s.on R.SUP_CTRL_MAINS_POL → s.sup.lost = false →
      ∃ t : State, exec (.mainsDebounce high n) s = .next t ∧ t.on R.SUP_STATUS_MAINS = false ∧ t.sup = { s.sup with lost := true } ∧
        t.rd R.SUP_CNT_MAINS_LOST_VALUE = min 0xFFFFFFFF (s.rd R.SUP_CNT_MAINS_LOST_VALUE + 1))) ∧
  (∀ (s : State) (n : Nat), s.rd R.SUP_STATUS_STAGE ≠ 5 → s.tly.line = none →
    ∃ t : State, exec (.brownout n) s = .next t ∧ t.rd R.SUP_STATUS_STAGE = 5 ∧ t.on R.SUP_STATUS_BROWNOUT = true ∧ t.on R.SUP_STATUS_DWELL = false ∧
      t.rd R.SUP_CNT_BROWNOUT_VALUE = min 0xFFFFFFFF (s.rd R.SUP_CNT_BROWNOUT_VALUE + 1) ∧ t.rd64 R.SUP_STAGE_BLK_LO_VALUE R.SUP_STAGE_BLK_HI_VALUE = s.tm.blockCount % 2 ^ 64 ∧
      ∀ c, c < 24 →
        (s.on (R.PWS_CFG_EN c) = true → s.psState c ∈ [stStarting, stRunning, stProbe, stRestart] → s.on (R.PWS_STATUS_SWITCHING c) = true →
          t.psState c = stStopping ∧ (t.psSt c).shed = true) ∧
        (s.on (R.PWS_CFG_EN c) = true → s.psState c = stWait → s.on (R.PWS_STATUS_SWITCHING c) = false → s.standsBy = false → s.rd (R.PWS_CFG_ROLE c) ≠ 2 →
          s.on (R.PWS_FAULT_LATCH c) = false → s.on (R.PWS_FAULT_DC c) = false → t.psState c = stOff ∧ (t.psSt c).shed = true) ∧
        (s.psState c ∉ [stStarting, stRunning, stWait, stProbe, stRestart] → t.psState c = s.psState c)) ∧
  (∀ (s : State) (k : Fin 4) (n : Nat) (g : Trigger), s.gated 21 = false → s.triggers[k.val]? = some g → s.fwRuns = true → s.armed = true → s.msgEvac g.msg = true →
    ∃ t : State, exec (.evacuationTrigger k n) s = .next t ∧ t.plays.getLast? = some ⟨g.msg, 32 * s.nextBlock, none, true, 1, 0⟩ ∧ ∀ p, p ∉ [Part.tm, .plays] → Part.same p s t)

/-- Clock sources (R349–R355): RC settles in 20 µs and starts what it held; a large trim change unsettles it; a trim interval measures its error and moves one step, and two without the reference stop the trim (until CLK_RC_TRIM is written: log entry 123); the XO is armed after its start delay and fails after four; a window outside 3 %, a missing edge and a lost lock fail a source,
and a failed system clock moves its domains to RC; the firmware returns them once their sources have passed 1,024 windows in a row. -/
def Obligations.ClockSources : Prop :=
  (∀ (s : State) (n : Nat), s.clk.rcAt + us 20 ≤ (s.atRaw n).tm.raw →
    ∃ t : State, exec (.rcReady n) s = .next t ∧ t.on R.CLK_STAT_RC_READY = true ∧ t.clk.held = false ∧ (s.clk.held = true → t.on R.CLK_STAT_ON_RC = true)) ∧
  (∀ (s : State) (w : BitVec 16) (n : Nat),
    ∃ t : State, exec (.trimWrite w n) s = .next t ∧ t.rd R.CLK_RC_TRIM_w = w.toNat ∧
      (if 16 < (((w.toNat % 1024 : Nat) : Int) - (s.rd R.CLK_RC_TRIM_TRIM : Int)).natAbs then t.on R.CLK_STAT_RC_READY = false ∧ t.clk.rcAt = (s.atRaw n).tm.raw
        else t.on R.CLK_STAT_RC_READY = s.on R.CLK_STAT_RC_READY ∧ t.clk = { s.clk with absent := 0 })) ∧
  (∀ s : State, 2 ≤ s.clk.absent → ∀ x : Option Nat, exec (.rcTrimInterval x) s = .next s) ∧
  (∀ s : State, s.rd R.CLK_RC_TRIM_SRC ≠ 0 → s.clk.absent < 2 →
    exec (.rcTrimInterval none) s = .next { s with clk := { s.clk with absent := s.clk.absent + 1 } } ∧
    ∀ k : Nat,
      let e : Nat := if s.rd R.CLK_RC_TRIM_SRC = 1 then 2097152 else if s.rd R.CLK_RC_TRIM_SRC = 2 then 50000000 else 5000000
      let d : Int := (k : Int) - e
      ∃ t : State, exec (.rcTrimInterval (some k)) s = .next t ∧ t.clk.absent = 0 ∧ t.rd R.CLK_RC_MEAS_VALUE = unsignedOf 16 (satBits 16 (rheDiv (d * 10000) e)) ∧
        t.rd R.CLK_RC_TRIM_TRIM = (if d.natAbs * 4000 ≤ e then s.rd R.CLK_RC_TRIM_TRIM else if 0 < d then s.rd R.CLK_RC_TRIM_TRIM - 1 else min 1023 (s.rd R.CLK_RC_TRIM_TRIM + 1))) ∧
  (∀ (s : State) (n : Nat), s.clk.xoAt + ms (2 * 4 ^ s.straps.xo.toNat) ≤ (s.atRaw n).tm.raw →
    exec (.xoStartDelay n) s = .next { s.atRaw n with clk := { s.clk with xoArmed := true } }) ∧
  (∀ (s : State) (n : Nat), s.clk.xoAt + 4 * ms (2 * 4 ^ s.straps.xo.toNat) ≤ (s.atRaw n).tm.raw → bitOf (s.rd R.CLK_MON_GOOD) 0 = false →
    ∃ t : State, exec (.xoStartTimeout n) s = .next t ∧ bitOf (t.rd R.CLK_STAT_FAIL) 0 = true) ∧
  (∀ (s : State) (c : ClkSrc) (k e n : Nat), (c = .xo → s.clk.xoArmed = true) → s.rd R.CLK_MODE_CUR ≠ 2 →
    let b : Nat := match c with | .xo => 0 | .pllA => 1 | .pllB => 2 | .cellarPll => 3 | .audioPll => 4 | .serdes => 5
    let failed (o : Host.Outcome State Fault Refusal) : Prop :=
      ∃ t : State, o = .next t ∧ bitOf (t.rd R.CLK_STAT_FAIL) b = true ∧ bitOf (t.rd R.CLK_MON_GOOD) b = false ∧
        t.rd R.CLK_CNT_MON_FAIL_VALUE = min 0xFFFFFFFF (s.rd R.CLK_CNT_MON_FAIL_VALUE + 1) ∧
        ((c = .xo ∨ c = .pllA ∨ c = .pllB) → s.on R.CLK_STAT_RC_READY = true → s.on R.CLK_STAT_ON_RC = false → s.clk.held = false →
          t.on R.CLK_STAT_ON_RC = true ∧ t.on R.TSU_STATUS_HOLDOVER = true)
    (100 * ((k : Int) - (e : Int)).natAbs ≤ 3 * e →
      ∃ t : State, exec (.monitorWindow c k e n) s = .next t ∧ bitOf (t.rd R.CLK_MON_GOOD) b = true ∧ t.clk.good.get 0 b = s.clk.good.get 0 b + 1 ∧ t.rd R.CLK_STAT_FAIL = s.rd R.CLK_STAT_FAIL) ∧
    (3 * e < 100 * ((k : Int) - (e : Int)).natAbs → failed (exec (.monitorWindow c k e n) s)) ∧
    failed (exec (.monitorNoEdge c n) s) ∧ (c ≠ .xo → c ≠ .serdes → failed (exec (.pllUnlock c n) s))) ∧
  (∀ s : State,
    ((∀ b ∈ s.clk.lost, b < 3 → 1024 ≤ s.clk.good.get 0 b) → exec .restore s = .next { s with clk := { s.clk with restore := true } }) ∧
    ((∃ b ∈ s.clk.lost, b < 3 ∧ s.clk.good.get 0 b < 1024) → exec .restore s = .next s))

/-- Clock gates and power modes (R357–R365): gates open at once and close in a step; a step that is not idle 256 cycles on is refused; a wake opens the gates, counts and starts the time anew after DEEP SLEEP, whose entry closes the sessions and every gate but the microphones'. -/
def Obligations.ClockGates : Prop :=
  (∀ (s : State) (w : BitVec 32) (n : Nat), s.rd R.CLK_MODE_CUR = 0 → s.clk.held = false →
    ∃ t : State, exec (.gateRunWrite false w n) s = .next t ∧ t.rd R.CLK_GATE_RUN_VALUE = w.toNat % 2 ^ 23 ∧
      ∀ i, i < 23 → t.gated i = (s.gated i && !w.getLsbD i)) ∧
  (∀ (s : State) (w : BitVec 32) (n : Nat), (∀ c, (s.core c).heldState < 5) →
    ∃ t : State, exec (.gateRunWrite true w n) s = .next t ∧ t.rd R.CLK_CORE_GATE_VALUE = w.toNat ∧ (∀ i, t.gated i = s.gated i) ∧
      ∀ c, c < 32 → w.getLsbD c = false → t.coreState c ≠ 5) ∧
  (∀ (s : State) (n : Nat) (x : GateStep), s.clk.step = some x →
    (∃ t : State, exec (.gatesClose n) s = .next t ∧ t.clk.step = none ∧ (∀ i, i < 23 → t.gated i = (s.gated i || bitOf x.blocks i)) ∧
      (∀ c, c < 32 → bitOf x.cores c = true → t.coreState c = 5) ∧
      (x.mode = 1 → ∀ z : Sleep, s.clk.sleep = some z → t.rd R.CLK_MODE_CUR = (if z.deep then 3 else 1))) ∧
    (∀ b : BitVec 23, b.toNat &&& x.all ≠ 0 → x.since + 160 ≤ (s.atRaw n).tm.raw →
      ∃ t : State, exec (.quiescenceTimeout b n) s = .next t ∧ t.clk.step = none ∧ (∀ i, t.gated i = s.gated i) ∧
      t.rd R.CLK_CNT_REFUSE_VALUE = min 0xFFFFFFFF (s.rd R.CLK_CNT_REFUSE_VALUE + 1) ∧
      (∀ i, i < 23 → bitOf (t.rd R.CLK_GATE_REFUSED_VALUE) i = (bitOf (s.rd R.CLK_GATE_REFUSED_VALUE) i || (b.getLsbD i && bitOf x.all i))) ∧
      (x.mode = 1 → t.rd R.CLK_MODE_CUR = 0 ∧ t.on R.CLK_MODE_ABORTED = true))) ∧
  (∀ (s : State) (c : WakeBy) (n : Nat) (z : Sleep), s.clk.sleep = some z → s.wakeEnabled c = true → z.wakeBlk = none → s.rd R.CLK_MODE_CUR ≠ 0 →
    s.clk.held = false →
    ((z.deep && z.closed) = false →
      ∃ t : State, exec (.wake c n) s = .next t ∧ t.rd R.CLK_MODE_CUR = 0 ∧ t.clk.step = none ∧ t.rd R.CLK_CNT_WAKE_VALUE = min 0xFFFFFFFF (s.rd R.CLK_CNT_WAKE_VALUE + 1) ∧
        (∀ i, i < 23 → t.gated i = (s.gated i && !bitOf (s.rd R.CLK_GATE_RUN_VALUE) i)) ∧
        bitOf (t.rd R.CLK_WAKE_STAT_w) (match c with | .press m => m.val | .hif k => 4 + k.val | .gpio _ _ => 6) = true) ∧
    ((z.deep && z.closed) = true →
      ∃ t : State, exec (.wake c n) s = .next t ∧ t.rd R.CLK_MODE_CUR = 0 ∧ t.tm = State.reset.tm ∧ t.sessions = [] ∧ t.msgs = s.msgs ∧ t.otp = s.otp ∧ (∀ i, t.gated i = false) ∧
        t.on R.CEL_STATUS_SR = false)) ∧
  (∀ (s : State) (b : BitVec 23) (n : Nat) (z : Sleep), s.clk.sleep = some z → z.deep = true → z.closed = false → z.wakeBlk = none → z.replyAt + ms 10 ≤ (s.atRaw n).tm.raw →
    z.stopped = true → s.clk.step = none →
    ∃ t : State, exec (.deepSleepClose b n) s = .next t ∧ t.rd R.CLK_MODE_CUR = 2 ∧ t.on R.CEL_STATUS_SR = true ∧ t.clk.sleep = some { z with closed := true } ∧
      (∀ i, i < 8 → t.isOpen i = false) ∧
      ∀ i, i < 23 → t.gated i = (s.gated i || !(i == 9 && bitOf (s.rd R.CLK_GATE_DEEP_VALUE) 9)))

/-- The host link and the ends of long operations (R43, R45, R90, R169, R272, R281, R283, R289, R304, R306, R308): an SPI port holds two packets and counts what overflows or breaks off; a read takes the oldest and lets a waiting reply in; sessions end by their timeouts; the export of an
identification, a firmware commit and a rotation of keys complete; a bank is verified against its CRC; the safe-load registers are held and armed. -/
def Obligations.HostLink : Prop :=
  (∀ (s : State) (p : Fin 2) (n : Nat), s.portEnabled p.val = true → s.gated 20 = false →
    (∃ t : State, exec (.spiWrite p true n) s = .next t ∧ (t.port p.val).inb = (if 2 ≤ (s.port p.val).inb then (s.port p.val).inb else (s.port p.val).inb + 1) ∧
      t.rd (R.HIF_CNT_OVF_VALUE p.val) = (if 2 ≤ (s.port p.val).inb then min 0xFFFFFFFF (s.rd (R.HIF_CNT_OVF_VALUE p.val) + 1) else s.rd (R.HIF_CNT_OVF_VALUE p.val))) ∧
    ((s.port p.val).inb < 2 →
      ∃ t : State, exec (.spiWrite p false n) s = .next t ∧ t.port p.val = s.port p.val ∧
        t.rd (R.HIF_CNT_FRAME_VALUE p.val) = min 0xFFFFFFFF (s.rd (R.HIF_CNT_FRAME_VALUE p.val) + 1)) ∧
    (∀ (k : Packet) (ks : List Packet) (w : Packet) (ws : List Packet), (s.port p.val).out = k :: ks → (s.port p.val).wait = w :: ws →
      ∃ t : State, exec (.spiRead p n) s = .next t ∧ (t.port p.val).sent = some k ∧ (t.port p.val).out = ks ++ [w] ∧ (t.port p.val).wait = ws) ∧
    ((s.port p.val).out = [] → ∃ t : State, exec (.spiRead p n) s = .next t ∧ (t.port p.val).sent = none ∧ ∀ q, q ∉ [Part.tm, .ports] → Part.same q s t) ∧
    (∃ t : State, exec (.spiStatus p n) s = .next t ∧
      (t.port p.val).stat = some ((if (s.port p.val).out = [] then 0 else 1) + (if (s.port p.val).inb < 2 then 2 else 0) +
        (if s.devBusy = none ∧ (s.port p.val).busy = none then 0 else 4)) ∧ ∀ q, q ∉ [Part.tm, .ports] → Part.same q s t)) ∧
  (∀ (s : State) (i : Fin 8) (n : Nat), s.fwRuns = true → (s.session i.val).phase = .halfOpen → (s.session i.val).openedAt + ms 2000 ≤ (s.atRaw n).tm.raw →
    ∃ t : State, exec (.halfOpenTimeout i n) s = .next t ∧ t.session i.val = sessReset ∧ ∀ j, j ≠ i.val → (t.session j).phase = (s.session j).phase) ∧
  (∀ (s : State) (i : Fin 8) (n : Nat), s.fwRuns = true → (s.session i.val).phase ≠ .closed → (s.session i.val).lastRx + ms (1000 * (s.session i.val).timeout) ≤ (s.atRaw n).tm.raw →
    ∃ t : State, exec (.keepaliveTimeout i n) s = .next t ∧ t.session i.val = sessReset ∧ ∀ j, j ≠ i.val → (t.session j).phase = (s.session j).phase) ∧
  (∀ (s : State) (p : Fin 6) (n : Nat) (l : LongOp), (s.port p.val).busy = some l → l.op = 0x0407 →
    ∃ t : State, exec (.identExportComplete p n) s = .next t ∧ (t.port p.val).busy = none ∧
      ∀ d : Ident, s.identOf (l.arg % 256) = some d → 256 ≤ l.arg → d.valid = true → t.mix.proposals.getLast? = some ⟨s.mix.propNext, d.output, d.wanted (d.est.getD 0)⟩) ∧
  (∀ (s : State) (c : SlotCheck) (n : Nat) (l : LongOp) (x : FwXfer), s.devBusy = some l → l.op = 0x0A05 → s.fw = some x →
    (s.headerOk (slotSeen c (some x.got)) = true →
      ∃ t : State, exec (.fwCommitComplete true c n) s = .next t ∧ t.devBusy = none ∧ t.fw = none ∧ (if x.slot then t.flash.slotB else t.flash.slotA) = some x.got ∧
        t.firstSlot = x.slot ∧ (if x.slot then t.flash.slotA = s.flash.slotA else t.flash.slotB = s.flash.slotB)) ∧
    (∀ ok : Bool, (ok && s.headerOk (slotSeen c (some x.got))) = false →
      ∃ t : State, exec (.fwCommitComplete ok c n) s = .next t ∧ t.devBusy = none ∧ t.fw = none ∧ (if x.slot then t.flash.slotB else t.flash.slotA) = none ∧
        t.firstSlot = s.firstSlot)) ∧
  (∀ (s : State) (n : Nat) (l : LongOp), s.devBusy = some l → l.op = 0x0A06 →
    ∃ t : State, exec (.keyRotateComplete n) s = .next t ∧ t.devBusy = none ∧
      ∀ i k, i < 8 → (s.session i).key = some k → bitOf l.arg k = true → t.isOpen i = false) ∧
  (∀ s : State, s.gated 1 = false →
    (s.on R.PST_STATUS_SWAP_PEND = true → exec .swapReq s = .next s) ∧
    (s.geo.build.state ≠ .running → s.on R.PST_STATUS_SWAP_PEND = false →
      ∃ t : State, exec .swapReq s = .next t ∧ t.on R.PST_STATUS_VERIFY_BUSY = true ∧ ∀ p, p ≠ Part.regs → Part.same p s t) ∧
    (s.geo.build.state = .running → s.on R.PST_STATUS_VERIFY_BUSY = false → s.on R.PST_STATUS_SWAP_PEND = false → 65536 < s.stagedCells →
      ∃ t : State, exec .swapReq s = .next t ∧ t.geo.build.state = .limit ∧ t.geo.banks = s.geo.banks ∧ t.regs = s.regs) ∧
    (s.geo.build.state = .running → s.on R.PST_STATUS_VERIFY_BUSY = false → s.on R.PST_STATUS_SWAP_PEND = false → s.stagedCells ≤ 65536 → s.layOut.pool.length ≤ 262144 →
      ∃ t : State, exec .swapReq s = .next t ∧ t.geo.build.state = .running ∧ t.geo.build.cells = s.stagedCells ∧ t.rd R.PST_BANK_EXP_VALUE = t.bankCrc s.stagedBank ∧
        t.on R.PST_STATUS_VERIFY_BUSY = true)) ∧
  (∀ (s : State) (n : Nat), s.gated 1 = false → s.on R.PST_STATUS_VERIFY_BUSY = true →
    let c : Nat := s.bankCrc s.stagedBank
    (c = s.rd R.PST_BANK_EXP_VALUE →
      ∃ t : State, exec (.verifyComplete n) s = .next t ∧ t.on R.PST_STATUS_VERIFY_BUSY = false ∧ t.rd R.PST_BANK_CRC_VALUE = c ∧ t.on R.PST_STATUS_SWAP_PEND = true ∧
        t.geo.build.swapAt = some (s.atRaw n).effectBlock ∧ (s.geo.build.state = .running → t.geo.build.state = .verified)) ∧
    (c ≠ s.rd R.PST_BANK_EXP_VALUE →
      ∃ t : State, exec (.verifyComplete n) s = .next t ∧ t.on R.PST_STATUS_VERIFY_BUSY = false ∧ t.on R.PST_STATUS_BUILD_ERR = true ∧
        t.on R.PST_STATUS_SWAP_PEND = s.on R.PST_STATUS_SWAP_PEND ∧ t.rd R.PST_CNT_CHECK_VALUE = min 0xFFFFFFFF (s.rd R.PST_CNT_CHECK_VALUE + 1) ∧
        (s.geo.build.state = .running → t.geo.build.state = .check) ∧ t.geo.banks = s.geo.banks)) ∧
  (∀ (s : State) (b : Bool), s.gated 5 = false →
    ∃ t : State, exec (.slHold b) s = .next t ∧ t.on R.MIX_SL_CTRL_HOLD = b ∧ ∀ p, p ≠ Part.regs → Part.same p s t) ∧
  (∀ s : State, s.gated 5 = false →
    ∃ t : State, exec .slArm s = .next t ∧ t.on R.MIX_SL_STATUS_ARMED = true ∧ ∀ p, p ≠ Part.regs → Part.same p s t)
end

