-- ==== Sys2Proof/Laws/Cells.lean ====
section
/-! SUPPORT. The laws of sparse cells: read after write (for every list, canonical or not), and that every operation keeps
the canonical form. -/

-- One proof at a time: the package as one text then takes less memory.
set_option Elab.async false

namespace Sys2Proof.Machine

variable {α : Type}

theorem Cells.above_trans {j k : Nat} {c : Cells α} (hjk : j ≤ k) (h : c.above k = true) : c.above j = true := by
  induction c with
  | nil => rfl
  | cons p rest ih =>
    simp only [Cells.above, Bool.and_eq_true, decide_eq_true_eq] at h ⊢
    exact ⟨by omega, ih h.2⟩

theorem Cells.get_insert_self {d : α} {c : Cells α} {k : Nat} {v : α} : (c.insert k v).get d k = v := by
  induction c with
  | nil => simp [Cells.insert, Cells.get]
  | cons p rest ih =>
    simp only [Cells.insert]
    split
    · simp [Cells.get]
    · split
      · simp [Cells.get]
      · rename_i h1 h2
        simp [Cells.get, h1, ih]

theorem Cells.get_insert_other {d : α} {c : Cells α} {k j : Nat} {v : α} (hj : j ≠ k) :
    (c.insert k v).get d j = c.get d j := by
  have hkj : k ≠ j := fun h => hj h.symm
  induction c with
  | nil => simp [Cells.insert, Cells.get, hkj]
  | cons p rest ih =>
    simp only [Cells.insert]
    split
    · rename_i h
      simp [Cells.get, hkj, h]
    · split
      · simp [Cells.get, hkj]
      · simp only [Cells.get, ih]

theorem Cells.get_erase_self {d : α} {c : Cells α} {k : Nat} : (c.erase k).get d k = d := by
  induction c with
  | nil => rfl
  | cons p rest ih =>
    simp only [Cells.erase]
    split
    · exact ih
    · rename_i h; simp [Cells.get, h, ih]

theorem Cells.get_erase_other {d : α} {c : Cells α} {k j : Nat} (hj : j ≠ k) :
    (c.erase k).get d j = c.get d j := by
  have hkj : k ≠ j := fun h => hj h.symm
  induction c with
  | nil => rfl
  | cons p rest ih =>
    simp only [Cells.erase]
    split
    · rename_i h; simp [Cells.get, h, hkj, ih]
    · simp only [Cells.get, ih]

theorem Cells.above_insert {c : Cells α} {j k : Nat} {v : α} (h : c.above j = true) (hk : j < k) :
    (c.insert k v).above j = true := by
  induction c with
  | nil => simp [Cells.insert, Cells.above, hk]
  | cons p rest ih =>
    simp only [Cells.above, Bool.and_eq_true, decide_eq_true_eq] at h
    simp only [Cells.insert]
    split
    · simp [Cells.above, hk, h.2]
    · split
      · simp [Cells.above, hk, h.1, h.2]
      · simp [Cells.above, h.1, ih h.2]

theorem Cells.above_erase {c : Cells α} {j k : Nat} (h : c.above j = true) : (c.erase k).above j = true := by
  induction c with
  | nil => rfl
  | cons p rest ih =>
    simp only [Cells.above, Bool.and_eq_true, decide_eq_true_eq] at h
    simp only [Cells.erase]
    split
    · exact ih h.2
    · simp [Cells.above, h.1, ih h.2]

theorem Cells.sorted_insert {c : Cells α} {k : Nat} {v : α} (h : c.sorted = true) : (c.insert k v).sorted = true := by
  induction c with
  | nil => rfl
  | cons p rest ih =>
    have h' := h
    simp only [Cells.sorted, Bool.and_eq_true] at h
    simp only [Cells.insert]
    split
    · rename_i hk; subst hk
      simp [Cells.sorted, h.1, h.2]
    · split
      · rename_i h1 h2
        have hr : Cells.above k rest = true := Cells.above_trans (Nat.le_of_lt h2) h.1
        rw [Cells.sorted, h', Cells.above, hr]; simp [h2]
      · simp only [Cells.sorted, Bool.and_eq_true]
        exact ⟨Cells.above_insert h.1 (by omega), ih h.2⟩

theorem Cells.sorted_erase {c : Cells α} {k : Nat} (h : c.sorted = true) : (c.erase k).sorted = true := by
  induction c with
  | nil => rfl
  | cons p rest ih =>
    simp only [Cells.sorted, Bool.and_eq_true] at h
    simp only [Cells.erase]
    split
    · exact ih h.2
    · simp [Cells.sorted, Cells.above_erase h.1, ih h.2]

theorem Cells.mem_insert {c : Cells α} {k : Nat} {v : α} {p : Nat × α} (hp : p ∈ c.insert k v) :
    p = (k, v) ∨ p ∈ c := by
  induction c with
  | nil => simp [Cells.insert] at hp; exact .inl hp
  | cons q rest ih =>
    simp only [Cells.insert] at hp
    split at hp
    · cases hp with
      | head => exact .inl rfl
      | tail _ h => exact .inr (.tail _ h)
    · split at hp
      · cases hp with
        | head => exact .inl rfl
        | tail _ h => exact .inr h
      · cases hp with
        | head => exact .inr (.head _)
        | tail _ h =>
          cases ih h with
          | inl h => exact .inl h
          | inr h => exact .inr (.tail _ h)

theorem Cells.mem_erase {c : Cells α} {k : Nat} {p : Nat × α} (hp : p ∈ c.erase k) : p ∈ c := by
  induction c with
  | nil => exact hp
  | cons q rest ih =>
    simp only [Cells.erase] at hp
    split at hp
    · exact .tail _ (ih hp)
    · cases hp with
      | head => exact .head _
      | tail _ h => exact .tail _ (ih h)

section
variable [DecidableEq α]

/-- Read after write, same key. -/
@[simp] theorem Cells.get_set_self {d : α} {c : Cells α} {k : Nat} {v : α} : (c.set d k v).get d k = v := by
  unfold Cells.set
  split
  · rename_i hv; rw [Cells.get_erase_self, hv]
  · exact Cells.get_insert_self

/-- Read after write, another key. -/
theorem Cells.get_set_other {d e : α} {c : Cells α} {k j : Nat} {v : α} (hj : j ≠ k) :
    (c.set d k v).get e j = c.get e j := by
  unfold Cells.set
  split
  · exact Cells.get_erase_other hj
  · exact Cells.get_insert_other hj

/-- Read after write, in one equation. -/
theorem Cells.get_set {d : α} {c : Cells α} {k j : Nat} {v : α} :
    (c.set d k v).get d j = if j = k then v else c.get d j := by
  split
  · rename_i h; subst h; exact Cells.get_set_self
  · rename_i h; exact Cells.get_set_other h

theorem Cells.sorted_set {d : α} {c : Cells α} {k : Nat} {v : α} (h : c.sorted = true) :
    (c.set d k v).sorted = true := by
  unfold Cells.set
  split
  · exact Cells.sorted_erase h
  · exact Cells.sorted_insert h

/-- Every write keeps the canonical form. -/
theorem Cells.wf_set {d : α} {c : Cells α} {k : Nat} {v : α} (h : c.wf d = true) : (c.set d k v).wf d = true := by
  simp only [Cells.wf, Bool.and_eq_true, List.all_eq_true, decide_eq_true_eq] at h ⊢
  refine ⟨Cells.sorted_set h.1, ?_⟩
  intro p hp
  unfold Cells.set at hp
  split at hp
  · exact h.2 p (Cells.mem_erase hp)
  · rename_i hv
    cases Cells.mem_insert hp with
    | inl h' => rw [h']; exact hv
    | inr h' => exact h.2 p h'

theorem Cells.wf_modify {d : α} {c : Cells α} {k : Nat} {f : α → α} (h : c.wf d = true) :
    (c.modify d k f).wf d = true := Cells.wf_set h

end

theorem Cells.above_filter {c : Cells α} {k : Nat} {f : Nat × α → Bool} (h : c.above k = true) :
    Cells.above k (c.filter f) = true := by
  induction c with
  | nil => rfl
  | cons p rest ih =>
    simp only [Cells.above, Bool.and_eq_true, decide_eq_true_eq] at h
    rw [List.filter_cons]
    split
    · simp [Cells.above, h.1, ih h.2]
    · exact ih h.2

theorem Cells.sorted_filter {c : Cells α} {f : Nat × α → Bool} (h : c.sorted = true) : Cells.sorted (c.filter f) = true := by
  induction c with
  | nil => rfl
  | cons p rest ih =>
    simp only [Cells.sorted, Bool.and_eq_true] at h
    rw [List.filter_cons]
    split
    · simp [Cells.sorted, Cells.above_filter h.1, ih h.2]
    · exact ih h.2

section
variable [DecidableEq α]

/-- Leaving out entries keeps the canonical form. -/
theorem Cells.wf_filter {d : α} {c : Cells α} {f : Nat × α → Bool} (h : c.wf d = true) : Cells.wf d (c.filter f) = true := by
  simp only [Cells.wf, Bool.and_eq_true, List.all_eq_true] at h ⊢
  exact ⟨Cells.sorted_filter h.1, fun p hp => h.2 p ((List.mem_filter.mp hp).1)⟩

/-- Writing one entry after another keeps the canonical form. -/
theorem Cells.wf_foldl {β : Type} {d : α} {l : List β} {f : Cells α → β → Cells α} (hf : ∀ c x, c.wf d = true → (f c x).wf d = true)
    {c : Cells α} (h : c.wf d = true) : (l.foldl f c).wf d = true := by
  induction l generalizing c with
  | nil => exact h
  | cons x l ih => exact ih (hf c x h)

end

end Sys2Proof.Machine
end

