-- ==== Sys2Proof/Laws/Frame.lean ====
section
/-! SUPPORT. What an operation does to the parts of the state, said once: `Good W s t` says that `t` differs from `s` only in the
parts of the mask `W`, and that memory and registers stay canonical, the one-time memory only gains bits and the counter of
free values never runs back. Every operation of the model has one such lemma in the files Laws/Keep*.lean. -/

-- One proof at a time: the package as one text then takes less memory.
set_option Elab.async false

namespace Sys2Proof.Machine

open Sys2Proof

/-- The place of a part in a mask. -/
def Part.idx : Part → Nat
  | .regs => 0
  | .live => 1
  | .liveHist => 2
  | .tm => 3
  | .mem => 4
  | .free => 5
  | .latches => 6
  | .straps => 7
  | .geo => 8
  | .hst => 9
  | .mix => 10
  | .sched => 11
  | .ost => 12
  | .cores => 13
  | .tdm => 14
  | .aes => 15
  | .aesOut => 16
  | .vox => 17
  | .asc => 18
  | .mics => 19
  | .bound => 20
  | .ps => 21
  | .tly => 22
  | .macs => 23
  | .ptp => 24
  | .srx => 25
  | .stx => 26
  | .acts => 27
  | .gpio => 28
  | .pins => 29
  | .sessions => 30
  | .owner => 31
  | .former => 32
  | .ports => 33
  | .devBusy => 34
  | .enrol => 35
  | .msgs => 36
  | .plays => 37
  | .fw => 38
  | .flash => 39
  | .otp => 40
  | .maint => 41
  | .triggers => 42
  | .armed => 43
  | .totals => 44
  | .totalsAt => 45
  | .lib => 46
  | .bwt => 47
  | .mir => 48
  | .cel => 49
  | .fab => 50
  | .clk => 51
  | .sup => 52
  | .image => 53
  | .pending => 54

/-- The mask of a list of parts. -/
def Part.mask : List Part → Nat
  | [] => 0
  | p :: rest => 2 ^ p.idx ||| Part.mask rest

/-- Every part, in the order of its place. -/
def Part.all : List Part := Part.allButQueue ++ [.pending]

theorem Part.all_idx (p : Part) : Part.all[p.idx]? = some p := by cases p <;> rfl

theorem Part.idx_inj {p q : Part} (h : p.idx = q.idx) : p = q := by
  have e := Part.all_idx p
  rw [h, Part.all_idx q] at e
  exact (Option.some.inj e).symm

theorem Part.mask_bit {p : Part} {ps : List Part} (h : p ∉ ps) : (Part.mask ps).testBit p.idx = false := by
  induction ps with
  | nil => simp [Part.mask]
  | cons q qs ih =>
    rw [List.mem_cons, not_or] at h
    rw [Part.mask, Nat.testBit_lor, ih h.2, Nat.testBit_two_pow_of_ne (fun e => h.1 (Part.idx_inj e.symm)), Bool.or_false]

theorem lor_eq_bit {v W : Nat} (h : v ||| W = W) (i : Nat) (hv : v.testBit i = true) : W.testBit i = true := by
  rw [← h, Nat.testBit_lor, hv, Bool.true_or]

theorem Otp.le_refl (a : Otp) : Otp.le a a := ⟨rfl, Nat.le_refl _, fun _ h => h, fun h => h⟩

theorem Otp.le_trans {a b c : Otp} (h : Otp.le a b) (k : Otp.le b c) : Otp.le a c :=
  ⟨k.1.trans h.1, Nat.le_trans h.2.1 k.2.1, fun i hi => k.2.2.1 i (h.2.2.1 i hi), fun hi => k.2.2.2 (h.2.2.2 hi)⟩

theorem Part.same_refl (p : Part) (s : State) : p.same s s := by cases p <;> rfl

theorem Part.same_trans {p : Part} {a b c : State} (h : p.same a b) (k : p.same b c) : p.same a c := by
  cases p <;> exact Eq.trans k h

/-- `t` comes from `s` by operations that change only the parts of the mask `W`. -/
structure Good (W : Nat) (s t : State) : Prop where
  same : ∀ p : Part, W.testBit p.idx = false → p.same s t
  mem  : Memory.wf s.mem = true → Memory.wf t.mem = true
  regs : Cells.wf 0 s.regs = true → Cells.wf 0 t.regs = true
  live : Cells.wf 0 s.live = true → Cells.wf 0 t.live = true
  free : s.free ≤ t.free
  otp  : Otp.le s.otp t.otp

theorem Good.refl {W : Nat} {s : State} : Good W s s :=
  ⟨fun p _ => p.same_refl s, id, id, id, Nat.le_refl _, Otp.le_refl _⟩

/-- One more operation, whose own mask lies within the mask. -/
theorem Good.step {W V : Nat} {a x y : State} (g : Good V x y) (hw : V ||| W = W) (h : Good W a x) : Good W a y where
  same p hp := Part.same_trans (h.same p hp) (g.same p (by
    cases hv : V.testBit p.idx with
    | false => rfl
    | true => rw [lor_eq_bit hw _ hv] at hp; exact absurd hp (by decide)))
  mem hm := g.mem (h.mem hm)
  regs hm := g.regs (h.regs hm)
  live hm := g.live (h.live hm)
  free := Nat.le_trans h.free g.free
  otp := Otp.le_trans h.otp g.otp

theorem Good.cut {W : Nat} {a x y : State} (h : Good W a x) (k : Good W a x → Good W a y) : Good W a y := k h

theorem Good.cutF {α : Type} {W : Nat} {a y : State} {x : α → State} (h : ∀ c, Good W a (x c))
    (k : (∀ c, Good W a (x c)) → Good W a y) : Good W a y := k h

theorem Good.cutG {W : Nat} {a y : State} {x : State → State} (h : ∀ z, Good W z (x z)) (k : (∀ z, Good W z (x z)) → Good W a y) :
    Good W a y := k h

theorem Good.cutH {β : Type} {W : Nat} {a y : State} {x : State → β → State} (h : ∀ z c, Good W z (x z c))
    (k : (∀ z c, Good W z (x z c)) → Good W a y) : Good W a y := k h

theorem Good.trans {W : Nat} {a x y : State} (h : Good W a x) (k : Good W x y) : Good W a y := k.step (Nat.or_self W) h

theorem Good.ite {W : Nat} {a x y : State} {c : Prop} [Decidable c] (h : Good W a x) (k : Good W a y) :
    Good W a (if c then x else y) := by split <;> assumption

theorem Good.ite_fst {γ : Type} {W : Nat} {a : State} {x y : State × γ} {c : Prop} [Decidable c] (h : Good W a x.1) (k : Good W a y.1) :
    Good W a (if c then x else y).1 := by split <;> assumption

theorem Good.ite_snd {γ : Type} {W : Nat} {a : State} {x y : γ × State} {c : Prop} [Decidable c] (h : Good W a x.2) (k : Good W a y.2) :
    Good W a (if c then x else y).2 := by split <;> assumption

theorem Good.ofFold {α β : Type} {W : Nat} {a : State} (π : β → State) {f : β → α → β} {l : List α} {b : β}
    (hf : ∀ x b, Good W a (π b) → Good W a (π (f b x))) (h : Good W a (π b)) : Good W a (π (l.foldl f b)) := by
  induction l generalizing b with
  | nil => exact h
  | cons x l ih => exact ih (hf x b h)

theorem Good.foldl {α : Type} {W : Nat} {a : State} {f : State → α → State} {l : List α} {b : State}
    (hf : ∀ x b, Good W a b → Good W a (f b x)) (h : Good W a b) : Good W a (l.foldl f b) := Good.ofFold id hf h

theorem Good.foldl_fst {α γ : Type} {W : Nat} {a : State} {f : State × γ → α → State × γ} {l : List α} {b : State × γ}
    (hf : ∀ x b, Good W a b.1 → Good W a (f b x).1) (h : Good W a b.1) : Good W a (l.foldl f b).1 := Good.ofFold Prod.fst hf h

theorem Good.foldl_snd {α γ : Type} {W : Nat} {a : State} {f : γ × State → α → γ × State} {l : List α} {b : γ × State}
    (hf : ∀ x b, Good W a b.2 → Good W a (f b x).2) (h : Good W a b.2) : Good W a (l.foldl f b).2 := Good.ofFold Prod.snd hf h

theorem Good.fst {γ : Type} {W : Nat} {a t : State} {p : State × γ} {y : γ} (e : p = (t, y)) (h : Good W a p.1) : Good W a t := by
  rw [e] at h; exact h

theorem Good.snd {γ : Type} {W : Nat} {a t : State} {p : γ × State} {y : γ} (e : p = (y, t)) (h : Good W a p.2) : Good W a t := by
  rw [e] at h; exact h

theorem Good.mid {γ δ : Type} {W : Nat} {a t : State} {p : γ × State × δ} {y : γ} {z : δ} (e : p = (y, t, z)) (h : Good W a p.2.1) :
    Good W a t := by
  rw [e] at h; exact h

/-- What a command does, if it answers a next state. -/
structure GoodO (W : Nat) (s : State) (o : Host.Outcome State Fault Refusal) : Prop where
  good : ∀ t, o = .next t → Good W s t

theorem GoodO.next {W : Nat} {s t : State} (h : Good W s t) : GoodO W s (.next t) :=
  ⟨fun _ e => by cases e; exact h⟩

theorem GoodO.cut {W : Nat} {a x : State} {o : Host.Outcome State Fault Refusal} (h : Good W a x) (k : Good W a x → GoodO W a o) :
    GoodO W a o := k h

theorem GoodO.cutG {W : Nat} {a : State} {o : Host.Outcome State Fault Refusal} {x : State → State} (h : ∀ z, Good W z (x z))
    (k : (∀ z, Good W z (x z)) → GoodO W a o) : GoodO W a o := k h

theorem GoodO.cutH {β : Type} {W : Nat} {a : State} {o : Host.Outcome State Fault Refusal} {x : State → β → State}
    (h : ∀ z c, Good W z (x z c)) (k : (∀ z c, Good W z (x z c)) → GoodO W a o) : GoodO W a o := k h

theorem Good.cutK {β γ : Type} {W : Nat} {a y : State} {x : State → β → γ → State} (h : ∀ z c e, Good W z (x z c e))
    (k : (∀ z c e, Good W z (x z c e)) → Good W a y) : Good W a y := k h

theorem GoodO.ite {W : Nat} {s : State} {c : Prop} [Decidable c] {x y : Host.Outcome State Fault Refusal} (h : GoodO W s x)
    (k : GoodO W s y) : GoodO W s (if c then x else y) := by split <;> assumption

/-- An operation that leaves memory, registers, free counter and one-time memory as they are. -/
theorem Good.of_same {W : Nat} {a x y : State} (h : Good W a x) (hm : y.mem = x.mem) (hr : y.regs = x.regs) (hl : y.live = x.live)
    (hf : y.free = x.free) (ho : y.otp = x.otp) (hs : ∀ p : Part, W.testBit p.idx = false → p.same x y) : Good W a y where
  same p hp := Part.same_trans (h.same p hp) (hs p hp)
  mem k := by rw [hm]; exact h.mem k
  regs k := by rw [hr]; exact h.regs k
  live k := by rw [hl]; exact h.live k
  free := by rw [hf]; exact h.free
  otp := by rw [ho]; exact h.otp

/-! ### One lemma for each update of fields -/

theorem Good.upd_reg {W : Nat} {a x : State} {r : Cells Nat} (hw : 1 ||| W = W)
    (hr : Cells.wf 0 x.regs = true → Cells.wf 0 r = true) (h : Good W a x) : Good W a { x with regs := r } where
  same p hp := Part.same_trans (h.same p hp) (by
    have hq := lor_eq_bit hw p.idx
    cases p <;> first | exact rfl | exact absurd (hq rfl) (by rw [hp]; exact Bool.false_ne_true))
  mem := h.mem
  regs k := hr (h.regs k)
  live := h.live
  free := h.free
  otp := h.otp

theorem Good.upd_live {W : Nat} {a x : State} {r : Cells Nat} (hw : 2 ||| W = W)
    (hr : Cells.wf 0 x.live = true → Cells.wf 0 r = true) (h : Good W a x) : Good W a { x with live := r } where
  same p hp := Part.same_trans (h.same p hp) (by
    have hq := lor_eq_bit hw p.idx
    cases p <;> first | exact rfl | exact absurd (hq rfl) (by rw [hp]; exact Bool.false_ne_true))
  mem := h.mem
  regs := h.regs
  live k := hr (h.live k)
  free := h.free
  otp := h.otp

theorem Good.upd_regs_live {W : Nat} {a x : State} {r l : Cells Nat} (hw : 3 ||| W = W)
    (hr : Cells.wf 0 x.regs = true → Cells.wf 0 r = true) (hl : Cells.wf 0 l = true) (h : Good W a x) :
    Good W a { x with regs := r, live := l } where
  same p hp := Part.same_trans (h.same p hp) (by
    have hq := lor_eq_bit hw p.idx
    cases p <;> first | exact rfl | exact absurd (hq rfl) (by rw [hp]; exact Bool.false_ne_true))
  mem := h.mem
  regs k := hr (h.regs k)
  live _ := hl
  free := h.free
  otp := h.otp

theorem Good.upd_mem {W : Nat} {a x : State} {m : List Host.Cell} (hw : 16 ||| W = W)
    (hr : Memory.wf x.mem = true → Memory.wf m = true) (h : Good W a x) : Good W a { x with mem := m } where
  same p hp := Part.same_trans (h.same p hp) (by
    have hq := lor_eq_bit hw p.idx
    cases p <;> first | exact rfl | exact absurd (hq rfl) (by rw [hp]; exact Bool.false_ne_true))
  mem k := hr (h.mem k)
  regs := h.regs
  live := h.live
  free := h.free
  otp := h.otp

theorem Good.upd_free {W : Nat} {a x : State} (hw : 32 ||| W = W) (h : Good W a x) : Good W a { x with free := x.free + 1 } where
  same p hp := Part.same_trans (h.same p hp) (by
    have hq := lor_eq_bit hw p.idx
    cases p <;> first | exact rfl | exact absurd (hq rfl) (by rw [hp]; exact Bool.false_ne_true))
  mem := h.mem
  regs := h.regs
  live := h.live
  free := Nat.le_succ_of_le h.free
  otp := h.otp

theorem Good.upd_otp {W : Nat} {a x : State} {o : Otp} (hw : 1099511627776 ||| W = W) (ho : Otp.le x.otp o) (h : Good W a x) :
    Good W a { x with otp := o } where
  same p hp := Part.same_trans (h.same p hp) (by
    have hq := lor_eq_bit hw p.idx
    cases p <;> first | exact rfl | exact absurd (hq rfl) (by rw [hp]; exact Bool.false_ne_true))
  mem := h.mem
  regs := h.regs
  live := h.live
  free := h.free
  otp := Otp.le_trans h.otp ho

theorem Good.when {W : Nat} {a x : State} {c : Bool} {f : State → State} (hf : ∀ y, Good W a y → Good W a (f y)) (h : Good W a x) :
    Good W a (x.when c f) := by
  unfold State.when; split
  · exact hf x h
  · exact h


theorem Good.upd_acts {W : Nat} {a x : State} {v0 : _} (hw : 134217728 ||| W = W) (h : Good W a x) :
    Good W a { x with acts := v0 } :=
  h.of_same rfl rfl rfl rfl rfl (by
    intro p hp
    have hq := lor_eq_bit hw p.idx
    cases p <;> first | exact rfl | exact absurd (hq rfl) (by rw [hp]; exact Bool.false_ne_true))

theorem Good.upd_aes {W : Nat} {a x : State} {v0 : _} (hw : 32768 ||| W = W) (h : Good W a x) :
    Good W a { x with aes := v0 } :=
  h.of_same rfl rfl rfl rfl rfl (by
    intro p hp
    have hq := lor_eq_bit hw p.idx
    cases p <;> first | exact rfl | exact absurd (hq rfl) (by rw [hp]; exact Bool.false_ne_true))

theorem Good.upd_aesOut {W : Nat} {a x : State} {v0 : _} (hw : 65536 ||| W = W) (h : Good W a x) :
    Good W a { x with aesOut := v0 } :=
  h.of_same rfl rfl rfl rfl rfl (by
    intro p hp
    have hq := lor_eq_bit hw p.idx
    cases p <;> first | exact rfl | exact absurd (hq rfl) (by rw [hp]; exact Bool.false_ne_true))

theorem Good.upd_armed {W : Nat} {a x : State} {v0 : _} (hw : 8796093022208 ||| W = W) (h : Good W a x) :
    Good W a { x with armed := v0 } :=
  h.of_same rfl rfl rfl rfl rfl (by
    intro p hp
    have hq := lor_eq_bit hw p.idx
    cases p <;> first | exact rfl | exact absurd (hq rfl) (by rw [hp]; exact Bool.false_ne_true))

theorem Good.upd_asc {W : Nat} {a x : State} {v0 : _} (hw : 262144 ||| W = W) (h : Good W a x) :
    Good W a { x with asc := v0 } :=
  h.of_same rfl rfl rfl rfl rfl (by
    intro p hp
    have hq := lor_eq_bit hw p.idx
    cases p <;> first | exact rfl | exact absurd (hq rfl) (by rw [hp]; exact Bool.false_ne_true))

theorem Good.upd_bound {W : Nat} {a x : State} {v0 : _} (hw : 1048576 ||| W = W) (h : Good W a x) :
    Good W a { x with bound := v0 } :=
  h.of_same rfl rfl rfl rfl rfl (by
    intro p hp
    have hq := lor_eq_bit hw p.idx
    cases p <;> first | exact rfl | exact absurd (hq rfl) (by rw [hp]; exact Bool.false_ne_true))

theorem Good.upd_bwt {W : Nat} {a x : State} {v0 : _} (hw : 140737488355328 ||| W = W) (h : Good W a x) :
    Good W a { x with bwt := v0 } :=
  h.of_same rfl rfl rfl rfl rfl (by
    intro p hp
    have hq := lor_eq_bit hw p.idx
    cases p <;> first | exact rfl | exact absurd (hq rfl) (by rw [hp]; exact Bool.false_ne_true))

theorem Good.upd_cel {W : Nat} {a x : State} {v0 : _} (hw : 562949953421312 ||| W = W) (h : Good W a x) :
    Good W a { x with cel := v0 } :=
  h.of_same rfl rfl rfl rfl rfl (by
    intro p hp
    have hq := lor_eq_bit hw p.idx
    cases p <;> first | exact rfl | exact absurd (hq rfl) (by rw [hp]; exact Bool.false_ne_true))

theorem Good.upd_clk {W : Nat} {a x : State} {v0 : _} (hw : 2251799813685248 ||| W = W) (h : Good W a x) :
    Good W a { x with clk := v0 } :=
  h.of_same rfl rfl rfl rfl rfl (by
    intro p hp
    have hq := lor_eq_bit hw p.idx
    cases p <;> first | exact rfl | exact absurd (hq rfl) (by rw [hp]; exact Bool.false_ne_true))

theorem Good.upd_cores {W : Nat} {a x : State} {v0 : _} (hw : 8192 ||| W = W) (h : Good W a x) :
    Good W a { x with cores := v0 } :=
  h.of_same rfl rfl rfl rfl rfl (by
    intro p hp
    have hq := lor_eq_bit hw p.idx
    cases p <;> first | exact rfl | exact absurd (hq rfl) (by rw [hp]; exact Bool.false_ne_true))

theorem Good.upd_devBusy {W : Nat} {a x : State} {v0 : _} (hw : 17179869184 ||| W = W) (h : Good W a x) :
    Good W a { x with devBusy := v0 } :=
  h.of_same rfl rfl rfl rfl rfl (by
    intro p hp
    have hq := lor_eq_bit hw p.idx
    cases p <;> first | exact rfl | exact absurd (hq rfl) (by rw [hp]; exact Bool.false_ne_true))

theorem Good.upd_enrol {W : Nat} {a x : State} {v0 : _} (hw : 34359738368 ||| W = W) (h : Good W a x) :
    Good W a { x with enrol := v0 } :=
  h.of_same rfl rfl rfl rfl rfl (by
    intro p hp
    have hq := lor_eq_bit hw p.idx
    cases p <;> first | exact rfl | exact absurd (hq rfl) (by rw [hp]; exact Bool.false_ne_true))

theorem Good.upd_fab {W : Nat} {a x : State} {v0 : _} (hw : 1125899906842624 ||| W = W) (h : Good W a x) :
    Good W a { x with fab := v0 } :=
  h.of_same rfl rfl rfl rfl rfl (by
    intro p hp
    have hq := lor_eq_bit hw p.idx
    cases p <;> first | exact rfl | exact absurd (hq rfl) (by rw [hp]; exact Bool.false_ne_true))

theorem Good.upd_flash {W : Nat} {a x : State} {v0 : _} (hw : 549755813888 ||| W = W) (h : Good W a x) :
    Good W a { x with flash := v0 } :=
  h.of_same rfl rfl rfl rfl rfl (by
    intro p hp
    have hq := lor_eq_bit hw p.idx
    cases p <;> first | exact rfl | exact absurd (hq rfl) (by rw [hp]; exact Bool.false_ne_true))

theorem Good.upd_former {W : Nat} {a x : State} {v0 : _} (hw : 4294967296 ||| W = W) (h : Good W a x) :
    Good W a { x with former := v0 } :=
  h.of_same rfl rfl rfl rfl rfl (by
    intro p hp
    have hq := lor_eq_bit hw p.idx
    cases p <;> first | exact rfl | exact absurd (hq rfl) (by rw [hp]; exact Bool.false_ne_true))

theorem Good.upd_fw {W : Nat} {a x : State} {v0 : _} (hw : 274877906944 ||| W = W) (h : Good W a x) :
    Good W a { x with fw := v0 } :=
  h.of_same rfl rfl rfl rfl rfl (by
    intro p hp
    have hq := lor_eq_bit hw p.idx
    cases p <;> first | exact rfl | exact absurd (hq rfl) (by rw [hp]; exact Bool.false_ne_true))

theorem Good.upd_geo {W : Nat} {a x : State} {v0 : _} (hw : 256 ||| W = W) (h : Good W a x) :
    Good W a { x with geo := v0 } :=
  h.of_same rfl rfl rfl rfl rfl (by
    intro p hp
    have hq := lor_eq_bit hw p.idx
    cases p <;> first | exact rfl | exact absurd (hq rfl) (by rw [hp]; exact Bool.false_ne_true))

theorem Good.upd_geo_mix_ost_bound_ptp_enrol_triggers {W : Nat} {a x : State} {v0 : _} {v1 : _} {v2 : _} {v3 : _} {v4 : _} {v5 : _} {v6 : _} (hw : 4432424080640 ||| W = W) (h : Good W a x) :
    Good W a { x with geo := v0, mix := v1, ost := v2, bound := v3, ptp := v4, enrol := v5, triggers := v6 } :=
  h.of_same rfl rfl rfl rfl rfl (by
    intro p hp
    have hq := lor_eq_bit hw p.idx
    cases p <;> first | exact rfl | exact absurd (hq rfl) (by rw [hp]; exact Bool.false_ne_true))

theorem Good.upd_gpio {W : Nat} {a x : State} {v0 : _} (hw : 268435456 ||| W = W) (h : Good W a x) :
    Good W a { x with gpio := v0 } :=
  h.of_same rfl rfl rfl rfl rfl (by
    intro p hp
    have hq := lor_eq_bit hw p.idx
    cases p <;> first | exact rfl | exact absurd (hq rfl) (by rw [hp]; exact Bool.false_ne_true))

theorem Good.upd_hst {W : Nat} {a x : State} {v0 : _} (hw : 512 ||| W = W) (h : Good W a x) :
    Good W a { x with hst := v0 } :=
  h.of_same rfl rfl rfl rfl rfl (by
    intro p hp
    have hq := lor_eq_bit hw p.idx
    cases p <;> first | exact rfl | exact absurd (hq rfl) (by rw [hp]; exact Bool.false_ne_true))

theorem Good.upd_hst_mix {W : Nat} {a x : State} {v0 : _} {v1 : _} (hw : 1536 ||| W = W) (h : Good W a x) :
    Good W a { x with hst := v0, mix := v1 } :=
  h.of_same rfl rfl rfl rfl rfl (by
    intro p hp
    have hq := lor_eq_bit hw p.idx
    cases p <;> first | exact rfl | exact absurd (hq rfl) (by rw [hp]; exact Bool.false_ne_true))

theorem Good.upd_image {W : Nat} {a x : State} {v0 : _} (hw : 9007199254740992 ||| W = W) (h : Good W a x) :
    Good W a { x with image := v0 } :=
  h.of_same rfl rfl rfl rfl rfl (by
    intro p hp
    have hq := lor_eq_bit hw p.idx
    cases p <;> first | exact rfl | exact absurd (hq rfl) (by rw [hp]; exact Bool.false_ne_true))

theorem Good.upd_latches {W : Nat} {a x : State} {v0 : _} (hw : 64 ||| W = W) (h : Good W a x) :
    Good W a { x with latches := v0 } :=
  h.of_same rfl rfl rfl rfl rfl (by
    intro p hp
    have hq := lor_eq_bit hw p.idx
    cases p <;> first | exact rfl | exact absurd (hq rfl) (by rw [hp]; exact Bool.false_ne_true))

theorem Good.upd_lib {W : Nat} {a x : State} {v0 : _} (hw : 70368744177664 ||| W = W) (h : Good W a x) :
    Good W a { x with lib := v0 } :=
  h.of_same rfl rfl rfl rfl rfl (by
    intro p hp
    have hq := lor_eq_bit hw p.idx
    cases p <;> first | exact rfl | exact absurd (hq rfl) (by rw [hp]; exact Bool.false_ne_true))

theorem Good.upd_liveHist {W : Nat} {a x : State} {v0 : _} (hw : 4 ||| W = W) (h : Good W a x) :
    Good W a { x with liveHist := v0 } :=
  h.of_same rfl rfl rfl rfl rfl (by
    intro p hp
    have hq := lor_eq_bit hw p.idx
    cases p <;> first | exact rfl | exact absurd (hq rfl) (by rw [hp]; exact Bool.false_ne_true))

theorem Good.upd_liveHist_geo_hst_mix_sched_plays_sup {W : Nat} {a x : State} {v0 : _} {v1 : _} {v2 : _} {v3 : _} {v4 : _} {v5 : _} {v6 : _} (hw : 4503737066327812 ||| W = W) (h : Good W a x) :
    Good W a { x with liveHist := v0, geo := v1, hst := v2, mix := v3, sched := v4, plays := v5, sup := v6 } :=
  h.of_same rfl rfl rfl rfl rfl (by
    intro p hp
    have hq := lor_eq_bit hw p.idx
    cases p <;> first | exact rfl | exact absurd (hq rfl) (by rw [hp]; exact Bool.false_ne_true))

theorem Good.upd_macs {W : Nat} {a x : State} {v0 : _} (hw : 8388608 ||| W = W) (h : Good W a x) :
    Good W a { x with macs := v0 } :=
  h.of_same rfl rfl rfl rfl rfl (by
    intro p hp
    have hq := lor_eq_bit hw p.idx
    cases p <;> first | exact rfl | exact absurd (hq rfl) (by rw [hp]; exact Bool.false_ne_true))

theorem Good.upd_maint {W : Nat} {a x : State} {v0 : _} (hw : 2199023255552 ||| W = W) (h : Good W a x) :
    Good W a { x with maint := v0 } :=
  h.of_same rfl rfl rfl rfl rfl (by
    intro p hp
    have hq := lor_eq_bit hw p.idx
    cases p <;> first | exact rfl | exact absurd (hq rfl) (by rw [hp]; exact Bool.false_ne_true))

theorem Good.upd_mics {W : Nat} {a x : State} {v0 : _} (hw : 524288 ||| W = W) (h : Good W a x) :
    Good W a { x with mics := v0 } :=
  h.of_same rfl rfl rfl rfl rfl (by
    intro p hp
    have hq := lor_eq_bit hw p.idx
    cases p <;> first | exact rfl | exact absurd (hq rfl) (by rw [hp]; exact Bool.false_ne_true))

theorem Good.upd_mir {W : Nat} {a x : State} {v0 : _} (hw : 281474976710656 ||| W = W) (h : Good W a x) :
    Good W a { x with mir := v0 } :=
  h.of_same rfl rfl rfl rfl rfl (by
    intro p hp
    have hq := lor_eq_bit hw p.idx
    cases p <;> first | exact rfl | exact absurd (hq rfl) (by rw [hp]; exact Bool.false_ne_true))

theorem Good.upd_mix {W : Nat} {a x : State} {v0 : _} (hw : 1024 ||| W = W) (h : Good W a x) :
    Good W a { x with mix := v0 } :=
  h.of_same rfl rfl rfl rfl rfl (by
    intro p hp
    have hq := lor_eq_bit hw p.idx
    cases p <;> first | exact rfl | exact absurd (hq rfl) (by rw [hp]; exact Bool.false_ne_true))

theorem Good.upd_mix_clk {W : Nat} {a x : State} {v0 : _} {v1 : _} (hw : 2251799813686272 ||| W = W) (h : Good W a x) :
    Good W a { x with mix := v0, clk := v1 } :=
  h.of_same rfl rfl rfl rfl rfl (by
    intro p hp
    have hq := lor_eq_bit hw p.idx
    cases p <;> first | exact rfl | exact absurd (hq rfl) (by rw [hp]; exact Bool.false_ne_true))

theorem Good.upd_mix_sup {W : Nat} {a x : State} {v0 : _} {v1 : _} (hw : 4503599627371520 ||| W = W) (h : Good W a x) :
    Good W a { x with mix := v0, sup := v1 } :=
  h.of_same rfl rfl rfl rfl rfl (by
    intro p hp
    have hq := lor_eq_bit hw p.idx
    cases p <;> first | exact rfl | exact absurd (hq rfl) (by rw [hp]; exact Bool.false_ne_true))

theorem Good.upd_msgs {W : Nat} {a x : State} {v0 : _} (hw : 68719476736 ||| W = W) (h : Good W a x) :
    Good W a { x with msgs := v0 } :=
  h.of_same rfl rfl rfl rfl rfl (by
    intro p hp
    have hq := lor_eq_bit hw p.idx
    cases p <;> first | exact rfl | exact absurd (hq rfl) (by rw [hp]; exact Bool.false_ne_true))

theorem Good.upd_msgs_lib {W : Nat} {a x : State} {v0 : _} {v1 : _} (hw : 70437463654400 ||| W = W) (h : Good W a x) :
    Good W a { x with msgs := v0, lib := v1 } :=
  h.of_same rfl rfl rfl rfl rfl (by
    intro p hp
    have hq := lor_eq_bit hw p.idx
    cases p <;> first | exact rfl | exact absurd (hq rfl) (by rw [hp]; exact Bool.false_ne_true))

theorem Good.upd_ost {W : Nat} {a x : State} {v0 : _} (hw : 4096 ||| W = W) (h : Good W a x) :
    Good W a { x with ost := v0 } :=
  h.of_same rfl rfl rfl rfl rfl (by
    intro p hp
    have hq := lor_eq_bit hw p.idx
    cases p <;> first | exact rfl | exact absurd (hq rfl) (by rw [hp]; exact Bool.false_ne_true))

theorem Good.upd_owner_former {W : Nat} {a x : State} {v0 : _} {v1 : _} (hw : 6442450944 ||| W = W) (h : Good W a x) :
    Good W a { x with owner := v0, former := v1 } :=
  h.of_same rfl rfl rfl rfl rfl (by
    intro p hp
    have hq := lor_eq_bit hw p.idx
    cases p <;> first | exact rfl | exact absurd (hq rfl) (by rw [hp]; exact Bool.false_ne_true))

theorem Good.upd_pins {W : Nat} {a x : State} {v0 : _} (hw : 536870912 ||| W = W) (h : Good W a x) :
    Good W a { x with pins := v0 } :=
  h.of_same rfl rfl rfl rfl rfl (by
    intro p hp
    have hq := lor_eq_bit hw p.idx
    cases p <;> first | exact rfl | exact absurd (hq rfl) (by rw [hp]; exact Bool.false_ne_true))

theorem Good.upd_plays {W : Nat} {a x : State} {v0 : _} (hw : 137438953472 ||| W = W) (h : Good W a x) :
    Good W a { x with plays := v0 } :=
  h.of_same rfl rfl rfl rfl rfl (by
    intro p hp
    have hq := lor_eq_bit hw p.idx
    cases p <;> first | exact rfl | exact absurd (hq rfl) (by rw [hp]; exact Bool.false_ne_true))

theorem Good.upd_ports {W : Nat} {a x : State} {v0 : _} (hw : 8589934592 ||| W = W) (h : Good W a x) :
    Good W a { x with ports := v0 } :=
  h.of_same rfl rfl rfl rfl rfl (by
    intro p hp
    have hq := lor_eq_bit hw p.idx
    cases p <;> first | exact rfl | exact absurd (hq rfl) (by rw [hp]; exact Bool.false_ne_true))

theorem Good.upd_ps {W : Nat} {a x : State} {v0 : _} (hw : 2097152 ||| W = W) (h : Good W a x) :
    Good W a { x with ps := v0 } :=
  h.of_same rfl rfl rfl rfl rfl (by
    intro p hp
    have hq := lor_eq_bit hw p.idx
    cases p <;> first | exact rfl | exact absurd (hq rfl) (by rw [hp]; exact Bool.false_ne_true))

theorem Good.upd_ptp {W : Nat} {a x : State} {v0 : _} (hw : 16777216 ||| W = W) (h : Good W a x) :
    Good W a { x with ptp := v0 } :=
  h.of_same rfl rfl rfl rfl rfl (by
    intro p hp
    have hq := lor_eq_bit hw p.idx
    cases p <;> first | exact rfl | exact absurd (hq rfl) (by rw [hp]; exact Bool.false_ne_true))

theorem Good.upd_sched {W : Nat} {a x : State} {v0 : _} (hw : 2048 ||| W = W) (h : Good W a x) :
    Good W a { x with sched := v0 } :=
  h.of_same rfl rfl rfl rfl rfl (by
    intro p hp
    have hq := lor_eq_bit hw p.idx
    cases p <;> first | exact rfl | exact absurd (hq rfl) (by rw [hp]; exact Bool.false_ne_true))

theorem Good.upd_sessions {W : Nat} {a x : State} {v0 : _} (hw : 1073741824 ||| W = W) (h : Good W a x) :
    Good W a { x with sessions := v0 } :=
  h.of_same rfl rfl rfl rfl rfl (by
    intro p hp
    have hq := lor_eq_bit hw p.idx
    cases p <;> first | exact rfl | exact absurd (hq rfl) (by rw [hp]; exact Bool.false_ne_true))

theorem Good.upd_srx {W : Nat} {a x : State} {v0 : _} (hw : 33554432 ||| W = W) (h : Good W a x) :
    Good W a { x with srx := v0 } :=
  h.of_same rfl rfl rfl rfl rfl (by
    intro p hp
    have hq := lor_eq_bit hw p.idx
    cases p <;> first | exact rfl | exact absurd (hq rfl) (by rw [hp]; exact Bool.false_ne_true))

theorem Good.upd_straps_flash_cel {W : Nat} {a x : State} {v0 : _} {v1 : _} {v2 : _} (hw : 563499709235328 ||| W = W) (h : Good W a x) :
    Good W a { x with straps := v0, flash := v1, cel := v2 } :=
  h.of_same rfl rfl rfl rfl rfl (by
    intro p hp
    have hq := lor_eq_bit hw p.idx
    cases p <;> first | exact rfl | exact absurd (hq rfl) (by rw [hp]; exact Bool.false_ne_true))

theorem Good.upd_stx {W : Nat} {a x : State} {v0 : _} (hw : 67108864 ||| W = W) (h : Good W a x) :
    Good W a { x with stx := v0 } :=
  h.of_same rfl rfl rfl rfl rfl (by
    intro p hp
    have hq := lor_eq_bit hw p.idx
    cases p <;> first | exact rfl | exact absurd (hq rfl) (by rw [hp]; exact Bool.false_ne_true))

theorem Good.upd_sup {W : Nat} {a x : State} {v0 : _} (hw : 4503599627370496 ||| W = W) (h : Good W a x) :
    Good W a { x with sup := v0 } :=
  h.of_same rfl rfl rfl rfl rfl (by
    intro p hp
    have hq := lor_eq_bit hw p.idx
    cases p <;> first | exact rfl | exact absurd (hq rfl) (by rw [hp]; exact Bool.false_ne_true))

theorem Good.upd_tdm {W : Nat} {a x : State} {v0 : _} (hw : 16384 ||| W = W) (h : Good W a x) :
    Good W a { x with tdm := v0 } :=
  h.of_same rfl rfl rfl rfl rfl (by
    intro p hp
    have hq := lor_eq_bit hw p.idx
    cases p <;> first | exact rfl | exact absurd (hq rfl) (by rw [hp]; exact Bool.false_ne_true))

theorem Good.upd_tly {W : Nat} {a x : State} {v0 : _} (hw : 4194304 ||| W = W) (h : Good W a x) :
    Good W a { x with tly := v0 } :=
  h.of_same rfl rfl rfl rfl rfl (by
    intro p hp
    have hq := lor_eq_bit hw p.idx
    cases p <;> first | exact rfl | exact absurd (hq rfl) (by rw [hp]; exact Bool.false_ne_true))

theorem Good.upd_tm {W : Nat} {a x : State} {v0 : _} (hw : 8 ||| W = W) (h : Good W a x) :
    Good W a { x with tm := v0 } :=
  h.of_same rfl rfl rfl rfl rfl (by
    intro p hp
    have hq := lor_eq_bit hw p.idx
    cases p <;> first | exact rfl | exact absurd (hq rfl) (by rw [hp]; exact Bool.false_ne_true))

theorem Good.upd_totals {W : Nat} {a x : State} {v0 : _} (hw : 17592186044416 ||| W = W) (h : Good W a x) :
    Good W a { x with totals := v0 } :=
  h.of_same rfl rfl rfl rfl rfl (by
    intro p hp
    have hq := lor_eq_bit hw p.idx
    cases p <;> first | exact rfl | exact absurd (hq rfl) (by rw [hp]; exact Bool.false_ne_true))

theorem Good.upd_totalsAt {W : Nat} {a x : State} {v0 : _} (hw : 35184372088832 ||| W = W) (h : Good W a x) :
    Good W a { x with totalsAt := v0 } :=
  h.of_same rfl rfl rfl rfl rfl (by
    intro p hp
    have hq := lor_eq_bit hw p.idx
    cases p <;> first | exact rfl | exact absurd (hq rfl) (by rw [hp]; exact Bool.false_ne_true))

theorem Good.upd_vox {W : Nat} {a x : State} {v0 : _} (hw : 131072 ||| W = W) (h : Good W a x) :
    Good W a { x with vox := v0 } :=
  h.of_same rfl rfl rfl rfl rfl (by
    intro p hp
    have hq := lor_eq_bit hw p.idx
    cases p <;> first | exact rfl | exact absurd (hq rfl) (by rw [hp]; exact Bool.false_ne_true))

end Sys2Proof.Machine
end

