-- ==== Sys2Proof/Laws/KeepOps.lean ====
section
/-! SUPPORT. What each operation of Machine/Ops.lean changes, and that it keeps what every operation keeps. -/

-- One proof at a time: the package as one text then takes less memory.
set_option Elab.async false

namespace Sys2Proof.Machine

open Sys2Proof

theorem State.wr_good : ∀ s a1 a2, Good 1 s (State.wr s a1 a2) := by
  intro s a1 a2
  exact Good.upd_reg rfl Cells.wf_set Good.refl

theorem State.wrLive_good : ∀ s a1 a2, Good 2 s (State.wrLive s a1 a2) := by
  intro s a1 a2
  exact Good.upd_live rfl Cells.wf_set Good.refl

theorem State.count_good : ∀ s a1 a2, Good 1 s (State.count s a1 a2) := by
  intro s a1 a2
  unfold State.count
  repeat' first
    | with_reducible exact Good.refl
    | with_reducible assumption
    | with_reducible apply Good.ite
    | (with_reducible apply Good.step (State.wr_good ..))
    | exact rfl

theorem State.bump_good : ∀ s a1, Good 1 s (State.bump s a1) := by
  intro s a1
  unfold State.bump
  repeat' first
    | with_reducible exact Good.refl
    | with_reducible assumption
    | (with_reducible apply Good.step (State.count_good ..))
    | exact rfl

theorem State.flag_good : ∀ s a1, Good 1 s (State.flag s a1) := by
  intro s a1
  unfold State.flag
  repeat' first
    | with_reducible exact Good.refl
    | with_reducible assumption
    | (with_reducible apply Good.step (State.wr_good ..))
    | exact rfl

theorem State.setByte_good : ∀ s a1 a2, Good 16 s (State.setByte s a1 a2) := by
  intro s a1 a2
  exact Good.upd_mem rfl Cells.wf_set Good.refl

theorem State.setBytes_good : ∀ s a1 a2, Good 16 s (State.setBytes s a1 a2) := by
  intro s a1 a2
  induction a2 generalizing s a1 with
  | nil => exact Good.refl
  | cons z zs ih =>
    unfold State.setBytes
    repeat' first
      | with_reducible exact Good.refl
      | with_reducible assumption
      | (with_reducible apply Good.step (ih ..))
      | (with_reducible apply Good.step (State.setByte_good ..))
      | exact rfl

theorem State.store_good : ∀ s a1 a2 a3, Good 16 s (State.store s a1 a2 a3) := by
  intro s a1 a2 a3
  unfold State.store
  repeat' first
    | with_reducible exact Good.refl
    | with_reducible assumption
    | (with_reducible apply Good.step (State.setBytes_good ..))
    | exact rfl

theorem State.atRaw_good : ∀ s a1, Good 8 s (State.atRaw s a1) := by
  intro s a1
  unfold State.atRaw
  repeat' first
    | with_reducible exact Good.refl
    | with_reducible assumption
    | (extract_lets +onlyGivenNames x; clear_value x)
    | exact rfl
    | (with_reducible apply Good.upd_tm)

theorem State.tick_good : ∀ s, Good 8 s (State.tick s) := by
  intro s
  unfold State.tick
  repeat' first
    | with_reducible exact Good.refl
    | with_reducible assumption
    | (extract_lets +onlyGivenNames x; clear_value x)
    | exact rfl
    | (with_reducible apply Good.upd_tm)

theorem State.later_good : ∀ s a1 a2, Good 2048 s (State.later s a1 a2) := by
  intro s a1 a2
  unfold State.later
  repeat' first
    | with_reducible exact Good.refl
    | with_reducible assumption
    | exact rfl
    | (with_reducible apply Good.upd_sched)

theorem State.unsched_good : ∀ s a1, Good 2048 s (State.unsched s a1) := by
  intro s a1
  unfold State.unsched
  repeat' first
    | with_reducible exact Good.refl
    | with_reducible assumption
    | exact rfl
    | (with_reducible apply Good.upd_sched)

theorem State.replaceChange_good : ∀ s a1 a2 a3, Good 2048 s (State.replaceChange s a1 a2 a3) := by
  intro s a1 a2 a3
  unfold State.replaceChange
  repeat' first
    | with_reducible exact Good.refl
    | with_reducible assumption
    | with_reducible apply Good.ite
    | (with_reducible apply Good.foldl)
    | (with_reducible apply Good.foldl_snd)
    | (with_reducible apply Good.foldl_fst)
    | (intro x b h; try beta_reduce)
    | exact rfl
    | (with_reducible apply Good.upd_sched)

theorem State.wrAt_good : ∀ s a1 a2 a3, Good 2049 s (State.wrAt s a1 a2 a3) := by
  intro s a1 a2 a3
  unfold State.wrAt
  repeat' first
    | with_reducible exact Good.refl
    | with_reducible assumption
    | (with_reducible apply Good.step (State.later_good ..))
    | (with_reducible apply Good.step (State.replaceChange_good ..))
    | (with_reducible apply Good.step (State.wr_good ..))
    | exact rfl

theorem State.wrNewest_good : ∀ s a1 a2 a3, Good 2049 s (State.wrNewest s a1 a2 a3) := by
  intro s a1 a2 a3
  unfold State.wrNewest
  repeat' first
    | with_reducible exact Good.refl
    | with_reducible assumption
    | (with_reducible apply Good.step (State.unsched_good ..))
    | (with_reducible apply Good.step (State.wrAt_good ..))
    | exact rfl

theorem State.wr64_good : ∀ s a1 a2 a3, Good 1 s (State.wr64 s a1 a2 a3) := by
  intro s a1 a2 a3
  unfold State.wr64
  repeat' first
    | with_reducible exact Good.refl
    | with_reducible assumption
    | (with_reducible apply Good.step (State.wr_good ..))
    | exact rfl

theorem State.fresh_good : ∀ s, Good 32 s (State.fresh s) := by
  intro s
  exact Good.upd_free rfl Good.refl

theorem State.setSession_good : ∀ s a1 a2, Good 1073741824 s (State.setSession s a1 a2) := by
  intro s a1 a2
  unfold State.setSession
  repeat' first
    | with_reducible exact Good.refl
    | with_reducible assumption
    | exact rfl
    | (with_reducible apply Good.upd_sessions)

end Sys2Proof.Machine
end

