-- ==== Sys2Proof/Laws/KeepGain.lean ====
section
/-! SUPPORT. What each operation of Machine/Gain.lean changes, and that it keeps what every operation keeps. -/

-- One proof at a time: the package as one text then takes less memory.
set_option Elab.async false

namespace Sys2Proof.Machine

open Sys2Proof

theorem State.setGainPath_good : ∀ s a1 a2, Good 1024 s (State.setGainPath s a1 a2) := by
  intro s a1 a2
  unfold State.setGainPath
  repeat' first
    | with_reducible exact Good.refl
    | with_reducible assumption
    | (extract_lets +onlyGivenNames x; clear_value x)
    | exact rfl
    | (with_reducible apply Good.upd_mix)

theorem State.setGate_good : ∀ s a1 a2 a3, Good 1024 s (State.setGate s a1 a2 a3) := by
  intro s a1 a2 a3
  unfold State.setGate
  repeat' first
    | with_reducible exact Good.refl
    | with_reducible assumption
    | (extract_lets +onlyGivenNames x; clear_value x)
    | exact rfl
    | (with_reducible apply Good.upd_mix)

theorem State.bindObj_good : ∀ s a1 a2 a3, Good 1049600 s (State.bindObj s a1 a2 a3) := by
  intro s a1 a2 a3
  unfold State.bindObj
  repeat' first
    | with_reducible exact Good.refl
    | with_reducible assumption
    | with_reducible apply Good.ite
    | (with_reducible apply Good.step (State.setGate_good ..))
    | exact rfl
    | (with_reducible apply Good.upd_bound)

end Sys2Proof.Machine
end

