-- ==== Sys2Proof/Laws/KeepPasture.lean ====
section
/-! SUPPORT. What each operation of Machine/Pasture.lean changes, and that it keeps what every operation keeps. -/

-- One proof at a time: the package as one text then takes less memory.
set_option Elab.async false

namespace Sys2Proof.Machine

open Sys2Proof

theorem State.setObj_good : ∀ s a1 a2, Good 256 s (State.setObj s a1 a2) := by
  intro s a1 a2
  unfold State.setObj
  repeat' first
    | with_reducible exact Good.refl
    | with_reducible assumption
    | (extract_lets +onlyGivenNames x; clear_value x)
    | exact rfl
    | (with_reducible apply Good.upd_geo)

theorem State.grantRoute_good : ∀ s a1 a2, Good 256 s (State.grantRoute s a1 a2) := by
  intro s a1 a2
  unfold State.grantRoute
  repeat' first
    | with_reducible exact Good.refl
    | with_reducible assumption
    | (extract_lets +onlyGivenNames x; clear_value x)
    | (with_reducible apply Good.step (State.setObj_good ..))
    | exact rfl
    | split

theorem State.ungrant_good : ∀ s a1 a2, Good 256 s (State.ungrant s a1 a2) := by
  intro s a1 a2
  unfold State.ungrant
  repeat' first
    | with_reducible exact Good.refl
    | with_reducible assumption
    | (extract_lets +onlyGivenNames x; clear_value x)
    | with_reducible apply Good.ite
    | (with_reducible apply Good.step (State.setObj_good ..))
    | exact rfl

theorem State.unform_good : ∀ s a1, Good 256 s (State.unform s a1) := by
  intro s a1
  unfold State.unform
  repeat' first
    | with_reducible exact Good.refl
    | with_reducible assumption
    | (with_reducible apply Good.foldl)
    | (with_reducible apply Good.foldl_snd)
    | (with_reducible apply Good.foldl_fst)
    | (intro x b h; try beta_reduce)
    | (with_reducible apply Good.step (State.ungrant_good ..))
    | exact rfl
    | split

theorem State.formList_good : ∀ s a1 a2, Good 256 s (State.formList s a1 a2).1 := by
  intro s a1 a2
  unfold State.formList
  repeat' first
    | with_reducible exact Good.refl
    | with_reducible assumption
    | (extract_lets +onlyGivenNames x; (have ht : type_of% x = State := rfl); clear ht; refine Good.cut (x := x) ?_ ?_; (on_goal 1 => (unfold x; clear x)); (on_goal 2 => intro hx; clear_value x))
    | (extract_lets +onlyGivenNames x; clear_value x)
    | (with_reducible apply Good.foldl)
    | (with_reducible apply Good.foldl_snd)
    | (with_reducible apply Good.foldl_fst)
    | (intro x b h; try beta_reduce)
    | (with_reducible apply Good.step (State.grantRoute_good ..))
    | dsimp -zeta only
    | exact rfl
    | split
    | (with_reducible apply Good.upd_geo)

theorem State.reformList_good : ∀ s a1, Good 256 s (State.reformList s a1) := by
  intro s a1
  unfold State.reformList
  repeat' first
    | with_reducible exact Good.refl
    | with_reducible assumption
    | (extract_lets +onlyGivenNames x; (have ht : type_of% x = State := rfl); clear ht; refine Good.cut (x := x) ?_ ?_; (on_goal 1 => (unfold x; clear x)); (on_goal 2 => intro hx; clear_value x))
    | (extract_lets +onlyGivenNames x; clear_value x)
    | (with_reducible apply Good.step (State.formList_good ..))
    | (with_reducible apply Good.step (State.unform_good ..))
    | (refine Good.fst ‹_› ?_)
    | exact rfl
    | split
    | (with_reducible apply Good.upd_geo)

end Sys2Proof.Machine
end

