-- ==== Sys2Proof/Laws/KeepHistory.lean ====
section
/-! SUPPORT. What each operation of Machine/History.lean changes, and that it keeps what every operation keeps. -/

-- One proof at a time: the package as one text then takes less memory.
set_option Elab.async false

namespace Sys2Proof.Machine

open Sys2Proof

theorem State.setRing_good : ∀ s a1 a2, Good 512 s (State.setRing s a1 a2) := by
  intro s a1 a2
  unfold State.setRing
  repeat' first
    | with_reducible exact Good.refl
    | with_reducible assumption
    | (extract_lets +onlyGivenNames x; clear_value x)
    | exact rfl
    | (with_reducible apply Good.upd_hst)

theorem State.setSlot_good : ∀ s a1 a2 a3, Good 16 s (State.setSlot s a1 a2 a3) := by
  intro s a1 a2 a3
  unfold State.setSlot
  repeat' first
    | with_reducible exact Good.refl
    | with_reducible assumption
    | (with_reducible apply Good.step (State.setBytes_good ..))
    | exact rfl

theorem State.failLog_good : ∀ s a1 a2 a3, Good 1 s (State.failLog s a1 a2 a3) := by
  intro s a1 a2 a3
  unfold State.failLog
  repeat' first
    | with_reducible exact Good.refl
    | with_reducible assumption
    | with_reducible apply Good.ite
    | (with_reducible apply Good.step (State.flag_good ..))
    | (with_reducible apply Good.step (State.wr_good ..))
    | exact rfl

theorem State.countUse_good : ∀ s a1 a2, Good 1 s (State.countUse s a1 a2) := by
  intro s a1 a2
  unfold State.countUse
  repeat' first
    | with_reducible exact Good.refl
    | with_reducible assumption
    | (extract_lets +onlyGivenNames x; (have ht : type_of% x = State := rfl); clear ht; refine Good.cut (x := x) ?_ ?_; (on_goal 1 => (unfold x; clear x)); (on_goal 2 => intro hx; clear_value x))
    | with_reducible apply Good.ite
    | (with_reducible apply Good.step (State.bump_good ..))
    | (with_reducible apply Good.step (State.failLog_good ..))
    | (with_reducible apply Good.step (State.flag_good ..))
    | exact rfl
    | split

theorem State.accBad_good : ∀ s a1, Good 1 s (State.accBad s a1) := by
  intro s a1
  unfold State.accBad
  repeat' first
    | with_reducible exact Good.refl
    | with_reducible assumption
    | (with_reducible apply Good.step (State.count_good ..))
    | (with_reducible apply Good.step (State.flag_good ..))
    | (with_reducible refine Good.when (fun y hy => ?_) ?_)
    | exact rfl

theorem State.accAdd_good : ∀ s a1 a2 a3 a4, Good 17 s (State.accAdd s a1 a2 a3 a4) := by
  intro s a1 a2 a3 a4
  unfold State.accAdd
  repeat' first
    | with_reducible exact Good.refl
    | with_reducible assumption
    | with_reducible apply Good.ite
    | (with_reducible apply Good.step (State.accBad_good ..))
    | (with_reducible apply Good.step (State.store_good ..))
    | exact rfl
    | split

theorem State.accAddAll_good : ∀ s a1 a2 a3 a4, Good 17 s (State.accAddAll s a1 a2 a3 a4) := by
  intro s a1 a2 a3 a4
  induction a3 generalizing s a1 a2 a4 with
  | nil => exact Good.refl
  | cons z zs ih =>
    unfold State.accAddAll
    repeat' first
      | with_reducible exact Good.refl
      | with_reducible assumption
      | (with_reducible apply Good.step (ih ..))
      | (with_reducible apply Good.step (State.accAdd_good ..))
      | exact rfl

theorem State.renderTap_good : ∀ s a1 a2, Good 17 s (State.renderTap s a1 a2) := by
  intro s a1 a2
  unfold State.renderTap
  repeat' first
    | with_reducible exact Good.refl
    | with_reducible assumption
    | (extract_lets +onlyGivenNames x; (have ht : type_of% x = State := rfl); clear ht; refine Good.cut (x := x) ?_ ?_; (on_goal 1 => (unfold x; clear x)); (on_goal 2 => intro hx; clear_value x))
    | (extract_lets +onlyGivenNames x; clear_value x)
    | (with_reducible apply Good.step (State.accAddAll_good ..))
    | (with_reducible apply Good.step (State.bump_good ..))
    | (with_reducible refine Good.when (fun y hy => ?_) ?_)
    | exact rfl
    | split

theorem State.busAdd_good : ∀ s a1 a2 a3, Good 17 s (State.busAdd s a1 a2 a3) := by
  intro s a1 a2 a3
  unfold State.busAdd
  repeat' first
    | with_reducible exact Good.refl
    | with_reducible assumption
    | (with_reducible apply Good.foldl)
    | (with_reducible apply Good.foldl_snd)
    | (with_reducible apply Good.foldl_fst)
    | (intro x b h; try beta_reduce)
    | (with_reducible apply Good.step (State.accAddAll_good ..))
    | exact rfl

theorem State.renderBus_good : ∀ s a1 a2, Good 17 s (State.renderBus s a1 a2) := by
  intro s a1 a2
  unfold State.renderBus
  repeat' first
    | with_reducible exact Good.refl
    | with_reducible assumption
    | (extract_lets +onlyGivenNames x; clear_value x)
    | with_reducible apply Good.ite
    | (with_reducible apply Good.step (State.bump_good ..))
    | (with_reducible apply Good.step (State.busAdd_good ..))
    | (with_reducible refine Good.when (fun y hy => ?_) ?_)
    | exact rfl

theorem State.renderBlock_good : ∀ s a1 a2, Good 17 s (State.renderBlock s a1 a2) := by
  intro s a1 a2
  unfold State.renderBlock
  repeat' first
    | with_reducible exact Good.refl
    | with_reducible assumption
    | (extract_lets +onlyGivenNames x; (have ht : type_of% x = State := rfl); clear ht; refine Good.cut (x := x) ?_ ?_; (on_goal 1 => (unfold x; clear x)); (on_goal 2 => intro hx; clear_value x))
    | (extract_lets +onlyGivenNames x; clear_value x)
    | with_reducible apply Good.ite
    | (with_reducible apply Good.foldl)
    | (with_reducible apply Good.foldl_snd)
    | (with_reducible apply Good.foldl_fst)
    | (intro x b h; try beta_reduce)
    | (with_reducible apply Good.step (State.countUse_good ..))
    | (with_reducible apply Good.step (State.renderBus_good ..))
    | (with_reducible apply Good.step (State.renderTap_good ..))
    | exact rfl

theorem State.land_good : ∀ s a1 a2 a3 a4 a5, Good 529 s (State.land s a1 a2 a3 a4 a5) := by
  intro s a1 a2 a3 a4 a5
  unfold State.land
  repeat' first
    | with_reducible exact Good.refl
    | with_reducible assumption
    | (extract_lets +onlyGivenNames x; (have ht : type_of% x = State := rfl); clear ht; refine Good.cut (x := x) ?_ ?_; (on_goal 1 => (unfold x; clear x)); (on_goal 2 => intro hx; clear_value x))
    | (extract_lets +onlyGivenNames x; clear_value x)
    | with_reducible apply Good.ite
    | (with_reducible apply Good.step (State.bump_good ..))
    | (with_reducible apply Good.step (State.setRing_good ..))
    | (with_reducible apply Good.step (State.setSlot_good ..))
    | (with_reducible refine Good.when (fun y hy => ?_) ?_)
    | exact rfl

theorem State.substitute_good : ∀ s a1 a2, Good 529 s (State.substitute s a1 a2) := by
  intro s a1 a2
  unfold State.substitute
  repeat' first
    | with_reducible exact Good.refl
    | with_reducible assumption
    | (extract_lets +onlyGivenNames x; (have ht : type_of% x = State := rfl); clear ht; refine Good.cut (x := x) ?_ ?_; (on_goal 1 => (unfold x; clear x)); (on_goal 2 => intro hx; clear_value x))
    | (extract_lets +onlyGivenNames x; clear_value x)
    | with_reducible apply Good.ite
    | (with_reducible apply Good.step (State.bump_good ..))
    | (with_reducible apply Good.step (State.countUse_good ..))
    | (with_reducible apply Good.step (State.flag_good ..))
    | (with_reducible apply Good.step (State.setRing_good ..))
    | (with_reducible apply Good.step (State.setSlot_good ..))
    | exact rfl

theorem State.substituteAll_good : ∀ s a1, Good 529 s (State.substituteAll s a1) := by
  intro s a1
  unfold State.substituteAll
  repeat' first
    | with_reducible exact Good.refl
    | with_reducible assumption
    | (with_reducible apply Good.foldl)
    | (with_reducible apply Good.foldl_snd)
    | (with_reducible apply Good.foldl_fst)
    | (intro x b h; try beta_reduce)
    | (with_reducible apply Good.step (State.substitute_good ..))
    | exact rfl

theorem State.queueCopies_good : ∀ s a1, Good 512 s (State.queueCopies s a1) := by
  intro s a1
  unfold State.queueCopies
  repeat' first
    | with_reducible exact Good.refl
    | with_reducible assumption
    | (extract_lets +onlyGivenNames x; clear_value x)
    | with_reducible apply Good.ite
    | exact rfl
    | (with_reducible apply Good.upd_hst)

theorem State.assignRings_good : ∀ s, Good 512 s (State.assignRings s) := by
  intro s
  unfold State.assignRings
  repeat' first
    | with_reducible exact Good.refl
    | with_reducible assumption
    | (extract_lets +onlyGivenNames x; (have ht : type_of% x = State := rfl); clear ht; refine Good.cut (x := x) ?_ ?_; (on_goal 1 => (unfold x; clear x)); (on_goal 2 => intro hx; clear_value x))
    | (extract_lets +onlyGivenNames x; clear_value x)
    | with_reducible apply Good.ite
    | (with_reducible apply Good.foldl)
    | (with_reducible apply Good.foldl_snd)
    | (with_reducible apply Good.foldl_fst)
    | (intro x b h; try beta_reduce)
    | (with_reducible apply Good.step (State.setRing_good ..))
    | exact rfl
    | split
    | (with_reducible apply Good.upd_hst)

theorem State.grantLong_good : ∀ s a1 a2 a3, Good 512 s (State.grantLong s a1 a2 a3) := by
  intro s a1 a2 a3
  unfold State.grantLong
  repeat' first
    | with_reducible exact Good.refl
    | with_reducible assumption
    | (extract_lets +onlyGivenNames x; clear_value x)
    | with_reducible apply Good.ite
    | exact rfl
    | (with_reducible apply Good.upd_hst)

theorem State.unwriteSlots_good : ∀ s, Good 1536 s (State.unwriteSlots s) := by
  intro s
  unfold State.unwriteSlots
  repeat' first
    | with_reducible exact Good.refl
    | with_reducible assumption
    | (extract_lets +onlyGivenNames x; clear_value x)
    | exact rfl
    | (with_reducible apply Good.upd_hst_mix)

end Sys2Proof.Machine
end

