-- ==== Sys2Proof/Laws/KeepChain.lean ====
section
/-! SUPPORT. What each operation of Machine/Chain.lean changes, and that it keeps what every operation keeps. -/

-- One proof at a time: the package as one text then takes less memory.
set_option Elab.async false

namespace Sys2Proof.Machine

open Sys2Proof

theorem State.setChain_good : ∀ s a1 a2, Good 1024 s (State.setChain s a1 a2) := by
  intro s a1 a2
  unfold State.setChain
  repeat' first
    | with_reducible exact Good.refl
    | with_reducible assumption
    | (extract_lets +onlyGivenNames x; clear_value x)
    | exact rfl
    | (with_reducible apply Good.upd_mix)

theorem State.accClear_good : ∀ s a1, Good 16 s (State.accClear s a1) := by
  intro s a1
  exact Good.upd_mem rfl Cells.wf_filter Good.refl

theorem State.setSpec_good : ∀ s a1 a2, Good 1024 s (State.setSpec s a1 a2) := by
  intro s a1 a2
  unfold State.setSpec
  repeat' first
    | with_reducible exact Good.refl
    | with_reducible assumption
    | (extract_lets +onlyGivenNames x; clear_value x)
    | exact rfl
    | (with_reducible apply Good.upd_mix)

theorem State.silentChains_good : ∀ s a1, Good 1024 s (State.silentChains s a1) := by
  intro s a1
  unfold State.silentChains
  repeat' first
    | with_reducible exact Good.refl
    | with_reducible assumption
    | (extract_lets +onlyGivenNames x; clear_value x)
    | (with_reducible apply Good.foldl)
    | (with_reducible apply Good.foldl_snd)
    | (with_reducible apply Good.foldl_fst)
    | exact rfl
    | (with_reducible apply Good.upd_mix)

theorem State.writeCoefs_good : ∀ s a1 a2 a3, Good 1056 s (State.writeCoefs s a1 a2 a3) := by
  intro s a1 a2 a3
  unfold State.writeCoefs
  repeat' first
    | with_reducible exact Good.refl
    | with_reducible assumption
    | (with_reducible apply Good.foldl)
    | (with_reducible apply Good.foldl_snd)
    | (with_reducible apply Good.foldl_fst)
    | (intro x b h; try beta_reduce)
    | (with_reducible apply Good.step (State.fresh_good ..))
    | (with_reducible apply Good.step (State.setSpec_good ..))
    | exact rfl

theorem State.writeInputs_good : ∀ s a1 a2, Good 1056 s (State.writeInputs s a1 a2) := by
  intro s a1 a2
  unfold State.writeInputs
  repeat' first
    | with_reducible exact Good.refl
    | with_reducible assumption
    | (extract_lets +onlyGivenNames x; clear_value x)
    | with_reducible apply Good.ite
    | (with_reducible apply Good.foldl)
    | (with_reducible apply Good.foldl_snd)
    | (with_reducible apply Good.foldl_fst)
    | (intro x b h; try beta_reduce)
    | (with_reducible apply Good.step (State.fresh_good ..))
    | (with_reducible apply Good.step (State.setSpec_good ..))
    | exact rfl

theorem State.damageSpec_good : ∀ s a1 a2, Good 1024 s (State.damageSpec s a1 a2) := by
  intro s a1 a2
  unfold State.damageSpec
  repeat' first
    | with_reducible exact Good.refl
    | with_reducible assumption
    | (extract_lets +onlyGivenNames x; clear_value x)
    | with_reducible apply Good.ite
    | (with_reducible apply Good.step (State.setSpec_good ..))
    | exact rfl

theorem State.coefFails_good : ∀ s a1 a2 a3 a4, Good 1025 s (State.coefFails s a1 a2 a3 a4) := by
  intro s a1 a2 a3 a4
  unfold State.coefFails
  repeat' first
    | with_reducible exact Good.refl
    | with_reducible assumption
    | (extract_lets +onlyGivenNames x; clear_value x)
    | (with_reducible apply Good.step (State.bump_good ..))
    | (with_reducible apply Good.step (State.flag_good ..))
    | exact rfl
    | (with_reducible apply Good.upd_mix)

theorem State.inputFails_good : ∀ s a1 a2 a3 a4, Good 1025 s (State.inputFails s a1 a2 a3 a4) := by
  intro s a1 a2 a3 a4
  unfold State.inputFails
  repeat' first
    | with_reducible exact Good.refl
    | with_reducible assumption
    | (extract_lets +onlyGivenNames x; (have ht : type_of% x = State := rfl); clear ht; refine Good.cut (x := x) ?_ ?_; (on_goal 1 => (unfold x; clear x)); (on_goal 2 => intro hx; clear_value x))
    | (extract_lets +onlyGivenNames x; clear_value x)
    | (with_reducible apply Good.step (State.bump_good ..))
    | exact rfl
    | (with_reducible apply Good.upd_mix)

theorem State.usePart_good : ∀ s a1 a2 a3 a4 a5, Good 1025 s (State.usePart s a1 a2 a3 a4 a5) := by
  intro s a1 a2 a3 a4 a5
  unfold State.usePart
  repeat' first
    | with_reducible exact Good.refl
    | with_reducible assumption
    | (extract_lets +onlyGivenNames x; (have ht : type_of% x = State := rfl); clear ht; refine Good.cut (x := x) ?_ ?_; (on_goal 1 => (unfold x; clear x)); (on_goal 2 => intro hx; clear_value x))
    | (extract_lets +onlyGivenNames x; clear_value x)
    | with_reducible apply Good.ite
    | (with_reducible apply Good.step (State.coefFails_good ..))
    | (with_reducible apply Good.step (State.inputFails_good ..))
    | exact rfl
    | split

theorem State.useSpecs_good : ∀ s a1 a2, Good 1025 s (State.useSpecs s a1 a2) := by
  intro s a1 a2
  unfold State.useSpecs
  repeat' first
    | with_reducible exact Good.refl
    | with_reducible assumption
    | (extract_lets +onlyGivenNames x; (have ht : type_of% x = State := rfl); clear ht; refine Good.cut (x := x) ?_ ?_; (on_goal 1 => (unfold x; clear x)); (on_goal 2 => intro hx; clear_value x))
    | (extract_lets +onlyGivenNames x; clear_value x)
    | with_reducible apply Good.ite
    | (with_reducible apply Good.foldl)
    | (with_reducible apply Good.foldl_snd)
    | (with_reducible apply Good.foldl_fst)
    | (intro x b h; try beta_reduce)
    | (with_reducible apply Good.step (State.usePart_good ..))
    | exact rfl
    | (with_reducible apply Good.upd_mix)

theorem State.writeOdly_good : ∀ s a1 a2 a3, Good 1024 s (State.writeOdly s a1 a2 a3) := by
  intro s a1 a2 a3
  unfold State.writeOdly
  repeat' first
    | with_reducible exact Good.refl
    | with_reducible assumption
    | (extract_lets +onlyGivenNames x; clear_value x)
    | with_reducible apply Good.ite
    | exact rfl
    | (with_reducible apply Good.upd_mix)

theorem State.release_good : ∀ s a1 a2 a3 a4, Good 1024 s (State.release s a1 a2 a3 a4) := by
  intro s a1 a2 a3 a4
  unfold State.release
  repeat' first
    | with_reducible exact Good.refl
    | with_reducible assumption
    | (extract_lets +onlyGivenNames x; (have ht : type_of% x = State := rfl); clear ht; refine Good.cut (x := x) ?_ ?_; (on_goal 1 => (unfold x; clear x)); (on_goal 2 => intro hx; clear_value x))
    | (extract_lets +onlyGivenNames x; clear_value x)
    | with_reducible apply Good.ite
    | (with_reducible apply Good.step (State.setChain_good ..))
    | exact rfl
    | (with_reducible apply Good.upd_mix)

theorem State.runChain_good : ∀ s a1 a2 a3, Good 1057 s (State.runChain s a1 a2 a3) := by
  intro s a1 a2 a3
  unfold State.runChain
  repeat' first
    | with_reducible exact Good.refl
    | with_reducible assumption
    | (extract_lets +onlyGivenNames x; (have ht : type_of% x = State := rfl); clear ht; refine Good.cut (x := x) ?_ ?_; (on_goal 1 => (unfold x; clear x)); (on_goal 2 => intro hx; clear_value x))
    | (extract_lets +onlyGivenNames x; clear_value x)
    | with_reducible apply Good.ite
    | (with_reducible apply Good.foldl)
    | (with_reducible apply Good.foldl_snd)
    | (with_reducible apply Good.foldl_fst)
    | (intro x b h; try beta_reduce)
    | (with_reducible apply Good.step (State.countUse_good ..))
    | (with_reducible apply Good.step (State.release_good ..))
    | (with_reducible apply Good.step (State.setChain_good ..))
    | (with_reducible apply Good.step (State.wr_good ..))
    | (with_reducible apply Good.step (State.writeInputs_good ..))
    | (with_reducible apply Good.step (State.writeOdly_good ..))
    | exact rfl

theorem State.stageC_good : ∀ s a1 a2, Good 1073 s (State.stageC s a1 a2) := by
  intro s a1 a2
  unfold State.stageC
  repeat' first
    | with_reducible exact Good.refl
    | with_reducible assumption
    | (extract_lets +onlyGivenNames x; (have ht : type_of% x = State := rfl); clear ht; refine Good.cut (x := x) ?_ ?_; (on_goal 1 => (unfold x; clear x)); (on_goal 2 => intro hx; clear_value x))
    | (extract_lets +onlyGivenNames x; clear_value x)
    | with_reducible apply Good.ite
    | (with_reducible apply Good.foldl)
    | (with_reducible apply Good.foldl_snd)
    | (with_reducible apply Good.foldl_fst)
    | (intro x b h; try beta_reduce)
    | (with_reducible apply Good.step (State.accBad_good ..))
    | (with_reducible apply Good.step (State.accClear_good ..))
    | (with_reducible apply Good.step (State.fresh_good ..))
    | (with_reducible apply Good.step (State.runChain_good ..))
    | exact rfl
    | (with_reducible apply Good.upd_mix)

end Sys2Proof.Machine
end

