-- ==== Sys2Proof/Laws/KeepSession.lean ====
section
/-! SUPPORT. What each operation of Machine/Session.lean changes, and that it keeps what every operation keeps. -/

-- One proof at a time: the package as one text then takes less memory.
set_option Elab.async false

namespace Sys2Proof.Machine

open Sys2Proof

theorem State.setPort_good : ∀ s a1 a2, Good 8589934592 s (State.setPort s a1 a2) := by
  intro s a1 a2
  unfold State.setPort
  repeat' first
    | with_reducible exact Good.refl
    | with_reducible assumption
    | exact rfl
    | (with_reducible apply Good.upd_ports)

theorem State.enqueue_good : ∀ s a1 a2, Good 8589934592 s (State.enqueue s a1 a2) := by
  intro s a1 a2
  unfold State.enqueue
  repeat' first
    | with_reducible exact Good.refl
    | with_reducible assumption
    | (extract_lets +onlyGivenNames x; clear_value x)
    | with_reducible apply Good.ite
    | (with_reducible apply Good.step (State.setPort_good ..))
    | exact rfl

theorem State.moveEvent_good : ∀ s a1, Good 9663676416 s (State.moveEvent s a1) := by
  intro s a1
  unfold State.moveEvent
  repeat' first
    | with_reducible exact Good.refl
    | with_reducible assumption
    | (extract_lets +onlyGivenNames x; clear_value x)
    | with_reducible apply Good.ite
    | (with_reducible apply Good.step (State.enqueue_good ..))
    | (with_reducible apply Good.step (State.setSession_good ..))
    | exact rfl
    | split

theorem State.pump_good : ∀ s a1, Good 9663676416 s (State.pump s a1) := by
  intro s a1
  induction a1 generalizing s with
  | zero => exact Good.refl
  | succ n ih =>
    unfold State.pump
    repeat' first
      | with_reducible exact Good.refl
      | with_reducible assumption
      | (with_reducible apply Good.step (ih ..))
      | with_reducible apply Good.ite
      | (with_reducible apply Good.foldl)
      | (with_reducible apply Good.foldl_snd)
      | (with_reducible apply Good.foldl_fst)
      | (intro x b h; try beta_reduce)
      | (with_reducible apply Good.step (State.moveEvent_good ..))
      | exact rfl

theorem State.eventTo_good : ∀ s a1 a2 a3, Good 9663676417 s (State.eventTo s a1 a2 a3) := by
  intro s a1 a2 a3
  unfold State.eventTo
  repeat' first
    | with_reducible exact Good.refl
    | with_reducible assumption
    | (extract_lets +onlyGivenNames x; clear_value x)
    | with_reducible apply Good.ite
    | (with_reducible apply Good.step (State.bump_good ..))
    | (with_reducible apply Good.step (State.pump_good ..))
    | (with_reducible apply Good.step (State.setSession_good ..))
    | exact rfl

theorem State.eventAll_good : ∀ s a1 a2, Good 9663676417 s (State.eventAll s a1 a2) := by
  intro s a1 a2
  unfold State.eventAll
  repeat' first
    | with_reducible exact Good.refl
    | with_reducible assumption
    | (with_reducible apply Good.foldl)
    | (with_reducible apply Good.foldl_snd)
    | (with_reducible apply Good.foldl_fst)
    | (intro x b h; try beta_reduce)
    | (with_reducible apply Good.step (State.eventTo_good ..))
    | exact rfl

theorem State.eventOps_good : ∀ s a1 a2, Good 9663676417 s (State.eventOps s a1 a2) := by
  intro s a1 a2
  unfold State.eventOps
  repeat' first
    | with_reducible exact Good.refl
    | with_reducible assumption
    | with_reducible apply Good.ite
    | (with_reducible apply Good.foldl)
    | (with_reducible apply Good.foldl_snd)
    | (with_reducible apply Good.foldl_fst)
    | (intro x b h; try beta_reduce)
    | (with_reducible apply Good.step (State.eventTo_good ..))
    | exact rfl

theorem State.eventOwner_good : ∀ s a1 a2 a3, Good 9663676417 s (State.eventOwner s a1 a2 a3) := by
  intro s a1 a2 a3
  unfold State.eventOwner
  repeat' first
    | with_reducible exact Good.refl
    | with_reducible assumption
    | (with_reducible apply Good.step (State.eventTo_good ..))
    | exact rfl
    | split

theorem State.evPower_good : ∀ s a1 a2 a3 a4, Good 9663676417 s (State.evPower s a1 a2 a3 a4) := by
  intro s a1 a2 a3 a4
  unfold State.evPower
  repeat' first
    | with_reducible exact Good.refl
    | with_reducible assumption
    | (with_reducible apply Good.step (State.eventOwner_good ..))
    | exact rfl

theorem State.evLine_good : ∀ s a1 a2 a3 a4 a5, Good 9663676417 s (State.evLine s a1 a2 a3 a4 a5) := by
  intro s a1 a2 a3 a4 a5
  unfold State.evLine
  repeat' first
    | with_reducible exact Good.refl
    | with_reducible assumption
    | (with_reducible apply Good.step (State.eventOwner_good ..))
    | exact rfl

theorem State.evOwner_good : ∀ s a1 a2 a3 a4, Good 9663676417 s (State.evOwner s a1 a2 a3 a4) := by
  intro s a1 a2 a3 a4
  unfold State.evOwner
  repeat' first
    | with_reducible exact Good.refl
    | with_reducible assumption
    | (with_reducible apply Good.step (State.eventTo_good ..))
    | exact rfl

theorem State.evSupply_good : ∀ s a1 a2 a3, Good 9663676417 s (State.evSupply s a1 a2 a3) := by
  intro s a1 a2 a3
  unfold State.evSupply
  repeat' first
    | with_reducible exact Good.refl
    | with_reducible assumption
    | (with_reducible apply Good.step (State.eventAll_good ..))
    | exact rfl

theorem State.evMirror_good : ∀ s a1, Good 9663676417 s (State.evMirror s a1) := by
  intro s a1
  unfold State.evMirror
  repeat' first
    | with_reducible exact Good.refl
    | with_reducible assumption
    | (with_reducible apply Good.step (State.eventAll_good ..))
    | exact rfl

theorem State.evTime_good : ∀ s a1 a2, Good 9663676417 s (State.evTime s a1 a2) := by
  intro s a1 a2
  unfold State.evTime
  repeat' first
    | with_reducible exact Good.refl
    | with_reducible assumption
    | (with_reducible apply Good.step (State.eventAll_good ..))
    | exact rfl

theorem State.remember_good : ∀ s a1 a2 a3, Good 1073741824 s (State.remember s a1 a2 a3) := by
  intro s a1 a2 a3
  unfold State.remember
  repeat' first
    | with_reducible exact Good.refl
    | with_reducible assumption
    | (extract_lets +onlyGivenNames x; clear_value x)
    | (with_reducible apply Good.step (State.setSession_good ..))
    | exact rfl
    | split

theorem State.reply_good : ∀ s a1 a2 a3 a4 a5 a6, Good 9663676416 s (State.reply s a1 a2 a3 a4 a5 a6) := by
  intro s a1 a2 a3 a4 a5 a6
  unfold State.reply
  repeat' first
    | with_reducible exact Good.refl
    | with_reducible assumption
    | (extract_lets +onlyGivenNames x; (have ht : type_of% x = State := rfl); clear ht; refine Good.cut (x := x) ?_ ?_; (on_goal 1 => (unfold x; clear x)); (on_goal 2 => intro hx; clear_value x))
    | (extract_lets +onlyGivenNames x; clear_value x)
    | with_reducible apply Good.ite
    | (with_reducible apply Good.foldl)
    | (with_reducible apply Good.foldl_snd)
    | (with_reducible apply Good.foldl_fst)
    | (intro x b h; try beta_reduce)
    | (with_reducible apply Good.step (State.enqueue_good ..))
    | (with_reducible apply Good.step (State.remember_good ..))
    | exact rfl

theorem State.setOwner_good : ∀ s a1 a2 a3, Good 6442450944 s (State.setOwner s a1 a2 a3) := by
  intro s a1 a2 a3
  unfold State.setOwner
  repeat' first
    | with_reducible exact Good.refl
    | with_reducible assumption
    | (extract_lets +onlyGivenNames x; clear_value x)
    | exact rfl
    | split
    | (with_reducible apply Good.upd_owner_former)

theorem State.releaseRefs_good : ∀ s a1 a2, Good 16106127361 s (State.releaseRefs s a1 a2) := by
  intro s a1 a2
  unfold State.releaseRefs
  repeat' first
    | with_reducible exact Good.refl
    | with_reducible assumption
    | (extract_lets +onlyGivenNames x; (have ht : type_of% x = State := rfl); clear ht; refine Good.cut (x := x) ?_ ?_; (on_goal 1 => (unfold x; clear x)); (on_goal 2 => intro hx; clear_value x))
    | (extract_lets +onlyGivenNames x; clear_value x)
    | with_reducible apply Good.ite
    | (with_reducible apply Good.foldl)
    | (with_reducible apply Good.foldl_snd)
    | (with_reducible apply Good.foldl_fst)
    | (intro x b h; try beta_reduce)
    | (with_reducible apply Good.step (State.evOwner_good ..))
    | (with_reducible apply Good.step (State.setOwner_good ..))
    | exact rfl

theorem State.showOpen_good : ∀ s, Good 1 s (State.showOpen s) := by
  intro s
  unfold State.showOpen
  repeat' first
    | with_reducible exact Good.refl
    | with_reducible assumption
    | (with_reducible apply Good.step (State.wr_good ..))
    | exact rfl

theorem State.endMaint_good : ∀ s, Good 2199023255553 s (State.endMaint s) := by
  intro s
  unfold State.endMaint
  repeat' first
    | with_reducible exact Good.refl
    | with_reducible assumption
    | (with_reducible apply Good.step (State.wr_good ..))
    | exact rfl
    | (with_reducible apply Good.upd_maint)

theorem State.dropHeld_good : ∀ s a1, Good 2542620639233 s (State.dropHeld s a1) := by
  intro s a1
  unfold State.dropHeld
  repeat' first
    | with_reducible exact Good.refl
    | with_reducible assumption
    | (extract_lets +onlyGivenNames x; (have ht : type_of% x = State := rfl); clear ht; refine Good.cut (x := x) ?_ ?_; (on_goal 1 => (unfold x; clear x)); (on_goal 2 => intro hx; clear_value x))
    | with_reducible apply Good.ite
    | (with_reducible apply Good.step (State.endMaint_good ..))
    | exact rfl
    | split
    | (with_reducible apply Good.upd_fw)
    | (with_reducible apply Good.upd_msgs)

theorem State.closeSession_good : ∀ s a1, Good 2558726766593 s (State.closeSession s a1) := by
  intro s a1
  unfold State.closeSession
  repeat' first
    | with_reducible exact Good.refl
    | with_reducible assumption
    | (extract_lets +onlyGivenNames x; (have ht : type_of% x = State := rfl); clear ht; refine Good.cut (x := x) ?_ ?_; (on_goal 1 => (unfold x; clear x)); (on_goal 2 => intro hx; clear_value x))
    | (with_reducible apply Good.step (State.dropHeld_good ..))
    | (with_reducible apply Good.step (State.releaseRefs_good ..))
    | (with_reducible apply Good.step (State.setSession_good ..))
    | (with_reducible apply Good.step (State.showOpen_good ..))
    | exact rfl
    | (with_reducible apply Good.upd_former)

theorem State.showBusy_good : ∀ s, Good 1 s (State.showBusy s) := by
  intro s
  unfold State.showBusy
  repeat' first
    | with_reducible exact Good.refl
    | with_reducible assumption
    | (with_reducible apply Good.step (State.wr_good ..))
    | exact rfl

theorem State.beginLong_good : ∀ s a1 a2 a3 a4 a5, Good 8589934593 s (State.beginLong s a1 a2 a3 a4 a5) := by
  intro s a1 a2 a3 a4 a5
  unfold State.beginLong
  repeat' first
    | with_reducible exact Good.refl
    | with_reducible assumption
    | (extract_lets +onlyGivenNames x; clear_value x)
    | (with_reducible apply Good.step (State.setPort_good ..))
    | (with_reducible apply Good.step (State.showBusy_good ..))
    | exact rfl

theorem State.longArg_good : ∀ s a1 a2, Good 8589934592 s (State.longArg s a1 a2) := by
  intro s a1 a2
  unfold State.longArg
  repeat' first
    | with_reducible exact Good.refl
    | with_reducible assumption
    | (extract_lets +onlyGivenNames x; clear_value x)
    | (with_reducible apply Good.step (State.setPort_good ..))
    | exact rfl

theorem State.beginDevice_good : ∀ s a1 a2 a3 a4, Good 17179869185 s (State.beginDevice s a1 a2 a3 a4) := by
  intro s a1 a2 a3 a4
  unfold State.beginDevice
  repeat' first
    | with_reducible exact Good.refl
    | with_reducible assumption
    | (with_reducible apply Good.step (State.showBusy_good ..))
    | exact rfl
    | (with_reducible apply Good.upd_devBusy)

theorem State.endLong_good : ∀ s a1 a2 a3, Good 9663676417 s (State.endLong s a1 a2 a3) := by
  intro s a1 a2 a3
  unfold State.endLong
  repeat' first
    | with_reducible exact Good.refl
    | with_reducible assumption
    | (extract_lets +onlyGivenNames x; (have ht : type_of% x = State := rfl); clear ht; refine Good.cut (x := x) ?_ ?_; (on_goal 1 => (unfold x; clear x)); (on_goal 2 => intro hx; clear_value x))
    | (extract_lets +onlyGivenNames x; clear_value x)
    | with_reducible apply Good.ite
    | (with_reducible apply Good.step (State.reply_good ..))
    | (with_reducible apply Good.step (State.setPort_good ..))
    | (with_reducible apply Good.step (State.showBusy_good ..))
    | exact rfl
    | split

theorem State.endDevice_good : ∀ s a1 a2, Good 26843545601 s (State.endDevice s a1 a2) := by
  intro s a1 a2
  unfold State.endDevice
  repeat' first
    | with_reducible exact Good.refl
    | with_reducible assumption
    | (extract_lets +onlyGivenNames x; (have ht : type_of% x = State := rfl); clear ht; refine Good.cut (x := x) ?_ ?_; (on_goal 1 => (unfold x; clear x)); (on_goal 2 => intro hx; clear_value x))
    | with_reducible apply Good.ite
    | (with_reducible apply Good.step (State.reply_good ..))
    | (with_reducible apply Good.step (State.showBusy_good ..))
    | exact rfl
    | split
    | (with_reducible apply Good.upd_devBusy)

theorem State.accept_good : ∀ s a1 a2, Good 1073741824 s (State.accept s a1 a2) := by
  intro s a1 a2
  unfold State.accept
  repeat' first
    | with_reducible exact Good.refl
    | with_reducible assumption
    | (extract_lets +onlyGivenNames x; clear_value x)
    | (with_reducible apply Good.step (State.setSession_good ..))
    | exact rfl

theorem State.takePlace_good : ∀ s a1 a2 a3, Good 1073741824 s (State.takePlace s a1 a2 a3) := by
  intro s a1 a2 a3
  unfold State.takePlace
  repeat' first
    | with_reducible exact Good.refl
    | with_reducible assumption
    | (extract_lets +onlyGivenNames x; clear_value x)
    | with_reducible apply Good.ite
    | (with_reducible apply Good.step (State.setSession_good ..))
    | exact rfl

theorem State.takeInbound_good : ∀ s a1, Good 8589934592 s (State.takeInbound s a1) := by
  intro s a1
  unfold State.takeInbound
  repeat' first
    | with_reducible exact Good.refl
    | with_reducible assumption
    | (extract_lets +onlyGivenNames x; clear_value x)
    | with_reducible apply Good.ite
    | (with_reducible apply Good.step (State.setPort_good ..))
    | exact rfl

theorem State.heard_good : ∀ s a1, Good 1073741824 s (State.heard s a1) := by
  intro s a1
  unfold State.heard
  repeat' first
    | with_reducible exact Good.refl
    | with_reducible assumption
    | (extract_lets +onlyGivenNames x; clear_value x)
    | (with_reducible apply Good.step (State.setSession_good ..))
    | exact rfl

/-- The state a reception leaves after step 6 of R277. -/
def Heard.left : Heard → State
  | .accepted _ s => s
  | .done s => s

theorem Heard.left_done (s : State) : (Heard.done s).left = s := rfl

theorem Heard.left_accepted (i : Nat) (s : State) : (Heard.accepted i s).left = s := rfl

theorem Good.heard {W : Nat} {a t : State} {p : Heard} {i : Nat} (e : p = .accepted i t) (h : Good W a p.left) : Good W a t := by
  rw [e] at h; exact h

theorem Good.unheard {W : Nat} {a t : State} {p : Heard} (e : p = .done t) (h : Good W a p.left) : Good W a t := by
  rw [e] at h; exact h

theorem State.hear_good : ∀ s h d, Good 9663676425 s (State.hear s h d).left := by
  intro s h d
  unfold State.hear
  repeat' first
    | with_reducible exact Good.refl
    | with_reducible assumption
    | (extract_lets +onlyGivenNames x; refine Good.cut (x := x) ?_ ?_; (on_goal 1 => (unfold x; clear x)); (on_goal 2 => intro hx; clear_value x))
    | (extract_lets +onlyGivenNames x; clear_value x)
    | with_reducible apply Good.ite
    | (with_reducible apply Good.step (State.bump_good ..))
    | (with_reducible apply Good.step (State.reply_good ..))
    | (with_reducible apply Good.step (State.enqueue_good ..))
    | (with_reducible apply Good.step (State.takeInbound_good ..))
    | (with_reducible apply Good.step (State.atRaw_good ..))
    | (with_reducible apply Good.step (State.heard_good ..))
    | (with_reducible apply Good.step (State.accept_good ..))
    | exact rfl
    | rw [Heard.left_done]
    | rw [Heard.left_accepted]
    | split

theorem State.receive_good {W : Nat} {s : State} {h : Hdr} {d : OpInfo} {chk : State → Nat → OpCheck}
    {run : State → Nat → State × Option (Status × List Byte)} (hr : ∀ x i, Good W x (run x i).1) (hw : 9663676425 ||| W = W) :
    Good W s (s.receive h d chk run) := by
  unfold State.receive
  have hh : Good W s (s.hear h d).left := (State.hear_good s h d).step hw Good.refl
  split
  · exact Good.unheard ‹_› hh
  · have h1 := Good.heard ‹_› hh
    split
    · split
      have h3 := Good.fst ‹_› ((hr _ _).step (Nat.or_self W) ((State.takePlace_good ..).step (by rw [← hw, ← Nat.or_assoc]; rfl) h1))
      split
      · exact (State.reply_good ..).step (by rw [← hw, ← Nat.or_assoc]; rfl) h3
      · exact h3
    · exact (State.reply_good ..).step (by rw [← hw, ← Nat.or_assoc]; rfl) h1

theorem State.queueBulk_good : ∀ s a1, Good 281474976710656 s (State.queueBulk s a1) := by
  intro s a1
  unfold State.queueBulk
  repeat' first
    | with_reducible exact Good.refl
    | with_reducible assumption
    | (extract_lets +onlyGivenNames x; clear_value x)
    | with_reducible apply Good.ite
    | exact rfl
    | (with_reducible apply Good.upd_mir)

end Sys2Proof.Machine
end

