-- ==== Sys2Proof/Laws/KeepTallyLog.lean ====
section
/-! SUPPORT. What each operation of Machine/TallyLog.lean changes, and that it keeps what every operation keeps. -/

-- One proof at a time: the package as one text then takes less memory.
set_option Elab.async false

namespace Sys2Proof.Machine

open Sys2Proof

theorem State.showLog_good : ∀ s, Good 1 s (State.showLog s) := by
  intro s
  unfold State.showLog
  repeat' first
    | with_reducible exact Good.refl
    | with_reducible assumption
    | (with_reducible apply Good.step (State.wr_good ..))
    | exact rfl

theorem State.tallyLog_good : ∀ s a1 a2 a3 a4, Good 4194305 s (State.tallyLog s a1 a2 a3 a4) := by
  intro s a1 a2 a3 a4
  unfold State.tallyLog
  repeat' first
    | with_reducible exact Good.refl
    | with_reducible assumption
    | (extract_lets +onlyGivenNames x; (have ht : type_of% x = State := rfl); clear ht; refine Good.cut (x := x) ?_ ?_; (on_goal 1 => (unfold x; clear x)); (on_goal 2 => intro hx; clear_value x))
    | (extract_lets +onlyGivenNames x; clear_value x)
    | with_reducible apply Good.ite
    | (with_reducible apply Good.step (State.count_good ..))
    | (with_reducible apply Good.step (State.showLog_good ..))
    | exact rfl
    | split
    | (with_reducible apply Good.upd_tly)

end Sys2Proof.Machine
end

