-- ==== Sys2Proof/Laws/KeepHistoryRows.lean ====
section
/-! SUPPORT. What each operation of Machine/HistoryRows.lean changes, and that it keeps what every operation keeps. -/

-- One proof at a time: the package as one text then takes less memory.
set_option Elab.async false

namespace Sys2Proof.Machine

open Sys2Proof

theorem State.present_good : ∀ s a1 a2 a3 a4 a5, Good 529 s (State.present s a1 a2 a3 a4 a5) := by
  intro s a1 a2 a3 a4 a5
  unfold State.present
  repeat' first
    | with_reducible exact Good.refl
    | with_reducible assumption
    | (extract_lets +onlyGivenNames x; clear_value x)
    | with_reducible apply Good.ite
    | (with_reducible apply Good.step (State.bump_good ..))
    | (with_reducible apply Good.step (State.flag_good ..))
    | (with_reducible apply Good.step (State.land_good ..))
    | (with_reducible apply Good.step (State.setRing_good ..))
    | exact rfl
    | split

theorem execSoundRateUpdate_good : ∀ a0 a1 s, GoodO 2313 s (execSoundRateUpdate a0 a1 s) := by
  intro a0 a1 s
  unfold execSoundRateUpdate
  repeat' first
    | with_reducible exact Good.refl
    | with_reducible assumption
    | (extract_lets +onlyGivenNames x; (have ht : type_of% x = State := rfl); clear ht; refine GoodO.cut (x := x) ?_ ?_; (on_goal 1 => (unfold x; clear x)); (on_goal 2 => intro hx; clear_value x))
    | (extract_lets +onlyGivenNames x; clear_value x)
    | with_reducible apply GoodO.next
    | with_reducible apply GoodO.ite
    | with_reducible apply Good.ite
    | (with_reducible apply Good.step (State.atRaw_good ..))
    | (with_reducible apply Good.step (State.wr_good ..))
    | (with_reducible apply Good.step (State.wrAt_good ..))
    | exact rfl
    | (with_reducible apply Good.upd_geo)

theorem State.countPanic_good : ∀ s, Good 562949953421313 s (State.countPanic s) := by
  intro s
  unfold State.countPanic
  repeat' first
    | with_reducible exact Good.refl
    | with_reducible assumption
    | (extract_lets +onlyGivenNames x; (have ht : type_of% x = State := rfl); clear ht; refine Good.cut (x := x) ?_ ?_; (on_goal 1 => (unfold x; clear x)); (on_goal 2 => intro hx; clear_value x))
    | (extract_lets +onlyGivenNames x; clear_value x)
    | with_reducible apply Good.ite
    | (with_reducible apply Good.step (State.count_good ..))
    | exact rfl
    | (with_reducible apply Good.upd_cel)

theorem execLongRingCopy_good : ∀ a0 a1 s, GoodO 562949953421825 s (execLongRingCopy a0 a1 s) := by
  intro a0 a1 s
  unfold execLongRingCopy
  repeat' first
    | with_reducible exact Good.refl
    | with_reducible assumption
    | (extract_lets +onlyGivenNames x; (have ht : type_of% x = State := rfl); clear ht; refine GoodO.cut (x := x) ?_ ?_; (on_goal 1 => (unfold x; clear x)); (on_goal 2 => intro hx; clear_value x))
    | (extract_lets +onlyGivenNames x; clear_value x)
    | with_reducible apply GoodO.next
    | with_reducible apply GoodO.ite
    | with_reducible apply Good.ite
    | (with_reducible apply Good.step (State.countPanic_good ..))
    | (with_reducible apply Good.step (State.setRing_good ..))
    | exact rfl
    | (with_reducible apply Good.upd_hst)

theorem execLongCopyOverdue_good : ∀ a0 a1 s, GoodO 562949953421825 s (execLongCopyOverdue a0 a1 s) := by
  intro a0 a1 s
  unfold execLongCopyOverdue
  repeat' first
    | with_reducible exact Good.refl
    | with_reducible assumption
    | (extract_lets +onlyGivenNames x; (have ht : type_of% x = State := rfl); clear ht; refine GoodO.cut (x := x) ?_ ?_; (on_goal 1 => (unfold x; clear x)); (on_goal 2 => intro hx; clear_value x))
    | (extract_lets +onlyGivenNames x; clear_value x)
    | with_reducible apply GoodO.next
    | with_reducible apply GoodO.ite
    | with_reducible apply Good.ite
    | (with_reducible apply Good.step (State.countPanic_good ..))
    | exact rfl
    | (with_reducible apply Good.upd_hst)

theorem State.longGot_good : ∀ s a1, Good 562949953421825 s (State.longGot s a1) := by
  intro s a1
  unfold State.longGot
  repeat' first
    | with_reducible exact Good.refl
    | with_reducible assumption
    | (extract_lets +onlyGivenNames x; (have ht : type_of% x = State := rfl); clear ht; refine Good.cut (x := x) ?_ ?_; (on_goal 1 => (unfold x; clear x)); (on_goal 2 => intro hx; clear_value x))
    | (extract_lets +onlyGivenNames x; clear_value x)
    | (with_reducible apply Good.step (State.countPanic_good ..))
    | exact rfl
    | (with_reducible apply Good.upd_hst)

theorem execPanicStart_good : ∀ a0 a1 s, GoodO 562949953421833 s (execPanicStart a0 a1 s) := by
  intro a0 a1 s
  unfold execPanicStart
  repeat' first
    | with_reducible exact Good.refl
    | with_reducible assumption
    | (extract_lets +onlyGivenNames x; (have ht : type_of% x = State := rfl); clear ht; refine GoodO.cut (x := x) ?_ ?_; (on_goal 1 => (unfold x; clear x)); (on_goal 2 => intro hx; clear_value x))
    | (extract_lets +onlyGivenNames x; clear_value x)
    | with_reducible apply GoodO.next
    | with_reducible apply GoodO.ite
    | with_reducible apply Good.ite
    | (with_reducible apply Good.step (State.atRaw_good ..))
    | (with_reducible apply Good.step (State.longGot_good ..))
    | exact rfl
    | (with_reducible apply Good.upd_hst)

theorem execLongReadAge_good : ∀ a0 a1 s, GoodO 562949953421833 s (execLongReadAge a0 a1 s) := by
  intro a0 a1 s
  unfold execLongReadAge
  repeat' first
    | with_reducible exact Good.refl
    | with_reducible assumption
    | (extract_lets +onlyGivenNames x; (have ht : type_of% x = State := rfl); clear ht; refine GoodO.cut (x := x) ?_ ?_; (on_goal 1 => (unfold x; clear x)); (on_goal 2 => intro hx; clear_value x))
    | (extract_lets +onlyGivenNames x; clear_value x)
    | with_reducible apply GoodO.next
    | with_reducible apply GoodO.ite
    | with_reducible apply Good.ite
    | (with_reducible apply Good.step (State.atRaw_good ..))
    | (with_reducible apply Good.step (State.longGot_good ..))
    | exact rfl
    | (with_reducible apply Good.upd_hst)

theorem State.longLate_good : ∀ s a1, Good 513 s (State.longLate s a1) := by
  intro s a1
  unfold State.longLate
  repeat' first
    | with_reducible exact Good.refl
    | with_reducible assumption
    | (extract_lets +onlyGivenNames x; (have ht : type_of% x = State := rfl); clear ht; refine Good.cut (x := x) ?_ ?_; (on_goal 1 => (unfold x; clear x)); (on_goal 2 => intro hx; clear_value x))
    | (extract_lets +onlyGivenNames x; clear_value x)
    | (with_reducible apply Good.step (State.bump_good ..))
    | (with_reducible apply Good.step (State.failLog_good ..))
    | (with_reducible apply Good.step (State.flag_good ..))
    | exact rfl
    | (with_reducible apply Good.upd_hst)

theorem execLongTileDeadline_good : ∀ a0 a1 s, GoodO 562949953421833 s (execLongTileDeadline a0 a1 s) := by
  intro a0 a1 s
  unfold execLongTileDeadline
  repeat' first
    | with_reducible exact Good.refl
    | with_reducible assumption
    | (extract_lets +onlyGivenNames x; (have ht : type_of% x = State := rfl); clear ht; refine GoodO.cut (x := x) ?_ ?_; (on_goal 1 => (unfold x; clear x)); (on_goal 2 => intro hx; clear_value x))
    | (extract_lets +onlyGivenNames x; (have ht : type_of% x = State := rfl); clear ht; refine Good.cut (x := x) ?_ ?_; (on_goal 1 => (unfold x; clear x)); (on_goal 2 => intro hx; clear_value x))
    | with_reducible apply GoodO.next
    | with_reducible apply GoodO.ite
    | with_reducible apply Good.ite
    | (with_reducible apply Good.foldl)
    | (with_reducible apply Good.foldl_snd)
    | (with_reducible apply Good.foldl_fst)
    | (intro x b h; try beta_reduce)
    | (with_reducible apply Good.step (State.atRaw_good ..))
    | (with_reducible apply Good.step (State.longGot_good ..))
    | (with_reducible apply Good.step (State.longLate_good ..))
    | exact rfl

theorem State.scrubSlot_good : ∀ s a1 a2, Good 4194305 s (State.scrubSlot s a1 a2) := by
  intro s a1 a2
  unfold State.scrubSlot
  repeat' first
    | (with_reducible apply hf)
    | with_reducible exact Good.refl
    | with_reducible assumption
    | (extract_lets +onlyGivenNames x; (have ht : type_of% x = State := rfl); clear ht; refine Good.cut (x := x) ?_ ?_; (on_goal 1 => (unfold x; clear x)); (on_goal 2 => intro hx; clear_value x))
    | (extract_lets +onlyGivenNames x; with_reducible refine Good.cutF (x := x) ?_ ?_; (on_goal 1 => (intro c; unfold x; clear x; beta_reduce)); (on_goal 2 => intro hf; clear_value x))
    | (extract_lets +onlyGivenNames x; clear_value x)
    | with_reducible apply Good.ite
    | (with_reducible apply Good.step (State.bump_good ..))
    | (with_reducible apply Good.step (State.failLog_good ..))
    | (with_reducible apply Good.step (State.flag_good ..))
    | exact rfl
    | split
    | (with_reducible apply Good.upd_tly)

theorem State.scrubPass_good : ∀ s, Good 4194305 s (State.scrubPass s) := by
  intro s
  unfold State.scrubPass
  repeat' first
    | with_reducible exact Good.refl
    | with_reducible assumption
    | (extract_lets +onlyGivenNames x; (have ht : type_of% x = State := rfl); clear ht; refine Good.cut (x := x) ?_ ?_; (on_goal 1 => (unfold x; clear x)); (on_goal 2 => intro hx; clear_value x))
    | (extract_lets +onlyGivenNames x; clear_value x)
    | with_reducible apply Good.ite
    | (with_reducible apply Good.step (State.tallyLog_good ..))
    | (with_reducible apply Good.step (State.wr_good ..))
    | exact rfl
    | (with_reducible apply Good.upd_tly)

theorem State.scrubRead_good : ∀ s a1, Good 4194305 s (State.scrubRead s a1) := by
  intro s a1
  unfold State.scrubRead
  repeat' first
    | with_reducible exact Good.refl
    | with_reducible assumption
    | (extract_lets +onlyGivenNames x; (have ht : type_of% x = State := rfl); clear ht; refine Good.cut (x := x) ?_ ?_; (on_goal 1 => (unfold x; clear x)); (on_goal 2 => intro hx; clear_value x))
    | (with_reducible apply Good.step (State.scrubPass_good ..))
    | (with_reducible apply Good.step (State.scrubSlot_good ..))
    | (with_reducible apply Good.step (State.wr_good ..))
    | exact rfl
    | split

theorem execScrubRead_good : ∀ a0 s, GoodO 4194825 s (execScrubRead a0 s) := by
  intro a0 s
  unfold execScrubRead
  repeat' first
    | with_reducible exact Good.refl
    | with_reducible assumption
    | (extract_lets +onlyGivenNames x; (have ht : type_of% x = State := rfl); clear ht; refine GoodO.cut (x := x) ?_ ?_; (on_goal 1 => (unfold x; clear x)); (on_goal 2 => intro hx; clear_value x))
    | (extract_lets +onlyGivenNames x; (have ht : type_of% x = State := rfl); clear ht; refine Good.cut (x := x) ?_ ?_; (on_goal 1 => (unfold x; clear x)); (on_goal 2 => intro hx; clear_value x))
    | (extract_lets +onlyGivenNames x; clear_value x)
    | with_reducible apply GoodO.next
    | with_reducible apply GoodO.ite
    | with_reducible apply Good.ite
    | (with_reducible apply Good.step (State.atRaw_good ..))
    | (with_reducible apply Good.step (State.scrubPass_good ..))
    | (with_reducible apply Good.step (State.scrubRead_good ..))
    | exact rfl
    | split
    | (with_reducible apply Good.upd_hst)

theorem execOdlyTileDeadline_good : ∀ a0 a1 s, GoodO 1025 s (execOdlyTileDeadline a0 a1 s) := by
  intro a0 a1 s
  unfold execOdlyTileDeadline
  repeat' first
    | with_reducible exact Good.refl
    | with_reducible assumption
    | (extract_lets +onlyGivenNames x; (have ht : type_of% x = State := rfl); clear ht; refine GoodO.cut (x := x) ?_ ?_; (on_goal 1 => (unfold x; clear x)); (on_goal 2 => intro hx; clear_value x))
    | (extract_lets +onlyGivenNames x; clear_value x)
    | with_reducible apply GoodO.next
    | with_reducible apply GoodO.ite
    | with_reducible apply Good.ite
    | (with_reducible apply Good.step (State.bump_good ..))
    | exact rfl
    | (with_reducible apply Good.upd_mix)

theorem State.setFir_good : ∀ s a1 a2 a3, Good 1024 s (State.setFir s a1 a2 a3) := by
  intro s a1 a2 a3
  unfold State.setFir
  repeat' first
    | with_reducible exact Good.refl
    | with_reducible assumption
    | (extract_lets +onlyGivenNames x; clear_value x)
    | exact rfl
    | (with_reducible apply Good.upd_mix)

theorem execInstallSpectraDone_good : ∀ a0 a1 s, GoodO 1064 s (execInstallSpectraDone a0 a1 s) := by
  intro a0 a1 s
  unfold execInstallSpectraDone
  repeat' first
    | with_reducible exact Good.refl
    | with_reducible assumption
    | (extract_lets +onlyGivenNames x; (have ht : type_of% x = State := rfl); clear ht; refine GoodO.cut (x := x) ?_ ?_; (on_goal 1 => (unfold x; clear x)); (on_goal 2 => intro hx; clear_value x))
    | (extract_lets +onlyGivenNames x; clear_value x)
    | with_reducible apply GoodO.next
    | with_reducible apply GoodO.ite
    | with_reducible apply Good.ite
    | (with_reducible apply Good.foldl)
    | (with_reducible apply Good.foldl_snd)
    | (with_reducible apply Good.foldl_fst)
    | (intro x b h; try beta_reduce)
    | (with_reducible apply Good.step (State.atRaw_good ..))
    | (with_reducible apply Good.step (State.setFir_good ..))
    | (with_reducible apply Good.step (State.writeCoefs_good ..))
    | exact rfl
    | split
    | (with_reducible apply Good.upd_mix)

theorem State.identTake_good : ∀ s a1, Good 1056 s (State.identTake s a1) := by
  intro s a1
  unfold State.identTake
  repeat' first
    | with_reducible exact Good.refl
    | with_reducible assumption
    | (extract_lets +onlyGivenNames x; clear_value x)
    | with_reducible apply Good.ite
    | (with_reducible apply Good.step (State.fresh_good ..))
    | exact rfl
    | split
    | (with_reducible apply Good.upd_mix)

theorem execIdentFrame_good : ∀ a0 s, GoodO 1056 s (execIdentFrame a0 s) := by
  intro a0 s
  unfold execIdentFrame
  repeat' first
    | with_reducible exact Good.refl
    | with_reducible assumption
    | with_reducible apply GoodO.next
    | with_reducible apply GoodO.ite
    | with_reducible apply Good.ite
    | (with_reducible apply Good.foldl)
    | (with_reducible apply Good.foldl_snd)
    | (with_reducible apply Good.foldl_fst)
    | (intro x b h; try beta_reduce)
    | (with_reducible apply Good.step (State.identTake_good ..))
    | exact rfl

end Sys2Proof.Machine
end

