-- ==== Sys2Proof/Laws/KeepPorts.lean ====
section
/-! SUPPORT. What each operation of Machine/Ports.lean changes, and that it keeps what every operation keeps. -/

-- One proof at a time: the package as one text then takes less memory.
set_option Elab.async false

namespace Sys2Proof.Machine

open Sys2Proof

theorem State.setTdm_good : ∀ s a1 a2, Good 16384 s (State.setTdm s a1 a2) := by
  intro s a1 a2
  unfold State.setTdm
  repeat' first
    | with_reducible exact Good.refl
    | with_reducible assumption
    | exact rfl
    | (with_reducible apply Good.upd_tdm)

theorem State.setAes_good : ∀ s a1 a2, Good 32768 s (State.setAes s a1 a2) := by
  intro s a1 a2
  unfold State.setAes
  repeat' first
    | with_reducible exact Good.refl
    | with_reducible assumption
    | exact rfl
    | (with_reducible apply Good.upd_aes)

theorem State.setAsc_good : ∀ s a1 a2, Good 262144 s (State.setAsc s a1 a2) := by
  intro s a1 a2
  unfold State.setAsc
  repeat' first
    | with_reducible exact Good.refl
    | with_reducible assumption
    | exact rfl
    | (with_reducible apply Good.upd_asc)

theorem State.setMic_good : ∀ s a1 a2, Good 524288 s (State.setMic s a1 a2) := by
  intro s a1 a2
  unfold State.setMic
  repeat' first
    | with_reducible exact Good.refl
    | with_reducible assumption
    | exact rfl
    | (with_reducible apply Good.upd_mics)

theorem State.stamp_good : ∀ s a1 a2 a3 a4 a5 a6 a7 a8, Good 1 s (State.stamp s a1 a2 a3 a4 a5 a6 a7 a8).1 := by
  intro s a1 a2 a3 a4 a5 a6 a7 a8
  unfold State.stamp
  repeat' first
    | with_reducible exact Good.refl
    | with_reducible assumption
    | (extract_lets +onlyGivenNames x; (have ht : type_of% x = State := rfl); clear ht; refine Good.cut (x := x) ?_ ?_; (on_goal 1 => (unfold x; clear x)); (on_goal 2 => intro hx; clear_value x))
    | (extract_lets +onlyGivenNames x; clear_value x)
    | (with_reducible apply Good.step (State.wr_good ..))
    | dsimp -zeta only
    | exact rfl
    | split

theorem State.setFeed_good : ∀ s a1 a2 a3, Good 49152 s (State.setFeed s a1 a2 a3) := by
  intro s a1 a2 a3
  unfold State.setFeed
  repeat' first
    | with_reducible exact Good.refl
    | with_reducible assumption
    | (extract_lets +onlyGivenNames x; clear_value x)
    | with_reducible apply Good.ite
    | (with_reducible apply Good.step (State.setAes_good ..))
    | (with_reducible apply Good.step (State.setTdm_good ..))
    | exact rfl

theorem State.tdmLock_good : ∀ s a1 a2, Good 16385 s (State.tdmLock s a1 a2).1 := by
  intro s a1 a2
  unfold State.tdmLock
  repeat' first
    | with_reducible exact Good.refl
    | with_reducible assumption
    | (extract_lets +onlyGivenNames x; (have ht : type_of% x = State := rfl); clear ht; refine Good.cut (x := x) ?_ ?_; (on_goal 1 => (unfold x; clear x)); (on_goal 2 => intro hx; clear_value x))
    | (extract_lets +onlyGivenNames x; clear_value x)
    | with_reducible apply Good.ite
    | with_reducible apply Good.ite_fst
    | (with_reducible apply Good.step (State.bump_good ..))
    | (with_reducible apply Good.step (State.flag_good ..))
    | (with_reducible apply Good.step (State.setTdm_good ..))
    | (with_reducible apply Good.step (State.wr_good ..))
    | dsimp -zeta only
    | exact rfl

theorem State.tdmAlign_good : ∀ s a1 a2 a3, Good 16385 s (State.tdmAlign s a1 a2 a3) := by
  intro s a1 a2 a3
  unfold State.tdmAlign
  repeat' first
    | with_reducible exact Good.refl
    | with_reducible assumption
    | (extract_lets +onlyGivenNames x; clear_value x)
    | with_reducible apply Good.ite
    | (with_reducible apply Good.step (State.bump_good ..))
    | (with_reducible apply Good.step (State.flag_good ..))
    | (with_reducible apply Good.step (State.setTdm_good ..))
    | (with_reducible apply Good.step (State.stamp_good ..))
    | (with_reducible refine Good.when (fun y hy => ?_) ?_)
    | (with_reducible apply Good.step (State.wr_good ..))
    | (refine Good.fst ‹_› ?_)
    | exact rfl

theorem State.tdmAsync_good : ∀ s a1 a2, Good 16385 s (State.tdmAsync s a1 a2) := by
  intro s a1 a2
  unfold State.tdmAsync
  repeat' first
    | with_reducible exact Good.refl
    | with_reducible assumption
    | (extract_lets +onlyGivenNames x; clear_value x)
    | with_reducible apply Good.ite
    | (with_reducible apply Good.step (State.setTdm_good ..))
    | (with_reducible apply Good.step (State.stamp_good ..))
    | (refine Good.fst ‹_› ?_)
    | exact rfl

theorem State.tdmDeliver_good : ∀ s a1 a2 a3, Good 529 s (State.tdmDeliver s a1 a2 a3) := by
  intro s a1 a2 a3
  unfold State.tdmDeliver
  repeat' first
    | with_reducible exact Good.refl
    | with_reducible assumption
    | (extract_lets +onlyGivenNames x; clear_value x)
    | with_reducible apply Good.ite
    | (with_reducible apply Good.foldl)
    | (with_reducible apply Good.foldl_snd)
    | (with_reducible apply Good.foldl_fst)
    | (intro x b h; try beta_reduce)
    | (with_reducible apply Good.step (State.present_good ..))
    | exact rfl

theorem State.tdmCapture_good : ∀ s a1 a2 a3, Good 16913 s (State.tdmCapture s a1 a2 a3) := by
  intro s a1 a2 a3
  unfold State.tdmCapture
  repeat' first
    | with_reducible exact Good.refl
    | with_reducible assumption
    | (extract_lets +onlyGivenNames x; (have ht : type_of% x = State := rfl); clear ht; refine Good.cut (x := x) ?_ ?_; (on_goal 1 => (unfold x; clear x)); (on_goal 2 => intro hx; clear_value x))
    | (extract_lets +onlyGivenNames x; clear_value x)
    | with_reducible apply Good.ite
    | (with_reducible apply Good.step (State.setTdm_good ..))
    | (with_reducible apply Good.step (State.tdmDeliver_good ..))
    | exact rfl
    | split

theorem State.tdmPins_good : ∀ s a1 a2 a3, Good 16385 s (State.tdmPins s a1 a2 a3) := by
  intro s a1 a2 a3
  unfold State.tdmPins
  repeat' first
    | with_reducible exact Good.refl
    | with_reducible assumption
    | (extract_lets +onlyGivenNames x; clear_value x)
    | with_reducible apply Good.ite
    | (with_reducible apply Good.step (State.count_good ..))
    | (with_reducible apply Good.step (State.setTdm_good ..))
    | exact rfl

theorem execTdmFrame_good : ∀ a0 a1 a2 a3 a4 a5 s, GoodO 49689 s (execTdmFrame a0 a1 a2 a3 a4 a5 s) := by
  intro a0 a1 a2 a3 a4 a5 s
  unfold execTdmFrame
  repeat' first
    | with_reducible exact Good.refl
    | with_reducible assumption
    | (extract_lets +onlyGivenNames x; (have ht : type_of% x = State := rfl); clear ht; refine GoodO.cut (x := x) ?_ ?_; (on_goal 1 => (unfold x; clear x)); (on_goal 2 => intro hx; clear_value x))
    | (extract_lets +onlyGivenNames x; (have ht : type_of% x = State := rfl); clear ht; refine Good.cut (x := x) ?_ ?_; (on_goal 1 => (unfold x; clear x)); (on_goal 2 => intro hx; clear_value x))
    | (extract_lets +onlyGivenNames x; clear_value x)
    | with_reducible apply GoodO.next
    | with_reducible apply GoodO.ite
    | with_reducible apply Good.ite
    | (with_reducible apply Good.step (State.atRaw_good ..))
    | (with_reducible apply Good.step (State.setFeed_good ..))
    | (with_reducible apply Good.step (State.setTdm_good ..))
    | (with_reducible apply Good.step (State.tdmAlign_good ..))
    | (with_reducible apply Good.step (State.tdmAsync_good ..))
    | (with_reducible apply Good.step (State.tdmCapture_good ..))
    | (with_reducible apply Good.step (State.tdmLock_good ..))
    | (with_reducible apply Good.step (State.tdmPins_good ..))
    | (refine Good.fst ‹_› ?_)
    | exact rfl

theorem State.tdmConfig_good : ∀ s a1 a2, Good 16385 s (State.tdmConfig s a1 a2) := by
  intro s a1 a2
  unfold State.tdmConfig
  repeat' first
    | with_reducible exact Good.refl
    | with_reducible assumption
    | (extract_lets +onlyGivenNames x; (have ht : type_of% x = State := rfl); clear ht; refine Good.cut (x := x) ?_ ?_; (on_goal 1 => (unfold x; clear x)); (on_goal 2 => intro hx; clear_value x))
    | (extract_lets +onlyGivenNames x; clear_value x)
    | with_reducible apply Good.ite
    | (with_reducible apply Good.step (State.setTdm_good ..))
    | (with_reducible apply Good.step (State.wr_good ..))
    | exact rfl

theorem State.csGood_good : ∀ s a1 a2, Good 1 s (State.csGood s a1 a2) := by
  intro s a1 a2
  unfold State.csGood
  repeat' first
    | with_reducible exact Good.refl
    | with_reducible assumption
    | (extract_lets +onlyGivenNames x; (have ht : type_of% x = State := rfl); clear ht; refine Good.cut (x := x) ?_ ?_; (on_goal 1 => (unfold x; clear x)); (on_goal 2 => intro hx; clear_value x))
    | (with_reducible apply Good.foldl)
    | (with_reducible apply Good.foldl_snd)
    | (with_reducible apply Good.foldl_fst)
    | (intro x b h; try beta_reduce)
    | (with_reducible apply Good.step (State.wr_good ..))
    | exact rfl

theorem State.csBlock_good : ∀ s a1 a2, Good 32769 s (State.csBlock s a1 a2).1 := by
  intro s a1 a2
  unfold State.csBlock
  repeat' first
    | with_reducible exact Good.refl
    | with_reducible assumption
    | (extract_lets +onlyGivenNames x; clear_value x)
    | with_reducible apply Good.ite
    | with_reducible apply Good.ite_fst
    | (with_reducible apply Good.step (State.bump_good ..))
    | (with_reducible apply Good.step (State.csGood_good ..))
    | (with_reducible apply Good.step (State.flag_good ..))
    | (with_reducible apply Good.step (State.setAes_good ..))
    | dsimp -zeta only
    | exact rfl

theorem State.aesLock_good : ∀ s a1 a2 a3 a4, Good 32769 s (State.aesLock s a1 a2 a3 a4) := by
  intro s a1 a2 a3 a4
  unfold State.aesLock
  repeat' first
    | with_reducible exact Good.refl
    | with_reducible assumption
    | (extract_lets +onlyGivenNames x; (have ht : type_of% x = State := rfl); clear ht; refine Good.cut (x := x) ?_ ?_; (on_goal 1 => (unfold x; clear x)); (on_goal 2 => intro hx; clear_value x))
    | (extract_lets +onlyGivenNames x; clear_value x)
    | with_reducible apply Good.ite
    | (with_reducible apply Good.step (State.setAes_good ..))
    | (with_reducible apply Good.step (State.wr_good ..))
    | exact rfl

theorem State.aesSample_good : ∀ s a1 a2 a3, Good 1 s (State.aesSample s a1 a2 a3).1 := by
  intro s a1 a2 a3
  unfold State.aesSample
  repeat' first
    | with_reducible exact Good.refl
    | with_reducible assumption
    | (extract_lets +onlyGivenNames x; (have ht : type_of% x = State := rfl); clear ht; refine Good.cut (x := x) ?_ ?_; (on_goal 1 => (unfold x; clear x)); (on_goal 2 => intro hx; clear_value x))
    | with_reducible apply Good.ite
    | with_reducible apply Good.ite_fst
    | (with_reducible apply Good.step (State.bump_good ..))
    | (with_reducible apply Good.step (State.flag_good ..))
    | (with_reducible refine Good.when (fun y hy => ?_) ?_)
    | dsimp -zeta only
    | exact rfl

theorem State.aesStatus_good : ∀ s a1 a2 a3, Good 32769 s (State.aesStatus s a1 a2 a3).1 := by
  intro s a1 a2 a3
  unfold State.aesStatus
  repeat' first
    | with_reducible exact Good.refl
    | with_reducible assumption
    | (extract_lets +onlyGivenNames x; (have ht : type_of% x = State := rfl); clear ht; refine Good.cut (x := x) ?_ ?_; (on_goal 1 => (unfold x; clear x)); (on_goal 2 => intro hx; clear_value x))
    | (extract_lets +onlyGivenNames x; clear_value x)
    | with_reducible apply Good.ite
    | with_reducible apply Good.ite_fst
    | (with_reducible apply Good.step (State.csBlock_good ..))
    | (with_reducible apply Good.step (State.setAes_good ..))
    | (refine Good.fst ‹_› ?_)
    | dsimp -zeta only
    | exact rfl

theorem State.aesNonAudio_good : ∀ s a1 a2, Good 32769 s (State.aesNonAudio s a1 a2) := by
  intro s a1 a2
  unfold State.aesNonAudio
  repeat' first
    | with_reducible exact Good.refl
    | with_reducible assumption
    | (extract_lets +onlyGivenNames x; (have ht : type_of% x = State := rfl); clear ht; refine Good.cut (x := x) ?_ ?_; (on_goal 1 => (unfold x; clear x)); (on_goal 2 => intro hx; clear_value x))
    | (extract_lets +onlyGivenNames x; clear_value x)
    | with_reducible apply Good.ite
    | (with_reducible apply Good.step (State.bump_good ..))
    | (with_reducible apply Good.step (State.setAes_good ..))
    | (with_reducible refine Good.when (fun y hy => ?_) ?_)
    | (with_reducible apply Good.step (State.wr_good ..))
    | exact rfl

theorem State.aesRate_good : ∀ s a1 a2, Good 1 s (State.aesRate s a1 a2) := by
  intro s a1 a2
  unfold State.aesRate
  repeat' first
    | with_reducible exact Good.refl
    | with_reducible assumption
    | with_reducible apply Good.ite
    | (with_reducible apply Good.step (State.wr_good ..))
    | exact rfl
    | split

theorem State.aesAlign_good : ∀ s a1 a2 a3, Good 32769 s (State.aesAlign s a1 a2 a3) := by
  intro s a1 a2 a3
  unfold State.aesAlign
  repeat' first
    | with_reducible exact Good.refl
    | with_reducible assumption
    | (extract_lets +onlyGivenNames x; (have ht : type_of% x = State := rfl); clear ht; refine Good.cut (x := x) ?_ ?_; (on_goal 1 => (unfold x; clear x)); (on_goal 2 => intro hx; clear_value x))
    | (extract_lets +onlyGivenNames x; clear_value x)
    | with_reducible apply Good.ite
    | (with_reducible apply Good.step (State.aesRate_good ..))
    | (with_reducible apply Good.step (State.bump_good ..))
    | (with_reducible apply Good.step (State.flag_good ..))
    | (with_reducible apply Good.step (State.setAes_good ..))
    | (with_reducible apply Good.step (State.stamp_good ..))
    | (with_reducible refine Good.when (fun y hy => ?_) ?_)
    | (with_reducible apply Good.step (State.wr_good ..))
    | (refine Good.fst ‹_› ?_)
    | exact rfl

theorem State.aesAsync_good : ∀ s a1 a2, Good 32769 s (State.aesAsync s a1 a2) := by
  intro s a1 a2
  unfold State.aesAsync
  repeat' first
    | with_reducible exact Good.refl
    | with_reducible assumption
    | (extract_lets +onlyGivenNames x; clear_value x)
    | with_reducible apply Good.ite
    | (with_reducible apply Good.step (State.aesRate_good ..))
    | (with_reducible apply Good.step (State.setAes_good ..))
    | (with_reducible apply Good.step (State.stamp_good ..))
    | (refine Good.fst ‹_› ?_)
    | exact rfl

theorem State.aesCapture_good : ∀ s a1 a2 a3, Good 33297 s (State.aesCapture s a1 a2 a3) := by
  intro s a1 a2 a3
  unfold State.aesCapture
  repeat' first
    | with_reducible exact Good.refl
    | with_reducible assumption
    | (extract_lets +onlyGivenNames x; (have ht : type_of% x = State := rfl); clear ht; refine Good.cut (x := x) ?_ ?_; (on_goal 1 => (unfold x; clear x)); (on_goal 2 => intro hx; clear_value x))
    | (extract_lets +onlyGivenNames x; clear_value x)
    | with_reducible apply Good.ite
    | (with_reducible apply Good.step (State.present_good ..))
    | (with_reducible apply Good.step (State.setAes_good ..))
    | exact rfl
    | split

theorem State.aesConfig_good : ∀ s a1 a2, Good 32769 s (State.aesConfig s a1 a2) := by
  intro s a1 a2
  unfold State.aesConfig
  repeat' first
    | with_reducible exact Good.refl
    | with_reducible assumption
    | (extract_lets +onlyGivenNames x; (have ht : type_of% x = State := rfl); clear ht; refine Good.cut (x := x) ?_ ?_; (on_goal 1 => (unfold x; clear x)); (on_goal 2 => intro hx; clear_value x))
    | (extract_lets +onlyGivenNames x; clear_value x)
    | with_reducible apply Good.ite
    | (with_reducible apply Good.step (State.setAes_good ..))
    | (with_reducible apply Good.step (State.wr_good ..))
    | exact rfl

theorem execAes3Frame_good : ∀ a0 a1 a2 a3 a4 a5 s, GoodO 49689 s (execAes3Frame a0 a1 a2 a3 a4 a5 s) := by
  intro a0 a1 a2 a3 a4 a5 s
  unfold execAes3Frame
  repeat' first
    | with_reducible exact Good.refl
    | with_reducible assumption
    | (extract_lets +onlyGivenNames x; (have ht : type_of% x = State := rfl); clear ht; refine GoodO.cut (x := x) ?_ ?_; (on_goal 1 => (unfold x; clear x)); (on_goal 2 => intro hx; clear_value x))
    | (extract_lets +onlyGivenNames x; (have ht : type_of% x = State := rfl); clear ht; refine Good.cut (x := x) ?_ ?_; (on_goal 1 => (unfold x; clear x)); (on_goal 2 => intro hx; clear_value x))
    | (extract_lets +onlyGivenNames x; (have ht : type_of% x.1 = State := rfl); clear ht; refine GoodO.cut (x := x.1) ?_ ?_; (on_goal 1 => (unfold x; clear x)); (on_goal 2 => intro hx; clear_value x))
    | (extract_lets +onlyGivenNames x; (have ht : type_of% x.1 = State := rfl); clear ht; refine Good.cut (x := x.1) ?_ ?_; (on_goal 1 => (unfold x; clear x)); (on_goal 2 => intro hx; clear_value x))
    | (extract_lets +onlyGivenNames x; clear_value x)
    | with_reducible apply GoodO.next
    | with_reducible apply GoodO.ite
    | with_reducible apply Good.ite
    | (with_reducible apply Good.step (State.aesAlign_good ..))
    | (with_reducible apply Good.step (State.aesAsync_good ..))
    | (with_reducible apply Good.step (State.aesCapture_good ..))
    | (with_reducible apply Good.step (State.aesLock_good ..))
    | (with_reducible apply Good.step (State.aesNonAudio_good ..))
    | (with_reducible apply Good.step (State.aesSample_good ..))
    | (with_reducible apply Good.step (State.aesStatus_good ..))
    | (with_reducible apply Good.step (State.atRaw_good ..))
    | (with_reducible apply Good.step (State.setAes_good ..))
    | (with_reducible apply Good.step (State.setFeed_good ..))
    | (refine Good.fst ‹_› ?_)
    | exact rfl

theorem State.sendAes_good : ∀ s a1, Good 65536 s (State.sendAes s a1) := by
  intro s a1
  unfold State.sendAes
  repeat' first
    | with_reducible exact Good.refl
    | with_reducible assumption
    | (extract_lets +onlyGivenNames x; clear_value x)
    | with_reducible apply Good.ite
    | (with_reducible apply Good.foldl)
    | (with_reducible apply Good.foldl_snd)
    | (with_reducible apply Good.foldl_fst)
    | (intro x b h; try beta_reduce)
    | exact rfl
    | (with_reducible apply Good.upd_aesOut)

theorem State.ascLose_good : ∀ s a1, Good 262145 s (State.ascLose s a1) := by
  intro s a1
  unfold State.ascLose
  repeat' first
    | with_reducible exact Good.refl
    | with_reducible assumption
    | (extract_lets +onlyGivenNames x; (have ht : type_of% x = State := rfl); clear ht; refine Good.cut (x := x) ?_ ?_; (on_goal 1 => (unfold x; clear x)); (on_goal 2 => intro hx; clear_value x))
    | with_reducible apply Good.ite
    | (with_reducible apply Good.step (State.bump_good ..))
    | (with_reducible apply Good.step (State.flag_good ..))
    | (with_reducible apply Good.step (State.setAsc_good ..))
    | (with_reducible apply Good.step (State.wr_good ..))
    | exact rfl

theorem State.showRho_good : ∀ s a1 a2, Good 1 s (State.showRho s a1 a2) := by
  intro s a1 a2
  unfold State.showRho
  repeat' first
    | with_reducible exact Good.refl
    | with_reducible assumption
    | (with_reducible apply Good.step (State.wr_good ..))
    | exact rfl

theorem State.latchRho_good : ∀ s a1, Good 1 s (State.latchRho s a1) := by
  intro s a1
  unfold State.latchRho
  repeat' first
    | with_reducible exact Good.refl
    | with_reducible assumption
    | (with_reducible apply Good.step (State.wr_good ..))
    | exact rfl
    | split

theorem State.ascWindow_good : ∀ s a1 a2, Good 262145 s (State.ascWindow s a1 a2) := by
  intro s a1 a2
  unfold State.ascWindow
  repeat' first
    | with_reducible exact Good.refl
    | with_reducible assumption
    | (extract_lets +onlyGivenNames x; (have ht : type_of% x = State := rfl); clear ht; refine Good.cut (x := x) ?_ ?_; (on_goal 1 => (unfold x; clear x)); (on_goal 2 => intro hx; clear_value x))
    | (extract_lets +onlyGivenNames x; clear_value x)
    | with_reducible apply Good.ite
    | (with_reducible apply Good.step (State.ascLose_good ..))
    | (with_reducible apply Good.step (State.setAsc_good ..))
    | (with_reducible apply Good.step (State.showRho_good ..))
    | (with_reducible apply Good.step (State.wr_good ..))
    | exact rfl
    | split

theorem execAsrcWindow_good : ∀ a0 a1 s, GoodO 311297 s (execAsrcWindow a0 a1 s) := by
  intro a0 a1 s
  unfold execAsrcWindow
  repeat' first
    | with_reducible exact Good.refl
    | with_reducible assumption
    | (extract_lets +onlyGivenNames x; (have ht : type_of% x = State := rfl); clear ht; refine GoodO.cut (x := x) ?_ ?_; (on_goal 1 => (unfold x; clear x)); (on_goal 2 => intro hx; clear_value x))
    | (extract_lets +onlyGivenNames x; (have ht : type_of% x = State := rfl); clear ht; refine Good.cut (x := x) ?_ ?_; (on_goal 1 => (unfold x; clear x)); (on_goal 2 => intro hx; clear_value x))
    | (extract_lets +onlyGivenNames x; clear_value x)
    | with_reducible apply GoodO.next
    | with_reducible apply GoodO.ite
    | with_reducible apply Good.ite
    | (with_reducible apply Good.foldl)
    | (with_reducible apply Good.foldl_snd)
    | (with_reducible apply Good.foldl_fst)
    | (intro x b h; try beta_reduce)
    | (with_reducible apply Good.step (State.ascWindow_good ..))
    | (with_reducible apply Good.step (State.setFeed_good ..))
    | exact rfl
    | split

theorem execAsrcFsTimeout_good : ∀ a0 a1 a2 s, GoodO 311305 s (execAsrcFsTimeout a0 a1 a2 s) := by
  intro a0 a1 a2 s
  unfold execAsrcFsTimeout
  repeat' first
    | with_reducible exact Good.refl
    | with_reducible assumption
    | (extract_lets +onlyGivenNames x; (have ht : type_of% x = State := rfl); clear ht; refine GoodO.cut (x := x) ?_ ?_; (on_goal 1 => (unfold x; clear x)); (on_goal 2 => intro hx; clear_value x))
    | (extract_lets +onlyGivenNames x; (have ht : type_of% x = State := rfl); clear ht; refine Good.cut (x := x) ?_ ?_; (on_goal 1 => (unfold x; clear x)); (on_goal 2 => intro hx; clear_value x))
    | (extract_lets +onlyGivenNames x; clear_value x)
    | with_reducible apply GoodO.next
    | with_reducible apply GoodO.ite
    | with_reducible apply Good.ite
    | (with_reducible apply Good.foldl)
    | (with_reducible apply Good.foldl_snd)
    | (with_reducible apply Good.foldl_fst)
    | (intro x b h; try beta_reduce)
    | (with_reducible apply Good.step (State.ascLose_good ..))
    | (with_reducible apply Good.step (State.atRaw_good ..))
    | (with_reducible apply Good.step (State.setFeed_good ..))
    | exact rfl

theorem State.ascConfig_good : ∀ s a1 a2, Good 262145 s (State.ascConfig s a1 a2) := by
  intro s a1 a2
  unfold State.ascConfig
  repeat' first
    | with_reducible exact Good.refl
    | with_reducible assumption
    | with_reducible apply Good.ite
    | (with_reducible apply Good.step (State.setAsc_good ..))
    | (with_reducible apply Good.step (State.wr_good ..))
    | exact rfl

theorem State.voiceTile_good : ∀ s a1 a2 a3, Good 131073 s (State.voiceTile s a1 a2 a3).1 := by
  intro s a1 a2 a3
  unfold State.voiceTile
  repeat' first
    | with_reducible exact Good.refl
    | with_reducible assumption
    | (extract_lets +onlyGivenNames x; clear_value x)
    | (with_reducible apply Good.step (State.count_good ..))
    | dsimp -zeta only
    | exact rfl
    | (with_reducible apply Good.upd_vox)

theorem State.ascTile_good : ∀ s a1 a2, Good 131073 s (State.ascTile s a1 a2).1 := by
  intro s a1 a2
  unfold State.ascTile
  repeat' first
    | with_reducible exact Good.refl
    | with_reducible assumption
    | (extract_lets +onlyGivenNames x; clear_value x)
    | with_reducible apply Good.ite
    | with_reducible apply Good.ite_fst
    | (with_reducible apply Good.step (State.voiceTile_good ..))
    | (refine Good.fst ‹_› ?_)
    | dsimp -zeta only
    | exact rfl

theorem State.micEvent_good : ∀ s a1 a2, Good 9667870721 s (State.micEvent s a1 a2) := by
  intro s a1 a2
  unfold State.micEvent
  repeat' first
    | with_reducible exact Good.refl
    | with_reducible assumption
    | (extract_lets +onlyGivenNames x; (have ht : type_of% x = State := rfl); clear ht; refine Good.cut (x := x) ?_ ?_; (on_goal 1 => (unfold x; clear x)); (on_goal 2 => intro hx; clear_value x))
    | (extract_lets +onlyGivenNames x; clear_value x)
    | (with_reducible apply Good.foldl)
    | (with_reducible apply Good.foldl_snd)
    | (with_reducible apply Good.foldl_fst)
    | (intro x b h; try beta_reduce)
    | (with_reducible apply Good.step (State.eventOps_good ..))
    | (with_reducible apply Good.step (State.eventTo_good ..))
    | (with_reducible apply Good.step (State.tallyLog_good ..))
    | (with_reducible refine Good.when (fun y hy => ?_) ?_)
    | exact rfl
    | split

theorem State.micGates_good : ∀ s a1 a2, Good 2048 s (State.micGates s a1 a2) := by
  intro s a1 a2
  unfold State.micGates
  repeat' first
    | with_reducible exact Good.refl
    | with_reducible assumption
    | (with_reducible apply Good.foldl)
    | (with_reducible apply Good.foldl_snd)
    | (with_reducible apply Good.foldl_fst)
    | (intro x b h; try beta_reduce)
    | (with_reducible apply Good.step (State.later_good ..))
    | exact rfl

theorem State.setPtt_good : ∀ s a1 a2, Good 9667872769 s (State.setPtt s a1 a2) := by
  intro s a1 a2
  unfold State.setPtt
  repeat' first
    | with_reducible exact Good.refl
    | with_reducible assumption
    | (extract_lets +onlyGivenNames x; (have ht : type_of% x = State := rfl); clear ht; refine Good.cut (x := x) ?_ ?_; (on_goal 1 => (unfold x; clear x)); (on_goal 2 => intro hx; clear_value x))
    | with_reducible apply Good.ite
    | (with_reducible apply Good.step (State.flag_good ..))
    | (with_reducible apply Good.step (State.micEvent_good ..))
    | (with_reducible apply Good.step (State.micGates_good ..))
    | (with_reducible apply Good.step (State.wr_good ..))
    | exact rfl

theorem State.dropPtt_good : ∀ s a1, Good 9667872769 s (State.dropPtt s a1) := by
  intro s a1
  unfold State.dropPtt
  repeat' first
    | with_reducible exact Good.refl
    | with_reducible assumption
    | with_reducible apply Good.ite
    | (with_reducible apply Good.step (State.setPtt_good ..))
    | exact rfl

theorem State.micClear_good : ∀ s a1, Good 9667870721 s (State.micClear s a1) := by
  intro s a1
  unfold State.micClear
  repeat' first
    | with_reducible exact Good.refl
    | with_reducible assumption
    | with_reducible apply Good.ite
    | (with_reducible apply Good.step (State.flag_good ..))
    | (with_reducible apply Good.step (State.micEvent_good ..))
    | (with_reducible apply Good.step (State.wr_good ..))
    | exact rfl

theorem State.micUnplug_good : ∀ s a1, Good 9667872769 s (State.micUnplug s a1) := by
  intro s a1
  unfold State.micUnplug
  repeat' first
    | with_reducible exact Good.refl
    | with_reducible assumption
    | (extract_lets +onlyGivenNames x; clear_value x)
    | (with_reducible apply Good.step (State.dropPtt_good ..))
    | (with_reducible apply Good.step (State.flag_good ..))
    | (with_reducible apply Good.step (State.micClear_good ..))
    | (with_reducible apply Good.step (State.micEvent_good ..))
    | (with_reducible refine Good.when (fun y hy => ?_) ?_)
    | (with_reducible apply Good.step (State.wr_good ..))
    | exact rfl

theorem State.micStop_good : ∀ s a1, Good 9668397057 s (State.micStop s a1) := by
  intro s a1
  unfold State.micStop
  repeat' first
    | with_reducible exact Good.refl
    | with_reducible assumption
    | (extract_lets +onlyGivenNames x; clear_value x)
    | (with_reducible apply Good.step (State.micUnplug_good ..))
    | (with_reducible apply Good.step (State.setMic_good ..))
    | (with_reducible apply Good.step (State.wr_good ..))
    | exact rfl

theorem State.micGain_good : ∀ s a1 a2, Good 524289 s (State.micGain s a1 a2) := by
  intro s a1 a2
  unfold State.micGain
  repeat' first
    | with_reducible exact Good.refl
    | with_reducible assumption
    | (extract_lets +onlyGivenNames x; (have ht : type_of% x = State := rfl); clear ht; refine Good.cut (x := x) ?_ ?_; (on_goal 1 => (unfold x; clear x)); (on_goal 2 => intro hx; clear_value x))
    | (extract_lets +onlyGivenNames x; clear_value x)
    | with_reducible apply Good.ite
    | (with_reducible apply Good.step (State.setMic_good ..))
    | (with_reducible apply Good.step (State.wr_good ..))
    | exact rfl

theorem State.micApply_good : ∀ s a1, Good 1 s (State.micApply s a1) := by
  intro s a1
  unfold State.micApply
  repeat' first
    | with_reducible exact Good.refl
    | with_reducible assumption
    | (with_reducible apply Good.step (State.wr_good ..))
    | exact rfl

theorem State.micConfig_good : ∀ s a1 a2, Good 9668397057 s (State.micConfig s a1 a2) := by
  intro s a1 a2
  unfold State.micConfig
  repeat' first
    | with_reducible exact Good.refl
    | with_reducible assumption
    | (extract_lets +onlyGivenNames x; (have ht : type_of% x = State := rfl); clear ht; refine Good.cut (x := x) ?_ ?_; (on_goal 1 => (unfold x; clear x)); (on_goal 2 => intro hx; clear_value x))
    | (extract_lets +onlyGivenNames x; clear_value x)
    | with_reducible apply Good.ite
    | (with_reducible apply Good.step (State.micStop_good ..))
    | (with_reducible apply Good.step (State.wr_good ..))
    | exact rfl

theorem execMicZeroCrossing_good : ∀ a0 a1 a2 s, GoodO 1 s (execMicZeroCrossing a0 a1 a2 s) := by
  intro a0 a1 a2 s
  unfold execMicZeroCrossing
  repeat' first
    | with_reducible exact Good.refl
    | with_reducible assumption
    | with_reducible apply GoodO.next
    | with_reducible apply GoodO.ite
    | with_reducible apply Good.ite
    | (with_reducible apply Good.step (State.micApply_good ..))
    | exact rfl

theorem State.micFilter_good : ∀ s a1 a2, Good 524288 s (State.micFilter s a1 a2).1 := by
  intro s a1 a2
  unfold State.micFilter
  repeat' first
    | with_reducible exact Good.refl
    | with_reducible assumption
    | (extract_lets +onlyGivenNames x; clear_value x)
    | with_reducible apply Good.ite
    | with_reducible apply Good.ite_fst
    | (with_reducible apply Good.foldl)
    | (with_reducible apply Good.foldl_snd)
    | (with_reducible apply Good.foldl_fst)
    | (with_reducible apply Good.step (State.setMic_good ..))
    | dsimp -zeta only
    | exact rfl

theorem execZcTimeout_good : ∀ a0 a1 s, GoodO 9 s (execZcTimeout a0 a1 s) := by
  intro a0 a1 s
  unfold execZcTimeout
  repeat' first
    | with_reducible exact Good.refl
    | with_reducible assumption
    | (extract_lets +onlyGivenNames x; (have ht : type_of% x = State := rfl); clear ht; refine GoodO.cut (x := x) ?_ ?_; (on_goal 1 => (unfold x; clear x)); (on_goal 2 => intro hx; clear_value x))
    | (extract_lets +onlyGivenNames x; clear_value x)
    | with_reducible apply GoodO.next
    | with_reducible apply GoodO.ite
    | with_reducible apply Good.ite
    | (with_reducible apply Good.step (State.atRaw_good ..))
    | (with_reducible apply Good.step (State.bump_good ..))
    | (with_reducible apply Good.step (State.micApply_good ..))
    | exact rfl

theorem execMicDetectionSample_good : ∀ a0 a1 a2 a3 a4 a5 s, GoodO 524297 s (execMicDetectionSample a0 a1 a2 a3 a4 a5 s) := by
  intro a0 a1 a2 a3 a4 a5 s
  unfold execMicDetectionSample
  repeat' first
    | with_reducible exact Good.refl
    | with_reducible assumption
    | (extract_lets +onlyGivenNames x; (have ht : type_of% x = State := rfl); clear ht; refine GoodO.cut (x := x) ?_ ?_; (on_goal 1 => (unfold x; clear x)); (on_goal 2 => intro hx; clear_value x))
    | (extract_lets +onlyGivenNames x; clear_value x)
    | with_reducible apply GoodO.next
    | with_reducible apply GoodO.ite
    | with_reducible apply Good.ite
    | (with_reducible apply Good.step (State.atRaw_good ..))
    | (with_reducible apply Good.step (State.setMic_good ..))
    | (with_reducible apply Good.step (State.wr_good ..))
    | exact rfl

theorem execIdleBandHold_good : ∀ a0 a1 s, GoodO 9667870729 s (execIdleBandHold a0 a1 s) := by
  intro a0 a1 s
  unfold execIdleBandHold
  repeat' first
    | with_reducible exact Good.refl
    | with_reducible assumption
    | (extract_lets +onlyGivenNames x; (have ht : type_of% x = State := rfl); clear ht; refine GoodO.cut (x := x) ?_ ?_; (on_goal 1 => (unfold x; clear x)); (on_goal 2 => intro hx; clear_value x))
    | (extract_lets +onlyGivenNames x; clear_value x)
    | with_reducible apply GoodO.next
    | with_reducible apply GoodO.ite
    | with_reducible apply Good.ite
    | (with_reducible apply Good.step (State.atRaw_good ..))
    | (with_reducible apply Good.step (State.flag_good ..))
    | (with_reducible apply Good.step (State.micClear_good ..))
    | (with_reducible apply Good.step (State.micEvent_good ..))
    | (with_reducible apply Good.step (State.wr_good ..))
    | exact rfl

theorem execFaultBandHold_good : ∀ a0 a1 s, GoodO 9667872777 s (execFaultBandHold a0 a1 s) := by
  intro a0 a1 s
  unfold execFaultBandHold
  repeat' first
    | with_reducible exact Good.refl
    | with_reducible assumption
    | (extract_lets +onlyGivenNames x; (have ht : type_of% x = State := rfl); clear ht; refine GoodO.cut (x := x) ?_ ?_; (on_goal 1 => (unfold x; clear x)); (on_goal 2 => intro hx; clear_value x))
    | (extract_lets +onlyGivenNames x; clear_value x)
    | with_reducible apply GoodO.next
    | with_reducible apply GoodO.ite
    | with_reducible apply Good.ite
    | (with_reducible apply Good.step (State.atRaw_good ..))
    | (with_reducible apply Good.step (State.bump_good ..))
    | (with_reducible apply Good.step (State.dropPtt_good ..))
    | (with_reducible apply Good.step (State.flag_good ..))
    | (with_reducible apply Good.step (State.micEvent_good ..))
    | (with_reducible apply Good.step (State.micUnplug_good ..))
    | (with_reducible apply Good.step (State.wr_good ..))
    | exact rfl

theorem execPressDebounce_good : ∀ a0 a1 s, GoodO 9667872777 s (execPressDebounce a0 a1 s) := by
  intro a0 a1 s
  unfold execPressDebounce
  repeat' first
    | with_reducible exact Good.refl
    | with_reducible assumption
    | (extract_lets +onlyGivenNames x; (have ht : type_of% x = State := rfl); clear ht; refine GoodO.cut (x := x) ?_ ?_; (on_goal 1 => (unfold x; clear x)); (on_goal 2 => intro hx; clear_value x))
    | (extract_lets +onlyGivenNames x; clear_value x)
    | with_reducible apply GoodO.next
    | with_reducible apply GoodO.ite
    | with_reducible apply Good.ite
    | (with_reducible apply Good.step (State.atRaw_good ..))
    | (with_reducible apply Good.step (State.bump_good ..))
    | (with_reducible apply Good.step (State.setPtt_good ..))
    | exact rfl

theorem execReleaseDebounce_good : ∀ a0 a1 s, GoodO 9667872777 s (execReleaseDebounce a0 a1 s) := by
  intro a0 a1 s
  unfold execReleaseDebounce
  repeat' first
    | with_reducible exact Good.refl
    | with_reducible assumption
    | (extract_lets +onlyGivenNames x; (have ht : type_of% x = State := rfl); clear ht; refine GoodO.cut (x := x) ?_ ?_; (on_goal 1 => (unfold x; clear x)); (on_goal 2 => intro hx; clear_value x))
    | (extract_lets +onlyGivenNames x; clear_value x)
    | with_reducible apply GoodO.next
    | with_reducible apply GoodO.ite
    | with_reducible apply Good.ite
    | (with_reducible apply Good.step (State.atRaw_good ..))
    | (with_reducible apply Good.step (State.setPtt_good ..))
    | exact rfl

theorem State.portsLoaded_good : ∀ s, Good 9668397057 s (State.portsLoaded s) := by
  intro s
  unfold State.portsLoaded
  repeat' first
    | with_reducible exact Good.refl
    | with_reducible assumption
    | (extract_lets +onlyGivenNames x; (have ht : type_of% x = State := rfl); clear ht; refine Good.cut (x := x) ?_ ?_; (on_goal 1 => (unfold x; clear x)); (on_goal 2 => intro hx; clear_value x))
    | (extract_lets +onlyGivenNames x; clear_value x)
    | with_reducible apply Good.ite
    | (with_reducible apply Good.foldl)
    | (with_reducible apply Good.foldl_snd)
    | (with_reducible apply Good.foldl_fst)
    | (intro x b h; try beta_reduce)
    | (with_reducible apply Good.step (State.micConfig_good ..))
    | (with_reducible apply Good.step (State.micGain_good ..))
    | (with_reducible apply Good.step (State.wr_good ..))
    | exact rfl

theorem execTilePresent_good : ∀ a0 a1 a2 a3 a4 s, GoodO 655897 s (execTilePresent a0 a1 a2 a3 a4 s) := by
  intro a0 a1 a2 a3 a4 s
  unfold execTilePresent
  repeat' first
    | with_reducible exact Good.refl
    | with_reducible assumption
    | (extract_lets +onlyGivenNames x; (have ht : type_of% x = State := rfl); clear ht; refine GoodO.cut (x := x) ?_ ?_; (on_goal 1 => (unfold x; clear x)); (on_goal 2 => intro hx; clear_value x))
    | (extract_lets +onlyGivenNames x; (have ht : type_of% x.1 = State := rfl); clear ht; refine GoodO.cut (x := x.1) ?_ ?_; (on_goal 1 => (unfold x; clear x)); (on_goal 2 => intro hx; clear_value x))
    | (extract_lets +onlyGivenNames x; (have ht : type_of% x.1 = State := rfl); clear ht; refine Good.cut (x := x.1) ?_ ?_; (on_goal 1 => (unfold x; clear x)); (on_goal 2 => intro hx; clear_value x))
    | (extract_lets +onlyGivenNames x; clear_value x)
    | with_reducible apply GoodO.next
    | with_reducible apply GoodO.ite
    | with_reducible apply Good.ite
    | (with_reducible apply Good.step (State.ascTile_good ..))
    | (with_reducible apply Good.step (State.atRaw_good ..))
    | (with_reducible apply Good.step (State.micFilter_good ..))
    | (with_reducible apply Good.step (State.present_good ..))
    | (with_reducible apply Good.step (State.voiceTile_good ..))
    | (refine Good.fst ‹_› ?_)
    | exact rfl

end Sys2Proof.Machine
end

