-- ==== Sys2Proof/Laws/KeepPower.lean ====
section
/-! SUPPORT. What each operation of Machine/Power.lean changes, and that it keeps what every operation keeps. -/

-- One proof at a time: the package as one text then takes less memory.
set_option Elab.async false

namespace Sys2Proof.Machine

open Sys2Proof

theorem State.setPs_good : ∀ s a1 a2, Good 2097152 s (State.setPs s a1 a2) := by
  intro s a1 a2
  unfold State.setPs
  repeat' first
    | with_reducible exact Good.refl
    | with_reducible assumption
    | exact rfl
    | (with_reducible apply Good.upd_ps)

theorem State.setPsState_good : ∀ s a1 a2, Good 1 s (State.setPsState s a1 a2) := by
  intro s a1 a2
  unfold State.setPsState
  repeat' first
    | with_reducible exact Good.refl
    | with_reducible assumption
    | (with_reducible apply Good.step (State.wr_good ..))
    | exact rfl

theorem State.showFaults_good : ∀ s, Good 1 s (State.showFaults s) := by
  intro s
  unfold State.showFaults
  repeat' first
    | with_reducible exact Good.refl
    | with_reducible assumption
    | (with_reducible apply Good.step (State.wr_good ..))
    | exact rfl

theorem State.gatesLow_good : ∀ s a1, Good 2097153 s (State.gatesLow s a1) := by
  intro s a1
  unfold State.gatesLow
  repeat' first
    | with_reducible exact Good.refl
    | with_reducible assumption
    | (extract_lets +onlyGivenNames x; clear_value x)
    | (with_reducible apply Good.step (State.setPs_good ..))
    | (with_reducible apply Good.step (State.wr_good ..))
    | exact rfl

theorem State.psEvent_good : ∀ s a1 a2, Good 9667870721 s (State.psEvent s a1 a2) := by
  intro s a1 a2
  unfold State.psEvent
  repeat' first
    | with_reducible exact Good.refl
    | with_reducible assumption
    | (with_reducible apply Good.step (State.evPower_good ..))
    | (with_reducible apply Good.step (State.tallyLog_good ..))
    | (with_reducible refine Good.when (fun y hy => ?_) ?_)
    | exact rfl

theorem State.lineResult_good : ∀ s a1 a2, Good 1 s (State.lineResult s a1 a2) := by
  intro s a1 a2
  unfold State.lineResult
  repeat' first
    | with_reducible exact Good.refl
    | with_reducible assumption
    | (with_reducible apply Good.step (State.wr_good ..))
    | exact rfl

theorem State.lineEnd_good : ∀ s a1 a2, Good 6291457 s (State.lineEnd s a1 a2) := by
  intro s a1 a2
  unfold State.lineEnd
  repeat' first
    | with_reducible exact Good.refl
    | with_reducible assumption
    | (extract_lets +onlyGivenNames x; (have ht : type_of% x = State := rfl); clear ht; refine Good.cut (x := x) ?_ ?_; (on_goal 1 => (unfold x; clear x)); (on_goal 2 => intro hx; clear_value x))
    | (extract_lets +onlyGivenNames x; clear_value x)
    | with_reducible apply Good.ite
    | (with_reducible apply Good.step (State.lineResult_good ..))
    | (with_reducible apply Good.step (State.setPs_good ..))
    | (with_reducible apply Good.step (State.tallyLog_good ..))
    | exact rfl
    | (with_reducible apply Good.upd_tly)

theorem State.lineAbort_good : ∀ s a1, Good 6291457 s (State.lineAbort s a1) := by
  intro s a1
  unfold State.lineAbort
  repeat' first
    | with_reducible exact Good.refl
    | with_reducible assumption
    | with_reducible apply Good.ite
    | (with_reducible apply Good.step (State.bump_good ..))
    | (with_reducible apply Good.step (State.lineEnd_good ..))
    | exact rfl
    | split

theorem State.freqSearchIn_good : ∀ a0 s a2, Good 2049 s (State.freqSearchIn a0 s a2) := by
  intro a0 s a2
  unfold State.freqSearchIn
  repeat' first
    | (with_reducible apply Good.step (hg ..))
    | with_reducible exact Good.refl
    | with_reducible assumption
    | (extract_lets +onlyGivenNames x; (have ht : type_of% x = State := rfl); clear ht; refine Good.cut (x := x) ?_ ?_; (on_goal 1 => (unfold x; clear x)); (on_goal 2 => intro hx; clear_value x))
    | (extract_lets +onlyGivenNames x; with_reducible refine Good.cutH (x := x) ?_ ?_; (on_goal 1 => (intro z c; unfold x; clear x; beta_reduce)); (on_goal 2 => intro hg; clear_value x))
    | with_reducible apply Good.ite
    | (with_reducible apply Good.step (State.bump_good ..))
    | (with_reducible apply Good.step (State.flag_good ..))
    | (with_reducible apply Good.step (State.later_good ..))
    | (with_reducible apply Good.step (State.showFaults_good ..))
    | exact rfl
    | split

theorem State.freqSearch_good : ∀ s a1, Good 2049 s (State.freqSearch s a1) := by
  intro s a1
  unfold State.freqSearch
  repeat' first
    | with_reducible exact Good.refl
    | with_reducible assumption
    | (with_reducible apply Good.step (State.freqSearchIn_good ..))
    | exact rfl

theorem State.psIdle_good : ∀ s a1, Good 2097153 s (State.psIdle s a1) := by
  intro s a1
  unfold State.psIdle
  repeat' first
    | with_reducible exact Good.refl
    | with_reducible assumption
    | (extract_lets +onlyGivenNames x; clear_value x)
    | with_reducible apply Good.ite
    | (with_reducible apply Good.step (State.setPs_good ..))
    | (with_reducible apply Good.step (State.setPsState_good ..))
    | exact rfl

theorem State.psStart_good : ∀ s a1 a2 a3, Good 6291457 s (State.psStart s a1 a2 a3) := by
  intro s a1 a2 a3
  unfold State.psStart
  repeat' first
    | with_reducible exact Good.refl
    | with_reducible assumption
    | (extract_lets +onlyGivenNames x; (have ht : type_of% x = State := rfl); clear ht; refine Good.cut (x := x) ?_ ?_; (on_goal 1 => (unfold x; clear x)); (on_goal 2 => intro hx; clear_value x))
    | (extract_lets +onlyGivenNames x; clear_value x)
    | with_reducible apply Good.ite
    | (with_reducible apply Good.step (State.lineAbort_good ..))
    | (with_reducible apply Good.step (State.psIdle_good ..))
    | (with_reducible apply Good.step (State.setPs_good ..))
    | (with_reducible apply Good.step (State.setPsState_good ..))
    | (with_reducible apply Good.step (State.wr_good ..))
    | exact rfl

theorem State.psStartOwn_good : ∀ s a1, Good 6291457 s (State.psStartOwn s a1) := by
  intro s a1
  unfold State.psStartOwn
  repeat' first
    | with_reducible exact Good.refl
    | with_reducible assumption
    | (extract_lets +onlyGivenNames x; clear_value x)
    | with_reducible apply Good.ite
    | (with_reducible apply Good.step (State.psStart_good ..))
    | (with_reducible apply Good.step (State.setPs_good ..))
    | exact rfl

theorem State.psStop_good : ∀ s a1 a2, Good 6291457 s (State.psStop s a1 a2) := by
  intro s a1 a2
  unfold State.psStop
  repeat' first
    | with_reducible exact Good.refl
    | with_reducible assumption
    | (extract_lets +onlyGivenNames x; (have ht : type_of% x = State := rfl); clear ht; refine Good.cut (x := x) ?_ ?_; (on_goal 1 => (unfold x; clear x)); (on_goal 2 => intro hx; clear_value x))
    | (extract_lets +onlyGivenNames x; clear_value x)
    | with_reducible apply Good.ite
    | (with_reducible apply Good.step (State.lineAbort_good ..))
    | (with_reducible apply Good.step (State.psIdle_good ..))
    | (with_reducible apply Good.step (State.setPs_good ..))
    | (with_reducible apply Good.step (State.setPsState_good ..))
    | exact rfl

theorem State.fallbackStart_good : ∀ s a1, Good 6291457 s (State.fallbackStart s a1) := by
  intro s a1
  unfold State.fallbackStart
  repeat' first
    | with_reducible exact Good.refl
    | with_reducible assumption
    | (extract_lets +onlyGivenNames x; (have ht : type_of% x = State := rfl); clear ht; refine Good.cut (x := x) ?_ ?_; (on_goal 1 => (unfold x; clear x)); (on_goal 2 => intro hx; clear_value x))
    | (extract_lets +onlyGivenNames x; clear_value x)
    | with_reducible apply Good.ite
    | (with_reducible apply Good.step (State.flag_good ..))
    | (with_reducible apply Good.step (State.psStart_good ..))
    | (with_reducible apply Good.step (State.setPs_good ..))
    | exact rfl

theorem State.fallbackStop_good : ∀ s a1, Good 6291457 s (State.fallbackStop s a1) := by
  intro s a1
  unfold State.fallbackStop
  repeat' first
    | with_reducible exact Good.refl
    | with_reducible assumption
    | (extract_lets +onlyGivenNames x; (have ht : type_of% x = State := rfl); clear ht; refine Good.cut (x := x) ?_ ?_; (on_goal 1 => (unfold x; clear x)); (on_goal 2 => intro hx; clear_value x))
    | (extract_lets +onlyGivenNames x; clear_value x)
    | with_reducible apply Good.ite
    | (with_reducible apply Good.foldl)
    | (with_reducible apply Good.foldl_snd)
    | (with_reducible apply Good.foldl_fst)
    | (intro x b h; try beta_reduce)
    | (with_reducible apply Good.step (State.psStop_good ..))
    | (with_reducible apply Good.step (State.setPs_good ..))
    | (with_reducible apply Good.step (State.wr_good ..))
    | exact rfl

theorem State.failedAttempt_good : ∀ s a1, Good 9669967873 s (State.failedAttempt s a1) := by
  intro s a1
  unfold State.failedAttempt
  repeat' first
    | with_reducible exact Good.refl
    | with_reducible assumption
    | (extract_lets +onlyGivenNames x; (have ht : type_of% x = State := rfl); clear ht; refine Good.cut (x := x) ?_ ?_; (on_goal 1 => (unfold x; clear x)); (on_goal 2 => intro hx; clear_value x))
    | (extract_lets +onlyGivenNames x; clear_value x)
    | with_reducible apply Good.ite
    | (with_reducible apply Good.step (State.flag_good ..))
    | (with_reducible apply Good.step (State.gatesLow_good ..))
    | (with_reducible apply Good.step (State.psEvent_good ..))
    | (with_reducible apply Good.step (State.setPs_good ..))
    | (with_reducible apply Good.step (State.setPsState_good ..))
    | (with_reducible apply Good.step (State.showFaults_good ..))
    | exact rfl

theorem State.probeFailed_good : ∀ s a1, Good 9669967873 s (State.probeFailed s a1) := by
  intro s a1
  unfold State.probeFailed
  repeat' first
    | with_reducible exact Good.refl
    | with_reducible assumption
    | (extract_lets +onlyGivenNames x; (have ht : type_of% x = State := rfl); clear ht; refine Good.cut (x := x) ?_ ?_; (on_goal 1 => (unfold x; clear x)); (on_goal 2 => intro hx; clear_value x))
    | (extract_lets +onlyGivenNames x; clear_value x)
    | (with_reducible apply Good.step (State.bump_good ..))
    | (with_reducible apply Good.step (State.failedAttempt_good ..))
    | (with_reducible apply Good.step (State.gatesLow_good ..))
    | (with_reducible apply Good.step (State.psEvent_good ..))
    | (with_reducible apply Good.step (State.setPs_good ..))
    | (with_reducible apply Good.step (State.setPsState_good ..))
    | exact rfl

theorem State.shortStop_good : ∀ s a1, Good 9669967873 s (State.shortStop s a1) := by
  intro s a1
  unfold State.shortStop
  repeat' first
    | with_reducible exact Good.refl
    | with_reducible assumption
    | (extract_lets +onlyGivenNames x; (have ht : type_of% x = State := rfl); clear ht; refine Good.cut (x := x) ?_ ?_; (on_goal 1 => (unfold x; clear x)); (on_goal 2 => intro hx; clear_value x))
    | (extract_lets +onlyGivenNames x; clear_value x)
    | with_reducible apply Good.ite
    | (with_reducible apply Good.step (State.bump_good ..))
    | (with_reducible apply Good.step (State.failedAttempt_good ..))
    | (with_reducible apply Good.step (State.flag_good ..))
    | (with_reducible apply Good.step (State.gatesLow_good ..))
    | (with_reducible apply Good.step (State.probeFailed_good ..))
    | (with_reducible apply Good.step (State.psEvent_good ..))
    | (with_reducible apply Good.step (State.setPs_good ..))
    | (with_reducible apply Good.step (State.setPsState_good ..))
    | (with_reducible apply Good.step (State.showFaults_good ..))
    | exact rfl

theorem State.tripOf_good : ∀ s a1, Good 9669967873 s (State.tripOf s a1) := by
  intro s a1
  unfold State.tripOf
  repeat' first
    | with_reducible exact Good.refl
    | with_reducible assumption
    | (extract_lets +onlyGivenNames x; (have ht : type_of% x = State := rfl); clear ht; refine Good.cut (x := x) ?_ ?_; (on_goal 1 => (unfold x; clear x)); (on_goal 2 => intro hx; clear_value x))
    | (extract_lets +onlyGivenNames x; clear_value x)
    | with_reducible apply Good.ite
    | (with_reducible apply Good.step (State.bump_good ..))
    | (with_reducible apply Good.step (State.fallbackStart_good ..))
    | (with_reducible apply Good.step (State.lineAbort_good ..))
    | (with_reducible apply Good.step (State.setPs_good ..))
    | (with_reducible apply Good.step (State.shortStop_good ..))
    | exact rfl

theorem execTrip_good : ∀ a0 a1 s, GoodO 9669967881 s (execTrip a0 a1 s) := by
  intro a0 a1 s
  unfold execTrip
  repeat' first
    | with_reducible exact Good.refl
    | with_reducible assumption
    | with_reducible apply GoodO.next
    | with_reducible apply GoodO.ite
    | with_reducible apply Good.ite
    | (with_reducible apply Good.step (State.atRaw_good ..))
    | (with_reducible apply Good.step (State.tripOf_good ..))
    | exact rfl

theorem execProbeStart_good : ∀ a0 a1 s, GoodO 2097161 s (execProbeStart a0 a1 s) := by
  intro a0 a1 s
  unfold execProbeStart
  repeat' first
    | with_reducible exact Good.refl
    | with_reducible assumption
    | (extract_lets +onlyGivenNames x; (have ht : type_of% x = State := rfl); clear ht; refine GoodO.cut (x := x) ?_ ?_; (on_goal 1 => (unfold x; clear x)); (on_goal 2 => intro hx; clear_value x))
    | (extract_lets +onlyGivenNames x; clear_value x)
    | with_reducible apply GoodO.next
    | with_reducible apply GoodO.ite
    | with_reducible apply Good.ite
    | (with_reducible apply Good.step (State.atRaw_good ..))
    | (with_reducible apply Good.step (State.setPs_good ..))
    | (with_reducible apply Good.step (State.setPsState_good ..))
    | (with_reducible apply Good.step (State.wr_good ..))
    | exact rfl

theorem execProbeEnd_good : ∀ a0 a1 a2 s, GoodO 9669967881 s (execProbeEnd a0 a1 a2 s) := by
  intro a0 a1 a2 s
  unfold execProbeEnd
  repeat' first
    | with_reducible exact Good.refl
    | with_reducible assumption
    | (extract_lets +onlyGivenNames x; (have ht : type_of% x = State := rfl); clear ht; refine GoodO.cut (x := x) ?_ ?_; (on_goal 1 => (unfold x; clear x)); (on_goal 2 => intro hx; clear_value x))
    | (extract_lets +onlyGivenNames x; clear_value x)
    | with_reducible apply GoodO.next
    | with_reducible apply GoodO.ite
    | with_reducible apply Good.ite
    | (with_reducible apply Good.step (State.atRaw_good ..))
    | (with_reducible apply Good.step (State.probeFailed_good ..))
    | (with_reducible apply Good.step (State.psEvent_good ..))
    | (with_reducible apply Good.step (State.setPs_good ..))
    | (with_reducible apply Good.step (State.setPsState_good ..))
    | (with_reducible apply Good.step (State.wr_good ..))
    | exact rfl

theorem execRestartRampEnd_good : ∀ a0 a1 s, GoodO 9669967881 s (execRestartRampEnd a0 a1 s) := by
  intro a0 a1 s
  unfold execRestartRampEnd
  repeat' first
    | with_reducible exact Good.refl
    | with_reducible assumption
    | (extract_lets +onlyGivenNames x; (have ht : type_of% x = State := rfl); clear ht; refine GoodO.cut (x := x) ?_ ?_; (on_goal 1 => (unfold x; clear x)); (on_goal 2 => intro hx; clear_value x))
    | (extract_lets +onlyGivenNames x; clear_value x)
    | with_reducible apply GoodO.next
    | with_reducible apply GoodO.ite
    | with_reducible apply Good.ite
    | (with_reducible apply Good.step (State.atRaw_good ..))
    | (with_reducible apply Good.step (State.fallbackStop_good ..))
    | (with_reducible apply Good.step (State.psEvent_good ..))
    | (with_reducible apply Good.step (State.setPs_good ..))
    | (with_reducible apply Good.step (State.setPsState_good ..))
    | exact rfl

theorem execPrincipalTripFree_good : ∀ a0 a1 s, GoodO 6291465 s (execPrincipalTripFree a0 a1 s) := by
  intro a0 a1 s
  unfold execPrincipalTripFree
  repeat' first
    | with_reducible exact Good.refl
    | with_reducible assumption
    | (extract_lets +onlyGivenNames x; (have ht : type_of% x = State := rfl); clear ht; refine GoodO.cut (x := x) ?_ ?_; (on_goal 1 => (unfold x; clear x)); (on_goal 2 => intro hx; clear_value x))
    | (extract_lets +onlyGivenNames x; clear_value x)
    | with_reducible apply GoodO.next
    | with_reducible apply GoodO.ite
    | with_reducible apply Good.ite
    | (with_reducible apply Good.step (State.atRaw_good ..))
    | (with_reducible apply Good.step (State.fallbackStop_good ..))
    | exact rfl

theorem execDcCheck_good : ∀ a0 a1 a2 s, GoodO 9669967881 s (execDcCheck a0 a1 a2 s) := by
  intro a0 a1 a2 s
  unfold execDcCheck
  repeat' first
    | with_reducible exact Good.refl
    | with_reducible assumption
    | (extract_lets +onlyGivenNames x; (have ht : type_of% x = State := rfl); clear ht; refine GoodO.cut (x := x) ?_ ?_; (on_goal 1 => (unfold x; clear x)); (on_goal 2 => intro hx; clear_value x))
    | (extract_lets +onlyGivenNames x; clear_value x)
    | with_reducible apply GoodO.next
    | with_reducible apply GoodO.ite
    | with_reducible apply Good.ite
    | (with_reducible apply Good.step (State.atRaw_good ..))
    | (with_reducible apply Good.step (State.bump_good ..))
    | (with_reducible apply Good.step (State.fallbackStart_good ..))
    | (with_reducible apply Good.step (State.flag_good ..))
    | (with_reducible apply Good.step (State.gatesLow_good ..))
    | (with_reducible apply Good.step (State.lineAbort_good ..))
    | (with_reducible apply Good.step (State.psEvent_good ..))
    | (with_reducible apply Good.step (State.setPs_good ..))
    | (with_reducible apply Good.step (State.setPsState_good ..))
    | (with_reducible apply Good.step (State.showFaults_good ..))
    | (with_reducible apply Good.step (State.wr_good ..))
    | exact rfl

theorem State.openDeclared_good : ∀ s a1, Good 9669967873 s (State.openDeclared s a1) := by
  intro s a1
  unfold State.openDeclared
  repeat' first
    | with_reducible exact Good.refl
    | with_reducible assumption
    | (extract_lets +onlyGivenNames x; (have ht : type_of% x = State := rfl); clear ht; refine Good.cut (x := x) ?_ ?_; (on_goal 1 => (unfold x; clear x)); (on_goal 2 => intro hx; clear_value x))
    | (extract_lets +onlyGivenNames x; clear_value x)
    | (with_reducible apply Good.step (State.bump_good ..))
    | (with_reducible apply Good.step (State.flag_good ..))
    | (with_reducible apply Good.step (State.psEvent_good ..))
    | (with_reducible apply Good.step (State.psStart_good ..))
    | (with_reducible apply Good.step (State.setPs_good ..))
    | (with_reducible apply Good.step (State.showFaults_good ..))
    | exact rfl

theorem execLoopWindow_good : ∀ a0 a1 a2 s, GoodO 9669967881 s (execLoopWindow a0 a1 a2 s) := by
  intro a0 a1 a2 s
  unfold execLoopWindow
  repeat' first
    | with_reducible exact Good.refl
    | with_reducible assumption
    | (extract_lets +onlyGivenNames x; (have ht : type_of% x = State := rfl); clear ht; refine GoodO.cut (x := x) ?_ ?_; (on_goal 1 => (unfold x; clear x)); (on_goal 2 => intro hx; clear_value x))
    | (extract_lets +onlyGivenNames x; clear_value x)
    | with_reducible apply GoodO.next
    | with_reducible apply GoodO.ite
    | with_reducible apply Good.ite
    | (with_reducible apply Good.step (State.atRaw_good ..))
    | (with_reducible apply Good.step (State.openDeclared_good ..))
    | (with_reducible apply Good.step (State.setPs_good ..))
    | exact rfl

theorem execStartComplete_good : ∀ a0 a1 s, GoodO 9669967881 s (execStartComplete a0 a1 s) := by
  intro a0 a1 s
  unfold execStartComplete
  repeat' first
    | with_reducible exact Good.refl
    | with_reducible assumption
    | (extract_lets +onlyGivenNames x; (have ht : type_of% x = State := rfl); clear ht; refine GoodO.cut (x := x) ?_ ?_; (on_goal 1 => (unfold x; clear x)); (on_goal 2 => intro hx; clear_value x))
    | (extract_lets +onlyGivenNames x; clear_value x)
    | with_reducible apply GoodO.next
    | with_reducible apply GoodO.ite
    | with_reducible apply Good.ite
    | (with_reducible apply Good.step (State.atRaw_good ..))
    | (with_reducible apply Good.step (State.psEvent_good ..))
    | (with_reducible apply Good.step (State.setPs_good ..))
    | (with_reducible apply Good.step (State.setPsState_good ..))
    | exact rfl

theorem execStopComplete_good : ∀ a0 a1 s, GoodO 6291465 s (execStopComplete a0 a1 s) := by
  intro a0 a1 s
  unfold execStopComplete
  repeat' first
    | with_reducible exact Good.refl
    | with_reducible assumption
    | (extract_lets +onlyGivenNames x; (have ht : type_of% x = State := rfl); clear ht; refine GoodO.cut (x := x) ?_ ?_; (on_goal 1 => (unfold x; clear x)); (on_goal 2 => intro hx; clear_value x))
    | (extract_lets +onlyGivenNames x; (have ht : type_of% x = State := rfl); clear ht; refine Good.cut (x := x) ?_ ?_; (on_goal 1 => (unfold x; clear x)); (on_goal 2 => intro hx; clear_value x))
    | (extract_lets +onlyGivenNames x; clear_value x)
    | with_reducible apply GoodO.next
    | with_reducible apply GoodO.ite
    | with_reducible apply Good.ite
    | (with_reducible apply Good.step (State.atRaw_good ..))
    | (with_reducible apply Good.step (State.gatesLow_good ..))
    | (with_reducible apply Good.step (State.psIdle_good ..))
    | (with_reducible apply Good.step (State.psStartOwn_good ..))
    | (with_reducible apply Good.step (State.setPs_good ..))
    | (with_reducible apply Good.step (State.setPsState_good ..))
    | (with_reducible apply Good.step (State.wr_good ..))
    | exact rfl

theorem State.clearShort_good : ∀ s a1, Good 6291457 s (State.clearShort s a1) := by
  intro s a1
  unfold State.clearShort
  repeat' first
    | with_reducible exact Good.refl
    | with_reducible assumption
    | (extract_lets +onlyGivenNames x; clear_value x)
    | with_reducible apply Good.ite
    | (with_reducible apply Good.step (State.fallbackStop_good ..))
    | (with_reducible apply Good.step (State.psStartOwn_good ..))
    | (with_reducible apply Good.step (State.setPs_good ..))
    | (with_reducible apply Good.step (State.setPsState_good ..))
    | (with_reducible apply Good.step (State.showFaults_good ..))
    | (with_reducible apply Good.step (State.wr_good ..))
    | exact rfl

theorem State.clearDc_good : ∀ s a1, Good 6291457 s (State.clearDc s a1) := by
  intro s a1
  unfold State.clearDc
  repeat' first
    | with_reducible exact Good.refl
    | with_reducible assumption
    | (extract_lets +onlyGivenNames x; (have ht : type_of% x = State := rfl); clear ht; refine Good.cut (x := x) ?_ ?_; (on_goal 1 => (unfold x; clear x)); (on_goal 2 => intro hx; clear_value x))
    | with_reducible apply Good.ite
    | (with_reducible apply Good.step (State.fallbackStop_good ..))
    | (with_reducible apply Good.step (State.psStartOwn_good ..))
    | (with_reducible apply Good.step (State.setPsState_good ..))
    | (with_reducible apply Good.step (State.showFaults_good ..))
    | (with_reducible apply Good.step (State.wr_good ..))
    | exact rfl

theorem State.clearOpen_good : ∀ s a1, Good 6291457 s (State.clearOpen s a1) := by
  intro s a1
  unfold State.clearOpen
  repeat' first
    | with_reducible exact Good.refl
    | with_reducible assumption
    | (extract_lets +onlyGivenNames x; (have ht : type_of% x = State := rfl); clear ht; refine Good.cut (x := x) ?_ ?_; (on_goal 1 => (unfold x; clear x)); (on_goal 2 => intro hx; clear_value x))
    | with_reducible apply Good.ite
    | (with_reducible apply Good.step (State.psStop_good ..))
    | (with_reducible apply Good.step (State.showFaults_good ..))
    | (with_reducible apply Good.step (State.wr_good ..))
    | exact rfl

theorem State.clearFaults_good : ∀ s a1 a2, Good 6291457 s (State.clearFaults s a1 a2) := by
  intro s a1 a2
  unfold State.clearFaults
  repeat' first
    | with_reducible exact Good.refl
    | with_reducible assumption
    | (extract_lets +onlyGivenNames x; (have ht : type_of% x = State := rfl); clear ht; refine Good.cut (x := x) ?_ ?_; (on_goal 1 => (unfold x; clear x)); (on_goal 2 => intro hx; clear_value x))
    | (with_reducible apply Good.step (State.clearDc_good ..))
    | (with_reducible apply Good.step (State.clearOpen_good ..))
    | (with_reducible apply Good.step (State.clearShort_good ..))
    | (with_reducible apply Good.step (State.showFaults_good ..))
    | (with_reducible refine Good.when (fun y hy => ?_) ?_)
    | (with_reducible apply Good.step (State.wr_good ..))
    | exact rfl

theorem execClearFaultShort_good : ∀ a0 a1 s, GoodO 6291465 s (execClearFaultShort a0 a1 s) := by
  intro a0 a1 s
  unfold execClearFaultShort
  repeat' first
    | with_reducible exact Good.refl
    | with_reducible assumption
    | with_reducible apply GoodO.next
    | with_reducible apply GoodO.ite
    | with_reducible apply Good.ite
    | (with_reducible apply Good.step (State.atRaw_good ..))
    | (with_reducible apply Good.step (State.clearFaults_good ..))
    | exact rfl

theorem execClearFaultDc_good : ∀ a0 a1 s, GoodO 6291465 s (execClearFaultDc a0 a1 s) := by
  intro a0 a1 s
  unfold execClearFaultDc
  repeat' first
    | with_reducible exact Good.refl
    | with_reducible assumption
    | with_reducible apply GoodO.next
    | with_reducible apply GoodO.ite
    | with_reducible apply Good.ite
    | (with_reducible apply Good.step (State.atRaw_good ..))
    | (with_reducible apply Good.step (State.clearFaults_good ..))
    | exact rfl

theorem execClearFaultOpen_good : ∀ a0 a1 s, GoodO 6291465 s (execClearFaultOpen a0 a1 s) := by
  intro a0 a1 s
  unfold execClearFaultOpen
  repeat' first
    | with_reducible exact Good.refl
    | with_reducible assumption
    | with_reducible apply GoodO.next
    | with_reducible apply GoodO.ite
    | with_reducible apply Good.ite
    | (with_reducible apply Good.step (State.atRaw_good ..))
    | (with_reducible apply Good.step (State.clearFaults_good ..))
    | exact rfl

theorem State.driveLegs_good : ∀ s a1 a2 a3, Good 2097152 s (State.driveLegs s a1 a2 a3) := by
  intro s a1 a2 a3
  unfold State.driveLegs
  repeat' first
    | with_reducible exact Good.refl
    | with_reducible assumption
    | (extract_lets +onlyGivenNames x; clear_value x)
    | (with_reducible apply Good.step (State.setPs_good ..))
    | exact rfl

theorem State.placeEdges_good : ∀ s a1 a2 a3, Good 2097153 s (State.placeEdges s a1 a2 a3) := by
  intro s a1 a2 a3
  unfold State.placeEdges
  repeat' first
    | with_reducible exact Good.refl
    | with_reducible assumption
    | (extract_lets +onlyGivenNames x; clear_value x)
    | with_reducible apply Good.ite
    | (with_reducible apply Good.step (State.bump_good ..))
    | (with_reducible apply Good.step (State.driveLegs_good ..))
    | (with_reducible apply Good.step (State.flag_good ..))
    | (with_reducible apply Good.step (State.showFaults_good ..))
    | (with_reducible refine Good.when (fun y hy => ?_) ?_)
    | exact rfl

theorem State.dutyEdges_good : ∀ s a1 a2 a3, Good 2097152 s (State.dutyEdges s a1 a2 a3) := by
  intro s a1 a2 a3
  unfold State.dutyEdges
  repeat' first
    | with_reducible exact Good.refl
    | with_reducible assumption
    | (extract_lets +onlyGivenNames x; clear_value x)
    | with_reducible apply Good.ite
    | (with_reducible apply Good.step (State.driveLegs_good ..))
    | exact rfl

theorem State.modulate_good : ∀ s a1 a2 a3 a4, Good 2097153 s (State.modulate s a1 a2 a3 a4) := by
  intro s a1 a2 a3 a4
  unfold State.modulate
  repeat' first
    | with_reducible exact Good.refl
    | with_reducible assumption
    | (extract_lets +onlyGivenNames x; clear_value x)
    | with_reducible apply Good.ite
    | (with_reducible apply Good.step (State.placeEdges_good ..))
    | (with_reducible apply Good.step (State.setPs_good ..))
    | exact rfl

theorem State.periodEdges_good : ∀ s a1 a2 a3, Good 2097153 s (State.periodEdges s a1 a2 a3) := by
  intro s a1 a2 a3
  unfold State.periodEdges
  repeat' first
    | with_reducible exact Good.refl
    | with_reducible assumption
    | (extract_lets +onlyGivenNames x; clear_value x)
    | with_reducible apply Good.ite
    | (with_reducible apply Good.step (State.dutyEdges_good ..))
    | (with_reducible apply Good.step (State.modulate_good ..))
    | exact rfl

theorem execSwitchingPeriod_good : ∀ a0 a1 a2 a3 s, GoodO 9669967881 s (execSwitchingPeriod a0 a1 a2 a3 s) := by
  intro a0 a1 a2 a3 s
  unfold execSwitchingPeriod
  repeat' first
    | with_reducible exact Good.refl
    | with_reducible assumption
    | (extract_lets +onlyGivenNames x; (have ht : type_of% x = State := rfl); clear ht; refine GoodO.cut (x := x) ?_ ?_; (on_goal 1 => (unfold x; clear x)); (on_goal 2 => intro hx; clear_value x))
    | (extract_lets +onlyGivenNames x; (have ht : type_of% x = State := rfl); clear ht; refine Good.cut (x := x) ?_ ?_; (on_goal 1 => (unfold x; clear x)); (on_goal 2 => intro hx; clear_value x))
    | (extract_lets +onlyGivenNames x; clear_value x)
    | with_reducible apply GoodO.next
    | with_reducible apply GoodO.ite
    | with_reducible apply Good.ite
    | (with_reducible apply Good.step (State.atRaw_good ..))
    | (with_reducible apply Good.step (State.periodEdges_good ..))
    | (with_reducible apply Good.step (State.setPs_good ..))
    | (with_reducible apply Good.step (State.tripOf_good ..))
    | (with_reducible apply Good.step (State.wr_good ..))
    | exact rfl
    | split

theorem State.armBend_good : ∀ s a1, Good 6291457 s (State.armBend s a1) := by
  intro s a1
  unfold State.armBend
  repeat' first
    | with_reducible exact Good.refl
    | with_reducible assumption
    | (extract_lets +onlyGivenNames x; (have ht : type_of% x = State := rfl); clear ht; refine Good.cut (x := x) ?_ ?_; (on_goal 1 => (unfold x; clear x)); (on_goal 2 => intro hx; clear_value x))
    | (extract_lets +onlyGivenNames x; clear_value x)
    | with_reducible apply Good.ite
    | (with_reducible apply Good.step (State.psIdle_good ..))
    | (with_reducible apply Good.step (State.psStop_good ..))
    | (with_reducible apply Good.step (State.setPs_good ..))
    | exact rfl

theorem State.psConfig_good : ∀ s a1 a2, Good 6291457 s (State.psConfig s a1 a2) := by
  intro s a1 a2
  unfold State.psConfig
  repeat' first
    | with_reducible exact Good.refl
    | with_reducible assumption
    | (extract_lets +onlyGivenNames x; (have ht : type_of% x = State := rfl); clear ht; refine Good.cut (x := x) ?_ ?_; (on_goal 1 => (unfold x; clear x)); (on_goal 2 => intro hx; clear_value x))
    | (extract_lets +onlyGivenNames x; clear_value x)
    | with_reducible apply Good.ite
    | (with_reducible apply Good.step (State.armBend_good ..))
    | (with_reducible apply Good.step (State.psIdle_good ..))
    | (with_reducible apply Good.step (State.psStop_good ..))
    | (with_reducible apply Good.step (State.setPs_good ..))
    | (with_reducible apply Good.step (State.wr_good ..))
    | exact rfl

theorem State.psRun_good : ∀ s a1 a2, Good 6291457 s (State.psRun s a1 a2) := by
  intro s a1 a2
  unfold State.psRun
  repeat' first
    | with_reducible exact Good.refl
    | with_reducible assumption
    | (extract_lets +onlyGivenNames x; (have ht : type_of% x = State := rfl); clear ht; refine Good.cut (x := x) ?_ ?_; (on_goal 1 => (unfold x; clear x)); (on_goal 2 => intro hx; clear_value x))
    | (extract_lets +onlyGivenNames x; clear_value x)
    | with_reducible apply Good.ite
    | (with_reducible apply Good.step (State.psIdle_good ..))
    | (with_reducible apply Good.step (State.psStartOwn_good ..))
    | (with_reducible apply Good.step (State.psStop_good ..))
    | (with_reducible apply Good.step (State.setPs_good ..))
    | exact rfl

theorem State.startAll_good : ∀ s a1 a2, Good 6291457 s (State.startAll s a1 a2) := by
  intro s a1 a2
  unfold State.startAll
  repeat' first
    | with_reducible exact Good.refl
    | with_reducible assumption
    | with_reducible apply Good.ite
    | (with_reducible apply Good.foldl)
    | (with_reducible apply Good.foldl_snd)
    | (with_reducible apply Good.foldl_fst)
    | (intro x b h; try beta_reduce)
    | (with_reducible apply Good.step (State.psIdle_good ..))
    | (with_reducible apply Good.step (State.psStart_good ..))
    | exact rfl

theorem State.stopAll_good : ∀ s, Good 6291457 s (State.stopAll s) := by
  intro s
  unfold State.stopAll
  repeat' first
    | with_reducible exact Good.refl
    | with_reducible assumption
    | with_reducible apply Good.ite
    | (with_reducible apply Good.foldl)
    | (with_reducible apply Good.foldl_snd)
    | (with_reducible apply Good.foldl_fst)
    | (intro x b h; try beta_reduce)
    | (with_reducible apply Good.step (State.psStop_good ..))
    | exact rfl

theorem State.showLimiting_good : ∀ s, Good 2097153 s (State.showLimiting s) := by
  intro s
  unfold State.showLimiting
  repeat' first
    | with_reducible exact Good.refl
    | with_reducible assumption
    | (extract_lets +onlyGivenNames x; clear_value x)
    | (with_reducible apply Good.foldl)
    | (with_reducible apply Good.foldl_snd)
    | (with_reducible apply Good.foldl_fst)
    | (intro x b h; try beta_reduce)
    | (with_reducible apply Good.step (State.setPs_good ..))
    | (with_reducible apply Good.step (State.wr_good ..))
    | exact rfl

end Sys2Proof.Machine
end

