-- ==== Sys2Proof/Laws/KeepMessages.lean ====
section
/-! SUPPORT. What each operation of Machine/Messages.lean changes, and that it keeps what every operation keeps. -/

-- One proof at a time: the package as one text then takes less memory.
set_option Elab.async false

namespace Sys2Proof.Machine

open Sys2Proof

theorem State.setMsg_good : ∀ s a1 a2, Good 70437463654400 s (State.setMsg s a1 a2) := by
  intro s a1 a2
  unfold State.setMsg
  repeat' first
    | with_reducible exact Good.refl
    | with_reducible assumption
    | (extract_lets +onlyGivenNames x; clear_value x)
    | with_reducible apply Good.ite
    | exact rfl
    | (with_reducible apply Good.upd_msgs_lib)

theorem State.fillOpening_good : ∀ s a1, Good 70368744177680 s (State.fillOpening s a1) := by
  intro s a1
  unfold State.fillOpening
  repeat' first
    | with_reducible exact Good.refl
    | with_reducible assumption
    | (extract_lets +onlyGivenNames x; (have ht : type_of% x = State := rfl); clear ht; refine Good.cut (x := x) ?_ ?_; (on_goal 1 => (unfold x; clear x)); (on_goal 2 => intro hx; clear_value x))
    | (extract_lets +onlyGivenNames x; clear_value x)
    | with_reducible apply Good.ite
    | (with_reducible apply Good.step (State.setBytes_good ..))
    | exact rfl
    | split
    | (with_reducible apply Good.upd_lib)

theorem State.loadLibrary_good : ∀ s, Good 70368744177680 s (State.loadLibrary s) := by
  intro s
  unfold State.loadLibrary
  repeat' first
    | with_reducible exact Good.refl
    | with_reducible assumption
    | (extract_lets +onlyGivenNames x; (have ht : type_of% x = State := rfl); clear ht; refine Good.cut (x := x) ?_ ?_; (on_goal 1 => (unfold x; clear x)); (on_goal 2 => intro hx; clear_value x))
    | (extract_lets +onlyGivenNames x; clear_value x)
    | (with_reducible apply Good.foldl)
    | (with_reducible apply Good.foldl_snd)
    | (with_reducible apply Good.foldl_fst)
    | (intro x b h; try beta_reduce)
    | (with_reducible apply Good.step (State.fillOpening_good ..))
    | exact rfl
    | (with_reducible apply Good.upd_lib)

theorem State.presentMsg_good : ∀ s a1 a2, Good 529 s (State.presentMsg s a1 a2) := by
  intro s a1 a2
  unfold State.presentMsg
  repeat' first
    | with_reducible exact Good.refl
    | with_reducible assumption
    | (extract_lets +onlyGivenNames x; clear_value x)
    | with_reducible apply Good.ite
    | (with_reducible apply Good.step (State.count_good ..))
    | (with_reducible apply Good.step (State.present_good ..))
    | exact rfl

theorem State.presentMsgs_good : ∀ s a1, Good 137438954001 s (State.presentMsgs s a1) := by
  intro s a1
  unfold State.presentMsgs
  repeat' first
    | with_reducible exact Good.refl
    | with_reducible assumption
    | (extract_lets +onlyGivenNames x; (have ht : type_of% x = State := rfl); clear ht; refine Good.cut (x := x) ?_ ?_; (on_goal 1 => (unfold x; clear x)); (on_goal 2 => intro hx; clear_value x))
    | (with_reducible apply Good.foldl)
    | (with_reducible apply Good.foldl_snd)
    | (with_reducible apply Good.foldl_fst)
    | (intro x b h; try beta_reduce)
    | (with_reducible apply Good.step (State.presentMsg_good ..))
    | exact rfl
    | (with_reducible apply Good.upd_plays)

theorem State.startPlay_good : ∀ s a1 a2 a3 a4 a5, Good 137438953472 s (State.startPlay s a1 a2 a3 a4 a5) := by
  intro s a1 a2 a3 a4 a5
  unfold State.startPlay
  repeat' first
    | with_reducible exact Good.refl
    | with_reducible assumption
    | exact rfl
    | (with_reducible apply Good.upd_plays)

theorem State.stopMsg_good : ∀ s a1 a2 a3, Good 137438953472 s (State.stopMsg s a1 a2 a3) := by
  intro s a1 a2 a3
  unfold State.stopMsg
  repeat' first
    | with_reducible exact Good.refl
    | with_reducible assumption
    | with_reducible apply Good.ite
    | exact rfl
    | split
    | (with_reducible apply Good.upd_plays)

theorem State.shedMsgs_good : ∀ s a1, Good 137438953472 s (State.shedMsgs s a1) := by
  intro s a1
  unfold State.shedMsgs
  repeat' first
    | with_reducible exact Good.refl
    | with_reducible assumption
    | (with_reducible apply Good.foldl)
    | (with_reducible apply Good.foldl_snd)
    | (with_reducible apply Good.foldl_fst)
    | (intro x b h; try beta_reduce)
    | exact rfl
    | (with_reducible apply Good.upd_plays)

theorem execEvacuationTrigger_good : ∀ a0 a1 s, GoodO 137438953480 s (execEvacuationTrigger a0 a1 s) := by
  intro a0 a1 s
  unfold execEvacuationTrigger
  repeat' first
    | with_reducible exact Good.refl
    | with_reducible assumption
    | (extract_lets +onlyGivenNames x; (have ht : type_of% x = State := rfl); clear ht; refine GoodO.cut (x := x) ?_ ?_; (on_goal 1 => (unfold x; clear x)); (on_goal 2 => intro hx; clear_value x))
    | (extract_lets +onlyGivenNames x; (have ht : type_of% x = State := rfl); clear ht; refine Good.cut (x := x) ?_ ?_; (on_goal 1 => (unfold x; clear x)); (on_goal 2 => intro hx; clear_value x))
    | with_reducible apply GoodO.next
    | with_reducible apply GoodO.ite
    | with_reducible apply Good.ite
    | (with_reducible apply Good.step (State.atRaw_good ..))
    | (with_reducible apply Good.step (State.startPlay_good ..))
    | exact rfl
    | split

end Sys2Proof.Machine
end

