-- ==== Sys2Proof/Laws/KeepOstler.lean ====
section
/-! SUPPORT. What each operation of Machine/Ostler.lean changes, and that it keeps what every operation keeps. -/

-- One proof at a time: the package as one text then takes less memory.
set_option Elab.async false

namespace Sys2Proof.Machine

open Sys2Proof

theorem State.setFlow_good : ∀ s a1 a2, Good 4096 s (State.setFlow s a1 a2) := by
  intro s a1 a2
  unfold State.setFlow
  repeat' first
    | with_reducible exact Good.refl
    | with_reducible assumption
    | (extract_lets +onlyGivenNames x; clear_value x)
    | exact rfl
    | (with_reducible apply Good.upd_ost)

theorem State.setQueue_good : ∀ s a1 a2, Good 4097 s (State.setQueue s a1 a2) := by
  intro s a1 a2
  unfold State.setQueue
  repeat' first
    | with_reducible exact Good.refl
    | with_reducible assumption
    | (extract_lets +onlyGivenNames x; (have ht : type_of% x = State := rfl); clear ht; refine Good.cut (x := x) ?_ ?_; (on_goal 1 => (unfold x; clear x)); (on_goal 2 => intro hx; clear_value x))
    | (extract_lets +onlyGivenNames x; clear_value x)
    | (with_reducible apply Good.step (State.wr_good ..))
    | exact rfl
    | (with_reducible apply Good.upd_ost)

theorem State.enter_good : ∀ s a1, Good 4097 s (State.enter s a1) := by
  intro s a1
  unfold State.enter
  repeat' first
    | with_reducible exact Good.refl
    | with_reducible assumption
    | (extract_lets +onlyGivenNames x; clear_value x)
    | with_reducible apply Good.ite
    | (with_reducible apply Good.step (State.bump_good ..))
    | (with_reducible apply Good.step (State.setFlow_good ..))
    | (with_reducible apply Good.step (State.setQueue_good ..))
    | exact rfl

theorem State.enterHanded_good : ∀ s a1 a2, Good 4097 s (State.enterHanded s a1 a2) := by
  intro s a1 a2
  unfold State.enterHanded
  repeat' first
    | with_reducible exact Good.refl
    | with_reducible assumption
    | with_reducible apply Good.ite
    | (with_reducible apply Good.step (State.bump_good ..))
    | (with_reducible apply Good.step (State.setQueue_good ..))
    | exact rfl

theorem State.retire_good : ∀ s a1 a2, Good 4097 s (State.retire s a1 a2) := by
  intro s a1 a2
  induction a2 generalizing s a1 with
  | zero => exact Good.refl
  | succ n ih =>
    unfold State.retire
    repeat' first
      | with_reducible exact Good.refl
      | with_reducible assumption
      | (with_reducible apply Good.step (ih ..))
      | (extract_lets +onlyGivenNames x; clear_value x)
      | with_reducible apply Good.ite
      | (with_reducible apply Good.step (State.enter_good ..))
      | (with_reducible apply Good.step (State.setFlow_good ..))
      | exact rfl
      | split

theorem State.retireFlow_good : ∀ s a1, Good 4097 s (State.retireFlow s a1) := by
  intro s a1
  unfold State.retireFlow
  repeat' first
    | with_reducible exact Good.refl
    | with_reducible assumption
    | (with_reducible apply Good.step (State.retire_good ..))
    | exact rfl

theorem State.markAbandoned_good : ∀ s a1 a2, Good 4097 s (State.markAbandoned s a1 a2) := by
  intro s a1 a2
  unfold State.markAbandoned
  repeat' first
    | with_reducible exact Good.refl
    | with_reducible assumption
    | (extract_lets +onlyGivenNames x; (have ht : type_of% x = State := rfl); clear ht; refine Good.cut (x := x) ?_ ?_; (on_goal 1 => (unfold x; clear x)); (on_goal 2 => intro hx; clear_value x))
    | (with_reducible apply Good.step (State.bump_good ..))
    | (with_reducible apply Good.step (State.flag_good ..))
    | (with_reducible apply Good.step (State.setFlow_good ..))
    | exact rfl

theorem State.abandon_good : ∀ s a1 a2, Good 4097 s (State.abandon s a1 a2) := by
  intro s a1 a2
  unfold State.abandon
  repeat' first
    | with_reducible exact Good.refl
    | with_reducible assumption
    | (with_reducible apply Good.step (State.markAbandoned_good ..))
    | (with_reducible apply Good.step (State.retireFlow_good ..))
    | exact rfl

theorem State.retireAll_good : ∀ s, Good 4097 s (State.retireAll s) := by
  intro s
  unfold State.retireAll
  repeat' first
    | with_reducible exact Good.refl
    | with_reducible assumption
    | (with_reducible apply Good.foldl)
    | (with_reducible apply Good.foldl_snd)
    | (with_reducible apply Good.foldl_fst)
    | (intro x b h; try beta_reduce)
    | (with_reducible apply Good.step (State.retireFlow_good ..))
    | exact rfl

theorem State.placeDone_good : ∀ s a1 a2, Good 4097 s (State.placeDone s a1 a2) := by
  intro s a1 a2
  unfold State.placeDone
  repeat' first
    | with_reducible exact Good.refl
    | with_reducible assumption
    | (with_reducible apply Good.step (State.retireFlow_good ..))
    | (with_reducible apply Good.step (State.setFlow_good ..))
    | exact rfl

theorem State.tickPost_good : ∀ s a1, Good 4097 s (State.tickPost s a1) := by
  intro s a1
  unfold State.tickPost
  repeat' first
    | with_reducible exact Good.refl
    | with_reducible assumption
    | with_reducible apply Good.ite
    | (with_reducible apply Good.step (State.bump_good ..))
    | (with_reducible apply Good.step (State.enter_good ..))
    | (with_reducible apply Good.step (State.flag_good ..))
    | exact rfl

theorem State.expireQueue_good : ∀ s a1 a2, Good 4097 s (State.expireQueue s a1 a2) := by
  intro s a1 a2
  unfold State.expireQueue
  repeat' first
    | with_reducible exact Good.refl
    | with_reducible assumption
    | (extract_lets +onlyGivenNames x; (have ht : type_of% x = State := rfl); clear ht; refine Good.cut (x := x) ?_ ?_; (on_goal 1 => (unfold x; clear x)); (on_goal 2 => intro hx; clear_value x))
    | (extract_lets +onlyGivenNames x; clear_value x)
    | with_reducible apply Good.ite
    | (with_reducible apply Good.foldl)
    | (with_reducible apply Good.foldl_snd)
    | (with_reducible apply Good.foldl_fst)
    | (intro x b h; try beta_reduce)
    | (with_reducible apply Good.step (State.bump_good ..))
    | (with_reducible apply Good.step (State.flag_good ..))
    | (with_reducible apply Good.step (State.markAbandoned_good ..))
    | (with_reducible apply Good.step (State.setQueue_good ..))
    | exact rfl

theorem State.tickPoint_good : ∀ s a1, Good 4097 s (State.tickPoint s a1) := by
  intro s a1
  unfold State.tickPoint
  repeat' first
    | with_reducible exact Good.refl
    | with_reducible assumption
    | (extract_lets +onlyGivenNames x; (have ht : type_of% x = State := rfl); clear ht; refine Good.cut (x := x) ?_ ?_; (on_goal 1 => (unfold x; clear x)); (on_goal 2 => intro hx; clear_value x))
    | (extract_lets +onlyGivenNames x; clear_value x)
    | with_reducible apply Good.ite
    | (with_reducible apply Good.foldl)
    | (with_reducible apply Good.foldl_snd)
    | (with_reducible apply Good.foldl_fst)
    | (intro x b h; try beta_reduce)
    | (with_reducible apply Good.step (State.expireQueue_good ..))
    | (with_reducible apply Good.step (State.retireAll_good ..))
    | (with_reducible apply Good.step (State.tickPost_good ..))
    | exact rfl

theorem execWindowRelease_good : ∀ a0 s, GoodO 4097 s (execWindowRelease a0 s) := by
  intro a0 s
  unfold execWindowRelease
  repeat' first
    | with_reducible exact Good.refl
    | with_reducible assumption
    | with_reducible apply GoodO.next
    | with_reducible apply GoodO.ite
    | with_reducible apply Good.ite
    | (with_reducible apply Good.foldl)
    | (with_reducible apply Good.foldl_snd)
    | (with_reducible apply Good.foldl_fst)
    | (intro x b h; try beta_reduce)
    | (with_reducible apply Good.step (State.retireFlow_good ..))
    | exact rfl

end Sys2Proof.Machine
end

