-- ==== Sys2Proof/Laws/KeepDroverCore.lean ====
section
/-! SUPPORT. What each operation of Machine/DroverCore.lean changes, and that it keeps what every operation keeps. -/

-- One proof at a time: the package as one text then takes less memory.
set_option Elab.async false

namespace Sys2Proof.Machine

open Sys2Proof

theorem State.setCore_good : ∀ s a1 a2, Good 8192 s (State.setCore s a1 a2) := by
  intro s a1 a2
  unfold State.setCore
  repeat' first
    | with_reducible exact Good.refl
    | with_reducible assumption
    | exact rfl
    | (with_reducible apply Good.upd_cores)

theorem State.setCoreState_good : ∀ s a1 a2, Good 1 s (State.setCoreState s a1 a2) := by
  intro s a1 a2
  unfold State.setCoreState
  repeat' first
    | with_reducible exact Good.refl
    | with_reducible assumption
    | (with_reducible apply Good.step (State.wr_good ..))
    | exact rfl

theorem State.coreCopies_good : ∀ s a1, Good 1 s (State.coreCopies s a1) := by
  intro s a1
  unfold State.coreCopies
  repeat' first
    | with_reducible exact Good.refl
    | with_reducible assumption
    | (extract_lets +onlyGivenNames x; (have ht : type_of% x = State := rfl); clear ht; refine Good.cut (x := x) ?_ ?_; (on_goal 1 => (unfold x; clear x)); (on_goal 2 => intro hx; clear_value x))
    | (extract_lets +onlyGivenNames x; clear_value x)
    | (with_reducible apply Good.step (State.wr_good ..))
    | exact rfl

theorem State.setRot_good : ∀ s a1 a2, Good 1 s (State.setRot s a1 a2) := by
  intro s a1 a2
  unfold State.setRot
  repeat' first
    | with_reducible exact Good.refl
    | with_reducible assumption
    | (with_reducible apply Good.step (State.coreCopies_good ..))
    | (with_reducible apply Good.step (State.wr_good ..))
    | exact rfl

theorem State.showIdle_good : ∀ s, Good 1 s (State.showIdle s) := by
  intro s
  unfold State.showIdle
  repeat' first
    | with_reducible exact Good.refl
    | with_reducible assumption
    | (with_reducible apply Good.step (State.wr_good ..))
    | exact rfl

theorem State.dropTask_good : ∀ s a1, Good 12289 s (State.dropTask s a1) := by
  intro s a1
  unfold State.dropTask
  repeat' first
    | with_reducible exact Good.refl
    | with_reducible assumption
    | (extract_lets +onlyGivenNames x; (have ht : type_of% x = State := rfl); clear ht; refine Good.cut (x := x) ?_ ?_; (on_goal 1 => (unfold x; clear x)); (on_goal 2 => intro hx; clear_value x))
    | (extract_lets +onlyGivenNames x; clear_value x)
    | with_reducible apply Good.ite
    | (with_reducible apply Good.step (State.abandon_good ..))
    | (with_reducible apply Good.step (State.setCore_good ..))
    | (with_reducible apply Good.step (State.showIdle_good ..))
    | exact rfl
    | split

theorem State.enterTrap_good : ∀ s a1 a2, Good 12289 s (State.enterTrap s a1 a2) := by
  intro s a1 a2
  unfold State.enterTrap
  repeat' first
    | with_reducible exact Good.refl
    | with_reducible assumption
    | (extract_lets +onlyGivenNames x; (have ht : type_of% x = State := rfl); clear ht; refine Good.cut (x := x) ?_ ?_; (on_goal 1 => (unfold x; clear x)); (on_goal 2 => intro hx; clear_value x))
    | (extract_lets +onlyGivenNames x; clear_value x)
    | with_reducible apply Good.ite
    | (with_reducible apply Good.step (State.bump_good ..))
    | (with_reducible apply Good.step (State.coreCopies_good ..))
    | (with_reducible apply Good.step (State.dropTask_good ..))
    | (with_reducible apply Good.step (State.flag_good ..))
    | (with_reducible apply Good.step (State.setCore_good ..))
    | (with_reducible apply Good.step (State.setCoreState_good ..))
    | (with_reducible apply Good.step (State.setRot_good ..))
    | (with_reducible apply Good.step (State.wr_good ..))
    | exact rfl

theorem State.enterDebug_good : ∀ s a1, Good 8193 s (State.enterDebug s a1) := by
  intro s a1
  unfold State.enterDebug
  repeat' first
    | with_reducible exact Good.refl
    | with_reducible assumption
    | (extract_lets +onlyGivenNames x; clear_value x)
    | (with_reducible apply Good.step (State.coreCopies_good ..))
    | (with_reducible apply Good.step (State.setCore_good ..))
    | exact rfl

theorem State.boundary_good : ∀ s a1, Good 12289 s (State.boundary s a1) := by
  intro s a1
  unfold State.boundary
  repeat' first
    | with_reducible exact Good.refl
    | with_reducible assumption
    | (extract_lets +onlyGivenNames x; clear_value x)
    | with_reducible apply Good.ite
    | (with_reducible apply Good.step (State.enterDebug_good ..))
    | (with_reducible apply Good.step (State.enterTrap_good ..))
    | exact rfl
    | split

theorem State.haltNow_good : ∀ s a1, Good 8193 s (State.haltNow s a1) := by
  intro s a1
  unfold State.haltNow
  repeat' first
    | with_reducible exact Good.refl
    | with_reducible assumption
    | (extract_lets +onlyGivenNames x; clear_value x)
    | (with_reducible apply Good.step (State.coreCopies_good ..))
    | (with_reducible apply Good.step (State.setCore_good ..))
    | (with_reducible apply Good.step (State.setCoreState_good ..))
    | exact rfl

theorem State.askHalt_good : ∀ s a1, Good 12289 s (State.askHalt s a1) := by
  intro s a1
  unfold State.askHalt
  repeat' first
    | with_reducible exact Good.refl
    | with_reducible assumption
    | (extract_lets +onlyGivenNames x; clear_value x)
    | with_reducible apply Good.ite
    | (with_reducible apply Good.step (State.boundary_good ..))
    | (with_reducible apply Good.step (State.flag_good ..))
    | (with_reducible apply Good.step (State.haltNow_good ..))
    | (with_reducible apply Good.step (State.setCore_good ..))
    | exact rfl

theorem State.resume_good : ∀ s a1, Good 1 s (State.resume s a1) := by
  intro s a1
  unfold State.resume
  repeat' first
    | with_reducible exact Good.refl
    | with_reducible assumption
    | with_reducible apply Good.ite
    | (with_reducible apply Good.step (State.setCoreState_good ..))
    | exact rfl

theorem State.resetCore_good : ∀ s a1, Good 12289 s (State.resetCore s a1) := by
  intro s a1
  unfold State.resetCore
  repeat' first
    | with_reducible exact Good.refl
    | with_reducible assumption
    | (extract_lets +onlyGivenNames x; (have ht : type_of% x = State := rfl); clear ht; refine Good.cut (x := x) ?_ ?_; (on_goal 1 => (unfold x; clear x)); (on_goal 2 => intro hx; clear_value x))
    | (extract_lets +onlyGivenNames x; clear_value x)
    | with_reducible apply Good.ite
    | (with_reducible apply Good.step (State.coreCopies_good ..))
    | (with_reducible apply Good.step (State.dropTask_good ..))
    | (with_reducible apply Good.step (State.setCore_good ..))
    | (with_reducible apply Good.step (State.setCoreState_good ..))
    | exact rfl

theorem State.setRun_good : ∀ s a1 a2, Good 8193 s (State.setRun s a1 a2) := by
  intro s a1 a2
  unfold State.setRun
  repeat' first
    | with_reducible exact Good.refl
    | with_reducible assumption
    | (extract_lets +onlyGivenNames x; (have ht : type_of% x = State := rfl); clear ht; refine Good.cut (x := x) ?_ ?_; (on_goal 1 => (unfold x; clear x)); (on_goal 2 => intro hx; clear_value x))
    | (extract_lets +onlyGivenNames x; clear_value x)
    | with_reducible apply Good.ite
    | (with_reducible apply Good.step (State.setCore_good ..))
    | (with_reducible apply Good.step (State.setCoreState_good ..))
    | (with_reducible apply Good.step (State.wr_good ..))
    | exact rfl

theorem State.wakeCore_good : ∀ s a1 a2, Good 12289 s (State.wakeCore s a1 a2) := by
  intro s a1 a2
  unfold State.wakeCore
  repeat' first
    | with_reducible exact Good.refl
    | with_reducible assumption
    | (extract_lets +onlyGivenNames x; clear_value x)
    | with_reducible apply Good.ite
    | (with_reducible apply Good.step (State.boundary_good ..))
    | (with_reducible apply Good.step (State.coreCopies_good ..))
    | (with_reducible apply Good.step (State.setCore_good ..))
    | (with_reducible apply Good.step (State.setCoreState_good ..))
    | exact rfl

theorem State.deliver_good : ∀ s a1 a2, Good 12289 s (State.deliver s a1 a2) := by
  intro s a1 a2
  unfold State.deliver
  repeat' first
    | with_reducible exact Good.refl
    | with_reducible assumption
    | (extract_lets +onlyGivenNames x; (have ht : type_of% x = State := rfl); clear ht; refine Good.cut (x := x) ?_ ?_; (on_goal 1 => (unfold x; clear x)); (on_goal 2 => intro hx; clear_value x))
    | (extract_lets +onlyGivenNames x; clear_value x)
    | (with_reducible apply Good.foldl)
    | (with_reducible apply Good.foldl_snd)
    | (with_reducible apply Good.foldl_fst)
    | (with_reducible apply Good.step (State.bump_good ..))
    | (with_reducible apply Good.step (State.setCore_good ..))
    | (with_reducible apply Good.step (State.setFlow_good ..))
    | (with_reducible apply Good.step (State.setQueue_good ..))
    | (with_reducible apply Good.step (State.showIdle_good ..))
    | (with_reducible apply Good.step (State.wakeCore_good ..))
    | (with_reducible refine Good.when (fun y hy => ?_) ?_)
    | exact rfl
    | split
    | (with_reducible apply Good.upd_ost)

theorem execDispatch_good : ∀ a0 a1 s, GoodO 12289 s (execDispatch a0 a1 s) := by
  intro a0 a1 s
  unfold execDispatch
  repeat' first
    | with_reducible exact Good.refl
    | with_reducible assumption
    | (extract_lets +onlyGivenNames x; (have ht : type_of% x = State := rfl); clear ht; refine GoodO.cut (x := x) ?_ ?_; (on_goal 1 => (unfold x; clear x)); (on_goal 2 => intro hx; clear_value x))
    | (extract_lets +onlyGivenNames x; (have ht : type_of% x = State := rfl); clear ht; refine Good.cut (x := x) ?_ ?_; (on_goal 1 => (unfold x; clear x)); (on_goal 2 => intro hx; clear_value x))
    | with_reducible apply GoodO.next
    | with_reducible apply GoodO.ite
    | with_reducible apply Good.ite
    | (with_reducible apply Good.step (State.count_good ..))
    | (with_reducible apply Good.step (State.deliver_good ..))
    | exact rfl
    | split

/-- The state a GIVE leaves: `s` where it waits or faults. -/
def Given.left (s : State) : Given → State
  | .done t => t
  | .wait => s
  | .fault => s

theorem Given.left_done (s t : State) : Given.left s (.done t) = t := rfl

theorem Given.left_wait (s : State) : Given.left s .wait = s := rfl

theorem Given.left_fault (s : State) : Given.left s .fault = s := rfl

theorem Good.given {W : Nat} {a t : State} {p : Given} (e : p = .done t) (h : Good W a (Given.left a p)) : Good W a t := by
  rw [e] at h; exact h

theorem Good.giveFrom {W V : Nat} {a x t : State} {p : Given} (e : p = .done t) (g : Good V x (Given.left x p)) (hw : V ||| W = W)
    (h : Good W a x) : Good W a t := by
  rw [e] at g; exact g.step hw h

theorem State.giveNow_good : ∀ s d, Good 4097 s (Given.left s (State.giveNow s d)) := by
  intro s d
  unfold State.giveNow
  repeat' first
    | with_reducible exact Good.refl
    | rw [Given.left_done]
    | rw [Given.left_wait]
    | (with_reducible apply Good.step (State.enter_good ..))
    | exact rfl
    | split

theorem State.give_good : ∀ s c, Good 12289 s (Given.left s (State.give s c)) := by
  intro s c
  unfold State.give
  repeat' first
    | with_reducible exact Good.refl
    | with_reducible assumption
    | (extract_lets +onlyGivenNames x; clear_value x)
    | rw [Given.left_done]
    | rw [Given.left_wait]
    | rw [Given.left_fault]
    | exact (State.giveNow_good ..).step rfl Good.refl
    | (with_reducible apply Good.step (State.enter_good ..))
    | (with_reducible apply Good.step (State.enterHanded_good ..))
    | (with_reducible apply Good.step (State.setCore_good ..))
    | (with_reducible apply Good.step (State.setFlow_good ..))
    | exact rfl
    | split

theorem execGiveAccept_good : ∀ a0 a1 a2 s, GoodO 12289 s (execGiveAccept a0 a1 a2 s) := by
  intro a0 a1 a2 s
  unfold execGiveAccept
  repeat' first
    | with_reducible exact Good.refl
    | with_reducible assumption
    | (refine Good.giveFrom ‹_› (State.give_good ..) rfl ?_)
    | (extract_lets +onlyGivenNames x; (have ht : type_of% x = State := rfl); clear ht; refine GoodO.cut (x := x) ?_ ?_; (on_goal 1 => (unfold x; clear x)); (on_goal 2 => intro hx; clear_value x))
    | (extract_lets +onlyGivenNames x; (have ht : type_of% x = State := rfl); clear ht; refine Good.cut (x := x) ?_ ?_; (on_goal 1 => (unfold x; clear x)); (on_goal 2 => intro hx; clear_value x))
    | (extract_lets +onlyGivenNames x; clear_value x)
    | with_reducible apply GoodO.next
    | with_reducible apply GoodO.ite
    | with_reducible apply Good.ite
    | (with_reducible apply Good.step (State.count_good ..))
    | (with_reducible apply Good.step (State.retireAll_good ..))
    | (with_reducible apply Good.step (State.wakeCore_good ..))
    | exact rfl
    | split

theorem State.post_good : ∀ s a1, Good 4097 s (State.post s a1) := by
  intro s a1
  unfold State.post
  repeat' first
    | with_reducible exact Good.refl
    | with_reducible assumption
    | (extract_lets +onlyGivenNames x; (have ht : type_of% x = State := rfl); clear ht; refine Good.cut (x := x) ?_ ?_; (on_goal 1 => (unfold x; clear x)); (on_goal 2 => intro hx; clear_value x))
    | (extract_lets +onlyGivenNames x; clear_value x)
    | with_reducible apply Good.ite
    | (with_reducible apply Good.step (State.bump_good ..))
    | (with_reducible apply Good.step (State.enter_good ..))
    | (with_reducible apply Good.step (State.flag_good ..))
    | (with_reducible apply Good.step (State.wr_good ..))
    | exact rfl

theorem execSupervisorPost_good : ∀ a0 s, GoodO 4097 s (execSupervisorPost a0 s) := by
  intro a0 s
  unfold execSupervisorPost
  repeat' first
    | with_reducible exact Good.refl
    | with_reducible assumption
    | with_reducible apply GoodO.next
    | with_reducible apply GoodO.ite
    | with_reducible apply Good.ite
    | (with_reducible apply Good.step (State.post_good ..))
    | exact rfl

theorem State.endTask_good : ∀ s a1, Good 12289 s (State.endTask s a1) := by
  intro s a1
  unfold State.endTask
  repeat' first
    | with_reducible exact Good.refl
    | with_reducible assumption
    | (extract_lets +onlyGivenNames x; (have ht : type_of% x = State := rfl); clear ht; refine Good.cut (x := x) ?_ ?_; (on_goal 1 => (unfold x; clear x)); (on_goal 2 => intro hx; clear_value x))
    | (extract_lets +onlyGivenNames x; clear_value x)
    | with_reducible apply Good.ite
    | (with_reducible apply Good.step (State.bump_good ..))
    | (with_reducible apply Good.step (State.placeDone_good ..))
    | (with_reducible apply Good.step (State.setCore_good ..))
    | (with_reducible apply Good.step (State.showIdle_good ..))
    | exact rfl
    | split

theorem execDoneComplete_good : ∀ a0 s, GoodO 12289 s (execDoneComplete a0 s) := by
  intro a0 s
  unfold execDoneComplete
  repeat' first
    | with_reducible exact Good.refl
    | with_reducible assumption
    | (extract_lets +onlyGivenNames x; (have ht : type_of% x = State := rfl); clear ht; refine GoodO.cut (x := x) ?_ ?_; (on_goal 1 => (unfold x; clear x)); (on_goal 2 => intro hx; clear_value x))
    | (extract_lets +onlyGivenNames x; (have ht : type_of% x = State := rfl); clear ht; refine Good.cut (x := x) ?_ ?_; (on_goal 1 => (unfold x; clear x)); (on_goal 2 => intro hx; clear_value x))
    | with_reducible apply GoodO.next
    | with_reducible apply GoodO.ite
    | with_reducible apply Good.ite
    | (with_reducible apply Good.step (State.endTask_good ..))
    | (with_reducible apply Good.step (State.wakeCore_good ..))
    | exact rfl

theorem execSliceOverrun_good : ∀ a0 a1 s, GoodO 4105 s (execSliceOverrun a0 a1 s) := by
  intro a0 a1 s
  unfold execSliceOverrun
  repeat' first
    | with_reducible exact Good.refl
    | with_reducible assumption
    | (extract_lets +onlyGivenNames x; (have ht : type_of% x = State := rfl); clear ht; refine GoodO.cut (x := x) ?_ ?_; (on_goal 1 => (unfold x; clear x)); (on_goal 2 => intro hx; clear_value x))
    | (extract_lets +onlyGivenNames x; (have ht : type_of% x = State := rfl); clear ht; refine Good.cut (x := x) ?_ ?_; (on_goal 1 => (unfold x; clear x)); (on_goal 2 => intro hx; clear_value x))
    | (extract_lets +onlyGivenNames x; clear_value x)
    | with_reducible apply GoodO.next
    | with_reducible apply GoodO.ite
    | with_reducible apply Good.ite
    | (with_reducible apply Good.step (State.atRaw_good ..))
    | (with_reducible apply Good.step (State.bump_good ..))
    | (with_reducible apply Good.step (State.flag_good ..))
    | (with_reducible apply Good.step (State.setFlow_good ..))
    | exact rfl
    | split

theorem execDrvCoreReset_good : ∀ a0 s, GoodO 12289 s (execDrvCoreReset a0 s) := by
  intro a0 s
  unfold execDrvCoreReset
  repeat' first
    | with_reducible exact Good.refl
    | with_reducible assumption
    | with_reducible apply GoodO.next
    | with_reducible apply GoodO.ite
    | with_reducible apply Good.ite
    | (with_reducible apply Good.step (State.resetCore_good ..))
    | exact rfl

theorem execHaltReq_good : ∀ a0 s, GoodO 12289 s (execHaltReq a0 s) := by
  intro a0 s
  unfold execHaltReq
  repeat' first
    | with_reducible exact Good.refl
    | with_reducible assumption
    | with_reducible apply GoodO.next
    | with_reducible apply GoodO.ite
    | with_reducible apply Good.ite
    | (with_reducible apply Good.step (State.askHalt_good ..))
    | exact rfl

theorem execDrvResume_good : ∀ a0 s, GoodO 1 s (execDrvResume a0 s) := by
  intro a0 s
  unfold execDrvResume
  repeat' first
    | with_reducible exact Good.refl
    | with_reducible assumption
    | with_reducible apply GoodO.next
    | with_reducible apply GoodO.ite
    | with_reducible apply Good.ite
    | (with_reducible apply Good.step (State.resume_good ..))
    | exact rfl

theorem State.dbgWrite_good : ∀ s a1 a2, Good 8193 s (State.dbgWrite s a1 a2) := by
  intro s a1 a2
  unfold State.dbgWrite
  repeat' first
    | with_reducible exact Good.refl
    | with_reducible assumption
    | with_reducible apply Good.ite
    | (with_reducible apply Good.step (State.coreCopies_good ..))
    | (with_reducible apply Good.step (State.setCore_good ..))
    | exact rfl

end Sys2Proof.Machine
end

