-- ==== Sys2Proof/Laws/KeepTally.lean ====
section
/-! SUPPORT. What each operation of Machine/Tally.lean changes, and that it keeps what every operation keeps. -/

-- One proof at a time: the package as one text then takes less memory.
set_option Elab.async false

namespace Sys2Proof.Machine

open Sys2Proof

theorem State.answered_good : ∀ s a1, Good 4194304 s (State.answered s a1) := by
  intro s a1
  unfold State.answered
  repeat' first
    | with_reducible exact Good.refl
    | with_reducible assumption
    | (extract_lets +onlyGivenNames x; clear_value x)
    | exact rfl
    | (with_reducible apply Good.upd_tly)

theorem execTestWindowOpen_good : ∀ a0 s, GoodO 4194313 s (execTestWindowOpen a0 s) := by
  intro a0 s
  unfold execTestWindowOpen
  repeat' first
    | with_reducible exact Good.refl
    | with_reducible assumption
    | (extract_lets +onlyGivenNames x; (have ht : type_of% x = State := rfl); clear ht; refine GoodO.cut (x := x) ?_ ?_; (on_goal 1 => (unfold x; clear x)); (on_goal 2 => intro hx; clear_value x))
    | (extract_lets +onlyGivenNames x; clear_value x)
    | with_reducible apply GoodO.next
    | with_reducible apply GoodO.ite
    | with_reducible apply Good.ite
    | (with_reducible apply Good.step (State.atRaw_good ..))
    | (with_reducible apply Good.step (State.flag_good ..))
    | exact rfl
    | (with_reducible apply Good.upd_tly)

theorem execTestWindowClose_good : ∀ a0 s, GoodO 6291465 s (execTestWindowClose a0 s) := by
  intro a0 s
  unfold execTestWindowClose
  repeat' first
    | with_reducible exact Good.refl
    | with_reducible assumption
    | (extract_lets +onlyGivenNames x; (have ht : type_of% x = State := rfl); clear ht; refine GoodO.cut (x := x) ?_ ?_; (on_goal 1 => (unfold x; clear x)); (on_goal 2 => intro hx; clear_value x))
    | (extract_lets +onlyGivenNames x; (have ht : type_of% x = State := rfl); clear ht; refine Good.cut (x := x) ?_ ?_; (on_goal 1 => (unfold x; clear x)); (on_goal 2 => intro hx; clear_value x))
    | (extract_lets +onlyGivenNames x; clear_value x)
    | with_reducible apply GoodO.next
    | with_reducible apply GoodO.ite
    | with_reducible apply Good.ite
    | (with_reducible apply Good.foldl)
    | (with_reducible apply Good.foldl_snd)
    | (with_reducible apply Good.foldl_fst)
    | (intro x b h; try beta_reduce)
    | (with_reducible apply Good.step (State.atRaw_good ..))
    | (with_reducible apply Good.step (State.bump_good ..))
    | (with_reducible apply Good.step (State.lineEnd_good ..))
    | (with_reducible apply Good.step (State.tallyLog_good ..))
    | (with_reducible apply Good.step (State.wr_good ..))
    | exact rfl
    | split
    | (with_reducible apply Good.upd_tly)

theorem State.lineSlot_good : ∀ s a1 a2, Good 6291457 s (State.lineSlot s a1 a2) := by
  intro s a1 a2
  unfold State.lineSlot
  repeat' first
    | with_reducible exact Good.refl
    | with_reducible assumption
    | (extract_lets +onlyGivenNames x; clear_value x)
    | with_reducible apply Good.ite
    | (with_reducible apply Good.step (State.flag_good ..))
    | (with_reducible apply Good.step (State.lineResult_good ..))
    | (with_reducible apply Good.step (State.psStart_good ..))
    | (with_reducible apply Good.step (State.setPs_good ..))
    | (with_reducible apply Good.step (State.tallyLog_good ..))
    | (with_reducible apply Good.step (State.wr_good ..))
    | exact rfl
    | (with_reducible apply Good.upd_tly)

theorem execLineTestSlot_good : ∀ a0 s, GoodO 6291465 s (execLineTestSlot a0 s) := by
  intro a0 s
  unfold execLineTestSlot
  repeat' first
    | with_reducible exact Good.refl
    | with_reducible assumption
    | (extract_lets +onlyGivenNames x; (have ht : type_of% x = State := rfl); clear ht; refine GoodO.cut (x := x) ?_ ?_; (on_goal 1 => (unfold x; clear x)); (on_goal 2 => intro hx; clear_value x))
    | (extract_lets +onlyGivenNames x; clear_value x)
    | with_reducible apply GoodO.next
    | with_reducible apply GoodO.ite
    | with_reducible apply Good.ite
    | (with_reducible apply Good.step (State.atRaw_good ..))
    | (with_reducible apply Good.step (State.lineSlot_good ..))
    | exact rfl
    | split
    | (with_reducible apply Good.upd_tly)

theorem State.lineRetry_good : ∀ s, Good 6291457 s (State.lineRetry s) := by
  intro s
  unfold State.lineRetry
  repeat' first
    | with_reducible exact Good.refl
    | with_reducible assumption
    | (extract_lets +onlyGivenNames x; clear_value x)
    | with_reducible apply Good.ite
    | (with_reducible apply Good.step (State.lineSlot_good ..))
    | exact rfl
    | split
    | (with_reducible apply Good.upd_tly)

theorem execLineTestRetry_good : ∀ a0 s, GoodO 6291465 s (execLineTestRetry a0 s) := by
  intro a0 s
  unfold execLineTestRetry
  repeat' first
    | with_reducible exact Good.refl
    | with_reducible assumption
    | with_reducible apply GoodO.next
    | with_reducible apply GoodO.ite
    | with_reducible apply Good.ite
    | (with_reducible apply Good.step (State.atRaw_good ..))
    | (with_reducible apply Good.step (State.lineRetry_good ..))
    | exact rfl

theorem execCorrelationStart_good : ∀ a0 s, GoodO 4194312 s (execCorrelationStart a0 s) := by
  intro a0 s
  unfold execCorrelationStart
  repeat' first
    | with_reducible exact Good.refl
    | with_reducible assumption
    | (extract_lets +onlyGivenNames x; (have ht : type_of% x = State := rfl); clear ht; refine GoodO.cut (x := x) ?_ ?_; (on_goal 1 => (unfold x; clear x)); (on_goal 2 => intro hx; clear_value x))
    | (extract_lets +onlyGivenNames x; clear_value x)
    | with_reducible apply GoodO.next
    | with_reducible apply GoodO.ite
    | with_reducible apply Good.ite
    | (with_reducible apply Good.step (State.atRaw_good ..))
    | exact rfl
    | split
    | (with_reducible apply Good.upd_tly)

theorem execCorrelationEnd_good : ∀ a0 a1 a2 a3 s, GoodO 9669967881 s (execCorrelationEnd a0 a1 a2 a3 s) := by
  intro a0 a1 a2 a3 s
  unfold execCorrelationEnd
  repeat' first
    | with_reducible exact Good.refl
    | with_reducible assumption
    | (extract_lets +onlyGivenNames x; (have ht : type_of% x = State := rfl); clear ht; refine GoodO.cut (x := x) ?_ ?_; (on_goal 1 => (unfold x; clear x)); (on_goal 2 => intro hx; clear_value x))
    | (extract_lets +onlyGivenNames x; (have ht : type_of% x = State := rfl); clear ht; refine Good.cut (x := x) ?_ ?_; (on_goal 1 => (unfold x; clear x)); (on_goal 2 => intro hx; clear_value x))
    | (extract_lets +onlyGivenNames x; clear_value x)
    | with_reducible apply GoodO.next
    | with_reducible apply GoodO.ite
    | with_reducible apply Good.ite
    | (with_reducible apply Good.step (State.atRaw_good ..))
    | (with_reducible apply Good.step (State.bump_good ..))
    | (with_reducible apply Good.step (State.evLine_good ..))
    | (with_reducible apply Good.step (State.lineResult_good ..))
    | (with_reducible apply Good.step (State.setPs_good ..))
    | (with_reducible apply Good.step (State.tallyLog_good ..))
    | (with_reducible refine Good.when (fun y hy => ?_) ?_)
    | (with_reducible apply Good.step (State.wr_good ..))
    | exact rfl
    | split
    | (with_reducible apply Good.upd_tly)

theorem State.pilotGone_good : ∀ s a1, Good 6291457 s (State.pilotGone s a1) := by
  intro s a1
  unfold State.pilotGone
  repeat' first
    | with_reducible exact Good.refl
    | with_reducible assumption
    | (extract_lets +onlyGivenNames x; (have ht : type_of% x = State := rfl); clear ht; refine Good.cut (x := x) ?_ ?_; (on_goal 1 => (unfold x; clear x)); (on_goal 2 => intro hx; clear_value x))
    | (extract_lets +onlyGivenNames x; clear_value x)
    | with_reducible apply Good.ite
    | (with_reducible apply Good.step (State.psStop_good ..))
    | (with_reducible apply Good.step (State.setPs_good ..))
    | exact rfl

theorem execPilotRemoved_good : ∀ a0 s, GoodO 6291465 s (execPilotRemoved a0 s) := by
  intro a0 s
  unfold execPilotRemoved
  repeat' first
    | with_reducible exact Good.refl
    | with_reducible assumption
    | (extract_lets +onlyGivenNames x; (have ht : type_of% x = State := rfl); clear ht; refine GoodO.cut (x := x) ?_ ?_; (on_goal 1 => (unfold x; clear x)); (on_goal 2 => intro hx; clear_value x))
    | (extract_lets +onlyGivenNames x; clear_value x)
    | with_reducible apply GoodO.next
    | with_reducible apply GoodO.ite
    | with_reducible apply Good.ite
    | (with_reducible apply Good.foldl)
    | (with_reducible apply Good.foldl_snd)
    | (with_reducible apply Good.foldl_fst)
    | (intro x b h; try beta_reduce)
    | (with_reducible apply Good.step (State.atRaw_good ..))
    | (with_reducible apply Good.step (State.pilotGone_good ..))
    | (with_reducible apply Good.step (State.wr_good ..))
    | exact rfl
    | split
    | (with_reducible apply Good.upd_tly)

theorem State.tallyPower_good : ∀ s a1, Good 4194304 s (State.tallyPower s a1) := by
  intro s a1
  unfold State.tallyPower
  repeat' first
    | with_reducible exact Good.refl
    | with_reducible assumption
    | (extract_lets +onlyGivenNames x; clear_value x)
    | (with_reducible apply Good.foldl)
    | (with_reducible apply Good.foldl_snd)
    | (with_reducible apply Good.foldl_fst)
    | (intro x b h; try beta_reduce)
    | exact rfl
    | split
    | (with_reducible apply Good.upd_tly)

theorem execProgramLimitExceeded_good : ∀ a0 a1 s, GoodO 6291465 s (execProgramLimitExceeded a0 a1 s) := by
  intro a0 a1 s
  unfold execProgramLimitExceeded
  repeat' first
    | with_reducible exact Good.refl
    | with_reducible assumption
    | (extract_lets +onlyGivenNames x; (have ht : type_of% x = State := rfl); clear ht; refine GoodO.cut (x := x) ?_ ?_; (on_goal 1 => (unfold x; clear x)); (on_goal 2 => intro hx; clear_value x))
    | (extract_lets +onlyGivenNames x; clear_value x)
    | with_reducible apply GoodO.next
    | with_reducible apply GoodO.ite
    | with_reducible apply Good.ite
    | (with_reducible apply Good.step (State.atRaw_good ..))
    | (with_reducible apply Good.step (State.bump_good ..))
    | (with_reducible apply Good.step (State.lineEnd_good ..))
    | exact rfl
    | split
    | (with_reducible apply Good.upd_tly)

theorem State.takeBaseline_good : ∀ s a1 a2 a3, Good 1 s (State.takeBaseline s a1 a2 a3) := by
  intro s a1 a2 a3
  unfold State.takeBaseline
  repeat' first
    | with_reducible exact Good.refl
    | with_reducible assumption
    | (with_reducible apply Good.step (State.wr_good ..))
    | exact rfl

theorem State.captureStop_good : ∀ s a1, Good 6291456 s (State.captureStop s a1) := by
  intro s a1
  unfold State.captureStop
  repeat' first
    | with_reducible exact Good.refl
    | with_reducible assumption
    | (extract_lets +onlyGivenNames x; (have ht : type_of% x = State := rfl); clear ht; refine Good.cut (x := x) ?_ ?_; (on_goal 1 => (unfold x; clear x)); (on_goal 2 => intro hx; clear_value x))
    | (extract_lets +onlyGivenNames x; clear_value x)
    | (with_reducible apply Good.foldl)
    | (with_reducible apply Good.foldl_snd)
    | (with_reducible apply Good.foldl_fst)
    | (intro x b h; try beta_reduce)
    | (with_reducible apply Good.step (State.setPs_good ..))
    | exact rfl
    | (with_reducible apply Good.upd_tly)

theorem execBaselineCaptureEnd_good : ∀ a0 a1 s, GoodO 281484646678537 s (execBaselineCaptureEnd a0 a1 s) := by
  intro a0 a1 s
  unfold execBaselineCaptureEnd
  repeat' first
    | with_reducible exact Good.refl
    | with_reducible assumption
    | (extract_lets +onlyGivenNames x; (have ht : type_of% x = State := rfl); clear ht; refine GoodO.cut (x := x) ?_ ?_; (on_goal 1 => (unfold x; clear x)); (on_goal 2 => intro hx; clear_value x))
    | (extract_lets +onlyGivenNames x; (have ht : type_of% x = State := rfl); clear ht; refine Good.cut (x := x) ?_ ?_; (on_goal 1 => (unfold x; clear x)); (on_goal 2 => intro hx; clear_value x))
    | (extract_lets +onlyGivenNames x; clear_value x)
    | with_reducible apply GoodO.next
    | with_reducible apply GoodO.ite
    | with_reducible apply Good.ite
    | (with_reducible apply Good.foldl)
    | (with_reducible apply Good.foldl_snd)
    | (with_reducible apply Good.foldl_fst)
    | (intro x b h; try beta_reduce)
    | (with_reducible apply Good.step (State.atRaw_good ..))
    | (with_reducible apply Good.step (State.captureStop_good ..))
    | (with_reducible apply Good.step (State.endLong_good ..))
    | (with_reducible apply Good.step (State.queueBulk_good ..))
    | (with_reducible apply Good.step (State.takeBaseline_good ..))
    | (with_reducible apply Good.step (State.tallyLog_good ..))
    | exact rfl
    | split

theorem State.captureStart_good : ∀ s a1 a2, Good 6291457 s (State.captureStart s a1 a2) := by
  intro s a1 a2
  unfold State.captureStart
  repeat' first
    | with_reducible exact Good.refl
    | with_reducible assumption
    | (extract_lets +onlyGivenNames x; (have ht : type_of% x = State := rfl); clear ht; refine Good.cut (x := x) ?_ ?_; (on_goal 1 => (unfold x; clear x)); (on_goal 2 => intro hx; clear_value x))
    | (extract_lets +onlyGivenNames x; clear_value x)
    | with_reducible apply Good.ite
    | (with_reducible apply Good.foldl)
    | (with_reducible apply Good.foldl_snd)
    | (with_reducible apply Good.foldl_fst)
    | (intro x b h; try beta_reduce)
    | (with_reducible apply Good.step (State.flag_good ..))
    | (with_reducible apply Good.step (State.psStart_good ..))
    | (with_reducible apply Good.step (State.setPs_good ..))
    | exact rfl
    | (with_reducible apply Good.upd_tly)

theorem State.selfStart_good : ∀ s a1, Good 4194305 s (State.selfStart s a1) := by
  intro s a1
  unfold State.selfStart
  repeat' first
    | with_reducible exact Good.refl
    | with_reducible assumption
    | (extract_lets +onlyGivenNames x; (have ht : type_of% x = State := rfl); clear ht; refine Good.cut (x := x) ?_ ?_; (on_goal 1 => (unfold x; clear x)); (on_goal 2 => intro hx; clear_value x))
    | (extract_lets +onlyGivenNames x; clear_value x)
    | (with_reducible apply Good.step (State.setRot_good ..))
    | (with_reducible apply Good.step (State.wr_good ..))
    | exact rfl
    | (with_reducible apply Good.upd_tly)

theorem State.selfAsked_good : ∀ s a1, Good 4194305 s (State.selfAsked s a1) := by
  intro s a1
  unfold State.selfAsked
  repeat' first
    | with_reducible exact Good.refl
    | with_reducible assumption
    | (extract_lets +onlyGivenNames x; (have ht : type_of% x = State := rfl); clear ht; refine Good.cut (x := x) ?_ ?_; (on_goal 1 => (unfold x; clear x)); (on_goal 2 => intro hx; clear_value x))
    | (extract_lets +onlyGivenNames x; clear_value x)
    | with_reducible apply Good.ite
    | (with_reducible apply Good.step (State.selfStart_good ..))
    | exact rfl
    | (with_reducible apply Good.upd_tly)

theorem execSelfTestStart_good : ∀ a0 s, GoodO 4194313 s (execSelfTestStart a0 s) := by
  intro a0 s
  unfold execSelfTestStart
  repeat' first
    | with_reducible exact Good.refl
    | with_reducible assumption
    | (extract_lets +onlyGivenNames x; (have ht : type_of% x = State := rfl); clear ht; refine GoodO.cut (x := x) ?_ ?_; (on_goal 1 => (unfold x; clear x)); (on_goal 2 => intro hx; clear_value x))
    | (extract_lets +onlyGivenNames x; (have ht : type_of% x = State := rfl); clear ht; refine Good.cut (x := x) ?_ ?_; (on_goal 1 => (unfold x; clear x)); (on_goal 2 => intro hx; clear_value x))
    | with_reducible apply GoodO.next
    | with_reducible apply GoodO.ite
    | with_reducible apply Good.ite
    | (with_reducible apply Good.step (State.atRaw_good ..))
    | (with_reducible apply Good.step (State.selfAsked_good ..))
    | (with_reducible apply Good.step (State.selfStart_good ..))
    | exact rfl
    | split

theorem execSelfTestHalt_good : ∀ a0 s, GoodO 4202505 s (execSelfTestHalt a0 s) := by
  intro a0 s
  unfold execSelfTestHalt
  repeat' first
    | with_reducible exact Good.refl
    | with_reducible assumption
    | (extract_lets +onlyGivenNames x; (have ht : type_of% x = State := rfl); clear ht; refine GoodO.cut (x := x) ?_ ?_; (on_goal 1 => (unfold x; clear x)); (on_goal 2 => intro hx; clear_value x))
    | (extract_lets +onlyGivenNames x; (have ht : type_of% x = State := rfl); clear ht; refine Good.cut (x := x) ?_ ?_; (on_goal 1 => (unfold x; clear x)); (on_goal 2 => intro hx; clear_value x))
    | (extract_lets +onlyGivenNames x; clear_value x)
    | with_reducible apply GoodO.next
    | with_reducible apply GoodO.ite
    | with_reducible apply Good.ite
    | (with_reducible apply Good.step (State.atRaw_good ..))
    | (with_reducible apply Good.step (State.haltNow_good ..))
    | (with_reducible apply Good.step (State.resume_good ..))
    | (with_reducible apply Good.step (State.setCore_good ..))
    | (with_reducible apply Good.step (State.wr_good ..))
    | exact rfl
    | split
    | (with_reducible apply Good.upd_tly)

theorem State.selfEnd_good : ∀ s a1 a2 a3, Good 4206593 s (State.selfEnd s a1 a2 a3) := by
  intro s a1 a2 a3
  unfold State.selfEnd
  repeat' first
    | with_reducible exact Good.refl
    | with_reducible assumption
    | (extract_lets +onlyGivenNames x; (have ht : type_of% x = State := rfl); clear ht; refine Good.cut (x := x) ?_ ?_; (on_goal 1 => (unfold x; clear x)); (on_goal 2 => intro hx; clear_value x))
    | (extract_lets +onlyGivenNames x; clear_value x)
    | with_reducible apply Good.ite
    | (with_reducible apply Good.step (State.bump_good ..))
    | (with_reducible apply Good.step (State.flag_good ..))
    | (with_reducible apply Good.step (State.haltNow_good ..))
    | (with_reducible apply Good.step (State.resetCore_good ..))
    | (with_reducible apply Good.step (State.setRot_good ..))
    | (with_reducible apply Good.step (State.tallyLog_good ..))
    | (with_reducible apply Good.step (State.wr_good ..))
    | exact rfl
    | (with_reducible apply Good.upd_tly)

theorem execSelfTestBreakpoint_good : ∀ a0 s, GoodO 4206601 s (execSelfTestBreakpoint a0 s) := by
  intro a0 s
  unfold execSelfTestBreakpoint
  repeat' first
    | with_reducible exact Good.refl
    | with_reducible assumption
    | (extract_lets +onlyGivenNames x; (have ht : type_of% x = State := rfl); clear ht; refine GoodO.cut (x := x) ?_ ?_; (on_goal 1 => (unfold x; clear x)); (on_goal 2 => intro hx; clear_value x))
    | (extract_lets +onlyGivenNames x; (have ht : type_of% x = State := rfl); clear ht; refine Good.cut (x := x) ?_ ?_; (on_goal 1 => (unfold x; clear x)); (on_goal 2 => intro hx; clear_value x))
    | (extract_lets +onlyGivenNames x; clear_value x)
    | with_reducible apply GoodO.next
    | with_reducible apply GoodO.ite
    | with_reducible apply Good.ite
    | (with_reducible apply Good.step (State.atRaw_good ..))
    | (with_reducible apply Good.step (State.selfEnd_good ..))
    | (with_reducible apply Good.step (State.wr_good ..))
    | exact rfl
    | split

theorem execSelfTestTimeout_good : ∀ a0 s, GoodO 4206601 s (execSelfTestTimeout a0 s) := by
  intro a0 s
  unfold execSelfTestTimeout
  repeat' first
    | with_reducible exact Good.refl
    | with_reducible assumption
    | (extract_lets +onlyGivenNames x; (have ht : type_of% x = State := rfl); clear ht; refine GoodO.cut (x := x) ?_ ?_; (on_goal 1 => (unfold x; clear x)); (on_goal 2 => intro hx; clear_value x))
    | (extract_lets +onlyGivenNames x; (have ht : type_of% x = State := rfl); clear ht; refine Good.cut (x := x) ?_ ?_; (on_goal 1 => (unfold x; clear x)); (on_goal 2 => intro hx; clear_value x))
    | with_reducible apply GoodO.next
    | with_reducible apply GoodO.ite
    | with_reducible apply Good.ite
    | (with_reducible apply Good.step (State.atRaw_good ..))
    | (with_reducible apply Good.step (State.selfEnd_good ..))
    | exact rfl
    | split

theorem State.scrubItem_good : ∀ s a1, Good 4194305 s (State.scrubItem s a1) := by
  intro s a1
  unfold State.scrubItem
  repeat' first
    | with_reducible exact Good.refl
    | with_reducible assumption
    | (extract_lets +onlyGivenNames x; (have ht : type_of% x = State := rfl); clear ht; refine Good.cut (x := x) ?_ ?_; (on_goal 1 => (unfold x; clear x)); (on_goal 2 => intro hx; clear_value x))
    | (extract_lets +onlyGivenNames x; clear_value x)
    | with_reducible apply Good.ite
    | (with_reducible apply Good.step (State.bump_good ..))
    | (with_reducible apply Good.step (State.tallyLog_good ..))
    | (with_reducible apply Good.step (State.wr_good ..))
    | exact rfl
    | (with_reducible apply Good.upd_tly)

theorem State.dramPass_good : ∀ s a1, Good 4194305 s (State.dramPass s a1) := by
  intro s a1
  unfold State.dramPass
  repeat' first
    | with_reducible exact Good.refl
    | with_reducible assumption
    | (extract_lets +onlyGivenNames x; (have ht : type_of% x = State := rfl); clear ht; refine Good.cut (x := x) ?_ ?_; (on_goal 1 => (unfold x; clear x)); (on_goal 2 => intro hx; clear_value x))
    | (extract_lets +onlyGivenNames x; clear_value x)
    | (with_reducible apply Good.step (State.answered_good ..))
    | (with_reducible apply Good.step (State.tallyLog_good ..))
    | (with_reducible apply Good.step (State.wr_good ..))
    | exact rfl
    | (with_reducible apply Good.upd_tly)

theorem State.postSlice_good : ∀ s, Good 4198401 s (State.postSlice s) := by
  intro s
  unfold State.postSlice
  repeat' first
    | with_reducible exact Good.refl
    | with_reducible assumption
    | (extract_lets +onlyGivenNames x; (have ht : type_of% x = State := rfl); clear ht; refine Good.cut (x := x) ?_ ?_; (on_goal 1 => (unfold x; clear x)); (on_goal 2 => intro hx; clear_value x))
    | (extract_lets +onlyGivenNames x; clear_value x)
    | with_reducible apply Good.ite
    | (with_reducible apply Good.step (State.post_good ..))
    | (with_reducible apply Good.step (State.wr_good ..))
    | exact rfl
    | split
    | (with_reducible apply Good.upd_tly)

theorem execDramScrubSlice_good : ∀ a0 a1 s, GoodO 4194313 s (execDramScrubSlice a0 a1 s) := by
  intro a0 a1 s
  unfold execDramScrubSlice
  repeat' first
    | with_reducible exact Good.refl
    | with_reducible assumption
    | (extract_lets +onlyGivenNames x; (have ht : type_of% x = State := rfl); clear ht; refine GoodO.cut (x := x) ?_ ?_; (on_goal 1 => (unfold x; clear x)); (on_goal 2 => intro hx; clear_value x))
    | (extract_lets +onlyGivenNames x; (have ht : type_of% x = State := rfl); clear ht; refine Good.cut (x := x) ?_ ?_; (on_goal 1 => (unfold x; clear x)); (on_goal 2 => intro hx; clear_value x))
    | (extract_lets +onlyGivenNames x; clear_value x)
    | with_reducible apply GoodO.next
    | with_reducible apply GoodO.ite
    | with_reducible apply Good.ite
    | (with_reducible apply Good.foldl)
    | (with_reducible apply Good.foldl_snd)
    | (with_reducible apply Good.foldl_fst)
    | (intro x b h; try beta_reduce)
    | (with_reducible apply Good.step (State.atRaw_good ..))
    | (with_reducible apply Good.step (State.dramPass_good ..))
    | (with_reducible apply Good.step (State.scrubItem_good ..))
    | exact rfl
    | split
    | (with_reducible apply Good.upd_tly)

theorem execDramScrubTimeout_good : ∀ a0 s, GoodO 4194313 s (execDramScrubTimeout a0 s) := by
  intro a0 s
  unfold execDramScrubTimeout
  repeat' first
    | with_reducible exact Good.refl
    | with_reducible assumption
    | (extract_lets +onlyGivenNames x; (have ht : type_of% x = State := rfl); clear ht; refine GoodO.cut (x := x) ?_ ?_; (on_goal 1 => (unfold x; clear x)); (on_goal 2 => intro hx; clear_value x))
    | (extract_lets +onlyGivenNames x; (have ht : type_of% x = State := rfl); clear ht; refine Good.cut (x := x) ?_ ?_; (on_goal 1 => (unfold x; clear x)); (on_goal 2 => intro hx; clear_value x))
    | with_reducible apply GoodO.next
    | with_reducible apply GoodO.ite
    | with_reducible apply Good.ite
    | (with_reducible apply Good.step (State.atRaw_good ..))
    | (with_reducible apply Good.step (State.dramPass_good ..))
    | exact rfl

theorem execFoldPatternCheck_good : ∀ a0 s, GoodO 4194312 s (execFoldPatternCheck a0 s) := by
  intro a0 s
  unfold execFoldPatternCheck
  repeat' first
    | with_reducible exact Good.refl
    | with_reducible assumption
    | (extract_lets +onlyGivenNames x; (have ht : type_of% x = State := rfl); clear ht; refine GoodO.cut (x := x) ?_ ?_; (on_goal 1 => (unfold x; clear x)); (on_goal 2 => intro hx; clear_value x))
    | (extract_lets +onlyGivenNames x; clear_value x)
    | with_reducible apply GoodO.next
    | with_reducible apply GoodO.ite
    | with_reducible apply Good.ite
    | (with_reducible apply Good.step (State.answered_good ..))
    | (with_reducible apply Good.step (State.atRaw_good ..))
    | exact rfl
    | (with_reducible apply Good.upd_tly)

theorem execFoldPatternResult_good : ∀ a0 s, GoodO 4194305 s (execFoldPatternResult a0 s) := by
  intro a0 s
  unfold execFoldPatternResult
  repeat' first
    | with_reducible exact Good.refl
    | with_reducible assumption
    | (extract_lets +onlyGivenNames x; (have ht : type_of% x = State := rfl); clear ht; refine GoodO.cut (x := x) ?_ ?_; (on_goal 1 => (unfold x; clear x)); (on_goal 2 => intro hx; clear_value x))
    | (extract_lets +onlyGivenNames x; (have ht : type_of% x = State := rfl); clear ht; refine Good.cut (x := x) ?_ ?_; (on_goal 1 => (unfold x; clear x)); (on_goal 2 => intro hx; clear_value x))
    | (extract_lets +onlyGivenNames x; clear_value x)
    | with_reducible apply GoodO.next
    | with_reducible apply GoodO.ite
    | with_reducible apply Good.ite
    | (with_reducible apply Good.step (State.count_good ..))
    | (with_reducible apply Good.step (State.tallyLog_good ..))
    | (with_reducible apply Good.step (State.wr_good ..))
    | exact rfl
    | (with_reducible apply Good.upd_tly)

theorem execSenseReferenceCheck_good : ∀ a0 a1 a2 a3 s, GoodO 4194313 s (execSenseReferenceCheck a0 a1 a2 a3 s) := by
  intro a0 a1 a2 a3 s
  unfold execSenseReferenceCheck
  repeat' first
    | with_reducible exact Good.refl
    | with_reducible assumption
    | (extract_lets +onlyGivenNames x; (have ht : type_of% x = State := rfl); clear ht; refine GoodO.cut (x := x) ?_ ?_; (on_goal 1 => (unfold x; clear x)); (on_goal 2 => intro hx; clear_value x))
    | (extract_lets +onlyGivenNames x; (have ht : type_of% x = State := rfl); clear ht; refine Good.cut (x := x) ?_ ?_; (on_goal 1 => (unfold x; clear x)); (on_goal 2 => intro hx; clear_value x))
    | (extract_lets +onlyGivenNames x; clear_value x)
    | with_reducible apply GoodO.next
    | with_reducible apply GoodO.ite
    | with_reducible apply Good.ite
    | (with_reducible apply Good.step (State.answered_good ..))
    | (with_reducible apply Good.step (State.atRaw_good ..))
    | (with_reducible apply Good.step (State.bump_good ..))
    | (with_reducible apply Good.step (State.tallyLog_good ..))
    | (with_reducible apply Good.step (State.wr_good ..))
    | exact rfl
    | split
    | (with_reducible apply Good.upd_tly)

theorem State.tallySuspend_good : ∀ s, Good 9669980161 s (State.tallySuspend s) := by
  intro s
  unfold State.tallySuspend
  repeat' first
    | with_reducible exact Good.refl
    | with_reducible assumption
    | (extract_lets +onlyGivenNames x; (have ht : type_of% x = State := rfl); clear ht; refine Good.cut (x := x) ?_ ?_; (on_goal 1 => (unfold x; clear x)); (on_goal 2 => intro hx; clear_value x))
    | with_reducible apply Good.ite
    | (with_reducible apply Good.step (State.bump_good ..))
    | (with_reducible apply Good.step (State.captureStop_good ..))
    | (with_reducible apply Good.step (State.endLong_good ..))
    | (with_reducible apply Good.step (State.flag_good ..))
    | (with_reducible apply Good.step (State.lineEnd_good ..))
    | (with_reducible apply Good.step (State.selfEnd_good ..))
    | (with_reducible apply Good.step (State.tallyLog_good ..))
    | (with_reducible apply Good.step (State.wr_good ..))
    | exact rfl
    | split

theorem State.tallyResume_good : ∀ s, Good 4194305 s (State.tallyResume s) := by
  intro s
  unfold State.tallyResume
  repeat' first
    | with_reducible exact Good.refl
    | with_reducible assumption
    | (extract_lets +onlyGivenNames x; (have ht : type_of% x = State := rfl); clear ht; refine Good.cut (x := x) ?_ ?_; (on_goal 1 => (unfold x; clear x)); (on_goal 2 => intro hx; clear_value x))
    | (extract_lets +onlyGivenNames x; clear_value x)
    | with_reducible apply Good.ite
    | (with_reducible apply Good.step (State.wr_good ..))
    | exact rfl
    | (with_reducible apply Good.upd_tly)

end Sys2Proof.Machine
end

