-- ==== Sys2Proof/Laws/KeepTime.lean ====
section
/-! SUPPORT. What each operation of Machine/Time.lean changes, and that it keeps what every operation keeps. -/

-- One proof at a time: the package as one text then takes less memory.
set_option Elab.async false

namespace Sys2Proof.Machine

open Sys2Proof

theorem State.showTime_good : ∀ s, Good 1 s (State.showTime s) := by
  intro s
  unfold State.showTime
  repeat' first
    | with_reducible exact Good.refl
    | with_reducible assumption
    | (extract_lets +onlyGivenNames x; (have ht : type_of% x = State := rfl); clear ht; refine Good.cut (x := x) ?_ ?_; (on_goal 1 => (unfold x; clear x)); (on_goal 2 => intro hx; clear_value x))
    | (with_reducible apply Good.step (State.wr_good ..))
    | (with_reducible apply Good.step (State.wr64_good ..))
    | exact rfl

theorem State.setRate_good : ∀ s a1, Good 8 s (State.setRate s a1) := by
  intro s a1
  unfold State.setRate
  repeat' first
    | with_reducible exact Good.refl
    | with_reducible assumption
    | (extract_lets +onlyGivenNames x; clear_value x)
    | exact rfl
    | (with_reducible apply Good.upd_tm)

theorem State.stepOfs_good : ∀ s a1, Good 9 s (State.stepOfs s a1) := by
  intro s a1
  unfold State.stepOfs
  repeat' first
    | with_reducible exact Good.refl
    | with_reducible assumption
    | (extract_lets +onlyGivenNames x; clear_value x)
    | with_reducible apply Good.ite
    | (with_reducible apply Good.step (State.flag_good ..))
    | exact rfl
    | (with_reducible apply Good.upd_tm)

theorem State.firstLock_good : ∀ s, Good 9 s (State.firstLock s) := by
  intro s
  unfold State.firstLock
  repeat' first
    | with_reducible exact Good.refl
    | with_reducible assumption
    | (extract_lets +onlyGivenNames x; (have ht : type_of% x = State := rfl); clear ht; refine Good.cut (x := x) ?_ ?_; (on_goal 1 => (unfold x; clear x)); (on_goal 2 => intro hx; clear_value x))
    | (extract_lets +onlyGivenNames x; clear_value x)
    | (with_reducible apply Good.step (State.flag_good ..))
    | exact rfl
    | (with_reducible apply Good.upd_tm)

theorem State.loseLock_good : ∀ s, Good 9663676417 s (State.loseLock s) := by
  intro s
  unfold State.loseLock
  repeat' first
    | with_reducible exact Good.refl
    | with_reducible assumption
    | (with_reducible apply Good.step (State.bump_good ..))
    | (with_reducible apply Good.step (State.evTime_good ..))
    | (with_reducible apply Good.step (State.flag_good ..))
    | (with_reducible apply Good.step (State.wr_good ..))
    | exact rfl

theorem State.gainLock_good : ∀ s, Good 9663676425 s (State.gainLock s) := by
  intro s
  unfold State.gainLock
  repeat' first
    | with_reducible exact Good.refl
    | with_reducible assumption
    | (extract_lets +onlyGivenNames x; (have ht : type_of% x = State := rfl); clear ht; refine Good.cut (x := x) ?_ ?_; (on_goal 1 => (unfold x; clear x)); (on_goal 2 => intro hx; clear_value x))
    | (extract_lets +onlyGivenNames x; clear_value x)
    | with_reducible apply Good.ite
    | (with_reducible apply Good.step (State.evTime_good ..))
    | (with_reducible apply Good.step (State.firstLock_good ..))
    | (with_reducible apply Good.step (State.flag_good ..))
    | (with_reducible apply Good.step (State.wr_good ..))
    | exact rfl

theorem State.servoStep_good : ∀ s a1, Good 9 s (State.servoStep s a1) := by
  intro s a1
  unfold State.servoStep
  repeat' first
    | with_reducible exact Good.refl
    | with_reducible assumption
    | (extract_lets +onlyGivenNames x; (have ht : type_of% x = State := rfl); clear ht; refine Good.cut (x := x) ?_ ?_; (on_goal 1 => (unfold x; clear x)); (on_goal 2 => intro hx; clear_value x))
    | (extract_lets +onlyGivenNames x; clear_value x)
    | (with_reducible apply Good.step (State.bump_good ..))
    | (with_reducible apply Good.step (State.stepOfs_good ..))
    | exact rfl
    | (with_reducible apply Good.upd_tm)

theorem State.servoRun_good : ∀ s a1, Good 9663676425 s (State.servoRun s a1) := by
  intro s a1
  unfold State.servoRun
  repeat' first
    | with_reducible exact Good.refl
    | with_reducible assumption
    | (extract_lets +onlyGivenNames x; (have ht : type_of% x = State := rfl); clear ht; refine Good.cut (x := x) ?_ ?_; (on_goal 1 => (unfold x; clear x)); (on_goal 2 => intro hx; clear_value x))
    | (extract_lets +onlyGivenNames x; clear_value x)
    | with_reducible apply Good.ite
    | (with_reducible apply Good.step (State.gainLock_good ..))
    | (with_reducible apply Good.step (State.loseLock_good ..))
    | (with_reducible apply Good.step (State.setRate_good ..))
    | exact rfl
    | (with_reducible apply Good.upd_tm)

theorem State.servo_good : ∀ s a1, Good 9663676425 s (State.servo s a1) := by
  intro s a1
  unfold State.servo
  repeat' first
    | with_reducible exact Good.refl
    | with_reducible assumption
    | (extract_lets +onlyGivenNames x; (have ht : type_of% x = State := rfl); clear ht; refine Good.cut (x := x) ?_ ?_; (on_goal 1 => (unfold x; clear x)); (on_goal 2 => intro hx; clear_value x))
    | (extract_lets +onlyGivenNames x; clear_value x)
    | with_reducible apply Good.ite
    | (with_reducible apply Good.step (State.evTime_good ..))
    | (with_reducible apply Good.step (State.flag_good ..))
    | (with_reducible apply Good.step (State.servoRun_good ..))
    | (with_reducible apply Good.step (State.servoStep_good ..))
    | exact rfl
    | (with_reducible apply Good.upd_tm)

theorem State.servoIn_good : ∀ s a1, Good 9663676425 s (State.servoIn s a1) := by
  intro s a1
  unfold State.servoIn
  repeat' first
    | with_reducible exact Good.refl
    | with_reducible assumption
    | with_reducible apply Good.ite
    | (with_reducible apply Good.step (State.servo_good ..))
    | (with_reducible apply Good.step (State.showTime_good ..))
    | exact rfl

theorem execServoStep_good : ∀ a0 a1 s, GoodO 9663676425 s (execServoStep a0 a1 s) := by
  intro a0 a1 s
  unfold execServoStep
  repeat' first
    | with_reducible exact Good.refl
    | with_reducible assumption
    | with_reducible apply GoodO.next
    | with_reducible apply GoodO.ite
    | with_reducible apply Good.ite
    | (with_reducible apply Good.step (State.atRaw_good ..))
    | (with_reducible apply Good.step (State.servoIn_good ..))
    | exact rfl

theorem execHoldoverTimeout_good : ∀ a0 s, GoodO 9663676425 s (execHoldoverTimeout a0 s) := by
  intro a0 s
  unfold execHoldoverTimeout
  repeat' first
    | with_reducible exact Good.refl
    | with_reducible assumption
    | (extract_lets +onlyGivenNames x; (have ht : type_of% x = State := rfl); clear ht; refine GoodO.cut (x := x) ?_ ?_; (on_goal 1 => (unfold x; clear x)); (on_goal 2 => intro hx; clear_value x))
    | (extract_lets +onlyGivenNames x; (have ht : type_of% x = State := rfl); clear ht; refine Good.cut (x := x) ?_ ?_; (on_goal 1 => (unfold x; clear x)); (on_goal 2 => intro hx; clear_value x))
    | with_reducible apply GoodO.next
    | with_reducible apply GoodO.ite
    | with_reducible apply Good.ite
    | (with_reducible apply Good.step (State.atRaw_good ..))
    | (with_reducible apply Good.step (State.loseLock_good ..))
    | (with_reducible apply Good.step (State.setRate_good ..))
    | (with_reducible apply Good.step (State.showTime_good ..))
    | exact rfl

theorem State.convert_good : ∀ s a1, Good 1 s (State.convert s a1) := by
  intro s a1
  unfold State.convert
  repeat' first
    | with_reducible exact Good.refl
    | with_reducible assumption
    | (extract_lets +onlyGivenNames x; (have ht : type_of% x = State := rfl); clear ht; refine Good.cut (x := x) ?_ ?_; (on_goal 1 => (unfold x; clear x)); (on_goal 2 => intro hx; clear_value x))
    | (with_reducible apply Good.step (State.wr_good ..))
    | (with_reducible apply Good.step (State.wr64_good ..))
    | exact rfl

theorem execConversion_good : ∀ a0 s, GoodO 1 s (execConversion a0 s) := by
  intro a0 s
  unfold execConversion
  repeat' first
    | with_reducible exact Good.refl
    | with_reducible assumption
    | with_reducible apply GoodO.next
    | with_reducible apply GoodO.ite
    | with_reducible apply Good.ite
    | (with_reducible apply Good.step (State.convert_good ..))
    | exact rfl

theorem State.setTxq_good : ∀ s a1 a2, Good 8 s (State.setTxq s a1 a2) := by
  intro s a1 a2
  unfold State.setTxq
  repeat' first
    | with_reducible exact Good.refl
    | with_reducible assumption
    | (extract_lets +onlyGivenNames x; clear_value x)
    | exact rfl
    | (with_reducible apply Good.upd_tm)

theorem State.pushStamp_good : ∀ s a1 a2, Good 9 s (State.pushStamp s a1 a2) := by
  intro s a1 a2
  unfold State.pushStamp
  repeat' first
    | with_reducible exact Good.refl
    | with_reducible assumption
    | with_reducible apply Good.ite
    | (with_reducible apply Good.step (State.bump_good ..))
    | (with_reducible apply Good.step (State.flag_good ..))
    | (with_reducible apply Good.step (State.setTxq_good ..))
    | exact rfl

theorem State.readTxq_good : ∀ s a1, Good 9 s (State.readTxq s a1) := by
  intro s a1
  unfold State.readTxq
  repeat' first
    | with_reducible exact Good.refl
    | with_reducible assumption
    | (extract_lets +onlyGivenNames x; (have ht : type_of% x = State := rfl); clear ht; refine Good.cut (x := x) ?_ ?_; (on_goal 1 => (unfold x; clear x)); (on_goal 2 => intro hx; clear_value x))
    | (with_reducible apply Good.step (State.setTxq_good ..))
    | (with_reducible apply Good.step (State.wr_good ..))
    | (with_reducible apply Good.step (State.wr64_good ..))
    | exact rfl
    | split

theorem execTxqRead_good : ∀ a0 s, GoodO 9 s (execTxqRead a0 s) := by
  intro a0 s
  unfold execTxqRead
  repeat' first
    | with_reducible exact Good.refl
    | with_reducible assumption
    | with_reducible apply GoodO.next
    | with_reducible apply GoodO.ite
    | with_reducible apply Good.ite
    | (with_reducible apply Good.step (State.readTxq_good ..))
    | exact rfl

theorem execAnnounceTimeout_good : ∀ a0 s, GoodO 16777224 s (execAnnounceTimeout a0 s) := by
  intro a0 s
  unfold execAnnounceTimeout
  repeat' first
    | with_reducible exact Good.refl
    | with_reducible assumption
    | (extract_lets +onlyGivenNames x; (have ht : type_of% x = State := rfl); clear ht; refine GoodO.cut (x := x) ?_ ?_; (on_goal 1 => (unfold x; clear x)); (on_goal 2 => intro hx; clear_value x))
    | (extract_lets +onlyGivenNames x; clear_value x)
    | with_reducible apply GoodO.next
    | with_reducible apply GoodO.ite
    | with_reducible apply Good.ite
    | (with_reducible apply Good.step (State.atRaw_good ..))
    | exact rfl
    | (with_reducible apply Good.upd_ptp)

theorem execPrimaryTimePortReturn_good : ∀ a0 s, GoodO 16777224 s (execPrimaryTimePortReturn a0 s) := by
  intro a0 s
  unfold execPrimaryTimePortReturn
  repeat' first
    | with_reducible exact Good.refl
    | with_reducible assumption
    | (extract_lets +onlyGivenNames x; (have ht : type_of% x = State := rfl); clear ht; refine GoodO.cut (x := x) ?_ ?_; (on_goal 1 => (unfold x; clear x)); (on_goal 2 => intro hx; clear_value x))
    | (extract_lets +onlyGivenNames x; clear_value x)
    | with_reducible apply GoodO.next
    | with_reducible apply GoodO.ite
    | with_reducible apply Good.ite
    | (with_reducible apply Good.step (State.atRaw_good ..))
    | exact rfl
    | (with_reducible apply Good.upd_ptp)

theorem execPpsInput_good : ∀ a0 s, GoodO 9 s (execPpsInput a0 s) := by
  intro a0 s
  unfold execPpsInput
  repeat' first
    | with_reducible exact Good.refl
    | with_reducible assumption
    | (extract_lets +onlyGivenNames x; (have ht : type_of% x = State := rfl); clear ht; refine GoodO.cut (x := x) ?_ ?_; (on_goal 1 => (unfold x; clear x)); (on_goal 2 => intro hx; clear_value x))
    | (extract_lets +onlyGivenNames x; (have ht : type_of% x = State := rfl); clear ht; refine Good.cut (x := x) ?_ ?_; (on_goal 1 => (unfold x; clear x)); (on_goal 2 => intro hx; clear_value x))
    | with_reducible apply GoodO.next
    | with_reducible apply GoodO.ite
    | with_reducible apply Good.ite
    | (with_reducible apply Good.step (State.atRaw_good ..))
    | (with_reducible apply Good.step (State.wr64_good ..))
    | exact rfl

theorem execPpsOutput_good : ∀ a0 s, GoodO 8 s (execPpsOutput a0 s) := by
  intro a0 s
  unfold execPpsOutput
  repeat' first
    | with_reducible exact Good.refl
    | with_reducible assumption
    | (extract_lets +onlyGivenNames x; (have ht : type_of% x = State := rfl); clear ht; refine GoodO.cut (x := x) ?_ ?_; (on_goal 1 => (unfold x; clear x)); (on_goal 2 => intro hx; clear_value x))
    | (extract_lets +onlyGivenNames x; clear_value x)
    | with_reducible apply GoodO.next
    | with_reducible apply GoodO.ite
    | with_reducible apply Good.ite
    | (with_reducible apply Good.step (State.atRaw_good ..))
    | exact rfl
    | (with_reducible apply Good.upd_tm)

theorem execScheduledAction_good : ∀ a0 a1 s, GoodO 10066329609 s (execScheduledAction a0 a1 s) := by
  intro a0 a1 s
  unfold execScheduledAction
  repeat' first
    | with_reducible exact Good.refl
    | with_reducible assumption
    | (extract_lets +onlyGivenNames x; (have ht : type_of% x = State := rfl); clear ht; refine GoodO.cut (x := x) ?_ ?_; (on_goal 1 => (unfold x; clear x)); (on_goal 2 => intro hx; clear_value x))
    | (extract_lets +onlyGivenNames x; (have ht : type_of% x = State := rfl); clear ht; refine Good.cut (x := x) ?_ ?_; (on_goal 1 => (unfold x; clear x)); (on_goal 2 => intro hx; clear_value x))
    | with_reducible apply GoodO.next
    | with_reducible apply GoodO.ite
    | with_reducible apply Good.ite
    | (with_reducible apply Good.step (State.atRaw_good ..))
    | (with_reducible apply Good.step (State.eventTo_good ..))
    | exact rfl
    | split
    | (with_reducible apply Good.upd_acts)
    | (with_reducible apply Good.upd_gpio)

end Sys2Proof.Machine
end

