-- ==== Sys2Proof/Laws/KeepEther.lean ====
section
/-! SUPPORT. What each operation of Machine/Ether.lean changes, and that it keeps what every operation keeps. -/

-- One proof at a time: the package as one text then takes less memory.
set_option Elab.async false

namespace Sys2Proof.Machine

open Sys2Proof

theorem State.setMac_good : ∀ s a1 a2, Good 8388608 s (State.setMac s a1 a2) := by
  intro s a1 a2
  unfold State.setMac
  repeat' first
    | with_reducible exact Good.refl
    | with_reducible assumption
    | exact rfl
    | (with_reducible apply Good.upd_macs)

theorem State.loadLat_good : ∀ s a1, Good 1 s (State.loadLat s a1) := by
  intro s a1
  unfold State.loadLat
  repeat' first
    | with_reducible exact Good.refl
    | with_reducible assumption
    | (extract_lets +onlyGivenNames x; clear_value x)
    | (with_reducible apply Good.step (State.wr_good ..))
    | exact rfl

theorem State.linkFalls_good : ∀ s a1, Good 8388609 s (State.linkFalls s a1) := by
  intro s a1
  unfold State.linkFalls
  repeat' first
    | with_reducible exact Good.refl
    | with_reducible assumption
    | (extract_lets +onlyGivenNames x; (have ht : type_of% x = State := rfl); clear ht; refine Good.cut (x := x) ?_ ?_; (on_goal 1 => (unfold x; clear x)); (on_goal 2 => intro hx; clear_value x))
    | (extract_lets +onlyGivenNames x; clear_value x)
    | (with_reducible apply Good.step (State.bump_good ..))
    | (with_reducible apply Good.step (State.flag_good ..))
    | (with_reducible apply Good.step (State.setMac_good ..))
    | (with_reducible apply Good.step (State.wr_good ..))
    | exact rfl

theorem State.setLane_good : ∀ s a1 a2, Good 8388609 s (State.setLane s a1 a2) := by
  intro s a1 a2
  unfold State.setLane
  repeat' first
    | with_reducible exact Good.refl
    | with_reducible assumption
    | (extract_lets +onlyGivenNames x; clear_value x)
    | (with_reducible apply Good.step (State.bump_good ..))
    | (with_reducible apply Good.step (State.setMac_good ..))
    | (with_reducible refine Good.when (fun y hy => ?_) ?_)
    | exact rfl

theorem State.relink_good : ∀ s a1, Good 8388609 s (State.relink s a1) := by
  intro s a1
  unfold State.relink
  repeat' first
    | with_reducible exact Good.refl
    | with_reducible assumption
    | (extract_lets +onlyGivenNames x; (have ht : type_of% x = State := rfl); clear ht; refine Good.cut (x := x) ?_ ?_; (on_goal 1 => (unfold x; clear x)); (on_goal 2 => intro hx; clear_value x))
    | (extract_lets +onlyGivenNames x; clear_value x)
    | with_reducible apply Good.ite
    | (with_reducible apply Good.step (State.bump_good ..))
    | (with_reducible apply Good.step (State.flag_good ..))
    | (with_reducible apply Good.step (State.linkFalls_good ..))
    | (with_reducible refine Good.when (fun y hy => ?_) ?_)
    | (with_reducible apply Good.step (State.wr_good ..))
    | exact rfl

theorem State.modeWritten_good : ∀ s a1, Good 8388609 s (State.modeWritten s a1) := by
  intro s a1
  unfold State.modeWritten
  repeat' first
    | with_reducible exact Good.refl
    | with_reducible assumption
    | (with_reducible apply Good.step (State.loadLat_good ..))
    | (with_reducible apply Good.step (State.relink_good ..))
    | exact rfl

theorem State.linkLost_good : ∀ s a1, Good 8388609 s (State.linkLost s a1) := by
  intro s a1
  unfold State.linkLost
  repeat' first
    | with_reducible exact Good.refl
    | with_reducible assumption
    | (extract_lets +onlyGivenNames x; (have ht : type_of% x = State := rfl); clear ht; refine Good.cut (x := x) ?_ ?_; (on_goal 1 => (unfold x; clear x)); (on_goal 2 => intro hx; clear_value x))
    | (extract_lets +onlyGivenNames x; clear_value x)
    | with_reducible apply Good.ite
    | (with_reducible apply Good.step (State.linkFalls_good ..))
    | (with_reducible apply Good.step (State.setLane_good ..))
    | exact rfl

theorem State.enterGroup_good : ∀ s a1 a2, Good 1 s (State.enterGroup s a1 a2) := by
  intro s a1 a2
  unfold State.enterGroup
  repeat' first
    | with_reducible exact Good.refl
    | with_reducible assumption
    | (extract_lets +onlyGivenNames x; clear_value x)
    | with_reducible apply Good.ite
    | (with_reducible apply Good.step (State.wr_good ..))
    | exact rfl
    | split

theorem execPauseExpiry_good : ∀ a0 a1 s, GoodO 8388616 s (execPauseExpiry a0 a1 s) := by
  intro a0 a1 s
  unfold execPauseExpiry
  repeat' first
    | with_reducible exact Good.refl
    | with_reducible assumption
    | (extract_lets +onlyGivenNames x; (have ht : type_of% x = State := rfl); clear ht; refine GoodO.cut (x := x) ?_ ?_; (on_goal 1 => (unfold x; clear x)); (on_goal 2 => intro hx; clear_value x))
    | (extract_lets +onlyGivenNames x; clear_value x)
    | with_reducible apply GoodO.next
    | with_reducible apply GoodO.ite
    | with_reducible apply Good.ite
    | (with_reducible apply Good.step (State.atRaw_good ..))
    | (with_reducible apply Good.step (State.setMac_good ..))
    | exact rfl

theorem State.mdio_good : ∀ s a1, Good 1 s (State.mdio s a1) := by
  intro s a1
  unfold State.mdio
  repeat' first
    | with_reducible exact Good.refl
    | with_reducible assumption
    | with_reducible apply Good.ite
    | (with_reducible apply Good.step (State.flag_good ..))
    | (with_reducible apply Good.step (State.wr_good ..))
    | exact rfl

theorem execMdioTransfer_good : ∀ a0 s, GoodO 1 s (execMdioTransfer a0 s) := by
  intro a0 s
  unfold execMdioTransfer
  repeat' first
    | with_reducible exact Good.refl
    | with_reducible assumption
    | with_reducible apply GoodO.next
    | with_reducible apply GoodO.ite
    | with_reducible apply Good.ite
    | (with_reducible apply Good.step (State.mdio_good ..))
    | exact rfl

theorem execMdioComplete_good : ∀ a0 s, GoodO 1 s (execMdioComplete a0 s) := by
  intro a0 s
  unfold execMdioComplete
  repeat' first
    | with_reducible exact Good.refl
    | with_reducible assumption
    | (extract_lets +onlyGivenNames x; (have ht : type_of% x = State := rfl); clear ht; refine GoodO.cut (x := x) ?_ ?_; (on_goal 1 => (unfold x; clear x)); (on_goal 2 => intro hx; clear_value x))
    | (extract_lets +onlyGivenNames x; (have ht : type_of% x = State := rfl); clear ht; refine Good.cut (x := x) ?_ ?_; (on_goal 1 => (unfold x; clear x)); (on_goal 2 => intro hx; clear_value x))
    | with_reducible apply GoodO.next
    | with_reducible apply GoodO.ite
    | with_reducible apply Good.ite
    | (with_reducible apply Good.step (State.wr_good ..))
    | exact rfl

theorem State.ringEnable_good : ∀ s a1 a2 a3, Good 8388609 s (State.ringEnable s a1 a2 a3) := by
  intro s a1 a2 a3
  unfold State.ringEnable
  repeat' first
    | with_reducible exact Good.refl
    | with_reducible assumption
    | (extract_lets +onlyGivenNames x; (have ht : type_of% x = State := rfl); clear ht; refine Good.cut (x := x) ?_ ?_; (on_goal 1 => (unfold x; clear x)); (on_goal 2 => intro hx; clear_value x))
    | (extract_lets +onlyGivenNames x; clear_value x)
    | with_reducible apply Good.ite
    | (with_reducible apply Good.step (State.setMac_good ..))
    | (with_reducible apply Good.step (State.wr_good ..))
    | exact rfl

end Sys2Proof.Machine
end

