-- ==== Sys2Proof/Laws/KeepClocks.lean ====
section
/-! SUPPORT. What each operation of Machine/Clocks.lean changes, and that it keeps what every operation keeps. -/

-- One proof at a time: the package as one text then takes less memory.
set_option Elab.async false

namespace Sys2Proof.Machine

open Sys2Proof

theorem execRcReady_good : ∀ a0 s, GoodO 2251799813685257 s (execRcReady a0 s) := by
  intro a0 s
  unfold execRcReady
  repeat' first
    | with_reducible exact Good.refl
    | with_reducible assumption
    | (extract_lets +onlyGivenNames x; (have ht : type_of% x = State := rfl); clear ht; refine GoodO.cut (x := x) ?_ ?_; (on_goal 1 => (unfold x; clear x)); (on_goal 2 => intro hx; clear_value x))
    | (extract_lets +onlyGivenNames x; clear_value x)
    | with_reducible apply GoodO.next
    | with_reducible apply GoodO.ite
    | with_reducible apply Good.ite
    | (with_reducible apply Good.step (State.atRaw_good ..))
    | (with_reducible apply Good.step (State.flag_good ..))
    | exact rfl
    | (with_reducible apply Good.upd_clk)

theorem State.trim_good : ∀ s a1, Good 2251799813685249 s (State.trim s a1) := by
  intro s a1
  unfold State.trim
  repeat' first
    | with_reducible exact Good.refl
    | with_reducible assumption
    | (extract_lets +onlyGivenNames x; (have ht : type_of% x = State := rfl); clear ht; refine Good.cut (x := x) ?_ ?_; (on_goal 1 => (unfold x; clear x)); (on_goal 2 => intro hx; clear_value x))
    | (extract_lets +onlyGivenNames x; clear_value x)
    | with_reducible apply Good.ite
    | (with_reducible apply Good.step (State.wr_good ..))
    | exact rfl
    | (with_reducible apply Good.upd_clk)

theorem execTrimWrite_good : ∀ a0 a1 s, GoodO 2251799813685257 s (execTrimWrite a0 a1 s) := by
  intro a0 a1 s
  unfold execTrimWrite
  repeat' first
    | with_reducible exact Good.refl
    | with_reducible assumption
    | with_reducible apply GoodO.next
    | with_reducible apply GoodO.ite
    | (with_reducible apply Good.step (State.atRaw_good ..))
    | (with_reducible apply Good.step (State.trim_good ..))
    | exact rfl

theorem execRcTrimInterval_good : ∀ a0 s, GoodO 2251799813685249 s (execRcTrimInterval a0 s) := by
  intro a0 s
  unfold execRcTrimInterval
  repeat' first
    | with_reducible exact Good.refl
    | with_reducible assumption
    | (extract_lets +onlyGivenNames x; (have ht : type_of% x = State := rfl); clear ht; refine Good.cut (x := x) ?_ ?_; (on_goal 1 => (unfold x; clear x)); (on_goal 2 => intro hx; clear_value x))
    | (extract_lets +onlyGivenNames x; clear_value x)
    | with_reducible apply GoodO.next
    | with_reducible apply GoodO.ite
    | with_reducible apply Good.ite
    | (with_reducible apply Good.step (State.wr_good ..))
    | exact rfl
    | split
    | (with_reducible apply Good.upd_clk)

theorem execXoStartDelay_good : ∀ a0 s, GoodO 2251799813685256 s (execXoStartDelay a0 s) := by
  intro a0 s
  unfold execXoStartDelay
  repeat' first
    | with_reducible exact Good.refl
    | with_reducible assumption
    | (extract_lets +onlyGivenNames x; (have ht : type_of% x = State := rfl); clear ht; refine GoodO.cut (x := x) ?_ ?_; (on_goal 1 => (unfold x; clear x)); (on_goal 2 => intro hx; clear_value x))
    | (extract_lets +onlyGivenNames x; clear_value x)
    | with_reducible apply GoodO.next
    | with_reducible apply GoodO.ite
    | with_reducible apply Good.ite
    | (with_reducible apply Good.step (State.atRaw_good ..))
    | exact rfl
    | (with_reducible apply Good.upd_clk)

theorem State.setClkFail_good : ∀ s a1, Good 1 s (State.setClkFail s a1) := by
  intro s a1
  unfold State.setClkFail
  repeat' first
    | with_reducible exact Good.refl
    | with_reducible assumption
    | (with_reducible apply Good.step (State.wr_good ..))
    | exact rfl

theorem State.setClkGood_good : ∀ s a1 a2, Good 1 s (State.setClkGood s a1 a2) := by
  intro s a1 a2
  unfold State.setClkGood
  repeat' first
    | with_reducible exact Good.refl
    | with_reducible assumption
    | (with_reducible apply Good.step (State.wr_good ..))
    | exact rfl

theorem execXoStartTimeout_good : ∀ a0 s, GoodO 9 s (execXoStartTimeout a0 s) := by
  intro a0 s
  unfold execXoStartTimeout
  repeat' first
    | with_reducible exact Good.refl
    | with_reducible assumption
    | (extract_lets +onlyGivenNames x; (have ht : type_of% x = State := rfl); clear ht; refine GoodO.cut (x := x) ?_ ?_; (on_goal 1 => (unfold x; clear x)); (on_goal 2 => intro hx; clear_value x))
    | (extract_lets +onlyGivenNames x; (have ht : type_of% x = State := rfl); clear ht; refine Good.cut (x := x) ?_ ?_; (on_goal 1 => (unfold x; clear x)); (on_goal 2 => intro hx; clear_value x))
    | with_reducible apply GoodO.next
    | with_reducible apply GoodO.ite
    | with_reducible apply Good.ite
    | (with_reducible apply Good.step (State.atRaw_good ..))
    | (with_reducible apply Good.step (State.setClkFail_good ..))
    | exact rfl

theorem State.psAllStop_good : ∀ s, Good 6291457 s (State.psAllStop s) := by
  intro s
  unfold State.psAllStop
  repeat' first
    | with_reducible exact Good.refl
    | with_reducible assumption
    | with_reducible apply Good.ite
    | (with_reducible apply Good.foldl)
    | (with_reducible apply Good.foldl_snd)
    | (with_reducible apply Good.foldl_fst)
    | (intro x b h; try beta_reduce)
    | (with_reducible apply Good.step (State.gatesLow_good ..))
    | (with_reducible apply Good.step (State.lineAbort_good ..))
    | (with_reducible apply Good.step (State.setPsState_good ..))
    | exact rfl

theorem State.portsLose_good : ∀ s, Good 49153 s (State.portsLose s) := by
  intro s
  unfold State.portsLose
  repeat' first
    | with_reducible exact Good.refl
    | with_reducible assumption
    | (extract_lets +onlyGivenNames x; (have ht : type_of% x = State := rfl); clear ht; refine Good.cut (x := x) ?_ ?_; (on_goal 1 => (unfold x; clear x)); (on_goal 2 => intro hx; clear_value x))
    | (extract_lets +onlyGivenNames x; clear_value x)
    | (with_reducible apply Good.foldl)
    | (with_reducible apply Good.foldl_snd)
    | (with_reducible apply Good.foldl_fst)
    | (intro x b h; try beta_reduce)
    | (with_reducible apply Good.step (State.setAes_good ..))
    | (with_reducible apply Good.step (State.setTdm_good ..))
    | (with_reducible apply Good.step (State.wr_good ..))
    | exact rfl

theorem State.toRc_good : ∀ s, Good 2251809483653129 s (State.toRc s) := by
  intro s
  unfold State.toRc
  repeat' first
    | with_reducible exact Good.refl
    | with_reducible assumption
    | (extract_lets +onlyGivenNames x; (have ht : type_of% x = State := rfl); clear ht; refine Good.cut (x := x) ?_ ?_; (on_goal 1 => (unfold x; clear x)); (on_goal 2 => intro hx; clear_value x))
    | (extract_lets +onlyGivenNames x; clear_value x)
    | with_reducible apply Good.ite
    | (with_reducible apply Good.step (State.flag_good ..))
    | (with_reducible apply Good.step (State.loseLock_good ..))
    | (with_reducible apply Good.step (State.psAllStop_good ..))
    | (with_reducible apply Good.step (State.setRate_good ..))
    | (with_reducible apply Good.step (State.showTime_good ..))
    | exact rfl
    | (with_reducible apply Good.upd_clk)

theorem State.clkFail_good : ∀ s a1, Good 2251809492090889 s (State.clkFail s a1) := by
  intro s a1
  unfold State.clkFail
  repeat' first
    | with_reducible exact Good.refl
    | with_reducible assumption
    | (extract_lets +onlyGivenNames x; (have ht : type_of% x = State := rfl); clear ht; refine Good.cut (x := x) ?_ ?_; (on_goal 1 => (unfold x; clear x)); (on_goal 2 => intro hx; clear_value x))
    | (extract_lets +onlyGivenNames x; clear_value x)
    | with_reducible apply Good.ite
    | (with_reducible apply Good.step (State.bump_good ..))
    | (with_reducible apply Good.step (State.linkLost_good ..))
    | (with_reducible apply Good.step (State.portsLose_good ..))
    | (with_reducible apply Good.step (State.setClkFail_good ..))
    | (with_reducible apply Good.step (State.setClkGood_good ..))
    | (with_reducible apply Good.step (State.toRc_good ..))
    | exact rfl
    | split
    | (with_reducible apply Good.upd_clk)

theorem State.clkPass_good : ∀ s a1, Good 2251799813685249 s (State.clkPass s a1) := by
  intro s a1
  unfold State.clkPass
  repeat' first
    | with_reducible exact Good.refl
    | with_reducible assumption
    | (extract_lets +onlyGivenNames x; (have ht : type_of% x = State := rfl); clear ht; refine Good.cut (x := x) ?_ ?_; (on_goal 1 => (unfold x; clear x)); (on_goal 2 => intro hx; clear_value x))
    | (extract_lets +onlyGivenNames x; clear_value x)
    | with_reducible apply Good.ite
    | (with_reducible apply Good.step (State.setClkGood_good ..))
    | exact rfl
    | (with_reducible apply Good.upd_clk)

theorem execMonitorWindow_good : ∀ a0 a1 a2 a3 s, GoodO 2251809492090889 s (execMonitorWindow a0 a1 a2 a3 s) := by
  intro a0 a1 a2 a3 s
  unfold execMonitorWindow
  repeat' first
    | with_reducible exact Good.refl
    | with_reducible assumption
    | (extract_lets +onlyGivenNames x; (have ht : type_of% x = State := rfl); clear ht; refine GoodO.cut (x := x) ?_ ?_; (on_goal 1 => (unfold x; clear x)); (on_goal 2 => intro hx; clear_value x))
    | (extract_lets +onlyGivenNames x; (have ht : type_of% x = State := rfl); clear ht; refine Good.cut (x := x) ?_ ?_; (on_goal 1 => (unfold x; clear x)); (on_goal 2 => intro hx; clear_value x))
    | with_reducible apply GoodO.next
    | with_reducible apply GoodO.ite
    | with_reducible apply Good.ite
    | (with_reducible apply Good.step (State.atRaw_good ..))
    | (with_reducible apply Good.step (State.clkFail_good ..))
    | (with_reducible apply Good.step (State.clkPass_good ..))
    | exact rfl

theorem execMonitorNoEdge_good : ∀ a0 a1 s, GoodO 2251809492090889 s (execMonitorNoEdge a0 a1 s) := by
  intro a0 a1 s
  unfold execMonitorNoEdge
  repeat' first
    | with_reducible exact Good.refl
    | with_reducible assumption
    | (extract_lets +onlyGivenNames x; (have ht : type_of% x = State := rfl); clear ht; refine GoodO.cut (x := x) ?_ ?_; (on_goal 1 => (unfold x; clear x)); (on_goal 2 => intro hx; clear_value x))
    | (extract_lets +onlyGivenNames x; (have ht : type_of% x = State := rfl); clear ht; refine Good.cut (x := x) ?_ ?_; (on_goal 1 => (unfold x; clear x)); (on_goal 2 => intro hx; clear_value x))
    | with_reducible apply GoodO.next
    | with_reducible apply GoodO.ite
    | with_reducible apply Good.ite
    | (with_reducible apply Good.step (State.atRaw_good ..))
    | (with_reducible apply Good.step (State.clkFail_good ..))
    | exact rfl

theorem execPllUnlock_good : ∀ a0 a1 s, GoodO 2251809492090889 s (execPllUnlock a0 a1 s) := by
  intro a0 a1 s
  unfold execPllUnlock
  repeat' first
    | with_reducible exact Good.refl
    | with_reducible assumption
    | (extract_lets +onlyGivenNames x; (have ht : type_of% x = State := rfl); clear ht; refine GoodO.cut (x := x) ?_ ?_; (on_goal 1 => (unfold x; clear x)); (on_goal 2 => intro hx; clear_value x))
    | (extract_lets +onlyGivenNames x; (have ht : type_of% x = State := rfl); clear ht; refine Good.cut (x := x) ?_ ?_; (on_goal 1 => (unfold x; clear x)); (on_goal 2 => intro hx; clear_value x))
    | with_reducible apply GoodO.next
    | with_reducible apply GoodO.ite
    | (with_reducible apply Good.step (State.atRaw_good ..))
    | (with_reducible apply Good.step (State.clkFail_good ..))
    | exact rfl
    | split

theorem execRestore_good : ∀ s, GoodO 2251799813685248 s (execRestore s) := by
  intro s
  unfold execRestore
  repeat' first
    | with_reducible exact Good.refl
    | with_reducible assumption
    | (extract_lets +onlyGivenNames x; clear_value x)
    | with_reducible apply GoodO.next
    | with_reducible apply GoodO.ite
    | with_reducible apply Good.ite
    | exact rfl
    | (with_reducible apply Good.upd_clk)

theorem State.restoreNow_good : ∀ s, Good 2251799813685249 s (State.restoreNow s) := by
  intro s
  unfold State.restoreNow
  repeat' first
    | with_reducible exact Good.refl
    | with_reducible assumption
    | (extract_lets +onlyGivenNames x; (have ht : type_of% x = State := rfl); clear ht; refine Good.cut (x := x) ?_ ?_; (on_goal 1 => (unfold x; clear x)); (on_goal 2 => intro hx; clear_value x))
    | (extract_lets +onlyGivenNames x; clear_value x)
    | with_reducible apply Good.ite
    | (with_reducible apply Good.step (State.wr_good ..))
    | exact rfl
    | (with_reducible apply Good.upd_clk)

theorem State.openGates_good : ∀ s a1, Good 1 s (State.openGates s a1) := by
  intro s a1
  unfold State.openGates
  repeat' first
    | with_reducible exact Good.refl
    | with_reducible assumption
    | (with_reducible apply Good.step (State.wr_good ..))
    | exact rfl

theorem State.gateStep_good : ∀ s a1 a2 a3, Good 2251799813685248 s (State.gateStep s a1 a2 a3) := by
  intro s a1 a2 a3
  unfold State.gateStep
  repeat' first
    | with_reducible exact Good.refl
    | with_reducible assumption
    | (extract_lets +onlyGivenNames x; clear_value x)
    | with_reducible apply Good.ite
    | exact rfl
    | (with_reducible apply Good.upd_clk)

theorem State.gateCore_good : ∀ s a1 a2, Good 8193 s (State.gateCore s a1 a2) := by
  intro s a1 a2
  unfold State.gateCore
  repeat' first
    | with_reducible exact Good.refl
    | with_reducible assumption
    | (extract_lets +onlyGivenNames x; clear_value x)
    | with_reducible apply Good.ite
    | (with_reducible apply Good.step (State.setCore_good ..))
    | (with_reducible apply Good.step (State.setCoreState_good ..))
    | exact rfl

theorem State.writeGateRun_good : ∀ s a1, Good 2251799813685249 s (State.writeGateRun s a1) := by
  intro s a1
  unfold State.writeGateRun
  repeat' first
    | with_reducible exact Good.refl
    | with_reducible assumption
    | (extract_lets +onlyGivenNames x; (have ht : type_of% x = State := rfl); clear ht; refine Good.cut (x := x) ?_ ?_; (on_goal 1 => (unfold x; clear x)); (on_goal 2 => intro hx; clear_value x))
    | with_reducible apply Good.ite
    | (with_reducible apply Good.step (State.gateStep_good ..))
    | (with_reducible apply Good.step (State.openGates_good ..))
    | (with_reducible apply Good.step (State.wr_good ..))
    | exact rfl

theorem State.writeCoreGate_good : ∀ s a1, Good 2251799813693441 s (State.writeCoreGate s a1) := by
  intro s a1
  unfold State.writeCoreGate
  repeat' first
    | with_reducible exact Good.refl
    | with_reducible assumption
    | (extract_lets +onlyGivenNames x; (have ht : type_of% x = State := rfl); clear ht; refine Good.cut (x := x) ?_ ?_; (on_goal 1 => (unfold x; clear x)); (on_goal 2 => intro hx; clear_value x))
    | (extract_lets +onlyGivenNames x; clear_value x)
    | with_reducible apply Good.ite
    | (with_reducible apply Good.foldl)
    | (with_reducible apply Good.foldl_snd)
    | (with_reducible apply Good.foldl_fst)
    | (intro x b h; try beta_reduce)
    | (with_reducible apply Good.step (State.gateCore_good ..))
    | (with_reducible apply Good.step (State.gateStep_good ..))
    | (with_reducible apply Good.step (State.wr_good ..))
    | exact rfl

theorem execGateRunWrite_good : ∀ a0 a1 a2 s, GoodO 2251799813693449 s (execGateRunWrite a0 a1 a2 s) := by
  intro a0 a1 a2 s
  unfold execGateRunWrite
  repeat' first
    | with_reducible exact Good.refl
    | with_reducible assumption
    | (extract_lets +onlyGivenNames x; (have ht : type_of% x = State := rfl); clear ht; refine GoodO.cut (x := x) ?_ ?_; (on_goal 1 => (unfold x; clear x)); (on_goal 2 => intro hx; clear_value x))
    | (extract_lets +onlyGivenNames x; (have ht : type_of% x = State := rfl); clear ht; refine Good.cut (x := x) ?_ ?_; (on_goal 1 => (unfold x; clear x)); (on_goal 2 => intro hx; clear_value x))
    | with_reducible apply GoodO.next
    | with_reducible apply GoodO.ite
    | with_reducible apply Good.ite
    | (with_reducible apply Good.step (State.atRaw_good ..))
    | (with_reducible apply Good.step (State.writeCoreGate_good ..))
    | (with_reducible apply Good.step (State.writeGateRun_good ..))
    | exact rfl

theorem State.closeStep_good : ∀ s a1, Good 2251799813693441 s (State.closeStep s a1) := by
  intro s a1
  unfold State.closeStep
  repeat' first
    | with_reducible exact Good.refl
    | with_reducible assumption
    | (extract_lets +onlyGivenNames x; (have ht : type_of% x = State := rfl); clear ht; refine Good.cut (x := x) ?_ ?_; (on_goal 1 => (unfold x; clear x)); (on_goal 2 => intro hx; clear_value x))
    | (extract_lets +onlyGivenNames x; clear_value x)
    | with_reducible apply Good.ite
    | (with_reducible apply Good.foldl)
    | (with_reducible apply Good.foldl_snd)
    | (with_reducible apply Good.foldl_fst)
    | (intro x b h; try beta_reduce)
    | (with_reducible apply Good.step (State.gateCore_good ..))
    | (with_reducible apply Good.step (State.wr_good ..))
    | exact rfl
    | split
    | (with_reducible apply Good.upd_clk)

theorem execGatesClose_good : ∀ a0 s, GoodO 2251799813693449 s (execGatesClose a0 s) := by
  intro a0 s
  unfold execGatesClose
  repeat' first
    | with_reducible exact Good.refl
    | with_reducible assumption
    | (extract_lets +onlyGivenNames x; (have ht : type_of% x = State := rfl); clear ht; refine GoodO.cut (x := x) ?_ ?_; (on_goal 1 => (unfold x; clear x)); (on_goal 2 => intro hx; clear_value x))
    | (extract_lets +onlyGivenNames x; (have ht : type_of% x = State := rfl); clear ht; refine Good.cut (x := x) ?_ ?_; (on_goal 1 => (unfold x; clear x)); (on_goal 2 => intro hx; clear_value x))
    | with_reducible apply GoodO.next
    | with_reducible apply GoodO.ite
    | (with_reducible apply Good.step (State.atRaw_good ..))
    | (with_reducible apply Good.step (State.closeStep_good ..))
    | exact rfl
    | split

theorem State.resumeAt_good : ∀ s, Good 2251799813685248 s (State.resumeAt s) := by
  intro s
  unfold State.resumeAt
  repeat' first
    | with_reducible exact Good.refl
    | with_reducible assumption
    | (extract_lets +onlyGivenNames x; clear_value x)
    | with_reducible apply Good.ite
    | exact rfl
    | split
    | (with_reducible apply Good.upd_clk)

theorem execQuiescenceTimeout_good : ∀ a0 a1 s, GoodO 2251799813685257 s (execQuiescenceTimeout a0 a1 s) := by
  intro a0 a1 s
  unfold execQuiescenceTimeout
  repeat' first
    | with_reducible exact Good.refl
    | with_reducible assumption
    | (extract_lets +onlyGivenNames x; (have ht : type_of% x = State := rfl); clear ht; refine GoodO.cut (x := x) ?_ ?_; (on_goal 1 => (unfold x; clear x)); (on_goal 2 => intro hx; clear_value x))
    | (extract_lets +onlyGivenNames x; (have ht : type_of% x = State := rfl); clear ht; refine Good.cut (x := x) ?_ ?_; (on_goal 1 => (unfold x; clear x)); (on_goal 2 => intro hx; clear_value x))
    | (extract_lets +onlyGivenNames x; clear_value x)
    | with_reducible apply GoodO.next
    | with_reducible apply GoodO.ite
    | with_reducible apply Good.ite
    | (with_reducible apply Good.step (State.atRaw_good ..))
    | (with_reducible apply Good.step (State.bump_good ..))
    | (with_reducible apply Good.step (State.flag_good ..))
    | (with_reducible apply Good.step (State.resumeAt_good ..))
    | (with_reducible apply Good.step (State.wr_good ..))
    | exact rfl
    | split
    | (with_reducible apply Good.upd_clk)

theorem State.sleepEntry_good : ∀ s a1 a2, Good 2251799813686273 s (State.sleepEntry s a1 a2) := by
  intro s a1 a2
  unfold State.sleepEntry
  repeat' first
    | with_reducible exact Good.refl
    | with_reducible assumption
    | (extract_lets +onlyGivenNames x; (have ht : type_of% x = State := rfl); clear ht; refine Good.cut (x := x) ?_ ?_; (on_goal 1 => (unfold x; clear x)); (on_goal 2 => intro hx; clear_value x))
    | (extract_lets +onlyGivenNames x; clear_value x)
    | with_reducible apply Good.ite
    | (with_reducible apply Good.step (State.wr_good ..))
    | exact rfl
    | (with_reducible apply Good.upd_mix_clk)

theorem State.sleepBoundary_good : ∀ s a1, Good 2251799819976705 s (State.sleepBoundary s a1) := by
  intro s a1
  unfold State.sleepBoundary
  repeat' first
    | with_reducible exact Good.refl
    | with_reducible assumption
    | (extract_lets +onlyGivenNames x; (have ht : type_of% x = State := rfl); clear ht; refine Good.cut (x := x) ?_ ?_; (on_goal 1 => (unfold x; clear x)); (on_goal 2 => intro hx; clear_value x))
    | (extract_lets +onlyGivenNames x; clear_value x)
    | with_reducible apply Good.ite
    | (with_reducible apply Good.step (State.gateStep_good ..))
    | (with_reducible apply Good.step (State.stopAll_good ..))
    | exact rfl
    | split
    | (with_reducible apply Good.upd_clk)

theorem State.leaveSleep_good : ∀ s, Good 2251799813685249 s (State.leaveSleep s) := by
  intro s
  unfold State.leaveSleep
  repeat' first
    | with_reducible exact Good.refl
    | with_reducible assumption
    | (extract_lets +onlyGivenNames x; (have ht : type_of% x = State := rfl); clear ht; refine Good.cut (x := x) ?_ ?_; (on_goal 1 => (unfold x; clear x)); (on_goal 2 => intro hx; clear_value x))
    | (extract_lets +onlyGivenNames x; clear_value x)
    | (with_reducible apply Good.step (State.bump_good ..))
    | (with_reducible apply Good.step (State.openGates_good ..))
    | (with_reducible apply Good.step (State.resumeAt_good ..))
    | (with_reducible apply Good.step (State.wr_good ..))
    | exact rfl
    | (with_reducible apply Good.upd_clk)

theorem execDeepSleepClose_good : ∀ a0 a1 s, GoodO 2254358540451849 s (execDeepSleepClose a0 a1 s) := by
  intro a0 a1 s
  unfold execDeepSleepClose
  repeat' first
    | with_reducible exact Good.refl
    | with_reducible assumption
    | (extract_lets +onlyGivenNames x; (have ht : type_of% x = State := rfl); clear ht; refine GoodO.cut (x := x) ?_ ?_; (on_goal 1 => (unfold x; clear x)); (on_goal 2 => intro hx; clear_value x))
    | (extract_lets +onlyGivenNames x; (have ht : type_of% x = State := rfl); clear ht; refine Good.cut (x := x) ?_ ?_; (on_goal 1 => (unfold x; clear x)); (on_goal 2 => intro hx; clear_value x))
    | (extract_lets +onlyGivenNames x; clear_value x)
    | with_reducible apply GoodO.next
    | with_reducible apply GoodO.ite
    | with_reducible apply Good.ite
    | (with_reducible apply Good.foldl)
    | (with_reducible apply Good.foldl_snd)
    | (with_reducible apply Good.foldl_fst)
    | (intro x b h; try beta_reduce)
    | (with_reducible apply Good.step (State.atRaw_good ..))
    | (with_reducible apply Good.step (State.bump_good ..))
    | (with_reducible apply Good.step (State.closeSession_good ..))
    | (with_reducible apply Good.step (State.flag_good ..))
    | (with_reducible refine Good.when (fun y hy => ?_) ?_)
    | (with_reducible apply Good.step (State.wr_good ..))
    | exact rfl
    | split
    | (with_reducible apply Good.upd_clk)

end Sys2Proof.Machine
end

