-- ==== Sys2Proof/Laws/KeepBuild.lean ====
section
/-! SUPPORT. What each operation of Machine/Build.lean changes, and that it keeps what every operation keeps. -/

-- One proof at a time: the package as one text then takes less memory.
set_option Elab.async false

namespace Sys2Proof.Machine

open Sys2Proof

theorem State.setStaged_good : ∀ s a1 a2, Good 256 s (State.setStaged s a1 a2) := by
  intro s a1 a2
  unfold State.setStaged
  repeat' first
    | with_reducible exact Good.refl
    | with_reducible assumption
    | (extract_lets +onlyGivenNames x; clear_value x)
    | exact rfl
    | (with_reducible apply Good.upd_geo)

theorem State.stageBytes_good : ∀ s a1 a2 a3, Good 256 s (State.stageBytes s a1 a2 a3) := by
  intro s a1 a2 a3
  induction a3 generalizing s a1 a2 with
  | zero => exact Good.refl
  | succ n ih =>
    unfold State.stageBytes
    repeat' first
      | with_reducible exact Good.refl
      | with_reducible assumption
      | (with_reducible apply Good.step (ih ..))
      | (with_reducible apply Good.step (State.setStaged_good ..))
      | exact rfl

theorem State.setBank_good : ∀ s a1 a2 a3, Good 256 s (State.setBank s a1 a2 a3) := by
  intro s a1 a2 a3
  unfold State.setBank
  repeat' first
    | with_reducible exact Good.refl
    | with_reducible assumption
    | (extract_lets +onlyGivenNames x; clear_value x)
    | exact rfl
    | (with_reducible apply Good.upd_geo)

theorem State.setBankWords_good : ∀ s a1 a2 a3, Good 256 s (State.setBankWords s a1 a2 a3) := by
  intro s a1 a2 a3
  induction a3 generalizing s a1 a2 with
  | nil => exact Good.refl
  | cons z zs ih =>
    unfold State.setBankWords
    repeat' first
      | with_reducible exact Good.refl
      | with_reducible assumption
      | (with_reducible apply Good.step (ih ..))
      | (with_reducible apply Good.step (State.setBank_good ..))
      | exact rfl

theorem State.clearBank_good : ∀ s a1, Good 256 s (State.clearBank s a1) := by
  intro s a1
  unfold State.clearBank
  repeat' first
    | with_reducible exact Good.refl
    | with_reducible assumption
    | (extract_lets +onlyGivenNames x; clear_value x)
    | exact rfl
    | (with_reducible apply Good.upd_geo)

theorem State.fillBank_good : ∀ s a1, Good 256 s (State.fillBank s a1) := by
  intro s a1
  unfold State.fillBank
  repeat' first
    | with_reducible exact Good.refl
    | with_reducible assumption
    | (extract_lets +onlyGivenNames x; (have ht : type_of% x = State := rfl); clear ht; refine Good.cut (x := x) ?_ ?_; (on_goal 1 => (unfold x; clear x)); (on_goal 2 => intro hx; clear_value x))
    | (extract_lets +onlyGivenNames x; clear_value x)
    | (with_reducible apply Good.foldl)
    | (with_reducible apply Good.foldl_snd)
    | (with_reducible apply Good.foldl_fst)
    | (intro x b h; try beta_reduce)
    | (with_reducible apply Good.step (State.clearBank_good ..))
    | (with_reducible apply Good.step (State.setBank_good ..))
    | (with_reducible apply Good.step (State.setBankWords_good ..))
    | exact rfl

theorem State.setBuild_good : ∀ s a1, Good 256 s (State.setBuild s a1) := by
  intro s a1
  unfold State.setBuild
  repeat' first
    | with_reducible exact Good.refl
    | with_reducible assumption
    | (extract_lets +onlyGivenNames x; clear_value x)
    | exact rfl
    | (with_reducible apply Good.upd_geo)

theorem State.startBuild_good : ∀ s, Good 257 s (State.startBuild s) := by
  intro s
  unfold State.startBuild
  repeat' first
    | with_reducible exact Good.refl
    | with_reducible assumption
    | (extract_lets +onlyGivenNames x; clear_value x)
    | (with_reducible apply Good.step (State.setBuild_good ..))
    | (with_reducible apply Good.step (State.wr_good ..))
    | exact rfl

theorem State.abandonBuild_good : ∀ s, Good 257 s (State.abandonBuild s) := by
  intro s
  unfold State.abandonBuild
  repeat' first
    | with_reducible exact Good.refl
    | with_reducible assumption
    | (extract_lets +onlyGivenNames x; clear_value x)
    | with_reducible apply Good.ite
    | (with_reducible apply Good.step (State.setBuild_good ..))
    | (with_reducible apply Good.step (State.wr_good ..))
    | exact rfl

theorem State.swapReq_good : ∀ s, Good 1 s (State.swapReq s) := by
  intro s
  unfold State.swapReq
  repeat' first
    | with_reducible exact Good.refl
    | with_reducible assumption
    | with_reducible apply Good.ite
    | (with_reducible apply Good.step (State.flag_good ..))
    | exact rfl

theorem execSwapReq_good : ∀ s, GoodO 257 s (execSwapReq s) := by
  intro s
  unfold execSwapReq
  repeat' first
    | with_reducible exact Good.refl
    | with_reducible assumption
    | (extract_lets +onlyGivenNames x; (have ht : type_of% x = State := rfl); clear ht; refine GoodO.cut (x := x) ?_ ?_; (on_goal 1 => (unfold x; clear x)); (on_goal 2 => intro hx; clear_value x))
    | (extract_lets +onlyGivenNames x; (have ht : type_of% x = State := rfl); clear ht; refine Good.cut (x := x) ?_ ?_; (on_goal 1 => (unfold x; clear x)); (on_goal 2 => intro hx; clear_value x))
    | (extract_lets +onlyGivenNames x; clear_value x)
    | with_reducible apply GoodO.next
    | with_reducible apply GoodO.ite
    | with_reducible apply Good.ite
    | (with_reducible apply Good.step (State.fillBank_good ..))
    | (with_reducible apply Good.step (State.setBuild_good ..))
    | (with_reducible apply Good.step (State.swapReq_good ..))
    | (with_reducible apply Good.step (State.wr_good ..))
    | exact rfl

theorem State.verified_good : ∀ s a1 a2, Good 256 s (State.verified s a1 a2) := by
  intro s a1 a2
  unfold State.verified
  repeat' first
    | with_reducible exact Good.refl
    | with_reducible assumption
    | (extract_lets +onlyGivenNames x; clear_value x)
    | with_reducible apply Good.ite
    | (with_reducible apply Good.step (State.setBuild_good ..))
    | exact rfl

theorem execVerifyComplete_good : ∀ a0 s, GoodO 265 s (execVerifyComplete a0 s) := by
  intro a0 s
  unfold execVerifyComplete
  repeat' first
    | with_reducible exact Good.refl
    | with_reducible assumption
    | (extract_lets +onlyGivenNames x; (have ht : type_of% x = State := rfl); clear ht; refine GoodO.cut (x := x) ?_ ?_; (on_goal 1 => (unfold x; clear x)); (on_goal 2 => intro hx; clear_value x))
    | (extract_lets +onlyGivenNames x; (have ht : type_of% x = State := rfl); clear ht; refine Good.cut (x := x) ?_ ?_; (on_goal 1 => (unfold x; clear x)); (on_goal 2 => intro hx; clear_value x))
    | (extract_lets +onlyGivenNames x; clear_value x)
    | with_reducible apply GoodO.next
    | with_reducible apply GoodO.ite
    | with_reducible apply Good.ite
    | (with_reducible apply Good.step (State.atRaw_good ..))
    | (with_reducible apply Good.step (State.bump_good ..))
    | (with_reducible apply Good.step (State.flag_good ..))
    | (with_reducible apply Good.step (State.verified_good ..))
    | (with_reducible apply Good.step (State.wr_good ..))
    | exact rfl

theorem State.swapBanks_good : ∀ s a1, Good 257 s (State.swapBanks s a1) := by
  intro s a1
  unfold State.swapBanks
  repeat' first
    | with_reducible exact Good.refl
    | with_reducible assumption
    | (extract_lets +onlyGivenNames x; (have ht : type_of% x = State := rfl); clear ht; refine Good.cut (x := x) ?_ ?_; (on_goal 1 => (unfold x; clear x)); (on_goal 2 => intro hx; clear_value x))
    | (extract_lets +onlyGivenNames x; clear_value x)
    | with_reducible apply Good.ite
    | (with_reducible apply Good.foldl)
    | (with_reducible apply Good.foldl_snd)
    | (with_reducible apply Good.foldl_fst)
    | (intro x b h; try beta_reduce)
    | (with_reducible apply Good.step (State.clearBank_good ..))
    | (with_reducible apply Good.step (State.setBank_good ..))
    | (with_reducible apply Good.step (State.setBuild_good ..))
    | (with_reducible apply Good.step (State.wr_good ..))
    | exact rfl
    | split

theorem State.memAddrNext_good : ∀ s, Good 1 s (State.memAddrNext s) := by
  intro s
  unfold State.memAddrNext
  repeat' first
    | with_reducible exact Good.refl
    | with_reducible assumption
    | (with_reducible apply Good.step (State.wr_good ..))
    | exact rfl

theorem State.setMemData_good : ∀ s a1, Good 256 s (State.setMemData s a1) := by
  intro s a1
  unfold State.setMemData
  repeat' first
    | with_reducible exact Good.refl
    | with_reducible assumption
    | (extract_lets +onlyGivenNames x; clear_value x)
    | with_reducible apply Good.ite
    | (with_reducible apply Good.step (State.setBank_good ..))
    | exact rfl

theorem execSlHold_good : ∀ a0 s, GoodO 1 s (execSlHold a0 s) := by
  intro a0 s
  unfold execSlHold
  repeat' first
    | with_reducible exact Good.refl
    | with_reducible assumption
    | with_reducible apply GoodO.next
    | with_reducible apply GoodO.ite
    | with_reducible apply Good.ite
    | (with_reducible apply Good.step (State.wr_good ..))
    | exact rfl

theorem execSlArm_good : ∀ s, GoodO 1 s (execSlArm s) := by
  intro s
  unfold execSlArm
  repeat' first
    | with_reducible exact Good.refl
    | with_reducible assumption
    | with_reducible apply GoodO.next
    | with_reducible apply GoodO.ite
    | with_reducible apply Good.ite
    | (with_reducible apply Good.step (State.flag_good ..))
    | exact rfl

end Sys2Proof.Machine
end

