-- ==== Sys2Proof/Laws/KeepMirror.lean ====
section
/-! SUPPORT. What each operation of Machine/Mirror.lean changes, and that it keeps what every operation keeps. -/

-- One proof at a time: the package as one text then takes less memory.
set_option Elab.async false

namespace Sys2Proof.Machine

open Sys2Proof

theorem State.setPend_good : ∀ s a1, Good 140737488355329 s (State.setPend s a1) := by
  intro s a1
  unfold State.setPend
  repeat' first
    | with_reducible exact Good.refl
    | with_reducible assumption
    | (extract_lets +onlyGivenNames x; clear_value x)
    | (with_reducible apply Good.step (State.wr_good ..))
    | exact rfl
    | (with_reducible apply Good.upd_bwt)

theorem State.bwtLog_good : ∀ s a1 a2 a3, Good 1 s (State.bwtLog s a1 a2 a3) := by
  intro s a1 a2 a3
  unfold State.bwtLog
  repeat' first
    | with_reducible exact Good.refl
    | with_reducible assumption
    | with_reducible apply Good.ite
    | (with_reducible apply Good.step (State.flag_good ..))
    | (with_reducible apply Good.step (State.wr_good ..))
    | exact rfl

theorem State.safeStop_good : ∀ s, Good 140737488355329 s (State.safeStop s) := by
  intro s
  unfold State.safeStop
  repeat' first
    | with_reducible exact Good.refl
    | with_reducible assumption
    | (with_reducible apply Good.step (State.setPend_good ..))
    | (with_reducible apply Good.step (State.wr_good ..))
    | exact rfl

theorem State.removeCore_good : ∀ s a1, Good 140737488355329 s (State.removeCore s a1) := by
  intro s a1
  unfold State.removeCore
  repeat' first
    | with_reducible exact Good.refl
    | with_reducible assumption
    | (with_reducible apply Good.step (State.setPend_good ..))
    | (with_reducible apply Good.step (State.wr_good ..))
    | exact rfl

theorem State.outvote_good : ∀ s a1 a2 a3, Good 140737488355329 s (State.outvote s a1 a2 a3) := by
  intro s a1 a2 a3
  unfold State.outvote
  repeat' first
    | with_reducible exact Good.refl
    | with_reducible assumption
    | (extract_lets +onlyGivenNames x; (have ht : type_of% x = State := rfl); clear ht; refine Good.cut (x := x) ?_ ?_; (on_goal 1 => (unfold x; clear x)); (on_goal 2 => intro hx; clear_value x))
    | (extract_lets +onlyGivenNames x; clear_value x)
    | with_reducible apply Good.ite
    | (with_reducible apply Good.step (State.bump_good ..))
    | (with_reducible apply Good.step (State.bwtLog_good ..))
    | (with_reducible apply Good.step (State.removeCore_good ..))
    | (with_reducible apply Good.step (State.setPend_good ..))
    | (with_reducible apply Good.step (State.wr_good ..))
    | exact rfl
    | (with_reducible apply Good.upd_bwt)

theorem State.disagree_good : ∀ s a1 a2 a3, Good 140737488355329 s (State.disagree s a1 a2 a3) := by
  intro s a1 a2 a3
  unfold State.disagree
  repeat' first
    | with_reducible exact Good.refl
    | with_reducible assumption
    | with_reducible apply Good.ite
    | (with_reducible apply Good.step (State.bwtLog_good ..))
    | (with_reducible apply Good.step (State.outvote_good ..))
    | (with_reducible apply Good.step (State.safeStop_good ..))
    | exact rfl
    | split

theorem execDisagreement_good : ∀ a0 a1 a2 a3 s, GoodO 140737488355337 s (execDisagreement a0 a1 a2 a3 s) := by
  intro a0 a1 a2 a3 s
  unfold execDisagreement
  repeat' first
    | with_reducible exact Good.refl
    | with_reducible assumption
    | with_reducible apply GoodO.next
    | with_reducible apply GoodO.ite
    | with_reducible apply Good.ite
    | (with_reducible apply Good.step (State.atRaw_good ..))
    | (with_reducible apply Good.step (State.disagree_good ..))
    | exact rfl

theorem State.resync_good : ∀ s, Good 140737488355329 s (State.resync s) := by
  intro s
  unfold State.resync
  repeat' first
    | with_reducible exact Good.refl
    | with_reducible assumption
    | with_reducible apply Good.ite
    | (with_reducible apply Good.step (State.count_good ..))
    | (with_reducible apply Good.step (State.setPend_good ..))
    | exact rfl

theorem State.inject_good : ∀ s a1, Good 140737488355328 s (State.inject s a1) := by
  intro s a1
  unfold State.inject
  repeat' first
    | with_reducible exact Good.refl
    | with_reducible assumption
    | (extract_lets +onlyGivenNames x; clear_value x)
    | with_reducible apply Good.ite
    | exact rfl
    | (with_reducible apply Good.upd_bwt)

theorem execFaultInjection_good : ∀ a0 a1 s, GoodO 140737488355336 s (execFaultInjection a0 a1 s) := by
  intro a0 a1 s
  unfold execFaultInjection
  repeat' first
    | with_reducible exact Good.refl
    | with_reducible assumption
    | with_reducible apply GoodO.next
    | with_reducible apply GoodO.ite
    | with_reducible apply Good.ite
    | (with_reducible apply Good.step (State.atRaw_good ..))
    | (with_reducible apply Good.step (State.inject_good ..))
    | exact rfl

theorem State.votedWrite_good : ∀ s a1, Good 140737488355329 s (State.votedWrite s a1) := by
  intro s a1
  unfold State.votedWrite
  repeat' first
    | with_reducible exact Good.refl
    | with_reducible assumption
    | (extract_lets +onlyGivenNames x; clear_value x)
    | (with_reducible apply Good.step (State.disagree_good ..))
    | exact rfl
    | split
    | (with_reducible apply Good.upd_bwt)

theorem State.setRole_good : ∀ s a1, Good 1 s (State.setRole s a1) := by
  intro s a1
  unfold State.setRole
  repeat' first
    | with_reducible exact Good.refl
    | with_reducible assumption
    | (with_reducible apply Good.step (State.wr_good ..))
    | exact rfl

theorem State.setMir_good : ∀ s a1, Good 281474976710656 s (State.setMir s a1) := by
  intro s a1
  unfold State.setMir
  repeat' first
    | with_reducible exact Good.refl
    | with_reducible assumption
    | exact rfl
    | (with_reducible apply Good.upd_mir)

theorem State.sendFold_good : ∀ s a1 a2 a3 a4, Good 281474976710656 s (State.sendFold s a1 a2 a3 a4) := by
  intro s a1 a2 a3 a4
  unfold State.sendFold
  repeat' first
    | with_reducible exact Good.refl
    | with_reducible assumption
    | (extract_lets +onlyGivenNames x; clear_value x)
    | (with_reducible apply Good.step (State.setMir_good ..))
    | exact rfl

theorem State.showPartner_good : ∀ s, Good 9663676417 s (State.showPartner s) := by
  intro s
  unfold State.showPartner
  repeat' first
    | with_reducible exact Good.refl
    | with_reducible assumption
    | (extract_lets +onlyGivenNames x; (have ht : type_of% x = State := rfl); clear ht; refine Good.cut (x := x) ?_ ?_; (on_goal 1 => (unfold x; clear x)); (on_goal 2 => intro hx; clear_value x))
    | (extract_lets +onlyGivenNames x; clear_value x)
    | with_reducible apply Good.ite
    | (with_reducible apply Good.step (State.evMirror_good ..))
    | (with_reducible apply Good.step (State.wr_good ..))
    | exact rfl

theorem State.breakRun_good : ∀ s, Good 281484640387073 s (State.breakRun s) := by
  intro s
  unfold State.breakRun
  repeat' first
    | with_reducible exact Good.refl
    | with_reducible assumption
    | (extract_lets +onlyGivenNames x; clear_value x)
    | (with_reducible apply Good.step (State.setMir_good ..))
    | (with_reducible apply Good.step (State.showPartner_good ..))
    | exact rfl

theorem State.zeroChains_good : ∀ s, Good 1024 s (State.zeroChains s) := by
  intro s
  unfold State.zeroChains
  repeat' first
    | with_reducible exact Good.refl
    | with_reducible assumption
    | (extract_lets +onlyGivenNames x; (have ht : type_of% x = State := rfl); clear ht; refine Good.cut (x := x) ?_ ?_; (on_goal 1 => (unfold x; clear x)); (on_goal 2 => intro hx; clear_value x))
    | (extract_lets +onlyGivenNames x; clear_value x)
    | (with_reducible apply Good.step (State.silentChains_good ..))
    | exact rfl
    | (with_reducible apply Good.upd_mix)

theorem State.startContexts_good : ∀ s a1, Good 67108864 s (State.startContexts s a1) := by
  intro s a1
  unfold State.startContexts
  repeat' first
    | with_reducible exact Good.refl
    | with_reducible assumption
    | (with_reducible apply Good.foldl)
    | (with_reducible apply Good.foldl_snd)
    | (with_reducible apply Good.foldl_fst)
    | exact rfl
    | (with_reducible apply Good.upd_stx)

theorem State.freshLists_good : ∀ s, Good 256 s (State.freshLists s) := by
  intro s
  unfold State.freshLists
  repeat' first
    | with_reducible exact Good.refl
    | with_reducible assumption
    | (extract_lets +onlyGivenNames x; clear_value x)
    | exact rfl
    | (with_reducible apply Good.upd_geo)

theorem State.setActo_good : ∀ s a1, Good 1 s (State.setActo s a1) := by
  intro s a1
  unfold State.setActo
  repeat' first
    | with_reducible exact Good.refl
    | with_reducible assumption
    | (with_reducible apply Good.step (State.wr_good ..))
    | exact rfl

theorem State.holdChannels_good : ∀ s, Good 6291457 s (State.holdChannels s) := by
  intro s
  unfold State.holdChannels
  repeat' first
    | with_reducible exact Good.refl
    | with_reducible assumption
    | (extract_lets +onlyGivenNames x; (have ht : type_of% x = State := rfl); clear ht; refine Good.cut (x := x) ?_ ?_; (on_goal 1 => (unfold x; clear x)); (on_goal 2 => intro hx; clear_value x))
    | (extract_lets +onlyGivenNames x; clear_value x)
    | with_reducible apply Good.ite
    | (with_reducible apply Good.foldl)
    | (with_reducible apply Good.foldl_snd)
    | (with_reducible apply Good.foldl_fst)
    | (intro x b h; try beta_reduce)
    | (with_reducible apply Good.step (State.gatesLow_good ..))
    | (with_reducible apply Good.step (State.lineAbort_good ..))
    | (with_reducible apply Good.step (State.setPs_good ..))
    | (with_reducible apply Good.step (State.setPsState_good ..))
    | (with_reducible apply Good.step (State.wr_good ..))
    | exact rfl

theorem State.arbActive_good : ∀ s, Good 9663676417 s (State.arbActive s) := by
  intro s
  unfold State.arbActive
  repeat' first
    | with_reducible exact Good.refl
    | with_reducible assumption
    | (with_reducible apply Good.step (State.evMirror_good ..))
    | (with_reducible apply Good.step (State.setActo_good ..))
    | (with_reducible apply Good.step (State.setRole_good ..))
    | exact rfl

theorem State.arbStandby_good : ∀ s, Good 9669967873 s (State.arbStandby s) := by
  intro s
  unfold State.arbStandby
  repeat' first
    | with_reducible exact Good.refl
    | with_reducible assumption
    | (with_reducible apply Good.step (State.evMirror_good ..))
    | (with_reducible apply Good.step (State.holdChannels_good ..))
    | (with_reducible apply Good.step (State.setRole_good ..))
    | exact rfl

theorem State.standAlone_good : ∀ s, Good 73402113 s (State.standAlone s) := by
  intro s
  unfold State.standAlone
  repeat' first
    | with_reducible exact Good.refl
    | with_reducible assumption
    | (extract_lets +onlyGivenNames x; (have ht : type_of% x = State := rfl); clear ht; refine Good.cut (x := x) ?_ ?_; (on_goal 1 => (unfold x; clear x)); (on_goal 2 => intro hx; clear_value x))
    | (extract_lets +onlyGivenNames x; clear_value x)
    | (with_reducible apply Good.step (State.freshLists_good ..))
    | (with_reducible apply Good.step (State.startAll_good ..))
    | (with_reducible apply Good.step (State.startContexts_good ..))
    | (with_reducible apply Good.step (State.zeroChains_good ..))
    | exact rfl
    | (with_reducible apply Good.upd_hst_mix)

theorem State.mirrorEnable_good : ∀ s a1, Good 281484713789185 s (State.mirrorEnable s a1) := by
  intro s a1
  unfold State.mirrorEnable
  repeat' first
    | with_reducible exact Good.refl
    | with_reducible assumption
    | (extract_lets +onlyGivenNames x; (have ht : type_of% x = State := rfl); clear ht; refine Good.cut (x := x) ?_ ?_; (on_goal 1 => (unfold x; clear x)); (on_goal 2 => intro hx; clear_value x))
    | (extract_lets +onlyGivenNames x; clear_value x)
    | with_reducible apply Good.ite
    | (with_reducible apply Good.step (State.arbStandby_good ..))
    | (with_reducible apply Good.step (State.setActo_good ..))
    | (with_reducible apply Good.step (State.setMir_good ..))
    | (with_reducible apply Good.step (State.setRole_good ..))
    | (with_reducible apply Good.step (State.showPartner_good ..))
    | (with_reducible apply Good.step (State.standAlone_good ..))
    | (with_reducible refine Good.when (fun y hy => ?_) ?_)
    | (with_reducible apply Good.step (State.wr_good ..))
    | exact rfl

theorem State.arbitrate_good : ∀ s a1, Good 9669967873 s (State.arbitrate s a1) := by
  intro s a1
  unfold State.arbitrate
  repeat' first
    | with_reducible exact Good.refl
    | with_reducible assumption
    | with_reducible apply Good.ite
    | (with_reducible apply Good.step (State.arbActive_good ..))
    | (with_reducible apply Good.step (State.arbStandby_good ..))
    | exact rfl

theorem execActiChange_good : ∀ a0 a1 s, GoodO 9669967881 s (execActiChange a0 a1 s) := by
  intro a0 a1 s
  unfold execActiChange
  repeat' first
    | with_reducible exact Good.refl
    | with_reducible assumption
    | (extract_lets +onlyGivenNames x; (have ht : type_of% x = State := rfl); clear ht; refine GoodO.cut (x := x) ?_ ?_; (on_goal 1 => (unfold x; clear x)); (on_goal 2 => intro hx; clear_value x))
    | (extract_lets +onlyGivenNames x; (have ht : type_of% x = State := rfl); clear ht; refine Good.cut (x := x) ?_ ?_; (on_goal 1 => (unfold x; clear x)); (on_goal 2 => intro hx; clear_value x))
    | with_reducible apply GoodO.next
    | with_reducible apply GoodO.ite
    | with_reducible apply Good.ite
    | (with_reducible apply Good.step (State.arbStandby_good ..))
    | (with_reducible apply Good.step (State.atRaw_good ..))
    | (with_reducible apply Good.step (State.wr_good ..))
    | exact rfl

theorem execArbitrationTimeout_good : ∀ a0 s, GoodO 281484646678537 s (execArbitrationTimeout a0 s) := by
  intro a0 s
  unfold execArbitrationTimeout
  repeat' first
    | with_reducible exact Good.refl
    | with_reducible assumption
    | (extract_lets +onlyGivenNames x; (have ht : type_of% x = State := rfl); clear ht; refine GoodO.cut (x := x) ?_ ?_; (on_goal 1 => (unfold x; clear x)); (on_goal 2 => intro hx; clear_value x))
    | (extract_lets +onlyGivenNames x; clear_value x)
    | with_reducible apply GoodO.next
    | with_reducible apply GoodO.ite
    | with_reducible apply Good.ite
    | (with_reducible apply Good.step (State.arbActive_good ..))
    | (with_reducible apply Good.step (State.arbStandby_good ..))
    | (with_reducible apply Good.step (State.atRaw_good ..))
    | (with_reducible apply Good.step (State.setMir_good ..))
    | exact rfl

theorem State.setChange_good : ∀ s a1 a2 a3, Good 281474976710656 s (State.setChange s a1 a2 a3) := by
  intro s a1 a2 a3
  unfold State.setChange
  repeat' first
    | with_reducible exact Good.refl
    | with_reducible assumption
    | (extract_lets +onlyGivenNames x; clear_value x)
    | with_reducible apply Good.ite
    | (with_reducible apply Good.step (State.setMir_good ..))
    | exact rfl

theorem State.pathUp_good : ∀ s a1, Good 9663676417 s (State.pathUp s a1) := by
  intro s a1
  unfold State.pathUp
  repeat' first
    | with_reducible exact Good.refl
    | with_reducible assumption
    | (with_reducible apply Good.step (State.evMirror_good ..))
    | (with_reducible apply Good.step (State.flag_good ..))
    | exact rfl

theorem State.foldBeat_good : ∀ s, Good 281484640387073 s (State.foldBeat s) := by
  intro s
  unfold State.foldBeat
  repeat' first
    | with_reducible exact Good.refl
    | with_reducible assumption
    | (extract_lets +onlyGivenNames x; (have ht : type_of% x = State := rfl); clear ht; refine Good.cut (x := x) ?_ ?_; (on_goal 1 => (unfold x; clear x)); (on_goal 2 => intro hx; clear_value x))
    | (extract_lets +onlyGivenNames x; clear_value x)
    | with_reducible apply Good.ite
    | (with_reducible apply Good.step (State.pathUp_good ..))
    | (with_reducible apply Good.step (State.setMir_good ..))
    | exact rfl

theorem State.pinBeat_good : ∀ s, Good 281484640387073 s (State.pinBeat s) := by
  intro s
  unfold State.pinBeat
  repeat' first
    | with_reducible exact Good.refl
    | with_reducible assumption
    | (extract_lets +onlyGivenNames x; (have ht : type_of% x = State := rfl); clear ht; refine Good.cut (x := x) ?_ ?_; (on_goal 1 => (unfold x; clear x)); (on_goal 2 => intro hx; clear_value x))
    | (extract_lets +onlyGivenNames x; clear_value x)
    | with_reducible apply Good.ite
    | (with_reducible apply Good.step (State.pathUp_good ..))
    | (with_reducible apply Good.step (State.setMir_good ..))
    | exact rfl

theorem execHbPinEdge_good : ∀ a0 s, GoodO 281484640387081 s (execHbPinEdge a0 s) := by
  intro a0 s
  unfold execHbPinEdge
  repeat' first
    | with_reducible exact Good.refl
    | with_reducible assumption
    | (extract_lets +onlyGivenNames x; (have ht : type_of% x = State := rfl); clear ht; refine GoodO.cut (x := x) ?_ ?_; (on_goal 1 => (unfold x; clear x)); (on_goal 2 => intro hx; clear_value x))
    | (extract_lets +onlyGivenNames x; (have ht : type_of% x = State := rfl); clear ht; refine Good.cut (x := x) ?_ ?_; (on_goal 1 => (unfold x; clear x)); (on_goal 2 => intro hx; clear_value x))
    | with_reducible apply GoodO.next
    | with_reducible apply GoodO.ite
    | with_reducible apply Good.ite
    | (with_reducible apply Good.step (State.atRaw_good ..))
    | (with_reducible apply Good.step (State.pinBeat_good ..))
    | exact rfl

theorem State.pathDown_good : ∀ s a1 a2 a3, Good 9663676417 s (State.pathDown s a1 a2 a3) := by
  intro s a1 a2 a3
  unfold State.pathDown
  repeat' first
    | with_reducible exact Good.refl
    | with_reducible assumption
    | with_reducible apply Good.ite
    | (with_reducible apply Good.step (State.bump_good ..))
    | (with_reducible apply Good.step (State.evMirror_good ..))
    | (with_reducible apply Good.step (State.flag_good ..))
    | (with_reducible apply Good.step (State.wr_good ..))
    | exact rfl

theorem State.bothDown_good : ∀ s, Good 1 s (State.bothDown s) := by
  intro s
  unfold State.bothDown
  repeat' first
    | with_reducible exact Good.refl
    | with_reducible assumption
    | (extract_lets +onlyGivenNames x; clear_value x)
    | (with_reducible apply Good.step (State.flag_good ..))
    | (with_reducible refine Good.when (fun y hy => ?_) ?_)
    | (with_reducible apply Good.step (State.wr_good ..))
    | exact rfl

theorem execHeartbeatMiss_good : ∀ a0 a1 s, GoodO 281484640387081 s (execHeartbeatMiss a0 a1 s) := by
  intro a0 a1 s
  unfold execHeartbeatMiss
  repeat' first
    | with_reducible exact Good.refl
    | with_reducible assumption
    | (extract_lets +onlyGivenNames x; (have ht : type_of% x = State := rfl); clear ht; refine GoodO.cut (x := x) ?_ ?_; (on_goal 1 => (unfold x; clear x)); (on_goal 2 => intro hx; clear_value x))
    | (extract_lets +onlyGivenNames x; (have ht : type_of% x = State := rfl); clear ht; refine Good.cut (x := x) ?_ ?_; (on_goal 1 => (unfold x; clear x)); (on_goal 2 => intro hx; clear_value x))
    | (extract_lets +onlyGivenNames x; clear_value x)
    | with_reducible apply GoodO.next
    | with_reducible apply GoodO.ite
    | with_reducible apply Good.ite
    | (with_reducible apply Good.step (State.atRaw_good ..))
    | (with_reducible apply Good.step (State.bothDown_good ..))
    | (with_reducible apply Good.step (State.pathDown_good ..))
    | (with_reducible apply Good.step (State.setChange_good ..))
    | (with_reducible apply Good.step (State.setMir_good ..))
    | (with_reducible apply Good.step (State.showPartner_good ..))
    | exact rfl

theorem execHeartbeatPeriod_good : ∀ a0 s, GoodO 281474976710664 s (execHeartbeatPeriod a0 s) := by
  intro a0 s
  unfold execHeartbeatPeriod
  repeat' first
    | with_reducible exact Good.refl
    | with_reducible assumption
    | (extract_lets +onlyGivenNames x; (have ht : type_of% x = State := rfl); clear ht; refine GoodO.cut (x := x) ?_ ?_; (on_goal 1 => (unfold x; clear x)); (on_goal 2 => intro hx; clear_value x))
    | (extract_lets +onlyGivenNames x; (have ht : type_of% x = State := rfl); clear ht; refine Good.cut (x := x) ?_ ?_; (on_goal 1 => (unfold x; clear x)); (on_goal 2 => intro hx; clear_value x))
    | (extract_lets +onlyGivenNames x; clear_value x)
    | with_reducible apply GoodO.next
    | with_reducible apply GoodO.ite
    | with_reducible apply Good.ite
    | (with_reducible apply Good.step (State.atRaw_good ..))
    | (with_reducible apply Good.step (State.sendFold_good ..))
    | (with_reducible apply Good.step (State.setChange_good ..))
    | (with_reducible apply Good.step (State.setMir_good ..))
    | (with_reducible refine Good.when (fun y hy => ?_) ?_)
    | exact rfl

theorem State.hearFrame_good : ∀ s a1, Good 281484640387073 s (State.hearFrame s a1) := by
  intro s a1
  unfold State.hearFrame
  repeat' first
    | with_reducible exact Good.refl
    | with_reducible assumption
    | (extract_lets +onlyGivenNames x; (have ht : type_of% x = State := rfl); clear ht; refine Good.cut (x := x) ?_ ?_; (on_goal 1 => (unfold x; clear x)); (on_goal 2 => intro hx; clear_value x))
    | (extract_lets +onlyGivenNames x; clear_value x)
    | with_reducible apply Good.ite
    | (with_reducible apply Good.step (State.setMir_good ..))
    | (with_reducible apply Good.step (State.showPartner_good ..))
    | (with_reducible apply Good.step (State.wr_good ..))
    | exact rfl

theorem State.bothActive_good : ∀ s a1, Good 281474976710656 s (State.bothActive s a1) := by
  intro s a1
  unfold State.bothActive
  repeat' first
    | with_reducible exact Good.refl
    | with_reducible assumption
    | with_reducible apply Good.ite
    | (with_reducible apply Good.step (State.setChange_good ..))
    | exact rfl

theorem execHello_good : ∀ a0 a1 s, GoodO 281484646678537 s (execHello a0 a1 s) := by
  intro a0 a1 s
  unfold execHello
  repeat' first
    | with_reducible exact Good.refl
    | with_reducible assumption
    | (extract_lets +onlyGivenNames x; (have ht : type_of% x = State := rfl); clear ht; refine GoodO.cut (x := x) ?_ ?_; (on_goal 1 => (unfold x; clear x)); (on_goal 2 => intro hx; clear_value x))
    | (extract_lets +onlyGivenNames x; (have ht : type_of% x = State := rfl); clear ht; refine Good.cut (x := x) ?_ ?_; (on_goal 1 => (unfold x; clear x)); (on_goal 2 => intro hx; clear_value x))
    | with_reducible apply GoodO.next
    | with_reducible apply GoodO.ite
    | with_reducible apply Good.ite
    | (with_reducible apply Good.step (State.arbitrate_good ..))
    | (with_reducible apply Good.step (State.atRaw_good ..))
    | (with_reducible apply Good.step (State.hearFrame_good ..))
    | exact rfl

theorem execHeartbeat_good : ∀ a0 a1 s, GoodO 281484646678537 s (execHeartbeat a0 a1 s) := by
  intro a0 a1 s
  unfold execHeartbeat
  repeat' first
    | with_reducible exact Good.refl
    | with_reducible assumption
    | (extract_lets +onlyGivenNames x; (have ht : type_of% x = State := rfl); clear ht; refine GoodO.cut (x := x) ?_ ?_; (on_goal 1 => (unfold x; clear x)); (on_goal 2 => intro hx; clear_value x))
    | (extract_lets +onlyGivenNames x; (have ht : type_of% x = State := rfl); clear ht; refine Good.cut (x := x) ?_ ?_; (on_goal 1 => (unfold x; clear x)); (on_goal 2 => intro hx; clear_value x))
    | (extract_lets +onlyGivenNames x; clear_value x)
    | with_reducible apply GoodO.next
    | with_reducible apply GoodO.ite
    | with_reducible apply Good.ite
    | (with_reducible apply Good.step (State.arbitrate_good ..))
    | (with_reducible apply Good.step (State.atRaw_good ..))
    | (with_reducible apply Good.step (State.bothActive_good ..))
    | (with_reducible apply Good.step (State.foldBeat_good ..))
    | (with_reducible apply Good.step (State.hearFrame_good ..))
    | (with_reducible apply Good.step (State.setChange_good ..))
    | (with_reducible apply Good.step (State.wr_good ..))
    | exact rfl

theorem execFoldBlockLockLoss_good : ∀ a0 a1 s, GoodO 9 s (execFoldBlockLockLoss a0 a1 s) := by
  intro a0 a1 s
  unfold execFoldBlockLockLoss
  repeat' first
    | with_reducible exact Good.refl
    | with_reducible assumption
    | (extract_lets +onlyGivenNames x; (have ht : type_of% x = State := rfl); clear ht; refine GoodO.cut (x := x) ?_ ?_; (on_goal 1 => (unfold x; clear x)); (on_goal 2 => intro hx; clear_value x))
    | (extract_lets +onlyGivenNames x; (have ht : type_of% x = State := rfl); clear ht; refine Good.cut (x := x) ?_ ?_; (on_goal 1 => (unfold x; clear x)); (on_goal 2 => intro hx; clear_value x))
    | with_reducible apply GoodO.next
    | with_reducible apply GoodO.ite
    | with_reducible apply Good.ite
    | (with_reducible apply Good.step (State.atRaw_good ..))
    | (with_reducible apply Good.step (State.bump_good ..))
    | exact rfl

theorem execPattern_good : ∀ a0 a1 s, GoodO 281474976710664 s (execPattern a0 a1 s) := by
  intro a0 a1 s
  unfold execPattern
  repeat' first
    | with_reducible exact Good.refl
    | with_reducible assumption
    | (extract_lets +onlyGivenNames x; (have ht : type_of% x = State := rfl); clear ht; refine GoodO.cut (x := x) ?_ ?_; (on_goal 1 => (unfold x; clear x)); (on_goal 2 => intro hx; clear_value x))
    | (extract_lets +onlyGivenNames x; clear_value x)
    | with_reducible apply GoodO.next
    | with_reducible apply GoodO.ite
    | with_reducible apply Good.ite
    | (with_reducible apply Good.step (State.atRaw_good ..))
    | (with_reducible apply Good.step (State.setMir_good ..))
    | exact rfl

theorem State.sendBulk_good : ∀ s, Good 281474976710656 s (State.sendBulk s) := by
  intro s
  unfold State.sendBulk
  repeat' first
    | with_reducible exact Good.refl
    | with_reducible assumption
    | (extract_lets +onlyGivenNames x; clear_value x)
    | with_reducible apply Good.ite
    | (with_reducible apply Good.step (State.sendFold_good ..))
    | (with_reducible apply Good.step (State.setMir_good ..))
    | exact rfl
    | split

theorem execCopyFix_good : ∀ a0 a1 s, GoodO 281484640387081 s (execCopyFix a0 a1 s) := by
  intro a0 a1 s
  unfold execCopyFix
  repeat' first
    | with_reducible exact Good.refl
    | with_reducible assumption
    | (extract_lets +onlyGivenNames x; (have ht : type_of% x = State := rfl); clear ht; refine GoodO.cut (x := x) ?_ ?_; (on_goal 1 => (unfold x; clear x)); (on_goal 2 => intro hx; clear_value x))
    | (extract_lets +onlyGivenNames x; (have ht : type_of% x = State := rfl); clear ht; refine Good.cut (x := x) ?_ ?_; (on_goal 1 => (unfold x; clear x)); (on_goal 2 => intro hx; clear_value x))
    | (extract_lets +onlyGivenNames x; clear_value x)
    | with_reducible apply GoodO.next
    | with_reducible apply GoodO.ite
    | with_reducible apply Good.ite
    | (with_reducible apply Good.step (State.atRaw_good ..))
    | (with_reducible apply Good.step (State.sendBulk_good ..))
    | (with_reducible apply Good.step (State.sendFold_good ..))
    | (with_reducible apply Good.step (State.setChange_good ..))
    | (with_reducible apply Good.step (State.setMir_good ..))
    | (with_reducible apply Good.step (State.showPartner_good ..))
    | exact rfl

theorem State.copyReg_good : ∀ s a1 a2 a3, Good 3 s (State.copyReg s a1 a2 a3) := by
  intro s a1 a2 a3
  exact Good.upd_live (x := { s with regs := _ }) rfl Cells.wf_set (Good.upd_reg rfl Cells.wf_set Good.refl)

theorem State.copyObj_good : ∀ s a1 a2, Good 1049856 s (State.copyObj s a1 a2) := by
  intro s a1 a2
  unfold State.copyObj
  repeat' first
    | with_reducible exact Good.refl
    | with_reducible assumption
    | (with_reducible apply Good.step (State.bindObj_good ..))
    | (with_reducible apply Good.step (State.setObj_good ..))
    | exact rfl

theorem State.copyItem_good : ∀ s a1, Good 137440005379 s (State.copyItem s a1) := by
  intro s a1
  unfold State.copyItem
  repeat' first
    | with_reducible exact Good.refl
    | with_reducible assumption
    | (extract_lets +onlyGivenNames x; clear_value x)
    | with_reducible apply Good.ite
    | (with_reducible apply Good.foldl)
    | (with_reducible apply Good.foldl_snd)
    | (with_reducible apply Good.foldl_fst)
    | (intro x b h; try beta_reduce)
    | (with_reducible apply Good.step (State.copyObj_good ..))
    | (with_reducible apply Good.step (State.copyReg_good ..))
    | (with_reducible apply Good.step (State.setChain_good ..))
    | (with_reducible apply Good.step (State.setGainPath_good ..))
    | (with_reducible apply Good.step (State.wr_good ..))
    | (with_reducible apply Good.step (State.wrLive_good ..))
    | exact rfl
    | split
    | (with_reducible apply Good.upd_plays)
    | (with_reducible apply Good.upd_sched)

theorem State.takeCopy_good : ∀ s a1 a2, Good 281622080392451 s (State.takeCopy s a1 a2) := by
  intro s a1 a2
  unfold State.takeCopy
  repeat' first
    | with_reducible exact Good.refl
    | with_reducible assumption
    | (extract_lets +onlyGivenNames x; (have ht : type_of% x = State := rfl); clear ht; refine Good.cut (x := x) ?_ ?_; (on_goal 1 => (unfold x; clear x)); (on_goal 2 => intro hx; clear_value x))
    | (extract_lets +onlyGivenNames x; clear_value x)
    | with_reducible apply Good.ite
    | (with_reducible apply Good.foldl)
    | (with_reducible apply Good.foldl_snd)
    | (with_reducible apply Good.foldl_fst)
    | (intro x b h; try beta_reduce)
    | (with_reducible apply Good.step (State.breakRun_good ..))
    | (with_reducible apply Good.step (State.bump_good ..))
    | (with_reducible apply Good.step (State.copyItem_good ..))
    | (with_reducible apply Good.step (State.count_good ..))
    | (with_reducible apply Good.step (State.setMir_good ..))
    | (with_reducible apply Good.step (State.showPartner_good ..))
    | exact rfl

theorem State.reform_good : ∀ s, Good 256 s (State.reform s) := by
  intro s
  unfold State.reform
  repeat' first
    | with_reducible exact Good.refl
    | with_reducible assumption
    | with_reducible apply Good.ite
    | (with_reducible apply Good.step (State.reformList_good ..))
    | exact rfl

theorem execCopy_good : ∀ a0 a1 a2 s, GoodO 281622080392459 s (execCopy a0 a1 a2 s) := by
  intro a0 a1 a2 s
  unfold execCopy
  repeat' first
    | with_reducible exact Good.refl
    | with_reducible assumption
    | (extract_lets +onlyGivenNames x; (have ht : type_of% x = State := rfl); clear ht; refine GoodO.cut (x := x) ?_ ?_; (on_goal 1 => (unfold x; clear x)); (on_goal 2 => intro hx; clear_value x))
    | (extract_lets +onlyGivenNames x; (have ht : type_of% x = State := rfl); clear ht; refine Good.cut (x := x) ?_ ?_; (on_goal 1 => (unfold x; clear x)); (on_goal 2 => intro hx; clear_value x))
    | with_reducible apply GoodO.next
    | with_reducible apply GoodO.ite
    | with_reducible apply Good.ite
    | (with_reducible apply Good.step (State.atRaw_good ..))
    | (with_reducible apply Good.step (State.hearFrame_good ..))
    | (with_reducible apply Good.step (State.reform_good ..))
    | (with_reducible apply Good.step (State.setChange_good ..))
    | (with_reducible apply Good.step (State.takeCopy_good ..))
    | exact rfl

theorem State.bulkItem_good : ∀ s a1, Good 70471823394049 s (State.bulkItem s a1) := by
  intro s a1
  unfold State.bulkItem
  repeat' first
    | with_reducible exact Good.refl
    | with_reducible assumption
    | (extract_lets +onlyGivenNames x; clear_value x)
    | (with_reducible apply Good.step (State.setBank_good ..))
    | (with_reducible apply Good.step (State.setFir_good ..))
    | (with_reducible apply Good.step (State.setMsg_good ..))
    | (with_reducible apply Good.step (State.setStaged_good ..))
    | exact rfl
    | split
    | (with_reducible apply Good.upd_enrol)
    | (with_reducible apply Good.upd_mix)
    | exact Cells.wf_set
    | exact Cells.wf_filter
    | (with_reducible apply Good.upd_reg)

theorem execBulk_good : ∀ a0 a1 a2 a3 s, GoodO 351956463781129 s (execBulk a0 a1 a2 a3 s) := by
  intro a0 a1 a2 a3 s
  unfold execBulk
  repeat' first
    | with_reducible exact Good.refl
    | with_reducible assumption
    | (extract_lets +onlyGivenNames x; (have ht : type_of% x = State := rfl); clear ht; refine GoodO.cut (x := x) ?_ ?_; (on_goal 1 => (unfold x; clear x)); (on_goal 2 => intro hx; clear_value x))
    | (extract_lets +onlyGivenNames x; (have ht : type_of% x = State := rfl); clear ht; refine Good.cut (x := x) ?_ ?_; (on_goal 1 => (unfold x; clear x)); (on_goal 2 => intro hx; clear_value x))
    | (extract_lets +onlyGivenNames x; clear_value x)
    | with_reducible apply GoodO.next
    | with_reducible apply GoodO.ite
    | with_reducible apply Good.ite
    | (with_reducible apply Good.foldl)
    | (with_reducible apply Good.foldl_snd)
    | (with_reducible apply Good.foldl_fst)
    | (intro x b h; try beta_reduce)
    | (with_reducible apply Good.step (State.atRaw_good ..))
    | (with_reducible apply Good.step (State.breakRun_good ..))
    | (with_reducible apply Good.step (State.bulkItem_good ..))
    | (with_reducible apply Good.step (State.setMir_good ..))
    | exact rfl

theorem State.unownAll_good : ∀ s, Good 6442450944 s (State.unownAll s) := by
  intro s
  unfold State.unownAll
  repeat' first
    | with_reducible exact Good.refl
    | with_reducible assumption
    | exact rfl
    | (with_reducible apply Good.upd_owner_former)

theorem State.takeNow_good : ∀ s a1 a2, Good 281491156240129 s (State.takeNow s a1 a2) := by
  intro s a1 a2
  unfold State.takeNow
  repeat' first
    | with_reducible exact Good.refl
    | with_reducible assumption
    | (extract_lets +onlyGivenNames x; (have ht : type_of% x = State := rfl); clear ht; refine Good.cut (x := x) ?_ ?_; (on_goal 1 => (unfold x; clear x)); (on_goal 2 => intro hx; clear_value x))
    | (extract_lets +onlyGivenNames x; clear_value x)
    | with_reducible apply Good.ite
    | (with_reducible apply Good.step (State.bump_good ..))
    | (with_reducible apply Good.step (State.evMirror_good ..))
    | (with_reducible apply Good.step (State.freshLists_good ..))
    | (with_reducible apply Good.step (State.setActo_good ..))
    | (with_reducible apply Good.step (State.setMir_good ..))
    | (with_reducible apply Good.step (State.setRole_good ..))
    | (with_reducible apply Good.step (State.startAll_good ..))
    | (with_reducible apply Good.step (State.startContexts_good ..))
    | (with_reducible apply Good.step (State.unownAll_good ..))
    | (with_reducible apply Good.step (State.unwriteSlots_good ..))
    | (with_reducible apply Good.step (State.wr64_good ..))
    | (with_reducible apply Good.step (State.zeroChains_good ..))
    | exact rfl
    | (with_reducible apply Good.upd_hst_mix)

theorem State.leaveNow_good : ∀ s a1, Good 281484640388097 s (State.leaveNow s a1) := by
  intro s a1
  unfold State.leaveNow
  repeat' first
    | with_reducible exact Good.refl
    | with_reducible assumption
    | (extract_lets +onlyGivenNames x; (have ht : type_of% x = State := rfl); clear ht; refine Good.cut (x := x) ?_ ?_; (on_goal 1 => (unfold x; clear x)); (on_goal 2 => intro hx; clear_value x))
    | (extract_lets +onlyGivenNames x; clear_value x)
    | (with_reducible apply Good.step (State.setMir_good ..))
    | (with_reducible apply Good.step (State.setRole_good ..))
    | (with_reducible apply Good.step (State.showPartner_good ..))
    | exact rfl
    | (with_reducible apply Good.upd_mix)

theorem State.roleBoundary_good : ∀ s a1, Good 281491156240129 s (State.roleBoundary s a1) := by
  intro s a1
  unfold State.roleBoundary
  repeat' first
    | with_reducible exact Good.refl
    | with_reducible assumption
    | with_reducible apply Good.ite
    | (with_reducible apply Good.step (State.leaveNow_good ..))
    | (with_reducible apply Good.step (State.takeNow_good ..))
    | exact rfl
    | split

theorem execHandoverChannelStart_good : ∀ a0 s, GoodO 6291465 s (execHandoverChannelStart a0 s) := by
  intro a0 s
  unfold execHandoverChannelStart
  repeat' first
    | with_reducible exact Good.refl
    | with_reducible assumption
    | (extract_lets +onlyGivenNames x; (have ht : type_of% x = State := rfl); clear ht; refine GoodO.cut (x := x) ?_ ?_; (on_goal 1 => (unfold x; clear x)); (on_goal 2 => intro hx; clear_value x))
    | (extract_lets +onlyGivenNames x; (have ht : type_of% x = State := rfl); clear ht; refine Good.cut (x := x) ?_ ?_; (on_goal 1 => (unfold x; clear x)); (on_goal 2 => intro hx; clear_value x))
    | with_reducible apply GoodO.next
    | with_reducible apply GoodO.ite
    | with_reducible apply Good.ite
    | (with_reducible apply Good.step (State.atRaw_good ..))
    | (with_reducible apply Good.step (State.startAll_good ..))
    | exact rfl
    | split

theorem State.becomeStandby_good : ∀ s, Good 281491089130497 s (State.becomeStandby s) := by
  intro s
  unfold State.becomeStandby
  repeat' first
    | with_reducible exact Good.refl
    | with_reducible assumption
    | (extract_lets +onlyGivenNames x; (have ht : type_of% x = State := rfl); clear ht; refine Good.cut (x := x) ?_ ?_; (on_goal 1 => (unfold x; clear x)); (on_goal 2 => intro hx; clear_value x))
    | (extract_lets +onlyGivenNames x; clear_value x)
    | with_reducible apply Good.ite
    | (with_reducible apply Good.foldl)
    | (with_reducible apply Good.foldl_snd)
    | (with_reducible apply Good.foldl_fst)
    | (intro x b h; try beta_reduce)
    | (with_reducible apply Good.step (State.evMirror_good ..))
    | (with_reducible apply Good.step (State.holdChannels_good ..))
    | (with_reducible apply Good.step (State.releaseRefs_good ..))
    | (with_reducible apply Good.step (State.setActo_good ..))
    | (with_reducible apply Good.step (State.setMir_good ..))
    | (with_reducible apply Good.step (State.setRole_good ..))
    | (with_reducible apply Good.step (State.setSession_good ..))
    | (with_reducible apply Good.step (State.showPartner_good ..))
    | (with_reducible apply Good.step (State.silentChains_good ..))
    | exact rfl

theorem execHandoverEnd_good : ∀ a0 s, GoodO 281491089130505 s (execHandoverEnd a0 s) := by
  intro a0 s
  unfold execHandoverEnd
  repeat' first
    | with_reducible exact Good.refl
    | with_reducible assumption
    | (extract_lets +onlyGivenNames x; (have ht : type_of% x = State := rfl); clear ht; refine GoodO.cut (x := x) ?_ ?_; (on_goal 1 => (unfold x; clear x)); (on_goal 2 => intro hx; clear_value x))
    | (extract_lets +onlyGivenNames x; clear_value x)
    | with_reducible apply GoodO.next
    | with_reducible apply GoodO.ite
    | with_reducible apply Good.ite
    | (with_reducible apply Good.step (State.atRaw_good ..))
    | (with_reducible apply Good.step (State.becomeStandby_good ..))
    | (with_reducible apply Good.step (State.setActo_good ..))
    | (with_reducible apply Good.step (State.setMir_good ..))
    | exact rfl
    | split

end Sys2Proof.Machine
end

