-- ==== Sys2Proof/Laws/KeepSupply.lean ====
section
/-! SUPPORT. What each operation of Machine/Supply.lean changes, and that it keeps what every operation keeps. -/

-- One proof at a time: the package as one text then takes less memory.
set_option Elab.async false

namespace Sys2Proof.Machine

open Sys2Proof

theorem State.setShed_good : ∀ s a1 a2 a3 a4, Good 1024 s (State.setShed s a1 a2 a3 a4) := by
  intro s a1 a2 a3 a4
  unfold State.setShed
  repeat' first
    | with_reducible exact Good.refl
    | with_reducible assumption
    | (extract_lets +onlyGivenNames x; clear_value x)
    | with_reducible apply Good.ite
    | exact rfl
    | (with_reducible apply Good.upd_mix)

theorem State.shedMutes_good : ∀ s a1 a2, Good 1024 s (State.shedMutes s a1 a2) := by
  intro s a1 a2
  unfold State.shedMutes
  repeat' first
    | with_reducible exact Good.refl
    | with_reducible assumption
    | (extract_lets +onlyGivenNames x; (have ht : type_of% x = State := rfl); clear ht; refine Good.cut (x := x) ?_ ?_; (on_goal 1 => (unfold x; clear x)); (on_goal 2 => intro hx; clear_value x))
    | (with_reducible apply Good.foldl)
    | (with_reducible apply Good.foldl_snd)
    | (with_reducible apply Good.foldl_fst)
    | (intro x b h; try beta_reduce)
    | (with_reducible apply Good.step (State.setShed_good ..))
    | exact rfl

theorem State.shedChannels_good : ∀ s, Good 6291457 s (State.shedChannels s) := by
  intro s
  unfold State.shedChannels
  repeat' first
    | with_reducible exact Good.refl
    | with_reducible assumption
    | (extract_lets +onlyGivenNames x; (have ht : type_of% x = State := rfl); clear ht; refine Good.cut (x := x) ?_ ?_; (on_goal 1 => (unfold x; clear x)); (on_goal 2 => intro hx; clear_value x))
    | (extract_lets +onlyGivenNames x; clear_value x)
    | with_reducible apply Good.ite
    | (with_reducible apply Good.foldl)
    | (with_reducible apply Good.foldl_snd)
    | (with_reducible apply Good.foldl_fst)
    | (intro x b h; try beta_reduce)
    | (with_reducible apply Good.step (State.psStop_good ..))
    | (with_reducible apply Good.step (State.setPs_good ..))
    | exact rfl

theorem State.unshedChannels_good : ∀ s, Good 6291457 s (State.unshedChannels s) := by
  intro s
  unfold State.unshedChannels
  repeat' first
    | with_reducible exact Good.refl
    | with_reducible assumption
    | (extract_lets +onlyGivenNames x; (have ht : type_of% x = State := rfl); clear ht; refine Good.cut (x := x) ?_ ?_; (on_goal 1 => (unfold x; clear x)); (on_goal 2 => intro hx; clear_value x))
    | (extract_lets +onlyGivenNames x; clear_value x)
    | with_reducible apply Good.ite
    | (with_reducible apply Good.foldl)
    | (with_reducible apply Good.foldl_snd)
    | (with_reducible apply Good.foldl_fst)
    | (intro x b h; try beta_reduce)
    | (with_reducible apply Good.step (State.flag_good ..))
    | (with_reducible apply Good.step (State.psIdle_good ..))
    | (with_reducible apply Good.step (State.psStart_good ..))
    | (with_reducible apply Good.step (State.psStartOwn_good ..))
    | (with_reducible apply Good.step (State.setPs_good ..))
    | exact rfl

theorem State.shedInstalls_good : ∀ s a1, Good 9663677441 s (State.shedInstalls s a1) := by
  intro s a1
  unfold State.shedInstalls
  repeat' first
    | with_reducible exact Good.refl
    | with_reducible assumption
    | (extract_lets +onlyGivenNames x; (have ht : type_of% x = State := rfl); clear ht; refine Good.cut (x := x) ?_ ?_; (on_goal 1 => (unfold x; clear x)); (on_goal 2 => intro hx; clear_value x))
    | (extract_lets +onlyGivenNames x; clear_value x)
    | (with_reducible apply Good.foldl)
    | (with_reducible apply Good.foldl_snd)
    | (with_reducible apply Good.foldl_fst)
    | (intro x b h; try beta_reduce)
    | (with_reducible apply Good.step (State.endLong_good ..))
    | exact rfl
    | split
    | (with_reducible apply Good.upd_mix)

theorem State.gateIdleHigh_good : ∀ s, Good 2251799813693441 s (State.gateIdleHigh s) := by
  intro s
  unfold State.gateIdleHigh
  repeat' first
    | with_reducible exact Good.refl
    | with_reducible assumption
    | with_reducible apply Good.ite
    | (with_reducible apply Good.step (State.writeCoreGate_good ..))
    | exact rfl

theorem State.enterS1_good : ∀ s, Good 2483571142657 s (State.enterS1 s) := by
  intro s
  unfold State.enterS1
  repeat' first
    | with_reducible exact Good.refl
    | with_reducible assumption
    | (extract_lets +onlyGivenNames x; (have ht : type_of% x = State := rfl); clear ht; refine Good.cut (x := x) ?_ ?_; (on_goal 1 => (unfold x; clear x)); (on_goal 2 => intro hx; clear_value x))
    | with_reducible apply Good.ite
    | (with_reducible apply Good.step (State.endMaint_good ..))
    | (with_reducible apply Good.step (State.tallySuspend_good ..))
    | (with_reducible apply Good.step (State.wr_good ..))
    | exact rfl
    | (with_reducible apply Good.upd_fw)

theorem State.enterS2_good : ∀ s, Good 1 s (State.enterS2 s) := by
  intro s
  unfold State.enterS2
  repeat' first
    | with_reducible exact Good.refl
    | with_reducible assumption
    | (with_reducible apply Good.step (State.flag_good ..))
    | exact rfl

theorem State.holdContexts_good : ∀ s, Good 67108864 s (State.holdContexts s) := by
  intro s
  unfold State.holdContexts
  repeat' first
    | with_reducible exact Good.refl
    | with_reducible assumption
    | with_reducible apply Good.ite
    | (with_reducible apply Good.foldl)
    | (with_reducible apply Good.foldl_snd)
    | (with_reducible apply Good.foldl_fst)
    | exact rfl
    | (with_reducible apply Good.upd_stx)

theorem State.enterS3_good : ∀ s a1, Good 4503609291047939 s (State.enterS3 s a1) := by
  intro s a1
  unfold State.enterS3
  repeat' first
    | with_reducible exact Good.refl
    | with_reducible assumption
    | (extract_lets +onlyGivenNames x; (have ht : type_of% x = State := rfl); clear ht; refine Good.cut (x := x) ?_ ?_; (on_goal 1 => (unfold x; clear x)); (on_goal 2 => intro hx; clear_value x))
    | (extract_lets +onlyGivenNames x; clear_value x)
    | with_reducible apply Good.ite
    | (with_reducible apply Good.foldl)
    | (with_reducible apply Good.foldl_snd)
    | (with_reducible apply Good.foldl_fst)
    | (intro x b h; try beta_reduce)
    | (with_reducible apply Good.step (State.setRot_good ..))
    | (with_reducible apply Good.step (State.shedInstalls_good ..))
    | (with_reducible apply Good.step (State.wr_good ..))
    | (with_reducible apply Good.step (State.wrLive_good ..))
    | exact rfl
    | (with_reducible apply Good.upd_mix)
    | (with_reducible apply Good.upd_sup)

theorem State.enterS4_good : ∀ s a1, Good 137445244929 s (State.enterS4 s a1) := by
  intro s a1
  unfold State.enterS4
  repeat' first
    | with_reducible exact Good.refl
    | with_reducible assumption
    | (with_reducible apply Good.step (State.shedChannels_good ..))
    | (with_reducible apply Good.step (State.shedMsgs_good ..))
    | exact rfl

theorem State.enterStage_good : ∀ s a1 a2, Good 4506220637467651 s (State.enterStage s a1 a2) := by
  intro s a1 a2
  unfold State.enterStage
  repeat' first
    | with_reducible exact Good.refl
    | with_reducible assumption
    | (with_reducible apply Good.step (State.enterS1_good ..))
    | (with_reducible apply Good.step (State.enterS2_good ..))
    | (with_reducible apply Good.step (State.enterS3_good ..))
    | (with_reducible apply Good.step (State.enterS4_good ..))
    | exact rfl
    | split

theorem State.leaveStage_good : ∀ s a1 a2, Good 6755399514465283 s (State.leaveStage s a1 a2) := by
  intro s a1 a2
  unfold State.leaveStage
  repeat' first
    | with_reducible exact Good.refl
    | with_reducible assumption
    | (extract_lets +onlyGivenNames x; (have ht : type_of% x = State := rfl); clear ht; refine Good.cut (x := x) ?_ ?_; (on_goal 1 => (unfold x; clear x)); (on_goal 2 => intro hx; clear_value x))
    | (extract_lets +onlyGivenNames x; clear_value x)
    | with_reducible apply Good.ite
    | (with_reducible apply Good.foldl)
    | (with_reducible apply Good.foldl_snd)
    | (with_reducible apply Good.foldl_fst)
    | (intro x b h; try beta_reduce)
    | (with_reducible apply Good.step (State.flag_good ..))
    | (with_reducible apply Good.step (State.setRot_good ..))
    | (with_reducible apply Good.step (State.tallyResume_good ..))
    | (with_reducible apply Good.step (State.unshedChannels_good ..))
    | (with_reducible apply Good.step (State.wr_good ..))
    | (with_reducible apply Good.step (State.wrLive_good ..))
    | (with_reducible apply Good.step (State.writeCoreGate_good ..))
    | exact rfl
    | split
    | (with_reducible apply Good.upd_mix_sup)
    | (with_reducible apply Good.upd_stx)

theorem State.applyStages_good : ∀ s a1, Good 6758020518261763 s (State.applyStages s a1) := by
  intro s a1
  unfold State.applyStages
  repeat' first
    | with_reducible exact Good.refl
    | with_reducible assumption
    | (extract_lets +onlyGivenNames x; (have ht : type_of% x = State := rfl); clear ht; refine Good.cut (x := x) ?_ ?_; (on_goal 1 => (unfold x; clear x)); (on_goal 2 => intro hx; clear_value x))
    | (extract_lets +onlyGivenNames x; clear_value x)
    | with_reducible apply Good.ite
    | (with_reducible apply Good.foldl)
    | (with_reducible apply Good.foldl_snd)
    | (with_reducible apply Good.foldl_fst)
    | (intro x b h; try beta_reduce)
    | (with_reducible apply Good.step (State.enterStage_good ..))
    | (with_reducible apply Good.step (State.gateIdleHigh_good ..))
    | (with_reducible apply Good.step (State.holdContexts_good ..))
    | (with_reducible apply Good.step (State.leaveStage_good ..))
    | (with_reducible apply Good.step (State.shedMutes_good ..))
    | exact rfl
    | (with_reducible apply Good.upd_sup)

theorem State.setSup_good : ∀ s a1, Good 4503599627370496 s (State.setSup s a1) := by
  intro s a1
  unfold State.setSup
  repeat' first
    | with_reducible exact Good.refl
    | with_reducible assumption
    | exact rfl
    | (with_reducible apply Good.upd_sup)

theorem State.stageForce_good : ∀ s a1, Good 4503609291046913 s (State.stageForce s a1) := by
  intro s a1
  unfold State.stageForce
  repeat' first
    | with_reducible exact Good.refl
    | with_reducible assumption
    | (extract_lets +onlyGivenNames x; (have ht : type_of% x = State := rfl); clear ht; refine Good.cut (x := x) ?_ ?_; (on_goal 1 => (unfold x; clear x)); (on_goal 2 => intro hx; clear_value x))
    | (extract_lets +onlyGivenNames x; clear_value x)
    | with_reducible apply Good.ite
    | (with_reducible apply Good.foldl)
    | (with_reducible apply Good.foldl_snd)
    | (with_reducible apply Good.foldl_fst)
    | (intro x b h; try beta_reduce)
    | (with_reducible apply Good.step (State.bump_good ..))
    | (with_reducible apply Good.step (State.evSupply_good ..))
    | (with_reducible apply Good.step (State.setSup_good ..))
    | (with_reducible apply Good.step (State.wr_good ..))
    | (with_reducible apply Good.step (State.wr64_good ..))
    | exact rfl
    | split

theorem State.evaluate_good : ∀ s a1 a2, Good 4503599627370497 s (State.evaluate s a1 a2) := by
  intro s a1 a2
  unfold State.evaluate
  repeat' first
    | with_reducible exact Good.refl
    | with_reducible assumption
    | (extract_lets +onlyGivenNames x; (have ht : type_of% x = State := rfl); clear ht; refine Good.cut (x := x) ?_ ?_; (on_goal 1 => (unfold x; clear x)); (on_goal 2 => intro hx; clear_value x))
    | (extract_lets +onlyGivenNames x; clear_value x)
    | with_reducible apply Good.ite
    | (with_reducible apply Good.step (State.flag_good ..))
    | (with_reducible apply Good.step (State.setSup_good ..))
    | (with_reducible apply Good.step (State.wr_good ..))
    | exact rfl
    | split

theorem State.supplyBoundary_good : ∀ s a1 a2 a3, Good 6758020518261763 s (State.supplyBoundary s a1 a2 a3) := by
  intro s a1 a2 a3
  unfold State.supplyBoundary
  repeat' first
    | with_reducible exact Good.refl
    | with_reducible assumption
    | (extract_lets +onlyGivenNames x; clear_value x)
    | with_reducible apply Good.ite
    | (with_reducible apply Good.step (State.applyStages_good ..))
    | (with_reducible apply Good.step (State.evaluate_good ..))
    | (with_reducible apply Good.step (State.stageForce_good ..))
    | (with_reducible apply Good.step (State.wr_good ..))
    | exact rfl
    | split

theorem execMainsDebounce_good : ∀ a0 a1 s, GoodO 4503599627370505 s (execMainsDebounce a0 a1 s) := by
  intro a0 a1 s
  unfold execMainsDebounce
  repeat' first
    | with_reducible exact Good.refl
    | with_reducible assumption
    | (extract_lets +onlyGivenNames x; (have ht : type_of% x = State := rfl); clear ht; refine GoodO.cut (x := x) ?_ ?_; (on_goal 1 => (unfold x; clear x)); (on_goal 2 => intro hx; clear_value x))
    | (extract_lets +onlyGivenNames x; clear_value x)
    | with_reducible apply GoodO.next
    | with_reducible apply GoodO.ite
    | with_reducible apply Good.ite
    | (with_reducible apply Good.step (State.atRaw_good ..))
    | (with_reducible apply Good.step (State.bump_good ..))
    | (with_reducible apply Good.step (State.flag_good ..))
    | (with_reducible apply Good.step (State.setSup_good ..))
    | (with_reducible apply Good.step (State.wr_good ..))
    | exact rfl

theorem execBrownout_good : ∀ a0 s, GoodO 4503609297338377 s (execBrownout a0 s) := by
  intro a0 s
  unfold execBrownout
  repeat' first
    | with_reducible exact Good.refl
    | with_reducible assumption
    | (extract_lets +onlyGivenNames x; (have ht : type_of% x = State := rfl); clear ht; refine GoodO.cut (x := x) ?_ ?_; (on_goal 1 => (unfold x; clear x)); (on_goal 2 => intro hx; clear_value x))
    | (extract_lets +onlyGivenNames x; (have ht : type_of% x = State := rfl); clear ht; refine Good.cut (x := x) ?_ ?_; (on_goal 1 => (unfold x; clear x)); (on_goal 2 => intro hx; clear_value x))
    | (extract_lets +onlyGivenNames x; clear_value x)
    | with_reducible apply GoodO.next
    | with_reducible apply GoodO.ite
    | with_reducible apply Good.ite
    | (with_reducible apply Good.step (State.atRaw_good ..))
    | (with_reducible apply Good.step (State.bump_good ..))
    | (with_reducible apply Good.step (State.evSupply_good ..))
    | (with_reducible apply Good.step (State.flag_good ..))
    | (with_reducible apply Good.step (State.setSup_good ..))
    | (with_reducible apply Good.step (State.shedChannels_good ..))
    | (with_reducible apply Good.step (State.wr_good ..))
    | (with_reducible apply Good.step (State.wr64_good ..))
    | exact rfl

end Sys2Proof.Machine
end

