-- ==== Sys2Proof/Laws/KeepCellar.lean ====
section
/-! SUPPORT. What each operation of Machine/Cellar.lean changes, and that it keeps what every operation keeps. -/

-- One proof at a time: the package as one text then takes less memory.
set_option Elab.async false

namespace Sys2Proof.Machine

open Sys2Proof

theorem State.busError_good : ∀ s a1 a2 a3 a4 a5, Good 1 s (State.busError s a1 a2 a3 a4 a5) := by
  intro s a1 a2 a3 a4 a5
  unfold State.busError
  repeat' first
    | with_reducible exact Good.refl
    | with_reducible assumption
    | (extract_lets +onlyGivenNames x; (have ht : type_of% x = State := rfl); clear ht; refine Good.cut (x := x) ?_ ?_; (on_goal 1 => (unfold x; clear x)); (on_goal 2 => intro hx; clear_value x))
    | with_reducible apply Good.ite
    | (with_reducible apply Good.step (State.bump_good ..))
    | (with_reducible apply Good.step (State.flag_good ..))
    | (with_reducible apply Good.step (State.wr_good ..))
    | exact rfl

theorem State.clearErrors_good : ∀ s, Good 1 s (State.clearErrors s) := by
  intro s
  unfold State.clearErrors
  repeat' first
    | with_reducible exact Good.refl
    | with_reducible assumption
    | (with_reducible apply Good.step (State.wr_good ..))
    | exact rfl

theorem execFabErrinfoRead_good : ∀ s, GoodO 1 s (execFabErrinfoRead s) := by
  intro s
  unfold execFabErrinfoRead
  repeat' first
    | with_reducible exact Good.refl
    | with_reducible assumption
    | with_reducible apply GoodO.next
    | with_reducible apply GoodO.ite
    | (with_reducible apply Good.step (State.clearErrors_good ..))
    | exact rfl

theorem State.writeRemap_good : ∀ s a1, Good 1 s (State.writeRemap s a1) := by
  intro s a1
  unfold State.writeRemap
  repeat' first
    | with_reducible exact Good.refl
    | with_reducible assumption
    | (extract_lets +onlyGivenNames x; (have ht : type_of% x = State := rfl); clear ht; refine Good.cut (x := x) ?_ ?_; (on_goal 1 => (unfold x; clear x)); (on_goal 2 => intro hx; clear_value x))
    | with_reducible apply Good.ite
    | (with_reducible apply Good.step (State.flag_good ..))
    | (with_reducible refine Good.when (fun y hy => ?_) ?_)
    | (with_reducible apply Good.step (State.wr_good ..))
    | exact rfl

theorem execSysRemapSwap_good : ∀ a0 s, GoodO 1 s (execSysRemapSwap a0 s) := by
  intro a0 s
  unfold execSysRemapSwap
  repeat' first
    | with_reducible exact Good.refl
    | with_reducible assumption
    | with_reducible apply GoodO.next
    | with_reducible apply GoodO.ite
    | (with_reducible apply Good.step (State.writeRemap_good ..))
    | exact rfl

theorem State.dramArrive_good : ∀ s a1, Good 562949953421313 s (State.dramArrive s a1) := by
  intro s a1
  unfold State.dramArrive
  repeat' first
    | with_reducible exact Good.refl
    | with_reducible assumption
    | (extract_lets +onlyGivenNames x; clear_value x)
    | with_reducible apply Good.ite
    | (with_reducible apply Good.step (State.busError_good ..))
    | exact rfl
    | (with_reducible apply Good.upd_cel)

theorem State.dramServe_good : ∀ s, Good 562949953421345 s (State.dramServe s) := by
  intro s
  unfold State.dramServe
  repeat' first
    | with_reducible exact Good.refl
    | with_reducible assumption
    | (extract_lets +onlyGivenNames x; (have ht : type_of% x = State := rfl); clear ht; refine Good.cut (x := x) ?_ ?_; (on_goal 1 => (unfold x; clear x)); (on_goal 2 => intro hx; clear_value x))
    | (extract_lets +onlyGivenNames x; clear_value x)
    | with_reducible apply Good.ite
    | (with_reducible apply Good.step (State.bump_good ..))
    | (with_reducible apply Good.step (State.fresh_good ..))
    | (with_reducible refine Good.when (fun y hy => ?_) ?_)
    | exact rfl
    | split
    | (with_reducible apply Good.upd_cel)

theorem State.dramServeN_good : ∀ s a1, Good 562949953421345 s (State.dramServeN s a1) := by
  intro s a1
  induction a1 generalizing s with
  | zero => exact Good.refl
  | succ n ih =>
    unfold State.dramServeN
    repeat' first
      | with_reducible exact Good.refl
      | with_reducible assumption
      | (with_reducible apply Good.step (ih ..))
      | (with_reducible apply Good.step (State.dramServe_good ..))
      | exact rfl

theorem State.setFab_good : ∀ s a1 a2, Good 1125899906842624 s (State.setFab s a1 a2) := by
  intro s a1 a2
  unfold State.setFab
  repeat' first
    | with_reducible exact Good.refl
    | with_reducible assumption
    | exact rfl
    | (with_reducible apply Good.upd_fab)

theorem State.fabGrant_good : ∀ s a1, Good 1125899906842625 s (State.fabGrant s a1).2 := by
  intro s a1
  unfold State.fabGrant
  repeat' first
    | with_reducible exact Good.refl
    | with_reducible assumption
    | (extract_lets +onlyGivenNames x; clear_value x)
    | (with_reducible apply Good.step (State.count_good ..))
    | (with_reducible apply Good.step (State.setFab_good ..))
    | dsimp -zeta only
    | exact rfl
    | split

theorem State.fabServe_good : ∀ s a1, Good 1688849860263937 s (State.fabServe s a1).2 := by
  intro s a1
  unfold State.fabServe
  repeat' first
    | with_reducible exact Good.refl
    | with_reducible assumption
    | (extract_lets +onlyGivenNames x; (have ht : type_of% x.2 = State := rfl); clear ht; refine Good.cut (x := x.2) ?_ ?_; (on_goal 1 => (unfold x; clear x)); (on_goal 2 => intro hx; clear_value x))
    | (with_reducible apply Good.step (State.dramArrive_good ..))
    | (with_reducible apply Good.step (State.fabGrant_good ..))
    | (refine Good.snd ‹_› ?_)
    | dsimp -zeta only
    | exact rfl
    | split

theorem State.fabServeN_good : ∀ s a1 a2, Good 1688849860263937 s (State.fabServeN s a1 a2) := by
  intro s a1 a2
  induction a2 generalizing s a1 with
  | zero => exact Good.refl
  | succ n ih =>
    unfold State.fabServeN
    repeat' first
      | with_reducible exact Good.refl
      | with_reducible assumption
      | (with_reducible apply Good.step (ih ..))
      | (with_reducible apply Good.step (State.fabServe_good ..))
      | (refine Good.snd ‹_› ?_)
      | exact rfl

theorem State.fabAsk_good : ∀ s a1 a2, Good 1125899906842624 s (State.fabAsk s a1 a2) := by
  intro s a1 a2
  unfold State.fabAsk
  repeat' first
    | with_reducible exact Good.refl
    | with_reducible assumption
    | (extract_lets +onlyGivenNames x; clear_value x)
    | (with_reducible apply Good.step (State.setFab_good ..))
    | exact rfl

theorem State.fabUntil_good : ∀ s a1 a2, Good 1688849860263937 s (State.fabUntil s a1 a2) := by
  intro s a1 a2
  induction a2 generalizing s a1 with
  | zero => exact Good.refl
  | succ n ih =>
    unfold State.fabUntil
    repeat' first
      | with_reducible exact Good.refl
      | with_reducible assumption
      | (with_reducible apply Good.step (ih ..))
      | (extract_lets +onlyGivenNames x; (have ht : type_of% x.2 = State := rfl); clear ht; refine Good.cut (x := x.2) ?_ ?_; (on_goal 1 => (unfold x; clear x)); (on_goal 2 => intro hx; clear_value x))
      | (with_reducible apply Good.step (State.fabServe_good ..))
      | (refine Good.snd ‹_› ?_)
      | exact rfl
      | split

theorem State.fabUse_good : ∀ s a1 a2, Good 1688849860263937 s (State.fabUse s a1 a2) := by
  intro s a1 a2
  unfold State.fabUse
  repeat' first
    | with_reducible exact Good.refl
    | with_reducible assumption
    | (with_reducible apply Good.step (State.fabAsk_good ..))
    | (with_reducible apply Good.step (State.fabUntil_good ..))
    | exact rfl
    | split

theorem State.dramArriveAll_good : ∀ s a1, Good 562949953421313 s (State.dramArriveAll s a1) := by
  intro s a1
  unfold State.dramArriveAll
  repeat' first
    | with_reducible exact Good.refl
    | with_reducible assumption
    | (with_reducible apply Good.foldl)
    | (with_reducible apply Good.foldl_snd)
    | (with_reducible apply Good.foldl_fst)
    | (intro x b h; try beta_reduce)
    | (with_reducible apply Good.step (State.dramArrive_good ..))
    | exact rfl

theorem execDramRequest_good : ∀ a0 a1 a2 a3 s, GoodO 1688849860263977 s (execDramRequest a0 a1 a2 a3 s) := by
  intro a0 a1 a2 a3 s
  unfold execDramRequest
  repeat' first
    | with_reducible exact Good.refl
    | with_reducible assumption
    | (extract_lets +onlyGivenNames x; (have ht : type_of% x = State := rfl); clear ht; refine GoodO.cut (x := x) ?_ ?_; (on_goal 1 => (unfold x; clear x)); (on_goal 2 => intro hx; clear_value x))
    | (extract_lets +onlyGivenNames x; (have ht : type_of% x = State := rfl); clear ht; refine Good.cut (x := x) ?_ ?_; (on_goal 1 => (unfold x; clear x)); (on_goal 2 => intro hx; clear_value x))
    | with_reducible apply GoodO.next
    | with_reducible apply GoodO.ite
    | with_reducible apply Good.ite
    | (with_reducible apply Good.foldl)
    | (with_reducible apply Good.foldl_snd)
    | (with_reducible apply Good.foldl_fst)
    | (intro x b h; try beta_reduce)
    | (with_reducible apply Good.step (State.atRaw_good ..))
    | (with_reducible apply Good.step (State.dramArriveAll_good ..))
    | (with_reducible apply Good.step (State.dramServeN_good ..))
    | (with_reducible apply Good.step (State.fabAsk_good ..))
    | (with_reducible apply Good.step (State.fabServeN_good ..))
    | exact rfl

theorem execRowIdleClose_good : ∀ a0 a1 a2 s, GoodO 562949953421320 s (execRowIdleClose a0 a1 a2 s) := by
  intro a0 a1 a2 s
  unfold execRowIdleClose
  repeat' first
    | with_reducible exact Good.refl
    | with_reducible assumption
    | (extract_lets +onlyGivenNames x; (have ht : type_of% x = State := rfl); clear ht; refine GoodO.cut (x := x) ?_ ?_; (on_goal 1 => (unfold x; clear x)); (on_goal 2 => intro hx; clear_value x))
    | (extract_lets +onlyGivenNames x; clear_value x)
    | with_reducible apply GoodO.next
    | with_reducible apply GoodO.ite
    | with_reducible apply Good.ite
    | (with_reducible apply Good.step (State.atRaw_good ..))
    | exact rfl
    | (with_reducible apply Good.upd_cel)

theorem execRefresh_good : ∀ a0 a1 s, GoodO 562949953421321 s (execRefresh a0 a1 s) := by
  intro a0 a1 s
  unfold execRefresh
  repeat' first
    | with_reducible exact Good.refl
    | with_reducible assumption
    | (extract_lets +onlyGivenNames x; (have ht : type_of% x = State := rfl); clear ht; refine GoodO.cut (x := x) ?_ ?_; (on_goal 1 => (unfold x; clear x)); (on_goal 2 => intro hx; clear_value x))
    | (extract_lets +onlyGivenNames x; clear_value x)
    | with_reducible apply GoodO.next
    | with_reducible apply GoodO.ite
    | with_reducible apply Good.ite
    | (with_reducible apply Good.step (State.atRaw_good ..))
    | (with_reducible apply Good.step (State.bump_good ..))
    | (with_reducible apply Good.step (State.countPanic_good ..))
    | exact rfl
    | (with_reducible apply Good.upd_cel)

theorem State.delayStep_good : ∀ s a1, Good 562949953421312 s (State.delayStep s a1) := by
  intro s a1
  unfold State.delayStep
  repeat' first
    | with_reducible exact Good.refl
    | with_reducible assumption
    | (extract_lets +onlyGivenNames x; clear_value x)
    | exact rfl
    | (with_reducible apply Good.upd_cel)

theorem execDqsOscillatorRead_good : ∀ a0 a1 a2 s, GoodO 562949953421320 s (execDqsOscillatorRead a0 a1 a2 s) := by
  intro a0 a1 a2 s
  unfold execDqsOscillatorRead
  repeat' first
    | with_reducible exact Good.refl
    | with_reducible assumption
    | (extract_lets +onlyGivenNames x; (have ht : type_of% x = State := rfl); clear ht; refine GoodO.cut (x := x) ?_ ?_; (on_goal 1 => (unfold x; clear x)); (on_goal 2 => intro hx; clear_value x))
    | (extract_lets +onlyGivenNames x; (have ht : type_of% x = State := rfl); clear ht; refine Good.cut (x := x) ?_ ?_; (on_goal 1 => (unfold x; clear x)); (on_goal 2 => intro hx; clear_value x))
    | with_reducible apply GoodO.next
    | with_reducible apply GoodO.ite
    | with_reducible apply Good.ite
    | (with_reducible apply Good.step (State.atRaw_good ..))
    | (with_reducible apply Good.step (State.delayStep_good ..))
    | (with_reducible refine Good.when (fun y hy => ?_) ?_)
    | exact rfl

theorem State.retrainStart_good : ∀ s a1, Good 562949953421313 s (State.retrainStart s a1) := by
  intro s a1
  unfold State.retrainStart
  repeat' first
    | with_reducible exact Good.refl
    | with_reducible assumption
    | (extract_lets +onlyGivenNames x; clear_value x)
    | with_reducible apply Good.ite
    | (with_reducible apply Good.step (State.flag_good ..))
    | exact rfl
    | (with_reducible apply Good.upd_cel)

theorem execTrainReq_good : ∀ a0 s, GoodO 562949953421321 s (execTrainReq a0 s) := by
  intro a0 s
  unfold execTrainReq
  repeat' first
    | with_reducible exact Good.refl
    | with_reducible assumption
    | with_reducible apply GoodO.next
    | with_reducible apply GoodO.ite
    | with_reducible apply Good.ite
    | (with_reducible apply Good.step (State.atRaw_good ..))
    | (with_reducible apply Good.step (State.retrainStart_good ..))
    | exact rfl

theorem State.retrainEnd_good : ∀ s a1 a2, Good 562959617097729 s (State.retrainEnd s a1 a2) := by
  intro s a1 a2
  unfold State.retrainEnd
  repeat' first
    | with_reducible exact Good.refl
    | with_reducible assumption
    | (extract_lets +onlyGivenNames x; (have ht : type_of% x = State := rfl); clear ht; refine Good.cut (x := x) ?_ ?_; (on_goal 1 => (unfold x; clear x)); (on_goal 2 => intro hx; clear_value x))
    | (extract_lets +onlyGivenNames x; clear_value x)
    | (with_reducible apply Good.step (State.bump_good ..))
    | (with_reducible apply Good.step (State.endLong_good ..))
    | (with_reducible apply Good.step (State.wr_good ..))
    | exact rfl
    | split
    | (with_reducible apply Good.upd_cel)

theorem execRetrainStep_good : ∀ a0 a1 a2 s, GoodO 562959617097737 s (execRetrainStep a0 a1 a2 s) := by
  intro a0 a1 a2 s
  unfold execRetrainStep
  repeat' first
    | with_reducible exact Good.refl
    | with_reducible assumption
    | (extract_lets +onlyGivenNames x; (have ht : type_of% x = State := rfl); clear ht; refine GoodO.cut (x := x) ?_ ?_; (on_goal 1 => (unfold x; clear x)); (on_goal 2 => intro hx; clear_value x))
    | (extract_lets +onlyGivenNames x; clear_value x)
    | with_reducible apply GoodO.next
    | with_reducible apply GoodO.ite
    | with_reducible apply Good.ite
    | (with_reducible apply Good.step (State.atRaw_good ..))
    | (with_reducible apply Good.step (State.delayStep_good ..))
    | (with_reducible apply Good.step (State.retrainEnd_good ..))
    | exact rfl
    | split
    | (with_reducible apply Good.upd_cel)

theorem execRetrainTimeout_good : ∀ a0 s, GoodO 562959617097737 s (execRetrainTimeout a0 s) := by
  intro a0 s
  unfold execRetrainTimeout
  repeat' first
    | with_reducible exact Good.refl
    | with_reducible assumption
    | (extract_lets +onlyGivenNames x; (have ht : type_of% x = State := rfl); clear ht; refine GoodO.cut (x := x) ?_ ?_; (on_goal 1 => (unfold x; clear x)); (on_goal 2 => intro hx; clear_value x))
    | (extract_lets +onlyGivenNames x; (have ht : type_of% x = State := rfl); clear ht; refine Good.cut (x := x) ?_ ?_; (on_goal 1 => (unfold x; clear x)); (on_goal 2 => intro hx; clear_value x))
    | with_reducible apply GoodO.next
    | with_reducible apply GoodO.ite
    | with_reducible apply Good.ite
    | (with_reducible apply Good.step (State.atRaw_good ..))
    | (with_reducible apply Good.step (State.retrainEnd_good ..))
    | exact rfl
    | split

theorem execTrainingComplete_good : ∀ a0 a1 a2 s, GoodO 9 s (execTrainingComplete a0 a1 a2 s) := by
  intro a0 a1 a2 s
  unfold execTrainingComplete
  repeat' first
    | with_reducible exact Good.refl
    | with_reducible assumption
    | (extract_lets +onlyGivenNames x; (have ht : type_of% x = State := rfl); clear ht; refine GoodO.cut (x := x) ?_ ?_; (on_goal 1 => (unfold x; clear x)); (on_goal 2 => intro hx; clear_value x))
    | (extract_lets +onlyGivenNames x; clear_value x)
    | with_reducible apply GoodO.next
    | with_reducible apply GoodO.ite
    | with_reducible apply Good.ite
    | (with_reducible apply Good.step (State.atRaw_good ..))
    | (with_reducible apply Good.step (State.wr_good ..))
    | exact rfl

theorem execPowerDownIdle_good : ∀ a0 a1 s, GoodO 562949953421320 s (execPowerDownIdle a0 a1 s) := by
  intro a0 a1 s
  unfold execPowerDownIdle
  repeat' first
    | with_reducible exact Good.refl
    | with_reducible assumption
    | (extract_lets +onlyGivenNames x; (have ht : type_of% x = State := rfl); clear ht; refine GoodO.cut (x := x) ?_ ?_; (on_goal 1 => (unfold x; clear x)); (on_goal 2 => intro hx; clear_value x))
    | (extract_lets +onlyGivenNames x; clear_value x)
    | with_reducible apply GoodO.next
    | with_reducible apply GoodO.ite
    | with_reducible apply Good.ite
    | (with_reducible apply Good.step (State.atRaw_good ..))
    | exact rfl
    | (with_reducible apply Good.upd_cel)

end Sys2Proof.Machine
end

