-- ==== Sys2Proof/Laws/KeepCommit.lean ====
section
/-! SUPPORT. What each operation of Machine/Commit.lean changes, and that it keeps what every operation keeps. -/

-- One proof at a time: the package as one text then takes less memory.
set_option Elab.async false

namespace Sys2Proof.Machine

open Sys2Proof

theorem State.setReg_good : ∀ s a1 a2, Good 1 s (State.setReg s a1 a2) := by
  intro s a1 a2
  exact Good.upd_reg rfl Cells.wf_set Good.refl

theorem State.committed_good : ∀ s, Good 1052673 s (State.committed s) := by
  intro s
  unfold State.committed
  repeat' first
    | with_reducible exact Good.refl
    | with_reducible assumption
    | (extract_lets +onlyGivenNames x; clear_value x)
    | with_reducible apply Good.ite
    | (with_reducible apply Good.foldl)
    | (with_reducible apply Good.foldl_snd)
    | (with_reducible apply Good.foldl_fst)
    | (intro x b h; try beta_reduce)
    | (with_reducible apply Good.step (State.setFlow_good ..))
    | (with_reducible apply Good.step (State.setReg_good ..))
    | exact rfl
    | split
    | (with_reducible apply Good.upd_bound)

theorem State.budgetEvent_good : ∀ s a1, Good 9663676417 s (State.budgetEvent s a1) := by
  intro s a1
  unfold State.budgetEvent
  repeat' first
    | with_reducible exact Good.refl
    | with_reducible assumption
    | (with_reducible apply Good.step (State.eventAll_good ..))
    | exact rfl

theorem State.showBudget_good : ∀ s, Good 9663676417 s (State.showBudget s) := by
  intro s
  unfold State.showBudget
  repeat' first
    | with_reducible exact Good.refl
    | with_reducible assumption
    | with_reducible apply Good.ite
    | (with_reducible apply Good.step (State.budgetEvent_good ..))
    | (with_reducible apply Good.step (State.flag_good ..))
    | (with_reducible apply Good.step (State.wr_good ..))
    | exact rfl

theorem State.setLongMap_good : ∀ s a1, Good 2049 s (State.setLongMap s a1) := by
  intro s a1
  unfold State.setLongMap
  repeat' first
    | with_reducible exact Good.refl
    | with_reducible assumption
    | (extract_lets +onlyGivenNames x; (have ht : type_of% x = State := rfl); clear ht; refine Good.cut (x := x) ?_ ?_; (on_goal 1 => (unfold x; clear x)); (on_goal 2 => intro hx; clear_value x))
    | (extract_lets +onlyGivenNames x; clear_value x)
    | with_reducible apply Good.ite
    | (with_reducible apply Good.foldl)
    | (with_reducible apply Good.foldl_snd)
    | (with_reducible apply Good.foldl_fst)
    | (intro x b h; try beta_reduce)
    | (with_reducible apply Good.step (State.wrNewest_good ..))
    | exact rfl

theorem State.raiseMaxlen_good : ∀ s a1 a2, Good 1 s (State.raiseMaxlen s a1 a2) := by
  intro s a1 a2
  unfold State.raiseMaxlen
  repeat' first
    | with_reducible exact Good.refl
    | with_reducible assumption
    | with_reducible apply Good.ite
    | (with_reducible apply Good.step (State.wr_good ..))
    | exact rfl

theorem State.giveRings_good : ∀ s a1, Good 2561 s (State.giveRings s a1) := by
  intro s a1
  unfold State.giveRings
  repeat' first
    | with_reducible exact Good.refl
    | with_reducible assumption
    | (with_reducible apply Good.step (State.assignRings_good ..))
    | (with_reducible apply Good.step (State.setLongMap_good ..))
    | exact rfl

theorem State.afterCommit_good : ∀ s, Good 9664729089 s (State.afterCommit s) := by
  intro s
  unfold State.afterCommit
  repeat' first
    | with_reducible exact Good.refl
    | with_reducible assumption
    | with_reducible apply Good.ite
    | (with_reducible apply Good.step (State.committed_good ..))
    | (with_reducible apply Good.step (State.showBudget_good ..))
    | exact rfl

end Sys2Proof.Machine
end

