-- ==== Sys2Proof/Laws/KeepBoot.lean ====
section
/-! SUPPORT. What each operation of Machine/Boot.lean changes, and that it keeps what every operation keeps. -/

-- One proof at a time: the package as one text then takes less memory.
set_option Elab.async false

namespace Sys2Proof.Machine

open Sys2Proof

theorem cellsOver_wf {n o : Cells Nat} (h : Cells.wf 0 o = true) : Cells.wf 0 (cellsOver n o) = true :=
  Cells.wf_foldl (fun _ _ h => Cells.wf_set h) h

theorem Otp.burn_le (o : Otp) (r g : Nat) : Otp.le o (o.burn r g) :=
  ⟨rfl, Nat.le_max_left _ _, fun i h => by rw [Otp.burn, Nat.testBit_lor, h, Bool.true_or], id⟩

theorem State.quiet_good : ∀ s, Good 3 s (State.quiet s) := by
  intro s
  unfold State.quiet
  repeat' first
    | with_reducible exact Good.refl
    | with_reducible assumption
    | (extract_lets +onlyGivenNames x; (have ht : type_of% x = State := rfl); clear ht; refine Good.cut (x := x) ?_ ?_; (on_goal 1 => (unfold x; clear x)); (on_goal 2 => intro hx; clear_value x))
    | (with_reducible apply Good.step (State.wr_good ..))
    | (with_reducible apply Good.step (State.wrLive_good ..))
    | exact rfl

theorem State.loadConfig_good : ∀ s a1, Good 4432424080643 s (State.loadConfig s a1) := by
  intro s a1
  unfold State.loadConfig
  repeat' first
    | with_reducible exact Good.refl
    | with_reducible assumption
    | exact cellsOver_wf
    | exact cellsOver_wf rfl
    | (extract_lets +onlyGivenNames x; (have ht : type_of% x = State := rfl); clear ht; refine Good.cut (x := x) ?_ ?_; (on_goal 1 => (unfold x; clear x)); (on_goal 2 => intro hx; clear_value x))
    | (extract_lets +onlyGivenNames x; clear_value x)
    | (with_reducible apply Good.step (State.quiet_good ..))
    | exact rfl
    | (with_reducible apply Good.upd_geo_mix_ost_bound_ptp_enrol_triggers)
    | (with_reducible apply Good.upd_regs_live)

theorem State.showOtp_good : ∀ s, Good 1 s (State.showOtp s) := by
  intro s
  unfold State.showOtp
  repeat' first
    | with_reducible exact Good.refl
    | with_reducible assumption
    | (extract_lets +onlyGivenNames x; (have ht : type_of% x = State := rfl); clear ht; refine Good.cut (x := x) ?_ ?_; (on_goal 1 => (unfold x; clear x)); (on_goal 2 => intro hx; clear_value x))
    | (with_reducible apply Good.step (State.wr_good ..))
    | (with_reducible apply Good.step (State.wr64_good ..))
    | exact rfl

theorem State.showStraps_good : ∀ s, Good 1 s (State.showStraps s) := by
  intro s
  unfold State.showStraps
  repeat' first
    | with_reducible exact Good.refl
    | with_reducible assumption
    | (extract_lets +onlyGivenNames x; (have ht : type_of% x = State := rfl); clear ht; refine Good.cut (x := x) ?_ ?_; (on_goal 1 => (unfold x; clear x)); (on_goal 2 => intro hx; clear_value x))
    | (extract_lets +onlyGivenNames x; clear_value x)
    | (with_reducible apply Good.step (State.wr_good ..))
    | exact rfl

theorem State.resetKept_good : ∀ s x, Good 18013230278377439 s (State.resetKept s x) := by
  intro s x
  exact ⟨fun p hp => by cases p <;> first | exact rfl | exact absurd hp (by decide), fun _ => rfl,
    fun _ => rfl, fun _ => rfl, Nat.le_refl _, Otp.le_refl _⟩

theorem State.resetDevice_good : ∀ s a1 a2, Good 18013230278377439 s (State.resetDevice s a1 a2) := by
  intro s a1 a2
  unfold State.resetDevice
  repeat' first
    | with_reducible exact Good.refl
    | with_reducible assumption
    | (extract_lets +onlyGivenNames x; (have ht : type_of% x = State := rfl); clear ht; refine Good.cut (x := x) ?_ ?_; (on_goal 1 => (unfold x; clear x)); (on_goal 2 => intro hx; clear_value x))
    | (with_reducible apply Good.step (State.resetKept_good ..))
    | (with_reducible apply Good.step (State.showOtp_good ..))
    | (with_reducible apply Good.step (State.showStraps_good ..))
    | (with_reducible apply Good.step (State.wr_good ..))
    | exact rfl

theorem execPowerOnReset_good : ∀ a0 a1 s, GoodO 18013230278377439 s (execPowerOnReset a0 a1 s) := by
  intro a0 a1 s
  unfold execPowerOnReset
  repeat' first
    | with_reducible exact Good.refl
    | with_reducible assumption
    | with_reducible apply GoodO.next
    | with_reducible apply GoodO.ite
    | (with_reducible apply Good.step (State.atRaw_good ..))
    | (with_reducible apply Good.step (State.resetDevice_good ..))
    | exact rfl

theorem execExternalReset_good : ∀ a0 a1 s, GoodO 18013230278377439 s (execExternalReset a0 a1 s) := by
  intro a0 a1 s
  unfold execExternalReset
  repeat' first
    | with_reducible exact Good.refl
    | with_reducible assumption
    | with_reducible apply GoodO.next
    | with_reducible apply GoodO.ite
    | (with_reducible apply Good.step (State.atRaw_good ..))
    | (with_reducible apply Good.step (State.resetDevice_good ..))
    | exact rfl

theorem execRailFail_good : ∀ a0 a1 s, GoodO 18013230278377439 s (execRailFail a0 a1 s) := by
  intro a0 a1 s
  unfold execRailFail
  repeat' first
    | with_reducible exact Good.refl
    | with_reducible assumption
    | with_reducible apply GoodO.next
    | with_reducible apply GoodO.ite
    | (with_reducible apply Good.step (State.atRaw_good ..))
    | (with_reducible apply Good.step (State.resetDevice_good ..))
    | exact rfl

theorem execResetDelay_good : ∀ a0 a1 s, GoodO 18013230278377439 s (execResetDelay a0 a1 s) := by
  intro a0 a1 s
  unfold execResetDelay
  repeat' first
    | with_reducible exact Good.refl
    | with_reducible assumption
    | (extract_lets +onlyGivenNames x; (have ht : type_of% x = State := rfl); clear ht; refine GoodO.cut (x := x) ?_ ?_; (on_goal 1 => (unfold x; clear x)); (on_goal 2 => intro hx; clear_value x))
    | (extract_lets +onlyGivenNames x; (have ht : type_of% x = State := rfl); clear ht; refine Good.cut (x := x) ?_ ?_; (on_goal 1 => (unfold x; clear x)); (on_goal 2 => intro hx; clear_value x))
    | with_reducible apply GoodO.next
    | with_reducible apply GoodO.ite
    | with_reducible apply Good.ite
    | (with_reducible apply Good.step (State.atRaw_good ..))
    | (with_reducible apply Good.step (State.resetDevice_good ..))
    | exact rfl
    | split

theorem execBrownoutRecovery_good : ∀ a0 a1 s, GoodO 18013230278377439 s (execBrownoutRecovery a0 a1 s) := by
  intro a0 a1 s
  unfold execBrownoutRecovery
  repeat' first
    | with_reducible exact Good.refl
    | with_reducible assumption
    | (extract_lets +onlyGivenNames x; (have ht : type_of% x = State := rfl); clear ht; refine GoodO.cut (x := x) ?_ ?_; (on_goal 1 => (unfold x; clear x)); (on_goal 2 => intro hx; clear_value x))
    | (extract_lets +onlyGivenNames x; (have ht : type_of% x = State := rfl); clear ht; refine Good.cut (x := x) ?_ ?_; (on_goal 1 => (unfold x; clear x)); (on_goal 2 => intro hx; clear_value x))
    | with_reducible apply GoodO.next
    | with_reducible apply GoodO.ite
    | with_reducible apply Good.ite
    | (with_reducible apply Good.step (State.atRaw_good ..))
    | (with_reducible apply Good.step (State.resetDevice_good ..))
    | exact rfl

theorem State.startDram_good : ∀ s a1, Good 1 s (State.startDram s a1) := by
  intro s a1
  unfold State.startDram
  repeat' first
    | with_reducible exact Good.refl
    | with_reducible assumption
    | (extract_lets +onlyGivenNames x; (have ht : type_of% x = State := rfl); clear ht; refine Good.cut (x := x) ?_ ?_; (on_goal 1 => (unfold x; clear x)); (on_goal 2 => intro hx; clear_value x))
    | (extract_lets +onlyGivenNames x; clear_value x)
    | with_reducible apply Good.ite
    | (with_reducible apply Good.step (State.wr_good ..))
    | exact rfl

theorem State.trySlot_good : ∀ s a1, Good 1 s (State.trySlot s a1).1 := by
  intro s a1
  unfold State.trySlot
  repeat' first
    | with_reducible exact Good.refl
    | with_reducible assumption
    | with_reducible apply Good.ite
    | with_reducible apply Good.ite_fst
    | (with_reducible apply Good.step (State.startDram_good ..))
    | dsimp -zeta only
    | exact rfl

theorem State.slotFailed_good : ∀ s, Good 1 s (State.slotFailed s) := by
  intro s
  unfold State.slotFailed
  repeat' first
    | with_reducible exact Good.refl
    | with_reducible assumption
    | (with_reducible apply Good.step (State.bump_good ..))
    | (with_reducible apply Good.step (State.flag_good ..))
    | exact rfl

theorem State.placeSections_good : ∀ s a1, Good 16 s (State.placeSections s a1) := by
  intro s a1
  unfold State.placeSections
  repeat' first
    | with_reducible exact Good.refl
    | with_reducible assumption
    | (extract_lets +onlyGivenNames x; clear_value x)
    | with_reducible apply Good.ite
    | (with_reducible apply Good.foldl)
    | (with_reducible apply Good.foldl_snd)
    | (with_reducible apply Good.foldl_fst)
    | (intro x b h; try beta_reduce)
    | (with_reducible apply Good.step (State.setBytes_good ..))
    | exact rfl

theorem State.loadDrovers_good : ∀ s, Good 16 s (State.loadDrovers s) := by
  intro s
  unfold State.loadDrovers
  repeat' first
    | with_reducible exact Good.refl
    | with_reducible assumption
    | (extract_lets +onlyGivenNames x; clear_value x)
    | with_reducible apply Good.ite
    | (with_reducible apply Good.foldl)
    | (with_reducible apply Good.foldl_snd)
    | (with_reducible apply Good.foldl_fst)
    | (intro x b h; try beta_reduce)
    | (with_reducible apply Good.step (State.setBytes_good ..))
    | exact rfl
    | split

theorem State.releaseSlot_good : ∀ s a1 a2, Good 9289773743079473 s (State.releaseSlot s a1 a2) := by
  intro s a1 a2
  unfold State.releaseSlot
  repeat' first
    | with_reducible exact Good.refl
    | with_reducible assumption
    | exact Otp.burn_le _ _ _
    | (extract_lets +onlyGivenNames x; (have ht : type_of% x = State := rfl); clear ht; refine Good.cut (x := x) ?_ ?_; (on_goal 1 => (unfold x; clear x)); (on_goal 2 => intro hx; clear_value x))
    | (extract_lets +onlyGivenNames x; clear_value x)
    | (with_reducible apply Good.foldl)
    | (with_reducible apply Good.foldl_snd)
    | (with_reducible apply Good.foldl_fst)
    | (intro x b h; try beta_reduce)
    | (with_reducible apply Good.step (State.flag_good ..))
    | (with_reducible apply Good.step (State.fresh_good ..))
    | (with_reducible apply Good.step (State.placeSections_good ..))
    | (with_reducible apply Good.step (State.setMir_good ..))
    | (with_reducible apply Good.step (State.showOtp_good ..))
    | (with_reducible apply Good.step (State.wr_good ..))
    | exact rfl
    | split
    | (with_reducible apply Good.upd_image)
    | exact Cells.wf_set
    | exact Cells.wf_filter
    | (with_reducible apply Good.upd_otp)

theorem State.startBlocks_good : ∀ s, Good 70368744185873 s (State.startBlocks s) := by
  intro s
  unfold State.startBlocks
  repeat' first
    | with_reducible exact Good.refl
    | with_reducible assumption
    | (extract_lets +onlyGivenNames x; (have ht : type_of% x = State := rfl); clear ht; refine Good.cut (x := x) ?_ ?_; (on_goal 1 => (unfold x; clear x)); (on_goal 2 => intro hx; clear_value x))
    | (with_reducible apply Good.foldl)
    | (with_reducible apply Good.foldl_snd)
    | (with_reducible apply Good.foldl_fst)
    | (intro x b h; try beta_reduce)
    | (with_reducible apply Good.step (State.flag_good ..))
    | (with_reducible apply Good.step (State.loadDrovers_good ..))
    | (with_reducible apply Good.step (State.loadLibrary_good ..))
    | (with_reducible apply Good.step (State.setRot_good ..))
    | (with_reducible apply Good.step (State.setRun_good ..))
    | exact rfl

theorem State.applyConfig_good : ∀ s, Good 9670494721 s (State.applyConfig s) := by
  intro s
  unfold State.applyConfig
  repeat' first
    | with_reducible exact Good.refl
    | with_reducible assumption
    | (extract_lets +onlyGivenNames x; (have ht : type_of% x = State := rfl); clear ht; refine Good.cut (x := x) ?_ ?_; (on_goal 1 => (unfold x; clear x)); (on_goal 2 => intro hx; clear_value x))
    | with_reducible apply Good.ite
    | (with_reducible apply Good.foldl)
    | (with_reducible apply Good.foldl_snd)
    | (with_reducible apply Good.foldl_fst)
    | (intro x b h; try beta_reduce)
    | (with_reducible apply Good.step (State.freqSearch_good ..))
    | (with_reducible apply Good.step (State.giveRings_good ..))
    | (with_reducible apply Good.step (State.portsLoaded_good ..))
    | (with_reducible apply Good.step (State.psConfig_good ..))
    | exact rfl

theorem State.startFirmware_good : ∀ s a1, Good 356285882580755 s (State.startFirmware s a1) := by
  intro s a1
  unfold State.startFirmware
  repeat' first
    | with_reducible exact Good.refl
    | with_reducible assumption
    | (extract_lets +onlyGivenNames x; (have ht : type_of% x = State := rfl); clear ht; refine Good.cut (x := x) ?_ ?_; (on_goal 1 => (unfold x; clear x)); (on_goal 2 => intro hx; clear_value x))
    | (extract_lets +onlyGivenNames x; clear_value x)
    | with_reducible apply Good.ite
    | (with_reducible apply Good.step (State.applyConfig_good ..))
    | (with_reducible apply Good.step (State.flag_good ..))
    | (with_reducible apply Good.step (State.loadConfig_good ..))
    | (with_reducible apply Good.step (State.mirrorEnable_good ..))
    | (with_reducible apply Good.step (State.showBudget_good ..))
    | (with_reducible apply Good.step (State.startBlocks_good ..))
    | (with_reducible apply Good.step (State.wr_good ..))
    | exact rfl
    | split

theorem State.bootRom_good : ∀ s a1 a2 a3, Good 9364584648949555 s (State.bootRom s a1 a2 a3) := by
  intro s a1 a2 a3
  unfold State.bootRom
  repeat' first
    | with_reducible exact Good.refl
    | with_reducible assumption
    | (extract_lets +onlyGivenNames x; clear_value x)
    | with_reducible apply Good.ite
    | (with_reducible apply Good.step (State.releaseSlot_good ..))
    | (with_reducible apply Good.step (State.slotFailed_good ..))
    | (with_reducible apply Good.step (State.startFirmware_good ..))
    | (with_reducible apply Good.step (State.trySlot_good ..))
    | (with_reducible apply Good.step (State.wr_good ..))
    | (refine Good.fst ‹_› ?_)
    | exact rfl

theorem execSupervisorRelease_good : ∀ a0 a1 a2 a3 s, GoodO 9364584648949563 s (execSupervisorRelease a0 a1 a2 a3 s) := by
  intro a0 a1 a2 a3 s
  unfold execSupervisorRelease
  repeat' first
    | with_reducible exact Good.refl
    | with_reducible assumption
    | (extract_lets +onlyGivenNames x; (have ht : type_of% x = State := rfl); clear ht; refine GoodO.cut (x := x) ?_ ?_; (on_goal 1 => (unfold x; clear x)); (on_goal 2 => intro hx; clear_value x))
    | (extract_lets +onlyGivenNames x; (have ht : type_of% x = State := rfl); clear ht; refine Good.cut (x := x) ?_ ?_; (on_goal 1 => (unfold x; clear x)); (on_goal 2 => intro hx; clear_value x))
    | with_reducible apply GoodO.next
    | with_reducible apply GoodO.ite
    | with_reducible apply Good.ite
    | (with_reducible apply Good.step (State.atRaw_good ..))
    | (with_reducible apply Good.step (State.bootRom_good ..))
    | exact rfl

theorem deepRegs_wf (rs : Cells Nat) : Cells.wf 0 (deepRegs rs) = true :=
  Cells.wf_foldl (fun c p h => by
    split
    · exact Cells.wf_set h
    · split
      · exact h
      · exact Cells.wf_set h) rfl

theorem State.deepKept_good : ∀ s, Good 17867510074310495 s (State.deepKept s) := by
  intro s
  exact ⟨fun p hp => by cases p <;> first | exact rfl | exact absurd hp (by decide), fun h => Cells.wf_filter h,
    fun _ => deepRegs_wf _, fun _ => deepRegs_wf _, Nat.le_refl _, Otp.le_refl _⟩

theorem State.leaveDeep_good : ∀ s, Good 17867510074310495 s (State.leaveDeep s) := by
  intro s
  unfold State.leaveDeep
  repeat' first
    | with_reducible exact Good.refl
    | with_reducible assumption
    | (extract_lets +onlyGivenNames x; (have ht : type_of% x = State := rfl); clear ht; refine Good.cut (x := x) ?_ ?_; (on_goal 1 => (unfold x; clear x)); (on_goal 2 => intro hx; clear_value x))
    | (with_reducible apply Good.step (State.applyConfig_good ..))
    | (with_reducible apply Good.step (State.bump_good ..))
    | (with_reducible apply Good.step (State.deepKept_good ..))
    | (with_reducible apply Good.step (State.quiet_good ..))
    | (with_reducible apply Good.step (State.startBlocks_good ..))
    | (with_reducible apply Good.step (State.unwriteSlots_good ..))
    | (with_reducible apply Good.step (State.wr_good ..))
    | exact rfl

theorem execWake_good : ∀ a0 a1 s, GoodO 17867510074310495 s (execWake a0 a1 s) := by
  intro a0 a1 s
  unfold execWake
  repeat' first
    | with_reducible exact Good.refl
    | with_reducible assumption
    | (extract_lets +onlyGivenNames x; (have ht : type_of% x = State := rfl); clear ht; refine GoodO.cut (x := x) ?_ ?_; (on_goal 1 => (unfold x; clear x)); (on_goal 2 => intro hx; clear_value x))
    | (extract_lets +onlyGivenNames x; (have ht : type_of% x = State := rfl); clear ht; refine Good.cut (x := x) ?_ ?_; (on_goal 1 => (unfold x; clear x)); (on_goal 2 => intro hx; clear_value x))
    | (extract_lets +onlyGivenNames x; clear_value x)
    | with_reducible apply GoodO.next
    | with_reducible apply GoodO.ite
    | with_reducible apply Good.ite
    | (with_reducible apply Good.step (State.atRaw_good ..))
    | (with_reducible apply Good.step (State.leaveDeep_good ..))
    | (with_reducible apply Good.step (State.leaveSleep_good ..))
    | (with_reducible apply Good.step (State.wr_good ..))
    | exact rfl
    | split
    | (with_reducible apply Good.upd_clk)

theorem State.setInField_good : ∀ s, Good 1099511627777 s (State.setInField s) := by
  intro s
  exact Good.step (State.flag_good ..) rfl (Good.upd_otp rfl ⟨rfl, Nat.le_refl _, fun _ h => h, fun _ => rfl⟩ Good.refl)

theorem execSetField_good : ∀ a0 s, GoodO 1099511627785 s (execSetField a0 s) := by
  intro a0 s
  unfold execSetField
  repeat' first
    | with_reducible exact Good.refl
    | with_reducible assumption
    | with_reducible apply GoodO.next
    | with_reducible apply GoodO.ite
    | (with_reducible apply Good.step (State.atRaw_good ..))
    | (with_reducible apply Good.step (State.setInField_good ..))
    | exact rfl

end Sys2Proof.Machine
end

