-- ==== Sys2Proof/Laws/KeepSessions.lean ====
section
/-! SUPPORT. What each operation of Machine/Sessions.lean changes, and that it keeps what every operation keeps. -/

-- One proof at a time: the package as one text then takes less memory.
set_option Elab.async false

namespace Sys2Proof.Machine

open Sys2Proof

theorem execSpiWrite_good : ∀ a0 a1 a2 s, GoodO 8589934601 s (execSpiWrite a0 a1 a2 s) := by
  intro a0 a1 a2 s
  unfold execSpiWrite
  repeat' first
    | with_reducible exact Good.refl
    | with_reducible assumption
    | (extract_lets +onlyGivenNames x; (have ht : type_of% x = State := rfl); clear ht; refine GoodO.cut (x := x) ?_ ?_; (on_goal 1 => (unfold x; clear x)); (on_goal 2 => intro hx; clear_value x))
    | (extract_lets +onlyGivenNames x; clear_value x)
    | with_reducible apply GoodO.next
    | with_reducible apply GoodO.ite
    | with_reducible apply Good.ite
    | (with_reducible apply Good.step (State.atRaw_good ..))
    | (with_reducible apply Good.step (State.bump_good ..))
    | (with_reducible apply Good.step (State.setPort_good ..))
    | exact rfl

theorem State.spiPop_good : ∀ s a1, Good 9663676416 s (State.spiPop s a1) := by
  intro s a1
  unfold State.spiPop
  repeat' first
    | with_reducible exact Good.refl
    | with_reducible assumption
    | (extract_lets +onlyGivenNames x; clear_value x)
    | (with_reducible apply Good.step (State.pump_good ..))
    | (with_reducible apply Good.step (State.setPort_good ..))
    | exact rfl
    | split

theorem execSpiRead_good : ∀ a0 a1 s, GoodO 9663676424 s (execSpiRead a0 a1 s) := by
  intro a0 a1 s
  unfold execSpiRead
  repeat' first
    | with_reducible exact Good.refl
    | with_reducible assumption
    | (extract_lets +onlyGivenNames x; (have ht : type_of% x = State := rfl); clear ht; refine GoodO.cut (x := x) ?_ ?_; (on_goal 1 => (unfold x; clear x)); (on_goal 2 => intro hx; clear_value x))
    | (extract_lets +onlyGivenNames x; (have ht : type_of% x = State := rfl); clear ht; refine Good.cut (x := x) ?_ ?_; (on_goal 1 => (unfold x; clear x)); (on_goal 2 => intro hx; clear_value x))
    | with_reducible apply GoodO.next
    | with_reducible apply GoodO.ite
    | with_reducible apply Good.ite
    | (with_reducible apply Good.step (State.atRaw_good ..))
    | (with_reducible apply Good.step (State.spiPop_good ..))
    | exact rfl

theorem execSpiStatus_good : ∀ a0 a1 s, GoodO 8589934600 s (execSpiStatus a0 a1 s) := by
  intro a0 a1 s
  unfold execSpiStatus
  repeat' first
    | with_reducible exact Good.refl
    | with_reducible assumption
    | (extract_lets +onlyGivenNames x; (have ht : type_of% x = State := rfl); clear ht; refine GoodO.cut (x := x) ?_ ?_; (on_goal 1 => (unfold x; clear x)); (on_goal 2 => intro hx; clear_value x))
    | (extract_lets +onlyGivenNames x; clear_value x)
    | with_reducible apply GoodO.next
    | with_reducible apply GoodO.ite
    | with_reducible apply Good.ite
    | (with_reducible apply Good.step (State.atRaw_good ..))
    | (with_reducible apply Good.step (State.setPort_good ..))
    | exact rfl

theorem execHalfOpenTimeout_good : ∀ a0 a1 s, GoodO 2558726766601 s (execHalfOpenTimeout a0 a1 s) := by
  intro a0 a1 s
  unfold execHalfOpenTimeout
  repeat' first
    | with_reducible exact Good.refl
    | with_reducible assumption
    | (extract_lets +onlyGivenNames x; (have ht : type_of% x = State := rfl); clear ht; refine GoodO.cut (x := x) ?_ ?_; (on_goal 1 => (unfold x; clear x)); (on_goal 2 => intro hx; clear_value x))
    | (extract_lets +onlyGivenNames x; clear_value x)
    | with_reducible apply GoodO.next
    | with_reducible apply GoodO.ite
    | with_reducible apply Good.ite
    | (with_reducible apply Good.step (State.atRaw_good ..))
    | (with_reducible apply Good.step (State.closeSession_good ..))
    | exact rfl

theorem execKeepaliveTimeout_good : ∀ a0 a1 s, GoodO 2558726766601 s (execKeepaliveTimeout a0 a1 s) := by
  intro a0 a1 s
  unfold execKeepaliveTimeout
  repeat' first
    | with_reducible exact Good.refl
    | with_reducible assumption
    | (extract_lets +onlyGivenNames x; (have ht : type_of% x = State := rfl); clear ht; refine GoodO.cut (x := x) ?_ ?_; (on_goal 1 => (unfold x; clear x)); (on_goal 2 => intro hx; clear_value x))
    | (extract_lets +onlyGivenNames x; clear_value x)
    | with_reducible apply GoodO.next
    | with_reducible apply GoodO.ite
    | with_reducible apply Good.ite
    | (with_reducible apply Good.step (State.atRaw_good ..))
    | (with_reducible apply Good.step (State.closeSession_good ..))
    | exact rfl

theorem State.replyOpen_good : ∀ s a1 a2 a3 a4, Good 8589934592 s (State.replyOpen s a1 a2 a3 a4) := by
  intro s a1 a2 a3 a4
  unfold State.replyOpen
  repeat' first
    | with_reducible exact Good.refl
    | with_reducible assumption
    | (with_reducible apply Good.step (State.enqueue_good ..))
    | exact rfl

theorem State.openSession_good : ∀ s a1 a2 a3, Good 9663676449 s (State.openSession s a1 a2 a3) := by
  intro s a1 a2 a3
  unfold State.openSession
  repeat' first
    | with_reducible exact Good.refl
    | with_reducible assumption
    | (extract_lets +onlyGivenNames x; (have ht : type_of% x = State := rfl); clear ht; refine Good.cut (x := x) ?_ ?_; (on_goal 1 => (unfold x; clear x)); (on_goal 2 => intro hx; clear_value x))
    | (extract_lets +onlyGivenNames x; clear_value x)
    | with_reducible apply Good.ite
    | (with_reducible apply Good.step (State.fresh_good ..))
    | (with_reducible apply Good.step (State.replyOpen_good ..))
    | (with_reducible apply Good.step (State.setSession_good ..))
    | (with_reducible apply Good.step (State.showOpen_good ..))
    | exact rfl
    | split

theorem execSessionOpen_good : ∀ a0 a1 s, GoodO 2558726766633 s (execSessionOpen a0 a1 s) := by
  intro a0 a1 s
  unfold execSessionOpen
  repeat' first
    | with_reducible exact Good.refl
    | with_reducible assumption
    | (extract_lets +onlyGivenNames x; (have ht : type_of% x = State := rfl); clear ht; refine GoodO.cut (x := x) ?_ ?_; (on_goal 1 => (unfold x; clear x)); (on_goal 2 => intro hx; clear_value x))
    | (extract_lets +onlyGivenNames x; (have ht : type_of% x = State := rfl); clear ht; refine Good.cut (x := x) ?_ ?_; (on_goal 1 => (unfold x; clear x)); (on_goal 2 => intro hx; clear_value x))
    | (extract_lets +onlyGivenNames x; clear_value x)
    | with_reducible apply GoodO.next
    | with_reducible apply GoodO.ite
    | with_reducible apply Good.ite
    | (with_reducible apply Good.step (State.atRaw_good ..))
    | (with_reducible apply Good.step (State.bump_good ..))
    | (with_reducible apply Good.step (State.closeSession_good ..))
    | (with_reducible apply Good.step (State.openSession_good ..))
    | (with_reducible apply Good.step (State.replyOpen_good ..))
    | (with_reducible apply Good.step (State.takeInbound_good ..))
    | (with_reducible refine Good.when (fun y hy => ?_) ?_)
    | exact rfl
    | split

theorem execSessionClose_good : ∀ a0 s, GoodO 2558726766601 s (execSessionClose a0 s) := by
  intro a0 s
  unfold execSessionClose
  repeat' first
    | with_reducible exact Good.refl
    | with_reducible assumption
    | with_reducible apply GoodO.next
    | with_reducible apply GoodO.ite
    | (with_reducible apply Good.step (State.closeSession_good ..))
    | (with_reducible apply State.receive_good)
    | (intro x i; try dsimp -zeta only)
    | dsimp -zeta only
    | (with_reducible apply Good.step (State.reply_good ..))
    | exact rfl

theorem execKeepalive_good : ∀ a0 s, GoodO 9663676425 s (execKeepalive a0 s) := by
  intro a0 s
  unfold execKeepalive
  repeat' first
    | with_reducible exact Good.refl
    | with_reducible assumption
    | with_reducible apply GoodO.next
    | with_reducible apply GoodO.ite
    | (with_reducible apply State.receive_good)
    | (intro x i; try dsimp -zeta only)
    | dsimp -zeta only
    | exact rfl

theorem State.takeRef_good : ∀ s a1 a2, Good 6442450944 s (State.takeRef s a1 a2) := by
  intro s a1 a2
  unfold State.takeRef
  repeat' first
    | with_reducible exact Good.refl
    | with_reducible assumption
    | with_reducible apply Good.ite
    | (with_reducible apply Good.step (State.setOwner_good ..))
    | exact rfl
    | split

theorem State.preemptRefs_good : ∀ s a1 a2, Good 16106127361 s (State.preemptRefs s a1 a2) := by
  intro s a1 a2
  unfold State.preemptRefs
  repeat' first
    | with_reducible exact Good.refl
    | with_reducible assumption
    | (extract_lets +onlyGivenNames x; (have ht : type_of% x = State := rfl); clear ht; refine Good.cut (x := x) ?_ ?_; (on_goal 1 => (unfold x; clear x)); (on_goal 2 => intro hx; clear_value x))
    | (extract_lets +onlyGivenNames x; clear_value x)
    | (with_reducible apply Good.foldl)
    | (with_reducible apply Good.foldl_snd)
    | (with_reducible apply Good.foldl_fst)
    | (intro x b h; try beta_reduce)
    | (with_reducible apply Good.step (State.evOwner_good ..))
    | (with_reducible apply Good.step (State.setSession_good ..))
    | (with_reducible apply Good.step (State.takeRef_good ..))
    | exact rfl

theorem execClaim_good : ∀ a0 a1 s, GoodO 16106127369 s (execClaim a0 a1 s) := by
  intro a0 a1 s
  unfold execClaim
  repeat' first
    | with_reducible exact Good.refl
    | with_reducible assumption
    | (extract_lets +onlyGivenNames x; clear_value x)
    | with_reducible apply GoodO.next
    | with_reducible apply GoodO.ite
    | with_reducible apply Good.ite
    | with_reducible apply Good.ite_fst
    | (with_reducible apply Good.step (State.preemptRefs_good ..))
    | (with_reducible apply State.receive_good)
    | (intro x i; try dsimp -zeta only)
    | dsimp -zeta only
    | exact rfl

theorem execRelease_good : ∀ a0 a1 s, GoodO 16106127369 s (execRelease a0 a1 s) := by
  intro a0 a1 s
  unfold execRelease
  repeat' first
    | with_reducible exact Good.refl
    | with_reducible assumption
    | (extract_lets +onlyGivenNames x; clear_value x)
    | with_reducible apply GoodO.next
    | with_reducible apply GoodO.ite
    | (with_reducible apply State.receive_good)
    | (intro x i; try dsimp -zeta only)
    | dsimp -zeta only
    | (with_reducible apply Good.step (State.releaseRefs_good ..))
    | exact rfl

theorem execPreempt_good : ∀ a0 a1 s, GoodO 16106127369 s (execPreempt a0 a1 s) := by
  intro a0 a1 s
  unfold execPreempt
  repeat' first
    | with_reducible exact Good.refl
    | with_reducible assumption
    | (extract_lets +onlyGivenNames x; clear_value x)
    | with_reducible apply GoodO.next
    | with_reducible apply GoodO.ite
    | (with_reducible apply Good.step (State.preemptRefs_good ..))
    | (with_reducible apply State.receive_good)
    | (intro x i; try dsimp -zeta only)
    | dsimp -zeta only
    | exact rfl

end Sys2Proof.Machine
end

