-- ==== Sys2Proof/Laws/KeepObjects.lean ====
section
/-! SUPPORT. What each operation of Machine/Objects.lean changes, and that it keeps what every operation keeps. -/

-- One proof at a time: the package as one text then takes less memory.
set_option Elab.async false

namespace Sys2Proof.Machine

open Sys2Proof

theorem State.sendGain_good : ∀ s a1 a2 a3 a4 a5, Good 2049 s (State.sendGain s a1 a2 a3 a4 a5) := by
  intro s a1 a2 a3 a4 a5
  unfold State.sendGain
  repeat' first
    | with_reducible exact Good.refl
    | with_reducible assumption
    | (with_reducible apply Good.step (State.later_good ..))
    | (with_reducible apply Good.step (State.wr_good ..))
    | exact rfl

theorem State.sendMute_good : ∀ s a1 a2 a3 a4 a5, Good 2049 s (State.sendMute s a1 a2 a3 a4 a5) := by
  intro s a1 a2 a3 a4 a5
  unfold State.sendMute
  repeat' first
    | with_reducible exact Good.refl
    | with_reducible assumption
    | (with_reducible apply Good.step (State.later_good ..))
    | (with_reducible apply Good.step (State.wr_good ..))
    | exact rfl

theorem State.replaceRoute_good : ∀ s a1, Good 1 s (State.replaceRoute s a1) := by
  intro s a1
  unfold State.replaceRoute
  repeat' first
    | with_reducible exact Good.refl
    | with_reducible assumption
    | with_reducible apply Good.ite
    | (with_reducible apply Good.step (State.bump_good ..))
    | exact rfl

theorem State.acceptObjRoute_good : ∀ s a1 a2 a3, Good 257 s (State.acceptObjRoute s a1 a2 a3) := by
  intro s a1 a2 a3
  unfold State.acceptObjRoute
  repeat' first
    | with_reducible exact Good.refl
    | with_reducible assumption
    | (extract_lets +onlyGivenNames x; clear_value x)
    | with_reducible apply Good.ite
    | (with_reducible apply Good.step (State.replaceRoute_good ..))
    | (with_reducible apply Good.step (State.setObj_good ..))
    | exact rfl

theorem State.acceptObj_good : ∀ s a1 a2 a3 a4, Good 2305 s (State.acceptObj s a1 a2 a3 a4) := by
  intro s a1 a2 a3 a4
  unfold State.acceptObj
  repeat' first
    | with_reducible exact Good.refl
    | with_reducible assumption
    | (extract_lets +onlyGivenNames x; (have ht : type_of% x = State := rfl); clear ht; refine Good.cut (x := x) ?_ ?_; (on_goal 1 => (unfold x; clear x)); (on_goal 2 => intro hx; clear_value x))
    | (with_reducible apply Good.step (State.acceptObjRoute_good ..))
    | (with_reducible apply Good.step (State.later_good ..))
    | exact rfl

theorem State.committedAt_good : ∀ s a1, Good 9664731649 s (State.committedAt s a1) := by
  intro s a1
  unfold State.committedAt
  repeat' first
    | with_reducible exact Good.refl
    | with_reducible assumption
    | (with_reducible apply Good.step (State.afterCommit_good ..))
    | (with_reducible apply Good.step (State.giveRings_good ..))
    | exact rfl

theorem execObjDefine_good : ∀ a0 a1 a2 s, GoodO 9664731913 s (execObjDefine a0 a1 a2 s) := by
  intro a0 a1 a2 s
  unfold execObjDefine
  repeat' first
    | (with_reducible apply Good.step (hg ..))
    | with_reducible exact Good.refl
    | with_reducible assumption
    | (extract_lets +onlyGivenNames x; with_reducible refine GoodO.cutG (x := x) ?_ ?_; (on_goal 1 => (intro z; unfold x; clear x; beta_reduce)); (on_goal 2 => intro hg; clear_value x))
    | (extract_lets +onlyGivenNames x; clear_value x)
    | with_reducible apply GoodO.next
    | with_reducible apply GoodO.ite
    | (with_reducible apply Good.step (State.acceptObj_good ..))
    | (with_reducible apply Good.step (State.committedAt_good ..))
    | (with_reducible apply State.receive_good)
    | (intro x i; try dsimp -zeta only)
    | dsimp -zeta only
    | exact rfl

theorem execObjMove_good : ∀ a0 a1 s, GoodO 9663678729 s (execObjMove a0 a1 s) := by
  intro a0 a1 s
  unfold execObjMove
  repeat' first
    | with_reducible exact Good.refl
    | with_reducible assumption
    | (extract_lets +onlyGivenNames x; clear_value x)
    | with_reducible apply GoodO.next
    | with_reducible apply GoodO.ite
    | (with_reducible apply Good.foldl)
    | (with_reducible apply Good.foldl_snd)
    | (with_reducible apply Good.foldl_fst)
    | (intro x b h; try beta_reduce)
    | (with_reducible apply Good.step (State.later_good ..))
    | (with_reducible apply State.receive_good)
    | (intro x i; try dsimp -zeta only)
    | dsimp -zeta only
    | (with_reducible apply Good.step (State.setObj_good ..))
    | exact rfl

theorem execObjPath_good : ∀ a0 a1 a2 s, GoodO 9663678473 s (execObjPath a0 a1 a2 s) := by
  intro a0 a1 a2 s
  unfold execObjPath
  repeat' first
    | with_reducible exact Good.refl
    | with_reducible assumption
    | (extract_lets +onlyGivenNames x; clear_value x)
    | with_reducible apply GoodO.next
    | with_reducible apply GoodO.ite
    | (with_reducible apply Good.step (State.later_good ..))
    | (with_reducible apply State.receive_good)
    | (intro x i; try dsimp -zeta only)
    | dsimp -zeta only
    | exact rfl

theorem execObjGain_good : ∀ a0 a1 s, GoodO 9663678473 s (execObjGain a0 a1 s) := by
  intro a0 a1 s
  unfold execObjGain
  repeat' first
    | with_reducible exact Good.refl
    | with_reducible assumption
    | (extract_lets +onlyGivenNames x; clear_value x)
    | with_reducible apply GoodO.next
    | with_reducible apply GoodO.ite
    | (with_reducible apply Good.foldl)
    | (with_reducible apply Good.foldl_snd)
    | (with_reducible apply Good.foldl_fst)
    | (intro x b h; try beta_reduce)
    | (with_reducible apply State.receive_good)
    | (intro x i; try dsimp -zeta only)
    | dsimp -zeta only
    | (with_reducible apply Good.step (State.sendGain_good ..))
    | exact rfl

theorem execObjMute_good : ∀ a0 a1 s, GoodO 9663678473 s (execObjMute a0 a1 s) := by
  intro a0 a1 s
  unfold execObjMute
  repeat' first
    | with_reducible exact Good.refl
    | with_reducible assumption
    | (extract_lets +onlyGivenNames x; clear_value x)
    | with_reducible apply GoodO.next
    | with_reducible apply GoodO.ite
    | (with_reducible apply Good.foldl)
    | (with_reducible apply Good.foldl_snd)
    | (with_reducible apply Good.foldl_fst)
    | (intro x b h; try beta_reduce)
    | (with_reducible apply State.receive_good)
    | (intro x i; try dsimp -zeta only)
    | dsimp -zeta only
    | (with_reducible apply Good.step (State.sendMute_good ..))
    | exact rfl

theorem execObjQuery_good : ∀ a0 a1 a2 s, GoodO 9663676425 s (execObjQuery a0 a1 a2 s) := by
  intro a0 a1 a2 s
  unfold execObjQuery
  repeat' first
    | with_reducible exact Good.refl
    | with_reducible assumption
    | with_reducible apply GoodO.next
    | with_reducible apply GoodO.ite
    | (with_reducible apply State.receive_good)
    | (intro x i; try dsimp -zeta only)
    | dsimp -zeta only
    | exact rfl

end Sys2Proof.Machine
end

