-- ==== Sys2Proof/Laws/KeepPortCmds.lean ====
section
/-! SUPPORT. What each operation of Machine/PortCmds.lean changes, and that it keeps what every operation keeps. -/

-- One proof at a time: the package as one text then takes less memory.
set_option Elab.async false

namespace Sys2Proof.Machine

open Sys2Proof

theorem State.regAt_good : ∀ s a1 a2 a3, Good 2048 s (State.regAt s a1 a2 a3) := by
  intro s a1 a2 a3
  unfold State.regAt
  repeat' first
    | with_reducible exact Good.refl
    | with_reducible assumption
    | (with_reducible apply Good.step (State.later_good ..))
    | (with_reducible apply Good.step (State.unsched_good ..))
    | exact rfl

theorem State.mapAt_good : ∀ s a1 a2 a3 a4, Good 2049 s (State.mapAt s a1 a2 a3 a4) := by
  intro s a1 a2 a3 a4
  unfold State.mapAt
  repeat' first
    | with_reducible exact Good.refl
    | with_reducible assumption
    | with_reducible apply Good.ite
    | (with_reducible apply Good.step (State.wrAt_good ..))
    | exact rfl

theorem State.fitMaxlen_good : ∀ s a1 a2, Good 1 s (State.fitMaxlen s a1 a2) := by
  intro s a1 a2
  unfold State.fitMaxlen
  repeat' first
    | with_reducible exact Good.refl
    | with_reducible assumption
    | (with_reducible apply Good.step (State.raiseMaxlen_good ..))
    | exact rfl

theorem State.acceptRx_good : ∀ s a1 a2 a3, Good 2049 s (State.acceptRx s a1 a2 a3) := by
  intro s a1 a2 a3
  unfold State.acceptRx
  repeat' first
    | with_reducible exact Good.refl
    | with_reducible assumption
    | (extract_lets +onlyGivenNames x; (have ht : type_of% x = State := rfl); clear ht; refine Good.cut (x := x) ?_ ?_; (on_goal 1 => (unfold x; clear x)); (on_goal 2 => intro hx; clear_value x))
    | (extract_lets +onlyGivenNames x; clear_value x)
    | with_reducible apply Good.ite
    | (with_reducible apply Good.step (State.enterGroup_good ..))
    | (with_reducible apply Good.step (State.fitMaxlen_good ..))
    | (with_reducible apply Good.step (State.regAt_good ..))
    | exact rfl

theorem execStreamRxSet_good : ∀ a0 a1 s, GoodO 281484641441801 s (execStreamRxSet a0 a1 s) := by
  intro a0 a1 s
  unfold execStreamRxSet
  repeat' first
    | (with_reducible apply Good.step (hg ..))
    | with_reducible exact Good.refl
    | with_reducible assumption
    | (extract_lets +onlyGivenNames x; (have ht : type_of% x = State := rfl); clear ht; refine Good.cut (x := x) ?_ ?_; (on_goal 1 => (unfold x; clear x)); (on_goal 2 => intro hx; clear_value x))
    | (extract_lets +onlyGivenNames x; with_reducible refine GoodO.cutG (x := x) ?_ ?_; (on_goal 1 => (intro z; unfold x; clear x; beta_reduce)); (on_goal 2 => intro hg; clear_value x))
    | with_reducible apply GoodO.next
    | with_reducible apply GoodO.ite
    | (with_reducible apply Good.step (State.acceptRx_good ..))
    | (with_reducible apply Good.step (State.afterCommit_good ..))
    | (with_reducible apply Good.step (State.queueBulk_good ..))
    | (with_reducible apply State.receive_good)
    | (intro x i; try dsimp -zeta only)
    | dsimp -zeta only
    | exact rfl

theorem State.acceptTx_good : ∀ s a1 a2 a3, Good 2049 s (State.acceptTx s a1 a2 a3) := by
  intro s a1 a2 a3
  unfold State.acceptTx
  repeat' first
    | with_reducible exact Good.refl
    | with_reducible assumption
    | (extract_lets +onlyGivenNames x; (have ht : type_of% x = State := rfl); clear ht; refine Good.cut (x := x) ?_ ?_; (on_goal 1 => (unfold x; clear x)); (on_goal 2 => intro hx; clear_value x))
    | (extract_lets +onlyGivenNames x; clear_value x)
    | with_reducible apply Good.ite
    | (with_reducible apply Good.foldl)
    | (with_reducible apply Good.foldl_snd)
    | (with_reducible apply Good.foldl_fst)
    | (intro x b h; try beta_reduce)
    | (with_reducible apply Good.step (State.fitMaxlen_good ..))
    | (with_reducible apply Good.step (State.mapAt_good ..))
    | (with_reducible apply Good.step (State.regAt_good ..))
    | exact rfl

theorem execStreamTxSet_good : ∀ a0 a1 s, GoodO 281484641441801 s (execStreamTxSet a0 a1 s) := by
  intro a0 a1 s
  unfold execStreamTxSet
  repeat' first
    | (with_reducible apply Good.step (hg ..))
    | with_reducible exact Good.refl
    | with_reducible assumption
    | (extract_lets +onlyGivenNames x; (have ht : type_of% x = State := rfl); clear ht; refine Good.cut (x := x) ?_ ?_; (on_goal 1 => (unfold x; clear x)); (on_goal 2 => intro hx; clear_value x))
    | (extract_lets +onlyGivenNames x; with_reducible refine GoodO.cutG (x := x) ?_ ?_; (on_goal 1 => (intro z; unfold x; clear x; beta_reduce)); (on_goal 2 => intro hg; clear_value x))
    | with_reducible apply GoodO.next
    | with_reducible apply GoodO.ite
    | (with_reducible apply Good.step (State.acceptTx_good ..))
    | (with_reducible apply Good.step (State.afterCommit_good ..))
    | (with_reducible apply Good.step (State.queueBulk_good ..))
    | (with_reducible apply State.receive_good)
    | (intro x i; try dsimp -zeta only)
    | dsimp -zeta only
    | exact rfl

theorem State.acceptTdm_good : ∀ s a1 a2 a3 a4 a5 a6 a7, Good 2049 s (State.acceptTdm s a1 a2 a3 a4 a5 a6 a7) := by
  intro s a1 a2 a3 a4 a5 a6 a7
  unfold State.acceptTdm
  repeat' first
    | with_reducible exact Good.refl
    | with_reducible assumption
    | (extract_lets +onlyGivenNames x; (have ht : type_of% x = State := rfl); clear ht; refine Good.cut (x := x) ?_ ?_; (on_goal 1 => (unfold x; clear x)); (on_goal 2 => intro hx; clear_value x))
    | (with_reducible apply Good.foldl)
    | (with_reducible apply Good.foldl_snd)
    | (with_reducible apply Good.foldl_fst)
    | (intro x b h; try beta_reduce)
    | (with_reducible apply Good.step (State.mapAt_good ..))
    | (with_reducible apply Good.step (State.regAt_good ..))
    | (with_reducible apply Good.step (State.wrAt_good ..))
    | exact rfl

theorem execPortTdmSet_good : ∀ a0 a1 a2 a3 a4 a5 a6 s, GoodO 281484641441801 s (execPortTdmSet a0 a1 a2 a3 a4 a5 a6 s) := by
  intro a0 a1 a2 a3 a4 a5 a6 s
  unfold execPortTdmSet
  repeat' first
    | (with_reducible apply Good.step (hg ..))
    | with_reducible exact Good.refl
    | with_reducible assumption
    | (extract_lets +onlyGivenNames x; (have ht : type_of% x = State := rfl); clear ht; refine Good.cut (x := x) ?_ ?_; (on_goal 1 => (unfold x; clear x)); (on_goal 2 => intro hx; clear_value x))
    | (extract_lets +onlyGivenNames x; with_reducible refine GoodO.cutG (x := x) ?_ ?_; (on_goal 1 => (intro z; unfold x; clear x; beta_reduce)); (on_goal 2 => intro hg; clear_value x))
    | (extract_lets +onlyGivenNames x; clear_value x)
    | with_reducible apply GoodO.next
    | with_reducible apply GoodO.ite
    | with_reducible apply Good.ite
    | with_reducible apply Good.ite_fst
    | (with_reducible apply Good.step (State.acceptTdm_good ..))
    | (with_reducible apply Good.step (State.afterCommit_good ..))
    | (with_reducible apply Good.step (State.queueBulk_good ..))
    | (with_reducible apply State.receive_good)
    | (intro x i; try dsimp -zeta only)
    | dsimp -zeta only
    | exact rfl

theorem State.acceptAesOut_good : ∀ s a1 a2 a3 a4 a5, Good 2049 s (State.acceptAesOut s a1 a2 a3 a4 a5) := by
  intro s a1 a2 a3 a4 a5
  unfold State.acceptAesOut
  repeat' first
    | with_reducible exact Good.refl
    | with_reducible assumption
    | (extract_lets +onlyGivenNames x; (have ht : type_of% x = State := rfl); clear ht; refine Good.cut (x := x) ?_ ?_; (on_goal 1 => (unfold x; clear x)); (on_goal 2 => intro hx; clear_value x))
    | (with_reducible apply Good.foldl)
    | (with_reducible apply Good.foldl_snd)
    | (with_reducible apply Good.foldl_fst)
    | (intro x b h; try beta_reduce)
    | (with_reducible apply Good.step (State.regAt_good ..))
    | (with_reducible apply Good.step (State.wrAt_good ..))
    | exact rfl

theorem execPortAesSet_good : ∀ a0 a1 a2 a3 a4 a5 s, GoodO 281484641441801 s (execPortAesSet a0 a1 a2 a3 a4 a5 s) := by
  intro a0 a1 a2 a3 a4 a5 s
  unfold execPortAesSet
  repeat' first
    | (with_reducible apply Good.step (hg ..))
    | with_reducible exact Good.refl
    | with_reducible assumption
    | (extract_lets +onlyGivenNames x; (have ht : type_of% x = State := rfl); clear ht; refine Good.cut (x := x) ?_ ?_; (on_goal 1 => (unfold x; clear x)); (on_goal 2 => intro hx; clear_value x))
    | (extract_lets +onlyGivenNames x; with_reducible refine GoodO.cutG (x := x) ?_ ?_; (on_goal 1 => (intro z; unfold x; clear x; beta_reduce)); (on_goal 2 => intro hg; clear_value x))
    | (extract_lets +onlyGivenNames x; clear_value x)
    | with_reducible apply GoodO.next
    | with_reducible apply GoodO.ite
    | with_reducible apply Good.ite
    | with_reducible apply Good.ite_fst
    | (with_reducible apply Good.step (State.acceptAesOut_good ..))
    | (with_reducible apply Good.step (State.afterCommit_good ..))
    | (with_reducible apply Good.step (State.queueBulk_good ..))
    | (with_reducible apply State.receive_good)
    | (intro x i; try dsimp -zeta only)
    | dsimp -zeta only
    | (with_reducible apply Good.step (State.regAt_good ..))
    | exact rfl

theorem execMicSet_good : ∀ a0 a1 a2 a3 s, GoodO 281484641966089 s (execMicSet a0 a1 a2 a3 s) := by
  intro a0 a1 a2 a3 s
  unfold execMicSet
  repeat' first
    | with_reducible exact Good.refl
    | with_reducible assumption
    | (extract_lets +onlyGivenNames x; (have ht : type_of% x = State := rfl); clear ht; refine Good.cut (x := x) ?_ ?_; (on_goal 1 => (unfold x; clear x)); (on_goal 2 => intro hx; clear_value x))
    | (extract_lets +onlyGivenNames x; clear_value x)
    | with_reducible apply GoodO.next
    | with_reducible apply GoodO.ite
    | (with_reducible apply Good.step (State.afterCommit_good ..))
    | (with_reducible apply Good.step (State.micGain_good ..))
    | (with_reducible apply Good.step (State.queueBulk_good ..))
    | (with_reducible apply State.receive_good)
    | (intro x i; try dsimp -zeta only)
    | dsimp -zeta only
    | (with_reducible apply Good.step (State.regAt_good ..))
    | exact rfl

theorem execAsrcSet_good : ∀ a0 a1 a2 a3 s, GoodO 281484641441801 s (execAsrcSet a0 a1 a2 a3 s) := by
  intro a0 a1 a2 a3 s
  unfold execAsrcSet
  repeat' first
    | (with_reducible apply Good.step (hg ..))
    | with_reducible exact Good.refl
    | with_reducible assumption
    | (extract_lets +onlyGivenNames x; (have ht : type_of% x = State := rfl); clear ht; refine Good.cut (x := x) ?_ ?_; (on_goal 1 => (unfold x; clear x)); (on_goal 2 => intro hx; clear_value x))
    | (extract_lets +onlyGivenNames x; with_reducible refine GoodO.cutG (x := x) ?_ ?_; (on_goal 1 => (intro z; unfold x; clear x; beta_reduce)); (on_goal 2 => intro hg; clear_value x))
    | (extract_lets +onlyGivenNames x; clear_value x)
    | with_reducible apply GoodO.next
    | with_reducible apply GoodO.ite
    | (with_reducible apply Good.step (State.afterCommit_good ..))
    | (with_reducible apply Good.step (State.committed_good ..))
    | (with_reducible apply Good.step (State.queueBulk_good ..))
    | (with_reducible apply State.receive_good)
    | (intro x i; try dsimp -zeta only)
    | dsimp -zeta only
    | (with_reducible apply Good.step (State.regAt_good ..))
    | exact rfl

end Sys2Proof.Machine
end

