-- ==== Sys2Proof/Laws/KeepPowerCmds.lean ====
section
/-! SUPPORT. What each operation of Machine/PowerCmds.lean changes, and that it keeps what every operation keeps. -/

-- One proof at a time: the package as one text then takes less memory.
set_option Elab.async false

namespace Sys2Proof.Machine

open Sys2Proof

theorem State.acceptPs_good : ∀ s a1 a2 a3, Good 1054721 s (State.acceptPs s a1 a2 a3) := by
  intro s a1 a2 a3
  unfold State.acceptPs
  repeat' first
    | with_reducible exact Good.refl
    | with_reducible assumption
    | (extract_lets +onlyGivenNames x; (have ht : type_of% x = State := rfl); clear ht; refine Good.cut (x := x) ?_ ?_; (on_goal 1 => (unfold x; clear x)); (on_goal 2 => intro hx; clear_value x))
    | (with_reducible apply Good.step (State.regAt_good ..))
    | (with_reducible apply Good.step (State.wrAt_good ..))
    | exact rfl

theorem execPsConfig_good : ∀ a0 a1 a2 s, GoodO 281484647733257 s (execPsConfig a0 a1 a2 s) := by
  intro a0 a1 a2 s
  unfold execPsConfig
  repeat' first
    | (with_reducible apply Good.step (hg ..))
    | with_reducible exact Good.refl
    | with_reducible assumption
    | (extract_lets +onlyGivenNames x; (have ht : type_of% x = State := rfl); clear ht; refine Good.cut (x := x) ?_ ?_; (on_goal 1 => (unfold x; clear x)); (on_goal 2 => intro hx; clear_value x))
    | (extract_lets +onlyGivenNames x; with_reducible refine GoodO.cutG (x := x) ?_ ?_; (on_goal 1 => (intro z; unfold x; clear x; beta_reduce)); (on_goal 2 => intro hg; clear_value x))
    | (extract_lets +onlyGivenNames x; clear_value x)
    | with_reducible apply GoodO.next
    | with_reducible apply GoodO.ite
    | (with_reducible apply Good.step (State.acceptPs_good ..))
    | (with_reducible apply Good.step (State.afterCommit_good ..))
    | (with_reducible apply Good.step (State.committed_good ..))
    | (with_reducible apply Good.step (State.freqSearchIn_good ..))
    | (with_reducible apply Good.step (State.lineAbort_good ..))
    | (with_reducible apply Good.step (State.queueBulk_good ..))
    | (with_reducible apply State.receive_good)
    | (intro x i; try dsimp -zeta only)
    | dsimp -zeta only
    | exact rfl

theorem execPsEnable_good : ∀ a0 a1 s, GoodO 9669969929 s (execPsEnable a0 a1 s) := by
  intro a0 a1 s
  unfold execPsEnable
  repeat' first
    | with_reducible exact Good.refl
    | with_reducible assumption
    | with_reducible apply GoodO.next
    | with_reducible apply GoodO.ite
    | (with_reducible apply Good.foldl)
    | (with_reducible apply Good.foldl_snd)
    | (with_reducible apply Good.foldl_fst)
    | (intro x b h; try beta_reduce)
    | (with_reducible apply Good.step (State.later_good ..))
    | (with_reducible apply Good.step (State.lineAbort_good ..))
    | (with_reducible apply State.receive_good)
    | (intro x i; try dsimp -zeta only)
    | dsimp -zeta only
    | exact rfl

theorem State.acceptPair_good : ∀ s a1 a2 a3, Good 1054721 s (State.acceptPair s a1 a2 a3) := by
  intro s a1 a2 a3
  unfold State.acceptPair
  repeat' first
    | with_reducible exact Good.refl
    | with_reducible assumption
    | (extract_lets +onlyGivenNames x; (have ht : type_of% x = State := rfl); clear ht; refine Good.cut (x := x) ?_ ?_; (on_goal 1 => (unfold x; clear x)); (on_goal 2 => intro hx; clear_value x))
    | (extract_lets +onlyGivenNames x; clear_value x)
    | with_reducible apply Good.ite
    | (with_reducible apply Good.step (State.committed_good ..))
    | (with_reducible apply Good.step (State.later_good ..))
    | (with_reducible apply Good.step (State.regAt_good ..))
    | exact rfl

theorem execPsLoopPair_good : ∀ a0 a1 a2 s, GoodO 281484647733257 s (execPsLoopPair a0 a1 a2 s) := by
  intro a0 a1 a2 s
  unfold execPsLoopPair
  repeat' first
    | (with_reducible apply Good.step (hg ..))
    | with_reducible exact Good.refl
    | with_reducible assumption
    | (extract_lets +onlyGivenNames x; (have ht : type_of% x = State := rfl); clear ht; refine Good.cut (x := x) ?_ ?_; (on_goal 1 => (unfold x; clear x)); (on_goal 2 => intro hx; clear_value x))
    | (extract_lets +onlyGivenNames x; with_reducible refine GoodO.cutG (x := x) ?_ ?_; (on_goal 1 => (intro z; unfold x; clear x; beta_reduce)); (on_goal 2 => intro hg; clear_value x))
    | (extract_lets +onlyGivenNames x; clear_value x)
    | with_reducible apply GoodO.next
    | with_reducible apply GoodO.ite
    | with_reducible apply Good.ite
    | with_reducible apply Good.ite_fst
    | (with_reducible apply Good.step (State.acceptPair_good ..))
    | (with_reducible apply Good.step (State.afterCommit_good ..))
    | (with_reducible apply Good.step (State.committed_good ..))
    | (with_reducible apply Good.step (State.lineAbort_good ..))
    | (with_reducible apply Good.step (State.queueBulk_good ..))
    | (with_reducible apply State.receive_good)
    | (intro x i; try dsimp -zeta only)
    | dsimp -zeta only
    | exact rfl

theorem State.acceptProt_good : ∀ s a1 a2, Good 2048 s (State.acceptProt s a1 a2) := by
  intro s a1 a2
  unfold State.acceptProt
  repeat' first
    | with_reducible exact Good.refl
    | with_reducible assumption
    | (with_reducible apply Good.foldl)
    | (with_reducible apply Good.foldl_snd)
    | (with_reducible apply Good.foldl_fst)
    | (intro x b h; try beta_reduce)
    | (with_reducible apply Good.step (State.regAt_good ..))
    | exact rfl

theorem execPsBandProtect_good : ∀ a0 a1 s, GoodO 281484641441801 s (execPsBandProtect a0 a1 s) := by
  intro a0 a1 s
  unfold execPsBandProtect
  repeat' first
    | (with_reducible apply Good.step (hg ..))
    | with_reducible exact Good.refl
    | with_reducible assumption
    | (extract_lets +onlyGivenNames x; (have ht : type_of% x = State := rfl); clear ht; refine Good.cut (x := x) ?_ ?_; (on_goal 1 => (unfold x; clear x)); (on_goal 2 => intro hx; clear_value x))
    | (extract_lets +onlyGivenNames x; with_reducible refine GoodO.cutG (x := x) ?_ ?_; (on_goal 1 => (intro z; unfold x; clear x; beta_reduce)); (on_goal 2 => intro hg; clear_value x))
    | with_reducible apply GoodO.next
    | with_reducible apply GoodO.ite
    | (with_reducible apply Good.foldl)
    | (with_reducible apply Good.foldl_snd)
    | (with_reducible apply Good.foldl_fst)
    | (intro x b h; try beta_reduce)
    | (with_reducible apply Good.step (State.acceptProt_good ..))
    | (with_reducible apply Good.step (State.afterCommit_good ..))
    | (with_reducible apply Good.step (State.committed_good ..))
    | (with_reducible apply Good.step (State.freqSearchIn_good ..))
    | (with_reducible apply Good.step (State.queueBulk_good ..))
    | (with_reducible apply State.receive_good)
    | (intro x i; try dsimp -zeta only)
    | dsimp -zeta only
    | exact rfl

theorem execPsStatus_good : ∀ a0 a1 a2 s, GoodO 9663676425 s (execPsStatus a0 a1 a2 s) := by
  intro a0 a1 a2 s
  unfold execPsStatus
  repeat' first
    | with_reducible exact Good.refl
    | with_reducible assumption
    | with_reducible apply GoodO.next
    | with_reducible apply GoodO.ite
    | (with_reducible apply State.receive_good)
    | (intro x i; try dsimp -zeta only)
    | dsimp -zeta only
    | exact rfl

theorem execPsFaultClear_good : ∀ a0 a1 s, GoodO 9669967881 s (execPsFaultClear a0 a1 s) := by
  intro a0 a1 s
  unfold execPsFaultClear
  repeat' first
    | with_reducible exact Good.refl
    | with_reducible assumption
    | with_reducible apply GoodO.next
    | with_reducible apply GoodO.ite
    | (with_reducible apply Good.foldl)
    | (with_reducible apply Good.foldl_snd)
    | (with_reducible apply Good.foldl_fst)
    | (intro x b h; try beta_reduce)
    | (with_reducible apply Good.step (State.clearFaults_good ..))
    | (with_reducible apply Good.step (State.lineAbort_good ..))
    | (with_reducible apply State.receive_good)
    | (intro x i; try dsimp -zeta only)
    | dsimp -zeta only
    | exact rfl

end Sys2Proof.Machine
end

