-- ==== Sys2Proof/Laws/KeepTallyCmds.lean ====
section
/-! SUPPORT. What each operation of Machine/TallyCmds.lean changes, and that it keeps what every operation keeps. -/

-- One proof at a time: the package as one text then takes less memory.
set_option Elab.async false

namespace Sys2Proof.Machine

open Sys2Proof

theorem State.acceptTally_good : ∀ s a1, Good 4194305 s (State.acceptTally s a1) := by
  intro s a1
  unfold State.acceptTally
  repeat' first
    | with_reducible exact Good.refl
    | with_reducible assumption
    | (extract_lets +onlyGivenNames x; (have ht : type_of% x = State := rfl); clear ht; refine Good.cut (x := x) ?_ ?_; (on_goal 1 => (unfold x; clear x)); (on_goal 2 => intro hx; clear_value x))
    | (extract_lets +onlyGivenNames x; clear_value x)
    | with_reducible apply Good.ite
    | (with_reducible apply Good.step (State.wr_good ..))
    | exact rfl
    | (with_reducible apply Good.upd_tly)

theorem execTallySchedule_good : ∀ a0 a1 s, GoodO 281484645634057 s (execTallySchedule a0 a1 s) := by
  intro a0 a1 s
  unfold execTallySchedule
  repeat' first
    | with_reducible exact Good.refl
    | with_reducible assumption
    | with_reducible apply GoodO.next
    | with_reducible apply GoodO.ite
    | (with_reducible apply Good.step (State.acceptTally_good ..))
    | (with_reducible apply Good.step (State.afterCommit_good ..))
    | (with_reducible apply Good.step (State.queueBulk_good ..))
    | (with_reducible apply State.receive_good)
    | (intro x i; try dsimp -zeta only)
    | dsimp -zeta only
    | exact rfl

theorem State.testMessage_good : ∀ s a1, Good 4194305 s (State.testMessage s a1) := by
  intro s a1
  unfold State.testMessage
  repeat' first
    | with_reducible exact Good.refl
    | with_reducible assumption
    | with_reducible apply Good.ite
    | (with_reducible apply Good.step (State.tallyLog_good ..))
    | exact rfl
    | split

theorem State.ask_good : ∀ s a1 a2, Good 4194304 s (State.ask s a1 a2) := by
  intro s a1 a2
  unfold State.ask
  repeat' first
    | with_reducible exact Good.refl
    | with_reducible assumption
    | (extract_lets +onlyGivenNames x; clear_value x)
    | exact rfl
    | (with_reducible apply Good.upd_tly)

theorem State.dramRestart_good : ∀ s, Good 4194305 s (State.dramRestart s) := by
  intro s
  unfold State.dramRestart
  repeat' first
    | with_reducible exact Good.refl
    | with_reducible assumption
    | (extract_lets +onlyGivenNames x; clear_value x)
    | (with_reducible apply Good.step (State.wr_good ..))
    | exact rfl
    | (with_reducible apply Good.upd_tly)

theorem State.runTest_good : ∀ s a1 a2, Good 6291457 s (State.runTest s a1 a2) := by
  intro s a1 a2
  unfold State.runTest
  repeat' first
    | with_reducible exact Good.refl
    | with_reducible assumption
    | (extract_lets +onlyGivenNames x; clear_value x)
    | with_reducible apply Good.ite
    | (with_reducible apply Good.foldl)
    | (with_reducible apply Good.foldl_snd)
    | (with_reducible apply Good.foldl_fst)
    | (intro x b h; try beta_reduce)
    | (with_reducible apply Good.step (State.ask_good ..))
    | (with_reducible apply Good.step (State.captureStart_good ..))
    | (with_reducible apply Good.step (State.dramRestart_good ..))
    | (with_reducible apply Good.step (State.flag_good ..))
    | (with_reducible apply Good.step (State.lineSlot_good ..))
    | (with_reducible apply Good.step (State.testMessage_good ..))
    | (with_reducible apply Good.step (State.wr_good ..))
    | exact rfl
    | split
    | (with_reducible apply Good.upd_tly)

theorem execTallyRunNow_good : ∀ a0 a1 a2 s, GoodO 9669967881 s (execTallyRunNow a0 a1 a2 s) := by
  intro a0 a1 a2 s
  unfold execTallyRunNow
  repeat' first
    | with_reducible exact Good.refl
    | with_reducible assumption
    | (extract_lets +onlyGivenNames x; clear_value x)
    | with_reducible apply GoodO.next
    | with_reducible apply GoodO.ite
    | (with_reducible apply State.receive_good)
    | (intro x i; try dsimp -zeta only)
    | dsimp -zeta only
    | (with_reducible apply Good.step (State.runTest_good ..))
    | exact rfl

theorem State.markRead_good : ∀ s a1, Good 4194304 s (State.markRead s a1) := by
  intro s a1
  unfold State.markRead
  repeat' first
    | with_reducible exact Good.refl
    | with_reducible assumption
    | (extract_lets +onlyGivenNames x; clear_value x)
    | with_reducible apply Good.ite
    | exact rfl
    | (with_reducible apply Good.upd_tly)

theorem execTallyLogRead_good : ∀ a0 a1 a2 s, GoodO 9667870729 s (execTallyLogRead a0 a1 a2 s) := by
  intro a0 a1 a2 s
  unfold execTallyLogRead
  repeat' first
    | with_reducible exact Good.refl
    | with_reducible assumption
    | (extract_lets +onlyGivenNames x; clear_value x)
    | with_reducible apply GoodO.next
    | with_reducible apply GoodO.ite
    | (with_reducible apply Good.step (State.markRead_good ..))
    | (with_reducible apply State.receive_good)
    | (intro x i; try dsimp -zeta only)
    | dsimp -zeta only
    | exact rfl

theorem execBaselineCapture_good : ∀ a0 a1 s, GoodO 9669967881 s (execBaselineCapture a0 a1 s) := by
  intro a0 a1 s
  unfold execBaselineCapture
  repeat' first
    | with_reducible exact Good.refl
    | with_reducible assumption
    | (extract_lets +onlyGivenNames x; (have ht : type_of% x = State := rfl); clear ht; refine Good.cut (x := x) ?_ ?_; (on_goal 1 => (unfold x; clear x)); (on_goal 2 => intro hx; clear_value x))
    | (extract_lets +onlyGivenNames x; clear_value x)
    | with_reducible apply GoodO.next
    | with_reducible apply GoodO.ite
    | (with_reducible apply Good.foldl)
    | (with_reducible apply Good.foldl_snd)
    | (with_reducible apply Good.foldl_fst)
    | (intro x b h; try beta_reduce)
    | (with_reducible apply Good.step (State.beginLong_good ..))
    | (with_reducible apply Good.step (State.captureStart_good ..))
    | (with_reducible apply Good.step (State.lineAbort_good ..))
    | (with_reducible apply State.receive_good)
    | (intro x i; try dsimp -zeta only)
    | dsimp -zeta only
    | exact rfl

end Sys2Proof.Machine
end

