-- ==== Sys2Proof/Laws/KeepTimeCmds.lean ====
section
/-! SUPPORT. What each operation of Machine/TimeCmds.lean changes, and that it keeps what every operation keeps. -/

-- One proof at a time: the package as one text then takes less memory.
set_option Elab.async false

namespace Sys2Proof.Machine

open Sys2Proof

theorem State.setLats_good : ∀ s a1, Good 16777217 s (State.setLats s a1) := by
  intro s a1
  unfold State.setLats
  repeat' first
    | with_reducible exact Good.refl
    | with_reducible assumption
    | (extract_lets +onlyGivenNames x; (have ht : type_of% x = State := rfl); clear ht; refine Good.cut (x := x) ?_ ?_; (on_goal 1 => (unfold x; clear x)); (on_goal 2 => intro hx; clear_value x))
    | (extract_lets +onlyGivenNames x; clear_value x)
    | (with_reducible apply Good.step (State.loadLat_good ..))
    | exact rfl
    | (with_reducible apply Good.upd_ptp)

theorem State.ptpGroups_good : ∀ s, Good 1 s (State.ptpGroups s) := by
  intro s
  unfold State.ptpGroups
  repeat' first
    | with_reducible exact Good.refl
    | with_reducible assumption
    | (extract_lets +onlyGivenNames x; (have ht : type_of% x = State := rfl); clear ht; refine Good.cut (x := x) ?_ ?_; (on_goal 1 => (unfold x; clear x)); (on_goal 2 => intro hx; clear_value x))
    | (extract_lets +onlyGivenNames x; clear_value x)
    | with_reducible apply Good.ite
    | (with_reducible apply Good.step (State.enterGroup_good ..))
    | exact rfl

theorem State.acceptTime_good : ∀ s a1, Good 16777217 s (State.acceptTime s a1) := by
  intro s a1
  unfold State.acceptTime
  repeat' first
    | with_reducible exact Good.refl
    | with_reducible assumption
    | (extract_lets +onlyGivenNames x; (have ht : type_of% x = State := rfl); clear ht; refine Good.cut (x := x) ?_ ?_; (on_goal 1 => (unfold x; clear x)); (on_goal 2 => intro hx; clear_value x))
    | with_reducible apply Good.ite
    | (with_reducible apply Good.step (State.ptpGroups_good ..))
    | (with_reducible apply Good.step (State.setLats_good ..))
    | (with_reducible apply Good.step (State.wr_good ..))
    | exact rfl
    | (with_reducible apply Good.upd_ptp)

theorem execTimeConfig_good : ∀ a0 a1 s, GoodO 281484658216969 s (execTimeConfig a0 a1 s) := by
  intro a0 a1 s
  unfold execTimeConfig
  repeat' first
    | with_reducible exact Good.refl
    | with_reducible assumption
    | with_reducible apply GoodO.next
    | with_reducible apply GoodO.ite
    | (with_reducible apply Good.step (State.acceptTime_good ..))
    | (with_reducible apply Good.step (State.afterCommit_good ..))
    | (with_reducible apply Good.step (State.queueBulk_good ..))
    | (with_reducible apply State.receive_good)
    | (intro x i; try dsimp -zeta only)
    | dsimp -zeta only
    | exact rfl

theorem execTimeStatus_good : ∀ a0 s, GoodO 9663676457 s (execTimeStatus a0 s) := by
  intro a0 s
  unfold execTimeStatus
  repeat' first
    | with_reducible exact Good.refl
    | with_reducible assumption
    | with_reducible apply GoodO.next
    | with_reducible apply GoodO.ite
    | (with_reducible apply Good.step (State.fresh_good ..))
    | (with_reducible apply State.receive_good)
    | (intro x i; try dsimp -zeta only)
    | dsimp -zeta only
    | exact rfl

theorem execScheduleEvent_good : ∀ a0 a1 a2 a3 s, GoodO 9797894153 s (execScheduleEvent a0 a1 a2 a3 s) := by
  intro a0 a1 a2 a3 s
  unfold execScheduleEvent
  repeat' first
    | with_reducible exact Good.refl
    | with_reducible assumption
    | with_reducible apply GoodO.next
    | with_reducible apply GoodO.ite
    | (with_reducible apply State.receive_good)
    | (intro x i; try dsimp -zeta only)
    | dsimp -zeta only
    | exact rfl
    | (with_reducible apply Good.upd_acts)

theorem execMirrorConfig_good : ∀ a0 a1 a2 s, GoodO 281484713789193 s (execMirrorConfig a0 a1 a2 s) := by
  intro a0 a1 a2 s
  unfold execMirrorConfig
  repeat' first
    | with_reducible exact Good.refl
    | with_reducible assumption
    | with_reducible apply GoodO.next
    | with_reducible apply GoodO.ite
    | (with_reducible apply Good.step (State.mirrorEnable_good ..))
    | (with_reducible apply State.receive_good)
    | (intro x i; try dsimp -zeta only)
    | dsimp -zeta only
    | (with_reducible apply Good.step (State.wr_good ..))
    | exact rfl

theorem execMirrorStatus_good : ∀ a0 s, GoodO 9663676425 s (execMirrorStatus a0 s) := by
  intro a0 s
  unfold execMirrorStatus
  repeat' first
    | with_reducible exact Good.refl
    | with_reducible assumption
    | with_reducible apply GoodO.next
    | with_reducible apply GoodO.ite
    | (with_reducible apply State.receive_good)
    | (intro x i; try dsimp -zeta only)
    | dsimp -zeta only
    | exact rfl

theorem execMirrorSwitchover_good : ∀ a0 s, GoodO 281484640387081 s (execMirrorSwitchover a0 s) := by
  intro a0 s
  unfold execMirrorSwitchover
  repeat' first
    | with_reducible exact Good.refl
    | with_reducible assumption
    | with_reducible apply GoodO.next
    | with_reducible apply GoodO.ite
    | with_reducible apply Good.ite
    | with_reducible apply Good.ite_fst
    | (with_reducible apply State.receive_good)
    | (intro x i; try dsimp -zeta only)
    | dsimp -zeta only
    | (with_reducible apply Good.step (State.setChange_good ..))
    | exact rfl

end Sys2Proof.Machine
end

