-- ==== Sys2Proof/Laws/KeepCounters.lean ====
section
/-! SUPPORT. What each operation of Machine/Counters.lean changes, and that it keeps what every operation keeps. -/

-- One proof at a time: the package as one text then takes less memory.
set_option Elab.async false

namespace Sys2Proof.Machine

open Sys2Proof

theorem State.addTotal_good : ∀ s a1 a2, Good 17592186044416 s (State.addTotal s a1 a2) := by
  intro s a1 a2
  unfold State.addTotal
  repeat' first
    | with_reducible exact Good.refl
    | with_reducible assumption
    | exact rfl
    | (with_reducible apply Good.upd_totals)

theorem State.addOctets_good : ∀ s a1, Good 17592194433024 s (State.addOctets s a1) := by
  intro s a1
  unfold State.addOctets
  repeat' first
    | with_reducible exact Good.refl
    | with_reducible assumption
    | (extract_lets +onlyGivenNames x; (have ht : type_of% x = State := rfl); clear ht; refine Good.cut (x := x) ?_ ?_; (on_goal 1 => (unfold x; clear x)); (on_goal 2 => intro hx; clear_value x))
    | (with_reducible apply Good.step (State.addTotal_good ..))
    | exact rfl
    | split
    | (with_reducible apply Good.upd_macs)

theorem State.addTotals_good : ∀ s, Good 615726519943169 s (State.addTotals s) := by
  intro s
  unfold State.addTotals
  repeat' first
    | with_reducible exact Good.refl
    | with_reducible assumption
    | (extract_lets +onlyGivenNames x; (have ht : type_of% x = State := rfl); clear ht; refine Good.cut (x := x) ?_ ?_; (on_goal 1 => (unfold x; clear x)); (on_goal 2 => intro hx; clear_value x))
    | (extract_lets +onlyGivenNames x; clear_value x)
    | (with_reducible apply Good.foldl)
    | (with_reducible apply Good.foldl_snd)
    | (with_reducible apply Good.foldl_fst)
    | (intro x b h; try beta_reduce)
    | (with_reducible apply Good.step (State.addOctets_good ..))
    | (with_reducible apply Good.step (State.addTotal_good ..))
    | (with_reducible apply Good.step (State.countPanic_good ..))
    | exact rfl
    | exact Cells.wf_set
    | exact Cells.wf_filter
    | (with_reducible apply Good.upd_reg)
    | (with_reducible apply Good.upd_totalsAt)

theorem State.secondTotals_good : ∀ s, Good 615726519943169 s (State.secondTotals s) := by
  intro s
  unfold State.secondTotals
  repeat' first
    | with_reducible exact Good.refl
    | with_reducible assumption
    | with_reducible apply Good.ite
    | (with_reducible apply Good.step (State.addTotals_good ..))
    | exact rfl

end Sys2Proof.Machine
end

