-- ==== Sys2Proof/Laws/KeepSecCmds.lean ====
section
/-! SUPPORT. What each operation of Machine/SecCmds.lean changes, and that it keeps what every operation keeps. -/

-- One proof at a time: the package as one text then takes less memory.
set_option Elab.async false

namespace Sys2Proof.Machine

open Sys2Proof

theorem execAttest_good : ∀ a0 a1 s, GoodO 9663676457 s (execAttest a0 a1 s) := by
  intro a0 a1 s
  unfold execAttest
  repeat' first
    | with_reducible exact Good.refl
    | with_reducible assumption
    | with_reducible apply GoodO.next
    | with_reducible apply GoodO.ite
    | (with_reducible apply Good.step (State.fresh_good ..))
    | (with_reducible apply State.receive_good)
    | (intro x i; try dsimp -zeta only)
    | dsimp -zeta only
    | exact rfl

theorem execCertRead_good : ∀ a0 a1 s, GoodO 9663676425 s (execCertRead a0 a1 s) := by
  intro a0 a1 s
  unfold execCertRead
  repeat' first
    | with_reducible exact Good.refl
    | with_reducible assumption
    | with_reducible apply GoodO.next
    | with_reducible apply GoodO.ite
    | (with_reducible apply State.receive_good)
    | (intro x i; try dsimp -zeta only)
    | dsimp -zeta only
    | exact rfl

theorem execFwBegin_good : ∀ a0 a1 a2 s, GoodO 284541583369 s (execFwBegin a0 a1 a2 s) := by
  intro a0 a1 a2 s
  unfold execFwBegin
  repeat' first
    | with_reducible exact Good.refl
    | with_reducible assumption
    | with_reducible apply GoodO.next
    | with_reducible apply GoodO.ite
    | with_reducible apply Good.ite
    | with_reducible apply Good.ite_fst
    | (with_reducible apply State.receive_good)
    | (intro x i; try dsimp -zeta only)
    | dsimp -zeta only
    | exact rfl
    | (with_reducible apply Good.upd_fw)

theorem execFwChunk_good : ∀ a0 a1 a2 s, GoodO 284541583369 s (execFwChunk a0 a1 a2 s) := by
  intro a0 a1 a2 s
  unfold execFwChunk
  repeat' first
    | with_reducible exact Good.refl
    | with_reducible assumption
    | with_reducible apply GoodO.next
    | with_reducible apply GoodO.ite
    | (with_reducible apply State.receive_good)
    | (intro x i; try dsimp -zeta only)
    | dsimp -zeta only
    | exact rfl
    | (with_reducible apply Good.upd_fw)

theorem execFwCommit_good : ∀ a0 s, GoodO 26843545609 s (execFwCommit a0 s) := by
  intro a0 s
  unfold execFwCommit
  repeat' first
    | with_reducible exact Good.refl
    | with_reducible assumption
    | with_reducible apply GoodO.next
    | with_reducible apply GoodO.ite
    | with_reducible apply Good.ite
    | with_reducible apply Good.ite_fst
    | (with_reducible apply Good.step (State.beginDevice_good ..))
    | (with_reducible apply State.receive_good)
    | (intro x i; try dsimp -zeta only)
    | dsimp -zeta only
    | exact rfl

theorem State.writeRecord_good : ∀ s a1, Good 549755813888 s (State.writeRecord s a1) := by
  intro s a1
  unfold State.writeRecord
  repeat' first
    | with_reducible exact Good.refl
    | with_reducible assumption
    | (extract_lets +onlyGivenNames x; clear_value x)
    | with_reducible apply Good.ite
    | exact rfl
    | split
    | (with_reducible apply Good.upd_flash)

theorem State.setImage_good : ∀ s a1 a2, Good 549755813888 s (State.setImage s a1 a2) := by
  intro s a1 a2
  unfold State.setImage
  repeat' first
    | with_reducible exact Good.refl
    | with_reducible assumption
    | (extract_lets +onlyGivenNames x; clear_value x)
    | with_reducible apply Good.ite
    | exact rfl
    | (with_reducible apply Good.upd_flash)

theorem execFwCommitComplete_good : ∀ a0 a1 a2 s, GoodO 851477266441 s (execFwCommitComplete a0 a1 a2 s) := by
  intro a0 a1 a2 s
  unfold execFwCommitComplete
  repeat' first
    | with_reducible exact Good.refl
    | with_reducible assumption
    | (extract_lets +onlyGivenNames x; (have ht : type_of% x = State := rfl); clear ht; refine GoodO.cut (x := x) ?_ ?_; (on_goal 1 => (unfold x; clear x)); (on_goal 2 => intro hx; clear_value x))
    | (extract_lets +onlyGivenNames x; (have ht : type_of% x = State := rfl); clear ht; refine Good.cut (x := x) ?_ ?_; (on_goal 1 => (unfold x; clear x)); (on_goal 2 => intro hx; clear_value x))
    | (extract_lets +onlyGivenNames x; clear_value x)
    | with_reducible apply GoodO.next
    | with_reducible apply GoodO.ite
    | with_reducible apply Good.ite
    | (with_reducible apply Good.step (State.atRaw_good ..))
    | (with_reducible apply Good.step (State.endDevice_good ..))
    | (with_reducible apply Good.step (State.setImage_good ..))
    | (with_reducible apply Good.step (State.writeRecord_good ..))
    | exact rfl
    | split
    | (with_reducible apply Good.upd_fw)

theorem execKeyRotate_good : ∀ a0 a1 s, GoodO 281536179994633 s (execKeyRotate a0 a1 s) := by
  intro a0 a1 s
  unfold execKeyRotate
  repeat' first
    | with_reducible exact Good.refl
    | with_reducible assumption
    | (extract_lets +onlyGivenNames x; (have ht : type_of% x = State := rfl); clear ht; refine Good.cut (x := x) ?_ ?_; (on_goal 1 => (unfold x; clear x)); (on_goal 2 => intro hx; clear_value x))
    | (extract_lets +onlyGivenNames x; clear_value x)
    | with_reducible apply GoodO.next
    | with_reducible apply GoodO.ite
    | (with_reducible apply Good.step (State.beginDevice_good ..))
    | (with_reducible apply Good.step (State.queueBulk_good ..))
    | (with_reducible apply State.receive_good)
    | (intro x i; try dsimp -zeta only)
    | dsimp -zeta only
    | exact rfl
    | (with_reducible apply Good.upd_devBusy)
    | (with_reducible apply Good.upd_enrol)

theorem execKeyRotateComplete_good : ∀ a0 s, GoodO 2575906635785 s (execKeyRotateComplete a0 s) := by
  intro a0 s
  unfold execKeyRotateComplete
  repeat' first
    | with_reducible exact Good.refl
    | with_reducible assumption
    | (extract_lets +onlyGivenNames x; (have ht : type_of% x = State := rfl); clear ht; refine GoodO.cut (x := x) ?_ ?_; (on_goal 1 => (unfold x; clear x)); (on_goal 2 => intro hx; clear_value x))
    | (extract_lets +onlyGivenNames x; (have ht : type_of% x = State := rfl); clear ht; refine Good.cut (x := x) ?_ ?_; (on_goal 1 => (unfold x; clear x)); (on_goal 2 => intro hx; clear_value x))
    | with_reducible apply GoodO.next
    | with_reducible apply GoodO.ite
    | with_reducible apply Good.ite
    | (with_reducible apply Good.foldl)
    | (with_reducible apply Good.foldl_snd)
    | (with_reducible apply Good.foldl_fst)
    | (intro x b h; try beta_reduce)
    | (with_reducible apply Good.step (State.atRaw_good ..))
    | (with_reducible apply Good.step (State.closeSession_good ..))
    | (with_reducible apply Good.step (State.endDevice_good ..))
    | exact rfl
    | split

theorem execShedConfig_good : ∀ a0 a1 a2 a3 a4 a5 s, GoodO 281484641439753 s (execShedConfig a0 a1 a2 a3 a4 a5 s) := by
  intro a0 a1 a2 a3 a4 a5 s
  unfold execShedConfig
  repeat' first
    | with_reducible exact Good.refl
    | with_reducible assumption
    | (extract_lets +onlyGivenNames x; (have ht : type_of% x = State := rfl); clear ht; refine Good.cut (x := x) ?_ ?_; (on_goal 1 => (unfold x; clear x)); (on_goal 2 => intro hx; clear_value x))
    | with_reducible apply GoodO.next
    | with_reducible apply GoodO.ite
    | (with_reducible apply Good.step (State.afterCommit_good ..))
    | (with_reducible apply Good.step (State.queueBulk_good ..))
    | (with_reducible apply State.receive_good)
    | (intro x i; try dsimp -zeta only)
    | dsimp -zeta only
    | (with_reducible apply Good.step (State.wr_good ..))
    | exact rfl

theorem execSupplyStatus_good : ∀ a0 s, GoodO 9663676425 s (execSupplyStatus a0 s) := by
  intro a0 s
  unfold execSupplyStatus
  repeat' first
    | with_reducible exact Good.refl
    | with_reducible assumption
    | with_reducible apply GoodO.next
    | with_reducible apply GoodO.ite
    | (with_reducible apply State.receive_good)
    | (intro x i; try dsimp -zeta only)
    | dsimp -zeta only
    | exact rfl

theorem execMaintEnter_good : ∀ a0 a1 s, GoodO 2208686931977 s (execMaintEnter a0 a1 s) := by
  intro a0 a1 s
  unfold execMaintEnter
  repeat' first
    | with_reducible exact Good.refl
    | with_reducible assumption
    | with_reducible apply GoodO.next
    | with_reducible apply GoodO.ite
    | with_reducible apply Good.ite
    | with_reducible apply Good.ite_fst
    | (with_reducible apply Good.step (State.endMaint_good ..))
    | (with_reducible apply Good.step (State.flag_good ..))
    | (with_reducible apply State.receive_good)
    | (intro x i; try dsimp -zeta only)
    | dsimp -zeta only
    | exact rfl
    | split
    | (with_reducible apply Good.upd_maint)

theorem execReset_good : ∀ a0 s, GoodO 26843545609 s (execReset a0 s) := by
  intro a0 s
  unfold execReset
  repeat' first
    | with_reducible exact Good.refl
    | with_reducible assumption
    | with_reducible apply GoodO.next
    | with_reducible apply GoodO.ite
    | (with_reducible apply Good.step (State.beginDevice_good ..))
    | (with_reducible apply State.receive_good)
    | (intro x i; try dsimp -zeta only)
    | dsimp -zeta only
    | exact rfl

end Sys2Proof.Machine
end

