-- ==== Sys2Proof/Laws/KeepRoutes.lean ====
section
/-! SUPPORT. What each operation of Machine/Routes.lean changes, and that it keeps what every operation keeps. -/

-- One proof at a time: the package as one text then takes less memory.
set_option Elab.async false

namespace Sys2Proof.Machine

open Sys2Proof

theorem execSpkLayoutLoad_good : ∀ a0 a1 a2 s, GoodO 281484640387337 s (execSpkLayoutLoad a0 a1 a2 s) := by
  intro a0 a1 a2 s
  unfold execSpkLayoutLoad
  repeat' first
    | with_reducible exact Good.refl
    | with_reducible assumption
    | (extract_lets +onlyGivenNames x; (have ht : type_of% x = State := rfl); clear ht; refine Good.cut (x := x) ?_ ?_; (on_goal 1 => (unfold x; clear x)); (on_goal 2 => intro hx; clear_value x))
    | (extract_lets +onlyGivenNames x; clear_value x)
    | with_reducible apply GoodO.next
    | with_reducible apply GoodO.ite
    | (with_reducible apply Good.foldl)
    | (with_reducible apply Good.foldl_snd)
    | (with_reducible apply Good.foldl_fst)
    | (intro x b h; try beta_reduce)
    | (with_reducible apply Good.step (State.abandonBuild_good ..))
    | (with_reducible apply Good.step (State.queueBulk_good ..))
    | (with_reducible apply State.receive_good)
    | (intro x i; try dsimp -zeta only)
    | dsimp -zeta only
    | (with_reducible apply Good.step (State.stageBytes_good ..))
    | exact rfl

theorem execZoneDefine_good : ∀ a0 a1 a2 a3 s, GoodO 281484640387337 s (execZoneDefine a0 a1 a2 a3 s) := by
  intro a0 a1 a2 a3 s
  unfold execZoneDefine
  repeat' first
    | with_reducible exact Good.refl
    | with_reducible assumption
    | (extract_lets +onlyGivenNames x; (have ht : type_of% x = State := rfl); clear ht; refine Good.cut (x := x) ?_ ?_; (on_goal 1 => (unfold x; clear x)); (on_goal 2 => intro hx; clear_value x))
    | (extract_lets +onlyGivenNames x; clear_value x)
    | with_reducible apply GoodO.next
    | with_reducible apply GoodO.ite
    | (with_reducible apply Good.foldl)
    | (with_reducible apply Good.foldl_snd)
    | (with_reducible apply Good.foldl_fst)
    | (intro x b h; try beta_reduce)
    | (with_reducible apply Good.step (State.abandonBuild_good ..))
    | (with_reducible apply Good.step (State.queueBulk_good ..))
    | (with_reducible apply State.receive_good)
    | (intro x i; try dsimp -zeta only)
    | dsimp -zeta only
    | (with_reducible apply Good.step (State.setStaged_good ..))
    | exact rfl

theorem State.stagePasture_good : ∀ s a1, Good 256 s (State.stagePasture s a1) := by
  intro s a1
  unfold State.stagePasture
  repeat' first
    | with_reducible exact Good.refl
    | with_reducible assumption
    | with_reducible apply Good.ite
    | (with_reducible apply Good.step (State.stageBytes_good ..))
    | exact rfl

theorem execPastureBuild_good : ∀ a0 a1 s, GoodO 281484640387337 s (execPastureBuild a0 a1 s) := by
  intro a0 a1 s
  unfold execPastureBuild
  repeat' first
    | with_reducible exact Good.refl
    | with_reducible assumption
    | with_reducible apply GoodO.next
    | with_reducible apply GoodO.ite
    | (with_reducible apply Good.foldl)
    | (with_reducible apply Good.foldl_snd)
    | (with_reducible apply Good.foldl_fst)
    | (intro x b h; try beta_reduce)
    | (with_reducible apply Good.step (State.queueBulk_good ..))
    | (with_reducible apply State.receive_good)
    | (intro x i; try dsimp -zeta only)
    | dsimp -zeta only
    | (with_reducible apply Good.step (State.stagePasture_good ..))
    | (with_reducible apply Good.step (State.startBuild_good ..))
    | exact rfl

theorem State.showRoute_good : ∀ s a1 a2 a3 a4 a5, Good 1 s (State.showRoute s a1 a2 a3 a4 a5) := by
  intro s a1 a2 a3 a4 a5
  unfold State.showRoute
  repeat' first
    | with_reducible exact Good.refl
    | with_reducible assumption
    | (extract_lets +onlyGivenNames x; (have ht : type_of% x = State := rfl); clear ht; refine Good.cut (x := x) ?_ ?_; (on_goal 1 => (unfold x; clear x)); (on_goal 2 => intro hx; clear_value x))
    | (extract_lets +onlyGivenNames x; clear_value x)
    | (with_reducible apply Good.foldl)
    | (with_reducible apply Good.foldl_snd)
    | (with_reducible apply Good.foldl_fst)
    | (intro x b h; try beta_reduce)
    | (with_reducible apply Good.step (State.wr_good ..))
    | exact rfl

theorem State.acceptRoute_good : ∀ s a1 a2 a3 a4 a5 a6, Good 2049 s (State.acceptRoute s a1 a2 a3 a4 a5 a6) := by
  intro s a1 a2 a3 a4 a5 a6
  unfold State.acceptRoute
  repeat' first
    | with_reducible exact Good.refl
    | with_reducible assumption
    | (extract_lets +onlyGivenNames x; (have ht : type_of% x = State := rfl); clear ht; refine Good.cut (x := x) ?_ ?_; (on_goal 1 => (unfold x; clear x)); (on_goal 2 => intro hx; clear_value x))
    | (extract_lets +onlyGivenNames x; clear_value x)
    | with_reducible apply Good.ite
    | (with_reducible apply Good.step (State.later_good ..))
    | (with_reducible apply Good.step (State.replaceRoute_good ..))
    | (with_reducible apply Good.step (State.showRoute_good ..))
    | (with_reducible apply Good.step (State.unsched_good ..))
    | exact rfl
    | (with_reducible apply Good.upd_sched)

theorem State.acceptInputs_good : ∀ s a1 a2 a3 a4, Good 2048 s (State.acceptInputs s a1 a2 a3 a4) := by
  intro s a1 a2 a3 a4
  unfold State.acceptInputs
  repeat' first
    | with_reducible exact Good.refl
    | with_reducible assumption
    | (extract_lets +onlyGivenNames x; clear_value x)
    | with_reducible apply Good.ite
    | (with_reducible apply Good.foldl)
    | (with_reducible apply Good.foldl_snd)
    | (with_reducible apply Good.foldl_fst)
    | (intro x b h; try beta_reduce)
    | (with_reducible apply Good.step (State.later_good ..))
    | exact rfl

theorem State.acceptRouteSet_good : ∀ s a1 a2 a3 a4 a5 a6 a7 a8 a9, Good 2049 s (State.acceptRouteSet s a1 a2 a3 a4 a5 a6 a7 a8 a9) := by
  intro s a1 a2 a3 a4 a5 a6 a7 a8 a9
  unfold State.acceptRouteSet
  repeat' first
    | with_reducible exact Good.refl
    | with_reducible assumption
    | (extract_lets +onlyGivenNames x; (have ht : type_of% x = State := rfl); clear ht; refine Good.cut (x := x) ?_ ?_; (on_goal 1 => (unfold x; clear x)); (on_goal 2 => intro hx; clear_value x))
    | (extract_lets +onlyGivenNames x; clear_value x)
    | with_reducible apply Good.ite
    | (with_reducible apply Good.step (State.acceptInputs_good ..))
    | (with_reducible apply Good.step (State.acceptRoute_good ..))
    | (with_reducible apply Good.step (State.sendGain_good ..))
    | (with_reducible apply Good.step (State.sendMute_good ..))
    | exact rfl

theorem execRouteSet_good : ∀ a0 a1 a2 a3 a4 a5 a6 a7 s, GoodO 9664731657 s (execRouteSet a0 a1 a2 a3 a4 a5 a6 a7 s) := by
  intro a0 a1 a2 a3 a4 a5 a6 a7 s
  unfold execRouteSet
  repeat' first
    | (with_reducible apply Good.step (hg ..))
    | with_reducible exact Good.refl
    | with_reducible assumption
    | (extract_lets +onlyGivenNames x; with_reducible refine GoodO.cutH (x := x) ?_ ?_; (on_goal 1 => (intro z c; unfold x; clear x; beta_reduce)); (on_goal 2 => intro hg; clear_value x))
    | (extract_lets +onlyGivenNames x; clear_value x)
    | with_reducible apply GoodO.next
    | with_reducible apply GoodO.ite
    | (with_reducible apply Good.step (State.acceptRouteSet_good ..))
    | (with_reducible apply Good.step (State.committedAt_good ..))
    | (with_reducible apply State.receive_good)
    | (intro x i; try dsimp -zeta only)
    | dsimp -zeta only
    | exact rfl

theorem execRouteQuery_good : ∀ a0 a1 a2 s, GoodO 9663676425 s (execRouteQuery a0 a1 a2 s) := by
  intro a0 a1 a2 s
  unfold execRouteQuery
  repeat' first
    | with_reducible exact Good.refl
    | with_reducible assumption
    | (extract_lets +onlyGivenNames x; clear_value x)
    | with_reducible apply GoodO.next
    | with_reducible apply GoodO.ite
    | (with_reducible apply State.receive_good)
    | (intro x i; try dsimp -zeta only)
    | dsimp -zeta only
    | exact rfl

end Sys2Proof.Machine
end

