-- ==== Sys2Proof/Laws/KeepParamCmds.lean ====
section
/-! SUPPORT. What each operation of Machine/ParamCmds.lean changes, and that it keeps what every operation keeps. -/

-- One proof at a time: the package as one text then takes less memory.
set_option Elab.async false

namespace Sys2Proof.Machine

open Sys2Proof

theorem execParamRead_good : ∀ a0 a1 s, GoodO 9663676425 s (execParamRead a0 a1 s) := by
  intro a0 a1 s
  unfold execParamRead
  repeat' first
    | with_reducible exact Good.refl
    | with_reducible assumption
    | with_reducible apply GoodO.next
    | with_reducible apply GoodO.ite
    | (with_reducible apply State.receive_good)
    | (intro x i; try dsimp -zeta only)
    | dsimp -zeta only
    | exact rfl

theorem State.acceptBusEn_good : ∀ s a1 a2 a3, Good 2049 s (State.acceptBusEn s a1 a2 a3) := by
  intro s a1 a2 a3
  unfold State.acceptBusEn
  repeat' first
    | with_reducible exact Good.refl
    | with_reducible assumption
    | (with_reducible apply Good.step (State.acceptRoute_good ..))
    | (with_reducible apply Good.step (State.replaceRoute_good ..))
    | (with_reducible apply Good.step (State.unsched_good ..))
    | exact rfl
    | split

theorem State.putDev_good : ∀ s a1 a2 a3 a4, Good 2251799813688321 s (State.putDev s a1 a2 a3 a4) := by
  intro s a1 a2 a3 a4
  unfold State.putDev
  repeat' first
    | with_reducible exact Good.refl
    | with_reducible assumption
    | with_reducible apply Good.ite
    | (with_reducible apply Good.step (State.later_good ..))
    | (with_reducible apply Good.step (State.sleepEntry_good ..))
    | exact rfl
    | split

theorem State.fixedRate_good : ∀ s, Good 3 s (State.fixedRate s) := by
  intro s
  unfold State.fixedRate
  repeat' first
    | with_reducible exact Good.refl
    | with_reducible assumption
    | (extract_lets +onlyGivenNames x; clear_value x)
    | with_reducible apply Good.ite
    | (with_reducible apply Good.step (State.wr_good ..))
    | (with_reducible apply Good.step (State.wrLive_good ..))
    | exact rfl

theorem State.takeDev_good : ∀ s a1 a2 a3, Good 2815850352476419 s (State.takeDev s a1 a2 a3) := by
  intro s a1 a2 a3
  unfold State.takeDev
  repeat' first
    | with_reducible exact Good.refl
    | with_reducible assumption
    | (extract_lets +onlyGivenNames x; clear_value x)
    | with_reducible apply Good.ite
    | (with_reducible apply Good.step (State.fixedRate_good ..))
    | (with_reducible apply Good.step (State.leaveSleep_good ..))
    | (with_reducible apply Good.step (State.retrainStart_good ..))
    | (with_reducible apply Good.step (State.setInField_good ..))
    | (with_reducible apply Good.step (State.setSession_good ..))
    | (with_reducible apply Good.step (State.wr_good ..))
    | exact rfl
    | split
    | (with_reducible apply Good.upd_geo)

theorem State.takeParam_good : ∀ s a1 a2 a3, Good 2815850353000707 s (State.takeParam s a1 a2 a3) := by
  intro s a1 a2 a3
  unfold State.takeParam
  repeat' first
    | with_reducible exact Good.refl
    | with_reducible assumption
    | (with_reducible apply Good.step (State.micGain_good ..))
    | (with_reducible apply Good.step (State.takeDev_good ..))
    | exact rfl
    | split

theorem State.putParam_good : ∀ s a1 a2 a3 a4 a5 a6, Good 2251799813688321 s (State.putParam s a1 a2 a3 a4 a5 a6) := by
  intro s a1 a2 a3 a4 a5 a6
  unfold State.putParam
  repeat' first
    | with_reducible exact Good.refl
    | with_reducible assumption
    | (with_reducible apply Good.step (State.acceptBusEn_good ..))
    | (with_reducible apply Good.step (State.later_good ..))
    | (with_reducible apply Good.step (State.putDev_good ..))
    | (with_reducible apply Good.step (State.sendGain_good ..))
    | (with_reducible apply Good.step (State.sendMute_good ..))
    | (with_reducible apply Good.step (State.wrAt_good ..))
    | exact rfl
    | split

theorem State.putParams_good : ∀ s a1 a2 a3 a4 a5, Good 2251799813688321 s (State.putParams s a1 a2 a3 a4 a5) := by
  intro s a1 a2 a3 a4 a5
  unfold State.putParams
  repeat' first
    | with_reducible exact Good.refl
    | with_reducible assumption
    | (with_reducible apply Good.foldl)
    | (with_reducible apply Good.foldl_snd)
    | (with_reducible apply Good.foldl_fst)
    | (intro x b h; try beta_reduce)
    | (with_reducible apply Good.step (State.putParam_good ..))
    | exact rfl

theorem State.paramAfter_good : ∀ s a1, Good 281484641439745 s (State.paramAfter s a1) := by
  intro s a1
  unfold State.paramAfter
  repeat' first
    | with_reducible exact Good.refl
    | with_reducible assumption
    | with_reducible apply Good.ite
    | (with_reducible apply Good.step (State.afterCommit_good ..))
    | (with_reducible apply Good.step (State.queueBulk_good ..))
    | exact rfl

theorem execParamWrite_good : ∀ a0 a1 s, GoodO 2533284455128073 s (execParamWrite a0 a1 s) := by
  intro a0 a1 s
  unfold execParamWrite
  repeat' first
    | (with_reducible apply Good.step (hg ..))
    | with_reducible exact Good.refl
    | with_reducible assumption
    | (extract_lets +onlyGivenNames x; (have ht : type_of% x = State := rfl); clear ht; refine Good.cut (x := x) ?_ ?_; (on_goal 1 => (unfold x; clear x)); (on_goal 2 => intro hx; clear_value x))
    | (extract_lets +onlyGivenNames x; with_reducible refine GoodO.cutH (x := x) ?_ ?_; (on_goal 1 => (intro z c; unfold x; clear x; beta_reduce)); (on_goal 2 => intro hg; clear_value x))
    | (extract_lets +onlyGivenNames x; clear_value x)
    | with_reducible apply GoodO.next
    | with_reducible apply GoodO.ite
    | with_reducible apply Good.ite
    | with_reducible apply Good.ite_fst
    | (with_reducible apply Good.step (State.beginLong_good ..))
    | (with_reducible apply Good.step (State.paramAfter_good ..))
    | (with_reducible apply Good.step (State.putParams_good ..))
    | (with_reducible apply State.receive_good)
    | (intro x i; try dsimp -zeta only)
    | dsimp -zeta only
    | exact rfl

theorem execSafeStage_good : ∀ a0 a1 s, GoodO 9663676425 s (execSafeStage a0 a1 s) := by
  intro a0 a1 s
  unfold execSafeStage
  repeat' first
    | with_reducible exact Good.refl
    | with_reducible assumption
    | (extract_lets +onlyGivenNames x; clear_value x)
    | with_reducible apply GoodO.next
    | with_reducible apply GoodO.ite
    | with_reducible apply Good.ite
    | with_reducible apply Good.ite_fst
    | (with_reducible apply Good.foldl)
    | (with_reducible apply Good.foldl_snd)
    | (with_reducible apply Good.foldl_fst)
    | (with_reducible apply State.receive_good)
    | (intro x i; try dsimp -zeta only)
    | dsimp -zeta only
    | (with_reducible apply Good.step (State.setSession_good ..))
    | exact rfl

theorem State.commitSet_good : ∀ s a1 a2, Good 2533284455128065 s (State.commitSet s a1 a2) := by
  intro s a1 a2
  unfold State.commitSet
  repeat' first
    | with_reducible exact Good.refl
    | with_reducible assumption
    | (extract_lets +onlyGivenNames x; (have ht : type_of% x = State := rfl); clear ht; refine Good.cut (x := x) ?_ ?_; (on_goal 1 => (unfold x; clear x)); (on_goal 2 => intro hx; clear_value x))
    | (extract_lets +onlyGivenNames x; clear_value x)
    | (with_reducible apply Good.step (State.later_good ..))
    | (with_reducible apply Good.step (State.paramAfter_good ..))
    | (with_reducible apply Good.step (State.putParams_good ..))
    | (with_reducible apply Good.step (State.setSession_good ..))
    | exact rfl

theorem execSafeCommit_good : ∀ a0 a1 s, GoodO 2533284455128073 s (execSafeCommit a0 a1 s) := by
  intro a0 a1 s
  unfold execSafeCommit
  repeat' first
    | with_reducible exact Good.refl
    | with_reducible assumption
    | (extract_lets +onlyGivenNames x; clear_value x)
    | with_reducible apply GoodO.next
    | with_reducible apply GoodO.ite
    | with_reducible apply Good.ite
    | with_reducible apply Good.ite_fst
    | (with_reducible apply Good.step (State.commitSet_good ..))
    | (with_reducible apply Good.step (State.flag_good ..))
    | (with_reducible apply Good.step (State.later_good ..))
    | (with_reducible apply State.receive_good)
    | (intro x i; try dsimp -zeta only)
    | dsimp -zeta only
    | (with_reducible apply Good.step (State.setSession_good ..))
    | exact rfl

theorem execCountersRead_good : ∀ a0 a1 s, GoodO 615736183619593 s (execCountersRead a0 a1 s) := by
  intro a0 a1 s
  unfold execCountersRead
  repeat' first
    | with_reducible exact Good.refl
    | with_reducible assumption
    | (extract_lets +onlyGivenNames x; (have ht : type_of% x = State := rfl); clear ht; refine Good.cut (x := x) ?_ ?_; (on_goal 1 => (unfold x; clear x)); (on_goal 2 => intro hx; clear_value x))
    | with_reducible apply GoodO.next
    | with_reducible apply GoodO.ite
    | (with_reducible apply State.receive_good)
    | (intro x i; try dsimp -zeta only)
    | dsimp -zeta only
    | (with_reducible apply Good.step (State.secondTotals_good ..))
    | exact rfl

end Sys2Proof.Machine
end

