-- ==== Sys2Proof/Laws/KeepMsgCmds.lean ====
section
/-! SUPPORT. What each operation of Machine/MsgCmds.lean changes, and that it keeps what every operation keeps. -/

-- One proof at a time: the package as one text then takes less memory.
set_option Elab.async false

namespace Sys2Proof.Machine

open Sys2Proof

theorem State.takeChunk_good : ∀ s a1 a2 a3, Good 351912440365056 s (State.takeChunk s a1 a2 a3).1 := by
  intro s a1 a2 a3
  unfold State.takeChunk
  repeat' first
    | with_reducible exact Good.refl
    | with_reducible assumption
    | (extract_lets +onlyGivenNames x; clear_value x)
    | with_reducible apply Good.ite
    | with_reducible apply Good.ite_fst
    | (with_reducible apply Good.step (State.queueBulk_good ..))
    | (with_reducible apply Good.step (State.setMsg_good ..))
    | dsimp -zeta only
    | exact rfl

theorem execMsgStore_good : ∀ a0 a1 a2 s, GoodO 351922104041481 s (execMsgStore a0 a1 a2 s) := by
  intro a0 a1 a2 s
  unfold execMsgStore
  repeat' first
    | with_reducible exact Good.refl
    | with_reducible assumption
    | (extract_lets +onlyGivenNames x; (have ht : type_of% x.1 = State := rfl); clear ht; refine GoodO.cut (x := x.1) ?_ ?_; (on_goal 1 => (unfold x; clear x)); (on_goal 2 => intro hx; clear_value x))
    | (extract_lets +onlyGivenNames x; (have ht : type_of% x.1 = State := rfl); clear ht; refine Good.cut (x := x.1) ?_ ?_; (on_goal 1 => (unfold x; clear x)); (on_goal 2 => intro hx; clear_value x))
    | with_reducible apply GoodO.next
    | with_reducible apply GoodO.ite
    | with_reducible apply Good.ite
    | with_reducible apply Good.ite_fst
    | (with_reducible apply State.receive_good)
    | (intro x i; try dsimp -zeta only)
    | dsimp -zeta only
    | (with_reducible apply Good.step (State.takeChunk_good ..))
    | (refine Good.fst ‹_› ?_)
    | exact rfl

theorem execMsgPlay_good : ∀ a0 a1 a2 a3 a4 s, GoodO 147102629897 s (execMsgPlay a0 a1 a2 a3 a4 s) := by
  intro a0 a1 a2 a3 a4 s
  unfold execMsgPlay
  repeat' first
    | with_reducible exact Good.refl
    | with_reducible assumption
    | (extract_lets +onlyGivenNames x; clear_value x)
    | with_reducible apply GoodO.next
    | with_reducible apply GoodO.ite
    | (with_reducible apply State.receive_good)
    | (intro x i; try dsimp -zeta only)
    | dsimp -zeta only
    | (with_reducible apply Good.step (State.startPlay_good ..))
    | exact rfl

theorem execMsgStop_good : ∀ a0 a1 a2 s, GoodO 9663678473 s (execMsgStop a0 a1 a2 s) := by
  intro a0 a1 a2 s
  unfold execMsgStop
  repeat' first
    | with_reducible exact Good.refl
    | with_reducible assumption
    | with_reducible apply GoodO.next
    | with_reducible apply GoodO.ite
    | (with_reducible apply Good.step (State.later_good ..))
    | (with_reducible apply State.receive_good)
    | (intro x i; try dsimp -zeta only)
    | dsimp -zeta only
    | exact rfl

end Sys2Proof.Machine
end

