-- ==== Sys2Proof/Laws/KeepBus.lean ====
section
/-! SUPPORT. What each operation of Machine/Bus.lean changes, and that it keeps what every operation keeps. -/

-- One proof at a time: the package as one text then takes less memory.
set_option Elab.async false

namespace Sys2Proof.Machine

open Sys2Proof

theorem State.plainWrite_good : ∀ s a1 a2 a3, Good 2049 s (State.plainWrite s a1 a2 a3) := by
  intro s a1 a2 a3
  unfold State.plainWrite
  repeat' first
    | with_reducible exact Good.refl
    | with_reducible assumption
    | (extract_lets +onlyGivenNames x; (have ht : type_of% x = State := rfl); clear ht; refine Good.cut (x := x) ?_ ?_; (on_goal 1 => (unfold x; clear x)); (on_goal 2 => intro hx; clear_value x))
    | (extract_lets +onlyGivenNames x; clear_value x)
    | with_reducible apply Good.ite
    | (with_reducible apply Good.step (State.later_good ..))
    | (with_reducible apply Good.step (State.replaceChange_good ..))
    | (with_reducible apply Good.step (State.setReg_good ..))
    | exact rfl
    | split

theorem State.configWrite_good : ∀ s a1 a2 a3, Good 2049 s (State.configWrite s a1 a2 a3) := by
  intro s a1 a2 a3
  unfold State.configWrite
  repeat' first
    | with_reducible exact Good.refl
    | with_reducible assumption
    | with_reducible apply Good.ite
    | (with_reducible apply Good.step (State.plainWrite_good ..))
    | (with_reducible apply Good.step (State.regAt_good ..))
    | exact rfl
    | split

theorem State.pstWrite_good : ∀ s a1 a2 a3, Good 2305 s (State.pstWrite s a1 a2 a3) := by
  intro s a1 a2 a3
  unfold State.pstWrite
  repeat' first
    | with_reducible exact Good.refl
    | with_reducible assumption
    | with_reducible apply Good.ite
    | (with_reducible apply Good.step (State.memAddrNext_good ..))
    | (with_reducible apply Good.step (State.plainWrite_good ..))
    | (with_reducible apply Good.step (State.setMemData_good ..))
    | (with_reducible apply Good.step (State.swapReq_good ..))
    | (with_reducible refine Good.when (fun y hy => ?_) ?_)
    | exact rfl

theorem State.drvCtrl_good : ∀ s a1 a2 a3, Good 12289 s (State.drvCtrl s a1 a2 a3) := by
  intro s a1 a2 a3
  unfold State.drvCtrl
  repeat' first
    | with_reducible exact Good.refl
    | with_reducible assumption
    | (extract_lets +onlyGivenNames x; (have ht : type_of% x = State := rfl); clear ht; refine Good.cut (x := x) ?_ ?_; (on_goal 1 => (unfold x; clear x)); (on_goal 2 => intro hx; clear_value x))
    | (extract_lets +onlyGivenNames x; clear_value x)
    | with_reducible apply Good.ite
    | (with_reducible apply Good.step (State.askHalt_good ..))
    | (with_reducible apply Good.step (State.resetCore_good ..))
    | (with_reducible apply Good.step (State.resume_good ..))
    | (with_reducible apply Good.step (State.setCore_good ..))
    | (with_reducible apply Good.step (State.setRot_good ..))
    | (with_reducible apply Good.step (State.setRun_good ..))
    | (with_reducible refine Good.when (fun y hy => ?_) ?_)
    | (with_reducible apply Good.step (State.wr_good ..))
    | exact rfl

theorem State.drvWrite_good : ∀ s a1 a2 a3, Good 14337 s (State.drvWrite s a1 a2 a3) := by
  intro s a1 a2 a3
  unfold State.drvWrite
  repeat' first
    | with_reducible exact Good.refl
    | with_reducible assumption
    | with_reducible apply Good.ite
    | (with_reducible apply Good.step (State.dbgWrite_good ..))
    | (with_reducible apply Good.step (State.drvCtrl_good ..))
    | (with_reducible apply Good.step (State.plainWrite_good ..))
    | exact rfl
    | split

theorem State.ostWrite_good : ∀ s a1 a2 a3, Good 6145 s (State.ostWrite s a1 a2 a3) := by
  intro s a1 a2 a3
  unfold State.ostWrite
  repeat' first
    | with_reducible exact Good.refl
    | with_reducible assumption
    | (extract_lets +onlyGivenNames x; (have ht : type_of% x = State := rfl); clear ht; refine Good.cut (x := x) ?_ ?_; (on_goal 1 => (unfold x; clear x)); (on_goal 2 => intro hx; clear_value x))
    | (extract_lets +onlyGivenNames x; clear_value x)
    | with_reducible apply Good.ite
    | (with_reducible apply Good.step (State.configWrite_good ..))
    | (with_reducible apply Good.step (State.later_good ..))
    | (with_reducible apply Good.step (State.plainWrite_good ..))
    | (with_reducible apply Good.step (State.post_good ..))
    | (with_reducible apply Good.step (State.setFlow_good ..))
    | (with_reducible apply Good.step (State.setReg_good ..))
    | (with_reducible apply Good.step (State.unsched_good ..))
    | exact rfl

theorem State.mixWrite_good : ∀ s a1 a2 a3, Good 2049 s (State.mixWrite s a1 a2 a3) := by
  intro s a1 a2 a3
  unfold State.mixWrite
  repeat' first
    | with_reducible exact Good.refl
    | with_reducible assumption
    | with_reducible apply Good.ite
    | (with_reducible apply Good.step (State.flag_good ..))
    | (with_reducible apply Good.step (State.plainWrite_good ..))
    | (with_reducible refine Good.when (fun y hy => ?_) ?_)
    | exact rfl

theorem State.tsuWrite_good : ∀ s a1 a2 a3, Good 9663678473 s (State.tsuWrite s a1 a2 a3) := by
  intro s a1 a2 a3
  unfold State.tsuWrite
  repeat' first
    | with_reducible exact Good.refl
    | with_reducible assumption
    | with_reducible apply Good.ite
    | (with_reducible apply Good.step (State.convert_good ..))
    | (with_reducible apply Good.step (State.plainWrite_good ..))
    | (with_reducible apply Good.step (State.servoIn_good ..))
    | exact rfl

theorem State.macWrite_good : ∀ s a1 a2 a3, Good 8390657 s (State.macWrite s a1 a2 a3) := by
  intro s a1 a2 a3
  unfold State.macWrite
  repeat' first
    | with_reducible exact Good.refl
    | with_reducible assumption
    | (extract_lets +onlyGivenNames x; clear_value x)
    | with_reducible apply Good.ite
    | (with_reducible apply Good.step (State.mdio_good ..))
    | (with_reducible apply Good.step (State.modeWritten_good ..))
    | (with_reducible apply Good.step (State.plainWrite_good ..))
    | (with_reducible apply Good.step (State.ringEnable_good ..))
    | exact rfl
    | split

theorem State.celWrite_good : ∀ s a1 a2 a3, Good 562949953423361 s (State.celWrite s a1 a2 a3) := by
  intro s a1 a2 a3
  unfold State.celWrite
  repeat' first
    | with_reducible exact Good.refl
    | with_reducible assumption
    | (extract_lets +onlyGivenNames x; (have ht : type_of% x = State := rfl); clear ht; refine Good.cut (x := x) ?_ ?_; (on_goal 1 => (unfold x; clear x)); (on_goal 2 => intro hx; clear_value x))
    | (extract_lets +onlyGivenNames x; clear_value x)
    | with_reducible apply Good.ite
    | (with_reducible apply Good.step (State.flag_good ..))
    | (with_reducible apply Good.step (State.plainWrite_good ..))
    | (with_reducible apply Good.step (State.retrainStart_good ..))
    | (with_reducible refine Good.when (fun y hy => ?_) ?_)
    | exact rfl

theorem State.sysWrite_good : ∀ s a1 a2 a3, Good 140737488357377 s (State.sysWrite s a1 a2 a3) := by
  intro s a1 a2 a3
  unfold State.sysWrite
  repeat' first
    | with_reducible exact Good.refl
    | with_reducible assumption
    | with_reducible apply Good.ite
    | (with_reducible apply Good.step (State.inject_good ..))
    | (with_reducible apply Good.step (State.plainWrite_good ..))
    | (with_reducible apply Good.step (State.writeRemap_good ..))
    | exact rfl

theorem State.pwsWrite_good : ∀ s a1 a2 a3, Good 6293505 s (State.pwsWrite s a1 a2 a3) := by
  intro s a1 a2 a3
  unfold State.pwsWrite
  repeat' first
    | with_reducible exact Good.refl
    | with_reducible assumption
    | (extract_lets +onlyGivenNames x; (have ht : type_of% x = State := rfl); clear ht; refine Good.cut (x := x) ?_ ?_; (on_goal 1 => (unfold x; clear x)); (on_goal 2 => intro hx; clear_value x))
    | with_reducible apply Good.ite
    | (with_reducible apply Good.step (State.clearFaults_good ..))
    | (with_reducible apply Good.step (State.configWrite_good ..))
    | (with_reducible apply Good.step (State.plainWrite_good ..))
    | (with_reducible apply Good.step (State.stopAll_good ..))
    | exact rfl
    | split

theorem State.micWrite_good : ∀ s a1 a2 a3, Good 526337 s (State.micWrite s a1 a2 a3) := by
  intro s a1 a2 a3
  unfold State.micWrite
  repeat' first
    | with_reducible exact Good.refl
    | with_reducible assumption
    | (extract_lets +onlyGivenNames x; (have ht : type_of% x = State := rfl); clear ht; refine Good.cut (x := x) ?_ ?_; (on_goal 1 => (unfold x; clear x)); (on_goal 2 => intro hx; clear_value x))
    | with_reducible apply Good.ite
    | (with_reducible apply Good.step (State.configWrite_good ..))
    | (with_reducible apply Good.step (State.micGain_good ..))
    | exact rfl
    | split

theorem State.modeAsk_good : ∀ s a1, Good 2251799813686273 s (State.modeAsk s a1) := by
  intro s a1
  unfold State.modeAsk
  repeat' first
    | with_reducible exact Good.refl
    | with_reducible assumption
    | (extract_lets +onlyGivenNames x; (have ht : type_of% x = State := rfl); clear ht; refine Good.cut (x := x) ?_ ?_; (on_goal 1 => (unfold x; clear x)); (on_goal 2 => intro hx; clear_value x))
    | with_reducible apply Good.ite
    | (with_reducible apply Good.step (State.leaveSleep_good ..))
    | (with_reducible apply Good.step (State.sleepEntry_good ..))
    | (with_reducible apply Good.step (State.wr_good ..))
    | exact rfl
    | split

theorem State.clkWrite_good : ∀ s a1 a2 a3, Good 2251799813696513 s (State.clkWrite s a1 a2 a3) := by
  intro s a1 a2 a3
  unfold State.clkWrite
  repeat' first
    | with_reducible exact Good.refl
    | with_reducible assumption
    | (extract_lets +onlyGivenNames x; (have ht : type_of% x = State := rfl); clear ht; refine Good.cut (x := x) ?_ ?_; (on_goal 1 => (unfold x; clear x)); (on_goal 2 => intro hx; clear_value x))
    | (extract_lets +onlyGivenNames x; clear_value x)
    | with_reducible apply Good.ite
    | (with_reducible apply Good.step (State.modeAsk_good ..))
    | (with_reducible apply Good.step (State.plainWrite_good ..))
    | (with_reducible apply Good.step (State.trim_good ..))
    | (with_reducible refine Good.when (fun y hy => ?_) ?_)
    | (with_reducible apply Good.step (State.wr_good ..))
    | (with_reducible apply Good.step (State.writeCoreGate_good ..))
    | (with_reducible apply Good.step (State.writeGateRun_good ..))
    | exact rfl
    | (with_reducible apply Good.upd_clk)

theorem State.secWrite_good : ∀ s a1 a2 a3, Good 1099511629825 s (State.secWrite s a1 a2 a3) := by
  intro s a1 a2 a3
  unfold State.secWrite
  repeat' first
    | with_reducible exact Good.refl
    | with_reducible assumption
    | with_reducible apply Good.ite
    | (with_reducible apply Good.step (State.plainWrite_good ..))
    | (with_reducible apply Good.step (State.setInField_good ..))
    | (with_reducible refine Good.when (fun y hy => ?_) ?_)
    | exact rfl

theorem State.regWrite_good : ∀ s a1 a2 a3, Good 2956596982856969 s (State.regWrite s a1 a2 a3) := by
  intro s a1 a2 a3
  unfold State.regWrite
  repeat' first
    | with_reducible exact Good.refl
    | with_reducible assumption
    | with_reducible apply Good.ite
    | (with_reducible apply Good.step (State.celWrite_good ..))
    | (with_reducible apply Good.step (State.clkWrite_good ..))
    | (with_reducible apply Good.step (State.configWrite_good ..))
    | (with_reducible apply Good.step (State.drvWrite_good ..))
    | (with_reducible apply Good.step (State.macWrite_good ..))
    | (with_reducible apply Good.step (State.micWrite_good ..))
    | (with_reducible apply Good.step (State.mixWrite_good ..))
    | (with_reducible apply Good.step (State.ostWrite_good ..))
    | (with_reducible apply Good.step (State.plainWrite_good ..))
    | (with_reducible apply Good.step (State.pstWrite_good ..))
    | (with_reducible apply Good.step (State.pwsWrite_good ..))
    | (with_reducible apply Good.step (State.secWrite_good ..))
    | (with_reducible apply Good.step (State.sysWrite_good ..))
    | (with_reducible apply Good.step (State.tsuWrite_good ..))
    | exact rfl
    | (with_reducible apply Good.upd_pins)

theorem State.latch_good : ∀ s a1 a2, Good 64 s (State.latch s a1 a2) := by
  intro s a1 a2
  unfold State.latch
  repeat' first
    | with_reducible exact Good.refl
    | with_reducible assumption
    | exact rfl
    | (with_reducible apply Good.upd_latches)

theorem State.pairRead_good {s : State} {a : Nat} {x : Nat × State} (e : s.pairRead a = some x) : Good 64 s x.2 := by
  unfold State.pairRead at e
  split at e
  · cases e
    exact (State.latch_good ..).step rfl Good.refl
  · split at e
    · cases e
      exact Good.refl
    · cases e

theorem State.plainRead_good : ∀ s a1, Good 1 s (State.plainRead s a1).2 := by
  intro s a1
  unfold State.plainRead
  repeat' first
    | with_reducible exact Good.refl
    | with_reducible assumption
    | (extract_lets +onlyGivenNames x; clear_value x)
    | with_reducible apply Good.ite
    | with_reducible apply Good.ite_snd
    | (with_reducible apply Good.step (State.setReg_good ..))
    | dsimp -zeta only
    | exact rfl
    | split

theorem State.pstRead_good : ∀ s a1, Good 1 s (State.pstRead s a1).2 := by
  intro s a1
  unfold State.pstRead
  repeat' first
    | with_reducible exact Good.refl
    | with_reducible assumption
    | with_reducible apply Good.ite
    | with_reducible apply Good.ite_snd
    | (with_reducible apply Good.step (State.memAddrNext_good ..))
    | (with_reducible apply Good.step (State.plainRead_good ..))
    | (refine Good.snd ‹_› ?_)
    | dsimp -zeta only
    | exact rfl

theorem State.drvRead_good : ∀ s a1, Good 1 s (State.drvRead s a1).2 := by
  intro s a1
  unfold State.drvRead
  repeat' first
    | with_reducible exact Good.refl
    | with_reducible assumption
    | with_reducible apply Good.ite
    | with_reducible apply Good.ite_snd
    | (with_reducible apply Good.step (State.plainRead_good ..))
    | (refine Good.snd ‹_› ?_)
    | dsimp -zeta only
    | exact rfl
    | split

theorem State.ostRead_good : ∀ s a1, Good 1 s (State.ostRead s a1).2 := by
  intro s a1
  unfold State.ostRead
  repeat' first
    | with_reducible exact Good.refl
    | with_reducible assumption
    | (extract_lets +onlyGivenNames x; clear_value x)
    | with_reducible apply Good.ite
    | with_reducible apply Good.ite_snd
    | (with_reducible apply Good.step (State.plainRead_good ..))
    | (refine Good.snd ‹_› ?_)
    | dsimp -zeta only
    | exact rfl

theorem State.mixRead_good : ∀ s a1, Good 1 s (State.mixRead s a1).2 := by
  intro s a1
  unfold State.mixRead
  repeat' first
    | with_reducible exact Good.refl
    | with_reducible assumption
    | with_reducible apply Good.ite
    | with_reducible apply Good.ite_snd
    | (with_reducible apply Good.step (State.plainRead_good ..))
    | (refine Good.snd ‹_› ?_)
    | dsimp -zeta only
    | exact rfl

theorem State.tsuRead_good : ∀ s a1, Good 9 s (State.tsuRead s a1).2 := by
  intro s a1
  unfold State.tsuRead
  repeat' first
    | with_reducible exact Good.refl
    | with_reducible assumption
    | (with_reducible apply Good.step (State.plainRead_good ..))
    | (with_reducible apply Good.step (State.readTxq_good ..))
    | (refine Good.snd ‹_› ?_)
    | dsimp -zeta only
    | exact rfl
    | split

theorem State.octRead_good : ∀ s a1 a2, Good 8388672 s (State.octRead s a1 a2).2 := by
  intro s a1 a2
  unfold State.octRead
  repeat' first
    | with_reducible exact Good.refl
    | with_reducible assumption
    | (extract_lets +onlyGivenNames x; clear_value x)
    | with_reducible apply Good.ite
    | with_reducible apply Good.ite_snd
    | (with_reducible apply Good.step (State.latch_good ..))
    | (with_reducible apply Good.step (State.setMac_good ..))
    | dsimp -zeta only
    | exact rfl
    | split
    | (with_reducible apply Good.upd_latches)

theorem State.macRead_good : ∀ s a1, Good 8388673 s (State.macRead s a1).2 := by
  intro s a1
  unfold State.macRead
  repeat' first
    | with_reducible exact Good.refl
    | with_reducible assumption
    | (extract_lets +onlyGivenNames x; clear_value x)
    | with_reducible apply Good.ite
    | with_reducible apply Good.ite_snd
    | (with_reducible apply Good.step (State.octRead_good ..))
    | (with_reducible apply Good.step (State.plainRead_good ..))
    | (refine Good.snd ‹_› ?_)
    | dsimp -zeta only
    | exact rfl

theorem State.alignRead_good : ∀ s a1 a2 a3, Good 1 s (State.alignRead s a1 a2 a3).2.1 := by
  intro s a1 a2 a3
  unfold State.alignRead
  repeat' first
    | with_reducible exact Good.refl
    | with_reducible assumption
    | with_reducible apply Good.ite
    | (with_reducible apply Good.step (State.setReg_good ..))
    | dsimp -zeta only
    | exact rfl
    | split

theorem State.audioRead_good : ∀ s a1, Good 49153 s (State.audioRead s a1).2 := by
  intro s a1
  unfold State.audioRead
  repeat' first
    | with_reducible exact Good.refl
    | with_reducible assumption
    | (extract_lets +onlyGivenNames x; (have ht : type_of% x.2.1 = State := rfl); clear ht; refine Good.cut (x := x.2.1) ?_ ?_; (on_goal 1 => (unfold x; clear x)); (on_goal 2 => intro hx; clear_value x))
    | (extract_lets +onlyGivenNames x; clear_value x)
    | with_reducible apply Good.ite
    | with_reducible apply Good.ite_snd
    | (with_reducible apply Good.step (State.alignRead_good ..))
    | (with_reducible apply Good.step (State.latchRho_good ..))
    | (with_reducible apply Good.step (State.plainRead_good ..))
    | (with_reducible apply Good.step (State.setAes_good ..))
    | (with_reducible apply Good.step (State.setTdm_good ..))
    | (refine Good.mid ‹_› ?_)
    | (refine Good.snd ‹_› ?_)
    | dsimp -zeta only
    | exact rfl
    | split

theorem State.tlyRead_good : ∀ s a1, Good 4194305 s (State.tlyRead s a1).2 := by
  intro s a1
  unfold State.tlyRead
  repeat' first
    | with_reducible exact Good.refl
    | with_reducible assumption
    | (extract_lets +onlyGivenNames x; clear_value x)
    | with_reducible apply Good.ite
    | with_reducible apply Good.ite_snd
    | (with_reducible apply Good.step (State.plainRead_good ..))
    | (refine Good.snd ‹_› ?_)
    | dsimp -zeta only
    | exact rfl
    | split
    | (with_reducible apply Good.upd_tly)

theorem State.regRead_good : ∀ s a1, Good 562949966053481 s (State.regRead s a1).2 := by
  intro s a1
  unfold State.regRead
  repeat' first
    | with_reducible exact Good.refl
    | with_reducible assumption
    | (refine Good.step (State.pairRead_good ‹_›) ?_ ?_)
    | with_reducible apply Good.ite
    | with_reducible apply Good.ite_snd
    | (with_reducible apply Good.step (State.audioRead_good ..))
    | (with_reducible apply Good.step (State.clearErrors_good ..))
    | (with_reducible apply Good.step (State.countPanic_good ..))
    | (with_reducible apply Good.step (State.drvRead_good ..))
    | (with_reducible apply Good.step (State.fresh_good ..))
    | (with_reducible apply Good.step (State.macRead_good ..))
    | (with_reducible apply Good.step (State.mixRead_good ..))
    | (with_reducible apply Good.step (State.ostRead_good ..))
    | (with_reducible apply Good.step (State.plainRead_good ..))
    | (with_reducible apply Good.step (State.pstRead_good ..))
    | (with_reducible apply Good.step (State.tlyRead_good ..))
    | (with_reducible apply Good.step (State.tsuRead_good ..))
    | (refine Good.snd ‹_› ?_)
    | dsimp -zeta only
    | exact rfl
    | split

theorem State.putLanes_good : ∀ s a1 a2 a3, Good 16 s (State.putLanes s a1 a2 a3) := by
  intro s a1 a2 a3
  unfold State.putLanes
  repeat' first
    | with_reducible exact Good.refl
    | with_reducible assumption
    | with_reducible apply Good.ite
    | (with_reducible apply Good.foldl)
    | (with_reducible apply Good.foldl_snd)
    | (with_reducible apply Good.foldl_fst)
    | (intro x b h; try beta_reduce)
    | (with_reducible apply Good.step (State.setByte_good ..))
    | exact rfl

theorem State.memWrite_good : ∀ s a1 a2 a3, Good 16 s (State.memWrite s a1 a2 a3) := by
  intro s a1 a2 a3
  unfold State.memWrite
  repeat' first
    | with_reducible exact Good.refl
    | with_reducible assumption
    | with_reducible apply Good.ite
    | (with_reducible apply Good.step (State.putLanes_good ..))
    | exact rfl

theorem State.spotWrite_good : ∀ s a1 a2 a3 a4 a5 a6, Good 2956596982856985 s (State.spotWrite s a1 a2 a3 a4 a5 a6) := by
  intro s a1 a2 a3 a4 a5 a6
  unfold State.spotWrite
  repeat' first
    | with_reducible exact Good.refl
    | with_reducible assumption
    | with_reducible apply Good.ite
    | (with_reducible apply Good.foldl)
    | (with_reducible apply Good.foldl_snd)
    | (with_reducible apply Good.foldl_fst)
    | (intro x b h; try beta_reduce)
    | (with_reducible apply Good.step (State.busError_good ..))
    | (with_reducible apply Good.step (State.memWrite_good ..))
    | (with_reducible apply Good.step (State.putLanes_good ..))
    | (with_reducible apply Good.step (State.regWrite_good ..))
    | exact rfl
    | split

theorem State.busWrite_good : ∀ s a1 a2 a3 a4 a5, Good 4082496889699609 s (State.busWrite s a1 a2 a3 a4 a5) := by
  intro s a1 a2 a3 a4 a5
  unfold State.busWrite
  repeat' first
    | with_reducible exact Good.refl
    | with_reducible assumption
    | (extract_lets +onlyGivenNames x; (have ht : type_of% x = State := rfl); clear ht; refine Good.cut (x := x) ?_ ?_; (on_goal 1 => (unfold x; clear x)); (on_goal 2 => intro hx; clear_value x))
    | (with_reducible apply Good.step (State.busError_good ..))
    | (with_reducible apply Good.step (State.fabUse_good ..))
    | (with_reducible apply Good.step (State.spotWrite_good ..))
    | (with_reducible apply Good.step (State.votedWrite_good ..))
    | (with_reducible refine Good.when (fun y hy => ?_) ?_)
    | exact rfl
    | split

theorem State.spotRead_good : ∀ s a1 a2 a3 a4, Good 562949966053481 s (State.spotRead s a1 a2 a3 a4).2 := by
  intro s a1 a2 a3 a4
  unfold State.spotRead
  repeat' first
    | with_reducible exact Good.refl
    | with_reducible assumption
    | (with_reducible apply Good.step (State.busError_good ..))
    | (with_reducible apply Good.step (State.regRead_good ..))
    | (refine Good.snd ‹_› ?_)
    | dsimp -zeta only
    | exact rfl
    | split

theorem State.busRead_good : ∀ s a1 a2 a3, Good 1688849872896105 s (State.busRead s a1 a2 a3).2 := by
  intro s a1 a2 a3
  unfold State.busRead
  repeat' first
    | with_reducible exact Good.refl
    | with_reducible assumption
    | (with_reducible apply Good.step (State.busError_good ..))
    | (with_reducible apply Good.step (State.fabUse_good ..))
    | (with_reducible apply Good.step (State.spotRead_good ..))
    | (refine Good.snd ‹_› ?_)
    | dsimp -zeta only
    | exact rfl
    | split

end Sys2Proof.Machine
end

