-- ==== Sys2Proof/Laws/KeepDroverIssue.lean ====
section
/-! SUPPORT. What each operation of Machine/DroverIssue.lean changes, and that it keeps what every operation keeps. -/

-- One proof at a time: the package as one text then takes less memory.
set_option Elab.async false

namespace Sys2Proof.Machine

open Sys2Proof

theorem State.setElem_good : ∀ s a1 a2 a3, Good 16 s (State.setElem s a1 a2 a3) := by
  intro s a1 a2 a3
  unfold State.setElem
  repeat' first
    | with_reducible exact Good.refl
    | with_reducible assumption
    | (extract_lets +onlyGivenNames x; clear_value x)
    | (with_reducible apply Good.step (State.store_good ..))
    | exact rfl

theorem State.putElems_good : ∀ s a1 a2 a3 a4 a5, Good 16 s (State.putElems s a1 a2 a3 a4 a5) := by
  intro s a1 a2 a3 a4 a5
  unfold State.putElems
  repeat' first
    | with_reducible exact Good.refl
    | with_reducible assumption
    | (with_reducible apply Good.foldl)
    | (with_reducible apply Good.foldl_snd)
    | (with_reducible apply Good.foldl_fst)
    | (intro x b h; try beta_reduce)
    | (with_reducible apply Good.step (State.setElem_good ..))
    | exact rfl

theorem State.doL_good : ∀ s a1 a2 a3 a4 a5, Good 16 s (State.doL s a1 a2 a3 a4 a5).s := by
  intro s a1 a2 a3 a4 a5
  unfold State.doL
  repeat' first
    | with_reducible exact Good.refl
    | with_reducible assumption
    | (extract_lets +onlyGivenNames x; clear_value x)
    | with_reducible apply Good.ite
    | (with_reducible apply Good.foldl)
    | (with_reducible apply Good.foldl_snd)
    | (with_reducible apply Good.foldl_fst)
    | (with_reducible apply Good.step (State.putElems_good ..))
    | dsimp -zeta only
    | exact rfl
    | split

theorem State.doMem_good : ∀ s a1 a2 a3 a4, Good 4082496889699609 s (State.doMem s a1 a2 a3 a4).s := by
  intro s a1 a2 a3 a4
  unfold State.doMem
  repeat' first
    | with_reducible exact Good.refl
    | with_reducible assumption
    | (extract_lets +onlyGivenNames x; clear_value x)
    | with_reducible apply Good.ite
    | (with_reducible apply Good.step (State.busWrite_good ..))
    | (with_reducible apply Good.step (State.doL_good ..))
    | (with_reducible apply Good.step (State.store_good ..))
    | dsimp -zeta only
    | exact rfl
    | split

theorem State.accadd_good : ∀ s a1 a2 a3, Good 17 s (State.accadd s a1 a2 a3) := by
  intro s a1 a2 a3
  unfold State.accadd
  repeat' first
    | with_reducible exact Good.refl
    | with_reducible assumption
    | (extract_lets +onlyGivenNames x; clear_value x)
    | with_reducible apply Good.ite
    | (with_reducible apply Good.foldl)
    | (with_reducible apply Good.foldl_snd)
    | (with_reducible apply Good.foldl_fst)
    | (intro x b h; try beta_reduce)
    | (with_reducible apply Good.step (State.accAdd_good ..))
    | (with_reducible apply Good.step (State.busError_good ..))
    | exact rfl

theorem State.accrc_good : ∀ s a1 a2 a3, Good 17 s (State.accrc s a1 a2 a3).1 := by
  intro s a1 a2 a3
  unfold State.accrc
  repeat' first
    | with_reducible exact Good.refl
    | with_reducible assumption
    | (extract_lets +onlyGivenNames x; (have ht : type_of% x = State := rfl); clear ht; refine Good.cut (x := x) ?_ ?_; (on_goal 1 => (unfold x; clear x)); (on_goal 2 => intro hx; clear_value x))
    | (extract_lets +onlyGivenNames x; clear_value x)
    | with_reducible apply Good.ite
    | with_reducible apply Good.ite_fst
    | (with_reducible apply Good.step (State.accBad_good ..))
    | (with_reducible apply Good.step (State.busError_good ..))
    | (with_reducible apply Good.step (State.store_good ..))
    | dsimp -zeta only
    | exact rfl

theorem State.addRead_good : ∀ s a1 a2, Good 8192 s (State.addRead s a1 a2) := by
  intro s a1 a2
  unfold State.addRead
  repeat' first
    | with_reducible exact Good.refl
    | with_reducible assumption
    | (extract_lets +onlyGivenNames x; clear_value x)
    | (with_reducible apply Good.step (State.setCore_good ..))
    | exact rfl

theorem State.raise_good : ∀ s a1 a2 a3, Good 8193 s (State.raise s a1 a2 a3) := by
  intro s a1 a2 a3
  unfold State.raise
  repeat' first
    | with_reducible exact Good.refl
    | with_reducible assumption
    | (extract_lets +onlyGivenNames x; (have ht : type_of% x = State := rfl); clear ht; refine Good.cut (x := x) ?_ ?_; (on_goal 1 => (unfold x; clear x)); (on_goal 2 => intro hx; clear_value x))
    | (extract_lets +onlyGivenNames x; clear_value x)
    | with_reducible apply Good.ite
    | (with_reducible apply Good.step (State.setCore_good ..))
    | (with_reducible apply Good.step (State.wr_good ..))
    | exact rfl
    | split

theorem State.doPort_good : ∀ s a1 a2 a3, Good 1688849872908409 s (State.doPort s a1 a2 a3).1 := by
  intro s a1 a2 a3
  unfold State.doPort
  repeat' first
    | with_reducible exact Good.refl
    | with_reducible assumption
    | (refine Good.giveFrom ‹_› (State.give_good ..) rfl ?_)
    | (extract_lets +onlyGivenNames x; (have ht : type_of% x = State := rfl); clear ht; refine Good.cut (x := x) ?_ ?_; (on_goal 1 => (unfold x; clear x)); (on_goal 2 => intro hx; clear_value x))
    | (extract_lets +onlyGivenNames x; (have ht : type_of% x.2 = State := rfl); clear ht; refine Good.cut (x := x.2) ?_ ?_; (on_goal 1 => (unfold x; clear x)); (on_goal 2 => intro hx; clear_value x))
    | (extract_lets +onlyGivenNames x; (have ht : type_of% x.1 = State := rfl); clear ht; refine Good.cut (x := x.1) ?_ ?_; (on_goal 1 => (unfold x; clear x)); (on_goal 2 => intro hx; clear_value x))
    | (extract_lets +onlyGivenNames x; clear_value x)
    | with_reducible apply Good.ite
    | with_reducible apply Good.ite_fst
    | (with_reducible apply Good.step (State.accadd_good ..))
    | (with_reducible apply Good.step (State.accrc_good ..))
    | (with_reducible apply Good.step (State.addRead_good ..))
    | (with_reducible apply Good.step (State.busRead_good ..))
    | (with_reducible apply Good.step (State.setCore_good ..))
    | (refine Good.fst ‹_› ?_)
    | (refine Good.snd ‹_› ?_)
    | dsimp -zeta only
    | exact rfl
    | split

theorem State.startWait_good : ∀ s a1 a2, Good 8193 s (State.startWait s a1 a2) := by
  intro s a1 a2
  unfold State.startWait
  repeat' first
    | with_reducible exact Good.refl
    | with_reducible assumption
    | (extract_lets +onlyGivenNames x; (have ht : type_of% x = State := rfl); clear ht; refine Good.cut (x := x) ?_ ?_; (on_goal 1 => (unfold x; clear x)); (on_goal 2 => intro hx; clear_value x))
    | (extract_lets +onlyGivenNames x; clear_value x)
    | with_reducible apply Good.ite
    | (with_reducible apply Good.step (State.setCore_good ..))
    | (with_reducible apply Good.step (State.setCoreState_good ..))
    | exact rfl

theorem State.runBundle_good : ∀ s a1 a2 a3, Good 4082496889748857 s (State.runBundle s a1 a2 a3) := by
  intro s a1 a2 a3
  unfold State.runBundle
  repeat' first
    | with_reducible exact Good.refl
    | with_reducible assumption
    | (extract_lets +onlyGivenNames x; (have ht : type_of% x = State := rfl); clear ht; refine Good.cut (x := x) ?_ ?_; (on_goal 1 => (unfold x; clear x)); (on_goal 2 => intro hx; clear_value x))
    | (extract_lets +onlyGivenNames x; (have ht : type_of% x.1 = State := rfl); clear ht; refine Good.cut (x := x.1) ?_ ?_; (on_goal 1 => (unfold x; clear x)); (on_goal 2 => intro hx; clear_value x))
    | (extract_lets +onlyGivenNames x; clear_value x)
    | (with_reducible apply Good.step (State.doMem_good ..))
    | (with_reducible apply Good.step (State.doPort_good ..))
    | (with_reducible apply Good.step (State.raise_good ..))
    | (with_reducible apply Good.step (State.setCore_good ..))
    | (with_reducible apply Good.step (State.startWait_good ..))
    | (refine Good.fst ‹_› ?_)
    | exact rfl
    | split

theorem State.issue_good : ∀ s a1 a2 a3, Good 4082496889748857 s (State.issue s a1 a2 a3) := by
  intro s a1 a2 a3
  unfold State.issue
  repeat' first
    | with_reducible exact Good.refl
    | with_reducible assumption
    | (extract_lets +onlyGivenNames x; (have ht : type_of% x = State := rfl); clear ht; refine Good.cut (x := x) ?_ ?_; (on_goal 1 => (unfold x; clear x)); (on_goal 2 => intro hx; clear_value x))
    | (extract_lets +onlyGivenNames x; clear_value x)
    | with_reducible apply Good.ite
    | (with_reducible apply Good.step (State.askHalt_good ..))
    | (with_reducible apply Good.step (State.boundary_good ..))
    | (with_reducible apply Good.step (State.bump_good ..))
    | (with_reducible apply Good.step (State.coreCopies_good ..))
    | (with_reducible apply Good.step (State.raise_good ..))
    | (with_reducible apply Good.step (State.runBundle_good ..))
    | (with_reducible apply Good.step (State.setCore_good ..))
    | exact rfl

theorem State.stepCore_good : ∀ s a1, Good 4082496889748857 s (State.stepCore s a1) := by
  intro s a1
  unfold State.stepCore
  repeat' first
    | with_reducible exact Good.refl
    | with_reducible assumption
    | (extract_lets +onlyGivenNames x; (have ht : type_of% x = State := rfl); clear ht; refine Good.cut (x := x) ?_ ?_; (on_goal 1 => (unfold x; clear x)); (on_goal 2 => intro hx; clear_value x))
    | (extract_lets +onlyGivenNames x; clear_value x)
    | with_reducible apply Good.ite
    | (with_reducible apply Good.step (State.coreCopies_good ..))
    | (with_reducible apply Good.step (State.issue_good ..))
    | (with_reducible apply Good.step (State.setCore_good ..))
    | (with_reducible apply Good.step (State.setCoreState_good ..))
    | exact rfl

theorem State.runSteps_good : ∀ s a1, Good 4082496889748857 s (State.runSteps s a1) := by
  intro s a1
  induction a1 generalizing s with
  | zero => exact Good.refl
  | succ n ih =>
    unfold State.runSteps
    repeat' first
      | with_reducible exact Good.refl
      | with_reducible assumption
      | (with_reducible apply Good.step (ih ..))
      | (with_reducible apply Good.step (State.issue_good ..))
      | (with_reducible apply Good.step (State.setCore_good ..))
      | (with_reducible apply Good.step (State.stepCore_good ..))
      | exact rfl
      | split

theorem State.command_good : ∀ s a1 a2, Good 4082496889748857 s (State.command s a1 a2) := by
  intro s a1 a2
  unfold State.command
  repeat' first
    | with_reducible exact Good.refl
    | with_reducible assumption
    | (extract_lets +onlyGivenNames x; (have ht : type_of% x = State := rfl); clear ht; refine Good.cut (x := x) ?_ ?_; (on_goal 1 => (unfold x; clear x)); (on_goal 2 => intro hx; clear_value x))
    | (extract_lets +onlyGivenNames x; clear_value x)
    | with_reducible apply Good.ite
    | (with_reducible apply Good.step (State.issue_good ..))
    | (with_reducible apply Good.step (State.runSteps_good ..))
    | exact rfl

end Sys2Proof.Machine
end

