-- ==== Sys2Proof/Laws/KeepDrover.lean ====
section
/-! SUPPORT. What each operation of Machine/Drover.lean changes, and that it keeps what every operation keeps. -/

-- One proof at a time: the package as one text then takes less memory.
set_option Elab.async false

namespace Sys2Proof.Machine

open Sys2Proof

theorem execDrvNop_good : ∀ a0 s, GoodO 4082496889748857 s (execDrvNop a0 s) := by
  intro a0 s
  unfold execDrvNop
  repeat' first
    | with_reducible exact Good.refl
    | with_reducible assumption
    | with_reducible apply GoodO.next
    | with_reducible apply GoodO.ite
    | (with_reducible apply Good.step (State.command_good ..))
    | exact rfl

theorem execDrvMac_good : ∀ a0 a1 s, GoodO 4082496889748857 s (execDrvMac a0 a1 s) := by
  intro a0 a1 s
  unfold execDrvMac
  repeat' first
    | with_reducible exact Good.refl
    | with_reducible assumption
    | with_reducible apply GoodO.next
    | with_reducible apply GoodO.ite
    | (with_reducible apply Good.step (State.command_good ..))
    | exact rfl

theorem execDrvCmr_good : ∀ a0 a1 s, GoodO 4082496889748857 s (execDrvCmr a0 a1 s) := by
  intro a0 a1 s
  unfold execDrvCmr
  repeat' first
    | with_reducible exact Good.refl
    | with_reducible assumption
    | with_reducible apply GoodO.next
    | with_reducible apply GoodO.ite
    | (with_reducible apply Good.step (State.command_good ..))
    | exact rfl

theorem execDrvCmi_good : ∀ a0 a1 s, GoodO 4082496889748857 s (execDrvCmi a0 a1 s) := by
  intro a0 a1 s
  unfold execDrvCmi
  repeat' first
    | with_reducible exact Good.refl
    | with_reducible assumption
    | with_reducible apply GoodO.next
    | with_reducible apply GoodO.ite
    | (with_reducible apply Good.step (State.command_good ..))
    | exact rfl

theorem execDrvAccw_good : ∀ a0 a1 s, GoodO 4082496889748857 s (execDrvAccw a0 a1 s) := by
  intro a0 a1 s
  unfold execDrvAccw
  repeat' first
    | with_reducible exact Good.refl
    | with_reducible assumption
    | with_reducible apply GoodO.next
    | with_reducible apply GoodO.ite
    | (with_reducible apply Good.step (State.command_good ..))
    | exact rfl

theorem execDrvMova_good : ∀ a0 a1 s, GoodO 4082496889748857 s (execDrvMova a0 a1 s) := by
  intro a0 a1 s
  unfold execDrvMova
  repeat' first
    | with_reducible exact Good.refl
    | with_reducible assumption
    | with_reducible apply GoodO.next
    | with_reducible apply GoodO.ite
    | (with_reducible apply Good.step (State.command_good ..))
    | exact rfl

theorem execDrvAmovx_good : ∀ a0 a1 s, GoodO 4082496889748857 s (execDrvAmovx a0 a1 s) := by
  intro a0 a1 s
  unfold execDrvAmovx
  repeat' first
    | with_reducible exact Good.refl
    | with_reducible assumption
    | with_reducible apply GoodO.next
    | with_reducible apply GoodO.ite
    | (with_reducible apply Good.step (State.command_good ..))
    | exact rfl

theorem execDrvLcoef_good : ∀ a0 a1 s, GoodO 4082496889748857 s (execDrvLcoef a0 a1 s) := by
  intro a0 a1 s
  unfold execDrvLcoef
  repeat' first
    | with_reducible exact Good.refl
    | with_reducible assumption
    | with_reducible apply GoodO.next
    | with_reducible apply GoodO.ite
    | (with_reducible apply Good.step (State.command_good ..))
    | exact rfl

theorem execDrvVadd_good : ∀ a0 a1 s, GoodO 4082496889748857 s (execDrvVadd a0 a1 s) := by
  intro a0 a1 s
  unfold execDrvVadd
  repeat' first
    | with_reducible exact Good.refl
    | with_reducible assumption
    | with_reducible apply GoodO.next
    | with_reducible apply GoodO.ite
    | (with_reducible apply Good.step (State.command_good ..))
    | exact rfl

theorem execDrvVsub_good : ∀ a0 a1 s, GoodO 4082496889748857 s (execDrvVsub a0 a1 s) := by
  intro a0 a1 s
  unfold execDrvVsub
  repeat' first
    | with_reducible exact Good.refl
    | with_reducible assumption
    | with_reducible apply GoodO.next
    | with_reducible apply GoodO.ite
    | (with_reducible apply Good.step (State.command_good ..))
    | exact rfl

theorem execDrvVmax_good : ∀ a0 a1 s, GoodO 4082496889748857 s (execDrvVmax a0 a1 s) := by
  intro a0 a1 s
  unfold execDrvVmax
  repeat' first
    | with_reducible exact Good.refl
    | with_reducible assumption
    | with_reducible apply GoodO.next
    | with_reducible apply GoodO.ite
    | (with_reducible apply Good.step (State.command_good ..))
    | exact rfl

theorem execDrvVmin_good : ∀ a0 a1 s, GoodO 4082496889748857 s (execDrvVmin a0 a1 s) := by
  intro a0 a1 s
  unfold execDrvVmin
  repeat' first
    | with_reducible exact Good.refl
    | with_reducible assumption
    | with_reducible apply GoodO.next
    | with_reducible apply GoodO.ite
    | (with_reducible apply Good.step (State.command_good ..))
    | exact rfl

theorem execDrvVabs_good : ∀ a0 a1 s, GoodO 4082496889748857 s (execDrvVabs a0 a1 s) := by
  intro a0 a1 s
  unfold execDrvVabs
  repeat' first
    | with_reducible exact Good.refl
    | with_reducible assumption
    | with_reducible apply GoodO.next
    | with_reducible apply GoodO.ite
    | (with_reducible apply Good.step (State.command_good ..))
    | exact rfl

theorem execDrvVshr_good : ∀ a0 a1 s, GoodO 4082496889748857 s (execDrvVshr a0 a1 s) := by
  intro a0 a1 s
  unfold execDrvVshr
  repeat' first
    | with_reducible exact Good.refl
    | with_reducible assumption
    | with_reducible apply GoodO.next
    | with_reducible apply GoodO.ite
    | (with_reducible apply Good.step (State.command_good ..))
    | exact rfl

theorem execDrvVshl_good : ∀ a0 a1 s, GoodO 4082496889748857 s (execDrvVshl a0 a1 s) := by
  intro a0 a1 s
  unfold execDrvVshl
  repeat' first
    | with_reducible exact Good.refl
    | with_reducible assumption
    | with_reducible apply GoodO.next
    | with_reducible apply GoodO.ite
    | (with_reducible apply Good.step (State.command_good ..))
    | exact rfl

theorem execDrvVswp_good : ∀ a0 a1 s, GoodO 4082496889748857 s (execDrvVswp a0 a1 s) := by
  intro a0 a1 s
  unfold execDrvVswp
  repeat' first
    | with_reducible exact Good.refl
    | with_reducible assumption
    | with_reducible apply GoodO.next
    | with_reducible apply GoodO.ite
    | (with_reducible apply Good.step (State.command_good ..))
    | exact rfl

theorem execDrvVbc_good : ∀ a0 a1 s, GoodO 4082496889748857 s (execDrvVbc a0 a1 s) := by
  intro a0 a1 s
  unfold execDrvVbc
  repeat' first
    | with_reducible exact Good.refl
    | with_reducible assumption
    | with_reducible apply GoodO.next
    | with_reducible apply GoodO.ite
    | (with_reducible apply Good.step (State.command_good ..))
    | exact rfl

theorem execDrvVmov_good : ∀ a0 a1 s, GoodO 4082496889748857 s (execDrvVmov a0 a1 s) := by
  intro a0 a1 s
  unfold execDrvVmov
  repeat' first
    | with_reducible exact Good.refl
    | with_reducible assumption
    | with_reducible apply GoodO.next
    | with_reducible apply GoodO.ite
    | (with_reducible apply Good.step (State.command_good ..))
    | exact rfl

theorem execDrvMovxv_good : ∀ a0 a1 s, GoodO 4082496889748857 s (execDrvMovxv a0 a1 s) := by
  intro a0 a1 s
  unfold execDrvMovxv
  repeat' first
    | with_reducible exact Good.refl
    | with_reducible assumption
    | with_reducible apply GoodO.next
    | with_reducible apply GoodO.ite
    | (with_reducible apply Good.step (State.command_good ..))
    | exact rfl

theorem execDrvMovvx_good : ∀ a0 a1 s, GoodO 4082496889748857 s (execDrvMovvx a0 a1 s) := by
  intro a0 a1 s
  unfold execDrvMovvx
  repeat' first
    | with_reducible exact Good.refl
    | with_reducible assumption
    | with_reducible apply GoodO.next
    | with_reducible apply GoodO.ite
    | (with_reducible apply Good.step (State.command_good ..))
    | exact rfl

theorem execDrvTapph_good : ∀ a0 a1 s, GoodO 4082496889748857 s (execDrvTapph a0 a1 s) := by
  intro a0 a1 s
  unfold execDrvTapph
  repeat' first
    | with_reducible exact Good.refl
    | with_reducible assumption
    | with_reducible apply GoodO.next
    | with_reducible apply GoodO.ite
    | (with_reducible apply Good.step (State.command_good ..))
    | exact rfl

theorem execDrvTapgn_good : ∀ a0 a1 s, GoodO 4082496889748857 s (execDrvTapgn a0 a1 s) := by
  intro a0 a1 s
  unfold execDrvTapgn
  repeat' first
    | with_reducible exact Good.refl
    | with_reducible assumption
    | with_reducible apply GoodO.next
    | with_reducible apply GoodO.ite
    | (with_reducible apply Good.step (State.command_good ..))
    | exact rfl

theorem execDrvLdv_good : ∀ a0 a1 s, GoodO 4082496889748857 s (execDrvLdv a0 a1 s) := by
  intro a0 a1 s
  unfold execDrvLdv
  repeat' first
    | with_reducible exact Good.refl
    | with_reducible assumption
    | with_reducible apply GoodO.next
    | with_reducible apply GoodO.ite
    | (with_reducible apply Good.step (State.command_good ..))
    | exact rfl

theorem execDrvStv_good : ∀ a0 a1 s, GoodO 4082496889748857 s (execDrvStv a0 a1 s) := by
  intro a0 a1 s
  unfold execDrvStv
  repeat' first
    | with_reducible exact Good.refl
    | with_reducible assumption
    | with_reducible apply GoodO.next
    | with_reducible apply GoodO.ite
    | (with_reducible apply Good.step (State.command_good ..))
    | exact rfl

theorem execDrvSta_good : ∀ a0 a1 s, GoodO 4082496889748857 s (execDrvSta a0 a1 s) := by
  intro a0 a1 s
  unfold execDrvSta
  repeat' first
    | with_reducible exact Good.refl
    | with_reducible assumption
    | with_reducible apply GoodO.next
    | with_reducible apply GoodO.ite
    | (with_reducible apply Good.step (State.command_good ..))
    | exact rfl

theorem execDrvStas_good : ∀ a0 a1 s, GoodO 4082496889748857 s (execDrvStas a0 a1 s) := by
  intro a0 a1 s
  unfold execDrvStas
  repeat' first
    | with_reducible exact Good.refl
    | with_reducible assumption
    | with_reducible apply GoodO.next
    | with_reducible apply GoodO.ite
    | (with_reducible apply Good.step (State.command_good ..))
    | exact rfl

theorem execDrvLdw_good : ∀ a0 a1 s, GoodO 4082496889748857 s (execDrvLdw a0 a1 s) := by
  intro a0 a1 s
  unfold execDrvLdw
  repeat' first
    | with_reducible exact Good.refl
    | with_reducible assumption
    | with_reducible apply GoodO.next
    | with_reducible apply GoodO.ite
    | (with_reducible apply Good.step (State.command_good ..))
    | exact rfl

theorem execDrvStw_good : ∀ a0 a1 s, GoodO 4082496889748857 s (execDrvStw a0 a1 s) := by
  intro a0 a1 s
  unfold execDrvStw
  repeat' first
    | with_reducible exact Good.refl
    | with_reducible assumption
    | with_reducible apply GoodO.next
    | with_reducible apply GoodO.ite
    | (with_reducible apply Good.step (State.command_good ..))
    | exact rfl

theorem execDrvLdwf_good : ∀ a0 a1 s, GoodO 4082496889748857 s (execDrvLdwf a0 a1 s) := by
  intro a0 a1 s
  unfold execDrvLdwf
  repeat' first
    | with_reducible exact Good.refl
    | with_reducible assumption
    | with_reducible apply GoodO.next
    | with_reducible apply GoodO.ite
    | (with_reducible apply Good.step (State.command_good ..))
    | exact rfl

theorem execDrvStwf_good : ∀ a0 a1 s, GoodO 4082496889748857 s (execDrvStwf a0 a1 s) := by
  intro a0 a1 s
  unfold execDrvStwf
  repeat' first
    | with_reducible exact Good.refl
    | with_reducible assumption
    | with_reducible apply GoodO.next
    | with_reducible apply GoodO.ite
    | (with_reducible apply Good.step (State.command_good ..))
    | exact rfl

theorem execDrvAdd_good : ∀ a0 a1 s, GoodO 4082496889748857 s (execDrvAdd a0 a1 s) := by
  intro a0 a1 s
  unfold execDrvAdd
  repeat' first
    | with_reducible exact Good.refl
    | with_reducible assumption
    | with_reducible apply GoodO.next
    | with_reducible apply GoodO.ite
    | (with_reducible apply Good.step (State.command_good ..))
    | exact rfl

theorem execDrvSub_good : ∀ a0 a1 s, GoodO 4082496889748857 s (execDrvSub a0 a1 s) := by
  intro a0 a1 s
  unfold execDrvSub
  repeat' first
    | with_reducible exact Good.refl
    | with_reducible assumption
    | with_reducible apply GoodO.next
    | with_reducible apply GoodO.ite
    | (with_reducible apply Good.step (State.command_good ..))
    | exact rfl

theorem execDrvAnd_good : ∀ a0 a1 s, GoodO 4082496889748857 s (execDrvAnd a0 a1 s) := by
  intro a0 a1 s
  unfold execDrvAnd
  repeat' first
    | with_reducible exact Good.refl
    | with_reducible assumption
    | with_reducible apply GoodO.next
    | with_reducible apply GoodO.ite
    | (with_reducible apply Good.step (State.command_good ..))
    | exact rfl

theorem execDrvOr_good : ∀ a0 a1 s, GoodO 4082496889748857 s (execDrvOr a0 a1 s) := by
  intro a0 a1 s
  unfold execDrvOr
  repeat' first
    | with_reducible exact Good.refl
    | with_reducible assumption
    | with_reducible apply GoodO.next
    | with_reducible apply GoodO.ite
    | (with_reducible apply Good.step (State.command_good ..))
    | exact rfl

theorem execDrvXor_good : ∀ a0 a1 s, GoodO 4082496889748857 s (execDrvXor a0 a1 s) := by
  intro a0 a1 s
  unfold execDrvXor
  repeat' first
    | with_reducible exact Good.refl
    | with_reducible assumption
    | with_reducible apply GoodO.next
    | with_reducible apply GoodO.ite
    | (with_reducible apply Good.step (State.command_good ..))
    | exact rfl

theorem execDrvShl_good : ∀ a0 a1 s, GoodO 4082496889748857 s (execDrvShl a0 a1 s) := by
  intro a0 a1 s
  unfold execDrvShl
  repeat' first
    | with_reducible exact Good.refl
    | with_reducible assumption
    | with_reducible apply GoodO.next
    | with_reducible apply GoodO.ite
    | (with_reducible apply Good.step (State.command_good ..))
    | exact rfl

theorem execDrvShr_good : ∀ a0 a1 s, GoodO 4082496889748857 s (execDrvShr a0 a1 s) := by
  intro a0 a1 s
  unfold execDrvShr
  repeat' first
    | with_reducible exact Good.refl
    | with_reducible assumption
    | with_reducible apply GoodO.next
    | with_reducible apply GoodO.ite
    | (with_reducible apply Good.step (State.command_good ..))
    | exact rfl

theorem execDrvSra_good : ∀ a0 a1 s, GoodO 4082496889748857 s (execDrvSra a0 a1 s) := by
  intro a0 a1 s
  unfold execDrvSra
  repeat' first
    | with_reducible exact Good.refl
    | with_reducible assumption
    | with_reducible apply GoodO.next
    | with_reducible apply GoodO.ite
    | (with_reducible apply Good.step (State.command_good ..))
    | exact rfl

theorem execDrvCmp_good : ∀ a0 a1 s, GoodO 4082496889748857 s (execDrvCmp a0 a1 s) := by
  intro a0 a1 s
  unfold execDrvCmp
  repeat' first
    | with_reducible exact Good.refl
    | with_reducible assumption
    | with_reducible apply GoodO.next
    | with_reducible apply GoodO.ite
    | (with_reducible apply Good.step (State.command_good ..))
    | exact rfl

theorem execDrvMulx_good : ∀ a0 a1 s, GoodO 4082496889748857 s (execDrvMulx a0 a1 s) := by
  intro a0 a1 s
  unfold execDrvMulx
  repeat' first
    | with_reducible exact Good.refl
    | with_reducible assumption
    | with_reducible apply GoodO.next
    | with_reducible apply GoodO.ite
    | (with_reducible apply Good.step (State.command_good ..))
    | exact rfl

theorem execDrvExtu_good : ∀ a0 a1 s, GoodO 4082496889748857 s (execDrvExtu a0 a1 s) := by
  intro a0 a1 s
  unfold execDrvExtu
  repeat' first
    | with_reducible exact Good.refl
    | with_reducible assumption
    | with_reducible apply GoodO.next
    | with_reducible apply GoodO.ite
    | (with_reducible apply Good.step (State.command_good ..))
    | exact rfl

theorem execDrvExts_good : ∀ a0 a1 s, GoodO 4082496889748857 s (execDrvExts a0 a1 s) := by
  intro a0 a1 s
  unfold execDrvExts
  repeat' first
    | with_reducible exact Good.refl
    | with_reducible assumption
    | with_reducible apply GoodO.next
    | with_reducible apply GoodO.ite
    | (with_reducible apply Good.step (State.command_good ..))
    | exact rfl

theorem execDrvAddi_good : ∀ a0 a1 s, GoodO 4082496889748857 s (execDrvAddi a0 a1 s) := by
  intro a0 a1 s
  unfold execDrvAddi
  repeat' first
    | with_reducible exact Good.refl
    | with_reducible assumption
    | with_reducible apply GoodO.next
    | with_reducible apply GoodO.ite
    | (with_reducible apply Good.step (State.command_good ..))
    | exact rfl

theorem execDrvMovi_good : ∀ a0 a1 s, GoodO 4082496889748857 s (execDrvMovi a0 a1 s) := by
  intro a0 a1 s
  unfold execDrvMovi
  repeat' first
    | with_reducible exact Good.refl
    | with_reducible assumption
    | with_reducible apply GoodO.next
    | with_reducible apply GoodO.ite
    | (with_reducible apply Good.step (State.command_good ..))
    | exact rfl

theorem execDrvMovhi_good : ∀ a0 a1 s, GoodO 4082496889748857 s (execDrvMovhi a0 a1 s) := by
  intro a0 a1 s
  unfold execDrvMovhi
  repeat' first
    | with_reducible exact Good.refl
    | with_reducible assumption
    | with_reducible apply GoodO.next
    | with_reducible apply GoodO.ite
    | (with_reducible apply Good.step (State.command_good ..))
    | exact rfl

theorem execDrvAgset_good : ∀ a0 a1 s, GoodO 4082496889748857 s (execDrvAgset a0 a1 s) := by
  intro a0 a1 s
  unfold execDrvAgset
  repeat' first
    | with_reducible exact Good.refl
    | with_reducible assumption
    | with_reducible apply GoodO.next
    | with_reducible apply GoodO.ite
    | (with_reducible apply Good.step (State.command_good ..))
    | exact rfl

theorem execDrvAgget_good : ∀ a0 a1 s, GoodO 4082496889748857 s (execDrvAgget a0 a1 s) := by
  intro a0 a1 s
  unfold execDrvAgget
  repeat' first
    | with_reducible exact Good.refl
    | with_reducible assumption
    | with_reducible apply GoodO.next
    | with_reducible apply GoodO.ite
    | (with_reducible apply Good.step (State.command_good ..))
    | exact rfl

theorem execDrvMts_good : ∀ a0 a1 s, GoodO 4082496889748857 s (execDrvMts a0 a1 s) := by
  intro a0 a1 s
  unfold execDrvMts
  repeat' first
    | with_reducible exact Good.refl
    | with_reducible assumption
    | with_reducible apply GoodO.next
    | with_reducible apply GoodO.ite
    | (with_reducible apply Good.step (State.command_good ..))
    | exact rfl

theorem execDrvMfs_good : ∀ a0 a1 s, GoodO 4082496889748857 s (execDrvMfs a0 a1 s) := by
  intro a0 a1 s
  unfold execDrvMfs
  repeat' first
    | with_reducible exact Good.refl
    | with_reducible assumption
    | with_reducible apply GoodO.next
    | with_reducible apply GoodO.ite
    | (with_reducible apply Good.step (State.command_good ..))
    | exact rfl

theorem execDrvScstep_good : ∀ a0 a1 s, GoodO 4082496889748857 s (execDrvScstep a0 a1 s) := by
  intro a0 a1 s
  unfold execDrvScstep
  repeat' first
    | with_reducible exact Good.refl
    | with_reducible assumption
    | with_reducible apply GoodO.next
    | with_reducible apply GoodO.ite
    | (with_reducible apply Good.step (State.command_good ..))
    | exact rfl

theorem execDrvBr_good : ∀ a0 a1 s, GoodO 4082496889748857 s (execDrvBr a0 a1 s) := by
  intro a0 a1 s
  unfold execDrvBr
  repeat' first
    | with_reducible exact Good.refl
    | with_reducible assumption
    | with_reducible apply GoodO.next
    | with_reducible apply GoodO.ite
    | (with_reducible apply Good.step (State.command_good ..))
    | exact rfl

theorem execDrvBrx_good : ∀ a0 a1 s, GoodO 4082496889748857 s (execDrvBrx a0 a1 s) := by
  intro a0 a1 s
  unfold execDrvBrx
  repeat' first
    | with_reducible exact Good.refl
    | with_reducible assumption
    | with_reducible apply GoodO.next
    | with_reducible apply GoodO.ite
    | (with_reducible apply Good.step (State.command_good ..))
    | exact rfl

theorem execDrvCall_good : ∀ a0 a1 s, GoodO 4082496889748857 s (execDrvCall a0 a1 s) := by
  intro a0 a1 s
  unfold execDrvCall
  repeat' first
    | with_reducible exact Good.refl
    | with_reducible assumption
    | with_reducible apply GoodO.next
    | with_reducible apply GoodO.ite
    | (with_reducible apply Good.step (State.command_good ..))
    | exact rfl

theorem execDrvLoop_good : ∀ a0 a1 s, GoodO 4082496889748857 s (execDrvLoop a0 a1 s) := by
  intro a0 a1 s
  unfold execDrvLoop
  repeat' first
    | with_reducible exact Good.refl
    | with_reducible assumption
    | with_reducible apply GoodO.next
    | with_reducible apply GoodO.ite
    | (with_reducible apply Good.step (State.command_good ..))
    | exact rfl

theorem execDrvReti_good : ∀ a0 a1 s, GoodO 4082496889748857 s (execDrvReti a0 a1 s) := by
  intro a0 a1 s
  unfold execDrvReti
  repeat' first
    | with_reducible exact Good.refl
    | with_reducible assumption
    | with_reducible apply GoodO.next
    | with_reducible apply GoodO.ite
    | (with_reducible apply Good.step (State.command_good ..))
    | exact rfl

theorem execDrvTake_good : ∀ a0 a1 s, GoodO 4082496889748857 s (execDrvTake a0 a1 s) := by
  intro a0 a1 s
  unfold execDrvTake
  repeat' first
    | with_reducible exact Good.refl
    | with_reducible assumption
    | with_reducible apply GoodO.next
    | with_reducible apply GoodO.ite
    | (with_reducible apply Good.step (State.command_good ..))
    | exact rfl

theorem execDrvGive_good : ∀ a0 a1 s, GoodO 4082496889748857 s (execDrvGive a0 a1 s) := by
  intro a0 a1 s
  unfold execDrvGive
  repeat' first
    | with_reducible exact Good.refl
    | with_reducible assumption
    | with_reducible apply GoodO.next
    | with_reducible apply GoodO.ite
    | (with_reducible apply Good.step (State.command_good ..))
    | exact rfl

theorem execDrvDone_good : ∀ a0 a1 s, GoodO 4082496889748857 s (execDrvDone a0 a1 s) := by
  intro a0 a1 s
  unfold execDrvDone
  repeat' first
    | with_reducible exact Good.refl
    | with_reducible assumption
    | with_reducible apply GoodO.next
    | with_reducible apply GoodO.ite
    | (with_reducible apply Good.step (State.command_good ..))
    | exact rfl

theorem execDrvTapset_good : ∀ a0 a1 s, GoodO 4082496889748857 s (execDrvTapset a0 a1 s) := by
  intro a0 a1 s
  unfold execDrvTapset
  repeat' first
    | with_reducible exact Good.refl
    | with_reducible assumption
    | with_reducible apply GoodO.next
    | with_reducible apply GoodO.ite
    | (with_reducible apply Good.step (State.command_good ..))
    | exact rfl

theorem execDrvTaprd_good : ∀ a0 a1 s, GoodO 4082496889748857 s (execDrvTaprd a0 a1 s) := by
  intro a0 a1 s
  unfold execDrvTaprd
  repeat' first
    | with_reducible exact Good.refl
    | with_reducible assumption
    | with_reducible apply GoodO.next
    | with_reducible apply GoodO.ite
    | (with_reducible apply Good.step (State.command_good ..))
    | exact rfl

theorem execDrvAccadd_good : ∀ a0 a1 s, GoodO 4082496889748857 s (execDrvAccadd a0 a1 s) := by
  intro a0 a1 s
  unfold execDrvAccadd
  repeat' first
    | with_reducible exact Good.refl
    | with_reducible assumption
    | with_reducible apply GoodO.next
    | with_reducible apply GoodO.ite
    | (with_reducible apply Good.step (State.command_good ..))
    | exact rfl

theorem execDrvAccrc_good : ∀ a0 a1 s, GoodO 4082496889748857 s (execDrvAccrc a0 a1 s) := by
  intro a0 a1 s
  unfold execDrvAccrc
  repeat' first
    | with_reducible exact Good.refl
    | with_reducible assumption
    | with_reducible apply GoodO.next
    | with_reducible apply GoodO.ite
    | (with_reducible apply Good.step (State.command_good ..))
    | exact rfl

theorem execCoreRun_good : ∀ a0 s, GoodO 4082496889748857 s (execCoreRun a0 s) := by
  intro a0 s
  unfold execCoreRun
  repeat' first
    | with_reducible exact Good.refl
    | with_reducible assumption
    | with_reducible apply GoodO.next
    | with_reducible apply GoodO.ite
    | with_reducible apply Good.ite
    | (with_reducible apply Good.step (State.runSteps_good ..))
    | (with_reducible apply Good.step (State.setRun_good ..))
    | exact rfl

theorem execDrvStep_good : ∀ a0 s, GoodO 4082496889748857 s (execDrvStep a0 s) := by
  intro a0 s
  unfold execDrvStep
  repeat' first
    | with_reducible exact Good.refl
    | with_reducible assumption
    | with_reducible apply GoodO.next
    | with_reducible apply GoodO.ite
    | (with_reducible apply Good.step (State.runSteps_good ..))
    | (with_reducible apply Good.step (State.stepCore_good ..))
    | exact rfl

theorem execPortReadArrival_good : ∀ a0 a1 s, GoodO 4082496889748857 s (execPortReadArrival a0 a1 s) := by
  intro a0 a1 s
  unfold execPortReadArrival
  repeat' first
    | with_reducible exact Good.refl
    | with_reducible assumption
    | (extract_lets +onlyGivenNames x; clear_value x)
    | with_reducible apply GoodO.next
    | with_reducible apply GoodO.ite
    | with_reducible apply Good.ite
    | (with_reducible apply Good.step (State.coreCopies_good ..))
    | (with_reducible apply Good.step (State.runSteps_good ..))
    | (with_reducible apply Good.step (State.setCore_good ..))
    | exact rfl
    | split

end Sys2Proof.Machine
end

