-- ==== Sys2Proof/Laws/KeepBusCmds.lean ====
section
/-! SUPPORT. What each operation of Machine/BusCmds.lean changes, and that it keeps what every operation keeps. -/

-- One proof at a time: the package as one text then takes less memory.
set_option Elab.async false

namespace Sys2Proof.Machine

open Sys2Proof

theorem execRegisterWrite_good : ∀ a0 a1 a2 a3 a4 a5 s, GoodO 4082496889748857 s (execRegisterWrite a0 a1 a2 a3 a4 a5 s) := by
  intro a0 a1 a2 a3 a4 a5 s
  unfold execRegisterWrite
  repeat' first
    | with_reducible exact Good.refl
    | with_reducible assumption
    | (extract_lets +onlyGivenNames x; (have ht : type_of% x = State := rfl); clear ht; refine GoodO.cut (x := x) ?_ ?_; (on_goal 1 => (unfold x; clear x)); (on_goal 2 => intro hx; clear_value x))
    | (extract_lets +onlyGivenNames x; (have ht : type_of% x = State := rfl); clear ht; refine Good.cut (x := x) ?_ ?_; (on_goal 1 => (unfold x; clear x)); (on_goal 2 => intro hx; clear_value x))
    | with_reducible apply GoodO.next
    | with_reducible apply GoodO.ite
    | with_reducible apply Good.ite
    | (with_reducible apply Good.step (State.atRaw_good ..))
    | (with_reducible apply Good.step (State.busWrite_good ..))
    | (with_reducible apply Good.step (State.runSteps_good ..))
    | exact rfl

theorem State.rawWords_good : ∀ s a1 a2, Good 1688849872896105 s (State.rawWords s a1 a2).2 := by
  intro s a1 a2
  induction a2 generalizing s a1 with
  | zero => exact Good.refl
  | succ n ih =>
    unfold State.rawWords
    repeat' first
      | with_reducible exact Good.refl
      | with_reducible assumption
      | (with_reducible apply Good.step (ih ..))
      | (with_reducible apply Good.step (State.busRead_good ..))
      | (refine Good.snd ‹_› ?_)
      | dsimp -zeta only
      | exact rfl

theorem State.rawPut_good : ∀ s a1 a2, Good 4082496889699609 s (State.rawPut s a1 a2) := by
  intro s a1 a2
  induction a2 generalizing s a1 with
  | nil => exact Good.refl
  | cons z zs ih =>
    unfold State.rawPut
    repeat' first
      | with_reducible exact Good.refl
      | with_reducible assumption
      | (with_reducible apply Good.step (ih ..))
      | (with_reducible apply Good.step (State.busWrite_good ..))
      | exact rfl

theorem execRawRead_good : ∀ a0 a1 a2 s, GoodO 1688859536572521 s (execRawRead a0 a1 a2 s) := by
  intro a0 a1 a2 s
  unfold execRawRead
  repeat' first
    | with_reducible exact Good.refl
    | with_reducible assumption
    | (extract_lets +onlyGivenNames x; (have ht : type_of% x.2 = State := rfl); clear ht; refine GoodO.cut (x := x.2) ?_ ?_; (on_goal 1 => (unfold x; clear x)); (on_goal 2 => intro hx; clear_value x))
    | (extract_lets +onlyGivenNames x; (have ht : type_of% x.2 = State := rfl); clear ht; refine Good.cut (x := x.2) ?_ ?_; (on_goal 1 => (unfold x; clear x)); (on_goal 2 => intro hx; clear_value x))
    | with_reducible apply GoodO.next
    | with_reducible apply GoodO.ite
    | (with_reducible apply Good.step (State.rawWords_good ..))
    | (with_reducible apply State.receive_good)
    | (intro x i; try dsimp -zeta only)
    | dsimp -zeta only
    | (refine Good.snd ‹_› ?_)
    | exact rfl

theorem execRawWrite_good : ∀ a0 a1 a2 s, GoodO 4082496889748857 s (execRawWrite a0 a1 a2 s) := by
  intro a0 a1 a2 s
  unfold execRawWrite
  repeat' first
    | with_reducible exact Good.refl
    | with_reducible assumption
    | with_reducible apply GoodO.next
    | with_reducible apply GoodO.ite
    | (with_reducible apply Good.step (State.rawPut_good ..))
    | (with_reducible apply State.receive_good)
    | (intro x i; try dsimp -zeta only)
    | dsimp -zeta only
    | (with_reducible apply Good.step (State.runSteps_good ..))
    | exact rfl

end Sys2Proof.Machine
end

