-- ==== Sys2Proof/Laws/KeepEtherRows.lean ====
section
/-! SUPPORT. What each operation of Machine/EtherRows.lean changes, and that it keeps what every operation keeps. -/

-- One proof at a time: the package as one text then takes less memory.
set_option Elab.async false

namespace Sys2Proof.Machine

open Sys2Proof

theorem State.beatFrom_good : ∀ s a1 a2 a3 a4, Good 562949966053481 s (State.beatFrom s a1 a2 a3 a4).2 := by
  intro s a1 a2 a3 a4
  unfold State.beatFrom
  repeat' first
    | with_reducible exact Good.refl
    | with_reducible assumption
    | (extract_lets +onlyGivenNames x; (have ht : type_of% x.2 = State := rfl); clear ht; refine Good.cut (x := x.2) ?_ ?_; (on_goal 1 => (unfold x; clear x)); (on_goal 2 => intro hx; clear_value x))
    | (extract_lets +onlyGivenNames x; clear_value x)
    | (with_reducible apply Good.foldl)
    | (with_reducible apply Good.foldl_snd)
    | (with_reducible apply Good.foldl_fst)
    | (intro x b h; try beta_reduce)
    | (with_reducible apply Good.step (State.busError_good ..))
    | (with_reducible apply Good.step (State.regRead_good ..))
    | (refine Good.snd ‹_› ?_)
    | dsimp -zeta only
    | exact rfl
    | split

theorem State.beatRead_good : ∀ s a1 a2 a3, Good 1688849872896105 s (State.beatRead s a1 a2 a3).2 := by
  intro s a1 a2 a3
  unfold State.beatRead
  repeat' first
    | with_reducible exact Good.refl
    | with_reducible assumption
    | (with_reducible apply Good.step (State.beatFrom_good ..))
    | (with_reducible apply Good.step (State.busError_good ..))
    | (with_reducible apply Good.step (State.fabUse_good ..))
    | (refine Good.snd ‹_› ?_)
    | dsimp -zeta only
    | exact rfl
    | split

theorem State.dmaRead_good : ∀ s a1 a2 a3 a4, Good 1688849872896105 s (State.dmaRead s a1 a2 a3 a4).2 := by
  intro s a1 a2 a3 a4
  induction a4 generalizing s a1 a2 a3 with
  | zero => exact Good.refl
  | succ n ih =>
    unfold State.dmaRead
    repeat' first
      | with_reducible exact Good.refl
      | with_reducible assumption
      | (with_reducible apply Good.step (ih ..))
      | (extract_lets +onlyGivenNames x; (have ht : type_of% x.2 = State := rfl); clear ht; refine Good.cut (x := x.2) ?_ ?_; (on_goal 1 => (unfold x; clear x)); (on_goal 2 => intro hx; clear_value x))
      | (extract_lets +onlyGivenNames x; clear_value x)
      | with_reducible apply Good.ite
      | with_reducible apply Good.ite_snd
      | (with_reducible apply Good.step (State.beatRead_good ..))
      | (refine Good.snd ‹_› ?_)
      | dsimp -zeta only
      | exact rfl

theorem State.beatTo_good : ∀ s a1 a2 a3 a4, Good 2956596982856985 s (State.beatTo s a1 a2 a3 a4) := by
  intro s a1 a2 a3 a4
  unfold State.beatTo
  repeat' first
    | with_reducible exact Good.refl
    | with_reducible assumption
    | (extract_lets +onlyGivenNames x; clear_value x)
    | with_reducible apply Good.ite
    | (with_reducible apply Good.foldl)
    | (with_reducible apply Good.foldl_snd)
    | (with_reducible apply Good.foldl_fst)
    | (intro x b h; try beta_reduce)
    | (with_reducible apply Good.step (State.busError_good ..))
    | (with_reducible apply Good.step (State.regWrite_good ..))
    | (with_reducible apply Good.step (State.setBytes_good ..))
    | exact rfl
    | split

theorem State.beatWrite_good : ∀ s a1 a2 a3, Good 4082496889699609 s (State.beatWrite s a1 a2 a3) := by
  intro s a1 a2 a3
  unfold State.beatWrite
  repeat' first
    | with_reducible exact Good.refl
    | with_reducible assumption
    | (with_reducible apply Good.step (State.beatTo_good ..))
    | (with_reducible apply Good.step (State.busError_good ..))
    | (with_reducible apply Good.step (State.fabUse_good ..))
    | exact rfl
    | split

theorem State.dmaWrite_good : ∀ s a1 a2 a3 a4, Good 4082496889699609 s (State.dmaWrite s a1 a2 a3 a4) := by
  intro s a1 a2 a3 a4
  induction a4 generalizing s a1 a2 a3 with
  | zero => exact Good.refl
  | succ n ih =>
    unfold State.dmaWrite
    repeat' first
      | with_reducible exact Good.refl
      | with_reducible assumption
      | (with_reducible apply Good.step (ih ..))
      | (extract_lets +onlyGivenNames x; clear_value x)
      | with_reducible apply Good.ite
      | (with_reducible apply Good.step (State.beatWrite_good ..))
      | exact rfl

theorem State.dmaWord_good : ∀ s a1 a2, Good 1688849872896105 s (State.dmaWord s a1 a2).2 := by
  intro s a1 a2
  unfold State.dmaWord
  repeat' first
    | with_reducible exact Good.refl
    | with_reducible assumption
    | (extract_lets +onlyGivenNames x; (have ht : type_of% x.2 = State := rfl); clear ht; refine Good.cut (x := x.2) ?_ ?_; (on_goal 1 => (unfold x; clear x)); (on_goal 2 => intro hx; clear_value x))
    | (with_reducible apply Good.step (State.dmaRead_good ..))
    | (refine Good.snd ‹_› ?_)
    | dsimp -zeta only
    | exact rfl

theorem State.dmaPut_good : ∀ s a1 a2 a3, Good 4082496889699609 s (State.dmaPut s a1 a2 a3) := by
  intro s a1 a2 a3
  unfold State.dmaPut
  repeat' first
    | with_reducible exact Good.refl
    | with_reducible assumption
    | (with_reducible apply Good.step (State.dmaWrite_good ..))
    | exact rfl

theorem State.fillBufs_good : ∀ s a1 a2 a3 a4 a5, Good 4082496889748857 s (State.fillBufs s a1 a2 a3 a4 a5).1 := by
  intro s a1 a2 a3 a4 a5
  induction a5 generalizing s a1 a2 a3 a4 with
  | zero => exact Good.refl
  | succ n ih =>
    unfold State.fillBufs
    repeat' first
      | with_reducible exact Good.refl
      | with_reducible assumption
      | (with_reducible apply Good.step (ih ..))
      | (extract_lets +onlyGivenNames x; (have ht : type_of% x = State := rfl); clear ht; refine Good.cut (x := x) ?_ ?_; (on_goal 1 => (unfold x; clear x)); (on_goal 2 => intro hx; clear_value x))
      | (extract_lets +onlyGivenNames x; (have ht : type_of% x.2 = State := rfl); clear ht; refine Good.cut (x := x.2) ?_ ?_; (on_goal 1 => (unfold x; clear x)); (on_goal 2 => intro hx; clear_value x))
      | (extract_lets +onlyGivenNames x; clear_value x)
      | with_reducible apply Good.ite
      | with_reducible apply Good.ite_fst
      | (with_reducible apply Good.step (State.dmaWord_good ..))
      | (with_reducible apply Good.step (State.dmaWrite_good ..))
      | (with_reducible apply Good.step (State.wr_good ..))
      | (refine Good.snd ‹_› ?_)
      | dsimp -zeta only
      | exact rfl

theorem State.giveBack_good : ∀ s a1 a2 a3 a4 a5 a6, Good 4082496889699609 s (State.giveBack s a1 a2 a3 a4 a5 a6) := by
  intro s a1 a2 a3 a4 a5 a6
  unfold State.giveBack
  repeat' first
    | with_reducible exact Good.refl
    | with_reducible assumption
    | (extract_lets +onlyGivenNames x; (have ht : type_of% x = State := rfl); clear ht; refine Good.cut (x := x) ?_ ?_; (on_goal 1 => (unfold x; clear x)); (on_goal 2 => intro hx; clear_value x))
    | (extract_lets +onlyGivenNames x; clear_value x)
    | (with_reducible apply Good.step (State.dmaPut_good ..))
    | (with_reducible apply Good.step (State.dmaWrite_good ..))
    | exact rfl
    | split

theorem State.giveFrame_good : ∀ s a1 a2 a3 a4, Good 4082496889699609 s (State.giveFrame s a1 a2 a3 a4) := by
  intro s a1 a2 a3 a4
  unfold State.giveFrame
  repeat' first
    | with_reducible exact Good.refl
    | with_reducible assumption
    | (extract_lets +onlyGivenNames x; clear_value x)
    | with_reducible apply Good.ite
    | (with_reducible apply Good.foldl)
    | (with_reducible apply Good.foldl_snd)
    | (with_reducible apply Good.foldl_fst)
    | (intro x b h; try beta_reduce)
    | (with_reducible apply Good.step (State.giveBack_good ..))
    | exact rfl

theorem State.giveDiscarded_good : ∀ s a1 a2 a3 a4, Good 4082496889699609 s (State.giveDiscarded s a1 a2 a3 a4) := by
  intro s a1 a2 a3 a4
  unfold State.giveDiscarded
  repeat' first
    | with_reducible exact Good.refl
    | with_reducible assumption
    | (extract_lets +onlyGivenNames x; (have ht : type_of% x = State := rfl); clear ht; refine Good.cut (x := x) ?_ ?_; (on_goal 1 => (unfold x; clear x)); (on_goal 2 => intro hx; clear_value x))
    | (with_reducible apply Good.foldl)
    | (with_reducible apply Good.foldl_snd)
    | (with_reducible apply Good.foldl_fst)
    | (intro x b h; try beta_reduce)
    | (with_reducible apply Good.step (State.bump_good ..))
    | (with_reducible apply Good.step (State.count_good ..))
    | (with_reducible apply Good.step (State.giveBack_good ..))
    | exact rfl

theorem State.toRing_good : ∀ s a1 a2 a3 a4 a5 a6 a7 a8, Good 4082496889748857 s (State.toRing s a1 a2 a3 a4 a5 a6 a7 a8) := by
  intro s a1 a2 a3 a4 a5 a6 a7 a8
  unfold State.toRing
  repeat' first
    | with_reducible exact Good.refl
    | with_reducible assumption
    | (extract_lets +onlyGivenNames x; (have ht : type_of% x = State := rfl); clear ht; refine Good.cut (x := x) ?_ ?_; (on_goal 1 => (unfold x; clear x)); (on_goal 2 => intro hx; clear_value x))
    | (extract_lets +onlyGivenNames x; (have ht : type_of% x.1 = State := rfl); clear ht; refine Good.cut (x := x.1) ?_ ?_; (on_goal 1 => (unfold x; clear x)); (on_goal 2 => intro hx; clear_value x))
    | (extract_lets +onlyGivenNames x; clear_value x)
    | with_reducible apply Good.ite
    | (with_reducible apply Good.step (State.bump_good ..))
    | (with_reducible apply Good.step (State.fillBufs_good ..))
    | (with_reducible apply Good.step (State.giveDiscarded_good ..))
    | (with_reducible apply Good.step (State.giveFrame_good ..))
    | (with_reducible apply Good.step (State.setMac_good ..))
    | (with_reducible refine Good.when (fun y hy => ?_) ?_)
    | (refine Good.fst ‹_› ?_)
    | exact rfl

theorem State.controlFrame_good : ∀ s a1 a2 a3, Good 8388609 s (State.controlFrame s a1 a2 a3) := by
  intro s a1 a2 a3
  unfold State.controlFrame
  repeat' first
    | with_reducible exact Good.refl
    | with_reducible assumption
    | (extract_lets +onlyGivenNames x; (have ht : type_of% x = State := rfl); clear ht; refine Good.cut (x := x) ?_ ?_; (on_goal 1 => (unfold x; clear x)); (on_goal 2 => intro hx; clear_value x))
    | (extract_lets +onlyGivenNames x; clear_value x)
    | with_reducible apply Good.ite
    | (with_reducible apply Good.step (State.bump_good ..))
    | (with_reducible apply Good.step (State.count_good ..))
    | (with_reducible apply Good.step (State.setMac_good ..))
    | exact rfl
    | split

theorem execRxFrame_good : ∀ a0 a1 a2 a3 a4 s, GoodO 4082496889748857 s (execRxFrame a0 a1 a2 a3 a4 s) := by
  intro a0 a1 a2 a3 a4 s
  unfold execRxFrame
  repeat' first
    | with_reducible exact Good.refl
    | with_reducible assumption
    | (extract_lets +onlyGivenNames x; (have ht : type_of% x = State := rfl); clear ht; refine GoodO.cut (x := x) ?_ ?_; (on_goal 1 => (unfold x; clear x)); (on_goal 2 => intro hx; clear_value x))
    | (extract_lets +onlyGivenNames x; (have ht : type_of% x = State := rfl); clear ht; refine Good.cut (x := x) ?_ ?_; (on_goal 1 => (unfold x; clear x)); (on_goal 2 => intro hx; clear_value x))
    | (extract_lets +onlyGivenNames x; clear_value x)
    | with_reducible apply GoodO.next
    | with_reducible apply GoodO.ite
    | with_reducible apply Good.ite
    | (with_reducible apply Good.step (State.atRaw_good ..))
    | (with_reducible apply Good.step (State.bump_good ..))
    | (with_reducible apply Good.step (State.controlFrame_good ..))
    | (with_reducible apply Good.step (State.setMac_good ..))
    | (with_reducible apply Good.step (State.toRing_good ..))
    | (with_reducible refine Good.when (fun y hy => ?_) ?_)
    | exact rfl
    | split

theorem State.headWords_good : ∀ s a1 a2 a3 a4, Good 1688849872896105 s (State.headWords s a1 a2 a3 a4).2 := by
  intro s a1 a2 a3 a4
  induction a4 generalizing s a1 a2 a3 with
  | zero => exact Good.refl
  | succ n ih =>
    unfold State.headWords
    repeat' first
      | with_reducible exact Good.refl
      | with_reducible assumption
      | (with_reducible apply Good.step (ih ..))
      | (extract_lets +onlyGivenNames x; (have ht : type_of% x.2 = State := rfl); clear ht; refine Good.cut (x := x.2) ?_ ?_; (on_goal 1 => (unfold x; clear x)); (on_goal 2 => intro hx; clear_value x))
      | with_reducible apply Good.ite
      | with_reducible apply Good.ite_snd
      | (with_reducible apply Good.step (State.dmaWord_good ..))
      | (refine Good.snd ‹_› ?_)
      | dsimp -zeta only
      | exact rfl

theorem State.queueReady_good : ∀ s a1 a2, Good 1688849872896105 s (State.queueReady s a1 a2).2 := by
  intro s a1 a2
  unfold State.queueReady
  repeat' first
    | with_reducible exact Good.refl
    | with_reducible assumption
    | (extract_lets +onlyGivenNames x; (have ht : type_of% x.2 = State := rfl); clear ht; refine Good.cut (x := x.2) ?_ ?_; (on_goal 1 => (unfold x; clear x)); (on_goal 2 => intro hx; clear_value x))
    | with_reducible apply Good.ite
    | with_reducible apply Good.ite_snd
    | (with_reducible apply Good.step (State.headWords_good ..))
    | (refine Good.snd ‹_› ?_)
    | dsimp -zeta only
    | exact rfl

theorem State.passHead_good : ∀ s a1 a2 a3, Good 1 s (State.passHead s a1 a2 a3) := by
  intro s a1 a2 a3
  unfold State.passHead
  repeat' first
    | with_reducible exact Good.refl
    | with_reducible assumption
    | (with_reducible apply Good.step (State.wr_good ..))
    | exact rfl

theorem State.giveTx_good : ∀ s a1 a2 a3 a4 a5, Good 4082496889748857 s (State.giveTx s a1 a2 a3 a4 a5) := by
  intro s a1 a2 a3 a4 a5
  unfold State.giveTx
  repeat' first
    | with_reducible exact Good.refl
    | with_reducible assumption
    | (extract_lets +onlyGivenNames x; (have ht : type_of% x.2 = State := rfl); clear ht; refine Good.cut (x := x.2) ?_ ?_; (on_goal 1 => (unfold x; clear x)); (on_goal 2 => intro hx; clear_value x))
    | (extract_lets +onlyGivenNames x; clear_value x)
    | (with_reducible apply Good.foldl)
    | (with_reducible apply Good.foldl_snd)
    | (with_reducible apply Good.foldl_fst)
    | (intro x b h; try beta_reduce)
    | (with_reducible apply Good.step (State.dmaPut_good ..))
    | (with_reducible apply Good.step (State.dmaWord_good ..))
    | (refine Good.snd ‹_› ?_)
    | exact rfl

theorem State.gather_good : ∀ s a1 a2 a3 a4, Good 1688849872896105 s (State.gather s a1 a2 a3 a4).2 := by
  intro s a1 a2 a3 a4
  induction a4 generalizing s a1 a2 a3 with
  | zero => exact Good.refl
  | succ n ih =>
    unfold State.gather
    repeat' first
      | with_reducible exact Good.refl
      | with_reducible assumption
      | (with_reducible apply Good.step (ih ..))
      | (with_reducible apply Good.step (State.dmaRead_good ..))
      | (with_reducible apply Good.step (State.dmaWord_good ..))
      | (refine Good.snd ‹_› ?_)
      | dsimp -zeta only
      | exact rfl

theorem State.startFrame_good : ∀ s a1 a2 a3 a4, Good 4082496889748857 s (State.startFrame s a1 a2 a3 a4) := by
  intro s a1 a2 a3 a4
  unfold State.startFrame
  repeat' first
    | with_reducible exact Good.refl
    | with_reducible assumption
    | (extract_lets +onlyGivenNames x; (have ht : type_of% x = State := rfl); clear ht; refine Good.cut (x := x) ?_ ?_; (on_goal 1 => (unfold x; clear x)); (on_goal 2 => intro hx; clear_value x))
    | (extract_lets +onlyGivenNames x; (have ht : type_of% x.2 = State := rfl); clear ht; refine Good.cut (x := x.2) ?_ ?_; (on_goal 1 => (unfold x; clear x)); (on_goal 2 => intro hx; clear_value x))
    | (extract_lets +onlyGivenNames x; clear_value x)
    | with_reducible apply Good.ite
    | (with_reducible apply Good.step (State.bump_good ..))
    | (with_reducible apply Good.step (State.dmaWord_good ..))
    | (with_reducible apply Good.step (State.gather_good ..))
    | (with_reducible apply Good.step (State.giveTx_good ..))
    | (with_reducible apply Good.step (State.passHead_good ..))
    | (with_reducible apply Good.step (State.setMac_good ..))
    | (with_reducible refine Good.when (fun y hy => ?_) ?_)
    | (refine Good.snd ‹_› ?_)
    | exact rfl

theorem State.readyQueues_good : ∀ s a1, Good 1688849872896105 s (State.readyQueues s a1).2 := by
  intro s a1
  unfold State.readyQueues
  repeat' first
    | with_reducible exact Good.refl
    | with_reducible assumption
    | (extract_lets +onlyGivenNames x; (have ht : type_of% x.2 = State := rfl); clear ht; refine Good.cut (x := x.2) ?_ ?_; (on_goal 1 => (unfold x; clear x)); (on_goal 2 => intro hx; clear_value x))
    | with_reducible apply Good.ite
    | with_reducible apply Good.ite_snd
    | (with_reducible apply Good.foldl)
    | (with_reducible apply Good.foldl_snd)
    | (with_reducible apply Good.foldl_fst)
    | (intro x b h; try beta_reduce)
    | (with_reducible apply Good.step (State.queueReady_good ..))
    | (refine Good.snd ‹_› ?_)
    | dsimp -zeta only
    | exact rfl

theorem State.flushQueue_good : ∀ s a1 a2 a3, Good 4082496889748857 s (State.flushQueue s a1 a2 a3) := by
  intro s a1 a2 a3
  induction a3 generalizing s a1 a2 with
  | zero => exact Good.refl
  | succ n ih =>
    unfold State.flushQueue
    repeat' first
      | with_reducible exact Good.refl
      | with_reducible assumption
      | (with_reducible apply Good.step (ih ..))
      | (extract_lets +onlyGivenNames x; (have ht : type_of% x.2 = State := rfl); clear ht; refine Good.cut (x := x.2) ?_ ?_; (on_goal 1 => (unfold x; clear x)); (on_goal 2 => intro hx; clear_value x))
      | (extract_lets +onlyGivenNames x; clear_value x)
      | with_reducible apply Good.ite
      | (with_reducible apply Good.step (State.bump_good ..))
      | (with_reducible apply Good.step (State.giveTx_good ..))
      | (with_reducible apply Good.step (State.passHead_good ..))
      | (with_reducible apply Good.step (State.queueReady_good ..))
      | (refine Good.snd ‹_› ?_)
      | exact rfl
      | split

theorem State.flushStreams_good : ∀ s a1, Good 8388609 s (State.flushStreams s a1) := by
  intro s a1
  unfold State.flushStreams
  repeat' first
    | with_reducible exact Good.refl
    | with_reducible assumption
    | (extract_lets +onlyGivenNames x; clear_value x)
    | (with_reducible apply Good.step (State.count_good ..))
    | (with_reducible apply Good.step (State.setMac_good ..))
    | exact rfl

theorem State.startHead_good : ∀ s a1 a2 a3 a4, Good 4082496889748857 s (State.startHead s a1 a2 a3 a4) := by
  intro s a1 a2 a3 a4
  unfold State.startHead
  repeat' first
    | with_reducible exact Good.refl
    | with_reducible assumption
    | (with_reducible apply Good.step (State.bump_good ..))
    | (with_reducible apply Good.step (State.giveTx_good ..))
    | (with_reducible apply Good.step (State.passHead_good ..))
    | (with_reducible apply Good.step (State.startFrame_good ..))
    | exact rfl
    | split

theorem State.startStream_good : ∀ s a1 a2 a3 a4, Good 8388608 s (State.startStream s a1 a2 a3 a4) := by
  intro s a1 a2 a3 a4
  unfold State.startStream
  repeat' first
    | with_reducible exact Good.refl
    | with_reducible assumption
    | (extract_lets +onlyGivenNames x; clear_value x)
    | (with_reducible apply Good.step (State.setMac_good ..))
    | exact rfl

theorem State.nextFrame_good : ∀ s a1 a2, Good 4082496889748857 s (State.nextFrame s a1 a2) := by
  intro s a1 a2
  unfold State.nextFrame
  repeat' first
    | with_reducible exact Good.refl
    | with_reducible assumption
    | (extract_lets +onlyGivenNames x; (have ht : type_of% x = State := rfl); clear ht; refine Good.cut (x := x) ?_ ?_; (on_goal 1 => (unfold x; clear x)); (on_goal 2 => intro hx; clear_value x))
    | (extract_lets +onlyGivenNames x; (have ht : type_of% x.2 = State := rfl); clear ht; refine Good.cut (x := x.2) ?_ ?_; (on_goal 1 => (unfold x; clear x)); (on_goal 2 => intro hx; clear_value x))
    | (extract_lets +onlyGivenNames x; clear_value x)
    | with_reducible apply Good.ite
    | (with_reducible apply Good.step (State.readyQueues_good ..))
    | (with_reducible apply Good.step (State.startHead_good ..))
    | (with_reducible apply Good.step (State.startStream_good ..))
    | (refine Good.snd ‹_› ?_)
    | exact rfl
    | split

theorem State.endFrame_good : ∀ s a1 a2, Good 4082496889748857 s (State.endFrame s a1 a2) := by
  intro s a1 a2
  unfold State.endFrame
  repeat' first
    | with_reducible exact Good.refl
    | with_reducible assumption
    | (extract_lets +onlyGivenNames x; (have ht : type_of% x = State := rfl); clear ht; refine Good.cut (x := x) ?_ ?_; (on_goal 1 => (unfold x; clear x)); (on_goal 2 => intro hx; clear_value x))
    | (extract_lets +onlyGivenNames x; clear_value x)
    | (with_reducible apply Good.step (State.giveTx_good ..))
    | (with_reducible apply Good.step (State.setMac_good ..))
    | exact rfl
    | split

theorem State.dropLost_good : ∀ s a1, Good 4082496889748857 s (State.dropLost s a1) := by
  intro s a1
  unfold State.dropLost
  repeat' first
    | with_reducible exact Good.refl
    | with_reducible assumption
    | with_reducible apply Good.ite
    | (with_reducible apply Good.step (State.bump_good ..))
    | (with_reducible apply Good.step (State.endFrame_good ..))
    | exact rfl
    | split

theorem execTxFrameStart_good : ∀ a0 a1 a2 s, GoodO 4082496889748857 s (execTxFrameStart a0 a1 a2 s) := by
  intro a0 a1 a2 s
  unfold execTxFrameStart
  repeat' first
    | with_reducible exact Good.refl
    | with_reducible assumption
    | (extract_lets +onlyGivenNames x; (have ht : type_of% x = State := rfl); clear ht; refine GoodO.cut (x := x) ?_ ?_; (on_goal 1 => (unfold x; clear x)); (on_goal 2 => intro hx; clear_value x))
    | (extract_lets +onlyGivenNames x; (have ht : type_of% x = State := rfl); clear ht; refine Good.cut (x := x) ?_ ?_; (on_goal 1 => (unfold x; clear x)); (on_goal 2 => intro hx; clear_value x))
    | (extract_lets +onlyGivenNames x; clear_value x)
    | with_reducible apply GoodO.next
    | with_reducible apply GoodO.ite
    | with_reducible apply Good.ite
    | (with_reducible apply Good.foldl)
    | (with_reducible apply Good.foldl_snd)
    | (with_reducible apply Good.foldl_fst)
    | (intro x b h; try beta_reduce)
    | (with_reducible apply Good.step (State.atRaw_good ..))
    | (with_reducible apply Good.step (State.dropLost_good ..))
    | (with_reducible apply Good.step (State.flushQueue_good ..))
    | (with_reducible apply Good.step (State.flushStreams_good ..))
    | (with_reducible apply Good.step (State.nextFrame_good ..))
    | exact rfl

theorem execTxFrameEnd_good : ∀ a0 a1 s, GoodO 4082496889748857 s (execTxFrameEnd a0 a1 s) := by
  intro a0 a1 s
  unfold execTxFrameEnd
  repeat' first
    | with_reducible exact Good.refl
    | with_reducible assumption
    | (extract_lets +onlyGivenNames x; (have ht : type_of% x = State := rfl); clear ht; refine GoodO.cut (x := x) ?_ ?_; (on_goal 1 => (unfold x; clear x)); (on_goal 2 => intro hx; clear_value x))
    | (extract_lets +onlyGivenNames x; (have ht : type_of% x = State := rfl); clear ht; refine Good.cut (x := x) ?_ ?_; (on_goal 1 => (unfold x; clear x)); (on_goal 2 => intro hx; clear_value x))
    | (extract_lets +onlyGivenNames x; clear_value x)
    | with_reducible apply GoodO.next
    | with_reducible apply GoodO.ite
    | with_reducible apply Good.ite
    | (with_reducible apply Good.step (State.bump_good ..))
    | (with_reducible apply Good.step (State.dropLost_good ..))
    | (with_reducible apply Good.step (State.endFrame_good ..))
    | (with_reducible apply Good.step (State.pushStamp_good ..))
    | (with_reducible apply Good.step (State.setMac_good ..))
    | exact rfl
    | split

theorem execLinkChange_good : ∀ a0 a1 s, GoodO 4082496889748857 s (execLinkChange a0 a1 s) := by
  intro a0 a1 s
  unfold execLinkChange
  repeat' first
    | with_reducible exact Good.refl
    | with_reducible assumption
    | (extract_lets +onlyGivenNames x; clear_value x)
    | with_reducible apply GoodO.next
    | with_reducible apply GoodO.ite
    | with_reducible apply Good.ite
    | (with_reducible apply Good.step (State.dropLost_good ..))
    | (with_reducible apply Good.step (State.relink_good ..))
    | (with_reducible apply Good.step (State.setLane_good ..))
    | exact rfl

end Sys2Proof.Machine
end

