-- ==== Sys2Proof/Laws/KeepStreamRows.lean ====
section
/-! SUPPORT. What each operation of Machine/StreamRows.lean changes, and that it keeps what every operation keeps. -/

-- One proof at a time: the package as one text then takes less memory.
set_option Elab.async false

namespace Sys2Proof.Machine

open Sys2Proof

theorem State.setStrx_good : ∀ s a1 a2, Good 33554432 s (State.setStrx s a1 a2) := by
  intro s a1 a2
  unfold State.setStrx
  repeat' first
    | with_reducible exact Good.refl
    | with_reducible assumption
    | exact rfl
    | (with_reducible apply Good.upd_srx)

theorem State.rxCount_good : ∀ s a1 a2 a3, Good 1 s (State.rxCount s a1 a2 a3) := by
  intro s a1 a2 a3
  unfold State.rxCount
  repeat' first
    | with_reducible exact Good.refl
    | with_reducible assumption
    | (with_reducible apply Good.step (State.count_good ..))
    | (with_reducible apply Good.step (State.flag_good ..))
    | (with_reducible refine Good.when (fun y hy => ?_) ?_)
    | exact rfl

theorem State.presentStream_good : ∀ s a1 a2, Good 529 s (State.presentStream s a1 a2) := by
  intro s a1 a2
  unfold State.presentStream
  repeat' first
    | with_reducible exact Good.refl
    | with_reducible assumption
    | (extract_lets +onlyGivenNames x; clear_value x)
    | (with_reducible apply Good.foldl)
    | (with_reducible apply Good.foldl_snd)
    | (with_reducible apply Good.foldl_fst)
    | (intro x b h; try beta_reduce)
    | (with_reducible apply Good.step (State.present_good ..))
    | exact rfl

theorem State.streamWindow_good : ∀ s a1, Good 529 s (State.streamWindow s a1) := by
  intro s a1
  unfold State.streamWindow
  repeat' first
    | with_reducible exact Good.refl
    | with_reducible assumption
    | with_reducible apply Good.ite
    | (with_reducible apply Good.foldl)
    | (with_reducible apply Good.foldl_snd)
    | (with_reducible apply Good.foldl_fst)
    | (intro x b h; try beta_reduce)
    | (with_reducible apply Good.step (State.presentStream_good ..))
    | exact rfl

theorem State.streamDeadline_good : ∀ s a1, Good 33554433 s (State.streamDeadline s a1) := by
  intro s a1
  unfold State.streamDeadline
  repeat' first
    | with_reducible exact Good.refl
    | with_reducible assumption
    | (extract_lets +onlyGivenNames x; (have ht : type_of% x = State := rfl); clear ht; refine Good.cut (x := x) ?_ ?_; (on_goal 1 => (unfold x; clear x)); (on_goal 2 => intro hx; clear_value x))
    | with_reducible apply Good.ite
    | (with_reducible apply Good.foldl)
    | (with_reducible apply Good.foldl_snd)
    | (with_reducible apply Good.foldl_fst)
    | (intro x b h; try beta_reduce)
    | (with_reducible apply Good.step (State.rxCount_good ..))
    | exact rfl
    | (with_reducible apply Good.upd_srx)

theorem State.fillStream_good : ∀ s a1 a2, Good 33554961 s (State.fillStream s a1 a2) := by
  intro s a1 a2
  unfold State.fillStream
  repeat' first
    | with_reducible exact Good.refl
    | with_reducible assumption
    | (extract_lets +onlyGivenNames x; (have ht : type_of% x = State := rfl); clear ht; refine Good.cut (x := x) ?_ ?_; (on_goal 1 => (unfold x; clear x)); (on_goal 2 => intro hx; clear_value x))
    | (extract_lets +onlyGivenNames x; clear_value x)
    | with_reducible apply Good.ite
    | (with_reducible apply Good.foldl)
    | (with_reducible apply Good.foldl_snd)
    | (with_reducible apply Good.foldl_fst)
    | (with_reducible apply Good.step (State.presentStream_good ..))
    | (with_reducible apply Good.step (State.rxCount_good ..))
    | (with_reducible apply Good.step (State.setStrx_good ..))
    | exact rfl

theorem State.validPacket_good : ∀ s a1 a2, Good 33554961 s (State.validPacket s a1 a2) := by
  intro s a1 a2
  unfold State.validPacket
  repeat' first
    | with_reducible exact Good.refl
    | with_reducible assumption
    | (extract_lets +onlyGivenNames x; (have ht : type_of% x = State := rfl); clear ht; refine Good.cut (x := x) ?_ ?_; (on_goal 1 => (unfold x; clear x)); (on_goal 2 => intro hx; clear_value x))
    | (extract_lets +onlyGivenNames x; clear_value x)
    | with_reducible apply Good.ite
    | (with_reducible apply Good.step (State.fillStream_good ..))
    | (with_reducible apply Good.step (State.rxCount_good ..))
    | (with_reducible apply Good.step (State.setStrx_good ..))
    | (with_reducible apply Good.step (State.wr_good ..))
    | exact rfl

theorem State.streamFrame_good : ∀ s a1 a2, Good 33554961 s (State.streamFrame s a1 a2) := by
  intro s a1 a2
  unfold State.streamFrame
  repeat' first
    | with_reducible exact Good.refl
    | with_reducible assumption
    | (extract_lets +onlyGivenNames x; (have ht : type_of% x = State := rfl); clear ht; refine Good.cut (x := x) ?_ ?_; (on_goal 1 => (unfold x; clear x)); (on_goal 2 => intro hx; clear_value x))
    | (with_reducible apply Good.step (State.bump_good ..))
    | (with_reducible apply Good.step (State.rxCount_good ..))
    | (with_reducible apply Good.step (State.validPacket_good ..))
    | exact rfl
    | split

theorem State.reGive_good : ∀ s a1 a2 a3, Good 4082496889699609 s (State.reGive s a1 a2 a3) := by
  intro s a1 a2 a3
  unfold State.reGive
  repeat' first
    | with_reducible exact Good.refl
    | with_reducible assumption
    | (extract_lets +onlyGivenNames x; (have ht : type_of% x = State := rfl); clear ht; refine Good.cut (x := x) ?_ ?_; (on_goal 1 => (unfold x; clear x)); (on_goal 2 => intro hx; clear_value x))
    | (extract_lets +onlyGivenNames x; clear_value x)
    | (with_reducible apply Good.step (State.dmaPut_good ..))
    | (with_reducible apply Good.step (State.setMac_good ..))
    | exact rfl

theorem State.takeFrame_good : ∀ s a1 a2 a3, Good 4082496889748857 s (State.takeFrame s a1 a2 a3).2 := by
  intro s a1 a2 a3
  induction a3 generalizing s a1 a2 with
  | zero => exact Good.refl
  | succ n ih =>
    unfold State.takeFrame
    repeat' first
      | with_reducible exact Good.refl
      | with_reducible assumption
      | (with_reducible apply Good.step (ih ..))
      | (extract_lets +onlyGivenNames x; (have ht : type_of% x = State := rfl); clear ht; refine Good.cut (x := x) ?_ ?_; (on_goal 1 => (unfold x; clear x)); (on_goal 2 => intro hx; clear_value x))
      | (extract_lets +onlyGivenNames x; (have ht : type_of% x.2 = State := rfl); clear ht; refine Good.cut (x := x.2) ?_ ?_; (on_goal 1 => (unfold x; clear x)); (on_goal 2 => intro hx; clear_value x))
      | (extract_lets +onlyGivenNames x; clear_value x)
      | with_reducible apply Good.ite
      | with_reducible apply Good.ite_snd
      | (with_reducible apply Good.step (State.dmaRead_good ..))
      | (with_reducible apply Good.step (State.dmaWord_good ..))
      | (with_reducible apply Good.step (State.reGive_good ..))
      | (refine Good.snd ‹_› ?_)
      | dsimp -zeta only
      | exact rfl

theorem execStreamPacket_good : ∀ a0 a1 a2 s, GoodO 4082496923303801 s (execStreamPacket a0 a1 a2 s) := by
  intro a0 a1 a2 s
  unfold execStreamPacket
  repeat' first
    | with_reducible exact Good.refl
    | with_reducible assumption
    | (extract_lets +onlyGivenNames x; (have ht : type_of% x = State := rfl); clear ht; refine GoodO.cut (x := x) ?_ ?_; (on_goal 1 => (unfold x; clear x)); (on_goal 2 => intro hx; clear_value x))
    | (extract_lets +onlyGivenNames x; (have ht : type_of% x.2 = State := rfl); clear ht; refine GoodO.cut (x := x.2) ?_ ?_; (on_goal 1 => (unfold x; clear x)); (on_goal 2 => intro hx; clear_value x))
    | (extract_lets +onlyGivenNames x; (have ht : type_of% x.2 = State := rfl); clear ht; refine Good.cut (x := x.2) ?_ ?_; (on_goal 1 => (unfold x; clear x)); (on_goal 2 => intro hx; clear_value x))
    | (extract_lets +onlyGivenNames x; clear_value x)
    | with_reducible apply GoodO.next
    | with_reducible apply GoodO.ite
    | with_reducible apply Good.ite
    | (with_reducible apply Good.step (State.atRaw_good ..))
    | (with_reducible apply Good.step (State.dmaWord_good ..))
    | (with_reducible apply Good.step (State.reGive_good ..))
    | (with_reducible apply Good.step (State.streamFrame_good ..))
    | (with_reducible apply Good.step (State.takeFrame_good ..))
    | (refine Good.snd ‹_› ?_)
    | exact rfl

theorem execLegDown_good : ∀ a0 a1 s, GoodO 9 s (execLegDown a0 a1 s) := by
  intro a0 a1 s
  unfold execLegDown
  repeat' first
    | with_reducible exact Good.refl
    | with_reducible assumption
    | (extract_lets +onlyGivenNames x; (have ht : type_of% x = State := rfl); clear ht; refine GoodO.cut (x := x) ?_ ?_; (on_goal 1 => (unfold x; clear x)); (on_goal 2 => intro hx; clear_value x))
    | (extract_lets +onlyGivenNames x; clear_value x)
    | with_reducible apply GoodO.next
    | with_reducible apply GoodO.ite
    | with_reducible apply Good.ite
    | (with_reducible apply Good.step (State.atRaw_good ..))
    | (with_reducible apply Good.step (State.flag_good ..))
    | (with_reducible apply Good.step (State.wr_good ..))
    | exact rfl

theorem State.queueOn_good : ∀ s a1 a2 a3, Good 8388609 s (State.queueOn s a1 a2 a3) := by
  intro s a1 a2 a3
  unfold State.queueOn
  repeat' first
    | with_reducible exact Good.refl
    | with_reducible assumption
    | (extract_lets +onlyGivenNames x; clear_value x)
    | (with_reducible apply Good.step (State.bump_good ..))
    | (with_reducible apply Good.step (State.setMac_good ..))
    | exact rfl

theorem State.sendPacket_good : ∀ s a1 a2, Good 8388641 s (State.sendPacket s a1 a2) := by
  intro s a1 a2
  unfold State.sendPacket
  repeat' first
    | with_reducible exact Good.refl
    | with_reducible assumption
    | (extract_lets +onlyGivenNames x; (have ht : type_of% x = State := rfl); clear ht; refine Good.cut (x := x) ?_ ?_; (on_goal 1 => (unfold x; clear x)); (on_goal 2 => intro hx; clear_value x))
    | (extract_lets +onlyGivenNames x; clear_value x)
    | (with_reducible apply Good.step (State.count_good ..))
    | (with_reducible apply Good.step (State.fresh_good ..))
    | (with_reducible apply Good.step (State.queueOn_good ..))
    | (with_reducible refine Good.when (fun y hy => ?_) ?_)
    | (with_reducible apply Good.step (State.wr_good ..))
    | exact rfl

theorem State.sendStreams_good : ∀ s a1, Good 8388641 s (State.sendStreams s a1) := by
  intro s a1
  unfold State.sendStreams
  repeat' first
    | with_reducible exact Good.refl
    | with_reducible assumption
    | with_reducible apply Good.ite
    | (with_reducible apply Good.foldl)
    | (with_reducible apply Good.foldl_snd)
    | (with_reducible apply Good.foldl_fst)
    | (intro x b h; try beta_reduce)
    | (with_reducible apply Good.step (State.sendPacket_good ..))
    | exact rfl

end Sys2Proof.Machine
end

