-- ==== Sys2Proof/Laws/KeepBlock.lean ====
section
/-! SUPPORT. What each operation of Machine/Block.lean changes, and that it keeps what every operation keeps. -/

-- One proof at a time: the package as one text then takes less memory.
set_option Elab.async false

namespace Sys2Proof.Machine

open Sys2Proof

theorem State.swapSets_good : ∀ s, Good 16 s (State.swapSets s) := by
  intro s
  unfold State.swapSets
  repeat' first
    | with_reducible exact Good.refl
    | with_reducible assumption
    | (extract_lets +onlyGivenNames x; (have ht : type_of% x = State := rfl); clear ht; refine Good.cut (x := x) ?_ ?_; (on_goal 1 => (unfold x; clear x)); (on_goal 2 => intro hx; clear_value x))
    | (extract_lets +onlyGivenNames x; clear_value x)
    | (with_reducible apply Good.foldl)
    | (with_reducible apply Good.foldl_snd)
    | (with_reducible apply Good.foldl_fst)
    | (intro x b h; try beta_reduce)
    | (with_reducible apply Good.step (State.accClear_good ..))
    | (with_reducible apply Good.step (State.setByte_good ..))
    | exact rfl

theorem State.renumber_good : ∀ s a1 a2, Good 4503737066327828 s (State.renumber s a1 a2) := by
  intro s a1 a2
  unfold State.renumber
  repeat' first
    | with_reducible exact Good.refl
    | with_reducible assumption
    | (extract_lets +onlyGivenNames x; (have ht : type_of% x = State := rfl); clear ht; refine Good.cut (x := x) ?_ ?_; (on_goal 1 => (unfold x; clear x)); (on_goal 2 => intro hx; clear_value x))
    | (extract_lets +onlyGivenNames x; clear_value x)
    | with_reducible apply Good.ite
    | (with_reducible apply Good.foldl)
    | (with_reducible apply Good.foldl_snd)
    | (with_reducible apply Good.foldl_fst)
    | (with_reducible apply Good.step (State.swapSets_good ..))
    | exact rfl
    | (with_reducible apply Good.upd_liveHist_geo_hst_mix_sched_plays_sup)

theorem State.setClock_good : ∀ s a1, Good 4503737066327836 s (State.setClock s a1) := by
  intro s a1
  unfold State.setClock
  repeat' first
    | with_reducible exact Good.refl
    | with_reducible assumption
    | (extract_lets +onlyGivenNames x; (have ht : type_of% x = State := rfl); clear ht; refine Good.cut (x := x) ?_ ?_; (on_goal 1 => (unfold x; clear x)); (on_goal 2 => intro hx; clear_value x))
    | (extract_lets +onlyGivenNames x; clear_value x)
    | with_reducible apply Good.ite
    | (with_reducible apply Good.step (State.renumber_good ..))
    | (with_reducible apply Good.step (State.unwriteSlots_good ..))
    | exact rfl
    | (with_reducible apply Good.upd_hst)
    | (with_reducible apply Good.upd_mix)
    | (with_reducible apply Good.upd_tm)

theorem State.silence_good : ∀ s a1, Good 1024 s (State.silence s a1) := by
  intro s a1
  unfold State.silence
  repeat' first
    | with_reducible exact Good.refl
    | with_reducible assumption
    | (extract_lets +onlyGivenNames x; clear_value x)
    | exact rfl
    | (with_reducible apply Good.upd_mix)

theorem State.startChannels_good : ∀ s, Good 6291457 s (State.startChannels s) := by
  intro s
  unfold State.startChannels
  repeat' first
    | with_reducible exact Good.refl
    | with_reducible assumption
    | (with_reducible apply Good.step (State.startAll_good ..))
    | exact rfl

theorem State.firstBoundary_good : ∀ s, Good 8796099313665 s (State.firstBoundary s) := by
  intro s
  unfold State.firstBoundary
  repeat' first
    | with_reducible exact Good.refl
    | with_reducible assumption
    | (with_reducible apply Good.step (State.startChannels_good ..))
    | (with_reducible apply Good.step (State.wr_good ..))
    | exact rfl
    | (with_reducible apply Good.upd_armed)

theorem State.setLanding_good : ∀ s a1, Good 512 s (State.setLanding s a1) := by
  intro s a1
  unfold State.setLanding
  repeat' first
    | with_reducible exact Good.refl
    | with_reducible assumption
    | (extract_lets +onlyGivenNames x; clear_value x)
    | exact rfl
    | (with_reducible apply Good.upd_hst)

theorem State.wakeBoundary_good : ∀ s a1, Good 2251799887087361 s (State.wakeBoundary s a1) := by
  intro s a1
  unfold State.wakeBoundary
  repeat' first
    | with_reducible exact Good.refl
    | with_reducible assumption
    | (extract_lets +onlyGivenNames x; (have ht : type_of% x = State := rfl); clear ht; refine Good.cut (x := x) ?_ ?_; (on_goal 1 => (unfold x; clear x)); (on_goal 2 => intro hx; clear_value x))
    | (extract_lets +onlyGivenNames x; clear_value x)
    | with_reducible apply Good.ite
    | (with_reducible apply Good.foldl)
    | (with_reducible apply Good.foldl_snd)
    | (with_reducible apply Good.foldl_fst)
    | (intro x b h; try beta_reduce)
    | (with_reducible apply Good.step (State.freshLists_good ..))
    | (with_reducible apply Good.step (State.setGate_good ..))
    | (with_reducible apply Good.step (State.setLanding_good ..))
    | (with_reducible apply Good.step (State.silentChains_good ..))
    | (with_reducible apply Good.step (State.startChannels_good ..))
    | (with_reducible apply Good.step (State.startContexts_good ..))
    | (with_reducible apply Good.step (State.unwriteSlots_good ..))
    | exact rfl
    | split
    | (with_reducible apply Good.upd_clk)

theorem State.putWord_good : ∀ s a1 a2, Good 2 s (State.putWord s a1 a2) := by
  intro s a1 a2
  exact Good.upd_live rfl Cells.wf_set Good.refl

theorem State.putLive_good : ∀ s a1 a2 a3 a4, Good 514 s (State.putLive s a1 a2 a3 a4) := by
  intro s a1 a2 a3 a4
  unfold State.putLive
  repeat' first
    | with_reducible exact Good.refl
    | with_reducible assumption
    | (extract_lets +onlyGivenNames x; clear_value x)
    | (with_reducible apply Good.step (State.grantLong_good ..))
    | (with_reducible apply Good.step (State.putWord_good ..))
    | exact rfl
    | split

theorem State.gainAct_good : ∀ s a1 a2 a3 a4, Good 1024 s (State.gainAct s a1 a2 a3 a4) := by
  intro s a1 a2 a3 a4
  unfold State.gainAct
  repeat' first
    | with_reducible exact Good.refl
    | with_reducible assumption
    | (with_reducible apply Good.step (State.setGainPath_good ..))
    | exact rfl

theorem State.muteAct_good : ∀ s a1 a2 a3 a4, Good 1024 s (State.muteAct s a1 a2 a3 a4) := by
  intro s a1 a2 a3 a4
  unfold State.muteAct
  repeat' first
    | with_reducible exact Good.refl
    | with_reducible assumption
    | (with_reducible apply Good.step (State.setGainPath_good ..))
    | exact rfl

theorem State.gainAnew_good : ∀ s a1 a2 a3, Good 1024 s (State.gainAnew s a1 a2 a3) := by
  intro s a1 a2 a3
  unfold State.gainAnew
  repeat' first
    | with_reducible exact Good.refl
    | with_reducible assumption
    | (extract_lets +onlyGivenNames x; clear_value x)
    | (with_reducible apply Good.step (State.setGainPath_good ..))
    | exact rfl

theorem State.codeAct_good : ∀ s a1 a2 a3 a4, Good 1024 s (State.codeAct s a1 a2 a3 a4) := by
  intro s a1 a2 a3 a4
  unfold State.codeAct
  repeat' first
    | with_reducible exact Good.refl
    | with_reducible assumption
    | with_reducible apply Good.ite
    | (with_reducible apply Good.step (State.gainAct_good ..))
    | exact rfl

theorem State.shadowGain_good : ∀ s a1 a2 a3 a4, Good 1024 s (State.shadowGain s a1 a2 a3 a4) := by
  intro s a1 a2 a3 a4
  unfold State.shadowGain
  repeat' first
    | with_reducible exact Good.refl
    | with_reducible assumption
    | (extract_lets +onlyGivenNames x; (have ht : type_of% x = State := rfl); clear ht; refine Good.cut (x := x) ?_ ?_; (on_goal 1 => (unfold x; clear x)); (on_goal 2 => intro hx; clear_value x))
    | (extract_lets +onlyGivenNames x; clear_value x)
    | with_reducible apply Good.ite
    | (with_reducible apply Good.step (State.codeAct_good ..))
    | (with_reducible apply Good.step (State.gainAnew_good ..))
    | (with_reducible apply Good.step (State.muteAct_good ..))
    | exact rfl
    | split

theorem State.putMasked_good : ∀ s a1 a2 a3, Good 514 s (State.putMasked s a1 a2 a3) := by
  intro s a1 a2 a3
  unfold State.putMasked
  repeat' first
    | with_reducible exact Good.refl
    | with_reducible assumption
    | (with_reducible apply Good.step (State.putLive_good ..))
    | exact rfl

theorem State.portReg_good : ∀ s a1 a2, Good 311297 s (State.portReg s a1 a2) := by
  intro s a1 a2
  unfold State.portReg
  repeat' first
    | with_reducible exact Good.refl
    | with_reducible assumption
    | (with_reducible apply Good.step (State.aesConfig_good ..))
    | (with_reducible apply Good.step (State.ascConfig_good ..))
    | (with_reducible apply Good.step (State.setReg_good ..))
    | (with_reducible apply Good.step (State.tdmConfig_good ..))
    | exact rfl
    | split

theorem State.applyReg_good : ∀ s a1 a2 a3, Good 9771472897 s (State.applyReg s a1 a2 a3) := by
  intro s a1 a2 a3
  unfold State.applyReg
  repeat' first
    | with_reducible exact Good.refl
    | with_reducible assumption
    | (extract_lets +onlyGivenNames x; (have ht : type_of% x = State := rfl); clear ht; refine Good.cut (x := x) ?_ ?_; (on_goal 1 => (unfold x; clear x)); (on_goal 2 => intro hx; clear_value x))
    | (extract_lets +onlyGivenNames x; clear_value x)
    | with_reducible apply Good.ite
    | (with_reducible apply Good.step (State.micConfig_good ..))
    | (with_reducible apply Good.step (State.portReg_good ..))
    | (with_reducible apply Good.step (State.psConfig_good ..))
    | (with_reducible apply Good.step (State.setFlow_good ..))
    | (with_reducible apply Good.step (State.setReg_good ..))
    | exact rfl
    | split
    | (with_reducible apply Good.upd_srx)
    | (with_reducible apply Good.upd_stx)

theorem State.objTake_good : ∀ s a1 a2 a3, Good 256 s (State.objTake s a1 a2 a3) := by
  intro s a1 a2 a3
  unfold State.objTake
  repeat' first
    | with_reducible exact Good.refl
    | with_reducible assumption
    | (extract_lets +onlyGivenNames x; clear_value x)
    | (with_reducible apply Good.step (State.setObj_good ..))
    | exact rfl

theorem State.movePos_good : ∀ s a1 a2, Good 256 s (State.movePos s a1 a2) := by
  intro s a1 a2
  unfold State.movePos
  repeat' first
    | with_reducible exact Good.refl
    | with_reducible assumption
    | (extract_lets +onlyGivenNames x; clear_value x)
    | (with_reducible apply Good.step (State.setObj_good ..))
    | exact rfl

theorem State.movePath_good : ∀ s a1 a2 a3 a4, Good 256 s (State.movePath s a1 a2 a3 a4) := by
  intro s a1 a2 a3 a4
  unfold State.movePath
  repeat' first
    | with_reducible exact Good.refl
    | with_reducible assumption
    | (extract_lets +onlyGivenNames x; clear_value x)
    | (with_reducible apply Good.step (State.setObj_good ..))
    | exact rfl

theorem State.routeInput_good : ∀ s a1 a2 a3 a4, Good 1026 s (State.routeInput s a1 a2 a3 a4) := by
  intro s a1 a2 a3 a4
  unfold State.routeInput
  repeat' first
    | with_reducible exact Good.refl
    | with_reducible assumption
    | with_reducible apply Good.ite
    | (with_reducible apply Good.step (State.gainAnew_good ..))
    | (with_reducible apply Good.step (State.wrLive_good ..))
    | exact rfl

theorem State.takeRoute_good : ∀ s a1 a2 a3 a4 a5 a6, Good 1026 s (State.takeRoute s a1 a2 a3 a4 a5 a6) := by
  intro s a1 a2 a3 a4 a5 a6
  unfold State.takeRoute
  repeat' first
    | with_reducible exact Good.refl
    | with_reducible assumption
    | (extract_lets +onlyGivenNames x; (have ht : type_of% x = State := rfl); clear ht; refine Good.cut (x := x) ?_ ?_; (on_goal 1 => (unfold x; clear x)); (on_goal 2 => intro hx; clear_value x))
    | (with_reducible apply Good.foldl)
    | (with_reducible apply Good.foldl_snd)
    | (with_reducible apply Good.foldl_fst)
    | (intro x b h; try beta_reduce)
    | (with_reducible apply Good.step (State.routeInput_good ..))
    | (with_reducible apply Good.step (State.wrLive_good ..))
    | exact rfl

theorem State.slDone_good : ∀ s a1, Good 1 s (State.slDone s a1) := by
  intro s a1
  unfold State.slDone
  repeat' first
    | with_reducible exact Good.refl
    | with_reducible assumption
    | (with_reducible apply Good.step (State.bump_good ..))
    | (with_reducible apply Good.step (State.wr_good ..))
    | exact rfl

theorem State.applyAct_good : ∀ a0 a1 s a3, Good 2815996490211075 s (State.applyAct a0 a1 s a3) := by
  intro a0 a1 s a3
  unfold State.applyAct
  repeat' first
    | with_reducible exact Good.refl
    | with_reducible assumption
    | with_reducible apply Good.ite
    | (with_reducible apply Good.step (State.applyReg_good ..))
    | (with_reducible apply Good.step (State.bindObj_good ..))
    | (with_reducible apply Good.step (State.gainAct_good ..))
    | (with_reducible apply Good.step (State.movePath_good ..))
    | (with_reducible apply Good.step (State.movePos_good ..))
    | (with_reducible apply Good.step (State.muteAct_good ..))
    | (with_reducible apply Good.step (State.objTake_good ..))
    | (with_reducible apply Good.step (State.psRun_good ..))
    | (with_reducible apply Good.step (State.putLive_good ..))
    | (with_reducible apply Good.step (State.putMasked_good ..))
    | (with_reducible apply Good.step (State.reply_good ..))
    | (with_reducible apply Good.step (State.setGate_good ..))
    | (with_reducible apply Good.step (State.shadowGain_good ..))
    | (with_reducible apply Good.step (State.slDone_good ..))
    | (with_reducible apply Good.step (State.stopMsg_good ..))
    | (with_reducible apply Good.step (State.takeParam_good ..))
    | (with_reducible apply Good.step (State.takeRoute_good ..))
    | (with_reducible apply Good.step (State.wr_good ..))
    | exact rfl
    | split

theorem State.applyDue_good : ∀ s a1, Good 2815996490211075 s (State.applyDue s a1) := by
  intro s a1
  unfold State.applyDue
  repeat' first
    | with_reducible exact Good.refl
    | with_reducible assumption
    | (extract_lets +onlyGivenNames x; (have ht : type_of% x = State := rfl); clear ht; refine Good.cut (x := x) ?_ ?_; (on_goal 1 => (unfold x; clear x)); (on_goal 2 => intro hx; clear_value x))
    | (extract_lets +onlyGivenNames x; clear_value x)
    | (with_reducible apply Good.foldl)
    | (with_reducible apply Good.foldl_snd)
    | (with_reducible apply Good.foldl_fst)
    | (intro x b h; try beta_reduce)
    | (with_reducible apply Good.step (State.applyAct_good ..))
    | (with_reducible apply Good.step (State.slDone_good ..))
    | (with_reducible refine Good.when (fun y hy => ?_) ?_)
    | (with_reducible apply Good.step (State.wr_good ..))
    | exact rfl
    | split
    | (with_reducible apply Good.upd_sched)

theorem State.installOutput_good : ∀ s a1, Good 3 s (State.installOutput s a1) := by
  intro s a1
  unfold State.installOutput
  repeat' first
    | (with_reducible apply Good.step (hg ..))
    | with_reducible exact Good.refl
    | with_reducible assumption
    | (extract_lets +onlyGivenNames x; with_reducible refine Good.cutK (x := x) ?_ ?_; (on_goal 1 => (intro z c e; unfold x; clear x; beta_reduce)); (on_goal 2 => intro hg; clear_value x))
    | (extract_lets +onlyGivenNames x; clear_value x)
    | (with_reducible apply Good.step (State.wr_good ..))
    | (with_reducible apply Good.step (State.wrLive_good ..))
    | exact rfl

theorem State.installsDone_good : ∀ s a1, Good 9663677443 s (State.installsDone s a1) := by
  intro s a1
  unfold State.installsDone
  repeat' first
    | with_reducible exact Good.refl
    | with_reducible assumption
    | (extract_lets +onlyGivenNames x; (have ht : type_of% x = State := rfl); clear ht; refine Good.cut (x := x) ?_ ?_; (on_goal 1 => (unfold x; clear x)); (on_goal 2 => intro hx; clear_value x))
    | (extract_lets +onlyGivenNames x; clear_value x)
    | with_reducible apply Good.ite
    | (with_reducible apply Good.foldl)
    | (with_reducible apply Good.foldl_snd)
    | (with_reducible apply Good.foldl_fst)
    | (intro x b h; try beta_reduce)
    | (with_reducible apply Good.step (State.endLong_good ..))
    | (with_reducible apply Good.step (State.installOutput_good ..))
    | exact rfl
    | split
    | (with_reducible apply Good.upd_mix)

theorem State.stageA_good : ∀ s a1, Good 257 s (State.stageA s a1) := by
  intro s a1
  unfold State.stageA
  repeat' first
    | with_reducible exact Good.refl
    | with_reducible assumption
    | (extract_lets +onlyGivenNames x; (have ht : type_of% x = State := rfl); clear ht; refine Good.cut (x := x) ?_ ?_; (on_goal 1 => (unfold x; clear x)); (on_goal 2 => intro hx; clear_value x))
    | (extract_lets +onlyGivenNames x; clear_value x)
    | with_reducible apply Good.ite
    | (with_reducible apply Good.step (State.count_good ..))
    | (with_reducible apply Good.step (State.formList_good ..))
    | (refine Good.fst ‹_› ?_)
    | exact rfl
    | split
    | (with_reducible apply Good.upd_geo)

theorem State.listDone_good : ∀ s a1, Good 1 s (State.listDone s a1) := by
  intro s a1
  unfold State.listDone
  repeat' first
    | with_reducible exact Good.refl
    | with_reducible assumption
    | (extract_lets +onlyGivenNames x; (have ht : type_of% x = State := rfl); clear ht; refine Good.cut (x := x) ?_ ?_; (on_goal 1 => (unfold x; clear x)); (on_goal 2 => intro hx; clear_value x))
    | (extract_lets +onlyGivenNames x; clear_value x)
    | (with_reducible apply Good.step (State.count_good ..))
    | (with_reducible apply Good.step (State.flag_good ..))
    | (with_reducible refine Good.when (fun y hy => ?_) ?_)
    | (with_reducible apply Good.step (State.wr_good ..))
    | exact rfl

theorem execTapListComplete_good : ∀ a0 s, GoodO 257 s (execTapListComplete a0 s) := by
  intro a0 s
  unfold execTapListComplete
  repeat' first
    | with_reducible exact Good.refl
    | with_reducible assumption
    | (extract_lets +onlyGivenNames x; (have ht : type_of% x = State := rfl); clear ht; refine Good.cut (x := x) ?_ ?_; (on_goal 1 => (unfold x; clear x)); (on_goal 2 => intro hx; clear_value x))
    | (extract_lets +onlyGivenNames x; clear_value x)
    | with_reducible apply GoodO.next
    | with_reducible apply GoodO.ite
    | with_reducible apply Good.ite
    | (with_reducible apply Good.step (State.listDone_good ..))
    | exact rfl
    | split
    | (with_reducible apply Good.upd_geo)

theorem State.forget_good : ∀ s a1, Good 1024 s (State.forget s a1) := by
  intro s a1
  unfold State.forget
  repeat' first
    | with_reducible exact Good.refl
    | with_reducible assumption
    | (extract_lets +onlyGivenNames x; clear_value x)
    | exact rfl
    | (with_reducible apply Good.upd_mix)

theorem State.boundaryOf_good : ∀ s a1 a2, Good 7805861585878815 s (State.boundaryOf s a1 a2) := by
  intro s a1 a2
  unfold State.boundaryOf
  repeat' first
    | with_reducible exact Good.refl
    | with_reducible assumption
    | (extract_lets +onlyGivenNames x; (have ht : type_of% x = State := rfl); clear ht; refine Good.cut (x := x) ?_ ?_; (on_goal 1 => (unfold x; clear x)); (on_goal 2 => intro hx; clear_value x))
    | (extract_lets +onlyGivenNames x; clear_value x)
    | with_reducible apply Good.ite
    | (with_reducible apply Good.step (State.applyDue_good ..))
    | (with_reducible apply Good.step (State.firstBoundary_good ..))
    | (with_reducible apply Good.step (State.forget_good ..))
    | (with_reducible apply Good.step (State.installsDone_good ..))
    | (with_reducible apply Good.step (State.postSlice_good ..))
    | (with_reducible apply Good.step (State.queueBulk_good ..))
    | (with_reducible apply Good.step (State.restoreNow_good ..))
    | (with_reducible apply Good.step (State.resync_good ..))
    | (with_reducible apply Good.step (State.roleBoundary_good ..))
    | (with_reducible apply Good.step (State.secondTotals_good ..))
    | (with_reducible apply Good.step (State.sendAes_good ..))
    | (with_reducible apply Good.step (State.setClock_good ..))
    | (with_reducible apply Good.step (State.showLimiting_good ..))
    | (with_reducible apply Good.step (State.sleepBoundary_good ..))
    | (with_reducible apply Good.step (State.stageA_good ..))
    | (with_reducible apply Good.step (State.supplyBoundary_good ..))
    | (with_reducible apply Good.step (State.swapBanks_good ..))
    | (with_reducible apply Good.step (State.tickPoint_good ..))
    | (with_reducible apply Good.step (State.wakeBoundary_good ..))
    | (with_reducible refine Good.when (fun y hy => ?_) ?_)
    | exact rfl
    | split
    | (with_reducible apply Good.upd_liveHist)

theorem execBlockBoundary_good : ∀ a0 a1 s, GoodO 7805861585878815 s (execBlockBoundary a0 a1 s) := by
  intro a0 a1 s
  unfold execBlockBoundary
  repeat' first
    | with_reducible exact Good.refl
    | with_reducible assumption
    | (extract_lets +onlyGivenNames x; (have ht : type_of% x = State := rfl); clear ht; refine GoodO.cut (x := x) ?_ ?_; (on_goal 1 => (unfold x; clear x)); (on_goal 2 => intro hx; clear_value x))
    | (extract_lets +onlyGivenNames x; (have ht : type_of% x = State := rfl); clear ht; refine Good.cut (x := x) ?_ ?_; (on_goal 1 => (unfold x; clear x)); (on_goal 2 => intro hx; clear_value x))
    | with_reducible apply GoodO.next
    | with_reducible apply GoodO.ite
    | with_reducible apply Good.ite
    | (with_reducible apply Good.step (State.atRaw_good ..))
    | (with_reducible apply Good.step (State.boundaryOf_good ..))
    | exact rfl

theorem State.endStageB_good : ∀ s a1 a2, Good 1553 s (State.endStageB s a1 a2) := by
  intro s a1 a2
  unfold State.endStageB
  repeat' first
    | with_reducible exact Good.refl
    | with_reducible assumption
    | (extract_lets +onlyGivenNames x; (have ht : type_of% x = State := rfl); clear ht; refine Good.cut (x := x) ?_ ?_; (on_goal 1 => (unfold x; clear x)); (on_goal 2 => intro hx; clear_value x))
    | (extract_lets +onlyGivenNames x; clear_value x)
    | with_reducible apply Good.ite
    | (with_reducible apply Good.foldl)
    | (with_reducible apply Good.foldl_snd)
    | (with_reducible apply Good.foldl_fst)
    | (intro x b h; try beta_reduce)
    | (with_reducible apply Good.step (State.count_good ..))
    | (with_reducible apply Good.step (State.damageSpec_good ..))
    | (with_reducible apply Good.step (State.renderBlock_good ..))
    | (with_reducible apply Good.step (State.useSpecs_good ..))
    | exact rfl
    | split
    | (with_reducible apply Good.upd_hst_mix)

theorem State.replaceList_good : ∀ s a1, Good 257 s (State.replaceList s a1) := by
  intro s a1
  unfold State.replaceList
  repeat' first
    | with_reducible exact Good.refl
    | with_reducible assumption
    | (extract_lets +onlyGivenNames x; (have ht : type_of% x = State := rfl); clear ht; refine Good.cut (x := x) ?_ ?_; (on_goal 1 => (unfold x; clear x)); (on_goal 2 => intro hx; clear_value x))
    | (extract_lets +onlyGivenNames x; clear_value x)
    | with_reducible apply Good.ite
    | (with_reducible apply Good.step (State.bump_good ..))
    | (with_reducible apply Good.step (State.flag_good ..))
    | (with_reducible apply Good.step (State.reformList_good ..))
    | (with_reducible apply Good.step (State.unform_good ..))
    | exact rfl
    | (with_reducible apply Good.upd_geo)

theorem State.judgeList_good : ∀ s a1, Good 257 s (State.judgeList s a1) := by
  intro s a1
  unfold State.judgeList
  repeat' first
    | with_reducible exact Good.refl
    | with_reducible assumption
    | (extract_lets +onlyGivenNames x; clear_value x)
    | with_reducible apply Good.ite
    | (with_reducible apply Good.step (State.replaceList_good ..))
    | exact rfl
    | split
    | (with_reducible apply Good.upd_geo)

theorem State.issueLong_good : ∀ s a1, Good 513 s (State.issueLong s a1) := by
  intro s a1
  unfold State.issueLong
  repeat' first
    | with_reducible exact Good.refl
    | with_reducible assumption
    | (extract_lets +onlyGivenNames x; clear_value x)
    | with_reducible apply Good.ite
    | (with_reducible apply Good.foldl)
    | (with_reducible apply Good.foldl_snd)
    | (with_reducible apply Good.foldl_fst)
    | (intro x b h; try beta_reduce)
    | (with_reducible apply Good.step (State.longLate_good ..))
    | exact rfl
    | (with_reducible apply Good.upd_hst)

theorem State.closeWindow_good : ∀ s a1 a2 a3, Good 562949986977553 s (State.closeWindow s a1 a2 a3) := by
  intro s a1 a2 a3
  unfold State.closeWindow
  repeat' first
    | with_reducible exact Good.refl
    | with_reducible assumption
    | (extract_lets +onlyGivenNames x; (have ht : type_of% x = State := rfl); clear ht; refine Good.cut (x := x) ?_ ?_; (on_goal 1 => (unfold x; clear x)); (on_goal 2 => intro hx; clear_value x))
    | (extract_lets +onlyGivenNames x; clear_value x)
    | with_reducible apply Good.ite
    | (with_reducible apply Good.step (State.countPanic_good ..))
    | (with_reducible apply Good.step (State.endStageB_good ..))
    | (with_reducible apply Good.step (State.issueLong_good ..))
    | (with_reducible apply Good.step (State.judgeList_good ..))
    | (with_reducible apply Good.step (State.queueCopies_good ..))
    | (with_reducible apply Good.step (State.silence_good ..))
    | (with_reducible apply Good.step (State.streamDeadline_good ..))
    | (with_reducible apply Good.step (State.substituteAll_good ..))
    | exact rfl
    | (with_reducible apply Good.upd_geo)
    | (with_reducible apply Good.upd_hst)

theorem State.openWindow_good : ∀ s a1, Good 137438954001 s (State.openWindow s a1) := by
  intro s a1
  unfold State.openWindow
  repeat' first
    | with_reducible exact Good.refl
    | with_reducible assumption
    | (extract_lets +onlyGivenNames x; (have ht : type_of% x = State := rfl); clear ht; refine Good.cut (x := x) ?_ ?_; (on_goal 1 => (unfold x; clear x)); (on_goal 2 => intro hx; clear_value x))
    | (extract_lets +onlyGivenNames x; clear_value x)
    | with_reducible apply Good.ite
    | (with_reducible apply Good.step (State.presentMsgs_good ..))
    | (with_reducible apply Good.step (State.streamWindow_good ..))
    | exact rfl
    | (with_reducible apply Good.upd_hst)

theorem execLandingDeadline_good : ∀ a0 a1 a2 s, GoodO 563087425935129 s (execLandingDeadline a0 a1 a2 s) := by
  intro a0 a1 a2 s
  unfold execLandingDeadline
  repeat' first
    | with_reducible exact Good.refl
    | with_reducible assumption
    | (extract_lets +onlyGivenNames x; (have ht : type_of% x = State := rfl); clear ht; refine GoodO.cut (x := x) ?_ ?_; (on_goal 1 => (unfold x; clear x)); (on_goal 2 => intro hx; clear_value x))
    | (extract_lets +onlyGivenNames x; clear_value x)
    | with_reducible apply GoodO.next
    | with_reducible apply GoodO.ite
    | with_reducible apply Good.ite
    | (with_reducible apply Good.step (State.atRaw_good ..))
    | (with_reducible apply Good.step (State.closeWindow_good ..))
    | (with_reducible apply Good.step (State.openWindow_good ..))
    | (with_reducible apply Good.step (State.tickPoint_good ..))
    | exact rfl

theorem State.countBridges_good : ∀ s a1, Good 1 s (State.countBridges s a1) := by
  intro s a1
  unfold State.countBridges
  repeat' first
    | with_reducible exact Good.refl
    | with_reducible assumption
    | with_reducible apply Good.ite
    | (with_reducible apply Good.foldl)
    | (with_reducible apply Good.foldl_snd)
    | (with_reducible apply Good.foldl_fst)
    | (intro x b h; try beta_reduce)
    | (with_reducible apply Good.step (State.count_good ..))
    | exact rfl
    | split

theorem execReleaseDeadline_good : ∀ a0 a1 s, GoodO 12583993 s (execReleaseDeadline a0 a1 s) := by
  intro a0 a1 s
  unfold execReleaseDeadline
  repeat' first
    | with_reducible exact Good.refl
    | with_reducible assumption
    | (extract_lets +onlyGivenNames x; (have ht : type_of% x = State := rfl); clear ht; refine GoodO.cut (x := x) ?_ ?_; (on_goal 1 => (unfold x; clear x)); (on_goal 2 => intro hx; clear_value x))
    | (extract_lets +onlyGivenNames x; (have ht : type_of% x = State := rfl); clear ht; refine Good.cut (x := x) ?_ ?_; (on_goal 1 => (unfold x; clear x)); (on_goal 2 => intro hx; clear_value x))
    | (extract_lets +onlyGivenNames x; clear_value x)
    | with_reducible apply GoodO.next
    | with_reducible apply GoodO.ite
    | with_reducible apply Good.ite
    | (with_reducible apply Good.step (State.atRaw_good ..))
    | (with_reducible apply Good.step (State.countBridges_good ..))
    | (with_reducible apply Good.step (State.sendStreams_good ..))
    | (with_reducible apply Good.step (State.silence_good ..))
    | (with_reducible apply Good.step (State.stageC_good ..))
    | (with_reducible apply Good.step (State.tallyPower_good ..))
    | exact rfl
    | split
    | (with_reducible apply Good.upd_mix)

end Sys2Proof.Machine
end

