-- ==== Sys2Proof/Laws/KeepChainCmds.lean ====
section
/-! SUPPORT. What each operation of Machine/ChainCmds.lean changes, and that it keeps what every operation keeps. -/

-- One proof at a time: the package as one text then takes less memory.
set_option Elab.async false

namespace Sys2Proof.Machine

open Sys2Proof

theorem State.setSection_good : ∀ s a1 a2 a3 a4, Good 2049 s (State.setSection s a1 a2 a3 a4) := by
  intro s a1 a2 a3 a4
  unfold State.setSection
  repeat' first
    | with_reducible exact Good.refl
    | with_reducible assumption
    | (extract_lets +onlyGivenNames x; (have ht : type_of% x = State := rfl); clear ht; refine Good.cut (x := x) ?_ ?_; (on_goal 1 => (unfold x; clear x)); (on_goal 2 => intro hx; clear_value x))
    | (with_reducible apply Good.step (State.wrAt_good ..))
    | exact rfl

theorem State.acceptEq_good : ∀ s a1 a2 a3 a4, Good 2049 s (State.acceptEq s a1 a2 a3 a4) := by
  intro s a1 a2 a3 a4
  unfold State.acceptEq
  repeat' first
    | with_reducible exact Good.refl
    | with_reducible assumption
    | (extract_lets +onlyGivenNames x; (have ht : type_of% x = State := rfl); clear ht; refine Good.cut (x := x) ?_ ?_; (on_goal 1 => (unfold x; clear x)); (on_goal 2 => intro hx; clear_value x))
    | (with_reducible apply Good.foldl)
    | (with_reducible apply Good.foldl_snd)
    | (with_reducible apply Good.foldl_fst)
    | (intro x b h; try beta_reduce)
    | (with_reducible apply Good.step (State.setSection_good ..))
    | (with_reducible apply Good.step (State.wrAt_good ..))
    | exact rfl
    | split

theorem execEqSet_good : ∀ a0 a1 a2 a3 s, GoodO 9664731145 s (execEqSet a0 a1 a2 a3 s) := by
  intro a0 a1 a2 a3 s
  unfold execEqSet
  repeat' first
    | with_reducible exact Good.refl
    | with_reducible assumption
    | (extract_lets +onlyGivenNames x; (have ht : type_of% x = State := rfl); clear ht; refine Good.cut (x := x) ?_ ?_; (on_goal 1 => (unfold x; clear x)); (on_goal 2 => intro hx; clear_value x))
    | (extract_lets +onlyGivenNames x; clear_value x)
    | with_reducible apply GoodO.next
    | with_reducible apply GoodO.ite
    | (with_reducible apply Good.step (State.acceptEq_good ..))
    | (with_reducible apply Good.step (State.afterCommit_good ..))
    | (with_reducible apply State.receive_good)
    | (intro x i; try dsimp -zeta only)
    | dsimp -zeta only
    | exact rfl

theorem State.acceptLimiter_good : ∀ s a1 a2 a3 a4 a5 a6, Good 2049 s (State.acceptLimiter s a1 a2 a3 a4 a5 a6) := by
  intro s a1 a2 a3 a4 a5 a6
  unfold State.acceptLimiter
  repeat' first
    | with_reducible exact Good.refl
    | with_reducible assumption
    | (extract_lets +onlyGivenNames x; (have ht : type_of% x = State := rfl); clear ht; refine Good.cut (x := x) ?_ ?_; (on_goal 1 => (unfold x; clear x)); (on_goal 2 => intro hx; clear_value x))
    | (with_reducible apply Good.step (State.wrAt_good ..))
    | exact rfl

theorem execLimiterSet_good : ∀ a0 a1 a2 a3 a4 a5 s, GoodO 9664731145 s (execLimiterSet a0 a1 a2 a3 a4 a5 s) := by
  intro a0 a1 a2 a3 a4 a5 s
  unfold execLimiterSet
  repeat' first
    | (with_reducible apply Good.step (hg ..))
    | with_reducible exact Good.refl
    | with_reducible assumption
    | (extract_lets +onlyGivenNames x; with_reducible refine GoodO.cutG (x := x) ?_ ?_; (on_goal 1 => (intro z; unfold x; clear x; beta_reduce)); (on_goal 2 => intro hg; clear_value x))
    | (extract_lets +onlyGivenNames x; clear_value x)
    | with_reducible apply GoodO.next
    | with_reducible apply GoodO.ite
    | (with_reducible apply Good.step (State.acceptLimiter_good ..))
    | (with_reducible apply Good.step (State.afterCommit_good ..))
    | (with_reducible apply State.receive_good)
    | (intro x i; try dsimp -zeta only)
    | dsimp -zeta only
    | exact rfl

theorem State.acceptDelays_good : ∀ s a1 a2, Good 2049 s (State.acceptDelays s a1 a2) := by
  intro s a1 a2
  unfold State.acceptDelays
  repeat' first
    | with_reducible exact Good.refl
    | with_reducible assumption
    | (with_reducible apply Good.foldl)
    | (with_reducible apply Good.foldl_snd)
    | (with_reducible apply Good.foldl_fst)
    | (intro x b h; try beta_reduce)
    | (with_reducible apply Good.step (State.wrAt_good ..))
    | exact rfl

theorem execOutDelay_good : ∀ a0 a1 s, GoodO 9664731145 s (execOutDelay a0 a1 s) := by
  intro a0 a1 s
  unfold execOutDelay
  repeat' first
    | (with_reducible apply Good.step (hg ..))
    | with_reducible exact Good.refl
    | with_reducible assumption
    | (extract_lets +onlyGivenNames x; with_reducible refine GoodO.cutG (x := x) ?_ ?_; (on_goal 1 => (intro z; unfold x; clear x; beta_reduce)); (on_goal 2 => intro hg; clear_value x))
    | with_reducible apply GoodO.next
    | with_reducible apply GoodO.ite
    | (with_reducible apply Good.step (State.acceptDelays_good ..))
    | (with_reducible apply Good.step (State.afterCommit_good ..))
    | (with_reducible apply State.receive_good)
    | (intro x i; try dsimp -zeta only)
    | dsimp -zeta only
    | exact rfl

theorem State.setStagingOf_good : ∀ s a1 a2, Good 1024 s (State.setStagingOf s a1 a2) := by
  intro s a1 a2
  unfold State.setStagingOf
  repeat' first
    | with_reducible exact Good.refl
    | with_reducible assumption
    | (extract_lets +onlyGivenNames x; clear_value x)
    | exact rfl
    | (with_reducible apply Good.upd_mix)

theorem execFirLoad_good : ∀ a0 a1 a2 a3 a4 s, GoodO 281484640388105 s (execFirLoad a0 a1 a2 a3 a4 s) := by
  intro a0 a1 a2 a3 a4 s
  unfold execFirLoad
  repeat' first
    | with_reducible exact Good.refl
    | with_reducible assumption
    | (extract_lets +onlyGivenNames x; (have ht : type_of% x = State := rfl); clear ht; refine Good.cut (x := x) ?_ ?_; (on_goal 1 => (unfold x; clear x)); (on_goal 2 => intro hx; clear_value x))
    | (extract_lets +onlyGivenNames x; clear_value x)
    | with_reducible apply GoodO.next
    | with_reducible apply GoodO.ite
    | with_reducible apply Good.ite
    | with_reducible apply Good.ite_fst
    | (with_reducible apply Good.step (State.queueBulk_good ..))
    | (with_reducible apply State.receive_good)
    | (intro x i; try dsimp -zeta only)
    | dsimp -zeta only
    | (with_reducible apply Good.step (State.setStagingOf_good ..))
    | exact rfl

theorem State.beginInstall_good : ∀ s a1 a2, Good 281474976711680 s (State.beginInstall s a1 a2) := by
  intro s a1 a2
  unfold State.beginInstall
  repeat' first
    | with_reducible exact Good.refl
    | with_reducible assumption
    | (extract_lets +onlyGivenNames x; (have ht : type_of% x = State := rfl); clear ht; refine Good.cut (x := x) ?_ ?_; (on_goal 1 => (unfold x; clear x)); (on_goal 2 => intro hx; clear_value x))
    | (extract_lets +onlyGivenNames x; clear_value x)
    | with_reducible apply Good.ite
    | (with_reducible apply Good.foldl)
    | (with_reducible apply Good.foldl_snd)
    | (with_reducible apply Good.foldl_fst)
    | (intro x b h; try beta_reduce)
    | (with_reducible apply Good.step (State.queueBulk_good ..))
    | (with_reducible apply Good.step (State.setStagingOf_good ..))
    | exact rfl
    | split
    | (with_reducible apply Good.upd_mix)

theorem execFirInstall_good : ∀ a0 a1 s, GoodO 281484641440777 s (execFirInstall a0 a1 s) := by
  intro a0 a1 s
  unfold execFirInstall
  repeat' first
    | with_reducible exact Good.refl
    | with_reducible assumption
    | (extract_lets +onlyGivenNames x; (have ht : type_of% x = State := rfl); clear ht; refine Good.cut (x := x) ?_ ?_; (on_goal 1 => (unfold x; clear x)); (on_goal 2 => intro hx; clear_value x))
    | (extract_lets +onlyGivenNames x; clear_value x)
    | with_reducible apply GoodO.next
    | with_reducible apply GoodO.ite
    | with_reducible apply Good.ite
    | with_reducible apply Good.ite_fst
    | (with_reducible apply Good.step (State.afterCommit_good ..))
    | (with_reducible apply Good.step (State.beginInstall_good ..))
    | (with_reducible apply Good.step (State.beginLong_good ..))
    | (with_reducible apply State.receive_good)
    | (intro x i; try dsimp -zeta only)
    | dsimp -zeta only
    | exact rfl

theorem execIdentControl_good : ∀ a0 a1 s, GoodO 9664730121 s (execIdentControl a0 a1 s) := by
  intro a0 a1 s
  unfold execIdentControl
  repeat' first
    | with_reducible exact Good.refl
    | with_reducible assumption
    | (extract_lets +onlyGivenNames x; clear_value x)
    | with_reducible apply GoodO.next
    | with_reducible apply GoodO.ite
    | with_reducible apply Good.ite
    | with_reducible apply Good.ite_fst
    | (with_reducible apply State.receive_good)
    | (intro x i; try dsimp -zeta only)
    | dsimp -zeta only
    | exact rfl
    | (with_reducible apply Good.upd_mix)

theorem State.propose_good : ∀ s a1, Good 1024 s (State.propose s a1).1 := by
  intro s a1
  unfold State.propose
  repeat' first
    | with_reducible exact Good.refl
    | with_reducible assumption
    | (extract_lets +onlyGivenNames x; clear_value x)
    | with_reducible apply Good.ite
    | with_reducible apply Good.ite_fst
    | dsimp -zeta only
    | exact rfl
    | (with_reducible apply Good.upd_mix)

theorem execIdentExport_good : ∀ a0 a1 a2 s, GoodO 9663676425 s (execIdentExport a0 a1 a2 s) := by
  intro a0 a1 a2 s
  unfold execIdentExport
  repeat' first
    | with_reducible exact Good.refl
    | with_reducible assumption
    | (extract_lets +onlyGivenNames x; (have ht : type_of% x = State := rfl); clear ht; refine Good.cut (x := x) ?_ ?_; (on_goal 1 => (unfold x; clear x)); (on_goal 2 => intro hx; clear_value x))
    | (extract_lets +onlyGivenNames x; clear_value x)
    | with_reducible apply GoodO.next
    | with_reducible apply GoodO.ite
    | (with_reducible apply Good.step (State.beginLong_good ..))
    | (with_reducible apply Good.step (State.longArg_good ..))
    | (with_reducible apply State.receive_good)
    | (intro x i; try dsimp -zeta only)
    | dsimp -zeta only
    | exact rfl

theorem execIdentExportComplete_good : ∀ a0 a1 s, GoodO 9663677449 s (execIdentExportComplete a0 a1 s) := by
  intro a0 a1 s
  unfold execIdentExportComplete
  repeat' first
    | with_reducible exact Good.refl
    | with_reducible assumption
    | (extract_lets +onlyGivenNames x; (have ht : type_of% x = State := rfl); clear ht; refine GoodO.cut (x := x) ?_ ?_; (on_goal 1 => (unfold x; clear x)); (on_goal 2 => intro hx; clear_value x))
    | (extract_lets +onlyGivenNames x; (have ht : type_of% x = State := rfl); clear ht; refine Good.cut (x := x) ?_ ?_; (on_goal 1 => (unfold x; clear x)); (on_goal 2 => intro hx; clear_value x))
    | (extract_lets +onlyGivenNames x; clear_value x)
    | with_reducible apply GoodO.next
    | with_reducible apply GoodO.ite
    | with_reducible apply Good.ite
    | (with_reducible apply Good.step (State.atRaw_good ..))
    | (with_reducible apply Good.step (State.endLong_good ..))
    | (with_reducible apply Good.step (State.propose_good ..))
    | (refine Good.fst ‹_› ?_)
    | exact rfl
    | split

end Sys2Proof.Machine
end

