-- ==== Sys2Proof/Laws/State.lean ====
section
/-! SUPPORT. The fields of the state after each primitive update: every field but the one it writes is as it was. True by definition,
so that no later proof unfolds a record update. -/

-- One proof at a time: the package as one text then takes less memory.
set_option Elab.async false

namespace Sys2Proof.Machine

open Sys2Proof

variable {s : State}

/-! ### State.wr -/

@[simp] theorem State.wr_live {f v} : (s.wr f v).live = s.live := rfl
@[simp] theorem State.wr_liveHist {f v} : (s.wr f v).liveHist = s.liveHist := rfl
@[simp] theorem State.wr_tm {f v} : (s.wr f v).tm = s.tm := rfl
@[simp] theorem State.wr_mem {f v} : (s.wr f v).mem = s.mem := rfl
@[simp] theorem State.wr_free {f v} : (s.wr f v).free = s.free := rfl
@[simp] theorem State.wr_latches {f v} : (s.wr f v).latches = s.latches := rfl
@[simp] theorem State.wr_straps {f v} : (s.wr f v).straps = s.straps := rfl
@[simp] theorem State.wr_geo {f v} : (s.wr f v).geo = s.geo := rfl
@[simp] theorem State.wr_hst {f v} : (s.wr f v).hst = s.hst := rfl
@[simp] theorem State.wr_mix {f v} : (s.wr f v).mix = s.mix := rfl
@[simp] theorem State.wr_sched {f v} : (s.wr f v).sched = s.sched := rfl
@[simp] theorem State.wr_ost {f v} : (s.wr f v).ost = s.ost := rfl
@[simp] theorem State.wr_cores {f v} : (s.wr f v).cores = s.cores := rfl
@[simp] theorem State.wr_tdm {f v} : (s.wr f v).tdm = s.tdm := rfl
@[simp] theorem State.wr_aes {f v} : (s.wr f v).aes = s.aes := rfl
@[simp] theorem State.wr_aesOut {f v} : (s.wr f v).aesOut = s.aesOut := rfl
@[simp] theorem State.wr_vox {f v} : (s.wr f v).vox = s.vox := rfl
@[simp] theorem State.wr_asc {f v} : (s.wr f v).asc = s.asc := rfl
@[simp] theorem State.wr_mics {f v} : (s.wr f v).mics = s.mics := rfl
@[simp] theorem State.wr_bound {f v} : (s.wr f v).bound = s.bound := rfl
@[simp] theorem State.wr_ps {f v} : (s.wr f v).ps = s.ps := rfl
@[simp] theorem State.wr_tly {f v} : (s.wr f v).tly = s.tly := rfl
@[simp] theorem State.wr_macs {f v} : (s.wr f v).macs = s.macs := rfl
@[simp] theorem State.wr_ptp {f v} : (s.wr f v).ptp = s.ptp := rfl
@[simp] theorem State.wr_srx {f v} : (s.wr f v).srx = s.srx := rfl
@[simp] theorem State.wr_stx {f v} : (s.wr f v).stx = s.stx := rfl
@[simp] theorem State.wr_acts {f v} : (s.wr f v).acts = s.acts := rfl
@[simp] theorem State.wr_gpio {f v} : (s.wr f v).gpio = s.gpio := rfl
@[simp] theorem State.wr_pins {f v} : (s.wr f v).pins = s.pins := rfl
@[simp] theorem State.wr_sessions {f v} : (s.wr f v).sessions = s.sessions := rfl
@[simp] theorem State.wr_owner {f v} : (s.wr f v).owner = s.owner := rfl
@[simp] theorem State.wr_former {f v} : (s.wr f v).former = s.former := rfl
@[simp] theorem State.wr_ports {f v} : (s.wr f v).ports = s.ports := rfl
@[simp] theorem State.wr_devBusy {f v} : (s.wr f v).devBusy = s.devBusy := rfl
@[simp] theorem State.wr_enrol {f v} : (s.wr f v).enrol = s.enrol := rfl
@[simp] theorem State.wr_msgs {f v} : (s.wr f v).msgs = s.msgs := rfl
@[simp] theorem State.wr_plays {f v} : (s.wr f v).plays = s.plays := rfl
@[simp] theorem State.wr_fw {f v} : (s.wr f v).fw = s.fw := rfl
@[simp] theorem State.wr_flash {f v} : (s.wr f v).flash = s.flash := rfl
@[simp] theorem State.wr_otp {f v} : (s.wr f v).otp = s.otp := rfl
@[simp] theorem State.wr_maint {f v} : (s.wr f v).maint = s.maint := rfl
@[simp] theorem State.wr_triggers {f v} : (s.wr f v).triggers = s.triggers := rfl
@[simp] theorem State.wr_armed {f v} : (s.wr f v).armed = s.armed := rfl
@[simp] theorem State.wr_totals {f v} : (s.wr f v).totals = s.totals := rfl
@[simp] theorem State.wr_totalsAt {f v} : (s.wr f v).totalsAt = s.totalsAt := rfl
@[simp] theorem State.wr_lib {f v} : (s.wr f v).lib = s.lib := rfl
@[simp] theorem State.wr_bwt {f v} : (s.wr f v).bwt = s.bwt := rfl
@[simp] theorem State.wr_mir {f v} : (s.wr f v).mir = s.mir := rfl
@[simp] theorem State.wr_cel {f v} : (s.wr f v).cel = s.cel := rfl
@[simp] theorem State.wr_fab {f v} : (s.wr f v).fab = s.fab := rfl
@[simp] theorem State.wr_clk {f v} : (s.wr f v).clk = s.clk := rfl
@[simp] theorem State.wr_sup {f v} : (s.wr f v).sup = s.sup := rfl
@[simp] theorem State.wr_image {f v} : (s.wr f v).image = s.image := rfl
@[simp] theorem State.wr_pending {f v} : (s.wr f v).pending = s.pending := rfl

/-! ### State.wrLive -/

@[simp] theorem State.wrLive_regs {f v} : (s.wrLive f v).regs = s.regs := rfl
@[simp] theorem State.wrLive_liveHist {f v} : (s.wrLive f v).liveHist = s.liveHist := rfl
@[simp] theorem State.wrLive_tm {f v} : (s.wrLive f v).tm = s.tm := rfl
@[simp] theorem State.wrLive_mem {f v} : (s.wrLive f v).mem = s.mem := rfl
@[simp] theorem State.wrLive_free {f v} : (s.wrLive f v).free = s.free := rfl
@[simp] theorem State.wrLive_latches {f v} : (s.wrLive f v).latches = s.latches := rfl
@[simp] theorem State.wrLive_straps {f v} : (s.wrLive f v).straps = s.straps := rfl
@[simp] theorem State.wrLive_geo {f v} : (s.wrLive f v).geo = s.geo := rfl
@[simp] theorem State.wrLive_hst {f v} : (s.wrLive f v).hst = s.hst := rfl
@[simp] theorem State.wrLive_mix {f v} : (s.wrLive f v).mix = s.mix := rfl
@[simp] theorem State.wrLive_sched {f v} : (s.wrLive f v).sched = s.sched := rfl
@[simp] theorem State.wrLive_ost {f v} : (s.wrLive f v).ost = s.ost := rfl
@[simp] theorem State.wrLive_cores {f v} : (s.wrLive f v).cores = s.cores := rfl
@[simp] theorem State.wrLive_tdm {f v} : (s.wrLive f v).tdm = s.tdm := rfl
@[simp] theorem State.wrLive_aes {f v} : (s.wrLive f v).aes = s.aes := rfl
@[simp] theorem State.wrLive_aesOut {f v} : (s.wrLive f v).aesOut = s.aesOut := rfl
@[simp] theorem State.wrLive_vox {f v} : (s.wrLive f v).vox = s.vox := rfl
@[simp] theorem State.wrLive_asc {f v} : (s.wrLive f v).asc = s.asc := rfl
@[simp] theorem State.wrLive_mics {f v} : (s.wrLive f v).mics = s.mics := rfl
@[simp] theorem State.wrLive_bound {f v} : (s.wrLive f v).bound = s.bound := rfl
@[simp] theorem State.wrLive_ps {f v} : (s.wrLive f v).ps = s.ps := rfl
@[simp] theorem State.wrLive_tly {f v} : (s.wrLive f v).tly = s.tly := rfl
@[simp] theorem State.wrLive_macs {f v} : (s.wrLive f v).macs = s.macs := rfl
@[simp] theorem State.wrLive_ptp {f v} : (s.wrLive f v).ptp = s.ptp := rfl
@[simp] theorem State.wrLive_srx {f v} : (s.wrLive f v).srx = s.srx := rfl
@[simp] theorem State.wrLive_stx {f v} : (s.wrLive f v).stx = s.stx := rfl
@[simp] theorem State.wrLive_acts {f v} : (s.wrLive f v).acts = s.acts := rfl
@[simp] theorem State.wrLive_gpio {f v} : (s.wrLive f v).gpio = s.gpio := rfl
@[simp] theorem State.wrLive_pins {f v} : (s.wrLive f v).pins = s.pins := rfl
@[simp] theorem State.wrLive_sessions {f v} : (s.wrLive f v).sessions = s.sessions := rfl
@[simp] theorem State.wrLive_owner {f v} : (s.wrLive f v).owner = s.owner := rfl
@[simp] theorem State.wrLive_former {f v} : (s.wrLive f v).former = s.former := rfl
@[simp] theorem State.wrLive_ports {f v} : (s.wrLive f v).ports = s.ports := rfl
@[simp] theorem State.wrLive_devBusy {f v} : (s.wrLive f v).devBusy = s.devBusy := rfl
@[simp] theorem State.wrLive_enrol {f v} : (s.wrLive f v).enrol = s.enrol := rfl
@[simp] theorem State.wrLive_msgs {f v} : (s.wrLive f v).msgs = s.msgs := rfl
@[simp] theorem State.wrLive_plays {f v} : (s.wrLive f v).plays = s.plays := rfl
@[simp] theorem State.wrLive_fw {f v} : (s.wrLive f v).fw = s.fw := rfl
@[simp] theorem State.wrLive_flash {f v} : (s.wrLive f v).flash = s.flash := rfl
@[simp] theorem State.wrLive_otp {f v} : (s.wrLive f v).otp = s.otp := rfl
@[simp] theorem State.wrLive_maint {f v} : (s.wrLive f v).maint = s.maint := rfl
@[simp] theorem State.wrLive_triggers {f v} : (s.wrLive f v).triggers = s.triggers := rfl
@[simp] theorem State.wrLive_armed {f v} : (s.wrLive f v).armed = s.armed := rfl
@[simp] theorem State.wrLive_totals {f v} : (s.wrLive f v).totals = s.totals := rfl
@[simp] theorem State.wrLive_totalsAt {f v} : (s.wrLive f v).totalsAt = s.totalsAt := rfl
@[simp] theorem State.wrLive_lib {f v} : (s.wrLive f v).lib = s.lib := rfl
@[simp] theorem State.wrLive_bwt {f v} : (s.wrLive f v).bwt = s.bwt := rfl
@[simp] theorem State.wrLive_mir {f v} : (s.wrLive f v).mir = s.mir := rfl
@[simp] theorem State.wrLive_cel {f v} : (s.wrLive f v).cel = s.cel := rfl
@[simp] theorem State.wrLive_fab {f v} : (s.wrLive f v).fab = s.fab := rfl
@[simp] theorem State.wrLive_clk {f v} : (s.wrLive f v).clk = s.clk := rfl
@[simp] theorem State.wrLive_sup {f v} : (s.wrLive f v).sup = s.sup := rfl
@[simp] theorem State.wrLive_image {f v} : (s.wrLive f v).image = s.image := rfl
@[simp] theorem State.wrLive_pending {f v} : (s.wrLive f v).pending = s.pending := rfl

/-! ### State.setByte -/

@[simp] theorem State.setByte_regs {a v} : (s.setByte a v).regs = s.regs := rfl
@[simp] theorem State.setByte_live {a v} : (s.setByte a v).live = s.live := rfl
@[simp] theorem State.setByte_liveHist {a v} : (s.setByte a v).liveHist = s.liveHist := rfl
@[simp] theorem State.setByte_tm {a v} : (s.setByte a v).tm = s.tm := rfl
@[simp] theorem State.setByte_free {a v} : (s.setByte a v).free = s.free := rfl
@[simp] theorem State.setByte_latches {a v} : (s.setByte a v).latches = s.latches := rfl
@[simp] theorem State.setByte_straps {a v} : (s.setByte a v).straps = s.straps := rfl
@[simp] theorem State.setByte_geo {a v} : (s.setByte a v).geo = s.geo := rfl
@[simp] theorem State.setByte_hst {a v} : (s.setByte a v).hst = s.hst := rfl
@[simp] theorem State.setByte_mix {a v} : (s.setByte a v).mix = s.mix := rfl
@[simp] theorem State.setByte_sched {a v} : (s.setByte a v).sched = s.sched := rfl
@[simp] theorem State.setByte_ost {a v} : (s.setByte a v).ost = s.ost := rfl
@[simp] theorem State.setByte_cores {a v} : (s.setByte a v).cores = s.cores := rfl
@[simp] theorem State.setByte_tdm {a v} : (s.setByte a v).tdm = s.tdm := rfl
@[simp] theorem State.setByte_aes {a v} : (s.setByte a v).aes = s.aes := rfl
@[simp] theorem State.setByte_aesOut {a v} : (s.setByte a v).aesOut = s.aesOut := rfl
@[simp] theorem State.setByte_vox {a v} : (s.setByte a v).vox = s.vox := rfl
@[simp] theorem State.setByte_asc {a v} : (s.setByte a v).asc = s.asc := rfl
@[simp] theorem State.setByte_mics {a v} : (s.setByte a v).mics = s.mics := rfl
@[simp] theorem State.setByte_bound {a v} : (s.setByte a v).bound = s.bound := rfl
@[simp] theorem State.setByte_ps {a v} : (s.setByte a v).ps = s.ps := rfl
@[simp] theorem State.setByte_tly {a v} : (s.setByte a v).tly = s.tly := rfl
@[simp] theorem State.setByte_macs {a v} : (s.setByte a v).macs = s.macs := rfl
@[simp] theorem State.setByte_ptp {a v} : (s.setByte a v).ptp = s.ptp := rfl
@[simp] theorem State.setByte_srx {a v} : (s.setByte a v).srx = s.srx := rfl
@[simp] theorem State.setByte_stx {a v} : (s.setByte a v).stx = s.stx := rfl
@[simp] theorem State.setByte_acts {a v} : (s.setByte a v).acts = s.acts := rfl
@[simp] theorem State.setByte_gpio {a v} : (s.setByte a v).gpio = s.gpio := rfl
@[simp] theorem State.setByte_pins {a v} : (s.setByte a v).pins = s.pins := rfl
@[simp] theorem State.setByte_sessions {a v} : (s.setByte a v).sessions = s.sessions := rfl
@[simp] theorem State.setByte_owner {a v} : (s.setByte a v).owner = s.owner := rfl
@[simp] theorem State.setByte_former {a v} : (s.setByte a v).former = s.former := rfl
@[simp] theorem State.setByte_ports {a v} : (s.setByte a v).ports = s.ports := rfl
@[simp] theorem State.setByte_devBusy {a v} : (s.setByte a v).devBusy = s.devBusy := rfl
@[simp] theorem State.setByte_enrol {a v} : (s.setByte a v).enrol = s.enrol := rfl
@[simp] theorem State.setByte_msgs {a v} : (s.setByte a v).msgs = s.msgs := rfl
@[simp] theorem State.setByte_plays {a v} : (s.setByte a v).plays = s.plays := rfl
@[simp] theorem State.setByte_fw {a v} : (s.setByte a v).fw = s.fw := rfl
@[simp] theorem State.setByte_flash {a v} : (s.setByte a v).flash = s.flash := rfl
@[simp] theorem State.setByte_otp {a v} : (s.setByte a v).otp = s.otp := rfl
@[simp] theorem State.setByte_maint {a v} : (s.setByte a v).maint = s.maint := rfl
@[simp] theorem State.setByte_triggers {a v} : (s.setByte a v).triggers = s.triggers := rfl
@[simp] theorem State.setByte_armed {a v} : (s.setByte a v).armed = s.armed := rfl
@[simp] theorem State.setByte_totals {a v} : (s.setByte a v).totals = s.totals := rfl
@[simp] theorem State.setByte_totalsAt {a v} : (s.setByte a v).totalsAt = s.totalsAt := rfl
@[simp] theorem State.setByte_lib {a v} : (s.setByte a v).lib = s.lib := rfl
@[simp] theorem State.setByte_bwt {a v} : (s.setByte a v).bwt = s.bwt := rfl
@[simp] theorem State.setByte_mir {a v} : (s.setByte a v).mir = s.mir := rfl
@[simp] theorem State.setByte_cel {a v} : (s.setByte a v).cel = s.cel := rfl
@[simp] theorem State.setByte_fab {a v} : (s.setByte a v).fab = s.fab := rfl
@[simp] theorem State.setByte_clk {a v} : (s.setByte a v).clk = s.clk := rfl
@[simp] theorem State.setByte_sup {a v} : (s.setByte a v).sup = s.sup := rfl
@[simp] theorem State.setByte_image {a v} : (s.setByte a v).image = s.image := rfl
@[simp] theorem State.setByte_pending {a v} : (s.setByte a v).pending = s.pending := rfl

/-! ### State.atRaw -/

@[simp] theorem State.atRaw_regs {n} : (s.atRaw n).regs = s.regs := rfl
@[simp] theorem State.atRaw_live {n} : (s.atRaw n).live = s.live := rfl
@[simp] theorem State.atRaw_liveHist {n} : (s.atRaw n).liveHist = s.liveHist := rfl
@[simp] theorem State.atRaw_mem {n} : (s.atRaw n).mem = s.mem := rfl
@[simp] theorem State.atRaw_free {n} : (s.atRaw n).free = s.free := rfl
@[simp] theorem State.atRaw_latches {n} : (s.atRaw n).latches = s.latches := rfl
@[simp] theorem State.atRaw_straps {n} : (s.atRaw n).straps = s.straps := rfl
@[simp] theorem State.atRaw_geo {n} : (s.atRaw n).geo = s.geo := rfl
@[simp] theorem State.atRaw_hst {n} : (s.atRaw n).hst = s.hst := rfl
@[simp] theorem State.atRaw_mix {n} : (s.atRaw n).mix = s.mix := rfl
@[simp] theorem State.atRaw_sched {n} : (s.atRaw n).sched = s.sched := rfl
@[simp] theorem State.atRaw_ost {n} : (s.atRaw n).ost = s.ost := rfl
@[simp] theorem State.atRaw_cores {n} : (s.atRaw n).cores = s.cores := rfl
@[simp] theorem State.atRaw_tdm {n} : (s.atRaw n).tdm = s.tdm := rfl
@[simp] theorem State.atRaw_aes {n} : (s.atRaw n).aes = s.aes := rfl
@[simp] theorem State.atRaw_aesOut {n} : (s.atRaw n).aesOut = s.aesOut := rfl
@[simp] theorem State.atRaw_vox {n} : (s.atRaw n).vox = s.vox := rfl
@[simp] theorem State.atRaw_asc {n} : (s.atRaw n).asc = s.asc := rfl
@[simp] theorem State.atRaw_mics {n} : (s.atRaw n).mics = s.mics := rfl
@[simp] theorem State.atRaw_bound {n} : (s.atRaw n).bound = s.bound := rfl
@[simp] theorem State.atRaw_ps {n} : (s.atRaw n).ps = s.ps := rfl
@[simp] theorem State.atRaw_tly {n} : (s.atRaw n).tly = s.tly := rfl
@[simp] theorem State.atRaw_macs {n} : (s.atRaw n).macs = s.macs := rfl
@[simp] theorem State.atRaw_ptp {n} : (s.atRaw n).ptp = s.ptp := rfl
@[simp] theorem State.atRaw_srx {n} : (s.atRaw n).srx = s.srx := rfl
@[simp] theorem State.atRaw_stx {n} : (s.atRaw n).stx = s.stx := rfl
@[simp] theorem State.atRaw_acts {n} : (s.atRaw n).acts = s.acts := rfl
@[simp] theorem State.atRaw_gpio {n} : (s.atRaw n).gpio = s.gpio := rfl
@[simp] theorem State.atRaw_pins {n} : (s.atRaw n).pins = s.pins := rfl
@[simp] theorem State.atRaw_sessions {n} : (s.atRaw n).sessions = s.sessions := rfl
@[simp] theorem State.atRaw_owner {n} : (s.atRaw n).owner = s.owner := rfl
@[simp] theorem State.atRaw_former {n} : (s.atRaw n).former = s.former := rfl
@[simp] theorem State.atRaw_ports {n} : (s.atRaw n).ports = s.ports := rfl
@[simp] theorem State.atRaw_devBusy {n} : (s.atRaw n).devBusy = s.devBusy := rfl
@[simp] theorem State.atRaw_enrol {n} : (s.atRaw n).enrol = s.enrol := rfl
@[simp] theorem State.atRaw_msgs {n} : (s.atRaw n).msgs = s.msgs := rfl
@[simp] theorem State.atRaw_plays {n} : (s.atRaw n).plays = s.plays := rfl
@[simp] theorem State.atRaw_fw {n} : (s.atRaw n).fw = s.fw := rfl
@[simp] theorem State.atRaw_flash {n} : (s.atRaw n).flash = s.flash := rfl
@[simp] theorem State.atRaw_otp {n} : (s.atRaw n).otp = s.otp := rfl
@[simp] theorem State.atRaw_maint {n} : (s.atRaw n).maint = s.maint := rfl
@[simp] theorem State.atRaw_triggers {n} : (s.atRaw n).triggers = s.triggers := rfl
@[simp] theorem State.atRaw_armed {n} : (s.atRaw n).armed = s.armed := rfl
@[simp] theorem State.atRaw_totals {n} : (s.atRaw n).totals = s.totals := rfl
@[simp] theorem State.atRaw_totalsAt {n} : (s.atRaw n).totalsAt = s.totalsAt := rfl
@[simp] theorem State.atRaw_lib {n} : (s.atRaw n).lib = s.lib := rfl
@[simp] theorem State.atRaw_bwt {n} : (s.atRaw n).bwt = s.bwt := rfl
@[simp] theorem State.atRaw_mir {n} : (s.atRaw n).mir = s.mir := rfl
@[simp] theorem State.atRaw_cel {n} : (s.atRaw n).cel = s.cel := rfl
@[simp] theorem State.atRaw_fab {n} : (s.atRaw n).fab = s.fab := rfl
@[simp] theorem State.atRaw_clk {n} : (s.atRaw n).clk = s.clk := rfl
@[simp] theorem State.atRaw_sup {n} : (s.atRaw n).sup = s.sup := rfl
@[simp] theorem State.atRaw_image {n} : (s.atRaw n).image = s.image := rfl
@[simp] theorem State.atRaw_pending {n} : (s.atRaw n).pending = s.pending := rfl

/-! ### State.tick -/

@[simp] theorem State.tick_regs : s.tick.regs = s.regs := rfl
@[simp] theorem State.tick_live : s.tick.live = s.live := rfl
@[simp] theorem State.tick_liveHist : s.tick.liveHist = s.liveHist := rfl
@[simp] theorem State.tick_mem : s.tick.mem = s.mem := rfl
@[simp] theorem State.tick_free : s.tick.free = s.free := rfl
@[simp] theorem State.tick_latches : s.tick.latches = s.latches := rfl
@[simp] theorem State.tick_straps : s.tick.straps = s.straps := rfl
@[simp] theorem State.tick_geo : s.tick.geo = s.geo := rfl
@[simp] theorem State.tick_hst : s.tick.hst = s.hst := rfl
@[simp] theorem State.tick_mix : s.tick.mix = s.mix := rfl
@[simp] theorem State.tick_sched : s.tick.sched = s.sched := rfl
@[simp] theorem State.tick_ost : s.tick.ost = s.ost := rfl
@[simp] theorem State.tick_cores : s.tick.cores = s.cores := rfl
@[simp] theorem State.tick_tdm : s.tick.tdm = s.tdm := rfl
@[simp] theorem State.tick_aes : s.tick.aes = s.aes := rfl
@[simp] theorem State.tick_aesOut : s.tick.aesOut = s.aesOut := rfl
@[simp] theorem State.tick_vox : s.tick.vox = s.vox := rfl
@[simp] theorem State.tick_asc : s.tick.asc = s.asc := rfl
@[simp] theorem State.tick_mics : s.tick.mics = s.mics := rfl
@[simp] theorem State.tick_bound : s.tick.bound = s.bound := rfl
@[simp] theorem State.tick_ps : s.tick.ps = s.ps := rfl
@[simp] theorem State.tick_tly : s.tick.tly = s.tly := rfl
@[simp] theorem State.tick_macs : s.tick.macs = s.macs := rfl
@[simp] theorem State.tick_ptp : s.tick.ptp = s.ptp := rfl
@[simp] theorem State.tick_srx : s.tick.srx = s.srx := rfl
@[simp] theorem State.tick_stx : s.tick.stx = s.stx := rfl
@[simp] theorem State.tick_acts : s.tick.acts = s.acts := rfl
@[simp] theorem State.tick_gpio : s.tick.gpio = s.gpio := rfl
@[simp] theorem State.tick_pins : s.tick.pins = s.pins := rfl
@[simp] theorem State.tick_sessions : s.tick.sessions = s.sessions := rfl
@[simp] theorem State.tick_owner : s.tick.owner = s.owner := rfl
@[simp] theorem State.tick_former : s.tick.former = s.former := rfl
@[simp] theorem State.tick_ports : s.tick.ports = s.ports := rfl
@[simp] theorem State.tick_devBusy : s.tick.devBusy = s.devBusy := rfl
@[simp] theorem State.tick_enrol : s.tick.enrol = s.enrol := rfl
@[simp] theorem State.tick_msgs : s.tick.msgs = s.msgs := rfl
@[simp] theorem State.tick_plays : s.tick.plays = s.plays := rfl
@[simp] theorem State.tick_fw : s.tick.fw = s.fw := rfl
@[simp] theorem State.tick_flash : s.tick.flash = s.flash := rfl
@[simp] theorem State.tick_otp : s.tick.otp = s.otp := rfl
@[simp] theorem State.tick_maint : s.tick.maint = s.maint := rfl
@[simp] theorem State.tick_triggers : s.tick.triggers = s.triggers := rfl
@[simp] theorem State.tick_armed : s.tick.armed = s.armed := rfl
@[simp] theorem State.tick_totals : s.tick.totals = s.totals := rfl
@[simp] theorem State.tick_totalsAt : s.tick.totalsAt = s.totalsAt := rfl
@[simp] theorem State.tick_lib : s.tick.lib = s.lib := rfl
@[simp] theorem State.tick_bwt : s.tick.bwt = s.bwt := rfl
@[simp] theorem State.tick_mir : s.tick.mir = s.mir := rfl
@[simp] theorem State.tick_cel : s.tick.cel = s.cel := rfl
@[simp] theorem State.tick_fab : s.tick.fab = s.fab := rfl
@[simp] theorem State.tick_clk : s.tick.clk = s.clk := rfl
@[simp] theorem State.tick_sup : s.tick.sup = s.sup := rfl
@[simp] theorem State.tick_image : s.tick.image = s.image := rfl
@[simp] theorem State.tick_pending : s.tick.pending = s.pending := rfl

/-! ### State.later -/

@[simp] theorem State.later_regs {k a} : (s.later k a).regs = s.regs := rfl
@[simp] theorem State.later_live {k a} : (s.later k a).live = s.live := rfl
@[simp] theorem State.later_liveHist {k a} : (s.later k a).liveHist = s.liveHist := rfl
@[simp] theorem State.later_tm {k a} : (s.later k a).tm = s.tm := rfl
@[simp] theorem State.later_mem {k a} : (s.later k a).mem = s.mem := rfl
@[simp] theorem State.later_free {k a} : (s.later k a).free = s.free := rfl
@[simp] theorem State.later_latches {k a} : (s.later k a).latches = s.latches := rfl
@[simp] theorem State.later_straps {k a} : (s.later k a).straps = s.straps := rfl
@[simp] theorem State.later_geo {k a} : (s.later k a).geo = s.geo := rfl
@[simp] theorem State.later_hst {k a} : (s.later k a).hst = s.hst := rfl
@[simp] theorem State.later_mix {k a} : (s.later k a).mix = s.mix := rfl
@[simp] theorem State.later_ost {k a} : (s.later k a).ost = s.ost := rfl
@[simp] theorem State.later_cores {k a} : (s.later k a).cores = s.cores := rfl
@[simp] theorem State.later_tdm {k a} : (s.later k a).tdm = s.tdm := rfl
@[simp] theorem State.later_aes {k a} : (s.later k a).aes = s.aes := rfl
@[simp] theorem State.later_aesOut {k a} : (s.later k a).aesOut = s.aesOut := rfl
@[simp] theorem State.later_vox {k a} : (s.later k a).vox = s.vox := rfl
@[simp] theorem State.later_asc {k a} : (s.later k a).asc = s.asc := rfl
@[simp] theorem State.later_mics {k a} : (s.later k a).mics = s.mics := rfl
@[simp] theorem State.later_bound {k a} : (s.later k a).bound = s.bound := rfl
@[simp] theorem State.later_ps {k a} : (s.later k a).ps = s.ps := rfl
@[simp] theorem State.later_tly {k a} : (s.later k a).tly = s.tly := rfl
@[simp] theorem State.later_macs {k a} : (s.later k a).macs = s.macs := rfl
@[simp] theorem State.later_ptp {k a} : (s.later k a).ptp = s.ptp := rfl
@[simp] theorem State.later_srx {k a} : (s.later k a).srx = s.srx := rfl
@[simp] theorem State.later_stx {k a} : (s.later k a).stx = s.stx := rfl
@[simp] theorem State.later_acts {k a} : (s.later k a).acts = s.acts := rfl
@[simp] theorem State.later_gpio {k a} : (s.later k a).gpio = s.gpio := rfl
@[simp] theorem State.later_pins {k a} : (s.later k a).pins = s.pins := rfl
@[simp] theorem State.later_sessions {k a} : (s.later k a).sessions = s.sessions := rfl
@[simp] theorem State.later_owner {k a} : (s.later k a).owner = s.owner := rfl
@[simp] theorem State.later_former {k a} : (s.later k a).former = s.former := rfl
@[simp] theorem State.later_ports {k a} : (s.later k a).ports = s.ports := rfl
@[simp] theorem State.later_devBusy {k a} : (s.later k a).devBusy = s.devBusy := rfl
@[simp] theorem State.later_enrol {k a} : (s.later k a).enrol = s.enrol := rfl
@[simp] theorem State.later_msgs {k a} : (s.later k a).msgs = s.msgs := rfl
@[simp] theorem State.later_plays {k a} : (s.later k a).plays = s.plays := rfl
@[simp] theorem State.later_fw {k a} : (s.later k a).fw = s.fw := rfl
@[simp] theorem State.later_flash {k a} : (s.later k a).flash = s.flash := rfl
@[simp] theorem State.later_otp {k a} : (s.later k a).otp = s.otp := rfl
@[simp] theorem State.later_maint {k a} : (s.later k a).maint = s.maint := rfl
@[simp] theorem State.later_triggers {k a} : (s.later k a).triggers = s.triggers := rfl
@[simp] theorem State.later_armed {k a} : (s.later k a).armed = s.armed := rfl
@[simp] theorem State.later_totals {k a} : (s.later k a).totals = s.totals := rfl
@[simp] theorem State.later_totalsAt {k a} : (s.later k a).totalsAt = s.totalsAt := rfl
@[simp] theorem State.later_lib {k a} : (s.later k a).lib = s.lib := rfl
@[simp] theorem State.later_bwt {k a} : (s.later k a).bwt = s.bwt := rfl
@[simp] theorem State.later_mir {k a} : (s.later k a).mir = s.mir := rfl
@[simp] theorem State.later_cel {k a} : (s.later k a).cel = s.cel := rfl
@[simp] theorem State.later_fab {k a} : (s.later k a).fab = s.fab := rfl
@[simp] theorem State.later_clk {k a} : (s.later k a).clk = s.clk := rfl
@[simp] theorem State.later_sup {k a} : (s.later k a).sup = s.sup := rfl
@[simp] theorem State.later_image {k a} : (s.later k a).image = s.image := rfl
@[simp] theorem State.later_pending {k a} : (s.later k a).pending = s.pending := rfl

/-! ### State.unsched -/

@[simp] theorem State.unsched_regs {p} : (s.unsched p).regs = s.regs := rfl
@[simp] theorem State.unsched_live {p} : (s.unsched p).live = s.live := rfl
@[simp] theorem State.unsched_liveHist {p} : (s.unsched p).liveHist = s.liveHist := rfl
@[simp] theorem State.unsched_tm {p} : (s.unsched p).tm = s.tm := rfl
@[simp] theorem State.unsched_mem {p} : (s.unsched p).mem = s.mem := rfl
@[simp] theorem State.unsched_free {p} : (s.unsched p).free = s.free := rfl
@[simp] theorem State.unsched_latches {p} : (s.unsched p).latches = s.latches := rfl
@[simp] theorem State.unsched_straps {p} : (s.unsched p).straps = s.straps := rfl
@[simp] theorem State.unsched_geo {p} : (s.unsched p).geo = s.geo := rfl
@[simp] theorem State.unsched_hst {p} : (s.unsched p).hst = s.hst := rfl
@[simp] theorem State.unsched_mix {p} : (s.unsched p).mix = s.mix := rfl
@[simp] theorem State.unsched_ost {p} : (s.unsched p).ost = s.ost := rfl
@[simp] theorem State.unsched_cores {p} : (s.unsched p).cores = s.cores := rfl
@[simp] theorem State.unsched_tdm {p} : (s.unsched p).tdm = s.tdm := rfl
@[simp] theorem State.unsched_aes {p} : (s.unsched p).aes = s.aes := rfl
@[simp] theorem State.unsched_aesOut {p} : (s.unsched p).aesOut = s.aesOut := rfl
@[simp] theorem State.unsched_vox {p} : (s.unsched p).vox = s.vox := rfl
@[simp] theorem State.unsched_asc {p} : (s.unsched p).asc = s.asc := rfl
@[simp] theorem State.unsched_mics {p} : (s.unsched p).mics = s.mics := rfl
@[simp] theorem State.unsched_bound {p} : (s.unsched p).bound = s.bound := rfl
@[simp] theorem State.unsched_ps {p} : (s.unsched p).ps = s.ps := rfl
@[simp] theorem State.unsched_tly {p} : (s.unsched p).tly = s.tly := rfl
@[simp] theorem State.unsched_macs {p} : (s.unsched p).macs = s.macs := rfl
@[simp] theorem State.unsched_ptp {p} : (s.unsched p).ptp = s.ptp := rfl
@[simp] theorem State.unsched_srx {p} : (s.unsched p).srx = s.srx := rfl
@[simp] theorem State.unsched_stx {p} : (s.unsched p).stx = s.stx := rfl
@[simp] theorem State.unsched_acts {p} : (s.unsched p).acts = s.acts := rfl
@[simp] theorem State.unsched_gpio {p} : (s.unsched p).gpio = s.gpio := rfl
@[simp] theorem State.unsched_pins {p} : (s.unsched p).pins = s.pins := rfl
@[simp] theorem State.unsched_sessions {p} : (s.unsched p).sessions = s.sessions := rfl
@[simp] theorem State.unsched_owner {p} : (s.unsched p).owner = s.owner := rfl
@[simp] theorem State.unsched_former {p} : (s.unsched p).former = s.former := rfl
@[simp] theorem State.unsched_ports {p} : (s.unsched p).ports = s.ports := rfl
@[simp] theorem State.unsched_devBusy {p} : (s.unsched p).devBusy = s.devBusy := rfl
@[simp] theorem State.unsched_enrol {p} : (s.unsched p).enrol = s.enrol := rfl
@[simp] theorem State.unsched_msgs {p} : (s.unsched p).msgs = s.msgs := rfl
@[simp] theorem State.unsched_plays {p} : (s.unsched p).plays = s.plays := rfl
@[simp] theorem State.unsched_fw {p} : (s.unsched p).fw = s.fw := rfl
@[simp] theorem State.unsched_flash {p} : (s.unsched p).flash = s.flash := rfl
@[simp] theorem State.unsched_otp {p} : (s.unsched p).otp = s.otp := rfl
@[simp] theorem State.unsched_maint {p} : (s.unsched p).maint = s.maint := rfl
@[simp] theorem State.unsched_triggers {p} : (s.unsched p).triggers = s.triggers := rfl
@[simp] theorem State.unsched_armed {p} : (s.unsched p).armed = s.armed := rfl
@[simp] theorem State.unsched_totals {p} : (s.unsched p).totals = s.totals := rfl
@[simp] theorem State.unsched_totalsAt {p} : (s.unsched p).totalsAt = s.totalsAt := rfl
@[simp] theorem State.unsched_lib {p} : (s.unsched p).lib = s.lib := rfl
@[simp] theorem State.unsched_bwt {p} : (s.unsched p).bwt = s.bwt := rfl
@[simp] theorem State.unsched_mir {p} : (s.unsched p).mir = s.mir := rfl
@[simp] theorem State.unsched_cel {p} : (s.unsched p).cel = s.cel := rfl
@[simp] theorem State.unsched_fab {p} : (s.unsched p).fab = s.fab := rfl
@[simp] theorem State.unsched_clk {p} : (s.unsched p).clk = s.clk := rfl
@[simp] theorem State.unsched_sup {p} : (s.unsched p).sup = s.sup := rfl
@[simp] theorem State.unsched_image {p} : (s.unsched p).image = s.image := rfl
@[simp] theorem State.unsched_pending {p} : (s.unsched p).pending = s.pending := rfl

/-! ### State.fresh -/

@[simp] theorem State.fresh_regs : s.fresh.regs = s.regs := rfl
@[simp] theorem State.fresh_live : s.fresh.live = s.live := rfl
@[simp] theorem State.fresh_liveHist : s.fresh.liveHist = s.liveHist := rfl
@[simp] theorem State.fresh_tm : s.fresh.tm = s.tm := rfl
@[simp] theorem State.fresh_mem : s.fresh.mem = s.mem := rfl
@[simp] theorem State.fresh_latches : s.fresh.latches = s.latches := rfl
@[simp] theorem State.fresh_straps : s.fresh.straps = s.straps := rfl
@[simp] theorem State.fresh_geo : s.fresh.geo = s.geo := rfl
@[simp] theorem State.fresh_hst : s.fresh.hst = s.hst := rfl
@[simp] theorem State.fresh_mix : s.fresh.mix = s.mix := rfl
@[simp] theorem State.fresh_sched : s.fresh.sched = s.sched := rfl
@[simp] theorem State.fresh_ost : s.fresh.ost = s.ost := rfl
@[simp] theorem State.fresh_cores : s.fresh.cores = s.cores := rfl
@[simp] theorem State.fresh_tdm : s.fresh.tdm = s.tdm := rfl
@[simp] theorem State.fresh_aes : s.fresh.aes = s.aes := rfl
@[simp] theorem State.fresh_aesOut : s.fresh.aesOut = s.aesOut := rfl
@[simp] theorem State.fresh_vox : s.fresh.vox = s.vox := rfl
@[simp] theorem State.fresh_asc : s.fresh.asc = s.asc := rfl
@[simp] theorem State.fresh_mics : s.fresh.mics = s.mics := rfl
@[simp] theorem State.fresh_bound : s.fresh.bound = s.bound := rfl
@[simp] theorem State.fresh_ps : s.fresh.ps = s.ps := rfl
@[simp] theorem State.fresh_tly : s.fresh.tly = s.tly := rfl
@[simp] theorem State.fresh_macs : s.fresh.macs = s.macs := rfl
@[simp] theorem State.fresh_ptp : s.fresh.ptp = s.ptp := rfl
@[simp] theorem State.fresh_srx : s.fresh.srx = s.srx := rfl
@[simp] theorem State.fresh_stx : s.fresh.stx = s.stx := rfl
@[simp] theorem State.fresh_acts : s.fresh.acts = s.acts := rfl
@[simp] theorem State.fresh_gpio : s.fresh.gpio = s.gpio := rfl
@[simp] theorem State.fresh_pins : s.fresh.pins = s.pins := rfl
@[simp] theorem State.fresh_sessions : s.fresh.sessions = s.sessions := rfl
@[simp] theorem State.fresh_owner : s.fresh.owner = s.owner := rfl
@[simp] theorem State.fresh_former : s.fresh.former = s.former := rfl
@[simp] theorem State.fresh_ports : s.fresh.ports = s.ports := rfl
@[simp] theorem State.fresh_devBusy : s.fresh.devBusy = s.devBusy := rfl
@[simp] theorem State.fresh_enrol : s.fresh.enrol = s.enrol := rfl
@[simp] theorem State.fresh_msgs : s.fresh.msgs = s.msgs := rfl
@[simp] theorem State.fresh_plays : s.fresh.plays = s.plays := rfl
@[simp] theorem State.fresh_fw : s.fresh.fw = s.fw := rfl
@[simp] theorem State.fresh_flash : s.fresh.flash = s.flash := rfl
@[simp] theorem State.fresh_otp : s.fresh.otp = s.otp := rfl
@[simp] theorem State.fresh_maint : s.fresh.maint = s.maint := rfl
@[simp] theorem State.fresh_triggers : s.fresh.triggers = s.triggers := rfl
@[simp] theorem State.fresh_armed : s.fresh.armed = s.armed := rfl
@[simp] theorem State.fresh_totals : s.fresh.totals = s.totals := rfl
@[simp] theorem State.fresh_totalsAt : s.fresh.totalsAt = s.totalsAt := rfl
@[simp] theorem State.fresh_lib : s.fresh.lib = s.lib := rfl
@[simp] theorem State.fresh_bwt : s.fresh.bwt = s.bwt := rfl
@[simp] theorem State.fresh_mir : s.fresh.mir = s.mir := rfl
@[simp] theorem State.fresh_cel : s.fresh.cel = s.cel := rfl
@[simp] theorem State.fresh_fab : s.fresh.fab = s.fab := rfl
@[simp] theorem State.fresh_clk : s.fresh.clk = s.clk := rfl
@[simp] theorem State.fresh_sup : s.fresh.sup = s.sup := rfl
@[simp] theorem State.fresh_image : s.fresh.image = s.image := rfl
@[simp] theorem State.fresh_pending : s.fresh.pending = s.pending := rfl

/-! ### State.setSession -/

@[simp] theorem State.setSession_regs {i x} : (s.setSession i x).regs = s.regs := rfl
@[simp] theorem State.setSession_live {i x} : (s.setSession i x).live = s.live := rfl
@[simp] theorem State.setSession_liveHist {i x} : (s.setSession i x).liveHist = s.liveHist := rfl
@[simp] theorem State.setSession_tm {i x} : (s.setSession i x).tm = s.tm := rfl
@[simp] theorem State.setSession_mem {i x} : (s.setSession i x).mem = s.mem := rfl
@[simp] theorem State.setSession_free {i x} : (s.setSession i x).free = s.free := rfl
@[simp] theorem State.setSession_latches {i x} : (s.setSession i x).latches = s.latches := rfl
@[simp] theorem State.setSession_straps {i x} : (s.setSession i x).straps = s.straps := rfl
@[simp] theorem State.setSession_geo {i x} : (s.setSession i x).geo = s.geo := rfl
@[simp] theorem State.setSession_hst {i x} : (s.setSession i x).hst = s.hst := rfl
@[simp] theorem State.setSession_mix {i x} : (s.setSession i x).mix = s.mix := rfl
@[simp] theorem State.setSession_sched {i x} : (s.setSession i x).sched = s.sched := rfl
@[simp] theorem State.setSession_ost {i x} : (s.setSession i x).ost = s.ost := rfl
@[simp] theorem State.setSession_cores {i x} : (s.setSession i x).cores = s.cores := rfl
@[simp] theorem State.setSession_tdm {i x} : (s.setSession i x).tdm = s.tdm := rfl
@[simp] theorem State.setSession_aes {i x} : (s.setSession i x).aes = s.aes := rfl
@[simp] theorem State.setSession_aesOut {i x} : (s.setSession i x).aesOut = s.aesOut := rfl
@[simp] theorem State.setSession_vox {i x} : (s.setSession i x).vox = s.vox := rfl
@[simp] theorem State.setSession_asc {i x} : (s.setSession i x).asc = s.asc := rfl
@[simp] theorem State.setSession_mics {i x} : (s.setSession i x).mics = s.mics := rfl
@[simp] theorem State.setSession_bound {i x} : (s.setSession i x).bound = s.bound := rfl
@[simp] theorem State.setSession_ps {i x} : (s.setSession i x).ps = s.ps := rfl
@[simp] theorem State.setSession_tly {i x} : (s.setSession i x).tly = s.tly := rfl
@[simp] theorem State.setSession_macs {i x} : (s.setSession i x).macs = s.macs := rfl
@[simp] theorem State.setSession_ptp {i x} : (s.setSession i x).ptp = s.ptp := rfl
@[simp] theorem State.setSession_srx {i x} : (s.setSession i x).srx = s.srx := rfl
@[simp] theorem State.setSession_stx {i x} : (s.setSession i x).stx = s.stx := rfl
@[simp] theorem State.setSession_acts {i x} : (s.setSession i x).acts = s.acts := rfl
@[simp] theorem State.setSession_gpio {i x} : (s.setSession i x).gpio = s.gpio := rfl
@[simp] theorem State.setSession_pins {i x} : (s.setSession i x).pins = s.pins := rfl
@[simp] theorem State.setSession_owner {i x} : (s.setSession i x).owner = s.owner := rfl
@[simp] theorem State.setSession_former {i x} : (s.setSession i x).former = s.former := rfl
@[simp] theorem State.setSession_ports {i x} : (s.setSession i x).ports = s.ports := rfl
@[simp] theorem State.setSession_devBusy {i x} : (s.setSession i x).devBusy = s.devBusy := rfl
@[simp] theorem State.setSession_enrol {i x} : (s.setSession i x).enrol = s.enrol := rfl
@[simp] theorem State.setSession_msgs {i x} : (s.setSession i x).msgs = s.msgs := rfl
@[simp] theorem State.setSession_plays {i x} : (s.setSession i x).plays = s.plays := rfl
@[simp] theorem State.setSession_fw {i x} : (s.setSession i x).fw = s.fw := rfl
@[simp] theorem State.setSession_flash {i x} : (s.setSession i x).flash = s.flash := rfl
@[simp] theorem State.setSession_otp {i x} : (s.setSession i x).otp = s.otp := rfl
@[simp] theorem State.setSession_maint {i x} : (s.setSession i x).maint = s.maint := rfl
@[simp] theorem State.setSession_triggers {i x} : (s.setSession i x).triggers = s.triggers := rfl
@[simp] theorem State.setSession_armed {i x} : (s.setSession i x).armed = s.armed := rfl
@[simp] theorem State.setSession_totals {i x} : (s.setSession i x).totals = s.totals := rfl
@[simp] theorem State.setSession_totalsAt {i x} : (s.setSession i x).totalsAt = s.totalsAt := rfl
@[simp] theorem State.setSession_lib {i x} : (s.setSession i x).lib = s.lib := rfl
@[simp] theorem State.setSession_bwt {i x} : (s.setSession i x).bwt = s.bwt := rfl
@[simp] theorem State.setSession_mir {i x} : (s.setSession i x).mir = s.mir := rfl
@[simp] theorem State.setSession_cel {i x} : (s.setSession i x).cel = s.cel := rfl
@[simp] theorem State.setSession_fab {i x} : (s.setSession i x).fab = s.fab := rfl
@[simp] theorem State.setSession_clk {i x} : (s.setSession i x).clk = s.clk := rfl
@[simp] theorem State.setSession_sup {i x} : (s.setSession i x).sup = s.sup := rfl
@[simp] theorem State.setSession_image {i x} : (s.setSession i x).image = s.image := rfl
@[simp] theorem State.setSession_pending {i x} : (s.setSession i x).pending = s.pending := rfl

/-! ### State.setPort -/

@[simp] theorem State.setPort_regs {p x} : (s.setPort p x).regs = s.regs := rfl
@[simp] theorem State.setPort_live {p x} : (s.setPort p x).live = s.live := rfl
@[simp] theorem State.setPort_liveHist {p x} : (s.setPort p x).liveHist = s.liveHist := rfl
@[simp] theorem State.setPort_tm {p x} : (s.setPort p x).tm = s.tm := rfl
@[simp] theorem State.setPort_mem {p x} : (s.setPort p x).mem = s.mem := rfl
@[simp] theorem State.setPort_free {p x} : (s.setPort p x).free = s.free := rfl
@[simp] theorem State.setPort_latches {p x} : (s.setPort p x).latches = s.latches := rfl
@[simp] theorem State.setPort_straps {p x} : (s.setPort p x).straps = s.straps := rfl
@[simp] theorem State.setPort_geo {p x} : (s.setPort p x).geo = s.geo := rfl
@[simp] theorem State.setPort_hst {p x} : (s.setPort p x).hst = s.hst := rfl
@[simp] theorem State.setPort_mix {p x} : (s.setPort p x).mix = s.mix := rfl
@[simp] theorem State.setPort_sched {p x} : (s.setPort p x).sched = s.sched := rfl
@[simp] theorem State.setPort_ost {p x} : (s.setPort p x).ost = s.ost := rfl
@[simp] theorem State.setPort_cores {p x} : (s.setPort p x).cores = s.cores := rfl
@[simp] theorem State.setPort_tdm {p x} : (s.setPort p x).tdm = s.tdm := rfl
@[simp] theorem State.setPort_aes {p x} : (s.setPort p x).aes = s.aes := rfl
@[simp] theorem State.setPort_aesOut {p x} : (s.setPort p x).aesOut = s.aesOut := rfl
@[simp] theorem State.setPort_vox {p x} : (s.setPort p x).vox = s.vox := rfl
@[simp] theorem State.setPort_asc {p x} : (s.setPort p x).asc = s.asc := rfl
@[simp] theorem State.setPort_mics {p x} : (s.setPort p x).mics = s.mics := rfl
@[simp] theorem State.setPort_bound {p x} : (s.setPort p x).bound = s.bound := rfl
@[simp] theorem State.setPort_ps {p x} : (s.setPort p x).ps = s.ps := rfl
@[simp] theorem State.setPort_tly {p x} : (s.setPort p x).tly = s.tly := rfl
@[simp] theorem State.setPort_macs {p x} : (s.setPort p x).macs = s.macs := rfl
@[simp] theorem State.setPort_ptp {p x} : (s.setPort p x).ptp = s.ptp := rfl
@[simp] theorem State.setPort_srx {p x} : (s.setPort p x).srx = s.srx := rfl
@[simp] theorem State.setPort_stx {p x} : (s.setPort p x).stx = s.stx := rfl
@[simp] theorem State.setPort_acts {p x} : (s.setPort p x).acts = s.acts := rfl
@[simp] theorem State.setPort_gpio {p x} : (s.setPort p x).gpio = s.gpio := rfl
@[simp] theorem State.setPort_pins {p x} : (s.setPort p x).pins = s.pins := rfl
@[simp] theorem State.setPort_sessions {p x} : (s.setPort p x).sessions = s.sessions := rfl
@[simp] theorem State.setPort_owner {p x} : (s.setPort p x).owner = s.owner := rfl
@[simp] theorem State.setPort_former {p x} : (s.setPort p x).former = s.former := rfl
@[simp] theorem State.setPort_devBusy {p x} : (s.setPort p x).devBusy = s.devBusy := rfl
@[simp] theorem State.setPort_enrol {p x} : (s.setPort p x).enrol = s.enrol := rfl
@[simp] theorem State.setPort_msgs {p x} : (s.setPort p x).msgs = s.msgs := rfl
@[simp] theorem State.setPort_plays {p x} : (s.setPort p x).plays = s.plays := rfl
@[simp] theorem State.setPort_fw {p x} : (s.setPort p x).fw = s.fw := rfl
@[simp] theorem State.setPort_flash {p x} : (s.setPort p x).flash = s.flash := rfl
@[simp] theorem State.setPort_otp {p x} : (s.setPort p x).otp = s.otp := rfl
@[simp] theorem State.setPort_maint {p x} : (s.setPort p x).maint = s.maint := rfl
@[simp] theorem State.setPort_triggers {p x} : (s.setPort p x).triggers = s.triggers := rfl
@[simp] theorem State.setPort_armed {p x} : (s.setPort p x).armed = s.armed := rfl
@[simp] theorem State.setPort_totals {p x} : (s.setPort p x).totals = s.totals := rfl
@[simp] theorem State.setPort_totalsAt {p x} : (s.setPort p x).totalsAt = s.totalsAt := rfl
@[simp] theorem State.setPort_lib {p x} : (s.setPort p x).lib = s.lib := rfl
@[simp] theorem State.setPort_bwt {p x} : (s.setPort p x).bwt = s.bwt := rfl
@[simp] theorem State.setPort_mir {p x} : (s.setPort p x).mir = s.mir := rfl
@[simp] theorem State.setPort_cel {p x} : (s.setPort p x).cel = s.cel := rfl
@[simp] theorem State.setPort_fab {p x} : (s.setPort p x).fab = s.fab := rfl
@[simp] theorem State.setPort_clk {p x} : (s.setPort p x).clk = s.clk := rfl
@[simp] theorem State.setPort_sup {p x} : (s.setPort p x).sup = s.sup := rfl
@[simp] theorem State.setPort_image {p x} : (s.setPort p x).image = s.image := rfl
@[simp] theorem State.setPort_pending {p x} : (s.setPort p x).pending = s.pending := rfl

/-! ### State.setOwner -/

@[simp] theorem State.setOwner_regs {r o f} : (s.setOwner r o f).regs = s.regs := rfl
@[simp] theorem State.setOwner_live {r o f} : (s.setOwner r o f).live = s.live := rfl
@[simp] theorem State.setOwner_liveHist {r o f} : (s.setOwner r o f).liveHist = s.liveHist := rfl
@[simp] theorem State.setOwner_tm {r o f} : (s.setOwner r o f).tm = s.tm := rfl
@[simp] theorem State.setOwner_mem {r o f} : (s.setOwner r o f).mem = s.mem := rfl
@[simp] theorem State.setOwner_free {r o f} : (s.setOwner r o f).free = s.free := rfl
@[simp] theorem State.setOwner_latches {r o f} : (s.setOwner r o f).latches = s.latches := rfl
@[simp] theorem State.setOwner_straps {r o f} : (s.setOwner r o f).straps = s.straps := rfl
@[simp] theorem State.setOwner_geo {r o f} : (s.setOwner r o f).geo = s.geo := rfl
@[simp] theorem State.setOwner_hst {r o f} : (s.setOwner r o f).hst = s.hst := rfl
@[simp] theorem State.setOwner_mix {r o f} : (s.setOwner r o f).mix = s.mix := rfl
@[simp] theorem State.setOwner_sched {r o f} : (s.setOwner r o f).sched = s.sched := rfl
@[simp] theorem State.setOwner_ost {r o f} : (s.setOwner r o f).ost = s.ost := rfl
@[simp] theorem State.setOwner_cores {r o f} : (s.setOwner r o f).cores = s.cores := rfl
@[simp] theorem State.setOwner_tdm {r o f} : (s.setOwner r o f).tdm = s.tdm := rfl
@[simp] theorem State.setOwner_aes {r o f} : (s.setOwner r o f).aes = s.aes := rfl
@[simp] theorem State.setOwner_aesOut {r o f} : (s.setOwner r o f).aesOut = s.aesOut := rfl
@[simp] theorem State.setOwner_vox {r o f} : (s.setOwner r o f).vox = s.vox := rfl
@[simp] theorem State.setOwner_asc {r o f} : (s.setOwner r o f).asc = s.asc := rfl
@[simp] theorem State.setOwner_mics {r o f} : (s.setOwner r o f).mics = s.mics := rfl
@[simp] theorem State.setOwner_bound {r o f} : (s.setOwner r o f).bound = s.bound := rfl
@[simp] theorem State.setOwner_ps {r o f} : (s.setOwner r o f).ps = s.ps := rfl
@[simp] theorem State.setOwner_tly {r o f} : (s.setOwner r o f).tly = s.tly := rfl
@[simp] theorem State.setOwner_macs {r o f} : (s.setOwner r o f).macs = s.macs := rfl
@[simp] theorem State.setOwner_ptp {r o f} : (s.setOwner r o f).ptp = s.ptp := rfl
@[simp] theorem State.setOwner_srx {r o f} : (s.setOwner r o f).srx = s.srx := rfl
@[simp] theorem State.setOwner_stx {r o f} : (s.setOwner r o f).stx = s.stx := rfl
@[simp] theorem State.setOwner_acts {r o f} : (s.setOwner r o f).acts = s.acts := rfl
@[simp] theorem State.setOwner_gpio {r o f} : (s.setOwner r o f).gpio = s.gpio := rfl
@[simp] theorem State.setOwner_pins {r o f} : (s.setOwner r o f).pins = s.pins := rfl
@[simp] theorem State.setOwner_sessions {r o f} : (s.setOwner r o f).sessions = s.sessions := rfl
@[simp] theorem State.setOwner_ports {r o f} : (s.setOwner r o f).ports = s.ports := rfl
@[simp] theorem State.setOwner_devBusy {r o f} : (s.setOwner r o f).devBusy = s.devBusy := rfl
@[simp] theorem State.setOwner_enrol {r o f} : (s.setOwner r o f).enrol = s.enrol := rfl
@[simp] theorem State.setOwner_msgs {r o f} : (s.setOwner r o f).msgs = s.msgs := rfl
@[simp] theorem State.setOwner_plays {r o f} : (s.setOwner r o f).plays = s.plays := rfl
@[simp] theorem State.setOwner_fw {r o f} : (s.setOwner r o f).fw = s.fw := rfl
@[simp] theorem State.setOwner_flash {r o f} : (s.setOwner r o f).flash = s.flash := rfl
@[simp] theorem State.setOwner_otp {r o f} : (s.setOwner r o f).otp = s.otp := rfl
@[simp] theorem State.setOwner_maint {r o f} : (s.setOwner r o f).maint = s.maint := rfl
@[simp] theorem State.setOwner_triggers {r o f} : (s.setOwner r o f).triggers = s.triggers := rfl
@[simp] theorem State.setOwner_armed {r o f} : (s.setOwner r o f).armed = s.armed := rfl
@[simp] theorem State.setOwner_totals {r o f} : (s.setOwner r o f).totals = s.totals := rfl
@[simp] theorem State.setOwner_totalsAt {r o f} : (s.setOwner r o f).totalsAt = s.totalsAt := rfl
@[simp] theorem State.setOwner_lib {r o f} : (s.setOwner r o f).lib = s.lib := rfl
@[simp] theorem State.setOwner_bwt {r o f} : (s.setOwner r o f).bwt = s.bwt := rfl
@[simp] theorem State.setOwner_mir {r o f} : (s.setOwner r o f).mir = s.mir := rfl
@[simp] theorem State.setOwner_cel {r o f} : (s.setOwner r o f).cel = s.cel := rfl
@[simp] theorem State.setOwner_fab {r o f} : (s.setOwner r o f).fab = s.fab := rfl
@[simp] theorem State.setOwner_clk {r o f} : (s.setOwner r o f).clk = s.clk := rfl
@[simp] theorem State.setOwner_sup {r o f} : (s.setOwner r o f).sup = s.sup := rfl
@[simp] theorem State.setOwner_image {r o f} : (s.setOwner r o f).image = s.image := rfl
@[simp] theorem State.setOwner_pending {r o f} : (s.setOwner r o f).pending = s.pending := rfl

/-! ### State.setObj -/

@[simp] theorem State.setObj_regs {o x} : (s.setObj o x).regs = s.regs := rfl
@[simp] theorem State.setObj_live {o x} : (s.setObj o x).live = s.live := rfl
@[simp] theorem State.setObj_liveHist {o x} : (s.setObj o x).liveHist = s.liveHist := rfl
@[simp] theorem State.setObj_tm {o x} : (s.setObj o x).tm = s.tm := rfl
@[simp] theorem State.setObj_mem {o x} : (s.setObj o x).mem = s.mem := rfl
@[simp] theorem State.setObj_free {o x} : (s.setObj o x).free = s.free := rfl
@[simp] theorem State.setObj_latches {o x} : (s.setObj o x).latches = s.latches := rfl
@[simp] theorem State.setObj_straps {o x} : (s.setObj o x).straps = s.straps := rfl
@[simp] theorem State.setObj_hst {o x} : (s.setObj o x).hst = s.hst := rfl
@[simp] theorem State.setObj_mix {o x} : (s.setObj o x).mix = s.mix := rfl
@[simp] theorem State.setObj_sched {o x} : (s.setObj o x).sched = s.sched := rfl
@[simp] theorem State.setObj_ost {o x} : (s.setObj o x).ost = s.ost := rfl
@[simp] theorem State.setObj_cores {o x} : (s.setObj o x).cores = s.cores := rfl
@[simp] theorem State.setObj_tdm {o x} : (s.setObj o x).tdm = s.tdm := rfl
@[simp] theorem State.setObj_aes {o x} : (s.setObj o x).aes = s.aes := rfl
@[simp] theorem State.setObj_aesOut {o x} : (s.setObj o x).aesOut = s.aesOut := rfl
@[simp] theorem State.setObj_vox {o x} : (s.setObj o x).vox = s.vox := rfl
@[simp] theorem State.setObj_asc {o x} : (s.setObj o x).asc = s.asc := rfl
@[simp] theorem State.setObj_mics {o x} : (s.setObj o x).mics = s.mics := rfl
@[simp] theorem State.setObj_bound {o x} : (s.setObj o x).bound = s.bound := rfl
@[simp] theorem State.setObj_ps {o x} : (s.setObj o x).ps = s.ps := rfl
@[simp] theorem State.setObj_tly {o x} : (s.setObj o x).tly = s.tly := rfl
@[simp] theorem State.setObj_macs {o x} : (s.setObj o x).macs = s.macs := rfl
@[simp] theorem State.setObj_ptp {o x} : (s.setObj o x).ptp = s.ptp := rfl
@[simp] theorem State.setObj_srx {o x} : (s.setObj o x).srx = s.srx := rfl
@[simp] theorem State.setObj_stx {o x} : (s.setObj o x).stx = s.stx := rfl
@[simp] theorem State.setObj_acts {o x} : (s.setObj o x).acts = s.acts := rfl
@[simp] theorem State.setObj_gpio {o x} : (s.setObj o x).gpio = s.gpio := rfl
@[simp] theorem State.setObj_pins {o x} : (s.setObj o x).pins = s.pins := rfl
@[simp] theorem State.setObj_sessions {o x} : (s.setObj o x).sessions = s.sessions := rfl
@[simp] theorem State.setObj_owner {o x} : (s.setObj o x).owner = s.owner := rfl
@[simp] theorem State.setObj_former {o x} : (s.setObj o x).former = s.former := rfl
@[simp] theorem State.setObj_ports {o x} : (s.setObj o x).ports = s.ports := rfl
@[simp] theorem State.setObj_devBusy {o x} : (s.setObj o x).devBusy = s.devBusy := rfl
@[simp] theorem State.setObj_enrol {o x} : (s.setObj o x).enrol = s.enrol := rfl
@[simp] theorem State.setObj_msgs {o x} : (s.setObj o x).msgs = s.msgs := rfl
@[simp] theorem State.setObj_plays {o x} : (s.setObj o x).plays = s.plays := rfl
@[simp] theorem State.setObj_fw {o x} : (s.setObj o x).fw = s.fw := rfl
@[simp] theorem State.setObj_flash {o x} : (s.setObj o x).flash = s.flash := rfl
@[simp] theorem State.setObj_otp {o x} : (s.setObj o x).otp = s.otp := rfl
@[simp] theorem State.setObj_maint {o x} : (s.setObj o x).maint = s.maint := rfl
@[simp] theorem State.setObj_triggers {o x} : (s.setObj o x).triggers = s.triggers := rfl
@[simp] theorem State.setObj_armed {o x} : (s.setObj o x).armed = s.armed := rfl
@[simp] theorem State.setObj_totals {o x} : (s.setObj o x).totals = s.totals := rfl
@[simp] theorem State.setObj_totalsAt {o x} : (s.setObj o x).totalsAt = s.totalsAt := rfl
@[simp] theorem State.setObj_lib {o x} : (s.setObj o x).lib = s.lib := rfl
@[simp] theorem State.setObj_bwt {o x} : (s.setObj o x).bwt = s.bwt := rfl
@[simp] theorem State.setObj_mir {o x} : (s.setObj o x).mir = s.mir := rfl
@[simp] theorem State.setObj_cel {o x} : (s.setObj o x).cel = s.cel := rfl
@[simp] theorem State.setObj_fab {o x} : (s.setObj o x).fab = s.fab := rfl
@[simp] theorem State.setObj_clk {o x} : (s.setObj o x).clk = s.clk := rfl
@[simp] theorem State.setObj_sup {o x} : (s.setObj o x).sup = s.sup := rfl
@[simp] theorem State.setObj_image {o x} : (s.setObj o x).image = s.image := rfl
@[simp] theorem State.setObj_pending {o x} : (s.setObj o x).pending = s.pending := rfl

/-! ### State.setCore -/

@[simp] theorem State.setCore_regs {c x} : (s.setCore c x).regs = s.regs := rfl
@[simp] theorem State.setCore_live {c x} : (s.setCore c x).live = s.live := rfl
@[simp] theorem State.setCore_liveHist {c x} : (s.setCore c x).liveHist = s.liveHist := rfl
@[simp] theorem State.setCore_tm {c x} : (s.setCore c x).tm = s.tm := rfl
@[simp] theorem State.setCore_mem {c x} : (s.setCore c x).mem = s.mem := rfl
@[simp] theorem State.setCore_free {c x} : (s.setCore c x).free = s.free := rfl
@[simp] theorem State.setCore_latches {c x} : (s.setCore c x).latches = s.latches := rfl
@[simp] theorem State.setCore_straps {c x} : (s.setCore c x).straps = s.straps := rfl
@[simp] theorem State.setCore_geo {c x} : (s.setCore c x).geo = s.geo := rfl
@[simp] theorem State.setCore_hst {c x} : (s.setCore c x).hst = s.hst := rfl
@[simp] theorem State.setCore_mix {c x} : (s.setCore c x).mix = s.mix := rfl
@[simp] theorem State.setCore_sched {c x} : (s.setCore c x).sched = s.sched := rfl
@[simp] theorem State.setCore_ost {c x} : (s.setCore c x).ost = s.ost := rfl
@[simp] theorem State.setCore_tdm {c x} : (s.setCore c x).tdm = s.tdm := rfl
@[simp] theorem State.setCore_aes {c x} : (s.setCore c x).aes = s.aes := rfl
@[simp] theorem State.setCore_aesOut {c x} : (s.setCore c x).aesOut = s.aesOut := rfl
@[simp] theorem State.setCore_vox {c x} : (s.setCore c x).vox = s.vox := rfl
@[simp] theorem State.setCore_asc {c x} : (s.setCore c x).asc = s.asc := rfl
@[simp] theorem State.setCore_mics {c x} : (s.setCore c x).mics = s.mics := rfl
@[simp] theorem State.setCore_bound {c x} : (s.setCore c x).bound = s.bound := rfl
@[simp] theorem State.setCore_ps {c x} : (s.setCore c x).ps = s.ps := rfl
@[simp] theorem State.setCore_tly {c x} : (s.setCore c x).tly = s.tly := rfl
@[simp] theorem State.setCore_macs {c x} : (s.setCore c x).macs = s.macs := rfl
@[simp] theorem State.setCore_ptp {c x} : (s.setCore c x).ptp = s.ptp := rfl
@[simp] theorem State.setCore_srx {c x} : (s.setCore c x).srx = s.srx := rfl
@[simp] theorem State.setCore_stx {c x} : (s.setCore c x).stx = s.stx := rfl
@[simp] theorem State.setCore_acts {c x} : (s.setCore c x).acts = s.acts := rfl
@[simp] theorem State.setCore_gpio {c x} : (s.setCore c x).gpio = s.gpio := rfl
@[simp] theorem State.setCore_pins {c x} : (s.setCore c x).pins = s.pins := rfl
@[simp] theorem State.setCore_sessions {c x} : (s.setCore c x).sessions = s.sessions := rfl
@[simp] theorem State.setCore_owner {c x} : (s.setCore c x).owner = s.owner := rfl
@[simp] theorem State.setCore_former {c x} : (s.setCore c x).former = s.former := rfl
@[simp] theorem State.setCore_ports {c x} : (s.setCore c x).ports = s.ports := rfl
@[simp] theorem State.setCore_devBusy {c x} : (s.setCore c x).devBusy = s.devBusy := rfl
@[simp] theorem State.setCore_enrol {c x} : (s.setCore c x).enrol = s.enrol := rfl
@[simp] theorem State.setCore_msgs {c x} : (s.setCore c x).msgs = s.msgs := rfl
@[simp] theorem State.setCore_plays {c x} : (s.setCore c x).plays = s.plays := rfl
@[simp] theorem State.setCore_fw {c x} : (s.setCore c x).fw = s.fw := rfl
@[simp] theorem State.setCore_flash {c x} : (s.setCore c x).flash = s.flash := rfl
@[simp] theorem State.setCore_otp {c x} : (s.setCore c x).otp = s.otp := rfl
@[simp] theorem State.setCore_maint {c x} : (s.setCore c x).maint = s.maint := rfl
@[simp] theorem State.setCore_triggers {c x} : (s.setCore c x).triggers = s.triggers := rfl
@[simp] theorem State.setCore_armed {c x} : (s.setCore c x).armed = s.armed := rfl
@[simp] theorem State.setCore_totals {c x} : (s.setCore c x).totals = s.totals := rfl
@[simp] theorem State.setCore_totalsAt {c x} : (s.setCore c x).totalsAt = s.totalsAt := rfl
@[simp] theorem State.setCore_lib {c x} : (s.setCore c x).lib = s.lib := rfl
@[simp] theorem State.setCore_bwt {c x} : (s.setCore c x).bwt = s.bwt := rfl
@[simp] theorem State.setCore_mir {c x} : (s.setCore c x).mir = s.mir := rfl
@[simp] theorem State.setCore_cel {c x} : (s.setCore c x).cel = s.cel := rfl
@[simp] theorem State.setCore_fab {c x} : (s.setCore c x).fab = s.fab := rfl
@[simp] theorem State.setCore_clk {c x} : (s.setCore c x).clk = s.clk := rfl
@[simp] theorem State.setCore_sup {c x} : (s.setCore c x).sup = s.sup := rfl
@[simp] theorem State.setCore_image {c x} : (s.setCore c x).image = s.image := rfl
@[simp] theorem State.setCore_pending {c x} : (s.setCore c x).pending = s.pending := rfl

/-! ### State.setPs -/

@[simp] theorem State.setPs_regs {n x} : (s.setPs n x).regs = s.regs := rfl
@[simp] theorem State.setPs_live {n x} : (s.setPs n x).live = s.live := rfl
@[simp] theorem State.setPs_liveHist {n x} : (s.setPs n x).liveHist = s.liveHist := rfl
@[simp] theorem State.setPs_tm {n x} : (s.setPs n x).tm = s.tm := rfl
@[simp] theorem State.setPs_mem {n x} : (s.setPs n x).mem = s.mem := rfl
@[simp] theorem State.setPs_free {n x} : (s.setPs n x).free = s.free := rfl
@[simp] theorem State.setPs_latches {n x} : (s.setPs n x).latches = s.latches := rfl
@[simp] theorem State.setPs_straps {n x} : (s.setPs n x).straps = s.straps := rfl
@[simp] theorem State.setPs_geo {n x} : (s.setPs n x).geo = s.geo := rfl
@[simp] theorem State.setPs_hst {n x} : (s.setPs n x).hst = s.hst := rfl
@[simp] theorem State.setPs_mix {n x} : (s.setPs n x).mix = s.mix := rfl
@[simp] theorem State.setPs_sched {n x} : (s.setPs n x).sched = s.sched := rfl
@[simp] theorem State.setPs_ost {n x} : (s.setPs n x).ost = s.ost := rfl
@[simp] theorem State.setPs_cores {n x} : (s.setPs n x).cores = s.cores := rfl
@[simp] theorem State.setPs_tdm {n x} : (s.setPs n x).tdm = s.tdm := rfl
@[simp] theorem State.setPs_aes {n x} : (s.setPs n x).aes = s.aes := rfl
@[simp] theorem State.setPs_aesOut {n x} : (s.setPs n x).aesOut = s.aesOut := rfl
@[simp] theorem State.setPs_vox {n x} : (s.setPs n x).vox = s.vox := rfl
@[simp] theorem State.setPs_asc {n x} : (s.setPs n x).asc = s.asc := rfl
@[simp] theorem State.setPs_mics {n x} : (s.setPs n x).mics = s.mics := rfl
@[simp] theorem State.setPs_bound {n x} : (s.setPs n x).bound = s.bound := rfl
@[simp] theorem State.setPs_tly {n x} : (s.setPs n x).tly = s.tly := rfl
@[simp] theorem State.setPs_macs {n x} : (s.setPs n x).macs = s.macs := rfl
@[simp] theorem State.setPs_ptp {n x} : (s.setPs n x).ptp = s.ptp := rfl
@[simp] theorem State.setPs_srx {n x} : (s.setPs n x).srx = s.srx := rfl
@[simp] theorem State.setPs_stx {n x} : (s.setPs n x).stx = s.stx := rfl
@[simp] theorem State.setPs_acts {n x} : (s.setPs n x).acts = s.acts := rfl
@[simp] theorem State.setPs_gpio {n x} : (s.setPs n x).gpio = s.gpio := rfl
@[simp] theorem State.setPs_pins {n x} : (s.setPs n x).pins = s.pins := rfl
@[simp] theorem State.setPs_sessions {n x} : (s.setPs n x).sessions = s.sessions := rfl
@[simp] theorem State.setPs_owner {n x} : (s.setPs n x).owner = s.owner := rfl
@[simp] theorem State.setPs_former {n x} : (s.setPs n x).former = s.former := rfl
@[simp] theorem State.setPs_ports {n x} : (s.setPs n x).ports = s.ports := rfl
@[simp] theorem State.setPs_devBusy {n x} : (s.setPs n x).devBusy = s.devBusy := rfl
@[simp] theorem State.setPs_enrol {n x} : (s.setPs n x).enrol = s.enrol := rfl
@[simp] theorem State.setPs_msgs {n x} : (s.setPs n x).msgs = s.msgs := rfl
@[simp] theorem State.setPs_plays {n x} : (s.setPs n x).plays = s.plays := rfl
@[simp] theorem State.setPs_fw {n x} : (s.setPs n x).fw = s.fw := rfl
@[simp] theorem State.setPs_flash {n x} : (s.setPs n x).flash = s.flash := rfl
@[simp] theorem State.setPs_otp {n x} : (s.setPs n x).otp = s.otp := rfl
@[simp] theorem State.setPs_maint {n x} : (s.setPs n x).maint = s.maint := rfl
@[simp] theorem State.setPs_triggers {n x} : (s.setPs n x).triggers = s.triggers := rfl
@[simp] theorem State.setPs_armed {n x} : (s.setPs n x).armed = s.armed := rfl
@[simp] theorem State.setPs_totals {n x} : (s.setPs n x).totals = s.totals := rfl
@[simp] theorem State.setPs_totalsAt {n x} : (s.setPs n x).totalsAt = s.totalsAt := rfl
@[simp] theorem State.setPs_lib {n x} : (s.setPs n x).lib = s.lib := rfl
@[simp] theorem State.setPs_bwt {n x} : (s.setPs n x).bwt = s.bwt := rfl
@[simp] theorem State.setPs_mir {n x} : (s.setPs n x).mir = s.mir := rfl
@[simp] theorem State.setPs_cel {n x} : (s.setPs n x).cel = s.cel := rfl
@[simp] theorem State.setPs_fab {n x} : (s.setPs n x).fab = s.fab := rfl
@[simp] theorem State.setPs_clk {n x} : (s.setPs n x).clk = s.clk := rfl
@[simp] theorem State.setPs_sup {n x} : (s.setPs n x).sup = s.sup := rfl
@[simp] theorem State.setPs_image {n x} : (s.setPs n x).image = s.image := rfl
@[simp] theorem State.setPs_pending {n x} : (s.setPs n x).pending = s.pending := rfl

/-! ### State.setMsg -/

@[simp] theorem State.setMsg_regs {m x} : (s.setMsg m x).regs = s.regs := rfl
@[simp] theorem State.setMsg_live {m x} : (s.setMsg m x).live = s.live := rfl
@[simp] theorem State.setMsg_liveHist {m x} : (s.setMsg m x).liveHist = s.liveHist := rfl
@[simp] theorem State.setMsg_tm {m x} : (s.setMsg m x).tm = s.tm := rfl
@[simp] theorem State.setMsg_mem {m x} : (s.setMsg m x).mem = s.mem := rfl
@[simp] theorem State.setMsg_free {m x} : (s.setMsg m x).free = s.free := rfl
@[simp] theorem State.setMsg_latches {m x} : (s.setMsg m x).latches = s.latches := rfl
@[simp] theorem State.setMsg_straps {m x} : (s.setMsg m x).straps = s.straps := rfl
@[simp] theorem State.setMsg_geo {m x} : (s.setMsg m x).geo = s.geo := rfl
@[simp] theorem State.setMsg_hst {m x} : (s.setMsg m x).hst = s.hst := rfl
@[simp] theorem State.setMsg_mix {m x} : (s.setMsg m x).mix = s.mix := rfl
@[simp] theorem State.setMsg_sched {m x} : (s.setMsg m x).sched = s.sched := rfl
@[simp] theorem State.setMsg_ost {m x} : (s.setMsg m x).ost = s.ost := rfl
@[simp] theorem State.setMsg_cores {m x} : (s.setMsg m x).cores = s.cores := rfl
@[simp] theorem State.setMsg_tdm {m x} : (s.setMsg m x).tdm = s.tdm := rfl
@[simp] theorem State.setMsg_aes {m x} : (s.setMsg m x).aes = s.aes := rfl
@[simp] theorem State.setMsg_aesOut {m x} : (s.setMsg m x).aesOut = s.aesOut := rfl
@[simp] theorem State.setMsg_vox {m x} : (s.setMsg m x).vox = s.vox := rfl
@[simp] theorem State.setMsg_asc {m x} : (s.setMsg m x).asc = s.asc := rfl
@[simp] theorem State.setMsg_mics {m x} : (s.setMsg m x).mics = s.mics := rfl
@[simp] theorem State.setMsg_bound {m x} : (s.setMsg m x).bound = s.bound := rfl
@[simp] theorem State.setMsg_ps {m x} : (s.setMsg m x).ps = s.ps := rfl
@[simp] theorem State.setMsg_tly {m x} : (s.setMsg m x).tly = s.tly := rfl
@[simp] theorem State.setMsg_macs {m x} : (s.setMsg m x).macs = s.macs := rfl
@[simp] theorem State.setMsg_ptp {m x} : (s.setMsg m x).ptp = s.ptp := rfl
@[simp] theorem State.setMsg_srx {m x} : (s.setMsg m x).srx = s.srx := rfl
@[simp] theorem State.setMsg_stx {m x} : (s.setMsg m x).stx = s.stx := rfl
@[simp] theorem State.setMsg_acts {m x} : (s.setMsg m x).acts = s.acts := rfl
@[simp] theorem State.setMsg_gpio {m x} : (s.setMsg m x).gpio = s.gpio := rfl
@[simp] theorem State.setMsg_pins {m x} : (s.setMsg m x).pins = s.pins := rfl
@[simp] theorem State.setMsg_sessions {m x} : (s.setMsg m x).sessions = s.sessions := rfl
@[simp] theorem State.setMsg_owner {m x} : (s.setMsg m x).owner = s.owner := rfl
@[simp] theorem State.setMsg_former {m x} : (s.setMsg m x).former = s.former := rfl
@[simp] theorem State.setMsg_ports {m x} : (s.setMsg m x).ports = s.ports := rfl
@[simp] theorem State.setMsg_devBusy {m x} : (s.setMsg m x).devBusy = s.devBusy := rfl
@[simp] theorem State.setMsg_enrol {m x} : (s.setMsg m x).enrol = s.enrol := rfl
@[simp] theorem State.setMsg_plays {m x} : (s.setMsg m x).plays = s.plays := rfl
@[simp] theorem State.setMsg_fw {m x} : (s.setMsg m x).fw = s.fw := rfl
@[simp] theorem State.setMsg_flash {m x} : (s.setMsg m x).flash = s.flash := rfl
@[simp] theorem State.setMsg_otp {m x} : (s.setMsg m x).otp = s.otp := rfl
@[simp] theorem State.setMsg_maint {m x} : (s.setMsg m x).maint = s.maint := rfl
@[simp] theorem State.setMsg_triggers {m x} : (s.setMsg m x).triggers = s.triggers := rfl
@[simp] theorem State.setMsg_armed {m x} : (s.setMsg m x).armed = s.armed := rfl
@[simp] theorem State.setMsg_totals {m x} : (s.setMsg m x).totals = s.totals := rfl
@[simp] theorem State.setMsg_totalsAt {m x} : (s.setMsg m x).totalsAt = s.totalsAt := rfl
@[simp] theorem State.setMsg_bwt {m x} : (s.setMsg m x).bwt = s.bwt := rfl
@[simp] theorem State.setMsg_mir {m x} : (s.setMsg m x).mir = s.mir := rfl
@[simp] theorem State.setMsg_cel {m x} : (s.setMsg m x).cel = s.cel := rfl
@[simp] theorem State.setMsg_fab {m x} : (s.setMsg m x).fab = s.fab := rfl
@[simp] theorem State.setMsg_clk {m x} : (s.setMsg m x).clk = s.clk := rfl
@[simp] theorem State.setMsg_sup {m x} : (s.setMsg m x).sup = s.sup := rfl
@[simp] theorem State.setMsg_image {m x} : (s.setMsg m x).image = s.image := rfl
@[simp] theorem State.setMsg_pending {m x} : (s.setMsg m x).pending = s.pending := rfl

/-! ### State.setMir -/

@[simp] theorem State.setMir_regs {m} : (s.setMir m).regs = s.regs := rfl
@[simp] theorem State.setMir_live {m} : (s.setMir m).live = s.live := rfl
@[simp] theorem State.setMir_liveHist {m} : (s.setMir m).liveHist = s.liveHist := rfl
@[simp] theorem State.setMir_tm {m} : (s.setMir m).tm = s.tm := rfl
@[simp] theorem State.setMir_mem {m} : (s.setMir m).mem = s.mem := rfl
@[simp] theorem State.setMir_free {m} : (s.setMir m).free = s.free := rfl
@[simp] theorem State.setMir_latches {m} : (s.setMir m).latches = s.latches := rfl
@[simp] theorem State.setMir_straps {m} : (s.setMir m).straps = s.straps := rfl
@[simp] theorem State.setMir_geo {m} : (s.setMir m).geo = s.geo := rfl
@[simp] theorem State.setMir_hst {m} : (s.setMir m).hst = s.hst := rfl
@[simp] theorem State.setMir_mix {m} : (s.setMir m).mix = s.mix := rfl
@[simp] theorem State.setMir_sched {m} : (s.setMir m).sched = s.sched := rfl
@[simp] theorem State.setMir_ost {m} : (s.setMir m).ost = s.ost := rfl
@[simp] theorem State.setMir_cores {m} : (s.setMir m).cores = s.cores := rfl
@[simp] theorem State.setMir_tdm {m} : (s.setMir m).tdm = s.tdm := rfl
@[simp] theorem State.setMir_aes {m} : (s.setMir m).aes = s.aes := rfl
@[simp] theorem State.setMir_aesOut {m} : (s.setMir m).aesOut = s.aesOut := rfl
@[simp] theorem State.setMir_vox {m} : (s.setMir m).vox = s.vox := rfl
@[simp] theorem State.setMir_asc {m} : (s.setMir m).asc = s.asc := rfl
@[simp] theorem State.setMir_mics {m} : (s.setMir m).mics = s.mics := rfl
@[simp] theorem State.setMir_bound {m} : (s.setMir m).bound = s.bound := rfl
@[simp] theorem State.setMir_ps {m} : (s.setMir m).ps = s.ps := rfl
@[simp] theorem State.setMir_tly {m} : (s.setMir m).tly = s.tly := rfl
@[simp] theorem State.setMir_macs {m} : (s.setMir m).macs = s.macs := rfl
@[simp] theorem State.setMir_ptp {m} : (s.setMir m).ptp = s.ptp := rfl
@[simp] theorem State.setMir_srx {m} : (s.setMir m).srx = s.srx := rfl
@[simp] theorem State.setMir_stx {m} : (s.setMir m).stx = s.stx := rfl
@[simp] theorem State.setMir_acts {m} : (s.setMir m).acts = s.acts := rfl
@[simp] theorem State.setMir_gpio {m} : (s.setMir m).gpio = s.gpio := rfl
@[simp] theorem State.setMir_pins {m} : (s.setMir m).pins = s.pins := rfl
@[simp] theorem State.setMir_sessions {m} : (s.setMir m).sessions = s.sessions := rfl
@[simp] theorem State.setMir_owner {m} : (s.setMir m).owner = s.owner := rfl
@[simp] theorem State.setMir_former {m} : (s.setMir m).former = s.former := rfl
@[simp] theorem State.setMir_ports {m} : (s.setMir m).ports = s.ports := rfl
@[simp] theorem State.setMir_devBusy {m} : (s.setMir m).devBusy = s.devBusy := rfl
@[simp] theorem State.setMir_enrol {m} : (s.setMir m).enrol = s.enrol := rfl
@[simp] theorem State.setMir_msgs {m} : (s.setMir m).msgs = s.msgs := rfl
@[simp] theorem State.setMir_plays {m} : (s.setMir m).plays = s.plays := rfl
@[simp] theorem State.setMir_fw {m} : (s.setMir m).fw = s.fw := rfl
@[simp] theorem State.setMir_flash {m} : (s.setMir m).flash = s.flash := rfl
@[simp] theorem State.setMir_otp {m} : (s.setMir m).otp = s.otp := rfl
@[simp] theorem State.setMir_maint {m} : (s.setMir m).maint = s.maint := rfl
@[simp] theorem State.setMir_triggers {m} : (s.setMir m).triggers = s.triggers := rfl
@[simp] theorem State.setMir_armed {m} : (s.setMir m).armed = s.armed := rfl
@[simp] theorem State.setMir_totals {m} : (s.setMir m).totals = s.totals := rfl
@[simp] theorem State.setMir_totalsAt {m} : (s.setMir m).totalsAt = s.totalsAt := rfl
@[simp] theorem State.setMir_lib {m} : (s.setMir m).lib = s.lib := rfl
@[simp] theorem State.setMir_bwt {m} : (s.setMir m).bwt = s.bwt := rfl
@[simp] theorem State.setMir_cel {m} : (s.setMir m).cel = s.cel := rfl
@[simp] theorem State.setMir_fab {m} : (s.setMir m).fab = s.fab := rfl
@[simp] theorem State.setMir_clk {m} : (s.setMir m).clk = s.clk := rfl
@[simp] theorem State.setMir_sup {m} : (s.setMir m).sup = s.sup := rfl
@[simp] theorem State.setMir_image {m} : (s.setMir m).image = s.image := rfl
@[simp] theorem State.setMir_pending {m} : (s.setMir m).pending = s.pending := rfl

end Sys2Proof.Machine
end

