-- ==== Sys2Proof/Laws/Regs.lean ====
section
/-! SUPPORT. Fields of registers: a field reads back what was written to it, and writing one field leaves every other one as it was; the same for memory bytes. -/

-- One proof at a time: the package as one text then takes less memory.
set_option Elab.async false

namespace Sys2Proof.Machine

open Sys2Proof

theorem testBit_bitsOf {w hi lo i : Nat} : (bitsOf w hi lo).testBit i = (decide (i < hi - lo + 1) && w.testBit (lo + i)) := by
  unfold bitsOf
  rw [Nat.testBit_mod_two_pow, Nat.testBit_shiftRight]

theorem testBit_setBits {w hi lo v i : Nat} (h : lo ≤ hi) :
    (setBits w hi lo v).testBit i =
      if i < lo then w.testBit i else if i ≤ hi then v.testBit (i - lo) else w.testBit i := by
  have e : setBits w hi lo v =
      2 ^ lo * (2 ^ (hi - lo + 1) * (w >>> (hi + 1)) + v % 2 ^ (hi - lo + 1)) + w % 2 ^ lo := by
    unfold setBits
    have : hi + 1 = lo + (hi - lo + 1) := by omega
    rw [this, pow_add]; ring
  rw [e, Nat.testBit_two_pow_mul_add _ (Nat.mod_lt _ (by positivity))]
  split
  · rename_i hi'
    rw [Nat.testBit_mod_two_pow]; simp [hi']
  · rename_i hi'
    rw [Nat.testBit_two_pow_mul_add _ (Nat.mod_lt _ (by positivity))]
    by_cases k : i ≤ hi
    · rw [if_pos (by omega), if_pos k, Nat.testBit_mod_two_pow]
      simp; omega
    · rw [if_neg (by omega), if_neg k, Nat.testBit_shiftRight]
      congr 1; omega

/-- A field reads what was written to it. -/
theorem bitsOf_setBits {w hi lo v : Nat} (h : lo ≤ hi) : bitsOf (setBits w hi lo v) hi lo = v % 2 ^ (hi - lo + 1) := by
  apply Nat.eq_of_testBit_eq
  intro i
  rw [testBit_bitsOf, testBit_setBits h, Nat.testBit_mod_two_pow]
  by_cases k : i < hi - lo + 1
  · rw [if_neg (by omega), if_pos (by omega)]; simp
  · simp [k]

/-- Bits outside a field are as they were. -/
theorem bitsOf_setBits_other {w hi lo v a b : Nat} (h : lo ≤ hi) (c : b ≤ a) (d : a < lo ∨ hi < b) :
    bitsOf (setBits w hi lo v) a b = bitsOf w a b := by
  apply Nat.eq_of_testBit_eq
  intro i
  rw [testBit_bitsOf, testBit_bitsOf, testBit_setBits h]
  by_cases k : i < a - b + 1
  · rcases d with d | d
    · rw [if_pos (by omega)]
    · rw [if_neg (by omega), if_neg (by omega)]
  · simp [k]

theorem bitsOf_lt {w hi lo : Nat} : bitsOf w hi lo < 2 ^ (hi - lo + 1) := Nat.mod_lt _ (by positivity)

variable {s t : State} {f g : Fld} {v : Nat}

theorem State.word_congr (h : t.regs = s.regs) (k : t.straps = s.straps) : t.word f = s.word f := by
  simp only [State.word, State.rstOf, h, k]

theorem State.rd_congr (h : t.regs = s.regs) (k : t.straps = s.straps) : t.rd f = s.rd f := by
  simp only [State.rd, State.word_congr h k]

theorem State.on_congr (h : t.regs = s.regs) (k : t.straps = s.straps) : t.on f = s.on f := by
  simp only [State.on, State.rd_congr h k]

/-- A field reads back what was written to it, cut to its width. -/
theorem State.rd_wr_self (h : f.lo ≤ f.hi) : (s.wr f v).rd f = v % 2 ^ (f.hi - f.lo + 1) := by
  have w : (s.wr f v).word f = setBits (s.word f) f.hi f.lo v := by
    show (s.regs.set 0 f.addr (setBits (s.word f) f.hi f.lo v ^^^ s.rstOf f)).get 0 f.addr ^^^ s.rstOf f = _
    rw [Cells.get_set_self, Nat.xor_assoc, Nat.xor_self, Nat.xor_zero]
  rw [State.rd, w]
  exact bitsOf_setBits h

/-- A register of another address is as it was. -/
theorem State.word_wr_addr (h : g.addr ≠ f.addr) : (s.wr f v).word g = s.word g := by
  show (s.regs.set 0 f.addr (setBits (s.word f) f.hi f.lo v ^^^ s.rstOf f)).get 0 g.addr ^^^ s.rstOf g = _
  rw [Cells.get_set_other h]
  rfl

theorem State.rd_wr_addr (h : g.addr ≠ f.addr) : (s.wr f v).rd g = s.rd g := by
  simp only [State.rd, State.word_wr_addr h]

/-- Another field of the same register is as it was. -/
theorem State.rd_wr_bits (ha : g.addr = f.addr) (hr : g.rst = f.rst ∧ g.rst96 = f.rst96) (hf : f.lo ≤ f.hi) (hg : g.lo ≤ g.hi)
    (d : g.hi < f.lo ∨ f.hi < g.lo) : (s.wr f v).rd g = s.rd g := by
  have e : s.rstOf g = s.rstOf f := by simp only [State.rstOf, hr.1, hr.2]
  have w : (s.wr f v).word g = setBits (s.word f) f.hi f.lo v := by
    show (s.regs.set 0 f.addr (setBits (s.word f) f.hi f.lo v ^^^ s.rstOf f)).get 0 g.addr ^^^ s.rstOf g = _
    rw [ha, e, Cells.get_set_self, Nat.xor_assoc, Nat.xor_self, Nat.xor_zero]
  have w' : s.word g = s.word f := by simp only [State.word, ha, e]
  simp only [State.rd, w, w']
  exact bitsOf_setBits_other hf hg d

theorem State.byte_setByte_self {a : Nat} {b : Byte} : (s.setByte a b).byte a = b := by
  simp only [State.byte, State.setByte, Cells.get_set_self]

theorem State.byte_setByte_other {a c : Nat} {b : Byte} (h : c ≠ a) : (s.setByte a b).byte c = s.byte c := by
  simp only [State.byte, State.setByte, Cells.get_set_other h]

end Sys2Proof.Machine
end

