-- ==== Sys2Proof/Laws/Fields.lean ====
section
/-! SUPPORT. The fields of the state after the operations that most commands share, and registers after those that write none. -/

-- One proof at a time: the package as one text then takes less memory.
set_option Elab.async false

namespace Sys2Proof.Machine

open Sys2Proof

variable {s : State}

/-! ### State.takePlace -/

@[simp] theorem State.takePlace_regs {a1 a2 a3 : _} : (s.takePlace a1 a2 a3).regs = s.regs := (State.takePlace_good s a1 a2 a3).same .regs rfl
@[simp] theorem State.takePlace_live {a1 a2 a3 : _} : (s.takePlace a1 a2 a3).live = s.live := (State.takePlace_good s a1 a2 a3).same .live rfl
@[simp] theorem State.takePlace_liveHist {a1 a2 a3 : _} : (s.takePlace a1 a2 a3).liveHist = s.liveHist := (State.takePlace_good s a1 a2 a3).same .liveHist rfl
@[simp] theorem State.takePlace_tm {a1 a2 a3 : _} : (s.takePlace a1 a2 a3).tm = s.tm := (State.takePlace_good s a1 a2 a3).same .tm rfl
@[simp] theorem State.takePlace_mem {a1 a2 a3 : _} : (s.takePlace a1 a2 a3).mem = s.mem := (State.takePlace_good s a1 a2 a3).same .mem rfl
@[simp] theorem State.takePlace_free {a1 a2 a3 : _} : (s.takePlace a1 a2 a3).free = s.free := (State.takePlace_good s a1 a2 a3).same .free rfl
@[simp] theorem State.takePlace_latches {a1 a2 a3 : _} : (s.takePlace a1 a2 a3).latches = s.latches := (State.takePlace_good s a1 a2 a3).same .latches rfl
@[simp] theorem State.takePlace_straps {a1 a2 a3 : _} : (s.takePlace a1 a2 a3).straps = s.straps := (State.takePlace_good s a1 a2 a3).same .straps rfl
@[simp] theorem State.takePlace_geo {a1 a2 a3 : _} : (s.takePlace a1 a2 a3).geo = s.geo := (State.takePlace_good s a1 a2 a3).same .geo rfl
@[simp] theorem State.takePlace_hst {a1 a2 a3 : _} : (s.takePlace a1 a2 a3).hst = s.hst := (State.takePlace_good s a1 a2 a3).same .hst rfl
@[simp] theorem State.takePlace_mix {a1 a2 a3 : _} : (s.takePlace a1 a2 a3).mix = s.mix := (State.takePlace_good s a1 a2 a3).same .mix rfl
@[simp] theorem State.takePlace_sched {a1 a2 a3 : _} : (s.takePlace a1 a2 a3).sched = s.sched := (State.takePlace_good s a1 a2 a3).same .sched rfl
@[simp] theorem State.takePlace_ost {a1 a2 a3 : _} : (s.takePlace a1 a2 a3).ost = s.ost := (State.takePlace_good s a1 a2 a3).same .ost rfl
@[simp] theorem State.takePlace_cores {a1 a2 a3 : _} : (s.takePlace a1 a2 a3).cores = s.cores := (State.takePlace_good s a1 a2 a3).same .cores rfl
@[simp] theorem State.takePlace_tdm {a1 a2 a3 : _} : (s.takePlace a1 a2 a3).tdm = s.tdm := (State.takePlace_good s a1 a2 a3).same .tdm rfl
@[simp] theorem State.takePlace_aes {a1 a2 a3 : _} : (s.takePlace a1 a2 a3).aes = s.aes := (State.takePlace_good s a1 a2 a3).same .aes rfl
@[simp] theorem State.takePlace_aesOut {a1 a2 a3 : _} : (s.takePlace a1 a2 a3).aesOut = s.aesOut := (State.takePlace_good s a1 a2 a3).same .aesOut rfl
@[simp] theorem State.takePlace_vox {a1 a2 a3 : _} : (s.takePlace a1 a2 a3).vox = s.vox := (State.takePlace_good s a1 a2 a3).same .vox rfl
@[simp] theorem State.takePlace_asc {a1 a2 a3 : _} : (s.takePlace a1 a2 a3).asc = s.asc := (State.takePlace_good s a1 a2 a3).same .asc rfl
@[simp] theorem State.takePlace_mics {a1 a2 a3 : _} : (s.takePlace a1 a2 a3).mics = s.mics := (State.takePlace_good s a1 a2 a3).same .mics rfl
@[simp] theorem State.takePlace_bound {a1 a2 a3 : _} : (s.takePlace a1 a2 a3).bound = s.bound := (State.takePlace_good s a1 a2 a3).same .bound rfl
@[simp] theorem State.takePlace_ps {a1 a2 a3 : _} : (s.takePlace a1 a2 a3).ps = s.ps := (State.takePlace_good s a1 a2 a3).same .ps rfl
@[simp] theorem State.takePlace_tly {a1 a2 a3 : _} : (s.takePlace a1 a2 a3).tly = s.tly := (State.takePlace_good s a1 a2 a3).same .tly rfl
@[simp] theorem State.takePlace_macs {a1 a2 a3 : _} : (s.takePlace a1 a2 a3).macs = s.macs := (State.takePlace_good s a1 a2 a3).same .macs rfl
@[simp] theorem State.takePlace_ptp {a1 a2 a3 : _} : (s.takePlace a1 a2 a3).ptp = s.ptp := (State.takePlace_good s a1 a2 a3).same .ptp rfl
@[simp] theorem State.takePlace_srx {a1 a2 a3 : _} : (s.takePlace a1 a2 a3).srx = s.srx := (State.takePlace_good s a1 a2 a3).same .srx rfl
@[simp] theorem State.takePlace_stx {a1 a2 a3 : _} : (s.takePlace a1 a2 a3).stx = s.stx := (State.takePlace_good s a1 a2 a3).same .stx rfl
@[simp] theorem State.takePlace_acts {a1 a2 a3 : _} : (s.takePlace a1 a2 a3).acts = s.acts := (State.takePlace_good s a1 a2 a3).same .acts rfl
@[simp] theorem State.takePlace_gpio {a1 a2 a3 : _} : (s.takePlace a1 a2 a3).gpio = s.gpio := (State.takePlace_good s a1 a2 a3).same .gpio rfl
@[simp] theorem State.takePlace_pins {a1 a2 a3 : _} : (s.takePlace a1 a2 a3).pins = s.pins := (State.takePlace_good s a1 a2 a3).same .pins rfl
@[simp] theorem State.takePlace_owner {a1 a2 a3 : _} : (s.takePlace a1 a2 a3).owner = s.owner := (State.takePlace_good s a1 a2 a3).same .owner rfl
@[simp] theorem State.takePlace_former {a1 a2 a3 : _} : (s.takePlace a1 a2 a3).former = s.former := (State.takePlace_good s a1 a2 a3).same .former rfl
@[simp] theorem State.takePlace_ports {a1 a2 a3 : _} : (s.takePlace a1 a2 a3).ports = s.ports := (State.takePlace_good s a1 a2 a3).same .ports rfl
@[simp] theorem State.takePlace_devBusy {a1 a2 a3 : _} : (s.takePlace a1 a2 a3).devBusy = s.devBusy := (State.takePlace_good s a1 a2 a3).same .devBusy rfl
@[simp] theorem State.takePlace_enrol {a1 a2 a3 : _} : (s.takePlace a1 a2 a3).enrol = s.enrol := (State.takePlace_good s a1 a2 a3).same .enrol rfl
@[simp] theorem State.takePlace_msgs {a1 a2 a3 : _} : (s.takePlace a1 a2 a3).msgs = s.msgs := (State.takePlace_good s a1 a2 a3).same .msgs rfl
@[simp] theorem State.takePlace_plays {a1 a2 a3 : _} : (s.takePlace a1 a2 a3).plays = s.plays := (State.takePlace_good s a1 a2 a3).same .plays rfl
@[simp] theorem State.takePlace_fw {a1 a2 a3 : _} : (s.takePlace a1 a2 a3).fw = s.fw := (State.takePlace_good s a1 a2 a3).same .fw rfl
@[simp] theorem State.takePlace_flash {a1 a2 a3 : _} : (s.takePlace a1 a2 a3).flash = s.flash := (State.takePlace_good s a1 a2 a3).same .flash rfl
@[simp] theorem State.takePlace_otp {a1 a2 a3 : _} : (s.takePlace a1 a2 a3).otp = s.otp := (State.takePlace_good s a1 a2 a3).same .otp rfl
@[simp] theorem State.takePlace_maint {a1 a2 a3 : _} : (s.takePlace a1 a2 a3).maint = s.maint := (State.takePlace_good s a1 a2 a3).same .maint rfl
@[simp] theorem State.takePlace_triggers {a1 a2 a3 : _} : (s.takePlace a1 a2 a3).triggers = s.triggers := (State.takePlace_good s a1 a2 a3).same .triggers rfl
@[simp] theorem State.takePlace_armed {a1 a2 a3 : _} : (s.takePlace a1 a2 a3).armed = s.armed := (State.takePlace_good s a1 a2 a3).same .armed rfl
@[simp] theorem State.takePlace_totals {a1 a2 a3 : _} : (s.takePlace a1 a2 a3).totals = s.totals := (State.takePlace_good s a1 a2 a3).same .totals rfl
@[simp] theorem State.takePlace_totalsAt {a1 a2 a3 : _} : (s.takePlace a1 a2 a3).totalsAt = s.totalsAt := (State.takePlace_good s a1 a2 a3).same .totalsAt rfl
@[simp] theorem State.takePlace_lib {a1 a2 a3 : _} : (s.takePlace a1 a2 a3).lib = s.lib := (State.takePlace_good s a1 a2 a3).same .lib rfl
@[simp] theorem State.takePlace_bwt {a1 a2 a3 : _} : (s.takePlace a1 a2 a3).bwt = s.bwt := (State.takePlace_good s a1 a2 a3).same .bwt rfl
@[simp] theorem State.takePlace_mir {a1 a2 a3 : _} : (s.takePlace a1 a2 a3).mir = s.mir := (State.takePlace_good s a1 a2 a3).same .mir rfl
@[simp] theorem State.takePlace_cel {a1 a2 a3 : _} : (s.takePlace a1 a2 a3).cel = s.cel := (State.takePlace_good s a1 a2 a3).same .cel rfl
@[simp] theorem State.takePlace_fab {a1 a2 a3 : _} : (s.takePlace a1 a2 a3).fab = s.fab := (State.takePlace_good s a1 a2 a3).same .fab rfl
@[simp] theorem State.takePlace_clk {a1 a2 a3 : _} : (s.takePlace a1 a2 a3).clk = s.clk := (State.takePlace_good s a1 a2 a3).same .clk rfl
@[simp] theorem State.takePlace_sup {a1 a2 a3 : _} : (s.takePlace a1 a2 a3).sup = s.sup := (State.takePlace_good s a1 a2 a3).same .sup rfl
@[simp] theorem State.takePlace_image {a1 a2 a3 : _} : (s.takePlace a1 a2 a3).image = s.image := (State.takePlace_good s a1 a2 a3).same .image rfl
@[simp] theorem State.takePlace_pending {a1 a2 a3 : _} : (s.takePlace a1 a2 a3).pending = s.pending := (State.takePlace_good s a1 a2 a3).same .pending rfl
@[simp] theorem State.word_takePlace {f : Fld} {a1 a2 a3 : _} : (s.takePlace a1 a2 a3).word f = s.word f := State.word_congr ((State.takePlace_good s a1 a2 a3).same .regs rfl) ((State.takePlace_good s a1 a2 a3).same .straps rfl)
@[simp] theorem State.rd_takePlace {f : Fld} {a1 a2 a3 : _} : (s.takePlace a1 a2 a3).rd f = s.rd f := State.rd_congr ((State.takePlace_good s a1 a2 a3).same .regs rfl) ((State.takePlace_good s a1 a2 a3).same .straps rfl)
@[simp] theorem State.on_takePlace {f : Fld} {a1 a2 a3 : _} : (s.takePlace a1 a2 a3).on f = s.on f := State.on_congr ((State.takePlace_good s a1 a2 a3).same .regs rfl) ((State.takePlace_good s a1 a2 a3).same .straps rfl)

/-! ### State.reply -/

@[simp] theorem State.reply_regs {a1 a2 a3 a4 a5 a6 : _} : (s.reply a1 a2 a3 a4 a5 a6).regs = s.regs := (State.reply_good s a1 a2 a3 a4 a5 a6).same .regs rfl
@[simp] theorem State.reply_live {a1 a2 a3 a4 a5 a6 : _} : (s.reply a1 a2 a3 a4 a5 a6).live = s.live := (State.reply_good s a1 a2 a3 a4 a5 a6).same .live rfl
@[simp] theorem State.reply_liveHist {a1 a2 a3 a4 a5 a6 : _} : (s.reply a1 a2 a3 a4 a5 a6).liveHist = s.liveHist := (State.reply_good s a1 a2 a3 a4 a5 a6).same .liveHist rfl
@[simp] theorem State.reply_tm {a1 a2 a3 a4 a5 a6 : _} : (s.reply a1 a2 a3 a4 a5 a6).tm = s.tm := (State.reply_good s a1 a2 a3 a4 a5 a6).same .tm rfl
@[simp] theorem State.reply_mem {a1 a2 a3 a4 a5 a6 : _} : (s.reply a1 a2 a3 a4 a5 a6).mem = s.mem := (State.reply_good s a1 a2 a3 a4 a5 a6).same .mem rfl
@[simp] theorem State.reply_free {a1 a2 a3 a4 a5 a6 : _} : (s.reply a1 a2 a3 a4 a5 a6).free = s.free := (State.reply_good s a1 a2 a3 a4 a5 a6).same .free rfl
@[simp] theorem State.reply_latches {a1 a2 a3 a4 a5 a6 : _} : (s.reply a1 a2 a3 a4 a5 a6).latches = s.latches := (State.reply_good s a1 a2 a3 a4 a5 a6).same .latches rfl
@[simp] theorem State.reply_straps {a1 a2 a3 a4 a5 a6 : _} : (s.reply a1 a2 a3 a4 a5 a6).straps = s.straps := (State.reply_good s a1 a2 a3 a4 a5 a6).same .straps rfl
@[simp] theorem State.reply_geo {a1 a2 a3 a4 a5 a6 : _} : (s.reply a1 a2 a3 a4 a5 a6).geo = s.geo := (State.reply_good s a1 a2 a3 a4 a5 a6).same .geo rfl
@[simp] theorem State.reply_hst {a1 a2 a3 a4 a5 a6 : _} : (s.reply a1 a2 a3 a4 a5 a6).hst = s.hst := (State.reply_good s a1 a2 a3 a4 a5 a6).same .hst rfl
@[simp] theorem State.reply_mix {a1 a2 a3 a4 a5 a6 : _} : (s.reply a1 a2 a3 a4 a5 a6).mix = s.mix := (State.reply_good s a1 a2 a3 a4 a5 a6).same .mix rfl
@[simp] theorem State.reply_sched {a1 a2 a3 a4 a5 a6 : _} : (s.reply a1 a2 a3 a4 a5 a6).sched = s.sched := (State.reply_good s a1 a2 a3 a4 a5 a6).same .sched rfl
@[simp] theorem State.reply_ost {a1 a2 a3 a4 a5 a6 : _} : (s.reply a1 a2 a3 a4 a5 a6).ost = s.ost := (State.reply_good s a1 a2 a3 a4 a5 a6).same .ost rfl
@[simp] theorem State.reply_cores {a1 a2 a3 a4 a5 a6 : _} : (s.reply a1 a2 a3 a4 a5 a6).cores = s.cores := (State.reply_good s a1 a2 a3 a4 a5 a6).same .cores rfl
@[simp] theorem State.reply_tdm {a1 a2 a3 a4 a5 a6 : _} : (s.reply a1 a2 a3 a4 a5 a6).tdm = s.tdm := (State.reply_good s a1 a2 a3 a4 a5 a6).same .tdm rfl
@[simp] theorem State.reply_aes {a1 a2 a3 a4 a5 a6 : _} : (s.reply a1 a2 a3 a4 a5 a6).aes = s.aes := (State.reply_good s a1 a2 a3 a4 a5 a6).same .aes rfl
@[simp] theorem State.reply_aesOut {a1 a2 a3 a4 a5 a6 : _} : (s.reply a1 a2 a3 a4 a5 a6).aesOut = s.aesOut := (State.reply_good s a1 a2 a3 a4 a5 a6).same .aesOut rfl
@[simp] theorem State.reply_vox {a1 a2 a3 a4 a5 a6 : _} : (s.reply a1 a2 a3 a4 a5 a6).vox = s.vox := (State.reply_good s a1 a2 a3 a4 a5 a6).same .vox rfl
@[simp] theorem State.reply_asc {a1 a2 a3 a4 a5 a6 : _} : (s.reply a1 a2 a3 a4 a5 a6).asc = s.asc := (State.reply_good s a1 a2 a3 a4 a5 a6).same .asc rfl
@[simp] theorem State.reply_mics {a1 a2 a3 a4 a5 a6 : _} : (s.reply a1 a2 a3 a4 a5 a6).mics = s.mics := (State.reply_good s a1 a2 a3 a4 a5 a6).same .mics rfl
@[simp] theorem State.reply_bound {a1 a2 a3 a4 a5 a6 : _} : (s.reply a1 a2 a3 a4 a5 a6).bound = s.bound := (State.reply_good s a1 a2 a3 a4 a5 a6).same .bound rfl
@[simp] theorem State.reply_ps {a1 a2 a3 a4 a5 a6 : _} : (s.reply a1 a2 a3 a4 a5 a6).ps = s.ps := (State.reply_good s a1 a2 a3 a4 a5 a6).same .ps rfl
@[simp] theorem State.reply_tly {a1 a2 a3 a4 a5 a6 : _} : (s.reply a1 a2 a3 a4 a5 a6).tly = s.tly := (State.reply_good s a1 a2 a3 a4 a5 a6).same .tly rfl
@[simp] theorem State.reply_macs {a1 a2 a3 a4 a5 a6 : _} : (s.reply a1 a2 a3 a4 a5 a6).macs = s.macs := (State.reply_good s a1 a2 a3 a4 a5 a6).same .macs rfl
@[simp] theorem State.reply_ptp {a1 a2 a3 a4 a5 a6 : _} : (s.reply a1 a2 a3 a4 a5 a6).ptp = s.ptp := (State.reply_good s a1 a2 a3 a4 a5 a6).same .ptp rfl
@[simp] theorem State.reply_srx {a1 a2 a3 a4 a5 a6 : _} : (s.reply a1 a2 a3 a4 a5 a6).srx = s.srx := (State.reply_good s a1 a2 a3 a4 a5 a6).same .srx rfl
@[simp] theorem State.reply_stx {a1 a2 a3 a4 a5 a6 : _} : (s.reply a1 a2 a3 a4 a5 a6).stx = s.stx := (State.reply_good s a1 a2 a3 a4 a5 a6).same .stx rfl
@[simp] theorem State.reply_acts {a1 a2 a3 a4 a5 a6 : _} : (s.reply a1 a2 a3 a4 a5 a6).acts = s.acts := (State.reply_good s a1 a2 a3 a4 a5 a6).same .acts rfl
@[simp] theorem State.reply_gpio {a1 a2 a3 a4 a5 a6 : _} : (s.reply a1 a2 a3 a4 a5 a6).gpio = s.gpio := (State.reply_good s a1 a2 a3 a4 a5 a6).same .gpio rfl
@[simp] theorem State.reply_pins {a1 a2 a3 a4 a5 a6 : _} : (s.reply a1 a2 a3 a4 a5 a6).pins = s.pins := (State.reply_good s a1 a2 a3 a4 a5 a6).same .pins rfl
@[simp] theorem State.reply_owner {a1 a2 a3 a4 a5 a6 : _} : (s.reply a1 a2 a3 a4 a5 a6).owner = s.owner := (State.reply_good s a1 a2 a3 a4 a5 a6).same .owner rfl
@[simp] theorem State.reply_former {a1 a2 a3 a4 a5 a6 : _} : (s.reply a1 a2 a3 a4 a5 a6).former = s.former := (State.reply_good s a1 a2 a3 a4 a5 a6).same .former rfl
@[simp] theorem State.reply_devBusy {a1 a2 a3 a4 a5 a6 : _} : (s.reply a1 a2 a3 a4 a5 a6).devBusy = s.devBusy := (State.reply_good s a1 a2 a3 a4 a5 a6).same .devBusy rfl
@[simp] theorem State.reply_enrol {a1 a2 a3 a4 a5 a6 : _} : (s.reply a1 a2 a3 a4 a5 a6).enrol = s.enrol := (State.reply_good s a1 a2 a3 a4 a5 a6).same .enrol rfl
@[simp] theorem State.reply_msgs {a1 a2 a3 a4 a5 a6 : _} : (s.reply a1 a2 a3 a4 a5 a6).msgs = s.msgs := (State.reply_good s a1 a2 a3 a4 a5 a6).same .msgs rfl
@[simp] theorem State.reply_plays {a1 a2 a3 a4 a5 a6 : _} : (s.reply a1 a2 a3 a4 a5 a6).plays = s.plays := (State.reply_good s a1 a2 a3 a4 a5 a6).same .plays rfl
@[simp] theorem State.reply_fw {a1 a2 a3 a4 a5 a6 : _} : (s.reply a1 a2 a3 a4 a5 a6).fw = s.fw := (State.reply_good s a1 a2 a3 a4 a5 a6).same .fw rfl
@[simp] theorem State.reply_flash {a1 a2 a3 a4 a5 a6 : _} : (s.reply a1 a2 a3 a4 a5 a6).flash = s.flash := (State.reply_good s a1 a2 a3 a4 a5 a6).same .flash rfl
@[simp] theorem State.reply_otp {a1 a2 a3 a4 a5 a6 : _} : (s.reply a1 a2 a3 a4 a5 a6).otp = s.otp := (State.reply_good s a1 a2 a3 a4 a5 a6).same .otp rfl
@[simp] theorem State.reply_maint {a1 a2 a3 a4 a5 a6 : _} : (s.reply a1 a2 a3 a4 a5 a6).maint = s.maint := (State.reply_good s a1 a2 a3 a4 a5 a6).same .maint rfl
@[simp] theorem State.reply_triggers {a1 a2 a3 a4 a5 a6 : _} : (s.reply a1 a2 a3 a4 a5 a6).triggers = s.triggers := (State.reply_good s a1 a2 a3 a4 a5 a6).same .triggers rfl
@[simp] theorem State.reply_armed {a1 a2 a3 a4 a5 a6 : _} : (s.reply a1 a2 a3 a4 a5 a6).armed = s.armed := (State.reply_good s a1 a2 a3 a4 a5 a6).same .armed rfl
@[simp] theorem State.reply_totals {a1 a2 a3 a4 a5 a6 : _} : (s.reply a1 a2 a3 a4 a5 a6).totals = s.totals := (State.reply_good s a1 a2 a3 a4 a5 a6).same .totals rfl
@[simp] theorem State.reply_totalsAt {a1 a2 a3 a4 a5 a6 : _} : (s.reply a1 a2 a3 a4 a5 a6).totalsAt = s.totalsAt := (State.reply_good s a1 a2 a3 a4 a5 a6).same .totalsAt rfl
@[simp] theorem State.reply_lib {a1 a2 a3 a4 a5 a6 : _} : (s.reply a1 a2 a3 a4 a5 a6).lib = s.lib := (State.reply_good s a1 a2 a3 a4 a5 a6).same .lib rfl
@[simp] theorem State.reply_bwt {a1 a2 a3 a4 a5 a6 : _} : (s.reply a1 a2 a3 a4 a5 a6).bwt = s.bwt := (State.reply_good s a1 a2 a3 a4 a5 a6).same .bwt rfl
@[simp] theorem State.reply_mir {a1 a2 a3 a4 a5 a6 : _} : (s.reply a1 a2 a3 a4 a5 a6).mir = s.mir := (State.reply_good s a1 a2 a3 a4 a5 a6).same .mir rfl
@[simp] theorem State.reply_cel {a1 a2 a3 a4 a5 a6 : _} : (s.reply a1 a2 a3 a4 a5 a6).cel = s.cel := (State.reply_good s a1 a2 a3 a4 a5 a6).same .cel rfl
@[simp] theorem State.reply_fab {a1 a2 a3 a4 a5 a6 : _} : (s.reply a1 a2 a3 a4 a5 a6).fab = s.fab := (State.reply_good s a1 a2 a3 a4 a5 a6).same .fab rfl
@[simp] theorem State.reply_clk {a1 a2 a3 a4 a5 a6 : _} : (s.reply a1 a2 a3 a4 a5 a6).clk = s.clk := (State.reply_good s a1 a2 a3 a4 a5 a6).same .clk rfl
@[simp] theorem State.reply_sup {a1 a2 a3 a4 a5 a6 : _} : (s.reply a1 a2 a3 a4 a5 a6).sup = s.sup := (State.reply_good s a1 a2 a3 a4 a5 a6).same .sup rfl
@[simp] theorem State.reply_image {a1 a2 a3 a4 a5 a6 : _} : (s.reply a1 a2 a3 a4 a5 a6).image = s.image := (State.reply_good s a1 a2 a3 a4 a5 a6).same .image rfl
@[simp] theorem State.reply_pending {a1 a2 a3 a4 a5 a6 : _} : (s.reply a1 a2 a3 a4 a5 a6).pending = s.pending := (State.reply_good s a1 a2 a3 a4 a5 a6).same .pending rfl
@[simp] theorem State.word_reply {f : Fld} {a1 a2 a3 a4 a5 a6 : _} : (s.reply a1 a2 a3 a4 a5 a6).word f = s.word f := State.word_congr ((State.reply_good s a1 a2 a3 a4 a5 a6).same .regs rfl) ((State.reply_good s a1 a2 a3 a4 a5 a6).same .straps rfl)
@[simp] theorem State.rd_reply {f : Fld} {a1 a2 a3 a4 a5 a6 : _} : (s.reply a1 a2 a3 a4 a5 a6).rd f = s.rd f := State.rd_congr ((State.reply_good s a1 a2 a3 a4 a5 a6).same .regs rfl) ((State.reply_good s a1 a2 a3 a4 a5 a6).same .straps rfl)
@[simp] theorem State.on_reply {f : Fld} {a1 a2 a3 a4 a5 a6 : _} : (s.reply a1 a2 a3 a4 a5 a6).on f = s.on f := State.on_congr ((State.reply_good s a1 a2 a3 a4 a5 a6).same .regs rfl) ((State.reply_good s a1 a2 a3 a4 a5 a6).same .straps rfl)

/-! ### State.enqueue -/

@[simp] theorem State.enqueue_regs {a1 a2 : _} : (s.enqueue a1 a2).regs = s.regs := (State.enqueue_good s a1 a2).same .regs rfl
@[simp] theorem State.enqueue_live {a1 a2 : _} : (s.enqueue a1 a2).live = s.live := (State.enqueue_good s a1 a2).same .live rfl
@[simp] theorem State.enqueue_liveHist {a1 a2 : _} : (s.enqueue a1 a2).liveHist = s.liveHist := (State.enqueue_good s a1 a2).same .liveHist rfl
@[simp] theorem State.enqueue_tm {a1 a2 : _} : (s.enqueue a1 a2).tm = s.tm := (State.enqueue_good s a1 a2).same .tm rfl
@[simp] theorem State.enqueue_mem {a1 a2 : _} : (s.enqueue a1 a2).mem = s.mem := (State.enqueue_good s a1 a2).same .mem rfl
@[simp] theorem State.enqueue_free {a1 a2 : _} : (s.enqueue a1 a2).free = s.free := (State.enqueue_good s a1 a2).same .free rfl
@[simp] theorem State.enqueue_latches {a1 a2 : _} : (s.enqueue a1 a2).latches = s.latches := (State.enqueue_good s a1 a2).same .latches rfl
@[simp] theorem State.enqueue_straps {a1 a2 : _} : (s.enqueue a1 a2).straps = s.straps := (State.enqueue_good s a1 a2).same .straps rfl
@[simp] theorem State.enqueue_geo {a1 a2 : _} : (s.enqueue a1 a2).geo = s.geo := (State.enqueue_good s a1 a2).same .geo rfl
@[simp] theorem State.enqueue_hst {a1 a2 : _} : (s.enqueue a1 a2).hst = s.hst := (State.enqueue_good s a1 a2).same .hst rfl
@[simp] theorem State.enqueue_mix {a1 a2 : _} : (s.enqueue a1 a2).mix = s.mix := (State.enqueue_good s a1 a2).same .mix rfl
@[simp] theorem State.enqueue_sched {a1 a2 : _} : (s.enqueue a1 a2).sched = s.sched := (State.enqueue_good s a1 a2).same .sched rfl
@[simp] theorem State.enqueue_ost {a1 a2 : _} : (s.enqueue a1 a2).ost = s.ost := (State.enqueue_good s a1 a2).same .ost rfl
@[simp] theorem State.enqueue_cores {a1 a2 : _} : (s.enqueue a1 a2).cores = s.cores := (State.enqueue_good s a1 a2).same .cores rfl
@[simp] theorem State.enqueue_tdm {a1 a2 : _} : (s.enqueue a1 a2).tdm = s.tdm := (State.enqueue_good s a1 a2).same .tdm rfl
@[simp] theorem State.enqueue_aes {a1 a2 : _} : (s.enqueue a1 a2).aes = s.aes := (State.enqueue_good s a1 a2).same .aes rfl
@[simp] theorem State.enqueue_aesOut {a1 a2 : _} : (s.enqueue a1 a2).aesOut = s.aesOut := (State.enqueue_good s a1 a2).same .aesOut rfl
@[simp] theorem State.enqueue_vox {a1 a2 : _} : (s.enqueue a1 a2).vox = s.vox := (State.enqueue_good s a1 a2).same .vox rfl
@[simp] theorem State.enqueue_asc {a1 a2 : _} : (s.enqueue a1 a2).asc = s.asc := (State.enqueue_good s a1 a2).same .asc rfl
@[simp] theorem State.enqueue_mics {a1 a2 : _} : (s.enqueue a1 a2).mics = s.mics := (State.enqueue_good s a1 a2).same .mics rfl
@[simp] theorem State.enqueue_bound {a1 a2 : _} : (s.enqueue a1 a2).bound = s.bound := (State.enqueue_good s a1 a2).same .bound rfl
@[simp] theorem State.enqueue_ps {a1 a2 : _} : (s.enqueue a1 a2).ps = s.ps := (State.enqueue_good s a1 a2).same .ps rfl
@[simp] theorem State.enqueue_tly {a1 a2 : _} : (s.enqueue a1 a2).tly = s.tly := (State.enqueue_good s a1 a2).same .tly rfl
@[simp] theorem State.enqueue_macs {a1 a2 : _} : (s.enqueue a1 a2).macs = s.macs := (State.enqueue_good s a1 a2).same .macs rfl
@[simp] theorem State.enqueue_ptp {a1 a2 : _} : (s.enqueue a1 a2).ptp = s.ptp := (State.enqueue_good s a1 a2).same .ptp rfl
@[simp] theorem State.enqueue_srx {a1 a2 : _} : (s.enqueue a1 a2).srx = s.srx := (State.enqueue_good s a1 a2).same .srx rfl
@[simp] theorem State.enqueue_stx {a1 a2 : _} : (s.enqueue a1 a2).stx = s.stx := (State.enqueue_good s a1 a2).same .stx rfl
@[simp] theorem State.enqueue_acts {a1 a2 : _} : (s.enqueue a1 a2).acts = s.acts := (State.enqueue_good s a1 a2).same .acts rfl
@[simp] theorem State.enqueue_gpio {a1 a2 : _} : (s.enqueue a1 a2).gpio = s.gpio := (State.enqueue_good s a1 a2).same .gpio rfl
@[simp] theorem State.enqueue_pins {a1 a2 : _} : (s.enqueue a1 a2).pins = s.pins := (State.enqueue_good s a1 a2).same .pins rfl
@[simp] theorem State.enqueue_sessions {a1 a2 : _} : (s.enqueue a1 a2).sessions = s.sessions := (State.enqueue_good s a1 a2).same .sessions rfl
@[simp] theorem State.enqueue_owner {a1 a2 : _} : (s.enqueue a1 a2).owner = s.owner := (State.enqueue_good s a1 a2).same .owner rfl
@[simp] theorem State.enqueue_former {a1 a2 : _} : (s.enqueue a1 a2).former = s.former := (State.enqueue_good s a1 a2).same .former rfl
@[simp] theorem State.enqueue_devBusy {a1 a2 : _} : (s.enqueue a1 a2).devBusy = s.devBusy := (State.enqueue_good s a1 a2).same .devBusy rfl
@[simp] theorem State.enqueue_enrol {a1 a2 : _} : (s.enqueue a1 a2).enrol = s.enrol := (State.enqueue_good s a1 a2).same .enrol rfl
@[simp] theorem State.enqueue_msgs {a1 a2 : _} : (s.enqueue a1 a2).msgs = s.msgs := (State.enqueue_good s a1 a2).same .msgs rfl
@[simp] theorem State.enqueue_plays {a1 a2 : _} : (s.enqueue a1 a2).plays = s.plays := (State.enqueue_good s a1 a2).same .plays rfl
@[simp] theorem State.enqueue_fw {a1 a2 : _} : (s.enqueue a1 a2).fw = s.fw := (State.enqueue_good s a1 a2).same .fw rfl
@[simp] theorem State.enqueue_flash {a1 a2 : _} : (s.enqueue a1 a2).flash = s.flash := (State.enqueue_good s a1 a2).same .flash rfl
@[simp] theorem State.enqueue_otp {a1 a2 : _} : (s.enqueue a1 a2).otp = s.otp := (State.enqueue_good s a1 a2).same .otp rfl
@[simp] theorem State.enqueue_maint {a1 a2 : _} : (s.enqueue a1 a2).maint = s.maint := (State.enqueue_good s a1 a2).same .maint rfl
@[simp] theorem State.enqueue_triggers {a1 a2 : _} : (s.enqueue a1 a2).triggers = s.triggers := (State.enqueue_good s a1 a2).same .triggers rfl
@[simp] theorem State.enqueue_armed {a1 a2 : _} : (s.enqueue a1 a2).armed = s.armed := (State.enqueue_good s a1 a2).same .armed rfl
@[simp] theorem State.enqueue_totals {a1 a2 : _} : (s.enqueue a1 a2).totals = s.totals := (State.enqueue_good s a1 a2).same .totals rfl
@[simp] theorem State.enqueue_totalsAt {a1 a2 : _} : (s.enqueue a1 a2).totalsAt = s.totalsAt := (State.enqueue_good s a1 a2).same .totalsAt rfl
@[simp] theorem State.enqueue_lib {a1 a2 : _} : (s.enqueue a1 a2).lib = s.lib := (State.enqueue_good s a1 a2).same .lib rfl
@[simp] theorem State.enqueue_bwt {a1 a2 : _} : (s.enqueue a1 a2).bwt = s.bwt := (State.enqueue_good s a1 a2).same .bwt rfl
@[simp] theorem State.enqueue_mir {a1 a2 : _} : (s.enqueue a1 a2).mir = s.mir := (State.enqueue_good s a1 a2).same .mir rfl
@[simp] theorem State.enqueue_cel {a1 a2 : _} : (s.enqueue a1 a2).cel = s.cel := (State.enqueue_good s a1 a2).same .cel rfl
@[simp] theorem State.enqueue_fab {a1 a2 : _} : (s.enqueue a1 a2).fab = s.fab := (State.enqueue_good s a1 a2).same .fab rfl
@[simp] theorem State.enqueue_clk {a1 a2 : _} : (s.enqueue a1 a2).clk = s.clk := (State.enqueue_good s a1 a2).same .clk rfl
@[simp] theorem State.enqueue_sup {a1 a2 : _} : (s.enqueue a1 a2).sup = s.sup := (State.enqueue_good s a1 a2).same .sup rfl
@[simp] theorem State.enqueue_image {a1 a2 : _} : (s.enqueue a1 a2).image = s.image := (State.enqueue_good s a1 a2).same .image rfl
@[simp] theorem State.enqueue_pending {a1 a2 : _} : (s.enqueue a1 a2).pending = s.pending := (State.enqueue_good s a1 a2).same .pending rfl
@[simp] theorem State.word_enqueue {f : Fld} {a1 a2 : _} : (s.enqueue a1 a2).word f = s.word f := State.word_congr ((State.enqueue_good s a1 a2).same .regs rfl) ((State.enqueue_good s a1 a2).same .straps rfl)
@[simp] theorem State.rd_enqueue {f : Fld} {a1 a2 : _} : (s.enqueue a1 a2).rd f = s.rd f := State.rd_congr ((State.enqueue_good s a1 a2).same .regs rfl) ((State.enqueue_good s a1 a2).same .straps rfl)
@[simp] theorem State.on_enqueue {f : Fld} {a1 a2 : _} : (s.enqueue a1 a2).on f = s.on f := State.on_congr ((State.enqueue_good s a1 a2).same .regs rfl) ((State.enqueue_good s a1 a2).same .straps rfl)

/-! ### State.count -/

@[simp] theorem State.count_live {a1 a2 : _} : (s.count a1 a2).live = s.live := (State.count_good s a1 a2).same .live rfl
@[simp] theorem State.count_liveHist {a1 a2 : _} : (s.count a1 a2).liveHist = s.liveHist := (State.count_good s a1 a2).same .liveHist rfl
@[simp] theorem State.count_tm {a1 a2 : _} : (s.count a1 a2).tm = s.tm := (State.count_good s a1 a2).same .tm rfl
@[simp] theorem State.count_mem {a1 a2 : _} : (s.count a1 a2).mem = s.mem := (State.count_good s a1 a2).same .mem rfl
@[simp] theorem State.count_free {a1 a2 : _} : (s.count a1 a2).free = s.free := (State.count_good s a1 a2).same .free rfl
@[simp] theorem State.count_latches {a1 a2 : _} : (s.count a1 a2).latches = s.latches := (State.count_good s a1 a2).same .latches rfl
@[simp] theorem State.count_straps {a1 a2 : _} : (s.count a1 a2).straps = s.straps := (State.count_good s a1 a2).same .straps rfl
@[simp] theorem State.count_geo {a1 a2 : _} : (s.count a1 a2).geo = s.geo := (State.count_good s a1 a2).same .geo rfl
@[simp] theorem State.count_hst {a1 a2 : _} : (s.count a1 a2).hst = s.hst := (State.count_good s a1 a2).same .hst rfl
@[simp] theorem State.count_mix {a1 a2 : _} : (s.count a1 a2).mix = s.mix := (State.count_good s a1 a2).same .mix rfl
@[simp] theorem State.count_sched {a1 a2 : _} : (s.count a1 a2).sched = s.sched := (State.count_good s a1 a2).same .sched rfl
@[simp] theorem State.count_ost {a1 a2 : _} : (s.count a1 a2).ost = s.ost := (State.count_good s a1 a2).same .ost rfl
@[simp] theorem State.count_cores {a1 a2 : _} : (s.count a1 a2).cores = s.cores := (State.count_good s a1 a2).same .cores rfl
@[simp] theorem State.count_tdm {a1 a2 : _} : (s.count a1 a2).tdm = s.tdm := (State.count_good s a1 a2).same .tdm rfl
@[simp] theorem State.count_aes {a1 a2 : _} : (s.count a1 a2).aes = s.aes := (State.count_good s a1 a2).same .aes rfl
@[simp] theorem State.count_aesOut {a1 a2 : _} : (s.count a1 a2).aesOut = s.aesOut := (State.count_good s a1 a2).same .aesOut rfl
@[simp] theorem State.count_vox {a1 a2 : _} : (s.count a1 a2).vox = s.vox := (State.count_good s a1 a2).same .vox rfl
@[simp] theorem State.count_asc {a1 a2 : _} : (s.count a1 a2).asc = s.asc := (State.count_good s a1 a2).same .asc rfl
@[simp] theorem State.count_mics {a1 a2 : _} : (s.count a1 a2).mics = s.mics := (State.count_good s a1 a2).same .mics rfl
@[simp] theorem State.count_bound {a1 a2 : _} : (s.count a1 a2).bound = s.bound := (State.count_good s a1 a2).same .bound rfl
@[simp] theorem State.count_ps {a1 a2 : _} : (s.count a1 a2).ps = s.ps := (State.count_good s a1 a2).same .ps rfl
@[simp] theorem State.count_tly {a1 a2 : _} : (s.count a1 a2).tly = s.tly := (State.count_good s a1 a2).same .tly rfl
@[simp] theorem State.count_macs {a1 a2 : _} : (s.count a1 a2).macs = s.macs := (State.count_good s a1 a2).same .macs rfl
@[simp] theorem State.count_ptp {a1 a2 : _} : (s.count a1 a2).ptp = s.ptp := (State.count_good s a1 a2).same .ptp rfl
@[simp] theorem State.count_srx {a1 a2 : _} : (s.count a1 a2).srx = s.srx := (State.count_good s a1 a2).same .srx rfl
@[simp] theorem State.count_stx {a1 a2 : _} : (s.count a1 a2).stx = s.stx := (State.count_good s a1 a2).same .stx rfl
@[simp] theorem State.count_acts {a1 a2 : _} : (s.count a1 a2).acts = s.acts := (State.count_good s a1 a2).same .acts rfl
@[simp] theorem State.count_gpio {a1 a2 : _} : (s.count a1 a2).gpio = s.gpio := (State.count_good s a1 a2).same .gpio rfl
@[simp] theorem State.count_pins {a1 a2 : _} : (s.count a1 a2).pins = s.pins := (State.count_good s a1 a2).same .pins rfl
@[simp] theorem State.count_sessions {a1 a2 : _} : (s.count a1 a2).sessions = s.sessions := (State.count_good s a1 a2).same .sessions rfl
@[simp] theorem State.count_owner {a1 a2 : _} : (s.count a1 a2).owner = s.owner := (State.count_good s a1 a2).same .owner rfl
@[simp] theorem State.count_former {a1 a2 : _} : (s.count a1 a2).former = s.former := (State.count_good s a1 a2).same .former rfl
@[simp] theorem State.count_ports {a1 a2 : _} : (s.count a1 a2).ports = s.ports := (State.count_good s a1 a2).same .ports rfl
@[simp] theorem State.count_devBusy {a1 a2 : _} : (s.count a1 a2).devBusy = s.devBusy := (State.count_good s a1 a2).same .devBusy rfl
@[simp] theorem State.count_enrol {a1 a2 : _} : (s.count a1 a2).enrol = s.enrol := (State.count_good s a1 a2).same .enrol rfl
@[simp] theorem State.count_msgs {a1 a2 : _} : (s.count a1 a2).msgs = s.msgs := (State.count_good s a1 a2).same .msgs rfl
@[simp] theorem State.count_plays {a1 a2 : _} : (s.count a1 a2).plays = s.plays := (State.count_good s a1 a2).same .plays rfl
@[simp] theorem State.count_fw {a1 a2 : _} : (s.count a1 a2).fw = s.fw := (State.count_good s a1 a2).same .fw rfl
@[simp] theorem State.count_flash {a1 a2 : _} : (s.count a1 a2).flash = s.flash := (State.count_good s a1 a2).same .flash rfl
@[simp] theorem State.count_otp {a1 a2 : _} : (s.count a1 a2).otp = s.otp := (State.count_good s a1 a2).same .otp rfl
@[simp] theorem State.count_maint {a1 a2 : _} : (s.count a1 a2).maint = s.maint := (State.count_good s a1 a2).same .maint rfl
@[simp] theorem State.count_triggers {a1 a2 : _} : (s.count a1 a2).triggers = s.triggers := (State.count_good s a1 a2).same .triggers rfl
@[simp] theorem State.count_armed {a1 a2 : _} : (s.count a1 a2).armed = s.armed := (State.count_good s a1 a2).same .armed rfl
@[simp] theorem State.count_totals {a1 a2 : _} : (s.count a1 a2).totals = s.totals := (State.count_good s a1 a2).same .totals rfl
@[simp] theorem State.count_totalsAt {a1 a2 : _} : (s.count a1 a2).totalsAt = s.totalsAt := (State.count_good s a1 a2).same .totalsAt rfl
@[simp] theorem State.count_lib {a1 a2 : _} : (s.count a1 a2).lib = s.lib := (State.count_good s a1 a2).same .lib rfl
@[simp] theorem State.count_bwt {a1 a2 : _} : (s.count a1 a2).bwt = s.bwt := (State.count_good s a1 a2).same .bwt rfl
@[simp] theorem State.count_mir {a1 a2 : _} : (s.count a1 a2).mir = s.mir := (State.count_good s a1 a2).same .mir rfl
@[simp] theorem State.count_cel {a1 a2 : _} : (s.count a1 a2).cel = s.cel := (State.count_good s a1 a2).same .cel rfl
@[simp] theorem State.count_fab {a1 a2 : _} : (s.count a1 a2).fab = s.fab := (State.count_good s a1 a2).same .fab rfl
@[simp] theorem State.count_clk {a1 a2 : _} : (s.count a1 a2).clk = s.clk := (State.count_good s a1 a2).same .clk rfl
@[simp] theorem State.count_sup {a1 a2 : _} : (s.count a1 a2).sup = s.sup := (State.count_good s a1 a2).same .sup rfl
@[simp] theorem State.count_image {a1 a2 : _} : (s.count a1 a2).image = s.image := (State.count_good s a1 a2).same .image rfl
@[simp] theorem State.count_pending {a1 a2 : _} : (s.count a1 a2).pending = s.pending := (State.count_good s a1 a2).same .pending rfl

/-! ### State.bump -/

@[simp] theorem State.bump_live {a1 : _} : (s.bump a1).live = s.live := (State.bump_good s a1).same .live rfl
@[simp] theorem State.bump_liveHist {a1 : _} : (s.bump a1).liveHist = s.liveHist := (State.bump_good s a1).same .liveHist rfl
@[simp] theorem State.bump_tm {a1 : _} : (s.bump a1).tm = s.tm := (State.bump_good s a1).same .tm rfl
@[simp] theorem State.bump_mem {a1 : _} : (s.bump a1).mem = s.mem := (State.bump_good s a1).same .mem rfl
@[simp] theorem State.bump_free {a1 : _} : (s.bump a1).free = s.free := (State.bump_good s a1).same .free rfl
@[simp] theorem State.bump_latches {a1 : _} : (s.bump a1).latches = s.latches := (State.bump_good s a1).same .latches rfl
@[simp] theorem State.bump_straps {a1 : _} : (s.bump a1).straps = s.straps := (State.bump_good s a1).same .straps rfl
@[simp] theorem State.bump_geo {a1 : _} : (s.bump a1).geo = s.geo := (State.bump_good s a1).same .geo rfl
@[simp] theorem State.bump_hst {a1 : _} : (s.bump a1).hst = s.hst := (State.bump_good s a1).same .hst rfl
@[simp] theorem State.bump_mix {a1 : _} : (s.bump a1).mix = s.mix := (State.bump_good s a1).same .mix rfl
@[simp] theorem State.bump_sched {a1 : _} : (s.bump a1).sched = s.sched := (State.bump_good s a1).same .sched rfl
@[simp] theorem State.bump_ost {a1 : _} : (s.bump a1).ost = s.ost := (State.bump_good s a1).same .ost rfl
@[simp] theorem State.bump_cores {a1 : _} : (s.bump a1).cores = s.cores := (State.bump_good s a1).same .cores rfl
@[simp] theorem State.bump_tdm {a1 : _} : (s.bump a1).tdm = s.tdm := (State.bump_good s a1).same .tdm rfl
@[simp] theorem State.bump_aes {a1 : _} : (s.bump a1).aes = s.aes := (State.bump_good s a1).same .aes rfl
@[simp] theorem State.bump_aesOut {a1 : _} : (s.bump a1).aesOut = s.aesOut := (State.bump_good s a1).same .aesOut rfl
@[simp] theorem State.bump_vox {a1 : _} : (s.bump a1).vox = s.vox := (State.bump_good s a1).same .vox rfl
@[simp] theorem State.bump_asc {a1 : _} : (s.bump a1).asc = s.asc := (State.bump_good s a1).same .asc rfl
@[simp] theorem State.bump_mics {a1 : _} : (s.bump a1).mics = s.mics := (State.bump_good s a1).same .mics rfl
@[simp] theorem State.bump_bound {a1 : _} : (s.bump a1).bound = s.bound := (State.bump_good s a1).same .bound rfl
@[simp] theorem State.bump_ps {a1 : _} : (s.bump a1).ps = s.ps := (State.bump_good s a1).same .ps rfl
@[simp] theorem State.bump_tly {a1 : _} : (s.bump a1).tly = s.tly := (State.bump_good s a1).same .tly rfl
@[simp] theorem State.bump_macs {a1 : _} : (s.bump a1).macs = s.macs := (State.bump_good s a1).same .macs rfl
@[simp] theorem State.bump_ptp {a1 : _} : (s.bump a1).ptp = s.ptp := (State.bump_good s a1).same .ptp rfl
@[simp] theorem State.bump_srx {a1 : _} : (s.bump a1).srx = s.srx := (State.bump_good s a1).same .srx rfl
@[simp] theorem State.bump_stx {a1 : _} : (s.bump a1).stx = s.stx := (State.bump_good s a1).same .stx rfl
@[simp] theorem State.bump_acts {a1 : _} : (s.bump a1).acts = s.acts := (State.bump_good s a1).same .acts rfl
@[simp] theorem State.bump_gpio {a1 : _} : (s.bump a1).gpio = s.gpio := (State.bump_good s a1).same .gpio rfl
@[simp] theorem State.bump_pins {a1 : _} : (s.bump a1).pins = s.pins := (State.bump_good s a1).same .pins rfl
@[simp] theorem State.bump_sessions {a1 : _} : (s.bump a1).sessions = s.sessions := (State.bump_good s a1).same .sessions rfl
@[simp] theorem State.bump_owner {a1 : _} : (s.bump a1).owner = s.owner := (State.bump_good s a1).same .owner rfl
@[simp] theorem State.bump_former {a1 : _} : (s.bump a1).former = s.former := (State.bump_good s a1).same .former rfl
@[simp] theorem State.bump_ports {a1 : _} : (s.bump a1).ports = s.ports := (State.bump_good s a1).same .ports rfl
@[simp] theorem State.bump_devBusy {a1 : _} : (s.bump a1).devBusy = s.devBusy := (State.bump_good s a1).same .devBusy rfl
@[simp] theorem State.bump_enrol {a1 : _} : (s.bump a1).enrol = s.enrol := (State.bump_good s a1).same .enrol rfl
@[simp] theorem State.bump_msgs {a1 : _} : (s.bump a1).msgs = s.msgs := (State.bump_good s a1).same .msgs rfl
@[simp] theorem State.bump_plays {a1 : _} : (s.bump a1).plays = s.plays := (State.bump_good s a1).same .plays rfl
@[simp] theorem State.bump_fw {a1 : _} : (s.bump a1).fw = s.fw := (State.bump_good s a1).same .fw rfl
@[simp] theorem State.bump_flash {a1 : _} : (s.bump a1).flash = s.flash := (State.bump_good s a1).same .flash rfl
@[simp] theorem State.bump_otp {a1 : _} : (s.bump a1).otp = s.otp := (State.bump_good s a1).same .otp rfl
@[simp] theorem State.bump_maint {a1 : _} : (s.bump a1).maint = s.maint := (State.bump_good s a1).same .maint rfl
@[simp] theorem State.bump_triggers {a1 : _} : (s.bump a1).triggers = s.triggers := (State.bump_good s a1).same .triggers rfl
@[simp] theorem State.bump_armed {a1 : _} : (s.bump a1).armed = s.armed := (State.bump_good s a1).same .armed rfl
@[simp] theorem State.bump_totals {a1 : _} : (s.bump a1).totals = s.totals := (State.bump_good s a1).same .totals rfl
@[simp] theorem State.bump_totalsAt {a1 : _} : (s.bump a1).totalsAt = s.totalsAt := (State.bump_good s a1).same .totalsAt rfl
@[simp] theorem State.bump_lib {a1 : _} : (s.bump a1).lib = s.lib := (State.bump_good s a1).same .lib rfl
@[simp] theorem State.bump_bwt {a1 : _} : (s.bump a1).bwt = s.bwt := (State.bump_good s a1).same .bwt rfl
@[simp] theorem State.bump_mir {a1 : _} : (s.bump a1).mir = s.mir := (State.bump_good s a1).same .mir rfl
@[simp] theorem State.bump_cel {a1 : _} : (s.bump a1).cel = s.cel := (State.bump_good s a1).same .cel rfl
@[simp] theorem State.bump_fab {a1 : _} : (s.bump a1).fab = s.fab := (State.bump_good s a1).same .fab rfl
@[simp] theorem State.bump_clk {a1 : _} : (s.bump a1).clk = s.clk := (State.bump_good s a1).same .clk rfl
@[simp] theorem State.bump_sup {a1 : _} : (s.bump a1).sup = s.sup := (State.bump_good s a1).same .sup rfl
@[simp] theorem State.bump_image {a1 : _} : (s.bump a1).image = s.image := (State.bump_good s a1).same .image rfl
@[simp] theorem State.bump_pending {a1 : _} : (s.bump a1).pending = s.pending := (State.bump_good s a1).same .pending rfl

/-! ### State.flag -/

@[simp] theorem State.flag_live {a1 : _} : (s.flag a1).live = s.live := (State.flag_good s a1).same .live rfl
@[simp] theorem State.flag_liveHist {a1 : _} : (s.flag a1).liveHist = s.liveHist := (State.flag_good s a1).same .liveHist rfl
@[simp] theorem State.flag_tm {a1 : _} : (s.flag a1).tm = s.tm := (State.flag_good s a1).same .tm rfl
@[simp] theorem State.flag_mem {a1 : _} : (s.flag a1).mem = s.mem := (State.flag_good s a1).same .mem rfl
@[simp] theorem State.flag_free {a1 : _} : (s.flag a1).free = s.free := (State.flag_good s a1).same .free rfl
@[simp] theorem State.flag_latches {a1 : _} : (s.flag a1).latches = s.latches := (State.flag_good s a1).same .latches rfl
@[simp] theorem State.flag_straps {a1 : _} : (s.flag a1).straps = s.straps := (State.flag_good s a1).same .straps rfl
@[simp] theorem State.flag_geo {a1 : _} : (s.flag a1).geo = s.geo := (State.flag_good s a1).same .geo rfl
@[simp] theorem State.flag_hst {a1 : _} : (s.flag a1).hst = s.hst := (State.flag_good s a1).same .hst rfl
@[simp] theorem State.flag_mix {a1 : _} : (s.flag a1).mix = s.mix := (State.flag_good s a1).same .mix rfl
@[simp] theorem State.flag_sched {a1 : _} : (s.flag a1).sched = s.sched := (State.flag_good s a1).same .sched rfl
@[simp] theorem State.flag_ost {a1 : _} : (s.flag a1).ost = s.ost := (State.flag_good s a1).same .ost rfl
@[simp] theorem State.flag_cores {a1 : _} : (s.flag a1).cores = s.cores := (State.flag_good s a1).same .cores rfl
@[simp] theorem State.flag_tdm {a1 : _} : (s.flag a1).tdm = s.tdm := (State.flag_good s a1).same .tdm rfl
@[simp] theorem State.flag_aes {a1 : _} : (s.flag a1).aes = s.aes := (State.flag_good s a1).same .aes rfl
@[simp] theorem State.flag_aesOut {a1 : _} : (s.flag a1).aesOut = s.aesOut := (State.flag_good s a1).same .aesOut rfl
@[simp] theorem State.flag_vox {a1 : _} : (s.flag a1).vox = s.vox := (State.flag_good s a1).same .vox rfl
@[simp] theorem State.flag_asc {a1 : _} : (s.flag a1).asc = s.asc := (State.flag_good s a1).same .asc rfl
@[simp] theorem State.flag_mics {a1 : _} : (s.flag a1).mics = s.mics := (State.flag_good s a1).same .mics rfl
@[simp] theorem State.flag_bound {a1 : _} : (s.flag a1).bound = s.bound := (State.flag_good s a1).same .bound rfl
@[simp] theorem State.flag_ps {a1 : _} : (s.flag a1).ps = s.ps := (State.flag_good s a1).same .ps rfl
@[simp] theorem State.flag_tly {a1 : _} : (s.flag a1).tly = s.tly := (State.flag_good s a1).same .tly rfl
@[simp] theorem State.flag_macs {a1 : _} : (s.flag a1).macs = s.macs := (State.flag_good s a1).same .macs rfl
@[simp] theorem State.flag_ptp {a1 : _} : (s.flag a1).ptp = s.ptp := (State.flag_good s a1).same .ptp rfl
@[simp] theorem State.flag_srx {a1 : _} : (s.flag a1).srx = s.srx := (State.flag_good s a1).same .srx rfl
@[simp] theorem State.flag_stx {a1 : _} : (s.flag a1).stx = s.stx := (State.flag_good s a1).same .stx rfl
@[simp] theorem State.flag_acts {a1 : _} : (s.flag a1).acts = s.acts := (State.flag_good s a1).same .acts rfl
@[simp] theorem State.flag_gpio {a1 : _} : (s.flag a1).gpio = s.gpio := (State.flag_good s a1).same .gpio rfl
@[simp] theorem State.flag_pins {a1 : _} : (s.flag a1).pins = s.pins := (State.flag_good s a1).same .pins rfl
@[simp] theorem State.flag_sessions {a1 : _} : (s.flag a1).sessions = s.sessions := (State.flag_good s a1).same .sessions rfl
@[simp] theorem State.flag_owner {a1 : _} : (s.flag a1).owner = s.owner := (State.flag_good s a1).same .owner rfl
@[simp] theorem State.flag_former {a1 : _} : (s.flag a1).former = s.former := (State.flag_good s a1).same .former rfl
@[simp] theorem State.flag_ports {a1 : _} : (s.flag a1).ports = s.ports := (State.flag_good s a1).same .ports rfl
@[simp] theorem State.flag_devBusy {a1 : _} : (s.flag a1).devBusy = s.devBusy := (State.flag_good s a1).same .devBusy rfl
@[simp] theorem State.flag_enrol {a1 : _} : (s.flag a1).enrol = s.enrol := (State.flag_good s a1).same .enrol rfl
@[simp] theorem State.flag_msgs {a1 : _} : (s.flag a1).msgs = s.msgs := (State.flag_good s a1).same .msgs rfl
@[simp] theorem State.flag_plays {a1 : _} : (s.flag a1).plays = s.plays := (State.flag_good s a1).same .plays rfl
@[simp] theorem State.flag_fw {a1 : _} : (s.flag a1).fw = s.fw := (State.flag_good s a1).same .fw rfl
@[simp] theorem State.flag_flash {a1 : _} : (s.flag a1).flash = s.flash := (State.flag_good s a1).same .flash rfl
@[simp] theorem State.flag_otp {a1 : _} : (s.flag a1).otp = s.otp := (State.flag_good s a1).same .otp rfl
@[simp] theorem State.flag_maint {a1 : _} : (s.flag a1).maint = s.maint := (State.flag_good s a1).same .maint rfl
@[simp] theorem State.flag_triggers {a1 : _} : (s.flag a1).triggers = s.triggers := (State.flag_good s a1).same .triggers rfl
@[simp] theorem State.flag_armed {a1 : _} : (s.flag a1).armed = s.armed := (State.flag_good s a1).same .armed rfl
@[simp] theorem State.flag_totals {a1 : _} : (s.flag a1).totals = s.totals := (State.flag_good s a1).same .totals rfl
@[simp] theorem State.flag_totalsAt {a1 : _} : (s.flag a1).totalsAt = s.totalsAt := (State.flag_good s a1).same .totalsAt rfl
@[simp] theorem State.flag_lib {a1 : _} : (s.flag a1).lib = s.lib := (State.flag_good s a1).same .lib rfl
@[simp] theorem State.flag_bwt {a1 : _} : (s.flag a1).bwt = s.bwt := (State.flag_good s a1).same .bwt rfl
@[simp] theorem State.flag_mir {a1 : _} : (s.flag a1).mir = s.mir := (State.flag_good s a1).same .mir rfl
@[simp] theorem State.flag_cel {a1 : _} : (s.flag a1).cel = s.cel := (State.flag_good s a1).same .cel rfl
@[simp] theorem State.flag_fab {a1 : _} : (s.flag a1).fab = s.fab := (State.flag_good s a1).same .fab rfl
@[simp] theorem State.flag_clk {a1 : _} : (s.flag a1).clk = s.clk := (State.flag_good s a1).same .clk rfl
@[simp] theorem State.flag_sup {a1 : _} : (s.flag a1).sup = s.sup := (State.flag_good s a1).same .sup rfl
@[simp] theorem State.flag_image {a1 : _} : (s.flag a1).image = s.image := (State.flag_good s a1).same .image rfl
@[simp] theorem State.flag_pending {a1 : _} : (s.flag a1).pending = s.pending := (State.flag_good s a1).same .pending rfl

/-! ### State.queueBulk -/

@[simp] theorem State.queueBulk_regs {a1 : _} : (s.queueBulk a1).regs = s.regs := (State.queueBulk_good s a1).same .regs rfl
@[simp] theorem State.queueBulk_live {a1 : _} : (s.queueBulk a1).live = s.live := (State.queueBulk_good s a1).same .live rfl
@[simp] theorem State.queueBulk_liveHist {a1 : _} : (s.queueBulk a1).liveHist = s.liveHist := (State.queueBulk_good s a1).same .liveHist rfl
@[simp] theorem State.queueBulk_tm {a1 : _} : (s.queueBulk a1).tm = s.tm := (State.queueBulk_good s a1).same .tm rfl
@[simp] theorem State.queueBulk_mem {a1 : _} : (s.queueBulk a1).mem = s.mem := (State.queueBulk_good s a1).same .mem rfl
@[simp] theorem State.queueBulk_free {a1 : _} : (s.queueBulk a1).free = s.free := (State.queueBulk_good s a1).same .free rfl
@[simp] theorem State.queueBulk_latches {a1 : _} : (s.queueBulk a1).latches = s.latches := (State.queueBulk_good s a1).same .latches rfl
@[simp] theorem State.queueBulk_straps {a1 : _} : (s.queueBulk a1).straps = s.straps := (State.queueBulk_good s a1).same .straps rfl
@[simp] theorem State.queueBulk_geo {a1 : _} : (s.queueBulk a1).geo = s.geo := (State.queueBulk_good s a1).same .geo rfl
@[simp] theorem State.queueBulk_hst {a1 : _} : (s.queueBulk a1).hst = s.hst := (State.queueBulk_good s a1).same .hst rfl
@[simp] theorem State.queueBulk_mix {a1 : _} : (s.queueBulk a1).mix = s.mix := (State.queueBulk_good s a1).same .mix rfl
@[simp] theorem State.queueBulk_sched {a1 : _} : (s.queueBulk a1).sched = s.sched := (State.queueBulk_good s a1).same .sched rfl
@[simp] theorem State.queueBulk_ost {a1 : _} : (s.queueBulk a1).ost = s.ost := (State.queueBulk_good s a1).same .ost rfl
@[simp] theorem State.queueBulk_cores {a1 : _} : (s.queueBulk a1).cores = s.cores := (State.queueBulk_good s a1).same .cores rfl
@[simp] theorem State.queueBulk_tdm {a1 : _} : (s.queueBulk a1).tdm = s.tdm := (State.queueBulk_good s a1).same .tdm rfl
@[simp] theorem State.queueBulk_aes {a1 : _} : (s.queueBulk a1).aes = s.aes := (State.queueBulk_good s a1).same .aes rfl
@[simp] theorem State.queueBulk_aesOut {a1 : _} : (s.queueBulk a1).aesOut = s.aesOut := (State.queueBulk_good s a1).same .aesOut rfl
@[simp] theorem State.queueBulk_vox {a1 : _} : (s.queueBulk a1).vox = s.vox := (State.queueBulk_good s a1).same .vox rfl
@[simp] theorem State.queueBulk_asc {a1 : _} : (s.queueBulk a1).asc = s.asc := (State.queueBulk_good s a1).same .asc rfl
@[simp] theorem State.queueBulk_mics {a1 : _} : (s.queueBulk a1).mics = s.mics := (State.queueBulk_good s a1).same .mics rfl
@[simp] theorem State.queueBulk_bound {a1 : _} : (s.queueBulk a1).bound = s.bound := (State.queueBulk_good s a1).same .bound rfl
@[simp] theorem State.queueBulk_ps {a1 : _} : (s.queueBulk a1).ps = s.ps := (State.queueBulk_good s a1).same .ps rfl
@[simp] theorem State.queueBulk_tly {a1 : _} : (s.queueBulk a1).tly = s.tly := (State.queueBulk_good s a1).same .tly rfl
@[simp] theorem State.queueBulk_macs {a1 : _} : (s.queueBulk a1).macs = s.macs := (State.queueBulk_good s a1).same .macs rfl
@[simp] theorem State.queueBulk_ptp {a1 : _} : (s.queueBulk a1).ptp = s.ptp := (State.queueBulk_good s a1).same .ptp rfl
@[simp] theorem State.queueBulk_srx {a1 : _} : (s.queueBulk a1).srx = s.srx := (State.queueBulk_good s a1).same .srx rfl
@[simp] theorem State.queueBulk_stx {a1 : _} : (s.queueBulk a1).stx = s.stx := (State.queueBulk_good s a1).same .stx rfl
@[simp] theorem State.queueBulk_acts {a1 : _} : (s.queueBulk a1).acts = s.acts := (State.queueBulk_good s a1).same .acts rfl
@[simp] theorem State.queueBulk_gpio {a1 : _} : (s.queueBulk a1).gpio = s.gpio := (State.queueBulk_good s a1).same .gpio rfl
@[simp] theorem State.queueBulk_pins {a1 : _} : (s.queueBulk a1).pins = s.pins := (State.queueBulk_good s a1).same .pins rfl
@[simp] theorem State.queueBulk_sessions {a1 : _} : (s.queueBulk a1).sessions = s.sessions := (State.queueBulk_good s a1).same .sessions rfl
@[simp] theorem State.queueBulk_owner {a1 : _} : (s.queueBulk a1).owner = s.owner := (State.queueBulk_good s a1).same .owner rfl
@[simp] theorem State.queueBulk_former {a1 : _} : (s.queueBulk a1).former = s.former := (State.queueBulk_good s a1).same .former rfl
@[simp] theorem State.queueBulk_ports {a1 : _} : (s.queueBulk a1).ports = s.ports := (State.queueBulk_good s a1).same .ports rfl
@[simp] theorem State.queueBulk_devBusy {a1 : _} : (s.queueBulk a1).devBusy = s.devBusy := (State.queueBulk_good s a1).same .devBusy rfl
@[simp] theorem State.queueBulk_enrol {a1 : _} : (s.queueBulk a1).enrol = s.enrol := (State.queueBulk_good s a1).same .enrol rfl
@[simp] theorem State.queueBulk_msgs {a1 : _} : (s.queueBulk a1).msgs = s.msgs := (State.queueBulk_good s a1).same .msgs rfl
@[simp] theorem State.queueBulk_plays {a1 : _} : (s.queueBulk a1).plays = s.plays := (State.queueBulk_good s a1).same .plays rfl
@[simp] theorem State.queueBulk_fw {a1 : _} : (s.queueBulk a1).fw = s.fw := (State.queueBulk_good s a1).same .fw rfl
@[simp] theorem State.queueBulk_flash {a1 : _} : (s.queueBulk a1).flash = s.flash := (State.queueBulk_good s a1).same .flash rfl
@[simp] theorem State.queueBulk_otp {a1 : _} : (s.queueBulk a1).otp = s.otp := (State.queueBulk_good s a1).same .otp rfl
@[simp] theorem State.queueBulk_maint {a1 : _} : (s.queueBulk a1).maint = s.maint := (State.queueBulk_good s a1).same .maint rfl
@[simp] theorem State.queueBulk_triggers {a1 : _} : (s.queueBulk a1).triggers = s.triggers := (State.queueBulk_good s a1).same .triggers rfl
@[simp] theorem State.queueBulk_armed {a1 : _} : (s.queueBulk a1).armed = s.armed := (State.queueBulk_good s a1).same .armed rfl
@[simp] theorem State.queueBulk_totals {a1 : _} : (s.queueBulk a1).totals = s.totals := (State.queueBulk_good s a1).same .totals rfl
@[simp] theorem State.queueBulk_totalsAt {a1 : _} : (s.queueBulk a1).totalsAt = s.totalsAt := (State.queueBulk_good s a1).same .totalsAt rfl
@[simp] theorem State.queueBulk_lib {a1 : _} : (s.queueBulk a1).lib = s.lib := (State.queueBulk_good s a1).same .lib rfl
@[simp] theorem State.queueBulk_bwt {a1 : _} : (s.queueBulk a1).bwt = s.bwt := (State.queueBulk_good s a1).same .bwt rfl
@[simp] theorem State.queueBulk_cel {a1 : _} : (s.queueBulk a1).cel = s.cel := (State.queueBulk_good s a1).same .cel rfl
@[simp] theorem State.queueBulk_fab {a1 : _} : (s.queueBulk a1).fab = s.fab := (State.queueBulk_good s a1).same .fab rfl
@[simp] theorem State.queueBulk_clk {a1 : _} : (s.queueBulk a1).clk = s.clk := (State.queueBulk_good s a1).same .clk rfl
@[simp] theorem State.queueBulk_sup {a1 : _} : (s.queueBulk a1).sup = s.sup := (State.queueBulk_good s a1).same .sup rfl
@[simp] theorem State.queueBulk_image {a1 : _} : (s.queueBulk a1).image = s.image := (State.queueBulk_good s a1).same .image rfl
@[simp] theorem State.queueBulk_pending {a1 : _} : (s.queueBulk a1).pending = s.pending := (State.queueBulk_good s a1).same .pending rfl
@[simp] theorem State.word_queueBulk {f : Fld} {a1 : _} : (s.queueBulk a1).word f = s.word f := State.word_congr ((State.queueBulk_good s a1).same .regs rfl) ((State.queueBulk_good s a1).same .straps rfl)
@[simp] theorem State.rd_queueBulk {f : Fld} {a1 : _} : (s.queueBulk a1).rd f = s.rd f := State.rd_congr ((State.queueBulk_good s a1).same .regs rfl) ((State.queueBulk_good s a1).same .straps rfl)
@[simp] theorem State.on_queueBulk {f : Fld} {a1 : _} : (s.queueBulk a1).on f = s.on f := State.on_congr ((State.queueBulk_good s a1).same .regs rfl) ((State.queueBulk_good s a1).same .straps rfl)

/-! ### State.afterCommit -/

@[simp] theorem State.afterCommit_live : (s.afterCommit).live = s.live := (State.afterCommit_good s).same .live rfl
@[simp] theorem State.afterCommit_liveHist : (s.afterCommit).liveHist = s.liveHist := (State.afterCommit_good s).same .liveHist rfl
@[simp] theorem State.afterCommit_tm : (s.afterCommit).tm = s.tm := (State.afterCommit_good s).same .tm rfl
@[simp] theorem State.afterCommit_mem : (s.afterCommit).mem = s.mem := (State.afterCommit_good s).same .mem rfl
@[simp] theorem State.afterCommit_free : (s.afterCommit).free = s.free := (State.afterCommit_good s).same .free rfl
@[simp] theorem State.afterCommit_latches : (s.afterCommit).latches = s.latches := (State.afterCommit_good s).same .latches rfl
@[simp] theorem State.afterCommit_straps : (s.afterCommit).straps = s.straps := (State.afterCommit_good s).same .straps rfl
@[simp] theorem State.afterCommit_geo : (s.afterCommit).geo = s.geo := (State.afterCommit_good s).same .geo rfl
@[simp] theorem State.afterCommit_hst : (s.afterCommit).hst = s.hst := (State.afterCommit_good s).same .hst rfl
@[simp] theorem State.afterCommit_mix : (s.afterCommit).mix = s.mix := (State.afterCommit_good s).same .mix rfl
@[simp] theorem State.afterCommit_sched : (s.afterCommit).sched = s.sched := (State.afterCommit_good s).same .sched rfl
@[simp] theorem State.afterCommit_cores : (s.afterCommit).cores = s.cores := (State.afterCommit_good s).same .cores rfl
@[simp] theorem State.afterCommit_tdm : (s.afterCommit).tdm = s.tdm := (State.afterCommit_good s).same .tdm rfl
@[simp] theorem State.afterCommit_aes : (s.afterCommit).aes = s.aes := (State.afterCommit_good s).same .aes rfl
@[simp] theorem State.afterCommit_aesOut : (s.afterCommit).aesOut = s.aesOut := (State.afterCommit_good s).same .aesOut rfl
@[simp] theorem State.afterCommit_vox : (s.afterCommit).vox = s.vox := (State.afterCommit_good s).same .vox rfl
@[simp] theorem State.afterCommit_asc : (s.afterCommit).asc = s.asc := (State.afterCommit_good s).same .asc rfl
@[simp] theorem State.afterCommit_mics : (s.afterCommit).mics = s.mics := (State.afterCommit_good s).same .mics rfl
@[simp] theorem State.afterCommit_ps : (s.afterCommit).ps = s.ps := (State.afterCommit_good s).same .ps rfl
@[simp] theorem State.afterCommit_tly : (s.afterCommit).tly = s.tly := (State.afterCommit_good s).same .tly rfl
@[simp] theorem State.afterCommit_macs : (s.afterCommit).macs = s.macs := (State.afterCommit_good s).same .macs rfl
@[simp] theorem State.afterCommit_ptp : (s.afterCommit).ptp = s.ptp := (State.afterCommit_good s).same .ptp rfl
@[simp] theorem State.afterCommit_srx : (s.afterCommit).srx = s.srx := (State.afterCommit_good s).same .srx rfl
@[simp] theorem State.afterCommit_stx : (s.afterCommit).stx = s.stx := (State.afterCommit_good s).same .stx rfl
@[simp] theorem State.afterCommit_acts : (s.afterCommit).acts = s.acts := (State.afterCommit_good s).same .acts rfl
@[simp] theorem State.afterCommit_gpio : (s.afterCommit).gpio = s.gpio := (State.afterCommit_good s).same .gpio rfl
@[simp] theorem State.afterCommit_pins : (s.afterCommit).pins = s.pins := (State.afterCommit_good s).same .pins rfl
@[simp] theorem State.afterCommit_owner : (s.afterCommit).owner = s.owner := (State.afterCommit_good s).same .owner rfl
@[simp] theorem State.afterCommit_former : (s.afterCommit).former = s.former := (State.afterCommit_good s).same .former rfl
@[simp] theorem State.afterCommit_devBusy : (s.afterCommit).devBusy = s.devBusy := (State.afterCommit_good s).same .devBusy rfl
@[simp] theorem State.afterCommit_enrol : (s.afterCommit).enrol = s.enrol := (State.afterCommit_good s).same .enrol rfl
@[simp] theorem State.afterCommit_msgs : (s.afterCommit).msgs = s.msgs := (State.afterCommit_good s).same .msgs rfl
@[simp] theorem State.afterCommit_plays : (s.afterCommit).plays = s.plays := (State.afterCommit_good s).same .plays rfl
@[simp] theorem State.afterCommit_fw : (s.afterCommit).fw = s.fw := (State.afterCommit_good s).same .fw rfl
@[simp] theorem State.afterCommit_flash : (s.afterCommit).flash = s.flash := (State.afterCommit_good s).same .flash rfl
@[simp] theorem State.afterCommit_otp : (s.afterCommit).otp = s.otp := (State.afterCommit_good s).same .otp rfl
@[simp] theorem State.afterCommit_maint : (s.afterCommit).maint = s.maint := (State.afterCommit_good s).same .maint rfl
@[simp] theorem State.afterCommit_triggers : (s.afterCommit).triggers = s.triggers := (State.afterCommit_good s).same .triggers rfl
@[simp] theorem State.afterCommit_armed : (s.afterCommit).armed = s.armed := (State.afterCommit_good s).same .armed rfl
@[simp] theorem State.afterCommit_totals : (s.afterCommit).totals = s.totals := (State.afterCommit_good s).same .totals rfl
@[simp] theorem State.afterCommit_totalsAt : (s.afterCommit).totalsAt = s.totalsAt := (State.afterCommit_good s).same .totalsAt rfl
@[simp] theorem State.afterCommit_lib : (s.afterCommit).lib = s.lib := (State.afterCommit_good s).same .lib rfl
@[simp] theorem State.afterCommit_bwt : (s.afterCommit).bwt = s.bwt := (State.afterCommit_good s).same .bwt rfl
@[simp] theorem State.afterCommit_mir : (s.afterCommit).mir = s.mir := (State.afterCommit_good s).same .mir rfl
@[simp] theorem State.afterCommit_cel : (s.afterCommit).cel = s.cel := (State.afterCommit_good s).same .cel rfl
@[simp] theorem State.afterCommit_fab : (s.afterCommit).fab = s.fab := (State.afterCommit_good s).same .fab rfl
@[simp] theorem State.afterCommit_clk : (s.afterCommit).clk = s.clk := (State.afterCommit_good s).same .clk rfl
@[simp] theorem State.afterCommit_sup : (s.afterCommit).sup = s.sup := (State.afterCommit_good s).same .sup rfl
@[simp] theorem State.afterCommit_image : (s.afterCommit).image = s.image := (State.afterCommit_good s).same .image rfl
@[simp] theorem State.afterCommit_pending : (s.afterCommit).pending = s.pending := (State.afterCommit_good s).same .pending rfl

/-! ### State.wrAt -/

@[simp] theorem State.wrAt_live {a1 a2 a3 : _} : (s.wrAt a1 a2 a3).live = s.live := (State.wrAt_good s a1 a2 a3).same .live rfl
@[simp] theorem State.wrAt_liveHist {a1 a2 a3 : _} : (s.wrAt a1 a2 a3).liveHist = s.liveHist := (State.wrAt_good s a1 a2 a3).same .liveHist rfl
@[simp] theorem State.wrAt_tm {a1 a2 a3 : _} : (s.wrAt a1 a2 a3).tm = s.tm := (State.wrAt_good s a1 a2 a3).same .tm rfl
@[simp] theorem State.wrAt_mem {a1 a2 a3 : _} : (s.wrAt a1 a2 a3).mem = s.mem := (State.wrAt_good s a1 a2 a3).same .mem rfl
@[simp] theorem State.wrAt_free {a1 a2 a3 : _} : (s.wrAt a1 a2 a3).free = s.free := (State.wrAt_good s a1 a2 a3).same .free rfl
@[simp] theorem State.wrAt_latches {a1 a2 a3 : _} : (s.wrAt a1 a2 a3).latches = s.latches := (State.wrAt_good s a1 a2 a3).same .latches rfl
@[simp] theorem State.wrAt_straps {a1 a2 a3 : _} : (s.wrAt a1 a2 a3).straps = s.straps := (State.wrAt_good s a1 a2 a3).same .straps rfl
@[simp] theorem State.wrAt_geo {a1 a2 a3 : _} : (s.wrAt a1 a2 a3).geo = s.geo := (State.wrAt_good s a1 a2 a3).same .geo rfl
@[simp] theorem State.wrAt_hst {a1 a2 a3 : _} : (s.wrAt a1 a2 a3).hst = s.hst := (State.wrAt_good s a1 a2 a3).same .hst rfl
@[simp] theorem State.wrAt_mix {a1 a2 a3 : _} : (s.wrAt a1 a2 a3).mix = s.mix := (State.wrAt_good s a1 a2 a3).same .mix rfl
@[simp] theorem State.wrAt_ost {a1 a2 a3 : _} : (s.wrAt a1 a2 a3).ost = s.ost := (State.wrAt_good s a1 a2 a3).same .ost rfl
@[simp] theorem State.wrAt_cores {a1 a2 a3 : _} : (s.wrAt a1 a2 a3).cores = s.cores := (State.wrAt_good s a1 a2 a3).same .cores rfl
@[simp] theorem State.wrAt_tdm {a1 a2 a3 : _} : (s.wrAt a1 a2 a3).tdm = s.tdm := (State.wrAt_good s a1 a2 a3).same .tdm rfl
@[simp] theorem State.wrAt_aes {a1 a2 a3 : _} : (s.wrAt a1 a2 a3).aes = s.aes := (State.wrAt_good s a1 a2 a3).same .aes rfl
@[simp] theorem State.wrAt_aesOut {a1 a2 a3 : _} : (s.wrAt a1 a2 a3).aesOut = s.aesOut := (State.wrAt_good s a1 a2 a3).same .aesOut rfl
@[simp] theorem State.wrAt_vox {a1 a2 a3 : _} : (s.wrAt a1 a2 a3).vox = s.vox := (State.wrAt_good s a1 a2 a3).same .vox rfl
@[simp] theorem State.wrAt_asc {a1 a2 a3 : _} : (s.wrAt a1 a2 a3).asc = s.asc := (State.wrAt_good s a1 a2 a3).same .asc rfl
@[simp] theorem State.wrAt_mics {a1 a2 a3 : _} : (s.wrAt a1 a2 a3).mics = s.mics := (State.wrAt_good s a1 a2 a3).same .mics rfl
@[simp] theorem State.wrAt_bound {a1 a2 a3 : _} : (s.wrAt a1 a2 a3).bound = s.bound := (State.wrAt_good s a1 a2 a3).same .bound rfl
@[simp] theorem State.wrAt_ps {a1 a2 a3 : _} : (s.wrAt a1 a2 a3).ps = s.ps := (State.wrAt_good s a1 a2 a3).same .ps rfl
@[simp] theorem State.wrAt_tly {a1 a2 a3 : _} : (s.wrAt a1 a2 a3).tly = s.tly := (State.wrAt_good s a1 a2 a3).same .tly rfl
@[simp] theorem State.wrAt_macs {a1 a2 a3 : _} : (s.wrAt a1 a2 a3).macs = s.macs := (State.wrAt_good s a1 a2 a3).same .macs rfl
@[simp] theorem State.wrAt_ptp {a1 a2 a3 : _} : (s.wrAt a1 a2 a3).ptp = s.ptp := (State.wrAt_good s a1 a2 a3).same .ptp rfl
@[simp] theorem State.wrAt_srx {a1 a2 a3 : _} : (s.wrAt a1 a2 a3).srx = s.srx := (State.wrAt_good s a1 a2 a3).same .srx rfl
@[simp] theorem State.wrAt_stx {a1 a2 a3 : _} : (s.wrAt a1 a2 a3).stx = s.stx := (State.wrAt_good s a1 a2 a3).same .stx rfl
@[simp] theorem State.wrAt_acts {a1 a2 a3 : _} : (s.wrAt a1 a2 a3).acts = s.acts := (State.wrAt_good s a1 a2 a3).same .acts rfl
@[simp] theorem State.wrAt_gpio {a1 a2 a3 : _} : (s.wrAt a1 a2 a3).gpio = s.gpio := (State.wrAt_good s a1 a2 a3).same .gpio rfl
@[simp] theorem State.wrAt_pins {a1 a2 a3 : _} : (s.wrAt a1 a2 a3).pins = s.pins := (State.wrAt_good s a1 a2 a3).same .pins rfl
@[simp] theorem State.wrAt_sessions {a1 a2 a3 : _} : (s.wrAt a1 a2 a3).sessions = s.sessions := (State.wrAt_good s a1 a2 a3).same .sessions rfl
@[simp] theorem State.wrAt_owner {a1 a2 a3 : _} : (s.wrAt a1 a2 a3).owner = s.owner := (State.wrAt_good s a1 a2 a3).same .owner rfl
@[simp] theorem State.wrAt_former {a1 a2 a3 : _} : (s.wrAt a1 a2 a3).former = s.former := (State.wrAt_good s a1 a2 a3).same .former rfl
@[simp] theorem State.wrAt_ports {a1 a2 a3 : _} : (s.wrAt a1 a2 a3).ports = s.ports := (State.wrAt_good s a1 a2 a3).same .ports rfl
@[simp] theorem State.wrAt_devBusy {a1 a2 a3 : _} : (s.wrAt a1 a2 a3).devBusy = s.devBusy := (State.wrAt_good s a1 a2 a3).same .devBusy rfl
@[simp] theorem State.wrAt_enrol {a1 a2 a3 : _} : (s.wrAt a1 a2 a3).enrol = s.enrol := (State.wrAt_good s a1 a2 a3).same .enrol rfl
@[simp] theorem State.wrAt_msgs {a1 a2 a3 : _} : (s.wrAt a1 a2 a3).msgs = s.msgs := (State.wrAt_good s a1 a2 a3).same .msgs rfl
@[simp] theorem State.wrAt_plays {a1 a2 a3 : _} : (s.wrAt a1 a2 a3).plays = s.plays := (State.wrAt_good s a1 a2 a3).same .plays rfl
@[simp] theorem State.wrAt_fw {a1 a2 a3 : _} : (s.wrAt a1 a2 a3).fw = s.fw := (State.wrAt_good s a1 a2 a3).same .fw rfl
@[simp] theorem State.wrAt_flash {a1 a2 a3 : _} : (s.wrAt a1 a2 a3).flash = s.flash := (State.wrAt_good s a1 a2 a3).same .flash rfl
@[simp] theorem State.wrAt_otp {a1 a2 a3 : _} : (s.wrAt a1 a2 a3).otp = s.otp := (State.wrAt_good s a1 a2 a3).same .otp rfl
@[simp] theorem State.wrAt_maint {a1 a2 a3 : _} : (s.wrAt a1 a2 a3).maint = s.maint := (State.wrAt_good s a1 a2 a3).same .maint rfl
@[simp] theorem State.wrAt_triggers {a1 a2 a3 : _} : (s.wrAt a1 a2 a3).triggers = s.triggers := (State.wrAt_good s a1 a2 a3).same .triggers rfl
@[simp] theorem State.wrAt_armed {a1 a2 a3 : _} : (s.wrAt a1 a2 a3).armed = s.armed := (State.wrAt_good s a1 a2 a3).same .armed rfl
@[simp] theorem State.wrAt_totals {a1 a2 a3 : _} : (s.wrAt a1 a2 a3).totals = s.totals := (State.wrAt_good s a1 a2 a3).same .totals rfl
@[simp] theorem State.wrAt_totalsAt {a1 a2 a3 : _} : (s.wrAt a1 a2 a3).totalsAt = s.totalsAt := (State.wrAt_good s a1 a2 a3).same .totalsAt rfl
@[simp] theorem State.wrAt_lib {a1 a2 a3 : _} : (s.wrAt a1 a2 a3).lib = s.lib := (State.wrAt_good s a1 a2 a3).same .lib rfl
@[simp] theorem State.wrAt_bwt {a1 a2 a3 : _} : (s.wrAt a1 a2 a3).bwt = s.bwt := (State.wrAt_good s a1 a2 a3).same .bwt rfl
@[simp] theorem State.wrAt_mir {a1 a2 a3 : _} : (s.wrAt a1 a2 a3).mir = s.mir := (State.wrAt_good s a1 a2 a3).same .mir rfl
@[simp] theorem State.wrAt_cel {a1 a2 a3 : _} : (s.wrAt a1 a2 a3).cel = s.cel := (State.wrAt_good s a1 a2 a3).same .cel rfl
@[simp] theorem State.wrAt_fab {a1 a2 a3 : _} : (s.wrAt a1 a2 a3).fab = s.fab := (State.wrAt_good s a1 a2 a3).same .fab rfl
@[simp] theorem State.wrAt_clk {a1 a2 a3 : _} : (s.wrAt a1 a2 a3).clk = s.clk := (State.wrAt_good s a1 a2 a3).same .clk rfl
@[simp] theorem State.wrAt_sup {a1 a2 a3 : _} : (s.wrAt a1 a2 a3).sup = s.sup := (State.wrAt_good s a1 a2 a3).same .sup rfl
@[simp] theorem State.wrAt_image {a1 a2 a3 : _} : (s.wrAt a1 a2 a3).image = s.image := (State.wrAt_good s a1 a2 a3).same .image rfl
@[simp] theorem State.wrAt_pending {a1 a2 a3 : _} : (s.wrAt a1 a2 a3).pending = s.pending := (State.wrAt_good s a1 a2 a3).same .pending rfl

/-! ### State.wrNewest -/

@[simp] theorem State.wrNewest_live {a1 a2 a3 : _} : (s.wrNewest a1 a2 a3).live = s.live := (State.wrNewest_good s a1 a2 a3).same .live rfl
@[simp] theorem State.wrNewest_liveHist {a1 a2 a3 : _} : (s.wrNewest a1 a2 a3).liveHist = s.liveHist := (State.wrNewest_good s a1 a2 a3).same .liveHist rfl
@[simp] theorem State.wrNewest_tm {a1 a2 a3 : _} : (s.wrNewest a1 a2 a3).tm = s.tm := (State.wrNewest_good s a1 a2 a3).same .tm rfl
@[simp] theorem State.wrNewest_mem {a1 a2 a3 : _} : (s.wrNewest a1 a2 a3).mem = s.mem := (State.wrNewest_good s a1 a2 a3).same .mem rfl
@[simp] theorem State.wrNewest_free {a1 a2 a3 : _} : (s.wrNewest a1 a2 a3).free = s.free := (State.wrNewest_good s a1 a2 a3).same .free rfl
@[simp] theorem State.wrNewest_latches {a1 a2 a3 : _} : (s.wrNewest a1 a2 a3).latches = s.latches := (State.wrNewest_good s a1 a2 a3).same .latches rfl
@[simp] theorem State.wrNewest_straps {a1 a2 a3 : _} : (s.wrNewest a1 a2 a3).straps = s.straps := (State.wrNewest_good s a1 a2 a3).same .straps rfl
@[simp] theorem State.wrNewest_geo {a1 a2 a3 : _} : (s.wrNewest a1 a2 a3).geo = s.geo := (State.wrNewest_good s a1 a2 a3).same .geo rfl
@[simp] theorem State.wrNewest_hst {a1 a2 a3 : _} : (s.wrNewest a1 a2 a3).hst = s.hst := (State.wrNewest_good s a1 a2 a3).same .hst rfl
@[simp] theorem State.wrNewest_mix {a1 a2 a3 : _} : (s.wrNewest a1 a2 a3).mix = s.mix := (State.wrNewest_good s a1 a2 a3).same .mix rfl
@[simp] theorem State.wrNewest_ost {a1 a2 a3 : _} : (s.wrNewest a1 a2 a3).ost = s.ost := (State.wrNewest_good s a1 a2 a3).same .ost rfl
@[simp] theorem State.wrNewest_cores {a1 a2 a3 : _} : (s.wrNewest a1 a2 a3).cores = s.cores := (State.wrNewest_good s a1 a2 a3).same .cores rfl
@[simp] theorem State.wrNewest_tdm {a1 a2 a3 : _} : (s.wrNewest a1 a2 a3).tdm = s.tdm := (State.wrNewest_good s a1 a2 a3).same .tdm rfl
@[simp] theorem State.wrNewest_aes {a1 a2 a3 : _} : (s.wrNewest a1 a2 a3).aes = s.aes := (State.wrNewest_good s a1 a2 a3).same .aes rfl
@[simp] theorem State.wrNewest_aesOut {a1 a2 a3 : _} : (s.wrNewest a1 a2 a3).aesOut = s.aesOut := (State.wrNewest_good s a1 a2 a3).same .aesOut rfl
@[simp] theorem State.wrNewest_vox {a1 a2 a3 : _} : (s.wrNewest a1 a2 a3).vox = s.vox := (State.wrNewest_good s a1 a2 a3).same .vox rfl
@[simp] theorem State.wrNewest_asc {a1 a2 a3 : _} : (s.wrNewest a1 a2 a3).asc = s.asc := (State.wrNewest_good s a1 a2 a3).same .asc rfl
@[simp] theorem State.wrNewest_mics {a1 a2 a3 : _} : (s.wrNewest a1 a2 a3).mics = s.mics := (State.wrNewest_good s a1 a2 a3).same .mics rfl
@[simp] theorem State.wrNewest_bound {a1 a2 a3 : _} : (s.wrNewest a1 a2 a3).bound = s.bound := (State.wrNewest_good s a1 a2 a3).same .bound rfl
@[simp] theorem State.wrNewest_ps {a1 a2 a3 : _} : (s.wrNewest a1 a2 a3).ps = s.ps := (State.wrNewest_good s a1 a2 a3).same .ps rfl
@[simp] theorem State.wrNewest_tly {a1 a2 a3 : _} : (s.wrNewest a1 a2 a3).tly = s.tly := (State.wrNewest_good s a1 a2 a3).same .tly rfl
@[simp] theorem State.wrNewest_macs {a1 a2 a3 : _} : (s.wrNewest a1 a2 a3).macs = s.macs := (State.wrNewest_good s a1 a2 a3).same .macs rfl
@[simp] theorem State.wrNewest_ptp {a1 a2 a3 : _} : (s.wrNewest a1 a2 a3).ptp = s.ptp := (State.wrNewest_good s a1 a2 a3).same .ptp rfl
@[simp] theorem State.wrNewest_srx {a1 a2 a3 : _} : (s.wrNewest a1 a2 a3).srx = s.srx := (State.wrNewest_good s a1 a2 a3).same .srx rfl
@[simp] theorem State.wrNewest_stx {a1 a2 a3 : _} : (s.wrNewest a1 a2 a3).stx = s.stx := (State.wrNewest_good s a1 a2 a3).same .stx rfl
@[simp] theorem State.wrNewest_acts {a1 a2 a3 : _} : (s.wrNewest a1 a2 a3).acts = s.acts := (State.wrNewest_good s a1 a2 a3).same .acts rfl
@[simp] theorem State.wrNewest_gpio {a1 a2 a3 : _} : (s.wrNewest a1 a2 a3).gpio = s.gpio := (State.wrNewest_good s a1 a2 a3).same .gpio rfl
@[simp] theorem State.wrNewest_pins {a1 a2 a3 : _} : (s.wrNewest a1 a2 a3).pins = s.pins := (State.wrNewest_good s a1 a2 a3).same .pins rfl
@[simp] theorem State.wrNewest_sessions {a1 a2 a3 : _} : (s.wrNewest a1 a2 a3).sessions = s.sessions := (State.wrNewest_good s a1 a2 a3).same .sessions rfl
@[simp] theorem State.wrNewest_owner {a1 a2 a3 : _} : (s.wrNewest a1 a2 a3).owner = s.owner := (State.wrNewest_good s a1 a2 a3).same .owner rfl
@[simp] theorem State.wrNewest_former {a1 a2 a3 : _} : (s.wrNewest a1 a2 a3).former = s.former := (State.wrNewest_good s a1 a2 a3).same .former rfl
@[simp] theorem State.wrNewest_ports {a1 a2 a3 : _} : (s.wrNewest a1 a2 a3).ports = s.ports := (State.wrNewest_good s a1 a2 a3).same .ports rfl
@[simp] theorem State.wrNewest_devBusy {a1 a2 a3 : _} : (s.wrNewest a1 a2 a3).devBusy = s.devBusy := (State.wrNewest_good s a1 a2 a3).same .devBusy rfl
@[simp] theorem State.wrNewest_enrol {a1 a2 a3 : _} : (s.wrNewest a1 a2 a3).enrol = s.enrol := (State.wrNewest_good s a1 a2 a3).same .enrol rfl
@[simp] theorem State.wrNewest_msgs {a1 a2 a3 : _} : (s.wrNewest a1 a2 a3).msgs = s.msgs := (State.wrNewest_good s a1 a2 a3).same .msgs rfl
@[simp] theorem State.wrNewest_plays {a1 a2 a3 : _} : (s.wrNewest a1 a2 a3).plays = s.plays := (State.wrNewest_good s a1 a2 a3).same .plays rfl
@[simp] theorem State.wrNewest_fw {a1 a2 a3 : _} : (s.wrNewest a1 a2 a3).fw = s.fw := (State.wrNewest_good s a1 a2 a3).same .fw rfl
@[simp] theorem State.wrNewest_flash {a1 a2 a3 : _} : (s.wrNewest a1 a2 a3).flash = s.flash := (State.wrNewest_good s a1 a2 a3).same .flash rfl
@[simp] theorem State.wrNewest_otp {a1 a2 a3 : _} : (s.wrNewest a1 a2 a3).otp = s.otp := (State.wrNewest_good s a1 a2 a3).same .otp rfl
@[simp] theorem State.wrNewest_maint {a1 a2 a3 : _} : (s.wrNewest a1 a2 a3).maint = s.maint := (State.wrNewest_good s a1 a2 a3).same .maint rfl
@[simp] theorem State.wrNewest_triggers {a1 a2 a3 : _} : (s.wrNewest a1 a2 a3).triggers = s.triggers := (State.wrNewest_good s a1 a2 a3).same .triggers rfl
@[simp] theorem State.wrNewest_armed {a1 a2 a3 : _} : (s.wrNewest a1 a2 a3).armed = s.armed := (State.wrNewest_good s a1 a2 a3).same .armed rfl
@[simp] theorem State.wrNewest_totals {a1 a2 a3 : _} : (s.wrNewest a1 a2 a3).totals = s.totals := (State.wrNewest_good s a1 a2 a3).same .totals rfl
@[simp] theorem State.wrNewest_totalsAt {a1 a2 a3 : _} : (s.wrNewest a1 a2 a3).totalsAt = s.totalsAt := (State.wrNewest_good s a1 a2 a3).same .totalsAt rfl
@[simp] theorem State.wrNewest_lib {a1 a2 a3 : _} : (s.wrNewest a1 a2 a3).lib = s.lib := (State.wrNewest_good s a1 a2 a3).same .lib rfl
@[simp] theorem State.wrNewest_bwt {a1 a2 a3 : _} : (s.wrNewest a1 a2 a3).bwt = s.bwt := (State.wrNewest_good s a1 a2 a3).same .bwt rfl
@[simp] theorem State.wrNewest_mir {a1 a2 a3 : _} : (s.wrNewest a1 a2 a3).mir = s.mir := (State.wrNewest_good s a1 a2 a3).same .mir rfl
@[simp] theorem State.wrNewest_cel {a1 a2 a3 : _} : (s.wrNewest a1 a2 a3).cel = s.cel := (State.wrNewest_good s a1 a2 a3).same .cel rfl
@[simp] theorem State.wrNewest_fab {a1 a2 a3 : _} : (s.wrNewest a1 a2 a3).fab = s.fab := (State.wrNewest_good s a1 a2 a3).same .fab rfl
@[simp] theorem State.wrNewest_clk {a1 a2 a3 : _} : (s.wrNewest a1 a2 a3).clk = s.clk := (State.wrNewest_good s a1 a2 a3).same .clk rfl
@[simp] theorem State.wrNewest_sup {a1 a2 a3 : _} : (s.wrNewest a1 a2 a3).sup = s.sup := (State.wrNewest_good s a1 a2 a3).same .sup rfl
@[simp] theorem State.wrNewest_image {a1 a2 a3 : _} : (s.wrNewest a1 a2 a3).image = s.image := (State.wrNewest_good s a1 a2 a3).same .image rfl
@[simp] theorem State.wrNewest_pending {a1 a2 a3 : _} : (s.wrNewest a1 a2 a3).pending = s.pending := (State.wrNewest_good s a1 a2 a3).same .pending rfl

/-! ### State.replaceChange -/

@[simp] theorem State.replaceChange_regs {a1 a2 a3 : _} : (s.replaceChange a1 a2 a3).regs = s.regs := (State.replaceChange_good s a1 a2 a3).same .regs rfl
@[simp] theorem State.replaceChange_live {a1 a2 a3 : _} : (s.replaceChange a1 a2 a3).live = s.live := (State.replaceChange_good s a1 a2 a3).same .live rfl
@[simp] theorem State.replaceChange_liveHist {a1 a2 a3 : _} : (s.replaceChange a1 a2 a3).liveHist = s.liveHist := (State.replaceChange_good s a1 a2 a3).same .liveHist rfl
@[simp] theorem State.replaceChange_tm {a1 a2 a3 : _} : (s.replaceChange a1 a2 a3).tm = s.tm := (State.replaceChange_good s a1 a2 a3).same .tm rfl
@[simp] theorem State.replaceChange_mem {a1 a2 a3 : _} : (s.replaceChange a1 a2 a3).mem = s.mem := (State.replaceChange_good s a1 a2 a3).same .mem rfl
@[simp] theorem State.replaceChange_free {a1 a2 a3 : _} : (s.replaceChange a1 a2 a3).free = s.free := (State.replaceChange_good s a1 a2 a3).same .free rfl
@[simp] theorem State.replaceChange_latches {a1 a2 a3 : _} : (s.replaceChange a1 a2 a3).latches = s.latches := (State.replaceChange_good s a1 a2 a3).same .latches rfl
@[simp] theorem State.replaceChange_straps {a1 a2 a3 : _} : (s.replaceChange a1 a2 a3).straps = s.straps := (State.replaceChange_good s a1 a2 a3).same .straps rfl
@[simp] theorem State.replaceChange_geo {a1 a2 a3 : _} : (s.replaceChange a1 a2 a3).geo = s.geo := (State.replaceChange_good s a1 a2 a3).same .geo rfl
@[simp] theorem State.replaceChange_hst {a1 a2 a3 : _} : (s.replaceChange a1 a2 a3).hst = s.hst := (State.replaceChange_good s a1 a2 a3).same .hst rfl
@[simp] theorem State.replaceChange_mix {a1 a2 a3 : _} : (s.replaceChange a1 a2 a3).mix = s.mix := (State.replaceChange_good s a1 a2 a3).same .mix rfl
@[simp] theorem State.replaceChange_ost {a1 a2 a3 : _} : (s.replaceChange a1 a2 a3).ost = s.ost := (State.replaceChange_good s a1 a2 a3).same .ost rfl
@[simp] theorem State.replaceChange_cores {a1 a2 a3 : _} : (s.replaceChange a1 a2 a3).cores = s.cores := (State.replaceChange_good s a1 a2 a3).same .cores rfl
@[simp] theorem State.replaceChange_tdm {a1 a2 a3 : _} : (s.replaceChange a1 a2 a3).tdm = s.tdm := (State.replaceChange_good s a1 a2 a3).same .tdm rfl
@[simp] theorem State.replaceChange_aes {a1 a2 a3 : _} : (s.replaceChange a1 a2 a3).aes = s.aes := (State.replaceChange_good s a1 a2 a3).same .aes rfl
@[simp] theorem State.replaceChange_aesOut {a1 a2 a3 : _} : (s.replaceChange a1 a2 a3).aesOut = s.aesOut := (State.replaceChange_good s a1 a2 a3).same .aesOut rfl
@[simp] theorem State.replaceChange_vox {a1 a2 a3 : _} : (s.replaceChange a1 a2 a3).vox = s.vox := (State.replaceChange_good s a1 a2 a3).same .vox rfl
@[simp] theorem State.replaceChange_asc {a1 a2 a3 : _} : (s.replaceChange a1 a2 a3).asc = s.asc := (State.replaceChange_good s a1 a2 a3).same .asc rfl
@[simp] theorem State.replaceChange_mics {a1 a2 a3 : _} : (s.replaceChange a1 a2 a3).mics = s.mics := (State.replaceChange_good s a1 a2 a3).same .mics rfl
@[simp] theorem State.replaceChange_bound {a1 a2 a3 : _} : (s.replaceChange a1 a2 a3).bound = s.bound := (State.replaceChange_good s a1 a2 a3).same .bound rfl
@[simp] theorem State.replaceChange_ps {a1 a2 a3 : _} : (s.replaceChange a1 a2 a3).ps = s.ps := (State.replaceChange_good s a1 a2 a3).same .ps rfl
@[simp] theorem State.replaceChange_tly {a1 a2 a3 : _} : (s.replaceChange a1 a2 a3).tly = s.tly := (State.replaceChange_good s a1 a2 a3).same .tly rfl
@[simp] theorem State.replaceChange_macs {a1 a2 a3 : _} : (s.replaceChange a1 a2 a3).macs = s.macs := (State.replaceChange_good s a1 a2 a3).same .macs rfl
@[simp] theorem State.replaceChange_ptp {a1 a2 a3 : _} : (s.replaceChange a1 a2 a3).ptp = s.ptp := (State.replaceChange_good s a1 a2 a3).same .ptp rfl
@[simp] theorem State.replaceChange_srx {a1 a2 a3 : _} : (s.replaceChange a1 a2 a3).srx = s.srx := (State.replaceChange_good s a1 a2 a3).same .srx rfl
@[simp] theorem State.replaceChange_stx {a1 a2 a3 : _} : (s.replaceChange a1 a2 a3).stx = s.stx := (State.replaceChange_good s a1 a2 a3).same .stx rfl
@[simp] theorem State.replaceChange_acts {a1 a2 a3 : _} : (s.replaceChange a1 a2 a3).acts = s.acts := (State.replaceChange_good s a1 a2 a3).same .acts rfl
@[simp] theorem State.replaceChange_gpio {a1 a2 a3 : _} : (s.replaceChange a1 a2 a3).gpio = s.gpio := (State.replaceChange_good s a1 a2 a3).same .gpio rfl
@[simp] theorem State.replaceChange_pins {a1 a2 a3 : _} : (s.replaceChange a1 a2 a3).pins = s.pins := (State.replaceChange_good s a1 a2 a3).same .pins rfl
@[simp] theorem State.replaceChange_sessions {a1 a2 a3 : _} : (s.replaceChange a1 a2 a3).sessions = s.sessions := (State.replaceChange_good s a1 a2 a3).same .sessions rfl
@[simp] theorem State.replaceChange_owner {a1 a2 a3 : _} : (s.replaceChange a1 a2 a3).owner = s.owner := (State.replaceChange_good s a1 a2 a3).same .owner rfl
@[simp] theorem State.replaceChange_former {a1 a2 a3 : _} : (s.replaceChange a1 a2 a3).former = s.former := (State.replaceChange_good s a1 a2 a3).same .former rfl
@[simp] theorem State.replaceChange_ports {a1 a2 a3 : _} : (s.replaceChange a1 a2 a3).ports = s.ports := (State.replaceChange_good s a1 a2 a3).same .ports rfl
@[simp] theorem State.replaceChange_devBusy {a1 a2 a3 : _} : (s.replaceChange a1 a2 a3).devBusy = s.devBusy := (State.replaceChange_good s a1 a2 a3).same .devBusy rfl
@[simp] theorem State.replaceChange_enrol {a1 a2 a3 : _} : (s.replaceChange a1 a2 a3).enrol = s.enrol := (State.replaceChange_good s a1 a2 a3).same .enrol rfl
@[simp] theorem State.replaceChange_msgs {a1 a2 a3 : _} : (s.replaceChange a1 a2 a3).msgs = s.msgs := (State.replaceChange_good s a1 a2 a3).same .msgs rfl
@[simp] theorem State.replaceChange_plays {a1 a2 a3 : _} : (s.replaceChange a1 a2 a3).plays = s.plays := (State.replaceChange_good s a1 a2 a3).same .plays rfl
@[simp] theorem State.replaceChange_fw {a1 a2 a3 : _} : (s.replaceChange a1 a2 a3).fw = s.fw := (State.replaceChange_good s a1 a2 a3).same .fw rfl
@[simp] theorem State.replaceChange_flash {a1 a2 a3 : _} : (s.replaceChange a1 a2 a3).flash = s.flash := (State.replaceChange_good s a1 a2 a3).same .flash rfl
@[simp] theorem State.replaceChange_otp {a1 a2 a3 : _} : (s.replaceChange a1 a2 a3).otp = s.otp := (State.replaceChange_good s a1 a2 a3).same .otp rfl
@[simp] theorem State.replaceChange_maint {a1 a2 a3 : _} : (s.replaceChange a1 a2 a3).maint = s.maint := (State.replaceChange_good s a1 a2 a3).same .maint rfl
@[simp] theorem State.replaceChange_triggers {a1 a2 a3 : _} : (s.replaceChange a1 a2 a3).triggers = s.triggers := (State.replaceChange_good s a1 a2 a3).same .triggers rfl
@[simp] theorem State.replaceChange_armed {a1 a2 a3 : _} : (s.replaceChange a1 a2 a3).armed = s.armed := (State.replaceChange_good s a1 a2 a3).same .armed rfl
@[simp] theorem State.replaceChange_totals {a1 a2 a3 : _} : (s.replaceChange a1 a2 a3).totals = s.totals := (State.replaceChange_good s a1 a2 a3).same .totals rfl
@[simp] theorem State.replaceChange_totalsAt {a1 a2 a3 : _} : (s.replaceChange a1 a2 a3).totalsAt = s.totalsAt := (State.replaceChange_good s a1 a2 a3).same .totalsAt rfl
@[simp] theorem State.replaceChange_lib {a1 a2 a3 : _} : (s.replaceChange a1 a2 a3).lib = s.lib := (State.replaceChange_good s a1 a2 a3).same .lib rfl
@[simp] theorem State.replaceChange_bwt {a1 a2 a3 : _} : (s.replaceChange a1 a2 a3).bwt = s.bwt := (State.replaceChange_good s a1 a2 a3).same .bwt rfl
@[simp] theorem State.replaceChange_mir {a1 a2 a3 : _} : (s.replaceChange a1 a2 a3).mir = s.mir := (State.replaceChange_good s a1 a2 a3).same .mir rfl
@[simp] theorem State.replaceChange_cel {a1 a2 a3 : _} : (s.replaceChange a1 a2 a3).cel = s.cel := (State.replaceChange_good s a1 a2 a3).same .cel rfl
@[simp] theorem State.replaceChange_fab {a1 a2 a3 : _} : (s.replaceChange a1 a2 a3).fab = s.fab := (State.replaceChange_good s a1 a2 a3).same .fab rfl
@[simp] theorem State.replaceChange_clk {a1 a2 a3 : _} : (s.replaceChange a1 a2 a3).clk = s.clk := (State.replaceChange_good s a1 a2 a3).same .clk rfl
@[simp] theorem State.replaceChange_sup {a1 a2 a3 : _} : (s.replaceChange a1 a2 a3).sup = s.sup := (State.replaceChange_good s a1 a2 a3).same .sup rfl
@[simp] theorem State.replaceChange_image {a1 a2 a3 : _} : (s.replaceChange a1 a2 a3).image = s.image := (State.replaceChange_good s a1 a2 a3).same .image rfl
@[simp] theorem State.replaceChange_pending {a1 a2 a3 : _} : (s.replaceChange a1 a2 a3).pending = s.pending := (State.replaceChange_good s a1 a2 a3).same .pending rfl
@[simp] theorem State.word_replaceChange {f : Fld} {a1 a2 a3 : _} : (s.replaceChange a1 a2 a3).word f = s.word f := State.word_congr ((State.replaceChange_good s a1 a2 a3).same .regs rfl) ((State.replaceChange_good s a1 a2 a3).same .straps rfl)
@[simp] theorem State.rd_replaceChange {f : Fld} {a1 a2 a3 : _} : (s.replaceChange a1 a2 a3).rd f = s.rd f := State.rd_congr ((State.replaceChange_good s a1 a2 a3).same .regs rfl) ((State.replaceChange_good s a1 a2 a3).same .straps rfl)
@[simp] theorem State.on_replaceChange {f : Fld} {a1 a2 a3 : _} : (s.replaceChange a1 a2 a3).on f = s.on f := State.on_congr ((State.replaceChange_good s a1 a2 a3).same .regs rfl) ((State.replaceChange_good s a1 a2 a3).same .straps rfl)

/-! ### State.regAt -/

@[simp] theorem State.regAt_regs {a1 a2 a3 : _} : (s.regAt a1 a2 a3).regs = s.regs := (State.regAt_good s a1 a2 a3).same .regs rfl
@[simp] theorem State.regAt_live {a1 a2 a3 : _} : (s.regAt a1 a2 a3).live = s.live := (State.regAt_good s a1 a2 a3).same .live rfl
@[simp] theorem State.regAt_liveHist {a1 a2 a3 : _} : (s.regAt a1 a2 a3).liveHist = s.liveHist := (State.regAt_good s a1 a2 a3).same .liveHist rfl
@[simp] theorem State.regAt_tm {a1 a2 a3 : _} : (s.regAt a1 a2 a3).tm = s.tm := (State.regAt_good s a1 a2 a3).same .tm rfl
@[simp] theorem State.regAt_mem {a1 a2 a3 : _} : (s.regAt a1 a2 a3).mem = s.mem := (State.regAt_good s a1 a2 a3).same .mem rfl
@[simp] theorem State.regAt_free {a1 a2 a3 : _} : (s.regAt a1 a2 a3).free = s.free := (State.regAt_good s a1 a2 a3).same .free rfl
@[simp] theorem State.regAt_latches {a1 a2 a3 : _} : (s.regAt a1 a2 a3).latches = s.latches := (State.regAt_good s a1 a2 a3).same .latches rfl
@[simp] theorem State.regAt_straps {a1 a2 a3 : _} : (s.regAt a1 a2 a3).straps = s.straps := (State.regAt_good s a1 a2 a3).same .straps rfl
@[simp] theorem State.regAt_geo {a1 a2 a3 : _} : (s.regAt a1 a2 a3).geo = s.geo := (State.regAt_good s a1 a2 a3).same .geo rfl
@[simp] theorem State.regAt_hst {a1 a2 a3 : _} : (s.regAt a1 a2 a3).hst = s.hst := (State.regAt_good s a1 a2 a3).same .hst rfl
@[simp] theorem State.regAt_mix {a1 a2 a3 : _} : (s.regAt a1 a2 a3).mix = s.mix := (State.regAt_good s a1 a2 a3).same .mix rfl
@[simp] theorem State.regAt_ost {a1 a2 a3 : _} : (s.regAt a1 a2 a3).ost = s.ost := (State.regAt_good s a1 a2 a3).same .ost rfl
@[simp] theorem State.regAt_cores {a1 a2 a3 : _} : (s.regAt a1 a2 a3).cores = s.cores := (State.regAt_good s a1 a2 a3).same .cores rfl
@[simp] theorem State.regAt_tdm {a1 a2 a3 : _} : (s.regAt a1 a2 a3).tdm = s.tdm := (State.regAt_good s a1 a2 a3).same .tdm rfl
@[simp] theorem State.regAt_aes {a1 a2 a3 : _} : (s.regAt a1 a2 a3).aes = s.aes := (State.regAt_good s a1 a2 a3).same .aes rfl
@[simp] theorem State.regAt_aesOut {a1 a2 a3 : _} : (s.regAt a1 a2 a3).aesOut = s.aesOut := (State.regAt_good s a1 a2 a3).same .aesOut rfl
@[simp] theorem State.regAt_vox {a1 a2 a3 : _} : (s.regAt a1 a2 a3).vox = s.vox := (State.regAt_good s a1 a2 a3).same .vox rfl
@[simp] theorem State.regAt_asc {a1 a2 a3 : _} : (s.regAt a1 a2 a3).asc = s.asc := (State.regAt_good s a1 a2 a3).same .asc rfl
@[simp] theorem State.regAt_mics {a1 a2 a3 : _} : (s.regAt a1 a2 a3).mics = s.mics := (State.regAt_good s a1 a2 a3).same .mics rfl
@[simp] theorem State.regAt_bound {a1 a2 a3 : _} : (s.regAt a1 a2 a3).bound = s.bound := (State.regAt_good s a1 a2 a3).same .bound rfl
@[simp] theorem State.regAt_ps {a1 a2 a3 : _} : (s.regAt a1 a2 a3).ps = s.ps := (State.regAt_good s a1 a2 a3).same .ps rfl
@[simp] theorem State.regAt_tly {a1 a2 a3 : _} : (s.regAt a1 a2 a3).tly = s.tly := (State.regAt_good s a1 a2 a3).same .tly rfl
@[simp] theorem State.regAt_macs {a1 a2 a3 : _} : (s.regAt a1 a2 a3).macs = s.macs := (State.regAt_good s a1 a2 a3).same .macs rfl
@[simp] theorem State.regAt_ptp {a1 a2 a3 : _} : (s.regAt a1 a2 a3).ptp = s.ptp := (State.regAt_good s a1 a2 a3).same .ptp rfl
@[simp] theorem State.regAt_srx {a1 a2 a3 : _} : (s.regAt a1 a2 a3).srx = s.srx := (State.regAt_good s a1 a2 a3).same .srx rfl
@[simp] theorem State.regAt_stx {a1 a2 a3 : _} : (s.regAt a1 a2 a3).stx = s.stx := (State.regAt_good s a1 a2 a3).same .stx rfl
@[simp] theorem State.regAt_acts {a1 a2 a3 : _} : (s.regAt a1 a2 a3).acts = s.acts := (State.regAt_good s a1 a2 a3).same .acts rfl
@[simp] theorem State.regAt_gpio {a1 a2 a3 : _} : (s.regAt a1 a2 a3).gpio = s.gpio := (State.regAt_good s a1 a2 a3).same .gpio rfl
@[simp] theorem State.regAt_pins {a1 a2 a3 : _} : (s.regAt a1 a2 a3).pins = s.pins := (State.regAt_good s a1 a2 a3).same .pins rfl
@[simp] theorem State.regAt_sessions {a1 a2 a3 : _} : (s.regAt a1 a2 a3).sessions = s.sessions := (State.regAt_good s a1 a2 a3).same .sessions rfl
@[simp] theorem State.regAt_owner {a1 a2 a3 : _} : (s.regAt a1 a2 a3).owner = s.owner := (State.regAt_good s a1 a2 a3).same .owner rfl
@[simp] theorem State.regAt_former {a1 a2 a3 : _} : (s.regAt a1 a2 a3).former = s.former := (State.regAt_good s a1 a2 a3).same .former rfl
@[simp] theorem State.regAt_ports {a1 a2 a3 : _} : (s.regAt a1 a2 a3).ports = s.ports := (State.regAt_good s a1 a2 a3).same .ports rfl
@[simp] theorem State.regAt_devBusy {a1 a2 a3 : _} : (s.regAt a1 a2 a3).devBusy = s.devBusy := (State.regAt_good s a1 a2 a3).same .devBusy rfl
@[simp] theorem State.regAt_enrol {a1 a2 a3 : _} : (s.regAt a1 a2 a3).enrol = s.enrol := (State.regAt_good s a1 a2 a3).same .enrol rfl
@[simp] theorem State.regAt_msgs {a1 a2 a3 : _} : (s.regAt a1 a2 a3).msgs = s.msgs := (State.regAt_good s a1 a2 a3).same .msgs rfl
@[simp] theorem State.regAt_plays {a1 a2 a3 : _} : (s.regAt a1 a2 a3).plays = s.plays := (State.regAt_good s a1 a2 a3).same .plays rfl
@[simp] theorem State.regAt_fw {a1 a2 a3 : _} : (s.regAt a1 a2 a3).fw = s.fw := (State.regAt_good s a1 a2 a3).same .fw rfl
@[simp] theorem State.regAt_flash {a1 a2 a3 : _} : (s.regAt a1 a2 a3).flash = s.flash := (State.regAt_good s a1 a2 a3).same .flash rfl
@[simp] theorem State.regAt_otp {a1 a2 a3 : _} : (s.regAt a1 a2 a3).otp = s.otp := (State.regAt_good s a1 a2 a3).same .otp rfl
@[simp] theorem State.regAt_maint {a1 a2 a3 : _} : (s.regAt a1 a2 a3).maint = s.maint := (State.regAt_good s a1 a2 a3).same .maint rfl
@[simp] theorem State.regAt_triggers {a1 a2 a3 : _} : (s.regAt a1 a2 a3).triggers = s.triggers := (State.regAt_good s a1 a2 a3).same .triggers rfl
@[simp] theorem State.regAt_armed {a1 a2 a3 : _} : (s.regAt a1 a2 a3).armed = s.armed := (State.regAt_good s a1 a2 a3).same .armed rfl
@[simp] theorem State.regAt_totals {a1 a2 a3 : _} : (s.regAt a1 a2 a3).totals = s.totals := (State.regAt_good s a1 a2 a3).same .totals rfl
@[simp] theorem State.regAt_totalsAt {a1 a2 a3 : _} : (s.regAt a1 a2 a3).totalsAt = s.totalsAt := (State.regAt_good s a1 a2 a3).same .totalsAt rfl
@[simp] theorem State.regAt_lib {a1 a2 a3 : _} : (s.regAt a1 a2 a3).lib = s.lib := (State.regAt_good s a1 a2 a3).same .lib rfl
@[simp] theorem State.regAt_bwt {a1 a2 a3 : _} : (s.regAt a1 a2 a3).bwt = s.bwt := (State.regAt_good s a1 a2 a3).same .bwt rfl
@[simp] theorem State.regAt_mir {a1 a2 a3 : _} : (s.regAt a1 a2 a3).mir = s.mir := (State.regAt_good s a1 a2 a3).same .mir rfl
@[simp] theorem State.regAt_cel {a1 a2 a3 : _} : (s.regAt a1 a2 a3).cel = s.cel := (State.regAt_good s a1 a2 a3).same .cel rfl
@[simp] theorem State.regAt_fab {a1 a2 a3 : _} : (s.regAt a1 a2 a3).fab = s.fab := (State.regAt_good s a1 a2 a3).same .fab rfl
@[simp] theorem State.regAt_clk {a1 a2 a3 : _} : (s.regAt a1 a2 a3).clk = s.clk := (State.regAt_good s a1 a2 a3).same .clk rfl
@[simp] theorem State.regAt_sup {a1 a2 a3 : _} : (s.regAt a1 a2 a3).sup = s.sup := (State.regAt_good s a1 a2 a3).same .sup rfl
@[simp] theorem State.regAt_image {a1 a2 a3 : _} : (s.regAt a1 a2 a3).image = s.image := (State.regAt_good s a1 a2 a3).same .image rfl
@[simp] theorem State.regAt_pending {a1 a2 a3 : _} : (s.regAt a1 a2 a3).pending = s.pending := (State.regAt_good s a1 a2 a3).same .pending rfl
@[simp] theorem State.word_regAt {f : Fld} {a1 a2 a3 : _} : (s.regAt a1 a2 a3).word f = s.word f := State.word_congr ((State.regAt_good s a1 a2 a3).same .regs rfl) ((State.regAt_good s a1 a2 a3).same .straps rfl)
@[simp] theorem State.rd_regAt {f : Fld} {a1 a2 a3 : _} : (s.regAt a1 a2 a3).rd f = s.rd f := State.rd_congr ((State.regAt_good s a1 a2 a3).same .regs rfl) ((State.regAt_good s a1 a2 a3).same .straps rfl)
@[simp] theorem State.on_regAt {f : Fld} {a1 a2 a3 : _} : (s.regAt a1 a2 a3).on f = s.on f := State.on_congr ((State.regAt_good s a1 a2 a3).same .regs rfl) ((State.regAt_good s a1 a2 a3).same .straps rfl)

/-! ### State.sendGain -/

@[simp] theorem State.sendGain_live {a1 a2 a3 a4 a5 : _} : (s.sendGain a1 a2 a3 a4 a5).live = s.live := (State.sendGain_good s a1 a2 a3 a4 a5).same .live rfl
@[simp] theorem State.sendGain_liveHist {a1 a2 a3 a4 a5 : _} : (s.sendGain a1 a2 a3 a4 a5).liveHist = s.liveHist := (State.sendGain_good s a1 a2 a3 a4 a5).same .liveHist rfl
@[simp] theorem State.sendGain_tm {a1 a2 a3 a4 a5 : _} : (s.sendGain a1 a2 a3 a4 a5).tm = s.tm := (State.sendGain_good s a1 a2 a3 a4 a5).same .tm rfl
@[simp] theorem State.sendGain_mem {a1 a2 a3 a4 a5 : _} : (s.sendGain a1 a2 a3 a4 a5).mem = s.mem := (State.sendGain_good s a1 a2 a3 a4 a5).same .mem rfl
@[simp] theorem State.sendGain_free {a1 a2 a3 a4 a5 : _} : (s.sendGain a1 a2 a3 a4 a5).free = s.free := (State.sendGain_good s a1 a2 a3 a4 a5).same .free rfl
@[simp] theorem State.sendGain_latches {a1 a2 a3 a4 a5 : _} : (s.sendGain a1 a2 a3 a4 a5).latches = s.latches := (State.sendGain_good s a1 a2 a3 a4 a5).same .latches rfl
@[simp] theorem State.sendGain_straps {a1 a2 a3 a4 a5 : _} : (s.sendGain a1 a2 a3 a4 a5).straps = s.straps := (State.sendGain_good s a1 a2 a3 a4 a5).same .straps rfl
@[simp] theorem State.sendGain_geo {a1 a2 a3 a4 a5 : _} : (s.sendGain a1 a2 a3 a4 a5).geo = s.geo := (State.sendGain_good s a1 a2 a3 a4 a5).same .geo rfl
@[simp] theorem State.sendGain_hst {a1 a2 a3 a4 a5 : _} : (s.sendGain a1 a2 a3 a4 a5).hst = s.hst := (State.sendGain_good s a1 a2 a3 a4 a5).same .hst rfl
@[simp] theorem State.sendGain_mix {a1 a2 a3 a4 a5 : _} : (s.sendGain a1 a2 a3 a4 a5).mix = s.mix := (State.sendGain_good s a1 a2 a3 a4 a5).same .mix rfl
@[simp] theorem State.sendGain_ost {a1 a2 a3 a4 a5 : _} : (s.sendGain a1 a2 a3 a4 a5).ost = s.ost := (State.sendGain_good s a1 a2 a3 a4 a5).same .ost rfl
@[simp] theorem State.sendGain_cores {a1 a2 a3 a4 a5 : _} : (s.sendGain a1 a2 a3 a4 a5).cores = s.cores := (State.sendGain_good s a1 a2 a3 a4 a5).same .cores rfl
@[simp] theorem State.sendGain_tdm {a1 a2 a3 a4 a5 : _} : (s.sendGain a1 a2 a3 a4 a5).tdm = s.tdm := (State.sendGain_good s a1 a2 a3 a4 a5).same .tdm rfl
@[simp] theorem State.sendGain_aes {a1 a2 a3 a4 a5 : _} : (s.sendGain a1 a2 a3 a4 a5).aes = s.aes := (State.sendGain_good s a1 a2 a3 a4 a5).same .aes rfl
@[simp] theorem State.sendGain_aesOut {a1 a2 a3 a4 a5 : _} : (s.sendGain a1 a2 a3 a4 a5).aesOut = s.aesOut := (State.sendGain_good s a1 a2 a3 a4 a5).same .aesOut rfl
@[simp] theorem State.sendGain_vox {a1 a2 a3 a4 a5 : _} : (s.sendGain a1 a2 a3 a4 a5).vox = s.vox := (State.sendGain_good s a1 a2 a3 a4 a5).same .vox rfl
@[simp] theorem State.sendGain_asc {a1 a2 a3 a4 a5 : _} : (s.sendGain a1 a2 a3 a4 a5).asc = s.asc := (State.sendGain_good s a1 a2 a3 a4 a5).same .asc rfl
@[simp] theorem State.sendGain_mics {a1 a2 a3 a4 a5 : _} : (s.sendGain a1 a2 a3 a4 a5).mics = s.mics := (State.sendGain_good s a1 a2 a3 a4 a5).same .mics rfl
@[simp] theorem State.sendGain_bound {a1 a2 a3 a4 a5 : _} : (s.sendGain a1 a2 a3 a4 a5).bound = s.bound := (State.sendGain_good s a1 a2 a3 a4 a5).same .bound rfl
@[simp] theorem State.sendGain_ps {a1 a2 a3 a4 a5 : _} : (s.sendGain a1 a2 a3 a4 a5).ps = s.ps := (State.sendGain_good s a1 a2 a3 a4 a5).same .ps rfl
@[simp] theorem State.sendGain_tly {a1 a2 a3 a4 a5 : _} : (s.sendGain a1 a2 a3 a4 a5).tly = s.tly := (State.sendGain_good s a1 a2 a3 a4 a5).same .tly rfl
@[simp] theorem State.sendGain_macs {a1 a2 a3 a4 a5 : _} : (s.sendGain a1 a2 a3 a4 a5).macs = s.macs := (State.sendGain_good s a1 a2 a3 a4 a5).same .macs rfl
@[simp] theorem State.sendGain_ptp {a1 a2 a3 a4 a5 : _} : (s.sendGain a1 a2 a3 a4 a5).ptp = s.ptp := (State.sendGain_good s a1 a2 a3 a4 a5).same .ptp rfl
@[simp] theorem State.sendGain_srx {a1 a2 a3 a4 a5 : _} : (s.sendGain a1 a2 a3 a4 a5).srx = s.srx := (State.sendGain_good s a1 a2 a3 a4 a5).same .srx rfl
@[simp] theorem State.sendGain_stx {a1 a2 a3 a4 a5 : _} : (s.sendGain a1 a2 a3 a4 a5).stx = s.stx := (State.sendGain_good s a1 a2 a3 a4 a5).same .stx rfl
@[simp] theorem State.sendGain_acts {a1 a2 a3 a4 a5 : _} : (s.sendGain a1 a2 a3 a4 a5).acts = s.acts := (State.sendGain_good s a1 a2 a3 a4 a5).same .acts rfl
@[simp] theorem State.sendGain_gpio {a1 a2 a3 a4 a5 : _} : (s.sendGain a1 a2 a3 a4 a5).gpio = s.gpio := (State.sendGain_good s a1 a2 a3 a4 a5).same .gpio rfl
@[simp] theorem State.sendGain_pins {a1 a2 a3 a4 a5 : _} : (s.sendGain a1 a2 a3 a4 a5).pins = s.pins := (State.sendGain_good s a1 a2 a3 a4 a5).same .pins rfl
@[simp] theorem State.sendGain_sessions {a1 a2 a3 a4 a5 : _} : (s.sendGain a1 a2 a3 a4 a5).sessions = s.sessions := (State.sendGain_good s a1 a2 a3 a4 a5).same .sessions rfl
@[simp] theorem State.sendGain_owner {a1 a2 a3 a4 a5 : _} : (s.sendGain a1 a2 a3 a4 a5).owner = s.owner := (State.sendGain_good s a1 a2 a3 a4 a5).same .owner rfl
@[simp] theorem State.sendGain_former {a1 a2 a3 a4 a5 : _} : (s.sendGain a1 a2 a3 a4 a5).former = s.former := (State.sendGain_good s a1 a2 a3 a4 a5).same .former rfl
@[simp] theorem State.sendGain_ports {a1 a2 a3 a4 a5 : _} : (s.sendGain a1 a2 a3 a4 a5).ports = s.ports := (State.sendGain_good s a1 a2 a3 a4 a5).same .ports rfl
@[simp] theorem State.sendGain_devBusy {a1 a2 a3 a4 a5 : _} : (s.sendGain a1 a2 a3 a4 a5).devBusy = s.devBusy := (State.sendGain_good s a1 a2 a3 a4 a5).same .devBusy rfl
@[simp] theorem State.sendGain_enrol {a1 a2 a3 a4 a5 : _} : (s.sendGain a1 a2 a3 a4 a5).enrol = s.enrol := (State.sendGain_good s a1 a2 a3 a4 a5).same .enrol rfl
@[simp] theorem State.sendGain_msgs {a1 a2 a3 a4 a5 : _} : (s.sendGain a1 a2 a3 a4 a5).msgs = s.msgs := (State.sendGain_good s a1 a2 a3 a4 a5).same .msgs rfl
@[simp] theorem State.sendGain_plays {a1 a2 a3 a4 a5 : _} : (s.sendGain a1 a2 a3 a4 a5).plays = s.plays := (State.sendGain_good s a1 a2 a3 a4 a5).same .plays rfl
@[simp] theorem State.sendGain_fw {a1 a2 a3 a4 a5 : _} : (s.sendGain a1 a2 a3 a4 a5).fw = s.fw := (State.sendGain_good s a1 a2 a3 a4 a5).same .fw rfl
@[simp] theorem State.sendGain_flash {a1 a2 a3 a4 a5 : _} : (s.sendGain a1 a2 a3 a4 a5).flash = s.flash := (State.sendGain_good s a1 a2 a3 a4 a5).same .flash rfl
@[simp] theorem State.sendGain_otp {a1 a2 a3 a4 a5 : _} : (s.sendGain a1 a2 a3 a4 a5).otp = s.otp := (State.sendGain_good s a1 a2 a3 a4 a5).same .otp rfl
@[simp] theorem State.sendGain_maint {a1 a2 a3 a4 a5 : _} : (s.sendGain a1 a2 a3 a4 a5).maint = s.maint := (State.sendGain_good s a1 a2 a3 a4 a5).same .maint rfl
@[simp] theorem State.sendGain_triggers {a1 a2 a3 a4 a5 : _} : (s.sendGain a1 a2 a3 a4 a5).triggers = s.triggers := (State.sendGain_good s a1 a2 a3 a4 a5).same .triggers rfl
@[simp] theorem State.sendGain_armed {a1 a2 a3 a4 a5 : _} : (s.sendGain a1 a2 a3 a4 a5).armed = s.armed := (State.sendGain_good s a1 a2 a3 a4 a5).same .armed rfl
@[simp] theorem State.sendGain_totals {a1 a2 a3 a4 a5 : _} : (s.sendGain a1 a2 a3 a4 a5).totals = s.totals := (State.sendGain_good s a1 a2 a3 a4 a5).same .totals rfl
@[simp] theorem State.sendGain_totalsAt {a1 a2 a3 a4 a5 : _} : (s.sendGain a1 a2 a3 a4 a5).totalsAt = s.totalsAt := (State.sendGain_good s a1 a2 a3 a4 a5).same .totalsAt rfl
@[simp] theorem State.sendGain_lib {a1 a2 a3 a4 a5 : _} : (s.sendGain a1 a2 a3 a4 a5).lib = s.lib := (State.sendGain_good s a1 a2 a3 a4 a5).same .lib rfl
@[simp] theorem State.sendGain_bwt {a1 a2 a3 a4 a5 : _} : (s.sendGain a1 a2 a3 a4 a5).bwt = s.bwt := (State.sendGain_good s a1 a2 a3 a4 a5).same .bwt rfl
@[simp] theorem State.sendGain_mir {a1 a2 a3 a4 a5 : _} : (s.sendGain a1 a2 a3 a4 a5).mir = s.mir := (State.sendGain_good s a1 a2 a3 a4 a5).same .mir rfl
@[simp] theorem State.sendGain_cel {a1 a2 a3 a4 a5 : _} : (s.sendGain a1 a2 a3 a4 a5).cel = s.cel := (State.sendGain_good s a1 a2 a3 a4 a5).same .cel rfl
@[simp] theorem State.sendGain_fab {a1 a2 a3 a4 a5 : _} : (s.sendGain a1 a2 a3 a4 a5).fab = s.fab := (State.sendGain_good s a1 a2 a3 a4 a5).same .fab rfl
@[simp] theorem State.sendGain_clk {a1 a2 a3 a4 a5 : _} : (s.sendGain a1 a2 a3 a4 a5).clk = s.clk := (State.sendGain_good s a1 a2 a3 a4 a5).same .clk rfl
@[simp] theorem State.sendGain_sup {a1 a2 a3 a4 a5 : _} : (s.sendGain a1 a2 a3 a4 a5).sup = s.sup := (State.sendGain_good s a1 a2 a3 a4 a5).same .sup rfl
@[simp] theorem State.sendGain_image {a1 a2 a3 a4 a5 : _} : (s.sendGain a1 a2 a3 a4 a5).image = s.image := (State.sendGain_good s a1 a2 a3 a4 a5).same .image rfl
@[simp] theorem State.sendGain_pending {a1 a2 a3 a4 a5 : _} : (s.sendGain a1 a2 a3 a4 a5).pending = s.pending := (State.sendGain_good s a1 a2 a3 a4 a5).same .pending rfl

/-! ### State.sendMute -/

@[simp] theorem State.sendMute_live {a1 a2 a3 a4 a5 : _} : (s.sendMute a1 a2 a3 a4 a5).live = s.live := (State.sendMute_good s a1 a2 a3 a4 a5).same .live rfl
@[simp] theorem State.sendMute_liveHist {a1 a2 a3 a4 a5 : _} : (s.sendMute a1 a2 a3 a4 a5).liveHist = s.liveHist := (State.sendMute_good s a1 a2 a3 a4 a5).same .liveHist rfl
@[simp] theorem State.sendMute_tm {a1 a2 a3 a4 a5 : _} : (s.sendMute a1 a2 a3 a4 a5).tm = s.tm := (State.sendMute_good s a1 a2 a3 a4 a5).same .tm rfl
@[simp] theorem State.sendMute_mem {a1 a2 a3 a4 a5 : _} : (s.sendMute a1 a2 a3 a4 a5).mem = s.mem := (State.sendMute_good s a1 a2 a3 a4 a5).same .mem rfl
@[simp] theorem State.sendMute_free {a1 a2 a3 a4 a5 : _} : (s.sendMute a1 a2 a3 a4 a5).free = s.free := (State.sendMute_good s a1 a2 a3 a4 a5).same .free rfl
@[simp] theorem State.sendMute_latches {a1 a2 a3 a4 a5 : _} : (s.sendMute a1 a2 a3 a4 a5).latches = s.latches := (State.sendMute_good s a1 a2 a3 a4 a5).same .latches rfl
@[simp] theorem State.sendMute_straps {a1 a2 a3 a4 a5 : _} : (s.sendMute a1 a2 a3 a4 a5).straps = s.straps := (State.sendMute_good s a1 a2 a3 a4 a5).same .straps rfl
@[simp] theorem State.sendMute_geo {a1 a2 a3 a4 a5 : _} : (s.sendMute a1 a2 a3 a4 a5).geo = s.geo := (State.sendMute_good s a1 a2 a3 a4 a5).same .geo rfl
@[simp] theorem State.sendMute_hst {a1 a2 a3 a4 a5 : _} : (s.sendMute a1 a2 a3 a4 a5).hst = s.hst := (State.sendMute_good s a1 a2 a3 a4 a5).same .hst rfl
@[simp] theorem State.sendMute_mix {a1 a2 a3 a4 a5 : _} : (s.sendMute a1 a2 a3 a4 a5).mix = s.mix := (State.sendMute_good s a1 a2 a3 a4 a5).same .mix rfl
@[simp] theorem State.sendMute_ost {a1 a2 a3 a4 a5 : _} : (s.sendMute a1 a2 a3 a4 a5).ost = s.ost := (State.sendMute_good s a1 a2 a3 a4 a5).same .ost rfl
@[simp] theorem State.sendMute_cores {a1 a2 a3 a4 a5 : _} : (s.sendMute a1 a2 a3 a4 a5).cores = s.cores := (State.sendMute_good s a1 a2 a3 a4 a5).same .cores rfl
@[simp] theorem State.sendMute_tdm {a1 a2 a3 a4 a5 : _} : (s.sendMute a1 a2 a3 a4 a5).tdm = s.tdm := (State.sendMute_good s a1 a2 a3 a4 a5).same .tdm rfl
@[simp] theorem State.sendMute_aes {a1 a2 a3 a4 a5 : _} : (s.sendMute a1 a2 a3 a4 a5).aes = s.aes := (State.sendMute_good s a1 a2 a3 a4 a5).same .aes rfl
@[simp] theorem State.sendMute_aesOut {a1 a2 a3 a4 a5 : _} : (s.sendMute a1 a2 a3 a4 a5).aesOut = s.aesOut := (State.sendMute_good s a1 a2 a3 a4 a5).same .aesOut rfl
@[simp] theorem State.sendMute_vox {a1 a2 a3 a4 a5 : _} : (s.sendMute a1 a2 a3 a4 a5).vox = s.vox := (State.sendMute_good s a1 a2 a3 a4 a5).same .vox rfl
@[simp] theorem State.sendMute_asc {a1 a2 a3 a4 a5 : _} : (s.sendMute a1 a2 a3 a4 a5).asc = s.asc := (State.sendMute_good s a1 a2 a3 a4 a5).same .asc rfl
@[simp] theorem State.sendMute_mics {a1 a2 a3 a4 a5 : _} : (s.sendMute a1 a2 a3 a4 a5).mics = s.mics := (State.sendMute_good s a1 a2 a3 a4 a5).same .mics rfl
@[simp] theorem State.sendMute_bound {a1 a2 a3 a4 a5 : _} : (s.sendMute a1 a2 a3 a4 a5).bound = s.bound := (State.sendMute_good s a1 a2 a3 a4 a5).same .bound rfl
@[simp] theorem State.sendMute_ps {a1 a2 a3 a4 a5 : _} : (s.sendMute a1 a2 a3 a4 a5).ps = s.ps := (State.sendMute_good s a1 a2 a3 a4 a5).same .ps rfl
@[simp] theorem State.sendMute_tly {a1 a2 a3 a4 a5 : _} : (s.sendMute a1 a2 a3 a4 a5).tly = s.tly := (State.sendMute_good s a1 a2 a3 a4 a5).same .tly rfl
@[simp] theorem State.sendMute_macs {a1 a2 a3 a4 a5 : _} : (s.sendMute a1 a2 a3 a4 a5).macs = s.macs := (State.sendMute_good s a1 a2 a3 a4 a5).same .macs rfl
@[simp] theorem State.sendMute_ptp {a1 a2 a3 a4 a5 : _} : (s.sendMute a1 a2 a3 a4 a5).ptp = s.ptp := (State.sendMute_good s a1 a2 a3 a4 a5).same .ptp rfl
@[simp] theorem State.sendMute_srx {a1 a2 a3 a4 a5 : _} : (s.sendMute a1 a2 a3 a4 a5).srx = s.srx := (State.sendMute_good s a1 a2 a3 a4 a5).same .srx rfl
@[simp] theorem State.sendMute_stx {a1 a2 a3 a4 a5 : _} : (s.sendMute a1 a2 a3 a4 a5).stx = s.stx := (State.sendMute_good s a1 a2 a3 a4 a5).same .stx rfl
@[simp] theorem State.sendMute_acts {a1 a2 a3 a4 a5 : _} : (s.sendMute a1 a2 a3 a4 a5).acts = s.acts := (State.sendMute_good s a1 a2 a3 a4 a5).same .acts rfl
@[simp] theorem State.sendMute_gpio {a1 a2 a3 a4 a5 : _} : (s.sendMute a1 a2 a3 a4 a5).gpio = s.gpio := (State.sendMute_good s a1 a2 a3 a4 a5).same .gpio rfl
@[simp] theorem State.sendMute_pins {a1 a2 a3 a4 a5 : _} : (s.sendMute a1 a2 a3 a4 a5).pins = s.pins := (State.sendMute_good s a1 a2 a3 a4 a5).same .pins rfl
@[simp] theorem State.sendMute_sessions {a1 a2 a3 a4 a5 : _} : (s.sendMute a1 a2 a3 a4 a5).sessions = s.sessions := (State.sendMute_good s a1 a2 a3 a4 a5).same .sessions rfl
@[simp] theorem State.sendMute_owner {a1 a2 a3 a4 a5 : _} : (s.sendMute a1 a2 a3 a4 a5).owner = s.owner := (State.sendMute_good s a1 a2 a3 a4 a5).same .owner rfl
@[simp] theorem State.sendMute_former {a1 a2 a3 a4 a5 : _} : (s.sendMute a1 a2 a3 a4 a5).former = s.former := (State.sendMute_good s a1 a2 a3 a4 a5).same .former rfl
@[simp] theorem State.sendMute_ports {a1 a2 a3 a4 a5 : _} : (s.sendMute a1 a2 a3 a4 a5).ports = s.ports := (State.sendMute_good s a1 a2 a3 a4 a5).same .ports rfl
@[simp] theorem State.sendMute_devBusy {a1 a2 a3 a4 a5 : _} : (s.sendMute a1 a2 a3 a4 a5).devBusy = s.devBusy := (State.sendMute_good s a1 a2 a3 a4 a5).same .devBusy rfl
@[simp] theorem State.sendMute_enrol {a1 a2 a3 a4 a5 : _} : (s.sendMute a1 a2 a3 a4 a5).enrol = s.enrol := (State.sendMute_good s a1 a2 a3 a4 a5).same .enrol rfl
@[simp] theorem State.sendMute_msgs {a1 a2 a3 a4 a5 : _} : (s.sendMute a1 a2 a3 a4 a5).msgs = s.msgs := (State.sendMute_good s a1 a2 a3 a4 a5).same .msgs rfl
@[simp] theorem State.sendMute_plays {a1 a2 a3 a4 a5 : _} : (s.sendMute a1 a2 a3 a4 a5).plays = s.plays := (State.sendMute_good s a1 a2 a3 a4 a5).same .plays rfl
@[simp] theorem State.sendMute_fw {a1 a2 a3 a4 a5 : _} : (s.sendMute a1 a2 a3 a4 a5).fw = s.fw := (State.sendMute_good s a1 a2 a3 a4 a5).same .fw rfl
@[simp] theorem State.sendMute_flash {a1 a2 a3 a4 a5 : _} : (s.sendMute a1 a2 a3 a4 a5).flash = s.flash := (State.sendMute_good s a1 a2 a3 a4 a5).same .flash rfl
@[simp] theorem State.sendMute_otp {a1 a2 a3 a4 a5 : _} : (s.sendMute a1 a2 a3 a4 a5).otp = s.otp := (State.sendMute_good s a1 a2 a3 a4 a5).same .otp rfl
@[simp] theorem State.sendMute_maint {a1 a2 a3 a4 a5 : _} : (s.sendMute a1 a2 a3 a4 a5).maint = s.maint := (State.sendMute_good s a1 a2 a3 a4 a5).same .maint rfl
@[simp] theorem State.sendMute_triggers {a1 a2 a3 a4 a5 : _} : (s.sendMute a1 a2 a3 a4 a5).triggers = s.triggers := (State.sendMute_good s a1 a2 a3 a4 a5).same .triggers rfl
@[simp] theorem State.sendMute_armed {a1 a2 a3 a4 a5 : _} : (s.sendMute a1 a2 a3 a4 a5).armed = s.armed := (State.sendMute_good s a1 a2 a3 a4 a5).same .armed rfl
@[simp] theorem State.sendMute_totals {a1 a2 a3 a4 a5 : _} : (s.sendMute a1 a2 a3 a4 a5).totals = s.totals := (State.sendMute_good s a1 a2 a3 a4 a5).same .totals rfl
@[simp] theorem State.sendMute_totalsAt {a1 a2 a3 a4 a5 : _} : (s.sendMute a1 a2 a3 a4 a5).totalsAt = s.totalsAt := (State.sendMute_good s a1 a2 a3 a4 a5).same .totalsAt rfl
@[simp] theorem State.sendMute_lib {a1 a2 a3 a4 a5 : _} : (s.sendMute a1 a2 a3 a4 a5).lib = s.lib := (State.sendMute_good s a1 a2 a3 a4 a5).same .lib rfl
@[simp] theorem State.sendMute_bwt {a1 a2 a3 a4 a5 : _} : (s.sendMute a1 a2 a3 a4 a5).bwt = s.bwt := (State.sendMute_good s a1 a2 a3 a4 a5).same .bwt rfl
@[simp] theorem State.sendMute_mir {a1 a2 a3 a4 a5 : _} : (s.sendMute a1 a2 a3 a4 a5).mir = s.mir := (State.sendMute_good s a1 a2 a3 a4 a5).same .mir rfl
@[simp] theorem State.sendMute_cel {a1 a2 a3 a4 a5 : _} : (s.sendMute a1 a2 a3 a4 a5).cel = s.cel := (State.sendMute_good s a1 a2 a3 a4 a5).same .cel rfl
@[simp] theorem State.sendMute_fab {a1 a2 a3 a4 a5 : _} : (s.sendMute a1 a2 a3 a4 a5).fab = s.fab := (State.sendMute_good s a1 a2 a3 a4 a5).same .fab rfl
@[simp] theorem State.sendMute_clk {a1 a2 a3 a4 a5 : _} : (s.sendMute a1 a2 a3 a4 a5).clk = s.clk := (State.sendMute_good s a1 a2 a3 a4 a5).same .clk rfl
@[simp] theorem State.sendMute_sup {a1 a2 a3 a4 a5 : _} : (s.sendMute a1 a2 a3 a4 a5).sup = s.sup := (State.sendMute_good s a1 a2 a3 a4 a5).same .sup rfl
@[simp] theorem State.sendMute_image {a1 a2 a3 a4 a5 : _} : (s.sendMute a1 a2 a3 a4 a5).image = s.image := (State.sendMute_good s a1 a2 a3 a4 a5).same .image rfl
@[simp] theorem State.sendMute_pending {a1 a2 a3 a4 a5 : _} : (s.sendMute a1 a2 a3 a4 a5).pending = s.pending := (State.sendMute_good s a1 a2 a3 a4 a5).same .pending rfl

/-! ### State.eventTo -/

@[simp] theorem State.eventTo_live {a1 a2 a3 : _} : (s.eventTo a1 a2 a3).live = s.live := (State.eventTo_good s a1 a2 a3).same .live rfl
@[simp] theorem State.eventTo_liveHist {a1 a2 a3 : _} : (s.eventTo a1 a2 a3).liveHist = s.liveHist := (State.eventTo_good s a1 a2 a3).same .liveHist rfl
@[simp] theorem State.eventTo_tm {a1 a2 a3 : _} : (s.eventTo a1 a2 a3).tm = s.tm := (State.eventTo_good s a1 a2 a3).same .tm rfl
@[simp] theorem State.eventTo_mem {a1 a2 a3 : _} : (s.eventTo a1 a2 a3).mem = s.mem := (State.eventTo_good s a1 a2 a3).same .mem rfl
@[simp] theorem State.eventTo_free {a1 a2 a3 : _} : (s.eventTo a1 a2 a3).free = s.free := (State.eventTo_good s a1 a2 a3).same .free rfl
@[simp] theorem State.eventTo_latches {a1 a2 a3 : _} : (s.eventTo a1 a2 a3).latches = s.latches := (State.eventTo_good s a1 a2 a3).same .latches rfl
@[simp] theorem State.eventTo_straps {a1 a2 a3 : _} : (s.eventTo a1 a2 a3).straps = s.straps := (State.eventTo_good s a1 a2 a3).same .straps rfl
@[simp] theorem State.eventTo_geo {a1 a2 a3 : _} : (s.eventTo a1 a2 a3).geo = s.geo := (State.eventTo_good s a1 a2 a3).same .geo rfl
@[simp] theorem State.eventTo_hst {a1 a2 a3 : _} : (s.eventTo a1 a2 a3).hst = s.hst := (State.eventTo_good s a1 a2 a3).same .hst rfl
@[simp] theorem State.eventTo_mix {a1 a2 a3 : _} : (s.eventTo a1 a2 a3).mix = s.mix := (State.eventTo_good s a1 a2 a3).same .mix rfl
@[simp] theorem State.eventTo_sched {a1 a2 a3 : _} : (s.eventTo a1 a2 a3).sched = s.sched := (State.eventTo_good s a1 a2 a3).same .sched rfl
@[simp] theorem State.eventTo_ost {a1 a2 a3 : _} : (s.eventTo a1 a2 a3).ost = s.ost := (State.eventTo_good s a1 a2 a3).same .ost rfl
@[simp] theorem State.eventTo_cores {a1 a2 a3 : _} : (s.eventTo a1 a2 a3).cores = s.cores := (State.eventTo_good s a1 a2 a3).same .cores rfl
@[simp] theorem State.eventTo_tdm {a1 a2 a3 : _} : (s.eventTo a1 a2 a3).tdm = s.tdm := (State.eventTo_good s a1 a2 a3).same .tdm rfl
@[simp] theorem State.eventTo_aes {a1 a2 a3 : _} : (s.eventTo a1 a2 a3).aes = s.aes := (State.eventTo_good s a1 a2 a3).same .aes rfl
@[simp] theorem State.eventTo_aesOut {a1 a2 a3 : _} : (s.eventTo a1 a2 a3).aesOut = s.aesOut := (State.eventTo_good s a1 a2 a3).same .aesOut rfl
@[simp] theorem State.eventTo_vox {a1 a2 a3 : _} : (s.eventTo a1 a2 a3).vox = s.vox := (State.eventTo_good s a1 a2 a3).same .vox rfl
@[simp] theorem State.eventTo_asc {a1 a2 a3 : _} : (s.eventTo a1 a2 a3).asc = s.asc := (State.eventTo_good s a1 a2 a3).same .asc rfl
@[simp] theorem State.eventTo_mics {a1 a2 a3 : _} : (s.eventTo a1 a2 a3).mics = s.mics := (State.eventTo_good s a1 a2 a3).same .mics rfl
@[simp] theorem State.eventTo_bound {a1 a2 a3 : _} : (s.eventTo a1 a2 a3).bound = s.bound := (State.eventTo_good s a1 a2 a3).same .bound rfl
@[simp] theorem State.eventTo_ps {a1 a2 a3 : _} : (s.eventTo a1 a2 a3).ps = s.ps := (State.eventTo_good s a1 a2 a3).same .ps rfl
@[simp] theorem State.eventTo_tly {a1 a2 a3 : _} : (s.eventTo a1 a2 a3).tly = s.tly := (State.eventTo_good s a1 a2 a3).same .tly rfl
@[simp] theorem State.eventTo_macs {a1 a2 a3 : _} : (s.eventTo a1 a2 a3).macs = s.macs := (State.eventTo_good s a1 a2 a3).same .macs rfl
@[simp] theorem State.eventTo_ptp {a1 a2 a3 : _} : (s.eventTo a1 a2 a3).ptp = s.ptp := (State.eventTo_good s a1 a2 a3).same .ptp rfl
@[simp] theorem State.eventTo_srx {a1 a2 a3 : _} : (s.eventTo a1 a2 a3).srx = s.srx := (State.eventTo_good s a1 a2 a3).same .srx rfl
@[simp] theorem State.eventTo_stx {a1 a2 a3 : _} : (s.eventTo a1 a2 a3).stx = s.stx := (State.eventTo_good s a1 a2 a3).same .stx rfl
@[simp] theorem State.eventTo_acts {a1 a2 a3 : _} : (s.eventTo a1 a2 a3).acts = s.acts := (State.eventTo_good s a1 a2 a3).same .acts rfl
@[simp] theorem State.eventTo_gpio {a1 a2 a3 : _} : (s.eventTo a1 a2 a3).gpio = s.gpio := (State.eventTo_good s a1 a2 a3).same .gpio rfl
@[simp] theorem State.eventTo_pins {a1 a2 a3 : _} : (s.eventTo a1 a2 a3).pins = s.pins := (State.eventTo_good s a1 a2 a3).same .pins rfl
@[simp] theorem State.eventTo_owner {a1 a2 a3 : _} : (s.eventTo a1 a2 a3).owner = s.owner := (State.eventTo_good s a1 a2 a3).same .owner rfl
@[simp] theorem State.eventTo_former {a1 a2 a3 : _} : (s.eventTo a1 a2 a3).former = s.former := (State.eventTo_good s a1 a2 a3).same .former rfl
@[simp] theorem State.eventTo_devBusy {a1 a2 a3 : _} : (s.eventTo a1 a2 a3).devBusy = s.devBusy := (State.eventTo_good s a1 a2 a3).same .devBusy rfl
@[simp] theorem State.eventTo_enrol {a1 a2 a3 : _} : (s.eventTo a1 a2 a3).enrol = s.enrol := (State.eventTo_good s a1 a2 a3).same .enrol rfl
@[simp] theorem State.eventTo_msgs {a1 a2 a3 : _} : (s.eventTo a1 a2 a3).msgs = s.msgs := (State.eventTo_good s a1 a2 a3).same .msgs rfl
@[simp] theorem State.eventTo_plays {a1 a2 a3 : _} : (s.eventTo a1 a2 a3).plays = s.plays := (State.eventTo_good s a1 a2 a3).same .plays rfl
@[simp] theorem State.eventTo_fw {a1 a2 a3 : _} : (s.eventTo a1 a2 a3).fw = s.fw := (State.eventTo_good s a1 a2 a3).same .fw rfl
@[simp] theorem State.eventTo_flash {a1 a2 a3 : _} : (s.eventTo a1 a2 a3).flash = s.flash := (State.eventTo_good s a1 a2 a3).same .flash rfl
@[simp] theorem State.eventTo_otp {a1 a2 a3 : _} : (s.eventTo a1 a2 a3).otp = s.otp := (State.eventTo_good s a1 a2 a3).same .otp rfl
@[simp] theorem State.eventTo_maint {a1 a2 a3 : _} : (s.eventTo a1 a2 a3).maint = s.maint := (State.eventTo_good s a1 a2 a3).same .maint rfl
@[simp] theorem State.eventTo_triggers {a1 a2 a3 : _} : (s.eventTo a1 a2 a3).triggers = s.triggers := (State.eventTo_good s a1 a2 a3).same .triggers rfl
@[simp] theorem State.eventTo_armed {a1 a2 a3 : _} : (s.eventTo a1 a2 a3).armed = s.armed := (State.eventTo_good s a1 a2 a3).same .armed rfl
@[simp] theorem State.eventTo_totals {a1 a2 a3 : _} : (s.eventTo a1 a2 a3).totals = s.totals := (State.eventTo_good s a1 a2 a3).same .totals rfl
@[simp] theorem State.eventTo_totalsAt {a1 a2 a3 : _} : (s.eventTo a1 a2 a3).totalsAt = s.totalsAt := (State.eventTo_good s a1 a2 a3).same .totalsAt rfl
@[simp] theorem State.eventTo_lib {a1 a2 a3 : _} : (s.eventTo a1 a2 a3).lib = s.lib := (State.eventTo_good s a1 a2 a3).same .lib rfl
@[simp] theorem State.eventTo_bwt {a1 a2 a3 : _} : (s.eventTo a1 a2 a3).bwt = s.bwt := (State.eventTo_good s a1 a2 a3).same .bwt rfl
@[simp] theorem State.eventTo_mir {a1 a2 a3 : _} : (s.eventTo a1 a2 a3).mir = s.mir := (State.eventTo_good s a1 a2 a3).same .mir rfl
@[simp] theorem State.eventTo_cel {a1 a2 a3 : _} : (s.eventTo a1 a2 a3).cel = s.cel := (State.eventTo_good s a1 a2 a3).same .cel rfl
@[simp] theorem State.eventTo_fab {a1 a2 a3 : _} : (s.eventTo a1 a2 a3).fab = s.fab := (State.eventTo_good s a1 a2 a3).same .fab rfl
@[simp] theorem State.eventTo_clk {a1 a2 a3 : _} : (s.eventTo a1 a2 a3).clk = s.clk := (State.eventTo_good s a1 a2 a3).same .clk rfl
@[simp] theorem State.eventTo_sup {a1 a2 a3 : _} : (s.eventTo a1 a2 a3).sup = s.sup := (State.eventTo_good s a1 a2 a3).same .sup rfl
@[simp] theorem State.eventTo_image {a1 a2 a3 : _} : (s.eventTo a1 a2 a3).image = s.image := (State.eventTo_good s a1 a2 a3).same .image rfl
@[simp] theorem State.eventTo_pending {a1 a2 a3 : _} : (s.eventTo a1 a2 a3).pending = s.pending := (State.eventTo_good s a1 a2 a3).same .pending rfl

/-! ### State.eventAll -/

@[simp] theorem State.eventAll_live {a1 a2 : _} : (s.eventAll a1 a2).live = s.live := (State.eventAll_good s a1 a2).same .live rfl
@[simp] theorem State.eventAll_liveHist {a1 a2 : _} : (s.eventAll a1 a2).liveHist = s.liveHist := (State.eventAll_good s a1 a2).same .liveHist rfl
@[simp] theorem State.eventAll_tm {a1 a2 : _} : (s.eventAll a1 a2).tm = s.tm := (State.eventAll_good s a1 a2).same .tm rfl
@[simp] theorem State.eventAll_mem {a1 a2 : _} : (s.eventAll a1 a2).mem = s.mem := (State.eventAll_good s a1 a2).same .mem rfl
@[simp] theorem State.eventAll_free {a1 a2 : _} : (s.eventAll a1 a2).free = s.free := (State.eventAll_good s a1 a2).same .free rfl
@[simp] theorem State.eventAll_latches {a1 a2 : _} : (s.eventAll a1 a2).latches = s.latches := (State.eventAll_good s a1 a2).same .latches rfl
@[simp] theorem State.eventAll_straps {a1 a2 : _} : (s.eventAll a1 a2).straps = s.straps := (State.eventAll_good s a1 a2).same .straps rfl
@[simp] theorem State.eventAll_geo {a1 a2 : _} : (s.eventAll a1 a2).geo = s.geo := (State.eventAll_good s a1 a2).same .geo rfl
@[simp] theorem State.eventAll_hst {a1 a2 : _} : (s.eventAll a1 a2).hst = s.hst := (State.eventAll_good s a1 a2).same .hst rfl
@[simp] theorem State.eventAll_mix {a1 a2 : _} : (s.eventAll a1 a2).mix = s.mix := (State.eventAll_good s a1 a2).same .mix rfl
@[simp] theorem State.eventAll_sched {a1 a2 : _} : (s.eventAll a1 a2).sched = s.sched := (State.eventAll_good s a1 a2).same .sched rfl
@[simp] theorem State.eventAll_ost {a1 a2 : _} : (s.eventAll a1 a2).ost = s.ost := (State.eventAll_good s a1 a2).same .ost rfl
@[simp] theorem State.eventAll_cores {a1 a2 : _} : (s.eventAll a1 a2).cores = s.cores := (State.eventAll_good s a1 a2).same .cores rfl
@[simp] theorem State.eventAll_tdm {a1 a2 : _} : (s.eventAll a1 a2).tdm = s.tdm := (State.eventAll_good s a1 a2).same .tdm rfl
@[simp] theorem State.eventAll_aes {a1 a2 : _} : (s.eventAll a1 a2).aes = s.aes := (State.eventAll_good s a1 a2).same .aes rfl
@[simp] theorem State.eventAll_aesOut {a1 a2 : _} : (s.eventAll a1 a2).aesOut = s.aesOut := (State.eventAll_good s a1 a2).same .aesOut rfl
@[simp] theorem State.eventAll_vox {a1 a2 : _} : (s.eventAll a1 a2).vox = s.vox := (State.eventAll_good s a1 a2).same .vox rfl
@[simp] theorem State.eventAll_asc {a1 a2 : _} : (s.eventAll a1 a2).asc = s.asc := (State.eventAll_good s a1 a2).same .asc rfl
@[simp] theorem State.eventAll_mics {a1 a2 : _} : (s.eventAll a1 a2).mics = s.mics := (State.eventAll_good s a1 a2).same .mics rfl
@[simp] theorem State.eventAll_bound {a1 a2 : _} : (s.eventAll a1 a2).bound = s.bound := (State.eventAll_good s a1 a2).same .bound rfl
@[simp] theorem State.eventAll_ps {a1 a2 : _} : (s.eventAll a1 a2).ps = s.ps := (State.eventAll_good s a1 a2).same .ps rfl
@[simp] theorem State.eventAll_tly {a1 a2 : _} : (s.eventAll a1 a2).tly = s.tly := (State.eventAll_good s a1 a2).same .tly rfl
@[simp] theorem State.eventAll_macs {a1 a2 : _} : (s.eventAll a1 a2).macs = s.macs := (State.eventAll_good s a1 a2).same .macs rfl
@[simp] theorem State.eventAll_ptp {a1 a2 : _} : (s.eventAll a1 a2).ptp = s.ptp := (State.eventAll_good s a1 a2).same .ptp rfl
@[simp] theorem State.eventAll_srx {a1 a2 : _} : (s.eventAll a1 a2).srx = s.srx := (State.eventAll_good s a1 a2).same .srx rfl
@[simp] theorem State.eventAll_stx {a1 a2 : _} : (s.eventAll a1 a2).stx = s.stx := (State.eventAll_good s a1 a2).same .stx rfl
@[simp] theorem State.eventAll_acts {a1 a2 : _} : (s.eventAll a1 a2).acts = s.acts := (State.eventAll_good s a1 a2).same .acts rfl
@[simp] theorem State.eventAll_gpio {a1 a2 : _} : (s.eventAll a1 a2).gpio = s.gpio := (State.eventAll_good s a1 a2).same .gpio rfl
@[simp] theorem State.eventAll_pins {a1 a2 : _} : (s.eventAll a1 a2).pins = s.pins := (State.eventAll_good s a1 a2).same .pins rfl
@[simp] theorem State.eventAll_owner {a1 a2 : _} : (s.eventAll a1 a2).owner = s.owner := (State.eventAll_good s a1 a2).same .owner rfl
@[simp] theorem State.eventAll_former {a1 a2 : _} : (s.eventAll a1 a2).former = s.former := (State.eventAll_good s a1 a2).same .former rfl
@[simp] theorem State.eventAll_devBusy {a1 a2 : _} : (s.eventAll a1 a2).devBusy = s.devBusy := (State.eventAll_good s a1 a2).same .devBusy rfl
@[simp] theorem State.eventAll_enrol {a1 a2 : _} : (s.eventAll a1 a2).enrol = s.enrol := (State.eventAll_good s a1 a2).same .enrol rfl
@[simp] theorem State.eventAll_msgs {a1 a2 : _} : (s.eventAll a1 a2).msgs = s.msgs := (State.eventAll_good s a1 a2).same .msgs rfl
@[simp] theorem State.eventAll_plays {a1 a2 : _} : (s.eventAll a1 a2).plays = s.plays := (State.eventAll_good s a1 a2).same .plays rfl
@[simp] theorem State.eventAll_fw {a1 a2 : _} : (s.eventAll a1 a2).fw = s.fw := (State.eventAll_good s a1 a2).same .fw rfl
@[simp] theorem State.eventAll_flash {a1 a2 : _} : (s.eventAll a1 a2).flash = s.flash := (State.eventAll_good s a1 a2).same .flash rfl
@[simp] theorem State.eventAll_otp {a1 a2 : _} : (s.eventAll a1 a2).otp = s.otp := (State.eventAll_good s a1 a2).same .otp rfl
@[simp] theorem State.eventAll_maint {a1 a2 : _} : (s.eventAll a1 a2).maint = s.maint := (State.eventAll_good s a1 a2).same .maint rfl
@[simp] theorem State.eventAll_triggers {a1 a2 : _} : (s.eventAll a1 a2).triggers = s.triggers := (State.eventAll_good s a1 a2).same .triggers rfl
@[simp] theorem State.eventAll_armed {a1 a2 : _} : (s.eventAll a1 a2).armed = s.armed := (State.eventAll_good s a1 a2).same .armed rfl
@[simp] theorem State.eventAll_totals {a1 a2 : _} : (s.eventAll a1 a2).totals = s.totals := (State.eventAll_good s a1 a2).same .totals rfl
@[simp] theorem State.eventAll_totalsAt {a1 a2 : _} : (s.eventAll a1 a2).totalsAt = s.totalsAt := (State.eventAll_good s a1 a2).same .totalsAt rfl
@[simp] theorem State.eventAll_lib {a1 a2 : _} : (s.eventAll a1 a2).lib = s.lib := (State.eventAll_good s a1 a2).same .lib rfl
@[simp] theorem State.eventAll_bwt {a1 a2 : _} : (s.eventAll a1 a2).bwt = s.bwt := (State.eventAll_good s a1 a2).same .bwt rfl
@[simp] theorem State.eventAll_mir {a1 a2 : _} : (s.eventAll a1 a2).mir = s.mir := (State.eventAll_good s a1 a2).same .mir rfl
@[simp] theorem State.eventAll_cel {a1 a2 : _} : (s.eventAll a1 a2).cel = s.cel := (State.eventAll_good s a1 a2).same .cel rfl
@[simp] theorem State.eventAll_fab {a1 a2 : _} : (s.eventAll a1 a2).fab = s.fab := (State.eventAll_good s a1 a2).same .fab rfl
@[simp] theorem State.eventAll_clk {a1 a2 : _} : (s.eventAll a1 a2).clk = s.clk := (State.eventAll_good s a1 a2).same .clk rfl
@[simp] theorem State.eventAll_sup {a1 a2 : _} : (s.eventAll a1 a2).sup = s.sup := (State.eventAll_good s a1 a2).same .sup rfl
@[simp] theorem State.eventAll_image {a1 a2 : _} : (s.eventAll a1 a2).image = s.image := (State.eventAll_good s a1 a2).same .image rfl
@[simp] theorem State.eventAll_pending {a1 a2 : _} : (s.eventAll a1 a2).pending = s.pending := (State.eventAll_good s a1 a2).same .pending rfl

/-! ### State.evOwner -/

@[simp] theorem State.evOwner_live {a1 a2 a3 a4 : _} : (s.evOwner a1 a2 a3 a4).live = s.live := (State.evOwner_good s a1 a2 a3 a4).same .live rfl
@[simp] theorem State.evOwner_liveHist {a1 a2 a3 a4 : _} : (s.evOwner a1 a2 a3 a4).liveHist = s.liveHist := (State.evOwner_good s a1 a2 a3 a4).same .liveHist rfl
@[simp] theorem State.evOwner_tm {a1 a2 a3 a4 : _} : (s.evOwner a1 a2 a3 a4).tm = s.tm := (State.evOwner_good s a1 a2 a3 a4).same .tm rfl
@[simp] theorem State.evOwner_mem {a1 a2 a3 a4 : _} : (s.evOwner a1 a2 a3 a4).mem = s.mem := (State.evOwner_good s a1 a2 a3 a4).same .mem rfl
@[simp] theorem State.evOwner_free {a1 a2 a3 a4 : _} : (s.evOwner a1 a2 a3 a4).free = s.free := (State.evOwner_good s a1 a2 a3 a4).same .free rfl
@[simp] theorem State.evOwner_latches {a1 a2 a3 a4 : _} : (s.evOwner a1 a2 a3 a4).latches = s.latches := (State.evOwner_good s a1 a2 a3 a4).same .latches rfl
@[simp] theorem State.evOwner_straps {a1 a2 a3 a4 : _} : (s.evOwner a1 a2 a3 a4).straps = s.straps := (State.evOwner_good s a1 a2 a3 a4).same .straps rfl
@[simp] theorem State.evOwner_geo {a1 a2 a3 a4 : _} : (s.evOwner a1 a2 a3 a4).geo = s.geo := (State.evOwner_good s a1 a2 a3 a4).same .geo rfl
@[simp] theorem State.evOwner_hst {a1 a2 a3 a4 : _} : (s.evOwner a1 a2 a3 a4).hst = s.hst := (State.evOwner_good s a1 a2 a3 a4).same .hst rfl
@[simp] theorem State.evOwner_mix {a1 a2 a3 a4 : _} : (s.evOwner a1 a2 a3 a4).mix = s.mix := (State.evOwner_good s a1 a2 a3 a4).same .mix rfl
@[simp] theorem State.evOwner_sched {a1 a2 a3 a4 : _} : (s.evOwner a1 a2 a3 a4).sched = s.sched := (State.evOwner_good s a1 a2 a3 a4).same .sched rfl
@[simp] theorem State.evOwner_ost {a1 a2 a3 a4 : _} : (s.evOwner a1 a2 a3 a4).ost = s.ost := (State.evOwner_good s a1 a2 a3 a4).same .ost rfl
@[simp] theorem State.evOwner_cores {a1 a2 a3 a4 : _} : (s.evOwner a1 a2 a3 a4).cores = s.cores := (State.evOwner_good s a1 a2 a3 a4).same .cores rfl
@[simp] theorem State.evOwner_tdm {a1 a2 a3 a4 : _} : (s.evOwner a1 a2 a3 a4).tdm = s.tdm := (State.evOwner_good s a1 a2 a3 a4).same .tdm rfl
@[simp] theorem State.evOwner_aes {a1 a2 a3 a4 : _} : (s.evOwner a1 a2 a3 a4).aes = s.aes := (State.evOwner_good s a1 a2 a3 a4).same .aes rfl
@[simp] theorem State.evOwner_aesOut {a1 a2 a3 a4 : _} : (s.evOwner a1 a2 a3 a4).aesOut = s.aesOut := (State.evOwner_good s a1 a2 a3 a4).same .aesOut rfl
@[simp] theorem State.evOwner_vox {a1 a2 a3 a4 : _} : (s.evOwner a1 a2 a3 a4).vox = s.vox := (State.evOwner_good s a1 a2 a3 a4).same .vox rfl
@[simp] theorem State.evOwner_asc {a1 a2 a3 a4 : _} : (s.evOwner a1 a2 a3 a4).asc = s.asc := (State.evOwner_good s a1 a2 a3 a4).same .asc rfl
@[simp] theorem State.evOwner_mics {a1 a2 a3 a4 : _} : (s.evOwner a1 a2 a3 a4).mics = s.mics := (State.evOwner_good s a1 a2 a3 a4).same .mics rfl
@[simp] theorem State.evOwner_bound {a1 a2 a3 a4 : _} : (s.evOwner a1 a2 a3 a4).bound = s.bound := (State.evOwner_good s a1 a2 a3 a4).same .bound rfl
@[simp] theorem State.evOwner_ps {a1 a2 a3 a4 : _} : (s.evOwner a1 a2 a3 a4).ps = s.ps := (State.evOwner_good s a1 a2 a3 a4).same .ps rfl
@[simp] theorem State.evOwner_tly {a1 a2 a3 a4 : _} : (s.evOwner a1 a2 a3 a4).tly = s.tly := (State.evOwner_good s a1 a2 a3 a4).same .tly rfl
@[simp] theorem State.evOwner_macs {a1 a2 a3 a4 : _} : (s.evOwner a1 a2 a3 a4).macs = s.macs := (State.evOwner_good s a1 a2 a3 a4).same .macs rfl
@[simp] theorem State.evOwner_ptp {a1 a2 a3 a4 : _} : (s.evOwner a1 a2 a3 a4).ptp = s.ptp := (State.evOwner_good s a1 a2 a3 a4).same .ptp rfl
@[simp] theorem State.evOwner_srx {a1 a2 a3 a4 : _} : (s.evOwner a1 a2 a3 a4).srx = s.srx := (State.evOwner_good s a1 a2 a3 a4).same .srx rfl
@[simp] theorem State.evOwner_stx {a1 a2 a3 a4 : _} : (s.evOwner a1 a2 a3 a4).stx = s.stx := (State.evOwner_good s a1 a2 a3 a4).same .stx rfl
@[simp] theorem State.evOwner_acts {a1 a2 a3 a4 : _} : (s.evOwner a1 a2 a3 a4).acts = s.acts := (State.evOwner_good s a1 a2 a3 a4).same .acts rfl
@[simp] theorem State.evOwner_gpio {a1 a2 a3 a4 : _} : (s.evOwner a1 a2 a3 a4).gpio = s.gpio := (State.evOwner_good s a1 a2 a3 a4).same .gpio rfl
@[simp] theorem State.evOwner_pins {a1 a2 a3 a4 : _} : (s.evOwner a1 a2 a3 a4).pins = s.pins := (State.evOwner_good s a1 a2 a3 a4).same .pins rfl
@[simp] theorem State.evOwner_owner {a1 a2 a3 a4 : _} : (s.evOwner a1 a2 a3 a4).owner = s.owner := (State.evOwner_good s a1 a2 a3 a4).same .owner rfl
@[simp] theorem State.evOwner_former {a1 a2 a3 a4 : _} : (s.evOwner a1 a2 a3 a4).former = s.former := (State.evOwner_good s a1 a2 a3 a4).same .former rfl
@[simp] theorem State.evOwner_devBusy {a1 a2 a3 a4 : _} : (s.evOwner a1 a2 a3 a4).devBusy = s.devBusy := (State.evOwner_good s a1 a2 a3 a4).same .devBusy rfl
@[simp] theorem State.evOwner_enrol {a1 a2 a3 a4 : _} : (s.evOwner a1 a2 a3 a4).enrol = s.enrol := (State.evOwner_good s a1 a2 a3 a4).same .enrol rfl
@[simp] theorem State.evOwner_msgs {a1 a2 a3 a4 : _} : (s.evOwner a1 a2 a3 a4).msgs = s.msgs := (State.evOwner_good s a1 a2 a3 a4).same .msgs rfl
@[simp] theorem State.evOwner_plays {a1 a2 a3 a4 : _} : (s.evOwner a1 a2 a3 a4).plays = s.plays := (State.evOwner_good s a1 a2 a3 a4).same .plays rfl
@[simp] theorem State.evOwner_fw {a1 a2 a3 a4 : _} : (s.evOwner a1 a2 a3 a4).fw = s.fw := (State.evOwner_good s a1 a2 a3 a4).same .fw rfl
@[simp] theorem State.evOwner_flash {a1 a2 a3 a4 : _} : (s.evOwner a1 a2 a3 a4).flash = s.flash := (State.evOwner_good s a1 a2 a3 a4).same .flash rfl
@[simp] theorem State.evOwner_otp {a1 a2 a3 a4 : _} : (s.evOwner a1 a2 a3 a4).otp = s.otp := (State.evOwner_good s a1 a2 a3 a4).same .otp rfl
@[simp] theorem State.evOwner_maint {a1 a2 a3 a4 : _} : (s.evOwner a1 a2 a3 a4).maint = s.maint := (State.evOwner_good s a1 a2 a3 a4).same .maint rfl
@[simp] theorem State.evOwner_triggers {a1 a2 a3 a4 : _} : (s.evOwner a1 a2 a3 a4).triggers = s.triggers := (State.evOwner_good s a1 a2 a3 a4).same .triggers rfl
@[simp] theorem State.evOwner_armed {a1 a2 a3 a4 : _} : (s.evOwner a1 a2 a3 a4).armed = s.armed := (State.evOwner_good s a1 a2 a3 a4).same .armed rfl
@[simp] theorem State.evOwner_totals {a1 a2 a3 a4 : _} : (s.evOwner a1 a2 a3 a4).totals = s.totals := (State.evOwner_good s a1 a2 a3 a4).same .totals rfl
@[simp] theorem State.evOwner_totalsAt {a1 a2 a3 a4 : _} : (s.evOwner a1 a2 a3 a4).totalsAt = s.totalsAt := (State.evOwner_good s a1 a2 a3 a4).same .totalsAt rfl
@[simp] theorem State.evOwner_lib {a1 a2 a3 a4 : _} : (s.evOwner a1 a2 a3 a4).lib = s.lib := (State.evOwner_good s a1 a2 a3 a4).same .lib rfl
@[simp] theorem State.evOwner_bwt {a1 a2 a3 a4 : _} : (s.evOwner a1 a2 a3 a4).bwt = s.bwt := (State.evOwner_good s a1 a2 a3 a4).same .bwt rfl
@[simp] theorem State.evOwner_mir {a1 a2 a3 a4 : _} : (s.evOwner a1 a2 a3 a4).mir = s.mir := (State.evOwner_good s a1 a2 a3 a4).same .mir rfl
@[simp] theorem State.evOwner_cel {a1 a2 a3 a4 : _} : (s.evOwner a1 a2 a3 a4).cel = s.cel := (State.evOwner_good s a1 a2 a3 a4).same .cel rfl
@[simp] theorem State.evOwner_fab {a1 a2 a3 a4 : _} : (s.evOwner a1 a2 a3 a4).fab = s.fab := (State.evOwner_good s a1 a2 a3 a4).same .fab rfl
@[simp] theorem State.evOwner_clk {a1 a2 a3 a4 : _} : (s.evOwner a1 a2 a3 a4).clk = s.clk := (State.evOwner_good s a1 a2 a3 a4).same .clk rfl
@[simp] theorem State.evOwner_sup {a1 a2 a3 a4 : _} : (s.evOwner a1 a2 a3 a4).sup = s.sup := (State.evOwner_good s a1 a2 a3 a4).same .sup rfl
@[simp] theorem State.evOwner_image {a1 a2 a3 a4 : _} : (s.evOwner a1 a2 a3 a4).image = s.image := (State.evOwner_good s a1 a2 a3 a4).same .image rfl
@[simp] theorem State.evOwner_pending {a1 a2 a3 a4 : _} : (s.evOwner a1 a2 a3 a4).pending = s.pending := (State.evOwner_good s a1 a2 a3 a4).same .pending rfl

/-! ### State.beginLong -/

@[simp] theorem State.beginLong_live {a1 a2 a3 a4 a5 : _} : (s.beginLong a1 a2 a3 a4 a5).live = s.live := (State.beginLong_good s a1 a2 a3 a4 a5).same .live rfl
@[simp] theorem State.beginLong_liveHist {a1 a2 a3 a4 a5 : _} : (s.beginLong a1 a2 a3 a4 a5).liveHist = s.liveHist := (State.beginLong_good s a1 a2 a3 a4 a5).same .liveHist rfl
@[simp] theorem State.beginLong_tm {a1 a2 a3 a4 a5 : _} : (s.beginLong a1 a2 a3 a4 a5).tm = s.tm := (State.beginLong_good s a1 a2 a3 a4 a5).same .tm rfl
@[simp] theorem State.beginLong_mem {a1 a2 a3 a4 a5 : _} : (s.beginLong a1 a2 a3 a4 a5).mem = s.mem := (State.beginLong_good s a1 a2 a3 a4 a5).same .mem rfl
@[simp] theorem State.beginLong_free {a1 a2 a3 a4 a5 : _} : (s.beginLong a1 a2 a3 a4 a5).free = s.free := (State.beginLong_good s a1 a2 a3 a4 a5).same .free rfl
@[simp] theorem State.beginLong_latches {a1 a2 a3 a4 a5 : _} : (s.beginLong a1 a2 a3 a4 a5).latches = s.latches := (State.beginLong_good s a1 a2 a3 a4 a5).same .latches rfl
@[simp] theorem State.beginLong_straps {a1 a2 a3 a4 a5 : _} : (s.beginLong a1 a2 a3 a4 a5).straps = s.straps := (State.beginLong_good s a1 a2 a3 a4 a5).same .straps rfl
@[simp] theorem State.beginLong_geo {a1 a2 a3 a4 a5 : _} : (s.beginLong a1 a2 a3 a4 a5).geo = s.geo := (State.beginLong_good s a1 a2 a3 a4 a5).same .geo rfl
@[simp] theorem State.beginLong_hst {a1 a2 a3 a4 a5 : _} : (s.beginLong a1 a2 a3 a4 a5).hst = s.hst := (State.beginLong_good s a1 a2 a3 a4 a5).same .hst rfl
@[simp] theorem State.beginLong_mix {a1 a2 a3 a4 a5 : _} : (s.beginLong a1 a2 a3 a4 a5).mix = s.mix := (State.beginLong_good s a1 a2 a3 a4 a5).same .mix rfl
@[simp] theorem State.beginLong_sched {a1 a2 a3 a4 a5 : _} : (s.beginLong a1 a2 a3 a4 a5).sched = s.sched := (State.beginLong_good s a1 a2 a3 a4 a5).same .sched rfl
@[simp] theorem State.beginLong_ost {a1 a2 a3 a4 a5 : _} : (s.beginLong a1 a2 a3 a4 a5).ost = s.ost := (State.beginLong_good s a1 a2 a3 a4 a5).same .ost rfl
@[simp] theorem State.beginLong_cores {a1 a2 a3 a4 a5 : _} : (s.beginLong a1 a2 a3 a4 a5).cores = s.cores := (State.beginLong_good s a1 a2 a3 a4 a5).same .cores rfl
@[simp] theorem State.beginLong_tdm {a1 a2 a3 a4 a5 : _} : (s.beginLong a1 a2 a3 a4 a5).tdm = s.tdm := (State.beginLong_good s a1 a2 a3 a4 a5).same .tdm rfl
@[simp] theorem State.beginLong_aes {a1 a2 a3 a4 a5 : _} : (s.beginLong a1 a2 a3 a4 a5).aes = s.aes := (State.beginLong_good s a1 a2 a3 a4 a5).same .aes rfl
@[simp] theorem State.beginLong_aesOut {a1 a2 a3 a4 a5 : _} : (s.beginLong a1 a2 a3 a4 a5).aesOut = s.aesOut := (State.beginLong_good s a1 a2 a3 a4 a5).same .aesOut rfl
@[simp] theorem State.beginLong_vox {a1 a2 a3 a4 a5 : _} : (s.beginLong a1 a2 a3 a4 a5).vox = s.vox := (State.beginLong_good s a1 a2 a3 a4 a5).same .vox rfl
@[simp] theorem State.beginLong_asc {a1 a2 a3 a4 a5 : _} : (s.beginLong a1 a2 a3 a4 a5).asc = s.asc := (State.beginLong_good s a1 a2 a3 a4 a5).same .asc rfl
@[simp] theorem State.beginLong_mics {a1 a2 a3 a4 a5 : _} : (s.beginLong a1 a2 a3 a4 a5).mics = s.mics := (State.beginLong_good s a1 a2 a3 a4 a5).same .mics rfl
@[simp] theorem State.beginLong_bound {a1 a2 a3 a4 a5 : _} : (s.beginLong a1 a2 a3 a4 a5).bound = s.bound := (State.beginLong_good s a1 a2 a3 a4 a5).same .bound rfl
@[simp] theorem State.beginLong_ps {a1 a2 a3 a4 a5 : _} : (s.beginLong a1 a2 a3 a4 a5).ps = s.ps := (State.beginLong_good s a1 a2 a3 a4 a5).same .ps rfl
@[simp] theorem State.beginLong_tly {a1 a2 a3 a4 a5 : _} : (s.beginLong a1 a2 a3 a4 a5).tly = s.tly := (State.beginLong_good s a1 a2 a3 a4 a5).same .tly rfl
@[simp] theorem State.beginLong_macs {a1 a2 a3 a4 a5 : _} : (s.beginLong a1 a2 a3 a4 a5).macs = s.macs := (State.beginLong_good s a1 a2 a3 a4 a5).same .macs rfl
@[simp] theorem State.beginLong_ptp {a1 a2 a3 a4 a5 : _} : (s.beginLong a1 a2 a3 a4 a5).ptp = s.ptp := (State.beginLong_good s a1 a2 a3 a4 a5).same .ptp rfl
@[simp] theorem State.beginLong_srx {a1 a2 a3 a4 a5 : _} : (s.beginLong a1 a2 a3 a4 a5).srx = s.srx := (State.beginLong_good s a1 a2 a3 a4 a5).same .srx rfl
@[simp] theorem State.beginLong_stx {a1 a2 a3 a4 a5 : _} : (s.beginLong a1 a2 a3 a4 a5).stx = s.stx := (State.beginLong_good s a1 a2 a3 a4 a5).same .stx rfl
@[simp] theorem State.beginLong_acts {a1 a2 a3 a4 a5 : _} : (s.beginLong a1 a2 a3 a4 a5).acts = s.acts := (State.beginLong_good s a1 a2 a3 a4 a5).same .acts rfl
@[simp] theorem State.beginLong_gpio {a1 a2 a3 a4 a5 : _} : (s.beginLong a1 a2 a3 a4 a5).gpio = s.gpio := (State.beginLong_good s a1 a2 a3 a4 a5).same .gpio rfl
@[simp] theorem State.beginLong_pins {a1 a2 a3 a4 a5 : _} : (s.beginLong a1 a2 a3 a4 a5).pins = s.pins := (State.beginLong_good s a1 a2 a3 a4 a5).same .pins rfl
@[simp] theorem State.beginLong_sessions {a1 a2 a3 a4 a5 : _} : (s.beginLong a1 a2 a3 a4 a5).sessions = s.sessions := (State.beginLong_good s a1 a2 a3 a4 a5).same .sessions rfl
@[simp] theorem State.beginLong_owner {a1 a2 a3 a4 a5 : _} : (s.beginLong a1 a2 a3 a4 a5).owner = s.owner := (State.beginLong_good s a1 a2 a3 a4 a5).same .owner rfl
@[simp] theorem State.beginLong_former {a1 a2 a3 a4 a5 : _} : (s.beginLong a1 a2 a3 a4 a5).former = s.former := (State.beginLong_good s a1 a2 a3 a4 a5).same .former rfl
@[simp] theorem State.beginLong_devBusy {a1 a2 a3 a4 a5 : _} : (s.beginLong a1 a2 a3 a4 a5).devBusy = s.devBusy := (State.beginLong_good s a1 a2 a3 a4 a5).same .devBusy rfl
@[simp] theorem State.beginLong_enrol {a1 a2 a3 a4 a5 : _} : (s.beginLong a1 a2 a3 a4 a5).enrol = s.enrol := (State.beginLong_good s a1 a2 a3 a4 a5).same .enrol rfl
@[simp] theorem State.beginLong_msgs {a1 a2 a3 a4 a5 : _} : (s.beginLong a1 a2 a3 a4 a5).msgs = s.msgs := (State.beginLong_good s a1 a2 a3 a4 a5).same .msgs rfl
@[simp] theorem State.beginLong_plays {a1 a2 a3 a4 a5 : _} : (s.beginLong a1 a2 a3 a4 a5).plays = s.plays := (State.beginLong_good s a1 a2 a3 a4 a5).same .plays rfl
@[simp] theorem State.beginLong_fw {a1 a2 a3 a4 a5 : _} : (s.beginLong a1 a2 a3 a4 a5).fw = s.fw := (State.beginLong_good s a1 a2 a3 a4 a5).same .fw rfl
@[simp] theorem State.beginLong_flash {a1 a2 a3 a4 a5 : _} : (s.beginLong a1 a2 a3 a4 a5).flash = s.flash := (State.beginLong_good s a1 a2 a3 a4 a5).same .flash rfl
@[simp] theorem State.beginLong_otp {a1 a2 a3 a4 a5 : _} : (s.beginLong a1 a2 a3 a4 a5).otp = s.otp := (State.beginLong_good s a1 a2 a3 a4 a5).same .otp rfl
@[simp] theorem State.beginLong_maint {a1 a2 a3 a4 a5 : _} : (s.beginLong a1 a2 a3 a4 a5).maint = s.maint := (State.beginLong_good s a1 a2 a3 a4 a5).same .maint rfl
@[simp] theorem State.beginLong_triggers {a1 a2 a3 a4 a5 : _} : (s.beginLong a1 a2 a3 a4 a5).triggers = s.triggers := (State.beginLong_good s a1 a2 a3 a4 a5).same .triggers rfl
@[simp] theorem State.beginLong_armed {a1 a2 a3 a4 a5 : _} : (s.beginLong a1 a2 a3 a4 a5).armed = s.armed := (State.beginLong_good s a1 a2 a3 a4 a5).same .armed rfl
@[simp] theorem State.beginLong_totals {a1 a2 a3 a4 a5 : _} : (s.beginLong a1 a2 a3 a4 a5).totals = s.totals := (State.beginLong_good s a1 a2 a3 a4 a5).same .totals rfl
@[simp] theorem State.beginLong_totalsAt {a1 a2 a3 a4 a5 : _} : (s.beginLong a1 a2 a3 a4 a5).totalsAt = s.totalsAt := (State.beginLong_good s a1 a2 a3 a4 a5).same .totalsAt rfl
@[simp] theorem State.beginLong_lib {a1 a2 a3 a4 a5 : _} : (s.beginLong a1 a2 a3 a4 a5).lib = s.lib := (State.beginLong_good s a1 a2 a3 a4 a5).same .lib rfl
@[simp] theorem State.beginLong_bwt {a1 a2 a3 a4 a5 : _} : (s.beginLong a1 a2 a3 a4 a5).bwt = s.bwt := (State.beginLong_good s a1 a2 a3 a4 a5).same .bwt rfl
@[simp] theorem State.beginLong_mir {a1 a2 a3 a4 a5 : _} : (s.beginLong a1 a2 a3 a4 a5).mir = s.mir := (State.beginLong_good s a1 a2 a3 a4 a5).same .mir rfl
@[simp] theorem State.beginLong_cel {a1 a2 a3 a4 a5 : _} : (s.beginLong a1 a2 a3 a4 a5).cel = s.cel := (State.beginLong_good s a1 a2 a3 a4 a5).same .cel rfl
@[simp] theorem State.beginLong_fab {a1 a2 a3 a4 a5 : _} : (s.beginLong a1 a2 a3 a4 a5).fab = s.fab := (State.beginLong_good s a1 a2 a3 a4 a5).same .fab rfl
@[simp] theorem State.beginLong_clk {a1 a2 a3 a4 a5 : _} : (s.beginLong a1 a2 a3 a4 a5).clk = s.clk := (State.beginLong_good s a1 a2 a3 a4 a5).same .clk rfl
@[simp] theorem State.beginLong_sup {a1 a2 a3 a4 a5 : _} : (s.beginLong a1 a2 a3 a4 a5).sup = s.sup := (State.beginLong_good s a1 a2 a3 a4 a5).same .sup rfl
@[simp] theorem State.beginLong_image {a1 a2 a3 a4 a5 : _} : (s.beginLong a1 a2 a3 a4 a5).image = s.image := (State.beginLong_good s a1 a2 a3 a4 a5).same .image rfl
@[simp] theorem State.beginLong_pending {a1 a2 a3 a4 a5 : _} : (s.beginLong a1 a2 a3 a4 a5).pending = s.pending := (State.beginLong_good s a1 a2 a3 a4 a5).same .pending rfl

/-! ### State.beginDevice -/

@[simp] theorem State.beginDevice_live {a1 a2 a3 a4 : _} : (s.beginDevice a1 a2 a3 a4).live = s.live := (State.beginDevice_good s a1 a2 a3 a4).same .live rfl
@[simp] theorem State.beginDevice_liveHist {a1 a2 a3 a4 : _} : (s.beginDevice a1 a2 a3 a4).liveHist = s.liveHist := (State.beginDevice_good s a1 a2 a3 a4).same .liveHist rfl
@[simp] theorem State.beginDevice_tm {a1 a2 a3 a4 : _} : (s.beginDevice a1 a2 a3 a4).tm = s.tm := (State.beginDevice_good s a1 a2 a3 a4).same .tm rfl
@[simp] theorem State.beginDevice_mem {a1 a2 a3 a4 : _} : (s.beginDevice a1 a2 a3 a4).mem = s.mem := (State.beginDevice_good s a1 a2 a3 a4).same .mem rfl
@[simp] theorem State.beginDevice_free {a1 a2 a3 a4 : _} : (s.beginDevice a1 a2 a3 a4).free = s.free := (State.beginDevice_good s a1 a2 a3 a4).same .free rfl
@[simp] theorem State.beginDevice_latches {a1 a2 a3 a4 : _} : (s.beginDevice a1 a2 a3 a4).latches = s.latches := (State.beginDevice_good s a1 a2 a3 a4).same .latches rfl
@[simp] theorem State.beginDevice_straps {a1 a2 a3 a4 : _} : (s.beginDevice a1 a2 a3 a4).straps = s.straps := (State.beginDevice_good s a1 a2 a3 a4).same .straps rfl
@[simp] theorem State.beginDevice_geo {a1 a2 a3 a4 : _} : (s.beginDevice a1 a2 a3 a4).geo = s.geo := (State.beginDevice_good s a1 a2 a3 a4).same .geo rfl
@[simp] theorem State.beginDevice_hst {a1 a2 a3 a4 : _} : (s.beginDevice a1 a2 a3 a4).hst = s.hst := (State.beginDevice_good s a1 a2 a3 a4).same .hst rfl
@[simp] theorem State.beginDevice_mix {a1 a2 a3 a4 : _} : (s.beginDevice a1 a2 a3 a4).mix = s.mix := (State.beginDevice_good s a1 a2 a3 a4).same .mix rfl
@[simp] theorem State.beginDevice_sched {a1 a2 a3 a4 : _} : (s.beginDevice a1 a2 a3 a4).sched = s.sched := (State.beginDevice_good s a1 a2 a3 a4).same .sched rfl
@[simp] theorem State.beginDevice_ost {a1 a2 a3 a4 : _} : (s.beginDevice a1 a2 a3 a4).ost = s.ost := (State.beginDevice_good s a1 a2 a3 a4).same .ost rfl
@[simp] theorem State.beginDevice_cores {a1 a2 a3 a4 : _} : (s.beginDevice a1 a2 a3 a4).cores = s.cores := (State.beginDevice_good s a1 a2 a3 a4).same .cores rfl
@[simp] theorem State.beginDevice_tdm {a1 a2 a3 a4 : _} : (s.beginDevice a1 a2 a3 a4).tdm = s.tdm := (State.beginDevice_good s a1 a2 a3 a4).same .tdm rfl
@[simp] theorem State.beginDevice_aes {a1 a2 a3 a4 : _} : (s.beginDevice a1 a2 a3 a4).aes = s.aes := (State.beginDevice_good s a1 a2 a3 a4).same .aes rfl
@[simp] theorem State.beginDevice_aesOut {a1 a2 a3 a4 : _} : (s.beginDevice a1 a2 a3 a4).aesOut = s.aesOut := (State.beginDevice_good s a1 a2 a3 a4).same .aesOut rfl
@[simp] theorem State.beginDevice_vox {a1 a2 a3 a4 : _} : (s.beginDevice a1 a2 a3 a4).vox = s.vox := (State.beginDevice_good s a1 a2 a3 a4).same .vox rfl
@[simp] theorem State.beginDevice_asc {a1 a2 a3 a4 : _} : (s.beginDevice a1 a2 a3 a4).asc = s.asc := (State.beginDevice_good s a1 a2 a3 a4).same .asc rfl
@[simp] theorem State.beginDevice_mics {a1 a2 a3 a4 : _} : (s.beginDevice a1 a2 a3 a4).mics = s.mics := (State.beginDevice_good s a1 a2 a3 a4).same .mics rfl
@[simp] theorem State.beginDevice_bound {a1 a2 a3 a4 : _} : (s.beginDevice a1 a2 a3 a4).bound = s.bound := (State.beginDevice_good s a1 a2 a3 a4).same .bound rfl
@[simp] theorem State.beginDevice_ps {a1 a2 a3 a4 : _} : (s.beginDevice a1 a2 a3 a4).ps = s.ps := (State.beginDevice_good s a1 a2 a3 a4).same .ps rfl
@[simp] theorem State.beginDevice_tly {a1 a2 a3 a4 : _} : (s.beginDevice a1 a2 a3 a4).tly = s.tly := (State.beginDevice_good s a1 a2 a3 a4).same .tly rfl
@[simp] theorem State.beginDevice_macs {a1 a2 a3 a4 : _} : (s.beginDevice a1 a2 a3 a4).macs = s.macs := (State.beginDevice_good s a1 a2 a3 a4).same .macs rfl
@[simp] theorem State.beginDevice_ptp {a1 a2 a3 a4 : _} : (s.beginDevice a1 a2 a3 a4).ptp = s.ptp := (State.beginDevice_good s a1 a2 a3 a4).same .ptp rfl
@[simp] theorem State.beginDevice_srx {a1 a2 a3 a4 : _} : (s.beginDevice a1 a2 a3 a4).srx = s.srx := (State.beginDevice_good s a1 a2 a3 a4).same .srx rfl
@[simp] theorem State.beginDevice_stx {a1 a2 a3 a4 : _} : (s.beginDevice a1 a2 a3 a4).stx = s.stx := (State.beginDevice_good s a1 a2 a3 a4).same .stx rfl
@[simp] theorem State.beginDevice_acts {a1 a2 a3 a4 : _} : (s.beginDevice a1 a2 a3 a4).acts = s.acts := (State.beginDevice_good s a1 a2 a3 a4).same .acts rfl
@[simp] theorem State.beginDevice_gpio {a1 a2 a3 a4 : _} : (s.beginDevice a1 a2 a3 a4).gpio = s.gpio := (State.beginDevice_good s a1 a2 a3 a4).same .gpio rfl
@[simp] theorem State.beginDevice_pins {a1 a2 a3 a4 : _} : (s.beginDevice a1 a2 a3 a4).pins = s.pins := (State.beginDevice_good s a1 a2 a3 a4).same .pins rfl
@[simp] theorem State.beginDevice_sessions {a1 a2 a3 a4 : _} : (s.beginDevice a1 a2 a3 a4).sessions = s.sessions := (State.beginDevice_good s a1 a2 a3 a4).same .sessions rfl
@[simp] theorem State.beginDevice_owner {a1 a2 a3 a4 : _} : (s.beginDevice a1 a2 a3 a4).owner = s.owner := (State.beginDevice_good s a1 a2 a3 a4).same .owner rfl
@[simp] theorem State.beginDevice_former {a1 a2 a3 a4 : _} : (s.beginDevice a1 a2 a3 a4).former = s.former := (State.beginDevice_good s a1 a2 a3 a4).same .former rfl
@[simp] theorem State.beginDevice_ports {a1 a2 a3 a4 : _} : (s.beginDevice a1 a2 a3 a4).ports = s.ports := (State.beginDevice_good s a1 a2 a3 a4).same .ports rfl
@[simp] theorem State.beginDevice_enrol {a1 a2 a3 a4 : _} : (s.beginDevice a1 a2 a3 a4).enrol = s.enrol := (State.beginDevice_good s a1 a2 a3 a4).same .enrol rfl
@[simp] theorem State.beginDevice_msgs {a1 a2 a3 a4 : _} : (s.beginDevice a1 a2 a3 a4).msgs = s.msgs := (State.beginDevice_good s a1 a2 a3 a4).same .msgs rfl
@[simp] theorem State.beginDevice_plays {a1 a2 a3 a4 : _} : (s.beginDevice a1 a2 a3 a4).plays = s.plays := (State.beginDevice_good s a1 a2 a3 a4).same .plays rfl
@[simp] theorem State.beginDevice_fw {a1 a2 a3 a4 : _} : (s.beginDevice a1 a2 a3 a4).fw = s.fw := (State.beginDevice_good s a1 a2 a3 a4).same .fw rfl
@[simp] theorem State.beginDevice_flash {a1 a2 a3 a4 : _} : (s.beginDevice a1 a2 a3 a4).flash = s.flash := (State.beginDevice_good s a1 a2 a3 a4).same .flash rfl
@[simp] theorem State.beginDevice_otp {a1 a2 a3 a4 : _} : (s.beginDevice a1 a2 a3 a4).otp = s.otp := (State.beginDevice_good s a1 a2 a3 a4).same .otp rfl
@[simp] theorem State.beginDevice_maint {a1 a2 a3 a4 : _} : (s.beginDevice a1 a2 a3 a4).maint = s.maint := (State.beginDevice_good s a1 a2 a3 a4).same .maint rfl
@[simp] theorem State.beginDevice_triggers {a1 a2 a3 a4 : _} : (s.beginDevice a1 a2 a3 a4).triggers = s.triggers := (State.beginDevice_good s a1 a2 a3 a4).same .triggers rfl
@[simp] theorem State.beginDevice_armed {a1 a2 a3 a4 : _} : (s.beginDevice a1 a2 a3 a4).armed = s.armed := (State.beginDevice_good s a1 a2 a3 a4).same .armed rfl
@[simp] theorem State.beginDevice_totals {a1 a2 a3 a4 : _} : (s.beginDevice a1 a2 a3 a4).totals = s.totals := (State.beginDevice_good s a1 a2 a3 a4).same .totals rfl
@[simp] theorem State.beginDevice_totalsAt {a1 a2 a3 a4 : _} : (s.beginDevice a1 a2 a3 a4).totalsAt = s.totalsAt := (State.beginDevice_good s a1 a2 a3 a4).same .totalsAt rfl
@[simp] theorem State.beginDevice_lib {a1 a2 a3 a4 : _} : (s.beginDevice a1 a2 a3 a4).lib = s.lib := (State.beginDevice_good s a1 a2 a3 a4).same .lib rfl
@[simp] theorem State.beginDevice_bwt {a1 a2 a3 a4 : _} : (s.beginDevice a1 a2 a3 a4).bwt = s.bwt := (State.beginDevice_good s a1 a2 a3 a4).same .bwt rfl
@[simp] theorem State.beginDevice_mir {a1 a2 a3 a4 : _} : (s.beginDevice a1 a2 a3 a4).mir = s.mir := (State.beginDevice_good s a1 a2 a3 a4).same .mir rfl
@[simp] theorem State.beginDevice_cel {a1 a2 a3 a4 : _} : (s.beginDevice a1 a2 a3 a4).cel = s.cel := (State.beginDevice_good s a1 a2 a3 a4).same .cel rfl
@[simp] theorem State.beginDevice_fab {a1 a2 a3 a4 : _} : (s.beginDevice a1 a2 a3 a4).fab = s.fab := (State.beginDevice_good s a1 a2 a3 a4).same .fab rfl
@[simp] theorem State.beginDevice_clk {a1 a2 a3 a4 : _} : (s.beginDevice a1 a2 a3 a4).clk = s.clk := (State.beginDevice_good s a1 a2 a3 a4).same .clk rfl
@[simp] theorem State.beginDevice_sup {a1 a2 a3 a4 : _} : (s.beginDevice a1 a2 a3 a4).sup = s.sup := (State.beginDevice_good s a1 a2 a3 a4).same .sup rfl
@[simp] theorem State.beginDevice_image {a1 a2 a3 a4 : _} : (s.beginDevice a1 a2 a3 a4).image = s.image := (State.beginDevice_good s a1 a2 a3 a4).same .image rfl
@[simp] theorem State.beginDevice_pending {a1 a2 a3 a4 : _} : (s.beginDevice a1 a2 a3 a4).pending = s.pending := (State.beginDevice_good s a1 a2 a3 a4).same .pending rfl

/-! ### State.showOpen -/

@[simp] theorem State.showOpen_live : (s.showOpen).live = s.live := (State.showOpen_good s).same .live rfl
@[simp] theorem State.showOpen_liveHist : (s.showOpen).liveHist = s.liveHist := (State.showOpen_good s).same .liveHist rfl
@[simp] theorem State.showOpen_tm : (s.showOpen).tm = s.tm := (State.showOpen_good s).same .tm rfl
@[simp] theorem State.showOpen_mem : (s.showOpen).mem = s.mem := (State.showOpen_good s).same .mem rfl
@[simp] theorem State.showOpen_free : (s.showOpen).free = s.free := (State.showOpen_good s).same .free rfl
@[simp] theorem State.showOpen_latches : (s.showOpen).latches = s.latches := (State.showOpen_good s).same .latches rfl
@[simp] theorem State.showOpen_straps : (s.showOpen).straps = s.straps := (State.showOpen_good s).same .straps rfl
@[simp] theorem State.showOpen_geo : (s.showOpen).geo = s.geo := (State.showOpen_good s).same .geo rfl
@[simp] theorem State.showOpen_hst : (s.showOpen).hst = s.hst := (State.showOpen_good s).same .hst rfl
@[simp] theorem State.showOpen_mix : (s.showOpen).mix = s.mix := (State.showOpen_good s).same .mix rfl
@[simp] theorem State.showOpen_sched : (s.showOpen).sched = s.sched := (State.showOpen_good s).same .sched rfl
@[simp] theorem State.showOpen_ost : (s.showOpen).ost = s.ost := (State.showOpen_good s).same .ost rfl
@[simp] theorem State.showOpen_cores : (s.showOpen).cores = s.cores := (State.showOpen_good s).same .cores rfl
@[simp] theorem State.showOpen_tdm : (s.showOpen).tdm = s.tdm := (State.showOpen_good s).same .tdm rfl
@[simp] theorem State.showOpen_aes : (s.showOpen).aes = s.aes := (State.showOpen_good s).same .aes rfl
@[simp] theorem State.showOpen_aesOut : (s.showOpen).aesOut = s.aesOut := (State.showOpen_good s).same .aesOut rfl
@[simp] theorem State.showOpen_vox : (s.showOpen).vox = s.vox := (State.showOpen_good s).same .vox rfl
@[simp] theorem State.showOpen_asc : (s.showOpen).asc = s.asc := (State.showOpen_good s).same .asc rfl
@[simp] theorem State.showOpen_mics : (s.showOpen).mics = s.mics := (State.showOpen_good s).same .mics rfl
@[simp] theorem State.showOpen_bound : (s.showOpen).bound = s.bound := (State.showOpen_good s).same .bound rfl
@[simp] theorem State.showOpen_ps : (s.showOpen).ps = s.ps := (State.showOpen_good s).same .ps rfl
@[simp] theorem State.showOpen_tly : (s.showOpen).tly = s.tly := (State.showOpen_good s).same .tly rfl
@[simp] theorem State.showOpen_macs : (s.showOpen).macs = s.macs := (State.showOpen_good s).same .macs rfl
@[simp] theorem State.showOpen_ptp : (s.showOpen).ptp = s.ptp := (State.showOpen_good s).same .ptp rfl
@[simp] theorem State.showOpen_srx : (s.showOpen).srx = s.srx := (State.showOpen_good s).same .srx rfl
@[simp] theorem State.showOpen_stx : (s.showOpen).stx = s.stx := (State.showOpen_good s).same .stx rfl
@[simp] theorem State.showOpen_acts : (s.showOpen).acts = s.acts := (State.showOpen_good s).same .acts rfl
@[simp] theorem State.showOpen_gpio : (s.showOpen).gpio = s.gpio := (State.showOpen_good s).same .gpio rfl
@[simp] theorem State.showOpen_pins : (s.showOpen).pins = s.pins := (State.showOpen_good s).same .pins rfl
@[simp] theorem State.showOpen_sessions : (s.showOpen).sessions = s.sessions := (State.showOpen_good s).same .sessions rfl
@[simp] theorem State.showOpen_owner : (s.showOpen).owner = s.owner := (State.showOpen_good s).same .owner rfl
@[simp] theorem State.showOpen_former : (s.showOpen).former = s.former := (State.showOpen_good s).same .former rfl
@[simp] theorem State.showOpen_ports : (s.showOpen).ports = s.ports := (State.showOpen_good s).same .ports rfl
@[simp] theorem State.showOpen_devBusy : (s.showOpen).devBusy = s.devBusy := (State.showOpen_good s).same .devBusy rfl
@[simp] theorem State.showOpen_enrol : (s.showOpen).enrol = s.enrol := (State.showOpen_good s).same .enrol rfl
@[simp] theorem State.showOpen_msgs : (s.showOpen).msgs = s.msgs := (State.showOpen_good s).same .msgs rfl
@[simp] theorem State.showOpen_plays : (s.showOpen).plays = s.plays := (State.showOpen_good s).same .plays rfl
@[simp] theorem State.showOpen_fw : (s.showOpen).fw = s.fw := (State.showOpen_good s).same .fw rfl
@[simp] theorem State.showOpen_flash : (s.showOpen).flash = s.flash := (State.showOpen_good s).same .flash rfl
@[simp] theorem State.showOpen_otp : (s.showOpen).otp = s.otp := (State.showOpen_good s).same .otp rfl
@[simp] theorem State.showOpen_maint : (s.showOpen).maint = s.maint := (State.showOpen_good s).same .maint rfl
@[simp] theorem State.showOpen_triggers : (s.showOpen).triggers = s.triggers := (State.showOpen_good s).same .triggers rfl
@[simp] theorem State.showOpen_armed : (s.showOpen).armed = s.armed := (State.showOpen_good s).same .armed rfl
@[simp] theorem State.showOpen_totals : (s.showOpen).totals = s.totals := (State.showOpen_good s).same .totals rfl
@[simp] theorem State.showOpen_totalsAt : (s.showOpen).totalsAt = s.totalsAt := (State.showOpen_good s).same .totalsAt rfl
@[simp] theorem State.showOpen_lib : (s.showOpen).lib = s.lib := (State.showOpen_good s).same .lib rfl
@[simp] theorem State.showOpen_bwt : (s.showOpen).bwt = s.bwt := (State.showOpen_good s).same .bwt rfl
@[simp] theorem State.showOpen_mir : (s.showOpen).mir = s.mir := (State.showOpen_good s).same .mir rfl
@[simp] theorem State.showOpen_cel : (s.showOpen).cel = s.cel := (State.showOpen_good s).same .cel rfl
@[simp] theorem State.showOpen_fab : (s.showOpen).fab = s.fab := (State.showOpen_good s).same .fab rfl
@[simp] theorem State.showOpen_clk : (s.showOpen).clk = s.clk := (State.showOpen_good s).same .clk rfl
@[simp] theorem State.showOpen_sup : (s.showOpen).sup = s.sup := (State.showOpen_good s).same .sup rfl
@[simp] theorem State.showOpen_image : (s.showOpen).image = s.image := (State.showOpen_good s).same .image rfl
@[simp] theorem State.showOpen_pending : (s.showOpen).pending = s.pending := (State.showOpen_good s).same .pending rfl

/-! ### State.showBusy -/

@[simp] theorem State.showBusy_live : (s.showBusy).live = s.live := (State.showBusy_good s).same .live rfl
@[simp] theorem State.showBusy_liveHist : (s.showBusy).liveHist = s.liveHist := (State.showBusy_good s).same .liveHist rfl
@[simp] theorem State.showBusy_tm : (s.showBusy).tm = s.tm := (State.showBusy_good s).same .tm rfl
@[simp] theorem State.showBusy_mem : (s.showBusy).mem = s.mem := (State.showBusy_good s).same .mem rfl
@[simp] theorem State.showBusy_free : (s.showBusy).free = s.free := (State.showBusy_good s).same .free rfl
@[simp] theorem State.showBusy_latches : (s.showBusy).latches = s.latches := (State.showBusy_good s).same .latches rfl
@[simp] theorem State.showBusy_straps : (s.showBusy).straps = s.straps := (State.showBusy_good s).same .straps rfl
@[simp] theorem State.showBusy_geo : (s.showBusy).geo = s.geo := (State.showBusy_good s).same .geo rfl
@[simp] theorem State.showBusy_hst : (s.showBusy).hst = s.hst := (State.showBusy_good s).same .hst rfl
@[simp] theorem State.showBusy_mix : (s.showBusy).mix = s.mix := (State.showBusy_good s).same .mix rfl
@[simp] theorem State.showBusy_sched : (s.showBusy).sched = s.sched := (State.showBusy_good s).same .sched rfl
@[simp] theorem State.showBusy_ost : (s.showBusy).ost = s.ost := (State.showBusy_good s).same .ost rfl
@[simp] theorem State.showBusy_cores : (s.showBusy).cores = s.cores := (State.showBusy_good s).same .cores rfl
@[simp] theorem State.showBusy_tdm : (s.showBusy).tdm = s.tdm := (State.showBusy_good s).same .tdm rfl
@[simp] theorem State.showBusy_aes : (s.showBusy).aes = s.aes := (State.showBusy_good s).same .aes rfl
@[simp] theorem State.showBusy_aesOut : (s.showBusy).aesOut = s.aesOut := (State.showBusy_good s).same .aesOut rfl
@[simp] theorem State.showBusy_vox : (s.showBusy).vox = s.vox := (State.showBusy_good s).same .vox rfl
@[simp] theorem State.showBusy_asc : (s.showBusy).asc = s.asc := (State.showBusy_good s).same .asc rfl
@[simp] theorem State.showBusy_mics : (s.showBusy).mics = s.mics := (State.showBusy_good s).same .mics rfl
@[simp] theorem State.showBusy_bound : (s.showBusy).bound = s.bound := (State.showBusy_good s).same .bound rfl
@[simp] theorem State.showBusy_ps : (s.showBusy).ps = s.ps := (State.showBusy_good s).same .ps rfl
@[simp] theorem State.showBusy_tly : (s.showBusy).tly = s.tly := (State.showBusy_good s).same .tly rfl
@[simp] theorem State.showBusy_macs : (s.showBusy).macs = s.macs := (State.showBusy_good s).same .macs rfl
@[simp] theorem State.showBusy_ptp : (s.showBusy).ptp = s.ptp := (State.showBusy_good s).same .ptp rfl
@[simp] theorem State.showBusy_srx : (s.showBusy).srx = s.srx := (State.showBusy_good s).same .srx rfl
@[simp] theorem State.showBusy_stx : (s.showBusy).stx = s.stx := (State.showBusy_good s).same .stx rfl
@[simp] theorem State.showBusy_acts : (s.showBusy).acts = s.acts := (State.showBusy_good s).same .acts rfl
@[simp] theorem State.showBusy_gpio : (s.showBusy).gpio = s.gpio := (State.showBusy_good s).same .gpio rfl
@[simp] theorem State.showBusy_pins : (s.showBusy).pins = s.pins := (State.showBusy_good s).same .pins rfl
@[simp] theorem State.showBusy_sessions : (s.showBusy).sessions = s.sessions := (State.showBusy_good s).same .sessions rfl
@[simp] theorem State.showBusy_owner : (s.showBusy).owner = s.owner := (State.showBusy_good s).same .owner rfl
@[simp] theorem State.showBusy_former : (s.showBusy).former = s.former := (State.showBusy_good s).same .former rfl
@[simp] theorem State.showBusy_ports : (s.showBusy).ports = s.ports := (State.showBusy_good s).same .ports rfl
@[simp] theorem State.showBusy_devBusy : (s.showBusy).devBusy = s.devBusy := (State.showBusy_good s).same .devBusy rfl
@[simp] theorem State.showBusy_enrol : (s.showBusy).enrol = s.enrol := (State.showBusy_good s).same .enrol rfl
@[simp] theorem State.showBusy_msgs : (s.showBusy).msgs = s.msgs := (State.showBusy_good s).same .msgs rfl
@[simp] theorem State.showBusy_plays : (s.showBusy).plays = s.plays := (State.showBusy_good s).same .plays rfl
@[simp] theorem State.showBusy_fw : (s.showBusy).fw = s.fw := (State.showBusy_good s).same .fw rfl
@[simp] theorem State.showBusy_flash : (s.showBusy).flash = s.flash := (State.showBusy_good s).same .flash rfl
@[simp] theorem State.showBusy_otp : (s.showBusy).otp = s.otp := (State.showBusy_good s).same .otp rfl
@[simp] theorem State.showBusy_maint : (s.showBusy).maint = s.maint := (State.showBusy_good s).same .maint rfl
@[simp] theorem State.showBusy_triggers : (s.showBusy).triggers = s.triggers := (State.showBusy_good s).same .triggers rfl
@[simp] theorem State.showBusy_armed : (s.showBusy).armed = s.armed := (State.showBusy_good s).same .armed rfl
@[simp] theorem State.showBusy_totals : (s.showBusy).totals = s.totals := (State.showBusy_good s).same .totals rfl
@[simp] theorem State.showBusy_totalsAt : (s.showBusy).totalsAt = s.totalsAt := (State.showBusy_good s).same .totalsAt rfl
@[simp] theorem State.showBusy_lib : (s.showBusy).lib = s.lib := (State.showBusy_good s).same .lib rfl
@[simp] theorem State.showBusy_bwt : (s.showBusy).bwt = s.bwt := (State.showBusy_good s).same .bwt rfl
@[simp] theorem State.showBusy_mir : (s.showBusy).mir = s.mir := (State.showBusy_good s).same .mir rfl
@[simp] theorem State.showBusy_cel : (s.showBusy).cel = s.cel := (State.showBusy_good s).same .cel rfl
@[simp] theorem State.showBusy_fab : (s.showBusy).fab = s.fab := (State.showBusy_good s).same .fab rfl
@[simp] theorem State.showBusy_clk : (s.showBusy).clk = s.clk := (State.showBusy_good s).same .clk rfl
@[simp] theorem State.showBusy_sup : (s.showBusy).sup = s.sup := (State.showBusy_good s).same .sup rfl
@[simp] theorem State.showBusy_image : (s.showBusy).image = s.image := (State.showBusy_good s).same .image rfl
@[simp] theorem State.showBusy_pending : (s.showBusy).pending = s.pending := (State.showBusy_good s).same .pending rfl

/-! ### State.coreCopies -/

@[simp] theorem State.coreCopies_live {a1 : _} : (s.coreCopies a1).live = s.live := (State.coreCopies_good s a1).same .live rfl
@[simp] theorem State.coreCopies_liveHist {a1 : _} : (s.coreCopies a1).liveHist = s.liveHist := (State.coreCopies_good s a1).same .liveHist rfl
@[simp] theorem State.coreCopies_tm {a1 : _} : (s.coreCopies a1).tm = s.tm := (State.coreCopies_good s a1).same .tm rfl
@[simp] theorem State.coreCopies_mem {a1 : _} : (s.coreCopies a1).mem = s.mem := (State.coreCopies_good s a1).same .mem rfl
@[simp] theorem State.coreCopies_free {a1 : _} : (s.coreCopies a1).free = s.free := (State.coreCopies_good s a1).same .free rfl
@[simp] theorem State.coreCopies_latches {a1 : _} : (s.coreCopies a1).latches = s.latches := (State.coreCopies_good s a1).same .latches rfl
@[simp] theorem State.coreCopies_straps {a1 : _} : (s.coreCopies a1).straps = s.straps := (State.coreCopies_good s a1).same .straps rfl
@[simp] theorem State.coreCopies_geo {a1 : _} : (s.coreCopies a1).geo = s.geo := (State.coreCopies_good s a1).same .geo rfl
@[simp] theorem State.coreCopies_hst {a1 : _} : (s.coreCopies a1).hst = s.hst := (State.coreCopies_good s a1).same .hst rfl
@[simp] theorem State.coreCopies_mix {a1 : _} : (s.coreCopies a1).mix = s.mix := (State.coreCopies_good s a1).same .mix rfl
@[simp] theorem State.coreCopies_sched {a1 : _} : (s.coreCopies a1).sched = s.sched := (State.coreCopies_good s a1).same .sched rfl
@[simp] theorem State.coreCopies_ost {a1 : _} : (s.coreCopies a1).ost = s.ost := (State.coreCopies_good s a1).same .ost rfl
@[simp] theorem State.coreCopies_cores {a1 : _} : (s.coreCopies a1).cores = s.cores := (State.coreCopies_good s a1).same .cores rfl
@[simp] theorem State.coreCopies_tdm {a1 : _} : (s.coreCopies a1).tdm = s.tdm := (State.coreCopies_good s a1).same .tdm rfl
@[simp] theorem State.coreCopies_aes {a1 : _} : (s.coreCopies a1).aes = s.aes := (State.coreCopies_good s a1).same .aes rfl
@[simp] theorem State.coreCopies_aesOut {a1 : _} : (s.coreCopies a1).aesOut = s.aesOut := (State.coreCopies_good s a1).same .aesOut rfl
@[simp] theorem State.coreCopies_vox {a1 : _} : (s.coreCopies a1).vox = s.vox := (State.coreCopies_good s a1).same .vox rfl
@[simp] theorem State.coreCopies_asc {a1 : _} : (s.coreCopies a1).asc = s.asc := (State.coreCopies_good s a1).same .asc rfl
@[simp] theorem State.coreCopies_mics {a1 : _} : (s.coreCopies a1).mics = s.mics := (State.coreCopies_good s a1).same .mics rfl
@[simp] theorem State.coreCopies_bound {a1 : _} : (s.coreCopies a1).bound = s.bound := (State.coreCopies_good s a1).same .bound rfl
@[simp] theorem State.coreCopies_ps {a1 : _} : (s.coreCopies a1).ps = s.ps := (State.coreCopies_good s a1).same .ps rfl
@[simp] theorem State.coreCopies_tly {a1 : _} : (s.coreCopies a1).tly = s.tly := (State.coreCopies_good s a1).same .tly rfl
@[simp] theorem State.coreCopies_macs {a1 : _} : (s.coreCopies a1).macs = s.macs := (State.coreCopies_good s a1).same .macs rfl
@[simp] theorem State.coreCopies_ptp {a1 : _} : (s.coreCopies a1).ptp = s.ptp := (State.coreCopies_good s a1).same .ptp rfl
@[simp] theorem State.coreCopies_srx {a1 : _} : (s.coreCopies a1).srx = s.srx := (State.coreCopies_good s a1).same .srx rfl
@[simp] theorem State.coreCopies_stx {a1 : _} : (s.coreCopies a1).stx = s.stx := (State.coreCopies_good s a1).same .stx rfl
@[simp] theorem State.coreCopies_acts {a1 : _} : (s.coreCopies a1).acts = s.acts := (State.coreCopies_good s a1).same .acts rfl
@[simp] theorem State.coreCopies_gpio {a1 : _} : (s.coreCopies a1).gpio = s.gpio := (State.coreCopies_good s a1).same .gpio rfl
@[simp] theorem State.coreCopies_pins {a1 : _} : (s.coreCopies a1).pins = s.pins := (State.coreCopies_good s a1).same .pins rfl
@[simp] theorem State.coreCopies_sessions {a1 : _} : (s.coreCopies a1).sessions = s.sessions := (State.coreCopies_good s a1).same .sessions rfl
@[simp] theorem State.coreCopies_owner {a1 : _} : (s.coreCopies a1).owner = s.owner := (State.coreCopies_good s a1).same .owner rfl
@[simp] theorem State.coreCopies_former {a1 : _} : (s.coreCopies a1).former = s.former := (State.coreCopies_good s a1).same .former rfl
@[simp] theorem State.coreCopies_ports {a1 : _} : (s.coreCopies a1).ports = s.ports := (State.coreCopies_good s a1).same .ports rfl
@[simp] theorem State.coreCopies_devBusy {a1 : _} : (s.coreCopies a1).devBusy = s.devBusy := (State.coreCopies_good s a1).same .devBusy rfl
@[simp] theorem State.coreCopies_enrol {a1 : _} : (s.coreCopies a1).enrol = s.enrol := (State.coreCopies_good s a1).same .enrol rfl
@[simp] theorem State.coreCopies_msgs {a1 : _} : (s.coreCopies a1).msgs = s.msgs := (State.coreCopies_good s a1).same .msgs rfl
@[simp] theorem State.coreCopies_plays {a1 : _} : (s.coreCopies a1).plays = s.plays := (State.coreCopies_good s a1).same .plays rfl
@[simp] theorem State.coreCopies_fw {a1 : _} : (s.coreCopies a1).fw = s.fw := (State.coreCopies_good s a1).same .fw rfl
@[simp] theorem State.coreCopies_flash {a1 : _} : (s.coreCopies a1).flash = s.flash := (State.coreCopies_good s a1).same .flash rfl
@[simp] theorem State.coreCopies_otp {a1 : _} : (s.coreCopies a1).otp = s.otp := (State.coreCopies_good s a1).same .otp rfl
@[simp] theorem State.coreCopies_maint {a1 : _} : (s.coreCopies a1).maint = s.maint := (State.coreCopies_good s a1).same .maint rfl
@[simp] theorem State.coreCopies_triggers {a1 : _} : (s.coreCopies a1).triggers = s.triggers := (State.coreCopies_good s a1).same .triggers rfl
@[simp] theorem State.coreCopies_armed {a1 : _} : (s.coreCopies a1).armed = s.armed := (State.coreCopies_good s a1).same .armed rfl
@[simp] theorem State.coreCopies_totals {a1 : _} : (s.coreCopies a1).totals = s.totals := (State.coreCopies_good s a1).same .totals rfl
@[simp] theorem State.coreCopies_totalsAt {a1 : _} : (s.coreCopies a1).totalsAt = s.totalsAt := (State.coreCopies_good s a1).same .totalsAt rfl
@[simp] theorem State.coreCopies_lib {a1 : _} : (s.coreCopies a1).lib = s.lib := (State.coreCopies_good s a1).same .lib rfl
@[simp] theorem State.coreCopies_bwt {a1 : _} : (s.coreCopies a1).bwt = s.bwt := (State.coreCopies_good s a1).same .bwt rfl
@[simp] theorem State.coreCopies_mir {a1 : _} : (s.coreCopies a1).mir = s.mir := (State.coreCopies_good s a1).same .mir rfl
@[simp] theorem State.coreCopies_cel {a1 : _} : (s.coreCopies a1).cel = s.cel := (State.coreCopies_good s a1).same .cel rfl
@[simp] theorem State.coreCopies_fab {a1 : _} : (s.coreCopies a1).fab = s.fab := (State.coreCopies_good s a1).same .fab rfl
@[simp] theorem State.coreCopies_clk {a1 : _} : (s.coreCopies a1).clk = s.clk := (State.coreCopies_good s a1).same .clk rfl
@[simp] theorem State.coreCopies_sup {a1 : _} : (s.coreCopies a1).sup = s.sup := (State.coreCopies_good s a1).same .sup rfl
@[simp] theorem State.coreCopies_image {a1 : _} : (s.coreCopies a1).image = s.image := (State.coreCopies_good s a1).same .image rfl
@[simp] theorem State.coreCopies_pending {a1 : _} : (s.coreCopies a1).pending = s.pending := (State.coreCopies_good s a1).same .pending rfl

end Sys2Proof.Machine
end

