-- ==== Sys2Proof/Laws/Drover.lean ====
section
/-! SUPPORT. What the issue of a Drover bundle with one instruction does: register instructions put results into flight, nothing else. -/

-- One proof at a time: the package as one text then takes less memory.
set_option Elab.async false

namespace Sys2Proof.Machine

open Sys2Proof

variable {s t u : State} {a : Issue} {op : DrvOp} {c k : Nat} {x y : CoreSt}

theorem State.core_setCore_self : (s.setCore c x).core c = x := Cells.get_set_self
theorem State.core_setCore_other (h : k ≠ c) : (s.setCore c x).core k = s.core k := Cells.get_set_other h
theorem State.regs_setCore : (s.setCore c x).regs = s.regs := rfl
theorem State.straps_setCore : (s.setCore c x).straps = s.straps := rfl
theorem State.same_setCore {p : Part} (h : p ≠ .cores) : p.same s (s.setCore c x) := by
  cases p <;> first | rfl | exact absurd rfl h

theorem State.same_bump {f : Fld} {p : Part} (h : p ≠ .regs) : p.same s (s.bump f) := by
  cases p <;> first | exact absurd rfl h | exact (State.bump_good s f).same _ rfl

theorem State.core_congr (h : t.cores = s.cores) : t.core k = s.core k := by simp only [State.core, h]

/-- An instruction that touches registers alone. -/
def DrvOp.regOnly : DrvOp → Bool
  | .ldv _ | .stv _ | .sta _ | .stas _ | .ldw _ | .stw _ | .ldwf _ | .stwf _ | .br _ | .brx _ | .call _ | .loop _ | .reti _
  | .take _ | .give _ | .done _ | .tapset _ | .taprd _ | .accadd _ | .accrc _ => false
  | _ => true

theorem State.doMem_regOnly (h : DrvOp.regOnly op = true) {p : Nat → Int} : s.doMem c x p op = ⟨s, [], none⟩ := by
  cases op <;> first | rfl | exact nomatch h

theorem State.doPort_regOnly (h : DrvOp.regOnly op = true) : s.doPort c x op = (s, none, none) := by
  cases op <;> first | rfl | exact nomatch h

theorem CoreSt.over_regOnly (h : DrvOp.regOnly op = true) : x.over y op = x.finish := by
  cases op <;> first | rfl | exact nomatch h

/-- The bundle of register instructions: both slots' results go into flight. -/
theorem State.runBundle_regOnly {p q : DrvOp} (hp : DrvOp.regOnly p = true) (hq : DrvOp.regOnly q = true) :
    s.runBundle c p q = (s.setCore c ((s.core c).fly ((s.core c).regRes p ++ (s.core c).regRes q))).setCore c
      (((s.core c).fly ((s.core c).regRes p ++ (s.core c).regRes q)).finish) := by
  unfold State.runBundle
  simp only [State.doMem_regOnly hp, State.doMem_regOnly hq, State.doPort_regOnly hq, List.append_nil, CoreSt.over_regOnly hq,
    State.raise, State.core_setCore_self]

/-- A bundle ends: a core's pending fault, debug request and step request are as the end of a bundle leaves them. -/
theorem CoreSt.applyOn_quiet {old : Cells Scale} {w : Wr} :
    (x.applyOn old w).trap = x.trap ∧ (x.applyOn old w).dbgPend = x.dbgPend ∧ (x.applyOn old w).stepReq = x.stepReq ∧
      (x.applyOn old w).stalled = x.stalled := by
  cases w <;> first | exact ⟨rfl, rfl, rfl, rfl⟩ | (simp only [CoreSt.applyOn, CoreSt.setLoop]; repeat' split) <;> exact ⟨rfl, rfl, rfl, rfl⟩

theorem CoreSt.applyAll_quiet {ws : List Wr} :
    (x.applyAll ws).trap = x.trap ∧ (x.applyAll ws).dbgPend = x.dbgPend ∧ (x.applyAll ws).stepReq = x.stepReq ∧
      (x.applyAll ws).stalled = x.stalled := by
  unfold CoreSt.applyAll
  generalize x.scls = old
  induction ws generalizing x with
  | nil => exact ⟨rfl, rfl, rfl, rfl⟩
  | cons w ws ih =>
    have h := ih (x := x.applyOn old w)
    have e := CoreSt.applyOn_quiet (x := x) (old := old) (w := w)
    exact ⟨h.1.trans e.1, h.2.1.trans e.2.1, h.2.2.1.trans e.2.2.1, h.2.2.2.trans e.2.2.2⟩

theorem CoreSt.retireBundle_quiet (h : x.trap = none) : x.retireBundle.trap = none ∧ x.retireBundle.dbgPend = x.dbgPend ∧
    x.retireBundle.stepReq = x.stepReq ∧ x.retireBundle.stalled = x.stalled := by
  unfold CoreSt.retireBundle CoreSt.nextCycle
  have e := CoreSt.applyAll_quiet (x := { x with cycle := x.cycle + 1, flight := x.flight.filter (fun l => x.cycle + 1 < l.due) })
    (ws := (x.flight.filter (fun l => l.due ≤ x.cycle + 1)).map (fun (l : Landing) => l.wr))
  exact ⟨congrArg (Option.map _) (e.1.trans h), e.2.1, e.2.2.1, e.2.2.2⟩

theorem CoreSt.advance_quiet : x.advance.trap = x.trap ∧ x.advance.dbgPend = x.dbgPend ∧ x.advance.stepReq = x.stepReq ∧
      x.advance.stalled = x.stalled := by
  unfold CoreSt.advance
  simp only []
  repeat' split
  all_goals exact ⟨rfl, rfl, rfl, rfl⟩

theorem CoreSt.countDelay_quiet : x.countDelay.trap = x.trap ∧ x.countDelay.dbgPend = x.dbgPend ∧ x.countDelay.stepReq = x.stepReq ∧
      x.countDelay.stalled = x.stalled := by
  unfold CoreSt.countDelay
  repeat' split
  all_goals exact ⟨rfl, rfl, rfl, rfl⟩

theorem CoreSt.finish_quiet (h : x.trap = none) : x.finish.trap = none ∧ x.finish.dbgPend = x.dbgPend ∧ x.finish.stepReq = x.stepReq ∧
    x.finish.stalled = x.stalled := by
  have a := CoreSt.advance_quiet (x := x)
  have d := CoreSt.countDelay_quiet (x := x.advance)
  have e := CoreSt.retireBundle_quiet (x := x.advance.countDelay) (by rw [d.1, a.1, h])
  exact ⟨e.1, by rw [CoreSt.finish, e.2.1, d.2.1, a.2.1], by rw [CoreSt.finish, e.2.2.1, d.2.2.1, a.2.2.1],
    by rw [CoreSt.finish, e.2.2.2, d.2.2.2, a.2.2.2]⟩

/-- Nothing waits for the end of the bundle: the boundary changes nothing. -/
theorem State.boundary_quiet (h : (s.core c).trap = none) (hd : (s.core c).dbgPend = false) : s.boundary c = s := by
  unfold State.boundary
  simp only [h, hd, Bool.false_and]
  split <;> rfl

/-- The cores are at rest: nothing issues. -/
theorem State.runSteps_quiet {n : Nat} (h : ∀ p ∈ s.cores, p.2.stepReq = false ∧ s.unstalls p.1 = false) : s.runSteps n = s := by
  cases n with
  | zero => rfl
  | succ n =>
    have h1 : s.cores.find? (fun p => p.2.stepReq) = none := List.find?_eq_none.mpr fun p hp => by simp [(h p hp).1]
    have h2 : s.cores.find? (fun p => s.unstalls p.1) = none := List.find?_eq_none.mpr fun p hp => by simp [(h p hp).2]
    rw [State.runSteps, h1]
    simp only [h2]

theorem State.unstalls_none (h : (s.core k).stalled = none) : s.unstalls k = false := by
  unfold State.unstalls; simp only [h]

theorem Cells.get_mem {α : Type} {d : α} {l : Cells α} : l.get d k = d ∨ (k, l.get d k) ∈ l := by
  induction l with
  | nil => exact .inl rfl
  | cons p l ih =>
    obtain ⟨q, v⟩ := p
    unfold Cells.get
    split
    · rename_i e; subst e; exact .inr (List.mem_cons_self ..)
    · exact ih.imp id (List.mem_cons_of_mem _)

/-- What rest says of one core: no step asked for; nothing stalled, or what is stalled waits on. -/
theorem State.rests_core (h : s.rests = true) :
    (s.core k).stepReq = false ∧ ((s.core k).stalled = none ∨ (k < 32 ∧ s.unstalls k = false)) := by
  rcases Cells.get_mem (d := coreReset) (l := s.cores) (k := k) with e | e
  · unfold State.core; rw [e]; exact ⟨rfl, .inl rfl⟩
  · have := List.all_eq_true.mp h _ e
    simpa [State.core] using this

theorem State.rests_mem {p : Nat × CoreSt} (h : s.rests = true) (hp : p ∈ s.cores) : p.2.stepReq = false := by
  have := List.all_eq_true.mp h _ hp
  simp only [Bool.and_eq_true, Bool.not_eq_true'] at this
  exact this.1

theorem State.rests_unstalls (h : s.rests = true) : s.unstalls k = false :=
  (State.rests_core h).2.elim State.unstalls_none And.right

theorem State.rests_quiet {n : Nat} (h : s.rests = true) : s.runSteps n = s :=
  State.runSteps_quiet fun _ hp => ⟨State.rests_mem h hp, State.rests_unstalls h⟩

theorem State.mem_setCore {p : Nat × CoreSt} (h : p ∈ (s.setCore c x).cores) : p = (c, x) ∨ p ∈ s.cores := by
  unfold State.setCore Cells.set at h
  simp only at h
  split at h
  · exact .inr (Cells.mem_erase h)
  · exact Cells.mem_insert h

theorem State.rd_coreCopies {g : Fld} (h1 : g.addr ≠ 0x30800004 + 65536 * c) (h2 : g.addr ≠ 0x30A00004) : (s.coreCopies c).rd g = s.rd g := by
  unfold State.coreCopies
  rw [State.rd_wr_addr h2, State.rd_wr_addr h1, State.rd_wr_addr h1]

theorem State.on_coreCopies {g : Fld} (h1 : g.addr ≠ 0x30800004 + 65536 * c) (h2 : g.addr ≠ 0x30A00004) : (s.coreCopies c).on g = s.on g := by
  simp only [State.on, State.rd_coreCopies h1 h2]

/-- Breakpoints depend on their own registers alone. -/
theorem State.breaksAt_congr {pc : Nat} (h : ∀ i, i < 4 → t.rd (R.DRV_BKPT_EN c i) = s.rd (R.DRV_BKPT_EN c i) ∧
    t.rd (R.DRV_BKPT_ADDR c i) = s.rd (R.DRV_BKPT_ADDR c i)) : t.breaksAt c pc = s.breaksAt c pc := by
  unfold State.breaksAt State.on
  rw [Bool.eq_iff_iff, List.any_eq_true, List.any_eq_true]
  constructor <;> rintro ⟨i, hi, hb⟩ <;> refine ⟨i, hi, ?_⟩
  · rw [← (h i (List.mem_range.mp hi)).1, ← (h i (List.mem_range.mp hi)).2]; exact hb
  · rw [(h i (List.mem_range.mp hi)).1, (h i (List.mem_range.mp hi)).2]; exact hb

theorem addr_bkpt_en {i j : Nat} : (R.DRV_BKPT_EN i j).addr = 0x30800010 + 65536 * i + 4 * j := rfl
theorem addr_bkpt {i j : Nat} : (R.DRV_BKPT_ADDR i j).addr = 0x30800010 + 65536 * i + 4 * j := rfl
theorem addr_bundle {i : Nat} : (R.DRV_CNT_BUNDLE_VALUE i).addr = 0x30800040 + 65536 * i := rfl
theorem addr_status {i : Nat} : (R.DRV_STATUS_w i).addr = 0x30800004 + 65536 * i := rfl
theorem addr_asat {i : Nat} : (R.DRV_STATUS_ASAT i).addr = 0x30800004 + 65536 * i := rfl
theorem addr_ssat {i : Nat} : (R.DRV_STATUS_SSAT i).addr = 0x30800004 + 65536 * i := rfl
theorem addr_rot : R.DRV_CL_ROT_ROT.addr = 0x30A00004 := rfl
theorem addr_ctrl_rot {i : Nat} : (R.DRV_CTRL_ROT i).addr = 0x30800000 + 65536 * i := rfl

theorem State.breaksAt_coreCopies {pc : Nat} : (s.coreCopies c).breaksAt c pc = s.breaksAt c pc :=
  State.breaksAt_congr fun i hi =>
    ⟨State.rd_coreCopies (by rw [addr_bkpt_en]; omega) (by rw [addr_bkpt_en]; omega),
      State.rd_coreCopies (by rw [addr_bkpt]; omega) (by rw [addr_bkpt]; omega)⟩

/-- The state in which a bundle runs: its core no longer stalled, the bundle counted. -/
def State.readied (s : State) (c : Nat) : State := (s.setCore c { s.core c with stalled := none }).bump (R.DRV_CNT_BUNDLE_VALUE c)

/-- A legal bundle that waits for no read issues; where nothing happens at its end, what it does and the copies of its status are all. -/
theorem State.issue_quiet {p q : DrvOp} (hl : (s.core c).illegal p q = false) (hs : (s.core c).stalls p q = false)
    (ht : (((s.readied c).runBundle c p q).core c).trap = none) (hd : (((s.readied c).runBundle c p q).core c).dbgPend = false)
    (hb : ((s.readied c).runBundle c p q).breaksAt c (s.core c).pc = false) :
    s.issue c p q = ((s.readied c).runBundle c p q).coreCopies c := by
  have k : (((s.readied c).runBundle c p q).coreCopies c).core c = ((s.readied c).runBundle c p q).core c := State.core_congr State.coreCopies_cores
  unfold State.issue
  simp only [hl, hs, Bool.and_false, Bool.false_eq_true, if_false]
  change (if (((s.readied c).runBundle c p q).coreCopies c |>.boundary c).breaksAt c (s.core c).pc = true
      then ((((s.readied c).runBundle c p q).coreCopies c).boundary c).askHalt c
      else (((s.readied c).runBundle c p q).coreCopies c).boundary c) = _
  rw [State.boundary_quiet (by rw [k, ht]) (by rw [k, hd]), State.breaksAt_coreCopies, hb, if_neg Bool.false_ne_true]

/-- The bundle of a command issued alone. -/
def Issue.slots (a : Issue) (op : DrvOp) : DrvOp × DrvOp := (if a.slot1 then .nop else op, if a.slot1 then op else .nop)

theorem State.command_alone (h : s.issuesAlone a op) :
    s.command a op = (s.issue a.core.val (Issue.slots a op).1 (Issue.slots a op).2).runSteps 64 := by
  unfold State.command Issue.slots
  have hz : decodeDrv a.partner.toNat = .nop := by rw [h.1]; rfl
  rw [State.rests_quiet h.2.2.2.2.2.1]
  simp only [h.2.1, hz, Bool.not_true, Bool.false_eq_true, if_false]
  cases a.slot1 <;> rfl

theorem State.rd_readied {g : Fld} (h : g.addr ≠ 0x30800040 + 65536 * c) : (s.readied c).rd g = s.rd g := by
  unfold State.readied State.bump State.count
  rw [if_neg (by decide), State.rd_wr_addr h]
  rfl

theorem State.rd_bump_self {f : Fld} (h : f.lo = 0 ∧ f.hi = 31) : (s.bump f).rd f = min 0xFFFFFFFF (s.rd f + 1) := by
  unfold State.bump State.count
  rw [if_neg Nat.one_ne_zero, State.rd_wr_self (by rw [h.1]; exact Nat.zero_le _), h.1, h.2]
  apply Nat.mod_eq_of_lt
  omega

/-- A bit that a write of a register's field leaves: outside the field, or written with what it holds. -/
theorem State.testBit_wr {f g : Fld} {v b : Nat} (hf : f.lo ≤ f.hi)
    (h : g.addr = f.addr → f.lo ≤ b → b ≤ f.hi → v.testBit (b - f.lo) = (s.word f).testBit b) :
    ((s.wr f v).word g).testBit b = (s.word g).testBit b := by
  by_cases e : g.addr = f.addr
  · have hb := h e
    show (((s.regs.set 0 f.addr (setBits (s.word f) f.hi f.lo v ^^^ s.rstOf f)).get 0 g.addr) ^^^ s.rstOf g).testBit b = _
    rw [e, Cells.get_set_self, Nat.testBit_xor, Nat.testBit_xor, testBit_setBits hf]
    have e2 : (if b < f.lo then (s.word f).testBit b else if b ≤ f.hi then v.testBit (b - f.lo) else (s.word f).testBit b) = (s.word f).testBit b := by
      repeat' split
      · rfl
      · exact hb (by omega) (by omega)
      · rfl
    rw [e2, State.word, State.word, Nat.testBit_xor, Nat.testBit_xor, e]
    cases (s.regs.get 0 f.addr).testBit b <;> cases (s.rstOf f).testBit b <;> rfl
  · rw [State.word_wr_addr e]

theorem State.testBit_bump {f g : Fld} {b : Nat} (hf : f.lo ≤ f.hi) (h : g.addr ≠ f.addr) :
    ((s.bump f).word g).testBit b = (s.word g).testBit b := by
  unfold State.bump State.count
  rw [if_neg Nat.one_ne_zero]
  exact State.testBit_wr hf fun e => absurd e h

theorem fld_asat : (R.DRV_STATUS_ASAT c).lo = 7 ∧ (R.DRV_STATUS_ASAT c).hi = 7 := ⟨rfl, rfl⟩
theorem fld_ssat : (R.DRV_STATUS_SSAT c).lo = 6 ∧ (R.DRV_STATUS_SSAT c).hi = 6 := ⟨rfl, rfl⟩
theorem fld_rot : R.DRV_CL_ROT_ROT.lo = 0 ∧ R.DRV_CL_ROT_ROT.hi = 31 := ⟨rfl, rfl⟩

/-- The copies in a core's status (R120). -/
theorem State.asat_coreCopies (h : c < 32) : (s.coreCopies c).on (R.DRV_STATUS_ASAT c) = (s.core c).srBit 9 := by
  have e : ∀ u : State, (u.wr (R.DRV_STATUS_SSAT c) (b2n ((s.core c).srBit 8))).rd (R.DRV_STATUS_ASAT c) = u.rd (R.DRV_STATUS_ASAT c) := fun u =>
    State.rd_wr_bits rfl ⟨rfl, rfl⟩ (Nat.le_refl _) (Nat.le_refl _) (.inr (Nat.lt_succ_self _))
  unfold State.coreCopies State.on
  rw [State.rd_wr_addr (by rw [addr_asat, addr_rot]; omega), e, State.rd_wr_self (by rw [fld_asat.1, fld_asat.2]), fld_asat.1, fld_asat.2]
  cases (s.core c).srBit 9 <;> rfl

theorem State.ssat_coreCopies (h : c < 32) : (s.coreCopies c).on (R.DRV_STATUS_SSAT c) = (s.core c).srBit 8 := by
  unfold State.coreCopies State.on
  rw [State.rd_wr_addr (by rw [addr_ssat, addr_rot]; omega), State.rd_wr_self (by rw [fld_ssat.1, fld_ssat.2]), fld_ssat.1, fld_ssat.2]
  cases (s.core c).srBit 8 <;> rfl

theorem State.testBit_coreCopies {g : Fld} {b : Nat} (h1 : g.addr = (R.DRV_STATUS_w c).addr → b ∉ [6, 7])
    (h2 : g.addr = R.DRV_CL_ROT_ROT.addr → b ≠ c) : ((s.coreCopies c).word g).testBit b = (s.word g).testBit b := by
  have h6 : g.addr = (R.DRV_STATUS_w c).addr → b ≠ 6 ∧ b ≠ 7 := fun e => by simpa using h1 e
  unfold State.coreCopies
  rw [State.testBit_wr (by rw [fld_rot.1, fld_rot.2]; decide), State.testBit_wr (by rw [fld_ssat.1, fld_ssat.2]),
    State.testBit_wr (by rw [fld_asat.1, fld_asat.2])]
  · intro e; rw [fld_asat.1, fld_asat.2]; have := h6 (by rw [e, addr_asat, addr_status]); omega
  · intro e; rw [fld_ssat.1, fld_ssat.2]; have := h6 (by rw [e, addr_ssat, addr_status]); omega
  · intro e lo hi
    rw [fld_rot.1, Nat.sub_zero, testBit_setBits (Nat.le_refl _)]
    have hb := h2 e
    have er : ∀ u : State, (u.rd R.DRV_CL_ROT_ROT).testBit b = (u.word R.DRV_CL_ROT_ROT).testBit b := fun u => by
      rw [State.rd, testBit_bitsOf, fld_rot.1, fld_rot.2, Nat.zero_add]
      rw [fld_rot.2] at hi
      rw [decide_eq_true (by omega), Bool.true_and]
    split
    · exact er _
    · rw [if_neg (by omega)]; exact er _

theorem State.rd_readied_bundle : (s.readied c).rd (R.DRV_CNT_BUNDLE_VALUE c) = min 0xFFFFFFFF (s.rd (R.DRV_CNT_BUNDLE_VALUE c) + 1) := by
  unfold State.readied
  rw [State.rd_bump_self ⟨rfl, rfl⟩, State.rd_congr (s := s) (t := s.setCore c { s.core c with stalled := none }) rfl rfl]

theorem State.straps_readied : (s.readied c).straps = s.straps := by
  unfold State.readied
  rw [State.bump_straps]
  rfl

theorem State.testBit_readied {g : Fld} {b : Nat} (h : g.addr ≠ (R.DRV_CNT_BUNDLE_VALUE c).addr) :
    ((s.readied c).word g).testBit b = (s.word g).testBit b := by
  unfold State.readied
  rw [State.testBit_bump (Nat.zero_le _) h, State.word_congr (s := s) (t := s.setCore c { s.core c with stalled := none }) rfl rfl]

theorem State.same_coreCopies {p : Part} (h : p ≠ .regs) : p.same s (s.coreCopies c) := by
  cases p <;> first | exact absurd rfl h | exact (State.coreCopies_good s c).same _ rfl

/-- The end state of a bundle as `coreGoes` says it, from the state `r` its slots leave, whose registers are those of the readied state. -/
theorem State.coreGoes_of {r : State} {ps : List Part} (h : c < 32) (hx : r.core c = x) (hk : ∀ k, k ≠ c → r.core k = s.core k)
    (hr : r.regs = (s.readied c).regs) (hst : r.straps = s.straps) (hps : ∀ p : Part, p ∉ [Part.cores, .regs] ++ ps → p.same s r) :
    s.coreGoes c x [] ps (r.coreCopies c) := by
  have hst' : r.straps = (s.readied c).straps := hst.trans State.straps_readied.symm
  unfold State.coreGoes
  refine ⟨(State.core_congr State.coreCopies_cores).trans hx, fun k e => (State.core_congr State.coreCopies_cores).trans (hk k e), ?_,
    by rw [State.asat_coreCopies h, hx], by rw [State.ssat_coreCopies h, hx], ?_, ?_⟩
  · rw [State.rd_coreCopies (by rw [addr_bundle]; omega) (by rw [addr_bundle]; omega), State.rd_congr hr hst']
    exact State.rd_readied_bundle
  · intro g b h1 h2 h3
    rw [State.testBit_coreCopies (fun e => by simpa using h2 e) h3, State.word_congr hr hst', State.testBit_readied h1]
  · intro p hp
    exact Part.same_trans (hps p hp) (State.same_coreCopies fun e => hp (by rw [e]; simp))

theorem CoreSt.fly_quiet {rs : Res} : (x.fly rs).trap = x.trap ∧ (x.fly rs).dbgPend = x.dbgPend ∧ (x.fly rs).stepReq = x.stepReq ∧
    (x.fly rs).stalled = x.stalled := ⟨rfl, rfl, rfl, rfl⟩

theorem State.readied_core : (s.readied c).core c = { s.core c with stalled := none } := by
  unfold State.readied
  rw [State.core_congr State.bump_cores, State.core_setCore_self]

theorem State.readied_core_other (h : k ≠ c) : (s.readied c).core k = s.core k := by
  unfold State.readied
  rw [State.core_congr State.bump_cores, State.core_setCore_other h]

theorem State.mem_readied {p : Nat × CoreSt} (h : p ∈ (s.readied c).cores) : p = (c, { s.core c with stalled := none }) ∨ p ∈ s.cores := by
  unfold State.readied at h
  rw [State.bump_cores] at h
  exact State.mem_setCore h

/-- Another core's bundle still waits after this core's bundle. -/
theorem State.unstalls_after {r : State} (hk : k ≠ c) (h32 : k < 32) (hr : r.regs = (s.readied c).regs) (hst : r.straps = s.straps)
    (hc : r.core k = s.core k) (hg : r.clk = s.clk) : (r.coreCopies c).unstalls k = s.unstalls k := by
  have e : ∀ g : Fld, g.addr ≠ 0x30800004 + 65536 * c → g.addr ≠ 0x30A00004 → g.addr ≠ 0x30800040 + 65536 * c → (r.coreCopies c).rd g = s.rd g :=
    fun g h1 h2 h3 => by rw [State.rd_coreCopies h1 h2, State.rd_congr hr (hst.trans State.straps_readied.symm), State.rd_readied h3]
  have a1 : (R.DRV_STATUS_STATE k).addr = 0x30800004 + 65536 * k := rfl
  have a2 : (R.DRV_CTRL_RUN k).addr = 0x30800000 + 65536 * k := rfl
  have a3 : R.CLK_GATE_NOW_VALUE.addr = 0x50050038 := rfl
  have hc' : (r.coreCopies c).core k = s.core k := (State.core_congr State.coreCopies_cores).trans hc
  have hg' : (r.coreCopies c).clk = s.clk := State.coreCopies_clk.trans hg
  unfold State.unstalls State.coreState State.on State.gated
  rw [hc', hg', e _ (by rw [a1]; omega) (by rw [a1]; omega) (by rw [a1]; omega), e _ (by rw [a2]; omega) (by rw [a2]; omega) (by rw [a2]; omega),
    e _ (by rw [a3]; omega) (by rw [a3]; omega) (by rw [a3]; omega)]

/-- An instruction that touches registers alone, its bundle issued alone: its results go into flight and nothing else happens (R93, R95). -/
theorem State.command_regOnly (h : s.issuesAlone a op) (ho : DrvOp.regOnly op = true) :
    s.coreGoes a.core.val (((s.core a.core.val).fly ((s.core a.core.val).regRes op)).finish) [] [] (s.command a op) := by
  have h32 : a.core.val < 32 := a.core.isLt
  rw [State.command_alone h]
  obtain ⟨-, hi, ht, hd, hb, hs, hl, hst⟩ := h
  generalize a.core.val = c at *
  have hsl : (s.core c).stalled = none := by
    unfold State.issues at hi
    simp only [Bool.and_eq_true, Option.isNone_iff_eq_none] at hi
    exact hi.2
  have hcore : (s.readied c).core c = s.core c := by
    rw [State.readied_core]
    generalize s.core c = x at hsl
    obtain ⟨⟩ := x
    simp_all
  have hp : DrvOp.regOnly (Issue.slots a op).1 = true ∧ DrvOp.regOnly (Issue.slots a op).2 = true := by
    unfold Issue.slots; cases a.slot1
    · exact ⟨ho, rfl⟩
    · exact ⟨rfl, ho⟩
  have hl : (s.core c).illegal (Issue.slots a op).1 (Issue.slots a op).2 = false := hl
  have hst : (s.core c).stalls (Issue.slots a op).1 (Issue.slots a op).2 = false := hst
  have hres : (s.core c).regRes (Issue.slots a op).1 ++ (s.core c).regRes (Issue.slots a op).2 = (s.core c).regRes op := by
    unfold Issue.slots; cases a.slot1
    · exact List.append_nil _
    · rfl
  have hrun := State.runBundle_regOnly (s := s.readied c) (c := c) hp.1 hp.2
  rw [hcore, hres] at hrun
  have hx := CoreSt.finish_quiet (x := (s.core c).fly ((s.core c).regRes op)) ht
  have hrc : ((s.readied c).runBundle c (Issue.slots a op).1 (Issue.slots a op).2).core c = ((s.core c).fly ((s.core c).regRes op)).finish := by
    rw [hrun, State.core_setCore_self]
  have hsame : ∀ p : Part, p ≠ .cores → p ≠ .regs → p.same s ((s.readied c).runBundle c (Issue.slots a op).1 (Issue.slots a op).2) := fun p h1 h2 => by
    rw [hrun]
    exact Part.same_trans (State.same_setCore h1) (Part.same_trans (State.same_bump h2)
      (Part.same_trans (State.same_setCore h1) (State.same_setCore h1)))
  rw [State.issue_quiet hl hst (by rw [hrc, hx.1]) (by rw [hrc, hx.2.1]; exact hd)]
  · rw [State.runSteps_quiet]
    · refine State.coreGoes_of h32 hrc ?_ ?_ ?_ ?_
      · intro k e; rw [hrun, State.core_setCore_other e, State.core_setCore_other e, State.readied_core_other e]
      · rw [hrun, State.regs_setCore, State.regs_setCore]
      · rw [hrun, State.straps_setCore, State.straps_setCore, State.straps_readied]
      · intro p hp
        have h1 : p ≠ .cores := fun e => hp (by rw [e]; simp)
        have h2 : p ≠ .regs := fun e => hp (by rw [e]; simp)
        exact hsame p h1 h2
    · intro p hp
      refine ⟨?_, ?_⟩
      · rw [State.coreCopies_cores, hrun] at hp
        rcases State.mem_setCore hp with e | e
        · rw [e]; exact hx.2.2.1.trans (State.rests_core hs).1
        · rcases State.mem_setCore e with e | e
          · rw [e]; exact (State.rests_core hs).1
          · rcases State.mem_readied e with e | e
            · rw [e]; exact (State.rests_core hs).1
            · exact State.rests_mem hs e
      · by_cases e : p.1 = c
        · rw [e]
          refine State.unstalls_none ?_
          rw [State.core_congr State.coreCopies_cores, hrc]
          exact hx.2.2.2.trans hsl
        · have ho : ((s.readied c).runBundle c (Issue.slots a op).1 (Issue.slots a op).2).core p.1 = s.core p.1 := by
            rw [hrun, State.core_setCore_other e, State.core_setCore_other e, State.readied_core_other e]
          rcases (State.rests_core (k := p.1) hs).2 with h | h
          · exact State.unstalls_none (by rw [State.core_congr State.coreCopies_cores, ho, h])
          · rw [State.unstalls_after e h.1 (by rw [hrun, State.regs_setCore, State.regs_setCore])
              (by rw [hrun, State.straps_setCore, State.straps_setCore, State.straps_readied]) ho (hsame .clk nofun nofun), h.2]
  · rw [hrun, State.breaksAt_congr (s := s)]
    · exact hb
    · intro i hi
      have e : ∀ g : Fld, (((s.readied c).setCore c ((s.core c).fly ((s.core c).regRes op))).setCore c
          ((s.core c).fly ((s.core c).regRes op)).finish).rd g = (s.readied c).rd g := fun g =>
        State.rd_congr (State.regs_setCore.trans State.regs_setCore) (State.straps_setCore.trans State.straps_setCore)
      rw [e, e]
      exact ⟨State.rd_readied (by rw [addr_bkpt_en]; omega), State.rd_readied (by rw [addr_bkpt]; omega)⟩

end Sys2Proof.Machine
end

