-- ==== Sys2Proof/Laws/PerInstr.lean ====
section
/-! SUPPORT. Per-command lemmas of the family Queue: a command acts on everything but the queue of waiting commands. -/

-- One proof at a time: the package as one text then takes less memory.
set_option Elab.async false

namespace Sys2Proof.Laws.Queue

open Sys2Proof Sys2Proof.Machine

/-- The parts that a command may change do not include the queue. -/
def Statement (i : Instr) : Prop := Part.pending ∉ changes i

theorem blockBoundary : ∀ a0 a1, Statement (.blockBoundary a0 a1) :=
  fun _ _ => (by decide : Part.pending ∉ ([.regs, .live, .liveHist, .tm, .mem, .geo, .hst, .mix, .sched, .ost, .cores, .tdm, .aes, .aesOut, .asc, .mics, .bound, .ps, .tly, .macs, .srx, .stx, .sessions, .owner, .former, .ports, .plays, .fw, .otp, .maint, .armed, .totals, .totalsAt, .bwt, .mir, .cel, .clk, .sup] : List Part))
theorem tapListComplete : ∀ a0, Statement (.tapListComplete a0) :=
  fun _ => (by decide : Part.pending ∉ ([.regs, .geo] : List Part))
theorem landingDeadline : ∀ a0 a1 a2, Statement (.landingDeadline a0 a1 a2) :=
  fun _ _ _ => (by decide : Part.pending ∉ ([.regs, .tm, .mem, .geo, .hst, .mix, .ost, .srx, .plays, .cel] : List Part))
theorem releaseDeadline : ∀ a0 a1, Statement (.releaseDeadline a0 a1) :=
  fun _ _ => (by decide : Part.pending ∉ ([.regs, .tm, .mem, .free, .mix, .tly, .macs] : List Part))
theorem soundRateUpdate : ∀ a0 a1, Statement (.soundRateUpdate a0 a1) :=
  fun _ _ => (by decide : Part.pending ∉ ([.regs, .tm, .geo, .sched] : List Part))
theorem tilePresent : ∀ a0 a1 a2 a3 a4, Statement (.tilePresent a0 a1 a2 a3 a4) :=
  fun _ _ _ _ _ => (by decide : Part.pending ∉ ([.regs, .tm, .mem, .hst, .vox, .mics] : List Part))
theorem longRingCopy : ∀ a0 a1, Statement (.longRingCopy a0 a1) :=
  fun _ _ => (by decide : Part.pending ∉ ([.regs, .hst, .cel] : List Part))
theorem longCopyOverdue : ∀ a0 a1, Statement (.longCopyOverdue a0 a1) :=
  fun _ _ => (by decide : Part.pending ∉ ([.regs, .hst, .cel] : List Part))
theorem panicStart : ∀ a0 a1, Statement (.panicStart a0 a1) :=
  fun _ _ => (by decide : Part.pending ∉ ([.regs, .tm, .hst, .cel] : List Part))
theorem longReadAge : ∀ a0 a1, Statement (.longReadAge a0 a1) :=
  fun _ _ => (by decide : Part.pending ∉ ([.regs, .tm, .hst, .cel] : List Part))
theorem longTileDeadline : ∀ a0 a1, Statement (.longTileDeadline a0 a1) :=
  fun _ _ => (by decide : Part.pending ∉ ([.regs, .tm, .hst, .cel] : List Part))
theorem scrubRead : ∀ a0, Statement (.scrubRead a0) :=
  fun _ => (by decide : Part.pending ∉ ([.regs, .tm, .hst, .tly] : List Part))
theorem odlyTileDeadline : ∀ a0 a1, Statement (.odlyTileDeadline a0 a1) :=
  fun _ _ => (by decide : Part.pending ∉ ([.regs, .mix] : List Part))
theorem installSpectraDone : ∀ a0 a1, Statement (.installSpectraDone a0 a1) :=
  fun _ _ => (by decide : Part.pending ∉ ([.tm, .free, .mix] : List Part))
theorem identFrame : ∀ a0, Statement (.identFrame a0) :=
  fun _ => (by decide : Part.pending ∉ ([.free, .mix] : List Part))
theorem dispatch : ∀ a0 a1, Statement (.dispatch a0 a1) :=
  fun _ _ => (by decide : Part.pending ∉ ([.regs, .ost, .cores] : List Part))
theorem giveAccept : ∀ a0 a1 a2, Statement (.giveAccept a0 a1 a2) :=
  fun _ _ _ => (by decide : Part.pending ∉ ([.regs, .ost, .cores] : List Part))
theorem doneComplete : ∀ a0, Statement (.doneComplete a0) :=
  fun _ => (by decide : Part.pending ∉ ([.regs, .ost, .cores] : List Part))
theorem windowRelease : ∀ a0, Statement (.windowRelease a0) :=
  fun _ => (by decide : Part.pending ∉ ([.regs, .ost] : List Part))
theorem sliceOverrun : ∀ a0 a1, Statement (.sliceOverrun a0 a1) :=
  fun _ _ => (by decide : Part.pending ∉ ([.regs, .tm, .ost] : List Part))
theorem supervisorPost : ∀ a0, Statement (.supervisorPost a0) :=
  fun _ => (by decide : Part.pending ∉ ([.regs, .ost] : List Part))
theorem portReadArrival : ∀ a0 a1, Statement (.portReadArrival a0 a1) :=
  fun _ _ => (by decide : Part.pending ∉ ([.regs, .tm, .mem, .free, .latches, .geo, .mix, .sched, .ost, .cores, .tdm, .aes, .mics, .ps, .tly, .macs, .pins, .sessions, .ports, .otp, .bwt, .cel, .fab, .clk] : List Part))
theorem drvNop : ∀ a0, Statement (.drvNop a0) :=
  fun _ => (by decide : Part.pending ∉ ([.regs, .tm, .mem, .free, .latches, .geo, .mix, .sched, .ost, .cores, .tdm, .aes, .mics, .ps, .tly, .macs, .pins, .sessions, .ports, .otp, .bwt, .cel, .fab, .clk] : List Part))
theorem drvMac : ∀ a0 a1, Statement (.drvMac a0 a1) :=
  fun _ _ => (by decide : Part.pending ∉ ([.regs, .tm, .mem, .free, .latches, .geo, .mix, .sched, .ost, .cores, .tdm, .aes, .mics, .ps, .tly, .macs, .pins, .sessions, .ports, .otp, .bwt, .cel, .fab, .clk] : List Part))
theorem drvCmr : ∀ a0 a1, Statement (.drvCmr a0 a1) :=
  fun _ _ => (by decide : Part.pending ∉ ([.regs, .tm, .mem, .free, .latches, .geo, .mix, .sched, .ost, .cores, .tdm, .aes, .mics, .ps, .tly, .macs, .pins, .sessions, .ports, .otp, .bwt, .cel, .fab, .clk] : List Part))
theorem drvCmi : ∀ a0 a1, Statement (.drvCmi a0 a1) :=
  fun _ _ => (by decide : Part.pending ∉ ([.regs, .tm, .mem, .free, .latches, .geo, .mix, .sched, .ost, .cores, .tdm, .aes, .mics, .ps, .tly, .macs, .pins, .sessions, .ports, .otp, .bwt, .cel, .fab, .clk] : List Part))
theorem drvAccw : ∀ a0 a1, Statement (.drvAccw a0 a1) :=
  fun _ _ => (by decide : Part.pending ∉ ([.regs, .tm, .mem, .free, .latches, .geo, .mix, .sched, .ost, .cores, .tdm, .aes, .mics, .ps, .tly, .macs, .pins, .sessions, .ports, .otp, .bwt, .cel, .fab, .clk] : List Part))
theorem drvMova : ∀ a0 a1, Statement (.drvMova a0 a1) :=
  fun _ _ => (by decide : Part.pending ∉ ([.regs, .tm, .mem, .free, .latches, .geo, .mix, .sched, .ost, .cores, .tdm, .aes, .mics, .ps, .tly, .macs, .pins, .sessions, .ports, .otp, .bwt, .cel, .fab, .clk] : List Part))
theorem drvAmovx : ∀ a0 a1, Statement (.drvAmovx a0 a1) :=
  fun _ _ => (by decide : Part.pending ∉ ([.regs, .tm, .mem, .free, .latches, .geo, .mix, .sched, .ost, .cores, .tdm, .aes, .mics, .ps, .tly, .macs, .pins, .sessions, .ports, .otp, .bwt, .cel, .fab, .clk] : List Part))
theorem drvLcoef : ∀ a0 a1, Statement (.drvLcoef a0 a1) :=
  fun _ _ => (by decide : Part.pending ∉ ([.regs, .tm, .mem, .free, .latches, .geo, .mix, .sched, .ost, .cores, .tdm, .aes, .mics, .ps, .tly, .macs, .pins, .sessions, .ports, .otp, .bwt, .cel, .fab, .clk] : List Part))
theorem drvVadd : ∀ a0 a1, Statement (.drvVadd a0 a1) :=
  fun _ _ => (by decide : Part.pending ∉ ([.regs, .tm, .mem, .free, .latches, .geo, .mix, .sched, .ost, .cores, .tdm, .aes, .mics, .ps, .tly, .macs, .pins, .sessions, .ports, .otp, .bwt, .cel, .fab, .clk] : List Part))
theorem drvVsub : ∀ a0 a1, Statement (.drvVsub a0 a1) :=
  fun _ _ => (by decide : Part.pending ∉ ([.regs, .tm, .mem, .free, .latches, .geo, .mix, .sched, .ost, .cores, .tdm, .aes, .mics, .ps, .tly, .macs, .pins, .sessions, .ports, .otp, .bwt, .cel, .fab, .clk] : List Part))
theorem drvVmax : ∀ a0 a1, Statement (.drvVmax a0 a1) :=
  fun _ _ => (by decide : Part.pending ∉ ([.regs, .tm, .mem, .free, .latches, .geo, .mix, .sched, .ost, .cores, .tdm, .aes, .mics, .ps, .tly, .macs, .pins, .sessions, .ports, .otp, .bwt, .cel, .fab, .clk] : List Part))
theorem drvVmin : ∀ a0 a1, Statement (.drvVmin a0 a1) :=
  fun _ _ => (by decide : Part.pending ∉ ([.regs, .tm, .mem, .free, .latches, .geo, .mix, .sched, .ost, .cores, .tdm, .aes, .mics, .ps, .tly, .macs, .pins, .sessions, .ports, .otp, .bwt, .cel, .fab, .clk] : List Part))
theorem drvVabs : ∀ a0 a1, Statement (.drvVabs a0 a1) :=
  fun _ _ => (by decide : Part.pending ∉ ([.regs, .tm, .mem, .free, .latches, .geo, .mix, .sched, .ost, .cores, .tdm, .aes, .mics, .ps, .tly, .macs, .pins, .sessions, .ports, .otp, .bwt, .cel, .fab, .clk] : List Part))
theorem drvVshr : ∀ a0 a1, Statement (.drvVshr a0 a1) :=
  fun _ _ => (by decide : Part.pending ∉ ([.regs, .tm, .mem, .free, .latches, .geo, .mix, .sched, .ost, .cores, .tdm, .aes, .mics, .ps, .tly, .macs, .pins, .sessions, .ports, .otp, .bwt, .cel, .fab, .clk] : List Part))
theorem drvVshl : ∀ a0 a1, Statement (.drvVshl a0 a1) :=
  fun _ _ => (by decide : Part.pending ∉ ([.regs, .tm, .mem, .free, .latches, .geo, .mix, .sched, .ost, .cores, .tdm, .aes, .mics, .ps, .tly, .macs, .pins, .sessions, .ports, .otp, .bwt, .cel, .fab, .clk] : List Part))
theorem drvVswp : ∀ a0 a1, Statement (.drvVswp a0 a1) :=
  fun _ _ => (by decide : Part.pending ∉ ([.regs, .tm, .mem, .free, .latches, .geo, .mix, .sched, .ost, .cores, .tdm, .aes, .mics, .ps, .tly, .macs, .pins, .sessions, .ports, .otp, .bwt, .cel, .fab, .clk] : List Part))
theorem drvVbc : ∀ a0 a1, Statement (.drvVbc a0 a1) :=
  fun _ _ => (by decide : Part.pending ∉ ([.regs, .tm, .mem, .free, .latches, .geo, .mix, .sched, .ost, .cores, .tdm, .aes, .mics, .ps, .tly, .macs, .pins, .sessions, .ports, .otp, .bwt, .cel, .fab, .clk] : List Part))
theorem drvVmov : ∀ a0 a1, Statement (.drvVmov a0 a1) :=
  fun _ _ => (by decide : Part.pending ∉ ([.regs, .tm, .mem, .free, .latches, .geo, .mix, .sched, .ost, .cores, .tdm, .aes, .mics, .ps, .tly, .macs, .pins, .sessions, .ports, .otp, .bwt, .cel, .fab, .clk] : List Part))
theorem drvMovxv : ∀ a0 a1, Statement (.drvMovxv a0 a1) :=
  fun _ _ => (by decide : Part.pending ∉ ([.regs, .tm, .mem, .free, .latches, .geo, .mix, .sched, .ost, .cores, .tdm, .aes, .mics, .ps, .tly, .macs, .pins, .sessions, .ports, .otp, .bwt, .cel, .fab, .clk] : List Part))
theorem drvMovvx : ∀ a0 a1, Statement (.drvMovvx a0 a1) :=
  fun _ _ => (by decide : Part.pending ∉ ([.regs, .tm, .mem, .free, .latches, .geo, .mix, .sched, .ost, .cores, .tdm, .aes, .mics, .ps, .tly, .macs, .pins, .sessions, .ports, .otp, .bwt, .cel, .fab, .clk] : List Part))
theorem drvTapph : ∀ a0 a1, Statement (.drvTapph a0 a1) :=
  fun _ _ => (by decide : Part.pending ∉ ([.regs, .tm, .mem, .free, .latches, .geo, .mix, .sched, .ost, .cores, .tdm, .aes, .mics, .ps, .tly, .macs, .pins, .sessions, .ports, .otp, .bwt, .cel, .fab, .clk] : List Part))
theorem drvTapgn : ∀ a0 a1, Statement (.drvTapgn a0 a1) :=
  fun _ _ => (by decide : Part.pending ∉ ([.regs, .tm, .mem, .free, .latches, .geo, .mix, .sched, .ost, .cores, .tdm, .aes, .mics, .ps, .tly, .macs, .pins, .sessions, .ports, .otp, .bwt, .cel, .fab, .clk] : List Part))
theorem drvLdv : ∀ a0 a1, Statement (.drvLdv a0 a1) :=
  fun _ _ => (by decide : Part.pending ∉ ([.regs, .tm, .mem, .free, .latches, .geo, .mix, .sched, .ost, .cores, .tdm, .aes, .mics, .ps, .tly, .macs, .pins, .sessions, .ports, .otp, .bwt, .cel, .fab, .clk] : List Part))
theorem drvStv : ∀ a0 a1, Statement (.drvStv a0 a1) :=
  fun _ _ => (by decide : Part.pending ∉ ([.regs, .tm, .mem, .free, .latches, .geo, .mix, .sched, .ost, .cores, .tdm, .aes, .mics, .ps, .tly, .macs, .pins, .sessions, .ports, .otp, .bwt, .cel, .fab, .clk] : List Part))
theorem drvSta : ∀ a0 a1, Statement (.drvSta a0 a1) :=
  fun _ _ => (by decide : Part.pending ∉ ([.regs, .tm, .mem, .free, .latches, .geo, .mix, .sched, .ost, .cores, .tdm, .aes, .mics, .ps, .tly, .macs, .pins, .sessions, .ports, .otp, .bwt, .cel, .fab, .clk] : List Part))
theorem drvStas : ∀ a0 a1, Statement (.drvStas a0 a1) :=
  fun _ _ => (by decide : Part.pending ∉ ([.regs, .tm, .mem, .free, .latches, .geo, .mix, .sched, .ost, .cores, .tdm, .aes, .mics, .ps, .tly, .macs, .pins, .sessions, .ports, .otp, .bwt, .cel, .fab, .clk] : List Part))
theorem drvLdw : ∀ a0 a1, Statement (.drvLdw a0 a1) :=
  fun _ _ => (by decide : Part.pending ∉ ([.regs, .tm, .mem, .free, .latches, .geo, .mix, .sched, .ost, .cores, .tdm, .aes, .mics, .ps, .tly, .macs, .pins, .sessions, .ports, .otp, .bwt, .cel, .fab, .clk] : List Part))
theorem drvStw : ∀ a0 a1, Statement (.drvStw a0 a1) :=
  fun _ _ => (by decide : Part.pending ∉ ([.regs, .tm, .mem, .free, .latches, .geo, .mix, .sched, .ost, .cores, .tdm, .aes, .mics, .ps, .tly, .macs, .pins, .sessions, .ports, .otp, .bwt, .cel, .fab, .clk] : List Part))
theorem drvLdwf : ∀ a0 a1, Statement (.drvLdwf a0 a1) :=
  fun _ _ => (by decide : Part.pending ∉ ([.regs, .tm, .mem, .free, .latches, .geo, .mix, .sched, .ost, .cores, .tdm, .aes, .mics, .ps, .tly, .macs, .pins, .sessions, .ports, .otp, .bwt, .cel, .fab, .clk] : List Part))
theorem drvStwf : ∀ a0 a1, Statement (.drvStwf a0 a1) :=
  fun _ _ => (by decide : Part.pending ∉ ([.regs, .tm, .mem, .free, .latches, .geo, .mix, .sched, .ost, .cores, .tdm, .aes, .mics, .ps, .tly, .macs, .pins, .sessions, .ports, .otp, .bwt, .cel, .fab, .clk] : List Part))
theorem drvAdd : ∀ a0 a1, Statement (.drvAdd a0 a1) :=
  fun _ _ => (by decide : Part.pending ∉ ([.regs, .tm, .mem, .free, .latches, .geo, .mix, .sched, .ost, .cores, .tdm, .aes, .mics, .ps, .tly, .macs, .pins, .sessions, .ports, .otp, .bwt, .cel, .fab, .clk] : List Part))
theorem drvSub : ∀ a0 a1, Statement (.drvSub a0 a1) :=
  fun _ _ => (by decide : Part.pending ∉ ([.regs, .tm, .mem, .free, .latches, .geo, .mix, .sched, .ost, .cores, .tdm, .aes, .mics, .ps, .tly, .macs, .pins, .sessions, .ports, .otp, .bwt, .cel, .fab, .clk] : List Part))
theorem drvAnd : ∀ a0 a1, Statement (.drvAnd a0 a1) :=
  fun _ _ => (by decide : Part.pending ∉ ([.regs, .tm, .mem, .free, .latches, .geo, .mix, .sched, .ost, .cores, .tdm, .aes, .mics, .ps, .tly, .macs, .pins, .sessions, .ports, .otp, .bwt, .cel, .fab, .clk] : List Part))
theorem drvOr : ∀ a0 a1, Statement (.drvOr a0 a1) :=
  fun _ _ => (by decide : Part.pending ∉ ([.regs, .tm, .mem, .free, .latches, .geo, .mix, .sched, .ost, .cores, .tdm, .aes, .mics, .ps, .tly, .macs, .pins, .sessions, .ports, .otp, .bwt, .cel, .fab, .clk] : List Part))
theorem drvXor : ∀ a0 a1, Statement (.drvXor a0 a1) :=
  fun _ _ => (by decide : Part.pending ∉ ([.regs, .tm, .mem, .free, .latches, .geo, .mix, .sched, .ost, .cores, .tdm, .aes, .mics, .ps, .tly, .macs, .pins, .sessions, .ports, .otp, .bwt, .cel, .fab, .clk] : List Part))
theorem drvShl : ∀ a0 a1, Statement (.drvShl a0 a1) :=
  fun _ _ => (by decide : Part.pending ∉ ([.regs, .tm, .mem, .free, .latches, .geo, .mix, .sched, .ost, .cores, .tdm, .aes, .mics, .ps, .tly, .macs, .pins, .sessions, .ports, .otp, .bwt, .cel, .fab, .clk] : List Part))
theorem drvShr : ∀ a0 a1, Statement (.drvShr a0 a1) :=
  fun _ _ => (by decide : Part.pending ∉ ([.regs, .tm, .mem, .free, .latches, .geo, .mix, .sched, .ost, .cores, .tdm, .aes, .mics, .ps, .tly, .macs, .pins, .sessions, .ports, .otp, .bwt, .cel, .fab, .clk] : List Part))
theorem drvSra : ∀ a0 a1, Statement (.drvSra a0 a1) :=
  fun _ _ => (by decide : Part.pending ∉ ([.regs, .tm, .mem, .free, .latches, .geo, .mix, .sched, .ost, .cores, .tdm, .aes, .mics, .ps, .tly, .macs, .pins, .sessions, .ports, .otp, .bwt, .cel, .fab, .clk] : List Part))
theorem drvCmp : ∀ a0 a1, Statement (.drvCmp a0 a1) :=
  fun _ _ => (by decide : Part.pending ∉ ([.regs, .tm, .mem, .free, .latches, .geo, .mix, .sched, .ost, .cores, .tdm, .aes, .mics, .ps, .tly, .macs, .pins, .sessions, .ports, .otp, .bwt, .cel, .fab, .clk] : List Part))
theorem drvMulx : ∀ a0 a1, Statement (.drvMulx a0 a1) :=
  fun _ _ => (by decide : Part.pending ∉ ([.regs, .tm, .mem, .free, .latches, .geo, .mix, .sched, .ost, .cores, .tdm, .aes, .mics, .ps, .tly, .macs, .pins, .sessions, .ports, .otp, .bwt, .cel, .fab, .clk] : List Part))
theorem drvExtu : ∀ a0 a1, Statement (.drvExtu a0 a1) :=
  fun _ _ => (by decide : Part.pending ∉ ([.regs, .tm, .mem, .free, .latches, .geo, .mix, .sched, .ost, .cores, .tdm, .aes, .mics, .ps, .tly, .macs, .pins, .sessions, .ports, .otp, .bwt, .cel, .fab, .clk] : List Part))
theorem drvExts : ∀ a0 a1, Statement (.drvExts a0 a1) :=
  fun _ _ => (by decide : Part.pending ∉ ([.regs, .tm, .mem, .free, .latches, .geo, .mix, .sched, .ost, .cores, .tdm, .aes, .mics, .ps, .tly, .macs, .pins, .sessions, .ports, .otp, .bwt, .cel, .fab, .clk] : List Part))
theorem drvAddi : ∀ a0 a1, Statement (.drvAddi a0 a1) :=
  fun _ _ => (by decide : Part.pending ∉ ([.regs, .tm, .mem, .free, .latches, .geo, .mix, .sched, .ost, .cores, .tdm, .aes, .mics, .ps, .tly, .macs, .pins, .sessions, .ports, .otp, .bwt, .cel, .fab, .clk] : List Part))
theorem drvMovi : ∀ a0 a1, Statement (.drvMovi a0 a1) :=
  fun _ _ => (by decide : Part.pending ∉ ([.regs, .tm, .mem, .free, .latches, .geo, .mix, .sched, .ost, .cores, .tdm, .aes, .mics, .ps, .tly, .macs, .pins, .sessions, .ports, .otp, .bwt, .cel, .fab, .clk] : List Part))
theorem drvMovhi : ∀ a0 a1, Statement (.drvMovhi a0 a1) :=
  fun _ _ => (by decide : Part.pending ∉ ([.regs, .tm, .mem, .free, .latches, .geo, .mix, .sched, .ost, .cores, .tdm, .aes, .mics, .ps, .tly, .macs, .pins, .sessions, .ports, .otp, .bwt, .cel, .fab, .clk] : List Part))
theorem drvAgset : ∀ a0 a1, Statement (.drvAgset a0 a1) :=
  fun _ _ => (by decide : Part.pending ∉ ([.regs, .tm, .mem, .free, .latches, .geo, .mix, .sched, .ost, .cores, .tdm, .aes, .mics, .ps, .tly, .macs, .pins, .sessions, .ports, .otp, .bwt, .cel, .fab, .clk] : List Part))
theorem drvAgget : ∀ a0 a1, Statement (.drvAgget a0 a1) :=
  fun _ _ => (by decide : Part.pending ∉ ([.regs, .tm, .mem, .free, .latches, .geo, .mix, .sched, .ost, .cores, .tdm, .aes, .mics, .ps, .tly, .macs, .pins, .sessions, .ports, .otp, .bwt, .cel, .fab, .clk] : List Part))
theorem drvMts : ∀ a0 a1, Statement (.drvMts a0 a1) :=
  fun _ _ => (by decide : Part.pending ∉ ([.regs, .tm, .mem, .free, .latches, .geo, .mix, .sched, .ost, .cores, .tdm, .aes, .mics, .ps, .tly, .macs, .pins, .sessions, .ports, .otp, .bwt, .cel, .fab, .clk] : List Part))
theorem drvMfs : ∀ a0 a1, Statement (.drvMfs a0 a1) :=
  fun _ _ => (by decide : Part.pending ∉ ([.regs, .tm, .mem, .free, .latches, .geo, .mix, .sched, .ost, .cores, .tdm, .aes, .mics, .ps, .tly, .macs, .pins, .sessions, .ports, .otp, .bwt, .cel, .fab, .clk] : List Part))
theorem drvScstep : ∀ a0 a1, Statement (.drvScstep a0 a1) :=
  fun _ _ => (by decide : Part.pending ∉ ([.regs, .tm, .mem, .free, .latches, .geo, .mix, .sched, .ost, .cores, .tdm, .aes, .mics, .ps, .tly, .macs, .pins, .sessions, .ports, .otp, .bwt, .cel, .fab, .clk] : List Part))
theorem drvBr : ∀ a0 a1, Statement (.drvBr a0 a1) :=
  fun _ _ => (by decide : Part.pending ∉ ([.regs, .tm, .mem, .free, .latches, .geo, .mix, .sched, .ost, .cores, .tdm, .aes, .mics, .ps, .tly, .macs, .pins, .sessions, .ports, .otp, .bwt, .cel, .fab, .clk] : List Part))
theorem drvBrx : ∀ a0 a1, Statement (.drvBrx a0 a1) :=
  fun _ _ => (by decide : Part.pending ∉ ([.regs, .tm, .mem, .free, .latches, .geo, .mix, .sched, .ost, .cores, .tdm, .aes, .mics, .ps, .tly, .macs, .pins, .sessions, .ports, .otp, .bwt, .cel, .fab, .clk] : List Part))
theorem drvCall : ∀ a0 a1, Statement (.drvCall a0 a1) :=
  fun _ _ => (by decide : Part.pending ∉ ([.regs, .tm, .mem, .free, .latches, .geo, .mix, .sched, .ost, .cores, .tdm, .aes, .mics, .ps, .tly, .macs, .pins, .sessions, .ports, .otp, .bwt, .cel, .fab, .clk] : List Part))
theorem drvLoop : ∀ a0 a1, Statement (.drvLoop a0 a1) :=
  fun _ _ => (by decide : Part.pending ∉ ([.regs, .tm, .mem, .free, .latches, .geo, .mix, .sched, .ost, .cores, .tdm, .aes, .mics, .ps, .tly, .macs, .pins, .sessions, .ports, .otp, .bwt, .cel, .fab, .clk] : List Part))
theorem drvReti : ∀ a0 a1, Statement (.drvReti a0 a1) :=
  fun _ _ => (by decide : Part.pending ∉ ([.regs, .tm, .mem, .free, .latches, .geo, .mix, .sched, .ost, .cores, .tdm, .aes, .mics, .ps, .tly, .macs, .pins, .sessions, .ports, .otp, .bwt, .cel, .fab, .clk] : List Part))
theorem drvTake : ∀ a0 a1, Statement (.drvTake a0 a1) :=
  fun _ _ => (by decide : Part.pending ∉ ([.regs, .tm, .mem, .free, .latches, .geo, .mix, .sched, .ost, .cores, .tdm, .aes, .mics, .ps, .tly, .macs, .pins, .sessions, .ports, .otp, .bwt, .cel, .fab, .clk] : List Part))
theorem drvGive : ∀ a0 a1, Statement (.drvGive a0 a1) :=
  fun _ _ => (by decide : Part.pending ∉ ([.regs, .tm, .mem, .free, .latches, .geo, .mix, .sched, .ost, .cores, .tdm, .aes, .mics, .ps, .tly, .macs, .pins, .sessions, .ports, .otp, .bwt, .cel, .fab, .clk] : List Part))
theorem drvDone : ∀ a0 a1, Statement (.drvDone a0 a1) :=
  fun _ _ => (by decide : Part.pending ∉ ([.regs, .tm, .mem, .free, .latches, .geo, .mix, .sched, .ost, .cores, .tdm, .aes, .mics, .ps, .tly, .macs, .pins, .sessions, .ports, .otp, .bwt, .cel, .fab, .clk] : List Part))
theorem drvTapset : ∀ a0 a1, Statement (.drvTapset a0 a1) :=
  fun _ _ => (by decide : Part.pending ∉ ([.regs, .tm, .mem, .free, .latches, .geo, .mix, .sched, .ost, .cores, .tdm, .aes, .mics, .ps, .tly, .macs, .pins, .sessions, .ports, .otp, .bwt, .cel, .fab, .clk] : List Part))
theorem drvTaprd : ∀ a0 a1, Statement (.drvTaprd a0 a1) :=
  fun _ _ => (by decide : Part.pending ∉ ([.regs, .tm, .mem, .free, .latches, .geo, .mix, .sched, .ost, .cores, .tdm, .aes, .mics, .ps, .tly, .macs, .pins, .sessions, .ports, .otp, .bwt, .cel, .fab, .clk] : List Part))
theorem drvAccadd : ∀ a0 a1, Statement (.drvAccadd a0 a1) :=
  fun _ _ => (by decide : Part.pending ∉ ([.regs, .tm, .mem, .free, .latches, .geo, .mix, .sched, .ost, .cores, .tdm, .aes, .mics, .ps, .tly, .macs, .pins, .sessions, .ports, .otp, .bwt, .cel, .fab, .clk] : List Part))
theorem drvAccrc : ∀ a0 a1, Statement (.drvAccrc a0 a1) :=
  fun _ _ => (by decide : Part.pending ∉ ([.regs, .tm, .mem, .free, .latches, .geo, .mix, .sched, .ost, .cores, .tdm, .aes, .mics, .ps, .tly, .macs, .pins, .sessions, .ports, .otp, .bwt, .cel, .fab, .clk] : List Part))
theorem drvCoreReset : ∀ a0, Statement (.drvCoreReset a0) :=
  fun _ => (by decide : Part.pending ∉ ([.regs, .ost, .cores] : List Part))
theorem coreRun : ∀ a0, Statement (.coreRun a0) :=
  fun _ => (by decide : Part.pending ∉ ([.regs, .tm, .mem, .free, .latches, .geo, .mix, .sched, .ost, .cores, .tdm, .aes, .mics, .ps, .tly, .macs, .pins, .sessions, .ports, .otp, .bwt, .cel, .fab, .clk] : List Part))
theorem haltReq : ∀ a0, Statement (.haltReq a0) :=
  fun _ => (by decide : Part.pending ∉ ([.regs, .ost, .cores] : List Part))
theorem drvStep : ∀ a0, Statement (.drvStep a0) :=
  fun _ => (by decide : Part.pending ∉ ([.regs, .tm, .mem, .free, .latches, .geo, .mix, .sched, .ost, .cores, .tdm, .aes, .mics, .ps, .tly, .macs, .pins, .sessions, .ports, .otp, .bwt, .cel, .fab, .clk] : List Part))
theorem drvResume : ∀ a0, Statement (.drvResume a0) :=
  fun _ => (by decide : Part.pending ∉ ([.regs] : List Part))
theorem swapReq : Statement (.swapReq) :=
  (by decide : Part.pending ∉ ([.regs, .geo] : List Part))
theorem verifyComplete : ∀ a0, Statement (.verifyComplete a0) :=
  fun _ => (by decide : Part.pending ∉ ([.regs, .tm, .geo] : List Part))
theorem slHold : ∀ a0, Statement (.slHold a0) :=
  fun _ => (by decide : Part.pending ∉ ([.regs] : List Part))
theorem slArm : Statement (.slArm) :=
  (by decide : Part.pending ∉ ([.regs] : List Part))
theorem tdmFrame : ∀ a0 a1 a2 a3 a4 a5, Statement (.tdmFrame a0 a1 a2 a3 a4 a5) :=
  fun _ _ _ _ _ _ => (by decide : Part.pending ∉ ([.regs, .tm, .mem, .hst, .tdm, .aes] : List Part))
theorem aes3Frame : ∀ a0 a1 a2 a3 a4 a5, Statement (.aes3Frame a0 a1 a2 a3 a4 a5) :=
  fun _ _ _ _ _ _ => (by decide : Part.pending ∉ ([.regs, .tm, .mem, .hst, .tdm, .aes] : List Part))
theorem asrcWindow : ∀ a0 a1, Statement (.asrcWindow a0 a1) :=
  fun _ _ => (by decide : Part.pending ∉ ([.regs, .tdm, .aes, .asc] : List Part))
theorem asrcFsTimeout : ∀ a0 a1 a2, Statement (.asrcFsTimeout a0 a1 a2) :=
  fun _ _ _ => (by decide : Part.pending ∉ ([.regs, .tm, .tdm, .aes, .asc] : List Part))
theorem micZeroCrossing : ∀ a0 a1 a2, Statement (.micZeroCrossing a0 a1 a2) :=
  fun _ _ _ => (by decide : Part.pending ∉ ([.regs] : List Part))
theorem zcTimeout : ∀ a0 a1, Statement (.zcTimeout a0 a1) :=
  fun _ _ => (by decide : Part.pending ∉ ([.regs, .tm] : List Part))
theorem micDetectionSample : ∀ a0 a1 a2 a3 a4 a5, Statement (.micDetectionSample a0 a1 a2 a3 a4 a5) :=
  fun _ _ _ _ _ _ => (by decide : Part.pending ∉ ([.regs, .tm, .mics] : List Part))
theorem idleBandHold : ∀ a0 a1, Statement (.idleBandHold a0 a1) :=
  fun _ _ => (by decide : Part.pending ∉ ([.regs, .tm, .tly, .sessions, .ports] : List Part))
theorem faultBandHold : ∀ a0 a1, Statement (.faultBandHold a0 a1) :=
  fun _ _ => (by decide : Part.pending ∉ ([.regs, .tm, .sched, .tly, .sessions, .ports] : List Part))
theorem pressDebounce : ∀ a0 a1, Statement (.pressDebounce a0 a1) :=
  fun _ _ => (by decide : Part.pending ∉ ([.regs, .tm, .sched, .tly, .sessions, .ports] : List Part))
theorem releaseDebounce : ∀ a0 a1, Statement (.releaseDebounce a0 a1) :=
  fun _ _ => (by decide : Part.pending ∉ ([.regs, .tm, .sched, .tly, .sessions, .ports] : List Part))
theorem switchingPeriod : ∀ a0 a1 a2 a3, Statement (.switchingPeriod a0 a1 a2 a3) :=
  fun _ _ _ _ => (by decide : Part.pending ∉ ([.regs, .tm, .ps, .tly, .sessions, .ports] : List Part))
theorem trip : ∀ a0 a1, Statement (.trip a0 a1) :=
  fun _ _ => (by decide : Part.pending ∉ ([.regs, .tm, .ps, .tly, .sessions, .ports] : List Part))
theorem probeStart : ∀ a0 a1, Statement (.probeStart a0 a1) :=
  fun _ _ => (by decide : Part.pending ∉ ([.regs, .tm, .ps] : List Part))
theorem probeEnd : ∀ a0 a1 a2, Statement (.probeEnd a0 a1 a2) :=
  fun _ _ _ => (by decide : Part.pending ∉ ([.regs, .tm, .ps, .tly, .sessions, .ports] : List Part))
theorem restartRampEnd : ∀ a0 a1, Statement (.restartRampEnd a0 a1) :=
  fun _ _ => (by decide : Part.pending ∉ ([.regs, .tm, .ps, .tly, .sessions, .ports] : List Part))
theorem principalTripFree : ∀ a0 a1, Statement (.principalTripFree a0 a1) :=
  fun _ _ => (by decide : Part.pending ∉ ([.regs, .tm, .ps, .tly] : List Part))
theorem dcCheck : ∀ a0 a1 a2, Statement (.dcCheck a0 a1 a2) :=
  fun _ _ _ => (by decide : Part.pending ∉ ([.regs, .tm, .ps, .tly, .sessions, .ports] : List Part))
theorem loopWindow : ∀ a0 a1 a2, Statement (.loopWindow a0 a1 a2) :=
  fun _ _ _ => (by decide : Part.pending ∉ ([.regs, .tm, .ps, .tly, .sessions, .ports] : List Part))
theorem startComplete : ∀ a0 a1, Statement (.startComplete a0 a1) :=
  fun _ _ => (by decide : Part.pending ∉ ([.regs, .tm, .ps, .tly, .sessions, .ports] : List Part))
theorem stopComplete : ∀ a0 a1, Statement (.stopComplete a0 a1) :=
  fun _ _ => (by decide : Part.pending ∉ ([.regs, .tm, .ps, .tly] : List Part))
theorem clearFaultShort : ∀ a0 a1, Statement (.clearFaultShort a0 a1) :=
  fun _ _ => (by decide : Part.pending ∉ ([.regs, .tm, .ps, .tly] : List Part))
theorem clearFaultDc : ∀ a0 a1, Statement (.clearFaultDc a0 a1) :=
  fun _ _ => (by decide : Part.pending ∉ ([.regs, .tm, .ps, .tly] : List Part))
theorem clearFaultOpen : ∀ a0 a1, Statement (.clearFaultOpen a0 a1) :=
  fun _ _ => (by decide : Part.pending ∉ ([.regs, .tm, .ps, .tly] : List Part))
theorem testWindowOpen : ∀ a0, Statement (.testWindowOpen a0) :=
  fun _ => (by decide : Part.pending ∉ ([.regs, .tm, .tly] : List Part))
theorem testWindowClose : ∀ a0, Statement (.testWindowClose a0) :=
  fun _ => (by decide : Part.pending ∉ ([.regs, .tm, .ps, .tly] : List Part))
theorem lineTestSlot : ∀ a0, Statement (.lineTestSlot a0) :=
  fun _ => (by decide : Part.pending ∉ ([.regs, .tm, .ps, .tly] : List Part))
theorem correlationStart : ∀ a0, Statement (.correlationStart a0) :=
  fun _ => (by decide : Part.pending ∉ ([.tm, .tly] : List Part))
theorem correlationEnd : ∀ a0 a1 a2 a3, Statement (.correlationEnd a0 a1 a2 a3) :=
  fun _ _ _ _ => (by decide : Part.pending ∉ ([.regs, .tm, .ps, .tly, .sessions, .ports] : List Part))
theorem pilotRemoved : ∀ a0, Statement (.pilotRemoved a0) :=
  fun _ => (by decide : Part.pending ∉ ([.regs, .tm, .ps, .tly] : List Part))
theorem programLimitExceeded : ∀ a0 a1, Statement (.programLimitExceeded a0 a1) :=
  fun _ _ => (by decide : Part.pending ∉ ([.regs, .tm, .ps, .tly] : List Part))
theorem lineTestRetry : ∀ a0, Statement (.lineTestRetry a0) :=
  fun _ => (by decide : Part.pending ∉ ([.regs, .tm, .ps, .tly] : List Part))
theorem baselineCaptureEnd : ∀ a0 a1, Statement (.baselineCaptureEnd a0 a1) :=
  fun _ _ => (by decide : Part.pending ∉ ([.regs, .tm, .ps, .tly, .sessions, .ports, .mir] : List Part))
theorem selfTestStart : ∀ a0, Statement (.selfTestStart a0) :=
  fun _ => (by decide : Part.pending ∉ ([.regs, .tm, .tly] : List Part))
theorem selfTestHalt : ∀ a0, Statement (.selfTestHalt a0) :=
  fun _ => (by decide : Part.pending ∉ ([.regs, .tm, .cores, .tly] : List Part))
theorem selfTestBreakpoint : ∀ a0, Statement (.selfTestBreakpoint a0) :=
  fun _ => (by decide : Part.pending ∉ ([.regs, .tm, .ost, .cores, .tly] : List Part))
theorem selfTestTimeout : ∀ a0, Statement (.selfTestTimeout a0) :=
  fun _ => (by decide : Part.pending ∉ ([.regs, .tm, .ost, .cores, .tly] : List Part))
theorem dramScrubSlice : ∀ a0 a1, Statement (.dramScrubSlice a0 a1) :=
  fun _ _ => (by decide : Part.pending ∉ ([.regs, .tm, .tly] : List Part))
theorem dramScrubTimeout : ∀ a0, Statement (.dramScrubTimeout a0) :=
  fun _ => (by decide : Part.pending ∉ ([.regs, .tm, .tly] : List Part))
theorem foldPatternCheck : ∀ a0, Statement (.foldPatternCheck a0) :=
  fun _ => (by decide : Part.pending ∉ ([.tm, .tly] : List Part))
theorem foldPatternResult : ∀ a0, Statement (.foldPatternResult a0) :=
  fun _ => (by decide : Part.pending ∉ ([.regs, .tly] : List Part))
theorem senseReferenceCheck : ∀ a0 a1 a2 a3, Statement (.senseReferenceCheck a0 a1 a2 a3) :=
  fun _ _ _ _ => (by decide : Part.pending ∉ ([.regs, .tm, .tly] : List Part))
theorem rxFrame : ∀ a0 a1 a2 a3 a4, Statement (.rxFrame a0 a1 a2 a3 a4) :=
  fun _ _ _ _ _ => (by decide : Part.pending ∉ ([.regs, .tm, .mem, .free, .latches, .geo, .mix, .sched, .ost, .cores, .tdm, .aes, .mics, .ps, .tly, .macs, .pins, .sessions, .ports, .otp, .bwt, .cel, .fab, .clk] : List Part))
theorem pauseExpiry : ∀ a0 a1, Statement (.pauseExpiry a0 a1) :=
  fun _ _ => (by decide : Part.pending ∉ ([.tm, .macs] : List Part))
theorem txFrameStart : ∀ a0 a1 a2, Statement (.txFrameStart a0 a1 a2) :=
  fun _ _ _ => (by decide : Part.pending ∉ ([.regs, .tm, .mem, .free, .latches, .geo, .mix, .sched, .ost, .cores, .tdm, .aes, .mics, .ps, .tly, .macs, .pins, .sessions, .ports, .otp, .bwt, .cel, .fab, .clk] : List Part))
theorem txFrameEnd : ∀ a0 a1, Statement (.txFrameEnd a0 a1) :=
  fun _ _ => (by decide : Part.pending ∉ ([.regs, .tm, .mem, .free, .latches, .geo, .mix, .sched, .ost, .cores, .tdm, .aes, .mics, .ps, .tly, .macs, .pins, .sessions, .ports, .otp, .bwt, .cel, .fab, .clk] : List Part))
theorem linkChange : ∀ a0 a1, Statement (.linkChange a0 a1) :=
  fun _ _ => (by decide : Part.pending ∉ ([.regs, .tm, .mem, .free, .latches, .geo, .mix, .sched, .ost, .cores, .tdm, .aes, .mics, .ps, .tly, .macs, .pins, .sessions, .ports, .otp, .bwt, .cel, .fab, .clk] : List Part))
theorem mdioTransfer : ∀ a0, Statement (.mdioTransfer a0) :=
  fun _ => (by decide : Part.pending ∉ ([.regs] : List Part))
theorem mdioComplete : ∀ a0, Statement (.mdioComplete a0) :=
  fun _ => (by decide : Part.pending ∉ ([.regs] : List Part))
theorem servoStep : ∀ a0 a1, Statement (.servoStep a0 a1) :=
  fun _ _ => (by decide : Part.pending ∉ ([.regs, .tm, .sessions, .ports] : List Part))
theorem holdoverTimeout : ∀ a0, Statement (.holdoverTimeout a0) :=
  fun _ => (by decide : Part.pending ∉ ([.regs, .tm, .sessions, .ports] : List Part))
theorem conversion : ∀ a0, Statement (.conversion a0) :=
  fun _ => (by decide : Part.pending ∉ ([.regs] : List Part))
theorem txqRead : ∀ a0, Statement (.txqRead a0) :=
  fun _ => (by decide : Part.pending ∉ ([.regs, .tm] : List Part))
theorem announceTimeout : ∀ a0, Statement (.announceTimeout a0) :=
  fun _ => (by decide : Part.pending ∉ ([.tm, .ptp] : List Part))
theorem ppsInput : ∀ a0, Statement (.ppsInput a0) :=
  fun _ => (by decide : Part.pending ∉ ([.regs, .tm] : List Part))
theorem ppsOutput : ∀ a0, Statement (.ppsOutput a0) :=
  fun _ => (by decide : Part.pending ∉ ([.tm] : List Part))
theorem streamPacket : ∀ a0 a1 a2, Statement (.streamPacket a0 a1 a2) :=
  fun _ _ _ => (by decide : Part.pending ∉ ([.regs, .tm, .mem, .free, .latches, .geo, .hst, .mix, .sched, .ost, .cores, .tdm, .aes, .mics, .ps, .tly, .macs, .srx, .pins, .sessions, .ports, .otp, .bwt, .cel, .fab, .clk] : List Part))
theorem legDown : ∀ a0 a1, Statement (.legDown a0 a1) :=
  fun _ _ => (by decide : Part.pending ∉ ([.regs, .tm] : List Part))
theorem spiWrite : ∀ a0 a1 a2, Statement (.spiWrite a0 a1 a2) :=
  fun _ _ _ => (by decide : Part.pending ∉ ([.regs, .tm, .ports] : List Part))
theorem spiRead : ∀ a0 a1, Statement (.spiRead a0 a1) :=
  fun _ _ => (by decide : Part.pending ∉ ([.tm, .sessions, .ports] : List Part))
theorem spiStatus : ∀ a0 a1, Statement (.spiStatus a0 a1) :=
  fun _ _ => (by decide : Part.pending ∉ ([.tm, .ports] : List Part))
theorem halfOpenTimeout : ∀ a0 a1, Statement (.halfOpenTimeout a0 a1) :=
  fun _ _ => (by decide : Part.pending ∉ ([.regs, .tm, .sessions, .owner, .former, .ports, .msgs, .fw, .maint] : List Part))
theorem keepaliveTimeout : ∀ a0 a1, Statement (.keepaliveTimeout a0 a1) :=
  fun _ _ => (by decide : Part.pending ∉ ([.regs, .tm, .sessions, .owner, .former, .ports, .msgs, .fw, .maint] : List Part))
theorem resetDelay : ∀ a0 a1, Statement (.resetDelay a0 a1) :=
  fun _ _ => (by decide : Part.pending ∉ ([.regs, .live, .liveHist, .tm, .mem, .latches, .straps, .geo, .hst, .mix, .sched, .ost, .cores, .tdm, .aes, .aesOut, .vox, .asc, .mics, .bound, .ps, .tly, .macs, .ptp, .srx, .stx, .acts, .gpio, .pins, .sessions, .owner, .former, .ports, .devBusy, .enrol, .plays, .fw, .flash, .maint, .triggers, .armed, .totals, .totalsAt, .lib, .bwt, .mir, .cel, .fab, .clk, .sup, .image] : List Part))
theorem scheduledAction : ∀ a0 a1, Statement (.scheduledAction a0 a1) :=
  fun _ _ => (by decide : Part.pending ∉ ([.regs, .tm, .acts, .gpio, .sessions, .ports] : List Part))
theorem sessionOpen : ∀ a0 a1, Statement (.sessionOpen a0 a1) :=
  fun _ _ => (by decide : Part.pending ∉ ([.regs, .tm, .free, .sessions, .owner, .former, .ports, .msgs, .fw, .maint] : List Part))
theorem sessionClose : ∀ a0, Statement (.sessionClose a0) :=
  fun _ => (by decide : Part.pending ∉ ([.regs, .tm, .sessions, .owner, .former, .ports, .msgs, .fw, .maint] : List Part))
theorem keepalive : ∀ a0, Statement (.keepalive a0) :=
  fun _ => (by decide : Part.pending ∉ ([.regs, .tm, .sessions, .ports] : List Part))
theorem claim : ∀ a0 a1, Statement (.claim a0 a1) :=
  fun _ _ => (by decide : Part.pending ∉ ([.regs, .tm, .sessions, .owner, .former, .ports] : List Part))
theorem release : ∀ a0 a1, Statement (.release a0 a1) :=
  fun _ _ => (by decide : Part.pending ∉ ([.regs, .tm, .sessions, .owner, .former, .ports] : List Part))
theorem preempt : ∀ a0 a1, Statement (.preempt a0 a1) :=
  fun _ _ => (by decide : Part.pending ∉ ([.regs, .tm, .sessions, .owner, .former, .ports] : List Part))
theorem objDefine : ∀ a0 a1 a2, Statement (.objDefine a0 a1 a2) :=
  fun _ _ _ => (by decide : Part.pending ∉ ([.regs, .tm, .geo, .hst, .sched, .ost, .bound, .sessions, .ports] : List Part))
theorem objMove : ∀ a0 a1, Statement (.objMove a0 a1) :=
  fun _ _ => (by decide : Part.pending ∉ ([.regs, .tm, .geo, .sched, .sessions, .ports] : List Part))
theorem objPath : ∀ a0 a1 a2, Statement (.objPath a0 a1 a2) :=
  fun _ _ _ => (by decide : Part.pending ∉ ([.regs, .tm, .sched, .sessions, .ports] : List Part))
theorem objGain : ∀ a0 a1, Statement (.objGain a0 a1) :=
  fun _ _ => (by decide : Part.pending ∉ ([.regs, .tm, .sched, .sessions, .ports] : List Part))
theorem objMute : ∀ a0 a1, Statement (.objMute a0 a1) :=
  fun _ _ => (by decide : Part.pending ∉ ([.regs, .tm, .sched, .sessions, .ports] : List Part))
theorem objQuery : ∀ a0 a1 a2, Statement (.objQuery a0 a1 a2) :=
  fun _ _ _ => (by decide : Part.pending ∉ ([.regs, .tm, .sessions, .ports] : List Part))
theorem spkLayoutLoad : ∀ a0 a1 a2, Statement (.spkLayoutLoad a0 a1 a2) :=
  fun _ _ _ => (by decide : Part.pending ∉ ([.regs, .tm, .geo, .sessions, .ports, .mir] : List Part))
theorem pastureBuild : ∀ a0 a1, Statement (.pastureBuild a0 a1) :=
  fun _ _ => (by decide : Part.pending ∉ ([.regs, .tm, .geo, .sessions, .ports, .mir] : List Part))
theorem zoneDefine : ∀ a0 a1 a2 a3, Statement (.zoneDefine a0 a1 a2 a3) :=
  fun _ _ _ _ => (by decide : Part.pending ∉ ([.regs, .tm, .geo, .sessions, .ports, .mir] : List Part))
theorem routeSet : ∀ a0 a1 a2 a3 a4 a5 a6 a7, Statement (.routeSet a0 a1 a2 a3 a4 a5 a6 a7) :=
  fun _ _ _ _ _ _ _ _ => (by decide : Part.pending ∉ ([.regs, .tm, .hst, .sched, .ost, .bound, .sessions, .ports] : List Part))
theorem routeQuery : ∀ a0 a1 a2, Statement (.routeQuery a0 a1 a2) :=
  fun _ _ _ => (by decide : Part.pending ∉ ([.regs, .tm, .sessions, .ports] : List Part))
theorem eqSet : ∀ a0 a1 a2 a3, Statement (.eqSet a0 a1 a2 a3) :=
  fun _ _ _ _ => (by decide : Part.pending ∉ ([.regs, .tm, .sched, .ost, .bound, .sessions, .ports] : List Part))
theorem firLoad : ∀ a0 a1 a2 a3 a4, Statement (.firLoad a0 a1 a2 a3 a4) :=
  fun _ _ _ _ _ => (by decide : Part.pending ∉ ([.regs, .tm, .mix, .sessions, .ports, .mir] : List Part))
theorem firInstall : ∀ a0 a1, Statement (.firInstall a0 a1) :=
  fun _ _ => (by decide : Part.pending ∉ ([.regs, .tm, .mix, .ost, .bound, .sessions, .ports, .mir] : List Part))
theorem limiterSet : ∀ a0 a1 a2 a3 a4 a5, Statement (.limiterSet a0 a1 a2 a3 a4 a5) :=
  fun _ _ _ _ _ _ => (by decide : Part.pending ∉ ([.regs, .tm, .sched, .ost, .bound, .sessions, .ports] : List Part))
theorem outDelay : ∀ a0 a1, Statement (.outDelay a0 a1) :=
  fun _ _ => (by decide : Part.pending ∉ ([.regs, .tm, .sched, .ost, .bound, .sessions, .ports] : List Part))
theorem identControl : ∀ a0 a1, Statement (.identControl a0 a1) :=
  fun _ _ => (by decide : Part.pending ∉ ([.regs, .tm, .mix, .ost, .bound, .sessions, .ports] : List Part))
theorem identExport : ∀ a0 a1 a2, Statement (.identExport a0 a1 a2) :=
  fun _ _ _ => (by decide : Part.pending ∉ ([.regs, .tm, .sessions, .ports] : List Part))
theorem streamRxSet : ∀ a0 a1, Statement (.streamRxSet a0 a1) :=
  fun _ _ => (by decide : Part.pending ∉ ([.regs, .tm, .sched, .ost, .bound, .sessions, .ports, .mir] : List Part))
theorem streamTxSet : ∀ a0 a1, Statement (.streamTxSet a0 a1) :=
  fun _ _ => (by decide : Part.pending ∉ ([.regs, .tm, .sched, .ost, .bound, .sessions, .ports, .mir] : List Part))
theorem portTdmSet : ∀ a0 a1 a2 a3 a4 a5 a6, Statement (.portTdmSet a0 a1 a2 a3 a4 a5 a6) :=
  fun _ _ _ _ _ _ _ => (by decide : Part.pending ∉ ([.regs, .tm, .sched, .ost, .bound, .sessions, .ports, .mir] : List Part))
theorem portAesSet : ∀ a0 a1 a2 a3 a4 a5, Statement (.portAesSet a0 a1 a2 a3 a4 a5) :=
  fun _ _ _ _ _ _ => (by decide : Part.pending ∉ ([.regs, .tm, .sched, .ost, .bound, .sessions, .ports, .mir] : List Part))
theorem micSet : ∀ a0 a1 a2 a3, Statement (.micSet a0 a1 a2 a3) :=
  fun _ _ _ _ => (by decide : Part.pending ∉ ([.regs, .tm, .sched, .ost, .mics, .bound, .sessions, .ports, .mir] : List Part))
theorem asrcSet : ∀ a0 a1 a2 a3, Statement (.asrcSet a0 a1 a2 a3) :=
  fun _ _ _ _ => (by decide : Part.pending ∉ ([.regs, .tm, .sched, .ost, .bound, .sessions, .ports, .mir] : List Part))
theorem psConfig : ∀ a0 a1 a2, Statement (.psConfig a0 a1 a2) :=
  fun _ _ _ => (by decide : Part.pending ∉ ([.regs, .tm, .sched, .ost, .bound, .ps, .tly, .sessions, .ports, .mir] : List Part))
theorem psEnable : ∀ a0 a1, Statement (.psEnable a0 a1) :=
  fun _ _ => (by decide : Part.pending ∉ ([.regs, .tm, .sched, .ps, .tly, .sessions, .ports] : List Part))
theorem psLoopPair : ∀ a0 a1 a2, Statement (.psLoopPair a0 a1 a2) :=
  fun _ _ _ => (by decide : Part.pending ∉ ([.regs, .tm, .sched, .ost, .bound, .ps, .tly, .sessions, .ports, .mir] : List Part))
theorem psBandProtect : ∀ a0 a1, Statement (.psBandProtect a0 a1) :=
  fun _ _ => (by decide : Part.pending ∉ ([.regs, .tm, .sched, .ost, .bound, .sessions, .ports, .mir] : List Part))
theorem psStatus : ∀ a0 a1 a2, Statement (.psStatus a0 a1 a2) :=
  fun _ _ _ => (by decide : Part.pending ∉ ([.regs, .tm, .sessions, .ports] : List Part))
theorem psFaultClear : ∀ a0 a1, Statement (.psFaultClear a0 a1) :=
  fun _ _ => (by decide : Part.pending ∉ ([.regs, .tm, .ps, .tly, .sessions, .ports] : List Part))
theorem tallySchedule : ∀ a0 a1, Statement (.tallySchedule a0 a1) :=
  fun _ _ => (by decide : Part.pending ∉ ([.regs, .tm, .ost, .bound, .tly, .sessions, .ports, .mir] : List Part))
theorem tallyRunNow : ∀ a0 a1 a2, Statement (.tallyRunNow a0 a1 a2) :=
  fun _ _ _ => (by decide : Part.pending ∉ ([.regs, .tm, .ps, .tly, .sessions, .ports] : List Part))
theorem tallyLogRead : ∀ a0 a1 a2, Statement (.tallyLogRead a0 a1 a2) :=
  fun _ _ _ => (by decide : Part.pending ∉ ([.regs, .tm, .tly, .sessions, .ports] : List Part))
theorem baselineCapture : ∀ a0 a1, Statement (.baselineCapture a0 a1) :=
  fun _ _ => (by decide : Part.pending ∉ ([.regs, .tm, .ps, .tly, .sessions, .ports] : List Part))
theorem timeConfig : ∀ a0 a1, Statement (.timeConfig a0 a1) :=
  fun _ _ => (by decide : Part.pending ∉ ([.regs, .tm, .ost, .bound, .ptp, .sessions, .ports, .mir] : List Part))
theorem timeStatus : ∀ a0, Statement (.timeStatus a0) :=
  fun _ => (by decide : Part.pending ∉ ([.regs, .tm, .free, .sessions, .ports] : List Part))
theorem scheduleEvent : ∀ a0 a1 a2 a3, Statement (.scheduleEvent a0 a1 a2 a3) :=
  fun _ _ _ _ => (by decide : Part.pending ∉ ([.regs, .tm, .acts, .sessions, .ports] : List Part))
theorem mirrorConfig : ∀ a0 a1 a2, Statement (.mirrorConfig a0 a1 a2) :=
  fun _ _ _ => (by decide : Part.pending ∉ ([.regs, .tm, .geo, .hst, .mix, .ps, .tly, .stx, .sessions, .ports, .mir] : List Part))
theorem mirrorStatus : ∀ a0, Statement (.mirrorStatus a0) :=
  fun _ => (by decide : Part.pending ∉ ([.regs, .tm, .sessions, .ports] : List Part))
theorem mirrorSwitchover : ∀ a0, Statement (.mirrorSwitchover a0) :=
  fun _ => (by decide : Part.pending ∉ ([.regs, .tm, .sessions, .ports, .mir] : List Part))
theorem attest : ∀ a0 a1, Statement (.attest a0 a1) :=
  fun _ _ => (by decide : Part.pending ∉ ([.regs, .tm, .free, .sessions, .ports] : List Part))
theorem certRead : ∀ a0 a1, Statement (.certRead a0 a1) :=
  fun _ _ => (by decide : Part.pending ∉ ([.regs, .tm, .sessions, .ports] : List Part))
theorem fwBegin : ∀ a0 a1 a2, Statement (.fwBegin a0 a1 a2) :=
  fun _ _ _ => (by decide : Part.pending ∉ ([.regs, .tm, .sessions, .ports, .fw] : List Part))
theorem fwChunk : ∀ a0 a1 a2, Statement (.fwChunk a0 a1 a2) :=
  fun _ _ _ => (by decide : Part.pending ∉ ([.regs, .tm, .sessions, .ports, .fw] : List Part))
theorem fwCommit : ∀ a0, Statement (.fwCommit a0) :=
  fun _ => (by decide : Part.pending ∉ ([.regs, .tm, .sessions, .ports, .devBusy] : List Part))
theorem keyRotate : ∀ a0 a1, Statement (.keyRotate a0 a1) :=
  fun _ _ => (by decide : Part.pending ∉ ([.regs, .tm, .sessions, .ports, .devBusy, .enrol, .mir] : List Part))
theorem paramRead : ∀ a0 a1, Statement (.paramRead a0 a1) :=
  fun _ _ => (by decide : Part.pending ∉ ([.regs, .tm, .sessions, .ports] : List Part))
theorem paramWrite : ∀ a0 a1, Statement (.paramWrite a0 a1) :=
  fun _ _ => (by decide : Part.pending ∉ ([.regs, .tm, .mix, .sched, .ost, .bound, .sessions, .ports, .mir, .clk] : List Part))
theorem safeStage : ∀ a0 a1, Statement (.safeStage a0 a1) :=
  fun _ _ => (by decide : Part.pending ∉ ([.regs, .tm, .sessions, .ports] : List Part))
theorem safeCommit : ∀ a0 a1, Statement (.safeCommit a0 a1) :=
  fun _ _ => (by decide : Part.pending ∉ ([.regs, .tm, .mix, .sched, .ost, .bound, .sessions, .ports, .mir, .clk] : List Part))
theorem countersRead : ∀ a0 a1, Statement (.countersRead a0 a1) :=
  fun _ _ => (by decide : Part.pending ∉ ([.regs, .tm, .macs, .sessions, .ports, .totals, .totalsAt, .cel] : List Part))
theorem msgStore : ∀ a0 a1 a2, Statement (.msgStore a0 a1 a2) :=
  fun _ _ _ => (by decide : Part.pending ∉ ([.regs, .tm, .sessions, .ports, .msgs, .lib, .mir] : List Part))
theorem msgPlay : ∀ a0 a1 a2 a3 a4, Statement (.msgPlay a0 a1 a2 a3 a4) :=
  fun _ _ _ _ _ => (by decide : Part.pending ∉ ([.regs, .tm, .sessions, .ports, .plays] : List Part))
theorem msgStop : ∀ a0 a1 a2, Statement (.msgStop a0 a1 a2) :=
  fun _ _ _ => (by decide : Part.pending ∉ ([.regs, .tm, .sched, .sessions, .ports] : List Part))
theorem shedConfig : ∀ a0 a1 a2 a3 a4 a5, Statement (.shedConfig a0 a1 a2 a3 a4 a5) :=
  fun _ _ _ _ _ _ => (by decide : Part.pending ∉ ([.regs, .tm, .ost, .bound, .sessions, .ports, .mir] : List Part))
theorem supplyStatus : ∀ a0, Statement (.supplyStatus a0) :=
  fun _ => (by decide : Part.pending ∉ ([.regs, .tm, .sessions, .ports] : List Part))
theorem maintEnter : ∀ a0 a1, Statement (.maintEnter a0 a1) :=
  fun _ _ => (by decide : Part.pending ∉ ([.regs, .tm, .sessions, .ports, .maint] : List Part))
theorem rawRead : ∀ a0 a1 a2, Statement (.rawRead a0 a1 a2) :=
  fun _ _ _ => (by decide : Part.pending ∉ ([.regs, .tm, .free, .latches, .tdm, .aes, .tly, .macs, .sessions, .ports, .cel, .fab] : List Part))
theorem rawWrite : ∀ a0 a1 a2, Statement (.rawWrite a0 a1 a2) :=
  fun _ _ _ => (by decide : Part.pending ∉ ([.regs, .tm, .mem, .free, .latches, .geo, .mix, .sched, .ost, .cores, .tdm, .aes, .mics, .ps, .tly, .macs, .pins, .sessions, .ports, .otp, .bwt, .cel, .fab, .clk] : List Part))
theorem reset : ∀ a0, Statement (.reset a0) :=
  fun _ => (by decide : Part.pending ∉ ([.regs, .tm, .sessions, .ports, .devBusy] : List Part))
theorem disagreement : ∀ a0 a1 a2 a3, Statement (.disagreement a0 a1 a2 a3) :=
  fun _ _ _ _ => (by decide : Part.pending ∉ ([.regs, .tm, .bwt] : List Part))
theorem heartbeatPeriod : ∀ a0, Statement (.heartbeatPeriod a0) :=
  fun _ => (by decide : Part.pending ∉ ([.tm, .mir] : List Part))
theorem hello : ∀ a0 a1, Statement (.hello a0 a1) :=
  fun _ _ => (by decide : Part.pending ∉ ([.regs, .tm, .ps, .tly, .sessions, .ports, .mir] : List Part))
theorem heartbeat : ∀ a0 a1, Statement (.heartbeat a0 a1) :=
  fun _ _ => (by decide : Part.pending ∉ ([.regs, .tm, .ps, .tly, .sessions, .ports, .mir] : List Part))
theorem hbPinEdge : ∀ a0, Statement (.hbPinEdge a0) :=
  fun _ => (by decide : Part.pending ∉ ([.regs, .tm, .sessions, .ports, .mir] : List Part))
theorem heartbeatMiss : ∀ a0 a1, Statement (.heartbeatMiss a0 a1) :=
  fun _ _ => (by decide : Part.pending ∉ ([.regs, .tm, .sessions, .ports, .mir] : List Part))
theorem actiChange : ∀ a0 a1, Statement (.actiChange a0 a1) :=
  fun _ _ => (by decide : Part.pending ∉ ([.regs, .tm, .ps, .tly, .sessions, .ports] : List Part))
theorem arbitrationTimeout : ∀ a0, Statement (.arbitrationTimeout a0) :=
  fun _ => (by decide : Part.pending ∉ ([.regs, .tm, .ps, .tly, .sessions, .ports, .mir] : List Part))
theorem copyFix : ∀ a0 a1, Statement (.copyFix a0 a1) :=
  fun _ _ => (by decide : Part.pending ∉ ([.regs, .tm, .sessions, .ports, .mir] : List Part))
theorem copy : ∀ a0 a1 a2, Statement (.copy a0 a1 a2) :=
  fun _ _ _ => (by decide : Part.pending ∉ ([.regs, .live, .tm, .geo, .mix, .sched, .bound, .sessions, .ports, .plays, .mir] : List Part))
theorem bulk : ∀ a0 a1 a2 a3, Statement (.bulk a0 a1 a2 a3) :=
  fun _ _ _ _ => (by decide : Part.pending ∉ ([.regs, .tm, .geo, .mix, .sessions, .ports, .enrol, .msgs, .lib, .mir] : List Part))
theorem pattern : ∀ a0 a1, Statement (.pattern a0 a1) :=
  fun _ _ => (by decide : Part.pending ∉ ([.tm, .mir] : List Part))
theorem handoverChannelStart : ∀ a0, Statement (.handoverChannelStart a0) :=
  fun _ => (by decide : Part.pending ∉ ([.regs, .tm, .ps, .tly] : List Part))
theorem handoverEnd : ∀ a0, Statement (.handoverEnd a0) :=
  fun _ => (by decide : Part.pending ∉ ([.regs, .tm, .mix, .ps, .tly, .sessions, .owner, .former, .ports, .mir] : List Part))
theorem dramRequest : ∀ a0 a1 a2 a3, Statement (.dramRequest a0 a1 a2 a3) :=
  fun _ _ _ _ => (by decide : Part.pending ∉ ([.regs, .tm, .free, .cel, .fab] : List Part))
theorem rowIdleClose : ∀ a0 a1 a2, Statement (.rowIdleClose a0 a1 a2) :=
  fun _ _ _ => (by decide : Part.pending ∉ ([.tm, .cel] : List Part))
theorem refresh : ∀ a0 a1, Statement (.refresh a0 a1) :=
  fun _ _ => (by decide : Part.pending ∉ ([.regs, .tm, .cel] : List Part))
theorem dqsOscillatorRead : ∀ a0 a1 a2, Statement (.dqsOscillatorRead a0 a1 a2) :=
  fun _ _ _ => (by decide : Part.pending ∉ ([.tm, .cel] : List Part))
theorem trainReq : ∀ a0, Statement (.trainReq a0) :=
  fun _ => (by decide : Part.pending ∉ ([.regs, .tm, .cel] : List Part))
theorem retrainStep : ∀ a0 a1 a2, Statement (.retrainStep a0 a1 a2) :=
  fun _ _ _ => (by decide : Part.pending ∉ ([.regs, .tm, .sessions, .ports, .cel] : List Part))
theorem retrainTimeout : ∀ a0, Statement (.retrainTimeout a0) :=
  fun _ => (by decide : Part.pending ∉ ([.regs, .tm, .sessions, .ports, .cel] : List Part))
theorem trainingComplete : ∀ a0 a1 a2, Statement (.trainingComplete a0 a1 a2) :=
  fun _ _ _ => (by decide : Part.pending ∉ ([.regs, .tm] : List Part))
theorem powerDownIdle : ∀ a0 a1, Statement (.powerDownIdle a0 a1) :=
  fun _ _ => (by decide : Part.pending ∉ ([.tm, .cel] : List Part))
theorem fabErrinfoRead : Statement (.fabErrinfoRead) :=
  (by decide : Part.pending ∉ ([.regs] : List Part))
theorem sysRemapSwap : ∀ a0, Statement (.sysRemapSwap a0) :=
  fun _ => (by decide : Part.pending ∉ ([.regs] : List Part))
theorem powerOnReset : ∀ a0 a1, Statement (.powerOnReset a0 a1) :=
  fun _ _ => (by decide : Part.pending ∉ ([.regs, .live, .liveHist, .tm, .mem, .latches, .straps, .geo, .hst, .mix, .sched, .ost, .cores, .tdm, .aes, .aesOut, .vox, .asc, .mics, .bound, .ps, .tly, .macs, .ptp, .srx, .stx, .acts, .gpio, .pins, .sessions, .owner, .former, .ports, .devBusy, .enrol, .plays, .fw, .flash, .maint, .triggers, .armed, .totals, .totalsAt, .lib, .bwt, .mir, .cel, .fab, .clk, .sup, .image] : List Part))
theorem externalReset : ∀ a0 a1, Statement (.externalReset a0 a1) :=
  fun _ _ => (by decide : Part.pending ∉ ([.regs, .live, .liveHist, .tm, .mem, .latches, .straps, .geo, .hst, .mix, .sched, .ost, .cores, .tdm, .aes, .aesOut, .vox, .asc, .mics, .bound, .ps, .tly, .macs, .ptp, .srx, .stx, .acts, .gpio, .pins, .sessions, .owner, .former, .ports, .devBusy, .enrol, .plays, .fw, .flash, .maint, .triggers, .armed, .totals, .totalsAt, .lib, .bwt, .mir, .cel, .fab, .clk, .sup, .image] : List Part))
theorem railFail : ∀ a0 a1, Statement (.railFail a0 a1) :=
  fun _ _ => (by decide : Part.pending ∉ ([.regs, .live, .liveHist, .tm, .mem, .latches, .straps, .geo, .hst, .mix, .sched, .ost, .cores, .tdm, .aes, .aesOut, .vox, .asc, .mics, .bound, .ps, .tly, .macs, .ptp, .srx, .stx, .acts, .gpio, .pins, .sessions, .owner, .former, .ports, .devBusy, .enrol, .plays, .fw, .flash, .maint, .triggers, .armed, .totals, .totalsAt, .lib, .bwt, .mir, .cel, .fab, .clk, .sup, .image] : List Part))
theorem rcReady : ∀ a0, Statement (.rcReady a0) :=
  fun _ => (by decide : Part.pending ∉ ([.regs, .tm, .clk] : List Part))
theorem trimWrite : ∀ a0 a1, Statement (.trimWrite a0 a1) :=
  fun _ _ => (by decide : Part.pending ∉ ([.regs, .tm, .clk] : List Part))
theorem rcTrimInterval : ∀ a0, Statement (.rcTrimInterval a0) :=
  fun _ => (by decide : Part.pending ∉ ([.regs, .clk] : List Part))
theorem xoStartDelay : ∀ a0, Statement (.xoStartDelay a0) :=
  fun _ => (by decide : Part.pending ∉ ([.tm, .clk] : List Part))
theorem xoStartTimeout : ∀ a0, Statement (.xoStartTimeout a0) :=
  fun _ => (by decide : Part.pending ∉ ([.regs, .tm] : List Part))
theorem monitorWindow : ∀ a0 a1 a2 a3, Statement (.monitorWindow a0 a1 a2 a3) :=
  fun _ _ _ _ => (by decide : Part.pending ∉ ([.regs, .tm, .tdm, .aes, .ps, .tly, .macs, .sessions, .ports, .clk] : List Part))
theorem monitorNoEdge : ∀ a0 a1, Statement (.monitorNoEdge a0 a1) :=
  fun _ _ => (by decide : Part.pending ∉ ([.regs, .tm, .tdm, .aes, .ps, .tly, .macs, .sessions, .ports, .clk] : List Part))
theorem pllUnlock : ∀ a0 a1, Statement (.pllUnlock a0 a1) :=
  fun _ _ => (by decide : Part.pending ∉ ([.regs, .tm, .tdm, .aes, .ps, .tly, .macs, .sessions, .ports, .clk] : List Part))
theorem restore : Statement (.restore) :=
  (by decide : Part.pending ∉ ([.clk] : List Part))
theorem gateRunWrite : ∀ a0 a1 a2, Statement (.gateRunWrite a0 a1 a2) :=
  fun _ _ _ => (by decide : Part.pending ∉ ([.regs, .tm, .cores, .clk] : List Part))
theorem gatesClose : ∀ a0, Statement (.gatesClose a0) :=
  fun _ => (by decide : Part.pending ∉ ([.regs, .tm, .cores, .clk] : List Part))
theorem quiescenceTimeout : ∀ a0 a1, Statement (.quiescenceTimeout a0 a1) :=
  fun _ _ => (by decide : Part.pending ∉ ([.regs, .tm, .clk] : List Part))
theorem wake : ∀ a0 a1, Statement (.wake a0 a1) :=
  fun _ _ => (by decide : Part.pending ∉ ([.regs, .live, .liveHist, .tm, .mem, .latches, .geo, .hst, .mix, .sched, .ost, .cores, .tdm, .aes, .aesOut, .vox, .asc, .mics, .bound, .ps, .tly, .macs, .srx, .stx, .acts, .gpio, .sessions, .owner, .former, .ports, .devBusy, .plays, .fw, .maint, .armed, .totals, .totalsAt, .lib, .mir, .cel, .fab, .clk, .sup, .image] : List Part))
theorem deepSleepClose : ∀ a0 a1, Statement (.deepSleepClose a0 a1) :=
  fun _ _ => (by decide : Part.pending ∉ ([.regs, .tm, .sessions, .owner, .former, .ports, .msgs, .fw, .maint, .clk] : List Part))
theorem mainsDebounce : ∀ a0 a1, Statement (.mainsDebounce a0 a1) :=
  fun _ _ => (by decide : Part.pending ∉ ([.regs, .tm, .sup] : List Part))
theorem brownout : ∀ a0, Statement (.brownout a0) :=
  fun _ => (by decide : Part.pending ∉ ([.regs, .tm, .ps, .tly, .sessions, .ports, .sup] : List Part))
theorem brownoutRecovery : ∀ a0 a1, Statement (.brownoutRecovery a0 a1) :=
  fun _ _ => (by decide : Part.pending ∉ ([.regs, .live, .liveHist, .tm, .mem, .latches, .straps, .geo, .hst, .mix, .sched, .ost, .cores, .tdm, .aes, .aesOut, .vox, .asc, .mics, .bound, .ps, .tly, .macs, .ptp, .srx, .stx, .acts, .gpio, .pins, .sessions, .owner, .former, .ports, .devBusy, .enrol, .plays, .fw, .flash, .maint, .triggers, .armed, .totals, .totalsAt, .lib, .bwt, .mir, .cel, .fab, .clk, .sup, .image] : List Part))
theorem supervisorRelease : ∀ a0 a1 a2 a3, Statement (.supervisorRelease a0 a1 a2 a3) :=
  fun _ _ _ _ => (by decide : Part.pending ∉ ([.regs, .live, .tm, .mem, .free, .geo, .hst, .mix, .sched, .ost, .cores, .mics, .bound, .ps, .tly, .ptp, .stx, .sessions, .ports, .enrol, .otp, .triggers, .lib, .mir, .image] : List Part))
theorem evacuationTrigger : ∀ a0 a1, Statement (.evacuationTrigger a0 a1) :=
  fun _ _ => (by decide : Part.pending ∉ ([.tm, .plays] : List Part))
theorem setField : ∀ a0, Statement (.setField a0) :=
  fun _ => (by decide : Part.pending ∉ ([.regs, .tm, .otp] : List Part))
theorem faultInjection : ∀ a0 a1, Statement (.faultInjection a0 a1) :=
  fun _ _ => (by decide : Part.pending ∉ ([.tm, .bwt] : List Part))
theorem registerWrite : ∀ a0 a1 a2 a3 a4 a5, Statement (.registerWrite a0 a1 a2 a3 a4 a5) :=
  fun _ _ _ _ _ _ => (by decide : Part.pending ∉ ([.regs, .tm, .mem, .free, .latches, .geo, .mix, .sched, .ost, .cores, .tdm, .aes, .mics, .ps, .tly, .macs, .pins, .sessions, .ports, .otp, .bwt, .cel, .fab, .clk] : List Part))
theorem identExportComplete : ∀ a0 a1, Statement (.identExportComplete a0 a1) :=
  fun _ _ => (by decide : Part.pending ∉ ([.regs, .tm, .mix, .sessions, .ports] : List Part))
theorem fwCommitComplete : ∀ a0 a1 a2, Statement (.fwCommitComplete a0 a1 a2) :=
  fun _ _ _ => (by decide : Part.pending ∉ ([.regs, .tm, .sessions, .ports, .devBusy, .fw, .flash] : List Part))
theorem keyRotateComplete : ∀ a0, Statement (.keyRotateComplete a0) :=
  fun _ => (by decide : Part.pending ∉ ([.regs, .tm, .sessions, .owner, .former, .ports, .devBusy, .msgs, .fw, .maint] : List Part))
theorem primaryTimePortReturn : ∀ a0, Statement (.primaryTimePortReturn a0) :=
  fun _ => (by decide : Part.pending ∉ ([.tm, .ptp] : List Part))
theorem foldBlockLockLoss : ∀ a0 a1, Statement (.foldBlockLockLoss a0 a1) :=
  fun _ _ => (by decide : Part.pending ∉ ([.regs, .tm] : List Part))

end Sys2Proof.Laws.Queue
end

