-- ==== Sys2Proof/Laws/Receive.lean ====
section
/-! SUPPORT. What the reception of a packet does (R277): an accepted command runs, and its reply is all that follows. -/

-- One proof at a time: the package as one text then takes less memory.
set_option Elab.async false

namespace Sys2Proof.Machine

open Sys2Proof

variable {s a : State} {h : Hdr} {d : OpInfo} {i : Nat}

/-- The common checks together with the opcode's own ones. -/
theorem State.opCheck_ok {x : Session} {c : OpCheck} (ha : a.opCheck h d x ⟨true, true, false, .ok⟩ = .ok) (hl : c.len = true)
    (ho : c.own = true) (hs : c.shed = false) (hv : c.val = .ok) : a.opCheck h d x c = .ok := by
  obtain ⟨l, o, sh, v⟩ := c
  subst hl ho hs hv
  exact ha

/-- An accepted command whose own checks pass runs, and answers what it gives. -/
theorem State.receive_takes {chk : State → Nat → OpCheck} {run : State → Nat → State × Option (Status × List Byte)}
    (ht : s.takes h d i a) (hl : (chk a i).len = true) (ho : (chk a i).own = true) (hs : (chk a i).shed = false) (hv : (chk a i).val = .ok) :
    s.receive h d chk run = (match (run (a.takePlace i (a.hdrDone h d.timed) h.timed) i).2 with
      | some (st, data) => (run (a.takePlace i (a.hdrDone h d.timed) h.timed) i).1.reply i d.code h.seq.toNat st data true
      | none => (run (a.takePlace i (a.hdrDone h d.timed) h.timed) i).1) := by
  obtain ⟨h1, h2⟩ := ht
  unfold State.receive
  rw [h1]
  simp only [State.opCheck_ok h2 hl ho hs hv]
  all_goals rcases run (a.takePlace i (a.hdrDone h d.timed) h.timed) i with ⟨t, _ | ⟨st, data⟩⟩ <;> rfl

/-- An opcode without a timed form takes no place. -/
theorem State.flagCheck_untimed {x : Session} (hd : d.timed = .no) (ht : h.timed = true) : a.flagCheck h d x ≠ .ok := by
  unfold State.flagCheck
  rw [ht, hd]
  split
  · exact fun e => nomatch e
  · rw [if_pos ⟨rfl, .inl rfl⟩]; exact fun e => nomatch e

theorem State.takes_untimed (ht : s.takes h d i a) (hd : d.timed = .no) : h.timed = false := by
  obtain ⟨-, h2⟩ := ht
  cases ht : h.timed with
  | false => rfl
  | true =>
    exfalso
    have h3 := State.flagCheck_untimed (x := a.session i) (a := a) hd ht
    unfold State.opCheck at h2
    generalize a.flagCheck h d (a.session i) = st at h2 h3
    cases st <;> first | exact h3 rfl | (simp only at h2; repeat' split at h2) <;> exact nomatch h2

theorem State.takePlace_false {n : Nat} : s.takePlace i n false = s := by simp [State.takePlace]

end Sys2Proof.Machine
end

