-- ==== Sys2Proof/Tests/Slice0.lean ====
section
/-! SUPPORT. Tests: a term that each well-formedness check refuses, worked examples of the spec, and for every clause of a
statement that has hypotheses a state and operands that meet them all. -/

-- One proof at a time: the package as one text then takes less memory.
set_option Elab.async false

namespace Sys2Proof.Tests

open Sys2Proof Sys2Proof.Machine

set_option linter.unusedVariables false

/-- The state the tests begin with. -/
def z : State := State.reset

/-- A session of protocol 3.2 and class 0 on port 0. -/
def sess0 : Session :=
  { sessReset with phase := .opened, major := 3, minor := 2, cls := 0, pmax := 4080, lastSeq := 0 }

/-- The host interface is on, the unit is SINGLE, and session 0 is open and owns every zone, power channel and stream context. -/
def up : State :=
  { ((State.reset.wr R.HIF_CTRL_ENABLE 1).wr R.FLD_STATUS_ROLE 0) with
    sessions := [(0, sess0)]
    owner := (List.range 128).map (fun z => (z, 1)) ++ (List.range 24).map (fun z => (4096 + z, 1)) ++
      (List.range 192).map (fun z => (8192 + z, 1)) }

/-- The header of a command of session 0 with a payload of `n` bytes. -/
def hd (n : Nat) : Hdr :=
  ⟨0, 0, 3, 2, false, false, false, false, false, false, false, false, 1#32, .good, false, n, 0, 0, 1000⟩

/-- The same, to be applied at time `t`. -/
def hdAt (n t : Nat) : Hdr := { hd n with timed := true, time := t }

/-- What step 2 to 6 of R277 leave of a state. -/
def heardOf (s : State) (h : Hdr) (d : OpInfo) : State :=
  match s.hear h d with
  | .accepted _ a => a
  | .done a => a

/-- Core 0 runs. -/
def drv : State := (State.reset.wr (R.DRV_CTRL_RUN 0) 1).wr (R.DRV_STATUS_STATE 0) 1

/-- Core 0 runs and is in state `x`. -/
def drvWith (x : CoreSt) : State := { drv with cores := [(0, x)] }

/-- A core with values in its first registers. -/
def full : CoreSt :=
  { coreReset with
    v := (List.range 16).map (fun i => (i, 131071 - 17000 * i))
    k := (List.range 16).map (fun i => (i, 90000 - 12000 * i))
    x := (List.range 16).map (fun i => (i, 0x7FFFFFFF + 123456789 * i))
    acc := (List.range 16).map (fun i => (i, 2 ^ 44 - 2 ^ 41 * i)) }

/-- Slot 0 of a bundle of core 0, beside NOP. -/
def iss : Issue := ⟨0, false, 0#32⟩

/-- Slot 1. -/
def iss1 : Issue := ⟨0, true, 0#32⟩

/-- The same after the first lock of the time unit. -/
def lk : State := up.wr R.TSU_STATUS_FIRST 1

/-- Bus 0, of zone 0, is fed with message 255, which is stored. -/
def fed : State :=
  { ((((up.wr (R.MIX_BUS_CFG_EN 0) 1).wr (R.MIX_BUS_IN_W0_EN 0 0) 1).wr (R.MIX_BUS_IN_W0_SRC 0 0) 0xA0FF)) with
    msgs := [(255, some { state := .valid, sess := none, evac := true, total := 3, crc := 0, data := [1, 2, 3] })] }

/-- The state after reset with values written to fields. -/
def ev (l : List (Fld × Nat)) : State := l.foldl (fun s p => s.wr p.1 p.2) State.reset

/-- A broadcast frame of 60 bytes before its FCS. -/
def bcast : List Byte := List.replicate 6 0xFF ++ List.replicate 6 2 ++ [8, 0] ++ List.replicate 46 0

/-- A PAUSE frame of 1000 quanta. -/
def pauseFrame : List Byte := [1, 0x80, 0xC2, 0, 0, 1] ++ List.replicate 6 2 ++ [0x88, 8, 0, 1, 3, 0xE8] ++ List.replicate 46 0

/-- A frame with its FCS. -/
def withFcs (bs : List Byte) : List Byte := bs ++ fcsOf bs

/-- A packet of one channel, L16, 16 samples, to 239.1.2.3 port 5004. -/
def rtpFrame : List Byte :=
  [1, 0, 0x5E, 1, 2, 3] ++ List.replicate 6 2 ++ [8, 0] ++
  [0x45, 0, 0, 72, 0, 0, 0, 0, 32, 17, 0, 0, 10, 0, 0, 1, 0xEF, 1, 2, 3] ++ [0x13, 0x8C, 0x13, 0x8C, 0, 52, 0, 0] ++
  [0x80, 97, 0, 7, 0, 0, 0, 9, 0, 0, 0, 1] ++ List.replicate 32 1

/-- Ring 0 of MAC 0 receives into a buffer at 0x20510000. -/
def rxs : State :=
  (((ev [(R.MAC_CTRL_RX_EN 0, 1), (R.MAC_RING_W1_EN 0 0, 1), (R.MAC_RING_W1_SIZE 0 0, 4), (R.MAC_RING_W2_BUF_SIZE 0 0, 24),
    (R.MAC_RING_W0_BASE 0 0, 0x20500000), (R.MAC_CTRL_STRIP_FCS 0, 0), (R.MAC_RX_DEFAULT_DROP 0, 0), (R.MAC_RX_DEFAULT_RING 0, 0), (R.CLK_GATE_NOW_VALUE, 0)]).store 0x20500000 4 0x20510000).store
    0x20500004 4 0x80000000)

/-- Queue 7 of MAC 0 has one frame of 60 bytes. -/
def txs : State :=
  (ev [(R.MAC_CTRL_TX_EN 0, 1), (R.MAC_STATUS_LINK 0, 1), (R.MAC_TXQ_W1_EN 0 7, 1), (R.MAC_TXQ_W1_SIZE 0 7, 2), (R.MAC_TXQ_W2_TAIL 0 7, 0),
    (R.MAC_TXQ_W3_HEAD 0 7, 1), (R.MAC_TXQ_W0_BASE 0 7, 0x20500000), (R.CLK_GATE_NOW_VALUE, 0), (R.TSU_CTRL_ENABLE, 1)]).store 0x20500010 8 (0xA000003C * 2 ^ 32 + 0x20510000)

/-- A ring of the stream engine whose descriptor 0 has word `w`, with a frame in its buffer. -/
def strs (w : Nat) (f : List Byte) : State :=
  (((ev [(R.STR_CTRL_ENABLE, 1), (R.MAC_RING_W1_OWNER 0 15, 1), (R.MAC_RING_W1_EN 0 15, 1), (R.MAC_RING_W1_SIZE 0 15, 2),
    (R.MAC_RING_W0_BASE 0 15, 0x20500000), (R.STR_RX_W0_EN 3, 1), (R.STR_RX_W0_MAC 3, 0), (R.STR_RX_W1_DST 3, 0xEF010203),
    (R.STR_RX_W3_DPORT 3, 5004), (R.STR_RX_W0_PT 3, 97), (R.STR_RX_W0_FMT 3, 1), (R.CLK_GATE_NOW_VALUE, 0)]).store 0x20500000 8 (w * 2 ^ 32 + 0x20510000)).setBytes 0x20510000 f)

/-- The mirror link is on, in a role. -/
def mirs (role : Nat) (l : List (Fld × Nat)) : State := ev ([(R.FLD_CTRL_EN, 1), (R.FLD_STATUS_ROLE, role), (R.CLK_GATE_NOW_VALUE, 0)] ++ l)

/-- A frame of the mirror link. -/
def fold0 : FoldFrame := ⟨z.mir.major, 0, 1, false, false, false, false, false, true, 0, 0, 0, 0⟩

/-- The same with no clock gated. -/
def go (l : List (Fld × Nat)) : State := ev ((R.CLK_GATE_NOW_VALUE, 0) :: l)

/-- One drive voltage early in a window, whatever the sense delay. -/
theorem volts_one (x : PsSt) (w : Nat) (hv : x.volts = [(500, 100)]) (hw : w = 0) : windowVolts x w = (10000, 1) := by
  have h : 500 < 1000000 - min 250000 Config.senseDelay := by omega
  subst hw
  simp [windowVolts, hv, ms, h]

/-- A calibration of 0 senses nothing. -/
theorem sensed_zero {q k e1 e2 n : Nat} (hk : k = 0) (hn : 0 < e1 * n) : 16 * q * k ^ 2 * e2 < e1 * n := by
  subst hk; simpa using hn

/-- Memory that holds one word. -/
def wordAt (a v : Nat) : Cells Byte :=
  [(a, BitVec.ofNat 8 v), (a + 1, BitVec.ofNat 8 (v / 256)), (a + 2, BitVec.ofNat 8 (v / 65536)), (a + 3, BitVec.ofNat 8 (v / 16777216))]

theorem load_wordAt (s : State) (a v : Nat) (hv : v < 2 ^ 32) (h : s.mem = wordAt a v) : s.load a 4 = v := by
  have h2 : a ≠ a + 1 + 1 := by omega
  have h3 : a ≠ a + 1 + 1 + 1 := by omega
  simp [State.load, State.bytes, State.byte, h, wordAt, Cells.get, ofLeBytes, h2, h3]; omega

/-- A reply. -/
def pkt (n : Nat) : Packet := ⟨0, 3, 2, 0, 0x0101, n, false, false, 0, false, .ok, []⟩

/-- An arrival at the DRAM controller: class `c`, address `a`. -/
def arr (c : Fin 8) (a : Nat) : DramArr := ⟨5, a, c, true, false, false, 3, 9⟩

/-- A request in the controller's queue. -/
def req0 : DramReq := ⟨0, 0, 1, 3, 9, 5, 6, true, true, true⟩

/-- A valid image: one section of KIND 1, 544 bytes in all, version 7, ROLLBACK 2. -/
def img : List Byte :=
  leBytes 4 0x464C5854 ++ leBytes 4 0x02200001 ++ leBytes 4 7 ++ leBytes 4 0x01010002 ++ leBytes 4 544 ++ List.replicate 76 0 ++ [1] ++ List.replicate 447 0

/-- What the ROM finds of a good slot. -/
def slot0 : SlotCheck := ⟨true, 7, 0, 2, 0, 3, 2, 0, true, 5⟩

/-- A long operation. -/
def long (op arg : Nat) : LongOp := ⟨op, 0, 9, 0, 10, arg⟩

/-- A command that is waiting, and one whose packet is in a bad frame. -/
def badHd : Hdr := { hd 0 with framing := .badFrame }

/-- What a write of PST_BANK_EXP leaves of the other registers and of the banks. -/
theorem exp_wr (s : State) (v : Nat) (f : Fld) (h : f.addr ≠ R.PST_BANK_EXP_VALUE.addr) : (s.wr R.PST_BANK_EXP_VALUE v).rd f = s.rd f :=
  State.rd_wr_addr h

theorem exp_crc (s : State) (v b : Nat) : (s.wr R.PST_BANK_EXP_VALUE v).bankCrc b = s.bankCrc b := by
  have h : ∀ w, (s.wr R.PST_BANK_EXP_VALUE v).bankWord b w = s.bankWord b w := fun w => by
    unfold State.bankWord
    rw [State.wr_geo]
  simp only [State.bankCrc, h]

theorem crc_lt (s : State) (b : Nat) : s.bankCrc b < 2 ^ 32 := by
  unfold State.bankCrc
  exact BitVec.isLt _

/-- A bank is being verified; the expected CRC-32 is the bank's plus `k`. -/
def verifying (k : Nat) : State :=
  (go [(R.PST_STATUS_VERIFY_BUSY, 1)]).wr R.PST_BANK_EXP_VALUE (((go [(R.PST_STATUS_VERIFY_BUSY, 1)]).bankCrc 1 + k) % 2 ^ 32)

theorem verifying_holds (k : Nat) : (verifying k).gated 1 = false ∧ (verifying k).on R.PST_STATUS_VERIFY_BUSY = true ∧
    (verifying k).rd R.PST_BANK_EXP_VALUE = ((verifying k).bankCrc (verifying k).stagedBank + k) % 2 ^ 32 := by
  have hb : (verifying k).stagedBank = 1 := by
    unfold verifying State.stagedBank State.activeBank
    rw [exp_wr _ _ R.PST_STATUS_ACTIVE_BANK (by decide)]; decide +kernel
  refine ⟨?_, ?_, ?_⟩
  · unfold verifying State.gated; rw [exp_wr _ _ R.CLK_GATE_NOW_VALUE (by decide), State.wr_clk]; decide +kernel
  · unfold verifying State.on; rw [exp_wr _ _ R.PST_STATUS_VERIFY_BUSY (by decide)]; decide +kernel
  · rw [hb]; unfold verifying; rw [exp_crc, State.rd_wr_self (by decide)]
    simp [R.PST_BANK_EXP_VALUE]

/-! ### Well-formedness -/

theorem test_wf_header_sess : (Instr.keepalive { hd 0 with sess := 256 }).wf = false := by decide
theorem test_wf_header_major : (Instr.keepalive { hd 0 with major := 256 }).wf = false := by decide
theorem test_wf_header_minor : (Instr.keepalive { hd 0 with minor := 256 }).wf = false := by decide
theorem test_wf_header_len : (Instr.keepalive { hd 0 with len := 65536 }).wf = false := by decide
theorem test_wf_header_rampMs : (Instr.keepalive { hd 0 with rampMs := 65536 }).wf = false := by decide
theorem test_wf_header_time : (Instr.keepalive { hd 0 with time := 2 ^ 64 }).wf = false := by decide
/-- A plain request of protocol 3. -/
def openReq : OpenReq := ⟨1, 0, 3, 2, 2, true, false, 0, 0, false⟩

theorem test_wf_open_minMajor : (Instr.sessionOpen (hd 12) { openReq with minMajor := 256 }).wf = false := by decide
theorem test_wf_open_minMinor : (Instr.sessionOpen (hd 12) { openReq with minMinor := 256 }).wf = false := by decide
theorem test_wf_open_maxMajor : (Instr.sessionOpen (hd 12) { openReq with maxMajor := 256 }).wf = false := by decide
theorem test_wf_open_maxMinor : (Instr.sessionOpen (hd 12) { openReq with maxMinor := 256 }).wf = false := by decide
theorem test_wf_open_cls : (Instr.sessionOpen (hd 12) { openReq with cls := 256 }).wf = false := by decide
theorem test_wf_open_timeout : (Instr.sessionOpen (hd 12) { openReq with timeout := 65536 }).wf = false := by decide
theorem test_wf_open_key : (Instr.sessionOpen (hd 12) { openReq with key := 65536 }).wf = false := by decide
/-- Too long a list. -/
def many {α : Type} (n : Nat) (x : α) : List α := List.replicate n x

theorem many_length {α : Type} (n : Nat) (x : α) : (many n x).length = n := List.length_replicate

theorem test_wf_claim : (.claim (hd 0) (many 65536 0) : Instr).wf = false := by simp [Instr.wf, Instr.shape, many_length]
theorem test_wf_release : (.release (hd 0) (many 65536 0) : Instr).wf = false := by simp [Instr.wf, Instr.shape, many_length]
theorem test_wf_preempt : (.preempt (hd 0) (many 65536 0) : Instr).wf = false := by simp [Instr.wf, Instr.shape, many_length]
theorem test_wf_objMove : (.objMove (hd 0) (many 65536 (0, ⟨0, 0, 0⟩)) : Instr).wf = false := by simp [Instr.wf, Instr.shape, many_length]
theorem test_wf_objPath : (.objPath (hd 0) 0 (many 256 ⟨⟨0, 0, 0⟩, 0⟩) : Instr).wf = false := by simp [Instr.wf, Instr.shape, many_length]
theorem test_wf_objPath_time : (.objPath (hd 0) 0 [⟨⟨0, 0, 0⟩, 2 ^ 64⟩] : Instr).wf = false := by simp [Instr.wf, Instr.shape, many_length]
theorem test_wf_objGain : (.objGain (hd 0) (many 65536 (0, 0)) : Instr).wf = false := by simp [Instr.wf, Instr.shape, many_length]
theorem test_wf_objMute : (.objMute (hd 0) (many 65536 (0, false)) : Instr).wf = false := by simp [Instr.wf, Instr.shape, many_length]
theorem test_wf_spkLayoutLoad : (.spkLayoutLoad (hd 0) 0 (many 65536 0) : Instr).wf = false := by simp [Instr.wf, Instr.shape, many_length]
theorem test_wf_pastureBuild : (.pastureBuild (hd 0) (many 256 0) : Instr).wf = false := by simp [Instr.wf, Instr.shape, many_length]
theorem test_wf_zoneDefine : (.zoneDefine (hd 0) 0 false (many 65536 0) : Instr).wf = false := by simp [Instr.wf, Instr.shape, many_length]
theorem test_wf_routeSet : (.routeSet (hd 0) 0 false false 0 0 0 (many 256 ⟨0, 0, 0⟩) : Instr).wf = false := by simp [Instr.wf, Instr.shape, many_length]
theorem test_wf_eqSet : (.eqSet (hd 0) 0 0 (many 256 ⟨0, 0, 0, 0, 0⟩) : Instr).wf = false := by simp [Instr.wf, Instr.shape, many_length]
theorem test_wf_firLoad : (.firLoad (hd 0) 0 0 0 (many 65536 0) : Instr).wf = false := by simp [Instr.wf, Instr.shape, many_length]
theorem test_wf_firInstall : (.firInstall (hd 0) (many 256 ⟨0, false, 0⟩) : Instr).wf = false := by simp [Instr.wf, Instr.shape, many_length]
theorem test_wf_outDelay : (.outDelay (hd 0) (many 65536 (0, 0)) : Instr).wf = false := by simp [Instr.wf, Instr.shape, many_length]
theorem test_wf_identControl_hearing : (.identControl (hd 0) ⟨0, true, false, 4, 0, 0, 0, 0, 0, [], List.replicate 31 0⟩ : Instr).wf = false := by simp [Instr.wf, Instr.shape, many_length]
theorem test_wf_identControl_target : (.identControl (hd 0) ⟨0, true, false, 4, 0, 0, 0, 0, 0, List.replicate 16 0, []⟩ : Instr).wf = false := by simp [Instr.wf, Instr.shape, many_length]
theorem test_wf_portTdmSet : (.portTdmSet (hd 0) 0 0 0 0 0 [] : Instr).wf = false := by simp [Instr.wf, Instr.shape, many_length]
theorem test_wf_psEnable : (.psEnable (hd 0) (many 256 (0, 0)) : Instr).wf = false := by simp [Instr.wf, Instr.shape, many_length]
theorem test_wf_psBandProtect : (.psBandProtect (hd 0) (many 256 0) : Instr).wf = false := by simp [Instr.wf, Instr.shape, many_length]
theorem test_wf_psFaultClear : (.psFaultClear (hd 0) (many 256 (0, 0)) : Instr).wf = false := by simp [Instr.wf, Instr.shape, many_length]
theorem test_wf_baselineCapture : (.baselineCapture (hd 0) (many 256 0) : Instr).wf = false := by simp [Instr.wf, Instr.shape, many_length]
theorem test_wf_fwChunk : (.fwChunk (hd 0) 0 (many 65536 0) : Instr).wf = false := by simp [Instr.wf, Instr.shape, many_length]
theorem test_wf_keyRotate : (.keyRotate (hd 0) (many 256 ⟨0, 0, 0, 0, 0, false⟩) : Instr).wf = false := by simp [Instr.wf, Instr.shape, many_length]
theorem test_wf_paramRead : (.paramRead (hd 0) (many 65536 0) : Instr).wf = false := by simp [Instr.wf, Instr.shape, many_length]
theorem test_wf_paramWrite : (.paramWrite (hd 0) (many 65536 (0, 0)) : Instr).wf = false := by simp [Instr.wf, Instr.shape, many_length]
theorem test_wf_safeStage : (.safeStage (hd 0) (many 65536 (0, 0)) : Instr).wf = false := by simp [Instr.wf, Instr.shape, many_length]
theorem test_wf_countersRead : (.countersRead (hd 0) (many 65536 0) : Instr).wf = false := by simp [Instr.wf, Instr.shape, many_length]
theorem test_wf_msgStore : (.msgStore (hd 0) ⟨0, false, false, 0, 0, 0⟩ (many 65536 0) : Instr).wf = false := by simp [Instr.wf, Instr.shape, many_length]
theorem test_wf_rawWrite : (.rawWrite (hd 0) 0 (many 65536 0) : Instr).wf = false := by simp [Instr.wf, Instr.shape, many_length]
theorem test_wf_tdmFrame : (.tdmFrame 0 1 [] 0 0 0 : Instr).wf = false := by simp [Instr.wf, Instr.shape, many_length]
theorem test_wf_loopWindow : (.loopWindow 0 [] 0 : Instr).wf = false := by simp [Instr.wf, Instr.shape, many_length]
theorem test_wf_accepts : (Instr.keepalive (hd 0)).wf = true := by decide

/-! ### Worked examples of the spec -/

/-- The table of R153. -/
theorem test_gain_table :
    gainLin 1200 = 2077351 ∧ gainLin 300 = 261523 ∧ gainLin 0 = 131072 ∧ gainLin (-300) = 65692 ∧ gainLin (-1000) = 13107 ∧
      gainLin (-5419) = 0 := by decide +kernel

/-- R12: 0x0003 is later than 0xFFFE. -/
theorem test_later : laterThan 16 0x0003 0xFFFE = true ∧ laterThan 16 0xFFFE 0x0003 = false := by decide

/-- The MAC that ch. 6 encodes as 0x0471_4050: bank 0, VA = V14, VB = V10, Z = 1, PS = 1. -/
theorem test_mac_word :
    decodeDrv 0x04714050 = .mac ⟨false, 14, 10, false, false, 0, false, true, 1, false⟩ := by decide

/-- The delay tap of ch. 3's worked example: sample 0 of object 40. -/
theorem test_tap_sample : interp (fun k => if k = -978 then 20000 else if k = -979 then 24000 else if k = -980 then 26000 else 25000) 0 250746 = 25264 := by decide +kernel

/-- R37: the rate at 343.0 m/s and 48 kHz. -/
theorem test_sound_rate : rheDivNat (48000 * 4294967296) 343000 = 601044986 := by decide +kernel

/-- The walk of ch. 2's worked example: 15,000 blocks in, x is 45,000 mm. -/
theorem test_path : lerp 30000 222000 0 64000000000 5000000000 = 45000 := by decide +kernel

/-- No word spells a command, and placing one changes nothing. -/
theorem test_no_words : decodeTableWord 32 5 = none ∧ z.withFetchWord 32 5 = z := by decide +kernel

/-! ### States and operands that meet the hypotheses of the statements -/

theorem test_StepRunsTheFront_1 : ∃ (s : State) (c : Instr) (q : List Instr), s.pending = c :: q :=
  ⟨{ z with pending := [.fabErrinfoRead, .restore] }, .fabErrinfoRead, [.restore], by decide +kernel⟩

theorem test_StepRunsTheFront_2 : ∃ (s : State), s.pending = [] :=
  ⟨z, by decide +kernel⟩

theorem test_StepKeepsCanonical_1 : ∃ (s : State) (t : State), s.canonical = true ∧ step s = .next t :=
  ⟨{ z with pending := [.fabErrinfoRead] }, _, by decide +kernel, (rfl)⟩

theorem test_CommandFrame_1 : ∃ (i : Instr) (s : State) (t : State), exec i s = .next t :=
  ⟨.fabErrinfoRead, z, _, (rfl)⟩

theorem test_CommandFrame_2 : ∃ (i : Instr) (s : State) (t : State), exec i s = .next t ∧ ∃ p, p ∉ changes i :=
  ⟨.fabErrinfoRead, z, _, (rfl), .mem, by decide +kernel⟩

theorem test_RegistersAndMemory_1 : ∃ (s : State) (f : Fld) (g : Fld) (v : Nat), f.lo ≤ f.hi ∧ g.lo ≤ g.hi :=
  ⟨z, R.MAC_MDIO_OP 2, R.MAC_MDIO_DATA 2, 9, by decide +kernel, by decide +kernel⟩

theorem test_RegistersAndMemory_3 : ∃ (s : State) (f : Fld) (g : Fld) (v : Nat), f.lo ≤ f.hi ∧ g.lo ≤ g.hi ∧ g.addr ≠ f.addr :=
  ⟨z, R.MAC_MDIO_OP 2, R.TLY_FOLD_VALUE, 9, by decide +kernel, by decide +kernel, by decide +kernel⟩

theorem test_RegistersAndMemory_5 : ∃ (s : State) (f : Fld) (g : Fld) (v : Nat), f.lo ≤ f.hi ∧ g.lo ≤ g.hi ∧ g.addr = f.addr ∧ g.rst = f.rst ∧ g.rst96 = f.rst96 ∧ (g.hi < f.lo ∨ f.hi < g.lo) :=
  ⟨z, R.MAC_MDIO_OP 2, R.MAC_MDIO_DATA 2, 9, by decide +kernel, by decide +kernel, by decide +kernel, by decide +kernel, by decide +kernel, by decide +kernel⟩

theorem test_RegistersAndMemory_7 : ∃ (s : State) (f : Fld) (g : Fld) (v : Nat), f.lo ≤ f.hi ∧ g.lo ≤ g.hi ∧ ∃ p, p ≠ Part.regs :=
  ⟨z, R.MAC_MDIO_OP 2, R.MAC_MDIO_DATA 2, 9, by decide +kernel, by decide +kernel, .mem, by decide +kernel⟩

theorem test_RegistersAndMemory_8 : ∃ (s : State) (f : Fld) (n : Nat), f.lo = 0 ∧ f.hi = 31 :=
  ⟨z, R.TLY_FOLD_VALUE, 0, by decide +kernel, by decide +kernel⟩

theorem test_RegistersAndMemory_11 : ∃ (s : State) (a : Nat) (n : Nat) (v : Nat), ∃ b, (b < a ∨ a + n ≤ b) :=
  ⟨z, 0, 4, 9, 4, by decide +kernel⟩

theorem test_RegistersAndMemory_13 : ∃ (s : State) (a : Nat) (n : Nat) (v : Nat), ∃ p, p ≠ Part.mem :=
  ⟨z, 0, 0, 9, .regs, by decide +kernel⟩

theorem test_RegistersAndMemory_14 : ∃ (s : State) (t : State), s.canonical = true ∧ t.canonical = true ∧ (∀ a, s.byte a = t.byte a) :=
  ⟨z, z, by decide +kernel, by decide +kernel, (fun _ => rfl)⟩

theorem test_RoundingToEven_1 : ∃ (a : Int) (b : Nat), 0 < b :=
  ⟨5, 2, by decide +kernel⟩

theorem test_RoundingToEven_2 : ∃ (a : Int) (b : Nat), 0 < b ∧ ∃ (m : Int), m ≠ rheDiv a b ∧ (a - m * b).natAbs = (a - rheDiv a b * b).natAbs :=
  ⟨5, 2, by decide +kernel, 3, by decide +kernel, by decide +kernel⟩

theorem test_SequenceOrder_2 : ∃ (n : Nat) (a : Nat) (b : Nat), 0 < n :=
  ⟨16, 0, 32768, by decide +kernel⟩

theorem test_SequenceOrder_3 : ∃ (n : Nat) (a : Nat) (b : Nat), 0 < n ∧ a < 2 ^ n ∧ b < 2 ^ n ∧ laterThan n a b = true :=
  ⟨16, 3, 2, by decide +kernel, by decide +kernel, by decide +kernel, by decide +kernel⟩

theorem test_SequenceOrder_4 : ∃ (n : Nat) (a : Nat) (b : Nat), 0 < n ∧ a < 2 ^ n ∧ b < 2 ^ n ∧ a = b :=
  ⟨16, 0, 0, by decide +kernel, by decide +kernel, by decide +kernel, by decide +kernel⟩

theorem test_SequenceOrder_5 : ∃ (n : Nat) (a : Nat) (b : Nat), 0 < n ∧ a < 2 ^ n ∧ b < 2 ^ n ∧ ((a : Int) - b = 2 ^ (n - 1) ∨ (b : Int) - a = 2 ^ (n - 1)) :=
  ⟨16, 0, 32768, by decide +kernel, by decide +kernel, by decide +kernel, by decide +kernel⟩

theorem test_SequenceOrder_6 : ∃ (n : Nat) (a : Nat) (b : Nat), 0 < n ∧ a < 2 ^ n ∧ b < 2 ^ n ∧ a ≠ b ∧ (a : Int) - b ≠ 2 ^ (n - 1) ∧ (b : Int) - a ≠ 2 ^ (n - 1) :=
  ⟨16, 3, 65534, by decide +kernel, by decide +kernel, by decide +kernel, by decide +kernel, by decide +kernel, by decide +kernel⟩

theorem test_GainLaw_2 : ∃ (g : Int), -32768 < g ∧ g < -6000 :=
  ⟨-6001, by decide +kernel, by decide +kernel⟩

theorem test_GainLaw_3 : ∃ (g : Int), 1200 < g :=
  ⟨1201, by decide +kernel⟩

theorem test_GainLaw_4 : ∃ (g : Nat), g ≤ 1200 :=
  ⟨1200, by decide +kernel⟩

theorem test_GainLaw_5 : ∃ (g : Nat), g ≤ 6000 :=
  ⟨6000, by decide +kernel⟩

theorem test_Interleave_1 : ∃ (s : State), s.celChannels = 2 :=
  ⟨ev [(R.CEL_STATUS_TRAINED, 3)], by decide +kernel⟩

theorem test_Interleave_2 : ∃ (s : State), s.celChannels = 2 :=
  ⟨ev [(R.CEL_STATUS_TRAINED, 3)], by decide +kernel⟩

theorem test_Interleave_3 : ∃ (s : State), s.celChannels = 2 ∧ let g : Nat := if s.rd R.CEL_CFG_GRAIN = 0 then 256 else if s.rd R.CEL_CFG_GRAIN = 1 then 1024 else 4096; ∃ a b, s.dramPlace a = s.dramPlace b :=
  ⟨ev [(R.CEL_STATUS_TRAINED, 3)], by (try dsimp only) <;> decide +kernel, 5, 5, by (try dsimp only) <;> decide +kernel⟩

theorem test_ReceptionSteps_1 : ∃ (s : State) (h : Hdr) (d : OpInfo) (chk : State → Nat → OpCheck) (run : State → Nat → State × Option (Status × List Byte)), let p : Nat := h.port.val; let i : Nat := h.sess; let x : Session := s.session i; let t : State := s.receive h d chk run; let up (f : Fld) : Prop := t.rd f = min 0xFFFFFFFF (s.rd f + 1); let only (ps : List Part) : Prop := ∀ q, q ∉ ps → Part.same q s t; let kept : Prop := up (R.HIF_CNT_RX_VALUE p) ∧ (t.session i).lastSeq = x.lastSeq ∧ (t.session i).cache = x.cache ∧ (t.session i).phase = .opened ∧ (t.session i).lastRx = (s.atRaw h.t).tm.raw ∧ only [.tm, .regs, .ports, .sessions]; let mute (f : Fld) : Prop := up (R.HIF_CNT_RX_VALUE p) ∧ up f ∧ (t.port p).out = (s.port p).out ∧ only [.tm, .regs, .ports]; s.portEnabled p = false :=
  ⟨z, hd 0, ⟨0x0103, (1, 0), .no, false, .other⟩, fun _ _ => ⟨true, true, false, .ok⟩, fun s _ => (s, none), by (try dsimp only) <;> decide +kernel⟩

theorem test_ReceptionSteps_2 : ∃ (s : State) (h : Hdr) (d : OpInfo) (chk : State → Nat → OpCheck) (run : State → Nat → State × Option (Status × List Byte)), let p : Nat := h.port.val; let i : Nat := h.sess; let x : Session := s.session i; let t : State := s.receive h d chk run; let up (f : Fld) : Prop := t.rd f = min 0xFFFFFFFF (s.rd f + 1); let only (ps : List Part) : Prop := ∀ q, q ∉ ps → Part.same q s t; let kept : Prop := up (R.HIF_CNT_RX_VALUE p) ∧ (t.session i).lastSeq = x.lastSeq ∧ (t.session i).cache = x.cache ∧ (t.session i).phase = .opened ∧ (t.session i).lastRx = (s.atRaw h.t).tm.raw ∧ only [.tm, .regs, .ports, .sessions]; let mute (f : Fld) : Prop := up (R.HIF_CNT_RX_VALUE p) ∧ up f ∧ (t.port p).out = (s.port p).out ∧ only [.tm, .regs, .ports]; s.portEnabled p = true ∧ h.framing = .badFrame :=
  ⟨up, { hd 0 with framing := .badFrame }, ⟨0x0103, (1, 0), .no, false, .other⟩, fun _ _ => ⟨true, true, false, .ok⟩, fun s _ => (s, none), by (try dsimp only) <;> decide +kernel, by (try dsimp only) <;> decide +kernel⟩

theorem test_ReceptionSteps_3 : ∃ (s : State) (h : Hdr) (d : OpInfo) (chk : State → Nat → OpCheck) (run : State → Nat → State × Option (Status × List Byte)), let p : Nat := h.port.val; let i : Nat := h.sess; let x : Session := s.session i; let t : State := s.receive h d chk run; let up (f : Fld) : Prop := t.rd f = min 0xFFFFFFFF (s.rd f + 1); let only (ps : List Part) : Prop := ∀ q, q ∉ ps → Part.same q s t; let kept : Prop := up (R.HIF_CNT_RX_VALUE p) ∧ (t.session i).lastSeq = x.lastSeq ∧ (t.session i).cache = x.cache ∧ (t.session i).phase = .opened ∧ (t.session i).lastRx = (s.atRaw h.t).tm.raw ∧ only [.tm, .regs, .ports, .sessions]; let mute (f : Fld) : Prop := up (R.HIF_CNT_RX_VALUE p) ∧ up f ∧ (t.port p).out = (s.port p).out ∧ only [.tm, .regs, .ports]; s.portEnabled p = true ∧ h.framing = .badCrc :=
  ⟨up, { hd 0 with framing := .badCrc }, ⟨0x0103, (1, 0), .no, false, .other⟩, fun _ _ => ⟨true, true, false, .ok⟩, fun s _ => (s, none), by (try dsimp only) <;> decide +kernel, by (try dsimp only) <;> decide +kernel⟩

theorem test_ReceptionSteps_4 : ∃ (s : State) (h : Hdr) (d : OpInfo) (chk : State → Nat → OpCheck) (run : State → Nat → State × Option (Status × List Byte)), let p : Nat := h.port.val; let i : Nat := h.sess; let x : Session := s.session i; let t : State := s.receive h d chk run; let up (f : Fld) : Prop := t.rd f = min 0xFFFFFFFF (s.rd f + 1); let only (ps : List Part) : Prop := ∀ q, q ∉ ps → Part.same q s t; let kept : Prop := up (R.HIF_CNT_RX_VALUE p) ∧ (t.session i).lastSeq = x.lastSeq ∧ (t.session i).cache = x.cache ∧ (t.session i).phase = .opened ∧ (t.session i).lastRx = (s.atRaw h.t).tm.raw ∧ only [.tm, .regs, .ports, .sessions]; let mute (f : Fld) : Prop := up (R.HIF_CNT_RX_VALUE p) ∧ up f ∧ (t.port p).out = (s.port p).out ∧ only [.tm, .regs, .ports]; s.portEnabled p = true ∧ h.framing = .good ∧ (8 ≤ i ∨ x.phase = .closed ∨ x.port ≠ p) :=
  ⟨up, { hd 0 with sess := 8 }, ⟨0x0103, (1, 0), .no, false, .other⟩, fun _ _ => ⟨true, true, false, .ok⟩, fun s _ => (s, none), by (try dsimp only) <;> decide +kernel, by (try dsimp only) <;> decide +kernel, by (try dsimp only) <;> decide +kernel⟩

theorem test_ReceptionSteps_5 : ∃ (s : State) (h : Hdr) (d : OpInfo) (chk : State → Nat → OpCheck) (run : State → Nat → State × Option (Status × List Byte)), let p : Nat := h.port.val; let i : Nat := h.sess; let x : Session := s.session i; let t : State := s.receive h d chk run; let up (f : Fld) : Prop := t.rd f = min 0xFFFFFFFF (s.rd f + 1); let only (ps : List Part) : Prop := ∀ q, q ∉ ps → Part.same q s t; let kept : Prop := up (R.HIF_CNT_RX_VALUE p) ∧ (t.session i).lastSeq = x.lastSeq ∧ (t.session i).cache = x.cache ∧ (t.session i).phase = .opened ∧ (t.session i).lastRx = (s.atRaw h.t).tm.raw ∧ only [.tm, .regs, .ports, .sessions]; let mute (f : Fld) : Prop := up (R.HIF_CNT_RX_VALUE p) ∧ up f ∧ (t.port p).out = (s.port p).out ∧ only [.tm, .regs, .ports]; s.portEnabled p = true ∧ h.framing = .good ∧ i < 8 ∧ x.phase ≠ .closed ∧ x.port = p ∧ tagPasses h x = false :=
  ⟨up, { hd 0 with prot := true }, ⟨0x0103, (1, 0), .no, false, .other⟩, fun _ _ => ⟨true, true, false, .ok⟩, fun s _ => (s, none), by (try dsimp only) <;> decide +kernel, by (try dsimp only) <;> decide +kernel, by (try dsimp only) <;> decide +kernel, by (try dsimp only) <;> decide +kernel, by (try dsimp only) <;> decide +kernel, by (try dsimp only) <;> decide +kernel⟩

theorem test_ReceptionSteps_6 : ∃ (s : State) (h : Hdr) (d : OpInfo) (chk : State → Nat → OpCheck) (run : State → Nat → State × Option (Status × List Byte)), let p : Nat := h.port.val; let i : Nat := h.sess; let x : Session := s.session i; let t : State := s.receive h d chk run; let up (f : Fld) : Prop := t.rd f = min 0xFFFFFFFF (s.rd f + 1); let only (ps : List Part) : Prop := ∀ q, q ∉ ps → Part.same q s t; let kept : Prop := up (R.HIF_CNT_RX_VALUE p) ∧ (t.session i).lastSeq = x.lastSeq ∧ (t.session i).cache = x.cache ∧ (t.session i).phase = .opened ∧ (t.session i).lastRx = (s.atRaw h.t).tm.raw ∧ only [.tm, .regs, .ports, .sessions]; let mute (f : Fld) : Prop := up (R.HIF_CNT_RX_VALUE p) ∧ up f ∧ (t.port p).out = (s.port p).out ∧ only [.tm, .regs, .ports]; s.portEnabled p = true ∧ h.framing = .good ∧ i < 8 ∧ x.phase ≠ .closed ∧ x.port = p ∧ tagPasses h x = true ∧ (s.runningFor p d.code).isSome = true :=
  ⟨up.setPort 0 { up.port 0 with busy := some (long 0x0407 0) }, hd 0, ⟨0x0103, (1, 0), .no, false, .other⟩, fun _ _ => ⟨true, true, false, .ok⟩, fun s _ => (s, none), by (try dsimp only) <;> decide +kernel, by (try dsimp only) <;> decide +kernel, by (try dsimp only) <;> decide +kernel, by (try dsimp only) <;> decide +kernel, by (try dsimp only) <;> decide +kernel, by (try dsimp only) <;> decide +kernel, by (try dsimp only) <;> decide +kernel⟩

theorem test_ReceptionSteps_7 : ∃ (s : State) (h : Hdr) (d : OpInfo) (chk : State → Nat → OpCheck) (run : State → Nat → State × Option (Status × List Byte)), let p : Nat := h.port.val; let i : Nat := h.sess; let x : Session := s.session i; let t : State := s.receive h d chk run; let up (f : Fld) : Prop := t.rd f = min 0xFFFFFFFF (s.rd f + 1); let only (ps : List Part) : Prop := ∀ q, q ∉ ps → Part.same q s t; let kept : Prop := up (R.HIF_CNT_RX_VALUE p) ∧ (t.session i).lastSeq = x.lastSeq ∧ (t.session i).cache = x.cache ∧ (t.session i).phase = .opened ∧ (t.session i).lastRx = (s.atRaw h.t).tm.raw ∧ only [.tm, .regs, .ports, .sessions]; let mute (f : Fld) : Prop := up (R.HIF_CNT_RX_VALUE p) ∧ up f ∧ (t.port p).out = (s.port p).out ∧ only [.tm, .regs, .ports]; s.portEnabled p = true ∧ h.framing = .good ∧ i < 8 ∧ x.phase ≠ .closed ∧ x.port = p ∧ tagPasses h x = true ∧ s.runningFor p d.code = none ∧ (h.major ≠ x.major ∨ h.minor ≠ x.minor) :=
  ⟨up, { hd 0 with minor := 1 }, ⟨0x0103, (1, 0), .no, false, .other⟩, fun _ _ => ⟨true, true, false, .ok⟩, fun s _ => (s, none), by (try dsimp only) <;> decide +kernel, by (try dsimp only) <;> decide +kernel, by (try dsimp only) <;> decide +kernel, by (try dsimp only) <;> decide +kernel, by (try dsimp only) <;> decide +kernel, by (try dsimp only) <;> decide +kernel, by (try dsimp only) <;> decide +kernel, by (try dsimp only) <;> decide +kernel⟩

theorem test_ReceptionSteps_8 : ∃ (s : State) (h : Hdr) (d : OpInfo) (chk : State → Nat → OpCheck) (run : State → Nat → State × Option (Status × List Byte)), let p : Nat := h.port.val; let i : Nat := h.sess; let x : Session := s.session i; let t : State := s.receive h d chk run; let up (f : Fld) : Prop := t.rd f = min 0xFFFFFFFF (s.rd f + 1); let only (ps : List Part) : Prop := ∀ q, q ∉ ps → Part.same q s t; let kept : Prop := up (R.HIF_CNT_RX_VALUE p) ∧ (t.session i).lastSeq = x.lastSeq ∧ (t.session i).cache = x.cache ∧ (t.session i).phase = .opened ∧ (t.session i).lastRx = (s.atRaw h.t).tm.raw ∧ only [.tm, .regs, .ports, .sessions]; let mute (f : Fld) : Prop := up (R.HIF_CNT_RX_VALUE p) ∧ up f ∧ (t.port p).out = (s.port p).out ∧ only [.tm, .regs, .ports]; s.portEnabled p = true ∧ h.framing = .good ∧ i < 8 ∧ x.phase ≠ .closed ∧ x.port = p ∧ tagPasses h x = true ∧ s.runningFor p d.code = none ∧ h.major = x.major ∧ h.minor = x.minor ∧ ∃ k, x.cache.find? (fun c => c.1 = h.seq.toNat) = some k :=
  ⟨{ up with sessions := [(0, { sess0 with cache := [(1, pkt 1)] })] }, hd 0, ⟨0x0103, (1, 0), .no, false, .other⟩, fun _ _ => ⟨true, true, false, .ok⟩, fun s _ => (s, none), by (try dsimp only) <;> decide +kernel, by (try dsimp only) <;> decide +kernel, by (try dsimp only) <;> decide +kernel, by (try dsimp only) <;> decide +kernel, by (try dsimp only) <;> decide +kernel, by (try dsimp only) <;> decide +kernel, by (try dsimp only) <;> decide +kernel, by (try dsimp only) <;> decide +kernel, by (try dsimp only) <;> decide +kernel, (1, pkt 1), by (try dsimp only) <;> decide +kernel⟩

theorem test_ReceptionSteps_9 : ∃ (s : State) (h : Hdr) (d : OpInfo) (chk : State → Nat → OpCheck) (run : State → Nat → State × Option (Status × List Byte)), let p : Nat := h.port.val; let i : Nat := h.sess; let x : Session := s.session i; let t : State := s.receive h d chk run; let up (f : Fld) : Prop := t.rd f = min 0xFFFFFFFF (s.rd f + 1); let only (ps : List Part) : Prop := ∀ q, q ∉ ps → Part.same q s t; let kept : Prop := up (R.HIF_CNT_RX_VALUE p) ∧ (t.session i).lastSeq = x.lastSeq ∧ (t.session i).cache = x.cache ∧ (t.session i).phase = .opened ∧ (t.session i).lastRx = (s.atRaw h.t).tm.raw ∧ only [.tm, .regs, .ports, .sessions]; let mute (f : Fld) : Prop := up (R.HIF_CNT_RX_VALUE p) ∧ up f ∧ (t.port p).out = (s.port p).out ∧ only [.tm, .regs, .ports]; s.portEnabled p = true ∧ h.framing = .good ∧ i < 8 ∧ x.phase ≠ .closed ∧ x.port = p ∧ tagPasses h x = true ∧ s.runningFor p d.code = none ∧ h.major = x.major ∧ h.minor = x.minor ∧ x.cache.find? (fun c => c.1 = h.seq.toNat) = none ∧ laterThan 32 h.seq.toNat x.lastSeq = false ∧ x.spans.contains h.seq.toNat = false :=
  ⟨{ up with sessions := [(0, { sess0 with lastSeq := 1 })] }, hd 0, ⟨0x0103, (1, 0), .no, false, .other⟩, fun _ _ => ⟨true, true, false, .ok⟩, fun s _ => (s, none), by (try dsimp only) <;> decide +kernel, by (try dsimp only) <;> decide +kernel, by (try dsimp only) <;> decide +kernel, by (try dsimp only) <;> decide +kernel, by (try dsimp only) <;> decide +kernel, by (try dsimp only) <;> decide +kernel, by (try dsimp only) <;> decide +kernel, by (try dsimp only) <;> decide +kernel, by (try dsimp only) <;> decide +kernel, by (try dsimp only) <;> decide +kernel, by (try dsimp only) <;> decide +kernel, by (try dsimp only) <;> decide +kernel⟩

theorem test_ReceptionSteps_10 : ∃ (s : State) (h : Hdr) (d : OpInfo) (chk : State → Nat → OpCheck) (run : State → Nat → State × Option (Status × List Byte)), let p : Nat := h.port.val; let i : Nat := h.sess; let x : Session := s.session i; let t : State := s.receive h d chk run; let up (f : Fld) : Prop := t.rd f = min 0xFFFFFFFF (s.rd f + 1); let only (ps : List Part) : Prop := ∀ q, q ∉ ps → Part.same q s t; let kept : Prop := up (R.HIF_CNT_RX_VALUE p) ∧ (t.session i).lastSeq = x.lastSeq ∧ (t.session i).cache = x.cache ∧ (t.session i).phase = .opened ∧ (t.session i).lastRx = (s.atRaw h.t).tm.raw ∧ only [.tm, .regs, .ports, .sessions]; let mute (f : Fld) : Prop := up (R.HIF_CNT_RX_VALUE p) ∧ up f ∧ (t.port p).out = (s.port p).out ∧ only [.tm, .regs, .ports]; s.portEnabled p = true ∧ h.framing = .good ∧ i < 8 ∧ x.phase ≠ .closed ∧ x.port = p ∧ tagPasses h x = true ∧ s.runningFor p d.code = none ∧ h.major = x.major ∧ h.minor = x.minor ∧ x.cache.find? (fun c => c.1 = h.seq.toNat) = none ∧ laterThan 32 h.seq.toNat x.lastSeq = false ∧ x.spans.contains h.seq.toNat = true :=
  ⟨{ up with sessions := [(0, { sess0 with lastSeq := 1, spans := [1] })] }, hd 0, ⟨0x0103, (1, 0), .no, false, .other⟩, fun _ _ => ⟨true, true, false, .ok⟩, fun s _ => (s, none), by (try dsimp only) <;> decide +kernel, by (try dsimp only) <;> decide +kernel, by (try dsimp only) <;> decide +kernel, by (try dsimp only) <;> decide +kernel, by (try dsimp only) <;> decide +kernel, by (try dsimp only) <;> decide +kernel, by (try dsimp only) <;> decide +kernel, by (try dsimp only) <;> decide +kernel, by (try dsimp only) <;> decide +kernel, by (try dsimp only) <;> decide +kernel, by (try dsimp only) <;> decide +kernel, by (try dsimp only) <;> decide +kernel⟩

theorem test_ReceptionSteps_11 : ∃ (s : State) (h : Hdr) (d : OpInfo) (chk : State → Nat → OpCheck) (run : State → Nat → State × Option (Status × List Byte)), let p : Nat := h.port.val; let i : Nat := h.sess; let x : Session := s.session i; let t : State := s.receive h d chk run; let up (f : Fld) : Prop := t.rd f = min 0xFFFFFFFF (s.rd f + 1); let only (ps : List Part) : Prop := ∀ q, q ∉ ps → Part.same q s t; let kept : Prop := up (R.HIF_CNT_RX_VALUE p) ∧ (t.session i).lastSeq = x.lastSeq ∧ (t.session i).cache = x.cache ∧ (t.session i).phase = .opened ∧ (t.session i).lastRx = (s.atRaw h.t).tm.raw ∧ only [.tm, .regs, .ports, .sessions]; let mute (f : Fld) : Prop := up (R.HIF_CNT_RX_VALUE p) ∧ up f ∧ (t.port p).out = (s.port p).out ∧ only [.tm, .regs, .ports]; s.portEnabled p = true ∧ h.framing = .good ∧ i < 8 ∧ x.phase ≠ .closed ∧ x.port = p ∧ tagPasses h x = true ∧ s.runningFor p d.code = none ∧ h.major = x.major ∧ h.minor = x.minor ∧ x.cache.find? (fun c => c.1 = h.seq.toNat) = none ∧ laterThan 32 h.seq.toNat x.lastSeq = true :=
  ⟨up, hd 0, ⟨0x0103, (1, 0), .no, false, .other⟩, fun _ _ => ⟨true, true, false, .ok⟩, fun s _ => (s, none), by (try dsimp only) <;> decide +kernel, by (try dsimp only) <;> decide +kernel, by (try dsimp only) <;> decide +kernel, by (try dsimp only) <;> decide +kernel, by (try dsimp only) <;> decide +kernel, by (try dsimp only) <;> decide +kernel, by (try dsimp only) <;> decide +kernel, by (try dsimp only) <;> decide +kernel, by (try dsimp only) <;> decide +kernel, by (try dsimp only) <;> decide +kernel, by (try dsimp only) <;> decide +kernel⟩

theorem test_DroverMultiplies_1 : ∃ (s : State) (a : Issue), s.issuesAlone a .nop :=
  ⟨drvWith full, iss, by decide +kernel⟩

theorem test_DroverMultiplies_2 : ∃ (s : State) (a : Issue) (f : FmtM), s.issuesAlone a (.mac f) :=
  ⟨drvWith full, iss, ⟨false, 0, 1, true, false, 1, false, false, 1, false⟩, by decide +kernel⟩

theorem test_DroverMultiplies_3 : ∃ (s : State) (a : Issue) (f : FmtM), s.issuesAlone a (.cmr f) :=
  ⟨drvWith full, iss, ⟨false, 0, 1, true, false, 1, false, false, 1, false⟩, by decide +kernel⟩

theorem test_DroverMultiplies_4 : ∃ (s : State) (a : Issue) (f : FmtM), s.issuesAlone a (.cmi f) :=
  ⟨drvWith full, iss, ⟨true, 0, 0, true, true, 4, true, true, 2, false⟩, by decide +kernel⟩

theorem test_DroverMultiplies_5 : ∃ (s : State) (a : Issue) (f : FmtA), s.issuesAlone a (.accw f) :=
  ⟨drvWith full, iss, ⟨false, 0, 0, false⟩, by decide +kernel⟩

theorem test_DroverVectors_1 : ∃ (s : State) (a : Issue) (f : FmtV), s.issuesAlone a (.lcoef f) :=
  ⟨drvWith full, iss, ⟨2, 0, 1, true, false, 1⟩, by decide +kernel⟩

theorem test_DroverVectors_2 : ∃ (s : State) (a : Issue) (f : FmtV), s.issuesAlone a (.vadd f) :=
  ⟨drvWith full, iss, ⟨2, 0, 1, true, false, 1⟩, by decide +kernel⟩

theorem test_DroverVectors_3 : ∃ (s : State) (a : Issue) (f : FmtV), s.issuesAlone a (.vsub f) :=
  ⟨drvWith full, iss, ⟨2, 0, 1, true, false, 1⟩, by decide +kernel⟩

theorem test_DroverVectors_4 : ∃ (s : State) (a : Issue) (f : FmtV), s.issuesAlone a (.vabs f) :=
  ⟨drvWith full, iss, ⟨2, 0, 1, true, false, 1⟩, by decide +kernel⟩

theorem test_DroverVectors_5 : ∃ (s : State) (a : Issue) (f : FmtV), s.issuesAlone a (.vshl f) :=
  ⟨drvWith full, iss, ⟨2, 0, 1, true, false, 1⟩, by decide +kernel⟩

theorem test_DroverVectors_6 : ∃ (s : State) (a : Issue) (f : FmtV), s.issuesAlone a (.vshr f) :=
  ⟨drvWith full, iss, ⟨2, 0, 1, true, false, 1⟩, by decide +kernel⟩

theorem test_DroverVectors_7 : ∃ (s : State) (a : Issue) (f : FmtV), s.issuesAlone a (.vmax f) :=
  ⟨drvWith full, iss, ⟨2, 0, 1, true, false, 1⟩, by decide +kernel⟩

theorem test_DroverVectors_8 : ∃ (s : State) (a : Issue) (f : FmtV), s.issuesAlone a (.vmin f) :=
  ⟨drvWith full, iss, ⟨2, 0, 1, true, false, 1⟩, by decide +kernel⟩

theorem test_DroverVectors_9 : ∃ (s : State) (a : Issue) (f : FmtV), s.issuesAlone a (.vswp f) :=
  ⟨drvWith full, iss, ⟨2, 0, 1, true, false, 1⟩, by decide +kernel⟩

theorem test_DroverVectors_10 : ∃ (s : State) (a : Issue) (f : FmtV), s.issuesAlone a (.vbc f) :=
  ⟨drvWith full, iss, ⟨2, 0, 1, true, false, 1⟩, by decide +kernel⟩

theorem test_DroverVectors_11 : ∃ (s : State) (a : Issue) (f : FmtV), s.issuesAlone a (.vmov f) :=
  ⟨drvWith full, iss, ⟨2, 0, 1, true, false, 1⟩, by decide +kernel⟩

theorem test_DroverMoves_1 : ∃ (s : State) (a : Issue) (f : FmtA), s.issuesAlone a (.mova f) :=
  ⟨drvWith full, iss, ⟨false, 0, 0, false⟩, by decide +kernel⟩

theorem test_DroverMoves_2 : ∃ (s : State) (a : Issue) (f : FmtAX), s.issuesAlone a (.amovx f) :=
  ⟨drvWith full, iss, ⟨1, 0, false⟩, by decide +kernel⟩

theorem test_DroverMoves_3 : ∃ (s : State) (a : Issue) (f : FmtXV), s.issuesAlone a (.movxv f) :=
  ⟨drvWith full, iss, ⟨2, true, 3, 4⟩, by decide +kernel⟩

theorem test_DroverMoves_4 : ∃ (s : State) (a : Issue) (f : FmtXV), s.issuesAlone a (.movvx f) :=
  ⟨drvWith full, iss, ⟨2, true, 3, 4⟩, by decide +kernel⟩

theorem test_DroverMoves_5 : ∃ (s : State) (a : Issue) (f : FmtT), s.issuesAlone a (.tapph f) :=
  ⟨drvWith full, iss, ⟨1, 4, 2, false⟩, by decide +kernel⟩

theorem test_DroverMoves_6 : ∃ (s : State) (a : Issue) (f : FmtT), s.issuesAlone a (.tapgn f) :=
  ⟨drvWith full, iss, ⟨1, 0, 2, false⟩, by decide +kernel⟩

theorem test_DroverScalars_1 : ∃ (s : State) (a : Issue) (f : FmtX), s.issuesAlone a (.add f) :=
  ⟨drvWith full, iss, ⟨1, 2, 3, 4, 9⟩, by decide +kernel⟩

theorem test_DroverScalars_2 : ∃ (s : State) (a : Issue) (f : FmtW), s.issuesAlone a (.addi f) :=
  ⟨drvWith full, iss, ⟨1, 0, 4⟩, by decide +kernel⟩

theorem test_DroverScalars_3 : ∃ (s : State) (a : Issue) (f : FmtX), s.issuesAlone a (.sub f) :=
  ⟨drvWith full, iss, ⟨1, 2, 3, 4, 9⟩, by decide +kernel⟩

theorem test_DroverScalars_4 : ∃ (s : State) (a : Issue) (f : FmtX), s.issuesAlone a (.cmp f) :=
  ⟨drvWith full, iss, ⟨0, 2, 3, 0, 0⟩, by decide +kernel⟩

theorem test_DroverScalars_5 : ∃ (s : State) (a : Issue) (f : FmtX), let x : Nat := (s.core a.core.val).xr f.xa.toNat; let y : Nat := (s.core a.core.val).xr f.xb.toNat; let logic (r : Nat) : Res := [(1, .x f.xd.toNat (r % 2 ^ 32)), (1, .flags 15 (b2n (r % 2 ^ 32 = 0) + 2 * b2n (bitOf (r % 2 ^ 32) 31)))]; s.issuesAlone a (.and_ f) :=
  ⟨drvWith full, iss, ⟨1, 2, 3, 4, 9⟩, by (try dsimp only) <;> decide +kernel⟩

theorem test_DroverScalars_6 : ∃ (s : State) (a : Issue) (f : FmtX), let x : Nat := (s.core a.core.val).xr f.xa.toNat; let y : Nat := (s.core a.core.val).xr f.xb.toNat; let logic (r : Nat) : Res := [(1, .x f.xd.toNat (r % 2 ^ 32)), (1, .flags 15 (b2n (r % 2 ^ 32 = 0) + 2 * b2n (bitOf (r % 2 ^ 32) 31)))]; s.issuesAlone a (.or_ f) :=
  ⟨drvWith full, iss, ⟨1, 2, 3, 4, 9⟩, by (try dsimp only) <;> decide +kernel⟩

theorem test_DroverScalars_7 : ∃ (s : State) (a : Issue) (f : FmtX), let x : Nat := (s.core a.core.val).xr f.xa.toNat; let y : Nat := (s.core a.core.val).xr f.xb.toNat; let logic (r : Nat) : Res := [(1, .x f.xd.toNat (r % 2 ^ 32)), (1, .flags 15 (b2n (r % 2 ^ 32 = 0) + 2 * b2n (bitOf (r % 2 ^ 32) 31)))]; s.issuesAlone a (.xor f) :=
  ⟨drvWith full, iss, ⟨1, 2, 3, 4, 9⟩, by (try dsimp only) <;> decide +kernel⟩

theorem test_DroverScalars_8 : ∃ (s : State) (a : Issue) (f : FmtX), let x : Nat := (s.core a.core.val).xr f.xa.toNat; let y : Nat := (s.core a.core.val).xr f.xb.toNat; let logic (r : Nat) : Res := [(1, .x f.xd.toNat (r % 2 ^ 32)), (1, .flags 15 (b2n (r % 2 ^ 32 = 0) + 2 * b2n (bitOf (r % 2 ^ 32) 31)))]; s.issuesAlone a (.shl f) :=
  ⟨drvWith full, iss, ⟨1, 2, 3, 4, 9⟩, by (try dsimp only) <;> decide +kernel⟩

theorem test_DroverScalars_9 : ∃ (s : State) (a : Issue) (f : FmtX), let x : Nat := (s.core a.core.val).xr f.xa.toNat; let y : Nat := (s.core a.core.val).xr f.xb.toNat; let logic (r : Nat) : Res := [(1, .x f.xd.toNat (r % 2 ^ 32)), (1, .flags 15 (b2n (r % 2 ^ 32 = 0) + 2 * b2n (bitOf (r % 2 ^ 32) 31)))]; s.issuesAlone a (.shr f) :=
  ⟨drvWith full, iss, ⟨1, 2, 3, 4, 9⟩, by (try dsimp only) <;> decide +kernel⟩

theorem test_DroverScalars_10 : ∃ (s : State) (a : Issue) (f : FmtX), let x : Nat := (s.core a.core.val).xr f.xa.toNat; let y : Nat := (s.core a.core.val).xr f.xb.toNat; let logic (r : Nat) : Res := [(1, .x f.xd.toNat (r % 2 ^ 32)), (1, .flags 15 (b2n (r % 2 ^ 32 = 0) + 2 * b2n (bitOf (r % 2 ^ 32) 31)))]; s.issuesAlone a (.sra f) :=
  ⟨drvWith full, iss, ⟨1, 2, 3, 4, 9⟩, by (try dsimp only) <;> decide +kernel⟩

theorem test_DroverScalars_11 : ∃ (s : State) (a : Issue) (f : FmtX), let x : Nat := (s.core a.core.val).xr f.xa.toNat; let y : Nat := (s.core a.core.val).xr f.xb.toNat; let logic (r : Nat) : Res := [(1, .x f.xd.toNat (r % 2 ^ 32)), (1, .flags 15 (b2n (r % 2 ^ 32 = 0) + 2 * b2n (bitOf (r % 2 ^ 32) 31)))]; s.issuesAlone a (.mulx f) :=
  ⟨drvWith full, iss, ⟨1, 2, 3, 4, 9⟩, by (try dsimp only) <;> decide +kernel⟩

theorem test_DroverScalars_12 : ∃ (s : State) (a : Issue) (f : FmtX), let x : Nat := (s.core a.core.val).xr f.xa.toNat; let y : Nat := (s.core a.core.val).xr f.xb.toNat; let logic (r : Nat) : Res := [(1, .x f.xd.toNat (r % 2 ^ 32)), (1, .flags 15 (b2n (r % 2 ^ 32 = 0) + 2 * b2n (bitOf (r % 2 ^ 32) 31)))]; s.issuesAlone a (.extu f) :=
  ⟨drvWith full, iss, ⟨1, 2, 3, 4, 9⟩, by (try dsimp only) <;> decide +kernel⟩

theorem test_DroverScalars_13 : ∃ (s : State) (a : Issue) (f : FmtX), let x : Nat := (s.core a.core.val).xr f.xa.toNat; let y : Nat := (s.core a.core.val).xr f.xb.toNat; let logic (r : Nat) : Res := [(1, .x f.xd.toNat (r % 2 ^ 32)), (1, .flags 15 (b2n (r % 2 ^ 32 = 0) + 2 * b2n (bitOf (r % 2 ^ 32) 31)))]; s.issuesAlone a (.exts f) :=
  ⟨drvWith full, iss, ⟨1, 2, 3, 4, 9⟩, by (try dsimp only) <;> decide +kernel⟩

theorem test_DroverScalars_14 : ∃ (s : State) (a : Issue) (f : FmtW), s.issuesAlone a (.movi f) :=
  ⟨drvWith full, iss, ⟨1, 0, 4⟩, by decide +kernel⟩

theorem test_DroverScalars_15 : ∃ (s : State) (a : Issue) (f : FmtW), s.issuesAlone a (.movhi f) :=
  ⟨drvWith full, iss, ⟨1, 0, 4⟩, by decide +kernel⟩

theorem test_DroverSpecials_1 : ∃ (s : State) (a : Issue) (f : FmtS), s.issuesAlone a (.agset f) :=
  ⟨drvWith full, iss, ⟨1, 0xA0, 0, 0, 0⟩, by decide +kernel⟩

theorem test_DroverSpecials_2 : ∃ (s : State) (a : Issue) (f : FmtS), s.issuesAlone a (.agget f) :=
  ⟨drvWith full, iss, ⟨1, 0xA0, 0, 0, 0⟩, by decide +kernel⟩

theorem test_DroverSpecials_3 : ∃ (s : State) (a : Issue) (f : FmtS), s.issuesAlone a (.mts f) :=
  ⟨drvWith full, iss, ⟨1, 0xA0, 0, 0, 0⟩, by decide +kernel⟩

theorem test_DroverSpecials_4 : ∃ (s : State) (a : Issue) (f : FmtS), s.issuesAlone a (.mfs f) :=
  ⟨drvWith full, iss, ⟨1, 0xB1, 0, 0, 0⟩, by decide +kernel⟩

theorem test_DroverSpecials_5 : ∃ (s : State) (a : Issue) (f : FmtS), s.issuesAlone a (.scstep f) :=
  ⟨drvWith full, iss, ⟨1, 0xA0, 0, 0, 0⟩, by decide +kernel⟩

theorem test_DroverAndElementMemory_1 : ∃ (s : State) (a : Issue) (f : FmtL), s.issuesAlone a (.ldv f) ∧ FmtL.fault f ((s.core a.core.val).ag f.ag.toNat) ((s.core a.core.val).ag f.ag.toNat).ptr = none :=
  ⟨drvWith full, iss, ⟨0, false, 0, false, true, 0⟩, by decide +kernel, by decide +kernel⟩

theorem test_DroverAndElementMemory_2 : ∃ (s : State) (a : Issue) (f : FmtW), s.issuesAlone a (.ldw f) ∧ (s.core a.core.val).wordAddr f ≤ 0x3FFFC :=
  ⟨drvWith { full with x := [(1, 77)] }, iss, ⟨1, 9, 0x20⟩, by decide +kernel, by decide +kernel⟩

theorem test_DroverAndElementMemory_3 : ∃ (s : State) (a : Issue) (f : FmtL), s.issuesAlone a (.stv f) ∧ FmtL.fault f ((s.core a.core.val).ag f.ag.toNat) ((s.core a.core.val).ag f.ag.toNat).ptr = none :=
  ⟨drvWith full, iss, ⟨0, false, 0, false, true, 0⟩, by decide +kernel, by decide +kernel⟩

theorem test_DroverAndElementMemory_4 : ∃ (s : State) (a : Issue) (f : FmtL), s.issuesAlone a (.sta f) ∧ FmtL.fault f ((s.core a.core.val).ag f.ag.toNat) ((s.core a.core.val).ag f.ag.toNat).ptr = none :=
  ⟨drvWith full, iss, ⟨0, false, 0, false, true, 0⟩, by decide +kernel, by decide +kernel⟩

theorem test_DroverAndElementMemory_5 : ∃ (s : State) (a : Issue) (f : FmtL) (sh : Nat), s.issuesAlone a (.stas f) ∧ FmtL.fault f ((s.core a.core.val).ag f.ag.toNat) ((s.core a.core.val).ag f.ag.toNat).ptr = none ∧ let x : CoreSt := s.core a.core.val; let g : AddrGen := x.ag f.ag.toNat; let ls : List Nat := if f.vec then [0, 1, 2, 3, 4, 5, 6, 7] else [f.lane.toNat]; let v (k i : Nat) : Int := rheDiv (x.accv (8 * b2n (bitOf f.reg.toNat 5) + i)) (2 ^ (17 + k)); let fits (k : Nat) : Bool := ls.all (fun i => decide (-131072 ≤ v k i) && decide (v k i ≤ 131071)); (x.scl (f.reg.toNat % 4)).s ≤ sh ∧ sh < (x.scl (f.reg.toNat % 4)).s + 16 ∧ fits sh = true ∧ (∀ k, (x.scl (f.reg.toNat % 4)).s ≤ k → k < sh → fits k = false) :=
  ⟨drvWith { full with acc := [(0, 2 ^ 40)] }, iss, ⟨0, false, 0, false, true, 0⟩, 7, by decide +kernel, by decide +kernel, by dsimp only; decide +kernel, by dsimp only; decide +kernel, by dsimp only; decide +kernel, fun k _ hk => by rcases k with _ | _ | _ | _ | _ | _ | _ | k <;> first | (dsimp only; decide +kernel) | omega⟩

theorem test_DroverAndElementMemory_6 : ∃ (s : State) (a : Issue) (f : FmtW), s.issuesAlone a (.stw f) ∧ (s.core a.core.val).wordAddr f ≤ 0x3FFFC :=
  ⟨drvWith { full with x := [(1, 77)] }, iss, ⟨1, 9, 0x20⟩, by decide +kernel, by decide +kernel⟩

theorem test_DroverAndElementMemory_7 : ∃ (s : State) (c : Nat) (e : Nat) (v : Int), e < 116508 ∧ -131072 ≤ v ∧ v ≤ 131071 :=
  ⟨drvWith full, 0, 116507, -131072, by decide +kernel, by decide +kernel, by decide +kernel⟩

theorem test_DroverAndElementMemory_9 : ∃ (s : State) (c : Nat) (e : Nat) (v : Int), e < 116508 ∧ -131072 ≤ v ∧ v ≤ 131071 ∧ ∃ d k, k < 116508 ∧ ¬(d = c ∧ k = e) :=
  ⟨drvWith full, 0, 116507, -131072, by decide +kernel, by decide +kernel, by decide +kernel, 0, 116506, by decide +kernel, by decide +kernel⟩

theorem test_DroverAndElementMemory_11 : ∃ (s : State) (c : Nat) (e : Nat) (v : Int), e < 116508 ∧ -131072 ≤ v ∧ v ≤ 131071 ∧ ∃ a, (a < 0x30000000 + 0x40000 * c + 18 * e / 8 ∨ 0x30000000 + 0x40000 * c + 18 * e / 8 + 2 < a) :=
  ⟨drvWith full, 0, 116507, -131072, by decide +kernel, by decide +kernel, by decide +kernel, 0, by decide +kernel⟩

theorem test_DroverAndElementMemory_13 : ∃ (s : State) (c : Nat) (e : Nat) (v : Int), e < 116508 ∧ -131072 ≤ v ∧ v ≤ 131071 ∧ ∃ (p : Part), p ≠ .mem :=
  ⟨drvWith full, 0, 116507, -131072, by decide +kernel, by decide +kernel, by decide +kernel, .regs, by decide +kernel⟩

theorem test_DroverAccessFaults_1 : ∃ (s : State) (a : Issue) (f : FmtL) (e : Nat), s.issuesAlone a (.ldv f) ∧ FmtL.fault f ((s.core a.core.val).ag f.ag.toNat) ((s.core a.core.val).ag f.ag.toNat).ptr = some (.access, some (false, e)) :=
  ⟨drvWith { full with ags := [(0, ⟨116502, 0, 8, 16, 0⟩)] }, iss, ⟨3, false, 0, true, true, 0⟩, 116508, by decide +kernel, by decide +kernel⟩

theorem test_DroverAccessFaults_2 : ∃ (s : State) (a : Issue) (f : FmtL) (e : Nat), s.issuesAlone a (.stv f) ∧ FmtL.fault f ((s.core a.core.val).ag f.ag.toNat) ((s.core a.core.val).ag f.ag.toNat).ptr = some (.access, some (false, e)) :=
  ⟨drvWith { full with ags := [(0, ⟨116502, 0, 8, 16, 0⟩)] }, iss, ⟨3, false, 0, true, true, 0⟩, 116508, by decide +kernel, by decide +kernel⟩

theorem test_DroverAccessFaults_3 : ∃ (s : State) (a : Issue) (f : FmtW), s.issuesAlone a (.stw f) ∧ 0x3FFFC < (s.core a.core.val).wordAddr f :=
  ⟨drvWith { full with ags := [(0, ⟨116502, 0, 8, 16, 0⟩)] }, iss, ⟨1, 9, 0⟩, by decide +kernel, by decide +kernel⟩

theorem test_DroverFaults_1 : ∃ (s : State) (a : Issue) (pc : Nat) (k : Cause) (nested : Bool), a.partner = 0#32 ∧ s.issues a.core.val = true ∧ (s.core a.core.val).trap = some ⟨1, pc, k, nested⟩ ∧ (s.core a.core.val).delay = none ∧ (s.core a.core.val).task = none ∧ (∀ i, i < 4 → s.on (R.DRV_BKPT_EN a.core.val i) = false) ∧ s.rests = true ∧ (s.core a.core.val).illegal .nop .nop = false :=
  ⟨drvWith { full with trap := some ⟨1, 77, .access, false⟩ }, iss, 77, .access, false, by decide +kernel, by decide +kernel, by decide +kernel, by decide +kernel, by decide +kernel, by decide +kernel, by decide +kernel, by decide +kernel⟩

theorem test_DroverFaults_2 : ∃ (s : State) (a : Issue) (f : FmtP), s.issuesAlone a .nop ∧ a.slot1 = false ∧ (s.core a.core.val).srBit 14 = true :=
  ⟨drvWith { full with sr := 0x4000 }, iss, ⟨false, 0, 0⟩, by decide +kernel, by decide +kernel, by decide +kernel⟩

theorem test_DroverFaults_3 : ∃ (s : State) (a : Issue) (f : FmtM), s.issuesAlone a .nop ∧ a.slot1 = true :=
  ⟨drvWith full, iss1, ⟨false, 0, 0, false, false, 0, false, false, 0, false⟩, by decide +kernel, by decide +kernel⟩

theorem test_DroverFaults_4 : ∃ (s : State) (a : Issue) (f : FmtP), s.issuesAlone a (.done f) ∧ (s.core a.core.val).task = none :=
  ⟨drvWith full, iss1, ⟨false, 0, 0⟩, by decide +kernel, by decide +kernel⟩

theorem test_DroverFaults_5 : ∃ (s : State) (a : Issue) (f : FmtP), s.issuesAlone a (.taprd f) ∧ (s.core a.core.val).tap = none :=
  ⟨drvWith full, iss1, ⟨false, 0, 0⟩, by decide +kernel, by decide +kernel⟩

theorem test_DroverFaults_6 : ∃ (s : State) (a : Issue) (f : FmtP), s.issuesAlone a (.give f) ∧ (s.core a.core.val).task = none ∧ (s.core a.core.val).lastFlow = some (s.core a.core.val).given.flow :=
  ⟨drvWith { full with lastFlow := some full.given.flow }, iss1, ⟨false, 0, 0⟩, by decide +kernel, by decide +kernel, by decide +kernel⟩

theorem test_DroverBranches_1 : ∃ (s : State) (a : Issue) (f : FmtB), s.issuesAlone a (.br f) :=
  ⟨drvWith { full with sr := 9 }, iss1, ⟨13, 1, 0xABC⟩, by decide +kernel⟩

theorem test_DroverBranches_2 : ∃ (s : State) (a : Issue) (f : FmtB), s.issuesAlone a (.brx f) :=
  ⟨drvWith { full with sr := 9 }, iss1, ⟨0, 0, 5⟩, by decide +kernel⟩

theorem test_DroverBranches_3 : ∃ (s : State) (a : Issue) (f : FmtB), s.issuesAlone a (.call f) :=
  ⟨drvWith { full with sr := 9 }, iss1, ⟨0, 0, 5⟩, by decide +kernel⟩

theorem test_DroverBranches_4 : ∃ (s : State) (a : Issue) (f : FmtB), s.issuesAlone a (.reti f) :=
  ⟨drvWith { full with sr := 9 }, iss1, ⟨0, 0, 0⟩, by decide +kernel⟩

theorem test_DroverBranches_5 : ∃ (s : State) (a : Issue) (f : FmtLP), s.issuesAlone a (.loop f) :=
  ⟨drvWith { full with sr := 9 }, iss1, ⟨false, false, false, 2, 9⟩, by decide +kernel⟩

theorem test_DroverSequence_1 : ∃ (x : CoreSt), x.lvl0.count = 0 ∧ x.lvl1.count = 0 ∧ x.delay = none :=
  ⟨full, by decide +kernel, by decide +kernel, by decide +kernel⟩

theorem test_DroverSequence_2 : ∃ (x : CoreSt), 0 < x.lvl0.count ∧ x.lvl0.stop = x.pc ∧ x.delay = none ∧ x.flight = [] :=
  ⟨{ full with pc := 9, lvl0 := ⟨3, 9, 2, true⟩ }, by decide +kernel, by decide +kernel, by decide +kernel, by decide +kernel⟩

theorem test_DroverSequence_3 : ∃ (x : CoreSt) (p : Nat), x.delay = some (1, some p) :=
  ⟨{ full with delay := some (1, some 44) }, 44, by decide +kernel⟩

theorem test_DroverSequence_4 : ∃ (x : CoreSt) (n : Nat) (tg : Option Nat), x.delay = some (n + 2, tg) :=
  ⟨{ full with delay := some (2, some 44) }, 0, some 44, by decide +kernel⟩

theorem test_DroverSequence_5 : ∃ (x : CoreSt) (r : Nat) (w : Nat) (l : Nat), x.flight = [] ∧ r < 16 ∧ w < 2 ^ 32 ∧ 0 < l :=
  ⟨full, 15, 4294967295, 1, by decide +kernel, by decide +kernel, by decide +kernel, by decide +kernel⟩

theorem test_DroverSequence_6 : ∃ (x : CoreSt) (r : Nat) (w : Nat) (l : Nat), x.flight = [] ∧ r < 16 ∧ w < 2 ^ 32 ∧ 0 < l ∧ ∃ k, k ≠ r :=
  ⟨full, 15, 4294967295, 1, by decide +kernel, by decide +kernel, by decide +kernel, by decide +kernel, 14, by decide +kernel⟩

theorem test_DroverPorts_1 : ∃ (s : State) (a : Issue) (f : FmtP), s.issuesAlone a (.take f) :=
  ⟨drvWith full, iss1, ⟨false, 0, 0⟩, by decide +kernel⟩

theorem test_DroverPorts_2 : ∃ (s : State) (a : Issue) (f : FmtP), s.issuesAlone a (.give f) ∧ let x : CoreSt := s.core a.core.val; let d : Desc := descOf (x.xr 4) (x.xr 5) (x.xr 6) (x.xr 7); let room : Bool := !s.on (R.OST_QCFG_EN d.queue) || decide ((s.queue d.queue).length < min 16384 (s.rd (R.OST_QCFG_DEPTH d.queue))); x.task = none ∧ x.lastFlow ≠ some d.flow ∧ room = true :=
  ⟨drvWith full, iss1, ⟨false, 0, 0⟩, by (try dsimp only) <;> decide +kernel, by (try dsimp only) <;> decide +kernel, by (try dsimp only) <;> decide +kernel, by (try dsimp only) <;> decide +kernel⟩

theorem test_DroverPorts_3 : ∃ (s : State) (a : Issue) (f : FmtP), s.issuesAlone a (.give f) ∧ let x : CoreSt := s.core a.core.val; let d : Desc := descOf (x.xr 4) (x.xr 5) (x.xr 6) (x.xr 7); let room : Bool := !s.on (R.OST_QCFG_EN d.queue) || decide ((s.queue d.queue).length < min 16384 (s.rd (R.OST_QCFG_DEPTH d.queue))); ∃ k, x.task = some k ∧ d.flow = k.flow ∧ k.handed = false ∧ s.on (R.OST_QCFG_EN d.queue) = true ∧ room = true :=
  ⟨{ drvWith { full with task := some ⟨full.given.flow, 7, false, false, 0⟩ } with regs := ((drv.wr (R.OST_QCFG_EN full.given.queue) 1).wr (R.OST_QCFG_DEPTH full.given.queue) 4).regs }, iss1, ⟨false, 0, 0⟩, by (try dsimp only) <;> decide +kernel, ⟨full.given.flow, 7, false, false, 0⟩, by (try dsimp only) <;> decide +kernel, by (try dsimp only) <;> decide +kernel, by (try dsimp only) <;> decide +kernel, by (try dsimp only) <;> decide +kernel, by (try dsimp only) <;> decide +kernel⟩

theorem test_DroverPorts_4 : ∃ (s : State) (a : Issue) (f : FmtP), s.issuesAlone a (.give f) ∧ let x : CoreSt := s.core a.core.val; let d : Desc := descOf (x.xr 4) (x.xr 5) (x.xr 6) (x.xr 7); let room : Bool := !s.on (R.OST_QCFG_EN d.queue) || decide ((s.queue d.queue).length < min 16384 (s.rd (R.OST_QCFG_DEPTH d.queue))); ∃ k, x.task = some k ∧ d.flow ≠ k.flow ∧ (s.flow k.flow).ordered = false ∧ room = true :=
  ⟨{ drvWith { full with task := some ⟨77, 7, false, false, 0⟩ } with regs := ((drv.wr (R.OST_QCFG_EN full.given.queue) 1).wr (R.OST_QCFG_DEPTH full.given.queue) 4).regs }, iss1, ⟨false, 0, 0⟩, by (try dsimp only) <;> decide +kernel, ⟨77, 7, false, false, 0⟩, by (try dsimp only) <;> decide +kernel, by (try dsimp only) <;> decide +kernel, by (try dsimp only) <;> decide +kernel, by (try dsimp only) <;> decide +kernel⟩

theorem test_DroverPorts_5 : ∃ (s : State) (a : Issue) (f : FmtP), s.issuesAlone a (.give f) ∧ let x : CoreSt := s.core a.core.val; let d : Desc := descOf (x.xr 4) (x.xr 5) (x.xr 6) (x.xr 7); let room : Bool := !s.on (R.OST_QCFG_EN d.queue) || decide ((s.queue d.queue).length < min 16384 (s.rd (R.OST_QCFG_DEPTH d.queue))); ∃ k p, x.task = some k ∧ d.flow ≠ k.flow ∧ s.on (R.OST_QCFG_EN d.queue) = true ∧ (s.flow k.flow).ordered = true ∧ (s.flow k.flow).place k.seq = some p ∧ p.held.length < 4 :=
  ⟨{ drvWith { full with task := some ⟨77, 7, false, false, 0⟩ } with ost := { z.ost with flows := [(77, ⟨8, true, false, [⟨7, true, false, []⟩]⟩)] }, regs := (drv.wr (R.OST_QCFG_EN full.given.queue) 1).regs }, iss1, ⟨false, 0, 0⟩, by (try dsimp only) <;> decide +kernel, ⟨77, 7, false, false, 0⟩, ⟨7, true, false, []⟩, by (try dsimp only) <;> decide +kernel, by (try dsimp only) <;> decide +kernel, by (try dsimp only) <;> decide +kernel, by (try dsimp only) <;> decide +kernel, by (try dsimp only) <;> decide +kernel, by (try dsimp only) <;> decide +kernel⟩

theorem test_DroverPorts_6 : ∃ (s : State) (a : Issue) (f : FmtP), s.issuesAlone a (.give f) ∧ let x : CoreSt := s.core a.core.val; let d : Desc := descOf (x.xr 4) (x.xr 5) (x.xr 6) (x.xr 7); let room : Bool := !s.on (R.OST_QCFG_EN d.queue) || decide ((s.queue d.queue).length < min 16384 (s.rd (R.OST_QCFG_DEPTH d.queue))); ∃ k, x.task = some k ∧ s.on (R.OST_QCFG_EN d.queue) = false :=
  ⟨drvWith { full with task := some ⟨77, 7, false, false, 0⟩ }, iss1, ⟨false, 0, 0⟩, by (try dsimp only) <;> decide +kernel, ⟨77, 7, false, false, 0⟩, by (try dsimp only) <;> decide +kernel, by (try dsimp only) <;> decide +kernel⟩

theorem test_DroverPorts_7 : ∃ (s : State) (a : Issue) (f : FmtP), s.issuesAlone a (.give f) ∧ let x : CoreSt := s.core a.core.val; let d : Desc := descOf (x.xr 4) (x.xr 5) (x.xr 6) (x.xr 7); let room : Bool := !s.on (R.OST_QCFG_EN d.queue) || decide ((s.queue d.queue).length < min 16384 (s.rd (R.OST_QCFG_DEPTH d.queue))); x.task = none ∧ x.lastFlow ≠ some d.flow ∧ room = false :=
  ⟨{ drvWith full with regs := (drv.wr (R.OST_QCFG_EN full.given.queue) 1).regs }, iss1, ⟨false, 0, 0⟩, by (try dsimp only) <;> decide +kernel, by (try dsimp only) <;> decide +kernel, by (try dsimp only) <;> decide +kernel, by (try dsimp only) <;> decide +kernel⟩

theorem test_DroverPorts_8 : ∃ (s : State) (a : Issue) (f : FmtP), s.issuesAlone a (.done f) ∧ (s.core a.core.val).task ≠ none :=
  ⟨drvWith { full with task := some ⟨77, 7, false, false, 0⟩ }, iss1, ⟨false, 0, 0⟩, by decide +kernel, by decide +kernel⟩

theorem test_DroverPorts_9 : ∃ (s : State) (a : Issue) (f : FmtP), s.issuesAlone a (.tapset f) :=
  ⟨drvWith full, iss1, ⟨false, 0, 0⟩, by decide +kernel⟩

theorem test_DroverPorts_10 : ∃ (s : State) (a : Issue) (f : FmtP) (k : TapPort), s.issuesAlone a (.taprd f) ∧ (s.core a.core.val).tap = some k ∧ let x : CoreSt := s.core a.core.val; (k.left = 0 ∨ (s.tapListOf k.blk).length ≤ k.next) :=
  ⟨drvWith { full with tap := some ⟨0, 0, 5⟩ }, iss1, ⟨false, 0, 0⟩, ⟨0, 0, 5⟩, by (try dsimp only) <;> decide +kernel, by (try dsimp only) <;> decide +kernel, by (try dsimp only) <;> decide +kernel⟩

theorem test_DroverPorts_11 : ∃ (s : State) (a : Issue) (f : FmtP) (k : TapPort), s.issuesAlone a (.taprd f) ∧ (s.core a.core.val).tap = some k ∧ let x : CoreSt := s.core a.core.val; ∃ e, k.left ≠ 0 ∧ (s.tapListOf k.blk)[k.next]? = some e :=
  ⟨{ drvWith { full with tap := some ⟨9, 0, 5⟩ } with geo := { z.geo with cur := { z.geo.cur with blk := 9, taps := [⟨1, true, false, false, false, 3, 4000, 1, 5, 6, 4000⟩] } } }, iss1, ⟨false, 0, 0⟩, ⟨9, 0, 5⟩, by (try dsimp only) <;> decide +kernel, by (try dsimp only) <;> decide +kernel, ⟨1, true, false, false, false, 3, 4000, 1, 5, 6, 4000⟩, by (try dsimp only) <;> decide +kernel, by (try dsimp only) <;> decide +kernel⟩

theorem test_DroverPorts_12 : ∃ (s : State) (a : Issue) (f : FmtP), s.issuesAlone a (.accadd f) ∧ let x : CoreSt := s.core a.core.val; let w : Nat := x.xr f.xa.toNat; bitsOf w 15 6 < 640 ∧ s.gated 3 = false :=
  ⟨{ drvWith { full with x := [(3, 0x10000 + 639 * 64 + 16)] } with regs := (drv.wr R.CLK_GATE_NOW_VALUE 0).regs }, iss1, ⟨true, 3, 0⟩, by (try dsimp only) <;> decide +kernel, by (try dsimp only) <;> decide +kernel, by (try dsimp only) <;> decide +kernel⟩

theorem test_DroverPorts_13 : ∃ (s : State) (a : Issue) (f : FmtP) (v : Nat → Int), s.issuesAlone a (.accrc f) ∧ let x : CoreSt := s.core a.core.val; let w : Nat := x.xr f.xa.toNat; bitsOf w 15 6 < 640 ∧ s.gated 3 = false ∧ (∀ i, i < 8 → s.accRead (bitsOf w 16 16) (bitsOf w 15 6) (8 * bitsOf w 5 4 + i) = some (v i)) :=
  ⟨{ drvWith { full with x := [(3, 0x10000 + 639 * 64 + 16)] } with regs := (drv.wr R.CLK_GATE_NOW_VALUE 0).regs }, iss1, ⟨true, 3, 0⟩, fun _ => 0, by (try dsimp only) <;> decide +kernel, by (try dsimp only) <;> decide +kernel, by (try dsimp only) <;> decide +kernel, by (try dsimp only) <;> decide +kernel⟩

theorem test_DroverControlAndMatrix_1 : ∃ (s : State) (c : Fin 32), s.gated 0 = false :=
  ⟨z.wr (R.DRV_CTRL_RUN 3) 1, 3, by decide +kernel⟩

theorem test_DroverControlAndMatrix_2 : ∃ (s : State) (c : Fin 32), s.gated 0 = false ∧ s.rests = true ∧ (s.core c.val).stalled = none :=
  ⟨z.wr (R.DRV_CTRL_RUN 3) 1, 3, by decide +kernel, by decide +kernel, by decide +kernel⟩

theorem test_DroverControlAndMatrix_3 : ∃ (s : State) (c : Fin 32), s.gated 0 = false ∧ (s.coreState c.val = 1 ∨ s.coreState c.val = 2) ∧ s.on (R.DRV_CTRL_DBGINT c.val) = false ∧ (s.inRot c.val = false ∨ s.inMaint = true) :=
  ⟨z.wr (R.DRV_STATUS_STATE 3) 1, 3, by decide +kernel, by decide +kernel, by decide +kernel, by decide +kernel⟩

theorem test_DroverControlAndMatrix_4 : ∃ (s : State) (c : Fin 32), s.gated 0 = false ∧ (s.coreState c.val = 1 ∨ s.coreState c.val = 2) ∧ s.on (R.DRV_CTRL_DBGINT c.val) = false ∧ s.inRot c.val = true ∧ s.inMaint = false :=
  ⟨(z.wr (R.DRV_STATUS_STATE 3) 1).wr (R.DRV_CTRL_ROT 3) 1, 3, by decide +kernel, by decide +kernel, by decide +kernel, by decide +kernel, by decide +kernel⟩

theorem test_DroverControlAndMatrix_5 : ∃ (s : State) (c : Fin 32), s.gated 0 = false ∧ (s.coreState c.val = 1 ∨ s.coreState c.val = 2) ∧ s.on (R.DRV_CTRL_DBGINT c.val) = true ∧ (s.core c.val).trap = none ∧ (s.core c.val).srBit 15 = false :=
  ⟨(z.wr (R.DRV_STATUS_STATE 3) 1).wr (R.DRV_CTRL_DBGINT 3) 1, 3, by decide +kernel, by decide +kernel, by decide +kernel, by decide +kernel, by decide +kernel⟩

theorem test_DroverControlAndMatrix_6 : ∃ (s : State) (c : Fin 32), s.coreState c.val = 3 ∧ (s.core c.val).waiting = none ∧ (s.core c.val).trap = none ∧ (s.core c.val).dbgPend = false ∧ (∀ i, i < 4 → s.on (R.DRV_BKPT_EN c.val i) = false) ∧ s.rests = true ∧ (s.core c.val).illegal .nop .nop = false ∧ s.load (0x30808000 + c.val * 0x10000 + 8 * (s.core c.val).pc) 4 = 0 ∧ s.load (0x30808000 + c.val * 0x10000 + 8 * (s.core c.val).pc + 4) 4 = 0 :=
  ⟨z.wr (R.DRV_STATUS_STATE 3) 3, 3, by decide +kernel, by decide +kernel, by decide +kernel, by decide +kernel, by decide +kernel, by decide +kernel, by decide +kernel, by decide +kernel, by decide +kernel⟩

theorem test_DroverControlAndMatrix_7 : ∃ (s : State) (c : Fin 32), s.gated 0 = false ∧ s.coreState c.val = 3 :=
  ⟨z.wr (R.DRV_STATUS_STATE 3) 3, 3, by decide +kernel, by decide +kernel⟩

theorem test_DroverControlAndMatrix_8 : ∃ (s : State) (c : Fin 32) (i : Fin 8) (r : PortRead), s.gated 0 = false ∧ (s.core c.val).reads[i.val]? = some r ∧ s.rests = true ∧ let x : CoreSt := { s.core c.val with reads := (s.core c.val).reads.eraseIdx i.val }.arrive r; (∀ p q, x.stalled = some (p, q) → x.stalls p q = true) :=
  ⟨{ z with cores := [(3, { full with reads := [⟨[]⟩, ⟨[.x 1 5]⟩] })] }, 3, 1, ⟨[.x 1 5]⟩, by (try dsimp only) <;> decide +kernel, by (try dsimp only) <;> decide +kernel, by (try dsimp only) <;> decide +kernel, (fun p q h => nomatch (show (none : Option (DrvOp × DrvOp)) = some (p, q) from h))⟩

theorem test_DroverControlAndMatrix_9 : ∃ (s : State) (a : Issue) (f : FmtW) (key : Nat), s.issuesAlone a (.ldwf f) ∧ s.locate (a.core.val / 8) ((s.core a.core.val).wordAddr f) = .mem key :=
  ⟨drvWith { full with x := [(9, 0x20500010)] }, iss1, ⟨1, 9, 0⟩, 0x20500010, by decide +kernel, by decide +kernel⟩

theorem test_DroverControlAndMatrix_10 : ∃ (s : State) (a : Issue) (f : FmtW) (key : Nat), s.issuesAlone a (.stwf f) ∧ s.locate (a.core.val / 8) ((s.core a.core.val).wordAddr f) = .mem key :=
  ⟨drvWith { full with x := [(9, 0x20500010)] }, iss1, ⟨1, 9, 0⟩, 0x20500010, by decide +kernel, by decide +kernel⟩

theorem test_OstlerCommands_1 : ∃ (s : State) (waited : Nat) (blocked : Nat) (q : Nat) (c : Nat) (d : Desc) (ds : List Desc), s.gated 2 = false ∧ s.on R.OST_CTRL_ENABLE = true ∧ s.pick = some (q, c) ∧ s.queue q = d :: ds ∧ (s.core c).trap = none ∧ (s.core c).dbgPend = false ∧ (s.core c).stepping = false :=
  ⟨{ ((((z.wr R.OST_CTRL_ENABLE 1).wr (R.DRV_CTRL_RUN 0) 1).wr (R.DRV_STATUS_STATE 0) 2).wr (R.DRV_CTRL_ROT 0) 1).wr (R.OST_CORE_QMASK_MASK 0 0) 8 with ost := { z.ost with queues := [(3, [⟨5, 3, 1, 0, 0, 0, 99⟩])] }, cores := [(0, { full with waiting := some .take })] }, 0, 0, 3, 0, ⟨5, 3, 1, 0, 0, 0, 99⟩, [], by decide +kernel, by decide +kernel, by decide +kernel, by decide +kernel, by decide +kernel, by decide +kernel, by decide +kernel⟩

theorem test_OstlerCommands_2 : ∃ (s : State) (c : Fin 32) (waited : Nat) (full : Nat), s.gated 2 = false ∧ (s.core c.val).waiting = some .give ∧ s.coreState c.val = 2 ∧ (s.core c.val).task = none ∧ (s.core c.val).lastFlow ≠ some (s.core c.val).given.flow ∧ s.roomIn (s.core c.val).given.queue = true ∧ (s.core c.val).trap = none ∧ (s.core c.val).dbgPend = false ∧ (s.core c.val).stepping = false ∧ (∀ (f : Nat) (p : Place), (s.flow f).places.head? = some p → p.done = false) ∧ (∀ k, k < c.val → (s.core k).waiting ≠ some .give) :=
  ⟨{ z.wr (R.DRV_STATUS_STATE 0) 2 with cores := [(0, { full with waiting := some .give })] }, 0, 0, 0, by decide +kernel, by decide +kernel, by decide +kernel, by decide +kernel, by decide +kernel, by decide +kernel, by decide +kernel, by decide +kernel, by decide +kernel, (fun f p h => nomatch (show flowReset.places.head? = some p from h)), (fun k h => absurd h (Nat.not_lt_zero k))⟩

theorem test_OstlerCommands_3 : ∃ (s : State) (c : Fin 32) (k : Task), s.gated 0 = false ∧ (s.core c.val).waiting = some .done ∧ (s.core c.val).task = some k ∧ k.handed = true ∧ (s.core c.val).trap = none ∧ (s.core c.val).dbgPend = false ∧ (s.core c.val).stepping = false :=
  ⟨{ z with cores := [(0, { full with waiting := some .done, task := some ⟨5, 1, true, false, 0⟩ })] }, 0, ⟨5, 1, true, false, 0⟩, by decide +kernel, by decide +kernel, by decide +kernel, by decide +kernel, by decide +kernel, by decide +kernel, by decide +kernel⟩

theorem test_OstlerCommands_4 : ∃ (s : State) (f : Fin 4096) (p : Place) (ps : List Place), s.gated 2 = false ∧ (s.flow f.val).places = p :: ps ∧ p.done = true ∧ p.held = [] ∧ ps.all (fun q => !q.done) = true ∧ (∀ (k : Nat) (q : Place), k < f.val → (s.flow k).places.head? = some q → q.done = false) :=
  ⟨{ z with ost := { z.ost with flows := [(4095, ⟨8, true, false, [⟨6, true, true, []⟩, ⟨7, true, false, []⟩]⟩)] } }, 4095, ⟨6, true, true, []⟩, [⟨7, true, false, []⟩], by decide +kernel, by decide +kernel, by decide +kernel, by decide +kernel, by decide +kernel, (fun k q hk h => nomatch (show (([] : List Place).head? = some q) from (by simpa [State.flow, Cells.get, show ¬4095 = k from fun e => by subst e; exact absurd hk (by decide), flowReset] using h)))⟩

theorem test_OstlerCommands_5 : ∃ (s : State) (c : Fin 32) (raw : Nat) (k : Task), (s.atRaw raw).gated 2 = false ∧ (s.core c.val).task = some k ∧ k.idle = true ∧ k.since + ceilDiv (5 * s.rd R.OST_IDLE_CTRL_SLICE) 6 ≤ (s.atRaw raw).tm.raw :=
  ⟨{ z with cores := [(0, { full with task := some ⟨5, 1, true, true, 0⟩ })] }, 0, 16667, ⟨5, 1, true, true, 0⟩, by decide +kernel, by decide +kernel, by decide +kernel, by decide +kernel⟩

theorem test_OstlerCommands_6 : ∃ (s : State) (w : BitVec 32), s.gated 2 = false ∧ let d : Desc := descOf (s.rd (R.OST_POST_WORD 0)) (s.rd (R.OST_POST_WORD 1)) (s.rd (R.OST_POST_WORD 2)) w.toNat; s.on (R.OST_QCFG_EN d.queue) = true ∧ (s.queue d.queue).length + s.waitsFor d.queue < s.depth d.queue :=
  ⟨(z.wr (R.OST_QCFG_EN 0) 1).wr (R.OST_QCFG_DEPTH 0) 4, 0, by (try dsimp only) <;> decide +kernel, by (try dsimp only) <;> decide +kernel, by (try dsimp only) <;> decide +kernel⟩

theorem test_OstlerCommands_7 : ∃ (s : State) (w : BitVec 32), s.gated 2 = false ∧ let d : Desc := descOf (s.rd (R.OST_POST_WORD 0)) (s.rd (R.OST_POST_WORD 1)) (s.rd (R.OST_POST_WORD 2)) w.toNat; s.on (R.OST_QCFG_EN d.queue) = true ∧ s.depth d.queue ≤ (s.queue d.queue).length + s.waitsFor d.queue :=
  ⟨(z.wr (R.OST_QCFG_EN 0) 1), 0, by (try dsimp only) <;> decide +kernel, by (try dsimp only) <;> decide +kernel, by (try dsimp only) <;> decide +kernel⟩

theorem test_SessionsOpenAndClose_1 : ∃ (s : State) (h : Hdr) (r : OpenReq) (v : Nat × Nat) (kick : Option Nat) (j : Nat), (s.atRaw h.t).portEnabled h.port.val = true ∧ h.framing = .good ∧ s.running h.port.val = none ∧ chooseVersion r = some v ∧ (((s.atRaw h.t).takeInbound h.port.val).bump (R.HIF_CNT_RX_VALUE h.port.val)).openCheck h r = (.ok, kick) ∧ ((match kick with | some i => (((s.atRaw h.t).takeInbound h.port.val).bump (R.HIF_CNT_RX_VALUE h.port.val)).closeSession i | none => ((s.atRaw h.t).takeInbound h.port.val).bump (R.HIF_CNT_RX_VALUE h.port.val)) : State).freeSession = some j :=
  ⟨z.wr R.HIF_CTRL_ENABLE 1, { hd 12 with sess := 0xFF }, ⟨1, 0, 3, 0xFFFF, 2, true, false, 0, 0, false⟩, (3, 2), none, 0, by decide +kernel, by decide +kernel, by decide +kernel, by decide +kernel, by decide +kernel, by decide +kernel⟩

theorem test_SessionsOpenAndClose_2 : ∃ (s : State) (a : State) (h : Hdr) (i : Nat), s.takes h (op 0x0102 1 0 .session) i a ∧ lenIs h 0 = true :=
  ⟨up, heardOf up (hd 0) (op 0x0102 1 0 .session), hd 0, 0, by decide +kernel, by decide +kernel⟩

theorem test_OwnershipCommands_1 : ∃ (s : State) (a : State) (h : Hdr) (i : Nat) (refs : List (BitVec 16)), s.takes h (op 0x0104 1 0 .claims) i a ∧ lenIs h (2 + 2 * refs.length) = true ∧ 1 ≤ refs.length ∧ refs.length ≤ 64 ∧ (∀ x ∈ refs, refOk x.toNat = true ∧ (a.ownerOf x.toNat = none ∨ a.ownerOf x.toNat = some i ∨ (a.claimTakes i = true ∧ a.mayPreempt i x.toNat = true))) :=
  ⟨up, heardOf up (hd 4) (op 0x0104 1 0 .claims), hd 4, 0, [5#16], by simp only [List.mem_cons, List.not_mem_nil, or_false, forall_eq_or_imp, forall_eq]; decide +kernel⟩

theorem test_OwnershipCommands_2 : ∃ (s : State) (a : State) (h : Hdr) (i : Nat) (refs : List (BitVec 16)), s.takes h (op 0x0106 2 0 .claims) i a ∧ lenIs h (2 + 2 * refs.length) = true ∧ 1 ≤ refs.length ∧ refs.length ≤ 64 ∧ (a.session i).cls ≤ 1 ∧ (∀ x ∈ refs, refOk x.toNat = true ∧ a.mayPreempt i x.toNat = true) :=
  ⟨{ up with sessions := (up.sessions ++ [(1, { sess0 with cls := 1 })]), owner := [(5, 2)] }, heardOf { up with sessions := (up.sessions ++ [(1, { sess0 with cls := 1 })]), owner := [(5, 2)] } (hd 4) (op 0x0106 2 0 .claims), hd 4, 0, [5#16], by simp only [List.mem_cons, List.not_mem_nil, or_false, forall_eq_or_imp, forall_eq]; decide +kernel⟩

theorem test_OwnershipCommands_3 : ∃ (s : State) (a : State) (h : Hdr) (i : Nat) (refs : List (BitVec 16)), s.takes h (op 0x0105 1 0 .claims) i a ∧ lenIs h (2 + 2 * refs.length) = true ∧ 1 ≤ refs.length ∧ refs.length ≤ 64 ∧ (∀ x ∈ refs, refOk x.toNat = true ∧ a.owns i x.toNat = true) :=
  ⟨up, heardOf up (hd 4) (op 0x0105 1 0 .claims), hd 4, 0, [5#16], by simp only [List.mem_cons, List.not_mem_nil, or_false, forall_eq_or_imp, forall_eq]; decide +kernel⟩

theorem test_OwnershipCommands_4 : ∃ (s : State) (a : State) (h : Hdr) (i : Nat), s.takes h (op 0x0103 1 0 .query) i a ∧ lenIs h 0 = true :=
  ⟨up, heardOf up (hd 0) (op 0x0103 1 0 .query), hd 0, 0, by decide +kernel, by decide +kernel⟩

theorem test_ObjectsDefinedAndMoved_1 : ∃ (s : State) (a : State) (h : Hdr) (i : Nat) (o : BitVec 16) (new : ObjRec), s.takes h ⟨0x0201, (1, 0), .both, false, .other⟩ i a ∧ lenIs h 44 = true ∧ a.ownsObj i o.toNat = true ∧ (1024 ≤ o.toNat ∨ a.ownsZone i new.homeZone.toNat = true) ∧ (a.acceptObj o.toNat new (a.hdrBlock h .both) (a.hdrNext h)).thenCommit (a.objCheck o.toNat new) = .ok :=
  ⟨up, heardOf up (hd 44) ⟨0x0201, (1, 0), .both, false, .other⟩, hd 44, 0, 7, ⟨true, 0, 0, 3, 0, 0, 4, 0, 0, 0, 0, ⟨0, 0, 0⟩⟩, by decide +kernel, by decide +kernel, by decide +kernel, by decide +kernel, by decide +kernel⟩

theorem test_ObjectsDefinedAndMoved_2 : ∃ (s : State) (a : State) (h : Hdr) (i : Nat) (ms : List (BitVec 16 × Pos)), s.takes h ⟨0x0202, (1, 0), .within, false, .other⟩ i a ∧ lenIs h (2 + 12 * ms.length) = true ∧ 1 ≤ ms.length ∧ ms.length ≤ 64 ∧ (∀ m ∈ ms, a.objId m.1.toNat = .ok ∧ a.ownsObj i m.1.toNat = true) :=
  ⟨up, heardOf up (hd 14) ⟨0x0202, (1, 0), .within, false, .other⟩, hd 14, 0, [(7, ⟨1, 2, 3⟩)], by simp only [List.mem_cons, List.not_mem_nil, or_false, forall_eq_or_imp, forall_eq]; decide +kernel⟩

theorem test_ObjectsDefinedAndMoved_3 : ∃ (s : State) (a : State) (h : Hdr) (i : Nat) (o : BitVec 16) (w : List Waypoint), s.takes h ⟨0x0203, (2, 0), .within, false, .other⟩ i a ∧ lenIs h (4 + 20 * w.length) = true ∧ 1 ≤ w.length ∧ w.length ≤ 16 ∧ a.objId o.toNat = .ok ∧ a.ownsObj i o.toNat = true ∧ risingFrom (a.tBlock (a.hdrBlock h .within + 1)) (w.map (fun p => p.time)) = true :=
  ⟨up, heardOf up (hd 24) ⟨0x0203, (2, 0), .within, false, .other⟩, hd 24, 0, 7, [⟨⟨1, 2, 3⟩, 10000000⟩], by decide +kernel, by decide +kernel, by decide +kernel, by decide +kernel, by decide +kernel, by decide +kernel, by decide +kernel⟩

theorem test_ObjectsDefinedAndMoved_4 : ∃ (s : State) (a : State) (h : Hdr) (i : Nat) (es : List (BitVec 16 × BitVec 16)), s.takes h ⟨0x0204, (1, 0), .within, true, .other⟩ i a ∧ lenIs h (2 + 4 * es.length) = true ∧ 1 ≤ es.length ∧ es.length ≤ 64 ∧ (∀ e ∈ es, a.objId e.1.toNat = .ok ∧ a.ownsObj i e.1.toNat = true) :=
  ⟨up, heardOf up (hd 6) ⟨0x0204, (1, 0), .within, true, .other⟩, hd 6, 0, [(7, 0xFF9C)], by simp only [List.mem_cons, List.not_mem_nil, or_false, forall_eq_or_imp, forall_eq]; decide +kernel⟩

theorem test_ObjectsDefinedAndMoved_5 : ∃ (s : State) (a : State) (h : Hdr) (i : Nat) (es : List (BitVec 16 × Bool)), s.takes h ⟨0x0205, (1, 0), .within, true, .other⟩ i a ∧ lenIs h (2 + 4 * es.length) = true ∧ 1 ≤ es.length ∧ es.length ≤ 64 ∧ (∀ e ∈ es, a.objId e.1.toNat = .ok ∧ a.ownsObj i e.1.toNat = true) :=
  ⟨up, heardOf up (hd 6) ⟨0x0205, (1, 0), .within, true, .other⟩, hd 6, 0, [(7, true)], by simp only [List.mem_cons, List.not_mem_nil, or_false, forall_eq_or_imp, forall_eq]; decide +kernel⟩

theorem test_ObjectsDefinedAndMoved_6 : ∃ (s : State) (a : State) (h : Hdr) (i : Nat) (first : BitVec 16) (n : BitVec 16), s.takes h (op 0x0206 1 0 .query) i a ∧ lenIs h 4 = true ∧ 1 ≤ n.toNat ∧ n.toNat ≤ 1024 ∧ a.objId (first.toNat + n.toNat - 1) = .ok :=
  ⟨up, heardOf up (hd 4) (op 0x0206 1 0 .query), hd 4, 0, 5, 2, by decide +kernel, by decide +kernel, by decide +kernel, by decide +kernel, by decide +kernel⟩

theorem test_LayoutAndRoutes_1 : ∃ (s : State) (a : State) (h : Hdr) (i : Nat) (first : BitVec 16) (rs : List (BitVec 256)), s.takes h (op 0x0301 1 0 .other) i a ∧ lenIs h (4 + 32 * rs.length) = true ∧ 1 ≤ rs.length ∧ rs.length ≤ 127 ∧ (∀ n, n < rs.length → a.outId (first.toNat + n) = .ok ∧ a.ownsStaged i (first.toNat + n) = true ∧ layoutStatus (rs.getD n 0).toNat = .ok ∧ (bitOf (rs.getD n 0).toNat 0 = true → a.ownsZone i (bitsOf (rs.getD n 0).toNat 15 8) = true)) :=
  ⟨up, heardOf up (hd 36) (op 0x0301 1 0 .other), hd 36, 0, 0, [0x301], by decide +kernel, by decide +kernel, by decide +kernel, by decide +kernel, by decide +kernel⟩

theorem test_LayoutAndRoutes_2 : ∃ (s : State) (a : State) (h : Hdr) (i : Nat) (zone : BitVec 8) (alarm : Bool) (outs : List (BitVec 16)), s.takes h (op 0x0303 1 0 .other) i a ∧ lenIs h (4 + 2 * outs.length) = true ∧ outs.length ≤ 640 ∧ zone.toNat < 128 ∧ a.ownsZone i zone.toNat = true ∧ (∀ o ∈ outs, a.outId o.toNat = .ok ∧ a.ownsStaged i o.toNat = true) :=
  ⟨up, heardOf up (hd 6) (op 0x0303 1 0 .other), hd 6, 0, 127, true, [639], by simp only [List.mem_cons, List.not_mem_nil, or_false, forall_eq_or_imp, forall_eq]; decide +kernel⟩

theorem test_LayoutAndRoutes_3 : ∃ (s : State) (a : State) (h : Hdr) (i : Nat) (ds : List (BitVec 1664)), s.takes h (op 0x0302 1 0 .other) i a ∧ lenIs h (4 + 208 * ds.length) = true ∧ ds.length ≤ 8 ∧ (∀ v ∈ ds, pastureStatus v.toNat = .ok ∧ ∀ o ∈ pastureOuts v.toNat, a.outId o = .ok ∧ a.ownsStaged i o = true) :=
  ⟨up, heardOf up (hd 212) (op 0x0302 1 0 .other), hd 212, 0, [8 * 2 ^ 8 + 500 * 2 ^ 112 + 2 ^ 128 + 2 ^ 144 + 2 ^ 160 + 2 ^ 1029], by simp only [List.mem_cons, List.not_mem_nil, or_false, forall_eq_or_imp, forall_eq]; decide +kernel⟩

theorem test_LayoutAndRoutes_4 : ∃ (s : State) (a : State) (h : Hdr) (i : Nat) (sel : BitVec 8) (index : BitVec 16), s.takes h (op 0x0305 1 0 .query) i a ∧ lenIs h 4 = true ∧ (sel = 0#8 → index.toNat < 256) ∧ (sel = 1#8 → a.objId index.toNat = .ok) ∧ (sel = 3#8 → index.toNat < 128) ∧ sel.toNat ≤ 3 :=
  ⟨up, heardOf up (hd 4) (op 0x0305 1 0 .query), hd 4, 0, 3, 127, by decide +kernel, by decide +kernel, by decide +kernel, by decide +kernel, by decide +kernel, by decide +kernel⟩

theorem test_LayoutAndRoutes_5 : ∃ (s : State) (a : State) (h : Hdr) (i : Nat) (bus : BitVec 8) (en : Bool) (mute : Bool) (home : BitVec 8) (code : BitVec 16) (mask : BitVec 128) (ins : List BusIn), s.takes h ⟨0x0304, (1, 0), .both, true, .other⟩ i a ∧ lenIs h (24 + 6 * ins.length) = true ∧ a.ownsBus i bus.toNat = true ∧ a.ownsZone i home.toNat = true ∧ (a.acceptRouteSet i h bus.toNat en mute home.toNat code.toInt mask.toNat (busPositions ins)).thenCommit (firstBad (countIn 0 64 ins.length :: badUnless (home.toNat < 128) :: ins.map a.inStatus)) = .ok :=
  ⟨up, heardOf up (hd 30) ⟨0x0304, (1, 0), .both, true, .other⟩, hd 30, 0, 0, true, false, 0, 0xFFFF, 3, [⟨0, 1, 0xFF00⟩], by decide +kernel, by decide +kernel, by decide +kernel, by decide +kernel, by decide +kernel⟩

theorem test_ChainSettings_1 : ∃ (s : State) (a : State) (h : Hdr) (i : Nat) (output : BitVec 16) (headroom : BitVec 8) (cs : List BqWords), s.takes h ⟨0x0401, (1, 0), .nextBlock, false, .other⟩ i a ∧ lenIs h (4 + 15 * cs.length) = true ∧ a.ownsOut i output.toNat = true ∧ cs.length ≤ 32 ∧ a.outId output.toNat = .ok ∧ headroom.toNat ≤ 6 ∧ a.commitStatus = .ok :=
  ⟨up, heardOf up (hd 19) ⟨0x0401, (1, 0), .nextBlock, false, .other⟩, hd 19, 0, 639, 6, [⟨0x10000, 0, 0, 0, 0⟩], by decide +kernel, by decide +kernel, by decide +kernel, by decide +kernel, by decide +kernel, by decide +kernel, by decide +kernel⟩

theorem test_ChainSettings_2 : ∃ (s : State) (a : State) (h : Hdr) (i : Nat) (output : BitVec 16) (en : Bool) (look : BitVec 8) (thresh : BitVec 16) (rel : BitVec 32), s.takes h ⟨0x0404, (1, 0), .nextBlock, false, .other⟩ i a ∧ lenIs h 10 = true ∧ a.ownsOut i output.toNat = true ∧ a.outId output.toNat = .ok ∧ -3000 ≤ thresh.toInt ∧ thresh.toInt ≤ 0 ∧ look.toNat < 64 ∧ rel.toNat < 2 ^ 24 ∧ (a.acceptLimiter output.toNat en look.toNat thresh.toNat rel.toNat (a.hdrNext h)).commitStatus = .ok :=
  ⟨up, heardOf up (hd 10) ⟨0x0404, (1, 0), .nextBlock, false, .other⟩, hd 10, 0, 639, true, 63, -3000, 5, by decide +kernel, by decide +kernel, by decide +kernel, by decide +kernel, by decide +kernel, by decide +kernel, by decide +kernel, by decide +kernel, by decide +kernel⟩

theorem test_ChainSettings_3 : ∃ (s : State) (a : State) (h : Hdr) (i : Nat) (es : List (BitVec 16 × BitVec 16)), s.takes h ⟨0x0405, (1, 0), .nextBlock, false, .other⟩ i a ∧ lenIs h (2 + 4 * es.length) = true ∧ 1 ≤ es.length ∧ es.length ≤ 64 ∧ (∀ e ∈ es, a.outId e.1.toNat = .ok ∧ a.ownsOut i e.1.toNat = true) ∧ (a.acceptDelays es (a.hdrNext h)).commitStatus = .ok :=
  ⟨up, heardOf up (hd 6) ⟨0x0405, (1, 0), .nextBlock, false, .other⟩, hd 6, 0, [(639, 100)], by simp only [List.mem_cons, List.not_mem_nil, or_false, forall_eq_or_imp, forall_eq]; decide +kernel⟩

theorem test_FilterCommands_1 : ∃ (s : State) (a : State) (h : Hdr) (i : Nat) (output : BitVec 16) (lm1 : BitVec 16) (first : BitVec 16) (taps : List (BitVec 24)), s.takes h (op 0x0402 2 0 .other) i a ∧ lenIs h (8 + 3 * taps.length) = true ∧ a.ownsOut i output.toNat = true ∧ a.outId output.toNat = .ok ∧ lm1.toNat < 16384 ∧ first.toNat + taps.length ≤ lm1.toNat + 1 ∧ a.inInstall output.toNat = false :=
  ⟨up, heardOf up (hd 11) (op 0x0402 2 0 .other), hd 11, 0, 5, 511, 511, [0x3FFFF], by decide +kernel, by decide +kernel, by decide +kernel, by decide +kernel, by decide +kernel, by decide +kernel, by decide +kernel⟩

theorem test_FilterCommands_2 : ∃ (s : State) (a : State) (h : Hdr) (i : Nat) (es : List InstallReq), s.takes h (op 0x0403 2 0 .other) i a ∧ lenIs h (4 + 8 * es.length) = true ∧ 1 ≤ es.length ∧ es.length ≤ 64 ∧ (∀ e ∈ es, a.ownsOut i e.output.toNat = true) ∧ a.stage < 3 ∧ a.installEntries [] es = es.map (fun _ => .ok) ∧ (a.mix.installs.filter (fun x => !x.done)).length + es.length ≤ 64 ∧ (a.beginInstall h.port.val es).commitStatus = .ok :=
  ⟨{ up with mix := { up.mix with proposals := [⟨1, 3, []⟩] } }, heardOf { up with mix := { up.mix with proposals := [⟨1, 3, []⟩] } } (hd 12) (op 0x0403 2 0 .other), hd 12, 0, [⟨3, true, 1⟩], by simp only [List.mem_cons, List.not_mem_nil, or_false, forall_eq_or_imp, forall_eq]; decide +kernel⟩

theorem test_FilterCommands_3 : ∃ (s : State) (a : State) (h : Hdr) (i : Nat) (q : IdentReq), s.takes h (op 0x0406 3 0 .other) i a ∧ lenIs h 110 = true ∧ a.ownsOut i q.output.toNat = true ∧ a.identStatus q = .ok :=
  ⟨up, heardOf up (hd 110) (op 0x0406 3 0 .other), hd 110, 0, ⟨63, true, false, 4, 9, 2, 0x8000, 100, 1, List.replicate 16 2, List.replicate 32 0⟩, by decide +kernel, by decide +kernel, by decide +kernel, by decide +kernel⟩

theorem test_FilterCommands_4 : ∃ (s : State) (a : State) (h : Hdr) (i : Nat) (slot : BitVec 8) (propose : Bool), s.takes h (op 0x0407 3 0 .other) i a ∧ lenIs h 2 = true ∧ slot.toNat < 64 ∧ (propose = true → (match a.identOf slot.toNat with | some d => a.ownsOut i d.output | none => true) = true) :=
  ⟨up, heardOf up (hd 2) (op 0x0407 3 0 .other), hd 2, 0, 0, false, by decide +kernel, by decide +kernel, by decide +kernel, by decide +kernel⟩

theorem test_StreamCommands_1 : ∃ (s : State) (a : State) (h : Hdr) (i : Nat) (q : RxSet), s.takes h (op 0x0501 2 0 .other) i a ∧ lenIs h 36 = true ∧ a.ownsSc i q.ctx.toNat = true ∧ (a.acceptRx q (RxSet.format q) a.effectBlock).portCommit (firstBad [RxSet.status q, (a.acceptRx q (RxSet.format q) a.effectBlock).rxCommit q.ctx.toNat]) = .ok :=
  ⟨up, heardOf up (hd 36) (op 0x0501 2 0 .other), hd 36, 0, ⟨127, true, true, false, true, true, 3, 64, 97, 2, 0xEF010203, 0x0A000001, 5004, 0xDEADBEEF, 0x80000000, [(2, 16), (1, 48)]⟩, by decide +kernel, by decide +kernel, by decide +kernel, by decide +kernel⟩

theorem test_StreamCommands_2 : ∃ (s : State) (a : State) (h : Hdr) (i : Nat) (q : TxSet), s.takes h (op 0x0502 2 0 .other) i a ∧ lenIs h (44 + 2 * q.outs.length) = true ∧ a.ownsSc i q.ctx.toNat = true ∧ (a.acceptTx q (TxSet.format q) a.effectBlock).portCommit (a.txStatus q) = .ok :=
  ⟨up, heardOf up (hd 48) (op 0x0502 2 0 .other), hd 48, 0, ⟨191, true, true, false, true, true, false, 97, 1, 32, 46, 0xEF010203, 5004, 5004, 1, 2, 0x8001, 0x01005E010203, [(0, 16)], [639, 0xFFFF]⟩, by decide +kernel, by decide +kernel, by decide +kernel, by decide +kernel⟩

theorem test_PortCommands_1 : ∃ (s : State) (a : State) (h : Hdr) (i : Nat) (port : BitVec 8) (cfg : BitVec 32) (tol : BitVec 16) (mIn : BitVec 32) (mOut : BitVec 32) (map : List (BitVec 16)), s.takes h (op 0x0503 1 0 .other) i a ∧ lenIs h 84 = true ∧ (a.session i).cls ≤ 1 ∧ (a.acceptTdm port.toNat cfg.toNat tol.toNat mIn.toNat mOut.toNat map a.effectBlock).portCommit (firstBad ([badUnless (port.toNat < 16), wordStatus (R.TDM_CFG_w 0).addr 0 cfg.toNat, badUnless (tol.toNat < 32768), badUnless !(bitOf cfg.toNat 30 && bitOf cfg.toNat 29), (if a.frameFits cfg.toNat then .ok else .limit)] ++ map.map a.mapStatus)) = .ok :=
  ⟨up, heardOf up (hd 84) (op 0x0503 1 0 .other), hd 84, 0, 15, 2 ^ 31 + 7 * 2 ^ 5 + 23, 32767, 0xFF, 0x0F, [0, 639, 0xFFFF], by decide +kernel, by decide +kernel, by decide +kernel, by decide +kernel⟩

theorem test_PortCommands_2 : ∃ (s : State) (a : State) (h : Hdr) (i : Nat) (dir : BitVec 8) (index : BitVec 8) (cfg : BitVec 32) (map : BitVec 32) (tpl : BitVec 192), s.takes h (op 0x0504 1 0 .other) i a ∧ lenIs h 36 = true ∧ (a.session i).cls ≤ 1 ∧ dir.toNat ≤ 1 ∧ index.toNat < 4 ∧ ((if dir.toNat = 0 then a.regAt a.effectBlock (R.AES_ICFG_w index.toNat).addr cfg.toNat else a.acceptAesOut index.toNat cfg.toNat map.toNat tpl.toNat a.effectBlock) : State).portCommit (firstBad [wordStatus (if dir.toNat = 0 then (R.AES_ICFG_w 0).addr else (R.AES_OCFG_w 0).addr) 0 cfg.toNat, (if dir.toNat = 1 then a.aesMapStatus map.toNat else .ok)]) = .ok :=
  ⟨up, heardOf up (hd 36) (op 0x0504 1 0 .other), hd 36, 0, 1, 3, 2 ^ 31, 2 ^ 31 + 639 * 2 ^ 16 + 2 ^ 15, 5, by decide +kernel, by decide +kernel, by decide +kernel, by decide +kernel, by decide +kernel, by decide +kernel⟩

theorem test_PortCommands_3 : ∃ (s : State) (a : State) (h : Hdr) (i : Nat) (input : BitVec 8) (cfg : BitVec 32) (det : BitVec 32), s.takes h (op 0x0505 1 0 .other) i a ∧ lenIs h 12 = true ∧ (a.session i).cls ≤ 1 ∧ input.toNat < 4 ∧ wordStatus (R.MIC_CFG_w 0).addr 0 cfg.toNat = .ok ∧ wordStatus (R.MIC_DET_CFG_w 0).addr 0 det.toNat = .ok ∧ a.commitStatus = .ok :=
  ⟨up, heardOf up (hd 12) (op 0x0505 1 0 .other), hd 12, 0, 3, 2 ^ 31, 1, by decide +kernel, by decide +kernel, by decide +kernel, by decide +kernel, by decide +kernel, by decide +kernel, by decide +kernel⟩

theorem test_PortCommands_4 : ∃ (s : State) (a : State) (h : Hdr) (i : Nat) (ch : BitVec 8) (bw : BitVec 8) (cfg : BitVec 32), s.takes h (op 0x0506 2 0 .other) i a ∧ lenIs h 8 = true ∧ (a.session i).cls ≤ 1 ∧ ((a.regAt a.effectBlock (R.ASC_CFG_w ch.toNat).addr cfg.toNat).regAt a.effectBlock (R.ASC_LOOP_w ch.toNat).addr bw.toNat).portCommit (firstBad [badUnless (ch.toNat < 32), badUnless (bw.toNat < 16), wordStatus (R.ASC_CFG_w 0).addr 0 cfg.toNat, badUnless !(((a.regAt a.effectBlock (R.ASC_CFG_w ch.toNat).addr cfg.toNat).regAt a.effectBlock (R.ASC_LOOP_w ch.toNat).addr bw.toNat).committed.sourceBarred (24576 + ch.toNat))]) = .ok :=
  ⟨up, heardOf up (hd 8) (op 0x0506 2 0 .other), hd 8, 0, 31, 15, 0, by decide +kernel, by decide +kernel, by decide +kernel, by decide +kernel⟩

theorem test_PowerConfiguration_1 : ∃ (s : State) (a : State) (h : Hdr) (i : Nat) (ch : BitVec 8) (w : PsWords), s.takes h (op 0x0601 1 0 .other) i a ∧ lenIs h 36 = true ∧ a.ownsPs i ch.toNat = true ∧ (bitOf w.cfg.toNat 26 = true → a.ownsPs i (bitsOf w.cfg.toNat 25 21) = true) ∧ ch.toNat < 24 ∧ (a.acceptPs ch.toNat w a.effectBlock).thenCommit (firstBad [a.psWordStatus w, (a.acceptPs ch.toNat w a.effectBlock).psCommitStatus ch.toNat]) = .ok :=
  ⟨up, heardOf up (hd 36) (op 0x0601 1 0 .other), hd 36, 0, 23, ⟨5, 0x100, 0, 0, 0, 0, 0, 0⟩, by decide +kernel, by decide +kernel, by decide +kernel, by decide +kernel, by decide +kernel, by decide +kernel⟩

theorem test_PowerConfiguration_2 : ∃ (s : State) (a : State) (h : Hdr) (i : Nat) (ch : BitVec 8) (pair : Bool), s.takes h (op 0x0603 2 0 .other) i a ∧ lenIs h 2 = true ∧ a.ownsPs i ch.toNat = true ∧ a.ownsPs i (ch.toNat + 1) = true ∧ ch.toNat < 24 ∧ ch.toNat % 2 = 0 ∧ (pair = true → a.committed.pairLegal ch.toNat = true ∧ a.committed.servesAny ch.toNat = false ∧ a.committed.servesAny (ch.toNat + 1) = false) ∧ (a.acceptPair ch.toNat pair a.effectBlock).commitStatus = .ok :=
  ⟨up, heardOf up (hd 2) (op 0x0603 2 0 .other), hd 2, 0, 22, false, by decide +kernel, by decide +kernel, by decide +kernel, by decide +kernel, by decide +kernel, by decide +kernel, by decide +kernel, by decide +kernel⟩

theorem test_PowerConfiguration_3 : ∃ (s : State) (a : State) (h : Hdr) (i : Nat) (freqs : List (BitVec 16)), s.takes h (op 0x0604 3 1 .other) i a ∧ lenIs h (4 + 4 * freqs.length) = true ∧ (a.session i).cls = 0 ∧ freqs.length ≤ 8 ∧ (∀ f ∈ freqs, f.toNat < 32768) ∧ (a.acceptProt freqs a.effectBlock).commitStatus = .ok :=
  ⟨up, heardOf up (hd 12) (op 0x0604 3 1 .other), hd 12, 0, [32767, 5], by simp only [List.mem_cons, List.not_mem_nil, or_false, forall_eq_or_imp, forall_eq]; decide +kernel⟩

theorem test_PowerOperation_1 : ∃ (s : State) (a : State) (h : Hdr) (i : Nat) (es : List (BitVec 8 × BitVec 8)), s.takes h (op 0x0602 1 0 .other) i a ∧ lenIs h (1 + 2 * es.length) = true ∧ 1 ≤ es.length ∧ es.length ≤ 24 ∧ (∀ e ∈ es, a.ownsPs i e.1.toNat = true ∧ a.enableStatus e = .ok ∧ (e.2.toNat = 1 → (a.psSt e.1.toNat).shed = false)) :=
  ⟨up, heardOf up (hd 5) (op 0x0602 1 0 .other), hd 5, 0, [(23, 1), (0, 0)], by simp only [List.mem_cons, List.not_mem_nil, or_false, forall_eq_or_imp, forall_eq]; decide +kernel⟩

theorem test_PowerOperation_2 : ∃ (s : State) (a : State) (h : Hdr) (i : Nat) (first : BitVec 8) (n : BitVec 8), s.takes h (op 0x0605 1 1 .query) i a ∧ lenIs h 2 = true ∧ 1 ≤ n.toNat ∧ n.toNat ≤ 24 ∧ first.toNat + n.toNat ≤ 24 :=
  ⟨up, heardOf up (hd 2) (op 0x0605 1 1 .query), hd 2, 0, 22, 2, by decide +kernel, by decide +kernel, by decide +kernel, by decide +kernel, by decide +kernel⟩

theorem test_PowerOperation_3 : ∃ (s : State) (a : State) (h : Hdr) (i : Nat) (e : BitVec 8 × BitVec 8), s.takes h (op 0x0606 1 0 .other) i a ∧ lenIs h 3 = true ∧ a.ownsPs i e.1.toNat = true ∧ e.1.toNat < 24 ∧ e.2.toNat < 64 :=
  ⟨up, heardOf up (hd 3) (op 0x0606 1 0 .other), hd 3, 0, (23, 63), by decide +kernel, by decide +kernel, by decide +kernel, by decide +kernel, by decide +kernel⟩

theorem test_PowerOperation_4 : ∃ (s : State) (a : State) (h : Hdr) (i : Nat) (es : List (BitVec 8 × BitVec 8)), s.takes h (op 0x0606 1 0 .other) i a ∧ lenIs h (1 + 2 * es.length) = true ∧ 1 ≤ es.length ∧ es.length ≤ 24 ∧ (∀ e ∈ es, a.ownsPs i e.1.toNat = true ∧ e.1.toNat < 24 ∧ e.2.toNat < 64) :=
  ⟨up, heardOf up (hd 5) (op 0x0606 1 0 .other), hd 5, 0, [(23, 63), (0, 1)], by simp only [List.mem_cons, List.not_mem_nil, or_false, forall_eq_or_imp, forall_eq]; decide +kernel⟩

theorem test_TallyCommands_1 : ∃ (s : State) (a : State) (h : Hdr) (i : Nat) (q : TallyReq), s.takes h (op 0x0701 2 0 .other) i a ∧ lenIs h 20 = true ∧ (a.session i).cls = 0 ∧ TallyReq.status q = .ok ∧ a.commitStatus = .ok :=
  ⟨up, heardOf up (hd 20) (op 0x0701 2 0 .other), hd 20, 0, ⟨0x1E, 0x1FFFF, 2047, 2047, 0xFFFFFF, 0, 0, 0⟩, by decide +kernel, by decide +kernel, by decide +kernel, by decide +kernel, by decide +kernel⟩

theorem test_TallyCommands_2 : ∃ (s : State) (a : State) (h : Hdr) (i : Nat) (test : BitVec 8) (subject : BitVec 16), s.takes h (op 0x0702 2 0 .other) i a ∧ lenIs h 4 = true ∧ (a.session i).cls = 0 ∧ a.stage = 0 ∧ (test.toNat ≤ 2 → ∀ n ∈ a.runChannels subject.toNat, a.ownsPs i n = true) ∧ a.runStatus test.toNat subject.toNat = .ok :=
  ⟨up, heardOf up (hd 4) (op 0x0702 2 0 .other), hd 4, 0, 1, 23, by decide +kernel, by decide +kernel, by decide +kernel, by decide +kernel, by decide +kernel, by decide +kernel⟩

theorem test_TallyCommands_3 : ∃ (s : State) (a : State) (h : Hdr) (i : Nat) (index : BitVec 16) (n : BitVec 16), s.takes h (op 0x0703 1 0 .query) i a ∧ lenIs h 4 = true ∧ 1 ≤ n.toNat ∧ n.toNat ≤ 256 :=
  ⟨up, heardOf up (hd 4) (op 0x0703 1 0 .query), hd 4, 0, 0xFFFF, 256, by decide +kernel, by decide +kernel, by decide +kernel, by decide +kernel⟩

theorem test_TallyCommands_4 : ∃ (s : State) (a : State) (h : Hdr) (i : Nat) (chs : List (BitVec 8)), s.takes h (op 0x0704 2 0 .other) i a ∧ lenIs h (1 + chs.length) = true ∧ (∀ c ∈ chs, a.ownsPs i c.toNat = true) ∧ a.stage = 0 ∧ a.captureStatus chs = .ok :=
  ⟨up, heardOf up (hd 3) (op 0x0704 2 0 .other), hd 3, 0, [23, 0], by simp only [List.mem_cons, List.not_mem_nil, or_false, forall_eq_or_imp, forall_eq]; decide +kernel⟩

theorem test_TimeCommands_1 : ∃ (s : State) (a : State) (h : Hdr) (i : Nat) (q : TimeReq), s.takes h (op 0x0801 2 0 .other) i a ∧ lenIs h 44 = true ∧ (a.session i).cls = 0 ∧ TimeReq.status q = .ok ∧ a.commitStatus = .ok :=
  ⟨up, heardOf up (hd 44) (op 0x0801 2 0 .other), hd 44, 0, ⟨3, 0, true, false, true, true, 2, 255, 100, 1, 1, 1023, 5, 6, 7, [(1, 2), (3, 4), (5, 6)]⟩, by decide +kernel, by decide +kernel, by decide +kernel, by decide +kernel, by decide +kernel⟩

theorem test_TimeCommands_2 : ∃ (s : State) (a : State) (h : Hdr) (i : Nat), s.takes h (op 0x0802 2 0 .query) i a ∧ lenIs h 0 = true :=
  ⟨up, heardOf up (hd 0) (op 0x0802 2 0 .query), hd 0, 0, by decide +kernel, by decide +kernel⟩

theorem test_TimeCommands_3 : ∃ (s : State) (a : State) (h : Hdr) (i : Nat) (action : BitVec 8) (gpio : BitVec 8) (tag : BitVec 32), s.takes h ⟨0x0803, (2, 0), .within, false, .other⟩ i a ∧ lenIs h 8 = true ∧ (a.session i).cls ≤ 1 ∧ h.timed = true ∧ action.toNat ≤ 2 ∧ gpio.toNat < 32 ∧ (action ≠ 2#8 → a.gpioOut gpio.toNat = true) :=
  ⟨lk, heardOf lk (hdAt 16 1000000000) ⟨0x0803, (2, 0), .within, false, .other⟩, hdAt 16 1000000000, 0, 2, 31, 7, by decide +kernel, by decide +kernel, by decide +kernel, by decide +kernel, by decide +kernel, by decide +kernel, by decide +kernel⟩

theorem test_MirrorCommands_1 : ∃ (s : State) (a : State) (h : Hdr) (i : Nat) (en : Bool) (prefer : Bool), s.takes h (op 0x0901 2 0 .query) i a ∧ lenIs h 4 = true ∧ (a.session i).cls = 0 :=
  ⟨up, heardOf up (hd 4) (op 0x0901 2 0 .query), hd 4, 0, true, true, by decide +kernel, by decide +kernel, by decide +kernel⟩

theorem test_MirrorCommands_2 : ∃ (s : State) (a : State) (h : Hdr) (i : Nat), s.takes h (op 0x0902 2 0 .query) i a ∧ lenIs h 0 = true :=
  ⟨up, heardOf up (hd 0) (op 0x0902 2 0 .query), hd 0, 0, by decide +kernel, by decide +kernel⟩

theorem test_MirrorCommands_3 : ∃ (s : State) (a : State) (h : Hdr) (i : Nat), s.takes h (op 0x0903 2 0 .query) i a ∧ lenIs h 0 = true ∧ (a.session i).cls = 0 ∧ a.role = roleActive ∧ a.rd R.FLD_STATUS_PARTNER = 2 ∧ a.mir.change = none :=
  ⟨((up.wr R.FLD_STATUS_PARTNER 2).wr R.FLD_STATUS_ROLE 1), heardOf ((up.wr R.FLD_STATUS_PARTNER 2).wr R.FLD_STATUS_ROLE 1) (hd 0) (op 0x0903 2 0 .query), hd 0, 0, by decide +kernel, by decide +kernel, by decide +kernel, by decide +kernel, by decide +kernel, by decide +kernel⟩

theorem test_FirmwareCommands_1 : ∃ (s : State) (a : State) (h : Hdr) (i : Nat) (nonce : BitVec 128), s.takes h (op 0x0A01 2 0 .query) i a ∧ lenIs h 16 = true :=
  ⟨up, heardOf up (hd 16) (op 0x0A01 2 0 .query), hd 16, 0, 0, by decide +kernel, by decide +kernel⟩

theorem test_FirmwareCommands_2 : ∃ (s : State) (a : State) (h : Hdr) (i : Nat) (which : BitVec 8), s.takes h (op 0x0A02 2 0 .query) i a ∧ lenIs h 1 = true ∧ which.toNat ≤ 1 :=
  ⟨up, heardOf up (hd 1) (op 0x0A02 2 0 .query), hd 1, 0, 1, by decide +kernel, by decide +kernel, by decide +kernel⟩

theorem test_FirmwareCommands_3 : ∃ (s : State) (a : State) (h : Hdr) (i : Nat) (length : BitVec 32) (sha : BitVec 256), s.takes h (op 0x0A03 2 0 .other) i a ∧ lenIs h 36 = true ∧ (a.session i).cls = 0 ∧ a.stage = 0 ∧ length.toNat ≤ 16777216 :=
  ⟨up, heardOf up (hd 36) (op 0x0A03 2 0 .other), hd 36, 0, 16777216, 0, by decide +kernel, by decide +kernel, by decide +kernel, by decide +kernel, by decide +kernel⟩

theorem test_FirmwareCommands_4 : ∃ (s : State) (a : State) (h : Hdr) (i : Nat) (off : BitVec 32) (data : List Byte) (x : FwXfer), s.takes h (op 0x0A04 2 0 .other) i a ∧ lenIs h (4 + data.length) = true ∧ (a.session i).cls = 0 ∧ a.stage = 0 ∧ a.fw = some x ∧ x.sess = i ∧ off.toNat = x.got.length ∧ x.got.length + data.length ≤ x.len :=
  ⟨{ up with fw := some ⟨0, 5, 0, true, [1, 2]⟩ }, heardOf { up with fw := some ⟨0, 5, 0, true, [1, 2]⟩ } (hd 7) (op 0x0A04 2 0 .other), hd 7, 0, 2, [3, 4, 5], ⟨0, 5, 0, true, [1, 2]⟩, by decide +kernel, by decide +kernel, by decide +kernel, by decide +kernel, by decide +kernel, by decide +kernel, by decide +kernel, by decide +kernel⟩

theorem test_FirmwareCommands_5 : ∃ (s : State) (a : State) (h : Hdr) (i : Nat) (x : FwXfer), s.takes h (op 0x0A05 2 0 .other) i a ∧ lenIs h 0 = true ∧ (a.session i).cls = 0 ∧ a.stage = 0 ∧ a.fw = some x ∧ x.sess = i ∧ x.got.length = x.len :=
  ⟨{ up with fw := some ⟨0, 2, 0, true, [1, 2]⟩ }, heardOf { up with fw := some ⟨0, 2, 0, true, [1, 2]⟩ } (hd 0) (op 0x0A05 2 0 .other), hd 0, 0, ⟨0, 2, 0, true, [1, 2]⟩, by decide +kernel, by decide +kernel, by decide +kernel, by decide +kernel, by decide +kernel, by decide +kernel, by decide +kernel⟩

theorem test_DeviceCommands_1 : ∃ (s : State) (a : State) (h : Hdr) (i : Nat) (es : List KeyEntry), s.takes h (op 0x0A06 2 0 .other) i a ∧ lenIs h (4 + 72 * es.length) = true ∧ a.mayRotate i = true ∧ 1 ≤ es.length ∧ es.length ≤ 16 ∧ (∀ e ∈ es, KeyEntry.status e = .ok) ∧ permitsZero (enrolWith a.enrol es) = true :=
  ⟨up, heardOf up (hd 76) (op 0x0A06 2 0 .other), hd 76, 0, [⟨15, 1, 0, 63, 5, true⟩], by simp only [List.mem_cons, List.not_mem_nil, or_false, forall_eq_or_imp, forall_eq]; decide +kernel⟩

theorem test_DeviceCommands_2 : ∃ (s : State) (a : State) (h : Hdr) (i : Nat) (s2 : BitVec 16) (s3 : BitVec 16) (s4 : BitVec 16) (hyst : BitVec 16) (dwell : BitVec 16), s.takes h (op 0x0D01 2 0 .other) i a ∧ lenIs h 12 = true ∧ (a.session i).cls = 0 ∧ s4.toNat < s3.toNat ∧ s3.toNat < s2.toNat ∧ 10 ≤ hyst.toNat ∧ hyst.toNat ≤ 500 ∧ 100 ≤ dwell.toNat ∧ dwell.toNat ≤ 60000 ∧ a.commitStatus = .ok :=
  ⟨up, heardOf up (hd 12) (op 0x0D01 2 0 .other), hd 12, 0, 102, 101, 100, 500, 60000, by decide +kernel, by decide +kernel, by decide +kernel, by decide +kernel, by decide +kernel, by decide +kernel, by decide +kernel, by decide +kernel, by decide +kernel, by decide +kernel⟩

theorem test_DeviceCommands_3 : ∃ (s : State) (a : State) (h : Hdr) (i : Nat), s.takes h (op 0x0D02 1 1 .query) i a ∧ lenIs h 0 = true :=
  ⟨up, heardOf up (hd 0) (op 0x0D02 1 1 .query), hd 0, 0, by decide +kernel, by decide +kernel⟩

theorem test_DeviceCommands_4 : ∃ (s : State) (a : State) (h : Hdr) (i : Nat) (enter : BitVec 8), s.takes h (op 0x0F01 1 0 .other) i a ∧ lenIs h 4 = true ∧ (a.session i).cls = 0 ∧ a.stage = 0 ∧ enter.toNat ≤ 1 ∧ (a.maint = none ∨ a.maint = some i) :=
  ⟨up, heardOf up (hd 4) (op 0x0F01 1 0 .other), hd 4, 0, 1, by decide +kernel, by decide +kernel, by decide +kernel, by decide +kernel, by decide +kernel, by decide +kernel⟩

theorem test_DeviceCommands_5 : ∃ (s : State) (a : State) (h : Hdr) (i : Nat), s.takes h (op 0x0F04 1 0 .other) i a ∧ lenIs h 0 = true ∧ (a.session i).cls = 0 :=
  ⟨up, heardOf up (hd 0) (op 0x0F04 1 0 .other), hd 0, 0, by decide +kernel, by decide +kernel, by decide +kernel⟩

theorem test_MessageCommands_1 : ∃ (s : State) (a : State) (h : Hdr) (i : Nat) (q : StoreReq) (data : List Byte), s.takes h (op 0x0C01 1 0 .other) i a ∧ lenIs h (16 + data.length) = true ∧ (a.session i).cls ≤ (if q.evac then 0 else 1) ∧ a.stage = 0 ∧ a.storeStatus i q data.length = .ok :=
  ⟨up, heardOf up (hd 19) (op 0x0C01 1 0 .other), hd 19, 0, ⟨255, true, true, 0, 6, 0⟩, [1, 2, 3], by decide +kernel, by decide +kernel, by decide +kernel, by decide +kernel, by decide +kernel⟩

theorem test_MessageCommands_2 : ∃ (s : State) (a : State) (h : Hdr) (i : Nat) (m : BitVec 8) (loop : Bool) (repeats : BitVec 16) (gap : BitVec 16), s.takes h ⟨0x0C02, (1, 0), .within, false, .other⟩ i a ∧ lenIs h 6 = true ∧ a.ownsFeed i m.toNat = true ∧ (a.stage < 4 ∨ a.msgEvac m.toNat = true) ∧ a.msgValid m.toNat = true :=
  ⟨fed, heardOf fed (hd 6) ⟨0x0C02, (1, 0), .within, false, .other⟩, hd 6, 0, 255, true, 0, 0, by decide +kernel, by decide +kernel, by decide +kernel, by decide +kernel, by decide +kernel⟩

theorem test_MessageCommands_3 : ∃ (s : State) (a : State) (h : Hdr) (i : Nat) (m : BitVec 8) (atEnd : Bool), s.takes h ⟨0x0C03, (1, 0), .nextBlock, false, .other⟩ i a ∧ lenIs h 2 = true ∧ a.ownsFeed i m.toNat = true :=
  ⟨fed, heardOf fed (hd 2) ⟨0x0C03, (1, 0), .nextBlock, false, .other⟩, hd 2, 0, 255, true, by decide +kernel, by decide +kernel, by decide +kernel⟩

theorem test_ReadCommands_1 : ∃ (s : State) (a : State) (h : Hdr) (i : Nat) (pids : List (BitVec 16)), s.takes h (op 0x0B01 1 0 .query) i a ∧ lenIs h (2 + 2 * pids.length) = true ∧ 1 ≤ pids.length ∧ pids.length ≤ 256 ∧ (∀ p ∈ pids, a.pidKnown p.toNat = .ok) :=
  ⟨up, heardOf up (hd 6) (op 0x0B01 1 0 .query), hd 6, 0, [8, 0x4000], by simp only [List.mem_cons, List.not_mem_nil, or_false, forall_eq_or_imp, forall_eq]; decide +kernel⟩

theorem test_ReadCommands_2 : ∃ (s : State) (a : State) (h : Hdr) (i : Nat) (ids : List (BitVec 16)), s.takes h (op 0x0B05 1 0 .query) i a ∧ lenIs h (2 + 2 * ids.length) = true ∧ 1 ≤ ids.length ∧ ids.length ≤ 128 ∧ (∀ n ∈ ids, isCounter n.toNat = true) :=
  ⟨up, heardOf up (hd 4) (op 0x0B05 1 0 .query), hd 4, 0, [0xC000], by simp only [List.mem_cons, List.not_mem_nil, or_false, forall_eq_or_imp, forall_eq]; decide +kernel⟩

theorem test_ReadCommands_3 : ∃ (s : State) (a : State) (h : Hdr) (i : Nat) (addr : BitVec 32) (n : BitVec 16), s.takes h (op 0x0F02 1 0 .query) i a ∧ lenIs h 8 = true ∧ a.maint = some i ∧ 1 ≤ n.toNat ∧ n.toNat ≤ 256 ∧ addr.toNat % 4 = 0 :=
  ⟨{ up with maint := some 0 }, heardOf { up with maint := some 0 } (hd 8) (op 0x0F02 1 0 .query), hd 8, 0, 4, 1, by decide +kernel, by decide +kernel, by decide +kernel, by decide +kernel, by decide +kernel, by decide +kernel⟩

theorem test_ReadCommands_4 : ∃ (s : State) (a : State) (h : Hdr) (i : Nat) (addr : BitVec 32) (ws : List (BitVec 32)), s.takes h (op 0x0F03 1 0 .other) i a ∧ lenIs h (8 + 4 * ws.length) = true ∧ a.maint = some i ∧ 1 ≤ ws.length ∧ ws.length ≤ 256 ∧ addr.toNat % 4 = 0 :=
  ⟨{ up with maint := some 0 }, heardOf { up with maint := some 0 } (hd 12) (op 0x0F03 1 0 .other), hd 12, 0, 0x7FFFFFFC, [5], by decide +kernel, by decide +kernel, by decide +kernel, by decide +kernel, by decide +kernel, by decide +kernel⟩

theorem test_ParameterWritten_1 : ∃ (s : State) (a : State) (h : Hdr) (i : Nat) (p : BitVec 16) (v : BitVec 32) (o : Nat), s.takes h ⟨0x0B02, (1, 0), paramKind [p.toNat], true, .other⟩ i a ∧ lenIs h 8 = true ∧ pidOf p.toNat = some (.objCode o) ∧ a.pidNeeds i p.toNat = true ∧ a.pidStatus p.toNat v.toNat = .ok :=
  ⟨up, heardOf up (hd 8) ⟨0x0B02, (1, 0), paramKind [(0x1000 : BitVec 16).toNat], true, .other⟩, hd 8, 0, 0x1000, 0xFFFFFF9C, 0, by decide +kernel, by decide +kernel, by decide +kernel, by decide +kernel, by decide +kernel⟩

theorem test_ParameterWritten_2 : ∃ (s : State) (a : State) (h : Hdr) (i : Nat) (p : BitVec 16) (v : BitVec 32) (o : Nat), s.takes h ⟨0x0B02, (1, 0), paramKind [p.toNat], true, .other⟩ i a ∧ lenIs h 8 = true ∧ pidOf p.toNat = some (.delay o) ∧ a.pidNeeds i p.toNat = true ∧ a.pidStatus p.toNat v.toNat = .ok ∧ (a.putParams i (a.hdrNext h) (a.hdrSample h) (a.hdrRamp i h) [(p.toNat, v.toNat)]).commitStatus = .ok :=
  ⟨up, heardOf up (hd 8) ⟨0x0B02, (1, 0), paramKind [(0x327F : BitVec 16).toNat], true, .other⟩, hd 8, 0, 0x327F, 4095, 639, by decide +kernel, by decide +kernel, by decide +kernel, by decide +kernel, by decide +kernel, by decide +kernel⟩

theorem test_ParameterWritten_3 : ∃ (s : State) (a : State) (h : Hdr) (i : Nat) (v : BitVec 32), s.takes h ⟨0x0B02, (1, 0), paramKind [8], true, .other⟩ i a ∧ lenIs h 8 = true ∧ 1 ≤ v.toNat ∧ v.toNat ≤ 1000 :=
  ⟨up, heardOf up (hd 8) ⟨0x0B02, (1, 0), paramKind [8], true, .other⟩, hd 8, 0, 1000, by decide +kernel, by decide +kernel, by decide +kernel, by decide +kernel⟩

theorem test_ParameterWritten_4 : ∃ (s : State) (a : State) (h : Hdr) (i : Nat), s.takes h ⟨0x0B02, (1, 0), paramKind [3], true, .other⟩ i a ∧ lenIs h 8 = true ∧ (a.session i).cls = 0 ∧ a.cel.retrain = none ∧ a.celChannels ≠ 0 :=
  ⟨(up.wr R.CEL_STATUS_TRAINED 3), heardOf (up.wr R.CEL_STATUS_TRAINED 3) (hd 8) ⟨0x0B02, (1, 0), paramKind [3], true, .other⟩, hd 8, 0, by decide +kernel, by decide +kernel, by decide +kernel, by decide +kernel, by decide +kernel⟩

theorem test_SafeLoads_1 : ∃ (s : State) (a : State) (h : Hdr) (i : Nat) (es : List (BitVec 16 × BitVec 32)), s.takes h (op 0x0B03 2 0 .other) i a ∧ lenIs h (2 + 6 * es.length) = true ∧ 1 ≤ es.length ∧ es.length ≤ 64 ∧ (∀ e ∈ es, a.pidNeeds i e.1.toNat = true ∧ a.pidKnown e.1.toNat = .ok ∧ safeLoadable e.1.toNat = true ∧ a.pidStatus e.1.toNat e.2.toNat = .ok) ∧ ((natPairs es).foldl stageEntry (a.session i).staging).length ≤ 512 :=
  ⟨up, heardOf up (hd 8) (op 0x0B03 2 0 .other), hd 8, 0, [(0x1000, 5)], by simp only [List.mem_cons, List.not_mem_nil, or_false, forall_eq_or_imp, forall_eq]; decide +kernel⟩

theorem test_SafeLoads_2 : ∃ (s : State) (a : State) (h : Hdr) (i : Nat), s.takes h ⟨0x0B04, (2, 0), .nextBlock, false, .other⟩ i a ∧ lenIs h 4 = true :=
  ⟨up, heardOf up (hd 4) ⟨0x0B04, (2, 0), .nextBlock, false, .other⟩, hd 4, 0, by decide +kernel, by decide +kernel⟩

theorem test_SafeLoads_3 : ∃ (s : State) (a : State) (h : Hdr) (i : Nat), s.takes h ⟨0x0B04, (2, 0), .nextBlock, false, .other⟩ i a ∧ lenIs h 4 = true ∧ (∀ e ∈ (a.session i).staging, a.entryStatus i e = .ok) ∧ (a.commitSet i (a.hdrNext h)).paramCheck ((a.session i).staging.map Prod.fst) .ok = .ok ∧ h.timed = true :=
  ⟨lk, heardOf lk (hdAt 12 1000000000) ⟨0x0B04, (2, 0), .nextBlock, false, .other⟩, hdAt 12 1000000000, 0, by decide +kernel, by decide +kernel, by decide +kernel, by decide +kernel, by decide +kernel⟩

theorem test_SafeLoads_4 : ∃ (s : State) (a : State) (h : Hdr) (i : Nat), s.takes h ⟨0x0B04, (2, 0), .nextBlock, false, .other⟩ i a ∧ lenIs h 4 = true ∧ (∀ e ∈ (a.session i).staging, a.entryStatus i e = .ok) ∧ (a.commitSet i (a.hdrNext h)).paramCheck ((a.session i).staging.map Prod.fst) .ok = .ok ∧ h.timed = false :=
  ⟨up, heardOf up (hd 4) ⟨0x0B04, (2, 0), .nextBlock, false, .other⟩, hd 4, 0, by decide +kernel, by decide +kernel, by decide +kernel, by decide +kernel, by decide +kernel⟩

theorem test_BlockPipeline_1 : ∃ (s : State) (bus : Option Int) (n : Nat), (s.atRaw n).on R.TSU_CTRL_BLOCK_EN = true ∧ (s.atRaw n).gated 15 = false ∧ ((s.atRaw n).locked = true → (s.atRaw n).nextBoundary ≤ (s.atRaw n).now) :=
  ⟨go [(R.TSU_CTRL_BLOCK_EN, 1), (R.TSU_STATUS_FIRST, 0)], some 3, 1000, by decide +kernel, by decide +kernel, by decide +kernel⟩

theorem test_BlockPipeline_2 : ∃ (s : State) (bus : Option Int) (n : Nat), ((s.atRaw n).on R.TSU_CTRL_BLOCK_EN = false ∨ ((s.atRaw n).locked = true ∧ (s.atRaw n).now < (s.atRaw n).nextBoundary)) :=
  ⟨go [(R.TSU_CTRL_BLOCK_EN, 0)], none, 0, by decide +kernel⟩

theorem test_BlockPipeline_3 : ∃ (s : State) (l : TapList), s.on R.CLK_STAT_ON_RC = false ∧ s.gated 1 = false ∧ s.geo.late = none ∧ s.geo.forming = some l ∧ l.complete = false ∧ l.taps ≠ [] ∧ l.taps.length ≤ 65536 :=
  ⟨{ go [(R.CLK_STAT_ON_RC, 0)] with geo := { z.geo with forming := some ⟨5, [⟨1, true, false, false, false, 3, 4000, 1, 5, 6, 4000⟩], false, 1, 1, 1, true, []⟩ } }, ⟨5, [⟨1, true, false, false, false, 3, 4000, 1, 5, 6, 4000⟩], false, 1, 1, 1, true, []⟩, by decide +kernel, by decide +kernel, by decide +kernel, by decide +kernel, by decide +kernel, by decide +kernel, by decide +kernel⟩

theorem test_BlockPipeline_4 : ∃ (s : State) (f : List SpecItem) (q : List SpecLate) (n : Nat), s.tm.started = true ∧ s.hst.winOpen = false ∧ (s.atRaw n).landDeadline (s.hst.win - 1) ≤ (s.atRaw n).now :=
  ⟨{ z with tm := { z.tm with started := true, blockCount := 0 } }, [], [], 500000, by decide +kernel, by decide +kernel, by decide +kernel⟩

theorem test_BlockPipeline_5 : ∃ (s : State) (f : List SpecItem) (q : List SpecLate) (n : Nat), s.tm.started = true ∧ s.hst.winOpen = true ∧ s.hst.win < s.tm.blockCount ∧ (s.atRaw n).landDeadline s.hst.win ≤ (s.atRaw n).now :=
  ⟨{ z with tm := { z.tm with started := true, blockCount := 1 }, hst := { z.hst with winOpen := true } }, [], [], 500000, by decide +kernel, by decide +kernel, by decide +kernel, by decide +kernel⟩

theorem test_BlockPipeline_6 : ∃ (s : State) (b : Nat) (rest : List Nat) (late : List Nat) (n : Nat), s.mix.relQ = b :: rest ∧ (s.atRaw n).instant (32 * b + 93) ≤ (s.atRaw n).now :=
  ⟨{ z with tm := { z.tm with started := true, blockCount := 7 }, mix := { z.mix with relQ := [7, 8] } }, 7, [8], [639], 2000000, by decide +kernel, by decide +kernel⟩

theorem test_HistoryCommands_1 : ∃ (s : State) (code : BitVec 14) (n : Nat), s.geo.track = true ∧ s.geo.speedAt = 0 :=
  ⟨{ z with geo := { z.geo with track := true } }, -8191, 9, by decide +kernel, by decide +kernel⟩

theorem test_HistoryCommands_2 : ∃ (s : State) (src : BitVec 16) (q : BitVec 16) (x : BitVec 576) (na : Bool) (n : Nat) (r : Nat), let u : State := s.atRaw n; u.lands s.hst.win = true ∧ u.ringOf src.toNat = some r ∧ s.hst.winOpen = true ∧ (0x6000 ≤ src.toNat → src.toNat < 0x6020 → u.gated 8 = false ∧ u.ascDelivers (src.toNat - 0x6000) (u.seqBlock q.toNat) = true ∧ (u.on (R.ASC_CFG_OUT_VOICE (src.toNat - 0x6000)) = true → u.on R.MIX_CTRL_ENABLE = true) ∧ (u.ascTile (src.toNat - 0x6000) (u.seqBlock q.toNat)).2.2 = false) ∧ (0x8000 ≤ src.toNat → src.toNat < 0x8004 → u.gated 9 = false ∧ u.on (R.MIC_CFG_EN (src.toNat - 0x8000)) = true ∧ u.on R.MIX_CTRL_ENABLE = true) ∧ q.toNat = s.hst.win % 65536 ∧ (s.ring r).has s.hst.win = false ∧ na = false :=
  ⟨{ go [(R.HST_CTRL_ENABLE, 1)] with hst := { z.hst with winOpen := true, win := 65535, rings := [(1023, { ringReset with source := 0x2000 })] } }, 0x2000, 0xFFFF, 0, false, 0, 1023, by (try dsimp only) <;> decide +kernel, by (try dsimp only) <;> decide +kernel, by (try dsimp only) <;> decide +kernel, (by intro h; exact absurd h (by decide +kernel)), (by intro h; exact absurd h (by decide +kernel)), by (try dsimp only) <;> decide +kernel, by (try dsimp only) <;> decide +kernel, by (try dsimp only) <;> decide +kernel⟩

theorem test_HistoryCommands_3 : ∃ (s : State) (src : BitVec 16) (q : BitVec 16) (x : BitVec 576) (na : Bool) (n : Nat) (r : Nat), let u : State := s.atRaw n; u.lands s.hst.win = true ∧ u.ringOf src.toNat = some r ∧ s.hst.winOpen = true ∧ (0x6000 ≤ src.toNat → src.toNat < 0x6020 → u.gated 8 = false ∧ u.ascDelivers (src.toNat - 0x6000) (u.seqBlock q.toNat) = true ∧ (u.on (R.ASC_CFG_OUT_VOICE (src.toNat - 0x6000)) = true → u.on R.MIX_CTRL_ENABLE = true) ∧ (u.ascTile (src.toNat - 0x6000) (u.seqBlock q.toNat)).2.2 = false) ∧ (0x8000 ≤ src.toNat → src.toNat < 0x8004 → u.gated 9 = false ∧ u.on (R.MIC_CFG_EN (src.toNat - 0x8000)) = true ∧ u.on R.MIX_CTRL_ENABLE = true) ∧ q.toNat ≠ s.hst.win % 65536 ∧ laterThan 16 q.toNat (s.hst.win % 65536) = true :=
  ⟨{ go [(R.HST_CTRL_ENABLE, 1)] with hst := { z.hst with winOpen := true, win := 65535, rings := [(1023, { ringReset with source := 0x2000 })] } }, 0x2000, 0, 0, false, 0, 1023, by (try dsimp only) <;> decide +kernel, by (try dsimp only) <;> decide +kernel, by (try dsimp only) <;> decide +kernel, by (try dsimp only) <;> decide +kernel, by (try dsimp only) <;> decide +kernel, by (try dsimp only) <;> decide +kernel, by (try dsimp only) <;> decide +kernel⟩

theorem test_HistoryCommands_4 : ∃ (s : State) (src : BitVec 16) (q : BitVec 16) (x : BitVec 576) (na : Bool) (n : Nat) (r : Nat), let u : State := s.atRaw n; u.lands s.hst.win = true ∧ u.ringOf src.toNat = some r ∧ s.hst.winOpen = true ∧ (0x6000 ≤ src.toNat → src.toNat < 0x6020 → u.gated 8 = false ∧ u.ascDelivers (src.toNat - 0x6000) (u.seqBlock q.toNat) = true ∧ (u.on (R.ASC_CFG_OUT_VOICE (src.toNat - 0x6000)) = true → u.on R.MIX_CTRL_ENABLE = true) ∧ (u.ascTile (src.toNat - 0x6000) (u.seqBlock q.toNat)).2.2 = false) ∧ (0x8000 ≤ src.toNat → src.toNat < 0x8004 → u.gated 9 = false ∧ u.on (R.MIC_CFG_EN (src.toNat - 0x8000)) = true ∧ u.on R.MIX_CTRL_ENABLE = true) ∧ q.toNat ≠ s.hst.win % 65536 ∧ laterThan 16 q.toNat (s.hst.win % 65536) = false :=
  ⟨{ go [(R.HST_CTRL_ENABLE, 1)] with hst := { z.hst with winOpen := true, win := 65536, rings := [(1023, { ringReset with source := 0x2000 })] } }, 0x2000, 0xFFFF, 0, false, 0, 1023, by (try dsimp only) <;> decide +kernel, by (try dsimp only) <;> decide +kernel, by (try dsimp only) <;> decide +kernel, by (try dsimp only) <;> decide +kernel, by (try dsimp only) <;> decide +kernel, by (try dsimp only) <;> decide +kernel, by (try dsimp only) <;> decide +kernel⟩

theorem test_HistoryCommands_5 : ∃ (s : State) (r : Fin 1024) (b : Nat), s.gated 4 = false ∧ s.hst.copies.contains (r.val, b) = true :=
  ⟨{ go [] with hst := { z.hst with copies := [(1023, 9), (0, 9)] } }, 1023, 9, by decide +kernel, by decide +kernel⟩

theorem test_HistoryCommands_6 : ∃ (s : State) (r : Fin 1024) (b : Nat), s.hst.copies.contains (r.val, b) = true ∧ s.hst.copyPanic.contains (r.val, b) = false :=
  ⟨{ z with hst := { z.hst with copies := [(1023, 9), (0, 9)] } }, 1023, 9, by decide +kernel, by decide +kernel⟩

theorem test_HistoryCommands_7 : ∃ (s : State) (got : List (Nat × Nat)) (n : Nat), let u : State := (s.atRaw n).longGot got; u.hst.longReads ≠ [] ∧ u.pastB0 625 = true :=
  ⟨{ z with hst := { z.hst with longReads := [(1, 9), (2, 9)], rendering := some 0 } }, [(2, 9)], 700000, by (try dsimp only) <;> decide +kernel, by (try dsimp only) <;> decide +kernel⟩

theorem test_HistoryCommands_8 : ∃ (s : State) (got : List (Nat × Nat)) (n : Nat), let u : State := (s.atRaw n).longGot got; s.rd R.HST_PANIC_AGE ≠ 0 ∧ u.hst.longReads ≠ [] ∧ u.hst.longAt + us (s.rd R.HST_PANIC_AGE) < (s.atRaw n).tm.raw :=
  ⟨{ ev [(R.HST_PANIC_AGE, 1)] with hst := { z.hst with longReads := [(1, 9)] } }, [], 510, by (try dsimp only) <;> decide +kernel, by (try dsimp only) <;> decide +kernel, by (try dsimp only) <;> decide +kernel⟩

theorem test_HistoryCommands_9 : ∃ (s : State) (got : List (Nat × Nat)) (n : Nat), let u : State := (s.atRaw n).longGot got; u.pastB0 725 = true :=
  ⟨{ z with hst := { z.hst with longReads := [(1, 9)], rendering := some 0 } }, [], 700000, by (try dsimp only) <;> decide +kernel⟩

theorem test_HistoryCommands_10 : ∃ (s : State) (n : Nat) (p : Nat) (q : Nat), s.gated 3 = false ∧ s.on R.HST_SCRUB_CTRL_ENABLE = true ∧ s.hst.scrubAt = 0 ∧ s.scrubFrom (s.rd R.HST_SCRUB_PTR_SLOT) = some p ∧ q < 65536 ∧ s.scrubFrom (p + 1) = some q :=
  ⟨{ go [(R.HST_SCRUB_CTRL_ENABLE, 1), (R.HST_SCRUB_PTR_SLOT, 65472)] with hst := { z.hst with rings := [(1023, { ringReset with source := 0x2000 })] } }, 0, 65472, 65473, by decide +kernel, by decide +kernel, by decide +kernel, by decide +kernel, by decide +kernel, by decide +kernel⟩

theorem test_HistoryCommands_11 : ∃ (s : State) (n : Nat) (p : Nat) (q : Nat), s.gated 3 = false ∧ s.on R.HST_SCRUB_CTRL_ENABLE = true ∧ s.hst.scrubAt = 0 ∧ s.scrubFrom (s.rd R.HST_SCRUB_PTR_SLOT) = some p ∧ q < 65536 ∧ s.scrubFrom (p + 1) = none ∧ s.scrubFrom 0 = some q :=
  ⟨{ go [(R.HST_SCRUB_CTRL_ENABLE, 1), (R.HST_SCRUB_PTR_SLOT, 65535)] with hst := { z.hst with rings := [(1023, { ringReset with source := 0x2000 })] } }, 0, 65535, 65472, by decide +kernel, by decide +kernel, by decide +kernel, by decide +kernel, by decide +kernel, by decide +kernel, by decide +kernel⟩

theorem test_HistoryCommands_12 : ∃ (s : State) (o : Nat) (b : Nat), s.gated 5 = false ∧ s.mix.odlyFail.contains (o, b) = false :=
  ⟨go [], 639, 4, by decide +kernel, by decide +kernel⟩

theorem test_HistoryCommands_13 : ∃ (s : State) (o : Nat) (n : Nat) (x : Install), s.gated 5 = false ∧ s.mix.installs = [x] ∧ x.output = o ∧ x.f = none :=
  ⟨{ go [] with mix := { z.mix with installs := [⟨639, 1, none, false⟩] } }, 639, 0, ⟨639, 1, none, false⟩, by decide +kernel, by decide +kernel, by decide +kernel, by decide +kernel⟩

theorem test_HistoryCommands_14 : ∃ (s : State) (f : IdentFrame) (d : Ident), s.rd R.SUP_STATUS_STAGE = 0 ∧ s.mix.idents.find? (fun p => p.1 = f.slot.val) = some (f.slot.val, d) ∧ d.accepts f = true :=
  ⟨{ go [] with mix := { z.mix with idents := [(63, ⟨1, 2, 3, [4], 5, 6, [7], 8, 9, none⟩)] } }, ⟨63, -5000, [(4, 6)], false⟩, ⟨1, 2, 3, [4], 5, 6, [7], 8, 9, none⟩, by decide +kernel, by decide +kernel, by decide +kernel⟩

theorem test_PortEvents_1 : ∃ (s : State) (p : Fin 16) (len : Nat) (w : List (Bool × Bool)) (up : Nat) (down : Nat) (n : Nat), s.gated 6 = false ∧ s.on (R.TDM_CFG_EN p.val) = true ∧ let line (bits : Nat) : Nat := max bits ((s.rd (R.TDM_CFG_SLOTS_M1 p.val) + 1) * (max 7 (s.rd (R.TDM_CFG_WIDTH_M1 p.val)) + 1)); s.on (R.TDM_CFG_MASTER p.val) = false :=
  ⟨go [(R.TDM_CFG_EN 15, 1), (R.TDM_CFG_SLOTS_M1 15, 31)], 15, 0, [], 0, 0, 0, by (try dsimp only) <;> decide +kernel, by (try dsimp only) <;> decide +kernel, by (try dsimp only) <;> decide +kernel⟩

theorem test_PortEvents_2 : ∃ (s : State) (p : Fin 16) (len : Nat) (w : List (Bool × Bool)) (up : Nat) (down : Nat) (n : Nat), s.gated 6 = false ∧ s.on (R.TDM_CFG_EN p.val) = true ∧ let line (bits : Nat) : Nat := max bits ((s.rd (R.TDM_CFG_SLOTS_M1 p.val) + 1) * (max 7 (s.rd (R.TDM_CFG_WIDTH_M1 p.val)) + 1)); s.on (R.TDM_CFG_MASTER p.val) = true ∧ s.clkLost 4 = false :=
  ⟨go [(R.TDM_CFG_EN 15, 1), (R.TDM_CFG_SLOTS_M1 15, 31), (R.TDM_CFG_MASTER 15, 1)], 15, 0, [], 0, 0, 0, by (try dsimp only) <;> decide +kernel, by (try dsimp only) <;> decide +kernel, by (try dsimp only) <;> decide +kernel, by (try dsimp only) <;> decide +kernel⟩

theorem test_PortEvents_3 : ∃ (s : State) (i : Fin 4) (z : Bool) (a : Subframe) (b : Subframe) (fs : Nat) (n : Nat), s.gated 7 = false ∧ s.on (R.AES_ICFG_EN i.val) = true ∧ a.preamble = true ∧ a.biphase = false ∧ a.parity = false ∧ b.preamble = true ∧ b.biphase = false ∧ b.parity = false :=
  ⟨go [(R.AES_ICFG_EN 3, 1)], 3, false, ⟨true, false, false, 0xFFFFFF, false, false⟩, ⟨true, false, false, 0x800000, false, false⟩, 0, 0, by decide +kernel, by decide +kernel, by decide +kernel, by decide +kernel, by decide +kernel, by decide +kernel, by decide +kernel, by decide +kernel⟩

theorem test_PortEvents_4 : ∃ (s : State) (aes : Bool) (port : Fin 16) (x : Nat) (y : Nat) (c : Nat) (ws : List (Nat × Nat)), s.gated 8 = false ∧ c < 32 ∧ s.ascFed c aes port.val = true ∧ (s.feed aes port.val).windows = (x, y) :: ws ∧ x < y ∧ 7800 * (y - x) ≤ 512000000000 ∧ 512000000000 ≤ 196000 * (y - x) ∧ (s.ascSt c).rho = none :=
  ⟨{ go [(R.ASC_CFG_EN 31, 1), (R.ASC_CFG_KIND 31, 0), (R.ASC_CFG_PORT 31, 15)] with tdm := [(15, { tdmReset with feed := ⟨none, 0, [(5, 10666671)], none, []⟩ })] }, false, 15, 5, 10666671, 31, [], by decide +kernel, by decide +kernel, by decide +kernel, by decide +kernel, by decide +kernel, by decide +kernel, by decide +kernel, by decide +kernel⟩

theorem test_PortEvents_5 : ∃ (s : State) (aes : Bool) (port : Fin 16) (c : Nat) (n : Nat), s.gated 8 = false ∧ c < 32 ∧ s.ascFed c aes port.val = true ∧ s.on (R.ASC_STATUS_LOCKED c) = true ∧ (∀ k, (s.feed aes port.val).seen = some k → k + us 1000 ≤ (s.atRaw n).now) :=
  ⟨go [(R.ASC_CFG_EN 31, 1), (R.ASC_CFG_KIND 31, 1), (R.ASC_CFG_PORT 31, 6), (R.ASC_STATUS_LOCKED 31, 1)], true, 2, 31, 1000, by decide +kernel, by decide +kernel, by decide +kernel, by decide +kernel, (fun k h => nomatch (show (none : Option Nat) = some k from h))⟩

theorem test_PortEvents_6 : ∃ (s : State) (m : Fin 4) (a : BitVec 18) (b : BitVec 18), s.gated 9 = false ∧ s.on (R.MIC_STATUS_GAIN_PEND m.val) = true ∧ ((a.toInt < 0 ∧ 0 ≤ b.toInt) ∨ (0 ≤ a.toInt ∧ b.toInt < 0)) :=
  ⟨go [(R.MIC_STATUS_GAIN_PEND 3, 1), (R.MIC_CFG_GAIN 3, 9)], 3, -1, 0, by decide +kernel, by decide +kernel, by decide +kernel⟩

theorem test_PortEvents_7 : ∃ (s : State) (m : Fin 4) (a : BitVec 18) (b : BitVec 18), s.gated 9 = false ∧ s.on (R.MIC_STATUS_GAIN_PEND m.val) = true ∧ (a.toInt < 0 ↔ b.toInt < 0) :=
  ⟨go [(R.MIC_STATUS_GAIN_PEND 3, 1), (R.MIC_CFG_GAIN 3, 9)], 3, 5, 0, by decide +kernel, by decide +kernel, by decide +kernel⟩

theorem test_PortEvents_8 : ∃ (s : State) (m : Fin 4) (n : Nat), s.gated 9 = false ∧ s.on (R.MIC_STATUS_GAIN_PEND m.val) = true ∧ (s.micSt m.val).gainAt + ms (min 64 (max 1 (s.rd (R.MIC_DET_CFG_ZC_TO m.val)))) ≤ (s.atRaw n).tm.raw :=
  ⟨go [(R.MIC_STATUS_GAIN_PEND 3, 1), (R.MIC_CFG_GAIN 3, 9)], 3, 500000000, by decide +kernel, by decide +kernel, by decide +kernel⟩

theorem test_PortEvents_9 : ∃ (s : State) (m : Fin 4) (c0 : BitVec 12) (c1 : BitVec 12) (c2 : BitVec 12) (c3 : BitVec 12) (n : Nat), s.gated 9 = false ∧ s.on (R.MIC_CFG_DET_EN m.val) = true ∧ s.on (R.MIC_CFG_BIAS_EN m.val) = true :=
  ⟨go [(R.MIC_CFG_DET_EN 3, 1), (R.MIC_CFG_BIAS_EN 3, 1)], 3, 250, 250, 250, 249, 0, by decide +kernel, by decide +kernel, by decide +kernel⟩

theorem test_PortEvents_10 : ∃ (s : State) (m : Fin 4) (n : Nat) (r : Nat), s.gated 9 = false ∧ s.detects m.val = true ∧ (s.micSt m.val).bandAt = some r ∧ r + ms 200 ≤ (s.atRaw n).tm.raw ∧ s.rd (R.MIC_STATUS_CLASS m.val) = 0 ∧ (s.rd (R.MIC_STATUS_BAND m.val) = 4 ∨ s.rd (R.MIC_STATUS_BAND m.val) = 2) :=
  ⟨{ go [(R.MIC_CFG_DET_EN 3, 1), (R.MIC_CFG_BIAS_EN 3, 1), (R.MIC_STATUS_BAND 3, 4), (R.MIC_STATUS_FAULT 3, 0)] with mics := [(3, { micReset with bandAt := some 7 })] }, 3, 100000007, 7, by decide +kernel, by decide +kernel, by decide +kernel, by decide +kernel, by decide +kernel, by decide +kernel⟩

theorem test_PortEvents_11 : ∃ (s : State) (m : Fin 4) (n : Nat) (r : Nat), s.gated 9 = false ∧ s.detects m.val = true ∧ (s.micSt m.val).bandAt = some r ∧ r + ms 100 ≤ (s.atRaw n).tm.raw ∧ s.rd (R.MIC_STATUS_CLASS m.val) ≠ 0 ∧ s.rd (R.MIC_STATUS_BAND m.val) = 0 ∧ s.on (R.MIC_STATUS_FAULT m.val) = false :=
  ⟨{ go [(R.MIC_CFG_DET_EN 3, 1), (R.MIC_CFG_BIAS_EN 3, 1), (R.MIC_STATUS_BAND 3, 0), (R.MIC_STATUS_CLASS 3, 1)] with mics := [(3, { micReset with bandAt := some 7 })] }, 3, 50000007, 7, by decide +kernel, by decide +kernel, by decide +kernel, by decide +kernel, by decide +kernel, by decide +kernel, by decide +kernel⟩

theorem test_PortEvents_12 : ∃ (s : State) (m : Fin 4) (n : Nat) (r : Nat), s.gated 9 = false ∧ s.detects m.val = true ∧ (s.micSt m.val).bandAt = some r ∧ r + ms (max 1 (s.rd (R.MIC_DET_CFG_PTT_DB m.val))) ≤ (s.atRaw n).tm.raw ∧ s.rd (R.MIC_STATUS_CLASS m.val) ≠ 0 ∧ s.rd (R.MIC_STATUS_BAND m.val) = (if s.rd (R.MIC_STATUS_CLASS m.val) = 1 then 3 else 1) ∧ s.on (R.MIC_STATUS_PTT m.val) = false :=
  ⟨{ go [(R.MIC_CFG_DET_EN 3, 1), (R.MIC_CFG_BIAS_EN 3, 1), (R.MIC_STATUS_BAND 3, 1), (R.MIC_STATUS_CLASS 3, 2)] with mics := [(3, { micReset with bandAt := some 7 })] }, 3, 100000007, 7, by decide +kernel, by decide +kernel, by decide +kernel, by decide +kernel, by decide +kernel, by decide +kernel, by decide +kernel⟩

theorem test_PortEvents_13 : ∃ (s : State) (m : Fin 4) (n : Nat) (r : Nat), s.gated 9 = false ∧ s.on (R.MIC_STATUS_PTT m.val) = true ∧ (s.micSt m.val).outAt = some r ∧ r + ms (max 1 (s.rd (R.MIC_DET_CFG_REL_DB m.val))) ≤ (s.atRaw n).tm.raw :=
  ⟨{ go [(R.MIC_STATUS_PTT 3, 1)] with mics := [(3, { micReset with outAt := some 7 })] }, 3, 100000007, 7, by decide +kernel, by decide +kernel, by decide +kernel, by decide +kernel⟩

theorem test_PowerEvents_1 : ∃ (s : State) (c : Fin 24) (bus : BitVec 14) (n : Nat) (b : Nat), s.gated 10 = false ∧ s.on (R.PWS_STATUS_SWITCHING c.val) = true ∧ (s.atRaw n).periodStart c.val = some b :=
  ⟨{ go [(R.PWS_STATUS_SWITCHING 23, 1)] with ps := [(23, { psReset with tripped := true, consec := 6 })] }, 23, -8192, 250000005, 250000005 * 4294967296, by decide +kernel, by decide +kernel, by decide +kernel⟩

theorem test_PowerEvents_2 : ∃ (s : State) (c : Fin 24) (n : Nat), s.gated 10 = false ∧ s.on (R.PWS_STATUS_SWITCHING c.val) = true ∧ (s.psSt c.val).tripped = false ∧ s.tly.line = none ∧ s.on (R.PWS_CFG_FB_EN c.val) = false ∧ (s.psSt c.val).consec < 7 :=
  ⟨{ go [(R.PWS_STATUS_SWITCHING 23, 1)] with ps := [(23, { psReset with consec := 6 })] }, 23, 250000005, by decide +kernel, by decide +kernel, by decide +kernel, by decide +kernel, by decide +kernel, by decide +kernel⟩

theorem test_PowerEvents_3 : ∃ (s : State) (c : Fin 24) (n : Nat), s.gated 10 = false ∧ s.on (R.PWS_STATUS_SWITCHING c.val) = true ∧ (s.psSt c.val).tripped = false ∧ s.tly.line = none ∧ s.on (R.PWS_CFG_FB_EN c.val) = false ∧ (s.psSt c.val).consec = 7 ∧ s.psState c.val = stRunning ∧ (s.psSt c.val).rampAt = none :=
  ⟨{ go [(R.PWS_STATUS_SWITCHING 23, 1), (R.PWS_STATUS_STATE 23, 2)] with ps := [(23, { psReset with consec := 7 })] }, 23, 250000005, by decide +kernel, by decide +kernel, by decide +kernel, by decide +kernel, by decide +kernel, by decide +kernel, by decide +kernel, by decide +kernel⟩

theorem test_PowerEvents_4 : ∃ (s : State) (c : Fin 24) (n : Nat), s.gated 10 = false ∧ s.psState c.val = stWait ∧ (s.psSt c.val).stopAt + ms 500 ≤ (s.atRaw n).tm.raw ∧ s.mayRun c.val = true :=
  ⟨{ go [(R.PWS_STATUS_STATE 23, 4), (R.PWS_CTRL_ENABLE, 1), (R.PWS_CFG_EN 23, 1)] with ps := [(23, { psReset with stopAt := 5 })] }, 23, 250000005, by decide +kernel, by decide +kernel, by decide +kernel, by decide +kernel⟩

theorem test_PowerEvents_5 : ∃ (s : State) (c : Fin 24) (z : SenseSum) (n : Nat), s.gated 10 = false ∧ s.psState c.val = stProbe ∧ (s.psSt c.val).startAt + ms 100 ≤ (s.atRaw n).tm.raw ∧ s.zSound c.val z = true ∧ (s.psSt c.val).probeTrip = false :=
  ⟨go [(R.PWS_STATUS_STATE 23, 5)], 23, ⟨30000, 0, 1, 0⟩, 250000005, by decide +kernel, by decide +kernel, by decide +kernel, by decide +kernel, by decide +kernel⟩

theorem test_PowerEvents_6 : ∃ (s : State) (c : Fin 24) (z : SenseSum) (n : Nat), s.gated 10 = false ∧ s.psState c.val = stProbe ∧ (s.psSt c.val).startAt + ms 100 ≤ (s.atRaw n).tm.raw ∧ s.zSound c.val z = false ∧ (s.psSt c.val).fails = [] :=
  ⟨go [(R.PWS_STATUS_STATE 23, 5)], 23, ⟨0, 0, 30000, 0⟩, 250000005, by decide +kernel, by decide +kernel, by decide +kernel, by decide +kernel, by decide +kernel⟩

theorem test_PowerEvents_7 : ∃ (s : State) (c : Fin 24) (n : Nat), s.gated 10 = false ∧ s.psState c.val = stRestart ∧ s.on (R.PWS_STATUS_FB_ACTIVE c.val) = false ∧ (s.psSt c.val).doneAt + ms 204 ≤ (s.atRaw n).tm.raw :=
  ⟨go [(R.PWS_STATUS_STATE 23, 6)], 23, 250000005, by decide +kernel, by decide +kernel, by decide +kernel, by decide +kernel⟩

theorem test_PowerEvents_8 : ∃ (s : State) (c : Fin 24) (n : Nat) (r : Nat), s.gated 10 = false ∧ s.on (R.PWS_STATUS_FB_ACTIVE c.val) = true ∧ s.psState c.val = stRunning ∧ (s.psSt c.val).stopped = false ∧ (s.psSt c.val).tripAt = some r ∧ r + ms 500 ≤ (s.atRaw n).tm.raw :=
  ⟨{ go [(R.PWS_STATUS_STATE 23, 2), (R.PWS_STATUS_FB_ACTIVE 23, 1), (R.PWS_CFG_FB 23, 22)] with ps := [(23, { psReset with tripAt := some 5 })] }, 23, 250000005, 5, by decide +kernel, by decide +kernel, by decide +kernel, by decide +kernel, by decide +kernel, by decide +kernel⟩

theorem test_PowerEvents_9 : ∃ (s : State) (c : Fin 24) (v : Int) (n : Nat), s.gated 10 = false ∧ s.on (R.PWS_STATUS_SWITCHING c.val) = true ∧ (s.psSt c.val).startAt + ms 100 ≤ (s.atRaw n).tm.raw ∧ (s.psSt c.val).dcAt + ms 10 ≤ (s.atRaw n).tm.raw ∧ let mv : Int := v * s.rd (R.PWS_CAL_V_CAL c.val); let mean : Nat := unsignedOf 16 (satBits 16 (rheDiv mv 24576000)); 2000 * 256 * 9600 < mv.natAbs ∧ s.tly.line = none ∧ s.on (R.PWS_CFG_FB_EN c.val) = false :=
  ⟨go [(R.PWS_STATUS_SWITCHING 23, 1)], 23, -3000000, 250000005, by (try dsimp only) <;> decide +kernel, by (try dsimp only) <;> decide +kernel, by (try dsimp only) <;> decide +kernel, by (try dsimp only) <;> decide +kernel, by (try dsimp only) <;> decide +kernel, by (try dsimp only) <;> decide +kernel, by (try dsimp only) <;> decide +kernel⟩

theorem test_PowerEvents_10 : ∃ (s : State) (c : Fin 24) (v : Int) (n : Nat), s.gated 10 = false ∧ s.on (R.PWS_STATUS_SWITCHING c.val) = true ∧ (s.psSt c.val).startAt + ms 100 ≤ (s.atRaw n).tm.raw ∧ (s.psSt c.val).dcAt + ms 10 ≤ (s.atRaw n).tm.raw ∧ let mv : Int := v * s.rd (R.PWS_CAL_V_CAL c.val); let mean : Nat := unsignedOf 16 (satBits 16 (rheDiv mv 24576000)); mv.natAbs ≤ 2000 * 256 * 9600 :=
  ⟨go [(R.PWS_STATUS_SWITCHING 23, 1)], 23, 100, 250000005, by (try dsimp only) <;> decide +kernel, by (try dsimp only) <;> decide +kernel, by (try dsimp only) <;> decide +kernel, by (try dsimp only) <;> decide +kernel, by (try dsimp only) <;> decide +kernel⟩

theorem test_PowerEvents_11 : ∃ (s : State) (c : Fin 24) (v : List (BitVec 14)) (n : Nat), s.gated 10 = false ∧ s.rd (R.PWS_CFG_ROLE c.val) = 2 ∧ s.psState c.val = stStandby ∧ (s.psSt c.val).winAt + ms 2 ≤ (s.atRaw n).tm.raw ∧ (s.atRaw n).lossHeld (c.val - 1) = false ∧ (∀ p ∈ s.tly.sensAt, p.1 ≠ c.val) ∧ let e : Nat × Nat := windowVolts (s.psSt (c.val - 1)) (s.psSt c.val).winAt; let sensed : Nat := 16 * windowSense v * s.rd (R.PWS_CAL_V_CAL c.val) ^ 2 * e.2; e.2 ≠ 0 ∧ e.2 * (256 * s.rd (R.PWS_LOOP_VMIN c.val)) ^ 2 ≤ e.1 ∧ e.1 * v.length ≤ sensed :=
  ⟨{ go [(R.PWS_STATUS_STATE 23, 8), (R.PWS_CFG_ROLE 23, 2), (R.PWS_STATUS_STATE 22, 2), (R.PWS_LOOP_VMIN 23, 0), (R.PWS_CAL_V_CAL 23, 0)] with ps := [(22, { psReset with volts := [(500, 100)] }), (23, { psReset with losses := 1 })] }, 23, [], 250000005, by (try dsimp only) <;> decide +kernel, by (try dsimp only) <;> decide +kernel, by (try dsimp only) <;> decide +kernel, by (try dsimp only) <;> decide +kernel, by (try dsimp only) <;> decide +kernel, by (try dsimp only) <;> decide +kernel, (by show (windowVolts _ _).2 ≠ 0; rw [volts_one] <;> decide +kernel), (by show (windowVolts _ _).2 * _ ≤ (windowVolts _ _).1; rw [volts_one] <;> decide +kernel), (by show _ * 0 ≤ _; simp)⟩

theorem test_PowerEvents_12 : ∃ (s : State) (c : Fin 24) (v : List (BitVec 14)) (n : Nat), s.gated 10 = false ∧ s.rd (R.PWS_CFG_ROLE c.val) = 2 ∧ s.psState c.val = stStandby ∧ (s.psSt c.val).winAt + ms 2 ≤ (s.atRaw n).tm.raw ∧ (s.atRaw n).lossHeld (c.val - 1) = false ∧ (∀ p ∈ s.tly.sensAt, p.1 ≠ c.val) ∧ let e : Nat × Nat := windowVolts (s.psSt (c.val - 1)) (s.psSt c.val).winAt; let sensed : Nat := 16 * windowSense v * s.rd (R.PWS_CAL_V_CAL c.val) ^ 2 * e.2; e.2 ≠ 0 ∧ e.2 * (256 * s.rd (R.PWS_LOOP_VMIN c.val)) ^ 2 ≤ e.1 ∧ sensed < e.1 * v.length ∧ (s.psSt c.val).losses < 2 :=
  ⟨{ go [(R.PWS_STATUS_STATE 23, 8), (R.PWS_CFG_ROLE 23, 2), (R.PWS_STATUS_STATE 22, 2), (R.PWS_LOOP_VMIN 23, 0), (R.PWS_CAL_V_CAL 23, 0)] with ps := [(22, { psReset with volts := [(500, 100)] }), (23, { psReset with losses := 1 })] }, 23, List.replicate 192 5, 250000005, by (try dsimp only) <;> decide +kernel, by (try dsimp only) <;> decide +kernel, by (try dsimp only) <;> decide +kernel, by (try dsimp only) <;> decide +kernel, by (try dsimp only) <;> decide +kernel, by (try dsimp only) <;> decide +kernel, (by show (windowVolts _ _).2 ≠ 0; rw [volts_one] <;> decide +kernel), (by show (windowVolts _ _).2 * _ ≤ (windowVolts _ _).1; rw [volts_one] <;> decide +kernel), (by show 16 * _ * _ ^ 2 * (windowVolts _ _).2 < (windowVolts _ _).1 * _; rw [volts_one] <;> first | exact sensed_zero (by decide +kernel) (by decide +kernel) | decide +kernel), by (try dsimp only) <;> decide +kernel⟩

theorem test_PowerEvents_13 : ∃ (s : State) (c : Fin 24) (v : List (BitVec 14)) (n : Nat), s.gated 10 = false ∧ s.rd (R.PWS_CFG_ROLE c.val) = 2 ∧ s.psState c.val = stStandby ∧ (s.psSt c.val).winAt + ms 2 ≤ (s.atRaw n).tm.raw ∧ (s.atRaw n).lossHeld (c.val - 1) = false ∧ (∀ p ∈ s.tly.sensAt, p.1 ≠ c.val) ∧ let e : Nat × Nat := windowVolts (s.psSt (c.val - 1)) (s.psSt c.val).winAt; let sensed : Nat := 16 * windowSense v * s.rd (R.PWS_CAL_V_CAL c.val) ^ 2 * e.2; e.2 ≠ 0 ∧ e.2 * (256 * s.rd (R.PWS_LOOP_VMIN c.val)) ^ 2 ≤ e.1 ∧ sensed < e.1 * v.length ∧ (s.psSt c.val).losses = 2 ∧ s.mayRun c.val = true ∧ s.on (R.PWS_FAULT_LATCH c.val) = false ∧ s.on (R.PWS_FAULT_DC c.val) = false ∧ s.tly.line = none :=
  ⟨{ go [(R.PWS_STATUS_STATE 23, 8), (R.PWS_CFG_ROLE 23, 2), (R.PWS_STATUS_STATE 22, 2), (R.PWS_LOOP_VMIN 23, 0), (R.PWS_CAL_V_CAL 23, 0), (R.PWS_CTRL_ENABLE, 1), (R.PWS_CFG_EN 23, 1)] with ps := [(22, { psReset with volts := [(500, 100)] }), (23, { psReset with losses := 2 })] }, 23, List.replicate 192 5, 250000005, by (try dsimp only) <;> decide +kernel, by (try dsimp only) <;> decide +kernel, by (try dsimp only) <;> decide +kernel, by (try dsimp only) <;> decide +kernel, by (try dsimp only) <;> decide +kernel, by (try dsimp only) <;> decide +kernel, (by show (windowVolts _ _).2 ≠ 0; rw [volts_one] <;> decide +kernel), (by show (windowVolts _ _).2 * _ ≤ (windowVolts _ _).1; rw [volts_one] <;> decide +kernel), (by show 16 * _ * _ ^ 2 * (windowVolts _ _).2 < (windowVolts _ _).1 * _; rw [volts_one] <;> first | exact sensed_zero (by decide +kernel) (by decide +kernel) | decide +kernel), by (try dsimp only) <;> decide +kernel, by (try dsimp only) <;> decide +kernel, by (try dsimp only) <;> decide +kernel, by (try dsimp only) <;> decide +kernel, by (try dsimp only) <;> decide +kernel⟩

theorem test_PowerEvents_14 : ∃ (s : State) (c : Fin 24) (n : Nat), s.gated 10 = false ∧ s.psState c.val = stStarting ∧ s.startEnd c.val ≤ (s.atRaw n).tm.raw :=
  ⟨go [(R.PWS_STATUS_STATE 23, 1)], 23, 250000005, by decide +kernel, by decide +kernel, by decide +kernel⟩

theorem test_PowerEvents_15 : ∃ (s : State) (c : Fin 24) (n : Nat), s.gated 10 = false ∧ s.psState c.val = stStopping ∧ s.standsBy = false ∧ s.rd (R.PWS_CFG_ROLE c.val) ≠ 2 ∧ s.haltEnd c.val ≤ (s.atRaw n).tm.raw ∧ (s.psSt c.val).again = false ∧ s.on (R.PWS_FAULT_LATCH c.val) = false ∧ s.on (R.PWS_FAULT_DC c.val) = false :=
  ⟨go [(R.PWS_STATUS_STATE 23, 3), (R.PWS_STATUS_SWITCHING 23, 1)], 23, 250000005, by decide +kernel, by decide +kernel, by decide +kernel, by decide +kernel, by decide +kernel, by decide +kernel, by decide +kernel, by decide +kernel⟩

theorem test_PowerEvents_16 : ∃ (s : State) (c : Fin 24) (n : Nat), s.gated 10 = false ∧ s.on (R.PWS_FAULT_SHORT c.val) = true ∧ s.psState c.val = stLatched ∧ s.on (R.PWS_STATUS_FB_ACTIVE c.val) = false ∧ s.on (R.PWS_FAULT_DC c.val) = false ∧ s.mayRun c.val = true ∧ s.tly.line = none :=
  ⟨go [(R.PWS_STATUS_STATE 23, 7), (R.PWS_FAULT_SHORT 23, 1), (R.PWS_FAULT_LATCH 23, 1), (R.PWS_CTRL_ENABLE, 1), (R.PWS_CFG_EN 23, 1)], 23, 250000005, by decide +kernel, by decide +kernel, by decide +kernel, by decide +kernel, by decide +kernel, by decide +kernel, by decide +kernel⟩

theorem test_PowerEvents_17 : ∃ (s : State) (c : Fin 24) (n : Nat), s.gated 10 = false ∧ s.on (R.PWS_FAULT_DC c.val) = true ∧ s.psState c.val = stStoppedDc ∧ s.on (R.PWS_STATUS_FB_ACTIVE c.val) = false ∧ s.on (R.PWS_FAULT_LATCH c.val) = false ∧ s.mayRun c.val = true ∧ s.tly.line = none :=
  ⟨go [(R.PWS_STATUS_STATE 23, 9), (R.PWS_FAULT_DC 23, 1), (R.PWS_CTRL_ENABLE, 1), (R.PWS_CFG_EN 23, 1)], 23, 250000005, by decide +kernel, by decide +kernel, by decide +kernel, by decide +kernel, by decide +kernel, by decide +kernel, by decide +kernel⟩

theorem test_PowerEvents_18 : ∃ (s : State) (c : Fin 24) (n : Nat), s.gated 10 = false ∧ s.on (R.PWS_FAULT_OPEN c.val) = true ∧ s.on (R.PWS_STATUS_LOOP_DRIVE c.val) = true ∧ s.on (R.PWS_STATUS_SWITCHING c.val) = true ∧ s.psState c.val ≠ stStopping ∧ s.tly.line = none :=
  ⟨go [(R.PWS_STATUS_STATE 23, 2), (R.PWS_FAULT_OPEN 23, 1), (R.PWS_STATUS_LOOP_DRIVE 23, 1), (R.PWS_STATUS_SWITCHING 23, 1)], 23, 250000005, by decide +kernel, by decide +kernel, by decide +kernel, by decide +kernel, by decide +kernel, by decide +kernel⟩

theorem test_LineTests_1 : ∃ (s : State) (n : Nat), s.gated 19 = false ∧ (s.atRaw n).tallyOn = true ∧ s.on R.TLY_CTRL_LINE_EN = true ∧ s.locked = true ∧ (s.atRaw n).inWindow = true ∧ s.standsBy = false ∧ s.on R.TLY_STATUS_IN_WINDOW = false :=
  ⟨go [(R.TLY_CTRL_ENABLE, 1), (R.TLY_CTRL_LINE_EN, 1), (R.TSU_STATUS_FIRST, 1), (R.TLY_WIN_START, 0), (R.TLY_LINE_SEL_VALUE, 5)], 0, by decide +kernel, by decide +kernel, by decide +kernel, by decide +kernel, by decide +kernel, by decide +kernel, by decide +kernel⟩

theorem test_LineTests_2 : ∃ (s : State) (n : Nat), s.gated 19 = false ∧ s.on R.TLY_STATUS_IN_WINDOW = true ∧ (s.atRaw n).inWindow = false ∧ s.tly.line = none :=
  ⟨go [(R.TLY_STATUS_IN_WINDOW, 1), (R.TLY_WIN_START, 7200)], 0, by decide +kernel, by decide +kernel, by decide +kernel, by decide +kernel⟩

theorem test_LineTests_3 : ∃ (s : State) (n : Nat), s.gated 19 = false ∧ s.on R.TLY_STATUS_IN_WINDOW = true ∧ (s.atRaw n).inWindow = false ∧ ∃ (l : LineTest), s.tly.line = some l ∧ l.ch < 24 ∧ l.once = false ∧ l.ended = none :=
  ⟨{ go [(R.TLY_STATUS_IN_WINDOW, 1), (R.TLY_WIN_START, 7200)] with tly := { z.tly with line := some ⟨23, 0, true, none, false⟩ } }, 0, by decide +kernel, by decide +kernel, by decide +kernel, ⟨23, 0, true, none, false⟩, by decide +kernel, by decide +kernel, by decide +kernel, by decide +kernel⟩

theorem test_LineTests_4 : ∃ (s : State) (n : Nat) (c : Nat) (rest : List Nat), s.gated 19 = false ∧ s.tallyOn = true ∧ s.lineBusy = false ∧ s.standsBy = false ∧ s.tly.slotFree ≤ (s.atRaw n).tm.raw ∧ s.tly.onceTodo = [] ∧ s.on R.TLY_STATUS_IN_WINDOW = true ∧ s.tly.todo = c :: rest ∧ c < 24 ∧ s.lineSkips c = true :=
  ⟨{ go [(R.TLY_CTRL_ENABLE, 1), (R.TLY_STATUS_IN_WINDOW, 1)] with tly := { z.tly with todo := [23, 2] } }, 0, 23, [2], by decide +kernel, by decide +kernel, by decide +kernel, by decide +kernel, by decide +kernel, by decide +kernel, by decide +kernel, by decide +kernel, by decide +kernel, by decide +kernel⟩

theorem test_LineTests_5 : ∃ (s : State) (n : Nat) (c : Nat) (rest : List Nat), s.gated 19 = false ∧ s.tallyOn = true ∧ s.lineBusy = false ∧ s.standsBy = false ∧ s.tly.slotFree ≤ (s.atRaw n).tm.raw ∧ s.tly.onceTodo = [] ∧ s.on R.TLY_STATUS_IN_WINDOW = true ∧ s.tly.todo = c :: rest ∧ c < 24 ∧ s.lineSkips c = false ∧ (s.psState c = stOff → s.mayRun c = true) :=
  ⟨{ go [(R.TLY_CTRL_ENABLE, 1), (R.TLY_STATUS_IN_WINDOW, 1), (R.PWS_CFG_EN 23, 1), (R.PWS_CTRL_ENABLE, 1)] with tly := { z.tly with todo := [23, 2] } }, 0, 23, [2], by decide +kernel, by decide +kernel, by decide +kernel, by decide +kernel, by decide +kernel, by decide +kernel, by decide +kernel, by decide +kernel, by decide +kernel, by decide +kernel, (by intro h; decide +kernel)⟩

theorem test_LineTests_6 : ∃ (s : State) (n : Nat) (c : Nat) (r : Nat), s.gated 19 = false ∧ s.tallyOn = true ∧ s.on R.TLY_STATUS_IN_WINDOW = true ∧ s.tly.retries = [(c, r)] ∧ r ≤ (s.atRaw n).tm.raw ∧ c < 24 ∧ s.lineBusy = true :=
  ⟨{ go [(R.TLY_CTRL_ENABLE, 1), (R.TLY_STATUS_IN_WINDOW, 1)] with tly := { z.tly with retries := [(23, 7)], line := some ⟨2, 0, true, none, false⟩ } }, 7, 23, 7, by decide +kernel, by decide +kernel, by decide +kernel, by decide +kernel, by decide +kernel, by decide +kernel, by decide +kernel⟩

theorem test_LineTests_7 : ∃ (s : State) (n : Nat) (c : Nat) (r : Nat), s.gated 19 = false ∧ s.tallyOn = true ∧ s.on R.TLY_STATUS_IN_WINDOW = true ∧ s.tly.retries = [(c, r)] ∧ r ≤ (s.atRaw n).tm.raw ∧ c < 24 ∧ s.lineBusy = false ∧ s.tly.slotFree ≤ (s.atRaw n).tm.raw ∧ s.lineSkips c = false ∧ s.psState c ≠ stOff :=
  ⟨{ go [(R.TLY_CTRL_ENABLE, 1), (R.TLY_STATUS_IN_WINDOW, 1), (R.PWS_CFG_EN 23, 1), (R.PWS_STATUS_STATE 23, 2)] with tly := { z.tly with retries := [(23, 7)] } }, 7, 23, 7, by decide +kernel, by decide +kernel, by decide +kernel, by decide +kernel, by decide +kernel, by decide +kernel, by decide +kernel, by decide +kernel, by decide +kernel, by decide +kernel⟩

theorem test_LineTests_8 : ∃ (s : State) (n : Nat) (l : LineTest), s.gated 19 = false ∧ s.tly.line = some l ∧ l.ended = none ∧ l.slotAt + ms 110 ≤ (s.atRaw n).tm.raw :=
  ⟨{ go [] with tly := { z.tly with line := some ⟨23, 5, false, none, false⟩ } }, 55000005, ⟨23, 5, false, none, false⟩, by decide +kernel, by decide +kernel, by decide +kernel, by decide +kernel⟩

theorem test_LineTests_9 : ∃ (s : State) (v : SenseSum) (farRe : Int) (farIm : Int) (n : Nat) (l : LineTest), s.gated 19 = false ∧ s.tly.line = some l ∧ l.corr = true ∧ l.ended = none ∧ l.ch < 24 ∧ l.slotAt + ms 4110 ≤ (s.atRaw n).tm.raw ∧ s.rd (R.PWS_CFG_ROLE l.ch) ≠ 1 :=
  ⟨{ go [(R.TLY_BASE_VALID 23, 1), (R.TLY_BASE_Z 23, 800), (R.PWS_CFG_ROLE 23, 0)] with tly := { z.tly with line := some ⟨23, 5, true, none, false⟩ } }, ⟨30000, -5000, 400, 300⟩, 0, 0, 2055000005, ⟨23, 5, true, none, false⟩, by decide +kernel, by decide +kernel, by decide +kernel, by decide +kernel, by decide +kernel, by decide +kernel, by decide +kernel⟩

theorem test_LineTests_10 : ∃ (s : State) (n : Nat) (r : Nat) (l : LineTest), s.gated 19 = false ∧ s.tly.line = some l ∧ l.ended = some r ∧ r + ms 10 ≤ (s.atRaw n).tm.raw ∧ l.ch < 24 :=
  ⟨{ go [(R.TLY_STATUS_LINE_BUSY, 1)] with tly := { z.tly with line := some ⟨23, 5, true, some 9, false⟩ } }, 5000009, 9, ⟨23, 5, true, some 9, false⟩, by decide +kernel, by decide +kernel, by decide +kernel, by decide +kernel, by decide +kernel⟩

theorem test_LineTests_11 : ∃ (s : State) (ch : Fin 24) (n : Nat) (l : LineTest), s.gated 19 = false ∧ s.tly.capture = none ∧ s.tly.line = some l ∧ l.ch = ch.val ∧ l.corr = true ∧ l.ended = none ∧ s.tooLoud ch.val = true :=
  ⟨{ go [(R.TLY_STATUS_IN_WINDOW, 1)] with tly := { z.tly with line := some ⟨23, 5, true, none, false⟩, power := [(23, List.replicate 150 1000000000000000000)] } }, 23, 0, ⟨23, 5, true, none, false⟩, by decide +kernel, by decide +kernel, by decide +kernel, by decide +kernel, by decide +kernel, by decide +kernel, by decide +kernel⟩

theorem test_LineTests_12 : ∃ (s : State) (meas : List LineMeas) (n : Nat) (c : Capture), s.gated 19 = false ∧ s.tly.capture = some c ∧ s.tly.line = none ∧ (∀ x ∈ c.chs, x < 24) ∧ c.ended = none ∧ c.startAt + ms 24110 ≤ (s.atRaw n).tm.raw :=
  ⟨{ go [] with tly := { z.tly with capture := some ⟨[23, 2], [2], 0, 5, none⟩ } }, [⟨23, ⟨30000, -5000, 400, 300⟩⟩], 12055000005, ⟨[23, 2], [2], 0, 5, none⟩, by decide +kernel, by decide +kernel, by decide +kernel, by decide +kernel, by decide +kernel, by decide +kernel⟩

theorem test_SelfTests_1 : ∃ (s : State) (n : Nat) (c : Nat), s.gated 19 = false ∧ s.tallyOn = true ∧ s.on R.TLY_DRV_FAIL = false ∧ s.tly.self = none ∧ s.tly.asked = [] ∧ s.on R.TLY_CTRL_DRV_EN = true ∧ s.tly.selfAt + ms (1000 * max 1 (s.rd R.TLY_DRV_INTERVAL)) ≤ (s.atRaw n).tm.raw ∧ s.nextCore (s.rd R.TLY_DRV_NEXT) = some c :=
  ⟨{ go [(R.TLY_CTRL_ENABLE, 1), (R.TLY_CTRL_DRV_EN, 1), (R.TLY_DRV_NEXT, 31), (R.TLY_DRV_INTERVAL, 1), (R.DRV_CTRL_RUN 31, 1), (R.DRV_CTRL_ROT 31, 1)] with cores := [] }, 500000000, 31, by decide +kernel, by decide +kernel, by decide +kernel, by decide +kernel, by decide +kernel, by decide +kernel, by decide +kernel, by decide +kernel⟩

theorem test_SelfTests_2 : ∃ (s : State) (n : Nat) (c : Nat), s.gated 19 = false ∧ s.tly.self = some ⟨c, none⟩ ∧ c < 32 ∧ (s.core c).waiting = some .take :=
  ⟨{ go [(R.DRV_STATUS_STATE 31, 2)] with tly := { z.tly with self := some ⟨31, none⟩ }, cores := [(31, { coreReset with waiting := some .take })] }, 0, 31, by decide +kernel, by decide +kernel, by decide +kernel, by decide +kernel⟩

theorem test_SelfTests_3 : ∃ (s : State) (n : Nat) (c : Nat) (r : Nat), s.gated 19 = false ∧ s.tly.self = some ⟨c, some r⟩ ∧ c < 32 ∧ (s.atRaw n).tm.raw ≤ r + ms 50 ∧ s.coreState c = 3 ∧ (s.core c).pc = Config.selfTestLast.toNat ∧ let sig : Nat := s.load (0x30000000 + c * 0x40000 + Config.selfTestWord.toNat * 4) 4; sig = Config.selfTestSig.toNat :=
  ⟨{ go [(R.DRV_STATUS_STATE 31, 3)] with tly := { z.tly with self := some ⟨31, some 5⟩ }, cores := [(31, { coreReset with pc := Config.selfTestLast.toNat })], mem := wordAt (0x30000000 + 31 * 0x40000 + Config.selfTestWord.toNat * 4) Config.selfTestSig.toNat }, 0, 31, 5, by (try dsimp only) <;> decide +kernel, by (try dsimp only) <;> decide +kernel, by (try dsimp only) <;> decide +kernel, by (try dsimp only) <;> decide +kernel, by (try dsimp only) <;> decide +kernel, (rfl), (by show State.load _ _ 4 = _; rw [load_wordAt _ _ _ Config.selfTestSig.isLt rfl])⟩

theorem test_SelfTests_4 : ∃ (s : State) (n : Nat) (c : Nat) (r : Nat), s.gated 19 = false ∧ s.tly.self = some ⟨c, some r⟩ ∧ c < 32 ∧ (s.atRaw n).tm.raw ≤ r + ms 50 ∧ s.coreState c = 3 ∧ (s.core c).pc = Config.selfTestLast.toNat ∧ let sig : Nat := s.load (0x30000000 + c * 0x40000 + Config.selfTestWord.toNat * 4) 4; sig ≠ Config.selfTestSig.toNat :=
  ⟨{ go [(R.DRV_STATUS_STATE 31, 3)] with tly := { z.tly with self := some ⟨31, some 5⟩ }, cores := [(31, { coreReset with pc := Config.selfTestLast.toNat })], mem := wordAt (0x30000000 + 31 * 0x40000 + Config.selfTestWord.toNat * 4) ((Config.selfTestSig.toNat + 1) % 2 ^ 32) }, 0, 31, 5, by (try dsimp only) <;> decide +kernel, by (try dsimp only) <;> decide +kernel, by (try dsimp only) <;> decide +kernel, by (try dsimp only) <;> decide +kernel, by (try dsimp only) <;> decide +kernel, (rfl), (by show State.load _ _ 4 ≠ _; rw [load_wordAt _ _ _ (Nat.mod_lt _ (by decide)) rfl]; have := Config.selfTestSig.isLt; omega)⟩

theorem test_SelfTests_5 : ∃ (s : State) (n : Nat) (c : Nat) (r : Nat), s.gated 19 = false ∧ s.tly.self = some ⟨c, some r⟩ ∧ c < 32 ∧ r + ms 50 ≤ (s.atRaw n).tm.raw :=
  ⟨{ go [(R.DRV_STATUS_STATE 31, 1)] with tly := { z.tly with self := some ⟨31, some 5⟩ } }, 25000005, 31, 5, by decide +kernel, by decide +kernel, by decide +kernel, by decide +kernel⟩

theorem test_SelfTests_6 : ∃ (s : State) (k : Nat) (n : Nat), s.gated 19 = false ∧ s.tly.posted = true ∧ (∀ q d, s.idleQueue = some q → d ∈ s.queue q → d.entry ≠ (sliceDesc q).entry) ∧ let left : List Nat := s.scrubList.filter (fun i => s.tly.dramCur ≤ i); k < left.length :=
  ⟨{ go [] with tly := { z.tly with posted := true }, msgs := [(5, some { state := .valid, sess := none, evac := false, total := 3, crc := 0, data := [1, 2, 3] })] }, 0, 0, by (try dsimp only) <;> decide +kernel, by (try dsimp only) <;> decide +kernel, (fun q d h => nomatch (show (none : Option Nat) = some q from by rw [← h]; decide +kernel)), by (try dsimp only) <;> decide +kernel⟩

theorem test_SelfTests_7 : ∃ (s : State) (k : Nat) (n : Nat), s.gated 19 = false ∧ s.tly.posted = true ∧ (∀ q d, s.idleQueue = some q → d ∈ s.queue q → d.entry ≠ (sliceDesc q).entry) ∧ let left : List Nat := s.scrubList.filter (fun i => s.tly.dramCur ≤ i); left.length ≤ k :=
  ⟨{ go [] with tly := { z.tly with posted := true }, msgs := [(5, some { state := .valid, sess := none, evac := false, total := 3, crc := 0, data := [1, 2, 3] })] }, 1, 0, by (try dsimp only) <;> decide +kernel, by (try dsimp only) <;> decide +kernel, (fun q d h => nomatch (show (none : Option Nat) = some q from by rw [← h]; decide +kernel)), by (try dsimp only) <;> decide +kernel⟩

theorem test_SelfTests_8 : ∃ (s : State) (n : Nat), s.gated 19 = false ∧ s.tallyOn = true ∧ s.on R.TLY_CTRL_DRAM_EN = true ∧ s.tly.dramAt + ms 86400000 ≤ (s.atRaw n).tm.raw :=
  ⟨go [(R.TLY_CTRL_ENABLE, 1), (R.TLY_CTRL_DRAM_EN, 1)], 43200000000000, by decide +kernel, by decide +kernel, by decide +kernel, by decide +kernel⟩

theorem test_SelfTests_9 : ∃ (s : State) (n : Nat), s.gated 19 = false ∧ s.tallyOn = true ∧ s.on R.TLY_CTRL_FOLD_EN = true ∧ s.on R.FLD_CTRL_EN = true ∧ s.tly.foldAt + ms 600000 ≤ (s.atRaw n).tm.raw :=
  ⟨go [(R.TLY_CTRL_ENABLE, 1), (R.TLY_CTRL_FOLD_EN, 1), (R.FLD_CTRL_EN, 1)], 300000000000, by decide +kernel, by decide +kernel, by decide +kernel, by decide +kernel, by decide +kernel⟩

theorem test_SelfTests_10 : ∃ (s : State) (e : BitVec 32), s.gated 19 = false ∧ s.tly.foldOut = true :=
  ⟨{ go [] with tly := { z.tly with foldOut := true } }, 7, by decide +kernel, by decide +kernel⟩

theorem test_SelfTests_11 : ∃ (s : State) (ch : Fin 50) (plus : Vector (BitVec 14) 4) (minus : Vector (BitVec 14) 4) (n : Nat), s.gated 11 = false ∧ s.tallyOn = true ∧ s.on R.TLY_CTRL_SNS_EN = true ∧ (∀ p ∈ s.tly.sensAt, p.1 = ch.val → p.2 + ms 3600000 ≤ (s.atRaw n).tm.raw) ∧ let ok : Bool := plus.all (fun c => decide ((c.toInt - 6143).natAbs ≤ s.rd R.TLY_SNS_TOL)) && minus.all (fun c => decide ((c.toInt + 6143).natAbs ≤ s.rd R.TLY_SNS_TOL)); ok = true :=
  ⟨go [(R.TLY_CTRL_ENABLE, 1), (R.TLY_CTRL_SNS_EN, 1), (R.TLY_SNS_TOL, 8)], 49, ⟨#[6151, 6143, 6135, 6143], rfl⟩, ⟨#[-6151, -6143, -6135, -6143], rfl⟩, 0, by (try dsimp only) <;> decide +kernel, by (try dsimp only) <;> decide +kernel, by (try dsimp only) <;> decide +kernel, (fun p h => nomatch h), by (try dsimp only) <;> decide +kernel⟩

theorem test_SelfTests_12 : ∃ (s : State) (ch : Fin 50) (plus : Vector (BitVec 14) 4) (minus : Vector (BitVec 14) 4) (n : Nat), s.gated 11 = false ∧ s.tallyOn = true ∧ s.on R.TLY_CTRL_SNS_EN = true ∧ (∀ p ∈ s.tly.sensAt, p.1 = ch.val → p.2 + ms 3600000 ≤ (s.atRaw n).tm.raw) ∧ let ok : Bool := plus.all (fun c => decide ((c.toInt - 6143).natAbs ≤ s.rd R.TLY_SNS_TOL)) && minus.all (fun c => decide ((c.toInt + 6143).natAbs ≤ s.rd R.TLY_SNS_TOL)); ok = false :=
  ⟨go [(R.TLY_CTRL_ENABLE, 1), (R.TLY_CTRL_SNS_EN, 1), (R.TLY_SNS_TOL, 8)], 49, ⟨#[6151, 6143, 6135, 6143], rfl⟩, ⟨#[-6152, -6143, -6135, -6143], rfl⟩, 0, by (try dsimp only) <;> decide +kernel, by (try dsimp only) <;> decide +kernel, by (try dsimp only) <;> decide +kernel, (fun p h => nomatch h), by (try dsimp only) <;> decide +kernel⟩

theorem test_FramesReceived_1 : ∃ (s : State) (m : Fin 3) (bs : List Byte) (e : RxErrors) (cap : Nat) (n : Nat), s.on (R.MAC_CTRL_RX_EN m.val) = true ∧ s.gated (12 + m.val) = false ∧ fieldAt bs 12 2 ≠ some 0x8808 ∧ s.acceptsAddr m.val bs = false :=
  ⟨go [(R.MAC_CTRL_RX_EN 2, 1)], 2, [1, 2, 3, 4, 5], ⟨true, false⟩, 0, 0, by decide +kernel, by decide +kernel, by decide +kernel, by decide +kernel⟩

theorem test_FramesReceived_2 : ∃ (s : State) (m : Fin 3) (bs : List Byte) (e : RxErrors) (cap : Nat) (n : Nat), s.on (R.MAC_CTRL_RX_EN m.val) = true ∧ s.gated (12 + m.val) = false ∧ fieldAt bs 12 2 ≠ some 0x8808 ∧ s.acceptsAddr m.val bs = true ∧ s.steer m.val bs = none :=
  ⟨go [(R.MAC_CTRL_RX_EN 2, 1), (R.MAC_RX_DEFAULT_DROP 2, 1)], 2, bcast, ⟨true, false⟩, 0, 0, by decide +kernel, by decide +kernel, by decide +kernel, by decide +kernel, by decide +kernel⟩

theorem test_FramesReceived_3 : ∃ (s : State) (m : Fin 3) (bs : List Byte) (cap : Nat) (n : Nat) (q : Nat), s.on (R.MAC_CTRL_RX_EN m.val) = true ∧ s.gated (12 + m.val) = false ∧ 64 ≤ bs.length ∧ fcsGood bs = true ∧ fieldAt bs 12 2 = some 0x8808 ∧ fieldAt bs 14 2 = some 1 ∧ fieldAt bs 16 2 = some q ∧ s.on (R.MAC_CTRL_RX_PAUSE m.val) = true :=
  ⟨go [(R.MAC_CTRL_RX_EN 2, 1), (R.MAC_CTRL_RX_PAUSE 2, 1)], 2, withFcs pauseFrame, 0, 0, 1000, by decide +kernel, by decide +kernel, by decide +kernel, by decide +kernel, by decide +kernel, by decide +kernel, by decide +kernel, by decide +kernel⟩

theorem test_FramesReceived_4 : ∃ (s : State) (m : Fin 3) (bs : List Byte) (cap : Nat) (n : Nat) (r : Nat) (f : Nat), s.on (R.MAC_CTRL_RX_EN m.val) = true ∧ s.gated (12 + m.val) = false ∧ 64 ≤ bs.length ∧ fcsGood bs = true ∧ fieldAt bs 12 2 ≠ some 0x8808 ∧ s.acceptsAddr m.val bs = true ∧ s.steer m.val bs = some (r, f) ∧ s.on (R.MAC_RING_W1_EN m.val r) = false :=
  ⟨go [(R.MAC_CTRL_RX_EN 2, 1), (R.MAC_RX_DEFAULT_DROP 2, 0), (R.MAC_RX_DEFAULT_RING 2, 15)], 2, withFcs bcast, 0, 0, 15, 31, by decide +kernel, by decide +kernel, by decide +kernel, by decide +kernel, by decide +kernel, by decide +kernel, by decide +kernel, by decide +kernel⟩

theorem test_FramesReceived_5 : ∃ (s : State) (m : Fin 3) (bs : List Byte) (cap : Nat) (n : Nat) (r : Nat) (f : Nat), s.on (R.MAC_CTRL_RX_EN m.val) = true ∧ s.gated (12 + m.val) = false ∧ s.gated 3 = false ∧ 64 ≤ bs.length ∧ fcsGood bs = true ∧ bs.length ≤ s.maxlen m.val ∧ bs.length ≤ s.bufBytes m.val r ∧ fieldAt bs 12 2 ≠ some 0x8808 ∧ s.acceptsAddr m.val bs = true ∧ s.steer m.val bs = some (r, f) ∧ s.on (R.MAC_RING_W1_EN m.val r) = true ∧ s.on (R.MAC_CTRL_STRIP_FCS m.val) = false ∧ s.on (R.MAC_RING_W1_STRIP_VLAN m.val r) = false ∧ s.rd (R.MAC_RING_W3_HEAD m.val r) < s.rd (R.MAC_RING_W1_SIZE m.val r) ∧ s.rd (R.MAC_RING_W1_SIZE m.val r) ≤ 4096 ∧ let a : Nat := s.rxDesc m.val r (s.rd (R.MAC_RING_W3_HEAD m.val r)); let b : Nat := s.load a 4; 0x20500000 ≤ a ∧ a + 32 ≤ 0x20600000 ∧ 0x20500000 ≤ b ∧ b + bs.length ≤ 0x20600000 ∧ (b + bs.length ≤ a ∨ a + 32 ≤ b) ∧ bitOf (s.load (a + 4) 4) 31 = true :=
  ⟨rxs, 0, withFcs bcast, 0, 0, 0, 31, by (try dsimp only) <;> decide +kernel, by (try dsimp only) <;> decide +kernel, by (try dsimp only) <;> decide +kernel, by (try dsimp only) <;> decide +kernel, by (try dsimp only) <;> decide +kernel, by (try dsimp only) <;> decide +kernel, by (try dsimp only) <;> decide +kernel, by (try dsimp only) <;> decide +kernel, by (try dsimp only) <;> decide +kernel, by (try dsimp only) <;> decide +kernel, by (try dsimp only) <;> decide +kernel, by (try dsimp only) <;> decide +kernel, by (try dsimp only) <;> decide +kernel, by (try dsimp only) <;> decide +kernel, by (try dsimp only) <;> decide +kernel, by (try dsimp only) <;> decide +kernel, by (try dsimp only) <;> decide +kernel, by (try dsimp only) <;> decide +kernel, by (try dsimp only) <;> decide +kernel, by (try dsimp only) <;> decide +kernel, by (try dsimp only) <;> decide +kernel⟩

theorem test_FramesReceived_6 : ∃ (s : State) (m : Fin 3) (n : Nat), s.gated (12 + m.val) = false ∧ (s.mac m.val).paused ≤ (s.atRaw n).tm.raw :=
  ⟨{ go [] with macs := [(2, { macReset with paused := 9 })] }, 2, 9, by decide +kernel, by decide +kernel⟩

theorem test_FramesReceived_7 : ∃ (s : State) (m : Fin 3) (n : Nat), s.gated (12 + m.val) = false ∧ (s.atRaw n).tm.raw < (s.mac m.val).paused :=
  ⟨{ go [] with macs := [(2, { macReset with paused := 9 })] }, 2, 8, by decide +kernel, by decide +kernel⟩

theorem test_FramesSent_1 : ∃ (s : State) (m : Fin 3) (cap : Nat) (n : Nat) (b : List Byte) (rest : List (List Byte)), s.gated (12 + m.val) = false ∧ (s.mac m.val).tx = none ∧ s.on (R.MAC_STATUS_LINK m.val) = true ∧ s.on (R.MAC_CTRL_TX_EN m.val) = true ∧ (s.mac m.val).paused ≤ (s.atRaw n).tm.raw ∧ (∀ q : Fin 8, s.on (R.MAC_TXQ_W1_EN m.val q.val) = false) ∧ (s.mac m.val).strq = b :: rest :=
  ⟨{ go [(R.MAC_STATUS_LINK 2, 1), (R.MAC_CTRL_TX_EN 2, 1)] with macs := [(2, { macReset with strq := [[1], [2]] })] }, 2, 0, 0, [1], [[2]], by decide +kernel, by decide +kernel, by decide +kernel, by decide +kernel, by decide +kernel, by decide +kernel, by decide +kernel⟩

theorem test_FramesSent_2 : ∃ (s : State) (m : Fin 3) (cap : Nat) (n : Nat), s.gated (12 + m.val) = false ∧ (s.mac m.val).tx = none ∧ s.on (R.MAC_STATUS_LINK m.val) = false ∧ (∀ q : Fin 8, s.on (R.MAC_TXQ_W1_FLUSH_DOWN m.val q.val) = false) :=
  ⟨{ go [(R.MAC_STATUS_LINK 2, 0)] with macs := [(2, { macReset with strq := [[1], [2]] })] }, 2, 0, 0, by decide +kernel, by decide +kernel, by decide +kernel, by decide +kernel⟩

theorem test_FramesSent_3 : ∃ (s : State) (m : Fin 3) (q : Fin 8) (cap : Nat) (n : Nat), q.val < txQueues m.val ∧ s.gated (12 + m.val) = false ∧ s.gated 3 = false ∧ (s.mac m.val).tx = none ∧ s.on (R.MAC_STATUS_LINK m.val) = true ∧ s.on (R.MAC_CTRL_TX_EN m.val) = true ∧ (s.mac m.val).paused ≤ (s.atRaw n).tm.raw ∧ (s.mac m.val).strq = [] ∧ (∀ k : Fin 8, s.on (R.MAC_TXQ_W1_EN m.val k.val) = decide (k = q)) ∧ let z : Nat := s.rd (R.MAC_TXQ_W1_SIZE m.val q.val); let h : Nat := s.rd (R.MAC_TXQ_W3_HEAD m.val q.val); let a : Nat := s.txDesc m.val q.val h; let w : Nat := s.load (a + 4) 4; let b : Nat := s.load a 4; 2 ≤ z ∧ z ≤ 4096 ∧ h < z ∧ s.rd (R.MAC_TXQ_W2_TAIL m.val q.val) = (h + 1) % z ∧ 0x20500000 ≤ a ∧ a + 16 ≤ 0x20600000 ∧ bitOf w 31 = true ∧ bitOf w 29 = true ∧ bitOf w 28 = false ∧ bitOf w 26 = false ∧ 60 ≤ w % 16384 ∧ w % 16384 + 4 ≤ s.maxlen m.val ∧ 0x20500000 ≤ b ∧ b + w % 16384 ≤ 0x20600000 :=
  ⟨txs, 0, 7, 0, 0, by (try dsimp only) <;> decide +kernel, by (try dsimp only) <;> decide +kernel, by (try dsimp only) <;> decide +kernel, by (try dsimp only) <;> decide +kernel, by (try dsimp only) <;> decide +kernel, by (try dsimp only) <;> decide +kernel, by (try dsimp only) <;> decide +kernel, by (try dsimp only) <;> decide +kernel, by (try dsimp only) <;> decide +kernel, by (try dsimp only) <;> decide +kernel, by (try dsimp only) <;> decide +kernel, by (try dsimp only) <;> decide +kernel, by (try dsimp only) <;> decide +kernel, by (try dsimp only) <;> decide +kernel, by (try dsimp only) <;> decide +kernel, by (try dsimp only) <;> decide +kernel, by (try dsimp only) <;> decide +kernel, by (try dsimp only) <;> decide +kernel, by (try dsimp only) <;> decide +kernel, by (try dsimp only) <;> decide +kernel, by (try dsimp only) <;> decide +kernel, by (try dsimp only) <;> decide +kernel, by (try dsimp only) <;> decide +kernel⟩

theorem test_FramesSent_4 : ∃ (s : State) (m : Fin 3) (f : TxFrame), s.gated (12 + m.val) = false ∧ (s.mac m.val).tx = some f ∧ f.queue = none ∧ f.tsReq = false ∧ f.lost = false :=
  ⟨{ go [] with macs := [(2, { macReset with tx := some ⟨none, 0, 0, [1, 2], false, 0, 9, false⟩ })] }, 2, ⟨none, 0, 0, [1, 2], false, 0, 9, false⟩, by decide +kernel, by decide +kernel, by decide +kernel, by decide +kernel, by decide +kernel⟩

theorem test_FramesSent_5 : ∃ (s : State) (m : Fin 3) (f : TxFrame), s.gated (12 + m.val) = false ∧ (s.mac m.val).tx = some f ∧ f.queue = none ∧ f.tsReq = false ∧ f.lost = false :=
  ⟨{ go [] with macs := [(2, { macReset with tx := some ⟨none, 0, 0, [1, 2], false, 0, 9, false⟩ })] }, 2, ⟨none, 0, 0, [1, 2], false, 0, 9, false⟩, by decide +kernel, by decide +kernel, by decide +kernel, by decide +kernel, by decide +kernel⟩

theorem test_FramesSent_6 : ∃ (s : State) (m : Fin 3) (f : TxFrame) (q : Fin 8), s.gated (12 + m.val) = false ∧ s.gated 3 = false ∧ (s.mac m.val).tx = some f ∧ f.queue = some q.val ∧ f.descs = 1 ∧ f.tsReq = true ∧ f.lost = false ∧ s.on R.TSU_CTRL_ENABLE = true ∧ s.tm.txq.length = 3 ∧ (s.txq m.val).length < 64 ∧ let a : Nat := (s.txDesc m.val q.val (f.first % max 1 (s.rd (R.MAC_TXQ_W1_SIZE m.val q.val))) + 4) % 2 ^ 32; 0x20500000 ≤ a ∧ a + 4 ≤ 0x20600000 :=
  ⟨{ txs with macs := [(0, { macReset with tx := some ⟨some 7, 1, 1, [1, 2], true, 5, 9, false⟩ })] }, 0, ⟨some 7, 1, 1, [1, 2], true, 5, 9, false⟩, 7, by (try dsimp only) <;> decide +kernel, by (try dsimp only) <;> decide +kernel, by (try dsimp only) <;> decide +kernel, by (try dsimp only) <;> decide +kernel, by (try dsimp only) <;> decide +kernel, by (try dsimp only) <;> decide +kernel, by (try dsimp only) <;> decide +kernel, by (try dsimp only) <;> decide +kernel, by (try dsimp only) <;> decide +kernel, by (try dsimp only) <;> decide +kernel, by (try dsimp only) <;> decide +kernel, by (try dsimp only) <;> decide +kernel⟩

theorem test_FramesSent_7 : ∃ (s : State) (m : Fin 3) (l : LinkState), s.gated (12 + m.val) = false ∧ (s.mac m.val).tx = none :=
  ⟨go [], 2, ⟨true, false, true, true, 2⟩, by decide +kernel, by decide +kernel⟩

theorem test_FramesSent_9 : ∃ (s : State) (w : BitVec 32), s.gated 14 = false ∧ s.on (R.MAC_MDIO_BUSY 2) = false :=
  ⟨go [], 0x2FFC1234, by decide +kernel, by decide +kernel⟩

theorem test_FramesSent_10 : ∃ (s : State) (d : BitVec 16), s.gated 14 = false ∧ s.on (R.MAC_MDIO_BUSY 2) = true :=
  ⟨go [(R.MAC_MDIO_BUSY 2, 1), (R.MAC_MDIO_OP 2, 2)], 0xFFFF, by decide +kernel, by decide +kernel⟩

theorem test_StreamsReceived_1 : ∃ (s : State) (m : Fin 2) (r : Fin 16) (n : Nat), s.streamsRun = true ∧ s.on (R.MAC_RING_W1_OWNER m.val r.val) = true ∧ s.on (R.MAC_RING_W1_EN m.val r.val) = true ∧ s.gated 3 = false ∧ let i : Nat := (s.mac m.val).taken.get 0 r.val; let a : Nat := s.rxDesc m.val r.val i; let w : Nat := s.load (a + 4) 4; let b : Nat := s.load a 4; let bs : List Byte := s.bytes b (w % 16384); 0x20500000 ≤ a ∧ a + 32 ≤ 0x20600000 ∧ bitOf w 31 = false ∧ bitOf w 28 = true :=
  ⟨strs 0x10000000 [], 0, 15, 0, by (try dsimp only) <;> decide +kernel, by (try dsimp only) <;> decide +kernel, by (try dsimp only) <;> decide +kernel, by (try dsimp only) <;> decide +kernel, by (try dsimp only) <;> decide +kernel, by (try dsimp only) <;> decide +kernel, by (try dsimp only) <;> decide +kernel, by (try dsimp only) <;> decide +kernel⟩

theorem test_StreamsReceived_2 : ∃ (s : State) (m : Fin 2) (r : Fin 16) (n : Nat), s.streamsRun = true ∧ s.on (R.MAC_RING_W1_OWNER m.val r.val) = true ∧ s.on (R.MAC_RING_W1_EN m.val r.val) = true ∧ s.gated 3 = false ∧ let i : Nat := (s.mac m.val).taken.get 0 r.val; let a : Nat := s.rxDesc m.val r.val i; let w : Nat := s.load (a + 4) 4; let b : Nat := s.load a 4; let bs : List Byte := s.bytes b (w % 16384); 0x20500000 ≤ a ∧ a + 32 ≤ 0x20600000 ∧ bitOf w 31 = false ∧ bitOf w 28 = false ∧ bitOf w 30 = true ∧ bitOf w 29 = true ∧ 0x20500000 ≤ b ∧ b + w % 16384 ≤ 0x20600000 ∧ udpAt bs = none :=
  ⟨strs 0x60000040 bcast, 0, 15, 0, by (try dsimp only) <;> decide +kernel, by (try dsimp only) <;> decide +kernel, by (try dsimp only) <;> decide +kernel, by (try dsimp only) <;> decide +kernel, by (try dsimp only) <;> decide +kernel, by (try dsimp only) <;> decide +kernel, by (try dsimp only) <;> decide +kernel, by (try dsimp only) <;> decide +kernel, by (try dsimp only) <;> decide +kernel, by (try dsimp only) <;> decide +kernel, by (try dsimp only) <;> decide +kernel, by (try dsimp only) <;> decide +kernel, by (try dsimp only) <;> decide +kernel⟩

theorem test_StreamsReceived_3 : ∃ (s : State) (m : Fin 2) (r : Fin 16) (n : Nat), s.streamsRun = true ∧ s.on (R.MAC_RING_W1_OWNER m.val r.val) = true ∧ s.on (R.MAC_RING_W1_EN m.val r.val) = true ∧ s.gated 3 = false ∧ let i : Nat := (s.mac m.val).taken.get 0 r.val; let a : Nat := s.rxDesc m.val r.val i; let w : Nat := s.load (a + 4) 4; let b : Nat := s.load a 4; let bs : List Byte := s.bytes b (w % 16384); 0x20500000 ≤ a ∧ a + 32 ≤ 0x20600000 ∧ bitOf w 31 = false ∧ bitOf w 28 = false ∧ bitOf w 30 = true ∧ bitOf w 29 = true ∧ 0x20500000 ≤ b ∧ b + w % 16384 ≤ 0x20600000 ∧ ∃ (u : Nat) (c : Nat) (k : RtpPkt), udpAt bs = some u ∧ s.matchCtx m.val bs u = some c ∧ s.rtpFor c bs u = some k :=
  ⟨strs 0x60000056 rtpFrame, 0, 15, 0, by (try dsimp only) <;> decide +kernel, by (try dsimp only) <;> decide +kernel, by (try dsimp only) <;> decide +kernel, by (try dsimp only) <;> decide +kernel, by (try dsimp only) <;> decide +kernel, by (try dsimp only) <;> decide +kernel, by (try dsimp only) <;> decide +kernel, by (try dsimp only) <;> decide +kernel, by (try dsimp only) <;> decide +kernel, by (try dsimp only) <;> decide +kernel, by (try dsimp only) <;> decide +kernel, by (try dsimp only) <;> decide +kernel, 34, 3, ⟨97, 7, 9, 1, List.replicate 32 1⟩, by (try dsimp only) <;> decide +kernel, by (try dsimp only) <;> decide +kernel, by (try dsimp only) <;> decide +kernel⟩

theorem test_StreamsReceived_4 : ∃ (s : State) (c : Fin 128) (n : Nat), s.streamsRun = true ∧ s.on (R.STR_RX_W0_EN c.val) = true ∧ (∀ v, (s.strx c.val).validAt = some v → v + ms 10 ≤ (s.atRaw n).tm.raw) :=
  ⟨go [(R.STR_CTRL_ENABLE, 1), (R.STR_RX_W0_EN 127, 1)], 127, 5, by decide +kernel, by decide +kernel, (fun v h => nomatch (show (none : Option Nat) = some v from h))⟩

theorem test_TimeEvents_1 : ∃ (s : State) (th : BitVec 32) (n : Nat), s.gated 15 = false ∧ s.on R.TSU_CTRL_ENABLE = true ∧ let a : State := s.atRaw n; s.locked = false ∧ s.rd R.TSU_STEP_THR_VALUE < th.toInt.natAbs :=
  ⟨go [(R.TSU_CTRL_ENABLE, 1), (R.TSU_STEP_THR_VALUE, 50)], -51, 100, by (try dsimp only) <;> decide +kernel, by (try dsimp only) <;> decide +kernel, by (try dsimp only) <;> decide +kernel, by (try dsimp only) <;> decide +kernel⟩

theorem test_TimeEvents_2 : ∃ (s : State) (th : BitVec 32) (n : Nat), s.gated 15 = false ∧ s.on R.TSU_CTRL_ENABLE = true ∧ let a : State := s.atRaw n; th.toInt.natAbs ≤ s.rd R.TSU_STEP_THR_VALUE :=
  ⟨go [(R.TSU_CTRL_ENABLE, 1), (R.TSU_STEP_THR_VALUE, 50), (R.TSU_SERVO_KI_VALUE, 65536), (R.TSU_SERVO_KP_VALUE, 131072)], -50, 100, by (try dsimp only) <;> decide +kernel, by (try dsimp only) <;> decide +kernel, by (try dsimp only) <;> decide +kernel⟩

theorem test_TimeEvents_3 : ∃ (s : State) (n : Nat), s.gated 15 = false ∧ s.on R.TSU_CTRL_ENABLE = true ∧ s.on R.TSU_STATUS_HOLDOVER = false ∧ s.tm.lastOffsetRaw + ms (max 1 (s.rd R.TSU_SERVO_LIM_HOLD_TO)) ≤ (s.atRaw n).tm.raw :=
  ⟨go [(R.TSU_CTRL_ENABLE, 1)], 500000000000, by decide +kernel, by decide +kernel, by decide +kernel, by decide +kernel⟩

theorem test_TimeEvents_4 : ∃ (s : State) (lo : BitVec 32), s.gated 15 = false :=
  ⟨go [(R.TSU_CTRL_ENABLE, 1)], 0xFFFFFFFF, by decide +kernel⟩

theorem test_TimeEvents_5 : ∃ (s : State) (m : Fin 3) (e : TxStamp) (es : List TxStamp), s.gated 15 = false ∧ s.txq m.val = e :: es :=
  ⟨{ z with tm := { z.tm with txq := [[], [], [⟨2 ^ 40, 255, 7⟩, ⟨1, 2, 3⟩]] } }, 2, ⟨2 ^ 40, 255, 7⟩, [⟨1, 2, 3⟩], by decide +kernel, by decide +kernel⟩

theorem test_TimeEvents_6 : ∃ (s : State) (n : Nat), s.fwRuns = true ∧ s.ptp.inUse = s.ptp.primary ∧ s.ptp.backup ≠ 255 :=
  ⟨{ z with ptp := { z.ptp with primary := 0, inUse := 0, backup := 1 } }, 0, by decide +kernel, by decide +kernel, by decide +kernel⟩

theorem test_TimeEvents_7 : ∃ (s : State) (n : Nat), s.fwRuns = true :=
  ⟨{ z with ptp := { z.ptp with primary := 0, inUse := 1, backup := 1 } }, 0, by decide +kernel⟩

theorem test_TimeEvents_8 : ∃ (s : State) (n : Nat), s.gated 15 = false :=
  ⟨go [(R.TSU_CTRL_ENABLE, 1)], 0, by decide +kernel⟩

theorem test_TimeEvents_9 : ∃ (s : State) (n : Nat), s.gated 15 = false :=
  ⟨go [(R.TSU_CTRL_ENABLE, 1)], 0, by decide +kernel⟩

theorem test_TimeEvents_10 : ∃ (s : State) (i : Nat) (n : Nat) (x : TimedAct), s.acts[i]? = some x ∧ x.time ≤ (s.atRaw n).now ∧ x.action = 2 :=
  ⟨{ z with acts := [⟨0, 10, 1, 31, 7⟩, ⟨0, 10, 2, 31, 7⟩] }, 1, 10, ⟨0, 10, 2, 31, 7⟩, by decide +kernel, by decide +kernel, by decide +kernel⟩

theorem test_TimeEvents_11 : ∃ (s : State) (i : Nat) (n : Nat) (x : TimedAct), s.acts[i]? = some x ∧ x.time ≤ (s.atRaw n).now ∧ x.action ≠ 2 :=
  ⟨{ z with acts := [⟨0, 10, 0, 31, 7⟩, ⟨0, 10, 2, 31, 7⟩] }, 0, 10, ⟨0, 10, 0, 31, 7⟩, by decide +kernel, by decide +kernel, by decide +kernel⟩

theorem test_MirrorLinks_1 : ∃ (s : State) (c : Fin 3) (k : BitVec 2) (ad : BitVec 27) (n : Nat), s.gated 22 = false ∧ s.rd R.BWT_STATUS_MODE = 0 ∧ k.toNat ≠ 3 ∧ c.val ∉ s.bwt.pend ∧ s.bwt.firstAt.get 0 c.val = 0 :=
  ⟨go [], 2, 2, 5, 0, by decide +kernel, by decide +kernel, by decide +kernel, by decide +kernel, by decide +kernel⟩

theorem test_MirrorLinks_2 : ∃ (s : State) (c : Fin 3) (k : BitVec 2) (ad : BitVec 27) (n : Nat), s.gated 22 = false ∧ ∃ r, s.rd R.BWT_STATUS_MODE = 0 ∧ k.toNat ≠ 3 ∧ c.val ∉ s.bwt.pend ∧ s.bwt.firstAt.get 0 c.val = r + 1 ∧ (s.atRaw n).tm.raw < r + ms 1000 :=
  ⟨{ go [] with bwt := { z.bwt with firstAt := [(2, 1)] } }, 2, 0, 0, 499999999, by decide +kernel, 0, by decide +kernel, by decide +kernel, by decide +kernel, by decide +kernel, by decide +kernel⟩

theorem test_MirrorLinks_3 : ∃ (s : State) (c : Fin 3) (k : BitVec 2) (ad : BitVec 27) (n : Nat), s.gated 22 = false ∧ s.rd R.BWT_STATUS_MODE = 0 ∧ k.toNat = 3 :=
  ⟨go [], 2, 3, 0, 0, by decide +kernel, by decide +kernel, by decide +kernel⟩

theorem test_MirrorLinks_4 : ∃ (s : State) (c : Fin 3) (k : BitVec 2) (ad : BitVec 27) (n : Nat), s.gated 22 = false ∧ s.rd R.BWT_STATUS_MODE = 1 ∧ s.rd R.BWT_STATUS_REMOVED ≠ c.val :=
  ⟨go [(R.BWT_STATUS_MODE, 1), (R.BWT_STATUS_REMOVED, 1)], 2, 0, 0, 0, by decide +kernel, by decide +kernel, by decide +kernel⟩

theorem test_MirrorLinks_5 : ∃ (s : State) (c : BitVec 2) (n : Nat), s.gated 22 = false ∧ s.on R.SEC_STATUS_MAINT = true :=
  ⟨go [(R.SEC_STATUS_MAINT, 1)], 2, 0, by decide +kernel, by decide +kernel⟩

theorem test_MirrorLinks_6 : ∃ (s : State) (n : Nat), s.gated 17 = false ∧ s.on R.FLD_CTRL_EN = true ∧ s.mir.beat ≠ some ((s.atRaw n).now / ms 1) :=
  ⟨mirs 4 [], 5, by decide +kernel, by decide +kernel, by decide +kernel⟩

theorem test_MirrorLinks_7 : ∃ (s : State) (f : FoldFrame) (n : Nat), s.gated 17 = false ∧ s.on R.FLD_CTRL_EN = true ∧ s.role = roleArb :=
  ⟨mirs 4 [], { fold0 with role := 0, id := 1 }, 0, by decide +kernel, by decide +kernel, by decide +kernel⟩

theorem test_MirrorLinks_8 : ∃ (s : State) (f : FoldFrame) (n : Nat), s.gated 17 = false ∧ s.on R.FLD_CTRL_EN = true ∧ f.major < 256 ∧ s.role = roleStandby :=
  ⟨mirs 2 [], { fold0 with stop := false, major := 255 }, 0, by decide +kernel, by decide +kernel, by decide +kernel, by decide +kernel⟩

theorem test_MirrorLinks_9 : ∃ (s : State) (f : FoldFrame) (n : Nat), s.gated 17 = false ∧ s.on R.FLD_CTRL_EN = true ∧ f.major < 256 ∧ s.role = roleStandby ∧ f.stop = true ∧ s.on R.FLD_STATUS_PARTNER_STOP = false ∧ s.fwRuns = true ∧ s.mir.change = none :=
  ⟨mirs 2 [], { fold0 with stop := true }, 0, by decide +kernel, by decide +kernel, by decide +kernel, by decide +kernel, by decide +kernel, by decide +kernel, by decide +kernel, by decide +kernel⟩

theorem test_MirrorLinks_10 : ∃ (s : State) (n : Nat) (l : Nat), s.gated 17 = false ∧ s.on R.FLD_CTRL_EN = true ∧ s.mir.pinAt = some l ∧ (s.atRaw n).now ≤ l + us 1250 ∧ s.mir.pinRun = 2 :=
  ⟨{ mirs 1 [] with mir := { z.mir with pinAt := some 5, pinRun := 2 } }, 625005, 5, by decide +kernel, by decide +kernel, by decide +kernel, by decide +kernel, by decide +kernel⟩

theorem test_MirrorLinks_11 : ∃ (s : State) (n : Nat) (l : Nat), s.gated 17 = false ∧ s.on R.FLD_CTRL_EN = true ∧ s.mir.foldAt = some l ∧ l + us 3250 ≤ (s.atRaw n).now ∧ ∃ j, s.mir.pinAt = some j ∧ (s.atRaw n).now < j + us 3250 ∧ s.on R.FLD_STATUS_FOLD_UP = true :=
  ⟨{ mirs 1 [(R.FLD_STATUS_FOLD_UP, 1)] with mir := { z.mir with foldAt := some 5, pinAt := some 6 } }, 1625005, 5, by decide +kernel, by decide +kernel, by decide +kernel, by decide +kernel, 6, by decide +kernel, by decide +kernel, by decide +kernel⟩

theorem test_MirrorLinks_12 : ∃ (s : State) (n : Nat) (l : Nat), s.gated 17 = false ∧ s.on R.FLD_CTRL_EN = true ∧ s.mir.foldAt = some l ∧ l + us 3250 ≤ (s.atRaw n).now ∧ ∃ j, s.mir.pinAt = some j ∧ j + us 3250 ≤ (s.atRaw n).now ∧ s.role = roleStandby ∧ s.fwRuns = true ∧ s.mir.change = none :=
  ⟨{ mirs 2 [(R.FLD_STATUS_FOLD_UP, 1)] with mir := { z.mir with foldAt := some 5, pinAt := some 4 } }, 1625005, 5, by decide +kernel, by decide +kernel, by decide +kernel, by decide +kernel, 4, by decide +kernel, by decide +kernel, by decide +kernel, by decide +kernel, by decide +kernel⟩

theorem test_MirrorLinks_13 : ∃ (s : State) (high : Bool) (n : Nat), s.gated 17 = false :=
  ⟨mirs 4 [], true, 0, by decide +kernel⟩

theorem test_MirrorLinks_14 : ∃ (s : State) (n : Nat), s.role = roleArb ∧ s.mir.partner = none ∧ s.mir.releaseAt + ms 400 ≤ (s.atRaw n).tm.raw :=
  ⟨mirs 4 [], 200000000, by decide +kernel, by decide +kernel, by decide +kernel⟩

theorem test_MirrorLinks_15 : ∃ (s : State) (n : Nat), s.gated 17 = false :=
  ⟨mirs 4 [], 0, by decide +kernel⟩

theorem test_MirrorLinks_16 : ∃ (s : State) (e : BitVec 32) (n : Nat), s.gated 17 = false ∧ s.on R.FLD_CTRL_EN = true :=
  ⟨mirs 1 [], 9, 0, by decide +kernel, by decide +kernel⟩

theorem test_MirrorLinks_17 : ∃ (s : State) (n : Nat) (k : Nat), s.mir.change = some ⟨k, false, true⟩ ∧ s.role = roleActive ∧ s.tly.line = none ∧ s.on R.PWS_CTRL_ENABLE = true ∧ (s.atRaw n).tBlock (k + 2) ≤ (s.atRaw n).now :=
  ⟨{ mirs 1 [(R.PWS_CTRL_ENABLE, 1), (R.PWS_CFG_EN 23, 1)] with mir := { z.mir with change := some ⟨9, false, true⟩ } }, 10000000, 9, by decide +kernel, by decide +kernel, by decide +kernel, by decide +kernel, by decide +kernel⟩

theorem test_MirrorLinks_18 : ∃ (s : State) (n : Nat) (k : Nat) (b : Bool), s.mir.change = some ⟨k, true, b⟩ ∧ s.role = roleLeaving ∧ s.tly.line = none ∧ (s.atRaw n).tBlock (k + 3) ≤ (s.atRaw n).now :=
  ⟨{ mirs 3 [(R.PWS_CFG_EN 23, 1)] with mir := { z.mir with change := some ⟨9, true, true⟩ } }, 10000000, 9, true, by decide +kernel, by decide +kernel, by decide +kernel, by decide +kernel⟩

theorem test_MirrorLinks_19 : ∃ (s : State) (n : Nat) (k : Nat), s.mir.change = some ⟨k, false, true⟩ ∧ s.role = roleActive ∧ (s.atRaw n).tBlock (k + 3) ≤ (s.atRaw n).now :=
  ⟨{ mirs 1 [] with mir := { z.mir with change := some ⟨9, false, true⟩ } }, 10000000, 9, by decide +kernel, by decide +kernel, by decide +kernel⟩

theorem test_MirrorCopies_1 : ∃ (s : State) (room : Nat) (n : Nat), s.gated 17 = false ∧ s.sendsCopies = true ∧ (s.atRaw n).nextBoundary ≤ (s.atRaw n).now + us 125 ∧ (∀ c : CopyOut, s.mir.sent = some c → c.k ≠ s.tm.blockCount) :=
  ⟨{ mirs 1 [] with mir := { z.mir with partner := some ⟨2, false, false, 1, 0⟩ } }, 3, 333333, by decide +kernel, by decide +kernel, by decide +kernel, (fun c h => nomatch (show (none : Option CopyOut) = some c from h))⟩

theorem test_MirrorCopies_2 : ∃ (s : State) (f : FoldFrame) (c : CopyIn) (n : Nat), s.gated 17 = false ∧ s.on R.FLD_CTRL_EN = true ∧ s.on R.FLD_STATUS_VER_ERR = false ∧ s.role = roleStandby ∧ f.major = s.mir.major ∧ f.last = true ∧ f.switch = false ∧ f.final = false ∧ ∃ j, c.good = true ∧ f.block = s.tm.blockCount ∧ s.mir.lastCopy = some j ∧ c.k = j + 1 :=
  ⟨{ mirs 2 [] with mir := { z.mir with lastCopy := some 4 } }, fold0, ⟨5, false, true, [.gain 3 ⟨-5, true, []⟩]⟩, 0, by decide +kernel, by decide +kernel, by decide +kernel, by decide +kernel, by decide +kernel, by decide +kernel, by decide +kernel, by decide +kernel, 4, by decide +kernel, by decide +kernel, by decide +kernel, by decide +kernel⟩

theorem test_MirrorCopies_3 : ∃ (s : State) (f : FoldFrame) (c : CopyIn) (n : Nat), s.gated 17 = false ∧ s.on R.FLD_CTRL_EN = true ∧ s.on R.FLD_STATUS_VER_ERR = false ∧ s.role = roleStandby ∧ f.major = s.mir.major ∧ f.last = true ∧ f.switch = false ∧ f.final = false ∧ (c.good = false ∨ f.block ≠ s.tm.blockCount) :=
  ⟨{ mirs 2 [] with mir := { z.mir with lastCopy := some 4 } }, fold0, ⟨5, false, false, []⟩, 0, by decide +kernel, by decide +kernel, by decide +kernel, by decide +kernel, by decide +kernel, by decide +kernel, by decide +kernel, by decide +kernel, by decide +kernel⟩

theorem test_MirrorCopies_4 : ∃ (s : State) (f : FoldFrame) (items : List BulkItem) (more : Bool) (n : Nat), s.gated 17 = false ∧ s.on R.FLD_CTRL_EN = true ∧ s.role = roleStandby ∧ f.major = s.mir.major :=
  ⟨mirs 2 [], fold0, [.enrol 15 none], true, 0, by decide +kernel, by decide +kernel, by decide +kernel, by decide +kernel⟩

theorem test_DramController_1 : ∃ (s : State) (x : DramArr) (n : Nat), s.gated 4 = false ∧ s.clkLost 3 = false ∧ x.cls ≠ 4 ∧ s.on R.CEL_STATUS_SR = false ∧ x.addr < s.dramSize :=
  ⟨go [(R.CEL_STATUS_TRAINED, 3)], arr 6 2147483648, 500000, by decide +kernel, by decide +kernel, by decide +kernel, by decide +kernel, by decide +kernel⟩

theorem test_DramController_2 : ∃ (s : State) (x : DramArr) (n : Nat), s.gated 4 = false ∧ s.clkLost 3 = false ∧ x.cls ≠ 4 ∧ s.on R.CEL_STATUS_SR = false ∧ s.dramSize ≤ x.addr ∧ s.on R.FAB_ERRINFO_VALID = false :=
  ⟨go [(R.CEL_STATUS_TRAINED, 3)], arr 6 8589934592, 500000, by decide +kernel, by decide +kernel, by decide +kernel, by decide +kernel, by decide +kernel, by decide +kernel⟩

theorem test_DramController_3 : ∃ (s : State) (x : DramArr) (n : Nat), s.gated 4 = false ∧ s.clkLost 3 = false ∧ x.cls = 4 :=
  ⟨go [(R.CEL_STATUS_TRAINED, 3)], arr 4 64, 500000, by decide +kernel, by decide +kernel, by decide +kernel⟩

theorem test_DramController_4 : ∃ (s : State) (x : DramArr) (n : Nat), s.gated 4 = false ∧ s.clkLost 3 = false ∧ x.cls = 4 ∧ (s.fabAt fabDram).waiting = [] ∧ s.on R.CEL_STATUS_SR = false ∧ x.addr < s.dramSize :=
  ⟨go [(R.CEL_STATUS_TRAINED, 3)], arr 4 64, 500000, by decide +kernel, by decide +kernel, by decide +kernel, by decide +kernel, by decide +kernel, by decide +kernel⟩

theorem test_DramController_5 : ∃ (s : State) (r : DramReq) (n : Nat), s.gated 4 = false ∧ s.cel.queue = [r] ∧ (s.panic = false ∨ r.rt = true) :=
  ⟨{ go [(R.CEL_STATUS_TRAINED, 3)] with cel := { z.cel with queue := [req0] } }, req0, 500000, by decide +kernel, by decide +kernel, by decide +kernel⟩

theorem test_DramController_6 : ∃ (s : State) (c : Fin 2) (b : Nat) (n : Nat), s.gated 4 = false ∧ 256 * 500 ≤ ((s.atRaw n).tm.raw - s.cel.rowAt.get 0 (bankKey c.val b)) * 533 :=
  ⟨go [(R.CEL_STATUS_TRAINED, 3)], 0, 0, 500000, by decide +kernel, by decide +kernel⟩

theorem test_DramController_7 : ∃ (s : State) (c : Fin 2) (n : Nat), s.gated 4 = false ∧ s.on R.CEL_STATUS_SR = false :=
  ⟨go [(R.CEL_STATUS_TRAINED, 3)], 0, 500000, by decide +kernel, by decide +kernel⟩

theorem test_DramController_8 : ∃ (s : State) (d0 : Bool) (d1 : Bool) (n : Nat), s.gated 4 = false :=
  ⟨go [(R.CEL_STATUS_TRAINED, 3)], false, false, 500000, by decide +kernel⟩

theorem test_DramController_9 : ∃ (s : State) (n : Nat), s.gated 4 = false ∧ s.cel.retrain = none ∧ s.celChannels ≠ 0 :=
  ⟨go [(R.CEL_STATUS_TRAINED, 3)], 500000, by decide +kernel, by decide +kernel, by decide +kernel⟩

theorem test_DramController_10 : ∃ (s : State) (c : Fin 2) (n : Nat) (x : Retrain), s.gated 4 = false ∧ s.cel.retrain = some x ∧ x.ch = c.val ∧ s.panic = false ∧ x.last.get 0 c.val = 0 :=
  ⟨{ go [(R.CEL_STATUS_TRAINED, 3)] with cel := { z.cel with retrain := some ⟨5, 0, [], none⟩ } }, 0, 500000, ⟨5, 0, [], none⟩, by decide +kernel, by decide +kernel, by decide +kernel, by decide +kernel, by decide +kernel⟩

theorem test_DramController_11 : ∃ (s : State) (c : Fin 2) (n : Nat) (x : Retrain), s.gated 4 = false ∧ s.cel.retrain = some x ∧ x.ch = c.val ∧ s.panic = false ∧ x.last.get 0 c.val = 0 ∧ c.val = 0 ∧ bitOf (s.rd R.CEL_STATUS_TRAINED) 1 = true :=
  ⟨{ go [(R.CEL_STATUS_TRAINED, 3)] with cel := { z.cel with retrain := some ⟨5, 0, [], none⟩ } }, 0, 500000, ⟨5, 0, [], none⟩, by decide +kernel, by decide +kernel, by decide +kernel, by decide +kernel, by decide +kernel, by decide +kernel, by decide +kernel⟩

theorem test_DramController_12 : ∃ (s : State) (c : Fin 2) (n : Nat) (x : Retrain), s.gated 4 = false ∧ s.cel.retrain = some x ∧ x.ch = c.val ∧ s.panic = false ∧ x.last.get 0 c.val = 0 ∧ c.val = 1 ∧ x.port = none :=
  ⟨{ go [(R.CEL_STATUS_TRAINED, 3)] with cel := { z.cel with retrain := some ⟨5, 1, [], none⟩ } }, 1, 500000, ⟨5, 1, [], none⟩, by decide +kernel, by decide +kernel, by decide +kernel, by decide +kernel, by decide +kernel, by decide +kernel, by decide +kernel⟩

theorem test_DramController_13 : ∃ (s : State) (n : Nat) (x : Retrain), s.gated 4 = false ∧ s.cel.retrain = some x ∧ x.since + ms 60 ≤ (s.atRaw n).tm.raw :=
  ⟨{ go [(R.CEL_STATUS_TRAINED, 3)] with cel := { z.cel with retrain := some ⟨5, 1, [], none⟩ } }, 30000005, ⟨5, 1, [], none⟩, by decide +kernel, by decide +kernel, by decide +kernel⟩

theorem test_DramController_14 : ∃ (s : State) (a : Bool) (b : Bool) (n : Nat), s.gated 4 = false ∧ s.rd R.CEL_STATUS_TRAINED = 0 ∧ s.rd R.CEL_STATUS_FAIL = 0 ∧ s.celCfgOk = true :=
  ⟨go [(R.CEL_CFG_CH_EN, 3)], true, false, 500000, by decide +kernel, by decide +kernel, by decide +kernel, by decide +kernel⟩

theorem test_DramController_15 : ∃ (s : State) (c : Fin 2) (n : Nat), s.gated 4 = false ∧ s.rd R.CLK_MODE_CUR = 1 ∧ (∀ r ∈ s.cel.queue, r.ch ≠ c.val) ∧ max 1 (s.rd R.CEL_SCHED_PD_IDLE) * 500 ≤ ((s.atRaw n).tm.raw - s.cel.idleAt.get 0 c.val) * 533 :=
  ⟨go [(R.CLK_MODE_CUR, 1)], 1, 500000, by decide +kernel, by decide +kernel, (fun r h => nomatch (show r ∈ ([] : List DramReq) from h)), by decide +kernel⟩

theorem test_BusAccesses_3 : ∃ (s : State) (m : Fin 12) (c : Fin 32) (a : BitVec 32) (w : BitVec 32) (n : Nat), m.val ≠ 6 ∧ a.toNat % 4 = 0 ∧ s.rests = true ∧ s.clk.held = false ∧ s.gated 3 = false ∧ (s.fabAt 2).waiting = [] ∧ 0x20500000 ≤ a.toNat ∧ a.toNat < 0x20600000 :=
  ⟨go [], 5, 0, 0x205FFFFC, 0x89ABCDEF, 0, by decide +kernel, by decide +kernel, by decide +kernel, by decide +kernel, by decide +kernel, by decide +kernel, by decide +kernel, by decide +kernel⟩

theorem test_BusAccesses_4 : ∃ (s : State) (m : Fin 12) (c : Fin 32) (a : BitVec 32) (w : BitVec 32) (n : Nat), m.val ≠ 6 ∧ a.toNat % 4 = 0 ∧ s.rests = true ∧ s.clk.held = false ∧ s.gated 3 = false ∧ (s.fabAt 2).waiting = [] ∧ 0x20000000 ≤ a.toNat ∧ a.toNat < 0x20500000 :=
  ⟨go [], 5, 0, 0x20000000, 0x89ABCDEF, 0, by decide +kernel, by decide +kernel, by decide +kernel, by decide +kernel, by decide +kernel, by decide +kernel, by decide +kernel, by decide +kernel⟩

theorem test_BusAccesses_5 : ∃ (s : State) (m : Fin 12) (c : Fin 32) (a : BitVec 32) (w : BitVec 32) (n : Nat), m.val ≠ 6 ∧ a.toNat % 4 = 0 ∧ s.rests = true ∧ s.clk.held = false ∧ s.on R.FAB_ERRINFO_VALID = false ∧ 0x50000000 ≤ a.toNat ∧ a.toNat < 0x80000000 :=
  ⟨go [], 5, 0, 0x500B0000, 0x89ABCDEF, 0, by decide +kernel, by decide +kernel, by decide +kernel, by decide +kernel, by decide +kernel, by decide +kernel, by decide +kernel⟩

theorem test_BusAccesses_6 : ∃ (s : State) (c : Fin 32) (a : BitVec 32) (w : BitVec 32) (n : Nat), a.toNat % 4 = 0 ∧ s.rests = true ∧ s.fwRuns = true ∧ s.gated 22 = false ∧ s.gated 19 = false ∧ s.bwt.inject = none ∧ (s.fabAt 21).waiting = [] ∧ 0x50070000 ≤ a.toNat ∧ a.toNat < 0x50080000 ∧ ∃ (l : BitVec 4), l ≠ 15#4 ∧ s.on R.FAB_ERRINFO_VALID = false :=
  ⟨go [], 0, 0x50070000, 0x89ABCDEF, 0, by decide +kernel, by decide +kernel, by decide +kernel, by decide +kernel, by decide +kernel, by decide +kernel, by decide +kernel, by decide +kernel, by decide +kernel, 5, by decide +kernel, by decide +kernel⟩

theorem test_BusAccesses_7 : ∃ (s : State) (c : Fin 32) (a : BitVec 32) (w : BitVec 32) (n : Nat), a.toNat % 4 = 0 ∧ s.rests = true ∧ s.fwRuns = true ∧ s.gated 22 = false ∧ s.gated 19 = false ∧ s.bwt.inject = none ∧ (s.fabAt 21).waiting = [] ∧ 0x50070000 ≤ a.toNat ∧ a.toNat < 0x50080000 ∧ ∃ (r : RegRow), rowOf a.toNat = some r ∧ r.rws = 0 :=
  ⟨go [], 0, 0x50070000, 0x89ABCDEF, 0, by decide +kernel, by decide +kernel, by decide +kernel, by decide +kernel, by decide +kernel, by decide +kernel, by decide +kernel, by decide +kernel, by decide +kernel, _, (rfl), by decide +kernel⟩

theorem test_BusAccesses_8 : ∃ (s : State) (c : Fin 32) (a : BitVec 32) (w : BitVec 32) (n : Nat), a.toNat % 4 = 0 ∧ s.rests = true ∧ s.fwRuns = true ∧ s.gated 22 = false ∧ s.gated 19 = false ∧ s.bwt.inject = none ∧ (s.fabAt 21).waiting = [] ∧ 0x50070000 ≤ a.toNat ∧ a.toNat < 0x50080000 ∧ rowOf a.toNat = none :=
  ⟨go [], 0, 0x5007FFFC, 0x89ABCDEF, 0, by decide +kernel, by decide +kernel, by decide +kernel, by decide +kernel, by decide +kernel, by decide +kernel, by decide +kernel, by decide +kernel, by decide +kernel, by decide +kernel⟩

theorem test_ResetAndSupply_2 : ∃ (s : State) (st : Straps) (n : Nat), let left (o : Host.Outcome State Fault Refusal) (cause : Nat) : Prop := ∃ t : State, o = .next t ∧ t.straps = st ∧ t.rd R.SYS_BOOT_CAUSE = cause ∧ t.rd R.SYS_BOOT_STATE = 0 ∧ t.mem = [] ∧ t.tm = State.reset.tm ∧ t.sessions = [] ∧ t.otp = s.otp ∧ t.msgs = s.msgs ∧ t.flash.slotA = s.flash.slotA ∧ t.flash.slotB = s.flash.slotB ∧ t.rd R.SEC_ROLLBACK_VALUE = s.otp.rollback % 128 ∧ t.on R.SEC_STATUS_FIELD = s.otp.inField; ∃ (l : LongOp), s.devBusy = some l ∧ l.op = 0x0F04 ∧ l.since + ms 10 ≤ (s.atRaw n).tm.raw :=
  ⟨{ up with devBusy := some (long 0x0F04 0) }, ⟨true, 2, true, false, false, 0⟩, 250000000, long 0x0F04 0, by (try dsimp only) <;> decide +kernel, by (try dsimp only) <;> decide +kernel, by (try dsimp only) <;> decide +kernel⟩

theorem test_ResetAndSupply_3 : ∃ (s : State) (st : Straps) (n : Nat), let left (o : Host.Outcome State Fault Refusal) (cause : Nat) : Prop := ∃ t : State, o = .next t ∧ t.straps = st ∧ t.rd R.SYS_BOOT_CAUSE = cause ∧ t.rd R.SYS_BOOT_STATE = 0 ∧ t.mem = [] ∧ t.tm = State.reset.tm ∧ t.sessions = [] ∧ t.otp = s.otp ∧ t.msgs = s.msgs ∧ t.flash.slotA = s.flash.slotA ∧ t.flash.slotB = s.flash.slotB ∧ t.rd R.SEC_ROLLBACK_VALUE = s.otp.rollback % 128 ∧ t.on R.SEC_STATUS_FIELD = s.otp.inField; s.rd R.SUP_STATUS_STAGE = 5 :=
  ⟨go [(R.SUP_STATUS_STAGE, 5)], ⟨true, 2, true, false, false, 0⟩, 250000000, by (try dsimp only) <;> decide +kernel⟩

theorem test_ResetAndSupply_4 : ∃ (s : State) (a : SlotCheck) (b : SlotCheck) (n : Nat), s.rd R.SYS_BOOT_STATE = 0 ∧ let x : SlotCheck := slotSeen (if s.firstSlot then b else a) (s.slotBytes s.firstSlot); s.headerOk x = true ∧ x.sections = true :=
  ⟨{ go [] with flash := { z.flash with slotA := some img } }, slot0, slot0, 250000000, by (try dsimp only) <;> decide +kernel, by (try dsimp only) <;> decide +kernel, by (try dsimp only) <;> decide +kernel⟩

theorem test_ResetAndSupply_5 : ∃ (s : State) (a : SlotCheck) (b : SlotCheck) (n : Nat), s.rd R.SYS_BOOT_STATE = 0 ∧ let x : SlotCheck := slotSeen (if s.firstSlot then b else a) (s.slotBytes s.firstSlot); (s.headerOk (slotSeen a s.flash.slotA) && a.sections) = false ∧ (s.headerOk (slotSeen b s.flash.slotB) && b.sections) = false :=
  ⟨go [], { slot0 with sections := false }, { slot0 with rollback := 65 }, 250000000, by (try dsimp only) <;> decide +kernel, by (try dsimp only) <;> decide +kernel, by (try dsimp only) <;> decide +kernel⟩

theorem test_ResetAndSupply_7 : ∃ (s : State) (high : Bool) (n : Nat), high ≠ s.on R.SUP_CTRL_MAINS_POL :=
  ⟨go [], true, 250000000, by decide +kernel⟩

theorem test_ResetAndSupply_8 : ∃ (s : State) (high : Bool) (n : Nat), high = s.on R.SUP_CTRL_MAINS_POL ∧ s.sup.lost = false :=
  ⟨go [], false, 250000000, by decide +kernel, by decide +kernel⟩

theorem test_ResetAndSupply_9 : ∃ (s : State) (n : Nat), s.rd R.SUP_STATUS_STAGE ≠ 5 ∧ s.tly.line = none :=
  ⟨go [], 250000000, by decide +kernel, by decide +kernel⟩

theorem test_ResetAndSupply_10 : ∃ (s : State) (k : Fin 4) (n : Nat) (g : Trigger), s.gated 21 = false ∧ s.triggers[k.val]? = some g ∧ s.fwRuns = true ∧ s.armed = true ∧ s.msgEvac g.msg = true :=
  ⟨{ fed with armed := true, triggers := [⟨5, true, 255⟩], regs := (fed.wr R.CLK_GATE_NOW_VALUE 0).regs }, 0, 250000000, ⟨5, true, 255⟩, by decide +kernel, by decide +kernel, by decide +kernel, by decide +kernel, by decide +kernel⟩

theorem test_ClockSources_1 : ∃ (s : State) (n : Nat), s.clk.rcAt + us 20 ≤ (s.atRaw n).tm.raw :=
  ⟨go [], 1000000000, by decide +kernel⟩

theorem test_ClockSources_3 : ∃ (s : State), 2 ≤ s.clk.absent :=
  ⟨{ go [] with clk := { z.clk with absent := 2 } }, by decide +kernel⟩

theorem test_ClockSources_4 : ∃ (s : State), s.rd R.CLK_RC_TRIM_SRC ≠ 0 ∧ s.clk.absent < 2 :=
  ⟨go [(R.CLK_RC_TRIM_SRC, 1)], by decide +kernel, by decide +kernel⟩

theorem test_ClockSources_5 : ∃ (s : State), s.rd R.CLK_RC_TRIM_SRC ≠ 0 ∧ s.clk.absent < 2 :=
  ⟨go [(R.CLK_RC_TRIM_SRC, 1)], by decide +kernel, by decide +kernel⟩

theorem test_ClockSources_6 : ∃ (s : State) (n : Nat), s.clk.xoAt + ms (2 * 4 ^ s.straps.xo.toNat) ≤ (s.atRaw n).tm.raw :=
  ⟨go [], 1000000000, by decide +kernel⟩

theorem test_ClockSources_7 : ∃ (s : State) (n : Nat), s.clk.xoAt + 4 * ms (2 * 4 ^ s.straps.xo.toNat) ≤ (s.atRaw n).tm.raw ∧ bitOf (s.rd R.CLK_MON_GOOD) 0 = false :=
  ⟨go [], 1000000000, by decide +kernel, by decide +kernel⟩

theorem test_ClockSources_8 : ∃ (s : State) (c : ClkSrc) (k : Nat) (e : Nat) (n : Nat), (c = .xo → s.clk.xoArmed = true) ∧ s.rd R.CLK_MODE_CUR ≠ 2 :=
  ⟨go [], .pllB, 103, 100, 1000000000, (fun h => nomatch h), by decide +kernel⟩

theorem test_ClockSources_9 : ∃ (s : State) (c : ClkSrc) (k : Nat) (e : Nat) (n : Nat), (c = .xo → s.clk.xoArmed = true) ∧ s.rd R.CLK_MODE_CUR ≠ 2 ∧ let b : Nat := match c with | .xo => 0 | .pllA => 1 | .pllB => 2 | .cellarPll => 3 | .audioPll => 4 | .serdes => 5; let failed (o : Host.Outcome State Fault Refusal) : Prop := ∃ t : State, o = .next t ∧ bitOf (t.rd R.CLK_STAT_FAIL) b = true ∧ bitOf (t.rd R.CLK_MON_GOOD) b = false ∧ t.rd R.CLK_CNT_MON_FAIL_VALUE = min 0xFFFFFFFF (s.rd R.CLK_CNT_MON_FAIL_VALUE + 1) ∧ ((c = .xo ∨ c = .pllA ∨ c = .pllB) → s.on R.CLK_STAT_RC_READY = true → s.on R.CLK_STAT_ON_RC = false → s.clk.held = false → t.on R.CLK_STAT_ON_RC = true ∧ t.on R.TSU_STATUS_HOLDOVER = true); 100 * ((k : Int) - (e : Int)).natAbs ≤ 3 * e :=
  ⟨go [], .pllB, 103, 100, 1000000000, (fun h => nomatch h), by (try dsimp only) <;> decide +kernel, by (try dsimp only) <;> decide +kernel⟩

theorem test_ClockSources_10 : ∃ (s : State) (c : ClkSrc) (k : Nat) (e : Nat) (n : Nat), (c = .xo → s.clk.xoArmed = true) ∧ s.rd R.CLK_MODE_CUR ≠ 2 ∧ let b : Nat := match c with | .xo => 0 | .pllA => 1 | .pllB => 2 | .cellarPll => 3 | .audioPll => 4 | .serdes => 5; let failed (o : Host.Outcome State Fault Refusal) : Prop := ∃ t : State, o = .next t ∧ bitOf (t.rd R.CLK_STAT_FAIL) b = true ∧ bitOf (t.rd R.CLK_MON_GOOD) b = false ∧ t.rd R.CLK_CNT_MON_FAIL_VALUE = min 0xFFFFFFFF (s.rd R.CLK_CNT_MON_FAIL_VALUE + 1) ∧ ((c = .xo ∨ c = .pllA ∨ c = .pllB) → s.on R.CLK_STAT_RC_READY = true → s.on R.CLK_STAT_ON_RC = false → s.clk.held = false → t.on R.CLK_STAT_ON_RC = true ∧ t.on R.TSU_STATUS_HOLDOVER = true); 3 * e < 100 * ((k : Int) - (e : Int)).natAbs :=
  ⟨go [], .pllB, 104, 100, 1000000000, (fun h => nomatch h), by (try dsimp only) <;> decide +kernel, by (try dsimp only) <;> decide +kernel⟩

theorem test_ClockSources_11 : ∃ (s : State) (c : ClkSrc) (k : Nat) (e : Nat) (n : Nat), (c = .xo → s.clk.xoArmed = true) ∧ s.rd R.CLK_MODE_CUR ≠ 2 ∧ let b : Nat := match c with | .xo => 0 | .pllA => 1 | .pllB => 2 | .cellarPll => 3 | .audioPll => 4 | .serdes => 5; let failed (o : Host.Outcome State Fault Refusal) : Prop := ∃ t : State, o = .next t ∧ bitOf (t.rd R.CLK_STAT_FAIL) b = true ∧ bitOf (t.rd R.CLK_MON_GOOD) b = false ∧ t.rd R.CLK_CNT_MON_FAIL_VALUE = min 0xFFFFFFFF (s.rd R.CLK_CNT_MON_FAIL_VALUE + 1) ∧ ((c = .xo ∨ c = .pllA ∨ c = .pllB) → s.on R.CLK_STAT_RC_READY = true → s.on R.CLK_STAT_ON_RC = false → s.clk.held = false → t.on R.CLK_STAT_ON_RC = true ∧ t.on R.TSU_STATUS_HOLDOVER = true); c ≠ .xo ∧ c ≠ .serdes :=
  ⟨go [], .audioPll, 103, 100, 1000000000, (fun h => nomatch h), by (try dsimp only) <;> decide +kernel, by (try dsimp only) <;> decide +kernel, by (try dsimp only) <;> decide +kernel⟩

theorem test_ClockSources_12 : ∃ (s : State), (∀ b ∈ s.clk.lost, b < 3 → 1024 ≤ s.clk.good.get 0 b) :=
  ⟨{ go [] with clk := { z.clk with lost := [0, 3], good := [(0, 1024)] } }, by simp only [List.mem_cons, List.not_mem_nil, or_false, forall_eq_or_imp, forall_eq]; decide +kernel⟩

theorem test_ClockSources_13 : ∃ (s : State), (∃ b ∈ s.clk.lost, b < 3 ∧ s.clk.good.get 0 b < 1024) :=
  ⟨{ go [] with clk := { z.clk with lost := [1], good := [(1, 1023)] } }, ⟨1, by decide +kernel, by decide, by decide +kernel⟩⟩

theorem test_ClockGates_1 : ∃ (s : State) (w : BitVec 32) (n : Nat), s.rd R.CLK_MODE_CUR = 0 ∧ s.clk.held = false :=
  ⟨go [], 0x7FFFFF, 0, by decide +kernel, by decide +kernel⟩

theorem test_ClockGates_2 : ∃ (s : State) (w : BitVec 32) (n : Nat), (∀ c, (s.core c).heldState < 5) :=
  ⟨go [], 0, 0, (fun c => by rw [show (go []).core c = coreReset from rfl]; decide)⟩

theorem test_ClockGates_3 : ∃ (s : State) (n : Nat) (x : GateStep), s.clk.step = some x :=
  ⟨{ go [] with clk := { z.clk with step := some ⟨5, 9, 0, 7⟩ } }, 0, ⟨5, 9, 0, 7⟩, by decide +kernel⟩

theorem test_ClockGates_4 : ∃ (s : State) (n : Nat) (x : GateStep), s.clk.step = some x ∧ ∃ (b : BitVec 23), b.toNat &&& x.all ≠ 0 ∧ x.since + 160 ≤ (s.atRaw n).tm.raw :=
  ⟨{ go [] with clk := { z.clk with step := some ⟨5, 9, 1, 7⟩ } }, 167, ⟨5, 9, 1, 7⟩, by decide +kernel, 4, by decide +kernel, by decide +kernel⟩

theorem test_ClockGates_5 : ∃ (s : State) (c : WakeBy) (n : Nat) (z : Sleep), s.clk.sleep = some z ∧ s.wakeEnabled c = true ∧ z.wakeBlk = none ∧ s.rd R.CLK_MODE_CUR ≠ 0 ∧ s.clk.held = false ∧ (z.deep && z.closed) = false :=
  ⟨{ go [(R.CLK_MODE_CUR, 1), (R.CLK_WAKE_CFG_PTT, 8)] with clk := { z.clk with sleep := some ⟨false, 5, true, 0, true, none⟩ } }, .press 3, 0, ⟨false, 5, true, 0, true, none⟩, by decide +kernel, by decide +kernel, by decide +kernel, by decide +kernel, by decide +kernel, by decide +kernel⟩

theorem test_ClockGates_6 : ∃ (s : State) (c : WakeBy) (n : Nat) (z : Sleep), s.clk.sleep = some z ∧ s.wakeEnabled c = true ∧ z.wakeBlk = none ∧ s.rd R.CLK_MODE_CUR ≠ 0 ∧ s.clk.held = false ∧ (z.deep && z.closed) = true :=
  ⟨{ go [(R.CLK_MODE_CUR, 3), (R.CLK_WAKE_GPIO_VALUE, 2147483648), (R.CLK_WAKE_POL_VALUE, 2147483648)] with clk := { z.clk with sleep := some ⟨true, 5, true, 0, true, none⟩ } }, .gpio 31 true, 0, ⟨true, 5, true, 0, true, none⟩, by decide +kernel, by decide +kernel, by decide +kernel, by decide +kernel, by decide +kernel, by decide +kernel⟩

theorem test_ClockGates_7 : ∃ (s : State) (b : BitVec 23) (n : Nat) (z : Sleep), s.clk.sleep = some z ∧ z.deep = true ∧ z.closed = false ∧ z.wakeBlk = none ∧ z.replyAt + ms 10 ≤ (s.atRaw n).tm.raw ∧ z.stopped = true ∧ s.clk.step = none :=
  ⟨{ go [] with clk := { z.clk with sleep := some ⟨true, 5, true, 7, false, none⟩ } }, 0, 5000007, ⟨true, 5, true, 7, false, none⟩, by decide +kernel, by decide +kernel, by decide +kernel, by decide +kernel, by decide +kernel, by decide +kernel, by decide +kernel⟩

theorem test_HostLink_1 : ∃ (s : State) (p : Fin 2) (n : Nat), s.portEnabled p.val = true ∧ s.gated 20 = false :=
  ⟨up, 0, 0, by decide +kernel, by decide +kernel⟩

theorem test_HostLink_2 : ∃ (s : State) (p : Fin 2) (n : Nat), s.portEnabled p.val = true ∧ s.gated 20 = false ∧ (s.port p.val).inb < 2 :=
  ⟨up, 0, 0, by decide +kernel, by decide +kernel, by decide +kernel⟩

theorem test_HostLink_3 : ∃ (s : State) (p : Fin 2) (n : Nat), s.portEnabled p.val = true ∧ s.gated 20 = false ∧ ∃ (k : Packet) (ks : List Packet) (w : Packet) (ws : List Packet), (s.port p.val).out = k :: ks ∧ (s.port p.val).wait = w :: ws :=
  ⟨up.setPort 0 { up.port 0 with out := [pkt 1, pkt 2], wait := [pkt 3] }, 0, 0, by decide +kernel, by decide +kernel, pkt 1, [pkt 2], pkt 3, [], by decide +kernel, by decide +kernel⟩

theorem test_HostLink_4 : ∃ (s : State) (p : Fin 2) (n : Nat), s.portEnabled p.val = true ∧ s.gated 20 = false ∧ (s.port p.val).out = [] :=
  ⟨up, 0, 0, by decide +kernel, by decide +kernel, by decide +kernel⟩

theorem test_HostLink_5 : ∃ (s : State) (p : Fin 2) (n : Nat), s.portEnabled p.val = true ∧ s.gated 20 = false :=
  ⟨up, 0, 0, by decide +kernel, by decide +kernel⟩

theorem test_HostLink_6 : ∃ (s : State) (i : Fin 8) (n : Nat), s.fwRuns = true ∧ (s.session i.val).phase = .halfOpen ∧ (s.session i.val).openedAt + ms 2000 ≤ (s.atRaw n).tm.raw :=
  ⟨{ up with sessions := [(7, { sess0 with phase := .halfOpen })] }, 7, 1000000000, by decide +kernel, by decide +kernel, by decide +kernel⟩

theorem test_HostLink_7 : ∃ (s : State) (i : Fin 8) (n : Nat), s.fwRuns = true ∧ (s.session i.val).phase ≠ .closed ∧ (s.session i.val).lastRx + ms (1000 * (s.session i.val).timeout) ≤ (s.atRaw n).tm.raw :=
  ⟨{ up with sessions := [(7, { sess0 with timeout := 10 })] }, 7, 5000000000, by decide +kernel, by decide +kernel, by decide +kernel⟩

theorem test_HostLink_8 : ∃ (s : State) (p : Fin 6) (n : Nat) (l : LongOp), (s.port p.val).busy = some l ∧ l.op = 0x0407 :=
  ⟨up.setPort 5 { up.port 5 with busy := some (long 0x0407 319) }, 5, 0, long 0x0407 319, by decide +kernel, by decide +kernel⟩

theorem test_HostLink_9 : ∃ (s : State) (c : SlotCheck) (n : Nat) (l : LongOp) (x : FwXfer), s.devBusy = some l ∧ l.op = 0x0A05 ∧ s.fw = some x ∧ s.headerOk (slotSeen c (some x.got)) = true :=
  ⟨{ up with devBusy := some (long 0x0A05 0), fw := some ⟨0, 544, 0, true, img⟩ }, slot0, 0, long 0x0A05 0, ⟨0, 544, 0, true, img⟩, by decide +kernel, by decide +kernel, by decide +kernel, by decide +kernel⟩

theorem test_HostLink_10 : ∃ (s : State) (c : SlotCheck) (n : Nat) (l : LongOp) (x : FwXfer), s.devBusy = some l ∧ l.op = 0x0A05 ∧ s.fw = some x ∧ ∃ (ok : Bool), (ok && s.headerOk (slotSeen c (some x.got))) = false :=
  ⟨{ up with devBusy := some (long 0x0A05 0), fw := some ⟨0, 544, 0, true, img⟩ }, slot0, 0, long 0x0A05 0, ⟨0, 544, 0, true, img⟩, by decide +kernel, by decide +kernel, by decide +kernel, false, by decide +kernel⟩

theorem test_HostLink_11 : ∃ (s : State) (n : Nat) (l : LongOp), s.devBusy = some l ∧ l.op = 0x0A06 :=
  ⟨{ up with devBusy := some (long 0x0A06 3) }, 0, long 0x0A06 3, by decide +kernel, by decide +kernel⟩

theorem test_HostLink_12 : ∃ (s : State), s.gated 1 = false ∧ s.on R.PST_STATUS_SWAP_PEND = true :=
  ⟨go [(R.PST_STATUS_SWAP_PEND, 1)], by decide +kernel, by decide +kernel⟩

theorem test_HostLink_13 : ∃ (s : State), s.gated 1 = false ∧ s.geo.build.state ≠ .running ∧ s.on R.PST_STATUS_SWAP_PEND = false :=
  ⟨go [], by decide +kernel, by decide +kernel, by decide +kernel⟩

theorem test_HostLink_14 : ∃ (s : State), s.gated 1 = false ∧ s.geo.build.state = .running ∧ s.on R.PST_STATUS_VERIFY_BUSY = false ∧ s.on R.PST_STATUS_SWAP_PEND = false ∧ 65536 < s.stagedCells :=
  ⟨{ go [] with geo := { z.geo with build := { z.geo.build with state := .running }, staged := [(0x1483, 500 * 65536), (0x1484, 256 + 257 * 65536), (0x1485, 1)] } }, by decide +kernel, by decide +kernel, by decide +kernel, by decide +kernel, by decide +kernel⟩

theorem test_HostLink_15 : ∃ (s : State), s.gated 1 = false ∧ s.geo.build.state = .running ∧ s.on R.PST_STATUS_VERIFY_BUSY = false ∧ s.on R.PST_STATUS_SWAP_PEND = false ∧ s.stagedCells ≤ 65536 ∧ s.layOut.pool.length ≤ 262144 :=
  ⟨{ go [] with geo := { z.geo with build := { z.geo.build with state := .running } } }, by decide +kernel, by decide +kernel, by decide +kernel, by decide +kernel, by decide +kernel, by decide +kernel⟩

theorem test_HostLink_16 : ∃ s : State, s.gated 1 = false ∧ s.on R.PST_STATUS_VERIFY_BUSY = true ∧ s.bankCrc s.stagedBank = s.rd R.PST_BANK_EXP_VALUE :=
  ⟨verifying 0, (verifying_holds 0).1, (verifying_holds 0).2.1, by rw [(verifying_holds 0).2.2, Nat.add_zero, Nat.mod_eq_of_lt (crc_lt _ _)]⟩

theorem test_HostLink_17 : ∃ s : State, s.gated 1 = false ∧ s.on R.PST_STATUS_VERIFY_BUSY = true ∧ s.bankCrc s.stagedBank ≠ s.rd R.PST_BANK_EXP_VALUE :=
  ⟨verifying 1, (verifying_holds 1).1, (verifying_holds 1).2.1, by rw [(verifying_holds 1).2.2]; have := crc_lt (verifying 1) (verifying 1).stagedBank; omega⟩

theorem test_HostLink_18 : ∃ (s : State) (b : Bool), s.gated 5 = false :=
  ⟨go [], false, by decide +kernel⟩

theorem test_HostLink_19 : ∃ (s : State), s.gated 5 = false :=
  ⟨go [], by decide +kernel⟩


end Sys2Proof.Tests
end

section
/-! PROOFS. The order of wrapping counters (R12). -/

-- One proof at a time: the package as one text then takes less memory.
set_option Elab.async false

namespace Sys2Proof.Machine

open Sys2Proof

theorem int_two_pow (k : Nat) : (2 : Int) ^ k = ((2 ^ k : Nat) : Int) := by push_cast; rfl

/-- The natural difference that `laterThan` forms is the difference modulo 2^n. -/
theorem wrapDiff_eq (n a b : Nat) : (((a + 2 ^ n - b % 2 ^ n) % 2 ^ n : Nat) : Int) = ((a : Int) - b) % 2 ^ n := by
  have hb : b % 2 ^ n ≤ a + 2 ^ n := by
    have := Nat.mod_lt b (Nat.two_pow_pos n)
    omega
  push_cast [Nat.cast_sub hb]
  rw [Int.sub_emod, Int.add_emod_right, Int.emod_emod, ← Int.sub_emod]

/-- `laterThan` in the words of R12. -/
theorem laterThan_eq_decide (n a b : Nat) :
    laterThan n a b = decide (0 < ((a : Int) - b) % 2 ^ n ∧ ((a : Int) - b) % 2 ^ n < 2 ^ (n - 1)) := by
  simp only [laterThan, ← wrapDiff_eq, Bool.decide_and]
  norm_cast

theorem laterThan_iff {n a b : Nat} :
    laterThan n a b = true ↔ 0 < ((a : Int) - b) % 2 ^ n ∧ ((a : Int) - b) % 2 ^ n < 2 ^ (n - 1) := by
  rw [laterThan_eq_decide, decide_eq_true_eq]

/-- For counters below 2^n, being later is a matter of their difference alone: it lies in (0, 2^(n−1)), or below −2^(n−1). -/
theorem laterThan_iff_of_lt {n a b : Nat} (hn : 0 < n) (ha : a < 2 ^ n) (hb : b < 2 ^ n) :
    laterThan n a b = true ↔ (b < a ∧ a < b + 2 ^ (n - 1)) ∨ a + 2 ^ (n - 1) < b := by
  obtain ⟨m, rfl⟩ : ∃ m, n = m + 1 := ⟨n - 1, by omega⟩
  simp only [laterThan_iff, Nat.add_sub_cancel, int_two_pow, pow_succ] at ha hb ⊢
  generalize 2 ^ m = h at *
  rcases Nat.lt_or_ge a b with hab | hab
  · have : ((a : Int) - b) % ((h : Int) * 2) = a - b + h * 2 := by
      rw [← Int.add_emod_right, Int.emod_eq_of_lt] <;> omega
    omega
  · rw [Int.emod_eq_of_lt (by omega) (by omega)]
    omega

/-- Settles O7: below 2^n the three exceptional cases and the exclusion are facts about the difference. -/
theorem sequenceOrder : Obligations.SequenceOrder := by
  refine ⟨fun n a b _ => laterThan_eq_decide n a b, fun n a b hn ha hb => ?_, by decide⟩
  have hab := laterThan_iff_of_lt hn ha hb
  have hba := laterThan_iff_of_lt hn hb ha
  rw [int_two_pow]
  have hpos := Nat.two_pow_pos (n - 1)
  have hn2 : 2 ^ n = 2 ^ (n - 1) * 2 := by rw [← pow_succ, Nat.sub_add_cancel hn]
  simp only [← Bool.not_eq_true]
  generalize 2 ^ (n - 1) = h at *
  refine ⟨?_, ?_, ?_, ?_⟩ <;> simp only [hab, hba] <;> omega

end Sys2Proof.Machine
end

section
/-! PROOFS. Fields of registers, counters and memory bytes (R14): what is written reads back, and canonical files are determined by what they read as. -/

-- One proof at a time: the package as one text then takes less memory.
set_option Elab.async false

namespace Sys2Proof.Machine

open Sys2Proof

/-! ### Registers, counters and memory bytes (R14) -/

section
variable {s t : State} {f g : Fld} {p : Part} {a b n v : Nat}

/-- The mask of an operation, as the list of the parts it may change. -/
theorem Good.same_off {W : Nat} (h : Good W s t) (ps : List Part) (hW : W = Part.mask ps) (hp : p ∉ ps) : p.same s t :=
  h.same p (hW ▸ Part.mask_bit hp)

/-- An operation whose mask is the register file's alone. -/
theorem Good.same_off_regs (h : Good 1 s t) (hp : p ≠ .regs) : p.same s t := h.same_off [.regs] rfl (by simpa using hp)

/-- A counter of 32 bits counts `n` more and saturates. -/
theorem State.rd_count_word (hlo : f.lo = 0) (hhi : f.hi = 31) : (s.count f n).rd f = min 0xFFFFFFFF (s.rd f + n) := by
  have hlt : bitsOf (s.word f) f.hi f.lo < 2 ^ (f.hi - f.lo + 1) := bitsOf_lt
  rw [← State.rd, hlo, hhi] at hlt
  unfold State.count
  split
  · omega
  · rw [State.rd_wr_self (by omega), hlo, hhi, Nat.mod_eq_of_lt (by omega)]

/-- Bytes outside the list written are as they were. -/
theorem State.byte_setBytes_outside {vs : List Byte} (h : b < a ∨ a + vs.length ≤ b) : (s.setBytes a vs).byte b = s.byte b := by
  induction vs generalizing s a with
  | nil => rfl
  | cons v vs ih =>
    rw [List.length_cons] at h
    rw [State.setBytes, ih (by omega), State.byte_setByte_other (by omega)]

/-- Bytes written read back. -/
theorem State.bytes_setBytes (s : State) (a : Nat) (vs : List Byte) : (s.setBytes a vs).bytes a vs.length = vs := by
  induction vs generalizing s a with
  | nil => rfl
  | cons v vs ih =>
    rw [List.length_cons, State.setBytes, State.bytes, ih, State.byte_setBytes_outside (by omega), State.byte_setByte_self]

theorem length_leBytes (n v : Nat) : (leBytes n v).length = n := by
  induction n generalizing v with
  | zero => rfl
  | succ n ih => rw [leBytes, List.length_cons, ih]

/-- Little-endian bytes spell the number, cut to their count. -/
theorem ofLeBytes_leBytes (n v : Nat) : ofLeBytes (leBytes n v) = v % 2 ^ (8 * n) := by
  induction n generalizing v with
  | zero => simp [leBytes, ofLeBytes, Nat.mod_one]
  | succ n ih =>
    have e : 2 ^ (8 * (n + 1)) = 256 * 2 ^ (8 * n) := by rw [Nat.mul_succ, Nat.pow_add, Nat.mul_comm]
    rw [leBytes, ofLeBytes, ih, BitVec.toNat_ofNat, e, Nat.mod_mul]

theorem State.load_store : (s.store a n v).load a n = v % 2 ^ (8 * n) := by
  have h := State.bytes_setBytes s a (leBytes n v)
  rw [length_leBytes] at h
  rw [State.load, State.store, h, ofLeBytes_leBytes]

theorem State.byte_store_outside (h : b < a ∨ a + n ≤ b) : (s.store a n v).byte b = s.byte b :=
  State.byte_setBytes_outside (by rwa [length_leBytes])

/-! ### Canonical sparse files are determined by what they read as -/

variable {α : Type} {d : α} {c c' : Cells α} {k : Nat}

theorem Cells.get_head {v : α} : Cells.get d ((k, v) :: c) k = v := if_pos rfl

/-- Below its keys a sparse file reads the default. -/
theorem Cells.get_of_above (h : c.above k = true) : c.get d k = d := by
  induction c with
  | nil => rfl
  | cons q rest ih =>
    simp only [Cells.above, Bool.and_eq_true, decide_eq_true_eq] at h
    rw [Cells.get, if_neg (by omega), ih h.2]

variable [DecidableEq α]

theorem Cells.wf_cons {v : α} :
    Cells.wf d ((k, v) :: c) = true ↔ c.above k = true ∧ v ≠ d ∧ c.wf d = true := by
  simp only [Cells.wf, Cells.sorted, List.all_cons, Bool.and_eq_true, decide_eq_true_eq]
  tauto

/-- The first key of a canonical file reads as something else than the default, so another file that reads alike has a key at or before it. -/
theorem Cells.head_le {k' : Nat} {v v' : α} (hw : Cells.wf d ((k, v) :: c) = true) (hw' : Cells.wf d ((k', v') :: c') = true)
    (h : Cells.get d ((k, v) :: c) k = Cells.get d ((k', v') :: c') k) : k' ≤ k := by
  obtain ⟨-, hv, -⟩ := Cells.wf_cons.mp hw
  obtain ⟨ha, -, -⟩ := Cells.wf_cons.mp hw'
  by_contra hk
  have e : Cells.get d ((k', v') :: c') k = d := by
    rw [Cells.get, if_neg (by omega), Cells.get_of_above (Cells.above_trans (by omega) ha)]
  exact hv (Cells.get_head.symm.trans (h.trans e))

/-- Canonical files that read alike are the same list. -/
theorem Cells.eq_of_get (hw : c.wf d = true) (hw' : c'.wf d = true) (h : ∀ k, c.get d k = c'.get d k) : c = c' := by
  induction c generalizing c' with
  | nil =>
    cases c' with
    | nil => rfl
    | cons q' rest' =>
      obtain ⟨-, hv, -⟩ := Cells.wf_cons.mp hw'
      exact absurd ((h q'.1).trans Cells.get_head).symm hv
  | cons q rest ih =>
    obtain ⟨k, v⟩ := q
    obtain ⟨ha, hv, hr⟩ := Cells.wf_cons.mp hw
    cases c' with
    | nil =>
      exact absurd (Cells.get_head.symm.trans (h k)) hv
    | cons q' rest' =>
      obtain ⟨k', v'⟩ := q'
      obtain ⟨ha', -, hr'⟩ := Cells.wf_cons.mp hw'
      have hk : k = k' := Nat.le_antisymm (Cells.head_le hw' hw (h k').symm) (Cells.head_le hw hw' (h k))
      subst hk
      rw [Cells.get_head.symm.trans ((h k).trans Cells.get_head), ih hr hr' fun j => ?_]
      have hj := h j
      rw [Cells.get, Cells.get] at hj
      split at hj
      · next e => rw [← e, Cells.get_of_above ha, Cells.get_of_above ha']
      · exact hj

end

/-- Settles O5: the field laws of the register file, little-endian bytes written and read back, and the uniqueness of canonical files. -/
theorem registersAndMemory : Obligations.RegistersAndMemory := by
  refine ⟨fun s f g v hf hg => ⟨State.rd_wr_self hf, State.rd_wr_addr, ?_, fun p => (State.wr_good s f v).same_off_regs⟩,
    fun s f n hlo hhi => State.rd_count_word hlo hhi,
    fun s a n v => ⟨State.load_store, fun b => State.byte_store_outside, fun p hp => (State.store_good s a n v).same_off [.mem] rfl (by simpa using hp)⟩, ?_⟩
  · intro ha hr hr96 hd
    exact State.rd_wr_bits ha ⟨hr, hr96⟩ hf hg hd
  · intro s t hs ht h
    simp only [State.canonical, Bool.and_eq_true] at hs ht
    exact Cells.eq_of_get hs.1.1 ht.1.1 h

end Sys2Proof.Machine
end

section
/-! PROOFS. The gain law (R153): the search of `gainLin` finds the largest gain that the law reaches. -/

-- One proof at a time: the package as one text then takes less memory.
set_option Elab.async false

namespace Sys2Proof.Machine

open Sys2Proof

section
variable {g : Int} {a b m n : Nat}

/-- What `gainAtLeast` compares for a code that raises the gain. -/
theorem gainAtLeast_natCast {k : Nat} : gainAtLeast k n = true ↔ (2 * n - 1) ^ 1000 ≤ 262144 ^ 1000 * 10 ^ k := by
  rw [gainAtLeast, if_neg (by omega), decide_eq_true_eq, Int.natAbs_natCast]

/-- What `gainAtLeast` compares for a code that lowers the gain; at 0 dB both comparisons are the same. -/
theorem gainAtLeast_neg_natCast {k : Nat} : gainAtLeast (-(k : Int)) n = true ↔ (2 * n - 1) ^ 1000 * 10 ^ k ≤ 262144 ^ 1000 := by
  cases k with
  | zero => rw [Nat.cast_zero, neg_zero, pow_zero, mul_one, ← Nat.cast_zero, gainAtLeast_natCast, pow_zero, mul_one]
  | succ k => rw [gainAtLeast, if_pos (by omega), decide_eq_true_eq, Int.natAbs_neg, Int.natAbs_natCast]

theorem gainAtLeast_natCast_succ {k : Nat} : gainAtLeast k (n + 1) = false ↔ 262144 ^ 1000 * 10 ^ k < (2 * n + 1) ^ 1000 := by
  rw [← Bool.not_eq_true, gainAtLeast_natCast, not_le, show 2 * (n + 1) - 1 = 2 * n + 1 from rfl]

theorem gainAtLeast_neg_natCast_succ {k : Nat} :
    gainAtLeast (-(k : Int)) (n + 1) = false ↔ 262144 ^ 1000 < (2 * n + 1) ^ 1000 * 10 ^ k := by
  rw [← Bool.not_eq_true, gainAtLeast_neg_natCast, not_le, show 2 * (n + 1) - 1 = 2 * n + 1 from rfl]

/-- A gain that the law reaches, it reaches from every lower one. -/
theorem gainAtLeast_mono (hmn : m ≤ n) (h : gainAtLeast g n = true) : gainAtLeast g m = true := by
  have hp : (2 * m - 1) ^ 1000 ≤ (2 * n - 1) ^ 1000 := pow_le_pow_left₀ (Nat.zero_le _) (by omega) _
  obtain ⟨k, rfl | rfl⟩ := g.eq_nat_or_neg
  · exact gainAtLeast_natCast.mpr (hp.trans (gainAtLeast_natCast.mp h))
  · exact gainAtLeast_neg_natCast.mpr ((Nat.mul_le_mul_right _ hp).trans (gainAtLeast_neg_natCast.mp h))

theorem gainAtLeast_zero : gainAtLeast g 0 = true := by
  have hz {k : Nat} (hk : k ≠ 0) : (2 * 0 - 1) ^ k = 0 := zero_pow hk
  obtain ⟨k, rfl | rfl⟩ := g.eq_nat_or_neg
  · rw [gainAtLeast_natCast, hz (by decide)]; exact Nat.zero_le _
  · rw [gainAtLeast_neg_natCast, hz (by decide), Nat.zero_mul]; exact Nat.zero_le _

/-- 12 dB are less than a factor of 16, since 10^6 < 16^5: both sides compared in powers. -/
theorem pow_twelve_dB {n : Nat} (hn : n ≠ 0) : 262144 ^ (5 * n) * 10 ^ (6 * n) < (2 * 2 ^ 22 - 1) ^ (5 * n) := by
  calc 262144 ^ (5 * n) * 10 ^ (6 * n) = 262144 ^ (5 * n) * (10 ^ 6) ^ n := by rw [pow_mul 10]
    _ < 262144 ^ (5 * n) * (16 ^ 5) ^ n := Nat.mul_lt_mul_of_pos_left (Nat.pow_lt_pow_left (by decide) hn) (Nat.pow_pos (by decide))
    _ = (262144 * 16) ^ (5 * n) := by rw [← pow_mul 16, Nat.mul_pow]
    _ ≤ (2 * 2 ^ 22 - 1) ^ (5 * n) := Nat.pow_le_pow_left (by decide) _

/-- The codes of R9 stay below 2^22, 16 times 262,144. -/
theorem gainAtLeast_top (hg : g ≤ 1200) : gainAtLeast g (2 ^ 22) = false := by
  have h12 := pow_twelve_dB (n := 200) (by decide)
  simp only [Nat.reduceMul] at h12
  rw [← Bool.not_eq_true]
  obtain ⟨k, rfl | rfl⟩ := g.eq_nat_or_neg
  · rw [gainAtLeast_natCast, not_le]
    refine h12.trans_le' (Nat.mul_le_mul_left _ ?_)
    exact pow_le_pow_right₀ (by decide) (Int.ofNat_le.mp hg)
  · rw [gainAtLeast_neg_natCast, not_le]
    refine lt_of_le_of_lt ?_ (lt_of_lt_of_le h12 (Nat.le_mul_of_pos_right _ ?_))
    · exact Nat.le_mul_of_pos_right _ (pow_pos (by decide) _)
    · exact Nat.pow_pos (by decide)

/-- The search finds the largest gain that the law reaches, when it lies in the range searched. -/
theorem gainSearch_spec (hlo : gainAtLeast g a = true) (hhi : gainAtLeast g (a + 2 ^ b) = false) :
    gainAtLeast g (gainSearch g b a) = true ∧ gainAtLeast g (gainSearch g b a + 1) = false := by
  induction b generalizing a with
  | zero => exact ⟨hlo, hhi⟩
  | succ b ih =>
    rw [gainSearch]
    by_cases h : gainAtLeast g (a + 2 ^ b) = true
    · rw [if_pos h]
      have e : a + 2 ^ b + 2 ^ b = a + 2 ^ (b + 1) := by ring
      exact ih h (e ▸ hhi)
    · rw [if_neg h]
      exact ih hlo (Bool.not_eq_true _ ▸ h)

/-- Unity gain: 0 dB is 131,072 exactly. -/
theorem gainAtLeast_unity : gainAtLeast 0 131072 = true ∧ gainAtLeast 0 (131072 + 1) = false := by
  have e (n : Nat) : gainAtLeast 0 n = true ↔ 2 * n - 1 ≤ 262144 := by
    rw [← Nat.cast_zero, gainAtLeast_natCast, pow_zero, mul_one, Nat.pow_le_pow_iff_left (by decide)]
  rw [← Bool.not_eq_true, e, e]
  decide

/-- Within the range of R9 the linear gain is the largest that the law reaches. -/
theorem gainLin_spec (hlo : -6000 ≤ g) (hhi : g ≤ 1200) :
    gainAtLeast g (gainLin g) = true ∧ gainAtLeast g (gainLin g + 1) = false := by
  rw [gainLin, if_neg (by omega)]
  split
  · next h0 => exact h0 ▸ gainAtLeast_unity
  · rw [clampCode, clampI, if_neg (by omega), if_neg (by omega)]
    exact gainSearch_spec gainAtLeast_zero (by rw [Nat.zero_add]; exact gainAtLeast_top hhi)

/-- A code other than that of silence and 0 dB acts through the limits of R9 alone. -/
theorem gainLin_eq_search (hs : g ≠ -32768) (h0 : g ≠ 0) : gainLin g = gainSearch (clampCode g) 22 0 := by
  rw [gainLin, if_neg hs, if_neg h0]

theorem gainLin_congr {h : Int} (hgh : clampCode g = clampCode h) (hg : g ≠ -32768 ∧ g ≠ 0) (hh : h ≠ -32768 ∧ h ≠ 0) :
    gainLin g = gainLin h := by
  rw [gainLin_eq_search hg.1 hg.2, gainLin_eq_search hh.1 hh.2, hgh]

end

/-- Settles O8: `gainLin` is the largest n that `gainAtLeast` admits, and `gainAtLeast` is the comparison of the law in 1,000th powers. -/
theorem gainLaw : Obligations.GainLaw := by
  refine ⟨rfl, fun g h1 h2 => ?_, fun g h => ?_, fun g hg => ?_, fun g hg => ?_⟩
  · exact gainLin_congr (if_pos h2) (by omega) (by decide)
  · exact gainLin_congr ((if_neg (by omega)).trans (if_pos h)) (by omega) (by decide)
  · exact (gainLin_spec (by omega) (by omega)).imp gainAtLeast_natCast.mp gainAtLeast_natCast_succ.mp
  · exact (gainLin_spec (by omega) (by omega)).imp gainAtLeast_neg_natCast.mp gainAtLeast_neg_natCast_succ.mp

end Sys2Proof.Machine
end

section
/-! PROOFS. The commands that read and write by identifier or address (R309, R395, R401). -/

-- One proof at a time: the package as one text then takes less memory.
set_option Elab.async false

namespace Sys2Proof.Machine

open Sys2Proof

section
variable {s a : State} {h : Hdr} {d : OpInfo} {i : Nat} {c : Bool} {st : Status} {ss : List Status}

theorem firstBad_cons_ok : firstBad (.ok :: ss) = firstBad ss := rfl

theorem firstBad_of_all_ok (hs : ∀ st ∈ ss, st = .ok) : firstBad ss = .ok := by
  induction ss with
  | nil => rfl
  | cons st ss ih =>
    rw [hs st List.mem_cons_self, firstBad_cons_ok]
    exact ih fun st h => hs st (List.mem_cons_of_mem _ h)

theorem badUnless_of (hc : c = true) : badUnless c = .ok := if_pos hc

theorem countIn_of_le {lo hi n : Nat} (h1 : lo ≤ n) (h2 : n ≤ hi) : countIn lo hi n = .ok := if_pos (by simp [h1, h2])

/-- An accepted command without a timed form whose own checks pass: it acts on the state it was accepted in, and its reply follows. -/
theorem State.receive_untimed {chk : State → Nat → OpCheck} {run : State → Nat → State × Option (Status × List Byte)} {t : State} {data : List Byte}
    (ht : s.takes h d i a) (hd : d.timed = .no) (hc : chk a i = ⟨true, true, false, .ok⟩) (hr : run a i = (t, some (.ok, data))) :
    s.receive h d chk run = t.reply i d.code h.seq.toNat .ok data true := by
  rw [State.receive_takes ht (by rw [hc]) (by rw [hc]) (by rw [hc]) (by rw [hc]), State.takes_untimed ht hd, State.takePlace_false, hr]

/-- A read answers four bytes for each word. -/
theorem State.length_rawWords (s : State) (x n : Nat) : (s.rawWords x n).1.length = 4 * n := by
  induction n generalizing s x with
  | zero => rfl
  | succ n ih => rw [State.rawWords, List.length_append, ih]; simp [leBytes]; omega

theorem rawStatus_ok {x n : Nat} (h1 : 1 ≤ n) (h2 : n ≤ 256) (h4 : x % 4 = 0) : rawStatus x n = .ok := by
  rw [rawStatus, countIn_of_le h1 h2, firstBad_cons_ok, badUnless_of (decide_eq_true h4)]
  rfl

end

/-- Settles O40: each command passes its own checks, and what it runs is the reading or writing named. -/
theorem readCommands : Obligations.ReadCommands := by
  refine ⟨fun s a h i pids ht hl h1 h2 hp => ?_, fun s a h i ids ht hl h1 h2 hp => ?_,
    fun s a h i addr n ht hl hm h1 h2 h4 => ⟨?_, State.length_rawWords _ _ _⟩, fun s a h i addr ws ht hl hm h1 h2 h4 => ?_⟩
  · exact congrArg _ (State.receive_untimed ht rfl (by
      rw [hl, countIn_of_le h1 h2, firstBad_cons_ok, firstBad_of_all_ok (by simpa using hp)]) rfl)
  · exact congrArg _ (State.receive_untimed ht rfl (by
      rw [hl, countIn_of_le h1 h2, firstBad_cons_ok, firstBad_of_all_ok (by simpa using fun n hn => badUnless_of (hp n hn))]) rfl)
  · exact congrArg _ (State.receive_untimed ht rfl (by rw [hl, rawStatus_ok h1 h2 h4, hm]; simp) rfl)
  · exact congrArg _ (State.receive_untimed ht rfl (by rw [hl, rawStatus_ok h1 h2 h4, hm]; simp) rfl)

end Sys2Proof.Machine
end

section
/-! PROOFS. Accesses of a master (R14, R53, R328–R332): the grant, where an address leads, and what a write does there. -/

-- One proof at a time: the package as one text then takes less memory.
set_option Elab.async false

namespace Sys2Proof.Machine

open Sys2Proof

section
variable {s t : State} {f g : Fld} {p m c a b w l n v k : Nat}

/-! ### One bit and one lane -/

theorem bitOf_toNat {z : Nat} {x : BitVec z} {i : Nat} : bitOf x.toNat i = x.getLsbD i := by
  rw [bitOf, BitVec.getLsbD, Nat.testBit_eq_decide_div_mod_eq, Nat.shiftRight_eq_div_pow]

theorem laneMask_full : laneMask 15 = 0xFFFFFFFF := by decide

/-- Bytes of a word at the lanes named, one after another from a key up. -/
theorem State.byte_foldl_lanes (x : Nat) :
    ((List.range n).foldl (fun s i => if bitOf l i then s.setByte (k + i) (BitVec.ofNat 8 (w >>> (8 * i))) else s) s).byte x =
      if k ≤ x ∧ x < k + n ∧ bitOf l (x - k) = true then BitVec.ofNat 8 (w >>> (8 * (x - k))) else s.byte x := by
  induction n with
  | zero => rw [if_neg (by omega)]; rfl
  | succ n ih =>
    rw [List.range_succ, List.foldl_concat]
    by_cases hx : x = k + n
    · subst hx
      rw [if_neg (by omega)] at ih
      rw [Nat.add_sub_cancel_left]
      split
      · next hl => rw [State.byte_setByte_self, if_pos ⟨by omega, by omega, hl⟩]
      · next hl => rw [ih, if_neg fun ⟨_, _, h⟩ => hl h]
    · have hlt : x < k + (n + 1) ↔ x < k + n := by omega
      simp only [hlt]
      rw [← ih]
      split
      · exact State.byte_setByte_other hx
      · rfl

theorem State.byte_putLanes (x : Nat) : (s.putLanes k w l).byte x =
    if k ≤ x ∧ x < k + 4 ∧ bitOf l (x - k) = true then BitVec.ofNat 8 (w >>> (8 * (x - k))) else s.byte x :=
  State.byte_foldl_lanes x

/-- A byte of the word written from an address on: the lanes named take their bytes. -/
theorem State.byte_putLanes_lane {z : BitVec 4} (hk : k < 4) :
    (s.putLanes a w z.toNat).byte (a + k) = if z.getLsbD k then BitVec.ofNat 8 (w >>> (8 * k)) else s.byte (a + k) := by
  rw [State.byte_putLanes, Nat.add_sub_cancel_left, bitOf_toNat]
  simp only [Nat.le_add_right, Nat.add_lt_add_left hk, true_and]

theorem State.byte_putLanes_outside {x : Nat} (h : x < a ∨ a + 4 ≤ x) : (s.putLanes a w l).byte x = s.byte x := by
  rw [State.byte_putLanes, if_neg (by omega)]

theorem State.fabAt_putLanes : (s.putLanes a w l).fabAt p = s.fabAt p :=
  congrArg (Cells.get fabReset · p) ((State.putLanes_good s a w l).same .fab rfl)

/-! ### Words of registers -/

theorem State.getReg_congr (hr : t.regs.get 0 a = s.regs.get 0 a) (hs : t.straps = s.straps) : t.getReg a = s.getReg a := by
  simp only [State.getReg, hr, hs]

theorem State.rd_of_cell (hr : t.regs.get 0 f.addr = s.regs.get 0 f.addr) (hs : t.straps = s.straps) : t.rd f = s.rd f := by
  simp only [State.rd, State.word, State.rstOf, hr, hs]

theorem State.cell_wr (h : b ≠ f.addr) : (s.wr f v).regs.get 0 b = s.regs.get 0 b := Cells.get_set_other h

theorem State.cell_bump (h : b ≠ f.addr) : (s.bump f).regs.get 0 b = s.regs.get 0 b := State.cell_wr h

theorem State.getReg_setReg_self : (s.setReg a v).getReg a = v % 2 ^ 32 := by
  unfold State.getReg State.setReg
  simp only [Cells.get_set_self]
  rw [Nat.xor_assoc, Nat.xor_self, Nat.xor_zero]

theorem State.getReg_setReg_other (h : b ≠ a) : (s.setReg a v).getReg b = s.getReg b :=
  State.getReg_congr (Cells.get_set_other h) rfl

theorem State.rd_setReg (h : f.addr ≠ a) : (s.setReg a v).rd f = s.rd f := State.rd_of_cell (Cells.get_set_other h) rfl

theorem State.rd_bump_addr (h : g.addr ≠ f.addr) : (s.bump f).rd g = s.rd g := State.rd_wr_addr h

/-- A flag that is set reads set. -/
theorem State.on_flag_self (h : f.lo ≤ f.hi) : (s.flag f).on f = true := by
  rw [State.on, State.flag, State.rd_wr_self h, Nat.mod_eq_of_lt (Nat.one_lt_two_pow (Nat.succ_ne_zero _))]
  rfl

/-! ### The error register (R330) -/

/-- The registers of the fabric's error log. -/
def errorRegs : List Nat := [R.FAB_ERRLOG_ADDR.addr, R.FAB_ERRINFO_w.addr, R.FAB_CNT_ERR_VALUE.addr]

theorem State.busError_of_logged {wr : Bool} (hv : s.on R.FAB_ERRINFO_VALID = true) :
    s.busError m c a wr k = s.bump R.FAB_CNT_ERR_VALUE := by
  have hv' : (s.bump R.FAB_CNT_ERR_VALUE).on R.FAB_ERRINFO_VALID = true := by
    rw [State.on, State.rd_bump_addr (by decide)]; exact hv
  exact if_pos hv'

theorem State.busError_of_unlogged {wr : Bool} (hv : s.on R.FAB_ERRINFO_VALID = false) :
    s.busError m c a wr k = ((((((s.bump R.FAB_CNT_ERR_VALUE).wr R.FAB_ERRLOG_ADDR a).wr R.FAB_ERRINFO_VALID 1).wr R.FAB_ERRINFO_KIND k).wr
      R.FAB_ERRINFO_WRITE (b2n wr)).wr R.FAB_ERRINFO_MASTER m).wr R.FAB_ERRINFO_CORE (if m < 4 then c else 0) := by
  have hv' : (s.bump R.FAB_CNT_ERR_VALUE).on R.FAB_ERRINFO_VALID = false := by
    rw [State.on, State.rd_bump_addr (by decide)]; exact hv
  exact if_neg (hv' ▸ Bool.false_ne_true)

theorem not_mem_errorRegs_of_tally (h : 0x50070000 ≤ b) : b ∉ errorRegs := fun hb => by
  have hall : ∀ x ∈ errorRegs, x < 0x50070000 := by decide
  exact absurd (hall b hb) (by omega)

/-- An error touches no other register than the log's and the counter. -/
theorem State.cell_busError {wr : Bool} (h : b ∉ errorRegs) : (s.busError m c a wr k).regs.get 0 b = s.regs.get 0 b := by
  have ne (f : Fld) (hf : f.addr ∈ errorRegs) : b ≠ f.addr := fun e => h (e ▸ hf)
  cases hv : s.on R.FAB_ERRINFO_VALID with
  | true => rw [State.busError_of_logged hv, State.cell_bump (ne _ (by decide))]
  | false =>
    rw [State.busError_of_unlogged hv]
    simp (disch := exact ne _ (by decide)) only [State.cell_wr, State.cell_bump]

theorem State.straps_busError {wr : Bool} : (s.busError m c a wr k).straps = s.straps :=
  (State.busError_good s m c a wr k).same .straps rfl

theorem State.rd_busError {wr : Bool} (h : f.addr ∉ errorRegs) : (s.busError m c a wr k).rd f = s.rd f :=
  State.rd_of_cell (State.cell_busError h) State.straps_busError

theorem State.getReg_busError {wr : Bool} (h : b ∉ errorRegs) : (s.busError m c a wr k).getReg b = s.getReg b :=
  State.getReg_congr (State.cell_busError h) State.straps_busError

/-- Every error counts. -/
theorem State.rd_busError_count {wr : Bool} :
    (s.busError m c a wr k).rd R.FAB_CNT_ERR_VALUE = min 0xFFFFFFFF (s.rd R.FAB_CNT_ERR_VALUE + 1) := by
  rw [← State.rd_bump_self ⟨rfl, rfl⟩]
  cases hv : s.on R.FAB_ERRINFO_VALID with
  | true => rw [State.busError_of_logged hv]
  | false =>
    rw [State.busError_of_unlogged hv]
    simp (disch := decide) only [State.rd_wr_addr]

/-- The first error is logged whole. -/
theorem State.busError_logs {wr : Bool} (hv : s.on R.FAB_ERRINFO_VALID = false) :
    let t := s.busError m c a wr k
    t.on R.FAB_ERRINFO_VALID = true ∧ t.rd R.FAB_ERRINFO_KIND = k % 8 ∧ t.on R.FAB_ERRINFO_WRITE = wr ∧
      t.rd R.FAB_ERRINFO_MASTER = m % 16 ∧ t.rd R.FAB_ERRINFO_CORE = (if m < 4 then c else 0) % 32 ∧ t.rd R.FAB_ERRLOG_ADDR = a % 2 ^ 32 := by
  rw [State.busError_of_unlogged hv]
  simp only [State.on]
  simp (disch := decide) only [State.rd_wr_self, State.rd_wr_addr, State.rd_wr_bits]
  exact ⟨by decide, rfl, by cases wr <;> rfl, rfl, rfl, rfl⟩

/-- A read of the error register clears it and the address. -/
theorem State.rd_clearErrors : s.clearErrors.rd R.FAB_ERRINFO_w = 0 ∧ s.clearErrors.rd R.FAB_ERRLOG_ADDR = 0 := by
  unfold State.clearErrors
  simp (disch := decide) only [State.rd_wr_self, State.rd_wr_addr]
  decide

/-! ### The remap (R334) -/

/-- A write of SYS_REMAP takes SWAP while it is unlocked, and LOCK for good. -/
theorem State.writeRemap_spec {x : BitVec 32} :
    (s.writeRemap x.toNat).on R.SYS_REMAP_SWAP = (if s.on R.SYS_REMAP_LOCK then s.on R.SYS_REMAP_SWAP else x.getLsbD 0) ∧
      (s.writeRemap x.toNat).on R.SYS_REMAP_LOCK = (s.on R.SYS_REMAP_LOCK || x.getLsbD 1) := by
  have hb : bitOf x.toNat 1 = x.getLsbD 1 := bitOf_toNat
  have hw : decide (x.toNat % 2 = 1) = x.getLsbD 0 := bitOf_toNat (i := 0)
  have hswap (u : State) : (u.wr R.SYS_REMAP_SWAP x.toNat).on R.SYS_REMAP_SWAP = x.getLsbD 0 := by
    rw [State.on, State.rd_wr_self (by decide)]; exact hw
  have hkeep (u : State) : (u.wr R.SYS_REMAP_SWAP x.toNat).on R.SYS_REMAP_LOCK = u.on R.SYS_REMAP_LOCK := by
    rw [State.on, State.rd_wr_bits (f := R.SYS_REMAP_SWAP) (g := R.SYS_REMAP_LOCK) rfl ⟨rfl, rfl⟩ (by decide) (by decide) (by decide), State.on]
  have hflag (u : State) : (u.flag R.SYS_REMAP_LOCK).on R.SYS_REMAP_SWAP = u.on R.SYS_REMAP_SWAP := by
    rw [State.on, State.flag, State.rd_wr_bits (f := R.SYS_REMAP_LOCK) (g := R.SYS_REMAP_SWAP) rfl ⟨rfl, rfl⟩ (by decide) (by decide) (by decide), State.on]
  have hlock (u : State) : (u.flag R.SYS_REMAP_LOCK).on R.SYS_REMAP_LOCK = true := State.on_flag_self (by decide)
  unfold State.writeRemap State.when
  rw [hb]
  cases hl : s.on R.SYS_REMAP_LOCK <;> cases h1 : x.getLsbD 1 <;> simp [hl, hswap, hkeep, hflag, hlock]

/-! ### Cores at rest stay at rest -/

/-- The registers that decide whether a stalled core goes on: the cores' own, and the gates'. -/
def restRegs (f : Fld) : Prop := f.addr < 0x40000000 ∨ f.addr = R.CLK_GATE_NOW_VALUE.addr

theorem restRegs_not_mem_errorRegs (h : restRegs f) : f.addr ∉ errorRegs := fun hf => by
  have hall : ∀ x ∈ errorRegs, 0x40000000 ≤ x ∧ x ≠ R.CLK_GATE_NOW_VALUE.addr := by decide
  obtain ⟨hlow, hgate⟩ := hall _ hf
  exact h.elim (fun h => absurd hlow (by omega)) hgate

theorem restRegs_ne_tally (h : restRegs f) (h1 : 0x50070000 ≤ a) : f.addr ≠ a := fun e => by
  have hgate : R.CLK_GATE_NOW_VALUE.addr < 0x50070000 := by decide
  rcases h with h | h <;> omega

theorem State.gated_congr (hr : t.rd R.CLK_GATE_NOW_VALUE = s.rd R.CLK_GATE_NOW_VALUE) (hk : t.clk = s.clk) : t.gated b = s.gated b := by
  simp only [State.gated, hr, hk]

theorem State.unstalls_congr (hc : t.cores = s.cores) (hk : t.clk = s.clk) (hr : ∀ f, restRegs f → t.rd f = s.rd f) (h : k < 32) :
    t.unstalls k = s.unstalls k := by
  have h1 : t.coreState k = s.coreState k := hr _ (.inl (show 0x30800004 + 65536 * k < _ by omega))
  have h2 : t.on (R.DRV_CTRL_RUN k) = s.on (R.DRV_CTRL_RUN k) := by
    rw [State.on, hr _ (.inl (show 0x30800000 + 65536 * k < _ by omega)), State.on]
  simp only [State.unstalls, State.core_congr hc, h1, h2, State.gated_congr (hr _ (.inr rfl)) hk]

theorem State.rests_congr (hc : t.cores = s.cores) (hk : t.clk = s.clk) (hr : ∀ f, restRegs f → t.rd f = s.rd f) : t.rests = s.rests := by
  unfold State.rests
  rw [hc]
  congr 1
  funext q
  by_cases h : q.1 < 32
  · rw [State.unstalls_congr hc hk hr h]
  · simp [h]

/-- An operation that leaves registers, cores and clocks alone leaves the cores at rest. -/
theorem State.rests_of_good {W : Nat} (g : Good W s t) (h : ∀ q ∈ [Part.regs, .straps, .cores, .clk], W.testBit q.idx = false) : t.rests = s.rests :=
  State.rests_congr (g.same .cores (h _ (by decide))) (g.same .clk (h _ (by decide))) fun _ _ =>
    State.rd_congr (g.same .regs (h _ (by decide))) (g.same .straps (h _ (by decide)))

/-- Errors are logged in registers that no core heeds. -/
theorem State.rests_busError {wr : Bool} : (s.busError m c a wr k).rests = s.rests :=
  State.rests_congr ((State.busError_good s m c a wr k).same .cores rfl) ((State.busError_good s m c a wr k).same .clk rfl) fun _ hf =>
    State.rd_busError (restRegs_not_mem_errorRegs hf)

/-- No core heeds Tally's registers either. -/
theorem State.rests_setReg_tally (h1 : 0x50070000 ≤ a) : (s.setReg a v).rests = s.rests :=
  State.rests_congr rfl rfl fun _ hf => State.rd_setReg (restRegs_ne_tally hf h1)

/-! ### The grant of a port (R332) -/

/-- The state after a master's access took its grant at a port where none waited. -/
def State.granted (s : State) (p m : Nat) : State :=
  (s.fabAsk p ⟨m, 0, none⟩).setFab p ⟨some m, [], (s.fabAt p).last = some m⟩

theorem State.fabPick_alone {x : FabPort} {r : FabReq} (hx : x.waiting = [r]) : s.fabPick x = some r := by
  unfold State.fabPick
  rw [hx]
  cases h : s.fabUrgent r <;> simp [h]

/-- A port where one burst waits grants it, and none waits on. -/
theorem State.fabGrant_alone {r : FabReq} (hx : (s.fabAt p).waiting = [r]) :
    s.fabGrant p = (some r, s.setFab p ⟨some r.master, [], (s.fabAt p).last = some r.master⟩) := by
  unfold State.fabGrant
  simp [State.fabPick_alone hx, hx, State.count]

/-- An access at a port where none waits takes its grant at once. -/
theorem State.fabUse_idle (hp : fabPort a = some p) (hw : (s.fabAt p).waiting = []) : s.fabUse m a = s.granted p m := by
  have hx : (s.fabAsk p ⟨m, 0, none⟩).fabAt p = { s.fabAt p with waiting := [⟨m, 0, none⟩] } := by
    unfold State.fabAsk
    rw [hw]
    exact Cells.get_set_self
  have hg := State.fabGrant_alone (congrArg FabPort.waiting hx)
  unfold State.fabUse
  rw [hp]
  simp only [State.fabUntil, State.fabServe, hg, State.granted, hx]

theorem State.granted_good : Good (Part.mask [.fab]) s (s.granted p m) := Good.upd_fab rfl (Good.upd_fab rfl Good.refl)

/-- A grant at an instant changes the time and the port alone. -/
theorem State.granted_atRaw_good : Good (Part.mask [.tm, .fab]) s ((s.atRaw n).granted p m) :=
  State.granted_good.step rfl ((State.atRaw_good s n).step rfl Good.refl)

theorem State.fabAt_granted : ((s.granted p m).fabAt p).last = some m := by
  simp only [State.granted, State.fabAt, State.setFab, Cells.get_set_self]

/-! ### A write that has its grant -/

/-- The Bellwether's vote changes nothing where no fault is injected; the other masters do not vote. -/
theorem State.voted_quiet (h : m ≠ mBellwether ∨ s.bwt.inject = none) : s.when (m = mBellwether) (·.votedWrite a) = s := by
  unfold State.when
  split
  · next hm =>
    have hi : s.bwt.inject = none := h.resolve_left (not_not.mpr (of_decide_eq_true hm))
    simp only [State.votedWrite, hi]
  · rfl

theorem State.busWrite_bad (hv : m ≠ mBellwether ∨ s.bwt.inject = none) (hl : s.locate m a = .bad k) :
    s.busWrite m c a w l = s.busError m c a true k := by
  unfold State.busWrite
  rw [State.voted_quiet hv]
  simp only [hl]

theorem State.busWrite_mem (hv : m ≠ mBellwether ∨ s.bwt.inject = none) (hl : s.locate m a = .mem k) (hp : fabPort a = some p)
    (hw : (s.fabAt p).waiting = []) : s.busWrite m c a w l = (s.granted p m).memWrite k w l := by
  unfold State.busWrite
  rw [State.voted_quiet hv]
  simp only [hl, State.fabUse_idle hp hw, State.spotWrite]

theorem State.busWrite_reg (hv : m ≠ mBellwether ∨ s.bwt.inject = none) (hl : s.locate m a = .reg k) (hp : fabPort a = some p)
    (hw : (s.fabAt p).waiting = []) : s.busWrite m c a w l = (s.granted p m).spotWrite m c a (.reg k) w l := by
  unfold State.busWrite
  rw [State.voted_quiet hv]
  simp only [hl, State.fabUse_idle hp hw]

/-! ### Where an address leads (R328, R329) -/

/-- The on-chip memory of history, history rings and landing, behind its gate. -/
theorem State.locate_history (hg : s.gated 3 = false) (h1 : 0x20000000 ≤ a) (h2 : a < 0x20600000) : s.locate m a = .mem a := by
  unfold State.locate
  rw [if_neg (show ¬ a < 0x80000 by omega), if_neg, if_pos, State.behind, hg, if_neg Bool.false_ne_true]
  all_goals simp only [Bool.and_eq_true, decide_eq_true_eq]; omega

/-- The peripherals are the Bellwether's alone, and nothing stands from 0x500B_0000 up. -/
theorem State.locate_peripheral_foreign (hm : m ≠ mBellwether) (h1 : 0x50000000 ≤ a) (h2 : a < 0x80000000) :
    s.locate m a = .bad (if a < 0x500B0000 then 1 else 0) := by
  unfold State.locate forBell
  simp [hm, h1, show ¬ a < 0x80000 by omega, show ¬ a < 0x10080000 by omega, show ¬ a < 0x20600000 by omega, show ¬ a < 0x20801000 by omega,
    show ¬ a < 0x30A10000 by omega, show ¬ a < 0x40700000 by omega, show ¬ a < 0x40700800 by omega, show ¬ a < 0x40701000 by omega,
    show ¬ 0x80000000 ≤ a by omega]
  split <;> rfl

/-- The registers of Tally, behind their gate. -/
theorem State.locate_tally (hg : s.gated 19 = false) (h1 : 0x50070000 ≤ a) (h2 : a < 0x50080000) : s.locate mBellwether a = .reg a := by
  have hi : perGate ((a - 0x50000000) / 0x10000) = some 19 := by
    rw [show (a - 0x50000000) / 0x10000 = 7 by omega]; rfl
  unfold State.locate
  rw [if_neg (show ¬ a < 0x80000 by omega), if_neg, if_neg, if_neg, if_neg, if_neg, if_neg, if_neg, if_pos, forBell, if_pos rfl, hi]
  · exact if_neg (hg ▸ Bool.false_ne_true)
  all_goals simp only [Bool.and_eq_true, decide_eq_true_eq]; omega

theorem fabPort_history (h1 : 0x20000000 ≤ a) (h2 : a < 0x20800000) : fabPort a = some 2 := by
  rw [fabPort, if_neg (by omega), if_neg (by omega), if_pos h2]

theorem fabPort_peripheral (h1 : 0x50050000 ≤ a) (h2 : a < 0x80000000) : fabPort a = some 21 := by
  unfold fabPort
  iterate 18 rw [if_neg (by omega)]
  exact if_pos h2

/-! ### What a write does there -/

theorem State.spotWrite_reg_narrow (h : 0x50000000 ≤ a) (hl : l % 16 ≠ 15) : s.spotWrite m c a (.reg a) w l = s.busError m c a true 3 :=
  if_pos (by simp [h, hl])

theorem State.spotWrite_reg_full : s.spotWrite m c a (.reg a) w 15 = s.regWrite a (w % 2 ^ 32) 0xFFFFFFFF :=
  (if_neg (by simp)).trans (by rw [laneMask_full])

theorem State.memWrite_ring (h1 : 0x20000000 ≤ k) (h2 : k < 0x20500000) : s.memWrite k w l = s := if_pos (by simp [h1, h2])

theorem State.memWrite_landing (h1 : 0x20500000 ≤ k) (h2 : k < 0x20600000) : s.memWrite k w l = s.putLanes k w l := by
  unfold State.memWrite
  simp [show ¬ k < 0x20500000 by omega, show ¬ 0x30000000 ≤ k by omega, show ¬ 0x30800000 ≤ k by omega]

/-- Tally's registers have the access types of R14 and nothing more. -/
theorem State.regWrite_tally (h1 : 0x50070000 ≤ a) (h2 : a < 0x50080000) : s.regWrite a w l = s.plainWrite a w l := by
  unfold State.regWrite
  iterate 15 rw [if_neg (by omega)]
  rw [if_neg, if_neg]
  all_goals simp only [Bool.and_eq_true, decide_eq_true_eq]; omega

theorem State.lockedAt_tally (h1 : 0x50070000 ≤ a) (h2 : a < 0x50080000) : s.lockedAt a = false := by
  have h1' : a ≠ R.CEL_CFG_w.addr := fun e => absurd (e ▸ h1) (by decide)
  have h2' : a ≠ R.SYS_REMAP_w.addr := fun e => absurd (e ▸ h1) (by decide)
  have h3' : a ≠ R.TSU_LINK_OFS_VALUE.addr := fun e => absurd (e ▸ h1) (by decide)
  have h4' : a ≠ R.DRV_CL_CTRL_LOCK.addr := fun e => absurd (e ▸ h1) (by decide)
  unfold State.lockedAt
  simp [h1', h2', h3', h4', show ¬ 0x50080040 ≤ a by omega]

/-- The word that a full write leaves in an unlocked register: the writable bits of the word, less the ones it clears. -/
def plainWord (r : RegRow) (old w : Nat) : Nat :=
  let k := (r.rw ||| r.rwl) &&& 0xFFFFFFFF
  ((old &&& (0xFFFFFFFF ^^^ k)) ||| (w &&& k)) &&& (0xFFFFFFFF ^^^ (r.w1c &&& w &&& 0xFFFFFFFF))

theorem plainWord_lt {r : RegRow} {old w : Nat} : plainWord r old w < 2 ^ 32 :=
  Nat.and_lt_two_pow _ (Nat.xor_lt_two_pow (by decide) (Nat.and_lt_two_pow _ (by decide)))

theorem State.plainWrite_none (h : rowOf a = none) : s.plainWrite a w l = s := by
  unfold State.plainWrite
  rw [h]

theorem State.plainWrite_unshadowed {r : RegRow} (hr : rowOf a = some r) (hs : r.rws = 0) (hl : s.lockedAt a = false) :
    s.plainWrite a w 0xFFFFFFFF = s.setReg a (plainWord r (s.regSeen a) w) := by
  unfold State.plainWrite State.merged
  rw [hr]
  simp [hs, hl, plainWord]

end

/-! ### REGISTER_WRITE -/

section
variable {s t : State} {c : Fin 32} {a w : BitVec 32} {l : BitVec 4} {n : Nat}

/-- A master's write that may issue is its bus access at its instant, where the cores stay at rest after it. -/
theorem exec_registerWrite {m : Fin 12} (ha : a.toNat % 4 = 0) (hm : s.mayAccess m.val = true)
    (ht : (s.atRaw n).busWrite m.val c.val a.toNat w.toNat l.toNat = t) (hr : t.rests = true) :
    exec (.registerWrite m c a w l n) s = .next t := by
  have hm' : (s.atRaw n).mayAccess m.val = true := hm
  have e : a.toNat / 4 * 4 = a.toNat := by omega
  show execRegisterWrite m c a w l n s = _
  unfold execRegisterWrite
  simp only [if_pos hm', e, ht, State.rests_quiet hr]

theorem State.mayAccess_foreign {m : Nat} (hm : m ≠ mBellwether) (hh : s.clk.held = false) : s.mayAccess m = true := by
  simp [State.mayAccess, hm, hh]

/-- A block other than the Cellar whose gate is open is not in clock hold. -/
theorem State.held_of_gated {b : Nat} (hb : b ≠ 4) (hg : s.gated b = false) : s.clk.held = false := by
  simp only [State.gated, Bool.or_eq_false_iff, decide_eq_true hb, Bool.and_true] at hg
  exact hg.2

theorem State.mayAccess_bellwether (hf : s.fwRuns = true) (hg : s.gated 22 = false) : s.mayAccess mBellwether = true := by
  simp [State.mayAccess, hf, hg, State.held_of_gated (by decide) hg]

/-! #### Masters other than the Bellwether -/

section
variable {m : Fin 12} (hm : m.val ≠ mBellwether) (ha : a.toNat % 4 = 0) (hr : s.rests = true) (hh : s.clk.held = false)
include hm ha hr hh

theorem registerWrite_landing (hg : s.gated 3 = false) (hw : (s.fabAt 2).waiting = []) (h1 : 0x20500000 ≤ a.toNat) (h2 : a.toNat < 0x20600000) :
    exec (.registerWrite m c a w l n) s = .next (((s.atRaw n).granted 2 m.val).putLanes a.toNat w.toNat l.toNat) := by
  refine exec_registerWrite ha (State.mayAccess_foreign hm hh) ?_ ?_
  · rw [State.busWrite_mem (s := s.atRaw n) (.inl hm) (State.locate_history hg (by omega) h2) (fabPort_history (by omega) (by omega)) hw,
      State.memWrite_landing h1 h2]
  · rw [State.rests_of_good (State.putLanes_good _ _ _ _) (by decide), State.rests_of_good State.granted_atRaw_good (by decide), hr]

theorem registerWrite_ring (hg : s.gated 3 = false) (hw : (s.fabAt 2).waiting = []) (h1 : 0x20000000 ≤ a.toNat) (h2 : a.toNat < 0x20500000) :
    exec (.registerWrite m c a w l n) s = .next ((s.atRaw n).granted 2 m.val) := by
  refine exec_registerWrite ha (State.mayAccess_foreign hm hh) ?_ ?_
  · rw [State.busWrite_mem (s := s.atRaw n) (.inl hm) (State.locate_history hg h1 (by omega)) (fabPort_history h1 (by omega)) hw, State.memWrite_ring h1 h2]
  · rw [State.rests_of_good State.granted_atRaw_good (by decide), hr]

theorem registerWrite_peripheral_foreign (h1 : 0x50000000 ≤ a.toNat) (h2 : a.toNat < 0x80000000) :
    exec (.registerWrite m c a w l n) s =
      .next ((s.atRaw n).busError m.val c.val a.toNat true (if a.toNat < 0x500B0000 then 1 else 0)) := by
  refine exec_registerWrite ha (State.mayAccess_foreign hm hh) (State.busWrite_bad (.inl hm) (State.locate_peripheral_foreign hm h1 h2)) ?_
  rw [State.rests_busError]
  exact hr

end

/-! #### The Bellwether at Tally's registers -/

section
variable (ha : a.toNat % 4 = 0) (hr : s.rests = true) (hf : s.fwRuns = true) (hg : s.gated 22 = false) (hg' : s.gated 19 = false)
  (hi : s.bwt.inject = none) (hw : (s.fabAt 21).waiting = []) (h1 : 0x50070000 ≤ a.toNat) (h2 : a.toNat < 0x50080000)
include ha hr hf hg hg' hi hw h1 h2

/-- What such a write does at its register is all it does. -/
theorem registerWrite_tally (ht : ((s.atRaw n).granted 21 6).spotWrite 6 c.val a.toNat (.reg a.toNat) w.toNat l.toNat = t)
    (hrt : t.rests = ((s.atRaw n).granted 21 6).rests) : exec (.registerWrite 6 c a w l n) s = .next t := by
  refine exec_registerWrite ha (State.mayAccess_bellwether hf hg) ?_ ?_
  · rw [← ht]
    exact State.busWrite_reg (.inr hi) (State.locate_tally hg' h1 h2) (fabPort_peripheral (by omega) (by omega)) hw
  · rw [hrt, State.rests_of_good State.granted_atRaw_good (by decide), hr]

theorem registerWrite_tally_narrow (hl : l ≠ 15#4) :
    exec (.registerWrite 6 c a w l n) s = .next (((s.atRaw n).granted 21 6).busError 6 c.val a.toNat true 3) := by
  have hl' : l.toNat % 16 ≠ 15 := fun e => hl (BitVec.eq_of_toNat_eq (by rw [← Nat.mod_eq_of_lt l.isLt]; exact e))
  exact registerWrite_tally ha hr hf hg hg' hi hw h1 h2 (State.spotWrite_reg_narrow (by omega) hl') State.rests_busError

theorem registerWrite_tally_full (ht : ((s.atRaw n).granted 21 6).plainWrite a.toNat w.toNat 0xFFFFFFFF = t)
    (hrt : t.rests = ((s.atRaw n).granted 21 6).rests) : exec (.registerWrite 6 c a w 15#4 n) s = .next t := by
  refine registerWrite_tally ha hr hf hg hg' hi hw h1 h2 (State.spotWrite_reg_full.trans ?_) hrt
  rw [Nat.mod_eq_of_lt w.isLt, State.regWrite_tally h1 h2, ht]

end
end

/-- Settles O56: each clause is the access of a master at one spot of the address map, and the cores rest after it. -/
theorem busAccesses : Obligations.BusAccesses := by
  refine ⟨fun s => ⟨_, rfl, State.rd_clearErrors.1, State.rd_clearErrors.2, fun p => (State.clearErrors_good s).same_off_regs⟩,
    fun s w => ⟨_, rfl, State.writeRemap_spec.1, State.writeRemap_spec.2, fun p => (State.writeRemap_good s w.toNat).same_off_regs⟩,
    fun s m c a w n hm ha hr hh => ⟨fun hg hw h1 h2 l => ?_, fun hg hw h1 h2 l => ?_, fun hv h1 h2 l => ?_⟩,
    fun s c a w n ha hr hf hg hg' hi hw h1 h2 => ⟨fun l hl hv => ?_, fun r hrow hs => ?_, fun hrow => ?_⟩⟩
  · refine ⟨_, registerWrite_landing hm ha hr hh hg hw h1 h2, (State.putLanes_good _ _ _ _).same .regs rfl, ?_, fun i => ?_, fun x hx => ?_⟩
    · rw [State.fabAt_putLanes, State.fabAt_granted]
    · exact State.byte_putLanes_lane i.isLt
    · exact State.byte_putLanes_outside hx
  · exact ⟨_, registerWrite_ring hm ha hr hh hg hw h1 h2, fun p hp => State.granted_atRaw_good.same_off _ rfl hp⟩
  · obtain ⟨hvalid, hkind, hwrite, hmaster, hcore, haddr⟩ := State.busError_logs (s := s.atRaw n) (m := m.val) (c := c.val) (a := a.toNat)
      (k := if a.toNat < 0x500B0000 then 1 else 0) (wr := true) hv
    refine ⟨_, registerWrite_peripheral_foreign hm ha hr hh h1 h2, hvalid, hkind.trans ?_, hwrite, hmaster.trans ?_, hcore.trans ?_, haddr.trans ?_,
      State.rd_busError_count, (State.busError_good _ _ _ _ _ _).same .mem rfl⟩
    · split <;> rfl
    · omega
    · split <;> omega
    · exact Nat.mod_eq_of_lt a.isLt
  · refine ⟨_, registerWrite_tally_narrow ha hr hf hg hg' hi hw h1 h2 hl, ?_, ?_⟩
    · obtain ⟨-, hkind, -⟩ := State.busError_logs (s := (s.atRaw n).granted 21 6) (m := 6) (c := c.val) (a := a.toNat) (k := 3) (wr := true) hv
      exact hkind
    · exact State.getReg_busError (not_mem_errorRegs_of_tally h1)
  · refine ⟨_, registerWrite_tally_full ha hr hf hg hg' hi hw h1 h2 (State.plainWrite_unshadowed hrow hs (State.lockedAt_tally h1 h2))
      (State.rests_setReg_tally h1), ?_, fun b hb => ?_, fun p hp => ?_⟩
    · rw [State.getReg_setReg_self, Nat.mod_eq_of_lt plainWord_lt]
      rfl
    · rw [State.getReg_setReg_other hb]
      rfl
    · exact ((State.setReg_good _ _ _).step (W := Part.mask [.tm, .regs, .fab]) rfl (State.granted_atRaw_good.step rfl Good.refl)).same_off _ rfl hp
  · exact ⟨_, registerWrite_tally_full ha hr hf hg hg' hi hw h1 h2 (State.plainWrite_none hrow) rfl,
      fun p hp => State.granted_atRaw_good.same_off _ rfl hp⟩

end Sys2Proof.Machine
end

section
/-! PROOFS. The block pipeline (R19, R20, R38, R48, R49, R54, R261): the clock at a boundary, a complete tap list, the landing window, the released block. -/

-- One proof at a time: the package as one text then takes less memory.
set_option Elab.async false

namespace Sys2Proof.Machine

open Sys2Proof

/-- The mask of every part but one. -/
def Part.maskBut (p : Part) : Nat := Part.mask (Part.all.erase p)

/-- A fold keeps what each of its steps keeps. -/
theorem foldl_keeps {α β γ : Type} (π : β → γ) {f : β → α → β} (hf : ∀ b x, π (f b x) = π b) (xs : List α) (b : β) :
    π (xs.foldl f b) = π b :=
  List.foldlRecOn (motive := fun c => π c = π b) xs f rfl fun c hc x _ => (hf c x).trans hc

/-- A sparse file without the entries of a key reads the default there. -/
theorem Cells.get_filter_none {α : Type} {d : α} {c : Cells α} {p : Nat × α → Bool} {k : Nat} (hp : ∀ x, p (k, x) = false) :
    Cells.get d (c.filter p) k = d := by
  induction c with
  | nil => rfl
  | cons q rest ih =>
    rw [List.filter_cons]
    split
    · next hq =>
      have hk : q.1 ≠ k := fun e => by
        obtain ⟨j, x⟩ := q
        subst e
        rw [hp x] at hq
        exact Bool.false_ne_true hq
      rw [Cells.get, if_neg hk, ih]
    · exact ih

section
variable {s t : State} {bus : Option Int} {b k l n o r : Nat} {late : List Nat}

/-! ### The boundary (R48, R261) -/

/-- What the clock holds once block `k` has begun: its number, its start, and first lock behind it. -/
theorem State.setClock_tm : (s.setClock k).tm = { s.tm with
    blockCount := k, started := true, blockStart := s.now, lockBlock := none,
    firstLocked := if s.tm.lockBlock.isSome then k else s.tm.firstLocked } := by
  have hren (p : Nat) : (s.renumber p k).tm = s.tm := (State.renumber_good s p k).same .tm rfl
  unfold State.setClock State.now
  cases hl : s.tm.lockBlock.isSome <;> cases hs : s.tm.started <;> simp [State.unwriteSlots, hs, hren]

/-- Nothing that comes about at a boundary moves the clock that it set. -/
theorem State.boundaryOf_tm : (s.boundaryOf k bus).tm = (s.setClock k).tm := by
  unfold State.boundaryOf
  extract_lets starts s1 s2 s3 s4 s5 s6 s7 s8 s9 s10
  have h2 : Good (Part.maskBut .tm) s1 s2 := Good.when (fun u h => (State.firstBoundary_good u).step rfl h) Good.refl
  have h3 : Good _ s1 s3 := (State.applyDue_good ..).step rfl ((State.wakeBoundary_good ..).step rfl h2)
  have h5 : Good _ s1 s5 := (State.roleBoundary_good ..).step rfl ((State.supplyBoundary_good ..).step rfl h3)
  have h6 : Good _ s1 s6 := Good.ite ((State.queueBulk_good ..).step rfl ((State.swapBanks_good ..).step rfl h5)) h5
  have h8 : Good _ s1 s8 := Good.upd_liveHist rfl ((State.installsDone_good ..).step rfl h6)
  have h9 : Good _ s1 s9 := (State.sendAes_good ..).step rfl h8
  have h10 : Good _ s1 s10 := (State.postSlice_good ..).step rfl ((State.tickPoint_good ..).step rfl ((State.stageA_good ..).step rfl h9))
  have h11 : Good _ s1 (s10.resync.restoreNow.sleepBoundary k) :=
    (State.sleepBoundary_good ..).step rfl ((State.restoreNow_good ..).step rfl ((State.resync_good ..).step rfl h10))
  have h12 := (State.forget_good _ k).step rfl ((State.secondTotals_good _).step rfl ((State.showLimiting_good _).step rfl h11))
  exact h12.same .tm rfl

theorem exec_blockBoundary_begins (hen : (s.atRaw n).on R.TSU_CTRL_BLOCK_EN = true) (hg : (s.atRaw n).gated 15 = false)
    (hdue : (s.atRaw n).locked = true → (s.atRaw n).nextBoundary ≤ (s.atRaw n).now) :
    exec (.blockBoundary bus n) s = .next ((s.atRaw n).boundaryOf (s.atRaw n).nextBlock bus) := by
  refine congrArg Host.Outcome.next (if_neg ?_)
  simpa [hen, hg] using hdue

theorem exec_blockBoundary_waits
    (h : (s.atRaw n).on R.TSU_CTRL_BLOCK_EN = false ∨ (s.atRaw n).locked = true ∧ (s.atRaw n).now < (s.atRaw n).nextBoundary) :
    exec (.blockBoundary bus n) s = .next (s.atRaw n) := by
  refine congrArg Host.Outcome.next (if_pos ?_)
  rcases h with hoff | ⟨hlock, hearly⟩
  · simp [hoff]
  · simp [hlock, hearly]

/-! ### A complete tap list (R38, R39) -/

theorem State.rd_count_addr {f g : Fld} (h : g.addr ≠ f.addr) : (s.count f n).rd g = s.rd g := by
  unfold State.count
  split
  · rfl
  · exact State.rd_wr_addr h

theorem State.rd_flag_addr {f g : Fld} (h : g.addr ≠ f.addr) : (s.flag f).rd g = s.rd g := State.rd_wr_addr h

theorem State.rd_listDone_entries {x : TapList} (hne : x.taps ≠ []) (hlen : x.taps.length ≤ 65536) :
    (s.listDone x).rd R.PST_TAP_COUNT_ENTRIES_M1 = x.taps.length - 1 := by
  have hpos : 0 < x.taps.length := List.length_pos_iff.mpr hne
  have hv : (x.taps.length + 65535) % 65536 % 2 ^ (15 - 0 + 1) = x.taps.length - 1 := by omega
  unfold State.listDone State.when
  split <;> simp (disch := decide) only [State.rd_flag_addr, State.rd_count_addr, State.rd_wr_self] <;> exact hv

theorem State.rd_listDone_defer {x : TapList} :
    (s.listDone x).rd R.PST_CNT_DEFER_VALUE = min 0xFFFFFFFF (s.rd R.PST_CNT_DEFER_VALUE + x.deferred) := by
  unfold State.listDone State.when
  split <;> simp (disch := decide) only [State.rd_flag_addr, State.rd_count_addr, State.rd_count_word, State.rd_wr_addr]

theorem State.on_listDone_budget {x : TapList} (hb : x.budget = true) : (s.listDone x).on R.PST_STATUS_BUDGET = true := by
  unfold State.listDone State.when
  rw [if_pos hb]
  exact State.on_flag_self (by decide)

/-- With no list before it still waiting, the list that is forming is the one completed. -/
theorem exec_tapListComplete_forming {x : TapList} (hrc : s.on R.CLK_STAT_ON_RC = false) (hg : s.gated 1 = false) (hl : s.geo.late = none)
    (hf : s.geo.forming = some x) (hc : x.complete = false) :
    exec (.tapListComplete x.blk) s =
      .next { s.listDone x with geo := { s.geo with forming := some { x with complete := true } } } := by
  show execTapListComplete x.blk s = _
  unfold execTapListComplete
  simp [hrc, hg, hl, hf, hc]

/-! ### The landing window (R19, R54, R144) -/

/-- The landing window and the block in stage B. -/
def Hst.window (h : Hst) : Nat × Bool × Option Nat := (h.win, h.winOpen, h.rendering)

theorem State.window_setRing {x : RingSt} : (s.setRing r x).hst.window = s.hst.window := rfl

theorem State.setSlot_hst {q : Nat} {x : Tile} : (s.setSlot r q x).hst = s.hst := (State.setSlot_good s r q x).same .hst rfl

theorem State.countUse_hst {st : Store} {i : Int} : (s.countUse st i).hst = s.hst := (State.countUse_good s st i).same .hst rfl

theorem State.window_land {xs : List Int} {w f : Bool} : (s.land r k xs w f).hst.window = s.hst.window := by
  unfold State.land
  extract_lets g fade ys x u
  have hu : u.hst.window = s.hst.window := State.window_setRing.trans (congrArg Hst.window State.setSlot_hst)
  unfold State.when
  split
  · rw [State.bump_hst, hu]
  · exact hu

theorem State.window_present {src q : Nat} {xs : List Int} {na new : Bool} : (s.present src q xs na new).hst.window = s.hst.window := by
  unfold State.present
  split
  · rfl
  · split
    · rfl
    · extract_lets l g
      split_ifs <;> simp [State.window_land, State.window_setRing]

theorem State.window_presentMsg {m : Nat} : (s.presentMsg k m).hst.window = s.hst.window := by
  unfold State.presentMsg
  extract_lets ps ys
  split
  · rfl
  · rw [State.window_present, State.count_hst]

theorem State.window_presentMsgs : (s.presentMsgs k).hst.window = s.hst.window :=
  foldl_keeps (·.hst.window) (fun _ _ => State.window_presentMsg) _ s

theorem State.window_presentStream {h : Nat} : (s.presentStream h l).hst.window = s.hst.window :=
  foldl_keeps (·.hst.window) (fun _ _ => State.window_present) _ s

theorem State.window_streamWindow : (s.streamWindow l).hst.window = s.hst.window := by
  unfold State.streamWindow
  split
  · rfl
  · refine foldl_keeps (·.hst.window) (fun u h => ?_) _ s
    split
    · exact State.window_presentStream
    · rfl

/-- Opening a window leaves the block in stage B alone. -/
theorem State.window_openWindow : (s.openWindow l).hst.window = (l, true, s.hst.rendering) := by
  unfold State.openWindow
  extract_lets u
  split
  · rw [State.window_streamWindow, State.window_presentMsgs]; rfl
  · rfl

theorem State.window_substitute : (s.substitute k r).hst.window = s.hst.window := by
  unfold State.substitute
  extract_lets g na last h u
  have hu : u.hst = s.hst := by
    unfold u
    split
    · exact State.countUse_hst
    · rfl
  split
  rw [State.flag_hst, State.bump_hst, State.window_setRing, State.setSlot_hst, hu]

theorem State.window_substituteAll : (s.substituteAll k).hst.window = s.hst.window :=
  foldl_keeps (·.hst.window) (fun _ _ => State.window_substitute) _ s

theorem State.window_queueCopies : (s.queueCopies k).hst.window = s.hst.window := by
  unfold State.queueCopies
  split <;> rfl

theorem State.failLog_hst {c i : Nat} : (s.failLog c r i).hst = s.hst := (State.failLog_good s c r i).same .hst rfl

theorem State.window_lateTiles {xs : List (Nat × Nat)} :
    ({ s with hst := { s.hst with lateTiles := xs } } : State).hst.window = s.hst.window := rfl

theorem State.window_longLate {x : Nat × Nat} : (s.longLate x).hst.window = s.hst.window := by
  unfold State.longLate
  rw [State.window_lateTiles, State.failLog_hst, State.flag_hst, State.bump_hst]

theorem State.window_issueLong : (s.issueLong l).hst.window = s.hst.window := by
  unfold State.issueLong
  extract_lets tiles
  split
  · exact foldl_keeps (·.hst.window) (fun _ _ => State.window_longLate) _ s
  · rfl

theorem State.rendering_endStageB {f : List SpecItem} {q : List SpecLate} : (s.endStageB f q).hst.rendering = none := by
  unfold State.endStageB
  split
  · assumption
  · rfl

theorem State.countPanic_hst : s.countPanic.hst = s.hst := (State.countPanic_good s).same .hst rfl
theorem State.streamDeadline_hst : (s.streamDeadline l).hst = s.hst := (State.streamDeadline_good s l).same .hst rfl

/-- A closed window leaves its block in stage B, or none where it is not rendered. -/
theorem State.rendering_closeWindow {f : List SpecItem} {q : List SpecLate} :
    (s.closeWindow l f q).hst.rendering = none ∨ (s.closeWindow l f q).hst.rendering = some l := by
  unfold State.closeWindow
  extract_lets s1 s2 _ s3 s4 s5
  have h2 : s2.hst.rendering = none := by rw [State.countPanic_hst, State.rendering_endStageB]
  have h4 : s4.hst.rendering = none := by rw [State.streamDeadline_hst]; exact h2
  have h5 : s5.hst.rendering = none := by
    unfold s5
    split
    · exact (congrArg (·.2.2) (State.window_queueCopies.trans State.window_substituteAll)).trans h4
    · exact h4
  split
  · right
    exact congrArg (·.2.2) State.window_issueLong
  · left
    exact h5

/-- The first window since a start or a lock opens once the deadline of the block before it is past. -/
theorem exec_landingDeadline_first {f : List SpecItem} {q : List SpecLate} (hs : s.tm.started = true) (ho : s.hst.winOpen = false)
    (hd : (s.atRaw n).landDeadline (s.hst.win - 1) ≤ (s.atRaw n).now) :
    exec (.landingDeadline f q n) s = .next (((s.atRaw n).tickPoint 1).openWindow s.hst.win) := by
  have hs' : (s.atRaw n).tm.started = true := hs
  show execLandingDeadline f q n s = _
  unfold execLandingDeadline
  simp [hs', ho, Nat.not_lt.mpr hd]

/-- At the deadline of the block whose window is open, that window closes and the next one opens. -/
theorem exec_landingDeadline_next {f : List SpecItem} {q : List SpecLate} (hs : s.tm.started = true) (ho : s.hst.winOpen = true)
    (hw : s.hst.win < s.tm.blockCount) (hd : (s.atRaw n).landDeadline s.hst.win ≤ (s.atRaw n).now) :
    exec (.landingDeadline f q n) s =
      .next ((((s.atRaw n).closeWindow s.hst.win f q).tickPoint 1).openWindow (s.hst.win + 1)) := by
  have hs' : (s.atRaw n).tm.started = true := hs
  have hw' : s.hst.win < (s.atRaw n).tm.blockCount := hw
  show execLandingDeadline f q n s = _
  unfold execLandingDeadline
  simp [hs', ho, Nat.not_le.mpr hw', Nat.not_lt.mpr hd]

theorem State.openWindow_spec : (s.openWindow l).hst.win = l ∧ (s.openWindow l).hst.winOpen = true ∧
    (s.openWindow l).hst.rendering = s.hst.rendering := by
  simpa only [Hst.window, Prod.mk.injEq] using State.window_openWindow (s := s) (l := l)

theorem State.tickPoint_hst : (s.tickPoint k).hst = s.hst := (State.tickPoint_good s k).same .hst rfl

/-! ### The released block (R20, R49) -/

/-- The blocks that wait for their release, and those released. -/
def MixSt.releases (m : MixSt) : List Nat × Cells (List Int) := (m.relQ, m.released)

theorem State.releases_writeOdly {u : List Int} : (s.writeOdly o n u).mix.releases = s.mix.releases := rfl

theorem State.countUse_mix {st : Store} {i : Int} : (s.countUse st i).mix = s.mix := (State.countUse_good s st i).same .mix rfl

theorem State.releases_clearMissed :
    ({ s with mix := { s.mix with specLate := [], odlyFail := [] } } : State).mix.releases = s.mix.releases := rfl

theorem State.releases_setSpec {r : SpecRec} : (s.setSpec k r).mix.releases = s.mix.releases := rfl

theorem State.releases_writeInputs : (s.writeInputs o n).mix.releases = s.mix.releases := by
  unfold State.writeInputs
  split
  · rfl
  · refine foldl_keeps (·.mix.releases) (fun u tail => ?_) _ s
    split
    · rw [State.fresh_mix, State.releases_setSpec]
    · rfl

/-- The block that stage C gives an output goes out; a late one is silent. -/
theorem State.releases_release {late : Bool} {y : List Int} : ∃ ys, (late = true → ys = List.replicate 32 0) ∧
    (s.release o n late y).mix.releases = (s.mix.relQ, s.mix.released.set [] (4 * o + n % 4) ys) :=
  ⟨_, fun h => if_pos h, rfl⟩

theorem State.releases_runChain : ∃ ys, (o ∈ late → ys = List.replicate 32 0) ∧
    (s.runChain n late o).mix.releases = (s.mix.relQ, s.mix.released.set [] (4 * o + n % 4) ys) := by
  unfold State.runChain
  extract_lets h u s1 d s2
  have h2 : s2.mix.releases = s.mix.releases :=
    (foldl_keeps (·.mix.releases) (fun _ _ => congrArg MixSt.releases State.countUse_mix) _ s1).trans State.releases_writeOdly
  have hq : s2.mix.relQ = s.mix.relQ := congrArg Prod.fst h2
  have hb : s2.mix.released = s.mix.released := congrArg Prod.snd h2
  split
  next y c l _ =>
  obtain ⟨ys, hys, hr⟩ := State.releases_release (s := (s2.setChain o c).wr (R.MIX_OUT_STATUS_LIMITING o) (b2n l)) (o := o) (n := n)
    (late := late.contains o) (y := y)
  refine ⟨ys, fun hl => hys (List.contains_iff_mem.mpr hl), ?_⟩
  rw [State.releases_writeInputs, hr, ← hq, ← hb]
  rfl

theorem State.relQ_runChain : (s.runChain n late o).mix.relQ = s.mix.relQ := by
  obtain ⟨ys, -, hr⟩ := State.releases_runChain (s := s) (n := n) (o := o) (late := late)
  exact congrArg Prod.fst hr

/-- An output that was not ready presents silence. -/
theorem State.releasedBlock_runChain_late (hl : o ∈ late) : (s.runChain n late o).releasedBlock o n = List.replicate 32 0 := by
  obtain ⟨ys, hys, hr⟩ := State.releases_runChain (s := s) (n := n) (o := o) (late := late)
  have hg : (s.runChain n late o).mix.released = _ := congrArg Prod.snd hr
  unfold State.releasedBlock
  rw [hg, Cells.get_set_self, hys hl]
  rfl

/-- A chain releases the block of its own output alone. -/
theorem State.releasedBlock_runChain_other (hr : r ≠ o) : (s.runChain n late o).releasedBlock r n = s.releasedBlock r n := by
  obtain ⟨ys, -, he⟩ := State.releases_runChain (s := s) (n := n) (o := o) (late := late)
  have hg : (s.runChain n late o).mix.released = _ := congrArg Prod.snd he
  unfold State.releasedBlock
  rw [hg, Cells.get_set_other (by omega)]

theorem State.releasedBlock_silence : (s.silence n).releasedBlock o n = List.replicate 32 0 := by
  have hg : (s.silence n).mix.released.get [] (4 * o + n % 4) = [] :=
    Cells.get_filter_none fun _ => decide_eq_false (not_not.mpr (show (4 * o + n % 4) % 4 = n % 4 by omega))
  unfold State.releasedBlock
  rw [hg]

theorem State.lt_of_mem_presentOutputs (h : o ∈ s.presentOutputs) : o < 640 := by
  unfold State.presentOutputs at h
  obtain ⟨hr, -⟩ := List.mem_filter.mp h
  exact List.mem_range.mp hr

/-- Blocks `q` wait for their release, and the outputs `os` present silence for block `n`. -/
def State.Silent (s : State) (q os : List Nat) (n : Nat) : Prop := s.mix.relQ = q ∧ ∀ o ∈ os, s.releasedBlock o n = List.replicate 32 0

section
variable {q os : List Nat}

/-- Both are a matter of what is released alone. -/
theorem State.Silent.of_releases (hs : s.Silent q os n) (h : t.mix.releases = s.mix.releases) : t.Silent q os n := by
  have hq : t.mix.relQ = s.mix.relQ := congrArg Prod.fst h
  have hb : t.mix.released = s.mix.released := congrArg Prod.snd h
  simpa only [State.Silent, State.releasedBlock, hq, hb] using hs

/-- The chain of another output, or of one that is not ready, leaves the silent outputs silent. -/
theorem State.Silent.runChain (hs : s.Silent q os n) (hl : r ∈ os → r ∈ late) : (s.runChain n late r).Silent q os n := by
  obtain ⟨hq, hb⟩ := hs
  refine ⟨State.relQ_runChain.trans hq, fun o ho => ?_⟩
  rcases eq_or_ne o r with rfl | hne
  · exact State.releasedBlock_runChain_late (hl ho)
  · exact (State.releasedBlock_runChain_other hne).trans (hb o ho)

/-- Stage C takes no block from the queue, and leaves silent outputs silent that are not ready. -/
theorem State.Silent.stageC (hs : s.Silent q os n) (hl : ∀ o ∈ os, o < 640 → o ∈ late) : (s.stageC n late).Silent q os n := by
  have hclear (u : State) : (u.accClear (n % 2)).mix = u.mix := (State.accClear_good u (n % 2)).same .mix rfl
  unfold State.stageC
  extract_lets s1 s2 s3
  have h1 : s1.mix = s.mix := (State.accBad_good s (s.badWords (n % 2))).same .mix rfl
  have hs1 : s1.Silent q os n := hs.of_releases (congrArg MixSt.releases h1)
  clear_value s1
  split
  · have hs2 : s2.Silent q os n := by
      refine List.foldlRecOn (motive := fun u : State => u.Silent q os n) s1.presentOutputs _ hs1 fun u hu r hr => ?_
      have hrun := hu.runChain (late := late) fun ho => hl r ho (State.lt_of_mem_presentOutputs hr)
      exact hrun.of_releases (congrArg MixSt.releases State.fresh_mix)
    have hs3 : s3.Silent q os n := hs2.of_releases (congrArg MixSt.releases (hclear s2))
    exact hs3.of_releases State.releases_clearMissed
  · exact hs1.of_releases (congrArg MixSt.releases (hclear s1))

end

/-- What follows stage C in a release counts, measures and sends, and leaves the mixing state alone. -/
theorem State.mix_afterStageC : (((s.countBridges n).tallyPower n).sendStreams n).mix = s.mix :=
  ((State.sendStreams_good _ n).same .mix rfl).trans
    (((State.tallyPower_good _ n).same .mix rfl).trans ((State.countBridges_good s n).same .mix rfl))

/-- The outputs that are not ready: on RC, and with the chains' gate closed, all of them. -/
def State.lateOutputs (s : State) (late : List Nat) : List Nat :=
  if s.on R.CLK_STAT_ON_RC || s.gated 5 then List.range 640 else late

theorem State.mem_lateOutputs (ho : o ∈ late) (h : o < 640) : o ∈ s.lateOutputs late := by
  unfold State.lateOutputs
  split
  · exact List.mem_range.mpr h
  · exact ho

/-- The state in which the oldest block of stage C has left the queue. -/
def State.dequeued (s : State) (rest : List Nat) : State := { s with mix := { s.mix with relQ := rest } }

theorem exec_releaseDeadline {rest : List Nat} (hq : s.mix.relQ = b :: rest) (hd : (s.atRaw n).instant (32 * b + 93) ≤ (s.atRaw n).now) :
    let u : State := (s.atRaw n).dequeued rest
    exec (.releaseDeadline late n) s =
      .next (((((u.silence b).stageC b (u.lateOutputs late)).countBridges b).tallyPower b).sendStreams b) := by
  show execReleaseDeadline late n s = _
  unfold execReleaseDeadline
  simp only [State.atRaw_mix, hq, if_neg (Nat.not_lt.mpr hd)]
  rfl

/-- The oldest block of stage C leaves the queue, and each output named presents silence for it. -/
theorem exec_releaseDeadline_silent {rest : List Nat} (hq : s.mix.relQ = b :: rest)
    (hd : (s.atRaw n).instant (32 * b + 93) ≤ (s.atRaw n).now) :
    ∃ t : State, exec (.releaseDeadline late n) s = .next t ∧ t.mix.relQ = rest ∧
      ∀ o ∈ late, t.releasedBlock o b = List.replicate 32 0 := by
  have start : (((s.atRaw n).dequeued rest).silence b).Silent rest late b := ⟨rfl, fun _ _ => State.releasedBlock_silence⟩
  have afterC := start.stageC fun _ => State.mem_lateOutputs (s := (s.atRaw n).dequeued rest)
  have silent := afterC.of_releases (congrArg MixSt.releases (State.mix_afterStageC (n := b)))
  exact ⟨_, exec_releaseDeadline hq hd, silent⟩

end

/-- Settles O43: the clock is set once at a boundary and no more, every landing keeps the window it lands in, and stage C leaves an
output silent that was not ready. -/
theorem blockPipeline : Obligations.BlockPipeline := by
  refine ⟨fun s bus n hen hg hdue => ?_, fun s bus n => exec_blockBoundary_waits,
    fun s x hrc hg hl hf hc hne hlen => ?_, fun s f q n hs ho hd => ?_, fun s f q n hs ho hw hd => ?_,
    fun s b rest late n => exec_releaseDeadline_silent⟩
  · have htm := (State.boundaryOf_tm (bus := bus)).trans (State.setClock_tm (s := s.atRaw n) (k := (s.atRaw n).nextBlock))
    refine ⟨_, exec_blockBoundary_begins hen hg hdue, ?_⟩
    rw [htm]
    exact ⟨rfl, rfl, rfl, rfl, rfl, rfl⟩
  · exact ⟨_, exec_tapListComplete_forming hrc hg hl hf hc, rfl, State.rd_listDone_entries hne hlen, State.rd_listDone_defer,
      State.on_listDone_budget⟩
  · obtain ⟨hwin, hopen, -⟩ := State.openWindow_spec (s := (s.atRaw n).tickPoint 1) (l := s.hst.win)
    exact ⟨_, exec_landingDeadline_first hs ho hd, hwin, hopen⟩
  · obtain ⟨hwin, hopen, hrend⟩ := State.openWindow_spec (s := ((s.atRaw n).closeWindow s.hst.win f q).tickPoint 1) (l := s.hst.win + 1)
    refine ⟨_, exec_landingDeadline_next hs ho hw hd, hwin, hopen, ?_⟩
    rw [hrend, State.tickPoint_hst]
    exact State.rendering_closeWindow

end Sys2Proof.Machine
end

section
/-! PROOFS. Rounding to the nearest integer, ties to even (R35). -/

-- One proof at a time: the package as one text then takes less memory.
set_option Elab.async false

namespace Sys2Proof.Machine

open Sys2Proof

/-- The remainder of the rounded quotient is at most half the divisor, and half of it only beside an even quotient. -/
theorem rheDiv_remainder {a : Int} {b : Nat} (hb : 0 < b) :
    2 * (a - rheDiv a b * b).natAbs ≤ b ∧ (2 * (a - rheDiv a b * b).natAbs = b → rheDiv a b % 2 = 0) := by
  have hr := Int.mul_ediv_add_emod a b
  have hlo := Int.emod_nonneg a (b := (b : Int)) (by omega)
  have hhi := Int.emod_lt_of_pos a (b := (b : Int)) (by omega)
  rw [Int.mul_comm] at hr
  simp only [rheDiv]
  split
  · omega
  · split
    · rw [Int.add_mul]; omega
    · split
      · omega
      · rw [Int.add_mul]; omega

/-- A quotient other than `q` leaves a remainder that differs from that of `q` by a whole divisor at least. -/
theorem natAbs_remainder_ge {a q m : Int} {b : Nat} (h : m ≠ q) : b ≤ (a - m * b).natAbs + (a - q * b).natAbs := by
  have hd : (m - q) * b = (a - q * b) - (a - m * b) := by ring
  have hb : b ≤ ((m - q) * b).natAbs := by
    rw [Int.natAbs_mul, Int.natAbs_natCast]
    exact Nat.le_mul_of_pos_left b (by omega)
  omega

/-- Settles O6: the rounded quotient has the least remainder, as every other one differs by a divisor; at a tie the remainder is half
the divisor, and the quotient even. -/
theorem roundingToEven : Obligations.RoundingToEven := by
  intro a b hb
  obtain ⟨hle, heven⟩ := rheDiv_remainder (a := a) hb
  refine ⟨fun m => ?_, fun m hm htie => heven ?_⟩
  · rcases eq_or_ne m (rheDiv a b) with rfl | hm
    · exact Nat.le_refl _
    · have := natAbs_remainder_ge (a := a) (b := b) hm
      omega
  · have := natAbs_remainder_ge (a := a) (b := b) hm
    omega

end Sys2Proof.Machine
end

section
/-! PROOFS. The object commands (R25–R30, R154–R157, R162, R301, R312): what an accepted command leaves of the records, the waiting changes and the gains. -/

-- One proof at a time: the package as one text then takes less memory.
set_option Elab.async false

namespace Sys2Proof.Machine

open Sys2Proof

section
variable {s t a : State} {h : Hdr} {d : OpInfo} {i : Nat}

/-- An accepted command whose own checks pass takes its place and acts, and its reply follows. -/
theorem State.receive_placed {chk : State → Nat → OpCheck} {run : State → Nat → State × Option (Status × List Byte)} {data : List Byte}
    (ht : s.takes h d i a) (hc : chk a i = ⟨true, true, false, .ok⟩)
    (hr : run (a.takePlace i (a.hdrDone h d.timed) h.timed) i = (t, some (.ok, data))) :
    s.receive h d chk run = t.reply i d.code h.seq.toNat .ok data true := by
  rw [State.receive_takes ht (by rw [hc]) (by rw [hc]) (by rw [hc]) (by rw [hc]), hr]

/-! ### The block and the sample of a command (R21, R154) -/

/-- Two states in which the same blocks and samples lie ahead. -/
structure State.SameClock (s t : State) : Prop where
  tm : t.tm = s.tm
  straps : t.straps = s.straps
  ofs : t.rd R.TSU_LINK_OFS_VALUE = s.rd R.TSU_LINK_OFS_VALUE
  first : t.rd R.TSU_STATUS_FIRST = s.rd R.TSU_STATUS_FIRST

theorem State.SameClock.refl : s.SameClock s := ⟨rfl, rfl, rfl, rfl⟩

theorem State.SameClock.trans {u : State} (h : s.SameClock t) (k : t.SameClock u) : s.SameClock u :=
  ⟨k.tm.trans h.tm, k.straps.trans h.straps, k.ofs.trans h.ofs, k.first.trans h.first⟩

theorem State.SameClock.of_regs (htm : t.tm = s.tm) (hr : t.regs = s.regs) (hs : t.straps = s.straps) : s.SameClock t :=
  ⟨htm, hs, State.rd_congr hr hs, State.rd_congr hr hs⟩

/-- A register of the mixing block does not move the clock. -/
theorem State.SameClock.wr {f : Fld} {v : Nat} (hf : f.addr < R.TSU_STATUS_FIRST.addr) : s.SameClock (s.wr f v) := by
  have hlt : R.TSU_STATUS_FIRST.addr < R.TSU_LINK_OFS_VALUE.addr := by decide
  exact ⟨rfl, rfl, State.rd_wr_addr (by omega), State.rd_wr_addr (by omega)⟩

theorem State.SameClock.takePlace {n : Nat} {b : Bool} : s.SameClock (s.takePlace i n b) :=
  .of_regs State.takePlace_tm State.takePlace_regs State.takePlace_straps

theorem State.SameClock.tBlock {k : Nat} (hc : s.SameClock t) : t.tBlock k = s.tBlock k := by
  simp only [State.tBlock, State.linkOfs, State.blockLen3, hc.straps, hc.ofs]

theorem State.SameClock.nextBlock (hc : s.SameClock t) : t.nextBlock = s.nextBlock := by
  simp only [State.nextBlock, hc.tm]

theorem State.SameClock.nextBoundary (hc : s.SameClock t) : t.nextBoundary = s.nextBoundary := by
  rw [State.nextBoundary, State.locked, State.on, State.blockLen3, hc.tBlock, hc.nextBlock, hc.tm, hc.straps, hc.first]
  rfl

theorem State.SameClock.effectBlock (hc : s.SameClock t) : t.effectBlock = s.effectBlock := by
  rw [State.effectBlock, State.now, hc.nextBoundary, hc.nextBlock, hc.tm]
  rfl

theorem State.SameClock.blockFrom {c : Nat} (hc : s.SameClock t) : t.blockFrom c = s.blockFrom c := by
  simp only [State.blockFrom, State.linkOfs, State.blockLen3, hc.straps, hc.ofs]

theorem State.SameClock.hdrBlock {k : TimedKind} (hc : s.SameClock t) : t.hdrBlock h k = s.hdrBlock h k := by
  simp only [State.hdrBlock, State.blockOf, hc.blockFrom, State.linkOfs, State.blockLen3, hc.effectBlock, hc.straps, hc.ofs]

theorem State.SameClock.hdrNext (hc : s.SameClock t) : t.hdrNext h = s.hdrNext h := by
  simp only [State.hdrNext, hc.blockFrom, hc.effectBlock]

theorem State.SameClock.hdrSample (hc : s.SameClock t) : t.hdrSample h = s.hdrSample h := by
  simp only [State.hdrSample, State.sampleAt, State.linkOfs, State.blockLen3, hc.effectBlock, hc.straps, hc.ofs]

/-- Each entry of a list puts one change behind those already waiting, as long as the states between agree on what the changes read. -/
theorem State.sched_foldl {α : Type} {f : State → α → State} {g : α → Sched} (P : State → Prop) (hP : ∀ s x, P s → P (f s x))
    (hf : ∀ s x, P s → (f s x).sched = s.sched ++ [g x]) (xs : List α) (hs : P s) :
    (xs.foldl f s).sched = s.sched ++ xs.map g := by
  induction xs generalizing s with
  | nil => simp
  | cons x xs ih => rw [List.foldl_cons, ih (hP s x hs), hf s x hs, List.map_cons, List.append_assoc, List.singleton_append]

/-! ### Records of objects -/

section
variable {o n kp kn : Nat} {new : ObjRec} {x : ObjSt}

theorem State.obj_congr (hg : t.geo = s.geo) : t.obj n = s.obj n := congrArg (fun g : Geo => g.objs.get objReset n) hg

theorem State.obj_setObj : (s.setObj o x).obj n = if n = o then x else s.obj n := Cells.get_set

/-- The route change that is pending is the one accepted again. -/
def ObjSt.routeAgain (x : ObjSt) (kn : Nat) (new : ObjRec) : Bool :=
  match x.route with
  | some (b, q) => b = kn && !ObjRec.routeDiffers q new
  | none => false

theorem ObjSt.routeAgain_iff : x.routeAgain kn new = true ↔ ∃ q, x.route = some (kn, q) ∧ ObjRec.routeDiffers q new = false := by
  unfold ObjSt.routeAgain
  split
  · next b q e => rw [e]; simp [Bool.and_eq_true]
  · next e => simp [e]

/-- The object's state once a definition is accepted (R159, R162). -/
def ObjSt.accepted (x : ObjSt) (kn : Nat) (new : ObjRec) : ObjSt :=
  if x.routeAgain kn new then { x with acc := new }
  else { x with acc := new, route := if ObjRec.routeDiffers (x.hist.last objRecReset) new then some (kn, new) else none }

theorem ObjSt.accepted_acc : (x.accepted kn new).acc = new := by
  unfold ObjSt.accepted
  split <;> rfl

/-- The route that is pending once a definition is accepted. -/
theorem ObjSt.accepted_route :
    let again : Prop := ∃ q, x.route = some (kn, q) ∧ ObjRec.routeDiffers q new = false
    (again → (x.accepted kn new).route = x.route) ∧
    (¬again → ObjRec.routeDiffers (x.hist.last objRecReset) new = true → (x.accepted kn new).route = some (kn, new)) ∧
    (¬again → ObjRec.routeDiffers (x.hist.last objRecReset) new = false → (x.accepted kn new).route = none) := by
  simp only [← ObjSt.routeAgain_iff, ObjSt.accepted]
  refine ⟨fun ha => ?_, fun ha hd => ?_, fun ha hd => ?_⟩
  · rw [if_pos ha]
  · rw [if_neg ha]; exact if_pos hd
  · rw [if_neg ha]; exact if_neg (by rw [hd]; exact Bool.false_ne_true)

theorem State.obj_acceptObjRoute : (s.acceptObjRoute o new kn).obj n = if n = o then (s.obj o).accepted kn new else s.obj n := by
  have he : s.acceptObjRoute o new kn = if (s.obj o).routeAgain kn new then s.setObj o { s.obj o with acc := new }
      else (s.replaceRoute (s.obj o).route.isSome).setObj o
        { s.obj o with acc := new, route := if ObjRec.routeDiffers ((s.obj o).hist.last objRecReset) new then some (kn, new) else none } := rfl
  rw [he, ObjSt.accepted]
  split
  · exact State.obj_setObj
  · rw [State.obj_setObj, State.obj_congr ((State.replaceRoute_good s _).same .geo rfl)]

theorem State.obj_acceptObj : (s.acceptObj o new kp kn).obj n = if n = o then (s.obj o).accepted kn new else s.obj n :=
  State.obj_acceptObjRoute

theorem State.sched_acceptObj : (s.acceptObj o new kp kn).sched =
    s.sched ++ [⟨kp, .objMove o new.pos⟩, ⟨kn, .objFields o new⟩, ⟨kn, .bind o (gateOf o new.source.toNat)⟩] := by
  have h0 : (s.acceptObjRoute o new kn).sched = s.sched := (State.acceptObjRoute_good s o new kn).same .sched rfl
  simp only [State.acceptObj, State.later, h0, List.append_assoc, List.cons_append, List.nil_append]

end

/-! ### What a commit leaves waiting -/

section
variable {x : Sched} {f : Fld} {k m v w : Nat}

/-- Does a change write bits of a register in force? -/
def Act.isWrite : Act → Bool
  | .fld .. | .shadow .. => true
  | _ => false

theorem Sched.without_eq_self {bits : Nat → Nat} (hx : x.act.isWrite = false) : x.without bits = some x := by
  unfold Sched.without
  split
  · next e => rw [e] at hx; exact nomatch hx
  · next e => rw [e] at hx; exact nomatch hx
  · rfl

theorem State.mem_sched_replaceChange (hx : x.act.isWrite = false) (hm : x ∈ s.sched) : x ∈ (s.replaceChange k w m).sched := by
  unfold State.replaceChange
  refine List.foldlRecOn (motive := fun u : State => x ∈ u.sched) _ _ hm fun u hu g _ => ?_
  split
  · exact hu
  · exact List.mem_filterMap.mpr ⟨x, hu, by rw [Sched.without_eq_self hx]; exact ite_self _⟩

theorem State.mem_sched_wrNewest (hx : x.act.isWrite = false) (hm : x ∈ s.sched) : x ∈ (s.wrNewest k f v).sched := by
  have hu : x ∈ (s.unsched (fun x => match x.act with
      | .fld a hi lo _ => a = f.addr && hi = f.hi && lo = f.lo
      | _ => false)).sched := by
    refine List.mem_filter.mpr ⟨hm, ?_⟩
    beta_reduce
    split
    · next e => rw [e] at hx; exact nomatch hx
    · rfl
  exact List.mem_append_left _ (State.mem_sched_replaceChange hx hu)

/-- A commit leaves waiting what is no write of a register. -/
theorem State.mem_sched_committedAt (hx : x.act.isWrite = false) (hm : x ∈ s.sched) : x ∈ (s.committedAt k).sched := by
  have ha : x ∈ s.assignRings.sched := by rwa [(State.assignRings_good s).same .sched rfl]
  have hw (ws : List Nat) (g : Nat → Nat) : x ∈ (ws.foldl (fun s w =>
      if s.rd (R.HST_LONG_MAP_LONG w) = g w then s else s.wrNewest k (R.HST_LONG_MAP_LONG w) (g w)) s.assignRings).sched := by
    refine List.foldlRecOn (motive := fun u : State => x ∈ u.sched) _ _ ha fun u hu w _ => ?_
    split
    · exact hu
    · exact State.mem_sched_wrNewest hx hu
  rw [State.committedAt, State.afterCommit_sched, State.giveRings, State.setLongMap]
  split
  · exact hw _ _
  · exact State.mem_sched_wrNewest hx (hw _ _)

end

/-! ### Moves, gains and mutes -/

/-- One entry of OBJ_MOVE. -/
def State.moveObj (h : Hdr) (s : State) (m : BitVec 16 × Pos) : State :=
  (s.setObj m.1.toNat { s.obj m.1.toNat with acc := { (s.obj m.1.toNat).acc with pos := m.2 } }).later (s.hdrBlock h .within) (.objMove m.1.toNat m.2)

theorem State.SameClock.moveObj {m : BitVec 16 × Pos} : s.SameClock (s.moveObj h m) := .of_regs rfl rfl rfl

theorem State.obj_moveObj {m : BitVec 16 × Pos} {n : Nat} : (s.moveObj h m).obj n =
    if n = m.1.toNat then { s.obj m.1.toNat with acc := { (s.obj m.1.toNat).acc with pos := m.2 } } else s.obj n := State.obj_setObj

theorem State.sched_moveObjs {ms : List (BitVec 16 × Pos)} :
    (ms.foldl (State.moveObj h) s).sched = s.sched ++ ms.map fun m => ⟨s.hdrBlock h .within, .objMove m.1.toNat m.2⟩ :=
  State.sched_foldl (P := s.SameClock) (fun _ _ hu => hu.trans .moveObj) (fun u m hu => by
    simp only [State.moveObj, State.later, State.setObj_sched, hu.hdrBlock]) ms .refl

/-- An object that no entry names is as it was. -/
theorem State.obj_moveObjs_other {ms : List (BitVec 16 × Pos)} {n : Nat} (hn : ∀ m ∈ ms, m.1.toNat ≠ n) :
    (ms.foldl (State.moveObj h) s).obj n = s.obj n :=
  List.foldlRecOn (motive := fun u : State => u.obj n = s.obj n) _ _ rfl fun _ hu m hm => by
    rw [State.obj_moveObj, if_neg (hn m hm).symm, hu]

/-- The last entry stands. -/
theorem State.obj_moveObjs_last {ms : List (BitVec 16 × Pos)} {m : BitVec 16 × Pos} (hm : ms.getLast? = some m) :
    ((ms.foldl (State.moveObj h) s).obj m.1.toNat).acc.pos = m.2 := by
  obtain ⟨init, rfl⟩ := List.getLast?_eq_some_iff.mp hm
  rw [List.foldl_concat, State.obj_moveObj, if_pos rfl]

/-- One entry of OBJ_GAIN or OBJ_MUTE: its register shows it, and the change waits for its input sample. -/
def State.sendAt (i : Nat) (h : Hdr) (s : State) (f : Fld) (v : Nat) (act : Nat → Nat → Act) : State :=
  (s.wr f v).later (s.hdrSample h / 32) (act (s.hdrSample h) (s.hdrRamp i h))

/-- What waits sets a session's ramp time only where it is that parameter. -/
theorem State.rampFor_later {b k : Nat} {x : Act} (hx : ∀ j v, x ≠ .param j 8 v) : (s.later b x).rampFor i k = s.rampFor i k := by
  have hq : (s.later b x).sched = s.sched ++ [⟨b, x⟩] := rfl
  have hs : (s.later b x).session i = s.session i := rfl
  rw [State.rampFor, hq, hs, List.foldl_append, List.foldl_cons, List.foldl_nil]
  split
  · next e => exact absurd e (hx _ _)
  · rfl

section
variable {f : Fld} {v : Nat} {act : Nat → Nat → Act}

theorem State.SameClock.sendAt (hf : f.addr < R.TSU_STATUS_FIRST.addr) : s.SameClock (s.sendAt i h f v act) :=
  .trans (.wr hf) (.of_regs rfl rfl rfl)

theorem State.hdrRamp_sendAt (hf : f.addr < R.TSU_STATUS_FIRST.addr) (hx : ∀ p n j v, act p n ≠ .param j 8 v) :
    (s.sendAt i h f v act).hdrRamp i h = s.hdrRamp i h := by
  have hc : s.SameClock (s.sendAt i h f v act) := .sendAt hf
  have hr (k : Nat) : (s.sendAt i h f v act).rampFor i k = s.rampFor i k := State.rampFor_later (hx _ _)
  have hs : (s.sendAt i h f v act).session i = s.session i := rfl
  simp only [State.hdrRamp, State.rampLen, State.fs, hc.hdrSample, hc.straps, hr, hs]

end

section
variable {α : Type} {fld : α → Fld} {val : α → Nat} {act : α → Nat → Nat → Act} {es : List α}

theorem State.sched_sendAts (hf : ∀ e, (fld e).addr < R.TSU_STATUS_FIRST.addr) (hx : ∀ e p n j v, act e p n ≠ .param j 8 v) :
    (es.foldl (fun s e => s.sendAt i h (fld e) (val e) (act e)) s).sched =
      s.sched ++ es.map fun e => ⟨s.hdrSample h / 32, act e (s.hdrSample h) (s.hdrRamp i h)⟩ :=
  State.sched_foldl (P := fun u => s.SameClock u ∧ u.hdrRamp i h = s.hdrRamp i h)
    (fun _ e hu => ⟨hu.1.trans (.sendAt (hf e)), (State.hdrRamp_sendAt (hf e) (hx e)).trans hu.2⟩)
    (fun u e hu => by simp only [State.sendAt, State.later, State.wr_sched, hu.1.hdrSample, hu.2]) es ⟨.refl, rfl⟩

/-- The register of the last entry shows it. -/
theorem State.rd_sendAts_last {e : α} (he : es.getLast? = some e) (hw : (fld e).lo ≤ (fld e).hi) :
    (es.foldl (fun s e => s.sendAt i h (fld e) (val e) (act e)) s).rd (fld e) = val e % 2 ^ ((fld e).hi - (fld e).lo + 1) := by
  obtain ⟨init, rfl⟩ := List.getLast?_eq_some_iff.mp he
  rw [List.foldl_concat]
  exact State.rd_wr_self hw

end

/-- The registers of all gains of objects lie below those of the time unit. -/
theorem addr_objGain_lt {o : BitVec 16} :
    (R.MIX_OBJ_GAIN_CODE o.toNat).addr < R.TSU_STATUS_FIRST.addr ∧ (R.MIX_OBJ_GAIN_MUTE o.toNat).addr < R.TSU_STATUS_FIRST.addr := by
  have := o.isLt
  show 0x40201000 + 4 * o.toNat < 0x40300004 ∧ 0x40201000 + 4 * o.toNat < 0x40300004
  omega

theorem State.hdrRamp_takePlace {n : Nat} {b : Bool} : (s.takePlace i n b).hdrRamp i h = s.hdrRamp i h := by
  have hc : s.SameClock (s.takePlace i n b) := .takePlace
  have hs : ((s.takePlace i n b).session i).major = (s.session i).major ∧ ((s.takePlace i n b).session i).rampMs = (s.session i).rampMs := by
    unfold State.takePlace
    split
    · rw [State.session, State.setSession, Cells.get_set_self]; exact ⟨rfl, rfl⟩
    · exact ⟨rfl, rfl⟩
  simp only [State.hdrRamp, State.rampFor, State.rampLen, State.fs, hc.hdrSample, hc.straps, State.takePlace_sched, hs]

end

/-! ### The commands -/

section
variable {s a : State} {h : Hdr} {i : Nat}

theorem countIn_cons_ok {α : Type} {lo hi n : Nat} {g : α → Status} {xs : List α} (h1 : lo ≤ n) (h2 : n ≤ hi) (hg : ∀ x ∈ xs, g x = .ok) :
    firstBad (countIn lo hi n :: xs.map g) = .ok := by
  rw [countIn_of_le h1 h2, firstBad_cons_ok]
  exact firstBad_of_all_ok (by simpa using hg)

theorem exec_objDefine {o : BitVec 16} {new : ObjRec} (ht : s.takes h ⟨0x0201, (1, 0), .both, false, .other⟩ i a)
    (hl : lenIs h 44 = true) (ho : a.ownsObj i o.toNat = true) (hz : 1024 ≤ o.toNat ∨ a.ownsZone i new.homeZone.toNat = true)
    (hv : (a.acceptObj o.toNat new (a.hdrBlock h .both) (a.hdrNext h)).thenCommit (a.objCheck o.toNat new) = .ok) :
    let p : State := a.takePlace i (a.hdrDone h .both) h.timed
    exec (.objDefine h o new) s =
      .next (((p.acceptObj o.toNat new (a.hdrBlock h .both) (a.hdrNext h)).committedAt (a.hdrNext h)).reply i 0x0201 h.seq.toNat .ok [] true) := by
  have hc : a.SameClock (a.takePlace i (a.hdrDone h .both) h.timed) := .takePlace
  rw [← hc.hdrBlock, ← hc.hdrNext]
  exact congrArg _ (State.receive_placed ht (by simpa [hl, ho, hv] using hz) rfl)

/-- A list of moves, gains or mutes of objects passes when every entry names an object that the session owns. -/
theorem objList_ok {α : Type} {es : List α} {n : Nat} {o : α → BitVec 16} (hl : lenIs h n = true) (h1 : 1 ≤ es.length) (h2 : es.length ≤ 64)
    (he : ∀ e ∈ es, a.objId (o e).toNat = .ok ∧ a.ownsObj i (o e).toNat = true) :
    (⟨lenIs h n, es.all fun e => a.ownsObj i (o e).toNat, false, firstBad (countIn 1 64 es.length :: es.map fun e => a.objId (o e).toNat)⟩ : OpCheck) =
      ⟨true, true, false, .ok⟩ := by
  rw [hl, countIn_cons_ok h1 h2 fun e hm => (he e hm).1, List.all_eq_true.mpr fun e hm => (he e hm).2]

theorem exec_objMove {ms : List (BitVec 16 × Pos)} (ht : s.takes h ⟨0x0202, (1, 0), .within, false, .other⟩ i a)
    (hl : lenIs h (2 + 12 * ms.length) = true) (h1 : 1 ≤ ms.length) (h2 : ms.length ≤ 64)
    (hm : ∀ m ∈ ms, a.objId m.1.toNat = .ok ∧ a.ownsObj i m.1.toNat = true) :
    exec (.objMove h ms) s =
      .next ((ms.foldl (State.moveObj h) (a.takePlace i (a.hdrDone h .within) h.timed)).reply i 0x0202 h.seq.toNat .ok [] true) :=
  congrArg _ (State.receive_placed ht (objList_ok hl h1 h2 hm) rfl)

theorem exec_objGain {es : List (BitVec 16 × BitVec 16)} (ht : s.takes h ⟨0x0204, (1, 0), .within, true, .other⟩ i a)
    (hl : lenIs h (2 + 4 * es.length) = true) (h1 : 1 ≤ es.length) (h2 : es.length ≤ 64)
    (he : ∀ e ∈ es, a.objId e.1.toNat = .ok ∧ a.ownsObj i e.1.toNat = true) :
    exec (.objGain h es) s = .next ((es.foldl (fun s e => s.sendAt i h (R.MIX_OBJ_GAIN_CODE e.1.toNat) (unsignedOf 16 e.2.toInt)
      (.gain (pathObj e.1.toNat) e.2.toInt)) (a.takePlace i (a.hdrDone h .within) h.timed)).reply i 0x0204 h.seq.toNat .ok [] true) :=
  congrArg _ (State.receive_placed ht (objList_ok hl h1 h2 he) rfl)

theorem exec_objMute {es : List (BitVec 16 × Bool)} (ht : s.takes h ⟨0x0205, (1, 0), .within, true, .other⟩ i a)
    (hl : lenIs h (2 + 4 * es.length) = true) (h1 : 1 ≤ es.length) (h2 : es.length ≤ 64)
    (he : ∀ e ∈ es, a.objId e.1.toNat = .ok ∧ a.ownsObj i e.1.toNat = true) :
    exec (.objMute h es) s = .next ((es.foldl (fun s e => s.sendAt i h (R.MIX_OBJ_GAIN_MUTE e.1.toNat) (b2n e.2)
      (.mute (pathObj e.1.toNat) e.2)) (a.takePlace i (a.hdrDone h .within) h.timed)).reply i 0x0205 h.seq.toNat .ok [] true) :=
  congrArg _ (State.receive_placed ht (objList_ok hl h1 h2 he) rfl)

theorem exec_objPath {o : BitVec 16} {w : List Waypoint} (ht : s.takes h ⟨0x0203, (2, 0), .within, false, .other⟩ i a)
    (hl : lenIs h (4 + 20 * w.length) = true) (h1 : 1 ≤ w.length) (h2 : w.length ≤ 16) (ho : a.objId o.toNat = .ok)
    (hown : a.ownsObj i o.toNat = true) (hr : risingFrom (a.tBlock (a.hdrBlock h .within + 1)) (w.map (fun p => p.time)) = true) :
    let p : State := a.takePlace i (a.hdrDone h .within) h.timed
    exec (.objPath h o w) s = .next ((p.later (a.hdrBlock h .within) (.objPath o.toNat w)).reply i 0x0203 h.seq.toNat .ok [] true) := by
  have hc : a.SameClock (a.takePlace i (a.hdrDone h .within) h.timed) := .takePlace
  rw [← hc.hdrBlock]
  exact congrArg _ (State.receive_placed ht (by
    rw [hl, hown, countIn_of_le h1 h2, firstBad_cons_ok, ho, firstBad_cons_ok, hr]; rfl) rfl)

end

/-- Settles O26: each command takes its place and runs; a definition is read off the record it leaves, and a list puts one change for
each entry behind those waiting, the last entry standing in the record or register. -/
theorem objectsDefinedAndMoved : Obligations.ObjectsDefinedAndMoved := by
  refine ⟨fun s a h i o new ht hl ho hz hv => ⟨_, exec_objDefine ht hl ho hz hv, ?_⟩,
    fun s a h i ms ht hl h1 h2 hm => ⟨_, exec_objMove ht hl h1 h2 hm, ?_, fun n hn => ?_, fun m => State.obj_moveObjs_last⟩,
    fun s a h i o w ht hl h1 h2 ho hown hr => ⟨_, exec_objPath ht hl h1 h2 ho hown hr, ?_, State.takePlace_regs, State.takePlace_geo⟩,
    fun s a h i es ht hl h1 h2 he => ⟨_, exec_objGain ht hl h1 h2 he, ?_, fun e hm => ?_⟩,
    fun s a h i es ht hl h1 h2 he => ⟨_, exec_objMute ht hl h1 h2 he, ?_, fun e hm => ?_⟩,
    fun s a h i first n ht hl h1 h2 ho => ?_⟩
  · generalize a.hdrBlock h .both = kp
    generalize a.hdrNext h = kn
    generalize a.hdrDone h .both = done
    have hobj (n : Nat) : (((a.takePlace i done h.timed).acceptObj o.toNat new kp kn).committedAt kn).obj n =
        if n = o.toNat then (a.obj o.toNat).accepted kn new else a.obj n := by
      rw [State.obj_congr ((State.committedAt_good _ kn).same .geo rfl), State.obj_acceptObj]
      simp only [State.obj_congr State.takePlace_geo]
    have hmem (x : Sched) (hx : x.act.isWrite = false) (hm : x ∈ [⟨kp, .objMove o.toNat new.pos⟩, ⟨kn, .objFields o.toNat new⟩]) :
        x ∈ (((a.takePlace i done h.timed).acceptObj o.toNat new kp kn).committedAt kn).sched := by
      refine State.mem_sched_committedAt hx ?_
      rw [State.sched_acceptObj]
      simp only [List.mem_append, List.mem_cons] at hm ⊢
      tauto
    rw [hobj, if_pos rfl]
    exact ⟨ObjSt.accepted_acc, hmem _ rfl (by simp), hmem _ rfl (by simp), ObjSt.accepted_route, fun n hn => by rw [hobj, if_neg hn]⟩
  · rw [State.sched_moveObjs, State.takePlace_sched, State.SameClock.takePlace.hdrBlock]
  · rw [State.obj_moveObjs_other hn, State.obj_congr State.takePlace_geo]
  · exact congrArg (· ++ _) State.takePlace_sched
  · rw [State.sched_sendAts (act := fun e : BitVec 16 × BitVec 16 => .gain (pathObj e.1.toNat) e.2.toInt) (fun _ => addr_objGain_lt.1) nofun, State.takePlace_sched,
      State.SameClock.takePlace.hdrSample, State.hdrRamp_takePlace]
  · rw [State.rd_sendAts_last hm (Nat.zero_le _), unsignedOf, BitVec.ofInt_toInt]
    exact Nat.mod_eq_of_lt e.2.isLt
  · rw [State.sched_sendAts (act := fun e : BitVec 16 × Bool => .mute (pathObj e.1.toNat) e.2) (fun _ => addr_objGain_lt.2) nofun, State.takePlace_sched,
      State.SameClock.takePlace.hdrSample, State.hdrRamp_takePlace]
  · rw [State.on, State.rd_sendAts_last hm (Nat.le_refl _)]
    cases e.2 <;> rfl
  · exact congrArg _ (State.receive_untimed ht rfl (by rw [hl, countIn_of_le h1 h2, firstBad_cons_ok, ho]; rfl) rfl)

end Sys2Proof.Machine
end

section
/-! PROOFS. The commands of the history store, the rate of sound, installs and identification (R37, R54, R63–R66, R70, R81, R87, R342, R368). -/

-- One proof at a time: the package as one text then takes less memory.
set_option Elab.async false

namespace Sys2Proof.Machine

open Sys2Proof

section
variable {s t u v : State} {f g : Fld} {k n r o w : Nat}

/-! ### Words that wait for their block, and the log of failures -/

/-- A field that waits for its block reads back at once (R14). -/
theorem State.rd_wrAt_self (h : f.lo ≤ f.hi) : (s.wrAt k f w).rd f = w % 2 ^ (f.hi - f.lo + 1) := State.rd_wr_self h

theorem State.rd_wrAt_addr (h : g.addr ≠ f.addr) : (s.wrAt k f w).rd g = s.rd g :=
  (State.rd_wr_addr h).trans State.rd_replaceChange

theorem State.rd_failLog_addr {c i : Nat} (h : g.addr ≠ R.HST_FAIL_LOG_VALID.addr) : (s.failLog c r i).rd g = s.rd g := by
  have hc : g.addr ≠ R.HST_FAIL_LOG_CAUSE.addr := h
  have hr : g.addr ≠ R.HST_FAIL_LOG_RING.addr := h
  have hs : g.addr ≠ R.HST_FAIL_LOG_SLOT.addr := h
  unfold State.failLog
  split
  · rfl
  · rw [State.rd_wr_addr hs, State.rd_wr_addr hr, State.rd_wr_addr hc, State.rd_flag_addr h]

theorem State.rd_tallyLog_addr {a b c d : Nat} (hl : g.addr ≠ R.TLY_CNT_LOG_LOST_VALUE.addr) (hh : g.addr ≠ R.TLY_LOG_HEAD_COUNT.addr) :
    (s.tallyLog a b c d).rd g = s.rd g := by
  have hn : g.addr ≠ R.TLY_LOG_HEAD_NEXT.addr := hh
  simp only [State.tallyLog, State.showLog]
  split
  · rfl
  · rw [State.rd_wr_addr hn, State.rd_wr_addr hh, State.rd_count_addr hl]
    exact State.rd_congr rfl rfl

/-! ### The rate of sound (R37, R368) -/

theorem unsignedOf_lt {v : Int} : unsignedOf w v < 2 ^ w := (BitVec.ofInt w v).isLt

/-- The rate of sound is tracked: it waits for a block, and the instant is noted. -/
def State.rateAt (s : State) (blk c : Nat) : State :=
  { s with geo := { s.geo with speedAt := s.tm.raw } }.wrAt blk R.PST_SOUND_RATE_RATE (s.soundRate c)

/-- An instant is no register, and neither are the records of the Pasture engine, the history store, Tally, the DRAM controller and
the mixing block. -/
theorem State.rd_atRaw : (s.atRaw n).rd g = s.rd g := State.rd_congr rfl rfl

theorem State.rd_withGeo {x : Geo} : ({ s with geo := x } : State).rd g = s.rd g := State.rd_congr rfl rfl

theorem State.rd_withHst {x : Hst} : ({ s with hst := x } : State).rd g = s.rd g := State.rd_congr rfl rfl

theorem State.rd_withTly {x : TlySt} : ({ s with tly := x } : State).rd g = s.rd g := State.rd_congr rfl rfl

theorem State.rd_withCel {x : Cel} : ({ s with cel := x } : State).rd g = s.rd g := State.rd_congr rfl rfl

theorem State.rd_withMix {x : MixSt} : ({ s with mix := x } : State).rd g = s.rd g := State.rd_congr rfl rfl

theorem State.rd_rateAt_temp {c : Nat} : (s.rateAt k c).rd R.SUP_TEMP_VALUE = s.rd R.SUP_TEMP_VALUE := by
  unfold State.rateAt
  rw [State.rd_wrAt_addr (by decide), State.rd_withGeo]

theorem State.rd_rateAt_rate {c : Nat} : (s.rateAt k c).rd R.PST_SOUND_RATE_RATE = s.soundRate c % 2 ^ 32 := by
  unfold State.rateAt
  rw [State.rd_wrAt_self (by decide)]
  rfl

theorem State.speedAt_rateAt {c : Nat} : (s.rateAt k c).geo.speedAt = s.tm.raw := by
  unfold State.rateAt
  rw [State.wrAt_geo]

theorem State.soundRate_congr {c : Nat} (h : t.straps = s.straps) : t.soundRate c = s.soundRate c := by
  rw [State.soundRate, State.fs, h, State.soundRate, State.fs]

/-- With tracking on, the first conversion is shown and tracked. -/
theorem exec_soundRateUpdate_first {code : BitVec 14} (ht : s.geo.track = true) (ha : s.geo.speedAt = 0) :
    let u : State := (s.atRaw n).wr R.SUP_TEMP_VALUE (unsignedOf 16 (tempOf code))
    exec (.soundRateUpdate code n) s = .next (u.rateAt u.nextBlock (3313000 + 606 * tempOf code).toNat) := by
  intro u
  have hg : u.geo = s.geo := State.wr_geo.trans State.atRaw_geo
  have hc : ¬(!u.geo.track || (decide (u.geo.speedAt ≠ 0) && decide (u.tm.raw < u.geo.speedAt + ms 10000))) = true := by
    rw [hg, ht, ha]
    simp
  exact if_neg hc

/-! ### Tiles (R54–R56) -/

section
variable {src q : Nat} {xs : List Int} {na new : Bool}

section
variable (hl : s.lands s.hst.win = true) (hr : s.ringOf src = some r) (ho : s.hst.winOpen = true)
include hl hr ho

theorem State.present_land (hq : q = s.hst.win % 65536) (hh : (s.ring r).has s.hst.win = false) :
    s.present src q xs false new = s.land r s.hst.win xs (decide (s.landDeadline s.hst.win ≤ s.now + s.warnMargin)) new := by
  simp [State.present, hl, hr, ho, ← hq, hh]

theorem State.present_early (hq : q ≠ s.hst.win % 65536) (hk : laterThan 16 q (s.hst.win % 65536) = true) :
    s.present src q xs na new = s.bump R.HST_CNT_EARLY_VALUE := by
  simp [State.present, hl, hr, ho, hq, hk]

theorem State.present_late (hq : q ≠ s.hst.win % 65536) (hk : laterThan 16 q (s.hst.win % 65536) = false) :
    s.present src q xs na new = (s.bump R.HST_CNT_LATE_DROP_VALUE).flag R.HST_STATUS_LATE_DROP := by
  simp [State.present, hl, hr, ho, hq, hk]

end

theorem State.ring_congr (h : t.hst = s.hst) : t.ring k = s.ring k := by rw [State.ring, h, State.ring]

theorem State.ring_setRing {x : RingSt} : (s.setRing r x).ring k = if k = r then x else s.ring k := Cells.get_set

/-- A tile that lands is the ring's last, and no other ring moves. -/
theorem State.ring_land {lw : Bool} : (s.land r n xs lw new).ring k =
    if k = r then { s.ring r with first := some ((s.ring r).first.getD n), last := some (n, .data), nonAudio := none } else s.ring k := by
  unfold State.land State.when
  split
  · rw [State.ring_congr (State.bump_hst), State.ring_setRing, State.ring_congr State.setSlot_hst]
  · rw [State.ring_setRing, State.ring_congr State.setSlot_hst]

/-- What a producer made of its samples leaves the history store alone: `v` has the history, memory and clocks of `u`, and its registers but one counter. -/
structure State.SameStore (u v : State) : Prop where
  hst : v.hst = u.hst
  mem : v.mem = u.mem
  clk : v.clk = u.clk
  rd : ∀ f : Fld, f.addr ≠ R.MIX_CNT_BRG_SAT_VALUE.addr → v.rd f = u.rd f

theorem State.SameStore.refl : s.SameStore s := ⟨rfl, rfl, rfl, fun _ _ => rfl⟩

theorem State.SameStore.trans (h : s.SameStore t) (k : t.SameStore u) : s.SameStore u :=
  ⟨k.hst.trans h.hst, k.mem.trans h.mem, k.clk.trans h.clk, fun f hf => (k.rd f hf).trans (h.rd f hf)⟩

theorem State.SameStore.lands (h : s.SameStore t) : t.lands k = s.lands k := by
  rw [State.lands, State.lands, State.on, State.on, State.gated, State.gated, State.awakeFor, State.awakeFor, h.hst, h.clk,
    h.rd _ (by decide), h.rd _ (by decide)]

theorem State.SameStore.ringOf (h : s.SameStore t) : t.ringOf src = s.ringOf src := by rw [State.ringOf, h.hst, State.ringOf]

theorem State.sameStore_voiceTile : s.SameStore (s.voiceTile w k xs).1 :=
  ⟨(State.voiceTile_good s w k xs).same .hst rfl, (State.voiceTile_good s w k xs).same .mem rfl, (State.voiceTile_good s w k xs).same .clk rfl,
    fun _ hf => State.rd_count_addr hf⟩

theorem State.sameStore_ascTile : s.SameStore (s.ascTile w k).1 := by
  unfold State.ascTile
  split
  · exact State.sameStore_voiceTile
  · exact .refl

theorem State.sameStore_micFilter : s.SameStore (s.micFilter w xs).1 := by
  have hg := State.micFilter_good s w xs
  exact ⟨hg.same .hst rfl, hg.same .mem rfl, hg.same .clk rfl, fun _ _ => State.rd_congr (hg.same .regs rfl) (hg.same .straps rfl)⟩

end

/-- Does the producer of a source present at an instant: an ASRC channel that delivers good samples, a microphone that is enabled with its
bridge, anything else always (R54, R169, R185, R189)? -/
def State.delivers (u : State) (src k : Nat) : Prop :=
  (0x6000 ≤ src → src < 0x6020 → u.gated 8 = false ∧ u.ascDelivers (src - 0x6000) k = true ∧
    (u.on (R.ASC_CFG_OUT_VOICE (src - 0x6000)) = true → u.on R.MIX_CTRL_ENABLE = true) ∧ (u.ascTile (src - 0x6000) k).2.2 = false) ∧
  (0x8000 ≤ src → src < 0x8004 → u.gated 9 = false ∧ u.on (R.MIC_CFG_EN (src - 0x8000)) = true ∧ u.on R.MIX_CTRL_ENABLE = true)

/-- The samples of a producer's tile for block `k`, and the state in which it has made them. -/
def State.producedTile (u : State) (src k : Nat) (x : BitVec 576) : State × List Int :=
  if 0x6000 ≤ src ∧ src < 0x6020 then ((u.ascTile (src - 0x6000) k).1, (u.ascTile (src - 0x6000) k).2.1)
  else if 0x8000 ≤ src ∧ src < 0x8004 then
    (u.micFilter (src - 0x8000) ((samplesOf x).take (u.voxCount k))).1.voiceTile (32 + (src - 0x8000)) k
      (u.micFilter (src - 0x8000) ((samplesOf x).take (u.voxCount k))).2
  else (u, samplesOf x)

theorem State.sameStore_producedTile {src : Nat} {x : BitVec 576} : s.SameStore (s.producedTile src k x).1 := by
  unfold State.producedTile
  split
  · exact State.sameStore_ascTile
  · split
    · exact State.sameStore_micFilter.trans State.sameStore_voiceTile
    · exact .refl

/-- A producer that delivers presents its tile. -/
theorem exec_tilePresent {src q : BitVec 16} {x : BitVec 576} {na : Bool}
    (hd : (s.atRaw n).delivers src.toNat ((s.atRaw n).seqBlock q.toNat)) :
    let p := (s.atRaw n).producedTile src.toNat ((s.atRaw n).seqBlock q.toNat) x
    exec (.tilePresent src q x na n) s = .next (p.1.present src.toNat q.toNat p.2 na false) := by
  obtain ⟨hasc, hmic⟩ := hd
  show execTilePresent src q x na n s = _
  unfold execTilePresent State.producedTile
  by_cases h : 0x6000 ≤ src.toNat ∧ src.toNat < 0x6020
  · obtain ⟨hg, hd, hv, hs⟩ := hasc h.1 h.2
    simp only [h, decide_true, Bool.and_self, and_self, if_true, hg, hd, hs, Bool.or_false]
    exact if_neg (by simpa using hv)
  · rw [if_neg (by simpa using h), if_neg h]
    by_cases h : 0x8000 ≤ src.toNat ∧ src.toNat < 0x8004
    · obtain ⟨hg, he, hm⟩ := hmic h.1 h.2
      rw [if_pos (by simp [h]), if_pos h]
      exact if_neg (by simp [hg, he, hm])
    · rw [if_neg (by simpa using h), if_neg h]

/-! ### Long rings and panic (R63, R64, R342) -/

section
variable {got : List (Nat × Nat)} {x : Nat × Nat} {xs : List (Nat × Nat)}

theorem State.bytes_congr {a : Nat} (h : t.mem = s.mem) : t.bytes a n = s.bytes a n := by
  induction n generalizing a with
  | zero => rfl
  | succ n ih => rw [State.bytes, State.bytes, ih, State.byte, State.byte, h]

theorem State.slot_congr (h : t.mem = s.mem) : t.slot r k = s.slot r k := by
  rw [State.slot, State.slot, State.bytes_congr h]

theorem State.countPanic_mem : s.countPanic.mem = s.mem := (State.countPanic_good s).same .mem rfl

/-- A copy that is due puts the ring's slot into the long ring, and is due no more. -/
theorem exec_longRingCopy {r : Fin 1024} {b : Nat} (hg : s.gated 4 = false) (hc : s.hst.copies.contains (r.val, b) = true) :
    ∃ t : State, exec (.longRingCopy r b) s = .next t ∧ t.hst.longTiles.get tileZero (r.val * 4104 + b % 4104) = s.slot r.val (b % 64) ∧
      t.hst.copies = s.hst.copies.filter (fun x => x ≠ (r.val, b)) ∧ (t.ring r.val).longFirst = some ((s.ring r.val).longFirst.getD b) := by
  show ∃ t : State, execLongRingCopy r b s = _ ∧ _
  unfold execLongRingCopy
  rw [if_neg (by simp [hg]), if_pos hc]
  refine ⟨_, rfl, ?_, ?_, ?_⟩
  · rw [Cells.get_set_self]
    exact State.slot_congr State.countPanic_mem
  · show s.countPanic.hst.copies.filter _ = _
    rw [State.countPanic_hst]
  · refine (congrArg RingSt.longFirst Cells.get_set_self).trans ?_
    rw [State.ring_congr State.countPanic_hst]

/-- A copy that is overdue asserts panic. -/
theorem exec_longCopyOverdue {r : Fin 1024} {b : Nat} (hc : s.hst.copies.contains (r.val, b) = true)
    (hp : s.hst.copyPanic.contains (r.val, b) = false) :
    exec (.longCopyOverdue r b) s =
      .next { s.countPanic with hst := { s.hst with copyPanic := s.hst.copyPanic ++ [(r.val, b)] } } := by
  show execLongCopyOverdue r b s = _
  unfold execLongCopyOverdue
  rw [if_pos (by rw [hc, hp]; rfl), ← State.countPanic_hst (s := s)]

theorem State.panic_of_copy (h : s.hst.copyPanic ≠ []) : s.panic = true := by simp [State.panic, h]

theorem State.panic_of_render (h : s.hst.renderPanic = true) : s.panic = true := by simp [State.panic, h]

theorem State.panic_of_age (h : s.hst.agePanic = true) : s.panic = true := by simp [State.panic, h]

theorem State.rd_countPanic (h : g.addr ≠ R.CEL_CNT_PANIC_VALUE.addr) : s.countPanic.rd g = s.rd g := by
  unfold State.countPanic
  exact State.rd_withCel.trans (State.rd_count_addr h)

theorem State.rd_longGot (h : g.addr ≠ R.CEL_CNT_PANIC_VALUE.addr) : (s.longGot got).rd g = s.rd g := by
  unfold State.longGot
  exact State.rd_withHst.trans (State.rd_countPanic h)

theorem State.longGot_tm : (s.longGot got).tm = s.tm := (State.longGot_good s got).same .tm rfl

theorem State.panicAt_longGot : (s.longGot got).cel.panicAt = s.tm.raw := congrArg Tm.raw ((State.count_good s _ _).same .tm rfl)

theorem exec_panicStart (hr : ((s.atRaw n).longGot got).hst.longReads ≠ []) (hp : ((s.atRaw n).longGot got).pastB0 625 = true) :
    exec (.panicStart got n) s =
      .next { (s.atRaw n).longGot got with hst := { ((s.atRaw n).longGot got).hst with renderPanic := true } } := by
  show execPanicStart got n s = _
  exact congrArg Host.Outcome.next (if_neg (by simp [hr, hp]))

theorem exec_longReadAge (ha : s.rd R.HST_PANIC_AGE ≠ 0) (hr : ((s.atRaw n).longGot got).hst.longReads ≠ [])
    (hp : ((s.atRaw n).longGot got).hst.longAt + us (s.rd R.HST_PANIC_AGE) < (s.atRaw n).tm.raw) :
    exec (.longReadAge got n) s =
      .next { (s.atRaw n).longGot got with hst := { ((s.atRaw n).longGot got).hst with agePanic := true } } := by
  have hage : ((s.atRaw n).longGot got).rd R.HST_PANIC_AGE = s.rd R.HST_PANIC_AGE := State.rd_longGot (by decide)
  show execLongReadAge got n s = _
  simp only [execLongReadAge, hage, State.longGot_tm]
  rw [if_pos (by simp [ha, hr, hp])]

theorem exec_longTileDeadline (hp : ((s.atRaw n).longGot got).pastB0 725 = true) :
    let u : State := (s.atRaw n).longGot got
    exec (.longTileDeadline got n) s = .next ((u.hst.longReads.filter (fun x => !u.hst.lateTiles.contains x)).foldl State.longLate u) := by
  show execLongTileDeadline got n s = _
  exact congrArg Host.Outcome.next (if_pos hp)

theorem State.longLate_hst : (s.longLate x).hst = { s.hst with lateTiles := s.hst.lateTiles ++ [x] } := by
  simp only [State.longLate, State.failLog_hst, State.flag_hst, State.bump_hst]

theorem State.rd_longLate : (s.longLate x).rd R.HST_CNT_LONG_LATE_VALUE = min 0xFFFFFFFF (s.rd R.HST_CNT_LONG_LATE_VALUE + 1) := by
  simp only [State.longLate, State.rd_withHst]
  rw [State.rd_failLog_addr (by decide), State.rd_flag_addr (by decide), State.rd_bump_self (by decide)]

theorem State.hst_longLates : (xs.foldl State.longLate s).hst = { s.hst with lateTiles := s.hst.lateTiles ++ xs } := by
  induction xs generalizing s with
  | nil => rw [List.append_nil]; rfl
  | cons x xs ih => rw [List.foldl_cons, ih, State.longLate_hst, List.append_assoc, List.singleton_append]

/-- A counter of 32 bits is within its range. -/
theorem State.rd_word_le (h : f.lo = 0 ∧ f.hi = 31) : s.rd f ≤ 0xFFFFFFFF := by
  have hlt : bitsOf (s.word f) f.hi f.lo < 2 ^ (f.hi - f.lo + 1) := bitsOf_lt
  rw [← State.rd, h.1, h.2] at hlt
  omega

theorem State.rd_longLates : (xs.foldl State.longLate s).rd R.HST_CNT_LONG_LATE_VALUE =
    min 0xFFFFFFFF (s.rd R.HST_CNT_LONG_LATE_VALUE + xs.length) := by
  induction xs generalizing s with
  | nil => exact (Nat.min_eq_right (State.rd_word_le ⟨rfl, rfl⟩)).symm
  | cons x xs ih => rw [List.foldl_cons, ih, State.rd_longLate, List.length_cons]; omega

end

/-! ### The scrub (R66) -/

section
variable {p q : Nat}

theorem State.scrubFrom_congr (h : t.hst.rings = s.hst.rings) : t.scrubFrom p = s.scrubFrom p := by
  rw [State.scrubFrom, State.assigned, h, State.scrubFrom, State.assigned]

/-- The check of a slot leaves the count of passes alone. -/
theorem State.rd_scrubSlot_passes : (s.scrubSlot r q).rd R.HST_SCRUB_PTR_PASSES = s.rd R.HST_SCRUB_PTR_PASSES := by
  have hf (c : Nat) (u : State) : (((u.bump R.HST_CNT_SCRUB_VALUE).flag R.HST_STATUS_SCRUB_ERR).failLog c r q).rd R.HST_SCRUB_PTR_PASSES =
      u.rd R.HST_SCRUB_PTR_PASSES := by
    rw [State.rd_failLog_addr (by decide), State.rd_flag_addr (by decide), State.rd_bump_addr (by decide)]
  unfold State.scrubSlot
  extract_lets _ _ failed
  split
  · rfl
  · split
    · exact (hf _ _).trans State.rd_withTly
    · split
      · exact (hf _ _).trans State.rd_withTly
      · rfl

theorem State.rd_scrubPass_passes : s.scrubPass.rd R.HST_SCRUB_PTR_PASSES = (s.rd R.HST_SCRUB_PTR_PASSES + 1) % 65536 := by
  simp only [State.scrubPass]
  rw [State.rd_tallyLog_addr (by decide) (by decide), State.rd_withTly, State.rd_wr_self (by decide)]
  rfl

/-- The scrub moves on to the next slot of an assigned ring. -/
theorem State.scrubRead_next (h : s.scrubFrom (p + 1) = some q) :
    s.scrubRead p = (s.scrubSlot (p / 64) (p % 64)).wr R.HST_SCRUB_PTR_SLOT q := by
  have hs : (s.scrubSlot (p / 64) (p % 64)).scrubFrom (p + 1) = some q := by
    rw [State.scrubFrom_congr (congrArg Hst.rings ((State.scrubSlot_good s _ _).same .hst rfl)), h]
  simp only [State.scrubRead, hs]

/-- After the last slot a pass is complete, and the scrub begins again. -/
theorem State.scrubRead_wraps (h : s.scrubFrom (p + 1) = none) (h0 : s.scrubFrom 0 = some q) :
    s.scrubRead p = (s.scrubSlot (p / 64) (p % 64)).scrubPass.wr R.HST_SCRUB_PTR_SLOT q := by
  have hh : (s.scrubSlot (p / 64) (p % 64)).hst = s.hst := (State.scrubSlot_good s _ _).same .hst rfl
  have hs : (s.scrubSlot (p / 64) (p % 64)).scrubFrom (p + 1) = none := by
    rw [State.scrubFrom_congr (congrArg Hst.rings hh), h]
  have hz : (s.scrubSlot (p / 64) (p % 64)).scrubFrom 0 = some q := by
    rw [State.scrubFrom_congr (congrArg Hst.rings hh), h0]
  simp only [State.scrubRead, hs, hz, Option.getD_some]

theorem State.rd_wrSlot_slot (hq : q < 65536) : (s.wr R.HST_SCRUB_PTR_SLOT q).rd R.HST_SCRUB_PTR_SLOT = q :=
  (State.rd_wr_self (by decide)).trans (Nat.mod_eq_of_lt hq)

theorem State.rd_wrSlot_passes : (s.wr R.HST_SCRUB_PTR_SLOT q).rd R.HST_SCRUB_PTR_PASSES = s.rd R.HST_SCRUB_PTR_PASSES :=
  State.rd_wr_bits rfl ⟨rfl, rfl⟩ (by decide) (by decide) (by decide)

theorem State.scrubRead_mem : (s.scrubRead p).mem = s.mem := (State.scrubRead_good s p).same .mem rfl

/-- The scrub notes the block in which it reads. -/
def State.scrubbing (s : State) : State := { s with hst := { s.hst with scrubAt := s.tm.blockCount + 1 } }

theorem State.rd_scrubbing : s.scrubbing.rd g = s.rd g := State.rd_withHst

/-- The scrub is due, and reads the slot that it has come to. -/
theorem exec_scrubRead (hg : s.gated 3 = false) (he : s.on R.HST_SCRUB_CTRL_ENABLE = true) (ha : s.hst.scrubAt = 0)
    (hp : s.scrubFrom (s.rd R.HST_SCRUB_PTR_SLOT) = some p) :
    exec (.scrubRead n) s = .next ((s.atRaw n).scrubbing.scrubRead p) := by
  have hg' : (s.atRaw n).gated 3 = false := hg
  have he' : (s.atRaw n).on R.HST_SCRUB_CTRL_ENABLE = true := he
  have hu : (s.atRaw n).scrubbing.scrubFrom ((s.atRaw n).scrubbing.rd R.HST_SCRUB_PTR_SLOT) = some p := by
    rw [State.rd_scrubbing]; exact hp
  refine congrArg Host.Outcome.next ((if_neg (by simp [hg', he', ha])).trans ?_)
  rw [← State.scrubbing]
  simp only [hu]

theorem State.rd_scrubbing_atRaw : (s.atRaw n).scrubbing.rd g = s.rd g := State.rd_scrubbing.trans State.rd_atRaw

/-- A read within a pass shows the next slot, one at the end of a pass the first slot and one pass more. -/
theorem exec_scrubRead_pointer (hg : s.gated 3 = false) (he : s.on R.HST_SCRUB_CTRL_ENABLE = true) (ha : s.hst.scrubAt = 0)
    (hp : s.scrubFrom (s.rd R.HST_SCRUB_PTR_SLOT) = some p) (hq : q < 65536) :
    (s.scrubFrom (p + 1) = some q →
      ∃ t : State, exec (.scrubRead n) s = .next t ∧ t.rd R.HST_SCRUB_PTR_SLOT = q ∧
        t.rd R.HST_SCRUB_PTR_PASSES = s.rd R.HST_SCRUB_PTR_PASSES ∧ t.mem = s.mem) ∧
    (s.scrubFrom (p + 1) = none → s.scrubFrom 0 = some q →
      ∃ t : State, exec (.scrubRead n) s = .next t ∧ t.rd R.HST_SCRUB_PTR_SLOT = q ∧
        t.rd R.HST_SCRUB_PTR_PASSES = (s.rd R.HST_SCRUB_PTR_PASSES + 1) % 65536 ∧ t.mem = s.mem) := by
  refine ⟨fun h => ⟨_, exec_scrubRead hg he ha hp, ?_, ?_, State.scrubRead_mem⟩,
    fun h h0 => ⟨_, exec_scrubRead hg he ha hp, ?_, ?_, State.scrubRead_mem⟩⟩
  · rw [State.scrubRead_next (s := (s.atRaw n).scrubbing) h, State.rd_wrSlot_slot hq]
  · rw [State.scrubRead_next (s := (s.atRaw n).scrubbing) h, State.rd_wrSlot_passes, State.rd_scrubSlot_passes, State.rd_scrubbing_atRaw]
  · rw [State.scrubRead_wraps (s := (s.atRaw n).scrubbing) h h0, State.rd_wrSlot_slot hq]
  · rw [State.scrubRead_wraps (s := (s.atRaw n).scrubbing) h h0, State.rd_wrSlot_passes, State.rd_scrubPass_passes, State.rd_scrubSlot_passes, State.rd_scrubbing_atRaw]

end

/-! ### Installs (R81) -/

theorem State.writeCoefs_keeps {set gen : Nat} :
    (s.writeCoefs o set gen).mix.firs = s.mix.firs ∧ (s.writeCoefs o set gen).mix.installs = s.mix.installs := by
  refine Prod.mk.inj (foldl_keeps (fun u : State => (u.mix.firs, u.mix.installs)) (fun u tail => ?_) [false, true] s)
  refine foldl_keeps (fun u : State => (u.mix.firs, u.mix.installs)) (fun u p => ?_) _ u
  rfl

theorem State.firSet_setFir {set : Nat} {f : FirSet} : (s.setFir o set f).firSet o set = f := Cells.get_set_self

theorem State.firSet_congr {m : Nat} (h : t.mix.firs = s.mix.firs) : t.firSet o m = s.firSet o m := by
  rw [State.firSet, h, State.firSet]

/-- An install's staging set becomes the inactive set of its output. -/
def State.stageSpectra (s : State) (x : Install) : State :=
  (s.setFir x.output (s.inactiveSet x.output) (s.mix.staging.get stagingReset x.output)).writeCoefs x.output (s.inactiveSet x.output)
    (s.rd (R.MIX_OUT_FIR_FIR_GEN x.output) + 1)

theorem State.installs_stageSpectra {x : Install} : (s.stageSpectra x).mix.installs = s.mix.installs := State.writeCoefs_keeps.2

theorem State.firSet_stageSpectra {x : Install} :
    (s.stageSpectra x).firSet x.output (s.inactiveSet x.output) = s.mix.staging.get stagingReset x.output :=
  (State.firSet_congr State.writeCoefs_keeps.1).trans State.firSet_setFir

/-- The installs take their place in the state. -/
def State.setInstalls (s : State) (xs : List Install) : State := { s with mix := { s.mix with installs := xs } }

theorem State.firSet_setInstalls {m : Nat} {xs : List Install} : (s.setInstalls xs).firSet o m = s.firSet o m := State.firSet_congr rfl

/-- The one install that waits for its spectra is staged, and its block fixed. -/
theorem exec_installSpectraDone {x : Install} (hg : s.gated 5 = false) (hi : s.mix.installs = [x]) (hf : x.f = none) :
    exec (.installSpectraDone x.output n) s =
      .next (((s.atRaw n).stageSpectra x).setInstalls [{ x with f := some (s.atRaw n).installBlock }]) := by
  have hi' : (s.atRaw n).mix.installs = [x] := hi
  have hfind : [x].find? (fun y => y.output = x.output && y.f.isNone) = some x := by simp [hf]
  have hmine : [x].filter (fun y => y.op = x.op && y.f.isNone) = [x] := by simp [hf]
  have hmap (b : Nat) : [x].map (fun y => if y.op = x.op && y.f.isNone then { y with f := some b } else y) = [{ x with f := some b }] := by simp [hf]
  show execInstallSpectraDone x.output n s = _
  unfold execInstallSpectraDone
  rw [if_neg (by simp [hg])]
  simp only [hi', hfind, hmine]
  rw [List.foldl_cons, List.foldl_nil, ← State.stageSpectra, State.installs_stageSpectra, hi', hmap, ← State.setInstalls]

/-! ### Identification (R86, R87) -/

/-- A slot after a frame that it accepted. -/
def Ident.updated (d : Ident) (s : State) : Ident :=
  { d with n := min 4294967295 (d.n + 1), lastBlk := s.tm.blockCount,
           est := some (Config.identUpdate d.avg (match d.est with | some e => e + 1 | none => 0) s.free) }

/-- A slot that accepts a frame takes it. -/
theorem exec_identFrame {f : IdentFrame} {d : Ident} (hs : s.rd R.SUP_STATUS_STAGE = 0)
    (hd : s.mix.idents.find? (fun p => p.1 = f.slot.val) = some (f.slot.val, d)) (ha : d.accepts f = true) :
    exec (.identFrame [f]) s = .next (State.fresh { s with mix := { s.mix with idents := s.mix.idents.insert f.slot.val (d.updated s) } }) := by
  show execIdentFrame [f] s = _
  simp only [execIdentFrame, hs, if_true, List.foldl_cons, List.foldl_nil, State.identTake, hd, ha]
  rfl

/-! ### Delay rings (R70) -/

theorem exec_odlyTileDeadline {b : Nat} (hg : s.gated 5 = false) (hf : s.mix.odlyFail.contains (o, b) = false) :
    exec (.odlyTileDeadline o b) s =
      .next { s.bump R.MIX_CNT_ODLY_FAIL_VALUE with mix := { s.mix with odlyFail := s.mix.odlyFail ++ [(o, b)] } } := by
  show execOdlyTileDeadline o b s = _
  simp only [execOdlyTileDeadline, hg, hf, State.bump_mix, Bool.false_eq_true, if_false]

/-! ### A tile at its window -/

section
variable {src q : BitVec 16} {x : BitVec 576} {na : Bool} (hd : (s.atRaw n).delivers src.toNat ((s.atRaw n).seqBlock q.toNat))
  (hl : (s.atRaw n).lands s.hst.win = true) (hr : (s.atRaw n).ringOf src.toNat = some r) (ho : s.hst.winOpen = true)

include hl hr ho in
/-- The window that is open as the tile is made is open as it is presented. -/
theorem State.window_producedTile {k : Nat} :
    let v := ((s.atRaw n).producedTile src.toNat k x).1
    v.hst = s.hst ∧ v.mem = s.mem ∧ v.lands v.hst.win = true ∧ v.ringOf src.toNat = some r ∧ v.hst.winOpen = true ∧
      ∀ f : Fld, f.addr ≠ R.MIX_CNT_BRG_SAT_VALUE.addr → v.rd f = s.rd f := by
  have hs : (s.atRaw n).SameStore ((s.atRaw n).producedTile src.toNat k x).1 := State.sameStore_producedTile
  have hh : ((s.atRaw n).producedTile src.toNat k x).1.hst = s.hst := hs.hst
  exact ⟨hh, hs.mem, by rw [hh, hs.lands, hl], by rw [hs.ringOf, hr], by rw [hh, ho], fun f hf => (hs.rd f hf).trans (State.rd_congr rfl rfl)⟩

include hd hl hr ho

theorem tilePresent_lands (hq : q.toNat = s.hst.win % 65536) (hh : (s.ring r).has s.hst.win = false) (hn : na = false) :
    ∃ t : State, exec (.tilePresent src q x na n) s = .next t ∧ (t.ring r).last = some (s.hst.win, .data) ∧ ∀ k, k ≠ r → t.ring k = s.ring k := by
  subst hn
  obtain ⟨hv, -, hl, hr, ho, -⟩ := State.window_producedTile (x := x) (k := (s.atRaw n).seqBlock q.toNat) hl hr ho
  refine ⟨_, (exec_tilePresent hd).trans (congrArg _ (State.present_land hl hr ho (by rw [hv, hq]) (by rw [State.ring_congr hv, hv, hh]))), ?_, fun k hk => ?_⟩
  · rw [State.ring_land, if_pos rfl, hv]
  · rw [State.ring_land, if_neg hk, State.ring_congr hv]

theorem tilePresent_early (hq : q.toNat ≠ s.hst.win % 65536) (hk : laterThan 16 q.toNat (s.hst.win % 65536) = true) :
    ∃ t : State, exec (.tilePresent src q x na n) s = .next t ∧
      t.rd R.HST_CNT_EARLY_VALUE = min 0xFFFFFFFF (s.rd R.HST_CNT_EARLY_VALUE + 1) ∧ t.hst = s.hst ∧ t.mem = s.mem := by
  obtain ⟨hv, hm, hl, hr, ho, hrd⟩ := State.window_producedTile (x := x) (k := (s.atRaw n).seqBlock q.toNat) hl hr ho
  refine ⟨_, (exec_tilePresent hd).trans (congrArg _ (State.present_early hl hr ho (by rwa [hv]) (by rwa [hv]))), ?_, ?_, ?_⟩
  · rw [State.rd_bump_self (by decide), hrd _ (by decide)]
  · rw [State.bump_hst, hv]
  · rw [State.bump_mem, hm]

theorem tilePresent_late (hq : q.toNat ≠ s.hst.win % 65536) (hk : laterThan 16 q.toNat (s.hst.win % 65536) = false) :
    ∃ t : State, exec (.tilePresent src q x na n) s = .next t ∧
      t.rd R.HST_CNT_LATE_DROP_VALUE = min 0xFFFFFFFF (s.rd R.HST_CNT_LATE_DROP_VALUE + 1) ∧ t.on R.HST_STATUS_LATE_DROP = true ∧
      t.hst = s.hst ∧ t.mem = s.mem := by
  obtain ⟨hv, hm, hl, hr, ho, hrd⟩ := State.window_producedTile (x := x) (k := (s.atRaw n).seqBlock q.toNat) hl hr ho
  refine ⟨_, (exec_tilePresent hd).trans (congrArg _ (State.present_late hl hr ho (by rwa [hv]) (by rwa [hv]))), ?_, State.on_flag_self (by decide), ?_, ?_⟩
  · rw [State.rd_flag_addr (by decide), State.rd_bump_self (by decide), hrd _ (by decide)]
  · rw [State.flag_hst, State.bump_hst, hv]
  · rw [State.flag_mem, State.bump_mem, hm]

end

end

/-- Settles O44: each command is read off the one state it leaves; only the counters and pointers it names move. -/
theorem historyCommands : Obligations.HistoryCommands := by
  refine ⟨fun s code n ht ha => ⟨_, exec_soundRateUpdate_first ht ha, ?_, ?_, ?_⟩,
    fun s src q x na n r hl hr ho hasc hmic => ?_,
    fun s r b hg hc => exec_longRingCopy hg hc, fun s r b hc hp => ⟨_, exec_longCopyOverdue hc hp, State.panic_of_copy (by simp), rfl⟩,
    fun s got n => ⟨fun hr hp => ⟨_, exec_panicStart hr hp, State.panic_of_render rfl, rfl, State.panicAt_longGot (got := got)⟩,
      fun ha hr hp => ⟨_, exec_longReadAge ha hr hp, State.panic_of_age rfl, rfl⟩,
      fun hp => ⟨_, exec_longTileDeadline hp, State.hst_longLates, ?_⟩⟩,
    fun s n p q hg he ha hp hq => exec_scrubRead_pointer hg he ha hp hq,
    fun s o b hg hf => ⟨_, exec_odlyTileDeadline hg hf, rfl, ?_⟩, fun s o n x hg hi ho hf => ?_,
    fun s f d hs hd ha => ⟨_, exec_identFrame hs hd ha, rfl, Cells.get_insert_self⟩⟩
  · rw [State.rd_rateAt_temp, State.rd_wr_self (by decide)]
    exact Nat.mod_eq_of_lt unsignedOf_lt
  · rw [State.speedAt_rateAt, State.wr_tm]
  · rw [State.rd_rateAt_rate, State.soundRate_congr (State.wr_straps.trans State.atRaw_straps)]
    rfl
  · exact ⟨tilePresent_lands ⟨hasc, hmic⟩ hl hr ho, tilePresent_early ⟨hasc, hmic⟩ hl hr ho, tilePresent_late ⟨hasc, hmic⟩ hl hr ho⟩
  · rw [State.rd_longLates, State.rd_longGot (by decide), State.rd_atRaw]
  · rw [State.rd_withMix, State.rd_bump_self (by decide)]
  · subst ho
    have hset : (s.atRaw n).inactiveSet x.output = s.inactiveSet x.output := congrArg (1 - ·) State.rd_atRaw
    exact ⟨_, exec_installSpectraDone hg hi hf, rfl, by rw [State.firSet_setInstalls, ← hset, State.firSet_stageSpectra, State.atRaw_mix]⟩

end Sys2Proof.Machine
end

section
/-! PROOFS. The host link (R272, R281, R283): the places and counters of an SPI port, and the sessions that a timeout closes. -/

-- One proof at a time: the package as one text then takes less memory.
set_option Elab.async false

namespace Sys2Proof.Machine

open Sys2Proof

variable {s t u : State} {f g : Fld} {n : Nat}

section
variable {p q : Nat} {x : Port}

theorem State.port_setPort : (s.setPort p x).port q = if q = p then x else s.port q := Cells.get_set

theorem State.port_setPort_self : (s.setPort p x).port p = x := Cells.get_set_self

theorem State.portEnabled_atRaw : (s.atRaw n).portEnabled p = s.portEnabled p := rfl

end

section
variable {p : Fin 2}

theorem exec_spiWrite {whole : Bool} (he : s.portEnabled p.val = true) (hg : s.gated 20 = false) :
    exec (.spiWrite p whole n) s = .next
      (if 2 ≤ (s.port p.val).inb then (s.atRaw n).bump (R.HIF_CNT_OVF_VALUE p.val)
      else if whole = false then (s.atRaw n).bump (R.HIF_CNT_FRAME_VALUE p.val)
      else (s.atRaw n).setPort p.val { s.port p.val with inb := (s.port p.val).inb + 1 }) := by
  refine (if_neg (by simp [hg])).trans (congrArg Host.Outcome.next ((if_neg (by simp [State.portEnabled_atRaw, he])).trans ?_))
  cases whole <;> rfl

theorem exec_spiRead (he : s.portEnabled p.val = true) (hg : s.gated 20 = false) :
    exec (.spiRead p n) s = .next ((s.atRaw n).spiPop p.val) := by
  exact (if_neg (by simp [hg])).trans (congrArg Host.Outcome.next (if_pos he))

theorem exec_spiStatus (he : s.portEnabled p.val = true) (hg : s.gated 20 = false) :
    exec (.spiStatus p n) s = .next ((s.atRaw n).setPort p.val { s.port p.val with stat := some (s.spiByte p.val) }) := by
  exact (if_neg (by simp [hg])).trans (congrArg Host.Outcome.next (if_pos he))

/-- The oldest packet leaves, and a reply that waits takes its place (R272). -/
theorem State.spiPop_waiting {k w : Packet} {ks ws : List Packet} {p : Nat} (ho : (s.port p).out = k :: ks) (hw : (s.port p).wait = w :: ws) :
    s.spiPop p = s.setPort p { s.port p with sent := some k, shifted := leBytes 2 (Packet.bytes k).length ++ Packet.bytes k,
                                             out := ks ++ [w], wait := ws } := by
  unfold State.spiPop
  simp only [ho, hw]

theorem State.spiPop_empty {p : Nat} (ho : (s.port p).out = []) :
    s.spiPop p = s.setPort p { s.port p with sent := none, shifted := [0#8, 0#8] } := by
  unfold State.spiPop
  simp only [ho]

theorem State.running_eq_none {p : Nat} : s.running p = none ↔ s.devBusy = none ∧ (s.port p).busy = none := by
  unfold State.running
  cases s.devBusy <;> simp

theorem State.spiByte_eq {p : Nat} : s.spiByte p = (if (s.port p).out = [] then 0 else 1) + (if (s.port p).inb < 2 then 2 else 0) +
    (if s.devBusy = none ∧ (s.port p).busy = none then 0 else 4) := by
  unfold State.spiByte
  simp only [← State.running_eq_none]
  cases (s.port p).out <;> cases s.running p <;> simp [b2n, spiPlaces]

theorem State.same_setPort_atRaw {p : Nat} {x : Port} {q : Part} (hq : q ∉ [Part.tm, .ports]) : Part.same q s ((s.atRaw n).setPort p x) := by
  rw [List.mem_cons, List.mem_singleton, not_or] at hq
  exact Part.same_trans ((State.atRaw_good s n).same_off [.tm] rfl (mt List.mem_singleton.1 hq.1))
    ((State.setPort_good _ p x).same_off [.ports] rfl (mt List.mem_singleton.1 hq.2))

end

/-! ### The sessions that stay as open as they were -/

/-- Every session has the phase and the key it had. -/
def State.SameOpen (s t : State) : Prop := ∀ i, (t.session i).phase = (s.session i).phase ∧ (t.session i).key = (s.session i).key

section
variable {i : Nat} {x : Session}

theorem State.session_setSession {j : Nat} : (s.setSession i x).session j = if j = i then x else s.session j := Cells.get_set

theorem State.SameOpen.of_sessions (h : t.sessions = s.sessions) : s.SameOpen t := fun i => by simp only [State.session, h, and_self]

theorem State.SameOpen.refl : s.SameOpen s := .of_sessions rfl

theorem State.SameOpen.trans (h : s.SameOpen t) (k : t.SameOpen u) : s.SameOpen u :=
  fun i => ⟨(k i).1.trans (h i).1, (k i).2.trans (h i).2⟩

theorem State.SameOpen.setSession (hp : x.phase = (s.session i).phase) (hk : x.key = (s.session i).key) : s.SameOpen (s.setSession i x) := by
  intro j
  rw [State.session_setSession]
  split
  · next h => rw [h]; exact ⟨hp, hk⟩
  · exact ⟨rfl, rfl⟩

theorem State.SameOpen.foldl {α : Type} {f : State → α → State} (hf : ∀ (s : State) x, s.SameOpen (f s x)) (xs : List α) : s.SameOpen (xs.foldl f s) :=
  List.foldlRecOn xs f (motive := s.SameOpen) .refl (fun b hb a _ => hb.trans (hf b a))

theorem State.sameOpen_moveEvent : s.SameOpen (s.moveEvent i) := by
  unfold State.moveEvent
  dsimp only
  split
  · exact .refl
  · refine State.SameOpen.trans (State.SameOpen.setSession ?_ ?_) (.of_sessions ((State.enqueue_good _ _ _).same .sessions rfl))
    all_goals split <;> rfl

theorem State.sameOpen_pump : s.SameOpen (s.pump n) := by
  induction n generalizing s with
  | zero => exact State.SameOpen.refl
  | succ n ih =>
    unfold State.pump
    refine State.SameOpen.trans (State.SameOpen.foldl (fun v i => ?_) _) ih
    split
    · exact State.sameOpen_moveEvent
    · exact .refl

theorem State.sameOpen_eventTo {o : Nat} {bs : List Byte} : s.SameOpen (s.eventTo i o bs) := by
  unfold State.eventTo
  dsimp only
  split
  · exact .refl
  split
  · refine State.SameOpen.trans ?_ State.sameOpen_pump
    exact .setSession rfl rfl
  · refine State.SameOpen.trans ?_ (.of_sessions ((State.bump_good _ _).same .sessions rfl))
    exact .setSession rfl rfl

theorem State.sameOpen_releaseRefs {refs : List Nat} : s.SameOpen (s.releaseRefs i refs) := by
  unfold State.releaseRefs
  dsimp only
  refine State.SameOpen.trans ?_ (State.SameOpen.foldl (fun v j => ?_) _)
  · exact State.SameOpen.foldl (f := fun (v : State) (p : Nat × Option Nat × List Nat) => v.setOwner p.1 p.2.1 p.2.2) (fun v p => .of_sessions rfl) _
  split
  · exact .refl
  · exact State.sameOpen_eventTo

theorem State.sameOpen_reply {o q : Nat} {st : Status} {data : List Byte} {acc : Bool} : s.SameOpen (s.reply i o q st data acc) := by
  refine State.SameOpen.trans ?_ (State.SameOpen.foldl (fun s k => .of_sessions ((State.enqueue_good _ _ _).same .sessions rfl)) _)
  split
  · unfold State.remember
    split <;> exact .setSession rfl rfl
  · exact .refl

/-- The device-wide operation is no longer busy. -/
def State.freeDevice (s : State) : State := { s with devBusy := none }

theorem State.endDevice_busy {l : LongOp} {st : Status} {data : List Byte} (hb : s.devBusy = some l) :
    s.endDevice st data = if s.freeDevice.showBusy.isOpen l.sess then s.freeDevice.showBusy.reply l.sess l.op l.seq st data true
      else s.freeDevice.showBusy := by
  unfold State.endDevice
  rw [hb]
  rfl

theorem State.sameOpen_endDevice {l : LongOp} {st : Status} {data : List Byte} (hb : s.devBusy = some l) : s.SameOpen (s.endDevice st data) := by
  have hfree : s.SameOpen s.freeDevice.showBusy := .of_sessions ((State.showBusy_good s.freeDevice).same .sessions rfl)
  rw [State.endDevice_busy hb]
  split
  · exact hfree.trans State.sameOpen_reply
  · exact hfree

theorem State.devBusy_endDevice {l : LongOp} {st : Status} {data : List Byte} (hb : s.devBusy = some l) : (s.endDevice st data).devBusy = none := by
  have hfree : s.freeDevice.showBusy.devBusy = none := (State.showBusy_good s.freeDevice).same .devBusy rfl
  rw [State.endDevice_busy hb]
  split
  · exact (State.reply_devBusy).trans hfree
  · exact hfree

/-- A session that closes is as a session slot that is free, and every other stays as open as it was (R287). -/
theorem State.session_closeSession : (s.closeSession i).session i = sessReset ∧
    ∀ j, j ≠ i → ((s.closeSession i).session j).phase = (s.session j).phase ∧ ((s.closeSession i).session j).key = (s.session j).key := by
  have hrel : s.SameOpen ((s.releaseRefs i (s.ownedBy i)).dropHeld i) :=
    State.sameOpen_releaseRefs.trans (.of_sessions ((State.dropHeld_good _ _).same .sessions rfl))
  have hclose : ∀ j, (s.closeSession i).session j = if j = i then sessReset else ((s.releaseRefs i (s.ownedBy i)).dropHeld i).session j :=
    fun j => by
      have h : (s.closeSession i).sessions = (((s.releaseRefs i (s.ownedBy i)).dropHeld i).setSession i sessReset).sessions :=
        (State.showOpen_good _).same .sessions rfl
      rw [State.session, h]
      exact State.session_setSession
  refine ⟨by rw [hclose, if_pos rfl], fun j hj => ?_⟩
  rw [hclose, if_neg hj]
  exact hrel j

theorem exec_halfOpenTimeout {i : Fin 8} (hf : s.fwRuns = true) (hp : (s.session i.val).phase = .halfOpen)
    (ht : (s.session i.val).openedAt + ms 2000 ≤ (s.atRaw n).tm.raw) :
    exec (.halfOpenTimeout i n) s = .next ((s.atRaw n).closeSession i.val) := by
  refine congrArg Host.Outcome.next (if_pos ?_)
  simp only [Bool.and_eq_true, decide_eq_true_eq]
  exact ⟨⟨hf, hp⟩, ht⟩

theorem exec_keepaliveTimeout {i : Fin 8} (hf : s.fwRuns = true) (hp : (s.session i.val).phase ≠ .closed)
    (ht : (s.session i.val).lastRx + ms (1000 * (s.session i.val).timeout) ≤ (s.atRaw n).tm.raw) :
    exec (.keepaliveTimeout i n) s = .next ((s.atRaw n).closeSession i.val) := by
  refine congrArg Host.Outcome.next (if_pos ?_)
  simp only [Bool.and_eq_true, decide_eq_true_eq]
  exact ⟨⟨hf, hp⟩, ht⟩

end

end Sys2Proof.Machine
end

section
/-! PROOFS. The ends of long operations (R90, R289, R290, R306, R308): the export of an identification, a firmware commit, a rotation of keys. -/

-- One proof at a time: the package as one text then takes less memory.
set_option Elab.async false

namespace Sys2Proof.Machine

open Sys2Proof

variable {s t u : State} {n p : Nat} {l : LongOp}

/-! ### IDENT_EXPORT (R89, R90) -/

theorem State.busy_enqueue {q : Nat} {k : Packet} : ((s.enqueue p k).port q).busy = (s.port q).busy := by
  have hset : ∀ x : Port, x.busy = (s.port p).busy → ((s.setPort p x).port q).busy = (s.port q).busy := by
    intro x hx
    rw [State.port_setPort]
    split
    · next h => rw [h, hx]
    · rfl
  unfold State.enqueue
  dsimp only
  split
  · exact hset _ rfl
  split
  · exact hset _ rfl
  · exact hset _ rfl

theorem State.port_congr (h : t.ports = s.ports) : t.port p = s.port p := congrArg (fun c => Cells.get portReset c p) h

theorem State.busy_reply {i o q m : Nat} {st : Status} {data : List Byte} {acc : Bool} :
    ((s.reply i o q st data acc).port m).busy = (s.port m).busy := by
  refine (foldl_keeps (fun v : State => (v.port m).busy) (fun _ _ => State.busy_enqueue) _ _).trans (congrArg Port.busy ?_)
  split
  · exact State.port_congr ((State.remember_good _ _ _ _).same .ports rfl)
  · rfl

/-- The port of a long operation that ends is free (R289). -/
theorem State.busy_endLong {st : Status} {data : List Byte} (hb : (s.port p).busy = some l) : ((s.endLong p st data).port p).busy = none := by
  have hfree : (((s.setPort p { s.port p with busy := none }).showBusy).port p).busy = none := by
    rw [State.port_congr ((State.showBusy_good _).same .ports rfl), State.port_setPort_self]
  unfold State.endLong
  rw [hb]
  dsimp only
  split
  · exact State.busy_reply.trans hfree
  · exact hfree

theorem State.propose_last {d : Ident} :
    (s.propose d).1.mix.proposals.getLast? = some ⟨s.mix.propNext, d.output, d.wanted (d.est.getD 0)⟩ := List.getLast?_concat

/-- The export ends with the final reply of the state in which what it proposes stands. -/
theorem exec_identExportComplete {p : Fin 6} (hb : (s.port p.val).busy = some l) (ho : l.op = opIdentExport) :
    ∃ (u : State) (data : List Byte), exec (.identExportComplete p n) s = .next (u.endLong p.val .ok data) ∧ u.ports = s.ports ∧
      ∀ d, s.identOf (l.arg % 256) = some d → 256 ≤ l.arg → d.valid = true → u = ((s.atRaw n).propose d).1 := by
  have hexec : exec (.identExportComplete p n) s = .next
      (let d := ((s.atRaw n).identOf (l.arg % 256)).getD identNone
      if 256 ≤ l.arg && d.valid then ((s.atRaw n).propose d).1.endLong p.val .ok (d.record (l.arg % 256) (some ((s.atRaw n).propose d).2))
      else (s.atRaw n).endLong p.val .ok (d.record (l.arg % 256) none)) := by
    show execIdentExportComplete p n s = _
    unfold execIdentExportComplete
    have hb' : ((s.atRaw n).port p.val).busy = some l := hb
    simp only [hb', ho, ne_eq, not_true_eq_false, if_false]
  rw [hexec]
  dsimp only
  split
  · next h =>
    refine ⟨_, _, rfl, rfl, fun d hd _ _ => ?_⟩
    rw [show (s.atRaw n).identOf (l.arg % 256) = some d from hd, Option.getD_some]
  · next h =>
    refine ⟨_, _, rfl, rfl, fun d hd ha hv => absurd ?_ h⟩
    rw [show (s.atRaw n).identOf (l.arg % 256) = some d from hd, Option.getD_some, hv, decide_eq_true ha]
    rfl

theorem identExport_ends {p : Fin 6} (hb : (s.port p.val).busy = some l) (ho : l.op = opIdentExport) :
    ∃ t : State, exec (.identExportComplete p n) s = .next t ∧ (t.port p.val).busy = none ∧
      ∀ d : Ident, s.identOf (l.arg % 256) = some d → 256 ≤ l.arg → d.valid = true →
        t.mix.proposals.getLast? = some ⟨s.mix.propNext, d.output, d.wanted (d.est.getD 0)⟩ := by
  obtain ⟨u, data, he, hp, hu⟩ := exec_identExportComplete (n := n) hb ho
  refine ⟨_, he, State.busy_endLong (l := l) ((congrArg Port.busy (State.port_congr hp)).trans hb), fun d hd ha hv => ?_⟩
  have hm : (u.endLong p.val .ok data).mix = u.mix := (State.endLong_good _ _ _ _).same .mix rfl
  rw [hm, hu d hd ha hv]
  exact State.propose_last

/-! ### FW_COMMIT (R306, R382) -/

section
variable {b c : Bool} {m : Option (List Byte)} {x : FwXfer}

/-- The next generation is later than the one before it (R12). -/
theorem laterThan_next {g : Nat} : laterThan 16 ((g + 1) % 65536) g = true := by
  simp only [laterThan, Bool.and_eq_true, decide_eq_true_eq]
  omega

theorem laterThan_before {g : Nat} : laterThan 16 g ((g + 1) % 65536) = false := by
  simp only [laterThan, Bool.and_eq_false_iff, decide_eq_false_iff_not]
  omega

/-- The record that FW_COMMIT writes is the newer one (R382). -/
theorem State.firstSlot_writeRecord : (s.writeRecord b).firstSlot = b := by
  unfold State.writeRecord
  cases h0 : s.flash.rec0 <;> cases h1 : s.flash.rec1
  case none.none => simp [State.firstSlot, h1]
  case some.none => simp [State.firstSlot, h0, laterThan_next]
  case none.some => simp [State.firstSlot, h1, laterThan_before]
  case some.some =>
    dsimp only
    split
    · simp [State.firstSlot, h1, laterThan_before]
    · simp [State.firstSlot, h0, laterThan_next]

theorem State.slotBytes_writeRecord : (s.writeRecord b).slotBytes c = s.slotBytes c := by
  have h : (s.writeRecord b).flash.slotA = s.flash.slotA ∧ (s.writeRecord b).flash.slotB = s.flash.slotB := by
    unfold State.writeRecord
    split
    case h_4 => split <;> exact ⟨rfl, rfl⟩
    all_goals exact ⟨rfl, rfl⟩
  rw [State.slotBytes, h.1, h.2, State.slotBytes]

theorem State.slotBytes_setImage : (s.setImage b m).slotBytes c = if c = b then m else s.slotBytes c := by
  cases b <;> cases c <;> rfl

theorem State.firstSlot_setImage : (s.setImage b m).firstSlot = s.firstSlot := by
  cases b <;> rfl

theorem State.flash_endDevice {st : Status} {data : List Byte} :
    (s.endDevice st data).slotBytes c = s.slotBytes c ∧ (s.endDevice st data).firstSlot = s.firstSlot := by
  have hf : (s.endDevice st data).flash = s.flash := (State.endDevice_good _ _ _).same .flash rfl
  have hs : (s.endDevice st data).straps = s.straps := (State.endDevice_good _ _ _).same .straps rfl
  exact ⟨by rw [State.slotBytes, hf, State.slotBytes], by rw [State.firstSlot, hf, hs, State.firstSlot]⟩

/-- The firmware transfer ends. -/
def State.endTransfer (s : State) : State := { s with fw := none }

theorem exec_fwCommitComplete {ok : Bool} {k : SlotCheck} (hb : s.devBusy = some l) (ho : l.op = opFwCommit) (hx : s.fw = some x) :
    exec (.fwCommitComplete ok k n) s = .next (if ok && s.headerOk (slotSeen k (some x.got)) then
        (((s.atRaw n).endTransfer.setImage x.slot (some x.got)).writeRecord x.slot).endDevice .ok []
      else ((s.atRaw n).endTransfer.setImage x.slot none).endDevice .check []) := by
  show execFwCommitComplete ok k n s = _
  unfold execFwCommitComplete
  dsimp only
  split
  · next l' x' hb' hx' =>
    obtain rfl : l' = l := Option.some.inj (hb'.symm.trans hb)
    obtain rfl : x' = x := Option.some.inj (hx'.symm.trans hx)
    exact congrArg Host.Outcome.next (if_neg (not_not_intro ho))
  · next h => exact absurd hx (h l x hb)

/-- A commit whose image passes: the slot holds the image and boots first, the other slot keeps its image (R306). -/
theorem fwCommit_passes {k : SlotCheck} (hb : s.devBusy = some l) (ho : l.op = opFwCommit) (hx : s.fw = some x)
    (hk : s.headerOk (slotSeen k (some x.got)) = true) :
    ∃ t : State, exec (.fwCommitComplete true k n) s = .next t ∧ t.devBusy = none ∧ t.fw = none ∧ t.slotBytes x.slot = some x.got ∧
      t.firstSlot = x.slot ∧ t.slotBytes (!x.slot) = s.slotBytes (!x.slot) := by
  have hkeep := State.writeRecord_good ((s.atRaw n).endTransfer.setImage x.slot (some x.got)) x.slot
  have hset := State.setImage_good (s.atRaw n).endTransfer x.slot (some x.got)
  have hbusy := ((hkeep.same .devBusy rfl).trans (hset.same .devBusy rfl)).trans hb
  refine ⟨_, (exec_fwCommitComplete hb ho hx).trans (congrArg Host.Outcome.next (if_pos (by rw [hk]; rfl))), State.devBusy_endDevice hbusy, ?_, ?_, ?_, ?_⟩
  · exact (((State.endDevice_good _ _ _).same .fw rfl).trans (hkeep.same .fw rfl)).trans (hset.same .fw rfl)
  · rw [State.flash_endDevice.1, State.slotBytes_writeRecord, State.slotBytes_setImage, if_pos rfl]
  · rw [(State.flash_endDevice (c := false)).2, State.firstSlot_writeRecord]
  · rw [State.flash_endDevice.1, State.slotBytes_writeRecord, State.slotBytes_setImage, if_neg (Bool.not_ne_self _)]
    rfl

/-- A commit whose image fails: the slot holds none, and the slot that boots first is as before. -/
theorem fwCommit_fails {ok : Bool} {k : SlotCheck} (hb : s.devBusy = some l) (ho : l.op = opFwCommit) (hx : s.fw = some x)
    (hk : (ok && s.headerOk (slotSeen k (some x.got))) = false) :
    ∃ t : State, exec (.fwCommitComplete ok k n) s = .next t ∧ t.devBusy = none ∧ t.fw = none ∧ t.slotBytes x.slot = none ∧
      t.firstSlot = s.firstSlot := by
  have hset := State.setImage_good (s.atRaw n).endTransfer x.slot none
  have hbusy := (hset.same .devBusy rfl).trans hb
  refine ⟨_, (exec_fwCommitComplete hb ho hx).trans (congrArg Host.Outcome.next (if_neg (by rw [hk]; exact Bool.false_ne_true))),
    State.devBusy_endDevice hbusy, ?_, ?_, ?_⟩
  · exact ((State.endDevice_good _ _ _).same .fw rfl).trans (hset.same .fw rfl)
  · rw [State.flash_endDevice.1, State.slotBytes_setImage, if_pos rfl]
  · rw [(State.flash_endDevice (c := false)).2, State.firstSlot_setImage]
    rfl

end

/-! ### KEY_ROTATE (R308) -/

section
variable {m i j k : Nat}

/-- A session that was opened under a changed entry closes. -/
def State.closeUnder (m : Nat) (s : State) (i : Nat) : State := match (s.session i).key with
  | some k => if s.isOpen i && bitOf m k then s.closeSession i else s
  | none => s

theorem State.isOpen_closeSession : (s.closeSession i).isOpen i = false := by
  rw [State.isOpen, State.session_closeSession.1]
  rfl

theorem State.closeUnder_eq : s.closeUnder m i = s ∨ s.closeUnder m i = s.closeSession i := by
  unfold State.closeUnder
  split
  · split
    · exact .inr rfl
    · exact .inl rfl
  · exact .inl rfl

theorem State.closeUnder_self (hk : (s.session i).key = some k) (hb : bitOf m k = true) : (s.closeUnder m i).isOpen i = false := by
  unfold State.closeUnder
  simp only [hk, hb, Bool.and_true]
  split
  · exact State.isOpen_closeSession
  · next h => exact eq_false_of_ne_true h

theorem State.session_closeUnder (hj : j ≠ i) :
    ((s.closeUnder m i).session j).phase = (s.session j).phase ∧ ((s.closeUnder m i).session j).key = (s.session j).key := by
  rcases State.closeUnder_eq (s := s) (m := m) (i := i) with h | h
  · rw [h]; exact ⟨rfl, rfl⟩
  · rw [h]; exact State.session_closeSession.2 j hj

theorem State.closeUnder_closed (hc : s.isOpen j = false) : (s.closeUnder m i).isOpen j = false := by
  by_cases hj : j = i
  · subst hj
    rcases State.closeUnder_eq (s := s) (m := m) (i := j) with h | h
    · rw [h, hc]
    · rw [h, State.isOpen_closeSession]
  · rw [State.isOpen, (State.session_closeUnder hj).1]
    exact hc

theorem State.foldl_closeUnder {xs : List Nat} (hi : i ∈ xs) (hk : (s.session i).key = some k) (hb : bitOf m k = true) :
    (xs.foldl (State.closeUnder m) s).isOpen i = false := by
  induction xs generalizing s with
  | nil => exact absurd hi List.not_mem_nil
  | cons x xs ih =>
    by_cases hx : i = x
    · subst hx
      exact List.foldlRecOn xs _ (motive := fun v : State => v.isOpen i = false) (State.closeUnder_self hk hb) (fun _ hv _ _ => State.closeUnder_closed hv)
    · exact ih ((List.mem_cons.1 hi).resolve_left hx) ((State.session_closeUnder hx).2.trans hk)

theorem exec_keyRotateComplete (hb : s.devBusy = some l) (ho : l.op = opKeyRotate) :
    exec (.keyRotateComplete n) s = .next ((List.range 8).foldl (State.closeUnder l.arg) ((s.atRaw n).endDevice .ok [])) := by
  show execKeyRotateComplete n s = _
  unfold execKeyRotateComplete
  have hb' : (s.atRaw n).devBusy = some l := hb
  simp only [hb', ho, ne_eq, not_true_eq_false, if_false]
  rfl

theorem keyRotate_ends (hb : s.devBusy = some l) (ho : l.op = opKeyRotate) :
    ∃ t : State, exec (.keyRotateComplete n) s = .next t ∧ t.devBusy = none ∧
      ∀ i k, i < 8 → (s.session i).key = some k → bitOf l.arg k = true → t.isOpen i = false := by
  have hb' : (s.atRaw n).devBusy = some l := hb
  have hclose : ∀ (v : State) (i : Nat), (v.closeUnder l.arg i).devBusy = v.devBusy := by
    intro v i
    rcases State.closeUnder_eq (s := v) (m := l.arg) (i := i) with h | h
    · rw [h]
    · rw [h]; exact (State.closeSession_good _ _).same .devBusy rfl
  refine ⟨_, exec_keyRotateComplete hb ho, ?_, fun i k hi hk hm => ?_⟩
  · exact (foldl_keeps State.devBusy hclose _ _).trans (State.devBusy_endDevice hb')
  · exact State.foldl_closeUnder (List.mem_range.2 hi) (((State.sameOpen_endDevice hb' i).2).trans hk) hm

end

end Sys2Proof.Machine
end

section
/-! PROOFS. Building and verifying a table bank, and the safe-load registers (R43, R45, R169, R304). -/

-- One proof at a time: the package as one text then takes less memory.
set_option Elab.async false

namespace Sys2Proof.Machine

open Sys2Proof

variable {s t u : State} {f g : Fld} {n b v : Nat}

theorem State.bankCrc_congr (h : t.geo.banks = s.geo.banks) : t.bankCrc b = s.bankCrc b := by
  have hw : t.bankWord b = s.bankWord b := funext fun w => by rw [State.bankWord, h, State.bankWord]
  rw [State.bankCrc, hw, State.bankCrc]

theorem State.bankCrc_lt : s.bankCrc b < 2 ^ 32 := by
  rw [State.bankCrc]
  exact BitVec.isLt _

theorem State.stagedBank_congr (h : t.regs = s.regs) (k : t.straps = s.straps) : t.stagedBank = s.stagedBank := by
  rw [State.stagedBank, State.activeBank, State.rd_congr h k, State.stagedBank, State.activeBank]

theorem State.on_of_rd (h : t.rd f = s.rd g) : t.on f = s.on g := by rw [State.on, h, State.on]

/-- Is `g` another field of the register of `f`? -/
def Fld.beside (g f : Fld) : Prop :=
  g.addr = f.addr ∧ (g.rst = f.rst ∧ g.rst96 = f.rst96) ∧ f.lo ≤ f.hi ∧ g.lo ≤ g.hi ∧ (g.hi < f.lo ∨ f.hi < g.lo)

theorem State.rd_wr_beside (h : Fld.beside g f) : (s.wr f v).rd g = s.rd g :=
  State.rd_wr_bits h.1 h.2.1 h.2.2.1 h.2.2.2.1 h.2.2.2.2

/-- The fields of PST_STATUS that a verification writes stand beside each other (R43). -/
theorem pstStatus_beside : Fld.beside R.PST_STATUS_SWAP_PEND R.PST_STATUS_VERIFY_BUSY ∧ Fld.beside R.PST_STATUS_VERIFY_BUSY R.PST_STATUS_SWAP_PEND ∧
    Fld.beside R.PST_STATUS_VERIFY_BUSY R.PST_STATUS_BUILD_ERR ∧ Fld.beside R.PST_STATUS_SWAP_PEND R.PST_STATUS_BUILD_ERR := by
  unfold Fld.beside
  decide

/-- A register of the whole width holds the CRC-32 written to it. -/
theorem State.rd_wr_crc (h : f.lo = 0 ∧ f.hi = 31) : (s.wr f (t.bankCrc b)).rd f = t.bankCrc b := by
  rw [State.rd_wr_self (by rw [h.1]; exact Nat.zero_le _), h.1, h.2]
  exact Nat.mod_eq_of_lt State.bankCrc_lt

/-! ### SWAP_REQ (R43, R45, R304) -/

/-- The bank is laid out from the staged definitions of `n` cells. -/
def State.builtBank (s : State) (laid : Laid) (n : Nat) : State := (s.fillBank laid).setBuild { s.geo.build with cells := n }

section
variable {laid : Laid}

theorem State.builtBank_good : Good 256 s (s.builtBank laid n) := (State.fillBank_good s laid).trans (State.setBuild_good _ _)

theorem State.rd_builtBank : (s.builtBank laid n).rd f = s.rd f :=
  State.rd_congr (State.builtBank_good.same .regs rfl) (State.builtBank_good.same .straps rfl)

/-- The CRC-32 of the bank laid out is its expected one (log entry 10), and its verification is asked for. -/
def State.expectBank (s : State) : State := (s.wr R.PST_BANK_EXP_VALUE (s.bankCrc s.stagedBank)).swapReq

end

theorem State.swapReq_idle (h : s.on R.PST_STATUS_SWAP_PEND = false) : s.swapReq = s.flag R.PST_STATUS_VERIFY_BUSY :=
  if_neg (by rw [h]; exact Bool.false_ne_true)

theorem State.expectBank_eq (h : s.on R.PST_STATUS_SWAP_PEND = false) :
    s.expectBank = (s.wr R.PST_BANK_EXP_VALUE (s.bankCrc s.stagedBank)).flag R.PST_STATUS_VERIFY_BUSY :=
  State.swapReq_idle ((State.on_of_rd (State.rd_wr_addr (by decide))).trans h)

theorem exec_swapReq_pending (h : s.on R.PST_STATUS_SWAP_PEND = true) : exec .swapReq s = .next s :=
  if_pos (by rw [h, Bool.or_true])

section
variable (hg : s.gated 1 = false) (hp : s.on R.PST_STATUS_SWAP_PEND = false)
include hg hp

theorem exec_swapReq_alone (hr : s.geo.build.state ≠ .running) : exec .swapReq s = .next (s.flag R.PST_STATUS_VERIFY_BUSY) := by
  rw [← State.swapReq_idle hp]
  exact (if_neg (by simp [hg, hp])).trans (congrArg Host.Outcome.next (if_neg (by simp [hr])))

variable (hr : s.geo.build.state = .running) (hv : s.on R.PST_STATUS_VERIFY_BUSY = false)
include hr hv

theorem exec_swapReq_limit (hc : 65536 < s.stagedCells) :
    exec .swapReq s = .next (s.setBuild { s.geo.build with state := .limit, cells := s.stagedCells }) :=
  (if_neg (by simp [hg, hp])).trans (congrArg Host.Outcome.next ((if_pos (by simp [hr, hv])).trans (if_pos hc)))

theorem exec_swapReq_built (hc : s.stagedCells ≤ 65536) (hl : s.layOut.pool.length ≤ 262144) :
    exec .swapReq s = .next (s.builtBank s.layOut s.stagedCells).expectBank :=
  (if_neg (by simp [hg, hp])).trans
    (congrArg Host.Outcome.next ((if_pos (by simp [hr, hv])).trans ((if_neg (Nat.not_lt.2 hc)).trans (if_neg (Nat.not_lt.2 hl)))))

end

/-- The build runs on, and the bank it laid out is expected to have the CRC-32 it has. -/
theorem State.expectBank_built {laid : Laid} (hp : s.on R.PST_STATUS_SWAP_PEND = false) :
    let t := (s.builtBank laid n).expectBank
    t.geo.build = { s.geo.build with cells := n } ∧ t.rd R.PST_BANK_EXP_VALUE = t.bankCrc s.stagedBank ∧ t.on R.PST_STATUS_VERIFY_BUSY = true := by
  have hpend : (s.builtBank laid n).on R.PST_STATUS_SWAP_PEND = false := (State.on_of_rd State.rd_builtBank).trans hp
  have hbank : (s.builtBank laid n).stagedBank = s.stagedBank :=
    State.stagedBank_congr (State.builtBank_good.same .regs rfl) (State.builtBank_good.same .straps rfl)
  have hgeo : (s.builtBank laid n).expectBank.geo = (s.builtBank laid n).geo := by
    rw [State.expectBank_eq hpend]
    exact ((State.flag_good _ _).same .geo rfl).trans ((State.wr_good _ _ _).same .geo rfl)
  refine ⟨congrArg Geo.build hgeo, ?_, ?_⟩
  · rw [State.bankCrc_congr (congrArg Geo.banks hgeo), State.expectBank_eq hpend, State.rd_flag_addr (by decide), State.rd_wr_crc ⟨rfl, rfl⟩, hbank]
  · rw [State.expectBank_eq hpend]
    exact State.on_flag_self (by decide)

/-! ### VERIFY_COMPLETE (R43) -/

/-- The engine has found a CRC-32 of the staged bank. -/
def State.crcFound (s : State) (c : Nat) : State := (s.wr R.PST_STATUS_VERIFY_BUSY 0).wr R.PST_BANK_CRC_VALUE c

/-- The swap waits for its boundary. -/
def State.bankPasses (s : State) (c : Nat) : State := (s.crcFound c).flag R.PST_STATUS_SWAP_PEND

/-- The bank is not the one expected, and that is counted. -/
def State.bankFails (s : State) (c : Nat) : State := ((s.crcFound c).flag R.PST_STATUS_BUILD_ERR).bump R.PST_CNT_CHECK_VALUE

section
variable {c : Nat}

theorem State.crcFound_good : Good 1 s (s.crcFound c) := (State.wr_good _ _ _).trans (State.wr_good _ _ _)

theorem State.bankPasses_good : Good 1 s (s.bankPasses c) := State.crcFound_good.trans (State.flag_good _ _)

theorem State.bankFails_good : Good 1 s (s.bankFails c) := (State.crcFound_good.trans (State.flag_good _ _)).trans (State.bump_good _ _)

theorem State.sameClock_crcFound : s.SameClock (s.crcFound c) := (State.SameClock.wr (by decide)).trans (.wr (by decide))

/-- Neither field of the verification is the field read. -/
theorem State.rd_crcFound_other (h1 : f.addr ≠ R.PST_STATUS_VERIFY_BUSY.addr) (h2 : f.addr ≠ R.PST_BANK_CRC_VALUE.addr) :
    (s.crcFound c).rd f = s.rd f := by
  rw [State.crcFound, State.rd_wr_addr h2, State.rd_wr_addr h1]

theorem State.on_crcFound_busy : (s.crcFound c).on R.PST_STATUS_VERIFY_BUSY = false := by
  have h : (s.crcFound c).rd R.PST_STATUS_VERIFY_BUSY = 0 := by
    rw [State.crcFound, State.rd_wr_addr (by decide), State.rd_wr_self (by decide), Nat.zero_mod]
  rw [State.on, h]
  rfl

theorem State.rd_crcFound_pend : (s.crcFound c).rd R.PST_STATUS_SWAP_PEND = s.rd R.PST_STATUS_SWAP_PEND := by
  rw [State.crcFound, State.rd_wr_addr (by decide), State.rd_wr_beside pstStatus_beside.1]

theorem State.bankPasses_spec : (s.bankPasses (t.bankCrc b)).on R.PST_STATUS_VERIFY_BUSY = false ∧
    (s.bankPasses (t.bankCrc b)).rd R.PST_BANK_CRC_VALUE = t.bankCrc b ∧ (s.bankPasses (t.bankCrc b)).on R.PST_STATUS_SWAP_PEND = true := by
  refine ⟨?_, ?_, State.on_flag_self (by decide)⟩
  · exact (State.on_of_rd (State.rd_wr_beside pstStatus_beside.2.1)).trans State.on_crcFound_busy
  · rw [State.bankPasses, State.rd_flag_addr (by decide), State.crcFound, State.rd_wr_crc ⟨rfl, rfl⟩]

theorem State.bankFails_spec : (s.bankFails c).on R.PST_STATUS_VERIFY_BUSY = false ∧ (s.bankFails c).on R.PST_STATUS_BUILD_ERR = true ∧
    (s.bankFails c).on R.PST_STATUS_SWAP_PEND = s.on R.PST_STATUS_SWAP_PEND ∧
    (s.bankFails c).rd R.PST_CNT_CHECK_VALUE = min 0xFFFFFFFF (s.rd R.PST_CNT_CHECK_VALUE + 1) := by
  have hcount : ∀ f : Fld, f.addr ≠ R.PST_CNT_CHECK_VALUE.addr →
      (s.bankFails c).rd f = ((s.crcFound c).flag R.PST_STATUS_BUILD_ERR).rd f := fun f hf => State.rd_count_addr hf
  refine ⟨?_, ?_, ?_, ?_⟩
  · exact ((State.on_of_rd (hcount _ (by decide))).trans (State.on_of_rd (State.rd_wr_beside pstStatus_beside.2.2.1))).trans State.on_crcFound_busy
  · exact (State.on_of_rd (hcount _ (by decide))).trans (State.on_flag_self (by decide))
  · exact (State.on_of_rd (hcount _ (by decide))).trans (State.on_of_rd ((State.rd_wr_beside pstStatus_beside.2.2.2).trans State.rd_crcFound_pend))
  · rw [State.bankFails, State.rd_bump_self ⟨rfl, rfl⟩, State.rd_flag_addr (by decide), State.rd_crcFound_other (by decide) (by decide)]

theorem State.verified_passed : (s.verified true n).geo.build.swapAt = some n ∧
    (s.geo.build.state = .running → (s.verified true n).geo.build.state = .verified) := by
  unfold State.verified
  split
  · exact ⟨rfl, fun _ => rfl⟩
  · next h => exact ⟨rfl, fun hr => absurd hr h⟩

theorem State.verified_failed : (s.verified false n).geo.banks = s.geo.banks ∧
    (s.geo.build.state = .running → (s.verified false n).geo.build.state = .check) := by
  unfold State.verified
  split
  · exact ⟨rfl, fun _ => rfl⟩
  · next h => exact ⟨rfl, fun hr => absurd hr h⟩

theorem State.rd_verified {ok : Bool} : (s.verified ok n).rd f = s.rd f :=
  State.rd_congr ((State.verified_good _ _ _).same .regs rfl) ((State.verified_good _ _ _).same .straps rfl)

theorem exec_verifyComplete (hg : s.gated 1 = false) (hv : s.on R.PST_STATUS_VERIFY_BUSY = true) :
    exec (.verifyComplete n) s = .next (if s.bankCrc s.stagedBank = s.rd R.PST_BANK_EXP_VALUE then
        ((s.atRaw n).bankPasses (s.bankCrc s.stagedBank)).verified true (s.atRaw n).effectBlock
      else ((s.atRaw n).bankFails (s.bankCrc s.stagedBank)).verified false 0) := by
  have hcrc : (s.atRaw n).bankCrc (s.atRaw n).stagedBank = s.bankCrc s.stagedBank := by
    rw [State.bankCrc_congr (t := s.atRaw n) (s := s) rfl, State.stagedBank_congr (t := s.atRaw n) (s := s) rfl rfl]
  have hexp : ((s.atRaw n).crcFound (s.bankCrc s.stagedBank)).rd R.PST_BANK_EXP_VALUE = s.rd R.PST_BANK_EXP_VALUE :=
    (State.rd_crcFound_other (by decide) (by decide)).trans State.rd_atRaw
  have hbusy : ¬(!(s.atRaw n).on R.PST_STATUS_VERIFY_BUSY) = true := by
    rw [State.on_of_rd State.rd_atRaw, hv]
    exact Bool.false_ne_true
  show execVerifyComplete n s = _
  unfold execVerifyComplete
  refine (if_neg (by rw [hg]; exact Bool.false_ne_true)).trans (congrArg Host.Outcome.next ((if_neg hbusy).trans ?_))
  dsimp only
  rw [hcrc, ← State.crcFound, hexp, ← State.bankPasses, ← State.bankFails, State.sameClock_crcFound.effectBlock]

end

/-! ### Safe-load registers (R169) -/

theorem exec_slHold {h : Bool} (hg : s.gated 5 = false) : exec (.slHold h) s = .next (s.wr R.MIX_SL_CTRL_HOLD (b2n h)) :=
  if_neg (by rw [hg]; exact Bool.false_ne_true)

theorem exec_slArm (hg : s.gated 5 = false) : exec .slArm s = .next (s.flag R.MIX_SL_STATUS_ARMED) :=
  if_neg (by rw [hg]; exact Bool.false_ne_true)

theorem State.on_wr_b2n {h : Bool} (hf : f.lo = f.hi) : (s.wr f (b2n h)).on f = h := by
  rw [State.on, State.rd_wr_self hf.le, hf, Nat.sub_self]
  cases h <;> rfl

end Sys2Proof.Machine
end

section
/-! PROOFS. The statement on the host link and the ends of long operations, from the lemmas above. -/

-- One proof at a time: the package as one text then takes less memory.
set_option Elab.async false

namespace Sys2Proof.Machine

open Sys2Proof

variable {s : State} {n : Nat}

section
variable {p : Fin 2} (he : s.portEnabled p.val = true) (hg : s.gated 20 = false)
include he hg

theorem spiWrite_whole : ∃ t : State, exec (.spiWrite p true n) s = .next t ∧
    (t.port p.val).inb = (if 2 ≤ (s.port p.val).inb then (s.port p.val).inb else (s.port p.val).inb + 1) ∧
    t.rd (R.HIF_CNT_OVF_VALUE p.val) =
      (if 2 ≤ (s.port p.val).inb then min 0xFFFFFFFF (s.rd (R.HIF_CNT_OVF_VALUE p.val) + 1) else s.rd (R.HIF_CNT_OVF_VALUE p.val)) := by
  refine ⟨_, exec_spiWrite he hg, ?_⟩
  by_cases hfull : 2 ≤ (s.port p.val).inb
  · simp only [if_pos hfull]
    refine ⟨congrArg Port.inb (State.port_congr ((State.bump_good _ _).same .ports rfl)), ?_⟩
    rw [State.rd_bump_self ⟨rfl, rfl⟩, State.rd_atRaw]
  · simp only [if_neg hfull, Bool.true_eq_false, if_false]
    exact ⟨congrArg Port.inb State.port_setPort_self, rfl⟩

theorem spiWrite_broken (hroom : (s.port p.val).inb < 2) : ∃ t : State, exec (.spiWrite p false n) s = .next t ∧ t.port p.val = s.port p.val ∧
    t.rd (R.HIF_CNT_FRAME_VALUE p.val) = min 0xFFFFFFFF (s.rd (R.HIF_CNT_FRAME_VALUE p.val) + 1) := by
  refine ⟨_, (exec_spiWrite he hg).trans (congrArg Host.Outcome.next ((if_neg (Nat.not_le.2 hroom)).trans (if_pos rfl))), ?_, ?_⟩
  · exact State.port_congr ((State.bump_good _ _).same .ports rfl)
  · rw [State.rd_bump_self ⟨rfl, rfl⟩, State.rd_atRaw]

theorem spiRead_waiting {k w : Packet} {ks ws : List Packet} (ho : (s.port p.val).out = k :: ks) (hw : (s.port p.val).wait = w :: ws) :
    ∃ t : State, exec (.spiRead p n) s = .next t ∧ (t.port p.val).sent = some k ∧ (t.port p.val).out = ks ++ [w] ∧ (t.port p.val).wait = ws := by
  refine ⟨_, exec_spiRead he hg, ?_⟩
  rw [State.spiPop_waiting (s := s.atRaw n) ho hw, State.port_setPort_self]
  exact ⟨rfl, rfl, rfl⟩

theorem spiRead_empty (ho : (s.port p.val).out = []) :
    ∃ t : State, exec (.spiRead p n) s = .next t ∧ (t.port p.val).sent = none ∧ ∀ q, q ∉ [Part.tm, .ports] → Part.same q s t := by
  refine ⟨_, exec_spiRead he hg, ?_⟩
  rw [State.spiPop_empty (s := s.atRaw n) ho, State.port_setPort_self]
  exact ⟨rfl, fun q => State.same_setPort_atRaw⟩

theorem spiStatus_shown : ∃ t : State, exec (.spiStatus p n) s = .next t ∧
    (t.port p.val).stat = some ((if (s.port p.val).out = [] then 0 else 1) + (if (s.port p.val).inb < 2 then 2 else 0) +
      (if s.devBusy = none ∧ (s.port p.val).busy = none then 0 else 4)) ∧ ∀ q, q ∉ [Part.tm, .ports] → Part.same q s t := by
  refine ⟨_, exec_spiStatus he hg, ?_, fun q => State.same_setPort_atRaw⟩
  rw [State.port_setPort_self, ← State.spiByte_eq]

end

section
variable (hg : s.gated 1 = false) (hv : s.on R.PST_STATUS_VERIFY_BUSY = true)
include hg hv

theorem verifyComplete_passes (hc : s.bankCrc s.stagedBank = s.rd R.PST_BANK_EXP_VALUE) :
    ∃ t : State, exec (.verifyComplete n) s = .next t ∧ t.on R.PST_STATUS_VERIFY_BUSY = false ∧
      t.rd R.PST_BANK_CRC_VALUE = s.bankCrc s.stagedBank ∧ t.on R.PST_STATUS_SWAP_PEND = true ∧
      t.geo.build.swapAt = some (s.atRaw n).effectBlock ∧ (s.geo.build.state = .running → t.geo.build.state = .verified) := by
  obtain ⟨hbusy, hcrc, hpend⟩ := State.bankPasses_spec (s := s.atRaw n) (t := s) (b := s.stagedBank)
  have hgeo : ((s.atRaw n).bankPasses (s.bankCrc s.stagedBank)).geo = s.geo := State.bankPasses_good.same .geo rfl
  refine ⟨_, (exec_verifyComplete hg hv).trans (congrArg Host.Outcome.next (if_pos hc)), ?_, ?_, ?_, State.verified_passed.1, fun hr => ?_⟩
  · exact (State.on_of_rd State.rd_verified).trans hbusy
  · exact State.rd_verified.trans hcrc
  · exact (State.on_of_rd State.rd_verified).trans hpend
  · exact State.verified_passed.2 ((congrArg (fun g : Geo => g.build.state) hgeo).trans hr)

theorem verifyComplete_fails (hc : s.bankCrc s.stagedBank ≠ s.rd R.PST_BANK_EXP_VALUE) :
    ∃ t : State, exec (.verifyComplete n) s = .next t ∧ t.on R.PST_STATUS_VERIFY_BUSY = false ∧ t.on R.PST_STATUS_BUILD_ERR = true ∧
      t.on R.PST_STATUS_SWAP_PEND = s.on R.PST_STATUS_SWAP_PEND ∧ t.rd R.PST_CNT_CHECK_VALUE = min 0xFFFFFFFF (s.rd R.PST_CNT_CHECK_VALUE + 1) ∧
      (s.geo.build.state = .running → t.geo.build.state = .check) ∧ t.geo.banks = s.geo.banks := by
  obtain ⟨hbusy, herr, hpend, hcnt⟩ := State.bankFails_spec (s := s.atRaw n) (c := s.bankCrc s.stagedBank)
  have hgeo : ((s.atRaw n).bankFails (s.bankCrc s.stagedBank)).geo = s.geo := State.bankFails_good.same .geo rfl
  refine ⟨_, (exec_verifyComplete hg hv).trans (congrArg Host.Outcome.next (if_neg hc)), ?_, ?_, ?_, ?_, fun hr => ?_, ?_⟩
  · exact (State.on_of_rd State.rd_verified).trans hbusy
  · exact (State.on_of_rd State.rd_verified).trans herr
  · exact ((State.on_of_rd State.rd_verified).trans hpend).trans (State.on_of_rd State.rd_atRaw)
  · exact State.rd_verified.trans hcnt
  · exact State.verified_failed.2 ((congrArg (fun g : Geo => g.build.state) hgeo).trans hr)
  · exact State.verified_failed.1.trans (congrArg Geo.banks hgeo)

end

/-- Settles O60: each command of the host link and each end of a long operation, by what it leaves of the port, the session, the flash or the bank it works on. -/
theorem hostLink : Obligations.HostLink := by
  unfold Obligations.HostLink
  refine ⟨fun s p n he hg => ⟨spiWrite_whole he hg, spiWrite_broken he hg, fun k ks w ws => spiRead_waiting he hg, spiRead_empty he hg, spiStatus_shown he hg⟩,
    fun s i n hf hp ht => ⟨_, exec_halfOpenTimeout hf hp ht, State.session_closeSession.1, fun j hj => (State.session_closeSession.2 j hj).1⟩,
    fun s i n hf hp ht => ⟨_, exec_keepaliveTimeout hf hp ht, State.session_closeSession.1, fun j hj => (State.session_closeSession.2 j hj).1⟩,
    fun s p n l => identExport_ends, fun s c n l x hb ho hx => ⟨fun hk => ?_, fun ok => fwCommit_fails hb ho hx⟩, fun s n l => keyRotate_ends,
    fun s hg => ⟨exec_swapReq_pending, fun hr hp => ?_, fun hr hv hp hc => ?_, fun hr hv hp hc hl => ?_⟩,
    fun s n hg hv => ⟨verifyComplete_passes hg hv, verifyComplete_fails hg hv⟩,
    fun s b hg => ⟨_, exec_slHold hg, State.on_wr_b2n rfl, fun p => (State.wr_good _ _ _).same_off_regs⟩,
    fun s hg => ⟨_, exec_slArm hg, State.on_flag_self (by decide), fun p => (State.flag_good _ _).same_off_regs⟩⟩
  · obtain ⟨t, he, hb', hf', himg, hfirst, hother⟩ := fwCommit_passes (n := n) hb ho hx hk
    refine ⟨t, he, hb', hf', himg, hfirst, ?_⟩
    revert hother
    cases x.slot <;> exact id
  · exact ⟨_, exec_swapReq_alone hg hp hr, State.on_flag_self (by decide), fun p => (State.flag_good _ _).same_off_regs⟩
  · exact ⟨_, exec_swapReq_limit hg hp hr hv hc, rfl, rfl, rfl⟩
  · obtain ⟨hbuild, hexp, hbusy⟩ := State.expectBank_built (laid := s.layOut) (n := s.stagedCells) hp
    refine ⟨_, exec_swapReq_built hg hp hr hv hc hl, ?_, ?_, hexp, hbusy⟩
    · rw [hbuild, hr]
    · rw [hbuild]

end Sys2Proof.Machine
end

section
/-! PROOFS. The lane-wise vector instructions (R59, R93, R103, R124). -/

-- One proof at a time: the package as one text then takes less memory.
set_option Elab.async false

namespace Sys2Proof.Machine

open Sys2Proof

variable {s : State} {a : Issue} {op : DrvOp}

/-! ### A bundle that issues is legal (R95, R123, R132) -/

theorem CoreSt.legal {x : CoreSt} {p q : DrvOp} (h : x.illegal p q = false) :
    DrvOp.defined p = true ∧ DrvOp.defined q = true ∧ DrvOp.slotOk false p = true ∧ DrvOp.slotOk true q = true := by
  simp only [CoreSt.illegal, Bool.or_eq_false_iff, Bool.not_eq_false', Bool.and_eq_true] at h
  obtain ⟨⟨⟨⟨⟨⟨⟨⟨hp, hq⟩, hs0⟩, hs1⟩, -⟩, -⟩, -⟩, -⟩, -⟩ := h
  exact ⟨hp, hq, hs0, hs1⟩

/-- An instruction that issues spells one of its defined forms. -/
theorem State.issuesAlone_defined (h : s.issuesAlone a op) : DrvOp.defined op = true := by
  obtain ⟨-, -, -, -, -, -, hl, -⟩ := h
  obtain ⟨hp, hq, -, -⟩ := CoreSt.legal hl
  cases hs : a.slot1 <;> simp only [hs] at hp hq
  · exact hp
  · exact hq

/-! ### Results in flight -/

/-- A command whose instruction touches registers alone gives the instruction's results. -/
theorem State.gives_regRes {i : Instr} {rs : Res} (h : s.issuesAlone a op) (ho : DrvOp.regOnly op = true)
    (he : exec i s = .next (s.command a op)) (hr : (s.core a.core.val).regRes op = rs) : s.gives a i rs :=
  ⟨_, he, hr ▸ State.command_regOnly h ho⟩

/-- The magnitude of a lane is at least 0: it saturates at the upper limit only. -/
theorem sat17Hit_natAbs {v : Int} : sat17Hit (v.natAbs : Int) = decide (131071 < (v.natAbs : Int)) := by
  have hlo : ¬ (v.natAbs : Int) < -131072 := by omega
  rw [sat17Hit, decide_eq_false hlo, Bool.false_or]

theorem natAbs_eq_max {v : Int} : (v.natAbs : Int) = max v (-v) := by omega

/-- VABS by the larger of a lane and its negative. -/
theorem CoreSt.regRes_vabs {x : CoreSt} {f : FmtV} : x.regRes (.vabs f) =
    (List.range 8).map (fun i => (1, x.laneWr f.kd f.vd.toNat i (sat17 (max (x.vLane f.va.toNat i) (-x.vLane f.va.toNat i))))) ++
      ssat ((List.range 8).any (fun i => 131071 < max (x.vLane f.va.toNat i) (-x.vLane f.va.toNat i))) := by
  simp only [← natAbs_eq_max, ← sat17Hit_natAbs]
  rfl

/-- VBC: the lane that IMM4 names is one of the eight. -/
theorem CoreSt.regRes_vbc {x : CoreSt} {f : FmtV} (h : DrvOp.defined (.vbc f) = true) : x.regRes (.vbc f) =
    (List.range 8).map (fun i => (1, x.laneWr f.kd f.vd.toNat i (x.vLane f.va.toNat f.imm4.toNat))) := by
  have hlt : f.imm4.toNat < 8 := by
    simp only [DrvOp.defined, Bool.and_eq_true, decide_eq_true_eq] at h
    exact h.1.1
  rw [CoreSt.regRes, CoreSt.vecWr, Nat.mod_eq_of_lt hlt]

/-- Settles O12: each instruction touches registers alone, so its results of R124 are all it gives; VABS and VBC take a step of arithmetic, the others their definition. -/
theorem droverVectors : Obligations.DroverVectors := by
  unfold Obligations.DroverVectors
  exact ⟨fun s a f h => State.gives_regRes h rfl rfl rfl, fun s a f h => State.gives_regRes h rfl rfl rfl,
    fun s a f h => State.gives_regRes h rfl rfl rfl, fun s a f h => State.gives_regRes h rfl rfl CoreSt.regRes_vabs,
    fun s a f h => State.gives_regRes h rfl rfl rfl, fun s a f h => State.gives_regRes h rfl rfl rfl,
    fun s a f h => State.gives_regRes h rfl rfl rfl, fun s a f h => State.gives_regRes h rfl rfl rfl,
    fun s a f h => State.gives_regRes h rfl rfl rfl,
    fun s a f h => State.gives_regRes h rfl rfl (CoreSt.regRes_vbc (State.issuesAlone_defined h)),
    fun s a f h => State.gives_regRes h rfl rfl rfl⟩

end Sys2Proof.Machine
end

section
/-! PROOFS. The controls of a core (R112, R117–R120, R143): reset, run, debug halt, step, resume, and the arrival of a port read. -/

-- One proof at a time: the package as one text then takes less memory.
set_option Elab.async false

namespace Sys2Proof.Machine

open Sys2Proof

variable {s t u : State} {f g : Fld} {c k n v : Nat} {x y : CoreSt} {P Q : Nat → Prop}

/-! ### Registers that an operation leaves -/

/-- The registers at the addresses of `P` hold in `t` what they hold in `s`. -/
def State.SameRegs (P : Nat → Prop) (s t : State) : Prop :=
  t.straps = s.straps ∧ ∀ b, P b → t.regs.get 0 b = s.regs.get 0 b

theorem State.SameRegs.of_eq (hr : t.regs = s.regs) (hs : t.straps = s.straps) : s.SameRegs P t := ⟨hs, fun _ _ => by rw [hr]⟩

theorem State.SameRegs.refl : s.SameRegs P s := .of_eq rfl rfl

theorem State.SameRegs.trans (h : s.SameRegs P t) (k : t.SameRegs P u) : s.SameRegs P u :=
  ⟨k.1.trans h.1, fun b hb => (k.2 b hb).trans (h.2 b hb)⟩

theorem State.SameRegs.mono (h : s.SameRegs P t) (hq : ∀ b, Q b → P b) : s.SameRegs Q t := ⟨h.1, fun b hb => h.2 b (hq b hb)⟩

theorem State.SameRegs.wr (h : ¬ P f.addr) : s.SameRegs P (s.wr f v) := ⟨rfl, fun _ hb => State.cell_wr fun e => h (e ▸ hb)⟩

theorem State.SameRegs.count (h : ¬ P f.addr) : s.SameRegs P (s.count f n) := by
  unfold State.count
  split
  · exact .refl
  · exact .wr h

theorem State.SameRegs.bump (h : ¬ P f.addr) : s.SameRegs P (s.bump f) := .count h

theorem State.SameRegs.rd (h : s.SameRegs P t) (hg : P g.addr) : t.rd g = s.rd g := State.rd_of_cell (h.2 _ hg) h.1

theorem State.SameRegs.on (h : s.SameRegs P t) (hg : P g.addr) : t.on g = s.on g := State.on_of_rd (h.rd hg)

/-- A field whose bits are as they were reads as it did. -/
theorem State.rd_of_bits (h : ∀ b, g.lo ≤ b → b ≤ g.hi → (t.word g).testBit b = (s.word g).testBit b) (hg : g.lo ≤ g.hi) : t.rd g = s.rd g := by
  apply Nat.eq_of_testBit_eq
  intro i
  rw [State.rd, State.rd, testBit_bitsOf, testBit_bitsOf]
  by_cases hi : i < g.hi - g.lo + 1
  · rw [h _ (by omega) (by omega)]
  · simp [hi]

/-! ### The registers of one core (R120) -/

/-- The addresses that the sequencer and the controls of core `c` write: its control, status and bundle counter, and the map of rotation. -/
def ownRegs (c : Nat) : List Nat := [0x30800000 + 65536 * c, 0x30800004 + 65536 * c, 0x30800040 + 65536 * c, 0x30A00004]

/-- An address that is none of core `c`'s own. -/
def Foreign (c b : Nat) : Prop := b ∉ ownRegs c

theorem State.SameRegs.coreCopies : s.SameRegs (Foreign c) (s.coreCopies c) := by
  have hst : (0x30800004 + 65536 * c) ∈ ownRegs c := by simp [ownRegs]
  have hrot : 0x30A00004 ∈ ownRegs c := by simp [ownRegs]
  exact ((State.SameRegs.wr fun h => h hst).trans (.wr fun h => h hst)).trans (.wr fun h => h hrot)

theorem State.SameRegs.setCore : s.SameRegs P (s.setCore c x) := .of_eq rfl rfl

theorem State.SameRegs.setCoreState : s.SameRegs (Foreign c) (s.setCoreState c n) :=
  .wr fun h => h (by simp [ownRegs, R.DRV_STATUS_STATE])

theorem State.SameRegs.readied : s.SameRegs (Foreign c) (s.readied c) := .wr fun h => h (by simp [ownRegs, R.DRV_CNT_BUNDLE_VALUE])

/-- Another core's state and run bit, and the gates, are no registers of core `c`. -/
theorem foreign_state (hk : k < 32) (hkc : k ≠ c) : Foreign c (R.DRV_STATUS_STATE k).addr := by
  simp only [Foreign, ownRegs, R.DRV_STATUS_STATE, List.mem_cons, List.not_mem_nil, or_false, not_or]
  omega

theorem foreign_run (hk : k < 32) (hkc : k ≠ c) : Foreign c (R.DRV_CTRL_RUN k).addr := by
  simp only [Foreign, ownRegs, R.DRV_CTRL_RUN, List.mem_cons, List.not_mem_nil, or_false, not_or]
  omega

theorem foreign_gates : Foreign c R.CLK_GATE_NOW_VALUE.addr := by
  simp only [Foreign, ownRegs, R.CLK_GATE_NOW_VALUE, List.mem_cons, List.not_mem_nil, or_false, not_or]
  omega

theorem State.coreState_setCoreState : (s.setCoreState c n).coreState c = n % 8 := State.rd_wr_self (by simp [R.DRV_STATUS_STATE])

/-- The copies of SR stand in other bits of a core's status than STATE and HREF. -/
theorem State.rd_coreCopies_bits (hg : g.lo ≤ g.hi) (ha : g.addr < 0x30A00000) (hb : g.hi < 6 ∨ 7 < g.lo) :
    (s.coreCopies c).rd g = s.rd g := by
  refine State.rd_of_bits (fun b h1 h2 => State.testBit_coreCopies (fun _ => ?_) fun e => ?_) hg
  · simp only [List.mem_cons, List.not_mem_nil, or_false, not_or]; omega
  · rw [addr_rot] at e; omega

theorem State.coreState_coreCopies (hk : k < 32) : (s.coreCopies c).coreState k = s.coreState k :=
  State.rd_coreCopies_bits (by simp [R.DRV_STATUS_STATE]) (show 0x30800004 + 65536 * k < _ by omega) (.inl (by simp [R.DRV_STATUS_STATE]))

theorem State.core_coreCopies : (s.coreCopies c).core k = s.core k := State.core_congr State.coreCopies_cores

theorem State.core_setCoreState : (s.setCoreState c n).core k = s.core k := rfl

/-! ### Cores that go on after a command -/

/-- No core is asked for a step. -/
def State.Unasked (s : State) : Prop := ∀ p ∈ s.cores, p.2.stepReq = false

theorem State.unasked_of_rests (h : s.rests = true) : s.Unasked := fun _ => State.rests_mem h

theorem State.Unasked.congr (h : s.Unasked) (hc : t.cores = s.cores) : t.Unasked := fun p hp => h p (hc ▸ hp)

theorem State.Unasked.setCore (h : s.Unasked) (hx : x.stepReq = false) : (s.setCore c x).Unasked := fun p hp =>
  (State.mem_setCore hp).elim (fun e => e ▸ hx) (h p)

/-- What a core's command leaves at rest: no step is asked for, the other cores and the registers they heed are as they were, and the core itself holds no
bundle that may issue. -/
theorem State.runSteps_of_rests (hs : s.rests = true) (hreq : t.Unasked) (hk : ∀ k, k ≠ c → t.core k = s.core k)
    (hr : ∀ f, restRegs f → Foreign c f.addr → t.rd f = s.rd f) (hclk : t.clk = s.clk) (hu : t.unstalls c = false) : t.runSteps n = t := by
  refine State.runSteps_quiet fun p hp => ⟨hreq p hp, ?_⟩
  by_cases e : p.1 = c
  · rw [e, hu]
  obtain ⟨-, h | ⟨h32, h⟩⟩ := State.rests_core (k := p.1) hs
  · exact State.unstalls_none (by rw [hk _ e, h])
  · have hst : t.coreState p.1 = s.coreState p.1 := hr _ (.inl (show 0x30800004 + 65536 * p.1 < _ by omega)) (foreign_state h32 e)
    have hrun : t.on (R.DRV_CTRL_RUN p.1) = s.on (R.DRV_CTRL_RUN p.1) :=
      State.on_of_rd (hr _ (.inl (show 0x30800000 + 65536 * p.1 < _ by omega)) (foreign_run h32 e))
    have hgate : t.gated 0 = s.gated 0 := State.gated_congr (hr _ (.inr rfl) foreign_gates) hclk
    rw [← h, State.unstalls, State.unstalls, hk _ e, hst, hrun, hgate]

/-! ### What a core's own steps leave of it -/

/-- What a core waits for, and whether a step is asked of it. -/
def CoreSt.asked (x : CoreSt) : Option Wait × Bool := (x.waiting, x.stepReq)

theorem CoreSt.asked_applyOn {old : Cells Scale} {w : Wr} : (x.applyOn old w).asked = x.asked := by
  cases w with
  | loopReg i _ =>
    simp only [CoreSt.applyOn, CoreSt.setLoop]
    split <;> rfl
  | _ => rfl

theorem CoreSt.asked_nextCycle : x.nextCycle.asked = x.asked := foldl_keeps CoreSt.asked (fun _ _ => CoreSt.asked_applyOn) _ _

theorem CoreSt.asked_settle : (x.settle n).asked = x.asked := by
  induction n generalizing x with
  | zero => rfl
  | succ n ih =>
    unfold CoreSt.settle
    split
    · rfl
    · rw [ih, CoreSt.asked_nextCycle]

theorem CoreSt.asked_arrive {r : PortRead} : (x.arrive r).asked = x.asked := by
  refine foldl_keeps CoreSt.asked (fun y w => ?_) _ _
  split <;> exact CoreSt.asked_applyOn

theorem CoreSt.asked_drain : x.drain.asked = x.asked :=
  (foldl_keeps CoreSt.asked (fun _ _ => CoreSt.asked_arrive) _ _).trans CoreSt.asked_settle

theorem CoreSt.asked_advance : x.advance.asked = x.asked := by
  unfold CoreSt.advance
  simp only []
  repeat' split
  all_goals rfl

theorem CoreSt.asked_countDelay : x.countDelay.asked = x.asked := by
  unfold CoreSt.countDelay
  repeat' split
  all_goals rfl

theorem CoreSt.asked_finish : x.finish.asked = x.asked :=
  CoreSt.asked_nextCycle.trans (CoreSt.asked_countDelay.trans CoreSt.asked_advance)

theorem CoreSt.stalled_drain : x.drain.stalled = none := rfl

theorem CoreSt.fly_nil : x.fly [] = x := by
  simp [CoreSt.fly]

end Sys2Proof.Machine
end

section
/-! PROOFS. The commands that control a core (R112, R117–R120, R143), one lemma for each case of the statement. -/

-- One proof at a time: the package as one text then takes less memory.
set_option Elab.async false

namespace Sys2Proof.Machine

open Sys2Proof

variable {s t : State} {c k n f : Nat} {x : CoreSt}

/-! ### DRV_CORE_RESET (R119, R120, R143) -/

/-- An address of the Drover cluster or below it: none of the Ostler's. -/
def BelowOstler (b : Nat) : Prop := b < 0x40000000

theorem not_belowOstler {b : Nat} (h : 0x40000000 ≤ b) : ¬ BelowOstler b := Nat.not_lt.2 h

theorem State.SameRegs.setFlow {x : Flow} : s.SameRegs BelowOstler (s.setFlow f x) := .of_eq rfl rfl

theorem State.SameRegs.setQueue {q : Nat} {ds : List Desc} : s.SameRegs BelowOstler (s.setQueue q ds) := by
  have hq : ¬ BelowOstler (0x40100200 + 4 * q) := not_belowOstler (by omega)
  exact (State.SameRegs.of_eq rfl rfl).trans ((State.SameRegs.wr hq).trans (.wr hq))

theorem State.SameRegs.enter {d : Desc} : s.SameRegs BelowOstler (s.enter d) := by
  unfold State.enter
  split
  · exact .bump (not_belowOstler (by decide))
  · exact State.SameRegs.setFlow.trans .setQueue

theorem State.SameRegs.retire : s.SameRegs BelowOstler (s.retire f n) := by
  induction n generalizing s with
  | zero => exact .refl
  | succ n ih =>
    unfold State.retire
    simp only []
    repeat' split
    · exact .refl
    · exact .refl
    · exact State.SameRegs.setFlow.trans ih
    · exact (State.SameRegs.setFlow.trans .enter).trans ih
    · exact .refl

theorem State.SameRegs.abandon {q : Nat} : s.SameRegs BelowOstler (s.abandon f q) := by
  have hcnt : ¬ BelowOstler R.OST_CNT_ABANDON_VALUE.addr := not_belowOstler (by decide)
  have hflag : ¬ BelowOstler R.OST_STATUS_ABANDON.addr := not_belowOstler (by decide)
  have hmark : s.SameRegs BelowOstler (s.markAbandoned f q) := ((State.SameRegs.bump hcnt).trans (.wr hflag)).trans .setFlow
  exact hmark.trans .retire

theorem State.SameRegs.dropTask : s.SameRegs BelowOstler (s.dropTask c) := by
  have hidle (u : State) : u.SameRegs BelowOstler u.showIdle := .wr (not_belowOstler (by decide))
  unfold State.dropTask
  simp only []
  repeat' split
  · exact .refl
  · exact State.SameRegs.setCore.trans (hidle _)
  · exact (State.SameRegs.setCore.trans .abandon).trans (hidle _)

theorem State.dropTask_none (h : (s.core c).task = none) : s.dropTask c = s := by
  unfold State.dropTask
  simp only [h]

theorem State.core_dropTask_other (h : k ≠ c) : (s.dropTask c).core k = s.core k := by
  unfold State.dropTask
  simp only []
  repeat' split
  · rfl
  · exact State.core_setCore_other h
  · rw [State.core_congr ((State.showIdle_good _).same .cores rfl), State.core_congr ((State.abandon_good _ _ _).same .cores rfl),
      State.core_setCore_other h]

/-- The state of a core after reset, when its task is dropped. -/
theorem State.resetCore_eq : s.resetCore c = (if (s.dropTask c).coreState c = 5
      then (s.dropTask c).setCore c { coreReset with heldState := b2n ((s.dropTask c).on (R.DRV_CTRL_RUN c)) }
      else ((s.dropTask c).setCore c coreReset).setCoreState c (b2n ((s.dropTask c).on (R.DRV_CTRL_RUN c)))).coreCopies c := rfl

theorem State.core_resetCore_other (h : k ≠ c) : (s.resetCore c).core k = s.core k := by
  refine Eq.trans ?_ (State.core_dropTask_other h)
  rw [State.resetCore_eq, State.core_coreCopies]
  split
  · exact State.core_setCore_other h
  · exact State.core_setCoreState.trans (State.core_setCore_other h)

theorem exec_drvCoreReset {c : Fin 32} (hg : s.gated 0 = false) : exec (.drvCoreReset c) s = .next (s.resetCore c.val) :=
  if_neg (hg ▸ Bool.false_ne_true)

section
variable (hc : c < 32)
include hc

theorem State.ctrl_resetCore {g : Fld} (hg : g.addr = 0x30800000 + 65536 * c) : (s.resetCore c).rd g = s.rd g := by
  have h1 : g.addr ≠ 0x30800004 + 65536 * c := by omega
  have hdrop : (s.dropTask c).rd g = s.rd g := State.SameRegs.dropTask.rd (show g.addr < _ by omega)
  rw [State.resetCore_eq, State.rd_coreCopies h1 (by omega), ← hdrop]
  split
  · rfl
  · exact State.rd_wr_addr h1

theorem State.coreState_dropTask : (s.dropTask c).coreState c = s.coreState c :=
  State.SameRegs.dropTask.rd (show 0x30800004 + 65536 * c < _ by omega)

theorem State.run_dropTask : (s.dropTask c).on (R.DRV_CTRL_RUN c) = s.on (R.DRV_CTRL_RUN c) :=
  State.SameRegs.dropTask.on (show 0x30800000 + 65536 * c < _ by omega)

theorem State.resetCore_clocked (h : s.coreState c ≠ 5) :
    (s.resetCore c).core c = coreReset ∧ (s.resetCore c).coreState c = b2n (s.on (R.DRV_CTRL_RUN c)) := by
  rw [State.resetCore_eq, State.coreState_dropTask hc, if_neg h, State.run_dropTask hc, State.core_coreCopies, State.coreState_coreCopies hc,
    State.core_setCoreState, State.core_setCore_self, State.coreState_setCoreState]
  cases s.on (R.DRV_CTRL_RUN c) <;> exact ⟨rfl, rfl⟩

theorem State.resetCore_gated (h : s.coreState c = 5) :
    (s.resetCore c).core c = { coreReset with heldState := b2n (s.on (R.DRV_CTRL_RUN c)) } ∧ (s.resetCore c).coreState c = 5 := by
  rw [State.resetCore_eq, State.coreState_dropTask hc, if_pos h, State.run_dropTask hc, State.core_coreCopies, State.coreState_coreCopies hc,
    State.core_setCore_self]
  exact ⟨rfl, (State.coreState_dropTask hc).trans h⟩

end

theorem State.ost_resetCore (h : (s.core c).task = none) : (s.resetCore c).ost = s.ost := by
  rw [State.resetCore_eq, State.dropTask_none h, State.coreCopies_ost]
  split <;> rfl

/-! ### CORE_RUN (R119) -/

/-- RUN set, before the core's state follows. -/
theorem State.setRun_eq : s.setRun c true = if s.coreState c = 0 then (s.wr (R.DRV_CTRL_RUN c) 1).setCoreState c 1
    else if s.coreState c = 5 ∧ (s.core c).heldState = 0 then (s.wr (R.DRV_CTRL_RUN c) 1).setCore c { s.core c with heldState := 1 }
    else s.wr (R.DRV_CTRL_RUN c) 1 := by
  have hst : (s.wr (R.DRV_CTRL_RUN c) 1).coreState c = s.coreState c :=
    State.rd_wr_addr (show 0x30800004 + 65536 * c ≠ 0x30800000 + 65536 * c by omega)
  have hcore : (s.wr (R.DRV_CTRL_RUN c) 1).core c = s.core c := rfl
  simp [State.setRun, b2n, hst, hcore]

theorem State.SameRegs.setRun : s.SameRegs (Foreign c) (s.setRun c true) := by
  have hrun : s.SameRegs (Foreign c) (s.wr (R.DRV_CTRL_RUN c) 1) := .wr fun h => h (by simp [ownRegs, R.DRV_CTRL_RUN])
  rw [State.setRun_eq]
  repeat' split
  · exact hrun.trans .setCoreState
  · exact hrun.trans .setCore
  · exact hrun

theorem State.on_setRun : (s.setRun c true).on (R.DRV_CTRL_RUN c) = true := by
  have hrun : (s.wr (R.DRV_CTRL_RUN c) 1).on (R.DRV_CTRL_RUN c) = true := State.on_flag_self (by simp [R.DRV_CTRL_RUN])
  rw [State.setRun_eq]
  repeat' split
  · rw [← hrun]
    exact State.on_of_rd (State.rd_wr_addr (show 0x30800000 + 65536 * c ≠ 0x30800004 + 65536 * c by omega))
  · exact hrun
  · exact hrun

theorem State.coreState_setRun : (s.setRun c true).coreState c = if s.coreState c = 0 then 1 else s.coreState c := by
  have hst : (s.wr (R.DRV_CTRL_RUN c) 1).coreState c = s.coreState c :=
    State.rd_wr_addr (show 0x30800004 + 65536 * c ≠ 0x30800000 + 65536 * c by omega)
  rw [State.setRun_eq]
  split
  · exact State.coreState_setCoreState
  · split <;> exact hst

theorem State.core_setRun : (s.setRun c true).core c =
    if s.coreState c = 5 ∧ (s.core c).heldState = 0 then { s.core c with heldState := 1 } else s.core c := by
  rw [State.setRun_eq]
  split
  · next h => rw [if_neg (by omega)]; rfl
  · split
    · exact State.core_setCore_self
    · rfl

theorem State.core_setRun_other (h : k ≠ c) : (s.setRun c true).core k = s.core k := by
  rw [State.setRun_eq]
  repeat' split
  · rfl
  · exact State.core_setCore_other h
  · rfl

theorem State.unasked_setRun (h : s.rests = true) : (s.setRun c true).Unasked := by
  rw [State.setRun_eq]
  have hu := State.unasked_of_rests h
  repeat' split
  · exact hu.congr rfl
  · exact (hu.congr rfl).setCore (State.rests_core h).1
  · exact hu.congr rfl

theorem exec_coreRun {c : Fin 32} (hg : s.gated 0 = false) (hs : s.rests = true) (hx : (s.core c.val).stalled = none) :
    exec (.coreRun c) s = .next (s.setRun c.val true) := by
  have hq : (s.setRun c.val true).runSteps 64 = s.setRun c.val true := by
    refine State.runSteps_of_rests hs (State.unasked_setRun hs) (fun k => State.core_setRun_other) (fun f _ => State.SameRegs.setRun.rd)
      ((State.setRun_good _ _ _).same .clk rfl) (State.unstalls_none ?_)
    rw [State.core_setRun]
    split <;> exact hx
  exact (if_neg (hg ▸ Bool.false_ne_true)).trans (congrArg Host.Outcome.next hq)

/-! ### HALT_REQ and DRV_RESUME (R113, R117) -/

theorem exec_haltReq {c : Fin 32} (hg : s.gated 0 = false) (hr : s.coreState c.val = 1 ∨ s.coreState c.val = 2) :
    exec (.haltReq c) s = .next (s.askHalt c.val) :=
  (if_neg (hg ▸ Bool.false_ne_true)).trans (congrArg Host.Outcome.next (if_pos (by simpa using hr)))

theorem State.askHalt_halts (hd : s.on (R.DRV_CTRL_DBGINT c) = false) (hr : s.inRot c = false ∨ s.inMaint = true) : s.askHalt c = s.haltNow c := by
  unfold State.askHalt
  rw [hd, if_neg Bool.false_ne_true, if_pos (by simpa using hr)]

theorem State.askHalt_refused (hd : s.on (R.DRV_CTRL_DBGINT c) = false) (hr : s.inRot c = true) (hm : s.inMaint = false) :
    s.askHalt c = s.flag (R.DRV_STATUS_HREF c) := by
  simp [State.askHalt, hd, hr, hm]

/-- With interrupts masked and no fault pending a boundary changes nothing. -/
theorem State.boundary_masked (ht : (s.core c).trap = none) (hi : (s.core c).srBit 15 = false) : s.boundary c = s := by
  unfold State.boundary
  simp only [ht, hi, Bool.and_false]
  split <;> rfl

theorem State.askHalt_interrupts (hd : s.on (R.DRV_CTRL_DBGINT c) = true) (ht : (s.core c).trap = none) (hi : (s.core c).srBit 15 = false) :
    s.askHalt c = s.setCore c { s.core c with dbgPend := true } := by
  unfold State.askHalt
  rw [if_pos hd]
  exact State.boundary_masked (by rw [State.core_setCore_self]; exact ht) (by rw [State.core_setCore_self]; exact hi)

theorem State.haltNow_spec (hc : c < 32) : (s.haltNow c).coreState c = 3 ∧ (s.haltNow c).core c = { (s.core c).drain with stepping := false } ∧
    ∀ d, d ≠ c → (s.haltNow c).core d = s.core d := by
  unfold State.haltNow
  rw [State.coreState_coreCopies hc, State.coreState_setCoreState, State.core_coreCopies, State.core_setCoreState, State.core_setCore_self]
  exact ⟨rfl, rfl, fun d hd => by rw [State.core_coreCopies, State.core_setCoreState, State.core_setCore_other hd]⟩

theorem State.coreState_href : (s.flag (R.DRV_STATUS_HREF c)).coreState c = s.coreState c :=
  State.rd_wr_bits rfl ⟨rfl, rfl⟩ (by simp [R.DRV_STATUS_HREF]) (by simp [R.DRV_STATUS_STATE]) (.inl (by simp [R.DRV_STATUS_STATE, R.DRV_STATUS_HREF]))

theorem exec_drvResume {c : Fin 32} (hg : s.gated 0 = false) (h3 : s.coreState c.val = 3) :
    exec (.drvResume c) s = .next (s.setCoreState c.val (s.core c.val).runState) :=
  (if_neg (hg ▸ Bool.false_ne_true)).trans (congrArg Host.Outcome.next (if_pos h3))

theorem State.coreState_runState : (s.setCoreState c x.runState).coreState c = if x.waiting = some .take ∨ x.waiting = some .give then 2 else 1 := by
  rw [State.coreState_setCoreState]
  by_cases h : x.waiting = some .take ∨ x.waiting = some .give
  · rw [if_pos h, CoreSt.runState, if_pos (by simpa using h)]
  · rw [if_neg h, CoreSt.runState, if_neg (by simpa using h)]

/-! ### PORT_READ_ARRIVAL (R112) -/

theorem exec_portReadArrival {c : Fin 32} {i : Fin 8} {r : PortRead} (hg : s.gated 0 = false) (hr : (s.core c.val).reads[i.val]? = some r)
    (hs : s.rests = true)
    (hx : ∀ p q, ({ s.core c.val with reads := (s.core c.val).reads.eraseIdx i.val }.arrive r).stalled = some (p, q) →
      ({ s.core c.val with reads := (s.core c.val).reads.eraseIdx i.val }.arrive r).stalls p q = true) :
    exec (.portReadArrival c i) s = .next ((s.setCore c.val ({ s.core c.val with reads := (s.core c.val).reads.eraseIdx i.val }.arrive r)).coreCopies c.val) := by
  have hexec : exec (.portReadArrival c i) s =
      .next (((s.setCore c.val ({ s.core c.val with reads := (s.core c.val).reads.eraseIdx i.val }.arrive r)).coreCopies c.val).runSteps 64) := by
    refine (if_neg (hg ▸ Bool.false_ne_true)).trans ?_
    rw [hr]
  rw [hexec]
  congr 1
  have hreq : ({ s.core c.val with reads := (s.core c.val).reads.eraseIdx i.val }.arrive r).stepReq = false :=
    (congrArg Prod.snd CoreSt.asked_arrive).trans (State.rests_core hs).1
  refine State.runSteps_of_rests hs (((State.unasked_of_rests hs).setCore hreq).congr State.coreCopies_cores)
    (fun k hk => State.core_coreCopies.trans (State.core_setCore_other hk)) (fun f _ => (State.SameRegs.setCore.trans .coreCopies).rd)
    State.coreCopies_clk ?_
  rw [State.unstalls, State.core_coreCopies, State.core_setCore_self]
  split
  · next p q h => rw [hx p q h, Bool.not_true, Bool.and_false]
  · rfl

end Sys2Proof.Machine
end

section
/-! PROOFS. What an access of the matrix heeds and leaves of the registers (R332, R341): its grant is the same whatever the cores and their own registers hold. -/

-- One proof at a time: the package as one text then takes less memory.
set_option Elab.async false

namespace Sys2Proof.Machine

open Sys2Proof

variable {s u : State} {g : Fld} {A p m a n v b : Nat}

/-! ### The registers that a grant leaves -/

/-- An address of neither the Cellar nor the fabric control region, whose counters and error log are all that a grant writes. -/
def OffMatrix (b : Nat) : Prop := b < 0x40500000 ∨ 0x40800000 ≤ b

theorem not_offMatrix (h1 : 0x40500000 ≤ b) (h2 : b < 0x40800000) : ¬ OffMatrix b := fun h => by
  rcases h with h | h <;> omega

theorem offMatrix_of_restRegs (h : restRegs g) : OffMatrix g.addr := by
  have hgate : 0x40800000 ≤ R.CLK_GATE_NOW_VALUE.addr := by decide
  rcases h with h | h
  · exact .inl (by omega)
  · exact .inr (h ▸ hgate)

theorem offMatrix_not_errorRegs (h : OffMatrix b) : b ∉ errorRegs := fun hb => by
  have hall : ∀ x ∈ errorRegs, 0x40500000 ≤ x ∧ x < 0x40800000 := by decide
  exact not_offMatrix (hall b hb).1 (hall b hb).2 h

theorem State.SameRegs.busError {c k : Nat} {w : Bool} : s.SameRegs OffMatrix (s.busError m c a w k) :=
  ⟨State.straps_busError, fun _ hb => State.cell_busError (offMatrix_not_errorRegs hb)⟩

theorem State.SameRegs.dramArrive {x : DramArr} : s.SameRegs OffMatrix (s.dramArrive x) := by
  unfold State.dramArrive
  repeat' split
  · exact .busError
  · exact .busError
  · exact .of_eq rfl rfl

theorem State.SameRegs.setFab {x : FabPort} : s.SameRegs OffMatrix (s.setFab p x) := .of_eq rfl rfl

theorem State.SameRegs.fabGrant : s.SameRegs OffMatrix (s.fabGrant p).2 := by
  unfold State.fabGrant
  simp only []
  split
  · exact .refl
  · exact State.SameRegs.setFab.trans (.count (not_offMatrix (by decide) (by decide)))

theorem State.SameRegs.fabServe : s.SameRegs OffMatrix (s.fabServe p).2 := by
  unfold State.fabServe
  simp only []
  split
  · exact State.SameRegs.fabGrant.trans .dramArrive
  · exact .fabGrant

theorem State.SameRegs.fabUntil : s.SameRegs OffMatrix (s.fabUntil p n) := by
  induction n generalizing s with
  | zero => exact .refl
  | succ n ih =>
    unfold State.fabUntil
    simp only []
    split
    · exact State.SameRegs.fabServe.trans ih
    · exact .fabServe

/-- A grant writes the registers of the Cellar and of the fabric alone. -/
theorem State.SameRegs.fabUse : s.SameRegs OffMatrix (s.fabUse m a) := by
  unfold State.fabUse
  split
  · exact .refl
  · exact State.SameRegs.setFab.trans .fabUntil

/-- The Cellar when a request has joined its queue. -/
def State.arrived (s : State) (x : DramArr) : Cel :=
  let p := s.dramPlace x.addr
  { s.cel with
    queue := s.cel.queue ++ [⟨s.cel.next, s.tm.raw, p.1, x.bank, x.row, p.2 / 64, x.cls.val, x.rt, x.write, s.dramHint x⟩]
    next := s.cel.next + 1
    asleep := s.cel.asleep.set 0 p.1 0 }

theorem State.dramArrive_eq {x : DramArr} : s.dramArrive x =
    if s.on R.CEL_STATUS_SR || s.clkLost 3 then s.busError x.master 0 (x.addr % 2 ^ 32) x.write 2
    else if s.dramSize ≤ x.addr then s.busError x.master 0 (x.addr % 2 ^ 32) x.write 0
    else { s with cel := s.arrived x } := rfl

/-! ### States that differ in the cores and one of their registers -/

theorem Part.same_symm {p : Part} {a b : State} (h : p.same a b) : p.same b a := by
  cases p <;> exact Eq.symm h

theorem State.same_wr {p : Part} (h : p ≠ .regs) : p.same s (s.wr g v) := by
  cases p with
  | regs => exact absurd rfl h
  | _ => rfl

/-- Two states alike in all but the cores and the register at `A`, which is one of the Drover cluster's. -/
structure State.Alike (A : Nat) (s u : State) : Prop where
  low  : A < 0x40000000
  cell : ∀ b, b ≠ A → u.regs.get 0 b = s.regs.get 0 b
  same : ∀ q, q ∉ [Part.cores, .regs] → q.same s u

section
variable (h : s.Alike A u)
include h

theorem State.Alike.straps : u.straps = s.straps := h.same .straps (by decide)
theorem State.Alike.cel : u.cel = s.cel := h.same .cel (by decide)
theorem State.Alike.fab : u.fab = s.fab := h.same .fab (by decide)
theorem State.Alike.clk : u.clk = s.clk := h.same .clk (by decide)
theorem State.Alike.tm : u.tm = s.tm := h.same .tm (by decide)
theorem State.Alike.mem : u.mem = s.mem := h.same .mem (by decide)

theorem State.Alike.rd_ne (hg : g.addr ≠ A) : u.rd g = s.rd g := State.rd_of_cell (h.cell _ hg) h.straps

theorem State.Alike.ne (hg : 0x40000000 ≤ g.addr) : g.addr ≠ A := fun e => absurd h.low (Nat.not_lt.2 (e ▸ hg))

theorem State.Alike.rd (hg : 0x40000000 ≤ g.addr) : u.rd g = s.rd g := h.rd_ne (h.ne hg)

theorem State.Alike.on (hg : 0x40000000 ≤ g.addr) : u.on g = s.on g := State.on_of_rd (h.rd hg)

theorem State.Alike.wr (hg : 0x40000000 ≤ g.addr) : (s.wr g v).Alike A (u.wr g v) where
  low := h.low
  cell b hb := by
    have hw : u.word g = s.word g := by simp only [State.word, State.rstOf, h.cell _ (h.ne hg), h.straps]
    by_cases e : b = g.addr
    · subst e
      simp only [State.wr, Cells.get_set_self, hw, State.rstOf, h.straps]
    · rw [State.cell_wr e, State.cell_wr e, h.cell b hb]
  same q hq := by
    have hr : q ≠ .regs := fun e => hq (by rw [e]; simp)
    exact Part.same_trans (Part.same_trans (Part.same_symm (State.same_wr hr)) (h.same q hq)) (State.same_wr hr)

theorem State.Alike.count (hg : 0x40000000 ≤ g.addr) : (s.count g n).Alike A (u.count g n) := by
  unfold State.count
  split
  · exact h
  · rw [h.rd hg]; exact h.wr hg

theorem State.Alike.setCel {x : Cel} : State.Alike A { s with cel := x } { u with cel := x } where
  low := h.low
  cell := h.cell
  same q hq := by
    cases q with
    | cel => rfl
    | _ => exact h.same _ hq

theorem State.Alike.setFab {x : FabPort} : (s.setFab p x).Alike A (u.setFab p x) where
  low := h.low
  cell := h.cell
  same q hq := by
    cases q with
    | fab => exact congrArg (fun f => Cells.set fabReset f p x) h.fab
    | _ => exact h.same _ hq

theorem State.Alike.busError {c k : Nat} {w : Bool} : (s.busError m c a w k).Alike A (u.busError m c a w k) := by
  have hb : (s.bump R.FAB_CNT_ERR_VALUE).Alike A (u.bump R.FAB_CNT_ERR_VALUE) := h.count (by decide)
  unfold State.busError
  simp only [hb.on (g := R.FAB_ERRINFO_VALID) (by decide)]
  split
  · exact hb
  · exact (((((hb.wr (by decide)).wr (by decide)).wr (by decide)).wr (by decide)).wr (by decide)).wr (by decide)

theorem State.Alike.celChannels : u.celChannels = s.celChannels := by
  simp only [State.celChannels, h.rd (g := R.CEL_STATUS_TRAINED) (by decide)]

theorem State.Alike.dramSize : u.dramSize = s.dramSize := by simp only [State.dramSize, h.celChannels, h.cel]

theorem State.Alike.dramPlace : u.dramPlace a = s.dramPlace a := by
  simp only [State.dramPlace, State.grain, h.celChannels, h.rd (g := R.CEL_CFG_GRAIN) (by decide)]

theorem State.Alike.dramHint {x : DramArr} : u.dramHint x = s.dramHint x := by
  simp only [State.dramHint, h.rd (g := R.CEL_HINT_CLASSk) (by decide)]

theorem State.Alike.clkLost : u.clkLost n = s.clkLost n := by simp only [State.clkLost, h.clk]

theorem State.Alike.arrived {x : DramArr} : u.arrived x = s.arrived x := by
  simp only [State.arrived, h.dramPlace, h.dramHint, h.cel, h.tm]

theorem State.Alike.dramArrive {x : DramArr} : (s.dramArrive x).Alike A (u.dramArrive x) := by
  rw [State.dramArrive_eq, State.dramArrive_eq, h.on (g := R.CEL_STATUS_SR) (by decide), h.clkLost, h.dramSize, h.arrived]
  repeat' split
  · exact h.busError
  · exact h.busError
  · exact h.setCel

theorem State.Alike.fabAt : u.fabAt p = s.fabAt p := congrArg (Cells.get fabReset · p) h.fab

theorem State.Alike.fabPick {x : FabPort} : u.fabPick x = s.fabPick x := by
  have hu : u.fabUrgent = s.fabUrgent := funext fun r => by simp only [State.fabUrgent, h.rd (g := R.FAB_PRIO_w) (by decide)]
  simp only [State.fabPick, hu]

theorem State.Alike.fabGrant : (u.fabGrant p).1 = (s.fabGrant p).1 ∧ (s.fabGrant p).2.Alike A (u.fabGrant p).2 := by
  have hp : u.fabPromoted = s.fabPromoted := funext fun r => by simp only [State.fabPromoted, h.rd (g := R.FAB_PRIO_w) (by decide)]
  unfold State.fabGrant
  simp only [h.fabAt, h.fabPick, hp]
  split
  · exact ⟨rfl, h⟩
  · exact ⟨rfl, h.setFab.count (by decide)⟩

theorem State.Alike.fabServe : (u.fabServe p).1 = (s.fabServe p).1 ∧ (s.fabServe p).2.Alike A (u.fabServe p).2 := by
  obtain ⟨h1, h2⟩ := h.fabGrant (p := p)
  unfold State.fabServe
  simp only [h1]
  split
  · exact ⟨rfl, h2.dramArrive⟩
  · exact ⟨h1, h2⟩

end

theorem State.Alike.fabUntil (h : s.Alike A u) : (s.fabUntil p n).Alike A (u.fabUntil p n) := by
  induction n generalizing s u with
  | zero => exact h
  | succ n ih =>
    obtain ⟨h1, h2⟩ := h.fabServe (p := p)
    unfold State.fabUntil
    simp only [h1]
    split
    · exact ih h2
    · exact h2

/-- A grant does to states alike what is alike. -/
theorem State.Alike.fabUse (h : s.Alike A u) : (s.fabUse m a).Alike A (u.fabUse m a) := by
  unfold State.fabUse
  split
  · exact h
  · unfold State.fabAsk
    rw [h.fabAt]
    exact h.setFab.fabUntil

/-! ### Where an address leads -/

section
variable (h : s.Alike A u)
include h

theorem State.Alike.gated : u.gated n = s.gated n := State.gated_congr (h.rd (by decide)) h.clk

theorem State.Alike.behind {x : Spot} : u.behind n x = s.behind n x := by simp only [State.behind, h.gated]

theorem State.Alike.matrixReg : u.matrixReg a = s.matrixReg a := by simp only [State.matrixReg, h.behind]

theorem State.Alike.window : u.window a = s.window a := by
  simp only [State.window, h.dramSize, h.gated, h.clkLost, h.rd (g := R.CEL_APERTURE_BASE) (by decide), h.on (g := R.CEL_STATUS_SR) (by decide)]

section
variable (hA : ∀ k, A ≠ (R.DRV_STATUS_STATE k).addr)
include hA

theorem State.Alike.droverSpot : u.droverSpot a = s.droverSpot a := by
  have hcore (k : Nat) : u.coreGated k = s.coreGated k := by
    rw [State.coreGated, State.coreState, h.rd_ne (hA k).symm, State.coreGated, State.coreState]
  simp only [State.droverSpot, State.behindCore, h.behind, h.gated, hcore]

/-- Where an address leads does not depend on the cores, but for the gate of the one it names. -/
theorem State.Alike.locate : u.locate m a = s.locate m a := by
  simp only [State.locate, h.behind, h.droverSpot hA, h.matrixReg, h.window, h.on (g := R.SYS_REMAP_SWAP) (by decide)]

end

end

end Sys2Proof.Machine
end

section
/-! PROOFS. LDWF and STWF (R53, R97, R112, R120, R128) and DRV_STEP (R117): bundles that end without event, and the statement on the controls of a core. -/

-- One proof at a time: the package as one text then takes less memory.
set_option Elab.async false

namespace Sys2Proof.Machine

open Sys2Proof

variable {s t u r : State} {a : Issue} {op : DrvOp} {c m b k n v key : Nat} {x : CoreSt} {f : FmtW} {ps : List Part}

/-! ### Words of memory (R97, R120) -/

theorem State.setBytes_mem {vs : List Byte} (h : t.mem = s.mem) : (t.setBytes b vs).mem = (s.setBytes b vs).mem := by
  induction vs generalizing s t b with
  | nil => exact h
  | cons w ws ih => exact ih (congrArg (fun q => Cells.set (α := Byte) 0#8 q b w) h)

theorem State.store_mem (h : t.mem = s.mem) : (t.store b n v).mem = (s.store b n v).mem := State.setBytes_mem h

/-- All four lanes of a word are its bytes from the address up; the lower three leave the last. -/
theorem State.putLanes_all : s.putLanes key v 15 = s.store key 4 v := by
  simp [State.putLanes, State.store, leBytes, State.setBytes, bitOf, List.range_succ, Nat.shiftRight_eq_div_pow, Nat.div_div_eq_div_mul]

theorem State.putLanes_three : s.putLanes key v 7 = s.store key 3 v := by
  simp [State.putLanes, State.store, leBytes, State.setBytes, bitOf, List.range_succ, Nat.shiftRight_eq_div_pow, Nat.div_div_eq_div_mul]

/-- No word is written there: the ring area, and an instruction memory that is locked. -/
def State.Barred (s : State) (key : Nat) : Prop :=
  0x20000000 ≤ key ∧ key < 0x20500000 ∨ 0x30800000 ≤ key ∧ key < 0x30A00000 ∧ s.on R.DRV_CL_CTRL_LOCK = true

/-- The last word of a core's local memory, which has three bytes. -/
def LastWord (key : Nat) : Prop := 0x30000000 ≤ key ∧ key < 0x30800000 ∧ key % 0x40000 = 0x3FFFC

theorem State.memWrite_barred (h : s.Barred key) : s.memWrite key v 15 = s := by
  unfold State.memWrite
  rcases h with ⟨h1, h2⟩ | ⟨h1, h2, hl⟩
  · rw [if_pos (by simp [h1, h2])]
  · rw [if_neg (by simp; omega), if_neg (by simp; omega), if_pos (by simp [h1, h2, hl])]

theorem State.memWrite_lastWord (h : LastWord key) : s.memWrite key v 15 = s.store key 3 v := by
  obtain ⟨h1, h2, h3⟩ := h
  unfold State.memWrite
  rw [if_neg (by simp; omega), if_pos (by simp [h1, h2, h3]), ← State.putLanes_three]

theorem State.memWrite_word (hb : ¬ s.Barred key) (hs : ¬ LastWord key) : s.memWrite key v 15 = s.store key 4 v := by
  unfold State.Barred LastWord at *
  unfold State.memWrite
  rw [if_neg (by simp; omega), if_neg (by simp; omega), if_neg (by simp only [Bool.and_eq_true, decide_eq_true_eq]; tauto), State.putLanes_all]

/-- What the write of a whole word leaves of the memory, said of an earlier state with the same memory and lock. -/
theorem State.mem_memWrite (hm : t.mem = s.mem) (hl : t.on R.DRV_CL_CTRL_LOCK = s.on R.DRV_CL_CTRL_LOCK) :
    (s.Barred key → (t.memWrite key v 15).mem = s.mem) ∧ (¬ s.Barred key → LastWord key → (t.memWrite key v 15).mem = (s.store key 3 v).mem) ∧
      (¬ s.Barred key → ¬ LastWord key → (t.memWrite key v 15).mem = (s.store key 4 v).mem) := by
  have hbar : t.Barred key ↔ s.Barred key := by rw [State.Barred, State.Barred, hl]
  refine ⟨fun hb => ?_, fun _ hs => ?_, fun hb hs => ?_⟩
  · rw [State.memWrite_barred (hbar.2 hb), hm]
  · rw [State.memWrite_lastWord hs, State.store_mem hm]
  · rw [State.memWrite_word (hbar.not.2 hb) hs, State.store_mem hm]

/-! ### What a bundle has done so far -/

/-- A bundle of core `c` runs from `b` and has come to `r`: the core is `x`, the bundle is counted, nothing else is changed but the parts `ps`, and no core
is asked for a step. -/
structure State.Ran (b r : State) (c : Nat) (x : CoreSt) (ps : List Part) : Prop where
  core    : r.core c = x
  other   : ∀ k, k ≠ c → r.core k = b.core k
  cell    : ∀ q, q ≠ (R.DRV_CNT_BUNDLE_VALUE c).addr → r.regs.get 0 q = b.regs.get 0 q
  count   : r.rd (R.DRV_CNT_BUNDLE_VALUE c) = min 0xFFFFFFFF (b.rd (R.DRV_CNT_BUNDLE_VALUE c) + 1)
  same    : ∀ p, p ∉ [Part.cores, .regs] ++ ps → p.same b r
  fixed   : Part.straps ∉ ps ∧ Part.clk ∉ ps
  req     : x.stepReq = false
  unasked : r.Unasked

theorem State.fabUse_cores : (s.fabUse m b).cores = s.cores := (State.fabUse_good s m b).same .cores rfl

theorem State.fabUse_clk : (s.fabUse m b).clk = s.clk := (State.fabUse_good s m b).same .clk rfl

theorem State.fabUse_mem : (s.fabUse m b).mem = s.mem := (State.fabUse_good s m b).same .mem rfl

/-- A bundle that issues is counted, and its core stalls no longer. -/
theorem State.ran_readied (hu : s.Unasked) (hreq : (s.core c).stepReq = false) : s.Ran (s.readied c) c { s.core c with stalled := none } [] where
  core := State.readied_core
  other _ := State.readied_core_other
  cell _ hq := State.cell_bump hq
  count := State.rd_readied_bundle
  same p hp := Part.same_trans (State.same_setCore fun e => hp (by rw [e]; simp)) (State.same_bump fun e => hp (by rw [e]; simp))
  fixed := ⟨nofun, nofun⟩
  req := hreq
  unasked := (hu.setCore (c := c) (x := { s.core c with stalled := none }) hreq).congr State.bump_cores

section
variable (h : u.Ran r c x ps)
include h

theorem State.Ran.straps : r.straps = u.straps := h.same .straps (by simpa using h.fixed.1)

theorem State.Ran.clk : r.clk = u.clk := h.same .clk (by simpa using h.fixed.2)

theorem State.Ran.rd {g : Fld} (hg : g.addr ≠ (R.DRV_CNT_BUNDLE_VALUE c).addr) : r.rd g = u.rd g := State.rd_of_cell (h.cell _ hg) h.straps

theorem State.Ran.setCore {y : CoreSt} (hy : y.stepReq = false) : u.Ran (r.setCore c y) c y ps where
  core := State.core_setCore_self
  other k hk := (State.core_setCore_other hk).trans (h.other k hk)
  cell := h.cell
  count := (State.rd_congr rfl rfl).trans h.count
  same p hp := Part.same_trans (h.same p hp) (State.same_setCore fun e => hp (by rw [e]; simp))
  fixed := h.fixed
  req := hy
  unasked := h.unasked.setCore hy

/-- The bundle is over. -/
theorem State.Ran.finish : u.Ran (r.setCore c (r.core c).finish) c x.finish ps := by
  have hreq : x.finish.stepReq = false := (congrArg Prod.snd CoreSt.asked_finish).trans h.req
  rw [h.core]
  exact h.setCore hreq

theorem State.Ran.again : u.Ran (r.setCore c (r.core c)) c x ps := by
  rw [h.core]
  exact h.setCore h.req

/-- A port read joins those outstanding. -/
theorem State.Ran.addRead {ws : List Wr} : u.Ran (r.addRead c ws) c { x with reads := x.reads ++ [⟨ws⟩] } ps := by
  unfold State.addRead
  rw [h.core]
  exact h.setCore h.req

/-- With the copies of SR taken, the bundle is over as `coreGoes` says. -/
theorem State.Ran.coreGoes (hc : c < 32) : u.coreGoes c x [] ps (r.coreCopies c) := by
  refine ⟨State.core_coreCopies.trans h.core, fun k hk => State.core_coreCopies.trans (h.other k hk), ?_, by rw [State.asat_coreCopies hc, h.core],
    by rw [State.ssat_coreCopies hc, h.core], fun g i h1 h2 h3 => ?_, fun p hp => ?_⟩
  · rw [State.rd_coreCopies (by rw [addr_bundle]; omega) (by rw [addr_bundle]; omega), h.count]
  · have hw : r.word g = u.word g := by simp only [State.word, State.rstOf, h.cell _ h1, h.straps]
    rw [State.testBit_coreCopies (fun e => by simpa using h2 e) h3, hw]
  · exact Part.same_trans (h.same p hp) (State.same_coreCopies fun e => hp (by rw [e]; simp))

end

/-- As long as a bundle has changed no part but its core and counter, what the matrix heeds is as it was. -/
theorem State.Ran.alike (h : s.Ran r c x []) (hc : c < 32) : s.Alike (R.DRV_CNT_BUNDLE_VALUE c).addr r where
  low := by rw [addr_bundle]; omega
  cell := h.cell
  same := h.same

theorem State.Ran.locate (h : s.Ran r c x []) (hc : c < 32) : r.locate m b = s.locate m b :=
  (h.alike hc).locate fun k => show 0x30800040 + 65536 * c ≠ 0x30800004 + 65536 * k by omega

/-- The bundle's access takes the grant that it would have taken before. -/
theorem State.Ran.fabUse (h : s.Ran r c x []) (hc : c < 32) : (s.fabUse m b).Ran (r.fabUse m b) c x [] where
  core := (State.core_congr State.fabUse_cores).trans h.core
  other k hk := by rw [State.core_congr State.fabUse_cores, h.other k hk, State.core_congr State.fabUse_cores]
  cell := (h.alike hc).fabUse.cell
  count := by
    have hoff : OffMatrix (R.DRV_CNT_BUNDLE_VALUE c).addr := .inl (by rw [addr_bundle]; omega)
    rw [State.SameRegs.fabUse.rd hoff, State.SameRegs.fabUse.rd hoff, h.count]
  same := (h.alike hc).fabUse.same
  fixed := h.fixed
  req := h.req
  unasked := h.unasked.congr State.fabUse_cores

theorem State.Ran.memWrite (h : s.Ran r c x []) : s.Ran (r.memWrite key v n) c x [.mem] := by
  have hgood := State.memWrite_good r key v n
  have hsame (p : Part) (hp : p ≠ .mem) : p.same r (r.memWrite key v n) := hgood.same_off [.mem] rfl (by simpa using hp)
  exact {
    core := (State.core_congr (hsame .cores nofun)).trans h.core
    other := fun k hk => (State.core_congr (hsame .cores nofun)).trans (h.other k hk)
    cell := fun q hq => (congrArg (Cells.get 0 · q) (hsame .regs nofun)).trans (h.cell q hq)
    count := (State.rd_congr (hsame .regs nofun) (hsame .straps nofun)).trans h.count
    same := fun p hp => Part.same_trans (h.same p fun e => hp (List.mem_append_left _ e)) (hsame p fun e => hp (by rw [e]; simp))
    fixed := ⟨by simp, by simp⟩
    req := h.req
    unasked := h.unasked.congr (hsame .cores nofun) }

/-! ### A bundle issued alone that takes its grant -/

section
variable (h : s.issuesAlone a op)
include h

/-- An instruction that may not stand in slot 0 issues in slot 1. -/
theorem State.issuesAlone_slot1 (ho : DrvOp.slotOk false op = false) : Issue.slots a op = (.nop, op) := by
  obtain ⟨-, -, -, -, -, -, hl, -⟩ := h
  obtain ⟨-, -, h0, -⟩ := CoreSt.legal hl
  cases hs : a.slot1
  · rw [hs, if_neg Bool.false_ne_true, ho] at h0
    exact absurd h0 Bool.false_ne_true
  · simp [Issue.slots, hs]

theorem State.issuesAlone_trap : (s.core a.core.val).trap = none := by
  obtain ⟨-, -, ht, -⟩ := h
  exact ht

theorem State.issuesAlone_stalled : (s.core a.core.val).stalled = none := by
  obtain ⟨-, hi, -⟩ := h
  unfold State.issues at hi
  simp only [Bool.and_eq_true, Option.isNone_iff_eq_none] at hi
  exact hi.2

theorem State.issuesAlone_ran : s.Ran (s.readied a.core.val) a.core.val (s.core a.core.val) [] := by
  have hstall := State.issuesAlone_stalled h
  obtain ⟨-, -, -, -, -, hs, -⟩ := h
  have hran := State.ran_readied (State.unasked_of_rests hs) (State.rests_core (k := a.core.val) hs).1
  rwa [← hstall] at hran

/-- The command of an instruction of slot 1 whose bundle takes its grant: its core is the one at issue but for what the bundle does, and nothing happens at its end. -/
theorem State.command_access (ho : DrvOp.slotOk false op = false) (hrun : (s.readied a.core.val).runBundle a.core.val .nop op = r)
    (hr : (s.fabUse m b).Ran r a.core.val x.finish ps)
    (hx : x.trap = none ∧ x.dbgPend = (s.core a.core.val).dbgPend ∧ x.stalled = (s.core a.core.val).stalled) :
    s.command a op = r.coreCopies a.core.val := by
  have hslots := State.issuesAlone_slot1 h ho
  have hstall := State.issuesAlone_stalled h
  rw [State.command_alone h, hslots]
  obtain ⟨-, -, -, hd, hb, hs, hl, hst⟩ := h
  have hl : (s.core a.core.val).illegal (Issue.slots a op).1 (Issue.slots a op).2 = false := hl
  have hst : (s.core a.core.val).stalls (Issue.slots a op).1 (Issue.slots a op).2 = false := hst
  rw [hslots] at hl hst
  obtain ⟨htrap, hdbg, -, hstalled⟩ := CoreSt.finish_quiet hx.1
  have hrest (g : Fld) (hg : restRegs g) (hne : g.addr ≠ (R.DRV_CNT_BUNDLE_VALUE a.core.val).addr) : r.rd g = s.rd g :=
    (hr.rd hne).trans (State.SameRegs.fabUse.rd (offMatrix_of_restRegs hg))
  have hbreak : r.breaksAt a.core.val (s.core a.core.val).pc = false := by
    rw [← hb]
    refine State.breaksAt_congr fun i hi => ⟨hrest _ (.inl ?_) ?_, hrest _ (.inl ?_) ?_⟩
    all_goals simp only [addr_bkpt_en, addr_bkpt, addr_bundle]; omega
  rw [State.issue_quiet hl hst (by rw [hrun, hr.core, htrap]) (by rw [hrun, hr.core, hdbg, hx.2.1, hd]) (by rw [hrun, hbreak]), hrun,
    State.runSteps_of_rests hs]
  · exact hr.unasked.congr State.coreCopies_cores
  · intro k hk
    rw [State.core_coreCopies, hr.other k hk, State.core_congr State.fabUse_cores]
  · intro g hg hf
    rw [State.SameRegs.coreCopies.rd hf]
    exact hrest g hg fun e => hf (e ▸ by simp [ownRegs, addr_bundle])
  · rw [State.coreCopies_clk, hr.clk, State.fabUse_clk]
  · exact State.unstalls_none (by rw [State.core_coreCopies, hr.core, hstalled, hx.2.2, hstall])

end

/-! ### LDWF -/

theorem State.busRead_mem (hl : s.locate m b = .mem key) : s.busRead m c b = (s.load key 4, s.fabUse m b) := by
  have hload : (s.fabUse m b).load key 4 = s.load key 4 := congrArg ofLeBytes (State.bytes_congr State.fabUse_mem)
  unfold State.busRead
  simp only [hl, State.spotRead, hload]

/-- LDWF in its bundle: a read that joins those outstanding. -/
theorem State.runBundle_ldwf (hl : (s.setCore c (s.core c)).locate (c / 8) ((s.core c).wordAddr f) = .mem key)
    (ht : t = ((s.setCore c (s.core c)).fabUse (c / 8) ((s.core c).wordAddr f)).addRead c [.x f.xd.toNat (s.load key 4)]) :
    s.runBundle c .nop (.ldwf f) = t.setCore c (t.core c).finish := by
  have hread : (s.setCore c (s.core c)).busRead (c / 8) c ((s.core c).wordAddr f) =
      (s.load key 4, (s.setCore c (s.core c)).fabUse (c / 8) ((s.core c).wordAddr f)) := State.busRead_mem hl
  have hfly : (s.core c).fly ((s.core c).regRes .nop ++ [] ++ (s.core c).regRes (.ldwf f) ++ []) = s.core c := CoreSt.fly_nil
  unfold State.runBundle
  simp only [State.doMem, hfly, State.doPort, hread, State.raise, ht]
  rfl

theorem drvLdwf_reads (h : s.issuesAlone a (.ldwf f)) (hl : s.locate (a.core.val / 8) ((s.core a.core.val).wordAddr f) = .mem key) :
    ∃ t : State, exec (.drvLdwf a f) s = .next t ∧ (s.fabUse (a.core.val / 8) ((s.core a.core.val).wordAddr f)).coreGoes a.core.val
      ({ s.core a.core.val with reads := (s.core a.core.val).reads ++ [PortRead.mk [.x f.xd.toNat (s.load key 4)]] }).finish [] [] t := by
  have hran := State.issuesAlone_ran h
  have hload : (s.readied a.core.val).load key 4 = s.load key 4 := congrArg ofLeBytes (State.bytes_congr (hran.same .mem (by decide)))
  have hrun := State.runBundle_ldwf (s := s.readied a.core.val) (c := a.core.val) (f := f) (key := key)
    (by rw [hran.again.locate a.core.isLt, hran.core]; exact hl) rfl
  rw [hran.core, hload] at hrun
  have hread := ((hran.setCore hran.req).fabUse (m := a.core.val / 8) (b := (s.core a.core.val).wordAddr f) a.core.isLt).addRead
    (ws := [.x f.xd.toNat (s.load key 4)])
  have hcmd := State.command_access h rfl hrun hread.finish ⟨State.issuesAlone_trap h, rfl, rfl⟩
  exact ⟨_, congrArg Host.Outcome.next hcmd, hread.finish.coreGoes a.core.isLt⟩

/-! ### STWF -/

theorem State.busWrite_memWrite (hm : m ≠ mBellwether) (hl : s.locate m b = .mem key) :
    s.busWrite m c b v 15 = (s.fabUse m b).memWrite key v 15 := by
  unfold State.busWrite
  rw [State.voted_quiet (.inl hm)]
  simp only [hl, State.spotWrite]

/-- STWF in its bundle: a word written, and nothing else. -/
theorem State.runBundle_stwf (ht : t = s.busWrite (c / 8) c ((s.core c).wordAddr f) ((s.core c).xr f.xd.toNat) 15) (hcore : t.core c = s.core c) :
    s.runBundle c .nop (.stwf f) = (t.setCore c (s.core c)).setCore c (s.core c).finish := by
  have hfly : (s.core c).fly ((s.core c).regRes .nop ++ [] ++ (s.core c).regRes (.stwf f) ++ []) = s.core c := CoreSt.fly_nil
  unfold State.runBundle
  simp only [State.doMem, ← ht, hcore, hfly, State.doPort, State.raise, State.core_setCore_self]
  rfl

theorem drvStwf_writes (h : s.issuesAlone a (.stwf f)) (hl : s.locate (a.core.val / 8) ((s.core a.core.val).wordAddr f) = .mem key) :
    ∃ t : State, exec (.drvStwf a f) s = .next t ∧
      (s.fabUse (a.core.val / 8) ((s.core a.core.val).wordAddr f)).coreGoes a.core.val (s.core a.core.val).finish [] [.mem] t ∧
      (s.Barred key → t.mem = s.mem) ∧ (¬ s.Barred key → LastWord key → t.mem = (s.store key 3 ((s.core a.core.val).xr f.xd.toNat)).mem) ∧
      (¬ s.Barred key → ¬ LastWord key → t.mem = (s.store key 4 ((s.core a.core.val).xr f.xd.toNat)).mem) := by
  have hran := State.issuesAlone_ran h
  have hgrant := hran.fabUse (m := a.core.val / 8) (b := (s.core a.core.val).wordAddr f) a.core.isLt
  have hwrite := hgrant.memWrite (key := key) (v := (s.core a.core.val).xr f.xd.toNat) (n := 15)
  have hbus := State.busWrite_memWrite (c := a.core.val) (v := (s.core a.core.val).xr f.xd.toNat) (show a.core.val / 8 ≠ 6 by omega)
    ((hran.locate a.core.isLt).trans hl)
  have hrun := State.runBundle_stwf (s := s.readied a.core.val) (c := a.core.val) (f := f) rfl (by rw [hran.core, hbus, hwrite.core])
  rw [hran.core, hbus] at hrun
  have hend := (hwrite.setCore hran.req).finish
  rw [State.core_setCore_self] at hend
  have hcmd := State.command_access h rfl hrun hend ⟨State.issuesAlone_trap h, rfl, rfl⟩
  have hmem : ((s.readied a.core.val).fabUse (a.core.val / 8) ((s.core a.core.val).wordAddr f)).mem = s.mem :=
    State.fabUse_mem.trans (hran.same .mem (by decide))
  have hlock : ((s.readied a.core.val).fabUse (a.core.val / 8) ((s.core a.core.val).wordAddr f)).on R.DRV_CL_CTRL_LOCK = s.on R.DRV_CL_CTRL_LOCK :=
    State.on_of_rd ((State.SameRegs.fabUse.rd (.inl (by decide))).trans (hran.rd (show 0x30A00000 ≠ 0x30800040 + 65536 * a.core.val by omega)))
  refine ⟨_, congrArg Host.Outcome.next hcmd, hend.coreGoes a.core.isLt, ?_⟩
  rw [State.coreCopies_mem, State.setCore_mem, State.setCore_mem]
  exact State.mem_memWrite hmem hlock

/-! ### DRV_STEP (R117) -/

theorem State.runBundle_nops : s.runBundle c .nop .nop = (s.setCore c (s.core c)).setCore c (s.core c).finish := by
  have hfly : (s.core c).fly ((s.core c).regRes .nop ++ (s.core c).regRes .nop) = s.core c := CoreSt.fly_nil
  rw [State.runBundle_regOnly rfl rfl, hfly]

/-- A core after a bundle that does nothing itself: it stalls no longer, and the bundle is over. -/
def CoreSt.stepped (x : CoreSt) : CoreSt := { x with stalled := none }.finish

theorem CoreSt.asked_stepped : x.stepped.asked = x.asked := CoreSt.asked_finish

theorem CoreSt.quiet_stepped (h : x.trap = none) : x.stepped.trap = none ∧ x.stepped.dbgPend = x.dbgPend :=
  have hq := CoreSt.finish_quiet (x := { x with stalled := none }) h
  ⟨hq.1, hq.2.1⟩

theorem CoreSt.stalls_nops : x.stalls .nop .nop = false := rfl

theorem decodeDrv_zero : decodeDrv 0 = .nop := by decide

/-- With no breakpoint armed, none stands at a bundle. -/
theorem State.breaksAt_disarmed (h : ∀ i, i < 4 → s.on (R.DRV_BKPT_EN c i) = false) : s.breaksAt c n = false := by
  rw [State.breaksAt, List.any_eq_false]
  intro i hi
  simp [h i (List.mem_range.mp hi)]

theorem foreign_bkpt {i : Nat} (hi : i < 4) : Foreign c (R.DRV_BKPT_EN c i).addr := by
  simp only [Foreign, ownRegs, addr_bkpt_en, List.mem_cons, List.not_mem_nil, or_false, not_or]
  omega

/-- A bundle of NOPs: it is counted and its core goes on. -/
def State.nopBundle (s : State) (c : Nat) : State := ((s.readied c).runBundle c .nop .nop).coreCopies c

section
variable (hu : s.Unasked) (hreq : (s.core c).stepReq = false)
include hu hreq

theorem State.ran_nopBundle : s.Ran ((s.readied c).runBundle c .nop .nop) c (s.core c).stepped [] := by
  rw [State.runBundle_nops]
  have hran := (State.ran_readied hu hreq).again.finish
  rwa [State.core_setCore_self] at hran

theorem State.core_nopBundle : (s.nopBundle c).core c = (s.core c).stepped :=
  State.core_coreCopies.trans (State.ran_nopBundle hu hreq).core

theorem State.core_nopBundle_other (h : k ≠ c) : (s.nopBundle c).core k = s.core k :=
  State.core_coreCopies.trans ((State.ran_nopBundle hu hreq).other k h)

theorem State.SameRegs.nopBundle : s.SameRegs (Foreign c) (s.nopBundle c) :=
  have hran := State.ran_nopBundle hu hreq
  State.SameRegs.trans ⟨hran.straps, fun q hq => hran.cell q fun e => hq (e ▸ by simp [ownRegs, addr_bundle])⟩ .coreCopies

theorem State.coreState_nopBundle (hc : c < 32) : (s.nopBundle c).coreState c = s.coreState c :=
  (State.coreState_coreCopies hc).trans
    ((State.ran_nopBundle hu hreq).rd (show 0x30800004 + 65536 * c ≠ 0x30800040 + 65536 * c by omega))

theorem State.clk_nopBundle : (s.nopBundle c).clk = s.clk := State.coreCopies_clk.trans (State.ran_nopBundle hu hreq).clk

theorem State.unasked_nopBundle : (s.nopBundle c).Unasked := (State.ran_nopBundle hu hreq).unasked.congr State.coreCopies_cores

/-- With no fault or debug interrupt pending and no breakpoint armed, that is all a bundle of NOPs does. -/
theorem State.issue_nops (ht : (s.core c).trap = none) (hd : (s.core c).dbgPend = false) (hb : ∀ i, i < 4 → s.on (R.DRV_BKPT_EN c i) = false)
    (hl : (s.core c).illegal .nop .nop = false) : s.issue c .nop .nop = s.nopBundle c := by
  have hran := State.ran_nopBundle hu hreq
  obtain ⟨htrap, hdbg⟩ := CoreSt.quiet_stepped ht
  refine State.issue_quiet hl CoreSt.stalls_nops (by rw [hran.core, htrap]) (by rw [hran.core, hdbg, hd])
    (State.breaksAt_disarmed fun i hi => (State.on_of_rd (hran.rd ?_)).trans (hb i hi))
  rw [addr_bkpt_en, addr_bundle]
  omega

end

/-- A halted core that runs one bundle of NOPs, drains, and is halted again. -/
def State.nopStep (s : State) (c : Nat) : State :=
  ((((s.setCoreState c 1).nopBundle c).setCore c (s.core c).stepped.drain).setCoreState c 3).coreCopies c

section
variable (h3 : s.coreState c = 3) (hw : (s.core c).waiting = none) (ht : (s.core c).trap = none) (hd : (s.core c).dbgPend = false)
  (hb : ∀ i, i < 4 → s.on (R.DRV_BKPT_EN c i) = false) (hs : s.rests = true) (hl : (s.core c).illegal .nop .nop = false)

include h3 hw ht hd hb hs hl in
theorem State.stepCore_nops (hc : c < 32) (h0 : s.load (0x30808000 + c * 0x10000 + 8 * (s.core c).pc) 4 = 0)
    (h1 : s.load (0x30808000 + c * 0x10000 + 8 * (s.core c).pc + 4) 4 = 0) : s.stepCore c = s.nopStep c := by
  have hu : (s.setCoreState c 1).Unasked := (State.unasked_of_rests hs).congr rfl
  have hreq : ((s.setCoreState c 1).core c).stepReq = false := (State.rests_core hs).1
  have hissue : (s.setCoreState c 1).issue c .nop .nop = (s.setCoreState c 1).nopBundle c :=
    State.issue_nops hu hreq ht hd (fun i hi => (State.SameRegs.setCoreState.on (foreign_bkpt hi)).trans (hb i hi)) hl
  have hcore : ((s.setCoreState c 1).nopBundle c).core c = (s.core c).stepped := State.core_nopBundle hu hreq
  have hstate : ((s.setCoreState c 1).nopBundle c).coreState c = 1 := (State.coreState_nopBundle hu hreq hc).trans State.coreState_setCoreState
  have hwait : (s.core c).stepped.waiting = none := (congrArg Prod.fst CoreSt.asked_stepped).trans hw
  have hrun : (s.core c).runState = 1 := by simp [CoreSt.runState, hw]
  have hload (b : Nat) : (s.setCoreState c 1).load b 4 = s.load b 4 := rfl
  unfold State.stepCore
  simp only [h3, hrun, State.core_setCoreState, hw, hload, h0, h1, decodeDrv_zero, hissue, hstate, hcore, hwait, State.nopStep]
  simp

include hs in
theorem State.core_nopStep_other (h : k ≠ c) : (s.nopStep c).core k = s.core k := by
  have hu : (s.setCoreState c 1).Unasked := (State.unasked_of_rests hs).congr rfl
  have hreq : ((s.setCoreState c 1).core c).stepReq = false := (State.rests_core hs).1
  rw [State.nopStep, State.core_coreCopies, State.core_setCoreState, State.core_setCore_other h, State.core_nopBundle_other hu hreq h,
    State.core_setCoreState]

include hs in
theorem exec_drvStep {i : Fin 32} (hi : i.val = c) (hstep : s.stepCore c = s.nopStep c) : exec (.drvStep i) s = .next (s.nopStep c) := by
  have hu : (s.setCoreState c 1).Unasked := (State.unasked_of_rests hs).congr rfl
  have hreq : ((s.setCoreState c 1).core c).stepReq = false := (State.rests_core hs).1
  have hdrain : (s.core c).stepped.drain.stepReq = false :=
    (congrArg Prod.snd (CoreSt.asked_drain.trans CoreSt.asked_stepped)).trans hreq
  have hquiet : (s.nopStep c).runSteps 64 = s.nopStep c := by
    refine State.runSteps_of_rests (c := c) hs ?_ (fun k hk => ?_) (fun g _ => State.SameRegs.rd (P := Foreign c) ?_) ?_ (State.unstalls_none ?_)
    · exact ((State.unasked_nopBundle hu hreq).setCore hdrain).congr (State.coreCopies_cores.trans State.wr_cores)
    · exact State.core_nopStep_other hs hk
    · exact (((State.SameRegs.setCoreState.trans (.nopBundle hu hreq)).trans .setCore).trans .setCoreState).trans .coreCopies
    · rw [State.nopStep, State.coreCopies_clk, State.setCoreState, State.wr_clk, State.setCore_clk, State.clk_nopBundle hu hreq, State.setCoreState,
        State.wr_clk]
    · rw [State.nopStep, State.core_coreCopies, State.core_setCoreState, State.core_setCore_self]
      exact CoreSt.stalled_drain
  rw [← hquiet, ← hstep, ← hi]
  rfl

include hs in
theorem State.nopStep_spec (hc : c < 32) : (s.nopStep c).coreState c = 3 ∧ (s.nopStep c).core c = (s.core c).stepped.drain ∧
    ∀ d, d ≠ c → (s.nopStep c).core d = s.core d := by
  refine ⟨?_, ?_, fun d => State.core_nopStep_other hs⟩
  · rw [State.nopStep, State.coreState_coreCopies hc, State.coreState_setCoreState]
  · rw [State.nopStep, State.core_coreCopies, State.core_setCoreState, State.core_setCore_self]

end

/-! ### The statement -/

theorem drvCoreReset_spec {c : Fin 32} (hg : s.gated 0 = false) :
    ∃ t : State, exec (.drvCoreReset c) s = .next t ∧ (∀ d, d ≠ c.val → t.core d = s.core d) ∧
      (s.coreState c.val ≠ 5 → t.core c.val = coreReset ∧ t.coreState c.val = b2n (s.on (R.DRV_CTRL_RUN c.val))) ∧
      (s.coreState c.val = 5 → t.core c.val = { coreReset with heldState := b2n (s.on (R.DRV_CTRL_RUN c.val)) } ∧ t.coreState c.val = 5) ∧
      t.on (R.DRV_CTRL_RUN c.val) = s.on (R.DRV_CTRL_RUN c.val) ∧ t.inRot c.val = s.inRot c.val ∧
      ((s.core c.val).task = none → t.ost = s.ost) ∧ ∀ p, p ∉ [Part.cores, .regs, .ost] → Part.same p s t :=
  ⟨_, exec_drvCoreReset hg, fun _ => State.core_resetCore_other, State.resetCore_clocked c.isLt, State.resetCore_gated c.isLt,
    State.on_of_rd (State.ctrl_resetCore c.isLt rfl), State.on_of_rd (State.ctrl_resetCore c.isLt rfl), State.ost_resetCore,
    fun _ => (State.resetCore_good s c.val).same_off [.cores, .regs, .ost] rfl⟩

theorem coreRun_spec {c : Fin 32} (hg : s.gated 0 = false) (hs : s.rests = true) (hx : (s.core c.val).stalled = none) :
    ∃ t : State, exec (.coreRun c) s = .next t ∧ t.on (R.DRV_CTRL_RUN c.val) = true ∧
      t.coreState c.val = (if s.coreState c.val = 0 then 1 else s.coreState c.val) ∧
      t.core c.val = (if s.coreState c.val = 5 ∧ (s.core c.val).heldState = 0 then { s.core c.val with heldState := 1 } else s.core c.val) ∧
      (∀ d, d ≠ c.val → t.core d = s.core d) ∧ ∀ p, p ∉ [Part.cores, .regs] → Part.same p s t :=
  ⟨_, exec_coreRun hg hs hx, State.on_setRun, State.coreState_setRun, State.core_setRun, fun _ => State.core_setRun_other,
    fun _ => (State.setRun_good s c.val true).same_off [.cores, .regs] rfl⟩

/-- Settles O22: a control by what it leaves of its core, the others standing as they were; LDWF and STWF by the bundle that takes the grant it would have
taken before it. -/
theorem droverControlAndMatrix : Obligations.DroverControlAndMatrix := by
  unfold Obligations.DroverControlAndMatrix
  refine ⟨fun s c => drvCoreReset_spec, fun s c => coreRun_spec, fun s c hg hr => ⟨fun hd hrot => ?_, fun hd hrot hm => ?_, fun hd ht hi => ?_⟩,
    fun s c h3 hw ht hd hb hs hl h0 h1 => ?_, fun s c hg h3 => ?_, fun s c i r hg hr hs hx => ?_, fun s a f key => drvLdwf_reads,
    fun s a f key => drvStwf_writes⟩
  · exact ⟨_, (exec_haltReq hg hr).trans (congrArg Host.Outcome.next (State.askHalt_halts hd hrot)), State.haltNow_spec c.isLt⟩
  · exact ⟨_, (exec_haltReq hg hr).trans (congrArg Host.Outcome.next (State.askHalt_refused hd hrot hm)),
      State.on_flag_self (by simp [R.DRV_STATUS_HREF]), State.coreState_href, fun _ => (State.flag_good _ _).same_off_regs⟩
  · exact ⟨_, (exec_haltReq hg hr).trans (congrArg Host.Outcome.next (State.askHalt_interrupts hd ht hi)), State.core_setCore_self,
      fun _ => State.same_setCore⟩
  · exact ⟨_, exec_drvStep hs rfl (State.stepCore_nops h3 hw ht hd hb hs hl c.isLt h0 h1), State.nopStep_spec hs c.isLt⟩
  · exact ⟨_, exec_drvResume hg h3, State.coreState_runState, fun _ => (State.setCoreState_good _ _ _).same_off_regs⟩
  · refine ⟨_, exec_portReadArrival hg hr hs hx, State.core_coreCopies.trans State.core_setCore_self,
      fun d hd => State.core_coreCopies.trans (State.core_setCore_other hd), fun p hp => ?_⟩
    exact Part.same_trans (State.same_setCore fun e => hp (by rw [e]; simp)) (State.same_coreCopies fun e => hp (by rw [e]; simp))

end Sys2Proof.Machine
end

section
/-! PROOFS. The filter commands (R80, R81, R87, R90, R305): taps of a staging set, installs and exports as long operations of a port, the slots of
identification. -/

-- One proof at a time: the package as one text then takes less memory.
set_option Elab.async false

namespace Sys2Proof.Machine

open Sys2Proof

section
variable {s t a : State} {h : Hdr} {d : OpInfo} {i j n o p q : Nat}

/-- A long operation without a timed form whose own checks pass: it acts on the state it was accepted in, and its reply is still to come. -/
theorem State.receive_long {chk : State → Nat → OpCheck} {run : State → Nat → State × Option (Status × List Byte)}
    (ht : s.takes h d i a) (hd : d.timed = .no) (hc : chk a i = ⟨true, true, false, .ok⟩) (hr : run a i = (t, none)) : s.receive h d chk run = t := by
  rw [State.receive_takes ht (by rw [hc]) (by rw [hc]) (by rw [hc]) (by rw [hc]), State.takes_untimed ht hd, State.takePlace_false, hr]

theorem firstBad_append_ok {ss ts : List Status} (hs : firstBad ss = .ok) : firstBad (ss ++ ts) = firstBad ts := by
  induction ss with
  | nil => rfl
  | cons st ss ih =>
    cases st with
    | ok => exact ih hs
    | _ => exact nomatch hs

/-! ### Taps of a staging set (R80, R305) -/

section
variable {f : FirSet} {k : Nat} {v : BitVec 24} {vs : List (BitVec 24)}

theorem FirSet.load_len : (f.load k vs).len = f.len := by
  induction vs generalizing f k with
  | nil => rfl
  | cons v vs ih => exact ih

/-- Taps below the first one written stay. -/
theorem FirSet.load_taps_below (hj : j < k) : (f.load k vs).taps.get 0 j = f.taps.get 0 j := by
  induction vs generalizing f k with
  | nil => rfl
  | cons v vs ih => exact (ih (Nat.lt_succ_of_lt hj)).trans (Cells.get_set_other (Nat.ne_of_lt hj))

theorem FirSet.load_taps (hv : vs[j]? = some v) : (f.load k vs).taps.get 0 (k + j) = signedOf 18 (bits18 v) := by
  induction vs generalizing f k j with
  | nil => exact nomatch hv
  | cons u us ih =>
    cases j with
    | zero =>
      obtain rfl : u = v := by simpa using hv
      exact (FirSet.load_taps_below (Nat.lt_succ_self k)).trans Cells.get_set_self
    | succ j =>
      rw [← Nat.succ_add_eq_add_succ]
      exact ih (by simpa using hv)

theorem State.stagingOf_setStagingOf : (s.setStagingOf o f).stagingOf n = if n = o then f else s.stagingOf n := Cells.get_set

theorem State.stagingOf_congr (hm : t.mix = s.mix) : t.stagingOf n = s.stagingOf n := by rw [State.stagingOf, hm, State.stagingOf]

end

/-- The taps are in the staging set of their output, and the set is queued for the partner. -/
def State.loadStaging (s : State) (o l first : Nat) (taps : List (BitVec 24)) : State :=
  (s.setStagingOf o (((s.stagingOf o).resize l).load first taps)).queueBulk (bulkStaging o)

theorem State.stagingOf_loadStaging {l k : Nat} {vs : List (BitVec 24)} :
    (s.loadStaging o l k vs).stagingOf n = if n = o then ((s.stagingOf o).resize l).load k vs else s.stagingOf n :=
  (State.stagingOf_congr State.queueBulk_mix).trans State.stagingOf_setStagingOf

theorem exec_firLoad {output lm1 first : BitVec 16} {taps : List (BitVec 24)} (ht : s.takes h (op 0x0402 2 0 .other) i a)
    (hl : lenIs h (8 + 3 * taps.length) = true) (ho : a.ownsOut i output.toNat = true) (hid : a.outId output.toNat = .ok)
    (hm : lm1.toNat < 16384) (hf : first.toNat + taps.length ≤ lm1.toNat + 1) (hi : a.inInstall output.toNat = false) :
    exec (.firLoad h output lm1 first taps) s =
      .next ((a.loadStaging output.toNat (lm1.toNat + 1) first.toNat taps).reply i 0x0402 h.seq.toNat .ok [] true) :=
  congrArg _ (State.receive_untimed ht rfl (by
    rw [hl, ho, hid, firstBad_cons_ok, badUnless_of (decide_eq_true (Nat.succ_le_of_lt hm)), firstBad_cons_ok, badUnless_of (decide_eq_true hf), hi]
    rfl) rfl)

/-! ### Long operations of a port (R289) -/

theorem State.busy_setSession {x : Session} : ((s.setSession i x).port q).busy = (s.port q).busy := rfl

theorem State.busy_moveEvent : ((s.moveEvent i).port q).busy = (s.port q).busy := by
  unfold State.moveEvent
  dsimp only
  split
  · rfl
  · exact State.busy_enqueue.trans State.busy_setSession

theorem State.busy_pump : ((s.pump n).port q).busy = (s.port q).busy := by
  induction n generalizing s with
  | zero => rfl
  | succ n ih =>
    refine ih.trans (foldl_keeps (fun u : State => (u.port q).busy) (fun u k => ?_) _ s)
    split
    · exact State.busy_moveEvent
    · rfl

theorem State.busy_eventTo {c : Nat} {data : List Byte} : ((s.eventTo i c data).port q).busy = (s.port q).busy := by
  unfold State.eventTo
  dsimp only
  split
  · rfl
  split
  · exact State.busy_pump.trans State.busy_setSession
  · exact (congrArg Port.busy (State.port_congr State.bump_ports)).trans State.busy_setSession

theorem State.busy_budgetEvent : ((s.budgetEvent n).port q).busy = (s.port q).busy :=
  foldl_keeps (fun u : State => (u.port q).busy) (fun _ _ => State.busy_eventTo) _ s

/-- What a commit tells the sessions leaves the operations of the ports as they are. -/
theorem State.busy_afterCommit : (s.afterCommit.port q).busy = (s.port q).busy := by
  unfold State.afterCommit State.showBudget
  repeat' split
  · exact State.busy_budgetEvent
  · rfl
  · rfl
  · exact State.busy_budgetEvent
  · rfl

theorem State.busy_beginLong {c m : Nat} : ((s.beginLong p i c n m).port p).busy = some ⟨c, i, n, s.tm.raw, m, 0⟩ :=
  congrArg Port.busy ((State.port_congr ((State.showBusy_good _).same .ports rfl)).trans State.port_setPort_self)

theorem State.busy_longArg {l : LongOp} (hb : (s.port p).busy = some l) : ((s.longArg p n).port p).busy = some { l with arg := n } := by
  rw [State.longArg, State.port_setPort_self, hb, Option.map_some]

/-! ### FIR_INSTALL (R80, R81) -/

/-- The outputs of an install stand behind those being installed, in payload order. -/
theorem State.installs_beginInstall {es : List InstallReq} :
    (s.beginInstall p es).mix.installs = s.mix.installs ++ es.map (fun e => ⟨e.output.toNat, p, none, false⟩) := by
  induction es generalizing s with
  | nil => exact (List.append_nil _).symm
  | cons e es ih =>
    refine ih.trans ?_
    rw [List.map_cons, ← List.singleton_append, ← List.append_assoc]
    dsimp only
    split
    · rw [State.queueBulk_mix, State.setStagingOf]
    · rfl

theorem exec_firInstall {es : List InstallReq} (ht : s.takes h (op 0x0403 2 0 .other) i a) (hl : lenIs h (4 + 8 * es.length) = true)
    (h1 : 1 ≤ es.length) (h2 : es.length ≤ 64) (ho : ∀ e ∈ es, a.ownsOut i e.output.toNat = true) (hst : a.stage < 3)
    (he : a.installEntries [] es = es.map (fun _ => .ok)) (hn : (a.mix.installs.filter (fun x => !x.done)).length + es.length ≤ 64)
    (hc : (a.beginInstall h.port.val es).commitStatus = .ok) :
    exec (.firInstall h es) s =
      .next (((a.beginInstall h.port.val es).beginLong h.port.val i 0x0403 h.seq.toNat 150).afterCommit) := by
  have hval : firstBad (countIn 1 64 es.length :: a.installEntries [] es ++
      [if 64 < (a.mix.installs.filter (fun x => !x.done)).length + es.length then .limit else .ok]) = .ok := by
    rw [he, firstBad_append_ok (countIn_cons_ok h1 h2 fun _ _ => rfl), if_neg (Nat.not_lt.mpr hn)]
    rfl
  refine congrArg _ (State.receive_long ht rfl ?_ rfl)
  rw [hl, List.all_eq_true.mpr ho, decide_eq_false (Nat.not_le.mpr hst), hval, State.thenCommit, if_pos rfl, hc]

theorem firInstall_begins {es : List InstallReq} :
    let t : State := ((a.beginInstall p es).beginLong p i 0x0403 n 150).afterCommit
    t.mix.installs = a.mix.installs ++ es.map (fun e => ⟨e.output.toNat, p, none, false⟩) ∧
      (t.port p).busy = some ⟨0x0403, i, n, a.tm.raw, 150, 0⟩ := by
  refine ⟨?_, State.busy_afterCommit.trans (State.busy_beginLong.trans ?_)⟩
  · rw [State.afterCommit_mix, State.beginLong_mix, State.installs_beginInstall]
  · rw [show (a.beginInstall p es).tm = a.tm from (State.beginInstall_good a p es).same .tm rfl]

/-! ### The slots of identification (R87) -/

section
variable {α : Type} {c : Cells α} {v : α} {k : Nat}

theorem Cells.erase_eq_filter : c.erase k = c.filter (fun x => x.1 ≠ k) := by
  induction c with
  | nil => rfl
  | cons x c ih => by_cases hx : x.1 = k <;> simp [Cells.erase, hx, ih]

theorem Cells.find?_erase_self : (c.erase k).find? (fun x => x.1 = k) = none := by simp [Cells.erase_eq_filter]

theorem Cells.find?_erase_other (hj : j ≠ k) : (c.erase k).find? (fun x => x.1 = j) = c.find? (fun x => x.1 = j) := by
  rw [Cells.erase_eq_filter, List.find?_filter]
  congr 1
  funext x
  by_cases hx : x.1 = j <;> simp [hx, hj]

theorem Cells.find?_insert_self : (c.insert k v).find? (fun x => x.1 = k) = some (k, v) := by
  induction c with
  | nil => simp [Cells.insert]
  | cons x c ih =>
    rw [Cells.insert]
    split
    · simp
    split
    · simp
    · next hx _ => rw [List.find?_cons_of_neg (by simpa using hx), ih]

theorem Cells.find?_insert_other (hj : j ≠ k) : (c.insert k v).find? (fun x => x.1 = j) = c.find? (fun x => x.1 = j) := by
  have hk : k ≠ j := hj.symm
  induction c with
  | nil => simp [Cells.insert, hk]
  | cons x c ih =>
    rw [Cells.insert]
    split
    · next hx => simp [hx, hk]
    split
    · simp [hk]
    · rw [List.find?_cons, ih, List.find?_cons]

end

/-- A slot as IDENT_CONTROL leaves it: in use with its configuration, or free. -/
def State.setIdentSlot (s : State) (r : IdentReq) : State :=
  { s with mix := { s.mix with idents :=
      (if r.en then s.mix.idents.insert r.slot.toNat (IdentReq.record r (s.identOf r.slot.toNat)) else s.mix.idents.erase r.slot.toNat) } }

section
variable {r : IdentReq}

theorem State.idents_setIdentSlot_used (he : r.en = true) :
    (s.setIdentSlot r).mix.idents = s.mix.idents.insert r.slot.toNat (IdentReq.record r (s.identOf r.slot.toNat)) := if_pos he

theorem State.idents_setIdentSlot_freed (he : r.en = false) : (s.setIdentSlot r).mix.idents = s.mix.idents.erase r.slot.toNat :=
  if_neg (by simp [he])

theorem State.identOf_setIdentSlot_used (he : r.en = true) :
    (s.setIdentSlot r).identOf r.slot.toNat = some (IdentReq.record r (s.identOf r.slot.toNat)) := by
  rw [State.identOf, State.idents_setIdentSlot_used he, Cells.find?_insert_self, Option.map_some]

theorem State.identOf_setIdentSlot_freed (he : r.en = false) : (s.setIdentSlot r).identOf r.slot.toNat = none := by
  rw [State.identOf, State.idents_setIdentSlot_freed he, Cells.find?_erase_self, Option.map_none]

theorem State.identOf_setIdentSlot_other (hn : n ≠ r.slot.toNat) : (s.setIdentSlot r).identOf n = s.identOf n := by
  rw [State.identOf, State.identOf]
  cases he : r.en with
  | true => rw [State.idents_setIdentSlot_used he, Cells.find?_insert_other hn]
  | false => rw [State.idents_setIdentSlot_freed he, Cells.find?_erase_other hn]

theorem exec_identControl (ht : s.takes h (op 0x0406 3 0 .other) i a) (hl : lenIs h 110 = true)
    (ho : a.ownsOut i r.output.toNat = true) (hv : a.identStatus r = .ok) :
    exec (.identControl h r) s = .next ((a.setIdentSlot r).reply i 0x0406 h.seq.toNat .ok [] true) :=
  congrArg _ (State.receive_untimed ht rfl (by rw [hl, ho, hv]) rfl)

end

/-! ### IDENT_EXPORT (R90) -/

theorem exec_identExport {slot : BitVec 8} {propose : Bool} (ht : s.takes h (op 0x0407 3 0 .other) i a) (hl : lenIs h 2 = true)
    (hn : slot.toNat < 64) (ho : propose = true → ∀ d, a.identOf slot.toNat = some d → a.ownsOut i d.output = true) :
    exec (.identExport h slot propose) s =
      .next ((a.beginLong h.port.val i opIdentExport h.seq.toNat 2000).longArg h.port.val (slot.toNat + 256 * b2n propose)) := by
  refine congrArg _ (State.receive_long ht rfl ?_ rfl)
  rw [hl, badUnless_of (decide_eq_true hn)]
  cases propose with
  | false => rfl
  | true =>
    cases hd : a.identOf slot.toNat with
    | none => rfl
    | some d => exact congrArg (fun c : Bool => (⟨true, c, false, .ok⟩ : OpCheck)) (ho rfl d hd)

end

/-- Settles O29: each command takes its place and runs; a load is read off the staging set it writes, FIR_INSTALL and IDENT_EXPORT off the port they
occupy, a slot off the cells it is entered in or erased from. -/
theorem filterCommands : Obligations.FilterCommands := by
  unfold Obligations.FilterCommands
  refine ⟨fun s a h i output lm1 first taps ht hl ho hid hm hf hi =>
      ⟨_, exec_firLoad ht hl ho hid hm hf hi, ?_, fun k v hv => ?_, fun o hne => ?_, ?_, ?_⟩,
    fun s a h i es ht hl h1 h2 ho hst he hn hc => ⟨_, exec_firInstall ht hl h1 h2 ho hst he hn hc, firInstall_begins⟩,
    fun s a h i q ht hl ho hv => ⟨_, exec_identControl ht hl ho hv, State.identOf_setIdentSlot_used, State.identOf_setIdentSlot_freed,
      fun n => State.identOf_setIdentSlot_other⟩,
    fun s a h i slot propose ht hl hn ho => ⟨_, exec_identExport ht hl hn fun hp d hd => by simpa only [hd] using ho hp,
      State.busy_longArg State.busy_beginLong, ?_, ?_⟩⟩
  · rw [State.stagingOf_loadStaging, if_pos rfl, FirSet.load_len, FirSet.resize]
  · rw [State.stagingOf_loadStaging, if_pos rfl, FirSet.load_taps hv]
  · rw [State.stagingOf_loadStaging, if_neg hne]
  · rw [State.loadStaging, State.queueBulk_mix, State.setStagingOf]
  · rw [State.loadStaging, State.queueBulk_sched, State.setStagingOf]
  · exact ((State.longArg_good _ _ _).same .mix rfl).trans State.beginLong_mix
  · exact ((State.longArg_good _ _ _).same .sessions rfl).trans State.beginLong_sessions

end Sys2Proof.Machine
end

section
/-! PROOFS. Multiplies, moves between register files and special registers of a Drover core (R102–R105, R124–R127, R130): the results of an instruction
that touches registers alone, in the words of the statements. -/

-- One proof at a time: the package as one text then takes less memory.
set_option Elab.async false

namespace Sys2Proof.Machine

open Sys2Proof

variable {x : CoreSt}

/-- Settles O11: each instruction touches registers alone, and its results of R125 and R126 are by definition those the statement writes out. -/
theorem droverMultiplies : Obligations.DroverMultiplies := by
  unfold Obligations.DroverMultiplies
  exact ⟨fun s a h => State.gives_regRes h rfl rfl rfl, fun s a f h => State.gives_regRes h rfl rfl rfl,
    fun s a f h => State.gives_regRes h rfl rfl rfl, fun s a f h => State.gives_regRes h rfl rfl rfl,
    fun s a f h => State.gives_regRes h rfl rfl rfl⟩

/-- AMOVX takes 32 bits of the half that H names. -/
theorem CoreSt.regRes_amovx {f : FmtAX} : x.regRes (.amovx f) =
    [(1, .x f.xd.toNat (unsignedOf 32 (if f.h then x.accv f.acc.toNat / 2 ^ 32 else x.accv f.acc.toNat)))] := by
  cases hh : f.h <;> simp [CoreSt.regRes, CoreSt.amovxRes, hh]

/-- Settles O13: each move touches registers alone; AMOVX chooses its half before it cuts it, the others are their definition. -/
theorem droverMoves : Obligations.DroverMoves := by
  unfold Obligations.DroverMoves
  exact ⟨fun s a f h => State.gives_regRes h rfl rfl rfl, fun s a f h => State.gives_regRes h rfl rfl CoreSt.regRes_amovx,
    fun s a f h => State.gives_regRes h rfl rfl rfl, fun s a f h => State.gives_regRes h rfl rfl rfl,
    fun s a f h => State.gives_regRes h rfl rfl rfl, fun s a f h => State.gives_regRes h rfl rfl rfl⟩

/-- The fields of an address generator by number (R130), as they are written. -/
theorem agWr_eq_getD {n k w : Nat} : agWr n k w =
    [Wr.agBase n (w % 131072), .agPtr n (signedOf 18 w), .agInc n (signedOf 18 w), .agLen n (w % 131072)].getD k (.agMode n (w % 4)) := by
  match k with
  | 0 | 1 | 2 | 3 | _ + 4 => rfl

/-- The fields of an address generator by number (R130), as they are read. -/
theorem AddrGen.fld_eq_getD {g : AddrGen} {k : Nat} :
    g.fld k = [g.base, unsignedOf 18 g.ptr, unsignedOf 18 g.inc, g.len].getD k g.mode := by
  match k with
  | 0 | 1 | 2 | 3 | _ + 4 => rfl

/-- Settles O15: each instruction touches registers alone; the field of AGSET and AGGET is found by its number, and the latency of IPC and ISR is 1. -/
theorem droverSpecials : Obligations.DroverSpecials := by
  unfold Obligations.DroverSpecials
  refine ⟨fun s a f h => State.gives_regRes h rfl rfl ?_, fun s a f h => State.gives_regRes h rfl rfl ?_,
    fun s a f h => ⟨1, State.gives_regRes h rfl rfl rfl⟩, fun s a f h => State.gives_regRes h rfl rfl rfl,
    fun s a f h => State.gives_regRes h rfl rfl rfl⟩
  · rw [CoreSt.regRes, agWr_eq_getD]
  · rw [CoreSt.regRes, AddrGen.fld_eq_getD]

end Sys2Proof.Machine
end

section
/-! PROOFS. The end of a bundle (R93, R95, R107): landings, loops and delay bundles of a core. -/

-- One proof at a time: the package as one text then takes less memory.
set_option Elab.async false

namespace Sys2Proof.Machine

open Sys2Proof

variable {x : CoreSt} {w : Wr} {n : Nat}

/-! ### What the landings of a cycle leave (R93) -/

/-- Where a core goes on: no landing changes it. -/
def CoreSt.course (x : CoreSt) : Nat × Option (Nat × Option Nat) := (x.pc, x.delay)

theorem CoreSt.course_applyOn {old : Cells Scale} : (x.applyOn old w).course = x.course := by
  cases w with
  | loopReg i _ =>
    simp only [CoreSt.applyOn, CoreSt.setLoop]
    split <;> rfl
  | _ => rfl

theorem CoreSt.course_retireBundle : x.retireBundle.course = x.course := foldl_keeps CoreSt.course (fun _ _ => CoreSt.course_applyOn) _ _

theorem CoreSt.pc_retireBundle : x.retireBundle.pc = x.pc := congrArg Prod.fst CoreSt.course_retireBundle

theorem CoreSt.delay_retireBundle : x.retireBundle.delay = x.delay := congrArg Prod.snd CoreSt.course_retireBundle

/-- With nothing in flight a cycle only passes. -/
theorem CoreSt.nextCycle_idle (h : x.flight = []) : x.nextCycle = { x with cycle := x.cycle + 1 } := by
  simp [CoreSt.nextCycle, CoreSt.applyAll, h]

theorem CoreSt.xr_setX {r v k : Nat} : (x.setX r v).xr k = if k = r then v % 2 ^ 32 else x.xr k := Cells.get_set

/-- The one result in flight lands in the cycle in which it is due, and not before. -/
theorem CoreSt.xr_nextCycle_fly {r v l k : Nat} (h : x.flight = []) (hl : 0 < l) :
    (x.fly [(l, .x r v)]).nextCycle.xr k = if l = 1 then (x.setX r v).xr k else x.xr k := by
  by_cases h1 : l = 1
  · simp [CoreSt.nextCycle, CoreSt.fly, CoreSt.applyAll, CoreSt.applyOn, CoreSt.setX, CoreSt.xr, h, h1]
  · have hlate : ¬ x.cycle + l ≤ x.cycle + 1 := by omega
    simp [CoreSt.nextCycle, CoreSt.fly, CoreSt.applyAll, CoreSt.xr, h, h1, hlate]

/-! ### The next bundle (R95, R107) -/

theorem CoreSt.advance_unlooped (h0 : x.lvl0.count = 0) (h1 : x.lvl1.count = 0) : x.advance = { x with pc := (x.pc + 1) % 4096 } := by
  simp [CoreSt.advance, h0, h1]

/-- The core after the end bundle of loop level 0, which goes before level 1. -/
theorem CoreSt.advance_loop0 (hc : 0 < x.lvl0.count) (hs : x.lvl0.stop = x.pc) :
    x.advance.pc = (if 1 < x.lvl0.count then x.lvl0.start else (x.pc + 1) % 4096) ∧ x.advance.lvl0.count = x.lvl0.count - 1 ∧
      x.advance.rrb = (if x.lvl0.rot then (x.rrb + 63) % 64 else x.rrb) ∧ x.advance.lvl1 = x.lvl1 ∧ (x.flight = [] → x.advance.flight = []) := by
  cases hr : x.lvl0.rot <;> simp [CoreSt.advance, CoreSt.supersede, LoopLvl.turn, hc, hs, hr]
  all_goals intro h; simp [h]

theorem CoreSt.delay_advance : x.advance.delay = x.delay := by
  unfold CoreSt.advance
  simp only []
  repeat' split
  all_goals rfl

theorem CoreSt.countDelay_none (h : x.delay = none) : x.countDelay = x := by
  rw [CoreSt.countDelay, h]

theorem CoreSt.countDelay_last {p : Nat} (h : x.delay = some (1, some p)) : x.countDelay = { x with delay := none, pc := p } := by
  rw [CoreSt.countDelay, h]
  rfl

theorem CoreSt.countDelay_more {tg : Option Nat} (h : x.delay = some (n + 2, tg)) : x.countDelay = { x with delay := some (n + 1, tg) } := by
  rw [CoreSt.countDelay, h]
  exact if_pos (by omega)

theorem CoreSt.finish_undelayed (h : x.delay = none) : x.finish = x.advance.retireBundle := by
  rw [CoreSt.finish, CoreSt.countDelay_none (CoreSt.delay_advance.trans h)]

/-- Settles O20: the next bundle is chosen before the cycle passes, and no landing of the cycle changes the choice. -/
theorem droverSequence : Obligations.DroverSequence := by
  unfold Obligations.DroverSequence
  refine ⟨fun x h0 h1 hd => ?_, fun x hc hs hd hf => ?_, fun x p hd => ?_, fun x n tg hd => ?_, fun x r w l hf hr hw hl => ⟨?_, fun k hk => ?_⟩⟩
  · rw [CoreSt.finish_undelayed hd, CoreSt.pc_retireBundle, CoreSt.advance_unlooped h0 h1]
  · obtain ⟨hpc, hcount, hrrb, hlvl, hflight⟩ := CoreSt.advance_loop0 hc hs
    rw [CoreSt.finish_undelayed hd, CoreSt.retireBundle, CoreSt.nextCycle_idle (hflight hf)]
    exact ⟨hpc, hcount, hrrb, hlvl⟩
  · rw [CoreSt.finish, CoreSt.pc_retireBundle, CoreSt.delay_retireBundle, CoreSt.countDelay_last (CoreSt.delay_advance.trans hd)]
    exact ⟨rfl, rfl⟩
  · rw [CoreSt.finish, CoreSt.delay_retireBundle, CoreSt.countDelay_more (CoreSt.delay_advance.trans hd)]
  · rw [CoreSt.xr_nextCycle_fly hf hl, CoreSt.xr_setX, if_pos rfl, Nat.mod_eq_of_lt hw]
  · rw [CoreSt.xr_nextCycle_fly hf hl, CoreSt.xr_setX, if_neg hk, ite_self]

end Sys2Proof.Machine
end

section
/-! PROOFS. How a bundle issues and ends (R95, R112–R114, R117): what its slots leave is all, unless something is taken at the boundary after it. -/

-- One proof at a time: the package as one text then takes less memory.
set_option Elab.async false

namespace Sys2Proof.Machine

open Sys2Proof

variable {s t u r : State} {a : Issue} {op p q : DrvOp} {c k n pc : Nat} {x y : CoreSt} {ps qs : List Part} {i : Instr}

/-! ### Registers that the issue of bundles heeds (R117, R119, R358) -/

/-- An address of a core's registers, or of the clock gates. -/
def Issuing (b : Nat) : Prop := (0x30800000 ≤ b ∧ b < 0x30A00000) ∨ b = R.CLK_GATE_NOW_VALUE.addr

/-- The addresses of core `c` that a fault writes beside its own: DRV_FAULT_PC, DRV_FAULT_ADDR and the counter of faults. -/
def faultRegs (c : Nat) : List Nat := [0x30800008 + 65536 * c, 0x3080000C + 65536 * c, 0x30800050 + 65536 * c]

/-- An address that the issue of bundles heeds and that no bundle or fault of core `c` writes. -/
def Heeded (c b : Nat) : Prop := Issuing b ∧ Foreign c b ∧ b ∉ faultRegs c

theorem heeded_state (hk : k < 32) (hkc : k ≠ c) : Heeded c (R.DRV_STATUS_STATE k).addr := by
  refine ⟨.inl ?_, foreign_state hk hkc, ?_⟩
  all_goals simp only [R.DRV_STATUS_STATE, faultRegs, List.mem_cons, List.not_mem_nil, or_false, not_or]; omega

theorem heeded_run (hk : k < 32) (hkc : k ≠ c) : Heeded c (R.DRV_CTRL_RUN k).addr := by
  refine ⟨.inl ?_, foreign_run hk hkc, ?_⟩
  all_goals simp only [R.DRV_CTRL_RUN, faultRegs, List.mem_cons, List.not_mem_nil, or_false, not_or]; omega

theorem heeded_gates (hc : c < 32) : Heeded c R.CLK_GATE_NOW_VALUE.addr := by
  refine ⟨.inr rfl, foreign_gates, ?_⟩
  simp only [R.CLK_GATE_NOW_VALUE, faultRegs, List.mem_cons, List.not_mem_nil, or_false, not_or]
  omega

theorem heeded_bkpt (hc : c < 32) (hn : n < 4) : Heeded c (R.DRV_BKPT_EN c n).addr := by
  refine ⟨.inl ?_, foreign_bkpt hn, ?_⟩
  all_goals simp only [addr_bkpt_en, faultRegs, List.mem_cons, List.not_mem_nil, or_false, not_or]; omega

theorem State.SameRegs.breaksAt (h : s.SameRegs (Heeded c) t) (hc : c < 32) : t.breaksAt c pc = s.breaksAt c pc :=
  State.breaksAt_congr fun _ hn => ⟨h.rd (heeded_bkpt hc hn), h.rd (g := R.DRV_BKPT_ADDR c _) (heeded_bkpt hc hn)⟩

/-- What a bundle writes of its core's own registers is none that the others heed. -/
theorem State.SameRegs.heeded (h : s.SameRegs (Foreign c) t) : s.SameRegs (Heeded c) t := h.mono fun _ hb => hb.2.1

/-! ### Cores that go on after a bundle -/

/-- After a bundle of core `c` no bundle waits to issue: core `c` does not stall, no step is asked for, and the others with what they heed are as they were. -/
structure State.Still (s r : State) (c : Nat) : Prop where
  stalled : (r.core c).stalled = none
  other   : ∀ k, k ≠ c → r.core k = s.core k
  regs    : s.SameRegs (Heeded c) r
  clk     : r.clk = s.clk
  unasked : r.Unasked

theorem State.Still.coreCopies (h : s.Still r c) : s.Still (r.coreCopies c) c where
  stalled := by rw [State.core_coreCopies]; exact h.stalled
  other k hk := State.core_coreCopies.trans (h.other k hk)
  regs := h.regs.trans State.SameRegs.coreCopies.heeded
  clk := State.coreCopies_clk.trans h.clk
  unasked := h.unasked.congr State.coreCopies_cores

theorem State.Still.runSteps (h : s.Still r c) (hs : s.rests = true) (hc : c < 32) : r.runSteps n = r := by
  refine State.runSteps_quiet fun p hp => ⟨h.unasked p hp, ?_⟩
  by_cases e : p.1 = c
  · exact State.unstalls_none (e ▸ h.stalled)
  obtain ⟨-, hx | ⟨h32, hx⟩⟩ := State.rests_core (k := p.1) hs
  · exact State.unstalls_none (by rw [h.other _ e, hx])
  · have hst : r.coreState p.1 = s.coreState p.1 := h.regs.rd (heeded_state h32 e)
    have hrun : r.on (R.DRV_CTRL_RUN p.1) = s.on (R.DRV_CTRL_RUN p.1) := h.regs.on (heeded_run h32 e)
    have hgate : r.gated 0 = s.gated 0 := State.gated_congr (h.regs.rd (heeded_gates hc)) h.clk
    rw [← hx, State.unstalls, State.unstalls, h.other _ e, hst, hrun, hgate]

/-! ### The boundary after a bundle (R113, R114) -/

/-- At the boundary nothing is taken from the core: a fault that is pending has bundles to wait for, and no debug interrupt is. -/
def CoreSt.Calm (x : CoreSt) : Prop := (∀ t, x.trap = some t → t.left ≠ 0) ∧ x.dbgPend = false

theorem State.boundary_calm (h : (s.core c).Calm) : s.boundary c = s := by
  obtain ⟨ht, hd⟩ := h
  unfold State.boundary
  simp only []
  split
  · rfl
  split
  · next t e => rw [if_neg (ht t e)]
  · simp [hd]

/-- The fault pending, the debug interrupt pending, what stalls, and the task: a cycle and the sequencer leave them. -/
def CoreSt.upkeep (x : CoreSt) : Option Trap × Bool × Option (DrvOp × DrvOp) × Option Task := (x.trap, x.dbgPend, x.stalled, x.task)

theorem CoreSt.upkeep_applyOn {old : Cells Scale} {w : Wr} : (x.applyOn old w).upkeep = x.upkeep := by
  cases w with
  | loopReg i _ =>
    simp only [CoreSt.applyOn, CoreSt.setLoop]
    split <;> rfl
  | _ => rfl

theorem CoreSt.upkeep_nextCycle : x.nextCycle.upkeep = x.upkeep := foldl_keeps CoreSt.upkeep (fun _ _ => CoreSt.upkeep_applyOn) _ _

theorem CoreSt.upkeep_advance : x.advance.upkeep = x.upkeep := by
  unfold CoreSt.advance
  simp only []
  repeat' split
  all_goals rfl

theorem CoreSt.upkeep_countDelay : x.countDelay.upkeep = x.upkeep := by
  unfold CoreSt.countDelay
  repeat' split
  all_goals rfl

/-- A bundle that is over counts for the fault that is pending. -/
def Trap.tick (t : Trap) : Trap := { t with left := t.left - 1 }

theorem CoreSt.upkeep_retireBundle : x.retireBundle.upkeep = (x.trap.map Trap.tick, x.dbgPend, x.stalled, x.task) := by
  have h := CoreSt.upkeep_nextCycle (x := x)
  simp only [CoreSt.upkeep, Prod.mk.injEq] at h
  obtain ⟨ht, hd, hs, hk⟩ := h
  simp only [CoreSt.upkeep, CoreSt.retireBundle, ht, hd, hs, hk]
  rfl

theorem CoreSt.upkeep_finish : x.finish.upkeep = (x.trap.map Trap.tick, x.dbgPend, x.stalled, x.task) := by
  have h : x.advance.countDelay.upkeep = x.upkeep := CoreSt.upkeep_countDelay.trans CoreSt.upkeep_advance
  simp only [CoreSt.upkeep, Prod.mk.injEq] at h
  obtain ⟨ht, hd, hs, hk⟩ := h
  rw [CoreSt.finish, CoreSt.upkeep_retireBundle, ht, hd, hs, hk]

/-- What goes into a bundle's last steps lets the bundle end in calm. -/
def CoreSt.Settled (x : CoreSt) : Prop := (∀ t, x.trap = some t → 1 < t.left) ∧ x.dbgPend = false ∧ x.stalled = none ∧ x.stepReq = false

/-- A core that is over with a bundle: calm at the boundary, with nothing stalled and no step asked for. -/
def CoreSt.Ended (x : CoreSt) : Prop := x.Calm ∧ x.stalled = none ∧ x.stepReq = false

theorem CoreSt.ended_of_upkeep (h : x.Settled) (hu : y.upkeep = (x.trap.map Trap.tick, x.dbgPend, x.stalled, x.task)) (hr : y.stepReq = x.stepReq) :
    y.Ended := by
  obtain ⟨ht, hd, hs, hq⟩ := h
  simp only [CoreSt.upkeep, Prod.mk.injEq] at hu
  obtain ⟨ht', hd', hs', -⟩ := hu
  refine ⟨⟨fun t e => ?_, hd'.trans hd⟩, hs'.trans hs, hr.trans hq⟩
  rw [ht', Option.map_eq_some_iff] at e
  obtain ⟨t', e, rfl⟩ := e
  have := ht t' e
  show t'.left - 1 ≠ 0
  omega

theorem CoreSt.Settled.finish (h : x.Settled) : x.finish.Ended :=
  CoreSt.ended_of_upkeep h CoreSt.upkeep_finish (congrArg Prod.snd CoreSt.asked_finish)

theorem CoreSt.Settled.retireBundle (h : x.Settled) : x.retireBundle.Ended :=
  CoreSt.ended_of_upkeep h CoreSt.upkeep_retireBundle (congrArg Prod.snd (CoreSt.asked_nextCycle (x := x)))

theorem CoreSt.Settled.fly {rs : Res} (h : x.Settled) : (x.fly rs).Settled := h

/-! ### The issue of a bundle -/

/-- The end of a bundle that began at `pc`: the copies of SR, what the boundary takes, an armed breakpoint. -/
def State.endBundle (r : State) (c pc : Nat) : State :=
  if ((r.coreCopies c).boundary c).breaksAt c pc then ((r.coreCopies c).boundary c).askHalt c else (r.coreCopies c).boundary c

theorem State.issue_legal (hl : (s.core c).illegal p q = false) (hs : (s.core c).stalls p q = false) :
    s.issue c p q = ((s.readied c).runBundle c p q).endBundle c (s.core c).pc := by
  unfold State.issue
  simp only [hl, hs, Bool.and_false, Bool.false_eq_true, if_false]
  rfl

/-- An illegal bundle raises ILLEGAL and is over (R95). -/
theorem State.issue_illegal (hl : (s.core c).illegal p q = true) (ht : t = (s.readied c).raise c (s.core c).pc (some (.illegal, none))) :
    s.issue c p q = (t.setCore c (t.core c).finish).endBundle c (s.core c).pc := by
  unfold State.issue
  simp only [hl, Bool.not_true, Bool.false_and, Bool.false_eq_true, if_false, if_true, ht]
  rfl

theorem State.endBundle_of_boundary (hb : (r.coreCopies c).boundary c = t) (hk : t.breaksAt c pc = false) : r.endBundle c pc = t := by
  rw [State.endBundle, hb, hk, if_neg Bool.false_ne_true]

theorem State.endBundle_calm (hx : (r.core c).Calm) (hb : r.breaksAt c pc = false) : r.endBundle c pc = r.coreCopies c :=
  State.endBundle_of_boundary (State.boundary_calm (State.core_coreCopies.symm ▸ hx)) (State.breaksAt_coreCopies.trans hb)

/-- The command issues its bundle, whatever the bundle does. -/
theorem State.command_issue (hp : a.partner = 0#32) (hi : s.issues a.core.val = true) (hs : s.rests = true) :
    s.command a op = (s.issue a.core.val (Issue.slots a op).1 (Issue.slots a op).2).runSteps 64 := by
  unfold State.command Issue.slots
  have hz : decodeDrv a.partner.toNat = .nop := by rw [hp]; rfl
  rw [State.rests_quiet hs]
  simp only [hi, hz, Bool.not_true, Bool.false_eq_true, if_false]
  cases a.slot1 <;> rfl

/-- A bundle that ends in `r` with nothing taken at its boundary: `r` with the copies of SR is the state the command leaves. -/
theorem State.command_ends (hp : a.partner = 0#32) (hi : s.issues a.core.val = true) (hs : s.rests = true)
    (hb : s.breaksAt a.core.val pc = false) (he : s.issue a.core.val (Issue.slots a op).1 (Issue.slots a op).2 = r.endBundle a.core.val pc)
    (hr : s.Still r a.core.val) (hx : (r.core a.core.val).Calm) : s.command a op = r.coreCopies a.core.val := by
  rw [State.command_issue hp hi hs, he, State.endBundle_calm hx ((hr.regs.breaksAt a.core.isLt).trans hb), hr.coreCopies.runSteps hs a.core.isLt]

/-! ### Bundles that go from a state with the same cores -/

/-- `u` holds what the issue of bundles heeds as `s` does. -/
structure State.SameIssue (s u : State) : Prop where
  cores : u.cores = s.cores
  regs  : s.SameRegs Issuing u
  clk   : u.clk = s.clk

theorem State.SameIssue.refl : s.SameIssue s := ⟨rfl, .refl, rfl⟩

theorem State.SameIssue.trans (h : s.SameIssue t) (k : t.SameIssue u) : s.SameIssue u :=
  ⟨k.cores.trans h.cores, h.regs.trans k.regs, k.clk.trans h.clk⟩

theorem State.Ran.still (h : u.Ran r c x ps) (hu : s.SameIssue u) (hx : x.stalled = none) : s.Still r c where
  stalled := h.core ▸ hx
  other k hk := (h.other k hk).trans (State.core_congr hu.cores)
  regs := (hu.regs.mono fun _ hb => hb.1).trans ⟨h.straps, fun b hb => h.cell b fun e => hb.2.1 (e ▸ by simp [ownRegs, addr_bundle])⟩
  clk := h.clk.trans hu.clk
  unasked := h.unasked

section
variable (h : s.issuesAlone a op)
include h

theorem State.issuesAlone_settled : (s.core a.core.val).Settled := by
  have hstall := State.issuesAlone_stalled h
  obtain ⟨-, -, ht, hd, -, hs, -⟩ := h
  exact ⟨by simp [ht], hd, hstall, (State.rests_core hs).1⟩

theorem State.issuesAlone_issue : s.issue a.core.val (Issue.slots a op).1 (Issue.slots a op).2 =
    ((s.readied a.core.val).runBundle a.core.val (Issue.slots a op).1 (Issue.slots a op).2).endBundle a.core.val (s.core a.core.val).pc := by
  obtain ⟨-, -, -, -, -, -, hl, hst⟩ := h
  exact State.issue_legal hl hst

/-- A bundle issued alone that ends in `r`, nothing being taken at its boundary. -/
theorem State.command_alone_ends (hrun : (s.readied a.core.val).runBundle a.core.val (Issue.slots a op).1 (Issue.slots a op).2 = r)
    (hr : s.Still r a.core.val) (hx : (r.core a.core.val).Calm) : s.command a op = r.coreCopies a.core.val := by
  have he := State.issuesAlone_issue h
  rw [hrun] at he
  obtain ⟨hp, hi, -, -, hb, hs, -, -⟩ := h
  exact State.command_ends hp hi hs hb he hr hx

/-- The command of a bundle issued alone that has run from `u`. -/
theorem State.goes_of_ran (he : exec i s = .next (s.command a op))
    (hrun : (s.readied a.core.val).runBundle a.core.val (Issue.slots a op).1 (Issue.slots a op).2 = r) (hu : s.SameIssue u)
    (hr : u.Ran r a.core.val x ps) (hx : x.Ended) :
    exec i s = .next (r.coreCopies a.core.val) ∧ u.coreGoes a.core.val x [] ps (r.coreCopies a.core.val) := by
  obtain ⟨hcalm, hstall, -⟩ := hx
  rw [he, State.command_alone_ends h hrun (hr.still hu hstall) (hr.core.symm ▸ hcalm)]
  exact ⟨rfl, hr.coreGoes a.core.isLt⟩

end

end Sys2Proof.Machine
end

section
/-! PROOFS. Bundles of an instruction of slot 1 (R95, R107, R129): branches, calls and loops. -/

-- One proof at a time: the package as one text then takes less memory.
set_option Elab.async false

namespace Sys2Proof.Machine

open Sys2Proof

variable {s t u r : State} {a : Issue} {op : DrvOp} {c n : Nat} {x y : CoreSt} {ps : List Part} {w : Wait} {e : Cause × Option (Bool × Nat)} {i : Instr}

/-! ### Bundles of control and ports -/

/-- The branches and the ports: instructions of slot 1 alone that reach no memory by themselves. -/
def DrvOp.control : DrvOp → Bool
  | .br _ | .brx _ | .call _ | .loop _ | .reti _ | .take _ | .give _ | .done _ | .tapset _ | .taprd _ | .accadd _ | .accrc _ => true
  | _ => false

theorem DrvOp.slot1_of_control (h : DrvOp.control op = true) : DrvOp.slotOk false op = false := by
  cases op <;> first | rfl | exact nomatch h

theorem State.doMem_control (h : DrvOp.control op = true) {p : Nat → Int} : s.doMem c x p op = ⟨s, [], none⟩ := by
  cases op <;> first | rfl | exact nomatch h

/-- What a bundle goes on to after its port has answered: a wait to begin, or a fault to raise. -/
def State.afterPort (s : State) (c : Nat) (x : CoreSt) (op : DrvOp) (w : Option Wait) (err : Raised) : State :=
  match w with
  | some v => (s.raise c x.pc err).startWait c v
  | none => (s.raise c x.pc err).setCore c (((s.raise c x.pc err).core c).over x op)

section
variable (ho : DrvOp.control op = true)
include ho

/-- The bundle by what its port answers. -/
theorem State.runBundle_answered {p : State × Option Wait × Raised}
    (hp : (s.setCore c ((s.core c).fly ((s.core c).regRes op))).doPort c (s.core c) op = p) :
    s.runBundle c .nop op = p.1.afterPort c (s.core c) op p.2.1 p.2.2 := by
  have hnop : (s.core c).regRes .nop = [] := rfl
  unfold State.runBundle
  simp only [State.doMem_regOnly (op := .nop) rfl, State.doMem_control ho, hnop, List.nil_append, List.append_nil, hp, State.raise]
  rfl

/-- The port is done with: the bundle is over. -/
theorem State.runBundle_over (hp : (s.setCore c ((s.core c).fly ((s.core c).regRes op))).doPort c (s.core c) op = (t, none, none)) :
    s.runBundle c .nop op = t.setCore c ((t.core c).over (s.core c) op) := State.runBundle_answered ho hp

/-- The core begins to wait. -/
theorem State.runBundle_waits (hp : (s.setCore c ((s.core c).fly ((s.core c).regRes op))).doPort c (s.core c) op = (t, some w, none)) :
    s.runBundle c .nop op = t.startWait c w := State.runBundle_answered ho hp

/-- The port raises a fault, and the bundle is over. -/
theorem State.runBundle_raises (hp : (s.setCore c ((s.core c).fly ((s.core c).regRes op))).doPort c (s.core c) op = (t, none, some e)) :
    s.runBundle c .nop op = (t.raise c (s.core c).pc (some e)).setCore c (((t.raise c (s.core c).pc (some e)).core c).over (s.core c) op) :=
  State.runBundle_answered ho hp

end

/-! ### Branches (R95, R107, R129) -/

theorem CoreSt.Settled.of_upkeep (h : x.Settled) (hu : y.upkeep = x.upkeep) (hr : y.stepReq = x.stepReq) : y.Settled := by
  simp only [CoreSt.upkeep, Prod.mk.injEq] at hu
  obtain ⟨ht, hd, hs, -⟩ := hu
  rw [CoreSt.Settled, ht, hd, hs, hr]
  exact h

theorem CoreSt.Settled.advance (h : x.Settled) : x.advance.Settled := h.of_upkeep CoreSt.upkeep_advance (congrArg Prod.snd CoreSt.asked_advance)

/-- A branch opens its delay. -/
theorem CoreSt.over_branch {tg : Option Nat} (hb : x.branch op = some tg) : y.over x op = { y.advance with delay := some (2, tg) }.retireBundle := by
  cases op with
  | loop f => exact nomatch hb
  | _ => simp only [CoreSt.over, hb]

/-- The condition of a branch by its number (R129). -/
theorem CoreSt.cond_eq_getD : x.cond n =
    [true, x.srBit 0, !x.srBit 0, x.srBit 1, !x.srBit 1, x.srBit 3, !x.srBit 3, x.srBit 2, !x.srBit 2, x.srBit 1 != x.srBit 2, x.srBit 1 == x.srBit 2,
      !x.srBit 0 && x.srBit 1 == x.srBit 2, x.srBit 0 || x.srBit 1 != x.srBit 2, x.srBit 3 && !x.srBit 0, !x.srBit 3 || x.srBit 0].getD n false := by
  match n with
  | 9 | 10 | 11 | 12 => cases hn : x.srBit 1 <;> cases hv : x.srBit 2 <;> simp [CoreSt.cond, hn, hv]
  | 0 | 1 | 2 | 3 | 4 | 5 | 6 | 7 | 8 | 13 | 14 | _ + 15 => rfl

theorem CoreSt.over_loop {f : FmtLP} : y.over x (.loop f) = if x.loopCount f = 0 then { y with pc := (f.le.toNat + 1) % 4096 }.retireBundle
    else (({ y.advance with
        lvl0 := if f.lvl then y.advance.lvl0 else ⟨(y.pc + 1) % 4096, f.le.toNat, x.loopCount f, f.rot⟩
        lvl1 := if f.lvl then ⟨(y.pc + 1) % 4096, f.le.toNat, x.loopCount f, f.rot⟩ else y.advance.lvl1 }).fly
      [(2, .loopView (3 * b2n f.lvl) ((y.pc + 1) % 4096)), (2, .loopView (3 * b2n f.lvl + 1) f.le.toNat),
        (2, .loopView (3 * b2n f.lvl + 2) (x.loopCount f))]).retireBundle := by
  rw [CoreSt.over, CoreSt.startLoop]
  split
  · rfl
  · cases f.lvl <;> rfl

/-- The command of an instruction of control whose bundle has run from `u`. -/
theorem State.goes_control (h : s.issuesAlone a op) (ho : DrvOp.control op = true) (he : exec i s = .next (s.command a op))
    (hrun : (s.readied a.core.val).runBundle a.core.val .nop op = r) (hu : s.SameIssue u) (hr : u.Ran r a.core.val x ps) (hx : x.Ended) :
    exec i s = .next (r.coreCopies a.core.val) ∧ u.coreGoes a.core.val x [] ps (r.coreCopies a.core.val) :=
  State.goes_of_ran h he (by rw [State.issuesAlone_slot1 h (DrvOp.slot1_of_control ho)]; exact hrun) hu hr hx

/-- The command of an instruction of control whose port does nothing. -/
theorem State.goes_over (h : s.issuesAlone a op) (ho : DrvOp.control op = true) (he : exec i s = .next (s.command a op))
    (hp : ∀ u : State, u.doPort a.core.val (s.core a.core.val) op = (u, none, none)) (hy : (s.core a.core.val).fly ((s.core a.core.val).regRes op) = y)
    (hend : (y.over (s.core a.core.val) op).Ended) (hx : y.over (s.core a.core.val) op = x) :
    ∃ t : State, exec i s = .next t ∧ s.coreGoes a.core.val x [] [] t := by
  have hran := State.issuesAlone_ran h
  have hreq : y.stepReq = false := hy.symm ▸ hran.req
  have hrun := State.runBundle_over (s := s.readied a.core.val) (c := a.core.val) ho (by rw [hran.core]; exact hp _)
  rw [hran.core, State.core_setCore_self, hy, hx] at hrun
  rw [hx] at hend
  exact ⟨_, State.goes_control h ho he hrun .refl ((hran.setCore hreq).setCore hend.2.2) hend⟩

/-- The command of a branch. -/
theorem State.goes_branch {tg : Option Nat} (h : s.issuesAlone a op) (hb : (s.core a.core.val).branch op = some tg) (ho : DrvOp.control op = true)
    (he : exec i s = .next (s.command a op)) (hp : ∀ u : State, u.doPort a.core.val (s.core a.core.val) op = (u, none, none))
    (hy : (s.core a.core.val).fly ((s.core a.core.val).regRes op) = y) :
    ∃ t : State, exec i s = .next t ∧ s.coreGoes a.core.val ({ y.advance with delay := some (2, tg) }.retireBundle) [] [] t := by
  have hset : y.Settled := hy ▸ (State.issuesAlone_settled h).fly
  have hover : y.over (s.core a.core.val) op = _ := CoreSt.over_branch hb
  refine State.goes_over h ho he hp hy ?_ hover
  rw [hover]
  exact CoreSt.Settled.retireBundle (hset.advance.of_upkeep rfl rfl)

/-- A core that has issued a LOOP. -/
theorem CoreSt.Settled.over_loop {f : FmtLP} (h : y.Settled) : (y.over x (.loop f)).Ended := by
  rw [CoreSt.over_loop]
  split
  · exact CoreSt.Settled.retireBundle (h.of_upkeep rfl rfl)
  · exact CoreSt.Settled.retireBundle (h.advance.of_upkeep rfl rfl)

/-- Settles O19: a branch by the delay it opens, with its condition found by its number; a LOOP by the level it sets up. -/
theorem droverBranches : Obligations.DroverBranches := by
  unfold Obligations.DroverBranches
  refine ⟨fun s a f h => ?_, fun s a f h => State.goes_branch h rfl rfl rfl (fun _ => rfl) CoreSt.fly_nil,
    fun s a f h => State.goes_branch h rfl rfl rfl (fun _ => rfl) rfl, fun s a f h => State.goes_branch h rfl rfl rfl (fun _ => rfl) rfl,
    fun s a f h => State.goes_over h rfl rfl (fun _ => rfl) CoreSt.fly_nil (State.issuesAlone_settled h).over_loop CoreSt.over_loop⟩
  simp only [← CoreSt.cond_eq_getD]
  exact State.goes_branch h rfl rfl rfl (fun _ => rfl) CoreSt.fly_nil

end Sys2Proof.Machine
end

section
/-! PROOFS. Elements of a core's local memory (R97): 18 bits of memory that a store alone changes. -/

-- One proof at a time: the package as one text then takes less memory.
set_option Elab.async false

namespace Sys2Proof.Machine

open Sys2Proof

variable {s t : State} {a b c d e k n v j : Nat}

/-! ### Bits of memory -/

/-- Bit `b` of memory, counted from bit 0 of byte 0. -/
def State.memBit (s : State) (b : Nat) : Bool := (s.byte (b / 8)).toNat.testBit (b % 8)

theorem State.load_succ : s.load a (n + 1) = 2 ^ 8 * s.load (a + 1) n + (s.byte a).toNat := Nat.add_comm ..

theorem State.testBit_load : (s.load a n).testBit j = (decide (j < 8 * n) && s.memBit (8 * a + j)) := by
  induction n generalizing a j with
  | zero => simp [State.load, State.bytes, ofLeBytes]
  | succ n ih =>
    rw [State.load_succ, Nat.testBit_two_pow_mul_add _ (s.byte a).isLt, ih]
    by_cases hj : j < 8
    · rw [if_pos hj, State.memBit, show (8 * a + j) / 8 = a by omega, show (8 * a + j) % 8 = j by omega, decide_eq_true (by omega), Bool.true_and]
    · rw [if_neg hj, show 8 * (a + 1) + (j - 8) = 8 * a + j by omega]
      congr 1
      exact decide_eq_decide.2 (by omega)

/-- A store writes the bits of its bytes and no others. -/
theorem State.memBit_store : (s.store a n v).memBit b = if 8 * a ≤ b ∧ b < 8 * (a + n) then v.testBit (b - 8 * a) else s.memBit b := by
  split
  · next h =>
    have hbit : ((s.store a n v).load a n).testBit (b - 8 * a) = (v % 2 ^ (8 * n)).testBit (b - 8 * a) := by rw [State.load_store]
    rw [State.testBit_load, Nat.testBit_mod_two_pow, show 8 * a + (b - 8 * a) = b by omega, decide_eq_true (by omega), Bool.true_and, Bool.true_and] at hbit
    exact hbit
  · next h => rw [State.memBit, State.byte_store_outside (by omega), State.memBit]

/-! ### Elements (R97) -/

/-- The first bit of element `e` of core `c`. -/
def elemBit (c e : Nat) : Nat := 8 * localBase c + 18 * e

/-- The element as the 18 bits it is. -/
def State.elemWord (s : State) (c e : Nat) : Nat := s.load (localBase c + 18 * e / 8) 3 >>> (18 * e % 8)

theorem State.testBit_elemWord (hj : j < 18) : (s.elemWord c e).testBit j = s.memBit (elemBit c e + j) := by
  rw [State.elemWord, Nat.testBit_shiftRight, State.testBit_load, decide_eq_true (by omega), Bool.true_and, elemBit]
  congr 1
  omega

theorem signedOf_mod {w m : Nat} (h : v % 2 ^ w = m % 2 ^ w) : signedOf w v = signedOf w m := by
  rw [signedOf, signedOf, BitVec.eq_of_toNat_eq (x := BitVec.ofNat w v) (y := BitVec.ofNat w m) (by simpa using h)]

/-- An element is told by its bits. -/
theorem State.elem_of_bits (h : ∀ j, j < 18 → s.memBit (elemBit c e + j) = v.testBit j) : s.elem c e = signedOf 18 v := by
  refine signedOf_mod (Nat.eq_of_testBit_eq fun j => ?_)
  rw [Nat.testBit_mod_two_pow, Nat.testBit_mod_two_pow]
  by_cases hj : j < 18
  · rw [← h j hj, ← State.testBit_elemWord hj, State.elemWord]
  · rw [decide_eq_false hj, Bool.false_and, Bool.false_and]

/-- Writing an element writes its bits and no others. -/
theorem State.memBit_setElem {x : Int} : (s.setElem c e x).memBit b =
    if elemBit c e ≤ b ∧ b < elemBit c e + 18 then (unsignedOf 18 x).testBit (b - elemBit c e) else s.memBit b := by
  rw [State.setElem, State.memBit_store, elemBit]
  by_cases hb : 8 * (localBase c + 18 * e / 8) ≤ b ∧ b < 8 * (localBase c + 18 * e / 8 + 3)
  · rw [if_pos hb, testBit_setBits (by omega), State.testBit_load, show 8 * (localBase c + 18 * e / 8) + (b - 8 * (localBase c + 18 * e / 8)) = b by omega,
      decide_eq_true (by omega), Bool.true_and]
    by_cases hin : 8 * localBase c + 18 * e ≤ b ∧ b < 8 * localBase c + 18 * e + 18
    · rw [if_pos hin, if_neg (by omega), if_pos (by omega)]
      congr 1
      omega
    · rw [if_neg hin]
      split
      · rfl
      · rw [if_neg (by omega)]
  · rw [if_neg hb, if_neg (by omega)]

/-- Different elements have no bit in common. -/
theorem elemBit_apart (he : e < 116508) (hk : k < 116508) (h : ¬(d = c ∧ k = e)) : elemBit d k + 18 ≤ elemBit c e ∨ elemBit c e + 18 ≤ elemBit d k := by
  simp only [elemBit, localBase]
  rcases Nat.lt_trichotomy d c with hd | hd | hd <;> omega

theorem signedOf_unsignedOf {x : Int} (h1 : -131072 ≤ x) (h2 : x ≤ 131071) : signedOf 18 (unsignedOf 18 x) = x := by
  rw [signedOf, unsignedOf, BitVec.ofNat_toNat, BitVec.setWidth_eq, BitVec.toInt_ofInt, Int.bmod_def]
  split <;> omega

theorem State.elem_setElem_self {x : Int} (h1 : -131072 ≤ x) (h2 : x ≤ 131071) : (s.setElem c e x).elem c e = x := by
  refine (State.elem_of_bits fun j hj => ?_).trans (signedOf_unsignedOf h1 h2)
  rw [State.memBit_setElem, if_pos (by omega), show elemBit c e + j - elemBit c e = j by omega]

theorem State.elem_setElem_other {x : Int} (he : e < 116508) (hk : k < 116508) (h : ¬(d = c ∧ k = e)) : (s.setElem c e x).elem d k = s.elem d k := by
  refine State.elem_of_bits (v := s.elemWord d k) fun j hj => ?_
  have := elemBit_apart he hk h
  rw [State.memBit_setElem, if_neg (by omega), State.testBit_elemWord hj]

theorem State.byte_setElem_outside {x : Int} (h : a < localBase c + 18 * e / 8 ∨ localBase c + 18 * e / 8 + 2 < a) :
    (s.setElem c e x).byte a = s.byte a := State.byte_store_outside (by omega)

end Sys2Proof.Machine
end

section
/-! PROOFS. Local memory accesses of a bundle (R97–R104, R113, R128): what they deliver and store, and what becomes of one that fails. -/

-- One proof at a time: the package as one text then takes less memory.
set_option Elab.async false

namespace Sys2Proof.Machine

open Sys2Proof

variable {s t r : State} {a : Issue} {op : DrvOp} {c n pc e : Nat} {x : CoreSt} {rs : Res} {err : Raised} {v : Cause × Option (Bool × Nat)}
  {ps : List Part} {i : Instr}

/-! ### Memory alone tells what an access finds (R97) -/

theorem State.load_congr {b : Nat} (h : t.mem = s.mem) : t.load b n = s.load b n := congrArg ofLeBytes (State.bytes_congr h)

theorem State.elem_congr (h : t.mem = s.mem) : t.elem c e = s.elem c e := by
  rw [State.elem, State.load_congr h, State.elem]

theorem State.setElem_mem {v : Int} (h : t.mem = s.mem) : (t.setElem c e v).mem = (s.setElem c e v).mem := by
  rw [State.setElem, State.load_congr h]
  exact State.store_mem h

theorem State.putElems_mem {f : FmtL} {g : AddrGen} {ptr : Int} {v : Nat → Int} (h : t.mem = s.mem) :
    (t.putElems c f g ptr v).mem = (s.putElems c f g ptr v).mem := by
  unfold State.putElems
  induction FmtL.lanes f generalizing s t with
  | nil => exact h
  | cons j js ih =>
    rw [List.foldl_cons, List.foldl_cons]
    exact ih (State.setElem_mem h)

theorem State.Ran.good {W : Nat} (h : s.Ran r c x ps) (g : Good W r t) (qs : List Part) (hW : W = Part.mask qs)
    (hq : Part.cores ∉ qs ∧ Part.regs ∉ qs ∧ Part.straps ∉ qs ∧ Part.clk ∉ qs) : s.Ran t c x (ps ++ qs) := by
  obtain ⟨hcores, hregs, hstraps, hclk⟩ := hq
  have hsame (p : Part) (hp : p ∉ qs) : p.same r t := g.same_off qs hW hp
  exact {
    core := (State.core_congr (hsame .cores hcores)).trans h.core
    other := fun k hk => (State.core_congr (hsame .cores hcores)).trans (h.other k hk)
    cell := fun q hk => (congrArg (Cells.get 0 · q) (hsame .regs hregs)).trans (h.cell q hk)
    count := (State.rd_congr (hsame .regs hregs) (hsame .straps hstraps)).trans h.count
    same := fun p hp => by
      simp only [List.mem_append, not_or] at hp
      obtain ⟨hp, hps, hpq⟩ := hp
      exact Part.same_trans (h.same p (by simp only [List.mem_append, not_or]; exact ⟨hp, hps⟩)) (hsame p hpq)
    fixed := by simp [h.fixed, hstraps, hclk]
    req := h.req
    unasked := h.unasked.congr (hsame .cores hcores) }

/-! ### A fault that a bundle raises (R113, R114) -/

/-- A core in which a fault of the bundle at `pc` becomes pending. -/
def CoreSt.faulting (x : CoreSt) (pc : Nat) (k : Cause) : CoreSt := { x with trap := some ⟨3, pc, k, x.srBit 14⟩ }

theorem CoreSt.Settled.faulting {k : Cause} (h : x.Settled) : (x.faulting pc k).Settled := by
  obtain ⟨-, hrest⟩ := h
  refine ⟨fun t ht => ?_, hrest⟩
  rw [← Option.some.inj ht]
  exact (by decide : 1 < 3)

section
variable {k : Cause} {wh : Option (Bool × Nat)}

theorem State.raise_bare (ht : (s.core c).trap = none) : s.raise c pc (some (k, none)) = s.setCore c ((s.core c).faulting pc k) := by
  simp only [State.raise, ht, Option.isSome_none, Bool.false_eq_true, if_false]
  rfl

theorem State.raise_at {w : Bool} (ht : (s.core c).trap = none) : s.raise c pc (some (k, some (w, e))) =
    ((s.setCore c ((s.core c).faulting pc k)).wr (R.DRV_FAULT_ADDR_WORD c) (b2n w)).wr (R.DRV_FAULT_ADDR_ADDR c) e := by
  simp only [State.raise, ht, Option.isSome_none, Bool.false_eq_true, if_false]
  rfl

end

theorem State.SameRegs.wr_fault {f : Fld} {v : Nat} (hf : f.addr ∈ faultRegs c) : s.SameRegs (Heeded c) (s.wr f v) := .wr fun hb => hb.2.2 hf

theorem State.wr_faultAddr {w : Bool} : (((s.wr (R.DRV_FAULT_ADDR_WORD c) (b2n w)).wr (R.DRV_FAULT_ADDR_ADDR c) e).on (R.DRV_FAULT_ADDR_WORD c) = w) ∧
    ((s.wr (R.DRV_FAULT_ADDR_WORD c) (b2n w)).wr (R.DRV_FAULT_ADDR_ADDR c) e).rd (R.DRV_FAULT_ADDR_ADDR c) = e % 2 ^ 18 := by
  refine ⟨?_, State.rd_wr_self (by simp [R.DRV_FAULT_ADDR_ADDR])⟩
  rw [State.on, State.rd_wr_bits (f := R.DRV_FAULT_ADDR_ADDR c) (g := R.DRV_FAULT_ADDR_WORD c) rfl ⟨rfl, rfl⟩ (by simp [R.DRV_FAULT_ADDR_ADDR])
    (by simp [R.DRV_FAULT_ADDR_WORD]) (.inr (by simp [R.DRV_FAULT_ADDR_ADDR, R.DRV_FAULT_ADDR_WORD])), State.rd_wr_self (by simp [R.DRV_FAULT_ADDR_WORD])]
  cases w <;> rfl

/-- A bundle over with a fault at an address: its core is `x`, the fault's address is told, and no bundle waits to issue. -/
def State.faultEnd (r : State) (c : Nat) (x : CoreSt) (w : Bool) (e : Nat) : State :=
  ((r.wr (R.DRV_FAULT_ADDR_WORD c) (b2n w)).wr (R.DRV_FAULT_ADDR_ADDR c) e).setCore c x

theorem State.Ran.still_faultEnd {w : Bool} {y : CoreSt} (h : s.Ran r c x ps) (hx : x.stalled = none) (hy : y.Ended) :
    s.Still (r.faultEnd c y w e) c where
  stalled := by rw [State.faultEnd, State.core_setCore_self]; exact hy.2.1
  other k hk := by
    rw [State.faultEnd, State.core_setCore_other hk, State.core_congr State.wr_cores, State.core_congr State.wr_cores, h.other k hk]
  regs := by
    have hword (u : State) : u.SameRegs (Heeded c) (u.wr (R.DRV_FAULT_ADDR_WORD c) (b2n w)) := .wr_fault (by simp [faultRegs, R.DRV_FAULT_ADDR_WORD])
    have haddr (u : State) : u.SameRegs (Heeded c) (u.wr (R.DRV_FAULT_ADDR_ADDR c) e) := .wr_fault (by simp [faultRegs, R.DRV_FAULT_ADDR_ADDR])
    exact (((h.still .refl hx).regs.trans (hword r)).trans (haddr _)).trans .setCore
  clk := by rw [State.faultEnd, State.setCore_clk, State.wr_clk, State.wr_clk, h.clk]
  unasked := (h.unasked.congr (State.wr_cores.trans State.wr_cores)).setCore hy.2.2

theorem State.told_faultEnd {w : Bool} : ((r.faultEnd c x w e).coreCopies c).on (R.DRV_FAULT_ADDR_WORD c) = w ∧
    ((r.faultEnd c x w e).coreCopies c).rd (R.DRV_FAULT_ADDR_ADDR c) = e % 2 ^ 18 := by
  have hw : (R.DRV_FAULT_ADDR_WORD c).addr = 0x3080000C + 65536 * c := rfl
  have ha : (R.DRV_FAULT_ADDR_ADDR c).addr = 0x3080000C + 65536 * c := rfl
  rw [State.on_coreCopies (by omega) (by omega), State.rd_coreCopies (by omega) (by omega), State.faultEnd,
    State.on_congr State.regs_setCore State.straps_setCore, State.rd_congr State.regs_setCore State.straps_setCore]
  exact State.wr_faultAddr

theorem State.same_faultEnd {w : Bool} {p : Part} (hp : p ∉ [Part.cores, .regs]) : p.same r ((r.faultEnd c x w e).coreCopies c) := by
  have hcores : p ≠ .cores := fun h => hp (by simp [h])
  have hregs : p ≠ .regs := fun h => hp (by simp [h])
  exact Part.same_trans (Part.same_trans (State.same_wr hregs) (State.same_wr hregs))
    (Part.same_trans (State.same_setCore hcores) (State.same_coreCopies hregs))

/-! ### Bundles of a local access -/

/-- The instructions that reach the core's local memory. -/
def DrvOp.reachesLocal : DrvOp → Bool
  | .ldv _ | .stv _ | .sta _ | .stas _ | .ldw _ | .stw _ => true
  | _ => false

theorem CoreSt.regRes_local (h : DrvOp.reachesLocal op = true) : x.regRes op = [] := by
  cases op <;> first | rfl | exact nomatch h

theorem State.doPort_local (h : DrvOp.reachesLocal op = true) : s.doPort c x op = (s, none, none) := by
  cases op <;> first | rfl | exact nomatch h

theorem CoreSt.over_local {y : CoreSt} (h : DrvOp.reachesLocal op = true) : y.over x op = y.finish := by
  cases op <;> first | rfl | exact nomatch h

/-- A bundle whose one access is local, in either slot: results go into flight, a fault is raised, and the bundle is over. -/
theorem State.runBundle_local (ho : DrvOp.reachesLocal op = true)
    (hd : s.doMem c (s.core c) (fun n => ((s.core c).ag n).ptr) op = ⟨t, rs, err⟩) (hc : t.core c = s.core c)
    (hr : (t.setCore c ((s.core c).fly rs)).raise c (s.core c).pc err = r) :
    s.runBundle c (Issue.slots a op).1 (Issue.slots a op).2 = r.setCore c (r.core c).finish := by
  have hnop : (s.core c).regRes .nop = [] := rfl
  have hptr : (s.core c).slot1Ptr .nop = fun n => ((s.core c).ag n).ptr := rfl
  unfold State.runBundle Issue.slots
  cases a.slot1
  · simp only [Bool.false_eq_true, if_false, hd, State.doMem_regOnly (op := .nop) rfl, CoreSt.regRes_local ho, hnop, List.nil_append, List.append_nil, hc,
      State.doPort_regOnly (op := .nop) rfl, hr, CoreSt.over_regOnly (op := .nop) rfl]
    rfl
  · simp only [if_true, State.doMem_regOnly (op := .nop) rfl, hptr, hd, CoreSt.regRes_local ho, hnop, List.nil_append, hc, State.doPort_local ho,
      CoreSt.over_local ho]
    rw [← hr]
    rfl

section
variable (h : s.issuesAlone a op) (ho : DrvOp.reachesLocal op = true) (he : exec i s = .next (s.command a op))
include h ho he

/-- The command of an access that succeeds. -/
theorem State.goes_local (hd : (s.readied a.core.val).doMem a.core.val (s.core a.core.val) (fun n => ((s.core a.core.val).ag n).ptr) op = ⟨t, rs, none⟩)
    (ht : s.Ran t a.core.val (s.core a.core.val) ps) :
    ∃ u : State, exec i s = .next u ∧ u.mem = t.mem ∧ s.coreGoes a.core.val ((s.core a.core.val).fly rs).finish [] ps u := by
  have hran := State.issuesAlone_ran h
  have hend := ((State.issuesAlone_settled h).fly (rs := rs)).finish
  rw [← hran.core] at hd
  have hrun := State.runBundle_local (a := a) ho hd (ht.core.trans hran.core.symm) rfl
  rw [hran.core] at hrun
  obtain ⟨hexec, hgoes⟩ := State.goes_of_ran h he hrun .refl (State.Ran.finish (ht.setCore hran.req)) hend
  exact ⟨_, hexec, by rw [State.coreCopies_mem]; rfl, hgoes⟩

/-- The command of a load. -/
theorem State.gives_local (hd : ∀ u : State, u.mem = s.mem →
    u.doMem a.core.val (s.core a.core.val) (fun n => ((s.core a.core.val).ag n).ptr) op = ⟨u, rs, none⟩) : s.gives a i rs := by
  have hran := State.issuesAlone_ran h
  obtain ⟨t, hexec, -, hgoes⟩ := State.goes_local h ho he (hd _ (hran.same .mem (by decide))) hran
  exact ⟨t, hexec, hgoes⟩

/-- The command of a store, `m` being what it makes of the memory. -/
theorem State.stores_local (m : State → State) (hd : ∀ u : State,
      u.doMem a.core.val (s.core a.core.val) (fun n => ((s.core a.core.val).ag n).ptr) op = ⟨m u, rs, none⟩)
    (hm : ∀ u : State, u.mem = s.mem → (m u).mem = (m s).mem) (hg : ∀ u, Good (Part.mask [.mem]) u (m u)) :
    ∃ t : State, exec i s = .next t ∧ t.mem = (m s).mem ∧ s.coreGoes a.core.val ((s.core a.core.val).fly rs).finish [] [.mem] t := by
  have hran := State.issuesAlone_ran h
  obtain ⟨t, hexec, hmem, hgoes⟩ := State.goes_local h ho he (hd _) (hran.good (hg _) [.mem] rfl (by decide))
  exact ⟨t, hexec, hmem.trans (hm _ (hran.same .mem (by decide))), hgoes⟩

/-- The command of an access that is suppressed: the ACCESS fault is pending with two more bundles to issue, and DRV_FAULT_ADDR tells where. -/
theorem State.faults_local {w : Bool}
    (hd : ∀ u : State, u.doMem a.core.val (s.core a.core.val) (fun n => ((s.core a.core.val).ag n).ptr) op = ⟨u, rs, some (.access, some (w, e))⟩) :
    ∃ t : State, exec i s = .next t ∧ t.core a.core.val = ({ (s.core a.core.val).fly rs with
        trap := some ⟨3, (s.core a.core.val).pc, .access, (s.core a.core.val).srBit 14⟩ }).finish ∧
      t.on (R.DRV_FAULT_ADDR_WORD a.core.val) = w ∧ t.rd (R.DRV_FAULT_ADDR_ADDR a.core.val) = e % 2 ^ 18 ∧
      ∀ p, p ∉ [Part.cores, .regs] → Part.same p s t := by
  have hran := State.issuesAlone_ran h
  have hstall := State.issuesAlone_stalled h
  have hend := ((State.issuesAlone_settled h).fly (rs := rs)).faulting (pc := (s.core a.core.val).pc) (k := .access) |>.finish
  have htrap : (((s.readied a.core.val).setCore a.core.val ((s.core a.core.val).fly rs)).core a.core.val).trap = none := by
    rw [State.core_setCore_self]; exact State.issuesAlone_trap h
  have hrun := State.runBundle_local (a := a) (s := s.readied a.core.val) (c := a.core.val) (rs := rs) ho (by rw [hran.core]; exact hd _) rfl rfl
  have hlast := (hran.setCore (y := (s.core a.core.val).fly rs) hran.req).setCore
    (y := ((s.core a.core.val).fly rs).faulting (s.core a.core.val).pc .access) hran.req
  rw [hran.core, State.raise_at htrap, State.core_setCore_self, State.core_congr State.wr_cores, State.core_congr State.wr_cores, hlast.core] at hrun
  have hcmd := State.command_alone_ends h hrun (hlast.still_faultEnd hstall hend) (by rw [State.core_setCore_self]; exact hend.1)
  exact ⟨_, he.trans (congrArg _ hcmd), by rw [State.core_coreCopies, State.core_setCore_self]; rfl, State.told_faultEnd.1,
    State.told_faultEnd.2, fun p hp => Part.same_trans (hlast.same p hp) (State.same_faultEnd hp)⟩

end

/-! ### Accesses of format L (R100, R101, R103, R104) -/

section
variable {f : FmtL} {ptr : Int}

/-- What an access of format L makes of its pointer. -/
def FmtL.moved (f : FmtL) (g : AddrGen) (ptr : Int) : Res := if f.upd then [(1, .agPtr f.ag.toNat (g.next ptr))] else []

theorem State.doL_ldv (herr : FmtL.fault f (x.ag f.ag.toNat) ptr = none) : s.doL c x ptr (.ldv f) f =
    ⟨s, FmtL.moved f (x.ag f.ag.toNat) ptr ++ (FmtL.lanes f).map (fun i =>
      (3, x.laneWr f.k f.reg.toNat i (s.elem c ((x.ag f.ag.toNat).addr ptr (FmtL.off f i)).toNat))), none⟩ := by
  simp [State.doL, FmtL.moved, herr]

theorem State.doL_ldv_fault (herr : FmtL.fault f (x.ag f.ag.toNat) ptr = some v) : s.doL c x ptr (.ldv f) f =
    ⟨s, FmtL.moved f (x.ag f.ag.toNat) ptr ++ (FmtL.lanes f).map (fun i => (3, x.laneWr f.k f.reg.toNat i 0)), some v⟩ := by
  simp [State.doL, FmtL.moved, herr]

theorem State.doL_stv (herr : FmtL.fault f (x.ag f.ag.toNat) ptr = none) : s.doL c x ptr (.stv f) f =
    ⟨s.putElems c f (x.ag f.ag.toNat) ptr (fun i => x.lane f.k f.reg.toNat i), FmtL.moved f (x.ag f.ag.toNat) ptr, none⟩ := by
  simp [State.doL, FmtL.moved, herr]

theorem State.doL_stv_fault (herr : FmtL.fault f (x.ag f.ag.toNat) ptr = some v) : s.doL c x ptr (.stv f) f =
    ⟨s, FmtL.moved f (x.ag f.ag.toNat) ptr, some v⟩ := by
  simp [State.doL, FmtL.moved, herr]

theorem State.doL_sta (herr : FmtL.fault f (x.ag f.ag.toNat) ptr = none) : s.doL c x ptr (.sta f) f =
    ⟨s.putElems c f (x.ag f.ag.toNat) ptr (fun i => sat17 (x.narrow (bitOf f.reg.toNat 5) (f.reg.toNat % 32) i)),
      FmtL.moved f (x.ag f.ag.toNat) ptr ++
        ssat ((FmtL.lanes f).any (fun i => sat17Hit (x.narrow (bitOf f.reg.toNat 5) (f.reg.toNat % 32) i))), none⟩ := by
  simp [State.doL, FmtL.moved, herr]

theorem State.doL_stas {sh : Nat} (herr : FmtL.fault f (x.ag f.ag.toNat) ptr = none)
    (hsh : x.scaleShift (bitOf f.reg.toNat 5) (FmtL.lanes f) (x.scl (bitsOf f.reg.toNat 1 0)).s 16 = sh) : s.doL c x ptr (.stas f) f =
    ⟨s.putElems c f (x.ag f.ag.toNat) ptr (fun i => x.narrow (bitOf f.reg.toNat 5) sh i),
      FmtL.moved f (x.ag f.ag.toNat) ptr ++ [(3, .sclMove (bitsOf f.reg.toNat 1 0) sh
        ((FmtL.lanes f).foldl (fun m i => max m (x.narrow (bitOf f.reg.toNat 5) sh i).natAbs) 0))], none⟩ := by
  simp [State.doL, FmtL.moved, herr, hsh]

/-- The lanes that a shift leaves within 18 bits. -/
theorem any_sat17Hit {ls : List Nat} {v : Nat → Int} :
    ls.any (fun i => sat17Hit (v i)) = !ls.all (fun i => decide (-131072 ≤ v i) && decide (v i ≤ 131071)) := by
  have hit (i : Nat) : sat17Hit (v i) = !(decide (-131072 ≤ v i) && decide (v i ≤ 131071)) := by
    rw [sat17Hit, Bool.eq_iff_iff]
    simp
  simp only [hit, List.not_all_eq_any_not]

/-- The shift of a scaling move is the least for which every lane fits. -/
theorem CoreSt.scaleShift_eq {b : Bool} {ls : List Nat} {k sh : Nat} (h1 : k ≤ sh) (h2 : sh < k + n)
    (hf : ls.any (fun i => sat17Hit (x.narrow b sh i)) = false) (hl : ∀ j, k ≤ j → j < sh → ls.any (fun i => sat17Hit (x.narrow b j i)) = true) :
    x.scaleShift b ls k n = sh := by
  induction n generalizing k with
  | zero => omega
  | succ n ih =>
    rw [CoreSt.scaleShift]
    rcases Nat.eq_or_lt_of_le h1 with rfl | hlt
    · rw [if_neg (by rw [hf]; exact Bool.false_ne_true)]
    · rw [if_pos (hl k (Nat.le_refl _) hlt), ih hlt (by omega) fun j hj => hl j (by omega)]

end

/-! ### Word accesses (R101) -/

theorem wordFault_none {b : Nat} (h : b ≤ 0x3FFFC) : wordFault b = none := if_neg (by omega)

theorem wordFault_some {b : Nat} (h : 0x3FFFC < b) : wordFault b = some (.access, some (true, b % 2 ^ 18)) := if_pos h

section
variable {f : FmtW} {q : Nat → Int}

theorem State.doMem_ldw (h : x.wordAddr f ≤ 0x3FFFC) : s.doMem c x q (.ldw f) =
    ⟨s, [(3, .x f.xd.toNat (s.load (localBase c + x.wordAddr f) 4))], none⟩ := by
  simp [State.doMem, wordFault_none h]

theorem State.doMem_stw (h : x.wordAddr f ≤ 0x3FFFC) : s.doMem c x q (.stw f) =
    ⟨s.store (localBase c + x.wordAddr f) (if x.wordAddr f = 0x3FFFC then 3 else 4) (x.xr f.xd.toNat), [], none⟩ := by
  simp [State.doMem, wordFault_none h]

theorem State.doMem_stw_fault (h : 0x3FFFC < x.wordAddr f) : s.doMem c x q (.stw f) =
    ⟨s, [], some (.access, some (true, x.wordAddr f % 2 ^ 18))⟩ := by
  simp [State.doMem, wordFault_some h]

end

/-- Settles O17: what the access leaves of itself is its pointer and the zeros of a load; the bundle then ends with the fault pending. -/
theorem droverAccessFaults : Obligations.DroverAccessFaults := by
  unfold Obligations.DroverAccessFaults
  refine ⟨fun s a f e h hf => State.faults_local h rfl rfl fun u => State.doL_ldv_fault hf,
    fun s a f e h hf => State.faults_local h rfl rfl fun u => State.doL_stv_fault hf, fun s a f h hf => ?_⟩
  have hgoes := State.faults_local (i := .drvStw a f) h rfl rfl fun u => State.doMem_stw_fault hf
  rwa [CoreSt.fly_nil, Nat.mod_mod] at hgoes

/-- Settles O16: a load finds what memory held before the bundle; a store makes of memory what the same elements make of it before the bundle. -/
theorem droverAndElementMemory : Obligations.DroverAndElementMemory := by
  unfold Obligations.DroverAndElementMemory
  refine ⟨fun s a f h hf => ?_, fun s a f h hf => ?_, fun s a f h hf => ?_, fun s a f h hf => ?_, fun s a f sh h hf => ?_, fun s a f h hf => ?_, ?_⟩
  · refine State.gives_local h rfl rfl fun u hu => (State.doL_ldv hf).trans ?_
    simp only [State.elem_congr hu]
    rfl
  · refine State.gives_local h rfl rfl fun u hu => ?_
    rw [State.doMem_ldw hf, State.load_congr hu]
    rfl
  · exact State.stores_local h rfl rfl (fun u => u.putElems ..) (fun u => State.doL_stv hf) (fun u => State.putElems_mem)
      (fun u => State.putElems_good ..)
  · exact State.stores_local h rfl rfl (fun u => u.putElems ..) (fun u => State.doL_sta hf) (fun u => State.putElems_mem)
      (fun u => State.putElems_good ..)
  · intro x g ls v fits hlo hhi hfit hleast
    have hsh := CoreSt.scaleShift_eq (x := s.core a.core.val) (b := bitOf f.reg.toNat 5) (ls := FmtL.lanes f) (n := 16) hlo hhi
      (any_sat17Hit.trans (congrArg not hfit)) fun k hk hlt => any_sat17Hit.trans (congrArg not (hleast k hk hlt))
    exact State.stores_local h rfl rfl (fun u => u.putElems ..) (fun u => State.doL_stas hf hsh) (fun u => State.putElems_mem)
      (fun u => State.putElems_good ..)
  · have hgoes := State.stores_local (i := .drvStw a f) h rfl rfl (fun u => u.store ..) (fun u => State.doMem_stw hf)
      (fun u => State.store_mem) (fun u => State.store_good ..)
    rwa [CoreSt.fly_nil] at hgoes
  · intro s c e v he h1 h2
    exact ⟨State.elem_setElem_self h1 h2, fun d k hk hne => State.elem_setElem_other he hk hne,
      fun a ha => State.byte_setElem_outside (by simp only [localBase]; omega),
      fun p hp => (State.setElem_good s c e v).same_off [.mem] rfl (by simpa using hp)⟩

end Sys2Proof.Machine
end

section
/-! PROOFS. Faults of a Drover core (R95, R113–R116): those that become pending, and the one that is taken. -/

-- One proof at a time: the package as one text then takes less memory.
set_option Elab.async false

namespace Sys2Proof.Machine

open Sys2Proof

variable {s t u r : State} {a : Issue} {op : DrvOp} {c n pc : Nat} {x y : CoreSt} {k : Cause} {nested : Bool} {ps : List Part} {i : Instr}

/-! ### Illegal bundles (R95) -/

/-- NOP may stand in either slot. -/
theorem State.issuesAlone_nop_slot {b : Bool} (h : s.issuesAlone a .nop) : s.issuesAlone { a with slot1 := b } .nop := by
  simpa [State.issuesAlone] using h

theorem CoreSt.illegal_of_slot {p q : DrvOp} (h : DrvOp.slotOk false p = false ∨ DrvOp.slotOk true q = false) : x.illegal p q = true := by
  rcases h with h | h <;> simp [CoreSt.illegal, h]

theorem CoreSt.illegal_of_handler {p q : DrvOp} (hi : x.srBit 14 = true) (hq : DrvOp.isPort q = true) : x.illegal p q = true := by
  simp [CoreSt.illegal, hi, hq]

/-- The command of a bundle that is illegal where one of NOPs would issue. -/
theorem State.goes_illegal (h : s.issuesAlone a .nop) (he : exec i s = .next (s.command a op))
    (hl : (s.core a.core.val).illegal (Issue.slots a op).1 (Issue.slots a op).2 = true) :
    ∃ t : State, exec i s = .next t ∧
      s.coreGoes a.core.val ((s.core a.core.val).faulting (s.core a.core.val).pc .illegal).finish [] [] t := by
  have hran := State.issuesAlone_ran h
  have hset := (State.issuesAlone_settled h).faulting (pc := (s.core a.core.val).pc) (k := .illegal)
  have htrap : ((s.readied a.core.val).core a.core.val).trap = none := hran.core.symm ▸ State.issuesAlone_trap h
  have hissue := State.issue_illegal hl rfl
  rw [State.raise_bare htrap, hran.core] at hissue
  have hlast := (hran.setCore (y := (s.core a.core.val).faulting (s.core a.core.val).pc .illegal) hran.req).finish
  obtain ⟨hp, hi, -, -, hb, hs, -, -⟩ := h
  have hcmd := State.command_ends hp hi hs hb hissue (hlast.still .refl hset.finish.2.1) (hlast.core.symm ▸ hset.finish.1)
  exact ⟨_, he.trans (congrArg _ hcmd), hlast.coreGoes a.core.isLt⟩

/-! ### Task faults (R109, R110) -/

/-- The command of a port that raises TASK. -/
theorem State.goes_taskFault (h : s.issuesAlone a op) (ho : DrvOp.control op = true) (he : exec i s = .next (s.command a op))
    (hfly : (s.core a.core.val).regRes op = []) (hover : ∀ y : CoreSt, y.over (s.core a.core.val) op = y.finish)
    (hp : ∀ u : State, u.core a.core.val = s.core a.core.val → u.doPort a.core.val (s.core a.core.val) op = (u, none, some (.task, none))) :
    ∃ t : State, exec i s = .next t ∧
      s.coreGoes a.core.val ((s.core a.core.val).faulting (s.core a.core.val).pc .task).finish [] [] t := by
  have hran := State.issuesAlone_ran h
  have hset := (State.issuesAlone_settled h).faulting (pc := (s.core a.core.val).pc) (k := .task)
  have hrun := State.runBundle_raises (s := s.readied a.core.val) (c := a.core.val) ho
    (by rw [hran.core, hfly, CoreSt.fly_nil]; exact hp _ State.core_setCore_self)
  have htrap : (((s.readied a.core.val).setCore a.core.val (s.core a.core.val)).core a.core.val).trap = none :=
    State.core_setCore_self.symm ▸ State.issuesAlone_trap h
  rw [hran.core, State.raise_bare htrap, State.core_setCore_self, hover] at hrun
  have hlast := ((hran.setCore hran.req).setCore (y := (s.core a.core.val).faulting (s.core a.core.val).pc .task) hran.req).finish
  exact ⟨_, State.goes_control h ho he hrun .refl hlast hset.finish⟩

/-! ### The fault that is taken (R114, R116) -/

theorem CoreSt.task_drain : x.drain.task = x.task := by
  have hsettle (m : Nat) (y : CoreSt) : (y.settle m).upkeep = y.upkeep := by
    induction m generalizing y with
    | zero => rfl
    | succ m ih =>
      unfold CoreSt.settle
      split
      · rfl
      · rw [ih, CoreSt.upkeep_nextCycle]
  have harrive (y : CoreSt) (p : PortRead) : (y.arrive p).upkeep = y.upkeep := by
    refine foldl_keeps CoreSt.upkeep (fun z w => ?_) _ _
    split <;> exact CoreSt.upkeep_applyOn
  exact congrArg (·.2.2.2) ((foldl_keeps CoreSt.upkeep harrive _ _).trans (hsettle 8 x))

/-- The core that enters the handler of a fault, drained. -/
def CoreSt.handling (x : CoreSt) : CoreSt := { x with trap := none, ipc := x.pc, isr := x.sr, sr := (x.sr &&& 0x430F) ||| 0x4000, pc := 8 }

/-- The registers that tell of the fault. -/
def State.tellFault (s : State) (c pc : Nat) (k : Cause) : State :=
  ((s.wr (R.DRV_FAULT_PC_PC c) pc).flag (causeFld c k)).bump (R.DRV_CNT_FAULT_VALUE c)

/-- A core that stops with a double fault. -/
def State.stopDouble (s : State) (c : Nat) : State := ((s.setCoreState c 4).flag (R.DRV_STATUS_DOUBLE c)).wr (R.DRV_CTRL_ROT c) 0

theorem State.cores_tellFault : (s.tellFault c pc k).cores = s.cores := State.bump_cores.trans (State.flag_cores.trans State.wr_cores)

theorem State.cores_stopDouble : (s.stopDouble c).cores = s.cores := State.wr_cores.trans (State.flag_cores.trans State.wr_cores)

theorem State.enterTrap_nested {t : Trap} (ht : t.nested = true) (hk : (s.core c).task = none) : s.enterTrap c t =
    ((((s.tellFault c t.pc t.cause).setCore c { (s.core c).drain with trap := none, delay := none }).stopDouble c).coreCopies c).coreCopies c := by
  unfold State.enterTrap
  simp only [ht, if_true]
  rw [State.dropTask_none]
  · rfl
  · change (State.core (State.coreCopies (State.stopDouble _ c) c) c).task = none
    rw [State.core_coreCopies, State.core_congr State.cores_stopDouble, State.core_setCore_self]
    exact CoreSt.task_drain.trans hk

theorem State.enterTrap_single {t : Trap} (ht : t.nested = false) : s.enterTrap c t =
    ((s.tellFault c t.pc t.cause).setCore c (s.core c).drain.handling).coreCopies c := by
  unfold State.enterTrap
  simp only [ht, Bool.false_eq_true, if_false]
  rfl

/-! ### What the registers tell of it -/

/-- DRV_FAULT_PC, the bit of the cause and the counter of faults of core `c`. -/
structure State.Told (t : State) (c pc : Nat) (k : Cause) (n : Nat) : Prop where
  pc    : t.rd (R.DRV_FAULT_PC_PC c) = pc % 4096
  cause : t.on (causeFld c k) = true
  count : t.rd (R.DRV_CNT_FAULT_VALUE c) = n

theorem addr_faultPc : (R.DRV_FAULT_PC_PC c).addr = 0x30800008 + 65536 * c := rfl

theorem addr_faultCount : (R.DRV_CNT_FAULT_VALUE c).addr = 0x30800050 + 65536 * c := rfl

theorem addr_state : (R.DRV_STATUS_STATE c).addr = 0x30800004 + 65536 * c := rfl

theorem addr_double : (R.DRV_STATUS_DOUBLE c).addr = 0x30800004 + 65536 * c := rfl

/-- The bit of a cause is one of bits 8 to 10 of the core's status. -/
theorem causeFld_bit : (causeFld c k).addr = 0x30800004 + 65536 * c ∧ (causeFld c k).lo = (causeFld c k).hi ∧ 8 ≤ (causeFld c k).lo ∧
    (causeFld c k).hi ≤ 10 ∧ (causeFld c k).rst = 0 ∧ (causeFld c k).rst96 = 0 := by
  cases k <;> simp [causeFld, R.DRV_STATUS_ACCESS, R.DRV_STATUS_ILLEGAL, R.DRV_STATUS_TASK]

theorem State.told_tellFault : (s.tellFault c pc k).Told c pc k (min 0xFFFFFFFF (s.rd (R.DRV_CNT_FAULT_VALUE c) + 1)) := by
  obtain ⟨haddr, hlo, -⟩ := causeFld_bit (c := c) (k := k)
  have hpc := addr_faultPc (c := c)
  have hcnt := addr_faultCount (c := c)
  refine ⟨?_, ?_, ?_⟩
  · rw [State.tellFault, State.rd_bump_addr (by omega), State.rd_flag_addr (by omega), State.rd_wr_self (by simp [R.DRV_FAULT_PC_PC])]
    simp [R.DRV_FAULT_PC_PC]
  · rw [State.tellFault, State.on_of_rd (State.rd_bump_addr (by omega)), State.on_flag_self (by omega)]
  · rw [State.tellFault, State.rd_bump_self ⟨rfl, rfl⟩, State.rd_flag_addr (by omega), State.rd_wr_addr (by omega)]

theorem State.coreState_tellFault : (s.tellFault c pc k).coreState c = s.coreState c := by
  obtain ⟨haddr, hlo, h8, -, hr, hr96⟩ := causeFld_bit (c := c) (k := k)
  have hst := addr_state (c := c)
  have hpc := addr_faultPc (c := c)
  have hcnt := addr_faultCount (c := c)
  have hhi : (R.DRV_STATUS_STATE c).hi = 2 := rfl
  rw [State.tellFault, State.coreState, State.rd_bump_addr (by omega), State.flag,
    State.rd_wr_bits (hst.trans haddr.symm) ⟨hr.symm, hr96.symm⟩ (by omega) (by simp [R.DRV_STATUS_STATE]) (.inl (by omega)),
    State.rd_wr_addr (by omega)]
  rfl

theorem State.Told.setCore (h : t.Told c pc k n) : (t.setCore c y).Told c pc k n :=
  ⟨(State.rd_congr rfl rfl).trans h.pc, (State.on_congr rfl rfl).trans h.cause, (State.rd_congr rfl rfl).trans h.count⟩

theorem State.Told.coreCopies (h : t.Told c pc k n) (hc : c < 32) : (t.coreCopies c).Told c pc k n := by
  obtain ⟨haddr, hlo, h8, -⟩ := causeFld_bit (c := c) (k := k)
  have hpc := addr_faultPc (c := c)
  have hcnt := addr_faultCount (c := c)
  exact ⟨(State.rd_coreCopies (by omega) (by omega)).trans h.pc,
    (State.on_of_rd (State.rd_coreCopies_bits (by omega) (by omega) (.inr (by omega)))).trans h.cause,
    (State.rd_coreCopies (by omega) (by omega)).trans h.count⟩

theorem State.Told.stopDouble (h : t.Told c pc k n) : (t.stopDouble c).Told c pc k n := by
  obtain ⟨haddr, hlo, h8, h10, hr, hr96⟩ := causeFld_bit (c := c) (k := k)
  have hst := addr_state (c := c)
  have hdb := addr_double (c := c)
  have hrot := addr_ctrl_rot (i := c)
  have hother (g : Fld) (h0 : g.addr ≠ 0x30800000 + 65536 * c) (h4 : g.addr ≠ 0x30800004 + 65536 * c) : (t.stopDouble c).rd g = t.rd g := by
    rw [State.stopDouble, State.rd_wr_addr (by omega), State.rd_flag_addr (by omega)]
    exact State.rd_wr_addr (by omega)
  refine ⟨(hother _ (by simp [R.DRV_FAULT_PC_PC]) (by simp [R.DRV_FAULT_PC_PC])).trans h.pc, ?_,
    (hother _ (by simp [R.DRV_CNT_FAULT_VALUE]) (by simp [R.DRV_CNT_FAULT_VALUE])).trans h.count⟩
  refine (State.on_of_rd ?_).trans h.cause
  have hsthi : (R.DRV_STATUS_STATE c).hi = 2 := rfl
  have hdblo : (R.DRV_STATUS_DOUBLE c).lo = 11 := rfl
  rw [State.stopDouble, State.rd_wr_addr (by omega), State.flag,
    State.rd_wr_bits (haddr.trans hdb.symm) ⟨hr, hr96⟩ (Nat.le_refl _) (by omega) (.inl (by omega))]
  exact State.rd_wr_bits (haddr.trans hst.symm) ⟨hr, hr96⟩ (by simp [R.DRV_STATUS_STATE]) (by omega) (.inr (by omega))

/-- STATE 4, DOUBLE, and out of rotation. -/
def State.Stopped (t : State) (c : Nat) : Prop := t.coreState c = 4 ∧ t.on (R.DRV_STATUS_DOUBLE c) = true ∧ t.inRot c = false

theorem State.stopped_stopDouble : (s.stopDouble c).Stopped c := by
  have hst : (R.DRV_STATUS_STATE c).addr ≠ (R.DRV_CTRL_ROT c).addr := by simp [R.DRV_STATUS_STATE, R.DRV_CTRL_ROT]
  have hdb : (R.DRV_STATUS_DOUBLE c).addr ≠ (R.DRV_CTRL_ROT c).addr := by simp [R.DRV_STATUS_DOUBLE, R.DRV_CTRL_ROT]
  refine ⟨?_, (State.on_of_rd (State.rd_wr_addr hdb)).trans (State.on_flag_self (Nat.le_refl _)), ?_⟩
  · rw [State.coreState, State.stopDouble, State.rd_wr_addr hst, State.flag,
      State.rd_wr_bits (f := R.DRV_STATUS_DOUBLE c) (g := R.DRV_STATUS_STATE c) rfl ⟨rfl, rfl⟩ (Nat.le_refl _) (by simp [R.DRV_STATUS_STATE])
      (.inl (by simp [R.DRV_STATUS_STATE, R.DRV_STATUS_DOUBLE]))]
    exact State.coreState_setCoreState
  · rw [State.inRot, State.on, State.stopDouble, State.rd_wr_self (Nat.le_refl _)]
    simp

theorem State.Stopped.coreCopies (h : t.Stopped c) (hc : c < 32) : (t.coreCopies c).Stopped c := by
  obtain ⟨h4, hd, hr⟩ := h
  have hdb := addr_double (c := c)
  have hdlo : (R.DRV_STATUS_DOUBLE c).lo = 11 := rfl
  have hrot := addr_ctrl_rot (i := c)
  exact ⟨(State.coreState_coreCopies hc).trans h4, (State.on_of_rd (State.rd_coreCopies_bits (Nat.le_refl _) (by omega) (.inr (by omega)))).trans hd,
    (State.on_of_rd (State.rd_coreCopies (by omega) (by omega))).trans hr⟩

/-! ### What it leaves -/

theorem State.SameRegs.wr_own {f : Fld} {v : Nat} (hf : f.addr ∈ ownRegs c) : s.SameRegs (Heeded c) (s.wr f v) := .wr fun hb => hb.2.1 hf

theorem State.SameRegs.tellFault : s.SameRegs (Heeded c) (s.tellFault c pc k) := by
  have hpc (u : State) : u.SameRegs (Heeded c) (u.wr (R.DRV_FAULT_PC_PC c) pc) := .wr_fault (by simp [faultRegs, R.DRV_FAULT_PC_PC])
  have hcause (u : State) : u.SameRegs (Heeded c) (u.flag (causeFld c k)) := .wr_own (by simp [ownRegs, causeFld_bit.1])
  have hcount (u : State) : u.SameRegs (Heeded c) (u.bump (R.DRV_CNT_FAULT_VALUE c)) := .bump fun hb => hb.2.2 (by simp [faultRegs, R.DRV_CNT_FAULT_VALUE])
  exact ((hpc s).trans (hcause _)).trans (hcount _)

theorem State.SameRegs.stopDouble : s.SameRegs (Heeded c) (s.stopDouble c) := by
  have hstate (u : State) : u.SameRegs (Heeded c) (u.setCoreState c 4) := .wr_own (by simp [ownRegs, R.DRV_STATUS_STATE])
  have hdouble (u : State) : u.SameRegs (Heeded c) (u.flag (R.DRV_STATUS_DOUBLE c)) := .wr_own (by simp [ownRegs, R.DRV_STATUS_DOUBLE])
  have hrot (u : State) : u.SameRegs (Heeded c) (u.wr (R.DRV_CTRL_ROT c) 0) := .wr_own (by simp [ownRegs, R.DRV_CTRL_ROT])
  exact ((hstate s).trans (hdouble _)).trans (hrot _)

theorem State.same_tellFault {p : Part} (hp : p ≠ .regs) : p.same s (s.tellFault c pc k) :=
  Part.same_trans (Part.same_trans (State.same_wr hp) (State.same_wr hp)) (State.same_bump hp)

theorem State.same_stopDouble {p : Part} (hp : p ≠ .regs) : p.same s (s.stopDouble c) :=
  Part.same_trans (Part.same_trans (State.same_wr hp) (State.same_wr hp)) (State.same_wr hp)

/-- Where a fault was taken from `s`, core `c` being `y` then: nothing waits to issue, and only cores and registers differ. -/
structure State.Taken (s t : State) (c : Nat) (y : CoreSt) : Prop where
  core : t.core c = y
  still : s.Still t c
  same : ∀ p, p ∉ [Part.cores, .regs] → Part.same p s t

theorem State.Taken.coreCopies (h : s.Taken t c y) : s.Taken (t.coreCopies c) c y where
  core := State.core_coreCopies.trans h.core
  still := h.still.coreCopies
  same p hp := Part.same_trans (h.same p hp) (State.same_coreCopies fun e => hp (by simp [e]))

theorem State.Taken.stopDouble (h : s.Taken t c y) : s.Taken (t.stopDouble c) c y where
  core := (State.core_congr State.cores_stopDouble).trans h.core
  still := {
    stalled := by rw [State.core_congr State.cores_stopDouble]; exact h.still.stalled
    other := fun d hd => (State.core_congr State.cores_stopDouble).trans (h.still.other d hd)
    regs := h.still.regs.trans .stopDouble
    clk := (State.same_stopDouble (p := .clk) nofun).trans h.still.clk
    unasked := h.still.unasked.congr State.cores_stopDouble }
  same p hp := Part.same_trans (h.same p hp) (State.same_stopDouble fun e => hp (by simp [e]))

/-- The registers tell of a fault and its core goes on as `y`. -/
theorem State.Still.taken (h : s.Still r c) (hsame : ∀ p, p ∉ [Part.cores, .regs] → Part.same p s r) (hy : y.stalled = none) (hreq : y.stepReq = false) :
    s.Taken ((r.tellFault c pc k).setCore c y) c y where
  core := State.core_setCore_self
  still := {
    stalled := State.core_setCore_self.symm ▸ hy
    other := fun d hd => (State.core_setCore_other hd).trans ((State.core_congr State.cores_tellFault).trans (h.other d hd))
    regs := (h.regs.trans .tellFault).trans .setCore
    clk := by rw [State.setCore_clk]; exact (State.same_tellFault (p := .clk) nofun).trans h.clk
    unasked := (h.unasked.congr State.cores_tellFault).setCore hreq }
  same p hp := by
    have hcores : p ≠ .cores := fun e => hp (by simp [e])
    have hregs : p ≠ .regs := fun e => hp (by simp [e])
    exact Part.same_trans (hsame p hp) (Part.same_trans (State.same_tellFault hregs) (State.same_setCore hcores))

theorem State.boundary_takes {t : Trap} (hd : (s.core c).delay = none) (hw : (s.core c).waiting = none) (hs : (s.core c).stalled = none)
    (ht : (s.core c).trap = some t) (h0 : t.left = 0) : s.boundary c = s.enterTrap c t := by
  simp [State.boundary, hd, hw, hs, ht, h0]

/-- A core runs NOP with a fault pending that is due. -/
structure State.Due (s : State) (a : Issue) (pc : Nat) (k : Cause) (nested : Bool) : Prop where
  alone  : a.partner = 0#32
  issues : s.issues a.core.val = true
  trap   : (s.core a.core.val).trap = some ⟨1, pc, k, nested⟩
  delay  : (s.core a.core.val).delay = none
  task   : (s.core a.core.val).task = none
  bkpts  : ∀ i, i < 4 → s.on (R.DRV_BKPT_EN a.core.val i) = false
  rests  : s.rests = true
  legal  : (s.core a.core.val).illegal .nop .nop = false

section
variable (h : s.Due a pc k nested)
include h

theorem State.Due.clocked : s.coreState a.core.val = 1 ∧ (s.core a.core.val).waiting = none ∧ (s.core a.core.val).stalled = none := by
  have hi := h.issues
  simp only [State.issues, Bool.and_eq_true, decide_eq_true_eq, Option.isNone_iff_eq_none] at hi
  obtain ⟨⟨⟨⟨h1, -⟩, -⟩, hw⟩, hst⟩ := hi
  exact ⟨h1, hw, hst⟩

/-- The bundle has run and its copies of SR are taken: the fault is due at the boundary. -/
theorem State.Due.ran : s.Ran ((s.readied a.core.val).runBundle a.core.val .nop .nop) a.core.val (s.core a.core.val).finish [] := by
  have hran := State.ran_nopBundle (State.unasked_of_rests h.rests) (State.rests_core (k := a.core.val) h.rests).1
  rwa [CoreSt.stepped, ← h.clocked.2.2] at hran

theorem State.Due.finish : (s.core a.core.val).finish.upkeep = (some ⟨0, pc, k, nested⟩, (s.core a.core.val).dbgPend, none, none) := by
  rw [CoreSt.upkeep_finish, h.trap, h.clocked.2.2, h.task]
  rfl

theorem State.Due.core_nopBundle : (s.nopBundle a.core.val).core a.core.val = (s.core a.core.val).finish :=
  State.core_coreCopies.trans h.ran.core

theorem State.Due.still : s.Still (s.nopBundle a.core.val) a.core.val :=
  (h.ran.still .refl (congrArg (·.2.2.1) h.finish)).coreCopies

theorem State.Due.same {p : Part} (hp : p ∉ [Part.cores, .regs]) : p.same s (s.nopBundle a.core.val) :=
  Part.same_trans (h.ran.same p hp) (State.same_coreCopies fun e => hp (by simp [e]))

theorem State.Due.boundary : (s.nopBundle a.core.val).boundary a.core.val = (s.nopBundle a.core.val).enterTrap a.core.val ⟨0, pc, k, nested⟩ := by
  refine State.boundary_takes ?_ ?_ ?_ ?_ rfl <;> rw [h.core_nopBundle]
  · rw [CoreSt.finish_undelayed h.delay, CoreSt.delay_retireBundle, CoreSt.delay_advance, h.delay]
  · exact (congrArg Prod.fst CoreSt.asked_finish).trans h.clocked.2.1
  · exact congrArg (·.2.2.1) h.finish
  · exact congrArg (·.1) h.finish

/-- The state the command leaves is that in which the fault is taken. -/
theorem State.Due.command {u : State} (hu : (s.nopBundle a.core.val).enterTrap a.core.val ⟨0, pc, k, nested⟩ = u) (hstill : s.Still u a.core.val) :
    exec (.drvNop a) s = .next u := by
  have hslots : Issue.slots a .nop = (.nop, .nop) := by cases e : a.slot1 <;> simp [Issue.slots, e]
  have hbreak : u.breaksAt a.core.val (s.core a.core.val).pc = false :=
    State.breaksAt_disarmed fun i h4 => (hstill.regs.on (heeded_bkpt a.core.isLt h4)).trans (h.bkpts i h4)
  refine congrArg Host.Outcome.next ?_
  rw [State.command_issue h.alone h.issues h.rests, hslots, State.issue_legal h.legal CoreSt.stalls_nops,
    State.endBundle_of_boundary (h.boundary.trans hu) hbreak, hstill.runSteps h.rests a.core.isLt]

theorem State.Due.told : ((s.nopBundle a.core.val).tellFault a.core.val pc k).Told a.core.val pc k
    (min 0xFFFFFFFF (s.rd (R.DRV_CNT_FAULT_VALUE a.core.val) + 1)) := by
  have hcnt := addr_faultCount (c := a.core.val)
  have hrd : (s.nopBundle a.core.val).rd (R.DRV_CNT_FAULT_VALUE a.core.val) = s.rd (R.DRV_CNT_FAULT_VALUE a.core.val) := by
    rw [State.nopBundle, State.rd_coreCopies (by omega) (by omega), h.ran.rd (by rw [addr_bundle]; omega)]
  rw [← hrd]
  exact State.told_tellFault

theorem State.Due.coreState : ((s.nopBundle a.core.val).tellFault a.core.val pc k).coreState a.core.val = 1 := by
  have hst := addr_state (c := a.core.val)
  rw [State.coreState_tellFault, State.nopBundle, State.coreState_coreCopies a.core.isLt, State.coreState, h.ran.rd (by rw [addr_bundle]; omega)]
  exact h.clocked.1

end

/-- A fault due while no handler runs: the handler is entered (R114). -/
theorem State.Due.enters (h : s.Due a pc k false) : ∃ t : State, exec (.drvNop a) s = .next t ∧
    t.Told a.core.val pc k (min 0xFFFFFFFF (s.rd (R.DRV_CNT_FAULT_VALUE a.core.val) + 1)) ∧
    s.Taken t a.core.val (s.core a.core.val).finish.drain.handling ∧ t.coreState a.core.val = 1 := by
  have htaken := (h.still.taken (pc := pc) (k := k) (y := (s.core a.core.val).finish.drain.handling) (fun _ => h.same) rfl
    ((congrArg Prod.snd (CoreSt.asked_drain.trans CoreSt.asked_finish)).trans (State.rests_core h.rests).1)).coreCopies
  have hu := State.enterTrap_single (s := s.nopBundle a.core.val) (c := a.core.val) (t := ⟨0, pc, k, false⟩) rfl
  rw [h.core_nopBundle] at hu
  refine ⟨_, h.command hu htaken.still, h.told.setCore.coreCopies a.core.isLt, htaken, ?_⟩
  rw [State.coreState_coreCopies a.core.isLt, State.coreState, State.rd_congr State.regs_setCore State.straps_setCore]
  exact h.coreState

/-- A fault due while the handler runs: the core stops (R116). -/
theorem State.Due.stops (h : s.Due a pc k true) : ∃ t : State, exec (.drvNop a) s = .next t ∧
    t.Told a.core.val pc k (min 0xFFFFFFFF (s.rd (R.DRV_CNT_FAULT_VALUE a.core.val) + 1)) ∧
    s.Taken t a.core.val { (s.core a.core.val).finish.drain with trap := none, delay := none } ∧ t.Stopped a.core.val := by
  have hc := a.core.isLt
  have htaken := (h.still.taken (pc := pc) (k := k) (y := { (s.core a.core.val).finish.drain with trap := none, delay := none }) (fun _ => h.same) rfl
    ((congrArg Prod.snd (CoreSt.asked_drain.trans CoreSt.asked_finish)).trans (State.rests_core h.rests).1)).stopDouble.coreCopies.coreCopies
  have hu := State.enterTrap_nested (s := s.nopBundle a.core.val) (c := a.core.val) (t := ⟨0, pc, k, true⟩) rfl
    (by rw [h.core_nopBundle]; exact congrArg (·.2.2.2) h.finish)
  rw [h.core_nopBundle] at hu
  exact ⟨_, h.command hu htaken.still, ((h.told.setCore.stopDouble).coreCopies hc).coreCopies hc, htaken,
    (State.stopped_stopDouble.coreCopies hc).coreCopies hc⟩

/-- Settles O18: a fault that is due is taken at the boundary, its handler entered or the core stopped as it says itself; the bundle that raises one does
nothing else. -/
theorem droverFaults : Obligations.DroverFaults := by
  unfold Obligations.DroverFaults
  refine ⟨fun s a pc k nested hp hi ht hd hk hb hs hl => ?_, fun s a f h _ hin => ?_, fun s a f h h1 => ?_, fun s a f h hk => ?_, fun s a f h ht => ?_,
    fun s a f h hk hf => ?_⟩
  · have hdue : s.Due a pc k nested := ⟨hp, hi, ht, hd, hk, hb, hs, hl⟩
    cases nested with
    | false =>
      obtain ⟨t, he, htold, htaken, hst⟩ := hdue.enters
      exact ⟨t, he, htold.pc, htold.cause, htold.count, htaken.still.other, htaken.same, fun _ => ⟨htaken.core, hst⟩, nofun⟩
    | true =>
      obtain ⟨t, he, htold, htaken, h4, hdb, hrot⟩ := hdue.stops
      exact ⟨t, he, htold.pc, htold.cause, htold.count, htaken.still.other, htaken.same, nofun, fun _ => ⟨h4, hdb, hrot, htaken.core⟩⟩
  · have hgoes := State.goes_illegal (i := .drvTake { a with slot1 := true } f) (op := .take f) (State.issuesAlone_nop_slot (b := true) h) rfl
      (CoreSt.illegal_of_handler hin rfl)
    rwa [CoreSt.faulting, hin] at hgoes
  · refine State.goes_illegal h rfl (CoreSt.illegal_of_slot (.inr ?_))
    rw [Issue.slots, h1]
    rfl
  · exact State.goes_taskFault h rfl rfl rfl (fun _ => rfl) fun u hu => by simp [State.doPort, hk]
  · exact State.goes_taskFault h rfl rfl rfl (fun _ => rfl) fun u hu => by simp [State.doPort, ht]
  · refine State.goes_taskFault h rfl rfl rfl (fun _ => rfl) fun u hu => ?_
    have hgive : u.give a.core.val = .fault := by simp [State.give, hu, hk, hf]
    simp [State.doPort, hgive]

end Sys2Proof.Machine
end

section
/-! PROOFS. What the Ostler's queues and the accumulators heed and leave (R65, R134, R140–R142): a descriptor enters and an accumulator is added to alike
whatever the core's own bundle has done. -/

-- One proof at a time: the package as one text then takes less memory.
set_option Elab.async false

namespace Sys2Proof.Machine

open Sys2Proof

variable {s t u w : State} {f g : Fld} {x : CoreSt} {A c n q j o k v : Nat} {d : Desc} {z : Int}

/-! ### What the issue of bundles heeds stands as it was -/

theorem State.SameIssue.of_good {W : Nat} (h : Good W s u) (hr : s.SameRegs Issuing u) (hcores : W.testBit Part.cores.idx = false)
    (hclk : W.testBit Part.clk.idx = false) : s.SameIssue u := ⟨h.same .cores hcores, hr, h.same .clk hclk⟩

theorem State.SameIssue.count (h : ¬ Issuing f.addr) : s.SameIssue (s.count f n) :=
  .of_good (State.count_good s f n) (.count h) (by decide) (by decide)

theorem State.SameIssue.wr (h : ¬ Issuing f.addr) : s.SameIssue (s.wr f v) := ⟨rfl, .wr h, rfl⟩

theorem State.SameIssue.store : s.SameIssue (s.store k n v) :=
  have h := State.store_good s k n v
  .of_good h (.of_eq (h.same .regs (by decide)) (h.same .straps (by decide))) (by decide) (by decide)

theorem State.SameIssue.setFlow {y : Flow} : s.SameIssue (s.setFlow k y) := ⟨rfl, .of_eq rfl rfl, rfl⟩

/-- OST_QLEVEL of a queue is heeded by the Ostler alone. -/
theorem State.SameIssue.setQueue {ds : List Desc} (hq : q < 64) : s.SameIssue (s.setQueue q ds) := by
  have hlevel : ¬ Issuing (0x40100200 + 4 * q) := by
    simp only [Issuing, R.CLK_GATE_NOW_VALUE]
    omega
  have host : s.SameIssue { s with ost := { s.ost with queues := s.ost.queues.set [] q ds } } := ⟨rfl, .of_eq rfl rfl, rfl⟩
  exact (host.trans (.wr hlevel)).trans (.wr hlevel)

theorem State.SameIssue.enter (hq : d.queue < 64) : s.SameIssue (s.enter d) := by
  unfold State.enter
  split
  · exact .count (by simp [Issuing, R.OST_CNT_BADQ_VALUE, R.CLK_GATE_NOW_VALUE])
  · exact State.SameIssue.setFlow.trans (.setQueue hq)

theorem State.SameIssue.accBad : s.SameIssue (s.accBad n) := by
  have hcount : s.SameIssue (s.count R.HST_CNT_ACC_VALUE n) := .count (by simp [Issuing, R.HST_CNT_ACC_VALUE, R.CLK_GATE_NOW_VALUE])
  unfold State.accBad State.when
  split
  · exact hcount.trans (.wr (by simp [Issuing, R.HST_STATUS_ACC_ERR, R.CLK_GATE_NOW_VALUE]))
  · exact hcount

theorem State.SameIssue.accAdd : s.SameIssue (s.accAdd q o j z) := by
  unfold State.accAdd
  split
  · exact .refl
  split
  · exact .store
  · exact State.SameIssue.accBad.trans .store

/-! ### States alike in all but the cores and one register -/

section
variable (h : s.Alike A u)
include h

theorem State.Alike.ost : u.ost = s.ost := h.same .ost (by decide)

theorem State.Alike.geo : u.geo = s.geo := h.same .geo (by decide)

theorem State.Alike.wr_apart (hg : g.addr ≠ A) : (s.wr g v).Alike A (u.wr g v) where
  low := h.low
  cell b hb := by
    have hw : u.word g = s.word g := by simp only [State.word, State.rstOf, h.cell _ hg, h.straps]
    by_cases e : b = g.addr
    · simp only [e, State.wr, Cells.get_set_self, hw, State.rstOf, h.straps]
    · rw [State.cell_wr e, State.cell_wr e, h.cell b hb]
  same p hp := by
    have hr : p ≠ .regs := fun e => hp (by simp [e])
    exact Part.same_trans (Part.same_trans (Part.same_symm (State.same_wr hr)) (h.same p hp)) (State.same_wr hr)

theorem State.Alike.count_apart (hg : g.addr ≠ A) : (s.count g n).Alike A (u.count g n) := by
  unfold State.count
  split
  · exact h
  · rw [h.rd_ne hg]; exact h.wr_apart hg

/-- An operation that writes no register and does alike to the parts it changes. -/
theorem State.Alike.of_good {W : Nat} {s' u' : State} (gs : Good W s s') (gu : Good W u u') (hW : W.testBit Part.regs.idx = false)
    (hsame : ∀ p : Part, W.testBit p.idx = true → p.same s' u') : s'.Alike A u' where
  low := h.low
  cell b hb := by rw [show u'.regs = u.regs from gu.same .regs hW, show s'.regs = s.regs from gs.same .regs hW, h.cell b hb]
  same p hp := by
    cases e : W.testBit p.idx with
    | true => exact hsame p e
    | false => exact Part.same_trans (Part.same_trans (Part.same_symm (gs.same p e)) (h.same p hp)) (gu.same p e)

theorem State.Alike.store : (s.store k n v).Alike A (u.store k n v) := by
  refine h.of_good (State.store_good s k n v) (State.store_good u k n v) (by decide) fun p hp => ?_
  cases p with
  | mem => exact State.store_mem h.mem
  | _ => exact absurd hp (by decide)

theorem State.Alike.flow : u.flow k = s.flow k := by rw [State.flow, h.ost, State.flow]

theorem State.Alike.queue : u.queue q = s.queue q := by rw [State.queue, h.ost, State.queue]

theorem State.Alike.setOst {y : Ost} : State.Alike A { s with ost := y } { u with ost := y } where
  low := h.low
  cell := h.cell
  same p hp := by
    cases p with
    | ost => rfl
    | _ => exact h.same _ hp

theorem State.Alike.setFlow {y : Flow} : (s.setFlow k y).Alike A (u.setFlow k y) := by
  unfold State.setFlow
  rw [h.ost]
  exact h.setOst

theorem State.Alike.setQueue {ds : List Desc} : (s.setQueue q ds).Alike A (u.setQueue q ds) := by
  have hlevel : 0x40000000 ≤ 0x40100200 + 4 * q := by omega
  have hset := (h.setOst (y := { s.ost with queues := s.ost.queues.set [] q ds })).wr (g := R.OST_QLEVEL_LEVEL q) (v := ds.length) hlevel
  unfold State.setQueue
  rw [h.ost]
  simp only [hset.rd (g := R.OST_QLEVEL_HIGH q) hlevel]
  exact hset.wr hlevel

theorem State.Alike.roomIn : u.roomIn q = s.roomIn q := by
  have hcfg : 0x40000000 ≤ 0x40100100 + 4 * q := by omega
  rw [State.roomIn, State.depth, h.on (g := R.OST_QCFG_EN q) hcfg, h.rd (g := R.OST_QCFG_DEPTH q) hcfg, h.queue]
  rfl

theorem State.Alike.enter : (s.enter d).Alike A (u.enter d) := by
  have hcfg : 0x40000000 ≤ 0x40100100 + 4 * d.queue := by omega
  unfold State.enter
  simp only [h.on (g := R.OST_QCFG_EN d.queue) hcfg, h.flow, h.queue]
  split
  · exact h.count (by decide)
  · exact h.setFlow.setQueue

theorem State.Alike.accRead : u.accRead q o j = s.accRead q o j := by
  rw [State.accRead, State.load_congr h.mem, State.accRead]

theorem State.Alike.accAdd (hA : 0x30000000 ≤ A) : (s.accAdd q o j z).Alike A (u.accAdd q o j z) := by
  have hcount : R.HST_CNT_ACC_VALUE.addr ≠ A := by simp only [R.HST_CNT_ACC_VALUE]; omega
  have hstatus : R.HST_STATUS_ACC_ERR.addr ≠ A := by simp only [R.HST_STATUS_ACC_ERR]; omega
  have hbad : (s.accBad 1).Alike A (u.accBad 1) := (h.count_apart hcount).wr_apart hstatus
  unfold State.accAdd
  simp only [h.accRead]
  split
  · exact h
  split
  · exact h.store
  · exact hbad.store

end

/-- A bundle that has run from `s` has run from `w` too, where an operation does to it what it does to `s`. -/
theorem State.Ran.carried (h : s.Ran u c x []) (hc : c < 32) (ha : t.Alike (R.DRV_CNT_BUNDLE_VALUE c).addr w) (hs : s.SameIssue t) (hu : u.SameIssue w) :
    t.Ran w c x [] where
  core := (State.core_congr hu.cores).trans h.core
  other k hk := by rw [State.core_congr hu.cores, h.other k hk, State.core_congr hs.cores]
  cell := ha.cell
  count := by
    have hcnt : Issuing (R.DRV_CNT_BUNDLE_VALUE c).addr := .inl (by rw [addr_bundle]; omega)
    rw [hu.regs.rd hcnt, h.count, hs.regs.rd hcnt]
  same := ha.same
  fixed := h.fixed
  req := h.req
  unasked := h.unasked.congr hu.cores

end Sys2Proof.Machine
end

section
/-! PROOFS. TAKE, GIVE and DONE, the tap port and the accumulate port (R109–R112, R131, R134, R140–R142). -/

-- One proof at a time: the package as one text then takes less memory.
set_option Elab.async false

namespace Sys2Proof.Machine

open Sys2Proof

variable {s t u r b : State} {a : Issue} {op : DrvOp} {c n : Nat} {x y : CoreSt} {f : FmtP} {d : Desc} {k : Task} {w : Wait} {ps : List Part} {i : Instr}

/-! ### Waiting (R109) -/

theorem CoreSt.Settled.calm (h : x.Settled) : x.Calm := ⟨fun t ht => by have := h.1 t ht; omega, h.2.1⟩

theorem State.Still.setCoreState (h : s.Still r c) : s.Still (r.setCoreState c n) c where
  stalled := h.stalled
  other := h.other
  regs := h.regs.trans (.wr_own (by simp [ownRegs, R.DRV_STATUS_STATE]))
  clk := h.clk
  unasked := h.unasked.congr State.wr_cores

/-- A bundle that has run and leaves its core in another STATE. -/
theorem State.Ran.coreGoes_setCoreState (h : s.Ran r c x ps) (hc : c < 32) : s.coreGoes c x [0, 1, 2] ps ((r.setCoreState c n).coreCopies c) := by
  have hst : (R.DRV_STATUS_STATE c).addr = 0x30800004 + 65536 * c := rfl
  have hlo : (R.DRV_STATUS_STATE c).lo = 0 ∧ (R.DRV_STATUS_STATE c).hi = 2 := ⟨rfl, rfl⟩
  have hcore : ((r.setCoreState c n).core c) = x := State.core_setCoreState.trans h.core
  refine ⟨State.core_coreCopies.trans hcore, fun k hk => State.core_coreCopies.trans (State.core_setCoreState.trans (h.other k hk)), ?_,
    by rw [State.asat_coreCopies hc, hcore], by rw [State.ssat_coreCopies hc, hcore], fun g b h1 h2 h3 => ?_, fun p hp => ?_⟩
  · rw [State.rd_coreCopies (by rw [addr_bundle]; omega) (by rw [addr_bundle]; omega), State.setCoreState, State.rd_wr_addr (by rw [addr_bundle]; omega),
      h.count]
  · have hw : r.word g = s.word g := by simp only [State.word, State.rstOf, h.cell _ h1, h.straps]
    have hbits : g.addr = (R.DRV_STATUS_w c).addr → b ≠ 6 ∧ b ≠ 7 ∧ ¬ b ≤ 2 := fun e => by
      have := h2 e
      simp only [List.cons_append, List.nil_append, List.mem_cons, List.not_mem_nil, or_false, not_or] at this
      omega
    have hwr : ((r.setCoreState c n).word g).testBit b = (r.word g).testBit b :=
      State.testBit_wr (by omega) fun e _ hb => absurd (hlo.2 ▸ hb) (hbits e).2.2
    rw [State.testBit_coreCopies (fun e => by simp [hbits e]) h3, hwr, hw]
  · exact Part.same_trans (h.same p hp) (Part.same_trans (State.same_wr fun e => hp (by simp [e])) (State.same_coreCopies fun e => hp (by simp [e])))

/-! ### The port instructions -/

theorem DrvOp.control_of_port (h : DrvOp.isPort op = true) : DrvOp.control op = true := by
  cases op <;> first | rfl | exact nomatch h

theorem CoreSt.fly_port (h : DrvOp.isPort op = true) : x.fly (x.regRes op) = x := by
  cases op <;> first | exact CoreSt.fly_nil | exact nomatch h

theorem CoreSt.over_port (h : DrvOp.isPort op = true) : y.over x op = y.finish := by
  cases op <;> first | rfl | exact nomatch h

/-- The bundle of a port instruction as its port finds it: nothing has gone into flight. -/
def State.atPort (s : State) (c : Nat) : State := (s.readied c).setCore c (s.core c)

section
variable (h : s.issuesAlone a op)
include h

theorem State.issuesAlone_atPort : s.Ran (s.atPort a.core.val) a.core.val (s.core a.core.val) [] :=
  have hran := State.issuesAlone_ran h
  hran.setCore hran.req

section
variable (ho : DrvOp.isPort op = true) (he : exec i s = .next (s.command a op))
include ho he

/-- The command of a port instruction that is performed, from what it makes of the state it finds. -/
theorem State.goes_port (hp : (s.atPort a.core.val).doPort a.core.val (s.core a.core.val) op = (r, none, none)) (hb : s.SameIssue b)
    (hr : b.Ran r a.core.val y ps) (hy : y.Settled) :
    exec i s = .next ((r.setCore a.core.val y.finish).coreCopies a.core.val) ∧
      b.coreGoes a.core.val y.finish [] ps ((r.setCore a.core.val y.finish).coreCopies a.core.val) := by
  have hcore := (State.issuesAlone_ran h).core
  have hrun := State.runBundle_over (s := s.readied a.core.val) (c := a.core.val) (DrvOp.control_of_port ho) (by
    rw [hcore, CoreSt.fly_port ho]; exact hp)
  rw [CoreSt.over_port ho, hr.core] at hrun
  exact State.goes_control h (DrvOp.control_of_port ho) he hrun hb (hr.setCore hy.finish.2.2) hy.finish

/-- The command of a port instruction on which its core begins to wait, as the bundle leaves it. -/
theorem State.command_waits (hp : (s.atPort a.core.val).doPort a.core.val (s.core a.core.val) op = (s.atPort a.core.val, some w, none))
    (hr : (s.atPort a.core.val).startWait a.core.val w = r) (hstill : s.Still r a.core.val)
    (hx : r.core a.core.val = { s.core a.core.val with waiting := some w }) : exec i s = .next (r.coreCopies a.core.val) := by
  have hcore := (State.issuesAlone_ran h).core
  have hrun := State.runBundle_waits (s := s.readied a.core.val) (c := a.core.val) (DrvOp.control_of_port ho) (by
    rw [hcore, CoreSt.fly_port ho]; exact hp)
  have hcalm : (r.core a.core.val).Calm := hx.symm ▸ (State.issuesAlone_settled h).calm
  rw [he, State.command_alone_ends h (by rw [State.issuesAlone_slot1 h (DrvOp.slot1_of_control (DrvOp.control_of_port ho))]; exact hrun.trans hr)
    hstill hcalm]

/-- TAKE, and GIVE without room: the core waits in STATE 2 (R109). -/
theorem State.goes_waits (hp : (s.atPort a.core.val).doPort a.core.val (s.core a.core.val) op = (s.atPort a.core.val, some w, none)) (hw : w ≠ .done) :
    ∃ t : State, exec i s = .next t ∧ t.coreState a.core.val = 2 ∧
      s.coreGoes a.core.val { s.core a.core.val with waiting := some w } [0, 1, 2] [] t := by
  have hatp := State.issuesAlone_atPort h
  have hran := hatp.setCore (y := { s.core a.core.val with waiting := some w }) hatp.req
  have hr : (s.atPort a.core.val).startWait a.core.val w =
      ((s.atPort a.core.val).setCore a.core.val { s.core a.core.val with waiting := some w }).setCoreState a.core.val 2 := by
    rw [State.startWait, if_neg hw, hatp.core]
  refine ⟨_, State.command_waits h ho he hp hr (hran.still .refl (State.issuesAlone_stalled h)).setCoreState
    (State.core_setCoreState.trans hran.core), ?_, hran.coreGoes_setCoreState a.core.isLt⟩
  rw [State.coreState_coreCopies a.core.isLt, State.coreState_setCoreState]

/-- DONE of a task: the core waits until what it sent is performed, and shows STATE 1 (R109). -/
theorem State.goes_done (hp : (s.atPort a.core.val).doPort a.core.val (s.core a.core.val) op = (s.atPort a.core.val, some .done, none)) :
    ∃ t : State, exec i s = .next t ∧ s.coreGoes a.core.val { s.core a.core.val with waiting := some .done } [] [] t := by
  have hatp := State.issuesAlone_atPort h
  have hran := hatp.setCore (y := { s.core a.core.val with waiting := some .done }) hatp.req
  have hr : (s.atPort a.core.val).startWait a.core.val .done =
      (s.atPort a.core.val).setCore a.core.val { s.core a.core.val with waiting := some .done } := by
    rw [State.startWait, if_pos rfl, hatp.core]
  exact ⟨_, State.command_waits h ho he hp hr (hran.still .refl (State.issuesAlone_stalled h)) hran.core, hran.coreGoes a.core.isLt⟩

end

end

/-! ### GIVE (R134, R140–R142) -/

theorem CoreSt.given_queue_lt : x.given.queue < 64 := bitsOf_lt

theorem State.giveNow_room (h : s.roomIn d.queue = true) : s.giveNow d = .done (s.enter d) := if_pos h

theorem State.giveNow_full (h : s.roomIn d.queue = false) : s.giveNow d = .wait := if_neg (by simp [h])

theorem State.roomIn_disabled {q : Nat} (h : s.on (R.OST_QCFG_EN q) = false) : s.roomIn q = true := by
  simp [State.roomIn, h]

theorem State.give_idle (hk : (s.core c).task = none) (hf : (s.core c).lastFlow ≠ some (s.core c).given.flow) :
    s.give c = s.giveNow (s.core c).given := by
  simp only [State.give, hk, if_neg hf]

section
variable (hk : (s.core c).task = some k)
include hk

theorem State.give_disabled (he : s.on (R.OST_QCFG_EN (s.core c).given.queue) = false) : s.give c = .done (s.enter (s.core c).given) := by
  simp [State.give, hk, he]

/-- The place that the task hands on stays with its flow (R142). -/
theorem State.give_handed (he : s.on (R.OST_QCFG_EN (s.core c).given.queue) = true) (hf : (s.core c).given.flow = k.flow) (hh : k.handed = false)
    (hroom : s.roomIn (s.core c).given.queue = true) : s.give c = .done ((s.setQueue (s.core c).given.queue
      (s.queue (s.core c).given.queue ++ [{ (s.core c).given with seq := k.seq }])).setCore c { s.core c with task := some { k with handed := true } }) := by
  simp [State.give, hk, he, hf, hh, hroom, State.enterHanded]

theorem State.give_unordered (hf : (s.core c).given.flow ≠ k.flow) (ho : (s.flow k.flow).ordered = false)
    (hroom : s.roomIn (s.core c).given.queue = true) : s.give c = .done (s.enter (s.core c).given) := by
  cases he : s.on (R.OST_QCFG_EN (s.core c).given.queue) with
  | false => exact State.give_disabled hk he
  | true => simp [State.give, hk, he, hf, ho, State.giveNow_room hroom]

/-- A descriptor is held with the place of an ordered task (R140). -/
theorem State.give_held {p : Place} (he : s.on (R.OST_QCFG_EN (s.core c).given.queue) = true) (hf : (s.core c).given.flow ≠ k.flow)
    (ho : (s.flow k.flow).ordered = true) (hp : (s.flow k.flow).place k.seq = some p) (h4 : p.held.length < 4) :
    s.give c = .done (s.setFlow k.flow ((s.flow k.flow).mapPlace k.seq (fun p => { p with held := p.held ++ [(s.core c).given] }))) := by
  simp [State.give, hk, he, hf, ho, hp, h4]

end

theorem State.doPort_give_done (h : s.give c = .done t) : s.doPort c x (.give f) = (t, none, none) := by
  rw [State.doPort, h]

theorem State.doPort_give_wait (h : s.give c = .wait) : s.doPort c x (.give f) = (s, some .give, none) := by
  rw [State.doPort, h]

section
variable (h : s.issuesAlone a (.give f))
include h

theorem State.issuesAlone_alike : s.Alike (R.DRV_CNT_BUNDLE_VALUE a.core.val).addr (s.atPort a.core.val) :=
  (State.issuesAlone_atPort h).alike a.core.isLt

theorem State.core_atPort : (s.atPort a.core.val).core a.core.val = s.core a.core.val := (State.issuesAlone_atPort h).core

/-- The command of a GIVE whose descriptor enters its queue, or is discarded there. -/
theorem State.goes_enter (hg : (s.atPort a.core.val).give a.core.val = .done ((s.atPort a.core.val).enter (s.core a.core.val).given)) :
    ∃ t : State, exec (.drvGive a f) s = .next t ∧
      (s.enter (s.core a.core.val).given).coreGoes a.core.val (s.core a.core.val).finish [] [] t :=
  ⟨_, State.goes_port h rfl rfl (State.doPort_give_done hg) (.enter CoreSt.given_queue_lt)
    ((State.issuesAlone_atPort h).carried a.core.isLt (State.issuesAlone_alike h).enter (.enter CoreSt.given_queue_lt) (.enter CoreSt.given_queue_lt))
    (State.issuesAlone_settled h)⟩

theorem drvGive_idle (hk : (s.core a.core.val).task = none) (hf : (s.core a.core.val).lastFlow ≠ some (s.core a.core.val).given.flow)
    (hroom : s.roomIn (s.core a.core.val).given.queue = true) : ∃ t : State, exec (.drvGive a f) s = .next t ∧
      (s.enter (s.core a.core.val).given).coreGoes a.core.val (s.core a.core.val).finish [] [] t := by
  have hg := State.give_idle (s := s.atPort a.core.val) (c := a.core.val)
  rw [State.core_atPort h, State.giveNow_room ((State.issuesAlone_alike h).roomIn.trans hroom)] at hg
  exact State.goes_enter h (hg hk hf)

/-- GIVE without room waits in STATE 2. -/
theorem drvGive_waits (hk : (s.core a.core.val).task = none) (hf : (s.core a.core.val).lastFlow ≠ some (s.core a.core.val).given.flow)
    (hroom : s.roomIn (s.core a.core.val).given.queue = false) : ∃ t : State, exec (.drvGive a f) s = .next t ∧ t.coreState a.core.val = 2 ∧
      s.coreGoes a.core.val { s.core a.core.val with waiting := some .give } [0, 1, 2] [] t := by
  have hg := State.give_idle (s := s.atPort a.core.val) (c := a.core.val)
  rw [State.core_atPort h, State.giveNow_full ((State.issuesAlone_alike h).roomIn.trans hroom)] at hg
  exact State.goes_waits h rfl rfl (State.doPort_give_wait (hg hk hf)) nofun

section
variable (hk : (s.core a.core.val).task = some k)
include hk

theorem drvGive_unordered (hf : (s.core a.core.val).given.flow ≠ k.flow) (ho : (s.flow k.flow).ordered = false)
    (hroom : s.roomIn (s.core a.core.val).given.queue = true) : ∃ t : State, exec (.drvGive a f) s = .next t ∧
      (s.enter (s.core a.core.val).given).coreGoes a.core.val (s.core a.core.val).finish [] [] t := by
  have halike := State.issuesAlone_alike h
  have hg := State.give_unordered (s := s.atPort a.core.val) (c := a.core.val) (k := k)
  rw [State.core_atPort h, halike.flow, halike.roomIn] at hg
  exact State.goes_enter h (hg hk hf ho hroom)

theorem drvGive_disabled (he : s.on (R.OST_QCFG_EN (s.core a.core.val).given.queue) = false) : ∃ t : State, exec (.drvGive a f) s = .next t ∧
      (s.bump R.OST_CNT_BADQ_VALUE).coreGoes a.core.val (s.core a.core.val).finish [] [] t := by
  have hcfg : 0x40000000 ≤ 0x40100100 + 4 * (s.core a.core.val).given.queue := by omega
  have hg := State.give_disabled (s := s.atPort a.core.val) (c := a.core.val) (k := k)
  rw [State.core_atPort h, (State.issuesAlone_alike h).on (g := R.OST_QCFG_EN _) hcfg] at hg
  have henter : s.enter (s.core a.core.val).given = s.bump R.OST_CNT_BADQ_VALUE := if_pos (by simp [he])
  exact henter ▸ State.goes_enter h (hg hk he)

theorem drvGive_handed (he : s.on (R.OST_QCFG_EN (s.core a.core.val).given.queue) = true) (hf : (s.core a.core.val).given.flow = k.flow)
    (hh : k.handed = false) (hroom : s.roomIn (s.core a.core.val).given.queue = true) : ∃ t : State, exec (.drvGive a f) s = .next t ∧
      (s.setQueue (s.core a.core.val).given.queue (s.queue (s.core a.core.val).given.queue ++ [{ (s.core a.core.val).given with seq := k.seq }])).coreGoes
        a.core.val ({ s.core a.core.val with task := some { k with handed := true } }).finish [] [] t := by
  have hcfg : 0x40000000 ≤ 0x40100100 + 4 * (s.core a.core.val).given.queue := by omega
  have halike := State.issuesAlone_alike h
  have hran := State.issuesAlone_atPort h
  have hset := State.issuesAlone_settled h
  have hg := State.give_handed (s := s.atPort a.core.val) (c := a.core.val) (k := k)
  rw [State.core_atPort h, halike.on (g := R.OST_QCFG_EN _) hcfg, halike.roomIn, halike.queue] at hg
  exact ⟨_, State.goes_port h rfl rfl (State.doPort_give_done (hg hk he hf hh hroom)) (.setQueue CoreSt.given_queue_lt)
    ((hran.carried a.core.isLt halike.setQueue (.setQueue CoreSt.given_queue_lt) (.setQueue CoreSt.given_queue_lt)).setCore hran.req)
    hset⟩

theorem drvGive_held {p : Place} (he : s.on (R.OST_QCFG_EN (s.core a.core.val).given.queue) = true) (hf : (s.core a.core.val).given.flow ≠ k.flow)
    (ho : (s.flow k.flow).ordered = true) (hp : (s.flow k.flow).place k.seq = some p) (h4 : p.held.length < 4) :
    ∃ t : State, exec (.drvGive a f) s = .next t ∧
      (s.setFlow k.flow ((s.flow k.flow).mapPlace k.seq (fun p => { p with held := p.held ++ [(s.core a.core.val).given] }))).coreGoes a.core.val
        (s.core a.core.val).finish [] [] t := by
  have hcfg : 0x40000000 ≤ 0x40100100 + 4 * (s.core a.core.val).given.queue := by omega
  have halike := State.issuesAlone_alike h
  have hran := State.issuesAlone_atPort h
  have hg := State.give_held (s := s.atPort a.core.val) (c := a.core.val) (k := k) (p := p)
  rw [State.core_atPort h, halike.on (g := R.OST_QCFG_EN _) hcfg, halike.flow] at hg
  exact ⟨_, State.goes_port h rfl rfl (State.doPort_give_done (hg hk he hf ho hp h4)) .setFlow
    (hran.carried a.core.isLt halike.setFlow .setFlow .setFlow) (State.issuesAlone_settled h)⟩

end

end

/-! ### The tap port (R110) -/

theorem State.tapListOf_congr (h : t.geo = s.geo) {blk : Nat} : t.tapListOf blk = s.tapListOf blk := by
  rw [State.tapListOf, h, State.tapListOf]

theorem State.tapWords_congr (h : t.geo = s.geo) {p : TapPort} : t.tapWords p = s.tapWords p := by
  rw [State.tapWords, State.tapListOf_congr h, State.tapWords]

theorem State.tapWords_exhausted {p : TapPort} (h : p.left = 0 ∨ (s.tapListOf p.blk).length ≤ p.next) :
    s.tapWords p = [.x 8 0, .x 9 0, .x 10 0, .x 11 0, .x 12 0x80000000, .flags 1 1] := by
  have hnone : (if p.left = 0 then none else (s.tapListOf p.blk)[p.next]?) = none := by
    split
    · rfl
    · exact List.getElem?_eq_none (by omega)
  rw [State.tapWords, hnone]

theorem State.tapWords_entry {p : TapPort} {e : Tap} (h0 : p.left ≠ 0) (he : (s.tapListOf p.blk)[p.next]? = some e) :
    s.tapWords p = [.x 8 (bitsOf e.word 127 96), .x 9 (bitsOf e.word 95 64), .x 10 (bitsOf e.word 63 32), .x 11 (bitsOf e.word 31 0),
      .x 12 (e.prevDelay % 2 ^ 25), .flags 1 0] := by
  rw [State.tapWords, if_neg h0, he]

theorem drvTapset_names (h : s.issuesAlone a (.tapset f)) : ∃ t : State, exec (.drvTapset a f) s = .next t ∧
    s.coreGoes a.core.val ((s.core a.core.val).tapset f).finish [] [] t := by
  have hran := State.issuesAlone_atPort h
  have hset : ((s.core a.core.val).tapset f).Settled := State.issuesAlone_settled h
  refine ⟨_, State.goes_port h rfl rfl ?_ .refl (hran.setCore hset.2.2.2) hset⟩
  rw [State.doPort, hran.core]

/-- TAPRD: the read joins those outstanding, and the port goes on to its next entry. -/
theorem drvTaprd_reads {p : TapPort} {ws : List Wr} (h : s.issuesAlone a (.taprd f)) (hp : (s.core a.core.val).tap = some p) (hw : s.tapWords p = ws) :
    ∃ t : State, exec (.drvTaprd a f) s = .next t ∧ s.coreGoes a.core.val ({ s.core a.core.val with
      tap := some { p with next := p.next + 1, left := p.left - 1 }, reads := (s.core a.core.val).reads ++ [PortRead.mk ws] }).finish [] [] t := by
  have hran := State.issuesAlone_atPort h
  have hread := hran.addRead (ws := ws)
  have hset := State.issuesAlone_settled h
  refine ⟨_, State.goes_port h rfl rfl ?_ .refl (hread.setCore hset.2.2.2) hset⟩
  simp only [State.doPort, hp, State.tapWords_congr (hran.same .geo (by decide)), hw, hread.core]

/-! ### The accumulate port (R65, R111) -/

theorem State.Alike.foldl {α : Type} {A : Nat} {F : State → α → State} (hF : ∀ s u z, State.Alike A s u → (F s z).Alike A (F u z)) {zs : List α}
    (h : s.Alike A t) : (zs.foldl F s).Alike A (zs.foldl F t) := by
  induction zs generalizing s t with
  | nil => exact h
  | cons z zs ih =>
    rw [List.foldl_cons, List.foldl_cons]
    exact ih (hF s t z h)

theorem State.SameIssue.foldl {α : Type} {F : State → α → State} (hF : ∀ s z, State.SameIssue s (F s z)) {zs : List α} : s.SameIssue (zs.foldl F s) := by
  induction zs generalizing s with
  | nil => exact .refl
  | cons z zs ih =>
    rw [List.foldl_cons]
    exact (hF s z).trans ih

/-- Eight accumulators added from sample `j` of an output on. -/
def State.accAdds (s : State) (q o j : Nat) (v : Nat → Int) : State := (List.range 8).foldl (fun s i => s.accAdd q o (j + i) (v i)) s

theorem State.SameIssue.accAdds {q o j : Nat} {v : Nat → Int} : s.SameIssue (s.accAdds q o j v) := .foldl fun _ _ => .accAdd

theorem State.Alike.accAdds {A q o j : Nat} {v : Nat → Int} (hA : 0x30000000 ≤ A) (h : s.Alike A t) : (s.accAdds q o j v).Alike A (t.accAdds q o j v) :=
  State.Alike.foldl (F := fun s i => s.accAdd q o (j + i) (v i)) (fun _ _ _ hz => hz.accAdd hA) h

section
variable {v : Nat → Int} {q o j : Nat}

theorem State.accadd_adds (hw : accOperand (x.xr f.xa.toNat) = (q, o, j)) (ho : o < 640) (hg : s.gated 3 = false) :
    s.accadd c x f = s.accAdds q o j (fun i => x.accv (bankBase f.bank + i)) := by
  unfold State.accadd
  simp only [hw, if_neg (Nat.not_le.2 ho), hg, Bool.false_eq_true, if_false]
  rfl

/-- With every word sound, eight words are read and cleared. -/
theorem State.accrc_sound (hw : accOperand (x.xr f.xa.toNat) = (q, o, j)) (ho : o < 640) (hg : s.gated 3 = false)
    (hv : ∀ i, i < 8 → s.accRead q o (j + i) = some (v i)) :
    s.accrc c x f = (s.store (accAddr q o j) 64 0, (List.range 8).map (fun i => Wr.acc (bankBase f.bank + i) (v i))) := by
  have hgot : (List.range 8).map (fun i => s.accRead q o (j + i)) = (List.range 8).map (fun i => some (v i)) :=
    List.map_congr_left fun i hi => hv i (List.mem_range.1 hi)
  unfold State.accrc
  simp only [hw, if_neg (Nat.not_le.2 ho), hg, Bool.false_eq_true, if_false, hgot]
  rfl

theorem drvAccadd_adds (h : s.issuesAlone a (.accadd f)) (hw : accOperand ((s.core a.core.val).xr f.xa.toNat) = (q, o, j)) (ho : o < 640)
    (hg : s.gated 3 = false) : ∃ t : State, exec (.drvAccadd a f) s = .next t ∧
      (s.accAdds q o j (fun i => (s.core a.core.val).accv (bankBase f.bank + i))).coreGoes a.core.val (s.core a.core.val).finish [] [] t := by
  have hran := State.issuesAlone_atPort h
  have halike := hran.alike a.core.isLt
  have hA : 0x30000000 ≤ (R.DRV_CNT_BUNDLE_VALUE a.core.val).addr := by rw [addr_bundle]; omega
  refine ⟨_, State.goes_port h rfl rfl ?_ .accAdds (hran.carried a.core.isLt (halike.accAdds hA) .accAdds .accAdds) (State.issuesAlone_settled h)⟩
  rw [State.doPort, State.accadd_adds hw ho (halike.gated.trans hg)]

theorem drvAccrc_reads (h : s.issuesAlone a (.accrc f)) (hw : accOperand ((s.core a.core.val).xr f.xa.toNat) = (q, o, j)) (ho : o < 640)
    (hg : s.gated 3 = false) (hv : ∀ i, i < 8 → s.accRead q o (j + i) = some (v i)) :
    ∃ t : State, exec (.drvAccrc a f) s = .next t ∧ s.coreGoes a.core.val ({ s.core a.core.val with reads := (s.core a.core.val).reads ++
        [PortRead.mk ((List.range 8).map (fun i => Wr.acc (bankBase f.bank + i) (v i)))] }).finish [] [.mem] t ∧
      t.mem = (s.store (accAddr q o j) 64 0).mem := by
  have hran := State.issuesAlone_atPort h
  have halike := hran.alike a.core.isLt
  have hread := (hran.good (State.store_good _ (accAddr q o j) 64 0) [.mem] rfl (by decide)).addRead
    (ws := (List.range 8).map (fun i => Wr.acc (bankBase f.bank + i) (v i)))
  have hsound := State.accrc_sound (c := a.core.val) hw ho (halike.gated.trans hg) fun i hi => halike.accRead.trans (hv i hi)
  obtain ⟨hexec, hgoes⟩ := State.goes_port (i := .drvAccrc a f) h rfl rfl (by rw [State.doPort, hsound]) .refl hread (State.issuesAlone_settled h)
  refine ⟨_, hexec, hgoes, ?_⟩
  rw [State.coreCopies_mem, State.setCore_mem, State.addRead, State.setCore_mem]
  exact State.store_mem halike.mem

end

/-- Settles O21: each port by what it makes of the state it finds, and a GIVE by what becomes of its descriptor there. -/
theorem droverPorts : Obligations.DroverPorts := by
  unfold Obligations.DroverPorts
  refine ⟨fun s a f h => State.goes_waits h rfl rfl rfl nofun, fun s a f h => ⟨drvGive_idle h, fun k hk hf hh he hr => drvGive_handed h hk he hf hh hr,
      fun k => drvGive_unordered h, fun k p hk hf he ho hp h4 => drvGive_held h hk he hf ho hp h4, fun k => drvGive_disabled h, drvGive_waits h⟩,
    fun s a f h hk => State.goes_done h rfl rfl ?_, fun s a f h => drvTapset_names h,
    fun s a f k h hp => ⟨fun hend => drvTaprd_reads h hp (State.tapWords_exhausted hend), fun e h0 he => drvTaprd_reads h hp (State.tapWords_entry h0 he)⟩,
    fun s a f h ho hg => drvAccadd_adds h rfl ho hg, fun s a f v h ho hg hv => drvAccrc_reads h rfl ho hg hv⟩
  rw [State.doPort, if_neg (by simpa using hk)]

end Sys2Proof.Machine
end

section
/-! PROOFS. The scalar instructions of a Drover core (R93, R124): their results and flags in the words of the statement. -/

-- One proof at a time: the package as one text then takes less memory.
set_option Elab.async false

namespace Sys2Proof.Machine

open Sys2Proof

variable {s : State} {a : Issue} {op : DrvOp} {x : CoreSt}

/-- A logical result modulo 2³² with Z and N alone: C and V are cleared. -/
theorem logicRes_eq {d r : Nat} : logicRes d r =
    [(1, .x d (r % 2 ^ 32)), (1, .flags 15 (b2n (r % 2 ^ 32 = 0) + 2 * b2n (bitOf (r % 2 ^ 32) 31)))] := by
  have hclear : b2n false = 0 := rfl
  simp only [logicRes, flagsRes, hclear, Nat.mul_zero, Nat.add_zero]

/-- A command whose instruction has a logical result gives that result with its Z and N. -/
theorem State.gives_logic {i : Instr} {d r : Nat} (h : s.issuesAlone a op) (ho : DrvOp.regOnly op = true)
    (he : exec i s = .next (s.command a op)) (hr : (s.core a.core.val).regRes op = logicRes d r) :
    s.gives a i [(1, .x d (r % 2 ^ 32)), (1, .flags 15 (b2n (r % 2 ^ 32 = 0) + 2 * b2n (bitOf (r % 2 ^ 32) 31)))] :=
  State.gives_regRes h ho he (hr.trans logicRes_eq)

/-- The field of EXTU and EXTS by division: POS bits dropped, WM1 + 1 bits kept. -/
theorem CoreSt.field_eq_div_mod {f : FmtX} : x.field f = x.xr f.xa.toNat / 2 ^ f.pos.toNat % 2 ^ (f.wm1.toNat + 1) := by
  rw [CoreSt.field, Nat.shiftRight_eq_div_pow]

/-- MOVHI: IMM18 [17:14] is zero, so the bits it places are all of IMM18. -/
theorem CoreSt.regRes_movhi {f : FmtW} (h : DrvOp.defined (.movhi f) = true) : x.regRes (.movhi f) =
    [(1, .x f.xd.toNat (f.imm.toNat * 2 ^ 18 + x.xr f.xd.toNat % 2 ^ 18))] := by
  have hlt : f.imm.toNat < 16384 := by
    simp only [DrvOp.defined, Bool.and_eq_true, decide_eq_true_eq] at h
    exact h.2
  rw [CoreSt.regRes, Nat.mod_eq_of_lt hlt]

/-- Settles O14: each instruction touches registers alone; sums, differences and MOVI give their results by definition, the logical ones by
`gives_logic`, and MOVHI as its upper immediate bits are zero. -/
theorem droverScalars : Obligations.DroverScalars := by
  unfold Obligations.DroverScalars
  refine ⟨fun s a f h => State.gives_regRes h rfl rfl rfl, fun s a f h => State.gives_regRes h rfl rfl rfl,
    fun s a f h => State.gives_regRes h rfl rfl rfl, fun s a f h => State.gives_regRes h rfl rfl rfl, fun s a f => ?logical,
    fun s a f h => State.gives_regRes h rfl rfl rfl,
    fun s a f h => State.gives_regRes h rfl rfl (CoreSt.regRes_movhi (State.issuesAlone_defined h))⟩
  case logical =>
    refine ⟨fun h => State.gives_logic h rfl rfl rfl, fun h => State.gives_logic h rfl rfl rfl, fun h => State.gives_logic h rfl rfl rfl,
      fun h => State.gives_logic h rfl rfl rfl, fun h => State.gives_logic h rfl rfl ?shr, fun h => State.gives_logic h rfl rfl rfl,
      fun h => State.gives_logic h rfl rfl rfl, fun h => State.gives_logic h rfl rfl ?extu, fun h => State.gives_logic h rfl rfl ?exts⟩
    case shr => rw [CoreSt.regRes, Nat.shiftRight_eq_div_pow]
    case extu | exts => rw [CoreSt.regRes, CoreSt.field_eq_div_mod]

end Sys2Proof.Machine
end

section
/-! PROOFS. Parameters written and safe-load sets (R163–R165, R293, R401): what an accepted command leaves of its session and of the waiting changes. -/

-- One proof at a time: the package as one text then takes less memory.
set_option Elab.async false

namespace Sys2Proof.Machine

open Sys2Proof

section
variable {s t a : State} {h : Hdr} {d : OpInfo} {i j k n : Nat}

/-! ### Fields of sessions that replies and events leave alone -/

/-- What a session holds beside its traffic: its staging set and the places of its timed commands. -/
def Session.held (x : Session) : List (Nat × Nat) × List Nat := (x.staging, x.timed)

theorem State.held_of_sessions (hs : t.sessions = s.sessions) : (t.session j).held = (s.session j).held := by
  rw [State.session, hs, State.session]

theorem State.held_setSession {x : Session} (hx : x.held = (s.session i).held) : ((s.setSession i x).session j).held = (s.session j).held := by
  rw [State.session_setSession]
  split
  · next e => rw [e, hx]
  · rfl

theorem State.held_enqueue {p : Nat} {q : Packet} : ((s.enqueue p q).session j).held = (s.session j).held :=
  State.held_of_sessions ((State.enqueue_good _ _ _).same .sessions rfl)

theorem State.held_moveEvent : ((s.moveEvent i).session j).held = (s.session j).held := by
  unfold State.moveEvent
  dsimp only
  split
  · rfl
  · refine State.held_enqueue.trans (State.held_setSession ?_)
    split <;> rfl

theorem State.held_pump : ((s.pump n).session j).held = (s.session j).held := by
  induction n generalizing s with
  | zero => rfl
  | succ n ih =>
    refine ih.trans (foldl_keeps (fun u : State => (u.session j).held) (fun u k => ?_) _ s)
    split
    · exact State.held_moveEvent
    · rfl

theorem State.held_eventTo {c : Nat} {data : List Byte} : ((s.eventTo i c data).session j).held = (s.session j).held := by
  unfold State.eventTo
  dsimp only
  split
  · rfl
  split
  · exact State.held_pump.trans (State.held_setSession rfl)
  · exact (State.held_of_sessions ((State.bump_good _ _).same .sessions rfl)).trans (State.held_setSession rfl)

theorem State.held_budgetEvent : ((s.budgetEvent n).session j).held = (s.session j).held :=
  foldl_keeps (fun u : State => (u.session j).held) (fun _ _ => State.held_eventTo) _ s

theorem State.held_showBudget : (s.showBudget.session j).held = (s.session j).held := by
  unfold State.showBudget
  split
  · split
    · exact State.held_budgetEvent
    · rfl
  split
  · rfl
  · exact State.held_budgetEvent

theorem State.held_afterCommit : (s.afterCommit.session j).held = (s.session j).held := by
  unfold State.afterCommit
  split
  · exact State.held_showBudget
  · rfl

theorem State.held_paramAfter {ps : List Nat} : ((s.paramAfter ps).session j).held = (s.session j).held := by
  unfold State.paramAfter
  split
  · exact (State.held_of_sessions State.queueBulk_sessions).trans State.held_afterCommit
  · rfl

theorem State.held_reply {o q : Nat} {st : Status} {data : List Byte} {b : Bool} :
    ((s.reply i o q st data b).session j).held = (s.session j).held := by
  refine (foldl_keeps (fun u : State => (u.session j).held) (fun _ _ => State.held_enqueue) _ _).trans ?_
  split
  · unfold State.remember
    split <;> exact State.held_setSession rfl
  · rfl

/-- A timed command takes a place among those of its session (R293). -/
theorem State.timed_takePlace : ((s.takePlace i n true).session i).timed = n :: (s.session i).timed.filter (fun c => s.now < c) := by
  rw [State.takePlace, if_pos rfl, State.session_setSession, if_pos rfl]

/-! ### PARAM_WRITE of the ramp time (R165, R402) -/

theorem exec_paramWrite_ramp {v : BitVec 32} (ht : s.takes h ⟨0x0B02, (1, 0), paramKind [8], true, .other⟩ i a) (hl : lenIs h 8 = true)
    (h1 : 1 ≤ v.toNat) (h2 : v.toNat ≤ 1000) :
    let p : State := a.takePlace i (a.hdrDone h (paramKind [8])) h.timed
    exec (.paramWrite h [(8#16, v)]) s = .next ((p.later (p.hdrNext h) (.param i 8 v.toNat)).reply i 0x0B02 h.seq.toNat .ok [] true) := by
  have hst : a.pidStatus 8 v.toNat = .ok := badUnless_of (by simp [h1, h2])
  refine congrArg _ (State.receive_placed ht ?_ rfl)
  show (⟨lenIs h 8, true, false, firstBad [.ok, a.pidStatus 8 v.toNat]⟩ : OpCheck) = _
  rw [hl, hst]
  rfl

/-- Written by a timed command, the ramp time waits in a session that has a place more. -/
theorem paramWrite_ramp_changes_sessions {v : BitVec 32} (ht : s.takes h ⟨0x0B02, (1, 0), paramKind [8], true, .other⟩ i a)
    (hl : lenIs h 8 = true) (h1 : 1 ≤ v.toNat) (h2 : v.toNat ≤ 1000) (htimed : h.timed = true) (hnone : (a.session i).timed = [])
    (hr : exec (.paramWrite h [(8#16, v)]) s = .next (t.reply i 0x0B02 h.seq.toNat .ok [] true)) : t.sessions ≠ a.sessions := by
  intro hs
  rw [exec_paramWrite_ramp ht hl h1 h2, htimed] at hr
  have hheld := congrArg (fun u : State => (u.session i).held.2) (Host.Outcome.next.inj hr)
  simp only [State.held_reply, State.held_of_sessions hs, State.held_of_sessions State.later_sessions] at hheld
  exact List.cons_ne_nil _ _ (State.timed_takePlace.symm.trans (hheld.trans hnone))

/-! ### SAFE_STAGE (R163) -/

section
variable {xs es : List (Nat × Nat)} {e : Nat × Nat}

theorem length_stageEntry : xs.length ≤ (stageEntry xs e).length := by
  unfold stageEntry
  split <;> simp

theorem length_foldl_stageEntry : xs.length ≤ (es.foldl stageEntry xs).length :=
  List.foldlRecOn (motive := fun ys => xs.length ≤ ys.length) es stageEntry (Nat.le_refl _) fun _ hy _ _ => hy.trans length_stageEntry

/-- A staging set that has room for all entries has room for the first of them. -/
theorem length_foldl_stageEntry_take : ((es.take n).foldl stageEntry xs).length ≤ (es.foldl stageEntry xs).length := by
  conv_rhs => rw [← List.take_append_drop n es, List.foldl_append]
  exact length_foldl_stageEntry

end

/-- The session holds another staging set. -/
def State.setStaging (s : State) (i : Nat) (xs : List (Nat × Nat)) : State := s.setSession i { s.session i with staging := xs }

theorem State.staging_setStaging {xs : List (Nat × Nat)} : ((s.setStaging i xs).session i).staging = xs := by
  rw [State.setStaging, State.session_setSession, if_pos rfl]

/-- What SAFE_STAGE asks of entry `m` of a list: a parameter that may be staged, room in the set with the entries before it, its value. -/
def State.stageStatus (s : State) (i : Nat) (xs : List (Nat × Nat)) (m : Nat) : Status :=
  let e := xs.getD m (0, 0)
  firstBad [s.pidKnown e.1, (if safeLoadable e.1 then .ok else .limit),
    (if ((xs.take (m + 1)).foldl stageEntry (s.session i).staging).length ≤ 512 then .ok else .limit), s.pidStatus e.1 e.2]

theorem State.stageStatus_ok {xs : List (Nat × Nat)} {m : Nat} (hm : m < xs.length)
    (he : ∀ e ∈ xs, s.pidKnown e.1 = .ok ∧ safeLoadable e.1 = true ∧ s.pidStatus e.1 e.2 = .ok)
    (hroom : (xs.foldl stageEntry (s.session i).staging).length ≤ 512) : s.stageStatus i xs m = .ok := by
  obtain ⟨hknown, hload, hval⟩ := he (xs.getD m (0, 0)) (by rw [List.getD_eq_getElem _ _ hm]; exact List.getElem_mem hm)
  rw [State.stageStatus, hknown, hval, if_pos hload, if_pos (length_foldl_stageEntry_take.trans hroom)]
  rfl

theorem exec_safeStage {es : List (BitVec 16 × BitVec 32)} (ht : s.takes h (op 0x0B03 2 0 .other) i a)
    (hl : lenIs h (2 + 6 * es.length) = true) (h1 : 1 ≤ es.length) (h2 : es.length ≤ 64)
    (hown : ∀ e ∈ natPairs es, a.pidNeeds i e.1 = true)
    (he : ∀ e ∈ natPairs es, a.pidKnown e.1 = .ok ∧ safeLoadable e.1 = true ∧ a.pidStatus e.1 e.2 = .ok)
    (hroom : ((natPairs es).foldl stageEntry (a.session i).staging).length ≤ 512) :
    exec (.safeStage h es) s =
      .next ((a.setStaging i ((natPairs es).foldl stageEntry (a.session i).staging)).reply i 0x0B03 h.seq.toNat .ok [] true) := by
  refine congrArg _ (State.receive_untimed ht rfl ?_ rfl)
  show (⟨lenIs h (2 + 6 * es.length), (natPairs es).all fun e => a.pidNeeds i e.1, false,
    firstBad (countIn 1 64 es.length :: (List.range (natPairs es).length).map (a.stageStatus i (natPairs es)))⟩ : OpCheck) = _
  rw [hl, List.all_eq_true.mpr hown, countIn_cons_ok h1 h2 fun m hm => State.stageStatus_ok (List.mem_range.mp hm) he hroom]

/-! ### SAFE_COMMIT (R164) -/

/-- An accepted command whose own checks pass and that answers later takes its place and acts. -/
theorem State.receive_placed_long {chk : State → Nat → OpCheck} {run : State → Nat → State × Option (Status × List Byte)}
    (ht : s.takes h d i a) (hc : chk a i = ⟨true, true, false, .ok⟩)
    (hr : run (a.takePlace i (a.hdrDone h d.timed) h.timed) i = (t, none)) : s.receive h d chk run = t := by
  rw [State.receive_takes ht (by rw [hc]) (by rw [hc]) (by rw [hc]) (by rw [hc]), hr]

theorem State.staging_commitSet : ((s.commitSet i k).session i).staging = [] := by
  have hput (u : State) (xs : List (Nat × Nat)) {c p l : Nat} : (u.putParams i c p l xs).sessions = u.sessions :=
    (State.putParams_good u i c p l xs).same .sessions rfl
  exact congrArg Prod.fst ((State.held_paramAfter.trans (State.held_of_sessions (hput _ _))).trans
    (congrArg Session.held (State.session_setSession.trans (if_pos rfl))))

/-- The transfer of a committed set waits for its block. -/
theorem State.mem_sched_commitSet : ⟨k, .slCommit⟩ ∈ (s.commitSet i k).sched := List.mem_append_right _ (List.mem_singleton_self _)

/-- The checks of a commit that applies its set. -/
theorem safeCommit_checks (hl : lenIs h 4 = true) (he : ∀ e ∈ (a.session i).staging, a.entryStatus i e = .ok)
    (hc : (a.commitSet i (a.hdrNext h)).paramCheck ((a.session i).staging.map Prod.fst) .ok = .ok) :
    (⟨lenIs h 4, true, false, firstBad [.ok, (a.commitSet i (a.hdrNext h)).paramCheck ((a.session i).staging.map Prod.fst)
      (firstBad ((a.session i).staging.map (a.entryStatus i)))]⟩ : OpCheck) = ⟨true, true, false, .ok⟩ := by
  have hall : firstBad ((a.session i).staging.map (a.entryStatus i)) = .ok := firstBad_of_all_ok (List.forall_mem_map.mpr he)
  rw [hl, hall, hc]
  rfl

section
variable (ht : s.takes h ⟨0x0B04, (2, 0), .nextBlock, false, .other⟩ i a) (hl : lenIs h 4 = true)
include ht hl

theorem exec_safeCommit_discard :
    let p : State := a.takePlace i (a.hdrDone h .nextBlock) h.timed
    exec (.safeCommit h 1#8) s = .next ((p.setStaging i []).reply i 0x0B04 h.seq.toNat .ok (leBytes 8 a.tm.blockCount) true) := by
  have htm : (a.takePlace i (a.hdrDone h .nextBlock) h.timed).tm = a.tm := State.takePlace_tm
  rw [← htm]
  refine congrArg _ (State.receive_placed ht ?_ rfl)
  show (⟨lenIs h 4, true, false, .ok⟩ : OpCheck) = _
  rw [hl]

variable (he : ∀ e ∈ (a.session i).staging, a.entryStatus i e = .ok)
  (hc : (a.commitSet i (a.hdrNext h)).paramCheck ((a.session i).staging.map Prod.fst) .ok = .ok)
include he hc

theorem exec_safeCommit_timed (htimed : h.timed = true) :
    let p : State := a.takePlace i (a.hdrDone h .nextBlock) h.timed
    exec (.safeCommit h 0#8) s = .next ((p.commitSet i (a.hdrNext h)).reply i 0x0B04 h.seq.toNat .ok (leBytes 8 (a.hdrNext h)) true) := by
  have hclock : a.SameClock (a.takePlace i (a.hdrDone h .nextBlock) h.timed) := .takePlace
  rw [← hclock.hdrNext]
  exact congrArg _ (State.receive_placed ht (safeCommit_checks hl he hc) (if_pos htimed))

theorem exec_safeCommit_untimed (htimed : h.timed = false) :
    exec (.safeCommit h 0#8) s = .next (((a.commitSet i a.effectBlock).later a.effectBlock (.slReply i 0x0B04 h.seq.toNat)).flag R.MIX_SL_CTRL_HOLD) := by
  refine congrArg _ (State.receive_placed_long ht (safeCommit_checks hl he hc) ?_)
  rw [htimed, State.takePlace_false]
  rfl

end

end

/-! ### A timed PARAM_WRITE -/

/-- After first lock, with the host interface on, a SINGLE unit has session 0 open under version 3.2. -/
def rampUnit : State :=
  { ((State.reset.wr R.HIF_CTRL_ENABLE 1).wr R.FLD_STATUS_ROLE 0).wr R.TSU_STATUS_FIRST 1 with
    sessions := [(0, { sessReset with phase := .opened, major := 3, minor := 2, cls := 0, pmax := 4080 })] }

/-- The header of a command with one parameter, to be applied 2 s from now. -/
def rampHdr : Hdr :=
  { port := 0, sess := 0, major := 3, minor := 2, timed := true, ramp := false, event := false, more := false, prot := false, rsvFlags := false,
    rsvHdr := false, rsvPay := false, seq := 1, framing := .good, tagOk := false, len := 16, time := 1000000000, rampMs := 0, t := 0 }

/-- The unit once the command is accepted. -/
def rampHeard : State :=
  ((((rampUnit.atRaw 0).takeInbound 0).bump (R.HIF_CNT_RX_VALUE 0)).heard 0).accept 0 rampHdr

theorem rampUnit_takes : rampUnit.takes rampHdr ⟨0x0B02, (1, 0), paramKind [8], true, .other⟩ 0 rampHeard := by decide +kernel

/-- Refutes O41: the clause of the ramp time says that the sessions stay as they are, but it admits timed commands, and a timed one takes a place in its
session (R293). -/
theorem not_parameterWritten : ¬ Obligations.ParameterWritten := by
  unfold Obligations.ParameterWritten
  rintro ⟨-, -, hramp, -⟩
  obtain ⟨r, hr, -, hs, -⟩ := hramp rampUnit rampHeard rampHdr 0 1000#32 rampUnit_takes (by decide) (by decide) (by decide)
  exact paramWrite_ramp_changes_sessions rampUnit_takes (by decide) (by decide) (by decide) rfl rfl hr hs

/-- Settles O42: each command passes its checks and runs; the staging set is read off the session it is put in, the transfer and the reply off the
changes that wait. -/
theorem safeLoads : Obligations.SafeLoads := by
  unfold Obligations.SafeLoads
  exact ⟨fun s a h i es ht hl h1 h2 he hroom => ⟨_, exec_safeStage ht hl h1 h2 (List.forall_mem_map.mpr fun e hm => (he e hm).1)
      (List.forall_mem_map.mpr fun e hm => (he e hm).2) hroom, State.staging_setStaging, rfl, rfl⟩,
    fun s a h i ht hl => ⟨_, exec_safeCommit_discard ht hl, State.staging_setStaging, State.takePlace_regs, State.takePlace_sched⟩,
    fun s a h i ht hl he hc =>
      ⟨fun htimed => ⟨_, exec_safeCommit_timed ht hl he hc htimed, State.staging_commitSet, State.mem_sched_commitSet⟩,
        fun htimed => ⟨_, exec_safeCommit_untimed ht hl he hc htimed, State.staging_commitSet, State.on_flag_self (by decide),
          List.mem_append_left _ State.mem_sched_commitSet, List.mem_append_right _ (List.mem_singleton_self _)⟩⟩⟩

end Sys2Proof.Machine
end

section
/-! PROOFS. The commands of the audio ports (R172, R177, R184, R185, R189): register words that wait for their block, channel maps and masks that read back
at once, and what the end of a commit leaves of both. -/

-- One proof at a time: the package as one text then takes less memory.
set_option Elab.async false

namespace Sys2Proof.Machine

open Sys2Proof

section
variable {s t a : State} {h : Hdr} {d : OpInfo} {f g : Fld} {i j k n : Nat}

/-! ### Registers that the end of a commit leaves (R313, R346) -/

theorem State.rd_setSession {x : Session} : (s.setSession i x).rd g = s.rd g := State.rd_congr rfl rfl

theorem State.rd_moveEvent : (s.moveEvent i).rd g = s.rd g := by
  unfold State.moveEvent
  dsimp only
  split
  · rfl
  · exact State.rd_enqueue.trans State.rd_setSession

theorem State.rd_pump : (s.pump n).rd g = s.rd g := by
  induction n generalizing s with
  | zero => rfl
  | succ n ih =>
    refine ih.trans (foldl_keeps (fun u : State => u.rd g) (fun u k => ?_) _ s)
    split
    · exact State.rd_moveEvent
    · rfl

section
variable (hg : g.addr < (R.HIF_CNT_EVT_LOST_VALUE 0).addr)
include hg

/-- An event moves no register but a counter of the host interface. -/
theorem State.rd_eventTo {c : Nat} {data : List Byte} : (s.eventTo i c data).rd g = s.rd g := by
  unfold State.eventTo
  dsimp only
  split
  · rfl
  split
  · exact State.rd_pump.trans State.rd_setSession
  · exact (State.rd_bump_addr (Nat.ne_of_lt (hg.trans_le (Nat.le_add_right _ _)))).trans State.rd_setSession

theorem State.rd_budgetEvent : (s.budgetEvent n).rd g = s.rd g :=
  foldl_keeps (fun u : State => u.rd g) (fun _ _ => State.rd_eventTo hg) _ s

/-- The end of a commit moves OVERBUDGET and the counts of lost events alone. -/
theorem State.rd_afterCommit (hc : g.addr ≠ R.CEL_STATUS_OVERBUDGET.addr) : s.afterCommit.rd g = s.rd g := by
  unfold State.afterCommit State.showBudget
  repeat' split
  · exact (State.rd_budgetEvent hg).trans (State.rd_wr_addr hc)
  · rfl
  · rfl
  · exact (State.rd_budgetEvent hg).trans (State.rd_flag_addr hc)
  · rfl

end

/-- A commit that passed, with the configuration queued for the partner. -/
def State.configured (s : State) : State := s.afterCommit.queueBulk bulkConfig

theorem State.sched_configured : s.configured.sched = s.sched := State.queueBulk_sched.trans State.afterCommit_sched

theorem State.live_configured : s.configured.live = s.live := State.queueBulk_live.trans State.afterCommit_live

/-- The registers of the audio ports stand below those of the host interface and above those of the Cellar. -/
theorem State.rd_configured (hg : 0x50000000 ≤ g.addr ∧ g.addr < 0x500A0000) : s.configured.rd g = s.rd g := by
  have hlost : g.addr < (R.HIF_CNT_EVT_LOST_VALUE 0).addr := hg.2.trans (by decide)
  have hcel : R.CEL_STATUS_OVERBUDGET.addr < g.addr := Nat.lt_of_lt_of_le (by decide) hg.1
  exact State.rd_queueBulk.trans (State.rd_afterCommit hlost (Nat.ne_of_gt hcel))

/-! ### Words and fields that wait (R14, R21) -/

section
variable {x : Sched} {c v w : Nat}

theorem State.mem_sched_regAt : ⟨k, .reg c v⟩ ∈ (s.regAt k c v).sched := List.mem_append_right _ (List.mem_singleton_self _)

/-- A word that waits stays as words for other registers are written. -/
theorem State.mem_sched_regAt_other (hne : c ≠ n) (hm : ⟨j, .reg c v⟩ ∈ s.sched) : ⟨j, .reg c v⟩ ∈ (s.regAt k n w).sched :=
  List.mem_append_left _ (List.mem_filter.mpr ⟨hm, by simp [hne]⟩)

/-- Of two words written one after the other to different registers both wait. -/
theorem State.mem_sched_words (hne : c ≠ n) :
    let r : State := ((s.regAt k c v).regAt k n w).configured
    ⟨k, .reg c v⟩ ∈ r.sched ∧ ⟨k, .reg n w⟩ ∈ r.sched ∧ r.live = s.live := by
  dsimp only
  rw [State.sched_configured, State.live_configured, State.regAt_live, State.regAt_live]
  exact ⟨State.mem_sched_regAt_other hne State.mem_sched_regAt, State.mem_sched_regAt, rfl⟩

theorem State.mem_sched_wrAt (hx : x.act.isWrite = false) (hm : x ∈ s.sched) : x ∈ (s.wrAt k f v).sched :=
  List.mem_append_left _ (State.mem_sched_replaceChange hx hm)

theorem State.rd_wrAt_beside (hb : Fld.beside g f) : (s.wrAt k f v).rd g = s.rd g := (State.rd_wr_beside hb).trans State.rd_replaceChange

/-- Bits of a word fit the field that they are written to. -/
theorem State.rd_wrAt_bitsOf (hf : f.lo ≤ f.hi) (hw : f.hi - f.lo = c - n) : (s.wrAt k f (bitsOf v c n)).rd f = bitsOf v c n := by
  rw [State.rd_wrAt_self hf, hw, Nat.mod_eq_of_lt bitsOf_lt]

end

/-! ### Channel maps (R177) -/

section
variable {en out : Fld} {o : BitVec 16} {x : Sched}

theorem State.mem_sched_mapAt (hx : x.act.isWrite = false) (hm : x ∈ s.sched) : x ∈ (s.mapAt k en out o).sched := by
  unfold State.mapAt
  split
  · exact State.mem_sched_wrAt hx hm
  · exact State.mem_sched_wrAt hx (State.mem_sched_wrAt hx hm)

theorem State.rd_mapAt_addr (he : g.addr ≠ en.addr) (ho : g.addr ≠ out.addr) : (s.mapAt k en out o).rd g = s.rd g := by
  unfold State.mapAt
  split
  · exact State.rd_wrAt_addr he
  · exact (State.rd_wrAt_addr ho).trans (State.rd_wrAt_addr he)

/-- EN of an entry says whether it names an output. -/
theorem State.on_mapAt (hb : en.hi = en.lo) (hbe : Fld.beside en out) : (s.mapAt k en out o).on en = decide (o.toNat ≠ 0xFFFF) := by
  unfold State.mapAt State.on
  split
  · next h => rw [State.rd_wrAt_self (Nat.le_of_eq hb.symm), hb, Nat.sub_self]; simp [h]
  · next h => rw [State.rd_wrAt_beside hbe, State.rd_wrAt_self (Nat.le_of_eq hb.symm), hb, Nat.sub_self]; simp [h]

end

/-- What step `k` of a loop sets and the others leave alone stands at its end. -/
theorem foldl_range_sets {β γ : Type} {π : β → γ} {F : β → Nat → β} {v : γ} {b : β} (hk : k < n) (hset : ∀ b, π (F b k) = v)
    (hkeep : ∀ b x, x ≠ k → π (F b x) = π b) : π ((List.range n).foldl F b) = v := by
  induction n with
  | zero => exact absurd hk (Nat.not_lt_zero k)
  | succ n ih =>
    rw [List.range_succ, List.foldl_concat]
    by_cases hn : n = k
    · rw [hn, hset]
    · rw [hkeep _ _ hn, ih (by omega)]

/-! ### PORT_TDM_SET (R172, R177) -/

section
variable {cfg tol mIn mOut : Nat} {map : List (BitVec 16)}

/-- The words and masks of a TDM port, before its channel map. -/
def State.tdmWords (s : State) (n cfg tol mIn mOut k : Nat) : State :=
  (((s.regAt k (R.TDM_CFG_w n).addr cfg).regAt k (R.TDM_ALIGN_w n).addr tol).wrAt k (R.TDM_MASK_IN_SLOTS n) mIn).wrAt k (R.TDM_MASK_OUT_SLOTS n) mOut

/-- One entry of the channel map of a TDM port. -/
def State.tdmEntry (n k : Nat) (map : List (BitVec 16)) (s : State) (j : Nat) : State :=
  s.mapAt k (R.TDM_CHMAP_EN n j) (R.TDM_CHMAP_OUTPUT n j) (map.getD j 0xFFFF#16)

theorem State.acceptTdm_eq : s.acceptTdm n cfg tol mIn mOut map k = (List.range 32).foldl (State.tdmEntry n k map) (s.tdmWords n cfg tol mIn mOut k) := rfl

theorem State.mem_sched_acceptTdm {x : Sched} (hx : x.act.isWrite = false)
    (hm : x ∈ ((s.regAt k (R.TDM_CFG_w n).addr cfg).regAt k (R.TDM_ALIGN_w n).addr tol).sched) : x ∈ (s.acceptTdm n cfg tol mIn mOut map k).sched :=
  List.foldlRecOn (motive := fun u : State => x ∈ u.sched) _ _ (State.mem_sched_wrAt hx (State.mem_sched_wrAt hx hm))
    fun _ hu _ _ => State.mem_sched_mapAt hx hu

theorem State.rd_acceptTdm_below (hg : g.addr < 0x50000100 + 1024 * n) : (s.acceptTdm n cfg tol mIn mOut map k).rd g = (s.tdmWords n cfg tol mIn mOut k).rd g := by
  refine foldl_keeps (fun u : State => u.rd g) (fun u j => ?_) _ _
  have hne : g.addr ≠ 0x50000100 + 1024 * n + 4 * j := by omega
  exact State.rd_mapAt_addr hne hne

theorem State.rd_acceptTdm_masks (hi : mIn < 2 ^ 32) (ho : mOut < 2 ^ 32) :
    let t : State := s.acceptTdm n cfg tol mIn mOut map k
    t.rd (R.TDM_MASK_IN_SLOTS n) = mIn ∧ t.rd (R.TDM_MASK_OUT_SLOTS n) = mOut := by
  have hne : (R.TDM_MASK_IN_SLOTS n).addr ≠ (R.TDM_MASK_OUT_SLOTS n).addr := by simp [R.TDM_MASK_IN_SLOTS, R.TDM_MASK_OUT_SLOTS]
  constructor
  · rw [State.rd_acceptTdm_below (by simp [R.TDM_MASK_IN_SLOTS]), State.tdmWords, State.rd_wrAt_addr hne, State.rd_wrAt_self (Nat.zero_le _)]
    exact Nat.mod_eq_of_lt hi
  · rw [State.rd_acceptTdm_below (by simp [R.TDM_MASK_OUT_SLOTS]), State.tdmWords, State.rd_wrAt_self (Nat.zero_le _)]
    exact Nat.mod_eq_of_lt ho

theorem State.on_acceptTdm_entry {o : BitVec 16} (hj : j < 32) (ho : map[j]? = some o) :
    (s.acceptTdm n cfg tol mIn mOut map k).on (R.TDM_CHMAP_EN n j) = decide (o.toNat ≠ 0xFFFF) := by
  have hbe : Fld.beside (R.TDM_CHMAP_EN n j) (R.TDM_CHMAP_OUTPUT n j) := by simp [Fld.beside, R.TDM_CHMAP_EN, R.TDM_CHMAP_OUTPUT]
  refine foldl_range_sets (π := fun u : State => u.on (R.TDM_CHMAP_EN n j)) hj (fun u => ?_) fun u x hx => State.on_of_rd ?_
  · rw [List.getD_eq_getElem?_getD, ho, Option.getD_some]
    exact State.on_mapAt rfl hbe
  · have hne : 0x50000100 + 1024 * n + 4 * j ≠ 0x50000100 + 1024 * n + 4 * x := by omega
    exact State.rd_mapAt_addr hne hne

/-- What PORT_TDM_SET leaves: both words wait, the masks and the map read back. -/
theorem State.acceptTdm_configured {port : BitVec 8} {mIn mOut : BitVec 32} :
    let r : State := (s.acceptTdm port.toNat cfg tol mIn.toNat mOut.toNat map k).configured
    ⟨k, .reg (R.TDM_CFG_w port.toNat).addr cfg⟩ ∈ r.sched ∧ ⟨k, .reg (R.TDM_ALIGN_w port.toNat).addr tol⟩ ∈ r.sched ∧
      r.rd (R.TDM_MASK_IN_SLOTS port.toNat) = mIn.toNat ∧ r.rd (R.TDM_MASK_OUT_SLOTS port.toNat) = mOut.toNat ∧
      ∀ j o, j < 32 → map[j]? = some o → r.on (R.TDM_CHMAP_EN port.toNat j) = decide (o.toNat ≠ 0xFFFF) := by
  obtain ⟨hin, hout⟩ := State.rd_acceptTdm_masks (s := s) (n := port.toNat) (k := k) (cfg := cfg) (tol := tol) (map := map) mIn.isLt mOut.isLt
  refine ⟨?_, ?_, ?_, ?_, fun j o hj ho => ?_⟩
  · rw [State.sched_configured]
    exact State.mem_sched_acceptTdm rfl (State.mem_sched_regAt_other (by simp [R.TDM_CFG_w, R.TDM_ALIGN_w]) State.mem_sched_regAt)
  · rw [State.sched_configured]
    exact State.mem_sched_acceptTdm rfl State.mem_sched_regAt
  · rw [State.rd_configured (by simp [R.TDM_MASK_IN_SLOTS]; omega), hin]
  · rw [State.rd_configured (by simp [R.TDM_MASK_OUT_SLOTS]; omega), hout]
  · rw [State.on_of_rd (State.rd_configured (by simp [R.TDM_CHMAP_EN]; omega)), State.on_acceptTdm_entry hj ho]

end

theorem exec_portTdmSet {port : BitVec 8} {cfg mIn mOut : BitVec 32} {tol : BitVec 16} {map : List (BitVec 16)}
    (ht : s.takes h (op 0x0503 1 0 .other) i a) (hl : lenIs h 84 = true) (hcls : (a.session i).cls ≤ 1)
    (hc : (a.acceptTdm port.toNat cfg.toNat tol.toNat mIn.toNat mOut.toNat map a.effectBlock).portCommit
      (firstBad ([badUnless (port.toNat < 16), wordStatus (R.TDM_CFG_w 0).addr 0 cfg.toNat, badUnless (tol.toNat < 32768),
        badUnless !(bitOf cfg.toNat 30 && bitOf cfg.toNat 29), (if a.frameFits cfg.toNat then .ok else .limit)] ++ map.map a.mapStatus)) = .ok) :
    exec (.portTdmSet h port cfg tol mIn mOut map) s =
      .next ((a.acceptTdm port.toNat cfg.toNat tol.toNat mIn.toNat mOut.toNat map a.effectBlock).configured.reply i 0x0503 h.seq.toNat .ok [] true) :=
  congrArg _ (State.receive_untimed ht rfl (by rw [hl, State.classAtMost, decide_eq_true hcls, hc]) rfl)

/-! ### PORT_AES_SET (R184) -/

section
variable {cfg map tpl : Nat}

/-- The maps of an AES3 output, once its configuration waits. -/
def State.aesMaps (s : State) (n cfg map k : Nat) : State :=
  ((((s.regAt k (R.AES_OCFG_w n).addr cfg).wrAt k (R.AES_OMAP_EN_A n) (bitsOf map 15 15)).wrAt k (R.AES_OMAP_OUT_A n) (bitsOf map 9 0)).wrAt k
    (R.AES_OMAP_EN_B n) (bitsOf map 31 31)).wrAt k (R.AES_OMAP_OUT_B n) (bitsOf map 25 16)

theorem State.rd_acceptAesOut : (s.acceptAesOut n cfg map tpl k).rd g = (s.aesMaps n cfg map k).rd g :=
  (foldl_keeps (fun u : State => u.rd g) (fun _ _ => State.rd_regAt) _ _).trans State.rd_regAt

theorem State.rd_acceptAesOut_map :
    let t : State := s.acceptAesOut n cfg map tpl k
    t.rd (R.AES_OMAP_OUT_A n) = bitsOf map 9 0 ∧ t.rd (R.AES_OMAP_OUT_B n) = bitsOf map 25 16 := by
  have hen : Fld.beside (R.AES_OMAP_OUT_A n) (R.AES_OMAP_EN_B n) := by simp [Fld.beside, R.AES_OMAP_OUT_A, R.AES_OMAP_EN_B]
  have hout : Fld.beside (R.AES_OMAP_OUT_A n) (R.AES_OMAP_OUT_B n) := by simp [Fld.beside, R.AES_OMAP_OUT_A, R.AES_OMAP_OUT_B]
  constructor
  · rw [State.rd_acceptAesOut, State.aesMaps, State.rd_wrAt_beside hout, State.rd_wrAt_beside hen]
    exact State.rd_wrAt_bitsOf (f := R.AES_OMAP_OUT_A n) (Nat.zero_le _) rfl
  · rw [State.rd_acceptAesOut, State.aesMaps]
    exact State.rd_wrAt_bitsOf (f := R.AES_OMAP_OUT_B n) (by simp [R.AES_OMAP_OUT_B]) rfl

/-- The configuration waits, as the words of the channel status stand at other addresses. -/
theorem State.mem_sched_acceptAesOut : ⟨k, .reg (R.AES_OCFG_w n).addr cfg⟩ ∈ (s.acceptAesOut n cfg map tpl k).sched := by
  have hcs0 : (R.AES_OCFG_w n).addr ≠ (R.AES_OCS0_CS n).addr := by simp [R.AES_OCFG_w, R.AES_OCS0_CS]
  have hcs (w : Nat) : 0x50010800 + 256 * n ≠ 0x50010814 + 256 * n + 4 * w := by omega
  have hmaps : ⟨k, .reg (R.AES_OCFG_w n).addr cfg⟩ ∈ (s.aesMaps n cfg map k).sched :=
    State.mem_sched_wrAt rfl (State.mem_sched_wrAt rfl (State.mem_sched_wrAt rfl (State.mem_sched_wrAt rfl State.mem_sched_regAt)))
  exact List.foldlRecOn (motive := fun u : State => ⟨k, .reg (R.AES_OCFG_w n).addr cfg⟩ ∈ u.sched) _ _ (State.mem_sched_regAt_other hcs0 hmaps)
    fun _ hu w _ => State.mem_sched_regAt_other (hcs w) hu

/-- What PORT_AES_SET leaves of an output: the configuration waits, the outputs of its map read back. -/
theorem State.acceptAesOut_configured (hn : n < 4) :
    let r : State := (s.acceptAesOut n cfg map tpl k).configured
    ⟨k, .reg (R.AES_OCFG_w n).addr cfg⟩ ∈ r.sched ∧ r.rd (R.AES_OMAP_OUT_A n) = bitsOf map 9 0 ∧ r.rd (R.AES_OMAP_OUT_B n) = bitsOf map 25 16 := by
  dsimp only
  rw [State.sched_configured, State.rd_configured (by simp [R.AES_OMAP_OUT_A]; omega), State.rd_configured (by simp [R.AES_OMAP_OUT_B]; omega)]
  exact ⟨State.mem_sched_acceptAesOut, State.rd_acceptAesOut_map⟩

end

theorem exec_portAesSet {dir index : BitVec 8} {cfg map : BitVec 32} {tpl : BitVec 192}
    (ht : s.takes h (op 0x0504 1 0 .other) i a) (hl : lenIs h 36 = true) (hcls : (a.session i).cls ≤ 1) (hd : dir.toNat ≤ 1) (hn : index.toNat < 4)
    (hc : ((if dir.toNat = 0 then a.regAt a.effectBlock (R.AES_ICFG_w index.toNat).addr cfg.toNat
      else a.acceptAesOut index.toNat cfg.toNat map.toNat tpl.toNat a.effectBlock) : State).portCommit
      (firstBad [wordStatus (if dir.toNat = 0 then (R.AES_ICFG_w 0).addr else (R.AES_OCFG_w 0).addr) 0 cfg.toNat,
        (if dir.toNat = 1 then a.aesMapStatus map.toNat else .ok)]) = .ok) :
    exec (.portAesSet h dir index cfg map tpl) s =
      .next ((if dir.toNat = 0 then a.regAt a.effectBlock (R.AES_ICFG_w index.toNat).addr cfg.toNat
        else a.acceptAesOut index.toNat cfg.toNat map.toNat tpl.toNat a.effectBlock : State).configured.reply i 0x0504 h.seq.toNat .ok [] true) := by
  refine congrArg _ (State.receive_untimed ht rfl ?_ rfl)
  rw [hl, State.classAtMost, decide_eq_true hcls, badUnless_of (decide_eq_true hd), badUnless_of (decide_eq_true hn), firstBad_cons_ok, firstBad_cons_ok, hc]

/-! ### MIC_SET (R185) -/

theorem exec_micSet {input : BitVec 8} {cfg det : BitVec 32} (ht : s.takes h (op 0x0505 1 0 .other) i a) (hl : lenIs h 12 = true)
    (hcls : (a.session i).cls ≤ 1) (hn : input.toNat < 4) (hcfg : wordStatus (R.MIC_CFG_w 0).addr 0 cfg.toNat = .ok)
    (hdet : wordStatus (R.MIC_DET_CFG_w 0).addr 0 det.toNat = .ok) (hc : a.commitStatus = .ok) :
    exec (.micSet h input cfg det) s =
      .next ((((a.micGain input.toNat (bitsOf cfg.toNat 3 0)).regAt a.effectBlock (R.MIC_CFG_w input.toNat).addr cfg.toNat).regAt a.effectBlock
        (R.MIC_DET_CFG_w input.toNat).addr det.toNat).configured.reply i 0x0505 h.seq.toNat .ok [] true) := by
  refine congrArg _ (State.receive_untimed ht rfl ?_ rfl)
  rw [hl, State.classAtMost, decide_eq_true hcls, badUnless_of (decide_eq_true hn), hcfg, hdet, State.thenCommit, firstBad_of_all_ok (by simp), if_pos rfl, hc]

/-! ### ASRC_SET (R189) -/

theorem exec_asrcSet {ch bw : BitVec 8} {cfg : BitVec 32} (ht : s.takes h (op 0x0506 2 0 .other) i a) (hl : lenIs h 8 = true)
    (hcls : (a.session i).cls ≤ 1) {t : State}
    (hs : t = (a.regAt a.effectBlock (R.ASC_CFG_w ch.toNat).addr cfg.toNat).regAt a.effectBlock (R.ASC_LOOP_w ch.toNat).addr bw.toNat)
    (hc : t.portCommit (firstBad [badUnless (ch.toNat < 32), badUnless (bw.toNat < 16), wordStatus (R.ASC_CFG_w 0).addr 0 cfg.toNat,
      badUnless !(t.committed.sourceBarred (24576 + ch.toNat))]) = .ok) :
    exec (.asrcSet h ch bw cfg) s = .next (t.configured.reply i 0x0506 h.seq.toNat .ok [] true) := by
  subst hs
  exact congrArg _ (State.receive_untimed ht rfl (by rw [hl, State.classAtMost, decide_eq_true hcls, hc]) rfl)

end

/-- Settles O31: each command takes its place and runs; the words are found among the changes that wait, masks and maps read back from the registers, which
the end of the commit leaves alone. -/
theorem portCommands : Obligations.PortCommands := by
  unfold Obligations.PortCommands
  refine ⟨fun s a h i port cfg tol mIn mOut map ht hl hcls hc => ⟨_, exec_portTdmSet ht hl hcls hc, State.acceptTdm_configured⟩,
    fun s a h i dir index cfg map tpl ht hl hcls hd hn hc => ⟨_, exec_portAesSet ht hl hcls hd hn hc, fun h0 => ?_, fun h1 => ?_⟩,
    fun s a h i input cfg det ht hl hcls hn hcfg hdet hc => ⟨_, exec_micSet ht hl hcls hn hcfg hdet hc,
      And.imp_right And.left (State.mem_sched_words (by simp [R.MIC_CFG_w, R.MIC_DET_CFG_w]))⟩,
    fun s a h i ch bw cfg ht hl hcls hc => ⟨_, exec_asrcSet ht hl hcls rfl hc, State.mem_sched_words (by simp [R.ASC_CFG_w, R.ASC_LOOP_w])⟩⟩
  · rw [if_pos (by simp [h0]), State.sched_configured, State.live_configured]
    exact ⟨State.mem_sched_regAt, State.regAt_live⟩
  · rw [if_neg (by simp [h1])]
    exact State.acceptAesOut_configured hn

end Sys2Proof.Machine
end

section
/-! PROOFS. The configuration commands of the power stage (R197, R198, R206, R207, R213): the words of a channel, of a loop pair and of the protected entries
wait for their block, and a frequency search and the end of the commit leave them. -/

-- One proof at a time: the package as one text then takes less memory.
set_option Elab.async false

namespace Sys2Proof.Machine

open Sys2Proof

section
variable {s a k : State} {h : Hdr} {f : Fld} {i b c n v : Nat} {x : Sched} {ws : List (Nat × Nat)} {ch : BitVec 8} {pair : Bool}

/-! ### Words that wait together (R21) -/

/-- Register words, by address, that wait for one block. -/
def State.regsAt (s : State) (b : Nat) (ws : List (Nat × Nat)) : State := ws.foldl (fun t p => t.regAt b p.1 p.2) s

/-- A word that waits stays as words for other registers are written. -/
theorem State.mem_sched_regsAt_other (hc : c ∉ ws.map Prod.fst) (hm : ⟨n, .reg c v⟩ ∈ s.sched) : ⟨n, .reg c v⟩ ∈ (s.regsAt b ws).sched :=
  List.foldlRecOn (motive := fun u : State => ⟨n, .reg c v⟩ ∈ u.sched) ws _ hm fun _ hu _ hp =>
    State.mem_sched_regAt_other (fun e => hc (List.mem_map.mpr ⟨_, hp, e.symm⟩)) hu

/-- Words written one after another, each to a register of its own, all wait. -/
theorem State.mem_sched_regsAt (hd : (ws.map Prod.fst).Nodup) (hw : (c, v) ∈ ws) : ⟨b, .reg c v⟩ ∈ (s.regsAt b ws).sched := by
  induction ws generalizing s with
  | nil => exact absurd hw List.not_mem_nil
  | cons p ws ih =>
    obtain ⟨hp, hd⟩ := List.nodup_cons.mp hd
    obtain rfl | hw := List.mem_cons.mp hw
    · exact State.mem_sched_regsAt_other (s := s.regAt b c v) hp State.mem_sched_regAt
    · exact ih hd hw

theorem State.rd_later {act : Act} : (s.later b act).rd f = s.rd f := State.rd_congr rfl rfl

theorem State.mem_sched_later {act : Act} (hm : x ∈ s.sched) : x ∈ (s.later b act).sched := List.mem_append_left _ hm

/-! ### The frequency search (R197, R198) -/

/-- A frequency found for a channel waits for the next boundary, and for the B-end of its pair too. -/
def State.applyFreq (k s : State) (n c : Nat) : State :=
  let t := s.later s.nextBlock (.psFreq n c)
  if k.rd (R.PWS_CFG_ROLE n) = 1 then t.later t.nextBlock (.psFreq (n + 1) c) else t

/-- A search without a result: BAND_FAIL is set and counted. -/
def State.bandFailed (s : State) (n : Nat) : State := ((s.flag (R.PWS_FAULT_BAND_FAIL n)).bump (R.PWS_CNT_BAND_VALUE n)).showFaults

/-- What a search can do: BAND_FAIL may be set, and a frequency may come to wait. -/
theorem State.freqSearchIn_cases : ∃ t, (t = s ∨ t = s.bandFailed n) ∧
    (State.freqSearchIn k s n = t ∨ ∃ c, State.freqSearchIn k s n = State.applyFreq k t n c) := by
  unfold State.freqSearchIn
  dsimp only
  split
  · exact ⟨s, .inl rfl, .inl rfl⟩
  split
  · exact ⟨s, .inl rfl, .inr ⟨_, rfl⟩⟩
  split
  · exact ⟨_, .inr rfl, .inl rfl⟩
  · exact ⟨_, .inr rfl, .inr ⟨_, rfl⟩⟩

theorem State.mem_sched_applyFreq (hm : x ∈ s.sched) : x ∈ (State.applyFreq k s n c).sched := by
  unfold State.applyFreq
  dsimp only
  split
  · exact State.mem_sched_later (State.mem_sched_later hm)
  · exact State.mem_sched_later hm

theorem State.rd_applyFreq : (State.applyFreq k s n c).rd f = s.rd f := by
  unfold State.applyFreq
  dsimp only
  split
  · exact State.rd_later.trans State.rd_later
  · exact State.rd_later

theorem State.sched_bandFailed : (s.bandFailed n).sched = s.sched :=
  State.wr_sched.trans (State.bump_sched.trans State.flag_sched)

/-- BAND_FAIL, its count and the summary of the faults stand in registers of their own. -/
theorem State.rd_bandFailed (hf : f.addr ≠ (R.PWS_FAULT_BAND_FAIL n).addr) (hc : f.addr ≠ (R.PWS_CNT_BAND_VALUE n).addr)
    (hs : f.addr ≠ R.PWS_FAULT_SUM_CHAN.addr) : (s.bandFailed n).rd f = s.rd f :=
  (State.rd_wr_addr hs).trans ((State.rd_bump_addr hc).trans (State.rd_flag_addr hf))

/-- What waits stays through a search. -/
theorem State.mem_sched_freqSearchIn (hm : x ∈ s.sched) : x ∈ (State.freqSearchIn k s n).sched := by
  obtain ⟨t, ht, hr⟩ := State.freqSearchIn_cases (k := k) (s := s) (n := n)
  have hmt : x ∈ t.sched := by
    obtain rfl | rfl := ht
    · exact hm
    · rwa [State.sched_bandFailed]
  obtain hr | ⟨c, hr⟩ := hr
  · exact hr ▸ hmt
  · exact hr ▸ State.mem_sched_applyFreq hmt

/-- A search leaves the full-scale voltage of its channel. -/
theorem State.rd_freqSearchIn_vfs : (State.freqSearchIn k s n).rd (R.PWS_VFS_VFS n) = s.rd (R.PWS_VFS_VFS n) := by
  obtain ⟨t, ht, hr⟩ := State.freqSearchIn_cases (k := k) (s := s) (n := n)
  have hrt : t.rd (R.PWS_VFS_VFS n) = s.rd (R.PWS_VFS_VFS n) := by
    obtain rfl | rfl := ht
    · rfl
    · exact State.rd_bandFailed (by simp [R.PWS_VFS_VFS, R.PWS_FAULT_BAND_FAIL]) (by simp [R.PWS_VFS_VFS, R.PWS_CNT_BAND_VALUE])
        (by simp [R.PWS_VFS_VFS, R.PWS_FAULT_SUM_CHAN]; omega)
  obtain hr | ⟨c, hr⟩ := hr
  · rw [hr, hrt]
  · rw [hr, State.rd_applyFreq, hrt]

/-! ### PS_CONFIG (R198, R206, R213) -/

/-- The register words of PS_CONFIG but VFS, by address. -/
def State.psWords (s : State) (n : Nat) (w : PsWords) : List (Nat × Nat) :=
  [((R.PWS_CFG_w n).addr, s.cfgWord n w.cfg), ((R.PWS_FSW_w n).addr, w.fsw.toNat), ((R.PWS_TIME_w n).addr, w.time.toNat),
    ((R.PWS_SAG_w n).addr, w.sag.toNat), ((R.PWS_CAL_w n).addr, w.cal.toNat), ((R.PWS_PROBE_w n).addr, w.probe.toNat),
    ((R.PWS_LOOP_w n).addr, w.loop.toNat)]

theorem State.acceptPs_eq {w : PsWords} : s.acceptPs n w b = (s.regsAt b (s.psWords n w)).wrAt b (R.PWS_VFS_VFS n) w.vfs.toNat := rfl

theorem State.nodup_psWords {w : PsWords} : ((s.psWords n w).map Prod.fst).Nodup := by
  simp [State.psWords, R.PWS_CFG_w, R.PWS_FSW_w, R.PWS_TIME_w, R.PWS_SAG_w, R.PWS_CAL_w, R.PWS_PROBE_w, R.PWS_LOOP_w]

theorem State.mem_sched_acceptPs {w : PsWords} (hw : (c, v) ∈ s.psWords n w) : ⟨b, .reg c v⟩ ∈ (s.acceptPs n w b).sched :=
  State.acceptPs_eq ▸ State.mem_sched_wrAt rfl (State.mem_sched_regsAt State.nodup_psWords hw)

theorem State.rd_acceptPs_vfs {w : PsWords} :
    (s.acceptPs n w b).rd (R.PWS_VFS_VFS n) = w.vfs.toNat % 2 ^ ((R.PWS_VFS_VFS n).hi - (R.PWS_VFS_VFS n).lo + 1) :=
  State.rd_wrAt_self (Nat.zero_le _)

/-- A commit to a channel that passed: its search has run over the configuration that the commit leaves. -/
def State.searched (s : State) (n : Nat) : State := (State.freqSearchIn s.committed s n).configured

theorem State.mem_sched_searched (hm : x ∈ s.sched) : x ∈ (s.searched n).sched := by
  rw [State.searched, State.sched_configured]
  exact State.mem_sched_freqSearchIn hm

theorem State.rd_searched_vfs (hn : n < 24) : (s.searched n).rd (R.PWS_VFS_VFS n) = s.rd (R.PWS_VFS_VFS n) :=
  (State.rd_configured (by simp [R.PWS_VFS_VFS]; omega)).trans State.rd_freqSearchIn_vfs

theorem exec_psConfig {w : PsWords} (ht : s.takes h (op 0x0601 1 0 .other) i a) (hl : lenIs h 36 = true) (ho : a.ownsPs i ch.toNat = true)
    (hfb : bitOf w.cfg.toNat 26 = true → a.ownsPs i (bitsOf w.cfg.toNat 25 21) = true) (hn : ch.toNat < 24)
    (hc : (a.acceptPs ch.toNat w a.effectBlock).thenCommit
      (firstBad [a.psWordStatus w, (a.acceptPs ch.toNat w a.effectBlock).psCommitStatus ch.toNat]) = .ok) :
    exec (.psConfig h ch w) s = .next ((((a.lineAbort ch.toNat).acceptPs ch.toNat w (a.lineAbort ch.toNat).effectBlock).searched ch.toNat).reply i 0x0601
      h.seq.toNat .ok [] true) := by
  have hown : (!bitOf w.cfg.toNat 26 || a.ownsPs i (bitsOf w.cfg.toNat 25 21)) = true := by
    rw [Bool.or_eq_true, Bool.not_eq_true']
    exact (Bool.eq_false_or_eq_true _).elim (fun hb => .inr (hfb hb)) .inl
  refine congrArg _ (State.receive_untimed ht rfl ?_ rfl)
  rw [hl, ho, hown, badUnless_of (decide_eq_true hn), firstBad_cons_ok, hc, Bool.true_and]

/-! ### PS_LOOP_PAIR (R207) -/

/-- A channel's committed PWS_CFG with another ROLE. -/
def State.roleWord (s : State) (n role : Nat) : Nat := setBits (s.committed.word (R.PWS_CFG_w n)) 29 28 role

theorem State.role_roleWord (hv : v < 4) : bitsOf (s.roleWord n v) 29 28 = v :=
  (bitsOf_setBits (by decide)).trans (Nat.mod_eq_of_lt hv)

/-- The two words of PS_LOOP_PAIR, by address. -/
def State.pairWords (s : State) (n : Nat) (pair : Bool) : List (Nat × Nat) :=
  [((R.PWS_CFG_w n).addr, s.roleWord n (b2n pair)), ((R.PWS_CFG_w (n + 1)).addr, s.roleWord (n + 1) (2 * b2n pair))]

theorem State.mem_sched_acceptPair (hw : (c, v) ∈ s.pairWords n pair) : ⟨b, .reg c v⟩ ∈ (s.acceptPair n pair b).sched := by
  have hm : ⟨b, .reg c v⟩ ∈ (s.regsAt b (s.pairWords n pair)).sched :=
    State.mem_sched_regsAt (by simp [State.pairWords, R.PWS_CFG_w]) hw
  cases pair with
  | false => exact hm
  | true => exact State.mem_sched_later hm

theorem exec_psLoopPair (ht : s.takes h (op 0x0603 2 0 .other) i a) (hl : lenIs h 2 = true) (hA : a.ownsPs i ch.toNat = true)
    (hB : a.ownsPs i (ch.toNat + 1) = true) (hn : ch.toNat < 24) (heven : ch.toNat % 2 = 0)
    (hp : pair = true → a.committed.pairLegal ch.toNat = true ∧ a.committed.servesAny ch.toNat = false ∧ a.committed.servesAny (ch.toNat + 1) = false)
    (hc : (a.acceptPair ch.toNat pair a.effectBlock).commitStatus = .ok) {t : State} (hab : t = (a.lineAbort ch.toNat).lineAbort (ch.toNat + 1)) :
    exec (.psLoopPair h ch pair) s = .next ((t.acceptPair ch.toNat pair t.effectBlock).configured.reply i 0x0603 h.seq.toNat .ok [] true) := by
  subst hab
  have hlegal : (!pair || a.committed.pairLegal ch.toNat) = true := by
    cases pair with
    | false => rfl
    | true => exact (hp rfl).1
  have hserves : (pair && (a.committed.servesAny ch.toNat || a.committed.servesAny (ch.toNat + 1))) = false := by
    cases pair with
    | false => rfl
    | true => rw [(hp rfl).2.1, (hp rfl).2.2]; rfl
  refine congrArg _ (State.receive_untimed ht rfl ?_ rfl)
  rw [hl, hA, hB, badUnless_of (by simp [hn, heven]), badUnless_of hlegal, hserves, State.thenCommit, firstBad_of_all_ok (by simp), if_pos rfl, hc]
  rfl

/-! ### PS_BAND_PROTECT (R197, R198) -/

/-- The word of protected entry `k`: its frequency with EN, or 0 beyond those named. -/
def protWord (freqs : List (BitVec 16)) (k : Nat) : Nat := 
  match freqs[k]? with
  | some f => 0x80000000 + f.toNat
  | none => 0

theorem State.acceptProt_eq {freqs : List (BitVec 16)} :
    s.acceptProt freqs b = s.regsAt b ((List.range 8).map fun k => ((R.PWS_PROT_w k).addr, protWord freqs k)) := by
  rw [State.regsAt, List.foldl_map]
  rfl

theorem State.mem_sched_acceptProt {freqs : List (BitVec 16)} (hn : n < 8) :
    ⟨b, .reg (R.PWS_PROT_w n).addr (protWord freqs n)⟩ ∈ (s.acceptProt freqs b).sched := by
  rw [State.acceptProt_eq]
  refine State.mem_sched_regsAt ?_ (List.mem_map_of_mem (List.mem_range.mpr hn))
  rw [List.map_map]
  exact List.nodup_range.map fun x y e => by simpa [R.PWS_PROT_w] using e

/-- The searches of all channels, over one configuration. -/
def State.searchAll (k s : State) : State := (List.range 24).foldl (fun t n => State.freqSearchIn k t n) s

theorem State.mem_sched_searchAll (hm : x ∈ s.sched) : x ∈ (State.searchAll k s).sched :=
  List.foldlRecOn (motive := fun u : State => x ∈ u.sched) _ _ hm fun _ hu _ _ => State.mem_sched_freqSearchIn hu

/-- The reply: two bytes a channel for its code, three for the channels whose search failed. -/
def State.bandReply (k s : State) : List Byte :=
  ((List.range 24).map (fun n => leBytes 2 (State.chosenIn k s n))).flatten ++
    leBytes 3 ((List.range 24).foldr (fun n acc => s.rd (R.PWS_FAULT_BAND_FAIL n) + 2 * acc) 0)

theorem State.length_bandReply : (State.bandReply k s).length = 51 := by
  simp [State.bandReply, length_leBytes, Function.comp_def]

theorem exec_psBandProtect {freqs : List (BitVec 16)} (ht : s.takes h (op 0x0604 3 1 .other) i a) (hl : lenIs h (4 + 4 * freqs.length) = true)
    (hcls : (a.session i).cls = 0) (h8 : freqs.length ≤ 8) (hf : ∀ f ∈ freqs, f.toNat < 32768) {t r : State}
    (hs : t = a.acceptProt freqs a.effectBlock) (hc : t.commitStatus = .ok) (hr : r = State.searchAll t.committed t) :
    exec (.psBandProtect h freqs) s = .next (r.configured.reply i 0x0604 h.seq.toNat .ok (State.bandReply t.committed r) true) := by
  subst hs hr
  refine congrArg _ (State.receive_untimed ht rfl ?_ rfl)
  rw [hl, State.classAtMost, hcls, countIn_cons_ok (Nat.zero_le _) h8 fun f hm => badUnless_of (decide_eq_true (hf f hm)), State.thenCommit, if_pos rfl, hc]
  rfl

end

/-- Settles O32: each command runs after the line tests that it aborts; the words it gives wait for the block that then counts, through the frequency searches
and the end of the commit. -/
theorem powerConfiguration : Obligations.PowerConfiguration := by
  unfold Obligations.PowerConfiguration
  refine ⟨fun s a h i ch w ht hl ho hfb hn hc => ⟨_, exec_psConfig ht hl ho hfb hn hc, ?_⟩,
    fun s a h i ch pair ht hl hA hB hn heven hp hc => ⟨_, exec_psLoopPair ht hl hA hB hn heven hp hc rfl, ?_⟩,
    fun s a h i freqs ht hl hcls h8 hf hc =>
      ⟨_, _, exec_psBandProtect ht hl hcls h8 hf rfl hc rfl, State.length_bandReply, fun k hk => ?_⟩⟩
  · have hwaits {t : State} {b c v : Nat} (hw : (c, v) ∈ t.psWords ch.toNat w) : ⟨b, .reg c v⟩ ∈ ((t.acceptPs ch.toNat w b).searched ch.toNat).sched :=
      State.mem_sched_searched (State.mem_sched_acceptPs hw)
    exact ⟨hwaits (by simp [State.psWords]), hwaits (by simp [State.psWords]), hwaits (by simp [State.psWords]),
      (State.rd_searched_vfs hn).trans State.rd_acceptPs_vfs⟩
  · rw [State.sched_configured]
    have hb : b2n pair < 2 := by cases pair <;> decide
    exact ⟨⟨_, State.mem_sched_acceptPair List.mem_cons_self, State.role_roleWord (by omega)⟩,
      _, State.mem_sched_acceptPair (List.mem_cons_of_mem _ List.mem_cons_self), State.role_roleWord (by omega)⟩
  · rw [State.sched_configured]
    exact State.mem_sched_searchAll (State.mem_sched_acceptProt (freqs := freqs) hk)

end Sys2Proof.Machine
end
section
/-! PROOFS. What Tally's log, the end of a line test and the start of a slot leave (R218–R220, R228, R230): the registers beside those they write, and the
records beside those they keep. -/

-- One proof at a time: the package as one text then takes less memory.
set_option Elab.async false

namespace Sys2Proof.Machine

open Sys2Proof

section
variable {s t : State} {f g : Fld} {n k v w a b c d i : Nat} {l : LineTest} {once half mirror : Bool}

/-! ### Fields apart from each other (R14) -/

/-- A field of another register, or another field of the same one. -/
@[reducible] def Fld.Apart (g f : Fld) : Prop :=
  g.addr ≠ f.addr ∨ (g.rst = f.rst ∧ g.rst96 = f.rst96 ∧ f.lo ≤ f.hi ∧ g.lo ≤ g.hi ∧ (g.hi < f.lo ∨ f.hi < g.lo))

theorem State.rd_wr_apart (h : Fld.Apart g f) : (s.wr f v).rd g = s.rd g := by
  by_cases e : g.addr = f.addr
  · obtain ⟨hr, hr96, hf, hg, hd⟩ := h.resolve_left (not_not_intro e)
    exact State.rd_wr_bits e ⟨hr, hr96⟩ hf hg hd
  · exact State.rd_wr_addr e

theorem State.on_wr_apart (h : Fld.Apart g f) : (s.wr f v).on g = s.on g := State.on_of_rd (State.rd_wr_apart h)

/-- A value that fits its field reads back whole. -/
theorem State.rd_wr_of_lt (hf : f.lo ≤ f.hi) (hv : v < 2 ^ (f.hi - f.lo + 1)) : (s.wr f v).rd f = v := by
  rw [State.rd_wr_self hf, Nat.mod_eq_of_lt hv]

theorem State.on_wr_zero (h : f.lo ≤ f.hi) : (s.wr f 0).on f = false := by
  rw [State.on, State.rd_wr_self h, Nat.zero_mod]
  rfl

/-! ### The Tally log (R228, R230) -/

/-- An address that is none of those that the log writes. -/
@[reducible] def OffLog (b : Nat) : Prop := b ≠ R.TLY_CNT_LOG_LOST_VALUE.addr ∧ b ≠ R.TLY_LOG_HEAD_COUNT.addr

theorem State.rd_tallyLog (h : OffLog g.addr) : (s.tallyLog a b c d).rd g = s.rd g := State.rd_tallyLog_addr h.1 h.2

theorem State.tm_tallyLog : (s.tallyLog a b c d).tm = s.tm := (State.tallyLog_good s a b c d).same .tm rfl

/-- The log changes its entries and the next INDEX alone. -/
theorem State.tly_tallyLog : ∃ es m, (s.tallyLog a b c d).tly = { s.tly with log := es, next := m } := by
  unfold State.tallyLog
  split
  · exact ⟨s.tly.log, s.tly.next, rfl⟩
  · exact ⟨_, _, ((State.showLog_good _).same .tly rfl).trans State.count_tly⟩

/-- What Tally holds beside its log. -/
def TlySt.unlogged (y : TlySt) : TlySt := { y with log := [], next := 0 }

theorem State.unlogged_tallyLog : (s.tallyLog a b c d).tly.unlogged = s.tly.unlogged := by
  obtain ⟨es, m, h⟩ := State.tly_tallyLog (s := s) (a := a) (b := b) (c := c) (d := d)
  rw [h]
  rfl

/-- What two states agree on beside the log. -/
theorem TlySt.eq_of_unlogged {α : Type} {y z : TlySt} (h : y.unlogged = z.unlogged) (π : TlySt → α) (hπ : ∀ x : TlySt, π x.unlogged = π x) : π y = π z := by
  rw [← hπ, h, hπ]

/-- The results of the 24 channels stand at other addresses than the log. -/
theorem offLog_res (hn : n < 24) : OffLog (0x500700A0 + 4 * n) := by
  simp only [OffLog, R.TLY_CNT_LOG_LOST_VALUE, R.TLY_LOG_HEAD_COUNT]
  omega

/-! ### Line tests that end without a judgement (R220) -/

theorem State.psSt_setPs_self {x : PsSt} : (s.setPs n x).psSt n = x := Cells.get_set_self

theorem State.psSt_congr (h : t.ps = s.ps) : t.psSt n = s.psSt n := congrArg (Cells.get psReset · n) h

theorem State.rd_setPs {x : PsSt} : (s.setPs n x).rd g = s.rd g := State.rd_congr rfl rfl

theorem State.lineAbort_idle (h : s.tly.line = none) : s.lineAbort n = s := by
  unfold State.lineAbort
  rw [h]

/-- A channel's pilot ramps out. -/
def State.pilotOut (s : State) (n : Nat) : State := s.setPs n { s.psSt n with pilot := (s.psSt n).pilot.map (fun p => (p.1, some s.tm.raw)) }

/-- A line test's result is shown and logged, and its pilot ramps out. -/
def State.lineScored (s : State) (l : LineTest) (v : Nat) : State := ((s.pilotOut l.ch).lineResult l.ch v).tallyLog tLine v l.ch 0

theorem State.lineEnd_eq : s.lineEnd l v =
    { s.lineScored l v with
      tly := { (s.lineScored l v).tly with
        line := some { l with ended := some (s.lineScored l v).tm.raw }
        retries := if (s.lineScored l v).on R.TLY_STATUS_IN_WINDOW && !l.once then
          (s.lineScored l v).tly.retries ++ [(l.ch, (s.lineScored l v).tm.raw + ms 60000)] else (s.lineScored l v).tly.retries } } := rfl

theorem State.tm_lineScored : (s.lineScored l v).tm = s.tm := by
  rw [State.lineScored, State.tm_tallyLog, State.lineResult, State.wr_tm, State.pilotOut, State.setPs]

theorem State.unlogged_lineScored : (s.lineScored l v).tly.unlogged = s.tly.unlogged := by
  rw [State.lineScored, State.unlogged_tallyLog, State.lineResult, State.wr_tly, State.pilotOut, State.setPs]

theorem State.retries_lineScored : (s.lineScored l v).tly.retries = s.tly.retries :=
  TlySt.eq_of_unlogged State.unlogged_lineScored TlySt.retries fun _ => rfl

theorem State.rd_lineScored (hr : Fld.Apart g (R.TLY_RES_RESULT l.ch)) (hl : OffLog g.addr) : (s.lineScored l v).rd g = s.rd g := by
  rw [State.lineScored, State.rd_tallyLog hl, State.lineResult, State.rd_wr_apart hr, State.pilotOut, State.rd_setPs]

theorem State.line_lineEnd : (s.lineEnd l v).tly.line = some { l with ended := some s.tm.raw } := by
  rw [State.lineEnd_eq, State.tm_lineScored]

theorem State.rd_lineEnd (hr : Fld.Apart g (R.TLY_RES_RESULT l.ch)) (hl : OffLog g.addr) : (s.lineEnd l v).rd g = s.rd g := by
  rw [State.lineEnd_eq, State.rd_withTly, State.rd_lineScored hr hl]

theorem State.rd_lineEnd_result (hn : l.ch < 24) (hv : v < 16) : (s.lineEnd l v).rd (R.TLY_RES_RESULT l.ch) = v := by
  rw [State.lineEnd_eq, State.rd_withTly, State.lineScored, State.rd_tallyLog (offLog_res hn)]
  exact State.rd_wr_of_lt (Nat.le_add_right 28 3) hv

theorem State.retries_lineEnd (hn : l.ch < 24) : (s.lineEnd l v).tly.retries =
    if s.on R.TLY_STATUS_IN_WINDOW && !l.once then s.tly.retries ++ [(l.ch, s.tm.raw + ms 60000)] else s.tly.retries := by
  have hres : 0x50070004 ≠ 0x500700A0 + 4 * l.ch := by omega
  rw [State.lineEnd_eq, State.on_of_rd (State.rd_lineScored (.inl hres) (by decide)), State.tm_lineScored, State.retries_lineScored]

/-! ### The start of a slot (R218) -/

/-- With no line test to abort a channel that may run starts in the mode given (R200). -/
theorem State.psStart_starts (hl : s.tly.line = none) (hrun : s.mayRun n = true) (hlatch : s.on (R.PWS_FAULT_LATCH n) = false)
    (hdc : s.on (R.PWS_FAULT_DC n) = false) :
    ∃ x : PsSt, x.half = half ∧ s.psStart n half mirror = ((s.setPs n x).setPsState n stStarting).wr (R.PWS_STATUS_SWITCHING n) 1 := by
  unfold State.psStart
  rw [hrun, hlatch, hdc, if_neg (by decide), State.lineAbort_idle hl]
  exact ⟨_, rfl, rfl⟩

theorem State.tly_psStart (hl : s.tly.line = none) : (s.psStart n half mirror).tly = s.tly := by
  unfold State.psStart
  rw [State.lineAbort_idle hl]
  split
  · split
    · rfl
    · exact (State.psIdle_good s n).same .tly rfl
  · exact State.wr_tly.trans State.wr_tly

theorem State.tm_psStart : (s.psStart n half mirror).tm = s.tm := (State.psStart_good s n half mirror).same .tm rfl

theorem State.psState_started {x : PsSt} : (((s.setPs n x).setPsState n stStarting).wr (R.PWS_STATUS_SWITCHING n) 1).psState n = stStarting := by
  have hsw : Fld.Apart (R.PWS_STATUS_STATE n) (R.PWS_STATUS_SWITCHING n) := .inr (by simp [R.PWS_STATUS_STATE, R.PWS_STATUS_SWITCHING])
  exact (State.rd_wr_apart hsw).trans (State.rd_wr_of_lt (Nat.le_add_right 15 3) (by simp [R.PWS_STATUS_STATE, stStarting]))

/-- A channel that a line test does not skip has no fault flag set. -/
theorem State.no_fault_of_not_skipped (h : s.lineSkips n = false) : s.on (R.PWS_FAULT_LATCH n) = false ∧ s.on (R.PWS_FAULT_DC n) = false := by
  have hw : s.word (R.PWS_FAULT_w n) = 0 := by
    simp only [State.lineSkips, Bool.or_eq_false_iff, decide_eq_false_iff_not, not_not] at h
    exact h.1.2
  have hz : bitsOf 0 1 1 = 0 ∧ bitsOf 0 2 2 = 0 := by decide
  have hlatch : s.rd (R.PWS_FAULT_LATCH n) = bitsOf (s.word (R.PWS_FAULT_w n)) 1 1 := rfl
  have hdc : s.rd (R.PWS_FAULT_DC n) = bitsOf (s.word (R.PWS_FAULT_w n)) 2 2 := rfl
  rw [State.on, State.on, hlatch, hdc, hw, hz.1, hz.2]
  decide

/-- The channel of a slot: one that is OFF has started under HALF_DUTY. -/
def State.slotReady (s : State) (n : Nat) : State := if s.psState n = stOff then s.psStart n true false else s

/-- The slot of a channel that is made ready: its test runs, and its pilot ramps up. -/
def State.slotBegun (u : State) (n : Nat) (once off : Bool) : State :=
  (({ u.setPs n { u.psSt n with pilot := some (u.tm.raw, none), forTest := off } with
    tly := { u.tly with line := some ⟨n, u.tm.raw, false, none, once⟩, slotFree := u.tm.raw + ms 4200, power := u.tly.power.set [] n [] } }).flag
      R.TLY_STATUS_LINE_BUSY).wr R.TLY_STATUS_CHANNEL n

theorem State.lineSlot_skips (h : s.lineSkips n = true) : s.lineSlot n once = (s.lineResult n rSkipped).tallyLog tLine rSkipped n 0 := if_pos h

theorem State.lineSlot_begins (h : s.lineSkips n = false) : s.lineSlot n once = (s.slotReady n).slotBegun n once (s.psState n = stOff) :=
  if_neg (by rw [h]; decide)

theorem State.tly_slotReady (hl : s.tly.line = none) : (s.slotReady n).tly = s.tly := by
  unfold State.slotReady
  split
  · exact State.tly_psStart hl
  · rfl

theorem State.tm_slotReady : (s.slotReady n).tm = s.tm := by
  unfold State.slotReady
  split
  · exact State.tm_psStart
  · rfl

theorem State.tly_slotBegun {off : Bool} : (s.slotBegun n once off).tly =
    { s.tly with line := some ⟨n, s.tm.raw, false, none, once⟩, slotFree := s.tm.raw + ms 4200, power := s.tly.power.set [] n [] } := by
  rw [State.slotBegun, State.wr_tly, State.flag_tly]

theorem State.psSt_slotBegun {off : Bool} : (s.slotBegun n once off).psSt n = { s.psSt n with pilot := some (s.tm.raw, none), forTest := off } :=
  (State.psSt_congr (State.wr_ps.trans State.flag_ps)).trans State.psSt_setPs_self

theorem State.status_slotBegun {off : Bool} : (s.slotBegun n once off).on R.TLY_STATUS_LINE_BUSY = true ∧
    (s.slotBegun n once off).rd R.TLY_STATUS_CHANNEL = n % 32 :=
  ⟨(State.on_wr_apart (by decide)).trans (State.on_flag_self (by decide)), State.rd_wr_self (by decide)⟩

theorem State.rd_slotBegun {off : Bool} (h : g.addr ≠ 0x50070004) : (s.slotBegun n once off).rd g = s.rd g := by
  rw [State.slotBegun, State.rd_wr_addr h, State.rd_flag_addr h, State.rd_withTly, State.rd_setPs]

section
variable (hs : s.lineSkips n = false)
include hs

theorem State.status_lineSlot : (s.lineSlot n once).on R.TLY_STATUS_LINE_BUSY = true ∧ (s.lineSlot n once).rd R.TLY_STATUS_CHANNEL = n % 32 := by
  rw [State.lineSlot_begins hs]
  exact State.status_slotBegun

theorem State.pilot_lineSlot : ((s.lineSlot n once).psSt n).pilot = some (s.tm.raw, none) := by
  rw [State.lineSlot_begins hs, State.psSt_slotBegun, State.tm_slotReady]

variable (hl : s.tly.line = none)
include hl

theorem State.tly_lineSlot : (s.lineSlot n once).tly =
    { s.tly with line := some ⟨n, s.tm.raw, false, none, once⟩, slotFree := s.tm.raw + ms 4200, power := s.tly.power.set [] n [] } := by
  rw [State.lineSlot_begins hs, State.tly_slotBegun, State.tly_slotReady hl, State.tm_slotReady]

/-- A channel that was OFF starts for its test. -/
theorem State.starts_lineSlot (hoff : s.psState n = stOff) (hrun : s.mayRun n = true) :
    (s.lineSlot n once).psState n = stStarting ∧ ((s.lineSlot n once).psSt n).half = true ∧ ((s.lineSlot n once).psSt n).forTest = true := by
  obtain ⟨hlatch, hdc⟩ := State.no_fault_of_not_skipped hs
  obtain ⟨x, hx, hstart⟩ := State.psStart_starts (half := true) (mirror := false) hl hrun hlatch hdc
  have hready : s.slotReady n = ((s.setPs n x).setPsState n stStarting).wr (R.PWS_STATUS_SWITCHING n) 1 := (if_pos hoff).trans hstart
  have haddr : 0x50041020 + 256 * n ≠ 0x50070004 := by omega
  have hxn : (((s.setPs n x).setPsState n stStarting).wr (R.PWS_STATUS_SWITCHING n) 1).psSt n = x :=
    (State.psSt_congr (State.wr_ps.trans State.wr_ps)).trans State.psSt_setPs_self
  rw [State.lineSlot_begins hs, State.psSt_slotBegun, hready, hxn]
  exact ⟨(State.rd_slotBegun haddr).trans State.psState_started, hx, decide_eq_true hoff⟩

end

end

end Sys2Proof.Machine
end

section
/-! PROOFS. The commands of the test group (R214, R222, R224, R231, R312). -/

-- One proof at a time: the package as one text then takes less memory.
set_option Elab.async false

namespace Sys2Proof.Machine

open Sys2Proof

section
variable {s a : State} {h : Hdr} {f g : Fld} {i n v : Nat}

/-- Checks of which none fails. -/
theorem eq_ok_of_firstBad {ss : List Status} (h : firstBad ss = .ok) : ∀ st ∈ ss, st = .ok := by
  induction ss with
  | nil => exact fun _ hm => absurd hm List.not_mem_nil
  | cons st ss ih =>
    cases st with
    | ok => exact List.forall_mem_cons.mpr ⟨rfl, ih h⟩
    | _ => exact nomatch h

theorem of_badUnless {c : Bool} (h : badUnless c = .ok) : c = true := by
  cases c with
  | true => rfl
  | false => exact nomatch h

/-! ### TALLY_SCHEDULE (R214) -/

theorem State.word_wr_self : (s.wr f v).word f = setBits (s.word f) f.hi f.lo v := by
  show (s.regs.set 0 f.addr (setBits (s.word f) f.hi f.lo v ^^^ s.rstOf f)).get 0 f.addr ^^^ s.rstOf f = _
  rw [Cells.get_set_self, Nat.xor_assoc, Nat.xor_self, Nat.xor_zero]

theorem State.on_eq_testBit (h : f.hi = f.lo) : s.on f = (s.word f).testBit f.lo := by
  rw [State.on, State.rd, bitsOf, h, Nat.sub_self, Nat.zero_add, pow_one, Nat.testBit_eq_decide_div_mod_eq, Nat.shiftRight_eq_div_pow]

theorem bitOf_eq_testBit : bitOf v i = v.testBit i := by
  rw [bitOf, Nat.testBit_eq_decide_div_mod_eq, Nat.shiftRight_eq_div_pow]

/-- The enables of TALLY_SCHEDULE. -/
def State.tallyEnables (s : State) (ctrl : Nat) : State := s.wr R.TLY_CTRL_w (setBits (s.word R.TLY_CTRL_w) 5 1 (ctrl / 2))

/-- A bit of TLY_CTRL, by its number: the command gives bits 1 to 5, the others stay. -/
theorem State.on_tallyEnables {ctrl : Nat} (ha : f.addr = R.TLY_CTRL_w.addr) (hr : f.rst = 0 ∧ f.rst96 = 0) (hb : f.hi = f.lo) (h31 : f.lo ≤ 31) :
    (s.tallyEnables ctrl).on f = if 1 ≤ f.lo ∧ f.lo ≤ 5 then bitOf ctrl f.lo else s.on f := by
  have hw (u : State) : u.word f = u.word R.TLY_CTRL_w := by
    rw [State.word, State.word, State.rstOf, State.rstOf, ha, hr.1, hr.2]
    rfl
  have hlo : R.TLY_CTRL_w.lo = 0 := rfl
  have hhi : R.TLY_CTRL_w.hi = 31 := rfl
  rw [State.on_eq_testBit hb, State.on_eq_testBit hb, hw, hw, State.tallyEnables, State.word_wr_self, testBit_setBits (by decide), hlo, hhi,
    if_neg (Nat.not_lt_zero _), if_pos h31, Nat.sub_zero, testBit_setBits (by decide), bitOf_eq_testBit]
  by_cases h1 : 1 ≤ f.lo
  · rw [if_neg (Nat.not_lt.mpr h1), Nat.testBit_div_two, Nat.sub_add_cancel h1]
    by_cases h5 : f.lo ≤ 5
    · rw [if_pos h5, if_pos ⟨h1, h5⟩]
    · rw [if_neg h5, if_neg fun h => h5 h.2]
  · rw [if_pos (by omega), if_neg fun h => h1 h.1]

/-- The registers of the schedule. -/
def State.tallyRegs (s : State) (q : TallyReq) : State :=
  (((((((s.tallyEnables q.ctrl.toNat).wr R.TLY_WIN_START q.start.toNat).wr R.TLY_WIN_LEN q.len.toNat).wr R.TLY_WIN_OFS_VALUE (unsignedOf 12 q.ofs.toInt)).wr
    R.TLY_LINE_SEL_VALUE q.sel.toNat).wr R.TLY_LINE_CFG_w q.cfg.toNat).wr R.TLY_DRV_INTERVAL q.interval.toNat).wr R.TLY_SNS_TOL q.tol.toNat

theorem State.rd_acceptTally {q : TallyReq} : (s.acceptTally q).rd g = (s.tallyRegs q).rd g := by
  unfold State.acceptTally
  dsimp only
  split
  · exact State.rd_withTly
  · rfl

theorem State.on_tallyRegs {q : TallyReq} (ha : f.addr = R.TLY_CTRL_w.addr) (hr : f.rst = 0 ∧ f.rst96 = 0) (hb : f.hi = f.lo) (h31 : f.lo ≤ 31) :
    (s.tallyRegs q).on f = if 1 ≤ f.lo ∧ f.lo ≤ 5 then bitOf q.ctrl.toNat f.lo else s.on f := by
  have hne {g : Fld} (hg : R.TLY_CTRL_w.addr ≠ g.addr) : f.addr ≠ g.addr := ha ▸ hg
  rw [← State.on_tallyEnables ha hr hb h31]
  refine State.on_of_rd ?_
  rw [State.tallyRegs, State.rd_wr_addr (hne (by decide)), State.rd_wr_addr (hne (by decide)), State.rd_wr_addr (hne (by decide)),
    State.rd_wr_addr (hne (by decide)), State.rd_wr_addr (hne (by decide)), State.rd_wr_addr (hne (by decide)), State.rd_wr_addr (hne (by decide))]

/-- The fields of the schedule read back, as each fits its register. -/
theorem State.rd_tallyRegs {q : TallyReq} (hq : TallyReq.status q = .ok) :
    let r : State := s.tallyRegs q
    r.rd R.TLY_WIN_START = q.start.toNat ∧ r.rd R.TLY_WIN_LEN = q.len.toNat ∧ r.rd R.TLY_LINE_SEL_VALUE = q.sel.toNat ∧
      r.rd R.TLY_LINE_CFG_w = q.cfg.toNat ∧ r.rd R.TLY_DRV_INTERVAL = q.interval.toNat ∧ r.rd R.TLY_SNS_TOL = q.tol.toNat := by
  have hall := eq_ok_of_firstBad hq
  have hwin := of_badUnless (hall (badUnless (q.start.toNat < 2 ^ 17 && q.len.toNat < 2 ^ 11)) (by simp))
  have hsel := of_badUnless (hall (badUnless (q.sel.toNat < 2 ^ 24)) (by simp))
  simp only [Bool.and_eq_true, decide_eq_true_eq] at hwin hsel
  obtain ⟨hstart, hlen⟩ := hwin
  have htol : (s.tallyRegs q).rd R.TLY_SNS_TOL = q.tol.toNat := State.rd_wr_of_lt (by decide) q.tol.isLt
  refine ⟨?_, ?_, ?_, ?_, ?_, htol⟩
  all_goals rw [State.tallyRegs, State.rd_wr_apart (by decide)]
  · rw [State.rd_wr_apart (by decide), State.rd_wr_apart (by decide), State.rd_wr_apart (by decide), State.rd_wr_apart (by decide), State.rd_wr_apart (by decide)]
    exact State.rd_wr_of_lt (by decide) hstart
  · rw [State.rd_wr_apart (by decide), State.rd_wr_apart (by decide), State.rd_wr_apart (by decide), State.rd_wr_apart (by decide)]
    exact State.rd_wr_of_lt (by decide) hlen
  · rw [State.rd_wr_apart (by decide), State.rd_wr_apart (by decide)]
    exact State.rd_wr_of_lt (by decide) hsel
  · rw [State.rd_wr_apart (by decide)]
    exact State.rd_wr_of_lt (by decide) q.cfg.isLt
  · exact State.rd_wr_of_lt (by decide) q.interval.isLt

theorem exec_tallySchedule {q : TallyReq} (ht : s.takes h (op 0x0701 2 0 .other) i a) (hl : lenIs h 20 = true) (hcls : (a.session i).cls = 0)
    (hq : TallyReq.status q = .ok) (hc : a.commitStatus = .ok) :
    exec (.tallySchedule h q) s = .next ((a.acceptTally q).configured.reply i 0x0701 h.seq.toNat .ok [] true) := by
  refine congrArg _ (State.receive_untimed ht rfl ?_ rfl)
  rw [hl, State.classAtMost, hcls, State.thenCommit, if_pos hq, hc]
  rfl

/-! ### TALLY_RUN_NOW (R312) -/

theorem exec_tallyRunNow {test : BitVec 8} {subject : BitVec 16} (ht : s.takes h (op 0x0702 2 0 .other) i a) (hl : lenIs h 4 = true)
    (hcls : (a.session i).cls = 0) (hstage : a.stage = 0) (ho : test.toNat ≤ 2 → ∀ n ∈ a.runChannels subject.toNat, a.ownsPs i n = true)
    (hs : a.runStatus test.toNat subject.toNat = .ok) :
    exec (.tallyRunNow h test subject) s = .next ((a.runTest test.toNat subject.toNat).reply i 0x0702 h.seq.toNat .ok [] true) := by
  have hown : (decide (2 < test.toNat) || (a.runChannels subject.toNat).all (a.ownsPs i)) = true := by
    by_cases h2 : 2 < test.toNat
    · rw [decide_eq_true h2, Bool.true_or]
    · rw [List.all_eq_true.mpr (ho (Nat.not_lt.mp h2)), Bool.or_true]
  refine congrArg _ (State.receive_untimed ht rfl ?_ rfl)
  rw [hl, State.classAtMost, hcls, hown, hs, hstage]
  rfl

/-- No line test or capture runs when TALLY_RUN_NOW is accepted. -/
theorem State.idle_of_runStatus {test subject : Nat} (hs : a.runStatus test subject = .ok) : a.tly.line = none ∧ a.tly.capture = none := by
  have hb := eq_ok_of_firstBad hs (if a.lineBusy then .conflict else .ok) (by simp)
  split at hb
  · exact nomatch hb
  · next h => simpa [State.lineBusy] using h

theorem State.mem_asked_ask {test subject : Nat} {ns : List Nat} (hm : subject ∈ ns) : (test, subject) ∈ (s.ask test ns).tly.asked := by
  rw [State.ask, List.mem_append, List.mem_filter]
  by_cases hin : s.tly.asked.contains (test, subject) = true
  · exact .inl (List.contains_iff_mem.mp hin)
  · exact .inr ⟨List.mem_map_of_mem hm, by simpa using hin⟩

/-- The tests of cores, of the Fold link and of sense channels are asked for. -/
theorem State.runTest_asks {test subject : Nat} (h6 : 6 ≤ test) (hsub : subject ≠ 0xFFFF) : s.runTest test subject = s.ask test [subject] := by
  have hne {k : Nat} (hk : k < 6) : test ≠ k := by omega
  unfold State.runTest
  rw [if_neg (hne (by decide)), if_neg (hne (by decide)), if_neg (hne (by decide)), if_neg (hne (by decide)), if_neg (hne (by decide)), if_neg hsub]
  split
  · next e => rw [e]
  · rfl

theorem State.dramRestart_ask : (s.dramRestart.ask tDram [0]).tly.dramAt = s.tm.raw ∧ (s.dramRestart.ask tDram [0]).rd R.TLY_DRAM_PTR_VALUE = 0 ∧
    (4, 0) ∈ (s.dramRestart.ask tDram [0]).tly.asked := by
  refine ⟨?_, ?_, State.mem_asked_ask (List.mem_singleton_self 0)⟩
  · rw [State.ask, State.dramRestart, State.wr_tly]
  · rw [State.ask, State.rd_withTly, State.dramRestart, State.rd_wr_self (by decide), Nat.zero_mod]

/-- The scrub of the history store begins at its first slot, with its failures counted afresh. -/
theorem State.runTest_scrub {subject : Nat} : (s.runTest 3 subject).on R.HST_SCRUB_CTRL_ENABLE = true ∧ (s.runTest 3 subject).rd R.HST_SCRUB_PTR_SLOT = 0 ∧
    (s.runTest 3 subject).tly.scrubFails = 0 := by
  have e : s.runTest 3 subject = ({ s with tly := { s.tly with scrubFails := 0 } }.wr R.HST_SCRUB_PTR_SLOT 0).flag R.HST_SCRUB_CTRL_ENABLE := rfl
  rw [e]
  refine ⟨State.on_flag_self (by decide), ?_, ?_⟩
  · rw [State.rd_flag_addr (by decide), State.rd_wr_self (by decide), Nat.zero_mod]
  · rw [State.flag_tly, State.wr_tly]

/-- The first channel's test begins, the others wait for their slots. -/
theorem State.runTest_line {subject : Nat} {ns : List Nat} (hc : s.runChannels subject = n :: ns) (hs : s.lineSkips n = false) (hl : s.tly.line = none) :
    (s.runTest 1 subject).tly.line = some ⟨n, s.tm.raw, false, none, true⟩ ∧ (s.runTest 1 subject).tly.onceTodo = ns ∧
      ((s.runTest 1 subject).psSt n).pilot = some (s.tm.raw, none) ∧ (s.runTest 1 subject).on R.TLY_STATUS_LINE_BUSY = true := by
  have e : s.runTest 1 subject = ({ s with tly := { s.tly with onceTodo := ns } } : State).lineSlot n true := by
    unfold State.runTest
    rw [if_pos (show (1 : Nat) = tLine from rfl), hc]
  have hskip : ({ s with tly := { s.tly with onceTodo := ns } } : State).lineSkips n = false := hs
  rw [e, State.tly_lineSlot hskip hl, State.pilot_lineSlot hskip]
  exact ⟨rfl, rfl, rfl, (State.status_lineSlot hskip).1⟩

theorem State.tm_captureStart {chs : List Nat} {p : Nat} : (s.captureStart chs p).tm = s.tm := (State.captureStart_good s chs p).same .tm rfl

theorem State.captureStart_runs {chs : List Nat} {p : Nat} : (s.captureStart chs p).tly.capture = some ⟨chs, [], p, s.tm.raw, none⟩ ∧
    (s.captureStart chs p).on R.TLY_STATUS_LINE_BUSY = true := by
  have htm : (s.captureStart chs p).tm.raw = s.tm.raw := congrArg Tm.raw State.tm_captureStart
  refine ⟨?_, State.on_flag_self (by decide)⟩
  rw [← htm, State.captureStart]
  dsimp only
  rw [State.flag_tly, State.flag_tm]

/-! ### TALLY_LOG_READ (R231) -/

theorem exec_tallyLogRead {index n : BitVec 16} (ht : s.takes h (op 0x0703 1 0 .query) i a) (hl : lenIs h 4 = true) (h1 : 1 ≤ n.toNat) (h2 : n.toNat ≤ 256) :
    exec (.tallyLogRead h index n) s = .next ((a.markRead (((a.logFrom index.toNat).2.take n.toNat).map LogEntry.index)).reply i 0x0703 h.seq.toNat .ok
      (leBytes 2 (a.logFrom index.toNat).1 ++ leBytes 2 ((a.logFrom index.toNat).2.take n.toNat).length ++
        (((a.logFrom index.toNat).2.take n.toNat).map LogEntry.bytes).flatten) true) :=
  congrArg _ (State.receive_untimed ht rfl (by rw [hl, countIn_of_le h1 h2]) rfl)

/-! ### BASELINE_CAPTURE (R222) -/

/-- What the pilots of a capture are put on: the line tests of its channels are aborted, and the operation holds the port. -/
def State.captureTaken (a : State) (h : Hdr) (i : Nat) (ns : List Nat) : State :=
  (ns.foldl State.lineAbort a).beginLong h.port.val i opCapture h.seq.toNat 30000

theorem State.tm_captureTaken {ns : List Nat} : (a.captureTaken h i ns).tm = a.tm :=
  ((State.beginLong_good _ _ _ _ _ _).same .tm rfl).trans (foldl_keeps State.tm (fun u m => (State.lineAbort_good u m).same .tm rfl) ns a)

theorem State.busy_captureTaken {ns : List Nat} : (((a.captureTaken h i ns).port h.port.val).busy.map fun l => (l.op, l.sess, l.seq, l.maxMs)) =
    some (opCapture, i, h.seq.toNat, 30000) := by
  rw [State.captureTaken, State.beginLong, State.port_congr ((State.showBusy_good _).same .ports rfl), State.port_setPort_self]
  rfl

theorem exec_baselineCapture {chs : List (BitVec 8)} (ht : s.takes h (op opCapture 2 0 .other) i a) (hl : lenIs h (1 + chs.length) = true)
    (ho : ∀ c ∈ chs, a.ownsPs i c.toNat = true) (hstage : a.stage = 0) (hs : a.captureStatus chs = .ok) :
    exec (.baselineCapture h chs) s =
      .next ((a.captureTaken h i (dedup (chs.map BitVec.toNat))).captureStart (dedup (chs.map BitVec.toNat)) h.port.val) := by
  refine congrArg _ (State.receive_placed_long ht ?_ ?_)
  · show (⟨lenIs h (1 + chs.length), chs.all fun c => a.ownsPs i c.toNat, 1 ≤ a.stage, a.captureStatus chs⟩ : OpCheck) = _
    rw [hl, List.all_eq_true.mpr ho, hstage, hs]
    rfl
  · rw [State.takes_untimed ht rfl, State.takePlace_false]
    rfl

end

/-- Settles O34: each command takes its place and runs; the schedule is read off its registers, a test off what its start leaves, a reading off the marks, a
capture off the port and the record that it takes. -/
theorem tallyCommands : Obligations.TallyCommands := by
  unfold Obligations.TallyCommands
  refine ⟨fun s a h i q ht hl hcls hq hc => ⟨_, exec_tallySchedule ht hl hcls hq hc, ?_⟩,
    fun s a h i test subject ht hl hcls hstage ho hs => ⟨_, exec_tallyRunNow ht hl hcls hstage ho hs, ?_⟩,
    fun s a h i index n ht hl h1 h2 => ⟨_, exec_tallyLogRead ht hl h1 h2, rfl, rfl, rfl⟩,
    fun s a h i chs ht hl ho hstage hs => ⟨_, exec_baselineCapture ht hl ho hstage hs, ?_⟩⟩
  · have hrd {g : Fld} (hg : 0x50000000 ≤ g.addr ∧ g.addr < 0x500A0000) : (a.acceptTally q).configured.rd g = (a.tallyRegs q).rd g :=
      (State.rd_configured hg).trans State.rd_acceptTally
    have hon {g : Fld} (hg : 0x50000000 ≤ g.addr ∧ g.addr < 0x500A0000) : (a.acceptTally q).configured.on g = (a.tallyRegs q).on g := State.on_of_rd (hrd hg)
    rw [hon (by decide), hon (by decide), hon (by decide), hon (by decide), hon (by decide), hon (by decide), hrd (by decide), hrd (by decide), hrd (by decide),
      hrd (by decide), hrd (by decide), hrd (by decide)]
    exact ⟨State.on_tallyRegs rfl ⟨rfl, rfl⟩ rfl (by decide), State.on_tallyRegs rfl ⟨rfl, rfl⟩ rfl (by decide), State.on_tallyRegs rfl ⟨rfl, rfl⟩ rfl (by decide),
      State.on_tallyRegs rfl ⟨rfl, rfl⟩ rfl (by decide), State.on_tallyRegs rfl ⟨rfl, rfl⟩ rfl (by decide), State.on_tallyRegs rfl ⟨rfl, rfl⟩ rfl (by decide),
      State.rd_tallyRegs hq⟩
  · obtain ⟨hline, -⟩ := State.idle_of_runStatus hs
    refine ⟨?_, ?_, ?_, ?_, fun h6 hsub => ?_⟩
    · rintro rfl n ns hc hskip
      exact State.runTest_line hc hskip hline
    · rintro rfl
      exact State.captureStart_runs
    · rintro rfl
      exact State.runTest_scrub
    · rintro rfl
      exact State.dramRestart_ask
    · have hne : subject.toNat ≠ 0xFFFF := fun e => hsub (BitVec.eq_of_toNat_eq e)
      rw [State.runTest_asks h6 hne]
      exact State.mem_asked_ask (List.mem_singleton_self _)
  · obtain ⟨hcap, hbusy⟩ := State.captureStart_runs (s := a.captureTaken h i (dedup (chs.map BitVec.toNat))) (chs := dedup (chs.map BitVec.toNat)) (p := h.port.val)
    rw [State.tm_captureTaken] at hcap
    refine ⟨hcap, ?_, hbusy⟩
    rw [State.port_congr ((State.captureStart_good _ _ _).same .ports rfl)]
    exact State.busy_captureTaken

end Sys2Proof.Machine
end
section
/-! PROOFS. The line tests: the window, the slots, the correlation and its end, deferral, and the capture of baselines (R214, R218–R222). -/

-- One proof at a time: the package as one text then takes less memory.
set_option Elab.async false

namespace Sys2Proof.Machine

open Sys2Proof

section
variable {s t : State} {f g : Fld} {n m c r v x : Nat} {l : LineTest}

/-! ### What an instant of RAW leaves -/

theorem State.on_atRaw : (s.atRaw n).on g = s.on g := State.on_of_rd State.rd_atRaw

theorem State.tallyOn_atRaw : (s.atRaw n).tallyOn = s.tallyOn := rfl

theorem State.lineBusy_atRaw : (s.atRaw n).lineBusy = s.lineBusy := rfl

theorem State.standsBy_atRaw : (s.atRaw n).standsBy = s.standsBy := rfl

/-- A line test is not under way while nothing is busy. -/
theorem State.line_of_not_lineBusy (h : s.lineBusy = false) : s.tly.line = none := by
  rw [State.lineBusy, Bool.or_eq_false_iff, Option.isSome_eq_false_iff, Option.isNone_iff_eq_none] at h
  exact h.1

/-! ### The test window (R214) -/

/-- The window begins with the list of its channels. -/
def State.windowBegun (s : State) (chs : List Nat) : State :=
  { s.flag R.TLY_STATUS_IN_WINDOW with tly := { s.tly with todo := chs, retries := [] } }

theorem exec_testWindowOpen (hg : s.gated 19 = false) (hk : s.locked = true) (hin : (s.atRaw n).inWindow = true) (hw : s.on R.TLY_STATUS_IN_WINDOW = false) :
    exec (.testWindowOpen n) s = .next ((s.atRaw n).windowBegun
      (if (s.atRaw n).tallyOn && (s.atRaw n).on R.TLY_CTRL_LINE_EN && !(s.atRaw n).standsBy then (s.atRaw n).lineList else [])) := by
  have hcan : ((s.atRaw n).locked && (s.atRaw n).inWindow && !(s.atRaw n).on R.TLY_STATUS_IN_WINDOW) = true := by
    rw [show (s.atRaw n).locked = true from hk, hin, State.on_atRaw, hw]
    rfl
  exact (if_neg (Bool.eq_false_iff.mp hg)).trans (congrArg Host.Outcome.next (if_pos hcan))

theorem State.on_windowBegun {chs : List Nat} : (s.windowBegun chs).on R.TLY_STATUS_IN_WINDOW = true :=
  (State.on_of_rd State.rd_withTly).trans (State.on_flag_self (by decide))

/-- What the window logs of the channels that it did not test: their last results. -/
def State.logLeft (s : State) (chs : List Nat) : State :=
  chs.foldl (fun s n => s.tallyLog tLine (s.rd (R.TLY_RES_RESULT n)) n (s.rd (R.TLY_RES_Z n))) s

theorem State.rd_logLeft {chs : List Nat} (h : OffLog g.addr) : (s.logLeft chs).rd g = s.rd g :=
  foldl_keeps (fun u : State => u.rd g) (fun _ _ => State.rd_tallyLog h) _ _

theorem State.line_logLeft {chs : List Nat} : (s.logLeft chs).tly.line = s.tly.line :=
  TlySt.eq_of_unlogged (foldl_keeps (fun u : State => u.tly.unlogged) (fun _ _ => State.unlogged_tallyLog) _ _) TlySt.line fun _ => rfl

/-- A line test that the window's end finds running. -/
def State.lineCut (s : State) : State :=
  match s.tly.line with
  | some l => if l.once || l.ended.isSome then s else (s.lineEnd l rAborted).bump R.TLY_CNT_ABORT_VALUE
  | none => s

/-- The end of the window, for a state in which it has come. -/
def State.windowEnded (s : State) : State :=
  let u := (s.wr R.TLY_STATUS_IN_WINDOW 0).lineCut
  let u := u.logLeft (dedup (u.tly.todo ++ u.tly.retries.map Prod.fst))
  { u with tly := { u.tly with todo := [], retries := [] } }

theorem exec_testWindowClose (hg : s.gated 19 = false) (hw : s.on R.TLY_STATUS_IN_WINDOW = true) (hin : (s.atRaw n).inWindow = false) :
    exec (.testWindowClose n) s = .next (s.atRaw n).windowEnded := by
  show execTestWindowClose n s = _
  unfold execTestWindowClose
  rw [if_neg (Bool.eq_false_iff.mp hg)]
  dsimp only
  rw [State.on_atRaw, hw, hin, if_neg (by decide)]
  rfl

theorem State.rd_windowEnded (h : OffLog g.addr) : s.windowEnded.rd g = (s.wr R.TLY_STATUS_IN_WINDOW 0).lineCut.rd g :=
  State.rd_withTly.trans (State.rd_logLeft h)

theorem State.line_windowEnded : s.windowEnded.tly.line = (s.wr R.TLY_STATUS_IN_WINDOW 0).lineCut.tly.line := State.line_logLeft

theorem State.lineCut_idle (h : s.tly.line = none) : s.lineCut = s := by
  unfold State.lineCut
  rw [h]

theorem State.lineCut_running (h : s.tly.line = some l) (ho : l.once = false) (he : l.ended = none) :
    s.lineCut = (s.lineEnd l rAborted).bump R.TLY_CNT_ABORT_VALUE := by
  unfold State.lineCut
  rw [h]
  dsimp only
  rw [ho, he, if_neg (by decide)]

theorem State.windowEnded_running (h : s.tly.line = some l) (hc : l.ch < 24) (ho : l.once = false) (he : l.ended = none) :
    s.windowEnded.on R.TLY_STATUS_IN_WINDOW = false ∧ s.windowEnded.tly.line = some { l with ended := some s.tm.raw } ∧
      s.windowEnded.rd (R.TLY_RES_RESULT l.ch) = 5 ∧ s.windowEnded.rd R.TLY_CNT_ABORT_VALUE = min 0xFFFFFFFF (s.rd R.TLY_CNT_ABORT_VALUE + 1) := by
  have hcut := State.lineCut_running (s := s.wr R.TLY_STATUS_IN_WINDOW 0) ((congrArg TlySt.line State.wr_tly).trans h) ho he
  have hres : 0x50070004 ≠ 0x500700A0 + 4 * l.ch := by omega
  have hcnt : 0x50070148 ≠ 0x500700A0 + 4 * l.ch := by omega
  refine ⟨?_, ?_, ?_, ?_⟩
  · rw [State.on_of_rd (State.rd_windowEnded (by decide)), hcut, State.on_of_rd (State.rd_bump_addr (by decide)),
      State.on_of_rd (State.rd_lineEnd (.inl hres) (by decide))]
    exact State.on_wr_zero (by decide)
  · rw [State.line_windowEnded, hcut, State.bump_tly, State.line_lineEnd, State.wr_tm]
  · rw [State.rd_windowEnded (offLog_res hc), hcut, State.rd_bump_addr hcnt.symm]
    exact State.rd_lineEnd_result hc (by decide)
  · rw [State.rd_windowEnded (by decide), hcut, State.rd_bump_self ⟨rfl, rfl⟩, State.rd_lineEnd (.inl hcnt) (by decide), State.rd_wr_addr (by decide)]

/-! ### Slots and retries (R218, R220) -/

/-- The next of the window's channels. -/
def State.nextListed (s : State) (chs : List Nat) : State := { s with tly := { s.tly with todo := chs } }

theorem exec_lineTestSlot {rest : List Nat} (hg : s.gated 19 = false) (ht : s.tallyOn = true) (hb : s.lineBusy = false) (hs : s.standsBy = false)
    (hf : s.tly.slotFree ≤ (s.atRaw n).tm.raw) (ho : s.tly.onceTodo = []) (hw : s.on R.TLY_STATUS_IN_WINDOW = true) (hd : s.tly.todo = c :: rest) :
    exec (.lineTestSlot n) s = .next (((s.atRaw n).nextListed rest).lineSlot c false) := by
  have ho' : (s.atRaw n).tly.onceTodo = [] := ho
  have hd' : (s.atRaw n).tly.todo = c :: rest := hd
  have hf' : decide ((s.atRaw n).tm.raw < (s.atRaw n).tly.slotFree) = false := decide_eq_false (Nat.not_lt.mpr hf)
  show execLineTestSlot n s = _
  unfold execLineTestSlot State.nextListed
  rw [if_neg (Bool.eq_false_iff.mp hg)]
  dsimp only
  rw [State.tallyOn_atRaw, ht, State.lineBusy_atRaw, hb, State.standsBy_atRaw, hs, hf', if_neg (by decide), ho']
  dsimp only
  rw [State.on_atRaw, hw, if_neg (by decide), hd']

/-- A channel that is skipped is logged so; nothing else of Tally's moves. -/
theorem State.skipped_lineSlot {once : Bool} (h : s.lineSkips n = true) (hn : n < 24) :
    (s.lineSlot n once).tly.unlogged = s.tly.unlogged ∧ (s.lineSlot n once).rd (R.TLY_RES_RESULT n) = 6 := by
  rw [State.lineSlot_skips h, State.unlogged_tallyLog, State.lineResult, State.wr_tly, State.rd_tallyLog (offLog_res hn)]
  exact ⟨rfl, State.rd_wr_of_lt (Nat.le_add_right 28 3) (show 6 < 2 ^ 4 by decide)⟩

/-- A retry that is due while a slot runs waits in the window's list. -/
def State.retryListed (s : State) (n : Nat) : State := { s with tly := { s.tly with retries := [], todo := insertBy (· < ·) n s.tly.todo } }

/-- The retries are taken up. -/
def State.retriesTaken (s : State) : State := { s with tly := { s.tly with retries := [] } }

/-- A list of retries that holds one which is due. -/
theorem State.lineRetry_due (ht : s.tallyOn = true) (hw : s.on R.TLY_STATUS_IN_WINDOW = true) (hr : s.tly.retries = [(c, r)]) (hdue : r ≤ s.tm.raw) :
    s.lineRetry = if s.lineBusy || decide (s.tm.raw < s.tly.slotFree) then s.retryListed c else s.retriesTaken.lineSlot c false := by
  have hfind : s.tly.retries.find? (fun r => r.2 ≤ s.tm.raw) = some (c, r) := by
    rw [hr]
    exact List.find?_cons_of_pos (decide_eq_true hdue)
  have hfilter : s.tly.retries.filter (fun x => x.1 ≠ c) = [] := by
    rw [hr]
    exact List.filter_cons_of_neg (by simp)
  unfold State.lineRetry State.retryListed State.retriesTaken
  rw [hfind]
  dsimp only
  rw [ht, hw, if_neg (by decide), hfilter]
  rfl

theorem mem_insertBy {α : Type} {lt : α → α → Bool} {a : α} {xs : List α} : a ∈ insertBy lt a xs := by
  induction xs with
  | nil => exact List.mem_cons_self
  | cons y ys ih =>
    rw [insertBy]
    split
    · exact List.mem_cons_self
    · exact List.mem_cons_of_mem _ ih

end

end Sys2Proof.Machine
end
section
/-! PROOFS. The correlation of a line test, its end, its deferral, and the pilot's (R218–R220). -/

-- One proof at a time: the package as one text then takes less memory.
set_option Elab.async false

namespace Sys2Proof.Machine

open Sys2Proof

section
variable {s t : State} {f g : Fld} {n c r v x res z far arg : Nat} {l : LineTest}

/-! ### The end of a correlation (R219) -/

/-- A result is shown with |Z| and arg Z, and logged. -/
def State.lineShown (s : State) (n res z far arg : Nat) : State :=
  (((s.lineResult n res).wr (R.TLY_RES_PHASE n) arg).wr (R.TLY_RES_Z n) z).tallyLog tLine res n (z + far * 65536)

/-- The channel's bit of LINE_FAULT follows a judgement of |Z|. -/
def State.lineFaulted (s : State) (n res : Nat) : State :=
  if (res = rLow || res = rHigh : Bool) || res = rPass then
    s.wr R.TLY_LINE_FAULT_VALUE (setBits (s.rd R.TLY_LINE_FAULT_VALUE) n n (b2n (res = rLow || res = rHigh))) else s

/-- A failure is counted, and its event goes out. -/
def State.lineFailed (s : State) (n res z far : Nat) (arg : BitVec 12) : State :=
  s.when ((res = rLow || res = rHigh : Bool) || res = rFarLow) (fun s =>
    (s.bump R.TLY_CNT_LINE_FAIL_VALUE).evLine n res far z (unsignedOf 16 arg.toInt))

/-- A line test ends with a judgement. -/
def State.lineJudged (s : State) (l : LineTest) (res z far : Nat) (arg : BitVec 12) : State :=
  let u := (((s.lineShown l.ch res z far arg.toNat).lineFaulted l.ch res).lineFailed l.ch res z far arg).pilotOut l.ch
  { u with tly := { u.tly with line := some { l with ended := some u.tm.raw } } }

theorem exec_correlationEnd {m : SenseSum} {farRe farIm : Int} (hg : s.gated 19 = false) (hl : s.tly.line = some l) (hc : l.corr = true) (he : l.ended = none)
    (hat : l.slotAt + ms 4110 ≤ (s.atRaw n).tm.raw) :
    ∃ r, exec (.correlationEnd m farRe farIm n) s = .next ((s.atRaw n).lineJudged l
      ((s.atRaw n).lineJudge l.ch ((s.atRaw n).zFraction l.ch m) ((s.atRaw n).farFraction l.ch m farRe farIm)) ((s.atRaw n).zSensed l.ch m) r (argZ m)) := by
  have hl' : (s.atRaw n).tly.line = some l := hl
  have hlate : decide ((s.atRaw n).tm.raw < l.slotAt + ms 4110) = false := decide_eq_false (Nat.not_lt.mpr hat)
  refine ⟨if (s.atRaw n).rd (R.PWS_CFG_ROLE l.ch) = 1 then ratioPercent ((s.atRaw n).farFraction l.ch m farRe farIm) else 0,
    (if_neg (Bool.eq_false_iff.mp hg)).trans ?_⟩
  dsimp only
  rw [hl']
  dsimp only
  exact if_neg (by rw [hc, he, hlate]; decide)

theorem State.rd_evLine {e : Nat} (hg : g.addr < (R.HIF_CNT_EVT_LOST_VALUE 0).addr) : (s.evLine n res far z e).rd g = s.rd g := by
  unfold State.evLine State.eventOwner
  split
  · exact State.rd_eventTo hg
  · rfl

theorem State.rd_lineFailed {arg : BitVec 12} (hc : g.addr ≠ R.TLY_CNT_LINE_FAIL_VALUE.addr) (hg : g.addr < (R.HIF_CNT_EVT_LOST_VALUE 0).addr) :
    (s.lineFailed n res z far arg).rd g = s.rd g := by
  unfold State.lineFailed State.when
  split
  · exact (State.rd_evLine hg).trans (State.rd_bump_addr hc)
  · rfl

theorem State.tm_lineFailed {arg : BitVec 12} : (s.lineFailed n res z far arg).tm = s.tm := by
  unfold State.lineFailed State.when
  split
  · exact ((State.evLine_good _ _ _ _ _ _).same .tm rfl).trans State.bump_tm
  · rfl

theorem State.rd_lineFaulted (h : g.addr ≠ R.TLY_LINE_FAULT_VALUE.addr) : (s.lineFaulted n res).rd g = s.rd g := by
  unfold State.lineFaulted
  split
  · exact State.rd_wr_addr h
  · rfl

theorem State.tm_lineFaulted : (s.lineFaulted n res).tm = s.tm := by
  unfold State.lineFaulted
  split
  · exact State.wr_tm
  · rfl

theorem State.line_lineJudged {arg : BitVec 12} : (s.lineJudged l res z far arg).tly.line = some { l with ended := some s.tm.raw } := by
  have htm : ((((s.lineShown l.ch res z far arg.toNat).lineFaulted l.ch res).lineFailed l.ch res z far arg).pilotOut l.ch).tm = s.tm := by
    rw [State.pilotOut, State.setPs_tm, State.tm_lineFailed, State.tm_lineFaulted, State.lineShown, State.tm_tallyLog, State.wr_tm, State.wr_tm,
      State.lineResult, State.wr_tm]
  rw [← htm]
  rfl

/-- The results of a channel stay as they are shown. -/
theorem State.rd_lineJudged {arg : BitVec 12} (hn : l.ch < 24) (ha : g.addr = 0x500700A0 + 4 * l.ch) :
    (s.lineJudged l res z far arg).rd g = (((s.lineResult l.ch res).wr (R.TLY_RES_PHASE l.ch) arg.toNat).wr (R.TLY_RES_Z l.ch) z).rd g := by
  have hlog : OffLog g.addr := ha ▸ offLog_res hn
  have hfault : g.addr ≠ R.TLY_LINE_FAULT_VALUE.addr := ha ▸ (by omega : 0x500700A0 + 4 * l.ch ≠ 0x50070018)
  have hfail : g.addr ≠ R.TLY_CNT_LINE_FAIL_VALUE.addr := ha ▸ (by omega : 0x500700A0 + 4 * l.ch ≠ 0x50070140)
  have hif : g.addr < (R.HIF_CNT_EVT_LOST_VALUE 0).addr := ha ▸ (by omega : 0x500700A0 + 4 * l.ch < 0x500A0120)
  rw [State.lineJudged, State.rd_withTly, State.pilotOut, State.rd_setPs, State.rd_lineFailed hfail hif, State.rd_lineFaulted hfault, State.lineShown,
    State.rd_tallyLog hlog]

theorem Fld.apart_res_z : (R.TLY_RES_PHASE n).Apart (R.TLY_RES_Z n) ∧ (R.TLY_RES_RESULT n).Apart (R.TLY_RES_Z n) ∧
    (R.TLY_RES_RESULT n).Apart (R.TLY_RES_PHASE n) :=
  ⟨.inr (by simp [R.TLY_RES_PHASE, R.TLY_RES_Z]), .inr (by simp [R.TLY_RES_RESULT, R.TLY_RES_Z]), .inr (by simp [R.TLY_RES_RESULT, R.TLY_RES_PHASE])⟩

/-- What a judged test shows: |Z|, arg Z and the result. -/
theorem State.shown_lineJudged {arg : BitVec 12} (hn : l.ch < 24) (hz : z < 65536) (hr : res < 16) :
    (s.lineJudged l res z far arg).rd (R.TLY_RES_Z l.ch) = z ∧ (s.lineJudged l res z far arg).rd (R.TLY_RES_PHASE l.ch) = arg.toNat ∧
      (s.lineJudged l res z far arg).rd (R.TLY_RES_RESULT l.ch) = res := by
  obtain ⟨hpz, hrz, hrp⟩ := Fld.apart_res_z (n := l.ch)
  rw [State.rd_lineJudged hn rfl, State.rd_lineJudged hn rfl, State.rd_lineJudged hn rfl, State.rd_wr_apart hpz, State.rd_wr_apart hrz,
    State.rd_wr_apart hrp, State.lineResult]
  exact ⟨State.rd_wr_of_lt (Nat.zero_le 15) hz, State.rd_wr_of_lt (Nat.le_add_right 16 11) arg.isLt, State.rd_wr_of_lt (Nat.le_add_right 28 3) hr⟩

theorem State.zSensed_lt {m : SenseSum} : s.zSensed n m < 65536 := by
  unfold State.zSensed
  dsimp only
  split
  · decide
  · exact Nat.lt_succ_of_le (Nat.min_le_left _ _)

theorem clampN_eq {lo hi : Nat} (h : lo ≤ hi) : clampN lo hi v = min hi (max lo v) := by
  unfold clampN
  split_ifs <;> omega

/-- The judgement of a channel that is no A-end (R219). -/
theorem State.lineJudge_eq {z far : Nat × Nat} (hr : s.rd (R.PWS_CFG_ROLE n) ≠ 1) :
    s.lineJudge n z far = if s.on (R.TLY_BASE_VALID n) = false then 9
      else if 10000 * z.1 < z.2 * (s.rd (R.TLY_BASE_Z n) * (100 - min 99 (max 1 (s.rd R.TLY_LINE_CFG_TOL_LO)))) ^ 2 then 1
      else if z.2 * (s.rd (R.TLY_BASE_Z n) * (100 + max 1 (s.rd R.TLY_LINE_CFG_TOL_HI))) ^ 2 < 10000 * z.1 then 2 else 0 := by
  have hfar : ¬ ((s.rd (R.PWS_CFG_ROLE n) = 1 && far.1 < far.2 * s.rd R.TLY_LINE_CFG_FAR_MIN ^ 2 : Bool) = true) := by
    rw [decide_eq_false hr, Bool.false_and]
    decide
  unfold State.lineJudge
  dsimp only
  rw [if_neg hfar, clampN_eq (by decide)]
  simp only [Bool.not_eq_true']
  rfl

theorem State.lineJudge_lt {z far : Nat × Nat} : s.lineJudge n z far < 16 := by
  unfold State.lineJudge
  dsimp only
  split_ifs <;> decide

/-! ### The pilot removed (R218) -/

/-- With no line test to abort, a channel that switches stops. -/
theorem State.psStop_switching {half : Bool} (hl : s.tly.line = none) (hsw : s.on (R.PWS_STATUS_SWITCHING n) = true) :
    (s.psStop n half).psState n = stStopping ∧ ((s.psStop n half).psSt n).pilot = (s.psSt n).pilot ∧ (s.psStop n half).tly = s.tly ∧
      ∀ g : Fld, g.addr ≠ 0x50041020 + 256 * n → (s.psStop n half).rd g = s.rd g := by
  unfold State.psStop
  rw [State.lineAbort_idle hl]
  dsimp only
  rw [hsw, if_neg (by decide)]
  split
  · next hst => exact ⟨State.rd_setPs.trans hst, by rw [State.psSt_setPs_self], rfl, fun g _ => State.rd_setPs⟩
  · refine ⟨State.rd_wr_of_lt (Nat.le_add_right 15 3) (show 3 < 2 ^ 4 by decide), ?_, State.wr_tly, fun g hg => (State.rd_wr_addr hg).trans State.rd_setPs⟩
    rw [State.setPsState, State.psSt_congr State.wr_ps, State.psSt_setPs_self]

/-- A channel's pilot is gone: one started for its test stops. -/
theorem State.pilotGone_idle (hl : s.tly.line = none) :
    (s.pilotGone n).tly = s.tly ∧ ((s.pilotGone n).psSt n).pilot = none ∧
      (s.pilotGone n).psState n = (if (s.psSt n).forTest && s.on (R.PWS_STATUS_SWITCHING n) then stStopping else s.psState n) ∧
      ∀ g : Fld, g.addr ≠ 0x50041020 + 256 * n → (s.pilotGone n).rd g = s.rd g := by
  unfold State.pilotGone
  dsimp only
  rw [State.on_of_rd (g := R.PWS_STATUS_SWITCHING n) State.rd_setPs]
  split
  · next hc =>
    obtain ⟨-, hsw⟩ := Bool.and_eq_true_iff.mp hc
    obtain ⟨hst, hp, ht, hrd⟩ := State.psStop_switching (half := true) (s := s.setPs n { s.psSt n with pilot := none }) hl
      ((State.on_of_rd State.rd_setPs).trans hsw)
    exact ⟨ht.trans State.setPs_tly, hp.trans (congrArg PsSt.pilot State.psSt_setPs_self), hst, fun g hg => (hrd g hg).trans State.rd_setPs⟩
  · exact ⟨rfl, (congrArg PsSt.pilot State.psSt_setPs_self).trans (congrArg PsSt.pilot State.psSt_setPs_self), State.rd_setPs.trans State.rd_setPs,
      fun g _ => State.rd_setPs.trans State.rd_setPs⟩

/-- A line test is over: nothing is busy. -/
def State.lineOver (s : State) : State := { s with tly := { s.tly with line := none } }.wr R.TLY_STATUS_LINE_BUSY 0

theorem exec_pilotRemoved (hg : s.gated 19 = false) (hl : s.tly.line = some l) (he : l.ended = some r) (hat : r + ms 10 ≤ (s.atRaw n).tm.raw) :
    exec (.pilotRemoved n) s = .next ((s.atRaw n).lineOver.pilotGone l.ch) := by
  have hl' : (s.atRaw n).tly.line = some l := hl
  have hpast : decide (r + ms 10 ≤ (s.atRaw n).tm.raw) = true := decide_eq_true hat
  refine (if_neg (Bool.eq_false_iff.mp hg)).trans (congrArg Host.Outcome.next ?_)
  dsimp only
  rw [hl']
  dsimp only
  rw [he]
  dsimp only
  exact if_neg (by rw [hpast]; decide)

theorem State.tly_lineOver : s.lineOver.tly = { s.tly with line := none } := State.wr_tly

theorem State.rd_lineOver (h : g.addr ≠ R.TLY_STATUS_LINE_BUSY.addr) : s.lineOver.rd g = s.rd g := (State.rd_wr_addr h).trans State.rd_withTly

theorem State.pilotGone_lineOver (hn : n < 24) :
    (s.lineOver.pilotGone n).tly.line = none ∧ (s.lineOver.pilotGone n).on R.TLY_STATUS_LINE_BUSY = false ∧ ((s.lineOver.pilotGone n).psSt n).pilot = none ∧
      (s.lineOver.pilotGone n).psState n = (if (s.psSt n).forTest && s.on (R.PWS_STATUS_SWITCHING n) then stStopping else s.psState n) := by
  have hline : s.lineOver.tly.line = none := congrArg TlySt.line State.tly_lineOver
  have hpws : 0x50041020 + 256 * n ≠ 0x50070004 := by omega
  have hps : s.lineOver.psSt n = s.psSt n := State.psSt_congr State.wr_ps
  have hsw : s.lineOver.on (R.PWS_STATUS_SWITCHING n) = s.on (R.PWS_STATUS_SWITCHING n) := State.on_of_rd (State.rd_lineOver hpws)
  have hst : s.lineOver.psState n = s.psState n := State.rd_lineOver hpws
  obtain ⟨ht, hp, hstate, hrd⟩ := State.pilotGone_idle (n := n) hline
  rw [hps, hsw, hst] at hstate
  exact ⟨(congrArg TlySt.line ht).trans hline, (State.on_of_rd (hrd _ hpws.symm)).trans (State.on_wr_zero (by decide)), hp, hstate⟩

/-! ### Programs that are too loud (R220) -/

theorem exec_programLimitExceeded {ch : Fin 24} (hg : s.gated 19 = false) (hcap : s.tly.capture = none) (hl : s.tly.line = some l) (hch : l.ch = ch.val)
    (hc : l.corr = true) (he : l.ended = none) (hloud : s.tooLoud ch.val = true) :
    exec (.programLimitExceeded ch n) s = .next (((s.atRaw n).lineEnd l rDeferred).bump R.TLY_CNT_DEFER_VALUE) := by
  have hl' : (s.atRaw n).tly.line = some l := hl
  have hcap' : (s.atRaw n).tly.capture = none := hcap
  have hloud' : (s.atRaw n).tooLoud ch.val = true := hloud
  have hwatch : (s.atRaw n).watched = [ch.val] := by
    unfold State.watched
    rw [hl', hcap']
    dsimp only
    rw [hc, he, hch]
    rfl
  refine (if_neg (Bool.eq_false_iff.mp hg)).trans ?_
  dsimp only
  rw [hwatch, hloud', if_neg (by simp), hl']

theorem State.lineEnd_deferred (hn : l.ch < 24) :
    ((s.lineEnd l rDeferred).bump R.TLY_CNT_DEFER_VALUE).tly.line = some { l with ended := some s.tm.raw } ∧
      ((s.lineEnd l rDeferred).bump R.TLY_CNT_DEFER_VALUE).rd (R.TLY_RES_RESULT l.ch) = 4 ∧
      ((s.lineEnd l rDeferred).bump R.TLY_CNT_DEFER_VALUE).rd R.TLY_CNT_DEFER_VALUE = min 0xFFFFFFFF (s.rd R.TLY_CNT_DEFER_VALUE + 1) ∧
      (s.on R.TLY_STATUS_IN_WINDOW = true → l.once = false →
        ((s.lineEnd l rDeferred).bump R.TLY_CNT_DEFER_VALUE).tly.retries = s.tly.retries ++ [(l.ch, s.tm.raw + ms 60000)]) := by
  have hcnt : 0x50070144 ≠ 0x500700A0 + 4 * l.ch := by omega
  rw [State.bump_tly, State.line_lineEnd, State.rd_bump_addr hcnt.symm, State.rd_bump_self ⟨rfl, rfl⟩, State.rd_lineEnd (g := R.TLY_CNT_DEFER_VALUE) (.inl hcnt) (by decide),
    State.retries_lineEnd hn]
  refine ⟨rfl, State.rd_lineEnd_result hn (by decide), rfl, fun hw ho => ?_⟩
  rw [hw, ho, if_pos (by decide)]

end

end Sys2Proof.Machine
end
section
/-! PROOFS. The capture of baselines (R222), and the line tests together (R214, R218–R222). -/

-- One proof at a time: the package as one text then takes less memory.
set_option Elab.async false

namespace Sys2Proof.Machine

open Sys2Proof

section
variable {s t : State} {f g : Fld} {n x y : Nat} {c : Capture} {m : LineMeas} {meas : List LineMeas}

/-! ### Baselines (R222) -/

/-- What was measured of a channel of a capture, unless its program was too loud. -/
def Capture.measured (c : Capture) (meas : List LineMeas) (n : Nat) : Option LineMeas :=
  if c.deferred.contains n then none else meas.find? (fun m => m.ch.val = n)

/-- One channel of a capture takes its baseline, or is logged as deferred. -/
def State.baselined (s : State) (c : Capture) (meas : List LineMeas) (n : Nat) : State :=
  match c.measured meas n with
  | some m => (s.takeBaseline n (s.zSensed n m.sums) (argZ m.sums)).tallyLog tBaseline rPass n 0
  | none => s.tallyLog tBaseline rDeferred n 0

/-- The end of a capture, before its reply. -/
def State.captureEnded (s : State) (c : Capture) (meas : List LineMeas) : State :=
  ((c.chs.foldl (fun u n => u.baselined c meas n) s).captureStop c).queueBulk bulkBase

theorem exec_baselineCaptureEnd (hg : s.gated 19 = false) (hcap : s.tly.capture = some c) (he : c.ended = none)
    (hat : c.startAt + ms 24110 ≤ (s.atRaw n).tm.raw) :
    exec (.baselineCaptureEnd meas n) s =
      .next (((s.atRaw n).captureEnded c meas).endLong c.port .ok ((c.chs.map ((s.atRaw n).captureEntry c meas)).flatten)) := by
  have hcap' : (s.atRaw n).tly.capture = some c := hcap
  have hlate : decide ((s.atRaw n).tm.raw < c.startAt + ms 24110) = false := decide_eq_false (Nat.not_lt.mpr hat)
  refine (if_neg (Bool.eq_false_iff.mp hg)).trans ?_
  dsimp only
  rw [hcap']
  exact if_neg (by rw [he, hlate]; decide)

/-- A channel of a capture writes nothing but its own baseline and the log. -/
theorem State.rd_baselined (h : g.addr ≠ 0x50070040 + 4 * n) (hl : OffLog g.addr) : (s.baselined c meas n).rd g = s.rd g := by
  unfold State.baselined State.takeBaseline
  split
  · exact (State.rd_tallyLog hl).trans ((State.rd_wr_addr h).trans ((State.rd_wr_addr h).trans (State.rd_wr_addr h)))
  · exact State.rd_tallyLog hl

theorem State.rd_baselined_deferred (h : c.measured meas n = none) (hl : OffLog g.addr) : (s.baselined c meas n).rd g = s.rd g := by
  unfold State.baselined
  rw [h]
  exact State.rd_tallyLog hl

theorem State.tm_baselined : (s.baselined c meas n).tm = s.tm := by
  unfold State.baselined
  split
  · rw [State.tm_tallyLog, State.takeBaseline, State.wr_tm, State.wr_tm, State.wr_tm]
  · exact State.tm_tallyLog

/-- The baseline of a channel: VALID, |Z| and arg Z. -/
def State.baseline (s : State) (n : Nat) : Nat × Nat × Nat := (s.rd (R.TLY_BASE_VALID n), s.rd (R.TLY_BASE_Z n), s.rd (R.TLY_BASE_PHASE n))

theorem offLog_base (hn : n < 24) : OffLog (0x50070040 + 4 * n) := by
  simp only [OffLog, R.TLY_CNT_LOG_LOST_VALUE, R.TLY_LOG_HEAD_COUNT]
  omega

theorem Fld.apart_base : (R.TLY_BASE_VALID n).Apart (R.TLY_BASE_Z n) ∧ (R.TLY_BASE_VALID n).Apart (R.TLY_BASE_PHASE n) ∧
    (R.TLY_BASE_PHASE n).Apart (R.TLY_BASE_Z n) :=
  ⟨.inr (by simp [R.TLY_BASE_VALID, R.TLY_BASE_Z]), .inr (by simp [R.TLY_BASE_VALID, R.TLY_BASE_PHASE]), .inr (by simp [R.TLY_BASE_PHASE, R.TLY_BASE_Z])⟩

theorem State.baseline_baselined_self (hn : n < 24) (hm : c.measured meas n = some m) :
    (s.baselined c meas n).baseline n = (1, s.zSensed n m.sums, (argZ m.sums).toNat) := by
  obtain ⟨hvz, hvp, hpz⟩ := Fld.apart_base (n := n)
  have hlog := offLog_base hn
  unfold State.baselined State.baseline
  rw [hm]
  dsimp only
  rw [State.rd_tallyLog hlog, State.rd_tallyLog hlog, State.rd_tallyLog hlog, State.takeBaseline, State.rd_wr_apart hvz, State.rd_wr_apart hvp,
    State.rd_wr_apart hpz, State.rd_wr_of_lt (Nat.le_add_right 31 0) (show 1 < 2 ^ 1 by decide), State.rd_wr_of_lt (Nat.zero_le 15) State.zSensed_lt,
    State.rd_wr_of_lt (Nat.le_add_right 16 11) (argZ m.sums).isLt]

theorem State.baseline_baselined_ne (hn : n < 24) (h : n ≠ x) : (s.baselined c meas x).baseline n = s.baseline n := by
  have ha : 0x50070040 + 4 * n ≠ 0x50070040 + 4 * x := by omega
  rw [State.baseline, State.rd_baselined ha (offLog_base hn), State.rd_baselined ha (offLog_base hn), State.rd_baselined ha (offLog_base hn), State.baseline]

theorem State.zSensed_congr {v : SenseSum} (hv : t.rd (R.PWS_CAL_V_CAL n) = s.rd (R.PWS_CAL_V_CAL n)) (hi : t.rd (R.PWS_CAL_I_CAL n) = s.rd (R.PWS_CAL_I_CAL n)) :
    t.zSensed n v = s.zSensed n v := by
  rw [State.zSensed, State.zFraction, hv, hi]
  rfl

theorem State.zSensed_baselined {v : SenseSum} (hn : n < 24) : (s.baselined c meas x).zSensed n v = s.zSensed n v := by
  have ha : 0x50041014 + 256 * n ≠ 0x50070040 + 4 * x := by omega
  have hl : OffLog (0x50041014 + 256 * n) := by
    simp only [OffLog, R.TLY_CNT_LOG_LOST_VALUE, R.TLY_LOG_HEAD_COUNT]
    omega
  exact State.zSensed_congr (State.rd_baselined ha hl) (State.rd_baselined ha hl)

/-- Every measured channel of a list has its baseline. -/
theorem State.baseline_foldl {xs : List Nat} (hn : n < 24) (hm : c.measured meas n = some m) (hx : n ∈ xs) :
    (xs.foldl (fun u k => u.baselined c meas k) s).baseline n = (1, s.zSensed n m.sums, (argZ m.sums).toNat) := by
  induction xs using List.reverseRecOn with
  | nil => exact absurd hx List.not_mem_nil
  | append_singleton ys y ih =>
    rw [List.foldl_append, List.foldl_cons, List.foldl_nil]
    by_cases e : n = y
    · subst e
      rw [State.baseline_baselined_self hn hm,
        foldl_keeps (fun u : State => u.zSensed n m.sums) (fun _ _ => State.zSensed_baselined hn)]
    · rw [State.baseline_baselined_ne hn e]
      exact ih ((List.mem_append.mp hx).resolve_right (by simpa using e))

/-- A channel that was deferred keeps its baseline. -/
theorem State.word_foldl_deferred {xs : List Nat} (hn : n < 24) (hm : c.measured meas n = none) :
    (xs.foldl (fun u k => u.baselined c meas k) s).rd (R.TLY_BASE_w n) = s.rd (R.TLY_BASE_w n) := by
  refine foldl_keeps (fun u : State => u.rd (R.TLY_BASE_w n)) (fun u k => ?_) xs s
  by_cases e : n = k
  · subst e
    exact State.rd_baselined_deferred hm (offLog_base hn)
  · exact State.rd_baselined (by show 0x50070040 + 4 * n ≠ _; omega) (offLog_base hn)

theorem State.rd_captureStop : (s.captureStop c).rd g = s.rd g :=
  (foldl_keeps (fun u : State => u.rd g) (fun _ _ => State.rd_setPs) _ _).trans State.rd_withTly

theorem State.capture_captureStop : (s.captureStop c).tly.capture = some { c with ended := some s.tm.raw } := by
  refine (foldl_keeps (fun u : State => u.tly.capture) (fun u k => ?_) _ _).trans rfl
  exact congrArg TlySt.capture State.setPs_tly

theorem State.rd_captureEnded : (s.captureEnded c meas).rd g = (c.chs.foldl (fun u n => u.baselined c meas n) s).rd g := by
  rw [State.captureEnded, State.rd_queueBulk, State.rd_captureStop]

theorem State.capture_captureEnded : (s.captureEnded c meas).tly.capture = some { c with ended := some s.tm.raw } := by
  have htm := foldl_keeps State.tm (fun u k => State.tm_baselined (s := u) (c := c) (meas := meas) (n := k)) c.chs s
  rw [State.captureEnded, (State.queueBulk_good _ _).same .tly rfl, State.capture_captureStop, htm]

theorem State.rd_showBusy (h : g.addr ≠ 0x500A0004) : s.showBusy.rd g = s.rd g := by
  rw [State.showBusy, State.rd_wr_addr h, State.rd_wr_addr h]

theorem State.rd_endLong {p : Nat} {st : Status} {data : List Byte} (h : g.addr ≠ 0x500A0004) :
    (s.endLong p st data).rd g = s.rd g := by
  unfold State.endLong
  split
  · rfl
  · dsimp only
    split
    · exact State.rd_reply.trans ((State.rd_showBusy h).trans (State.rd_congr rfl rfl))
    · exact (State.rd_showBusy h).trans (State.rd_congr rfl rfl)

/-- A capture that has ended: what each of its channels holds then. -/
theorem State.captured_endLong {p : Nat} {st : Status} {data : List Byte} :
    ((s.captureEnded c meas).endLong p st data).tly.capture = some { c with ended := some s.tm.raw } ∧
      ∀ x < 24, x ∈ c.chs →
        (∀ m, c.measured meas x = some m → ((s.captureEnded c meas).endLong p st data).baseline x = (1, s.zSensed x m.sums, (argZ m.sums).toNat)) ∧
        (c.measured meas x = none → ((s.captureEnded c meas).endLong p st data).rd (R.TLY_BASE_w x) = s.rd (R.TLY_BASE_w x)) := by
  refine ⟨(congrArg TlySt.capture ((State.endLong_good _ _ _ _).same .tly rfl)).trans State.capture_captureEnded, fun x hx hmem => ?_⟩
  have hrd {g : Fld} (hg : g.addr = 0x50070040 + 4 * x) :
      ((s.captureEnded c meas).endLong p st data).rd g = (c.chs.foldl (fun u n => u.baselined c meas n) s).rd g :=
    (State.rd_endLong (hg ▸ (by omega : 0x50070040 + 4 * x ≠ 0x500A0004))).trans State.rd_captureEnded
  refine ⟨fun m hm => ?_, fun hm => (hrd rfl).trans (State.word_foldl_deferred hx hm)⟩
  rw [State.baseline, hrd rfl, hrd rfl, hrd rfl]
  exact State.baseline_foldl hx hm hmem

/-! ### The events of the line tests -/

theorem exec_lineTestRetry (hg : s.gated 19 = false) : exec (.lineTestRetry n) s = .next (s.atRaw n).lineRetry :=
  congrArg Host.Outcome.next (if_neg (Bool.eq_false_iff.mp hg))

theorem exec_correlationStart {l : LineTest} (hg : s.gated 19 = false) (hl : s.tly.line = some l) (he : l.ended = none)
    (hat : l.slotAt + ms 110 ≤ (s.atRaw n).tm.raw) :
    exec (.correlationStart n) s = .next { s.atRaw n with tly := { s.tly with line := some { l with corr := true } } } := by
  have hl' : (s.atRaw n).tly.line = some l := hl
  refine (if_neg (Bool.eq_false_iff.mp hg)).trans (congrArg Host.Outcome.next ?_)
  dsimp only
  rw [hl']
  exact if_pos (by rw [decide_eq_true hat, he]; rfl)

/-- A retry that is tested at once. -/
theorem State.line_lineRetry {k r : Nat} (ht : s.tallyOn = true) (hw : s.on R.TLY_STATUS_IN_WINDOW = true) (hr : s.tly.retries = [(k, r)])
    (hdue : r ≤ s.tm.raw) (hb : s.lineBusy = false) (hf : s.tly.slotFree ≤ s.tm.raw) (hs : s.lineSkips k = false) :
    s.lineRetry.tly.retries = [] ∧ s.lineRetry.tly.line = some ⟨k, s.tm.raw, false, none, false⟩ := by
  have hnow : ¬ ((s.lineBusy || decide (s.tm.raw < s.tly.slotFree) : Bool) = true) := by
    rw [hb, decide_eq_false (Nat.not_lt.mpr hf)]
    decide
  rw [State.lineRetry_due ht hw hr hdue, if_neg hnow, State.tly_lineSlot (s := s.retriesTaken) hs (State.line_of_not_lineBusy hb)]
  exact ⟨rfl, rfl⟩

/-- A retry that waits for the running slot. -/
theorem State.listed_lineRetry {k r : Nat} (ht : s.tallyOn = true) (hw : s.on R.TLY_STATUS_IN_WINDOW = true) (hr : s.tly.retries = [(k, r)])
    (hdue : r ≤ s.tm.raw) (hb : s.lineBusy = true) :
    s.lineRetry.tly.retries = [] ∧ k ∈ s.lineRetry.tly.todo ∧ s.lineRetry.tly.line = s.tly.line := by
  rw [State.lineRetry_due ht hw hr hdue, if_pos (by rw [hb]; rfl)]
  exact ⟨rfl, mem_insertBy, rfl⟩

end

/-- Settles O47: each event of the line tests runs to a state that is named, and the lemmas above read its registers and its records. -/
theorem lineTests : Obligations.LineTests := by
  unfold Obligations.LineTests
  refine ⟨fun s n hg ht hen hk hin hb hw => ?_, fun s n hg hw hin => ⟨fun hl => ?_, fun l hl hc ho he => ?_⟩,
    fun s n c rest hg ht hb hs hf ho hw hd hc => ⟨fun hskip => ?_, fun hskip hrun => ?_⟩,
    fun s n c r hg ht hw hr hdue hc => ⟨fun hb => ?_, fun hb hf hs _ => ?_⟩,
    fun s n l hg hl he hat => exec_correlationStart hg hl he hat,
    fun s v farRe farIm n l hg hl hc he hn hat hrole => ?_,
    fun s n r l hg hl he hat hn => ⟨_, exec_pilotRemoved hg hl he hat, State.pilotGone_lineOver hn⟩,
    fun s ch n l hg hcap hl hch hc he hloud => ?_,
    fun s meas n c hg hcap _ hchs he hat => ?_⟩
  · refine ⟨_, exec_testWindowOpen hg hk hin hw, State.on_windowBegun, rfl, ?_⟩
    have hall : ((s.atRaw n).tallyOn && (s.atRaw n).on R.TLY_CTRL_LINE_EN && !(s.atRaw n).standsBy) = true := by
      rw [ht, State.on_atRaw, hen, State.standsBy_atRaw, hb]
      rfl
    exact if_pos hall
  · have hcut : ((s.atRaw n).wr R.TLY_STATUS_IN_WINDOW 0).lineCut = (s.atRaw n).wr R.TLY_STATUS_IN_WINDOW 0 :=
      State.lineCut_idle ((congrArg TlySt.line State.wr_tly).trans hl)
    refine ⟨_, exec_testWindowClose hg hw hin, ?_, rfl, rfl⟩
    rw [State.on_of_rd (State.rd_windowEnded (by decide)), hcut]
    exact State.on_wr_zero (by decide)
  · exact ⟨_, exec_testWindowClose hg hw hin, State.windowEnded_running (s := s.atRaw n) hl hc ho he⟩
  · obtain ⟨htly, hres⟩ := State.skipped_lineSlot (s := (s.atRaw n).nextListed rest) (once := false) hskip hc
    exact ⟨_, exec_lineTestSlot hg ht hb hs hf ho hw hd, TlySt.eq_of_unlogged htly TlySt.todo fun _ => rfl,
      (TlySt.eq_of_unlogged htly TlySt.line fun _ => rfl).trans (State.line_of_not_lineBusy hb), hres⟩
  · have hidle : ((s.atRaw n).nextListed rest).tly.line = none := State.line_of_not_lineBusy hb
    have htly := State.tly_lineSlot (s := (s.atRaw n).nextListed rest) (once := false) hskip hidle
    obtain ⟨hbusy, hch⟩ := State.status_lineSlot (s := (s.atRaw n).nextListed rest) (once := false) hskip
    exact ⟨_, exec_lineTestSlot hg ht hb hs hf ho hw hd, congrArg TlySt.todo htly, congrArg TlySt.line htly, congrArg TlySt.slotFree htly,
      State.pilot_lineSlot hskip, hbusy, hch.trans (Nat.mod_eq_of_lt (by omega)), fun hoff => State.starts_lineSlot hskip hidle hoff (hrun hoff)⟩
  · exact ⟨_, exec_lineTestRetry hg, State.listed_lineRetry (s := s.atRaw n) ht hw hr hdue hb⟩
  · exact ⟨_, exec_lineTestRetry hg, State.line_lineRetry (s := s.atRaw n) ht hw hr hdue hb hf hs⟩
  · obtain ⟨far, hexec⟩ := exec_correlationEnd (farRe := farRe) (farIm := farIm) (m := v) hg hl hc he hat
    obtain ⟨hz, hphase, hres⟩ := State.shown_lineJudged (s := s.atRaw n) (far := far) (arg := argZ v) hn (State.zSensed_lt (m := v))
      (State.lineJudge_lt (z := (s.atRaw n).zFraction l.ch v) (far := (s.atRaw n).farFraction l.ch v farRe farIm))
    exact ⟨_, hexec, State.line_lineJudged, hz, hphase, hres.trans (State.lineJudge_eq hrole)⟩
  · rw [← hch]
    exact ⟨_, exec_programLimitExceeded hg hcap hl hch hc he hloud, State.lineEnd_deferred (hch ▸ ch.isLt)⟩
  · obtain ⟨hend, hbase⟩ := State.captured_endLong (s := s.atRaw n) (c := c) (meas := meas) (p := c.port) (st := .ok)
      (data := (c.chs.map ((s.atRaw n).captureEntry c meas)).flatten)
    refine ⟨_, exec_baselineCaptureEnd hg hcap he hat, hend, fun x hx => ?_⟩
    obtain ⟨hm, hd⟩ := hbase x (hchs x hx) hx
    refine ⟨fun m hdef hfind => ?_, fun hdef => hd (if_pos hdef)⟩
    have hval := hm m ((if_neg (Bool.eq_false_iff.mp hdef)).trans hfind)
    exact ⟨decide_eq_true (congrArg Prod.fst hval), congrArg (fun p => p.2.1) hval, congrArg (fun p => p.2.2) hval⟩

end Sys2Proof.Machine
end
section
/-! PROOFS. The end of a passed self-test abandons the core's task (R143, R225): the release of a held descriptor then moves OST_QLEVEL (R141, R149), whose
address the model takes from a queue number that it does not bound. -/

-- One proof at a time: the package as one text then takes less memory.
set_option Elab.async false

namespace Sys2Proof.Machine

open Sys2Proof

section
variable {s t : State} {f q n k v : Nat} {g : Fld} {d : Desc} {p : Place}

/-! ### The release of what a place holds (R141) -/

theorem State.flow_setFlow_self {x : Flow} : (s.setFlow f x).flow f = x := Cells.get_set_self

theorem State.flow_setFlow_other {x : Flow} (h : f ≠ k) : (s.setFlow k x).flow f = s.flow f := Cells.get_set_other h

theorem State.flow_congr (h : t.ost = s.ost) : t.flow f = s.flow f := congrArg (fun o => o.flows.get flowReset f) h

theorem State.queue_congr (h : t.ost = s.ost) : t.queue q = s.queue q := congrArg (fun o => o.queues.get [] q) h

theorem State.rd_setFlow {x : Flow} : (s.setFlow f x).rd g = s.rd g := State.rd_congr rfl rfl

theorem State.flow_setQueue {ds : List Desc} : (s.setQueue q ds).flow f = s.flow f :=
  congrArg (fun o => o.flows.get flowReset f) (State.wr_ost.trans State.wr_ost)

theorem State.flow_enter (h : f ≠ d.flow) : (s.enter d).flow f = s.flow f := by
  unfold State.enter
  split
  · exact State.flow_congr ((State.bump_good _ _).same .ost rfl)
  · exact State.flow_setQueue.trans (State.flow_setFlow_other h)

/-- A queue's level is its length (R149). -/
theorem State.level_setQueue {ds : List Desc} : (s.setQueue q ds).rd (R.OST_QLEVEL_LEVEL q) = ds.length % 65536 := by
  have hhigh : (R.OST_QLEVEL_LEVEL q).Apart (R.OST_QLEVEL_HIGH q) := .inr (by simp [R.OST_QLEVEL_LEVEL, R.OST_QLEVEL_HIGH])
  rw [State.setQueue, State.rd_wr_apart hhigh, State.rd_wr_self (Nat.zero_le 15)]
  rfl

theorem State.level_enter (he : s.on (R.OST_QCFG_EN d.queue) = true) :
    (s.enter d).rd (R.OST_QLEVEL_LEVEL d.queue) = ((s.queue d.queue).length + 1) % 65536 := by
  unfold State.enter
  rw [he, if_neg (by decide)]
  dsimp only
  rw [State.level_setQueue, List.length_append]
  rfl

/-- Places that hold nothing retire without a trace in the registers. -/
theorem State.rd_retire_idle (h : ∀ p ∈ (s.flow f).places, p.held = []) : (s.retire f n).rd g = s.rd g := by
  induction n generalizing s with
  | zero => rfl
  | succ n ih =>
    unfold State.retire
    dsimp only
    split
    · rfl
    · next p ps hps =>
      rw [hps, List.forall_mem_cons] at h
      obtain ⟨hp, htail⟩ := h
      split
      · rfl
      · rw [hp]
        exact (ih (by rw [State.flow_setFlow_self]; exact htail)).trans State.rd_setFlow

/-- A done place that holds one descriptor releases it into its queue. -/
theorem State.level_retireFlow (hp : (s.flow f).places = [⟨k, true, true, [d]⟩]) (hf : f ≠ d.flow) (he : s.on (R.OST_QCFG_EN d.queue) = true)
    (hr : s.roomIn d.queue = true) : (s.retireFlow f).rd (R.OST_QLEVEL_LEVEL d.queue) = ((s.queue d.queue).length + 1) % 65536 := by
  have hquiet : ∀ p ∈ (((s.setFlow f { s.flow f with places := [⟨k, true, true, []⟩] }).enter d).flow f).places, p.held = [] := by
    rw [State.flow_enter hf, State.flow_setFlow_self]
    exact fun p hm => congrArg Place.held (List.mem_singleton.mp hm)
  unfold State.retireFlow State.retire
  dsimp only
  rw [hp]
  dsimp only
  rw [hr, if_neg (by decide), if_pos rfl, State.rd_retire_idle hquiet]
  exact State.level_enter ((State.on_of_rd State.rd_setFlow).trans he)

/-! ### A task whose end releases a descriptor into a queue that is none -/

/-- The queue whose OST_QLEVEL would stand at the address of TLY_DRV_SIG. -/
def strayQueue : Nat := 0x3FDBFC1

/-- A descriptor of flow 1 for that queue. -/
def strayDesc : Desc := ⟨1, strayQueue, 0, 0, 0, 0, 0⟩

/-- The window of flow 0 begins with a place that is done and holds that descriptor; its queue takes it after `n` others. -/
structure State.Stray (s : State) (n : Nat) : Prop where
  places : (s.flow 0).places = [⟨1, true, true, [strayDesc]⟩]
  length : (s.queue strayQueue).length = n
  enabled : s.on (R.OST_QCFG_EN strayQueue) = true
  room : n < s.depth strayQueue

theorem State.Stray.congr (h : s.Stray n) (ho : t.ost = s.ost) (hr : ∀ g : Fld, g.addr = 0x50070004 → t.rd g = s.rd g) : t.Stray n where
  places := (congrArg Flow.places (State.flow_congr ho)).trans h.places
  length := (congrArg List.length (State.queue_congr ho)).trans h.length
  enabled := (State.on_of_rd (hr (R.OST_QCFG_EN strayQueue) rfl)).trans h.enabled
  room := by
    rw [State.depth, hr (R.OST_QCFG_DEPTH strayQueue) rfl]
    exact h.room

/-- The place of the task, seq 0, is another. -/
theorem State.Stray.mapPlace {h : Place → Place} (hs : s.Stray n) : (s.setFlow 0 ((s.flow 0).mapPlace 0 h)).Stray n where
  places := by
    rw [State.flow_setFlow_self, Flow.mapPlace, hs.places]
    rfl
  length := hs.length
  enabled := (State.on_of_rd State.rd_setFlow).trans hs.enabled
  room := by
    rw [State.depth, State.rd_setFlow]
    exact hs.room

theorem State.Stray.markAbandoned (h : s.Stray n) : (s.markAbandoned 0 0).Stray n := by
  have hcounted : ((s.bump R.OST_CNT_ABANDON_VALUE).flag R.OST_STATUS_ABANDON).Stray n :=
    h.congr (((State.flag_good _ _).same .ost rfl).trans ((State.bump_good _ _).same .ost rfl)) fun g hg =>
      (State.rd_flag_addr (hg ▸ by decide)).trans (State.rd_bump_addr (hg ▸ by decide))
  exact hcounted.mapPlace

/-- The level of that queue after the release. -/
theorem State.Stray.level_retireFlow (h : s.Stray n) : (s.retireFlow 0).rd (R.OST_QLEVEL_LEVEL strayQueue) = (n + 1) % 65536 := by
  have hroom : s.roomIn strayQueue = true := by
    rw [State.roomIn, h.length, decide_eq_true h.room, Bool.or_true]
  have hlevel := State.level_retireFlow (s := s) (d := strayDesc) h.places (by decide) h.enabled hroom
  rwa [show (s.queue strayDesc.queue).length = n from h.length] at hlevel

/-- The level of that queue after the end of the task. -/
theorem State.Stray.level_dropTask (h : s.Stray n) (ht : (s.core 0).task = some ⟨0, 0, false, false, 0⟩) :
    (s.dropTask 0).rd (R.OST_QLEVEL_LEVEL strayQueue) = (n + 1) % 65536 := by
  have hfree : (s.setCore 0 { s.core 0 with task := none }).Stray n := h.congr rfl fun _ _ => State.rd_congr rfl rfl
  unfold State.dropTask
  dsimp only
  rw [ht]
  dsimp only
  rw [if_neg (by decide), State.showIdle, State.rd_wr_addr (by decide)]
  exact hfree.markAbandoned.level_retireFlow

/-- A core that is reset and returns to rotation leaves the level as the task's end made it. -/
theorem State.Stray.level_resetCore (h : s.Stray n) (ht : (s.core 0).task = some ⟨0, 0, false, false, 0⟩) :
    ((s.resetCore 0).setRot 0 true).rd (R.OST_QLEVEL_LEVEL strayQueue) = (n + 1) % 65536 := by
  rw [State.setRot, State.rd_coreCopies (by decide) (by decide), State.rd_wr_addr (by decide), State.resetCore_eq,
    State.rd_coreCopies (by decide) (by decide), ← h.level_dropTask ht]
  split
  · exact State.SameRegs.setCore.rd (P := fun _ => True) trivial
  · rw [State.setCoreState, State.rd_wr_addr (by decide)]
    exact State.SameRegs.setCore.rd (P := fun _ => True) trivial

/-- A self-test that passed is logged, and its breakpoint is off. -/
def State.passLogged (s : State) (c v : Nat) : State :=
  (({ s with tly := { s.tly with self := none } } : State).tallyLog tSelf rPass c v).wr (R.DRV_BKPT_EN c 0) 0

theorem State.selfEnd_passed {c : Nat} : s.selfEnd c rPass v = ((s.passLogged c v).resetCore c).setRot c true := rfl

theorem State.core_passLogged {c : Nat} : (s.passLogged c v).core k = s.core k :=
  State.core_congr (State.wr_cores.trans ((State.tallyLog_good _ _ _ _ _).same .cores rfl))

theorem State.Stray.passLogged (h : s.Stray n) : (s.passLogged 0 v).Stray n :=
  h.congr (State.wr_ost.trans ((State.tallyLog_good _ _ _ _ _).same .ost rfl)) fun g hg =>
    (State.rd_wr_addr (hg ▸ by decide)).trans ((State.rd_tallyLog (hg ▸ by decide)).trans State.rd_withTly)

/-- The end of a self-test that passed. -/
theorem State.Stray.level_selfEnd (h : s.Stray n) (ht : (s.core 0).task = some ⟨0, 0, false, false, 0⟩) :
    (s.selfEnd 0 rPass v).rd (R.OST_QLEVEL_LEVEL strayQueue) = (n + 1) % 65536 := by
  rw [State.selfEnd_passed]
  exact h.passLogged.level_resetCore ((congrArg CoreSt.task State.core_passLogged).trans ht)

/-- The level is the low half of TLY_DRV_SIG. -/
theorem State.level_eq_sig : s.rd (R.OST_QLEVEL_LEVEL strayQueue) = s.rd R.TLY_DRV_SIG_VALUE % 65536 := by
  show s.word R.TLY_DRV_SIG_VALUE >>> 0 % 2 ^ 16 = (s.word R.TLY_DRV_SIG_VALUE >>> 0 % 2 ^ 32) % 65536
  omega

theorem exec_selfTestBreakpoint_passed {r : Nat} (hg : s.gated 19 = false) (hs : s.tly.self = some ⟨0, some r⟩) (hr : (s.atRaw n).tm.raw ≤ r + ms 50)
    (hc : s.coreState 0 = 3) (hp : (s.core 0).pc = Config.selfTestLast.toNat)
    (hsig : s.load (0x30000000 + 0 * 0x40000 + Config.selfTestWord.toNat * 4) 4 = Config.selfTestSig.toNat) :
    exec (.selfTestBreakpoint n) s =
      .next (((s.atRaw n).wr R.TLY_DRV_SIG_VALUE Config.selfTestSig.toNat).selfEnd 0 rPass Config.selfTestSig.toNat) := by
  have hs' : (s.atRaw n).tly.self = some ⟨0, some r⟩ := hs
  have hstop : ¬ (((s.atRaw n).coreState 0 ≠ 3 || ((s.atRaw n).core 0).pc ≠ Config.selfTestLast.toNat : Bool) = true) := by
    rw [show (s.atRaw n).coreState 0 = 3 from hc, show ((s.atRaw n).core 0).pc = Config.selfTestLast.toNat from hp]
    simp
  have hsig' : (s.atRaw n).load (0x30000000 + 0 * 0x40000 + Config.selfTestWord.toNat * 4) 4 = Config.selfTestSig.toNat := hsig
  refine (if_neg (Bool.eq_false_iff.mp hg)).trans (congrArg Host.Outcome.next ?_)
  dsimp only
  rw [hs']
  dsimp only
  rw [if_neg hstop, hsig', State.wr_tm, if_neg (Nat.not_lt.mpr hr), if_pos rfl]

/-- What the end of a passed self-test leaves in the low half of TLY_DRV_SIG. -/
theorem State.Stray.sig_selfTestBreakpoint {r : Nat} (h : s.Stray k) (ht : (s.core 0).task = some ⟨0, 0, false, false, 0⟩) (hg : s.gated 19 = false)
    (hs : s.tly.self = some ⟨0, some r⟩) (hr : (s.atRaw n).tm.raw ≤ r + ms 50) (hc : s.coreState 0 = 3) (hp : (s.core 0).pc = Config.selfTestLast.toNat)
    (hsig : s.load (0x30000000 + 0 * 0x40000 + Config.selfTestWord.toNat * 4) 4 = Config.selfTestSig.toNat) (he : exec (.selfTestBreakpoint n) s = .next t) :
    t.rd R.TLY_DRV_SIG_VALUE % 65536 = (k + 1) % 65536 := by
  have hstray : ((s.atRaw n).wr R.TLY_DRV_SIG_VALUE Config.selfTestSig.toNat).Stray k :=
    h.congr State.wr_ost fun g hg => (State.rd_wr_addr (hg ▸ by decide)).trans State.rd_atRaw
  have htask : (((s.atRaw n).wr R.TLY_DRV_SIG_VALUE Config.selfTestSig.toNat).core 0).task = some ⟨0, 0, false, false, 0⟩ :=
    (congrArg CoreSt.task (State.core_congr State.wr_cores)).trans ht
  rw [exec_selfTestBreakpoint_passed hg hs hr hc hp hsig] at he
  rw [← Host.Outcome.next.inj he, ← State.level_eq_sig]
  exact hstray.level_selfEnd htask

end

/-! ### The state -/

/-- The registers: no clock gated, core 0 halted, and a DEPTH of 2 where the queue would read its own, with the bit of its EN. -/
def strayRegs : State :=
  (((State.reset.wr R.CLK_GATE_NOW_VALUE 0).wr (R.DRV_STATUS_STATE 0) 3).wr (R.OST_QCFG_EN strayQueue) 1).wr (R.OST_QCFG_DEPTH strayQueue) 2

/-- Core 0 is under test and has stored the signature; it holds a task whose flow has `strayDesc` to release, into a queue that holds `ds`. -/
def strayState (ds : List Desc) : State :=
  { strayRegs.store (0x30000000 + 0 * 0x40000 + Config.selfTestWord.toNat * 4) 4 Config.selfTestSig.toNat with
    cores := [(0, { coreReset with pc := Config.selfTestLast.toNat, task := some ⟨0, 0, false, false, 0⟩ })]
    tly := { State.reset.tly with self := some ⟨0, some 0⟩ }
    ost := { State.reset.ost with queues := [(strayQueue, ds)], flows := [(0, ⟨2, true, false, [⟨1, true, true, [strayDesc]⟩]⟩)] } }

theorem rd_strayState {ds : List Desc} {g : Fld} : (strayState ds).rd g = strayRegs.rd g := State.rd_congr rfl rfl

theorem gated_strayState {ds : List Desc} : (strayState ds).gated 19 = false := by
  have hgate : strayRegs.rd R.CLK_GATE_NOW_VALUE = 0 := by
    rw [strayRegs, State.rd_wr_apart (by decide), State.rd_wr_apart (by decide), State.rd_wr_apart (by decide)]
    exact State.rd_wr_of_lt (by decide) (by decide)
  have hheld : (strayState ds).clk.held = false := rfl
  rw [State.gated, rd_strayState, hgate, hheld]
  rfl

theorem coreState_strayState {ds : List Desc} : (strayState ds).coreState 0 = 3 := by
  rw [State.coreState, rd_strayState, strayRegs, State.rd_wr_apart (by decide), State.rd_wr_apart (by decide)]
  exact State.rd_wr_of_lt (by decide) (by decide)

theorem stray_strayState {ds : List Desc} (h : ds.length < 2) : (strayState ds).Stray ds.length where
  places := rfl
  length := rfl
  enabled := by
    rw [State.on_of_rd rd_strayState, strayRegs, State.on_wr_apart (by decide)]
    exact State.on_flag_self (by decide)
  room := by
    rw [State.depth, rd_strayState, strayRegs, State.rd_wr_of_lt (by decide) (by decide)]
    exact h

theorem load_strayState {ds : List Desc} :
    (strayState ds).load (0x30000000 + 0 * 0x40000 + Config.selfTestWord.toNat * 4) 4 = Config.selfTestSig.toNat := by
  rw [State.load_congr (t := strayState ds) (s := strayRegs.store (0x30000000 + 0 * 0x40000 + Config.selfTestWord.toNat * 4) 4 Config.selfTestSig.toNat) rfl,
    State.load_store]
  exact Nat.mod_eq_of_lt Config.selfTestSig.isLt

/-- Refutes O48: a core that passed is reset, which abandons its task; a place of its flow then releases a descriptor whose queue number, which no hypothesis
bounds, puts OST_QLEVEL at TLY_DRV_SIG, so the register does not hold the signature. -/
theorem not_selfTests : ¬ Obligations.SelfTests := by
  unfold Obligations.SelfTests
  rintro ⟨-, -, hbreak, -⟩
  have hsig (ds : List Desc) (hds : ds.length < 2) : Config.selfTestSig.toNat % 65536 = (ds.length + 1) % 65536 := by
    obtain ⟨hpass, -⟩ := hbreak (strayState ds) 0 0 0 gated_strayState rfl (by decide) (Nat.zero_le _) coreState_strayState rfl
    obtain ⟨t, he, -, hrd, -⟩ := hpass load_strayState
    rw [← (stray_strayState hds).sig_selfTestBreakpoint rfl gated_strayState rfl (Nat.zero_le _) coreState_strayState rfl load_strayState he, hrd,
      load_strayState]
  have hempty := hsig [] (by decide)
  have hone := hsig [strayDesc] (by decide)
  rw [hempty] at hone
  exact absurd hone (by decide)

end Sys2Proof.Machine
end

section
/-! PROOFS. Every step: the frame of each command, canonical storage, and the machine after reset. -/

-- One proof at a time: the package as one text then takes less memory.
set_option Elab.async false

namespace Sys2Proof.Machine

open Sys2Proof

/-- Every command keeps within its row of `changes`: one lemma of the layer `Keep` for each. -/
theorem exec_good (i : Instr) (s : State) : GoodO (Part.mask (changes i)) s (exec i s) := by
  cases i with
  | blockBoundary bus t => exact execBlockBoundary_good bus t s
  | tapListComplete blk => exact execTapListComplete_good blk s
  | landingDeadline specFail specLate t => exact execLandingDeadline_good specFail specLate t s
  | releaseDeadline lateOuts t => exact execReleaseDeadline_good lateOuts t s
  | soundRateUpdate code t => exact execSoundRateUpdate_good code t s
  | tilePresent source seq payload nonAudio t => exact execTilePresent_good source seq payload nonAudio t s
  | longRingCopy ring blk => exact execLongRingCopy_good ring blk s
  | longCopyOverdue ring blk => exact execLongCopyOverdue_good ring blk s
  | panicStart got t => exact execPanicStart_good got t s
  | longReadAge got t => exact execLongReadAge_good got t s
  | longTileDeadline got t => exact execLongTileDeadline_good got t s
  | scrubRead t => exact execScrubRead_good t s
  | odlyTileDeadline output blk => exact execOdlyTileDeadline_good output blk s
  | installSpectraDone output t => exact execInstallSpectraDone_good output t s
  | identFrame frames => exact execIdentFrame_good frames s
  | dispatch waited blocked => exact execDispatch_good waited blocked s
  | giveAccept core waited full => exact execGiveAccept_good core waited full s
  | doneComplete core => exact execDoneComplete_good core s
  | windowRelease flow => exact execWindowRelease_good flow s
  | sliceOverrun core t => exact execSliceOverrun_good core t s
  | supervisorPost word => exact execSupervisorPost_good word s
  | portReadArrival core index => exact execPortReadArrival_good core index s
  | drvNop at_ => exact execDrvNop_good at_ s
  | drvMac at_ f => exact execDrvMac_good at_ f s
  | drvCmr at_ f => exact execDrvCmr_good at_ f s
  | drvCmi at_ f => exact execDrvCmi_good at_ f s
  | drvAccw at_ f => exact execDrvAccw_good at_ f s
  | drvMova at_ f => exact execDrvMova_good at_ f s
  | drvAmovx at_ f => exact execDrvAmovx_good at_ f s
  | drvLcoef at_ f => exact execDrvLcoef_good at_ f s
  | drvVadd at_ f => exact execDrvVadd_good at_ f s
  | drvVsub at_ f => exact execDrvVsub_good at_ f s
  | drvVmax at_ f => exact execDrvVmax_good at_ f s
  | drvVmin at_ f => exact execDrvVmin_good at_ f s
  | drvVabs at_ f => exact execDrvVabs_good at_ f s
  | drvVshr at_ f => exact execDrvVshr_good at_ f s
  | drvVshl at_ f => exact execDrvVshl_good at_ f s
  | drvVswp at_ f => exact execDrvVswp_good at_ f s
  | drvVbc at_ f => exact execDrvVbc_good at_ f s
  | drvVmov at_ f => exact execDrvVmov_good at_ f s
  | drvMovxv at_ f => exact execDrvMovxv_good at_ f s
  | drvMovvx at_ f => exact execDrvMovvx_good at_ f s
  | drvTapph at_ f => exact execDrvTapph_good at_ f s
  | drvTapgn at_ f => exact execDrvTapgn_good at_ f s
  | drvLdv at_ f => exact execDrvLdv_good at_ f s
  | drvStv at_ f => exact execDrvStv_good at_ f s
  | drvSta at_ f => exact execDrvSta_good at_ f s
  | drvStas at_ f => exact execDrvStas_good at_ f s
  | drvLdw at_ f => exact execDrvLdw_good at_ f s
  | drvStw at_ f => exact execDrvStw_good at_ f s
  | drvLdwf at_ f => exact execDrvLdwf_good at_ f s
  | drvStwf at_ f => exact execDrvStwf_good at_ f s
  | drvAdd at_ f => exact execDrvAdd_good at_ f s
  | drvSub at_ f => exact execDrvSub_good at_ f s
  | drvAnd at_ f => exact execDrvAnd_good at_ f s
  | drvOr at_ f => exact execDrvOr_good at_ f s
  | drvXor at_ f => exact execDrvXor_good at_ f s
  | drvShl at_ f => exact execDrvShl_good at_ f s
  | drvShr at_ f => exact execDrvShr_good at_ f s
  | drvSra at_ f => exact execDrvSra_good at_ f s
  | drvCmp at_ f => exact execDrvCmp_good at_ f s
  | drvMulx at_ f => exact execDrvMulx_good at_ f s
  | drvExtu at_ f => exact execDrvExtu_good at_ f s
  | drvExts at_ f => exact execDrvExts_good at_ f s
  | drvAddi at_ f => exact execDrvAddi_good at_ f s
  | drvMovi at_ f => exact execDrvMovi_good at_ f s
  | drvMovhi at_ f => exact execDrvMovhi_good at_ f s
  | drvAgset at_ f => exact execDrvAgset_good at_ f s
  | drvAgget at_ f => exact execDrvAgget_good at_ f s
  | drvMts at_ f => exact execDrvMts_good at_ f s
  | drvMfs at_ f => exact execDrvMfs_good at_ f s
  | drvScstep at_ f => exact execDrvScstep_good at_ f s
  | drvBr at_ f => exact execDrvBr_good at_ f s
  | drvBrx at_ f => exact execDrvBrx_good at_ f s
  | drvCall at_ f => exact execDrvCall_good at_ f s
  | drvLoop at_ f => exact execDrvLoop_good at_ f s
  | drvReti at_ f => exact execDrvReti_good at_ f s
  | drvTake at_ f => exact execDrvTake_good at_ f s
  | drvGive at_ f => exact execDrvGive_good at_ f s
  | drvDone at_ f => exact execDrvDone_good at_ f s
  | drvTapset at_ f => exact execDrvTapset_good at_ f s
  | drvTaprd at_ f => exact execDrvTaprd_good at_ f s
  | drvAccadd at_ f => exact execDrvAccadd_good at_ f s
  | drvAccrc at_ f => exact execDrvAccrc_good at_ f s
  | drvCoreReset core => exact execDrvCoreReset_good core s
  | coreRun core => exact execCoreRun_good core s
  | haltReq core => exact execHaltReq_good core s
  | drvStep core => exact execDrvStep_good core s
  | drvResume core => exact execDrvResume_good core s
  | swapReq => exact execSwapReq_good s
  | verifyComplete t => exact execVerifyComplete_good t s
  | slHold hold => exact execSlHold_good hold s
  | slArm => exact execSlArm_good s
  | tdmFrame port len bits fsRise fsFall t => exact execTdmFrame_good port len bits fsRise fsFall t s
  | aes3Frame input z a b fs t => exact execAes3Frame_good input z a b fs t s
  | asrcWindow aes port => exact execAsrcWindow_good aes port s
  | asrcFsTimeout aes port t => exact execAsrcFsTimeout_good aes port t s
  | micZeroCrossing mic before after => exact execMicZeroCrossing_good mic before after s
  | zcTimeout mic t => exact execZcTimeout_good mic t s
  | micDetectionSample mic c0 c1 c2 c3 t => exact execMicDetectionSample_good mic c0 c1 c2 c3 t s
  | idleBandHold mic t => exact execIdleBandHold_good mic t s
  | faultBandHold mic t => exact execFaultBandHold_good mic t s
  | pressDebounce mic t => exact execPressDebounce_good mic t s
  | releaseDebounce mic t => exact execReleaseDebounce_good mic t s
  | switchingPeriod ch bus oc t => exact execSwitchingPeriod_good ch bus oc t s
  | trip ch t => exact execTrip_good ch t s
  | probeStart ch t => exact execProbeStart_good ch t s
  | probeEnd ch sums t => exact execProbeEnd_good ch sums t s
  | restartRampEnd ch t => exact execRestartRampEnd_good ch t s
  | principalTripFree ch t => exact execPrincipalTripFree_good ch t s
  | dcCheck ch sum t => exact execDcCheck_good ch sum t s
  | loopWindow ch codes t => exact execLoopWindow_good ch codes t s
  | startComplete ch t => exact execStartComplete_good ch t s
  | stopComplete ch t => exact execStopComplete_good ch t s
  | clearFaultShort ch t => exact execClearFaultShort_good ch t s
  | clearFaultDc ch t => exact execClearFaultDc_good ch t s
  | clearFaultOpen ch t => exact execClearFaultOpen_good ch t s
  | testWindowOpen t => exact execTestWindowOpen_good t s
  | testWindowClose t => exact execTestWindowClose_good t s
  | lineTestSlot t => exact execLineTestSlot_good t s
  | correlationStart t => exact execCorrelationStart_good t s
  | correlationEnd sums farRe farIm t => exact execCorrelationEnd_good sums farRe farIm t s
  | pilotRemoved t => exact execPilotRemoved_good t s
  | programLimitExceeded ch t => exact execProgramLimitExceeded_good ch t s
  | lineTestRetry t => exact execLineTestRetry_good t s
  | baselineCaptureEnd meas t => exact execBaselineCaptureEnd_good meas t s
  | selfTestStart t => exact execSelfTestStart_good t s
  | selfTestHalt t => exact execSelfTestHalt_good t s
  | selfTestBreakpoint t => exact execSelfTestBreakpoint_good t s
  | selfTestTimeout t => exact execSelfTestTimeout_good t s
  | dramScrubSlice n t => exact execDramScrubSlice_good n t s
  | dramScrubTimeout t => exact execDramScrubTimeout_good t s
  | foldPatternCheck t => exact execFoldPatternCheck_good t s
  | foldPatternResult errors => exact execFoldPatternResult_good errors s
  | senseReferenceCheck ch plus minus t => exact execSenseReferenceCheck_good ch plus minus t s
  | rxFrame mac bytes err cap t => exact execRxFrame_good mac bytes err cap t s
  | pauseExpiry mac t => exact execPauseExpiry_good mac t s
  | txFrameStart mac cap t => exact execTxFrameStart_good mac cap t s
  | txFrameEnd mac underrun => exact execTxFrameEnd_good mac underrun s
  | linkChange mac link => exact execLinkChange_good mac link s
  | mdioTransfer word => exact execMdioTransfer_good word s
  | mdioComplete data => exact execMdioComplete_good data s
  | servoStep theta t => exact execServoStep_good theta t s
  | holdoverTimeout t => exact execHoldoverTimeout_good t s
  | conversion lo => exact execConversion_good lo s
  | txqRead mac => exact execTxqRead_good mac s
  | announceTimeout t => exact execAnnounceTimeout_good t s
  | ppsInput t => exact execPpsInput_good t s
  | ppsOutput t => exact execPpsOutput_good t s
  | streamPacket mac ring t => exact execStreamPacket_good mac ring t s
  | legDown ctx t => exact execLegDown_good ctx t s
  | spiWrite port whole t => exact execSpiWrite_good port whole t s
  | spiRead port t => exact execSpiRead_good port t s
  | spiStatus port t => exact execSpiStatus_good port t s
  | halfOpenTimeout sess t => exact execHalfOpenTimeout_good sess t s
  | keepaliveTimeout sess t => exact execKeepaliveTimeout_good sess t s
  | resetDelay straps t => exact execResetDelay_good straps t s
  | scheduledAction index t => exact execScheduledAction_good index t s
  | sessionOpen h r => exact execSessionOpen_good h r s
  | sessionClose h => exact execSessionClose_good h s
  | keepalive h => exact execKeepalive_good h s
  | claim h refs => exact execClaim_good h refs s
  | release h refs => exact execRelease_good h refs s
  | preempt h refs => exact execPreempt_good h refs s
  | objDefine h o r => exact execObjDefine_good h o r s
  | objMove h ms => exact execObjMove_good h ms s
  | objPath h o w => exact execObjPath_good h o w s
  | objGain h es => exact execObjGain_good h es s
  | objMute h es => exact execObjMute_good h es s
  | objQuery h first n => exact execObjQuery_good h first n s
  | spkLayoutLoad h first rs => exact execSpkLayoutLoad_good h first rs s
  | pastureBuild h ds => exact execPastureBuild_good h ds s
  | zoneDefine h zone alarm outs => exact execZoneDefine_good h zone alarm outs s
  | routeSet h bus en mute home code mask ins => exact execRouteSet_good h bus en mute home code mask ins s
  | routeQuery h sel index => exact execRouteQuery_good h sel index s
  | eqSet h output headroom cs => exact execEqSet_good h output headroom cs s
  | firLoad h output lm1 first taps => exact execFirLoad_good h output lm1 first taps s
  | firInstall h es => exact execFirInstall_good h es s
  | limiterSet h output en look thresh rel => exact execLimiterSet_good h output en look thresh rel s
  | outDelay h es => exact execOutDelay_good h es s
  | identControl h r => exact execIdentControl_good h r s
  | identExport h slot propose => exact execIdentExport_good h slot propose s
  | streamRxSet h r => exact execStreamRxSet_good h r s
  | streamTxSet h r => exact execStreamTxSet_good h r s
  | portTdmSet h port cfg tol maskIn maskOut map => exact execPortTdmSet_good h port cfg tol maskIn maskOut map s
  | portAesSet h dir index cfg map template => exact execPortAesSet_good h dir index cfg map template s
  | micSet h input cfg det => exact execMicSet_good h input cfg det s
  | asrcSet h ch bw cfg => exact execAsrcSet_good h ch bw cfg s
  | psConfig h ch w => exact execPsConfig_good h ch w s
  | psEnable h es => exact execPsEnable_good h es s
  | psLoopPair h ch pair => exact execPsLoopPair_good h ch pair s
  | psBandProtect h freqs => exact execPsBandProtect_good h freqs s
  | psStatus h first n => exact execPsStatus_good h first n s
  | psFaultClear h es => exact execPsFaultClear_good h es s
  | tallySchedule h r => exact execTallySchedule_good h r s
  | tallyRunNow h test subject => exact execTallyRunNow_good h test subject s
  | tallyLogRead h index n => exact execTallyLogRead_good h index n s
  | baselineCapture h chs => exact execBaselineCapture_good h chs s
  | timeConfig h r => exact execTimeConfig_good h r s
  | timeStatus h => exact execTimeStatus_good h s
  | scheduleEvent h action gpio tag => exact execScheduleEvent_good h action gpio tag s
  | mirrorConfig h en prefer => exact execMirrorConfig_good h en prefer s
  | mirrorStatus h => exact execMirrorStatus_good h s
  | mirrorSwitchover h => exact execMirrorSwitchover_good h s
  | attest h nonce => exact execAttest_good h nonce s
  | certRead h which => exact execCertRead_good h which s
  | fwBegin h length sha => exact execFwBegin_good h length sha s
  | fwChunk h off data => exact execFwChunk_good h off data s
  | fwCommit h => exact execFwCommit_good h s
  | keyRotate h es => exact execKeyRotate_good h es s
  | paramRead h pids => exact execParamRead_good h pids s
  | paramWrite h es => exact execParamWrite_good h es s
  | safeStage h es => exact execSafeStage_good h es s
  | safeCommit h action => exact execSafeCommit_good h action s
  | countersRead h ids => exact execCountersRead_good h ids s
  | msgStore h r data => exact execMsgStore_good h r data s
  | msgPlay h m loop repeats gap => exact execMsgPlay_good h m loop repeats gap s
  | msgStop h m atEnd => exact execMsgStop_good h m atEnd s
  | shedConfig h s2 s3 s4 hyst dwell => exact execShedConfig_good h s2 s3 s4 hyst dwell s
  | supplyStatus h => exact execSupplyStatus_good h s
  | maintEnter h enter => exact execMaintEnter_good h enter s
  | rawRead h addr n => exact execRawRead_good h addr n s
  | rawWrite h addr words => exact execRawWrite_good h addr words s
  | reset h => exact execReset_good h s
  | disagreement core kind addr t => exact execDisagreement_good core kind addr t s
  | heartbeatPeriod t => exact execHeartbeatPeriod_good t s
  | hello f t => exact execHello_good f t s
  | heartbeat f t => exact execHeartbeat_good f t s
  | hbPinEdge t => exact execHbPinEdge_good t s
  | heartbeatMiss fold t => exact execHeartbeatMiss_good fold t s
  | actiChange high t => exact execActiChange_good high t s
  | arbitrationTimeout t => exact execArbitrationTimeout_good t s
  | copyFix room t => exact execCopyFix_good room t s
  | copy f c t => exact execCopy_good f c t s
  | bulk f items outstanding t => exact execBulk_good f items outstanding t s
  | pattern errors t => exact execPattern_good errors t s
  | handoverChannelStart t => exact execHandoverChannelStart_good t s
  | handoverEnd t => exact execHandoverEnd_good t s
  | dramRequest arrivals grants serve t => exact execDramRequest_good arrivals grants serve t s
  | rowIdleClose ch bank t => exact execRowIdleClose_good ch bank t s
  | refresh ch t => exact execRefresh_good ch t s
  | dqsOscillatorRead drift0 drift1 t => exact execDqsOscillatorRead_good drift0 drift1 t s
  | trainReq t => exact execTrainReq_good t s
  | retrainStep ch last t => exact execRetrainStep_good ch last t s
  | retrainTimeout t => exact execRetrainTimeout_good t s
  | trainingComplete ok0 ok1 t => exact execTrainingComplete_good ok0 ok1 t s
  | powerDownIdle ch t => exact execPowerDownIdle_good ch t s
  | fabErrinfoRead => exact execFabErrinfoRead_good s
  | sysRemapSwap word => exact execSysRemapSwap_good word s
  | powerOnReset straps t => exact execPowerOnReset_good straps t s
  | externalReset straps t => exact execExternalReset_good straps t s
  | railFail straps t => exact execRailFail_good straps t s
  | rcReady t => exact execRcReady_good t s
  | trimWrite word t => exact execTrimWrite_good word t s
  | rcTrimInterval count => exact execRcTrimInterval_good count s
  | xoStartDelay t => exact execXoStartDelay_good t s
  | xoStartTimeout t => exact execXoStartTimeout_good t s
  | monitorWindow src count expected t => exact execMonitorWindow_good src count expected t s
  | monitorNoEdge src t => exact execMonitorNoEdge_good src t s
  | pllUnlock src t => exact execPllUnlock_good src t s
  | restore => exact execRestore_good s
  | gateRunWrite cores word t => exact execGateRunWrite_good cores word t s
  | gatesClose t => exact execGatesClose_good t s
  | quiescenceTimeout notIdle t => exact execQuiescenceTimeout_good notIdle t s
  | wake cause t => exact execWake_good cause t s
  | deepSleepClose notIdle t => exact execDeepSleepClose_good notIdle t s
  | mainsDebounce high t => exact execMainsDebounce_good high t s
  | brownout t => exact execBrownout_good t s
  | brownoutRecovery straps t => exact execBrownoutRecovery_good straps t s
  | supervisorRelease a b cfgOk t => exact execSupervisorRelease_good a b cfgOk t s
  | evacuationTrigger n t => exact execEvacuationTrigger_good n t s
  | setField t => exact execSetField_good t s
  | faultInjection core t => exact execFaultInjection_good core t s
  | registerWrite master core addr word lanes t => exact execRegisterWrite_good master core addr word lanes t s
  | identExportComplete port t => exact execIdentExportComplete_good port t s
  | fwCommitComplete shaOk header t => exact execFwCommitComplete_good shaOk header t s
  | keyRotateComplete t => exact execKeyRotateComplete_good t s
  | primaryTimePortReturn t => exact execPrimaryTimePortReturn_good t s
  | foldBlockLockLoss lost t => exact execFoldBlockLockLoss_good lost t s

/-- No row of `changes` names the queue. -/
theorem pending_not_mem_changes (i : Instr) : Part.pending ∉ changes i :=
  of_decide_eq_false (by cases i <;> rfl)

/-- Settles O4: each command's own lemma gives its row, the queue stands in none, and the one-time memory is part of what `Good` says. -/
theorem commandFrame : Obligations.CommandFrame := fun i s t he =>
  have hg := (exec_good i s).good t he
  ⟨fun _ hp => hg.same _ (Part.mask_bit hp), hg.same .pending (Part.mask_bit (pending_not_mem_changes i)), hg.otp⟩

theorem State.canonical_iff {s : State} : s.canonical = true ↔ Memory.wf s.mem = true ∧ Cells.wf 0 s.regs = true ∧ Cells.wf 0 s.live = true := by
  rw [State.canonical, Bool.and_eq_true, Bool.and_eq_true, and_assoc]

theorem Good.canonical {W : Nat} {s t : State} (h : Good W s t) (hs : s.canonical = true) : t.canonical = true := by
  obtain ⟨hm, hr, hl⟩ := State.canonical_iff.1 hs
  exact State.canonical_iff.2 ⟨h.mem hm, h.regs hr, h.live hl⟩

theorem step_idle {s : State} (h : s.pending = []) : step s = .next s.tick := by rw [step, h]

theorem step_front {s : State} {c : Instr} {q : List Instr} (h : s.pending = c :: q) : step s = exec c { s with pending := q } := by rw [step, h]

/-- Settles O1: the two equations of `step`. -/
theorem stepRunsTheFront : Obligations.StepRunsTheFront := ⟨fun _ _ _ => step_front, fun _ => step_idle⟩

/-- Settles O3: an idle step touches neither memory nor registers; the command at the front keeps them canonical, and so did taking it from the queue. -/
theorem stepKeepsCanonical : Obligations.StepKeepsCanonical := by
  intro s t hs he
  cases hp : s.pending with
  | nil =>
    rw [step_idle hp] at he
    cases he
    exact hs
  | cons c q =>
    rw [step_front hp] at he
    exact ((exec_good c _).good t he).canonical hs

theorem State.word_reset (f : Fld) : State.reset.word f = f.rst := by
  have hr : State.reset.rstOf f = f.rst := if_neg Bool.false_ne_true
  have hc : State.reset.regs.get 0 f.addr = 0 := rfl
  rw [State.word, hr, hc, Nat.zero_xor]

/-- Settles O2: nothing is listed after reset, so every accessor answers its default. -/
theorem resetState : Obligations.ResetState :=
  ⟨rfl, rfl, rfl, rfl, fun _ => rfl, fun f => by rw [State.rd, State.word_reset], fun _ => rfl, fun _ => rfl, fun _ => rfl, by decide, by decide⟩

end Sys2Proof.Machine
end

section
/-! PROOFS. Reception, steps 1 to 6 (R277, R284, R289): the outcome of each step that a packet can fail. -/

-- One proof at a time: the package as one text then takes less memory.
set_option Elab.async false

namespace Sys2Proof.Machine

open Sys2Proof

section
variable {s u : State} {h : Hdr} {d : OpInfo} {i p : Nat} {f : Fld}

/-! ### What reception does before the steps decide -/

/-- The state in which an enabled port looks at a packet: it is taken from the queue and counted. -/
def State.received (s : State) (h : Hdr) : State := ((s.atRaw h.t).takeInbound h.port.val).bump (R.HIF_CNT_RX_VALUE h.port.val)

theorem State.received_good : Good (Part.mask [.tm, .regs, .ports]) s (s.received h) :=
  (State.bump_good _ _).step rfl ((State.takeInbound_good _ _).step rfl ((State.atRaw_good s h.t).step rfl Good.refl))

theorem State.session_congr (hs : u.sessions = s.sessions) : u.session i = s.session i := by rw [State.session, hs, State.session]

theorem State.session_received : (s.received h).session i = s.session i :=
  State.session_congr (State.received_good.same .sessions rfl)

theorem State.port_takeInbound {q : Nat} : (s.takeInbound p).port q =
    if q = p ∧ isNet p = false then { s.port q with inb := (s.port q).inb - 1 } else s.port q := by
  cases hn : isNet p with
  | true => simp [State.takeInbound, hn]
  | false =>
    simp only [State.takeInbound, hn, Bool.false_eq_true, if_false, and_true, State.port_setPort]
    split <;> simp_all

theorem State.port_received {q : Nat} : ((s.received h).port q).out = (s.port q).out ∧ ((s.received h).port q).busy = (s.port q).busy := by
  have hb : (s.received h).port q = ((s.atRaw h.t).takeInbound h.port.val).port q := State.port_congr State.bump_ports
  have ha : (s.atRaw h.t).port q = s.port q := rfl
  rw [hb, State.port_takeInbound, ha]
  split <;> exact ⟨rfl, rfl⟩

theorem State.runningFor_congr (hd : u.devBusy = s.devBusy) (hp : ∀ q, (u.port q).busy = (s.port q).busy) {code : Nat} :
    u.runningFor p code = s.runningFor p code := by
  simp only [State.runningFor, State.running, hd, hp]

theorem State.runningFor_received {code : Nat} : (s.received h).runningFor p code = s.runningFor p code :=
  State.runningFor_congr (State.received_good.same .devBusy rfl) fun _ => State.port_received.2

theorem State.runningFor_heard {code : Nat} : (s.heard i).runningFor p code = s.runningFor p code := State.runningFor_congr rfl fun _ => rfl

theorem State.rd_takeInbound : (s.takeInbound p).rd f = s.rd f :=
  State.rd_congr ((State.takeInbound_good _ _).same .regs rfl) ((State.takeInbound_good _ _).same .straps rfl)

theorem State.rd_received_count : (s.received h).rd (R.HIF_CNT_RX_VALUE h.port.val) = min 0xFFFFFFFF (s.rd (R.HIF_CNT_RX_VALUE h.port.val) + 1) := by
  rw [State.received, State.bump, State.rd_count_word rfl rfl, State.rd_takeInbound, State.rd_atRaw]

theorem State.rd_received (hf : f.addr ≠ (R.HIF_CNT_RX_VALUE h.port.val).addr) : (s.received h).rd f = s.rd f := by
  rw [State.received, State.rd_bump_addr hf, State.rd_takeInbound, State.rd_atRaw]

/-! ### The steps -/

theorem State.hear_disabled (he : s.portEnabled h.port.val = false) : s.hear h d = .done (s.atRaw h.t) := by
  simp [State.hear, State.portEnabled_atRaw, he]

section
variable (he : s.portEnabled h.port.val = true)
include he

theorem State.hear_badFrame (hf : h.framing = .badFrame) :
    s.hear h d = .done ((s.received h).bump (R.HIF_CNT_FRAME_VALUE h.port.val)) := by
  simp [State.hear, State.portEnabled_atRaw, he, hf, State.received]

theorem State.hear_badCrc (hf : h.framing = .badCrc) :
    s.hear h d = .done ((s.received h).bump (R.HIF_CNT_CRC_VALUE h.port.val)) := by
  simp [State.hear, State.portEnabled_atRaw, he, hf, State.received]

variable (hf : h.framing = .good)
include hf

theorem State.hear_noSession (hx : 8 ≤ h.sess ∨ (s.session h.sess).phase = .closed ∨ (s.session h.sess).port ≠ h.port.val) :
    s.hear h d = .done ((s.received h).bump (R.HIF_CNT_NOSESS_VALUE h.port.val)) := by
  have hx' := hx
  rw [← State.session_received (h := h), State.received] at hx'
  simp only [State.hear, State.portEnabled_atRaw, he, hf, State.received, hx', if_true, if_false, Bool.not_true, Bool.false_eq_true, reduceCtorEq]

variable (h8 : h.sess < 8) (ho : (s.session h.sess).phase ≠ .closed) (hp : (s.session h.sess).port = h.port.val)
include h8 ho hp

theorem State.hear_badTag (ht : tagPasses h (s.session h.sess) = false) :
    s.hear h d = .done ((s.received h).bump (R.HIF_CNT_AUTH_VALUE h.port.val)) := by
  have hs : (((s.atRaw h.t).takeInbound h.port.val).bump (R.HIF_CNT_RX_VALUE h.port.val)).session h.sess = s.session h.sess := State.session_received
  simp only [State.hear, State.portEnabled_atRaw, he, hf, State.received, hs, not_le.2 h8, ho, hp, ht, ne_eq, not_true_eq_false, or_self, if_true, if_false,
    Bool.not_true, Bool.not_false, Bool.false_eq_true, reduceCtorEq]

variable (ht : tagPasses h (s.session h.sess) = true)
include ht

theorem State.hear_running {l : LongOp} (hl : s.runningFor h.port.val d.code = some l) :
    s.hear h d = .done ((((s.received h).heard h.sess).bump (R.HIF_CNT_BUSY_VALUE h.port.val)).reply h.sess d.code h.seq.toNat .busy
      (((s.received h).heard h.sess).busyData l) false) := by
  have hs : (((s.atRaw h.t).takeInbound h.port.val).bump (R.HIF_CNT_RX_VALUE h.port.val)).session h.sess = s.session h.sess := State.session_received
  have hr := (State.runningFor_heard (s := s.received h) (i := h.sess)).trans (State.runningFor_received.trans hl)
  unfold State.received at hr
  simp only [State.hear, State.portEnabled_atRaw, he, hf, State.received, hs, hr, not_le.2 h8, ho, hp, ht, ne_eq, not_true_eq_false, or_self, if_false,
    Bool.not_true, Bool.false_eq_true, reduceCtorEq]

variable (hn : s.runningFor h.port.val d.code = none)
include hn

theorem State.hear_version (hv : h.major ≠ (s.session h.sess).major ∨ h.minor ≠ (s.session h.sess).minor) :
    s.hear h d = .done (((s.received h).heard h.sess).reply h.sess d.code h.seq.toNat .version [] false) := by
  have hs : (((s.atRaw h.t).takeInbound h.port.val).bump (R.HIF_CNT_RX_VALUE h.port.val)).session h.sess = s.session h.sess := State.session_received
  have hr := (State.runningFor_heard (s := s.received h) (i := h.sess)).trans (State.runningFor_received.trans hn)
  unfold State.received at hr
  simp only [State.hear, State.portEnabled_atRaw, he, hf, State.received, hs, hr, not_le.2 h8, ho, hp, ht, if_pos hv, ne_eq, not_true_eq_false, or_self, if_false,
    Bool.not_true, Bool.false_eq_true, reduceCtorEq]

variable (hma : h.major = (s.session h.sess).major) (hmi : h.minor = (s.session h.sess).minor)
include hma hmi

theorem State.hear_cached {k : Nat × Packet} (hc : (s.session h.sess).cache.find? (fun c => c.1 = h.seq.toNat) = some k) :
    s.hear h d = .done (((s.received h).heard h.sess).enqueue h.port.val k.2) := by
  have hs : (((s.atRaw h.t).takeInbound h.port.val).bump (R.HIF_CNT_RX_VALUE h.port.val)).session h.sess = s.session h.sess := State.session_received
  have hr := (State.runningFor_heard (s := s.received h) (i := h.sess)).trans (State.runningFor_received.trans hn)
  unfold State.received at hr
  simp only [State.hear, State.portEnabled_atRaw, he, hf, State.received, hs, hr, not_le.2 h8, ho, hp, ht, hma, hmi, hc, ne_eq, not_true_eq_false, or_self, if_false,
    Bool.not_true, Bool.false_eq_true, reduceCtorEq]

variable (hc : (s.session h.sess).cache.find? (fun c => c.1 = h.seq.toNat) = none)
include hc

/-- A new version's packet whose reply is not cached: its sequence number decides (R284). -/
theorem State.hear_uncached : s.hear h d =
    if laterThan 32 h.seq.toNat (s.session h.sess).lastSeq then .accepted h.sess (((s.received h).heard h.sess).accept h.sess h)
    else if (s.session h.sess).spans.contains h.seq.toNat then .accepted h.sess ((s.received h).heard h.sess)
    else .done ((((s.received h).heard h.sess).bump (R.HIF_CNT_STALE_VALUE h.port.val)).reply h.sess d.code h.seq.toNat .stale [] false) := by
  have hs : (((s.atRaw h.t).takeInbound h.port.val).bump (R.HIF_CNT_RX_VALUE h.port.val)).session h.sess = s.session h.sess := State.session_received
  have hr := (State.runningFor_heard (s := s.received h) (i := h.sess)).trans (State.runningFor_received.trans hn)
  unfold State.received at hr
  simp only [State.hear, State.portEnabled_atRaw, he, hf, State.received, hs, hr, not_le.2 h8, ho, hp, ht, hma, hmi, hc, ne_eq, not_true_eq_false, or_self, if_false,
    Bool.not_true, Bool.false_eq_true, reduceCtorEq]

end

theorem State.receive_done {chk : State → Nat → OpCheck} {run : State → Nat → State × Option (Status × List Byte)} (hd : s.hear h d = .done u) :
    s.receive h d chk run = u := by rw [State.receive, hd]

/-! ### What an unaccepted packet leaves -/

/-- The outcome of a packet that is counted at `f` and not answered. -/
structure State.Dropped (s : State) (h : Hdr) (f : Fld) (t : State) : Prop where
  received : t.rd (R.HIF_CNT_RX_VALUE h.port.val) = min 0xFFFFFFFF (s.rd (R.HIF_CNT_RX_VALUE h.port.val) + 1)
  counted : t.rd f = min 0xFFFFFFFF (s.rd f + 1)
  out : (t.port h.port.val).out = (s.port h.port.val).out
  only : ∀ q, q ∉ [Part.tm, .regs, .ports] → Part.same q s t

theorem State.dropped_bump (hlo : f.lo = 0) (hhi : f.hi = 31) (hf : f.addr ≠ (R.HIF_CNT_RX_VALUE h.port.val).addr) :
    s.Dropped h f ((s.received h).bump f) where
  received := (State.rd_bump_addr hf.symm).trans State.rd_received_count
  counted := by rw [State.bump, State.rd_count_word hlo hhi, State.rd_received hf]
  out := (congrArg Port.out (State.port_congr State.bump_ports)).trans State.port_received.1
  only q hq := ((State.bump_good (s.received h) f).step rfl State.received_good).same q (Part.mask_bit hq)

/-- The outcome of a packet that is heard on its session and answered without acceptance. -/
structure State.Answered (s : State) (h : Hdr) (t : State) : Prop where
  received : t.rd (R.HIF_CNT_RX_VALUE h.port.val) = min 0xFFFFFFFF (s.rd (R.HIF_CNT_RX_VALUE h.port.val) + 1)
  session : t.session h.sess = { s.session h.sess with lastRx := (s.atRaw h.t).tm.raw, phase := .opened }
  only : ∀ q, q ∉ [Part.tm, .regs, .ports, .sessions] → Part.same q s t

theorem State.session_heard : (s.heard i).session i = { s.session i with lastRx := s.tm.raw, phase := .opened } := by
  rw [State.heard, State.session_setSession, if_pos rfl]

theorem State.rd_heard : (s.heard i).rd f = s.rd f := State.rd_congr rfl rfl

theorem State.tm_received : (s.received h).tm = (s.atRaw h.t).tm := by
  rw [State.received, State.bump_tm]
  exact (State.takeInbound_good _ _).same .tm rfl

theorem State.answered_heard : s.Answered h ((s.received h).heard h.sess) where
  received := State.rd_heard.trans State.rd_received_count
  session := by rw [State.session_heard, State.session_received, State.tm_received]
  only q hq := ((State.heard_good _ _).step rfl (State.received_good.step rfl Good.refl)).same q (Part.mask_bit hq)

/-- What is sent without acceptance leaves every session as it was. -/
theorem State.reply_unaccepted_sessions {o q : Nat} {st : Status} {data : List Byte} : (s.reply i o q st data false).sessions = s.sessions :=
  foldl_keeps State.sessions (fun b k => (State.enqueue_good b _ k).same .sessions rfl) _ _

/-- An operation on registers, ports and the queues of packets keeps the outcome. -/
theorem State.Answered.then {t v : State} {W : Nat} (ht : s.Answered h t) (hv : Good W t v)
    (hW : ∀ q, q ∉ [Part.tm, .regs, .ports, .sessions] → W.testBit q.idx = false) (hs : v.sessions = t.sessions)
    (hr : v.rd (R.HIF_CNT_RX_VALUE h.port.val) = t.rd (R.HIF_CNT_RX_VALUE h.port.val)) : s.Answered h v where
  received := hr.trans ht.received
  session := (State.session_congr hs).trans ht.session
  only q hq := Part.same_trans (ht.only q hq) (hv.same q (hW q hq))

theorem State.Answered.reply {t : State} {o q : Nat} {st : Status} {data : List Byte} (ht : s.Answered h t) :
    s.Answered h (t.reply i o q st data false) :=
  ht.then (State.reply_good _ _ _ _ _ _ _) (fun _ hq => Part.mask_bit (ps := [.sessions, .ports]) (by simp_all)) State.reply_unaccepted_sessions
    State.rd_reply

theorem State.Answered.enqueue {t : State} {k : Packet} (ht : s.Answered h t) : s.Answered h (t.enqueue p k) :=
  ht.then (State.enqueue_good _ _ _) (fun _ hq => Part.mask_bit (ps := [.ports]) (by simp_all)) ((State.enqueue_good _ _ _).same .sessions rfl)
    (State.rd_congr ((State.enqueue_good _ _ _).same .regs rfl) ((State.enqueue_good _ _ _).same .straps rfl))

theorem State.Answered.bump {t : State} (ht : s.Answered h t) (hf : f.addr ≠ (R.HIF_CNT_RX_VALUE h.port.val).addr) : s.Answered h (t.bump f) :=
  ht.then (State.bump_good _ _) (fun _ hq => Part.mask_bit (ps := [.regs]) (by simp_all)) State.bump_sessions (State.rd_bump_addr hf.symm)

/-- A packet that is counted at `f` and answered: the counter is one up in the state that has answered. -/
theorem State.rd_heard_bump_reply {o q : Nat} {st : Status} {data : List Byte} (hlo : f.lo = 0) (hhi : f.hi = 31)
    (hf : f.addr ≠ (R.HIF_CNT_RX_VALUE h.port.val).addr) :
    ((((s.received h).heard i).bump f).reply i o q st data false).rd f = min 0xFFFFFFFF (s.rd f + 1) := by
  rw [State.rd_reply, State.bump, State.rd_count_word hlo hhi, State.rd_heard, State.rd_received hf]

end

/-- Settles O10: every step that decides has its equation of `hear`, and what it leaves is `Dropped` or `Answered`. -/
theorem receptionSteps : Obligations.ReceptionSteps := by
  intro s h d chk run
  dsimp only
  have drop (f : Fld) (hd : s.hear h d = .done ((s.received h).bump f)) (hlo : f.lo = 0) (hhi : f.hi = 31)
      (hf : f.addr ≠ (R.HIF_CNT_RX_VALUE h.port.val).addr) : s.Dropped h f (s.receive h d chk run) := by
    rw [State.receive_done hd]
    exact State.dropped_bump hlo hhi hf
  refine ⟨fun he => State.receive_done (State.hear_disabled he), fun he => ⟨fun hf => ?_, fun hf => ?_, fun hf hx => ?_, fun hf h8 ho hp => ?_⟩⟩
  · obtain ⟨hr, hc, hq, hs⟩ := drop _ (State.hear_badFrame he hf) rfl rfl (by simp [R.HIF_CNT_FRAME_VALUE, R.HIF_CNT_RX_VALUE])
    exact ⟨hr, hc, hq, hs⟩
  · obtain ⟨hr, hc, hq, hs⟩ := drop _ (State.hear_badCrc he hf) rfl rfl (by simp [R.HIF_CNT_CRC_VALUE, R.HIF_CNT_RX_VALUE])
    exact ⟨hr, hc, hq, hs⟩
  · obtain ⟨hr, hc, hq, hs⟩ := drop _ (State.hear_noSession he hf hx) rfl rfl (by simp [R.HIF_CNT_NOSESS_VALUE, R.HIF_CNT_RX_VALUE])
    exact ⟨hr, hc, hq, hs⟩
  · have kept {t : State} (ha : s.Answered h t) := And.intro ha.received <|
      And.intro (congrArg Session.lastSeq ha.session) <| And.intro (congrArg Session.cache ha.session) <|
      And.intro (congrArg Session.phase ha.session) <| And.intro (congrArg Session.lastRx ha.session) ha.only
    have heard : ((s.received h).heard h.sess).session h.sess = _ := State.answered_heard.session
    refine ⟨fun ht => ?_, fun ht => ⟨fun hb => ?_, fun hb => ⟨fun hv => ?_, fun hma hmi => ⟨fun k hk => ?_, fun hn hl hc => ?_, fun hn hl hc => ?_, fun hn hl => ?_⟩⟩⟩⟩
    · obtain ⟨hr, hc, hq, hs⟩ := drop _ (State.hear_badTag he hf h8 ho hp ht) rfl rfl (by simp [R.HIF_CNT_AUTH_VALUE, R.HIF_CNT_RX_VALUE])
      exact ⟨hr, hc, hq, hs⟩
    · obtain ⟨l, hl⟩ := Option.isSome_iff_exists.1 hb
      rw [State.receive_done (State.hear_running he hf h8 ho hp ht hl)]
      have hf : (R.HIF_CNT_BUSY_VALUE h.port.val).addr ≠ (R.HIF_CNT_RX_VALUE h.port.val).addr := by simp [R.HIF_CNT_BUSY_VALUE, R.HIF_CNT_RX_VALUE]
      exact ⟨State.rd_heard_bump_reply rfl rfl hf, kept (State.answered_heard.bump hf).reply⟩
    · rw [State.receive_done (State.hear_version he hf h8 ho hp ht hb hv)]
      exact kept State.answered_heard.reply
    · rw [State.receive_done (State.hear_cached he hf h8 ho hp ht hb hma hmi hk)]
      exact ⟨kept State.answered_heard.enqueue, rfl⟩
    · have hear := State.hear_uncached he hf h8 ho hp ht hb hma hmi hn
      rw [hl, hc, if_neg Bool.false_ne_true, if_neg Bool.false_ne_true] at hear
      rw [State.receive_done hear]
      have hf : (R.HIF_CNT_STALE_VALUE h.port.val).addr ≠ (R.HIF_CNT_RX_VALUE h.port.val).addr := by simp [R.HIF_CNT_STALE_VALUE, R.HIF_CNT_RX_VALUE]
      exact ⟨State.rd_heard_bump_reply rfl rfl hf, kept (State.answered_heard.bump hf).reply⟩
    · have hear := State.hear_uncached he hf h8 ho hp ht hb hma hmi hn
      rw [hl, hc, if_neg Bool.false_ne_true, if_pos rfl] at hear
      exact ⟨_, hear, by rw [heard], by rw [heard], by rw [heard]⟩
    · have hear := State.hear_uncached he hf h8 ho hp ht hb hma hmi hn
      rw [hl, if_pos rfl] at hear
      have hx : (((s.received h).heard h.sess).accept h.sess h).session h.sess =
          { ((s.received h).heard h.sess).session h.sess with lastSeq := h.seq.toNat } := by rw [State.accept, State.session_setSession, if_pos rfl]
      exact ⟨_, hear, by rw [hx], by rw [hx, heard], by rw [hx, heard]⟩

end Sys2Proof.Machine
end

section
/-! PROOFS. The commands of the AES67 streams (R262, R263, R266, R267): the words of a context wait for their block beside the maps that read back at once. -/

-- One proof at a time: the package as one text then takes less memory.
set_option Elab.async false

namespace Sys2Proof.Machine

open Sys2Proof

section
variable {s a : State} {h : Hdr} {f : Fld} {i b c k n p : Nat}

/-! ### Registers of the streams, beside those of the ports (R236, R239) -/

/-- The registers of the stream engine that a commit leaves: above those of the ports, below those of the Cellar. -/
@[reducible] def Fld.ofStreams (f : Fld) : Prop := 0x40480000 ≤ f.addr ∧ f.addr < 0x40500000

theorem State.rd_raiseMaxlen (hp : p ≤ 1) (hf : Fld.ofStreams f) : (s.raiseMaxlen p n).rd f = s.rd f := by
  unfold State.raiseMaxlen
  split
  · exact State.rd_wr_addr (by simp only [R.MAC_MAXLEN_MAXLEN]; omega)
  · rfl

theorem State.rd_streamConfigured (hf : Fld.ofStreams f) : s.configured.rd f = s.rd f :=
  State.rd_queueBulk.trans (State.rd_afterCommit (hf.2.trans (by decide)) (Nat.ne_of_lt (hf.2.trans (by decide))))

/-! ### STREAM_RX_SET (R263, R266) -/

section
variable {q : RxSet} {x : BitVec 8 × BitVec 8}

/-- The words of a receive context, in the order in which the command writes them. -/
def RxSet.words (q : RxSet) (x : BitVec 8 × BitVec 8) : List (Nat × Nat) :=
  [((R.STR_RX_W0_w q.ctx.toNat).addr, RxSet.word q x), ((R.STR_RX_W1_DST q.ctx.toNat).addr, q.dst.toNat), ((R.STR_RX_W2_SRC q.ctx.toNat).addr, q.src.toNat),
   ((R.STR_RX_W3_w q.ctx.toNat).addr, q.dport.toNat), ((R.STR_RX_W4_SSRC q.ctx.toNat).addr, q.ssrc.toNat), ((R.STR_RX_W5_TS_OFS q.ctx.toNat).addr, q.tsOfs.toNat)]

theorem RxSet.nodup_words : ((RxSet.words q x).map Prod.fst).Nodup := by
  simp [RxSet.words, R.STR_RX_W0_w, R.STR_RX_W1_DST, R.STR_RX_W2_SRC, R.STR_RX_W3_w, R.STR_RX_W4_SSRC, R.STR_RX_W5_TS_OFS]

/-- Beside its words, a receive context touches registers alone. -/
theorem State.acceptRx_good_regsAt : Good 1 (s.regsAt b (RxSet.words q x)) (s.acceptRx q x b) := by
  change Good 1 _ (if _ then State.enterGroup (if _ then State.fitMaxlen (s.regsAt b (RxSet.words q x)) _ _ else _) _ _ else
    (if _ then State.fitMaxlen (s.regsAt b (RxSet.words q x)) _ _ else _))
  have hfit (p n : Nat) : Good 1 (s.regsAt b (RxSet.words q x)) (if q.en then (s.regsAt b (RxSet.words q x)).fitMaxlen p n else s.regsAt b (RxSet.words q x)) :=
    Good.ite (State.fitMaxlen_good _ _ _) Good.refl
  exact Good.ite ((hfit _ _).trans (State.enterGroup_good _ _ _)) (hfit _ _)

theorem State.mem_sched_acceptRx {v : Nat} (hw : (c, v) ∈ RxSet.words q x) : ⟨b, .reg c v⟩ ∈ (s.acceptRx q x b).configured.sched := by
  rw [State.sched_configured, State.acceptRx_good_regsAt.same .sched rfl]
  exact State.mem_sched_regsAt RxSet.nodup_words hw

end

theorem exec_streamRxSet {q : RxSet} (ht : s.takes h (op 0x0501 2 0 .other) i a) (hl : lenIs h 36 = true) (ho : a.ownsSc i q.ctx.toNat = true)
    (hc : (a.acceptRx q (RxSet.format q) a.effectBlock).portCommit
      (firstBad [RxSet.status q, (a.acceptRx q (RxSet.format q) a.effectBlock).rxCommit q.ctx.toNat]) = .ok) :
    exec (.streamRxSet h q) s = .next ((a.acceptRx q (RxSet.format q) a.effectBlock).configured.reply i 0x0501 h.seq.toNat .ok
      (formatReply (RxSet.format q)) true) :=
  congrArg _ (State.receive_untimed ht rfl (by rw [hl, ho, hc]) rfl)

/-! ### STREAM_TX_SET (R267) -/

section
variable {q : TxSet} {x : BitVec 8 × BitVec 8} {o : BitVec 16}

/-- The words of a transmit context, in the order in which the command writes them. -/
def TxSet.words (q : TxSet) (x : BitVec 8 × BitVec 8) : List (Nat × Nat) :=
  let c := q.ctx.toNat - 128
  [((R.STR_TX_W0_w c).addr, TxSet.word q x), ((R.STR_TX_W1_DST c).addr, q.dst.toNat),
   ((R.STR_TX_W2_PORTS_UDP c).addr, 65536 * q.sport.toNat + q.dport.toNat), ((R.STR_TX_W3_SSRC c).addr, q.ssrc.toNat), ((R.STR_TX_W4_TS_OFS c).addr, q.tsOfs.toNat),
   ((R.STR_TX_W5_w c).addr, 65536 * q.tci.toNat + 256 * q.ttl.toNat + 4 * q.dscp.toNat), ((R.STR_TX_W6_DMAC c).addr, q.dmac.toNat % 2 ^ 32),
   ((R.STR_TX_W7_w c).addr, q.dmac.toNat / 2 ^ 32)]

theorem TxSet.nodup_words : ((TxSet.words q x).map Prod.fst).Nodup := by
  simp [TxSet.words, R.STR_TX_W0_w, R.STR_TX_W1_DST, R.STR_TX_W2_PORTS_UDP, R.STR_TX_W3_SSRC, R.STR_TX_W4_TS_OFS, R.STR_TX_W5_w, R.STR_TX_W6_DMAC, R.STR_TX_W7_w]

/-- One entry of the map of a transmit context. -/
def State.txEntry (c b : Nat) (outs : List (BitVec 16)) (s : State) (j : Nat) : State :=
  s.mapAt b (R.STR_TXMAP_EN c j) (R.STR_TXMAP_OUTPUT c j) (outs.getD j 0xFFFF#16)

/-- A transmit context before the lengths of its ports are fitted. -/
def State.txMapped (s : State) (q : TxSet) (x : BitVec 8 × BitVec 8) (b : Nat) : State :=
  (List.range q.outs.length).foldl (State.txEntry (q.ctx.toNat - 128) b q.outs) (s.regsAt b (TxSet.words q x))

/-- The fitting of the ports touches none of the registers of the streams. -/
theorem State.acceptTx_fits : Good 1 (s.txMapped q x b) (s.acceptTx q x b) ∧
    ∀ f : Fld, Fld.ofStreams f → (s.acceptTx q x b).rd f = (s.txMapped q x b).rd f := by
  have fits (u : State) (p n : Nat) (e : Bool) (hp : p ≤ 1) : Good 1 u (if e then u.fitMaxlen p n else u) ∧
      ∀ f : Fld, Fld.ofStreams f → (if e then u.fitMaxlen p n else u).rd f = u.rd f := by
    cases e
    · exact ⟨Good.refl, fun _ _ => rfl⟩
    · exact ⟨State.fitMaxlen_good _ _ _, fun _ hf => State.rd_raiseMaxlen hp hf⟩
  obtain ⟨hg0, hr0⟩ := fits (s.txMapped q x b) 0 (packetBytes q.outs.length x + (if q.insTag then 62 else 58)) (q.en && q.mac0) (by decide)
  obtain ⟨hg1, hr1⟩ := fits _ 1 (packetBytes q.outs.length x + (if q.insTag then 62 else 58)) (q.en && q.mac1) (by decide)
  exact ⟨hg0.trans hg1, fun f hf => (hr1 f hf).trans (hr0 f hf)⟩

theorem State.mem_sched_acceptTx {v : Nat} (hw : (c, v) ∈ TxSet.words q x) : ⟨b, .reg c v⟩ ∈ (s.acceptTx q x b).configured.sched := by
  rw [State.sched_configured, State.acceptTx_fits.1.same .sched rfl]
  exact List.foldlRecOn (motive := fun u : State => ⟨b, .reg c v⟩ ∈ u.sched) _ _ (State.mem_sched_regsAt TxSet.nodup_words hw)
    fun _ hu _ _ => State.mem_sched_mapAt rfl hu

/-- OUTPUT of an entry that names an output. -/
theorem State.rd_mapAt_output {en out : Fld} (hne : o.toNat ≠ 0xFFFF) (hf : out.lo ≤ out.hi) (ho : o.toNat < 2 ^ (out.hi - out.lo + 1)) :
    (s.mapAt k en out o).rd out = o.toNat := by
  rw [State.mapAt, if_neg hne, State.rd_wrAt_self hf, Nat.mod_eq_of_lt ho]

theorem ofStreams_txmap (hc : c < 128) (hk : k < 64) : Fld.ofStreams (R.STR_TXMAP_EN c k) ∧ Fld.ofStreams (R.STR_TXMAP_OUTPUT c k) := by
  simp only [Fld.ofStreams, R.STR_TXMAP_EN, R.STR_TXMAP_OUTPUT]
  omega

/-- The entries of the map read back: an entry is written once, in its step of the loop. -/
theorem State.acceptTx_map (ho : q.outs[k]? = some o) (hn : q.outs.length ≤ 64) (hout : o.toNat ≠ 0xFFFF → o.toNat < 1024) :
    let r : State := (s.acceptTx q x b).configured
    r.on (R.STR_TXMAP_EN (q.ctx.toNat - 128) k) = decide (o.toNat ≠ 0xFFFF) ∧
      (o.toNat ≠ 0xFFFF → r.rd (R.STR_TXMAP_OUTPUT (q.ctx.toNat - 128) k) = o.toNat) := by
  obtain ⟨hk, -⟩ := List.getElem?_eq_some_iff.1 ho
  obtain ⟨hen, hou⟩ := ofStreams_txmap (c := q.ctx.toNat - 128) (k := k) (by have := q.ctx.isLt; omega) (hk.trans_le hn)
  have hbe : Fld.beside (R.STR_TXMAP_EN (q.ctx.toNat - 128) k) (R.STR_TXMAP_OUTPUT (q.ctx.toNat - 128) k) := by
    simp [Fld.beside, R.STR_TXMAP_EN, R.STR_TXMAP_OUTPUT]
  have hother (u : State) (j : Nat) (hj : j ≠ k) (g : Fld) (hg : g.addr = 0x40488000 + 256 * (q.ctx.toNat - 128) + 4 * k) :
      (State.txEntry (q.ctx.toNat - 128) b q.outs u j).rd g = u.rd g :=
    State.rd_mapAt_addr (by simp only [R.STR_TXMAP_EN, hg]; omega) (by simp only [R.STR_TXMAP_OUTPUT, hg]; omega)
  have hself : q.outs.getD k 0xFFFF#16 = o := by rw [List.getD_eq_getElem?_getD, ho, Option.getD_some]
  refine ⟨?_, fun hne => ?_⟩
  · rw [State.on_of_rd ((State.rd_streamConfigured hen).trans (State.acceptTx_fits.2 _ hen))]
    refine foldl_range_sets (π := fun u : State => u.on _) hk (fun u => ?_) fun u j hj => State.on_of_rd (hother u j hj _ rfl)
    rw [State.txEntry, hself]
    exact State.on_mapAt rfl hbe
  · rw [State.rd_streamConfigured hou, State.acceptTx_fits.2 _ hou]
    refine foldl_range_sets (π := fun u : State => u.rd _) hk (fun u => ?_) fun u j hj => hother u j hj _ rfl
    rw [State.txEntry, hself]
    exact State.rd_mapAt_output hne (Nat.zero_le _) (hout hne)

theorem State.portCommit_ok {st : Status} (hc : s.portCommit st = .ok) : st = .ok := by
  by_contra hne
  have hbad : firstBad [st, badUnless s.sourcesLegal] = st := by
    cases st with
    | ok => exact absurd rfl hne
    | _ => rfl
  rw [State.portCommit, hbad, State.thenCommit, if_neg hne] at hc
  exact hne hc

/-- A transmit context that passed its checks maps at most 64 channels, to outputs that exist. -/
theorem State.txStatus_ok (hs : s.txStatus q = .ok) : q.outs.length ≤ 64 ∧ ∀ o ∈ q.outs, o.toNat ≠ 0xFFFF → o.toNat < 1024 := by
  have hall := eq_ok_of_firstBad hs
  constructor
  · have hlen := hall (if q.outs.length ≤ 64 then .ok else .limit) (by simp)
    by_contra hgt
    rw [if_neg hgt] at hlen
    cases hlen
  · intro o ho hne
    have hmap := hall (s.mapStatus o) (List.mem_append_right _ (List.mem_map.2 ⟨o, ho, rfl⟩))
    rw [State.mapStatus, if_neg hne, State.outId] at hmap
    by_contra hge
    rw [if_pos (by omega)] at hmap
    cases hmap

end

theorem exec_streamTxSet {q : TxSet} (ht : s.takes h (op 0x0502 2 0 .other) i a) (hl : lenIs h (44 + 2 * q.outs.length) = true)
    (ho : a.ownsSc i q.ctx.toNat = true) (hc : (a.acceptTx q (TxSet.format q) a.effectBlock).portCommit (a.txStatus q) = .ok) :
    exec (.streamTxSet h q) s = .next ((a.acceptTx q (TxSet.format q) a.effectBlock).configured.reply i 0x0502 h.seq.toNat .ok
      (formatReply (TxSet.format q)) true) :=
  congrArg _ (State.receive_untimed ht rfl (by rw [hl, ho, hc]) rfl)

end

/-- Settles O30: the words of a context are written one after the other to different registers, so all of them wait; the map is written at once, and what
follows it, the lengths of the ports and the end of the commit, touches other registers. -/
theorem streamCommands : Obligations.StreamCommands := by
  unfold Obligations.StreamCommands
  refine ⟨fun s a h i q ht hl ho hc => ⟨_, exec_streamRxSet ht hl ho hc, ?_⟩, fun s a h i q ht hl ho hc => ⟨_, exec_streamTxSet ht hl ho hc, ?_⟩⟩
  · have waits {c v : Nat} (hw : (c, v) ∈ RxSet.words q (RxSet.format q)) := State.mem_sched_acceptRx (s := a) (b := a.effectBlock) hw
    have hg := State.acceptRx_good a q (RxSet.format q) a.effectBlock
    exact ⟨waits (by simp [RxSet.words]), waits (by simp [RxSet.words]), waits (by simp [RxSet.words]), waits (by simp [RxSet.words]),
      waits (by simp [RxSet.words]), waits (by simp [RxSet.words]), (State.queueBulk_srx.trans State.afterCommit_srx).trans (hg.same .srx rfl),
      State.live_configured.trans (hg.same .live rfl)⟩
  · have waits {c v : Nat} (hw : (c, v) ∈ TxSet.words q (TxSet.format q)) := State.mem_sched_acceptTx (s := a) (b := a.effectBlock) hw
    have hg := State.acceptTx_good a q (TxSet.format q) a.effectBlock
    obtain ⟨hlen, hout⟩ := State.txStatus_ok (State.portCommit_ok hc)
    exact ⟨waits (by simp [TxSet.words]), waits (by simp [TxSet.words]), waits (by simp [TxSet.words]), waits (by simp [TxSet.words]),
      fun k o hk => State.acceptTx_map hk hlen (hout o (List.mem_of_getElem? hk)), (State.queueBulk_stx.trans State.afterCommit_stx).trans (hg.same .stx rfl),
      State.live_configured.trans (hg.same .live rfl)⟩

end Sys2Proof.Machine
end

section
/-! PROOFS. The commands of the time unit (R256, R258, R260, R261, R312): what each writes, and what stays. -/

-- One proof at a time: the package as one text then takes less memory.
set_option Elab.async false

namespace Sys2Proof.Machine

open Sys2Proof

section
variable {s a : State} {h : Hdr} {i p d n : Nat} {q : TimeReq} {xs : List (BitVec 16 × BitVec 16)}

/-! ### TIME_CONFIG (R256, R258, R261) -/

/-- The addresses of the time unit below its latency constants: those of its control, its counters and its servo. -/
@[reducible] def BelowLats (b : Nat) : Prop := b < (R.TSU_LAT_TX_L_TX 0).addr

theorem State.SameRegs.loadLat : s.SameRegs BelowLats (s.loadLat p) :=
  State.SameRegs.trans (.wr (Nat.not_lt_of_le (Nat.le_add_right _ _))) (.wr (Nat.not_lt_of_le (le_trans (by decide) (Nat.le_add_right (R.TSU_LAT_RX_L_RX 0).addr _))))

/-- The added latencies of the three ports, as TIME_CONFIG gives them. -/
def addedLats (xs : List (BitVec 16 × BitVec 16)) : List (Nat × Nat) :=
  (List.range 3).map (fun p => ((xs.getD p (0#16, 0#16)).1.toNat, (xs.getD p (0#16, 0#16)).2.toNat))

theorem State.SameRegs.setLats : s.SameRegs BelowLats (s.setLats xs) :=
  have hptp : s.SameRegs BelowLats { s with ptp := { s.ptp with lat := addedLats xs } } := .of_eq rfl rfl
  hptp.trans (State.SameRegs.loadLat.trans (State.SameRegs.loadLat.trans .loadLat))

theorem State.SameRegs.enterGroup : s.SameRegs BelowLats (s.enterGroup p d) := by
  unfold State.enterGroup
  dsimp only
  split
  · exact .refl
  split
  · exact State.SameRegs.trans (.wr (by simp only [BelowLats, R.TSU_LAT_TX_L_TX, R.MAC_MC_W0_ADDR_LO]; omega))
      (State.SameRegs.trans (.wr (by simp only [BelowLats, R.TSU_LAT_TX_L_TX, R.MAC_MC_W1_ADDR_HI]; omega))
        (.wr (by simp only [BelowLats, R.TSU_LAT_TX_L_TX, R.MAC_MC_W1_EN]; omega)))
  · exact .refl

theorem State.SameRegs.ptpGroups : s.SameRegs BelowLats s.ptpGroups := by
  have enters (u : State) (c : Prop) [Decidable c] (p d : Nat) : u.SameRegs BelowLats (if c then u.enterGroup p d else u) := by
    split
    · exact .enterGroup
    · exact .refl
  exact (enters _ _ _ _).trans (enters _ _ _ _)

theorem State.ptp_setLats : (s.setLats xs).ptp = { s.ptp with lat := addedLats xs } := by
  unfold State.setLats
  rw [(State.loadLat_good _ _).same .ptp rfl, (State.loadLat_good _ _).same .ptp rfl, (State.loadLat_good _ _).same .ptp rfl]
  rfl

/-- The registers of the time unit that TIME_CONFIG gives. -/
def State.timeRegs (s : State) (q : TimeReq) : State :=
  let s := (s.wr R.TSU_CTRL_QUAL_ONE (b2n q.qualOne)).wr R.TSU_CTRL_PPS_OUT_EN (b2n q.pps)
  let s := if s.on R.TSU_CTRL_LOCK then s else s.wr R.TSU_LINK_OFS_VALUE q.linkOfs.toNat
  let s := (s.wr R.TSU_SERVO_KP_VALUE q.kp.toNat).wr R.TSU_SERVO_KI_VALUE q.ki.toNat
  let s := (s.wr R.TSU_SERVO_LIM_RATE_MAX q.rateMax.toNat).wr R.TSU_SERVO_LIM_HOLD_TO q.holdTo.toNat
  (s.wr R.TSU_SERVO_THR_VALUE q.lockThr.toNat).wr R.TSU_STEP_THR_VALUE q.stepThr.toNat

/-- The profile, the ports and the added latencies of TIME_CONFIG. -/
def TimeReq.ptp (q : TimeReq) : Ptp :=
  ⟨q.profile.toNat, q.domain.toNat, q.master, q.layer2, q.primary.toNat, q.backup.toNat, q.primary.toNat, addedLats q.lat⟩

/-- The ports and the profile that TIME_CONFIG gives, with the latencies there were. -/
def State.timePorts (s : State) (q : TimeReq) : State := { s with ptp := { TimeReq.ptp q with lat := s.ptp.lat } }

theorem State.acceptTime_eq : s.acceptTime q = (((s.timePorts q).timeRegs q).setLats q.lat).ptpGroups := rfl

theorem State.rd_acceptTime {f : Fld} (hf : BelowLats f.addr) : (s.acceptTime q).configured.rd f = ((s.timePorts q).timeRegs q).rd f := by
  have hlats : f.addr < 0x40300080 := hf
  rw [State.configured, State.rd_queueBulk, State.rd_afterCommit (hlats.trans (by decide)) (Nat.ne_of_lt (hlats.trans (by decide))), State.acceptTime_eq]
  exact (State.SameRegs.trans .setLats .ptpGroups).rd hf

/-- The fields of the time unit read back, as each fits its register. -/
theorem State.rd_timeRegs (hq : TimeReq.status q = .ok) :
    let r : State := s.timeRegs q
    r.on R.TSU_CTRL_QUAL_ONE = q.qualOne ∧ r.on R.TSU_CTRL_PPS_OUT_EN = q.pps ∧
      r.rd R.TSU_LINK_OFS_VALUE = (if s.on R.TSU_CTRL_LOCK then s.rd R.TSU_LINK_OFS_VALUE else q.linkOfs.toNat) ∧
      r.rd R.TSU_SERVO_KP_VALUE = q.kp.toNat ∧ r.rd R.TSU_SERVO_KI_VALUE = q.ki.toNat ∧ r.rd R.TSU_SERVO_LIM_RATE_MAX = q.rateMax.toNat ∧
      r.rd R.TSU_SERVO_LIM_HOLD_TO = q.holdTo.toNat ∧ r.rd R.TSU_SERVO_THR_VALUE = q.lockThr.toNat ∧ r.rd R.TSU_STEP_THR_VALUE = q.stepThr.toNat := by
  have hrate : q.rateMax.toNat < 1024 := of_decide_eq_true (of_badUnless (eq_ok_of_firstBad hq (badUnless (q.rateMax.toNat < 1024)) (by simp)))
  have hlock : ((s.wr R.TSU_CTRL_QUAL_ONE (b2n q.qualOne)).wr R.TSU_CTRL_PPS_OUT_EN (b2n q.pps)).on R.TSU_CTRL_LOCK = s.on R.TSU_CTRL_LOCK := by
    rw [State.on_wr_apart (by decide), State.on_wr_apart (by decide)]
  unfold State.timeRegs
  dsimp only
  rw [hlock]
  have hkp {u : State} := State.rd_wr_of_lt (s := u) (f := R.TSU_SERVO_KP_VALUE) (by decide) q.kp.isLt
  have hki {u : State} := State.rd_wr_of_lt (s := u) (f := R.TSU_SERVO_KI_VALUE) (by decide) q.ki.isLt
  have hmax {u : State} := State.rd_wr_of_lt (s := u) (f := R.TSU_SERVO_LIM_RATE_MAX) (by decide) hrate
  have hto {u : State} := State.rd_wr_of_lt (s := u) (f := R.TSU_SERVO_LIM_HOLD_TO) (by decide) q.holdTo.isLt
  have hthr {u : State} := State.rd_wr_of_lt (s := u) (f := R.TSU_SERVO_THR_VALUE) (by decide) q.lockThr.isLt
  have hstep {u : State} := State.rd_wr_of_lt (s := u) (f := R.TSU_STEP_THR_VALUE) (by decide) q.stepThr.isLt
  have hofs {u : State} := State.rd_wr_of_lt (s := u) (f := R.TSU_LINK_OFS_VALUE) (by decide) q.linkOfs.isLt
  cases s.on R.TSU_CTRL_LOCK
  all_goals
    simp (disch := decide) only [State.rd_wr_apart, State.on_wr_apart, State.on_wr_b2n, if_true, if_false, Bool.false_eq_true, hkp, hki, hmax, hto, hthr,
      hstep, hofs, and_self]

/-- TIME_CONFIG leaves the clocks and the corrections as they are. -/
theorem State.tm_acceptTime : (s.acceptTime q).configured.tm = s.tm :=
  (State.queueBulk_tm.trans State.afterCommit_tm).trans ((State.acceptTime_good s q).same .tm rfl)

theorem State.ptp_acceptTime : (s.acceptTime q).configured.ptp = TimeReq.ptp q := by
  have hlats : ((s.timePorts q).timeRegs q).ptp = { TimeReq.ptp q with lat := s.ptp.lat } := by
    unfold State.timeRegs
    dsimp only
    split
    · rfl
    · rfl
  rw [State.configured, State.queueBulk_ptp, State.afterCommit_ptp, State.acceptTime_eq, (State.ptpGroups_good _).same .ptp rfl, State.ptp_setLats, hlats]
  rfl

theorem exec_timeConfig (ht : s.takes h (op 0x0801 2 0 .other) i a) (hl : lenIs h 44 = true) (hcls : (a.session i).cls = 0)
    (hq : TimeReq.status q = .ok) (hc : a.commitStatus = .ok) :
    exec (.timeConfig h q) s = .next ((a.acceptTime q).configured.reply i 0x0801 h.seq.toNat .ok [] true) := by
  refine congrArg _ (State.receive_untimed ht rfl ?_ rfl)
  rw [hl, State.classAtMost, hcls, State.thenCommit, if_pos hq, hc]
  rfl

/-! ### TIME_STATUS and SCHEDULE_EVENT (R260, R312) -/

theorem State.length_timeStatus : s.timeStatus.length = 40 := by simp [State.timeStatus, length_leBytes]

theorem exec_timeStatus (ht : s.takes h (op 0x0802 2 0 .query) i a) (hl : lenIs h 0 = true) :
    exec (.timeStatus h) s = .next (a.fresh.reply i 0x0802 h.seq.toNat .ok a.timeStatus true) :=
  congrArg _ (State.receive_untimed ht rfl (by rw [hl]) rfl)

/-- An action that waits for its presentation time. -/
def State.scheduled (s : State) (x : TimedAct) : State := { s with acts := s.acts ++ [x] }

theorem exec_scheduleEvent {action gpio : BitVec 8} {tag : BitVec 32} (ht : s.takes h ⟨0x0803, (2, 0), .within, false, .other⟩ i a)
    (hl : lenIs h 8 = true) (hcls : (a.session i).cls ≤ 1) (htimed : h.timed = true) (haction : action.toNat ≤ 2) (hgpio : gpio.toNat < 32)
    (hout : action ≠ 2#8 → a.gpioOut gpio.toNat = true) :
    exec (.scheduleEvent h action gpio tag) s = .next (((a.takePlace i (a.hdrDone h .within) h.timed).scheduled
      ⟨i, h.time, action.toNat, gpio.toNat, tag.toNat⟩).reply i 0x0803 h.seq.toNat .ok [] true) := by
  have hpin : (decide (action = 2#8) || a.gpioOut gpio.toNat) = true := by
    by_cases h2 : action = 2#8
    · rw [decide_eq_true h2, Bool.true_or]
    · rw [hout h2, Bool.or_true]
  refine congrArg _ (State.receive_placed ht ?_ rfl)
  rw [hl, htimed, State.classAtMost, decide_eq_true hcls, decide_eq_true haction, decide_eq_true hgpio, hpin]
  rfl

end

/-- Settles O35: the fields of the servo stand below the latency constants and the group addresses, which are all that follows them; the one register that
is not always written is the link offset, which LOCK holds. -/
theorem timeCommands : Obligations.TimeCommands := by
  unfold Obligations.TimeCommands
  refine ⟨fun s a h i q ht hl hcls hq hc => ⟨_, exec_timeConfig ht hl hcls hq hc, State.ptp_acceptTime, ?_⟩,
    fun s a h i ht hl => ⟨exec_timeStatus ht hl, State.length_timeStatus⟩,
    fun s a h i action gpio tag ht hl hcls htimed haction hgpio hout =>
      ⟨_, exec_scheduleEvent ht hl hcls htimed haction hgpio hout, ?_, State.takePlace_regs, State.takePlace_gpio⟩⟩
  · have hports : (a.timePorts q).rd R.TSU_LINK_OFS_VALUE = a.rd R.TSU_LINK_OFS_VALUE ∧ (a.timePorts q).on R.TSU_CTRL_LOCK = a.on R.TSU_CTRL_LOCK :=
      ⟨State.rd_congr rfl rfl, State.on_congr rfl rfl⟩
    obtain ⟨hqual, hpps, hofs, hkp, hki, hmax, hto, hthr, hstep⟩ := State.rd_timeRegs (s := a.timePorts q) hq
    rw [hports.1, hports.2] at hofs
    have reads {f : Fld} (hf : BelowLats f.addr) := State.rd_acceptTime (s := a) (q := q) hf
    exact ⟨(State.on_of_rd (reads (by decide))).trans hqual, (State.on_of_rd (reads (by decide))).trans hpps, (reads (by decide)).trans hofs,
      (reads (by decide)).trans hkp, (reads (by decide)).trans hki, (reads (by decide)).trans hmax, (reads (by decide)).trans hto,
      (reads (by decide)).trans hthr, (reads (by decide)).trans hstep, State.tm_acceptTime⟩
  · rw [State.scheduled, State.takePlace_acts]

end Sys2Proof.Machine
end

section
/-! PROOFS. What events and power channels leave: the registers below those of the audio ports, and the clock unit's. The mirror's commands (R318, R325). -/

-- One proof at a time: the package as one text then takes less memory.
set_option Elab.async false

namespace Sys2Proof.Machine

open Sys2Proof

section
variable {s t a : State} {f g : Fld} {h : Hdr} {P : Nat → Prop} {i k n v : Nat}

/-! ### Registers that an operation leaves, by its shape -/

theorem State.SameRegs.ite {c : Prop} [Decidable c] (h : s.SameRegs P t) : s.SameRegs P (if c then t else s) := by
  split
  · exact h
  · exact .refl

theorem State.SameRegs.when {c : Bool} {F : State → State} (h : s.SameRegs P (F s)) : s.SameRegs P (s.when c F) := .ite h

theorem State.SameRegs.foldl {α : Type} {F : State → α → State} (hF : ∀ u x, State.SameRegs P u (F u x)) (xs : List α) (s : State) :
    s.SameRegs P (xs.foldl F s) := by
  induction xs generalizing s with
  | nil => exact .refl
  | cons x xs ih => exact (hF s x).trans (ih _)

theorem State.SameRegs.foldl_range {F : State → Nat → State} (hF : ∀ u m, m < n → State.SameRegs P u (F u m)) (s : State) :
    s.SameRegs P ((List.range n).foldl F s) :=
  List.foldlRecOn (motive := s.SameRegs P) _ F .refl fun u hu m hm => hu.trans (hF u m (List.mem_range.mp hm))

theorem State.SameRegs.of_good {W : Nat} (h : Good W s t) (hr : W.testBit Part.regs.idx = false) (hs : W.testBit Part.straps.idx = false) :
    s.SameRegs P t := .of_eq (h.same .regs hr) (h.same .straps hs)

/-! ### Events, the Tally log and power channels -/

/-- The addresses that neither the audio ports and power stages hold nor the supply, the Tally and what lies above them: all below, and the clock unit's. -/
@[reducible] def Steady (b : Nat) : Prop := b < 0x50000000 ∨ (0x50050000 ≤ b ∧ b < 0x50060000)

theorem not_steady_of_le (h : 0x50060000 ≤ k) : ¬ Steady k := by unfold Steady; omega

/-- The words of a channel stand in the window of the power stages. -/
theorem not_steady_ps (hn : n < 24) (h1 : 0x50041000 ≤ k) (h2 : k < 0x50042000) : ¬ Steady (k + 256 * n) := by unfold Steady; omega

theorem State.SameRegs.setSession {x : Session} : s.SameRegs P (s.setSession i x) := .of_eq rfl rfl

theorem State.SameRegs.setPs {x : PsSt} : s.SameRegs P (s.setPs n x) := .of_eq rfl rfl

theorem State.SameRegs.pump : s.SameRegs P (s.pump n) := .of_good (State.pump_good _ _) rfl rfl

theorem State.SameRegs.eventTo {op : Nat} {data : List Byte} : s.SameRegs Steady (s.eventTo i op data) := by
  unfold State.eventTo
  dsimp only
  split
  · exact .refl
  split
  · exact State.SameRegs.setSession.trans .pump
  · exact State.SameRegs.setSession.trans (.bump (not_steady_of_le (le_trans (by decide) (Nat.le_add_right (R.HIF_CNT_EVT_LOST_VALUE 0).addr _))))

theorem State.SameRegs.evMirror : s.SameRegs Steady (s.evMirror k) := .foldl (fun _ _ => .eventTo) _ _

theorem State.SameRegs.evTime : s.SameRegs Steady (s.evTime k n) := .foldl (fun _ _ => .eventTo) _ _

theorem State.SameRegs.showLog (h : ¬ P R.TLY_LOG_HEAD_COUNT.addr) : s.SameRegs P s.showLog :=
  State.SameRegs.trans (.wr h) (.wr (f := R.TLY_LOG_HEAD_NEXT) h)

/-- The log writes its head and the count of what it lost. -/
theorem State.SameRegs.tallyLog_of {a b c d : Nat} (hl : ¬ P R.TLY_CNT_LOG_LOST_VALUE.addr) (hh : ¬ P R.TLY_LOG_HEAD_COUNT.addr) :
    s.SameRegs P (s.tallyLog a b c d) := by
  have hlog (u : State) (m : Nat) : u.SameRegs P (u.count R.TLY_CNT_LOG_LOST_VALUE m).showLog := (State.SameRegs.count hl).trans (.showLog hh)
  simp only [State.tallyLog]
  split
  · exact .refl
  · refine State.SameRegs.trans ?_ (hlog _ _)
    exact .of_eq rfl rfl

theorem State.SameRegs.tallyLog {a b c d : Nat} : s.SameRegs Steady (s.tallyLog a b c d) := .tallyLog_of (by decide) (by decide)

theorem State.SameRegs.lineEnd {l : LineTest} : s.SameRegs Steady (s.lineEnd l v) := by
  have hres (u : State) : u.SameRegs Steady (u.lineResult l.ch v) := .wr (not_steady_of_le (le_trans (by decide) (Nat.le_add_right (R.TLY_RES_RESULT 0).addr _)))
  have htly (u : State) (x : TlySt) : u.SameRegs Steady { u with tly := x } := .of_eq rfl rfl
  unfold State.lineEnd
  exact (State.SameRegs.setPs.trans ((hres _).trans .tallyLog)).trans (htly _ _)

theorem State.SameRegs.lineAbort : s.SameRegs Steady (s.lineAbort n) := by
  unfold State.lineAbort
  split
  · exact .ite (State.SameRegs.lineEnd.trans (.bump (by decide)))
  · exact .refl

theorem State.SameRegs.setPsState (hn : n < 24) : s.SameRegs Steady (s.setPsState n v) := .wr (not_steady_ps hn (by decide) (by decide))

theorem State.SameRegs.gatesLow (hn : n < 24) : s.SameRegs Steady (s.gatesLow n) := State.SameRegs.setPs.trans (.wr (not_steady_ps hn (by decide) (by decide)))

theorem State.SameRegs.psIdle (hn : n < 24) : s.SameRegs Steady (s.psIdle n) := by
  unfold State.psIdle
  split
  · exact .setPsState hn
  split
  · exact .setPsState hn
  · exact State.SameRegs.setPs.trans (.setPsState hn)

theorem State.SameRegs.psStart {half mirror : Bool} (hn : n < 24) : s.SameRegs Steady (s.psStart n half mirror) := by
  unfold State.psStart
  split
  · split
    · exact .refl
    · exact .psIdle hn
  · exact State.SameRegs.lineAbort.trans (State.SameRegs.setPs.trans ((State.SameRegs.setPsState hn).trans (.wr (not_steady_ps hn (by decide) (by decide)))))

theorem State.SameRegs.startAll {mirror : Bool} {which : State → Nat → Bool} : s.SameRegs Steady (s.startAll mirror which) := by
  refine .foldl_range (fun u n hn => ?_) _
  split
  · exact .refl
  split
  · exact .psIdle hn
  · exact .psStart hn

theorem State.SameRegs.holdChannels : s.SameRegs Steady s.holdChannels := by
  refine .foldl_range (fun u n hn => ?_) _
  split
  · exact .refl
  · exact State.SameRegs.lineAbort.trans ((State.SameRegs.gatesLow hn).trans (State.SameRegs.trans (.wr (not_steady_ps hn (by decide) (by decide)))
      (State.SameRegs.trans (.wr (not_steady_ps hn (by decide) (by decide))) (State.SameRegs.setPs.trans (.setPsState hn)))))

theorem State.SameRegs.standAlone : s.SameRegs Steady s.standAlone := by
  have hzero : s.SameRegs Steady s.zeroChains := .of_good (State.zeroChains_good s) rfl rfl
  have hstart : s.zeroChains.SameRegs Steady (s.zeroChains.startContexts s.nextBlock) := .of_good (State.startContexts_good _ _) rfl rfl
  simp only [State.standAlone]
  refine State.SameRegs.trans ?_ .startAll
  exact (hzero.trans hstart).trans (.of_eq rfl rfl)

/-! ### MIRROR_CONFIG (R318) -/

theorem State.SameRegs.arbStandby : (s.setRole roleStandby).SameRegs Steady s.arbStandby := State.SameRegs.holdChannels.trans .evMirror

theorem State.role_setRole (h : v < 8) : (s.setRole v).role = v := State.rd_wr_of_lt (by decide) h

theorem State.role_arbStandby : s.arbStandby.role = roleStandby := (State.SameRegs.arbStandby.rd (by decide)).trans (State.role_setRole (by decide))

theorem State.SameRegs.showPartner : (s.wr R.FLD_STATUS_PARTNER s.partnerState).SameRegs Steady s.showPartner := .ite .evMirror

theorem State.role_showPartner : s.showPartner.role = s.role :=
  (State.SameRegs.showPartner.rd (by decide)).trans (State.rd_wr_apart (by decide))

/-- EN written with the value it has. -/
theorem State.mirrorEnable_same {on : Bool} (h : on = s.on R.FLD_CTRL_EN) : s.mirrorEnable on = s.wr R.FLD_CTRL_EN (b2n on) := if_pos h

/-- A unit that starts mirroring, before it heeds FLD_ACTI: it arbitrates. -/
def State.arbitrates (s : State) : State :=
  (s.setRole roleArb).setMir { s.mir with releaseAt := s.tm.raw, waits := false }

/-- A unit that starts mirroring: STANDBY at once where FLD_ACTI is high. -/
def State.arbitrated (s : State) : State := if s.arbitrates.on R.FLD_STATUS_ACTI then s.arbitrates.arbStandby else s.arbitrates

theorem State.mirrorEnable_starts (h : s.on R.FLD_CTRL_EN = false) : s.mirrorEnable true = (s.wr R.FLD_CTRL_EN 1).arbitrated := by
  rw [State.mirrorEnable, h]
  exact if_neg Bool.true_eq_false_eq_False

/-- A unit that ends mirroring, before it renders alone. -/
def State.leavesPair (s : State) : State :=
  ((s.setRole roleSingle).setActo false).setMir { s.mir with partner := none, change := none }

theorem State.mirrorEnable_ends (h : s.on R.FLD_CTRL_EN = true) :
    s.mirrorEnable false = (s.wr R.FLD_CTRL_EN 0).leavesPair.showPartner.when s.standsBy State.standAlone := by
  rw [State.mirrorEnable, h]
  rfl

/-- The registers that the roles and the partner's state are not shown in. -/
@[reducible] def BesideRoles (b : Nat) : Prop := Steady b ∧ b ≠ R.FLD_STATUS_w.addr

theorem State.SameRegs.setRole : s.SameRegs BesideRoles (s.setRole v) := .wr (by decide)

theorem State.SameRegs.setMir {x : Mir} : s.SameRegs P (s.setMir x) := .of_eq rfl rfl

theorem State.SameRegs.beside (h : s.SameRegs Steady t) : s.SameRegs BesideRoles t := h.mono fun _ hb => hb.1

theorem State.SameRegs.arbitrates : s.SameRegs BesideRoles s.arbitrates := State.SameRegs.trans (t := s.setRole roleArb) .setRole .setMir

theorem State.SameRegs.arbitrated : s.SameRegs BesideRoles s.arbitrated :=
  State.SameRegs.arbitrates.trans (.ite (State.SameRegs.setRole.trans State.SameRegs.arbStandby.beside))

theorem State.SameRegs.leavesPair : s.SameRegs BesideRoles s.leavesPair :=
  State.SameRegs.trans (t := (s.setRole roleSingle).setActo false) (State.SameRegs.setRole.trans (.wr (by decide))) .setMir

theorem State.SameRegs.mirrorEnable {on : Bool} : (s.wr R.FLD_CTRL_EN (b2n on)).SameRegs BesideRoles (s.mirrorEnable on) := by
  by_cases h : on = s.on R.FLD_CTRL_EN
  · rw [State.mirrorEnable_same h]
    exact .refl
  cases on with
  | true =>
    rw [State.mirrorEnable_starts (Bool.eq_false_iff.mpr (Ne.symm h))]
    exact .arbitrated
  | false =>
    rw [State.mirrorEnable_ends (by simpa using h)]
    have hshow (u : State) : u.SameRegs BesideRoles u.showPartner := State.SameRegs.trans (.wr (by decide)) State.SameRegs.showPartner.beside
    exact State.SameRegs.leavesPair.trans ((hshow _).trans (.when State.SameRegs.standAlone.beside))

theorem State.arbStandby_mir : s.arbStandby.mir = s.mir := (State.arbStandby_good s).same .mir rfl

theorem State.role_arbitrates : s.arbitrates.role = roleArb :=
  (State.rd_congr rfl rfl : s.arbitrates.rd R.FLD_STATUS_ROLE = (s.setRole roleArb).rd R.FLD_STATUS_ROLE).trans (State.role_setRole (by decide))

theorem State.on_arbitrates_acti : s.arbitrates.on R.FLD_STATUS_ACTI = s.on R.FLD_STATUS_ACTI :=
  (State.on_congr rfl rfl : s.arbitrates.on R.FLD_STATUS_ACTI = (s.setRole roleArb).on R.FLD_STATUS_ACTI).trans (State.on_wr_apart (by decide))

theorem State.arbitrated_role : s.arbitrated.role = (if s.on R.FLD_STATUS_ACTI then roleStandby else roleArb) ∧ s.arbitrated.mir.releaseAt = s.tm.raw := by
  rw [State.arbitrated, State.on_arbitrates_acti]
  split
  · exact ⟨State.role_arbStandby, congrArg Mir.releaseAt State.arbStandby_mir⟩
  · exact ⟨State.role_arbitrates, rfl⟩

theorem State.role_leavesPair : s.leavesPair.role = roleSingle :=
  (State.rd_congr rfl rfl : s.leavesPair.rd R.FLD_STATUS_ROLE = ((s.setRole roleSingle).setActo false).rd R.FLD_STATUS_ROLE).trans
    ((State.rd_wr_apart (by decide)).trans (State.role_setRole (by decide)))

theorem State.role_mirrorEnable_starts (h : s.on R.FLD_CTRL_EN = false) :
    (s.mirrorEnable true).role = (if s.on R.FLD_STATUS_ACTI then roleStandby else roleArb) ∧ (s.mirrorEnable true).mir.releaseAt = s.tm.raw := by
  rw [State.mirrorEnable_starts h, ← State.on_wr_apart (s := s) (f := R.FLD_CTRL_EN) (v := 1) (by decide), ← State.wr_tm (s := s) (f := R.FLD_CTRL_EN) (v := 1)]
  exact State.arbitrated_role

theorem State.role_mirrorEnable_ends (h : s.on R.FLD_CTRL_EN = true) :
    (s.mirrorEnable false).role = roleSingle ∧ (s.mirrorEnable false).mir.partner = none ∧ (s.mirrorEnable false).mir.change = none := by
  rw [State.mirrorEnable_ends h]
  have hmir (u : State) (c : Bool) : (u.showPartner.when c State.standAlone).mir = u.mir := by
    rw [State.when]
    split
    · exact ((State.standAlone_good _).same .mir rfl).trans ((State.showPartner_good _).same .mir rfl)
    · exact (State.showPartner_good _).same .mir rfl
  rw [hmir]
  refine ⟨?_, rfl, rfl⟩
  exact ((State.SameRegs.when .standAlone).rd (by decide)).trans (State.role_showPartner.trans State.role_leavesPair)

theorem exec_mirrorConfig {en prefer : Bool} (ht : s.takes h (op 0x0901 2 0 .query) i a) (hl : lenIs h 4 = true) (hcls : (a.session i).cls = 0) :
    exec (.mirrorConfig h en prefer) s =
      .next (((a.wr R.FLD_CTRL_PREFER_ACTIVE (b2n prefer)).mirrorEnable en).reply i 0x0901 h.seq.toNat .ok [] true) :=
  congrArg _ (State.receive_untimed ht rfl (by rw [hl, State.classAtMost, hcls]; rfl) rfl)

/-! ### MIRROR_STATUS and MIRROR_SWITCHOVER (R318, R325) -/

theorem exec_mirrorSwitchover (ht : s.takes h (op 0x0903 2 0 .query) i a) (hl : lenIs h 0 = true) (hcls : (a.session i).cls = 0)
    (hrole : a.role = roleActive) (hpartner : a.rd R.FLD_STATUS_PARTNER = 2) :
    exec (.mirrorSwitchover h) s = .next ((a.setChange a.switchBlock true true).reply i 0x0903 h.seq.toNat .ok (leBytes 8 a.switchBlock) true) :=
  congrArg _ (State.receive_untimed ht rfl (by rw [hl, State.classAtMost, hcls, State.maySwitch, hrole, hpartner]; rfl) rfl)

theorem State.switchBlock_none (h : s.mir.change = none) : s.switchBlock = s.effectBlock + 2 := by rw [State.switchBlock, h]

theorem State.setChange_none {leaving byHandover : Bool} (h : s.mir.change = none) :
    s.setChange k leaving byHandover = s.setMir { s.mir with change := some ⟨k, leaving, byHandover⟩ } := by
  rw [State.setChange, h]
  rfl

end

/-- Settles O36: EN and PREFER stand in one register that nothing later writes; the role follows from whether EN changes, and FLD_ACTI is read before the
standby is entered. -/
theorem mirrorCommands : Obligations.MirrorCommands := by
  unfold Obligations.MirrorCommands
  refine ⟨fun s a h i en prefer ht hl hcls => ⟨_, exec_mirrorConfig ht hl hcls, ?_⟩, fun s a h i ht hl => ?_,
    fun s a h i ht hl hcls hrole hpartner hnone => ?_⟩
  · generalize hu : a.wr R.FLD_CTRL_PREFER_ACTIVE (b2n prefer) = u
    have hen : u.on R.FLD_CTRL_EN = a.on R.FLD_CTRL_EN := by rw [← hu, State.on_wr_apart (by decide)]
    have hacti : u.on R.FLD_STATUS_ACTI = a.on R.FLD_STATUS_ACTI := by rw [← hu, State.on_wr_apart (by decide)]
    have hmir : u.mir = a.mir := by rw [← hu, State.wr_mir]
    have htm : u.tm = a.tm := by rw [← hu, State.wr_tm]
    have hrole : u.role = a.role := by rw [← hu, State.role, State.rd_wr_apart (by decide), State.role]
    have hprefer : u.on R.FLD_CTRL_PREFER_ACTIVE = prefer := by rw [← hu, State.on_wr_b2n rfl]
    have hsame : (u.wr R.FLD_CTRL_EN (b2n en)).SameRegs BesideRoles (u.mirrorEnable en) := .mirrorEnable
    refine ⟨?_, ?_, fun he => ?_, fun he hoff => ?_, fun he hon => ?_⟩
    · rw [hsame.on (by decide), State.on_wr_apart (by decide), hprefer]
    · rw [hsame.on (by decide), State.on_wr_b2n rfl]
    · rw [State.mirrorEnable_same (he.trans hen.symm), State.wr_mir, hmir, State.role, State.rd_wr_apart (by decide), ← hrole]
      exact ⟨rfl, rfl⟩
    · rw [he, ← hacti, ← htm]
      exact State.role_mirrorEnable_starts (hen.trans hoff)
    · rw [he]
      exact State.role_mirrorEnable_ends (hen.trans hon)
  · exact congrArg _ (State.receive_untimed ht rfl (by rw [hl]) rfl)
  · refine ⟨a.setChange a.switchBlock true true, ?_, ?_, ?_⟩
    · rw [← State.switchBlock_none hnone]
      exact exec_mirrorSwitchover ht hl hcls hrole hpartner
    · rw [State.setChange_none hnone, State.switchBlock_none hnone]
      rfl
    · rw [State.setChange_none hnone]
      rfl

end Sys2Proof.Machine
end

section
/-! PROOFS. The commands of security, firmware, supply and messages (R290, R306–R308, R310, R370, R392, R395). -/

-- One proof at a time: the package as one text then takes less memory.
set_option Elab.async false

namespace Sys2Proof.Machine

open Sys2Proof

section
variable {s t a : State} {h : Hdr} {d : OpInfo} {f : Fld} {i k n m c ms : Nat}

/-! ### Replies and device-wide operations (R274, R290) -/

/-- An accepted command without a timed form whose own checks pass answers what it gives, OK or not. -/
theorem State.receive_answers {chk : State → Nat → OpCheck} {run : State → Nat → State × Option (Status × List Byte)} {st : Status} {data : List Byte}
    (ht : s.takes h d i a) (hd : d.timed = .no) (hc : chk a i = ⟨true, true, false, .ok⟩) (hr : run a i = (t, some (st, data))) :
    s.receive h d chk run = t.reply i d.code h.seq.toNat st data true := by
  rw [State.receive_takes ht (by rw [hc]) (by rw [hc]) (by rw [hc]) (by rw [hc]), State.takes_untimed ht hd, State.takePlace_false, hr]

theorem State.on_showBusy : s.showBusy.on R.HIF_STATUS_DEV_BUSY = s.devBusy.isSome := State.on_wr_b2n rfl

/-- A device-wide operation makes all six ports busy. -/
theorem State.rd_showBusy_ports (hb : s.devBusy.isSome = true) : s.showBusy.rd R.HIF_STATUS_PORT_BUSY = 63 := by
  rw [State.showBusy, State.rd_wr_apart (by decide)]
  simp only [hb, Bool.true_or]
  exact State.rd_wr_of_lt (by decide) (by decide)

theorem State.devBusy_beginDevice : (s.beginDevice i c n ms).devBusy = some ⟨c, i, n, s.tm.raw, ms, 0⟩ := State.showBusy_devBusy

theorem State.on_beginDevice : (s.beginDevice i c n ms).on R.HIF_STATUS_DEV_BUSY = true := State.on_showBusy

theorem State.rd_beginDevice : (s.beginDevice i c n ms).rd R.HIF_STATUS_PORT_BUSY = 63 := State.rd_showBusy_ports rfl

/-! ### ATTEST and the firmware transfer (R306, R310, R392) -/

theorem exec_attest {nonce : BitVec 128} (ht : s.takes h (op 0x0A01 2 0 .query) i a) (hl : lenIs h 16 = true) :
    exec (.attest h nonce) s =
      .next (a.fresh.reply i 0x0A01 h.seq.toNat .ok (a.attestBytes nonce ++ (List.range 64).map (Config.signByte a.free)) true) :=
  congrArg _ (State.receive_untimed ht rfl (by rw [hl]) rfl)

theorem exec_certRead {which : BitVec 8} (ht : s.takes h (op 0x0A02 2 0 .query) i a) (hl : lenIs h 1 = true) (hw : which.toNat ≤ 1) :
    exec (.certRead h which) s = .next (a.reply i 0x0A02 h.seq.toNat .ok (Config.cert (which = 1#8)) true) :=
  congrArg _ (State.receive_untimed ht rfl (by rw [hl, badUnless_of (decide_eq_true hw)]) rfl)

section
variable {x : FwXfer} {off : BitVec 32} {data : List Byte}

/-- The state with another transfer. -/
def State.withFw (s : State) (x : Option FwXfer) : State := { s with fw := x }

theorem exec_fwBegin {length : BitVec 32} {sha : BitVec 256} (ht : s.takes h (op 0x0A03 2 0 .other) i a) (hl : lenIs h 36 = true)
    (hcls : (a.session i).cls = 0) (hstage : a.stage = 0) (hlen : length.toNat ≤ 16777216) :
    exec (.fwBegin h length sha) s = .next ((a.withFw (some ⟨i, length.toNat, sha, a.otherSlot, []⟩)).reply i 0x0A03 h.seq.toNat .ok [] true) :=
  congrArg _ (State.receive_untimed ht rfl (by rw [hl, State.classAtMost, hcls, hstage, if_pos hlen]; rfl) rfl)

theorem State.chunkStatus_ok (hfw : s.fw = some x) (hsess : x.sess = i) (hoff : off.toNat = x.got.length) (hroom : x.got.length + data.length ≤ x.len) :
    s.chunkStatus i off.toNat data.length = .ok := by
  rw [State.chunkStatus, hfw]
  simp only [hsess, ne_eq, not_true_eq_false, if_false, hoff, decide_true, Bool.true_and]
  exact badUnless_of (decide_eq_true hroom)

theorem exec_fwChunk (ht : s.takes h (op 0x0A04 2 0 .other) i a) (hl : lenIs h (4 + data.length) = true) (hcls : (a.session i).cls = 0)
    (hstage : a.stage = 0) (hfw : a.fw = some x) (hs : a.chunkStatus i off.toNat data.length = .ok) :
    exec (.fwChunk h off data) s = .next ((a.withFw (some { x with got := x.got ++ data })).reply i 0x0A04 h.seq.toNat .ok [] true) := by
  refine congrArg _ (State.receive_untimed ht rfl (by rw [hl, State.classAtMost, hcls, hstage, hs]; rfl) ?_)
  rw [hfw]
  rfl

theorem exec_fwCommit (ht : s.takes h (op 0x0A05 2 0 .other) i a) (hl : lenIs h 0 = true) (hcls : (a.session i).cls = 0)
    (hstage : a.stage = 0) (hfw : a.fw = some x) (hsess : x.sess = i) (hwhole : x.got.length = x.len) :
    exec (.fwCommit h) s = .next (a.beginDevice i 0x0A05 h.seq.toNat 12000) := by
  have hready : a.fwWhole i = true := by
    rw [State.fwWhole, hfw]
    simp [hsess, hwhole]
  exact congrArg _ (State.receive_long ht rfl (by rw [hl, State.classAtMost, hcls, hstage, hready]; rfl) rfl)

end

/-! ### KEY_ROTATE (R308) -/

section
variable {es : List KeyEntry} {e : KeyEntry} {u : Cells (Option Enrol)}

/-- What an entry puts in the table. -/
def KeyEntry.enrolment (e : KeyEntry) : Option Enrol := if e.set = 1#8 then some ⟨e.cls.toNat, e.ports.toNat, e.key⟩ else none

theorem enrolWith_last (he : es.getLast? = some e) : (enrolWith u es).get none e.index.toNat = KeyEntry.enrolment e := by
  obtain ⟨init, rfl⟩ := List.getLast?_eq_some_iff.mp he
  rw [enrolWith, List.foldl_concat]
  exact Cells.get_set_self

theorem enrolWith_other (hn : ∀ e ∈ es, e.index.toNat ≠ n) : (enrolWith u es).get none n = u.get none n := by
  induction es generalizing u with
  | nil => rfl
  | cons e es ih =>
    obtain ⟨he, hes⟩ := List.forall_mem_cons.mp hn
    exact (ih hes).trans (Cells.get_set_other (Ne.symm he))

/-- KEY_ROTATE as accepted: the table takes its entries, and the operation remembers which of them change. -/
def State.rotated (s : State) (i n : Nat) (es : List KeyEntry) : State :=
  let s' := ({ s with enrol := enrolWith s.enrol es }.beginDevice i opKeyRotate n 300).queueBulk bulkEnrol
  { s' with devBusy := s'.devBusy.map (fun l => { l with arg := changedEntries s.enrol (enrolWith s.enrol es) }) }

theorem State.rotated_devBusy : (s.rotated i n es).devBusy = some ⟨0x0A06, i, n, s.tm.raw, 300, changedEntries s.enrol (enrolWith s.enrol es)⟩ := by
  rw [State.rotated]
  simp only [State.queueBulk_devBusy, State.devBusy_beginDevice, Option.map_some]
  rfl

theorem State.rotated_enrol : (s.rotated i n es).enrol = enrolWith s.enrol es := State.queueBulk_enrol.trans State.beginDevice_enrol

theorem State.on_rotated : (s.rotated i n es).on R.HIF_STATUS_DEV_BUSY = true :=
  (State.on_congr rfl rfl).trans (State.on_queueBulk.trans State.on_beginDevice)

theorem exec_keyRotate (ht : s.takes h (op 0x0A06 2 0 .other) i a) (hl : lenIs h (4 + 72 * es.length) = true) (hmay : a.mayRotate i = true)
    (h1 : 1 ≤ es.length) (h16 : es.length ≤ 16) (hes : ∀ e ∈ es, KeyEntry.status e = .ok) (hzero : permitsZero (enrolWith a.enrol es) = true) :
    exec (.keyRotate h es) s = .next (a.rotated i h.seq.toNat es) := by
  have hvals : firstBad (es.map KeyEntry.status ++ [badUnless (permitsZero (enrolWith a.enrol es))]) = .ok := by
    rw [firstBad_append_ok (firstBad_of_all_ok (List.forall_mem_map.mpr hes)), hzero]
    rfl
  refine congrArg _ (State.receive_long ht rfl ?_ rfl)
  rw [hl, hmay, List.cons_append, countIn_of_le h1 h16, firstBad_cons_ok, hvals]

end

/-! ### SHED_CONFIG, MAINT_ENTER, RESET (R290, R370, R395) -/

section
variable {s2 s3 s4 hyst dwell : BitVec 16} {enter : BitVec 8}

/-- The registers that SHED_CONFIG gives. -/
def State.shedRegs (s : State) (s2 s3 s4 hyst dwell : BitVec 16) : State :=
  let s := ((s.wr R.SUP_THR_S2_VALUE s2.toNat).wr R.SUP_THR_S3_VALUE s3.toNat).wr R.SUP_THR_S4_VALUE s4.toNat
  (s.wr R.SUP_HYST_VALUE hyst.toNat).wr R.SUP_DWELL_VALUE dwell.toNat

theorem State.rd_shedRegs :
    let r : State := (s.shedRegs s2 s3 s4 hyst dwell).configured
    r.rd R.SUP_THR_S2_VALUE = s2.toNat ∧ r.rd R.SUP_THR_S3_VALUE = s3.toNat ∧ r.rd R.SUP_THR_S4_VALUE = s4.toNat ∧
      r.rd R.SUP_HYST_VALUE = hyst.toNat ∧ r.rd R.SUP_DWELL_VALUE = dwell.toNat := by
  have h2 {u : State} := State.rd_wr_of_lt (s := u) (f := R.SUP_THR_S2_VALUE) (by decide) s2.isLt
  have h3 {u : State} := State.rd_wr_of_lt (s := u) (f := R.SUP_THR_S3_VALUE) (by decide) s3.isLt
  have h4 {u : State} := State.rd_wr_of_lt (s := u) (f := R.SUP_THR_S4_VALUE) (by decide) s4.isLt
  have hh {u : State} := State.rd_wr_of_lt (s := u) (f := R.SUP_HYST_VALUE) (by decide) hyst.isLt
  have hd {u : State} := State.rd_wr_of_lt (s := u) (f := R.SUP_DWELL_VALUE) (by decide) dwell.isLt
  dsimp only
  simp (disch := decide) only [State.rd_configured, State.shedRegs, State.rd_wr_apart, h2, h3, h4, hh, hd, and_self]

theorem exec_shedConfig (ht : s.takes h (op 0x0D01 2 0 .other) i a) (hl : lenIs h 12 = true) (hcls : (a.session i).cls = 0)
    (h4 : s4.toNat < s3.toNat) (h3 : s3.toNat < s2.toNat) (hh : 10 ≤ hyst.toNat ∧ hyst.toNat ≤ 500) (hd : 100 ≤ dwell.toNat ∧ dwell.toNat ≤ 60000)
    (hc : a.commitStatus = .ok) :
    exec (.shedConfig h s2 s3 s4 hyst dwell) s = .next ((a.shedRegs s2 s3 s4 hyst dwell).configured.reply i 0x0D01 h.seq.toNat .ok [] true) := by
  refine congrArg _ (State.receive_untimed ht rfl ?_ rfl)
  rw [hl, State.classAtMost, hcls, decide_eq_true h4, decide_eq_true h3, decide_eq_true hh.1, decide_eq_true hh.2, decide_eq_true hd.1, decide_eq_true hd.2]
  exact congrArg (OpCheck.mk true true false) hc

/-- Maintenance mode as MAINT_ENTER leaves it. -/
def State.maintained (s : State) (i : Nat) (enter : BitVec 8) : State :=
  if enter = 1#8 then { s with maint := some i }.flag R.SEC_STATUS_MAINT else s.endMaint

theorem State.maintained_spec : (s.maintained i enter).maint = (if enter = 1#8 then some i else none) ∧
    (s.maintained i enter).on R.SEC_STATUS_MAINT = decide (enter = 1#8) := by
  unfold State.maintained
  split
  · next h1 => exact ⟨rfl, (State.on_flag_self (by decide)).trans (decide_eq_true h1).symm⟩
  · next h1 => exact ⟨rfl, (State.on_wr_zero (by decide)).trans (decide_eq_false h1).symm⟩

theorem exec_maintEnter (ht : s.takes h (op 0x0F01 1 0 .other) i a) (hl : lenIs h 4 = true) (hcls : (a.session i).cls = 0) (hstage : a.stage = 0)
    (he : enter.toNat ≤ 1) (hm : a.maint = none ∨ a.maint = some i) :
    exec (.maintEnter h enter) s = .next ((a.maintained i enter).reply i 0x0F01 h.seq.toNat .ok [] true) := by
  have hfree : (match a.maint with | some j => if j = i then Status.ok else .conflict | none => .ok) = .ok := by
    obtain h | h := hm
    · rw [h]
    · rw [h]
      exact if_pos rfl
  refine congrArg _ (State.receive_untimed ht rfl ?_ rfl)
  rw [hl, State.classAtMost, hcls, hstage, decide_eq_true he]
  exact congrArg (fun st => OpCheck.mk true true false (firstBad [.ok, st])) hfree

theorem exec_reset (ht : s.takes h (op 0x0F04 1 0 .other) i a) (hl : lenIs h 0 = true) (hcls : (a.session i).cls = 0) :
    exec (.reset h) s = .next ((a.beginDevice i 0x0F04 h.seq.toNat 10).reply i 0x0F04 h.seq.toNat .ok [] true) :=
  congrArg _ (State.receive_untimed ht rfl (by rw [hl, State.classAtMost, hcls]; rfl) rfl)

end

/-! ### MSG_STORE (R307) -/

section
variable {q : StoreReq} {data : List Byte} {x : Msg}

/-- The message with the bytes of a chunk. -/
def Msg.takes (x : Msg) (data : List Byte) : Msg := { x with data := x.data ++ data }

theorem State.msg_setMsg {y : Option Msg} : (s.setMsg m y).msg n = if n = m then y else s.msg n := Cells.get_set

theorem State.msg_queueBulk : (s.queueBulk k).msg n = s.msg n := congrArg (fun c => Cells.get none c n) State.queueBulk_msgs

theorem State.takeChunk_more (hlt : ((s.storeBase i q).takes data).data.length < (s.storeBase i q).total) :
    s.takeChunk i q data = (s.setMsg q.msg.toNat (some ((s.storeBase i q).takes data)), .ok) := if_pos hlt

theorem State.takeChunk_whole (hge : (s.storeBase i q).total ≤ ((s.storeBase i q).takes data).data.length)
    (hcrc : (crc32 ((s.storeBase i q).takes data).data).toNat = (s.storeBase i q).crc) :
    s.takeChunk i q data = ((s.setMsg q.msg.toNat (some { (s.storeBase i q).takes data with state := .valid, sess := none })).queueBulk
      (bulkMsg q.msg.toNat), .ok) := (if_neg (Nat.not_lt.mpr hge)).trans (if_pos hcrc)

theorem State.takeChunk_wrong (hge : (s.storeBase i q).total ≤ ((s.storeBase i q).takes data).data.length)
    (hcrc : (crc32 ((s.storeBase i q).takes data).data).toNat ≠ (s.storeBase i q).crc) :
    s.takeChunk i q data = (s.setMsg q.msg.toNat (some { (s.storeBase i q).takes data with state := .bad, sess := none }), .check) :=
  (if_neg (Nat.not_lt.mpr hge)).trans (if_neg hcrc)

/-- A chunk changes no other message. -/
theorem State.msg_takeChunk_other (hn : n ≠ q.msg.toNat) : (s.takeChunk i q data).1.msg n = s.msg n := by
  by_cases hlt : ((s.storeBase i q).takes data).data.length < (s.storeBase i q).total
  · rw [State.takeChunk_more hlt, State.msg_setMsg, if_neg hn]
  have hge := Nat.not_lt.mp hlt
  by_cases hcrc : (crc32 ((s.storeBase i q).takes data).data).toNat = (s.storeBase i q).crc
  · rw [State.takeChunk_whole hge hcrc, State.msg_queueBulk, State.msg_setMsg, if_neg hn]
  · rw [State.takeChunk_wrong hge hcrc, State.msg_setMsg, if_neg hn]

theorem exec_msgStore (ht : s.takes h (op 0x0C01 1 0 .other) i a) (hl : lenIs h (16 + data.length) = true)
    (hcls : (a.session i).cls ≤ (if q.evac then 0 else 1)) (hstage : a.stage = 0) (hs : a.storeStatus i q data.length = .ok) :
    exec (.msgStore h q data) s =
      .next ((a.takeChunk i q data).1.reply i 0x0C01 h.seq.toNat (a.takeChunk i q data).2 [] true) :=
  congrArg _ (State.receive_answers ht rfl (by rw [hl, State.classAtMost, decide_eq_true hcls, hstage, hs]; rfl) rfl)

end

/-! ### MSG_PLAY and MSG_STOP (R307) -/

theorem exec_msgPlay {m : BitVec 8} {loop : Bool} {repeats gap : BitVec 16} (ht : s.takes h ⟨0x0C02, (1, 0), .within, false, .other⟩ i a)
    (hl : lenIs h 6 = true) (ho : a.ownsFeed i m.toNat = true) (hstage : a.stage < 4 ∨ a.msgEvac m.toNat = true) (hv : a.msgValid m.toNat = true) :
    exec (.msgPlay h m loop repeats gap) s =
      .next (((a.takePlace i (a.hdrDone h .within) h.timed).startPlay m.toNat (a.hdrSample h) loop repeats.toNat gap.toNat).reply i 0x0C02 h.seq.toNat
        .ok [] true) := by
  have hshed : (decide (4 ≤ a.stage) && !a.msgEvac m.toNat) = false := by
    obtain hlt | he := hstage
    · rw [decide_eq_false (Nat.not_le.mpr hlt), Bool.false_and]
    · rw [he, Bool.not_true, Bool.and_false]
  refine congrArg _ (State.receive_placed ht (by rw [hl, ho, hshed, hv]; rfl) ?_)
  rw [State.SameClock.takePlace.hdrSample]

theorem exec_msgStop {m : BitVec 8} {atEnd : Bool} (ht : s.takes h ⟨0x0C03, (1, 0), .nextBlock, false, .other⟩ i a) (hl : lenIs h 2 = true)
    (ho : a.ownsFeed i m.toNat = true) :
    exec (.msgStop h m atEnd) s =
      .next (((a.takePlace i (a.hdrDone h .nextBlock) h.timed).later (a.hdrNext h) (.msgStop m.toNat atEnd)).reply i 0x0C03 h.seq.toNat .ok [] true) := by
  refine congrArg _ (State.receive_placed ht (by rw [hl, ho]) ?_)
  rw [State.SameClock.takePlace.hdrNext]

end

/-- Settles O37: each command passes its own checks, and what it runs changes the transfer alone; FW_COMMIT begins the device-wide operation. -/
theorem firmwareCommands : Obligations.FirmwareCommands := by
  unfold Obligations.FirmwareCommands
  refine ⟨fun s a h i nonce ht hl => ⟨(List.range 64).map (Config.signByte a.free), by rw [List.length_map, List.length_range], exec_attest ht hl⟩, fun s a h i which ht hl hw => exec_certRead ht hl hw,
    fun s a h i length sha ht hl hcls hstage hlen => ⟨_, exec_fwBegin ht hl hcls hstage hlen, rfl, rfl, rfl⟩,
    fun s a h i off data x ht hl hcls hstage hfw hsess hoff hroom =>
      ⟨_, exec_fwChunk ht hl hcls hstage hfw (State.chunkStatus_ok hfw hsess hoff hroom), rfl, rfl, rfl⟩,
    fun s a h i x ht hl hcls hstage hfw hsess hwhole =>
      ⟨_, exec_fwCommit ht hl hcls hstage hfw hsess hwhole, State.devBusy_beginDevice, State.on_beginDevice, State.rd_beginDevice, State.beginDevice_flash⟩⟩

/-- Settles O38: KEY_ROTATE and RESET begin a device-wide operation on the state they leave; the thresholds are five registers that nothing later writes. -/
theorem deviceCommands : Obligations.DeviceCommands := by
  unfold Obligations.DeviceCommands
  refine ⟨fun s a h i es ht hl hmay h1 h16 hes hzero => ⟨_, exec_keyRotate ht hl hmay h1 h16 hes hzero, fun e he => ?_, fun n hn => ?_,
      State.rotated_devBusy, State.on_rotated⟩,
    fun s a h i s2 s3 s4 hyst dwell ht hl hcls h4 h3 hh hh' hd hd' hc => ⟨_, exec_shedConfig ht hl hcls h4 h3 ⟨hh, hh'⟩ ⟨hd, hd'⟩ hc, State.rd_shedRegs⟩,
    fun s a h i ht hl => congrArg _ (State.receive_untimed ht rfl (by rw [hl]) rfl),
    fun s a h i enter ht hl hcls hstage he hm => ⟨_, exec_maintEnter ht hl hcls hstage he hm, State.maintained_spec⟩,
    fun s a h i ht hl hcls => ⟨_, exec_reset ht hl hcls, State.devBusy_beginDevice, State.on_beginDevice, State.beginDevice_mix⟩⟩
  · rw [State.rotated_enrol]
    exact enrolWith_last he
  · rw [State.rotated_enrol]
    exact enrolWith_other hn

/-- Settles O39: a chunk has three outcomes, by the length it reaches and its CRC, and each sets the one message; a play is added, and a stop waits. -/
theorem messageCommands : Obligations.MessageCommands := by
  unfold Obligations.MessageCommands
  refine ⟨fun s a h i q data ht hl hcls hstage hs => ⟨_, _, exec_msgStore ht hl hcls hstage hs, ?_, fun n hn => State.msg_takeChunk_other hn⟩,
    fun s a h i m loop repeats gap ht hl ho hstage hv => ⟨_, exec_msgPlay ht hl ho hstage hv, ?_, State.takePlace_regs, State.takePlace_sched⟩,
    fun s a h i m atEnd ht hl ho => ⟨_, exec_msgStop ht hl ho, ?_, State.takePlace_plays⟩⟩
  · rintro x rfl
    simp only [← List.length_append]
    refine ⟨fun hlt => ?_, fun hge hcrc => ?_, fun hge hcrc => ?_⟩
    · rw [State.takeChunk_more hlt, State.msg_setMsg, if_pos rfl]
      exact ⟨rfl, rfl⟩
    · rw [State.takeChunk_whole hge hcrc, State.msg_queueBulk, State.msg_setMsg, if_pos rfl]
      exact ⟨rfl, rfl⟩
    · rw [State.takeChunk_wrong hge hcrc, State.msg_setMsg, if_pos rfl]
      exact ⟨rfl, rfl⟩
  · rw [State.startPlay, State.cutPlays, State.takePlace_plays]
    rfl
  · rw [State.later, State.takePlace_sched]

end Sys2Proof.Machine
end

section
/-! PROOFS. Sessions that open and close, and the resources that change hands (R278–R283, R285–R287). -/

-- One proof at a time: the package as one text then takes less memory.
set_option Elab.async false

namespace Sys2Proof.Machine

open Sys2Proof

section
variable {s a u : State} {h : Hdr} {i j k n p : Nat} {kick : Option Nat} {r : OpenReq} {v : Nat × Nat}

/-! ### SESSION_OPEN (R278–R282) -/

/-- The session that a takeover takes the place of closes first. -/
def State.kicked (s : State) (kick : Option Nat) : State := match kick with
  | some i => s.closeSession i
  | none => s

theorem State.running_received : (s.received h).running p = s.running p := by
  have hdev : (s.received h).devBusy = s.devBusy := State.received_good.same .devBusy rfl
  simp only [State.running, hdev, State.port_received.2]

theorem exec_sessionOpen (hport : (s.atRaw h.t).portEnabled h.port.val = true) (hframe : h.framing = .good) (hrun : s.running h.port.val = none)
    (hv : chooseVersion r = some v) (hc : (s.received h).openCheck h r = (.ok, kick)) :
    exec (.sessionOpen h r) s = .next (((s.received h).kicked kick).openSession h r v) := by
  have hidle : (s.received h).running h.port.val = none := State.running_received.trans hrun
  change Host.Outcome.next (if !(s.atRaw h.t).portEnabled h.port.val then s.atRaw h.t
    else if h.framing = .badFrame then (s.received h).bump _ else if h.framing = .badCrc then (s.received h).bump _ else _) = _
  rw [hport, hframe, if_neg (by decide), if_neg (by decide), if_neg (by decide)]
  simp only [State.received] at hidle hc
  rw [hidle, hv]
  simp only [hc]
  cases kick <;> rfl

/-- The session as it opens, beside its keys and its limit on payloads. -/
def Session.fresh (h : Hdr) (r : OpenReq) (v : Nat × Nat) (raw keys pmax : Nat) : Session :=
  { sessReset with
    phase := if r.plain then .opened else .halfOpen, port := h.port.val, major := v.1, minor := v.2, cls := r.cls,
    key := if r.plain then none else some r.key, prot := !r.plain, timeout := if r.timeout = 0 then 10 else r.timeout, pmax := pmax,
    lastSeq := h.seq.toNat, keys := keys, lastRx := raw, openedAt := raw }

theorem State.replyOpen_sessions {st : Status} {data : List Byte} : (s.replyOpen h v st data).sessions = s.sessions := State.enqueue_sessions

theorem State.session_openSession (hj : s.freeSession = some j) :
    (s.openSession h r v).session j = Session.fresh h r v s.tm.raw s.free (s.pmaxOn h.port.val v.1) := by
  have hset {x : Session} : ((s.setSession j x).showOpen).session j = x :=
    (State.session_congr State.showOpen_sessions).trans (State.session_setSession.trans (if_pos rfl))
  unfold State.openSession
  rw [hj]
  dsimp only
  split
  · next hp => exact (State.session_congr State.replyOpen_sessions).trans (hset.trans (by simp only [Session.fresh, hp, if_true]))
  · next hp => exact (State.session_congr (State.fresh_sessions.trans State.replyOpen_sessions)).trans (hset.trans (by simp only [Session.fresh, hp, Bool.false_eq_true, if_false]))

theorem State.tm_kicked : (s.kicked kick).tm = s.tm := by
  cases kick with
  | none => rfl
  | some i => exact (State.closeSession_good s i).same .tm rfl

/-! ### SESSION_CLOSE (R283, R287) -/

theorem exec_sessionClose (ht : s.takes h (op 0x0102 1 0 .session) i a) (hl : lenIs h 0 = true) :
    exec (.sessionClose h) s = .next ((a.reply i 0x0102 h.seq.toNat .ok [] true).closeSession i) :=
  congrArg _ (State.receive_long ht rfl (by rw [lenOnly, hl]) rfl)

end

/-- Settles O24: an open that passes its checks takes the lowest free place, which the close of the session before it may have freed. -/
theorem sessionsOpenAndClose : Obligations.SessionsOpenAndClose := by
  unfold Obligations.SessionsOpenAndClose
  refine ⟨fun s h r v kick j hport hframe hrun hv hc hj => ⟨_, exec_sessionOpen hport hframe hrun hv hc, ?_⟩,
    fun s a h i ht hl => ⟨exec_sessionClose ht hl, State.session_closeSession.1⟩⟩
  have hfree : ((s.received h).kicked kick).freeSession = some j := by
    rw [← hj]
    cases kick <;> rfl
  have hraw : ((s.received h).kicked kick).tm.raw = (s.atRaw h.t).tm.raw := by rw [State.tm_kicked, State.tm_received]
  rw [State.session_openSession hfree, hraw]
  exact ⟨rfl, rfl, rfl, rfl, rfl, rfl, rfl, rfl, rfl⟩

/-! ### Resources that change hands (R285–R287) -/

section
variable {s t a : State} {h : Hdr} {i j k m n : Nat} {o : Option Nat} {f js : List Nat} {rs : List Nat} {refs : List (BitVec 16)}

theorem mem_dedup {α : Type} [DecidableEq α] {x : α} {xs : List α} : x ∈ dedup xs ↔ x ∈ xs := by
  induction xs with
  | nil => rfl
  | cons y ys ih =>
    rw [dedup]
    split
    · next hy => rw [ih, List.mem_cons]; exact ⟨.inr, fun hx => hx.elim (fun e => e ▸ List.contains_iff_mem.mp hy) id⟩
    · rw [List.mem_cons, List.mem_cons, ih]

theorem mem_refNats : n ∈ refNats refs ↔ ∃ x ∈ refs, x.toNat = n := mem_dedup.trans List.mem_map

/-- The owner of a resource, and the former owners recorded behind it. -/
def State.title (s : State) (n : Nat) : Option Nat × List Nat := (s.ownerOf n, s.formers n)

theorem State.title_congr (ho : t.owner = s.owner) (hf : t.former = s.former) : t.title n = s.title n := by
  simp only [State.title, State.ownerOf, State.formers, ho, hf]

theorem State.title_setOwner : (s.setOwner k o f).title n = if n = k then (o, f) else s.title n := by
  by_cases hn : n = k
  · subst hn
    rw [if_pos rfl, State.title, State.ownerOf, State.formers, State.setOwner]
    simp only [Cells.get_set_self]
    cases o <;> rfl
  · rw [if_neg hn, State.title, State.ownerOf, State.formers, State.setOwner]
    simp only [Cells.get_set_other hn]
    rfl

theorem State.title_evOwner {l : List Nat} : (s.evOwner i k m l).title n = s.title n :=
  State.title_congr ((State.evOwner_good _ _ _ _ _).same .owner rfl) ((State.evOwner_good _ _ _ _ _).same .former rfl)

theorem State.title_setSession {x : Session} : (s.setSession i x).title n = s.title n := State.title_congr rfl rfl

/-! #### CLAIM and PREEMPT -/

/-- A resource as a session takes it: a former owner is recorded first. -/
def taken (i : Nat) : Option Nat × List Nat → Option Nat × List Nat
  | (none, _) => (some i, [])
  | (some j, f) => if j = i then (some j, f) else (some i, j :: f)

theorem taken_taken {x : Option Nat × List Nat} : taken i (taken i x) = taken i x := by
  obtain ⟨_ | j, f⟩ := x
  · exact if_pos rfl
  · by_cases hj : j = i
    · simp only [taken, if_pos hj]
    · simp only [taken, if_neg hj, if_true]

theorem State.title_takeRef : (s.takeRef i k).title n = if n = k then taken i (s.title n) else s.title n := by
  unfold State.takeRef
  cases ho : s.ownerOf k with
  | none =>
    rw [State.title_setOwner]
    split
    · next hn => rw [hn, State.title, ho]; rfl
    · rfl
  | some j =>
    by_cases hj : j = i
    · simp only [if_pos hj]
      split
      · next hn => rw [hn, State.title, ho, taken, if_pos hj]
      · rfl
    · simp only [if_neg hj]
      rw [State.title_setOwner]
      split
      · next hn => rw [hn, State.title, ho, taken, if_neg hj]
      · rfl

theorem State.title_takeRefs : (rs.foldl (fun s r => s.takeRef i r) s).title n = if n ∈ rs then taken i (s.title n) else s.title n := by
  induction rs generalizing s with
  | nil => rfl
  | cons r rs ih =>
    rw [List.foldl_cons, ih, State.title_takeRef]
    by_cases hr : n = r
    · rw [if_pos hr, taken_taken, ite_self, if_pos (by rw [hr]; exact List.mem_cons_self)]
    · rw [if_neg hr]
      simp only [List.mem_cons, hr, false_or]

theorem State.title_preemptRefs : (s.preemptRefs i rs).title n = if n ∈ rs then taken i (s.title n) else s.title n := by
  rw [← State.title_takeRefs]
  exact foldl_keeps (fun u : State => u.title n) (fun u g => State.title_setSession.trans State.title_evOwner) _ _

theorem State.ownerOf_taken : (taken i (s.title n)).1 = some i := by
  rw [State.title]
  cases s.ownerOf n with
  | none => rfl
  | some j =>
    by_cases hj : j = i
    · rw [taken, if_pos hj, hj]
    · rw [taken, if_neg hj]

/-- The resources named belong to the session, and the others are as they were. -/
theorem State.preempted :
    (∀ x ∈ refs, (s.preemptRefs i (refNats refs)).ownerOf x.toNat = some i ∧
      ∀ j, s.ownerOf x.toNat = some j → j ≠ i → (s.preemptRefs i (refNats refs)).formers x.toNat = j :: s.formers x.toNat) ∧
    ∀ n, (∀ x ∈ refs, x.toNat ≠ n) →
      (s.preemptRefs i (refNats refs)).ownerOf n = s.ownerOf n ∧ (s.preemptRefs i (refNats refs)).formers n = s.formers n := by
  refine ⟨fun x hx => ?_, fun n hn => ?_⟩
  · have ht := (State.title_preemptRefs (s := s) (i := i) (n := x.toNat)).trans (if_pos (mem_refNats.mpr ⟨x, hx, rfl⟩))
    refine ⟨(congrArg Prod.fst ht).trans State.ownerOf_taken, fun j hj hne => (congrArg Prod.snd ht).trans ?_⟩
    rw [State.title, hj, taken, if_neg hne]
  · have ht := (State.title_preemptRefs (s := s) (i := i) (n := n)).trans (if_neg fun hm => by
      obtain ⟨x, hx, e⟩ := mem_refNats.mp hm
      exact hn x hx e)
    exact ⟨congrArg Prod.fst ht, congrArg Prod.snd ht⟩

/-! #### RELEASE -/

/-- A resource that a session releases goes back to the former owner recorded first. -/
theorem State.title_setOwners {l : List Nat} {u : State} :
    ((l.map (fun r => (r, (u.formers r).head?, (u.formers r).tail))).foldl (fun s p => s.setOwner p.1 p.2.1 p.2.2) s).title n =
      if n ∈ l then ((u.formers n).head?, (u.formers n).tail) else s.title n := by
  induction l generalizing s with
  | nil => rfl
  | cons r l ih =>
    rw [List.map_cons, List.foldl_cons, ih, State.title_setOwner]
    by_cases hr : n = r
    · subst hr
      rw [if_pos rfl, ite_self, if_pos List.mem_cons_self]
    · rw [if_neg hr]
      simp only [List.mem_cons, hr, false_or]

theorem State.title_releaseRefs : (s.releaseRefs i rs).title n =
    if n ∈ rs.filter (fun r => s.owns i r) then ((s.formers n).head?, (s.formers n).tail) else s.title n := by
  rw [← State.title_setOwners]
  refine foldl_keeps (fun u : State => u.title n) (fun u j => ?_) _ _
  dsimp only
  split
  · rfl
  · exact State.title_evOwner

/-- What a session owns and releases goes back, and the others are as they were. -/
theorem State.released (ho : ∀ x ∈ refs, s.owns i x.toNat = true) :
    (∀ x ∈ refs, (s.releaseRefs i (refNats refs)).ownerOf x.toNat = (s.formers x.toNat).head? ∧
      (s.releaseRefs i (refNats refs)).formers x.toNat = (s.formers x.toNat).tail) ∧
    ∀ n, (∀ x ∈ refs, x.toNat ≠ n) →
      (s.releaseRefs i (refNats refs)).ownerOf n = s.ownerOf n ∧ (s.releaseRefs i (refNats refs)).formers n = s.formers n := by
  refine ⟨fun x hx => ?_, fun n hn => ?_⟩
  · have ht := (State.title_releaseRefs (s := s) (i := i) (n := x.toNat)).trans
      (if_pos (List.mem_filter.mpr ⟨mem_refNats.mpr ⟨x, hx, rfl⟩, ho x hx⟩))
    exact ⟨congrArg Prod.fst ht, congrArg Prod.snd ht⟩
  · have ht := (State.title_releaseRefs (s := s) (i := i) (n := n)).trans (if_neg fun hm => by
      obtain ⟨x, hx, e⟩ := mem_refNats.mp (List.mem_filter.mp hm).1
      exact hn x hx e)
    exact ⟨congrArg Prod.fst ht, congrArg Prod.snd ht⟩

/-! #### The commands -/

theorem refsCheck_ok (h1 : 1 ≤ refs.length) (h64 : refs.length ≤ 64) (hok : ∀ x ∈ refs, refOk x.toNat = true) : refsCheck refs = .ok := by
  rw [refsCheck, countIn_of_le h1 h64, firstBad_cons_ok, firstBad_of_all_ok (List.forall_mem_map.mpr fun x hx => badUnless_of (hok x hx))]

/-- A condition that every reference named meets. -/
theorem all_refNats {c : Nat → Bool} (hc : ∀ x ∈ refs, c x.toNat = true) : (refNats refs).all c = true :=
  List.all_eq_true.mpr fun n hn => by
    obtain ⟨x, hx, rfl⟩ := mem_refNats.mp hn
    exact hc x hx

theorem exec_claim (ht : s.takes h (op 0x0104 1 0 .claims) i a) (hl : lenIs h (2 + 2 * refs.length) = true) (hr : refsCheck refs = .ok)
    (ho : ∀ x ∈ refs, a.ownerOf x.toNat = none ∨ a.ownerOf x.toNat = some i ∨ (a.claimTakes i = true ∧ a.mayPreempt i x.toNat = true)) :
    exec (.claim h refs) s = .next ((a.preemptRefs i (refNats refs)).reply i 0x0104 h.seq.toNat .ok [] true) := by
  refine congrArg _ (State.receive_untimed ht rfl ?_ rfl)
  rw [hl, hr, all_refNats fun x hx => ?_]
  rw [State.mayPreempt]
  obtain hnone | hown | ⟨htakes, hmay⟩ := ho x hx
  · simp only [hnone, ite_self, Bool.or_true]
  · simp only [hown, decide_true, Bool.true_or, ite_self, Bool.or_true]
  · rw [← State.mayPreempt, hmay, htakes, if_pos rfl, Bool.or_true]

theorem exec_preempt (ht : s.takes h (op 0x0106 2 0 .claims) i a) (hl : lenIs h (2 + 2 * refs.length) = true) (hr : refsCheck refs = .ok)
    (hcls : (a.session i).cls ≤ 1) (ho : ∀ x ∈ refs, a.mayPreempt i x.toNat = true) :
    exec (.preempt h refs) s = .next ((a.preemptRefs i (refNats refs)).reply i 0x0106 h.seq.toNat .ok [] true) := by
  refine congrArg _ (State.receive_untimed ht rfl ?_ rfl)
  rw [hl, hr, State.classAtMost, decide_eq_true hcls, all_refNats fun x hx => by rw [ho x hx, Bool.or_true]]
  rfl

theorem exec_release (ht : s.takes h (op 0x0105 1 0 .claims) i a) (hl : lenIs h (2 + 2 * refs.length) = true) (hr : refsCheck refs = .ok)
    (ho : ∀ x ∈ refs, a.owns i x.toNat = true) :
    exec (.release h refs) s = .next ((a.releaseRefs i (refNats refs)).reply i 0x0105 h.seq.toNat .ok [] true) := by
  refine congrArg _ (State.receive_untimed ht rfl ?_ rfl)
  rw [hl, hr, all_refNats fun x hx => by rw [ho x hx, Bool.or_true]]

end

/-- Settles O25: a resource is taken once however often it is named, since a second taking finds it owned; events touch no owner. -/
theorem ownershipCommands : Obligations.OwnershipCommands := by
  unfold Obligations.OwnershipCommands
  refine ⟨fun s a h i refs ht hl h1 h64 ho => ⟨_, exec_claim ht hl (refsCheck_ok h1 h64 fun x hx => (ho x hx).1) fun x hx => (ho x hx).2, ?_⟩,
    fun s a h i refs ht hl h1 h64 hcls ho =>
      ⟨_, exec_preempt ht hl (refsCheck_ok h1 h64 fun x hx => (ho x hx).1) hcls fun x hx => (ho x hx).2, State.preempted⟩,
    fun s a h i refs ht hl h1 h64 ho =>
      ⟨_, exec_release ht hl (refsCheck_ok h1 h64 fun x hx => (ho x hx).1) fun x hx => (ho x hx).2, State.released fun x hx => (ho x hx).2⟩,
    fun s a h i ht hl => congrArg _ (State.receive_untimed ht rfl (by rw [lenOnly, hl]) rfl)⟩
  obtain ⟨htaken, hrest⟩ := State.preempted (s := a) (i := i) (refs := refs)
  exact ⟨fun x hx => (htaken x hx).1, hrest⟩

end Sys2Proof.Machine
end

section
/-! PROOFS. The interleave and the DRAM controller (R332, R335, R337–R343): one request at a time, rows, refreshes, training. -/

-- One proof at a time: the package as one text then takes less memory.
set_option Elab.async false

namespace Sys2Proof.Machine

open Sys2Proof

section
variable {s t : State} {f : Fld} {g k n p a b : Nat}

/-! ### The interleave (R339) -/

theorem State.grain_eq : s.grain = if s.rd R.CEL_CFG_GRAIN = 0 then 256 else if s.rd R.CEL_CFG_GRAIN = 1 then 1024 else 4096 := by
  unfold State.grain
  split <;> simp_all

theorem State.grain_pos : 0 < s.grain := by
  rw [State.grain_eq]
  repeat' split
  all_goals decide

theorem State.dramPlace_two (h2 : s.celChannels = 2) : s.dramPlace a = (a / s.grain % 2, a / (2 * s.grain) * s.grain + a % s.grain) := if_pos h2

/-- An address from its grain's number, its channel and its place in the grain. -/
theorem place_eq : a = (2 * (a / (2 * g)) + a / g % 2) * g + a % g := by
  have hhalf : a / (2 * g) = a / g / 2 := by rw [Nat.mul_comm, Nat.div_div_eq_div_mul]
  rw [hhalf, Nat.div_add_mod, Nat.div_add_mod']

/-- No two addresses share a place: the channel address gives the grain's number and the place in the grain. -/
theorem place_inj (hg : 0 < g) (hch : a / g % 2 = b / g % 2) (hat : a / (2 * g) * g + a % g = b / (2 * g) * g + b % g) : a = b := by
  have hmod (x y : Nat) (hy : y < g) : (x * g + y) / g = x ∧ (x * g + y) % g = y :=
    ⟨by rw [Nat.mul_comm, Nat.mul_add_div hg, Nat.div_eq_of_lt hy, Nat.add_zero], by rw [Nat.mul_add_mod', Nat.mod_eq_of_lt hy]⟩
  obtain ⟨hqa, hra⟩ := hmod (a / (2 * g)) (a % g) (Nat.mod_lt _ hg)
  obtain ⟨hqb, hrb⟩ := hmod (b / (2 * g)) (b % g) (Nat.mod_lt _ hg)
  have hq : a / (2 * g) = b / (2 * g) := by rw [← hqa, hat, hqb]
  have hr : a % g = b % g := by rw [← hra, hat, hrb]
  rw [place_eq (a := a) (g := g), place_eq (a := b) (g := g), hq, hch, hr]

end

/-- Settles O9: the place is the one R339 gives, and its channel address gives the number of the grain back. -/
theorem interleave : Obligations.Interleave := by
  unfold Obligations.Interleave
  intro s h2
  rw [← State.grain_eq]
  refine ⟨fun a => State.dramPlace_two h2, fun a b hab => ?_, by decide⟩
  rw [State.dramPlace_two h2, State.dramPlace_two h2] at hab
  exact place_inj State.grain_pos (congrArg Prod.fst hab) (congrArg Prod.snd hab)

end Sys2Proof.Machine
end

section
/-! PROOFS. The DRAM controller (R332, R335, R337–R343): requests that arrive and are served, rows, refreshes, training. -/

-- One proof at a time: the package as one text then takes less memory.
set_option Elab.async false

namespace Sys2Proof.Machine

open Sys2Proof

section
variable {s t : State} {f : Fld} {k n m p : Nat}

/-- What an operation does while the gate of its clock is open. -/
theorem ungated {α : Type} {x y : α} (hg : s.gated k = false) : (if s.gated k then x else y) = y := if_neg (hg ▸ Bool.false_ne_true)

/-! ### Requests that arrive (R332, R341) -/

section
variable {x : DramArr}

/-- A request of a hardware reader alone reaches the Cellar directly. -/
theorem exec_dramRequest_direct (hg : s.gated 4 = false) (hx : x.cls ≠ 4) : exec (.dramRequest [x] 0 0 n) s = .next ((s.atRaw n).dramArrive x) := by
  refine (ungated hg).trans (congrArg Host.Outcome.next ?_)
  obtain hlt | hgt : x.cls.val < 4 ∨ 4 < x.cls.val := Nat.lt_or_gt_of_ne fun e => hx (Fin.ext e)
  · simp only [List.filter_cons, List.filter_nil, decide_eq_false hx, decide_eq_true hlt, decide_eq_false (Nat.lt_asymm hlt)]
    rfl
  · simp only [List.filter_cons, List.filter_nil, decide_eq_false hx, decide_eq_true hgt, decide_eq_false (Nat.lt_asymm hgt)]
    rfl

/-- A request of the window alone waits at its port. -/
theorem exec_dramRequest_window (hg : s.gated 4 = false) (hx : x.cls = 4) :
    exec (.dramRequest [x] p 0 n) s = .next (((s.atRaw n).fabAsk fabDram ⟨x.master, 0, some x⟩).fabServeN fabDram p) := by
  refine (ungated hg).trans (congrArg Host.Outcome.next ?_)
  have h4 : x.cls.val = 4 := congrArg Fin.val hx
  simp only [List.filter_cons, List.filter_nil, decide_eq_true hx, h4, Nat.lt_irrefl, decide_false]
  rfl

/-- The request that joins the queue. -/
def State.reqOf (s : State) (x : DramArr) : DramReq :=
  ⟨s.cel.next, s.tm.raw, (s.dramPlace x.addr).1, x.bank, x.row, (s.dramPlace x.addr).2 / 64, x.cls.val, x.rt, x.write, s.dramHint x⟩

/-- A request in range joins the queue. -/
theorem State.dramArrive_joins (hsr : s.on R.CEL_STATUS_SR = false) (hl : s.clkLost 3 = false) (ha : x.addr < s.dramSize) :
    s.dramArrive x = { s with cel := s.arrived x } := by
  rw [State.dramArrive_eq, hsr, hl]
  exact (if_neg Bool.false_ne_true).trans (if_neg (Nat.not_le.mpr ha))

theorem State.queue_arrived : (s.arrived x).queue = s.cel.queue ++ [s.reqOf x] := rfl

/-- A request out of range ends in error. -/
theorem State.dramArrive_error (hsr : s.on R.CEL_STATUS_SR = false) (hl : s.clkLost 3 = false) (ha : s.dramSize ≤ x.addr) :
    s.dramArrive x = s.busError x.master 0 (x.addr % 2 ^ 32) x.write 0 := by
  rw [State.dramArrive_eq, hsr, hl]
  exact (if_neg Bool.false_ne_true).trans (if_pos ha)

theorem State.fabAt_setFab {x : FabPort} : (s.setFab p x).fabAt p = x := Cells.get_set_self

theorem State.fabAt_fabAsk {r : FabReq} : (s.fabAsk p r).fabAt p = { s.fabAt p with waiting := (s.fabAt p).waiting ++ [r] } := Cells.get_set_self

/-- A port where a request of the window alone waits takes it to the Cellar. -/
theorem State.fabServe_alone (hw : (s.fabAt p).waiting = [⟨m, 0, some x⟩]) :
    s.fabServe p = (some ⟨m, 0, some x⟩, (s.setFab p ⟨some m, [], (s.fabAt p).last = some m⟩).dramArrive x) := by
  rw [State.fabServe, State.fabGrant_alone hw]

end

/-! ### A request that is served (R341) -/

section
variable {r : DramReq}

theorem Cel.ofBank_alone {c : Cel} (hq : c.queue = [r]) : c.ofBank (bankKey r.ch r.bank) = [r] := by
  rw [Cel.ofBank, hq]
  exact List.filter_cons_of_pos (decide_eq_true rfl)

theorem Cel.firstOfUnit_alone {c : Cel} (hq : c.queue = [r]) : c.firstOfUnit r = r := by
  rw [Cel.firstOfUnit, Cel.ofBank_alone hq]
  exact congrArg (Option.getD · r) (List.find?_cons_of_pos (decide_eq_true rfl))

theorem State.bankNext_alone (hq : s.cel.queue = [r]) : s.bankNext (bankKey r.ch r.bank) = some r := by
  have hfind {P : DramReq → Bool} {q : DramReq} (h : [r].find? P = some q) : q = r := List.mem_singleton.mp (List.mem_of_find?_eq_some h)
  unfold State.bankNext
  simp only [Cel.ofBank_alone hq]
  split
  · next q h =>
    split at h
    · rw [hfind h, Cel.firstOfUnit_alone hq]
    · cases h
  split
  · next q h =>
    rw [hfind h, Cel.firstOfUnit_alone hq]
    exact ite_self _
  · rfl

/-- The only request is served, unless panic defers it. -/
theorem State.dramNext_alone (hq : s.cel.queue = [r]) (hp : s.panic = false ∨ r.rt = true) : s.dramNext = some r := by
  have hbanks : s.cel.banks = [bankKey r.ch r.bank] := by
    rw [Cel.banks, hq]
    rfl
  unfold State.dramNext
  simp only [hbanks, List.filterMap_cons, State.bankNext_alone hq, List.filterMap_nil]
  cases hrt : r.rt with
  | true => simp [hrt]
  | false => simp [hrt, hp.resolve_right (by rw [hrt]; decide)]

/-- The counter of open rows that a service moves, and that of its direction. -/
def State.rowCounter (s : State) (r : DramReq) : Fld :=
  let hit : Bool := s.cel.rows.get 0 (bankKey r.ch r.bank) = r.row + 1
  if hit then R.CEL_CNT_ROWHIT_VALUE else R.CEL_CNT_ROWMISS_VALUE

def DramReq.wayCounter (r : DramReq) : Fld := if r.write then R.CEL_CNT_WR_VALUE else R.CEL_CNT_RD_VALUE

/-- The counters that a service moves. -/
def State.serveCounted (s : State) (r : DramReq) : State :=
  let s := (s.bump (s.rowCounter r)).bump (DramReq.wayCounter r)
  s.when (r.rt && !r.write && decide (r.at_ + us 40 < s.tm.raw)) (·.bump R.CEL_CNT_RT_LATE_VALUE)

/-- The Cellar when a request has been served at an instant, the oldest of its bank or not. -/
def Cel.serve (c : Cel) (r : DramReq) (oldest : Bool) (raw : Nat) : Cel :=
  { c with
    queue := c.queue.filter (fun x => x.num ≠ r.num)
    passed := c.passed.set 0 (bankKey r.ch r.bank) (if oldest then 0 else c.passed.get 0 (bankKey r.ch r.bank) + 1)
    rows := c.rows.set 0 (bankKey r.ch r.bank) (if r.hint then r.row + 1 else 0)
    rowAt := c.rowAt.set 0 (bankKey r.ch r.bank) raw
    idleAt := c.idleAt.set 0 r.ch raw
    served := (r :: c.served).take 64 }

theorem State.serveCounted_good : Good 1 s (s.serveCounted r) := by
  unfold State.serveCounted State.when
  exact ((State.bump_good _ _).trans (State.bump_good _ _)).trans (Good.ite (State.bump_good _ _) Good.refl)

theorem State.serveCounted_cel : (s.serveCounted r).cel = s.cel := State.serveCounted_good.same .cel rfl

theorem State.serveCounted_tm : (s.serveCounted r).tm = s.tm := State.serveCounted_good.same .tm rfl

/-- The state when a request has been served. -/
def State.dramServed (s : State) (r : DramReq) : State :=
  ({ s.serveCounted r with cel := Cel.serve s.cel r ((s.cel.ofBank (bankKey r.ch r.bank)).head? = some r) s.tm.raw } : State).fresh

theorem State.dramServe_eq (hn : s.dramNext = some r) : s.dramServe = s.dramServed r := by
  have hcel (o : Bool) : Cel.serve (s.serveCounted r).cel r o (s.serveCounted r).tm.raw = Cel.serve s.cel r o s.tm.raw := by
    rw [State.serveCounted_cel, State.serveCounted_tm]
  unfold State.dramServe
  rw [hn, State.dramServed, ← hcel]
  rfl

theorem State.rowCounter_addr : (s.rowCounter r).lo = 0 ∧ (s.rowCounter r).hi = 31 ∧ (s.rowCounter r).addr < R.CEL_CNT_RT_LATE_VALUE.addr ∧
    (s.rowCounter r).addr ≠ (DramReq.wayCounter r).addr := by
  unfold State.rowCounter DramReq.wayCounter
  dsimp only
  repeat' split
  all_goals decide

theorem DramReq.wayCounter_addr : (DramReq.wayCounter r).lo = 0 ∧ (DramReq.wayCounter r).hi = 31 ∧ (DramReq.wayCounter r).addr < R.CEL_CNT_RT_LATE_VALUE.addr := by
  unfold DramReq.wayCounter
  split
  all_goals decide

/-- The counters of a service are three different ones. -/
theorem State.rd_serveCounted : (s.serveCounted r).rd (s.rowCounter r) = min 0xFFFFFFFF (s.rd (s.rowCounter r) + 1) ∧
    (s.serveCounted r).rd (DramReq.wayCounter r) = min 0xFFFFFFFF (s.rd (DramReq.wayCounter r) + 1) := by
  obtain ⟨hlo, hhi, hlt, hne⟩ := State.rowCounter_addr (s := s) (r := r)
  obtain ⟨hlo', hhi', hlt'⟩ := DramReq.wayCounter_addr (r := r)
  have hlate (u : State) (c : Bool) : u.SameRegs (· < R.CEL_CNT_RT_LATE_VALUE.addr) (u.when c (·.bump R.CEL_CNT_RT_LATE_VALUE)) :=
    .when (.bump (Nat.lt_irrefl _))
  unfold State.serveCounted
  dsimp only
  rw [(hlate _ _).rd hlt, (hlate _ _).rd hlt']
  exact ⟨(State.rd_bump_addr hne).trans (State.rd_count_word hlo hhi), (State.rd_count_word hlo' hhi').trans (by rw [State.rd_bump_addr hne.symm])⟩

/-- A lone request is served. -/
theorem exec_dramRequest_serve (hg : s.gated 4 = false) (hq : s.cel.queue = [r]) (hp : s.panic = false ∨ r.rt = true) :
    exec (.dramRequest [] 0 1 n) s = .next ((s.atRaw n).dramServed r) :=
  (ungated hg).trans (congrArg Host.Outcome.next (State.dramServe_eq (s := s.atRaw n) (State.dramNext_alone hq hp)))

end

/-! ### Rows and refreshes (R340, R342) -/

section
variable {c : Fin 2}

/-- A bank without an open row. -/
def State.closeRow (s : State) (k : Nat) : State := { s with cel := { s.cel with rows := s.cel.rows.set 0 k 0 } }

theorem State.rows_closeRow : (s.closeRow k).cel.rows.get 0 k = 0 := (Cells.get_set_self : (s.cel.rows.set 0 k 0).get 0 k = 0)

theorem exec_rowIdleClose {b : Nat} (hg : s.gated 4 = false) (hidle : 256 * 500 ≤ ((s.atRaw n).tm.raw - s.cel.rowAt.get 0 (bankKey c.val b)) * 533) :
    exec (.rowIdleClose c b n) s = .next ((s.atRaw n).closeRow (bankKey c.val b)) :=
  (ungated hg).trans (congrArg Host.Outcome.next (if_pos hidle))

/-- The refreshes of a channel that are postponed. -/
def State.postpone (s : State) (ch k : Nat) : State := { s with cel := { s.cel with postponed := s.cel.postponed.set 0 ch k } }

theorem State.postponed_postpone : (s.postpone k m).cel.postponed.get 0 k = m := Cells.get_set_self

/-- What a refresh does once the panic cycles are counted. -/
def State.refreshed (s : State) (ch : Nat) : State :=
  let n := s.cel.postponed.get 0 ch
  if s.panic then (if n < 8 then (s.postpone ch (n + 1)).bump R.CEL_CNT_REF_POST_VALUE else s) else s.postpone ch 0

theorem exec_refresh (hg : s.gated 4 = false) (hsr : s.on R.CEL_STATUS_SR = false) :
    exec (.refresh c n) s = .next ((s.atRaw n).countPanic.refreshed c.val) := by
  have hsr' : (s.atRaw n).countPanic.on R.CEL_STATUS_SR = false :=
    (State.on_of_rd ((State.rd_countPanic (by decide)).trans State.rd_atRaw)).trans hsr
  exact (ungated hg).trans (congrArg Host.Outcome.next (if_neg (hsr' ▸ Bool.false_ne_true)))

theorem State.refreshed_postponed : (s.refreshed k).cel.postponed.get 0 k =
    if s.panic then max (s.cel.postponed.get 0 k) (min 8 (s.cel.postponed.get 0 k + 1)) else 0 := by
  unfold State.refreshed
  dsimp only
  split
  · split
    · next h8 => rw [State.bump_cel, State.postponed_postpone, Nat.min_eq_right h8, Nat.max_eq_right (Nat.le_succ _)]
    · next h8 => rw [Nat.min_eq_left (Nat.le_succ_of_le (Nat.not_lt.mp h8)), Nat.max_eq_left (Nat.not_lt.mp h8)]
  · exact State.postponed_postpone

theorem State.refreshed_count : (s.refreshed k).rd R.CEL_CNT_REF_POST_VALUE =
    if s.panic = true ∧ s.cel.postponed.get 0 k < 8 then min 0xFFFFFFFF (s.rd R.CEL_CNT_REF_POST_VALUE + 1) else s.rd R.CEL_CNT_REF_POST_VALUE := by
  unfold State.refreshed
  dsimp only
  split
  · next hp =>
    simp only [hp, true_and]
    split
    · exact State.rd_count_word rfl rfl
    · rfl
  · next hp =>
    rw [if_neg fun h => hp h.1]
    exact State.rd_withCel

theorem State.countPanic_postponed : s.countPanic.cel.postponed = s.cel.postponed := by
  unfold State.countPanic
  dsimp only
  rw [State.count_cel]

theorem State.countPanic_panic : s.countPanic.panic = s.panic := by simp only [State.panic, State.countPanic_hst]

end

/-! ### Training (R337, R338) -/

theorem State.delays_delayStep : (s.delayStep k).cel.delays.get 0 m = s.cel.delays.get 0 m + if m = k then 1 else 0 := by
  rw [State.delayStep, Cells.modify, Cells.get_set]
  split
  · next e => rw [e]
  · rfl

theorem State.delays_when {c : Bool} : (s.when c (·.delayStep k)).cel.delays.get 0 m = s.cel.delays.get 0 m + if m = k ∧ c = true then 1 else 0 := by
  cases c
  · rw [if_neg (by simp)]
    rfl
  · simp only [and_true]
    exact State.delays_delayStep

theorem State.celUp_when {c : Bool} : (s.when c (·.delayStep k)).celUp m = s.celUp m := by cases c <;> rfl

theorem exec_dqsOscillatorRead {d0 d1 : Bool} (hg : s.gated 4 = false) :
    exec (.dqsOscillatorRead d0 d1 n) s =
      .next (((s.atRaw n).when (d0 && s.celUp 0) (·.delayStep 0)).when (d1 && s.celUp 1) (·.delayStep 1)) := by
  refine (ungated hg).trans (congrArg Host.Outcome.next ?_)
  rw [State.celUp_when]
  rfl

/-- The state with another retraining. -/
def State.withRetrain (s : State) (x : Option Retrain) : State := { s with cel := { s.cel with retrain := x } }

theorem exec_trainReq (hg : s.gated 4 = false) (hr : s.cel.retrain = none) (hc : s.celChannels ≠ 0) :
    exec (.trainReq n) s =
      .next (((s.atRaw n).withRetrain (some ⟨(s.atRaw n).tm.raw, if s.celUp 0 then 0 else 1, [], none⟩)).flag R.CEL_STATUS_RETRAIN_BUSY) := by
  refine (ungated hg).trans (congrArg Host.Outcome.next (if_neg ?_))
  have hnone : (s.atRaw n).cel.retrain = none := hr
  have hup : (s.atRaw n).celChannels ≠ 0 := hc
  rw [hnone, decide_eq_false hup]
  decide

section
variable {x : Retrain} {c : Fin 2} {last : Bool} {st : Status}

/-- A step of the channel in training, when no step of it came before. -/
theorem exec_retrainStep (hg : s.gated 4 = false) (hr : s.cel.retrain = some x) (hc : x.ch = c.val) (hp : s.panic = false) (hx : x.last.get 0 c.val = 0) :
    exec (.retrainStep c last n) s = .next (
      if !last then ((s.atRaw n).delayStep c.val).withRetrain (some { x with last := x.last.set 0 c.val ((s.atRaw n).tm.raw + 1) })
      else if c.val = 0 && s.celUp 1 then ((s.atRaw n).delayStep c.val).withRetrain (some { x with ch := 1 })
      else ((s.atRaw n).delayStep c.val).retrainEnd x .ok) := by
  have hr' : (s.atRaw n).cel.retrain = some x := hr
  have hp' : (s.atRaw n).panic = false := hp
  refine (ungated hg).trans (congrArg Host.Outcome.next ?_)
  rw [hr']
  refine if_neg ?_
  rw [decide_eq_false (not_not_intro hc), hp', decide_eq_false (not_not_intro hx), Bool.false_and]
  decide

/-- The registers of a retraining that has ended. -/
def State.retrainOver (s : State) : State := ((s.withRetrain none).wr R.CEL_STATUS_RETRAIN_BUSY 0).bump R.CEL_CNT_RETRAIN_VALUE

theorem State.retrainEnd_eq : s.retrainEnd x st = match x.port with | some p => s.retrainOver.endLong p st [] | none => s.retrainOver := rfl

theorem State.on_retrainOver : s.retrainOver.on R.CEL_STATUS_RETRAIN_BUSY = false :=
  (State.on_of_rd (State.rd_bump_addr (by decide))).trans (State.on_wr_zero (by decide))

theorem State.rd_retrainOver : s.retrainOver.rd R.CEL_CNT_RETRAIN_VALUE = min 0xFFFFFFFF (s.rd R.CEL_CNT_RETRAIN_VALUE + 1) := by
  rw [State.retrainOver, State.bump, State.rd_count_word rfl rfl, State.rd_wr_addr (by decide)]
  exact congrArg (fun v => min 0xFFFFFFFF (v + 1)) State.rd_withCel

theorem State.retrain_retrainOver : s.retrainOver.cel.retrain = none := congrArg Cel.retrain State.bump_cel

/-- A retraining that ends runs no more, whatever waits for it. -/
theorem State.retrainEnd_spec : (s.retrainEnd x st).cel.retrain = none ∧ (s.retrainEnd x st).on R.CEL_STATUS_RETRAIN_BUSY = false := by
  rw [State.retrainEnd_eq]
  split
  · exact ⟨(congrArg Cel.retrain ((State.endLong_good _ _ _ _).same .cel rfl)).trans State.retrain_retrainOver,
      (State.on_of_rd (State.rd_endLong (by decide))).trans State.on_retrainOver⟩
  · exact ⟨State.retrain_retrainOver, State.on_retrainOver⟩

theorem State.retrainEnd_none (hx : x.port = none) : s.retrainEnd x st = s.retrainOver := by rw [State.retrainEnd_eq, hx]

theorem exec_retrainTimeout (hg : s.gated 4 = false) (hr : s.cel.retrain = some x) (ht : x.since + ms 60 ≤ (s.atRaw n).tm.raw) :
    exec (.retrainTimeout n) s = .next ((s.atRaw n).retrainEnd x .fault) := by
  have hr' : (s.atRaw n).cel.retrain = some x := hr
  refine (ungated hg).trans (congrArg Host.Outcome.next ?_)
  rw [hr']
  exact if_pos ht

end

/-- Which channels training leaves in service, and which it fails. -/
def State.trained (s : State) (up0 up1 both : Bool) : State :=
  (s.wr R.CEL_STATUS_TRAINED (b2n up0 + 2 * b2n (up0 && up1))).wr R.CEL_STATUS_FAIL (b2n (!up0) + 2 * b2n (both && !up1))

theorem exec_trainingComplete {a b : Bool} (hg : s.gated 4 = false) (ht : s.rd R.CEL_STATUS_TRAINED = 0) (hf : s.rd R.CEL_STATUS_FAIL = 0)
    (hc : s.celCfgOk = true) :
    exec (.trainingComplete a b n) s = .next ((s.atRaw n).trained a (decide (s.rd R.CEL_CFG_CH_EN = 3) && b) (s.rd R.CEL_CFG_CH_EN = 3)) := by
  have ht' : (s.atRaw n).rd R.CEL_STATUS_TRAINED = 0 := ht
  have hf' : (s.atRaw n).rd R.CEL_STATUS_FAIL = 0 := hf
  have hc' : (s.atRaw n).celCfgOk = true := hc
  refine (ungated hg).trans (congrArg Host.Outcome.next ?_)
  rw [ht', hf', hc']
  simp only [Bool.and_true]
  rfl

theorem State.rd_trained {up0 up1 both : Bool} : (s.trained up0 up1 both).rd R.CEL_STATUS_TRAINED = b2n up0 + 2 * b2n (up0 && up1) ∧
    (s.trained up0 up1 both).rd R.CEL_STATUS_FAIL = b2n (!up0) + 2 * b2n (both && !up1) := by
  have hb (x y : Bool) : b2n x + 2 * b2n y < 4 := by revert x y; decide
  exact ⟨(State.rd_wr_apart (by decide)).trans (State.rd_wr_of_lt (by decide) (hb _ _)), State.rd_wr_of_lt (by decide) (hb _ _)⟩

/-- The two channels as TRAINED and FAIL show them; CH1 is in service with CH0 alone. -/
theorem trained_words (a b both : Bool) :
    b2n a + 2 * b2n (a && (both && b)) = (if a then 1 else 0) + (if both = true ∧ a = true ∧ b = true then 2 else 0) ∧
      b2n (!a) + 2 * b2n (both && !(both && b)) = (if a then 0 else 1) + (if both = true ∧ b = false then 2 else 0) := by
  revert a b both
  decide

/-- A channel that sleeps. -/
def State.powerDown (s : State) (ch : Nat) : State := { s with cel := { s.cel with asleep := s.cel.asleep.set 0 ch 1 } }

theorem State.asleep_powerDown : (s.powerDown k).cel.asleep.get 0 k = 1 := (Cells.get_set_self : (s.cel.asleep.set 0 k 1).get 0 k = 1)

theorem exec_powerDownIdle {c : Fin 2} (hg : s.gated 4 = false) (hm : s.rd R.CLK_MODE_CUR = 1) (hq : ∀ r ∈ s.cel.queue, r.ch ≠ c.val)
    (hi : max 1 (s.rd R.CEL_SCHED_PD_IDLE) * 500 ≤ ((s.atRaw n).tm.raw - s.cel.idleAt.get 0 c.val) * 533) :
    exec (.powerDownIdle c n) s = .next ((s.atRaw n).powerDown c.val) := by
  have hm' : (s.atRaw n).rd R.CLK_MODE_CUR = 1 := hm
  have hquiet : (s.cel.queue.any fun r => r.ch = c.val) = false := List.any_eq_false.mpr fun r hr => by simpa using hq r hr
  refine (ungated hg).trans (congrArg Host.Outcome.next (if_pos ?_))
  rw [decide_eq_true hm', Bool.true_and]
  exact Bool.and_eq_true_iff.mpr ⟨decide_eq_true hi, (congrArg (!·) hquiet).trans rfl⟩

end

section
variable {s : State} {x : DramArr} {r : DramReq} {n : Nat}

/-- A request of the window that its port grants at once reaches the Cellar's queue. -/
theorem State.windowGranted (hx : x.cls = 4) (hw : (s.fabAt fabDram).waiting = []) (hsr : s.on R.CEL_STATUS_SR = false) (hl : s.clkLost 3 = false)
    (ha : x.addr < s.dramSize) :
    ∃ (t : State) (r : DramReq), (s.fabAsk fabDram ⟨x.master, 0, some x⟩).fabServeN fabDram 1 = t ∧ t.cel.queue = s.cel.queue ++ [r] ∧ r.cls = 4 ∧
      (t.fabAt fabDram).waiting = [] ∧ (t.fabAt fabDram).last = some x.master ∧ t.mem = s.mem := by
  have hone : ((s.fabAsk fabDram ⟨x.master, 0, some x⟩).fabAt fabDram).waiting = [⟨x.master, 0, some x⟩] := by
    rw [State.fabAt_fabAsk]
    exact congrArg (· ++ _) hw
  have hfab (u : State) (c : Cel) : ({ u with cel := c } : State).fabAt fabDram = u.fabAt fabDram := rfl
  refine ⟨_, _, (congrArg Prod.snd (State.fabServe_alone hone)).trans (State.dramArrive_joins hsr hl ha), State.queue_arrived, congrArg Fin.val hx, ?_, ?_, rfl⟩
  · rw [hfab, State.fabAt_setFab]
  · rw [hfab, State.fabAt_setFab]

/-- What the service of a lone request leaves. -/
theorem State.dramServed_spec (hq : s.cel.queue = [r]) :
    (s.dramServed r).cel.queue = [] ∧ (s.dramServed r).cel.served.head? = some r ∧
      (s.dramServed r).cel.rows.get 0 (bankKey r.ch r.bank) = (if r.hint then r.row + 1 else 0) ∧
      (s.dramServed r).rd (s.rowCounter r) = min 0xFFFFFFFF (s.rd (s.rowCounter r) + 1) ∧
      (s.dramServed r).rd (DramReq.wayCounter r) = min 0xFFFFFFFF (s.rd (DramReq.wayCounter r) + 1) ∧ (s.dramServed r).mem = s.mem := by
  have hrd (f : Fld) : (s.dramServed r).rd f = (s.serveCounted r).rd f := State.rd_congr rfl rfl
  rw [hrd, hrd]
  refine ⟨?_, rfl, Cells.get_set_self, State.rd_serveCounted.1, State.rd_serveCounted.2, State.serveCounted_good.same .mem rfl⟩
  show s.cel.queue.filter (fun x => x.num ≠ r.num) = []
  rw [hq]
  simp

end

/-- Settles O55: a request alone in its cycle, at its port or in the queue meets no other, so each step of the controller is the one its rule names. -/
theorem dramController : Obligations.DramController := by
  unfold Obligations.DramController
  refine ⟨fun s x n hg hl => ⟨fun hx hsr ha => ?_, fun hx hsr ha hv => ?_, fun hx => ⟨?_, fun hw hsr ha => ?_⟩⟩, fun s r n hg hq hp => ?_,
    fun s c b n hg hi => ⟨_, exec_rowIdleClose hg hi, State.rows_closeRow, rfl, rfl⟩, fun s c n hg hsr => ⟨_, exec_refresh hg hsr, ?_, ?_⟩,
    fun s d0 d1 n hg => ⟨_, exec_dqsOscillatorRead hg, ?_, ?_⟩, fun s n hg hr hc => ⟨_, exec_trainReq hg hr hc, State.on_flag_self (by decide), rfl⟩,
    fun s c n x hg hr hc hp hx => ⟨⟨_, exec_retrainStep hg hr hc hp hx, ?_, rfl⟩, fun h0 hup => ⟨_, exec_retrainStep hg hr hc hp hx, ?_⟩,
      fun h1 hport => ⟨_, exec_retrainStep hg hr hc hp hx, ?_⟩⟩,
    fun s n x hg hr ht => ⟨_, exec_retrainTimeout hg hr ht, State.retrainEnd_spec⟩, fun s a b n hg ht hf hc => ⟨_, exec_trainingComplete hg ht hf hc, ?_⟩,
    fun s c n hg hm hq hi => ⟨_, exec_powerDownIdle hg hm hq hi, State.asleep_powerDown, rfl⟩⟩
  · exact ⟨_, (s.atRaw n).reqOf x, (exec_dramRequest_direct hg hx).trans (congrArg _ (State.dramArrive_joins (s := s.atRaw n) hsr hl ha)),
      rfl, rfl, rfl, rfl, rfl, rfl, rfl⟩
  · obtain ⟨hvalid, hkind, -, -, -, haddr⟩ := State.busError_logs (s := s.atRaw n) (m := x.master) (c := 0) (a := x.addr % 2 ^ 32) (k := 0) (wr := x.write) hv
    exact ⟨_, (exec_dramRequest_direct hg hx).trans (congrArg _ (State.dramArrive_error (s := s.atRaw n) hsr hl ha)),
      congrArg Cel.queue ((State.busError_good _ _ _ _ _ _).same .cel rfl), hvalid, hkind, haddr.trans (Nat.mod_mod _ _), State.rd_busError_count⟩
  · exact ⟨_, exec_dramRequest_window hg hx, rfl, congrArg FabPort.waiting State.fabAt_fabAsk, rfl⟩
  · obtain ⟨t, r, ht, hq, hcls, hwait, hlast, hmem⟩ := State.windowGranted (s := s.atRaw n) hx hw hsr hl ha
    exact ⟨t, r, (exec_dramRequest_window hg hx).trans (congrArg _ ht), hq, hcls, hwait, hlast, hmem⟩
  · obtain ⟨hqueue, hserved, hrows, hrow, hway, hmem⟩ := State.dramServed_spec (s := s.atRaw n) hq
    refine ⟨_, exec_dramRequest_serve hg hq hp, hqueue, hserved, hrows, ?_, hway, hmem⟩
    have he : (s.atRaw n).rowCounter r =
        if s.cel.rows.get 0 (bankKey r.ch r.bank) = r.row + 1 then R.CEL_CNT_ROWHIT_VALUE else R.CEL_CNT_ROWMISS_VALUE := by
      simp only [State.rowCounter, decide_eq_true_eq]
      rfl
    rw [← he]
    exact hrow
  · rw [State.refreshed_postponed, State.countPanic_panic, State.countPanic_postponed]
    rfl
  · rw [State.refreshed_count, State.countPanic_panic, State.countPanic_postponed, State.rd_countPanic (by decide)]
    rfl
  · rw [State.delays_when, State.delays_when]
    simp [State.celUp]
  · rw [State.delays_when, State.delays_when]
    simp [State.celUp]
  · exact (State.delays_delayStep (s := s.atRaw n)).trans (by rw [if_pos rfl]; rfl)
  · rw [if_neg (by decide), if_pos (by rw [decide_eq_true h0, State.celUp, hup]; rfl)]
    rfl
  · rw [if_neg (by decide), if_neg (by rw [h1]; simp), State.retrainEnd_none hport]
    exact ⟨State.retrain_retrainOver, State.on_retrainOver, State.rd_retrainOver⟩
  · obtain ⟨htrained, hfail⟩ := trained_words a b (s.rd R.CEL_CFG_CH_EN = 3)
    rw [State.rd_trained.1, State.rd_trained.2, htrained, hfail]
    simp only [decide_eq_true_eq, and_self]

end Sys2Proof.Machine
end

section
/-! PROOFS. Clock sources (R349–R355): RC and its trim, the XO, the monitors and the fallback to RC. -/

-- One proof at a time: the package as one text then takes less memory.
set_option Elab.async false

namespace Sys2Proof.Machine

open Sys2Proof

section
variable {s t : State} {f g : Fld} {b i k n p v : Nat} {P : Nat → Prop}

/-! ### One bit of a mask in a field -/

/-- A bit of a field that is written alone reads back. -/
theorem State.bitOf_rd_wr_bit {x : Bool} (hf : f.lo ≤ f.hi) (hb : b < f.hi - f.lo + 1) :
    bitOf ((s.wr f (setBits v b b (b2n x))).rd f) b = x := by
  rw [State.rd_wr_self hf, bitOf_eq_testBit, Nat.testBit_mod_two_pow, testBit_setBits le_rfl, if_neg (lt_irrefl b), if_pos le_rfl, Nat.sub_self,
    decide_eq_true hb]
  cases x <;> rfl

theorem srcBit_lt {c : ClkSrc} : srcBit c < 6 := by cases c <;> decide

theorem State.clkFailed_setClkFail (hb : b < 6) : bitOf ((s.setClkFail b).rd R.CLK_STAT_FAIL) b = true :=
  State.bitOf_rd_wr_bit (x := true) (by decide) hb

theorem State.clkGood_setClkGood {x : Bool} (hb : b < 6) : bitOf ((s.setClkGood b x).rd R.CLK_MON_GOOD) b = x := State.bitOf_rd_wr_bit (by decide) hb

/-! ### What a failure leaves of the clock unit's registers -/

/-- The registers of the clock unit. -/
@[reducible] def ClockRegs (b : Nat) : Prop := 0x50050000 ≤ b ∧ b < 0x50060000

theorem State.SameRegs.clock (h : s.SameRegs Steady t) : s.SameRegs ClockRegs t := h.mono fun _ hb => .inr hb

theorem State.SameRegs.psAllStop : s.SameRegs Steady s.psAllStop := .foldl_range (fun _ _ hn => .ite (State.SameRegs.lineAbort.trans
  ((State.SameRegs.gatesLow hn).trans (.setPsState hn)))) _

theorem State.SameRegs.wr64 (hf : ¬ P f.addr) (hg : ¬ P g.addr) : s.SameRegs P (s.wr64 f g v) := State.SameRegs.trans (.wr hf) (.wr hg)

/-- The words that OFS, ANC, RATE and I are shown in. -/
theorem State.SameRegs.showTime (h : ∀ b, 0x40300030 ≤ b → b ≤ 0x40300044 → ¬ P b) : s.SameRegs P s.showTime := by
  have hno (f : Fld) (h1 : 0x40300030 ≤ f.addr := by decide) (h2 : f.addr ≤ 0x40300044 := by decide) : ¬ P f.addr := h _ h1 h2
  exact ((State.SameRegs.wr64 (hno R.TSU_OFS_LO_VALUE) (hno R.TSU_OFS_HI_VALUE)).trans
    (.wr64 (hno R.TSU_ANC_LO_VALUE) (hno R.TSU_ANC_HI_VALUE))).trans (State.SameRegs.trans (.wr (hno R.TSU_RATE_VALUE)) (.wr (hno R.TSU_SERVO_I_VALUE)))

theorem State.SameRegs.setRate {r : Int} : s.SameRegs P (s.setRate r) := .of_eq rfl rfl

theorem State.SameRegs.loseLock (h1 : ¬ P R.TSU_STATUS_w.addr) (h2 : ¬ P R.TSU_CNT_UNLOCK_COUNT.addr) (h : ∀ b, P b → Steady b) : s.SameRegs P s.loseLock :=
  (State.SameRegs.trans (.wr (f := R.TSU_STATUS_LOCKED) h1) (State.SameRegs.trans (.wr (f := R.TSU_STATUS_HOLDOVER) h1) (.bump h2))).trans
    (State.SameRegs.evTime.mono h)

theorem State.on_loseLock_holdover : s.loseLock.on R.TSU_STATUS_HOLDOVER = true := by
  rw [State.loseLock, State.SameRegs.evTime.on (by decide), State.on_of_rd (State.rd_bump_addr (by decide)), State.on_flag_self (by decide)]

/-- The time unit when the system clock has failed: holdover. -/
def State.heldOver (s : State) : State :=
  if s.on R.TSU_STATUS_LOCKED then (s.setRate s.tm.servoI).loseLock.showTime else s.flag R.TSU_STATUS_HOLDOVER

theorem State.SameRegs.heldOver : s.SameRegs ClockRegs s.heldOver := by
  unfold State.heldOver
  split
  · exact State.SameRegs.setRate.trans ((State.SameRegs.loseLock (by decide) (by decide) fun _ hb => .inr hb).trans
      (.showTime fun b h1 h2 hb => absurd (hb.1.trans h2) (by decide)))
  · exact .wr (by decide)

theorem State.on_heldOver : s.heldOver.on R.TSU_STATUS_HOLDOVER = true := by
  unfold State.heldOver
  split
  · have hshow (u : State) : u.showTime.on R.TSU_STATUS_HOLDOVER = u.on R.TSU_STATUS_HOLDOVER :=
      (State.SameRegs.showTime (P := (· = R.TSU_STATUS_HOLDOVER.addr)) fun b h1 _ hb => absurd (hb ▸ h1) (by decide)).on rfl
    rw [hshow, State.on_loseLock_holdover]
  · exact State.on_flag_self (by decide)

/-- The system domains run on RC, or wait for it. -/
def State.onRc (s : State) : State :=
  if s.on R.CLK_STAT_RC_READY then s.flag R.CLK_STAT_ON_RC else { s.flag R.CLK_STAT_HOLD_WAIT with clk := { s.clk with held := true } }

theorem State.toRc_eq : s.toRc = s.onRc.psAllStop.heldOver := rfl

theorem State.rd_onRc (h : Fld.Apart g R.CLK_STAT_ON_RC) (hw : Fld.Apart g R.CLK_STAT_HOLD_WAIT) : s.onRc.rd g = s.rd g := by
  unfold State.onRc
  split
  · exact State.rd_wr_apart h
  · exact State.rd_wr_apart hw

theorem State.SameRegs.stopped : s.onRc.SameRegs ClockRegs s.toRc := by
  rw [State.toRc_eq]
  exact State.SameRegs.psAllStop.clock.trans .heldOver

theorem State.rd_toRc (hc : ClockRegs g.addr) (h : Fld.Apart g R.CLK_STAT_ON_RC) (hw : Fld.Apart g R.CLK_STAT_HOLD_WAIT) : s.toRc.rd g = s.rd g :=
  (State.SameRegs.stopped.rd hc).trans (State.rd_onRc h hw)

theorem State.toRc_runs (hr : s.on R.CLK_STAT_RC_READY = true) : s.toRc.on R.CLK_STAT_ON_RC = true ∧ s.toRc.on R.TSU_STATUS_HOLDOVER = true := by
  refine ⟨?_, by rw [State.toRc_eq, State.on_heldOver]⟩
  rw [State.SameRegs.stopped.on (by decide), State.onRc, if_pos hr, State.on_flag_self (by decide)]

/-- A TDM port loses its alignment. -/
def State.tdmLoses (s : State) (p : Nat) : State :=
  (s.setTdm p { s.tdmSt p with cap := none, align := { (s.tdmSt p).align with inTol := 0 } }).wr (R.TDM_STATUS_ALIGNED p) 0

/-- An AES3 input loses its alignment. -/
def State.aesLoses (s : State) (i : Nat) : State :=
  (s.setAes i { s.aesSt i with cap := none, align := { (s.aesSt i).align with inTol := 0 } }).wr (R.AES_ISTAT_ALIGNED i) 0

theorem State.portsLose_eq : s.portsLose = (List.range 4).foldl State.aesLoses ((List.range 16).foldl State.tdmLoses s) := rfl

theorem State.SameRegs.setTdm {x : TdmSt} : s.SameRegs P (s.setTdm p x) := .of_eq rfl rfl

theorem State.SameRegs.setAes {x : AesSt} : s.SameRegs P (s.setAes p x) := .of_eq rfl rfl

theorem State.SameRegs.tdmLoses (hp : p < 16) : s.SameRegs ClockRegs (s.tdmLoses p) :=
  State.SameRegs.setTdm.trans (.wr (show ¬ ClockRegs (0x50000010 + 1024 * p) by unfold ClockRegs; omega))

theorem State.SameRegs.aesLoses (hp : p < 4) : s.SameRegs ClockRegs (s.aesLoses p) :=
  State.SameRegs.setAes.trans (.wr (show ¬ ClockRegs (0x50010004 + 256 * p) by unfold ClockRegs; omega))

theorem State.SameRegs.portsLose : s.SameRegs ClockRegs s.portsLose := by
  rw [State.portsLose_eq]
  exact (State.SameRegs.foldl_range (fun _ _ => .tdmLoses) s).trans (.foldl_range (fun _ _ => .aesLoses) _)

theorem State.SameRegs.linkLost (hp : p < 3) : s.SameRegs ClockRegs (s.linkLost p) := by
  have hmac (u : State) (x : MacSt) : u.SameRegs ClockRegs (u.setMac p x) := .of_eq rfl rfl
  have hno (o : Nat) (ho : o < 0x40500000) : ¬ ClockRegs (o + 65536 * p) := by unfold ClockRegs; omega
  have hfall (u : State) : u.SameRegs ClockRegs (u.linkFalls p) :=
    (State.SameRegs.trans (.wr (f := R.MAC_STATUS_LINK p) (hno _ (by decide))) (State.SameRegs.trans (.wr (f := R.MAC_STATUS_LINK_CHG p) (hno _ (by decide)))
      (.bump (f := R.MAC_CNT_LINK_DOWN_VALUE p) (hno _ (by decide))))).trans (hmac _ _)
  unfold State.linkLost State.setLane
  exact ((hmac _ _).trans (.when (.bump (f := R.MAC_CNT_BLOCK_LOCK_VALUE p) (hno _ (by decide))))).trans (.ite (hfall _))

/-! ### A source that fails (R352, R353) -/

/-- A source is lost. -/
def State.loses (s : State) (b : Nat) : State :=
  { s with clk := { s.clk with good := s.clk.good.set 0 b 0, lost := s.clk.lost.filter (· ≠ b) ++ [b] } }

/-- A failure, before what the unit does about it. -/
def State.clkMarked (s : State) (b : Nat) : State := (((s.setClkFail b).setClkGood b false).bump R.CLK_CNT_MON_FAIL_VALUE).loses b

theorem State.SameRegs.loses : s.SameRegs P (s.loses b) := .of_eq rfl rfl

theorem State.rd_clkMarked (h1 : Fld.Apart g R.CLK_STAT_FAIL) (h2 : g.addr ≠ R.CLK_MON_GOOD.addr) (h3 : g.addr ≠ R.CLK_CNT_MON_FAIL_VALUE.addr) :
    (s.clkMarked b).rd g = s.rd g := by
  rw [State.clkMarked, State.SameRegs.loses.rd (P := fun _ => True) trivial, State.rd_bump_addr h3, State.setClkGood, State.rd_wr_addr h2, State.setClkFail, State.rd_wr_apart h1]

theorem State.held_clkMarked : (s.clkMarked b).clk.held = s.clk.held := by
  have hlose (u : State) : (u.loses b).clk.held = u.clk.held := rfl
  rw [State.clkMarked, hlose, (State.bump_good _ _).same .clk rfl]
  rfl

/-- What a failed source shows in the clock unit. -/
def State.showsFailure (s : State) (b count : Nat) : Prop :=
  bitOf (s.rd R.CLK_STAT_FAIL) b = true ∧ bitOf (s.rd R.CLK_MON_GOOD) b = false ∧ s.rd R.CLK_CNT_MON_FAIL_VALUE = count

theorem State.showsFailure_congr (h : ∀ g ∈ [R.CLK_STAT_FAIL, R.CLK_MON_GOOD, R.CLK_CNT_MON_FAIL_VALUE], t.rd g = s.rd g) (hs : s.showsFailure b n) :
    t.showsFailure b n := by
  simp only [List.forall_mem_cons] at h
  obtain ⟨h1, h2, h3, -⟩ := h
  simpa only [State.showsFailure, h1, h2, h3] using hs

theorem State.clkMarked_shows (hb : b < 6) : (s.clkMarked b).showsFailure b (min 0xFFFFFFFF (s.rd R.CLK_CNT_MON_FAIL_VALUE + 1)) := by
  have hrd (u : State) (g : Fld) : (u.loses b).rd g = u.rd g := State.SameRegs.loses.rd (P := fun _ => True) trivial
  unfold State.clkMarked
  refine ⟨?_, ?_, ?_⟩
  · rw [hrd, State.rd_bump_addr (by decide), State.setClkGood, State.rd_wr_addr (by decide), State.clkFailed_setClkFail hb]
  · rw [hrd, State.rd_bump_addr (by decide), State.clkGood_setClkGood hb]
  · rw [hrd, State.bump, State.rd_count_word rfl rfl, State.setClkGood, State.rd_wr_addr (by decide), State.setClkFail, State.rd_wr_addr (by decide)]

/-- The sources of the system clock. -/
def SystemSrc (c : ClkSrc) : Prop := c = .xo ∨ c = .pllA ∨ c = .pllB

theorem State.clkFail_system {c : ClkSrc} (hc : SystemSrc c) :
    s.clkFail c = if (s.clkMarked (srcBit c)).on R.CLK_STAT_ON_RC || (s.clkMarked (srcBit c)).clk.held then s.clkMarked (srcBit c)
      else (s.clkMarked (srcBit c)).toRc := by
  rcases hc with rfl | rfl | rfl <;> rfl

theorem State.clkFail_cellar : s.clkFail .cellarPll = s.clkMarked 3 := rfl

theorem State.clkFail_audio : s.clkFail .audioPll = (s.clkMarked 4).portsLose := rfl

/-- Both service ports lose their lanes, and the mirror its link. -/
def State.lanesLost (s : State) : State := ((s.linkLost 0).linkLost 1).bump R.FLD_CNT_LINK_DOWN_COUNT

theorem State.clkFail_serdes : s.clkFail .serdes = (s.clkMarked 5).lanesLost := rfl

theorem State.SameRegs.lanesLost : s.SameRegs ClockRegs s.lanesLost :=
  ((State.SameRegs.linkLost (by decide)).trans (.linkLost (by decide))).trans (.bump (by decide))

/-- The unit's answer to a failure leaves what it shows. -/
theorem State.rd_clkFail {c : ClkSrc} (hg : g ∈ [R.CLK_STAT_FAIL, R.CLK_MON_GOOD, R.CLK_CNT_MON_FAIL_VALUE]) :
    (s.clkFail c).rd g = (s.clkMarked (srcBit c)).rd g := by
  obtain ⟨hclk, hrc, hwait⟩ : ClockRegs g.addr ∧ Fld.Apart g R.CLK_STAT_ON_RC ∧ Fld.Apart g R.CLK_STAT_HOLD_WAIT := by
    have hall : ∀ x ∈ [R.CLK_STAT_FAIL, R.CLK_MON_GOOD, R.CLK_CNT_MON_FAIL_VALUE],
      ClockRegs x.addr ∧ Fld.Apart x R.CLK_STAT_ON_RC ∧ Fld.Apart x R.CLK_STAT_HOLD_WAIT := by decide
    exact hall g hg
  have hsys (h : SystemSrc c) : (s.clkFail c).rd g = (s.clkMarked (srcBit c)).rd g := by
    rw [State.clkFail_system h]
    split
    · rfl
    · exact State.rd_toRc hclk hrc hwait
  cases c with
  | xo => exact hsys (.inl rfl)
  | pllA => exact hsys (.inr (.inl rfl))
  | pllB => exact hsys (.inr (.inr rfl))
  | cellarPll => rw [State.clkFail_cellar]; rfl
  | audioPll => rw [State.clkFail_audio, State.SameRegs.portsLose.rd hclk]; rfl
  | serdes => rw [State.clkFail_serdes, State.SameRegs.lanesLost.rd hclk]; rfl

theorem State.clkFail_shows {c : ClkSrc} : (s.clkFail c).showsFailure (srcBit c) (min 0xFFFFFFFF (s.rd R.CLK_CNT_MON_FAIL_VALUE + 1)) :=
  State.showsFailure_congr (fun _ hg => State.rd_clkFail hg) (State.clkMarked_shows srcBit_lt)

/-- A failed system clock moves its domains to RC. -/
theorem State.clkFail_toRc {c : ClkSrc} (hc : SystemSrc c) (hr : s.on R.CLK_STAT_RC_READY = true) (ho : s.on R.CLK_STAT_ON_RC = false) (hk : s.clk.held = false) :
    (s.clkFail c).on R.CLK_STAT_ON_RC = true ∧ (s.clkFail c).on R.TSU_STATUS_HOLDOVER = true := by
  have hon (g : Fld) (h1 : Fld.Apart g R.CLK_STAT_FAIL) (h2 : g.addr ≠ R.CLK_MON_GOOD.addr) (h3 : g.addr ≠ R.CLK_CNT_MON_FAIL_VALUE.addr) :
      (s.clkMarked (srcBit c)).on g = s.on g := State.on_of_rd (State.rd_clkMarked h1 h2 h3)
  rw [State.clkFail_system hc, hon _ (by decide) (by decide) (by decide), ho, State.held_clkMarked, hk, Bool.or_false, if_neg Bool.false_ne_true]
  exact State.toRc_runs ((hon _ (by decide) (by decide) (by decide)).trans hr)

/-! ### RC and its trim (R350, R351) -/

theorem exec_rcReady (h : s.clk.rcAt + us 20 ≤ (s.atRaw n).tm.raw) :
    exec (.rcReady n) s = .next (if s.clk.held then { (s.atRaw n).flag R.CLK_STAT_RC_READY with clk := { s.clk with held := false } }.flag R.CLK_STAT_ON_RC
      else (s.atRaw n).flag R.CLK_STAT_RC_READY) := congrArg Host.Outcome.next (if_pos h)

/-- A write of the trim, before RC settles anew. -/
def State.trimmed (s : State) (w : Nat) : State := { s with clk := { s.clk with absent := 0 } }.wr R.CLK_RC_TRIM_w (w % 65536)

/-- RC settles anew. -/
def State.unsettled (s : State) : State := { s.wr R.CLK_STAT_RC_READY 0 with clk := { s.clk with rcAt := s.tm.raw } }

theorem State.trim_eq {w : Nat} : s.trim w =
    if 16 < (((w % 1024 : Nat) : Int) - (s.rd R.CLK_RC_TRIM_TRIM : Int)).natAbs then (s.trimmed w).unsettled else s.trimmed w := rfl

theorem State.rd_unsettled (h : g.addr ≠ R.CLK_STAT_RC_READY.addr) : s.unsettled.rd g = s.rd g := (State.rd_congr rfl rfl).trans (State.rd_wr_addr h)

theorem State.on_unsettled : s.unsettled.on R.CLK_STAT_RC_READY = false :=
  (State.on_congr rfl rfl).trans (State.on_wr_zero (s := s) (f := R.CLK_STAT_RC_READY) (by decide))

theorem State.rd_trimmed (w : BitVec 16) : (s.trimmed w.toNat).rd R.CLK_RC_TRIM_w = w.toNat := by
  have hw : w.toNat < 65536 := w.isLt
  rw [State.trimmed, Nat.mod_eq_of_lt hw, State.rd_wr_of_lt (by decide) (hw.trans (by decide))]

theorem State.on_trimmed {w : Nat} (h : g.addr ≠ R.CLK_RC_TRIM_w.addr) : (s.trimmed w).on g = s.on g :=
  (State.on_of_rd (State.rd_wr_addr h)).trans (State.on_congr rfl rfl)

/-- A trim interval when its error is measured. -/
def State.rcMeasured (s : State) (e : Nat) (d : Int) : State :=
  { s with clk := { s.clk with absent := 0 } }.wr R.CLK_RC_MEAS_VALUE (unsignedOf 16 (satBits 16 (rheDiv (d * 10000) e)))

/-- The trim after an interval with an error. -/
def State.nextTrim (s : State) (e : Nat) (d : Int) : Nat :=
  if d.natAbs * 4000 ≤ e then s.rd R.CLK_RC_TRIM_TRIM else if 0 < d then s.rd R.CLK_RC_TRIM_TRIM - 1 else min 1023 (s.rd R.CLK_RC_TRIM_TRIM + 1)

theorem State.rd_rcMeasured_trim {e : Nat} {d : Int} : (s.rcMeasured e d).rd R.CLK_RC_TRIM_TRIM = s.rd R.CLK_RC_TRIM_TRIM :=
  (State.rd_wr_addr (by decide)).trans (State.rd_congr rfl rfl)

theorem State.rd_rcMeasured {e : Nat} {d : Int} :
    (s.rcMeasured e d).rd R.CLK_RC_MEAS_VALUE = unsignedOf 16 (satBits 16 (rheDiv (d * 10000) e)) := State.rd_wr_of_lt (by decide) unsignedOf_lt

theorem State.trim_lt : s.rd R.CLK_RC_TRIM_TRIM < 1024 := bitsOf_lt

/-- What an interval leaves: the error, and the trim one step on. -/
theorem exec_rcTrimInterval (hsrc : s.rd R.CLK_RC_TRIM_SRC ≠ 0) (ha : s.clk.absent < 2) :
    let e := trimExpected (s.rd R.CLK_RC_TRIM_SRC)
    let d : Int := (k : Int) - e
    ∃ t : State, exec (.rcTrimInterval (some k)) s = .next t ∧ t.clk.absent = 0 ∧
      t.rd R.CLK_RC_MEAS_VALUE = unsignedOf 16 (satBits 16 (rheDiv (d * 10000) e)) ∧ t.rd R.CLK_RC_TRIM_TRIM = s.nextTrim e d := by
  intro e d
  have hexec : exec (.rcTrimInterval (some k)) s = .next (if d.natAbs * 4000 ≤ e then s.rcMeasured e d
      else if 0 < d then (s.rcMeasured e d).wr R.CLK_RC_TRIM_TRIM ((s.rcMeasured e d).rd R.CLK_RC_TRIM_TRIM - 1)
      else (s.rcMeasured e d).wr R.CLK_RC_TRIM_TRIM (min 1023 ((s.rcMeasured e d).rd R.CLK_RC_TRIM_TRIM + 1))) :=
    congrArg Host.Outcome.next (if_neg (by simp [hsrc, Nat.not_le.mpr ha]))
  have hstep (w : Nat) (hw : w < 1024) : ((s.rcMeasured e d).wr R.CLK_RC_TRIM_TRIM w).rd R.CLK_RC_MEAS_VALUE =
        unsignedOf 16 (satBits 16 (rheDiv (d * 10000) e)) ∧ ((s.rcMeasured e d).wr R.CLK_RC_TRIM_TRIM w).rd R.CLK_RC_TRIM_TRIM = w :=
    ⟨(State.rd_wr_addr (by decide)).trans State.rd_rcMeasured, State.rd_wr_of_lt (by decide) hw⟩
  have hlt := State.trim_lt (s := s)
  rw [State.rd_rcMeasured_trim] at hexec
  unfold State.nextTrim
  by_cases hsmall : d.natAbs * 4000 ≤ e
  · rw [if_pos hsmall] at hexec ⊢
    exact ⟨_, hexec, rfl, State.rd_rcMeasured, State.rd_rcMeasured_trim⟩
  rw [if_neg hsmall] at hexec ⊢
  by_cases hpos : 0 < d
  · rw [if_pos hpos] at hexec ⊢
    exact ⟨_, hexec, rfl, hstep _ (by omega)⟩
  · rw [if_neg hpos] at hexec ⊢
    exact ⟨_, hexec, rfl, hstep _ (by omega)⟩

/-! ### Monitors (R349, R352) -/

theorem exec_xoStartTimeout (h : s.clk.xoAt + 4 * ms (2 * 4 ^ s.straps.xo.toNat) ≤ (s.atRaw n).tm.raw) (hg : bitOf (s.rd R.CLK_MON_GOOD) 0 = false) :
    exec (.xoStartTimeout n) s = .next ((s.atRaw n).setClkFail 0) := by
  have hgood : (s.atRaw n).clkGood 0 = false := by rw [State.clkGood, State.rd_atRaw, hg]
  exact congrArg Host.Outcome.next (if_pos (by rw [hgood]; exact Bool.and_eq_true _ _ |>.mpr ⟨decide_eq_true h, rfl⟩))

theorem State.clkArmed_of {c : ClkSrc} (hx : c = .xo → s.clk.xoArmed = true) (hm : s.rd R.CLK_MODE_CUR ≠ 2) : (s.atRaw n).clkArmed c = true := by
  rw [State.clkArmed, State.rd_atRaw, decide_eq_true hm, Bool.and_true]
  by_cases h : c = .xo
  · rw [State.atRaw_clk, hx h, Bool.or_true]
  · rw [decide_eq_true h, Bool.true_or]

theorem exec_monitorWindow {c : ClkSrc} {e : Nat} (ha : (s.atRaw n).clkArmed c = true) :
    exec (.monitorWindow c k e n) s = .next (if 100 * ((k : Int) - (e : Int)).natAbs ≤ 3 * e then (s.atRaw n).clkPass c else (s.atRaw n).clkFail c) :=
  congrArg Host.Outcome.next (if_neg (by rw [ha]; exact Bool.false_ne_true))

theorem exec_monitorNoEdge {c : ClkSrc} (ha : (s.atRaw n).clkArmed c = true) : exec (.monitorNoEdge c n) s = .next ((s.atRaw n).clkFail c) :=
  congrArg Host.Outcome.next (if_pos ha)

theorem exec_pllUnlock {c : ClkSrc} (hx : c ≠ .xo) (hs : c ≠ .serdes) : exec (.pllUnlock c n) s = .next ((s.atRaw n).clkFail c) := by
  cases c with
  | xo => exact absurd rfl hx
  | serdes => exact absurd rfl hs
  | pllA => rfl
  | pllB => rfl
  | cellarPll => rfl
  | audioPll => rfl

theorem State.clkPass_spec {c : ClkSrc} :
    bitOf ((s.clkPass c).rd R.CLK_MON_GOOD) (srcBit c) = true ∧ (s.clkPass c).clk.good.get 0 (srcBit c) = s.clk.good.get 0 (srcBit c) + 1 ∧
      (s.clkPass c).rd R.CLK_STAT_FAIL = s.rd R.CLK_STAT_FAIL := by
  have hrd (g : Fld) : (s.clkPass c).rd g = (s.setClkGood (srcBit c) true).rd g := State.rd_congr rfl rfl
  have hset (u : State) (b : Nat) : (u.clk.good.modify 0 b (fun n => n + 1)).get 0 b = u.clk.good.get 0 b + 1 := Cells.get_set_self
  refine ⟨?_, hset _ _, ?_⟩
  · rw [hrd, State.clkGood_setClkGood srcBit_lt]
  · rw [hrd, State.setClkGood, State.rd_wr_addr (by decide)]

/-- Every failure of a source that `o` ends in. -/
theorem clkFail_outcome {c : ClkSrc} : ∃ t : State, (Host.Outcome.next ((s.atRaw n).clkFail c) : Host.Outcome State Fault Refusal) = .next t ∧
    bitOf (t.rd R.CLK_STAT_FAIL) (srcBit c) = true ∧ bitOf (t.rd R.CLK_MON_GOOD) (srcBit c) = false ∧
    t.rd R.CLK_CNT_MON_FAIL_VALUE = min 0xFFFFFFFF (s.rd R.CLK_CNT_MON_FAIL_VALUE + 1) ∧
    (SystemSrc c → s.on R.CLK_STAT_RC_READY = true → s.on R.CLK_STAT_ON_RC = false → s.clk.held = false →
      t.on R.CLK_STAT_ON_RC = true ∧ t.on R.TSU_STATUS_HOLDOVER = true) := by
  obtain ⟨hfail, hgood, hcount⟩ := State.clkFail_shows (s := s.atRaw n) (c := c)
  rw [State.rd_atRaw] at hcount
  exact ⟨_, rfl, hfail, hgood, hcount, fun hc hr ho hk => State.clkFail_toRc hc (State.on_atRaw.trans hr) (State.on_atRaw.trans ho) hk⟩

theorem State.restorable_iff : s.restorable = true ↔ ∀ b ∈ s.clk.lost, b < 3 → 1024 ≤ s.clk.good.get 0 b := by
  simp only [State.restorable, List.all_eq_true, Bool.or_eq_true, decide_eq_true_eq]
  exact forall₂_congr fun b _ => by omega

end

/-- Settles O58: each event has one state it ends in, whose registers of the clock unit no later part of the event writes: what a failure stops and shows
elsewhere stands outside that unit. -/
theorem clockSources : Obligations.ClockSources := by
  unfold Obligations.ClockSources
  refine ⟨fun s n h => ⟨_, exec_rcReady h, ?_⟩, fun s w n => ⟨_, rfl, ?_⟩, fun s h x => ?_, fun s hsrc ha => ⟨?_, fun k => exec_rcTrimInterval hsrc ha⟩,
    fun s n h => congrArg Host.Outcome.next (if_pos h), fun s n h hg => ⟨_, exec_xoStartTimeout h hg, State.clkFailed_setClkFail (by decide)⟩, fun s c k e n hx hm => ?_, fun s => ⟨fun h => ?_, fun ⟨b, hb, hlt, hgood⟩ => ?_⟩⟩
  · cases hk : s.clk.held with
    | true =>
      refine ⟨?_, rfl, fun _ => State.on_flag_self (by decide)⟩
      exact (State.on_wr_apart (by decide)).trans ((State.on_congr rfl rfl).trans (State.on_flag_self (s := s.atRaw n) (f := R.CLK_STAT_RC_READY) (by decide)))
    | false => exact ⟨State.on_flag_self (by decide), hk, fun h => absurd h Bool.false_ne_true⟩
  · rw [State.trim_eq, State.rd_atRaw]
    split
    · exact ⟨(State.rd_unsettled (by decide)).trans (State.rd_trimmed w), State.on_unsettled, rfl⟩
    · exact ⟨State.rd_trimmed w, (State.on_trimmed (by decide)).trans State.on_atRaw, rfl⟩
  · exact congrArg Host.Outcome.next (if_pos (by simp [h]))
  · exact congrArg Host.Outcome.next (if_neg (by simp [hsrc, Nat.not_le.mpr ha]))
  · have harmed := State.clkArmed_of (n := n) hx hm
    intro b failed
    have hb : b = srcBit c := by cases c <;> rfl
    clear_value b
    subst hb
    have hfail : failed (.next ((s.atRaw n).clkFail c)) := clkFail_outcome
    refine ⟨fun hin => ?_, fun hout => ?_, ?_, fun h1 h2 => ?_⟩
    · rw [exec_monitorWindow harmed, if_pos hin, ← State.rd_atRaw (s := s) (n := n)]
      exact ⟨_, rfl, State.clkPass_spec⟩
    · rw [exec_monitorWindow harmed, if_neg (Nat.not_le.mpr hout)]
      exact hfail
    · rw [exec_monitorNoEdge harmed]
      exact hfail
    · rw [exec_pllUnlock h1 h2]
      exact hfail
  · exact congrArg Host.Outcome.next (if_pos (State.restorable_iff.mpr h))
  · exact congrArg Host.Outcome.next (if_neg fun hr => absurd (State.restorable_iff.mp hr b hb hlt) (by omega))

end Sys2Proof.Machine
end

section
/-! PROOFS. Clock gates and power modes (R357–R365): gates, the step that closes them, the exit from SLEEP and DEEP SLEEP, the entry of DEEP SLEEP. -/

-- One proof at a time: the package as one text then takes less memory.
set_option Elab.async false

namespace Sys2Proof.Machine

open Sys2Proof

section
variable {s t : State} {f g : Fld} {c i k m n v : Nat} {P : Nat → Prop}

theorem State.SameRegs.iteBoth {a b : State} {c : Prop} [Decidable c] (ha : s.SameRegs P a) (hb : s.SameRegs P b) : s.SameRegs P (if c then a else b) := by
  split
  · exact ha
  · exact hb

/-! ### Masks of the gates -/

theorem bitOf_and {a b : Nat} : bitOf (a &&& b) i = (bitOf a i && bitOf b i) := by simp only [bitOf_eq_testBit, Nat.testBit_and]

theorem bitOf_or {a b : Nat} : bitOf (a ||| b) i = (bitOf a i || bitOf b i) := by simp only [bitOf_eq_testBit, Nat.testBit_or]

/-- The blocks that a mask does not name. -/
theorem bitOf_gatesBut (hi : i < 23) : bitOf (0x7FFFFF ^^^ m) i = !bitOf m i := by
  have hall : (0x7FFFFF : Nat) = 2 ^ 23 - 1 := rfl
  rw [bitOf_eq_testBit, Nat.testBit_xor, hall, Nat.testBit_two_pow_sub_one, decide_eq_true hi, Bool.true_xor, bitOf_eq_testBit]

theorem bitOf_low23 (hi : i < 23) : bitOf (v % 2 ^ 23) i = bitOf v i := by
  rw [bitOf_eq_testBit, Nat.testBit_mod_two_pow, decide_eq_true hi, Bool.true_and, bitOf_eq_testBit]

theorem bitOf_rd_gateNow (hi : i < 23) : bitOf ((s.wr R.CLK_GATE_NOW_VALUE v).rd R.CLK_GATE_NOW_VALUE) i = bitOf v i := by
  rw [State.rd_wr_self (by decide)]
  exact bitOf_low23 hi

theorem State.gated_same (hn : t.rd R.CLK_GATE_NOW_VALUE = s.rd R.CLK_GATE_NOW_VALUE) (hk : t.clk.held = s.clk.held) : t.gated i = s.gated i := by
  rw [State.gated, State.gated, hn, hk]

theorem State.gated_opened (hn : ∀ i, i < 23 → bitOf (t.rd R.CLK_GATE_NOW_VALUE) i = (bitOf (s.rd R.CLK_GATE_NOW_VALUE) i && !bitOf m i))
    (hk : t.clk.held = false) (hs : s.clk.held = false) (hi : i < 23) : t.gated i = (s.gated i && !bitOf m i) := by
  rw [State.gated, State.gated, hn i hi, hk, hs, Bool.false_and, Bool.or_false, Bool.or_false]

theorem State.gated_shut (hn : ∀ i, i < 23 → bitOf (t.rd R.CLK_GATE_NOW_VALUE) i = (bitOf (s.rd R.CLK_GATE_NOW_VALUE) i || bitOf m i))
    (hk : t.clk.held = s.clk.held) (hi : i < 23) : t.gated i = (s.gated i || bitOf m i) := by
  rw [State.gated, State.gated, hn i hi, hk, Bool.or_assoc, Bool.or_comm (bitOf m i), ← Bool.or_assoc]

/-! ### Gates and the step that closes them (R357, R358) -/

theorem State.rd_openGates (hi : i < 23) :
    bitOf ((s.openGates m).rd R.CLK_GATE_NOW_VALUE) i = (bitOf (s.rd R.CLK_GATE_NOW_VALUE) i && !bitOf m i) := by
  rw [State.openGates, bitOf_rd_gateNow hi, bitOf_and, bitOf_gatesBut hi]

theorem State.SameRegs.gateStep {a b : Nat} : s.SameRegs P (s.gateStep a b m) := by
  unfold State.gateStep
  split
  · exact .refl
  · exact .of_eq rfl rfl

theorem State.held_gateStep {a b : Nat} : (s.gateStep a b m).clk.held = s.clk.held := by
  unfold State.gateStep
  split <;> rfl

theorem State.SameRegs.gateCore {shut : Bool} (h : ¬ P (0x30800004 + 65536 * c)) : s.SameRegs P (s.gateCore c shut) := by
  have hset (u : State) (x : CoreSt) : u.SameRegs P (u.setCore c x) := .of_eq rfl rfl
  have hstate (u : State) (n : Nat) : u.SameRegs P (u.setCoreState c n) := .wr (f := R.DRV_STATUS_STATE c) h
  unfold State.gateCore
  split
  · exact .iteBoth .refl ((hset _ _).trans (hstate _ _))
  · exact .ite (hstate _ _)

theorem State.coreState_gateCore_other {shut : Bool} (h : k ≠ c) : (s.gateCore c shut).coreState k = s.coreState k :=
  (State.SameRegs.gateCore (P := (· = 0x30800004 + 65536 * k)) (by omega)).rd rfl

theorem State.coreState_gateCore_shut : (s.gateCore c true).coreState c = 5 := by
  rw [State.gateCore, if_pos rfl]
  split
  · next h => exact of_decide_eq_true h
  · exact State.coreState_setCoreState

theorem State.cores_gateCore_open : (s.gateCore c false).cores = s.cores := by
  rw [State.gateCore, if_neg Bool.false_ne_true]
  split <;> rfl

theorem State.coreState_gateCore_open (h : (s.core c).heldState < 5) : (s.gateCore c false).coreState c ≠ 5 := by
  rw [State.gateCore, if_neg Bool.false_ne_true]
  split
  · rw [State.coreState_setCoreState]
    omega
  · next hg => exact fun e => hg (decide_eq_true e)

/-! ### GATE_RUN_WRITE (R358) -/

/-- The gates that a write of CLK_GATE_RUN opens. -/
def State.runGates (s : State) (m : Nat) : State := (s.wr R.CLK_GATE_RUN_VALUE m).openGates m

theorem State.writeGateRun_awake (hm : s.rd R.CLK_MODE_CUR = 0) : ∃ b, s.writeGateRun v = (s.runGates (v % 2 ^ 23)).gateStep b 0 0 := by
  refine ⟨_, if_neg ?_⟩
  rw [State.rd_wr_addr (by decide), hm]
  exact fun h => h rfl

theorem State.runGates_spec (hm : m < 2 ^ 23) : (s.runGates m).rd R.CLK_GATE_RUN_VALUE = m ∧ (s.runGates m).clk = s.clk ∧
    ∀ i, i < 23 → bitOf ((s.runGates m).rd R.CLK_GATE_NOW_VALUE) i = (bitOf (s.rd R.CLK_GATE_NOW_VALUE) i && !bitOf m i) := by
  refine ⟨?_, by rw [State.runGates, State.openGates, State.wr_clk, State.wr_clk], fun i hi => ?_⟩
  · rw [State.runGates, State.openGates, State.rd_wr_addr (by decide), State.rd_wr_of_lt (by decide) (hm.trans_eq (by decide))]
  · rw [State.runGates, State.rd_openGates hi, State.rd_wr_addr (by decide)]

/-- Cores whose gate a write of CLK_CORE_GATE opens. -/
def State.coresOpened (s : State) (w n : Nat) : State := (List.range n).foldl (fun s c => if bitOf w c then s else s.gateCore c false) s

/-- A step that gates the cores of a mask. -/
def State.coresToShut (s : State) (w : Nat) : State :=
  s.gateStep 0 (((List.range 32).filter (fun c => bitOf w c && !s.coreGated c)).foldl (fun m c => m + 2 ^ c) 0) 0

theorem State.writeCoreGate_eq : s.writeCoreGate v = ((s.wr R.CLK_CORE_GATE_VALUE v).coresOpened v 32).coresToShut v := rfl

theorem State.SameRegs.coresOpened (hn : n ≤ 32) : s.SameRegs ClockRegs (s.coresOpened v n) :=
  .foldl_range (fun u c hc => .iteBoth .refl (.gateCore (by unfold ClockRegs; omega))) _

theorem State.coresOpened_clk : (s.coresOpened v n).clk = s.clk :=
  foldl_keeps State.clk (fun u c => by split; exacts [rfl, (State.gateCore_good u c false).same .clk rfl]) _ _

theorem State.coresOpened_spec (h : ∀ c, (s.core c).heldState < 5) :
    (s.coresOpened v n).cores = s.cores ∧ ∀ c, c < n → bitOf v c = false → (s.coresOpened v n).coreState c ≠ 5 := by
  induction n with
  | zero => exact ⟨rfl, fun c hc => absurd hc (Nat.not_lt_zero c)⟩
  | succ n ih =>
    obtain ⟨hcores, hopen⟩ := ih
    have hstep : s.coresOpened v (n + 1) = if bitOf v n then s.coresOpened v n else (s.coresOpened v n).gateCore n false := by
      rw [State.coresOpened, List.range_succ, List.foldl_concat, State.coresOpened]
    rw [hstep]
    split
    · next hb => exact ⟨hcores, fun c hc hz => hopen c (Nat.lt_of_le_of_ne (Nat.lt_succ_iff.mp hc) fun e => by rw [e, hb] at hz; cases hz) hz⟩
    · refine ⟨State.cores_gateCore_open.trans hcores, fun c hc hz => ?_⟩
      by_cases e : c = n
      · rw [e]
        exact State.coreState_gateCore_open (by rw [State.core_congr hcores]; exact h n)
      · rw [State.coreState_gateCore_other e]
        exact hopen c (by omega) hz

/-! ### GATES_CLOSE and QUIESCENCE_TIMEOUT (R358, R362) -/

section
variable {x : GateStep}

/-- The cores of a step are gated. -/
def State.coresShut (s : State) (x : GateStep) : State := (List.range 32).foldl (fun s c => if bitOf x.cores c then s.gateCore c true else s) s

/-- No step of gate closing runs. -/
def State.stepless (s : State) : State := { s with clk := { s.clk with step := none } }

/-- The gates of a step, before its mode is shown. -/
def State.stepShut (s : State) (x : GateStep) : State :=
  ((s.wr R.CLK_GATE_NOW_VALUE (s.rd R.CLK_GATE_NOW_VALUE ||| x.blocks)).coresShut x).stepless

/-- The mode that SLEEP is entered in: on the way to DEEP SLEEP it is not yet reached. -/
def State.restMode (s : State) : Nat := if (match s.clk.sleep with | some z => z.deep | none => false) then 3 else 1

theorem State.closeStep_eq : s.closeStep x = if x.mode = 1 then (s.stepShut x).wr R.CLK_MODE_CUR (s.stepShut x).restMode else s.stepShut x := rfl

theorem State.SameRegs.coresShut : s.SameRegs ClockRegs (s.coresShut x) :=
  .foldl_range (fun u c hc => .ite (.gateCore (by unfold ClockRegs; omega))) _

theorem State.SameRegs.stepless : s.SameRegs P s.stepless := .of_eq rfl rfl

theorem State.clk_coresShut : (s.coresShut x).clk = s.clk :=
  foldl_keeps State.clk (fun u c => by split; exacts [(State.gateCore_good u c true).same .clk rfl, rfl]) _ _

theorem State.coreState_coresShut (hc : c < 32) (hb : bitOf x.cores c = true) : (s.coresShut x).coreState c = 5 := by
  refine foldl_range_sets (π := fun u : State => u.coreState c) hc (fun u => ?_) fun u d hd => ?_
  · rw [if_pos hb]
    exact State.coreState_gateCore_shut
  · split
    · exact State.coreState_gateCore_other hd.symm
    · rfl

theorem State.stepShut_clk : (s.stepShut x).clk = { s.clk with step := none } := by
  have hless (u : State) : u.stepless.clk = { u.clk with step := none } := rfl
  rw [State.stepShut, hless, State.clk_coresShut, State.wr_clk]

theorem State.stepShut_spec : (∀ i, i < 23 → (s.stepShut x).gated i = (s.gated i || bitOf x.blocks i)) ∧
    ∀ c, c < 32 → bitOf x.cores c = true → (s.stepShut x).coreState c = 5 := by
  refine ⟨fun i hi => State.gated_shut (fun i hi => ?_) (by rw [State.stepShut_clk]) hi, fun c hc hb => ?_⟩
  · rw [State.stepShut, State.SameRegs.stepless.rd (P := ClockRegs) (by decide), State.SameRegs.coresShut.rd (by decide), bitOf_rd_gateNow hi, bitOf_or]
  · have hless (u : State) : u.stepless.coreState c = u.coreState c := rfl
    rw [State.stepShut, hless, State.coreState_coresShut hc hb]

theorem State.restMode_of {z : Sleep} (h : s.clk.sleep = some z) : s.restMode = if z.deep then 3 else 1 := by rw [State.restMode, h]

theorem exec_gatesClose (hx : s.clk.step = some x) : exec (.gatesClose n) s = .next ((s.atRaw n).closeStep x) := by
  have hx' : (s.atRaw n).clk.step = some x := hx
  show Host.Outcome.next (match (s.atRaw n).clk.step with | none => _ | some x => (s.atRaw n).closeStep x) = _
  rw [hx']

theorem State.closeStep_spec : (s.closeStep x).clk.step = none ∧ (∀ i, i < 23 → (s.closeStep x).gated i = (s.gated i || bitOf x.blocks i)) ∧
    (∀ c, c < 32 → bitOf x.cores c = true → (s.closeStep x).coreState c = 5) ∧
    (x.mode = 1 → ∀ z : Sleep, s.clk.sleep = some z → (s.closeStep x).rd R.CLK_MODE_CUR = (if z.deep then 3 else 1)) := by
  obtain ⟨hgates, hcores⟩ := State.stepShut_spec (s := s) (x := x)
  have hstep : (s.stepShut x).clk.step = none := by rw [State.stepShut_clk]
  rw [State.closeStep_eq]
  split
  · refine ⟨hstep, fun i hi => ?_, fun c hc hb => ?_, fun _ z hz => ?_⟩
    · rw [State.gated_congr (State.rd_wr_addr (by decide)) rfl, hgates i hi]
    · rw [← hcores c hc hb]
      exact State.rd_wr_addr (show 0x30800004 + 65536 * c ≠ 0x50050000 by omega)
    · rw [State.restMode_of (z := z) (by rw [State.stepShut_clk]; exact hz)]
      refine State.rd_wr_of_lt (by decide) ?_
      split <;> decide
  · next hm => exact ⟨hstep, hgates, hcores, fun h => absurd h hm⟩

/-- A step that is refused, before its mode is heeded. -/
def State.refused (s : State) (x : GateStep) (b : Nat) : State :=
  ((s.wr R.CLK_GATE_REFUSED_VALUE (s.rd R.CLK_GATE_REFUSED_VALUE ||| (b &&& x.all))).bump R.CLK_CNT_REFUSE_VALUE).stepless

/-- An entry of SLEEP that is abandoned. -/
def State.abandoned (s : State) : State := ((s.wr R.CLK_MODE_CUR 0).flag R.CLK_MODE_ABORTED).resumeAt

theorem exec_quiescenceTimeout {b : BitVec 23} (hx : s.clk.step = some x) (hb : b.toNat &&& x.all ≠ 0) (hr : x.since + 160 ≤ (s.atRaw n).tm.raw) :
    exec (.quiescenceTimeout b n) s =
      .next (if x.mode = 1 then ((s.atRaw n).refused x b.toNat).abandoned else (s.atRaw n).refused x b.toNat) := by
  have hx' : (s.atRaw n).clk.step = some x := hx
  show Host.Outcome.next (match (s.atRaw n).clk.step with
    | none => _
    | some x => if b.toNat &&& x.all = 0 || (s.atRaw n).tm.raw < x.since + 160 then _ else
      if x.mode = 1 then ((s.atRaw n).refused x b.toNat).abandoned else (s.atRaw n).refused x b.toNat) = _
  rw [hx']
  exact congrArg Host.Outcome.next (if_neg (by simp [hb, hr]))

theorem State.SameRegs.resumeAt : s.SameRegs P s.resumeAt := by
  unfold State.resumeAt
  split
  · exact .refl
  · exact .of_eq rfl rfl

theorem State.clk_resumeAt : s.resumeAt.clk.step = s.clk.step ∧ s.resumeAt.clk.held = s.clk.held := by
  unfold State.resumeAt
  split <;> exact ⟨rfl, rfl⟩

theorem State.clk_refused {b : Nat} : (s.refused x b).clk = { s.clk with step := none } := by
  have hless (u : State) : u.stepless.clk = { u.clk with step := none } := rfl
  rw [State.refused, hless, State.bump_clk, State.wr_clk]

/-- What every refused step shows. -/
theorem State.refused_spec {b : BitVec 23} : (s.refused x b.toNat).rd R.CLK_GATE_NOW_VALUE = s.rd R.CLK_GATE_NOW_VALUE ∧
    (s.refused x b.toNat).rd R.CLK_CNT_REFUSE_VALUE = min 0xFFFFFFFF (s.rd R.CLK_CNT_REFUSE_VALUE + 1) ∧
    ∀ i, i < 23 → bitOf ((s.refused x b.toNat).rd R.CLK_GATE_REFUSED_VALUE) i = (bitOf (s.rd R.CLK_GATE_REFUSED_VALUE) i || (b.getLsbD i && bitOf x.all i)) := by
  have hless (u : State) (g : Fld) : u.stepless.rd g = u.rd g := State.rd_congr rfl rfl
  rw [State.refused, hless, hless, hless, State.rd_bump_addr (by decide), State.rd_wr_addr (by decide), State.bump, State.rd_count_word rfl rfl,
    State.rd_wr_addr (by decide), ← State.bump, State.rd_bump_addr (by decide), State.rd_wr_self (by decide)]
  refine ⟨rfl, rfl, fun i hi => ?_⟩
  rw [show R.CLK_GATE_REFUSED_VALUE.hi - R.CLK_GATE_REFUSED_VALUE.lo + 1 = 23 from rfl, bitOf_low23 hi, bitOf_or, bitOf_and, bitOf_toNat]

theorem State.rd_abandoned (h : g.addr ≠ R.CLK_MODE_w.addr) : s.abandoned.rd g = s.rd g :=
  (State.SameRegs.resumeAt.rd (P := fun _ => True) trivial).trans
    ((State.rd_flag_addr (f := R.CLK_MODE_ABORTED) h).trans (State.rd_wr_addr (f := R.CLK_MODE_CUR) h))

theorem State.abandoned_spec : s.abandoned.clk.step = s.clk.step ∧ s.abandoned.clk.held = s.clk.held ∧ s.abandoned.rd R.CLK_MODE_CUR = 0 ∧
    s.abandoned.on R.CLK_MODE_ABORTED = true := by
  have hrd (u : State) (g : Fld) : u.resumeAt.rd g = u.rd g := State.SameRegs.resumeAt.rd (P := fun _ => True) trivial
  refine ⟨State.clk_resumeAt.1, State.clk_resumeAt.2, ?_, ?_⟩
  · rw [State.abandoned, hrd, State.flag, State.rd_wr_apart (by decide), State.rd_wr_of_lt (by decide) (by decide)]
  · rw [State.abandoned, State.on_of_rd (hrd _ _), State.on_flag_self (by decide)]

end

end

end Sys2Proof.Machine
end

section
/-! PROOFS. Power modes (R361–R365): the exits from SLEEP and DEEP SLEEP and the entry of DEEP SLEEP. -/

-- One proof at a time: the package as one text then takes less memory.
set_option Elab.async false

namespace Sys2Proof.Machine

open Sys2Proof

section
variable {s t : State} {f g : Fld} {c i k m n p v : Nat} {P : Nat → Prop}

/-! ### The exit from SLEEP (R363) -/

theorem State.leaveSleep_spec (hk : s.clk.held = false) : s.leaveSleep.rd R.CLK_MODE_CUR = 0 ∧ s.leaveSleep.clk.step = none ∧
    s.leaveSleep.rd R.CLK_CNT_WAKE_VALUE = min 0xFFFFFFFF (s.rd R.CLK_CNT_WAKE_VALUE + 1) ∧
    (∀ i, i < 23 → s.leaveSleep.gated i = (s.gated i && !bitOf (s.rd R.CLK_GATE_RUN_VALUE) i)) ∧
    s.leaveSleep.rd R.CLK_WAKE_STAT_w = s.rd R.CLK_WAKE_STAT_w := by
  have hres (u : State) (g : Fld) : u.resumeAt.rd g = u.rd g := State.SameRegs.resumeAt.rd (P := fun _ => True) trivial
  have hless (u : State) (g : Fld) : u.stepless.rd g = u.rd g := State.SameRegs.stepless.rd (P := fun _ => True) trivial
  have heq : s.leaveSleep = (((s.stepless.openGates (s.stepless.rd R.CLK_GATE_RUN_VALUE)).wr R.CLK_MODE_CUR 0).bump R.CLK_CNT_WAKE_VALUE).resumeAt := rfl
  have hclk : s.leaveSleep.clk.step = none ∧ s.leaveSleep.clk.held = s.clk.held := by
    rw [heq, State.clk_resumeAt.1, State.clk_resumeAt.2, State.bump_clk, State.wr_clk, State.openGates, State.wr_clk]
    exact ⟨rfl, rfl⟩
  refine ⟨?_, hclk.1, ?_, fun i hi => State.gated_opened (fun i hi => ?_) (hclk.2.trans hk) hk hi, ?_⟩
  · rw [heq, hres, State.rd_bump_addr (by decide), State.rd_wr_of_lt (by decide) (by decide)]
  · rw [heq, hres, State.bump, State.rd_count_word rfl rfl, State.rd_wr_addr (by decide), State.openGates, State.rd_wr_addr (by decide), hless]
  · rw [heq, hres, State.rd_bump_addr (by decide), State.rd_wr_addr (by decide), State.rd_openGates hi, hless, hless]
  · rw [heq, hres, State.rd_bump_addr (by decide), State.rd_wr_addr (by decide), State.openGates, State.rd_wr_addr (by decide), hless]

/-! ### What the restart of the blocks leaves (R365, R388) -/

/-- The clock unit's registers and the Cellar's status. -/
@[reducible] def Roused (b : Nat) : Prop := ClockRegs b ∨ b = R.CEL_STATUS_w.addr

theorem steady_of_roused (h : Roused n) : Steady n := h.elim .inr fun e => .inl (e ▸ by decide)

theorem State.SameRegs.roused (h : s.SameRegs Steady t) : s.SameRegs Roused t := h.mono fun _ => steady_of_roused

theorem State.SameRegs.quiet : s.SameRegs Roused s.quiet := by
  have hlive (u : State) (f : Fld) (v : Nat) : u.SameRegs Roused (u.wrLive f v) := .of_eq rfl rfl
  have hwr (u : State) (f : Fld) (v : Nat) (h : ¬ Roused f.addr := by decide) : u.SameRegs Roused (u.wr f v) := .wr h
  unfold State.quiet
  exact ((((((((hwr _ R.TLY_CTRL_SUSPEND _).trans (hwr _ R.PWS_CTRL_SAG_FULL _)).trans (hwr _ R.HST_CTRL_CLAMP _)).trans (hlive _ _ _)).trans
    (hwr _ R.MIX_SL_CTRL_HOLD _)).trans (hwr _ R.TSU_CTRL_LOCK _)).trans (hwr _ R.HIF_CTRL_ENABLE _)).trans (hwr _ R.TSU_CTRL_BLOCK_EN _))

theorem State.SameRegs.unwriteSlots : s.SameRegs P s.unwriteSlots := .of_eq rfl rfl

/-! ### Ports and microphones that the configuration brings (R189) -/

/-- A microphone's configuration written again leaves its detection as it is. -/
theorem State.detects_reload : (s.wr (R.MIC_CFG_w n) (setBits (s.rd (R.MIC_CFG_w n)) 3 0 v)).detects n = s.detects n := by
  have hbit (g : Fld) (hg : g.hi = g.lo) (ha : g.addr = (R.MIC_CFG_w n).addr) (hr : g.rst = 0 ∧ g.rst96 = 0) (h3 : 3 < g.lo) (h31 : g.lo ≤ 31) :
      (s.wr (R.MIC_CFG_w n) (setBits (s.rd (R.MIC_CFG_w n)) 3 0 v)).on g = s.on g := by
    have hw (u : State) : u.word g = u.word (R.MIC_CFG_w n) := by
      rw [State.word, State.word, State.rstOf, State.rstOf, ha, hr.1, hr.2]
      rfl
    have hlo : (R.MIC_CFG_w n).lo = 0 := rfl
    have hhi : (R.MIC_CFG_w n).hi = 31 := rfl
    rw [State.on_eq_testBit hg, State.on_eq_testBit hg, hw, hw, State.word_wr_self, hlo, hhi, testBit_setBits (by decide), if_neg (by omega), if_pos h31,
      testBit_setBits (by decide), if_neg (by omega), if_neg (by omega), State.rd, hlo, hhi, testBit_bitsOf, Nat.zero_add, Nat.sub_zero,
      decide_eq_true (by omega), Bool.true_and]
  rw [State.detects, State.detects, hbit (R.MIC_CFG_DET_EN n) rfl rfl ⟨rfl, rfl⟩ (by simp [R.MIC_CFG_DET_EN]) (by simp [R.MIC_CFG_DET_EN]),
    hbit (R.MIC_CFG_BIAS_EN n) rfl rfl ⟨rfl, rfl⟩ (by simp [R.MIC_CFG_BIAS_EN]) (by simp [R.MIC_CFG_BIAS_EN])]

theorem State.micConfig_reload :
    s.micConfig n (s.rd (R.MIC_CFG_w n)) = s.wr (R.MIC_CFG_w n) (setBits (s.rd (R.MIC_CFG_w n)) 3 0 (s.rd (R.MIC_CFG_GAIN n))) := by
  unfold State.micConfig
  dsimp only
  rw [State.detects_reload]
  exact if_neg (by simp)

/-- A TDM port that leads the audio clock is locked. -/
def State.tdmLoaded (s : State) (p : Nat) : State :=
  let lead := s.on (R.TDM_CFG_EN p) && s.on (R.TDM_CFG_MASTER p)
  if lead then (s.wr (R.TDM_STATUS_LOCKED p) 1).wr (R.TDM_STATUS_ALIGNED p) (b2n (!s.on (R.TDM_CFG_ASYNC p))) else s

/-- A microphone takes its configuration and its gain. -/
def State.micLoaded (s : State) (n : Nat) : State := (s.micConfig n (s.rd (R.MIC_CFG_w n))).micGain n (s.rd (R.MIC_CFG_GAIN n))

theorem State.portsLoaded_eq : s.portsLoaded = (List.range 4).foldl State.micLoaded ((List.range 16).foldl State.tdmLoaded s) := rfl

theorem State.SameRegs.tdmLoaded (hp : p < 16) : s.SameRegs Roused (s.tdmLoaded p) := by
  have hno : ¬ Roused (0x50000010 + 1024 * p) := by
    have hcel : R.CEL_STATUS_w.addr = 0x40500008 := rfl
    unfold Roused ClockRegs
    omega
  exact .ite (State.SameRegs.trans (.wr (f := R.TDM_STATUS_LOCKED p) hno) (.wr (f := R.TDM_STATUS_ALIGNED p) hno))

theorem not_roused_mic (hn : n < 4) (h1 : 0x50030000 ≤ k) (h2 : k < 0x50031000) : ¬ Roused (k + 256 * n) := by
  have hcel : R.CEL_STATUS_w.addr = 0x40500008 := rfl
  unfold Roused ClockRegs
  omega

theorem State.SameRegs.setMic {x : MicSt} : s.SameRegs P (s.setMic n x) := .of_eq rfl rfl

theorem State.SameRegs.micGain (hn : n < 4) : s.SameRegs Roused (s.micGain n v) := by
  have hgain (u : State) (w : Nat) : u.SameRegs Roused (u.wr (R.MIC_CFG_GAIN n) w) := .wr (not_roused_mic hn (by decide) (by decide))
  have hpend (u : State) (w : Nat) : u.SameRegs Roused (u.wr (R.MIC_STATUS_GAIN_PEND n) w) := .wr (not_roused_mic hn (by decide) (by decide))
  unfold State.micGain
  exact (hgain _ _).trans (.iteBoth .refl (.iteBoth .refl ((hpend _ _).trans .setMic)))

theorem State.SameRegs.micLoaded (hn : n < 4) : s.SameRegs Roused (s.micLoaded n) := by
  rw [State.micLoaded, State.micConfig_reload]
  exact State.SameRegs.trans (.wr (not_roused_mic hn (by decide) (by decide))) (.micGain hn)

theorem State.SameRegs.portsLoaded : s.SameRegs Roused s.portsLoaded := by
  rw [State.portsLoaded_eq]
  exact (State.SameRegs.foldl_range (fun _ _ => .tdmLoaded) s).trans (.foldl_range (fun _ _ => .micLoaded) _)

theorem State.sessions_portsLoaded : s.portsLoaded.sessions = s.sessions := by
  rw [State.portsLoaded_eq]
  refine (foldl_keeps State.sessions (fun u n => ?_) _ _).trans (foldl_keeps State.sessions (fun u p => ?_) _ _)
  · rw [State.micLoaded, State.micConfig_reload, (State.micGain_good _ _ _).same .sessions rfl, State.wr_sessions]
  · unfold State.tdmLoaded
    dsimp only
    split
    · rw [State.wr_sessions, State.wr_sessions]
    · rfl

/-! ### Power channels and rings (R53, R197) -/

theorem State.SameRegs.psStop {half : Bool} (hn : n < 24) : s.SameRegs Steady (s.psStop n half) := by
  unfold State.psStop
  exact State.SameRegs.lineAbort.trans (.iteBoth (.psIdle hn) (.iteBoth .setPs (State.SameRegs.setPs.trans (.setPsState hn))))

theorem State.SameRegs.psConfig (hn : n < 24) : s.SameRegs Steady (s.psConfig n v) := by
  have hcfg (u : State) (w : Nat) : u.SameRegs Steady (u.wr (R.PWS_CFG_w n) w) := .wr (not_steady_ps hn (by decide) (by decide))
  have harm (u : State) : u.SameRegs Steady (u.armBend n) := State.SameRegs.setPs.trans (.iteBoth (.psStop hn) (.psIdle hn))
  unfold State.psConfig
  exact (hcfg _ _).trans (.iteBoth (.psStop hn) (.iteBoth (.iteBoth .refl (harm _)) (.iteBoth (State.SameRegs.setPs.trans (.psStop hn))
    (.iteBoth (.psIdle hn) .setPs))))

theorem State.SameRegs.bandFailed (hn : n < 24) : s.SameRegs Steady (s.bandFailed n) :=
  State.SameRegs.trans (.wr (f := R.PWS_FAULT_BAND_FAIL n) (not_steady_ps hn (by decide) (by decide)))
    (State.SameRegs.trans (.bump (f := R.PWS_CNT_BAND_VALUE n) (not_steady_ps hn (by decide) (by decide))) (.wr (by decide)))

theorem State.SameRegs.applyFreq {a : State} : s.SameRegs P (State.applyFreq a s n v) := by
  have hlater (u : State) (b : Nat) (x : Act) : u.SameRegs P (u.later b x) := .of_eq rfl rfl
  unfold State.applyFreq
  exact .iteBoth ((hlater _ _ _).trans (hlater _ _ _)) (hlater _ _ _)

theorem State.SameRegs.freqSearch (hn : n < 24) : s.SameRegs Steady (s.freqSearch n) := by
  obtain ⟨t, ht, hr⟩ := State.freqSearchIn_cases (k := s) (s := s) (n := n)
  have hst : s.SameRegs Steady t := by
    obtain rfl | rfl := ht
    · exact .refl
    · exact .bandFailed hn
  rw [State.freqSearch]
  obtain hr | ⟨c, hr⟩ := hr
  · exact hr ▸ hst
  · exact hr ▸ hst.trans .applyFreq

theorem State.SameRegs.wrNewest (h : ¬ P f.addr) : s.SameRegs P (s.wrNewest k f v) := by
  have hun (u : State) (q : Sched → Bool) : u.SameRegs P (u.unsched q) := .of_eq rfl rfl
  have hrep (u : State) (a m : Nat) : u.SameRegs P (u.replaceChange k a m) := .of_good (State.replaceChange_good _ _ _ _) rfl rfl
  have hlater (u : State) (x : Act) : u.SameRegs P (u.later k x) := .of_eq rfl rfl
  exact (hun _ _).trans ((hrep _ _ _).trans (State.SameRegs.trans (.wr h) (hlater _ _)))

theorem State.SameRegs.giveRings : s.SameRegs Roused (s.giveRings k) := by
  have hword (u : State) (w v : Nat) (hw : w < 32) : u.SameRegs Roused (u.wrNewest k (R.HST_LONG_MAP_LONG w) v) := by
    refine .wrNewest fun h => ?_
    have hcel : R.CEL_STATUS_w.addr = 0x40500008 := rfl
    have haddr : (R.HST_LONG_MAP_LONG w).addr = 0x20800100 + 4 * w := rfl
    rw [haddr] at h
    unfold Roused ClockRegs at h
    omega
  have hring : s.SameRegs Roused s.assignRings := .of_good (State.assignRings_good s) rfl rfl
  unfold State.giveRings State.setLongMap
  exact (hring.trans (.foldl_range (fun u w hw => .iteBoth .refl (hword _ _ _ hw)) _)).trans (.iteBoth .refl (.wrNewest (by decide)))

/-- A power channel takes its configuration and searches its frequency. -/
def State.psLoaded (s : State) (n : Nat) : State :=
  if s.on (R.PWS_CFG_EN n) then (s.psConfig n (s.rd (R.PWS_CFG_w n))).freqSearch n else s

theorem State.applyConfig_eq : s.applyConfig = ((List.range 24).foldl State.psLoaded s.portsLoaded).giveRings 0 := rfl

theorem State.SameRegs.applyConfig : s.SameRegs Roused s.applyConfig := by
  rw [State.applyConfig_eq]
  have hps (u : State) : u.SameRegs Roused ((List.range 24).foldl State.psLoaded u) :=
    .foldl_range (fun _ _ hn => .ite ((State.SameRegs.psConfig hn).trans (.freqSearch hn)).roused) _
  exact (State.SameRegs.portsLoaded.trans (hps _)).trans .giveRings

theorem State.sessions_applyConfig : s.applyConfig.sessions = s.sessions := by
  rw [State.applyConfig_eq, (State.giveRings_good _ _).same .sessions rfl, ← State.sessions_portsLoaded (s := s)]
  refine foldl_keeps State.sessions (fun u n => ?_) _ _
  unfold State.psLoaded
  split
  · rw [(State.freqSearch_good _ _).same .sessions rfl, (State.psConfig_good _ _ _).same .sessions rfl]
  · rfl

/-! ### The blocks start (R388) -/

theorem foreign_of_roused (hc : c < 32) (h : Roused n) : Foreign c n := by
  have hcel : R.CEL_STATUS_w.addr = 0x40500008 := rfl
  unfold Roused ClockRegs at h
  simp only [Foreign, ownRegs, List.mem_cons, List.not_mem_nil, or_false]
  omega

/-- A core runs, with its rotation. -/
def State.coreStarted (s : State) (c : Nat) : State := (s.setRun c true).setRot c true

theorem State.SameRegs.coreStarted (hc : c < 32) : s.SameRegs Roused (s.coreStarted c) := by
  have hrot (u : State) : u.SameRegs (Foreign c) (u.setRot c true) :=
    State.SameRegs.trans (.wr fun h => h (by simp [ownRegs, R.DRV_CTRL_ROT])) .coreCopies
  exact (State.SameRegs.setRun.trans (hrot _)).mono fun _ => foreign_of_roused hc

/-- The blocks are enabled. -/
def State.blocksEnabled (s : State) : State :=
  let s := (s.flag R.TSU_CTRL_ENABLE).flag R.STR_CTRL_ENABLE
  let s := ((s.flag R.PST_CTRL_ENABLE).flag R.HST_CTRL_ENABLE).flag R.HST_SCRUB_CTRL_ENABLE
  let s := ((s.flag R.OST_CTRL_ENABLE).flag R.OST_IDLE_CTRL_EN).flag R.MIX_CTRL_ENABLE
  ((s.flag R.PWS_CTRL_ENABLE).flag R.TLY_CTRL_ENABLE).flag R.DRV_CL_CTRL_LOCK

theorem State.startBlocks_eq :
    s.startBlocks = ((List.range 32).foldl State.coreStarted s.loadDrovers.loadLibrary.blocksEnabled).flag R.TSU_CTRL_BLOCK_EN := rfl

theorem State.SameRegs.blocksEnabled : s.SameRegs Roused s.blocksEnabled := by
  have hflag (u : State) (f : Fld) (h : ¬ Roused f.addr := by decide) : u.SameRegs Roused (u.flag f) := .wr h
  unfold State.blocksEnabled
  exact ((((((((((hflag _ R.TSU_CTRL_ENABLE).trans (hflag _ R.STR_CTRL_ENABLE)).trans (hflag _ R.PST_CTRL_ENABLE)).trans (hflag _ R.HST_CTRL_ENABLE)).trans
    (hflag _ R.HST_SCRUB_CTRL_ENABLE)).trans (hflag _ R.OST_CTRL_ENABLE)).trans (hflag _ R.OST_IDLE_CTRL_EN)).trans (hflag _ R.MIX_CTRL_ENABLE)).trans
    (hflag _ R.PWS_CTRL_ENABLE)).trans (hflag _ R.TLY_CTRL_ENABLE)).trans (hflag _ R.DRV_CL_CTRL_LOCK)

theorem State.SameRegs.startBlocks : s.SameRegs Roused s.startBlocks := by
  rw [State.startBlocks_eq]
  have hload : s.SameRegs Roused s.loadDrovers.loadLibrary :=
    (State.SameRegs.of_good (State.loadDrovers_good s) rfl rfl).trans (.of_good (State.loadLibrary_good _) rfl rfl)
  exact ((hload.trans .blocksEnabled).trans (.foldl_range (fun _ _ => .coreStarted) _)).trans (.wr (by decide))

/-! ### The exit from DEEP SLEEP (R364, R365) -/

/-- The time is anew and the gates are open, before the blocks start. -/
def State.deepOpened (s : State) : State :=
  (((s.deepKept.wr R.CLK_MODE_CUR 0).bump R.CLK_CNT_WAKE_VALUE).wr R.CLK_GATE_NOW_VALUE 0).wr R.CEL_STATUS_SR 0

theorem State.leaveDeep_eq : s.leaveDeep = s.deepOpened.quiet.unwriteSlots.applyConfig.startBlocks := rfl

theorem State.deepOpened_rd : s.deepOpened.rd R.CLK_MODE_CUR = 0 ∧ s.deepOpened.rd R.CLK_GATE_NOW_VALUE = 0 ∧ s.deepOpened.on R.CEL_STATUS_SR = false := by
  rw [State.deepOpened, State.on_wr_zero (by decide), State.rd_wr_addr (by decide), State.rd_wr_addr (by decide), State.rd_bump_addr (by decide),
    State.rd_wr_of_lt (by decide) (by decide), State.rd_wr_addr (by decide), State.rd_wr_of_lt (by decide) (by decide)]
  exact ⟨rfl, rfl, rfl⟩

theorem State.deepKept_parts : s.deepKept.tm = State.reset.tm ∧ s.deepKept.sessions = [] ∧ s.deepKept.msgs = s.msgs ∧ s.deepKept.otp = s.otp ∧
    s.deepKept.clk.held = false := ⟨rfl, rfl, rfl, rfl, rfl⟩

theorem State.leaveDeep_regs : s.deepOpened.SameRegs Roused s.leaveDeep := by
  rw [State.leaveDeep_eq]
  exact (State.SameRegs.quiet.trans .unwriteSlots).trans (State.SameRegs.applyConfig.trans .startBlocks)

theorem State.deepOpened_good : Good 1 s.deepKept s.deepOpened :=
  (((State.wr_good _ _ _).trans (State.bump_good _ _)).trans (State.wr_good _ _ _)).trans (State.wr_good _ _ _)

theorem State.leaveDeep_kept : Good 70378414681619 s.deepKept s.leaveDeep := by
  rw [State.leaveDeep_eq]
  exact Good.step (State.startBlocks_good _) rfl (Good.step (State.applyConfig_good _) rfl (Good.step (State.unwriteSlots_good _) rfl
    (Good.step (State.quiet_good _) rfl (Good.step State.deepOpened_good rfl Good.refl))))

theorem State.sessions_leaveDeep : s.leaveDeep.sessions = [] := by
  rw [State.leaveDeep_eq, (State.startBlocks_good _).same .sessions rfl, State.sessions_applyConfig, (State.unwriteSlots_good _).same .sessions rfl,
    (State.quiet_good _).same .sessions rfl, State.deepOpened_good.same .sessions rfl]
  exact State.deepKept_parts.2.1

theorem State.leaveDeep_spec : s.leaveDeep.rd R.CLK_MODE_CUR = 0 ∧ s.leaveDeep.tm = State.reset.tm ∧ s.leaveDeep.sessions = [] ∧ s.leaveDeep.msgs = s.msgs ∧
    s.leaveDeep.otp = s.otp ∧ (∀ i, s.leaveDeep.gated i = false) ∧ s.leaveDeep.on R.CEL_STATUS_SR = false := by
  obtain ⟨hmode, hnow, hsr⟩ := State.deepOpened_rd (s := s)
  obtain ⟨htm, -, hmsgs, hotp, hheld⟩ := State.deepKept_parts (s := s)
  have hclk : s.leaveDeep.clk.held = false := by rw [State.leaveDeep_kept.same .clk rfl, hheld]
  refine ⟨by rw [State.leaveDeep_regs.rd (by decide), hmode], (State.leaveDeep_kept.same .tm rfl).trans htm, State.sessions_leaveDeep,
    (State.leaveDeep_kept.same .msgs rfl).trans hmsgs, (State.leaveDeep_kept.same .otp rfl).trans hotp, fun i => ?_,
    by rw [State.leaveDeep_regs.on (by decide), hsr]⟩
  rw [State.gated, State.leaveDeep_regs.rd (by decide), hnow, hclk, bitOf_eq_testBit, Nat.zero_testBit]
  rfl

/-! ### WAKE (R363) -/

/-- The cause of a wake is latched. -/
def State.wakeShown (s : State) (b : Nat) : State := s.wr R.CLK_WAKE_STAT_w (setBits (s.rd R.CLK_WAKE_STAT_w) b b 1)

/-- A microphone that woke the unit is remembered. -/
def State.wokenBy (s : State) (c : WakeBy) : State :=
  match c with
  | .press m => { s with clk := { s.clk with wokeBy := s.clk.wokeBy ++ [m.val] } }
  | _ => s

theorem State.SameRegs.wokenBy {c : WakeBy} : s.SameRegs P (s.wokenBy c) := by cases c <;> exact .of_eq rfl rfl

theorem State.wokenBy_parts {c : WakeBy} :
    (s.wokenBy c).clk.held = s.clk.held ∧ (s.wokenBy c).msgs = s.msgs ∧ (s.wokenBy c).otp = s.otp := by cases c <;> exact ⟨rfl, rfl, rfl⟩

theorem wakeBit_lt {c : WakeBy} : wakeBit c < 7 := by
  cases c with
  | press m => exact Nat.lt_of_lt_of_le m.isLt (by decide)
  | hif k => exact Nat.lt_of_lt_of_le (Nat.add_lt_add_left k.isLt 4) (by decide)
  | gpio => exact (by decide : 6 < 7)

theorem State.gated_atRaw : (s.atRaw n).gated i = s.gated i := State.gated_congr State.rd_atRaw State.atRaw_clk

theorem State.wakeEnabled_atRaw {c : WakeBy} : (s.atRaw n).wakeEnabled c = s.wakeEnabled c := by
  cases c <;> simp only [State.wakeEnabled, State.rd_atRaw]

theorem exec_wake {c : WakeBy} {z : Sleep} (hz : s.clk.sleep = some z) (he : s.wakeEnabled c = true) (hb : z.wakeBlk = none) (hm : s.rd R.CLK_MODE_CUR ≠ 0) :
    exec (.wake c n) s = .next (if z.deep && z.closed then (((s.atRaw n).wakeShown (wakeBit c)).wokenBy c).leaveDeep
      else (((s.atRaw n).wakeShown (wakeBit c)).wokenBy c).leaveSleep) := by
  have hz' : (s.atRaw n).clk.sleep = some z := hz
  show Host.Outcome.next (match (s.atRaw n).clk.sleep with
    | none => _
    | some z => if !(s.atRaw n).wakeEnabled c || z.wakeBlk.isSome || (s.atRaw n).rd R.CLK_MODE_CUR = 0 then _ else
      if z.deep && z.closed then (((s.atRaw n).wakeShown (wakeBit c)).wokenBy c).leaveDeep
      else (((s.atRaw n).wakeShown (wakeBit c)).wokenBy c).leaveSleep) = _
  rw [hz']
  refine congrArg Host.Outcome.next (if_neg ?_)
  rw [State.wakeEnabled_atRaw, he, hb, State.rd_atRaw]
  simp [hm]

/-- What the latched cause leaves and shows. -/
theorem State.woken_spec {c : WakeBy} : bitOf (((s.wakeShown (wakeBit c)).wokenBy c).rd R.CLK_WAKE_STAT_w) (wakeBit c) = true ∧
    ∀ g : Fld, g.addr ≠ R.CLK_WAKE_STAT_w.addr → ((s.wakeShown (wakeBit c)).wokenBy c).rd g = s.rd g := by
  have hrd (g : Fld) : ((s.wakeShown (wakeBit c)).wokenBy c).rd g = (s.wakeShown (wakeBit c)).rd g := State.SameRegs.wokenBy.rd (P := fun _ => True) trivial
  refine ⟨?_, fun g hg => ?_⟩
  · rw [hrd]
    exact State.bitOf_rd_wr_bit (x := true) (by decide) (wakeBit_lt.trans (by decide))
  · rw [hrd, State.wakeShown, State.rd_wr_addr hg]

/-! ### DEEP_SLEEP_CLOSE (R359, R364) -/

theorem State.SameRegs.closeSession : s.SameRegs ClockRegs (s.closeSession i) := by
  have howner (u : State) (x : Nat × Option Nat × List Nat) : u.SameRegs ClockRegs (u.setOwner x.1 x.2.1 x.2.2) := .of_eq rfl rfl
  have hev (u : State) (j k m : Nat) (rs : List Nat) : u.SameRegs ClockRegs (u.evOwner j k m rs) := State.SameRegs.eventTo.clock
  have hrel (u : State) (rs : List Nat) : u.SameRegs ClockRegs (u.releaseRefs i rs) := by
    unfold State.releaseRefs
    exact (State.SameRegs.foldl howner _ _).trans (.foldl (fun _ _ => .iteBoth .refl (hev _ _ _ _ _)) _ _)
  have hdrop (u : State) : u.SameRegs ClockRegs (u.dropHeld i) := by
    have hmaint : u.SameRegs ClockRegs u.endMaint := State.SameRegs.trans (t := { u with maint := none }) (.of_eq rfl rfl) (.wr (by decide))
    have hfw (v : State) : v.SameRegs ClockRegs (match v.fw with | some x => if x.sess = i && v.devBusy.isNone then { v with fw := none } else v | none => v) := by
      split
      · exact .ite (.of_eq rfl rfl)
      · exact .refl
    have hmsg (v : State) (x : Cells (Option Msg)) : v.SameRegs ClockRegs { v with msgs := x } := .of_eq rfl rfl
    unfold State.dropHeld
    exact ((State.SameRegs.ite hmaint).trans (hfw _)).trans (hmsg _ _)
  have hformer (u : State) (x : Cells (List Nat)) : u.SameRegs ClockRegs { u with former := x } := .of_eq rfl rfl
  have hopen (u : State) : u.SameRegs ClockRegs (u.setSession i sessReset).showOpen := State.SameRegs.setSession.trans (.wr (by decide))
  unfold State.closeSession
  exact ((hrel _ _).trans (hdrop _)).trans ((hformer _ _).trans (hopen _))

/-- The sessions below a number are closed. -/
def State.closedBelow (s : State) (n : Nat) : State := (List.range n).foldl (fun s i => if s.isOpen i then s.closeSession i else s) s

theorem State.closedBelow_succ : s.closedBelow (n + 1) = if (s.closedBelow n).isOpen n then (s.closedBelow n).closeSession n else s.closedBelow n := by
  rw [State.closedBelow, List.range_succ, List.foldl_concat, State.closedBelow]

theorem State.isOpen_closedBelow (hi : i < n) : (s.closedBelow n).isOpen i = false := by
  induction n with
  | zero => exact absurd hi (Nat.not_lt_zero i)
  | succ n ih =>
    rw [State.closedBelow_succ]
    by_cases e : i = n
    · rw [e]
      split
      · exact State.isOpen_closeSession
      · next h => exact Bool.eq_false_iff.mpr h
    · have hlow := ih (by omega)
      split
      · rw [State.isOpen, (State.session_closeSession.2 i e).1, ← State.isOpen, hlow]
      · exact hlow

theorem State.SameRegs.closedBelow : s.SameRegs ClockRegs (s.closedBelow n) := .foldl (fun _ _ => .ite .closeSession) _ _

theorem State.clk_closedBelow : (s.closedBelow n).clk = s.clk :=
  foldl_keeps State.clk (fun u i => by split; exacts [(State.closeSession_good u i).same .clk rfl, rfl]) _ _

/-- Self-refresh begins and no source passes its monitor. -/
def State.selfRefreshed (s : State) : State := (s.flag R.CEL_STATUS_SR).wr R.CLK_MON_GOOD 0

/-- The gates that DEEP SLEEP closes. -/
def State.deepShut (s : State) : Nat := (0x7FFFFF ^^^ s.modeMask 2) &&& (0x7FFFFF ^^^ s.rd R.CLK_GATE_NOW_VALUE)

/-- The gates that close by force are recorded. -/
def State.forced (s : State) (b m : Nat) : State :=
  (s.wr R.CLK_GATE_FORCED_VALUE (s.rd R.CLK_GATE_FORCED_VALUE ||| (b &&& m))).when (b &&& m ≠ 0) (·.bump R.CLK_CNT_FORCE_VALUE)

/-- DEEP SLEEP is remembered. -/
def State.sleepsDeep (s : State) (k : Clk) (z : Sleep) : State := { s with clk := { k with sleep := some { z with closed := true } } }

/-- DEEP SLEEP is entered. -/
def State.deepEntered (s : State) (m : Nat) (z : Sleep) : State :=
  ((s.wr R.CLK_GATE_NOW_VALUE (s.rd R.CLK_GATE_NOW_VALUE ||| m)).wr R.CLK_MODE_CUR 2).sleepsDeep s.clk z

/-- The state that DEEP SLEEP is entered in. -/
def State.deepReady (s : State) (b : Nat) : State := (s.closedBelow 8).selfRefreshed.forced b (s.closedBelow 8).selfRefreshed.deepShut

theorem exec_deepSleepClose {b : BitVec 23} {z : Sleep} (hz : s.clk.sleep = some z) (hd : z.deep = true) (hc : z.closed = false) (hb : z.wakeBlk = none)
    (hr : z.replyAt + ms 10 ≤ (s.atRaw n).tm.raw) (hs : z.stopped = true) (hn : s.clk.step = none) :
    exec (.deepSleepClose b n) s =
      .next (((s.atRaw n).deepReady b.toNat).deepEntered ((s.atRaw n).closedBelow 8).selfRefreshed.deepShut z) := by
  have hz' : (s.atRaw n).clk.sleep = some z := hz
  have hn' : (s.atRaw n).clk.step = none := hn
  show Host.Outcome.next (match (s.atRaw n).clk.sleep with
    | none => _
    | some z => if !z.deep || z.closed || z.wakeBlk.isSome || (s.atRaw n).tm.raw < z.replyAt + ms 10 || !z.stopped || (s.atRaw n).clk.step.isSome then _ else
      ((s.atRaw n).deepReady b.toNat).deepEntered ((s.atRaw n).closedBelow 8).selfRefreshed.deepShut z) = _
  rw [hz']
  refine congrArg Host.Outcome.next (if_neg ?_)
  rw [hd, hc, hb, hs, hn']
  simp [hr]

theorem State.forced_good {b : Nat} : Good 1 s (s.forced b m) := by
  unfold State.forced State.when
  exact (State.wr_good _ _ _).trans (Good.ite (State.bump_good _ _) Good.refl)

theorem State.SameRegs.forced {b : Nat} (h1 : ¬ P R.CLK_GATE_FORCED_VALUE.addr) (h2 : ¬ P R.CLK_CNT_FORCE_VALUE.addr) : s.SameRegs P (s.forced b m) :=
  State.SameRegs.trans (.wr h1) (.when (.bump h2))

theorem State.selfRefreshed_parts : s.selfRefreshed.clk = s.clk ∧ s.selfRefreshed.sessions = s.sessions := by
  rw [State.selfRefreshed, State.wr_clk, State.flag_clk, State.wr_sessions, State.flag_sessions]
  exact ⟨rfl, rfl⟩

theorem State.deepReady_parts {b : Nat} : (s.deepReady b).clk = s.clk ∧ (s.deepReady b).sessions = (s.closedBelow 8).sessions := by
  rw [State.deepReady, State.forced_good.same .clk rfl, State.forced_good.same .sessions rfl, State.selfRefreshed_parts.1, State.selfRefreshed_parts.2,
    State.clk_closedBelow]
  exact ⟨rfl, rfl⟩

/-- The gates' registers before DEEP SLEEP's gates close. -/
theorem State.rd_selfRefreshed (hg : ClockRegs g.addr) (h : g.addr ≠ R.CLK_MON_GOOD.addr) : (s.closedBelow 8).selfRefreshed.rd g = s.rd g := by
  have hcel : g.addr ≠ R.CEL_STATUS_SR.addr := fun e => absurd (e ▸ hg) (by decide)
  rw [State.selfRefreshed, State.rd_wr_addr h, State.rd_flag_addr hcel, State.SameRegs.closedBelow.rd hg]

/-- Every gate is among those that close or closed already, but for the microphones' while DEEP SLEEP leaves it open. -/
theorem State.bitOf_deepShut (hi : i < 23) : (bitOf (s.rd R.CLK_GATE_NOW_VALUE) i || bitOf s.deepShut i) =
    (bitOf (s.rd R.CLK_GATE_NOW_VALUE) i || !(i == 9 && bitOf (s.rd R.CLK_GATE_DEEP_VALUE) 9)) := by
  have hmask : s.modeMask 2 = s.rd R.CLK_GATE_DEEP_VALUE &&& 2 ^ 9 := rfl
  have hmic : bitOf (s.modeMask 2) i = (i == 9 && bitOf (s.rd R.CLK_GATE_DEEP_VALUE) 9) := by
    rw [hmask, bitOf_and, bitOf_eq_testBit (v := 2 ^ 9), Nat.testBit_two_pow]
    by_cases e : i = 9
    · rw [e]
      simp
    · simp [e, Ne.symm e]
  rw [State.deepShut, bitOf_and, bitOf_gatesBut hi, bitOf_gatesBut hi, hmic]
  cases bitOf (s.rd R.CLK_GATE_NOW_VALUE) i <;> simp

theorem State.deepEntered_rd {z : Sleep} (ht : t = s.deepEntered m z) : t.rd R.CLK_MODE_CUR = 2 ∧ t.on R.CEL_STATUS_SR = s.on R.CEL_STATUS_SR ∧
    (∀ i, i < 23 → bitOf (t.rd R.CLK_GATE_NOW_VALUE) i = (bitOf (s.rd R.CLK_GATE_NOW_VALUE) i || bitOf m i)) ∧
    t.clk = { s.clk with sleep := some { z with closed := true } } ∧ t.sessions = s.sessions := by
  have hrd (u : State) (g : Fld) : (u.sleepsDeep s.clk z).rd g = u.rd g := State.rd_congr rfl rfl
  have hparts (u : State) : (u.sleepsDeep s.clk z).clk = { s.clk with sleep := some { z with closed := true } } ∧
    (u.sleepsDeep s.clk z).sessions = u.sessions := ⟨rfl, rfl⟩
  rw [ht, State.deepEntered]
  refine ⟨?_, State.on_of_rd ?_, fun i hi => ?_, ?_, ?_⟩
  · rw [hrd, State.rd_wr_of_lt (by decide) (by decide)]
  · rw [hrd, State.rd_wr_addr (by decide), State.rd_wr_addr (by decide)]
  · rw [hrd, State.rd_wr_addr (by decide), bitOf_rd_gateNow hi, bitOf_or]
  · rw [(hparts _).1]
  · rw [(hparts _).2, State.wr_sessions, State.wr_sessions]

/-- What DEEP SLEEP is entered with. -/
theorem State.deepClosed_spec {b : Nat} {z : Sleep} (ht : t = (s.deepReady b).deepEntered (s.closedBelow 8).selfRefreshed.deepShut z) :
    t.rd R.CLK_MODE_CUR = 2 ∧ t.on R.CEL_STATUS_SR = true ∧ t.clk.sleep = some { z with closed := true } ∧ (∀ i, i < 8 → t.isOpen i = false) ∧
      ∀ i, i < 23 → t.gated i = (s.gated i || !(i == 9 && bitOf (s.rd R.CLK_GATE_DEEP_VALUE) 9)) := by
  obtain ⟨hmode, hsr, hnow, hclk, hsess⟩ := State.deepEntered_rd ht
  have hready : (s.deepReady b).rd R.CLK_GATE_NOW_VALUE = (s.closedBelow 8).selfRefreshed.rd R.CLK_GATE_NOW_VALUE :=
    (State.SameRegs.forced (P := (· = R.CLK_GATE_NOW_VALUE.addr)) (by decide) (by decide)).rd rfl
  have hgates (i : Nat) (hi : i < 23) : bitOf (t.rd R.CLK_GATE_NOW_VALUE) i =
      (bitOf (s.rd R.CLK_GATE_NOW_VALUE) i || !(i == 9 && bitOf (s.rd R.CLK_GATE_DEEP_VALUE) 9)) := by
    rw [hnow i hi, hready, State.bitOf_deepShut hi, State.rd_selfRefreshed (by decide) (by decide), State.rd_selfRefreshed (by decide) (by decide)]
  have hheld : t.clk.held = s.clk.held := by rw [hclk, State.deepReady_parts.1]
  refine ⟨hmode, hsr.trans ?_, by rw [hclk], fun i hi => ?_, fun i hi => ?_⟩
  · have hshow (u : State) : u.selfRefreshed.on R.CEL_STATUS_SR = true := by
      rw [State.selfRefreshed, State.on_of_rd (State.rd_wr_addr (by decide)), State.on_flag_self (by decide)]
    rw [State.deepReady, (State.SameRegs.forced (P := (· = R.CEL_STATUS_SR.addr)) (by decide) (by decide)).on rfl, hshow]
  · have hopen : t.isOpen i = (s.closedBelow 8).isOpen i := by
      rw [State.isOpen, State.isOpen, State.session, State.session, hsess, State.deepReady_parts.2]
    rw [hopen, State.isOpen_closedBelow hi]
  · rw [State.gated, State.gated, hgates i hi, hheld, Bool.or_assoc, Bool.or_assoc, Bool.or_comm (Bool.not _)]

/-! ### The events -/

theorem exec_gateRun {w : BitVec 32} : exec (.gateRunWrite false w n) s = .next ((s.atRaw n).writeGateRun w.toNat) :=
  congrArg Host.Outcome.next (if_neg Bool.false_ne_true)

theorem exec_coreGates {w : BitVec 32} : exec (.gateRunWrite true w n) s = .next ((s.atRaw n).writeCoreGate w.toNat) :=
  congrArg Host.Outcome.next (if_pos rfl)

theorem State.held_atRaw : (s.atRaw n).clk.held = s.clk.held := rfl

theorem State.core_atRaw : (s.atRaw n).core c = s.core c := rfl

theorem State.writeGateRun_spec (hm : s.rd R.CLK_MODE_CUR = 0) (hk : s.clk.held = false) : (s.writeGateRun v).rd R.CLK_GATE_RUN_VALUE = v % 2 ^ 23 ∧
    ∀ i, i < 23 → (s.writeGateRun v).gated i = (s.gated i && !bitOf v i) := by
  obtain ⟨b, hrun⟩ := State.writeGateRun_awake (v := v) hm
  obtain ⟨hval, hclk, hnow⟩ := State.runGates_spec (s := s) (m := v % 2 ^ 23) (Nat.mod_lt _ (by decide))
  have hstep (u : State) (g : Fld) : (u.gateStep b 0 0).rd g = u.rd g := State.SameRegs.gateStep.rd (P := fun _ => True) trivial
  rw [hrun, hstep]
  refine ⟨hval, fun i hi => ?_⟩
  rw [← bitOf_low23 (v := v) hi]
  refine State.gated_opened (fun i hi => ?_) ?_ hk hi
  · rw [hstep, hnow i hi]
  · rw [State.held_gateStep, hclk, hk]

theorem State.writeCoreGate_spec (hv : v < 2 ^ 32) (hc : ∀ c, (s.core c).heldState < 5) : (s.writeCoreGate v).rd R.CLK_CORE_GATE_VALUE = v ∧
    (∀ i, (s.writeCoreGate v).gated i = s.gated i) ∧ ∀ c, c < 32 → bitOf v c = false → (s.writeCoreGate v).coreState c ≠ 5 := by
  have hstep (u : State) (v : Nat) (g : Fld) : (u.coresToShut v).rd g = u.rd g := State.SameRegs.gateStep.rd (P := fun _ => True) trivial
  have hheld (u : State) (v : Nat) : (u.coresToShut v).clk.held = u.clk.held := State.held_gateStep
  have hcore (u : State) (f : Fld) (w k : Nat) : (u.wr f w).core k = u.core k := State.core_congr State.wr_cores
  rw [State.writeCoreGate_eq, hstep, (State.SameRegs.coresOpened (le_refl 32)).rd (by decide), State.rd_wr_of_lt (by decide) (hv.trans_eq (by decide))]
  refine ⟨rfl, fun i => State.gated_same ?_ ?_, fun c hlt hz => ?_⟩
  · rw [hstep, (State.SameRegs.coresOpened (le_refl 32)).rd (by decide), State.rd_wr_addr (by decide)]
  · rw [hheld, State.coresOpened_clk, State.wr_clk]
  · rw [State.coreState, hstep]
    exact (State.coresOpened_spec fun k => by rw [hcore]; exact hc k).2 c hlt hz

theorem State.refusal_spec {x : GateStep} {b : BitVec 23} (ht : t = if x.mode = 1 then (s.refused x b.toNat).abandoned else s.refused x b.toNat) :
    t.clk.step = none ∧ (∀ i, t.gated i = s.gated i) ∧ t.rd R.CLK_CNT_REFUSE_VALUE = min 0xFFFFFFFF (s.rd R.CLK_CNT_REFUSE_VALUE + 1) ∧
      (∀ i, i < 23 → bitOf (t.rd R.CLK_GATE_REFUSED_VALUE) i = (bitOf (s.rd R.CLK_GATE_REFUSED_VALUE) i || (b.getLsbD i && bitOf x.all i))) ∧
      (x.mode = 1 → t.rd R.CLK_MODE_CUR = 0 ∧ t.on R.CLK_MODE_ABORTED = true) := by
  obtain ⟨hnow, hcount, hrefused⟩ := State.refused_spec (s := s) (x := x) (b := b)
  have hclk := State.clk_refused (s := s) (x := x) (b := b.toNat)
  have hfree : (s.refused x b.toNat).clk.step = none ∧ (s.refused x b.toNat).clk.held = s.clk.held := by rw [hclk]; exact ⟨rfl, rfl⟩
  rw [ht]
  split
  · obtain ⟨hstep, hheld, hmode, habort⟩ := State.abandoned_spec (s := s.refused x b.toNat)
    refine ⟨hstep.trans hfree.1, fun i => State.gated_same ((State.rd_abandoned (by decide)).trans hnow) (hheld.trans hfree.2),
      (State.rd_abandoned (by decide)).trans hcount, fun i hi => ?_, fun _ => ⟨hmode, habort⟩⟩
    rw [State.rd_abandoned (by decide), hrefused i hi]
  · next hm => exact ⟨hfree.1, fun i => State.gated_same hnow hfree.2, hcount, hrefused, fun h => absurd h hm⟩

/-- The state that heeds a wake: its cause is latched. -/
def State.woken (s : State) (c : WakeBy) : State := (s.wakeShown (wakeBit c)).wokenBy c

theorem State.woke_spec {c : WakeBy} (hk : s.clk.held = false) (ht : t = (s.woken c).leaveSleep) : t.rd R.CLK_MODE_CUR = 0 ∧ t.clk.step = none ∧
    t.rd R.CLK_CNT_WAKE_VALUE = min 0xFFFFFFFF (s.rd R.CLK_CNT_WAKE_VALUE + 1) ∧
    (∀ i, i < 23 → t.gated i = (s.gated i && !bitOf (s.rd R.CLK_GATE_RUN_VALUE) i)) ∧ bitOf (t.rd R.CLK_WAKE_STAT_w) (wakeBit c) = true := by
  obtain ⟨hshow, hkeep⟩ := State.woken_spec (s := s) (c := c)
  obtain ⟨hheld, -, -⟩ := State.wokenBy_parts (s := s.wakeShown (wakeBit c)) (c := c)
  have hsame : (s.wakeShown (wakeBit c)).clk.held = s.clk.held := by rw [State.wakeShown, State.wr_clk]
  obtain ⟨hmode, hstep, hcount, hgates, hstat⟩ := State.leaveSleep_spec (hheld.trans (hsame.trans hk))
  rw [ht, State.woken]
  refine ⟨hmode, hstep, by rw [hcount, hkeep _ (by decide)], fun i hi => ?_, by rw [hstat, hshow]⟩
  rw [hgates i hi, hkeep _ (by decide), State.gated_same (hkeep _ (by decide)) (hheld.trans hsame)]

theorem State.wokeDeep_spec {c : WakeBy} (ht : t = (s.woken c).leaveDeep) : t.rd R.CLK_MODE_CUR = 0 ∧ t.tm = State.reset.tm ∧ t.sessions = [] ∧
    t.msgs = s.msgs ∧ t.otp = s.otp ∧ (∀ i, t.gated i = false) ∧ t.on R.CEL_STATUS_SR = false := by
  obtain ⟨-, hmsgs, hotp⟩ := State.wokenBy_parts (s := s.wakeShown (wakeBit c)) (c := c)
  rw [State.wakeShown, State.wr_msgs] at hmsgs
  rw [State.wakeShown, State.wr_otp] at hotp
  obtain ⟨h1, h2, h3, h4, h5, h6, h7⟩ := State.leaveDeep_spec (s := s.woken c)
  rw [ht]
  exact ⟨h1, h2, h3, h4.trans hmsgs, h5.trans hotp, h6, h7⟩

end

/-- Settles O59: the gates follow CLK_GATE_NOW and the hold of the clocks, which each event writes once; what DEEP SLEEP keeps stands through the restart of the
blocks, none of which writes the clock unit. -/
theorem clockGates : Obligations.ClockGates := by
  unfold Obligations.ClockGates
  refine ⟨fun s w n hm hk => ⟨_, exec_gateRun, ?_⟩, fun s w n hc => ⟨_, exec_coreGates, ?_⟩, fun s n x hx => ⟨⟨_, exec_gatesClose hx, ?_⟩, fun b hb hr => ?_⟩,
    fun s c n z hz he hb hm hk => ⟨fun hd => ?_, fun hd => ?_⟩,
    fun s b n z hz hd hc hb hr hs hn => ⟨_, exec_deepSleepClose hz hd hc hb hr hs hn, ?_⟩⟩
  · obtain ⟨hval, hgates⟩ := State.writeGateRun_spec (s := s.atRaw n) (v := w.toNat) (State.rd_atRaw.trans hm) (State.held_atRaw.trans hk)
    simp only [State.gated_atRaw, bitOf_toNat] at hgates
    exact ⟨hval, hgates⟩
  · obtain ⟨hval, hgates, hcores⟩ := State.writeCoreGate_spec (s := s.atRaw n) w.isLt fun c => by rw [State.core_atRaw]; exact hc c
    simp only [State.gated_atRaw, bitOf_toNat] at hgates hcores
    exact ⟨hval, hgates, hcores⟩
  · obtain ⟨hstep, hgates, hcores, hmode⟩ := State.closeStep_spec (s := s.atRaw n) (x := x)
    simp only [State.gated_atRaw] at hgates
    exact ⟨hstep, hgates, hcores, hmode⟩
  · obtain ⟨hstep, hgates, hcount, hmask, hmode⟩ := State.refusal_spec (s := s.atRaw n) (x := x) (b := b) rfl
    simp only [State.gated_atRaw, State.rd_atRaw] at hgates hcount hmask
    exact ⟨_, exec_quiescenceTimeout hx hb hr, hstep, hgates, hcount, hmask, hmode⟩
  · obtain ⟨hmode, hstep, hcount, hgates, hstat⟩ := State.woke_spec (s := s.atRaw n) (c := c) (State.held_atRaw.trans hk) rfl
    simp only [State.gated_atRaw, State.rd_atRaw] at hgates hcount
    refine ⟨_, (exec_wake hz he hb hm).trans (congrArg Host.Outcome.next (if_neg (by rw [hd]; exact Bool.false_ne_true))), hmode, hstep, hcount, hgates, ?_⟩
    cases c <;> exact hstat
  · exact ⟨_, (exec_wake hz he hb hm).trans (congrArg Host.Outcome.next (if_pos hd)), State.wokeDeep_spec (s := s.atRaw n) (c := c) rfl⟩
  · obtain ⟨hmode, hsr, hsleep, hopen, hgates⟩ := State.deepClosed_spec (s := s.atRaw n) (b := b.toNat) (z := z) rfl
    simp only [State.gated_atRaw, State.rd_atRaw] at hgates
    exact ⟨hmode, hsr, hsleep, hopen, hgates⟩

end Sys2Proof.Machine
end

section
/-! PROOFS. The Bellwether and the mirror's paths (R314–R320, R325–R327). -/

-- One proof at a time: the package as one text then takes less memory.
set_option Elab.async false

namespace Sys2Proof.Machine

open Sys2Proof

section
variable {s t : State} {f g : Fld} {c i k l m n v : Nat} {P : Nat → Prop}

/-! ### The Bellwether (R314–R317, R327) -/

/-- The cores that wait for resynchronisation are remembered. -/
def State.pended (s : State) (cs : List Nat) : State := { s with bwt := { s.bwt with pend := cs } }

theorem State.setPend_eq {cs : List Nat} : s.setPend cs = (s.pended cs).wr R.BWT_STATUS_RESYNC_PEND (b2n (cs ≠ [])) := rfl

theorem State.rd_setPend {cs : List Nat} (h : Fld.Apart g R.BWT_STATUS_RESYNC_PEND) : (s.setPend cs).rd g = s.rd g := by
  rw [State.setPend_eq, State.rd_wr_apart h]
  exact State.rd_congr rfl rfl

theorem State.pend_setPend {cs : List Nat} : (s.setPend cs).bwt.pend = cs ∧ (s.setPend cs).on R.BWT_STATUS_RESYNC_PEND = decide (cs ≠ []) := by
  rw [State.setPend_eq, State.on_wr_b2n rfl, State.wr_bwt]
  exact ⟨rfl, rfl⟩

theorem State.SameRegs.bwtLog {a b c : Nat} : s.SameRegs (fun x => x ≠ R.BWT_LOG_w.addr ∧ x ≠ R.BWT_LOG_BLK_BLOCK.addr) (s.bwtLog a b c) := by
  have hlog (u : State) (f : Fld) (v : Nat) (h : f.addr = R.BWT_LOG_w.addr) : u.SameRegs (fun x => x ≠ R.BWT_LOG_w.addr ∧ x ≠ R.BWT_LOG_BLK_BLOCK.addr) (u.wr f v) :=
    .wr fun hn => hn.1 h
  unfold State.bwtLog
  exact .iteBoth .refl (((((hlog _ R.BWT_LOG_VALID _ rfl).trans (hlog _ R.BWT_LOG_CORE _ rfl)).trans (hlog _ R.BWT_LOG_KIND _ rfl)).trans
    (hlog _ R.BWT_LOG_ADDR _ rfl)).trans (.wr fun hn => hn.2 rfl))

/-- A disagreement that is counted and logged. -/
def State.outvoted (s : State) (c kind addr : Nat) : State := ((s.bump (R.BWT_CNT_DIS_COUNT c)).wr R.BWT_STATUS_LAST c).bwtLog c kind addr

theorem State.outvoted_good {a : Nat} : Good 1 s (s.outvoted c k a) := ((State.bump_good _ _).trans (State.wr_good _ _ _)).trans (State.bwtLog_good _ _ _ _)

/-- A core whose disagreement is remembered waits for resynchronisation. -/
def State.awaitsResync (s : State) (c : Nat) : State :=
  { s with bwt := { s.bwt with firstAt := s.bwt.firstAt.set 0 c (s.tm.raw + 1) } }.setPend (s.bwt.pend ++ [c])

theorem State.outvote_eq {a : Nat} (h : c ∉ s.bwt.pend) : s.outvote c k a =
    if (s.outvoted c k a).bwt.firstAt.get 0 c ≠ 0 && (s.outvoted c k a).tm.raw < (s.outvoted c k a).bwt.firstAt.get 0 c - 1 + ms 1000 then
      (s.outvoted c k a).removeCore c else (s.outvoted c k a).awaitsResync c := by
  rw [State.outvote, if_neg (by simpa using h)]
  rfl

theorem State.disagree_triple {a : Nat} (hm : s.rd R.BWT_STATUS_MODE = 0) (hk : k ≠ 3) : s.disagree c k a = s.outvote c k a := by
  rw [State.disagree, hm]
  exact if_neg hk

theorem State.rd_outvoted {a : Nat} (h1 : g.addr ≠ (R.BWT_CNT_DIS_COUNT c).addr) (h2 : Fld.Apart g R.BWT_STATUS_LAST)
    (h3 : g.addr ≠ R.BWT_LOG_w.addr ∧ g.addr ≠ R.BWT_LOG_BLK_BLOCK.addr) : (s.outvoted c k a).rd g = s.rd g := by
  rw [State.outvoted, State.SameRegs.bwtLog.rd h3, State.rd_wr_apart h2, State.rd_bump_addr h1]

/-- The Bellwether's status stands apart from what counts and logs a disagreement. -/
theorem State.outvoted_status {a : Nat} (hc : c < 3) : (s.outvoted c k a).rd R.BWT_STATUS_MODE = s.rd R.BWT_STATUS_MODE ∧
    (s.outvoted c k a).rd R.BWT_STATUS_LAST = c ∧
    (s.outvoted c k a).rd (R.BWT_CNT_DIS_COUNT c) = min 0xFFFFFFFF (s.rd (R.BWT_CNT_DIS_COUNT c) + 1) := by
  have hcnt (b : Nat) (hb : b < 0x40700820) : b ≠ 0x40700820 + 4 * c := by omega
  refine ⟨State.rd_outvoted (hcnt _ (by decide)) (by decide) (by decide), ?_, ?_⟩
  · rw [State.outvoted, State.SameRegs.bwtLog.rd (by decide), State.rd_wr_of_lt (by decide) (hc.trans (by decide))]
  · have hoff : 0x40700820 + 4 * c ≠ R.BWT_LOG_w.addr ∧ 0x40700820 + 4 * c ≠ R.BWT_LOG_BLK_BLOCK.addr := ⟨(hcnt _ (by decide)).symm, (hcnt _ (by decide)).symm⟩
    rw [State.outvoted, State.SameRegs.bwtLog.rd hoff, State.rd_wr_addr (hcnt R.BWT_STATUS_LAST.addr (by decide)).symm, State.bump, State.rd_count_word rfl rfl]

theorem State.outvote_first {a : Nat} (hc : c < 3) (hp : c ∉ s.bwt.pend) (h0 : s.bwt.firstAt.get 0 c = 0) : (s.outvote c k a).bwt.pend = s.bwt.pend ++ [c] ∧
    (s.outvote c k a).on R.BWT_STATUS_RESYNC_PEND = true ∧ (s.outvote c k a).rd R.BWT_STATUS_LAST = c ∧
    (s.outvote c k a).rd R.BWT_STATUS_MODE = s.rd R.BWT_STATUS_MODE ∧
    (s.outvote c k a).rd (R.BWT_CNT_DIS_COUNT c) = min 0xFFFFFFFF (s.rd (R.BWT_CNT_DIS_COUNT c) + 1) := by
  obtain ⟨hmode, hlast, hcount⟩ := State.outvoted_status (s := s) (k := k) (a := a) hc
  have hbwt : (s.outvoted c k a).bwt = s.bwt := State.outvoted_good.same .bwt rfl
  have hwait (u : State) (g : Fld) (h : Fld.Apart g R.BWT_STATUS_RESYNC_PEND) : (u.awaitsResync c).rd g = u.rd g :=
    (State.rd_setPend h).trans (State.rd_congr rfl rfl)
  rw [State.outvote_eq hp, hbwt, h0, if_neg (by simp)]
  refine ⟨?_, ?_, ?_, ?_, ?_⟩
  · rw [State.awaitsResync, State.pend_setPend.1, hbwt]
  · rw [State.awaitsResync, State.pend_setPend.2]
    simp
  · rw [hwait _ _ (by decide), hlast]
  · rw [hwait _ _ (by decide), hmode]
  · rw [hwait _ _ (.inl (show 0x40700820 + 4 * c ≠ 0x40700804 by omega)), hcount]

theorem State.removeCore_rd (hc : c < 3) : (s.removeCore c).rd R.BWT_STATUS_MODE = 1 ∧ (s.removeCore c).rd R.BWT_STATUS_REMOVED = c := by
  rw [State.removeCore]
  exact ⟨(State.rd_wr_apart (by decide)).trans (State.rd_wr_of_lt (by decide) (by decide)), State.rd_wr_of_lt (by decide) (hc.trans (by decide))⟩

theorem State.outvote_second {a r : Nat} (hp : c ∉ s.bwt.pend) (h1 : s.bwt.firstAt.get 0 c = r + 1) (hr : s.tm.raw < r + ms 1000) :
    s.outvote c k a = (s.outvoted c k a).removeCore c := by
  have hbwt : (s.outvoted c k a).bwt = s.bwt := State.outvoted_good.same .bwt rfl
  have htm : (s.outvoted c k a).tm = s.tm := State.outvoted_good.same .tm rfl
  rw [State.outvote_eq hp, hbwt, htm, h1, if_pos (by simpa using hr)]

theorem State.rd_safeStop : s.safeStop.rd R.BWT_STATUS_MODE = 2 ∧ s.safeStop.fwRuns = false := by
  have h : s.safeStop.rd R.BWT_STATUS_MODE = 2 := State.rd_wr_of_lt (by decide) (by decide)
  exact ⟨h, by rw [State.fwRuns, h]; rfl⟩

theorem State.disagree_all {a : Nat} (hm : s.rd R.BWT_STATUS_MODE = 0) : s.disagree c 3 a = (s.bwtLog 3 3 a).safeStop := by
  rw [State.disagree, hm]
  rfl

theorem State.disagree_compare {a : Nat} (hm : s.rd R.BWT_STATUS_MODE = 1) (hr : s.rd R.BWT_STATUS_REMOVED ≠ c) : s.disagree c k a = s.safeStop := by
  rw [State.disagree, hm]
  exact if_neg hr

/-! ### Heartbeats sent (R318, R320) -/

/-- A frame of a kind that goes out. -/
def State.foldOut (s : State) (kind : Nat) (final switch last : Bool) : FoldOut :=
  ⟨kind, s.foldFlags final switch last, s.mir.seqs.get 0 kind, s.tm.blockCount⟩

theorem State.mir_sendFold {final switch last : Bool} : (s.sendFold k final switch last).mir =
    { s.mir with frames := (s.foldOut k final switch last :: s.mir.frames).take 16, seqs := s.mir.seqs.set 0 k ((s.mir.seqs.get 0 k + 1) % 2 ^ 32) } := rfl

/-- The heartbeat of a period is due. -/
def State.beats (s : State) : State := s.setMir { s.mir with hbo := !s.mir.hbo, beat := some (s.now / ms 1) }

/-- The frames of a period. -/
def State.beatSent (s : State) : State := (s.when (s.role = roleArb) (fun s => s.sendFold 1 false false false)).sendFold 2 false false false

/-- A unit that stops sets the boundary of its leaving. -/
def State.leaves (s : State) : State :=
  if s.stopping && s.role = roleActive && s.mir.partner.isSome then s.setChange (s.nextBlock + 1) true true else s

theorem exec_heartbeatPeriod (hg : s.gated 17 = false) (he : s.on R.FLD_CTRL_EN = true) (hb : s.mir.beat ≠ some ((s.atRaw n).now / ms 1)) :
    exec (.heartbeatPeriod n) s = .next (s.atRaw n).beats.beatSent.leaves := by
  refine (ungated hg).trans (congrArg Host.Outcome.next (if_neg ?_))
  rw [State.on_atRaw, he]
  simp only [Bool.not_true, Bool.false_or, decide_eq_true_eq]
  exact hb

theorem State.mir_setChange {a b : Bool} : (s.setChange k a b).mir = { s.mir with change := (s.setChange k a b).mir.change } := by
  unfold State.setChange
  split <;> rfl

theorem State.mir_leaves : s.leaves.mir = { s.mir with change := s.leaves.mir.change } := by
  unfold State.leaves
  split
  · exact State.mir_setChange
  · rfl

theorem State.leaves_good : Good (2 ^ Part.mir.idx) s s.leaves := by
  unfold State.leaves
  exact Good.ite (State.setChange_good _ _ _ _) Good.refl

theorem State.beatSent_good : Good (2 ^ Part.mir.idx) s s.beatSent := by
  unfold State.beatSent State.when
  exact (Good.ite (State.sendFold_good _ _ _ _ _) Good.refl).trans (State.sendFold_good _ _ _ _ _)

/-- A heartbeat goes out behind the HELLO of a unit that arbitrates. -/
theorem State.beatSent_spec : ∃ f : FoldOut, s.beatSent.mir.frames.head? = some f ∧ f.kind = 2 ∧ f.seq = s.mir.seqs.get 0 2 ∧
    s.beatSent.mir.seqs.get 0 2 = (f.seq + 1) % 2 ^ 32 ∧ s.beatSent.mir.hbo = s.mir.hbo ∧
    (s.role = roleArb → ∃ g : FoldOut, s.beatSent.mir.frames.tail.head? = some g ∧ g.kind = 1 ∧ g.seq = s.mir.seqs.get 0 1 ∧
      s.beatSent.mir.seqs.get 0 1 = (g.seq + 1) % 2 ^ 32) ∧
    (s.role ≠ roleArb → s.beatSent.mir.frames.tail = s.mir.frames.take 15) := by
  have hne : (1 : Nat) ≠ 2 := by decide
  unfold State.beatSent
  refine ⟨(s.when (s.role = roleArb) (fun s => s.sendFold 1 false false false)).foldOut 2 false false false, ?_⟩
  by_cases hr : s.role = roleArb
  · rw [State.when, if_pos (decide_eq_true hr), State.mir_sendFold, State.foldOut, State.mir_sendFold]
    refine ⟨rfl, rfl, Cells.get_set_other hne.symm, Cells.get_set_self, rfl, fun _ => ⟨s.foldOut 1 false false false, rfl, rfl, rfl, ?_⟩, fun h => absurd hr h⟩
    exact (Cells.get_set_other hne).trans Cells.get_set_self
  · rw [State.when, if_neg (by simpa using hr), State.mir_sendFold, State.foldOut]
    exact ⟨rfl, rfl, rfl, Cells.get_set_self, rfl, fun h => absurd h hr, fun _ => rfl⟩

/-! ### What a frame tells of the partner (R319, R322) -/

theorem State.mir_showPartner : s.showPartner.mir = s.mir := (State.showPartner_good s).same .mir rfl

theorem State.rd_showPartner (hs : Steady g.addr) (h : Fld.Apart g R.FLD_STATUS_PARTNER) : s.showPartner.rd g = s.rd g :=
  (State.SameRegs.showPartner.rd hs).trans (State.rd_wr_apart h)

/-- A frame from the partner, before its state is shown. -/
def State.frameHeard (s : State) (f : FoldFrame) : State :=
  let u := (s.wr R.FLD_STATUS_VER_ERR (b2n (f.major ≠ s.mir.major))).setMir { s.mir with partner := some ⟨f.role.toNat, f.stop, f.prefer, f.id, f.took⟩ }
  if f.major ≠ s.mir.major then u.setMir { u.mir with inRow := 0 } else u

theorem State.hearFrame_eq {x : FoldFrame} : s.hearFrame x = (s.frameHeard x).showPartner := rfl

theorem State.mir_frameHeard {x : FoldFrame} : (s.frameHeard x).mir =
    { s.mir with partner := some ⟨x.role.toNat, x.stop, x.prefer, x.id, x.took⟩, inRow := if x.major ≠ s.mir.major then 0 else s.mir.inRow } := by
  have hset (u : State) (m : Mir) : (u.setMir m).mir = m := rfl
  unfold State.frameHeard
  dsimp only
  split
  · rw [hset, hset]
  · rw [hset]

theorem State.SameRegs.frameHeard {x : FoldFrame} : (s.wr R.FLD_STATUS_VER_ERR (b2n (x.major ≠ s.mir.major))).SameRegs P (s.frameHeard x) := by
  unfold State.frameHeard
  exact State.SameRegs.setMir.trans (.ite .setMir)

theorem State.mir_hearFrame {x : FoldFrame} : (s.hearFrame x).mir =
    { s.mir with partner := some ⟨x.role.toNat, x.stop, x.prefer, x.id, x.took⟩, inRow := if x.major ≠ s.mir.major then 0 else s.mir.inRow } := by
  rw [State.hearFrame_eq, State.mir_showPartner, State.mir_frameHeard]

theorem State.rd_hearFrame {x : FoldFrame} (hs : Steady g.addr) (h : Fld.Apart g R.FLD_STATUS_PARTNER) (hv : Fld.Apart g R.FLD_STATUS_VER_ERR) :
    (s.hearFrame x).rd g = s.rd g := by
  rw [State.hearFrame_eq, State.rd_showPartner hs h, State.SameRegs.frameHeard.rd (P := fun _ => True) trivial, State.rd_wr_apart hv]

theorem State.on_hearFrame {x : FoldFrame} : (s.hearFrame x).on R.FLD_STATUS_VER_ERR = decide (x.major ≠ s.mir.major) := by
  rw [State.hearFrame_eq, State.on_of_rd (State.rd_showPartner (by decide) (by decide)), State.SameRegs.frameHeard.on (P := fun _ => True) trivial, State.on_wr_b2n rfl]

theorem State.role_hearFrame {x : FoldFrame} : (s.hearFrame x).role = s.role := State.rd_hearFrame (by decide) (by decide) (by decide)

/-! ### Arbitration (R318) -/

theorem State.role_arbActive : s.arbActive.role = roleActive ∧ s.arbActive.on R.FLD_STATUS_ACTO = true := by
  have hacto : s.arbActive.on R.FLD_STATUS_ACTO = ((s.setRole roleActive).setActo true).on R.FLD_STATUS_ACTO := State.SameRegs.evMirror.on (by decide)
  have hrole : s.arbActive.role = ((s.setRole roleActive).setActo true).role := State.SameRegs.evMirror.rd (by decide)
  rw [hacto, hrole, State.role, State.setActo, State.on_wr_b2n rfl, State.rd_wr_apart (by decide)]
  exact ⟨State.role_setRole (by decide), rfl⟩

theorem State.mir_arbitrate {x : FoldFrame} : (s.arbitrate x).mir = s.mir := (State.arbitrate_good s x).same .mir rfl

theorem State.arbitrate_other {x : FoldFrame} (h : s.role ≠ roleArb) : s.arbitrate x = s := if_pos h

/-- The partner's role decides; two that arbitrate compare their preferences and identifiers. -/
theorem State.role_arbitrate {x : FoldFrame} (h : s.role = roleArb) : (s.arbitrate x).role =
    if x.role = 1 ∨ x.role = 3 then roleStandby else if x.role = 0 then (if s.winsOver x.prefer x.id then roleActive else roleStandby) else roleArb := by
  rw [State.arbitrate, if_neg (not_not_intro h)]
  by_cases h1 : x.role = 1 ∨ x.role = 3
  · rw [if_pos (by simpa using h1), if_pos h1, State.role_arbStandby]
  rw [if_neg (by simpa using h1), if_neg h1]
  by_cases h0 : x.role = 0
  · rw [if_pos h0, if_pos h0]
    split
    · exact State.role_arbActive.1
    · exact State.role_arbStandby
  · rw [if_neg h0, if_neg h0, h]

theorem State.winsOver_hearFrame {x : FoldFrame} {b : Bool} : (s.hearFrame x).winsOver b m =
    if s.on R.FLD_CTRL_PREFER_ACTIVE = b then decide (s.otp.devId < m) else s.on R.FLD_CTRL_PREFER_ACTIVE := by
  have hon : (s.hearFrame x).on R.FLD_CTRL_PREFER_ACTIVE = s.on R.FLD_CTRL_PREFER_ACTIVE :=
    State.on_of_rd (State.rd_hearFrame (by decide) (by decide) (by decide))
  rw [State.winsOver, hon, (State.hearFrame_good s x).same .otp rfl]

theorem exec_hello {x : FoldFrame} (hg : s.gated 17 = false) (he : s.on R.FLD_CTRL_EN = true) :
    exec (.hello x n) s = .next (((s.atRaw n).hearFrame x).arbitrate x) := by
  refine (ungated hg).trans (congrArg Host.Outcome.next (if_neg ?_))
  rw [State.on_atRaw, he]
  exact Bool.false_ne_true

theorem State.hello_spec {x : FoldFrame} (hr : s.role = roleArb) (ht : t = (s.hearFrame x).arbitrate x) :
    t.mir.partner = some ⟨x.role.toNat, x.stop, x.prefer, x.id, x.took⟩ ∧
    t.role = (if x.role = 1 ∨ x.role = 3 then roleStandby
      else if x.role = 0 then (if (if s.on R.FLD_CTRL_PREFER_ACTIVE = x.prefer then decide (s.otp.devId < x.id) else s.on R.FLD_CTRL_PREFER_ACTIVE)
        then roleActive else roleStandby)
      else roleArb) := by
  rw [ht, State.mir_arbitrate, State.mir_hearFrame, State.role_arbitrate (State.role_hearFrame.trans hr), State.winsOver_hearFrame]
  exact ⟨rfl, rfl⟩

theorem State.acti_spec {high : Bool} {u : State} (hu : u = s.wr R.FLD_STATUS_ACTI (b2n high))
    (ht : t = if high && u.on R.FLD_CTRL_EN && u.role = roleArb then u.arbStandby else u) :
    t.on R.FLD_STATUS_ACTI = high ∧ t.role = (if high = true ∧ s.on R.FLD_CTRL_EN = true ∧ s.role = roleArb then roleStandby else s.role) := by
  have hen : u.on R.FLD_CTRL_EN = s.on R.FLD_CTRL_EN := by rw [hu, State.on_wr_apart (by decide)]
  have hrole : u.role = s.role := by rw [hu, State.role, State.rd_wr_apart (by decide), State.role]
  have hacti : u.on R.FLD_STATUS_ACTI = high := by rw [hu, State.on_wr_b2n rfl]
  rw [hen, hrole] at ht
  by_cases h : high = true ∧ s.on R.FLD_CTRL_EN = true ∧ s.role = roleArb
  · rw [if_pos (by simpa [and_assoc] using h)] at ht
    rw [ht, State.SameRegs.arbStandby.on (by decide), State.setRole, State.on_wr_apart (by decide), hacti, State.role_arbStandby, if_pos h]
    exact ⟨rfl, rfl⟩
  · rw [if_neg (by simpa [and_assoc] using h)] at ht
    rw [ht, hacti, hrole, if_neg h]
    exact ⟨rfl, rfl⟩

/-- The end of the waiting for a partner that says nothing. -/
theorem exec_arbitrationTimeout (hr : s.role = roleArb) (hp : s.mir.partner = none) (ht : s.mir.releaseAt + ms 400 ≤ (s.atRaw n).tm.raw) :
    exec (.arbitrationTimeout n) s = .next (if s.on R.FLD_CTRL_PREFER_ACTIVE then (s.atRaw n).arbActive
      else if s.on R.FLD_STATUS_ACTI then (s.atRaw n).arbStandby else (s.atRaw n).arbActive) := by
  have hrole : (s.atRaw n).role = roleArb := State.rd_atRaw.trans hr
  have hmir : (s.atRaw n).mir = s.mir := State.atRaw_mir
  have hlate : ¬ (s.atRaw n).tm.raw < s.mir.releaseAt + ms 300 := by
    have h3 : ms 300 ≤ ms 400 := by decide
    omega
  show Host.Outcome.next (if (s.atRaw n).role ≠ roleArb || (s.atRaw n).mir.partner.isSome || (s.atRaw n).tm.raw < (s.atRaw n).mir.releaseAt + ms 300 then _
    else if (s.atRaw n).on R.FLD_CTRL_PREFER_ACTIVE then _ else if (s.atRaw n).tm.raw < (s.atRaw n).mir.releaseAt + ms 400 then _
    else if (s.atRaw n).on R.FLD_STATUS_ACTI then (s.atRaw n).arbStandby else (s.atRaw n).arbActive) = _
  rw [hrole, hmir, hp, State.on_atRaw, State.on_atRaw, if_neg (by simpa using hlate), if_neg (Nat.not_lt.mpr ht)]

theorem State.decided_spec (ht : t = if s.on R.FLD_CTRL_PREFER_ACTIVE then s.arbActive else if s.on R.FLD_STATUS_ACTI then s.arbStandby else s.arbActive) :
    t.role = (if s.on R.FLD_CTRL_PREFER_ACTIVE = false ∧ s.on R.FLD_STATUS_ACTI = true then roleStandby else roleActive) ∧
    (t.role = roleActive → t.on R.FLD_STATUS_ACTO = true) := by
  obtain ⟨hrole, hacto⟩ := State.role_arbActive (s := s)
  have hact : s.arbActive.role = roleActive ∧ (s.arbActive.role = roleActive → s.arbActive.on R.FLD_STATUS_ACTO = true) := ⟨hrole, fun _ => hacto⟩
  rw [ht]
  by_cases hp : s.on R.FLD_CTRL_PREFER_ACTIVE = true
  · rw [if_pos hp, if_neg fun h => absurd (hp.symm.trans h.1) (by decide)]
    exact hact
  rw [if_neg hp]
  by_cases ha : s.on R.FLD_STATUS_ACTI = true
  · rw [if_pos ha, if_pos ⟨Bool.eq_false_iff.mpr hp, ha⟩, State.role_arbStandby]
    exact ⟨rfl, fun h => absurd h (by decide)⟩
  · rw [if_neg ha, if_neg fun h => ha h.2]
    exact hact

end

end Sys2Proof.Machine
end

section
/-! PROOFS. The mirror's paths and the handover (R320, R324–R326). -/

-- One proof at a time: the package as one text then takes less memory.
set_option Elab.async false

namespace Sys2Proof.Machine

open Sys2Proof

section
variable {s t u : State} {f g : Fld} {c i k l m n v : Nat} {P : Nat → Prop} {x : FoldFrame}

/-! ### Heartbeats received (R320, R325) -/

theorem State.now_congr (h : t.tm = s.tm) : t.now = s.now := by rw [State.now, State.now, h]

theorem State.nextBlock_congr (h : t.tm = s.tm) : t.nextBlock = s.nextBlock := by rw [State.nextBlock, State.nextBlock, h]

theorem State.rd_pathUp (hs : Steady g.addr) (hf : Fld.Apart g f) (hc : Fld.Apart g R.FLD_STATUS_PATH_CHG) : (s.pathUp f).rd g = s.rd g := by
  rw [State.pathUp, State.SameRegs.evMirror.rd hs, State.flag, State.flag, State.rd_wr_apart hc, State.rd_wr_apart hf]

theorem State.mir_pathUp : (s.pathUp f).mir = s.mir := (State.pathUp_good s f).same .mir rfl

/-- A heartbeat on the Fold lane, before its path is judged. -/
def State.foldHeard (s : State) : State :=
  s.setMir { s.mir with foldAt := some s.now, foldRun := min 3 (pathRun s.mir.foldAt s.mir.foldRun s.now) }

theorem State.foldBeat_eq : s.foldBeat = if 3 ≤ pathRun s.mir.foldAt s.mir.foldRun s.now && !s.foldHeard.on R.FLD_STATUS_FOLD_UP then
    s.foldHeard.pathUp R.FLD_STATUS_FOLD_UP else s.foldHeard := rfl

theorem State.mir_foldBeat :
    s.foldBeat.mir = { s.mir with foldAt := some s.now, foldRun := min 3 (pathRun s.mir.foldAt s.mir.foldRun s.now) } := by
  rw [State.foldBeat_eq]
  split
  · rw [State.mir_pathUp]
    rfl
  · rfl

theorem State.rd_foldBeat (hs : Steady g.addr) (hf : Fld.Apart g R.FLD_STATUS_FOLD_UP) (hc : Fld.Apart g R.FLD_STATUS_PATH_CHG) : s.foldBeat.rd g = s.rd g := by
  have hset (m : Mir) : (s.setMir m).rd g = s.rd g := State.SameRegs.setMir.rd (P := fun _ => True) trivial
  rw [State.foldBeat_eq]
  split
  · rw [State.rd_pathUp hs hf hc, State.foldHeard, hset]
  · rw [State.foldHeard, hset]

/-- What a heartbeat shows of the partner. -/
def State.partnerShown (s : State) (x : FoldFrame) : State :=
  let s := ((s.wr R.FLD_PARTNER_MAJOR x.major).wr R.FLD_PARTNER_MINOR x.minor).wr R.FLD_PARTNER_FLAGS (FoldFlags x)
  (s.wr R.FLD_STATUS_PARTNER_STOP (b2n x.stop)).wr R.FLD_STATUS_PARTNER_DEG (b2n x.degraded)

theorem State.partnerShown_parts : (s.partnerShown x).tm = s.tm ∧ (s.partnerShown x).mir = s.mir := by
  rw [State.partnerShown, State.wr_tm, State.wr_tm, State.wr_tm, State.wr_tm, State.wr_tm, State.wr_mir, State.wr_mir, State.wr_mir, State.wr_mir, State.wr_mir]
  exact ⟨rfl, rfl⟩

theorem State.partnerShown_rd (hm : x.major < 256) : (s.partnerShown x).rd R.FLD_PARTNER_MAJOR = x.major ∧
    (s.partnerShown x).on R.FLD_STATUS_PARTNER_STOP = x.stop ∧ (s.partnerShown x).on R.FLD_STATUS_PARTNER_DEG = x.degraded := by
  simp (disch := decide) only [State.partnerShown, State.rd_wr_apart, State.on_wr_apart, State.on_wr_b2n]
  exact ⟨State.rd_wr_of_lt (by decide) (hm.trans_eq (by decide)), trivial, trivial⟩

theorem State.rd_partnerShown (h : g.addr ≠ R.FLD_PARTNER_w.addr) (hs : Fld.Apart g R.FLD_STATUS_PARTNER_STOP) (hd : Fld.Apart g R.FLD_STATUS_PARTNER_DEG) :
    (s.partnerShown x).rd g = s.rd g := by
  rw [State.partnerShown, State.rd_wr_apart hd, State.rd_wr_apart hs, State.rd_wr_addr (f := R.FLD_PARTNER_FLAGS) h,
    State.rd_wr_addr (f := R.FLD_PARTNER_MINOR) h, State.rd_wr_addr (f := R.FLD_PARTNER_MAJOR) h]

/-- A unit that has heard a heartbeat. -/
def State.beatHeard (s : State) (x : FoldFrame) : State := (s.partnerShown x).foldBeat.hearFrame x

/-- A standby takes the role of a partner that has stopped. -/
def State.succeeds (s : State) (x : FoldFrame) (had : Bool) : State :=
  if x.stop && !had && s.standsBy && s.fwRuns then s.setChange (s.nextBlock + 1) false true else s

theorem State.rd_beatHeard (hs : Steady g.addr) (hoff : g.addr ≠ R.FLD_PARTNER_w.addr) (h : ∀ e ∈ [R.FLD_STATUS_PARTNER_STOP, R.FLD_STATUS_PARTNER_DEG,
    R.FLD_STATUS_FOLD_UP, R.FLD_STATUS_PATH_CHG, R.FLD_STATUS_PARTNER, R.FLD_STATUS_VER_ERR], Fld.Apart g e) : (s.beatHeard x).rd g = s.rd g := by
  simp only [List.forall_mem_cons] at h
  obtain ⟨h1, h2, h3, h4, h5, h6, -⟩ := h
  rw [State.beatHeard, State.rd_hearFrame hs h5 h6, State.rd_foldBeat hs h3 h4, State.rd_partnerShown hoff h1 h2]

theorem State.role_beatHeard : (s.beatHeard x).role = s.role := State.rd_beatHeard (by decide) (by decide) (by decide)

theorem State.mir_beatHeard : (s.beatHeard x).mir.foldAt = some s.now ∧ (s.beatHeard x).mir.change = s.mir.change := by
  obtain ⟨htm, hmir⟩ := State.partnerShown_parts (s := s) (x := x)
  rw [State.beatHeard, State.mir_hearFrame, State.mir_foldBeat, State.now_congr htm, hmir]
  exact ⟨rfl, rfl⟩

theorem State.tm_beatHeard : (s.beatHeard x).tm = s.tm := by
  rw [State.beatHeard, (State.hearFrame_good _ _).same .tm rfl, (State.foldBeat_good _).same .tm rfl, State.partnerShown_parts.1]

/-- What a heartbeat shows stands once it is heard. -/
theorem State.beatHeard_rd (hm : x.major < 256) : (s.beatHeard x).rd R.FLD_PARTNER_MAJOR = x.major ∧ (s.beatHeard x).on R.FLD_STATUS_PARTNER_STOP = x.stop ∧
    (s.beatHeard x).on R.FLD_STATUS_PARTNER_DEG = x.degraded ∧ (s.beatHeard x).on R.FLD_STATUS_VER_ERR = decide (x.major ≠ s.mir.major) := by
  obtain ⟨hmajor, hstop, hdeg⟩ := State.partnerShown_rd (s := s) hm
  have hrd (g : Fld) (hs : Steady g.addr := by decide) (h1 : Fld.Apart g R.FLD_STATUS_FOLD_UP := by decide) (h2 : Fld.Apart g R.FLD_STATUS_PATH_CHG := by decide)
      (h3 : Fld.Apart g R.FLD_STATUS_PARTNER := by decide) (h4 : Fld.Apart g R.FLD_STATUS_VER_ERR := by decide) :
      (s.beatHeard x).rd g = (s.partnerShown x).rd g := by
    rw [State.beatHeard, State.rd_hearFrame hs h3 h4, State.rd_foldBeat hs h1 h2]
  refine ⟨(hrd _).trans hmajor, (State.on_of_rd (hrd _)).trans hstop, (State.on_of_rd (hrd _)).trans hdeg, ?_⟩
  rw [State.beatHeard, State.on_hearFrame, State.mir_foldBeat, State.partnerShown_parts.2]

theorem State.bothActive_other (h : s.role ≠ roleActive) : s.bothActive x = s := if_neg (by simp [h])

theorem exec_heartbeat (hg : s.gated 17 = false) (he : s.on R.FLD_CTRL_EN = true) (hr : s.role = roleStandby) :
    exec (.heartbeat x n) s = .next (((s.atRaw n).beatHeard x).succeeds x (s.on R.FLD_STATUS_PARTNER_STOP)) := by
  have hrole : ((s.atRaw n).beatHeard x).role = roleStandby := State.role_beatHeard.trans (State.rd_atRaw.trans hr)
  have harb : ((s.atRaw n).beatHeard x).arbitrate x = (s.atRaw n).beatHeard x := State.arbitrate_other (by rw [hrole]; decide)
  have hboth : ((s.atRaw n).beatHeard x).bothActive x = (s.atRaw n).beatHeard x := State.bothActive_other (by rw [hrole]; decide)
  have hheld : exec (.heartbeat x n) s =
      .next (((((s.atRaw n).beatHeard x).arbitrate x).bothActive x).succeeds x ((s.atRaw n).on R.FLD_STATUS_PARTNER_STOP)) := by
    refine (ungated hg).trans (congrArg Host.Outcome.next (if_neg ?_))
    rw [State.on_atRaw, he]
    exact Bool.false_ne_true
  rw [hheld, harb, hboth, State.on_atRaw]

theorem State.SameRegs.setChange {a b : Bool} : s.SameRegs P (s.setChange k a b) := by
  unfold State.setChange
  split
  · exact .refl
  · exact .setMir

theorem State.SameRegs.succeeds {had : Bool} : s.SameRegs P (s.succeeds x had) := .ite .setChange

theorem State.mir_succeeds {had : Bool} : (s.succeeds x had).mir.foldAt = s.mir.foldAt := by
  unfold State.succeeds
  split
  · rw [State.mir_setChange]
  · rfl

theorem State.succeeds_change {had : Bool} (hs : x.stop = true) (hh : had = false) (hr : s.role = roleStandby) (hf : s.fwRuns = true) (hc : s.mir.change = none) :
    (s.succeeds x had).mir.change = some ⟨s.nextBlock + 1, false, true⟩ := by
  have hstand : s.standsBy = true := decide_eq_true hr
  rw [State.succeeds, hs, hh, hstand, hf, State.setChange_none hc]
  rfl

theorem State.fwRuns_beatHeard : (s.beatHeard x).fwRuns = s.fwRuns := by
  rw [State.fwRuns, State.fwRuns, State.rd_beatHeard (by decide) (by decide) (by decide)]

theorem State.heartbeat_spec (hm : x.major < 256) {had : Bool} (ht : t = (s.beatHeard x).succeeds x had) : t.rd R.FLD_PARTNER_MAJOR = x.major ∧
    t.on R.FLD_STATUS_PARTNER_STOP = x.stop ∧ t.on R.FLD_STATUS_PARTNER_DEG = x.degraded ∧ t.on R.FLD_STATUS_VER_ERR = decide (x.major ≠ s.mir.major) ∧
    t.mir.foldAt = some s.now ∧ t.role = s.role := by
  have hreg : (s.beatHeard x).SameRegs (fun _ => True) t := ht ▸ .succeeds
  obtain ⟨h1, h2, h3, h4⟩ := State.beatHeard_rd (s := s) hm
  exact ⟨(hreg.rd trivial).trans h1, (hreg.on trivial).trans h2, (hreg.on trivial).trans h3, (hreg.on trivial).trans h4,
    by rw [ht, State.mir_succeeds, State.mir_beatHeard.1], (hreg.rd trivial).trans State.role_beatHeard⟩

theorem State.heartbeat_takes {had : Bool} (hs : x.stop = true) (hh : had = false) (hr : s.role = roleStandby) (hf : s.fwRuns = true) (hc : s.mir.change = none) :
    ((s.beatHeard x).succeeds x had).mir.change = some ⟨s.nextBlock + 1, false, true⟩ := by
  rw [State.succeeds_change hs hh (State.role_beatHeard.trans hr) (State.fwRuns_beatHeard.trans hf) (State.mir_beatHeard.2.trans hc),
    State.nextBlock_congr State.tm_beatHeard]

/-! ### Edges on the pin (R320) -/

/-- An edge on FLD_HBI, before its path is judged. -/
def State.pinHeard (s : State) : State :=
  s.setMir { s.mir with pinAt := some s.now, pinRun := min 3 (pathRun s.mir.pinAt s.mir.pinRun s.now) }

theorem State.pinBeat_eq : s.pinBeat = if 3 ≤ pathRun s.mir.pinAt s.mir.pinRun s.now && !s.pinHeard.on R.FLD_STATUS_HB_UP then
    s.pinHeard.pathUp R.FLD_STATUS_HB_UP else s.pinHeard := rfl

theorem State.on_pathUp (h : f.lo ≤ f.hi) (hs : Steady f.addr) (hc : Fld.Apart f R.FLD_STATUS_PATH_CHG) : (s.pathUp f).on f = true := by
  rw [State.pathUp, State.SameRegs.evMirror.on hs, State.flag, State.on_wr_apart hc, State.on_flag_self h]

/-- The third edge in a row brings the pin's path up. -/
theorem State.pinBeat_third (hl : s.mir.pinAt = some l) (hn : s.now ≤ l + us 1250) (hr : s.mir.pinRun = 2) :
    s.pinBeat.mir.pinAt = some s.now ∧ s.pinBeat.on R.FLD_STATUS_HB_UP = true := by
  have hrun : pathRun s.mir.pinAt s.mir.pinRun s.now = 3 := by
    rw [hl, hr]
    exact if_pos hn
  rw [State.pinBeat_eq, hrun]
  cases hup : s.pinHeard.on R.FLD_STATUS_HB_UP with
  | true => exact ⟨rfl, hup⟩
  | false =>
    rw [if_pos (by decide), State.mir_pathUp]
    exact ⟨rfl, State.on_pathUp (by decide) (by decide) (by decide)⟩

theorem exec_hbPinEdge (hg : s.gated 17 = false) (he : s.on R.FLD_CTRL_EN = true) : exec (.hbPinEdge n) s = .next (s.atRaw n).pinBeat :=
  (ungated hg).trans (congrArg Host.Outcome.next (if_pos (State.on_atRaw.trans he)))

/-! ### Periods missed (R320) -/

theorem State.missed_three (h : l + us 3250 ≤ s.now) : 3 ≤ s.missed (some l) := by
  have h1 : ms 1 = 500000 := rfl
  have h2 : us 250 = 125000 := rfl
  have h3 : us 3250 = 1625000 := rfl
  rw [h3] at h
  rw [State.missed, h1, h2, Nat.le_div_iff_mul_le (by decide)]
  omega

theorem State.missed_fewer (h : s.now < l + us 3250) : s.missed (some l) < 3 := by
  have h1 : ms 1 = 500000 := rfl
  have h2 : us 250 = 125000 := rfl
  have h3 : us 3250 = 1625000 := rfl
  rw [h3] at h
  rw [State.missed, h1, h2, Nat.div_lt_iff_lt_mul (by decide)]
  omega

/-- The Fold lane is silent: the partner is absent. -/
def State.foldSilent (s : State) : State := (s.setMir { s.mir with foldRun := 0, inRow := 0, partner := none }).showPartner

/-- Both paths are lost. -/
def State.bothLost (s : State) : State := ((s.setMir { s.mir with partner := none, inRow := 0 }).showPartner).bothDown

/-- A standby that has lost its partner takes over. -/
def State.takesOver (s : State) : State := if s.standsBy && s.fwRuns then s.setChange s.nextBlock false false else s

/-- Three periods are missed on a path: its heartbeats are counted anew. -/
def State.missTold (s : State) (fold : Bool) : State :=
  (s.setMir (if fold then { s.mir with foldRun := 0, inRow := 0, partner := none } else { s.mir with pinRun := 0 })).showPartner

/-- What a miss comes to. -/
def State.missJudged (s : State) (fold : Bool) : State :=
  if s.pathLost s.mir.foldAt && s.pathLost s.mir.pinAt then s.bothLost.takesOver
  else if fold then s.pathDown R.FLD_STATUS_FOLD_UP R.FLD_CNT_MISS_FOLD_COUNT 2
  else s.pathDown R.FLD_STATUS_HB_UP R.FLD_CNT_MISS_HB_COUNT 3

theorem exec_heartbeatMiss {fold : Bool} (hg : s.gated 17 = false) (he : s.on R.FLD_CTRL_EN = true)
    (hm : 3 ≤ (s.atRaw n).missed (if fold then (s.atRaw n).mir.foldAt else (s.atRaw n).mir.pinAt)) :
    exec (.heartbeatMiss fold n) s = .next (((s.atRaw n).missTold fold).missJudged fold) := by
  refine (ungated hg).trans (congrArg Host.Outcome.next (if_neg ?_))
  rw [State.on_atRaw, he, Bool.not_true, Bool.false_or, decide_eq_true_eq]
  exact Nat.not_lt.mpr hm

theorem State.missTold_fold : s.missTold true = s.foldSilent := by
  rw [State.missTold, if_pos rfl, State.foldSilent]

theorem State.mir_foldSilent : s.foldSilent.mir = { s.mir with foldRun := 0, inRow := 0, partner := none } := State.mir_showPartner

theorem State.tm_foldSilent : s.foldSilent.tm = s.tm := (State.showPartner_good _).same .tm rfl

theorem State.rd_foldSilent (hs : Steady g.addr) (h : Fld.Apart g R.FLD_STATUS_PARTNER) : s.foldSilent.rd g = s.rd g :=
  (State.rd_showPartner hs h).trans (State.SameRegs.setMir.rd (P := fun _ => True) trivial)

theorem State.pathLost_foldSilent {o : Option Nat} : s.foldSilent.pathLost o = s.pathLost o := by
  have hmissed : s.foldSilent.missed o = s.missed o := by
    cases o with
    | none => rfl
    | some l => rw [State.missed, State.missed, State.now_congr State.tm_foldSilent]
  rw [State.pathLost, State.pathLost, hmissed]

theorem State.pathLost_late (h : l + us 3250 ≤ s.now) : s.pathLost (some l) = true := by
  rw [State.pathLost]
  simpa using State.missed_three h

theorem State.pathLost_recent (h : s.now < l + us 3250) : s.pathLost (some l) = false := by
  rw [State.pathLost]
  simpa using State.missed_fewer h

/-- Three misses on the Fold lane alone take its path down. -/
theorem State.foldDown_spec (hup : s.on R.FLD_STATUS_FOLD_UP = true) (ht : t = s.foldSilent.pathDown R.FLD_STATUS_FOLD_UP R.FLD_CNT_MISS_FOLD_COUNT 2) :
    t.mir.partner = none ∧ t.mir.change = s.mir.change ∧ t.on R.FLD_STATUS_FOLD_UP = false ∧ t.on R.FLD_STATUS_PATH_CHG = true ∧
      t.rd R.FLD_CNT_MISS_FOLD_COUNT = min 0xFFFFFFFF (s.rd R.FLD_CNT_MISS_FOLD_COUNT + 1) ∧ t.mir.inRow = 0 := by
  have hdown : t = (((s.foldSilent.wr R.FLD_STATUS_FOLD_UP 0).flag R.FLD_STATUS_PATH_CHG).bump R.FLD_CNT_MISS_FOLD_COUNT).evMirror 2 := by
    rw [ht, State.pathDown, if_pos (by rw [State.on_of_rd (State.rd_foldSilent (by decide) (by decide)), hup])]
  have hmir : t.mir = s.foldSilent.mir := by rw [ht, (State.pathDown_good _ _ _ _).same .mir rfl]
  rw [State.mir_foldSilent] at hmir
  refine ⟨by rw [hmir], by rw [hmir], ?_, ?_, ?_, by rw [hmir]⟩
  · rw [hdown, State.SameRegs.evMirror.on (by decide), State.on_of_rd (State.rd_bump_addr (by decide)), State.flag, State.on_wr_apart (by decide),
      State.on_wr_zero (by decide)]
  · rw [hdown, State.SameRegs.evMirror.on (by decide), State.on_of_rd (State.rd_bump_addr (by decide)), State.on_flag_self (by decide)]
  · rw [hdown, State.SameRegs.evMirror.rd (by decide), State.bump, State.rd_count_word rfl rfl, State.rd_flag_addr (by decide), State.rd_wr_addr (by decide),
      State.rd_foldSilent (by decide) (by decide)]

theorem State.bothDown_parts : s.bothDown.on R.FLD_STATUS_FOLD_UP = false ∧ s.bothDown.on R.FLD_STATUS_HB_UP = false ∧ s.bothDown.mir = s.mir ∧ s.bothDown.tm = s.tm ∧
    s.bothDown.role = s.role ∧ s.bothDown.fwRuns = s.fwRuns := by
  have hwhen (u : State) (b : Bool) (g : Fld) (h : Fld.Apart g R.FLD_STATUS_PATH_CHG := by decide) : (u.when b (·.flag R.FLD_STATUS_PATH_CHG)).rd g = u.rd g := by
    rw [State.when]
    split
    · exact State.rd_wr_apart h
    · rfl
  have hgood (u : State) (b : Bool) : Good 1 u (u.when b (·.flag R.FLD_STATUS_PATH_CHG)) := by
    rw [State.when]
    exact Good.ite (State.flag_good _ _) Good.refl
  unfold State.bothDown
  refine ⟨?_, ?_, ?_, ?_, ?_, ?_⟩
  · rw [State.on_of_rd (hwhen _ _ _), State.on_wr_apart (by decide), State.on_wr_zero (by decide)]
  · rw [State.on_of_rd (hwhen _ _ _), State.on_wr_zero (by decide)]
  · rw [(hgood _ _).same .mir rfl, State.wr_mir, State.wr_mir]
  · rw [(hgood _ _).same .tm rfl, State.wr_tm, State.wr_tm]
  · rw [State.role, hwhen _ _ _, State.rd_wr_apart (by decide), State.rd_wr_apart (by decide), State.role]
  · rw [State.fwRuns, hwhen _ _ _, State.rd_wr_apart (by decide), State.rd_wr_apart (by decide), State.fwRuns]

/-- With both paths lost a standby that runs takes over at the next block. -/
theorem State.lost_spec (hr : s.role = roleStandby) (hf : s.fwRuns = true) (hc : s.mir.change = none) (ht : t = s.foldSilent.bothLost.takesOver) :
    t.mir.partner = none ∧ t.on R.FLD_STATUS_FOLD_UP = false ∧ t.on R.FLD_STATUS_HB_UP = false ∧ t.mir.change = some ⟨s.nextBlock, false, false⟩ := by
  obtain ⟨hfold, hpin, hmir, htm, hrole, hfw⟩ := State.bothDown_parts (s := (s.foldSilent.setMir { s.foldSilent.mir with partner := none, inRow := 0 }).showPartner)
  rw [← State.bothLost] at hfold hpin hmir htm hrole hfw
  rw [State.mir_showPartner] at hmir
  have hrole' : s.foldSilent.bothLost.role = roleStandby := by
    rw [hrole, State.role, State.rd_showPartner (by decide) (by decide), State.SameRegs.setMir.rd (P := fun _ => True) trivial,
      State.rd_foldSilent (by decide) (by decide), ← State.role, hr]
  have hfw' : s.foldSilent.bothLost.fwRuns = true := by
    rw [hfw, State.fwRuns, State.rd_showPartner (by decide) (by decide), State.SameRegs.setMir.rd (P := fun _ => True) trivial,
      State.rd_foldSilent (by decide) (by decide), ← State.fwRuns, hf]
  have hnext : s.foldSilent.bothLost.nextBlock = s.nextBlock := State.nextBlock_congr (htm.trans (((State.showPartner_good _).same .tm rfl).trans State.tm_foldSilent))
  have hset (u : State) (x : Mir) : (u.setMir x).mir = x := rfl
  rw [hset] at hmir
  have hnone : s.foldSilent.bothLost.mir.change = none := by rw [hmir, State.mir_foldSilent, hc]
  have hstand : s.foldSilent.bothLost.standsBy = true := decide_eq_true hrole'
  have htake : t = s.foldSilent.bothLost.setMir { s.foldSilent.bothLost.mir with change := some ⟨s.nextBlock, false, false⟩ } := by
    rw [ht, State.takesOver, hstand, hfw', hnext, State.setChange_none hnone]
    rfl
  have hreg : s.foldSilent.bothLost.SameRegs (fun _ => True) t := htake ▸ .setMir
  refine ⟨?_, (hreg.on trivial).trans hfold, (hreg.on trivial).trans hpin, ?_⟩
  · rw [htake, hset, hmir]
  · rw [htake, hset]

end

end Sys2Proof.Machine
end

section
/-! PROOFS. The handover of the mirrored pair (R325, R326), and the mirror's paths as a whole. -/

-- One proof at a time: the package as one text then takes less memory.
set_option Elab.async false

namespace Sys2Proof.Machine

open Sys2Proof

section
variable {s t u : State} {f g : Fld} {c i k l m n v : Nat} {P : Nat → Prop} {x : FoldFrame}

/-! ### The channels of the new active unit (R201, R325) -/

/-- The word that shows a channel's state. -/
@[reducible] def stateWord (n : Nat) : Nat := 0x50041020 + 256 * n

/-- A channel that may run starts for the mirror. -/
theorem State.psStart_mirrored (hl : s.tly.line = none) (hrun : s.mayRun n = true) (hlatch : s.on (R.PWS_FAULT_LATCH n) = false)
    (hdc : s.on (R.PWS_FAULT_DC n) = false) :
    ∃ x : PsSt, x.half = true ∧ x.mirrorIn = true ∧ s.psStart n true true = ((s.setPs n x).setPsState n stStarting).wr (R.PWS_STATUS_SWITCHING n) 1 := by
  unfold State.psStart
  rw [hrun, hlatch, hdc, if_neg (by decide), State.lineAbort_idle hl]
  exact ⟨_, rfl, rfl, rfl⟩

/-- One channel when all start. -/
def State.startOne (s : State) (n : Nat) : State :=
  if !s.on (R.PWS_CFG_EN n) then s else if s.rd (R.PWS_CFG_ROLE n) = 2 then s.psIdle n else s.psStart n true true

theorem State.startAll_eq : s.startAll true (fun _ _ => true) = (List.range 24).foldl State.startOne s := by
  have hone : (fun (s : State) n => if !s.on (R.PWS_CFG_EN n) || !true then s else if s.rd (R.PWS_CFG_ROLE n) = 2 then s.psIdle n else s.psStart n true true) =
      State.startOne := by
    funext s n
    rw [State.startOne, Bool.not_true, Bool.or_false]
  rw [State.startAll, hone]

theorem State.SameRegs.psIdle_of (h : ¬ P (stateWord n)) : s.SameRegs P (s.psIdle n) := by
  have hst (u : State) (v : Nat) : u.SameRegs P (u.setPsState n v) := .wr (f := R.PWS_STATUS_STATE n) h
  unfold State.psIdle
  exact .iteBoth (hst _ _) (.iteBoth (hst _ _) (State.SameRegs.setPs.trans (hst _ _)))

theorem State.SameRegs.psStart_of {half mirror : Bool} (hl : s.tly.line = none) (h : ¬ P (stateWord n)) : s.SameRegs P (s.psStart n half mirror) := by
  have hst (u : State) (v : Nat) : u.SameRegs P (u.setPsState n v) := .wr (f := R.PWS_STATUS_STATE n) h
  unfold State.psStart
  rw [State.lineAbort_idle hl]
  exact .iteBoth (.iteBoth .refl (.psIdle_of h)) (State.SameRegs.setPs.trans ((hst _ _).trans (.wr (f := R.PWS_STATUS_SWITCHING n) h)))

theorem State.SameRegs.startOne_of (hl : s.tly.line = none) (h : ¬ P (stateWord n)) : s.SameRegs P (s.startOne n) :=
  .iteBoth .refl (.iteBoth (.psIdle_of h) (.psStart_of hl h))

theorem State.tly_startOne (hl : s.tly.line = none) : (s.startOne n).tly = s.tly := by
  unfold State.startOne
  split
  · rfl
  split
  · exact (State.psIdle_good s n).same .tly rfl
  · exact State.tly_psStart hl

theorem State.psSt_setPs_other {x : PsSt} (h : k ≠ n) : (s.setPs n x).psSt k = s.psSt k := Cells.get_set_other h

theorem State.psSt_psIdle_other (h : k ≠ n) : (s.psIdle n).psSt k = s.psSt k := by
  have hst (u : State) (v : Nat) : (u.setPsState n v).psSt k = u.psSt k := State.psSt_congr State.wr_ps
  unfold State.psIdle
  split
  · exact hst _ _
  split
  · exact hst _ _
  · rw [hst, State.psSt_setPs_other h]

theorem State.psSt_startOne_other (hl : s.tly.line = none) (h : k ≠ n) : (s.startOne n).psSt k = s.psSt k := by
  unfold State.startOne
  split
  · rfl
  split
  · exact State.psSt_psIdle_other h
  unfold State.psStart
  rw [State.lineAbort_idle hl]
  split
  · split
    · rfl
    · exact State.psSt_psIdle_other h
  · exact (State.psSt_congr State.wr_ps).trans ((State.psSt_congr State.wr_ps).trans (State.psSt_setPs_other h))

/-- A channel that has started for the mirror. -/
def State.mirrorStarted (s : State) (c : Nat) : Prop := s.psState c = stStarting ∧ (s.psSt c).half = true ∧ (s.psSt c).mirrorIn = true

/-- May a channel start: enabled, no B-end, no fault? -/
def State.startable (s : State) (c : Nat) : Prop := s.on (R.PWS_CFG_EN c) = true ∧ s.rd (R.PWS_CFG_ROLE c) ≠ 2 ∧ s.on (R.PWS_FAULT_LATCH c) = false ∧
  s.on (R.PWS_FAULT_DC c) = false

theorem State.startOne_starts (hl : s.tly.line = none) (hp : s.on R.PWS_CTRL_ENABLE = true) (hr : s.standsBy = false) (hc : s.startable n) :
    (s.startOne n).mirrorStarted n := by
  obtain ⟨hen, hrole, hlatch, hdc⟩ := hc
  have hrun : s.mayRun n = true := by rw [State.mayRun, hp, hen, hr]; rfl
  obtain ⟨x, hhalf, hmirror, hstart⟩ := State.psStart_mirrored hl hrun hlatch hdc
  have hps : (((s.setPs n x).setPsState n stStarting).wr (R.PWS_STATUS_SWITCHING n) 1).psSt n = x :=
    (State.psSt_congr (State.wr_ps.trans State.wr_ps)).trans State.psSt_setPs_self
  rw [State.startOne, hen, if_neg (by decide), if_neg hrole, hstart, State.mirrorStarted, hps]
  exact ⟨State.psState_started, hhalf, hmirror⟩

/-- No address of a channel's state among the first. -/
def OffStates (b : Nat) : Prop := ∀ n, b ≠ stateWord n

theorem State.startable_congr (h : s.SameRegs OffStates t) (hc : s.startable c) : t.startable c := by
  obtain ⟨h1, h2, h3, h4⟩ := hc
  have hcfg : OffStates (0x50041000 + 256 * c) := fun n => by unfold stateWord; omega
  have hfault : OffStates (0x50041024 + 256 * c) := fun n => by unfold stateWord; omega
  exact ⟨(h.on (g := R.PWS_CFG_EN c) hcfg).trans h1, fun e => h2 ((h.rd (g := R.PWS_CFG_ROLE c) hcfg).symm.trans e),
    (h.on (g := R.PWS_FAULT_LATCH c) hfault).trans h3, (h.on (g := R.PWS_FAULT_DC c) hfault).trans h4⟩

/-- Every startable channel of the first has started. -/
theorem State.startAll_starts (hl : s.tly.line = none) (hp : s.on R.PWS_CTRL_ENABLE = true) (hr : s.standsBy = false) :
    let t := (List.range n).foldl State.startOne s
    s.SameRegs OffStates t ∧ t.tly.line = none ∧ ∀ c, c < n → s.startable c → t.mirrorStarted c := by
  induction n with
  | zero => exact ⟨.refl, hl, fun c hc => absurd hc (Nat.not_lt_zero c)⟩
  | succ n ih =>
    obtain ⟨hregs, hline, hstarted⟩ := ih
    dsimp only
    rw [List.range_succ, List.foldl_concat]
    generalize (List.range n).foldl State.startOne s = u at hregs hline hstarted
    refine ⟨hregs.trans (.startOne_of hline fun h => h n rfl), by rw [State.tly_startOne hline, hline], fun c hc hst => ?_⟩
    by_cases e : c = n
    · have hoff (b : Nat) (hb : b < 0x50041020) : OffStates b := fun m => by unfold stateWord; omega
      rw [e] at hst ⊢
      refine State.startOne_starts hline ((hregs.on (hoff _ (by decide))).trans hp) ?_ (State.startable_congr hregs hst)
      rw [State.standsBy, hregs.rd (hoff _ (by decide)), ← State.standsBy, hr]
    · obtain ⟨h1, h2, h3⟩ := hstarted c (by omega) hst
      have hstate : (u.startOne n).psState c = u.psState c :=
        (State.SameRegs.startOne_of (P := (· = stateWord c)) hline (by unfold stateWord; omega)).rd rfl
      rw [State.mirrorStarted, hstate, State.psSt_startOne_other hline e]
      exact ⟨h1, h2, h3⟩

theorem exec_handoverChannelStart (hc : s.mir.change = some ⟨k, false, true⟩) (hr : s.role = roleActive) (hn : (s.atRaw n).tBlock (k + 2) ≤ (s.atRaw n).now) :
    exec (.handoverChannelStart n) s = .next ((s.atRaw n).startAll true (fun _ _ => true)) := by
  have hc' : (s.atRaw n).mir.change = some ⟨k, false, true⟩ := hc
  have hr' : (s.atRaw n).role = roleActive := State.rd_atRaw.trans hr
  show Host.Outcome.next (match (s.atRaw n).mir.change with
    | some x => if x.leaving || !x.byHandover || (s.atRaw n).role ≠ roleActive || decide ((s.atRaw n).now < (s.atRaw n).tBlock (x.s + 2)) then _
      else (s.atRaw n).startAll true (fun _ _ => true)
    | none => _) = _
  rw [hc']
  refine congrArg Host.Outcome.next (if_neg ?_)
  rw [hr', decide_eq_false (Nat.not_lt.mpr hn)]
  simp

/-! ### The leaving unit becomes STANDBY (R325, R288) -/

/-- A channel that the standby holds, with its gates low. -/
def State.holdOne (s : State) (n : Nat) : State :=
  if !s.on (R.PWS_CFG_EN n) then s
  else
    let s := (((s.lineAbort n).gatesLow n).wr (R.PWS_STATUS_FB_ACTIVE n) 0).wr (R.PWS_STATUS_LOOP_DRIVE n) 0
    (s.setPs n { s.psSt n with serves := none, forTest := false, pilot := none, again := false, shed := false }).setPsState n stHeld

theorem State.holdChannels_eq : s.holdChannels = (List.range 24).foldl State.holdOne s := rfl

theorem State.SameRegs.holdOne_of (hl : s.tly.line = none) (h : ¬ P (stateWord n)) : s.SameRegs P (s.holdOne n) := by
  have hst (u : State) (v : Nat) : u.SameRegs P (u.setPsState n v) := .wr (f := R.PWS_STATUS_STATE n) h
  have hlow (u : State) : u.SameRegs P (u.gatesLow n) := State.SameRegs.setPs.trans (.wr (f := R.PWS_STATUS_SWITCHING n) h)
  unfold State.holdOne
  rw [State.lineAbort_idle hl]
  exact .iteBoth .refl ((((hlow _).trans (.wr (f := R.PWS_STATUS_FB_ACTIVE n) h)).trans (.wr (f := R.PWS_STATUS_LOOP_DRIVE n) h)).trans
    (State.SameRegs.setPs.trans (hst _ _)))

theorem State.tly_holdOne (hl : s.tly.line = none) : (s.holdOne n).tly = s.tly := by
  have hst (u : State) (v : Nat) : (u.setPsState n v).tly = u.tly := State.wr_tly
  have hset (u : State) (y : PsSt) : (u.setPs n y).tly = u.tly := rfl
  unfold State.holdOne
  rw [State.lineAbort_idle hl]
  split
  · rfl
  · dsimp only
    rw [hst, hset, State.wr_tly, State.wr_tly, State.gatesLow, State.wr_tly, hset]

theorem State.psState_holdOne (he : s.on (R.PWS_CFG_EN n) = true) : (s.holdOne n).psState n = stHeld := by
  rw [State.holdOne, he, if_neg (by decide)]
  exact State.rd_wr_of_lt (Nat.le_add_right 15 3) (by simp [R.PWS_STATUS_STATE, stHeld])

/-- Every enabled channel of the first is held. -/
theorem State.holdChannels_held (hl : s.tly.line = none) :
    let t := (List.range n).foldl State.holdOne s
    s.SameRegs OffStates t ∧ t.tly.line = none ∧ ∀ c, c < n → s.on (R.PWS_CFG_EN c) = true → t.psState c = stHeld := by
  induction n with
  | zero => exact ⟨.refl, hl, fun c hc => absurd hc (Nat.not_lt_zero c)⟩
  | succ n ih =>
    obtain ⟨hregs, hline, hheld⟩ := ih
    dsimp only
    rw [List.range_succ, List.foldl_concat]
    generalize (List.range n).foldl State.holdOne s = u at hregs hline hheld
    refine ⟨hregs.trans (.holdOne_of hline fun h => h n rfl), by rw [State.tly_holdOne hline, hline], fun c hc hen => ?_⟩
    by_cases e : c = n
    · have hcfg : OffStates (0x50041000 + 256 * n) := fun m => by unfold stateWord; omega
      rw [e] at hen ⊢
      exact State.psState_holdOne ((hregs.on (g := R.PWS_CFG_EN n) hcfg).trans hen)
    · have hstate : (u.holdOne n).psState c = u.psState c :=
        (State.SameRegs.holdOne_of (P := (· = stateWord c)) hline (by unfold stateWord; omega)).rd rfl
      rw [hstate, hheld c (by omega) hen]

/-- The addresses below the counts of events lost. -/
@[reducible] def BesideEvents (b : Nat) : Prop := b < (R.HIF_CNT_EVT_LOST_VALUE 0).addr

theorem State.SameRegs.eventTo_below {op : Nat} {data : List Byte} : s.SameRegs BesideEvents (s.eventTo i op data) := by
  unfold State.eventTo
  dsimp only
  exact .iteBoth .refl (.iteBoth (State.SameRegs.setSession.trans .pump) (State.SameRegs.setSession.trans
    (.bump (Nat.not_lt.mpr (Nat.le_add_right (R.HIF_CNT_EVT_LOST_VALUE 0).addr _)))))

theorem State.SameRegs.evMirror_below : s.SameRegs BesideEvents (s.evMirror k) := .foldl (fun _ _ => .eventTo_below) _ _

theorem State.SameRegs.releaseRefs_below {rs : List Nat} : s.SameRegs BesideEvents (s.releaseRefs i rs) := by
  have howner (u : State) (x : Nat × Option Nat × List Nat) : u.SameRegs BesideEvents (u.setOwner x.1 x.2.1 x.2.2) := .of_eq rfl rfl
  have hev (u : State) (j k m : Nat) (rs : List Nat) : u.SameRegs BesideEvents (u.evOwner j k m rs) := .eventTo_below
  unfold State.releaseRefs
  exact (State.SameRegs.foldl howner _ _).trans (.foldl (fun _ _ => .iteBoth .refl (hev _ _ _ _ _)) _ _)

/-- What the sessions own is released, with their staging sets. -/
def State.allReleased (s : State) : State :=
  (List.range 8).foldl (fun s i => (s.releaseRefs i (s.ownedBy i)).setSession i { s.session i with staging := [] }) s

theorem State.SameRegs.allReleased : s.SameRegs BesideEvents s.allReleased :=
  .foldl (fun _ _ => State.SameRegs.releaseRefs_below.trans .setSession) _ _

/-- The channels of the unit that leaves are held, and FLD_ACTO falls. -/
def State.yields (s : State) : State := (((s.setRole roleStandby).holdChannels).setActo false).silentChains (fun _ => 131072)

/-- The change of roles is over. -/
def State.changeOver (s : State) : State := s.setMir { s.mir with change := none }

/-- The change is told. -/
def State.changeTold (s : State) : State := (if s.fwRuns then s.evMirror 1 else s).showPartner

theorem State.becomeStandby_eq : s.becomeStandby = s.yields.allReleased.changeOver.changeTold := by
  unfold State.becomeStandby State.changeTold State.changeOver State.allReleased State.yields
  rfl

theorem State.SameRegs.silentChains {F : Nat → Nat} : s.SameRegs P (s.silentChains F) := .of_eq rfl rfl

theorem State.SameRegs.changeOver : s.SameRegs P s.changeOver := .setMir

theorem State.rd_changeTold (hg : BesideEvents g.addr) (h : Fld.Apart g R.FLD_STATUS_PARTNER) : s.changeTold.rd g = s.rd g := by
  have htold (u : State) : u.SameRegs BesideEvents (if u.fwRuns then u.evMirror 1 else u) := .ite .evMirror_below
  have hshow (u : State) : (u.wr R.FLD_STATUS_PARTNER u.partnerState).SameRegs BesideEvents u.showPartner := .ite .evMirror_below
  rw [State.changeTold, (hshow _).rd hg, State.rd_wr_apart h, (htold _).rd hg]

/-- What the leaving unit's registers are once it stands by. -/
theorem State.rd_becomeStandby (hg : BesideEvents g.addr) (h : Fld.Apart g R.FLD_STATUS_PARTNER) : s.becomeStandby.rd g = s.yields.rd g := by
  rw [State.becomeStandby_eq, State.rd_changeTold hg h, State.SameRegs.changeOver.rd (P := fun _ => True) trivial, State.SameRegs.allReleased.rd hg]

theorem State.yields_spec (hl : s.tly.line = none) : s.yields.role = roleStandby ∧ s.yields.on R.FLD_STATUS_ACTO = false ∧
    ∀ c, c < 24 → s.on (R.PWS_CFG_EN c) = true → s.yields.psState c = stHeld := by
  have hsil (u : State) (g : Fld) : (u.silentChains (fun _ => 131072)).rd g = u.rd g := State.SameRegs.silentChains.rd (P := fun _ => True) trivial
  have hline : (s.setRole roleStandby).tly.line = none := by rw [State.setRole, State.wr_tly, hl]
  obtain ⟨hregs, -, hheld⟩ := State.holdChannels_held (n := 24) hline
  rw [← State.holdChannels_eq] at hregs hheld
  have hfld : OffStates R.FLD_STATUS_w.addr := fun m => by
    have h : R.FLD_STATUS_w.addr = 0x40600004 := rfl
    rw [h]
    unfold stateWord
    omega
  refine ⟨?_, ?_, fun c hc hen => ?_⟩
  · rw [State.yields, State.role, hsil, State.setActo, State.rd_wr_apart (by decide), hregs.rd (g := R.FLD_STATUS_ROLE) hfld]
    exact State.role_setRole (by decide)
  · rw [State.yields, State.on_of_rd (hsil _ _), State.setActo, State.on_wr_b2n rfl]
  · have hne : stateWord c ≠ R.FLD_STATUS_ACTO.addr := by
      have h : R.FLD_STATUS_ACTO.addr = 0x40600004 := rfl
      rw [h]
      unfold stateWord
      omega
    have hcfg : (0x50041000 + 256 * c) ≠ R.FLD_STATUS_ROLE.addr := by
      have h : R.FLD_STATUS_ROLE.addr = 0x40600004 := rfl
      omega
    have hen' : (s.setRole roleStandby).on (R.PWS_CFG_EN c) = true := by
      rw [State.setRole, State.on_of_rd (State.rd_wr_addr hcfg), hen]
    rw [State.yields, State.psState, hsil, State.setActo, State.rd_wr_addr hne]
    exact hheld c hc hen'

theorem State.becomeStandby_spec (hl : s.tly.line = none) : s.becomeStandby.role = roleStandby ∧ s.becomeStandby.on R.FLD_STATUS_ACTO = false ∧
    s.becomeStandby.mir.change = none ∧ ∀ c, c < 24 → s.on (R.PWS_CFG_EN c) = true → s.becomeStandby.psState c = stHeld := by
  obtain ⟨hrole, hacto, hheld⟩ := State.yields_spec hl
  refine ⟨?_, ?_, ?_, fun c hc hen => ?_⟩
  · rw [State.role, State.rd_becomeStandby (by decide) (by decide), ← State.role, hrole]
  · rw [State.on_of_rd (State.rd_becomeStandby (by decide) (by decide)), hacto]
  · have htold (u : State) : u.changeTold.mir = u.mir := by
      rw [State.changeTold, State.mir_showPartner]
      split
      · exact (State.evMirror_good _ _).same .mir rfl
      · rfl
    rw [State.becomeStandby_eq, htold]
    rfl
  · have hlow : stateWord c < (R.HIF_CNT_EVT_LOST_VALUE 0).addr := by
      have h : (R.HIF_CNT_EVT_LOST_VALUE 0).addr = 0x500A0120 := rfl
      rw [h]
      unfold stateWord
      omega
    have hne : stateWord c ≠ R.FLD_STATUS_PARTNER.addr := by
      have h : R.FLD_STATUS_PARTNER.addr = 0x40600004 := rfl
      rw [h]
      unfold stateWord
      omega
    rw [State.psState, State.rd_becomeStandby hlow (.inl hne), ← State.psState, hheld c hc hen]

/-- The role that is taken is shown, and the change is over. -/
def State.takesRole (s : State) : State := (s.setActo true).setMir { s.mir with change := none }

theorem exec_handoverEnd {b d : Bool} (hc : s.mir.change = some ⟨k, b, d⟩) (hn : (s.atRaw n).tBlock (k + 3) ≤ (s.atRaw n).now) :
    exec (.handoverEnd n) s = .next (if b then (if (s.atRaw n).role = roleLeaving then (s.atRaw n).becomeStandby else s.atRaw n)
      else if d && (s.atRaw n).role = roleActive then (s.atRaw n).takesRole else s.atRaw n) := by
  have hc' : (s.atRaw n).mir.change = some ⟨k, b, d⟩ := hc
  show Host.Outcome.next (match (s.atRaw n).mir.change with
    | some x => if (s.atRaw n).now < (s.atRaw n).tBlock (x.s + 3) then _
      else if x.leaving then (if (s.atRaw n).role = roleLeaving then (s.atRaw n).becomeStandby else _)
      else if x.byHandover && (s.atRaw n).role = roleActive then (s.atRaw n).takesRole else _
    | none => _) = _
  rw [hc']
  exact congrArg Host.Outcome.next (if_neg (Nat.not_lt.mpr hn))

theorem State.takesRole_spec : s.takesRole.role = s.role ∧ s.takesRole.on R.FLD_STATUS_ACTO = true ∧ s.takesRole.mir.change = none := by
  have hset (u : State) (m : Mir) (g : Fld) : (u.setMir m).rd g = u.rd g := State.SameRegs.setMir.rd (P := fun _ => True) trivial
  refine ⟨?_, ?_, rfl⟩
  · rw [State.takesRole, State.role, hset, State.setActo, State.rd_wr_apart (by decide), State.role]
  · rw [State.takesRole, State.on_of_rd (hset _ _ _), State.setActo, State.on_wr_b2n rfl]

/-! ### The events that are left (R314, R319, R327) -/

theorem exec_disagreement {d : Fin 3} {r : BitVec 2} {a : BitVec 27} (hg : s.gated 22 = false) :
    exec (.disagreement d r a n) s = .next ((s.atRaw n).disagree d.val r.toNat a.toNat) := ungated hg

theorem exec_faultInjection {d : BitVec 2} (hg : s.gated 22 = false) (hm : s.on R.SEC_STATUS_MAINT = true) :
    exec (.faultInjection d n) s = .next { s.atRaw n with bwt := { s.bwt with inject := if d.toNat < 3 then some d.toNat else none } } :=
  (ungated hg).trans (congrArg Host.Outcome.next (if_pos (State.on_atRaw.trans hm)))

theorem exec_actiChange {high : Bool} (hg : s.gated 17 = false) (hu : u = (s.atRaw n).wr R.FLD_STATUS_ACTI (b2n high)) :
    exec (.actiChange high n) s = .next (if high && u.on R.FLD_CTRL_EN && u.role = roleArb then u.arbStandby else u) := by
  rw [hu]
  exact ungated hg

theorem exec_foldBlockLockLoss (hg : s.gated 17 = false) : exec (.foldBlockLockLoss true n) s = .next ((s.atRaw n).bump R.FLD_CNT_LINK_DOWN_COUNT) :=
  (ungated hg).trans (congrArg Host.Outcome.next (if_pos rfl))

theorem exec_pattern {e : BitVec 32} (hg : s.gated 17 = false) (he : s.on R.FLD_CTRL_EN = true) :
    exec (.pattern e n) s = .next { s.atRaw n with mir := { s.mir with patErr := e.toNat } } :=
  (ungated hg).trans (congrArg Host.Outcome.next (if_pos (State.on_atRaw.trans he)))

theorem State.role_atRaw : (s.atRaw n).role = s.role := State.rd_atRaw

theorem State.fwRuns_atRaw : (s.atRaw n).fwRuns = s.fwRuns := by rw [State.fwRuns, State.fwRuns, State.rd_atRaw]

/-- A miss on the Fold lane. -/
theorem exec_foldMiss (hg : s.gated 17 = false) (he : s.on R.FLD_CTRL_EN = true) (hl : s.mir.foldAt = some l) (hn : l + us 3250 ≤ (s.atRaw n).now) :
    exec (.heartbeatMiss true n) s = .next ((s.atRaw n).foldSilent.missJudged true) := by
  have hfold : (if true = true then (s.atRaw n).mir.foldAt else (s.atRaw n).mir.pinAt) = some l := (if_pos rfl).trans hl
  rw [exec_heartbeatMiss hg he (by rw [hfold]; exact State.missed_three hn), State.missTold_fold]

theorem State.missJudged_alone (hj : s.mir.pinAt = some k) (hr : s.now < k + us 3250) :
    s.foldSilent.missJudged true = s.foldSilent.pathDown R.FLD_STATUS_FOLD_UP R.FLD_CNT_MISS_FOLD_COUNT 2 := by
  have hpin : s.foldSilent.mir.pinAt = some k := by rw [State.mir_foldSilent, hj]
  rw [State.missJudged, hpin, State.pathLost_foldSilent (o := some k), State.pathLost_recent hr, Bool.and_false, if_neg Bool.false_ne_true, if_pos rfl]

theorem State.missJudged_lost (hl : s.mir.foldAt = some l) (hn : l + us 3250 ≤ s.now) (hj : s.mir.pinAt = some k) (hr : k + us 3250 ≤ s.now) :
    s.foldSilent.missJudged true = s.foldSilent.bothLost.takesOver := by
  have hfold : s.foldSilent.mir.foldAt = some l := by rw [State.mir_foldSilent, hl]
  have hpin : s.foldSilent.mir.pinAt = some k := by rw [State.mir_foldSilent, hj]
  rw [State.missJudged, hfold, hpin, State.pathLost_foldSilent, State.pathLost_foldSilent, State.pathLost_late hn, State.pathLost_late hr, if_pos (by decide)]

/-- A period of the heartbeat. -/
theorem State.period_spec (ht : t = s.beats.beatSent.leaves) : t.mir.hbo = !s.mir.hbo ∧ t.regs = s.regs ∧
    ∃ f : FoldOut, t.mir.frames.head? = some f ∧ f.kind = 2 ∧ f.seq = s.mir.seqs.get 0 2 ∧ t.mir.seqs.get 0 2 = (f.seq + 1) % 2 ^ 32 ∧
      (s.role = roleArb → ∃ g : FoldOut, t.mir.frames.tail.head? = some g ∧ g.kind = 1 ∧ g.seq = s.mir.seqs.get 0 1 ∧
        t.mir.seqs.get 0 1 = (g.seq + 1) % 2 ^ 32) ∧
      (s.role ≠ roleArb → t.mir.frames.tail = s.mir.frames.take 15) := by
  obtain ⟨f, h1, h2, h3, h4, h5, h6, h7⟩ := State.beatSent_spec (s := s.beats)
  have hbeats : s.beats.mir = { s.mir with hbo := !s.mir.hbo, beat := some (s.now / ms 1) } := rfl
  have hrole : s.beats.role = s.role := State.SameRegs.setMir.rd (P := fun _ => True) trivial
  have hregs : s.beats.regs = s.regs := rfl
  have hmir : t.mir = { s.beats.beatSent.mir with change := t.mir.change } := by rw [ht]; exact State.mir_leaves
  rw [hrole] at h6 h7
  rw [hbeats] at h3 h5 h6 h7
  rw [hmir]
  exact ⟨h5, by rw [ht, State.leaves_good.same .regs rfl, State.beatSent_good.same .regs rfl, hregs], f, h1, h2, h3, h4, h6, h7⟩

end

/-- Settles O53: each event of the pair writes few fields of the mirror's registers; the events it sends, the channels it starts or holds and the sessions whose
resources it releases write others. -/
theorem mirrorLinks : Obligations.MirrorLinks := by
  unfold Obligations.MirrorLinks
  refine ⟨fun s c k ad n hg => ⟨fun hm hk hp h0 => ?_, fun r hm hk hp h1 hr => ?_, fun hm hk => ?_, fun hm hr => ?_⟩,
    fun s c n hg hm => exec_faultInjection hg hm, fun s n hg he hb => ?_,
    fun s f n hg he hr => ?_, fun s f n hg he hmaj hr => ⟨?_, fun hs hh hf hc => ?_⟩, fun s n l hg he hl hn hr => ?_,
    fun s n l hg he hl hn => ⟨fun j hj hrec hup => ?_, fun j hj hlate hr hf hc => ?_⟩, fun s high n hg => ?_, fun s n hr hp ht => ?_, fun s n hg => ?_,
    fun s e n hg he => exec_pattern hg he, fun s n k hc hr hl hp hn => ?_, fun s n k b hc hr hl hn => ?_, fun s n k hc hr hn => ?_⟩
  · obtain ⟨h1, h2, h3, h4, h5⟩ := State.outvote_first (s := s.atRaw n) (k := k.toNat) (a := ad.toNat) c.isLt hp h0
    rw [State.rd_atRaw] at h4 h5
    refine ⟨_, (exec_disagreement hg).trans (congrArg Host.Outcome.next (State.disagree_triple (State.rd_atRaw.trans hm) hk)), h1, h2, h3, h4.trans hm, h5⟩
  · have hsecond := (State.disagree_triple (a := ad.toNat) (State.rd_atRaw.trans hm) hk).trans (State.outvote_second (s := s.atRaw n) hp h1 hr)
    exact ⟨_, (exec_disagreement hg).trans (congrArg Host.Outcome.next hsecond), State.removeCore_rd c.isLt⟩
  · have hexec := exec_disagreement (n := n) (d := c) (r := k) (a := ad) hg
    rw [hk, State.disagree_all (State.rd_atRaw.trans hm)] at hexec
    exact ⟨_, hexec, State.rd_safeStop.1⟩
  · have hstop := State.disagree_compare (s := s.atRaw n) (k := k.toNat) (a := ad.toNat) (State.rd_atRaw.trans hm) (by rw [State.rd_atRaw]; exact hr)
    exact ⟨_, (exec_disagreement hg).trans (congrArg Host.Outcome.next hstop), State.rd_safeStop⟩
  · obtain ⟨hhbo, hregs, f, h1, h2, h3, h4, h5, h6⟩ := State.period_spec (s := s.atRaw n) rfl
    rw [State.role_atRaw] at h5 h6
    exact ⟨_, f, exec_heartbeatPeriod hg he hb, hhbo, h1, h2, h3, h4, hregs, h5, h6⟩
  · have hhello := State.hello_spec (s := s.atRaw n) (x := f) (State.role_atRaw.trans hr) rfl
    rw [State.on_atRaw] at hhello
    exact ⟨_, exec_hello hg he, hhello⟩
  · obtain ⟨h1, h2, h3, h4, h5, h6⟩ := State.heartbeat_spec (s := s.atRaw n) (had := s.on R.FLD_STATUS_PARTNER_STOP) hmaj rfl
    rw [State.role_atRaw] at h6
    exact ⟨_, exec_heartbeat hg he hr, h1, h2, h3, h4, h5, h6.trans hr⟩
  · have htake := State.heartbeat_takes (s := s.atRaw n) hs hh (State.role_atRaw.trans hr) (State.fwRuns_atRaw.trans hf) hc
    exact ⟨_, exec_heartbeat hg he hr, htake⟩
  · exact ⟨_, exec_hbPinEdge hg he, State.pinBeat_third (s := s.atRaw n) hl hn hr⟩
  · have hexec := exec_foldMiss hg he hl hn
    rw [State.missJudged_alone (s := s.atRaw n) hj hrec] at hexec
    have hdown := State.foldDown_spec (s := s.atRaw n) (State.on_atRaw.trans hup) rfl
    rw [State.rd_atRaw] at hdown
    exact ⟨_, hexec, hdown⟩
  · have hexec := exec_foldMiss hg he hl hn
    rw [State.missJudged_lost (s := s.atRaw n) hl hn hj hlate] at hexec
    exact ⟨_, hexec, State.lost_spec (s := s.atRaw n) (State.role_atRaw.trans hr) (State.fwRuns_atRaw.trans hf) hc rfl⟩
  · exact ⟨_, exec_actiChange hg rfl, State.acti_spec (s := s.atRaw n) rfl rfl⟩
  · exact ⟨_, exec_arbitrationTimeout hr hp ht, State.decided_spec (s := s.atRaw n) rfl⟩
  · have hcount : ((s.atRaw n).bump R.FLD_CNT_LINK_DOWN_COUNT).rd R.FLD_CNT_LINK_DOWN_COUNT = min 0xFFFFFFFF (s.rd R.FLD_CNT_LINK_DOWN_COUNT + 1) := by
      rw [State.bump, State.rd_count_word rfl rfl, State.rd_atRaw]
    exact ⟨_, exec_foldBlockLockLoss hg, hcount⟩
  · have hstand : (s.atRaw n).standsBy = false := by
      rw [State.standsBy, State.rd_atRaw, ← State.role, hr]
      rfl
    obtain ⟨-, -, hstarted⟩ := State.startAll_starts (s := s.atRaw n) (n := 24) hl (State.on_atRaw.trans hp) hstand
    rw [← State.startAll_eq] at hstarted
    exact ⟨_, exec_handoverChannelStart hc hr hn, fun c hlt hen hrole hlatch hdc => hstarted c hlt ⟨State.on_atRaw.trans hen, by rwa [State.rd_atRaw],
      State.on_atRaw.trans hlatch, State.on_atRaw.trans hdc⟩⟩
  · have hend := exec_handoverEnd hc hn
    rw [if_pos rfl, if_pos (State.role_atRaw.trans hr)] at hend
    obtain ⟨h1, h2, h3, h4⟩ := State.becomeStandby_spec (s := s.atRaw n) hl
    simp only [State.on_atRaw] at h4
    exact ⟨_, hend, h1, h2, h3, h4⟩
  · have hend := exec_handoverEnd hc hn
    rw [if_neg Bool.false_ne_true, if_pos (by rw [State.role_atRaw, hr]; rfl)] at hend
    obtain ⟨h1, h2, h3⟩ := State.takesRole_spec (s := s.atRaw n)
    exact ⟨_, hend, h1.trans (State.role_atRaw.trans hr), h2, h3⟩

end Sys2Proof.Machine
end

section
/-! PROOFS. The state copies and the bulk transfer of the mirrored pair (R321, R322). -/

-- One proof at a time: the package as one text then takes less memory.
set_option Elab.async false

namespace Sys2Proof.Machine

open Sys2Proof

section
variable {s t u : State} {f g : Fld} {k m n v room : Nat} {P : Nat → Prop} {x : FoldFrame} {c : CopyIn}

/-! ### The copy that is fixed (R321) -/

/-- The records that are due: those that did not fit and those that changed. -/
def State.copyDue (s : State) : List CopyItem := s.mir.backlog ++ s.changedItems

/-- Does the copy before a handover go out? -/
def State.copySwitch (s : State) : Bool := match s.mir.change with | some x => x.leaving && decide (x.s = s.tm.blockCount + 1) | none => false

/-- Is the copy the last of S5? -/
def State.copyFinal (s : State) : Bool := s.rd R.SUP_STATUS_STAGE = 5 && !s.mir.finalSent

/-- The copy of the block in progress. -/
def State.copyOut (s : State) (room : Nat) : CopyOut :=
  ⟨s.tm.blockCount, s.copySwitch, s.copyFinal, decide (room < s.copyDue.length),
    s.copyDue.take room ++ s.rotation s.tm.blockCount ++ s.itemChains ++ [.blockCount s.tm.blockCount]⟩

/-- The copy is fixed. -/
def State.copyFixed (s : State) (room : Nat) : State :=
  s.setMir { s.mir with
    sent := some (s.copyOut room)
    backlog := s.copyDue.drop room
    base := s.copyBase
    inRow := if (s.copyOut room).backlog = false && s.mir.bulkOut = [] && s.on R.FLD_STATUS_FOLD_UP then min 64 (s.mir.inRow + 1) else 0
    finalSent := s.mir.finalSent || s.copyFinal }

/-- The copy goes out, with the bulk transfer behind it. -/
def State.copySent (s : State) (final switch : Bool) : State := ((s.sendFold 3 final switch true).sendBulk).showPartner

/-- What the final copy sets. -/
def State.copyEnds (s : State) (final : Bool) (k : Nat) : State := if final then s.setChange (k + 2) true true else s

theorem exec_copyFix (hg : s.gated 17 = false) (hs : s.sendsCopies = true) (hn : (s.atRaw n).nextBoundary ≤ (s.atRaw n).now + us 125)
    (hk : ∀ c : CopyOut, s.mir.sent = some c → c.k ≠ s.tm.blockCount) :
    exec (.copyFix room n) s =
      .next ((((s.atRaw n).copyFixed room).copySent (s.atRaw n).copyFinal (s.atRaw n).copySwitch).copyEnds (s.atRaw n).copyFinal (s.atRaw n).tm.blockCount) := by
  have hsends : (s.atRaw n).sendsCopies = true := by
    rw [← hs, State.sendsCopies, State.sendsCopies, State.on_atRaw, State.on_atRaw, State.role_atRaw, State.fwRuns_atRaw, State.atRaw_mir]
  have hcut : cut = us 125 := rfl
  have hnew : (s.atRaw n).mir.sent.any (fun c => c.k = (s.atRaw n).tm.blockCount) = false := by
    have hbc : (s.atRaw n).tm.blockCount = s.tm.blockCount := rfl
    rw [State.atRaw_mir, hbc]
    cases hc : s.mir.sent with
    | none => rfl
    | some c => exact decide_eq_false (hk c hc)
  refine (ungated hg).trans (congrArg Host.Outcome.next (if_neg ?_))
  rw [hsends, hnew, hcut, decide_eq_false (Nat.not_lt.mpr hn)]
  decide

/-- The copy that was fixed stands. -/
def State.sameCopy (s t : State) : Prop := t.mir.sent = s.mir.sent ∧ t.mir.backlog = s.mir.backlog

theorem State.sameCopy_sendFold {a b d : Bool} : s.sameCopy (s.sendFold k a b d) := ⟨rfl, rfl⟩

theorem State.sameCopy_sendBulk : s.sameCopy s.sendBulk := by
  unfold State.sendBulk
  split
  · exact ⟨rfl, rfl⟩
  split
  · exact State.sameCopy_sendFold (s := s.setMir _)
  · exact ⟨rfl, rfl⟩

theorem State.sameCopy_copySent {a b : Bool} : s.sameCopy (s.copySent a b) := by
  obtain ⟨h1, h2⟩ := State.sameCopy_sendFold (s := s) (k := 3) (a := a) (b := b) (d := true)
  obtain ⟨h3, h4⟩ := State.sameCopy_sendBulk (s := s.sendFold 3 a b true)
  rw [State.sameCopy, State.copySent, State.mir_showPartner]
  exact ⟨h3.trans h1, h4.trans h2⟩

theorem State.sameCopy_copyEnds {a : Bool} : s.sameCopy (s.copyEnds a k) := by
  unfold State.copyEnds
  split
  · rw [State.sameCopy, State.mir_setChange]
    exact ⟨rfl, rfl⟩
  · exact ⟨rfl, rfl⟩

theorem State.copySent_good {a b : Bool} : Good (2 ^ Part.mir.idx + (2 ^ Part.regs.idx + 2 ^ Part.sessions.idx + 2 ^ Part.ports.idx)) s (s.copySent a b) :=
  Good.step (State.showPartner_good _) rfl (Good.step (State.sendBulk_good _) rfl (Good.step (State.sendFold_good _ _ _ _ _) rfl Good.refl))

theorem State.copyEnds_good {a : Bool} : Good (2 ^ Part.mir.idx) s (s.copyEnds a k) := by
  unfold State.copyEnds
  exact Good.ite (State.setChange_good _ _ _ _) Good.refl

theorem State.copyFix_spec {a b d : Bool} (ht : t = ((s.copyFixed room).copySent a b).copyEnds d k) :
    t.mir.sent = some (s.copyOut room) ∧ t.mir.backlog = s.copyDue.drop room ∧ t.geo = s.geo ∧ t.mix = s.mix := by
  obtain ⟨h1, h2⟩ := State.sameCopy_copySent (s := s.copyFixed room) (a := a) (b := b)
  obtain ⟨h3, h4⟩ := State.sameCopy_copyEnds (s := (s.copyFixed room).copySent a b) (a := d) (k := k)
  have hfixed : (s.copyFixed room).mir.sent = some (s.copyOut room) ∧ (s.copyFixed room).mir.backlog = s.copyDue.drop room ∧
    (s.copyFixed room).geo = s.geo ∧ (s.copyFixed room).mix = s.mix := ⟨rfl, rfl, rfl, rfl⟩
  obtain ⟨hsent, hback, hgeo, hmix⟩ := hfixed
  rw [ht]
  exact ⟨(h3.trans h1).trans hsent, (h4.trans h2).trans hback, (State.copyEnds_good.same .geo rfl).trans ((State.copySent_good.same .geo rfl).trans hgeo),
    (State.copyEnds_good.same .mix rfl).trans ((State.copySent_good.same .mix rfl).trans hmix)⟩

/-- The records of the copy. -/
theorem State.mem_copyOut : CopyItem.blockCount s.tm.blockCount ∈ (s.copyOut room).items ∧ ∀ y ∈ s.copyDue.take room, y ∈ (s.copyOut room).items := by
  have hitems : (s.copyOut room).items = s.copyDue.take room ++ s.rotation s.tm.blockCount ++ s.itemChains ++ [.blockCount s.tm.blockCount] := rfl
  rw [hitems]
  exact ⟨List.mem_append_right _ (List.mem_singleton_self _), fun y hy => List.mem_append_left _ (List.mem_append_left _ (List.mem_append_left _ hy))⟩

/-! ### The records of a copy leave the role (R322) -/

theorem State.role_copyReg {a l : Nat} (h : mirrored a = true) : (s.copyReg a v l).role = s.role := by
  have hne : R.FLD_STATUS_ROLE.addr ≠ a := fun e => by
    rw [← e] at h
    exact absurd h (by decide)
  exact State.rd_of_cell (Cells.get_set_other hne) rfl

theorem State.role_copyObj {o : Nat} {y : ObjSt} : (s.copyObj o y).role = s.role :=
  State.rd_congr ((State.copyObj_good s o y).same .regs rfl) ((State.copyObj_good s o y).same .straps rfl)

theorem State.role_setGainPath {p : Nat} {y : GainPath} : (s.setGainPath p y).role = s.role := State.rd_congr rfl rfl

theorem State.role_foldl {α : Type} {F : State → α → State} {xs : List α} (hF : ∀ u, ∀ y ∈ xs, (F u y).role = u.role) : (xs.foldl F s).role = s.role :=
  List.foldlRecOn (motive := fun u => u.role = s.role) xs F rfl fun u hu y hy => (hF u y hy).trans hu

/-- The bit that FIR_SET stands in is none of the role's. -/
theorem State.role_chainItem {o w : Nat} {y : ChainSt} :
    (((s.setChain o y).wr (R.MIX_OUT_FIR_FIR_SET o) w).wrLive (R.MIX_OUT_FIR_FIR_SET o) w).role = s.role := by
  have hlive (u : State) (f : Fld) (w : Nat) : (u.wrLive f w).role = u.role := State.rd_congr rfl rfl
  have hapart : Fld.Apart R.FLD_STATUS_ROLE (R.MIX_OUT_FIR_FIR_SET o) := by
    by_cases e : R.FLD_STATUS_ROLE.addr = (R.MIX_OUT_FIR_FIR_SET o).addr
    · exact .inr ⟨rfl, rfl, le_refl 30, by decide, .inl (by decide : 2 < 30)⟩
    · exact .inl e
  rw [hlive, State.role, State.rd_wr_apart hapart]
  exact State.rd_congr rfl rfl

theorem mem_of_mem_dedup {α : Type} [DecidableEq α] {a : α} {xs : List α} (h : a ∈ dedup xs) : a ∈ xs := by
  induction xs with
  | nil => exact h
  | cons y ys ih =>
    rw [dedup] at h
    split at h
    · exact List.mem_cons_of_mem _ (ih h)
    · exact (List.mem_cons.mp h).elim (fun e => e ▸ List.mem_cons_self) fun hm => List.mem_cons_of_mem _ (ih hm)

theorem mirrored_of_class {a r : Nat} {xs : List (Nat × Nat × Nat)} (h : a ∈ dedup (s.regsOfClass r ++ (xs.map Prod.fst).filter mirrored)) :
    mirrored a = true := by
  obtain h | h := List.mem_append.mp (mem_of_mem_dedup h)
  · exact ((Bool.and_eq_true _ _).mp (List.mem_filter.mp (mem_of_mem_dedup h)).2).1
  · exact (List.mem_filter.mp h).2

theorem State.role_copyItem {y : CopyItem} : (s.copyItem y).role = s.role := by
  cases y with
  | obj o x => exact State.role_copyObj
  | gain p g => exact State.role_setGainPath
  | reg a v l =>
    show (if mirrored a then s.copyReg a v l else s).role = s.role
    split
    · next h => exact State.role_copyReg h
    · rfl
  | scheds xs => exact State.rd_congr rfl rfl
  | plays xs => exact State.rd_congr rfl rfl
  | chain o g w => exact State.role_chainItem
  | blockCount k => rfl
  | objClass r xs => exact State.role_foldl fun _ _ _ => State.role_copyObj
  | gainClass r xs => exact State.role_foldl fun _ _ _ => State.role_setGainPath
  | regClass r xs =>
    refine State.role_foldl fun u a ha => ?_
    split
    · exact State.role_copyReg (mirrored_of_class ha)
    · exact State.role_copyReg (mirrored_of_class ha)

/-! ### A copy that is committed or discarded (R322) -/

/-- The blocks that a copy leaves out since the last. -/
def State.copyGap (s : State) (c : CopyIn) : Nat := match s.mir.lastCopy with | some j => c.k - j - 1 | none => 0

/-- The records of a copy that this unit takes. -/
def State.copyTaken (s : State) (c : CopyIn) : List CopyItem := if s.role = roleLeaving then c.items.filter (fun x => !CopyItem.waits x) else c.items

/-- The records are in force. -/
def State.copyDone (s : State) (c : CopyIn) : State := (s.copyTaken c).foldl State.copyItem s

/-- The run of good copies. -/
def State.copyCounted (s : State) (c : CopyIn) (gap : Nat) : State :=
  (s.setMir { s.mir with lastCopy := some c.k, inRow := if gap = 0 && !c.backlog && !s.mir.bulkIn then min 64 (s.mir.inRow + 1) else 0 }).showPartner

theorem State.takeCopy_good_copy (hg : c.good = true) (hb : x.block = s.tm.blockCount) :
    s.takeCopy x c = ((s.count R.FLD_CNT_COPY_GAP_COUNT (s.copyGap c)).copyDone c).copyCounted c (s.copyGap c) := by
  rw [State.takeCopy, hg, if_neg (by simpa using hb)]
  rfl

theorem State.takeCopy_bad (h : c.good = false ∨ x.block ≠ s.tm.blockCount) : s.takeCopy x c = (s.bump R.FLD_CNT_COPY_FAIL_COUNT).breakRun :=
  if_pos (by simpa using h)

theorem State.copyDone_keeps {α : Type} (π : State → α) (h : ∀ u (y : CopyItem), π (u.copyItem y) = π u) : π (s.copyDone c) = π s := foldl_keeps π h _ _

theorem State.mir_copyDone : (s.copyDone c).mir = s.mir := State.copyDone_keeps State.mir fun u y => (State.copyItem_good u y).same .mir rfl

theorem State.role_copyDone : (s.copyDone c).role = s.role := State.copyDone_keeps State.role fun _ _ => State.role_copyItem

theorem State.role_copyCounted : (s.copyCounted c m).role = s.role :=
  (State.rd_showPartner (by decide) (by decide)).trans (State.SameRegs.setMir.rd (P := fun _ => True) trivial)

theorem State.mir_copyCounted : (s.copyCounted c m).mir =
    { s.mir with lastCopy := some c.k, inRow := if m = 0 && !c.backlog && !s.mir.bulkIn then min 64 (s.mir.inRow + 1) else 0 } := State.mir_showPartner

theorem State.copyCounted_parts : (s.copyCounted c m).mix = s.mix ∧ (s.copyCounted c m).geo = s.geo :=
  ⟨(State.showPartner_good _).same .mix rfl, (State.showPartner_good _).same .geo rfl⟩

/-- A copy that follows the last one is committed. -/
theorem State.takeCopy_next {j : Nat} (hg : c.good = true) (hb : x.block = s.tm.blockCount) (hr : s.role = roleStandby) (hl : s.mir.lastCopy = some j)
    (hj : c.k = j + 1) (ht : t = s.takeCopy x c) : t.role = roleStandby ∧ t.mir.lastCopy = some c.k ∧
      t.mir.inRow = (if c.backlog = false ∧ s.mir.bulkIn = false then min 64 (s.mir.inRow + 1) else 0) ∧
      (∀ p g, c.items = [.gain p g] → t.gainPath p = g) ∧ (∀ o y, c.items = [.obj o y] → t.obj o = y) := by
  have hgap : s.copyGap c = 0 := by
    rw [State.copyGap, hl, hj]
    show j + 1 - j - 1 = 0
    omega
  have hcount : s.count R.FLD_CNT_COPY_GAP_COUNT 0 = s := if_pos rfl
  have htaken : s.copyTaken c = c.items := if_neg (by rw [hr]; decide)
  rw [State.takeCopy_good_copy hg hb, hgap, hcount] at ht
  have hmir := State.mir_copyCounted (s := s.copyDone c) (c := c) (m := 0)
  rw [← ht, State.mir_copyDone] at hmir
  obtain ⟨hmix, hgeo⟩ := State.copyCounted_parts (s := s.copyDone c) (c := c) (m := 0)
  rw [← ht] at hmix hgeo
  refine ⟨by rw [ht, State.role_copyCounted, State.role_copyDone, hr], by rw [hmir], ?_, fun p g hi => ?_, fun o y hi => ?_⟩
  · rw [hmir]
    cases c.backlog <;> cases s.mir.bulkIn <;> rfl
  · have hdone : s.copyDone c = s.setGainPath p g := by
      rw [State.copyDone, htaken, hi]
      rfl
    rw [State.gainPath, hmix, hdone]
    exact Cells.get_set_self
  · have hdone : s.copyDone c = s.copyObj o y := by
      rw [State.copyDone, htaken, hi]
      rfl
    have hobj : (s.copyObj o y).geo = (s.setObj o y).geo := (State.bindObj_good _ _ _ _).same .geo rfl
    rw [State.obj, hgeo, hdone, hobj]
    exact Cells.get_set_self

theorem State.breakRun_parts : s.breakRun.mir = { s.mir with inRow := 0 } := State.mir_showPartner

theorem State.breakRun_keeps : Good (2 ^ Part.mir.idx + (2 ^ Part.regs.idx + 2 ^ Part.sessions.idx + 2 ^ Part.ports.idx)) s s.breakRun :=
  Good.step (State.breakRun_good s) rfl Good.refl

theorem State.rd_breakRun (hs : Steady g.addr) (h : Fld.Apart g R.FLD_STATUS_PARTNER) : s.breakRun.rd g = s.rd g :=
  (State.rd_showPartner hs h).trans (State.SameRegs.setMir.rd (P := fun _ => True) trivial)

/-- A copy that is not good, or of another block, is discarded whole. -/
theorem State.takeCopy_discards (h : c.good = false ∨ x.block ≠ s.tm.blockCount) (ht : t = s.takeCopy x c) : t.role = s.role ∧ t.mir.inRow = 0 ∧
    t.mir.lastCopy = s.mir.lastCopy ∧ t.geo = s.geo ∧ t.mix = s.mix ∧ t.live = s.live ∧
    t.rd R.FLD_CNT_COPY_FAIL_COUNT = min 0xFFFFFFFF (s.rd R.FLD_CNT_COPY_FAIL_COUNT + 1) := by
  rw [State.takeCopy_bad h] at ht
  have hmir : t.mir = { s.mir with inRow := 0 } := by rw [ht, State.breakRun_parts, State.bump_mir]
  have hgood : Good (2 ^ Part.mir.idx + (2 ^ Part.regs.idx + 2 ^ Part.sessions.idx + 2 ^ Part.ports.idx)) s t := by
    rw [ht]
    exact Good.step State.breakRun_keeps rfl (Good.step (State.bump_good _ _) rfl Good.refl)
  refine ⟨?_, by rw [hmir], by rw [hmir], hgood.same .geo rfl, hgood.same .mix rfl, hgood.same .live rfl, ?_⟩
  · rw [ht, State.role, State.rd_breakRun (by decide) (by decide), State.rd_bump_addr (by decide), State.role]
  · rw [ht, State.rd_breakRun (by decide) (by decide), State.bump, State.rd_count_word rfl rfl]

/-- A copy that a standby hears. -/
theorem exec_copy (hg : s.gated 17 = false) (he : s.on R.FLD_CTRL_EN = true) (hv : s.on R.FLD_STATUS_VER_ERR = false) (hr : s.role = roleStandby)
    (hl : x.last = true) (hs : x.switch = false) (hf : x.final = false) :
    exec (.copy x c n) s = .next (((s.atRaw n).hearFrame x).takeCopy x c).reform := by
  have htakes : (s.atRaw n).takesCopies c = true := by
    have hstand : (s.atRaw n).standsBy = true := decide_eq_true (State.role_atRaw.trans hr)
    rw [State.takesCopies, State.on_atRaw, State.on_atRaw, he, hv, hstand]
    rfl
  refine (ungated hg).trans (congrArg Host.Outcome.next ((if_neg (by rw [htakes]; decide)).trans ?_))
  simp only [hl, hs, hf, Bool.false_and, Bool.not_true, Bool.false_eq_true, if_false]

theorem State.reform_other (h : s.role ≠ roleActive) : s.reform = s := if_pos h

theorem State.hearFrame_same (hm : x.major = s.mir.major) : (s.hearFrame x).mir.lastCopy = s.mir.lastCopy ∧ (s.hearFrame x).mir.inRow = s.mir.inRow ∧
    (s.hearFrame x).mir.bulkIn = s.mir.bulkIn := by
  rw [State.mir_hearFrame, if_neg (not_not_intro hm)]
  exact ⟨rfl, rfl, rfl⟩

/-! ### A bulk transfer (R322) -/

/-- The items of a transfer are delivered. -/
def State.bulkDone (s : State) (items : List BulkItem) (more : Bool) : State :=
  let s := items.foldl State.bulkItem s
  s.setMir { s.mir with bulkIn := more }

theorem exec_bulk {items : List BulkItem} {more : Bool} (hg : s.gated 17 = false) (he : s.on R.FLD_CTRL_EN = true) (hr : s.role = roleStandby)
    (hm : x.major = s.mir.major) :
    exec (.bulk x items more n) s = .next (if more then ((s.atRaw n).bulkDone items more).breakRun else (s.atRaw n).bulkDone items more) := by
  have hstand : (s.atRaw n).standsBy = true := decide_eq_true (State.role_atRaw.trans hr)
  refine (ungated hg).trans (congrArg Host.Outcome.next (if_neg ?_))
  rw [State.on_atRaw, he, hstand, State.atRaw_mir, hm]
  simp

theorem State.bulk_spec {items : List BulkItem} {more : Bool} (ht : t = if more then (s.bulkDone items more).breakRun else s.bulkDone items more) :
    t.mir.bulkIn = more ∧ (more = true → t.mir.inRow = 0) ∧ (∀ i e, items = [.enrol i e] → t.enrol.get none i = e) ∧
    (∀ o k y, items = [.fir o k y] → t.mix.firs.get firReset (2 * o + k) = y) := by
  have hset (u : State) (m : Mir) : (u.setMir m).mir = m ∧ (u.setMir m).enrol = u.enrol ∧ (u.setMir m).mix = u.mix := ⟨rfl, rfl, rfl⟩
  have hparts : t.enrol = (items.foldl State.bulkItem s).enrol ∧ t.mix = (items.foldl State.bulkItem s).mix := by
    rw [ht]
    split
    · exact ⟨State.breakRun_keeps.same .enrol rfl, State.breakRun_keeps.same .mix rfl⟩
    · exact ⟨rfl, rfl⟩
  obtain ⟨henrol, hmix⟩ := hparts
  refine ⟨?_, fun hm => ?_, fun i e hi => ?_, fun o k y hi => ?_⟩
  · rw [ht]
    split
    · rw [State.breakRun_parts, State.bulkDone]
      rfl
    · rfl
  · rw [ht, if_pos hm, State.breakRun_parts]
  · rw [henrol, hi]
    exact Cells.get_set_self
  · rw [hmix, hi]
    exact Cells.get_set_self

end

/-- Settles O54: a copy's records leave the role of the unit that takes them, so the standby stays one; the frames that go out change the mirror's own state
only. -/
theorem mirrorCopies : Obligations.MirrorCopies := by
  unfold Obligations.MirrorCopies
  refine ⟨fun s room n hg hs hn hk => ?_, fun s f c n hg he hv hr hm hl hsw hf => ⟨fun j hgood hb hj hk => ?_, fun hbad => ?_⟩,
    fun s f items more n hg he hr hm => ⟨_, exec_bulk hg he hr hm, State.bulk_spec (s := s.atRaw n) rfl⟩⟩
  · have hcopy := State.copyFix_spec (s := s.atRaw n) (room := room) (a := (s.atRaw n).copyFinal) (b := (s.atRaw n).copySwitch) (d := (s.atRaw n).copyFinal)
      (k := (s.atRaw n).tm.blockCount) rfl
    obtain ⟨hsent, hback, hgeo, hmix⟩ := hcopy
    obtain ⟨hcount, hitems⟩ := State.mem_copyOut (s := s.atRaw n) (room := room)
    exact ⟨_, (s.atRaw n).copyOut room, exec_copyFix hg hs hn hk, hsent, rfl, rfl, hback, hcount, hitems, hgeo, hmix⟩
  · obtain ⟨hlast, hrow, hbulk⟩ := State.hearFrame_same (s := s.atRaw n) hm
    have hblock : f.block = ((s.atRaw n).hearFrame f).tm.blockCount := by rw [(State.hearFrame_good _ _).same .tm rfl]; exact hb
    have hrole : ((s.atRaw n).hearFrame f).role = roleStandby := State.role_hearFrame.trans (State.role_atRaw.trans hr)
    obtain ⟨htrole, htlast, htrow, hgain, hobj⟩ := State.takeCopy_next hgood hblock hrole (hlast.trans hj) hk rfl
    rw [hrow, hbulk] at htrow
    refine ⟨_, (exec_copy hg he hv hr hl hsw hf).trans (congrArg Host.Outcome.next (State.reform_other ?_)), htlast, htrow, hgain, hobj⟩
    rw [htrole]
    decide
  · obtain ⟨hlast, -, -⟩ := State.hearFrame_same (s := s.atRaw n) hm
    have htm : ((s.atRaw n).hearFrame f).tm.blockCount = s.tm.blockCount := by rw [(State.hearFrame_good _ _).same .tm rfl]; rfl
    have hrole : ((s.atRaw n).hearFrame f).role = roleStandby := State.role_hearFrame.trans (State.role_atRaw.trans hr)
    obtain ⟨htrole, htrow, htlast, hgeo, hmix, hlive, hcount⟩ := State.takeCopy_discards (s := (s.atRaw n).hearFrame f) (x := f) (c := c) (by rw [htm]; exact hbad) rfl
    rw [State.rd_hearFrame (by decide) (by decide) (by decide), State.rd_atRaw] at hcount
    refine ⟨_, (exec_copy hg he hv hr hl hsw hf).trans (congrArg Host.Outcome.next (State.reform_other ?_)), htrow, htlast.trans hlast,
      hgeo.trans ((State.hearFrame_good _ _).same .geo rfl), hmix.trans ((State.hearFrame_good _ _).same .mix rfl),
      hlive.trans ((State.hearFrame_good _ _).same .live rfl), hcount⟩
    rw [htrole, hrole]
    decide

end Sys2Proof.Machine
end

section
/-! PROOFS. The time unit's events (R251, R252, R255–R260, R312). -/

-- One proof at a time: the package as one text then takes less memory.
set_option Elab.async false

namespace Sys2Proof.Machine

open Sys2Proof

section
variable {s t : State} {f g : Fld} {i k n p v : Nat} {P : Nat → Prop}

theorem signedOf_toNat (x : BitVec 32) : signedOf 32 x.toNat = x.toInt := by rw [signedOf, BitVec.ofNat_toNat, BitVec.setWidth_eq]

/-! ### A pair of words (R269) -/

/-- Two whole words that are read as one number of 64 bits. -/
@[reducible] def Fld.Pair (f g : Fld) : Prop := f.lo = 0 ∧ f.hi = 31 ∧ g.lo = 0 ∧ g.hi = 31 ∧ f.addr ≠ g.addr

theorem State.rd64_wr64 (h : Fld.Pair f g) : (s.wr64 f g v).rd64 f g = v % 2 ^ 64 := by
  obtain ⟨hf, hf', hg, hg', hne⟩ := h
  rw [State.rd64, State.wr64, State.rd_wr_addr hne, State.rd_wr_self (by omega), State.rd_wr_self (by omega), hf, hf', hg, hg']
  omega

theorem State.rd64_wr (hf : f.addr ≠ k ∧ g.addr ≠ k) {e : Fld} (he : e.addr = k) : (s.wr e v).rd64 f g = s.rd64 f g := by
  subst he
  rw [State.rd64, State.rd64, State.rd_wr_addr hf.1, State.rd_wr_addr hf.2]

/-! ### The corrected counter (R251) -/

theorem Tm.corrected_lt {m : Tm} : m.corrected n < 2 ^ 64 := by
  have h : ((m.ofs : Int) + ((n : Int) - m.anc) + rheDiv (((n : Int) - m.anc) * m.rate) (2 ^ 40)) % (2 ^ 64 : Nat) < (2 ^ 64 : Nat) :=
    Int.emod_lt_of_pos _ (by decide)
  show Int.toNat _ < _
  omega

/-- At its anchor the corrected counter stands at its offset. -/
theorem Tm.corrected_anchored {m : Tm} (ha : m.anc = n) (ho : m.ofs < 2 ^ 64) : m.corrected n = m.ofs := by
  have hz : rheDiv 0 (2 ^ 40) = 0 := by decide
  unfold Tm.corrected
  dsimp only
  rw [ha, Int.sub_self, Int.zero_mul, hz, Int.add_zero, Int.add_zero]
  omega

/-! ### The servo (R257) -/

/-- The state the servo works on: the offset and its instant are noted. -/
def State.noted (s : State) (th : Int) : State := { s with tm := { s.tm with lastTheta := th, lastOffsetRaw := s.tm.raw } }

theorem State.rd_noted {th : Int} : (s.noted th).rd g = s.rd g := State.rd_congr rfl rfl

theorem State.noted_servoI {th : Int} : ((s.atRaw n).noted th).tm.servoI = s.tm.servoI := rfl

theorem State.on_noted {th : Int} : (s.noted th).on g = s.on g := State.on_of_rd State.rd_noted

theorem State.servo_steps {th : Int} (hl : s.locked = false) (h : s.rd R.TSU_STEP_THR_VALUE < th.natAbs) : s.servo th = (s.noted th).servoStep th := by
  have hl' : (s.noted th).locked = false := State.on_noted.trans hl
  have hs : (s.noted th).stepsAt th = true := decide_eq_true (by rwa [State.rd_noted])
  show (if !(s.noted th).locked && (s.noted th).stepsAt th then _ else _) = _
  rw [hl', hs]
  rfl

theorem State.servo_runs {th : Int} (h : th.natAbs ≤ s.rd R.TSU_STEP_THR_VALUE) : s.servo th = (s.noted th).servoRun th := by
  have hs : (s.noted th).stepsAt th = false := decide_eq_false (by rw [State.rd_noted]; omega)
  show (if !(s.noted th).locked && (s.noted th).stepsAt th then _ else if (s.noted th).locked && (s.noted th).stepsAt th then _ else _) = _
  rw [hs, Bool.and_false, Bool.and_false]
  rfl

theorem exec_servoStep {th : BitVec 32} (hg : s.gated 15 = false) (he : s.on R.TSU_CTRL_ENABLE = true) :
    exec (.servoStep th n) s = .next ((s.atRaw n).servo th.toInt).showTime := by
  have he' : (s.atRaw n).on R.TSU_CTRL_ENABLE = true := State.on_atRaw.trans he
  refine (ungated hg).trans (congrArg Host.Outcome.next ?_)
  rw [State.servoIn, if_pos he', signedOf_toNat]

theorem State.tm_showTime : s.showTime.tm = s.tm := (State.showTime_good s).same .tm rfl

/-- The words that show the time are no others (R269). -/
theorem State.rd_showTime (h : g.addr < 0x40300030 ∨ 0x40300044 < g.addr) : s.showTime.rd g = s.rd g :=
  State.SameRegs.rd (P := fun b => b < 0x40300030 ∨ 0x40300044 < b) (.showTime fun b h1 h2 hb => by omega) h

theorem State.on_showTime (h : g.addr < 0x40300030 ∨ 0x40300044 < g.addr) : s.showTime.on g = s.on g := State.on_of_rd (State.rd_showTime h)

/-- A servo that starts anew: no integral part, no small offset. -/
def State.anew (s : State) : State := { s with tm := { s.tm with servoI := 0, servoGood := 0 } }

theorem State.rd_anew : s.anew.rd g = s.rd g := State.rd_congr rfl rfl

theorem State.servoStep_eq {th : Int} : s.servoStep th = ((s.stepOfs (-(rheDiv th 2))).bump R.TSU_CNT_STEP_COUNT).anew := rfl

theorem State.anew_tm : s.anew.tm.ofs = s.tm.ofs ∧ s.anew.tm.servoI = 0 ∧ s.anew.tm.servoGood = 0 ∧ s.anew.tm.rate = s.tm.rate := ⟨rfl, rfl, rfl, rfl⟩

/-- The time unit and the flag of a step. -/
def State.displaced (s : State) (d : Int) : State :=
  { s with tm := { s.tm with ofs := (((s.tm.ofs : Int) + d) % (2 ^ 64 : Nat)).toNat,
                             blockStart := if s.paced then s.tm.blockStart else ((s.tm.blockStart : Int) + d).toNat } }

theorem State.stepOfs_eq {d : Int} : s.stepOfs d = (s.displaced d).flag R.TSU_STATUS_STEPPED := rfl

theorem State.rd_displaced {d : Int} : (s.displaced d).rd g = s.rd g := State.rd_congr rfl rfl

theorem State.displaced_ofs {d : Int} : (s.displaced d).tm.ofs = (((s.tm.ofs : Int) + d) % (2 ^ 64 : Nat)).toNat := rfl

theorem State.displaced_rate {d : Int} : (s.displaced d).tm.rate = s.tm.rate := rfl

/-- The one step before the first lock (R257). -/
theorem State.servoStep_spec {th : Int} :
    (s.servoStep th).tm.ofs = (((s.tm.ofs : Int) - rheDiv th 2) % (2 ^ 64 : Nat)).toNat ∧ (s.servoStep th).on R.TSU_STATUS_STEPPED = true ∧
    (s.servoStep th).rd R.TSU_CNT_STEP_COUNT = min 0xFFFFFFFF (s.rd R.TSU_CNT_STEP_COUNT + 1) ∧ (s.servoStep th).tm.servoI = 0 ∧
    (s.servoStep th).tm.servoGood = 0 ∧ (s.servoStep th).tm.rate = s.tm.rate := by
  rw [State.servoStep_eq, State.stepOfs_eq]
  obtain ⟨hofs, hi, hgood, hrate⟩ := State.anew_tm (s := ((s.displaced (-(rheDiv th 2))).flag R.TSU_STATUS_STEPPED).bump R.TSU_CNT_STEP_COUNT)
  rw [State.bump_tm, State.flag_tm] at hofs hrate
  refine ⟨?_, ?_, ?_, hi, hgood, hrate.trans State.displaced_rate⟩
  · rw [hofs, State.displaced_ofs, Int.sub_eq_add_neg]
  · rw [State.on_of_rd State.rd_anew, State.on_of_rd (State.rd_bump_addr (by decide)), State.on_flag_self (by decide)]
  · rw [State.rd_anew, State.rd_bump_self (by decide), State.rd_flag_addr (by decide), State.rd_displaced]

/-! ### The servo runs (R257, R258) -/

/-- The time unit re-anchored with its new rate and integral part. -/
def State.regulated (s : State) (th : Int) : State :=
  { s.setRate (s.servoRate th (s.servoInt th)) with
    tm := { (s.setRate (s.servoRate th (s.servoInt th))).tm with servoI := s.servoInt th, servoGood := s.servoCount th } }

/-- What happens to lock after an offset. -/
def State.lockHeld (s : State) (th : Int) : State :=
  if s.on R.TSU_STATUS_LOCKED && decide (8 * s.rd R.TSU_SERVO_THR_VALUE < th.natAbs) then s.loseLock else s

/-- Lock is gained by the fourth good offset in a row. -/
def State.judged (s : State) (good : Nat) : State := if 4 ≤ good then s.gainLock else s

theorem State.servoRun_eq {th : Int} :
    s.servoRun th = ((s.regulated th).judged (s.servoCount th)).lockHeld th := rfl

theorem State.rd_regulated {th : Int} : (s.regulated th).rd g = s.rd g := State.rd_congr rfl rfl

/-- What first lock leaves of the time unit: all but the block it chooses. -/
theorem State.firstLock_tm : s.firstLock.tm = { s.tm with lockBlock := some (s.blockAfter s.now s.blockLen3) } := rfl

theorem State.rd_firstLock (h1 : Fld.Apart g R.TSU_STATUS_FIRST) (h2 : Fld.Apart g R.TSU_CTRL_LOCK) : s.firstLock.rd g = s.rd g :=
  (State.rd_congr (s := (s.flag R.TSU_STATUS_FIRST).flag R.TSU_CTRL_LOCK) rfl rfl).trans ((State.rd_wr_apart h2).trans (State.rd_wr_apart h1))

theorem State.locked_firstLock : s.firstLock.locked = true :=
  (State.on_congr (s := (s.flag R.TSU_STATUS_FIRST).flag R.TSU_CTRL_LOCK) rfl rfl).trans
    ((State.on_of_rd (State.rd_flag_addr (by decide))).trans (State.on_flag_self (by decide)))

/-- A device that gains lock. -/
def State.lockShown (s : State) : State := (s.flag R.TSU_STATUS_LOCKED).wr R.TSU_STATUS_HOLDOVER 0

/-- The lock that is the first one. -/
def State.locks (s : State) : State := if s.locked then s else s.firstLock

theorem State.rd_locks (h1 : Fld.Apart g R.TSU_STATUS_FIRST) (h2 : Fld.Apart g R.TSU_CTRL_LOCK) : s.locks.rd g = s.rd g := by
  unfold State.locks
  split
  · rfl
  · exact State.rd_firstLock h1 h2

theorem State.locked_locks : s.locks.locked = true := by
  unfold State.locks
  split
  · assumption
  · exact State.locked_firstLock

/-- First lock changes nothing of the time unit but the block it chooses. -/
theorem State.locks_tm : ∃ b, s.locks.tm = { s.tm with lockBlock := b } := by
  unfold State.locks
  split
  · exact ⟨s.tm.lockBlock, rfl⟩
  · exact ⟨_, State.firstLock_tm⟩

/-- The message of a lock that was not held before. -/
def State.lockTold (s : State) (c : Bool) : State := if c then s else s.evTime 0 0

theorem State.SameRegs.lockTold {c : Bool} : s.SameRegs Steady (s.lockTold c) := by
  unfold State.lockTold
  split
  · exact .refl
  · exact .evTime

theorem State.tm_lockTold {c : Bool} : (s.lockTold c).tm = s.tm := by
  unfold State.lockTold
  split
  · rfl
  · exact (State.evTime_good s 0 0).same .tm rfl

theorem State.gainLock_eq : s.gainLock = s.lockShown.locks.lockTold (s.on R.TSU_STATUS_LOCKED) := rfl

theorem State.tm_lockShown : s.lockShown.tm = s.tm := rfl

theorem State.gainLock_tm : ∃ b, s.gainLock.tm = { s.tm with lockBlock := b } := by
  obtain ⟨b, hb⟩ := State.locks_tm (s := s.lockShown)
  exact ⟨b, by rw [State.gainLock_eq, State.tm_lockTold, hb, State.tm_lockShown]⟩

/-- A device that has gained lock is locked, out of holdover, and has been locked before. -/
theorem State.gainLock_spec : s.gainLock.on R.TSU_STATUS_LOCKED = true ∧ s.gainLock.locked = true ∧ s.gainLock.on R.TSU_STATUS_HOLDOVER = false ∧
    s.gainLock.rd R.TSU_SERVO_THR_VALUE = s.rd R.TSU_SERVO_THR_VALUE := by
  have hrd (g : Fld) (hg : Steady g.addr) (h1 : Fld.Apart g R.TSU_STATUS_FIRST) (h2 : Fld.Apart g R.TSU_CTRL_LOCK) : s.gainLock.rd g = s.lockShown.rd g :=
    (State.SameRegs.lockTold.rd hg).trans (State.rd_locks h1 h2)
  refine ⟨?_, ?_, ?_, ?_⟩
  · rw [State.on_of_rd (hrd _ (by decide) (by decide) (by decide)), State.lockShown, State.on_wr_apart (by decide), State.on_flag_self (by decide)]
  · exact (State.SameRegs.lockTold.on (by decide)).trans State.locked_locks
  · rw [State.on_of_rd (hrd _ (by decide) (by decide) (by decide)), State.lockShown, State.on_wr_zero (by decide)]
  · rw [hrd _ (by decide) (by decide) (by decide), State.lockShown, State.rd_wr_addr (by decide), State.rd_flag_addr (by decide)]

/-- A small offset does not lose lock. -/
theorem State.lockHeld_small {th : Int} (h : th.natAbs ≤ s.rd R.TSU_SERVO_THR_VALUE) : s.lockHeld th = s := by
  have hd : decide (8 * s.rd R.TSU_SERVO_THR_VALUE < th.natAbs) = false := decide_eq_false (by omega)
  rw [State.lockHeld, hd, Bool.and_false]
  rfl

theorem State.tm_lockHeld {th : Int} : (s.lockHeld th).tm = s.tm := by
  unfold State.lockHeld
  split
  · exact (State.loseLock_good s).same .tm rfl
  · rfl

theorem State.judged_tm : ∃ b, (s.judged n).tm = { s.tm with lockBlock := b } := by
  unfold State.judged
  split
  · exact State.gainLock_tm
  · exact ⟨s.tm.lockBlock, rfl⟩

theorem State.regulated_tm {th : Int} {b : Option Nat} {m : Tm} (hm : m = { (s.regulated th).tm with lockBlock := b }) :
    m.servoI = s.servoInt th ∧ m.rate = s.servoRate th (s.servoInt th) ∧ m.ofs = s.now ∧ m.anc = s.tm.raw ∧ m.raw = s.tm.raw := by
  subst hm
  exact ⟨rfl, rfl, rfl, rfl, rfl⟩

/-- Whatever becomes of lock, the time unit runs at its new rate, anchored where it stands. -/
theorem State.servoRun_tm {th : Int} : (s.servoRun th).tm.servoI = s.servoInt th ∧ (s.servoRun th).tm.rate = s.servoRate th (s.servoInt th) ∧
    (s.servoRun th).tm.ofs = s.now ∧ (s.servoRun th).tm.anc = s.tm.raw ∧ (s.servoRun th).tm.raw = s.tm.raw := by
  rw [State.servoRun_eq, State.tm_lockHeld]
  exact State.judged_tm.elim fun b => State.regulated_tm

/-- The fourth small offset in a row locks (R257). -/
theorem State.servoRun_locks {th : Int} (ht : th.natAbs ≤ s.rd R.TSU_SERVO_THR_VALUE) (h3 : 3 ≤ s.tm.servoGood) :
    (s.servoRun th).on R.TSU_STATUS_LOCKED = true ∧ (s.servoRun th).locked = true ∧ (s.servoRun th).on R.TSU_STATUS_HOLDOVER = false := by
  have hc : 4 ≤ s.servoCount th := by rw [State.servoCount, if_pos ht]; omega
  obtain ⟨h1, h2, h4, h5⟩ := State.gainLock_spec (s := s.regulated th)
  rw [State.servoRun_eq, State.judged, if_pos hc, State.lockHeld_small (by rwa [h5, State.rd_regulated])]
  exact ⟨h1, h2, h4⟩

/-- RMAX as R257 has it. -/
theorem State.rateMax_eq : s.rateMax = rheDiv ((min 1000 (max 1 (s.rd R.TSU_SERVO_LIM_RATE_MAX)) : Nat) * 2 ^ 40 : Int) 1000000 := by
  have hc (x : Nat) : clampN 1 1000 x = min 1000 (max 1 x) := by unfold clampN; split <;> [skip; split] <;> omega
  rw [State.rateMax, hc]
  push_cast
  rfl

/-! ### The other events -/

theorem State.loseLock_unlocks : s.loseLock.on R.TSU_STATUS_LOCKED = false ∧
    s.loseLock.rd R.TSU_CNT_UNLOCK_COUNT = min 0xFFFFFFFF (s.rd R.TSU_CNT_UNLOCK_COUNT + 1) := by
  constructor
  · rw [State.loseLock, State.SameRegs.evTime.on (by decide), State.on_of_rd (State.rd_bump_addr (by decide)), State.flag, State.on_wr_apart (by decide)]
    exact State.on_wr_zero (by decide)
  · rw [State.loseLock, State.SameRegs.evTime.rd (by decide), State.rd_bump_self (by decide), State.rd_flag_addr (by decide), State.rd_wr_addr (by decide)]

theorem exec_holdoverTimeout (hg : s.gated 15 = false) (he : s.on R.TSU_CTRL_ENABLE = true) (hh : s.on R.TSU_STATUS_HOLDOVER = false)
    (ht : s.tm.lastOffsetRaw + ms (max 1 (s.rd R.TSU_SERVO_LIM_HOLD_TO)) ≤ (s.atRaw n).tm.raw) :
    exec (.holdoverTimeout n) s = .next ((s.atRaw n).setRate s.tm.servoI).loseLock.showTime := by
  have hc : ((s.atRaw n).on R.TSU_CTRL_ENABLE && decide ((s.atRaw n).tm.lastOffsetRaw + ms (max 1 ((s.atRaw n).rd R.TSU_SERVO_LIM_HOLD_TO)) ≤ (s.atRaw n).tm.raw)) = true := by
    rw [State.on_atRaw, he, State.rd_atRaw]
    exact decide_eq_true ht
  have hh' : ((s.atRaw n).setRate s.tm.servoI).on R.TSU_STATUS_HOLDOVER ≠ true := by
    rw [State.SameRegs.on (P := fun _ => True) .setRate trivial, State.on_atRaw, hh]
    exact Bool.false_ne_true
  exact (ungated hg).trans ((if_pos hc).trans (congrArg Host.Outcome.next (if_neg hh')))

/-- The state a time-stamp is shown from: the queue without its head, the head in its words (R255). -/
theorem State.readTxq_spec {e : TxStamp} {es : List TxStamp} (h : s.txq p = e :: es) (ht : t = s.readTxq p) :
    t.txq p = es ∧ t.rd64 (R.TSU_TXQ_TS_LO_TS p) (R.TSU_TXQ_TS_HI_TS p) = e.raw % 2 ^ 64 ∧
    t.on (R.TSU_TXQ_INFO_VALID p) = true ∧ t.rd (R.TSU_TXQ_INFO_QUEUE p) = e.queue % 8 ∧ t.rd (R.TSU_TXQ_INFO_TS_TAG p) = e.tag % 256 := by
  have hlen : p < s.tm.txq.length := by
    by_contra hn
    have h0 : s.txq p = [] := by rw [State.txq, List.getD_eq_getElem?_getD, List.getElem?_eq_none (Nat.le_of_not_lt hn)]; rfl
    exact absurd (h0.symm.trans h) (List.cons_ne_nil e es).symm
  have hv : Fld.Apart (R.TSU_TXQ_INFO_VALID p) (R.TSU_TXQ_INFO_QUEUE p) ∧ Fld.Apart (R.TSU_TXQ_INFO_VALID p) (R.TSU_TXQ_INFO_TS_TAG p) ∧
      Fld.Apart (R.TSU_TXQ_INFO_VALID p) (R.TSU_TXQ_INFO_LEVEL p) ∧ Fld.Apart (R.TSU_TXQ_INFO_QUEUE p) (R.TSU_TXQ_INFO_TS_TAG p) ∧
      Fld.Apart (R.TSU_TXQ_INFO_QUEUE p) (R.TSU_TXQ_INFO_LEVEL p) ∧ Fld.Apart (R.TSU_TXQ_INFO_TS_TAG p) (R.TSU_TXQ_INFO_LEVEL p) := by
    refine ⟨?_, ?_, ?_, ?_, ?_, ?_⟩ <;> simp [Fld.Apart, R.TSU_TXQ_INFO_VALID, R.TSU_TXQ_INFO_QUEUE, R.TSU_TXQ_INFO_TS_TAG, R.TSU_TXQ_INFO_LEVEL]
  obtain ⟨hvq, hvt, hvl, hqt, hql, htl⟩ := hv
  have hpair : Fld.Pair (R.TSU_TXQ_TS_LO_TS p) (R.TSU_TXQ_TS_HI_TS p) := ⟨rfl, rfl, rfl, rfl, by simp [R.TSU_TXQ_TS_LO_TS, R.TSU_TXQ_TS_HI_TS]⟩
  have hne : (R.TSU_TXQ_TS_LO_TS p).addr ≠ (R.TSU_TXQ_INFO_w p).addr ∧ (R.TSU_TXQ_TS_HI_TS p).addr ≠ (R.TSU_TXQ_INFO_w p).addr := by
    simp [R.TSU_TXQ_TS_LO_TS, R.TSU_TXQ_TS_HI_TS, R.TSU_TXQ_INFO_w]
  rw [State.readTxq, h] at ht
  dsimp only at ht
  subst ht
  refine ⟨?_, ?_, ?_, ?_, ?_⟩
  · simp only [State.txq, State.wr_tm, State.wr64, State.setTxq]
    rw [List.getD_eq_getElem?_getD, List.getElem?_set_self hlen]
    rfl
  · have hwr (u : State) (e : Fld) (v : Nat) (he : e.addr = (R.TSU_TXQ_INFO_w p).addr) := State.rd64_wr (s := u) (v := v) hne he
    rw [hwr _ (R.TSU_TXQ_INFO_LEVEL p) _ rfl, hwr _ (R.TSU_TXQ_INFO_TS_TAG p) _ rfl, hwr _ (R.TSU_TXQ_INFO_QUEUE p) _ rfl,
      hwr _ (R.TSU_TXQ_INFO_VALID p) _ rfl, State.rd64_wr64 hpair]
  · rw [State.on_wr_apart hvl, State.on_wr_apart hvt, State.on_wr_apart hvq]
    exact State.on_flag_self (Nat.le_refl _)
  · rw [State.rd_wr_apart hql, State.rd_wr_apart hqt]
    exact State.rd_wr_self (show 24 ≤ 26 by decide)
  · rw [State.rd_wr_apart htl]
    exact State.rd_wr_self (show 16 ≤ 23 by decide)

theorem exec_scheduledAction {x : TimedAct} (hx : s.acts[i]? = some x) (h : x.time ≤ (s.atRaw n).now) :
    exec (.scheduledAction i n) s = .next (if x.action = 2
      then ({ s.atRaw n with acts := s.acts.eraseIdx i } : State).eventTo x.sess 0x0E07 (leBytes 1 3 ++ leBytes 3 0 ++ leBytes 4 x.tag)
      else { s.atRaw n with acts := s.acts.eraseIdx i, gpio := setBits s.gpio x.gpio x.gpio (b2n (x.action = 0)) }) := by
  show (match s.acts[i]? with | none => _ | some a => _) = _
  rw [hx]
  exact if_neg (Nat.not_lt.mpr h)

end

/-- Settles O52: the servo by what it does to the time unit and to its status words, and each other event by its equation. -/
theorem timeEvents : Obligations.TimeEvents := by
  unfold Obligations.TimeEvents
  refine ⟨fun s th n hg he => ⟨fun hl hs => ?_, fun hs => ?_⟩, fun s n hg he hh ht => ?_, fun s lo hg => ?_, fun s m e es hg hq => ?_, fun s n hf hp hb => ?_,
    fun s n hf => ?_, fun s n hg => ?_, fun s n hg => ?_, fun s i n x hx hn => ⟨fun h2 => ?_, fun h2 => ?_⟩⟩
  · have hl' : (s.atRaw n).locked = false := State.on_atRaw.trans hl
    obtain ⟨hofs, hstep, hcount, hi, hgood, hrate⟩ := State.servoStep_spec (s := (s.atRaw n).noted th.toInt) (th := th.toInt)
    refine ⟨_, (exec_servoStep hg he).trans (by rw [State.servo_steps hl' (by rwa [State.rd_atRaw])]), ?_, ?_, ?_, ?_, ?_, ?_⟩
    · rw [State.tm_showTime]; exact hofs
    · rw [State.on_showTime (by decide)]; exact hstep
    · rw [State.rd_showTime (by decide), hcount, State.rd_noted, State.rd_atRaw]
    · rw [State.tm_showTime]; exact hi
    · rw [State.tm_showTime]; exact hgood
    · rw [State.tm_showTime]; exact hrate
  · have hrd {g : Fld} : ((s.atRaw n).noted th.toInt).rd g = s.rd g := State.rd_noted.trans State.rd_atRaw
    obtain ⟨hi, hr, hofs, hanc, hraw⟩ := State.servoRun_tm (s := (s.atRaw n).noted th.toInt) (th := th.toInt)
    rw [State.servoInt, State.rateMax_eq, hrd, hrd, State.noted_servoI] at hi
    rw [State.servoRate, State.servoInt, State.rateMax_eq, hrd, hrd, hrd, State.noted_servoI] at hr
    refine ⟨_, (exec_servoStep hg he).trans (by rw [State.servo_runs (by rwa [State.rd_atRaw])]), ?_, ?_, ?_, ?_, ?_, fun ht h3 => ?_⟩
    · rw [State.tm_showTime]; exact hi
    · rw [State.tm_showTime]; exact hr
    · rw [State.tm_showTime]; exact hofs
    · rw [State.tm_showTime]; exact hanc
    · rw [State.now, State.tm_showTime, Tm.corrected_anchored (hanc.trans hraw.symm) (hofs ▸ Tm.corrected_lt), hofs]
      rfl
    · obtain ⟨h1, h2, h4⟩ := State.servoRun_locks (s := (s.atRaw n).noted th.toInt) (th := th.toInt) (by rwa [hrd]) h3
      exact ⟨(State.on_showTime (by decide)).trans h1, (State.on_showTime (by decide)).trans h2, (State.on_showTime (by decide)).trans h4⟩
  · obtain ⟨hl, hc⟩ := State.loseLock_unlocks (s := (s.atRaw n).setRate s.tm.servoI)
    refine ⟨_, exec_holdoverTimeout hg he hh ht, ?_, ?_, ?_, ?_⟩
    · rw [State.tm_showTime, (State.loseLock_good _).same .tm rfl]
      rfl
    · exact (State.on_showTime (by decide)).trans State.on_loseLock_holdover
    · exact (State.on_showTime (by decide)).trans hl
    · rw [State.rd_showTime (by decide), hc, State.SameRegs.rd (P := fun _ => True) .setRate trivial, State.rd_atRaw]
  · refine ⟨s.convert lo.toNat, ungated hg, ?_, fun p hp => (State.convert_good _ _).same_off_regs hp⟩
    rw [State.convert, State.rd64_wr64 (by decide), Nat.mod_eq_of_lt Tm.corrected_lt, State.rd64, State.rd_wr_of_lt (by decide) lo.isLt,
      State.rd_wr_addr (by decide), State.wr_tm]
  · exact ⟨_, ungated hg, State.readTxq_spec hq rfl⟩
  · exact congrArg Host.Outcome.next (if_pos (by
      simp only [State.fwRuns_atRaw, hf, State.atRaw_ptp, hp, hb, decide_true, ne_eq, not_false_eq_true, Bool.and_self]))
  · exact congrArg Host.Outcome.next (if_pos (State.fwRuns_atRaw.trans hf))
  · refine ⟨_, ungated hg, ?_⟩
    rw [State.rd64_wr64 (by decide), State.now, Nat.mod_eq_of_lt Tm.corrected_lt]
  · refine ⟨_, ungated hg, ?_, fun p hp => ?_⟩
    · rw [State.on_atRaw]
    · exact Good.same_off (W := 8) (Good.upd_tm rfl (Good.upd_tm rfl .refl)) [.tm] rfl (by simpa using hp)
  · refine ⟨_, (exec_scheduledAction hx hn).trans (congrArg Host.Outcome.next (if_pos h2)), ?_, ?_⟩
    · exact (State.eventTo_good _ _ _ _).same .acts rfl
    · exact (State.eventTo_good _ _ _ _).same .gpio rfl
  · exact (exec_scheduledAction hx hn).trans ((congrArg Host.Outcome.next (if_neg h2)).trans (by simp only [b2n, decide_eq_true_eq]))

end Sys2Proof.Machine
end

section
/-! PROOFS. The DMA of a bus master in the memory of the landing window (R242–R247, R332): what is read is what stands there, what is written stands
there, and a grant changes nothing but the counters of the fabric and of the Cellar. -/

-- One proof at a time: the package as one text then takes less memory.
set_option Elab.async false

namespace Sys2Proof.Machine

open Sys2Proof

section
variable {s t u : State} {f g : Fld} {a b i k m n p v w : Nat}

/-! ### Runs of bytes -/

theorem State.bytes_add : s.bytes a (k + n) = s.bytes a k ++ s.bytes (a + k) n := by
  induction k generalizing a with
  | zero => rw [Nat.zero_add, Nat.add_zero]; rfl
  | succ k ih => rw [show k + 1 + n = k + n + 1 by omega, State.bytes, State.bytes, ih, show a + 1 + k = a + (k + 1) by omega]; rfl

theorem State.length_bytes : (s.bytes a n).length = n := by
  induction n generalizing a with
  | zero => rfl
  | succ n ih => rw [State.bytes, List.length_cons, ih]

theorem State.setBytes_append {xs ys : List Byte} : s.setBytes a (xs ++ ys) = (s.setBytes a xs).setBytes (a + xs.length) ys := by
  induction xs generalizing s a with
  | nil => rfl
  | cons x xs ih => rw [List.cons_append, State.setBytes, ih, List.length_cons, show a + 1 + xs.length = a + (xs.length + 1) by omega]; rfl

theorem State.setBytes_append_at {xs ys : List Byte} (h : xs.length = k) : s.setBytes a (xs ++ ys) = (s.setBytes a xs).setBytes (a + k) ys :=
  h ▸ State.setBytes_append

theorem State.byte_congr (h : t.mem = s.mem) : t.byte a = s.byte a := by rw [State.byte, State.byte, h]

theorem State.bytes_eq (h : ∀ x, b ≤ x → x < b + n → t.byte x = s.byte x) : t.bytes b n = s.bytes b n := by
  induction n generalizing b with
  | zero => rfl
  | succ n ih => rw [State.bytes, State.bytes, h b le_rfl (by omega), ih fun x h1 h2 => h x (by omega) (by omega)]

theorem State.bytes_store_outside (h : b + k ≤ a ∨ a + n ≤ b) : (s.store a n v).bytes b k = s.bytes b k :=
  State.bytes_eq fun x h1 h2 => State.byte_store_outside (by omega)

theorem State.load_store_outside (h : b + k ≤ a ∨ a + n ≤ b) : (s.store a n v).load b k = s.load b k :=
  congrArg ofLeBytes (State.bytes_store_outside h)

/-! ### What a transfer leaves -/

/-- The parts that a transfer may write: registers, memory, the Cellar and the fabric. -/
abbrev dmaParts : Nat := 1688849860263953

/-- What a transfer leaves: all but memory, the Cellar and the fabric. -/
structure State.Moved (s t : State) : Prop where
  regs : s.SameRegs OffMatrix t
  good : Good dmaParts s t

theorem State.Moved.refl : s.Moved s := ⟨.refl, .refl⟩

theorem State.Moved.trans (h : s.Moved t) (k : t.Moved u) : s.Moved u := ⟨h.regs.trans k.regs, h.good.trans k.good⟩

theorem State.Moved.fabUse : s.Moved (s.fabUse m a) := ⟨.fabUse, (State.fabUse_good s m a).step rfl .refl⟩

theorem State.Moved.setBytes {vs : List Byte} : s.Moved (s.setBytes a vs) :=
  ⟨.of_good (State.setBytes_good s a vs) rfl rfl, (State.setBytes_good s a vs).step rfl .refl⟩

theorem State.Moved.rd (h : s.Moved t) (hg : OffMatrix g.addr) : t.rd g = s.rd g := h.regs.rd hg

theorem State.Moved.on (h : s.Moved t) (hg : OffMatrix g.addr) : t.on g = s.on g := h.regs.on hg

theorem State.Moved.gated (h : s.Moved t) : t.gated i = s.gated i :=
  State.gated_congr (h.rd (.inr (by decide))) (h.good.same .clk rfl)

theorem State.Moved.macs (h : s.Moved t) : t.macs = s.macs := h.good.same .macs rfl

theorem State.Moved.mac (h : s.Moved t) : t.mac p = s.mac p := by rw [State.mac, State.mac, h.macs]

theorem State.Moved.tm (h : s.Moved t) : t.tm = s.tm := h.good.same .tm rfl

theorem State.Moved.srx (h : s.Moved t) : t.srx = s.srx := h.good.same .srx rfl

/-! ### One beat -/

/-- The memory that a port's rings and buffers lie in, behind its gate. -/
@[reducible] def State.Window (s : State) (a n : Nat) : Prop := s.gated 3 = false ∧ 0x20500000 ≤ a ∧ a + n ≤ 0x20600000

theorem State.Window.of_moved (h : s.Window a n) (k : s.Moved t) : t.Window a n := ⟨k.gated.trans h.1, h.2⟩

theorem State.beatRead_window (h : s.Window a n) (hn : 0 < n) : s.beatRead m a k = ((s.fabUse m a).bytes a k, s.fabUse m a) := by
  obtain ⟨hg, h1, h2⟩ := h
  rw [State.beatRead, State.locate_history hg (by omega) (by omega)]
  rfl

theorem State.beatWrite_window {vs : List Byte} (h : s.Window a n) (hn : 0 < n) : s.beatWrite m a vs = (s.fabUse m a).setBytes a vs := by
  obtain ⟨hg, h1, h2⟩ := h
  have hkey : ¬ (((0x20000000 ≤ a && a < 0x20500000) || (0x30800000 ≤ a && a < 0x30A00000 && (s.fabUse m a).on R.DRV_CL_CTRL_LOCK)) = true) := by
    rw [decide_eq_false (show ¬ a < 0x20500000 by omega), decide_eq_false (show ¬ 0x30800000 ≤ a by omega), Bool.and_false, Bool.false_and,
      Bool.false_and, Bool.or_false]
    exact Bool.false_ne_true
  rw [State.beatWrite, State.locate_history hg (by omega) (by omega)]
  exact if_neg hkey

/-! ### A whole transfer -/

theorem State.dmaRead_succ : s.dmaRead m a n (k + 1) = if n = 0 then ([], s) else
    ((s.beatRead m a (min n (32 - a % 32))).1 ++
      ((s.beatRead m a (min n (32 - a % 32))).2.dmaRead m ((a + min n (32 - a % 32)) % 2 ^ 32) (n - min n (32 - a % 32)) k).1,
      ((s.beatRead m a (min n (32 - a % 32))).2.dmaRead m ((a + min n (32 - a % 32)) % 2 ^ 32) (n - min n (32 - a % 32)) k).2) := rfl

/-- What a master reads of the window is what stands there. -/
theorem State.dmaRead_window (h : s.Window a n) (hk : n = 0 ∨ a % 32 + n ≤ 32 * k) :
    (s.dmaRead m a n k).1 = s.bytes a n ∧ s.Moved (s.dmaRead m a n k).2 ∧ (s.dmaRead m a n k).2.mem = s.mem := by
  induction k generalizing s a n with
  | zero =>
    obtain rfl : n = 0 := by omega
    exact ⟨rfl, .refl, rfl⟩
  | succ k ih =>
    rw [State.dmaRead_succ]
    by_cases hn : n = 0
    · rw [if_pos hn, hn]
      exact ⟨rfl, .refl, rfl⟩
    · have hj : min n (32 - a % 32) ≤ n ∧ (n - min n (32 - a % 32) = 0 ∨ (a + min n (32 - a % 32)) % 32 + (n - min n (32 - a % 32)) ≤ 32 * k) := by omega
      rw [if_neg hn, State.beatRead_window h (by omega)]
      generalize min n (32 - a % 32) = j at hj ⊢
      obtain ⟨hjn, hj⟩ := hj
      obtain ⟨hg, h1, h2⟩ := h.of_moved (.fabUse (m := m) (a := a))
      have ha : (a + j) % 2 ^ 32 = a + j := Nat.mod_eq_of_lt (by omega)
      obtain ⟨hb, hm, hmem⟩ := ih (s := s.fabUse m a) (a := a + j) (n := n - j) ⟨hg, by omega, by omega⟩ hj
      dsimp only
      rw [ha, hb, State.bytes_congr State.fabUse_mem, State.bytes_congr State.fabUse_mem, ← State.bytes_add, show j + (n - j) = n by omega]
      exact ⟨rfl, State.Moved.fabUse.trans hm, hmem.trans State.fabUse_mem⟩

theorem State.dmaWrite_succ {vs : List Byte} : s.dmaWrite m a vs (k + 1) = if vs = [] then s else
    (s.beatWrite m a (vs.take (32 - a % 32))).dmaWrite m ((a + (32 - a % 32)) % 2 ^ 32) (vs.drop (32 - a % 32)) k := rfl

theorem State.dmaWrite_nil : s.dmaWrite m a [] k = s := by cases k <;> rfl

/-- What a master writes to the window stands there. -/
theorem State.dmaWrite_window {vs : List Byte} (h : s.Window a vs.length) (hk : vs = [] ∨ a % 32 + vs.length ≤ 32 * k) :
    s.Moved (s.dmaWrite m a vs k) ∧ (s.dmaWrite m a vs k).mem = (s.setBytes a vs).mem := by
  induction k generalizing s a vs with
  | zero =>
    obtain rfl : vs = [] := List.length_eq_zero_iff.mp (hk.elim (fun e => congrArg List.length e) (by omega))
    exact ⟨.refl, rfl⟩
  | succ k ih =>
    rw [State.dmaWrite_succ]
    by_cases hn : vs = []
    · rw [if_pos hn, hn]
      exact ⟨.refl, rfl⟩
    · have hpos : 0 < vs.length := List.length_pos_iff.mpr hn
      have hfuel : a % 32 + vs.length ≤ 32 * (k + 1) := hk.resolve_left hn
      rw [if_neg hn, State.beatWrite_window h hpos]
      by_cases hl : vs.length ≤ 32 - a % 32
      · rw [List.take_of_length_le hl, List.drop_of_length_le hl, State.dmaWrite_nil]
        exact ⟨State.Moved.fabUse.trans .setBytes, State.setBytes_mem State.fabUse_mem⟩
      · have hj : (a + (32 - a % 32)) % 32 = 0 ∧ 32 - a % 32 ≤ vs.length ∧ vs.length - (32 - a % 32) ≤ 32 * k := by omega
        generalize 32 - a % 32 = j at hj ⊢
        obtain ⟨h32, hj, hrest⟩ := hj
        obtain ⟨hg, h1, h2⟩ := h.of_moved (State.Moved.trans (.fabUse (m := m) (a := a)) (.setBytes (a := a) (vs := vs.take j)))
        have ha : (a + j) % 2 ^ 32 = a + j := Nat.mod_eq_of_lt (by omega)
        have hlen : (vs.drop j).length = vs.length - j := List.length_drop
        obtain ⟨hm, hmem⟩ := ih (s := (s.fabUse m a).setBytes a (vs.take j)) (a := a + j) (vs := vs.drop j) ⟨hg, by omega, by omega⟩ (.inr (by omega))
        rw [ha]
        refine ⟨(State.Moved.fabUse.trans .setBytes).trans hm, hmem.trans ?_⟩
        rw [State.setBytes_mem (State.setBytes_mem State.fabUse_mem), ← State.setBytes_append_at (List.length_take_of_le hj), List.take_append_drop]

/-! ### Words -/

theorem State.dmaWord_window (h : s.Window a 4) :
    (s.dmaWord m a).1 = s.load a 4 ∧ s.Moved (s.dmaWord m a).2 ∧ (s.dmaWord m a).2.mem = s.mem := by
  obtain ⟨hb, hm, hmem⟩ := State.dmaRead_window (m := m) (k := 2) h (.inr (by omega))
  exact ⟨congrArg ofLeBytes hb, hm, hmem⟩

theorem State.dmaWrite_leBytes (h : s.Window a n) (hn : n ≤ 33) :
    s.Moved (s.dmaWrite m a (leBytes n v) 2) ∧ (s.dmaWrite m a (leBytes n v) 2).mem = (s.store a n v).mem :=
  State.dmaWrite_window (by rwa [length_leBytes]) (.inr (by rw [length_leBytes]; omega))

theorem State.dmaPut_window (h : s.Window a 4) : s.Moved (s.dmaPut m a v) ∧ (s.dmaPut m a v).mem = (s.store a 4 v).mem :=
  State.dmaWrite_leBytes h (by omega)

end
end Sys2Proof.Machine
end

section
/-! PROOFS. The receive side of the stream engine (R263, R266). -/

-- One proof at a time: the package as one text then takes less memory.
set_option Elab.async false

namespace Sys2Proof.Machine

open Sys2Proof

section
variable {s t u : State} {f g : Fld} {a b c i j k m n p r v w : Nat}

/-! ### What presenting a tile leaves (R54) -/

/-- The registers above those of the history memory. -/
@[reducible] def AboveHistory (b : Nat) : Prop := 0x40000000 ≤ b

theorem State.SameRegs.hstBump (h : f.addr < 0x40000000) : s.SameRegs AboveHistory (s.bump f) := .bump fun hb => absurd hb (Nat.not_le.mpr h)

theorem State.SameRegs.hstFlag (h : f.addr < 0x40000000) : s.SameRegs AboveHistory (s.flag f) := .wr fun hb => absurd hb (Nat.not_le.mpr h)

theorem State.SameRegs.lateDrop : s.SameRegs AboveHistory ((s.bump R.HST_CNT_LATE_DROP_VALUE).flag R.HST_STATUS_LATE_DROP) :=
  (State.SameRegs.hstBump (by decide)).trans (.hstFlag (by decide))

theorem State.SameRegs.land {xs : List Int} {x y : Bool} : s.SameRegs AboveHistory (s.land r k xs x y) := by
  refine State.SameRegs.trans (State.SameRegs.trans (t := s.setSlot r (k % 64) _) (.of_good (State.setSlot_good _ _ _ _) rfl rfl)
    (.of_good (State.setRing_good _ _ _) rfl rfl)) (.when (.hstBump (by decide)))

/-- A tile that is presented counts in the history unit alone. -/
theorem State.SameRegs.present {xs : List Int} {x y : Bool} : s.SameRegs AboveHistory (s.present i n xs x y) := by
  unfold State.present
  dsimp only
  repeat' split
  · exact .refl
  · exact .refl
  · exact .lateDrop
  · exact .hstBump (by decide)
  · exact .lateDrop
  · exact .of_good (State.setRing_good _ _ _) rfl rfl
  · exact .land
  · exact .hstBump (by decide)
  · exact .lateDrop

theorem State.SameRegs.presentStream : s.SameRegs AboveHistory (s.presentStream i n) := .foldl (fun _ _ => .present) _ _

/-! ### A packet that is valid (R263, R266) -/

/-- A field of a context that its counters but the first leave as it is. -/
structure Uncounted (g : Fld) (c : Nat) : Prop where
  apart : Fld.Apart g (R.STR_RX_STATUS_ERR c)
  count : ∀ j, 0 < j → g.addr ≠ (R.STR_RX_CNT_COUNT c j).addr
  above : AboveHistory g.addr

theorem uncounted_recv : Uncounted (R.STR_RX_STATUS_RECV c) c :=
  ⟨.inr (by simp [R.STR_RX_STATUS_RECV, R.STR_RX_STATUS_ERR]), fun j _ => by simp only [R.STR_RX_STATUS_RECV, R.STR_RX_CNT_COUNT]; omega,
    by simp only [R.STR_RX_STATUS_RECV]; omega⟩

theorem uncounted_down : Uncounted (R.STR_RX_STATUS_LEG_DOWN c) c :=
  ⟨.inr (by simp [R.STR_RX_STATUS_LEG_DOWN, R.STR_RX_STATUS_ERR]), fun j _ => by simp only [R.STR_RX_STATUS_LEG_DOWN, R.STR_RX_CNT_COUNT]; omega,
    by simp only [R.STR_RX_STATUS_LEG_DOWN]; omega⟩

theorem uncounted_pkts : Uncounted (R.STR_RX_CNT_COUNT c rxPkts) c :=
  ⟨.inl (by simp only [R.STR_RX_CNT_COUNT, R.STR_RX_STATUS_ERR, rxPkts]; omega), fun j _ => by simp only [R.STR_RX_CNT_COUNT, rxPkts]; omega,
    by simp only [R.STR_RX_CNT_COUNT]; omega⟩

theorem State.rd_rxCount (hg : Uncounted g c) (hj : 0 < j) : (s.rxCount c j n).rd g = s.rd g := by
  have hc : (s.count (R.STR_RX_CNT_COUNT c j) n).rd g = s.rd g := State.rd_count_addr (hg.count j hj)
  unfold State.rxCount State.when
  split
  · exact (State.rd_wr_apart hg.apart).trans hc
  · exact hc

theorem State.rd_setStrx {x : StrRx} : (s.setStrx i x).rd g = s.rd g := State.rd_congr rfl rfl

theorem State.strx_setStrx {x : StrRx} : (s.setStrx i x).strx c = if c = i then x else s.strx c := Cells.get_set

theorem State.strx_congr (h : t.srx = s.srx) : t.strx c = s.strx c := by rw [State.strx, State.strx, h]

theorem State.srx_rxCount : (s.rxCount c j n).srx = s.srx := (State.rxCount_good _ _ _ _).same .srx rfl

theorem State.srx_presentStream : (s.presentStream i n).srx = s.srx := (State.presentStream_good _ _ _).same .srx rfl

/-- What was presented when a block of the window became complete. -/
def State.presentWhen (s : State) (q : Bool) (h l : Nat) : State := if q then s.presentStream h l else s

theorem State.rd_presentWhen {q : Bool} (hg : AboveHistory g.addr) : (s.presentWhen q i n).rd g = s.rd g := by
  unfold State.presentWhen
  split
  · exact State.SameRegs.presentStream.rd hg
  · rfl

theorem State.srx_presentWhen {q : Bool} : (s.presentWhen q i n).srx = s.srx := by
  unfold State.presentWhen
  split
  · exact State.srx_presentStream
  · rfl

/-- The positions that a packet fills leave what its context heard last, and count beside its first counter. -/
theorem State.fillStream_spec {x : RtpPkt} : (∀ g, Uncounted g c → (s.fillStream c x).rd g = s.rd g) ∧
    ((s.fillStream c x).strx c).validAt = (s.strx c).validAt := by
  have hcount (j n : Nat) (hj : 0 < j) : (∀ g, Uncounted g c → (s.rxCount c j n).rd g = s.rd g) ∧ ((s.rxCount c j n).strx c).validAt = (s.strx c).validAt :=
    ⟨fun g hg => State.rd_rxCount hg hj, by rw [State.strx_congr State.srx_rxCount]⟩
  have hfill (h l i j : Nat) (pos : Cells (List Int)) (q : Bool) :
      (∀ g, Uncounted g c → ((((s.setStrx h { s.strx h with pos := pos }).rxCount c rxUsed i).rxCount c rxDup j).presentWhen q h l).rd g = s.rd g) ∧
      (((((s.setStrx h { s.strx h with pos := pos }).rxCount c rxUsed i).rxCount c rxDup j).presentWhen q h l).strx c).validAt = (s.strx c).validAt := by
    constructor
    · intro g hg
      rw [State.rd_presentWhen hg.above, State.rd_rxCount hg (by decide), State.rd_rxCount hg (by decide), State.rd_setStrx]
    · rw [State.strx_congr State.srx_presentWhen, State.strx_congr State.srx_rxCount, State.strx_congr State.srx_rxCount, State.strx_setStrx]
      split
      · next e => rw [e]
      · rfl
  unfold State.fillStream
  dsimp only
  by_cases h1 : mediaBase (32 * s.hst.win) x.ts (s.rd (R.STR_RX_W5_TS_OFS c)) +
      ((instants (s.on (R.STR_RX_W0_FMT c)) (s.rxChans c) (s.rxPtime c) x.load).length : Int) ≤ 32 * (s.hst.win : Int)
  · rw [if_pos h1]
    exact hcount _ _ (by decide)
  · rw [if_neg h1]
    by_cases h2 : 32 * ((s.hst.win : Int) + 64) ≤ mediaBase (32 * s.hst.win) x.ts (s.rd (R.STR_RX_W5_TS_OFS c))
    · rw [if_pos h2]
      exact hcount _ _ (by decide)
    · rw [if_neg h2]
      exact hfill (s.headOf c) s.hst.win _ _ _ _

/-- What a valid packet notes of its context, before its samples. -/
def State.packetNoted (s : State) (c : Nat) (q : Option Nat) (gap : Nat) : State :=
  (((s.setStrx c { s.strx c with validAt := some s.tm.raw, lastSeq := q }).wr (R.STR_RX_STATUS_RECV c) 1).wr (R.STR_RX_STATUS_LEG_DOWN c) 0).rxCount c rxLost gap

theorem State.packetNoted_spec {q : Option Nat} : (s.packetNoted c q n).on (R.STR_RX_STATUS_RECV c) = true ∧
    (s.packetNoted c q n).on (R.STR_RX_STATUS_LEG_DOWN c) = false ∧ ((s.packetNoted c q n).strx c).validAt = some s.tm.raw ∧
    (s.packetNoted c q n).rd (R.STR_RX_CNT_COUNT c rxPkts) = s.rd (R.STR_RX_CNT_COUNT c rxPkts) := by
  have hoff : (R.STR_RX_CNT_COUNT c rxPkts).addr ≠ (R.STR_RX_STATUS_RECV c).addr := by
    simp only [R.STR_RX_CNT_COUNT, R.STR_RX_STATUS_RECV, rxPkts]
    omega
  have happ : Fld.Apart (R.STR_RX_STATUS_RECV c) (R.STR_RX_STATUS_LEG_DOWN c) := .inr (by simp [R.STR_RX_STATUS_RECV, R.STR_RX_STATUS_LEG_DOWN])
  refine ⟨?_, ?_, ?_, ?_⟩
  · rw [State.packetNoted, State.on_of_rd (State.rd_rxCount uncounted_recv (by decide)), State.on_wr_apart happ]
    exact State.on_flag_self (Nat.le_refl _)
  · rw [State.packetNoted, State.on_of_rd (State.rd_rxCount uncounted_down (by decide))]
    exact State.on_wr_zero (Nat.le_refl _)
  · rw [State.packetNoted, State.strx_congr State.srx_rxCount, State.strx_congr (State.wr_srx ..), State.strx_congr (State.wr_srx ..), State.strx_setStrx, if_pos rfl]
  · have hwr (u : State) (e : Fld) (v : Nat) (he : e.addr = (R.STR_RX_STATUS_RECV c).addr) :
        (u.wr e v).rd (R.STR_RX_CNT_COUNT c rxPkts) = u.rd (R.STR_RX_CNT_COUNT c rxPkts) := State.rd_wr_addr (he ▸ hoff)
    rw [State.packetNoted, State.rd_rxCount uncounted_pkts (by decide), hwr _ (R.STR_RX_STATUS_LEG_DOWN c) _ rfl, hwr _ (R.STR_RX_STATUS_RECV c) _ rfl, State.rd_setStrx]

theorem State.validPacket_eq {x : RtpPkt} : ∃ q gap, s.validPacket c x =
    if (s.packetNoted c q gap).locked then (s.packetNoted c q gap).fillStream c x else s.packetNoted c q gap := ⟨_, _, rfl⟩

/-- A valid packet marks its context as receiving. -/
theorem State.validPacket_spec {x : RtpPkt} : (s.validPacket c x).on (R.STR_RX_STATUS_RECV c) = true ∧
    (s.validPacket c x).on (R.STR_RX_STATUS_LEG_DOWN c) = false ∧ ((s.validPacket c x).strx c).validAt = some s.tm.raw ∧
    (s.validPacket c x).rd (R.STR_RX_CNT_COUNT c rxPkts) = s.rd (R.STR_RX_CNT_COUNT c rxPkts) := by
  obtain ⟨q, gap, hq⟩ := State.validPacket_eq (s := s) (c := c) (x := x)
  have hn := State.packetNoted_spec (s := s) (c := c) (q := q) (n := gap)
  rw [hq]
  generalize s.packetNoted c q gap = u at hn ⊢
  split
  · obtain ⟨hrd, hv⟩ := State.fillStream_spec (s := u) (c := c) (x := x)
    rwa [State.on_of_rd (hrd _ uncounted_recv), State.on_of_rd (hrd _ uncounted_down), hv, hrd _ uncounted_pkts]
  · exact hn

/-! ### The context a frame matches (R263) -/

/-- The registers of the receive contexts' words. -/
theorem offMatrix_of_lt (h : b < 0x40500000) : OffMatrix b := .inl h

theorem State.matchCtx_congr {bs : List Byte} (h : s.SameRegs OffMatrix t) : t.matchCtx p bs v = s.matchCtx p bs v := by
  unfold State.matchCtx
  refine List.find?_congr fun c hc => ?_
  have hc128 : c < 128 := List.mem_range.mp hc
  have hw (k : Nat) (hk : k < 128) : OffMatrix (0x40481000 + k + 128 * c) := offMatrix_of_lt (by omega)
  rw [h.on (g := R.STR_RX_W0_EN c) (hw 0 (by decide)), h.rd (g := R.STR_RX_W0_MAC c) (hw 0 (by decide)), h.rd (g := R.STR_RX_W1_DST c) (hw 4 (by decide)),
    h.rd (g := R.STR_RX_W3_DPORT c) (hw 12 (by decide)), h.on (g := R.STR_RX_W0_SRC_EN c) (hw 0 (by decide)), h.rd (g := R.STR_RX_W2_SRC c) (hw 8 (by decide))]

theorem State.matchCtx_lt {bs : List Byte} (h : s.matchCtx p bs v = some c) : c < 128 := by
  unfold State.matchCtx at h
  exact List.mem_range.mp (List.mem_of_find?_eq_some h)

/-- The words of a context that the checks of a packet read. -/
theorem State.rtpFor_congr {bs : List Byte} (h : ∀ g : Fld, g.addr = (R.STR_RX_W0_w c).addr ∨ g.addr = (R.STR_RX_W4_SSRC c).addr → t.rd g = s.rd g) :
    t.rtpFor c bs v = s.rtpFor c bs v := by
  have hch : t.rxChans c = s.rxChans c := by rw [State.rxChans, State.rxChans, h (R.STR_RX_W0_CH_M1 c) (.inl rfl)]
  have hpt : t.rxPtime c = s.rxPtime c := by rw [State.rxPtime, State.rxPtime, State.on_of_rd (h (R.STR_RX_W0_PTIME c) (.inl rfl))]
  rw [State.rtpFor, State.rtpFor, hch, hpt, h (R.STR_RX_W0_PT c) (.inl rfl), State.on_of_rd (h (R.STR_RX_W0_SSRC_EN c) (.inl rfl)),
    h (R.STR_RX_W4_SSRC c) (.inr rfl), State.on_of_rd (h (R.STR_RX_W0_FMT c) (.inl rfl))]

theorem State.rxCount_first : s.rxCount c rxPkts 1 = s.bump (R.STR_RX_CNT_COUNT c rxPkts) := by
  unfold State.rxCount State.when
  exact if_neg (by decide)

/-- A frame that matches a context and passes its checks. -/
theorem State.streamFrame_valid {bs : List Byte} {x : RtpPkt} (hu : udpAt bs = some v) (hm : s.matchCtx p bs v = some c) (hr : s.rtpFor c bs v = some x) :
    s.streamFrame p bs = (s.bump (R.STR_RX_CNT_COUNT c rxPkts)).validPacket c x := by
  have hr' : (s.bump (R.STR_RX_CNT_COUNT c rxPkts)).rtpFor c bs v = some x := by
    refine (State.rtpFor_congr fun g hg => State.rd_bump_addr ?_).trans hr
    rcases hg with hg | hg <;> rw [hg] <;> simp only [R.STR_RX_W0_w, R.STR_RX_W4_SSRC, R.STR_RX_CNT_COUNT, rxPkts] <;> omega
  rw [State.streamFrame, hu]
  dsimp only
  rw [hm]
  dsimp only
  rw [State.rxCount_first, hr']

theorem State.streamFrame_none {bs : List Byte} (hu : udpAt bs = none) : s.streamFrame p bs = s.bump R.STR_CNT_NOCTX_COUNT := by
  rw [State.streamFrame, hu]

/-! ### The engine's place in a ring -/

/-- The state in which a descriptor is passed and not yet given back. -/
def State.passed (s : State) (p r i : Nat) : State :=
  s.setMac p { s.mac p with taken := (s.mac p).taken.set 0 r ((i + 1) % max 1 (s.rd (R.MAC_RING_W1_SIZE p r))) }

theorem State.reGive_eq : s.reGive p r i = (s.passed p r i).dmaPut strMaster (((s.passed p r i).rxDesc p r i + 4) % 2 ^ 32) (2 ^ 31) := rfl

theorem State.mac_congr (h : t.macs = s.macs) : t.mac p = s.mac p := by rw [State.mac, State.mac, h]

theorem State.mac_setMac {x : MacSt} : (s.setMac p x).mac p = x := Cells.get_set_self

theorem State.SameRegs.setMac {P : Nat → Prop} {x : MacSt} : s.SameRegs P (s.setMac p x) := .of_eq rfl rfl

theorem State.rxDesc_congr (h : t.rd (R.MAC_RING_W0_BASE p r) = s.rd (R.MAC_RING_W0_BASE p r)) : t.rxDesc p r i = s.rxDesc p r i := by
  rw [State.rxDesc, State.rxDesc, h]

/-- What giving a descriptor back does. -/
theorem State.reGive_spec (h : s.Window (s.rxDesc p r i) 32) : s.SameRegs OffMatrix (s.reGive p r i) ∧
    (s.reGive p r i).load (s.rxDesc p r i + 4) 4 = 2 ^ 31 ∧
    ((s.reGive p r i).mac p).taken.get 0 r = (i + 1) % max 1 (s.rd (R.MAC_RING_W1_SIZE p r)) ∧ (s.reGive p r i).srx = s.srx ∧ (s.reGive p r i).tm = s.tm := by
  obtain ⟨hg, h1, h2⟩ := h
  have hp : s.SameRegs OffMatrix (s.passed p r i) := .setMac
  have ha : (s.passed p r i).rxDesc p r i = s.rxDesc p r i := State.rxDesc_congr (State.rd_congr rfl rfl)
  have hw : (s.passed p r i).Window (s.rxDesc p r i + 4) 4 := ⟨hg, by omega, by omega⟩
  obtain ⟨hm, hmem⟩ := State.dmaPut_window (m := strMaster) (v := 2 ^ 31) hw
  rw [State.reGive_eq, ha, Nat.mod_eq_of_lt (show s.rxDesc p r i + 4 < 2 ^ 32 by omega)]
  refine ⟨hp.trans hm.regs, ?_, ?_, hm.srx, hm.tm⟩
  · rw [State.load_congr hmem, State.load_store, Nat.mod_eq_of_lt (by decide)]
  · rw [hm.mac, State.passed, State.mac_setMac, Cells.get_set_self]

theorem State.takeFrame_succ : s.takeFrame p r (k + 1) =
    let a := s.rxDesc p r ((s.mac p).taken.get 0 r)
    let x := s.dmaWord strMaster a
    let y := x.2.dmaWord strMaster ((a + 4) % 2 ^ 32)
    let z := y.2.dmaRead strMaster x.1 (y.1 % 16384) 600
    let q := z.2.reGive p r ((s.mac p).taken.get 0 r)
    if bitOf y.1 31 then ([], y.2) else if bitOf y.1 29 then (z.1, q) else (z.1 ++ (q.takeFrame p r k).1, (q.takeFrame p r k).2) := rfl

/-- A frame in one buffer is taken whole, and its descriptor given back. -/
theorem State.takeFrame_one (hi : (s.mac p).taken.get 0 r = i) (ha : s.rxDesc p r i = a) (hb : s.load a 4 = b) (hw : s.load (a + 4) 4 = w)
    (h : s.Window a 32) (hown : bitOf w 31 = false) (hlast : bitOf w 29 = true) (hbuf : 0x20500000 ≤ b ∧ b + w % 16384 ≤ 0x20600000) :
    ∃ u : State, s.Moved u ∧ u.mem = s.mem ∧ s.takeFrame p r (k + 1) = (s.bytes b (w % 16384), u.reGive p r i) := by
  have hlt : w % 16384 < 16384 := Nat.mod_lt _ (by decide)
  have hg := h.1
  rw [State.takeFrame_succ, hi, ha]
  dsimp only
  rw [Nat.mod_eq_of_lt (show a + 4 < 2 ^ 32 by omega)]
  obtain ⟨hx, mx, nx⟩ := State.dmaWord_window (s := s) (m := strMaster) (a := a) ⟨hg, by omega, by omega⟩
  rw [hb] at hx
  generalize s.dmaWord strMaster a = x at hx mx nx ⊢
  obtain ⟨hy, my, ny⟩ := State.dmaWord_window (s := x.2) (m := strMaster) (a := a + 4) ⟨mx.gated.trans hg, by omega, by omega⟩
  rw [State.load_congr nx, hw] at hy
  generalize x.2.dmaWord strMaster (a + 4) = y at hy my ny ⊢
  obtain ⟨hz, mz, nz⟩ := State.dmaRead_window (s := y.2) (m := strMaster) (a := b) (n := w % 16384) (k := 600)
    ⟨(mx.trans my).gated.trans hg, hbuf⟩ (.inr (by omega))
  rw [State.bytes_congr (ny.trans nx)] at hz
  rw [hx, hy, hown, hlast, if_neg Bool.false_ne_true, if_pos rfl, hz]
  exact ⟨_, (mx.trans my).trans mz, nz.trans (ny.trans nx), rfl⟩

/-! ### The events -/

theorem State.streamsRun_atRaw : (s.atRaw n).streamsRun = s.streamsRun := by rw [State.streamsRun, State.streamsRun, State.on_atRaw, State.gated_atRaw]

theorem exec_streamPacket {d : Fin 2} {e : Fin 16} (hr : s.streamsRun = true) (ho : s.on (R.MAC_RING_W1_OWNER d.val e.val) = true)
    (he : s.on (R.MAC_RING_W1_EN d.val e.val) = true) (hi : (s.mac d.val).taken.get 0 e.val = i) (ha : s.rxDesc d.val e.val i = a)
    (hw : s.load (a + 4) 4 = w) (h : s.Window a 32) (hown : bitOf w 31 = false) :
    ∃ u : State, (s.atRaw n).Moved u ∧ u.mem = s.mem ∧ exec (.streamPacket d e n) s = .next (if bitOf w 28 then u.reGive d.val e.val i
      else if !bitOf w 30 then u else (u.takeFrame d.val e.val 160).2.streamFrame d.val (u.takeFrame d.val e.val 160).1) := by
  have hc : (!(s.atRaw n).streamsRun || !(s.atRaw n).on (R.MAC_RING_W1_OWNER d.val e.val) || !(s.atRaw n).on (R.MAC_RING_W1_EN d.val e.val)) = false := by
    rw [State.streamsRun_atRaw, State.on_atRaw, State.on_atRaw, hr, ho, he]
    rfl
  have hd : (s.atRaw n).rxDesc d.val e.val i = a := (State.rxDesc_congr State.rd_atRaw).trans ha
  obtain ⟨hx, mx, nx⟩ := State.dmaWord_window (s := s.atRaw n) (m := strMaster) (a := a + 4) ⟨State.gated_atRaw.trans h.1, by omega, by omega⟩
  rw [State.load_congr (State.atRaw_mem ..), hw] at hx
  refine ⟨((s.atRaw n).dmaWord strMaster (a + 4)).2, mx, nx.trans (State.atRaw_mem ..), congrArg Host.Outcome.next ?_⟩
  dsimp only
  rw [hc, if_neg Bool.false_ne_true, State.mac_congr State.atRaw_macs, hi, hd, Nat.mod_eq_of_lt (show a + 4 < 2 ^ 32 by omega), hx, hown, if_neg Bool.false_ne_true]

theorem exec_legDown {d : Fin 128} (hr : s.streamsRun = true) (he : s.on (R.STR_RX_W0_EN d.val) = true)
    (hq : ∀ v, (s.strx d.val).validAt = some v → v + ms 10 ≤ (s.atRaw n).tm.raw) :
    exec (.legDown d n) s = .next (((s.atRaw n).flag (R.STR_RX_STATUS_LEG_DOWN d.val)).wr (R.STR_RX_STATUS_RECV d.val) 0) := by
  have hrun : (s.atRaw n).streamsRun = true := State.streamsRun_atRaw.trans hr
  have he' : (s.atRaw n).on (R.STR_RX_W0_EN d.val) = true := State.on_atRaw.trans he
  refine congrArg Host.Outcome.next (if_pos ?_)
  rw [hrun, he', State.strx_congr State.atRaw_srx]
  cases hv : (s.strx d.val).validAt with
  | none => rfl
  | some v => simpa only [Bool.and_self, Bool.true_and, decide_eq_true_eq] using hq v hv

theorem offMatrix_of_ring (d : Fin 2) (e : Fin 16) {j : Nat} (hj : j < 32) : OffMatrix (0x40401000 + j + 65536 * d.val + 32 * e.val) :=
  offMatrix_of_lt (by omega)

end

/-- Settles O51: the words the engine reads are those that stand in the window, so the branch taken is the one the descriptor names. -/
theorem streamsReceived : Obligations.StreamsReceived := by
  unfold Obligations.StreamsReceived
  refine ⟨fun s m r n hr ho he hg => ?_, fun s c n hr he hq => ?_⟩
  · intro i a w b bs h1 h2 hown
    have hbase (u : State) (hu : (s.atRaw n).SameRegs OffMatrix u) : u.rxDesc m.val r.val i = a :=
      State.rxDesc_congr ((hu.rd (offMatrix_of_ring m r (j := 0) (by decide))).trans State.rd_atRaw)
    have hsize (u : State) (hu : (s.atRaw n).SameRegs OffMatrix u) : u.rd (R.MAC_RING_W1_SIZE m.val r.val) = s.rd (R.MAC_RING_W1_SIZE m.val r.val) :=
      (hu.rd (offMatrix_of_ring m r (j := 4) (by decide))).trans State.rd_atRaw
    have hcount (u : State) (hu : (s.atRaw n).SameRegs OffMatrix u) : u.rd R.STR_CNT_NOCTX_COUNT = s.rd R.STR_CNT_NOCTX_COUNT :=
      (hu.rd (.inl (by decide))).trans State.rd_atRaw
    obtain ⟨u, hu, hmem, hx⟩ := exec_streamPacket (n := n) hr ho he rfl rfl rfl (⟨hg, h1, h2⟩ : s.Window a 32) hown
    have hwin : u.Window a 32 := ⟨hu.gated.trans (State.gated_atRaw.trans hg), h1, h2⟩
    refine ⟨fun hd => ?_, fun hd hf hl hb1 hb2 => ?_⟩
    · obtain ⟨hregs, hload, htaken, hsrx, -⟩ := State.reGive_spec (s := u) (p := m.val) (r := r.val) (i := i) (by rwa [hbase u hu.regs])
      rw [hbase u hu.regs] at hload
      rw [hsize u hu.regs] at htaken
      exact ⟨_, hx.trans (congrArg Host.Outcome.next (if_pos hd)), hload, htaken, funext fun c => State.strx_congr (hsrx.trans hu.srx), hcount _ (hu.regs.trans hregs)⟩
    · obtain ⟨v, hv, hvmem, htake⟩ := State.takeFrame_one (k := 159) (by rw [hu.mac, State.mac_congr State.atRaw_macs]) (hbase u hu.regs) (State.load_congr hmem)
        (State.load_congr hmem) hwin hown hl ⟨hb1, hb2⟩
      rw [State.bytes_congr hmem] at htake
      have hv' := (hu.trans hv).regs
      obtain ⟨hregs, hload, -, hsrx, htm⟩ := State.reGive_spec (s := v) (p := m.val) (r := r.val) (i := i) (by rw [hbase v hv']; exact hwin.of_moved hv)
      rw [hbase v hv'] at hload
      have hx' : exec (.streamPacket m r n) s = .next ((v.reGive m.val r.val i).streamFrame m.val bs) := by
        rw [hx, hd, hf, htake]
        rfl
      have ht := hv'.trans hregs
      refine ⟨fun hu0 => ?_, fun q c k hu0 hm hk => ?_⟩
      · refine ⟨_, hx'.trans (congrArg Host.Outcome.next (State.streamFrame_none hu0)), ?_, ?_⟩
        · exact (State.load_congr (State.bump_mem ..)).trans hload
        · rw [State.rd_bump_self (by decide), hcount _ ht]
      · have hrd (g : Fld) (hg : g.addr < 0x40500000) : (v.reGive m.val r.val i).rd g = s.rd g := (ht.rd (.inl hg)).trans State.rd_atRaw
        have hc : c < 128 := State.matchCtx_lt hm
        have hm' : (v.reGive m.val r.val i).matchCtx m.val bs q = some c :=
          (State.matchCtx_congr ht).trans ((State.matchCtx_congr (State.SameRegs.of_eq rfl rfl)).trans hm)
        have hk' : (v.reGive m.val r.val i).rtpFor c bs q = some k := by
          refine (State.rtpFor_congr fun g hg => hrd g ?_).trans hk
          rcases hg with hg | hg <;> rw [hg] <;> simp only [R.STR_RX_W0_w, R.STR_RX_W4_SSRC] <;> omega
        obtain ⟨hrecv, hdown, hat, hpk⟩ := State.validPacket_spec (s := (v.reGive m.val r.val i).bump (R.STR_RX_CNT_COUNT c rxPkts)) (c := c) (x := k)
        refine ⟨_, hx'.trans (congrArg Host.Outcome.next (State.streamFrame_valid hu0 hm' hk')), hrecv, hdown, ?_, ?_⟩
        · rw [hat, State.bump_tm, htm, (hu.trans hv).tm]
        · rw [show (0 : Nat) = rxPkts from rfl, hpk, State.rd_bump_self ⟨rfl, rfl⟩, hrd _ (by simp only [R.STR_RX_CNT_COUNT, rxPkts]; omega)]
  · refine ⟨_, exec_legDown hr he hq, ?_, ?_, fun p hp => ?_⟩
    · rw [State.on_wr_apart (.inr (by simp [R.STR_RX_STATUS_RECV, R.STR_RX_STATUS_LEG_DOWN])), State.on_flag_self (Nat.le_refl _)]
    · exact State.on_wr_zero (Nat.le_refl _)
    · exact Good.same_off (W := 9) ((State.wr_good _ _ _).step rfl ((State.flag_good _ _).step rfl (Good.upd_tm rfl .refl))) [.tm, .regs] rfl hp

end Sys2Proof.Machine
end

section
/-! PROOFS. The Ethernet ports: link state, MDIO, and the end of a frame (R234, R247–R249, R255). -/

-- One proof at a time: the package as one text then takes less memory.
set_option Elab.async false

namespace Sys2Proof.Machine

open Sys2Proof

section
variable {s t u : State} {f g : Fld} {a b i k m n p q r v w : Nat} {l : LinkState}

/-! ### The link (R234) -/

theorem State.rd_setMac {x : MacSt} : (s.setMac p x).rd g = s.rd g := State.rd_congr rfl rfl

theorem State.on_setMac {x : MacSt} : (s.setMac p x).on g = s.on g := State.on_of_rd State.rd_setMac

theorem State.mem_setMac {x : MacSt} : (s.setMac p x).mem = s.mem := rfl

theorem State.linkUp_congr (h : ∀ g : Fld, g.addr = (R.MAC_MODE_w p).addr → t.rd g = s.rd g) : t.linkUp p l = s.linkUp p l := by
  rw [State.linkUp, State.linkUp, h (R.MAC_MODE_MODE p) rfl, State.on_of_rd (h (R.MAC_MODE_INBAND p) rfl), State.on_of_rd (h (R.MAC_MODE_AN_EN p) rfl)]

/-- The status words that follow the lane, beside LINK. -/
def State.laneShown (s : State) (p : Nat) (l : LinkState) : State :=
  let tenG : Bool := p < 2 && s.rd (R.MAC_MODE_MODE p) = 0
  let s := s.when (tenG && l.hiBer && !s.on (R.MAC_STATUS_HI_BER p)) (·.bump (R.MAC_CNT_HI_BER_VALUE p))
  let s := (s.wr (R.MAC_STATUS_HI_BER p) (b2n (tenG && l.hiBer))).wr (R.MAC_STATUS_AN_DONE p) (b2n (p < 2 && l.anOk))
  if p = 2 then s.wr (R.MAC_STATUS_SPEED p) l.speed.toNat else s

/-- LINK itself, as it was and as it is to be. -/
def State.linkSet (s : State) (p : Nat) (up was : Bool) : State :=
  if up = was then s else if was then s.linkFalls p else (s.wr (R.MAC_STATUS_LINK p) 1).flag (R.MAC_STATUS_LINK_CHG p)

theorem State.relink_eq : s.relink p = (s.laneShown p (s.mac p).lane).linkSet p (s.linkUp p (s.mac p).lane) (s.on (R.MAC_STATUS_LINK p)) := rfl

theorem State.rd_when {c : Bool} {F : State → State} (h : (F s).rd g = s.rd g) : (s.when c F).rd g = s.rd g := by
  unfold State.when
  split
  · exact h
  · rfl

theorem State.rd_laneShown (hc : g.addr ≠ (R.MAC_CNT_HI_BER_VALUE p).addr) (h1 : Fld.Apart g (R.MAC_STATUS_HI_BER p)) (h2 : Fld.Apart g (R.MAC_STATUS_AN_DONE p))
    (h3 : Fld.Apart g (R.MAC_STATUS_SPEED p)) : (s.laneShown p l).rd g = s.rd g := by
  unfold State.laneShown
  dsimp only
  split
  · rw [State.rd_wr_apart h3, State.rd_wr_apart h2, State.rd_wr_apart h1, State.rd_when (State.rd_bump_addr hc)]
  · rw [State.rd_wr_apart h2, State.rd_wr_apart h1, State.rd_when (State.rd_bump_addr hc)]

theorem State.macs_when_bump {c : Bool} : (s.when c (·.bump f)).macs = s.macs := by
  unfold State.when
  split
  · exact State.bump_macs
  · rfl

theorem State.macs_laneShown : (s.laneShown p l).macs = s.macs := by
  unfold State.laneShown
  dsimp only
  split
  · rw [State.wr_macs, State.wr_macs, State.wr_macs, State.macs_when_bump]
  · rw [State.wr_macs, State.wr_macs, State.macs_when_bump]

/-- What becomes of LINK, LINK_CHG and the count of losses. -/
theorem State.linkSet_spec {up was : Bool} (hw : s.on (R.MAC_STATUS_LINK p) = was) : (s.linkSet p up was).on (R.MAC_STATUS_LINK p) = up ∧
    (was ≠ up → (s.linkSet p up was).on (R.MAC_STATUS_LINK_CHG p) = true) ∧
    (s.linkSet p up was).rd (R.MAC_CNT_LINK_DOWN_VALUE p) =
      (if was = true ∧ up = false then min 0xFFFFFFFF (s.rd (R.MAC_CNT_LINK_DOWN_VALUE p) + 1) else s.rd (R.MAC_CNT_LINK_DOWN_VALUE p)) ∧
    ((s.mac p).tx = none → ((s.linkSet p up was).mac p).tx = none) := by
  have hchg : Fld.Apart (R.MAC_STATUS_LINK p) (R.MAC_STATUS_LINK_CHG p) := .inr (by simp [R.MAC_STATUS_LINK, R.MAC_STATUS_LINK_CHG])
  have hcnt : (R.MAC_CNT_LINK_DOWN_VALUE p).addr ≠ (R.MAC_STATUS_w p).addr := by simp only [R.MAC_CNT_LINK_DOWN_VALUE, R.MAC_STATUS_w]; omega
  unfold State.linkSet
  by_cases he : up = was
  · subst he
    rw [if_pos rfl, if_neg (by cases up <;> simp)]
    exact ⟨hw, fun h => absurd rfl h, rfl, id⟩
  · rw [if_neg he]
    cases was with
    | true =>
      obtain rfl : up = false := by simpa using he
      rw [if_pos rfl, if_pos ⟨rfl, rfl⟩]
      unfold State.linkFalls
      dsimp only
      refine ⟨?_, fun _ => ?_, ?_, fun ht => ?_⟩
      · rw [State.on_setMac, State.on_of_rd (State.rd_bump_addr (g := R.MAC_STATUS_LINK p) hcnt.symm), State.flag, State.on_wr_apart hchg, State.on_wr_zero (Nat.le_refl _)]
      · rw [State.on_setMac, State.on_of_rd (State.rd_bump_addr (g := R.MAC_STATUS_LINK_CHG p) hcnt.symm), State.on_flag_self (Nat.le_refl _)]
      · rw [State.rd_setMac, State.rd_bump_self ⟨rfl, rfl⟩, State.rd_flag_addr (f := R.MAC_STATUS_LINK_CHG p) hcnt, State.rd_wr_addr (f := R.MAC_STATUS_LINK p) hcnt]
      · rw [State.mac_setMac, State.mac_congr (s := s) (by rw [State.bump_macs, State.flag_macs, State.wr_macs]), ht]
        rfl
    | false =>
      obtain rfl : up = true := by simpa using he
      rw [if_neg Bool.false_ne_true, if_neg (by simp)]
      refine ⟨?_, fun _ => State.on_flag_self (Nat.le_refl _), ?_, fun ht => ?_⟩
      · rw [State.flag, State.on_wr_apart hchg]
        exact State.on_flag_self (Nat.le_refl _)
      · rw [State.rd_flag_addr (f := R.MAC_STATUS_LINK_CHG p) hcnt, State.rd_wr_addr (f := R.MAC_STATUS_LINK p) hcnt]
      · rw [State.mac_congr (s := s) (by rw [State.flag_macs, State.wr_macs]), ht]

theorem State.dropLost_idle (h : (s.mac p).tx = none) : s.dropLost p = s := by
  rw [State.dropLost, h]

theorem State.rd_setLane (h : g.addr ≠ (R.MAC_CNT_BLOCK_LOCK_VALUE p).addr) : (s.setLane p l).rd g = s.rd g :=
  (State.rd_when (State.rd_bump_addr h)).trans State.rd_setMac

theorem State.mac_setLane : (s.setLane p l).mac p = { s.mac p with lane := l } := by
  unfold State.setLane
  dsimp only
  rw [State.mac_congr State.macs_when_bump, State.mac_setMac]

theorem exec_linkChange {d : Fin 3} (hg : s.gated (12 + d.val) = false) : exec (.linkChange d l) s = .next (((s.setLane d.val l).relink d.val).dropLost d.val) :=
  congrArg Host.Outcome.next (ungated hg)

/-- A change of the lane, and LINK after it. -/
theorem State.lane_relinked (ht : (s.mac p).tx = none) : ∃ u : State, ((s.setLane p l).relink p).dropLost p = u ∧ u.on (R.MAC_STATUS_LINK p) = s.linkUp p l ∧
    (s.on (R.MAC_STATUS_LINK p) ≠ s.linkUp p l → u.on (R.MAC_STATUS_LINK_CHG p) = true) ∧
    u.rd (R.MAC_CNT_LINK_DOWN_VALUE p) = (if s.on (R.MAC_STATUS_LINK p) = true ∧ s.linkUp p l = false
      then min 0xFFFFFFFF (s.rd (R.MAC_CNT_LINK_DOWN_VALUE p) + 1) else s.rd (R.MAC_CNT_LINK_DOWN_VALUE p)) := by
  have hoff (g : Fld) (h : g.addr < 0x40400280 + 65536 * p) : g.addr ≠ (R.MAC_CNT_BLOCK_LOCK_VALUE p).addr ∧ g.addr ≠ (R.MAC_CNT_HI_BER_VALUE p).addr := by
    simp only [R.MAC_CNT_BLOCK_LOCK_VALUE, R.MAC_CNT_HI_BER_VALUE]
    omega
  have hlink : Fld.Apart (R.MAC_STATUS_LINK p) (R.MAC_STATUS_HI_BER p) ∧ Fld.Apart (R.MAC_STATUS_LINK p) (R.MAC_STATUS_AN_DONE p) ∧
      Fld.Apart (R.MAC_STATUS_LINK p) (R.MAC_STATUS_SPEED p) := by
    simp [Fld.Apart, R.MAC_STATUS_LINK, R.MAC_STATUS_HI_BER, R.MAC_STATUS_AN_DONE, R.MAC_STATUS_SPEED]
  have hstat : (R.MAC_STATUS_LINK p).addr < 0x40400280 + 65536 * p := by simp only [R.MAC_STATUS_LINK]; omega
  have hdown : (R.MAC_CNT_LINK_DOWN_VALUE p).addr ≠ (R.MAC_CNT_BLOCK_LOCK_VALUE p).addr ∧ (R.MAC_CNT_LINK_DOWN_VALUE p).addr ≠ (R.MAC_CNT_HI_BER_VALUE p).addr ∧
      (R.MAC_CNT_LINK_DOWN_VALUE p).addr ≠ (R.MAC_STATUS_w p).addr := by
    simp only [R.MAC_CNT_LINK_DOWN_VALUE, R.MAC_CNT_BLOCK_LOCK_VALUE, R.MAC_CNT_HI_BER_VALUE, R.MAC_STATUS_w]
    omega
  have hup : (s.setLane p l).linkUp p l = s.linkUp p l :=
    State.linkUp_congr fun g hg => State.rd_setLane (hoff g (by rw [hg]; simp only [R.MAC_MODE_w]; omega)).1
  have hwas : (s.setLane p l).on (R.MAC_STATUS_LINK p) = s.on (R.MAC_STATUS_LINK p) := State.on_of_rd (State.rd_setLane (hoff _ hstat).1)
  have hshown : ((s.setLane p l).laneShown p l).on (R.MAC_STATUS_LINK p) = s.on (R.MAC_STATUS_LINK p) :=
    (State.on_of_rd (State.rd_laneShown (hoff _ hstat).2 hlink.1 hlink.2.1 hlink.2.2)).trans hwas
  have hcount : ((s.setLane p l).laneShown p l).rd (R.MAC_CNT_LINK_DOWN_VALUE p) = s.rd (R.MAC_CNT_LINK_DOWN_VALUE p) :=
    (State.rd_laneShown hdown.2.1 (.inl hdown.2.2) (.inl hdown.2.2) (.inl hdown.2.2)).trans (State.rd_setLane hdown.1)
  have hidle : (((s.setLane p l).laneShown p l).mac p).tx = none := by rw [State.mac_congr State.macs_laneShown, State.mac_setLane]; exact ht
  obtain ⟨h1, h2, h3, h4⟩ := State.linkSet_spec (up := s.linkUp p l) hshown
  refine ⟨_, ?_, h1, h2, hcount ▸ h3⟩
  have hr : (s.setLane p l).relink p = ((s.setLane p l).laneShown p l).linkSet p (s.linkUp p l) (s.on (R.MAC_STATUS_LINK p)) := by
    rw [State.relink_eq, State.mac_setLane, hup, hwas]
  rw [hr, State.dropLost_idle (h4 hidle)]

theorem State.linkUp_port {d : Fin 3} : s.linkUp d.val l = (if s.rd (R.MAC_MODE_MODE d.val) = 3 then false
    else if d.val = 2 then (if s.on (R.MAC_MODE_INBAND 2) then l.lock else l.pin)
    else if s.rd (R.MAC_MODE_MODE d.val) = 0 then l.lock && !l.hiBer
    else if s.rd (R.MAC_MODE_MODE d.val) = 2 ∧ s.on (R.MAC_MODE_AN_EN d.val) = true then l.lock && l.anOk else l.lock) := by
  have hband (hd : d.val = 2) : R.MAC_MODE_INBAND d.val = R.MAC_MODE_INBAND 2 := by rw [hd]
  unfold State.linkUp
  by_cases hd : d.val = 2
  · simp only [if_pos hd, hband hd]
  · simp only [if_neg hd, Bool.and_eq_true, decide_eq_true_eq]

/-! ### MDIO (R249) -/

theorem bitsOf_setBits_within {hi lo : Nat} (hlo : lo ≤ hi) (hhi : hi ≤ 31) : bitsOf (setBits w 31 0 v) hi lo = bitsOf v hi lo := by
  apply Nat.eq_of_testBit_eq
  intro i
  rw [testBit_bitsOf, testBit_bitsOf, testBit_setBits (Nat.zero_le _), if_neg (Nat.not_lt_zero _), Nat.sub_zero]
  by_cases hi' : i < hi - lo + 1
  · rw [if_pos (by omega)]
  · rw [decide_eq_false hi', Bool.false_and, Bool.false_and]

/-- A field of a word that is written whole. -/
theorem State.rd_wr_whole (ha : g.addr = f.addr) (hr : g.rst = f.rst ∧ g.rst96 = f.rst96) (hf : f.lo = 0 ∧ f.hi = 31) (hg : g.lo ≤ g.hi) (hg' : g.hi ≤ 31) :
    (s.wr f v).rd g = bitsOf v g.hi g.lo := by
  have hw : (s.wr f v).word g = (s.wr f v).word f := by rw [State.word, State.word, ha, State.rstOf, State.rstOf, hr.1, hr.2]
  rw [State.rd, hw, State.word_wr_self, hf.1, hf.2, bitsOf_setBits_within hg hg']

/-- The word of an access: the operation, its addresses and its data. -/
def mdioWord (w : Nat) : Nat := w % 0x80000000 / 0x40000 * 0x40000 + w % 65536

theorem exec_mdioTransfer {x : BitVec 32} (hg : s.gated 14 = false) (hb : s.on (R.MAC_MDIO_BUSY 2) = false) :
    exec (.mdioTransfer x) s = .next ((s.wr (R.MAC_MDIO_w 2) (mdioWord x.toNat)).flag (R.MAC_MDIO_BUSY 2)) :=
  (ungated hg).trans (congrArg Host.Outcome.next (if_neg (by rw [hb]; exact Bool.false_ne_true)))

theorem State.rd_mdio (hg : g.addr = (R.MAC_MDIO_w 2).addr ∧ g.rst = 0 ∧ g.rst96 = 0 ∧ g.lo ≤ g.hi ∧ g.hi < 31) :
    ((s.wr (R.MAC_MDIO_w 2) v).flag (R.MAC_MDIO_BUSY 2)).rd g = bitsOf v g.hi g.lo := by
  obtain ⟨ha, hr, hr96, hlo, hhi⟩ := hg
  rw [State.flag, State.rd_wr_apart (.inr ⟨hr, hr96, Nat.le_refl _, hlo, .inl hhi⟩)]
  exact State.rd_wr_whole ha ⟨hr, hr96⟩ ⟨rfl, rfl⟩ hlo hhi.le

theorem bitsOf_mdioWord : bitsOf (mdioWord w) 29 28 = bitsOf w 29 28 ∧ bitsOf (mdioWord w) 27 23 = bitsOf w 27 23 ∧
    bitsOf (mdioWord w) 22 18 = bitsOf w 22 18 ∧ bitsOf (mdioWord w) 15 0 = bitsOf w 15 0 := by
  simp only [bitsOf, mdioWord, Nat.shiftRight_eq_div_pow]
  omega

theorem exec_mdioComplete {x : BitVec 16} (hg : s.gated 14 = false) (hb : s.on (R.MAC_MDIO_BUSY 2) = true) :
    exec (.mdioComplete x) s = .next (if 2 ≤ (s.wr (R.MAC_MDIO_BUSY 2) 0).rd (R.MAC_MDIO_OP 2)
      then (s.wr (R.MAC_MDIO_BUSY 2) 0).wr (R.MAC_MDIO_DATA 2) x.toNat else s.wr (R.MAC_MDIO_BUSY 2) 0) :=
  (ungated hg).trans (congrArg Host.Outcome.next (if_neg (by rw [hb]; exact Bool.false_ne_true)))

/-! ### A frame has left (R247, R255) -/

theorem length_fcsOf {bs : List Byte} : (fcsOf bs).length = 4 := length_leBytes _ _

theorem State.dropLost_kept {x : TxFrame} (h : (s.mac p).tx = some x) (hl : x.lost = false) : s.dropLost p = s := by
  rw [State.dropLost, h]
  exact if_neg (by rw [hl]; exact Bool.false_ne_true)

/-- The state after a frame has left, whose end left `u`. -/
def State.frameLeft (u : State) (p : Nat) (x : TxFrame) (underrun : Bool) : State :=
  let u := u.setMac p { u.mac p with wire := onWire x.bytes underrun }
  if underrun then u.bump (R.MAC_CNT_TX_UNDERRUN_VALUE p)
  else
    let u := (u.bump (R.MAC_CNT_TX_OK_VALUE p)).setMac p { u.mac p with txOct := (u.mac p).txOct + (onWire x.bytes underrun).length }
    if x.tsReq then u.pushStamp p ⟨x.raw, x.tag, x.queue.getD 0⟩ else u

theorem exec_txFrameEnd {d : Fin 3} {x : TxFrame} {c : Bool} (hg : s.gated (12 + d.val) = false) (h : (s.mac d.val).tx = some x) (hl : x.lost = false) :
    exec (.txFrameEnd d c) s = .next ((s.endFrame d.val (if c then 2 ^ 25 else 0)).frameLeft d.val x c) := by
  refine (ungated hg).trans (congrArg Host.Outcome.next ?_)
  rw [State.dropLost_kept h hl, h]
  rfl

/-- A port with no frame on its way out. -/
def State.idled (s : State) (p : Nat) : State := s.setMac p { s.mac p with tx := none }

theorem State.endFrame_stream {x : TxFrame} (h : (s.mac p).tx = some x) (hq : x.queue = none) : s.endFrame p v = s.idled p := by
  rw [State.endFrame, h]
  dsimp only
  rw [hq]
  rfl

theorem State.endFrame_queue {x : TxFrame} (h : (s.mac p).tx = some x) (hq : x.queue = some q) :
    s.endFrame p v = (s.idled p).giveTx p q x.first x.descs v := by
  rw [State.endFrame, h]
  dsimp only
  rw [hq]
  rfl

theorem State.rd_idled : (s.idled p).rd g = s.rd g := State.rd_setMac

theorem State.mac_idled : (s.idled p).mac p = { s.mac p with tx := none } := State.mac_setMac

/-- What a frame that left by itself leaves: its bytes on the wire, and the counts of frames and bytes. -/
theorem State.frameLeft_sent {x : TxFrame} (h : x.tsReq = false) : ((s.frameLeft p x false).mac p).tx = (s.mac p).tx ∧
    ((s.frameLeft p x false).mac p).txOct = (s.mac p).txOct + x.bytes.length + 4 ∧ ((s.frameLeft p x false).mac p).wire = x.bytes ++ fcsOf x.bytes ∧
    (s.frameLeft p x false).rd (R.MAC_CNT_TX_OK_VALUE p) = min 0xFFFFFFFF (s.rd (R.MAC_CNT_TX_OK_VALUE p) + 1) ∧ (s.frameLeft p x false).mem = s.mem := by
  have hw : onWire x.bytes false = x.bytes ++ fcsOf x.bytes := rfl
  unfold State.frameLeft
  dsimp only
  rw [if_neg Bool.false_ne_true, if_neg (by rw [h]; exact Bool.false_ne_true), hw]
  refine ⟨?_, ?_, ?_, ?_, ?_⟩
  · rw [State.mac_setMac, State.mac_setMac]
  · rw [State.mac_setMac, State.mac_setMac, List.length_append, length_fcsOf, Nat.add_assoc]
  · rw [State.mac_setMac, State.mac_setMac]
  · rw [State.rd_setMac, State.rd_bump_self ⟨rfl, rfl⟩, State.rd_setMac]
  · rw [State.mem_setMac, State.bump_mem, State.mem_setMac]

/-- What a frame whose data did not come in time leaves. -/
theorem State.frameLeft_underrun {x : TxFrame} : ((s.frameLeft p x true).mac p).tx = (s.mac p).tx ∧
    ((s.frameLeft p x true).mac p).wire = x.bytes ++ (fcsOf x.bytes).map (fun b => ~~~ b) ∧
    (s.frameLeft p x true).rd (R.MAC_CNT_TX_UNDERRUN_VALUE p) = min 0xFFFFFFFF (s.rd (R.MAC_CNT_TX_UNDERRUN_VALUE p) + 1) := by
  have hw : onWire x.bytes true = x.bytes ++ (fcsOf x.bytes).map (fun b => ~~~ b) := rfl
  unfold State.frameLeft
  dsimp only
  rw [if_pos rfl, hw]
  refine ⟨?_, ?_, ?_⟩
  · rw [State.mac_congr State.bump_macs, State.mac_setMac]
  · rw [State.mac_congr State.bump_macs, State.mac_setMac]
  · rw [State.rd_bump_self ⟨rfl, rfl⟩, State.rd_setMac]

theorem State.txq_congr (h : t.tm = s.tm) : t.txq p = s.txq p := by rw [State.txq, State.txq, h]

/-- The time-stamp that a frame sent with TS_REQ leaves in its queue (R255). -/
theorem State.frameLeft_stamped {x : TxFrame} (h : x.tsReq = true) (hq : x.queue = some q) (he : s.on R.TSU_CTRL_ENABLE = true) (hp : p < s.tm.txq.length)
    (hl : (s.txq p).length < 64) (hts : (R.MAC_CNT_TX_OK_VALUE p).addr ≠ R.TSU_CTRL_ENABLE.addr) :
    (s.frameLeft p x false).mem = s.mem ∧ (s.frameLeft p x false).txq p = s.txq p ++ [⟨x.raw, x.tag, q⟩] := by
  have htm (u : State) (y : MacSt) : (u.setMac p y).tm = u.tm := rfl
  unfold State.frameLeft
  dsimp only
  rw [if_neg Bool.false_ne_true, if_pos h, hq]
  generalize hv : State.setMac _ p _ = v
  have hvtm : v.tm = s.tm := by rw [← hv, htm, State.bump_tm, htm]
  have hvmem : v.mem = s.mem := by rw [← hv, State.mem_setMac, State.bump_mem, State.mem_setMac]
  have hven : v.on R.TSU_CTRL_ENABLE = true := by
    rw [← hv, State.on_setMac, State.on_of_rd (State.rd_bump_addr hts.symm), State.on_setMac, he]
  have hpush : v.pushStamp p ⟨x.raw, x.tag, q⟩ = v.setTxq p (v.txq p ++ [⟨x.raw, x.tag, q⟩]) := by
    have hlen : ¬ 64 ≤ (v.txq p).length := by rw [State.txq_congr hvtm]; omega
    rw [State.pushStamp, hven, if_neg (by decide), if_neg hlen]
  refine ⟨?_, ?_⟩
  · exact (congrArg State.mem hpush).trans hvmem
  · refine (congrArg (State.txq · p) hpush).trans ?_
    have hp' : p < v.tm.txq.length := by rw [hvtm]; exact hp
    show (v.tm.txq.set p _).getD p [] = _
    rw [List.getD_eq_getElem?_getD, List.getElem?_set_self hp', State.txq_congr hvtm]
    rfl

/-- A frame of one descriptor returns it with OWN cleared. -/
theorem State.giveTx_one (ha : (s.txDesc p q (n % max 1 (s.rd (R.MAC_TXQ_W1_SIZE p q))) + 4) % 2 ^ 32 = a) (h : s.Window a 4) :
    s.Moved (s.giveTx p q n 1 v) ∧ (s.giveTx p q n 1 v).mem = (s.store a 4 (s.load a 4 % 2 ^ 31 ||| v)).mem := by
  have heq : s.giveTx p q n 1 v = (s.dmaWord (macMaster p) a).2.dmaPut (macMaster p) a ((s.dmaWord (macMaster p) a).1 % 2 ^ 31 ||| v) := by
    unfold State.giveTx
    rw [List.range_one, List.foldl_cons, List.foldl_nil]
    dsimp only
    rw [Nat.add_zero n, ha]
  obtain ⟨hx, mx, nx⟩ := State.dmaWord_window (m := macMaster p) h
  obtain ⟨hm, hmem⟩ := State.dmaPut_window (m := macMaster p) (v := s.load a 4 % 2 ^ 31 ||| v) (h.of_moved mx)
  rw [heq, hx]
  exact ⟨mx.trans hm, hmem.trans (State.store_mem nx)⟩

theorem State.txDesc_congr (h : t.rd (R.MAC_TXQ_W0_BASE p q) = s.rd (R.MAC_TXQ_W0_BASE p q)) : t.txDesc p q i = s.txDesc p q i := by
  rw [State.txDesc, State.txDesc, h]

end
end Sys2Proof.Machine
end

section
/-! PROOFS. The start of a frame (R238, R246–R248). -/

-- One proof at a time: the package as one text then takes less memory.
set_option Elab.async false

namespace Sys2Proof.Machine

open Sys2Proof

section
variable {s t u : State} {f g : Fld} {a b c i h k m n p q r v w z : Nat}

theorem foldl_unmoved {α β : Type} {F : β → α → β} {y : β} {xs : List α} (hF : ∀ x ∈ xs, F y x = y) : xs.foldl F y = y := by
  induction xs with
  | nil => rfl
  | cons x xs ih => rw [List.foldl_cons, hF x List.mem_cons_self, ih fun x hx => hF x (List.mem_cons_of_mem _ hx)]

/-- A port's queues are eight at most. -/
theorem txQueues_le : txQueues p ≤ 8 := by
  unfold txQueues
  split <;> decide

/-! ### The link down (R248) -/

theorem State.flushQueue_off (hf : s.on (R.MAC_TXQ_W1_FLUSH_DOWN p q) = false) : s.flushQueue p q k = s := by
  cases k with
  | zero => rfl
  | succ k =>
    unfold State.flushQueue
    rw [hf]
    rfl

/-- With no queue to flush, only the stream packets go. -/
theorem exec_txFrameStart_down {d : Fin 3} (hg : s.gated (12 + d.val) = false) (ht : (s.mac d.val).tx = none) (hl : s.on (R.MAC_STATUS_LINK d.val) = false)
    (hf : ∀ q : Fin 8, s.on (R.MAC_TXQ_W1_FLUSH_DOWN d.val q.val) = false) :
    exec (.txFrameStart d c n) s = .next ((s.atRaw n).flushStreams d.val) := by
  have ht' : ((s.atRaw n).mac d.val).tx = none := (congrArg MacSt.tx (State.mac_congr State.atRaw_macs)).trans ht
  have hl' : (s.atRaw n).on (R.MAC_STATUS_LINK d.val) = false := State.on_atRaw.trans hl
  have hoff (q : Nat) (hq : q < 8) : ((s.atRaw n).flushStreams d.val).on (R.MAC_TXQ_W1_FLUSH_DOWN d.val q) = false := by
    have hne : (R.MAC_TXQ_W1_FLUSH_DOWN d.val q).addr ≠ (R.MAC_CNT_TX_DOWN_DROP_VALUE d.val).addr := by
      simp only [R.MAC_TXQ_W1_FLUSH_DOWN, R.MAC_CNT_TX_DOWN_DROP_VALUE]
      omega
    exact State.on_setMac.trans ((State.on_of_rd (State.rd_count_addr hne)).trans (State.on_atRaw.trans (hf ⟨q, hq⟩)))
  refine congrArg Host.Outcome.next ((ungated (State.gated_atRaw.trans hg)).trans ?_)
  rw [State.dropLost_idle ht']
  dsimp only
  rw [ht', hl']
  exact foldl_unmoved fun q hq => State.flushQueue_off (hoff q (Nat.lt_of_lt_of_le (List.mem_range.mp hq) txQueues_le))

/-! ### The queues that hold a frame (R246) -/

theorem State.queueReady_off (he : s.on (R.MAC_TXQ_W1_EN p q) = false) : s.queueReady p q = (.no, s) := by
  unfold State.queueReady
  rw [he]
  exact if_pos rfl

/-- One queue looked at. -/
def State.readyStep (p : Nat) (acc : List (Nat × Ready) × State) (q : Nat) : List (Nat × Ready) × State :=
  let x := acc.2.queueReady p q
  (if x.1 = .no then acc.1 else (q, x.1) :: acc.1, x.2)

theorem State.readyQueues_eq : s.readyQueues p = (List.range (txQueues p)).foldl (State.readyStep p) ([], s) := rfl

theorem State.readyStep_off {l : List (Nat × Ready)} (he : s.on (R.MAC_TXQ_W1_EN p q) = false) : State.readyStep p (l, s) q = (l, s) := by
  have hq : State.queueReady (l, s).2 p q = (.no, s) := State.queueReady_off he
  unfold State.readyStep
  rw [hq]
  exact congrArg (·, s) (if_pos rfl)

theorem State.readyQueues_none (he : ∀ q, q < 8 → s.on (R.MAC_TXQ_W1_EN p q) = false) : s.readyQueues p = ([], s) :=
  State.readyQueues_eq.trans <| foldl_unmoved fun q hq => State.readyStep_off (he q (Nat.lt_of_lt_of_le (List.mem_range.mp hq) txQueues_le))

/-- One queue among others that are off decides alone. -/
theorem readyStep_alone {xs : List Nat} {x : Ready} (hq : q ∈ xs) (hn : xs.Nodup) (hoff : ∀ k ∈ xs, k ≠ q → s.on (R.MAC_TXQ_W1_EN p k) = false)
    (hu : s.queueReady p q = (x, u)) (hx : x ≠ .no) (hen : ∀ k ∈ xs, u.on (R.MAC_TXQ_W1_EN p k) = s.on (R.MAC_TXQ_W1_EN p k)) :
    xs.foldl (State.readyStep p) ([], s) = ([(q, x)], u) := by
  induction xs with
  | nil => exact absurd hq List.not_mem_nil
  | cons k xs ih =>
    obtain ⟨hk, hxs⟩ := List.nodup_cons.mp hn
    rw [List.foldl_cons]
    by_cases hkq : k = q
    · subst hkq
      have hstep : State.readyStep p ([], s) k = ([(k, x)], u) := by
        have hk : State.queueReady (([] : List (Nat × Ready)), s).2 p k = (x, u) := hu
        unfold State.readyStep
        rw [hk]
        exact congrArg (·, u) (if_neg hx)
      rw [hstep]
      refine foldl_unmoved fun j hj => State.readyStep_off ?_
      rw [hen j (List.mem_cons_of_mem _ hj)]
      exact hoff j (List.mem_cons_of_mem _ hj) fun e => hk (e ▸ hj)
    · rw [State.readyStep_off (hoff k List.mem_cons_self hkq)]
      exact ih ((List.mem_cons.mp hq).resolve_left (Ne.symm hkq)) hxs (fun j hj => hoff j (List.mem_cons_of_mem _ hj)) fun j hj => hen j (List.mem_cons_of_mem _ hj)

/-! ### A frame of one descriptor at the head of a queue -/

/-- The registers of a queue lie in none of the fabric. -/
theorem offMatrix_of_mac (hp : p < 3) (hq : q < 8) (hk : k < 0x1700) : OffMatrix (0x40400000 + k + 65536 * p + 32 * q) := offMatrix_of_lt (by omega)

/-- What holds of a queue whose head is a frame of one descriptor: its place, its descriptor's words and its buffer. -/
structure State.OneFrame (s : State) (p q h z a w b : Nat) : Prop where
  port : p < 3
  queue : q < 8
  head : s.rd (R.MAC_TXQ_W3_HEAD p q) = h
  size : s.rd (R.MAC_TXQ_W1_SIZE p q) = z
  tail : s.rd (R.MAC_TXQ_W2_TAIL p q) = (h + 1) % z
  two : 2 ≤ z
  inRing : h < z
  desc : s.txDesc p q h = a
  win : s.Window a 16
  word : s.load (a + 4) 4 = w
  buf : s.load a 4 = b
  own : bitOf w 31 = true
  last : bitOf w 29 = true

section
variable (hf : s.OneFrame p q h z a w b)
include hf

theorem State.OneFrame.of_moved (hm : s.Moved t) (hmem : t.mem = s.mem) : t.OneFrame p q h z a w b := by
  obtain ⟨hp, hq, hhead, hsize, htail, h2, hin, hdesc, hwin, hword, hbuf, hown, hlast⟩ := hf
  have hrd (k : Nat) (g : Fld) (hk : k < 0x1700) (hg : g.addr = 0x40400000 + k + 65536 * p + 32 * q) : t.rd g = s.rd g :=
    hm.rd (hg ▸ offMatrix_of_mac hp hq hk)
  exact ⟨hp, hq, (hrd 0x140C _ (by decide) rfl).trans hhead, (hrd 0x1404 _ (by decide) rfl).trans hsize, (hrd 0x1408 _ (by decide) rfl).trans htail, h2, hin,
    (State.txDesc_congr (hrd 0x1400 _ (by decide) rfl)).trans hdesc, hwin.of_moved hm, (State.load_congr hmem).trans hword,
    (State.load_congr hmem).trans hbuf, hown, hlast⟩

/-- The words 1 that the port reads: one. -/
theorem State.headWords_one (hn : 1 < n) : ∃ u : State, s.Moved u ∧ u.mem = s.mem ∧ s.headWords p q 0 n = ([w], u) := by
  obtain ⟨n, rfl⟩ := Nat.exists_eq_add_of_le' hn
  have hmax : max 1 z = z := by have := hf.two; omega
  have hne : ¬ (h % z = (h + 1) % z) := by
    rw [Nat.mod_eq_of_lt hf.inRing]
    by_cases he : h + 1 = z
    · rw [he, Nat.mod_self]
      have := hf.two
      omega
    · rw [Nat.mod_eq_of_lt (by have := hf.inRing; omega)]
      omega
  obtain ⟨hg, h1, h2⟩ := hf.win
  obtain ⟨hx, mx, nx⟩ := State.dmaWord_window (s := s) (m := macMaster p) (a := a + 4) ⟨hg, by omega, by omega⟩
  have ht := hf.of_moved mx nx
  refine ⟨(s.dmaWord (macMaster p) (a + 4)).2, mx, nx, ?_⟩
  have hrest : (s.dmaWord (macMaster p) (a + 4)).2.headWords p q (0 + 1) (n + 1) = ([], (s.dmaWord (macMaster p) (a + 4)).2) := by
    unfold State.headWords
    rw [ht.head, ht.size, ht.tail, hmax]
    exact if_pos rfl
  unfold State.headWords
  rw [hf.head, hf.size, hf.tail, hmax, Nat.add_zero, if_neg hne, Nat.mod_eq_of_lt hf.inRing, hf.desc]
  dsimp only
  rw [Nat.mod_eq_of_lt (show a + 4 < 2 ^ 32 by omega), hrest, hx, hf.word]

theorem State.queueReady_one (he : s.on (R.MAC_TXQ_W1_EN p q) = true) (hlen : 0 < w % 16384) :
    ∃ u : State, s.Moved u ∧ u.mem = s.mem ∧ s.queueReady p q = (.frame 1, u) := by
  obtain ⟨u, mu, nu, hu⟩ := State.headWords_one hf (n := 16) (by decide)
  refine ⟨u, mu, nu, ?_⟩
  have hz : s.rd (R.MAC_TXQ_W1_SIZE p q) ≠ 0 := by rw [hf.size]; have := hf.two; omega
  have hready : readyOf [w] = .frame 1 := by
    simp [readyOf, hf.own, hf.last, List.findIdx_cons, hlen.ne']
  unfold State.queueReady
  rw [he, decide_eq_false hz, hu]
  exact congrArg (·, u) hready

/-- The bytes of the frame: those of its buffer. -/
theorem State.gather_one (hbuf : 0x20500000 ≤ b ∧ b + w % 16384 ≤ 0x20600000) :
    ∃ u : State, s.Moved u ∧ u.mem = s.mem ∧ s.gather p q 0 1 = (s.bytes b (w % 16384), u) := by
  have hlt : w % 16384 < 16384 := Nat.mod_lt _ (by decide)
  have hmax : max 1 z = z := by have := hf.two; omega
  have hwin := hf.win
  obtain ⟨hg, h1, h2⟩ := hwin
  obtain ⟨hx, mx, nx⟩ := State.dmaWord_window (s := s) (m := macMaster p) (a := a) ⟨hg, by omega, by omega⟩
  rw [hf.buf] at hx
  unfold State.gather
  rw [hf.head, hf.size, hmax, Nat.add_zero h, Nat.mod_eq_of_lt hf.inRing, hf.desc]
  dsimp only
  rw [Nat.mod_eq_of_lt (show a + 4 < 2 ^ 32 by omega)]
  generalize s.dmaWord (macMaster p) a = x at hx mx nx ⊢
  obtain ⟨hy, my, ny⟩ := State.dmaWord_window (s := x.2) (m := macMaster p) (a := a + 4) ⟨mx.gated.trans hg, by omega, by omega⟩
  rw [State.load_congr nx, hf.word] at hy
  generalize x.2.dmaWord (macMaster p) (a + 4) = y at hy my ny ⊢
  obtain ⟨hz, mz, nz⟩ := State.dmaRead_window (s := y.2) (m := macMaster p) (a := b) (n := w % 16384) (k := 600)
    ⟨(mx.trans my).gated.trans hg, hbuf⟩ (.inr (by omega))
  rw [State.bytes_congr (ny.trans nx)] at hz
  rw [hx, hy, hz]
  exact ⟨_, (mx.trans my).trans mz, nz.trans (ny.trans nx), congrArg (·, _) (List.append_nil _)⟩

end

/-- A frame of 60 bytes or more without a tag goes as it is (R238). -/
theorem dressed_plain {bs : List Byte} (h : 60 ≤ bs.length) : dressed bs none = bs := by
  unfold dressed
  rw [Nat.sub_eq_zero_of_le h]
  exact List.append_nil bs

theorem State.maxlen_congr (h : t.rd (R.MAC_MAXLEN_MAXLEN p) = s.rd (R.MAC_MAXLEN_MAXLEN p)) : t.maxlen p = s.maxlen p := by rw [State.maxlen, State.maxlen, h]

theorem State.txStamp_congr (h : t.rd (R.TSU_LAT_TX_L_TX p) = s.rd (R.TSU_LAT_TX_L_TX p)) : t.txStamp p c = s.txStamp p c := by
  rw [State.txStamp, State.txStamp, h]

theorem State.rd_passHead (h : g.addr ≠ (R.MAC_TXQ_W3_HEAD p q).addr) : (s.passHead p q n).rd g = s.rd g := State.rd_wr_addr h

theorem State.mem_passHead : (s.passHead p q n).mem = s.mem := State.wr_mem

/-- A port with a frame on its way out. -/
def State.sends (s : State) (p : Nat) (x : TxFrame) : State := s.setMac p { s.mac p with tx := some x }

/-- The frame at the head starts with the bytes of its buffer. -/
theorem State.startFrame_one (hf : s.OneFrame p q h z a w b) (hbuf : 0x20500000 ≤ b ∧ b + w % 16384 ≤ 0x20600000) (htag : bitOf w 28 = false)
    (hone : bitOf w 26 = false) (hlo : 60 ≤ w % 16384) (hhi : w % 16384 + 4 ≤ s.maxlen p) : ∃ u : State, s.Moved u ∧ u.mem = s.mem ∧
      s.startFrame p q 1 c = (u.passHead p q 1).sends p ⟨some q, h, 1, s.bytes b (w % 16384), bitOf w 27, s.load (a + 8) 4 % 256, s.txStamp p c, false⟩ := by
  have hwin := hf.win
  obtain ⟨hg, h1, h2⟩ := hwin
  obtain ⟨hx, mx, nx⟩ := State.dmaWord_window (s := s) (m := macMaster p) (a := a + 4) ⟨hg, by omega, by omega⟩
  rw [hf.word] at hx
  unfold State.startFrame
  rw [hf.head]
  dsimp only
  rw [hf.desc, Nat.mod_eq_of_lt (show a + 4 < 2 ^ 32 by omega), Nat.mod_eq_of_lt (show a + 8 < 2 ^ 32 by omega)]
  generalize s.dmaWord (macMaster p) (a + 4) = x at hx mx nx ⊢
  obtain ⟨hy, my, ny⟩ := State.dmaWord_window (s := x.2) (m := macMaster p) (a := a + 8) ⟨mx.gated.trans hg, by omega, by omega⟩
  rw [State.load_congr nx] at hy
  generalize x.2.dmaWord (macMaster p) (a + 8) = y at hy my ny ⊢
  obtain ⟨u, mu, nu, hgather⟩ := State.gather_one (hf.of_moved (mx.trans my) (ny.trans nx)) hbuf
  rw [State.bytes_congr (ny.trans nx)] at hgather
  have hm : s.Moved u := (mx.trans my).trans mu
  have hhead (g : Fld) (hg : g.addr < 0x4040140C + 65536 * p + 32 * q) (hlt : g.addr < 0x40500000) : (u.passHead p q 1).rd g = s.rd g := by
    rw [State.rd_passHead (by simp only [R.MAC_TXQ_W3_HEAD]; omega), hm.rd (offMatrix_of_lt hlt)]
  have hp := hf.port
  have hmax : (u.passHead p q 1).maxlen p = s.maxlen p :=
    State.maxlen_congr (hhead _ (by simp only [R.MAC_MAXLEN_MAXLEN]; omega) (by simp only [R.MAC_MAXLEN_MAXLEN]; omega))
  have hstamp : (u.passHead p q 1).txStamp p c = s.txStamp p c :=
    State.txStamp_congr (hhead _ (by simp only [R.TSU_LAT_TX_L_TX]; omega) (by simp only [R.TSU_LAT_TX_L_TX]; omega))
  refine ⟨u, hm, nu.trans (ny.trans nx), ?_⟩
  rw [hgather, hx, hy, htag, hone, if_neg Bool.false_ne_true]
  dsimp only
  rw [dressed_plain (by rwa [State.length_bytes]), State.length_bytes, hmax, if_neg (Nat.not_lt.mpr hhi), hstamp, if_neg Bool.false_ne_true, Bool.not_false, Bool.and_true]
  rfl

/-! ### The next frame -/

theorem exec_txFrameStart_up {d : Fin 3} (hg : s.gated (12 + d.val) = false) (ht : (s.mac d.val).tx = none) (hl : s.on (R.MAC_STATUS_LINK d.val) = true)
    (he : s.on (R.MAC_CTRL_TX_EN d.val) = true) (hp : (s.mac d.val).paused ≤ (s.atRaw n).tm.raw) :
    exec (.txFrameStart d c n) s = .next ((s.atRaw n).nextFrame d.val c) := by
  have hmac : (s.atRaw n).mac d.val = s.mac d.val := State.mac_congr State.atRaw_macs
  have ht' : ((s.atRaw n).mac d.val).tx = none := (congrArg MacSt.tx hmac).trans ht
  have hl' : (s.atRaw n).on (R.MAC_STATUS_LINK d.val) = true := State.on_atRaw.trans hl
  have he' : (s.atRaw n).on (R.MAC_CTRL_TX_EN d.val) = true := State.on_atRaw.trans he
  have hp' : (s.atRaw n).isPaused d.val = false := decide_eq_false (by rw [hmac]; exact Nat.not_lt.mpr hp)
  refine congrArg Host.Outcome.next ((ungated (State.gated_atRaw.trans hg)).trans ?_)
  rw [State.dropLost_idle ht']
  dsimp only
  rw [ht', hl', he', hp']
  rfl

theorem State.nextFrame_stream {bs : List Byte} {rest : List (List Byte)} (hq : s.readyQueues p = ([], s)) (hs : (s.mac p).strq = bs :: rest) :
    s.nextFrame p c = s.startStream p bs rest c := by
  unfold State.nextFrame
  rw [hq]
  dsimp only
  rw [hs]

theorem State.nextFrame_queue (hq : s.readyQueues p = ([(q, .frame n)], u)) (hs : (u.mac p).strq = []) : s.nextFrame p c = u.startFrame p q n c := by
  unfold State.nextFrame
  rw [hq]
  dsimp only
  rw [hs]
  rfl

end

/-- Settles O50: the port's rings and buffers are read in the window, so a frame starts and ends as its descriptor says; LINK and MDIO by their words. -/
theorem framesSent : Obligations.FramesSent := by
  unfold Obligations.FramesSent
  refine ⟨fun s m cap n bs rest hg ht hl he hp hen hs => ?_, fun s m cap n hg ht hl hf => ?_, fun s m q cap n hq8 hg hg3 ht hl he hp hs hen => ?_,
    fun s m f hg hx hq hts hlost => ⟨?_, ?_⟩, fun s m f q hg hg3 hx hq hd hts hlost he hlen hroom => ?_, fun s m l hg ht => ?_, fun s m l => State.linkUp_port,
    fun s w hg hb => ?_, fun s d hg hb => ?_⟩
  · have hmac : (s.atRaw n).mac m.val = s.mac m.val := State.mac_congr State.atRaw_macs
    have hno : (s.atRaw n).readyQueues m.val = ([], s.atRaw n) := State.readyQueues_none fun q hq => State.on_atRaw.trans (hen ⟨q, hq⟩)
    refine ⟨_, (exec_txFrameStart_up hg ht hl he hp).trans (congrArg Host.Outcome.next (State.nextFrame_stream hno (by rw [hmac, hs]))), ?_, ?_⟩
    · rw [State.startStream, State.mac_setMac]
    · rw [State.startStream, State.mac_setMac, State.txStamp_congr State.rd_atRaw]
  · have hmac : (s.atRaw n).mac m.val = s.mac m.val := State.mac_congr State.atRaw_macs
    refine ⟨_, exec_txFrameStart_down hg ht hl hf, ?_, ?_, ?_⟩
    · rw [State.flushStreams, State.mac_setMac]
    · rw [State.flushStreams, State.mac_setMac, hmac, ht]
    · rw [State.flushStreams, State.rd_setMac, State.rd_count_word rfl rfl, State.rd_atRaw, hmac]
  · intro z h a w b h2 hz hin htail ha1 ha2 hown hlast htag hone hlo hhi hb1 hb2
    have hf : (s.atRaw n).OneFrame m.val q.val h z a w b := ⟨m.isLt, q.isLt, State.rd_atRaw, State.rd_atRaw, State.rd_atRaw.trans htail, h2, hin,
      State.txDesc_congr State.rd_atRaw, ⟨State.gated_atRaw.trans hg3, ha1, ha2⟩, State.load_congr State.atRaw_mem, State.load_congr State.atRaw_mem, hown, hlast⟩
    have hen' (k : Nat) (hk : k < 8) : (s.atRaw n).on (R.MAC_TXQ_W1_EN m.val k) = decide ((⟨k, hk⟩ : Fin 8) = q) := State.on_atRaw.trans (hen ⟨k, hk⟩)
    obtain ⟨u, mu, nu, hu⟩ := State.queueReady_one hf (by rw [hen' _ q.isLt]; exact decide_eq_true rfl) (by omega)
    have hready : (s.atRaw n).readyQueues m.val = ([(q.val, .frame 1)], u) := by
      have hlt (k : Nat) (hk : k ∈ List.range (txQueues m.val)) : k < 8 := Nat.lt_of_lt_of_le (List.mem_range.mp hk) txQueues_le
      rw [State.readyQueues_eq]
      refine readyStep_alone (List.mem_range.mpr hq8) List.nodup_range (fun k hk hne => ?_) hu (by simp) fun k hk => ?_
      · rw [hen' k (hlt k hk)]
        exact decide_eq_false fun e => hne (congrArg Fin.val e)
      · have hk8 := hlt k hk
        exact mu.on (offMatrix_of_lt (by simp only [R.MAC_TXQ_W1_EN]; omega))
    have hmac : u.mac m.val = s.mac m.val := mu.mac.trans (State.mac_congr State.atRaw_macs)
    have hrd (g : Fld) (hlt : g.addr < 0x40500000) : u.rd g = s.rd g := (mu.rd (offMatrix_of_lt hlt)).trans State.rd_atRaw
    have hmax : u.maxlen m.val = s.maxlen m.val := State.maxlen_congr (hrd _ (by simp only [R.MAC_MAXLEN_MAXLEN]; omega))
    obtain ⟨v, mv, nv, hv⟩ := State.startFrame_one (c := cap) (hf.of_moved mu nu) ⟨hb1, hb2⟩ htag hone hlo (by rw [hmax]; exact hhi)
    rw [State.bytes_congr (nu.trans State.atRaw_mem), State.load_congr (nu.trans State.atRaw_mem),
      State.txStamp_congr (hrd _ (by simp only [R.TSU_LAT_TX_L_TX]; omega))] at hv
    have hvf := (hf.of_moved mu nu).of_moved mv nv
    refine ⟨_, (exec_txFrameStart_up hg ht hl he hp).trans (congrArg Host.Outcome.next ((State.nextFrame_queue hready (by rw [hmac, hs])).trans hv)), ?_, ?_, ?_⟩
    · have hmod : (h + 1) % z < 2 ^ 12 := Nat.lt_of_lt_of_le (Nat.mod_lt _ (by omega)) hz
      rw [State.sends, State.rd_setMac, State.passHead, hvf.head, hvf.size, show max 1 z = z by omega]
      exact State.rd_wr_of_lt (show 0 ≤ 11 by decide) hmod
    · rw [State.sends, State.mem_setMac, State.mem_passHead, nv, nu, State.atRaw_mem]
    · rw [State.sends, State.mac_setMac]
  · obtain ⟨h1, h2, h3, h4, h5⟩ := State.frameLeft_sent (s := s.idled m.val) (p := m.val) hts
    refine ⟨_, (exec_txFrameEnd hg hx hlost).trans (congrArg (fun u => Host.Outcome.next (State.frameLeft u m.val f false)) (State.endFrame_stream hx hq)), ?_, ?_, h3, ?_, h5⟩
    · rw [h1, State.mac_idled]
    · rw [h2, State.mac_idled]
    · rw [h4, State.rd_idled]
  · obtain ⟨h1, h2, h3⟩ := State.frameLeft_underrun (s := s.idled m.val) (p := m.val) (x := f)
    refine ⟨_, (exec_txFrameEnd hg hx hlost).trans (congrArg (fun u => Host.Outcome.next (State.frameLeft u m.val f true)) (State.endFrame_stream hx hq)), ?_, h2, ?_⟩
    · rw [h1, State.mac_idled]
    · rw [h3, State.rd_idled]
  · intro a ha1 ha2
    have hbase : (s.idled m.val).txDesc m.val q.val (f.first % max 1 ((s.idled m.val).rd (R.MAC_TXQ_W1_SIZE m.val q.val))) =
        s.txDesc m.val q.val (f.first % max 1 (s.rd (R.MAC_TXQ_W1_SIZE m.val q.val))) := by
      rw [State.rd_idled]
      exact State.txDesc_congr State.rd_idled
    have hgate : (s.idled m.val).gated 3 = false := hg3
    obtain ⟨hm, hmem⟩ := State.giveTx_one (s := s.idled m.val) (n := f.first) (v := 0) (a := a) (by rw [hbase]) ⟨hgate, ha1, ha2⟩
    have htm : ((s.idled m.val).giveTx m.val q.val f.first 1 0).tm = s.tm := hm.tm
    have hts' : (R.MAC_CNT_TX_OK_VALUE m.val).addr ≠ R.TSU_CTRL_ENABLE.addr := by simp only [R.MAC_CNT_TX_OK_VALUE, R.TSU_CTRL_ENABLE]; omega
    obtain ⟨hleft, hq'⟩ := State.frameLeft_stamped (s := (s.idled m.val).giveTx m.val q.val f.first 1 0) (p := m.val) hts hq
      ((hm.on (.inl (by decide))).trans (State.on_setMac.trans he)) (by rw [htm, hlen]; exact m.isLt) (by rwa [State.txq_congr htm]) hts'
    have hend : s.endFrame m.val 0 = (s.idled m.val).giveTx m.val q.val f.first 1 0 := by rw [State.endFrame_queue hx hq, hd]
    refine ⟨_, (exec_txFrameEnd hg hx hlost).trans (congrArg (fun u => Host.Outcome.next (State.frameLeft u m.val f false)) hend), ?_, ?_⟩
    · have hlt : s.load a 4 % 2 ^ 31 < 2 ^ (8 * 4) := by omega
      rw [State.load_congr (hleft.trans hmem), State.load_store, Nat.or_zero, State.load_congr (s := s) (t := s.idled m.val) State.mem_setMac, Nat.mod_eq_of_lt hlt]
    · rw [hq', State.txq_congr htm]
  · obtain ⟨u, hu, h1, h2, h3⟩ := State.lane_relinked (l := l) ht
    exact ⟨u, (exec_linkChange hg).trans (congrArg Host.Outcome.next hu), h1, h2, h3⟩
  · obtain ⟨h1, h2, h3, h4⟩ := bitsOf_mdioWord (w := w.toNat)
    refine ⟨_, exec_mdioTransfer hg hb, State.on_flag_self (by decide), ?_, ?_, ?_, ?_⟩
    · exact (State.rd_mdio (by decide)).trans h1
    · exact (State.rd_mdio (by decide)).trans h2
    · exact (State.rd_mdio (by decide)).trans h3
    · exact (State.rd_mdio (by decide)).trans h4
  · have hop : (s.wr (R.MAC_MDIO_BUSY 2) 0).rd (R.MAC_MDIO_OP 2) = s.rd (R.MAC_MDIO_OP 2) := State.rd_wr_apart (by decide)
    refine ⟨_, exec_mdioComplete hg hb, ?_, ?_⟩ <;> rw [hop] <;> split
    · rw [State.on_wr_apart (by decide), State.on_wr_zero (by decide)]
    · exact State.on_wr_zero (by decide)
    · exact State.rd_wr_of_lt (by decide) d.isLt
    · exact State.rd_wr_apart (by decide)

end Sys2Proof.Machine
end

section
/-! PROOFS. Frames received (R235–R237, R239–R243). -/

-- One proof at a time: the package as one text then takes less memory.
set_option Elab.async false

namespace Sys2Proof.Machine

open Sys2Proof

section
variable {s t u : State} {f g : Fld} {a b c h i k m n p q r v w z : Nat} {bs : List Byte} {x : RxBad}

/-! ### What every frame counts (R236) -/

/-- A frame is numbered and counted, with what is wrong with it. -/
def State.rxNoted (s : State) (p : Nat) (x : RxBad) (long : Bool) : State :=
  let s := (s.setMac p { s.mac p with seq := ((s.mac p).seq + 1) % 2 ^ 32 }).bump (R.MAC_CNT_RX_ALL_VALUE p)
  let s := (s.when x.fcs (·.bump (R.MAC_CNT_RX_FCS_VALUE p))).when x.runt (·.bump (R.MAC_CNT_RX_RUNT_VALUE p))
  let s := (s.when x.align (·.bump (R.MAC_CNT_RX_ALIGN_VALUE p))).when x.phy (·.bump (R.MAC_CNT_RX_PHYERR_VALUE p))
  s.when long (·.bump (R.MAC_CNT_RX_OVERSIZE_VALUE p))

/-- The registers beside the counts of groups and of errors of a port. -/
@[reducible] def BesideErrors (p b : Nat) : Prop := b < 0x4040022C + 65536 * p ∨ 0x40400240 + 65536 * p < b

/-- The registers beside all that every frame counts. -/
@[reducible] def BesideTally (p b : Nat) : Prop := b ≠ 0x40400200 + 65536 * p ∧ BesideErrors p b

/-- A frame that is numbered, before its errors are counted. -/
def State.numbered (s : State) (p : Nat) : State :=
  (s.setMac p { s.mac p with seq := ((s.mac p).seq + 1) % 2 ^ 32 }).bump (R.MAC_CNT_RX_ALL_VALUE p)

/-- One count of an error. -/
theorem State.SameRegs.errorCounted {c : Bool} (hf : f.addr = 0x40400230 + k + 65536 * p) (hk : k ≤ 16) : s.SameRegs (BesideErrors p) (s.when c (·.bump f)) :=
  .when (.bump (by rw [hf]; unfold BesideErrors; omega))

theorem State.rxNoted_errors {l : Bool} : (s.numbered p).SameRegs (BesideErrors p) (s.rxNoted p x l) :=
  ((((State.SameRegs.errorCounted (k := 0) rfl (by decide)).trans (.errorCounted (k := 4) rfl (by decide))).trans
    (.errorCounted (k := 8) rfl (by decide))).trans (.errorCounted (k := 12) rfl (by decide))).trans (.errorCounted (k := 16) rfl (by decide))

theorem State.SameRegs.rxNoted {l : Bool} : s.SameRegs (BesideTally p) (s.rxNoted p x l) :=
  ((State.SameRegs.setMac).trans (.bump (fun hb => hb.1 rfl))).trans (State.rxNoted_errors.mono fun _ hb => hb.2)

/-- What is beside the registers, the port's state and the counts is as it was. -/
theorem State.rxNoted_good {l : Bool} : Good 1 (s.numbered p) (s.rxNoted p x l) := by
  have hw (u : State) (c : Bool) (f : Fld) : Good 1 u (u.when c (·.bump f)) := Good.when (fun y hy => (State.bump_good y f).step rfl hy) .refl
  exact ((((hw _ _ _).trans (hw _ _ _)).trans (hw _ _ _)).trans (hw _ _ _)).trans (hw _ _ _)

theorem State.mac_rxNoted {l : Bool} : (s.rxNoted p x l).mac p = { s.mac p with seq := ((s.mac p).seq + 1) % 2 ^ 32 } := by
  rw [State.mac_congr (s := s.numbered p) (State.rxNoted_good.same .macs rfl), State.numbered, State.mac_congr State.bump_macs, State.mac_setMac]

theorem State.mem_rxNoted {l : Bool} : (s.rxNoted p x l).mem = s.mem := by
  rw [State.rxNoted_good.same .mem rfl, State.numbered, State.bump_mem, State.mem_setMac]

theorem State.tm_rxNoted {l : Bool} : (s.rxNoted p x l).tm = s.tm := by
  rw [State.rxNoted_good.same .tm rfl, State.numbered, State.bump_tm]
  rfl

theorem State.clk_rxNoted {l : Bool} : (s.rxNoted p x l).clk = s.clk := by
  rw [State.rxNoted_good.same .clk rfl, State.numbered, State.bump_clk]
  rfl

theorem State.rd_rxNoted_all {l : Bool} : (s.rxNoted p x l).rd (R.MAC_CNT_RX_ALL_VALUE p) = min 0xFFFFFFFF (s.rd (R.MAC_CNT_RX_ALL_VALUE p) + 1) := by
  rw [State.rxNoted_errors.rd (.inl (by simp only [R.MAC_CNT_RX_ALL_VALUE]; omega)), State.numbered, State.rd_bump_self ⟨rfl, rfl⟩, State.rd_setMac]

/-! ### Filters (R239, R240) -/

/-- The registers of a port below its counts, and those above. -/
theorem besideTally_of (hk : k ≠ 0x200 ∧ (k < 0x22C ∨ 0x240 < k)) : BesideTally p (0x40400000 + k + 65536 * p) := by
  unfold BesideTally BesideErrors
  omega

theorem State.acceptsAddr_congr (hr : s.SameRegs (BesideTally p) t) : t.acceptsAddr p bs = s.acceptsAddr p bs := by
  have hlow (g : Fld) (k : Nat) (hk : k < 0x200) (hg : g.addr = 0x40400000 + k + 65536 * p) : t.rd g = s.rd g := hr.rd (hg ▸ besideTally_of ⟨by omega, .inl (by omega)⟩)
  have hmc (g : Fld) (k i : Nat) (hk : 0x241 ≤ k) (hg : g.addr = 0x40400000 + k + 65536 * p + 8 * i) : t.rd g = s.rd g :=
    hr.rd (by rw [hg]; unfold BesideTally BesideErrors; omega)
  simp only [State.acceptsAddr, State.on, hlow (R.MAC_ADDR_LO_ADDR p) 12 (by decide) rfl, hlow (R.MAC_ADDR_HI_ADDR p) 16 (by decide) rfl,
    hlow (R.MAC_CTRL_PROMISC p) 0 (by decide) rfl, hlow (R.MAC_CTRL_MC_ALL p) 0 (by decide) rfl, hmc (R.MAC_MC_W1_EN p _) 0x404 _ (by decide) rfl,
    hmc (R.MAC_MC_W0_ADDR_LO p _) 0x400 _ (by decide) rfl, hmc (R.MAC_MC_W1_ADDR_HI p _) 0x404 _ (by decide) rfl]

theorem State.filterMatch_congr (hr : s.SameRegs (BesideTally p) t) : t.filterMatch p i bs = s.filterMatch p i bs := by
  have hf (g : Fld) (k : Nat) (hk : 0x241 ≤ k) (hg : g.addr = 0x40400000 + k + 65536 * p + 16 * i) : t.rd g = s.rd g :=
    hr.rd (by rw [hg]; unfold BesideTally BesideErrors; omega)
  unfold State.filterMatch
  rw [hf (R.MAC_FLT_W0_TAG p i) 0x800 (by decide) rfl, hf (R.MAC_FLT_W0_VID p i) 0x800 (by decide) rfl, State.on_of_rd (hf (R.MAC_FLT_W0_EN p i) 0x800 (by decide) rfl),
    State.on_of_rd (hf (R.MAC_FLT_W1_ETYPE_EN p i) 0x804 (by decide) rfl), hf (R.MAC_FLT_W0_ETYPE p i) 0x800 (by decide) rfl,
    State.on_of_rd (hf (R.MAC_FLT_W1_UDP_EN p i) 0x804 (by decide) rfl), hf (R.MAC_FLT_W1_DPORT p i) 0x804 (by decide) rfl]

theorem State.steer_congr (hr : s.SameRegs (BesideTally p) t) : t.steer p bs = s.steer p bs := by
  have hf (g : Fld) (k i : Nat) (hk : 0x241 ≤ k) (hg : g.addr = 0x40400000 + k + 65536 * p + 16 * i) : t.rd g = s.rd g :=
    hr.rd (by rw [hg]; unfold BesideTally BesideErrors; omega)
  have hlow (g : Fld) (hg : g.addr = 0x40400000 + 0x18 + 65536 * p) : t.rd g = s.rd g := hr.rd (hg ▸ besideTally_of (by decide))
  have hmatch : (fun f => t.filterMatch p f bs) = fun f => s.filterMatch p f bs := funext fun f => State.filterMatch_congr hr
  unfold State.steer
  rw [hmatch]
  cases (List.range 32).find? fun f => s.filterMatch p f bs with
  | none =>
    dsimp only
    rw [State.on_of_rd (hlow (R.MAC_RX_DEFAULT_DROP p) rfl), hlow (R.MAC_RX_DEFAULT_RING p) rfl]
  | some f =>
    dsimp only
    rw [State.on_of_rd (hf (R.MAC_FLT_W0_DROP p f) 0x800 f (by decide) rfl), hf (R.MAC_FLT_W2_RING p f) 0x808 f (by decide) rfl]

/-- A ring of sixteen, and the number of a filter. -/
theorem State.steer_lt (hs : s.steer p bs = some (r, k)) : r < 16 ∧ k < 32 := by
  unfold State.steer at hs
  split at hs
  · next j hj =>
    have hj32 : j < 32 := List.mem_range.mp (List.mem_of_find?_eq_some hj)
    split at hs
    · exact absurd hs (by simp)
    · obtain ⟨rfl, rfl⟩ := Prod.mk.inj (Option.some.inj hs)
      exact ⟨bitsOf_lt, hj32⟩
  · split at hs
    · exact absurd hs (by simp)
    · obtain ⟨rfl, rfl⟩ := Prod.mk.inj (Option.some.inj hs)
      exact ⟨bitsOf_lt, by decide⟩

/-! ### What becomes of a frame -/

/-- A frame for this port, that no filter takes or that a ring takes. -/
def State.delivered (s : State) (p : Nat) (bs : List Byte) (x : RxBad) (long : Bool) (seq ts : Nat) : State :=
  match s.steer p bs with
  | none => s.bump (R.MAC_CNT_RX_FILT_DROP_VALUE p)
  | some (r, f) => s.toRing p r f bs x long seq ts

/-- A frame for this port, after its group is counted. -/
def State.grouped (s : State) (p : Nat) (bs : List Byte) : State := s.when (isGroup bs) (·.bump (R.MAC_CNT_RX_MCAST_VALUE p))

theorem State.SameRegs.grouped {P : Nat → Prop} (h : ¬ P (R.MAC_CNT_RX_MCAST_VALUE p).addr) : s.SameRegs P (s.grouped p bs) := .when (.bump h)

theorem State.SameRegs.groupedTally : s.SameRegs (BesideTally p) (s.grouped p bs) :=
  .grouped fun hb => by simp only [R.MAC_CNT_RX_MCAST_VALUE, BesideTally, BesideErrors] at hb; omega

theorem State.grouped_good : Good 1 s (s.grouped p bs) := Good.when (fun y hy => (State.bump_good y _).step rfl hy) .refl

theorem exec_rxFrame {d : Fin 3} {e : RxErrors} (hen : s.on (R.MAC_CTRL_RX_EN d.val) = true) (hg : s.gated (12 + d.val) = false) :
    exec (.rxFrame d bs e c n) s = .next (
      let y := (s.atRaw n).rxFaults d.val bs e
      let u := (s.atRaw n).rxNoted d.val y (decide ((s.atRaw n).maxlen d.val < bs.length))
      if fieldAt bs 12 2 = some 0x8808 then u.controlFrame d.val bs (RxBad.any y)
      else if !u.acceptsAddr d.val bs then u.bump (R.MAC_CNT_RX_ADDR_DROP_VALUE d.val)
      else (u.grouped d.val bs).delivered d.val bs y (decide ((s.atRaw n).maxlen d.val < bs.length)) ((s.atRaw n).mac d.val).seq
        ((u.grouped d.val bs).rxStamp d.val c)) := by
  refine congrArg Host.Outcome.next (if_neg ?_)
  rw [State.on_atRaw, hen, State.gated_atRaw, hg]
  exact Bool.false_ne_true

/-- A frame in which nothing is wrong (R236). -/
theorem State.rxFaults_sound (h64 : 64 ≤ bs.length) (hfcs : fcsGood bs = true) : s.rxFaults p bs ⟨false, false⟩ = ⟨false, false, false, false⟩ := by
  rw [State.rxFaults, hfcs, decide_eq_false (Nat.not_lt.mpr h64)]
  rfl

/-! ### PAUSE (R235) -/

theorem State.quantum_congr (h : ∀ g : Fld, g.addr = (R.MAC_STATUS_w p).addr ∨ g.addr = (R.MAC_MODE_w p).addr → t.rd g = s.rd g) : t.quantum p = s.quantum p := by
  unfold State.quantum
  rw [h (R.MAC_STATUS_SPEED p) (.inl rfl), h (R.MAC_MODE_MODE p) (.inr rfl)]

/-- A port that is held for some quanta. -/
def State.heldFor (s : State) (p q : Nat) : State :=
  (s.count (R.MAC_CNT_TX_PAUSED_VALUE p) q).setMac p { s.mac p with paused := s.tm.raw + ceilDiv (q * s.quantum p) 10 }

theorem State.controlFrame_eq {l : Bool} (h14 : fieldAt bs 14 2 = some 1) (h16 : fieldAt bs 16 2 = some q) : s.controlFrame p bs l =
    if (s.bump (R.MAC_CNT_RX_PAUSE_VALUE p)).on (R.MAC_CTRL_RX_PAUSE p) && !l then (s.bump (R.MAC_CNT_RX_PAUSE_VALUE p)).heldFor p q
    else s.bump (R.MAC_CNT_RX_PAUSE_VALUE p) := by
  unfold State.controlFrame State.heldFor
  split
  · next j _ h2 =>
    obtain rfl : q = j := Option.some.inj (h16.symm.trans h2)
    rfl
  · next hno => exact absurd h16 (hno q h14)

theorem State.heldFor_spec : ((s.heldFor p q).mac p).paused = s.tm.raw + ceilDiv (q * s.quantum p) 10 ∧
    (s.heldFor p q).rd (R.MAC_CNT_RX_PAUSE_VALUE p) = s.rd (R.MAC_CNT_RX_PAUSE_VALUE p) ∧ (s.heldFor p q).mem = s.mem := by
  have hne : (R.MAC_CNT_RX_PAUSE_VALUE p).addr ≠ (R.MAC_CNT_TX_PAUSED_VALUE p).addr := by simp only [R.MAC_CNT_RX_PAUSE_VALUE, R.MAC_CNT_TX_PAUSED_VALUE]; omega
  unfold State.heldFor
  refine ⟨?_, ?_, ?_⟩
  · rw [State.mac_setMac]
  · rw [State.rd_setMac, State.rd_count_addr hne]
  · rw [State.mem_setMac, State.count_mem]

/-- PAUSE holds the port for its quanta. -/
theorem State.controlFrame_pause (h14 : fieldAt bs 14 2 = some 1) (h16 : fieldAt bs 16 2 = some q) (hon : s.on (R.MAC_CTRL_RX_PAUSE p) = true) :
    ((s.controlFrame p bs false).mac p).paused = s.tm.raw + ceilDiv (q * s.quantum p) 10 ∧
    (s.controlFrame p bs false).rd (R.MAC_CNT_RX_PAUSE_VALUE p) = min 0xFFFFFFFF (s.rd (R.MAC_CNT_RX_PAUSE_VALUE p) + 1) ∧ (s.controlFrame p bs false).mem = s.mem := by
  have hlow (g : Fld) (k : Nat) (hk : k < 0x200) (hg : g.addr = 0x40400000 + k + 65536 * p) : (s.bump (R.MAC_CNT_RX_PAUSE_VALUE p)).rd g = s.rd g :=
    State.rd_bump_addr (by simp only [hg, R.MAC_CNT_RX_PAUSE_VALUE]; omega)
  have hquant : (s.bump (R.MAC_CNT_RX_PAUSE_VALUE p)).quantum p = s.quantum p :=
    State.quantum_congr fun g hg => hg.elim (hlow g 8 (by decide)) (hlow g 4 (by decide))
  obtain ⟨h1, h2, h3⟩ := State.heldFor_spec (s := s.bump (R.MAC_CNT_RX_PAUSE_VALUE p)) (p := p) (q := q)
  rw [State.controlFrame_eq h14 h16, State.on_of_rd (hlow (R.MAC_CTRL_RX_PAUSE p) 0 (by decide) rfl), hon, Bool.not_false, Bool.and_true, if_pos rfl]
  refine ⟨?_, ?_, ?_⟩
  · rw [h1, hquant, State.bump_tm]
  · rw [h2, State.rd_bump_self ⟨rfl, rfl⟩]
  · rw [h3, State.bump_mem]

/-! ### A ring that is off (R243) -/

/-- A sound frame for a ring that is off finds no buffer. -/
theorem State.toRing_off {l : Bool} (hx : RxBad.any x = false) (hoff : s.on (R.MAC_RING_W1_EN p r) = false) :
    (s.toRing p r k bs x l v w).rd (R.MAC_CNT_RX_NOBUF_VALUE p) = min 0xFFFFFFFF (s.rd (R.MAC_CNT_RX_NOBUF_VALUE p) + 1) ∧ (s.toRing p r k bs x l v w).mem = s.mem := by
  have hne : (R.MAC_CNT_RX_NOBUF_VALUE p).addr ≠ (R.MAC_RING_W5_NOBUF p r).addr := by simp only [R.MAC_CNT_RX_NOBUF_VALUE, R.MAC_RING_W5_NOBUF]; omega
  have hne' : (R.MAC_CNT_RX_NOBUF_VALUE p).addr ≠ (R.MAC_CNT_RX_DISCARD_DESC_VALUE p).addr := by
    simp only [R.MAC_CNT_RX_NOBUF_VALUE, R.MAC_CNT_RX_DISCARD_DESC_VALUE]
    omega
  unfold State.toRing
  dsimp only
  rw [hx, hoff, Bool.false_and, if_neg Bool.false_ne_true, Bool.not_false, if_pos rfl]
  unfold State.giveDiscarded
  rw [List.foldl_nil]
  refine ⟨?_, ?_⟩
  · rw [State.rd_bump_addr hne, State.rd_bump_self ⟨rfl, rfl⟩, State.rd_count_addr hne']
  · rw [State.bump_mem, State.bump_mem, State.count_mem]

/-! ### A frame in one buffer (R241, R242) -/

theorem State.bufBytes_congr (h : t.rd (R.MAC_RING_W2_BUF_SIZE p r) = s.rd (R.MAC_RING_W2_BUF_SIZE p r)) : t.bufBytes p r = s.bufBytes p r := by
  rw [State.bufBytes, State.bufBytes, h]

/-- What holds of a ring whose next descriptor is available: its place and its buffer. -/
structure State.OneBuffer (s : State) (p r h z a b : Nat) : Prop where
  port : p < 3
  ring : r < 16
  head : s.rd (R.MAC_RING_W3_HEAD p r) = h
  size : s.rd (R.MAC_RING_W1_SIZE p r) = z
  inRing : h < z
  desc : s.rxDesc p r h = a
  win : s.Window a 32
  buf : s.load a 4 = b
  own : bitOf (s.load (a + 4) 4) 31 = true

theorem State.OneBuffer.pos (hf : s.OneBuffer p r h z a b) : z ≠ 0 := by
  have := hf.inRing
  omega

/-- The buffer takes the whole frame, and HEAD moves past its descriptor. -/
theorem State.fillBufs_one (hf : s.OneBuffer p r h z a b) (hlen : bs.length ≤ s.bufBytes p r) (hb1 : 0x20500000 ≤ b) (hb2 : b + bs.length ≤ 0x20600000) :
    ∃ u : State, s.Moved u ∧ u.mem = (s.setBytes b bs).mem ∧
      s.fillBufs p r bs [] (k + 1) = (u.wr (R.MAC_RING_W3_HEAD p r) ((h + 1) % z), [(a, bs.length)], true) := by
  have hbuf : s.bufBytes p r ≤ 16320 := by
    have hlt : s.rd (R.MAC_RING_W2_BUF_SIZE p r) < 2 ^ 8 := bitsOf_lt
    unfold State.bufBytes
    omega
  obtain ⟨hp, hr, hhead, hsize, hin, hdesc, hwin, hbase, hown⟩ := hf
  obtain ⟨hg, h1, h2⟩ := hwin
  obtain ⟨hx, mx, nx⟩ := State.dmaWord_window (s := s) (m := macMaster p) (a := a) ⟨hg, by omega, by omega⟩
  rw [hbase] at hx
  unfold State.fillBufs
  dsimp only
  rw [hhead, hsize, if_neg (show ¬ z = 0 by omega), hdesc, Nat.mod_eq_of_lt (show a + 4 < 2 ^ 32 by omega)]
  generalize s.dmaWord (macMaster p) a = x at hx mx nx ⊢
  obtain ⟨hy, my, ny⟩ := State.dmaWord_window (s := x.2) (m := macMaster p) (a := a + 4) ⟨mx.gated.trans hg, by omega, by omega⟩
  rw [State.load_congr nx] at hy
  generalize x.2.dmaWord (macMaster p) (a + 4) = y at hy my ny ⊢
  have hsz : y.2.bufBytes p r = s.bufBytes p r :=
    State.bufBytes_congr ((mx.trans my).rd (offMatrix_of_lt (by simp only [R.MAC_RING_W2_BUF_SIZE]; omega)))
  obtain ⟨mz, nz⟩ := State.dmaWrite_window (s := y.2) (m := macMaster p) (a := b) (vs := bs) (k := 600) ⟨(mx.trans my).gated.trans hg, hb1, hb2⟩ (.inr (by omega))
  rw [hy, hown, Bool.not_true, if_neg Bool.false_ne_true, hx, hsz, List.take_of_length_le hlen, if_pos hlen, List.nil_append]
  exact ⟨_, (mx.trans my).trans mz, nz.trans (State.setBytes_mem (ny.trans nx)), rfl⟩

theorem State.delivered_none {l : Bool} (h : s.steer p bs = none) : s.delivered p bs x l v w = s.bump (R.MAC_CNT_RX_FILT_DROP_VALUE p) := by
  rw [State.delivered, h]

theorem State.delivered_some {l : Bool} (h : s.steer p bs = some (r, k)) : s.delivered p bs x l v w = s.toRing p r k bs x l v w := by
  rw [State.delivered, h]

theorem State.rxStamp_congr (h : t.rd (R.TSU_LAT_RX_L_RX p) = s.rd (R.TSU_LAT_RX_L_RX p)) : t.rxStamp p c = s.rxStamp p c := by
  rw [State.rxStamp, State.rxStamp, h]

theorem State.rxStamp_lt : s.rxStamp p c < 2 ^ 64 := by
  have h : rheDiv ((2 * c : Nat) - (s.rd (R.TSU_LAT_RX_L_RX p) : Int)) 32 % (2 ^ 64 : Nat) < (2 ^ 64 : Nat) := Int.emod_lt_of_pos _ (by decide)
  show Int.toNat _ < _
  omega

end
end Sys2Proof.Machine
end

section
/-! PROOFS. A frame in its buffer: the descriptor that returns, and what the port counts (R237, R241–R243). -/

-- One proof at a time: the package as one text then takes less memory.
set_option Elab.async false

namespace Sys2Proof.Machine

open Sys2Proof

section
variable {s t u : State} {f g : Fld} {a b c h i k m n p q r v w z : Nat} {bs : List Byte} {x : RxBad} {ts : Option Nat}

/-! ### A descriptor that returns (R242) -/

/-- Its time-stamp, if it has one. -/
def State.stamped (s : State) (a : Nat) : Option Nat → State
  | some t => s.store (a + 16) 8 t
  | none => s

/-- The memory of a descriptor that has returned. -/
def State.returned (s : State) (a w1 w2 seq : Nat) (ts : Option Nat) : State := (((s.store (a + 8) 4 w2).store (a + 12) 4 seq).stamped a ts).store (a + 4) 4 w1

theorem State.byte_stamped (h : i < a ∨ a + 32 ≤ i) : (s.stamped a ts).byte i = s.byte i := by
  cases ts with
  | none => rfl
  | some t => exact State.byte_store_outside (by omega)

theorem State.byte_returned (h : i < a ∨ a + 32 ≤ i) : (s.returned a v w n ts).byte i = s.byte i := by
  rw [State.returned, State.byte_store_outside (by omega), State.byte_stamped h, State.byte_store_outside (by omega), State.byte_store_outside (by omega)]

theorem State.load_stamped (h : i + n ≤ a + 16) : (s.stamped a ts).load i n = s.load i n := by
  cases ts with
  | none => rfl
  | some t => exact State.load_store_outside (.inl h)

/-- What a descriptor that has returned reads as. -/
theorem State.load_returned : (s.returned a v w n ts).load (a + 4) 4 = v % 2 ^ 32 ∧ (s.returned a v w n ts).load (a + 8) 4 = w % 2 ^ 32 ∧
    (∀ t, ts = some t → (s.returned a v w n ts).load (a + 16) 8 = t % 2 ^ 64) := by
  refine ⟨State.load_store, ?_, fun t ht => ?_⟩
  · rw [State.returned, State.load_store_outside (by omega), State.load_stamped (by omega), State.load_store_outside (by omega), State.load_store]
  · subst ht
    rw [State.returned, State.load_store_outside (by omega), State.stamped, State.load_store]

/-- Its time-stamp as the port writes it. -/
def State.stampPut (s : State) (m a : Nat) : Option Nat → State
  | some t => s.dmaWrite m ((a + 16) % 2 ^ 32) (leBytes 8 t) 2
  | none => s

theorem State.stampPut_window (h : s.Window a 32) : s.Moved (s.stampPut m a ts) ∧ (s.stampPut m a ts).mem = (s.stamped a ts).mem := by
  obtain ⟨hg, h1, h2⟩ := h
  cases ts with
  | none => exact ⟨.refl, rfl⟩
  | some t =>
    rw [State.stampPut, Nat.mod_eq_of_lt (show a + 16 < 2 ^ 32 by omega)]
    exact State.dmaWrite_leBytes ⟨hg, by omega, by omega⟩ (by decide)

theorem State.giveBack_eq : s.giveBack p a v w n ts = (((s.dmaPut (macMaster p) ((a + 8) % 2 ^ 32) w).dmaPut (macMaster p) ((a + 12) % 2 ^ 32) n).stampPut
    (macMaster p) a ts).dmaPut (macMaster p) ((a + 4) % 2 ^ 32) v := by
  cases ts <;> rfl

theorem State.stamped_mem (h : t.mem = s.mem) : (t.stamped a ts).mem = (s.stamped a ts).mem := by
  cases ts with
  | none => exact h
  | some v => exact State.store_mem h

theorem State.returned_mem (h : t.mem = s.mem) : (t.returned a v w n ts).mem = (s.returned a v w n ts).mem :=
  State.store_mem (State.stamped_mem (State.store_mem (State.store_mem h)))

theorem State.giveBack_window (hw : s.Window a 32) : s.Moved (s.giveBack p a v w n ts) ∧ (s.giveBack p a v w n ts).mem = (s.returned a v w n ts).mem := by
  obtain ⟨hg, h1, h2⟩ := hw
  rw [State.giveBack_eq, Nat.mod_eq_of_lt (show a + 8 < 2 ^ 32 by omega), Nat.mod_eq_of_lt (show a + 12 < 2 ^ 32 by omega),
    Nat.mod_eq_of_lt (show a + 4 < 2 ^ 32 by omega)]
  obtain ⟨mx, nx⟩ := State.dmaPut_window (s := s) (m := macMaster p) (a := a + 8) (v := w) ⟨hg, by omega, by omega⟩
  generalize s.dmaPut (macMaster p) (a + 8) w = x at mx nx ⊢
  obtain ⟨my, ny⟩ := State.dmaPut_window (s := x) (m := macMaster p) (a := a + 12) (v := n) ⟨mx.gated.trans hg, by omega, by omega⟩
  generalize x.dmaPut (macMaster p) (a + 12) n = y at my ny ⊢
  have hy := mx.trans my
  obtain ⟨mz, nz⟩ := State.stampPut_window (s := y) (m := macMaster p) (ts := ts) ⟨hy.gated.trans hg, h1, h2⟩
  generalize y.stampPut (macMaster p) a ts = e at mz nz ⊢
  have he := hy.trans mz
  obtain ⟨mw, nw⟩ := State.dmaPut_window (s := e) (m := macMaster p) (a := a + 4) (v := v) ⟨he.gated.trans hg, by omega, by omega⟩
  exact ⟨he.trans mw, nw.trans (State.store_mem (nz.trans (State.stamped_mem (ny.trans (State.store_mem nx)))))⟩

theorem State.giveFrame_one {y : RxInfo} : s.giveFrame p [(a, n)] k y =
    s.giveBack p a (2 ^ 30 + 2 ^ 29 + y.flags + n) (y.tci * 65536 + k) y.seq (if s.on R.TSU_CTRL_ENABLE then some y.ts else none) := by
  simp [State.giveFrame, b2n]

/-- A frame stored beside its descriptor, as it reads. -/
theorem State.stored_reads (ht : t.mem = ((s.setBytes b bs).returned a v bs.length n ts).mem) (hdis : b + bs.length ≤ a ∨ a + 32 ≤ b) (hv : v < 2 ^ 32)
    (hb : bs.length < 2 ^ 32) : t.bytes b bs.length = bs ∧ t.load (a + 4) 4 = v ∧ t.load (a + 8) 4 = bs.length ∧
      (∀ c, ts = some c → t.load (a + 16) 8 = c % 2 ^ 64) ∧ ∀ i, (i < a ∨ a + 32 ≤ i) → (i < b ∨ b + bs.length ≤ i) → t.byte i = s.byte i := by
  obtain ⟨h1, h2, h3⟩ := State.load_returned (s := s.setBytes b bs) (a := a) (v := v) (w := bs.length) (n := n) (ts := ts)
  refine ⟨?_, ?_, ?_, fun c hc => ?_, fun i hia hib => ?_⟩
  · rw [State.bytes_congr ht, State.bytes_eq (s := s.setBytes b bs) fun i _ _ => State.byte_returned (by omega), State.bytes_setBytes]
  · rw [State.load_congr ht, h1, Nat.mod_eq_of_lt hv]
  · rw [State.load_congr ht, h2, Nat.mod_eq_of_lt hb]
  · rw [State.load_congr ht, h3 c hc]
  · rw [State.byte_congr ht, State.byte_returned hia, State.byte_setBytes_outside hib]

/-! ### The frame delivered -/

/-- What a port counts of a frame that it delivered whole. -/
def State.frameReceived (s : State) (p r len : Nat) : State :=
  let s := s.bump (R.MAC_RING_W4_FRAMES p r)
  (s.bump (R.MAC_CNT_RX_OK_VALUE p)).setMac p { s.mac p with rxOct := (s.mac p).rxOct + len }

theorem State.mem_frameReceived : (s.frameReceived p r n).mem = s.mem := by
  unfold State.frameReceived
  rw [State.mem_setMac, State.bump_mem, State.bump_mem]

theorem State.rd_frameReceived (h1 : g.addr ≠ (R.MAC_RING_W4_FRAMES p r).addr) (h2 : g.addr ≠ (R.MAC_CNT_RX_OK_VALUE p).addr) :
    (s.frameReceived p r n).rd g = s.rd g := by
  unfold State.frameReceived
  rw [State.rd_setMac, State.rd_bump_addr h2, State.rd_bump_addr h1]

theorem State.frameReceived_ok : (s.frameReceived p r n).rd (R.MAC_CNT_RX_OK_VALUE p) = min 0xFFFFFFFF (s.rd (R.MAC_CNT_RX_OK_VALUE p) + 1) := by
  have hne : (R.MAC_CNT_RX_OK_VALUE p).addr ≠ (R.MAC_RING_W4_FRAMES p r).addr := by simp only [R.MAC_CNT_RX_OK_VALUE, R.MAC_RING_W4_FRAMES]; omega
  unfold State.frameReceived
  rw [State.rd_setMac, State.rd_bump_self ⟨rfl, rfl⟩, State.rd_bump_addr hne]

theorem State.toRing_whole (hx : x = ⟨false, false, false, false⟩) (hen : s.on (R.MAC_RING_W1_EN p r) = true) (hstrip : s.on (R.MAC_CTRL_STRIP_FCS p) = false)
    (hvlan : s.on (R.MAC_RING_W1_STRIP_VLAN p r) = false) (hmax : bs.length ≤ s.maxlen p)
    (hgot : s.fillBufs p r bs [] (bs.length / 128 + 1) = (u, [(a, bs.length)], true)) :
    s.toRing p r k bs x false v w = (u.giveBack p a (2 ^ 30 + 2 ^ 29 + (b2n (isGroup bs) * 2 ^ 21 + k * 2 ^ 16) + bs.length) bs.length v
      (if u.on R.TSU_CTRL_ENABLE then some w else none)).frameReceived p r bs.length := by
  subst hx
  have hany : RxBad.any ⟨false, false, false, false⟩ = false := rfl
  have hflags : b2n false = 0 := rfl
  unfold State.toRing
  simp only [hany, hen, hstrip, hvlan, Bool.false_and, Bool.and_false, Bool.not_true, Bool.not_false, Bool.false_eq_true, if_false,
    List.take_of_length_le hmax, hgot, hflags, Nat.zero_mul, Nat.zero_add, State.giveFrame_one, State.when,
    State.frameReceived]

/-- A frame stored: its bytes in the buffer, its descriptor returned with what it says of the frame, HEAD and the count. -/
theorem State.toRing_stored (hf : s.OneBuffer p r h z a b) (hz : z ≤ 4096) (hen : s.on (R.MAC_RING_W1_EN p r) = true) (hstrip : s.on (R.MAC_CTRL_STRIP_FCS p) = false)
    (hvlan : s.on (R.MAC_RING_W1_STRIP_VLAN p r) = false) (hmax : bs.length ≤ s.maxlen p) (hlen : bs.length ≤ s.bufBytes p r) (hb1 : 0x20500000 ≤ b)
    (hb2 : b + bs.length ≤ 0x20600000) :
    ∃ t : State, s.toRing p r k bs ⟨false, false, false, false⟩ false v w = t ∧
      t.mem = ((s.setBytes b bs).returned a (2 ^ 30 + 2 ^ 29 + (b2n (isGroup bs) * 2 ^ 21 + k * 2 ^ 16) + bs.length) bs.length v
        (if s.on R.TSU_CTRL_ENABLE then some w else none)).mem ∧
      t.rd (R.MAC_RING_W3_HEAD p r) = (h + 1) % z ∧ t.rd (R.MAC_CNT_RX_OK_VALUE p) = min 0xFFFFFFFF (s.rd (R.MAC_CNT_RX_OK_VALUE p) + 1) := by
  obtain ⟨u, mu, nu, hgot⟩ := State.fillBufs_one (k := bs.length / 128) hf hlen hb1 hb2
  have hp := hf.port
  have hr := hf.ring
  have hmod : (h + 1) % z < 2 ^ 12 := Nat.lt_of_lt_of_le (Nat.mod_lt _ (by have := hf.inRing; omega)) hz
  have hgate : (u.wr (R.MAC_RING_W3_HEAD p r) ((h + 1) % z)).gated 3 = false := by
    have hne : R.CLK_GATE_NOW_VALUE.addr ≠ (R.MAC_RING_W3_HEAD p r).addr := by simp only [R.CLK_GATE_NOW_VALUE, R.MAC_RING_W3_HEAD]; omega
    rw [State.gated_congr (State.rd_wr_addr hne) State.wr_clk, mu.gated]
    exact hf.win.1
  have hen' : (u.wr (R.MAC_RING_W3_HEAD p r) ((h + 1) % z)).on R.TSU_CTRL_ENABLE = s.on R.TSU_CTRL_ENABLE := by
    have hne : R.TSU_CTRL_ENABLE.addr ≠ (R.MAC_RING_W3_HEAD p r).addr := by simp only [R.TSU_CTRL_ENABLE, R.MAC_RING_W3_HEAD]; omega
    rw [State.on_of_rd (State.rd_wr_addr hne), mu.on (.inl (by decide))]
  obtain ⟨mb, nb⟩ := State.giveBack_window (s := u.wr (R.MAC_RING_W3_HEAD p r) ((h + 1) % z)) (p := p) (a := a)
    (v := 2 ^ 30 + 2 ^ 29 + (b2n (isGroup bs) * 2 ^ 21 + k * 2 ^ 16) + bs.length) (w := bs.length) (n := v) (ts := if s.on R.TSU_CTRL_ENABLE then some w else none) ⟨hgate, hf.win.2⟩
  refine ⟨_, State.toRing_whole rfl hen hstrip hvlan hmax hgot, ?_, ?_, ?_⟩
  · rw [hen', State.mem_frameReceived, nb]
    exact State.returned_mem (State.wr_mem.trans nu)
  · rw [hen', State.rd_frameReceived (by simp only [R.MAC_RING_W3_HEAD, R.MAC_RING_W4_FRAMES]; omega) (by simp only [R.MAC_RING_W3_HEAD, R.MAC_CNT_RX_OK_VALUE]; omega),
      mb.rd (offMatrix_of_lt (by simp only [R.MAC_RING_W3_HEAD]; omega))]
    exact State.rd_wr_of_lt (show 0 ≤ 11 by decide) hmod
  · have hne : (R.MAC_CNT_RX_OK_VALUE p).addr ≠ (R.MAC_RING_W3_HEAD p r).addr := by simp only [R.MAC_CNT_RX_OK_VALUE, R.MAC_RING_W3_HEAD]; omega
    have hoff : OffMatrix (R.MAC_CNT_RX_OK_VALUE p).addr := offMatrix_of_lt (by simp only [R.MAC_CNT_RX_OK_VALUE]; omega)
    rw [hen', State.frameReceived_ok, mb.rd hoff, State.rd_wr_addr hne, mu.rd hoff]

/-- The registers of a ring, and those of the port below its counts, in a state that has counted a frame. -/
theorem State.SameRegs.rd_ring (hu : s.SameRegs (BesideTally p) t) (hk : 0x240 < k) (hg : g.addr = 0x40400000 + k + 65536 * p + 32 * r) : t.rd g = s.rd g :=
  hu.rd (by rw [hg]; unfold BesideTally BesideErrors; omega)

theorem State.SameRegs.rd_port (hu : s.SameRegs (BesideTally p) t) (hk : k < 0x200) (hg : g.addr = 0x40400000 + k + 65536 * p) : t.rd g = s.rd g :=
  hu.rd (hg ▸ besideTally_of ⟨by omega, .inl (by omega)⟩)

/-- The counts leave the ring's next descriptor available. -/
theorem State.OneBuffer.of_counted (hf : s.OneBuffer p r h z a b) (hu : s.SameRegs (BesideTally p) t) (hmem : t.mem = s.mem) (hclk : t.clk = s.clk) :
    t.OneBuffer p r h z a b := by
  have hp := hf.port
  have hgate : t.gated 3 = s.gated 3 :=
    State.gated_congr (hu.rd (by simp only [R.CLK_GATE_NOW_VALUE]; unfold BesideTally BesideErrors; omega)) hclk
  exact ⟨hp, hf.ring, (hu.rd_ring (k := 0x100C) (by decide) rfl).trans hf.head, (hu.rd_ring (k := 0x1004) (by decide) rfl).trans hf.size, hf.inRing,
    (State.rxDesc_congr (hu.rd_ring (k := 0x1000) (by decide) rfl)).trans hf.desc, ⟨hgate.trans hf.win.1, hf.win.2⟩, (State.load_congr hmem).trans hf.buf,
    (congrArg (bitOf · 31) (State.load_congr hmem)).trans hf.own⟩

/-! ### The event -/

/-- A frame for another address (R239). -/
theorem exec_rxFrame_foreign {d : Fin 3} {e : RxErrors} (hen : s.on (R.MAC_CTRL_RX_EN d.val) = true) (hg : s.gated (12 + d.val) = false)
    (hctl : fieldAt bs 12 2 ≠ some 0x8808) (hacc : s.acceptsAddr d.val bs = false) : exec (.rxFrame d bs e c n) s =
      .next (((s.atRaw n).rxNoted d.val ((s.atRaw n).rxFaults d.val bs e) (decide ((s.atRaw n).maxlen d.val < bs.length))).bump
        (R.MAC_CNT_RX_ADDR_DROP_VALUE d.val)) := by
  rw [exec_rxFrame hen hg]
  dsimp only
  rw [if_neg hctl, State.acceptsAddr_congr .rxNoted, State.acceptsAddr_congr (s := s) (t := s.atRaw n) (.of_eq rfl rfl), hacc]
  exact congrArg Host.Outcome.next (if_pos rfl)

/-- A frame for this port goes to its filters, on a state that has counted it. -/
theorem exec_rxFrame_own {d : Fin 3} {e : RxErrors} (hen : s.on (R.MAC_CTRL_RX_EN d.val) = true) (hg : s.gated (12 + d.val) = false)
    (hctl : fieldAt bs 12 2 ≠ some 0x8808) (hacc : s.acceptsAddr d.val bs = true) : ∃ u : State, s.SameRegs (BesideTally d.val) u ∧ u.mem = s.mem ∧ u.clk = s.clk ∧
      exec (.rxFrame d bs e c n) s = .next (u.delivered d.val bs ((s.atRaw n).rxFaults d.val bs e) (decide (s.maxlen d.val < bs.length)) (s.mac d.val).seq
        (u.rxStamp d.val c)) := by
  have hmax : (s.atRaw n).maxlen d.val = s.maxlen d.val := State.maxlen_congr State.rd_atRaw
  rw [exec_rxFrame hen hg]
  dsimp only
  rw [if_neg hctl, State.acceptsAddr_congr .rxNoted, State.acceptsAddr_congr (s := s) (t := s.atRaw n) (.of_eq rfl rfl), hacc, hmax, State.mac_congr State.atRaw_macs]
  have hraw : s.SameRegs (BesideTally d.val) (s.atRaw n) := .of_eq rfl rfl
  refine ⟨((s.atRaw n).rxNoted d.val ((s.atRaw n).rxFaults d.val bs e) (decide (s.maxlen d.val < bs.length))).grouped d.val bs,
    hraw.trans (State.SameRegs.rxNoted.trans .groupedTally), ?_, ?_, congrArg Host.Outcome.next (if_neg (by decide))⟩
  · rw [State.grouped_good.same .mem rfl, State.mem_rxNoted, State.atRaw_mem]
  · rw [State.grouped_good.same .clk rfl, State.clk_rxNoted, State.atRaw_clk]

end

/-- Settles O49: what a frame counts, where the filters send it, and the one buffer that takes it, each by its lemma. -/
theorem framesReceived : Obligations.FramesReceived := by
  unfold Obligations.FramesReceived
  refine ⟨fun s m bs e cap n hen hg hctl => ⟨fun hacc => ?_, fun hacc hst => ?_⟩, fun s m bs cap n q hen hg h64 hfcs h12 h14 h16 hon => ?_,
    fun s m bs cap n r f hen hg h64 hfcs hctl hacc hst hoff => ?_,
    fun s m bs cap n r f hen hg hg3 h64 hfcs hmax hlen hctl hacc hst hring hstrip hvlan hin hz => ?_, fun s m n hg => ⟨fun hp => ?_, fun hp => ?_⟩⟩
  · refine ⟨_, exec_rxFrame_foreign hen hg hctl hacc, ?_, ?_, ?_, ?_⟩
    · rw [State.mac_congr State.bump_macs, State.mac_rxNoted, State.mac_congr State.atRaw_macs]
    · rw [State.rd_bump_addr (by simp only [R.MAC_CNT_RX_ALL_VALUE, R.MAC_CNT_RX_ADDR_DROP_VALUE]; omega), State.rd_rxNoted_all, State.rd_atRaw]
    · rw [State.rd_bump_self ⟨rfl, rfl⟩, State.SameRegs.rxNoted.rd (besideTally_of (k := 0x218) (by decide)), State.rd_atRaw]
    · rw [State.bump_mem, State.mem_rxNoted, State.atRaw_mem]
  · obtain ⟨u, hu, hmem, -, hx⟩ := exec_rxFrame_own (c := cap) (n := n) (e := e) hen hg hctl hacc
    refine ⟨_, hx.trans (congrArg Host.Outcome.next (State.delivered_none ((State.steer_congr hu).trans hst))), ?_, ?_⟩
    · rw [State.rd_bump_self ⟨rfl, rfl⟩, hu.rd (besideTally_of (k := 0x21C) (by decide))]
    · rw [State.bump_mem, hmem]
  · have hnone : RxBad.any ((s.atRaw n).rxFaults m.val bs ⟨false, false⟩) = false := by rw [State.rxFaults_sound h64 hfcs]; rfl
    have hlow (l : Bool) (g : Fld) (k : Nat) (hk : k < 0x200) (hg : g.addr = 0x40400000 + k + 65536 * m.val) :
        ((s.atRaw n).rxNoted m.val ((s.atRaw n).rxFaults m.val bs ⟨false, false⟩) l).rd g = s.rd g :=
      (State.SameRegs.rxNoted.rd (hg ▸ besideTally_of ⟨by omega, .inl (by omega)⟩)).trans State.rd_atRaw
    have hquant (l : Bool) : ((s.atRaw n).rxNoted m.val ((s.atRaw n).rxFaults m.val bs ⟨false, false⟩) l).quantum m.val = s.quantum m.val :=
      State.quantum_congr fun g hg => hg.elim (hlow l g 8 (by decide)) (hlow l g 4 (by decide))
    obtain ⟨h1, h2, h3⟩ := State.controlFrame_pause (s := (s.atRaw n).rxNoted m.val ((s.atRaw n).rxFaults m.val bs ⟨false, false⟩)
      (decide ((s.atRaw n).maxlen m.val < bs.length))) h14 h16 ((State.on_of_rd (hlow _ (R.MAC_CTRL_RX_PAUSE m.val) 0 (by decide) rfl)).trans hon)
    refine ⟨_, (exec_rxFrame hen hg).trans (congrArg Host.Outcome.next ((if_pos h12).trans (by rw [hnone]))), ?_, ?_, ?_⟩
    · rw [h1, hquant, State.tm_rxNoted]
    · rw [h2, State.SameRegs.rxNoted.rd (besideTally_of (k := 0x228) (by decide)), State.rd_atRaw]
    · rw [h3, State.mem_rxNoted, State.atRaw_mem]
  · obtain ⟨u, hu, hmem, -, hx⟩ := exec_rxFrame_own (c := cap) (n := n) (e := ⟨false, false⟩) hen hg hctl hacc
    have hoff' : u.on (R.MAC_RING_W1_EN m.val r) = false := by
      rw [hu.on (by simp only [R.MAC_RING_W1_EN]; unfold BesideTally BesideErrors; omega), hoff]
    rw [State.rxFaults_sound h64 hfcs] at hx
    obtain ⟨h1, h2⟩ := State.toRing_off (s := u) (p := m.val) (r := r) (k := f) (bs := bs) (x := ⟨false, false, false, false⟩)
      (v := (s.mac m.val).seq) (w := u.rxStamp m.val cap) (l := decide (s.maxlen m.val < bs.length)) rfl hoff'
    refine ⟨_, hx.trans (congrArg Host.Outcome.next (State.delivered_some ((State.steer_congr hu).trans hst))), ?_, h2.trans hmem⟩
    rw [h1, hu.rd (besideTally_of (k := 0x220) (by decide))]
  · intro a b ha1 ha2 hb1 hb2 hdis hown
    obtain ⟨hr, hf⟩ := State.steer_lt hst
    obtain ⟨u, hu, hmem, hclk, hx⟩ := exec_rxFrame_own (c := cap) (n := n) (e := ⟨false, false⟩) hen hg hctl hacc
    rw [State.rxFaults_sound h64 hfcs, decide_eq_false (Nat.not_lt.mpr hmax)] at hx
    have hts : u.on R.TSU_CTRL_ENABLE = s.on R.TSU_CTRL_ENABLE := hu.on (by simp only [R.TSU_CTRL_ENABLE]; unfold BesideTally BesideErrors; omega)
    have hstamp : u.rxStamp m.val cap = s.rxStamp m.val cap :=
      State.rxStamp_congr (hu.rd (by simp only [R.TSU_LAT_RX_L_RX]; unfold BesideTally BesideErrors; omega))
    have hone : s.OneBuffer m.val r (s.rd (R.MAC_RING_W3_HEAD m.val r)) (s.rd (R.MAC_RING_W1_SIZE m.val r)) a b :=
      ⟨m.isLt, hr, rfl, rfl, hin, rfl, ⟨hg3, ha1, ha2⟩, rfl, hown⟩
    obtain ⟨t, ht, htmem, hhead, hok⟩ := State.toRing_stored (k := f) (v := (s.mac m.val).seq) (w := u.rxStamp m.val cap) (hone.of_counted hu hmem hclk) hz
      ((State.on_of_rd (hu.rd_ring (k := 0x1004) (by decide) rfl)).trans hring) ((State.on_of_rd (hu.rd_port (k := 0) (by decide) rfl)).trans hstrip)
      ((State.on_of_rd (hu.rd_ring (k := 0x1004) (by decide) rfl)).trans hvlan)
      (by rw [State.maxlen_congr (hu.rd_port (k := 0x14) (by decide) rfl)]; exact hmax)
      (by rw [State.bufBytes_congr (hu.rd_ring (k := 0x1008) (by decide) rfl)]; exact hlen) hb1 hb2
    rw [hts, hstamp] at htmem
    have hgroup : b2n (isGroup bs) ≤ 1 := by cases isGroup bs <;> decide
    obtain ⟨h1, h2, h3, h4, h5⟩ := State.stored_reads (htmem.trans (State.returned_mem (State.setBytes_mem hmem))) hdis (by omega) (by omega)
    refine ⟨t, hx.trans (congrArg Host.Outcome.next ((State.delivered_some ((State.steer_congr hu).trans hst)).trans ht)), h1, ?_, h3, fun hen => ?_, hhead, ?_, h5⟩
    · rw [h2]
      omega
    · rw [h4 _ (if_pos hen), Nat.mod_eq_of_lt State.rxStamp_lt]
    · rw [hok, hu.rd (besideTally_of (k := 0x204) (by decide))]
  · have hmac : (s.atRaw n).mac m.val = s.mac m.val := State.mac_congr State.atRaw_macs
    have hfree : (s.atRaw n).isPaused m.val = false := decide_eq_false (by rw [hmac]; exact Nat.not_lt.mpr hp)
    refine congrArg Host.Outcome.next ((if_neg ?_).trans (by rw [hmac]))
    rw [State.gated_atRaw, hg, hfree]
    exact Bool.false_ne_true
  · have hheld : (s.atRaw n).isPaused m.val = true := decide_eq_true (by rw [State.mac_congr State.atRaw_macs]; exact hp)
    refine congrArg Host.Outcome.next (if_pos ?_)
    rw [hheld, Bool.or_true]

end Sys2Proof.Machine
end
